-- ==== Sys2Proof/Word.lean ====
section
/-! DEFINITION. The plain word types of the model and their simplest arithmetic. -/

namespace Sys2Proof

/-- One byte of a frame, a record or a memory. -/
abbrev Byte := BitVec 8

/-- A register of the hub is 32 bits wide (R16). -/
abbrev Word := BitVec 32

/-- Two's-complement value of the low `w` bits of `n`. -/
def signed (w n : Nat) : Int :=
  let m := n % 2 ^ w
  if m < 2 ^ (w - 1) then (m : Int) else (m : Int) - (2 ^ w : Nat)

/-- The low `w` bits of an integer, as a natural number. -/
def wrapInt (w : Nat) (z : Int) : Nat := (z % ((2 ^ w : Nat) : Int)).toNat

/-- Bit `b` of `n`. -/
def bitOf (n b : Nat) : Bool := n / 2 ^ b % 2 == 1

/-- `n` with bit `b` set. -/
def setBit (n b : Nat) : Nat := if bitOf n b then n else n + 2 ^ b

/-- `n` with bit `b` clear. -/
def clearBit (n b : Nat) : Nat := if bitOf n b then n - 2 ^ b else n

/-- One for true, zero for false: how a BOOL stands in a register or object. -/
def ofBool (b : Bool) : Nat := if b then 1 else 0

/-- A count that stops at its largest value. -/
def satAdd (top a b : Nat) : Nat := min top (a + b)

end Sys2Proof
end

