-- ==== Sys2Proof/Machine/Objects.lean ====
section
/-! DEFINITION. The object table: one `ObjDef` per entry of the dictionary tables of the spec's chapters
(type, access codes, default, persistence, stated range and length), after R375 of 12_dictionary_ports.md.
An `ObjDef` may stand for a run of indices and subindices, as the tables' 0x61ss and .01–.20 do. -/

namespace Sys2Proof.Machine

/-- Types of dictionary values, R375. -/
inductive ObjTy
  | bool | u8 | u16 | u32 | u64 | i8 | i16 | i32 | i64 | f32 | f64 | q15 | time | str | blob
  deriving DecidableEq, Repr

/-- A dictionary value: a number, as the bits of its type, or the bytes of a STR, BLOB or TIME. -/
inductive Val
  | num (n : Nat)
  | bytes (b : List Byte)
  deriving DecidableEq, Repr

/-- One row of an object table. -/
structure ObjDef where
  /-- Name of the object. -/
  name : String
  /-- First index. -/
  base : Nat
  /-- How many indices the row covers. -/
  n : Nat
  /-- First subindex. -/
  sub : Nat
  /-- How many subindices the row covers. -/
  ns : Nat
  /-- Type. -/
  ty : ObjTy
  /-- Rights of BRIDGE, ENGINEERING, PEER, FIELD, SAFETY, MAINT: 0 none, 1 r, 2 w, 3 o. -/
  acc : List Nat
  /-- Default, as the bits of the type. -/
  dflt : Nat
  /-- Defaults by index, where they differ from one index to the next. -/
  alts : List Nat
  /-- Default bytes of a STR. -/
  dfltStr : String
  /-- Kept in Cask (R377). -/
  persist : Bool
  /-- Least value the table allows. -/
  lo : Option Rat
  /-- Greatest value the table allows. -/
  hi : Option Rat
  /-- Least length, greatest length and entry size of a STR or BLOB (R376). -/
  len : Nat × Nat × Nat
  /-- Unit. -/
  unit : String
  deriving DecidableEq, Repr

/-- The dictionary key of an entry: index times 256 plus subindex. -/
def ObjDef.key (o : ObjDef) (i k : Nat) : Nat := (o.base + i) * 256 + o.sub + k

namespace Obj

def ID_VENDOR_NAME : ObjDef := ⟨"VENDOR_NAME", 0x1000, 1, 0x01, 1, .str, [1, 1, 1, 1, 1, 1], 0, [], "Xofaros", false, none, none, (0, 255, 1), ""⟩
def ID_DEVICE_NAME : ObjDef := ⟨"DEVICE_NAME", 0x1000, 1, 0x02, 1, .str, [1, 1, 1, 1, 1, 1], 0, [], "XZ-7264", false, none, none, (0, 255, 1), ""⟩
def ID_IDCODE : ObjDef := ⟨"IDCODE", 0x1000, 1, 0x03, 1, .u32, [1, 1, 1, 1, 1, 1], 561144912, [], "", false, none, none, (0, 0, 1), ""⟩
def ID_STEPPING : ObjDef := ⟨"STEPPING", 0x1000, 1, 0x04, 1, .str, [1, 1, 1, 1, 1, 1], 0, [], "B1", false, none, none, (0, 255, 1), ""⟩
def ID_SERIAL : ObjDef := ⟨"SERIAL", 0x1000, 1, 0x05, 1, .u64, [1, 1, 1, 1, 1, 1], 0, [], "", false, none, none, (0, 0, 1), ""⟩
def ID_ORDERING_CODE : ObjDef := ⟨"ORDERING_CODE", 0x1000, 1, 0x06, 1, .str, [1, 1, 1, 1, 1, 1], 0, [], "", false, none, none, (0, 255, 1), ""⟩
def NODE_ROLE : ObjDef := ⟨"ROLE", 0x1001, 1, 0x01, 1, .u8, [1, 1, 1, 1, 1, 1], 0, [], "", false, none, none, (0, 0, 1), ""⟩
def NODE_NODE_ID : ObjDef := ⟨"NODE_ID", 0x1001, 1, 0x02, 1, .u16, [1, 2, 1, 1, 1, 1], 0, [], "", true, some 0, some 16383, (0, 0, 1), ""⟩
def NODE_NODE_ID_VALID : ObjDef := ⟨"NODE_ID_VALID", 0x1001, 1, 0x03, 1, .bool, [1, 1, 1, 1, 1, 1], 0, [], "", false, none, none, (0, 0, 1), ""⟩
def NODE_ROLE_FAULT : ObjDef := ⟨"ROLE_FAULT", 0x1001, 1, 0x04, 1, .bool, [1, 1, 1, 1, 1, 1], 0, [], "", false, none, none, (0, 0, 1), ""⟩
def NODE_NODE_ID_ACTIVE : ObjDef := ⟨"NODE_ID_ACTIVE", 0x1001, 1, 0x05, 1, .u16, [1, 1, 1, 1, 1, 1], 0, [], "", false, none, none, (0, 0, 1), ""⟩
def PHASE_EST_OFFSET : ObjDef := ⟨"EST_OFFSET", 0xA850, 1, 0x01, 1, .u16, [1, 2, 1, 0, 1, 1], 0, [], "", true, some 0, some 20, (0, 0, 1), "ms"⟩
def PHASE_EST_DEADLINE : ObjDef := ⟨"EST_DEADLINE", 0xA850, 1, 0x02, 1, .u16, [1, 2, 1, 0, 1, 1], 40, [], "", true, some 20, some 80, (0, 0, 1), "ms"⟩
def PHASE_PLAN_RELEASE : ObjDef := ⟨"PLAN_RELEASE", 0xA850, 1, 0x03, 1, .u16, [1, 2, 1, 0, 1, 1], 50, [], "", true, some 20, some 200, (0, 0, 1), "ms"⟩
def PHASE_PLAN_DEADLINE : ObjDef := ⟨"PLAN_DEADLINE", 0xA850, 1, 0x04, 1, .u16, [1, 2, 1, 0, 1, 1], 430, [], "", true, some 200, some 460, (0, 0, 1), "ms"⟩
def PHASE_VOTE_END : ObjDef := ⟨"VOTE_END", 0xA850, 1, 0x05, 1, .u16, [1, 2, 1, 0, 1, 1], 470, [], "", true, some 220, some 490, (0, 0, 1), "ms"⟩
def PHASE_VIS_RELEASE : ObjDef := ⟨"VIS_RELEASE", 0xA850, 1, 0x06, 1, .u16, [1, 2, 1, 0, 1, 1], 60, [], "", true, some 0, some 500, (0, 0, 1), "ms"⟩
def PHASE_VIS_DEADLINE : ObjDef := ⟨"VIS_DEADLINE", 0xA850, 1, 0x07, 1, .u16, [1, 2, 1, 0, 1, 1], 900, [], "", true, some 300, some 950, (0, 0, 1), "ms"⟩
def PHASE_CA_RELEASE : ObjDef := ⟨"CA_RELEASE", 0xA850, 1, 0x08, 1, .u16, [1, 2, 1, 0, 1, 1], 60, [], "", true, some 0, some 1000, (0, 0, 1), "ms"⟩
def PHASE_CA_DEADLINE : ObjDef := ⟨"CA_DEADLINE", 0xA850, 1, 0x09, 1, .u32, [1, 2, 1, 0, 1, 1], 9800, [], "", true, some 5000, some 9900, (0, 0, 1), "ms"⟩
def PHASE_PHASE_STATE : ObjDef := ⟨"PHASE_STATE", 0xA850, 1, 0x0A, 1, .u8, [1, 1, 1, 1, 1, 1], 0, [], "", false, none, none, (0, 0, 1), ""⟩
def PHASE_PHASE_MISMATCH : ObjDef := ⟨"PHASE_MISMATCH", 0xA850, 1, 0x0B, 1, .bool, [1, 1, 1, 1, 1, 1], 0, [], "", false, none, none, (0, 0, 1), ""⟩
def GAUGE_VCORE_NOW : ObjDef := ⟨"VCORE_NOW", 0xA800, 1, 0x01, 1, .f32, [1, 1, 1, 0, 1, 1], 0, [], "", false, none, none, (0, 0, 1), "V"⟩
def GAUGE_VCORE_MIN : ObjDef := ⟨"VCORE_MIN", 0xA800, 1, 0x02, 1, .f32, [1, 1, 1, 0, 1, 1], 0, [], "", false, none, none, (0, 0, 1), "V"⟩
def GAUGE_DIP_ACTIVE : ObjDef := ⟨"DIP_ACTIVE", 0xA800, 1, 0x03, 1, .bool, [1, 1, 1, 1, 1, 1], 0, [], "", false, none, none, (0, 0, 1), ""⟩
def GAUGE_DIP_COUNT : ObjDef := ⟨"DIP_COUNT", 0xA800, 1, 0x04, 1, .u32, [1, 1, 1, 0, 1, 1], 0, [], "", false, none, none, (0, 0, 1), ""⟩
def GAUGE_LAST_DIP : ObjDef := ⟨"LAST_DIP", 0xA800, 1, 0x05, 1, .u32, [1, 1, 1, 0, 1, 1], 0, [], "", false, none, none, (0, 0, 1), "ms"⟩
def GAUGE_LONGEST_DIP : ObjDef := ⟨"LONGEST_DIP", 0xA800, 1, 0x06, 1, .u32, [1, 1, 1, 0, 1, 1], 0, [], "", false, none, none, (0, 0, 1), "ms"⟩
def GAUGE_HUB_MEASURED : ObjDef := ⟨"HUB_MEASURED", 0xA800, 1, 0x07, 1, .f32, [1, 1, 1, 0, 1, 1], 0, [], "", false, none, none, (0, 0, 1), ""⟩
def GAUGE_HUB_FLOOR : ObjDef := ⟨"HUB_FLOOR", 0xA800, 1, 0x08, 1, .f32, [1, 1, 1, 0, 1, 1], 0, [], "", false, none, none, (0, 0, 1), ""⟩
def GAUGE_HUB_DIP : ObjDef := ⟨"HUB_DIP", 0xA800, 1, 0x09, 1, .f32, [1, 1, 1, 0, 1, 1], 0, [], "", false, none, none, (0, 0, 1), ""⟩
def GAUGE_TEMP_HIGH : ObjDef := ⟨"TEMP_HIGH", 0xA800, 1, 0x0A, 1, .bool, [1, 1, 1, 1, 1, 1], 0, [], "", false, none, none, (0, 0, 1), ""⟩
def G_TILE_MEASURED : ObjDef := ⟨"TILE_MEASURED", 0xA801, 1, 0x01, 32, .f32, [1, 1, 1, 0, 1, 1], 0, [], "", false, none, none, (0, 0, 1), ""⟩
def G_TILE_FLOOR : ObjDef := ⟨"TILE_FLOOR", 0xA802, 1, 0x01, 32, .f32, [1, 1, 1, 0, 1, 1], 0, [], "", false, none, none, (0, 0, 1), ""⟩
def G_TILE_DIP : ObjDef := ⟨"TILE_DIP", 0xA803, 1, 0x01, 32, .f32, [1, 1, 1, 0, 1, 1], 0, [], "", false, none, none, (0, 0, 1), ""⟩
def G_TILE_AGE : ObjDef := ⟨"TILE_AGE", 0xA804, 1, 0x01, 32, .f32, [1, 1, 1, 0, 1, 1], 0, [], "", false, none, none, (0, 0, 1), ""⟩
def G_TILE_TEMP : ObjDef := ⟨"TILE_TEMP", 0xA805, 1, 0x01, 32, .f32, [1, 1, 1, 0, 1, 1], 0, [], "", false, none, none, (0, 0, 1), "°C"⟩
def G_TILE_GAUGE_FLAGS : ObjDef := ⟨"TILE_GAUGE_FLAGS", 0xA806, 1, 0x01, 32, .u8, [1, 1, 1, 0, 1, 1], 0, [], "", false, none, none, (0, 0, 1), ""⟩
def G_TILE_A_B : ObjDef := ⟨"TILE_A_B", 0xA807, 1, 0x01, 32, .f32, [1, 1, 1, 0, 1, 1], 1028443341, [], "", false, none, none, (0, 0, 1), ""⟩
def G_TILE_A_H : ObjDef := ⟨"TILE_A_H", 0xA808, 1, 0x01, 32, .f32, [1, 1, 1, 0, 1, 1], 1003814388, [], "", false, none, none, (0, 0, 1), ""⟩
def KILN_KILN_MARGIN : ObjDef := ⟨"KILN_MARGIN", 0xA809, 1, 0x01, 1, .f32, [1, 1, 1, 0, 1, 1], 1112014848, [], "", false, none, none, (0, 0, 1), "year"⟩
def KILN_KILN_WARN_YEARS : ObjDef := ⟨"KILN_WARN_YEARS", 0xA809, 1, 0x02, 1, .f32, [1, 2, 1, 0, 1, 1], 1084227584, [], "", true, some 1, some 10, (0, 0, 1), "year"⟩
def KILN_KILN_URGENT_YEARS : ObjDef := ⟨"KILN_URGENT_YEARS", 0xA809, 1, 0x03, 1, .f32, [1, 2, 1, 0, 1, 1], 1065353216, [], "", true, some (1 / 4), some 5, (0, 0, 1), "year"⟩
def KILN_CAPACITY_NOW : ObjDef := ⟨"CAPACITY_NOW", 0xA809, 1, 0x04, 1, .f32, [1, 1, 1, 0, 1, 1], 0, [], "", false, none, none, (0, 0, 1), "GFLOP/s"⟩
def KILN_CAPACITY_20Y : ObjDef := ⟨"CAPACITY_20Y", 0xA809, 1, 0x05, 1, .f32, [1, 1, 1, 0, 1, 1], 0, [], "", false, none, none, (0, 0, 1), "GFLOP/s"⟩
def KILN_REQUIRED : ObjDef := ⟨"REQUIRED", 0xA809, 1, 0x06, 1, .f32, [1, 1, 1, 0, 1, 1], 1139965952, [], "", false, none, none, (0, 0, 1), "GFLOP/s"⟩
def KILN_KILN_STATE : ObjDef := ⟨"KILN_STATE", 0xA809, 1, 0x07, 1, .u8, [1, 1, 1, 0, 1, 1], 0, [], "", false, none, none, (0, 0, 1), ""⟩
def GRIST_REQ_CLASS0 : ObjDef := ⟨"REQ_CLASS0", 0xA810, 1, 0x01, 1, .f32, [1, 1, 1, 0, 1, 1], 1109393408, [], "", false, none, none, (0, 0, 1), "GFLOP/s"⟩
def GRIST_REQ_CLASS1 : ObjDef := ⟨"REQ_CLASS1", 0xA810, 1, 0x02, 1, .f32, [1, 1, 1, 0, 1, 1], 1132199936, [], "", false, none, none, (0, 0, 1), "GFLOP/s"⟩
def GRIST_REQ_CLASS2 : ObjDef := ⟨"REQ_CLASS2", 0xA810, 1, 0x03, 1, .f32, [1, 1, 1, 0, 1, 1], 1106247680, [], "", false, none, none, (0, 0, 1), "GFLOP/s"⟩
def GRIST_REQ_CLASS3 : ObjDef := ⟨"REQ_CLASS3", 0xA810, 1, 0x04, 1, .f32, [1, 1, 1, 0, 1, 1], 1122107392, [], "", false, none, none, (0, 0, 1), "GFLOP/s"⟩
def GRIST_GENERAL_REQ : ObjDef := ⟨"GENERAL_REQ", 0xA810, 1, 0x05, 1, .f32, [1, 2, 1, 0, 1, 1], 1112014848, [], "", true, some 10, some 50, (0, 0, 1), "GFLOP/s"⟩
def GRIST_PLAN_MIN_REQ : ObjDef := ⟨"PLAN_MIN_REQ", 0xA810, 1, 0x06, 1, .f32, [1, 1, 1, 0, 1, 1], 1115422720, [], "", false, none, none, (0, 0, 1), "GFLOP/s"⟩
def GRIST_TABLE_GEN : ObjDef := ⟨"TABLE_GEN", 0xA810, 1, 0x07, 1, .u16, [1, 1, 1, 0, 1, 1], 0, [], "", false, none, none, (0, 0, 1), ""⟩
def GRIST_SHED : ObjDef := ⟨"SHED", 0xA810, 1, 0x08, 1, .u8, [1, 1, 1, 1, 1, 1], 0, [], "", false, none, none, (0, 0, 1), ""⟩
def GRIST_U_MAX : ObjDef := ⟨"U_MAX", 0xA810, 1, 0x09, 1, .f32, [1, 1, 1, 0, 1, 1], 1064011039, [], "", false, none, none, (0, 0, 1), ""⟩
def GRIST_CONTEXTS_USED : ObjDef := ⟨"CONTEXTS_USED", 0xA810, 1, 0x0A, 1, .u8, [1, 1, 1, 0, 1, 1], 0, [], "", false, none, none, (0, 0, 1), ""⟩
def GRIST_OPS_RESERVED : ObjDef := ⟨"OPS_RESERVED", 0xA810, 1, 0x0B, 1, .u16, [1, 1, 1, 0, 1, 1], 0, [], "", false, none, none, (0, 0, 1), ""⟩
def GRIST_READY : ObjDef := ⟨"READY", 0xA810, 1, 0x0C, 1, .bool, [1, 1, 1, 1, 1, 1], 0, [], "", false, none, none, (0, 0, 1), ""⟩
def GRIST_GRANT_CLASS : ObjDef := ⟨"GRANT_CLASS", 0xA811, 1, 0x01, 5, .f32, [1, 1, 1, 0, 1, 1], 0, [], "", false, none, none, (0, 0, 1), "GFLOP/s"⟩
def GRIST_REFUSED_BY_REASON : ObjDef := ⟨"REFUSED_BY_REASON", 0xA812, 1, 0x01, 11, .u32, [1, 1, 1, 0, 1, 1], 0, [], "", false, none, none, (0, 0, 1), ""⟩
def VM_MASS : ObjDef := ⟨"MASS", 0x2001, 1, 0x01, 9, .f64, [1, 2, 1, 0, 1, 1], 0, [], "", true, none, none, (0, 0, 1), "kg, kg·m, kg·m²"⟩
def VM_DAMP_LIN : ObjDef := ⟨"DAMP_LIN", 0x2002, 1, 0x01, 9, .f64, [1, 2, 1, 0, 1, 1], 0, [], "", true, none, none, (0, 0, 1), "N·s/m etc."⟩
def VM_DAMP_QU : ObjDef := ⟨"DAMP_QU", 0x2003, 1, 0x01, 1, .f64, [1, 2, 1, 0, 1, 1], 0, [], "", true, none, none, (0, 0, 1), "N·s²/m² etc."⟩
def VM_DAMP_QV : ObjDef := ⟨"DAMP_QV", 0x2003, 1, 0x02, 1, .f64, [1, 2, 1, 0, 1, 1], 0, [], "", true, none, none, (0, 0, 1), "N·s²/m² etc."⟩
def VM_DAMP_QR : ObjDef := ⟨"DAMP_QR", 0x2003, 1, 0x03, 1, .f64, [1, 2, 1, 0, 1, 1], 0, [], "", true, none, none, (0, 0, 1), "N·s²/m² etc."⟩
def VM_WIND_TABLE : ObjDef := ⟨"WIND_TABLE", 0x2004, 1, 0x01, 1, .blob, [1, 2, 1, 0, 1, 1], 0, [], "", true, none, none, (432, 432, 1), ""⟩
def VM_WIND_AF : ObjDef := ⟨"WIND_AF", 0x2004, 1, 0x02, 1, .f32, [1, 2, 1, 0, 1, 1], 0, [], "", true, none, none, (0, 0, 1), "m²"⟩
def VM_WIND_AL : ObjDef := ⟨"WIND_AL", 0x2004, 1, 0x03, 1, .f32, [1, 2, 1, 0, 1, 1], 0, [], "", true, none, none, (0, 0, 1), "m²"⟩
def VM_WIND_L : ObjDef := ⟨"WIND_L", 0x2004, 1, 0x04, 1, .f32, [1, 2, 1, 0, 1, 1], 0, [], "", true, none, none, (0, 0, 1), "m"⟩
def VM_WIND_RHO : ObjDef := ⟨"WIND_RHO", 0x2004, 1, 0x05, 1, .f32, [1, 2, 1, 0, 1, 1], 1067249041, [], "", true, none, none, (0, 0, 1), "kg/m³"⟩
def EST_HUBER_K : ObjDef := ⟨"HUBER_K", 0x3000, 1, 0x01, 1, .f32, [1, 2, 1, 0, 1, 1], 1073741824, [], "", true, some 1, some 5, (0, 0, 1), ""⟩
def EST_REJECT_LIMIT : ObjDef := ⟨"REJECT_LIMIT", 0x3000, 1, 0x02, 1, .f32, [1, 2, 1, 0, 1, 1], 1082130432, [], "", true, some 2, some 20, (0, 0, 1), ""⟩
def EST_ACCEPT_LIMIT : ObjDef := ⟨"ACCEPT_LIMIT", 0x3000, 1, 0x03, 1, .f32, [1, 2, 1, 0, 1, 1], 1073741824, [], "", true, none, none, (0, 0, 1), ""⟩
def EST_VOTE_SPAN : ObjDef := ⟨"VOTE_SPAN", 0x3000, 1, 0x04, 1, .f32, [1, 2, 1, 0, 1, 1], 1092616192, [], "", true, some 2, some 30, (0, 0, 1), "s"⟩
def EST_REJECT_CYCLES : ObjDef := ⟨"REJECT_CYCLES", 0x3000, 1, 0x05, 1, .u8, [1, 2, 1, 0, 1, 1], 3, [], "", true, some 1, some 50, (0, 0, 1), ""⟩
def EST_RETURN_CYCLES : ObjDef := ⟨"RETURN_CYCLES", 0x3000, 1, 0x06, 1, .u16, [1, 2, 1, 0, 1, 1], 50, [], "", true, some 10, some 600, (0, 0, 1), ""⟩
def EST_CHUNK : ObjDef := ⟨"CHUNK", 0x3000, 1, 0x07, 1, .u16, [1, 2, 1, 0, 1, 1], 100, [], "", true, some 20, some 150, (0, 0, 1), "stage"⟩
def EST_REINIT_LIMIT : ObjDef := ⟨"REINIT_LIMIT", 0x3000, 1, 0x08, 1, .f32, [1, 2, 1, 0, 1, 1], 1101004800, [], "", true, some 10, some 100, (0, 0, 1), ""⟩
def EST_DATUM_LAT : ObjDef := ⟨"DATUM_LAT", 0x3000, 1, 0x09, 1, .f64, [1, 1, 1, 0, 1, 1], 0, [], "", true, none, none, (0, 0, 1), "rad"⟩
def EST_DATUM_LON : ObjDef := ⟨"DATUM_LON", 0x3000, 1, 0x0A, 1, .f64, [1, 1, 1, 0, 1, 1], 0, [], "", true, none, none, (0, 0, 1), "rad"⟩
def EST_WF_OMEGA0 : ObjDef := ⟨"WF_OMEGA0", 0x3000, 1, 0x0B, 1, .f32, [1, 2, 1, 0, 1, 1], 1061997773, [], "", true, some (3 / 10), some (13 / 10), (0, 0, 1), "rad/s"⟩
def EST_WF_ZETA : ObjDef := ⟨"WF_ZETA", 0x3000, 1, 0x0C, 1, .f32, [1, 2, 1, 0, 1, 1], 1036831949, [], "", true, some (1 / 100), some (1 / 2), (0, 0, 1), ""⟩
def EST_WF_AUTO : ObjDef := ⟨"WF_AUTO", 0x3000, 1, 0x0D, 1, .bool, [1, 2, 1, 0, 1, 1], 1, [], "", true, none, none, (0, 0, 1), ""⟩
def EST_CONFIG_SIG : ObjDef := ⟨"CONFIG_SIG", 0x3000, 1, 0x0E, 1, .u32, [1, 1, 1, 0, 1, 1], 0, [], "", false, none, none, (0, 0, 1), ""⟩
def EST_EST_STATE : ObjDef := ⟨"EST_STATE", 0x3000, 1, 0x0F, 1, .u8, [1, 1, 1, 1, 1, 1], 0, [], "", false, none, none, (0, 0, 1), ""⟩
def EST_HEAD_REJECT : ObjDef := ⟨"HEAD_REJECT", 0x3000, 1, 0x10, 1, .f32, [1, 2, 1, 0, 1, 1], 1082130432, [], "", true, none, none, (0, 0, 1), ""⟩
def EST_HEAD_ACCEPT : ObjDef := ⟨"HEAD_ACCEPT", 0x3000, 1, 0x11, 1, .f32, [1, 2, 1, 0, 1, 1], 1073741824, [], "", true, none, none, (0, 0, 1), ""⟩
def EST_HEAD_CYCLES : ObjDef := ⟨"HEAD_CYCLES", 0x3000, 1, 0x12, 1, .u8, [1, 2, 1, 0, 1, 1], 3, [], "", true, none, none, (0, 0, 1), ""⟩
def EST_DATUM_ORDER : ObjDef := ⟨"DATUM_ORDER", 0x3000, 1, 0x13, 1, .blob, [3, 3, 1, 0, 1, 1], 0, [], "", false, none, none, (16, 16, 1), "rad"⟩
def EST_DATUM_SHIFT : ObjDef := ⟨"DATUM_SHIFT", 0x3000, 1, 0x14, 1, .blob, [1, 1, 1, 1, 1, 1], 0, [], "", false, none, none, (0, 4096, 1), "m"⟩
def EST_NOISE0 : ObjDef := ⟨"NOISE0", 0x3001, 1, 0x01, 1, .f32, [1, 2, 1, 0, 1, 1], 1017370378, [], "", true, none, none, (0, 0, 1), "per R125"⟩
def EST_NOISE1 : ObjDef := ⟨"NOISE1", 0x3001, 1, 0x02, 1, .f32, [1, 2, 1, 0, 1, 1], 981668463, [], "", true, none, none, (0, 0, 1), "per R125"⟩
def EST_NOISE2 : ObjDef := ⟨"NOISE2", 0x3001, 1, 0x03, 1, .f32, [1, 2, 1, 0, 1, 1], 990057071, [], "", true, none, none, (0, 0, 1), "per R125"⟩
def EST_NOISE3 : ObjDef := ⟨"NOISE3", 0x3001, 1, 0x04, 1, .f32, [1, 2, 1, 0, 1, 1], 953267991, [], "", true, none, none, (0, 0, 1), "per R125"⟩
def EST_NOISE4 : ObjDef := ⟨"NOISE4", 0x3001, 1, 0x05, 1, .f32, [1, 2, 1, 0, 1, 1], 1036831949, [], "", true, none, none, (0, 0, 1), "per R125"⟩
def EST_NOISE5 : ObjDef := ⟨"NOISE5", 0x3001, 1, 0x06, 1, .f32, [1, 2, 1, 0, 1, 1], 1000593162, [], "", true, none, none, (0, 0, 1), "per R125"⟩
def EST_NOISE6 : ObjDef := ⟨"NOISE6", 0x3001, 1, 0x07, 1, .f32, [1, 2, 1, 0, 1, 1], 1008981770, [], "", true, none, none, (0, 0, 1), "per R125"⟩
def EST_NOISE7 : ObjDef := ⟨"NOISE7", 0x3001, 1, 0x08, 1, .f32, [1, 2, 1, 0, 1, 1], 973279855, [], "", true, none, none, (0, 0, 1), "per R125"⟩
def PS_ENABLE : ObjDef := ⟨"ENABLE", 0x3100, 24, 0x01, 1, .bool, [3, 3, 1, 0, 1, 1], 0, [], "", true, none, none, (0, 0, 1), ""⟩
def HD_ENABLE : ObjDef := ⟨"ENABLE", 0x3120, 6, 0x01, 1, .bool, [3, 3, 1, 0, 1, 1], 0, [], "", true, none, none, (0, 0, 1), ""⟩
def MU_ENABLE : ObjDef := ⟨"ENABLE", 0x3130, 4, 0x01, 1, .bool, [3, 3, 1, 0, 1, 1], 0, [], "", true, none, none, (0, 0, 1), ""⟩
def WS_ENABLE : ObjDef := ⟨"ENABLE", 0x3140, 4, 0x01, 1, .bool, [3, 3, 1, 0, 1, 1], 0, [], "", true, none, none, (0, 0, 1), ""⟩
def PS_KIND : ObjDef := ⟨"KIND", 0x3100, 24, 0x02, 1, .u8, [1, 2, 1, 0, 1, 1], 0, [], "", true, none, none, (0, 0, 1), ""⟩
def HD_KIND : ObjDef := ⟨"KIND", 0x3120, 6, 0x02, 1, .u8, [1, 2, 1, 0, 1, 1], 0, [], "", true, none, none, (0, 0, 1), ""⟩
def MU_KIND : ObjDef := ⟨"KIND", 0x3130, 4, 0x02, 1, .u8, [1, 2, 1, 0, 1, 1], 0, [], "", true, none, none, (0, 0, 1), ""⟩
def WS_KIND : ObjDef := ⟨"KIND", 0x3140, 4, 0x02, 1, .u8, [1, 2, 1, 0, 1, 1], 0, [], "", true, none, none, (0, 0, 1), ""⟩
def PS_LEVER_X : ObjDef := ⟨"LEVER_X", 0x3100, 24, 0x03, 1, .f32, [1, 2, 1, 0, 1, 1], 0, [], "", true, none, none, (0, 0, 1), "m"⟩
def PS_LEVER_Y : ObjDef := ⟨"LEVER_Y", 0x3100, 24, 0x04, 1, .f32, [1, 2, 1, 0, 1, 1], 0, [], "", true, none, none, (0, 0, 1), "m"⟩
def PS_LEVER_Z : ObjDef := ⟨"LEVER_Z", 0x3100, 24, 0x05, 1, .f32, [1, 2, 1, 0, 1, 1], 0, [], "", true, none, none, (0, 0, 1), "m"⟩
def HD_LEVER_X : ObjDef := ⟨"LEVER_X", 0x3120, 6, 0x03, 1, .f32, [1, 2, 1, 0, 1, 1], 0, [], "", true, none, none, (0, 0, 1), "m"⟩
def HD_LEVER_Y : ObjDef := ⟨"LEVER_Y", 0x3120, 6, 0x04, 1, .f32, [1, 2, 1, 0, 1, 1], 0, [], "", true, none, none, (0, 0, 1), "m"⟩
def HD_LEVER_Z : ObjDef := ⟨"LEVER_Z", 0x3120, 6, 0x05, 1, .f32, [1, 2, 1, 0, 1, 1], 0, [], "", true, none, none, (0, 0, 1), "m"⟩
def MU_LEVER_X : ObjDef := ⟨"LEVER_X", 0x3130, 4, 0x03, 1, .f32, [1, 2, 1, 0, 1, 1], 0, [], "", true, none, none, (0, 0, 1), "m"⟩
def MU_LEVER_Y : ObjDef := ⟨"LEVER_Y", 0x3130, 4, 0x04, 1, .f32, [1, 2, 1, 0, 1, 1], 0, [], "", true, none, none, (0, 0, 1), "m"⟩
def MU_LEVER_Z : ObjDef := ⟨"LEVER_Z", 0x3130, 4, 0x05, 1, .f32, [1, 2, 1, 0, 1, 1], 0, [], "", true, none, none, (0, 0, 1), "m"⟩
def WS_LEVER_X : ObjDef := ⟨"LEVER_X", 0x3140, 4, 0x03, 1, .f32, [1, 2, 1, 0, 1, 1], 0, [], "", true, none, none, (0, 0, 1), "m"⟩
def WS_LEVER_Y : ObjDef := ⟨"LEVER_Y", 0x3140, 4, 0x04, 1, .f32, [1, 2, 1, 0, 1, 1], 0, [], "", true, none, none, (0, 0, 1), "m"⟩
def WS_LEVER_Z : ObjDef := ⟨"LEVER_Z", 0x3140, 4, 0x05, 1, .f32, [1, 2, 1, 0, 1, 1], 0, [], "", true, none, none, (0, 0, 1), "m"⟩
def PS_SIGMA : ObjDef := ⟨"SIGMA", 0x3100, 24, 0x06, 1, .f32, [1, 2, 1, 0, 1, 1], 1065353216, [], "", true, none, none, (0, 0, 1), "m or rad"⟩
def HD_SIGMA : ObjDef := ⟨"SIGMA", 0x3120, 6, 0x06, 1, .f32, [1, 2, 1, 0, 1, 1], 1065353216, [], "", true, none, none, (0, 0, 1), "m or rad"⟩
def MU_SIGMA : ObjDef := ⟨"SIGMA", 0x3130, 4, 0x06, 1, .f32, [1, 2, 1, 0, 1, 1], 1065353216, [], "", true, none, none, (0, 0, 1), "m or rad"⟩
def WS_SIGMA : ObjDef := ⟨"SIGMA", 0x3140, 4, 0x06, 1, .f32, [1, 2, 1, 0, 1, 1], 1065353216, [], "", true, none, none, (0, 0, 1), "m or rad"⟩
def PS_TIMEOUT : ObjDef := ⟨"TIMEOUT", 0x3100, 24, 0x07, 1, .f32, [1, 2, 1, 0, 1, 1], 1073741824, [], "", true, some (1 / 5), some 30, (0, 0, 1), "s"⟩
def HD_TIMEOUT : ObjDef := ⟨"TIMEOUT", 0x3120, 6, 0x07, 1, .f32, [1, 2, 1, 0, 1, 1], 1073741824, [], "", true, some (1 / 5), some 30, (0, 0, 1), "s"⟩
def MU_TIMEOUT : ObjDef := ⟨"TIMEOUT", 0x3130, 4, 0x07, 1, .f32, [1, 2, 1, 0, 1, 1], 1073741824, [], "", true, some (1 / 5), some 30, (0, 0, 1), "s"⟩
def WS_TIMEOUT : ObjDef := ⟨"TIMEOUT", 0x3140, 4, 0x07, 1, .f32, [1, 2, 1, 0, 1, 1], 1073741824, [], "", true, some (1 / 5), some 30, (0, 0, 1), "s"⟩
def PS_BIAS_EST : ObjDef := ⟨"BIAS_EST", 0x3100, 24, 0x08, 1, .bool, [1, 2, 1, 0, 1, 1], 0, [], "", true, none, none, (0, 0, 1), ""⟩
def HD_BIAS_EST : ObjDef := ⟨"BIAS_EST", 0x3120, 6, 0x08, 1, .bool, [1, 2, 1, 0, 1, 1], 0, [], "", true, none, none, (0, 0, 1), ""⟩
def MU_BIAS_EST : ObjDef := ⟨"BIAS_EST", 0x3130, 4, 0x08, 1, .bool, [1, 2, 1, 0, 1, 1], 0, [], "", true, none, none, (0, 0, 1), ""⟩
def WS_BIAS_EST : ObjDef := ⟨"BIAS_EST", 0x3140, 4, 0x08, 1, .bool, [1, 2, 1, 0, 1, 1], 0, [], "", true, none, none, (0, 0, 1), ""⟩
def PS_ATT_COMP : ObjDef := ⟨"ATT_COMP", 0x3100, 24, 0x09, 1, .bool, [1, 2, 1, 0, 1, 1], 1, [], "", true, none, none, (0, 0, 1), ""⟩
def HD_ATT_COMP : ObjDef := ⟨"ATT_COMP", 0x3120, 6, 0x09, 1, .bool, [1, 2, 1, 0, 1, 1], 1, [], "", true, none, none, (0, 0, 1), ""⟩
def MU_ATT_COMP : ObjDef := ⟨"ATT_COMP", 0x3130, 4, 0x09, 1, .bool, [1, 2, 1, 0, 1, 1], 1, [], "", true, none, none, (0, 0, 1), ""⟩
def WS_ATT_COMP : ObjDef := ⟨"ATT_COMP", 0x3140, 4, 0x09, 1, .bool, [1, 2, 1, 0, 1, 1], 1, [], "", true, none, none, (0, 0, 1), ""⟩
def PS_TARGET_N : ObjDef := ⟨"TARGET_N", 0x3100, 24, 0x0A, 1, .f64, [1, 2, 1, 0, 1, 1], 0, [], "", true, none, none, (0, 0, 1), "m"⟩
def PS_TARGET_E : ObjDef := ⟨"TARGET_E", 0x3100, 24, 0x0B, 1, .f64, [1, 2, 1, 0, 1, 1], 0, [], "", true, none, none, (0, 0, 1), "m"⟩
def HD_TARGET_N : ObjDef := ⟨"TARGET_N", 0x3120, 6, 0x0A, 1, .f64, [1, 2, 1, 0, 1, 1], 0, [], "", true, none, none, (0, 0, 1), "m"⟩
def HD_TARGET_E : ObjDef := ⟨"TARGET_E", 0x3120, 6, 0x0B, 1, .f64, [1, 2, 1, 0, 1, 1], 0, [], "", true, none, none, (0, 0, 1), "m"⟩
def MU_TARGET_N : ObjDef := ⟨"TARGET_N", 0x3130, 4, 0x0A, 1, .f64, [1, 2, 1, 0, 1, 1], 0, [], "", true, none, none, (0, 0, 1), "m"⟩
def MU_TARGET_E : ObjDef := ⟨"TARGET_E", 0x3130, 4, 0x0B, 1, .f64, [1, 2, 1, 0, 1, 1], 0, [], "", true, none, none, (0, 0, 1), "m"⟩
def WS_SHADOW_START : ObjDef := ⟨"SHADOW_START", 0x3140, 4, 0x0A, 1, .f32, [1, 2, 1, 0, 1, 1], 0, [], "", true, none, none, (0, 0, 1), "m"⟩
def WS_SHADOW_END : ObjDef := ⟨"SHADOW_END", 0x3140, 4, 0x0B, 1, .f32, [1, 2, 1, 0, 1, 1], 0, [], "", true, none, none, (0, 0, 1), "m"⟩
def PS_WIRE_DEPTH : ObjDef := ⟨"WIRE_DEPTH", 0x3100, 24, 0x0C, 1, .f32, [1, 2, 1, 0, 1, 1], 0, [], "", true, none, none, (0, 0, 1), "m"⟩
def HD_WIRE_DEPTH : ObjDef := ⟨"WIRE_DEPTH", 0x3120, 6, 0x0C, 1, .f32, [1, 2, 1, 0, 1, 1], 0, [], "", true, none, none, (0, 0, 1), "m"⟩
def MU_WIRE_DEPTH : ObjDef := ⟨"WIRE_DEPTH", 0x3130, 4, 0x0C, 1, .f32, [1, 2, 1, 0, 1, 1], 0, [], "", true, none, none, (0, 0, 1), "m"⟩
def WS_WIRE_DEPTH : ObjDef := ⟨"WIRE_DEPTH", 0x3140, 4, 0x0C, 1, .f32, [1, 2, 1, 0, 1, 1], 0, [], "", true, none, none, (0, 0, 1), "m"⟩
def PS_USE_QUALITY : ObjDef := ⟨"USE_QUALITY", 0x3100, 24, 0x0D, 1, .bool, [1, 2, 1, 0, 1, 1], 1, [], "", true, none, none, (0, 0, 1), ""⟩
def HD_USE_QUALITY : ObjDef := ⟨"USE_QUALITY", 0x3120, 6, 0x0D, 1, .bool, [1, 2, 1, 0, 1, 1], 1, [], "", true, none, none, (0, 0, 1), ""⟩
def MU_USE_QUALITY : ObjDef := ⟨"USE_QUALITY", 0x3130, 4, 0x0D, 1, .bool, [1, 2, 1, 0, 1, 1], 1, [], "", true, none, none, (0, 0, 1), ""⟩
def WS_USE_QUALITY : ObjDef := ⟨"USE_QUALITY", 0x3140, 4, 0x0D, 1, .bool, [1, 2, 1, 0, 1, 1], 1, [], "", true, none, none, (0, 0, 1), ""⟩
def PS_LAY_DOWN : ObjDef := ⟨"LAY_DOWN", 0x3100, 24, 0x0E, 1, .u8, [3, 3, 1, 0, 1, 1], 0, [], "", false, none, none, (0, 0, 1), ""⟩
def MU_MU_LIMIT : ObjDef := ⟨"MU_LIMIT", 0x3130, 4, 0x0E, 1, .f32, [1, 2, 1, 0, 1, 1], 1016028201, [], "", true, none, none, (0, 0, 1), ""⟩
def PS_STATUS : ObjDef := ⟨"STATUS", 0x3100, 24, 0x10, 1, .u8, [1, 1, 1, 1, 1, 1], 0, [], "", false, none, none, (0, 0, 1), ""⟩
def HD_STATUS : ObjDef := ⟨"STATUS", 0x3120, 6, 0x10, 1, .u8, [1, 1, 1, 1, 1, 1], 0, [], "", false, none, none, (0, 0, 1), ""⟩
def MU_STATUS : ObjDef := ⟨"STATUS", 0x3130, 4, 0x10, 1, .u8, [1, 1, 1, 1, 1, 1], 0, [], "", false, none, none, (0, 0, 1), ""⟩
def WS_STATUS : ObjDef := ⟨"STATUS", 0x3140, 4, 0x10, 1, .u8, [1, 1, 1, 1, 1, 1], 0, [], "", false, none, none, (0, 0, 1), ""⟩
def PS_RESID1 : ObjDef := ⟨"RESID1", 0x3100, 24, 0x11, 1, .f32, [1, 1, 1, 0, 1, 1], 0, [], "", false, none, none, (0, 0, 1), ""⟩
def PS_RESID2 : ObjDef := ⟨"RESID2", 0x3100, 24, 0x12, 1, .f32, [1, 1, 1, 0, 1, 1], 0, [], "", false, none, none, (0, 0, 1), ""⟩
def PS_NRES : ObjDef := ⟨"NRES", 0x3100, 24, 0x13, 1, .f32, [1, 1, 1, 0, 1, 1], 0, [], "", false, none, none, (0, 0, 1), ""⟩
def PS_MEAN_WEIGHT : ObjDef := ⟨"MEAN_WEIGHT", 0x3100, 24, 0x14, 1, .f32, [1, 1, 1, 0, 1, 1], 0, [], "", false, none, none, (0, 0, 1), ""⟩
def HD_RESID1 : ObjDef := ⟨"RESID1", 0x3120, 6, 0x11, 1, .f32, [1, 1, 1, 0, 1, 1], 0, [], "", false, none, none, (0, 0, 1), ""⟩
def HD_RESID2 : ObjDef := ⟨"RESID2", 0x3120, 6, 0x12, 1, .f32, [1, 1, 1, 0, 1, 1], 0, [], "", false, none, none, (0, 0, 1), ""⟩
def HD_NRES : ObjDef := ⟨"NRES", 0x3120, 6, 0x13, 1, .f32, [1, 1, 1, 0, 1, 1], 0, [], "", false, none, none, (0, 0, 1), ""⟩
def HD_MEAN_WEIGHT : ObjDef := ⟨"MEAN_WEIGHT", 0x3120, 6, 0x14, 1, .f32, [1, 1, 1, 0, 1, 1], 0, [], "", false, none, none, (0, 0, 1), ""⟩
def MU_RESID1 : ObjDef := ⟨"RESID1", 0x3130, 4, 0x11, 1, .f32, [1, 1, 1, 0, 1, 1], 0, [], "", false, none, none, (0, 0, 1), ""⟩
def MU_RESID2 : ObjDef := ⟨"RESID2", 0x3130, 4, 0x12, 1, .f32, [1, 1, 1, 0, 1, 1], 0, [], "", false, none, none, (0, 0, 1), ""⟩
def MU_NRES : ObjDef := ⟨"NRES", 0x3130, 4, 0x13, 1, .f32, [1, 1, 1, 0, 1, 1], 0, [], "", false, none, none, (0, 0, 1), ""⟩
def MU_MEAN_WEIGHT : ObjDef := ⟨"MEAN_WEIGHT", 0x3130, 4, 0x14, 1, .f32, [1, 1, 1, 0, 1, 1], 0, [], "", false, none, none, (0, 0, 1), ""⟩
def WS_RESID1 : ObjDef := ⟨"RESID1", 0x3140, 4, 0x11, 1, .f32, [1, 1, 1, 0, 1, 1], 0, [], "", false, none, none, (0, 0, 1), ""⟩
def WS_RESID2 : ObjDef := ⟨"RESID2", 0x3140, 4, 0x12, 1, .f32, [1, 1, 1, 0, 1, 1], 0, [], "", false, none, none, (0, 0, 1), ""⟩
def WS_NRES : ObjDef := ⟨"NRES", 0x3140, 4, 0x13, 1, .f32, [1, 1, 1, 0, 1, 1], 0, [], "", false, none, none, (0, 0, 1), ""⟩
def WS_MEAN_WEIGHT : ObjDef := ⟨"MEAN_WEIGHT", 0x3140, 4, 0x14, 1, .f32, [1, 1, 1, 0, 1, 1], 0, [], "", false, none, none, (0, 0, 1), ""⟩
def PS_USED : ObjDef := ⟨"USED", 0x3100, 24, 0x15, 1, .u32, [1, 1, 1, 0, 1, 1], 0, [], "", false, none, none, (0, 0, 1), ""⟩
def PS_DISCARDED : ObjDef := ⟨"DISCARDED", 0x3100, 24, 0x16, 1, .u32, [1, 1, 1, 0, 1, 1], 0, [], "", false, none, none, (0, 0, 1), ""⟩
def HD_USED : ObjDef := ⟨"USED", 0x3120, 6, 0x15, 1, .u32, [1, 1, 1, 0, 1, 1], 0, [], "", false, none, none, (0, 0, 1), ""⟩
def HD_DISCARDED : ObjDef := ⟨"DISCARDED", 0x3120, 6, 0x16, 1, .u32, [1, 1, 1, 0, 1, 1], 0, [], "", false, none, none, (0, 0, 1), ""⟩
def MU_USED : ObjDef := ⟨"USED", 0x3130, 4, 0x15, 1, .u32, [1, 1, 1, 0, 1, 1], 0, [], "", false, none, none, (0, 0, 1), ""⟩
def MU_DISCARDED : ObjDef := ⟨"DISCARDED", 0x3130, 4, 0x16, 1, .u32, [1, 1, 1, 0, 1, 1], 0, [], "", false, none, none, (0, 0, 1), ""⟩
def WS_USED : ObjDef := ⟨"USED", 0x3140, 4, 0x15, 1, .u32, [1, 1, 1, 0, 1, 1], 0, [], "", false, none, none, (0, 0, 1), ""⟩
def WS_DISCARDED : ObjDef := ⟨"DISCARDED", 0x3140, 4, 0x16, 1, .u32, [1, 1, 1, 0, 1, 1], 0, [], "", false, none, none, (0, 0, 1), ""⟩
def EST_N : ObjDef := ⟨"N", 0x3200, 1, 0x01, 1, .f64, [1, 1, 1, 1, 1, 1], 0, [], "", false, none, none, (0, 0, 1), "m"⟩
def EST_E : ObjDef := ⟨"E", 0x3200, 1, 0x02, 1, .f64, [1, 1, 1, 1, 1, 1], 0, [], "", false, none, none, (0, 0, 1), "m"⟩
def EST_PSI : ObjDef := ⟨"PSI", 0x3200, 1, 0x03, 1, .f64, [1, 1, 1, 1, 1, 1], 0, [], "", false, none, none, (0, 0, 1), "rad"⟩
def EST_U : ObjDef := ⟨"U", 0x3200, 1, 0x04, 1, .f32, [1, 1, 1, 1, 1, 1], 0, [], "", false, none, none, (0, 0, 1), ""⟩
def EST_V : ObjDef := ⟨"V", 0x3200, 1, 0x05, 1, .f32, [1, 1, 1, 1, 1, 1], 0, [], "", false, none, none, (0, 0, 1), ""⟩
def EST_R : ObjDef := ⟨"R", 0x3200, 1, 0x06, 1, .f32, [1, 1, 1, 1, 1, 1], 0, [], "", false, none, none, (0, 0, 1), ""⟩
def EST_CUR_SPEED : ObjDef := ⟨"CUR_SPEED", 0x3200, 1, 0x07, 1, .f32, [1, 1, 1, 0, 1, 1], 0, [], "", false, none, none, (0, 0, 1), "m/s"⟩
def EST_CUR_DIR : ObjDef := ⟨"CUR_DIR", 0x3200, 1, 0x08, 1, .f32, [1, 1, 1, 0, 1, 1], 0, [], "", false, none, none, (0, 0, 1), "rad"⟩
def EST_ENV_X : ObjDef := ⟨"ENV_X", 0x3200, 1, 0x09, 1, .f32, [1, 1, 1, 0, 1, 1], 0, [], "", false, none, none, (0, 0, 1), ""⟩
def EST_ENV_Y : ObjDef := ⟨"ENV_Y", 0x3200, 1, 0x0A, 1, .f32, [1, 1, 1, 0, 1, 1], 0, [], "", false, none, none, (0, 0, 1), ""⟩
def EST_ENV_N : ObjDef := ⟨"ENV_N", 0x3200, 1, 0x0B, 1, .f32, [1, 1, 1, 0, 1, 1], 0, [], "", false, none, none, (0, 0, 1), ""⟩
def EST_SIGMA_POS : ObjDef := ⟨"SIGMA_POS", 0x3200, 1, 0x0C, 1, .f32, [1, 1, 1, 1, 1, 1], 0, [], "", false, none, none, (0, 0, 1), "m"⟩
def EST_SIGMA_PSI : ObjDef := ⟨"SIGMA_PSI", 0x3200, 1, 0x0D, 1, .f32, [1, 1, 1, 1, 1, 1], 0, [], "", false, none, none, (0, 0, 1), "rad"⟩
def EST_FLAGS : ObjDef := ⟨"FLAGS", 0x3200, 1, 0x0E, 1, .u32, [1, 1, 1, 1, 1, 1], 0, [], "", false, none, none, (0, 0, 1), ""⟩
def EST_CYCLE : ObjDef := ⟨"CYCLE", 0x3200, 1, 0x0F, 1, .u64, [1, 1, 1, 0, 1, 1], 0, [], "", false, none, none, (0, 0, 1), ""⟩
def EST_SHIFTED_RUN : ObjDef := ⟨"SHIFTED_RUN", 0x3200, 1, 0x10, 1, .u8, [1, 1, 1, 0, 1, 1], 0, [], "", false, none, none, (0, 0, 1), ""⟩
def EST_WIND_OK : ObjDef := ⟨"WIND_OK", 0x3200, 1, 0x11, 1, .bool, [1, 1, 1, 0, 1, 1], 0, [], "", false, none, none, (0, 0, 1), ""⟩
def VIS_VIS_ENABLE : ObjDef := ⟨"VIS_ENABLE", 0x3400, 1, 0x01, 1, .bool, [3, 3, 1, 0, 1, 1], 0, [], "", false, none, none, (0, 0, 1), ""⟩
def VIS_TGT_KIND : ObjDef := ⟨"TGT_KIND", 0x3400, 1, 0x02, 1, .u8, [1, 2, 1, 0, 1, 1], 0, [], "", true, none, none, (0, 0, 1), ""⟩
def VIS_TGT_NODE : ObjDef := ⟨"TGT_NODE", 0x3400, 1, 0x03, 1, .u16, [1, 2, 1, 0, 1, 1], 0, [], "", true, none, none, (0, 0, 1), ""⟩
def VIS_TGT_N : ObjDef := ⟨"TGT_N", 0x3400, 1, 0x04, 1, .f64, [1, 2, 1, 0, 1, 1], 0, [], "", true, none, none, (0, 0, 1), ""⟩
def VIS_TGT_E : ObjDef := ⟨"TGT_E", 0x3400, 1, 0x05, 1, .f64, [1, 2, 1, 0, 1, 1], 0, [], "", true, none, none, (0, 0, 1), ""⟩
def VIS_TGT_PSI : ObjDef := ⟨"TGT_PSI", 0x3400, 1, 0x06, 1, .f64, [1, 2, 1, 0, 1, 1], 0, [], "", true, none, none, (0, 0, 1), ""⟩
def VIS_SIGMA_PX : ObjDef := ⟨"SIGMA_PX", 0x3400, 1, 0x07, 1, .f32, [1, 2, 1, 0, 1, 1], 1065353216, [], "", true, none, none, (0, 0, 1), "px"⟩
def VIS_LM_ITER : ObjDef := ⟨"LM_ITER", 0x3400, 1, 0x08, 1, .u8, [1, 2, 1, 0, 1, 1], 5, [], "", true, some 1, some 10, (0, 0, 1), ""⟩
def VIS_PRIOR_POS : ObjDef := ⟨"PRIOR_POS", 0x3400, 1, 0x09, 1, .f32, [1, 2, 1, 0, 1, 1], 1056964608, [], "", true, none, none, (0, 0, 1), "m"⟩
def VIS_PRIOR_YAW : ObjDef := ⟨"PRIOR_YAW", 0x3400, 1, 0x0A, 1, .f32, [1, 2, 1, 0, 1, 1], 1008981770, [], "", true, none, none, (0, 0, 1), "rad"⟩
def VIS_PRIOR_ATT : ObjDef := ⟨"PRIOR_ATT", 0x3400, 1, 0x0B, 1, .f32, [1, 2, 1, 0, 1, 1], 987681417, [], "", true, none, none, (0, 0, 1), "rad"⟩
def VIS_VIS_SLOT : ObjDef := ⟨"VIS_SLOT", 0x3400, 1, 0x0C, 1, .u8, [1, 2, 1, 0, 1, 1], 23, [], "", true, none, none, (0, 0, 1), ""⟩
def VIS_VIS_HEADING : ObjDef := ⟨"VIS_HEADING", 0x3400, 1, 0x0D, 1, .bool, [1, 2, 1, 0, 1, 1], 0, [], "", true, none, none, (0, 0, 1), ""⟩
def VIS_ST_FLAGS : ObjDef := ⟨"ST_FLAGS", 0x3400, 1, 0x10, 1, .u8, [1, 1, 1, 0, 1, 1], 0, [], "", false, none, none, (0, 0, 1), ""⟩
def VIS_ST_LANDMARKS : ObjDef := ⟨"ST_LANDMARKS", 0x3400, 1, 0x11, 1, .u16, [1, 1, 1, 0, 1, 1], 0, [], "", false, none, none, (0, 0, 1), ""⟩
def VIS_ST_OBS : ObjDef := ⟨"ST_OBS", 0x3400, 1, 0x12, 1, .u32, [1, 1, 1, 0, 1, 1], 0, [], "", false, none, none, (0, 0, 1), ""⟩
def VIS_ST_ANCHORS : ObjDef := ⟨"ST_ANCHORS", 0x3400, 1, 0x13, 1, .u16, [1, 1, 1, 0, 1, 1], 0, [], "", false, none, none, (0, 0, 1), ""⟩
def VIS_ST_RMS : ObjDef := ⟨"ST_RMS", 0x3400, 1, 0x14, 1, .f32, [1, 1, 1, 0, 1, 1], 0, [], "", false, none, none, (0, 0, 1), ""⟩
def VIS_ST_LAMBDA : ObjDef := ⟨"ST_LAMBDA", 0x3400, 1, 0x15, 1, .f32, [1, 1, 1, 0, 1, 1], 0, [], "", false, none, none, (0, 0, 1), ""⟩
def VIS_DROPPED : ObjDef := ⟨"DROPPED", 0x3400, 1, 0x16, 1, .u32, [1, 1, 1, 0, 1, 1], 0, [], "", false, none, none, (0, 0, 1), ""⟩
def VIS_ANCHOR : ObjDef := ⟨"ANCHOR", 0x3410, 1, 0x01, 64, .blob, [1, 2, 1, 0, 1, 1], 0, [], "", true, none, none, (0, 24, 24), "m"⟩
def CAM_ENABLE : ObjDef := ⟨"ENABLE", 0x3420, 4, 0x01, 1, .bool, [1, 2, 1, 0, 1, 1], 0, [], "", true, none, none, (0, 0, 1), ""⟩
def CAM_FX : ObjDef := ⟨"FX", 0x3420, 4, 0x02, 1, .f32, [1, 2, 1, 0, 1, 1], 0, [], "", true, none, none, (0, 0, 1), ""⟩
def CAM_FY : ObjDef := ⟨"FY", 0x3420, 4, 0x03, 1, .f32, [1, 2, 1, 0, 1, 1], 0, [], "", true, none, none, (0, 0, 1), ""⟩
def CAM_CX : ObjDef := ⟨"CX", 0x3420, 4, 0x04, 1, .f32, [1, 2, 1, 0, 1, 1], 0, [], "", true, none, none, (0, 0, 1), ""⟩
def CAM_CY : ObjDef := ⟨"CY", 0x3420, 4, 0x05, 1, .f32, [1, 2, 1, 0, 1, 1], 0, [], "", true, none, none, (0, 0, 1), ""⟩
def CAM_K1 : ObjDef := ⟨"K1", 0x3420, 4, 0x06, 1, .f32, [1, 2, 1, 0, 1, 1], 0, [], "", true, none, none, (0, 0, 1), ""⟩
def CAM_K2 : ObjDef := ⟨"K2", 0x3420, 4, 0x07, 1, .f32, [1, 2, 1, 0, 1, 1], 0, [], "", true, none, none, (0, 0, 1), ""⟩
def CAM_OX : ObjDef := ⟨"OX", 0x3420, 4, 0x08, 1, .f32, [1, 2, 1, 0, 1, 1], 0, [], "", true, none, none, (0, 0, 1), ""⟩
def CAM_OY : ObjDef := ⟨"OY", 0x3420, 4, 0x09, 1, .f32, [1, 2, 1, 0, 1, 1], 0, [], "", true, none, none, (0, 0, 1), ""⟩
def CAM_OZ : ObjDef := ⟨"OZ", 0x3420, 4, 0x0A, 1, .f32, [1, 2, 1, 0, 1, 1], 0, [], "", true, none, none, (0, 0, 1), ""⟩
def CAM_YAW : ObjDef := ⟨"YAW", 0x3420, 4, 0x0B, 1, .f32, [1, 2, 1, 0, 1, 1], 0, [], "", true, none, none, (0, 0, 1), ""⟩
def CAM_PITCH : ObjDef := ⟨"PITCH", 0x3420, 4, 0x0C, 1, .f32, [1, 2, 1, 0, 1, 1], 0, [], "", true, none, none, (0, 0, 1), ""⟩
def CAM_ROLL : ObjDef := ⟨"ROLL", 0x3420, 4, 0x0D, 1, .f32, [1, 2, 1, 0, 1, 1], 0, [], "", true, none, none, (0, 0, 1), ""⟩
def CAM_TIMEOUT : ObjDef := ⟨"TIMEOUT", 0x3420, 4, 0x0E, 1, .f32, [1, 2, 1, 0, 1, 1], 0, [], "", true, none, none, (0, 0, 1), ""⟩
def TH_ENABLE : ObjDef := ⟨"ENABLE", 0x4100, 32, 0x01, 1, .bool, [3, 3, 1, 0, 1, 1], 0, [], "", true, none, none, (0, 0, 1), ""⟩
def TH_TYPE : ObjDef := ⟨"TYPE", 0x4100, 32, 0x02, 1, .u8, [1, 2, 1, 0, 1, 1], 0, [], "", true, some 0, some 5, (0, 0, 1), ""⟩
def TH_POS_X : ObjDef := ⟨"POS_X", 0x4100, 32, 0x03, 1, .f32, [1, 2, 1, 0, 1, 1], 0, [], "", true, none, none, (0, 0, 1), "m"⟩
def TH_POS_Y : ObjDef := ⟨"POS_Y", 0x4100, 32, 0x04, 1, .f32, [1, 2, 1, 0, 1, 1], 0, [], "", true, none, none, (0, 0, 1), "m"⟩
def TH_T_AHEAD : ObjDef := ⟨"T_AHEAD", 0x4100, 32, 0x05, 1, .f32, [1, 2, 1, 0, 1, 1], 0, [], "", true, none, none, (0, 0, 1), "N"⟩
def TH_T_ASTERN : ObjDef := ⟨"T_ASTERN", 0x4100, 32, 0x06, 1, .f32, [1, 2, 1, 0, 1, 1], 0, [], "", true, none, none, (0, 0, 1), "N"⟩
def TH_CTRL_KIND : ObjDef := ⟨"CTRL_KIND", 0x4100, 32, 0x07, 1, .u8, [1, 2, 1, 0, 1, 1], 0, [], "", true, some 0, some 1, (0, 0, 1), ""⟩
def TH_K_AHEAD : ObjDef := ⟨"K_AHEAD", 0x4100, 32, 0x08, 1, .f32, [1, 2, 1, 0, 1, 1], 0, [], "", true, none, none, (0, 0, 1), "N/rpm²"⟩
def TH_K_ASTERN : ObjDef := ⟨"K_ASTERN", 0x4100, 32, 0x09, 1, .f32, [1, 2, 1, 0, 1, 1], 0, [], "", true, none, none, (0, 0, 1), "N/rpm²"⟩
def TH_N_RATED : ObjDef := ⟨"N_RATED", 0x4100, 32, 0x0A, 1, .f32, [1, 2, 1, 0, 1, 1], 0, [], "", true, none, none, (0, 0, 1), "rpm"⟩
def TH_PITCH_TABLE : ObjDef := ⟨"PITCH_TABLE", 0x4100, 32, 0x0B, 1, .blob, [1, 2, 1, 0, 1, 1], 0, [], "", true, none, none, (44, 44, 1), ""⟩
def TH_AZ_RATE : ObjDef := ⟨"AZ_RATE", 0x4100, 32, 0x0C, 1, .f32, [1, 2, 1, 0, 1, 1], 1043509281, [], "", true, none, none, (0, 0, 1), "rad/s"⟩
def TH_THRUST_RATE : ObjDef := ⟨"THRUST_RATE", 0x4100, 32, 0x0D, 1, .f32, [1, 2, 1, 0, 1, 1], 0, [], "", true, none, none, (0, 0, 1), "N/s"⟩
def TH_BUS : ObjDef := ⟨"BUS", 0x4100, 32, 0x0E, 1, .u8, [1, 2, 1, 0, 1, 1], 0, [], "", true, some 0, some 7, (0, 0, 1), ""⟩
def TH_P_IDLE : ObjDef := ⟨"P_IDLE", 0x4100, 32, 0x0F, 1, .f32, [1, 2, 1, 0, 1, 1], 0, [], "", true, none, none, (0, 0, 1), "W"⟩
def TH_K_POWER : ObjDef := ⟨"K_POWER", 0x4100, 32, 0x10, 1, .f32, [1, 2, 1, 0, 1, 1], 0, [], "", true, none, none, (0, 0, 1), "W/N^1.5"⟩
def TH_C_LIFT : ObjDef := ⟨"C_LIFT", 0x4100, 32, 0x11, 1, .f32, [1, 2, 1, 0, 1, 1], 1050253722, [], "", true, none, none, (0, 0, 1), ""⟩
def TH_DELTA_MAX : ObjDef := ⟨"DELTA_MAX", 0x4100, 32, 0x12, 1, .f32, [1, 2, 1, 0, 1, 1], 1058825201, [], "", true, none, none, (0, 0, 1), "rad"⟩
def TH_SECTORS : ObjDef := ⟨"SECTORS", 0x4100, 32, 0x13, 1, .blob, [1, 2, 1, 0, 1, 1], 0, [], "", true, none, none, (0, 96, 12), "rad"⟩
def TH_READY : ObjDef := ⟨"READY", 0x4100, 32, 0x20, 1, .bool, [1, 1, 1, 1, 1, 1], 0, [], "", false, none, none, (0, 0, 1), ""⟩
def TH_IN_PLAN : ObjDef := ⟨"IN_PLAN", 0x4100, 32, 0x21, 1, .bool, [1, 1, 1, 1, 1, 1], 0, [], "", false, none, none, (0, 0, 1), ""⟩
def TH_PIECE : ObjDef := ⟨"PIECE", 0x4100, 32, 0x22, 1, .u8, [1, 1, 1, 0, 1, 1], 0, [], "", false, none, none, (0, 0, 1), ""⟩
def BUS_P_AVAIL : ObjDef := ⟨"P_AVAIL", 0x4200, 8, 0x01, 1, .f32, [3, 3, 1, 0, 1, 1], 0, [], "", false, none, none, (0, 0, 1), "W"⟩
def BUS_MARGIN : ObjDef := ⟨"MARGIN", 0x4200, 8, 0x02, 1, .f32, [1, 2, 1, 0, 1, 1], 1064514355, [], "", true, some (4 / 5), some 1, (0, 0, 1), ""⟩
def BUS_P_PLANNED : ObjDef := ⟨"P_PLANNED", 0x4200, 8, 0x03, 1, .f32, [1, 1, 1, 1, 1, 1], 0, [], "", false, none, none, (0, 0, 1), "W"⟩
def BUS_CLAMPED : ObjDef := ⟨"CLAMPED", 0x4200, 8, 0x04, 1, .u32, [1, 1, 1, 0, 1, 1], 0, [], "", false, none, none, (0, 0, 1), ""⟩
def VM_DRIFT_KN : ObjDef := ⟨"DRIFT_KN", 0x2005, 1, 0x01, 1, .f32, [1, 2, 1, 0, 1, 1], 0, [], "", true, none, none, (0, 0, 1), "N²·s/m⁴"⟩
def VM_DRIFT_KE : ObjDef := ⟨"DRIFT_KE", 0x2005, 1, 0x02, 1, .f32, [1, 2, 1, 0, 1, 1], 0, [], "", true, none, none, (0, 0, 1), "N²·s/m⁴"⟩
def VM_DRIFT_KPSI : ObjDef := ⟨"DRIFT_KPSI", 0x2005, 1, 0x03, 1, .f32, [1, 2, 1, 0, 1, 1], 0, [], "", true, none, none, (0, 0, 1), "N²·m²·s/rad⁴"⟩
def VM_L_REF : ObjDef := ⟨"L_REF", 0x2006, 1, 0x01, 1, .f32, [1, 2, 1, 0, 1, 1], 1120403456, [], "", true, none, none, (0, 0, 1), "m"⟩
def PLAN_MODE : ObjDef := ⟨"MODE", 0x5000, 1, 0x01, 1, .u8, [3, 3, 1, 0, 1, 1], 0, [], "", true, none, none, (0, 0, 1), ""⟩
def PLAN_SETPOINT : ObjDef := ⟨"SETPOINT", 0x5000, 1, 0x02, 1, .blob, [3, 3, 1, 0, 1, 1], 0, [], "", true, none, none, (24, 24, 1), ""⟩
def PLAN_MOVE_SPEED : ObjDef := ⟨"MOVE_SPEED", 0x5000, 1, 0x03, 1, .f32, [3, 3, 1, 0, 1, 1], 1050253722, [], "", true, some (1 / 20), some 2, (0, 0, 1), "m/s"⟩
def PLAN_TURN_RATE : ObjDef := ⟨"TURN_RATE", 0x5000, 1, 0x04, 1, .f32, [3, 3, 1, 0, 1, 1], 1016028201, [], "", true, some (1 / 500), some (1 / 10), (0, 0, 1), "rad/s"⟩
def PLAN_POS_LIMIT : ObjDef := ⟨"POS_LIMIT", 0x5000, 1, 0x05, 1, .f32, [3, 3, 1, 0, 1, 1], 1084227584, [], "", true, some (1 / 2), some 50, (0, 0, 1), "m"⟩
def PLAN_HEAD_LIMIT : ObjDef := ⟨"HEAD_LIMIT", 0x5000, 1, 0x06, 1, .f32, [3, 3, 1, 0, 1, 1], 1029087586, [], "", true, some (87 / 10000), some (7 / 20), (0, 0, 1), "rad"⟩
def PLAN_FORCE_DEMAND : ObjDef := ⟨"FORCE_DEMAND", 0x5000, 1, 0x07, 1, .blob, [3, 3, 1, 0, 1, 1], 0, [], "", true, none, none, (12, 12, 1), ""⟩
def PLAN_SCENARIOS : ObjDef := ⟨"SCENARIOS", 0x5000, 1, 0x08, 1, .u8, [1, 2, 1, 0, 1, 1], 64, [], "", true, some 16, some 64, (0, 0, 1), ""⟩
def PLAN_BRANCH_STEP : ObjDef := ⟨"BRANCH_STEP", 0x5000, 1, 0x09, 1, .u8, [1, 2, 1, 0, 1, 1], 8, [], "", true, some 1, some 20, (0, 0, 1), "step"⟩
def PLAN_HORIZON : ObjDef := ⟨"HORIZON", 0x5000, 1, 0x0A, 1, .u16, [1, 2, 1, 0, 1, 1], 240, [], "", true, some 120, some 240, (0, 0, 1), "step"⟩
def PLAN_ITER : ObjDef := ⟨"ITER", 0x5000, 1, 0x0B, 1, .u8, [1, 2, 1, 0, 1, 1], 4, [], "", true, some 1, some 4, (0, 0, 1), ""⟩
def PLAN_NOMINAL_WEIGHT : ObjDef := ⟨"NOMINAL_WEIGHT", 0x5000, 1, 0x0C, 1, .f32, [1, 2, 1, 0, 1, 1], 1045220557, [], "", true, some (1 / 20), some (1 / 2), (0, 0, 1), ""⟩
def PLAN_SEED_SALT : ObjDef := ⟨"SEED_SALT", 0x5000, 1, 0x0D, 1, .u32, [1, 2, 1, 0, 1, 1], 0, [], "", true, none, none, (0, 0, 1), ""⟩
def PLAN_RESEED_S : ObjDef := ⟨"RESEED_S", 0x5000, 1, 0x0E, 1, .u16, [1, 2, 1, 0, 1, 1], 600, [], "", true, some 60, some 3600, (0, 0, 1), "s"⟩
def PLAN_SIGMA_C : ObjDef := ⟨"SIGMA_C", 0x5000, 1, 0x0F, 1, .f32, [1, 2, 1, 0, 1, 1], 1036831949, [], "", true, some (1 / 100), some (1 / 2), (0, 0, 1), ""⟩
def PLAN_TAU_STEP : ObjDef := ⟨"TAU_STEP", 0x5000, 1, 0x10, 1, .f32, [1, 2, 1, 0, 1, 1], 1065269330, [], "", true, some (9 / 10), some (999 / 1000), (0, 0, 1), ""⟩
def PLAN_ACC_PRIMAL : ObjDef := ⟨"ACC_PRIMAL", 0x5000, 1, 0x11, 1, .f32, [1, 2, 1, 0, 1, 1], 897988541, [], "", true, none, none, (0, 0, 1), ""⟩
def PLAN_ACC_DUAL : ObjDef := ⟨"ACC_DUAL", 0x5000, 1, 0x12, 1, .f32, [1, 2, 1, 0, 1, 1], 953267991, [], "", true, none, none, (0, 0, 1), ""⟩
def PLAN_ACC_GAP : ObjDef := ⟨"ACC_GAP", 0x5000, 1, 0x13, 1, .f32, [1, 2, 1, 0, 1, 1], 953267991, [], "", true, none, none, (0, 0, 1), ""⟩
def PLAN_VIOL_TOL : ObjDef := ⟨"VIOL_TOL", 0x5000, 1, 0x14, 1, .f32, [1, 2, 1, 0, 1, 1], 953267991, [], "", true, none, none, (0, 0, 1), ""⟩
def PLAN_A_TRUST : ObjDef := ⟨"A_TRUST", 0x5000, 1, 0x15, 1, .f32, [1, 2, 1, 0, 1, 1], 1057360550, [], "", true, some (349 / 2000), some (3927 / 5000), (0, 0, 1), "rad"⟩
def PLAN_ROOT_WINDOW : ObjDef := ⟨"ROOT_WINDOW", 0x5000, 1, 0x16, 1, .u16, [1, 2, 1, 0, 1, 1], 8, [], "", true, some 4, some 20, (0, 0, 1), "ms"⟩
def PLAN_T_LAG : ObjDef := ⟨"T_LAG", 0x5000, 1, 0x17, 1, .f32, [1, 2, 1, 0, 1, 1], 1082130432, [], "", true, some (1 / 2), some 20, (0, 0, 1), "s"⟩
def PLAN_Q_POS : ObjDef := ⟨"Q_POS", 0x5000, 1, 0x18, 1, .f32, [1, 2, 1, 0, 1, 1], 1065353216, [], "", true, none, none, (0, 0, 1), ""⟩
def PLAN_Q_HEAD : ObjDef := ⟨"Q_HEAD", 0x5000, 1, 0x19, 1, .f32, [1, 2, 1, 0, 1, 1], 1120403456, [], "", true, none, none, (0, 0, 1), ""⟩
def PLAN_Q_VEL : ObjDef := ⟨"Q_VEL", 0x5000, 1, 0x1A, 1, .f32, [1, 2, 1, 0, 1, 1], 1092616192, [], "", true, none, none, (0, 0, 1), ""⟩
def PLAN_Q_RATE : ObjDef := ⟨"Q_RATE", 0x5000, 1, 0x1B, 1, .f32, [1, 2, 1, 0, 1, 1], 1148846080, [], "", true, none, none, (0, 0, 1), ""⟩
def PLAN_Q_INT : ObjDef := ⟨"Q_INT", 0x5000, 1, 0x1C, 1, .f32, [1, 2, 1, 0, 1, 1], 1008981770, [], "", true, none, none, (0, 0, 1), ""⟩
def PLAN_R_THRUST : ObjDef := ⟨"R_THRUST", 0x5000, 1, 0x1D, 1, .f32, [1, 2, 1, 0, 1, 1], 1065353216, [], "", true, none, none, (0, 0, 1), ""⟩
def PLAN_RHO_DELTA : ObjDef := ⟨"RHO_DELTA", 0x5000, 1, 0x1E, 1, .f32, [1, 2, 1, 0, 1, 1], 1065353216, [], "", true, none, none, (0, 0, 1), ""⟩
def PLAN_RHO_SOFT : ObjDef := ⟨"RHO_SOFT", 0x5000, 1, 0x1F, 1, .f32, [1, 2, 1, 0, 1, 1], 1148846080, [], "", true, none, none, (0, 0, 1), ""⟩
def PLAN_TERM_WEIGHT : ObjDef := ⟨"TERM_WEIGHT", 0x5000, 1, 0x20, 1, .f32, [1, 2, 1, 0, 1, 1], 1092616192, [], "", true, some 1, some 100, (0, 0, 1), ""⟩
def PLAN_EXC_START : ObjDef := ⟨"EXC_START", 0x5000, 1, 0x21, 1, .u8, [1, 2, 1, 0, 1, 1], 4, [], "", true, some 1, some 40, (0, 0, 1), "step"⟩
def PLAN_I_LIMIT : ObjDef := ⟨"I_LIMIT", 0x5000, 1, 0x22, 1, .f32, [1, 2, 1, 0, 1, 1], 1112014848, [], "", true, none, none, (0, 0, 1), "m·s"⟩
def PLAN_Q_FORCE : ObjDef := ⟨"Q_FORCE", 0x5000, 1, 0x23, 1, .f32, [1, 2, 1, 0, 1, 1], 1120403456, [], "", true, none, none, (0, 0, 1), ""⟩
def PLAN_PLAN_CHUNK : ObjDef := ⟨"PLAN_CHUNK", 0x5000, 1, 0x24, 1, .u8, [1, 2, 1, 0, 1, 1], 8, [], "", true, some 4, some 29, (0, 0, 1), "stage"⟩
def PLANST_PLAN_CYCLE : ObjDef := ⟨"PLAN_CYCLE", 0x5100, 1, 0x01, 1, .u64, [1, 1, 1, 0, 1, 1], 0, [], "", false, none, none, (0, 0, 1), ""⟩
def PLANST_FLAGS : ObjDef := ⟨"FLAGS", 0x5100, 1, 0x02, 1, .u32, [1, 1, 1, 1, 1, 1], 0, [], "", false, none, none, (0, 0, 1), ""⟩
def PLANST_ITERATIONS : ObjDef := ⟨"ITERATIONS", 0x5100, 1, 0x03, 1, .u8, [1, 1, 1, 0, 1, 1], 0, [], "", false, none, none, (0, 0, 1), ""⟩
def PLANST_RESID_P : ObjDef := ⟨"RESID_P", 0x5100, 1, 0x04, 1, .f32, [1, 1, 1, 0, 1, 1], 0, [], "", false, none, none, (0, 0, 1), ""⟩
def PLANST_RESID_D : ObjDef := ⟨"RESID_D", 0x5100, 1, 0x05, 1, .f32, [1, 1, 1, 0, 1, 1], 0, [], "", false, none, none, (0, 0, 1), ""⟩
def PLANST_GAP : ObjDef := ⟨"GAP", 0x5100, 1, 0x06, 1, .f32, [1, 1, 1, 0, 1, 1], 0, [], "", false, none, none, (0, 0, 1), ""⟩
def PLANST_VIOLATION : ObjDef := ⟨"VIOLATION", 0x5100, 1, 0x07, 1, .f32, [1, 1, 1, 1, 1, 1], 0, [], "", false, none, none, (0, 0, 1), ""⟩
def PLANST_SCENARIOS_USED : ObjDef := ⟨"SCENARIOS_USED", 0x5100, 1, 0x08, 1, .u8, [1, 1, 1, 0, 1, 1], 0, [], "", false, none, none, (0, 0, 1), ""⟩
def PLANST_SHIFTED_RUN : ObjDef := ⟨"SHIFTED_RUN", 0x5100, 1, 0x09, 1, .u8, [1, 1, 1, 0, 1, 1], 0, [], "", false, none, none, (0, 0, 1), ""⟩
def PLANST_LATE : ObjDef := ⟨"LATE", 0x5100, 1, 0x0A, 1, .u32, [1, 1, 1, 0, 1, 1], 0, [], "", false, none, none, (0, 0, 1), ""⟩
def PLANST_COLD : ObjDef := ⟨"COLD", 0x5100, 1, 0x0B, 1, .u32, [1, 1, 1, 0, 1, 1], 0, [], "", false, none, none, (0, 0, 1), ""⟩
def PLANST_INFEASIBLE : ObjDef := ⟨"INFEASIBLE", 0x5100, 1, 0x0C, 1, .u32, [1, 1, 1, 0, 1, 1], 0, [], "", false, none, none, (0, 0, 1), ""⟩
def PLANST_CERTIFICATE : ObjDef := ⟨"CERTIFICATE", 0x5100, 1, 0x0D, 1, .str, [1, 1, 1, 1, 1, 1], 0, [], "", false, none, none, (0, 255, 1), ""⟩
def PLANST_REQ_COMPUTED : ObjDef := ⟨"REQ_COMPUTED", 0x5100, 1, 0x0E, 1, .f32, [1, 1, 1, 0, 1, 1], 0, [], "", false, none, none, (0, 0, 1), "GFLOP/s"⟩
def PLANST_SIGNATURE : ObjDef := ⟨"SIGNATURE", 0x5100, 1, 0x0F, 1, .blob, [1, 1, 1, 0, 1, 1], 0, [], "", false, none, none, (0, 4096, 1), ""⟩
def PLANST_MAPPED : ObjDef := ⟨"MAPPED", 0x5100, 1, 0x10, 1, .f32, [1, 1, 1, 0, 1, 1], 0, [], "", false, none, none, (0, 0, 1), ""⟩
def CASE_DECLARED : ObjDef := ⟨"DECLARED", 0x5200, 48, 0x01, 1, .bool, [1, 2, 1, 0, 1, 1], 0, [], "", true, none, none, (0, 0, 1), ""⟩
def CASE_KIND : ObjDef := ⟨"KIND", 0x5200, 48, 0x02, 1, .u8, [1, 2, 1, 0, 1, 1], 0, [], "", true, some 0, some 5, (0, 0, 1), ""⟩
def CASE_NAME : ObjDef := ⟨"NAME", 0x5200, 48, 0x03, 1, .str, [1, 2, 1, 0, 1, 1], 0, [], "", true, none, none, (0, 128, 1), ""⟩
def CASE_PRIORITY : ObjDef := ⟨"PRIORITY", 0x5200, 48, 0x04, 1, .u8, [1, 2, 1, 0, 1, 1], 128, [], "", true, some 1, some 255, (0, 0, 1), ""⟩
def CASE_THRUSTER_MASK : ObjDef := ⟨"THRUSTER_MASK", 0x5200, 48, 0x05, 1, .u32, [1, 2, 1, 0, 1, 1], 0, [], "", true, none, none, (0, 0, 1), ""⟩
def CASE_BUS_MASK : ObjDef := ⟨"BUS_MASK", 0x5200, 48, 0x06, 1, .u8, [1, 2, 1, 0, 1, 1], 0, [], "", true, none, none, (0, 0, 1), ""⟩
def CASE_REF_MASK : ObjDef := ⟨"REF_MASK", 0x5200, 48, 0x07, 1, .u32, [1, 2, 1, 0, 1, 1], 0, [], "", true, none, none, (0, 0, 1), ""⟩
def CASE_POWER_AFTER : ObjDef := ⟨"POWER_AFTER", 0x5200, 48, 0x08, 1, .blob, [1, 2, 1, 0, 1, 1], 0, [], "", true, none, none, (32, 32, 1), "W"⟩
def CASE_VERDICT : ObjDef := ⟨"VERDICT", 0x5200, 48, 0x10, 1, .u8, [1, 1, 1, 1, 1, 1], 0, [], "", false, none, none, (0, 0, 1), ""⟩
def CASE_CAUSE : ObjDef := ⟨"CAUSE", 0x5200, 48, 0x11, 1, .u16, [1, 1, 1, 1, 1, 1], 0, [], "", false, none, none, (0, 0, 1), ""⟩
def CASE_AGE : ObjDef := ⟨"AGE", 0x5200, 48, 0x12, 1, .u16, [1, 1, 1, 0, 1, 1], 0, [], "", false, none, none, (0, 0, 1), "s"⟩
def CASE_EXC_POS : ObjDef := ⟨"EXC_POS", 0x5200, 48, 0x13, 1, .f32, [1, 1, 1, 0, 1, 1], 0, [], "", false, none, none, (0, 0, 1), "m"⟩
def CASE_EXC_HEAD : ObjDef := ⟨"EXC_HEAD", 0x5200, 48, 0x14, 1, .f32, [1, 1, 1, 0, 1, 1], 0, [], "", false, none, none, (0, 0, 1), "rad"⟩
def CASE_UTIL : ObjDef := ⟨"UTIL", 0x5200, 48, 0x15, 1, .f32, [1, 1, 1, 0, 1, 1], 0, [], "", false, none, none, (0, 0, 1), ""⟩
def CASE_T_EXCEED : ObjDef := ⟨"T_EXCEED", 0x5200, 48, 0x16, 1, .f32, [1, 1, 1, 0, 1, 1], 0, [], "", false, none, none, (0, 0, 1), "s"⟩
def CA_CA_ENABLE : ObjDef := ⟨"CA_ENABLE", 0x5300, 1, 0x01, 1, .bool, [3, 3, 1, 0, 1, 1], 1, [], "", true, none, none, (0, 0, 1), ""⟩
def CA_CA_HORIZON : ObjDef := ⟨"CA_HORIZON", 0x5300, 1, 0x02, 1, .u16, [1, 2, 1, 0, 1, 1], 160, [], "", true, some 120, some 240, (0, 0, 1), "step"⟩
def CA_CA_ITER : ObjDef := ⟨"CA_ITER", 0x5300, 1, 0x03, 1, .u8, [1, 2, 1, 0, 1, 1], 4, [], "", true, some 1, some 4, (0, 0, 1), ""⟩
def CA_RED_POS_LIMIT : ObjDef := ⟨"RED_POS_LIMIT", 0x5300, 1, 0x04, 1, .f32, [1, 2, 1, 0, 1, 1], 1092616192, [], "", true, some 1, some 100, (0, 0, 1), "m"⟩
def CA_RED_HEAD_LIMIT : ObjDef := ⟨"RED_HEAD_LIMIT", 0x5300, 1, 0x05, 1, .f32, [1, 2, 1, 0, 1, 1], 1037462772, [], "", true, some (7 / 400), some (1 / 2), (0, 0, 1), "rad"⟩
def CA_UTIL_AMBER : ObjDef := ⟨"UTIL_AMBER", 0x5300, 1, 0x06, 1, .f32, [1, 2, 1, 0, 1, 1], 1064514355, [], "", true, some (1 / 2), some 1, (0, 0, 1), ""⟩
def CA_REF_K : ObjDef := ⟨"REF_K", 0x5300, 1, 0x07, 1, .f32, [1, 2, 1, 0, 1, 1], 1077936128, [], "", true, some 0, some 6, (0, 0, 1), ""⟩
def CA_REF_MIN_POS : ObjDef := ⟨"REF_MIN_POS", 0x5300, 1, 0x08, 1, .u8, [1, 2, 1, 0, 1, 1], 2, [], "", true, some 1, some 5, (0, 0, 1), ""⟩
def CA_VERDICT_MAX_AGE : ObjDef := ⟨"VERDICT_MAX_AGE", 0x5300, 1, 0x09, 1, .u16, [1, 2, 1, 0, 1, 1], 60, [], "", true, some 20, some 300, (0, 0, 1), "s"⟩
def CA_PUB_LEAD : ObjDef := ⟨"PUB_LEAD", 0x5300, 1, 0x0A, 1, .u16, [1, 2, 1, 0, 1, 1], 50, [], "", true, some 20, some 500, (0, 0, 1), "ms"⟩
def CAST_WCF : ObjDef := ⟨"WCF", 0x5301, 1, 0x01, 1, .u8, [1, 1, 1, 1, 1, 1], 0, [], "", false, none, none, (0, 0, 1), ""⟩
def CAST_WCF_CASE : ObjDef := ⟨"WCF_CASE", 0x5301, 1, 0x02, 1, .u8, [1, 1, 1, 1, 1, 1], 255, [], "", false, none, none, (0, 0, 1), ""⟩
def CAST_CA_CYCLE : ObjDef := ⟨"CA_CYCLE", 0x5301, 1, 0x03, 1, .u64, [1, 1, 1, 0, 1, 1], 0, [], "", false, none, none, (0, 0, 1), ""⟩
def CAST_FLAGS : ObjDef := ⟨"FLAGS", 0x5301, 1, 0x04, 1, .u32, [1, 1, 1, 1, 1, 1], 0, [], "", false, none, none, (0, 0, 1), ""⟩
def CAST_SCHEDULED : ObjDef := ⟨"SCHEDULED", 0x5301, 1, 0x05, 1, .u8, [1, 1, 1, 0, 1, 1], 0, [], "", false, none, none, (0, 0, 1), ""⟩
def CAST_N_RED : ObjDef := ⟨"N_RED", 0x5301, 1, 0x06, 1, .u8, [1, 1, 1, 1, 1, 1], 0, [], "", false, none, none, (0, 0, 1), ""⟩
def CAST_N_AMBER : ObjDef := ⟨"N_AMBER", 0x5301, 1, 0x07, 1, .u8, [1, 1, 1, 1, 1, 1], 0, [], "", false, none, none, (0, 0, 1), ""⟩
def CAST_N_UNKNOWN : ObjDef := ⟨"N_UNKNOWN", 0x5301, 1, 0x08, 1, .u8, [1, 1, 1, 1, 1, 1], 0, [], "", false, none, none, (0, 0, 1), ""⟩
def CAST_REQ_COMPUTED : ObjDef := ⟨"REQ_COMPUTED", 0x5301, 1, 0x09, 1, .f32, [1, 1, 1, 0, 1, 1], 0, [], "", false, none, none, (0, 0, 1), "GFLOP/s"⟩
def LE_ENABLED : ObjDef := ⟨"ENABLED", 0x6000, 1, 0x01, 1, .u16, [1, 1, 1, 1, 1, 1], 0, [], "", false, none, none, (0, 0, 1), ""⟩
def LE_CAPACITY_DIP : ObjDef := ⟨"CAPACITY_DIP", 0x6000, 1, 0x02, 1, .f32, [1, 1, 1, 0, 1, 1], 0, [], "", false, none, none, (0, 0, 1), "steps/s"⟩
def LE_WORST_MARGIN : ObjDef := ⟨"WORST_MARGIN", 0x6000, 1, 0x03, 1, .f32, [1, 1, 1, 0, 1, 1], 0, [], "", false, none, none, (0, 0, 1), "µs"⟩
def LE_TRAJ_STATE : ObjDef := ⟨"TRAJ_STATE", 0x6000, 1, 0x04, 1, .u8, [1, 1, 1, 1, 1, 1], 0, [], "", false, none, none, (0, 0, 1), ""⟩
def LE_TRAJ_CYCLE : ObjDef := ⟨"TRAJ_CYCLE", 0x6000, 1, 0x05, 1, .u64, [1, 1, 1, 0, 1, 1], 0, [], "", false, none, none, (0, 0, 1), ""⟩
def LE_TRAJ_STALE_MS : ObjDef := ⟨"TRAJ_STALE_MS", 0x6000, 1, 0x06, 1, .u16, [1, 2, 1, 0, 1, 1], 1500, [], "", true, some 600, some 30000, (0, 0, 1), "ms"⟩
def LE_REPLACED : ObjDef := ⟨"REPLACED", 0x6000, 1, 0x07, 1, .u32, [1, 1, 1, 0, 1, 1], 0, [], "", false, none, none, (0, 0, 1), ""⟩
def LE_LATE_TOTAL : ObjDef := ⟨"LATE_TOTAL", 0x6000, 1, 0x08, 1, .u32, [1, 1, 1, 0, 1, 1], 0, [], "", false, none, none, (0, 0, 1), ""⟩
def LE_DATAPATH_FAULT : ObjDef := ⟨"DATAPATH_FAULT", 0x6000, 1, 0x09, 1, .bool, [1, 1, 1, 1, 1, 1], 0, [], "", false, none, none, (0, 0, 1), ""⟩
def LP_ENABLE : ObjDef := ⟨"ENABLE", 0x6100, 256, 0x01, 1, .bool, [3, 3, 1, 0, 1, 1], 0, [], "", true, none, none, (0, 0, 1), ""⟩
def LP_COMMIT : ObjDef := ⟨"COMMIT", 0x6100, 256, 0x02, 1, .u8, [3, 3, 1, 0, 1, 1], 0, [], "", false, some 1, some 1, (0, 0, 1), ""⟩
def LP_TRIG_KIND : ObjDef := ⟨"TRIG_KIND", 0x6100, 256, 0x03, 1, .u8, [1, 2, 1, 0, 1, 1], 0, [], "", true, none, none, (0, 0, 1), ""⟩
def LP_TRIG_ARG : ObjDef := ⟨"TRIG_ARG", 0x6100, 256, 0x04, 1, .u16, [1, 2, 1, 0, 1, 1], 0, [], "", true, none, none, (0, 0, 1), ""⟩
def LP_PERIOD : ObjDef := ⟨"PERIOD", 0x6100, 256, 0x05, 1, .u32, [1, 2, 1, 0, 1, 1], 1000, [], "", true, none, none, (0, 0, 1), "µs"⟩
def LP_PHASE : ObjDef := ⟨"PHASE", 0x6100, 256, 0x06, 1, .u32, [1, 2, 1, 0, 1, 1], 0, [], "", true, none, none, (0, 0, 1), "µs"⟩
def LP_PRIO : ObjDef := ⟨"PRIO", 0x6100, 256, 0x07, 1, .u8, [1, 2, 1, 0, 1, 1], 0, [], "", true, none, none, (0, 0, 1), ""⟩
def LP_DEADLINE : ObjDef := ⟨"DEADLINE", 0x6100, 256, 0x08, 1, .u8, [1, 2, 1, 0, 1, 1], 80, [], "", true, none, none, (0, 0, 1), "µs"⟩
def LP_LEAD : ObjDef := ⟨"LEAD", 0x6100, 256, 0x09, 1, .u32, [1, 2, 1, 0, 1, 1], 500, [], "", true, none, none, (0, 0, 1), "µs"⟩
def LP_SPARE : ObjDef := ⟨"SPARE", 0x6100, 256, 0x0A, 1, .i16, [1, 2, 1, 0, 1, 1], 65535, [], "", true, some (-1), some 255, (0, 0, 1), ""⟩
def LP_NAME : ObjDef := ⟨"NAME", 0x6100, 256, 0x0B, 1, .str, [1, 2, 1, 0, 1, 1], 0, [], "", true, none, none, (0, 128, 1), ""⟩
def LP_SERVICE : ObjDef := ⟨"SERVICE", 0x6100, 256, 0x0C, 1, .u8, [1, 3, 1, 0, 1, 1], 0, [], "", false, some 1, some 2, (0, 0, 1), ""⟩
def LP_PROGRAM : ObjDef := ⟨"PROGRAM", 0x6100, 256, 0x10, 1, .blob, [1, 2, 1, 0, 1, 1], 0, [], "", true, none, none, (8, 512, 8), ""⟩
def LP_ACTIVE_PROGRAM : ObjDef := ⟨"ACTIVE_PROGRAM", 0x6100, 256, 0x11, 1, .blob, [1, 1, 1, 0, 1, 1], 0, [], "", false, none, none, (0, 4096, 1), ""⟩
def LP_STATE : ObjDef := ⟨"STATE", 0x6100, 256, 0x20, 1, .u8, [1, 1, 1, 0, 1, 1], 0, [], "", false, none, none, (0, 0, 1), ""⟩
def LP_BOUND : ObjDef := ⟨"BOUND", 0x6100, 256, 0x21, 1, .f32, [1, 1, 1, 0, 1, 1], 0, [], "", false, none, none, (0, 0, 1), ""⟩
def LP_LATE : ObjDef := ⟨"LATE", 0x6100, 256, 0x22, 1, .u32, [1, 1, 1, 0, 1, 1], 0, [], "", false, none, none, (0, 0, 1), ""⟩
def LP_OVERRUN : ObjDef := ⟨"OVERRUN", 0x6100, 256, 0x23, 1, .u32, [1, 1, 1, 0, 1, 1], 0, [], "", false, none, none, (0, 0, 1), ""⟩
def LP_SAT : ObjDef := ⟨"SAT", 0x6100, 256, 0x24, 1, .u32, [1, 1, 1, 0, 1, 1], 0, [], "", false, none, none, (0, 0, 1), ""⟩
def LP_LAST_EXEC : ObjDef := ⟨"LAST_EXEC", 0x6100, 256, 0x25, 1, .f32, [1, 1, 1, 0, 1, 1], 0, [], "", false, none, none, (0, 0, 1), ""⟩
def LIM_MIN0 : ObjDef := ⟨"MIN0", 0x6200, 32, 0x01, 1, .i16, [3, 3, 1, 0, 1, 1], 32768, [], "", true, none, none, (0, 0, 1), "Q15"⟩
def LIM_MAX0 : ObjDef := ⟨"MAX0", 0x6200, 32, 0x02, 1, .i16, [3, 3, 1, 0, 1, 1], 32767, [], "", true, none, none, (0, 0, 1), "Q15"⟩
def LIM_MIN1 : ObjDef := ⟨"MIN1", 0x6200, 32, 0x03, 1, .i16, [3, 3, 1, 0, 1, 1], 32768, [], "", true, none, none, (0, 0, 1), "Q15"⟩
def LIM_MAX1 : ObjDef := ⟨"MAX1", 0x6200, 32, 0x04, 1, .i16, [3, 3, 1, 0, 1, 1], 32767, [], "", true, none, none, (0, 0, 1), "Q15"⟩
def LIM_MIN2 : ObjDef := ⟨"MIN2", 0x6200, 32, 0x05, 1, .i16, [3, 3, 1, 0, 1, 1], 32768, [], "", true, none, none, (0, 0, 1), "Q15"⟩
def LIM_MAX2 : ObjDef := ⟨"MAX2", 0x6200, 32, 0x06, 1, .i16, [3, 3, 1, 0, 1, 1], 32767, [], "", true, none, none, (0, 0, 1), "Q15"⟩
def LIM_MIN3 : ObjDef := ⟨"MIN3", 0x6200, 32, 0x07, 1, .i16, [3, 3, 1, 0, 1, 1], 32768, [], "", true, none, none, (0, 0, 1), "Q15"⟩
def LIM_MAX3 : ObjDef := ⟨"MAX3", 0x6200, 32, 0x08, 1, .i16, [3, 3, 1, 0, 1, 1], 32767, [], "", true, none, none, (0, 0, 1), "Q15"⟩
def LIM_RATE : ObjDef := ⟨"RATE", 0x6200, 32, 0x09, 4, .u16, [3, 3, 1, 0, 1, 1], 65535, [], "", true, none, none, (0, 0, 1), "1/256 Q15/ms"⟩
def LIM_ANGLE_WRAP : ObjDef := ⟨"ANGLE_WRAP", 0x6200, 32, 0x0D, 1, .bool, [3, 3, 1, 0, 1, 1], 0, [], "", true, none, none, (0, 0, 1), ""⟩
def LIM_SECTORS : ObjDef := ⟨"SECTORS", 0x6200, 32, 0x0E, 1, .blob, [3, 3, 1, 0, 1, 1], 0, [], "", true, none, none, (0, 32, 4), "Q15"⟩
def TG_KIND : ObjDef := ⟨"KIND", 0x6300, 8, 0x01, 1, .u8, [1, 2, 1, 0, 1, 1], 0, [], "", true, none, none, (0, 0, 1), ""⟩
def TG_OWNER : ObjDef := ⟨"OWNER", 0x6300, 8, 0x02, 1, .u8, [1, 2, 1, 0, 1, 1], 0, [], "", true, none, none, (0, 0, 1), ""⟩
def TG_AMP : ObjDef := ⟨"AMP", 0x6300, 8, 0x03, 1, .q15, [1, 2, 1, 0, 1, 1], 0, [], "", true, none, none, (0, 0, 1), ""⟩
def TG_OFFSET : ObjDef := ⟨"OFFSET", 0x6300, 8, 0x04, 1, .q15, [1, 2, 1, 0, 1, 1], 0, [], "", true, none, none, (0, 0, 1), ""⟩
def TG_F0 : ObjDef := ⟨"F0", 0x6300, 8, 0x05, 1, .f32, [1, 2, 1, 0, 1, 1], 0, [], "", true, none, none, (0, 0, 1), ""⟩
def TG_F1 : ObjDef := ⟨"F1", 0x6300, 8, 0x06, 1, .f32, [1, 2, 1, 0, 1, 1], 0, [], "", true, none, none, (0, 0, 1), ""⟩
def TG_DURATION_MS : ObjDef := ⟨"DURATION_MS", 0x6300, 8, 0x07, 1, .u32, [1, 2, 1, 0, 1, 1], 0, [], "", true, none, none, (0, 0, 1), ""⟩
def TG_SETTLE : ObjDef := ⟨"SETTLE", 0x6300, 8, 0x08, 1, .u16, [1, 2, 1, 0, 1, 1], 0, [], "", true, none, none, (0, 0, 1), ""⟩
def TG_DWELL : ObjDef := ⟨"DWELL", 0x6300, 8, 0x09, 1, .u16, [1, 2, 1, 0, 1, 1], 0, [], "", true, none, none, (0, 0, 1), ""⟩
def TG_NSTEPS : ObjDef := ⟨"NSTEPS", 0x6300, 8, 0x0A, 1, .u8, [1, 2, 1, 0, 1, 1], 0, [], "", true, none, none, (0, 0, 1), ""⟩
def TG_ORDER : ObjDef := ⟨"ORDER", 0x6300, 8, 0x0B, 1, .u8, [1, 2, 1, 0, 1, 1], 0, [], "", true, none, none, (0, 0, 1), ""⟩
def TG_HOLD : ObjDef := ⟨"HOLD", 0x6300, 8, 0x0C, 1, .u16, [1, 2, 1, 0, 1, 1], 0, [], "", true, none, none, (0, 0, 1), ""⟩
def TG_SEED : ObjDef := ⟨"SEED", 0x6300, 8, 0x0D, 1, .u32, [1, 2, 1, 0, 1, 1], 0, [], "", true, none, none, (0, 0, 1), ""⟩
def TG_START : ObjDef := ⟨"START", 0x6300, 8, 0x0E, 1, .u8, [0, 3, 1, 0, 1, 1], 0, [], "", false, some 1, some 1, (0, 0, 1), ""⟩
def TG_STOP : ObjDef := ⟨"STOP", 0x6300, 8, 0x0F, 1, .u8, [3, 3, 1, 0, 1, 1], 0, [], "", false, some 1, some 1, (0, 0, 1), ""⟩
def TG_STATUS : ObjDef := ⟨"STATUS", 0x6300, 8, 0x10, 1, .u32, [1, 1, 1, 0, 1, 1], 0, [], "", false, none, none, (0, 0, 1), ""⟩
def CAP_BASE : ObjDef := ⟨"BASE", 0x6400, 16, 0x01, 1, .u32, [1, 2, 1, 0, 1, 1], 0, [], "", true, none, none, (0, 0, 1), ""⟩
def CAP_FORMAT : ObjDef := ⟨"FORMAT", 0x6400, 16, 0x02, 1, .u8, [1, 2, 1, 0, 1, 1], 0, [], "", true, none, none, (0, 0, 1), ""⟩
def CAP_MODE : ObjDef := ⟨"MODE", 0x6400, 16, 0x03, 1, .u8, [1, 2, 1, 0, 1, 1], 0, [], "", true, none, none, (0, 0, 1), ""⟩
def CAP_OWNER : ObjDef := ⟨"OWNER", 0x6400, 16, 0x04, 1, .u8, [1, 2, 1, 0, 1, 1], 0, [], "", true, none, none, (0, 0, 1), ""⟩
def CAP_COUNT : ObjDef := ⟨"COUNT", 0x6400, 16, 0x05, 1, .u32, [1, 2, 1, 0, 1, 1], 0, [], "", true, none, none, (0, 0, 1), ""⟩
def CAP_ARM : ObjDef := ⟨"ARM", 0x6400, 16, 0x06, 1, .u8, [1, 2, 1, 0, 1, 1], 0, [], "", false, some 1, some 2, (0, 0, 1), ""⟩
def CAP_STATUS : ObjDef := ⟨"STATUS", 0x6400, 16, 0x07, 1, .u32, [1, 1, 1, 0, 1, 1], 0, [], "", false, none, none, (0, 0, 1), ""⟩
def CAP_T0 : ObjDef := ⟨"T0", 0x6400, 16, 0x08, 1, .time, [1, 1, 1, 0, 1, 1], 0, [], "", false, none, none, (0, 0, 1), ""⟩
def CAP_DATA : ObjDef := ⟨"DATA", 0x6400, 16, 0x40, 128, .blob, [1, 1, 1, 0, 1, 1], 0, [], "", false, none, none, (0, 4096, 1), ""⟩
def LE_SP : ObjDef := ⟨"SP", 0x6500, 1, 0x01, 128, .q15, [3, 3, 1, 0, 1, 1], 0, [], "", true, none, none, (0, 0, 1), ""⟩
def LT_ENABLED : ObjDef := ⟨"ENABLED", 0x6800, 1, 0x01, 1, .u8, [1, 1, 1, 1, 1, 1], 0, [], "", false, none, none, (0, 0, 1), ""⟩
def LT_LOAD : ObjDef := ⟨"LOAD", 0x6800, 1, 0x02, 1, .f32, [1, 1, 1, 0, 1, 1], 0, [], "", false, none, none, (0, 0, 1), "operations/s"⟩
def LT_CAPACITY_DIP : ObjDef := ⟨"CAPACITY_DIP", 0x6800, 1, 0x03, 1, .f32, [1, 1, 1, 0, 1, 1], 0, [], "", false, none, none, (0, 0, 1), "operations/s"⟩
def LT_POOL_FREE : ObjDef := ⟨"POOL_FREE", 0x6800, 1, 0x04, 1, .u16, [1, 1, 1, 0, 1, 1], 8192, [], "", false, none, none, (0, 0, 1), "entry"⟩
def LT_DATAPATH_FAULT : ObjDef := ⟨"DATAPATH_FAULT", 0x6800, 1, 0x05, 1, .bool, [1, 1, 1, 1, 1, 1], 0, [], "", false, none, none, (0, 0, 1), ""⟩
def LT_SYNC : ObjDef := ⟨"SYNC", 0x6800, 1, 0x06, 1, .blob, [1, 3, 1, 0, 1, 1], 0, [], "", false, none, none, (14, 14, 1), ""⟩
def SC_ENABLE : ObjDef := ⟨"ENABLE", 0x6900, 32, 0x01, 1, .bool, [3, 3, 1, 0, 1, 1], 0, [], "", true, none, none, (0, 0, 1), ""⟩
def SC_MODE : ObjDef := ⟨"MODE", 0x6900, 32, 0x02, 1, .u8, [1, 2, 1, 0, 1, 1], 0, [], "", true, some 0, some 3, (0, 0, 1), ""⟩
def SC_POL : ObjDef := ⟨"POL", 0x6900, 32, 0x03, 1, .u8, [1, 2, 1, 0, 1, 1], 0, [], "", true, none, none, (0, 0, 1), ""⟩
def SC_EDGE : ObjDef := ⟨"EDGE", 0x6900, 32, 0x04, 1, .u8, [1, 2, 1, 0, 1, 1], 0, [], "", true, none, none, (0, 0, 1), ""⟩
def SC_CLK_SRC : ObjDef := ⟨"CLK_SRC", 0x6900, 32, 0x05, 1, .u8, [1, 2, 1, 0, 1, 1], 0, [], "", true, none, none, (0, 0, 1), ""⟩
def SC_CLKDIV : ObjDef := ⟨"CLKDIV", 0x6900, 32, 0x06, 1, .u16, [1, 2, 1, 0, 1, 1], 80, [], "", true, some 16, some 4000, (0, 0, 1), ""⟩
def SC_FIN_MAX : ObjDef := ⟨"FIN_MAX", 0x6900, 32, 0x07, 1, .u32, [1, 2, 1, 0, 1, 1], 25000, [], "", true, none, none, (0, 0, 1), "kHz"⟩
def SC_ORDER : ObjDef := ⟨"ORDER", 0x6900, 32, 0x08, 1, .u8, [1, 2, 1, 0, 1, 1], 3, [], "", true, some 1, some 5, (0, 0, 1), ""⟩
def SC_DECIM : ObjDef := ⟨"DECIM", 0x6900, 32, 0x09, 1, .u16, [1, 2, 1, 0, 1, 1], 64, [], "", true, some 4, some 4096, (0, 0, 1), ""⟩
def SC_TAP_BASE : ObjDef := ⟨"TAP_BASE", 0x6900, 32, 0x0A, 1, .u16, [1, 2, 1, 0, 1, 1], 0, [], "", true, none, none, (0, 0, 1), "entry"⟩
def SC_TAPS : ObjDef := ⟨"TAPS", 0x6900, 32, 0x0B, 1, .u16, [1, 2, 1, 0, 1, 1], 1, [], "", true, some 1, some 512, (0, 0, 1), "entry"⟩
def SC_GD_A : ObjDef := ⟨"GD_A", 0x6900, 32, 0x0C, 1, .f32, [1, 2, 1, 0, 1, 1], 0, [], "", true, none, none, (0, 0, 1), "output sample"⟩
def SC_GD_B : ObjDef := ⟨"GD_B", 0x6900, 32, 0x0D, 1, .f32, [1, 2, 1, 0, 1, 1], 0, [], "", true, none, none, (0, 0, 1), "output sample"⟩
def SC_SWAP : ObjDef := ⟨"SWAP", 0x6900, 32, 0x0E, 1, .u16, [1, 3, 1, 0, 1, 1], 0, [], "", false, none, none, (0, 0, 1), "output sample"⟩
def SC_SERVICE : ObjDef := ⟨"SERVICE", 0x6900, 32, 0x0F, 1, .u8, [1, 3, 1, 0, 1, 1], 0, [], "", false, some 1, some 2, (0, 0, 1), ""⟩
def SC_STATUS : ObjDef := ⟨"STATUS", 0x6900, 32, 0x20, 1, .u32, [1, 1, 1, 1, 1, 1], 0, [], "", false, none, none, (0, 0, 1), ""⟩
def SC_EPOCH : ObjDef := ⟨"EPOCH", 0x6900, 32, 0x21, 1, .u8, [1, 1, 1, 1, 1, 1], 0, [], "", false, none, none, (0, 0, 1), ""⟩
def SC_INDEX : ObjDef := ⟨"INDEX", 0x6900, 32, 0x22, 1, .i32, [1, 1, 1, 1, 1, 1], 0, [], "", false, none, none, (0, 0, 1), ""⟩
def SC_VALUE : ObjDef := ⟨"VALUE", 0x6900, 32, 0x23, 1, .f32, [1, 1, 1, 1, 1, 1], 0, [], "", false, none, none, (0, 0, 1), ""⟩
def SC_TIMESTAMP : ObjDef := ⟨"TIMESTAMP", 0x6900, 32, 0x24, 1, .time, [1, 1, 1, 1, 1, 1], 0, [], "", false, none, none, (0, 0, 1), "s:ns"⟩
def SC_T_IN : ObjDef := ⟨"T_IN", 0x6900, 32, 0x25, 1, .f64, [1, 1, 1, 0, 1, 1], 0, [], "", false, none, none, (0, 0, 1), "ns"⟩
def SC_FRAME_ERRORS : ObjDef := ⟨"FRAME_ERRORS", 0x6900, 32, 0x26, 1, .u32, [1, 1, 1, 0, 1, 1], 0, [], "", false, none, none, (0, 0, 1), ""⟩
def SC_SWAP_REPLACED : ObjDef := ⟨"SWAP_REPLACED", 0x6900, 32, 0x27, 1, .u32, [1, 1, 1, 0, 1, 1], 0, [], "", false, none, none, (0, 0, 1), ""⟩
def SCCMP_LEVEL0 : ObjDef := ⟨"LEVEL0", 0x6A00, 32, 0x01, 1, .i32, [1, 2, 1, 0, 1, 1], 2147483647, [], "", true, none, none, (0, 0, 1), "Q31, Q31, –, –"⟩
def SCCMP_HYST0 : ObjDef := ⟨"HYST0", 0x6A00, 32, 0x02, 1, .u32, [1, 2, 1, 0, 1, 1], 0, [], "", true, none, none, (0, 0, 1), "Q31, Q31, –, –"⟩
def SCCMP_MODE0 : ObjDef := ⟨"MODE0", 0x6A00, 32, 0x03, 1, .u8, [1, 2, 1, 0, 1, 1], 0, [], "", true, none, none, (0, 0, 1), "Q31, Q31, –, –"⟩
def SCCMP_PERSIST0 : ObjDef := ⟨"PERSIST0", 0x6A00, 32, 0x04, 1, .u8, [1, 2, 1, 0, 1, 1], 1, [], "", true, none, none, (0, 0, 1), "Q31, Q31, –, –"⟩
def SCCMP_LEVEL1 : ObjDef := ⟨"LEVEL1", 0x6A00, 32, 0x05, 1, .i32, [1, 2, 1, 0, 1, 1], 2147483647, [], "", true, none, none, (0, 0, 1), "Q31, Q31, –, –"⟩
def SCCMP_HYST1 : ObjDef := ⟨"HYST1", 0x6A00, 32, 0x06, 1, .u32, [1, 2, 1, 0, 1, 1], 0, [], "", true, none, none, (0, 0, 1), "Q31, Q31, –, –"⟩
def SCCMP_MODE1 : ObjDef := ⟨"MODE1", 0x6A00, 32, 0x07, 1, .u8, [1, 2, 1, 0, 1, 1], 0, [], "", true, none, none, (0, 0, 1), "Q31, Q31, –, –"⟩
def SCCMP_PERSIST1 : ObjDef := ⟨"PERSIST1", 0x6A00, 32, 0x08, 1, .u8, [1, 2, 1, 0, 1, 1], 1, [], "", true, none, none, (0, 0, 1), "Q31, Q31, –, –"⟩
def SCCMP_LEVEL2 : ObjDef := ⟨"LEVEL2", 0x6A00, 32, 0x09, 1, .i32, [1, 2, 1, 0, 1, 1], 2147483647, [], "", true, none, none, (0, 0, 1), "Q31, Q31, –, –"⟩
def SCCMP_HYST2 : ObjDef := ⟨"HYST2", 0x6A00, 32, 0x0A, 1, .u32, [1, 2, 1, 0, 1, 1], 0, [], "", true, none, none, (0, 0, 1), "Q31, Q31, –, –"⟩
def SCCMP_MODE2 : ObjDef := ⟨"MODE2", 0x6A00, 32, 0x0B, 1, .u8, [1, 2, 1, 0, 1, 1], 0, [], "", true, none, none, (0, 0, 1), "Q31, Q31, –, –"⟩
def SCCMP_PERSIST2 : ObjDef := ⟨"PERSIST2", 0x6A00, 32, 0x0C, 1, .u8, [1, 2, 1, 0, 1, 1], 1, [], "", true, none, none, (0, 0, 1), "Q31, Q31, –, –"⟩
def SCCMP_LEVEL3 : ObjDef := ⟨"LEVEL3", 0x6A00, 32, 0x0D, 1, .i32, [1, 2, 1, 0, 1, 1], 2147483647, [], "", true, none, none, (0, 0, 1), "Q31, Q31, –, –"⟩
def SCCMP_HYST3 : ObjDef := ⟨"HYST3", 0x6A00, 32, 0x0E, 1, .u32, [1, 2, 1, 0, 1, 1], 0, [], "", true, none, none, (0, 0, 1), "Q31, Q31, –, –"⟩
def SCCMP_MODE3 : ObjDef := ⟨"MODE3", 0x6A00, 32, 0x0F, 1, .u8, [1, 2, 1, 0, 1, 1], 0, [], "", true, none, none, (0, 0, 1), "Q31, Q31, –, –"⟩
def SCCMP_PERSIST3 : ObjDef := ⟨"PERSIST3", 0x6A00, 32, 0x10, 1, .u8, [1, 2, 1, 0, 1, 1], 1, [], "", true, none, none, (0, 0, 1), "Q31, Q31, –, –"⟩
def SCCMP_CMP_STATE : ObjDef := ⟨"CMP_STATE", 0x6A00, 32, 0x11, 4, .u32, [1, 1, 1, 1, 1, 1], 0, [], "", false, none, none, (0, 0, 1), ""⟩
def SCPOOL_COEF_A : ObjDef := ⟨"COEF_A", 0x6B00, 32, 0x01, 1, .blob, [1, 2, 1, 0, 1, 1], 0, [], "", true, none, none, (0, 4096, 1), "Q2.22"⟩
def SCPOOL_COEF_B : ObjDef := ⟨"COEF_B", 0x6B00, 32, 0x02, 1, .blob, [1, 2, 1, 0, 1, 1], 0, [], "", true, none, none, (0, 4096, 1), "Q2.22"⟩
def PFB_ENABLED : ObjDef := ⟨"ENABLED", 0x7000, 1, 0x01, 1, .u8, [1, 1, 1, 1, 1, 1], 0, [], "", false, none, none, (0, 0, 1), ""⟩
def PFB_OSC_FAULT : ObjDef := ⟨"OSC_FAULT", 0x7000, 1, 0x02, 1, .bool, [1, 1, 1, 1, 1, 1], 0, [], "", false, none, none, (0, 0, 1), ""⟩
def PF_ENABLE : ObjDef := ⟨"ENABLE", 0x7100, 32, 0x01, 1, .bool, [3, 3, 1, 0, 1, 1], 0, [], "", true, none, none, (0, 0, 1), ""⟩
def PF_PT_MODE : ObjDef := ⟨"PT_MODE", 0x7100, 32, 0x02, 1, .u8, [3, 3, 1, 0, 1, 1], 1, [], "", true, some 0, some 3, (0, 0, 1), ""⟩
def PF_SERVICE : ObjDef := ⟨"SERVICE", 0x7100, 32, 0x03, 1, .u8, [1, 3, 1, 0, 1, 1], 0, [], "", false, some 1, some 2, (0, 0, 1), ""⟩
def PF_SET_POS : ObjDef := ⟨"SET_POS", 0x7100, 32, 0x04, 1, .i64, [3, 3, 1, 0, 1, 1], 0, [], "", false, none, none, (0, 0, 1), "count"⟩
def PF_MODE : ObjDef := ⟨"MODE", 0x7100, 32, 0x05, 1, .u8, [1, 2, 1, 0, 1, 1], 0, [], "", true, none, none, (0, 0, 1), ""⟩
def PF_INV_DIR : ObjDef := ⟨"INV_DIR", 0x7100, 32, 0x06, 1, .u8, [1, 2, 1, 0, 1, 1], 0, [], "", true, none, none, (0, 0, 1), ""⟩
def PF_INDEX_EN : ObjDef := ⟨"INDEX_EN", 0x7100, 32, 0x07, 1, .u8, [1, 2, 1, 0, 1, 1], 0, [], "", true, none, none, (0, 0, 1), ""⟩
def PF_INDEX_GATE : ObjDef := ⟨"INDEX_GATE", 0x7100, 32, 0x08, 1, .u8, [1, 2, 1, 0, 1, 1], 0, [], "", true, none, none, (0, 0, 1), ""⟩
def PF_GATE_AB : ObjDef := ⟨"GATE_AB", 0x7100, 32, 0x09, 1, .u8, [1, 2, 1, 0, 1, 1], 0, [], "", true, none, none, (0, 0, 1), ""⟩
def PF_MIN_EDGE : ObjDef := ⟨"MIN_EDGE", 0x7100, 32, 0x0A, 1, .u16, [1, 2, 1, 0, 1, 1], 4, [], "", true, some 1, some 2048, (0, 0, 1), "sample"⟩
def PF_CPR : ObjDef := ⟨"CPR", 0x7100, 32, 0x0B, 1, .u32, [1, 2, 1, 0, 1, 1], 0, [], "", true, none, none, (0, 0, 1), "count"⟩
def PF_INDEX_TOL : ObjDef := ⟨"INDEX_TOL", 0x7100, 32, 0x0C, 1, .u8, [1, 2, 1, 0, 1, 1], 2, [], "", true, none, none, (0, 0, 1), "count"⟩
def PF_INDEX_VALUE : ObjDef := ⟨"INDEX_VALUE", 0x7100, 32, 0x0D, 1, .i32, [1, 2, 1, 0, 1, 1], 0, [], "", true, none, none, (0, 0, 1), "count"⟩
def PF_WIN_US : ObjDef := ⟨"WIN_US", 0x7100, 32, 0x0E, 1, .u16, [1, 2, 1, 0, 1, 1], 1000, [], "", true, some 10, some 10000, (0, 0, 1), "µs"⟩
def PF_CHG_EDGES : ObjDef := ⟨"CHG_EDGES", 0x7100, 32, 0x0F, 1, .u8, [1, 2, 1, 0, 1, 1], 16, [], "", true, none, none, (0, 0, 1), ""⟩
def PF_ZERO_MS : ObjDef := ⟨"ZERO_MS", 0x7100, 32, 0x10, 1, .u16, [1, 2, 1, 0, 1, 1], 100, [], "", true, some 1, some 10000, (0, 0, 1), "ms"⟩
def PF_POS_BITS : ObjDef := ⟨"POS_BITS", 0x7100, 32, 0x11, 1, .u8, [1, 2, 1, 0, 1, 1], 24, [], "", true, some 8, some 32, (0, 0, 1), ""⟩
def PF_SER_DIV : ObjDef := ⟨"SER_DIV", 0x7100, 32, 0x12, 1, .u16, [1, 2, 1, 0, 1, 1], 40, [], "", true, some 10, some 1000, (0, 0, 1), ""⟩
def PF_START_TIMEOUT : ObjDef := ⟨"START_TIMEOUT", 0x7100, 32, 0x13, 1, .u8, [1, 2, 1, 0, 1, 1], 16, [], "", true, some 1, some 255, (0, 0, 1), "period"⟩
def PF_LINE_DELAY : ObjDef := ⟨"LINE_DELAY", 0x7100, 32, 0x14, 1, .u8, [1, 2, 1, 0, 1, 1], 0, [], "", true, none, none, (0, 0, 1), "5 ns"⟩
def PF_LATCH_NS : ObjDef := ⟨"LATCH_NS", 0x7100, 32, 0x15, 1, .u16, [1, 2, 1, 0, 1, 1], 0, [], "", true, none, none, (0, 0, 1), "ns"⟩
def PF_PERIOD_US : ObjDef := ⟨"PERIOD_US", 0x7100, 32, 0x16, 1, .u32, [1, 2, 1, 0, 1, 1], 250, [], "", true, none, none, (0, 0, 1), "µs"⟩
def PF_PHASE_US : ObjDef := ⟨"PHASE_US", 0x7100, 32, 0x17, 1, .u32, [1, 2, 1, 0, 1, 1], 0, [], "", true, none, none, (0, 0, 1), "µs"⟩
def PF_P_SCALE : ObjDef := ⟨"P_SCALE", 0x7100, 32, 0x18, 1, .u32, [1, 2, 1, 0, 1, 1], 65536, [], "", true, none, none, (0, 0, 1), ""⟩
def PF_P_OFF : ObjDef := ⟨"P_OFF", 0x7100, 32, 0x19, 1, .i64, [1, 2, 1, 0, 1, 1], 0, [], "", true, none, none, (0, 0, 1), "count"⟩
def PF_V_FULL : ObjDef := ⟨"V_FULL", 0x7100, 32, 0x1A, 1, .u32, [1, 2, 1, 0, 1, 1], 1, [], "", true, none, none, (0, 0, 1), "counts/s"⟩
def PF_VIEW_SAT : ObjDef := ⟨"VIEW_SAT", 0x7100, 32, 0x1B, 1, .bool, [1, 2, 1, 0, 1, 1], 0, [], "", true, none, none, (0, 0, 1), ""⟩
def PF_EMU_SHIFT : ObjDef := ⟨"EMU_SHIFT", 0x7100, 32, 0x1C, 1, .u8, [1, 2, 1, 0, 1, 1], 0, [], "", true, none, none, (0, 0, 1), ""⟩
def PF_EMU_MIN : ObjDef := ⟨"EMU_MIN", 0x7100, 32, 0x1D, 1, .u16, [1, 2, 1, 0, 1, 1], 20, [], "", true, some 2, some 2048, (0, 0, 1), "sample"⟩
def PFCMP_C0 : ObjDef := ⟨"C0", 0x7200, 32, 0x01, 1, .i64, [3, 3, 1, 0, 1, 1], 0, [], "", false, none, none, (0, 0, 1), "count"⟩
def PFCMP_DIR0 : ObjDef := ⟨"DIR0", 0x7200, 32, 0x02, 1, .u8, [3, 3, 1, 0, 1, 1], 0, [], "", false, none, none, (0, 0, 1), "count"⟩
def PFCMP_FIRE_IF_PASSED0 : ObjDef := ⟨"FIRE_IF_PASSED0", 0x7200, 32, 0x03, 1, .u8, [3, 3, 1, 0, 1, 1], 0, [], "", false, none, none, (0, 0, 1), "count"⟩
def PFCMP_INTERVAL0 : ObjDef := ⟨"INTERVAL0", 0x7200, 32, 0x04, 1, .i32, [3, 3, 1, 0, 1, 1], 0, [], "", false, none, none, (0, 0, 1), "count"⟩
def PFCMP_ARM0 : ObjDef := ⟨"ARM0", 0x7200, 32, 0x05, 1, .u8, [3, 3, 1, 0, 1, 1], 0, [], "", false, none, none, (0, 0, 1), "count"⟩
def PFCMP_C1 : ObjDef := ⟨"C1", 0x7200, 32, 0x06, 1, .i64, [3, 3, 1, 0, 1, 1], 0, [], "", false, none, none, (0, 0, 1), "count"⟩
def PFCMP_DIR1 : ObjDef := ⟨"DIR1", 0x7200, 32, 0x07, 1, .u8, [3, 3, 1, 0, 1, 1], 0, [], "", false, none, none, (0, 0, 1), "count"⟩
def PFCMP_FIRE_IF_PASSED1 : ObjDef := ⟨"FIRE_IF_PASSED1", 0x7200, 32, 0x08, 1, .u8, [3, 3, 1, 0, 1, 1], 0, [], "", false, none, none, (0, 0, 1), "count"⟩
def PFCMP_INTERVAL1 : ObjDef := ⟨"INTERVAL1", 0x7200, 32, 0x09, 1, .i32, [3, 3, 1, 0, 1, 1], 0, [], "", false, none, none, (0, 0, 1), "count"⟩
def PFCMP_ARM1 : ObjDef := ⟨"ARM1", 0x7200, 32, 0x0A, 1, .u8, [3, 3, 1, 0, 1, 1], 0, [], "", false, none, none, (0, 0, 1), "count"⟩
def PFCMP_C2 : ObjDef := ⟨"C2", 0x7200, 32, 0x0B, 1, .i64, [3, 3, 1, 0, 1, 1], 0, [], "", false, none, none, (0, 0, 1), "count"⟩
def PFCMP_DIR2 : ObjDef := ⟨"DIR2", 0x7200, 32, 0x0C, 1, .u8, [3, 3, 1, 0, 1, 1], 0, [], "", false, none, none, (0, 0, 1), "count"⟩
def PFCMP_FIRE_IF_PASSED2 : ObjDef := ⟨"FIRE_IF_PASSED2", 0x7200, 32, 0x0D, 1, .u8, [3, 3, 1, 0, 1, 1], 0, [], "", false, none, none, (0, 0, 1), "count"⟩
def PFCMP_INTERVAL2 : ObjDef := ⟨"INTERVAL2", 0x7200, 32, 0x0E, 1, .i32, [3, 3, 1, 0, 1, 1], 0, [], "", false, none, none, (0, 0, 1), "count"⟩
def PFCMP_ARM2 : ObjDef := ⟨"ARM2", 0x7200, 32, 0x0F, 1, .u8, [3, 3, 1, 0, 1, 1], 0, [], "", false, none, none, (0, 0, 1), "count"⟩
def PFCMP_C3 : ObjDef := ⟨"C3", 0x7200, 32, 0x10, 1, .i64, [3, 3, 1, 0, 1, 1], 0, [], "", false, none, none, (0, 0, 1), "count"⟩
def PFCMP_DIR3 : ObjDef := ⟨"DIR3", 0x7200, 32, 0x11, 1, .u8, [3, 3, 1, 0, 1, 1], 0, [], "", false, none, none, (0, 0, 1), "count"⟩
def PFCMP_FIRE_IF_PASSED3 : ObjDef := ⟨"FIRE_IF_PASSED3", 0x7200, 32, 0x12, 1, .u8, [3, 3, 1, 0, 1, 1], 0, [], "", false, none, none, (0, 0, 1), "count"⟩
def PFCMP_INTERVAL3 : ObjDef := ⟨"INTERVAL3", 0x7200, 32, 0x13, 1, .i32, [3, 3, 1, 0, 1, 1], 0, [], "", false, none, none, (0, 0, 1), "count"⟩
def PFCMP_ARM3 : ObjDef := ⟨"ARM3", 0x7200, 32, 0x14, 1, .u8, [3, 3, 1, 0, 1, 1], 0, [], "", false, none, none, (0, 0, 1), "count"⟩
def PFST_POSITION : ObjDef := ⟨"POSITION", 0x7300, 32, 0x01, 1, .i64, [1, 1, 1, 1, 1, 1], 0, [], "", false, none, none, (0, 0, 1), "count"⟩
def PFST_SPEED : ObjDef := ⟨"SPEED", 0x7300, 32, 0x02, 1, .f64, [1, 1, 1, 1, 1, 1], 0, [], "", false, none, none, (0, 0, 1), "counts/s"⟩
def PFST_TIMESTAMP : ObjDef := ⟨"TIMESTAMP", 0x7300, 32, 0x03, 1, .time, [1, 1, 1, 1, 1, 1], 0, [], "", false, none, none, (0, 0, 1), "s:ns"⟩
def PFST_STATUS : ObjDef := ⟨"STATUS", 0x7300, 32, 0x04, 1, .u32, [1, 1, 1, 1, 1, 1], 0, [], "", false, none, none, (0, 0, 1), ""⟩
def PFST_FAULT : ObjDef := ⟨"FAULT", 0x7300, 32, 0x05, 1, .u32, [1, 1, 1, 1, 1, 1], 0, [], "", false, none, none, (0, 0, 1), ""⟩
def PFST_INDEX_CORR : ObjDef := ⟨"INDEX_CORR", 0x7300, 32, 0x06, 1, .i32, [1, 1, 1, 0, 1, 1], 0, [], "", false, none, none, (0, 0, 1), "count"⟩
def PFST_ILLEGAL : ObjDef := ⟨"ILLEGAL", 0x7300, 32, 0x07, 1, .u32, [1, 1, 1, 0, 1, 1], 0, [], "", false, none, none, (0, 0, 1), ""⟩
def PFST_GLITCH : ObjDef := ⟨"GLITCH", 0x7300, 32, 0x08, 1, .u32, [1, 1, 1, 0, 1, 1], 0, [], "", false, none, none, (0, 0, 1), ""⟩
def PFST_SER_FAULTS : ObjDef := ⟨"SER_FAULTS", 0x7300, 32, 0x09, 1, .u32, [1, 1, 1, 0, 1, 1], 0, [], "", false, none, none, (0, 0, 1), ""⟩
def PFST_DIR_INDEX : ObjDef := ⟨"DIR_INDEX", 0x7300, 32, 0x0A, 1, .u32, [1, 1, 1, 0, 1, 1], 0, [], "", false, none, none, (0, 0, 1), ""⟩
def PFST_CMP_STATE : ObjDef := ⟨"CMP_STATE", 0x7300, 32, 0x0B, 4, .u32, [1, 1, 1, 1, 1, 1], 0, [], "", false, none, none, (0, 0, 1), ""⟩
def TB_SOURCE : ObjDef := ⟨"SOURCE", 0x7800, 4, 0x01, 1, .u8, [1, 2, 1, 0, 1, 1], 0, [1, 2, 3, 0], "", true, some 0, some 4, (0, 0, 1), ""⟩
def TB_SOURCE_ARG : ObjDef := ⟨"SOURCE_ARG", 0x7800, 4, 0x02, 1, .u8, [1, 2, 1, 0, 1, 1], 0, [], "", true, none, none, (0, 0, 1), ""⟩
def TB_STEP_LIMIT : ObjDef := ⟨"STEP_LIMIT", 0x7800, 4, 0x03, 1, .u32, [1, 2, 1, 0, 1, 1], 1000000, [], "", true, some 1000, some 1000000000, (0, 0, 1), "ns"⟩
def TB_SLEW_MAX : ObjDef := ⟨"SLEW_MAX", 0x7800, 4, 0x04, 1, .u32, [1, 2, 1, 0, 1, 1], 100000, [], "", true, some 1000, some 500000, (0, 0, 1), "ppb"⟩
def TB_KP : ObjDef := ⟨"KP", 0x7800, 4, 0x05, 1, .f32, [1, 2, 1, 0, 1, 1], 1050253722, [], "", true, some (1 / 100), some 1, (0, 0, 1), ""⟩
def TB_KI : ObjDef := ⟨"KI", 0x7800, 4, 0x06, 1, .f32, [1, 2, 1, 0, 1, 1], 1022739087, [], "", true, some 0, some (1 / 2), (0, 0, 1), ""⟩
def TB_LOCK_NS : ObjDef := ⟨"LOCK_NS", 0x7800, 4, 0x07, 1, .u32, [1, 2, 1, 0, 1, 1], 1000, [], "", true, some 20, some 1000000, (0, 0, 1), "ns"⟩
def TB_HOLDOVER_MAX : ObjDef := ⟨"HOLDOVER_MAX", 0x7800, 4, 0x08, 1, .u16, [1, 2, 1, 0, 1, 1], 300, [], "", true, some 10, some 65535, (0, 0, 1), "s"⟩
def TB_FOLLOW_OFFSET : ObjDef := ⟨"FOLLOW_OFFSET", 0x7800, 4, 0x09, 1, .i64, [1, 2, 1, 0, 1, 1], 0, [], "", true, none, none, (0, 0, 1), "ns"⟩
def TB_STATE : ObjDef := ⟨"STATE", 0x7800, 4, 0x10, 1, .u8, [1, 1, 1, 1, 1, 1], 0, [], "", false, none, none, (0, 0, 1), ""⟩
def TB_OFFSET : ObjDef := ⟨"OFFSET", 0x7800, 4, 0x11, 1, .i64, [1, 1, 1, 0, 1, 1], 0, [], "", false, none, none, (0, 0, 1), "ns"⟩
def TB_RATE_PPB : ObjDef := ⟨"RATE_PPB", 0x7800, 4, 0x12, 1, .f64, [1, 1, 1, 0, 1, 1], 0, [], "", false, none, none, (0, 0, 1), "ppb"⟩
def TB_TIME : ObjDef := ⟨"TIME", 0x7800, 4, 0x13, 1, .time, [1, 1, 1, 1, 1, 1], 0, [], "", false, none, none, (0, 0, 1), "s:ns"⟩
def TB_STEP_GEN : ObjDef := ⟨"STEP_GEN", 0x7800, 4, 0x14, 1, .u16, [1, 1, 1, 0, 1, 1], 0, [], "", false, none, none, (0, 0, 1), ""⟩
def TB_STEPS : ObjDef := ⟨"STEPS", 0x7800, 4, 0x15, 1, .u32, [1, 1, 1, 0, 1, 1], 0, [], "", false, none, none, (0, 0, 1), ""⟩
def TB0_SLEW_WINDOW : ObjDef := ⟨"SLEW_WINDOW", 0x7800, 1, 0x16, 1, .u32, [1, 2, 1, 0, 1, 1], 1000, [], "", true, some 1, some 10000, (0, 0, 1), "ms"⟩
def TB0_RESYNC : ObjDef := ⟨"RESYNC", 0x7800, 1, 0x17, 1, .u8, [0, 3, 1, 0, 1, 1], 0, [], "", false, some 1, some 1, (0, 0, 1), ""⟩
def PTP_ENABLE : ObjDef := ⟨"ENABLE", 0x7804, 2, 0x01, 1, .bool, [1, 2, 1, 0, 1, 1], 1, [], "", true, none, none, (0, 0, 1), ""⟩
def PTP_DOMAIN : ObjDef := ⟨"DOMAIN", 0x7804, 2, 0x02, 1, .u8, [1, 2, 1, 0, 1, 1], 0, [0, 1], "", true, none, none, (0, 0, 1), ""⟩
def PTP_PORTS : ObjDef := ⟨"PORTS", 0x7804, 2, 0x03, 1, .u8, [1, 2, 1, 0, 1, 1], 1, [], "", true, none, none, (0, 0, 1), ""⟩
def PTP_TRANSPORT : ObjDef := ⟨"TRANSPORT", 0x7804, 2, 0x04, 1, .u8, [1, 2, 1, 0, 1, 1], 0, [], "", true, some 0, some 1, (0, 0, 1), ""⟩
def PTP_DELAY_MECH : ObjDef := ⟨"DELAY_MECH", 0x7804, 2, 0x05, 1, .u8, [1, 2, 1, 0, 1, 1], 0, [], "", true, some 0, some 1, (0, 0, 1), ""⟩
def PTP_TWO_STEP : ObjDef := ⟨"TWO_STEP", 0x7804, 2, 0x06, 1, .bool, [1, 2, 1, 0, 1, 1], 0, [], "", true, none, none, (0, 0, 1), ""⟩
def PTP_LOG_SYNC : ObjDef := ⟨"LOG_SYNC", 0x7804, 2, 0x07, 1, .i8, [1, 2, 1, 0, 1, 1], 253, [], "", true, some (-4), some 0, (0, 0, 1), ""⟩
def PTP_LOG_ANNOUNCE : ObjDef := ⟨"LOG_ANNOUNCE", 0x7804, 2, 0x08, 1, .i8, [1, 2, 1, 0, 1, 1], 0, [], "", true, some (-3), some 2, (0, 0, 1), ""⟩
def PTP_LOG_MIN_DELAY_REQ : ObjDef := ⟨"LOG_MIN_DELAY_REQ", 0x7804, 2, 0x09, 1, .i8, [1, 2, 1, 0, 1, 1], 253, [], "", true, some (-4), some 2, (0, 0, 1), ""⟩
def PTP_PRIORITY1 : ObjDef := ⟨"PRIORITY1", 0x7804, 2, 0x0A, 1, .u8, [1, 2, 1, 0, 1, 1], 248, [], "", true, none, none, (0, 0, 1), ""⟩
def PTP_PRIORITY2 : ObjDef := ⟨"PRIORITY2", 0x7804, 2, 0x0B, 1, .u8, [1, 2, 1, 0, 1, 1], 248, [], "", true, none, none, (0, 0, 1), ""⟩
def PTP_CLOCK_CLASS : ObjDef := ⟨"CLOCK_CLASS", 0x7804, 2, 0x0C, 1, .u8, [1, 2, 1, 0, 1, 1], 248, [], "", true, none, none, (0, 0, 1), ""⟩
def PTP_SLAVE_ONLY : ObjDef := ⟨"SLAVE_ONLY", 0x7804, 2, 0x0D, 1, .bool, [1, 2, 1, 0, 1, 1], 0, [], "", true, none, none, (0, 0, 1), ""⟩
def PTP_GM_IDENTITY : ObjDef := ⟨"GM_IDENTITY", 0x7804, 2, 0x10, 1, .u64, [1, 1, 1, 1, 1, 1], 0, [], "", false, none, none, (0, 0, 1), ""⟩
def PTP_PORT_STATE : ObjDef := ⟨"PORT_STATE", 0x7804, 2, 0x11, 1, .u8, [1, 1, 1, 1, 1, 1], 0, [], "", false, none, none, (0, 0, 1), ""⟩
def PTP_MEAN_PATH_DELAY : ObjDef := ⟨"MEAN_PATH_DELAY", 0x7804, 2, 0x12, 1, .i64, [1, 1, 1, 1, 1, 1], 0, [], "", false, none, none, (0, 0, 1), "ns"⟩
def PTP_UTC_OFFSET : ObjDef := ⟨"UTC_OFFSET", 0x7804, 2, 0x13, 1, .i16, [1, 1, 1, 1, 1, 1], 0, [], "", false, none, none, (0, 0, 1), "s"⟩
def PTP_ACTIVE_PORT : ObjDef := ⟨"ACTIVE_PORT", 0x7804, 2, 0x14, 1, .u8, [1, 1, 1, 1, 1, 1], 0, [], "", false, none, none, (0, 0, 1), ""⟩
def PPI_ENABLE : ObjDef := ⟨"ENABLE", 0x7810, 4, 0x01, 1, .bool, [1, 2, 1, 0, 1, 1], 0, [1, 0, 0, 0], "", true, none, none, (0, 0, 1), ""⟩
def PPI_BASE : ObjDef := ⟨"BASE", 0x7810, 4, 0x02, 1, .u8, [1, 2, 1, 0, 1, 1], 2, [], "", true, some 0, some 3, (0, 0, 1), ""⟩
def PPI_EDGE : ObjDef := ⟨"EDGE", 0x7810, 4, 0x03, 1, .u8, [1, 2, 1, 0, 1, 1], 0, [], "", true, some 0, some 1, (0, 0, 1), ""⟩
def PPI_LAST : ObjDef := ⟨"LAST", 0x7810, 4, 0x10, 1, .time, [1, 1, 1, 0, 1, 1], 0, [], "", false, none, none, (0, 0, 1), ""⟩
def PPI_QUALIFIED : ObjDef := ⟨"QUALIFIED", 0x7810, 4, 0x11, 1, .u32, [1, 1, 1, 0, 1, 1], 0, [], "", false, none, none, (0, 0, 1), ""⟩
def PPI_MISSED : ObjDef := ⟨"MISSED", 0x7810, 4, 0x12, 1, .u32, [1, 1, 1, 0, 1, 1], 0, [], "", false, none, none, (0, 0, 1), ""⟩
def PPO_ENABLE : ObjDef := ⟨"ENABLE", 0x7818, 2, 0x01, 1, .bool, [1, 2, 1, 0, 1, 1], 0, [], "", true, none, none, (0, 0, 1), ""⟩
def PPO_BASE : ObjDef := ⟨"BASE", 0x7818, 2, 0x02, 1, .u8, [1, 2, 1, 0, 1, 1], 0, [], "", true, some 0, some 3, (0, 0, 1), ""⟩
def PPO_WIDTH_US : ObjDef := ⟨"WIDTH_US", 0x7818, 2, 0x03, 1, .u32, [1, 2, 1, 0, 1, 1], 100000, [], "", true, some 1, some 500000, (0, 0, 1), "µs"⟩
def PPO_OFFSET_NS : ObjDef := ⟨"OFFSET_NS", 0x7818, 2, 0x04, 1, .i32, [1, 2, 1, 0, 1, 1], 0, [], "", true, some (-500000000), some 500000000, (0, 0, 1), "ns"⟩
def PPO_POLARITY : ObjDef := ⟨"POLARITY", 0x7818, 2, 0x05, 1, .u8, [1, 2, 1, 0, 1, 1], 0, [], "", true, some 0, some 1, (0, 0, 1), ""⟩
def PPO_ENABLE_FREE : ObjDef := ⟨"ENABLE_FREE", 0x7818, 2, 0x06, 1, .bool, [1, 2, 1, 0, 1, 1], 0, [], "", true, none, none, (0, 0, 1), ""⟩
def EMTS_TX_EXTRA : ObjDef := ⟨"TX_EXTRA", 0x7820, 8, 0x01, 1, .i32, [1, 2, 1, 0, 1, 1], 0, [], "", true, none, none, (0, 0, 1), "ns"⟩
def EMTS_RX_EXTRA : ObjDef := ⟨"RX_EXTRA", 0x7820, 8, 0x02, 1, .i32, [1, 2, 1, 0, 1, 1], 0, [], "", true, none, none, (0, 0, 1), "ns"⟩
def EMTS_ASYMMETRY : ObjDef := ⟨"ASYMMETRY", 0x7820, 8, 0x03, 1, .i32, [1, 2, 1, 0, 1, 1], 0, [], "", true, none, none, (0, 0, 1), "ns"⟩
def CANTB_CAN_BASE : ObjDef := ⟨"CAN_BASE", 0x7840, 1, 0x01, 16, .u8, [1, 2, 1, 0, 1, 1], 0, [], "", true, some 0, some 3, (0, 0, 1), ""⟩
def CAN_ENABLED : ObjDef := ⟨"ENABLED", 0x8000, 1, 0x01, 1, .u16, [1, 1, 1, 1, 1, 1], 0, [], "", false, none, none, (0, 0, 1), ""⟩
def CF_ENABLE : ObjDef := ⟨"ENABLE", 0x8100, 16, 0x01, 1, .bool, [3, 3, 1, 0, 1, 1], 0, [], "", true, none, none, (0, 0, 1), ""⟩
def CF_MODE : ObjDef := ⟨"MODE", 0x8100, 16, 0x02, 1, .u8, [1, 2, 1, 0, 1, 1], 1, [], "", true, some 1, some 3, (0, 0, 1), ""⟩
def CF_N_BRP : ObjDef := ⟨"N_BRP", 0x8100, 16, 0x03, 1, .u16, [1, 2, 1, 0, 1, 1], 1, [], "", true, some 1, some 256, (0, 0, 1), "tq"⟩
def CF_N_TSEG1 : ObjDef := ⟨"N_TSEG1", 0x8100, 16, 0x04, 1, .u16, [1, 2, 1, 0, 1, 1], 127, [], "", true, some 2, some 256, (0, 0, 1), "tq"⟩
def CF_N_TSEG2 : ObjDef := ⟨"N_TSEG2", 0x8100, 16, 0x05, 1, .u16, [1, 2, 1, 0, 1, 1], 32, [], "", true, some 1, some 128, (0, 0, 1), "tq"⟩
def CF_N_SJW : ObjDef := ⟨"N_SJW", 0x8100, 16, 0x06, 1, .u16, [1, 2, 1, 0, 1, 1], 16, [], "", true, some 1, some 128, (0, 0, 1), "tq"⟩
def CF_D_BRP : ObjDef := ⟨"D_BRP", 0x8100, 16, 0x07, 1, .u8, [1, 2, 1, 0, 1, 1], 1, [], "", true, some 1, some 32, (0, 0, 1), "tq"⟩
def CF_D_TSEG1 : ObjDef := ⟨"D_TSEG1", 0x8100, 16, 0x08, 1, .u8, [1, 2, 1, 0, 1, 1], 7, [], "", true, some 1, some 32, (0, 0, 1), "tq"⟩
def CF_D_TSEG2 : ObjDef := ⟨"D_TSEG2", 0x8100, 16, 0x09, 1, .u8, [1, 2, 1, 0, 1, 1], 2, [], "", true, some 1, some 16, (0, 0, 1), "tq"⟩
def CF_D_SJW : ObjDef := ⟨"D_SJW", 0x8100, 16, 0x0A, 1, .u8, [1, 2, 1, 0, 1, 1], 2, [], "", true, some 1, some 16, (0, 0, 1), "tq"⟩
def CF_TDC_OFFSET : ObjDef := ⟨"TDC_OFFSET", 0x8100, 16, 0x0B, 1, .u8, [1, 2, 1, 0, 1, 1], 8, [], "", true, none, none, (0, 0, 1), "12.5 ns"⟩
def CF_FLAGS : ObjDef := ⟨"FLAGS", 0x8100, 16, 0x0C, 1, .u8, [1, 2, 1, 0, 1, 1], 1, [], "", true, none, none, (0, 0, 1), ""⟩
def CF_RX_LOG2 : ObjDef := ⟨"RX_LOG2", 0x8100, 16, 0x0D, 1, .u8, [1, 2, 1, 0, 1, 1], 10, [], "", true, some 6, some 14, (0, 0, 1), ""⟩
def CF_SERVICE : ObjDef := ⟨"SERVICE", 0x8100, 16, 0x0E, 1, .u8, [1, 3, 1, 0, 1, 1], 0, [], "", false, some 1, some 2, (0, 0, 1), ""⟩
def CF_RECOVER : ObjDef := ⟨"RECOVER", 0x8100, 16, 0x0F, 1, .u8, [0, 3, 1, 0, 1, 1], 0, [], "", false, some 1, some 1, (0, 0, 1), ""⟩
def CFST_STATE : ObjDef := ⟨"STATE", 0x8200, 16, 0x01, 1, .u8, [1, 1, 1, 1, 1, 1], 0, [], "", false, none, none, (0, 0, 1), ""⟩
def CFST_ERR_STATE : ObjDef := ⟨"ERR_STATE", 0x8200, 16, 0x02, 1, .u8, [1, 1, 1, 1, 1, 1], 0, [], "", false, none, none, (0, 0, 1), ""⟩
def CFST_TEC : ObjDef := ⟨"TEC", 0x8200, 16, 0x03, 1, .u16, [1, 1, 1, 1, 1, 1], 0, [], "", false, none, none, (0, 0, 1), ""⟩
def CFST_REC : ObjDef := ⟨"REC", 0x8200, 16, 0x04, 1, .u8, [1, 1, 1, 1, 1, 1], 0, [], "", false, none, none, (0, 0, 1), ""⟩
def CFST_ALONE : ObjDef := ⟨"ALONE", 0x8200, 16, 0x05, 1, .bool, [1, 1, 1, 1, 1, 1], 0, [], "", false, none, none, (0, 0, 1), ""⟩
def CFST_RX_FRAMES : ObjDef := ⟨"RX_FRAMES", 0x8200, 16, 0x06, 1, .u64, [1, 1, 1, 0, 1, 1], 0, [], "", false, none, none, (0, 0, 1), ""⟩
def CFST_RX_LOST : ObjDef := ⟨"RX_LOST", 0x8200, 16, 0x07, 1, .u32, [1, 1, 1, 0, 1, 1], 0, [], "", false, none, none, (0, 0, 1), ""⟩
def CFST_TX_FRAMES : ObjDef := ⟨"TX_FRAMES", 0x8200, 16, 0x08, 1, .u64, [1, 1, 1, 0, 1, 1], 0, [], "", false, none, none, (0, 0, 1), ""⟩
def CFST_BUS_OFF_COUNT : ObjDef := ⟨"BUS_OFF_COUNT", 0x8200, 16, 0x09, 1, .u32, [1, 1, 1, 0, 1, 1], 0, [], "", false, none, none, (0, 0, 1), ""⟩
def CFST_ERRORS : ObjDef := ⟨"ERRORS", 0x8200, 16, 0x0A, 1, .blob, [1, 1, 1, 0, 1, 1], 0, [], "", false, none, none, (0, 4096, 1), ""⟩
def CFST_ALARM_SHARE : ObjDef := ⟨"ALARM_SHARE", 0x8200, 16, 0x0B, 1, .f32, [1, 1, 1, 0, 1, 1], 0, [], "", false, none, none, (0, 0, 1), ""⟩
def CFST_TAP_REPLACED : ObjDef := ⟨"TAP_REPLACED", 0x8200, 16, 0x0C, 1, .u32, [1, 1, 1, 0, 1, 1], 0, [], "", false, none, none, (0, 0, 1), ""⟩
def CAN_THRUSTER_MAP : ObjDef := ⟨"THRUSTER_MAP", 0x8300, 1, 0x01, 32, .u8, [1, 2, 1, 0, 1, 1], 255, [], "", true, none, none, (0, 0, 1), ""⟩
def SET_SET_ID : ObjDef := ⟨"SET_ID", 0x1010, 1, 0x01, 1, .u8, [1, 2, 1, 1, 1, 1], 0, [], "", true, none, none, (0, 0, 1), ""⟩
def ZDP_ZDP_PORT : ObjDef := ⟨"ZDP_PORT", 0x1100, 1, 0x01, 1, .u16, [1, 1, 1, 1, 1, 1], 47301, [], "", false, none, none, (0, 0, 1), ""⟩
def ZDP_REQ_LIMIT : ObjDef := ⟨"REQ_LIMIT", 0x1100, 1, 0x02, 1, .u16, [1, 2, 1, 0, 1, 1], 2000, [], "", true, some 100, some 10000, (0, 0, 1), "1/s"⟩
def ZDP_SUBS_USED : ObjDef := ⟨"SUBS_USED", 0x1100, 1, 0x03, 1, .u16, [1, 1, 1, 0, 1, 1], 0, [], "", false, none, none, (0, 0, 1), ""⟩
def ZDP_BULK_STAGED : ObjDef := ⟨"BULK_STAGED", 0x1100, 1, 0x04, 1, .u8, [1, 1, 1, 0, 1, 1], 0, [], "", false, none, none, (0, 0, 1), ""⟩
def PORTS_PROFILE : ObjDef := ⟨"PROFILE", 0x1200, 1, 0x01, 1, .u8, [1, 1, 1, 1, 1, 1], 0, [], "", false, none, none, (0, 0, 1), ""⟩
def PORT_CLASS : ObjDef := ⟨"CLASS", 0x1201, 37, 0x01, 1, .u8, [1, 1, 1, 1, 1, 1], 0, [], "", false, none, none, (0, 0, 1), ""⟩
def PORT_PROFILE_CLASS : ObjDef := ⟨"PROFILE_CLASS", 0x1201, 37, 0x02, 1, .u8, [1, 1, 1, 1, 1, 1], 0, [], "", false, none, none, (0, 0, 1), ""⟩
def PORT_FUSE : ObjDef := ⟨"FUSE", 0x1201, 37, 0x03, 1, .blob, [1, 1, 1, 1, 1, 1], 0, [], "", false, none, none, (0, 4096, 1), ""⟩
def PORT_FUSE_ORDER : ObjDef := ⟨"FUSE_ORDER", 0x1201, 37, 0x04, 1, .u8, [0, 3, 0, 0, 0, 0], 0, [], "", false, some 0, some 5, (0, 0, 1), ""⟩
def PORT_REQUESTS : ObjDef := ⟨"REQUESTS", 0x1201, 37, 0x05, 1, .u32, [1, 1, 1, 0, 1, 1], 0, [], "", false, none, none, (0, 0, 1), ""⟩
def PORT_REFUSED : ObjDef := ⟨"REFUSED", 0x1201, 37, 0x06, 1, .u32, [1, 1, 1, 0, 1, 1], 0, [], "", false, none, none, (0, 0, 1), ""⟩
def PORT_DROPPED : ObjDef := ⟨"DROPPED", 0x1201, 37, 0x07, 1, .u32, [1, 1, 1, 0, 1, 1], 0, [], "", false, none, none, (0, 0, 1), ""⟩
def EM_ENABLE : ObjDef := ⟨"ENABLE", 0x8800, 8, 0x01, 1, .bool, [1, 3, 1, 0, 1, 1], 0, [1, 0, 0, 0, 0, 0, 0, 0], "", true, none, none, (0, 0, 1), ""⟩
def EM_INTERFACE : ObjDef := ⟨"INTERFACE", 0x8800, 8, 0x02, 1, .u8, [1, 2, 1, 0, 1, 1], 0, [], "", true, some 0, some 1, (0, 0, 1), ""⟩
def EM_SPEED100 : ObjDef := ⟨"SPEED100", 0x8800, 8, 0x03, 1, .bool, [1, 2, 1, 0, 1, 1], 0, [], "", true, none, none, (0, 0, 1), ""⟩
def EM_MAC_ADDRESS : ObjDef := ⟨"MAC_ADDRESS", 0x8800, 8, 0x04, 1, .u64, [1, 1, 1, 1, 1, 1], 0, [], "", false, none, none, (0, 0, 1), ""⟩
def EM_IPV4 : ObjDef := ⟨"IPV4", 0x8800, 8, 0x05, 1, .u32, [1, 2, 1, 0, 1, 1], 3232253450, [3232253450, 3232253451, 3232253452, 3232253453, 3232253454, 3232253455, 3232253456, 3232253457], "", true, none, none, (0, 0, 1), ""⟩
def EM_PREFIX : ObjDef := ⟨"PREFIX", 0x8800, 8, 0x06, 1, .u8, [1, 2, 1, 0, 1, 1], 24, [], "", true, some 8, some 30, (0, 0, 1), ""⟩
def EM_GATEWAY : ObjDef := ⟨"GATEWAY", 0x8800, 8, 0x07, 1, .u32, [1, 2, 1, 0, 1, 1], 0, [], "", true, none, none, (0, 0, 1), ""⟩
def EM_VLAN : ObjDef := ⟨"VLAN", 0x8800, 8, 0x08, 1, .u16, [1, 2, 1, 0, 1, 1], 0, [], "", true, some 0, some 4095, (0, 0, 1), ""⟩
def EM_SERVICE : ObjDef := ⟨"SERVICE", 0x8800, 8, 0x09, 1, .u8, [1, 3, 1, 0, 1, 1], 0, [], "", false, some 1, some 2, (0, 0, 1), ""⟩
def EM_STATE : ObjDef := ⟨"STATE", 0x8800, 8, 0x10, 1, .u8, [1, 1, 1, 0, 1, 1], 0, [], "", false, none, none, (0, 0, 1), ""⟩
def EM_RX_FRAMES : ObjDef := ⟨"RX_FRAMES", 0x8800, 8, 0x11, 1, .u64, [1, 1, 1, 0, 1, 1], 0, [], "", false, none, none, (0, 0, 1), ""⟩
def EM_TX_FRAMES : ObjDef := ⟨"TX_FRAMES", 0x8800, 8, 0x12, 1, .u64, [1, 1, 1, 0, 1, 1], 0, [], "", false, none, none, (0, 0, 1), ""⟩
def EM_RX_LOST : ObjDef := ⟨"RX_LOST", 0x8800, 8, 0x13, 1, .u32, [1, 1, 1, 0, 1, 1], 0, [], "", false, none, none, (0, 0, 1), ""⟩
def XL_ENABLE : ObjDef := ⟨"ENABLE", 0x8900, 4, 0x01, 1, .bool, [1, 3, 1, 0, 1, 1], 0, [], "", true, none, none, (0, 0, 1), ""⟩
def XL_SERVICE : ObjDef := ⟨"SERVICE", 0x8900, 4, 0x02, 1, .u8, [1, 3, 1, 0, 1, 1], 0, [], "", false, some 1, some 2, (0, 0, 1), ""⟩
def XL_STATE : ObjDef := ⟨"STATE", 0x8900, 4, 0x10, 1, .u8, [1, 1, 1, 0, 1, 1], 0, [], "", false, none, none, (0, 0, 1), ""⟩
def XL_PEER_NODE : ObjDef := ⟨"PEER_NODE", 0x8900, 4, 0x11, 1, .u16, [1, 1, 1, 0, 1, 1], 0, [], "", false, none, none, (0, 0, 1), ""⟩
def XL_CRC_ERRORS : ObjDef := ⟨"CRC_ERRORS", 0x8900, 4, 0x12, 1, .u32, [1, 1, 1, 0, 1, 1], 0, [], "", false, none, none, (0, 0, 1), ""⟩
def SU_ENABLE : ObjDef := ⟨"ENABLE", 0x8A00, 8, 0x01, 1, .bool, [1, 3, 1, 0, 1, 1], 0, [], "", true, none, none, (0, 0, 1), ""⟩
def SU_MODE : ObjDef := ⟨"MODE", 0x8A00, 8, 0x02, 1, .u8, [1, 2, 1, 0, 1, 1], 0, [], "", true, some 0, some 2, (0, 0, 1), ""⟩
def SU_BAUD : ObjDef := ⟨"BAUD", 0x8A00, 8, 0x03, 1, .u32, [1, 2, 1, 0, 1, 1], 4800, [], "", true, some 1200, some 921600, (0, 0, 1), "baud"⟩
def SU_DATA_BITS : ObjDef := ⟨"DATA_BITS", 0x8A00, 8, 0x04, 1, .u8, [1, 2, 1, 0, 1, 1], 8, [], "", true, some 7, some 8, (0, 0, 1), ""⟩
def SU_PARITY : ObjDef := ⟨"PARITY", 0x8A00, 8, 0x05, 1, .u8, [1, 2, 1, 0, 1, 1], 0, [], "", true, some 0, some 2, (0, 0, 1), ""⟩
def SU_STOP_BITS : ObjDef := ⟨"STOP_BITS", 0x8A00, 8, 0x06, 1, .u8, [1, 2, 1, 0, 1, 1], 1, [], "", true, some 1, some 2, (0, 0, 1), ""⟩
def SU_SERVICE : ObjDef := ⟨"SERVICE", 0x8A00, 8, 0x07, 1, .u8, [1, 3, 1, 0, 1, 1], 0, [], "", false, some 1, some 2, (0, 0, 1), ""⟩
def SU_STATE : ObjDef := ⟨"STATE", 0x8A00, 8, 0x10, 1, .u8, [1, 1, 1, 0, 1, 1], 0, [], "", false, none, none, (0, 0, 1), ""⟩
def SU_BYTES_RX : ObjDef := ⟨"BYTES_RX", 0x8A00, 8, 0x11, 1, .u64, [1, 1, 1, 0, 1, 1], 0, [], "", false, none, none, (0, 0, 1), ""⟩
def SU_ERRORS : ObjDef := ⟨"ERRORS", 0x8A00, 8, 0x12, 1, .blob, [1, 1, 1, 0, 1, 1], 0, [], "", false, none, none, (0, 4096, 1), ""⟩
def JE_JOURNAL_STATE : ObjDef := ⟨"JOURNAL_STATE", 0x9600, 1, 0x01, 1, .u8, [1, 1, 1, 1, 1, 1], 0, [], "", false, none, none, (0, 0, 1), ""⟩
def JE_SEQUENCER : ObjDef := ⟨"SEQUENCER", 0x9600, 1, 0x02, 1, .u16, [1, 1, 1, 1, 1, 1], 65535, [], "", false, none, none, (0, 0, 1), ""⟩
def JE_OSN_HIGH : ObjDef := ⟨"OSN_HIGH", 0x9600, 1, 0x03, 1, .u64, [1, 1, 1, 0, 1, 1], 0, [], "", true, none, none, (0, 0, 1), ""⟩
def JE_OSN_COMMIT : ObjDef := ⟨"OSN_COMMIT", 0x9600, 1, 0x04, 1, .u64, [1, 1, 1, 0, 1, 1], 0, [], "", true, none, none, (0, 0, 1), ""⟩
def JE_OSN_APPLIED : ObjDef := ⟨"OSN_APPLIED", 0x9600, 1, 0x05, 1, .u64, [1, 1, 1, 1, 1, 1], 0, [], "", true, none, none, (0, 0, 1), ""⟩
def JE_OSN_OLDEST : ObjDef := ⟨"OSN_OLDEST", 0x9600, 1, 0x06, 1, .u64, [1, 1, 1, 0, 1, 1], 0, [], "", false, none, none, (0, 0, 1), ""⟩
def JE_HELD : ObjDef := ⟨"HELD", 0x9600, 1, 0x07, 1, .u8, [1, 1, 1, 0, 1, 1], 0, [], "", false, none, none, (0, 0, 1), ""⟩
def JE_SOLO_ALLOWED : ObjDef := ⟨"SOLO_ALLOWED", 0x9600, 1, 0x08, 1, .bool, [1, 2, 1, 0, 1, 1], 1, [], "", true, none, none, (0, 0, 1), ""⟩
def JE_SOLO_DELAY : ObjDef := ⟨"SOLO_DELAY", 0x9600, 1, 0x09, 1, .u16, [1, 2, 1, 0, 1, 1], 1000, [], "", true, some 500, some 10000, (0, 0, 1), "ms"⟩
def JE_DUPLICATES : ObjDef := ⟨"DUPLICATES", 0x9600, 1, 0x0A, 1, .u32, [1, 1, 1, 0, 1, 1], 0, [], "", false, none, none, (0, 0, 1), ""⟩
def JE_DROPPED_HELD : ObjDef := ⟨"DROPPED_HELD", 0x9600, 1, 0x0B, 1, .u32, [1, 1, 1, 0, 1, 1], 0, [], "", false, none, none, (0, 0, 1), ""⟩
def JE_APPLY_REFUSED : ObjDef := ⟨"APPLY_REFUSED", 0x9600, 1, 0x0C, 1, .u32, [1, 1, 1, 0, 1, 1], 0, [], "", false, none, none, (0, 0, 1), ""⟩
def JE_FORK_RESOLVE : ObjDef := ⟨"FORK_RESOLVE", 0x9600, 1, 0x0D, 1, .u8, [1, 2, 1, 0, 1, 1], 0, [], "", false, some 1, some 1, (0, 0, 1), ""⟩
def JE_LAST_REFUSED : ObjDef := ⟨"LAST_REFUSED", 0x9600, 1, 0x10, 1, .blob, [1, 1, 1, 1, 1, 1], 0, [], "", false, none, none, (0, 4096, 1), ""⟩
def CLAIM_MEMBERS : ObjDef := ⟨"MEMBERS", 0x9000, 1, 0x01, 3, .u16, [1, 2, 1, 1, 1, 1], 65535, [], "", true, none, none, (0, 0, 1), ""⟩
def CLAIM_DEVICE_INDEX : ObjDef := ⟨"DEVICE_INDEX", 0x9000, 1, 0x04, 1, .u8, [1, 1, 1, 1, 1, 1], 255, [], "", false, none, none, (0, 0, 1), ""⟩
def CLAIM_EPOCH : ObjDef := ⟨"EPOCH", 0x9000, 1, 0x05, 1, .u8, [1, 1, 1, 1, 1, 1], 0, [], "", true, none, none, (0, 0, 1), ""⟩
def CLAIM_EPOCH_ADVANCE : ObjDef := ⟨"EPOCH_ADVANCE", 0x9000, 1, 0x06, 1, .u8, [0, 3, 1, 0, 1, 1], 0, [], "", false, some 1, some 1, (0, 0, 1), ""⟩
def CLAIM_LEASE_MS : ObjDef := ⟨"LEASE_MS", 0x9000, 1, 0x07, 1, .u16, [0, 3, 1, 0, 1, 1], 60, [], "", true, some 20, some 500, (0, 0, 1), "ms"⟩
def CLAIM_LEADER_INDEX : ObjDef := ⟨"LEADER_INDEX", 0x9000, 1, 0x08, 1, .u8, [3, 3, 1, 0, 1, 1], 0, [], "", true, some 0, some 2, (0, 0, 1), ""⟩
def CLAIM_ROTATE_H : ObjDef := ⟨"ROTATE_H", 0x9000, 1, 0x09, 1, .u16, [0, 3, 1, 0, 1, 1], 24, [], "", true, some 0, some 720, (0, 0, 1), "h"⟩
def CLAIM_VOTE_BOUND : ObjDef := ⟨"VOTE_BOUND", 0x9000, 1, 0x0A, 1, .f32, [0, 3, 1, 0, 1, 1], 1028443341, [], "", true, some (1 / 100), some (1 / 2), (0, 0, 1), ""⟩
def CLAIM_VOTE_STEPS : ObjDef := ⟨"VOTE_STEPS", 0x9000, 1, 0x0B, 1, .u8, [0, 3, 1, 0, 1, 1], 20, [], "", true, some 1, some 240, (0, 0, 1), "step"⟩
def CLAIM_VOTE_OUT_MAX : ObjDef := ⟨"VOTE_OUT_MAX", 0x9000, 1, 0x0C, 1, .u8, [0, 3, 1, 0, 1, 1], 3, [], "", true, some 1, some 20, (0, 0, 1), ""⟩
def CLAIM_EST_BOUND : ObjDef := ⟨"EST_BOUND", 0x9000, 1, 0x0D, 1, .f32, [0, 3, 1, 0, 1, 1], 1056964608, [], "", true, none, none, (0, 0, 1), "m"⟩
def CLAIM_EST_HEAD_BOUND : ObjDef := ⟨"EST_HEAD_BOUND", 0x9000, 1, 0x0E, 1, .f32, [0, 3, 1, 0, 1, 1], 1008981770, [], "", true, none, none, (0, 0, 1), "rad"⟩
def CLAIM_PROOF_DELAY : ObjDef := ⟨"PROOF_DELAY", 0x9000, 1, 0x0F, 1, .u16, [0, 3, 1, 0, 1, 1], 60, [], "", true, some 10, some 3600, (0, 0, 1), "s"⟩
def CLAIM_TAP_EM_MASK : ObjDef := ⟨"TAP_EM_MASK", 0x9000, 1, 0x10, 1, .u8, [1, 2, 1, 0, 1, 1], 0, [], "", true, none, none, (0, 0, 1), ""⟩
def CLAIM_CMD_DEST : ObjDef := ⟨"CMD_DEST", 0x9000, 1, 0x11, 1, .u32, [1, 2, 1, 0, 1, 1], 0, [], "", true, none, none, (0, 0, 1), ""⟩
def CLAIMST_CLAIM : ObjDef := ⟨"CLAIM", 0x9010, 1, 0x01, 1, .u32, [1, 1, 1, 1, 1, 1], 0, [], "", false, none, none, (0, 0, 1), ""⟩
def CLAIMST_RANK : ObjDef := ⟨"RANK", 0x9010, 1, 0x02, 1, .u8, [1, 1, 1, 1, 1, 1], 0, [], "", false, none, none, (0, 0, 1), ""⟩
def CLAIMST_HEALTH : ObjDef := ⟨"HEALTH", 0x9010, 1, 0x03, 1, .u16, [1, 1, 1, 1, 1, 1], 0, [], "", false, none, none, (0, 0, 1), ""⟩
def CLAIMST_RANK_CEIL : ObjDef := ⟨"RANK_CEIL", 0x9010, 1, 0x04, 1, .u8, [1, 1, 1, 1, 1, 1], 0, [], "", false, none, none, (0, 0, 1), ""⟩
def CLAIMST_HEALTH_CEIL : ObjDef := ⟨"HEALTH_CEIL", 0x9010, 1, 0x05, 1, .u16, [1, 1, 1, 1, 1, 1], 0, [], "", false, none, none, (0, 0, 1), ""⟩
def CLAIMST_CEIL_CAUSES : ObjDef := ⟨"CEIL_CAUSES", 0x9010, 1, 0x06, 1, .u16, [1, 1, 1, 0, 1, 1], 0, [], "", false, none, none, (0, 0, 1), ""⟩
def CLAIMST_LEADER_VIEW : ObjDef := ⟨"LEADER_VIEW", 0x9010, 1, 0x07, 1, .u8, [1, 1, 1, 1, 1, 1], 255, [], "", false, none, none, (0, 0, 1), ""⟩
def CLAIMST_VOTE_FLAGS : ObjDef := ⟨"VOTE_FLAGS", 0x9010, 1, 0x08, 1, .u32, [1, 1, 1, 1, 1, 1], 0, [], "", false, none, none, (0, 0, 1), ""⟩
def CLAIMST_OWN_DISTANCE : ObjDef := ⟨"OWN_DISTANCE", 0x9010, 1, 0x09, 1, .f32, [1, 1, 1, 0, 1, 1], 0, [], "", false, none, none, (0, 0, 1), ""⟩
def CLAIMST_OUT_RUN : ObjDef := ⟨"OUT_RUN", 0x9010, 1, 0x0A, 1, .u8, [1, 1, 1, 0, 1, 1], 0, [], "", false, none, none, (0, 0, 1), ""⟩
def CLAIMST_IN_RUN : ObjDef := ⟨"IN_RUN", 0x9010, 1, 0x0B, 1, .u8, [1, 1, 1, 0, 1, 1], 0, [], "", false, none, none, (0, 0, 1), ""⟩
def CLAIMST_LAST_ROTATION : ObjDef := ⟨"LAST_ROTATION", 0x9010, 1, 0x0C, 1, .time, [1, 1, 1, 0, 1, 1], 0, [], "", false, none, none, (0, 0, 1), "s:ns"⟩
def CLAIMST_COMPLETE : ObjDef := ⟨"COMPLETE", 0x9010, 1, 0x0D, 1, .bool, [1, 1, 1, 1, 1, 1], 0, [], "", false, none, none, (0, 0, 1), ""⟩
def CLAIMST_PEER_CLAIMS : ObjDef := ⟨"PEER_CLAIMS", 0x9010, 1, 0x0E, 1, .blob, [1, 1, 1, 0, 1, 1], 0, [], "", false, none, none, (0, 4096, 1), ""⟩
def CLAIMST_PROOF_RESULT : ObjDef := ⟨"PROOF_RESULT", 0x9011, 1, 0x01, 24, .u8, [1, 1, 1, 0, 1, 1], 0, [], "", false, none, none, (0, 0, 1), ""⟩
def GATE_SET_ID : ObjDef := ⟨"SET_ID", 0x9100, 1, 0x01, 1, .u8, [1, 2, 1, 0, 1, 1], 0, [], "", true, none, none, (0, 0, 1), ""⟩
def GATE_MEMBERS : ObjDef := ⟨"MEMBERS", 0x9100, 1, 0x02, 3, .u16, [1, 2, 1, 0, 1, 1], 65535, [], "", true, none, none, (0, 0, 1), ""⟩
def GATE_NOLEASE_HOLD_MS : ObjDef := ⟨"NOLEASE_HOLD_MS", 0x9100, 1, 0x05, 1, .u16, [0, 3, 1, 0, 1, 1], 200, [], "", true, some 0, some 1000, (0, 0, 1), "ms"⟩
def GATE_CROSS_EN : ObjDef := ⟨"CROSS_EN", 0x9100, 1, 0x06, 1, .bool, [0, 3, 1, 0, 1, 1], 0, [], "", true, none, none, (0, 0, 1), ""⟩
def GATE_CROSS_BOUND : ObjDef := ⟨"CROSS_BOUND", 0x9100, 1, 0x07, 1, .i16, [0, 3, 1, 0, 1, 1], 1638, [], "", true, none, none, (0, 0, 1), "Q15"⟩
def GATE_FENCE_S : ObjDef := ⟨"FENCE_S", 0x9100, 1, 0x08, 1, .u8, [0, 3, 1, 0, 1, 1], 10, [], "", true, some 1, some 255, (0, 0, 1), "s"⟩
def GATE_HOLDER_NODE : ObjDef := ⟨"HOLDER_NODE", 0x9100, 1, 0x10, 1, .u16, [1, 1, 1, 1, 1, 1], 65535, [], "", false, none, none, (0, 0, 1), ""⟩
def GATE_HOLDER_CLAIM : ObjDef := ⟨"HOLDER_CLAIM", 0x9100, 1, 0x11, 1, .u32, [1, 1, 1, 1, 1, 1], 0, [], "", false, none, none, (0, 0, 1), ""⟩
def GATE_EPOCH_HI : ObjDef := ⟨"EPOCH_HI", 0x9100, 1, 0x12, 1, .u8, [1, 1, 1, 1, 1, 1], 0, [], "", false, none, none, (0, 0, 1), ""⟩
def GATE_REFUSED : ObjDef := ⟨"REFUSED", 0x9100, 1, 0x13, 1, .blob, [1, 1, 1, 0, 1, 1], 0, [], "", false, none, none, (0, 4096, 1), ""⟩
def GATE_SWITCHES : ObjDef := ⟨"SWITCHES", 0x9100, 1, 0x14, 1, .u32, [1, 1, 1, 0, 1, 1], 0, [], "", false, none, none, (0, 0, 1), ""⟩
def SAFE_STATE : ObjDef := ⟨"STATE", 0x9800, 1, 0x01, 1, .u8, [1, 1, 1, 1, 1, 1], 0, [], "", false, none, none, (0, 0, 1), ""⟩
def SAFE_CCV : ObjDef := ⟨"CCV", 0x9800, 1, 0x02, 1, .u32, [1, 1, 1, 1, 1, 1], 0, [], "", false, none, none, (0, 0, 1), ""⟩
def SAFE_CCV_SEALED : ObjDef := ⟨"CCV_SEALED", 0x9800, 1, 0x03, 1, .u32, [1, 1, 1, 1, 1, 1], 0, [], "", false, none, none, (0, 0, 1), ""⟩
def SAFE_OUTPUTS : ObjDef := ⟨"OUTPUTS", 0x9800, 1, 0x04, 1, .u32, [1, 1, 1, 1, 1, 1], 0, [], "", false, none, none, (0, 0, 1), ""⟩
def SAFE_SF1 : ObjDef := ⟨"SF1", 0x9800, 1, 0x05, 1, .u32, [1, 1, 1, 1, 1, 1], 0, [], "", false, none, none, (0, 0, 1), ""⟩
def SAFE_ZONES : ObjDef := ⟨"ZONES", 0x9800, 1, 0x06, 1, .u16, [1, 1, 1, 1, 1, 1], 0, [], "", false, none, none, (0, 0, 1), ""⟩
def SAFE_SF3 : ObjDef := ⟨"SF3", 0x9800, 1, 0x07, 1, .u8, [1, 1, 1, 1, 1, 1], 0, [], "", false, none, none, (0, 0, 1), ""⟩
def SAFE_CAUSES : ObjDef := ⟨"CAUSES", 0x9800, 1, 0x08, 1, .u32, [1, 1, 1, 1, 1, 1], 0, [], "", false, none, none, (0, 0, 1), ""⟩
def SAFE_HUB_LOST : ObjDef := ⟨"HUB_LOST", 0x9800, 1, 0x09, 1, .bool, [1, 1, 1, 1, 1, 1], 0, [], "", false, none, none, (0, 0, 1), ""⟩
def SAFE_PASSWORD_SET : ObjDef := ⟨"PASSWORD_SET", 0x9800, 1, 0x0A, 1, .bool, [1, 1, 1, 1, 1, 1], 0, [], "", false, none, none, (0, 0, 1), ""⟩
def SAFE_RESET_COUNTS : ObjDef := ⟨"RESET_COUNTS", 0x9800, 1, 0x0B, 1, .blob, [1, 1, 1, 0, 1, 1], 0, [], "", false, none, none, (0, 4096, 1), ""⟩
def SO_FUNCTION : ObjDef := ⟨"FUNCTION", 0x9810, 8, 0x01, 1, .u8, [1, 3, 1, 0, 1, 1], 0, [], "", true, some 0, some 3, (0, 0, 1), ""⟩
def SO_THRUSTERS : ObjDef := ⟨"THRUSTERS", 0x9810, 8, 0x02, 1, .u32, [1, 3, 1, 0, 1, 1], 0, [], "", true, none, none, (0, 0, 1), ""⟩
def SO_ZONES : ObjDef := ⟨"ZONES", 0x9810, 8, 0x03, 1, .u8, [1, 3, 1, 0, 1, 1], 0, [], "", true, none, none, (0, 0, 1), ""⟩
def SO_HUB_LOSS : ObjDef := ⟨"HUB_LOSS", 0x9810, 8, 0x04, 1, .u8, [1, 3, 1, 0, 1, 1], 0, [], "", true, some 0, some 1, (0, 0, 1), ""⟩
def SO_RESET_INPUT : ObjDef := ⟨"RESET_INPUT", 0x9810, 8, 0x05, 1, .u8, [1, 3, 1, 0, 1, 1], 0, [], "", true, some 0, some 3, (0, 0, 1), ""⟩
def SO_TEST_PULSE : ObjDef := ⟨"TEST_PULSE", 0x9810, 8, 0x06, 1, .bool, [1, 3, 1, 0, 1, 1], 1, [], "", true, none, none, (0, 0, 1), ""⟩
def SI_FUNCTION : ObjDef := ⟨"FUNCTION", 0x9820, 8, 0x01, 1, .u8, [1, 3, 1, 0, 1, 1], 0, [], "", true, some 0, some 3, (0, 0, 1), ""⟩
def SI_TYPE : ObjDef := ⟨"TYPE", 0x9820, 8, 0x02, 1, .u8, [1, 3, 1, 0, 1, 1], 0, [], "", true, none, none, (0, 0, 1), ""⟩
def SI_THRUSTERS : ObjDef := ⟨"THRUSTERS", 0x9820, 8, 0x03, 1, .u32, [1, 3, 1, 0, 1, 1], 0, [], "", true, none, none, (0, 0, 1), ""⟩
def SI_ZONES : ObjDef := ⟨"ZONES", 0x9820, 8, 0x04, 1, .u8, [1, 3, 1, 0, 1, 1], 0, [], "", true, none, none, (0, 0, 1), ""⟩
def SI_FILTER_MS : ObjDef := ⟨"FILTER_MS", 0x9820, 8, 0x05, 1, .u8, [1, 3, 1, 0, 1, 1], 5, [], "", true, none, none, (0, 0, 1), "ms"⟩
def SI_DISCREPANCY_MS : ObjDef := ⟨"DISCREPANCY_MS", 0x9820, 8, 0x06, 1, .u16, [1, 3, 1, 0, 1, 1], 100, [], "", true, none, none, (0, 0, 1), "ms"⟩
def SI_RESET_INPUT : ObjDef := ⟨"RESET_INPUT", 0x9820, 8, 0x07, 1, .u8, [1, 3, 1, 0, 1, 1], 0, [], "", true, some 0, some 3, (0, 0, 1), ""⟩
def ZONE_BLOCK_MASK : ObjDef := ⟨"BLOCK_MASK", 0x9830, 8, 0x01, 1, .u32, [1, 3, 1, 0, 1, 1], 0, [], "", true, none, none, (0, 0, 1), ""⟩
def ZONE_SECTORS : ObjDef := ⟨"SECTORS", 0x9830, 8, 0x02, 1, .blob, [1, 3, 1, 0, 1, 1], 0, [], "", true, none, none, (0, 48, 6), "Q15"⟩
def ZONE_RESET_INPUT : ObjDef := ⟨"RESET_INPUT", 0x9830, 8, 0x03, 1, .u8, [1, 3, 1, 0, 1, 1], 0, [], "", true, some 0, some 3, (0, 0, 1), ""⟩
def SAFE_AZ_SOURCES : ObjDef := ⟨"AZ_SOURCES", 0x9838, 1, 0x01, 32, .u16, [1, 3, 1, 0, 1, 1], 65535, [], "", true, none, none, (0, 0, 1), ""⟩
def SAFE_AZ_TOL : ObjDef := ⟨"AZ_TOL", 0x9839, 1, 0x01, 1, .i16, [1, 3, 1, 0, 1, 1], 364, [], "", true, none, none, (0, 0, 1), "Q15"⟩
def SAFE_SECTOR_TIME_MS : ObjDef := ⟨"SECTOR_TIME_MS", 0x9839, 1, 0x02, 1, .u16, [1, 3, 1, 0, 1, 1], 5000, [], "", true, some 100, some 30000, (0, 0, 1), "ms"⟩
def GUARD_DIR : ObjDef := ⟨"DIR", 0x9840, 16, 0x01, 1, .u8, [1, 3, 1, 0, 1, 1], 0, [], "", true, some 0, some 2, (0, 0, 1), ""⟩
def GUARD_CONN_ID : ObjDef := ⟨"CONN_ID", 0x9840, 16, 0x02, 1, .u32, [1, 3, 1, 0, 1, 1], 0, [], "", true, none, none, (0, 0, 1), ""⟩
def GUARD_PEER : ObjDef := ⟨"PEER", 0x9840, 16, 0x03, 1, .u16, [1, 3, 1, 0, 1, 1], 0, [], "", true, none, none, (0, 0, 1), ""⟩
def GUARD_PATHS : ObjDef := ⟨"PATHS", 0x9840, 16, 0x04, 1, .u32, [1, 3, 1, 0, 1, 1], 0, [], "", true, none, none, (0, 0, 1), ""⟩
def GUARD_KIND : ObjDef := ⟨"KIND", 0x9840, 16, 0x05, 1, .u8, [1, 3, 1, 0, 1, 1], 1, [], "", true, none, none, (0, 0, 1), ""⟩
def GUARD_PERIOD_MS : ObjDef := ⟨"PERIOD_MS", 0x9840, 16, 0x06, 1, .u16, [1, 3, 1, 0, 1, 1], 20, [], "", true, none, none, (0, 0, 1), "ms"⟩
def GUARD_WATCHDOG_MS : ObjDef := ⟨"WATCHDOG_MS", 0x9840, 16, 0x07, 1, .u16, [1, 3, 1, 0, 1, 1], 100, [], "", true, none, none, (0, 0, 1), "ms"⟩
def GUARD_MAX_AGE_US : ObjDef := ⟨"MAX_AGE_US", 0x9840, 16, 0x08, 1, .u32, [1, 3, 1, 0, 1, 1], 50000, [], "", true, none, none, (0, 0, 1), "µs"⟩
def GUARD_SAFE : ObjDef := ⟨"SAFE", 0x9840, 16, 0x09, 1, .blob, [1, 3, 1, 0, 1, 1], 0, [], "", true, none, none, (32, 32, 1), ""⟩
def GUARD_CONN_STATE : ObjDef := ⟨"CONN_STATE", 0x9840, 16, 0x10, 1, .u8, [1, 1, 1, 1, 1, 1], 0, [], "", false, none, none, (0, 0, 1), ""⟩
def GUARD_REJECTED : ObjDef := ⟨"REJECTED", 0x9840, 16, 0x11, 1, .blob, [1, 1, 1, 1, 1, 1], 0, [], "", false, none, none, (0, 4096, 1), ""⟩
def SF3_POS_RED : ObjDef := ⟨"POS_RED", 0x9870, 1, 0x01, 1, .f32, [1, 3, 1, 0, 1, 1], 1092616192, [], "", true, none, none, (0, 0, 1), "m"⟩
def SF3_HEAD_RED : ObjDef := ⟨"HEAD_RED", 0x9870, 1, 0x02, 1, .f32, [1, 3, 1, 0, 1, 1], 1037462772, [], "", true, none, none, (0, 0, 1), "rad"⟩
def SF3_PERSIST_MS : ObjDef := ⟨"PERSIST_MS", 0x9870, 1, 0x03, 1, .u16, [1, 3, 1, 0, 1, 1], 2000, [], "", true, none, none, (0, 0, 1), "ms"⟩
def SF3_UNKNOWN_RED : ObjDef := ⟨"UNKNOWN_RED", 0x9870, 1, 0x04, 1, .bool, [1, 3, 1, 0, 1, 1], 1, [], "", true, none, none, (0, 0, 1), ""⟩
def SF3_CA_TIMEOUT_S : ObjDef := ⟨"CA_TIMEOUT_S", 0x9870, 1, 0x05, 1, .u8, [1, 3, 1, 0, 1, 1], 25, [], "", true, some 12, some 60, (0, 0, 1), "s"⟩
def SF3_SF3_CONNS : ObjDef := ⟨"SF3_CONNS", 0x9870, 1, 0x06, 1, .u16, [1, 3, 1, 0, 1, 1], 0, [], "", true, none, none, (0, 0, 1), ""⟩
def SF3_SF3_NEED : ObjDef := ⟨"SF3_NEED", 0x9870, 1, 0x07, 1, .u8, [1, 3, 1, 0, 1, 1], 2, [], "", true, none, none, (0, 0, 1), ""⟩
def SES_SESSION_OPEN : ObjDef := ⟨"SESSION_OPEN", 0x9880, 1, 0x01, 1, .blob, [0, 3, 0, 0, 0, 0], 0, [], "", false, none, none, (32, 32, 1), ""⟩
def SES_CHALLENGE : ObjDef := ⟨"CHALLENGE", 0x9880, 1, 0x02, 1, .blob, [0, 1, 0, 0, 0, 0], 0, [], "", false, none, none, (0, 4096, 1), ""⟩
def SES_CLOSE : ObjDef := ⟨"CLOSE", 0x9880, 1, 0x03, 1, .u8, [0, 3, 0, 0, 0, 0], 0, [], "", false, none, none, (0, 0, 1), ""⟩
def SES_SEAL : ObjDef := ⟨"SEAL", 0x9880, 1, 0x04, 1, .u32, [0, 3, 0, 0, 0, 0], 0, [], "", false, none, none, (0, 0, 1), ""⟩
def SES_PASSWORD : ObjDef := ⟨"PASSWORD", 0x9880, 1, 0x05, 1, .blob, [0, 3, 0, 0, 0, 0], 0, [], "", false, none, none, (48, 48, 1), ""⟩
def SES_TEST_DEMAND : ObjDef := ⟨"TEST_DEMAND", 0x9880, 1, 0x06, 1, .blob, [0, 3, 0, 0, 0, 0], 0, [], "", false, none, none, (32, 32, 1), ""⟩
def SES_SESSION : ObjDef := ⟨"SESSION", 0x9880, 1, 0x07, 1, .u8, [1, 1, 1, 1, 1, 1], 0, [], "", false, none, none, (0, 0, 1), ""⟩
def SES_SESSION_PORT : ObjDef := ⟨"SESSION_PORT", 0x9880, 1, 0x08, 1, .u8, [1, 1, 1, 1, 1, 1], 0, [], "", false, none, none, (0, 0, 1), ""⟩
def SES_SESSION_USER : ObjDef := ⟨"SESSION_USER", 0x9880, 1, 0x09, 1, .str, [1, 1, 1, 1, 1, 1], 0, [], "", false, none, none, (0, 255, 1), ""⟩
def SES_PASSWORD_RESET : ObjDef := ⟨"PASSWORD_RESET", 0x9880, 1, 0x0A, 1, .u8, [0, 3, 0, 0, 0, 0], 0, [], "", false, none, none, (0, 0, 1), ""⟩
def SAFE_CHANGE_LOG : ObjDef := ⟨"CHANGE_LOG", 0x98F0, 1, 0x01, 4, .blob, [1, 1, 1, 0, 1, 1], 0, [], "", false, none, none, (0, 4096, 1), ""⟩
def SAFE_LOG_SEQ : ObjDef := ⟨"LOG_SEQ", 0x98F0, 1, 0x05, 1, .u32, [1, 1, 1, 0, 1, 1], 0, [], "", false, none, none, (0, 0, 1), ""⟩
def HL_RETIRED : ObjDef := ⟨"RETIRED", 0xA000, 1, 0x01, 1, .u16, [1, 1, 1, 1, 1, 1], 0, [], "", false, none, none, (0, 0, 1), ""⟩
def HL_SPARES_FREE : ObjDef := ⟨"SPARES_FREE", 0xA000, 1, 0x02, 1, .u8, [1, 1, 1, 1, 1, 1], 4, [], "", false, none, none, (0, 0, 1), ""⟩
def HL_LAST_RECORD : ObjDef := ⟨"LAST_RECORD", 0xA000, 1, 0x03, 1, .blob, [1, 1, 1, 0, 1, 1], 0, [], "", false, none, none, (0, 4096, 1), ""⟩
def HL_TILE_THRESH0 : ObjDef := ⟨"TILE_THRESH0", 0xA010, 1, 0x01, 1, .u32, [1, 2, 1, 0, 1, 1], 16, [], "", true, some 4, some 64, (0, 0, 1), ""⟩
def HL_TILE_THRESH1 : ObjDef := ⟨"TILE_THRESH1", 0xA010, 1, 0x02, 1, .u32, [1, 2, 1, 0, 1, 1], 256, [], "", true, some 64, some 1024, (0, 0, 1), ""⟩
def HL_THRESH0 : ObjDef := ⟨"THRESH0", 0xA010, 1, 0x03, 1, .u32, [1, 2, 1, 0, 1, 1], 256, [], "", true, some 64, some 1024, (0, 0, 1), ""⟩
def HL_THRESH1 : ObjDef := ⟨"THRESH1", 0xA010, 1, 0x04, 1, .u32, [1, 2, 1, 0, 1, 1], 1000, [], "", true, some 250, some 4000, (0, 0, 1), ""⟩
def HL_THRESH2 : ObjDef := ⟨"THRESH2", 0xA010, 1, 0x05, 1, .u32, [1, 2, 1, 0, 1, 1], 100, [], "", true, some 25, some 400, (0, 0, 1), ""⟩
def HL_THRESH3 : ObjDef := ⟨"THRESH3", 0xA010, 1, 0x06, 1, .u32, [1, 2, 1, 0, 1, 1], 64, [], "", true, some 16, some 256, (0, 0, 1), ""⟩
def HL_THRESH4 : ObjDef := ⟨"THRESH4", 0xA010, 1, 0x07, 1, .u32, [1, 2, 1, 0, 1, 1], 64, [], "", true, some 16, some 256, (0, 0, 1), ""⟩
def HL_THRESH5 : ObjDef := ⟨"THRESH5", 0xA010, 1, 0x08, 1, .u32, [1, 2, 1, 0, 1, 1], 64, [], "", true, some 16, some 256, (0, 0, 1), ""⟩
def HL_THRESH6 : ObjDef := ⟨"THRESH6", 0xA010, 1, 0x09, 1, .u32, [1, 2, 1, 0, 1, 1], 64, [], "", true, some 16, some 256, (0, 0, 1), ""⟩
def HL_THRESH7 : ObjDef := ⟨"THRESH7", 0xA010, 1, 0x0A, 1, .u32, [1, 2, 1, 0, 1, 1], 32, [], "", true, some 8, some 128, (0, 0, 1), ""⟩
def HL_THRESH8 : ObjDef := ⟨"THRESH8", 0xA010, 1, 0x0B, 1, .u32, [1, 2, 1, 0, 1, 1], 32, [], "", true, some 8, some 128, (0, 0, 1), ""⟩
def HL_THRESH9 : ObjDef := ⟨"THRESH9", 0xA010, 1, 0x0C, 1, .u32, [1, 2, 1, 0, 1, 1], 256, [], "", true, some 64, some 1024, (0, 0, 1), ""⟩
def HL_HEALTH_ORDER : ObjDef := ⟨"HEALTH_ORDER", 0xA020, 1, 0x01, 1, .blob, [0, 3, 1, 0, 1, 1], 0, [], "", false, none, none, (4, 4, 1), ""⟩
def HL_SCRUB_MIN : ObjDef := ⟨"SCRUB_MIN", 0xA030, 1, 0x01, 1, .u8, [1, 2, 1, 0, 1, 1], 10, [], "", true, some 1, some 60, (0, 0, 1), "min"⟩
def HL_AUTO_TEST_H : ObjDef := ⟨"AUTO_TEST_H", 0xA030, 1, 0x02, 1, .u16, [1, 2, 1, 0, 1, 1], 24, [], "", true, some 0, some 720, (0, 0, 1), "h"⟩
def HL_UNIT_STATE : ObjDef := ⟨"UNIT_STATE", 0xA100, 1, 0x01, 2, .blob, [1, 1, 1, 0, 1, 1], 0, [], "", false, none, none, (0, 4096, 1), ""⟩
def HL_HISTORY : ObjDef := ⟨"HISTORY", 0xA110, 1, 0x01, 12, .blob, [1, 1, 1, 0, 1, 1], 0, [], "", false, none, none, (0, 4096, 1), ""⟩
def LOG_EVENT_RATE : ObjDef := ⟨"EVENT_RATE", 0xB800, 1, 0x01, 1, .u16, [1, 2, 1, 0, 1, 1], 20, [], "", true, some 5, some 1000, (0, 0, 1), "1/s"⟩
def LOG_COALESCE_MS : ObjDef := ⟨"COALESCE_MS", 0xB800, 1, 0x02, 1, .u16, [1, 2, 1, 0, 1, 1], 1000, [], "", true, some 100, some 60000, (0, 0, 1), "ms"⟩
def LOG_TRACE_EN : ObjDef := ⟨"TRACE_EN", 0xB800, 1, 0x03, 1, .bool, [1, 2, 1, 0, 1, 1], 0, [], "", true, none, none, (0, 0, 1), ""⟩
def LOG_SUBS_ENDED : ObjDef := ⟨"SUBS_ENDED", 0xB800, 1, 0x04, 1, .u32, [1, 1, 1, 0, 1, 1], 0, [], "", false, none, none, (0, 0, 1), ""⟩
def LOG_RAISE_REFUSED : ObjDef := ⟨"RAISE_REFUSED", 0xB800, 1, 0x05, 1, .u32, [1, 1, 1, 0, 1, 1], 0, [], "", false, none, none, (0, 0, 1), ""⟩
def LOG_ALARM_STREAM : ObjDef := ⟨"ALARM_STREAM", 0xB810, 1, 0x01, 1, .blob, [1, 1, 1, 1, 1, 1], 0, [], "", false, none, none, (0, 4096, 1), ""⟩
def LOG_ASEQ : ObjDef := ⟨"ASEQ", 0xB810, 1, 0x02, 1, .u32, [1, 1, 1, 1, 1, 1], 0, [], "", false, none, none, (0, 0, 1), ""⟩
def LOG_RING_HEAD : ObjDef := ⟨"RING_HEAD", 0xB810, 1, 0x03, 1, .u32, [1, 1, 1, 1, 1, 1], 0, [], "", false, none, none, (0, 0, 1), ""⟩
def LOG_ALARM_RING : ObjDef := ⟨"ALARM_RING", 0xB811, 1, 0x01, 128, .blob, [1, 1, 1, 0, 1, 1], 0, [], "", false, none, none, (0, 4096, 1), ""⟩
def LOG_EVENT_STREAM : ObjDef := ⟨"EVENT_STREAM", 0xB820, 1, 0x01, 1, .blob, [1, 1, 1, 1, 1, 1], 0, [], "", false, none, none, (0, 4096, 1), ""⟩
def LOG_EVENT_RING : ObjDef := ⟨"EVENT_RING", 0xB821, 1, 0x01, 128, .blob, [1, 1, 1, 0, 1, 1], 0, [], "", false, none, none, (0, 4096, 1), ""⟩
def LOG_TRACE_STREAM : ObjDef := ⟨"TRACE_STREAM", 0xB828, 1, 0x01, 1, .blob, [1, 1, 1, 0, 1, 1], 0, [], "", false, none, none, (0, 4096, 1), ""⟩
def LOG_CATALOGUE : ObjDef := ⟨"CATALOGUE", 0xB830, 1, 0x01, 16, .blob, [1, 1, 1, 1, 1, 1], 0, [], "", false, none, none, (0, 4096, 1), ""⟩
def LOG_CATALOGUE_MORE : ObjDef := ⟨"CATALOGUE_MORE", 0xB831, 7, 0x01, 16, .blob, [1, 1, 1, 1, 1, 1], 0, [], "", false, none, none, (0, 4096, 1), ""⟩
def CNT_ENABLE : ObjDef := ⟨"ENABLE", 0xB000, 1, 0x01, 1, .bool, [1, 2, 1, 0, 1, 1], 1, [], "", false, none, none, (0, 0, 1), ""⟩
def CNT_SNAP : ObjDef := ⟨"SNAP", 0xB000, 1, 0x02, 1, .u8, [1, 2, 1, 0, 1, 1], 0, [], "", false, some 1, some 2, (0, 0, 1), ""⟩
def CNT_SNAP_AT : ObjDef := ⟨"SNAP_AT", 0xB000, 1, 0x03, 1, .time, [1, 2, 1, 0, 1, 1], 0, [], "", false, none, none, (0, 0, 1), "s:ns"⟩
def CNT_SNAP_PERIOD_MS : ObjDef := ⟨"SNAP_PERIOD_MS", 0xB000, 1, 0x04, 1, .u32, [1, 2, 1, 0, 1, 1], 0, [], "", true, some 0, some 3600000, (0, 0, 1), "ms"⟩
def CNT_SNAP_SEQ : ObjDef := ⟨"SNAP_SEQ", 0xB000, 1, 0x05, 1, .u16, [1, 1, 1, 0, 1, 1], 0, [], "", false, none, none, (0, 0, 1), ""⟩
def CNT_SNAP_TIME : ObjDef := ⟨"SNAP_TIME", 0xB000, 1, 0x06, 1, .time, [1, 1, 1, 0, 1, 1], 0, [], "", false, none, none, (0, 0, 1), "s:ns"⟩
def CNT_SNAP_FLAGS : ObjDef := ⟨"SNAP_FLAGS", 0xB000, 1, 0x07, 1, .u8, [1, 1, 1, 0, 1, 1], 0, [], "", false, none, none, (0, 0, 1), ""⟩
def EV_CONFIG : ObjDef := ⟨"CONFIG", 0xB100, 256, 0x01, 1, .u32, [1, 2, 1, 0, 1, 1], 16777216, [], "", true, none, none, (0, 0, 1), ""⟩
def EV_LIVE : ObjDef := ⟨"LIVE", 0xB100, 256, 0x02, 1, .u64, [1, 1, 1, 0, 1, 1], 0, [], "", false, none, none, (0, 0, 1), ""⟩
def EV_SNAPSHOT : ObjDef := ⟨"SNAPSHOT", 0xB100, 256, 0x03, 1, .u64, [1, 1, 1, 0, 1, 1], 0, [], "", false, none, none, (0, 0, 1), ""⟩
def EV_CHAINED : ObjDef := ⟨"CHAINED", 0xB100, 256, 0x04, 1, .blob, [1, 1, 1, 0, 1, 1], 0, [], "", false, none, none, (0, 4096, 1), ""⟩
def HIST_CONFIG : ObjDef := ⟨"CONFIG", 0xB200, 16, 0x01, 1, .u32, [1, 2, 1, 0, 1, 1], 0, [2315255809, 2315259905, 2315264001, 2315268097, 2315272193, 2215641090, 2249195523, 2249195524, 2249195525, 2249195526, 2182086663, 2182086664, 2148532233, 1048576, 1048576, 1048576], "", true, none, none, (0, 0, 1), ""⟩
def HIST_LIVE : ObjDef := ⟨"LIVE", 0xB200, 16, 0x02, 1, .blob, [1, 1, 1, 0, 1, 1], 0, [], "", false, none, none, (0, 4096, 1), ""⟩
def HIST_SNAPSHOT : ObjDef := ⟨"SNAPSHOT", 0xB200, 16, 0x03, 1, .blob, [1, 1, 1, 0, 1, 1], 0, [], "", false, none, none, (0, 4096, 1), ""⟩
def FW_VERSION : ObjDef := ⟨"VERSION", 0xC000, 1, 0x01, 1, .str, [1, 1, 1, 1, 1, 1], 0, [], "", false, none, none, (0, 255, 1), ""⟩
def FW_SEC_VERSION : ObjDef := ⟨"SEC_VERSION", 0xC000, 1, 0x02, 1, .u32, [1, 1, 1, 1, 1, 1], 0, [], "", false, none, none, (0, 0, 1), ""⟩
def FW_BUILD : ObjDef := ⟨"BUILD", 0xC000, 1, 0x03, 1, .u32, [1, 1, 1, 1, 1, 1], 0, [], "", false, none, none, (0, 0, 1), ""⟩
def FW_SLOT : ObjDef := ⟨"SLOT", 0xC000, 1, 0x04, 1, .u8, [1, 1, 1, 1, 1, 1], 0, [], "", false, none, none, (0, 0, 1), ""⟩
def FW_BOOT_STATE : ObjDef := ⟨"BOOT_STATE", 0xC000, 1, 0x05, 1, .u8, [1, 1, 1, 1, 1, 1], 0, [], "", false, none, none, (0, 0, 1), ""⟩
def FW_RESET_CAUSE : ObjDef := ⟨"RESET_CAUSE", 0xC000, 1, 0x06, 1, .u8, [1, 1, 1, 1, 1, 1], 0, [], "", false, none, none, (0, 0, 1), ""⟩
def FW_BOOT_FAIL : ObjDef := ⟨"BOOT_FAIL", 0xC000, 1, 0x07, 1, .u16, [1, 1, 1, 0, 1, 1], 0, [], "", false, none, none, (0, 0, 1), ""⟩
def FW_START_MS : ObjDef := ⟨"START_MS", 0xC000, 1, 0x08, 1, .u32, [1, 1, 1, 0, 1, 1], 0, [], "", false, none, none, (0, 0, 1), "ms"⟩
def FW_CORE_MAP : ObjDef := ⟨"CORE_MAP", 0xC000, 1, 0x09, 1, .blob, [1, 1, 1, 0, 1, 1], 0, [], "", false, none, none, (0, 4096, 1), ""⟩
def FW_SLOT_INFO : ObjDef := ⟨"SLOT_INFO", 0xC001, 1, 0x01, 2, .blob, [1, 1, 1, 0, 1, 1], 0, [], "", false, none, none, (0, 4096, 1), ""⟩
def BOOT_ACTIVATE : ObjDef := ⟨"ACTIVATE", 0xC010, 1, 0x01, 1, .blob, [0, 3, 1, 0, 1, 1], 0, [], "", false, none, none, (2, 2, 1), ""⟩
def BOOT_BOOT_SLOT : ObjDef := ⟨"BOOT_SLOT", 0xC010, 1, 0x02, 1, .u8, [1, 1, 1, 1, 1, 1], 0, [], "", false, none, none, (0, 0, 1), ""⟩
def BOOT_BOOT_RESULT : ObjDef := ⟨"BOOT_RESULT", 0xC010, 1, 0x03, 1, .blob, [0, 0, 1, 0, 1, 1], 0, [], "", false, none, none, (2, 2, 1), ""⟩
def BOOT_ROLLBACK_FLOOR : ObjDef := ⟨"ROLLBACK_FLOOR", 0xC010, 1, 0x04, 1, .u32, [1, 3, 1, 0, 1, 1], 0, [], "", false, none, none, (0, 0, 1), ""⟩
def BOOT_KEY_PIN : ObjDef := ⟨"KEY_PIN", 0xC010, 1, 0x05, 1, .blob, [1, 3, 1, 0, 1, 1], 0, [], "", false, none, none, (32, 32, 1), ""⟩
def BOOT_TRIAL_S : ObjDef := ⟨"TRIAL_S", 0xC010, 1, 0x06, 1, .u16, [1, 2, 1, 0, 1, 1], 300, [], "", true, some 60, some 3600, (0, 0, 1), "s"⟩
def BOOT_WDT_MS : ObjDef := ⟨"WDT_MS", 0xC010, 1, 0x07, 1, .u16, [1, 2, 1, 0, 1, 1], 200, [], "", true, some 10, some 10000, (0, 0, 1), "ms"⟩
def FLASH_FLASH_CHUNK : ObjDef := ⟨"FLASH_CHUNK", 0xC020, 1, 0x01, 1, .blob, [0, 2, 0, 0, 0, 2], 0, [], "", false, none, none, (0, 4096, 1), ""⟩
def FLASH_FLASH_ERASE : ObjDef := ⟨"FLASH_ERASE", 0xC020, 1, 0x02, 1, .u8, [0, 2, 0, 0, 0, 2], 0, [], "", false, some 1, some 1, (0, 0, 1), ""⟩
def FLASH_FLASH_CHECK : ObjDef := ⟨"FLASH_CHECK", 0xC020, 1, 0x03, 1, .u8, [0, 2, 0, 0, 0, 2], 0, [], "", false, some 1, some 1, (0, 0, 1), ""⟩
def FLASH_FLASH_STATUS : ObjDef := ⟨"FLASH_STATUS", 0xC020, 1, 0x04, 1, .u32, [1, 1, 1, 0, 1, 1], 0, [], "", false, none, none, (0, 0, 1), ""⟩
def FLASH_REBOOT : ObjDef := ⟨"REBOOT", 0xC020, 1, 0x05, 1, .u8, [0, 2, 0, 0, 0, 2], 0, [], "", false, some 1, some 1, (0, 0, 1), ""⟩
def GLIM_MIN0 : ObjDef := ⟨"MIN0", 0x9200, 32, 0x01, 1, .i16, [3, 3, 1, 0, 1, 1], 32768, [], "", true, none, none, (0, 0, 1), "Q15"⟩
def GLIM_MAX0 : ObjDef := ⟨"MAX0", 0x9200, 32, 0x02, 1, .i16, [3, 3, 1, 0, 1, 1], 32767, [], "", true, none, none, (0, 0, 1), "Q15"⟩
def GLIM_MIN1 : ObjDef := ⟨"MIN1", 0x9200, 32, 0x03, 1, .i16, [3, 3, 1, 0, 1, 1], 32768, [], "", true, none, none, (0, 0, 1), "Q15"⟩
def GLIM_MAX1 : ObjDef := ⟨"MAX1", 0x9200, 32, 0x04, 1, .i16, [3, 3, 1, 0, 1, 1], 32767, [], "", true, none, none, (0, 0, 1), "Q15"⟩
def GLIM_MIN2 : ObjDef := ⟨"MIN2", 0x9200, 32, 0x05, 1, .i16, [3, 3, 1, 0, 1, 1], 32768, [], "", true, none, none, (0, 0, 1), "Q15"⟩
def GLIM_MAX2 : ObjDef := ⟨"MAX2", 0x9200, 32, 0x06, 1, .i16, [3, 3, 1, 0, 1, 1], 32767, [], "", true, none, none, (0, 0, 1), "Q15"⟩
def GLIM_MIN3 : ObjDef := ⟨"MIN3", 0x9200, 32, 0x07, 1, .i16, [3, 3, 1, 0, 1, 1], 32768, [], "", true, none, none, (0, 0, 1), "Q15"⟩
def GLIM_MAX3 : ObjDef := ⟨"MAX3", 0x9200, 32, 0x08, 1, .i16, [3, 3, 1, 0, 1, 1], 32767, [], "", true, none, none, (0, 0, 1), "Q15"⟩
def GLIM_RATE : ObjDef := ⟨"RATE", 0x9200, 32, 0x09, 4, .u16, [3, 3, 1, 0, 1, 1], 65535, [], "", true, none, none, (0, 0, 1), "1/256 Q15/ms"⟩
def GLIM_ANGLE_WRAP : ObjDef := ⟨"ANGLE_WRAP", 0x9200, 32, 0x0D, 1, .bool, [3, 3, 1, 0, 1, 1], 0, [], "", true, none, none, (0, 0, 1), ""⟩
def GLIM_SECTORS : ObjDef := ⟨"SECTORS", 0x9200, 32, 0x0E, 1, .blob, [3, 3, 1, 0, 1, 1], 0, [], "", true, none, none, (0, 32, 4), "Q15"⟩
def GLIM_SAFE : ObjDef := ⟨"SAFE", 0x9200, 32, 0x0F, 1, .blob, [3, 3, 1, 0, 1, 1], 0, [], "", true, none, none, (8, 8, 1), ""⟩

/-- Part of the object table. -/
def rows0 : List ObjDef :=
  [ID_VENDOR_NAME, ID_DEVICE_NAME, ID_IDCODE, ID_STEPPING,
   ID_SERIAL, ID_ORDERING_CODE, NODE_ROLE, NODE_NODE_ID,
   NODE_NODE_ID_VALID, NODE_ROLE_FAULT, NODE_NODE_ID_ACTIVE, PHASE_EST_OFFSET,
   PHASE_EST_DEADLINE, PHASE_PLAN_RELEASE, PHASE_PLAN_DEADLINE, PHASE_VOTE_END,
   PHASE_VIS_RELEASE, PHASE_VIS_DEADLINE, PHASE_CA_RELEASE, PHASE_CA_DEADLINE,
   PHASE_PHASE_STATE, PHASE_PHASE_MISMATCH, GAUGE_VCORE_NOW, GAUGE_VCORE_MIN]

/-- Part of the object table. -/
def rows1 : List ObjDef :=
  [GAUGE_DIP_ACTIVE, GAUGE_DIP_COUNT, GAUGE_LAST_DIP, GAUGE_LONGEST_DIP,
   GAUGE_HUB_MEASURED, GAUGE_HUB_FLOOR, GAUGE_HUB_DIP, GAUGE_TEMP_HIGH,
   G_TILE_MEASURED, G_TILE_FLOOR, G_TILE_DIP, G_TILE_AGE,
   G_TILE_TEMP, G_TILE_GAUGE_FLAGS, G_TILE_A_B, G_TILE_A_H,
   KILN_KILN_MARGIN, KILN_KILN_WARN_YEARS, KILN_KILN_URGENT_YEARS, KILN_CAPACITY_NOW,
   KILN_CAPACITY_20Y, KILN_REQUIRED, KILN_KILN_STATE, GRIST_REQ_CLASS0]

/-- Part of the object table. -/
def rows2 : List ObjDef :=
  [GRIST_REQ_CLASS1, GRIST_REQ_CLASS2, GRIST_REQ_CLASS3, GRIST_GENERAL_REQ,
   GRIST_PLAN_MIN_REQ, GRIST_TABLE_GEN, GRIST_SHED, GRIST_U_MAX,
   GRIST_CONTEXTS_USED, GRIST_OPS_RESERVED, GRIST_READY, GRIST_GRANT_CLASS,
   GRIST_REFUSED_BY_REASON, VM_MASS, VM_DAMP_LIN, VM_DAMP_QU,
   VM_DAMP_QV, VM_DAMP_QR, VM_WIND_TABLE, VM_WIND_AF,
   VM_WIND_AL, VM_WIND_L, VM_WIND_RHO, EST_HUBER_K]

/-- Part of the object table. -/
def rows3 : List ObjDef :=
  [EST_REJECT_LIMIT, EST_ACCEPT_LIMIT, EST_VOTE_SPAN, EST_REJECT_CYCLES,
   EST_RETURN_CYCLES, EST_CHUNK, EST_REINIT_LIMIT, EST_DATUM_LAT,
   EST_DATUM_LON, EST_WF_OMEGA0, EST_WF_ZETA, EST_WF_AUTO,
   EST_CONFIG_SIG, EST_EST_STATE, EST_HEAD_REJECT, EST_HEAD_ACCEPT,
   EST_HEAD_CYCLES, EST_DATUM_ORDER, EST_DATUM_SHIFT, EST_NOISE0,
   EST_NOISE1, EST_NOISE2, EST_NOISE3, EST_NOISE4]

/-- Part of the object table. -/
def rows4 : List ObjDef :=
  [EST_NOISE5, EST_NOISE6, EST_NOISE7, PS_ENABLE,
   HD_ENABLE, MU_ENABLE, WS_ENABLE, PS_KIND,
   HD_KIND, MU_KIND, WS_KIND, PS_LEVER_X,
   PS_LEVER_Y, PS_LEVER_Z, HD_LEVER_X, HD_LEVER_Y,
   HD_LEVER_Z, MU_LEVER_X, MU_LEVER_Y, MU_LEVER_Z,
   WS_LEVER_X, WS_LEVER_Y, WS_LEVER_Z, PS_SIGMA]

/-- Part of the object table. -/
def rows5 : List ObjDef :=
  [HD_SIGMA, MU_SIGMA, WS_SIGMA, PS_TIMEOUT,
   HD_TIMEOUT, MU_TIMEOUT, WS_TIMEOUT, PS_BIAS_EST,
   HD_BIAS_EST, MU_BIAS_EST, WS_BIAS_EST, PS_ATT_COMP,
   HD_ATT_COMP, MU_ATT_COMP, WS_ATT_COMP, PS_TARGET_N,
   PS_TARGET_E, HD_TARGET_N, HD_TARGET_E, MU_TARGET_N,
   MU_TARGET_E, WS_SHADOW_START, WS_SHADOW_END, PS_WIRE_DEPTH]

/-- Part of the object table. -/
def rows6 : List ObjDef :=
  [HD_WIRE_DEPTH, MU_WIRE_DEPTH, WS_WIRE_DEPTH, PS_USE_QUALITY,
   HD_USE_QUALITY, MU_USE_QUALITY, WS_USE_QUALITY, PS_LAY_DOWN,
   MU_MU_LIMIT, PS_STATUS, HD_STATUS, MU_STATUS,
   WS_STATUS, PS_RESID1, PS_RESID2, PS_NRES,
   PS_MEAN_WEIGHT, HD_RESID1, HD_RESID2, HD_NRES,
   HD_MEAN_WEIGHT, MU_RESID1, MU_RESID2, MU_NRES]

/-- Part of the object table. -/
def rows7 : List ObjDef :=
  [MU_MEAN_WEIGHT, WS_RESID1, WS_RESID2, WS_NRES,
   WS_MEAN_WEIGHT, PS_USED, PS_DISCARDED, HD_USED,
   HD_DISCARDED, MU_USED, MU_DISCARDED, WS_USED,
   WS_DISCARDED, EST_N, EST_E, EST_PSI,
   EST_U, EST_V, EST_R, EST_CUR_SPEED,
   EST_CUR_DIR, EST_ENV_X, EST_ENV_Y, EST_ENV_N]

/-- Part of the object table. -/
def rows8 : List ObjDef :=
  [EST_SIGMA_POS, EST_SIGMA_PSI, EST_FLAGS, EST_CYCLE,
   EST_SHIFTED_RUN, EST_WIND_OK, VIS_VIS_ENABLE, VIS_TGT_KIND,
   VIS_TGT_NODE, VIS_TGT_N, VIS_TGT_E, VIS_TGT_PSI,
   VIS_SIGMA_PX, VIS_LM_ITER, VIS_PRIOR_POS, VIS_PRIOR_YAW,
   VIS_PRIOR_ATT, VIS_VIS_SLOT, VIS_VIS_HEADING, VIS_ST_FLAGS,
   VIS_ST_LANDMARKS, VIS_ST_OBS, VIS_ST_ANCHORS, VIS_ST_RMS]

/-- Part of the object table. -/
def rows9 : List ObjDef :=
  [VIS_ST_LAMBDA, VIS_DROPPED, VIS_ANCHOR, CAM_ENABLE,
   CAM_FX, CAM_FY, CAM_CX, CAM_CY,
   CAM_K1, CAM_K2, CAM_OX, CAM_OY,
   CAM_OZ, CAM_YAW, CAM_PITCH, CAM_ROLL,
   CAM_TIMEOUT, TH_ENABLE, TH_TYPE, TH_POS_X,
   TH_POS_Y, TH_T_AHEAD, TH_T_ASTERN, TH_CTRL_KIND]

/-- Part of the object table. -/
def rows10 : List ObjDef :=
  [TH_K_AHEAD, TH_K_ASTERN, TH_N_RATED, TH_PITCH_TABLE,
   TH_AZ_RATE, TH_THRUST_RATE, TH_BUS, TH_P_IDLE,
   TH_K_POWER, TH_C_LIFT, TH_DELTA_MAX, TH_SECTORS,
   TH_READY, TH_IN_PLAN, TH_PIECE, BUS_P_AVAIL,
   BUS_MARGIN, BUS_P_PLANNED, BUS_CLAMPED, VM_DRIFT_KN,
   VM_DRIFT_KE, VM_DRIFT_KPSI, VM_L_REF, PLAN_MODE]

/-- Part of the object table. -/
def rows11 : List ObjDef :=
  [PLAN_SETPOINT, PLAN_MOVE_SPEED, PLAN_TURN_RATE, PLAN_POS_LIMIT,
   PLAN_HEAD_LIMIT, PLAN_FORCE_DEMAND, PLAN_SCENARIOS, PLAN_BRANCH_STEP,
   PLAN_HORIZON, PLAN_ITER, PLAN_NOMINAL_WEIGHT, PLAN_SEED_SALT,
   PLAN_RESEED_S, PLAN_SIGMA_C, PLAN_TAU_STEP, PLAN_ACC_PRIMAL,
   PLAN_ACC_DUAL, PLAN_ACC_GAP, PLAN_VIOL_TOL, PLAN_A_TRUST,
   PLAN_ROOT_WINDOW, PLAN_T_LAG, PLAN_Q_POS, PLAN_Q_HEAD]

/-- Part of the object table. -/
def rows12 : List ObjDef :=
  [PLAN_Q_VEL, PLAN_Q_RATE, PLAN_Q_INT, PLAN_R_THRUST,
   PLAN_RHO_DELTA, PLAN_RHO_SOFT, PLAN_TERM_WEIGHT, PLAN_EXC_START,
   PLAN_I_LIMIT, PLAN_Q_FORCE, PLAN_PLAN_CHUNK, PLANST_PLAN_CYCLE,
   PLANST_FLAGS, PLANST_ITERATIONS, PLANST_RESID_P, PLANST_RESID_D,
   PLANST_GAP, PLANST_VIOLATION, PLANST_SCENARIOS_USED, PLANST_SHIFTED_RUN,
   PLANST_LATE, PLANST_COLD, PLANST_INFEASIBLE, PLANST_CERTIFICATE]

/-- Part of the object table. -/
def rows13 : List ObjDef :=
  [PLANST_REQ_COMPUTED, PLANST_SIGNATURE, PLANST_MAPPED, CASE_DECLARED,
   CASE_KIND, CASE_NAME, CASE_PRIORITY, CASE_THRUSTER_MASK,
   CASE_BUS_MASK, CASE_REF_MASK, CASE_POWER_AFTER, CASE_VERDICT,
   CASE_CAUSE, CASE_AGE, CASE_EXC_POS, CASE_EXC_HEAD,
   CASE_UTIL, CASE_T_EXCEED, CA_CA_ENABLE, CA_CA_HORIZON,
   CA_CA_ITER, CA_RED_POS_LIMIT, CA_RED_HEAD_LIMIT, CA_UTIL_AMBER]

/-- Part of the object table. -/
def rows14 : List ObjDef :=
  [CA_REF_K, CA_REF_MIN_POS, CA_VERDICT_MAX_AGE, CA_PUB_LEAD,
   CAST_WCF, CAST_WCF_CASE, CAST_CA_CYCLE, CAST_FLAGS,
   CAST_SCHEDULED, CAST_N_RED, CAST_N_AMBER, CAST_N_UNKNOWN,
   CAST_REQ_COMPUTED, LE_ENABLED, LE_CAPACITY_DIP, LE_WORST_MARGIN,
   LE_TRAJ_STATE, LE_TRAJ_CYCLE, LE_TRAJ_STALE_MS, LE_REPLACED,
   LE_LATE_TOTAL, LE_DATAPATH_FAULT, LP_ENABLE, LP_COMMIT]

/-- Part of the object table. -/
def rows15 : List ObjDef :=
  [LP_TRIG_KIND, LP_TRIG_ARG, LP_PERIOD, LP_PHASE,
   LP_PRIO, LP_DEADLINE, LP_LEAD, LP_SPARE,
   LP_NAME, LP_SERVICE, LP_PROGRAM, LP_ACTIVE_PROGRAM,
   LP_STATE, LP_BOUND, LP_LATE, LP_OVERRUN,
   LP_SAT, LP_LAST_EXEC, LIM_MIN0, LIM_MAX0,
   LIM_MIN1, LIM_MAX1, LIM_MIN2, LIM_MAX2]

/-- Part of the object table. -/
def rows16 : List ObjDef :=
  [LIM_MIN3, LIM_MAX3, LIM_RATE, LIM_ANGLE_WRAP,
   LIM_SECTORS, TG_KIND, TG_OWNER, TG_AMP,
   TG_OFFSET, TG_F0, TG_F1, TG_DURATION_MS,
   TG_SETTLE, TG_DWELL, TG_NSTEPS, TG_ORDER,
   TG_HOLD, TG_SEED, TG_START, TG_STOP,
   TG_STATUS, CAP_BASE, CAP_FORMAT, CAP_MODE]

/-- Part of the object table. -/
def rows17 : List ObjDef :=
  [CAP_OWNER, CAP_COUNT, CAP_ARM, CAP_STATUS,
   CAP_T0, CAP_DATA, LE_SP, LT_ENABLED,
   LT_LOAD, LT_CAPACITY_DIP, LT_POOL_FREE, LT_DATAPATH_FAULT,
   LT_SYNC, SC_ENABLE, SC_MODE, SC_POL,
   SC_EDGE, SC_CLK_SRC, SC_CLKDIV, SC_FIN_MAX,
   SC_ORDER, SC_DECIM, SC_TAP_BASE, SC_TAPS]

/-- Part of the object table. -/
def rows18 : List ObjDef :=
  [SC_GD_A, SC_GD_B, SC_SWAP, SC_SERVICE,
   SC_STATUS, SC_EPOCH, SC_INDEX, SC_VALUE,
   SC_TIMESTAMP, SC_T_IN, SC_FRAME_ERRORS, SC_SWAP_REPLACED,
   SCCMP_LEVEL0, SCCMP_HYST0, SCCMP_MODE0, SCCMP_PERSIST0,
   SCCMP_LEVEL1, SCCMP_HYST1, SCCMP_MODE1, SCCMP_PERSIST1,
   SCCMP_LEVEL2, SCCMP_HYST2, SCCMP_MODE2, SCCMP_PERSIST2]

/-- Part of the object table. -/
def rows19 : List ObjDef :=
  [SCCMP_LEVEL3, SCCMP_HYST3, SCCMP_MODE3, SCCMP_PERSIST3,
   SCCMP_CMP_STATE, SCPOOL_COEF_A, SCPOOL_COEF_B, PFB_ENABLED,
   PFB_OSC_FAULT, PF_ENABLE, PF_PT_MODE, PF_SERVICE,
   PF_SET_POS, PF_MODE, PF_INV_DIR, PF_INDEX_EN,
   PF_INDEX_GATE, PF_GATE_AB, PF_MIN_EDGE, PF_CPR,
   PF_INDEX_TOL, PF_INDEX_VALUE, PF_WIN_US, PF_CHG_EDGES]

/-- Part of the object table. -/
def rows20 : List ObjDef :=
  [PF_ZERO_MS, PF_POS_BITS, PF_SER_DIV, PF_START_TIMEOUT,
   PF_LINE_DELAY, PF_LATCH_NS, PF_PERIOD_US, PF_PHASE_US,
   PF_P_SCALE, PF_P_OFF, PF_V_FULL, PF_VIEW_SAT,
   PF_EMU_SHIFT, PF_EMU_MIN, PFCMP_C0, PFCMP_DIR0,
   PFCMP_FIRE_IF_PASSED0, PFCMP_INTERVAL0, PFCMP_ARM0, PFCMP_C1,
   PFCMP_DIR1, PFCMP_FIRE_IF_PASSED1, PFCMP_INTERVAL1, PFCMP_ARM1]

/-- Part of the object table. -/
def rows21 : List ObjDef :=
  [PFCMP_C2, PFCMP_DIR2, PFCMP_FIRE_IF_PASSED2, PFCMP_INTERVAL2,
   PFCMP_ARM2, PFCMP_C3, PFCMP_DIR3, PFCMP_FIRE_IF_PASSED3,
   PFCMP_INTERVAL3, PFCMP_ARM3, PFST_POSITION, PFST_SPEED,
   PFST_TIMESTAMP, PFST_STATUS, PFST_FAULT, PFST_INDEX_CORR,
   PFST_ILLEGAL, PFST_GLITCH, PFST_SER_FAULTS, PFST_DIR_INDEX,
   PFST_CMP_STATE, TB_SOURCE, TB_SOURCE_ARG, TB_STEP_LIMIT]

/-- Part of the object table. -/
def rows22 : List ObjDef :=
  [TB_SLEW_MAX, TB_KP, TB_KI, TB_LOCK_NS,
   TB_HOLDOVER_MAX, TB_FOLLOW_OFFSET, TB_STATE, TB_OFFSET,
   TB_RATE_PPB, TB_TIME, TB_STEP_GEN, TB_STEPS,
   TB0_SLEW_WINDOW, TB0_RESYNC, PTP_ENABLE, PTP_DOMAIN,
   PTP_PORTS, PTP_TRANSPORT, PTP_DELAY_MECH, PTP_TWO_STEP,
   PTP_LOG_SYNC, PTP_LOG_ANNOUNCE, PTP_LOG_MIN_DELAY_REQ, PTP_PRIORITY1]

/-- Part of the object table. -/
def rows23 : List ObjDef :=
  [PTP_PRIORITY2, PTP_CLOCK_CLASS, PTP_SLAVE_ONLY, PTP_GM_IDENTITY,
   PTP_PORT_STATE, PTP_MEAN_PATH_DELAY, PTP_UTC_OFFSET, PTP_ACTIVE_PORT,
   PPI_ENABLE, PPI_BASE, PPI_EDGE, PPI_LAST,
   PPI_QUALIFIED, PPI_MISSED, PPO_ENABLE, PPO_BASE,
   PPO_WIDTH_US, PPO_OFFSET_NS, PPO_POLARITY, PPO_ENABLE_FREE,
   EMTS_TX_EXTRA, EMTS_RX_EXTRA, EMTS_ASYMMETRY, CANTB_CAN_BASE]

/-- Part of the object table. -/
def rows24 : List ObjDef :=
  [CAN_ENABLED, CF_ENABLE, CF_MODE, CF_N_BRP,
   CF_N_TSEG1, CF_N_TSEG2, CF_N_SJW, CF_D_BRP,
   CF_D_TSEG1, CF_D_TSEG2, CF_D_SJW, CF_TDC_OFFSET,
   CF_FLAGS, CF_RX_LOG2, CF_SERVICE, CF_RECOVER,
   CFST_STATE, CFST_ERR_STATE, CFST_TEC, CFST_REC,
   CFST_ALONE, CFST_RX_FRAMES, CFST_RX_LOST, CFST_TX_FRAMES]

/-- Part of the object table. -/
def rows25 : List ObjDef :=
  [CFST_BUS_OFF_COUNT, CFST_ERRORS, CFST_ALARM_SHARE, CFST_TAP_REPLACED,
   CAN_THRUSTER_MAP, SET_SET_ID, ZDP_ZDP_PORT, ZDP_REQ_LIMIT,
   ZDP_SUBS_USED, ZDP_BULK_STAGED, PORTS_PROFILE, PORT_CLASS,
   PORT_PROFILE_CLASS, PORT_FUSE, PORT_FUSE_ORDER, PORT_REQUESTS,
   PORT_REFUSED, PORT_DROPPED, EM_ENABLE, EM_INTERFACE,
   EM_SPEED100, EM_MAC_ADDRESS, EM_IPV4, EM_PREFIX]

/-- Part of the object table. -/
def rows26 : List ObjDef :=
  [EM_GATEWAY, EM_VLAN, EM_SERVICE, EM_STATE,
   EM_RX_FRAMES, EM_TX_FRAMES, EM_RX_LOST, XL_ENABLE,
   XL_SERVICE, XL_STATE, XL_PEER_NODE, XL_CRC_ERRORS,
   SU_ENABLE, SU_MODE, SU_BAUD, SU_DATA_BITS,
   SU_PARITY, SU_STOP_BITS, SU_SERVICE, SU_STATE,
   SU_BYTES_RX, SU_ERRORS, JE_JOURNAL_STATE, JE_SEQUENCER]

/-- Part of the object table. -/
def rows27 : List ObjDef :=
  [JE_OSN_HIGH, JE_OSN_COMMIT, JE_OSN_APPLIED, JE_OSN_OLDEST,
   JE_HELD, JE_SOLO_ALLOWED, JE_SOLO_DELAY, JE_DUPLICATES,
   JE_DROPPED_HELD, JE_APPLY_REFUSED, JE_FORK_RESOLVE, JE_LAST_REFUSED,
   CLAIM_MEMBERS, CLAIM_DEVICE_INDEX, CLAIM_EPOCH, CLAIM_EPOCH_ADVANCE,
   CLAIM_LEASE_MS, CLAIM_LEADER_INDEX, CLAIM_ROTATE_H, CLAIM_VOTE_BOUND,
   CLAIM_VOTE_STEPS, CLAIM_VOTE_OUT_MAX, CLAIM_EST_BOUND, CLAIM_EST_HEAD_BOUND]

/-- Part of the object table. -/
def rows28 : List ObjDef :=
  [CLAIM_PROOF_DELAY, CLAIM_TAP_EM_MASK, CLAIM_CMD_DEST, CLAIMST_CLAIM,
   CLAIMST_RANK, CLAIMST_HEALTH, CLAIMST_RANK_CEIL, CLAIMST_HEALTH_CEIL,
   CLAIMST_CEIL_CAUSES, CLAIMST_LEADER_VIEW, CLAIMST_VOTE_FLAGS, CLAIMST_OWN_DISTANCE,
   CLAIMST_OUT_RUN, CLAIMST_IN_RUN, CLAIMST_LAST_ROTATION, CLAIMST_COMPLETE,
   CLAIMST_PEER_CLAIMS, CLAIMST_PROOF_RESULT, GATE_SET_ID, GATE_MEMBERS,
   GATE_NOLEASE_HOLD_MS, GATE_CROSS_EN, GATE_CROSS_BOUND, GATE_FENCE_S]

/-- Part of the object table. -/
def rows29 : List ObjDef :=
  [GATE_HOLDER_NODE, GATE_HOLDER_CLAIM, GATE_EPOCH_HI, GATE_REFUSED,
   GATE_SWITCHES, SAFE_STATE, SAFE_CCV, SAFE_CCV_SEALED,
   SAFE_OUTPUTS, SAFE_SF1, SAFE_ZONES, SAFE_SF3,
   SAFE_CAUSES, SAFE_HUB_LOST, SAFE_PASSWORD_SET, SAFE_RESET_COUNTS,
   SO_FUNCTION, SO_THRUSTERS, SO_ZONES, SO_HUB_LOSS,
   SO_RESET_INPUT, SO_TEST_PULSE, SI_FUNCTION, SI_TYPE]

/-- Part of the object table. -/
def rows30 : List ObjDef :=
  [SI_THRUSTERS, SI_ZONES, SI_FILTER_MS, SI_DISCREPANCY_MS,
   SI_RESET_INPUT, ZONE_BLOCK_MASK, ZONE_SECTORS, ZONE_RESET_INPUT,
   SAFE_AZ_SOURCES, SAFE_AZ_TOL, SAFE_SECTOR_TIME_MS, GUARD_DIR,
   GUARD_CONN_ID, GUARD_PEER, GUARD_PATHS, GUARD_KIND,
   GUARD_PERIOD_MS, GUARD_WATCHDOG_MS, GUARD_MAX_AGE_US, GUARD_SAFE,
   GUARD_CONN_STATE, GUARD_REJECTED, SF3_POS_RED, SF3_HEAD_RED]

/-- Part of the object table. -/
def rows31 : List ObjDef :=
  [SF3_PERSIST_MS, SF3_UNKNOWN_RED, SF3_CA_TIMEOUT_S, SF3_SF3_CONNS,
   SF3_SF3_NEED, SES_SESSION_OPEN, SES_CHALLENGE, SES_CLOSE,
   SES_SEAL, SES_PASSWORD, SES_TEST_DEMAND, SES_SESSION,
   SES_SESSION_PORT, SES_SESSION_USER, SES_PASSWORD_RESET, SAFE_CHANGE_LOG,
   SAFE_LOG_SEQ, HL_RETIRED, HL_SPARES_FREE, HL_LAST_RECORD,
   HL_TILE_THRESH0, HL_TILE_THRESH1, HL_THRESH0, HL_THRESH1]

/-- Part of the object table. -/
def rows32 : List ObjDef :=
  [HL_THRESH2, HL_THRESH3, HL_THRESH4, HL_THRESH5,
   HL_THRESH6, HL_THRESH7, HL_THRESH8, HL_THRESH9,
   HL_HEALTH_ORDER, HL_SCRUB_MIN, HL_AUTO_TEST_H, HL_UNIT_STATE,
   HL_HISTORY, LOG_EVENT_RATE, LOG_COALESCE_MS, LOG_TRACE_EN,
   LOG_SUBS_ENDED, LOG_RAISE_REFUSED, LOG_ALARM_STREAM, LOG_ASEQ,
   LOG_RING_HEAD, LOG_ALARM_RING, LOG_EVENT_STREAM, LOG_EVENT_RING]

/-- Part of the object table. -/
def rows33 : List ObjDef :=
  [LOG_TRACE_STREAM, LOG_CATALOGUE, LOG_CATALOGUE_MORE, CNT_ENABLE,
   CNT_SNAP, CNT_SNAP_AT, CNT_SNAP_PERIOD_MS, CNT_SNAP_SEQ,
   CNT_SNAP_TIME, CNT_SNAP_FLAGS, EV_CONFIG, EV_LIVE,
   EV_SNAPSHOT, EV_CHAINED, HIST_CONFIG, HIST_LIVE,
   HIST_SNAPSHOT, FW_VERSION, FW_SEC_VERSION, FW_BUILD,
   FW_SLOT, FW_BOOT_STATE, FW_RESET_CAUSE, FW_BOOT_FAIL]

/-- Part of the object table. -/
def rows34 : List ObjDef :=
  [FW_START_MS, FW_CORE_MAP, FW_SLOT_INFO, BOOT_ACTIVATE,
   BOOT_BOOT_SLOT, BOOT_BOOT_RESULT, BOOT_ROLLBACK_FLOOR, BOOT_KEY_PIN,
   BOOT_TRIAL_S, BOOT_WDT_MS, FLASH_FLASH_CHUNK, FLASH_FLASH_ERASE,
   FLASH_FLASH_CHECK, FLASH_FLASH_STATUS, FLASH_REBOOT, GLIM_MIN0,
   GLIM_MAX0, GLIM_MIN1, GLIM_MAX1, GLIM_MIN2,
   GLIM_MAX2, GLIM_MIN3, GLIM_MAX3, GLIM_RATE]

/-- Part of the object table. -/
def rows35 : List ObjDef :=
  [GLIM_ANGLE_WRAP, GLIM_SECTORS, GLIM_SAFE]

/-- Every entry of the dictionary that the spec defines. -/
def table : List ObjDef :=
  rows0 ++ rows1 ++ rows2 ++ rows3 ++ rows4 ++ rows5 ++
  rows6 ++ rows7 ++ rows8 ++ rows9 ++ rows10 ++ rows11 ++
  rows12 ++ rows13 ++ rows14 ++ rows15 ++ rows16 ++ rows17 ++
  rows18 ++ rows19 ++ rows20 ++ rows21 ++ rows22 ++ rows23 ++
  rows24 ++ rows25 ++ rows26 ++ rows27 ++ rows28 ++ rows29 ++
  rows30 ++ rows31 ++ rows32 ++ rows33 ++ rows34 ++ rows35

end Obj

end Sys2Proof.Machine
end

