-- ==== Sys2Proof/Syntax.lean ====
section
/-! DEFINITION. The commands of the block: one constructor of `Instr` for each row of the opcode table, with
the operands that its sender or its environment supplies. The table gives no operand fields; the operands
are what the rules of the spec say an occurrence of the row carries (a written value, a received message, a
measured or sensed quantity, the result of a test). -/

namespace Sys2Proof

open Sys2Proof.Machine (Val)

/-- A port number of 0x12pp: EM0–EM7 are 1–8, CF0–CF15 9–24, SU0–SU7 25–32, XL0–XL3 33–36, JTAG 37. 0 is no
port (12_dictionary_ports.md). -/
abbrev PortNo := Fin 38

/-- A ZDP message as its header table gives it (12_dictionary_ports.md), with its body and CRC. -/
structure ZdpMsg where
  version : BitVec 8
  /-- Bits 3–0 of KIND. -/
  kind : BitVec 4
  /-- Bits 7–4 of KIND: bit 3 is REPLY, bits 2–0 are reserved. -/
  kindHigh : BitVec 4
  flags : BitVec 16
  src : BitVec 16
  dst : BitVec 16
  tag : BitVec 32
  index : BitVec 16
  sub : BitVec 8
  status : BitVec 8
  len : BitVec 16
  seg : BitVec 16
  rsv : BitVec 32
  body : List Byte
  crc : BitVec 32
  deriving DecidableEq, Repr

/-- The nine causes of a permanent fault (table of R514). -/
inductive FaultCause
  | retry | rate | uncorrectable | bist | gauge | speed | internal | ordered | link
  deriving DecidableEq, Repr

/-- The supply rails that the supervisor watches (table of R564). -/
inductive Rail
  | vcore | vhub | vmram | vio18 | vser18 | vio33 | vser09 | vsafe | vio33s
  deriving DecidableEq, Repr

/-- Privilege modes of an application core (R553). -/
inductive CoreMode
  | machine | supervisor | user
  deriving DecidableEq, Repr

/-- The blocks that raise records (code block table of 16_faults_health_logs.md). -/
inductive HwBlock
  | gauge | estimation | visual | planning | ca | loop | lauter | pfu | time | can | ports | journal | claims
  | safety | health | firmware
  deriving DecidableEq, Repr

/-- A time stamp of a record: TB0 seconds and nanoseconds. -/
structure Stamp where
  sec : Nat := 0
  ns : Nat := 0
  deriving DecidableEq, Repr

/-- An ALARM record (16_faults_health_logs.md, table of 128 bytes). -/
structure AlarmRec where
  aseq : Nat
  node : Nat
  code : Nat
  time : Stamp
  unit : Nat
  peerCopy : Bool
  held : Bool
  overflowed : Bool
  osn : Nat
  claim : Nat
  detail : List Word
  text : List Byte
  deriving DecidableEq, Repr

/-- The data set that an Announce message carries (R338, R340). -/
structure AnnounceData where
  priority1 : Nat
  clockClass : Nat
  accuracy : Nat
  variance : Nat
  priority2 : Nat
  identity : BitVec 64
  stepsRemoved : Nat
  utcOffset : Int
  deriving DecidableEq, Repr

/-- Message kinds of a PTP instance. -/
inductive PtpKind
  | sync | followUp | delayReq | delayResp | pdelayReq | pdelayResp | announce | management
  deriving DecidableEq, Repr

/-- A PTP message with the MAC's ingress stamp (R341). Times are in ns of the instance's base. -/
structure PtpMsg where
  kind : PtpKind
  domain : Nat
  seq : Nat
  twoStep : Bool
  correction : Int
  /-- originTimestamp or the timestamp that the message reports. -/
  origin : Int
  /-- Ingress stamp as the MAC took it, before RX_EXTRA. -/
  ingress : Int
  /-- Log of the message interval of the sender. -/
  logInterval : Int
  announce : AnnounceData
  deriving DecidableEq, Repr


/-- The published estimate of a target node, as the firmware holds it (R130, R163): node identifier, TB0 ns, F64 n, e
and heading, and the standard deviation reported with it in m. -/
structure TargetEst where
  node : BitVec 14
  time : Nat
  north : BitVec 64
  east : BitVec 64
  heading : BitVec 64
  sd : BitVec 32
  deriving DecidableEq, Repr

/-- What the drives and the targets give the estimation firmware for one cycle: mean thruster force X, Y, N over the
newest step (R125, R134), whether a commanded value stood in for a feedback (R134), and the targets' estimates. -/
structure EstInputs where
  tau : BitVec 64 × BitVec 64 × BitVec 64
  subst : Bool
  targets : List TargetEst
  deriving DecidableEq, Repr

/-- What the drives and the loop engine give the planning firmware at a release: measured azimuth of each thruster as
F32 (types 2 and 5), or the sign of its measured thrust (types 3 and 4), and whether a thruster's applied force lies
outside its present limits (R168, R169, R185). -/
structure PlanInputs where
  azimuth : List Word
  outside : Bool
  deriving DecidableEq, Repr

/-- WORK + OP_MAX sums, in ns, of the operation lists that the firmware has built: estimation job (R146), heaviest
SWEEP and a ROOT link at SCENARIOS and at 16 scenarios (R193), all case chains (R224). -/
structure WorkSums where
  est : Nat
  sweep : Nat
  root : Nat
  sweep16 : Nat
  root16 : Nat
  ca : Nat
  deriving DecidableEq, Repr

/-- One input sample of a Lauter channel (R263, R264): bit 0 of `raw` in the bitstream mode, the low 16 or 24 bits in
an ADC mode. `bad` marks a word lost to a frame error. -/
structure ScSample where
  raw : BitVec 24
  bad : Bool := false
  deriving DecidableEq, Repr

/-- Accepted edges of an encoder channel with the same first changed sample (R291): the new levels, the stamp in ns of
TB0, and whether B has a changed sample that is not yet accepted (R294). -/
structure PfEdge where
  t : Nat
  a : Option Bool := none
  b : Option Bool := none
  z : Option Bool := none
  bPending : Bool := false
  deriving DecidableEq, Repr

/-- A serial position word after START (R301); `pos` has its POS_BITS low bits. -/
structure SerWord where
  sep : Bool
  pos : BitVec 32
  err : Bool
  warn : Bool
  crc : BitVec 8
  deriving DecidableEq, Repr


/-- What the firmware reads from the delivered iterate of a case chain (R217): EXC_POS, EXC_HEAD, UTIL, VIOLATION and
T_EXCEED as F32, the iterations, the mapped fraction, and the scenario and step that decided. -/
structure CaseFigures where
  excPos : Word
  excHead : Word
  util : Word
  violation : Word
  tExceed : Word
  iter : BitVec 8
  mapped : Word
  scen : BitVec 8
  step : BitVec 16
  deriving DecidableEq, Repr

/-- An order as its journal records hold it (R406 to R408): OSN of the head record, identity, object, value
and the head-record fields. -/
structure OrderRec where
  osn : Nat
  identity : Nat
  index : Nat
  sub : Nat
  value : List Byte
  device : Bool
  solo : Bool
  target : Nat
  entry : Nat
  port : Nat
  cls : Nat
  epoch : Nat
  time : Stamp
  deriving DecidableEq, Repr

/-- One value of an IMAGE (R421). -/
structure ImageEntry where
  index : Nat
  sub : Nat
  value : List Byte
  deriving DecidableEq, Repr

/-- A heartbeat (R442). -/
structure Heartbeat where
  claim : Nat
  sig : Nat
  setId : Nat
  epoch : Nat
  leaderView : Nat
  xlUp : Nat
  time : Stamp
  healthCeil : Nat
  rankCeil : Nat
  deriving DecidableEq, Repr

/-- A plan summary (R443). Real fields hold the bits of their F64 or F32. -/
structure PlanSummary where
  claim : Nat
  setId : Nat
  /-- PLAN_TREF, TB0 ns. -/
  planTref : Nat
  planFlags : Nat
  /-- EST_TREF, TB0 ns. -/
  estTref : Nat
  estFlags : Nat
  north : Nat
  east : Nat
  heading : Nat
  velocity : List Nat
  mask : Nat
  resid : List Nat
  violation : Nat
  signature : List Nat
  phase : List Nat
  sig : Nat
  configSig : Nat
  caCycle : Nat
  caVerdicts : List Nat
  /-- Set epoch in the frame header (R400). -/
  epoch : Nat
  deriving DecidableEq, Repr

/-- An allocation frame (R443): steps 15 × PART to 15 × PART + 14, each of 32 pairs of F32 bits. -/
structure AllocFrame where
  planTref : Nat
  part : Nat
  mask : Nat
  force : List (List (Nat × Nat))
  deriving DecidableEq, Repr

/-- A claim frame (R457). -/
structure ClaimFrame where
  format : BitVec 8
  setId : BitVec 8
  node : BitVec 16
  claim : BitVec 32
  leaseMs : BitVec 16
  rsv : BitVec 16
  seq : BitVec 32
  tNs : BitVec 32
  tS : BitVec 32
  planCycle : BitVec 32
  crc : BitVec 32
  deriving DecidableEq, Repr

/-- A command frame (R458). -/
structure CommandFrame where
  format : BitVec 8
  setId : BitVec 8
  node : BitVec 16
  claim : BitVec 32
  leaseMs : BitVec 16
  thruster : BitVec 8
  status : BitVec 8
  seq : BitVec 32
  appNs : BitVec 32
  appS : BitVec 32
  drive : BitVec 16
  angle : BitVec 16
  thrust : BitVec 16
  aux : BitVec 16
  planCycle : BitVec 32
  flags : BitVec 8
  rsv : BitVec 56
  crc : BitVec 32
  deriving DecidableEq, Repr

/-- A gate status frame (R459). -/
structure GateStatus where
  setId : Nat
  node : Nat
  holderClaim : Nat
  holderNode : Nat
  state : Nat
  probe : Nat
  seq : Nat
  fed : Nat
  sw : Stamp
  deriving DecidableEq, Repr

/-- A peer-link frame as it arrives (R400). -/
structure PeerFrame where
  type : BitVec 8
  flags : BitVec 8
  src : BitVec 16
  epoch : BitVec 8
  rsv : BitVec 8
  seq : BitVec 32
  payload : List Byte
  crc : BitVec 32
  deriving DecidableEq, Repr

/-- A member of a set by its device index. -/
abbrev Member := Fin 3

/-- A CAN or CAN FD frame as a controller sees it (R348, R354). -/
structure CanFrame where
  id : BitVec 29
  ide : Bool
  fdf : Bool
  rtr : Bool
  dlc : BitVec 4
  brs : Bool
  esi : Bool
  data : List Byte
  deriving DecidableEq, Repr

/-- Error kinds of CAN_STATUS.LAST_ERR. -/
inductive CanError
  | bit | stuff | form | ack | crc
  deriving DecidableEq, Repr

/-- A message of the safety mailbox (15_safety.md): its header but for TYPE, which is that of the command, and LEN,
which is the length of the payload. -/
structure MailMsg where
  flags : BitVec 8
  seq : BitVec 32
  stampNs : BitVec 32
  stampS : BitVec 32
  payload : List Byte
  crc : BitVec 32
  deriving DecidableEq, Repr

/-- Calibration data of Gauge as found at production test (R54, R57, R58, R59). -/
structure Calibration where
  /-- Calibration counts of the four working monitors of each tile, T0 first. -/
  counts : List (List Nat)
  /-- Ratio of working to reference counts of each tile. -/
  refRatio : List Rat
  /-- Floor factor on new silicon of each tile, UQ2.14. -/
  floorNew : List Nat
  /-- Dip ratio of each tile. -/
  dipRatio : List Rat
  /-- Calibration counts of the eight working monitors of the hub. -/
  hubCounts : List Nat
  /-- Hub floor and dip factors, UQ2.14. -/
  hubFloor : Nat
  hubDip : Nat
  deriving DecidableEq, Repr

/-- What Gauge's monitors and sensors give in one window (R56, R60). -/
structure GaugeWindow where
  /-- Counts of the four working monitors of each tile, T0 first. -/
  tiles : List (List Nat)
  /-- Counts of the eight working monitors of the hub. -/
  hub : List Nat
  /-- Junction temperature of each tile, in 0.125 °C. -/
  temps : List Int
  /-- Lowest reading of any VCORE sense point, in 0.25 mV. -/
  vcore : BitVec 16
  deriving DecidableEq, Repr

/-- What a tile's second brings to the stress integrals (R67): its VCORE sense point in 0.25 mV and the fraction of
the second in which its lanes were busy. -/
structure StressSample where
  vcore : Nat
  busy : Rat
  deriving DecidableEq, Repr

/-- The errors of a tile (03_solver_fabric.md, "When an operation fails"), and a corrected word. -/
inductive TileError
  | corrected | uncorrectable | lane | sequencer | dmaLink
  deriving DecidableEq, Repr

/-- The commands, in the order of spec/opcode_table.json. -/
inductive Instr
  /-- HUB_RESET_RELEASE (R567). The hub reset is released at t_R, 1 ms after every hub rail is good, PORST_N is high and the reference PLL is locked. -/
  | hubResetRelease (testEn : Bool) (role : BitVec 2) (profile : BitVec 3) (cal : Option Calibration) (bad : List (Fin 456)) (copies : BitVec 2)
  /-- IMAGE_VERIFY (R548). The boot ROM completes the check of a flash slot image and accepts or rejects it. -/
  | imageVerify (readOk : Bool)
  /-- REPLAY_COMPLETE (R424). Journal replay completes at start-up, so that orders are taken and loop-engine triggers are accepted. -/
  | replayComplete (bad : List Nat)
  /-- PORST_N_LOW (R568). PORST_N held low for 1 µs or more makes a power-on reset of the hub. -/
  | porstNLow
  /-- RAIL_BELOW_RESET (R564). A supply rail stays below its reset level for its filter time, and the supervisor resets the hub or the safety die or trips the safe outputs. -/
  | railBelowReset (rail : Rail)
  /-- VCORE_BELOW_060 (R565). VCORE below 0.60 V resets the hub within 100 ns, however short the excursion. -/
  | vcoreBelow060
  /-- REFERENCE_LOST (R568). Loss or deviation of the 25 MHz reference makes a power-on reset and holds the hub until the PLL relocks. -/
  | referenceLost
  /-- VSAFE_GOOD (R480). The safety die goes live with every element open and every output tripped with cause POWER_UP. -/
  | vsafeGood
  /-- SAFETY_OVERTEMP (R584). The safety die's junction sensor reads 160 °C or more, and the die opens every element and enters FAULT. -/
  | safetyOvertemp
  /-- JTAG_HUB_RESET (R580). The HUB_RESET instruction entering Run-Test/Idle resets the hub with cause JTAG. -/
  | jtagHubReset
  /-- JTAG_TAP_RESET (R580). TRST_N low or five TCK cycles with TMS high reset the TAP. -/
  | jtagTapReset
  /-- WATCHDOG_ENABLE (R554). A write of SUP_WDT_CFG with EN set enables the core watchdog until the next reset. -/
  | watchdogEnable (v : Word)
  /-- WATCHDOG_KICK (R554). A write to SUP_WDT_KICK restarts the watchdog deadline of the writing core. -/
  | watchdogKick (core : Fin 4)
  /-- WATCHDOG_EXPIRY (R554). A watched core misses its deadline, and the supervisor resets the hub with cause WATCHDOG. -/
  | watchdogExpiry
  /-- SUP_RESTART (R545). A write of the key to SUP_RESTART restarts the hub with cause RESTART. -/
  | supRestart (key : Word)
  /-- TRIAL_CONFIRM (R558). A write of SUP_BOOT.CONFIRM stops the trial timer and sets CONFIRMED. -/
  | trialConfirm
  /-- TRIAL_EXPIRY (R558). The trial timer reaches 0 and the supervisor resets the hub with cause TRIAL. -/
  | trialExpiry
  /-- REGISTER_WRITE (R17). A core writes to a register that has no row of its own: the value is stored, ignored, cleared under W1C, or faulted. -/
  | registerWrite (core : Fin 4) (mode : CoreMode) (width : BitVec 8) (addr : Word) (v : BitVec 64)
  /-- GAUGE_WINDOW (R56). A 10.24 µs Gauge window ends and the measured factors of every monitor and tile are formed. -/
  | gaugeWindow (w : GaugeWindow)
  /-- BREACH_END (R65). The measured factor has stayed at or above the floor factor for 100 ms, and the breach ends. -/
  | breachEnd (tile : Fin 32)
  /-- BREACH_ALARM (R65). A breach that lasts 10 s raises an ALARM. -/
  | breachAlarm (tile : Fin 32)
  /-- REF_MONITOR_SAMPLE (R58). Every 60 s each reference monitor is sampled and the tile's measured age retention is formed. -/
  | refMonitorSample (ratios : List Rat)
  /-- REF_SAMPLE (R58). A write of GAUGE_CTRL.REF_SAMPLE samples every reference monitor in the next window. -/
  | refSample
  /-- TEMP_HIGH (R60). A thermal sensor reads above the junction limit; TEMP_HIGH is set, THERM_N goes low and an ALARM is raised. -/
  | tempHigh (sensor : Fin 40) (reading : BitVec 16)
  /-- DIP_START (R61). A VCORE sense point reads below 0.68 V for 100 ns; the dip table is put in force and Cask writes are held. -/
  | dipStart (vcore : BitVec 16)
  /-- DIP_END (R62). Every sense point has read 0.69 V or more for 1 ms; the dip ends and the floor tables and journal writes resume. -/
  | dipEnd (vcore : BitVec 16)
  /-- DIP_LONG (R63). A dip reaches 500 ms; DIP_LONG is set and one ALARM is raised. -/
  | dipLong
  /-- STRESS_UPDATE (R67). Once per second Gauge integrates the ageing stress integrals of each tile. -/
  | stressUpdate (tiles : List StressSample)
  /-- DAILY_RECORD (R67). Once per day Gauge writes an ageing-history record, folding the overwritten record into the summary. -/
  | dailyRecord
  /-- AGEING_FORECAST (R69). Hourly and after each fit, Gauge forecasts retention, floor and dip factors 30 days ahead. -/
  | ageingForecast
  /-- KILN_RUN (R71). A write of GAUGE_CTRL.KILN_RUN recomputes the kiln margin. -/
  | kilnRun
  /-- GRIST_ADMIT (R85). A write to GRIST_ADMIT submits a descriptor and starts an admission decision. -/
  | gristAdmit (core : Fin 4) (v : Word)
  /-- VERDICT_POST (R85). The admission decision completes and its verdict, context and estimate are posted. -/
  | verdictPost (core : Fin 4)
  /-- REPLAN (R77). A write of GRIST_CTRL.REPLAN starts a re-plan of both admission tables. -/
  | replan
  /-- TABLE_REPLACE (R77). A re-plan completes; the new tables replace the old ones atomically and TABLE_GEN increments. -/
  | tableReplace
  /-- LINK_START (R117). A chain link starts at the later of its RELEASE and the delivery of the previous link. -/
  | linkStart (ctx : BitVec 8)
  /-- OPERATION_COMPLETE (R109). A fabric operation completes on a tile and the sequencer moves on. -/
  | operationComplete (tile : Fin 32)
  /-- DMA_COMPLETE (R113). An outstanding DMA of a part completes and releases waiting operations. -/
  | dmaComplete (tile : Fin 32)
  /-- TILE_ERROR (R119). A tile detects an ECC, residue, sequencer or DMA link error and retries the operation or segment. -/
  | tileError (tile : Fin 32) (kind : TileError) (word : BitVec 19)
  /-- DIE_LINK_CHECK_FAIL (R28). A die-link transfer fails its check and is repeated, up to 3 times. -/
  | dieLinkCheckFail (link : Fin 4) (attempt : Fin 3)
  /-- CUTOFF (R93). At a job's cut-off Grist takes its state once and delivers the result or starts the fallback. -/
  | cutoff (ctx : BitVec 8)
  /-- JOB_DELIVERY (R118). The completion record is written and marked delivered, and a stage job's slot is published. -/
  | jobDelivery (ctx : BitVec 8) (lost : Bool) (case : Option (Fin 48 × CaseFigures))
  /-- TILE_DRAIN (R122). A write of TILE_CTRL.DRAIN withdraws the tile from admission through a re-plan. -/
  | tileDrain (tile : Fin 32)
  /-- TILE_BIST_START (R122). A write of TILE_CTRL.BIST_START to an OFFLINE tile starts its self-test. -/
  | tileBistStart (tile : Fin 32)
  /-- TILE_BIST_DONE (R122). The tile self-test completes and passes, or fails and retires the tile. -/
  | tileBistDone (tile : Fin 32) (pass : Bool) (step : BitVec 2) (elapsed : BitVec 16)
  /-- TILE_ONLINE (R122). A write of TILE_CTRL.ONLINE returns an OFFLINE tile through a re-plan. -/
  | tileOnline (tile : Fin 32)
  /-- PIPELINE_START (R33). The pipeline starts at the first 10 s boundary after lock, or after the 5 s or 30 s waits. -/
  | pipelineStart
  /-- TEN_SECOND_BOUNDARY (R36). At each 10 s boundary of TB0 the pending phasing and settings take effect, re-plans run and requirements are recomputed. -/
  | tenSecondBoundary (w : WorkSums)
  /-- ESTIMATION_RELEASE (R145). An estimation cycle is assembled and submitted at its release. -/
  | estimationRelease (x : EstInputs)
  /-- VISUAL_RELEASE (R158). A visual-reference cycle forms a keyframe and submits its bundle-adjustment chains. -/
  | visualRelease (targets : List TargetEst)
  /-- PLANNING_RELEASE (R189). A planning cycle pins the estimate and submits its chain of SWEEP and ROOT links. -/
  | planningRelease (x : PlanInputs)
  /-- CA_RELEASE (R222). A consequence-analysis window pins its inputs and schedules case chains. -/
  | caRelease
  /-- CA_PUBLICATION (R223). The publication job is submitted when every case is judged or at release plus Λ. -/
  | caPublication (scratch : Word)
  /-- MEASUREMENT_RECORD (R127). A reference measurement record arrives and is accepted or discarded. -/
  | measurementRecord (r : List Byte)
  /-- KEYPOINT_DATAGRAM (R157). A keypoint datagram arrives and is checked and added to its frame. -/
  | keypointDatagram (em : Fin 8) (d : List Byte)
  /-- FRAME_INCOMPLETE (R157). A camera frame not complete within 100 ms of its first part is discarded. -/
  | frameIncomplete (camera : Fin 4)
  /-- CAMERA_LOST (R164). An enabled camera has given no complete frame for 3 s. -/
  | cameraLost (camera : Fin 4)
  /-- VOTE_START (R444). The vote starts once all peer frames have arrived, or at P + VOTE_END − 5 ms. -/
  | voteStart (slot : Word)
  /-- TB_STEP (R328). A write of TBn_CTRL.STEP steps a base's seconds:nanoseconds clock, or is refused. -/
  | tbStep (n : Fin 4)
  /-- TB_COUNT_READ (R323). A read of TBn_COUNT latches NS and SEC of the same tick. -/
  | tbCountRead (core n : Fin 4)
  /-- TU_SNAP (R325). A write of TU_CTRL.SNAP takes a snapshot of all four bases. -/
  | tuSnap
  /-- SNAPSHOT_PERIODIC (R325). Every millisecond of TB3 the time unit takes a snapshot of all four bases. -/
  | snapshotPeriodic
  /-- FOLLOW_OFFSET_WRITE (R331). A WRITE of FOLLOW_OFFSET steps the following base, or is refused with STATE. -/
  | followOffsetWrite (p : PortNo) (m : ZdpMsg)
  /-- PTP_MESSAGE (R338). A PTP message is received, the BMCA runs and any measured offset is passed to the servo. -/
  | ptpMessage (inst : Fin 2) (port : Fin 8) (m : PtpMsg)
  /-- PTP_SEND (R338). A PTP instance sends its periodic Sync, Announce or delay message. -/
  | ptpSend (inst : Fin 2) (port : Fin 8) (kind : PtpKind)
  /-- ANNOUNCE_TIMEOUT (R339). The active port's Announce receipt times out and the BMCA selects again. -/
  | announceTimeout (inst : Fin 2)
  /-- HOLDOVER_ENTRY (R333). No offset for 8 intervals puts a base in HOLDOVER. -/
  | holdoverEntry (n : Fin 4)
  /-- HOLDOVER_MAX (R334). A base in HOLDOVER for HOLDOVER_MAX seconds raises an ALARM. -/
  | holdoverMax (n : Fin 4)
  /-- PPS_EDGE (R342). An edge on a PPS input is captured, qualified and delivered as an offset. -/
  | ppsEdge (p : Fin 4) (falling : Bool)
  /-- PPS_MISSED (R342). A second passes with no qualified PPS edge. -/
  | ppsMissed (p : Fin 4)
  /-- PPS_OUTPUT_PULSE (R343). A PPS output starts its pulse at a whole second of its base. -/
  | ppsOutputPulse (o : Fin 2)
  /-- TIME_OF_DAY_RECORD (R332). The firmware reads a GNSS time-of-day record and steps the base by whole seconds. -/
  | timeOfDayRecord (n : Fin 4) (seconds : BitVec 48)
  /-- RESYNC (R337). A RESYNC order stops the pipeline, steps TB0 and restarts the pipeline. -/
  | resync
  /-- TIME_TRIGGER (R238). A loop slot's TIME trigger instant arrives and an activation is made pending, or the trigger is dropped. -/
  | timeTrigger (slot : Fin 256)
  /-- LE_SW_TRIG (R238). A write of a slot number to LE_SW_TRIG triggers a slot of kind SOFTWARE. -/
  | leSwTrig (core : Fin 4) (v : Word)
  /-- ACTIVATION_COMPLETE (R234). A slot activation runs its steps to the end and commits its state; the dispatcher takes the next pending activation. -/
  | activationComplete (failures : Fin 4)
  /-- LE_TRAJ_COMMIT (R247). A write of LE_TRAJ_COMMIT checks a trajectory buffer and starts its copy, or refuses it. -/
  | leTrajCommit (core : Fin 4) (v : Word)
  /-- TRAJ_COPY_DONE (R247). The trajectory copy completes and becomes PENDING, replacing any earlier PENDING one. -/
  | trajCopyDone
  /-- TRAJ_STALE_ALARM (R250). The ACTIVE trajectory has been stale or ended for 10 s without a break, raising an ALARM. -/
  | trajStaleAlarm
  /-- LE_PROG_ACCESS (R594). A read or write of LE_PROG_HI completes a program-word access and advances STEP. -/
  | leProgAccess (core : Fin 4) (write : Option Word)
  /-- LE_RECHECK (R235). A write of LE_CTRL.RECHECK recomputes every response bound and flags LATE_RISK. -/
  | leRecheck
  /-- SLOT_ENABLE (R235). An ENABLE order enables or disables a loop slot, or is refused. -/
  | slotEnable (slot : Fin 256) (on : Bool)
  /-- SLOT_COMMIT (R243). A COMMIT order validates a slot's shadow program and configuration. -/
  | slotCommit (slot : Fin 256)
  /-- COMMIT_INSTALL (R244). An accepted COMMIT installs the shadow program between two activations. -/
  | commitInstall (slot : Fin 256)
  /-- SLOT_HANDOVER (R259). Between two activations a slot's program and state are copied to its spare or back. -/
  | slotHandover (slot : Fin 256)
  /-- SLOT_SERVICE_TEST (R260). A SERVICE TEST order hands a slot over, drains it and runs its self-test. -/
  | slotServiceTest (slot : Fin 256)
  /-- SLOT_SELF_TEST_DONE (R260). A slot self-test ends, leaving the slot OFFLINE or retiring it. -/
  | slotSelfTestDone (slot : Fin 256) (pass : Bool)
  /-- SLOT_SERVICE_RETURN (R260). A SERVICE RETURN order brings an OFFLINE slot back by handover from its spare. -/
  | slotServiceReturn (slot : Fin 256)
  /-- GENERATOR_START (R255). A START order starts a test generator, or is refused. -/
  | generatorStart (g : Fin 8)
  /-- GENERATOR_STOP (R255). A STOP order stops a test generator. -/
  | generatorStop (g : Fin 8)
  /-- GENERATOR_END (R255). A generator reaches the end of its sweep or DURATION_MS and stops. -/
  | generatorEnd (g : Fin 8)
  /-- CAPTURE_ARM (R256). A write of CAPc_CTRL.ARM arms a capture buffer, or sets ERR. -/
  | captureArm (c : Fin 16)
  /-- CAPTURE_STOP (R256). A write of CAPc_CTRL.STOP ends a ring capture after COUNT further entries. -/
  | captureStop (c : Fin 16)
  /-- LAUTER_OUTPUT (R284). A comb output is formed and filtered, and the output sample is published to the signal word, SCS word and ring. -/
  | lauterOutput (c : Fin 32) (xs : List ScSample) (tDef : Nat) (failures : Fin 4)
  /-- CLOCK_LOST (R265). A channel with no clock edge for 10 µs enters CLOCK_LOST. -/
  | clockLost (c : Fin 32)
  /-- CLOCK_RETURN (R265). The first clock edge after a loss makes a synchronizing reset, setting UNALIGNED as needed. -/
  | clockReturn (c : Fin 32) (t : Nat)
  /-- LT_SYNC (R278). A write of a channel mask to LT_SYNC requests an immediate synchronizing reset. -/
  | ltSync (mask : Word)
  /-- LT_SYNC_ARM (R278). A write of LT_SYNC_ARM arms, replaces or disarms the synchronizing-reset source. -/
  | ltSyncArm (v : Word)
  /-- TIME_AT (R278). The armed TIME_AT instant arrives and fires the synchronizing reset. -/
  | timeAt
  /-- SC_SYNC_EDGE (R278). A rising edge on SC_SYNC fires the armed synchronizing reset. -/
  | scSyncEdge
  /-- DEFINING_EDGE (R279). A channel's first input edge after a reset event clears its filters, increments EPOCH and resets its comparators. -/
  | definingEdge (c : Fin 32) (t : Nat)
  /-- SWAP_REQUEST (R274). A write of SWAP.REQ starts a cross-fade, or latches or replaces a pending swap. -/
  | swapRequest (c : Fin 32) (v : Word)
  /-- POOL_ACCESS (R272). An access to LT_POOL_DATA reads or writes a coefficient and advances ENTRY, or refuses the write. -/
  | poolAccess (core : Fin 4) (write : Option Word)
  /-- LT_RECHECK (R286). A write of LT_CTRL.RECHECK, or a change of hub dip factor, rechecks the Lauter load. -/
  | ltRecheck
  /-- LT_CHANNEL_ENABLE (R287). A write of the channel ENABLE bit enables the channel with a synchronizing reset, or refuses it. -/
  | ltChannelEnable (c : Fin 32) (on : Bool)
  /-- LT_SERVICE_TEST (R289). A SERVICE TEST stops a Lauter channel and runs its self-test. -/
  | ltServiceTest (c : Fin 32)
  /-- LT_SELF_TEST_DONE (R289). A Lauter channel self-test ends, leaving it OFFLINE or retiring it. -/
  | ltSelfTestDone (c : Fin 32) (pass : Bool)
  /-- LT_SERVICE_RETURN (R289). A SERVICE RETURN brings an OFFLINE Lauter channel back with a synchronizing reset. -/
  | ltServiceReturn (c : Fin 32)
  /-- PF_EDGE_ACCEPT (R291). An encoder line level has held MIN_EDGE samples, so the edge is accepted and decoded. -/
  | pfEdgeAccept (c : Fin 32) (e : PfEdge)
  /-- GLITCH (R291). A line changes back before MIN_EDGE samples and a GLITCH fault is raised. -/
  | glitch (c : Fin 32) (line : Fin 3) (t : Nat)
  /-- LINE_OPEN (R299). A receiver has read no signal for 1 µs and a LINE_OPEN fault is raised. -/
  | lineOpen (c : Fin 32) (line : Fin 3)
  /-- SERIAL_REQUEST (R300). At a request instant a SERIAL channel clocks out a position request. -/
  | serialRequest (c : Fin 32) (dataLow : Bool)
  /-- SERIAL_WORD (R302). A serial position word completes and is judged good or faulty and extended. -/
  | serialWord (c : Fin 32) (w : SerWord)
  /-- SER_TIMEOUT (R302). No start bit arrives within START_TIMEOUT clock periods. -/
  | serTimeout (c : Fin 32)
  /-- SPEED_UPDATE (R304). Every 10 µs the count-method speed is formed and the method chosen. -/
  | speedUpdate (c : Fin 32)
  /-- STANDSTILL (R305). No counting edge for ZERO_MS sets the period speed to 0 and STANDSTILL. -/
  | standstill (c : Fin 32)
  /-- EMULATED_TRANSITION (R311). The emulator moves its output count one quadrature transition toward the target. -/
  | emulatedTransition (c : Fin 32)
  /-- SET_POS (R295). A SET_POS order loads PRESET as the position and clears UNCERTAIN. -/
  | setPos (c : Fin 32) (v : BitVec 48)
  /-- CMP_ARM (R313). A write of CMP_CFG.ARM arms a compare unit. -/
  | cmpArm (c : Fin 32) (k : Fin 4) (v : Word)
  /-- CMP_DISARM (R313). A write of CMP_CFG.DISARM disarms a compare unit. -/
  | cmpDisarm (c : Fin 32) (k : Fin 4)
  /-- PF_ENABLE (R318). A write of the channel ENABLE bit enables an encoder channel, or refuses it. -/
  | pfEnable (c : Fin 32) (on : Bool)
  /-- PF_SERVICE_TEST (R317). A SERVICE TEST stops counting and runs the encoder-channel self-test. -/
  | pfServiceTest (c : Fin 32)
  /-- PF_SELF_TEST_DONE (R317). An encoder self-test ends, leaving the channel OFFLINE or retiring it. -/
  | pfSelfTestDone (c : Fin 32) (pass : Bool)
  /-- PF_SERVICE_RETURN (R317). A SERVICE RETURN resumes counting from the held count. -/
  | pfServiceReturn (c : Fin 32)
  /-- PF_INTERNAL (R316). A mismatch of the duplicated channel logic is a permanent fault INTERNAL. -/
  | pfInternal (c : Fin 32)
  /-- OSC_FAULT (R310). The PFU oscillator is lost; counting stops and FILTERED outputs fall back to RAW. -/
  | oscFault
  /-- CAN_ENABLE (R350). A change of MODE from 0 enables a CAN controller, or is refused with CFG_CAUSE. -/
  | canEnable (n : Fin 16) (mode : BitVec 2) (order : Bool)
  /-- CAN_DISABLE (R349). A change of MODE to 0 withdraws every pending request. -/
  | canDisable (n : Fin 16) (order : Bool)
  /-- CAN_FRAME_RECEIVED (R354). A frame received without error is written to the receive ring, or dropped when the ring is full. -/
  | canFrameReceived (n : Fin 16) (f : CanFrame) (lenNs : Nat)
  /-- SEGMENT_GAP_TIMEOUT (R398). A gap over 50 ms between segments discards the partial message. -/
  | segmentGapTimeout (n : Fin 16) (node : BitVec 14) (kind : BitVec 3) (sub : BitVec 12)
  /-- CAN_RX_IRQ_TIMEOUT (R356). An entry unread for IRQ_TIME sets CAN_IRQ.RX. -/
  | canRxIrqTimeout (n : Fin 16)
  /-- CAN_RX_TAIL_WRITE (R355). A write of CAN_RX_TAIL frees ring entries, unless it would pass HEAD. -/
  | canRxTailWrite (n : Fin 16) (v : Word)
  /-- CAN_TX_REQ (R358). A write to CAN_TX_REQ requests a transmit buffer, or is ignored. -/
  | canTxReq (n : Fin 16) (v : Word)
  /-- CAN_TX_CANCEL (R362). A write to CAN_TX_CANCEL cancels a pending request, or holds the cancel for a frame on the bus. -/
  | canTxCancel (n : Fin 16) (v : Word)
  /-- CAN_TX_COMPLETE (R361). A frame is sent successfully; DONE and TS are written and the next frame is selected. -/
  | canTxComplete (n : Fin 16) (bits timeNs : Nat)
  /-- CAN_ARBITRATION_LOST (R361). A frame loses arbitration and stays pending, or ends its cancelled request. -/
  | canArbitrationLost (n : Fin 16)
  /-- CAN_BUS_ERROR (R364). A bit, stuff, form, CRC or acknowledgement error updates TEC and REC and the error state. -/
  | canBusError (n : Fin 16) (kind : CanError) (transmitting dominant : Bool)
  /-- CAN_RECOVER (R368). A RECOVER write or order starts bus-off recovery. -/
  | canRecover (n : Fin 16) (order : Bool)
  /-- RECOVERY_COMPLETE (R368). After 128 runs of 11 recessive bits the controller becomes error-active. -/
  | recoveryComplete (n : Fin 16)
  /-- CAN_SERVICE_TEST (R374). A SERVICE TEST or CAN_CTRL.TEST runs the controller's loopback self-test. -/
  | canServiceTest (n : Fin 16) (order : Bool)
  /-- CAN_SELF_TEST_DONE (R374). A CAN self-test ends, leaving the controller OFFLINE or retiring it. -/
  | canSelfTestDone (n : Fin 16) (pass : Bool)
  /-- CAN_SERVICE_RETURN (R374). A RETURN re-enables an OFFLINE CAN controller. -/
  | canServiceReturn (n : Fin 16) (order : Bool)
  /-- EM_FRAME_RECEIVED (R397). An Ethernet frame is received and stamped, then steered to the gate, the ring or dropped. -/
  | emFrameReceived (m : Fin 8) (frame : List Byte) (fcsOk : Bool) (agoNs : Nat)
  /-- EM_FRAME_SENT (R402). An egress frame ends and the next frame is chosen by the egress order. -/
  | emFrameSent (m : Fin 8)
  /-- PEER_FRAME_RECEIVED (R400). A peer-link frame is received and steered by TYPE, or dropped for CRC. -/
  | peerFrameReceived (link : Fin 4) (f : PeerFrame)
  /-- SU_CHARACTER (R345). A serial character is received into the byte ring, and stamped when it follows idle or is '$' or '!'. -/
  | suCharacter (u : Fin 8) (c : Byte) (parity framing overrun : Bool)
  /-- PORT_SERVICE_TEST (R403). A SERVICE TEST runs the loopback self-test of an EM, XL or SU port. -/
  | portServiceTest (p : PortNo)
  /-- PORT_SELF_TEST_DONE (R403). A port self-test ends, leaving the port OFFLINE or retiring it. -/
  | portSelfTestDone (p : PortNo) (pass : Bool)
  /-- PORT_SERVICE_RETURN (R403). A RETURN re-enables an OFFLINE EM, XL or SU port. -/
  | portServiceReturn (p : PortNo)
  /-- ZDP_READ (R389). A READ request is checked and answered with the value. -/
  | zdpRead (p : PortNo) (m : ZdpMsg)
  /-- ZDP_META_READ (R389). A READ with META set is answered with the object's 84-byte descriptor. -/
  | zdpMetaRead (p : PortNo) (m : ZdpMsg)
  /-- ZDP_WRITE (R390). A WRITE request is checked, applied and stored if persistent, then answered. -/
  | zdpWrite (p : PortNo) (m : ZdpMsg)
  /-- ZDP_ORDER (R412). An ORDER request is checked at its entry member, duplicate-checked and passed to the sequencer. -/
  | zdpOrder (p : PortNo) (m : ZdpMsg)
  /-- ZDP_SUBSCRIBE (R392). A SUBSCRIBE creates, renews or cancels a subscription. -/
  | zdpSubscribe (p : PortNo) (m : ZdpMsg)
  /-- NOTIFY_DUE (R393). A subscribed value becomes due at a change or period and is sent, or waits. -/
  | notifyDue (id : Nat) (canLeave : Bool)
  /-- NOTIFY_INTERVAL_EXPIRY (R393). MIN_INTERVAL_MS passes and a waiting NOTIFY leaves. -/
  | notifyIntervalExpiry (id : Nat) (canLeave : Bool)
  /-- SUBSCRIPTION_EXPIRY (R392). A subscription expires LIFETIME_S after its last renewal. -/
  | subscriptionExpiry (id : Nat)
  /-- BULK_READ (R394). A BULK read request is answered with up to WINDOW segment replies. -/
  | bulkRead (p : PortNo) (m : ZdpMsg)
  /-- BULK_WRITE_SEGMENT (R395). A BULK write segment is staged, and the last one applies the value as one WRITE. -/
  | bulkWriteSegment (p : PortNo) (m : ZdpMsg)
  /-- BULK_STAGING_EXPIRY (R395). A BULK staging area idle for 1 s is discarded. -/
  | bulkStagingExpiry (p : PortNo) (src : BitVec 16) (tag : Word)
  /-- REQUEST_RATE_SECOND (R388). A TB3 second ends and the per-port request and refusal counts restart. -/
  | requestRateSecond
  /-- FUSE_ORDER (R383). An order to 0x12pp.04 programs a port-class fuse, or is refused. -/
  | fuseOrder (p : PortNo) (src : BitVec 16) (target : PortNo) (cls : BitVec 8)
  /-- APPLY_READY (R417). The journal engine opens the application of the next committed order to the firmware. -/
  | applyReady
  /-- JE_APPLY_DATA (R417). A write of JE_APPLY_DATA writes a protected register during an open application, or is ignored. -/
  | jeApplyData (core : Fin 4) (v : Word)
  /-- JE_APPLY_DONE (R417). A write of JE_APPLY_DONE closes the application and persists the value. -/
  | jeApplyDone (core : Fin 4) (v : Word)
  /-- APPLY_SLOW (R417). An application open for 100 ms raises an ALARM. -/
  | applySlow
  /-- JE_FETCH (R410). A write of JE_CTRL.FETCH sends a FETCH to the sequencer. -/
  | jeFetch
  /-- FORWARD (R412). A received FORWARD is checked against the window and numbered by the sequencer. -/
  | forward (i : Member) (tag : Word) (o : OrderRec)
  /-- COPY (R410). A received COPY is written when contiguous, or prompts a FETCH, and is acknowledged. -/
  | copy (i : Member) (commit : BitVec 64) (os : List OrderRec)
  /-- REPLAY (R421). Received REPLAY records fill a gap or synchronize a member. -/
  | replay (i : Member) (commit : BitVec 64) (os : List OrderRec)
  /-- IMAGE (R421). Received IMAGE frames set every persistent set-scope ACTION value. -/
  | image (i : Member) (osn : BitVec 64) (entries : List ImageEntry) (last : Bool)
  /-- ACK (R411). A received ACK may commit orders at the sequencer. -/
  | ack (i : Member) (osn : BitVec 64)
  /-- COMMIT (R411). A received COMMIT advances the commit point and releases applications and replies. -/
  | commit (i : Member) (osn : BitVec 64)
  /-- FETCH (R421). A received FETCH is answered with REPLAY, preceded by IMAGE when needed. -/
  | fetch (i : Member) (first lastOsn : BitVec 64)
  /-- STATE (R409). A received STATE updates the sender's journal state and eligibility. -/
  | state (i : Member) (code : BitVec 8) (high commit : BitVec 64)
  /-- FWD_RETURN (R413). A received FWD_RETURN returns a forwarded order for refusal, duplicate reply or re-forwarding. -/
  | fwdReturn (i : Member) (tag : Word) (code : BitVec 8) (osn : BitVec 64)
  /-- CASK_WRITE_COMPLETE (R411). The member's own Cask write of records completes, allowing an ACK or a commit. -/
  | caskWriteComplete
  /-- STATE_SEND (R409). Every 20 ms a member sends STATE on every peer link. -/
  | stateSend
  /-- PEER_SILENCE (R409). A member is not heard for 50 ms and the sequencer in each view is chosen again. -/
  | peerSilence (i : Member)
  /-- ELIGIBILITY_RESTORE (R429). A member that was PAUSED becomes eligible again 1 s after it becomes SYNCED. -/
  | eligibilityRestore
  /-- FORWARD_REPEAT (R413). Every 100 ms the entry member forwards again the orders that have no answer. -/
  | forwardRepeat
  /-- ORDER_QUEUE_RELEASE (R414). A waiting order is numbered when the OSN rate allows. -/
  | orderQueueRelease
  /-- SOLO_ENTRY (R430). With no peer heard for SOLO_DELAY, the member becomes its own sequencer. -/
  | soloEntry
  /-- FORK_RESOLVE (R431). A WRITE of 1 to 0x9600.0D discards unshared records and resynchronizes. -/
  | forkResolve (p : PortNo) (m : ZdpMsg)
  /-- CASK_FAULT (R432). A permanent Cask fault puts the member in FAULT. -/
  | caskFault (cause : FaultCause)
  /-- HEARTBEAT_SEND (R442). Every 10 ms a member sends a heartbeat on every enabled peer link. -/
  | heartbeatSend
  /-- HEARTBEAT_RECEIVED (R442). A peer heartbeat updates its claim, ceilings and signature in this member's view. -/
  | heartbeatReceived (i : Member) (h : Heartbeat)
  /-- PEER_LOST (R442). A peer not heard for 50 ms is no longer heard, and the leader is chosen again. -/
  | peerLost (i : Member)
  /-- PLAN_SUMMARY_RECEIVED (R443). A peer's plan summary arrives for the vote and the cross-checks. -/
  | planSummaryReceived (i : Member) (p : PlanSummary)
  /-- ALLOCATION_RECEIVED (R443). A peer's allocation frame arrives for the vote. -/
  | allocationReceived (i : Member) (a : AllocFrame)
  /-- PEER_CLAIM_RECEIVED (R442). A peer's claim frame arrives on a peer link. -/
  | peerClaimReceived (i : Member) (f : ClaimFrame)
  /-- CEILING_RECOMPUTE (R453). The health block recomputes the rank and health ceilings, and a claim change sends a claim frame at once. -/
  | ceilingRecompute
  /-- CLAIM_SEND (R453). A write of CG_CTRL.SEND sends a claim frame now. -/
  | claimSend
  /-- LEASE_RENEWAL (R460). At each renewal interval the tap sends a claim frame on every path. -/
  | leaseRenewal
  /-- LEADER_INDEX (R456). An order to 0x9000.08 sets the leader, and the claims change. -/
  | leaderIndex (idx : Fin 3)
  /-- EPOCH_ADVANCE (R439). An order to 0x9000.06 advances the set epoch. -/
  | epochAdvance
  /-- PROOF_TEST (R471). After rotation the new leader sends probes on each path in turn. -/
  | proofTest (path : Fin 24) (thruster : Fin 32) (gates : Nat)
  /-- PROOF_RESULT_TIMEOUT (R471). 100 ms after a probe the path result is fixed as OK, NO_ANSWER or MISMATCH. -/
  | proofResultTimeout (path : Fin 24) (results : List (BitVec 2))
  /-- GATE_CLAIM_FRAME (R463). A valid claim frame at the gate sets or ends the member's lease and re-evaluates the holder. -/
  | gateClaimFrame (path : Fin 24) (f : ClaimFrame)
  /-- GATE_COMMAND_FRAME (R465). A command frame at the gate renews the lease and is accepted, limited and queued, or ignored. -/
  | gateCommandFrame (path : Fin 24) (f : CommandFrame)
  /-- LEASE_EXPIRY (R463). A member's lease expires at the gate and the holder is re-evaluated. -/
  | leaseExpiry (i : Member)
  /-- COMMAND_APPLY (R465). An accepted command's application time arrives and its GCMD words take its values. -/
  | commandApply (t : Fin 32)
  /-- CROSS_CHECK (R468). The gate compares the holder's command with the peers' commands and may fence the holder. -/
  | crossCheck (t : Fin 32)
  /-- NOLEASE_HOLD (R467). With no holder for NOLEASE_HOLD_MS the gate applies the SAFE values and raises an ALARM. -/
  | noleaseHold
  /-- FENCE_EXPIRY (R468). A member's fence ends after FENCE_S seconds. -/
  | fenceExpiry (i : Member)
  /-- GATE_STATUS_SEND (R459). Every 20 ms, and at changes, the gate sends a status frame. -/
  | gateStatusSend
  /-- SI_CONTACT_CHANGE (R481). A safe-input contact changes and the channel takes a demand at once. -/
  | siContactChange (n : Fin 8) (ch : Fin 2) (closed : Bool)
  /-- SI_FILTER_EXPIRY (R481). A contact state has held for FILTER_MS. -/
  | siFilterExpiry (n : Fin 8) (ch : Fin 2)
  /-- DISCREPANCY_TIMEOUT (R481). The two contacts disagree for DISCREPANCY_MS and the input has INPUT_FAULT. -/
  | discrepancyTimeout (n : Fin 8)
  /-- TEST_SOURCE_CHECK (R481). A contact that fails to show its test-source off-pulses gets INPUT_FAULT. -/
  | testSourceCheck (n : Fin 8) (ch : Fin 2) (shown : Bool)
  /-- CROSS_LINK_EXCHANGE (R477). Every 1 ms the two channels exchange inputs, demands, decisions and check values. -/
  | crossLinkExchange
  /-- CHANNEL_FAULT (R477). The channels' decisions differ for 20 ms; every element opens and the die enters FAULT. -/
  | channelFault
  /-- SAFETY_WATCHDOG_EXPIRY (R477). A channel's watchdog expires and that channel's elements open. -/
  | safetyWatchdogExpiry (ch : Fin 2)
  /-- SWITCH_FAULT (R478). An opened element still conducts after 2 ms and the output has SWITCH_FAULT. -/
  | switchFault (out : Fin 8) (ch : Fin 2)
  /-- TEST_PULSE (R479). Once a second each channel briefly opens its element of an energized output and checks the readback. -/
  | testPulse (out : Fin 8) (ch : Fin 2) (conducts : Bool)
  /-- RESET_PULSE_RISE (R490). A rising edge on SRSTk starts a reset pulse. -/
  | resetPulseRise (k : Fin 4) (clean : BitVec 8)
  /-- RESET_PULSE_FALL (R490). A falling edge ends a reset pulse, which re-energizes or clears outputs and zones when both channels accept it. -/
  | resetPulseFall (k : Fin 4) (usA usB : Nat)
  /-- RESET_STUCK_CLEAR (R492). A stuck reset input has read low for 100 ms and is usable again. -/
  | resetStuckClear (k : Fin 4)
  /-- SM_HB (R30). A write to SM_HB sends a HEARTBEAT message to the safety die. -/
  | smHb
  /-- HUB_HEARTBEAT (R493). The die accepts a HEARTBEAT message, checking CRC and SEQ. -/
  | hubHeartbeat (m : MailMsg) (la lb : Nat)
  /-- HUB_LOST (R494). No heartbeat for 25 ms; each output applies its hub-loss reaction. -/
  | hubLost (ch : Fin 2)
  /-- CA_STATUS (R488). The die receives a CA status message for the SF3 evaluation. -/
  | caStatus (m : MailMsg) (la lb : Nat)
  /-- POS_STATUS (R488). The die receives a POS status message for the SF3 evaluation. -/
  | posStatus (m : MailMsg) (la lb : Nat)
  /-- AZIMUTH (R485). The die receives an AZIMUTH message for sector supervision. -/
  | azimuth (m : MailMsg) (la lb : Nat)
  /-- TRIP_REQUEST (R493). The die receives a TRIP_REQUEST, which can only trip. -/
  | tripRequest (m : MailMsg) (la lb : Nat)
  /-- GUARD_RX (R499). The die receives a Guard PDU and each channel accepts or rejects it. -/
  | guardRx (m : MailMsg) (la lb : Nat) (node : Option (BitVec 14))
  /-- CONFIG (R502). The die receives a configuration image, computes the CCV and enters SEALED or CONFIG_FAULT. -/
  | config (m : MailMsg) (la lb : Nat) (skew : Word)
  /-- SAFETY_STATUS (R486). The hub receives the die's STATUS; mirrors update and the claim gate applies the active zones. -/
  | safetyStatus (crcGood : Bool)
  /-- GUARD_TX (R496). The hub receives a GUARD_TX and sends the PDU on the named paths. -/
  | guardTx (crcGood : Bool)
  /-- SM_SEND (R493). A write of SM_CTRL.SEND hands the SM_TX message to the die, or is ignored. -/
  | smSend
  /-- SM_RX_ACK (R493). A write of SM_CTRL.RX_ACK frees the received message. -/
  | smRxAck
  /-- SM_DEAD (R477). No STATUS message from the die for 5 ms sets SM_IRQ.DEAD. -/
  | smDead
  /-- AZ_FAULT (R485). Azimuth sources disagree for 200 ms, a source is invalid, or messages stop for 20 ms. -/
  | azFault (t : Fin 32) (ch : Fin 2)
  /-- SECTOR (R485). The azimuth lies inside a forbidden sector for 100 ms, or after SECTOR_TIME_MS. -/
  | sector (t : Fin 32) (ch : Fin 2)
  /-- CA_TIMEOUT (R488). No CA status message for CA_TIMEOUT_S makes the own SF3 evaluation red. -/
  | caTimeout (ch : Fin 2)
  /-- POS_PERSIST (R488). An excursion above the red limits held for PERSIST_MS makes SF3 red. -/
  | posPersist (ch : Fin 2)
  /-- POS_TIMEOUT (R488). No POS status message for 1 s makes SF3 red. -/
  | posTimeout (ch : Fin 2)
  /-- GUARD_TX_PERIOD (R497). Every PERIOD_MS a transmit connection builds, cross-checks and sends a PDU. -/
  | guardTxPeriod (c : Fin 16) (la lb : Nat)
  /-- GUARD_WATCHDOG (R500). A RUNNING connection with no PDU for WATCHDOG_MS becomes FAILED and applies its SAFE payload. -/
  | guardWatchdog (c : Fin 16) (ch : Fin 2)
  /-- SESSION_OPEN (R504). An order to 0x9880.01 opens a safety session, or is refused. -/
  | sessionOpen (o : OrderRec)
  /-- CHALLENGE (R504). A READ of 0x9880.02 returns a new 16-byte challenge. -/
  | challenge (p : PortNo) (m : ZdpMsg)
  /-- CHALLENGE_EXPIRY (R504). A challenge expires 60 s after its READ. -/
  | challengeExpiry
  /-- OPEN_BLOCK_EXPIRY (R504). The 15-minute block after five wrong responses ends. -/
  | openBlockExpiry
  /-- SESSION_CLOSE (R507). An order to 0x9880.03 closes the session. -/
  | sessionClose (o : OrderRec)
  /-- SESSION_IDLE_TIMEOUT (R507). A session with no safety order for 600 s closes. -/
  | sessionIdleTimeout
  /-- SEAL (R506). A SEAL order stores the CCV, closes the session and enters SEALED, or is refused. -/
  | seal (o : OrderRec)
  /-- PASSWORD (R505). An order to 0x9880.05 sets SALT and H inside a session. -/
  | password (o : OrderRec)
  /-- PASSWORD_RESET (R505). In BENCH role an order to 0x9880.0A clears the password and every safety parameter. -/
  | passwordReset (o : OrderRec)
  /-- TEST_DEMAND (R508). An order to 0x9880.06 sets or ends a simulated demand in a TEST session. -/
  | testDemand (o : OrderRec)
  /-- TRANSIENT (R512). A unit reports a transient, which counts in its window and may exceed its threshold. -/
  | transient (slot : Fin 456) (corrected : Bool)
  /-- SUBINTERVAL_ROLL (R512). A sub-interval of a unit's window ends and the counts roll. -/
  | subintervalRoll (slot : Fin 456)
  /-- PERMANENT_FAULT (R515). A permanent fault retires the unit, tells its block, raises an ALARM and writes the record. -/
  | permanentFault (slot : Fin 456) (cause : FaultCause)
  /-- BANK_SPARE_COPY_DONE (R516). A retired bank's copy to a spare completes and its addresses move to the spare. -/
  | bankSpareCopyDone (bank : Fin 64) (poisoned : List Word)
  /-- HEALTH_ORDER (R519). An order to 0xA020.01 opens the application for TEST, RETURN or RETIRE of a unit. -/
  | healthOrder (unit : BitVec 16) (action : BitVec 8)
  /-- HL_TEST (R520). A write of HL_ACTION with TEST runs a unit's self-test. -/
  | hlTest (slot : Fin 456)
  /-- HL_TEST_DONE (R520). A unit self-test started by the health block ends and a history record is written. -/
  | hlTestDone (slot : Fin 456) (pass : Bool)
  /-- HL_RETURN (R521). A write of HL_ACTION with RETURN puts a tested unit back in service, or is refused. -/
  | hlReturn (slot : Fin 456)
  /-- HL_RETIRE (R522). A write of HL_ACTION with RETIRE retires a unit with cause ORDERED, or is refused. -/
  | hlRetire (slot : Fin 456)
  /-- SCRUB_NOW (R524). A write of HL_CTRL.SCRUB_NOW starts a patrol scrub pass. -/
  | scrubNow
  /-- SCRUB_PASS (R524). A patrol scrub pass starts every SCRUB_MIN. -/
  | scrubPass (finished : Bool)
  /-- ALARM_RAISE (R525). An ALARM is written to the Cask ring, copied to the peers and streamed to subscribers. -/
  | alarmRaise (block : HwBlock) (name : String) (unit : BitVec 16)
  /-- OVERFLOW_DRAIN (R527). A ring slot frees and the oldest overflow ALARM is written to the ring. -/
  | overflowDrain
  /-- EVENT_RAISE (R528). An EVENT is raised and queued, or coalesced by key. -/
  | eventRaise (block : HwBlock) (name : String) (unit : BitVec 16)
  /-- COALESCE_INTERVAL (R528). A coalescing interval ends and one COALESCED record is issued per key. -/
  | coalesceInterval (key : Nat)
  /-- TRACE_RAISE (R529). A TRACE is queued, or dropped and later preceded by a GAP record. -/
  | traceRaise (code unit : BitVec 16) (detail : List Word)
  /-- HL_RAISE (R532). A write of HL_RAISE raises a firmware record, or counts it as refused. -/
  | hlRaise (core : Fin 4) (cls : BitVec 2) (src : BitVec 21)
  /-- CNT_EV_CFG_WRITE (R535). A write to CNT_EVn_CFG clears the counter and selects a new event. -/
  | cntEvCfgWrite (n : Fin 256) (v : Word)
  /-- CNT_H_CFG_WRITE (R538). A write to CNT_Hh_CFG clears the histogram and selects a new source. -/
  | cntHCfgWrite (h : Fin 16) (v : Word)
  /-- CLEAR_ALL (R534). A write of CNT_CTRL.CLEAR_ALL clears every live count and histogram. -/
  | clearAll
  /-- CNT_SNAP (R540). A write of CNT_CTRL.SNAP starts a SNAP, or sets SNAP_IGNORED. -/
  | cntSnap
  /-- ARM_AT (R540). A write of CNT_CTRL.ARM_AT arms SNAP_AT. -/
  | armAt
  /-- SNAP_AT_FIRE (R540). The armed SNAP_AT instant arrives, or is skipped by a step, and fires a SNAP. -/
  | snapAtFire
  /-- SNAP_PERIODIC (R540). A multiple of SNAP_PERIOD_MS on TB3 starts a SNAP. -/
  | snapPeriodic
  /-- SNAP_COMPLETE (R539). The SNAP copy into the snapshot bank completes and SNAP_SEQ increments. -/
  | snapComplete
  /-- FLASH_CHUNK (R556). A WRITE to 0xC020.01 stages a chunk for programming into the idle slot. -/
  | flashChunk (offset : Word) (data : List Byte)
  /-- FLASH_PROGRAM_DONE (R556). Programming of a staged chunk or an erase completes. -/
  | flashProgramDone
  /-- FLASH_ERASE (R556). A WRITE of 1 to 0xC020.02 erases the idle slot. -/
  | flashErase
  /-- FLASH_CHECK (R556). A WRITE of 1 to 0xC020.03 checks the idle slot under the image checks. -/
  | flashCheck
  /-- ACTIVATE (R557). An ACTIVATE order makes the idle slot preferred on trial and restarts the hub. -/
  | activate (slot flags : BitVec 8)
  /-- BOOT_RESULT (R559). A self-originated order confirms a trial or records a fallback in the boot record. -/
  | bootResult (slot result : BitVec 8)
  /-- ROLLBACK_FLOOR (R560). An order to 0xC010.04 raises FLOOR, or is refused. -/
  | rollbackFloor (floor : Word)
  /-- KEY_PIN (R560). An order to 0xC010.05 sets the signing-key pin, or is refused. -/
  | keyPin (pin : List Byte)
  /-- REBOOT (R552). In recovery a WRITE of 1 to 0xC020.05 restarts the hub. -/
  | reboot
  /-- DATUM_ORDER (R152). A datum order translates every north-east quantity at the next 10 s boundary. -/
  | datumOrder (lat lon : BitVec 64)
  /-- LAY_DOWN (R153). A taut-wire lay-down order sets the weight position from the estimate. -/
  | layDown (slot : Fin 24) (v : BitVec 8)
  /-- VIO33_S_GOOD (R564). VIO33_S rises back to its good level, so the safe-output elements may close again and the POWER_UP trip can be cleared by a reset pulse. -/
  | vio33SGood
  /-- FRAME_ALIGNMENT (R452). A peer link gains or loses frame alignment, changing XL_STATUS.LINK, XL_IRQ.LINK, XL_UP and the peer-link term of the health ceiling. -/
  | frameAlignment (link : Fin 4) (up : Bool)
  /-- LINE_SIGNAL_RETURN (R299). An OPEN encoder input leaves the no-signal band, so LINE_OPEN clears, edges are decoded again and PFS can become true. -/
  | lineSignalReturn (c : Fin 32) (line : Fin 3)
  /-- TX_TAIL_WRITE (R402). A write of EM_TXq_TAIL, XL_TX_TAIL or SU_TX_TAIL offers entries to the egress, which starts sending when idle. -/
  | txTailWrite (p : PortNo) (q : Fin 4) (v : Word)
  /-- PORT_ENABLE (R403). A write of the ENABLE bit of EM_CTRL, XL_CTRL or SU_CTRL starts or stops the port, subject to the role and ZDP-mode refusals. -/
  | portEnable (p : PortNo) (on order : Bool)
  /-- CLAIM_REQUEST (R450). A write of CG_CLAIM_REQ sets the requested rank and health; the claim number changes and a claim frame is sent at once on every path. -/
  | claimRequest (core : Fin 4) (v : Word)
  /-- REQUIREMENT_WRITE (R77). A write of a GRIST_REQc or GRIST_REQ1MIN register starts a re-plan of both admission tables and a recomputation of the kiln margin. -/
  | requirementWrite (core : Fin 4) (r : Fin 6) (v : Word)
  /-- REGISTER_READ (R17). A core read of a register with an RC field or a latching read clears the field to its reset value or latches its companion registers. -/
  | registerRead (core : Fin 4) (mode : CoreMode) (width : BitVec 8) (addr : Word)
  /-- FLASH_CHECK_DONE (R556). The check of the idle flash slot under the image checks completes, and 0xC020.04 reports its code. -/
  | flashCheckDone (readOk : Bool)
  /-- BANK_COPY_BACK_DONE (R521). The copy of a returned bank's contents back from its spare completes, the bank serves its addresses again and the spare is released. -/
  | bankCopyBackDone (bank : Fin 64)
  /-- CASK_READ_THROUGH (R524). Once per 24 h Cask is read through, and corrected or uncorrectable words count against the Cask unit. -/
  | caskReadThrough (corrected : Nat) (uncorrectable : Bool)
  deriving DecidableEq, Repr

end Sys2Proof
end

