-- ==== Sys2Proof/Config.lean ====
section
/-! DEFINITION. What the spec leaves open: free values (opaque constants with no body, so that no proof can
see what they are) and the mathematical functions the spec uses over exact numbers. -/

namespace Sys2Proof

/-- A free value, fresh for each value of the model's counter (`State.fresh`): a value the spec says
results and does not state. -/
opaque Config.freeNat : Nat → Nat

/-- A free exact number, fresh for each value of the model's counter. -/
opaque Config.freeRat : Nat → Rat

/-- The number (low byte of CODE) of a record that a hardware block raises. The catalogue 0xB830 holds it;
the spec does not state its contents (16_faults_health_logs.md, R596). -/
opaque Config.codeNumber : String → BitVec 8

/-- A DETAIL word of a record that a block raises: fixed by the catalogue, which the spec does not print. -/
opaque Config.detailWord : Nat → Nat → BitVec 32

/-- A byte of the TEXT of an ALARM that a block raises; the spec does not state it. -/
opaque Config.textByte : Nat → Nat → BitVec 8

/-- A byte of a challenge of a safety session (R504), by the model's counter and its place. -/
opaque Config.challengeByte : Nat → Nat → BitVec 8

/-- Serial number of the unit (0x1000.05, per unit). -/
opaque Config.serial : BitVec 64

/-- Ordering code of the unit (0x1000.06, per unit), as bytes of its text. -/
opaque Config.orderingCode : List (BitVec 8)

/-- MAC address of EMm (per unit). -/
opaque Config.macAddress : Nat → BitVec 48

/-- Sine, over exact numbers; used where the spec's methods name it. -/
opaque Config.sin : Rat → Rat

/-- Cosine. -/
opaque Config.cos : Rat → Rat

/-- The angle of (x, y), as atan2(y, x). -/
opaque Config.atan2 : Rat → Rat → Rat

/-- The circle number π. -/
opaque Config.pi : Rat

/-- An angle brought into (−π, π] by a whole multiple of 2π. -/
opaque Config.wrapPi : Rat → Rat

/-- An angle brought into [0, 2π). -/
opaque Config.wrapTwoPi : Rat → Rat

/-- Square root of a non-negative number. -/
opaque Config.sqrt : Rat → Rat

/-- Exponential. -/
opaque Config.exp : Rat → Rat

/-- Natural logarithm of a positive number. -/
opaque Config.log : Rat → Rat

/-- A power with a real exponent, of a positive base. -/
opaque Config.rpow : Rat → Rat → Rat

/-- How PIECE (0x41tt.22) numbers the pieces and intervals of a thruster type; the spec does not state it. -/
opaque Config.pieceNumber : Nat → Nat → BitVec 8

/-- Public keys of the two Xofaros roots that the boot ROM holds (18_startup_firmware.md). -/
opaque Config.rootKey : Nat → List Byte

/-- An Ed25519 signature to RFC 8032 by a public key over a message is valid. -/
opaque Config.signatureValid : List Byte → List Byte → List Byte → Bool

/-- SHA-512 of a message, 64 bytes. -/
opaque Config.sha512 : List Byte → List Byte

/-- Entries of the record catalogue by code block and index (0xB830 to 0xB837); the spec does not print them. -/
opaque Config.catalogue : Nat → Nat → List Byte

/-- Task group of each application core (0xC000.09); the running image decides it. -/
opaque Config.taskGroup : Nat → BitVec 8

/-- 0x6000.03 while no slot is enabled: the least of no margins. -/
opaque Config.noMargin : BitVec 32

/-- Check result of a flash slot that has not been checked since the last hub reset (0xC001). -/
opaque Config.uncheckedSlot : BitVec 8

/-- A byte of Cask at a place whose contents the spec gives without their layout. -/
opaque Config.caskByte : Nat → BitVec 8

/-- Bytes of a flash slot; the spec states no size. -/
opaque Config.flashSlotSize : Nat

end Sys2Proof
end

