-- ==== Sys2Proof/Machine/Map.lean ====
section
/-! DEFINITION. Sparse tables keyed by natural numbers: a list of (key, value) pairs with keys rising,
where a key that is not listed has the table's default value. The register file, the dictionary and the
arrays of units (tiles, slots, channels) are such tables. -/

namespace Sys2Proof.Machine

/-- A table with a default value for every key that is not listed. -/
abbrev Map (α : Type) := List (Nat × α)

/-- The value of key `i`, or the default `d`. -/
def Map.get {α : Type} (d : α) : Map α → Nat → α
  | [], _ => d
  | (k, v) :: m, i => if i = k then v else Map.get d m i

/-- The table with key `i` holding `v`. -/
def Map.put {α : Type} : Map α → Nat → α → Map α
  | [], i, v => [(i, v)]
  | (k, w) :: m, i, v =>
    if i < k then (i, v) :: (k, w) :: m
    else if i = k then (i, v) :: m
    else (k, w) :: Map.put m i v

/-- The table with key `i` changed by `f`. -/
def Map.upd {α : Type} (d : α) (m : Map α) (i : Nat) (f : α → α) : Map α :=
  Map.put m i (f (Map.get d m i))

/-- Keys rise strictly. -/
def Map.sorted {α : Type} : Map α → Bool
  | [] => true
  | [_] => true
  | (k, _) :: (l, w) :: m => decide (k < l) && Map.sorted ((l, w) :: m)

/-- Reading back what was put. -/
theorem Map.get_put_self {α : Type} (d : α) (m : Map α) (i : Nat) (v : α) :
    Map.get d (Map.put m i v) i = v := by
  induction m with
  | nil => simp [Map.put, Map.get]
  | cons p m ih =>
    obtain ⟨k, w⟩ := p
    simp only [Map.put]
    split_ifs with h1 h2
    · simp [Map.get]
    · simp [Map.get]
    · simp [Map.get, h2, ih]

/-- Putting at one key leaves every other key. -/
theorem Map.get_put_ne {α : Type} (d : α) (m : Map α) (i j : Nat) (v : α) (h : j ≠ i) :
    Map.get d (Map.put m i v) j = Map.get d m j := by
  induction m with
  | nil =>
    simp only [Map.put, Map.get]
    split_ifs <;> simp_all
  | cons p m ih =>
    obtain ⟨k, w⟩ := p
    simp only [Map.put]
    split_ifs with h1 h2
    · simp only [Map.get]
      split_ifs <;> first | rfl | omega
    · simp only [Map.get]
      split_ifs <;> first | rfl | omega
    · simp only [Map.get, ih]

/-- Reading after a put, at any key. -/
theorem Map.get_put {α : Type} (d : α) (m : Map α) (i j : Nat) (v : α) :
    Map.get d (Map.put m i v) j = if j = i then v else Map.get d m j := by
  split_ifs with h
  · subst h; exact Map.get_put_self d m j v
  · exact Map.get_put_ne d m i j v h

@[simp] theorem Map.get_nil {α : Type} (d : α) (i : Nat) : Map.get d [] i = d := rfl

/-- Reading after an update, at any key. -/
theorem Map.get_upd {α : Type} (d : α) (m : Map α) (i j : Nat) (f : α → α) :
    Map.get d (Map.upd d m i f) j = if j = i then f (Map.get d m i) else Map.get d m j :=
  Map.get_put d m i j _

end Sys2Proof.Machine
end

