-- ==== Sys2Proof/Machine/Types.lean ====
section
/-! DEFINITION. The pieces of state that the blocks keep beside their registers, block by block. All are
plain data. -/

namespace Sys2Proof.Machine

/-! ### Time (10_time.md) -/

/-- One time base: the raw count and its fraction (R319) and the seconds:nanoseconds clock above it (R321),
with what R330 needs after a step. -/
structure TimeBase where
  /-- Raw nanosecond count. -/
  count : BitVec 32 := 0
  /-- Fraction of a nanosecond, in 2⁻³² ns. -/
  frac : BitVec 32 := 0
  /-- Seconds. -/
  sec : BitVec 48 := 0
  /-- Nanoseconds, below 10⁹. -/
  ns : Nat := 0
  /-- First instant, in ns, that may fire after a backward step (R330). -/
  barrier : Nat := 0
  /-- Start of the interval that the last forward step skipped, in ns. -/
  skipFrom : Nat := 0
  /-- End of that interval, in ns. -/
  skipTo : Nat := 0
  /-- Steps since reset (0x780n.15). -/
  steps : Nat := 0
  deriving DecidableEq, Repr

/-- The seconds:nanoseconds value that a core latched by reading TBn_COUNT (R323). -/
structure Latch where
  ns : Nat := 0
  sec : Nat := 0
  deriving DecidableEq, Repr

/-- What the time servo keeps for one base (R333, R334). -/
structure Servo where
  /-- The integral I, in ns. -/
  integ : Rat := 0
  /-- Consecutive offsets within LOCK_NS. -/
  good : Nat := 0
  /-- Consecutive offsets beyond 4 × LOCK_NS. -/
  bad : Nat := 0
  /-- Last offset, ns. -/
  last : Int := 0
  /-- Interval T of the source, in seconds. -/
  interval : Rat := 1
  /-- TB3 time, in ns, at which the base entered HOLDOVER. -/
  holdAt : Option Nat := none
  /-- The ALARM of this holdover has been raised. -/
  alarmed : Bool := false
  /-- The base has been LOCKED since reset (R335). -/
  everLocked : Bool := false
  deriving DecidableEq, Repr

/-- A foreign master that an instance has heard. -/
structure ForeignMaster where
  port : Nat
  announce : AnnounceData
  deriving DecidableEq, Repr

/-- One PTP instance (R338 to R340). -/
structure PtpInstance where
  foreign : List ForeignMaster := []
  /-- Port selected by the BMCA as slave port. -/
  active : Option Nat := none
  /-- No foreign master is better: this instance is master. -/
  master : Bool := false
  /-- Ingress stamp of the last Sync, ns, and its sequence number and correction. -/
  syncT2 : Int := 0
  syncSeq : Nat := 0
  syncCorr : Int := 0
  /-- Origin time of the last Sync, ns. -/
  syncT1 : Int := 0
  /-- Egress stamp of the last delay request, ns, and its sequence number. -/
  delayT3 : Int := 0
  delaySeq : Nat := 0
  /-- Mean path delay, ns. -/
  meanPath : Int := 0
  /-- currentUtcOffset of the master. -/
  utcOffset : Int := 0
  /-- Sequence numbers of the messages this instance sends. -/
  txSync : Nat := 0
  txAnnounce : Nat := 0
  txDelay : Nat := 0
  deriving DecidableEq, Repr

/-- One PPS input (R342). -/
structure PpsInput where
  /-- Last edge seen, ns on its base. -/
  lastEdge : Option Nat := none
  /-- Last qualified edge, ns on its base. -/
  lastQualified : Option Nat := none
  /-- Qualified edges and missed seconds since reset (0x7810.11, .12). -/
  qualified : Nat := 0
  missed : Nat := 0
  deriving DecidableEq, Repr

/-- A pulse that a PPS output drives. -/
structure PpsOutput where
  /-- Start of the last pulse, ns on its base. -/
  lastStart : Option Nat := none
  /-- Pulses driven since reset. -/
  pulses : Nat := 0
  deriving DecidableEq, Repr

/-- A PTP message that an instance has sent. -/
structure PtpOut where
  inst : Nat
  port : Nat
  kind : PtpKind
  seq : Nat
  /-- Origin time placed in the message, ns; 0 where it carries none. -/
  origin : Int
  deriving DecidableEq, Repr

/-- The time unit. -/
structure TimeSt where
  bases : Map TimeBase := []
  /-- Latches of TBn_COUNT reads, keyed by core × 4 + n. -/
  latches : Map Latch := []
  servo : Map Servo := []
  ptp : Map PtpInstance := []
  ppsIn : Map PpsInput := []
  ppsOut : Map PpsOutput := []
  ptpOut : List PtpOut := []
  deriving DecidableEq, Repr

/-! ### Health and logs (16_faults_health_logs.md) -/

/-- An EVENT or TRACE record. -/
structure LogRec where
  seq : Nat
  node : Nat
  code : Nat
  first : Stamp
  last : Stamp
  count : Nat
  unit : Nat
  coalesced : Bool
  gap : Bool
  detail : List Word
  deriving DecidableEq, Repr

/-- What the health block keeps of a key that raises EVENTs (R528). -/
structure EventKey where
  /-- TB3 second of `inSecond`. -/
  second : Nat := 0
  /-- Raisings in that second. -/
  inSecond : Nat := 0
  /-- The key coalesces. -/
  coalescing : Bool := false
  /-- TB3 time, ns, at which the coalescing interval that runs began. -/
  began : Nat := 0
  /-- Raisings of the interval that runs. -/
  count : Nat := 0
  first : Stamp := {}
  last : Stamp := {}
  detail : List Word := []
  deriving DecidableEq, Repr

/-- State of one unit (R511 to R521). The first six fields are its entry in the retirement table of Cask. -/
structure UnitSt where
  /-- 0 IN_SERVICE, 1 OFFLINE, 2 TESTING, 3 RETIRED, 4 RETIRED_TESTED. -/
  state : Nat := 0
  cause : Nat := 0
  retireCount : Nat := 0
  /-- Spare of a bank unit. -/
  spare : Option Nat := none
  histSeq : Nat := 0
  /-- Transients of the 16 sub-intervals, newest first; retries for a tile. -/
  window : List Nat := []
  /-- Corrected words of a tile, as `window`. -/
  window2 : List Nat := []
  /-- TB3 time, ns, of the last passed test. -/
  testedAt : Option Nat := none
  /-- A transient has come since that test. -/
  sinceTest : Bool := false
  deriving DecidableEq, Repr

/-- A retirement history record (R517). -/
structure HistRec where
  seq : Nat
  time : Stamp
  unit : Nat
  event : Nat
  cause : Nat
  node : Nat
  count : Nat
  osn : Nat
  /-- DETAIL by cause; the spec gives its layout by reference only. -/
  detail : Nat
  deriving DecidableEq, Repr

/-- What runs in the health block at the moment: a test, a copy or a return. -/
inductive HealthJob
  /-- A self-test, with the origin node and OSN of its order, or 0 and 0. -/
  | test (slot : Nat) (node osn : Nat)
  | copyOut (bank spare : Nat) (retiring : Bool)
  /-- The copy back to a bank: of a RETURN with the origin node and OSN of its order, or after a self-test. -/
  | copyBack (bank : Nat) (returning : Option (Nat × Nat))
  deriving DecidableEq, Repr

/-- The health block. -/
structure HealthSt where
  /-- Units by slot 0–455. -/
  units : Map UnitSt := []
  /-- The retirement state table as Cask holds it (R517), by slot. -/
  table : Map UnitSt := []
  /-- History ring, newest last, at most 768 records. -/
  history : List HistRec := []
  histSeq : Nat := 0
  /-- Own ALARMs raised since manufacture. -/
  aseq : Nat := 0
  /-- Records written to the ALARM ring since manufacture. -/
  rhead : Nat := 0
  /-- The ALARM ring of 4,096 slots. -/
  ring : Map (Option AlarmRec) := []
  /-- Overflow area, oldest first. -/
  overflow : List AlarmRec := []
  /-- ALARMs held in hub memory during a dip. -/
  held : List AlarmRec := []
  /-- History records held during a dip. -/
  heldHist : List HistRec := []
  keys : Map EventKey := []
  evSeq : Nat := 0
  /-- EVENT ring, newest last, at most 8,192 records. -/
  evRing : List LogRec := []
  trSeq : Nat := 0
  jobs : List HealthJob := []
  /-- The last record of the TRACE stream. -/
  lastTrace : Option LogRec := none
  /-- Patrol scrub passes running. -/
  scrubbing : Bool := false
  /-- The hub is held in reset for want of a spare bank (R516). -/
  exhausted : Bool := false
  deriving DecidableEq, Repr

/-! ### Dictionary and ports (12_dictionary_ports.md) -/

/-- A live subscription (R392, R393), with its log queues (R526 to R530). -/
structure Sub where
  id : Nat
  port : Nat
  src : Nat
  tag : Nat
  index : Nat
  sub : Nat
  periodMs : Nat
  minMs : Nat
  lifeS : Nat
  /-- TB3 time, ns, of the last renewal. -/
  renewed : Nat
  /-- Values due so far. -/
  nseq : Nat
  /-- A due value that waits, with its time. -/
  waiting : Option (Val × Stamp)
  /-- TB3 time, ns, at which the last NOTIFY left. -/
  lastLeft : Option Nat
  /-- ALARM stream: index of the next record to send. -/
  next : Nat
  evQueue : List LogRec
  trQueue : List LogRec
  /-- TRACEs dropped since the queue was full, with first and last time. -/
  trDropped : Nat
  trFirst : Stamp
  trLast : Stamp
  /-- METRIC: factor on PERIOD_MS, 1 to 16. -/
  factor : Nat
  /-- METRIC: NOTIFYs in a row that left on time. -/
  onTime : Nat
  /-- The value that waits has found its egress closed. -/
  late : Bool
  deriving DecidableEq, Repr

/-- A BULK write being staged (R395). -/
structure Stage where
  port : Nat
  src : Nat
  tag : Nat
  index : Nat
  sub : Nat
  total : Nat
  /-- Offset and bytes of each segment, newest first. -/
  parts : List (Nat × List Byte)
  /-- TB3 time, ns, of the last segment. -/
  lastAt : Nat
  deriving DecidableEq, Repr

/-- A ZDP message that the device sends: a reply or a NOTIFY. -/
structure ZdpOut where
  port : Nat
  dst : Nat
  kind : Nat
  flags : Nat
  tag : Nat
  index : Nat
  sub : Nat
  status : Nat
  seg : Nat
  body : List Byte
  deriving DecidableEq, Repr

/-- A programmed port-class fuse (R383). -/
structure Fuse where
  cls : Nat
  node : Nat
  port : Nat
  time : Stamp
  deriving DecidableEq, Repr

/-- A firmware-defined object that the running image declares (R46, R595). -/
structure FwObj where
  entry : ObjDef
  setOrder : Bool
  deviceOrder : Bool
  deriving DecidableEq, Repr

/-- The dictionary gate and the ZDP carriers. -/
structure ZdpSt where
  subs : List Sub := []
  nextSub : Nat := 0
  stages : List Stage := []
  /-- Requests taken in the TB3 second that runs, by port number. -/
  rate : Map Nat := []
  /-- Refusals sent in that second, by port number. -/
  refusals : Map Nat := []
  /-- 0x12pp.05 to .07, by port number. -/
  requests : Map Nat := []
  refused : Map Nat := []
  dropped : Map Nat := []
  /-- Messages waiting to leave. -/
  out : List ZdpOut := []
  /-- Fuses by port number (Cask). -/
  fuses : Map (Option Fuse) := []
  /-- Objects of 0xC800–0xEFFF declared by the running image. -/
  fw : List FwObj := []
  /-- Class in force by port number, set at reset. -/
  classes : Map Nat := []
  deriving DecidableEq, Repr

end Sys2Proof.Machine
end

