-- ==== Sys2Proof/Machine/Operands.lean ====
section
/-! DEFINITION. The forms in which values travel: little-endian bytes (R16), the CRC-32 of the result-slot
header (01_architecture.md), binary32 and binary64 (R375), Q15, and the types of dictionary values. -/

namespace Sys2Proof.Machine

/-- The `n` low bytes of `v`, lowest first (R16). -/
def leBytes : Nat → Nat → List Byte
  | 0, _ => []
  | n + 1, v => BitVec.ofNat 8 v :: leBytes n (v / 256)

/-- The number that little-endian bytes spell. -/
def leNat : List Byte → Nat
  | [] => 0
  | b :: bs => b.toNat + 256 * leNat bs

/-- `n` bytes of `b` from offset `off`, as a little-endian number. Missing bytes count as 0. -/
def leAt (b : List Byte) (off n : Nat) : Nat := leNat ((b.drop off).take n)

/-- The bytes of an ASCII text. -/
def textBytes (t : String) : List Byte := t.toList.map fun c => BitVec.ofNat 8 c.toNat

/-- `b` cut or padded with zero bytes to `n` bytes. -/
def padTo (n : Nat) (b : List Byte) : List Byte := b.take n ++ List.replicate (n - b.length) 0

/-- One bit step of the reflected CRC-32 of polynomial 0x04C1_1DB7. -/
def crcBit (c : Nat) : Nat := if c % 2 = 1 then (c / 2) ^^^ 0xEDB88320 else c / 2

/-- One byte step of the CRC. -/
def crcByte (c : Nat) (b : Byte) : Nat :=
  crcBit (crcBit (crcBit (crcBit (crcBit (crcBit (crcBit (crcBit (c ^^^ b.toNat))))))))

/-- CRC-32 with the parameters of the result-slot header CRC: initial value and final XOR 0xFFFF_FFFF,
reflected input and output. -/
def crc32 (bs : List Byte) : Nat := (bs.foldl crcByte 0xFFFFFFFF) ^^^ 0xFFFFFFFF

/-- The exact value of a finite IEEE 754 number with `eb` exponent and `mb` fraction bits. -/
def floatValue (eb mb n : Nat) : Rat :=
  let frac := n % 2 ^ mb
  let ex := n / 2 ^ mb % 2 ^ eb
  let bias : Int := 2 ^ (eb - 1) - 1
  let mag : Rat :=
    if ex = 0 then (frac : Rat) * (2 : Rat) ^ (1 - bias - (mb : Int))
    else ((2 ^ mb + frac : Nat) : Rat) * (2 : Rat) ^ ((ex : Int) - bias - (mb : Int))
  if n / 2 ^ (eb + mb) % 2 = 1 then -mag else mag

/-- The number is neither an infinity nor a NaN. -/
def floatFinite (eb mb n : Nat) : Bool := n / 2 ^ mb % 2 ^ eb != 2 ^ eb - 1

/-- The number is a NaN. -/
def floatNaN (eb mb n : Nat) : Bool := n / 2 ^ mb % 2 ^ eb == 2 ^ eb - 1 && n % 2 ^ mb != 0

/-- Nearest integer of a rational, ties to even. -/
def roundEven (x : Rat) : Int :=
  let f := x.floor
  let d := x - f
  if d < 1 / 2 then f else if 1 / 2 < d then f + 1 else if f % 2 = 0 then f else f + 1

/-- Exponent e of a positive rational: 2^e ≤ x < 2^(e+1). -/
def ratLog2 (x : Rat) : Int :=
  let e : Int := (Nat.log2 x.num.toNat : Int) - (Nat.log2 x.den : Int)
  if (2 : Rat) ^ e ≤ x then (if (2 : Rat) ^ (e + 1) ≤ x then e + 1 else e) else e - 1

/-- The IEEE 754 number nearest to `x`, ties to even, an infinity beyond the largest finite number. -/
def floatEncode (eb mb : Nat) (x : Rat) : Nat :=
  if x = 0 then 0 else
  let bias : Int := 2 ^ (eb - 1) - 1
  let emin : Int := 1 - bias
  let a := |x|
  let e := max (ratLog2 a) emin
  let m := (roundEven (a * (2 : Rat) ^ ((mb : Int) - e))).toNat
  let body := (e - emin).toNat * 2 ^ mb + m
  let top := (2 ^ eb - 1) * 2 ^ mb
  (if body < top then body else top) + (if x < 0 then 2 ^ (eb + mb) else 0)

/-- Value of a binary32. -/
def ofF32 (n : Nat) : Rat := floatValue 8 23 n

/-- Value of a binary64. -/
def ofF64 (n : Nat) : Rat := floatValue 11 52 n

/-- Binary32 nearest to a value. -/
def toF32 (x : Rat) : Nat := floatEncode 8 23 x

/-- Binary64 nearest to a value. -/
def toF64 (x : Rat) : Nat := floatEncode 11 52 x

/-- Value of a Q15 word: a signed 16-bit fraction (00_scope.md). -/
def q15 (n : Nat) : Rat := (signed 16 n : Rat) / 32768

/-- Nearest integer of a rational, halves upward. -/
def roundHalfUp (x : Rat) : Int := (x + 1 / 2).floor

/-- Bytes that a value of the type takes; 0 for STR and BLOB (R375). -/
def ObjTy.size : ObjTy → Nat
  | .bool | .u8 | .i8 => 1
  | .u16 | .i16 | .q15 => 2
  | .u32 | .i32 | .f32 => 4
  | .u64 | .i64 | .f64 => 8
  | .time => 12
  | .str | .blob => 0

/-- The type code of R375. -/
def ObjTy.code : ObjTy → Nat
  | .bool => 1 | .u8 => 2 | .u16 => 3 | .u32 => 4 | .u64 => 5 | .i8 => 6 | .i16 => 7 | .i32 => 8
  | .i64 => 9 | .f32 => 10 | .f64 => 11 | .q15 => 12 | .time => 13 | .str => 14 | .blob => 15

/-- The type is a STR or BLOB. -/
def ObjTy.isBytes : ObjTy → Bool
  | .str | .blob => true
  | _ => false

/-- The type holds its value as bytes in this model. -/
def ObjTy.asBytes : ObjTy → Bool
  | .str | .blob | .time => true
  | _ => false

/-- Numeric value of the bits of a type. -/
def ObjTy.value (t : ObjTy) (n : Nat) : Rat :=
  match t with
  | .i8 => signed 8 n
  | .i16 | .q15 => signed 16 n
  | .i32 => signed 32 n
  | .i64 => signed 64 n
  | .f32 => ofF32 n
  | .f64 => ofF64 n
  | _ => n

/-- Bytes of a value on the wire. -/
def Val.wire (t : ObjTy) : Val → List Byte
  | .num n => leBytes t.size n
  | .bytes b => b

/-- The value that wire bytes spell. -/
def Val.ofWire (t : ObjTy) (b : List Byte) : Val :=
  if t.asBytes then .bytes b else .num (leNat b)

/-- The number of a value. -/
def Val.toNat : Val → Nat
  | .num n => n
  | .bytes b => leNat b

/-- The bytes of a value. -/
def Val.toBytes : Val → List Byte
  | .num _ => []
  | .bytes b => b

/-- Wire form of a TIME (R375): seconds U48, two zero bytes, nanoseconds U32. -/
def timeBytes (t : Stamp) : List Byte := leBytes 6 t.sec ++ [0, 0] ++ leBytes 4 t.ns

/-- The default of an entry at index offset `i`. -/
def ObjDef.default (o : ObjDef) (i : Nat) : Val :=
  if o.ty == .str then .bytes (textBytes o.dfltStr)
  else if o.ty == .time then .bytes (List.replicate 12 0)
  else if o.ty == .blob then .bytes (if o.len.1 == o.len.2.1 then List.replicate o.len.1 0 else [])
  else .num (o.alts.getD i o.dflt)

/-- Well-formed UTF-8, as far as sequence lengths, continuation bytes and the shortest-form rule go. -/
def utf8Ok : Nat → List Byte → Bool
  | 0, l => l.isEmpty
  | _ + 1, [] => true
  | f + 1, b :: r =>
    let n := b.toNat
    let cont (x : Byte) (lo hi : Nat) : Bool := lo ≤ x.toNat && x.toNat ≤ hi
    if n < 0x80 then utf8Ok f r
    else if 0xC2 ≤ n && n ≤ 0xDF then
      match r with
      | c :: r => cont c 0x80 0xBF && utf8Ok f r
      | _ => false
    else if 0xE0 ≤ n && n ≤ 0xEF then
      match r with
      | c :: d :: r =>
        cont c (if n == 0xE0 then 0xA0 else 0x80) (if n == 0xED then 0x9F else 0xBF) && cont d 0x80 0xBF &&
          utf8Ok f r
      | _ => false
    else if 0xF0 ≤ n && n ≤ 0xF4 then
      match r with
      | c :: d :: e :: r =>
        cont c (if n == 0xF0 then 0x90 else 0x80) (if n == 0xF4 then 0x8F else 0xBF) && cont d 0x80 0xBF &&
          cont e 0x80 0xBF && utf8Ok f r
      | _ => false
    else false

/-- How many characters well-formed UTF-8 holds. -/
def utf8Chars (b : List Byte) : Nat := (b.filter fun x => !(0x80 ≤ x.toNat && x.toNat ≤ 0xBF)).length

/-- The number whose bits 0 to n − 1 are those for which `f` holds. -/
def sumBits (n : Nat) (f : Nat → Bool) : Nat := (List.range n).foldl (fun a b => a + if f b then 2 ^ b else 0) 0

end Sys2Proof.Machine
end

