-- ==== Sys2Proof/Machine/RegMap.lean ====
section
/-! DEFINITION. The register map of the hub: one `Field` per field of the register tables of the
spec's chapters, with its place, access code and reset value. Registers of arrays carry the number of
elements and the address step of each index. The access codes are those of 00_scope.md (R16 to R19). -/

namespace Sys2Proof.Machine

/-- Access codes of the register tables (00_scope.md), with two of the model's own for rules stated beside
the tables: `je` is written only by the journal engine (R44, R245, R474), `sw` is a loop-engine signal
word (R261). -/
inductive Acc
  | ro | rw | wo | w1c | rc | je | sw
  deriving DecidableEq, Repr

/-- One field of one register, or of every register of an array of `n1` by `n2` registers. -/
structure Field where
  /-- Address of the register, or of element (0, 0) of its array. -/
  base : Nat
  /-- Elements of the first index. -/
  n1 : Nat
  /-- Address step of the first index; 0 where the first index is the core of a banked register. -/
  s1 : Nat
  /-- Elements of the second index. -/
  n2 : Nat
  /-- Address step of the second index. -/
  s2 : Nat
  /-- The register is banked: the first index is the core that reaches it. -/
  banked : Bool
  /-- Lowest bit. -/
  lo : Nat
  /-- Width in bits. -/
  w : Nat
  /-- Access code. -/
  acc : Acc
  /-- Reset value. -/
  rst : Nat
  deriving DecidableEq, Repr

/-- Where a field's value stands in the register file: the bit address of its lowest bit. A banked
register has one copy for each core, placed above the 32-bit address space. The elements of an array are numbered from 0;
a number beyond the last one counts on from the first. -/
def Field.key (f : Field) (i j : Nat) : Nat :=
  (f.base + i % f.n1 * (if f.banked then 4294967296 else f.s1) + j % f.n2 * f.s2) * 32 + f.lo

namespace Reg


/-! Block GRIST: 02_clockless_timing_admission.md Grist registers. -/

def GRIST_CTRL_REPLAN : Field := ⟨0x40000000, 1, 0, 1, 0, false, 0, 1, .wo, 0⟩
def GRIST_STATUS_TABLE_GEN : Field := ⟨0x40000004, 1, 0, 1, 0, false, 16, 16, .ro, 0⟩
def GRIST_STATUS_SHED : Field := ⟨0x40000004, 1, 0, 1, 0, false, 8, 3, .ro, 0⟩
def GRIST_STATUS_READY : Field := ⟨0x40000004, 1, 0, 1, 0, false, 7, 1, .ro, 0⟩
def GRIST_STATUS_REPLANNING : Field := ⟨0x40000004, 1, 0, 1, 0, false, 2, 1, .ro, 0⟩
def GRIST_STATUS_BREACH : Field := ⟨0x40000004, 1, 0, 1, 0, false, 1, 1, .ro, 0⟩
def GRIST_STATUS_DIP : Field := ⟨0x40000004, 1, 0, 1, 0, false, 0, 1, .ro, 0⟩
def GRIST_IRQ_KILN : Field := ⟨0x40000008, 1, 0, 1, 0, false, 8, 1, .w1c, 0⟩
def GRIST_IRQ_SPEED_FAULT : Field := ⟨0x40000008, 1, 0, 1, 0, false, 7, 1, .w1c, 0⟩
def GRIST_IRQ_REFUSED : Field := ⟨0x40000008, 1, 0, 1, 0, false, 6, 1, .w1c, 0⟩
def GRIST_IRQ_SHED_CHANGE : Field := ⟨0x40000008, 1, 0, 1, 0, false, 5, 1, .w1c, 0⟩
def GRIST_IRQ_BREACH : Field := ⟨0x40000008, 1, 0, 1, 0, false, 4, 1, .w1c, 0⟩
def GRIST_IRQ_DIP_LONG : Field := ⟨0x40000008, 1, 0, 1, 0, false, 3, 1, .w1c, 0⟩
def GRIST_IRQ_DIP_EXIT : Field := ⟨0x40000008, 1, 0, 1, 0, false, 2, 1, .w1c, 0⟩
def GRIST_IRQ_DIP_ENTER : Field := ⟨0x40000008, 1, 0, 1, 0, false, 1, 1, .w1c, 0⟩
def GRIST_IRQ_TABLE_CHANGED : Field := ⟨0x40000008, 1, 0, 1, 0, false, 0, 1, .w1c, 0⟩
def GRIST_IRQ_EN_EN : Field := ⟨0x4000000C, 1, 0, 1, 0, false, 0, 9, .rw, 0⟩
def GRIST_RESOURCES_OPS_IN_FLIGHT : Field := ⟨0x40000010, 1, 0, 1, 0, false, 19, 11, .ro, 0⟩
def GRIST_RESOURCES_OPS_RESERVED : Field := ⟨0x40000010, 1, 0, 1, 0, false, 8, 11, .ro, 0⟩
def GRIST_RESOURCES_CONTEXTS_USED : Field := ⟨0x40000010, 1, 0, 1, 0, false, 0, 8, .ro, 0⟩
def GRIST_REFUSALS_COUNT : Field := ⟨0x40000014, 1, 0, 1, 0, false, 0, 32, .ro, 0⟩
def GRIST_ADMIT_DESC : Field := ⟨0x40000040, 1, 0, 1, 0, false, 0, 20, .wo, 0⟩
def GRIST_VERDICT_PENDING : Field := ⟨0x40000044, 4, 0, 1, 0, true, 31, 1, .ro, 0⟩
def GRIST_VERDICT_ADMITTED : Field := ⟨0x40000044, 4, 0, 1, 0, true, 30, 1, .ro, 0⟩
def GRIST_VERDICT_OVERRUN : Field := ⟨0x40000044, 4, 0, 1, 0, true, 29, 1, .rc, 0⟩
def GRIST_VERDICT_REASON : Field := ⟨0x40000044, 4, 0, 1, 0, true, 24, 4, .ro, 0⟩
def GRIST_VERDICT_CONTEXT : Field := ⟨0x40000044, 4, 0, 1, 0, true, 16, 8, .ro, 0⟩
def GRIST_VERDICT_SEQ : Field := ⟨0x40000044, 4, 0, 1, 0, true, 0, 16, .ro, 0⟩
def GRIST_VERDICT_EST_EST : Field := ⟨0x40000048, 4, 0, 1, 0, true, 0, 32, .ro, 0⟩
def GRIST_REQ0_REQ : Field := ⟨0x40000080, 1, 0, 1, 0, false, 0, 16, .rw, 400⟩
def GRIST_REQ1_REQ : Field := ⟨0x40000084, 1, 0, 1, 0, false, 0, 16, .rw, 2520⟩
def GRIST_REQ2_REQ : Field := ⟨0x40000088, 1, 0, 1, 0, false, 0, 16, .rw, 300⟩
def GRIST_REQ3_REQ : Field := ⟨0x4000008C, 1, 0, 1, 0, false, 0, 16, .rw, 1130⟩
def GRIST_REQ4_REQ : Field := ⟨0x40000090, 1, 0, 1, 0, false, 0, 16, .ro, 500⟩
def GRIST_REQ1MIN_REQ : Field := ⟨0x40000094, 1, 0, 1, 0, false, 0, 16, .rw, 630⟩
def GRIST_GRANT_GRANT : Field := ⟨0x400000A0, 5, 4, 1, 0, false, 0, 16, .ro, 0⟩
def GRIST_SHARE_GENERAL : Field := ⟨0x40000100, 32, 4, 1, 0, false, 24, 6, .ro, 0⟩
def GRIST_SHARE_CONSEQ : Field := ⟨0x40000100, 32, 4, 1, 0, false, 18, 6, .ro, 0⟩
def GRIST_SHARE_BUNDLE : Field := ⟨0x40000100, 32, 4, 1, 0, false, 12, 6, .ro, 0⟩
def GRIST_SHARE_PLAN : Field := ⟨0x40000100, 32, 4, 1, 0, false, 6, 6, .ro, 0⟩
def GRIST_SHARE_EST : Field := ⟨0x40000100, 32, 4, 1, 0, false, 0, 6, .ro, 0⟩

/-! Block GAUGE: 02_clockless_timing_admission.md Gauge registers. -/

def GAUGE_CTRL_KILN_RUN : Field := ⟨0x40010000, 1, 0, 1, 0, false, 1, 1, .wo, 0⟩
def GAUGE_CTRL_REF_SAMPLE : Field := ⟨0x40010000, 1, 0, 1, 0, false, 0, 1, .wo, 0⟩
def GAUGE_STATUS_CAL_VALID : Field := ⟨0x40010004, 1, 0, 1, 0, false, 7, 1, .ro, 0⟩
def GAUGE_STATUS_KILN_URGENT : Field := ⟨0x40010004, 1, 0, 1, 0, false, 6, 1, .ro, 0⟩
def GAUGE_STATUS_KILN_WARN : Field := ⟨0x40010004, 1, 0, 1, 0, false, 5, 1, .ro, 0⟩
def GAUGE_STATUS_TEMP_HIGH : Field := ⟨0x40010004, 1, 0, 1, 0, false, 4, 1, .ro, 0⟩
def GAUGE_STATUS_BREACH : Field := ⟨0x40010004, 1, 0, 1, 0, false, 3, 1, .ro, 0⟩
def GAUGE_STATUS_DIP_LONG : Field := ⟨0x40010004, 1, 0, 1, 0, false, 2, 1, .ro, 0⟩
def GAUGE_STATUS_DIP : Field := ⟨0x40010004, 1, 0, 1, 0, false, 1, 1, .ro, 0⟩
def GAUGE_STATUS_VCORE_WARN : Field := ⟨0x40010004, 1, 0, 1, 0, false, 0, 1, .ro, 0⟩
def GAUGE_VCORE_MIN : Field := ⟨0x40010008, 1, 0, 1, 0, false, 16, 16, .rc, 65535⟩
def GAUGE_VCORE_NOW : Field := ⟨0x40010008, 1, 0, 1, 0, false, 0, 16, .ro, 0⟩
def GAUGE_DIP_COUNT : Field := ⟨0x4001000C, 1, 0, 1, 0, false, 16, 16, .ro, 0⟩
def GAUGE_DIP_LAST_MS : Field := ⟨0x4001000C, 1, 0, 1, 0, false, 0, 16, .ro, 0⟩
def GAUGE_HUB_FLOOR : Field := ⟨0x40010010, 1, 0, 1, 0, false, 16, 16, .ro, 0⟩
def GAUGE_HUB_MEASURED : Field := ⟨0x40010010, 1, 0, 1, 0, false, 0, 16, .ro, 0⟩
def GAUGE_HUB_DIP_DIP : Field := ⟨0x40010014, 1, 0, 1, 0, false, 0, 16, .ro, 0⟩
def GAUGE_KILN_SLOWEST_TILE : Field := ⟨0x40010018, 1, 0, 1, 0, false, 16, 5, .ro, 0⟩
def GAUGE_KILN_MARGIN : Field := ⟨0x40010018, 1, 0, 1, 0, false, 0, 16, .ro, 0⟩
def GAUGE_SPEED_FLOOR : Field := ⟨0x40010100, 32, 4, 1, 0, false, 16, 16, .ro, 0⟩
def GAUGE_SPEED_MEASURED : Field := ⟨0x40010100, 32, 4, 1, 0, false, 0, 16, .ro, 0⟩
def GAUGE_DIPT_AGE : Field := ⟨0x40010180, 32, 4, 1, 0, false, 16, 16, .ro, 0⟩
def GAUGE_DIPT_DIP : Field := ⟨0x40010180, 32, 4, 1, 0, false, 0, 16, .ro, 0⟩
def GAUGE_TEMP_MAX : Field := ⟨0x40010200, 32, 4, 1, 0, false, 16, 16, .rc, 32768⟩
def GAUGE_TEMP_TEMP : Field := ⟨0x40010200, 32, 4, 1, 0, false, 0, 16, .ro, 0⟩
def GAUGE_FLAGS_SPEED_FAULT : Field := ⟨0x40010280, 32, 4, 1, 0, false, 6, 1, .ro, 0⟩
def GAUGE_FLAGS_MON_EXCL : Field := ⟨0x40010280, 32, 4, 1, 0, false, 2, 4, .ro, 0⟩
def GAUGE_FLAGS_BREACH_SEEN : Field := ⟨0x40010280, 32, 4, 1, 0, false, 1, 1, .w1c, 0⟩
def GAUGE_FLAGS_BREACH : Field := ⟨0x40010280, 32, 4, 1, 0, false, 0, 1, .ro, 0⟩

/-! Block TILE: 03_solver_fabric.md Tile registers. -/

def TILE_ID_DIE : Field := ⟨0x20300000, 32, 4194304, 1, 0, false, 5, 1, .ro, 0⟩
def TILE_ID_TILE : Field := ⟨0x20300000, 32, 4194304, 1, 0, false, 0, 5, .ro, 0⟩
def TILE_STATE_DMA_BUSY : Field := ⟨0x20300004, 32, 4194304, 1, 0, false, 24, 1, .ro, 0⟩
def TILE_STATE_CONTEXT : Field := ⟨0x20300004, 32, 4194304, 1, 0, false, 16, 8, .ro, 0⟩
def TILE_STATE_PARTS : Field := ⟨0x20300004, 32, 4194304, 1, 0, false, 8, 8, .ro, 0⟩
def TILE_STATE_STATE : Field := ⟨0x20300004, 32, 4194304, 1, 0, false, 0, 3, .ro, 1⟩
def TILE_CTRL_BIST_START : Field := ⟨0x20300008, 32, 4194304, 1, 0, false, 2, 1, .wo, 0⟩
def TILE_CTRL_ONLINE : Field := ⟨0x20300008, 32, 4194304, 1, 0, false, 1, 1, .wo, 0⟩
def TILE_CTRL_DRAIN : Field := ⟨0x20300008, 32, 4194304, 1, 0, false, 0, 1, .wo, 0⟩
def TILE_ERR_CTRL_IGNORED : Field := ⟨0x2030000C, 32, 4194304, 1, 0, false, 7, 1, .w1c, 0⟩
def TILE_ERR_NUMERIC : Field := ⟨0x2030000C, 32, 4194304, 1, 0, false, 6, 1, .w1c, 0⟩
def TILE_ERR_OP_INVALID : Field := ⟨0x2030000C, 32, 4194304, 1, 0, false, 5, 1, .w1c, 0⟩
def TILE_ERR_DMA : Field := ⟨0x2030000C, 32, 4194304, 1, 0, false, 4, 1, .w1c, 0⟩
def TILE_ERR_SEQ : Field := ⟨0x2030000C, 32, 4194304, 1, 0, false, 3, 1, .w1c, 0⟩
def TILE_ERR_LANE : Field := ⟨0x2030000C, 32, 4194304, 1, 0, false, 2, 1, .w1c, 0⟩
def TILE_ERR_UE : Field := ⟨0x2030000C, 32, 4194304, 1, 0, false, 1, 1, .w1c, 0⟩
def TILE_ERR_CE : Field := ⟨0x2030000C, 32, 4194304, 1, 0, false, 0, 1, .w1c, 0⟩
def TILE_CE_COUNT_COUNT : Field := ⟨0x20300010, 32, 4194304, 1, 0, false, 0, 32, .rc, 0⟩
def TILE_UE_ADDR_VALID : Field := ⟨0x20300014, 32, 4194304, 1, 0, false, 31, 1, .rc, 0⟩
def TILE_UE_ADDR_WORD : Field := ⟨0x20300014, 32, 4194304, 1, 0, false, 0, 19, .ro, 0⟩
def TILE_RETRIES_ABANDONED : Field := ⟨0x20300018, 32, 4194304, 1, 0, false, 16, 16, .rc, 0⟩
def TILE_RETRIES_RETRIED : Field := ⟨0x20300018, 32, 4194304, 1, 0, false, 0, 16, .rc, 0⟩
def TILE_CUR_OP_CONTEXT : Field := ⟨0x2030001C, 32, 4194304, 1, 0, false, 24, 8, .ro, 0⟩
def TILE_CUR_OP_PART : Field := ⟨0x2030001C, 32, 4194304, 1, 0, false, 16, 8, .ro, 0⟩
def TILE_CUR_OP_OP : Field := ⟨0x2030001C, 32, 4194304, 1, 0, false, 0, 16, .ro, 0⟩
def TILE_BIST_DONE : Field := ⟨0x20300020, 32, 4194304, 1, 0, false, 31, 1, .ro, 0⟩
def TILE_BIST_PASS : Field := ⟨0x20300020, 32, 4194304, 1, 0, false, 30, 1, .ro, 0⟩
def TILE_BIST_STEP : Field := ⟨0x20300020, 32, 4194304, 1, 0, false, 16, 2, .ro, 0⟩
def TILE_BIST_ELAPSED : Field := ⟨0x20300020, 32, 4194304, 1, 0, false, 0, 16, .ro, 0⟩

/-! Block LE: 07_loop_engine.md Registers. -/

def LE_CTRL_CMDLOG_EN : Field := ⟨0x40030000, 1, 0, 1, 0, false, 1, 1, .rw, 0⟩
def LE_CTRL_RECHECK : Field := ⟨0x40030000, 1, 0, 1, 0, false, 0, 1, .wo, 0⟩
def LE_STATUS_ENABLED : Field := ⟨0x40030004, 1, 0, 1, 0, false, 8, 9, .ro, 0⟩
def LE_STATUS_RUN : Field := ⟨0x40030004, 1, 0, 1, 0, false, 7, 1, .ro, 0⟩
def LE_STATUS_DATAPATH_FAULT : Field := ⟨0x40030004, 1, 0, 1, 0, false, 6, 1, .ro, 0⟩
def LE_STATUS_LATE_RISK : Field := ⟨0x40030004, 1, 0, 1, 0, false, 5, 1, .ro, 0⟩
def LE_STATUS_COPY_BUSY : Field := ⟨0x40030004, 1, 0, 1, 0, false, 4, 1, .ro, 0⟩
def LE_STATUS_TRAJ_END : Field := ⟨0x40030004, 1, 0, 1, 0, false, 3, 1, .ro, 0⟩
def LE_STATUS_TRAJ_STALE : Field := ⟨0x40030004, 1, 0, 1, 0, false, 2, 1, .ro, 0⟩
def LE_STATUS_TRAJ_PENDING : Field := ⟨0x40030004, 1, 0, 1, 0, false, 1, 1, .ro, 0⟩
def LE_STATUS_TRAJ_ACTIVE : Field := ⟨0x40030004, 1, 0, 1, 0, false, 0, 1, .ro, 0⟩
def LE_IRQ_TRAJ_REFUSED : Field := ⟨0x40030008, 1, 0, 1, 0, false, 9, 1, .w1c, 0⟩
def LE_IRQ_DATAPATH_FAULT : Field := ⟨0x40030008, 1, 0, 1, 0, false, 8, 1, .w1c, 0⟩
def LE_IRQ_TG_DONE : Field := ⟨0x40030008, 1, 0, 1, 0, false, 7, 1, .w1c, 0⟩
def LE_IRQ_CAP_DONE : Field := ⟨0x40030008, 1, 0, 1, 0, false, 6, 1, .w1c, 0⟩
def LE_IRQ_LATE_RISK : Field := ⟨0x40030008, 1, 0, 1, 0, false, 5, 1, .w1c, 0⟩
def LE_IRQ_SLOT_RETIRED : Field := ⟨0x40030008, 1, 0, 1, 0, false, 4, 1, .w1c, 0⟩
def LE_IRQ_TRAJ_STALE : Field := ⟨0x40030008, 1, 0, 1, 0, false, 3, 1, .w1c, 0⟩
def LE_IRQ_TRAJ_SWITCH : Field := ⟨0x40030008, 1, 0, 1, 0, false, 2, 1, .w1c, 0⟩
def LE_IRQ_OVERRUN : Field := ⟨0x40030008, 1, 0, 1, 0, false, 1, 1, .w1c, 0⟩
def LE_IRQ_LATE : Field := ⟨0x40030008, 1, 0, 1, 0, false, 0, 1, .w1c, 0⟩
def LE_IRQ_EN_EN : Field := ⟨0x4003000C, 1, 0, 1, 0, false, 0, 10, .rw, 0⟩
def LE_CAPACITY_FLOOR : Field := ⟨0x40030010, 1, 0, 1, 0, false, 16, 16, .ro, 0⟩
def LE_CAPACITY_DIP : Field := ⟨0x40030010, 1, 0, 1, 0, false, 0, 16, .ro, 0⟩
def LE_SW_TRIG_SLOT : Field := ⟨0x40030014, 1, 0, 1, 0, false, 0, 8, .wo, 0⟩
def LE_PROG_SEL_BANK : Field := ⟨0x40030018, 1, 0, 1, 0, false, 14, 1, .rw, 0⟩
def LE_PROG_SEL_SLOT : Field := ⟨0x40030018, 1, 0, 1, 0, false, 6, 8, .rw, 0⟩
def LE_PROG_SEL_STEP : Field := ⟨0x40030018, 1, 0, 1, 0, false, 0, 6, .rw, 0⟩
def LE_PROG_LO_LO : Field := ⟨0x4003001C, 1, 0, 1, 0, false, 0, 32, .rw, 0⟩
def LE_PROG_HI_HI : Field := ⟨0x40030020, 1, 0, 1, 0, false, 0, 32, .rw, 0⟩
def LE_TRAJ_SRC_SRC : Field := ⟨0x40030024, 1, 0, 1, 0, false, 0, 21, .rw, 0⟩
def LE_TRAJ_COMMIT_COMMIT : Field := ⟨0x40030028, 1, 0, 1, 0, false, 0, 1, .wo, 0⟩
def LE_TRAJ_STATUS_REPLACED : Field := ⟨0x4003002C, 1, 0, 1, 0, false, 16, 16, .rc, 0⟩
def LE_TRAJ_STATUS_CAUSE : Field := ⟨0x4003002C, 1, 0, 1, 0, false, 8, 4, .ro, 0⟩
def LE_TRAJ_STATUS_LATE_SWITCH : Field := ⟨0x4003002C, 1, 0, 1, 0, false, 1, 1, .w1c, 0⟩
def LE_TRAJ_STATUS_REFUSED : Field := ⟨0x4003002C, 1, 0, 1, 0, false, 0, 1, .w1c, 0⟩
def LE_CMDLOG_BASE_BASE : Field := ⟨0x40030030, 1, 0, 1, 0, false, 0, 21, .rw, 0⟩
def LE_CMDLOG_HEAD_HEAD : Field := ⟨0x40030034, 1, 0, 1, 0, false, 0, 12, .ro, 0⟩
def LES_CFG_SPARE_EN : Field := ⟨0x40031000, 256, 32, 1, 0, false, 31, 1, .rw, 0⟩
def LES_CFG_SPARE : Field := ⟨0x40031000, 256, 32, 1, 0, false, 23, 8, .rw, 0⟩
def LES_CFG_STEPS : Field := ⟨0x40031000, 256, 32, 1, 0, false, 16, 7, .rw, 0⟩
def LES_CFG_DEADLINE : Field := ⟨0x40031000, 256, 32, 1, 0, false, 8, 8, .rw, 80⟩
def LES_CFG_PRIO : Field := ⟨0x40031000, 256, 32, 1, 0, false, 0, 3, .rw, 0⟩
def LES_TRIG_KIND : Field := ⟨0x40031004, 256, 32, 1, 0, false, 29, 3, .rw, 0⟩
def LES_TRIG_ARG : Field := ⟨0x40031004, 256, 32, 1, 0, false, 16, 13, .rw, 0⟩
def LES_PERIOD_PERIOD_US : Field := ⟨0x40031008, 256, 32, 1, 0, false, 0, 24, .rw, 1000⟩
def LES_PHASE_PHASE_US : Field := ⟨0x4003100C, 256, 32, 1, 0, false, 0, 24, .rw, 0⟩
def LES_LEAD_LEAD_US : Field := ⟨0x40031010, 256, 32, 1, 0, false, 0, 17, .rw, 500⟩
def LES_CTRL_CTRL_RETURN : Field := ⟨0x40031014, 256, 32, 1, 0, false, 3, 1, .je, 0⟩
def LES_CTRL_CTRL_TEST : Field := ⟨0x40031014, 256, 32, 1, 0, false, 2, 1, .je, 0⟩
def LES_CTRL_CTRL_COMMIT : Field := ⟨0x40031014, 256, 32, 1, 0, false, 1, 1, .je, 0⟩
def LES_CTRL_ENABLE : Field := ⟨0x40031014, 256, 32, 1, 0, false, 0, 1, .je, 0⟩
def LES_STAT_STATE : Field := ⟨0x40031018, 256, 32, 1, 0, false, 28, 4, .ro, 0⟩
def LES_STAT_BIST_PASS : Field := ⟨0x40031018, 256, 32, 1, 0, false, 27, 1, .ro, 0⟩
def LES_STAT_LATE_RISK : Field := ⟨0x40031018, 256, 32, 1, 0, false, 26, 1, .ro, 0⟩
def LES_STAT_SHADOW_DIRTY : Field := ⟨0x40031018, 256, 32, 1, 0, false, 25, 1, .ro, 0⟩
def LES_STAT_LATE : Field := ⟨0x40031018, 256, 32, 1, 0, false, 16, 8, .rc, 0⟩
def LES_STAT_OVERRUN : Field := ⟨0x40031018, 256, 32, 1, 0, false, 8, 8, .rc, 0⟩
def LES_STAT_SAT : Field := ⟨0x40031018, 256, 32, 1, 0, false, 0, 8, .rc, 0⟩
def LES_BOUND_LAST : Field := ⟨0x4003101C, 256, 32, 1, 0, false, 16, 16, .ro, 0⟩
def LES_BOUND_BOUND : Field := ⟨0x4003101C, 256, 32, 1, 0, false, 0, 16, .ro, 0⟩
def LEL_RANGE_MAX : Field := ⟨0x40033000, 32, 128, 4, 4, false, 16, 16, .je, 32767⟩
def LEL_RANGE_MIN : Field := ⟨0x40033000, 32, 128, 4, 4, false, 0, 16, .je, 32768⟩
def LEL_RATE_RATE : Field := ⟨0x40033010, 32, 128, 4, 4, false, 0, 16, .je, 65535⟩
def LEL_WRAP_ANGLE_WRAP : Field := ⟨0x40033020, 32, 128, 1, 0, false, 0, 1, .je, 0⟩
def LEL_SECTOR_END : Field := ⟨0x40033040, 32, 128, 8, 4, false, 16, 16, .je, 0⟩
def LEL_SECTOR_START : Field := ⟨0x40033040, 32, 128, 8, 4, false, 0, 16, .je, 0⟩
def LE_WORD_WORD : Field := ⟨0x40034000, 4096, 4, 1, 0, false, 0, 16, .sw, 0⟩
def TG_CFG_KIND : Field := ⟨0x40038000, 8, 32, 1, 0, false, 28, 4, .rw, 0⟩
def TG_CFG_OWNER : Field := ⟨0x40038000, 8, 32, 1, 0, false, 20, 8, .rw, 0⟩
def TG_CFG_ORDER : Field := ⟨0x40038000, 8, 32, 1, 0, false, 15, 5, .rw, 0⟩
def TG_CFG_HOLD : Field := ⟨0x40038000, 8, 32, 1, 0, false, 0, 15, .rw, 0⟩
def TG_AMP_OFFSET : Field := ⟨0x40038004, 8, 32, 1, 0, false, 16, 16, .rw, 0⟩
def TG_AMP_AMP : Field := ⟨0x40038004, 8, 32, 1, 0, false, 0, 16, .rw, 0⟩
def TG_F0_F0 : Field := ⟨0x40038008, 8, 32, 1, 0, false, 0, 32, .rw, 0⟩
def TG_F1_F1 : Field := ⟨0x4003800C, 8, 32, 1, 0, false, 0, 32, .rw, 0⟩
def TG_TIME_TIME : Field := ⟨0x40038010, 8, 32, 1, 0, false, 0, 32, .rw, 0⟩
def TG_SEED_SEED : Field := ⟨0x40038014, 8, 32, 1, 0, false, 0, 31, .rw, 1⟩
def TG_CTRL_STOP : Field := ⟨0x40038018, 8, 32, 1, 0, false, 1, 1, .je, 0⟩
def TG_CTRL_START : Field := ⟨0x40038018, 8, 32, 1, 0, false, 0, 1, .je, 0⟩
def TG_STATUS_COUNT : Field := ⟨0x4003801C, 8, 32, 1, 0, false, 16, 16, .ro, 0⟩
def TG_STATUS_DONE : Field := ⟨0x4003801C, 8, 32, 1, 0, false, 2, 1, .ro, 0⟩
def TG_STATUS_SETTLING : Field := ⟨0x4003801C, 8, 32, 1, 0, false, 1, 1, .ro, 0⟩
def TG_STATUS_RUNNING : Field := ⟨0x4003801C, 8, 32, 1, 0, false, 0, 1, .ro, 0⟩
def CAP_BASE_BASE : Field := ⟨0x40038100, 16, 32, 1, 0, false, 0, 21, .rw, 0⟩
def CAP_CFG_FORMAT : Field := ⟨0x40038104, 16, 32, 1, 0, false, 30, 2, .rw, 0⟩
def CAP_CFG_MODE : Field := ⟨0x40038104, 16, 32, 1, 0, false, 29, 1, .rw, 0⟩
def CAP_CFG_OWNER : Field := ⟨0x40038104, 16, 32, 1, 0, false, 21, 8, .rw, 0⟩
def CAP_CFG_COUNT : Field := ⟨0x40038104, 16, 32, 1, 0, false, 0, 17, .rw, 0⟩
def CAP_CTRL_STOP : Field := ⟨0x40038108, 16, 32, 1, 0, false, 1, 1, .wo, 0⟩
def CAP_CTRL_ARM : Field := ⟨0x40038108, 16, 32, 1, 0, false, 0, 1, .wo, 0⟩
def CAP_STATUS_ARMED : Field := ⟨0x4003810C, 16, 32, 1, 0, false, 31, 1, .ro, 0⟩
def CAP_STATUS_DONE : Field := ⟨0x4003810C, 16, 32, 1, 0, false, 30, 1, .ro, 0⟩
def CAP_STATUS_WRAPPED : Field := ⟨0x4003810C, 16, 32, 1, 0, false, 29, 1, .ro, 0⟩
def CAP_STATUS_ERR : Field := ⟨0x4003810C, 16, 32, 1, 0, false, 28, 1, .ro, 0⟩
def CAP_STATUS_TAKEN : Field := ⟨0x4003810C, 16, 32, 1, 0, false, 0, 24, .ro, 0⟩
def CAP_IGNORED_COUNT : Field := ⟨0x40038110, 16, 32, 1, 0, false, 0, 32, .rc, 0⟩
def CAP_T0_NS_NS : Field := ⟨0x40038114, 16, 32, 1, 0, false, 0, 32, .ro, 0⟩
def CAP_T0_S_S : Field := ⟨0x40038118, 16, 32, 1, 0, false, 0, 32, .ro, 0⟩

/-! Block LT: 08_signal_chain.md Registers. -/

def LT_CTRL_RECHECK : Field := ⟨0x40020000, 1, 0, 1, 0, false, 0, 1, .wo, 0⟩
def LT_STATUS_POOL_REFUSED : Field := ⟨0x40020004, 1, 0, 1, 0, false, 10, 1, .w1c, 0⟩
def LT_STATUS_DATAPATH_FAULT : Field := ⟨0x40020004, 1, 0, 1, 0, false, 9, 1, .ro, 0⟩
def LT_STATUS_LOAD_RISK : Field := ⟨0x40020004, 1, 0, 1, 0, false, 8, 1, .ro, 0⟩
def LT_STATUS_ENABLED : Field := ⟨0x40020004, 1, 0, 1, 0, false, 0, 6, .ro, 0⟩
def LT_IRQ_DATAPATH_FAULT : Field := ⟨0x40020008, 1, 0, 1, 0, false, 8, 1, .w1c, 0⟩
def LT_IRQ_CHANNEL_RETIRED : Field := ⟨0x40020008, 1, 0, 1, 0, false, 7, 1, .w1c, 0⟩
def LT_IRQ_LOAD_RISK : Field := ⟨0x40020008, 1, 0, 1, 0, false, 6, 1, .w1c, 0⟩
def LT_IRQ_FRAME_ERR : Field := ⟨0x40020008, 1, 0, 1, 0, false, 5, 1, .w1c, 0⟩
def LT_IRQ_CLOCK_LOST : Field := ⟨0x40020008, 1, 0, 1, 0, false, 4, 1, .w1c, 0⟩
def LT_IRQ_SWAP_REPLACED : Field := ⟨0x40020008, 1, 0, 1, 0, false, 3, 1, .w1c, 0⟩
def LT_IRQ_FADE_DONE : Field := ⟨0x40020008, 1, 0, 1, 0, false, 2, 1, .w1c, 0⟩
def LT_IRQ_SETTLED : Field := ⟨0x40020008, 1, 0, 1, 0, false, 1, 1, .w1c, 0⟩
def LT_IRQ_THRESHOLD : Field := ⟨0x40020008, 1, 0, 1, 0, false, 0, 1, .w1c, 0⟩
def LT_IRQ_EN_EN : Field := ⟨0x4002000C, 1, 0, 1, 0, false, 0, 9, .rw, 0⟩
def LT_LOAD_CAP : Field := ⟨0x40020010, 1, 0, 1, 0, false, 16, 16, .ro, 0⟩
def LT_LOAD_LOAD : Field := ⟨0x40020010, 1, 0, 1, 0, false, 0, 16, .ro, 0⟩
def LT_SYNC_MASK : Field := ⟨0x40020014, 1, 0, 1, 0, false, 0, 32, .wo, 0⟩
def LT_SYNC_ARM_PPS : Field := ⟨0x40020018, 1, 0, 1, 0, false, 4, 2, .rw, 0⟩
def LT_SYNC_ARM_ARMED : Field := ⟨0x40020018, 1, 0, 1, 0, false, 3, 1, .ro, 0⟩
def LT_SYNC_ARM_SOURCE : Field := ⟨0x40020018, 1, 0, 1, 0, false, 0, 3, .rw, 0⟩
def LT_SYNC_MASK_MASK : Field := ⟨0x4002001C, 1, 0, 1, 0, false, 0, 32, .rw, 0⟩
def LT_SYNC_AT_SECOND : Field := ⟨0x40020020, 1, 0, 1, 0, false, 0, 32, .rw, 0⟩
def LT_POOL_ADDR_ENTRY : Field := ⟨0x40020024, 1, 0, 1, 0, false, 0, 13, .rw, 0⟩
def LT_POOL_DATA_COEF : Field := ⟨0x40020028, 1, 0, 1, 0, false, 0, 24, .rw, 0⟩
def LT_EVT_BASE_BASE : Field := ⟨0x4002002C, 1, 0, 1, 0, false, 0, 21, .rw, 0⟩
def LT_EVT_HEAD_COUNT : Field := ⟨0x40020030, 1, 0, 1, 0, false, 8, 24, .ro, 0⟩
def LT_EVT_HEAD_INDEX : Field := ⟨0x40020030, 1, 0, 1, 0, false, 0, 8, .ro, 0⟩
def SC_CFG_CLKDIV : Field := ⟨0x40020100, 32, 64, 1, 0, false, 16, 12, .rw, 80⟩
def SC_CFG_CLK_SRC : Field := ⟨0x40020100, 32, 64, 1, 0, false, 4, 1, .rw, 0⟩
def SC_CFG_EDGE : Field := ⟨0x40020100, 32, 64, 1, 0, false, 3, 1, .rw, 0⟩
def SC_CFG_POL : Field := ⟨0x40020100, 32, 64, 1, 0, false, 2, 1, .rw, 0⟩
def SC_CFG_MODE : Field := ⟨0x40020100, 32, 64, 1, 0, false, 0, 2, .rw, 0⟩
def SC_FIN_FIN_MAX : Field := ⟨0x40020104, 32, 64, 1, 0, false, 0, 15, .rw, 25000⟩
def SC_COMB_DECIM : Field := ⟨0x40020108, 32, 64, 1, 0, false, 16, 13, .rw, 64⟩
def SC_COMB_SHIFT : Field := ⟨0x40020108, 32, 64, 1, 0, false, 8, 7, .ro, 0⟩
def SC_COMB_ORDER : Field := ⟨0x40020108, 32, 64, 1, 0, false, 0, 3, .rw, 3⟩
def SC_FIR_TAPS : Field := ⟨0x4002010C, 32, 64, 1, 0, false, 16, 10, .rw, 1⟩
def SC_FIR_TAP_BASE : Field := ⟨0x4002010C, 32, 64, 1, 0, false, 0, 13, .rw, 0⟩
def SC_GD_GD_B : Field := ⟨0x40020110, 32, 64, 1, 0, false, 16, 16, .rw, 0⟩
def SC_GD_GD_A : Field := ⟨0x40020110, 32, 64, 1, 0, false, 0, 16, .rw, 0⟩
def SC_SWAP_REQ : Field := ⟨0x40020114, 32, 64, 1, 0, false, 31, 1, .wo, 0⟩
def SC_SWAP_LEN : Field := ⟨0x40020114, 32, 64, 1, 0, false, 0, 16, .wo, 0⟩
def SC_RING_BASE_BASE : Field := ⟨0x40020118, 32, 64, 1, 0, false, 0, 21, .rw, 0⟩
def SC_RING_CFG_LOG2 : Field := ⟨0x4002011C, 32, 64, 1, 0, false, 0, 5, .rw, 6⟩
def SC_RING_HEAD_HEAD : Field := ⟨0x40020120, 32, 64, 1, 0, false, 0, 16, .ro, 0⟩
def SC_CTRL_CTRL_RETURN : Field := ⟨0x40020124, 32, 64, 1, 0, false, 2, 1, .wo, 0⟩
def SC_CTRL_CTRL_TEST : Field := ⟨0x40020124, 32, 64, 1, 0, false, 1, 1, .wo, 0⟩
def SC_CTRL_ENABLE : Field := ⟨0x40020124, 32, 64, 1, 0, false, 0, 1, .rw, 0⟩
def SC_STATUS_STATE : Field := ⟨0x40020128, 32, 64, 1, 0, false, 28, 4, .ro, 0⟩
def SC_STATUS_BIST_PASS : Field := ⟨0x40020128, 32, 64, 1, 0, false, 27, 1, .ro, 0⟩
def SC_STATUS_FADING : Field := ⟨0x40020128, 32, 64, 1, 0, false, 26, 1, .ro, 0⟩
def SC_STATUS_SWAP_PENDING : Field := ⟨0x40020128, 32, 64, 1, 0, false, 25, 1, .ro, 0⟩
def SC_STATUS_BANK : Field := ⟨0x40020128, 32, 64, 1, 0, false, 24, 1, .ro, 0⟩
def SC_STATUS_GD_CHANGED : Field := ⟨0x40020128, 32, 64, 1, 0, false, 23, 1, .ro, 0⟩
def SC_STATUS_UNALIGNED : Field := ⟨0x40020128, 32, 64, 1, 0, false, 22, 1, .ro, 0⟩
def SC_STATUS_RATE_HIGH : Field := ⟨0x40020128, 32, 64, 1, 0, false, 21, 1, .ro, 0⟩
def SC_STATUS_CFG_IGNORED : Field := ⟨0x40020128, 32, 64, 1, 0, false, 20, 1, .w1c, 0⟩
def SC_STATUS_CFG_CAUSE : Field := ⟨0x40020128, 32, 64, 1, 0, false, 16, 4, .ro, 0⟩
def SC_STATUS_CMP_ACTIVE : Field := ⟨0x40020128, 32, 64, 1, 0, false, 0, 4, .ro, 0⟩
def SC_EPOCH_EPOCH : Field := ⟨0x4002012C, 32, 64, 1, 0, false, 0, 8, .ro, 0⟩
def SC_INDEX_INDEX : Field := ⟨0x40020130, 32, 64, 1, 0, false, 0, 32, .ro, 0⟩
def SC_LAST_VALUE : Field := ⟨0x40020134, 32, 64, 1, 0, false, 0, 32, .ro, 0⟩
def SC_T_IN_T_IN : Field := ⟨0x40020138, 32, 64, 1, 0, false, 0, 32, .ro, 0⟩
def SC_COUNTS_SWAP_REPLACED : Field := ⟨0x4002013C, 32, 64, 1, 0, false, 16, 16, .rc, 0⟩
def SC_COUNTS_FRAME_ERR : Field := ⟨0x4002013C, 32, 64, 1, 0, false, 0, 16, .rc, 0⟩
def SC_CMP_LEVEL_LEVEL : Field := ⟨0x40021000, 32, 64, 4, 16, false, 0, 32, .rw, 2147483647⟩
def SC_CMP_HYST_HYST : Field := ⟨0x40021004, 32, 64, 4, 16, false, 0, 31, .rw, 0⟩
def SC_CMP_CFG_PERSIST : Field := ⟨0x40021008, 32, 64, 4, 16, false, 8, 8, .rw, 1⟩
def SC_CMP_CFG_MODE : Field := ⟨0x40021008, 32, 64, 4, 16, false, 0, 2, .rw, 0⟩
def SC_CMP_STAT_EVENTS : Field := ⟨0x4002100C, 32, 64, 4, 16, false, 16, 16, .rc, 0⟩
def SC_CMP_STAT_COUNT : Field := ⟨0x4002100C, 32, 64, 4, 16, false, 8, 8, .ro, 0⟩
def SC_CMP_STAT_EVENT_SEEN : Field := ⟨0x4002100C, 32, 64, 4, 16, false, 1, 1, .w1c, 0⟩
def SC_CMP_STAT_ACTIVE : Field := ⟨0x4002100C, 32, 64, 4, 16, false, 0, 1, .ro, 0⟩

/-! Block PF: 09_position_feedback.md Registers. -/

def PF_STATUS_OSC_FAULT : Field := ⟨0x40040000, 1, 0, 1, 0, false, 6, 1, .ro, 0⟩
def PF_STATUS_ENABLED : Field := ⟨0x40040000, 1, 0, 1, 0, false, 0, 6, .ro, 0⟩
def PF_IRQ_OSC_FAULT : Field := ⟨0x40040004, 1, 0, 1, 0, false, 5, 1, .w1c, 0⟩
def PF_IRQ_RETIRED : Field := ⟨0x40040004, 1, 0, 1, 0, false, 4, 1, .w1c, 0⟩
def PF_IRQ_FAULT : Field := ⟨0x40040004, 1, 0, 1, 0, false, 3, 1, .w1c, 0⟩
def PF_IRQ_COMPARE : Field := ⟨0x40040004, 1, 0, 1, 0, false, 2, 1, .w1c, 0⟩
def PF_IRQ_INDEX : Field := ⟨0x40040004, 1, 0, 1, 0, false, 1, 1, .w1c, 0⟩
def PF_IRQ_SERIAL : Field := ⟨0x40040004, 1, 0, 1, 0, false, 0, 1, .w1c, 0⟩
def PF_IRQ_EN_EN : Field := ⟨0x40040008, 1, 0, 1, 0, false, 0, 6, .rw, 0⟩
def PF_EVT_BASE_BASE : Field := ⟨0x4004000C, 1, 0, 1, 0, false, 0, 21, .rw, 0⟩
def PF_EVT_HEAD_COUNT : Field := ⟨0x40040010, 1, 0, 1, 0, false, 8, 24, .ro, 0⟩
def PF_EVT_HEAD_INDEX : Field := ⟨0x40040010, 1, 0, 1, 0, false, 0, 8, .ro, 0⟩
def PFC_CFG_VIEW_SAT : Field := ⟨0x40040100, 32, 128, 1, 0, false, 10, 1, .rw, 0⟩
def PFC_CFG_PT_MODE : Field := ⟨0x40040100, 32, 128, 1, 0, false, 8, 2, .rw, 1⟩
def PFC_CFG_GATE_AB : Field := ⟨0x40040100, 32, 128, 1, 0, false, 6, 2, .rw, 0⟩
def PFC_CFG_INDEX_GATE : Field := ⟨0x40040100, 32, 128, 1, 0, false, 5, 1, .rw, 0⟩
def PFC_CFG_INDEX_EN : Field := ⟨0x40040100, 32, 128, 1, 0, false, 4, 1, .rw, 0⟩
def PFC_CFG_INV_DIR : Field := ⟨0x40040100, 32, 128, 1, 0, false, 3, 1, .rw, 0⟩
def PFC_CFG_MODE : Field := ⟨0x40040100, 32, 128, 1, 0, false, 0, 2, .rw, 0⟩
def PFC_FILTER_MIN_EDGE : Field := ⟨0x40040104, 32, 128, 1, 0, false, 0, 12, .rw, 4⟩
def PFC_INDEX_INDEX_TOL : Field := ⟨0x40040108, 32, 128, 1, 0, false, 24, 8, .rw, 2⟩
def PFC_INDEX_CPR : Field := ⟨0x40040108, 32, 128, 1, 0, false, 0, 24, .rw, 0⟩
def PFC_SPEEDCFG_CHG_EDGES : Field := ⟨0x4004010C, 32, 128, 1, 0, false, 16, 8, .rw, 16⟩
def PFC_SPEEDCFG_WIN_US : Field := ⟨0x4004010C, 32, 128, 1, 0, false, 0, 16, .rw, 1000⟩
def PFC_ZERO_ZERO_MS : Field := ⟨0x40040110, 32, 128, 1, 0, false, 0, 14, .rw, 100⟩
def PFC_SER_CFG_LINE_DELAY : Field := ⟨0x40040114, 32, 128, 1, 0, false, 24, 8, .rw, 0⟩
def PFC_SER_CFG_START_TIMEOUT : Field := ⟨0x40040114, 32, 128, 1, 0, false, 16, 8, .rw, 16⟩
def PFC_SER_CFG_SER_DIV : Field := ⟨0x40040114, 32, 128, 1, 0, false, 6, 10, .rw, 40⟩
def PFC_SER_CFG_POS_BITS : Field := ⟨0x40040114, 32, 128, 1, 0, false, 0, 6, .rw, 24⟩
def PFC_SER_TIME_LATCH_NS : Field := ⟨0x40040118, 32, 128, 1, 0, false, 0, 16, .rw, 0⟩
def PFC_SER_PERIOD_PERIOD_US : Field := ⟨0x4004011C, 32, 128, 1, 0, false, 0, 24, .rw, 250⟩
def PFC_SER_PHASE_PHASE_US : Field := ⟨0x40040120, 32, 128, 1, 0, false, 0, 24, .rw, 0⟩
def PFC_P_SCALE_P_SCALE : Field := ⟨0x40040124, 32, 128, 1, 0, false, 0, 32, .rw, 65536⟩
def PFC_P_OFF_LO_P_OFF : Field := ⟨0x40040128, 32, 128, 1, 0, false, 0, 32, .rw, 0⟩
def PFC_P_OFF_HI_P_OFF : Field := ⟨0x4004012C, 32, 128, 1, 0, false, 0, 16, .rw, 0⟩
def PFC_V_FULL_V_FULL : Field := ⟨0x40040130, 32, 128, 1, 0, false, 0, 32, .rw, 1⟩
def PFC_EMU_EMU_MIN : Field := ⟨0x40040134, 32, 128, 1, 0, false, 16, 12, .rw, 20⟩
def PFC_EMU_EMU_SHIFT : Field := ⟨0x40040134, 32, 128, 1, 0, false, 0, 5, .rw, 0⟩
def PFC_CTRL_SET_POS : Field := ⟨0x40040138, 32, 128, 1, 0, false, 3, 1, .wo, 0⟩
def PFC_CTRL_CTRL_RETURN : Field := ⟨0x40040138, 32, 128, 1, 0, false, 2, 1, .wo, 0⟩
def PFC_CTRL_CTRL_TEST : Field := ⟨0x40040138, 32, 128, 1, 0, false, 1, 1, .wo, 0⟩
def PFC_CTRL_ENABLE : Field := ⟨0x40040138, 32, 128, 1, 0, false, 0, 1, .rw, 0⟩
def PFC_STATUS_STATE : Field := ⟨0x4004013C, 32, 128, 1, 0, false, 28, 4, .ro, 0⟩
def PFC_STATUS_BIST_PASS : Field := ⟨0x4004013C, 32, 128, 1, 0, false, 27, 1, .ro, 0⟩
def PFC_STATUS_UNCERTAIN : Field := ⟨0x4004013C, 32, 128, 1, 0, false, 26, 1, .ro, 0⟩
def PFC_STATUS_STANDSTILL : Field := ⟨0x4004013C, 32, 128, 1, 0, false, 25, 1, .ro, 0⟩
def PFC_STATUS_METHOD : Field := ⟨0x4004013C, 32, 128, 1, 0, false, 24, 1, .ro, 0⟩
def PFC_STATUS_DIRECTION : Field := ⟨0x4004013C, 32, 128, 1, 0, false, 23, 1, .ro, 0⟩
def PFC_STATUS_EMU_LAG : Field := ⟨0x4004013C, 32, 128, 1, 0, false, 22, 1, .ro, 0⟩
def PFC_STATUS_WARN : Field := ⟨0x4004013C, 32, 128, 1, 0, false, 21, 1, .ro, 0⟩
def PFC_STATUS_CFG_IGNORED : Field := ⟨0x4004013C, 32, 128, 1, 0, false, 20, 1, .w1c, 0⟩
def PFC_STATUS_CFG_CAUSE : Field := ⟨0x4004013C, 32, 128, 1, 0, false, 16, 4, .ro, 0⟩
def PFC_STATUS_LINE_OPEN : Field := ⟨0x4004013C, 32, 128, 1, 0, false, 12, 3, .ro, 0⟩
def PFC_FAULT_FAULT : Field := ⟨0x40040140, 32, 128, 1, 0, false, 0, 11, .w1c, 0⟩
def PFC_POS_LO_POS : Field := ⟨0x40040144, 32, 128, 1, 0, false, 0, 32, .ro, 0⟩
def PFC_POS_HI_POS : Field := ⟨0x40040148, 32, 128, 1, 0, false, 0, 16, .ro, 0⟩
def PFC_SPEED_SPEED : Field := ⟨0x4004014C, 32, 128, 1, 0, false, 0, 32, .ro, 0⟩
def PFC_TS_NS_NS : Field := ⟨0x40040150, 32, 128, 1, 0, false, 0, 32, .ro, 0⟩
def PFC_TS_S_S : Field := ⟨0x40040154, 32, 128, 1, 0, false, 0, 32, .ro, 0⟩
def PFC_INDEX_VAL_INDEX_VALUE : Field := ⟨0x40040158, 32, 128, 1, 0, false, 0, 32, .rw, 0⟩
def PFC_INDEX_CORR_CORR : Field := ⟨0x4004015C, 32, 128, 1, 0, false, 0, 32, .ro, 0⟩
def PFC_SER_RAW_RAW : Field := ⟨0x40040160, 32, 128, 1, 0, false, 0, 32, .ro, 0⟩
def PFC_COUNTS1_GLITCH : Field := ⟨0x40040164, 32, 128, 1, 0, false, 16, 16, .rc, 0⟩
def PFC_COUNTS1_ILLEGAL : Field := ⟨0x40040164, 32, 128, 1, 0, false, 0, 16, .rc, 0⟩
def PFC_COUNTS2_SER_FAULTS : Field := ⟨0x40040168, 32, 128, 1, 0, false, 16, 16, .rc, 0⟩
def PFC_COUNTS2_DIR_INDEX : Field := ⟨0x40040168, 32, 128, 1, 0, false, 0, 16, .rc, 0⟩
def PFC_PRESET_LO_PRESET : Field := ⟨0x4004016C, 32, 128, 1, 0, false, 0, 32, .rw, 0⟩
def PFC_PRESET_HI_PRESET : Field := ⟨0x40040170, 32, 128, 1, 0, false, 0, 16, .rw, 0⟩
def PFCMP_POS_LO_C : Field := ⟨0x40042000, 32, 128, 4, 32, false, 0, 32, .rw, 0⟩
def PFCMP_POS_HI_C : Field := ⟨0x40042004, 32, 128, 4, 32, false, 0, 16, .rw, 0⟩
def PFCMP_INTERVAL_INTERVAL : Field := ⟨0x40042008, 32, 128, 4, 32, false, 0, 32, .rw, 0⟩
def PFCMP_CFG_PERIODIC : Field := ⟨0x4004200C, 32, 128, 4, 32, false, 5, 1, .rw, 0⟩
def PFCMP_CFG_FIRE_IF_PASSED : Field := ⟨0x4004200C, 32, 128, 4, 32, false, 4, 1, .rw, 0⟩
def PFCMP_CFG_DIR : Field := ⟨0x4004200C, 32, 128, 4, 32, false, 2, 2, .rw, 0⟩
def PFCMP_CFG_DISARM : Field := ⟨0x4004200C, 32, 128, 4, 32, false, 1, 1, .wo, 0⟩
def PFCMP_CFG_ARM : Field := ⟨0x4004200C, 32, 128, 4, 32, false, 0, 1, .wo, 0⟩
def PFCMP_STAT_FIRES : Field := ⟨0x40042010, 32, 128, 4, 32, false, 16, 16, .rc, 0⟩
def PFCMP_STAT_PASSED : Field := ⟨0x40042010, 32, 128, 4, 32, false, 3, 1, .ro, 0⟩
def PFCMP_STAT_FIRED : Field := ⟨0x40042010, 32, 128, 4, 32, false, 2, 1, .w1c, 0⟩
def PFCMP_STAT_ARMED_BEHIND : Field := ⟨0x40042010, 32, 128, 4, 32, false, 1, 1, .ro, 0⟩
def PFCMP_STAT_ARMED : Field := ⟨0x40042010, 32, 128, 4, 32, false, 0, 1, .ro, 0⟩
def PFCMP_TS_NS_NS : Field := ⟨0x40042014, 32, 128, 4, 32, false, 0, 32, .ro, 0⟩
def PFCMP_TS_S_S : Field := ⟨0x40042018, 32, 128, 4, 32, false, 0, 32, .ro, 0⟩

/-! Block TU: 10_time.md Registers. -/

def TU_CTRL_SNAP : Field := ⟨0x40050000, 1, 0, 1, 0, false, 0, 1, .wo, 0⟩
def TU_STATUS_PIPE_RUN : Field := ⟨0x40050004, 1, 0, 1, 0, false, 16, 1, .ro, 0⟩
def TU_STATUS_PLL_LOCK : Field := ⟨0x40050004, 1, 0, 1, 0, false, 15, 1, .ro, 0⟩
def TU_STATUS_STATE : Field := ⟨0x40050004, 1, 0, 1, 0, false, 0, 12, .ro, 0⟩
def TU_IRQ_PPS : Field := ⟨0x40050008, 1, 0, 1, 0, false, 8, 4, .w1c, 0⟩
def TU_IRQ_STATE : Field := ⟨0x40050008, 1, 0, 1, 0, false, 4, 4, .w1c, 0⟩
def TU_IRQ_STEP : Field := ⟨0x40050008, 1, 0, 1, 0, false, 0, 4, .w1c, 0⟩
def TU_IRQ_EN_EN : Field := ⟨0x4005000C, 1, 0, 1, 0, false, 0, 12, .rw, 0⟩
def TU_SNAP_SEQ_SEQ : Field := ⟨0x40050010, 1, 0, 1, 0, false, 0, 32, .ro, 0⟩
def TB_COUNT_COUNT : Field := ⟨0x40050100, 4, 64, 1, 0, false, 0, 32, .ro, 0⟩
def TB_NS_NS : Field := ⟨0x40050104, 4, 64, 1, 0, false, 0, 30, .ro, 0⟩
def TB_SEC_LO_SEC : Field := ⟨0x40050108, 4, 64, 1, 0, false, 0, 32, .ro, 0⟩
def TB_SEC_HI_SEC : Field := ⟨0x4005010C, 4, 64, 1, 0, false, 0, 16, .ro, 0⟩
def TB_RATE_RATE : Field := ⟨0x40050110, 4, 64, 1, 0, false, 0, 32, .rw, 0⟩
def TB_STEP_SEC_STEP_SEC : Field := ⟨0x40050114, 4, 64, 1, 0, false, 0, 32, .rw, 0⟩
def TB_STEP_NS_STEP_NS : Field := ⟨0x40050118, 4, 64, 1, 0, false, 0, 32, .rw, 0⟩
def TB_CTRL_STEP : Field := ⟨0x4005011C, 4, 64, 1, 0, false, 0, 1, .wo, 0⟩
def TB_STATUS_STEP_GEN : Field := ⟨0x40050120, 4, 64, 1, 0, false, 16, 16, .ro, 0⟩
def TB_STATUS_STEP_REFUSED : Field := ⟨0x40050120, 4, 64, 1, 0, false, 8, 1, .w1c, 0⟩
def TB_STATUS_STATE : Field := ⟨0x40050120, 4, 64, 1, 0, false, 0, 3, .ro, 0⟩
def SNAP_COUNT_COUNT : Field := ⟨0x40050200, 4, 32, 1, 0, false, 0, 32, .ro, 0⟩
def SNAP_NS_NS : Field := ⟨0x40050204, 4, 32, 1, 0, false, 0, 30, .ro, 0⟩
def SNAP_SEC_LO_SEC : Field := ⟨0x40050208, 4, 32, 1, 0, false, 0, 32, .ro, 0⟩
def SNAP_GEN_HI_STEP_GEN : Field := ⟨0x4005020C, 4, 32, 1, 0, false, 16, 16, .ro, 0⟩
def SNAP_GEN_HI_SEC_HI : Field := ⟨0x4005020C, 4, 32, 1, 0, false, 0, 16, .ro, 0⟩
def SNAP_RATE_RATE : Field := ⟨0x40050210, 4, 32, 1, 0, false, 0, 32, .ro, 0⟩
def PPI_CFG_BASE : Field := ⟨0x40050300, 4, 32, 1, 0, false, 2, 2, .rw, 0⟩
def PPI_CFG_EDGE : Field := ⟨0x40050300, 4, 32, 1, 0, false, 1, 1, .rw, 0⟩
def PPI_CFG_ENABLE : Field := ⟨0x40050300, 4, 32, 1, 0, false, 0, 1, .rw, 0⟩
def PPI_CAP_NS_NS : Field := ⟨0x40050304, 4, 32, 1, 0, false, 0, 30, .ro, 0⟩
def PPI_CAP_SEC_LO_SEC : Field := ⟨0x40050308, 4, 32, 1, 0, false, 0, 32, .ro, 0⟩
def PPI_CAP_SEC_HI_SEC : Field := ⟨0x4005030C, 4, 32, 1, 0, false, 0, 16, .ro, 0⟩
def PPI_COUNTS_MISSED : Field := ⟨0x40050310, 4, 32, 1, 0, false, 16, 16, .rc, 0⟩
def PPI_COUNTS_QUALIFIED : Field := ⟨0x40050310, 4, 32, 1, 0, false, 0, 16, .rc, 0⟩
def PPO_CFG_BASE : Field := ⟨0x40050380, 2, 32, 1, 0, false, 2, 2, .rw, 0⟩
def PPO_CFG_POLARITY : Field := ⟨0x40050380, 2, 32, 1, 0, false, 1, 1, .rw, 0⟩
def PPO_CFG_ENABLE : Field := ⟨0x40050380, 2, 32, 1, 0, false, 0, 1, .rw, 0⟩
def PPO_WIDTH_WIDTH_US : Field := ⟨0x40050384, 2, 32, 1, 0, false, 0, 19, .rw, 100000⟩
def PPO_OFFSET_OFFSET_NS : Field := ⟨0x40050388, 2, 32, 1, 0, false, 0, 32, .rw, 0⟩

/-! Block CAN: 11_can_fd.md Registers. -/

def CAN_CTRL_CTRL_RETURN : Field := ⟨0x40060000, 16, 4096, 1, 0, false, 8, 1, .wo, 0⟩
def CAN_CTRL_CTRL_TEST : Field := ⟨0x40060000, 16, 4096, 1, 0, false, 7, 1, .wo, 0⟩
def CAN_CTRL_RECOVER : Field := ⟨0x40060000, 16, 4096, 1, 0, false, 6, 1, .wo, 0⟩
def CAN_CTRL_GATE_FEED : Field := ⟨0x40060000, 16, 4096, 1, 0, false, 5, 1, .rw, 0⟩
def CAN_CTRL_TAP_EN : Field := ⟨0x40060000, 16, 4096, 1, 0, false, 4, 1, .rw, 0⟩
def CAN_CTRL_PEX : Field := ⟨0x40060000, 16, 4096, 1, 0, false, 3, 1, .rw, 1⟩
def CAN_CTRL_ECHO : Field := ⟨0x40060000, 16, 4096, 1, 0, false, 2, 1, .rw, 0⟩
def CAN_CTRL_MODE : Field := ⟨0x40060000, 16, 4096, 1, 0, false, 0, 2, .rw, 0⟩
def CAN_STATUS_STATE : Field := ⟨0x40060004, 16, 4096, 1, 0, false, 28, 4, .ro, 0⟩
def CAN_STATUS_ERR_STATE : Field := ⟨0x40060004, 16, 4096, 1, 0, false, 26, 2, .ro, 0⟩
def CAN_STATUS_WARNING : Field := ⟨0x40060004, 16, 4096, 1, 0, false, 25, 1, .ro, 0⟩
def CAN_STATUS_ALONE : Field := ⟨0x40060004, 16, 4096, 1, 0, false, 24, 1, .ro, 0⟩
def CAN_STATUS_RECOVERING : Field := ⟨0x40060004, 16, 4096, 1, 0, false, 23, 1, .ro, 0⟩
def CAN_STATUS_BIST_PASS : Field := ⟨0x40060004, 16, 4096, 1, 0, false, 22, 1, .ro, 0⟩
def CAN_STATUS_CFG_IGNORED : Field := ⟨0x40060004, 16, 4096, 1, 0, false, 21, 1, .w1c, 0⟩
def CAN_STATUS_TX_REQ_IGNORED : Field := ⟨0x40060004, 16, 4096, 1, 0, false, 20, 1, .w1c, 0⟩
def CAN_STATUS_TX_WRITE_REJECT : Field := ⟨0x40060004, 16, 4096, 1, 0, false, 19, 1, .w1c, 0⟩
def CAN_STATUS_LAST_ERR : Field := ⟨0x40060004, 16, 4096, 1, 0, false, 16, 3, .rc, 0⟩
def CAN_STATUS_CFG_CAUSE : Field := ⟨0x40060004, 16, 4096, 1, 0, false, 12, 4, .ro, 0⟩
def CAN_IRQ_RETIRED : Field := ⟨0x40060008, 16, 4096, 1, 0, false, 9, 1, .w1c, 0⟩
def CAN_IRQ_RX_LOST : Field := ⟨0x40060008, 16, 4096, 1, 0, false, 8, 1, .w1c, 0⟩
def CAN_IRQ_BUS_OFF : Field := ⟨0x40060008, 16, 4096, 1, 0, false, 7, 1, .w1c, 0⟩
def CAN_IRQ_ALONE : Field := ⟨0x40060008, 16, 4096, 1, 0, false, 6, 1, .w1c, 0⟩
def CAN_IRQ_ERR_STATE : Field := ⟨0x40060008, 16, 4096, 1, 0, false, 5, 1, .w1c, 0⟩
def CAN_IRQ_CANCEL_FAIL : Field := ⟨0x40060008, 16, 4096, 1, 0, false, 4, 1, .w1c, 0⟩
def CAN_IRQ_CANCELLED : Field := ⟨0x40060008, 16, 4096, 1, 0, false, 3, 1, .w1c, 0⟩
def CAN_IRQ_TX_FAILED : Field := ⟨0x40060008, 16, 4096, 1, 0, false, 2, 1, .w1c, 0⟩
def CAN_IRQ_TX_DONE : Field := ⟨0x40060008, 16, 4096, 1, 0, false, 1, 1, .w1c, 0⟩
def CAN_IRQ_RX : Field := ⟨0x40060008, 16, 4096, 1, 0, false, 0, 1, .w1c, 0⟩
def CAN_IRQ_EN_EN : Field := ⟨0x4006000C, 16, 4096, 1, 0, false, 0, 10, .rw, 0⟩
def CAN_NBT_BRP : Field := ⟨0x40060010, 16, 4096, 1, 0, false, 24, 8, .rw, 0⟩
def CAN_NBT_TSEG1 : Field := ⟨0x40060010, 16, 4096, 1, 0, false, 16, 8, .rw, 126⟩
def CAN_NBT_TSEG2 : Field := ⟨0x40060010, 16, 4096, 1, 0, false, 8, 7, .rw, 31⟩
def CAN_NBT_SJW : Field := ⟨0x40060010, 16, 4096, 1, 0, false, 0, 7, .rw, 15⟩
def CAN_DBT_BRP : Field := ⟨0x40060014, 16, 4096, 1, 0, false, 16, 5, .rw, 0⟩
def CAN_DBT_TSEG1 : Field := ⟨0x40060014, 16, 4096, 1, 0, false, 8, 5, .rw, 6⟩
def CAN_DBT_TSEG2 : Field := ⟨0x40060014, 16, 4096, 1, 0, false, 4, 4, .rw, 1⟩
def CAN_DBT_SJW : Field := ⟨0x40060014, 16, 4096, 1, 0, false, 0, 4, .rw, 1⟩
def CAN_TDC_TDC_EN : Field := ⟨0x40060018, 16, 4096, 1, 0, false, 8, 1, .rw, 1⟩
def CAN_TDC_TDC_OFFSET : Field := ⟨0x40060018, 16, 4096, 1, 0, false, 0, 7, .rw, 8⟩
def CAN_ECNT_ACK_RUN : Field := ⟨0x4006001C, 16, 4096, 1, 0, false, 24, 8, .ro, 0⟩
def CAN_ECNT_REC : Field := ⟨0x4006001C, 16, 4096, 1, 0, false, 16, 8, .ro, 0⟩
def CAN_ECNT_TEC : Field := ⟨0x4006001C, 16, 4096, 1, 0, false, 0, 9, .ro, 0⟩
def CAN_TSCNT_COUNT : Field := ⟨0x40060020, 16, 4096, 1, 0, false, 0, 32, .ro, 0⟩
def CAN_RX_BASE_BASE : Field := ⟨0x40060024, 16, 4096, 1, 0, false, 0, 21, .rw, 0⟩
def CAN_RX_CFG_IRQ_TIME : Field := ⟨0x40060028, 16, 4096, 1, 0, false, 16, 16, .rw, 0⟩
def CAN_RX_CFG_IRQ_COUNT : Field := ⟨0x40060028, 16, 4096, 1, 0, false, 4, 12, .rw, 0⟩
def CAN_RX_CFG_LOG2 : Field := ⟨0x40060028, 16, 4096, 1, 0, false, 0, 4, .rw, 6⟩
def CAN_RX_HEAD_HEAD : Field := ⟨0x4006002C, 16, 4096, 1, 0, false, 0, 14, .ro, 0⟩
def CAN_RX_TAIL_TAIL : Field := ⟨0x40060030, 16, 4096, 1, 0, false, 0, 14, .rw, 0⟩
def CAN_RX_LOST_LOST : Field := ⟨0x40060034, 16, 4096, 1, 0, false, 0, 32, .rc, 0⟩
def CAN_TX_REQ_REQ : Field := ⟨0x40060038, 16, 4096, 1, 0, false, 0, 32, .wo, 0⟩
def CAN_TX_PEND_PEND : Field := ⟨0x4006003C, 16, 4096, 1, 0, false, 0, 32, .ro, 0⟩
def CAN_TX_CANCEL_CANCEL : Field := ⟨0x40060040, 16, 4096, 1, 0, false, 0, 32, .wo, 0⟩
def CAN_TX_DONE_DONE : Field := ⟨0x40060044, 16, 4096, 1, 0, false, 0, 32, .w1c, 0⟩
def CAN_TX_FAILED_FAILED : Field := ⟨0x40060048, 16, 4096, 1, 0, false, 0, 32, .w1c, 0⟩
def CAN_TX_CANCELLED_CANCELLED : Field := ⟨0x4006004C, 16, 4096, 1, 0, false, 0, 32, .w1c, 0⟩
def CAN_TX_CANCEL_FAIL_CANCEL_FAIL : Field := ⟨0x40060050, 16, 4096, 1, 0, false, 0, 32, .w1c, 0⟩
def CAN_ERRS1_BIT : Field := ⟨0x40060054, 16, 4096, 1, 0, false, 24, 8, .rc, 0⟩
def CAN_ERRS1_STUFF : Field := ⟨0x40060054, 16, 4096, 1, 0, false, 16, 8, .rc, 0⟩
def CAN_ERRS1_FORM : Field := ⟨0x40060054, 16, 4096, 1, 0, false, 8, 8, .rc, 0⟩
def CAN_ERRS1_CRC : Field := ⟨0x40060054, 16, 4096, 1, 0, false, 0, 8, .rc, 0⟩
def CAN_ERRS2_ACK : Field := ⟨0x40060058, 16, 4096, 1, 0, false, 8, 8, .rc, 0⟩
def CAN_ERRS2_BUS_OFF : Field := ⟨0x40060058, 16, 4096, 1, 0, false, 0, 8, .rc, 0⟩
def CAN_ALARM_SHARE_SHARE : Field := ⟨0x4006005C, 16, 4096, 1, 0, false, 0, 16, .ro, 0⟩

/-! Block EM: 12_dictionary_ports.md Ethernet registers. -/

def EM_CTRL_CTRL_RETURN : Field := ⟨0x40070000, 8, 4096, 1, 0, false, 4, 1, .wo, 0⟩
def EM_CTRL_CTRL_TEST : Field := ⟨0x40070000, 8, 4096, 1, 0, false, 3, 1, .wo, 0⟩
def EM_CTRL_SPEED100 : Field := ⟨0x40070000, 8, 4096, 1, 0, false, 2, 1, .rw, 0⟩
def EM_CTRL_INTERFACE : Field := ⟨0x40070000, 8, 4096, 1, 0, false, 1, 1, .rw, 0⟩
def EM_CTRL_ENABLE : Field := ⟨0x40070000, 8, 4096, 1, 0, false, 0, 1, .rw, 0⟩
def EM_STATUS_STATE : Field := ⟨0x40070004, 8, 4096, 1, 0, false, 28, 4, .ro, 0⟩
def EM_STATUS_LINK : Field := ⟨0x40070004, 8, 4096, 1, 0, false, 27, 1, .ro, 0⟩
def EM_STATUS_BIST_PASS : Field := ⟨0x40070004, 8, 4096, 1, 0, false, 26, 1, .ro, 0⟩
def EM_STATUS_CFG_IGNORED : Field := ⟨0x40070004, 8, 4096, 1, 0, false, 25, 1, .w1c, 0⟩
def EM_STATUS_CLASS : Field := ⟨0x40070004, 8, 4096, 1, 0, false, 16, 3, .ro, 0⟩
def EM_IRQ_ZDP_DROP : Field := ⟨0x40070008, 8, 4096, 1, 0, false, 5, 1, .w1c, 0⟩
def EM_IRQ_RETIRED : Field := ⟨0x40070008, 8, 4096, 1, 0, false, 4, 1, .w1c, 0⟩
def EM_IRQ_LINK : Field := ⟨0x40070008, 8, 4096, 1, 0, false, 3, 1, .w1c, 0⟩
def EM_IRQ_RX_LOST : Field := ⟨0x40070008, 8, 4096, 1, 0, false, 2, 1, .w1c, 0⟩
def EM_IRQ_TX_DONE : Field := ⟨0x40070008, 8, 4096, 1, 0, false, 1, 1, .w1c, 0⟩
def EM_IRQ_RX : Field := ⟨0x40070008, 8, 4096, 1, 0, false, 0, 1, .w1c, 0⟩
def EM_IRQ_EN_EN : Field := ⟨0x4007000C, 8, 4096, 1, 0, false, 0, 6, .rw, 0⟩
def EM_ADDR_LO_ADDR : Field := ⟨0x40070010, 8, 4096, 1, 0, false, 0, 32, .ro, 0⟩
def EM_ADDR_HI_ADDR : Field := ⟨0x40070014, 8, 4096, 1, 0, false, 0, 16, .ro, 0⟩
def EM_IPV4_IP : Field := ⟨0x40070018, 8, 4096, 1, 0, false, 0, 32, .rw, 0⟩
def EM_NET_PREFIX : Field := ⟨0x4007001C, 8, 4096, 1, 0, false, 24, 6, .rw, 24⟩
def EM_NET_VLAN : Field := ⟨0x4007001C, 8, 4096, 1, 0, false, 0, 12, .rw, 0⟩
def EM_GW_GW : Field := ⟨0x40070020, 8, 4096, 1, 0, false, 0, 32, .rw, 0⟩
def EM_RX_BASE_BASE : Field := ⟨0x40070024, 8, 4096, 1, 0, false, 0, 21, .rw, 0⟩
def EM_RX_CFG_LOG2 : Field := ⟨0x40070028, 8, 4096, 1, 0, false, 0, 4, .rw, 8⟩
def EM_RX_HEAD_HEAD : Field := ⟨0x4007002C, 8, 4096, 1, 0, false, 0, 12, .ro, 0⟩
def EM_RX_TAIL_TAIL : Field := ⟨0x40070030, 8, 4096, 1, 0, false, 0, 12, .rw, 0⟩
def EM_RX_LOST_LOST : Field := ⟨0x40070034, 8, 4096, 1, 0, false, 0, 32, .rc, 0⟩
def EM_TX_BASE_BASE : Field := ⟨0x40070040, 8, 4096, 4, 16, false, 0, 21, .rw, 0⟩
def EM_TX_CFG_LOG2 : Field := ⟨0x40070044, 8, 4096, 4, 16, false, 0, 4, .rw, 6⟩
def EM_TX_HEAD_HEAD : Field := ⟨0x40070048, 8, 4096, 4, 16, false, 0, 12, .ro, 0⟩
def EM_TX_TAIL_TAIL : Field := ⟨0x4007004C, 8, 4096, 4, 16, false, 0, 12, .rw, 0⟩
def EM_ALARM_SHARE_SHARE : Field := ⟨0x40070080, 8, 4096, 1, 0, false, 0, 16, .ro, 0⟩
def EM_TS_CORR_RX_EXTRA : Field := ⟨0x40070088, 8, 4096, 1, 0, false, 16, 16, .rw, 0⟩
def EM_TS_CORR_TX_EXTRA : Field := ⟨0x40070088, 8, 4096, 1, 0, false, 0, 16, .rw, 0⟩
def EM_ASYM_ASYMMETRY : Field := ⟨0x4007008C, 8, 4096, 1, 0, false, 0, 32, .rw, 0⟩
def EM_ZDP_DROP_COUNT : Field := ⟨0x40070090, 8, 4096, 1, 0, false, 0, 32, .rc, 0⟩

/-! Block XL: 12_dictionary_ports.md Peer-link registers. -/

def XL_CTRL_CTRL_RETURN : Field := ⟨0x40080000, 4, 4096, 1, 0, false, 2, 1, .wo, 0⟩
def XL_CTRL_CTRL_TEST : Field := ⟨0x40080000, 4, 4096, 1, 0, false, 1, 1, .wo, 0⟩
def XL_CTRL_ENABLE : Field := ⟨0x40080000, 4, 4096, 1, 0, false, 0, 1, .rw, 0⟩
def XL_STATUS_STATE : Field := ⟨0x40080004, 4, 4096, 1, 0, false, 28, 4, .ro, 0⟩
def XL_STATUS_LINK : Field := ⟨0x40080004, 4, 4096, 1, 0, false, 27, 1, .ro, 0⟩
def XL_STATUS_BIST_PASS : Field := ⟨0x40080004, 4, 4096, 1, 0, false, 26, 1, .ro, 0⟩
def XL_STATUS_CFG_IGNORED : Field := ⟨0x40080004, 4, 4096, 1, 0, false, 25, 1, .w1c, 0⟩
def XL_STATUS_PEER_NODE : Field := ⟨0x40080004, 4, 4096, 1, 0, false, 0, 14, .ro, 0⟩
def XL_IRQ_CRC : Field := ⟨0x40080008, 4, 4096, 1, 0, false, 5, 1, .w1c, 0⟩
def XL_IRQ_RETIRED : Field := ⟨0x40080008, 4, 4096, 1, 0, false, 4, 1, .w1c, 0⟩
def XL_IRQ_LINK : Field := ⟨0x40080008, 4, 4096, 1, 0, false, 3, 1, .w1c, 0⟩
def XL_IRQ_RX_LOST : Field := ⟨0x40080008, 4, 4096, 1, 0, false, 2, 1, .w1c, 0⟩
def XL_IRQ_TX_DONE : Field := ⟨0x40080008, 4, 4096, 1, 0, false, 1, 1, .w1c, 0⟩
def XL_IRQ_RX : Field := ⟨0x40080008, 4, 4096, 1, 0, false, 0, 1, .w1c, 0⟩
def XL_IRQ_EN_EN : Field := ⟨0x4008000C, 4, 4096, 1, 0, false, 0, 6, .rw, 0⟩
def XL_RX_BASE_BASE : Field := ⟨0x40080010, 4, 4096, 1, 0, false, 0, 21, .rw, 0⟩
def XL_RX_CFG_LOG2 : Field := ⟨0x40080014, 4, 4096, 1, 0, false, 0, 4, .rw, 6⟩
def XL_RX_HEAD_HEAD : Field := ⟨0x40080018, 4, 4096, 1, 0, false, 0, 10, .ro, 0⟩
def XL_RX_TAIL_TAIL : Field := ⟨0x4008001C, 4, 4096, 1, 0, false, 0, 10, .rw, 0⟩
def XL_TX_BASE_BASE : Field := ⟨0x40080020, 4, 4096, 1, 0, false, 0, 21, .rw, 0⟩
def XL_TX_CFG_LOG2 : Field := ⟨0x40080024, 4, 4096, 1, 0, false, 0, 4, .rw, 6⟩
def XL_TX_HEAD_HEAD : Field := ⟨0x40080028, 4, 4096, 1, 0, false, 0, 10, .ro, 0⟩
def XL_TX_TAIL_TAIL : Field := ⟨0x4008002C, 4, 4096, 1, 0, false, 0, 10, .rw, 0⟩
def XL_CRC_ERR_COUNT : Field := ⟨0x40080030, 4, 4096, 1, 0, false, 0, 32, .rc, 0⟩
def XL_ALARM_SHARE_SHARE : Field := ⟨0x40080034, 4, 4096, 1, 0, false, 0, 16, .ro, 0⟩

/-! Block SU: 12_dictionary_ports.md Serial registers. -/

def SU_CTRL_CTRL_RETURN : Field := ⟨0x40090000, 8, 4096, 1, 0, false, 8, 1, .wo, 0⟩
def SU_CTRL_CTRL_TEST : Field := ⟨0x40090000, 8, 4096, 1, 0, false, 7, 1, .wo, 0⟩
def SU_CTRL_STOP2 : Field := ⟨0x40090000, 8, 4096, 1, 0, false, 6, 1, .rw, 0⟩
def SU_CTRL_PARITY : Field := ⟨0x40090000, 8, 4096, 1, 0, false, 4, 2, .rw, 0⟩
def SU_CTRL_DATA7 : Field := ⟨0x40090000, 8, 4096, 1, 0, false, 3, 1, .rw, 0⟩
def SU_CTRL_MODE : Field := ⟨0x40090000, 8, 4096, 1, 0, false, 1, 2, .rw, 0⟩
def SU_CTRL_ENABLE : Field := ⟨0x40090000, 8, 4096, 1, 0, false, 0, 1, .rw, 0⟩
def SU_BAUD_DIV : Field := ⟨0x40090004, 8, 4096, 1, 0, false, 0, 25, .rw, 4266667⟩
def SU_STATUS_STATE : Field := ⟨0x40090008, 8, 4096, 1, 0, false, 28, 4, .ro, 0⟩
def SU_STATUS_BIST_PASS : Field := ⟨0x40090008, 8, 4096, 1, 0, false, 27, 1, .ro, 0⟩
def SU_STATUS_CFG_IGNORED : Field := ⟨0x40090008, 8, 4096, 1, 0, false, 25, 1, .w1c, 0⟩
def SU_STATUS_CLASS : Field := ⟨0x40090008, 8, 4096, 1, 0, false, 16, 3, .ro, 0⟩
def SU_IRQ_RETIRED : Field := ⟨0x4009000C, 8, 4096, 1, 0, false, 6, 1, .w1c, 0⟩
def SU_IRQ_PARITY : Field := ⟨0x4009000C, 8, 4096, 1, 0, false, 5, 1, .w1c, 0⟩
def SU_IRQ_FRAMING : Field := ⟨0x4009000C, 8, 4096, 1, 0, false, 4, 1, .w1c, 0⟩
def SU_IRQ_OVERRUN : Field := ⟨0x4009000C, 8, 4096, 1, 0, false, 3, 1, .w1c, 0⟩
def SU_IRQ_TX_EMPTY : Field := ⟨0x4009000C, 8, 4096, 1, 0, false, 2, 1, .w1c, 0⟩
def SU_IRQ_STAMP : Field := ⟨0x4009000C, 8, 4096, 1, 0, false, 1, 1, .w1c, 0⟩
def SU_IRQ_RX : Field := ⟨0x4009000C, 8, 4096, 1, 0, false, 0, 1, .w1c, 0⟩
def SU_IRQ_EN_EN : Field := ⟨0x40090010, 8, 4096, 1, 0, false, 0, 7, .rw, 0⟩
def SU_RX_BASE_BASE : Field := ⟨0x40090014, 8, 4096, 1, 0, false, 0, 21, .rw, 0⟩
def SU_RX_CFG_LOG2 : Field := ⟨0x40090018, 8, 4096, 1, 0, false, 0, 5, .rw, 10⟩
def SU_RX_HEAD_HEAD : Field := ⟨0x4009001C, 8, 4096, 1, 0, false, 0, 16, .ro, 0⟩
def SU_RX_TAIL_TAIL : Field := ⟨0x40090020, 8, 4096, 1, 0, false, 0, 16, .rw, 0⟩
def SU_TS_BASE_BASE : Field := ⟨0x40090024, 8, 4096, 1, 0, false, 0, 21, .rw, 0⟩
def SU_TS_HEAD_HEAD : Field := ⟨0x40090028, 8, 4096, 1, 0, false, 0, 8, .ro, 0⟩
def SU_TS_TAIL_TAIL : Field := ⟨0x4009002C, 8, 4096, 1, 0, false, 0, 8, .rw, 0⟩
def SU_TX_BASE_BASE : Field := ⟨0x40090030, 8, 4096, 1, 0, false, 0, 21, .rw, 0⟩
def SU_TX_CFG_LOG2 : Field := ⟨0x40090034, 8, 4096, 1, 0, false, 0, 5, .rw, 10⟩
def SU_TX_HEAD_HEAD : Field := ⟨0x40090038, 8, 4096, 1, 0, false, 0, 16, .ro, 0⟩
def SU_TX_TAIL_TAIL : Field := ⟨0x4009003C, 8, 4096, 1, 0, false, 0, 16, .rw, 0⟩
def SU_ERRS_LOST : Field := ⟨0x40090040, 8, 4096, 1, 0, false, 24, 8, .rc, 0⟩
def SU_ERRS_OVERRUN : Field := ⟨0x40090040, 8, 4096, 1, 0, false, 16, 8, .rc, 0⟩
def SU_ERRS_PARITY : Field := ⟨0x40090040, 8, 4096, 1, 0, false, 8, 8, .rc, 0⟩
def SU_ERRS_FRAMING : Field := ⟨0x40090040, 8, 4096, 1, 0, false, 0, 8, .rc, 0⟩

/-! Block CNT: 17_counters.md Registers. -/

def CNT_CTRL_EN : Field := ⟨0x400A0000, 1, 0, 1, 0, false, 3, 1, .rw, 1⟩
def CNT_CTRL_CLEAR_ALL : Field := ⟨0x400A0000, 1, 0, 1, 0, false, 2, 1, .wo, 0⟩
def CNT_CTRL_ARM_AT : Field := ⟨0x400A0000, 1, 0, 1, 0, false, 1, 1, .wo, 0⟩
def CNT_CTRL_SNAP : Field := ⟨0x400A0000, 1, 0, 1, 0, false, 0, 1, .wo, 0⟩
def CNT_STATUS_SNAP_SEQ : Field := ⟨0x400A0004, 1, 0, 1, 0, false, 16, 16, .ro, 0⟩
def CNT_STATUS_SNAP_LATE : Field := ⟨0x400A0004, 1, 0, 1, 0, false, 5, 1, .w1c, 0⟩
def CNT_STATUS_SNAP_MISSED : Field := ⟨0x400A0004, 1, 0, 1, 0, false, 4, 1, .w1c, 0⟩
def CNT_STATUS_SNAP_IGNORED : Field := ⟨0x400A0004, 1, 0, 1, 0, false, 3, 1, .w1c, 0⟩
def CNT_STATUS_ARMED : Field := ⟨0x400A0004, 1, 0, 1, 0, false, 2, 1, .ro, 0⟩
def CNT_STATUS_SNAP_BUSY : Field := ⟨0x400A0004, 1, 0, 1, 0, false, 0, 1, .ro, 0⟩
def CNT_IRQ_HIST_SAT : Field := ⟨0x400A0008, 1, 0, 1, 0, false, 2, 1, .w1c, 0⟩
def CNT_IRQ_OVF : Field := ⟨0x400A0008, 1, 0, 1, 0, false, 1, 1, .w1c, 0⟩
def CNT_IRQ_SNAP_DONE : Field := ⟨0x400A0008, 1, 0, 1, 0, false, 0, 1, .w1c, 0⟩
def CNT_IRQ_EN_EN : Field := ⟨0x400A000C, 1, 0, 1, 0, false, 0, 3, .rw, 0⟩
def CNT_AT_NS_NS : Field := ⟨0x400A0010, 1, 0, 1, 0, false, 0, 30, .rw, 0⟩
def CNT_AT_SEC_LO_SEC : Field := ⟨0x400A0014, 1, 0, 1, 0, false, 0, 32, .rw, 0⟩
def CNT_AT_SEC_HI_SEC : Field := ⟨0x400A0018, 1, 0, 1, 0, false, 0, 16, .rw, 0⟩
def CNT_PERIOD_SNAP_PERIOD_MS : Field := ⟨0x400A001C, 1, 0, 1, 0, false, 0, 22, .rw, 0⟩
def CNT_SNAP_NS_NS : Field := ⟨0x400A0020, 1, 0, 1, 0, false, 0, 30, .ro, 0⟩
def CNT_SNAP_SEC_LO_SEC : Field := ⟨0x400A0024, 1, 0, 1, 0, false, 0, 32, .ro, 0⟩
def CNT_SNAP_SEC_HI_STEP_GEN : Field := ⟨0x400A0028, 1, 0, 1, 0, false, 16, 16, .ro, 0⟩
def CNT_SNAP_SEC_HI_SEC : Field := ⟨0x400A0028, 1, 0, 1, 0, false, 0, 16, .ro, 0⟩
def CNT_OVF_OVF : Field := ⟨0x400A0030, 8, 4, 1, 0, false, 0, 32, .w1c, 0⟩
def CNT_SOVF_OVF : Field := ⟨0x400A0050, 8, 4, 1, 0, false, 0, 32, .ro, 0⟩
def CNT_EV_CFG_EN : Field := ⟨0x400A1000, 256, 16, 1, 0, false, 31, 1, .rw, 0⟩
def CNT_EV_CFG_CHAIN : Field := ⟨0x400A1000, 256, 16, 1, 0, false, 30, 1, .rw, 0⟩
def CNT_EV_CFG_SEL_INVALID : Field := ⟨0x400A1000, 256, 16, 1, 0, false, 29, 1, .ro, 0⟩
def CNT_EV_CFG_FILTER : Field := ⟨0x400A1000, 256, 16, 1, 0, false, 16, 9, .rw, 256⟩
def CNT_EV_CFG_EVENT : Field := ⟨0x400A1000, 256, 16, 1, 0, false, 0, 12, .rw, 0⟩
def CNT_EV_LO_COUNT : Field := ⟨0x400A1004, 256, 16, 1, 0, false, 0, 32, .ro, 0⟩
def CNT_EV_HI_COUNT : Field := ⟨0x400A1008, 256, 16, 1, 0, false, 0, 16, .ro, 0⟩
def CNT_SEV_LO_COUNT : Field := ⟨0x400A2000, 256, 8, 1, 0, false, 0, 32, .ro, 0⟩
def CNT_SEV_HI_COUNT : Field := ⟨0x400A2004, 256, 8, 1, 0, false, 0, 16, .ro, 0⟩
def CNT_H_CFG_EN : Field := ⟨0x400A4000, 16, 256, 1, 0, false, 31, 1, .rw, 0⟩
def CNT_H_CFG_SHIFT : Field := ⟨0x400A4000, 16, 256, 1, 0, false, 24, 5, .rw, 0⟩
def CNT_H_CFG_FILTER : Field := ⟨0x400A4000, 16, 256, 1, 0, false, 12, 9, .rw, 256⟩
def CNT_H_CFG_SOURCE : Field := ⟨0x400A4000, 16, 256, 1, 0, false, 0, 4, .rw, 0⟩
def CNT_H_TOTAL_LO_TOTAL : Field := ⟨0x400A4004, 16, 256, 1, 0, false, 0, 32, .ro, 0⟩
def CNT_H_TOTAL_HI_TOTAL : Field := ⟨0x400A4008, 16, 256, 1, 0, false, 0, 16, .ro, 0⟩
def CNT_H_MAX_MAX : Field := ⟨0x400A400C, 16, 256, 1, 0, false, 0, 32, .ro, 0⟩
def CNT_H_SUM_LO_SUM : Field := ⟨0x400A4010, 16, 256, 1, 0, false, 0, 32, .ro, 0⟩
def CNT_H_SUM_HI_SUM : Field := ⟨0x400A4014, 16, 256, 1, 0, false, 0, 32, .ro, 0⟩
def CNT_H_BIN_COUNT : Field := ⟨0x400A4080, 16, 256, 32, 4, false, 0, 32, .ro, 0⟩
def CNT_SH_CFG_EN : Field := ⟨0x400A8000, 16, 256, 1, 0, false, 31, 1, .ro, 0⟩
def CNT_SH_CFG_SHIFT : Field := ⟨0x400A8000, 16, 256, 1, 0, false, 24, 5, .ro, 0⟩
def CNT_SH_CFG_FILTER : Field := ⟨0x400A8000, 16, 256, 1, 0, false, 12, 9, .ro, 0⟩
def CNT_SH_CFG_SOURCE : Field := ⟨0x400A8000, 16, 256, 1, 0, false, 0, 4, .ro, 0⟩
def CNT_SH_TOTAL_LO_TOTAL : Field := ⟨0x400A8004, 16, 256, 1, 0, false, 0, 32, .ro, 0⟩
def CNT_SH_TOTAL_HI_TOTAL : Field := ⟨0x400A8008, 16, 256, 1, 0, false, 0, 16, .ro, 0⟩
def CNT_SH_MAX_MAX : Field := ⟨0x400A800C, 16, 256, 1, 0, false, 0, 32, .ro, 0⟩
def CNT_SH_SUM_LO_SUM : Field := ⟨0x400A8010, 16, 256, 1, 0, false, 0, 32, .ro, 0⟩
def CNT_SH_SUM_HI_SUM : Field := ⟨0x400A8014, 16, 256, 1, 0, false, 0, 32, .ro, 0⟩
def CNT_SH_BIN_COUNT : Field := ⟨0x400A8080, 16, 256, 32, 4, false, 0, 32, .ro, 0⟩

/-! Block HL: 16_faults_health_logs.md Registers. -/

def HL_CTRL_SCRUB_NOW : Field := ⟨0x400B0000, 1, 0, 1, 0, false, 0, 1, .wo, 0⟩
def HL_STATUS_SPARES_FREE : Field := ⟨0x400B0004, 1, 0, 1, 0, false, 24, 3, .ro, 4⟩
def HL_STATUS_RETIRED : Field := ⟨0x400B0004, 1, 0, 1, 0, false, 0, 9, .ro, 0⟩
def HL_IRQ_SCRUB_DONE : Field := ⟨0x400B0008, 1, 0, 1, 0, false, 7, 1, .w1c, 0⟩
def HL_IRQ_SUB_LOST : Field := ⟨0x400B0008, 1, 0, 1, 0, false, 6, 1, .w1c, 0⟩
def HL_IRQ_OVERFLOW : Field := ⟨0x400B0008, 1, 0, 1, 0, false, 5, 1, .w1c, 0⟩
def HL_IRQ_ALARM : Field := ⟨0x400B0008, 1, 0, 1, 0, false, 4, 1, .w1c, 0⟩
def HL_IRQ_SPARED : Field := ⟨0x400B0008, 1, 0, 1, 0, false, 3, 1, .w1c, 0⟩
def HL_IRQ_TEST_DONE : Field := ⟨0x400B0008, 1, 0, 1, 0, false, 2, 1, .w1c, 0⟩
def HL_IRQ_RETURNED : Field := ⟨0x400B0008, 1, 0, 1, 0, false, 1, 1, .w1c, 0⟩
def HL_IRQ_RETIRED : Field := ⟨0x400B0008, 1, 0, 1, 0, false, 0, 1, .w1c, 0⟩
def HL_IRQ_EN_EN : Field := ⟨0x400B000C, 1, 0, 1, 0, false, 0, 8, .rw, 0⟩
def HL_SEL_SLOT : Field := ⟨0x400B0010, 1, 0, 1, 0, false, 0, 9, .rw, 0⟩
def HL_UNIT_STATE : Field := ⟨0x400B0014, 1, 0, 1, 0, false, 28, 4, .ro, 0⟩
def HL_UNIT_CAUSE : Field := ⟨0x400B0014, 1, 0, 1, 0, false, 24, 4, .ro, 0⟩
def HL_UNIT_RETIRE_COUNT : Field := ⟨0x400B0014, 1, 0, 1, 0, false, 16, 8, .ro, 0⟩
def HL_UNIT_COUNT : Field := ⟨0x400B0014, 1, 0, 1, 0, false, 0, 16, .ro, 0⟩
def HL_ACTION_ACTION : Field := ⟨0x400B0018, 1, 0, 1, 0, false, 30, 2, .wo, 0⟩
def HL_ACTION_SLOT : Field := ⟨0x400B0018, 1, 0, 1, 0, false, 0, 9, .wo, 0⟩
def HL_ACT_STATUS_BUSY : Field := ⟨0x400B001C, 1, 0, 1, 0, false, 31, 1, .ro, 0⟩
def HL_ACT_STATUS_RESULT : Field := ⟨0x400B001C, 1, 0, 1, 0, false, 0, 4, .ro, 0⟩
def HL_RAISE_CLASS : Field := ⟨0x400B0020, 1, 0, 1, 0, false, 30, 2, .wo, 0⟩
def HL_RAISE_SRC : Field := ⟨0x400B0020, 1, 0, 1, 0, false, 0, 21, .wo, 0⟩
def HL_ASEQ_ASEQ : Field := ⟨0x400B0024, 1, 0, 1, 0, false, 0, 32, .ro, 0⟩
def HL_OVERFLOW_HELD : Field := ⟨0x400B0028, 1, 0, 1, 0, false, 0, 16, .ro, 0⟩
def HL_EVT_HEAD_HEAD : Field := ⟨0x400B002C, 1, 0, 1, 0, false, 0, 13, .ro, 0⟩
def HL_COALESCING_KEYS : Field := ⟨0x400B0030, 1, 0, 1, 0, false, 0, 16, .ro, 0⟩
def HL_TRACE_LOST_COUNT : Field := ⟨0x400B0034, 1, 0, 1, 0, false, 0, 32, .rc, 0⟩
def HL_SCRUB_PERIOD_MIN : Field := ⟨0x400B0038, 1, 0, 1, 0, false, 16, 8, .ro, 10⟩
def HL_SCRUB_PASSES : Field := ⟨0x400B0038, 1, 0, 1, 0, false, 0, 16, .ro, 0⟩
def HL_RING_HEAD_RHEAD : Field := ⟨0x400B003C, 1, 0, 1, 0, false, 0, 32, .ro, 0⟩

/-! Block CG: 14_redundancy_claims.md R474. -/

def CG_CTRL_SEND : Field := ⟨0x400C0000, 1, 0, 1, 0, false, 0, 1, .wo, 0⟩
def CG_STATUS_GATE : Field := ⟨0x400C0004, 1, 0, 1, 0, false, 31, 1, .ro, 0⟩
def CG_STATUS_HOLDER_VALID : Field := ⟨0x400C0004, 1, 0, 1, 0, false, 30, 1, .ro, 0⟩
def CG_STATUS_SAFE : Field := ⟨0x400C0004, 1, 0, 1, 0, false, 29, 1, .ro, 0⟩
def CG_STATUS_FENCED : Field := ⟨0x400C0004, 1, 0, 1, 0, false, 28, 1, .ro, 0⟩
def CG_IRQ_PROBE : Field := ⟨0x400C0008, 1, 0, 1, 0, false, 6, 1, .w1c, 0⟩
def CG_IRQ_FENCE : Field := ⟨0x400C0008, 1, 0, 1, 0, false, 5, 1, .w1c, 0⟩
def CG_IRQ_SAFE : Field := ⟨0x400C0008, 1, 0, 1, 0, false, 4, 1, .w1c, 0⟩
def CG_IRQ_SWITCH : Field := ⟨0x400C0008, 1, 0, 1, 0, false, 3, 1, .w1c, 0⟩
def CG_IRQ_REFUSED : Field := ⟨0x400C0008, 1, 0, 1, 0, false, 2, 1, .w1c, 0⟩
def CG_IRQ_CEIL_CHANGE : Field := ⟨0x400C0008, 1, 0, 1, 0, false, 1, 1, .w1c, 0⟩
def CG_IRQ_CLAIM_CHANGE : Field := ⟨0x400C0008, 1, 0, 1, 0, false, 0, 1, .w1c, 0⟩
def CG_IRQ_EN_EN : Field := ⟨0x400C000C, 1, 0, 1, 0, false, 0, 7, .rw, 0⟩
def CG_CLAIM_REQ_RANK : Field := ⟨0x400C0010, 1, 0, 1, 0, false, 28, 4, .rw, 0⟩
def CG_CLAIM_REQ_HEALTH : Field := ⟨0x400C0010, 1, 0, 1, 0, false, 16, 12, .rw, 4095⟩
def CG_CEILING_RANK_CEIL : Field := ⟨0x400C0014, 1, 0, 1, 0, false, 28, 4, .ro, 0⟩
def CG_CEILING_HEALTH_CEIL : Field := ⟨0x400C0014, 1, 0, 1, 0, false, 16, 12, .ro, 4095⟩
def CG_CEILING_CAUSES : Field := ⟨0x400C0014, 1, 0, 1, 0, false, 0, 15, .ro, 0⟩
def CG_CLAIM_CLAIM : Field := ⟨0x400C0018, 1, 0, 1, 0, false, 0, 32, .ro, 0⟩
def CG_CFG_EPOCH : Field := ⟨0x400C001C, 1, 0, 1, 0, false, 24, 8, .je, 0⟩
def CG_CFG_SET_ID : Field := ⟨0x400C001C, 1, 0, 1, 0, false, 16, 8, .je, 0⟩
def CG_CFG_INDEX : Field := ⟨0x400C001C, 1, 0, 1, 0, false, 14, 2, .je, 0⟩
def CG_CFG_LEASE_MS : Field := ⟨0x400C001C, 1, 0, 1, 0, false, 0, 9, .je, 60⟩
def CG_MEMBER01_VALID1 : Field := ⟨0x400C0020, 1, 0, 1, 0, false, 31, 1, .je, 0⟩
def CG_MEMBER01_MEMBER1 : Field := ⟨0x400C0020, 1, 0, 1, 0, false, 16, 14, .je, 0⟩
def CG_MEMBER01_VALID0 : Field := ⟨0x400C0020, 1, 0, 1, 0, false, 15, 1, .je, 0⟩
def CG_MEMBER01_MEMBER0 : Field := ⟨0x400C0020, 1, 0, 1, 0, false, 0, 14, .je, 0⟩
def CG_MEMBER2_LEADER_INDEX : Field := ⟨0x400C0024, 1, 0, 1, 0, false, 16, 2, .je, 0⟩
def CG_MEMBER2_VALID2 : Field := ⟨0x400C0024, 1, 0, 1, 0, false, 15, 1, .je, 0⟩
def CG_MEMBER2_MEMBER2 : Field := ⟨0x400C0024, 1, 0, 1, 0, false, 0, 14, .je, 0⟩
def CG_SENT_COUNT : Field := ⟨0x400C0028, 1, 0, 1, 0, false, 0, 32, .ro, 0⟩
def CG_HOLDER_CLAIM : Field := ⟨0x400C0100, 1, 0, 1, 0, false, 0, 32, .ro, 0⟩
def CG_HOLDER_NODE_EPOCH_VALID : Field := ⟨0x400C0104, 1, 0, 1, 0, false, 24, 1, .ro, 0⟩
def CG_HOLDER_NODE_EPOCH_HI : Field := ⟨0x400C0104, 1, 0, 1, 0, false, 16, 8, .ro, 0⟩
def CG_HOLDER_NODE_NODE : Field := ⟨0x400C0104, 1, 0, 1, 0, false, 0, 14, .ro, 0⟩
def CG_LEFT_LEFT : Field := ⟨0x400C0108, 3, 4, 1, 0, false, 0, 20, .ro, 0⟩
def CG_GCFG_FENCE_S : Field := ⟨0x400C0120, 1, 0, 1, 0, false, 24, 8, .je, 10⟩
def CG_GCFG_CROSS_EN : Field := ⟨0x400C0120, 1, 0, 1, 0, false, 16, 1, .je, 0⟩
def CG_GCFG_NOLEASE_HOLD_MS : Field := ⟨0x400C0120, 1, 0, 1, 0, false, 0, 16, .je, 200⟩
def CG_CROSS_CROSS_BOUND : Field := ⟨0x400C0124, 1, 0, 1, 0, false, 0, 16, .je, 1638⟩
def CG_REFUSE_COUNT : Field := ⟨0x400C0130, 9, 4, 1, 0, false, 0, 32, .rc, 0⟩
def CG_SWITCHES_COUNT : Field := ⟨0x400C0160, 1, 0, 1, 0, false, 0, 32, .rc, 0⟩
def CG_PROBE_RESULT : Field := ⟨0x400C0164, 1, 0, 1, 0, false, 30, 2, .ro, 0⟩
def CG_PROBE_THRUSTER : Field := ⟨0x400C0164, 1, 0, 1, 0, false, 16, 5, .ro, 0⟩
def CG_PROBE_NODE : Field := ⟨0x400C0164, 1, 0, 1, 0, false, 0, 14, .ro, 0⟩
def CGL_RANGE_MAX : Field := ⟨0x400C1000, 32, 64, 4, 4, false, 16, 16, .je, 32767⟩
def CGL_RANGE_MIN : Field := ⟨0x400C1000, 32, 64, 4, 4, false, 0, 16, .je, 32768⟩
def CGL_WRAP_ANGLE_WRAP : Field := ⟨0x400C1010, 32, 64, 1, 0, false, 0, 1, .je, 0⟩
def CGL_SAFE_SAFE_THRUST : Field := ⟨0x400C1014, 32, 64, 1, 0, false, 16, 16, .je, 0⟩
def CGL_SAFE_SAFE_DRIVE : Field := ⟨0x400C1014, 32, 64, 1, 0, false, 0, 16, .je, 0⟩
def CGL_SAFE_AUX_SAFE_AUX : Field := ⟨0x400C1018, 32, 64, 1, 0, false, 0, 16, .je, 0⟩
def CGL_SECTOR_END : Field := ⟨0x400C1020, 32, 64, 8, 4, false, 16, 16, .je, 0⟩
def CGL_SECTOR_START : Field := ⟨0x400C1020, 32, 64, 8, 4, false, 0, 16, .je, 0⟩
def CGS_QUEUE_QUEUE : Field := ⟨0x400C1800, 32, 16, 1, 0, false, 28, 4, .ro, 0⟩
def CGS_QUEUE_LAST_CAUSE : Field := ⟨0x400C1800, 32, 16, 1, 0, false, 24, 4, .ro, 0⟩
def CGS_ACCEPTED_ACCEPTED : Field := ⟨0x400C1804, 32, 16, 1, 0, false, 0, 32, .rc, 0⟩
def CGS_LATE_LATE_ARRIVAL : Field := ⟨0x400C1808, 32, 16, 1, 0, false, 16, 16, .rc, 0⟩
def CGS_LATE_IGNORED : Field := ⟨0x400C1808, 32, 16, 1, 0, false, 0, 16, .rc, 0⟩
def CGS_LAST_APP_LAST_APP_NS : Field := ⟨0x400C180C, 32, 16, 1, 0, false, 0, 32, .ro, 0⟩

/-! Block SM: 15_safety.md Registers. -/

def SM_CTRL_RX_ACK : Field := ⟨0x400D0000, 1, 0, 1, 0, false, 1, 1, .wo, 0⟩
def SM_CTRL_SEND : Field := ⟨0x400D0000, 1, 0, 1, 0, false, 0, 1, .wo, 0⟩
def SM_STATUS_ALIVE : Field := ⟨0x400D0004, 1, 0, 1, 0, false, 31, 1, .ro, 0⟩
def SM_STATUS_TX_BUSY : Field := ⟨0x400D0004, 1, 0, 1, 0, false, 30, 1, .ro, 0⟩
def SM_STATUS_RX_VALID : Field := ⟨0x400D0004, 1, 0, 1, 0, false, 29, 1, .ro, 0⟩
def SM_STATUS_HUB_LOST_SEEN : Field := ⟨0x400D0004, 1, 0, 1, 0, false, 28, 1, .w1c, 0⟩
def SM_STATUS_SEND_IGNORED : Field := ⟨0x400D0004, 1, 0, 1, 0, false, 27, 1, .w1c, 0⟩
def SM_STATUS_STATE : Field := ⟨0x400D0004, 1, 0, 1, 0, false, 0, 3, .ro, 0⟩
def SM_IRQ_DEAD : Field := ⟨0x400D0008, 1, 0, 1, 0, false, 6, 1, .w1c, 0⟩
def SM_IRQ_LOG : Field := ⟨0x400D0008, 1, 0, 1, 0, false, 5, 1, .w1c, 0⟩
def SM_IRQ_FAULT : Field := ⟨0x400D0008, 1, 0, 1, 0, false, 4, 1, .w1c, 0⟩
def SM_IRQ_TRIP : Field := ⟨0x400D0008, 1, 0, 1, 0, false, 3, 1, .w1c, 0⟩
def SM_IRQ_STATUS_CHANGE : Field := ⟨0x400D0008, 1, 0, 1, 0, false, 2, 1, .w1c, 0⟩
def SM_IRQ_TX_DONE : Field := ⟨0x400D0008, 1, 0, 1, 0, false, 1, 1, .w1c, 0⟩
def SM_IRQ_RX : Field := ⟨0x400D0008, 1, 0, 1, 0, false, 0, 1, .w1c, 0⟩
def SM_IRQ_EN_EN : Field := ⟨0x400D000C, 1, 0, 1, 0, false, 0, 7, .rw, 0⟩
def SM_HB_HB : Field := ⟨0x400D0010, 1, 0, 1, 0, false, 0, 32, .wo, 0⟩
def SM_TX_LEN_LEN : Field := ⟨0x400D0014, 1, 0, 1, 0, false, 0, 12, .rw, 0⟩
def SM_RX_LEN_LEN : Field := ⟨0x400D0018, 1, 0, 1, 0, false, 0, 12, .ro, 0⟩
def SM_DROPPED_DIE_DROPPED : Field := ⟨0x400D001C, 1, 0, 1, 0, false, 16, 16, .rc, 0⟩
def SM_DROPPED_HUB_DROPPED : Field := ⟨0x400D001C, 1, 0, 1, 0, false, 0, 16, .rc, 0⟩
def SM_OUTPUTS_FAULTED : Field := ⟨0x400D0020, 1, 0, 1, 0, false, 16, 8, .ro, 0⟩
def SM_OUTPUTS_TRIPPED : Field := ⟨0x400D0020, 1, 0, 1, 0, false, 8, 8, .ro, 0⟩
def SM_OUTPUTS_ENERGIZED : Field := ⟨0x400D0020, 1, 0, 1, 0, false, 0, 8, .ro, 0⟩
def SM_SF1_MASK : Field := ⟨0x400D0024, 1, 0, 1, 0, false, 0, 32, .ro, 0⟩
def SM_ZONES_SF3_OWN : Field := ⟨0x400D0028, 1, 0, 1, 0, false, 17, 1, .ro, 0⟩
def SM_ZONES_SF3_RED : Field := ⟨0x400D0028, 1, 0, 1, 0, false, 16, 1, .ro, 0⟩
def SM_ZONES_DEMAND : Field := ⟨0x400D0028, 1, 0, 1, 0, false, 8, 8, .ro, 0⟩
def SM_ZONES_ACTIVE : Field := ⟨0x400D0028, 1, 0, 1, 0, false, 0, 8, .ro, 0⟩
def SM_CAUSES_CAUSES : Field := ⟨0x400D002C, 1, 0, 1, 0, false, 0, 32, .ro, 0⟩
def SM_CCV_CCV : Field := ⟨0x400D0030, 1, 0, 1, 0, false, 0, 32, .ro, 0⟩
def SM_TX_DATA : Field := ⟨0x400D1000, 1024, 4, 1, 0, false, 0, 32, .rw, 0⟩
def SM_RX_DATA : Field := ⟨0x400D2000, 1024, 4, 1, 0, false, 0, 32, .ro, 0⟩

/-! Block JE: 13_orders_journal.md Registers. -/

def JE_CTRL_FETCH : Field := ⟨0x400E0000, 1, 0, 1, 0, false, 0, 1, .wo, 0⟩
def JE_STATUS_STATE : Field := ⟨0x400E0004, 1, 0, 1, 0, false, 28, 4, .ro, 0⟩
def JE_STATUS_APPLY_OPEN : Field := ⟨0x400E0004, 1, 0, 1, 0, false, 27, 1, .ro, 0⟩
def JE_STATUS_SEQUENCER : Field := ⟨0x400E0004, 1, 0, 1, 0, false, 26, 1, .ro, 0⟩
def JE_STATUS_APPLY_IGNORED : Field := ⟨0x400E0004, 1, 0, 1, 0, false, 25, 1, .w1c, 0⟩
def JE_STATUS_SEQ_VALID : Field := ⟨0x400E0004, 1, 0, 1, 0, false, 14, 1, .ro, 0⟩
def JE_STATUS_SEQ_NODE : Field := ⟨0x400E0004, 1, 0, 1, 0, false, 0, 14, .ro, 0⟩
def JE_IRQ_APPLY_SLOW : Field := ⟨0x400E0008, 1, 0, 1, 0, false, 9, 1, .w1c, 0⟩
def JE_IRQ_DROPPED : Field := ⟨0x400E0008, 1, 0, 1, 0, false, 8, 1, .w1c, 0⟩
def JE_IRQ_CASK_FAULT : Field := ⟨0x400E0008, 1, 0, 1, 0, false, 7, 1, .w1c, 0⟩
def JE_IRQ_FORK : Field := ⟨0x400E0008, 1, 0, 1, 0, false, 6, 1, .w1c, 0⟩
def JE_IRQ_SPARGE_DONE : Field := ⟨0x400E0008, 1, 0, 1, 0, false, 5, 1, .w1c, 0⟩
def JE_IRQ_PAUSED : Field := ⟨0x400E0008, 1, 0, 1, 0, false, 4, 1, .w1c, 0⟩
def JE_IRQ_HELD : Field := ⟨0x400E0008, 1, 0, 1, 0, false, 3, 1, .w1c, 0⟩
def JE_IRQ_SEQ_CHANGE : Field := ⟨0x400E0008, 1, 0, 1, 0, false, 2, 1, .w1c, 0⟩
def JE_IRQ_COMMIT : Field := ⟨0x400E0008, 1, 0, 1, 0, false, 1, 1, .w1c, 0⟩
def JE_IRQ_APPLY_READY : Field := ⟨0x400E0008, 1, 0, 1, 0, false, 0, 1, .w1c, 0⟩
def JE_IRQ_EN_EN : Field := ⟨0x400E000C, 1, 0, 1, 0, false, 0, 10, .rw, 0⟩
def JE_OSN_HIGH_LO_OSN : Field := ⟨0x400E0010, 1, 0, 1, 0, false, 0, 32, .ro, 0⟩
def JE_OSN_HIGH_HI_OSN : Field := ⟨0x400E0014, 1, 0, 1, 0, false, 0, 32, .ro, 0⟩
def JE_OSN_COMMIT_LO_OSN : Field := ⟨0x400E0018, 1, 0, 1, 0, false, 0, 32, .ro, 0⟩
def JE_OSN_COMMIT_HI_OSN : Field := ⟨0x400E001C, 1, 0, 1, 0, false, 0, 32, .ro, 0⟩
def JE_OSN_APPLIED_LO_OSN : Field := ⟨0x400E0020, 1, 0, 1, 0, false, 0, 32, .ro, 0⟩
def JE_OSN_APPLIED_HI_OSN : Field := ⟨0x400E0024, 1, 0, 1, 0, false, 0, 32, .ro, 0⟩
def JE_OSN_OLDEST_LO_OSN : Field := ⟨0x400E0028, 1, 0, 1, 0, false, 0, 32, .ro, 0⟩
def JE_OSN_OLDEST_HI_OSN : Field := ⟨0x400E002C, 1, 0, 1, 0, false, 0, 32, .ro, 0⟩
def JE_HOLD_DROPPED : Field := ⟨0x400E0030, 1, 0, 1, 0, false, 16, 16, .rc, 0⟩
def JE_HOLD_HELD : Field := ⟨0x400E0030, 1, 0, 1, 0, false, 0, 8, .ro, 0⟩
def JE_APPLY_REC_VALID : Field := ⟨0x400E0034, 1, 0, 1, 0, false, 31, 1, .ro, 0⟩
def JE_APPLY_REC_NREC : Field := ⟨0x400E0034, 1, 0, 1, 0, false, 16, 8, .ro, 0⟩
def JE_APPLY_REC_SLOT : Field := ⟨0x400E0034, 1, 0, 1, 0, false, 0, 16, .ro, 0⟩
def JE_APPLY_ADDR_ADDR : Field := ⟨0x400E0038, 1, 0, 1, 0, false, 2, 30, .rw, 0⟩
def JE_APPLY_DATA_DATA : Field := ⟨0x400E003C, 1, 0, 1, 0, false, 0, 32, .wo, 0⟩
def JE_APPLY_PDICT_PERSIST : Field := ⟨0x400E0040, 1, 0, 1, 0, false, 31, 1, .rw, 0⟩
def JE_APPLY_PDICT_OFFSET : Field := ⟨0x400E0040, 1, 0, 1, 0, false, 0, 18, .rw, 0⟩
def JE_APPLY_DONE_OUTCOME : Field := ⟨0x400E0044, 1, 0, 1, 0, false, 0, 8, .wo, 0⟩
def JE_DUPS_IN_FLIGHT : Field := ⟨0x400E0048, 1, 0, 1, 0, false, 16, 16, .rc, 0⟩
def JE_DUPS_WINDOW : Field := ⟨0x400E0048, 1, 0, 1, 0, false, 0, 16, .rc, 0⟩

/-! Block SUP: 18_startup_firmware.md Supervisor registers (SUP_IDCODE, SUP_STRAP: 00_scope.md; SUP_STRAP_PORT: 12_dictionary_ports.md). -/

def SUP_IDCODE_STEP_MAJOR : Field := ⟨0x400F0000, 1, 0, 1, 0, false, 28, 4, .ro, 2⟩
def SUP_IDCODE_STEP_MINOR : Field := ⟨0x400F0000, 1, 0, 1, 0, false, 24, 4, .ro, 1⟩
def SUP_IDCODE_PART : Field := ⟨0x400F0000, 1, 0, 1, 0, false, 8, 16, .ro, 29284⟩
def SUP_IDCODE_FAMILY : Field := ⟨0x400F0000, 1, 0, 1, 0, false, 4, 4, .ro, 5⟩
def SUP_STRAP_ROLE_FAULT : Field := ⟨0x400F0004, 1, 0, 1, 0, false, 2, 1, .ro, 0⟩
def SUP_STRAP_ROLE : Field := ⟨0x400F0004, 1, 0, 1, 0, false, 0, 2, .ro, 3⟩
def SUP_STRAP_PORT_PROF_FAULT : Field := ⟨0x400F0008, 1, 0, 1, 0, false, 3, 1, .ro, 0⟩
def SUP_STRAP_PORT_PROF : Field := ⟨0x400F0008, 1, 0, 1, 0, false, 0, 3, .ro, 0⟩
def SUP_RESET_CAUSE_CAUSE : Field := ⟨0x400F000C, 1, 0, 1, 0, false, 0, 7, .ro, 1⟩
def SUP_BOOT_FAIL_B : Field := ⟨0x400F0010, 1, 0, 1, 0, false, 24, 8, .ro, 0⟩
def SUP_BOOT_FAIL_A : Field := ⟨0x400F0010, 1, 0, 1, 0, false, 16, 8, .ro, 0⟩
def SUP_BOOT_CONFIRM : Field := ⟨0x400F0010, 1, 0, 1, 0, false, 6, 1, .wo, 0⟩
def SUP_BOOT_CONFIRMED : Field := ⟨0x400F0010, 1, 0, 1, 0, false, 5, 1, .ro, 0⟩
def SUP_BOOT_TRIAL_ACTIVE : Field := ⟨0x400F0010, 1, 0, 1, 0, false, 4, 1, .ro, 0⟩
def SUP_BOOT_FALLBACK : Field := ⟨0x400F0010, 1, 0, 1, 0, false, 3, 1, .ro, 0⟩
def SUP_BOOT_SLOT : Field := ⟨0x400F0010, 1, 0, 1, 0, false, 0, 2, .ro, 0⟩
def SUP_TRIAL_LEFT_S : Field := ⟨0x400F0014, 1, 0, 1, 0, false, 0, 16, .ro, 0⟩
def SUP_WDT_CFG_EN : Field := ⟨0x400F0018, 1, 0, 1, 0, false, 31, 1, .rw, 0⟩
def SUP_WDT_CFG_CORE_MASK : Field := ⟨0x400F0018, 1, 0, 1, 0, false, 16, 4, .rw, 0⟩
def SUP_WDT_CFG_TIMEOUT_MS : Field := ⟨0x400F0018, 1, 0, 1, 0, false, 0, 14, .rw, 200⟩
def SUP_WDT_KICK_KICK : Field := ⟨0x400F001C, 1, 0, 1, 0, false, 0, 32, .wo, 0⟩
def SUP_RESTART_KEY : Field := ⟨0x400F0020, 1, 0, 1, 0, false, 0, 32, .wo, 0⟩
def SUP_IRQ_ROUTE_LEVEL : Field := ⟨0x400F0100, 63, 4, 1, 0, false, 8, 1, .rw, 0⟩
def SUP_IRQ_ROUTE_CORE_MASK : Field := ⟨0x400F0100, 63, 4, 1, 0, false, 0, 4, .rw, 0⟩
def SUP_IRQ_CLAIM_SOURCE : Field := ⟨0x400F0200, 4, 4, 1, 0, false, 0, 8, .ro, 255⟩

/-- Part of the field table: block GRIST. -/
def fieldsGRIST0 : List Field :=
  [GRIST_CTRL_REPLAN, GRIST_STATUS_TABLE_GEN, GRIST_STATUS_SHED, GRIST_STATUS_READY,
   GRIST_STATUS_REPLANNING, GRIST_STATUS_BREACH, GRIST_STATUS_DIP, GRIST_IRQ_KILN,
   GRIST_IRQ_SPEED_FAULT, GRIST_IRQ_REFUSED, GRIST_IRQ_SHED_CHANGE, GRIST_IRQ_BREACH,
   GRIST_IRQ_DIP_LONG, GRIST_IRQ_DIP_EXIT, GRIST_IRQ_DIP_ENTER, GRIST_IRQ_TABLE_CHANGED]

/-- Part of the field table: block GRIST. -/
def fieldsGRIST1 : List Field :=
  [GRIST_IRQ_EN_EN, GRIST_RESOURCES_OPS_IN_FLIGHT, GRIST_RESOURCES_OPS_RESERVED, GRIST_RESOURCES_CONTEXTS_USED,
   GRIST_REFUSALS_COUNT, GRIST_ADMIT_DESC, GRIST_VERDICT_PENDING, GRIST_VERDICT_ADMITTED,
   GRIST_VERDICT_OVERRUN, GRIST_VERDICT_REASON, GRIST_VERDICT_CONTEXT, GRIST_VERDICT_SEQ,
   GRIST_VERDICT_EST_EST, GRIST_REQ0_REQ, GRIST_REQ1_REQ, GRIST_REQ2_REQ]

/-- Part of the field table: block GRIST. -/
def fieldsGRIST2 : List Field :=
  [GRIST_REQ3_REQ, GRIST_REQ4_REQ, GRIST_REQ1MIN_REQ, GRIST_GRANT_GRANT,
   GRIST_SHARE_GENERAL, GRIST_SHARE_CONSEQ, GRIST_SHARE_BUNDLE, GRIST_SHARE_PLAN,
   GRIST_SHARE_EST]

/-- Part of the field table: block GAUGE. -/
def fieldsGAUGE0 : List Field :=
  [GAUGE_CTRL_KILN_RUN, GAUGE_CTRL_REF_SAMPLE, GAUGE_STATUS_CAL_VALID, GAUGE_STATUS_KILN_URGENT,
   GAUGE_STATUS_KILN_WARN, GAUGE_STATUS_TEMP_HIGH, GAUGE_STATUS_BREACH, GAUGE_STATUS_DIP_LONG,
   GAUGE_STATUS_DIP, GAUGE_STATUS_VCORE_WARN, GAUGE_VCORE_MIN, GAUGE_VCORE_NOW,
   GAUGE_DIP_COUNT, GAUGE_DIP_LAST_MS, GAUGE_HUB_FLOOR, GAUGE_HUB_MEASURED]

/-- Part of the field table: block GAUGE. -/
def fieldsGAUGE1 : List Field :=
  [GAUGE_HUB_DIP_DIP, GAUGE_KILN_SLOWEST_TILE, GAUGE_KILN_MARGIN, GAUGE_SPEED_FLOOR,
   GAUGE_SPEED_MEASURED, GAUGE_DIPT_AGE, GAUGE_DIPT_DIP, GAUGE_TEMP_MAX,
   GAUGE_TEMP_TEMP, GAUGE_FLAGS_SPEED_FAULT, GAUGE_FLAGS_MON_EXCL, GAUGE_FLAGS_BREACH_SEEN,
   GAUGE_FLAGS_BREACH]

/-- Part of the field table: block TILE. -/
def fieldsTILE0 : List Field :=
  [TILE_ID_DIE, TILE_ID_TILE, TILE_STATE_DMA_BUSY, TILE_STATE_CONTEXT,
   TILE_STATE_PARTS, TILE_STATE_STATE, TILE_CTRL_BIST_START, TILE_CTRL_ONLINE,
   TILE_CTRL_DRAIN, TILE_ERR_CTRL_IGNORED, TILE_ERR_NUMERIC, TILE_ERR_OP_INVALID,
   TILE_ERR_DMA, TILE_ERR_SEQ, TILE_ERR_LANE, TILE_ERR_UE]

/-- Part of the field table: block TILE. -/
def fieldsTILE1 : List Field :=
  [TILE_ERR_CE, TILE_CE_COUNT_COUNT, TILE_UE_ADDR_VALID, TILE_UE_ADDR_WORD,
   TILE_RETRIES_ABANDONED, TILE_RETRIES_RETRIED, TILE_CUR_OP_CONTEXT, TILE_CUR_OP_PART,
   TILE_CUR_OP_OP, TILE_BIST_DONE, TILE_BIST_PASS, TILE_BIST_STEP,
   TILE_BIST_ELAPSED]

/-- Part of the field table: block LE. -/
def fieldsLE0 : List Field :=
  [LE_CTRL_CMDLOG_EN, LE_CTRL_RECHECK, LE_STATUS_ENABLED, LE_STATUS_RUN,
   LE_STATUS_DATAPATH_FAULT, LE_STATUS_LATE_RISK, LE_STATUS_COPY_BUSY, LE_STATUS_TRAJ_END,
   LE_STATUS_TRAJ_STALE, LE_STATUS_TRAJ_PENDING, LE_STATUS_TRAJ_ACTIVE, LE_IRQ_TRAJ_REFUSED,
   LE_IRQ_DATAPATH_FAULT, LE_IRQ_TG_DONE, LE_IRQ_CAP_DONE, LE_IRQ_LATE_RISK]

/-- Part of the field table: block LE. -/
def fieldsLE1 : List Field :=
  [LE_IRQ_SLOT_RETIRED, LE_IRQ_TRAJ_STALE, LE_IRQ_TRAJ_SWITCH, LE_IRQ_OVERRUN,
   LE_IRQ_LATE, LE_IRQ_EN_EN, LE_CAPACITY_FLOOR, LE_CAPACITY_DIP,
   LE_SW_TRIG_SLOT, LE_PROG_SEL_BANK, LE_PROG_SEL_SLOT, LE_PROG_SEL_STEP,
   LE_PROG_LO_LO, LE_PROG_HI_HI, LE_TRAJ_SRC_SRC, LE_TRAJ_COMMIT_COMMIT]

/-- Part of the field table: block LE. -/
def fieldsLE2 : List Field :=
  [LE_TRAJ_STATUS_REPLACED, LE_TRAJ_STATUS_CAUSE, LE_TRAJ_STATUS_LATE_SWITCH, LE_TRAJ_STATUS_REFUSED,
   LE_CMDLOG_BASE_BASE, LE_CMDLOG_HEAD_HEAD, LES_CFG_SPARE_EN, LES_CFG_SPARE,
   LES_CFG_STEPS, LES_CFG_DEADLINE, LES_CFG_PRIO, LES_TRIG_KIND,
   LES_TRIG_ARG, LES_PERIOD_PERIOD_US, LES_PHASE_PHASE_US, LES_LEAD_LEAD_US]

/-- Part of the field table: block LE. -/
def fieldsLE3 : List Field :=
  [LES_CTRL_CTRL_RETURN, LES_CTRL_CTRL_TEST, LES_CTRL_CTRL_COMMIT, LES_CTRL_ENABLE,
   LES_STAT_STATE, LES_STAT_BIST_PASS, LES_STAT_LATE_RISK, LES_STAT_SHADOW_DIRTY,
   LES_STAT_LATE, LES_STAT_OVERRUN, LES_STAT_SAT, LES_BOUND_LAST,
   LES_BOUND_BOUND, LEL_RANGE_MAX, LEL_RANGE_MIN, LEL_RATE_RATE]

/-- Part of the field table: block LE. -/
def fieldsLE4 : List Field :=
  [LEL_WRAP_ANGLE_WRAP, LEL_SECTOR_END, LEL_SECTOR_START, LE_WORD_WORD,
   TG_CFG_KIND, TG_CFG_OWNER, TG_CFG_ORDER, TG_CFG_HOLD,
   TG_AMP_OFFSET, TG_AMP_AMP, TG_F0_F0, TG_F1_F1,
   TG_TIME_TIME, TG_SEED_SEED, TG_CTRL_STOP, TG_CTRL_START]

/-- Part of the field table: block LE. -/
def fieldsLE5 : List Field :=
  [TG_STATUS_COUNT, TG_STATUS_DONE, TG_STATUS_SETTLING, TG_STATUS_RUNNING,
   CAP_BASE_BASE, CAP_CFG_FORMAT, CAP_CFG_MODE, CAP_CFG_OWNER,
   CAP_CFG_COUNT, CAP_CTRL_STOP, CAP_CTRL_ARM, CAP_STATUS_ARMED,
   CAP_STATUS_DONE, CAP_STATUS_WRAPPED, CAP_STATUS_ERR, CAP_STATUS_TAKEN]

/-- Part of the field table: block LE. -/
def fieldsLE6 : List Field :=
  [CAP_IGNORED_COUNT, CAP_T0_NS_NS, CAP_T0_S_S]

/-- Part of the field table: block LT. -/
def fieldsLT0 : List Field :=
  [LT_CTRL_RECHECK, LT_STATUS_POOL_REFUSED, LT_STATUS_DATAPATH_FAULT, LT_STATUS_LOAD_RISK,
   LT_STATUS_ENABLED, LT_IRQ_DATAPATH_FAULT, LT_IRQ_CHANNEL_RETIRED, LT_IRQ_LOAD_RISK,
   LT_IRQ_FRAME_ERR, LT_IRQ_CLOCK_LOST, LT_IRQ_SWAP_REPLACED, LT_IRQ_FADE_DONE,
   LT_IRQ_SETTLED, LT_IRQ_THRESHOLD, LT_IRQ_EN_EN, LT_LOAD_CAP]

/-- Part of the field table: block LT. -/
def fieldsLT1 : List Field :=
  [LT_LOAD_LOAD, LT_SYNC_MASK, LT_SYNC_ARM_PPS, LT_SYNC_ARM_ARMED,
   LT_SYNC_ARM_SOURCE, LT_SYNC_MASK_MASK, LT_SYNC_AT_SECOND, LT_POOL_ADDR_ENTRY,
   LT_POOL_DATA_COEF, LT_EVT_BASE_BASE, LT_EVT_HEAD_COUNT, LT_EVT_HEAD_INDEX,
   SC_CFG_CLKDIV, SC_CFG_CLK_SRC, SC_CFG_EDGE, SC_CFG_POL]

/-- Part of the field table: block LT. -/
def fieldsLT2 : List Field :=
  [SC_CFG_MODE, SC_FIN_FIN_MAX, SC_COMB_DECIM, SC_COMB_SHIFT,
   SC_COMB_ORDER, SC_FIR_TAPS, SC_FIR_TAP_BASE, SC_GD_GD_B,
   SC_GD_GD_A, SC_SWAP_REQ, SC_SWAP_LEN, SC_RING_BASE_BASE,
   SC_RING_CFG_LOG2, SC_RING_HEAD_HEAD, SC_CTRL_CTRL_RETURN, SC_CTRL_CTRL_TEST]

/-- Part of the field table: block LT. -/
def fieldsLT3 : List Field :=
  [SC_CTRL_ENABLE, SC_STATUS_STATE, SC_STATUS_BIST_PASS, SC_STATUS_FADING,
   SC_STATUS_SWAP_PENDING, SC_STATUS_BANK, SC_STATUS_GD_CHANGED, SC_STATUS_UNALIGNED,
   SC_STATUS_RATE_HIGH, SC_STATUS_CFG_IGNORED, SC_STATUS_CFG_CAUSE, SC_STATUS_CMP_ACTIVE,
   SC_EPOCH_EPOCH, SC_INDEX_INDEX, SC_LAST_VALUE, SC_T_IN_T_IN]

/-- Part of the field table: block LT. -/
def fieldsLT4 : List Field :=
  [SC_COUNTS_SWAP_REPLACED, SC_COUNTS_FRAME_ERR, SC_CMP_LEVEL_LEVEL, SC_CMP_HYST_HYST,
   SC_CMP_CFG_PERSIST, SC_CMP_CFG_MODE, SC_CMP_STAT_EVENTS, SC_CMP_STAT_COUNT,
   SC_CMP_STAT_EVENT_SEEN, SC_CMP_STAT_ACTIVE]

/-- Part of the field table: block PF. -/
def fieldsPF0 : List Field :=
  [PF_STATUS_OSC_FAULT, PF_STATUS_ENABLED, PF_IRQ_OSC_FAULT, PF_IRQ_RETIRED,
   PF_IRQ_FAULT, PF_IRQ_COMPARE, PF_IRQ_INDEX, PF_IRQ_SERIAL,
   PF_IRQ_EN_EN, PF_EVT_BASE_BASE, PF_EVT_HEAD_COUNT, PF_EVT_HEAD_INDEX,
   PFC_CFG_VIEW_SAT, PFC_CFG_PT_MODE, PFC_CFG_GATE_AB, PFC_CFG_INDEX_GATE]

/-- Part of the field table: block PF. -/
def fieldsPF1 : List Field :=
  [PFC_CFG_INDEX_EN, PFC_CFG_INV_DIR, PFC_CFG_MODE, PFC_FILTER_MIN_EDGE,
   PFC_INDEX_INDEX_TOL, PFC_INDEX_CPR, PFC_SPEEDCFG_CHG_EDGES, PFC_SPEEDCFG_WIN_US,
   PFC_ZERO_ZERO_MS, PFC_SER_CFG_LINE_DELAY, PFC_SER_CFG_START_TIMEOUT, PFC_SER_CFG_SER_DIV,
   PFC_SER_CFG_POS_BITS, PFC_SER_TIME_LATCH_NS, PFC_SER_PERIOD_PERIOD_US, PFC_SER_PHASE_PHASE_US]

/-- Part of the field table: block PF. -/
def fieldsPF2 : List Field :=
  [PFC_P_SCALE_P_SCALE, PFC_P_OFF_LO_P_OFF, PFC_P_OFF_HI_P_OFF, PFC_V_FULL_V_FULL,
   PFC_EMU_EMU_MIN, PFC_EMU_EMU_SHIFT, PFC_CTRL_SET_POS, PFC_CTRL_CTRL_RETURN,
   PFC_CTRL_CTRL_TEST, PFC_CTRL_ENABLE, PFC_STATUS_STATE, PFC_STATUS_BIST_PASS,
   PFC_STATUS_UNCERTAIN, PFC_STATUS_STANDSTILL, PFC_STATUS_METHOD, PFC_STATUS_DIRECTION]

/-- Part of the field table: block PF. -/
def fieldsPF3 : List Field :=
  [PFC_STATUS_EMU_LAG, PFC_STATUS_WARN, PFC_STATUS_CFG_IGNORED, PFC_STATUS_CFG_CAUSE,
   PFC_STATUS_LINE_OPEN, PFC_FAULT_FAULT, PFC_POS_LO_POS, PFC_POS_HI_POS,
   PFC_SPEED_SPEED, PFC_TS_NS_NS, PFC_TS_S_S, PFC_INDEX_VAL_INDEX_VALUE,
   PFC_INDEX_CORR_CORR, PFC_SER_RAW_RAW, PFC_COUNTS1_GLITCH, PFC_COUNTS1_ILLEGAL]

/-- Part of the field table: block PF. -/
def fieldsPF4 : List Field :=
  [PFC_COUNTS2_SER_FAULTS, PFC_COUNTS2_DIR_INDEX, PFC_PRESET_LO_PRESET, PFC_PRESET_HI_PRESET,
   PFCMP_POS_LO_C, PFCMP_POS_HI_C, PFCMP_INTERVAL_INTERVAL, PFCMP_CFG_PERIODIC,
   PFCMP_CFG_FIRE_IF_PASSED, PFCMP_CFG_DIR, PFCMP_CFG_DISARM, PFCMP_CFG_ARM,
   PFCMP_STAT_FIRES, PFCMP_STAT_PASSED, PFCMP_STAT_FIRED, PFCMP_STAT_ARMED_BEHIND]

/-- Part of the field table: block PF. -/
def fieldsPF5 : List Field :=
  [PFCMP_STAT_ARMED, PFCMP_TS_NS_NS, PFCMP_TS_S_S]

/-- Part of the field table: block TU. -/
def fieldsTU0 : List Field :=
  [TU_CTRL_SNAP, TU_STATUS_PIPE_RUN, TU_STATUS_PLL_LOCK, TU_STATUS_STATE,
   TU_IRQ_PPS, TU_IRQ_STATE, TU_IRQ_STEP, TU_IRQ_EN_EN,
   TU_SNAP_SEQ_SEQ, TB_COUNT_COUNT, TB_NS_NS, TB_SEC_LO_SEC,
   TB_SEC_HI_SEC, TB_RATE_RATE, TB_STEP_SEC_STEP_SEC, TB_STEP_NS_STEP_NS]

/-- Part of the field table: block TU. -/
def fieldsTU1 : List Field :=
  [TB_CTRL_STEP, TB_STATUS_STEP_GEN, TB_STATUS_STEP_REFUSED, TB_STATUS_STATE,
   SNAP_COUNT_COUNT, SNAP_NS_NS, SNAP_SEC_LO_SEC, SNAP_GEN_HI_STEP_GEN,
   SNAP_GEN_HI_SEC_HI, SNAP_RATE_RATE, PPI_CFG_BASE, PPI_CFG_EDGE,
   PPI_CFG_ENABLE, PPI_CAP_NS_NS, PPI_CAP_SEC_LO_SEC, PPI_CAP_SEC_HI_SEC]

/-- Part of the field table: block TU. -/
def fieldsTU2 : List Field :=
  [PPI_COUNTS_MISSED, PPI_COUNTS_QUALIFIED, PPO_CFG_BASE, PPO_CFG_POLARITY,
   PPO_CFG_ENABLE, PPO_WIDTH_WIDTH_US, PPO_OFFSET_OFFSET_NS]

/-- Part of the field table: block CAN. -/
def fieldsCAN0 : List Field :=
  [CAN_CTRL_CTRL_RETURN, CAN_CTRL_CTRL_TEST, CAN_CTRL_RECOVER, CAN_CTRL_GATE_FEED,
   CAN_CTRL_TAP_EN, CAN_CTRL_PEX, CAN_CTRL_ECHO, CAN_CTRL_MODE,
   CAN_STATUS_STATE, CAN_STATUS_ERR_STATE, CAN_STATUS_WARNING, CAN_STATUS_ALONE,
   CAN_STATUS_RECOVERING, CAN_STATUS_BIST_PASS, CAN_STATUS_CFG_IGNORED, CAN_STATUS_TX_REQ_IGNORED]

/-- Part of the field table: block CAN. -/
def fieldsCAN1 : List Field :=
  [CAN_STATUS_TX_WRITE_REJECT, CAN_STATUS_LAST_ERR, CAN_STATUS_CFG_CAUSE, CAN_IRQ_RETIRED,
   CAN_IRQ_RX_LOST, CAN_IRQ_BUS_OFF, CAN_IRQ_ALONE, CAN_IRQ_ERR_STATE,
   CAN_IRQ_CANCEL_FAIL, CAN_IRQ_CANCELLED, CAN_IRQ_TX_FAILED, CAN_IRQ_TX_DONE,
   CAN_IRQ_RX, CAN_IRQ_EN_EN, CAN_NBT_BRP, CAN_NBT_TSEG1]

/-- Part of the field table: block CAN. -/
def fieldsCAN2 : List Field :=
  [CAN_NBT_TSEG2, CAN_NBT_SJW, CAN_DBT_BRP, CAN_DBT_TSEG1,
   CAN_DBT_TSEG2, CAN_DBT_SJW, CAN_TDC_TDC_EN, CAN_TDC_TDC_OFFSET,
   CAN_ECNT_ACK_RUN, CAN_ECNT_REC, CAN_ECNT_TEC, CAN_TSCNT_COUNT,
   CAN_RX_BASE_BASE, CAN_RX_CFG_IRQ_TIME, CAN_RX_CFG_IRQ_COUNT, CAN_RX_CFG_LOG2]

/-- Part of the field table: block CAN. -/
def fieldsCAN3 : List Field :=
  [CAN_RX_HEAD_HEAD, CAN_RX_TAIL_TAIL, CAN_RX_LOST_LOST, CAN_TX_REQ_REQ,
   CAN_TX_PEND_PEND, CAN_TX_CANCEL_CANCEL, CAN_TX_DONE_DONE, CAN_TX_FAILED_FAILED,
   CAN_TX_CANCELLED_CANCELLED, CAN_TX_CANCEL_FAIL_CANCEL_FAIL, CAN_ERRS1_BIT, CAN_ERRS1_STUFF,
   CAN_ERRS1_FORM, CAN_ERRS1_CRC, CAN_ERRS2_ACK, CAN_ERRS2_BUS_OFF]

/-- Part of the field table: block CAN. -/
def fieldsCAN4 : List Field :=
  [CAN_ALARM_SHARE_SHARE]

/-- Part of the field table: block EM. -/
def fieldsEM0 : List Field :=
  [EM_CTRL_CTRL_RETURN, EM_CTRL_CTRL_TEST, EM_CTRL_SPEED100, EM_CTRL_INTERFACE,
   EM_CTRL_ENABLE, EM_STATUS_STATE, EM_STATUS_LINK, EM_STATUS_BIST_PASS,
   EM_STATUS_CFG_IGNORED, EM_STATUS_CLASS, EM_IRQ_ZDP_DROP, EM_IRQ_RETIRED,
   EM_IRQ_LINK, EM_IRQ_RX_LOST, EM_IRQ_TX_DONE, EM_IRQ_RX]

/-- Part of the field table: block EM. -/
def fieldsEM1 : List Field :=
  [EM_IRQ_EN_EN, EM_ADDR_LO_ADDR, EM_ADDR_HI_ADDR, EM_IPV4_IP,
   EM_NET_PREFIX, EM_NET_VLAN, EM_GW_GW, EM_RX_BASE_BASE,
   EM_RX_CFG_LOG2, EM_RX_HEAD_HEAD, EM_RX_TAIL_TAIL, EM_RX_LOST_LOST,
   EM_TX_BASE_BASE, EM_TX_CFG_LOG2, EM_TX_HEAD_HEAD, EM_TX_TAIL_TAIL]

/-- Part of the field table: block EM. -/
def fieldsEM2 : List Field :=
  [EM_ALARM_SHARE_SHARE, EM_TS_CORR_RX_EXTRA, EM_TS_CORR_TX_EXTRA, EM_ASYM_ASYMMETRY,
   EM_ZDP_DROP_COUNT]

/-- Part of the field table: block XL. -/
def fieldsXL0 : List Field :=
  [XL_CTRL_CTRL_RETURN, XL_CTRL_CTRL_TEST, XL_CTRL_ENABLE, XL_STATUS_STATE,
   XL_STATUS_LINK, XL_STATUS_BIST_PASS, XL_STATUS_CFG_IGNORED, XL_STATUS_PEER_NODE,
   XL_IRQ_CRC, XL_IRQ_RETIRED, XL_IRQ_LINK, XL_IRQ_RX_LOST,
   XL_IRQ_TX_DONE, XL_IRQ_RX, XL_IRQ_EN_EN, XL_RX_BASE_BASE]

/-- Part of the field table: block XL. -/
def fieldsXL1 : List Field :=
  [XL_RX_CFG_LOG2, XL_RX_HEAD_HEAD, XL_RX_TAIL_TAIL, XL_TX_BASE_BASE,
   XL_TX_CFG_LOG2, XL_TX_HEAD_HEAD, XL_TX_TAIL_TAIL, XL_CRC_ERR_COUNT,
   XL_ALARM_SHARE_SHARE]

/-- Part of the field table: block SU. -/
def fieldsSU0 : List Field :=
  [SU_CTRL_CTRL_RETURN, SU_CTRL_CTRL_TEST, SU_CTRL_STOP2, SU_CTRL_PARITY,
   SU_CTRL_DATA7, SU_CTRL_MODE, SU_CTRL_ENABLE, SU_BAUD_DIV,
   SU_STATUS_STATE, SU_STATUS_BIST_PASS, SU_STATUS_CFG_IGNORED, SU_STATUS_CLASS,
   SU_IRQ_RETIRED, SU_IRQ_PARITY, SU_IRQ_FRAMING, SU_IRQ_OVERRUN]

/-- Part of the field table: block SU. -/
def fieldsSU1 : List Field :=
  [SU_IRQ_TX_EMPTY, SU_IRQ_STAMP, SU_IRQ_RX, SU_IRQ_EN_EN,
   SU_RX_BASE_BASE, SU_RX_CFG_LOG2, SU_RX_HEAD_HEAD, SU_RX_TAIL_TAIL,
   SU_TS_BASE_BASE, SU_TS_HEAD_HEAD, SU_TS_TAIL_TAIL, SU_TX_BASE_BASE,
   SU_TX_CFG_LOG2, SU_TX_HEAD_HEAD, SU_TX_TAIL_TAIL, SU_ERRS_LOST]

/-- Part of the field table: block SU. -/
def fieldsSU2 : List Field :=
  [SU_ERRS_OVERRUN, SU_ERRS_PARITY, SU_ERRS_FRAMING]

/-- Part of the field table: block CNT. -/
def fieldsCNT0 : List Field :=
  [CNT_CTRL_EN, CNT_CTRL_CLEAR_ALL, CNT_CTRL_ARM_AT, CNT_CTRL_SNAP,
   CNT_STATUS_SNAP_SEQ, CNT_STATUS_SNAP_LATE, CNT_STATUS_SNAP_MISSED, CNT_STATUS_SNAP_IGNORED,
   CNT_STATUS_ARMED, CNT_STATUS_SNAP_BUSY, CNT_IRQ_HIST_SAT, CNT_IRQ_OVF,
   CNT_IRQ_SNAP_DONE, CNT_IRQ_EN_EN, CNT_AT_NS_NS, CNT_AT_SEC_LO_SEC]

/-- Part of the field table: block CNT. -/
def fieldsCNT1 : List Field :=
  [CNT_AT_SEC_HI_SEC, CNT_PERIOD_SNAP_PERIOD_MS, CNT_SNAP_NS_NS, CNT_SNAP_SEC_LO_SEC,
   CNT_SNAP_SEC_HI_STEP_GEN, CNT_SNAP_SEC_HI_SEC, CNT_OVF_OVF, CNT_SOVF_OVF,
   CNT_EV_CFG_EN, CNT_EV_CFG_CHAIN, CNT_EV_CFG_SEL_INVALID, CNT_EV_CFG_FILTER,
   CNT_EV_CFG_EVENT, CNT_EV_LO_COUNT, CNT_EV_HI_COUNT, CNT_SEV_LO_COUNT]

/-- Part of the field table: block CNT. -/
def fieldsCNT2 : List Field :=
  [CNT_SEV_HI_COUNT, CNT_H_CFG_EN, CNT_H_CFG_SHIFT, CNT_H_CFG_FILTER,
   CNT_H_CFG_SOURCE, CNT_H_TOTAL_LO_TOTAL, CNT_H_TOTAL_HI_TOTAL, CNT_H_MAX_MAX,
   CNT_H_SUM_LO_SUM, CNT_H_SUM_HI_SUM, CNT_H_BIN_COUNT, CNT_SH_CFG_EN,
   CNT_SH_CFG_SHIFT, CNT_SH_CFG_FILTER, CNT_SH_CFG_SOURCE, CNT_SH_TOTAL_LO_TOTAL]

/-- Part of the field table: block CNT. -/
def fieldsCNT3 : List Field :=
  [CNT_SH_TOTAL_HI_TOTAL, CNT_SH_MAX_MAX, CNT_SH_SUM_LO_SUM, CNT_SH_SUM_HI_SUM,
   CNT_SH_BIN_COUNT]

/-- Part of the field table: block HL. -/
def fieldsHL0 : List Field :=
  [HL_CTRL_SCRUB_NOW, HL_STATUS_SPARES_FREE, HL_STATUS_RETIRED, HL_IRQ_SCRUB_DONE,
   HL_IRQ_SUB_LOST, HL_IRQ_OVERFLOW, HL_IRQ_ALARM, HL_IRQ_SPARED,
   HL_IRQ_TEST_DONE, HL_IRQ_RETURNED, HL_IRQ_RETIRED, HL_IRQ_EN_EN,
   HL_SEL_SLOT, HL_UNIT_STATE, HL_UNIT_CAUSE, HL_UNIT_RETIRE_COUNT]

/-- Part of the field table: block HL. -/
def fieldsHL1 : List Field :=
  [HL_UNIT_COUNT, HL_ACTION_ACTION, HL_ACTION_SLOT, HL_ACT_STATUS_BUSY,
   HL_ACT_STATUS_RESULT, HL_RAISE_CLASS, HL_RAISE_SRC, HL_ASEQ_ASEQ,
   HL_OVERFLOW_HELD, HL_EVT_HEAD_HEAD, HL_COALESCING_KEYS, HL_TRACE_LOST_COUNT,
   HL_SCRUB_PERIOD_MIN, HL_SCRUB_PASSES, HL_RING_HEAD_RHEAD]

/-- Part of the field table: block CG. -/
def fieldsCG0 : List Field :=
  [CG_CTRL_SEND, CG_STATUS_GATE, CG_STATUS_HOLDER_VALID, CG_STATUS_SAFE,
   CG_STATUS_FENCED, CG_IRQ_PROBE, CG_IRQ_FENCE, CG_IRQ_SAFE,
   CG_IRQ_SWITCH, CG_IRQ_REFUSED, CG_IRQ_CEIL_CHANGE, CG_IRQ_CLAIM_CHANGE,
   CG_IRQ_EN_EN, CG_CLAIM_REQ_RANK, CG_CLAIM_REQ_HEALTH, CG_CEILING_RANK_CEIL]

/-- Part of the field table: block CG. -/
def fieldsCG1 : List Field :=
  [CG_CEILING_HEALTH_CEIL, CG_CEILING_CAUSES, CG_CLAIM_CLAIM, CG_CFG_EPOCH,
   CG_CFG_SET_ID, CG_CFG_INDEX, CG_CFG_LEASE_MS, CG_MEMBER01_VALID1,
   CG_MEMBER01_MEMBER1, CG_MEMBER01_VALID0, CG_MEMBER01_MEMBER0, CG_MEMBER2_LEADER_INDEX,
   CG_MEMBER2_VALID2, CG_MEMBER2_MEMBER2, CG_SENT_COUNT, CG_HOLDER_CLAIM]

/-- Part of the field table: block CG. -/
def fieldsCG2 : List Field :=
  [CG_HOLDER_NODE_EPOCH_VALID, CG_HOLDER_NODE_EPOCH_HI, CG_HOLDER_NODE_NODE, CG_LEFT_LEFT,
   CG_GCFG_FENCE_S, CG_GCFG_CROSS_EN, CG_GCFG_NOLEASE_HOLD_MS, CG_CROSS_CROSS_BOUND,
   CG_REFUSE_COUNT, CG_SWITCHES_COUNT, CG_PROBE_RESULT, CG_PROBE_THRUSTER,
   CG_PROBE_NODE, CGL_RANGE_MAX, CGL_RANGE_MIN, CGL_WRAP_ANGLE_WRAP]

/-- Part of the field table: block CG. -/
def fieldsCG3 : List Field :=
  [CGL_SAFE_SAFE_THRUST, CGL_SAFE_SAFE_DRIVE, CGL_SAFE_AUX_SAFE_AUX, CGL_SECTOR_END,
   CGL_SECTOR_START, CGS_QUEUE_QUEUE, CGS_QUEUE_LAST_CAUSE, CGS_ACCEPTED_ACCEPTED,
   CGS_LATE_LATE_ARRIVAL, CGS_LATE_IGNORED, CGS_LAST_APP_LAST_APP_NS]

/-- Part of the field table: block SM. -/
def fieldsSM0 : List Field :=
  [SM_CTRL_RX_ACK, SM_CTRL_SEND, SM_STATUS_ALIVE, SM_STATUS_TX_BUSY,
   SM_STATUS_RX_VALID, SM_STATUS_HUB_LOST_SEEN, SM_STATUS_SEND_IGNORED, SM_STATUS_STATE,
   SM_IRQ_DEAD, SM_IRQ_LOG, SM_IRQ_FAULT, SM_IRQ_TRIP,
   SM_IRQ_STATUS_CHANGE, SM_IRQ_TX_DONE, SM_IRQ_RX, SM_IRQ_EN_EN]

/-- Part of the field table: block SM. -/
def fieldsSM1 : List Field :=
  [SM_HB_HB, SM_TX_LEN_LEN, SM_RX_LEN_LEN, SM_DROPPED_DIE_DROPPED,
   SM_DROPPED_HUB_DROPPED, SM_OUTPUTS_FAULTED, SM_OUTPUTS_TRIPPED, SM_OUTPUTS_ENERGIZED,
   SM_SF1_MASK, SM_ZONES_SF3_OWN, SM_ZONES_SF3_RED, SM_ZONES_DEMAND,
   SM_ZONES_ACTIVE, SM_CAUSES_CAUSES, SM_CCV_CCV, SM_TX_DATA]

/-- Part of the field table: block SM. -/
def fieldsSM2 : List Field :=
  [SM_RX_DATA]

/-- Part of the field table: block JE. -/
def fieldsJE0 : List Field :=
  [JE_CTRL_FETCH, JE_STATUS_STATE, JE_STATUS_APPLY_OPEN, JE_STATUS_SEQUENCER,
   JE_STATUS_APPLY_IGNORED, JE_STATUS_SEQ_VALID, JE_STATUS_SEQ_NODE, JE_IRQ_APPLY_SLOW,
   JE_IRQ_DROPPED, JE_IRQ_CASK_FAULT, JE_IRQ_FORK, JE_IRQ_SPARGE_DONE,
   JE_IRQ_PAUSED, JE_IRQ_HELD, JE_IRQ_SEQ_CHANGE, JE_IRQ_COMMIT]

/-- Part of the field table: block JE. -/
def fieldsJE1 : List Field :=
  [JE_IRQ_APPLY_READY, JE_IRQ_EN_EN, JE_OSN_HIGH_LO_OSN, JE_OSN_HIGH_HI_OSN,
   JE_OSN_COMMIT_LO_OSN, JE_OSN_COMMIT_HI_OSN, JE_OSN_APPLIED_LO_OSN, JE_OSN_APPLIED_HI_OSN,
   JE_OSN_OLDEST_LO_OSN, JE_OSN_OLDEST_HI_OSN, JE_HOLD_DROPPED, JE_HOLD_HELD,
   JE_APPLY_REC_VALID, JE_APPLY_REC_NREC, JE_APPLY_REC_SLOT, JE_APPLY_ADDR_ADDR]

/-- Part of the field table: block JE. -/
def fieldsJE2 : List Field :=
  [JE_APPLY_DATA_DATA, JE_APPLY_PDICT_PERSIST, JE_APPLY_PDICT_OFFSET, JE_APPLY_DONE_OUTCOME,
   JE_DUPS_IN_FLIGHT, JE_DUPS_WINDOW]

/-- Part of the field table: block SUP. -/
def fieldsSUP0 : List Field :=
  [SUP_IDCODE_STEP_MAJOR, SUP_IDCODE_STEP_MINOR, SUP_IDCODE_PART, SUP_IDCODE_FAMILY,
   SUP_STRAP_ROLE_FAULT, SUP_STRAP_ROLE, SUP_STRAP_PORT_PROF_FAULT, SUP_STRAP_PORT_PROF,
   SUP_RESET_CAUSE_CAUSE, SUP_BOOT_FAIL_B, SUP_BOOT_FAIL_A, SUP_BOOT_CONFIRM,
   SUP_BOOT_CONFIRMED, SUP_BOOT_TRIAL_ACTIVE, SUP_BOOT_FALLBACK, SUP_BOOT_SLOT]

/-- Part of the field table: block SUP. -/
def fieldsSUP1 : List Field :=
  [SUP_TRIAL_LEFT_S, SUP_WDT_CFG_EN, SUP_WDT_CFG_CORE_MASK, SUP_WDT_CFG_TIMEOUT_MS,
   SUP_WDT_KICK_KICK, SUP_RESTART_KEY, SUP_IRQ_ROUTE_LEVEL, SUP_IRQ_ROUTE_CORE_MASK,
   SUP_IRQ_CLAIM_SOURCE]

/-- Every field of every register of the hub. -/
def table : List Field :=
  fieldsGRIST0 ++ fieldsGRIST1 ++ fieldsGRIST2 ++ fieldsGAUGE0 ++
  fieldsGAUGE1 ++ fieldsTILE0 ++ fieldsTILE1 ++ fieldsLE0 ++
  fieldsLE1 ++ fieldsLE2 ++ fieldsLE3 ++ fieldsLE4 ++
  fieldsLE5 ++ fieldsLE6 ++ fieldsLT0 ++ fieldsLT1 ++
  fieldsLT2 ++ fieldsLT3 ++ fieldsLT4 ++ fieldsPF0 ++
  fieldsPF1 ++ fieldsPF2 ++ fieldsPF3 ++ fieldsPF4 ++
  fieldsPF5 ++ fieldsTU0 ++ fieldsTU1 ++ fieldsTU2 ++
  fieldsCAN0 ++ fieldsCAN1 ++ fieldsCAN2 ++ fieldsCAN3 ++
  fieldsCAN4 ++ fieldsEM0 ++ fieldsEM1 ++ fieldsEM2 ++
  fieldsXL0 ++ fieldsXL1 ++ fieldsSU0 ++ fieldsSU1 ++
  fieldsSU2 ++ fieldsCNT0 ++ fieldsCNT1 ++ fieldsCNT2 ++
  fieldsCNT3 ++ fieldsHL0 ++ fieldsHL1 ++ fieldsCG0 ++
  fieldsCG1 ++ fieldsCG2 ++ fieldsCG3 ++ fieldsSM0 ++
  fieldsSM1 ++ fieldsSM2 ++ fieldsJE0 ++ fieldsJE1 ++
  fieldsJE2 ++ fieldsSUP0 ++ fieldsSUP1

/-- Fields whose reset value differs from one element of an array to the next: the default histograms of
17_counters.md in CNT_Hh_CFG. The register file after a reset lists these. -/
def resetValues : List (Nat × Nat) :=
  [(34381234176, 1), (34381234188, 0), (34381234200, 10), (34381234207, 1), (34381242368, 1), (34381242380, 1), (34381242392, 10), (34381242399, 1)] ++
  [(34381250560, 1), (34381250572, 2), (34381250584, 10), (34381250591, 1), (34381258752, 1), (34381258764, 3), (34381258776, 10), (34381258783, 1)] ++
  [(34381266944, 1), (34381266956, 4), (34381266968, 10), (34381266975, 1), (34381275136, 2), (34381275160, 4), (34381275167, 1), (34381283328, 3)] ++
  [(34381283352, 6), (34381283359, 1), (34381291520, 4), (34381291544, 6), (34381291551, 1), (34381299712, 5), (34381299736, 6), (34381299743, 1)] ++
  [(34381307904, 6), (34381307928, 6), (34381307935, 1), (34381316096, 7), (34381316120, 2), (34381316127, 1), (34381324288, 8), (34381324312, 2)] ++
  [(34381324319, 1), (34381332480, 9), (34381332511, 1)]

end Reg

end Sys2Proof.Machine
end

