-- ==== Sys2Proof/Machine/TypesFabric.lean ====
section
/-! DEFINITION. What Gauge, Grist, the Mash fabric and the pipeline keep beside their registers
(01_architecture.md, 02_clockless_timing_admission.md, 03_solver_fabric.md). -/

namespace Sys2Proof.Machine

/-! ### Gauge -/

/-- A tile as Gauge keeps it. -/
structure GaugeTile where
  /-- Windows in a row for which each monitor has deviated (R57). -/
  deviates : List Nat := [0, 0, 0, 0]
  /-- Windows in a row below the floor factor outside a dip, and below the dip factor. -/
  belowFloor : Nat := 0
  belowDip : Nat := 0
  /-- TB3 time, ns, at which the breach began. -/
  breachAt : Option Nat := none
  /-- TB3 time, ns, since which the measured factor has been at or above the floor factor. -/
  okSince : Option Nat := none
  /-- The ALARM of this breach has been raised. -/
  alarmed : Bool := false
  /-- Measured age retention (R58). -/
  retention : Rat := 1
  /-- Stress integrals in years. -/
  tauB : Rat := 0
  nuH : Rat := 0
  /-- Fitted coefficients (R68). -/
  aB : Rat := 1 / 20
  aH : Rat := 13 / 2000
  /-- Floor and dip factors at the last re-plan (R69). -/
  planFloor : Nat := 0
  planDip : Nat := 0
  /-- Excluded monitors as kept in Cask (R588), bit k for monitor k. -/
  excluded : Nat := 0
  deriving DecidableEq, Repr

/-- A daily record (R67): the fields of its table; TILES are the bits of three F32 for each tile. -/
structure DailyRec where
  day : Nat
  seconds : Nat
  inService : Nat
  tiles : List (Nat × Nat × Nat)
  deriving DecidableEq, Repr

/-- The summary of a tile (R67): days folded, first and last day folded as (retention, τ_B, ν_H), and the weighted
sums of the normal equations, whose weights the spec does not state. -/
structure Summary where
  days : Nat := 0
  first : Nat × Nat × Nat := (0, 0, 0)
  last : Nat × Nat × Nat := (0, 0, 0)
  sums : List Rat := []
  deriving DecidableEq, Repr

/-- Gauge. -/
structure GaugeSt where
  tiles : Map GaugeTile := []
  /-- Calibration data as read and checked at the last hub reset. -/
  cal : Option Calibration := none
  /-- A reference-monitor sample is due in the next window (GAUGE_CTRL.REF_SAMPLE). -/
  refDue : Bool := false
  /-- TB3 time, ns, of the start of the dip, and whether it is the start-up dip (R566). -/
  dipAt : Nat := 0
  startUp : Bool := true
  /-- Longest dip since reset, ms; dips since reset; lowest VCORE since reset, 0.25 mV. -/
  longest : Nat := 0
  lastMs : Nat := 0
  dips : Nat := 0
  vcoreMin : Nat := 0xFFFF
  /-- Daily ring, newest last, at most 1,792 records, and the summaries by tile (Cask). -/
  ring : List DailyRec := []
  nextDay : Nat := 0
  summaries : Map Summary := []
  deriving DecidableEq, Repr

/-! ### Grist -/

/-- One admission table (R76): the factor used for each tile in service, and its shares by class. -/
structure Table where
  factors : Map Nat := []
  shares : Map (List Nat) := []
  /-- Grants by class, in 0.1 GFLOP/s, and the shedding that the table shows (R79). -/
  grants : List Nat := [0, 0, 0, 0, 0]
  shed : Nat := 0
  deriving DecidableEq, Repr

/-- An open decision of a core (R85). -/
structure Decision where
  /-- Grist-store offset of the head descriptor. -/
  desc : Nat
  /-- TABLE_GEN and dip state when the decision opened. -/
  gen : Nat
  dip : Bool
  /-- TB3 time, ns, of the write. -/
  at_ : Nat
  deriving DecidableEq, Repr

/-- A residual triple RESID_P, RESID_D, GAP as F32 bits. -/
abbrev Resid := Nat × Nat × Nat

/-- A part of an admitted job. -/
structure PartSt where
  tile : Nat
  base : Nat
  pages : Nat
  nops : Nat
  opMax : Nat
  work : Nat
  linkBytes : Nat
  opList : Nat
  /-- Operation to start next. -/
  next : Nat := 0
  /-- Operations whose T stands in the running sum, and that sum (R110). -/
  counted : Nat := 0
  sum : Nat := 0
  /-- Operations that have completed, as a mask, and the sum of their T. -/
  done : Nat := 0
  doneSum : Nat := 0
  /-- First operation of the segment that runs. -/
  seg : Nat := 0
  /-- The reserve has been used by a retry (R92). -/
  reserveUsed : Bool := false
  /-- Operation that is being retried, with the failed attempts it has had. -/
  failing : Option (Nat × Nat) := none
  /-- Every operation has completed. -/
  finished : Bool := false
  /-- The part runs no further operation. -/
  stopped : Bool := false
  /-- Residuals of the last step since the last CKPT, and of the last step. -/
  step : Option Resid := none
  lastStep : Option Resid := none
  deriving DecidableEq, Repr

/-- Where a job stands. -/
inductive JobPhase
  /-- Admitted and not started: RELEASE or the delivery of the previous link is awaited. -/
  | waiting
  | running
  /-- Every part has completed: the result is delivered next. -/
  | complete
  /-- The copy engine assembles the fallback. -/
  | fallback
  deriving DecidableEq, Repr

/-- An admitted job: its descriptor's fields and what Grist keeps for it. Addresses are hub physical. -/
structure JobSt where
  core : Nat
  cls : Nat
  ops : Nat
  fallback : Nat
  irq : Bool
  cutOnFallback : Bool
  stage : Nat
  /-- RELEASE in TB3 ns, 0 for the instant of submission, and the release r that the decision used. -/
  release : Nat
  released : Nat
  deadline : Nat
  resultDst : Nat
  resultBytes : Nat
  fallbackBytes : Nat
  ckptA : Nat
  ckptB : Nat
  ckptBytes : Nat
  completion : Nat
  shiftStride : Nat
  shiftCount : Nat
  shiftSteps : Nat
  accP : Nat
  accD : Nat
  accG : Nat
  tag : Nat
  parts : List PartSt
  /-- T_FB and the cut-off C, in TB3 ns. -/
  tfb : Rat
  cutoff : Rat
  /-- The fallback source as copied at admission (R81); both copies hold it. -/
  source : List Byte
  /-- Contexts of the links before (until its delivery) and after. -/
  prev : Option Nat
  next : Option Nat
  /-- Order of admission. -/
  serial : Nat
  tableGen : Nat
  phase : JobPhase := .waiting
  cause : Nat := 0
  failAt : Nat := 0xFFFFFFFF
  numeric : Nat := 0
  retries : Nat := 0
  relocated : Nat := 0
  deriving DecidableEq, Repr

/-- The accepted mark of a checkpoint buffer pair (R114, R192). -/
structure CkptMark where
  a : Nat
  b : Nat
  /-- The accepted checkpoint lies in the second buffer. -/
  second : Bool
  resid : Resid
  deriving DecidableEq, Repr

/-- Grist. -/
structure GristSt where
  floorT : Table := {}
  dipT : Table := {}
  /-- Open decisions by core. -/
  open_ : Map (Option Decision) := []
  /-- Admitted jobs by context. -/
  jobs : Map (Option JobSt) := []
  serial : Nat := 0
  marks : List CkptMark := []
  /-- Refusals since reset by reason (0xA812). -/
  refused : Map Nat := []
  deriving DecidableEq, Repr

/-! ### Mash -/

/-- An operation that runs on a tile. -/
structure OpRun where
  ctx : Nat
  part : Nat
  op : Nat
  deriving DecidableEq, Repr

/-- What firmware or the health block has made of a tile (R122). -/
inductive TileMode
  | normal | draining | offline | bist
  deriving DecidableEq, Repr

/-- A tile. -/
structure TileSt where
  mode : TileMode := .normal
  /-- The operation that the sequencer runs and waits for. -/
  cur : Option OpRun := none
  /-- ASYNC DMAs that run, in the order of their issue. -/
  dmas : List OpRun := []
  /-- The health block drains the tile for a self-test (R520). -/
  thenBist : Bool := false
  deriving DecidableEq, Repr

/-! ### Pipeline (01_architecture.md) -/

/-- A stage of the pipeline: 1 estimation, 2 visual reference, 3 planning, 4 consequence analysis, 5 vote. -/
structure StageSt where
  /-- Next cycle number. -/
  cycle : Nat := 0
  /-- The cycle released last: its number, TREF, its principal input's cycle and age, the set epoch, and the slots
  that it pins as (producer stage, body address). -/
  current : Nat := 0
  epoch : Nat := 0
  tref : Stamp := {}
  inputCycle : Nat := 0
  inputAge : Nat := 0
  pins : List (Nat × Nat) := []
  /-- FLAGS bits that the firmware knew when it built the cycle. -/
  flags : Nat := 0
  /-- Address of the body of the latest published slot. -/
  latest : Option Nat := none
  /-- CYCLE, FLAGS, TREF and TPUB of that slot. -/
  latestCycle : Nat := 0
  latestFlags : Nat := 0
  latestTref : Stamp := {}
  latestPub : Nat := 0
  deriving DecidableEq, Repr

/-- The pipeline. -/
structure PipeSt where
  stages : Map StageSt := []
  /-- TB0 second of the last 10 s boundary taken. -/
  boundary : Option Nat := none
  /-- Phase objects in force (R36), by subindex of 0xA850. -/
  phases : List Nat := [0, 40, 50, 430, 470, 60, 900, 60, 9800]
  /-- TB3 time, ns, at which the hub became operational. -/
  operationalAt : Option Nat := none
  /-- A grandmaster has been found since reset. -/
  gmFound : Bool := false
  deriving DecidableEq, Repr

/-- Gauge, Grist, the fabric and the pipeline. -/
structure FabricSt where
  gauge : GaugeSt := {}
  grist : GristSt := {}
  tiles : Map TileSt := []
  pipe : PipeSt := {}
  deriving DecidableEq, Repr

end Sys2Proof.Machine
end

