-- ==== Sys2Proof/Machine/TypesHub.lean ====
section
/-! DEFINITION. What the supervisor and the boot ROM keep beside their registers (18_startup_firmware.md,
19_electrical_package.md). -/

namespace Sys2Proof.Machine

/-- A copy of the boot record (R547). -/
structure BootCopy where
  /-- Preferred slot: 0 A, 1 B. -/
  slot : Nat := 0
  /-- The preferred slot is on trial. -/
  trial : Bool := false
  floor : Nat := 0
  /-- Permitted signing key; all zero for none. -/
  pin : List Byte := List.replicate 32 0
  osn : Nat := 0
  deriving DecidableEq, Repr

/-- The header fields of the image that runs, and its signing key. -/
structure ImageInfo where
  version : Nat
  secVersion : Nat
  build : Nat
  key : List Byte
  deriving DecidableEq, Repr

/-- What the boot ROM or the firmware does at the slot that is not booted (0xC020.04). -/
inductive FlashJob
  | idle
  | erasing
  /-- Programming of staged bytes from an offset of the slot. -/
  | programming (offset : Nat) (data : List Byte)
  | checking
  deriving DecidableEq, Repr

/-- The supervisor, the boot ROM and the debug port. -/
structure HubSt where
  /-- The hub is held in reset. -/
  held : Bool := true
  /-- The reset in force, or the last one, is a power-on reset. -/
  por : Bool := true
  /-- An image has been entered since the last hub reset (R553). -/
  entered : Bool := false
  /-- Replay has completed since the last hub reset (R424). -/
  replayed : Bool := false
  /-- The hub is operational (R542). -/
  operational : Bool := false
  /-- Time from t_R to operational at the last start, ms (0xC000.08). -/
  startMs : Nat := 0
  /-- The boot record as the boot ROM read it at the last start: none where neither copy is valid. -/
  record : Option BootCopy := none
  /-- Slots that the boot ROM has still to try (R550). -/
  trying : List Nat := []
  /-- The recovery is that of R516. -/
  bankRecovery : Bool := false
  /-- The two copies of the boot record (Cask), and the copy that is written next. -/
  copyA : BootCopy := {}
  copyB : BootCopy := {}
  writeB : Bool := false
  /-- The image that runs. -/
  image : Option ImageInfo := none
  /-- Bytes of the flash slots A and B; a byte that is not listed is erased. -/
  flash : Map (Map Byte) := []
  job : FlashJob := .idle
  /-- Code of the last check of the idle slot: none while there is none, 0 passed. -/
  check : Option Nat := none
  /-- Codes of the last check of each slot (0xC001). -/
  slotCheck : Map Nat := []
  /-- Bytes programmed since the last erase. -/
  programmed : Nat := 0
  /-- TB3 time, ns, at which the trial timer started, and its length in s (R551). -/
  trial : Option (Nat × Nat) := none
  /-- TB3 time, ns, of the last kick of each watched core (R554). -/
  kicks : Map Nat := []
  /-- Instruction register of the TAP (R580). -/
  tapIr : Nat := 1
  deriving DecidableEq, Repr

end Sys2Proof.Machine
end

