-- ==== Sys2Proof/Machine/TypesLoop.lean ====
section
/-! DEFINITION. What the loop engine and the CAN FD controllers keep beside their registers
(07_loop_engine.md, 11_can_fd.md). -/

namespace Sys2Proof.Machine

/-! ### Loop engine -/

/-- Configuration of a slot: its five shadow registers, or the active copy of them (R244). -/
structure SlotCfg where
  spareEn : Bool := false
  spare : Nat := 0
  steps : Nat := 0
  deadline : Nat := 80
  prio : Nat := 0
  kind : Nat := 0
  arg : Nat := 0
  period : Nat := 1000
  phase : Nat := 0
  lead : Nat := 500
  deriving DecidableEq, Repr

/-- A pending or started activation. -/
structure Activation where
  /-- Trigger time, TB0 ns. -/
  trigger : Nat
  /-- The dispatcher has started it. -/
  started : Bool
  /-- TB3 time, ns, of its start. -/
  startAt : Nat
  deriving DecidableEq, Repr

/-- What a slot does, beside its activations. -/
inductive SlotMode
  | disabled | enabled | draining | offline | bist | retired | sparing
  deriving DecidableEq, Repr

/-- One slot. -/
structure SlotSt where
  mode : SlotMode := .disabled
  cfg : SlotCfg := {}
  /-- Active program, step words from step 0. -/
  program : List Nat := []
  /-- Shadow program by step. -/
  shadow : Map Nat := []
  /-- Validated program and configuration that wait between two activations (R244). -/
  staged : Option (SlotCfg × List Nat) := none
  /-- Locals L0–L15, as 16-bit words. -/
  locals_ : Map Nat := []
  acc0 : Int := 0
  acc1 : Int := 0
  act : Option Activation := none
  /-- Previous accepted trigger time, TB0 ns (R238). -/
  lastTrig : Option Nat := none
  /-- LATE activations in a row (R236). -/
  lateRun : Nat := 0
  /-- Slot for which this one runs as a spare. -/
  standsFor : Option Nat := none
  /-- Handover that waits between two activations: to the spare (true) or back from it (false). -/
  handover : Option Bool := none
  /-- The slot drains for its self-test (R260). -/
  thenBist : Bool := false
  deriving DecidableEq, Repr

/-- A trajectory (R246): the header and the sparse bytes of the 32 thrusters' entries. -/
structure Trajectory where
  mask : Nat
  /-- Valid-from, TB0 ns. -/
  validFrom : Nat
  flags : Nat
  cycle : Nat
  epoch : Nat
  data : Map Byte
  /-- TB0 time, ns, at which the copy completed. -/
  copiedAt : Nat
  deriving DecidableEq, Repr

/-- Limit stage of one thruster (R252): last released values with 8 further fraction bits, and the application
time of the last command. -/
structure LimitSt where
  vlast : List Int := []
  lastApp : Option Nat := none
  deriving DecidableEq, Repr

/-- A test generator (R254). -/
structure GenSt where
  running : Bool := false
  /-- Application time at the first owner trigger after START, TB0 ns. -/
  t0 : Option Nat := none
  /-- Application time of the last evaluation. -/
  last : Nat := 0
  /-- PRBS shift register and owner triggers since the last shift. -/
  lfsr : Nat := 0
  hold : Nat := 0
  deriving DecidableEq, Repr

/-- A capture buffer (R256). -/
structure CapSt where
  /-- Entries still to be taken after the stop; none while it has not stopped. -/
  remaining : Option Nat := none
  /-- Next entry in the buffer. -/
  next : Nat := 0
  /-- Trigger times, TB0 ns, of the entries that the buffer holds, by index. -/
  times : Map Nat := []
  /-- The base ordered by 0x64cc.01 is not 64-byte aligned. -/
  misaligned : Bool := false
  deriving DecidableEq, Repr

/-- The loop engine. -/
structure LoopSt where
  slots : Map SlotSt := []
  active : Option Trajectory := none
  pendingTraj : Option Trajectory := none
  /-- Trajectory that is being copied. -/
  copying : Option Trajectory := none
  /-- TB3 time, ns, since which the ACTIVE trajectory has been stale or ended, and whether the ALARM of that
  span has been raised (R250). -/
  staleSince : Option Nat := none
  staleAlarmed : Bool := false
  limits : Map LimitSt := []
  gens : Map GenSt := []
  caps : Map CapSt := []
  /-- LATE activations and replaced trajectories since reset. -/
  lateTotal : Nat := 0
  deriving DecidableEq, Repr

/-! ### CAN FD -/

/-- A ZDP message that is being put together from CAN segments (R398). -/
structure Partial where
  node : Nat
  kind : Nat
  sub : Nat
  data : List Byte
  /-- Next segment count expected. -/
  next : Nat
  /-- TB3 time, ns, of the last segment. -/
  lastAt : Nat
  deriving DecidableEq, Repr

/-- One controller. -/
structure CanSt where
  /-- Words of TXB0–TXB31: 24 words each, in order. -/
  buf : Map Nat := []
  /-- Buffer whose frame is on the bus, with its start of frame on the time-stamp counter. -/
  onBus : Option (Nat × Nat) := none
  /-- A cancel of the frame on the bus is held (R363). -/
  heldCancel : Bool := false
  /-- TB3 times, ns, of the requests by buffer, for the CAN_TX latency. -/
  reqAt : Map Nat := []
  /-- Newest command that waits for the frame on the bus, by buffer (R372). -/
  tapWait : Map (Option (List Nat)) := []
  /-- Frames received since enable. -/
  rxSeq : Nat := 0
  /-- TB3 times, ns, at which the unread entries were written, oldest first. -/
  unread : List Nat := []
  /-- Another node's frame is on the bus, since this controller lost arbitration to it. -/
  busBusy : Bool := false
  /-- ZDP_EN as it stood at the enable (R370). -/
  zdpEn : Bool := false
  /-- Thrusters whose commands the tap sends here, ascending, as mapped at the enable (R371). -/
  tapMap : List Nat := []
  /-- The last ZDP message that segments completed, as it goes to the dictionary gate. -/
  message : Option (List Byte) := none
  /-- Own bit time sent over the last 100 ms: TB3 time, bits, ALARM. Newest first. -/
  window : List (Nat × Nat × Bool) := []
  partials : List Partial := []
  /-- Counts since reset for 0x82nn. -/
  rxFrames : Nat := 0
  rxLost : Nat := 0
  txFrames : Nat := 0
  busOffs : Nat := 0
  tapReplaced : Nat := 0
  errBit : Nat := 0
  errStuff : Nat := 0
  errForm : Nat := 0
  errCrc : Nat := 0
  errAck : Nat := 0
  deriving DecidableEq, Repr

end Sys2Proof.Machine
end

