-- ==== Sys2Proof/Machine/TypesSafety.lean ====
section
/-! DEFINITION. What the safety die and the hub's end of the safety mailbox keep beside their registers
(15_safety.md). Channel 0 is channel A, channel 1 is channel B. -/

namespace Sys2Proof.Machine

/-- A receive connection in one channel (R499, R500). -/
structure SafeConn where
  /-- 0 STARTING, 1 RUNNING, 2 FAILED. -/
  st : Nat := 0
  /-- PDUs accepted in a row since STARTING. -/
  good : Nat := 0
  lastSeq : Nat := 0
  /-- The last accepted PDU. -/
  last : List Byte := []
  /-- Local times, ns, of rejections while RUNNING. -/
  rejects : List Nat := []
  deriving DecidableEq, Repr

/-- The azimuth sources of a thruster as the last AZIMUTH message gave them (R485). -/
structure AzData where
  pfp1 : Nat
  pfp2 : Nat
  pfs1 : Bool
  pfs2 : Bool
  deriving DecidableEq, Repr

/-- One channel of the die. -/
structure SafeChan where
  /-- Inputs whose own contact demands, filtered (R481). -/
  filt : Nat := 0
  /-- Inputs whose other contact demanded at the last cross-link exchange (R477). -/
  other : Nat := 0
  /-- The channel's watchdog has expired. -/
  dead : Bool := false
  /-- Outputs whose element this channel keeps open after a SWITCH_FAULT (R478). -/
  swf : Nat := 0
  /-- Zones active (R483), and the causes that made each so. -/
  zones : Nat := 0
  zcause : Map Nat := []
  /-- Outputs tripped (R483), and the causes of each. -/
  trip : Nat := 0xFF
  lcause : Map Nat := []
  /-- Outputs that show a demand now. -/
  dem : Nat := 0
  /-- Zones demanded now. -/
  zd : Nat := 0
  /-- Causes of the own SF3 evaluation (R488); 0 is clear. -/
  own : Nat := 0
  /-- SF3 red (R489). -/
  red : Bool := false
  hubLost : Bool := false
  caLost : Bool := false
  posLost : Bool := false
  posRed : Bool := false
  /-- Thrusters with AZ_FAULT and with SECTOR (R485). -/
  azFault : Nat := 0
  sector : Nat := 0
  conns : Map SafeConn := []
  /-- Local time and TB0 time of the last stamp (R498). -/
  anchor : Option (Nat × Nat) := none
  /-- Local time and TB0 time at which the second that runs began. -/
  window : Option (Nat × Nat) := none
  /-- Ratio of TB0 advance to local advance over the last full second. -/
  ratio : Option Rat := none
  /-- The mapping is valid. -/
  timeOk : Bool := false
  deriving DecidableEq, Repr

/-- What the channels hold of a reset pulse that is high (R490). -/
structure Rise where
  /-- Zones demanded and outputs showing a demand at the rising edge, in either channel. -/
  zd : Nat
  dem : Nat
  /-- Inputs whose contacts had read the no-demand state together for 100 ms (R482). -/
  clean : Nat
  deriving DecidableEq, Repr

/-- A session (R504). -/
structure Session where
  kind : Nat
  port : Nat
  src : Nat
  user : List Byte
  /-- State of the die before it. -/
  before : Nat
  /-- A parameter has changed. -/
  changed : Bool
  /-- TB3 time, ns, of its last safety ORDER. -/
  lastOrder : Nat
  deriving DecidableEq, Repr

/-- An entry of the safety change log (R509). -/
structure SafetyLog where
  seq : Nat
  time : Stamp
  node : Nat
  port : Nat
  action : Nat
  index : Nat
  sub : Nat
  session : Nat
  old : List Byte
  new : List Byte
  ccv : Nat
  user : List Byte
  deriving DecidableEq, Repr

/-- A Guard PDU on its way from the die to the hub, and out of the hub's ports. -/
structure GuardOut where
  seq : Nat
  /-- Bits 0–15 CF0–CF15, bits 16–23 EM0–EM7. -/
  paths : Nat
  pdu : List Byte
  deriving DecidableEq, Repr

/-- The CA status payload that the die holds (R232). -/
structure CaHeld where
  wcf : Nat
  flags : Nat
  deriving DecidableEq, Repr

/-- The POS status payload that the die holds. -/
structure PosHeld where
  excPos : Nat
  excHead : Nat
  mode : Nat
  deriving DecidableEq, Repr

/-- The safety die, and the hub's end of the mailbox. -/
structure SafetySt where
  /-- VSAFE is good and the die is live. -/
  live : Bool := false
  /-- VIO33_S is at its good level (R573). -/
  vio33s : Bool := true
  /-- 0 UNSEALED, 1 SEALED, 2 COMMISSIONING, 3 TEST, 4 RECOVERY, 5 CONFIG_FAULT, 6 FAULT. -/
  state : Nat := 0
  chans : Map SafeChan := []
  /-- Contacts that are closed: bit 2 n + channel. -/
  closed : Nat := 0
  /-- Levels of SRST0–SRST3. -/
  srst : Nat := 0
  stuck : Nat := 0
  rises : Map (Option Rise) := []
  /-- Accepted, LONG, SHORT, DISAGREE of SRSTk at 4 k + j (0x9800.0B). -/
  resetCounts : Map Nat := []
  inputFault : Nat := 0
  /-- Outputs with SWITCH_FAULT. -/
  faulted : Nat := 0
  /-- The channels' decisions differed at the last exchange. -/
  differ : Bool := false
  /-- Last TRIP_REQUEST: SF1 mask, zones, SF3. -/
  reqSf1 : Nat := 0
  reqZones : Nat := 0
  reqSf3 : Bool := false
  ca : Option CaHeld := none
  pos : Option PosHeld := none
  az : Map AzData := []
  /-- Parameters of the die, by `ObjDef.key`, as the last CONFIG message gave them. -/
  cfg : Map Val := []
  ccvA : Nat := 0
  ccvB : Nat := 0
  /-- Rejections of connection c under cause j (1–5) at 8 c + j. -/
  rejected : Map Nat := []
  /-- SEQ of the last message that the die accepted, and of the last that the hub accepted. -/
  dieLast : Option Nat := none
  hubLast : Option Nat := none
  /-- Messages that the die has sent since its reset, and the hub since its own. -/
  dieSeq : Nat := 0
  hubSeq : Nat := 0
  /-- Messages from the hub that the die has not yet taken: TYPE and message. -/
  mail : List (Nat × MailMsg) := []
  /-- GUARD_TX messages that the hub has not yet taken. -/
  guardTx : List GuardOut := []
  /-- PDUs that the hub has put into the first egress class of the named paths. -/
  guardOut : List GuardOut := []
  /-- SEQ of the next PDU of each transmit connection. -/
  txSeq : Map Nat := []
  /-- TB3 time, ns, of the last STATUS message. -/
  statusAt : Option Nat := none
  /-- The hub's mirror of STATE at the last STATUS message. -/
  session : Option Session := none
  /-- The challenge last read, and the TB3 time, ns, of its READ. -/
  challenge : Option (List Byte × Nat) := none
  /-- TB3 times, ns, of wrong responses. -/
  wrong : List Nat := []
  /-- TB3 time, ns, at which openings were blocked. -/
  blocked : Option Nat := none
  /-- DEMAND payload of the TEST session. -/
  test : List Byte := []
  /-- SALT and H (Cask); empty while no password is set. -/
  salt : List Byte := []
  hash : List Byte := []
  /-- A seal has been stored, and a parameter has changed since without one (Cask). -/
  hasSeal : Bool := false
  unsealed : Bool := false
  /-- Safety change log, newest last, at most 256 entries (Cask). -/
  log : List SafetyLog := []
  logSeq : Nat := 0
  /-- Entries held during a dip (R509, R31). -/
  heldLog : List SafetyLog := []
  deriving DecidableEq, Repr

end Sys2Proof.Machine
end

