-- ==== Sys2Proof/Machine/TypesSense.lean ====
section
/-! DEFINITION. What the Lauter signal chain and the position feedback unit keep beside their registers
(08_signal_chain.md, 09_position_feedback.md). -/

namespace Sys2Proof.Machine

/-! ### Lauter -/

/-- A cross-fade that has been accepted (R273). -/
structure Fade where
  /-- Fade outputs published so far. -/
  j : Nat
  /-- L. -/
  len : Nat
  /-- Bank that is reached: 0 A, 1 B. -/
  target : Nat
  deriving DecidableEq, Repr

/-- One Lauter channel. -/
structure ScChan where
  /-- Integrators I₁ to I_N, modulo 2⁶⁴. -/
  integ : List Nat := []
  /-- Comb delays D₁ to D_N, modulo 2⁶⁴. -/
  comb : List Nat := []
  /-- Comb outputs of the epoch as Q31 words, newest first, at most 512. -/
  line : List Int := []
  /-- Comb outputs of the epoch. -/
  outs : Nat := 0
  /-- Last good ADC word since enable. -/
  lastWord : Int := 0
  /-- Defining edge of the epoch, TB0 ns. -/
  tReset : Nat := 0
  /-- Input edge of the last output, TB0 ns. -/
  tDef : Nat := 0
  /-- t_def(0) − t_reset − GD of the epoch, fixed at INDEX 0 (R281). -/
  offset : Rat := 0
  /-- T_in of the epoch, ns. -/
  tIn : Rat := 0
  /-- Group delay, in 1/64 output sample, of the bank in use at the synchronizing reset (R277). -/
  gd : Nat := 0
  fade : Option Fade := none
  /-- L of the latched swap request (R275). -/
  pendingLen : Option Nat := none
  /-- A reset event waits for its defining edge: whether an armed source fired it (R278). -/
  await : Option Bool := none
  /-- The last synchronizing reset came from an armed source (R265). -/
  lastArmed : Bool := false
  /-- Time stamp of the last output, TB0 ns. -/
  lastTs : Nat := 0
  /-- 0x69cc.26 and .27: since reset. -/
  frameErrors : Nat := 0
  swapReplaced : Nat := 0
  deriving DecidableEq, Repr

/-- The Lauter signal chain. -/
structure LauterSt where
  chans : Map ScChan := []
  /-- Pool entries as 24-bit words. -/
  pool : Map Nat := []
  deriving DecidableEq, Repr

/-! ### Position feedback -/

/-- What an armed compare unit compares with: the values that its arming took (R313). -/
structure CmpSt where
  c : Int := 0
  dir : Nat := 0
  periodic : Bool := false
  /-- `ARMED_BEHIND` holds on the upper side of C. -/
  above : Bool := false
  deriving DecidableEq, Repr

/-- One encoder channel. -/
structure PfChan where
  /-- Accepted levels. -/
  a : Bool := false
  b : Bool := false
  z : Bool := false
  /-- Receivers that report OPEN: bit 0 A, 1 B, 2 Z. -/
  open_ : Nat := 0
  /-- Counting edges of the last window, newest first: stamp, TB0 ns, and ±1. -/
  edges : List (Nat × Int) := []
  /-- Stamp of the last counting edge. -/
  lastT : Option Nat := none
  /-- Direction of the period measurement that runs; none after a restart (R305). -/
  dir : Option Int := none
  /-- Δt of R305, ns. -/
  delta : Option Nat := none
  /-- Reported speed, counts per second. -/
  speed : Rat := 0
  /-- Count at the last qualified index (R298). -/
  indexAt : Option Int := none
  /-- Stamp of the running serial request: TB0 ns of the first falling edge, less LATCH_NS. -/
  request : Option Int := none
  /-- Last request instant taken. -/
  lastReq : Option Nat := none
  /-- POS of the last good word. -/
  serial : Option Nat := none
  /-- The newest request was good. -/
  serialGood : Bool := false
  /-- Consecutive failed requests. -/
  fails : Nat := 0
  /-- Good words of the window, newest first: stamp and extended position. -/
  words : List (Int × Int) := []
  /-- Output count of the emulator (R311). -/
  emu : Int := 0
  cmps : Map CmpSt := []
  /-- 0x73cc.07 to .0A: ILLEGAL, GLITCH, SER_FAULTS, DIR_INDEX since reset. -/
  illegal : Nat := 0
  glitch : Nat := 0
  serFaults : Nat := 0
  dirIndex : Nat := 0
  deriving DecidableEq, Repr

end Sys2Proof.Machine
end

