-- ==== Sys2Proof/Machine/TypesSet.lean ====
section
/-! DEFINITION. What the journal engine, the set exchange, the claim tap and the claim gate keep beside
their registers (13_orders_journal.md, 14_redundancy_claims.md), and the messages that they exchange. The
types of messages that arrive from outside stand in `Sys2Proof/Syntax.lean`. -/

namespace Sys2Proof.Machine

/-! ### Journal (13_orders_journal.md) -/

/-- Where the reply to an ORDER or held WRITE goes. -/
structure ReplyTo where
  /-- KIND of the request: 2 WRITE, 3 ORDER, 6 BULK. -/
  kind : Nat
  port : Nat
  src : Nat
  tag : Nat
  index : Nat
  sub : Nat
  identity : Nat
  /-- This copy is a duplicate (R418, R419). -/
  duplicate : Bool
  /-- TB3 time, ns, at which the request ended at its port. -/
  since : Nat
  deriving DecidableEq, Repr

/-- An order that the entry member has forwarded (R413). -/
structure Forwarded where
  tag : Nat
  order : OrderRec
  /-- TB3 time, ns, of the last forward. -/
  sentAt : Nat
  deriving DecidableEq, Repr

/-- An entry of the held queue (R427). -/
inductive HeldEntry
  /-- An order that arrived at a port of this member. -/
  | own (o : OrderRec)
  /-- An order forwarded to this sequencer while it is HELD. -/
  | fwd (o : OrderRec) (member tag : Nat)
  /-- A persistent WRITE (R396). -/
  | write (r : ReplyTo) (v : Val)
  /-- A persistent write of an application, in force and not yet in Cask: the key of the entry and the value that Cask
  still holds (R436). -/
  | persist (key : Nat) (v : Val)
  deriving DecidableEq, Repr

/-- The entry is the persistent write of an application, which JE_HOLD does not count (R427). -/
def HeldEntry.isPersist : HeldEntry → Bool
  | .persist .. => true
  | _ => false

/-- An order that waits for an OSN (R414), with the member and tag of its FORWARD when it was forwarded. -/
structure Waiting where
  order : OrderRec
  fwd : Option (Nat × Nat)
  deriving DecidableEq, Repr

/-- A message that this member sends to another (R400), by the payload tables. -/
inductive PeerPayload
  | alarm (a : AlarmRec)
  | forward (tag : Nat) (o : OrderRec)
  | copy (commit : Nat) (os : List OrderRec)
  | replay (commit : Nat) (os : List OrderRec)
  | image (osn : Nat) (entries : List ImageEntry) (last : Bool)
  | ack (osn : Nat)
  | commit (osn : Nat)
  | fetch (first last : Nat)
  | state (code high commit : Nat)
  | fwdReturn (tag code osn : Nat)
  | summary (p : PlanSummary)
  | allocation (a : AllocFrame)
  | heartbeat (h : Heartbeat)
  | claim (c : ClaimFrame)
  | zdp (m : ZdpOut)
  deriving DecidableEq, Repr

/-- A frame that waits at or left a peer link. -/
structure PeerOut where
  link : Nat
  /-- SEQ of the frame on its link. -/
  seq : Nat
  /-- FLAGS bit 0. -/
  alarm : Bool
  epoch : Nat
  payload : PeerPayload
  deriving DecidableEq, Repr

/-- A frame that the tap sends. -/
inductive TapFrame
  | claim (f : ClaimFrame)
  | command (f : CommandFrame)
  deriving DecidableEq, Repr

/-- A frame of the tap in transmit queue 1 of an EM port, by path: 16–23 are EM0–EM7. Its frames on CF0–CF15
stand in the transmit buffers. -/
structure TapOut where
  path : Nat
  frame : TapFrame
  deriving DecidableEq, Repr

/-- A gate status frame sent (R459) on a path. -/
structure GateOut where
  path : Nat
  frame : GateStatus
  deriving DecidableEq, Repr

/-- A frame on its way out of an Ethernet MAC (R402). -/
inductive TxFrame
  /-- Entry of a transmit ring. -/
  | ring (queue entry : Nat)
  | zdp (m : ZdpOut)
  | tap (f : TapOut)
  | status (g : GateOut)
  deriving DecidableEq, Repr

/-- The egress of an Ethernet MAC (R402). -/
structure TxState where
  /-- Frame on the line. -/
  busy : Option TxFrame := none
  /-- Bits sent over the last 100 ms: TB3 time in ns, bits, ALARM frame. Newest first. -/
  window : List (Nat × Nat × Bool) := []
  /-- TB3 times, ns, at which ring entries were offered, by queue × 4096 + entry. -/
  offered : Map Nat := []
  deriving DecidableEq, Repr

/-- Frames that wait at the ports or left them. -/
structure PortsSt where
  /-- Frames sent on the peer links, oldest first. -/
  peerOut : List PeerOut := []
  /-- Frames sent on each peer link since its enable. -/
  xlSeq : Map Nat := []
  /-- Egress of EMm. -/
  tx : Map TxState := []
  /-- TB3 time, ns, of the end of the last serial character of SUu. -/
  lastChar : Map (Option Nat) := []
  /-- Serial ZDP frame that is being received (R399); none outside a frame. -/
  zdpIn : Map (Option (List Byte)) := []
  /-- The last ZDP message steered to the dictionary gate, by port number p (R385, R397, R399, R400). -/
  message : Map (Option (List Byte)) := []
  deriving DecidableEq, Repr

/-- The order whose application is open or ready (R417). -/
structure OpenApply where
  osn : Nat
  /-- TB3 time, ns, of the opening. -/
  since : Nat
  /-- The ALARM of R417 has been raised. -/
  slow : Bool
  deriving DecidableEq, Repr

/-- The journal engine. -/
structure JournalSt where
  /-- Orders whose records stand in the ring of Cask, OSN order. -/
  ring : List OrderRec := []
  /-- Orders whose records are kept in hub memory (HELD, R426; FAULT, R432). -/
  kept : List OrderRec := []
  /-- Orders whose Cask write runs, oldest first. -/
  writing : List OrderRec := []
  /-- COPY and REPLAY orders that wait for a gap to fill (R410). -/
  gap : List OrderRec := []
  held : List HeldEntry := []
  waiting : List Waiting := []
  forwards : List Forwarded := []
  nextTag : Nat := 1
  /-- Replies owed when an order commits. -/
  replies : List ReplyTo := []
  /-- OSNs given out in the TB3 second that runs (R414). -/
  givenSecond : Nat := 0
  given : Nat := 0
  apply : Option OpenApply := none
  /-- State before the dip (R429): the state to which a HELD or PAUSED member returns. -/
  before : Nat := 2
  /-- TB3 time, ns, since which this member has been SYNCED or HELD without a break, from SYNCED on. -/
  since : Option Nat := none
  /-- Sequencer in this member's view, as a device index. -/
  seqView : Option Nat := none
  /-- A takeover runs (R423): no new order is numbered. -/
  takeover : Bool := false
  /-- Members whose answer to the takeover FETCH is awaited. -/
  awaiting : List Nat := []
  /-- TB3 time, ns, of the last frame or claim frame of another member (R430). -/
  lastPeer : Nat := 0
  /-- First OSN not shared (FORK, R431). -/
  forkAt : Nat := 0
  /-- An IMAGE is being taken; OSN at which it stands. -/
  image : Option Nat := none
  /-- Records discarded at the last replay (R424). -/
  discarded : Nat := 0
  /-- Window of identities beyond and within the ring: OSN of the head and identity (R408). -/
  window : List (Nat × Nat) := []
  /-- TB3 times, ns, of commits not yet applied, by OSN, for the ORDER_APPLY latency. -/
  committedAt : List (Nat × Nat) := []
  /-- TB3 times, ns, of COPY frames not yet ACKed, by last OSN, for the PEER_RTT latency. -/
  copiedAt : List (Nat × Nat) := []
  /-- Origin counter last used for a self-originated order (R456). -/
  selfCounter : Nat := 0
  deriving DecidableEq, Repr

/-! ### Set, claims and gate (14_redundancy_claims.md) -/

/-- What a member holds of another member of its set, or of itself, by device index. -/
structure PeerView where
  /-- TB3 time, ns, of the last good frame. -/
  lastFrame : Option Nat := none
  /-- The member is heard (R442). -/
  heard : Bool := false
  /-- TB3 time, ns, since which it has been heard without a break. -/
  heardSince : Option Nat := none
  /-- State code of its last STATE. -/
  jstate : Option Nat := none
  /-- TB3 time, ns, since which it has reported SYNCED or HELD, beginning with SYNCED (R409). -/
  since : Option Nat := none
  osnHigh : Nat := 0
  commit : Nat := 0
  /-- Highest OSN that it has ACKed. -/
  acked : Nat := 0
  claim : Nat := 0
  sig : Nat := 0
  sigSeen : Bool := false
  setId : Nat := 0
  epoch : Nat := 0
  leaderView : Nat := 255
  xlUp : Nat := 0
  healthCeil : Nat := 0
  rankCeil : Nat := 0
  summary : Option PlanSummary := none
  alloc : List AllocFrame := []
  /-- Claim frames last taken over the peer links. -/
  claimFrame : Option ClaimFrame := none
  /-- Last gate-visible sending times, to drop second copies (R441). -/
  lastHb : Option (Nat × Nat) := none
  lastClaim : Option (Nat × Nat) := none
  deriving DecidableEq, Repr

/-- A probe that waits for its result (R471). -/
structure Probe where
  path : Nat
  thruster : Nat
  app : Nat
  /-- TB3 time, ns, of sending. -/
  sentAt : Nat
  /-- Gates that the path reaches. -/
  gates : Nat
  deriving DecidableEq, Repr

/-- A gate as this member sees it by its status frames. -/
structure GateView where
  holder : Nat := 0
  /-- TB3 time, ns, since which it has named another holder. -/
  otherSince : Option Nat := none
  lastAt : Nat := 0
  deriving DecidableEq, Repr

/-- Set exchange and claim tap. -/
structure ClaimSt where
  peers : Map PeerView := []
  /-- Last ten votes: own plan outside; VOTE_SINGLE or VOTE_OWN. Newest first. -/
  outside : List Bool := []
  lone : List Bool := []
  /-- Last ten comparisons of estimates: own estimate outside. -/
  estOut : List Bool := []
  /-- TB3 times, ns, at which the held conditions of R452 last held (terms 2, 3, 5). -/
  lastTerm : Map (Option Nat) := []
  /-- Leader in this member's view. -/
  leader : Option Nat := none
  /-- Own summary and allocation frames of the period. -/
  ownSummary : Option PlanSummary := none
  ownAlloc : List AllocFrame := []
  /-- PLAN_TREF for which the vote has been made. -/
  votedFor : Option Nat := none
  tapOut : List TapOut := []
  /-- CYCLE of the latest vote. -/
  voteCycle : Nat := 0
  cmdSeq : Map Nat := []
  /-- Last command sent for each thruster (R471). -/
  lastCmd : Map (Option CommandFrame) := []
  /-- OUT_RUN has reached VOTE_OUT_MAX, and IN_RUN has not reached 10 since (R451). -/
  capped : Bool := false
  /-- The phase objects of all three members differ (R37). -/
  phaseSplit : Bool := false
  /-- TB3 time, ns, of the last renewal. -/
  lastSend : Nat := 0
  probes : List Probe := []
  gates : Map GateView := []
  /-- TB3 time, ns, of the last application of LEADER_INDEX, and since when the rotation test fails. -/
  rotatedAt : Nat := 0
  rotFail : Option Nat := none
  /-- Rotation made this member leader; its proof test is due. -/
  proofDue : Bool := false
  /-- A complete estimation, and a plan after it, since reset or RESYNC (R472). -/
  estDone : Bool := false
  planDone : Bool := false
  deriving DecidableEq, Repr

/-- A command that the gate has accepted, or keeps for the cross-check. -/
structure GateCmd where
  member : Nat
  /-- Application time, TB0 ns. -/
  app : Nat
  drive : Int
  angle : Int
  thrust : Int
  aux : Int
  status : Nat
  /-- Arrival, TB3 ns. -/
  arrived : Nat
  /-- The values as the frame carried them, for probes (R469). -/
  raw : List Int
  deriving DecidableEq, Repr

/-- A member at the gate. -/
structure GateMember where
  claim : Nat := 0
  /-- Lease expiry x, TB3 ns. -/
  expiry : Option Nat := none
  /-- End of the fence, TB3 ns. -/
  fenced : Option Nat := none
  /-- Commands outvoted in a row (R468). -/
  outvoted : Nat := 0
  deriving DecidableEq, Repr

/-- A thruster at the gate. -/
structure GateThruster where
  /-- Commands that wait, earliest accepted first. -/
  queue : List GateCmd := []
  /-- The last 8 accepted, newest first. -/
  recent : List GateCmd := []
  /-- Application time of the last command accepted, TB0 ns. -/
  lastApp : Option Nat := none
  /-- TB3 time, ns, of the last applied command of a holder, and that holder. -/
  fed : Option (Nat × Nat) := none
  /-- The last applied command, for the cross-check, until it has been made. -/
  applied : List GateCmd := []
  /-- Commands of members that did not hold. -/
  others : List GateCmd := []
  deriving DecidableEq, Repr

/-- The claim gate. -/
structure GateSt where
  members : Map GateMember := []
  holder : Option Nat := none
  thrusters : Map GateThruster := []
  /-- TB3 time, ns, since which no holder exists. -/
  noneSince : Option Nat := some 0
  /-- TB0 time of the last change of holder. -/
  switched : Stamp := {}
  statusSeq : Nat := 0
  /-- TB3 time, ns, of the last valid frame by path. -/
  heardOn : Map (Option Nat) := []
  out : List GateOut := []
  deriving DecidableEq, Repr

end Sys2Proof.Machine
end

