-- ==== Sys2Proof/Machine/TypesStage.lean ====
section
/-! DEFINITION. What the pipeline's firmware keeps from cycle to cycle: estimation and the visual reference
(04_estimation_references.md), planning (05_planning_allocation.md) and consequence analysis (06_consequence_analysis.md). -/

namespace Sys2Proof.Machine

/-- An accepted measurement record (R126), without its CRC. Times are TB0 ns. -/
structure MeasRec where
  kind : Nat
  quality : Option Nat
  seq : Nat
  tv : Nat
  v0 : Nat
  v1 : Nat
  v : List Nat
  target : Nat
  deriving DecidableEq, Repr

/-- How a reference stands in the vote (R137 to R139). -/
inductive VoteSt
  | inUse | suspect | rejected
  deriving DecidableEq, Repr

/-- A reference slot, by its place in the reference report (R155): PS 0–23, HD 24–29, MU 30–33, WS 34–37. -/
structure RefSt where
  vote : VoteSt := .inUse
  /-- Report status code at the last release. -/
  status : Nat := 0
  /-- Last accepted record, with or without SENSOR_INVALID: SEQ and time of validity. -/
  lastSeq : Option (Nat × Nat) := none
  /-- The last accepted record carried SENSOR_INVALID. -/
  invalid : Bool := false
  /-- Records that have arrived and that no release has taken, and the records in the window, oldest first. -/
  fresh_ : List MeasRec := []
  window : List MeasRec := []
  /-- V0 to V5 of the last accepted record, accepted records in a row that repeat it, and that differ while frozen. -/
  values : List Nat := []
  same : Nat := 0
  differ : Nat := 0
  frozen : Bool := false
  timedOut : Bool := false
  /-- Cycles in a row of R137, of R139, and of a motion unit's deviation (R140). -/
  overRun : Nat := 0
  okRun : Nat := 0
  devRun : Nat := 0
  /-- A lay-down has been applied (R153). -/
  laid : Bool := false
  deriving DecidableEq, Repr

/-- The estimator. -/
structure EstSt where
  refs : Map RefSt := []
  /-- Estimates released since the pipeline start, and whether the next one is the first (R150). -/
  released : Nat := 0
  first : Bool := true
  /-- DEAD_RECKONING and HEADING_LOST of the last estimate. -/
  dead : Bool := false
  noHeading : Bool := false
  /-- Cycles in a row with no position reference within its ACCEPT_LIMIT (R138). -/
  noAccept : Nat := 0
  biasOff : Bool := false
  /-- TB0 ns of the last step for which a commanded value stood in (R134). -/
  substAt : Option Nat := none
  /-- DATUM_ORDER that waits for the 10 s boundary: latitude and longitude as F64 bits. -/
  datum : Option (Nat × Nat) := none
  /-- Translation that the next linearization takes, n and e. -/
  translate : Option (Rat × Rat) := none
  /-- Voted roll and pitch, and voted relative wind: speed and direction (R140). -/
  attitude : Option (Rat × Rat) := none
  wind : Option (Rat × Rat) := none
  /-- Targets' estimates given at the last release. -/
  targets : List TargetEst := []
  deriving DecidableEq, Repr

/-- An observation of a keypoint datagram (table of R157). -/
structure Observation where
  track : Nat
  u : Nat
  v : Nat
  sigma : Nat
  deriving DecidableEq, Repr

/-- A frame of a camera: complete when `parts` of `total` have arrived. -/
structure FrameSt where
  frame : Nat
  total : Nat
  got : List Nat
  /-- TB3 ns of the first part. -/
  at_ : Nat
  exposure : Nat
  obs : List Observation
  deriving DecidableEq, Repr

/-- A keyframe: exposure in TB0 ns, and its observations by camera. -/
structure Keyframe where
  exposure : Nat
  obs : List (Nat × Observation)
  deriving DecidableEq, Repr

/-- The visual reference. -/
structure VisSt where
  /-- Frames being assembled and the newest complete frames, by camera. -/
  partial_ : Map (List FrameSt) := []
  complete : Map (List FrameSt) := []
  /-- TB3 ns of the last complete frame, by camera, and cameras found lost, bit c for CAMc. -/
  lastAt : Map (Option Nat) := []
  lost : Nat := 0
  keyframes : List Keyframe := []
  /-- Keyframes formed so far; tracks that are ignored until a count of keyframes is reached. -/
  formed : Nat := 0
  landmarks : List Nat := []
  ignored : List (Nat × Nat) := []
  /-- λ of R161. -/
  lambda : Rat := 1 / 1000
  deriving DecidableEq, Repr

/-- The structure signature of a warm start (R194), with the thrusters in the plan. -/
structure Signature where
  mask : Nat := 0
  scen : Nat := 0
  branch : Nat := 0
  horizon : Nat := 0
  sig : Nat := 0
  mode : Nat := 0
  deriving DecidableEq, Repr

/-- Planning. -/
structure PlanSt where
  /-- Structure signature of the iterate that is left, and TREF, TB0 ns, of the plan it belongs to. -/
  iterate : Option Signature := none
  iterTref : Nat := 0
  /-- Signature of the cycle in hand, whose iterate it leaves when it publishes. -/
  cand : Signature := {}
  /-- Scenarios of the last cycle, 0 for none yet, and iterations of the cycle in hand. -/
  scen : Nat := 0
  iter : Nat := 0
  /-- t_seed in use, TB0 s, and the seed z_0 (R179). -/
  seedAt : Option Nat := none
  seed : Nat := 0
  reseed : Nat := 0
  /-- η_ref at step 0 as F32 bits (R176), and ι_0 (R175). -/
  ref_ : Nat × Nat × Nat := (0, 0, 0)
  iota : Nat × Nat × Nat := (0, 0, 0)
  mode : Nat := 0
  setpoint : List Byte := []
  /-- INFEASIBLE of the last plan. -/
  infeasible : Bool := false
  /-- Mapped fraction of the cycle in hand. -/
  mapped : Rat := 0
  /-- Sums of R193 and R224 as last formed. -/
  work : WorkSums := ⟨0, 0, 0, 0, 0, 0⟩
  deriving DecidableEq, Repr

/-- A failure case (table of R228). -/
structure CaseSt where
  verdict : Nat := 0
  cause : Nat := 0
  iter : Nat := 0
  status : Nat := 0xFF
  /-- TB3 ns of the evaluation. -/
  evalAt : Option Nat := none
  age : Nat := 0
  evalCycle : Nat := 0
  excPos : Nat := 0
  excHead : Nat := 0
  util : Nat := 0
  violation : Nat := 0
  tExceed : Nat := 0
  sigmaRem : Nat := 0
  mapped : Nat := 0
  thrusters : Nat := 0
  buses : Nat := 0
  scen : Nat := 0
  step : Nat := 0
  /-- The STALE ALARM has been raised. -/
  staleAlarmed : Bool := false
  /-- Judged in this window, before the publication job was submitted. -/
  judged : Bool := false
  deriving DecidableEq, Repr

/-- Consequence analysis. -/
structure CaSt where
  cases : Map CaseSt := []
  /-- Cases scheduled in the window, in order, and the number declared at its release. -/
  schedule : List Nat := []
  declared : Nat := 0
  grant : Nat := 0
  req : Nat := 0
  idle : Bool := false
  changed : Bool := false
  /-- The declaration of each case and of 0x5300 that the last window used. -/
  used : List (Nat × List Byte) := []
  planCycle : Nat := 0
  estCycle : Nat := 0
  /-- The publication job has been submitted in this window. -/
  submitted : Bool := true
  /-- WCF and its case at the last publication, the cases RED then, and the ALARM of R226 given. -/
  wcf : Nat := 0
  wcfCase : Nat := 0xFF
  red : List Nat := []
  staleAlarmed : Bool := false
  /-- Verdicts of the latest body. -/
  verdicts : List Nat := List.replicate 48 0
  /-- Counts of R231 of the latest body. -/
  unknown : Nat := 0
  differ : Nat := 0
  deriving DecidableEq, Repr

/-- The stages' firmware. -/
structure StageFw where
  est : EstSt := {}
  vis : VisSt := {}
  plan : PlanSt := {}
  ca : CaSt := {}
  /-- Values in force of the objects that change only at a 10 s boundary of TB0 (R151, R170, R212). -/
  inForce : Map Val := []
  deriving DecidableEq, Repr

end Sys2Proof.Machine
end

