-- ==== Sys2Proof/Machine/State.lean ====
section
/-! DEFINITION. The state of the block, and its state right after reset. -/

namespace Sys2Proof.Machine

/-- An access fault as the core that made the access sees it (R18, R19, R44, R47, R48, R245). -/
inductive AccessCause
  /-- The address lies outside every block, or the access is not an aligned word (R18, R19). -/
  | access
  /-- The register is protected (R44, R245, R261) or the address lies in Cask (R47). -/
  | protected_
  /-- The tile window is closed (R48). -/
  | tileOffline
  /-- The word read is poisoned (R516). -/
  | poisoned
  deriving DecidableEq, Repr

/-- The last access fault of a core. -/
structure CoreFault where
  cause : AccessCause
  addr : Nat
  deriving DecidableEq, Repr

/-- The whole state of one Sloinya, and the queue of commands that wait. -/
structure State where
  /-- Commands that wait, first in, first out. -/
  pending : List Instr
  /-- Register fields, by `Field.key`; a field not listed has its reset value. -/
  regs : Map Nat
  /-- Bytes of the Grist store and of the tile SRAMs, by hub physical address. -/
  mem : List Host.Cell
  /-- Dictionary values that differ from their defaults, by `ObjDef.key`. -/
  dict : Map Val
  /-- Values latched by the read of another register, by register address. -/
  latch : Map Nat
  /-- Poisoned words of the Grist store, by address (R516). -/
  poisoned : List Nat
  /-- Value returned by the last register read of each core (model's own: the read's answer). -/
  readData : Map Nat
  /-- Last access fault of each core. -/
  coreFaults : Map (Option CoreFault)
  /-- Reason code with which the last order or protected write was answered (model's own: the answer). -/
  outcome : Nat
  /-- Free values used so far (model's own). -/
  fresh : Nat
  time : TimeSt
  health : HealthSt
  zdp : ZdpSt
  ports : PortsSt
  journal : JournalSt
  claims : ClaimSt
  gate : GateSt
  loop : LoopSt
  /-- CAN controllers by number. -/
  can : Map CanSt
  safety : SafetySt
  hub : HubSt
  fabric : FabricSt
  stages : StageFw
  lauter : LauterSt
  /-- Encoder channels by number. -/
  pfu : Map PfChan
  deriving DecidableEq, Repr

/-- Faults of the model. -/
inductive Fault
  deriving DecidableEq, Repr

/-- Refusals of the model. -/
inductive Refusal
  /-- A command that this model does not give its meaning; raised by `exec` only, safe. -/
  | notModelled (mnemonic : String)
  deriving DecidableEq, Repr

/-- The state right after reset: every field at its reset value. -/
def State.reset : State where
  pending := []
  regs := Reg.resetValues
  mem := []
  dict := []
  latch := []
  poisoned := []
  readData := []
  coreFaults := []
  outcome := 0
  fresh := 0
  time := {}
  health := {}
  zdp := {}
  ports := {}
  journal := {}
  claims := {}
  gate := {}
  loop := {}
  can := []
  safety := {}
  hub := {}
  fabric := {}
  stages := {}
  lauter := {}
  pfu := []

end Sys2Proof.Machine
end

