-- ==== Sys2Proof/Machine/Flags.lean ====
section
/-! DEFINITION. Access to register fields and dictionary values: the one way in which every command reads
and writes them. Interrupt and status bits are set, cleared and counted here. -/

namespace Sys2Proof.Machine

/-- Value of a register field. -/
def State.rd (s : State) (f : Field) (i j : Nat := 0) : Nat := Map.get f.rst s.regs (f.key i j)

/-- A register field written; the value is cut to the field's width. -/
def State.wr (s : State) (f : Field) (v : Nat) (i j : Nat := 0) : State :=
  { s with regs := Map.put s.regs (f.key i j) (v % 2 ^ f.w) }

/-- The field reads 1 or more. -/
def State.flag (s : State) (f : Field) (i j : Nat := 0) : Bool := s.rd f i j != 0

/-- A one-bit field written from a truth value. -/
def State.put (s : State) (f : Field) (b : Bool) (i j : Nat := 0) : State := s.wr f (ofBool b) i j

/-- A one-bit field set, as an interrupt cause or a status flag is. -/
def State.raise (s : State) (f : Field) (i j : Nat := 0) : State := s.wr f 1 i j

/-- A count that wraps at the width of its field. -/
def State.incWrap (s : State) (f : Field) (i j : Nat := 0) (by_ : Nat := 1) : State :=
  s.wr f (s.rd f i j + by_) i j

/-- A count that saturates at the width of its field. -/
def State.incSat (s : State) (f : Field) (i j : Nat := 0) (by_ : Nat := 1) : State :=
  s.wr f (satAdd (2 ^ f.w - 1) (s.rd f i j) by_) i j

/-- A field that counts down and stops at 0. -/
def State.decSat (s : State) (f : Field) (i j : Nat := 0) : State := s.wr f (s.rd f i j - 1) i j

/-- Bit `b` of a field set. -/
def State.setBitIn (s : State) (f : Field) (b : Nat) (i j : Nat := 0) : State :=
  s.wr f (setBit (s.rd f i j) b) i j

/-- Bit `b` of a field cleared. -/
def State.clearBitIn (s : State) (f : Field) (b : Nat) (i j : Nat := 0) : State :=
  s.wr f (clearBit (s.rd f i j) b) i j

/-- Value of a 64-bit or 48-bit quantity in two registers. -/
def State.rd2 (s : State) (lo hi : Field) (i j : Nat := 0) : Nat := s.rd lo i j + 2 ^ 32 * s.rd hi i j

/-- A 64-bit or 48-bit quantity written into two registers. -/
def State.wr2 (s : State) (lo hi : Field) (v : Nat) (i j : Nat := 0) : State :=
  (s.wr lo v i j).wr hi (v / 2 ^ 32) i j

/-- Signed value of a field. -/
def State.rdS (s : State) (f : Field) (i j : Nat := 0) : Int := signed f.w (s.rd f i j)

/-- A signed value written into a field. -/
def State.wrS (s : State) (f : Field) (z : Int) (i j : Nat := 0) : State := s.wr f (wrapInt f.w z) i j

/-- Value of a dictionary entry. -/
def State.obj (s : State) (o : ObjDef) (i k : Nat := 0) : Val := Map.get (o.default i) s.dict (o.key i k)

/-- A dictionary entry as the bits of its type. -/
def State.objN (s : State) (o : ObjDef) (i k : Nat := 0) : Nat := (s.obj o i k).toNat

/-- A BOOL entry. -/
def State.objB (s : State) (o : ObjDef) (i k : Nat := 0) : Bool := s.objN o i k != 0

/-- Numeric value of an entry: signed types, floats and Q15 by their meaning. -/
def State.objV (s : State) (o : ObjDef) (i k : Nat := 0) : Rat := o.ty.value (s.objN o i k)

/-- Bytes of a STR or BLOB entry. -/
def State.objBytes (s : State) (o : ObjDef) (i k : Nat := 0) : List Byte := (s.obj o i k).toBytes

/-- A dictionary entry set. -/
def State.setObj (s : State) (o : ObjDef) (v : Val) (i k : Nat := 0) : State :=
  { s with dict := Map.put s.dict (o.key i k) v }

/-- The entries of the given keys brought back to their defaults. -/
def State.dropObjs (s : State) (keys : Nat → Bool) : State := { s with dict := s.dict.filter fun p => !keys p.1 }

/-- A numeric dictionary entry set. -/
def State.setObjN (s : State) (o : ObjDef) (n : Nat) (i k : Nat := 0) : State := s.setObj o (.num n) i k

/-- The answer to an order or protected write: a reason code of R386, 0 when it acted. -/
def State.answer (s : State) (reason : Nat) : State := { s with outcome := reason }

/-- The next free value is used up. -/
def State.nextFresh (s : State) : State := { s with fresh := s.fresh + 1 }

/-- The role in force (R2, R23): 1 CONTROL, 2 GATE, 3 BENCH. -/
def State.role (s : State) : Nat := s.rd Reg.SUP_STRAP_ROLE

/-- CONTROL role. -/
def State.control (s : State) : Bool := s.role == 1

/-- GATE role. -/
def State.gateRole (s : State) : Bool := s.role == 2

/-- BENCH role. -/
def State.bench (s : State) : Bool := s.role == 3

/-- The node identifier in use (R10). -/
def State.node (s : State) : Nat := s.objN Obj.NODE_NODE_ID_ACTIVE

/-- A node identifier has been assigned and a reset has followed (R9). -/
def State.nodeValid (s : State) : Bool := s.objB Obj.NODE_NODE_ID_VALID

/-- A dip is in force (R61). -/
def State.dip (s : State) : Bool := s.flag Reg.GAUGE_STATUS_DIP

/-- The commit point (R411). -/
def State.osnCommit (s : State) : Nat := s.rd2 Reg.JE_OSN_COMMIT_LO_OSN Reg.JE_OSN_COMMIT_HI_OSN

/-- The role rank of the claim in force (R450): bits 31–28 of CG_CLAIM. -/
def State.claimRank (s : State) : Nat := s.rd Reg.CG_CLAIM_CLAIM / 2 ^ 28

end Sys2Proof.Machine
end

