-- ==== Sys2Proof/Machine/Ops.lean ====
section
/-! DEFINITION. The named operations that the commands share: memory, the time bases, event counters and
latency histograms, the raising of ALARM, EVENT and TRACE records, retirement history, and the sending of
peer-link frames. -/

namespace Sys2Proof.Machine

/-! ### Memory: the Grist store and the tile SRAMs -/

/-- The table with key `i` removed. -/
def Map.erase {α : Type} : Map α → Nat → Map α
  | [], _ => []
  | (k, w) :: m, i => if i = k then m else (k, w) :: Map.erase m i

/-- What a byte that is not listed reads as. The spec states no contents of the Grist store or a tile SRAM
after power-on (DESIGN CHOICE, log entry 5). -/
def Memory.unlisted : Byte := 0

/-- The memory with byte `a` holding `b`, in canonical form. -/
def Memory.put (m : List Host.Cell) (a : Nat) (b : Byte) : List Host.Cell :=
  if b = Memory.unlisted then Map.erase m a else Map.put m a b

/-- The byte at `a`. -/
def Memory.get (m : List Host.Cell) (a : Nat) : Byte := Map.get Memory.unlisted m a

/-- Canonical form: addresses rise strictly, and no listed byte equals what an unlisted one reads as. -/
def Memory.wf (m : List Host.Cell) : Bool := Map.sorted m && m.all fun c => c.2 != Memory.unlisted

/-- Bytes written from address `a` on. -/
def Memory.putList (m : List Host.Cell) (a : Nat) : List Byte → List Host.Cell
  | [] => m
  | b :: bs => Memory.putList (Memory.put m a b) (a + 1) bs

/-- `n` bytes from address `a` on. -/
def Memory.getList (m : List Host.Cell) (a : Nat) : Nat → List Byte
  | 0 => []
  | n + 1 => Memory.get m a :: Memory.getList m (a + 1) n

/-- Start of the Grist store in the hub physical map (01_architecture.md). -/
def gristBase : Nat := 0x10000000

/-- Bytes of the Grist store. -/
def gristSize : Nat := 0x08000000

/-- The poisoned words that a write of `n` bytes from address `a` leaves poisoned (R516). -/
def stillPoisoned (p : List Nat) (a n : Nat) : List Nat := p.filter fun w => decide (w + 8 ≤ a ∨ a + n ≤ w)

/-- Bytes written to memory from hub physical address `a` on; a poisoned word written is poisoned no more. -/
def State.poke (s : State) (a : Nat) (b : List Byte) : State :=
  { s with mem := Memory.putList s.mem a b, poisoned := stillPoisoned s.poisoned a b.length }

/-- Bytes written to the Grist store from offset `off`; bytes beyond its end go nowhere. -/
def State.gristPut (s : State) (off : Nat) (bs : List Byte) : State :=
  s.poke (gristBase + off) (bs.take (gristSize - off))

/-- `n` bytes of the Grist store from offset `off`. -/
def State.gristGet (s : State) (off n : Nat) : List Byte := Memory.getList s.mem (gristBase + off) n

/-- A little-endian number of `n` bytes in the Grist store. -/
def State.gristNat (s : State) (off n : Nat) : Nat := leNat (s.gristGet off n)

/-! ### Time bases (10_time.md) -/

/-- Time base TBn. -/
def State.base (s : State) (n : Nat) : TimeBase := Map.get {} s.time.bases n

/-- The seconds:nanoseconds clock of TBn, in ns. -/
def State.now (s : State) (n : Nat) : Nat := (s.base n).sec.toNat * 1000000000 + (s.base n).ns

/-- TB3, in ns: the base on which the hub times its own actions. -/
def State.tb3 (s : State) : Nat := s.now 3

/-- TB0 as a record's stamp. -/
def State.stamp (s : State) : Stamp := ⟨(s.base 0).sec.toNat, (s.base 0).ns⟩

/-- An instant in ns as a stamp. -/
def stampOf (t : Nat) : Stamp := ⟨t / 1000000000, t % 1000000000⟩

/-- A stamp in ns. -/
def stampNs (t : Stamp) : Nat := t.sec * 1000000000 + t.ns

/-- Instant `t` of TBn has come and may fire: it lies neither before the barrier of a backward step nor in
the interval that the last forward step skipped (R330). -/
def State.fires (s : State) (n t : Nat) : Bool :=
  let b := s.base n
  decide (t ≤ s.now n) && decide (b.barrier ≤ t) && !(decide (b.skipFrom < t) && decide (t < b.skipTo))

/-- `d` ns have passed on TB3 since `t`. -/
def State.elapsed (s : State) (t d : Nat) : Bool := decide (t + d ≤ s.tb3)

/-! ### Event counters and histograms (17_counters.md) -/

/-- `w` added to counter EVn, wrapping at 2⁴⁸ with its overflow bit and IRQ (R536). -/
def State.evAdd (s : State) (n w : Nat) : State :=
  let v := s.rd2 Reg.CNT_EV_LO_COUNT Reg.CNT_EV_HI_COUNT n + w
  let s := s.wr2 Reg.CNT_EV_LO_COUNT Reg.CNT_EV_HI_COUNT v n
  if 2 ^ 48 ≤ v then (s.setBitIn Reg.CNT_OVF_OVF (n % 32) (n / 32)).raise Reg.CNT_IRQ_OVF else s

/-- `w` added to EVn, with the carry into EVn+1 of a chained pair (R536). -/
def State.evCount (s : State) (n w : Nat) : State :=
  let wraps := (s.rd2 Reg.CNT_EV_LO_COUNT Reg.CNT_EV_HI_COUNT n + w) / 2 ^ 48
  let s := s.evAdd n w
  if wraps != 0 && n % 2 == 0 && s.flag Reg.CNT_EV_CFG_CHAIN n then s.evAdd (n + 1) wraps else s

/-- Counter EVn counts occurrences of `event` at instance `inst`; `none` is an occurrence that has no
instance. Events of blocks 0xB and 0xF have none to filter on. -/
def State.evSelects (s : State) (event : Nat) (inst : Option Nat) (n : Nat) : Bool :=
  s.flag Reg.CNT_EV_CFG_EN n && s.rd Reg.CNT_EV_CFG_EVENT n == event &&
  !(n % 2 == 1 && s.flag Reg.CNT_EV_CFG_CHAIN (n - 1)) &&
  (s.rd Reg.CNT_EV_CFG_FILTER n / 256 == 1 || event / 256 == 0xB || event / 256 == 0xF ||
    inst == some (s.rd Reg.CNT_EV_CFG_FILTER n % 256))

/-- One occurrence of an event, of weight `w` (R533). -/
def State.count (s : State) (event : Nat) (inst : Option Nat) (w : Nat := 1) : State :=
  if s.flag Reg.CNT_CTRL_EN then
    (List.range 256).foldl (fun t n => if t.evSelects event inst n then t.evCount n w else t) s
  else s

/-- Event numbers of the table of R533. -/
def eventKnown (e : Nat) : Bool :=
  let lo := e % 256
  let top := match e / 256 with
    | 1 => 5 | 2 => 7 | 3 => 6 | 4 => 3 | 5 => 5 | 6 => 5 | 7 => 5 | 8 => 5 | 9 => 4 | 10 => 4 | 11 => 3
    | 15 => 2 | _ => 0
  decide (1 ≤ lo) && decide (lo ≤ top)

/-- A bin or TOTAL that may saturate, raised by one (R538). -/
def State.histInc (s : State) (f : Field) (h i : Nat) : State :=
  let v := s.rd f h i
  let s := s.incSat f h i
  if v + 1 == 2 ^ f.w - 1 then s.raise Reg.CNT_IRQ_HIST_SAT else s

/-- One latency of `l` ns recorded in histogram Hh (R537). -/
def State.histAdd (s : State) (h l : Nat) : State :=
  let u := l / 2 ^ s.rd Reg.CNT_H_CFG_SHIFT h
  let bin := if u == 0 then 0 else min 31 (Nat.log2 u + 1)
  let s := s.histInc Reg.CNT_H_BIN_COUNT h bin
  let total := s.rd2 Reg.CNT_H_TOTAL_LO_TOTAL Reg.CNT_H_TOTAL_HI_TOTAL h
  let s := s.wr2 Reg.CNT_H_TOTAL_LO_TOTAL Reg.CNT_H_TOTAL_HI_TOTAL (satAdd (2 ^ 48 - 1) total 1) h
  let s := if total + 1 == 2 ^ 48 - 1 then s.raise Reg.CNT_IRQ_HIST_SAT else s
  let s := s.wr2 Reg.CNT_H_SUM_LO_SUM Reg.CNT_H_SUM_HI_SUM
    (s.rd2 Reg.CNT_H_SUM_LO_SUM Reg.CNT_H_SUM_HI_SUM h + l) h
  s.wr Reg.CNT_H_MAX_MAX (max (s.rd Reg.CNT_H_MAX_MAX h) (min l 0xFFFFFFFF)) h

/-- A latency of source `src` from `t0` to `t1` on TB3, recorded in every histogram that selects it. -/
def State.latency (s : State) (src : Nat) (inst : Option Nat) (t0 t1 : Nat) : State :=
  if s.flag Reg.CNT_CTRL_EN then
    (List.range 16).foldl (fun t h =>
      let f := t.rd Reg.CNT_H_CFG_FILTER h
      if t.flag Reg.CNT_H_CFG_EN h && t.rd Reg.CNT_H_CFG_SOURCE h == src &&
          (f / 256 == 1 || src == 5 || src == 8 || src == 9 || inst == some (f % 256)) then
        t.histAdd h (t1 - t0) else t) s
  else s

/-! ### Peer-link egress (R400, R441) -/

/-- Own device index (R437), by the list in force (0x9000.04). -/
def State.ownIndex (s : State) : Option Nat :=
  let i := s.objN Obj.CLAIM_DEVICE_INDEX
  if i < 3 then some i else none

/-- The member is part of a set. -/
def State.inSet (s : State) : Bool := s.control && s.ownIndex.isSome

/-- The other members of the set, by device index. -/
def State.others (s : State) : List Nat :=
  match s.ownIndex with
  | some o => ([0, 1, 2] : List Nat).filter (· != o)
  | none => []

/-- The two peer links to member `m`: XL0 and XL1 lead to the other member of lower index (R441). -/
def State.linksTo (s : State) (m : Nat) : List Nat :=
  match s.others with
  | a :: b :: _ => if m == a then [0, 1] else if m == b then [2, 3] else []
  | _ => []

/-- The view of member `m`. -/
def State.peer (s : State) (m : Nat) : PeerView := Map.get {} s.claims.peers m

/-- The view of member `m` changed. -/
def State.setPeer (s : State) (m : Nat) (f : PeerView → PeerView) : State :=
  { s with claims := { s.claims with peers := Map.upd {} s.claims.peers m f } }

/-- Peer link `l` is enabled and neither offline nor retired. -/
def State.linkUp (s : State) (l : Nat) : Bool := s.rd Reg.XL_STATUS_STATE l == 1

/-- Payload bytes of a peer-link frame, by the payload tables of 13_orders_journal.md and 14_redundancy_claims.md. -/
def PeerPayload.len (p : PeerPayload) : Nat :=
  let recs (o : OrderRec) : Nat := if o.value.length ≤ 20 then 1 else 1 + (o.value.length - 20 + 39) / 40
  match p with
  | .alarm _ => 172
  | .forward _ o => 16 + 64 * recs o
  | .copy _ os | .replay _ os => os.foldl (fun n o => n + 64 * recs o) 16
  | .image _ es _ => es.foldl (fun n e => n + 8 + (e.value.length + 7) / 8 * 8) 16
  | .ack _ | .commit _ | .fetch .. | .state .. | .fwdReturn .. => 24
  | .summary _ => 192
  | .allocation _ => 3856
  | .heartbeat _ => 24
  | .claim _ => 32
  | .zdp z => 28 + z.body.length

/-- Bits sent on link `l`, with those of ALARM frames, over the last 100 ms (R402). The links stand beside the MACs
in the egress table, XLl at 8 + l. -/
def State.noteLink (s : State) (l bytes : Nat) (alarm : Bool) : State :=
  let now := s.tb3
  { s with ports := { s.ports with tx := Map.upd {} s.ports.tx (8 + l) fun t =>
      { t with window := (now, bytes * 8, alarm) :: t.window.filter fun e => decide (now < e.1 + 100000000) } } }

/-- A frame put on link `l`. -/
def State.sendLink (s : State) (l : Nat) (alarm : Bool) (p : PeerPayload) : State :=
  let q := Map.get 0 s.ports.xlSeq l
  State.noteLink { s with ports := { s.ports with
      peerOut := s.ports.peerOut ++
        [{ link := l, seq := q, alarm := alarm, epoch := s.rd Reg.CG_CFG_EPOCH, payload := p }],
      xlSeq := Map.put s.ports.xlSeq l ((q + 1) % 2 ^ 32) } } l (16 + p.len) alarm

/-- A frame to member `m` on the first of its links that is up (TYPE 1 to 3). -/
def State.sendPeer (s : State) (m : Nat) (alarm : Bool) (p : PeerPayload) : State :=
  match (s.linksTo m).filter s.linkUp with
  | l :: _ => s.sendLink l alarm p
  | [] => s

/-- A frame to member `m` on both links of the pair (TYPE 4 to 7, R441). -/
def State.sendBoth (s : State) (m : Nat) (p : PeerPayload) : State :=
  ((s.linksTo m).filter s.linkUp).foldl (fun t l => t.sendLink l false p) s

/-- A frame to every other member. -/
def State.sendAll (s : State) (p : PeerPayload) : State := s.others.foldl (fun t m => t.sendPeer m false p) s

/-- A TYPE 4 to 7 frame to every other member, on both links. -/
def State.sendAllBoth (s : State) (p : PeerPayload) : State := s.others.foldl (fun t m => t.sendBoth m p) s

/-! ### Records (16_faults_health_logs.md) -/

/-- Code block of a hardware block. -/
def hwBlockCode : HwBlock → Nat
  | .gauge => 1 | .estimation => 2 | .visual => 3 | .planning => 4 | .ca => 5 | .loop => 6 | .lauter => 7
  | .pfu => 8 | .time => 9 | .can => 10 | .ports => 11 | .journal => 12 | .claims => 13 | .safety => 14
  | .health => 15 | .firmware => 16

/-- CODE of a record that a block raises. -/
def recordCode (b : HwBlock) (name : String) : Nat := hwBlockCode b * 256 + (Config.codeNumber name).toNat

/-- The instance by which health events are counted: the unit's kind. -/
def unitKind (unit : Nat) : Option Nat := if unit / 256 == 0 then none else some (unit / 256)

/-- Subscriptions of one entry. -/
def State.subsOf (s : State) (index sub : Nat) : List Sub :=
  s.zdp.subs.filter fun u => u.index == index && u.sub == sub

/-- Index of the next record of the ALARM stream beyond the ring and the overflow area. -/
def State.alarmEnd (s : State) : Nat := s.health.rhead + s.health.overflow.length

/-- The next slot of the ALARM ring still holds a record that a live subscription has not been sent (R527). -/
def State.slotHeld (s : State) : Bool :=
  (s.subsOf 0xB810 0x01).any fun u => decide (u.next + 4096 ≤ s.health.rhead)

/-- A record written into the next slot of the ALARM ring (R525). -/
def State.ringWrite (s : State) (a : AlarmRec) : State :=
  { s with health := { s.health with
      ring := Map.put s.health.ring (s.health.rhead % 4096) (some a), rhead := s.health.rhead + 1 } }

/-- A record taken by the ring or, behind a held slot, by the overflow area (R527). A full overflow area
takes no more. -/
def State.toRing (s : State) (a : AlarmRec) : State :=
  if !s.health.overflow.isEmpty || s.slotHeld then
    if s.health.overflow.length < 16384 then
      ({ s with health := { s.health with
          overflow := s.health.overflow ++ [{ a with overflowed := true }] } } : State).raise Reg.HL_IRQ_OVERFLOW
    else s
  else s.ringWrite a

/-- A record for the ring: held in hub memory while a dip holds Cask writes (R31). -/
def State.takeAlarm (s : State) (a : AlarmRec) : State :=
  if s.dip then { s with health := { s.health with held := s.health.held ++ [{ a with held := true }] } }
  else s.toRing a

/-- Members heard at present. -/
def State.heardPeers (s : State) : List Nat := s.others.filter fun m => (s.peer m).heard

/-- An own ALARM with the given words, numbered, written and copied to the heard peers (R525, R526). -/
def State.alarmWith (s : State) (code unit : Nat) (time : Stamp) (detail : List Word) (text : List Byte) : State :=
  let a : AlarmRec :=
    { aseq := (s.health.aseq + 1) % 2 ^ 32, node := s.node, code, time, unit, peerCopy := false,
      held := false, overflowed := false, osn := s.osnCommit, claim := s.rd Reg.CG_CLAIM_CLAIM, detail, text }
  let s := { s with health := { s.health with aseq := (s.health.aseq + 1) % 2 ^ 32 } }
  let s := (s.takeAlarm a).raise Reg.HL_IRQ_ALARM
  let s := s.count 0xA01 (unitKind unit)
  if s.control then s.heardPeers.foldl (fun t m => t.sendPeer m true (.alarm { a with peerCopy := true })) s else s

/-- The DETAIL of a record that a block raises: words whose content the spec does not print. -/
def State.freeDetail (s : State) (n : Nat) : List Word := (List.range n).map (Config.detailWord s.fresh)

/-- An ALARM that a hardware block raises about `unit` (0 for none), without the check of R527's last step. -/
def State.alarmCore (s : State) (b : HwBlock) (name : String) (unit : Nat) : State :=
  (s.alarmWith (recordCode b name) unit s.stamp (s.freeDetail 15) ((List.range 28).map (Config.textByte s.fresh))).nextFresh

/-- Subscriptions of the ALARM stream that have fallen 20,480 records behind are ended, each with an ALARM
(R527). -/
def State.endLostSubs (s : State) : State :=
  let lost := (s.subsOf 0xB810 0x01).filter fun u => decide (u.next + 20480 ≤ s.alarmEnd)
  lost.foldl (fun t u =>
    ((({ t with zdp := { t.zdp with subs := t.zdp.subs.filter fun v => v.id != u.id } } : State).raise
      Reg.HL_IRQ_SUB_LOST).setObjN Obj.LOG_SUBS_ENDED ((t.objN Obj.LOG_SUBS_ENDED + 1) % 2 ^ 32)).alarmCore
      .health "SUBSCRIPTION_ENDED" 0) s

/-- An ALARM that a hardware block raises. -/
def State.alarm (s : State) (b : HwBlock) (name : String) (unit : Nat := 0) : State :=
  (s.alarmCore b name unit).endLostSubs

/-- An EVENT or TRACE record put into the queue of each live subscription of the class, where it is not full. -/
def State.evPush (s : State) (r : LogRec) : State :=
  { s with
    zdp := { s.zdp with subs := s.zdp.subs.map fun u =>
      if u.index == 0xB820 && u.sub == 1 then
        (if u.evQueue.length < 1024 then { u with evQueue := u.evQueue ++ [r] }
         else { u with nseq := (u.nseq + 1) % 2 ^ 32 }) else u },
    health := { s.health with evRing :=
      (if s.health.evRing.length < 8192 then s.health.evRing else s.health.evRing.tail) ++ [r] } }

/-- An EVENT record issued (R528): SEQ, ring and queues. -/
def State.evIssue (s : State) (code unit count : Nat) (first last : Stamp) (coalesced : Bool)
    (detail : List Word) : State :=
  let q := (s.health.evSeq + 1) % 2 ^ 32
  ({ s with health := { s.health with evSeq := q } } : State).evPush
    { seq := q, node := s.node, code, first, last, count, unit, coalesced, gap := false, detail }

/-- The EVENT queue of some path is more than half full. -/
def State.evBusy (s : State) : Bool := (s.subsOf 0xB820 0x01).any fun u => decide (512 < u.evQueue.length)

/-- One raising of an EVENT of key (own node, CODE, UNIT) (R528): the record as it is raised, with its COUNT and
times. -/
def State.eventWith (s : State) (code unit count : Nat) (first last : Stamp) (detail : List Word) : State :=
  let key := code * 65536 + unit
  let k := Map.get {} s.health.keys key
  let sec := s.tb3 / 1000000000
  let n := (if k.second == sec then k.inSecond else 0) + 1
  let k := { k with second := sec, inSecond := n }
  let began := s.tb3
  let save (s : State) (k : EventKey) : State :=
    { s with health := { s.health with keys := Map.put s.health.keys key k } }
  let s := s.count 0xA02 (unitKind unit)
  if k.coalescing then
    save s { k with count := k.count + count, first := if k.count == 0 then first else k.first, last, detail }
  else if decide (s.objN Obj.LOG_EVENT_RATE < n) || s.evBusy then
    (save s { k with coalescing := true, began, count, first, last, detail }).incWrap Reg.HL_COALESCING_KEYS
  else (save s k).evIssue code unit count first last false detail

/-- An EVENT that a hardware block raises. -/
def State.event (s : State) (b : HwBlock) (name : String) (unit : Nat := 0) : State :=
  (s.eventWith (recordCode b name) unit 1 s.stamp s.stamp (s.freeDetail 7)).nextFresh

/-- A TRACE record put into the 256-entry queue of each path, or dropped and counted there (R529). -/
def State.traceWith (s : State) (code unit count : Nat) (first last : Stamp) (detail : List Word) : State :=
  if !s.objB Obj.LOG_TRACE_EN then s else
  let q := (s.health.trSeq + 1) % 2 ^ 32
  let now := s.stamp
  let r : LogRec :=
    { seq := q, node := s.node, code, first, last, count, unit, coalesced := false, gap := false, detail }
  let isTr (u : Sub) : Bool := u.index == 0xB828 && u.sub == 1
  let atCap (u : Sub) : Bool := isTr u && decide (256 ≤ u.trQueue.length)
  let drops := (s.zdp.subs.filter atCap).length
  let take (u : Sub) : Sub :=
    if atCap u then
      { u with trDropped := u.trDropped + 1, trFirst := if u.trDropped == 0 then now else u.trFirst, trLast := now }
    else if isTr u then
      { u with
        trQueue := u.trQueue ++ (if u.trDropped == 0 then [] else
          [{ r with gap := true, count := u.trDropped, first := u.trFirst, last := u.trLast }]) ++ [r],
        trDropped := 0 }
    else u
  let s := { s with
    health := { s.health with trSeq := q, lastTrace := some r },
    zdp := { s.zdp with subs := s.zdp.subs.map take } }
  (List.range drops).foldl (fun t _ => (t.incSat Reg.HL_TRACE_LOST_COUNT).count 0xA03 (unitKind unit)) s

/-! ### Units, history and access faults -/

/-- Unit code of a slot (table of R511): kind times 256 plus instance. -/
def unitOf (slot : Nat) : Nat :=
  if slot < 32 then 0x100 + slot
  else if slot < 96 then 0x200 + (slot - 32)
  else if slot < 99 then 0x300 + (slot - 96)
  else if slot < 103 then 0x400 + (slot - 99)
  else if slot < 111 then 0x500 + (slot - 103)
  else if slot < 127 then 0x600 + (slot - 111)
  else if slot < 135 then 0x700 + (slot - 127)
  else if slot < 167 then 0x800 + (slot - 135)
  else if slot < 199 then 0x900 + (slot - 167)
  else if slot < 455 then 0xA00 + (slot - 199)
  else 0xB00

/-- Slot of a unit code, where there is such a unit. -/
def slotOf (unit : Nat) : Option Nat :=
  let i := unit % 256
  match unit / 256 with
  | 1 => if i < 32 then some i else none
  | 2 => if i < 64 then some (32 + i) else none
  | 3 => if i < 3 then some (96 + i) else none
  | 4 => if i < 4 then some (99 + i) else none
  | 5 => if i < 8 then some (103 + i) else none
  | 6 => if i < 16 then some (111 + i) else none
  | 7 => if i < 8 then some (127 + i) else none
  | 8 => if i < 32 then some (135 + i) else none
  | 9 => if i < 32 then some (167 + i) else none
  | 10 => some (199 + i)
  | 11 => if i == 0 then some 455 else none
  | _ => none

/-- State of a unit. -/
def State.unit (s : State) (slot : Nat) : UnitSt := Map.get {} s.health.units slot

/-- The health block changed. -/
def State.setHealth (s : State) (f : HealthSt → HealthSt) : State := { s with health := f s.health }

/-- A unit's state changed. -/
def State.setUnit (s : State) (slot : Nat) (f : UnitSt → UnitSt) : State :=
  { s with health := { s.health with units := Map.upd {} s.health.units slot f } }

/-- The unit is retired (R511 to R518). -/
def State.retired (s : State) (slot : Nat) : Bool := decide (3 ≤ (s.unit slot).state)

/-- A retirement history record (R517): written to the ring of 768 with the unit's state entry, or held during a dip
(R523). -/
def State.history (s : State) (slot event cause node count osn : Nat) : State :=
  let q := (s.health.histSeq + 1) % 2 ^ 32
  let r : HistRec :=
    { seq := q, time := s.stamp, unit := unitOf slot, event, cause, node, count, osn,
      detail := Config.freeNat s.fresh }
  let s := ({ s with health := { s.health with histSeq := q } } : State).nextFresh
  let s := s.setUnit slot fun u => { u with histSeq := q }
  if s.dip then { s with health := { s.health with heldHist := s.health.heldHist ++ [r] } }
  else
    let u := s.unit slot
    { s with health := { s.health with
        table := Map.put s.health.table slot u
        history := (if s.health.history.length < 768 then s.health.history else s.health.history.tail) ++ [r] } }

/-- An access fault raised on core `c` (R18). -/
def State.accessFault (s : State) (c : Nat) (cause : AccessCause) (addr : Nat) : State :=
  { s with coreFaults := Map.put s.coreFaults c (some ⟨cause, addr⟩) }

/-- CRC-32 over `b` agrees with `c`. -/
def crcOk (b : List Byte) (c : BitVec 32) : Bool := crc32 b == c.toNat

end Sys2Proof.Machine
end

