-- ==== Sys2Proof/Machine/Counters.lean ====
section
/-! DEFINITION. The commands of the counters block (17_counters.md). -/

namespace Sys2Proof.Machine

/-- A field of the register file, at any of its places: `k` is one of the field's keys. -/
def Field.owns (f : Field) (k : Nat) : Bool :=
  let a := k / 32
  if k % 32 != f.lo || a < f.base then false else
  let o := a - f.base
  if f.banked then o % 2 ^ 32 == 0 && decide (o / 2 ^ 32 < f.n1)
  else
    let i := if f.s1 == 0 then 0 else o / f.s1
    let r := if f.s1 == 0 then o else o % f.s1
    decide (i < f.n1) && (if f.s2 == 0 then r == 0 else r % f.s2 == 0 && decide (r / f.s2 < f.n2))

/-- Every place of the given fields back at its reset value. -/
def State.resetFields (s : State) (fs : List Field) : State :=
  { s with regs := s.regs.filter fun p => !(fs.any fun f => f.owns p.1) }

/-- The fields of one live histogram that a clear returns to 0. -/
def State.histClear (s : State) (h : Nat) : State :=
  let s := (s.wr2 Reg.CNT_H_TOTAL_LO_TOTAL Reg.CNT_H_TOTAL_HI_TOTAL 0 h).wr Reg.CNT_H_MAX_MAX 0 h
  let s := s.wr2 Reg.CNT_H_SUM_LO_SUM Reg.CNT_H_SUM_HI_SUM 0 h
  (List.range 32).foldl (fun t i => t.wr Reg.CNT_H_BIN_COUNT 0 h i) s

/-- Every live count, overflow bit and live histogram cleared (CNT_CTRL.CLEAR_ALL). -/
def State.clearCounters (s : State) : State :=
  s.resetFields [Reg.CNT_EV_LO_COUNT, Reg.CNT_EV_HI_COUNT, Reg.CNT_OVF_OVF, Reg.CNT_H_TOTAL_LO_TOTAL,
    Reg.CNT_H_TOTAL_HI_TOTAL, Reg.CNT_H_MAX_MAX, Reg.CNT_H_SUM_LO_SUM, Reg.CNT_H_SUM_HI_SUM, Reg.CNT_H_BIN_COUNT]

/-- A selection written to CNT_EVn_CFG (R533, R535, R536). -/
def State.evConfigure (s : State) (n v : Nat) : State :=
  let s := (s.wr2 Reg.CNT_EV_LO_COUNT Reg.CNT_EV_HI_COUNT 0 n).clearBitIn Reg.CNT_OVF_OVF (n % 32) (n / 32)
  let s := s.put Reg.CNT_EV_CFG_EN (bitOf v 31) n
  let s := s.put Reg.CNT_EV_CFG_CHAIN (bitOf v 30 && n % 2 == 0) n
  let s := s.wr Reg.CNT_EV_CFG_FILTER (v / 2 ^ 16) n
  let s := s.wr Reg.CNT_EV_CFG_EVENT v n
  s.put Reg.CNT_EV_CFG_SEL_INVALID (!eventKnown (v % 2 ^ 12)) n

/-- A selection written to CNT_Hh_CFG (R538). -/
def State.histConfigure (s : State) (h v : Nat) : State :=
  let s := s.histClear h
  let s := s.put Reg.CNT_H_CFG_EN (bitOf v 31) h
  let s := s.wr Reg.CNT_H_CFG_SHIFT (v / 2 ^ 24) h
  let s := s.wr Reg.CNT_H_CFG_FILTER (v / 2 ^ 12) h
  s.wr Reg.CNT_H_CFG_SOURCE v h

/-- A field of every live histogram copied into the snapshot bank. -/
def State.histCopy (s : State) (src dst : Field) (m : Nat) : State :=
  (List.range 16).foldl (fun t h => (List.range m).foldl (fun t i => t.wr dst (t.rd src h i) h i) t) s

/-- The copy of every live count, overflow bit and histogram into the snapshot bank (R539). -/
def State.snapCopy (s : State) : State :=
  let s := (List.range 256).foldl (fun t n =>
    (t.wr Reg.CNT_SEV_LO_COUNT (t.rd Reg.CNT_EV_LO_COUNT n) n).wr Reg.CNT_SEV_HI_COUNT
      (t.rd Reg.CNT_EV_HI_COUNT n) n) s
  let s := (List.range 8).foldl (fun t j => t.wr Reg.CNT_SOVF_OVF (t.rd Reg.CNT_OVF_OVF j) j) s
  let s := s.histCopy Reg.CNT_H_CFG_EN Reg.CNT_SH_CFG_EN 1
  let s := s.histCopy Reg.CNT_H_CFG_SHIFT Reg.CNT_SH_CFG_SHIFT 1
  let s := s.histCopy Reg.CNT_H_CFG_FILTER Reg.CNT_SH_CFG_FILTER 1
  let s := s.histCopy Reg.CNT_H_CFG_SOURCE Reg.CNT_SH_CFG_SOURCE 1
  let s := s.histCopy Reg.CNT_H_TOTAL_LO_TOTAL Reg.CNT_SH_TOTAL_LO_TOTAL 1
  let s := s.histCopy Reg.CNT_H_TOTAL_HI_TOTAL Reg.CNT_SH_TOTAL_HI_TOTAL 1
  let s := s.histCopy Reg.CNT_H_MAX_MAX Reg.CNT_SH_MAX_MAX 1
  let s := s.histCopy Reg.CNT_H_SUM_LO_SUM Reg.CNT_SH_SUM_LO_SUM 1
  let s := s.histCopy Reg.CNT_H_SUM_HI_SUM Reg.CNT_SH_SUM_HI_SUM 1
  s.histCopy Reg.CNT_H_BIN_COUNT Reg.CNT_SH_BIN_COUNT 32

/-- A SNAP requested: ignored while one is being copied, else taken at this instant (R539, R540). -/
def State.snapRequest (s : State) : State :=
  if s.flag Reg.CNT_STATUS_SNAP_BUSY then s.raise Reg.CNT_STATUS_SNAP_IGNORED else
  let s := s.snapCopy
  let s := (s.wr Reg.CNT_SNAP_NS_NS (s.base 0).ns).wr Reg.CNT_SNAP_SEC_LO_SEC (s.base 0).sec.toNat
  let s := s.wr Reg.CNT_SNAP_SEC_HI_SEC ((s.base 0).sec.toNat / 2 ^ 32)
  let s := s.wr Reg.CNT_SNAP_SEC_HI_STEP_GEN (s.rd Reg.TB_STATUS_STEP_GEN 0)
  s.raise Reg.CNT_STATUS_SNAP_BUSY

/-- SNAP_AT as an instant of TB0, in ns. -/
def State.snapAt (s : State) : Nat :=
  (s.rd2 Reg.CNT_AT_SEC_LO_SEC Reg.CNT_AT_SEC_HI_SEC) * 1000000000 + s.rd Reg.CNT_AT_NS_NS

/-- SNAP_AT armed; an instant at or before the present TB0 fires at the next tick and is LATE (R540). -/
def State.snapArm (s : State) : State :=
  let s := s.raise Reg.CNT_STATUS_ARMED
  if s.snapAt ≤ s.now 0 then s.raise Reg.CNT_STATUS_SNAP_LATE else s

/-- CNT_EV_CFG_WRITE. -/
def execCntEvCfgWrite (n : Fin 256) (v : Word) (s : State) : Host.Outcome State Fault Refusal :=
  .next (s.evConfigure n v.toNat)

/-- CNT_H_CFG_WRITE. -/
def execCntHCfgWrite (h : Fin 16) (v : Word) (s : State) : Host.Outcome State Fault Refusal :=
  .next (s.histConfigure h v.toNat)

/-- CLEAR_ALL. -/
def execClearAll (s : State) : Host.Outcome State Fault Refusal := .next s.clearCounters

/-- CNT_SNAP. -/
def execCntSnap (s : State) : Host.Outcome State Fault Refusal := .next s.snapRequest

/-- ARM_AT. -/
def execArmAt (s : State) : Host.Outcome State Fault Refusal := .next s.snapArm

/-- SNAP_AT_FIRE: the armed instant fires, or is found to have been skipped by a forward step of TB0
(R330, R540). An instant that was LATE when armed fires whatever steps lie behind it. -/
def execSnapAtFire (s : State) : Host.Outcome State Fault Refusal :=
  if !s.flag Reg.CNT_STATUS_ARMED then .next s else
  let t := s.snapAt
  let b := s.base 0
  if s.flag Reg.CNT_STATUS_SNAP_LATE || s.fires 0 t then .next (s.wr Reg.CNT_STATUS_ARMED 0).snapRequest
  else if b.skipFrom < t ∧ t < b.skipTo ∧ t ≤ s.now 0 then
    .next ((s.wr Reg.CNT_STATUS_ARMED 0).raise Reg.CNT_STATUS_SNAP_MISSED)
  else .next s

/-- SNAP_PERIODIC: a whole multiple of SNAP_PERIOD_MS on TB3. -/
def execSnapPeriodic (s : State) : Host.Outcome State Fault Refusal :=
  .next (if s.flag Reg.CNT_PERIOD_SNAP_PERIOD_MS then s.snapRequest else s)

/-- SNAP_COMPLETE. -/
def execSnapComplete (s : State) : Host.Outcome State Fault Refusal :=
  .next (if s.flag Reg.CNT_STATUS_SNAP_BUSY then
    ((s.wr Reg.CNT_STATUS_SNAP_BUSY 0).incWrap Reg.CNT_STATUS_SNAP_SEQ).raise Reg.CNT_IRQ_SNAP_DONE else s)

end Sys2Proof.Machine
end

