-- ==== Sys2Proof/Machine/Dict.lean ====
section
/-! DEFINITION. The dictionary as the gate sees it (12_dictionary_ports.md): finding an entry, its rights,
scope and range, and the replies that leave a port. -/

namespace Sys2Proof.Machine

/-- An entry found: its row, its place in the row, and the scope bits of R595. -/
structure Found where
  entry : ObjDef
  i : Nat
  k : Nat
  setOrder : Bool
  deviceOrder : Bool
  deriving DecidableEq, Repr

/-- The row covers the index. -/
def ObjDef.hasIndex (o : ObjDef) (index : Nat) : Bool := decide (o.base ≤ index ∧ index < o.base + o.n)

/-- The row covers the subindex. -/
def ObjDef.hasSub (o : ObjDef) (sub : Nat) : Bool := decide (o.sub ≤ sub ∧ sub < o.sub + o.ns)

/-- The entry is an ACTION: some class holds the right o (R375). -/
def ObjDef.isAction (o : ObjDef) : Bool := o.acc.any (· == 3)

/-- Scope of an index of the manual (index map): 0 device, 1 set, 2 device or set. -/
def indexScope (index : Nat) : Nat :=
  if index < 0x2000 then 0
  else if index < 0x6000 then 1
  else if index < 0x7800 then 2
  else if index < 0x9000 then 0
  else if index < 0x9800 then 1
  else 0

/-- SET_ORDER and DEVICE_ORDER of an entry of the manual (R595). -/
def scopeBits (o : ObjDef) : Bool × Bool :=
  if o.isAction then (indexScope o.base != 0, indexScope o.base != 1) else (false, false)

/-- Every entry present: those of the manual and those of the running image (R379). -/
def State.entries (s : State) : List ObjDef := Obj.table ++ s.zdp.fw.map (·.entry)

/-- The index is present. -/
def State.hasIndex (s : State) (index : Nat) : Bool := s.entries.any (·.hasIndex index)

/-- The entry of an index and subindex. -/
def State.find (s : State) (index sub : Nat) : Option Found :=
  match Obj.table.find? fun o => o.hasIndex index && o.hasSub sub with
  | some o => some ⟨o, index - o.base, sub - o.sub, (scopeBits o).1, (scopeBits o).2⟩
  | none =>
    match s.zdp.fw.find? fun f => f.entry.hasIndex index && f.entry.hasSub sub with
    | some f => some ⟨f.entry, index - f.entry.base, sub - f.entry.sub, f.setOrder, f.deviceOrder⟩
    | none => none

/-- Highest subindex in use of an index (subindex 0x00, R375). -/
def State.topSub (s : State) (index : Nat) : Nat :=
  s.entries.foldl (fun m o => if o.hasIndex index then max m (o.sub + o.ns - 1) else m) 0

/-- Right of a class by the tables: 0 none, 1 r, 2 w, 3 o. In BENCH role ENGINEERING holds o on every entry that
grants w or o to any class, outside 0x9800–0x9FFF (R384). An image grants SAFETY and MAINT at most r, and o of
PEER or FIELD counts as w (R46). -/
def State.right (s : State) (o : ObjDef) (cls : Nat) : Nat :=
  let a := if cls = 0 then 0 else o.acc.getD (cls - 1) 0
  let a := if 0xC800 ≤ o.base ∧ o.base < 0xF000 then
      (if 5 ≤ cls then min a 1 else if (cls = 3 ∨ cls = 4) ∧ a = 3 then 2 else a) else a
  if s.bench && cls == 2 && o.acc.any (fun x => decide (2 ≤ x)) && !(decide (0x9800 ≤ o.base ∧ o.base < 0xA000)) then 3
  else a

/-- The class may read the entry. -/
def State.mayRead (s : State) (o : ObjDef) (cls : Nat) : Bool := decide (1 ≤ s.right o cls)

/-- The class may set the entry: w for a SETTING, o for an ACTION (R387). Under R384 the right o stands for
both. -/
def State.maySet (s : State) (o : ObjDef) (cls : Nat) : Bool :=
  if o.isAction then s.right o cls == 3 else decide (2 ≤ s.right o cls)

/-- The index names a block that does not work in the role in force (R379). -/
def State.roleBars (s : State) (index : Nat) : Bool :=
  let within (a b : Nat) : Bool := decide (a ≤ index ∧ index ≤ b)
  if s.gateRole then
    within 0x2000 0x3FFF || within 0x5000 0x5FFF || within 0x9000 0x9011 || within 0x8900 0x89FF
  else if s.control then within 0x9100 0x92FF
  else false

/-- A number is in a range whose ends may be open. -/
def inRange (lo hi : Option Rat) (x : Rat) : Bool :=
  (match lo with | some l => decide (l ≤ x) | none => true) && (match hi with | some h => decide (x ≤ h) | none => true)

/-- The TYPE check of R376 on the bytes of a value. -/
def ObjDef.typeOk (o : ObjDef) (b : List Byte) : Bool :=
  match o.ty with
  | .bool => b.length == 1 && decide (leNat b ≤ 1)
  | .time => b.length == 12 && leAt b 6 2 == 0 && decide (leAt b 8 4 < 1000000000)
  | .str => decide (o.len.1 ≤ b.length ∧ b.length ≤ 255) && utf8Ok (b.length + 1) b && decide (utf8Chars b ≤ o.len.2.1)
  | .blob => decide (o.len.1 ≤ b.length ∧ b.length ≤ o.len.2.1) && b.length % o.len.2.2 == 0
  | t => b.length == t.size

/-- The OUT_OF_RANGE check of R376 on a value. -/
def ObjDef.rangeOk (o : ObjDef) (v : Val) : Bool :=
  match o.ty with
  | .str | .blob | .time => true
  | .f32 => floatFinite 8 23 v.toNat && inRange o.lo o.hi (ofF32 v.toNat)
  | .f64 => floatFinite 11 52 v.toNat && inRange o.lo o.hi (ofF64 v.toNat)
  | t => inRange o.lo o.hi (t.value v.toNat)

/-- A message put on its way out of a port. -/
def State.sendZdp (s : State) (z : ZdpOut) : State := { s with zdp := { s.zdp with out := s.zdp.out ++ [z] } }

/-- A reply with a non-zero STATUS is counted, and sent while fewer than 100 have left the port in the second
(R388). -/
def State.sendReply (s : State) (z : ZdpOut) : State :=
  if z.status == 0 then s.sendZdp z else
  let n := Map.get 0 s.zdp.refusals z.port
  let s := { s with zdp := { s.zdp with
    refusals := Map.put s.zdp.refusals z.port (n + 1), refused := Map.upd 0 s.zdp.refused z.port (· + 1) } }
  let s := s.count 0x802 (some z.port)
  if n < 100 then s.sendZdp z else s

/-- Reply to an ORDER (R391): the identity, then the OSN. -/
def State.orderReply (s : State) (r : ReplyTo) (status osn : Nat) (duplicate : Bool) : State :=
  let s := if status == 0 then (s.latency 4 (some r.port) r.since s.tb3).latency 3 (some r.port) r.since s.tb3 else s
  s.sendReply
    { port := r.port, dst := r.src, kind := 3, flags := if duplicate then 32 else 0, tag := r.tag, index := r.index,
      sub := r.sub, status, seg := 0, body := leBytes 8 r.identity ++ leBytes 8 osn }

/-- A dictionary value set from the bytes of an order or WRITE. -/
def State.setEntry (s : State) (f : Found) (b : List Byte) : State :=
  s.setObj f.entry (Val.ofWire f.entry.ty b) f.i f.k

/-- The entry is a persistent set-scope ACTION: part of the IMAGE (R421). -/
def ObjDef.inImage (o : ObjDef) : Bool := o.isAction && o.persist && indexScope o.base == 1

/-- CONFIG_SIG (0x3000.0E): CRC-32 over the wire values of all persistent objects of 0x2000 to 0x34FF, in the order of
their indices (DEDUCED, log entry 61). -/
def State.configSig (s : State) : Nat :=
  let os : List ObjDef := Obj.table.filter fun o => o.persist && decide (0x2000 ≤ o.base ∧ o.base ≤ 0x34FF)
  let es : List (Nat × List Byte) := os.flatMap fun o =>
    (List.range o.n).flatMap fun i => (List.range o.ns).map fun k => (o.key i k, Val.wire o.ty (s.obj o i k))
  crc32 ((es.mergeSort fun a b => decide (a.1 ≤ b.1)).flatMap (·.2))

/-- Every value of the IMAGE. -/
def State.imageEntries (s : State) : List ImageEntry :=
  (Obj.table.filter (·.inImage)).flatMap fun o =>
    (List.range o.n).flatMap fun i => (List.range o.ns).map fun k =>
      ⟨o.base + i, o.sub + k, Val.wire o.ty (s.obj o i k)⟩

end Sys2Proof.Machine
end

