-- ==== Sys2Proof/Machine/Journal.lean ====
section
/-! DEFINITION. The journal engine (13_orders_journal.md): identities, records, the sequencer, acceptance,
commit, gap filling, dips, SOLO and FORK. -/

namespace Sys2Proof.Machine

/-! ### Orders, records and sequence numbers -/

/-- Records of an order whose value has `v` bytes (R407). -/
def nrecOf (v : Nat) : Nat := if v ≤ 20 then 1 else 1 + (v - 20 + 39) / 40

/-- Records of an order. -/
def orderNrec (o : OrderRec) : Nat := nrecOf o.value.length

/-- OSN of the last record of an order. -/
def orderEnd (o : OrderRec) : Nat := o.osn + orderNrec o - 1

/-- The head record (table of 13_orders_journal.md), CRC included. -/
def headRecord (o : OrderRec) : List Byte :=
  let b := leBytes 8 o.osn ++ leBytes 8 o.identity ++ [1, BitVec.ofNat 8 (orderNrec o)] ++
    leBytes 2 o.value.length ++ leBytes 2 o.index ++
    [BitVec.ofNat 8 o.sub, BitVec.ofNat 8 (ofBool o.device + 2 * ofBool o.solo)] ++
    leBytes 2 (if o.device then o.target else 0) ++ leBytes 2 o.entry ++
    [BitVec.ofNat 8 o.port, BitVec.ofNat 8 o.cls, BitVec.ofNat 8 o.epoch, 0] ++
    leBytes 4 o.time.ns ++ leBytes 4 o.time.sec ++ padTo 20 o.value
  b ++ leBytes 4 (crc32 b)

/-- Continuation record PART of an order. -/
def contRecord (o : OrderRec) (part : Nat) : List Byte :=
  let b := leBytes 8 (o.osn + part) ++ leBytes 8 o.identity ++ [2, BitVec.ofNat 8 part, 0, 0] ++
    padTo 40 (o.value.drop (20 + 40 * (part - 1)))
  b ++ leBytes 4 (crc32 b)

/-- Every record of an order, as the ring holds them (R408). -/
def orderRecords (o : OrderRec) : List (List Byte) :=
  headRecord o :: (List.range (orderNrec o - 1)).map fun p => contRecord o (p + 1)

/-- Highest OSN journalled. -/
def State.osnHigh (s : State) : Nat := s.rd2 Reg.JE_OSN_HIGH_LO_OSN Reg.JE_OSN_HIGH_HI_OSN

/-- Last OSN applied or passed over. -/
def State.osnApplied (s : State) : Nat := s.rd2 Reg.JE_OSN_APPLIED_LO_OSN Reg.JE_OSN_APPLIED_HI_OSN

/-- Oldest OSN held in the ring. -/
def State.osnOldest (s : State) : Nat := s.rd2 Reg.JE_OSN_OLDEST_LO_OSN Reg.JE_OSN_OLDEST_HI_OSN

/-- Journal state (JE_STATUS.STATE). -/
def State.jstate (s : State) : Nat := s.rd Reg.JE_STATUS_STATE

/-- Journal engine changed. -/
def State.setJ (s : State) (f : JournalSt → JournalSt) : State := { s with journal := f s.journal }

/-- Every order held, in Cask or in memory, written or being written, in OSN order of each part. -/
def State.heldOrders (s : State) : List OrderRec := s.journal.ring ++ s.journal.writing ++ s.journal.kept

/-- Highest OSN of any order held: the number after which the next one follows. -/
def State.lastOsn (s : State) : Nat := s.heldOrders.foldl (fun m o => max m (orderEnd o)) s.osnHigh

/-- Highest OSN below which no record is missing, in Cask or in memory. -/
def State.contiguous (s : State) : Nat :=
  s.heldOrders.foldl (fun m o => if o.osn == m + 1 then orderEnd o else m) s.osnHigh

/-- The member numbers its own orders: GATE and BENCH roles (R433), SOLO (R430), and a CONTROL part of no set
(DEDUCED, log entry 21). -/
def State.ownSequencer (s : State) : Bool := !s.inSet || s.jstate == 5

/-- This member is the sequencer in its own view. -/
def State.isSequencer (s : State) : Bool :=
  s.ownSequencer || (s.journal.seqView.isSome && s.journal.seqView == s.ownIndex)

/-- The window holds the identity: the OSN of its head (R408, R418, R420). -/
def State.windowFind (s : State) (identity : Nat) : Option Nat :=
  match s.journal.window.find? fun w => w.2 == identity && decide (s.osnHigh < w.1 + 2 ^ 20) with
  | some w => some w.1
  | none => none

/-- An order with the identity that is numbered and held but not yet in the window. -/
def State.inFlight (s : State) (identity : Nat) : Option OrderRec :=
  (s.journal.writing ++ s.journal.kept).find? fun o => o.identity == identity

/-- Bounded queue of JE_HOLD (R427): the entries held at present. -/
def State.heldCount (s : State) (f : JournalSt → JournalSt) : State :=
  let s := s.setJ f
  s.wr Reg.JE_HOLD_HELD (s.journal.held.filter fun e => !e.isPersist).length

/-- An entry for the held queue, or dropped without reply and counted when 64 are held (R427). -/
def State.hold (s : State) (e : HeldEntry) : State :=
  if (s.journal.held.filter fun e => !e.isPersist).length < 64 then s.heldCount fun j => { j with held := j.held ++ [e] }
  else
    ((s.incSat Reg.JE_HOLD_DROPPED).raise Reg.JE_IRQ_DROPPED).setObjN Obj.JE_DROPPED_HELD
      ((s.objN Obj.JE_DROPPED_HELD + 1) % 2 ^ 32)

/-! ### STATE, eligibility and the sequencer (R409, R413, R423) -/

/-- STATE sent on every peer link (R409). -/
def State.sendState (s : State) : State :=
  s.sendAllBoth (.state s.jstate s.osnHigh s.osnCommit)

/-- The journal state changed: eligibility span, interrupts, and STATE at once (R409). -/
def State.setJState (s : State) (st : Nat) : State :=
  if s.jstate == st then s else
  let s := s.wr Reg.JE_STATUS_STATE st
  let now := s.tb3
  let s := s.setJ fun j =>
    { j with since := if st == 2 then (match j.since with | some t => some t | none => some now)
                      else if st == 3 then j.since else none }
  s.sendState

/-- Member `m` is eligible, as this member judges it (R409). -/
def State.eligible (s : State) (m : Nat) : Bool :=
  let ok (st : Option Nat) (since : Option Nat) : Bool :=
    (st == some 2 || st == some 3) && (match since with | some t => s.elapsed t 1000000000 | none => false)
  if s.ownIndex == some m then ok (some s.jstate) s.journal.since
  else (s.peer m).heard && ok (s.peer m).jstate (s.peer m).since

/-- A FETCH sent to member `m`. -/
def State.sendFetch (s : State) (m first last : Nat) : State := s.sendPeer m false (.fetch first last)

/-- Orders split into groups of at most `room` records, oldest first. -/
def chunkOrders (room : Nat) : List OrderRec → List OrderRec → Nat → List (List OrderRec)
  | [], [], _ => []
  | [], acc, _ => [acc]
  | o :: os, acc, n =>
    if acc.isEmpty || n + orderNrec o ≤ room then chunkOrders room os (acc ++ [o]) (n + orderNrec o)
    else acc :: chunkOrders room os [o] (orderNrec o)

/-- COPY of orders to every other member, at most 63 records to a frame. -/
def State.sendCopies (s : State) (os : List OrderRec) : State :=
  (chunkOrders 63 os [] 0).foldl (fun t g => t.sendAll (.copy t.osnCommit g)) s

/-- An order forwarded to the sequencer in this member's view (R412). -/
def State.sendForward (s : State) (f : Forwarded) : State :=
  match s.journal.seqView with
  | some m => s.sendPeer m false (.forward f.tag f.order)
  | none => s

/-- Every forwarded order sent again (R413). -/
def State.resendForwards (s : State) : State :=
  let now := s.tb3
  let s := s.journal.forwards.foldl (fun t f => t.sendForward f) s
  s.setJ fun j => { j with forwards := j.forwards.map fun f => { f with sentAt := now } }

/-- An order of this member put among those forwarded, and sent. -/
def State.forwardNew (s : State) (o : OrderRec) : State :=
  let f : Forwarded := ⟨s.journal.nextTag % 2 ^ 32, o, s.tb3⟩
  (s.setJ fun j => { j with forwards := j.forwards ++ [f], nextTag := j.nextTag + 1 }).sendForward f

/-- Orders that wait for an OSN given back to their entry members, when this member is sequencer no longer
(R413). -/
def State.returnWaiting (s : State) : State :=
  let ws := s.journal.waiting
  let s := s.setJ fun j => { j with waiting := [] }
  ws.foldl (fun t w =>
    match w.fwd with
    | some (m, tag) => t.sendPeer m false (.fwdReturn tag 0xFF 0)
    | none => t.forwardNew w.order) s

/-- The sequencer in this member's view chosen again: the eligible member of lowest index (R409). A member
that comes to regard itself as sequencer first fetches what the eligible members hold (R423); one that stops
returns what it has not numbered (R413). -/
def State.chooseSequencer (s : State) : State :=
  let view := if s.ownSequencer then s.ownIndex else (([0, 1, 2] : List Nat).filter s.eligible).head?
  let own := s.ownSequencer || (view.isSome && view == s.ownIndex)
  let was := s.isSequencer
  let node : Nat :=
    if own then s.node else match view with
      | some 0 => s.rd Reg.CG_MEMBER01_MEMBER0
      | some 1 => s.rd Reg.CG_MEMBER01_MEMBER1
      | some 2 => s.rd Reg.CG_MEMBER2_MEMBER2
      | _ => 0
  let valid := own || view.isSome
  let changed := s.rd Reg.JE_STATUS_SEQ_NODE != node || s.flag Reg.JE_STATUS_SEQ_VALID != valid
  let s := ((s.wr Reg.JE_STATUS_SEQ_NODE node).put Reg.JE_STATUS_SEQ_VALID valid).put Reg.JE_STATUS_SEQUENCER own
  let s := if changed then s.raise Reg.JE_IRQ_SEQ_CHANGE else s
  if s.journal.seqView == view && was == own then s else
  let s := s.setJ fun j => { j with seqView := view }
  let s := if was && !own then s.returnWaiting else s
  let s := if own && !was then
      let ask := s.others.filter s.eligible
      let s := s.setJ fun j => { j with takeover := !ask.isEmpty, awaiting := ask }
      ask.foldl (fun t m => t.sendFetch m (t.lastOsn + 1) 0) s
    else s
  s.resendForwards

/-! ### Commit, replies and application -/

/-- Replies owed for an identity sent, and removed: the first copy without DUPLICATE (R412, R419). -/
def State.payReplies (s : State) (identity osn : Nat) : State :=
  let rs := s.journal.replies.filter (·.identity == identity)
  let s := s.setJ fun j =>
    { j with
      replies := j.replies.filter (·.identity != identity)
      forwards := j.forwards.filter (·.order.identity != identity) }
  (rs.foldl (fun (p : State × Bool) r => (p.1.orderReply r 0 osn (r.duplicate || p.2), true)) (s, false)).1

/-- Replies owed for an identity refused with a reason code. -/
def State.refuseReplies (s : State) (identity reason : Nat) : State :=
  let rs := s.journal.replies.filter (·.identity == identity)
  let s := s.setJ fun j =>
    { j with
      replies := j.replies.filter (·.identity != identity)
      forwards := j.forwards.filter (·.order.identity != identity) }
  rs.foldl (fun t r => t.orderReply r reason 0 false) s

/-- The commit point moved up to `c`, over orders that this member holds: interrupt, event 0x803, replies. -/
def State.commitTo (s : State) (c : Nat) : State :=
  let old := s.osnCommit
  let c := min c s.contiguous
  if c ≤ old then s else
  let os := s.heldOrders.filter fun o => decide (old < o.osn) && decide (orderEnd o ≤ c)
  let now := s.tb3
  let s := (s.wr2 Reg.JE_OSN_COMMIT_LO_OSN Reg.JE_OSN_COMMIT_HI_OSN c).raise Reg.JE_IRQ_COMMIT
  let s := s.setObjN Obj.JE_OSN_COMMIT c
  let s := s.setJ fun j => { j with committedAt := j.committedAt ++ os.map fun o => (o.osn, now) }
  os.foldl (fun t o => (t.count 0x803 none).payReplies o.identity o.osn) s

/-- The commit rule of R411 at the sequencer: the own Cask write is complete and, in a set outside SOLO, an ACK
of another member covers the order. The new commit point goes to every member. -/
def State.tryCommit (s : State) : State :=
  let cover : Nat := if s.ownSequencer then s.osnHigh else
    min s.osnHigh (s.others.foldl (fun m i => max m (s.peer i).acked) 0)
  let ends := (s.journal.ring.filter fun o => decide (orderEnd o ≤ cover)).map orderEnd
  let c := ends.foldl max s.osnCommit
  if c ≤ s.osnCommit then s else
  let t := s.commitTo c
  if s.ownSequencer then t else t.sendAll (.commit t.osnCommit)

/-- A Cask write of records started: held in memory during a dip (R426) and after a Cask fault (R432). -/
def State.startWrite (s : State) (os : List OrderRec) : State :=
  if s.dip || s.jstate == 7 then s.setJ fun j => { j with kept := j.kept ++ os }
  else s.setJ fun j => { j with writing := j.writing ++ os }

/-- Records put into the ring and their identities into the window (R408), the ring limited to 65,536 OSNs and
the window to 2²⁰. -/
def State.ringStore (s : State) (os : List OrderRec) : State :=
  let high := os.foldl (fun m o => max m (orderEnd o)) s.osnHigh
  let s := s.setJ fun j =>
    { j with
      ring := (j.ring ++ os).filter fun o => decide (high < o.osn + 65536)
      window := (j.window ++ os.map fun o => (o.osn, o.identity)).filter fun w => decide (high < w.1 + 2 ^ 20) }
  let s := (s.wr2 Reg.JE_OSN_HIGH_LO_OSN Reg.JE_OSN_HIGH_HI_OSN high).setObjN Obj.JE_OSN_HIGH high
  let oldest := match s.journal.ring with | o :: _ => o.osn | [] => 0
  let s := s.wr2 Reg.JE_OSN_OLDEST_LO_OSN Reg.JE_OSN_OLDEST_HI_OSN oldest
  os.foldl (fun t o => (List.range (orderNrec o)).foldl (fun u _ => u.count 0x805 none) t) s

/-- After records have been written: a COPY and the commit rule at a sequencer, an ACK to the sequencer else
(R410, R411). -/
def State.afterWrite (s : State) (os : List OrderRec) : State :=
  if s.isSequencer then
    let now := s.tb3
    let s := if s.ownSequencer then s else
      (s.setJ fun j => { j with copiedAt := j.copiedAt ++ os.map fun o => (orderEnd o, now) }).sendCopies os
    s.tryCommit
  else match s.journal.seqView with
    | some m => s.sendPeer m false (.ack s.osnHigh)
    | none => s

/-- CASK_WRITE_COMPLETE: the oldest write of an order's records and window entry is complete (R408, R411). -/
def execCaskWriteComplete (s : State) : Host.Outcome State Fault Refusal :=
  match s.journal.writing with
  | o :: rest =>
    .next (((s.setJ fun j => { j with writing := rest }).ringStore [o]).afterWrite [o])
  | [] => .next s

/-! ### Acceptance (R412 to R414, R418, R419) -/

/-- OSNs given out in the TB3 second that runs. -/
def State.givenNow (s : State) : Nat := if s.journal.givenSecond == s.tb3 / 1000000000 then s.journal.given else 0

/-- An order given its OSNs by the sequencer and written (R412). -/
def State.giveOsn (s : State) (o : OrderRec) : State :=
  let o := { o with
    osn := s.lastOsn + 1
    epoch := if s.control then s.rd Reg.CG_CFG_EPOCH else 0
    solo := s.jstate == 5
    time := s.stamp }
  let sec := s.tb3 / 1000000000
  let g := s.givenNow + orderNrec o
  (s.setJ fun j => { j with givenSecond := sec, given := g }).startWrite [o]

/-- The rate of R414 allows the order, none waits ahead of it and no takeover runs. -/
def State.mayNumber (s : State) (o : OrderRec) : Bool :=
  decide (s.givenNow + orderNrec o ≤ 1000) && s.journal.waiting.isEmpty && !s.journal.takeover

/-- An order at the sequencer: numbered, or waiting in arrival order, or refused with BUSY behind 256 (R414). -/
def State.sequence (s : State) (o : OrderRec) (fwd : Option (Nat × Nat)) : State :=
  if s.mayNumber o then s.giveOsn o
  else if s.journal.waiting.length < 256 then s.setJ fun j => { j with waiting := j.waiting ++ [⟨o, fwd⟩] }
  else match fwd with
    | some (m, tag) => s.sendPeer m false (.fwdReturn tag 16 0)
    | none => s.refuseReplies o.identity 16

/-- The identity belongs to an order held, forwarded, waiting or numbered, not yet committed (R419). -/
def State.pendingIdentity (s : State) (identity : Nat) : Bool :=
  (s.inFlight identity).isSome ||
  s.journal.waiting.any (fun w => w.order.identity == identity) ||
  s.journal.forwards.any (fun f => f.order.identity == identity) ||
  s.journal.held.any (fun e => match e with
    | .own o | .fwd o _ _ => o.identity == identity
    | _ => false) ||
  (match s.windowFind identity with | some n => decide (s.osnCommit < n) | none => false)

/-- A duplicate answered, or made to wait for the commit of its first acceptance (R418, R419); `none` where the
identity is new. -/
def State.duplicateCheck (s : State) (r : ReplyTo) : Option State :=
  let counted (s : State) : State := s.setObjN Obj.JE_DUPLICATES ((s.objN Obj.JE_DUPLICATES + 1) % 2 ^ 32)
  match s.windowFind r.identity with
  | some n =>
    let t := ((counted s).incSat Reg.JE_DUPS_WINDOW).count 0x804 (some r.port)
    if n ≤ s.osnCommit then some (t.orderReply { r with duplicate := true } 0 n true)
    else some (t.setJ fun j => { j with replies := j.replies ++ [{ r with duplicate := true }] })
  | none =>
    if s.pendingIdentity r.identity then
      let t := ((counted s).incSat Reg.JE_DUPS_IN_FLIGHT).count 0x804 (some r.port)
      some (t.setJ fun j => { j with replies := j.replies ++ [{ r with duplicate := true }] })
    else none

/-- An order that has passed the checks of R387 and the duplicate check, at its entry member (R412). -/
def State.acceptOrder (s : State) (o : OrderRec) (r : Option ReplyTo) : State :=
  if s.dip then
    if s.journal.held.length < 64 then
      (s.hold (.own o)).setJ fun j => { j with replies := j.replies ++ r.toList }
    else s.hold (.own o)
  else
    let s := s.setJ fun j => { j with replies := j.replies ++ r.toList }
    if s.isSequencer then s.sequence o none else s.forwardNew o

/-- FORWARD: an order forwarded by another member (R412, R413, R419, R427). -/
def execForward (i : Member) (tag : Word) (o : OrderRec) (s : State) : Host.Outcome State Fault Refusal :=
  match s.windowFind o.identity with
  | some n => .next (s.sendPeer i false (.fwdReturn tag.toNat 0 n))
  | none =>
    match s.inFlight o.identity with
    | some q => .next (s.sendPeer i false (.fwdReturn tag.toNat 0 q.osn))
    | none =>
      if s.pendingIdentity o.identity then .next s
      else if s.dip then .next (s.hold (.fwd o i tag.toNat))
      else if s.isSequencer then .next (s.sequence o (some (i.val, tag.toNat)))
      else .next (s.sendPeer i false (.fwdReturn tag.toNat 0xFF 0))

/-- ORDER_QUEUE_RELEASE: the order that has waited longest is numbered when the rate allows (R414). -/
def execOrderQueueRelease (s : State) : Host.Outcome State Fault Refusal :=
  match s.journal.waiting with
  | w :: rest =>
    if s.isSequencer && !s.journal.takeover && !s.dip && decide (s.givenNow + orderNrec w.order ≤ 1000) then
      .next ((s.setJ fun j => { j with waiting := rest }).giveOsn w.order)
    else .next s
  | [] => .next s

/-- FORWARD_REPEAT: every order forwarded 100 ms ago or more and not answered is forwarded again (R413). -/
def execForwardRepeat (s : State) : Host.Outcome State Fault Refusal :=
  let now := s.tb3
  let due := s.journal.forwards.filter fun f => s.elapsed f.sentAt 100000000
  let t := due.foldl (fun t f => t.sendForward f) s
  let mark (f : Forwarded) : Forwarded := if s.elapsed f.sentAt 100000000 then { f with sentAt := now } else f
  .next (t.setJ fun j => { j with forwards := j.forwards.map mark })

/-- FWD_RETURN: an order handed back (R413), an identity already numbered (R419), or a refusal. -/
def execFwdReturn (i : Member) (tag : Word) (code : BitVec 8) (osn : BitVec 64) (s : State) :
    Host.Outcome State Fault Refusal :=
  match s.journal.forwards.find? fun f => f.tag == tag.toNat with
  | none => .next s
  | some f =>
    let drop := s.setJ fun j => { j with forwards := j.forwards.filter fun g => g.tag != tag.toNat }
    if code = 0xFF then
      if s.isSequencer then .next (drop.sequence f.order none)
      else if s.journal.seqView = some i.val then .next s
      else .next (s.sendForward f)
    else if code = 0 then
      let mark := drop.setJ fun j => { j with replies := j.replies.map fun r =>
        if r.identity == f.order.identity then { r with duplicate := true } else r }
      if osn.toNat ≤ s.osnCommit then .next (mark.payReplies f.order.identity osn.toNat) else .next mark
    else .next (drop.refuseReplies f.order.identity code.toNat)

/-! ### COPY, REPLAY, IMAGE, FETCH, ACK, COMMIT, STATE -/

/-- The member is heard; a SOLO member that hears a peer leaves SOLO and synchronizes (R430, R442). -/
def State.hear (s : State) (m : Nat) : State :=
  let now := s.tb3
  let s := s.setPeer m fun p =>
    { p with lastFrame := some now, heard := true, heardSince := if p.heard then p.heardSince else some now }
  let s := s.setJ fun j => { j with lastPeer := now }
  if s.jstate == 5 then
    let s := (s.setJState 1).setJ fun j => { j with seqView := none }
    s.sendFetch m (s.osnHigh + 1) 0
  else s

/-- FORK entered at the first OSN not shared (R431). -/
def State.enterFork (s : State) (at_ : Nat) : State :=
  let s := (s.setJState 6).setJ fun j => { j with forkAt := at_ }
  ((s.raise Reg.JE_IRQ_FORK).alarm .journal "FORK").chooseSequencer

/-- Every record from OSN `n` on discarded, with its window entry (R422, R431). -/
def State.discardFrom (s : State) (n : Nat) : State :=
  let keep (o : OrderRec) : Bool := decide (o.osn < n)
  let s := s.setJ fun j =>
    { j with ring := j.ring.filter keep, writing := j.writing.filter keep, kept := j.kept.filter keep,
             gap := j.gap.filter keep, window := j.window.filter fun w => decide (w.1 < n) }
  let high := min s.osnHigh (n - 1)
  (s.wr2 Reg.JE_OSN_HIGH_LO_OSN Reg.JE_OSN_HIGH_HI_OSN high).setObjN Obj.JE_OSN_HIGH high

/-- One received order placed: skipped when held already, replacing an uncommitted difference, entering FORK at
a committed one, written when it follows, or kept for a gap to fill (R410, R422). -/
def State.takeOrder (s : State) (o : OrderRec) : State :=
  if s.jstate == 6 then s else
  let last := s.lastOsn
  if o.osn ≤ last then
    match s.heldOrders.find? fun q => q.osn == o.osn with
    | some q =>
      if q == o then s
      else if s.osnCommit < o.osn then (s.discardFrom o.osn).startWrite [o]
      else s.enterFork o.osn
    | none => s
  else if o.osn == last + 1 then
    if s.dip && decide (1024 < (s.journal.kept.foldl (fun n q => n + orderNrec q) 0) + orderNrec o) then s
    else s.startWrite [o]
  else s.setJ fun j => { j with gap := j.gap ++ [o] }

/-- Orders that waited for a gap placed once it is filled (R410). -/
def State.fillGap (s : State) : State :=
  let g := s.journal.gap
  let s := s.setJ fun j => { j with gap := [] }
  g.foldl (fun t o => t.takeOrder o) s

/-- The member becomes SYNCED when its highest OSN equals the sequencer's commit point, or, with no sequencer in
view, the highest commit point of any heard member and itself (R425). -/
def State.trySync (s : State) : State :=
  if s.jstate != 1 then s else
  let target := match s.journal.seqView with
    | some m => if s.ownIndex == some m then s.osnCommit else (s.peer m).commit
    | none => s.heardPeers.foldl (fun c m => max c (s.peer m).commit) s.osnCommit
  if s.heardPeers.isEmpty then s
  else if s.contiguous == target then (s.setJState 2).chooseSequencer else s

/-- The takeover of R423 ends: COPY of every record above the commit point, and the commit rule. -/
def State.takeoverDone (s : State) : State :=
  let s := s.setJ fun j => { j with takeover := false, awaiting := [] }
  let os := s.journal.ring.filter fun o => decide (s.osnCommit < o.osn)
  (s.sendCopies os).tryCommit

/-- COPY: taken only from the member regarded as sequencer (R410). -/
def execCopy (i : Member) (commit : BitVec 64) (os : List OrderRec) (s : State) : Host.Outcome State Fault Refusal :=
  let s := s.hear i
  if s.journal.seqView != some i.val then .next s else
  let s := (s.setPeer i fun p => { p with commit := max p.commit commit.toNat })
  let s := (os.foldl (fun t o => t.takeOrder o) s).fillGap
  let s := match s.journal.gap with
    | o :: _ => s.sendFetch i (s.lastOsn + 1) (o.osn - 1)
    | [] => s
  .next ((s.commitTo commit.toNat).trySync)

/-- REPLAY: the answer to a FETCH (R421, R422, R423, R425). -/
def execReplay (i : Member) (commit : BitVec 64) (os : List OrderRec) (s : State) :
    Host.Outcome State Fault Refusal :=
  let s := s.hear i
  let s := (s.setPeer i fun p => { p with commit := max p.commit commit.toNat })
  let s := (os.foldl (fun t o => t.takeOrder o) s).fillGap
  let s := s.setJ fun j => { j with awaiting := j.awaiting.filter (· != i.val) }
  let s := if s.journal.takeover && s.journal.awaiting.isEmpty then s.takeoverDone else s.commitTo commit.toNat
  .next s.trySync

/-- IMAGE: every persistent set-scope ACTION value set, and with the last frame the OSNs at which it stands
(R421, R425, R431). -/
def execImage (i : Member) (osn : BitVec 64) (entries : List ImageEntry) (last : Bool) (s : State) :
    Host.Outcome State Fault Refusal :=
  let s := s.hear i
  if s.jstate != 1 then .next s else
  let put (t : State) (e : ImageEntry) : State :=
    match t.find e.index e.sub with
    | some f => if f.entry.inImage then t.setEntry f e.value else t
    | none => t
  let s := entries.foldl put s
  let s := s.setJ fun j => { j with image := some osn.toNat }
  if last then
    let n := osn.toNat
    let s := (s.wr2 Reg.JE_OSN_HIGH_LO_OSN Reg.JE_OSN_HIGH_HI_OSN n).setObjN Obj.JE_OSN_HIGH n
    let s := (s.wr2 Reg.JE_OSN_COMMIT_LO_OSN Reg.JE_OSN_COMMIT_HI_OSN n).setObjN Obj.JE_OSN_COMMIT n
    let s := (s.wr2 Reg.JE_OSN_APPLIED_LO_OSN Reg.JE_OSN_APPLIED_HI_OSN n).setObjN Obj.JE_OSN_APPLIED n
    let s := s.wr Reg.CG_CFG_EPOCH (s.objN Obj.CLAIM_EPOCH)
    let s := s.setJ fun j => { j with ring := j.ring.filter fun o => decide (o.osn ≤ n) }
    .next s.trySync
  else .next s

/-- Image entries split into frames of at most 4,080 payload bytes. -/
def chunkEntries : List ImageEntry → List ImageEntry → Nat → List (List ImageEntry)
  | [], acc, _ => [acc]
  | e :: es, acc, n =>
    let w := 8 + (e.value.length + 7) / 8 * 8
    if n + w ≤ 4080 then chunkEntries es (acc ++ [e]) (n + w) else acc :: chunkEntries es [e] w

/-- The IMAGE sent to member `m`, its last frame marked LAST. -/
def State.sendImage (s : State) (m : Nat) : State :=
  let frames := chunkEntries s.imageEntries [] 0
  let n := frames.length
  (frames.foldl (fun (p : State × Nat) f =>
    (p.1.sendPeer m false (.image s.osnApplied f (p.2 + 1 == n)), p.2 + 1)) (s, 0)).1

/-- FETCH: answered with REPLAY of every OSN held in the range, preceded by the IMAGE when the first OSN wanted
is older than the ring (R421). -/
def execFetch (i : Member) (first lastOsn : BitVec 64) (s : State) : Host.Outcome State Fault Refusal :=
  let s := s.hear i
  let old := decide (first.toNat < s.osnOldest)
  let s := if old then s.sendImage i else s
  let lo := if old then s.osnApplied + 1 else first.toNat
  let os := (s.journal.ring ++ s.journal.kept).filter fun o =>
    decide (lo ≤ orderEnd o) && (lastOsn == 0 || decide (o.osn ≤ lastOsn.toNat))
  match chunkOrders 63 os [] 0 with
  | [] => .next (s.sendPeer i false (.replay s.osnCommit []))
  | gs => .next (gs.foldl (fun t g => t.sendPeer i false (.replay t.osnCommit g)) s)

/-- ACK: the first ACK that covers a COPY ends its round-trip time; orders may commit (R411). -/
def execAck (i : Member) (osn : BitVec 64) (s : State) : Host.Outcome State Fault Refusal :=
  let s := s.hear i
  let now := s.tb3
  let s := s.setPeer i fun p => { p with acked := max p.acked osn.toNat }
  let done := s.journal.copiedAt.filter fun c => decide (c.1 ≤ osn.toNat)
  let s := s.setJ fun j => { j with copiedAt := j.copiedAt.filter fun c => decide (osn.toNat < c.1) }
  let s := done.foldl (fun t c => t.latency 8 none c.2 now) s
  .next s.tryCommit

/-- COMMIT: the sequencer's commit point (R411, R412). -/
def execCommit (i : Member) (osn : BitVec 64) (s : State) : Host.Outcome State Fault Refusal :=
  let s := (s.hear i).setPeer i fun p => { p with commit := max p.commit osn.toNat }
  .next ((s.commitTo osn.toNat).trySync)

/-- STATE: the sender's journal state, its span of eligibility and its OSNs (R409). -/
def execState (i : Member) (code : BitVec 8) (high commit : BitVec 64) (s : State) :
    Host.Outcome State Fault Refusal :=
  let s := s.hear i
  let now := s.tb3
  let s := s.setPeer i fun p =>
    { p with
      jstate := some code.toNat, osnHigh := high.toNat, commit := commit.toNat
      since := if code == 2 then (match p.since with | some t => some t | none => some now)
               else if code == 3 then p.since else none }
  .next (s.chooseSequencer.trySync)

/-- STATE_SEND. -/
def execStateSend (s : State) : Host.Outcome State Fault Refusal := .next s.sendState

/-- JE_FETCH: a write of 1 to JE_CTRL.FETCH sends a FETCH from the highest OSN to the sequencer. -/
def execJeFetch (s : State) : Host.Outcome State Fault Refusal :=
  match s.journal.seqView with
  | some m => .next (s.sendFetch m s.osnHigh 0)
  | none => .next s

/-- PEER_SILENCE: no frame of the member for 50 ms; the sequencer is chosen again (R409). -/
def execPeerSilence (i : Member) (s : State) : Host.Outcome State Fault Refusal :=
  let quiet : Bool := match (s.peer i).lastFrame with | some t => s.elapsed t 50000000 | none => true
  if quiet then
    .next (s.setPeer i fun p => { p with heard := false, heardSince := none }).chooseSequencer
  else .next s

/-- ELIGIBILITY_RESTORE: this member, or a member in its view, has been SYNCED for 1 s (R409, R429). -/
def execEligibilityRestore (s : State) : Host.Outcome State Fault Refusal := .next s.chooseSequencer

/-- SOLO_ENTRY (R430): a SYNCED or FETCHING member of CONTROL role with SOLO_ALLOWED that has heard no other
member for SOLO_DELAY. -/
def execSoloEntry (s : State) : Host.Outcome State Fault Refusal :=
  if s.control && s.objB Obj.JE_SOLO_ALLOWED && (s.jstate == 1 || s.jstate == 2) &&
      s.elapsed s.journal.lastPeer (s.objN Obj.JE_SOLO_DELAY * 1000000) then
    let s := if s.jstate == 1 then s.commitTo s.osnHigh else s
    let s := (s.setJState 5).alarm .journal "SOLO"
    .next (s.chooseSequencer.tryCommit)
  else .next s

/-! ### Application (R415 to R417, R436) -/

/-- An order that only another member applies (R415). -/
def State.passesOver (s : State) (o : OrderRec) : Bool := o.device && o.target != s.node

/-- In a dip, what Cask still holds of an entry that an application is about to change (R31, R436). -/
def State.keepOld (s : State) (o : ObjDef) (i k : Nat) : State :=
  if s.dip then
    let old : HeldEntry := .persist (o.key i k) (s.obj o i k)
    s.setJ fun j => { j with held := j.held ++ [old] }
  else s

/-- OSN_APPLIED advanced. -/
def State.setApplied (s : State) (n : Nat) : State :=
  let s := s.keepOld Obj.JE_OSN_APPLIED 0 0
  (s.wr2 Reg.JE_OSN_APPLIED_LO_OSN Reg.JE_OSN_APPLIED_HI_OSN n).setObjN Obj.JE_OSN_APPLIED n

/-- Orders passed over at the front of those committed and not applied. -/
def State.skipForeign (s : State) : List OrderRec → State
  | [] => s
  | o :: os => if s.passesOver o then (s.setApplied (orderEnd o)).skipForeign os else s

/-- Orders committed and not yet applied, in OSN order. -/
def State.toApply (s : State) : List OrderRec :=
  s.heldOrders.filter fun o => decide (s.osnApplied < o.osn) && decide (orderEnd o ≤ s.osnCommit)

/-- The application of the next committed order opens, in OSN order; orders addressed to another device are passed
over (R415, R417). In FORK nothing further is applied. -/
def State.openNext (s : State) : State :=
  if s.journal.apply.isSome || s.jstate == 6 then s else
  let s := s.skipForeign s.toApply
  match s.toApply with
  | o :: _ =>
    let now := s.tb3
    let s := s.setJ fun j => { j with apply := some ⟨o.osn, now, false⟩ }
    let s := (s.raise Reg.JE_STATUS_APPLY_OPEN).raise Reg.JE_IRQ_APPLY_READY
    let s := (s.raise Reg.JE_APPLY_REC_VALID).wr Reg.JE_APPLY_REC_NREC (orderNrec o)
    s.wr Reg.JE_APPLY_REC_SLOT (o.osn % 65536)
  | [] => s

/-- APPLY_READY. -/
def execApplyReady (s : State) : Host.Outcome State Fault Refusal := .next s.openNext

/-- APPLY_SLOW: an application open for 100 ms raises one ALARM and is not skipped. -/
def execApplySlow (s : State) : Host.Outcome State Fault Refusal :=
  match s.journal.apply with
  | some a =>
    if s.elapsed a.since 100000000 && !a.slow then
      .next (((s.setJ fun j => { j with apply := some { a with slow := true } }).raise Reg.JE_IRQ_APPLY_SLOW).alarm
        .journal "APPLY_SLOW")
    else .next s
  | none => .next s

/-! ### Dips (R426 to R429) -/

/-- The dip begins: a SYNCED or SOLO member is HELD (R426). -/
def State.journalDip (s : State) : State :=
  if s.jstate == 2 || s.jstate == 5 then
    let st := s.jstate
    ((s.setJ fun j => { j with before := st }).setJState 3).raise Reg.JE_IRQ_HELD
  else s

/-- The dip reaches 500 ms: a HELD member is PAUSED and returns every forwarded order it holds (R428). The PAUSED
state acts in a set; outside it R433 leaves the peer steps out. -/
def State.journalPause (s : State) : State :=
  if s.jstate != 3 || !s.inSet then s else
  let s := ((s.setJState 4).raise Reg.JE_IRQ_PAUSED).alarm .journal "PAUSED"
  let back := s.journal.held.filterMap fun e => match e with | .fwd _ m tag => some (m, tag) | _ => none
  let s := s.heldCount fun j => { j with held := j.held.filter fun e => match e with | .fwd .. => false | _ => true }
  (back.foldl (fun t b => t.sendPeer b.1 false (.fwdReturn b.2 0xFF 0)) s).chooseSequencer

/-- A held entry completed in the sparge (R396, R429). -/
def State.completeHeld (s : State) (e : HeldEntry) : State :=
  match e with
  | .own o => if s.isSequencer then s.sequence o none else s.forwardNew o
  | .fwd o m tag =>
    if s.isSequencer then s.sequence o (some (m, tag)) else s.sendPeer m false (.fwdReturn tag 0xFF 0)
  | .write r v =>
    let s := match s.find r.index r.sub with
      | some f => s.setObj f.entry v f.i f.k
      | none => s
    s.sendReply { port := r.port, dst := r.src, kind := r.kind, flags := 0, tag := r.tag, index := r.index, sub := r.sub,
                  status := 0, seg := 0, body := [] }
  | .persist .. => s

/-- The sparge (R429): held log records, persistent values and journal records to Cask, with an ACK; a FETCH for
any gap; then the held orders and WRITEs in arrival order. -/
def State.sparge (s : State) : State :=
  let alarms := s.health.held
  let hist := s.health.heldHist
  let s := { s with health := { s.health with
    held := [], heldHist := [], history := (s.health.history ++ hist).drop (s.health.history.length + hist.length - 768) } }
  let s := hist.foldl (fun (t : State) r => match slotOf r.unit with
    | some i =>
      let u := t.unit i
      t.setHealth fun h => { h with table := Map.put h.table i u }
    | none => t) s
  let s := alarms.foldl (fun t a => t.toRing a) s
  let es := s.journal.held
  let s := s.heldCount fun j => { j with held := [] }
  let s := (es.filter HeldEntry.isPersist).foldl (fun t e => t.completeHeld e) s
  let kept := s.journal.kept
  let s := if s.jstate == 7 then s else
    let s := (s.setJ fun j => { j with kept := [] }).ringStore kept
    if kept.isEmpty then s else s.afterWrite kept
  let s := match s.journal.gap, s.journal.seqView with
    | o :: _, some m => s.sendFetch m (s.lastOsn + 1) (o.osn - 1)
    | _, _ => s
  let s := if s.jstate == 3 || s.jstate == 4 then
      (s.setJState (if s.journal.before == 5 then 5 else 2)).chooseSequencer else s
  let s := (es.filter fun e => !e.isPersist).foldl (fun t e => t.completeHeld e) s
  s.raise Reg.JE_IRQ_SPARGE_DONE

/-! ### FORK (R431) -/

/-- The records above the last shared OSN discarded; in CONTROL role the member takes the IMAGE and synchronizes,
else it is SYNCED on the records it keeps (R431). -/
def State.resolveFork (s : State) : State :=
  let s := s.discardFrom s.journal.forkAt
  let c := min s.osnCommit s.osnHigh
  let s := (s.wr2 Reg.JE_OSN_COMMIT_LO_OSN Reg.JE_OSN_COMMIT_HI_OSN c).setObjN Obj.JE_OSN_COMMIT c
  if s.inSet then
    let s := s.setJState 1
    match s.journal.seqView with
    | some m => s.sendFetch m 0 0
    | none => s
  else (s.setJState 2).chooseSequencer

end Sys2Proof.Machine
end

