-- ==== Sys2Proof/Machine/Units.lean ====
section
/-! DEFINITION. The bookkeeping of units in the health block (16_faults_health_logs.md): transients, thresholds,
retirement, tests and returns, apart from what each owning block does. -/

namespace Sys2Proof.Machine

/-- Code of a cause (table of R514). -/
def causeCode : FaultCause → Nat
  | .retry => 1 | .rate => 2 | .uncorrectable => 3 | .bist => 4 | .gauge => 5 | .speed => 6 | .internal => 7
  | .ordered => 8 | .link => 9

/-- Kind of the unit in a slot (table of R511). -/
def kindOf (slot : Nat) : Nat := unitOf slot / 256

/-- Instance of the unit in a slot. -/
def instOf (slot : Nat) : Nat := unitOf slot % 256

/-- Slot of a unit by kind and instance. -/
def slotAt (kind i : Nat) : Nat :=
  (match kind with
   | 1 => 0 | 2 => 32 | 3 => 96 | 4 => 99 | 5 => 103 | 6 => 111 | 7 => 127 | 8 => 135 | 9 => 167 | 10 => 199
   | _ => 455) + i

/-- Threshold of a unit; `second` picks the corrected-word threshold of a tile (R513). -/
def State.threshold (s : State) (slot : Nat) (second : Bool) : Nat :=
  match kindOf slot with
  | 1 => if second then s.objN Obj.HL_TILE_THRESH1 else s.objN Obj.HL_TILE_THRESH0
  | 2 => s.objN Obj.HL_THRESH0
  | 3 => s.objN Obj.HL_THRESH1
  | 4 => s.objN Obj.HL_THRESH2
  | 5 => s.objN Obj.HL_THRESH3
  | 6 => s.objN Obj.HL_THRESH4
  | 7 => s.objN Obj.HL_THRESH5
  | 8 => s.objN Obj.HL_THRESH6
  | 9 => s.objN Obj.HL_THRESH7
  | 10 => s.objN Obj.HL_THRESH8
  | _ => s.objN Obj.HL_THRESH9

/-- Sum of the 16 sub-intervals of a window (R512). -/
def windowSum (w : List Nat) : Nat := (w.take 16).foldl (· + ·) 0

/-- A window with one more transient in its current sub-interval. -/
def windowInc : List Nat → List Nat
  | [] => [1]
  | n :: ns => (n + 1) :: ns

/-- The transient count that a unit shows at its retirement. -/
def UnitSt.transients (u : UnitSt) : Nat := max (windowSum u.window) (windowSum u.window2)

/-- HL_UNIT.COUNT (16_faults_health_logs.md): for a tile, the larger fraction of its two thresholds, scaled. -/
def State.unitCount (s : State) (slot : Nat) : Nat :=
  let u := s.unit slot
  if kindOf slot == 1 then
    min 0xFFFF (max (windowSum u.window * 0xFFFF / s.threshold slot false)
      (windowSum u.window2 * 0xFFFF / s.threshold slot true))
  else min 0xFFFF (windowSum u.window)

/-- Units that are retired. -/
def State.retiredCount (s : State) : Nat := ((List.range 456).filter s.retired).length

/-- HL_STATUS.RETIRED brought up to date. -/
def State.countRetired (s : State) : State := s.wr Reg.HL_STATUS_RETIRED s.retiredCount

/-- HL_ACT_STATUS.BUSY: a test or a return runs. -/
def State.showBusy (s : State) : State :=
  s.put Reg.HL_ACT_STATUS_BUSY (s.health.jobs.any fun j => match j with
    | .test .. => true
    | .copyBack _ r => r.isSome
    | _ => false)

/-- Retirement as the health block does it (R515, R523): state, counts, record, interrupt and ALARM. A unit
that is retired already is left. -/
def State.retireUnit (s : State) (slot : Nat) (cause : FaultCause) (node osn : Nat := 0) : State :=
  if s.retired slot then s else
  let n := (s.unit slot).transients
  let s := s.setUnit slot fun u =>
    { u with state := 3, cause := causeCode cause, retireCount := satAdd 255 u.retireCount 1, window := [],
             window2 := [], testedAt := none, sinceTest := false }
  let s := s.setHealth fun h =>
    { h with jobs := h.jobs.filter fun j => match j with | .test x _ _ => x != slot | _ => true }
  ((s.countRetired.showBusy.history slot 1 (causeCode cause) node (min 0xFFFF n) osn).raise Reg.HL_IRQ_RETIRED).alarm
    .health "UNIT_RETIRED" (unitOf slot)

/-- One transient of a unit (R512): it counts, and `true` when the count passes the threshold. A retired unit's
counts stay at 0. -/
def State.unitTransient (s : State) (slot : Nat) (second : Bool) : State × Bool :=
  if s.retired slot then (s.setUnit slot fun u => { u with sinceTest := true }, false) else
  let s := s.setUnit slot fun u =>
    { u with window := if second then u.window else windowInc u.window
             window2 := if second then windowInc u.window2 else u.window2
             sinceTest := true }
  let s := s.count 0xA04 (some (kindOf slot))
  let u := s.unit slot
  (s, decide (s.threshold slot second < windowSum (if second then u.window2 else u.window)))

/-- The unit's self-test starts: it reads TESTING unless it is retired. -/
def State.unitTesting (s : State) (slot : Nat) : State :=
  if s.retired slot then s else s.setUnit slot fun u => { u with state := 2 }

/-- A self-test that the health block has started on the unit: origin node and OSN of its order. -/
def State.testJob (s : State) (slot : Nat) : Option (Nat × Nat) :=
  s.health.jobs.findSome? fun j => match j with
    | .test x n o => if x == slot then some (n, o) else none
    | _ => none

/-- The end of a self-test in the health block (R520): the state after a pass, the history record and the result
of the action where the health block started it. A failure of a unit that was not retired retires it. -/
def State.unitTested (s : State) (slot : Nat) (pass : Bool) : State :=
  let job := s.testJob slot
  let now := s.tb3
  let s := if pass then
      s.setUnit slot fun u =>
        { u with state := if 3 ≤ u.state then 4 else if kindOf slot == 2 then 0 else 1, testedAt := some now,
                 sinceTest := false }
    else if s.retired slot then s.setUnit slot fun u => { u with state := 3, testedAt := none }
    else s
  let s := match job with
    | some (node, osn) =>
      let s := s.setHealth fun h =>
        { h with jobs := h.jobs.filter fun j => match j with | .test x _ _ => x != slot | _ => true }
      let s := (s.history slot (if pass then 2 else 3) 0 node 0 osn).showBusy
      (s.wr Reg.HL_ACT_STATUS_RESULT (if pass then 0 else 2)).raise Reg.HL_IRQ_TEST_DONE
    | none => s
  if pass then s else s.retireUnit slot .bist

/-- The unit is in service again (R521). -/
def State.unitReturned (s : State) (slot : Nat) (node osn : Nat := 0) : State :=
  if s.retired slot then
    let s := s.setUnit slot fun u => { u with state := 0, testedAt := none, sinceTest := false }
    (s.countRetired.history slot 4 0 node 0 osn).raise Reg.HL_IRQ_RETURNED
  else s.setUnit slot fun u => { u with state := 0 }

end Sys2Proof.Machine
end

