-- ==== Sys2Proof/Machine/Can.lean ====
section
/-! DEFINITION. The CAN FD controllers (11_can_fd.md): enable, receive ring, transmit buffers, error counters,
bus-off, service test, and the reassembly of ZDP segments (R398). -/

namespace Sys2Proof.Machine

/-! ### State of one controller -/

/-- Controller CFn. -/
def State.canSt (s : State) (n : Nat) : CanSt := Map.get {} s.can n

/-- Controller CFn changed. -/
def State.setCan (s : State) (n : Nat) (f : CanSt → CanSt) : State := { s with can := Map.upd {} s.can n f }

/-- Time base of the time-stamp counter of CFn (R344). -/
def State.canBase (s : State) (n : Nat) : Nat := s.objN Obj.CANTB_CAN_BASE 0 n

/-- The time-stamp counter of CFn, `ago` ns before the present (R344). -/
def State.canCount (s : State) (n : Nat) (ago : Nat := 0) : Nat := (s.now (s.canBase n) - ago) / 100 % 2 ^ 32

/-- Low 16 bits of STEP_GEN of the stamping base. -/
def State.canStepGen (s : State) (n : Nat) : Nat := s.rd Reg.TB_STATUS_STEP_GEN (s.canBase n) % 65536

/-- CAN_CTRL.MODE. -/
def State.canMode (s : State) (n : Nat) : Nat := s.rd Reg.CAN_CTRL_MODE n

/-- The controller is in bus-off or recovering. -/
def State.canBusOff (s : State) (n : Nat) : Bool := s.rd Reg.CAN_STATUS_ERR_STATE n == 2

/-- The controller may start frames: mode 1 or 3, running, not in bus-off. -/
def State.canSends (s : State) (n : Nat) : Bool :=
  (s.canMode n == 1 || s.canMode n == 3) && s.rd Reg.CAN_STATUS_STATE n == 1 && !s.canBusOff n

/-- Word `w` of transmit buffer `b`. -/
def CanSt.word (c : CanSt) (b w : Nat) : Nat := Map.get 0 c.buf (24 * b + w)

/-- Words written into buffer `b` from word `w` on. -/
def CanSt.putWords (c : CanSt) (b w : Nat) : List Nat → CanSt
  | [] => c
  | v :: vs => ({ c with buf := Map.put c.buf (24 * b + w) (v % 2 ^ 32) } : CanSt).putWords b (w + 1) vs

/-- Buffers that are pending, in ascending order. -/
def State.canPending (s : State) (n : Nat) : List Nat :=
  (List.range 32).filter fun b => bitOf (s.rd Reg.CAN_TX_PEND_PEND n) b

/-- A bit of a report register set, with its interrupt. -/
def State.canReport (s : State) (f irq : Field) (n b : Nat) : State := (s.setBitIn f b n).raise irq n

/-- The request of buffer `b` ended. -/
def State.canEndReq (s : State) (n b : Nat) : State := s.clearBitIn Reg.CAN_TX_PEND_PEND b n

/-- Every pending request withdrawn and reported in CAN_TX_FAILED (R349, R367). -/
def State.canWithdraw (s : State) (n : Nat) : State :=
  let s := (s.canPending n).foldl (fun t b =>
    (t.canEndReq n b).canReport Reg.CAN_TX_FAILED_FAILED Reg.CAN_IRQ_TX_FAILED n b) s
  s.setCan n fun c => { c with onBus := none, heldCancel := false, busBusy := false, tapWait := [], partials := [] }

/-! ### Selection (R359, R360) -/

/-- The arbitration field as it is sent, first bit highest: identifier, RTR or RRS or SRR, IDE, extension. -/
def arbKey (word0 : Nat) : Nat :=
  if bitOf word0 29 then
    let id := word0 % 2 ^ 29
    id / 2 ^ 18 * 2 ^ 21 + 2 ^ 20 + 2 ^ 19 + id % 2 ^ 18 * 2
  else word0 % 2 ^ 11 * 2 ^ 21

/-- Buffer `b` has ALARM set. -/
def CanSt.isAlarm (c : CanSt) (b : Nat) : Bool := bitOf (c.word b 1) 7

/-- The buffer with the winning arbitration field; ties go to the lower number. -/
def CanSt.best (c : CanSt) : List Nat → Option Nat
  | [] => none
  | b :: bs =>
    match c.best bs with
    | none => some b
    | some d => if arbKey (c.word d 0) < arbKey (c.word b 0) then some d else some b

/-- Own transmitted bit time of the last 100 ms, in ns: all of it, and that of ALARM buffers. -/
def shareOf (w : List (Nat × Nat × Bool)) : Nat × Nat :=
  w.foldl (fun p e => (p.1 + e.2.1, if e.2.2 then p.2 + e.2.1 else p.2)) (0, 0)

/-- The part of a window that lies within the last 100 ms. -/
def recent (now : Nat) (w : List (Nat × Nat × Bool)) : List (Nat × Nat × Bool) :=
  w.filter fun e => decide (now < e.1 + 100000000)

/-- ALARM share in 1/65,536 (R360). -/
def State.canShare (s : State) (n : Nat) : Nat :=
  let p := shareOf (recent s.tb3 (s.canSt n).window)
  if p.1 == 0 then 0 else min 65535 (p.2 * 65536 / p.1)

/-- The next frame selected, where the bus is idle: ALARM buffers alone while their share is below 10 %
(R359, R360). Its start of frame falls at this instant. -/
def State.canSelect (s : State) (n : Nat) : State :=
  let c := s.canSt n
  if c.onBus.isSome || c.busBusy || !s.canSends n then s else
  let pend := s.canPending n
  let p := shareOf (recent s.tb3 c.window)
  let alarms := pend.filter c.isAlarm
  let among := if !alarms.isEmpty && decide (p.2 * 10 < p.1 || p.1 = 0) then alarms else pend
  match c.best among with
  | some b =>
    let ts := s.canCount n
    let s := s.latency 6 (some n) (Map.get s.tb3 c.reqAt b) s.tb3
    s.setCan n fun c => { c with onBus := some (b, ts), heldCancel := false }
  | none => s

/-- Buffer `b` requested, without the checks of R358. A buffer already pending stays as it is. -/
def State.canRequest (s : State) (n b : Nat) : State :=
  if bitOf (s.rd Reg.CAN_TX_PEND_PEND n) b then s else
  let now := s.tb3
  (s.setBitIn Reg.CAN_TX_PEND_PEND b n).setCan n fun c => { c with reqAt := Map.put c.reqAt b now }

/-- Bit time of the nominal and data phase, in units of 12.5 ns. -/
def State.nominalUnits (s : State) (n : Nat) : Nat :=
  (s.rd Reg.CAN_NBT_BRP n + 1) * (3 + s.rd Reg.CAN_NBT_TSEG1 n + s.rd Reg.CAN_NBT_TSEG2 n)

/-- Bit time of the data phase, in units of 12.5 ns. -/
def State.dataUnits (s : State) (n : Nat) : Nat :=
  (s.rd Reg.CAN_DBT_BRP n + 1) * (3 + s.rd Reg.CAN_DBT_TSEG1 n + s.rd Reg.CAN_DBT_TSEG2 n)

/-- The checks of R358 on buffer `b`. -/
def State.canReqOk (s : State) (n b : Nat) : Bool :=
  let c := s.canSt n
  let w0 := c.word b 0
  let w1 := c.word b 1
  let reserved := bitOf w0 31 || bitOf w1 5 || decide (256 ≤ w1) || decide (65536 ≤ c.word b 20) ||
    c.word b 21 != 0 || c.word b 22 != 0 || c.word b 23 != 0
  let brsBad := bitOf w1 4 && (!bitOf w0 30 || decide (s.nominalUnits n ≤ s.dataUnits n))
  let idBad := !bitOf w0 29 && decide (0x7FF < w0 % 2 ^ 29)
  s.canSends n && !reserved && !brsBad && !idBad && !(s.flag Reg.CAN_CTRL_TAP_EN n && decide (24 ≤ b))

/-- CAN_TX_REQ: every bit of the write requests its buffer or is ignored (R358), then the next frame is selected
if the bus is idle (R359). -/
def execCanTxReq (n : Fin 16) (v : Word) (s : State) : Host.Outcome State Fault Refusal :=
  let one (t : State) (b : Nat) : State :=
    if !bitOf v.toNat b then t
    else if bitOf (t.rd Reg.CAN_TX_PEND_PEND n) b then t
    else if t.canReqOk n b then t.canRequest n b
    else t.raise Reg.CAN_STATUS_TX_REQ_IGNORED n
  .next (((List.range 32).foldl one s).canSelect n)

/-- CAN_TX_CANCEL (R362, R363): a pending request ends, a cancel of the frame on the bus is held. -/
def execCanTxCancel (n : Fin 16) (v : Word) (s : State) : Host.Outcome State Fault Refusal :=
  let onBus (t : State) (b : Nat) : Bool := match (t.canSt n).onBus with | some p => p.1 == b | none => false
  let one (t : State) (b : Nat) : State :=
    if !bitOf v.toNat b || !bitOf (t.rd Reg.CAN_TX_PEND_PEND n) b then t
    else if onBus t b then t.setCan n fun c => { c with heldCancel := true }
    else (t.canEndReq n b).canReport Reg.CAN_TX_CANCELLED_CANCELLED Reg.CAN_IRQ_CANCELLED n b
  .next ((List.range 32).foldl one s)

/-! ### The tap's buffers (R371, R372) -/

/-- A frame of the tap for buffer `b`: words 0, 1 and the data words. It replaces a pending one that is not on the
bus, and waits for one that is (R372). -/
def State.tapFrame (s : State) (n b : Nat) (ws : List Nat) : State :=
  let c := s.canSt n
  let pend := bitOf (s.rd Reg.CAN_TX_PEND_PEND n) b
  let load (t : State) : State :=
    t.setCan n fun c => (((c.putWords b 0 (List.replicate 24 0)).putWords b 0 (ws.take 2)).putWords b 4 (ws.drop 2))
  let onBus := match c.onBus with | some p => p.1 == b | none => false
  if onBus then s.setCan n fun c => { c with tapWait := Map.put c.tapWait b (some ws) }
  else if pend then (load s).setCan n fun c => { c with tapReplaced := c.tapReplaced + 1 }
  else if s.canSends n then ((load s).canRequest n b).canSelect n
  else s

/-- The command that waited for the frame of buffer `b` requested, now that the frame has ended (R372). -/
def State.tapFlush (s : State) (n b : Nat) : State :=
  match Map.get none (s.canSt n).tapWait b with
  | some ws => (s.setCan n fun c => { c with tapWait := Map.put c.tapWait b none }).tapFrame n b ws
  | none => s

/-! ### Receive ring (R354 to R356) -/

/-- Entries of the ring. -/
def State.canRingSize (s : State) (n : Nat) : Nat := 2 ^ s.rd Reg.CAN_RX_CFG_LOG2 n

/-- Unread entries. -/
def State.canUnread (s : State) (n : Nat) : Nat :=
  let z := s.canRingSize n
  (s.rd Reg.CAN_RX_HEAD_HEAD n % z + z - s.rd Reg.CAN_RX_TAIL_TAIL n % z) % z

/-- Data bytes of a frame (table of R348). -/
def dlcLen (fdf : Bool) (dlc : Nat) : Nat :=
  if dlc ≤ 8 then dlc
  else if !fdf then 8
  else match dlc with | 9 => 12 | 10 => 16 | 11 => 20 | 12 => 24 | 13 => 32 | 14 => 48 | _ => 64

/-- The bytes of a receive entry. -/
def canEntry (f : CanFrame) (own : Bool) (stepGen ts seq : Nat) : List Byte :=
  let len := if f.rtr then 0 else dlcLen f.fdf f.dlc.toNat
  leBytes 4 (f.id.toNat + 2 ^ 29 * ofBool f.ide + 2 ^ 30 * ofBool f.fdf + 2 ^ 31 * ofBool f.rtr) ++
  [BitVec.ofNat 8 (f.dlc.toNat + 16 * ofBool f.brs + 32 * ofBool f.esi + 64 * ofBool own), BitVec.ofNat 8 len] ++
  leBytes 2 stepGen ++ leBytes 4 ts ++ leBytes 4 seq ++ padTo 64 (f.data.take len)

/-- CAN_IRQ.RX by the two rules of R356, at an entry or at its time. -/
def State.canRxIrq (s : State) (n : Nat) : State :=
  let late := match (s.canSt n).unread with
    | t :: _ => s.elapsed t (s.rd Reg.CAN_RX_CFG_IRQ_TIME n * 10000)
    | [] => false
  if (decide (s.rd Reg.CAN_RX_CFG_IRQ_COUNT n ≤ s.canUnread n) && decide (0 < s.canUnread n)) || late then
    s.raise Reg.CAN_IRQ_RX n
  else s

/-- A frame written into the ring, or dropped when the ring is full (R354, R355). -/
def State.canStore (s : State) (n : Nat) (f : CanFrame) (own : Bool) (ts : Nat) : State :=
  let seq := (s.canSt n).rxSeq
  let now := s.tb3
  let gen := s.canStepGen n
  let s := s.setCan n fun c => { c with rxSeq := (c.rxSeq + 1) % 2 ^ 32 }
  let z := s.canRingSize n
  let head := s.rd Reg.CAN_RX_HEAD_HEAD n % z
  if s.canUnread n + 1 == z then
    (((s.incSat Reg.CAN_RX_LOST_LOST n).raise Reg.CAN_IRQ_RX_LOST n).setCan n fun c =>
      { c with rxLost := (c.rxLost + 1) % 2 ^ 32 }).count 0x604 (some n)
  else
    let s := s.gristPut (s.rd Reg.CAN_RX_BASE_BASE n * 64 + 80 * head) (canEntry f own gen ts seq)
    let s := s.wr Reg.CAN_RX_HEAD_HEAD ((head + 1) % z) n
    (s.setCan n fun c => { c with unread := c.unread ++ [now] }).canRxIrq n

/-- CAN_RX_IRQ_TIMEOUT: an entry has stayed unread for IRQ_TIME × 10 µs (R356). -/
def execCanRxIrqTimeout (n : Fin 16) (s : State) : Host.Outcome State Fault Refusal := .next (s.canRxIrq n)

/-- CAN_RX_TAIL_WRITE: entries freed; a write past the head is ignored (R355). -/
def execCanRxTailWrite (n : Fin 16) (v : Word) (s : State) : Host.Outcome State Fault Refusal :=
  let z := s.canRingSize n
  let t := v.toNat % 2 ^ 14
  let d := (t + z - s.rd Reg.CAN_RX_TAIL_TAIL n % z) % z
  if z ≤ t ∨ s.canUnread n < d then .next s
  else .next ((s.wr Reg.CAN_RX_TAIL_TAIL t n).setCan n fun c => { c with unread := c.unread.drop d })

/-! ### Error states (R364 to R367) -/

/-- WARNING and the error state brought up to date; a change sets the interrupt and raises an EVENT. -/
def State.canErrState (s : State) (n : Nat) : State :=
  let tec := s.rd Reg.CAN_ECNT_TEC n
  let rec_ := s.rd Reg.CAN_ECNT_REC n
  let s := s.put Reg.CAN_STATUS_WARNING (decide (96 ≤ tec) || decide (96 ≤ rec_)) n
  let st := if s.canBusOff n then 2 else if 255 < tec then 2 else if 128 ≤ tec ∨ 128 ≤ rec_ then 1 else 0
  if s.rd Reg.CAN_STATUS_ERR_STATE n == st then s else
  let s := ((s.wr Reg.CAN_STATUS_ERR_STATE st n).raise Reg.CAN_IRQ_ERR_STATE n).event .can "ERR_STATE" (0x600 + n)
  if st == 2 then
    let s := (s.canWithdraw n).setCan n fun c => { c with busOffs := (c.busOffs + 1) % 2 ^ 32 }
    ((s.incSat Reg.CAN_ERRS2_BUS_OFF n).raise Reg.CAN_IRQ_BUS_OFF n).alarm .can "BUS_OFF" (0x600 + n)
  else s

/-- ACK_RUN back at 0, and ALONE clear (R366). -/
def State.canHeard (s : State) (n : Nat) : State :=
  (s.wr Reg.CAN_ECNT_ACK_RUN 0 n).wr Reg.CAN_STATUS_ALONE 0 n

/-- REC after a frame received without error (ISO 11898-1): one less, or between 119 and 127 when it was above 127,
a value that the standard leaves to the controller. -/
def State.canRecDown (s : State) (n : Nat) : State :=
  let r := s.rd Reg.CAN_ECNT_REC n
  if 127 < r then (s.wr Reg.CAN_ECNT_REC (119 + Config.freeNat s.fresh % 9) n).nextFresh
  else s.wr Reg.CAN_ECNT_REC (r - 1) n

/-- A frame that this controller's buffer holds, as a frame. -/
def CanSt.frameOf (c : CanSt) (b : Nat) : CanFrame :=
  let w0 := c.word b 0
  let w1 := c.word b 1
  { id := BitVec.ofNat 29 w0, ide := bitOf w0 29, fdf := bitOf w0 30, rtr := false, dlc := BitVec.ofNat 4 w1,
    brs := bitOf w1 4, esi := false, data := (List.range 16).flatMap fun i => leBytes 4 (c.word b (4 + i)) }

/-- A transmission on the bus ended without success: a held cancel or SINGLE_SHOT ends the request, else it stays
pending (R361, R363). -/
def State.canAttemptEnds (s : State) (n b : Nat) : State :=
  let c := s.canSt n
  let s := s.setCan n fun c => { c with onBus := none, heldCancel := false }
  let s := if c.heldCancel then
      (s.canEndReq n b).canReport Reg.CAN_TX_CANCELLED_CANCELLED Reg.CAN_IRQ_CANCELLED n b
    else if bitOf (c.word b 1) 6 then
      (s.canEndReq n b).canReport Reg.CAN_TX_FAILED_FAILED Reg.CAN_IRQ_TX_FAILED n b
    else s
  s.tapFlush n b

/-- CAN_TX_COMPLETE: the frame on the bus was sent, `bits` long in `timeNs` (R361, R363, R366). -/
def execCanTxComplete (n : Fin 16) (bits timeNs : Nat) (s : State) : Host.Outcome State Fault Refusal :=
  match (s.canSt n).onBus with
  | none => .next s
  | some (b, ts) =>
    let c := s.canSt n
    let now := s.tb3
    let esi := s.rd Reg.CAN_STATUS_ERR_STATE n == 1
    let gen := s.canStepGen n
    let s := (s.wr Reg.CAN_ECNT_TEC (s.rd Reg.CAN_ECNT_TEC n - 1) n).canHeard n
    let s := if c.heldCancel then
        s.canReport Reg.CAN_TX_CANCEL_FAIL_CANCEL_FAIL Reg.CAN_IRQ_CANCEL_FAIL n b else s
    let s := (s.canEndReq n b).canReport Reg.CAN_TX_DONE_DONE Reg.CAN_IRQ_TX_DONE n b
    let s := s.setCan n fun c =>
      { (c.putWords b 3 [ts]).putWords b 20 [c.word b 20 / 65536 * 65536 + gen] with
        onBus := none, heldCancel := false, txFrames := c.txFrames + 1
        window := (now, timeNs, c.isAlarm b) :: recent now c.window }
    let s := (s.wr Reg.CAN_ALARM_SHARE_SHARE (s.canShare n) n).canErrState n
    let s := (s.count 0x602 (some n.val)).count 0x605 (some n.val) bits
    let s := if s.flag Reg.CAN_CTRL_ECHO n then s.canStore n { c.frameOf b with esi := esi } true ts else s
    .next ((s.tapFlush n b).canSelect n)

/-- CAN_ARBITRATION_LOST: another frame won; it holds the bus until its end. -/
def execCanArbitrationLost (n : Fin 16) (s : State) : Host.Outcome State Fault Refusal :=
  match (s.canSt n).onBus with
  | none => .next s
  | some (b, _) =>
    .next ((s.setCan n fun c => { c with busBusy := true }).canAttemptEnds n b)

/-- Counts of an error by its kind (R364). -/
def State.canCountErr (s : State) (n : Nat) (kind : CanError) : State :=
  match kind with
  | .bit => ((s.incSat Reg.CAN_ERRS1_BIT n).wr Reg.CAN_STATUS_LAST_ERR 1 n).setCan n fun c => { c with errBit := c.errBit + 1 }
  | .stuff => ((s.incSat Reg.CAN_ERRS1_STUFF n).wr Reg.CAN_STATUS_LAST_ERR 2 n).setCan n fun c => { c with errStuff := c.errStuff + 1 }
  | .form => ((s.incSat Reg.CAN_ERRS1_FORM n).wr Reg.CAN_STATUS_LAST_ERR 3 n).setCan n fun c => { c with errForm := c.errForm + 1 }
  | .ack =>
    (((s.incSat Reg.CAN_ERRS2_ACK n).wr Reg.CAN_STATUS_LAST_ERR 4 n).setCan n fun c =>
      { c with errAck := c.errAck + 1 }).count 0x603 (some n)
  | .crc => ((s.incSat Reg.CAN_ERRS1_CRC n).wr Reg.CAN_STATUS_LAST_ERR 5 n).setCan n fun c => { c with errCrc := c.errCrc + 1 }

/-- ACK_RUN one higher, and ALONE at 16 (R366). -/
def State.canAckRun (s : State) (n : Nat) : State :=
  let s := s.incSat Reg.CAN_ECNT_ACK_RUN n
  if s.rd Reg.CAN_ECNT_ACK_RUN n == 16 then
    ((s.raise Reg.CAN_STATUS_ALONE n).raise Reg.CAN_IRQ_ALONE n).event .can "ALONE" (0x600 + n)
  else s

/-- TEC or REC after an error (R364, R365). A transmitter adds 8, but nothing at an acknowledgement error while
error-passive with no dominant bit in the passive error flag; a receiver adds 1, or 8 when it sees a dominant bit
after its error flag. -/
def State.canErrCount (s : State) (n : Nat) (kind : CanError) (transmitting dominant : Bool) : State :=
  if s.canMode n == 2 then s
  else if transmitting then
    if kind == .ack && s.rd Reg.CAN_STATUS_ERR_STATE n == 1 && !dominant then s
    else s.wr Reg.CAN_ECNT_TEC (min 511 (s.rd Reg.CAN_ECNT_TEC n + 8)) n
  else s.wr Reg.CAN_ECNT_REC (min 255 (s.rd Reg.CAN_ECNT_REC n + if dominant then 8 else 1)) n

/-- CAN_BUS_ERROR: an error ends the frame on the bus. -/
def execCanBusError (n : Fin 16) (kind : CanError) (transmitting dominant : Bool) (s : State) :
    Host.Outcome State Fault Refusal :=
  if s.rd Reg.CAN_STATUS_STATE n ≠ 1 ∨ s.canBusOff n then .next s else
  let s := (s.canCountErr n kind).canErrCount n kind transmitting dominant
  let s := if transmitting && kind == .ack then s.canAckRun n else s
  let s := s.setCan n fun c => { c with busBusy := false }
  let s := s.canErrState n
  let s := match (s.canSt n).onBus with
    | some (b, _) => s.canAttemptEnds n b
    | none => s
  .next (s.canSelect n)

/-! ### ZDP segments (R398) -/

/-- A partial message ended. -/
def State.canDropPartial (s : State) (n node kind sub : Nat) : State :=
  s.setCan n fun c => { c with partials := c.partials.filter fun p => !(p.node == node && p.kind == kind && p.sub == sub) }

/-- A message counted as dropped at the port of CFn (0x12pp.07). -/
def State.canDropped (s : State) (n : Nat) : State :=
  { s with zdp := { s.zdp with dropped := Map.upd 0 s.zdp.dropped (9 + n) (· + 1) } }

/-- A partial message kept, or handed to the gate once its bytes hold the whole message. A message whose SRC
differs from the identifier's NODE is dropped. -/
def State.canAssembled (s : State) (n : Nat) (p : Partial) : State :=
  let s := s.canDropPartial n p.node p.kind p.sub
  if decide (24 ≤ p.data.length) && decide (28 + leAt p.data 16 2 ≤ p.data.length) then
    if leAt p.data 4 2 == p.node then
      s.setCan n fun c => { c with message := some (p.data.take (28 + leAt p.data 16 2)) }
    else s.canDropped n
  else s.setCan n fun c => { c with partials := c.partials ++ [p] }

/-- A gate status frame of the own set that reaches a CONTROL member: since when the gate has named another holder
(R452, R459). -/
def State.noteGate (s : State) (b : List Byte) : State :=
  if !s.control || b.length < 32 || leAt b 0 1 != 3 || leAt b 1 1 != s.rd Reg.CG_CFG_SET_ID ||
      crc32 (b.take 28) != leAt b 28 4 then s
  else
    let now := s.tb3
    let node := leAt b 8 2
    let own := node == 0xFFFF || node == s.node
    { s with claims := { s.claims with gates := Map.upd {} s.claims.gates (leAt b 2 2) fun g =>
        { holder := leAt b 4 4, lastAt := now
          otherSince := if own then none else (match g.otherSince with | some t => some t | none => some now) } } }

/-- One segment of a ZDP message. -/
def State.canSegment (s : State) (n : Nat) (f : CanFrame) : State :=
  let id := f.id.toNat
  let kind := id / 2 ^ 26
  let node := id / 2 ^ 12 % 2 ^ 14
  let sub := id % 2 ^ 12
  match f.data with
  | [] => s
  | h :: rest =>
    let now := s.tb3
    let cnt := h.toNat % 64
    let found := (s.canSt n).partials.find? fun p => p.node == node && p.kind == kind && p.sub == sub
    if bitOf h.toNat 7 then
      if cnt != 0 || bitOf h.toNat 6 then s.canDropPartial n node kind sub
      else
        let s := s.canDropPartial n node kind sub
        if 32 ≤ (s.canSt n).partials.length then s.canDropped n
        else s.canAssembled n ⟨node, kind, sub, rest, 1, now⟩
    else match found with
      | none => s
      | some p =>
        if bitOf h.toNat 6 || cnt != p.next || s.elapsed p.lastAt 50000001 then s.canDropPartial n node kind sub
        else s.canAssembled n { p with data := p.data ++ rest, next := (p.next + 1) % 64, lastAt := now }

/-- SEGMENT_GAP_TIMEOUT: a gap of more than 50 ms discards the partial message. -/
def execSegmentGapTimeout (n : Fin 16) (node : BitVec 14) (kind : BitVec 3) (sub : BitVec 12) (s : State) :
    Host.Outcome State Fault Refusal :=
  .next (s.canDropPartial n node.toNat kind.toNat sub.toNat)

/-- CAN_FRAME_RECEIVED: a frame of another node, received without error, ended now; it began `lenNs` ago. -/
def execCanFrameReceived (n : Fin 16) (f : CanFrame) (lenNs : Nat) (s : State) : Host.Outcome State Fault Refusal :=
  if s.rd Reg.CAN_STATUS_STATE n ≠ 1 ∨ s.canMode n = 0 ∨ s.canBusOff n then .next s else
  let ts := s.canCount n lenNs
  let s := s.setCan n fun c => { c with rxFrames := c.rxFrames + 1, busBusy := false }
  let s := ((if s.canMode n == 2 then s else s.canRecDown n).canHeard n).canErrState n
  let s := (s.count 0x601 (some n.val)).canStore n f false ts
  let kind := f.id.toNat / 2 ^ 26
  let s := if (s.canSt n).zdpEn && f.ide && f.fdf && !f.rtr && decide (3 ≤ kind ∧ kind ≤ 6) then s.canSegment n f else s
  let s := if kind == 1 && f.ide && f.fdf && !f.rtr then s.noteGate f.data else s
  .next (s.canSelect n)

/-! ### Modes (R349, R350), recovery (R368) and service (R374) -/

/-- The first failing check of R350, or 0. -/
def State.canCfgCause (s : State) (n : Nat) : Nat :=
  let u := s.nominalUnits n
  let d := s.dataUnits n
  let log2 := s.rd Reg.CAN_RX_CFG_LOG2 n
  if 8000 < u ∨ u < 80 then 1
  else if d < 10 ∨ u < d then 2
  else if s.rd Reg.CAN_NBT_TSEG2 n < s.rd Reg.CAN_NBT_SJW n ∨ s.rd Reg.CAN_DBT_TSEG2 n < s.rd Reg.CAN_DBT_SJW n then 3
  else if d < 80 ∧ !s.flag Reg.CAN_TDC_TDC_EN n then 4
  else if log2 < 6 ∨ 14 < log2 ∨ gristSize < s.rd Reg.CAN_RX_BASE_BASE n * 64 + 80 * 2 ^ log2 then 5
  else if (s.flag Reg.CAN_CTRL_TAP_EN n && !s.control) || (s.flag Reg.CAN_CTRL_GATE_FEED n && s.control) then 6
  else 0

/-- The enable: MODE set and the controller RUNNING when every check passes, CFG_CAUSE else; whether it passed. -/
def State.canEnableIn (s : State) (n mode : Nat) : State × Bool :=
  let c := s.canCfgCause n
  let s := s.wr Reg.CAN_STATUS_CFG_CAUSE c n
  if c != 0 then (s, false) else
  let zdp := bitOf (s.objN Obj.CF_FLAGS n) 4
  let ts := (List.range 32).filter fun t => s.objN Obj.CAN_THRUSTER_MAP 0 t == n
  let s := (s.wr Reg.CAN_CTRL_MODE mode n).wr Reg.CAN_STATUS_STATE 1 n
  (s.setCan n fun c => { c with rxSeq := 0, busBusy := false, zdpEn := zdp, tapMap := ts.take 7 }, true)

/-- The configuration objects of CFn taken into its registers, as an enable by ORDER does. -/
def State.canLoad (s : State) (n : Nat) : State :=
  let m (o : ObjDef) : Nat := s.objN o n
  let fl := m Obj.CF_FLAGS
  let s := ((s.wr Reg.CAN_NBT_BRP (m Obj.CF_N_BRP - 1) n).wr Reg.CAN_NBT_TSEG1 (m Obj.CF_N_TSEG1 - 1) n).wr
    Reg.CAN_NBT_TSEG2 (m Obj.CF_N_TSEG2 - 1) n
  let s := (s.wr Reg.CAN_NBT_SJW (m Obj.CF_N_SJW - 1) n).wr Reg.CAN_DBT_BRP (m Obj.CF_D_BRP - 1) n
  let s := ((s.wr Reg.CAN_DBT_TSEG1 (m Obj.CF_D_TSEG1 - 1) n).wr Reg.CAN_DBT_TSEG2 (m Obj.CF_D_TSEG2 - 1) n).wr
    Reg.CAN_DBT_SJW (m Obj.CF_D_SJW - 1) n
  let s := if m Obj.CF_TDC_OFFSET == 0xFF then s.wr Reg.CAN_TDC_TDC_EN 0 n
    else (s.wr Reg.CAN_TDC_TDC_EN 1 n).wr Reg.CAN_TDC_TDC_OFFSET (m Obj.CF_TDC_OFFSET) n
  let s := (s.put Reg.CAN_CTRL_PEX (bitOf fl 0) n).put Reg.CAN_CTRL_ECHO (bitOf fl 1) n
  let s := (s.put Reg.CAN_CTRL_TAP_EN (bitOf fl 2) n).put Reg.CAN_CTRL_GATE_FEED (bitOf fl 3) n
  s.wr Reg.CAN_RX_CFG_LOG2 (m Obj.CF_RX_LOG2) n

/-- CAN_ENABLE: a change of MODE from 0 (R349, R350), by a write of MODE or by an ORDER of 0x81nn.01, which loads
the configuration objects and takes the MODE of .02. A controller that is RUNNING, OFFLINE, in test or retired is
not enabled so. -/
def execCanEnable (n : Fin 16) (mode : BitVec 2) (order : Bool) (s : State) : Host.Outcome State Fault Refusal :=
  if order then
    if s.rd Reg.CAN_STATUS_STATE n = 1 then .next ((s.setObjN Obj.CF_ENABLE 1 n).answer 0)
    else if s.rd Reg.CAN_STATUS_STATE n ≠ 0 then .next (s.answer 15)
    else
      let p := (s.canLoad n).canEnableIn n (s.objN Obj.CF_MODE n)
      if p.2 then .next ((p.1.setObjN Obj.CF_ENABLE 1 n).answer 0)
      else .next ((s.wr Reg.CAN_STATUS_CFG_CAUSE (p.1.rd Reg.CAN_STATUS_CFG_CAUSE n) n).answer 14)
  else if s.rd Reg.CAN_STATUS_STATE n ≠ 0 ∨ mode = 0 then .next s
  else .next (s.canEnableIn n mode.toNat).1

/-- CAN_DISABLE: a change of MODE to 0, or an ORDER of 0x81nn.01 with value false. -/
def execCanDisable (n : Fin 16) (order : Bool) (s : State) : Host.Outcome State Fault Refusal :=
  let s := (s.canWithdraw n).wr Reg.CAN_CTRL_MODE 0 n
  let s := if s.rd Reg.CAN_STATUS_STATE n == 1 then s.wr Reg.CAN_STATUS_STATE 0 n else s
  .next (if order then (s.setObjN Obj.CF_ENABLE 0 n).answer 0 else s)

/-- CAN_RECOVER: acted on only in bus-off; a second one during the wait has no effect (R368). -/
def execCanRecover (n : Fin 16) (order : Bool) (s : State) : Host.Outcome State Fault Refusal :=
  if s.canBusOff n then .next ((s.raise Reg.CAN_STATUS_RECOVERING n).answer 0)
  else .next (if order then s.answer 14 else s)

/-- RECOVERY_COMPLETE: 128 occurrences of 11 consecutive recessive bits have been seen (R368). -/
def execRecoveryComplete (n : Fin 16) (s : State) : Host.Outcome State Fault Refusal :=
  if s.canBusOff n && s.flag Reg.CAN_STATUS_RECOVERING n then
    let s := ((s.wr Reg.CAN_ECNT_TEC 0 n).wr Reg.CAN_ECNT_REC 0 n).wr Reg.CAN_STATUS_RECOVERING 0 n
    let s := ((s.wr Reg.CAN_STATUS_ERR_STATE 0 n).wr Reg.CAN_STATUS_WARNING 0 n).raise Reg.CAN_IRQ_ERR_STATE n
    .next ((s.event .can "ERR_STATE" (0x600 + n)).canSelect n)
  else .next s

/-- Requests withdrawn and CAN_TXn recessive for the self-test (R374). -/
def State.canTestStart (s : State) (n : Nat) : State :=
  (((s.canWithdraw n).wr Reg.CAN_STATUS_STATE 3 n).wr Reg.CAN_STATUS_BIST_PASS 0 n).unitTesting (slotAt 6 n)

/-- The controller's self-test may start: it is not retired and not in test already. -/
def State.canTestOk (s : State) (n : Nat) : Bool := decide (s.rd Reg.CAN_STATUS_STATE n < 3)

/-- CAN_SERVICE_TEST: an ORDER of 0x81nn.0E with 1, or CAN_CTRL.TEST. -/
def execCanServiceTest (n : Fin 16) (order : Bool) (s : State) : Host.Outcome State Fault Refusal :=
  if s.canTestOk n then .next ((s.canTestStart n).answer 0)
  else .next (if order then s.answer 15 else s)

/-- A retired controller keeps CAN_TXn recessive (R374, R515). -/
def State.canRetire (s : State) (n : Nat) : State :=
  ((s.canWithdraw n).wr Reg.CAN_STATUS_STATE 4 n).raise Reg.CAN_IRQ_RETIRED n

/-- CAN_SELF_TEST_DONE: a pass leaves the controller OFFLINE with BIST_PASS, a fail retires it (R374). -/
def execCanSelfTestDone (n : Fin 16) (pass : Bool) (s : State) : Host.Outcome State Fault Refusal :=
  if s.rd Reg.CAN_STATUS_STATE n ≠ 3 then .next s else
  let s := s.unitTested (slotAt 6 n) pass
  if pass then .next ((s.wr Reg.CAN_STATUS_STATE 2 n).raise Reg.CAN_STATUS_BIST_PASS n)
  else .next (s.canRetire n)

/-- The controller re-enabled after a test or a return from retirement (R374, R521): in its mode, or disabled
where MODE is 0. -/
def State.canReturn (s : State) (n : Nat) : State :=
  let s := s.unitReturned (slotAt 6 n)
  if s.canMode n == 0 then s.wr Reg.CAN_STATUS_STATE 0 n
  else
    let mode := s.canMode n
    let p := s.canEnableIn n mode
    if p.2 then p.1 else (p.1.wr Reg.CAN_CTRL_MODE 0 n).wr Reg.CAN_STATUS_STATE 0 n

/-- CAN_SERVICE_RETURN: an OFFLINE controller returns. -/
def execCanServiceReturn (n : Fin 16) (order : Bool) (s : State) : Host.Outcome State Fault Refusal :=
  if s.rd Reg.CAN_STATUS_STATE n = 2 then .next ((s.canReturn n).answer 0)
  else .next (if order then s.answer 15 else s)

end Sys2Proof.Machine
end

