-- ==== Sys2Proof/Machine/Time.lean ====
section
/-! DEFINITION. The time unit (10_time.md): ticks, steps, snapshots, the servo, PTP, PPS and RESYNC. -/

namespace Sys2Proof.Machine

/-! ### Ticks and steps -/

/-- SOURCE of TBn. -/
def State.source (s : State) (n : Nat) : Nat := s.objN Obj.TB_SOURCE n

/-- The rate word in force of TBn: TB3 runs at 0, a FOLLOW base at the rate of the base it follows (R331). -/
def State.rateOf (s : State) : Nat → Nat → Int
  | 0, n => s.rdS Reg.TB_RATE_RATE n
  | k + 1, n =>
    if n == 3 then 0
    else if s.source n == 4 then s.rateOf k (s.objN Obj.TB_SOURCE_ARG n)
    else s.rdS Reg.TB_RATE_RATE n

/-- A rate word clamped to ±500 ppm (R320). -/
def clampRate (r : Int) : Int := max (-8589934) (min 8589934 r)

/-- One base advanced by one tick of 4 ns at rate word `r` (R319, R321). -/
def TimeBase.tick (b : TimeBase) (r : Int) : TimeBase :=
  let f : Int := b.frac.toNat + 4 * 2 ^ 32 + r
  let whole := (f / 2 ^ 32).toNat
  let n := b.ns + whole
  { b with
    count := b.count + BitVec.ofNat 32 whole
    frac := BitVec.ofInt 32 f
    sec := if n < 1000000000 then b.sec else b.sec + 1
    ns := if n < 1000000000 then n else n - 1000000000 }

/-- One tick of the time-unit clock on every base, and the microseconds of TB3 and TB0 that it completes
(events 0xF01 and 0xF02 of R533). -/
def State.tick (s : State) : State :=
  let adv (bs : Map TimeBase) (n : Nat) : Map TimeBase := Map.put bs n ((s.base n).tick (s.rateOf 4 n))
  let t := { s with time := { s.time with bases := ([0, 1, 2, 3] : List Nat).foldl adv s.time.bases } }
  let t := if (s.base 3).ns / 1000 == (t.base 3).ns / 1000 then t else t.count 0xF01 none
  if (s.base 0).ns / 1000 == (t.base 0).ns / 1000 then t else t.count 0xF02 none

/-- A base set to another time, with what R330 needs: nothing fires in an interval skipped forward, nor before
the latest instant reached when the step is backward. -/
def TimeBase.step (b : TimeBase) (t : Nat) : TimeBase :=
  let old := b.sec.toNat * 1000000000 + b.ns
  { b with
    sec := BitVec.ofNat 48 (t / 1000000000)
    ns := t % 1000000000
    steps := b.steps + 1
    skipFrom := if old ≤ t then old else b.skipFrom
    skipTo := if old ≤ t then t else b.skipTo
    barrier := if old ≤ t then b.barrier else max b.barrier (old + 1) }

/-- A step of TBn by `d` ns is refused (R328, R329). -/
def State.stepRefused (s : State) (n : Nat) (d : Int) : Bool :=
  n == 3 || (n == 0 && s.flag Reg.TU_STATUS_PIPE_RUN) || decide ((s.now n : Int) + d < 0)

/-- One clock stepped: STEP_GEN, the interrupt and the EVENT. The count does not change (R328). -/
def State.stepOne (s : State) (n : Nat) (d : Int) : State :=
  let b := (s.base n).step ((s.now n : Int) + d).toNat
  let s := { s with time := { s.time with bases := Map.put s.time.bases n b } }
  ((s.incWrap Reg.TB_STATUS_STEP_GEN n).setBitIn Reg.TU_IRQ_STEP n).event .time "STEP"

/-- Every base that follows TBn steps with it, since its clock is that of TBn plus FOLLOW_OFFSET (R331); a base that may
not be stepped sets STEP_REFUSED. -/
def State.stepFollowers (d : Int) : Nat → State → Nat → State
  | 0, s, _ => s
  | k + 1, s, n =>
    ([0, 1, 2] : List Nat).foldl (fun t m =>
      if m != n && t.source m == 4 && t.objN Obj.TB_SOURCE_ARG m == n then
        if t.stepRefused m d then t.raise Reg.TB_STATUS_STEP_REFUSED m
        else State.stepFollowers d k (t.stepOne m d) m
      else t) s

/-- A step applied to TBn and to the bases that follow it. -/
def State.applyStep (s : State) (n : Nat) (d : Int) : State := State.stepFollowers d 4 (s.stepOne n d) n

/-- A step applied, or refused with STEP_REFUSED (R329). -/
def State.stepBase (s : State) (n : Nat) (d : Int) : State :=
  if s.stepRefused n d then s.raise Reg.TB_STATUS_STEP_REFUSED n else s.applyStep n d

/-- TB_STEP: the step of TBn_STEP_SEC and TBn_STEP_NS. -/
def execTbStep (n : Fin 4) (s : State) : Host.Outcome State Fault Refusal :=
  let mag : Nat := s.rd Reg.TB_STEP_NS_STEP_NS n % 2 ^ 31
  let ns : Int := if bitOf (s.rd Reg.TB_STEP_NS_STEP_NS n) 31 then -(mag : Int) else mag
  if 1000000000 ≤ mag then .next (s.raise Reg.TB_STATUS_STEP_REFUSED n)
  else .next (s.stepBase n (s.rdS Reg.TB_STEP_SEC_STEP_SEC n * 1000000000 + ns))

/-- TB_COUNT_READ: the count is read, and NS and SEC of the same tick are latched for the core (R323). -/
def execTbCountRead (core n : Fin 4) (s : State) : Host.Outcome State Fault Refusal :=
  let b := s.base n
  .next { s with
    time := { s.time with latches := Map.put s.time.latches (core * 4 + n) ⟨b.ns, b.sec.toNat⟩ }
    readData := Map.put s.readData core b.count.toNat }

/-- A snapshot of all four bases at one tick (R325). -/
def State.snapshot (s : State) : State :=
  let one (t : State) (n : Nat) : State :=
    let b := s.base n
    let t := (t.wr Reg.SNAP_COUNT_COUNT b.count.toNat n).wr Reg.SNAP_NS_NS b.ns n
    let t := (t.wr Reg.SNAP_SEC_LO_SEC b.sec.toNat n).wr Reg.SNAP_GEN_HI_SEC_HI (b.sec.toNat / 2 ^ 32) n
    (t.wr Reg.SNAP_GEN_HI_STEP_GEN (s.rd Reg.TB_STATUS_STEP_GEN n) n).wrS Reg.SNAP_RATE_RATE (s.rateOf 4 n) n
  (([0, 1, 2, 3] : List Nat).foldl one s).incWrap Reg.TU_SNAP_SEQ_SEQ

/-- TU_SNAP. -/
def execTuSnap (s : State) : Host.Outcome State Fault Refusal := .next s.snapshot

/-- SNAPSHOT_PERIODIC. -/
def execSnapshotPeriodic (s : State) : Host.Outcome State Fault Refusal := .next s.snapshot

/-- An instant of base `a` in ns, converted to base `b` by the latest snapshot and its rates (R327). -/
def State.convert (s : State) (a b : Nat) (t : Int) : Int :=
  let inst (n : Nat) : Int :=
    (s.rd2 Reg.SNAP_SEC_LO_SEC Reg.SNAP_GEN_HI_SEC_HI n : Int) * 1000000000 + s.rd Reg.SNAP_NS_NS n
  let ra : Int := 2 ^ 34 + s.rdS Reg.SNAP_RATE_RATE a
  let rb : Int := 2 ^ 34 + s.rdS Reg.SNAP_RATE_RATE b
  inst b + roundHalfUp (((t - inst a) * rb : Int) / (ra : Rat))

/-! ### The servo (R333 to R336) -/

/-- Servo of TBn. -/
def State.servo (s : State) (n : Nat) : Servo := Map.get {} s.time.servo n

/-- Servo of TBn changed. -/
def State.setServo (s : State) (n : Nat) (f : Servo → Servo) : State :=
  { s with time := { s.time with servo := Map.upd {} s.time.servo n f } }

/-- Servo state of TBn, with TU_STATUS and the interrupt at a change. -/
def State.setServoState (s : State) (n st : Nat) : State :=
  if s.rd Reg.TB_STATUS_STATE n == st then s else
  let other := s.rd Reg.TU_STATUS_STATE
  let cleared := other - other / 2 ^ (3 * n) % 8 * 2 ^ (3 * n)
  let s := (s.wr Reg.TB_STATUS_STATE st n).wr Reg.TU_STATUS_STATE (cleared + st * 2 ^ (3 * n))
  let s := s.setServo n fun v => { v with everLocked := v.everLocked || st == 2 }
  s.setBitIn Reg.TU_IRQ_STATE n

/-- RATE written from a rate in ppb (R320). -/
def State.setRatePpb (s : State) (n : Nat) (y : Rat) : State :=
  s.wrS Reg.TB_RATE_RATE (clampRate (roundHalfUp (y * (17179869184 / 1000000000)))) n

/-- RATE held as in holdover, at −I/T (servo state table). -/
def State.holdRate (s : State) (n : Nat) : State :=
  let v := s.servo n
  s.setRatePpb n (-(v.integ / v.interval))

/-- Steps 1 to 4 of R333 for an offset `o`. -/
def State.servoSlew (s : State) (n : Nat) (o : Int) (t : Rat) : State :=
  if decide ((s.objN Obj.TB_STEP_LIMIT n : Int) < |o|) && !s.stepRefused n (-o) then s.applyStep n (-o) else
  let v := s.servo n
  let kp := s.objV Obj.TB_KP n
  let ki := s.objV Obj.TB_KI n
  let y := -(kp * o + v.integ + ki * o) / t
  let top : Rat := s.objN Obj.TB_SLEW_MAX n
  if |y| ≤ top then (s.setServo n fun v => { v with integ := v.integ + ki * o }).setRatePpb n y
  else s.setRatePpb n (if y < 0 then -top else top)

/-- Lock counting of the servo state table and R334. -/
def State.servoLock (s : State) (n : Nat) (o : Int) : State :=
  let lim : Int := s.objN Obj.TB_LOCK_NS n
  let s := s.setServo n fun v =>
    { v with good := if |o| ≤ lim then v.good + 1 else 0, bad := if 4 * lim < |o| then v.bad + 1 else 0 }
  let v := s.servo n
  if s.rd Reg.TB_STATUS_STATE n == 2 then (if 4 ≤ v.bad then s.setServoState n 1 else s)
  else if 16 ≤ v.good then s.setServoState n 2 else s.setServoState n 1

/-- One measured offset, in ns, of base TBn with interval `t` (R333, R336). -/
def State.servoOffset (s : State) (n : Nat) (o : Int) (t : Rat) : State :=
  let s := s.setServo n fun v => { v with last := o, interval := t, holdAt := none, alarmed := false }
  let s := s.setObjN Obj.TB_OFFSET (wrapInt 64 o) n
  if n == 0 && s.flag Reg.TU_STATUS_PIPE_RUN &&
      decide ((s.objN Obj.TB0_SLEW_WINDOW : Int) * 1000000 < |o|) then
    let s := (s.setServo 0 fun v => { v with good := 0, bad := 0 }).holdRate 0
    if s.rd Reg.TB_STATUS_STATE 0 == 4 then s else (s.setServoState 0 4).alarm .time "TB0_MISMATCH"
  else (s.servoSlew n o t).servoLock n o

/-- An offset of a source given to every base that has it. -/
def State.feedOffset (s : State) (src : Nat) (arg : Option Nat) (o : Int) (t : Rat) : State :=
  ([0, 1, 2] : List Nat).foldl (fun u n =>
    if u.source n == src && (arg.isNone || arg == some (u.objN Obj.TB_SOURCE_ARG n)) then u.servoOffset n o t
    else u) s

/-- HOLDOVER_ENTRY: no offset for 8 intervals. -/
def execHoldoverEntry (n : Fin 4) (s : State) : Host.Outcome State Fault Refusal :=
  let st := s.rd Reg.TB_STATUS_STATE n
  if 1 ≤ s.source n ∧ s.source n ≤ 3 ∧ (st = 1 ∨ st = 2 ∨ st = 4) then
    let s := s.setServo n fun v => { v with good := 0, bad := 0, holdAt := some s.tb3, alarmed := false }
    .next ((s.holdRate n).setServoState n 3)
  else .next s

/-- HOLDOVER_MAX: one ALARM for each holdover that lasts HOLDOVER_MAX seconds (R334). -/
def execHoldoverMax (n : Fin 4) (s : State) : Host.Outcome State Fault Refusal :=
  let v := s.servo n
  match v.holdAt with
  | some t =>
    if s.rd Reg.TB_STATUS_STATE n = 3 ∧ !v.alarmed ∧
        s.elapsed t (s.objN Obj.TB_HOLDOVER_MAX n * 1000000000) then
      .next ((s.setServo n fun v => { v with alarmed := true }).alarm .time "HOLDOVER")
    else .next s
  | none => .next s

/-! ### PTP (R338 to R341) -/

/-- Instance PTPi. -/
def State.ptpInst (s : State) (i : Nat) : PtpInstance := Map.get {} s.time.ptp i

/-- Instance PTPi changed. -/
def State.setPtp (s : State) (i : Nat) (f : PtpInstance → PtpInstance) : State :=
  { s with time := { s.time with ptp := Map.upd {} s.time.ptp i f } }

/-- Class in force of port p (R381). -/
def State.classOf (s : State) (p : Nat) : Nat :=
  if p = 0 then 0 else if 33 ≤ p ∧ p ≤ 36 then 3 else if p = 37 then 6 else Map.get 0 s.zdp.classes p

/-- The MAC takes part in the instance: in its PORTS mask and of a class that accepts PTP (R339). -/
def State.ptpPort (s : State) (i m : Nat) : Bool :=
  s.objB Obj.PTP_ENABLE i && bitOf (s.objN Obj.PTP_PORTS i) m && (s.classOf (m + 1) == 2 || s.classOf (m + 1) == 4)

/-- Clock identity of an instance, formed from the serial number and the instance number (R339); how it is
formed the spec does not say. -/
def ownClockIdentity (i : Nat) : BitVec 64 := Config.serial + BitVec.ofNat 64 i

/-- Default data set comparison: `a` is better than `b`. -/
def announceBetter (a b : AnnounceData) : Bool :=
  let key (d : AnnounceData) : List Nat :=
    [d.priority1, d.clockClass, d.accuracy, d.variance, d.priority2, d.identity.toNat, d.stepsRemoved]
  decide (key a < key b)

/-- Own data set of an instance. Accuracy and variance are not settable and the spec does not state them. -/
def State.ownData (s : State) (i : Nat) : AnnounceData :=
  { priority1 := s.objN Obj.PTP_PRIORITY1 i, clockClass := s.objN Obj.PTP_CLOCK_CLASS i,
    accuracy := Config.freeNat 0 % 256, variance := Config.freeNat 1 % 65536,
    priority2 := s.objN Obj.PTP_PRIORITY2 i, identity := ownClockIdentity i, stepsRemoved := 0, utcOffset := 0 }

/-- The best of the foreign masters. -/
def bestForeign : List ForeignMaster → Option ForeignMaster
  | [] => none
  | f :: fs =>
    match bestForeign fs with
    | none => some f
    | some g => if announceBetter g.announce f.announce then some g else some f

/-- The BMCA selects: the port of the best foreign master, or this instance as master (R339, R340). -/
def State.bmca (s : State) (i : Nat) : State :=
  let best := bestForeign (s.ptpInst i).foreign
  let own := s.ownData i
  let slave := match best with
    | some f => s.objB Obj.PTP_SLAVE_ONLY i || announceBetter f.announce own
    | none => false
  let master := !slave && !s.objB Obj.PTP_SLAVE_ONLY i
  let s := s.setPtp i fun v =>
    { v with master, active := if slave then best.map (·.port) else none,
             utcOffset := match best with | some f => if slave then f.announce.utcOffset else v.utcOffset
                                          | none => v.utcOffset }
  let gm : Nat := match best with
    | some f => if slave then f.announce.identity.toNat else own.identity.toNat
    | none => if master then own.identity.toNat else 0
  let s := (s.setObjN Obj.PTP_GM_IDENTITY gm i).setObjN Obj.PTP_UTC_OFFSET (wrapInt 16 (s.ptpInst i).utcOffset) i
  let s := s.setObjN Obj.PTP_ACTIVE_PORT ((s.ptpInst i).active.getD 0) i
  ([0, 1, 2] : List Nat).foldl (fun u n =>
    if u.source n == i + 1 then
      if master then u.setServoState n 5
      else if u.rd Reg.TB_STATUS_STATE n == 5 || u.rd Reg.TB_STATUS_STATE n == 0 then u.setServoState n 1 else u
    else u) s

/-- The offset of instance PTPi measured from the last Sync, with the path delay (R338, R341). -/
def State.ptpOffset (s : State) (i port : Nat) (interval : Rat) : State :=
  let v := s.ptpInst i
  let asym := signed 32 (s.objN Obj.EMTS_ASYMMETRY port)
  s.feedOffset (i + 1) none (v.syncT2 - (v.syncT1 + v.syncCorr + asym) - v.meanPath) interval

/-- A message that the instance sends. -/
def State.ptpPush (s : State) (i port : Nat) (kind : PtpKind) (seq : Nat) (origin : Int) : State :=
  { s with time := { s.time with ptpOut := s.time.ptpOut ++ [⟨i, port, kind, seq, origin⟩] } }

/-- Sync interval 2^k s. -/
def syncInterval (k : Int) : Rat := (2 : Rat) ^ k

/-- PTP_MESSAGE: a message of the instance's domain on one of its ports. Management messages are discarded. -/
def execPtpMessage (inst : Fin 2) (port : Fin 8) (m : PtpMsg) (s : State) : Host.Outcome State Fault Refusal :=
  let i : Nat := inst
  let p : Nat := port
  if !s.ptpPort i p || m.domain != s.objN Obj.PTP_DOMAIN i then .next s else
  let rx : Int := m.ingress - signed 32 (s.objN Obj.EMTS_RX_EXTRA p)
  let v := s.ptpInst i
  let active := v.active == some p
  match m.kind with
  | .announce =>
    let others := v.foreign.filter fun f => !(f.port == p && f.announce.identity == m.announce.identity)
    .next ((s.setPtp i fun v => { v with foreign := others ++ [⟨p, m.announce⟩] }).bmca i)
  | .sync =>
    if !active then .next s else
    let s := s.setPtp i fun v =>
      { v with syncT2 := rx, syncSeq := m.seq, syncCorr := m.correction, syncT1 := m.origin }
    if m.twoStep then .next s else .next (s.ptpOffset i p (syncInterval m.logInterval))
  | .followUp =>
    if !active || v.syncSeq != m.seq then .next s else
    let s := s.setPtp i fun v => { v with syncT1 := m.origin, syncCorr := v.syncCorr + m.correction }
    .next (s.ptpOffset i p (syncInterval m.logInterval))
  | .delayResp =>
    if !active || s.objN Obj.PTP_DELAY_MECH i != 0 || v.delaySeq != m.seq then .next s else
    let d := ((v.syncT2 - v.syncT1 - v.syncCorr) + (m.origin - v.delayT3 - m.correction)) / 2
    .next ((s.setPtp i fun v => { v with meanPath := d }).setObjN Obj.PTP_MEAN_PATH_DELAY (wrapInt 64 d) i)
  | .pdelayResp =>
    if s.objN Obj.PTP_DELAY_MECH i != 1 || v.delaySeq != m.seq then .next s else
    let d := ((rx - v.delayT3) - m.correction) / 2
    .next ((s.setPtp i fun v => { v with meanPath := d }).setObjN Obj.PTP_MEAN_PATH_DELAY (wrapInt 64 d) i)
  | .delayReq =>
    if v.master && s.objN Obj.PTP_DELAY_MECH i == 0 then .next (s.ptpPush i p .delayResp m.seq rx) else .next s
  | .pdelayReq =>
    if s.objN Obj.PTP_DELAY_MECH i == 1 then .next (s.ptpPush i p .pdelayResp m.seq rx) else .next s
  | .management => .next s

/-- PTP_SEND: a master sends Sync (with Follow_Up when TWO_STEP) and Announce on every port in PORTS; a slave
sends delay requests on its active port. The egress stamp is the instance's base at sending plus TX_EXTRA. -/
def execPtpSend (inst : Fin 2) (port : Fin 8) (kind : PtpKind) (s : State) : Host.Outcome State Fault Refusal :=
  let i : Nat := inst
  let p : Nat := port
  let v := s.ptpInst i
  let stamp : Int := (s.now i : Int) + signed 32 (s.objN Obj.EMTS_TX_EXTRA p)
  if !s.ptpPort i p then .next s else
  match kind with
  | .sync =>
    if !v.master then .next s else
    let s := s.setPtp i fun v => { v with txSync := (v.txSync + 1) % 65536 }
    if s.objB Obj.PTP_TWO_STEP i then
      .next ((s.ptpPush i p .sync v.txSync 0).ptpPush i p .followUp v.txSync stamp)
    else .next (s.ptpPush i p .sync v.txSync stamp)
  | .announce =>
    if !v.master then .next s else
    .next ((s.setPtp i fun v => { v with txAnnounce := (v.txAnnounce + 1) % 65536 }).ptpPush i p .announce
      v.txAnnounce 0)
  | .delayReq =>
    if v.active != some p || s.objN Obj.PTP_DELAY_MECH i != 0 then .next s else
    let q := (v.txDelay + 1) % 65536
    .next ((s.setPtp i fun v => { v with txDelay := q, delaySeq := q, delayT3 := stamp }).ptpPush i p .delayReq q 0)
  | .pdelayReq =>
    if s.objN Obj.PTP_DELAY_MECH i != 1 then .next s else
    let q := (v.txDelay + 1) % 65536
    .next ((s.setPtp i fun v => { v with txDelay := q, delaySeq := q, delayT3 := stamp }).ptpPush i p .pdelayReq q 0)
  | _ => .next s

/-- ANNOUNCE_TIMEOUT: the active port's masters are dropped and the BMCA selects again (R339). -/
def execAnnounceTimeout (inst : Fin 2) (s : State) : Host.Outcome State Fault Refusal :=
  let s := s.setPtp inst fun v => { v with foreign := v.foreign.filter fun f => v.active != some f.port }
  .next (s.bmca inst)

/-! ### PPS (R342, R343) -/

/-- An offset folded into (−5 × 10⁸, 5 × 10⁸] ns. -/
def foldSecond (t : Nat) : Int :=
  let r : Int := (t % 1000000000 : Nat)
  if 500000000 < r then r - 1000000000 else r

/-- A second missed on PPS input `p`. -/
def State.ppsMiss (s : State) (p : Nat) : State :=
  let v := Map.get {} s.time.ppsIn p
  ({ s with time := { s.time with ppsIn := Map.put s.time.ppsIn p { v with missed := v.missed + 1 } } } : State).incSat
    Reg.PPI_COUNTS_MISSED p

/-- The armed reset source of Lauter fires once and disarms: every running channel of LT_SYNC_MASK waits for its
defining edge (R278). -/
def State.fireSync (s : State) : State :=
  let mask := s.rd Reg.LT_SYNC_MASK_MASK
  let one (m : Map ScChan) (c : Nat) : Map ScChan :=
    let st := s.rd Reg.SC_STATUS_STATE c
    if bitOf mask c && decide (1 ≤ st ∧ st ≤ 3) then Map.upd {} m c fun x => { x with await := some true } else m
  let s := { s with lauter := { s.lauter with chans := (List.range 32).foldl one s.lauter.chans } }
  s.wr Reg.LT_SYNC_ARM_ARMED 0

/-- An armed reset source of the given kind. -/
def State.syncArmed (s : State) (source : Nat) : Bool :=
  s.flag Reg.LT_SYNC_ARM_ARMED && s.rd Reg.LT_SYNC_ARM_SOURCE == source

/-- PPS_EDGE. A rising edge also fires a reset of Lauter that is armed on the input (R278). -/
def execPpsEdge (p : Fin 4) (falling : Bool) (s : State) : Host.Outcome State Fault Refusal :=
  let s := if !falling && s.syncArmed 2 && s.rd Reg.LT_SYNC_ARM_PPS == p.val then s.fireSync else s
  if !s.flag Reg.PPI_CFG_ENABLE p || s.flag Reg.PPI_CFG_EDGE p != falling then .next s else
  let n := s.rd Reg.PPI_CFG_BASE p
  let t := s.now n
  let v := Map.get {} s.time.ppsIn p
  let near : Bool := match v.lastEdge with | some e => decide (t < e + 100 ∧ e < t + 100) | none => false
  if near then .next s else
  let ok : Bool := match v.lastQualified with
    | some e => decide (e + 999000000 ≤ t ∧ t ≤ e + 1001000000) | none => true
  let v' := { v with lastEdge := some t }
  if !ok then
    .next (({ s with time := { s.time with ppsIn := Map.put s.time.ppsIn p v' } } : State).ppsMiss p)
  else
    let v' := { v' with lastQualified := some t, qualified := v.qualified + 1 }
    let s : State := { s with time := { s.time with ppsIn := Map.put s.time.ppsIn p v' } }
    let s := (s.incSat Reg.PPI_COUNTS_QUALIFIED p).wr Reg.PPI_CAP_NS_NS (t % 1000000000) p
    let s := (s.wr Reg.PPI_CAP_SEC_LO_SEC (t / 1000000000) p).wr Reg.PPI_CAP_SEC_HI_SEC (t / 1000000000 / 2 ^ 32) p
    let s := s.setBitIn Reg.TU_IRQ_PPS p
    .next (s.feedOffset 3 (some p) (foldSecond t) 1)

/-- PPS_MISSED: a second with no qualified edge. -/
def execPpsMissed (p : Fin 4) (s : State) : Host.Outcome State Fault Refusal :=
  .next (if s.flag Reg.PPI_CFG_ENABLE p then s.ppsMiss p else s)

/-- PPS_OUTPUT_PULSE: the pulse of the last whole second plus OFFSET_NS of the output's base, where it may fire
(R330) and has not been driven. -/
def execPpsOutputPulse (o : Fin 2) (s : State) : Host.Outcome State Fault Refusal :=
  let n := s.rd Reg.PPO_CFG_BASE o
  let off := s.rdS Reg.PPO_OFFSET_OFFSET_NS o
  let t := (((s.now n : Int) - off) / 1000000000 * 1000000000 + off).toNat
  let v := Map.get {} s.time.ppsOut o
  let free := s.rd Reg.TB_STATUS_STATE n == 0 && s.source n == 0 && !s.objB Obj.PPO_ENABLE_FREE o
  if s.flag Reg.PPO_CFG_ENABLE o && !free && s.fires n t && v.lastStart != some t then
    .next { s with time := { s.time with
      ppsOut := Map.put s.time.ppsOut o { lastStart := some t, pulses := v.pulses + 1 } } }
  else .next s

/-- TIME_OF_DAY_RECORD: a base with SOURCE 3 whose seconds at the matching edge differ from the record is
stepped by the whole seconds (R332). -/
def execTimeOfDayRecord (n : Fin 4) (seconds : BitVec 48) (s : State) : Host.Outcome State Fault Refusal :=
  let p := s.objN Obj.TB_SOURCE_ARG n
  match (Map.get {} s.time.ppsIn p).lastQualified with
  | some t =>
    let d : Int := (seconds.toNat : Int) - ((t : Int) + 500000000) / 1000000000
    if s.source n = 3 ∧ d ≠ 0 then .next (s.stepBase n (d * 1000000000)) else .next s
  | none => .next s

/-! ### RESYNC (R337) -/

/-- The pipeline stops: PIPE_RUN clears and no stage runs until PIPELINE_START (R33). -/
def State.stopPipeline (s : State) : State :=
  (s.wr Reg.TU_STATUS_PIPE_RUN 0).setObjN Obj.PHASE_PHASE_STATE 0

/-- RESYNC, an order: refused with STATE while a claim above standby is offered, else the pipeline stops, TB0
is stepped by −o, and the member must complete an estimation and plan anew. -/
def execResync (s : State) : Host.Outcome State Fault Refusal :=
  if 4 < s.claimRank then .next (s.answer 15) else
  let s := s.stopPipeline
  let s := s.stepBase 0 (-(s.servo 0).last)
  let s := if s.rd Reg.TB_STATUS_STATE 0 == 4 then s.setServoState 0 1 else s
  let s := { s with claims := { s.claims with estDone := false, planDone := false } }
  .next ((s.setObjN Obj.CLAIMST_COMPLETE 0).answer 0)

end Sys2Proof.Machine
end

