-- ==== Sys2Proof/Machine/Tap.lean ====
section
/-! DEFINITION. The claim number and the tap (14_redundancy_claims.md, R371 of 11_can_fd.md): claim and command
frames and the paths on which they leave. -/

namespace Sys2Proof.Machine

/-! ### Frames -/

/-- Bytes 0 to 27 of a claim frame (R457). -/
def claimBody (f : ClaimFrame) : List Byte :=
  leBytes 1 f.format.toNat ++ leBytes 1 f.setId.toNat ++ leBytes 2 f.node.toNat ++ leBytes 4 f.claim.toNat ++
  leBytes 2 f.leaseMs.toNat ++ leBytes 2 f.rsv.toNat ++ leBytes 4 f.seq.toNat ++ leBytes 4 f.tNs.toNat ++
  leBytes 4 f.tS.toNat ++ leBytes 4 f.planCycle.toNat

/-- A claim frame as bytes. -/
def claimBytes (f : ClaimFrame) : List Byte := claimBody f ++ leBytes 4 f.crc.toNat

/-- Bytes 0 to 43 of a command frame (R458). -/
def commandBody (f : CommandFrame) : List Byte :=
  leBytes 1 f.format.toNat ++ leBytes 1 f.setId.toNat ++ leBytes 2 f.node.toNat ++ leBytes 4 f.claim.toNat ++
  leBytes 2 f.leaseMs.toNat ++ leBytes 1 f.thruster.toNat ++ leBytes 1 f.status.toNat ++ leBytes 4 f.seq.toNat ++
  leBytes 4 f.appNs.toNat ++ leBytes 4 f.appS.toNat ++ leBytes 2 f.drive.toNat ++ leBytes 2 f.angle.toNat ++
  leBytes 2 f.thrust.toNat ++ leBytes 2 f.aux.toNat ++ leBytes 4 f.planCycle.toNat ++ leBytes 1 f.flags.toNat ++
  leBytes 7 f.rsv.toNat

/-- A command frame as bytes. -/
def commandBytes (f : CommandFrame) : List Byte := commandBody f ++ leBytes 4 f.crc.toNat

/-- Little-endian words of a byte list. -/
def wordsOf (n : Nat) (b : List Byte) : List Nat := (List.range n).map fun i => leAt b (4 * i) 4

/-- LEASE_MS as frames carry it: 0 when the rank is 0 or 4 (R457). -/
def State.leaseOut (s : State) : Nat := if 8 ≤ s.claimRank then s.rd Reg.CG_CFG_LEASE_MS else 0

/-- The claim frame that this member sends now (R457). SEQ counts the frames sent before it (DESIGN CHOICE, log
entry 34). -/
def State.claimFrame (s : State) : ClaimFrame :=
  let now := s.stamp
  let f : ClaimFrame :=
    { format := 1, setId := BitVec.ofNat 8 (s.rd Reg.CG_CFG_SET_ID), node := BitVec.ofNat 16 s.node,
      claim := BitVec.ofNat 32 (s.rd Reg.CG_CLAIM_CLAIM), leaseMs := BitVec.ofNat 16 s.leaseOut, rsv := 0,
      seq := BitVec.ofNat 32 (s.rd Reg.CG_SENT_COUNT), tNs := BitVec.ofNat 32 now.ns,
      tS := BitVec.ofNat 32 now.sec, planCycle := BitVec.ofNat 32 s.claims.voteCycle, crc := 0 }
  { f with crc := BitVec.ofNat 32 (crc32 (claimBody f)) }

/-- A command of one thruster, as the limit stage releases it. -/
structure TapCommand where
  thruster : Nat
  status : Nat
  /-- Application time, TB0 ns. -/
  app : Nat
  values : List Int
  planCycle : Nat
  probe : Bool
  deriving DecidableEq, Repr

/-- The command frame of a command (R458). -/
def State.commandFrame (s : State) (c : TapCommand) : CommandFrame :=
  let v (i : Nat) : BitVec 16 := BitVec.ofInt 16 (c.values.getD i 0)
  let f : CommandFrame :=
    { format := 2, setId := BitVec.ofNat 8 (s.rd Reg.CG_CFG_SET_ID), node := BitVec.ofNat 16 s.node,
      claim := BitVec.ofNat 32 (s.rd Reg.CG_CLAIM_CLAIM), leaseMs := BitVec.ofNat 16 s.leaseOut,
      thruster := BitVec.ofNat 8 c.thruster, status := BitVec.ofNat 8 c.status,
      seq := BitVec.ofNat 32 (Map.get 0 s.claims.cmdSeq c.thruster), appNs := BitVec.ofNat 32 (stampOf c.app).ns,
      appS := BitVec.ofNat 32 (stampOf c.app).sec, drive := v 0, angle := v 1, thrust := v 2, aux := v 3,
      planCycle := BitVec.ofNat 32 c.planCycle, flags := BitVec.ofNat 8 (ofBool c.probe), rsv := 0, crc := 0 }
  { f with crc := BitVec.ofNat 32 (crc32 (commandBody f)) }

/-! ### Paths (R371, R460) -/

/-- CFn is a path of the tap. -/
def State.tapCan (s : State) (n : Nat) : Bool := s.flag Reg.CAN_CTRL_TAP_EN n && s.rd Reg.CAN_STATUS_STATE n == 1

/-- EMm is a path of the tap: of class FIELD and in TAP_EM_MASK (R460). -/
def State.tapEm (s : State) (m : Nat) : Bool :=
  bitOf (s.objN Obj.CLAIM_TAP_EM_MASK) m && s.classOf (m + 1) == 4 && s.rd Reg.EM_STATUS_STATE m == 1

/-- Words 0 and 1 of a tap buffer: an FEFF frame with BRS and the identifier of R369. -/
def State.tapHead (s : State) (kind sub dlc : Nat) : List Nat :=
  [kind * 2 ^ 26 + s.node % 2 ^ 14 * 2 ^ 12 + sub + 2 ^ 29 + 2 ^ 30, dlc + 16]

/-- Claims changed. -/
def State.setClaims (s : State) (f : ClaimSt → ClaimSt) : State := { s with claims := f s.claims }

/-- A frame put into transmit queue 1 of every EM path (R460). -/
def State.tapOnEm (s : State) (f : TapFrame) : State :=
  let ms := (List.range 8).filter s.tapEm
  s.setClaims fun c => { c with tapOut := c.tapOut ++ ms.map fun m => ⟨16 + m, f⟩ }

/-- A claim frame sent on every path, and on the peer links in a set (R442, R453, R460). The tap works in CONTROL
role only, from the load of its registers on (R474); a member without a node identifier sends none (R9). -/
def State.sendClaim (s : State) : State :=
  if !s.control || !s.nodeValid || !s.hub.replayed then s else
  let f := s.claimFrame
  let ws := s.tapHead 1 0 13 ++ wordsOf 8 (claimBytes f)
  let now := s.tb3
  let s := ((List.range 16).filter s.tapCan).foldl (fun t n => t.tapFrame n 24 ws) s
  let s := ((s.tapOnEm (.claim f)).sendAllBoth (.claim f)).setClaims fun c => { c with lastSend := now }
  (s.incWrap Reg.CG_SENT_COUNT).count 0x901 s.ownIndex

/-- Buffer of thruster `t` at CFn: TXB25 to TXB31 in ascending thruster number (R371). -/
def State.tapBuffer (s : State) (n t : Nat) : Option Nat :=
  match (s.canSt n).tapMap.findIdx? (· == t) with
  | some k => if k < 7 then some (25 + k) else none
  | none => none

/-- A released command handed to the tap: a member of rank 8 or 12 sends it on every path of its thruster
(R371, R454, R460). -/
def State.sendCommand (s : State) (c : TapCommand) : State :=
  if !s.control || s.claimRank < 8 then s else
  let f := s.commandFrame c
  let ws := s.tapHead 2 c.thruster 14 ++ wordsOf 12 (commandBytes f)
  let one (t : State) (n : Nat) : State :=
    match t.tapBuffer n c.thruster with
    | some b => if t.tapCan n then t.tapFrame n b ws else t
    | none => t
  let s := ((List.range 16).foldl one s).tapOnEm (.command f)
  s.setClaims fun k =>
    { k with cmdSeq := Map.upd 0 k.cmdSeq c.thruster (fun q => (q + 1) % 2 ^ 32)
             lastCmd := Map.put k.lastCmd c.thruster (some f) }

/-! ### The claim number (R450) -/

/-- A requested rank taken as 0, 4, 8 or 12: the next lower of these. -/
def rankFloor (r : Nat) : Nat := r / 4 * 4

/-- The claim number assembled by the claim gate (R450). -/
def State.claimNumber (s : State) : Nat :=
  let rank := min (rankFloor (s.rd Reg.CG_CLAIM_REQ_RANK)) (s.rd Reg.CG_CEILING_RANK_CEIL)
  let health := min (s.rd Reg.CG_CLAIM_REQ_HEALTH) (s.rd Reg.CG_CEILING_HEALTH_CEIL)
  rank * 2 ^ 28 + health * 2 ^ 16 + s.rd Reg.CG_CFG_EPOCH * 2 ^ 8 + s.rd Reg.CG_CFG_INDEX

/-- The claim number put in force; at a change, the interrupt and a claim frame at once on every path (R453). -/
def State.updateClaim (s : State) : State :=
  let c := s.claimNumber
  if s.rd Reg.CG_CLAIM_CLAIM == c then s else
  ((s.wr Reg.CG_CLAIM_CLAIM c).raise Reg.CG_IRQ_CLAIM_CHANGE).sendClaim

end Sys2Proof.Machine
end

