-- ==== Sys2Proof/Machine/Limits.lean ====
section
/-! DEFINITION. Q15 arithmetic, the trajectory memory (R246 to R250) and the limit stage (R252, R253) of the loop
engine (07_loop_engine.md), with the consistency of limits (R262). -/

namespace Sys2Proof.Machine

/-! ### Arithmetic (R241, R242) -/

/-- The value of a 16-bit word read as Q15. -/
def q15Int (n : Nat) : Int := signed 16 n

/-- A value wrapped modulo 2¹⁶ to −32,768 … 32,767. -/
def wrap16 (z : Int) : Int := signed 16 (wrapInt 16 z)

/-- A value saturated to the Q15 range. -/
def sat16 (z : Int) : Int := max (-32768) (min 32767 z)

/-- `z` clamped to an interval. -/
def clampInt (z lo hi : Int) : Int := max lo (min hi z)

/-- Arithmetic right shift by `n` after adding half (R242). -/
def roundShift (z : Int) (n : Nat) : Int := (z + 2 ^ (n - 1)) / 2 ^ n

/-- Ends of an accumulator: Q30 from −256 to 256 − 2⁻³⁰ in 40 bits (R241). -/
def accSat (z : Int) : Int := clampInt z (-274877906944) 274877906943

/-! ### Trajectories -/

/-- Loop engine changed. -/
def State.setLoop (s : State) (f : LoopSt → LoopSt) : State := { s with loop := f s.loop }

/-- Entry `k`, channel `c`, of thruster `t` (table of R246). -/
def Trajectory.entry (j : Trajectory) (t k c : Nat) : Int :=
  let a := 64 + 1920 * t + 8 * k + 2 * c
  q15Int ((Map.get (0 : Byte) j.data a).toNat + 256 * (Map.get (0 : Byte) j.data (a + 1)).toNat)

/-- Half a second, in ns: the step of a trajectory. -/
def trajStep : Nat := 500000000

/-- The TRAJ word of thruster `t`, channel `c`, at the instant `ta` in TB0 ns (R249). -/
def Trajectory.word (j : Trajectory) (t c ta : Nat) : Int :=
  if !bitOf j.mask t then 0
  else if ta < j.validFrom then j.entry t 0 c
  else
    let d := ta - j.validFrom
    let k := d / trajStep
    if 239 ≤ k then j.entry t 239 c
    else
      let v := j.entry t k c
      let w := j.entry t (k + 1) c
      let f : Int := (d % trajStep * 32768 / trajStep : Nat)
      if c == 3 then v
      else if c == 1 then wrap16 (v + roundShift (f * wrap16 (w - v)) 15)
      else v + roundShift (f * (w - v)) 15

/-- The trajectory is stale at trigger time `t` (R250). -/
def State.trajStale (s : State) (j : Trajectory) (t : Nat) : Bool :=
  decide (j.validFrom + s.objN Obj.LE_TRAJ_STALE_MS * 1000000 < t)

/-- The trajectory is ended at trigger time `t` (R250). -/
def Trajectory.ended (j : Trajectory) (t : Nat) : Bool := decide (j.validFrom + 239 * trajStep ≤ t)

/-- Byte offset of the trajectory buffer. -/
def State.trajSrc (s : State) : Nat := s.rd Reg.LE_TRAJ_SRC_SRC * 64

/-- Size of the buffer (R246). -/
def trajSize : Nat := 61504

/-- The buffer's header fields and the sparse bytes of its entries. -/
def State.trajRead (s : State) : Trajectory :=
  let a := s.trajSrc
  let lo := gristBase + a
  { mask := s.gristNat (a + 4) 4
    validFrom := s.gristNat (a + 8) 6 * 1000000000 + s.gristNat (a + 16) 4
    flags := s.gristNat (a + 20) 4
    cycle := s.gristNat (a + 24) 8
    epoch := s.gristNat (a + 32) 1
    data := (s.mem.filter fun p => decide (lo + 64 ≤ p.1) && decide (p.1 < lo + trajSize)).map fun p => (p.1 - lo, p.2)
    copiedAt := 0 }

/-- The first refusal of R247 that holds, by the codes of LE_TRAJ_STATUS.CAUSE, or 0. -/
def State.trajCause (s : State) : Nat :=
  let a := s.trajSrc
  if s.loop.copying.isSome then 4
  else if gristSize < a + trajSize then 5
  else if crc32 (s.gristGet a 60 ++ s.gristGet (a + 64) (trajSize - 64)) != s.gristNat (a + 60) 4 then 1
  else if s.gristNat a 2 != 1 || s.gristNat (a + 2) 2 != 240 || s.gristNat (a + 14) 2 != 0 ||
      s.gristNat (a + 33) 27 != 0 then 2
  else
    let v := s.trajRead.validFrom
    let late (j : Option Trajectory) : Bool := match j with | some j => decide (v ≤ j.validFrom) | none => false
    if late s.loop.active || late s.loop.pendingTraj then 3 else 0

/-- A commit: refused, or the copy begins (R247). -/
def State.trajCommit (s : State) : State :=
  let c := s.trajCause
  if c = 0 then
    let j := s.trajRead
    (s.setLoop fun l => { l with copying := some j }).raise Reg.LE_STATUS_COPY_BUSY
  else
    (((s.raise Reg.LE_TRAJ_STATUS_REFUSED).wr Reg.LE_TRAJ_STATUS_CAUSE c).raise Reg.LE_IRQ_TRAJ_REFUSED).event
      .loop "TRAJ_REFUSED"

/-- LE_TRAJ_COMMIT: a core writes COMMIT. -/
def execLeTrajCommit (_core : Fin 4) (v : Word) (s : State) : Host.Outcome State Fault Refusal :=
  if v.toNat % 2 = 0 then .next s else .next s.trajCommit

/-- TRAJ_COPY_DONE: the copy becomes PENDING, in place of any other (R247). -/
def execTrajCopyDone (s : State) : Host.Outcome State Fault Refusal :=
  match s.loop.copying with
  | none => .next s
  | some j =>
    let now := s.now 0
    let s := if s.loop.pendingTraj.isSome then
        (s.incSat Reg.LE_TRAJ_STATUS_REPLACED).setObjN Obj.LE_REPLACED ((s.objN Obj.LE_REPLACED + 1) % 2 ^ 32)
      else s
    .next (((s.setLoop fun l => { l with copying := none, pendingTraj := some { j with copiedAt := now } }).wr
      Reg.LE_STATUS_COPY_BUSY 0).raise Reg.LE_STATUS_TRAJ_PENDING)

/-- The trajectory of an activation with trigger time `t`: the PENDING one becomes ACTIVE from its valid-from on
(R248). In GATE role no trajectory is used (R250). -/
def State.selectTraj (s : State) (t : Nat) : State :=
  match s.loop.pendingTraj with
  | some j =>
    if !s.gateRole && decide (j.validFrom ≤ t) then
      let s := s.setLoop fun l =>
        { l with active := some j, pendingTraj := none, staleSince := none, staleAlarmed := false }
      let s := ((s.raise Reg.LE_IRQ_TRAJ_SWITCH).raise Reg.LE_STATUS_TRAJ_ACTIVE).wr Reg.LE_STATUS_TRAJ_PENDING 0
      let s := (s.wr Reg.LE_STATUS_TRAJ_STALE 0).wr Reg.LE_STATUS_TRAJ_END 0
      let s := s.setObjN Obj.LE_TRAJ_CYCLE j.cycle
      if j.validFrom < j.copiedAt then s.raise Reg.LE_TRAJ_STATUS_LATE_SWITCH else s
    else s
  | none => s

/-- TRAJ_OK at trigger time `t`. -/
def State.trajOk (s : State) (t : Nat) : Bool :=
  match s.loop.active with
  | some j => !s.gateRole && !s.trajStale j t && !j.ended t
  | none => false

/-- Entry of the ACTIVE trajectory to stale and to ended, judged at trigger time `t`: EVENT, interrupt, status,
and the span of R250. -/
def State.noteTraj (s : State) (t : Nat) : State :=
  match s.loop.active with
  | none => s
  | some j =>
    if s.gateRole then s else
    let stale := s.trajStale j t
    let ended := j.ended t
    let enter (s : State) (f : Field) (is : Bool) (name : String) : State :=
      if is && !s.flag f then ((s.raise f).raise Reg.LE_IRQ_TRAJ_STALE).event .loop name else s.put f is
    let s := enter s Reg.LE_STATUS_TRAJ_STALE stale "TRAJ_STALE"
    let s := enter s Reg.LE_STATUS_TRAJ_END ended "TRAJ_ENDED"
    let now := s.tb3
    if stale || ended then
      s.setLoop fun l => { l with staleSince := some (l.staleSince.getD now) }
    else s.setLoop fun l => { l with staleSince := none, staleAlarmed := false }

/-- TRAJ_STALE_ALARM: 10 s without a break; one ALARM for each span (R250). -/
def execTrajStaleAlarm (s : State) : Host.Outcome State Fault Refusal :=
  match s.loop.staleSince with
  | some t =>
    if s.elapsed t 10000000000 && !s.loop.staleAlarmed then
      .next ((s.setLoop fun l => { l with staleAlarmed := true }).alarm .loop "TRAJ_STALE")
    else .next s
  | none => .next s

/-! ### Limits (R252, R253, R262) -/

/-- One turn and half a turn in Q15 with 8 further fraction bits. -/
def turn24 : Int := 16777216

/-- Position `x` lies inside the interval from `a` clockwise to `b`, edges not included. -/
def inSector (x a b : Int) : Bool :=
  let w := (b - a) % turn24
  w != 0 && decide (0 < (x - a) % turn24) && decide ((x - a) % turn24 < w)

/-- The nearer edge of the interval from `x`; START when both are equally near. -/
def nearEdge (x a b : Int) : Int := if (x - a) % turn24 ≤ (b - x) % turn24 then a else b

/-- The edge that replaces `x` where it lies inside an interval. -/
def sectorEdge (iv : List (Int × Int)) (x : Int) : Option Int :=
  (iv.find? fun p => inSector x p.1 p.2).map fun p => nearEdge x p.1 p.2

/-- The way of `len` from `a`, clockwise or not, passes into an interval. -/
def crosses (iv : List (Int × Int)) (a len : Int) (clockwise : Bool) : Bool :=
  iv.any fun p => decide ((if clockwise then (p.1 - a) % turn24 else (a - p.2) % turn24) < len)

/-- Limits as one command reads them. -/
structure LimitSet where
  lo : List Int
  hi : List Int
  rate : List Nat
  wrap : Bool
  /-- Used forbidden intervals, START and END in Q15. -/
  sectors : List (Int × Int)
  deriving DecidableEq, Repr

/-- Result of one channel: internal value, status bits, and how many limits acted. -/
structure LimitOut where
  v : Int
  status : Nat
  acted : Nat
  deriving DecidableEq, Repr

/-- A channel without sectors: clamp to [MIN, MAX], then the rate (R252). `last` is absent for the first command. -/
def limitLinear (lo hi : Int) (last step : Option Int) (x : Int) : LimitOut :=
  let tgt := clampInt x lo hi
  let st := if tgt != x then 1 else 0
  match last, step with
  | some v, some r =>
    let d := tgt * 256 - v
    if r < |d| then ⟨if 0 < d then v + r else v - r, st + 2, st + 1⟩ else ⟨tgt * 256, st, st⟩
  | _, _ => ⟨tgt * 256, st, st⟩

/-- The angle channel with sectors (R253). Half a turn is taken counter-clockwise, as the wrapped difference. -/
def limitAngle (iv : List (Int × Int)) (last step : Option Int) (x : Int) : LimitOut :=
  let asked := x * 256 % turn24
  match last with
  | none =>
    match sectorEdge iv asked with
    | some e => ⟨e % turn24, 4, 1⟩
    | none => ⟨asked, 0, 0⟩
  | some v =>
    let a := v % turn24
    let tgt := match sectorEdge iv a with
      | some e => e % turn24
      | none => match sectorEdge iv asked with
        | some e => e % turn24
        | none => asked
    let replaced := tgt != asked
    let span := (tgt - a) % turn24
    if span == 0 then ⟨a, if replaced then 4 else 0, ofBool replaced⟩ else
    let cw := decide (2 * span < turn24)
    let lenOf (c : Bool) : Int := if c then span else turn24 - span
    let way : Option Bool :=
      if !crosses iv a (lenOf cw) cw then some cw
      else if !crosses iv a (lenOf (!cw)) (!cw) then some (!cw) else none
    match way with
    | none => ⟨a, 8 + (if replaced then 4 else 0), 1 + ofBool replaced⟩
    | some c =>
      let sect := replaced || c != cw
      let len := lenOf c
      let move := match step with | some r => min r len | none => len
      let rated := decide (move < len)
      ⟨(if c then a + move else a - move) % turn24, (if rated then 2 else 0) + (if sect then 4 else 0),
        ofBool rated + ofBool sect⟩

/-- Limit registers of thruster `t`, read once per command. -/
def State.limitsOf (s : State) (t : Nat) : LimitSet :=
  { lo := (List.range 4).map fun c => q15Int (s.rd Reg.LEL_RANGE_MIN t c)
    hi := (List.range 4).map fun c => q15Int (s.rd Reg.LEL_RANGE_MAX t c)
    rate := (List.range 4).map fun c => s.rd Reg.LEL_RATE_RATE t c
    wrap := s.flag Reg.LEL_WRAP_ANGLE_WRAP t
    sectors := ((List.range 8).map fun i =>
      (q15Int (s.rd Reg.LEL_SECTOR_START t i), q15Int (s.rd Reg.LEL_SECTOR_END t i))).filter fun p => p.1 != p.2 }

/-- Intervals in the internal unit. -/
def LimitSet.sectors24 (l : LimitSet) : List (Int × Int) := l.sectors.map fun p => (p.1 * 256, p.2 * 256)

/-- A command of thruster `t` through the limit stage (R252): released values, status bits 0 to 3, how many limits
acted, and the new state of the stage. -/
def limitStage (l : LimitSet) (st : LimitSt) (app : Nat) (staged : List Int) : List Int × Nat × Nat × LimitSt :=
  let first := st.lastApp.isNone
  let dt : Int := match st.lastApp with | some p => clampInt ((app : Int) - p) 0 100000000 | none => 0
  let chan (c : Nat) : LimitOut :=
    let last := if first then none else st.vlast[c]?
    let r := l.rate.getD c 65535
    let step : Option Int := if first || r == 65535 then none else some ((r : Int) * dt / 1000000)
    let x := staged.getD c 0
    if c == 1 && l.wrap then limitAngle l.sectors24 last step x
    else limitLinear (l.lo.getD c 0) (l.hi.getD c 0) last step x
  let outs := (List.range 4).map chan
  let value (c : Nat) (o : LimitOut) : Int := if c == 1 && l.wrap then wrap16 (roundShift o.v 8) else sat16 (roundShift o.v 8)
  (outs.mapIdx value, outs.foldl (fun n o => n ||| o.status) 0, outs.foldl (fun n o => n + o.acted) 0,
    { vlast := outs.map (·.v), lastApp := some app })

/-- Two used intervals, in Q15, overlap. -/
def overlap (p q : Int × Int) : Bool :=
  let m := fun (z : Int) => z % 65536
  p.1 == q.1 || (decide (0 < m (q.1 - p.1)) && decide (m (q.1 - p.1) < m (p.2 - p.1))) ||
    (decide (0 < m (p.1 - q.1)) && decide (m (p.1 - q.1) < m (q.2 - q.1)))

/-- Some pair of a list overlaps. -/
def anyOverlap : List (Int × Int) → Bool
  | [] => false
  | p :: ps => ps.any (overlap p) || anyOverlap ps

/-- R262: every MIN is at most its MAX, no two intervals overlap, and they forbid at most 330° in all. -/
def limitsOk (l : LimitSet) : Bool :=
  (List.zip l.lo l.hi).all (fun p => decide (p.1 ≤ p.2)) && !anyOverlap l.sectors &&
  decide ((l.sectors.foldl (fun n p => n + (p.2 - p.1) % 65536) 0) * 360 ≤ 330 * 65536)

end Sys2Proof.Machine
end

