-- ==== Sys2Proof/Machine/Loop.lean ====
section
/-! DEFINITION. The loop engine's slots, dispatcher, steps, test generators and capture (07_loop_engine.md). -/

namespace Sys2Proof.Machine

/-! ### Slots -/

/-- Slot LPs. -/
def State.slot (s : State) (i : Nat) : SlotSt := Map.get {} s.loop.slots i

/-- The slot runs activations: enabled, draining, or a spare in place of another. -/
def SlotSt.runs (x : SlotSt) : Bool := x.mode == .enabled || x.mode == .draining || x.mode == .sparing

/-- The slot takes triggers. -/
def SlotSt.takes (x : SlotSt) : Bool := x.mode == .enabled || x.mode == .sparing

/-- LES_STAT.STATE of a slot. -/
def SlotSt.code (x : SlotSt) : Nat :=
  match x.mode with
  | .disabled => 0
  | .enabled => match x.act with
    | none => 1
    | some a => if a.started then 3 else 2
  | .draining => 4
  | .offline => 5
  | .bist => 6
  | .retired => 7
  | .sparing => 8

/-- Slots that run, in ascending order. -/
def State.runningSlots (s : State) : List Nat := (s.loop.slots.filter fun p => p.2.runs).map (·.1)

/-- A slot changed, with its state register, its ENABLE bit and the count of enabled slots. -/
def State.setSlot (s : State) (i : Nat) (f : SlotSt → SlotSt) : State :=
  let s := s.setLoop fun l => { l with slots := Map.upd {} l.slots i f }
  let x := s.slot i
  let s := (s.wr Reg.LES_STAT_STATE x.code i).put Reg.LES_CTRL_ENABLE x.runs i
  s.wr Reg.LE_STATUS_ENABLED s.runningSlots.length

/-- The shadow configuration, as the slot's registers hold it (R244). -/
def State.shadowCfg (s : State) (i : Nat) : SlotCfg :=
  { spareEn := s.flag Reg.LES_CFG_SPARE_EN i, spare := s.rd Reg.LES_CFG_SPARE i, steps := s.rd Reg.LES_CFG_STEPS i,
    deadline := s.rd Reg.LES_CFG_DEADLINE i, prio := s.rd Reg.LES_CFG_PRIO i, kind := s.rd Reg.LES_TRIG_KIND i,
    arg := s.rd Reg.LES_TRIG_ARG i, period := s.rd Reg.LES_PERIOD_PERIOD_US i,
    phase := s.rd Reg.LES_PHASE_PHASE_US i, lead := s.rd Reg.LES_LEAD_LEAD_US i }

/-! ### Response bound (R233 to R235) -/

/-- Σ (N_j + 4) over the enabled slots of PRIO not below that of a configuration, 2 included (R234). -/
def State.boundSteps (s : State) (prio : Nat) : Nat :=
  s.runningSlots.foldl (fun n j =>
    let x := s.slot j
    if prio ≤ x.cfg.prio then n + x.cfg.steps + 4 else n) 2

/-- L_i exceeds DEADLINE, for `sum` steps in L_i: with C_dip = 432 × DIP / 16,384 steps per µs (R233). -/
def boundExceeds (dip sum deadline : Nat) : Bool := decide ((deadline - 1) * 432 * dip < sum * 16384)

/-- L_i in units of 10 ns, rounded up; the largest value where no dip factor is known. -/
def boundTens (dip sum : Nat) : Nat :=
  if dip = 0 then 65535 else min 65535 (100 + (sum * 16384 * 100 + 432 * dip - 1) / (432 * dip))

/-- Some enabled slot's L_i exceeds its DEADLINE. -/
def State.anyExceeds (s : State) : Bool :=
  let dip := s.rd Reg.GAUGE_HUB_DIP_DIP
  s.runningSlots.any fun i => boundExceeds dip (s.boundSteps (s.slot i).cfg.prio) (s.slot i).cfg.deadline

/-- Every L_i recomputed: BOUND, LATE_RISK, LE_CAPACITY, and the ALARM where a risk is new (R235). -/
def State.recheck (s : State) : State :=
  let dip := s.rd Reg.GAUGE_HUB_DIP_DIP
  let s := s.wr Reg.LE_CAPACITY_DIP (432 * dip / 1024)
  let s := s.wr Reg.LE_CAPACITY_FLOOR (432 * s.rd Reg.GAUGE_HUB_FLOOR / 1024)
  let one (t : State) (p : Nat × SlotSt) : State :=
    let i := p.1
    if !p.2.runs then t.wr Reg.LES_STAT_LATE_RISK 0 i else
    let sum := t.boundSteps p.2.cfg.prio
    let risk := boundExceeds dip sum p.2.cfg.deadline
    let t := t.wr Reg.LES_BOUND_BOUND (boundTens dip sum) i
    if risk && !t.flag Reg.LES_STAT_LATE_RISK i then
      ((t.raise Reg.LES_STAT_LATE_RISK i).raise Reg.LE_IRQ_LATE_RISK).alarm .loop "LATE_RISK" (0xA00 + i)
    else t.put Reg.LES_STAT_LATE_RISK risk i
  let s := s.loop.slots.foldl one s
  s.put Reg.LE_STATUS_LATE_RISK (s.loop.slots.any fun p => s.flag Reg.LES_STAT_LATE_RISK p.1)

/-- LE_RECHECK: a write of 1 to LE_CTRL.RECHECK. -/
def execLeRecheck (s : State) : Host.Outcome State Fault Refusal := .next s.recheck

/-! ### Signal words (R240, R261) -/

/-- A stored signal word, signed. -/
def State.word (s : State) (a : Nat) : Int := q15Int (s.rd Reg.LE_WORD_WORD a)

/-- A signal word written. -/
def State.setWord (s : State) (a : Nat) (z : Int) : State := s.wr Reg.LE_WORD_WORD (wrapInt 16 z) a

/-- A BOOL as a signal word. -/
def boolWord (b : Bool) : Int := if b then 0x7FFF else 0

/-- A source address of the map that is assigned (R243). -/
def srcOk (a : Nat) : Bool :=
  decide (a ≤ 0x12) || a == 0x18 || a == 0x1A || a == 0x1B || decide (0x20 ≤ a ∧ a ≤ 0x2F) ||
  decide (0x40 ≤ a ∧ a ≤ 0xDF) || decide (0x100 ≤ a ∧ a ≤ 0x7FF)

/-- A destination address that a step may write (R243). -/
def dstOk (a : Nat) : Bool := decide (a ≤ 0xF) || decide (0x200 ≤ a ∧ a ≤ 0x27F) || decide (0x400 ≤ a ∧ a ≤ 0x7FF)

/-- A signal word outside the locals, evaluated for application time `app` with TRAJ_OK as given. -/
def State.signal (s : State) (a app : Nat) (ok : Bool) : Int :=
  if a == 0x10 then 0
  else if a == 0x11 then 0x7FFF
  else if a == 0x12 then -0x8000
  else if a == 0x18 then boolWord ok
  else if a == 0x1A then (match s.loop.active with | some j => q15Int (j.mask % 65536) | none => 0)
  else if a == 0x1B then (match s.loop.active with | some j => q15Int (j.mask / 65536) | none => 0)
  else if 0x100 ≤ a ∧ a < 0x180 then
    match s.loop.active with
    | some j => if s.gateRole then 0 else j.word ((a - 0x100) / 4) ((a - 0x100) % 4) app
    | none => 0
  else if srcOk a && decide (0x10 ≤ a) then s.word a
  else 0

/-! ### Test generators (R254, R255) -/

/-- Generator TGg. -/
def State.gen (s : State) (g : Nat) : GenSt := Map.get {} s.loop.gens g

/-- Generator TGg changed. -/
def State.setGen (s : State) (g : Nat) (f : GenSt → GenSt) : State :=
  s.setLoop fun l => { l with gens := Map.upd {} l.gens g f }

/-- 2π, as the binary64 nearest to π gives it. -/
def twoPi : Rat := 884279719003555 / 140737488355328

/-- The fraction of a number of cycles. -/
def fracOf (x : Rat) : Rat := x - x.floor

/-- Frequency `i` of a stepped sweep. -/
def steppedFreq (f0 f1 : Rat) (n i : Nat) : Rat := f0 * Config.rpow (f1 / f0) ((i : Rat) / ((n - 1 : Nat) : Rat))

/-- Step and phase of a stepped sweep at time `t`: index, frequency and time within the step. -/
def steppedAt (f0 f1 : Rat) (n cycles : Nat) : Nat → Nat → Rat → Option (Nat × Rat × Rat)
  | 0, _, _ => none
  | k + 1, i, t =>
    let f := steppedFreq f0 f1 n i
    let d := (cycles : Rat) / f
    if t < d then some (i, f, t) else steppedAt f0 f1 n cycles k (i + 1) (t - d)

/-- Tap k of a listed PRBS order m. -/
def prbsTap (m : Nat) : Option Nat :=
  match m with
  | 7 => some 6 | 9 => some 5 | 10 => some 7 | 11 => some 9 | 15 => some 14 | 17 => some 14 | 20 => some 3
  | 23 => some 18 | 31 => some 28 | _ => none

/-- What one evaluation of a generator yields: value, settling, count, and whether the sweep has ended. -/
structure GenOut where
  value : Rat
  settling : Bool := false
  count : Nat := 0
  ended : Bool := false

/-- A value rounded to nearest and saturated to Q15. -/
def genWord (x : Rat) : Int := sat16 (roundHalfUp x)

/-- Generator `g` evaluated at time `t` in seconds (R254); PRBS is evaluated apart. -/
def State.genEval (s : State) (g : Nat) (t : Rat) : GenOut :=
  let amp : Rat := q15Int (s.rd Reg.TG_AMP_AMP g)
  let off : Rat := q15Int (s.rd Reg.TG_AMP_OFFSET g)
  let f0 := ofF32 (s.rd Reg.TG_F0_F0 g)
  let f1 := ofF32 (s.rd Reg.TG_F1_F1 g)
  let time := s.rd Reg.TG_TIME_TIME g
  let dur : Rat := (time : Rat) / 1000
  let sine (cycles : Rat) : Rat := off + amp * Config.sin (twoPi * fracOf cycles)
  match s.rd Reg.TG_CFG_KIND g with
  | 6 => { value := if fracOf (f0 * t) < (s.rd Reg.TG_CFG_HOLD g : Rat) / 32768 then off + amp else off - amp }
  | 2 => { value := sine (f0 * t) }
  | 3 =>
    let n := s.rd Reg.TG_SEED_SEED g % 128
    let settle := time / 65536
    match steppedAt f0 f1 n (settle + time % 65536) n 0 t with
    | some (i, f, u) => { value := sine (f * u), settling := decide (f * u < settle), count := i }
    | none => { value := 0, ended := true }
  | 4 => { value := sine (f0 * t + (f1 - f0) * t * t / (2 * dur)), ended := decide (dur ≤ t) }
  | 5 =>
    let k := f1 / f0
    { value := sine (f0 * dur * (Config.rpow k (t / dur) - 1) / Config.log k), ended := decide (dur ≤ t) }
  | _ => { value := 0 }

/-- A generator stopped: output 0, TGS false, TG_DONE (R255). -/
def State.genStop (s : State) (g : Nat) : State :=
  if !(s.gen g).running then s else
  let s := s.setGen g fun x => { x with running := false }
  let s := (s.setWord (0x20 + g) 0).setWord (0x28 + g) 0
  let s := ((s.wr Reg.TG_STATUS_RUNNING 0 g).wr Reg.TG_STATUS_SETTLING 0 g).raise Reg.TG_STATUS_DONE g
  s.raise Reg.LE_IRQ_TG_DONE

/-- Every running generator of owner `slot` stopped, or every one. -/
def State.genStopOf (s : State) (slot : Option Nat) : State :=
  (List.range 8).foldl (fun t g =>
    if slot.isNone || slot == some (t.rd Reg.TG_CFG_OWNER g) then t.genStop g else t) s

/-- The PRBS shift (R254): new bit s_{m−1} XOR s_{k−1}. -/
def prbsShift (m k r : Nat) : Nat :=
  let b := if bitOf r (m - 1) == bitOf r (k - 1) then 0 else 1
  (r * 2 + b) % 2 ^ m

/-- Generator `g` at an accepted trigger of its owner with application time `app`. -/
def State.genTrigger (s : State) (g app : Nat) : State :=
  let x := s.gen g
  let t0 := x.t0.getD app
  let t : Rat := ((app : Int) - t0 : Int) / (1000000000 : Rat)
  let s := s.setGen g fun x => { x with t0 := some t0, last := app }
  if s.rd Reg.TG_CFG_KIND g == 1 then
    if (s.rd Reg.TG_TIME_TIME g : Rat) / 1000 ≤ t then s.genStop g else
    let m := s.rd Reg.TG_CFG_ORDER g
    let every := max 1 (s.rd Reg.TG_CFG_HOLD g)
    let shift := x.hold % every == 0
    let r := if shift then prbsShift m ((prbsTap m).getD 1) x.lfsr else x.lfsr
    let s := s.setGen g fun y => { y with lfsr := r, hold := y.hold + 1 }
    let off : Rat := q15Int (s.rd Reg.TG_AMP_OFFSET g)
    let amp : Rat := q15Int (s.rd Reg.TG_AMP_AMP g)
    let s := if shift then s.wr Reg.TG_STATUS_COUNT (x.hold / every + 1) g else s
    (s.setWord (0x20 + g) (genWord (if r % 2 == 1 then off + amp else off - amp))).setWord (0x28 + g) 0x7FFF
  else
    let o := s.genEval g t
    if o.ended then s.genStop g else
    let s := (s.wr Reg.TG_STATUS_COUNT o.count g).put Reg.TG_STATUS_SETTLING o.settling g
    (s.setWord (0x20 + g) (genWord o.value)).setWord (0x28 + g) (boolWord !o.settling)

/-- Every running generator of the slot evaluated at its trigger (R254). -/
def State.gensAt (s : State) (slot app : Nat) : State :=
  (List.range 8).foldl (fun t g =>
    if (t.gen g).running && t.rd Reg.TG_CFG_OWNER g == slot then t.genTrigger g app else t) s

/-- Trigger rate of a slot in Hz, for R255. -/
def SlotCfg.rate (c : SlotCfg) : Rat := if c.kind == 1 then 1000000 / (c.period : Rat) else 4000

/-- A START is refused (R255). -/
def State.genRefused (s : State) (g : Nat) : Bool :=
  let owner := s.slot (s.rd Reg.TG_CFG_OWNER g)
  let kind := s.rd Reg.TG_CFG_KIND g
  let f0 := ofF32 (s.rd Reg.TG_F0_F0 g)
  let f1 := ofF32 (s.rd Reg.TG_F1_F1 g)
  let top := owner.cfg.rate / 4
  let two := kind == 3 || kind == 4 || kind == 5
  let one := two || kind == 2 || kind == 6
  let m := s.rd Reg.TG_CFG_ORDER g
  !owner.takes ||
  (one && (decide (f0 ≤ 0) || decide (top < f0))) || (two && (decide (f1 ≤ 0) || decide (top < f1))) ||
  (kind == 1 && ((prbsTap m).isNone || s.rd Reg.TG_SEED_SEED g % 2 ^ m == 0))

/-- GENERATOR_START: an ORDER of 0x63gg.0E (R255). -/
def execGeneratorStart (g : Fin 8) (s : State) : Host.Outcome State Fault Refusal :=
  if s.genRefused g then .next (s.answer 14) else
  let seed := s.rd Reg.TG_SEED_SEED g % 2 ^ s.rd Reg.TG_CFG_ORDER g
  let s := s.setGen g fun _ => { running := true, t0 := none, last := 0, lfsr := seed, hold := 0 }
  .next ((((s.raise Reg.TG_STATUS_RUNNING g).wr Reg.TG_STATUS_DONE 0 g).wr Reg.TG_STATUS_COUNT 0 g).answer 0)

/-- GENERATOR_STOP: an ORDER of 0x63gg.0F. -/
def execGeneratorStop (g : Fin 8) (s : State) : Host.Outcome State Fault Refusal := .next ((s.genStop g).answer 0)

/-- GENERATOR_END: the end of the sweep or of DURATION_MS. -/
def execGeneratorEnd (g : Fin 8) (s : State) : Host.Outcome State Fault Refusal := .next (s.genStop g)

/-! ### Triggers (R236 to R239) -/

/-- A validated program that waits between two activations installed (R244). -/
def State.installStaged (s : State) (i : Nat) : State :=
  match (s.slot i).staged with
  | some (c, p) =>
    if (s.slot i).act.isSome then s else
    ((s.setSlot i fun x => { x with staged := none, cfg := c, program := p }).wr Reg.LES_STAT_SHADOW_DIRTY 0 i).recheck
  | none => s

/-- A trigger of slot `i` with trigger time `t` on TB0 (R238, R239). -/
def State.trigger (s : State) (i t : Nat) : State :=
  if !s.flag Reg.LE_STATUS_RUN || s.flag Reg.LE_STATUS_DATAPATH_FAULT || !(s.slot i).takes then s else
  let x := s.slot i
  let soon := match x.lastTrig with | some p => decide (t < p + 250000) | none => false
  if x.act.isSome || soon then
    (((s.incSat Reg.LES_STAT_OVERRUN i).raise Reg.LE_IRQ_OVERRUN).count 0x304 (some i)).event .loop "OVERRUN" (0xA00 + i)
  else
    let s := s.installStaged i
    let now := s.tb3
    let s := s.setSlot i fun x => { x with act := some ⟨t, false, now⟩, lastTrig := some t }
    s.gensAt i (t + (s.slot i).cfg.lead * 1000)

/-- Every slot of trigger kind `kind` whose ARG satisfies `p` triggered. -/
def State.triggerKind (s : State) (kind : Nat) (p : Nat → Bool) (t : Nat) : State :=
  s.loop.slots.foldl (fun u q => if q.2.cfg.kind == kind && p q.2.cfg.arg then u.trigger q.1 t else u) s

/-- The latest trigger instant of a TIME slot on its base, in ns of that base. -/
def State.timeInstant (s : State) (c : SlotCfg) : Option Nat :=
  let now := s.now (c.arg % 4)
  let period := c.period * 1000
  let phase := c.phase * 1000
  if period = 0 ∨ now < phase then none else some (now - (now - phase) % period)

/-- TIME_TRIGGER: the instant (t − PHASE_US) mod PERIOD_US = 0 has come on the slot's base; it does not fire where
a step of the base forbids it (R330). -/
def execTimeTrigger (slot : Fin 256) (s : State) : Host.Outcome State Fault Refusal :=
  let c := (s.slot slot).cfg
  if c.kind ≠ 1 then .next s else
  match s.timeInstant c with
  | some t =>
    let n := c.arg % 4
    if s.fires n t then .next (s.trigger slot (if n == 0 then t else (s.convert n 0 t).toNat)) else .next s
  | none => .next s

/-- LE_SW_TRIG: a write of the slot number triggers the slot when its KIND is 6. -/
def execLeSwTrig (_core : Fin 4) (v : Word) (s : State) : Host.Outcome State Fault Refusal :=
  let i := v.toNat % 256
  if (s.slot i).cfg.kind == 6 then .next (s.trigger i (s.now 0)) else .next s

/-! ### Capture (R256) -/

/-- Bytes of an entry by FORMAT. -/
def capSize (format : Nat) : Nat := match format with | 0 => 2 | 1 => 4 | _ => 8

/-- Capture buffer CBc. -/
def State.cap (s : State) (c : Nat) : CapSt := Map.get {} s.loop.caps c

/-- Capture buffer CBc changed. -/
def State.setCap (s : State) (c : Nat) (f : CapSt → CapSt) : State :=
  s.setLoop fun l => { l with caps := Map.upd {} l.caps c f }

/-- The buffer is DONE. -/
def State.capDone (s : State) (c : Nat) : State :=
  ((s.wr Reg.CAP_STATUS_ARMED 0 c).raise Reg.CAP_STATUS_DONE c).raise Reg.LE_IRQ_CAP_DONE

/-- The stop of a RING buffer: COUNT further entries follow. -/
def State.capStop (s : State) (c : Nat) : State :=
  if s.flag Reg.CAP_STATUS_ARMED c && s.flag Reg.CAP_CFG_MODE c && (s.cap c).remaining.isNone then
    let n := s.rd Reg.CAP_CFG_COUNT c
    let s := s.setCap c fun x => { x with remaining := some n }
    if n == 0 then s.capDone c else s
  else s

/-- A CAP step of slot `i` with trigger time `t` (R256). -/
def State.capture (s : State) (i c : Nat) (a b : Int) (stop : Bool) (t : Nat) : State :=
  if s.rd Reg.CAP_CFG_OWNER c != i then s.incSat Reg.CAP_IGNORED_COUNT c
  else if !s.flag Reg.CAP_STATUS_ARMED c then s
  else
    let fmt := s.rd Reg.CAP_CFG_FORMAT c
    let x := s.cap c
    let w (z : Int) : List Byte := leBytes 2 (wrapInt 16 z)
    let bytes := if fmt == 0 then w a else if fmt == 1 then w a ++ w b else w a ++ w b ++ leBytes 4 (t % 1000000000)
    let s := s.gristPut (s.rd Reg.CAP_BASE_BASE c * 64 + capSize fmt * x.next) bytes
    let wraps := s.rd Reg.CAP_STATUS_TAKEN c ≥ 65536
    let s := s.incSat Reg.CAP_STATUS_TAKEN c
    let nxt := (x.next + 1) % 65536
    let s := s.setCap c fun y => { y with next := nxt, times := Map.put y.times x.next t }
    let s := if wraps then s.raise Reg.CAP_STATUS_WRAPPED c else s
    let oldest := stampOf (Map.get t (s.cap c).times (if wraps then nxt else 0))
    let s := (s.wr Reg.CAP_T0_NS_NS oldest.ns c).wr Reg.CAP_T0_S_S oldest.sec c
    let ring := s.flag Reg.CAP_CFG_MODE c
    if !ring then
      if s.rd Reg.CAP_CFG_COUNT c ≤ s.rd Reg.CAP_STATUS_TAKEN c then s.capDone c else s
    else match x.remaining with
      | some r =>
        let s := s.setCap c fun y => { y with remaining := some (r - 1) }
        if r ≤ 1 then s.capDone c else s
      | none => if stop then s.capStop c else s

/-- CAPTURE_ARM: a write of CAPc_CTRL.ARM, or 0x64cc.06 with 1. Arming fails where the buffer does not lie wholly in
the Grist store or its base is not 64-byte aligned. -/
def execCaptureArm (c : Fin 16) (s : State) : Host.Outcome State Fault Refusal :=
  if gristSize < s.rd Reg.CAP_BASE_BASE c * 64 + 65536 * capSize (s.rd Reg.CAP_CFG_FORMAT c) ∨ (s.cap c).misaligned then
    .next (s.raise Reg.CAP_STATUS_ERR c)
  else
    let s := s.setCap c fun x => { x with remaining := none, next := 0, times := [] }
    let s := ((s.wr Reg.CAP_STATUS_DONE 0 c).wr Reg.CAP_STATUS_WRAPPED 0 c).wr Reg.CAP_STATUS_ERR 0 c
    .next ((s.wr Reg.CAP_STATUS_TAKEN 0 c).raise Reg.CAP_STATUS_ARMED c)

/-- CAPTURE_STOP: a write of CAPc_CTRL.STOP, or 0x64cc.06 with 2. -/
def execCaptureStop (c : Fin 16) (s : State) : Host.Outcome State Fault Refusal := .next (s.capStop c)

/-! ### Release of a command (R251, R252) -/

/-- What one activation runs with: its slot, trajectory view and times, and the locals and accumulators it changes. -/
structure Run where
  s : State
  i : Nat
  trigger : Nat
  app : Nat
  ok : Bool
  late : Bool
  loc : Map Nat
  acc0 : Int
  acc1 : Int
  steps : Nat

/-- A saturation of the slot. -/
def State.satHit (s : State) (i n : Nat) : State :=
  if n = 0 then s else (s.incSat Reg.LES_STAT_SAT i 0 n).count 0x305 (some i) n

/-- The entry of the command log (table of 07_loop_engine.md). -/
def logEntry (t status slot app : Nat) (vs : List Int) : List Byte :=
  leBytes 1 t ++ leBytes 1 status ++ leBytes 1 slot ++ [0] ++ leBytes 6 (stampOf app).sec ++ [0, 0] ++
  leBytes 4 (stampOf app).ns ++ vs.flatMap (fun v => leBytes 2 (wrapInt 16 v)) ++ List.replicate 8 0

/-- A test generator owned by the slot runs. -/
def State.testing (s : State) (i : Nat) : Bool :=
  (List.range 8).any fun g => (s.gen g).running && s.rd Reg.TG_CFG_OWNER g == i

/-- A command of thruster `t` released by the running slot. -/
def Run.release (r : Run) (t : Nat) : Run :=
  let s := r.s
  let staged := (List.range 4).map fun c => s.word (0x200 + 4 * t + c)
  let out := limitStage (s.limitsOf t) (Map.get {} s.loop.limits t) r.app staged
  let vs := out.1
  let status := out.2.1 + (if r.late then 16 else 0) + (if s.testing r.i then 32 else 0) +
    (if r.ok || s.gateRole then 0 else 64) + (if (s.slot r.i).standsFor.isSome then 128 else 0)
  let s := s.setLoop fun l => { l with limits := Map.put l.limits t out.2.2.2 }
  let s := s.satHit r.i out.2.2.1
  let s := (List.range 4).foldl (fun u c => u.setWord (0x280 + 4 * t + c) (vs.getD c 0)) s
  let s := if s.flag Reg.LE_CTRL_CMDLOG_EN then
      let h := s.rd Reg.LE_CMDLOG_HEAD_HEAD
      (s.gristPut (s.rd Reg.LE_CMDLOG_BASE_BASE * 64 + 32 * h) (logEntry t status r.i r.app vs)).wr
        Reg.LE_CMDLOG_HEAD_HEAD (h + 1)
    else s
  let cycle := match s.loop.active with | some j => j.cycle | none => 0
  let s := (s.count 0x306 (some r.i)).sendCommand
    { thruster := t, status, app := r.app, values := vs, planCycle := cycle, probe := false }
  { r with s }

/-! ### Steps -/

/-- A source word of the running slot. -/
def Run.read (r : Run) (a : Nat) : Int :=
  if a < 16 then q15Int (Map.get 0 r.loc a) else r.s.signal a r.app r.ok

/-- A destination word written; a store to a DRIVE word of CMD releases a command (R251). -/
def Run.write (r : Run) (d : Nat) (z : Int) : Run :=
  if d < 16 then { r with loc := Map.put r.loc d (wrapInt 16 z) }
  else
    let r := { r with s := r.s.setWord d z }
    if 0x200 ≤ d ∧ d < 0x280 ∧ d % 4 = 0 then r.release ((d - 0x200) / 4) else r

/-- A store by the rules of R242: wrapped, or saturated and counted. -/
def Run.store (r : Run) (w : Bool) (d : Nat) (z : Int) : Run :=
  if w then r.write d (wrap16 z)
  else if sat16 z == z then r.write d z
  else { r with s := r.s.satHit r.i 1 }.write d (sat16 z)

/-- The accumulator chosen by AC. -/
def Run.acc (r : Run) (ac : Bool) : Int := if ac then r.acc1 else r.acc0

/-- An accumulator written. -/
def Run.setAcc (r : Run) (ac : Bool) (z : Int) : Run := if ac then { r with acc1 := z } else { r with acc0 := z }

/-- An accumulation, saturated at the ends of the range and counted (R241, R242). -/
def Run.accumulate (r : Run) (ac : Bool) (z : Int) : Run :=
  let r := if accSat z == z then r else { r with s := r.s.satHit r.i 1 }
  r.setAcc ac (accSat z)

/-- The fields of a step word. -/
structure StepWord where
  op : Nat
  ac : Bool
  w : Bool
  a : Nat
  b : Nat
  d : Nat
  sh : Nat
  k : Nat
  deriving DecidableEq, Repr

/-- A step word taken apart. -/
def stepFields (n : Nat) : StepWord :=
  { op := n / 2 ^ 58 % 64, ac := bitOf n 57, w := bitOf n 56, a := n / 2 ^ 44 % 4096, b := n / 2 ^ 32 % 4096,
    d := n / 2 ^ 20 % 4096, sh := n / 2 ^ 16 % 16, k := n % 65536 }

/-- One step, and how many further steps it skips. -/
def Run.step (r : Run) (x : StepWord) : Run × Nat :=
  let r := { r with steps := r.steps + 1 }
  let A := r.read x.a
  let B := r.read x.b
  let K := q15Int x.k
  let one : Int := 32768
  match x.op with
  | 0x01 => (r.setAcc x.ac (A * one), 0)
  | 0x02 => (r.setAcc x.ac (K * one), 0)
  | 0x03 => (r.setAcc x.ac (A * K), 0)
  | 0x04 => (r.accumulate x.ac (r.acc x.ac + A * K), 0)
  | 0x05 => (r.accumulate x.ac (r.acc x.ac + A * B), 0)
  | 0x06 => (r.accumulate x.ac (r.acc x.ac + r.acc (!x.ac)), 0)
  | 0x07 =>
    let r := r.accumulate x.ac (r.acc x.ac + A * K)
    (r.setAcc x.ac (clampInt (r.acc x.ac) (-(|B| * one)) (|B| * one)), 0)
  | 0x08 => (r.store x.w x.d (roundShift (r.acc x.ac * 2 ^ x.sh) 15), 0)
  | 0x09 => (r.store false x.d A, 0)
  | 0x0A => (r.store x.w x.d (A + B), 0)
  | 0x0B => (r.store x.w x.d (A - B), 0)
  | 0x0C => (r.store false x.d (roundShift (A * B * 2 ^ x.sh) 15), 0)
  | 0x0D => (r.store false x.d |A|, 0)
  | 0x0E => (r.store false x.d (clampInt A (-K) K), 0)
  | 0x0F =>
    let D := r.read x.d
    (r.store false x.d (roundShift (D * one + K * (A - D)) 15), 0)
  | 0x10 =>
    let D := r.read x.d
    let diff := if x.w then wrap16 (A - D) else A - D
    (r.store x.w x.d (D + clampInt diff (-K) K), 0)
  | 0x11 => (r.write x.d (boolWord (decide (B < A))), 0)
  | 0x12 => (r.write x.d (if B != 0 then A else r.read (x.k % 4096)), 0)
  | 0x13 => (r, if A == 0 then x.k else 0)
  | 0x14 => (if A != 0 then { r with s := r.s.triggerKind 4 (fun g => g % 16 == x.k) r.trigger } else r, 0)
  | 0x15 => ({ r with s := r.s.capture r.i x.k A B (x.sh == 1) r.trigger }, 0)
  | _ => (r, 0)

/-- The step list run to its end; a skip past the end ends it. -/
def Run.go : Nat → List Nat → Run → Run
  | 0, _, r => r
  | _ + 1, [], r => r
  | f + 1, w :: ws, r =>
    let p := r.step (stepFields w)
    Run.go f (ws.drop p.2) p.1

/-! ### Dispatcher (R593), completion, datapath fault (R257) -/

/-- Activation `a` of PRIO p goes before `b` of PRIO q, in slot order `a` first. -/
def goesBefore (p q : Nat) (a b : Activation) : Bool := decide (q < p) || (p == q && decide (a.trigger ≤ b.trigger))

/-- The pending activation that the dispatcher starts (R593). -/
def State.nextSlot (s : State) : Option (Nat × Activation) :=
  s.loop.slots.foldl (fun best p =>
    match p.2.runs, p.2.act with
    | true, some a =>
      match best with
      | none => some (p.1, a)
      | some (j, b) => if goesBefore (s.slot j).cfg.prio p.2.cfg.prio b a then best else some (p.1, a)
    | _, _ => best) none

/-- A step failed its third attempt: every slot stops (R257). The claim ceiling follows at its next recomputation. -/
def State.datapathFault (s : State) : State :=
  let s := s.loop.slots.foldl (fun t p => t.setSlot p.1 fun x => { x with act := none }) s
  (((s.raise Reg.LE_STATUS_DATAPATH_FAULT).raise Reg.LE_IRQ_DATAPATH_FAULT).wr Reg.LE_STATUS_RUN 0).alarm
    .loop "DATAPATH_FAULT"

/-- The spare that a slot names is usable: another slot, disabled and not retired. -/
def State.usableSpare (s : State) (i : Nat) : Option Nat :=
  let c := (s.slot i).cfg
  if c.spareEn && c.spare != i && (s.slot c.spare).mode == .disabled && !s.retired (slotAt 10 c.spare) then some c.spare
  else none

/-- The slot that runs in place of slot `i`. -/
def State.standIn (s : State) (i : Nat) : Option Nat :=
  (s.loop.slots.find? fun p => p.2.mode == .sparing && p.2.standsFor == some i).map (·.1)

/-- What retirement does in the loop engine (R257 to R259): the activation is abandoned, the slot stops, and its
spare takes over between two activations where it has one. -/
def State.loopRetire (s : State) (i : Nat) : State :=
  let spare := (s.usableSpare i).isSome && (s.slot i).runs
  let s := s.setSlot i fun x =>
    { x with mode := .retired, act := none, thenBist := false, handover := if spare then some true else none }
  ((s.raise Reg.LE_IRQ_SLOT_RETIRED).genStopOf (some i)).recheck

/-- The end of an activation of a slot that drains. -/
def State.drainEnd (s : State) (i : Nat) : State :=
  let x := s.slot i
  if x.mode != .draining || x.act.isSome then s
  else if x.thenBist then (s.setSlot i fun x => { x with mode := .bist, thenBist := false }).unitTesting (slotAt 10 i)
  else (s.setSlot i fun x => { x with mode := .disabled }).recheck

/-- Lateness of a completed activation (R236). -/
def State.noteLate (s : State) (i : Nat) (late : Bool) : State :=
  if !late then s.setSlot i fun x => { x with lateRun := 0 } else
  let s := ((s.incSat Reg.LES_STAT_LATE i).raise Reg.LE_IRQ_LATE).count 0x303 (some i)
  let s := s.setObjN Obj.LE_LATE_TOTAL ((s.objN Obj.LE_LATE_TOTAL + 1) % 2 ^ 32)
  let s := s.setSlot i fun x => { x with lateRun := x.lateRun + 1 }
  if (s.slot i).lateRun == 3 then
    let now := s.tb3
    let s := s.setSlot i fun x => { x with lateRun := 0 }
    (s.setClaims fun c => { c with lastTerm := Map.put c.lastTerm 5 (some now) }).alarm .loop "LATE" (0xA00 + i)
  else s

/-- An activation run to its end: trajectory, steps, commit of locals and accumulators (R258), latency. -/
def State.runActivation (s : State) (i : Nat) (a : Activation) : State :=
  let s := (s.selectTraj a.trigger).noteTraj a.trigger
  let x := s.slot i
  let now := s.now 0
  let late := decide (a.trigger + x.cfg.deadline * 1000 < now)
  let s := s.setSlot i fun x => { x with act := some { a with started := true } }
  let r := Run.go 64 x.program
    { s, i, trigger := a.trigger, app := a.trigger + x.cfg.lead * 1000, ok := s.trajOk a.trigger, late,
      loc := x.locals_, acc0 := x.acc0, acc1 := x.acc1, steps := 0 }
  let s := r.s.setSlot i fun x => { x with act := none, locals_ := r.loc, acc0 := r.acc0, acc1 := r.acc1 }
  let s := (s.count 0x301 (some i)).count 0x302 (some i) r.steps
  let s := s.wr Reg.LES_BOUND_LAST (min 65535 ((now - a.trigger) / 10)) i
  let s := (s.noteLate i late).latency 2 (some i) a.trigger now
  s.drainEnd i

/-- ACTIVATION_COMPLETE: the dispatcher's choice among the pending activations runs to its end. `failures` says how
often one of its steps failed its check: once or twice it ran again, each a transient of the slot; a third failure is a
permanent fault of the datapath (R257). -/
def execActivationComplete (failures : Fin 4) (s : State) : Host.Outcome State Fault Refusal :=
  match s.nextSlot with
  | none => .next s
  | some (i, a) =>
    if failures.val = 3 then .next s.datapathFault else
    let p := (List.range failures.val).foldl (fun (p : State × Bool) _ =>
      let q := p.1.unitTransient (slotAt 10 i) false
      (q.1, p.2 || q.2)) (s, false)
    if p.2 then .next ((p.1.retireUnit (slotAt 10 i) .rate).loopRetire i)
    else .next (p.1.runActivation i a)

/-! ### Programs: shadow access, COMMIT, ENABLE (R235, R237, R243, R244, R594) -/

/-- Which fields each opcode uses: AC, W, A, B, D, SH, K. -/
def opUses (op : Nat) : Option (Bool × Bool × Bool × Bool × Bool × Bool × Bool) :=
  let t := true
  let f := false
  match op with
  | 0x00 => some (f, f, f, f, f, f, f)
  | 0x01 => some (t, f, t, f, f, f, f)
  | 0x02 => some (t, f, f, f, f, f, t)
  | 0x03 | 0x04 => some (t, f, t, f, f, f, t)
  | 0x05 => some (t, f, t, t, f, f, f)
  | 0x06 => some (t, f, f, f, f, f, f)
  | 0x07 => some (t, f, t, t, f, f, t)
  | 0x08 => some (t, t, f, f, t, t, f)
  | 0x09 | 0x0D => some (f, f, t, f, t, f, f)
  | 0x0A | 0x0B => some (f, t, t, t, t, f, f)
  | 0x0C => some (f, f, t, t, t, t, f)
  | 0x0E | 0x0F => some (f, f, t, f, t, f, t)
  | 0x10 => some (f, t, t, f, t, f, t)
  | 0x11 => some (f, f, t, t, t, f, f)
  | 0x12 => some (f, f, t, t, t, f, t)
  | 0x13 | 0x14 => some (f, f, t, f, f, f, t)
  | 0x15 => some (f, f, t, t, f, t, t)
  | _ => none

/-- One step passes the first three checks of R243. -/
def stepOk (n : Nat) : Bool :=
  let x := stepFields n
  match opUses x.op with
  | none => false
  | some (ac, w, a, b, d, sh, k) =>
    (ac || !x.ac) && (w || !x.w) && (a || x.a == 0) && (b || x.b == 0) && (d || x.d == 0) && (sh || x.sh == 0) &&
    (k || x.k == 0) && (!a || srcOk x.a) && (!b || srcOk x.b) && (!d || dstOk x.d) &&
    (match x.op with
     | 0x0E | 0x0F | 0x10 => decide (x.k ≤ 0x7FFF)
     | 0x12 => decide (x.k < 4096) && srcOk x.k
     | 0x13 => decide (1 ≤ x.k ∧ x.k ≤ 63)
     | 0x14 => decide (x.k < 16)
     | 0x15 => decide (x.k < 16) && decide (x.sh ≤ 1)
     | _ => true)

/-- Thrusters whose DRIVE word a program has as a destination. -/
def driveTargets (p : List Nat) : List Nat :=
  p.filterMap fun n =>
    let x := stepFields n
    match opUses x.op with
    | some (_, _, _, _, true, _, _) =>
      if 0x200 ≤ x.d ∧ x.d < 0x280 ∧ x.d % 4 = 0 then some ((x.d - 0x200) / 4) else none
    | _ => none

/-- The shadow program of a slot: its steps from step 0, as far as they are loaded without a gap. -/
def State.shadowProgram (s : State) (i : Nat) : List Nat :=
  let m := (s.slot i).shadow
  (m.zipIdx.takeWhile fun p => p.1.1 == p.2).map fun p => p.1.2

/-- One slot is the other's spare. -/
def sparePair (i j : Nat) (a b : SlotCfg) : Bool := (a.spareEn && a.spare == j) || (b.spareEn && b.spare == i)

/-- R237 on a configuration. -/
def State.cfgOk (s : State) (c : SlotCfg) : Bool :=
  decide (250 ≤ c.period ∧ c.period ≤ 10000000) && 10000000 % c.period == 0 && decide (c.phase < c.period) &&
  decide (c.deadline + 8 ≤ c.lead ∧ c.lead ≤ 100000) && decide (20 ≤ c.deadline ∧ c.deadline ≤ 250) &&
  decide (c.kind ≤ 6) && (c.kind != 5 || s.gateRole)

/-- The checks of R243 on the shadow program and configuration of slot `i`. -/
def State.commitOk (s : State) (i : Nat) : Bool :=
  let c := s.shadowCfg i
  let p := s.shadowProgram i
  let ds := driveTargets p
  let clash := s.loop.slots.any fun q =>
    q.1 != i && q.2.runs && !sparePair i q.1 c q.2.cfg && (driveTargets q.2.program).any fun t => ds.contains t
  let with_ := s.setLoop fun l => { l with slots := Map.upd {} l.slots i fun x => { x with cfg := c, program := p } }
  p.all stepOk && decide (1 ≤ c.steps ∧ c.steps ≤ 64) && c.steps == p.length && c.steps == (s.slot i).shadow.length &&
  !clash && s.cfgOk c && !with_.anyExceeds

/-- SLOT_COMMIT: an ORDER of 0x61ss.02 (R243, R244). -/
def execSlotCommit (slot : Fin 256) (s : State) : Host.Outcome State Fault Refusal :=
  if !s.commitOk slot then .next (s.answer 14) else
  let c := s.shadowCfg slot
  let p := s.shadowProgram slot
  let s := s.setSlot slot fun x => { x with staged := some (c, p) }
  if (s.slot slot).runs then .next (s.answer 0) else .next ((s.installStaged slot).answer 0)

/-- COMMIT_INSTALL: between two activations of an enabled slot (R244). -/
def execCommitInstall (slot : Fin 256) (s : State) : Host.Outcome State Fault Refusal := .next (s.installStaged slot)

/-- SLOT_ENABLE: an ORDER of 0x61ss.01 (R235, R259). -/
def execSlotEnable (slot : Fin 256) (on : Bool) (s : State) : Host.Outcome State Fault Refusal :=
  let x := s.slot slot
  if on then
    if x.mode = .enabled then .next ((s.setObjN Obj.LP_ENABLE 1 slot).answer 0)
    else if x.mode ≠ .disabled then .next (s.answer 15)
    else if x.cfg.steps = 0 then .next (s.answer 14)
    else
      let t := s.setSlot slot fun x => { x with mode := .enabled, lateRun := 0 }
      if t.anyExceeds then .next (s.answer 14)
      else .next ((t.recheck.setObjN Obj.LP_ENABLE 1 slot).answer 0)
  else
    let s := (s.setObjN Obj.LP_ENABLE 0 slot).answer 0
    if x.mode = .enabled ∨ x.mode = .sparing then
      let s := s.genStopOf (some slot)
      .next ((s.setSlot slot fun x => { x with mode := .draining, standsFor := none, handover := none }).drainEnd slot)
    else .next s

/-- A step written into the shadow program (R594). -/
def State.shadowPut (s : State) (i step w : Nat) : State :=
  (s.setLoop fun l => { l with slots := Map.upd {} l.slots i fun x => { x with shadow := Map.put x.shadow step w } }).raise
    Reg.LES_STAT_SHADOW_DIRTY i

/-- The step word that LE_PROG_SEL selects. -/
def State.progWord (s : State) : Nat :=
  let x := s.slot (s.rd Reg.LE_PROG_SEL_SLOT)
  let k := s.rd Reg.LE_PROG_SEL_STEP
  if s.flag Reg.LE_PROG_SEL_BANK then x.program.getD k 0 else Map.get 0 x.shadow k

/-- LE_PROG_ACCESS: a read or write of LE_PROG_HI completes an access and advances STEP (LE_PROG_SEL table). -/
def execLeProgAccess (core : Fin 4) (write : Option Word) (s : State) : Host.Outcome State Fault Refusal :=
  let next (t : State) : State := t.wr Reg.LE_PROG_SEL_STEP (t.rd Reg.LE_PROG_SEL_STEP + 1)
  match write with
  | none => .next (next { s with readData := Map.put s.readData core (s.progWord / 2 ^ 32) })
  | some v =>
    if s.flag Reg.LE_PROG_SEL_BANK then .next (next s)
    else
      let s := s.wr Reg.LE_PROG_HI_HI v.toNat
      .next (next (s.shadowPut (s.rd Reg.LE_PROG_SEL_SLOT) (s.rd Reg.LE_PROG_SEL_STEP)
        (s.rd Reg.LE_PROG_LO_LO + 2 ^ 32 * v.toNat)))

/-- A WRITE of 0x61ss.10 PROGRAM: its steps from step 0, and STEPS (R594). -/
def State.loadProgram (s : State) (i : Nat) (b : List Byte) : State :=
  let ws := (List.range (b.length / 8)).map fun k => leAt b (8 * k) 8
  let m : Map Nat := ws.mapIdx fun k w => (k, w)
  let s := s.setLoop fun l => { l with slots := Map.upd {} l.slots i fun x => { x with shadow := m } }
  (s.wr Reg.LES_CFG_STEPS ws.length i).raise Reg.LES_STAT_SHADOW_DIRTY i

/-! ### Handover, service test and return (R259, R260) -/

/-- The committed slot copied into the receiver, which runs on the same trigger. -/
def State.copySlot (s : State) (src dst : Nat) (mode : SlotMode) (stands : Option Nat) : State :=
  let x := s.slot src
  s.setSlot dst fun y =>
    { y with mode, program := x.program, locals_ := x.locals_, acc0 := x.acc0, acc1 := x.acc1, standsFor := stands,
             act := none,
             cfg := { x.cfg with spareEn := y.cfg.spareEn, spare := y.cfg.spare } }

/-- SLOT_HANDOVER: a handover that waits for slot `slot` is performed between two activations. -/
def execSlotHandover (slot : Fin 256) (s : State) : Host.Outcome State Fault Refusal :=
  match (s.slot slot).handover with
  | some true =>
    if (s.slot slot).act.isSome then .next s else
    match s.usableSpare slot with
    | some sp =>
      let s := (s.genStopOf (some slot.val)).copySlot slot sp .sparing (some slot)
      let s := s.setSlot slot fun x =>
        { x with handover := none, mode := if x.mode == .retired then .retired else if x.thenBist then .bist else x.mode,
                 thenBist := false }
      let s := if (s.slot slot).mode == .bist then s.unitTesting (slotAt 10 slot) else s
      .next s.recheck
    | none => .next (s.setSlot slot fun x => { x with handover := none })
  | some false =>
    match s.standIn slot with
    | some sp =>
      if (s.slot sp).act.isSome then .next s else
      let s := s.copySlot sp slot .enabled none
      let s := s.setSlot slot fun x => { x with handover := none }
      .next ((s.setSlot sp fun x => { x with mode := .disabled, standsFor := none }).recheck)
    | none => .next (s.setSlot slot fun x => { x with handover := none })
  | none => .next s

/-- A service test of the slot may start (R260): it releases no DRIVE command or has a usable spare, and it is
neither retired nor in test, offline, draining or standing in for another. -/
def State.slotTestOk (s : State) (i : Nat) : Bool :=
  let x := s.slot i
  (x.mode == .enabled || x.mode == .disabled) &&
  ((driveTargets x.program).isEmpty || (s.usableSpare i).isSome)

/-- The slot hands over, drains and runs its self-test (R260). -/
def State.slotTestStart (s : State) (i : Nat) : State :=
  let x := s.slot i
  if x.mode == .disabled then (s.setSlot i fun x => { x with mode := .bist }).unitTesting (slotAt 10 i)
  else if (s.usableSpare i).isSome then
    s.setSlot i fun x => { x with mode := .draining, handover := some true, thenBist := true }
  else ((s.genStopOf (some i)).setSlot i fun x => { x with mode := .draining, thenBist := true }).drainEnd i

/-- SLOT_SERVICE_TEST: an ORDER of 0x61ss.0C with 1. -/
def execSlotServiceTest (slot : Fin 256) (s : State) : Host.Outcome State Fault Refusal :=
  if s.slotTestOk slot then .next ((s.slotTestStart slot).answer 0) else .next (s.answer 15)

/-- SLOT_SELF_TEST_DONE: a pass leaves the slot OFFLINE with BIST_PASS, a failure retires it (R260). -/
def execSlotSelfTestDone (slot : Fin 256) (pass : Bool) (s : State) : Host.Outcome State Fault Refusal :=
  if (s.slot slot).mode ≠ .bist then .next s else
  let s := s.unitTested (slotAt 10 slot) pass
  if pass then .next ((s.setSlot slot fun x => { x with mode := .offline }).raise Reg.LES_STAT_BIST_PASS slot)
  else .next (s.loopRetire slot)

/-- The slot returns: by handover from the slot that stands in for it, else enabled as its object reads, else, after
a retirement without a spare, disabled until an ORDER enables it (R259, R260, R521). -/
def State.slotReturn (s : State) (i : Nat) : State :=
  let wasRetired := s.retired (slotAt 10 i)
  let s := s.unitReturned (slotAt 10 i)
  if (s.standIn i).isSome then s.setSlot i fun x => { x with mode := .offline, handover := some false }
  else
    let on := s.objB Obj.LP_ENABLE i && (s.slot i).cfg.steps != 0 && !wasRetired
    (s.setSlot i fun x => { x with mode := if on then .enabled else .disabled }).recheck

/-- SLOT_SERVICE_RETURN: an ORDER of 0x61ss.0C with 2 on an OFFLINE slot. -/
def execSlotServiceReturn (slot : Fin 256) (s : State) : Host.Outcome State Fault Refusal :=
  if (s.slot slot).mode = .offline then .next ((s.slotReturn slot).answer 0) else .next (s.answer 15)

end Sys2Proof.Machine
end

