-- ==== Sys2Proof/Machine/Lauter.lean ====
section
/-! DEFINITION. The Lauter signal chain (08_signal_chain.md). -/

namespace Sys2Proof.Machine

/-! ### Channels and their configuration -/

/-- Channel SCc. -/
def State.sc (s : State) (c : Nat) : ScChan := Map.get {} s.lauter.chans c

/-- Channel SCc changed. -/
def State.setSc (s : State) (c : Nat) (f : ScChan → ScChan) : State :=
  { s with lauter := { s.lauter with chans := Map.upd {} s.lauter.chans c f } }

/-- STATE of SCc: 0 DISABLED, 1 SETTLING, 2 RUNNING, 3 CLOCK_LOST, 4 OFFLINE, 5 BIST, 6 RETIRED. -/
def State.scState (s : State) (c : Nat) : Nat := s.rd Reg.SC_STATUS_STATE c

/-- SCc is enabled: SETTLING, RUNNING or CLOCK_LOST. -/
def State.scEnabled (s : State) (c : Nat) : Bool := decide (1 ≤ s.scState c ∧ s.scState c ≤ 3)

/-- SCc publishes outputs. -/
def State.scFlows (s : State) (c : Nat) : Bool := s.scState c == 1 || s.scState c == 2

/-- SCS word of SCc (R284). -/
def State.scValid (s : State) (c : Nat) (b : Bool) : State := s.setWord (0x60 + c) (boolWord b)

/-- Word length W: 1 for a bitstream. -/
def State.scW (s : State) (c : Nat) : Nat :=
  match s.rd Reg.SC_CFG_MODE c with | 1 => 16 | 2 => 24 | _ => 1

/-- A · R^N (R267). -/
def State.scGain (s : State) (c : Nat) : Nat :=
  2 ^ (s.scW c - 1) * s.rd Reg.SC_COMB_DECIM c ^ s.rd Reg.SC_COMB_ORDER c

/-- ⌈log₂ n⌉. -/
def ceilLog2 (n : Nat) : Nat := if n ≤ 1 then 0 else Nat.log2 (n - 1) + 1

/-- Declared input rate of R266, samples per second. -/
def State.scRate (s : State) (c : Nat) : Rat :=
  if s.flag Reg.SC_CFG_CLK_SRC c then 400000000 / (s.rd Reg.SC_CFG_CLKDIV c : Rat) / (s.scW c : Rat)
  else (s.rd Reg.SC_FIN_FIN_MAX c * 1000 : Nat)

/-- Load of SCc, operations per second (R285). -/
def State.scLoad (s : State) (c : Nat) : Rat :=
  s.scRate c / (s.rd Reg.SC_COMB_DECIM c : Rat) * (2 * s.rd Reg.SC_FIR_TAPS c + s.rd Reg.SC_COMB_ORDER c + 8 : Nat)

/-- 0.9 × C_L, operations per second (R285). -/
def State.ltCapacity (s : State) : Rat := 1440000000 * (s.rd Reg.GAUGE_HUB_DIP_DIP : Rat) / 16384

/-- Channels that are enabled. -/
def State.scList (s : State) : List Nat := (List.range 32).filter s.scEnabled

/-- Total load of the enabled channels. -/
def State.ltLoad (s : State) : Rat := (s.scList.map s.scLoad).foldl (· + ·) 0

/-- LT_STATUS.ENABLED and LT_LOAD brought up to date. -/
def State.ltCount (s : State) : State :=
  let s := s.wr Reg.LT_STATUS_ENABLED ((List.range 32).filter s.scFlows).length
  let s := s.wr Reg.LT_LOAD_CAP (s.ltCapacity / 1000000).floor.toNat
  s.wr Reg.LT_LOAD_LOAD (-(-(s.ltLoad / 1000000)).floor).toNat

/-- First pool entry and end of the entries of SCc (R270). -/
def State.scPool (s : State) (c : Nat) : Nat × Nat :=
  (s.rd Reg.SC_FIR_TAP_BASE c, s.rd Reg.SC_FIR_TAP_BASE c + 2 * s.rd Reg.SC_FIR_TAPS c)

/-- Cause for which an enable of SCc is refused, in code order; 0 for none (R263, R266, R268, R270, R285). -/
def State.scCause (s : State) (c : Nat) : Nat :=
  let n := s.rd Reg.SC_COMB_ORDER c
  let r := s.rd Reg.SC_COMB_DECIM c
  let mode := s.rd Reg.SC_CFG_MODE c
  let (lo, hi) := s.scPool c
  let meets (d : Nat) : Bool :=
    let (a, b) := s.scPool d
    d != c && decide (lo < b) && decide (a < hi)
  let div := s.rd Reg.SC_CFG_CLKDIV c
  let fin := s.rd Reg.SC_FIN_FIN_MAX c
  let log2 := s.rd Reg.SC_RING_CFG_LOG2 c
  let total := s.scLoad c + ((s.scList.filter (· != c)).map s.scLoad).foldl (· + ·) 0
  let clock : Bool :=
    if s.flag Reg.SC_CFG_CLK_SRC c then
      decide (16 ≤ div ∧ div ≤ 4000) && (mode == 0 || decide (s.scRate c ≤ 1000000))
    else decide (100 ≤ fin ∧ fin ≤ 25000)
  if decide (mode = 1 ∨ mode = 2) && decide (2 ^ 63 < s.scGain c) then 1
  else if !decide (1 ≤ n ∧ n ≤ 5 ∧ 4 ≤ r ∧ r ≤ 4096) then 2
  else if !decide (1 ≤ s.rd Reg.SC_FIR_TAPS c ∧ s.rd Reg.SC_FIR_TAPS c ≤ 512 ∧ hi ≤ 8192) then 3
  else if s.scList.any meets then 4
  else if decide (s.ltCapacity < total) then 5
  else if mode == 3 || !clock then 6
  else if !decide (6 ≤ log2 ∧ log2 ≤ 16 ∧ s.rd Reg.SC_RING_BASE_BASE c * 64 + 16 * 2 ^ log2 ≤ gristSize) then 7
  else 0

/-! ### Event ring and comparators (R282, R283) -/

/-- An entry of the Lauter event ring. -/
def State.ltEvent (s : State) (c kind epoch : Nat) (index : Int) (ts : Nat) : State :=
  let i := s.rd Reg.LT_EVT_HEAD_INDEX
  let e := leBytes 1 c ++ leBytes 1 kind ++ leBytes 1 epoch ++ [0] ++ leBytes 4 (wrapInt 32 index) ++
    leBytes 4 (ts % 1000000000) ++ leBytes 4 (ts / 1000000000)
  let s := s.gristPut (s.rd Reg.LT_EVT_BASE_BASE * 64 + 16 * i) e
  (s.wr Reg.LT_EVT_HEAD_INDEX (i + 1)).incWrap Reg.LT_EVT_HEAD_COUNT

/-- A comparator of SCc changes state. -/
def State.cmpChange (s : State) (c k : Nat) (active reset : Bool) (epoch : Nat) (index : Int) (ts : Nat) : State :=
  let s := (s.put Reg.SC_CMP_STAT_ACTIVE active c k).wr Reg.SC_CMP_STAT_COUNT 0 c k
  let s := (s.incSat Reg.SC_CMP_STAT_EVENTS c k).raise Reg.SC_CMP_STAT_EVENT_SEEN c k
  let s := if active then s.setBitIn Reg.SC_STATUS_CMP_ACTIVE k c else s.clearBitIn Reg.SC_STATUS_CMP_ACTIVE k c
  let s := s.ltEvent c (k + 64 * ofBool reset + 128 * ofBool active) epoch index ts
  ((s.raise Reg.LT_IRQ_THRESHOLD).count 0x402 (some c)).event .lauter "THRESHOLD" (0x900 + c)

/-- The condition opposite to the comparator's state holds for an output `v`. -/
def cmpHolds (mode : Nat) (active : Bool) (level hyst v : Int) : Bool :=
  match mode with
  | 1 => if active then decide (v < level - hyst) else decide (level < v)
  | 2 => if active then decide (level + hyst < v) else decide (v < level)
  | 3 => if active then decide ((v.natAbs : Int) < level - hyst) else decide (level < (v.natAbs : Int))
  | _ => false

/-- Comparator k of SCc on a settled output. -/
def State.compare (s : State) (c k epoch : Nat) (index v : Int) (ts : Nat) : State :=
  let active := s.flag Reg.SC_CMP_STAT_ACTIVE c k
  let level := s.rdS Reg.SC_CMP_LEVEL_LEVEL c k
  let hyst : Int := s.rd Reg.SC_CMP_HYST_HYST c k
  if cmpHolds (s.rd Reg.SC_CMP_CFG_MODE c k) active level hyst v then
    let n := s.rd Reg.SC_CMP_STAT_COUNT c k + 1
    if s.rd Reg.SC_CMP_CFG_PERSIST c k ≤ n then s.cmpChange c k (!active) false epoch index ts
    else s.wr Reg.SC_CMP_STAT_COUNT n c k
  else s.wr Reg.SC_CMP_STAT_COUNT 0 c k

/-- A comparator made inactive without an event: at an enable and at a write of its registers (R282). -/
def State.cmpClear (s : State) (c k : Nat) : State :=
  ((s.wr Reg.SC_CMP_STAT_ACTIVE 0 c k).wr Reg.SC_CMP_STAT_COUNT 0 c k).clearBitIn Reg.SC_STATUS_CMP_ACTIVE k c

/-! ### Synchronizing reset (R278, R279) -/

/-- The end of a cross-fade: the target is the bank in use (R273). -/
def State.fadeDone (s : State) (c target : Nat) : State :=
  let s := s.setSc c fun x => { x with fade := none }
  ((s.wr Reg.SC_STATUS_BANK target c).wr Reg.SC_STATUS_FADING 0 c).raise Reg.LT_IRQ_FADE_DONE

/-- The synchronizing reset of SCc at its defining edge `t`. -/
def State.scReset (s : State) (c t : Nat) (armed : Bool) : State :=
  let old := s.rd Reg.SC_EPOCH_EPOCH c
  let index := s.rdS Reg.SC_INDEX_INDEX c
  let ts := (s.sc c).lastTs
  let s := match (s.sc c).fade with
    | some f => s.fadeDone c f.target
    | none => s
  let clear (s : State) (k : Nat) : State :=
    if s.flag Reg.SC_CMP_STAT_ACTIVE c k then s.cmpChange c k false true old index ts else s.cmpClear c k
  let s := ([0, 1, 2, 3] : List Nat).foldl clear s
  let gd := if s.rd Reg.SC_STATUS_BANK c == 0 then s.rd Reg.SC_GD_GD_A c else s.rd Reg.SC_GD_GD_B c
  let n := s.rd Reg.SC_COMB_ORDER c
  let s := s.setSc c fun x =>
    { x with integ := List.replicate n 0, comb := List.replicate n 0, line := [], outs := 0, tReset := t, tDef := t,
             offset := 0, tIn := 0, gd, await := none, lastArmed := armed }
  let s := (s.wr Reg.SC_EPOCH_EPOCH (old + 1) c).wr Reg.SC_STATUS_GD_CHANGED 0 c
  let s := if armed then s.wr Reg.SC_STATUS_UNALIGNED 0 c else s
  (s.wr Reg.SC_STATUS_STATE 1 c).ltCount

/-- DEFINING_EDGE: the first input sample edge of SCc at or after a reset event, with the TB0 time captured there. -/
def execDefiningEdge (c : Fin 32) (t : Nat) (s : State) : Host.Outcome State Fault Refusal :=
  match (s.sc c).await with
  | some armed => if s.scFlows c then .next (s.scReset c t armed) else .next s
  | none => .next s

/-- LT_SYNC: a write of a channel mask, acting at once. -/
def execLtSync (mask : Word) (s : State) : Host.Outcome State Fault Refusal :=
  .next ((List.range 32).foldl (fun (u : State) c =>
    if bitOf mask.toNat c && u.scEnabled c then
      u.setSc c fun x => { x with await := some (x.await == some true) }
    else u) s)

/-- LT_SYNC_ARM: a write arms source 1 to 3 and replaces an arming; source 0 and 4 to 7 disarm. -/
def execLtSyncArm (v : Word) (s : State) : Host.Outcome State Fault Refusal :=
  let src := v.toNat % 8
  let s := (s.wr Reg.LT_SYNC_ARM_PPS (v.toNat / 16)).wr Reg.LT_SYNC_ARM_SOURCE src
  .next (s.put Reg.LT_SYNC_ARM_ARMED (decide (1 ≤ src ∧ src ≤ 3)))

/-- TIME_AT: the whole TB0 second LT_SYNC_AT has come, and may fire (R330). -/
def execTimeAt (s : State) : Host.Outcome State Fault Refusal :=
  let t := ((s.base 0).sec.toNat / 2 ^ 32 * 2 ^ 32 + s.rd Reg.LT_SYNC_AT_SECOND) * 1000000000
  .next (if s.syncArmed 1 && s.fires 0 t then s.fireSync else s)

/-- SC_SYNC_EDGE: a rising edge of the SC_SYNC ball. -/
def execScSyncEdge (s : State) : Host.Outcome State Fault Refusal :=
  .next (if s.syncArmed 3 then s.fireSync else s)

/-- CLOCK_LOST: SC_CLKn has shown no edge for 10 µs (R265). -/
def execClockLost (c : Fin 32) (s : State) : Host.Outcome State Fault Refusal :=
  if !s.scFlows c then .next s else
  let s := ((s.wr Reg.SC_STATUS_STATE 3 c).scValid c false).raise Reg.LT_IRQ_CLOCK_LOST
  .next (s.ltCount.event .lauter "CLOCK_LOST" (0x900 + c.val))

/-- CLOCK_RETURN: the first clock edge after the loss is the defining edge of a synchronizing reset (R265). -/
def execClockReturn (c : Fin 32) (t : Nat) (s : State) : Host.Outcome State Fault Refusal :=
  if s.scState c ≠ 3 then .next s else
  let x := s.sc c
  let armed := x.await == some true
  let s := s.scReset c t armed
  .next (if x.lastArmed && !armed then s.raise Reg.SC_STATUS_UNALIGNED c else s)

/-! ### Swap requests (R274 to R276) -/

/-- SWAP_REQUEST: a write `v` of SWAP. A request with LEN 0, and one on a channel that is not enabled, is ignored. -/
def execSwapRequest (c : Fin 32) (v : Word) (s : State) : Host.Outcome State Fault Refusal :=
  let len := v.toNat % 65536
  if !bitOf v.toNat 31 || len == 0 || !s.scEnabled c then .next s else
  let x := s.sc c
  if x.pendingLen.isSome then
    let s := s.setSc c fun x => { x with pendingLen := some len, swapReplaced := (x.swapReplaced + 1) % 2 ^ 32 }
    .next ((s.incSat Reg.SC_COUNTS_SWAP_REPLACED c).raise Reg.LT_IRQ_SWAP_REPLACED)
  else if x.fade.isSome then
    .next ((s.setSc c fun x => { x with pendingLen := some len }).raise Reg.SC_STATUS_SWAP_PENDING c)
  else
    let target := 1 - s.rd Reg.SC_STATUS_BANK c
    .next ((s.setSc c fun x => { x with fade := some ⟨0, len, target⟩ }).raise Reg.SC_STATUS_FADING c)

/-! ### Coefficients (R272) -/

/-- A write of pool entry `e` is refused. -/
def State.poolRefused (s : State) (e : Nat) : Bool :=
  s.scList.any fun c =>
    let (lo, hi) := s.scPool c
    let x := s.sc c
    let bank := if e < lo + s.rd Reg.SC_FIR_TAPS c then 0 else 1
    decide (lo ≤ e ∧ e < hi) && (bank == s.rd Reg.SC_STATUS_BANK c || x.fade.isSome || x.pendingLen.isSome)

/-- A coefficient written. -/
def State.poolPut (s : State) (e v : Nat) : State :=
  { s with lauter := { s.lauter with pool := Map.put s.lauter.pool e (v % 2 ^ 24) } }

/-- Coefficient of pool entry `e`, in units of 2⁻²². -/
def State.coef (s : State) (e : Nat) : Int := signed 24 (Map.get 0 s.lauter.pool e)

/-- POOL_ACCESS: a read or write of LT_POOL_DATA; a refused write does not advance ENTRY. -/
def execPoolAccess (core : Fin 4) (write : Option Word) (s : State) : Host.Outcome State Fault Refusal :=
  let e := s.rd Reg.LT_POOL_ADDR_ENTRY
  match write with
  | none =>
    let s : State := { s with readData := Map.put s.readData core (Map.get 0 s.lauter.pool e) }
    .next (s.wr Reg.LT_POOL_ADDR_ENTRY (e + 1))
  | some v =>
    if s.poolRefused e then .next (s.raise Reg.LT_STATUS_POOL_REFUSED)
    else .next ((s.poolPut e v.toNat).wr Reg.LT_POOL_ADDR_ENTRY (e + 1))

/-- The group-delay field of bank `b` of SCc may be written: R272's rule for the entries of that bank. -/
def State.gdRefused (s : State) (c b : Nat) : Bool :=
  s.scEnabled c && (b == s.rd Reg.SC_STATUS_BANK c || (s.sc c).fade.isSome || (s.sc c).pendingLen.isSome)

/-! ### Output (R264, R266 to R271, R273 to R285) -/

/-- Signed value of a word modulo 2⁶⁴. -/
def wrap64 (z : Int) : Int := signed 64 (wrapInt 64 z)

/-- One input through the integrators (R267). -/
def integrate : List Nat → Int → List Nat
  | [], _ => []
  | i :: is, x =>
    let v := wrapInt 64 ((i : Int) + x)
    v :: integrate is v

/-- The comb: new delays and the output (R267). -/
def combRun : List Nat → Nat → List Nat × Nat
  | [], c => ([], c)
  | d :: ds, c =>
    let r := combRun ds (wrapInt 64 ((c : Int) - (d : Int)))
    (c :: r.1, r.2)

/-- A value saturated to 32 bits, and whether it was cut. -/
def sat32 (z : Int) : Int × Bool :=
  let v := clampInt z (-2147483648) 2147483647
  (v, v != z)

/-- Comb output `y` scaled to Q31 (R269). -/
def combScale (shift : Nat) (y : Int) : Int × Bool :=
  if shift ≤ 31 then sat32 (y * 2 ^ (31 - shift)) else sat32 ((y + 2 ^ (shift - 32)) / 2 ^ (shift - 31))

/-- FIR output of a bank whose first coefficient is pool entry `base` (R271). -/
def State.fir (s : State) (base taps : Nat) (line : List Int) : Int × Bool :=
  let acc := ((List.range taps).zip (line.take taps)).foldl (fun a p => a + s.coef (base + p.1) * p.2) 0
  sat32 (roundEven ((acc : Rat) / 4194304))

/-- Nearest integer, ties away from zero. -/
def roundAway (x : Rat) : Int := if x < 0 then -roundHalfUp (-x) else roundHalfUp x

/-- Value of one input sample: a bit as ±1, inverted by POL, or a word (08_signal_chain.md, inputs; R264). -/
def State.scInput (s : State) (c : Nat) (last : Int) (x : ScSample) : Int :=
  match s.rd Reg.SC_CFG_MODE c with
  | 1 => if x.bad then last else signed 16 (x.raw.toNat % 65536)
  | 2 => if x.bad then last else signed 24 x.raw.toNat
  | _ => if (x.raw.getLsbD 0) != s.flag Reg.SC_CFG_POL c then 1 else -1

/-- The inputs of one output taken: integrators and the last good word. -/
def State.takeInputs (s : State) (c : Nat) (xs : List ScSample) : State :=
  xs.foldl (fun u x =>
    let adc := u.rd Reg.SC_CFG_MODE c != 0
    let v := u.scInput c (u.sc c).lastWord x
    let u := u.setSc c fun y =>
      { y with integ := integrate y.integ v, lastWord := if adc then v else y.lastWord
               frameErrors := if adc && x.bad then (y.frameErrors + 1) % 2 ^ 32 else y.frameErrors }
    if adc && x.bad then
      ((u.incSat Reg.SC_COUNTS_FRAME_ERR c).raise Reg.LT_IRQ_FRAME_ERR).count 0x403 (some c)
    else u) s

/-- RATE_HIGH from a measured input rate, in samples per second (R266). -/
def State.rateCheck (s : State) (c : Nat) (rate : Rat) : State :=
  let top : Rat := (s.rd Reg.SC_FIN_FIN_MAX c * 1000 : Nat)
  if s.flag Reg.SC_CFG_CLK_SRC c then s
  else if top * 101 / 100 < rate then
    if s.flag Reg.SC_STATUS_RATE_HIGH c then s
    else (s.raise Reg.SC_STATUS_RATE_HIGH c).event .lauter "RATE_HIGH" (0x900 + c)
  else if rate ≤ top then s.wr Reg.SC_STATUS_RATE_HIGH 0 c else s

/-- A latched swap starts its fade at this output (R275). -/
def State.startPending (s : State) (c : Nat) : State :=
  let x := s.sc c
  match x.fade, x.pendingLen with
  | none, some len =>
    let target := 1 - s.rd Reg.SC_STATUS_BANK c
    let s := s.setSc c fun x => { x with fade := some ⟨0, len, target⟩, pendingLen := none }
    (s.raise Reg.SC_STATUS_FADING c).wr Reg.SC_STATUS_SWAP_PENDING 0 c
  | _, _ => s

/-- The comb output appended to the delay line: the Q31 word and whether it saturated. -/
def State.combOutput (s : State) (c : Nat) : State × Bool :=
  let x := s.sc c
  let r := combRun x.comb (x.integ.getLastD 0)
  let u := combScale (ceilLog2 (s.scGain c)) (wrap64 r.2)
  (s.setSc c fun x => { x with comb := r.1, line := (u.1 :: x.line).take 512, outs := x.outs + 1 }, u.2)

/-- The output value of SCc with the fade that runs, whether it saturated, and FLAGS.BANK (R271, R273). -/
def State.scValue (s : State) (c : Nat) : Int × Bool × Nat :=
  let x := s.sc c
  let taps := s.rd Reg.SC_FIR_TAPS c
  let base := s.rd Reg.SC_FIR_TAP_BASE c
  let bank := s.rd Reg.SC_STATUS_BANK c
  let v0 := s.fir (base + bank * taps) taps x.line
  match x.fade with
  | none => (v0.1, v0.2, bank)
  | some f =>
    let v1 := s.fir (base + f.target * taps) taps x.line
    (v0.1 + roundAway (((v1.1 - v0.1) * (f.j + 1 : Nat) : Int) / (f.len : Rat)), v0.2 || v1.2, f.target)

/-- The fade moved on by one output: GD_CHANGED at its start, its end at output L (R273, R277). -/
def State.stepFade (s : State) (c : Nat) : State :=
  let x := s.sc c
  match x.fade with
  | none => s
  | some f =>
    let gd := if f.target == 0 then s.rd Reg.SC_GD_GD_A c else s.rd Reg.SC_GD_GD_B c
    let s := if gd != x.gd then s.raise Reg.SC_STATUS_GD_CHANGED c else s
    if f.len ≤ f.j + 1 then s.fadeDone c f.target
    else s.setSc c fun x => { x with fade := some { f with j := f.j + 1 } }

/-- At INDEX 0: T_in and the stamp offset of the epoch are fixed, and the channel is RUNNING (R280, R281). -/
def State.settle (s : State) (c tDef : Nat) : State :=
  let x := s.sc c
  let n := s.rd Reg.SC_COMB_ORDER c
  let r := s.rd Reg.SC_COMB_DECIM c
  let taps := s.rd Reg.SC_FIR_TAPS c
  let span : Rat := (tDef : Rat) - (x.tReset : Rat)
  let tIn := span / ((n + taps - 1) * r - 1 : Nat)
  let gd := tIn * ((n * (r - 1) : Nat) / 2 + (r * x.gd : Nat) / 64)
  let s := s.setSc c fun x => { x with tIn, offset := span - gd }
  let s := s.wr Reg.SC_T_IN_T_IN (tIn * 65536).floor.toNat c
  ((s.wr Reg.SC_STATUS_STATE 2 c).raise Reg.LT_IRQ_SETTLED)

/-- An entry of the sample ring (R284). -/
def State.scRing (s : State) (c : Nat) (v index : Int) (ts flags : Nat) : State :=
  let size := 2 ^ s.rd Reg.SC_RING_CFG_LOG2 c
  let h := s.rd Reg.SC_RING_HEAD_HEAD c % size
  let e := leBytes 4 (wrapInt 32 v) ++ leBytes 4 (wrapInt 32 index) ++ leBytes 4 (ts % 1000000000) ++
    leBytes 2 (ts / 1000000000) ++ leBytes 1 (s.rd Reg.SC_EPOCH_EPOCH c) ++ leBytes 1 flags
  (s.gristPut (s.rd Reg.SC_RING_BASE_BASE c * 64 + 16 * h) e).wr Reg.SC_RING_HEAD_HEAD ((h + 1) % size) c

/-- One output of SCc formed and published; `bad` when one of its inputs was a replaced word. -/
def State.scPublish (s : State) (c tDef : Nat) (bad : Bool) : State :=
  let x := s.sc c
  let r := s.rd Reg.SC_COMB_DECIM c
  let span : Nat := if x.outs == 0 then r - 1 else r
  let dt := tDef - x.tDef
  let s := if dt == 0 then s else s.rateCheck c ((span : Rat) * 1000000000 / (dt : Rat))
  let s := s.startPending c
  let (s, sat0) := s.combOutput c
  let (v, sat1, bank) := s.scValue c
  let fading := (s.sc c).fade.isSome
  let s := s.stepFade c
  let index : Int := ((s.sc c).outs : Int) - (s.rd Reg.SC_COMB_ORDER c + s.rd Reg.SC_FIR_TAPS c - 1 : Nat)
  let s := if index == 0 then s.settle c tDef else s
  let settled := decide (0 ≤ index)
  let ts := if settled then ((tDef : Rat) - (s.sc c).offset).floor.toNat else tDef
  let late := decide ((tDef : Rat) + (r : Rat) * 1000000000 / s.scRate c + 2000 < (s.now 0 : Rat))
  let sat := sat0 || sat1
  let flags := ofBool (!settled) + 2 * ofBool fading + 4 * ofBool sat + 8 * bank +
    16 * s.rd Reg.SC_STATUS_GD_CHANGED c + 32 * ofBool bad + 64 * ofBool late + 128 * s.rd Reg.SC_STATUS_UNALIGNED c
  let s := s.setSc c fun x => { x with tDef, lastTs := ts }
  let s := (s.wrS Reg.SC_INDEX_INDEX index c).wrS Reg.SC_LAST_VALUE v c
  let s := s.setWord (0x40 + c) (sat16 ((v + 32768) / 65536))
  let s := s.scValid c (settled && !sat && s.scState c == 2)
  let s := (s.scRing c v index ts flags).count 0x401 (some c)
  let epoch := s.rd Reg.SC_EPOCH_EPOCH c
  let s := if settled then ([0, 1, 2, 3] : List Nat).foldl (fun u k => u.compare c k epoch index v ts) s else s
  s.ltCount.triggerKind 2 (fun a => a % 32 == c && index % ((a / 32 % 256 + 1 : Nat) : Int) == 0) ts

/-- Every channel stops: a third failed attempt of the datapath (R288). -/
def State.ltDatapathFault (s : State) : State :=
  let stop (s : State) (c : Nat) : State :=
    if s.scEnabled c then ((s.wr Reg.SC_STATUS_STATE 0 c).wr Reg.SC_CTRL_ENABLE 0 c).scValid c false
    else s.scValid c false
  let s := (List.range 32).foldl stop s
  ((s.raise Reg.LT_STATUS_DATAPATH_FAULT).raise Reg.LT_IRQ_DATAPATH_FAULT).ltCount.alarm .lauter "DATAPATH_FAULT"

/-- What retirement does in Lauter (R288): the channel stops publishing. -/
def State.scRetire (s : State) (c : Nat) : State :=
  (((s.wr Reg.SC_STATUS_STATE 6 c).scValid c false).raise Reg.LT_IRQ_CHANNEL_RETIRED).ltCount

/-- LAUTER_OUTPUT: the R inputs of one output, the TB0 time of the edge that completes it, and how often its
computation failed its check: once or twice it was repeated, a third failure stops the datapath (R288). A list that is
not one output's inputs is none. -/
def execLauterOutput (c : Fin 32) (xs : List ScSample) (tDef : Nat) (failures : Fin 4) (s : State) :
    Host.Outcome State Fault Refusal :=
  if !s.scFlows c || xs.length != s.rd Reg.SC_COMB_DECIM c || (s.sc c).integ.isEmpty then .next s
  else if failures.val = 3 then .next s.ltDatapathFault
  else
    let slot := slotAt 9 c
    let p := (List.range failures.val).foldl (fun (p : State × Bool) _ =>
      let q := p.1.unitTransient slot false
      (q.1, p.2 || q.2)) (s, false)
    if p.2 then .next ((p.1.retireUnit slot .rate).scRetire c)
    else
      let bad := s.rd Reg.SC_CFG_MODE c != 0 && xs.any (·.bad)
      .next ((p.1.takeInputs c xs).scPublish c tDef bad)

/-! ### Load (R286) and enabling (R287) -/

/-- The load recheck. -/
def State.ltRecheck (s : State) : State :=
  let s := s.ltCount
  if decide (s.ltCapacity < s.ltLoad) then
    if s.flag Reg.LT_STATUS_LOAD_RISK then s.raise Reg.LT_IRQ_LOAD_RISK
    else ((s.raise Reg.LT_STATUS_LOAD_RISK).raise Reg.LT_IRQ_LOAD_RISK).alarm .lauter "LOAD_RISK"
  else s.wr Reg.LT_STATUS_LOAD_RISK 0

/-- LT_RECHECK: a write of 1 to LT_CTRL.RECHECK, or a change of GAUGE_HUB_DIP. -/
def execLtRecheck (s : State) : Host.Outcome State Fault Refusal := .next s.ltRecheck

/-- SCc enabled: bank A in use, comparators inactive, and a synchronizing reset at the next input edge. -/
def State.scStart (s : State) (c : Nat) : State :=
  let s := s.setSc c fun x =>
    { x with fade := none, pendingLen := none, await := some false, lastWord := 0, integ := [], lastArmed := false }
  let s := ([0, 1, 2, 3] : List Nat).foldl (fun u k => u.cmpClear c k) s
  let s := ((s.wr Reg.SC_STATUS_BANK 0 c).wr Reg.SC_STATUS_FADING 0 c).wr Reg.SC_STATUS_SWAP_PENDING 0 c
  let s := (s.wr Reg.SC_STATUS_UNALIGNED 0 c).wr Reg.SC_STATUS_RATE_HIGH 0 c
  let s := s.wrS Reg.SC_COMB_SHIFT ((ceilLog2 (s.scGain c) : Int) - 31) c
  ((s.wr Reg.SC_STATUS_STATE 1 c).scValid c false).ltCount

/-- SCc enabled, or refused with its cause: the channel is then DISABLED. -/
def State.scTryStart (s : State) (c : Nat) : State :=
  let cause := s.scCause c
  if cause == 0 then ((s.wr Reg.SC_CTRL_ENABLE 1 c).scStart c).answer 0
  else (((s.wr Reg.SC_STATUS_STATE 0 c).wr Reg.SC_CTRL_ENABLE 0 c).wr Reg.SC_STATUS_CFG_CAUSE cause c).ltCount.answer 14

/-- SCc disabled. -/
def State.scStop (s : State) (c : Nat) : State :=
  let s := s.setSc c fun x => { x with fade := none, pendingLen := none, await := none }
  let s := (s.wr Reg.SC_STATUS_FADING 0 c).wr Reg.SC_STATUS_SWAP_PENDING 0 c
  ((s.wr Reg.SC_STATUS_STATE 0 c).scValid c false).ltCount

/-- LT_CHANNEL_ENABLE: a write of the ENABLE bit of SCc. -/
def execLtChannelEnable (c : Fin 32) (on : Bool) (s : State) : Host.Outcome State Fault Refusal :=
  if on then
    if s.scEnabled c then .next (s.answer 0)
    else if s.flag Reg.LT_STATUS_DATAPATH_FAULT || s.scState c ≠ 0 then .next (s.answer 14)
    else .next (s.scTryStart c)
  else
    let s := s.wr Reg.SC_CTRL_ENABLE 0 c
    .next ((if s.scEnabled c then s.scStop c else s).answer 0)

/-! ### Self-test (R289) -/

/-- The self-test of SCc starts. -/
def State.scTestStart (s : State) (c : Nat) : State :=
  let s := if s.scEnabled c then s.scStop c else s
  let s := (s.wr Reg.SC_STATUS_STATE 5 c).wr Reg.SC_STATUS_BIST_PASS 0 c
  (s.scValid c false).unitTesting (slotAt 9 c)

/-- LT_SERVICE_TEST: an ORDER of 0x69cc.0F with 1. -/
def execLtServiceTest (c : Fin 32) (s : State) : Host.Outcome State Fault Refusal :=
  if s.scState c = 5 ∨ s.scState c = 6 then .next (s.answer 15) else .next ((s.scTestStart c).answer 0)

/-- LT_SELF_TEST_DONE: a pass leaves the channel OFFLINE with BIST_PASS, a failure retires it. -/
def execLtSelfTestDone (c : Fin 32) (pass : Bool) (s : State) : Host.Outcome State Fault Refusal :=
  if s.scState c ≠ 5 then .next s else
  let s := s.unitTested (slotAt 9 c) pass
  if pass then .next ((s.wr Reg.SC_STATUS_STATE 4 c).raise Reg.SC_STATUS_BIST_PASS c)
  else .next (s.scRetire c)

/-- SCc returns from OFFLINE with a synchronizing reset where its ENABLE bit stands. -/
def State.scReturn (s : State) (c : Nat) : State :=
  let s := s.unitReturned (slotAt 9 c)
  if s.flag Reg.SC_CTRL_ENABLE c then s.scTryStart c else (s.scStop c).answer 0

/-- LT_SERVICE_RETURN: an ORDER of 0x69cc.0F with 2 on an OFFLINE channel. -/
def execLtServiceReturn (c : Fin 32) (s : State) : Host.Outcome State Fault Refusal :=
  if s.scState c = 4 then .next (s.scReturn c) else .next (s.answer 15)

end Sys2Proof.Machine
end

