-- ==== Sys2Proof/Machine/Pfu.lean ====
section
/-! DEFINITION. The position feedback unit (09_position_feedback.md). -/

namespace Sys2Proof.Machine

/-! ### Channels, events and faults -/

/-- Channel PFc. -/
def State.pf (s : State) (c : Nat) : PfChan := Map.get {} s.pfu c

/-- Channel PFc changed. -/
def State.setPf (s : State) (c : Nat) (f : PfChan → PfChan) : State := { s with pfu := Map.upd {} s.pfu c f }

/-- STATE of PFc: 0 DISABLED, 1 RUNNING, 2 OFFLINE, 3 BIST, 4 RETIRED. -/
def State.pfState (s : State) (c : Nat) : Nat := s.rd Reg.PFC_STATUS_STATE c

/-- MODE of PFc: 0 QUADRATURE, 1 PULSE_DIR, 2 SERIAL. -/
def State.pfMode (s : State) (c : Nat) : Nat := s.rd Reg.PFC_CFG_MODE c

/-- PFc counts: it is RUNNING and the oscillator runs (R310). -/
def State.pfRuns (s : State) (c : Nat) : Bool := s.pfState c == 1 && !s.flag Reg.PF_STATUS_OSC_FAULT

/-- A value in the range of a 48-bit count. -/
def wrap48 (z : Int) : Int := signed 48 (wrapInt 48 z)

/-- Position of PFc (R295, R303). -/
def State.pfPos (s : State) (c : Nat) : Int := signed 48 (s.rd2 Reg.PFC_POS_LO_POS Reg.PFC_POS_HI_POS c)

/-- The position written, modulo 2⁴⁸. -/
def State.setPos (s : State) (c : Nat) (z : Int) : State :=
  s.wr2 Reg.PFC_POS_LO_POS Reg.PFC_POS_HI_POS (wrapInt 48 z) c

/-- Lines that PFc uses in its mode: bit 0 A, 1 B, 2 Z (R290, R296). -/
def State.pfLines (s : State) (c : Nat) : Nat :=
  if s.pfMode c == 2 then 1 else 3 + 4 * s.rd Reg.PFC_CFG_INDEX_EN c

/-- PFS word of PFc (R308). -/
def State.pfValid (s : State) (c : Nat) : Bool :=
  s.pfState c == 1 && !s.flag Reg.PFC_STATUS_UNCERTAIN c && s.rd Reg.PFC_STATUS_LINE_OPEN c == 0 &&
  (s.pfMode c != 2 || (s.pf c).serialGood)

/-- The three words of the loop engine's signal space (R308). -/
def State.pfViews (s : State) (c : Nat) : State :=
  let off := signed 48 (s.rd2 Reg.PFC_P_OFF_LO_P_OFF Reg.PFC_P_OFF_HI_P_OFF c)
  let p : Int := (s.pfPos c - off) * (s.rd Reg.PFC_P_SCALE_P_SCALE c : Int) / 65536
  let v : Int := roundHalfUp ((s.pf c).speed * 32768 / (s.rd Reg.PFC_V_FULL_V_FULL c : Rat))
  let s := s.setWord (0x80 + c) (if s.flag Reg.PFC_CFG_VIEW_SAT c then sat16 p else wrap16 p)
  let s := s.setWord (0xA0 + c) (sat16 v)
  s.setWord (0xC0 + c) (boolWord (s.pfValid c))

/-- An entry of the event ring (R315). -/
def State.pfEvent (s : State) (c kind : Nat) (passed corrected : Bool) (t : Nat) : State :=
  let i := s.rd Reg.PF_EVT_HEAD_INDEX
  let flags := ofBool passed + 2 * ofBool corrected + 4 * s.rd Reg.PFC_STATUS_UNCERTAIN c
  let e := leBytes 1 c ++ leBytes 1 kind ++ leBytes 2 flags ++ leBytes 4 (s.rd Reg.PFC_POS_LO_POS c) ++
    leBytes 4 (t % 1000000000) ++ leBytes 4 (t / 1000000000)
  let s := s.gristPut (s.rd Reg.PF_EVT_BASE_BASE * 64 + 16 * i) e
  (s.wr Reg.PF_EVT_HEAD_INDEX (i + 1)).incWrap Reg.PF_EVT_HEAD_COUNT

/-- The FEEDBACK event of PFc with its code triggers the slots that name it (R296, R302, R312). -/
def State.feedback (s : State) (c code t : Nat) : State :=
  s.triggerKind 3 (fun a => a % 32 == c && a / 32 % 16 == code) t

/-- A count of 32 bits. -/
def inc32 (n : Nat) : Nat := (n + 1) % 2 ^ 32

/-- A fault of PFc raised (fault table): sticky bit, counts, UNCERTAIN where the table says so, ring entry, interrupt
and EVENT. -/
def State.pfFault (s : State) (c code t : Nat) : State :=
  let sets := code == 0 || code == 2 || code == 4 || (code == 5 && s.pfMode c != 2)
  let s := if sets then s.raise Reg.PFC_STATUS_UNCERTAIN c else s
  let s := s.setBitIn Reg.PFC_FAULT_FAULT code c
  let s :=
    if code == 0 then ((s.incSat Reg.PFC_COUNTS1_ILLEGAL c).setPf c fun x =>
      { x with illegal := inc32 x.illegal }).count 0x502 (some c)
    else if code == 1 then ((s.incSat Reg.PFC_COUNTS1_GLITCH c).setPf c fun x =>
      { x with glitch := inc32 x.glitch }).count 0x503 (some c)
    else if 2 ≤ code && code ≤ 4 then (s.incSat Reg.PFC_COUNTS2_DIR_INDEX c).setPf c fun x =>
      { x with dirIndex := inc32 x.dirIndex }
    else if 6 ≤ code && code ≤ 9 then ((s.incSat Reg.PFC_COUNTS2_SER_FAULTS c).setPf c fun x =>
      { x with serFaults := inc32 x.serFaults }).count 0x505 (some c)
    else s
  ((s.pfEvent c (8 + code) false false t).raise Reg.PF_IRQ_FAULT).event .pfu "FAULT" (0x800 + c)

/-- PF_STATUS.ENABLED brought up to date. -/
def State.pfCount (s : State) : State :=
  s.wr Reg.PF_STATUS_ENABLED ((List.range 32).filter fun c => s.pfState c == 1).length

/-! ### Speed (R304 to R307) -/

/-- Ends of a window and the speed of PFc at TB0 instant `now`, counts per second. -/
def State.pfWindow (s : State) (c : Nat) : Nat := s.rd Reg.PFC_SPEEDCFG_WIN_US c * 1000

/-- Period speed at `now` (R305). -/
def State.periodSpeed (s : State) (c now : Nat) : Rat :=
  let x := s.pf c
  match x.delta, x.dir, x.lastT with
  | some d, some g, some t =>
    let te := now - t
    if s.rd Reg.PFC_ZERO_ZERO_MS c * 1000000 < te then 0
    else (g : Rat) * 1000000000 / ((max (max d te) 1 : Nat) : Rat)
  | _, _, _ => 0

/-- The speed written to its register and kept for the views. -/
def State.putSpeed (s : State) (c : Nat) (v : Rat) : State :=
  let s := s.setPf c fun x => { x with speed := v }
  s.wrS Reg.PFC_SPEED_SPEED (clampInt (roundHalfUp (v * 8)) (-2147483648) 2147483647) c

/-- Method and speed of a counting channel at `now` (R304 to R306). -/
def State.speedAt (s : State) (c now : Nat) : State :=
  let win := s.pfWindow c
  let s := s.setPf c fun x => { x with edges := x.edges.filter fun e => decide (now < e.1 + win) }
  let es := (s.pf c).edges
  let chg := s.rd Reg.PFC_SPEEDCFG_CHG_EDGES c
  let method := s.flag Reg.PFC_STATUS_METHOD c
  let method := if method then decide (chg ≤ es.length) else decide (2 * chg ≤ es.length)
  let s := s.put Reg.PFC_STATUS_METHOD method c
  let sum : Int := es.foldl (fun n e => n + e.2) 0
  s.putSpeed c (if method then (sum : Rat) * 1000000000 / (win : Rat) else s.periodSpeed c now)

/-- Speed of a SERIAL channel from the good words of the window (R307). -/
def State.serialSpeed (s : State) (c : Nat) : State :=
  let win : Int := s.pfWindow c
  match (s.pf c).words with
  | [] => s.putSpeed c 0
  | (t1, p1) :: r =>
    let keep := r.filter fun w => decide (t1 - win ≤ w.1)
    let s := s.setPf c fun x => { x with words := (t1, p1) :: keep }
    match keep.getLast? with
    | some (t0, p0) =>
      if t1 ≤ t0 then s.putSpeed c 0
      else s.putSpeed c (((p1 - p0 : Int) : Rat) * 1000000000 / ((t1 - t0 : Int) : Rat))
    | none => s.putSpeed c 0

/-- The period measurement restarts (R305). -/
def State.restartSpeed (s : State) (c : Nat) : State := s.setPf c fun x => { x with dir := none, delta := none }

/-! ### Compare units (R312 to R314) -/

/-- Armed values of compare unit k of PFc. -/
def State.cmp (s : State) (c k : Nat) : CmpSt := Map.get {} (s.pf c).cmps k

/-- Armed values changed. -/
def State.setCmp (s : State) (c k : Nat) (f : CmpSt → CmpSt) : State :=
  s.setPf c fun x => { x with cmps := Map.upd {} x.cmps k f }

/-- The direction that counts for "behind": DIR, or for BOTH that of the last counting edge; true is up. -/
def State.cmpUp (s : State) (c dir : Nat) : Bool := dir == 0 || (dir == 2 && !s.flag Reg.PFC_STATUS_DIRECTION c)

/-- A compare unit fires (R312): stamp, FIRED, event entry, FEEDBACK event; then it disarms or moves C on. -/
def State.cmpFire (s : State) (c k t : Nat) (passed : Bool) : State :=
  let u := s.cmp c k
  let s := (s.wr Reg.PFCMP_TS_NS_NS (t % 1000000000) c k).wr Reg.PFCMP_TS_S_S (t / 1000000000) c k
  let s := (s.raise Reg.PFCMP_STAT_FIRED c k).put Reg.PFCMP_STAT_PASSED passed c k
  let s := (s.incSat Reg.PFCMP_STAT_FIRES c k).raise Reg.PF_IRQ_COMPARE
  let s := s.pfEvent c (1 + k) passed false t
  let s :=
    if u.periodic then
      let step := s.rdS Reg.PFCMP_INTERVAL_INTERVAL c k
      s.setCmp c k fun u => { u with c := wrap48 (u.c + step) }
    else s.wr Reg.PFCMP_STAT_ARMED 0 c k
  (s.wr Reg.PFCMP_STAT_ARMED_BEHIND 0 c k).feedback c (1 + k) t

/-- The count has gone from `old` to `new` past C in the direction of the unit. -/
def crossed (serial : Bool) (u : CmpSt) (old new : Int) : Bool :=
  let up := if serial then decide (old < u.c ∧ u.c ≤ new) else new == u.c && wrap48 (old + 1) == u.c
  let down := if serial then decide (new ≤ u.c ∧ u.c < old) else new == u.c && wrap48 (old - 1) == u.c
  (u.dir != 1 && up) || (u.dir != 0 && down)

/-- Compare unit k evaluated against the move from `old` to `new`: ARMED_BEHIND clears on the other side of C, and only
then can a crossing fire (R314). -/
def State.cmpEval (s : State) (c k : Nat) (old new : Int) (t : Nat) : State :=
  if !s.flag Reg.PFCMP_STAT_ARMED c k then s else
  let u := s.cmp c k
  if s.flag Reg.PFCMP_STAT_ARMED_BEHIND c k then
    if (if u.above then decide (new < u.c) else decide (u.c < new)) then s.wr Reg.PFCMP_STAT_ARMED_BEHIND 0 c k else s
  else if crossed (s.pfMode c == 2) u old new then s.cmpFire c k t false
  else s

/-- ARMED_BEHIND of an armed unit from the present count (R314). -/
def State.cmpBehind (s : State) (c k : Nat) : State :=
  if !s.flag Reg.PFCMP_STAT_ARMED c k then s else
  let u := s.cmp c k
  let up := s.cmpUp c u.dir
  let pos := s.pfPos c
  let behind := if up then decide (u.c ≤ pos) else decide (pos ≤ u.c)
  (s.setCmp c k fun u => { u with above := up }).put Reg.PFCMP_STAT_ARMED_BEHIND behind c k

/-- Fields DIR, FIRE_IF_PASSED and PERIODIC of a write to CMP_CFG. -/
def State.cmpCfg (s : State) (c k v : Nat) : State :=
  ((s.wr Reg.PFCMP_CFG_DIR (v / 4) c k).wr Reg.PFCMP_CFG_FIRE_IF_PASSED (v / 16) c k).wr
    Reg.PFCMP_CFG_PERIODIC (v / 32) c k

/-- The arming of a unit (R313, R314); with DIR 3 it fails and sets no state. -/
def State.cmpArm (s : State) (c k : Nat) : State :=
  let dir := s.rd Reg.PFCMP_CFG_DIR c k
  if dir == 3 then s else
  let at_ := signed 48 (s.rd2 Reg.PFCMP_POS_LO_C Reg.PFCMP_POS_HI_C c k)
  let periodic := s.flag Reg.PFCMP_CFG_PERIODIC c k
  let s := s.setCmp c k fun u => { u with c := at_, dir, periodic }
  let s := (s.raise Reg.PFCMP_STAT_ARMED c k).cmpBehind c k
  if s.flag Reg.PFCMP_STAT_ARMED_BEHIND c k && s.flag Reg.PFCMP_CFG_FIRE_IF_PASSED c k then
    s.cmpFire c k (s.now 0) true
  else s

/-- CMP_ARM: a write `v` of CMP_CFG with ARM. -/
def execCmpArm (c : Fin 32) (k : Fin 4) (v : Word) (s : State) : Host.Outcome State Fault Refusal :=
  .next ((s.cmpCfg c k v.toNat).cmpArm c k)

/-- The disarming of a unit. -/
def State.cmpDisarm (s : State) (c k : Nat) : State :=
  (s.wr Reg.PFCMP_STAT_ARMED 0 c k).wr Reg.PFCMP_STAT_ARMED_BEHIND 0 c k

/-- CMP_DISARM: a write of CMP_CFG with DISARM. -/
def execCmpDisarm (c : Fin 32) (k : Fin 4) (s : State) : Host.Outcome State Fault Refusal :=
  .next (s.cmpDisarm c k)

/-! ### Position: loads and corrections (R295, R297, R303) -/

/-- The position moved to `z` by an order or a correction: no counting edge, no firing, and the speed history and the
count at the last index move with it. -/
def State.loadPos (s : State) (c : Nat) (z : Int) : State :=
  let d := z - s.pfPos c
  let s := (s.setPos c z).setPf c fun x =>
    { x with words := x.words.map fun w => (w.1, w.2 + d), indexAt := x.indexAt.map (· + d) }
  ([0, 1, 2, 3] : List Nat).foldl (fun u k => u.cmpBehind c k) s

/-- SET_POS: PRESET takes the value, the position becomes PRESET and UNCERTAIN clears. -/
def execSetPos (c : Fin 32) (v : BitVec 48) (s : State) : Host.Outcome State Fault Refusal :=
  let s := s.wr2 Reg.PFC_PRESET_LO_PRESET Reg.PFC_PRESET_HI_PRESET v.toNat c
  let s := (s.loadPos c (signed 48 v.toNat)).wr Reg.PFC_STATUS_UNCERTAIN 0 c
  .next ((s.pfViews c).answer 0)

/-! ### Counting (R292 to R298) -/

/-- A counting edge of `d` at `t`. -/
def State.countEdge (s : State) (c : Nat) (d : Int) (t : Nat) : State :=
  let old := s.pfPos c
  let s := (s.setPos c (old + d)).count 0x501 (some c)
  let s := (s.wr Reg.PFC_TS_NS_NS (t % 1000000000) c).wr Reg.PFC_TS_S_S (t / 1000000000) c
  let s := (s.put Reg.PFC_STATUS_DIRECTION (decide (d < 0)) c).wr Reg.PFC_STATUS_STANDSTILL 0 c
  let s := s.setPf c fun x =>
    { x with edges := (t, d) :: x.edges, lastT := some t, dir := some d
             delta := if x.dir == some d then x.lastT.map (t - ·) else none }
  let new := s.pfPos c
  let s := ([0, 1, 2, 3] : List Nat).foldl (fun u k => u.cmpEval c k old new t) s
  let cpr : Int := s.rd Reg.PFC_INDEX_CPR c
  let tol : Int := s.rd Reg.PFC_INDEX_INDEX_TOL c
  let s := match (s.pf c).indexAt with
    | some i =>
      if cpr != 0 && decide (cpr + tol < ((new - i).natAbs : Int)) then
        (s.setPf c fun x => { x with indexAt := none }).pfFault c 4 t
      else s
    | none => s
  s.speedAt c t

/-- Position in the sequence of R292 of a pair of levels. -/
def quadPhase (a b : Bool) : Int := match a, b with | false, false => 0 | true, false => 1 | true, true => 2 | false, true => 3

/-- Expected position at a qualified index (R297): INDEX_VALUE, or the nearest INDEX_VALUE + k × CPR, lower on a tie. -/
def State.indexExpect (s : State) (c : Nat) : Int :=
  let v := s.rdS Reg.PFC_INDEX_VAL_INDEX_VALUE c
  let cpr : Int := s.rd Reg.PFC_INDEX_CPR c
  if cpr == 0 then v else v - cpr * ((cpr - 2 * (s.pfPos c - v)) / (2 * cpr))

/-- A qualified index at `t` (R296, R297). -/
def State.qualifiedIndex (s : State) (c t : Nat) : State :=
  let e := s.pfPos c - s.indexExpect c
  let want := s.indexExpect c
  let unc := s.flag Reg.PFC_STATUS_UNCERTAIN c
  let wrong := decide ((s.rd Reg.PFC_INDEX_INDEX_TOL c : Int) < (e.natAbs : Int))
  let correct := unc || wrong
  let s := if correct then (s.loadPos c want).wrS Reg.PFC_INDEX_CORR_CORR (-e) c else s
  let s := if unc then s.wr Reg.PFC_STATUS_UNCERTAIN 0 c else s
  let s := if !unc && wrong then s.pfFault c 3 t else s
  let here := s.pfPos c
  let s := s.setPf c fun x => { x with indexAt := some here }
  ((s.pfEvent c 0 false (correct && e != 0) t).raise Reg.PF_IRQ_INDEX).feedback c 0 t

/-- The edge of a line, where its receiver is not OPEN and the level is new. -/
def newLevel (x : PfChan) (bit : Nat) (old : Bool) (e : Option Bool) : Option Bool :=
  match e with
  | some l => if bitOf x.open_ bit || l == old then none else some l
  | none => none

/-- Decoding of accepted edges of A and B (R292 to R294). -/
def State.decodeAB (s : State) (c : Nat) (a b : Option Bool) (oldA oldB pending : Bool) (t : Nat) : State :=
  let inv : Int := if s.flag Reg.PFC_CFG_INV_DIR c then -1 else 1
  if s.pfMode c == 0 then
    if a.isSome && b.isSome then
      let s := (s.pfFault c 0 t).restartSpeed c
      s.speedAt c t
    else if a.isSome || b.isSome then
      let step := (quadPhase (a.getD oldA) (b.getD oldB) - quadPhase oldA oldB) % 4
      s.countEdge c (if step == 1 then inv else -inv) t
    else s
  else if a == some true then
    let s := s.countEdge c (if b.getD oldB then -inv else inv) t
    if pending && b.isNone then s.pfFault c 2 t else s
  else s

/-- PF_EDGE_ACCEPT: accepted edges with one first changed sample. Levels follow in every channel state (R310); the
channel counts while it runs. -/
def execPfEdgeAccept (c : Fin 32) (e : PfEdge) (s : State) : Host.Outcome State Fault Refusal :=
  if s.flag Reg.PF_STATUS_OSC_FAULT then .next s else
  let x := s.pf c
  let a := newLevel x 0 x.a e.a
  let b := newLevel x 1 x.b e.b
  let z := newLevel x 2 x.z e.z
  let s := s.setPf c fun x => { x with a := a.getD x.a, b := b.getD x.b, z := z.getD x.z }
  if !s.pfRuns c || s.pfMode c == 2 then .next s else
  let s := s.decodeAB c a b x.a x.b e.bPending e.t
  let gate := s.rd Reg.PFC_CFG_GATE_AB c
  let y := s.pf c
  let level := !s.flag Reg.PFC_CFG_INDEX_GATE c || gate == 2 * ofBool y.a + ofBool y.b
  let s := if z == some true && s.flag Reg.PFC_CFG_INDEX_EN c && level then s.qualifiedIndex c e.t else s
  .next (s.pfViews c)

/-- GLITCH: a used line changed back before MIN_EDGE samples (R291). -/
def execGlitch (c : Fin 32) (line : Fin 3) (t : Nat) (s : State) : Host.Outcome State Fault Refusal :=
  if !s.pfRuns c || !bitOf (s.pfLines c) line || bitOf (s.pf c).open_ line then .next s
  else .next ((s.pfFault c 1 t).pfViews c)

/-! ### Line checking (R299) -/

/-- LINE_OPEN bits of STATUS: the used lines that are OPEN. -/
def State.lineBits (s : State) (c : Nat) : State :=
  let used := if s.pfState c == 1 then s.pfLines c else 0
  s.wr Reg.PFC_STATUS_LINE_OPEN (used &&& (s.pf c).open_) c

/-- A LINE_OPEN fault for each used line that is OPEN and whose bit did not read 1. -/
def State.openFaults (s : State) (c : Nat) : State :=
  let old := s.rd Reg.PFC_STATUS_LINE_OPEN c
  let s := s.lineBits c
  let new := s.rd Reg.PFC_STATUS_LINE_OPEN c
  let now := s.now 0
  ([0, 1, 2] : List Nat).foldl (fun u b => if bitOf new b && !bitOf old b then u.pfFault c 5 now else u) s

/-- LINE_OPEN: a receiver has read no signal for 1 µs. -/
def execLineOpen (c : Fin 32) (line : Fin 3) (s : State) : Host.Outcome State Fault Refusal :=
  let s := s.setPf c fun x => { x with open_ := setBit x.open_ line }
  .next ((s.openFaults c).pfViews c)

/-- LINE_SIGNAL_RETURN: the receiver leaves the no-signal band; LINE_OPEN clears and edges are decoded again. -/
def execLineSignalReturn (c : Fin 32) (line : Fin 3) (s : State) : Host.Outcome State Fault Refusal :=
  let s := s.setPf c fun x => { x with open_ := clearBit x.open_ line }
  .next ((s.lineBits c).pfViews c)

/-! ### Serial mode (R300 to R303) -/

/-- CRC-8 of polynomial 0x07 over bits, first bit first (R301). -/
def crc8 (bits : List Bool) : Nat :=
  bits.foldl (fun r b =>
    let top := bitOf r 7 != b
    let r := r * 2 % 256
    if top then r ^^^ 7 else r) 0

/-- The low `n` bits of `v`, highest first. -/
def bitsMsb (n v : Nat) : List Bool := (List.range n).map fun i => bitOf v (n - 1 - i)

/-- A serial request that failed with a fault code (R302, R303). -/
def State.serialFail (s : State) (c code t : Nat) : State :=
  let s := s.setPf c fun x => { x with request := none, serialGood := false, fails := x.fails + 1 }
  let s := if 8 < (s.pf c).fails then s.raise Reg.PFC_STATUS_UNCERTAIN c else s
  ((s.pfFault c code t).raise Reg.PF_IRQ_SERIAL).pfViews c

/-- The difference between consecutive words the shorter way modulo 2^bits (R303). -/
def shorterWay (bits old new : Nat) : Int := signed bits (wrapInt bits ((new : Int) - old))

/-- EMU_LAG (R311). -/
def State.emuLag (s : State) (c : Nat) : State :=
  let target := s.pfPos c / 2 ^ s.rd Reg.PFC_EMU_EMU_SHIFT c
  s.put Reg.PFC_STATUS_EMU_LAG (decide (4 < (target - (s.pf c).emu).natAbs)) c

/-- A good word (R302, R303, R307, R312): position, stamp, compare units, speed and the FEEDBACK event. -/
def State.serialGoodWord (s : State) (c pos : Nat) (warn : Bool) (stamp : Int) : State :=
  let t := stamp.toNat
  let old := s.pfPos c
  let bits := s.rd Reg.PFC_SER_CFG_POS_BITS c
  let first := (s.pf c).serial.isNone
  let s := match (s.pf c).serial with
    | some p => s.setPos c (old + shorterWay bits p pos)
    | none => s.setPos c pos
  let new := s.pfPos c
  let s := s.setPf c fun x =>
    { x with request := none, serialGood := true, fails := 0, serial := some pos, words := (stamp, new) :: x.words }
  let s := (s.wr Reg.PFC_TS_NS_NS (t % 1000000000) c).wr Reg.PFC_TS_S_S (t / 1000000000) c
  let s := s.put Reg.PFC_STATUS_WARN warn c
  let s := if old == new || first then s else s.put Reg.PFC_STATUS_DIRECTION (decide (new < old)) c
  let s := if first then s else ([0, 1, 2, 3] : List Nat).foldl (fun u k => u.cmpEval c k old new t) s
  let s := ((s.serialSpeed c).emuLag c).count 0x504 (some c)
  ((s.raise Reg.PF_IRQ_SERIAL).pfViews c).feedback c 5 t

/-- SERIAL_REQUEST: the request instant of a SERIAL channel, once for each instant and only where R330 lets it fire; a
data line that is low skips the request (SER_STUCK). -/
def execSerialRequest (c : Fin 32) (dataLow : Bool) (s : State) : Host.Outcome State Fault Refusal :=
  let period := s.rd Reg.PFC_SER_PERIOD_PERIOD_US c * 1000
  let phase := s.rd Reg.PFC_SER_PHASE_PHASE_US c * 1000
  let now := s.now 0
  if !s.pfRuns c || s.pfMode c != 2 || period == 0 || decide (now < phase) then .next s else
  let t := now - (now - phase) % period
  if (s.pf c).lastReq == some t || !s.fires 0 t then .next s else
  let s := s.setPf c fun x => { x with lastReq := some t }
  if dataLow then .next (s.serialFail c 9 t) else
  let stamp : Int := (t : Int) - s.rd Reg.PFC_SER_TIME_LATCH_NS c
  .next (s.setPf c fun x => { x with request := some stamp })

/-- SERIAL_WORD: the word of the running request completes and is judged (R301, R302). -/
def execSerialWord (c : Fin 32) (w : SerWord) (s : State) : Host.Outcome State Fault Refusal :=
  match (s.pf c).request with
  | none => .next s
  | some stamp =>
    if !s.pfRuns c then .next s else
    let bits := s.rd Reg.PFC_SER_CFG_POS_BITS c
    let pos := w.pos.toNat % 2 ^ bits
    let s := s.wr Reg.PFC_SER_RAW_RAW pos c
    if w.sep || crc8 (bitsMsb bits pos ++ [w.err, w.warn]) != w.crc.toNat then .next (s.serialFail c 6 stamp.toNat)
    else if w.err then .next (s.serialFail c 7 stamp.toNat)
    else .next (s.serialGoodWord c pos w.warn stamp)

/-- SER_TIMEOUT: no START within START_TIMEOUT clock periods. -/
def execSerTimeout (c : Fin 32) (s : State) : Host.Outcome State Fault Refusal :=
  match (s.pf c).request with
  | none => .next s
  | some stamp => if s.pfRuns c then .next (s.serialFail c 8 stamp.toNat) else .next s

/-- SPEED_UPDATE: every 10 µs of a counting channel. -/
def execSpeedUpdate (c : Fin 32) (s : State) : Host.Outcome State Fault Refusal :=
  if !s.pfRuns c || s.pfMode c == 2 then .next s else .next ((s.speedAt c (s.now 0)).pfViews c)

/-- STANDSTILL: no counting edge for ZERO_MS. -/
def execStandstill (c : Fin 32) (s : State) : Host.Outcome State Fault Refusal :=
  match (s.pf c).lastT with
  | some t =>
    if s.pfRuns c && s.pfMode c != 2 && decide (t + s.rd Reg.PFC_ZERO_ZERO_MS c * 1000000 < s.now 0) then
      .next (((s.raise Reg.PFC_STATUS_STANDSTILL c).speedAt c (s.now 0)).pfViews c)
    else .next s
  | none => .next s

/-! ### Pass-through (R309 to R311) -/

/-- EMULATED_TRANSITION: the output count moves one quadrature transition towards its target. -/
def execEmulatedTransition (c : Fin 32) (s : State) : Host.Outcome State Fault Refusal :=
  if s.pfState c ≠ 1 ∨ s.rd Reg.PFC_CFG_PT_MODE c ≠ 3 ∨ s.pfMode c ≠ 2 then .next s else
  let target := s.pfPos c / 2 ^ s.rd Reg.PFC_EMU_EMU_SHIFT c
  let x := s.pf c
  let emu := if x.emu < target then x.emu + 1 else if target < x.emu then x.emu - 1 else x.emu
  .next ((s.setPf c fun x => { x with emu }).emuLag c)

/-- Levels of PF_OAn, PF_OBn and PF_OZn; none where the outputs follow the input receivers directly (RAW, and FILTERED
without the oscillator). -/
def State.pfOutputs (s : State) (c : Nat) : Option (Bool × Bool × Bool) :=
  let x := s.pf c
  match s.rd Reg.PFC_CFG_PT_MODE c with
  | 0 => some (false, false, false)
  | 1 => none
  | 2 => if s.flag Reg.PF_STATUS_OSC_FAULT then none else some (x.a, x.b, x.z)
  | _ =>
    let q := x.emu % 4
    let turn : Int := 2 ^ (s.rd Reg.PFC_SER_CFG_POS_BITS c - s.rd Reg.PFC_EMU_EMU_SHIFT c)
    some (q == 1 || q == 2, q == 2 || q == 3, x.emu % turn == 0)

/-- OSC_FAULT: the PFU oscillator is lost; every channel stops counting (R310). -/
def execOscFault (s : State) : Host.Outcome State Fault Refusal :=
  .next ((s.raise Reg.PF_STATUS_OSC_FAULT).raise Reg.PF_IRQ_OSC_FAULT)

/-! ### Enabling, self-test and retirement (R316 to R318) -/

/-- Cause for which an enable of PFc is refused; 0 for none (R291, R300, R318). -/
def State.pfCause (s : State) (c : Nat) : Nat :=
  let inside (f : Field) (lo hi : Nat) : Bool := decide (lo ≤ s.rd f c ∧ s.rd f c ≤ hi)
  let bits := s.rd Reg.PFC_SER_CFG_POS_BITS c
  let start := s.rd Reg.PFC_SER_CFG_START_TIMEOUT c
  let div := s.rd Reg.PFC_SER_CFG_SER_DIV c
  let period := s.rd Reg.PFC_SER_PERIOD_PERIOD_US c
  let serial : Bool :=
    inside Reg.PFC_SER_CFG_POS_BITS 8 32 && inside Reg.PFC_SER_CFG_START_TIMEOUT 1 255 &&
    inside Reg.PFC_SER_CFG_SER_DIV 10 1000 &&
    (s.pfMode c != 2 ||
      (inside Reg.PFC_SER_PERIOD_PERIOD_US 20 1000000 && 10000000 % period == 0 &&
        decide (s.rd Reg.PFC_SER_PHASE_PHASE_US c < period) && decide ((bits + 12 + start) * div ≤ 80 * period)))
  if !inside Reg.PFC_FILTER_MIN_EDGE 1 2048 then 1
  else if s.pfMode c == 3 then 2
  else if !(inside Reg.PFC_SPEEDCFG_WIN_US 10 10000 && inside Reg.PFC_SPEEDCFG_CHG_EDGES 2 255 &&
      inside Reg.PFC_ZERO_ZERO_MS 1 10000) then 4
  else if !serial then 5
  else if !(decide (1 ≤ s.rd Reg.PFC_V_FULL_V_FULL c) && inside Reg.PFC_EMU_EMU_MIN 2 2048 &&
      inside Reg.PFC_EMU_EMU_SHIFT 0 24) then 6
  else 0

/-- PFc starts to run: the period measurement restarts, and a counting channel is UNCERTAIN. -/
def State.pfRun (s : State) (c : Nat) : State :=
  let s := (s.wr Reg.PFC_STATUS_STATE 1 c).restartSpeed c
  let s := s.setPf c fun x => { x with edges := [], lastT := none, request := none, fails := 0, serialGood := false,
                                       words := [] }
  let s := if s.pfMode c == 2 then s else s.raise Reg.PFC_STATUS_UNCERTAIN c
  let s := (s.wr Reg.PFC_STATUS_METHOD 0 c).putSpeed c 0
  ((s.openFaults c).pfViews c).pfCount

/-- PFc refused: DISABLED with its cause. -/
def State.pfRefuse (s : State) (c cause : Nat) : State :=
  let s := (s.wr Reg.PFC_STATUS_STATE 0 c).wr Reg.PFC_CTRL_ENABLE 0 c
  (((s.wr Reg.PFC_STATUS_CFG_CAUSE cause c).pfViews c).pfCount).answer 14

/-- PFc stops counting in the given state. -/
def State.pfHalt (s : State) (c st : Nat) : State :=
  let s := (s.wr Reg.PFC_STATUS_STATE st c).setPf c fun x => { x with request := none }
  ((s.lineBits c).pfViews c).pfCount

/-- PF_ENABLE: a write of the ENABLE bit of PFc. -/
def execPfEnable (c : Fin 32) (on : Bool) (s : State) : Host.Outcome State Fault Refusal :=
  if on then
    if s.pfState c = 1 then .next (s.answer 0)
    else if s.pfState c ≠ 0 then .next (s.answer 14)
    else
      let cause := s.pfCause c
      if cause ≠ 0 then .next (s.pfRefuse c cause) else
      let s := s.wr Reg.PFC_CTRL_ENABLE 1 c
      let s := s.setPf c fun x => { x with serial := none, indexAt := none }
      let s := if s.pfMode c == 2 then s.wr Reg.PFC_STATUS_UNCERTAIN 0 c else s.loadPos c 0
      .next ((s.pfRun c).answer 0)
  else
    let s := s.wr Reg.PFC_CTRL_ENABLE 0 c
    .next ((if s.pfState c == 1 then s.pfHalt c 0 else s).answer 0)

/-- What retirement does in the PFU: the channel stops counting, PFS reads false. -/
def State.pfRetire (s : State) (c : Nat) : State := (s.pfHalt c 4).raise Reg.PF_IRQ_RETIRED

/-- The self-test of PFc starts. -/
def State.pfTestStart (s : State) (c : Nat) : State :=
  ((s.pfHalt c 3).wr Reg.PFC_STATUS_BIST_PASS 0 c).unitTesting (slotAt 8 c)

/-- PF_SERVICE_TEST: an ORDER of 0x71cc.03 with 1; refused when PT_MODE is EMULATED. -/
def execPfServiceTest (c : Fin 32) (s : State) : Host.Outcome State Fault Refusal :=
  if s.rd Reg.PFC_CFG_PT_MODE c = 3 then .next (s.answer 14)
  else if s.pfState c = 3 ∨ s.pfState c = 4 then .next (s.answer 15)
  else .next ((s.pfTestStart c).answer 0)

/-- PF_SELF_TEST_DONE: a pass leaves the channel OFFLINE with BIST_PASS, a failure retires it. -/
def execPfSelfTestDone (c : Fin 32) (pass : Bool) (s : State) : Host.Outcome State Fault Refusal :=
  if s.pfState c ≠ 3 then .next s else
  let s := s.unitTested (slotAt 8 c) pass
  if pass then .next ((s.pfHalt c 2).raise Reg.PFC_STATUS_BIST_PASS c)
  else .next (s.pfRetire c)

/-- PFc returns from OFFLINE with the count held at the test where its ENABLE bit stands. -/
def State.pfReturn (s : State) (c : Nat) : State :=
  let s := s.unitReturned (slotAt 8 c)
  if !s.flag Reg.PFC_CTRL_ENABLE c then (s.pfHalt c 0).answer 0
  else
    let cause := s.pfCause c
    if cause == 0 then (s.pfRun c).answer 0 else s.pfRefuse c cause

/-- PF_SERVICE_RETURN: an ORDER of 0x71cc.03 with 2 on an OFFLINE channel. -/
def execPfServiceReturn (c : Fin 32) (s : State) : Host.Outcome State Fault Refusal :=
  if s.pfState c = 2 then .next (s.pfReturn c) else .next (s.answer 15)

/-- PF_INTERNAL: a mismatch of the duplicated channel logic is a permanent fault (R316). -/
def execPfInternal (c : Fin 32) (s : State) : Host.Outcome State Fault Refusal :=
  if s.pfState c = 4 then .next s else
  .next (((s.pfFault c 10 (s.now 0)).retireUnit (slotAt 8 c) .internal).pfRetire c)

end Sys2Proof.Machine
end

