-- ==== Sys2Proof/Machine/Ports.lean ====
section
/-! DEFINITION. The Ethernet MACs, the peer links and the serial ports (12_dictionary_ports.md, Registers and R397 to
R403; R345 of 10_time.md). A ZDP message that a port steers to the dictionary gate stands in `ports.message`; its
request is a command of its own. -/

namespace Sys2Proof.Machine

/-- Ports changed. -/
def State.setPorts (s : State) (f : PortsSt → PortsSt) : State := { s with ports := f s.ports }

/-- A ZDP message handed to the dictionary gate with the number of its port (R385). -/
def State.steer (s : State) (p : Nat) (b : List Byte) : State :=
  s.setPorts fun x => { x with message := Map.put x.message p (some b) }

/-- A message counted as dropped at a port (0x12pp.07), with EM_ZDP_DROP on an Ethernet port. -/
def State.zdpDrop (s : State) (p : Nat) : State :=
  let s := { s with zdp := { s.zdp with dropped := Map.upd 0 s.zdp.dropped p fun n => (n + 1) % 2 ^ 32 } }
  if 1 ≤ p ∧ p ≤ 8 then (s.incSat Reg.EM_ZDP_DROP_COUNT (p - 1)).raise Reg.EM_IRQ_ZDP_DROP (p - 1) else s

/-- Class in force of a port (R381): peer links are PEER, the JTAG port is MAINT. -/
def State.classAt (s : State) (p : Nat) : Nat :=
  if 33 ≤ p ∧ p ≤ 36 then 3 else if p = 37 then 6 else Map.get 0 s.zdp.classes p

/-! ### Ring entries -/

/-- The 32-byte entry header: LEN, FLAGS, CLASS, STAMP0, STAMP1, STEP_GEN, TAG. -/
def State.entryHeader (s : State) (len flags cls : Nat) (t0 t1 : Nat) : List Byte :=
  leBytes 2 len ++ leBytes 1 flags ++ leBytes 1 cls ++ leBytes 4 (t0 % 1000000000) ++ leBytes 4 (t0 / 1000000000) ++
  leBytes 4 (t1 % 1000000000) ++ leBytes 4 (t1 / 1000000000) ++ leBytes 2 (s.rd Reg.TB_STATUS_STEP_GEN 0) ++
  leBytes 2 (s.rd Reg.TB_STATUS_STEP_GEN 1) ++ leBytes 4 0 ++ leBytes 4 0

/-- TB0 and TB1 at an instant that lies `ago` ns back, with a correction in ns added (R341). -/
def State.stampPair (s : State) (ago : Nat) (extra : Int) : Nat × Nat :=
  (((s.now 0 : Int) - ago + extra).toNat, ((s.now 1 : Int) - ago + extra).toNat)

/-! ### Ethernet reception (R397) -/

/-- Sum of big-endian 16-bit words with end-around carry, as the IPv4 and UDP checksums form it. -/
def onesSum : List Byte → Nat
  | [] => 0
  | [a] => a.toNat * 256
  | a :: b :: r =>
    let t := onesSum r + (a.toNat * 256 + b.toNat)
    if t < 65536 then t else t - 65535

/-- Big-endian number of `n` bytes at `off`. -/
def beAt (b : List Byte) (off n : Nat) : Nat := ((b.drop off).take n).foldl (fun v x => v * 256 + x.toNat) 0

/-- A UDP datagram in an Ethernet frame. -/
structure Udp where
  dst : Nat
  port : Nat
  whole : Bool
  ipOk : Bool
  sumOk : Bool
  body : List Byte
  deriving DecidableEq, Repr

/-- The UDP datagram of a frame, with a tag of 802.1Q where it has one; none for every other frame. -/
def udpOf (frame : List Byte) : Option Udp :=
  let off := if beAt frame 12 2 == 0x8100 then 18 else 14
  if beAt frame (off - 2) 2 != 0x0800 then none else
  let ip := frame.drop off
  let v := beAt ip 0 1
  let hl := v % 16 * 4
  if v / 16 != 4 || decide (hl < 20) || beAt ip 9 1 != 17 then none else
  let total := beAt ip 2 2
  let udp := (ip.take total).drop hl
  let len := beAt udp 4 2
  let frag := beAt ip 6 2
  let pseudo := (ip.drop 12).take 8 ++ [0, 17] ++ (udp.drop 4).take 2
  some
    { dst := beAt ip 16 4
      port := beAt udp 2 2
      whole := frag % 0x4000 == 0
      ipOk := onesSum (ip.take hl) == 0xFFFF
      sumOk := beAt udp 6 2 == 0 || onesSum (pseudo ++ udp.take len) == 0xFFFF
      body := (udp.take len).drop 8 }

/-- The class takes frames of the UDP port (table of carriers). -/
def udpAccepted (port cls : Nat) : Bool :=
  if port == 319 || port == 320 || port == 47302 then cls == 2 || cls == 4
  else if port == 47301 then cls == 1 || cls == 2 || cls == 4 || cls == 5
  else if port == 47303 then cls == 4
  else if port == 47304 then cls == 4 || cls == 5
  else true

/-- A frame written to the receive ring of EMm, or lost to a full one. -/
def State.emStore (s : State) (m : Nat) (frame : List Byte) (ptp : Bool) (ago : Nat) : State :=
  let size := 2 ^ s.rd Reg.EM_RX_CFG_LOG2 m
  let h := s.rd Reg.EM_RX_HEAD_HEAD m
  let next := (h + 1) % size
  if next == s.rd Reg.EM_RX_TAIL_TAIL m then
    let s := s.setObjN Obj.EM_RX_LOST ((s.objN Obj.EM_RX_LOST m + 1) % 2 ^ 32) m
    (s.incSat Reg.EM_RX_LOST_LOST m).raise Reg.EM_IRQ_RX_LOST m
  else
    let t := s.stampPair ago (-(s.rdS Reg.EM_TS_CORR_RX_EXTRA m))
    let e := s.entryHeader frame.length (1 + 4 * ofBool ptp) (s.classAt (m + 1)) t.1 t.2 ++ frame
    let s := s.gristPut (s.rd Reg.EM_RX_BASE_BASE m * 64 + 2048 * h) (e.take 2048)
    (s.wr Reg.EM_RX_HEAD_HEAD next m).raise Reg.EM_IRQ_RX m

/-- The link of EMm is up. -/
def State.emLink (s : State) (m : Nat) : State :=
  if s.flag Reg.EM_STATUS_LINK m then s else (s.raise Reg.EM_STATUS_LINK m).raise Reg.EM_IRQ_LINK m

/-- EM_FRAME_RECEIVED: a frame from its destination address to its payload, whose timestamp point passed `agoNs` ago.
ZDP datagrams go to the gate, frames of ports that the class does not take are dropped and counted, all others go to the
receive ring (R397). -/
def execEmFrameReceived (m : Fin 8) (frame : List Byte) (fcsOk : Bool) (agoNs : Nat) (s : State) :
    Host.Outcome State Fault Refusal :=
  let p : Nat := m + 1
  if s.rd Reg.EM_STATUS_STATE m ≠ 1 then .next s else
  let s := s.emLink m
  if !fcsOk then .next (s.count 0x704 (some p)) else
  let s := (s.setObjN Obj.EM_RX_FRAMES ((s.objN Obj.EM_RX_FRAMES m + 1) % 2 ^ 64) m).count 0x701 (some p)
  match udpOf frame with
  | none => .next (s.emStore m frame false agoNs)
  | some u =>
    if !udpAccepted u.port (s.classAt p) then .next (s.zdpDrop p)
    else if u.port == 47301 then
      if u.whole && u.ipOk && u.sumOk && u.dst == s.rd Reg.EM_IPV4_IP m then .next (s.steer p u.body)
      else .next (s.zdpDrop p)
    else
      let s := if u.port == 47303 then s.noteGate u.body else s
      .next (s.emStore m frame (u.port == 319 || u.port == 320) agoNs)

/-! ### Ethernet egress (R402) -/

/-- Egress of EMm. -/
def State.txSt (s : State) (m : Nat) : TxState := Map.get {} s.ports.tx m

/-- Egress changed. -/
def State.setTx (s : State) (m : Nat) (f : TxState → TxState) : State :=
  s.setPorts fun x => { x with tx := Map.upd {} x.tx m f }

/-- Grist-store offset of an entry of transmit queue `q` of EMm. -/
def State.txEntry (s : State) (m q e : Nat) : Nat := s.rd Reg.EM_TX_BASE_BASE m q * 64 + 2048 * e

/-- Next entry of a transmit queue that is offered. -/
def State.txHead (s : State) (m q : Nat) : Option TxFrame :=
  let h := s.rd Reg.EM_TX_HEAD_HEAD m q
  if h == s.rd Reg.EM_TX_TAIL_TAIL m q then none else some (.ring q h)

/-- A PTP event message waits: the next entry of queue 0 with its PTP flag. -/
def State.txPtp (s : State) (m : Nat) : Option TxFrame :=
  match s.txHead m 0 with
  | some (.ring q e) => if bitOf (s.gristNat (s.txEntry m q e + 2) 1) 2 then some (.ring q e) else none
  | _ => none

/-- An ALARM frame waits: queue 2, or a NOTIFY of an ALARM record. -/
def State.txAlarm (s : State) (m : Nat) : Option TxFrame :=
  match s.txHead m 2 with
  | some f => some f
  | none => (s.zdp.out.find? fun z => z.port == m + 1 && bitOf z.flags 1).map .zdp

/-- A claim, command or gate status frame waits: queue 1, the tap, the gate. -/
def State.txClaim (s : State) (m : Nat) : Option TxFrame :=
  match s.txHead m 1 with
  | some f => some f
  | none =>
    match s.claims.tapOut.find? (·.path == 16 + m), s.gate.out.find? (·.path == 16 + m) with
    | some f, _ => some (.tap f)
    | none, some g => some (.status g)
    | none, none => none

/-- Any other frame: queue 3, or a ZDP message. -/
def State.txOther (s : State) (m : Nat) : Option TxFrame :=
  match s.txHead m 3 with
  | some f => some f
  | none => (s.zdp.out.find? fun z => z.port == m + 1 && !bitOf z.flags 1).map .zdp

/-- The ALARM share is below 10 % (R402). -/
def State.shareLow (s : State) (m : Nat) : Bool :=
  let p := shareOf (recent s.tb3 (s.txSt m).window)
  decide (p.2 * 10 < p.1) || p.1 == 0

/-- The next frame of EMm. -/
def State.txNext (s : State) (m : Nat) : Option TxFrame :=
  let early := if s.shareLow m then s.txAlarm m else none
  ((((s.txPtp m).orElse fun _ => early).orElse fun _ => s.txHead m 0).orElse fun _ => s.txClaim m).orElse fun _ =>
    (s.txAlarm m).orElse fun _ => s.txOther m

/-- Bytes of a frame, from its destination address, without FCS. -/
def State.txLen (s : State) (m : Nat) : TxFrame → Nat
  | .ring q e => s.gristNat (s.txEntry m q e) 2
  | .zdp z => 42 + 28 + z.body.length
  | .tap f => 42 + (match f.frame with | .claim _ => 32 | .command _ => 48)
  | .status _ => 42 + 32

/-- The next frame put on the line where it is idle. -/
def State.txStart (s : State) (m : Nat) : State :=
  if (s.txSt m).busy.isSome || s.rd Reg.EM_STATUS_STATE m != 1 then s else
  match s.txNext m with
  | none => s
  | some f =>
    let s := s.setTx m fun t => { t with busy := some f }
    match f with
    | .ring .. => s
    | .zdp z => { s with zdp := { s.zdp with out := s.zdp.out.erase z } }
    | .tap t => { s with claims := { s.claims with tapOut := s.claims.tapOut.erase t } }
    | .status g => { s with gate := { s.gate with out := s.gate.out.erase g } }

/-- A frame has left EMm: entry stamped and released, counts, latency, ALARM share. -/
def State.txDone (s : State) (m : Nat) (f : TxFrame) : State :=
  let len := s.txLen m f
  let now := s.tb3
  let alarm : Bool := match f with
    | .ring q _ => q == 2
    | .zdp z => bitOf z.flags 1
    | _ => false
  let s := s.setTx m fun t =>
    { t with busy := none, window := (now, len * 8, alarm) :: recent now t.window }
  let p := shareOf (s.txSt m).window
  let s := s.wr Reg.EM_ALARM_SHARE_SHARE (if p.1 == 0 then 0 else min 65535 (p.2 * 65536 / p.1)) m
  let s := (s.setObjN Obj.EM_TX_FRAMES ((s.objN Obj.EM_TX_FRAMES m + 1) % 2 ^ 64) m).emLink m
  let s := (s.count 0x702 (some (m + 1))).count 0x703 (some (m + 1)) len
  match f with
  | .ring q e =>
    let off := s.txEntry m q e
    let t := s.stampPair 0 (s.rdS Reg.EM_TS_CORR_TX_EXTRA m)
    let flags := s.gristNat (off + 2) 1
    let head := s.entryHeader len (if bitOf flags 0 then flags else flags + 1) 0 t.1 t.2
    let s := (s.gristPut (off + 2) [BitVec.ofNat 8 (if bitOf flags 0 then flags else flags + 1)]).gristPut (off + 4)
      ((head.drop 4).take 20)
    let size := 2 ^ s.rd Reg.EM_TX_CFG_LOG2 m q
    let s := (s.wr Reg.EM_TX_HEAD_HEAD ((e + 1) % size) m q).raise Reg.EM_IRQ_TX_DONE m
    s.latency 7 (some m) (Map.get now (s.txSt m).offered (q * 4096 + e)) now
  | _ => s

/-- EM_FRAME_SENT: the frame on the line has left, or, where none is noted there, the next in order; then the next one
starts. -/
def execEmFrameSent (m : Fin 8) (s : State) : Host.Outcome State Fault Refusal :=
  let s := s.txStart m
  match (s.txSt m).busy with
  | some f => if s.rd Reg.EM_STATUS_STATE m ≠ 1 then .next s else .next ((s.txDone m f).txStart m)
  | none => .next s

/-- TX_TAIL_WRITE: a write of a transmit TAIL offers entries up to it. A peer link or serial port, whose frames and
characters end with no command of their own, sends them at once. -/
def execTxTailWrite (p : PortNo) (q : Fin 4) (v : Word) (s : State) : Host.Outcome State Fault Refusal :=
  let n : Nat := p
  if 1 ≤ n ∧ n ≤ 8 then
    let m := n - 1
    let size := 2 ^ s.rd Reg.EM_TX_CFG_LOG2 m q
    let old := s.rd Reg.EM_TX_TAIL_TAIL m q
    let new := v.toNat % size
    let now := s.tb3
    let fresh := (List.range ((new + size - old) % size)).map fun i => q.val * 4096 + (old + i) % size
    let s := s.setTx m fun t => { t with offered := fresh.foldl (fun o k => Map.put o k now) t.offered }
    .next ((s.wr Reg.EM_TX_TAIL_TAIL new m q).txStart m)
  else if 33 ≤ n ∧ n ≤ 36 then
    let l := n - 33
    let size := 2 ^ s.rd Reg.XL_TX_CFG_LOG2 l
    let new := v.toNat % size
    let s := s.wr Reg.XL_TX_TAIL_TAIL new l
    if s.rd Reg.XL_STATUS_STATE l ≠ 1 then .next s else
    let old := s.rd Reg.XL_TX_HEAD_HEAD l
    let base := s.rd Reg.XL_TX_BASE_BASE l * 64
    let one (u : State) (i : Nat) : State :=
      let len := u.gristNat (base + 4160 * ((old + i) % size)) 2
      let alarm := bitOf (u.gristNat (base + 4160 * ((old + i) % size) + 33) 1) 0
      let u := ((u.count 0x702 (some n)).count 0x703 (some n) len).noteLink l len alarm
      u.setPorts fun x => { x with xlSeq := Map.upd 0 x.xlSeq l fun k => (k + 1) % 2 ^ 32 }
    let cnt := (new + size - old) % size
    let s := (List.range cnt).foldl one s
    let s := s.wr Reg.XL_TX_HEAD_HEAD new l
    .next (if cnt == 0 then s else s.raise Reg.XL_IRQ_TX_DONE l)
  else if 25 ≤ n ∧ n ≤ 32 then
    let u := n - 25
    let new := v.toNat % 2 ^ s.rd Reg.SU_TX_CFG_LOG2 u
    let s := s.wr Reg.SU_TX_TAIL_TAIL new u
    if s.rd Reg.SU_STATUS_STATE u ≠ 1 then .next s
    else .next ((s.wr Reg.SU_TX_HEAD_HEAD new u).raise Reg.SU_IRQ_TX_EMPTY u)
  else .next s

/-! ### Peer links (R400) -/

/-- Bytes 0 to 11 of a peer-link frame, and its payload. -/
def peerBytes (f : PeerFrame) : List Byte :=
  leBytes 1 f.type.toNat ++ leBytes 1 f.flags.toNat ++ leBytes 2 f.payload.length ++ leBytes 2 f.src.toNat ++
  leBytes 1 f.epoch.toNat ++ leBytes 1 f.rsv.toNat ++ leBytes 4 f.seq.toNat ++ f.payload

/-- A frame of TYPE 4 to 7 written to the receive ring of XLl, or lost to a full one. -/
def State.xlStore (s : State) (l : Nat) (frame : List Byte) : State :=
  let size := 2 ^ s.rd Reg.XL_RX_CFG_LOG2 l
  let h := s.rd Reg.XL_RX_HEAD_HEAD l
  let next := (h + 1) % size
  if next == s.rd Reg.XL_RX_TAIL_TAIL l then s.raise Reg.XL_IRQ_RX_LOST l else
  let t := s.stampPair 0 0
  let e := s.entryHeader frame.length 1 3 t.1 t.2 ++ frame
  let s := s.gristPut (s.rd Reg.XL_RX_BASE_BASE l * 64 + 4160 * h) (e.take 4160)
  (s.wr Reg.XL_RX_HEAD_HEAD next l).raise Reg.XL_IRQ_RX l

/-- The member at the other end of link `l` (R441). -/
def State.linkMember (s : State) (l : Nat) : Option Nat := s.others[l / 2]?

/-- The ALARM record of a NOTIFY of the ALARM stream (0xB810.01): NSEQ, TIME, then the 128-byte record. -/
def alarmOfBytes (b : List Byte) : Option AlarmRec :=
  if b.length != 128 || crc32 (b.take 124) != leAt b 124 4 then none else
  let fl := leAt b 22 1
  some
    { aseq := leAt b 0 4, node := leAt b 4 2, code := leAt b 6 2, time := ⟨leAt b 8 6, leAt b 16 4⟩
      unit := leAt b 20 2, peerCopy := bitOf fl 0, held := bitOf fl 1, overflowed := bitOf fl 2
      osn := leAt b 24 8, claim := leAt b 32 4
      detail := (List.range 15).map fun i => BitVec.ofNat 32 (leAt b (36 + 4 * i) 4), text := (b.drop 96).take 28 }

/-- A peer's ALARM, copied into the own ring with PEER_COPY (R525). -/
def State.peerAlarm (s : State) (payload : List Byte) : State :=
  if leAt payload 1 1 % 16 == 5 && bitOf (leAt payload 2 2) 1 && leAt payload 12 2 == 0xB810 && leAt payload 14 1 == 1 then
    match alarmOfBytes ((payload.drop 40).take 128) with
    | some a => s.takeAlarm { a with peerCopy := true }
    | none => s
  else s

/-- PEER_FRAME_RECEIVED: a good frame is steered by TYPE; one with a bad CRC or a reserved TYPE is dropped and counted
(R400). TYPE 2 and 3 go to the journal engine, whose messages are commands of their own. -/
def execPeerFrameReceived (link : Fin 4) (f : PeerFrame) (s : State) : Host.Outcome State Fault Refusal :=
  let l : Nat := link
  let p := 33 + l
  if s.rd Reg.XL_STATUS_STATE l ≠ 1 then .next s else
  let b := peerBytes f
  let ty := f.type.toNat
  if crc32 b != f.crc.toNat || ty == 0 || decide (8 ≤ ty) then
    let s := s.setObjN Obj.XL_CRC_ERRORS ((s.objN Obj.XL_CRC_ERRORS l + 1) % 2 ^ 32) l
    .next (((s.incSat Reg.XL_CRC_ERR_COUNT l).raise Reg.XL_IRQ_CRC l).count 0x704 (some p))
  else
    let s := (s.wr Reg.XL_STATUS_PEER_NODE f.src.toNat l).count 0x701 (some p)
    let s := match s.linkMember l with
      | some m => s.hear m
      | none => s
    if ty == 1 then .next ((s.steer p f.payload).peerAlarm f.payload)
    else if ty ≤ 3 then .next s
    else .next (s.xlStore l (b ++ leBytes 4 f.crc.toNat))

/-- FRAME_ALIGNMENT: frame alignment of a peer link gained or lost, which LINK reports. -/
def execFrameAlignment (link : Fin 4) (up : Bool) (s : State) : Host.Outcome State Fault Refusal :=
  if s.flag Reg.XL_STATUS_LINK link = up then .next s
  else .next ((s.put Reg.XL_STATUS_LINK up link).raise Reg.XL_IRQ_LINK link)

/-! ### Serial ports (R345, R399) -/

/-- Character time of SUu in ns (SU_CTRL, SU_BAUD). -/
def State.charNs (s : State) (u : Nat) : Nat :=
  let bits := 1 + (if s.flag Reg.SU_CTRL_DATA7 u then 7 else 8) + (if s.rd Reg.SU_CTRL_PARITY u == 0 then 0 else 1) +
    1 + s.rd Reg.SU_CTRL_STOP2 u
  bits * s.rd Reg.SU_BAUD_DIV u * 1000000000 / 20480000000

/-- An error of a serial port counted: in its field of SU_ERRS, and since reset at place `k` of 0x8Auu.12. -/
def State.suErr (s : State) (f : Field) (k u : Nat) : State :=
  let b := padTo 16 (s.objBytes Obj.SU_ERRORS u)
  (s.incSat f u).setObj Obj.SU_ERRORS
    (.bytes (b.take (4 * k) ++ leBytes 4 (leAt b (4 * k) 4 + 1) ++ b.drop (4 * k + 4))) u

/-- A received byte into the byte ring, or lost to a full one. -/
def State.suByte (s : State) (u : Nat) (c : Byte) : State :=
  let size := 2 ^ s.rd Reg.SU_RX_CFG_LOG2 u
  let h := s.rd Reg.SU_RX_HEAD_HEAD u
  let next := (h + 1) % size
  if next == s.rd Reg.SU_RX_TAIL_TAIL u then s.suErr Reg.SU_ERRS_LOST 3 u
  else
    let s := s.gristPut (s.rd Reg.SU_RX_BASE_BASE u * 64 + h) [c]
    (s.wr Reg.SU_RX_HEAD_HEAD next u).raise Reg.SU_IRQ_RX u

/-- A stamp of the byte that follows at HEAD, in the stamp ring (R345). -/
def State.suStamp (s : State) (u kind ago : Nat) : State :=
  let h := s.rd Reg.SU_TS_HEAD_HEAD u
  let e := leBytes 4 (wrapInt 32 (((s.base 0).count.toNat : Int) - ago)) ++
    leBytes 2 (s.rd Reg.TB_STATUS_STEP_GEN 0) ++ leBytes 1 kind ++ [0] ++ leBytes 4 (s.rd Reg.SU_RX_HEAD_HEAD u) ++
    leBytes 4 0
  let s := s.gristPut (s.rd Reg.SU_TS_BASE_BASE u * 64 + 16 * h) e
  (s.wr Reg.SU_TS_HEAD_HEAD (h + 1) u).raise Reg.SU_IRQ_STAMP u

/-- Escapes of R399 undone; none when another byte follows 0x7D. -/
def unescape : List Byte → Option (List Byte)
  | [] => some []
  | 0x7D :: 0x5E :: r => (unescape r).map (0x7E :: ·)
  | 0x7D :: 0x5D :: r => (unescape r).map (0x7D :: ·)
  | 0x7D :: _ => none
  | b :: r => (unescape r).map (b :: ·)

/-- A byte of a port in ZDP mode (R399). -/
def State.suZdp (s : State) (u : Nat) (c : Byte) : State :=
  let put (s : State) (x : Option (List Byte)) : State := s.setPorts fun p => { p with zdpIn := Map.put p.zdpIn u x }
  match Map.get none s.ports.zdpIn u with
  | none => if c == 0x7E then put s (some []) else s
  | some acc =>
    if c != 0x7E then put s (some (if acc.length ≤ 2200 then acc ++ [c] else acc))
    else if acc.isEmpty then s
    else
      let s := put s none
      match unescape acc with
      | some b => if acc.length ≤ 2200 then s.steer (25 + u) b else s.zdpDrop (25 + u)
      | none => s.zdpDrop (25 + u)

/-- SU_CHARACTER: a character received, with the errors that the receiver saw. -/
def execSuCharacter (u : Fin 8) (c : Byte) (parity framing overrun : Bool) (s : State) :
    Host.Outcome State Fault Refusal :=
  if s.rd Reg.SU_STATUS_STATE u ≠ 1 then .next s else
  let p : Nat := 25 + u
  let now := s.tb3
  let ch := s.charNs u
  let idle : Bool := match Map.get none s.ports.lastChar u with
    | some t => decide (3 * ch ≤ 2 * (now - ch - t))
    | none => true
  let s := s.setPorts fun x => { x with lastChar := Map.put x.lastChar u (some now) }
  let s := (s.setObjN Obj.SU_BYTES_RX ((s.objN Obj.SU_BYTES_RX u + 1) % 2 ^ 64) u).count 0x705 (some p)
  let s := if parity then (s.suErr Reg.SU_ERRS_PARITY 1 u).raise Reg.SU_IRQ_PARITY u else s
  let s := if framing then (s.suErr Reg.SU_ERRS_FRAMING 0 u).raise Reg.SU_IRQ_FRAMING u else s
  let s := if overrun then (s.suErr Reg.SU_ERRS_OVERRUN 2 u).raise Reg.SU_IRQ_OVERRUN u else s
  let mode := s.rd Reg.SU_CTRL_MODE u
  if mode == 2 then .next (s.suZdp u c) else
  let s := if mode == 0 && (c == 0x24 || c == 0x21) then s.suStamp u (if c == 0x24 then 1 else 2) ch
    else if idle then s.suStamp u 0 ch else s
  .next (s.suByte u c)

/-! ### Enable and service (R399, R403) -/

/-- Configuration objects taken into the registers of a port, as an enable by ORDER does. -/
def State.portLoad (s : State) (n : Nat) : State :=
  if 1 ≤ n ∧ n ≤ 8 then
    let m := n - 1
    let s := (s.wr Reg.EM_CTRL_INTERFACE (s.objN Obj.EM_INTERFACE m) m).wr Reg.EM_CTRL_SPEED100
      (s.objN Obj.EM_SPEED100 m) m
    let s := ((s.wr Reg.EM_IPV4_IP (s.objN Obj.EM_IPV4 m) m).wr Reg.EM_NET_PREFIX (s.objN Obj.EM_PREFIX m) m).wr
      Reg.EM_NET_VLAN (s.objN Obj.EM_VLAN m) m
    let s := s.wr Reg.EM_GW_GW (s.objN Obj.EM_GATEWAY m) m
    let s := (s.wr Reg.EM_TS_CORR_TX_EXTRA (s.objN Obj.EMTS_TX_EXTRA m) m).wr Reg.EM_TS_CORR_RX_EXTRA
      (s.objN Obj.EMTS_RX_EXTRA m) m
    s.wr Reg.EM_ASYM_ASYMMETRY (s.objN Obj.EMTS_ASYMMETRY m) m
  else if 25 ≤ n ∧ n ≤ 32 then
    let u := n - 25
    let s := (s.wr Reg.SU_CTRL_MODE (s.objN Obj.SU_MODE u) u).put Reg.SU_CTRL_DATA7 (s.objN Obj.SU_DATA_BITS u == 7) u
    let s := (s.wr Reg.SU_CTRL_PARITY (s.objN Obj.SU_PARITY u) u).put Reg.SU_CTRL_STOP2 (s.objN Obj.SU_STOP_BITS u == 2) u
    let baud := max 1 (s.objN Obj.SU_BAUD u)
    s.wr Reg.SU_BAUD_DIV ((20480000000 + baud / 2) / baud) u
  else s

/-- Registers and objects of the kind of a port: ENABLE bit, STATE, BIST_PASS, ENABLE object, health slot, instance. -/
def portKind (n : Nat) : Option (Field × Field × Field × ObjDef × Nat × Nat) :=
  if 1 ≤ n ∧ n ≤ 8 then
    some (Reg.EM_CTRL_ENABLE, Reg.EM_STATUS_STATE, Reg.EM_STATUS_BIST_PASS, Obj.EM_ENABLE, slotAt 5 (n - 1), n - 1)
  else if 25 ≤ n ∧ n ≤ 32 then
    some (Reg.SU_CTRL_ENABLE, Reg.SU_STATUS_STATE, Reg.SU_STATUS_BIST_PASS, Obj.SU_ENABLE, slotAt 7 (n - 25), n - 25)
  else if 33 ≤ n ∧ n ≤ 36 then
    some (Reg.XL_CTRL_ENABLE, Reg.XL_STATUS_STATE, Reg.XL_STATUS_BIST_PASS, Obj.XL_ENABLE, slotAt 4 (n - 33), n - 33)
  else none

/-- Reason for which an enable of the port is refused, or 0: a peer link in GATE role (R403); ZDP mode without class
ENGINEERING, and the reserved mode (R399). -/
def State.portRefusal (s : State) (n : Nat) : Nat :=
  if 33 ≤ n ∧ n ≤ 36 then (if s.gateRole then 10 else 0)
  else if 25 ≤ n ∧ n ≤ 32 then
    let mode := s.rd Reg.SU_CTRL_MODE (n - 25)
    if mode == 3 || (mode == 2 && s.classAt n != 2) then 14 else 0
  else 0

/-- The port's line at rest: nothing on it, a serial port between frames, a peer link that counts frames anew. -/
def State.portClear (s : State) (n : Nat) : State :=
  if 1 ≤ n ∧ n ≤ 8 then (s.setTx (n - 1) fun t => { t with busy := none }).wr Reg.EM_STATUS_LINK 0 (n - 1)
  else if 25 ≤ n ∧ n ≤ 32 then s.setPorts fun x =>
    { x with lastChar := Map.put x.lastChar (n - 25) none, zdpIn := Map.put x.zdpIn (n - 25) none }
  else s.setPorts fun x => { x with xlSeq := Map.put x.xlSeq (n - 33) 0 }

/-- The port started: RUNNING with its ENABLE bit. -/
def State.portStart (s : State) (n : Nat) : State :=
  match portKind n with
  | some (en, st, _, _, _, i) =>
    let s := ((s.portClear n).wr en 1 i).wr st 1 i
    if 1 ≤ n ∧ n ≤ 8 then s.txStart i else s
  | none => s

/-- PORT_ENABLE: a write of the ENABLE bit, or an ORDER of the port's ENABLE object, which takes the configuration
objects. A port in test, OFFLINE or retired is not enabled so. -/
def execPortEnable (p : PortNo) (on order : Bool) (s : State) : Host.Outcome State Fault Refusal :=
  let n : Nat := p
  match portKind n with
  | none => .next s
  | some (en, st, _, obj, _, i) =>
    let noted (s : State) : State := if order then s.setObjN obj (ofBool on) i else s
    if on then
      if s.rd st i = 1 then .next ((noted s).answer 0)
      else if s.rd st i ≠ 0 then .next (s.answer 15)
      else
        let t := if order then s.portLoad n else s
        let why := t.portRefusal n
        if why ≠ 0 then .next (s.answer why)
        else .next ((noted (t.portStart n)).answer 0)
    else
      let s := s.wr en 0 i
      let s := if s.rd st i == 1 then (s.portClear n).wr st 0 i else s
      .next ((noted s).answer 0)

/-- The self-test of a port starts: an internal loopback of every frame path (R403). -/
def State.portTestStart (s : State) (n : Nat) : State :=
  match portKind n with
  | some (_, st, pass, _, slot, i) => (((s.portClear n).wr st 3 i).wr pass 0 i).unitTesting slot
  | none => s

/-- PORT_SERVICE_TEST: an ORDER of SERVICE with 1, or the TEST bit. -/
def execPortServiceTest (p : PortNo) (s : State) : Host.Outcome State Fault Refusal :=
  match portKind p with
  | some (_, st, _, _, _, i) =>
    if s.rd st i < 3 then .next ((s.portTestStart p).answer 0) else .next (s.answer 15)
  | none => .next s

/-- What retirement does at a port. -/
def State.portRetire (s : State) (n : Nat) : State :=
  match portKind n with
  | some (_, st, _, _, _, i) =>
    let s := (s.portClear n).wr st 4 i
    if n ≤ 8 then s.raise Reg.EM_IRQ_RETIRED i
    else if n ≤ 32 then s.raise Reg.SU_IRQ_RETIRED i
    else s.raise Reg.XL_IRQ_RETIRED i
  | none => s

/-- PORT_SELF_TEST_DONE: a pass leaves the port OFFLINE with BIST_PASS, a fail retires it (R374, R403). -/
def execPortSelfTestDone (p : PortNo) (pass : Bool) (s : State) : Host.Outcome State Fault Refusal :=
  match portKind p with
  | some (_, st, bist, _, slot, i) =>
    if s.rd st i ≠ 3 then .next s else
    let s := s.unitTested slot pass
    if pass then .next ((s.wr st 2 i).raise bist i) else .next (s.portRetire p)
  | none => .next s

/-- The port re-enabled after a test or a return from retirement where its ENABLE bit stands, else disabled. -/
def State.portReturn (s : State) (n : Nat) : State :=
  match portKind n with
  | some (en, st, _, _, slot, i) =>
    let s := s.unitReturned slot
    if s.flag en i && s.portRefusal n == 0 then s.portStart n else (s.wr en 0 i).wr st 0 i
  | none => s

/-- PORT_SERVICE_RETURN: an ORDER of SERVICE with 2 on an OFFLINE port. -/
def execPortServiceReturn (p : PortNo) (s : State) : Host.Outcome State Fault Refusal :=
  match portKind p with
  | some (_, st, _, _, _, i) =>
    if s.rd st i = 2 then .next ((s.portReturn p).answer 0) else .next (s.answer 15)
  | none => .next s

end Sys2Proof.Machine
end

