-- ==== Sys2Proof/Machine/Reset.lean ====
section
/-! DEFINITION. The resets of the hub (18_startup_firmware.md, R545, R546; 19_electrical_package.md, R564 to R568): what
a reset clears and what Cask, the safety die, the fuses and the flash keep. -/

namespace Sys2Proof.Machine

/-- A dictionary key names a persistent entry (R377). -/
def State.persistKey (s : State) (key : Nat) : Bool :=
  match s.find (key / 256) (key % 256) with
  | some f => f.entry.persist
  | none => false

/-- Registers that a hub reset keeps: the straps, and what R546 names unless the reset is a power-on reset. -/
def keptFields (por : Bool) : List Field :=
  [Reg.SUP_STRAP_ROLE_FAULT, Reg.SUP_STRAP_ROLE, Reg.SUP_STRAP_PORT_PROF_FAULT, Reg.SUP_STRAP_PORT_PROF] ++
  (if por then [] else [Reg.SUP_RESET_CAUSE_CAUSE, Reg.SUP_BOOT_TRIAL_ACTIVE, Reg.SUP_BOOT_CONFIRMED])

/-- The register file after a reset. -/
def State.keptRegs (s : State) (por : Bool) : Map Nat :=
  (keptFields por).foldl (fun m f => Map.put m (f.key 0 0) (s.rd f)) Reg.resetValues

/-- A state entry as the health block reads it at a reset (R518): retired units stay retired, every other unit is in
service, and its counts start anew. The Cask unit is never held retired across a reset. -/
def restoredUnit (slot : Nat) (u : UnitSt) : UnitSt :=
  { u with state := if 3 ≤ u.state ∧ slot ≠ 455 then u.state else 0, window := [], window2 := [], testedAt := none,
           sinceTest := false }

/-- The health block after a reset: what Cask holds of it. -/
def resetHealth (h : HealthSt) (keepHold : Bool) : HealthSt :=
  { units := h.table.map fun p => (p.1, restoredUnit p.1 p.2), table := h.table, history := h.history,
    histSeq := h.histSeq - h.heldHist.length, aseq := h.aseq, rhead := h.rhead, ring := h.ring,
    exhausted := h.exhausted && keepHold }

/-- The newest daily record gives a tile its stress integrals and retention; the summary gives its exclusions. -/
def resetGaugeTile (ring : List DailyRec) (n : Nat) (g : GaugeTile) : GaugeTile :=
  let base : GaugeTile := { excluded := g.excluded, aB := g.aB, aH := g.aH }
  match ring.getLast? with
  | some r =>
    match r.tiles[n]? with
    | some (ret, tb, nh) => { base with retention := ofF32 ret, tauB := ofF32 tb, nuH := ofF32 nh }
    | none => base
  | none => base

/-- Gauge after a reset: the ageing history of Cask. -/
def resetGauge (g : GaugeSt) : GaugeSt :=
  { tiles := g.tiles.map fun p => (p.1, resetGaugeTile g.ring p.1 p.2), ring := g.ring, nextDay := g.nextDay,
    summaries := g.summaries }

/-- The journal engine after a reset: the ring and the window of Cask, with the write that ran when the reset came,
whose record may have been cut short (R424, R571). -/
def resetJournal (j : JournalSt) : JournalSt :=
  let w := j.writing.take 1
  { ring := j.ring ++ w, window := j.window ++ w.map fun o => (o.osn, o.identity), selfCounter := j.selfCounter }

/-- The loop engine after a reset: the active programs and their configurations (07_loop_engine.md). -/
def resetLoop (l : LoopSt) : LoopSt :=
  { slots := l.slots.map fun p => (p.1, ({ cfg := p.2.cfg, program := p.2.program } : SlotSt)) }

/-- The hub's end of the safety mailbox starts anew; the safety die is not touched. -/
def resetMailbox (d : SafetySt) : SafetySt :=
  { d with hubLast := none, hubSeq := 0, guardTx := [], guardOut := [], statusAt := none, challenge := none, wrong := [],
           blocked := none, heldLog := [] }

/-- The dictionary with the values that Cask holds: what an application of the dip changed is not yet there (R436). -/
def State.dictInCask (s : State) : Map Val :=
  s.journal.held.foldr (fun e d => match e with
    | .persist k v => Map.put d k v
    | _ => d) s.dict

/-- Every part of the hub as a reset leaves it (R545, R546). -/
def State.cleared (s : State) (por : Bool) : State :=
  let h := s.hub
  { s with
    regs := s.keptRegs por
    mem := if por then [] else s.mem
    poisoned := if por then [] else s.poisoned
    dict := s.dictInCask.filter fun p => s.persistKey p.1
    latch := [], readData := [], coreFaults := [], outcome := 0
    time := {}, health := resetHealth s.health (!por), zdp := { fuses := s.zdp.fuses, classes := s.zdp.classes }
    ports := {}, journal := resetJournal s.journal, claims := {}, gate := {}, loop := resetLoop s.loop, can := []
    safety := resetMailbox s.safety
    hub := { held := true, por, copyA := h.copyA, copyB := h.copyB, writeB := h.writeB, flash := h.flash, tapIr := h.tapIr }
    fabric := { gauge := resetGauge s.fabric.gauge }
    stages := {}, lauter := {}, pfu := [] }

/-- The hub is reset and held (R545, R546). `cause` is the bit of SUP_RESET_CAUSE; none is the hold of R516, which is no
reset of its own. A power-on reset that comes while the hub is held makes the reset a power-on reset. -/
def State.hubReset (s : State) (por : Bool) (cause : Option Nat) : State :=
  let por := por || (s.hub.held && s.hub.por)
  let spare := s.health.exhausted
  let s := s.cleared por
  let s := if por then
      s.wr Reg.SUP_RESET_CAUSE_CAUSE (1 + (if spare then 64 else 0))
    else match cause with
      | some c => s.wr Reg.SUP_RESET_CAUSE_CAUSE (2 ^ c)
      | none => s
  s.raise Reg.GAUGE_STATUS_DIP

/-- With no spare bank left the hub is held in reset, once the ALARM is in Cask (R516). -/
def State.holdIfExhausted (s : State) : State :=
  if s.health.exhausted && !s.hub.held && !s.dip && s.health.held.isEmpty && s.health.overflow.isEmpty then
    s.hubReset false none
  else s

/-- PORST_N_LOW (R568). -/
def execPorstNLow (s : State) : Host.Outcome State Fault Refusal := .next (s.hubReset true none)

/-- REFERENCE_LOST (R568): the hub is held until the PLL locks again; the safety die goes on (R26). -/
def execReferenceLost (s : State) : Host.Outcome State Fault Refusal := .next (s.hubReset true none)

/-- VCORE_BELOW_060 (R565): a hub reset with cause VCORE_LOW. -/
def execVcoreBelow060 (s : State) : Host.Outcome State Fault Refusal := .next (s.hubReset false (some 1))

/-- JTAG_HUB_RESET (R580): the TAP holds HUB_RESET and enters Run-Test/Idle; the cause is JTAG. -/
def execJtagHubReset (s : State) : Host.Outcome State Fault Refusal :=
  .next (State.hubReset { s with hub := { s.hub with tapIr := 0x21 } } false (some 5))

/-- JTAG_TAP_RESET (R580): the TAP selects IDCODE, as IEEE 1149.1 has it (PRESUMED, log entry 60). -/
def execJtagTapReset (s : State) : Host.Outcome State Fault Refusal :=
  .next { s with hub := { s.hub with tapIr := 1 } }

/-- SUP_RESTART (R545): a write of the key restarts the hub; any other value is ignored. -/
def execSupRestart (key : Word) (s : State) : Host.Outcome State Fault Refusal :=
  .next (if key = 0x52535452 then s.hubReset false (some 4) else s)

/-! ### Core watchdog (R554) -/

/-- WATCHDOG_ENABLE: a write of SUP_WDT_CFG. EN cannot be cleared; CORE_MASK and TIMEOUT_MS change only while it is 0,
TIMEOUT_MS within its range. Every watched core starts with a full deadline. -/
def execWatchdogEnable (v : Word) (s : State) : Host.Outcome State Fault Refusal :=
  if s.flag Reg.SUP_WDT_CFG_EN then .next s else
  let t := v.toNat % 2 ^ 14
  let s := s.wr Reg.SUP_WDT_CFG_CORE_MASK (v.toNat / 2 ^ 16)
  let s := if 10 ≤ t ∧ t ≤ 10000 then s.wr Reg.SUP_WDT_CFG_TIMEOUT_MS t else s
  let now := s.tb3
  let s := s.wr Reg.SUP_WDT_CFG_EN (v.toNat / 2 ^ 31)
  .next { s with hub := { s.hub with kicks := [(0, now), (1, now), (2, now), (3, now)] } }

/-- WATCHDOG_KICK: a write to SUP_WDT_KICK by a core. -/
def execWatchdogKick (core : Fin 4) (s : State) : Host.Outcome State Fault Refusal :=
  let now := s.tb3
  .next { s with hub := { s.hub with kicks := Map.put s.hub.kicks core.val now } }

/-- A watched core has missed its deadline. -/
def State.watchdogLate (s : State) : Bool :=
  s.flag Reg.SUP_WDT_CFG_EN && (List.range 4).any fun c =>
    bitOf (s.rd Reg.SUP_WDT_CFG_CORE_MASK) c &&
      s.elapsed (Map.get 0 s.hub.kicks c) (s.rd Reg.SUP_WDT_CFG_TIMEOUT_MS * 1000000)

/-- WATCHDOG_EXPIRY: the hub is reset with cause WATCHDOG. -/
def execWatchdogExpiry (s : State) : Host.Outcome State Fault Refusal :=
  .next (if s.watchdogLate then s.hubReset false (some 2) else s)

/-! ### Trial of an image (R551, R558) -/

/-- Trial time left, s (SUP_TRIAL.LEFT_S). -/
def State.trialLeft (s : State) : Nat :=
  match s.hub.trial with
  | some (t, l) => l - (s.tb3 - t) / 1000000000
  | none => 0

/-- TRIAL_CONFIRM: a write of SUP_BOOT.CONFIRM stops the timer and sets CONFIRMED. -/
def execTrialConfirm (s : State) : Host.Outcome State Fault Refusal :=
  .next (({ s with hub := { s.hub with trial := none } } : State).wr Reg.SUP_BOOT_CONFIRMED 1)

/-- TRIAL_EXPIRY: the hub is reset with cause TRIAL. -/
def execTrialExpiry (s : State) : Host.Outcome State Fault Refusal :=
  .next (if s.hub.trial.isSome && s.trialLeft == 0 then s.hubReset false (some 3) else s)

end Sys2Proof.Machine
end

