-- ==== Sys2Proof/Machine/Gauge.lean ====
section
/-! DEFINITION. Gauge (02_clockless_timing_admission.md, R51 to R73): what the speed factors, the exclusions, the
ageing forecast and the kiln margin are. The commands that use the retirement of tiles stand in `GaugeRows.lean`. -/

namespace Sys2Proof.Machine

/-- The fabric changed. -/
def State.setFabric (s : State) (f : FabricSt → FabricSt) : State := { s with fabric := f s.fabric }

/-- Gauge changed. -/
def State.setGauge (s : State) (f : GaugeSt → GaugeSt) : State :=
  { s with fabric := { s.fabric with gauge := f s.fabric.gauge } }

/-- Tile n as Gauge keeps it. -/
def State.gtile (s : State) (n : Nat) : GaugeTile := Map.get {} s.fabric.gauge.tiles n

/-- That changed. -/
def State.setGtile (s : State) (n : Nat) (f : GaugeTile → GaugeTile) : State :=
  { s with fabric := { s.fabric with gauge := { s.fabric.gauge with
      tiles := Map.upd {} s.fabric.gauge.tiles n f } } }

/-- Tile n of the fabric. -/
def State.tile (s : State) (n : Nat) : TileSt := Map.get {} s.fabric.tiles n

/-- A tile of the fabric changed. -/
def State.setTile (s : State) (n : Nat) (f : TileSt → TileSt) : State :=
  { s with fabric := { s.fabric with tiles := Map.upd {} s.fabric.tiles n f } }

/-- The tile is neither power-gated (R43, R48) nor retired. -/
def State.tilePowered (s : State) (n : Nat) : Bool := !(s.gateRole && n != 0 && n != 16) && !s.retired n

/-- The tile takes part in the admission tables (R76, R122). -/
def State.tileInService (s : State) (n : Nat) : Bool := s.tilePowered n && (s.tile n).mode == .normal

/-- The tiles in service, ascending. -/
def State.tilesInService (s : State) : List Nat := (List.range 32).filter s.tileInService

/-- A re-plan of both admission tables starts (R77). -/
def State.replan (s : State) : State := s.raise Reg.GRIST_STATUS_REPLANNING

/-- A UQ2.14 value as a number (R52). -/
def uq214 (n : Nat) : Rat := (n : Rat) / 16384

/-- A number as UQ2.14, rounded down (R53) and held to the format. -/
def toUq214 (x : Rat) : Nat := min 0xFFFF (x * 16384).floor.toNat

/-! ### Factors (R54, R55, R68, R69) -/

/-- Age retention S after stress τ_B, ν_H with the tile's coefficients. -/
def GaugeTile.ageAt (g : GaugeTile) (tau nu : Rat) : Rat :=
  1 - g.aB * Config.rpow tau (1 / 5) - g.aH * Config.rpow nu (1 / 2)

/-- Floor factor of tile n on new silicon, from its calibration. -/
def State.floorNew (s : State) (n : Nat) : Nat :=
  match s.fabric.gauge.cal with
  | some c => c.floorNew.getD n 0
  | none => 0

/-- Mean rates of τ_B and ν_H of tile n over the last 90 days, per year (R69): against the newest daily record that
is 90 days old, or the first of all where none is. -/
def State.stressRates (s : State) (n : Nat) : Rat × Rat :=
  let g := s.gtile n
  let days := s.fabric.gauge.nextDay
  let old := (s.fabric.gauge.ring.filter fun r => decide (r.day + 90 ≤ days)).getLast?
  let (d0, t0, v0) : Nat × Rat × Rat := match old with
    | some r => let e := r.tiles.getD n (0, 0, 0); (r.day, ofF32 e.2.1, ofF32 e.2.2)
    | none => (0, 0, 0)
  let span : Rat := ((days - d0 : Nat) : Rat) * 4 / 1461
  if span = 0 then (0, 0) else ((g.tauB - t0) / span, (g.nuH - v0) / span)

/-- Retention of tile n forecast `t` years ahead. -/
def State.ageIn (s : State) (n : Nat) (t : Rat) : Rat :=
  let g := s.gtile n
  let (rb, rh) := s.stressRates n
  g.ageAt (g.tauB + rb * t) (g.nuH + rh * t)

/-- The forecast 30 days ahead of tile n put into its registers: age, floor and dip factors (R54, R69). The floor
reads 0 for a retired or power-gated tile. -/
def State.forecastTile (s : State) (n : Nat) : State :=
  let age := s.ageIn n (30 * 4 / 1461)
  let floor := toUq214 (uq214 (s.floorNew n) * age)
  let ratio : Rat := match s.fabric.gauge.cal with
    | some c => c.dipRatio.getD n 0
    | none => 0
  let s := s.wr Reg.GAUGE_DIPT_AGE (toUq214 age) n
  let s := s.wr Reg.GAUGE_DIPT_DIP (toUq214 (uq214 floor * ratio)) n
  s.wr Reg.GAUGE_SPEED_FLOOR (if s.tilePowered n then floor else 0) n

/-- The floor factor of tile n. -/
def State.floorOf (s : State) (n : Nat) : Nat := s.rd Reg.GAUGE_SPEED_FLOOR n

/-- The dip factor of tile n. -/
def State.dipOf (s : State) (n : Nat) : Nat := s.rd Reg.GAUGE_DIPT_DIP n

/-- Every tile forecast; a change of a factor by 16 steps or more since the last re-plan starts one (R69). -/
def State.forecast (s : State) : State :=
  let s := (List.range 32).foldl (fun t n => t.forecastTile n) s
  let far (a b : Nat) : Bool := decide (a + 16 ≤ b) || decide (b + 16 ≤ a)
  let moved (n : Nat) : Bool := far (s.floorOf n) (s.gtile n).planFloor || far (s.dipOf n) (s.gtile n).planDip
  if (List.range 32).any moved then s.replan else s

/-! ### Kiln (R70 to R72) -/

/-- Sum of GRIST_REQ0 to GRIST_REQ4, in 0.1 GFLOP/s. -/
def State.required (s : State) : Nat :=
  s.rd Reg.GRIST_REQ0_REQ + s.rd Reg.GRIST_REQ1_REQ + s.rd Reg.GRIST_REQ2_REQ + s.rd Reg.GRIST_REQ3_REQ +
    s.rd Reg.GRIST_REQ4_REQ

/-- Floor factor of tile n forecast `t` years ahead. -/
def State.floorIn (s : State) (n : Nat) (t : Rat) : Rat := uq214 (s.floorNew n) * s.ageIn n t

/-- Forecast capacity `t` years ahead, in GFLOP/s (R70). -/
def State.capacityIn (s : State) (t : Rat) : Rat :=
  s.tilesInService.foldl (fun a n => a + (352 / 10) * s.floorIn n t * (92 / 100)) 0

/-- The kiln margin from `k` hundredths of a year on: the last hundredth before the capacity falls short. -/
def State.kilnSearch (s : State) : Nat → Nat → Nat
  | 0, k => k
  | f + 1, k =>
    if s.capacityIn (((k + 1 : Nat) : Rat) / 100) < (s.required : Rat) / 10 then k else s.kilnSearch f (k + 1)

/-- The kiln margin in 0.01 years, at most 5,000. -/
def State.kilnMargin (s : State) : Nat :=
  if s.capacityIn 0 < (s.required : Rat) / 10 then 0 else s.kilnSearch 5000 0

/-- A kiln flag against its threshold in years (R72). -/
def State.kilnFlag (s : State) (f : Field) (limit : Rat) (name : String) : State :=
  let m : Rat := (s.rd Reg.GAUGE_KILN_MARGIN : Rat) / 100
  if s.flag f then
    if limit + 1 / 4 ≤ m then (s.wr f 0).raise Reg.GRIST_IRQ_KILN else s
  else if m < limit then ((s.raise f).raise Reg.GRIST_IRQ_KILN).alarm .gauge name
  else s

/-- The kiln margin recomputed, with the slowest tile at its end and the two warnings. -/
def State.kiln (s : State) : State :=
  let m := s.kilnMargin
  let at_ : Rat := (m : Rat) / 100
  let slowest := s.tilesInService.foldl (fun (a : Option Nat) n => match a with
    | some b => if s.floorIn n at_ < s.floorIn b at_ then some n else a
    | none => some n) none
  let s := (s.wr Reg.GAUGE_KILN_MARGIN m).wr Reg.GAUGE_KILN_SLOWEST_TILE (slowest.getD 0)
  let s := s.kilnFlag Reg.GAUGE_STATUS_KILN_WARN (s.objV Obj.KILN_KILN_WARN_YEARS) "KILN_WARN"
  s.kilnFlag Reg.GAUGE_STATUS_KILN_URGENT (s.objV Obj.KILN_KILN_URGENT_YEARS) "KILN_URGENT"

/-- KILN_RUN: a write of GAUGE_CTRL.KILN_RUN recomputes the kiln margin (R71). -/
def execKilnRun (s : State) : Host.Outcome State Fault Refusal := .next s.kiln

/-- AGEING_FORECAST: once per hour and after each fit (R69). -/
def execAgeingForecast (s : State) : Host.Outcome State Fault Refusal := .next s.forecast

/-! ### Exclusions and breaches as flags -/

/-- BREACH of GAUGE_STATUS and GRIST_STATUS follow the tiles. -/
def State.showBreach (s : State) : State :=
  let any := (List.range 32).any fun n => s.flag Reg.GAUGE_FLAGS_BREACH n
  (s.put Reg.GAUGE_STATUS_BREACH any).put Reg.GRIST_STATUS_BREACH any

/-- The monitors of tile n excluded: register and summary in Cask (R57, R588). -/
def State.setExcluded (s : State) (n m : Nat) : State :=
  (s.setGtile n fun g => { g with excluded := m }).wr Reg.GAUGE_FLAGS_MON_EXCL m n

/-- The breach of tile n ends. -/
def State.breachOver (s : State) (n : Nat) : State :=
  if !s.flag Reg.GAUGE_FLAGS_BREACH n then s else
  let s := (s.setGtile n fun g => { g with breachAt := none, okSince := none, alarmed := false }).wr
    Reg.GAUGE_FLAGS_BREACH 0 n
  s.showBreach.replan

/-- Gauge when tile n leaves service: its floor reads 0 and its breach is over. -/
def State.gaugeOut (s : State) (n : Nat) : State :=
  ((s.breachOver n).wr Reg.GAUGE_SPEED_FLOOR 0 n).setGtile n fun g =>
    { g with belowFloor := 0, belowDip := 0, deviates := [0, 0, 0, 0] }

/-- Gauge when tile n returns to service: exclusions and the speed fault clear (R588). -/
def State.gaugeIn (s : State) (n : Nat) : State :=
  (((s.setExcluded n 0).wr Reg.GAUGE_FLAGS_SPEED_FAULT 0 n).forecastTile n)

end Sys2Proof.Machine
end

