-- ==== Sys2Proof/Machine/Grist.lean ====
section
/-! DEFINITION. Grist (02_clockless_timing_admission.md, R74 to R96, and the descriptors of 03_solver_fabric.md): the
admission tables, the descriptors, the admission test and the posting of verdicts. -/

namespace Sys2Proof.Machine

/-- Grist changed. -/
def State.setGrist (s : State) (f : GristSt → GristSt) : State :=
  { s with fabric := { s.fabric with grist := f s.fabric.grist } }

/-- The job in a context. -/
def State.job (s : State) (c : Nat) : Option JobSt := Map.get none s.fabric.grist.jobs c

/-- A job changed. -/
def State.setJob (s : State) (c : Nat) (f : JobSt → JobSt) : State :=
  s.setGrist fun g => { g with jobs := Map.upd none g.jobs c fun j => j.map f }

/-- Contexts that hold a job, with their jobs. -/
def State.jobs (s : State) : List (Nat × JobSt) :=
  s.fabric.grist.jobs.filterMap fun p => p.2.map fun j => (p.1, j)

/-! ### Tables (R74 to R79) -/

/-- Planning requirement at 16 scenarios, at most GRIST_REQ1 (R74). -/
def State.req1Min (s : State) : Nat := min (s.rd Reg.GRIST_REQ1MIN_REQ) (s.rd Reg.GRIST_REQ1_REQ)

/-- Requirements in rank order: class, requirement in 0.1 GFLOP/s up to which the class is granted, and the SHED
codes where it is reduced and where it gets nothing (R43, R75, R76, R79). -/
def State.ranks (s : State) : List (Nat × Nat × Nat × Nat) :=
  if s.gateRole then [(4, if s.tileInService 0 && s.tileInService 16 then 200 else 100, 6, 6)] else
  [(0, s.rd Reg.GRIST_REQ0_REQ, 7, 7), (1, s.req1Min, 7, 7), (4, s.rd Reg.GRIST_REQ4_REQ, 6, 6),
   (1, s.rd Reg.GRIST_REQ1_REQ, 5, 5), (2, s.rd Reg.GRIST_REQ2_REQ, 3, 4), (3, s.rd Reg.GRIST_REQ3_REQ, 1, 2)]

/-- Factor of a tile in a table. -/
def Table.factor (t : Table) (n : Nat) : Nat := Map.get 0 t.factors n

/-- Shares of a tile, by class. -/
def Table.share (t : Table) (n c : Nat) : Nat := (Map.get [0, 0, 0, 0, 0] t.shares n).getD c 0

/-- Capacity of one 1/32 share of a tile, in 0.1 GFLOP/s (R76). -/
def Table.unit (t : Table) (n : Nat) : Rat := (352 * 92 / 3200) * uq214 (t.factor n)

/-- What the greedy fill of R76 holds. -/
structure Fill where
  table : Table
  free : Map Nat
  /-- Capacity of the shares of each class, 0.1 GFLOP/s. -/
  cap : List Rat := [0, 0, 0, 0, 0]

/-- The smallest share up to `free` that gives `need`, or all of it. -/
def leastShare (unit need : Rat) (free : Nat) : Nat :=
  match (List.range (free + 1)).find? fun (k : Nat) => decide (need ≤ ((k : Nat) : Rat) * unit) with
  | some k => k
  | none => free

/-- One requirement placed over the tiles in service. -/
def Fill.place (x : Fill) (tiles : List Nat) (cls req : Nat) : Fill :=
  tiles.foldl (fun (x : Fill) n =>
    let need := (req : Rat) - x.cap.getD cls 0
    let free := Map.get 32 x.free n
    if need ≤ 0 || free == 0 then x else
    let k := leastShare (x.table.unit n) need free
    let old := Map.get [0, 0, 0, 0, 0] x.table.shares n
    { table := { x.table with shares := Map.put x.table.shares n (old.set cls (old.getD cls 0 + k)) }
      free := Map.put x.free n (free - k)
      cap := x.cap.set cls (x.cap.getD cls 0 + (k : Rat) * x.table.unit n) }) x

/-- SHED of a table (R79): by the earliest requirement whose grant falls short. -/
def shedOf (ranks : List (Nat × Nat × Nat × Nat)) (cap : List Rat) : Nat :=
  match ranks.find? fun r => decide (cap.getD r.1 0 < (r.2.1 : Rat)) with
  | some r => if cap.getD r.1 0 = 0 then r.2.2.2 else r.2.2.1
  | none => 0

/-- An admission table built from the state (R76): the floor table, or with `dip` the dip table. -/
def State.buildTable (s : State) (dip : Bool) : Table :=
  let tiles := s.tilesInService
  let factor (n : Nat) : Nat := if dip || s.flag Reg.GAUGE_FLAGS_BREACH n then s.dipOf n else s.floorOf n
  let start : Fill := { table := { factors := tiles.map fun n => (n, factor n) }, free := [] }
  let ranks := s.ranks
  let x := ranks.foldl (fun x r => x.place tiles r.1 r.2.1) start
  let top (c : Nat) : Nat := ranks.foldl (fun m r => if r.1 == c then max m r.2.1 else m) 0
  { x.table with
    grants := (List.range 5).map fun c => min (top c) (x.cap.getD c 0).floor.toNat
    shed := shedOf ranks x.cap }

/-- The table in force. -/
def State.tableInForce (s : State) : Table := if s.dip then s.fabric.grist.dipT else s.fabric.grist.floorT

/-- Registers that show the table in force, and a change of SHED (R79). -/
def State.showTable (s : State) : State :=
  let t := s.tableInForce
  let s := (List.range 5).foldl (fun u c => u.wr Reg.GRIST_GRANT_GRANT (t.grants.getD c 0) c) s
  let s := (List.range 32).foldl (fun u n =>
    let u := (u.wr Reg.GRIST_SHARE_EST (t.share n 0) n).wr Reg.GRIST_SHARE_PLAN (t.share n 1) n
    let u := (u.wr Reg.GRIST_SHARE_BUNDLE (t.share n 2) n).wr Reg.GRIST_SHARE_CONSEQ (t.share n 3) n
    u.wr Reg.GRIST_SHARE_GENERAL (t.share n 4) n) s
  let s := s.put Reg.GRIST_STATUS_DIP s.dip
  if s.rd Reg.GRIST_STATUS_SHED == t.shed then s
  else ((s.wr Reg.GRIST_STATUS_SHED t.shed).raise Reg.GRIST_IRQ_SHED_CHANGE).event .gauge "SHED_CHANGE"

/-- The new tables replace the old ones in one step (R77). -/
def State.replaceTables (s : State) : State :=
  let f := s.buildTable false
  let d := s.buildTable true
  let s := s.setGrist fun g => { g with floorT := f, dipT := d }
  let s := (List.range 32).foldl (fun u n =>
    let fl := u.floorOf n
    let di := u.dipOf n
    u.setGtile n fun g => { g with planFloor := fl, planDip := di }) s
  let s := ((s.incWrap Reg.GRIST_STATUS_TABLE_GEN).wr Reg.GRIST_STATUS_REPLANNING 0).raise
    Reg.GRIST_IRQ_TABLE_CHANGED
  let s := s.count 0x103 none
  let s := if s.flag Reg.GAUGE_STATUS_CAL_VALID then s.raise Reg.GRIST_STATUS_READY else s
  s.showTable

/-- REPLAN: a write of 1 to GRIST_CTRL.REPLAN (R77). -/
def execReplan (s : State) : Host.Outcome State Fault Refusal := .next s.replan

/-- REQUIREMENT_WRITE: a core writes GRIST_REQ0 to GRIST_REQ3 (r = 0 to 3) or GRIST_REQ1MIN (r = 5). GRIST_REQ4
(r = 4) is read-only and the write changes nothing (R18). A re-plan starts and the kiln margin is recomputed (R71,
R77). -/
def execRequirementWrite (_core : Fin 4) (r : Fin 6) (v : Word) (s : State) : Host.Outcome State Fault Refusal :=
  let put (f : Field) : State := (s.wr f v.toNat).replan.kiln
  .next (match r with
    | 0 => put Reg.GRIST_REQ0_REQ
    | 1 => put Reg.GRIST_REQ1_REQ
    | 2 => put Reg.GRIST_REQ2_REQ
    | 3 => put Reg.GRIST_REQ3_REQ
    | 4 => s
    | 5 => put Reg.GRIST_REQ1MIN_REQ)

/-! ### Descriptors (R105, R116) -/

/-- A part-table entry as read, with what its checks need. -/
structure PartEntry where
  tile : Nat
  base : Nat
  pages : Nat
  nops : Nat
  opMax : Nat
  work : Nat
  linkBytes : Nat
  opList : Nat
  ok : Bool

/-- An address range lies wholly in the Grist store. -/
def inGrist (a n : Nat) : Bool := decide (gristBase ≤ a) && decide (a + n ≤ gristBase + gristSize)

/-- The mirror of an address (R99). -/
def mirrorOf (a : Nat) : Nat := if a / 0x04000000 % 2 == 0 then a + 0x04000000 else a - 0x04000000

/-- The entry that 64 bytes spell. -/
def PartEntry.ofBytes (b : List Byte) : PartEntry where
  tile := leAt b 0 1
  base := leAt b 2 1
  pages := leAt b 3 1
  nops := leAt b 4 2
  opMax := leAt b 8 4
  work := leAt b 16 8
  linkBytes := leAt b 24 8
  opList := leAt b 32 8
  ok := (leAt b 0 1 < 32 || leAt b 0 1 == 0xFF) && leAt b 1 1 == 0 && leAt b 2 1 ≤ 47 && 1 ≤ leAt b 3 1 &&
    leAt b 2 1 + leAt b 3 1 ≤ 48 && 1 ≤ leAt b 4 2 && leAt b 6 2 == 0 && leAt b 12 4 == 0 &&
    leAt b 32 8 % 64 == 0 && inGrist (leAt b 32 8) (64 * leAt b 4 2) && leAt b 40 24 == 0

/-- A job descriptor as read (128 bytes), with its part table. -/
structure Desc where
  bytes : List Byte
  parts : List PartEntry

/-- A field of the descriptor. -/
def Desc.get (d : Desc) (off n : Nat) : Nat := leAt d.bytes off n

/-- CLASS. -/
def Desc.cls (d : Desc) : Nat := d.get 1 1

/-- RELEASE in TB3 ns. -/
def Desc.release (d : Desc) : Nat := d.get 8 6 * 1000000000 + d.get 16 4

/-- DEADLINE in TB3 ns. -/
def Desc.deadline (d : Desc) : Nat := d.get 24 6 * 1000000000 + d.get 20 4

/-- FALLBACK. -/
def Desc.fallback (d : Desc) : Nat := d.get 4 1

/-- The descriptor at a Grist-store address. -/
def State.readDesc (s : State) (a : Nat) : Desc :=
  let b := Memory.getList s.mem a 128
  let n := leAt b 2 1
  let t := leAt b 32 8
  { bytes := b
    parts := if n ≤ 32 && inGrist t (64 * n) then
        (List.range n).map fun i => PartEntry.ofBytes (Memory.getList s.mem (t + 64 * i) 64) else [] }

/-- Checks of R105 on one descriptor, apart from the chain rules. -/
def Desc.formOk (d : Desc) : Bool :=
  let g := d.get
  let ck := g 4 1 == 3
  g 124 4 == crc32 (d.bytes.take 124) &&
  g 0 1 == 1 && g 1 1 ≤ 4 && 1 ≤ g 2 1 && g 2 1 ≤ 32 && 1 ≤ g 3 1 && g 3 1 ≤ 64 && g 4 1 ≤ 3 && g 5 1 < 4 &&
  g 6 1 ≤ 5 && g 7 1 == 0 && g 14 2 == 0 && g 30 2 == 0 && g 16 4 < 1000000000 && g 20 4 < 1000000000 &&
  g 32 8 % 64 == 0 && inGrist (g 32 8) (64 * g 2 1) && inGrist (g 40 8) (g 88 4) &&
  (if g 4 1 == 0 then g 48 8 == 0 else inGrist (g 48 8) (g 92 4)) &&
  (if ck then (g 56 8 == 0 || inGrist (g 56 8) (g 96 4)) && (g 64 8 == 0 || inGrist (g 64 8) (g 96 4))
   else g 56 8 == 0 && g 64 8 == 0) &&
  g 72 8 % 64 == 0 && inGrist (g 72 8) 64 && g 96 4 ≤ 1048576 &&
  (g 80 8 == 0 || (g 80 8 % 128 == 0 && inGrist (g 80 8) 128)) && d.parts.all (·.ok)

/-- Checks that refuse with FALLBACK (R81, R105). -/
def Desc.fallbackOk (d : Desc) : Bool :=
  let g := d.get
  g 92 4 ≤ 1048576 && (g 4 1 != 0 || g 1 1 == 4) &&
  (if g 4 1 == 1 || g 4 1 == 2 then decide (g 92 4 ≤ g 88 4) else true) &&
  (if g 4 1 == 2 then g 100 4 * g 104 2 == g 92 4 else true) &&
  (if g 4 1 == 3 then decide (g 96 4 ≤ g 88 4) && g 56 8 != 0 && g 64 8 != 0 &&
      inGrist (mirrorOf (g 56 8)) (g 96 4) && inGrist (mirrorOf (g 64 8)) (g 96 4) else true)

/-- The links of a submission, head first: `none` when the chain is longer than 8 links or a NEXT does not lead to
the Grist store. -/
def State.chainFrom (s : State) : Nat → Nat → Option (List Desc)
  | 0, _ => none
  | f + 1, a =>
    if !(a % 128 == 0 && inGrist a 128) then none else
    let d := s.readDesc a
    if d.get 80 8 == 0 then some [d] else (s.chainFrom f (d.get 80 8)).map (d :: ·)

/-- Deadlines rise strictly along the chain and every link has the same class (R116). -/
def chainOk : List Desc → Bool
  | a :: b :: r => a.cls == b.cls && decide (a.deadline < b.deadline) && chainOk (b :: r)
  | _ => true

/-! ### The admission test (R82 to R84) -/

/-- T_FB of a fallback, in ns. -/
def State.fbTime (s : State) (kind bytes : Nat) : Rat :=
  if kind == 0 then 0 else 2000 + (bytes : Rat) / ((64 / 10) * uq214 (s.rd Reg.GAUGE_HUB_DIP_DIP))

/-- T_PUB, in ns. -/
def tPub : Rat := 20000

/-- A part as the test of R82 sees it. -/
structure Load where
  tile : Nat
  cls : Nat
  cutoff : Rat
  remaining : Nat
  reserve : Nat
  opMax : Nat
  deriving DecidableEq, Repr

/-- The admitted parts of all jobs that still run or wait. -/
def State.loads (s : State) : List Load :=
  s.jobs.flatMap fun j =>
    if j.2.phase == .waiting || j.2.phase == .running then
      (j.2.parts.filter fun p => !p.finished && !p.stopped).map fun p =>
        { tile := p.tile, cls := j.2.cls, cutoff := j.2.cutoff, remaining := p.work - p.doneSum,
          reserve := if p.reserveUsed then 0 else p.opMax, opMax := p.opMax }
    else []

/-- Margin of a new part on its tile under R82: the least of the right side less the left over the cut-offs `d`, or
none when the tile has no share for the class or the cut-off lies before r. -/
def Table.margin (t : Table) (ls : List Load) (r : Rat) (x : Load) : Option Rat :=
  let share := t.share x.tile x.cls
  if share == 0 || x.cutoff < r then none else
  let on := (x :: ls).filter fun l => l.tile == x.tile && decide (r ≤ l.cutoff)
  let mine := on.filter fun l => l.cls == x.cls
  let at_ (d : Rat) : Rat :=
    let sum := (mine.filter fun l => decide (l.cutoff ≤ d)).foldl (fun (a : Nat) l => a + l.remaining + l.reserve) 0
    let b := (on.filter fun l => decide (d < l.cutoff)).foldl (fun (a : Nat) l => max a l.opMax) 0
    ((share : Rat) / 32) * (92 / 100) * uq214 (t.factor x.tile) * (d - r) - (sum + b : Nat)
  some (mine.foldl (fun m l => min m (at_ l.cutoff)) (at_ x.cutoff))

/-- The tile of the largest margin that passes, ties to the lower number. -/
def Table.bestTile (t : Table) (ls : List Load) (r : Rat) (x : Load) (tiles : List Nat) : Option Nat :=
  (tiles.foldl (fun (best : Option (Rat × Nat)) n =>
    match t.margin ls r { x with tile := n } with
    | some m => if m < 0 then best else match best with
      | some (bm, _) => if bm < m then some (m, n) else best
      | none => some (m, n)
    | none => best) none).map (·.2)

/-- The parts of one link placed in turn: the loads they add, or none when one fails R82. -/
def State.placeParts (s : State) (t : Table) (cls : Nat) (r cut : Rat) : List PartEntry → List Load → List Load →
    Option (List Load)
  | [], _, acc => some acc
  | p :: ps, ls, acc =>
    let x : Load := { tile := p.tile, cls, cutoff := cut, remaining := p.work, reserve := p.opMax, opMax := p.opMax }
    let tiles := if p.tile == 0xFF then (List.range 32).filter fun n => t.share n cls != 0 && s.tileInService n
      else [p.tile]
    match t.bestTile ls r x tiles with
    | some n => s.placeParts t cls r cut ps ({ x with tile := n } :: ls) (acc ++ [{ x with tile := n }])
    | none => none

/-- A job as the tests of R83 see it: its cut-off, T_FB, and its bytes on MA-H, MB-H and MA-MB. -/
structure Charge where
  cutoff : Rat
  tfb : Rat
  links : List Nat

/-- Bytes on the three die links of a part on tile n (R83, R29). -/
def State.linkCharge (s : State) (n bytes : Nat) : List Nat :=
  let a := decide (n < 16)
  let mab := !s.retired 98
  [if a || !mab then bytes else 0, if !a || !mab then bytes else 0, if mab then bytes else 0]

/-- The charges of parts that lie at the given tiles. -/
def State.charges (s : State) (ps : List (Nat × Nat)) : List Nat :=
  ps.foldl (fun acc p => (List.zip acc (s.linkCharge p.1 p.2)).map fun x => x.1 + x.2) [0, 0, 0]

/-- Charges of the admitted jobs. -/
def State.jobCharges (s : State) : List Charge :=
  s.jobs.map fun j => { cutoff := j.2.cutoff, tfb := j.2.tfb, links := s.charges (j.2.parts.map fun p => (p.tile, p.linkBytes)) }

/-- The copy engine's test (R83): for every cut-off s and end d after it, with d at or after r. -/
def copyOk (cs : List Charge) (r : Rat) : Bool :=
  let on := cs.filter fun c => c.tfb != 0 && decide (r ≤ c.cutoff + c.tfb)
  on.all fun a => on.all fun e =>
    let d := e.cutoff + e.tfb
    decide (d ≤ a.cutoff) ||
    decide ((on.filter fun c => decide (a.cutoff ≤ c.cutoff) && decide (c.cutoff + c.tfb ≤ d)).foldl
      (fun x c => x + c.tfb) 0 ≤ d - a.cutoff)

/-- The die-link tests (R83). -/
def State.linksOk (s : State) (cs : List Charge) (r : Rat) : Bool :=
  let dip := uq214 (s.rd Reg.GAUGE_HUB_DIP_DIP)
  (List.range 3).all fun l =>
    let bw : Rat := if l == 2 then 64 else 160
    let on := cs.filter fun c => c.links.getD l 0 != 0 && decide (r ≤ c.cutoff)
    on.all fun e =>
      let bytes := (on.filter fun c => decide (c.cutoff ≤ e.cutoff)).foldl (fun (x : Nat) c => x + c.links.getD l 0) 0
      decide ((bytes : Rat) / (bw * dip) ≤ (92 / 100) * (e.cutoff - r))

/-- Reason codes of GRIST_VERDICT. -/
def reasonDeadline : Nat := 1

/-- A link that has passed: descriptor, release, cut-off, T_FB and its parts' loads. -/
structure Placed where
  desc : Desc
  r : Rat
  cutoff : Rat
  tfb : Rat
  loads : List Load

/-- A deadline of `us` µs after r passes R82 for a link. -/
def State.deadlinePasses (s : State) (t : Table) (d : Desc) (ls : List Load) (r tfb : Rat) (us : Nat) : Bool :=
  (s.placeParts t d.cls r (r + 1000 * (us : Rat) - tfb - tPub) d.parts ls []).isSome

/-- The least `us` in (lo, hi] that passes, where hi does and lo does not. -/
def leastPassing (p : Nat → Bool) : Nat → Nat → Nat → Nat
  | 0, _, hi => hi
  | f + 1, lo, hi =>
    if hi ≤ lo + 1 then hi else
    let m := (lo + hi) / 2
    if p m then leastPassing p f lo m else leastPassing p f m hi

/-- The smallest deadline in µs after release that would pass now (GRIST_VERDICT_EST), sought from one cut-off of
the admitted parts to the next. -/
def State.earliest (s : State) (t : Table) (d : Desc) (ls : List Load) (r tfb : Rat) : Nat :=
  let top := 0xFFFFFFFE
  let p := s.deadlinePasses t d ls r tfb
  let edges := (ls.map fun l => ((l.cutoff + tfb + tPub - r) / 1000).ceil.toNat).filter fun e => decide (e < top)
  let edges := (edges.flatMap fun e => [e - 1, e]).mergeSort ++ [top]
  let go := edges.foldl (fun (st : Nat × Option Nat) e =>
    match st.2 with
    | some _ => st
    | none => if p e then (e, some (leastPassing p 40 st.1 e)) else (max st.1 e, none)) (0, none)
  go.2.getD 0xFFFFFFFF

/-- The checks of step 5 of R589 along the links: reason and estimate of the first failure, or the links placed. -/
def State.checkLinks (s : State) (t : Table) : List Desc → List Load → List Charge → Option Rat → List Placed →
    Except (Nat × Nat) (List Placed)
  | [], _, _, _, acc => .ok acc
  | d :: ds, ls, cs, prev, acc =>
    let now : Rat := s.tb3
    let none_ := 0xFFFFFFFF
    let r := max now (max (d.release : Rat) (prev.getD 0))
    let tfb := s.fbTime d.fallback (d.get 92 4)
    let cut := (d.deadline : Rat) - tfb - tPub
    let named := d.parts.filter fun p => p.tile != 0xFF
    if d.parts.any fun p => decide (2000000 < p.opMax) then .error (5, none_)
    else if t.grants.getD d.cls 0 == 0 then .error (4, none_)
    else if named.any fun p => !s.tileInService p.tile || t.share p.tile d.cls == 0 then .error (6, none_)
    else match s.placeParts t d.cls r cut d.parts ls [] with
      | none => .error (reasonDeadline, s.earliest t d ls r tfb)
      | some new =>
        let link := s.charges ((List.zip new d.parts).map fun x => (x.1.tile, x.2.linkBytes))
        let cs := { cutoff := cut, tfb := tfb, links := link } :: cs
        if !(copyOk cs r && s.linksOk cs r) then .error (9, none_)
        else s.checkLinks t ds (new ++ ls) cs (some cut)
          (acc ++ [{ desc := d, r := r, cutoff := cut, tfb := tfb, loads := new }])

/-- Contexts that are free, lowest first. -/
def State.freeContexts (s : State) : List Nat :=
  (List.range 256).filter fun c => c != 0 && (s.job c).isNone

/-- The decision on the submission at a Grist-store address under a table (R589). -/
def State.decide_ (s : State) (t : Table) (a : Nat) : Except (Nat × Nat) (List Placed) :=
  let none_ := 0xFFFFFFFF
  if !s.flag Reg.GRIST_STATUS_READY then .error (8, none_) else
  match s.chainFrom 8 a with
  | none => .error (7, none_)
  | some ds =>
    if !(ds.all Desc.formOk && chainOk ds) then .error (7, none_)
    else if !ds.all Desc.fallbackOk then .error (10, none_)
    else if s.gateRole && ds.any fun d => d.cls != 4 then .error (11, none_)
    else match s.checkLinks t ds s.loads s.jobCharges none [] with
      | .error e => .error e
      | .ok ps =>
        let used4 := (s.jobs.filter fun j => j.2.cls == 4).length
        if (s.freeContexts.length < ps.length) || (ds.any (·.cls == 4) && decide (223 < used4 + ps.length)) then
          .error (2, none_)
        else if 896 < s.rd Reg.GRIST_RESOURCES_OPS_RESERVED + ds.foldl (fun a d => a + d.get 3 1) 0 then .error (3, none_)
        else .ok ps

/-- The job of a placed link (R81: its fallback source is copied now). -/
def State.makeJob (s : State) (core : Nat) (p : Placed) (serial : Nat) (prev next : Option Nat) : JobSt :=
  let g := p.desc.get
  { core := core, cls := p.desc.cls, ops := g 3 1, fallback := g 4 1, irq := bitOf (g 5 1) 0
    cutOnFallback := bitOf (g 5 1) 1, stage := g 6 1, release := p.desc.release, released := p.r.ceil.toNat
    deadline := p.desc.deadline, resultDst := g 40 8, resultBytes := g 88 4, fallbackBytes := g 92 4
    ckptA := g 56 8, ckptB := g 64 8, ckptBytes := g 96 4, completion := g 72 8, shiftStride := g 100 4
    shiftCount := g 104 2, shiftSteps := g 106 2, accP := g 108 4, accD := g 112 4, accG := g 116 4, tag := g 120 4
    parts := (List.zip p.desc.parts p.loads).map fun x =>
      { tile := x.2.tile, base := x.1.base, pages := x.1.pages, nops := x.1.nops, opMax := x.1.opMax
        work := x.1.work, linkBytes := x.1.linkBytes, opList := x.1.opList }
    tfb := p.tfb, cutoff := p.cutoff
    source := if g 4 1 == 0 then [] else Memory.getList s.mem (g 48 8) (g 92 4)
    prev := prev, next := next, serial := serial, tableGen := s.rd Reg.GRIST_STATUS_TABLE_GEN }

/-- CONTEXTS_USED and the parts resident on each tile brought up to date. -/
def State.showJobs (s : State) : State :=
  let js := s.jobs
  let s := (s.wr Reg.GRIST_RESOURCES_CONTEXTS_USED js.length).wr Reg.GRIST_RESOURCES_OPS_RESERVED
    (js.foldl (fun a j => a + j.2.ops) 0)
  (List.range 32).foldl (fun u n => u.wr Reg.TILE_STATE_PARTS
    (js.foldl (fun a j => a + (j.2.parts.filter fun p => p.tile == n).length) 0) n) s

/-- The links of an admitted submission take their contexts (R86, R192). -/
def State.admitJob (s : State) (core : Nat) (ps : List Placed) : State × List Nat :=
  let ctxs := s.freeContexts.take ps.length
  let base := s.fabric.grist.serial
  let named (a b : Nat) : Bool := s.jobs.any fun j => j.2.ckptA == a && j.2.ckptB == b
  let dead := ps.filterMap fun p =>
    if p.desc.fallback == 3 && !named (p.desc.get 56 8) (p.desc.get 64 8) then
      some (p.desc.get 56 8, p.desc.get 64 8) else none
  let s := s.setGrist fun g => { g with
    marks := g.marks.filter fun m => !dead.contains (m.a, m.b), serial := base + ps.length }
  let s := (List.range ps.length).foldl (fun (u : State) i =>
    match ps[i]?, ctxs[i]? with
    | some p, some c =>
      let prev := if i == 0 then none else ctxs[i - 1]?
      let j := s.makeJob core p (base + i) prev ctxs[i + 1]?
      (u.setGrist fun g => { g with jobs := Map.put g.jobs c (some j) }).count 0x101 (some j.cls)
    | _, _ => u) s
  (s.showJobs, ctxs)

/-- Planned completion of an admitted head, in µs (GRIST_VERDICT_EST). -/
def Table.planned (t : Table) (p : Placed) : Nat :=
  p.loads.foldl (fun a l =>
    max a ((((l.remaining + l.opMax : Nat) : Rat) / uq214 (t.factor l.tile)) / 1000).ceil.toNat) 0

/-- GRIST_ADMIT: a core's write of a descriptor's place starts a decision, unless one of that core is open (R95). -/
def execGristAdmit (core : Fin 4) (v : Word) (s : State) : Host.Outcome State Fault Refusal :=
  if s.flag Reg.GRIST_VERDICT_PENDING core then .next (s.raise Reg.GRIST_VERDICT_OVERRUN core) else
  let d : Decision :=
    { desc := v.toNat % 2 ^ 20 * 128, gen := s.rd Reg.GRIST_STATUS_TABLE_GEN, dip := s.dip, at_ := s.tb3 }
  .next ((s.raise Reg.GRIST_VERDICT_PENDING core).setGrist fun g => { g with open_ := Map.put g.open_ core (some d) })

/-- The table of the decision (R85): the table in force, or after a change while it was open the newest dip table.
A tile in breach counts with its dip factor from the breach on (R65). -/
def State.decisionTable (s : State) (d : Decision) : Table :=
  let t := if d.gen == s.rd Reg.GRIST_STATUS_TABLE_GEN && d.dip == s.dip then s.tableInForce
    else s.fabric.grist.dipT
  { t with factors := t.factors.map fun p => (p.1, if s.flag Reg.GAUGE_FLAGS_BREACH p.1 then s.dipOf p.1 else p.2) }

/-- The verdict registers of a core. -/
def State.postVerdict (s : State) (core : Nat) (admitted : Bool) (reason ctx est : Nat) : State :=
  let s := ((s.wr Reg.GRIST_VERDICT_PENDING 0 core).put Reg.GRIST_VERDICT_ADMITTED admitted core).wr
    Reg.GRIST_VERDICT_REASON reason core
  ((s.wr Reg.GRIST_VERDICT_CONTEXT ctx core).incWrap Reg.GRIST_VERDICT_SEQ core).wr Reg.GRIST_VERDICT_EST_EST
    (min est 0xFFFFFFFF) core

end Sys2Proof.Machine
end

