-- ==== Sys2Proof/Machine/Arith.lean ====
section
/-! DEFINITION. IEEE 754 arithmetic of the lanes (R100, R102) on values with infinities, NaN and signed zeros, in
binary64 or binary32, and the reductions of R103. -/

namespace Sys2Proof.Machine

/-- A binary format by its exponent and fraction bits. -/
structure Fmt where
  eb : Nat
  mb : Nat
  deriving DecidableEq, Repr

/-- binary64. -/
def fp64 : Fmt := ⟨11, 52⟩

/-- binary32. -/
def fp32 : Fmt := ⟨8, 23⟩

/-- A floating-point value. -/
inductive Fl
  | nan
  | inf (neg : Bool)
  | zero (neg : Bool)
  /-- A finite value other than zero. -/
  | fin (x : Rat)
  deriving DecidableEq, Repr

/-- The value is a NaN or an infinity (R101). -/
def Fl.bad : Fl → Bool
  | .nan | .inf _ => true
  | _ => false

/-- Sign bit. -/
def Fl.neg : Fl → Bool
  | .nan => false
  | .inf n | .zero n => n
  | .fin x => decide (x < 0)

/-- Exact number of a finite value; 0 otherwise. -/
def Fl.val : Fl → Rat
  | .fin x => x
  | _ => 0

/-- The value of a bit pattern. -/
def Fl.ofBits (f : Fmt) (n : Nat) : Fl :=
  let neg := n / 2 ^ (f.eb + f.mb) % 2 == 1
  if floatNaN f.eb f.mb n then .nan
  else if !floatFinite f.eb f.mb n then .inf neg
  else let x := floatValue f.eb f.mb n
    if x = 0 then .zero neg else .fin x

/-- An exact number rounded to the format (R100); `neg` is the sign where it is zero. -/
def Fl.round (f : Fmt) (x : Rat) (neg : Bool := false) : Fl :=
  if x = 0 then .zero neg else
  let n := floatEncode f.eb f.mb x
  if floatFinite f.eb f.mb n then
    let y := floatValue f.eb f.mb n
    if y = 0 then .zero (decide (x < 0)) else .fin y
  else .inf (decide (x < 0))

/-- Bit pattern of a value that the format holds. A NaN stands as the quiet NaN with no payload. -/
def Fl.toBits (f : Fmt) : Fl → Nat
  | .nan => (2 ^ f.eb - 1) * 2 ^ f.mb + 2 ^ (f.mb - 1)
  | .inf n => (2 ^ f.eb - 1) * 2 ^ f.mb + (if n then 2 ^ (f.eb + f.mb) else 0)
  | .zero n => if n then 2 ^ (f.eb + f.mb) else 0
  | .fin x => floatEncode f.eb f.mb x

/-- Conversion to a format. -/
def Fl.cast (f : Fmt) : Fl → Fl
  | .fin x => Fl.round f x
  | y => y

/-- Negation. -/
def Fl.flip : Fl → Fl
  | .nan => .nan
  | .inf n => .inf !n
  | .zero n => .zero !n
  | .fin x => .fin (-x)

/-- Magnitude. -/
def Fl.abs (x : Fl) : Fl := if x.neg then x.flip else x

/-- x · y + z, rounded once. -/
def Fl.fma (f : Fmt) (x y z : Fl) : Fl :=
  let n := x.neg != y.neg
  match x, y with
  | .nan, _ | _, .nan => .nan
  | .inf _, .zero _ | .zero _, .inf _ => .nan
  | .inf _, _ | _, .inf _ =>
    match z with
    | .nan => .nan
    | .inf m => if n == m then .inf n else .nan
    | _ => .inf n
  | _, _ =>
    let p := x.val * y.val
    match z with
    | .nan => .nan
    | .inf m => .inf m
    | .zero m => if p = 0 then .zero (n && m) else Fl.round f p
    | .fin w => if p = 0 then .fin w else Fl.round f (p + w)

/-- x · y. -/
def Fl.mul (f : Fmt) (x y : Fl) : Fl := Fl.fma f x y (.zero (x.neg != y.neg))

/-- x + y. -/
def Fl.add (f : Fmt) (x y : Fl) : Fl := Fl.fma f x (.fin 1) y

/-- x − y. -/
def Fl.sub (f : Fmt) (x y : Fl) : Fl := Fl.add f x y.flip

/-- x / y, correctly rounded. -/
def Fl.div (f : Fmt) (x y : Fl) : Fl :=
  let n := x.neg != y.neg
  match x, y with
  | .nan, _ | _, .nan => .nan
  | .inf _, .inf _ | .zero _, .zero _ => .nan
  | .inf _, _ => .inf n
  | _, .inf _ => .zero n
  | .zero _, _ => .zero n
  | _, .zero _ => .inf n
  | .fin a, .fin b => Fl.round f (a / b)

/-- A number that rounds to the format as the square root of x > 0 does: the root cut after `k` binary places, with
half a place more where it is not exact. -/
def sqrtNear (k : Nat) (x : Rat) : Rat :=
  let y := x * (4 : Rat) ^ k
  let n := y.floor.toNat
  let r := Nat.sqrt n
  ((if (r * r : Nat) = y then 2 * r else 2 * r + 1 : Nat) : Rat) / (2 : Rat) ^ (k + 1)

/-- √x, correctly rounded. -/
def Fl.sqrt (f : Fmt) : Fl → Fl
  | .nan => .nan
  | .inf n => if n then .nan else .inf false
  | .zero n => .zero n
  | .fin x => if x < 0 then .nan
    else Fl.round f (sqrtNear ((f.mb : Int) + 4 - min 0 (ratLog2 x)).toNat x)

/-- x < y; false where either is a NaN. -/
def Fl.lt (x y : Fl) : Bool :=
  match x, y with
  | .nan, _ | _, .nan => false
  | .inf n, .inf m => n && !m
  | .inf n, _ => n
  | _, .inf m => !m
  | _, _ => decide (x.val < y.val)

/-- The larger of two values; a NaN where either is one. -/
def Fl.max (x y : Fl) : Fl := if x == .nan || y == .nan then .nan else if x.lt y then y else x

/-- The smaller of two values; a NaN where either is one. -/
def Fl.min (x y : Fl) : Fl := if x == .nan || y == .nan then .nan else if y.lt x then y else x

/-- Positive zero. -/
def Fl.zero' : Fl := .zero false

/-- Pairwise sums of neighbours. -/
def pairUp (f : Fmt) : List Fl → List Fl
  | a :: b :: r => Fl.add f a b :: pairUp f r
  | r => r

/-- The inner product Σ x i · y i, i below `k`, as R103 forms it: 16 lanes, each taking its terms by fused
multiply-add in rising i, combined by the fixed pairwise tree. -/
def dot (f : Fmt) (k : Nat) (x y : Nat → Fl) : Fl :=
  let lane (j : Nat) : Fl :=
    (List.range ((k + 15 - j) / 16)).foldl (fun a i => Fl.fma f (x (16 * i + j)) (y (16 * i + j)) a) Fl.zero'
  let sums := (List.range 16).map lane
  ((pairUp f (pairUp f (pairUp f (pairUp f sums)))).head?).getD Fl.zero'

/-- A dense matrix: column-major, leading dimension the row count. -/
structure Mat where
  rows : Nat
  data : Array Fl

/-- Entry (i, j). -/
def Mat.at (m : Mat) (i j : Nat) : Fl := m.data.getD (i + j * m.rows) Fl.zero'

/-- Entry (i, j) set. -/
def Mat.set (m : Mat) (i j : Nat) (x : Fl) : Mat := { m with data := m.data.setIfInBounds (i + j * m.rows) x }

/-- A matrix by its entries. -/
def Mat.of (rows cols : Nat) (g : Nat → Nat → Fl) : Mat :=
  ⟨rows, ((List.range cols).flatMap fun j => (List.range rows).map fun i => g i j).toArray⟩

/-- The transpose, of a matrix with `cols` columns. -/
def Mat.tr (m : Mat) (cols : Nat) : Mat := Mat.of cols m.rows fun i j => m.at j i

/-- A · B, with `k` columns of A and `cols` columns of B. -/
def Mat.mul (f : Fmt) (a b : Mat) (k cols : Nat) : Mat :=
  Mat.of a.rows cols fun i j => dot f k (fun t => a.at i t) (fun t => b.at t j)

/-- C + A · B: the initial term is added last (R103). -/
def Mat.addMul (f : Fmt) (c a b : Mat) (k cols : Nat) : Mat :=
  Mat.of a.rows cols fun i j => Fl.add f (dot f k (fun t => a.at i t) (fun t => b.at t j)) (c.at i j)

/-- What a factorization holds: the lower triangle, D, pivots replaced, and whether a zero pivot ended it. -/
structure Factor where
  l : Mat
  d : Array Fl
  replaced : Nat
  failed : Bool

/-- A pivot under R111: the value used, whether it was replaced, and whether it ends the part. -/
def pivot (ldl : Bool) (delta thr p : Fl) : Fl × Bool × Bool :=
  let zero := delta.val == 0
  if ldl then
    if zero then (p, false, p.val == 0 && !p.bad)
    else if p.abs.lt thr then (if p.val < 0 then thr.flip else thr, true, false) else (p, false, false)
  else if zero then (p, false, !p.bad && decide (p.val ≤ 0) || p == .inf true)
  else if p.lt thr then (thr, true, false) else (p, false, false)

/-- Column `j` of a panel that starts at column `b`: the pivot, then the entries below it. -/
def Factor.column (f : Fmt) (ldl : Bool) (n : Nat) (delta thr : Fl) (b : Nat) (x : Factor) (j : Nat) : Factor :=
  if x.failed then x else
  let y (k : Nat) : Fl := if ldl then Fl.mul f (x.l.at j (b + k)) (x.d.getD (b + k) Fl.zero') else x.l.at j (b + k)
  let s (i : Nat) : Fl := Fl.sub f (x.l.at i j) (dot f (j - b) (fun k => x.l.at i (b + k)) y)
  let (p, rep, bad) := pivot ldl delta thr (s j)
  let top := if ldl then p else Fl.sqrt f p
  let l := (List.range (n - j - 1)).foldl (fun m t => m.set (j + 1 + t) j (Fl.div f (s (j + 1 + t)) top)) x.l
  { l := l.set j j (if ldl then .fin 1 else top), d := x.d.setIfInBounds j p,
    replaced := x.replaced + (if rep then 1 else 0), failed := bad }

/-- The panel of up to 64 columns that starts at `b`, and the update of the trailing matrix by it. -/
def Factor.panel (f : Fmt) (ldl : Bool) (n : Nat) (delta thr : Fl) (x : Factor) (b : Nat) : Factor :=
  let w := min 64 (n - b)
  let x := (List.range w).foldl (fun y t => y.column f ldl n delta thr b (b + t)) x
  let e := b + w
  let y (j k : Nat) : Fl :=
    if ldl then Fl.mul f (x.l.at j (b + k)) (x.d.getD (b + k) Fl.zero') else x.l.at j (b + k)
  let upd (m : Mat) (j : Nat) : Mat := (List.range (n - j)).foldl (fun m t =>
    m.set (j + t) j (Fl.sub f (m.at (j + t) j) (dot f w (fun k => m.at (j + t) (b + k)) (y j)))) m
  { x with l := (List.range (n - e)).foldl (fun m t => upd m (e + t)) x.l }

/-- A = LLᵀ or, with `ldl`, A = LDLᵀ: right-looking, in panels of 64 columns, with the pivot threshold of R111. -/
def factor (f : Fmt) (ldl : Bool) (n : Nat) (delta : Fl) (a : Mat) : Factor :=
  let m := (List.range n).foldl (fun m i => Fl.max m (a.at i i).abs) (.fin 1)
  let thr := Fl.mul f delta m
  (List.range ((n + 63) / 64)).foldl (fun x t => x.panel f ldl n delta thr (64 * t))
    { l := a, d := (List.replicate n Fl.zero').toArray, replaced := 0, failed := false }

/-- Solution of T X = B by substitution, T lower triangular at `t`, or its transpose with `trans`; `k` right-hand
sides. -/
def substitute (f : Fmt) (n k : Nat) (t : Mat) (trans unit : Bool) (b : Mat) : Mat :=
  let step (x : Mat) (c s : Nat) : Mat :=
    let i := if trans then n - 1 - s else s
    let r := if trans then dot f (n - 1 - i) (fun m => t.at (i + 1 + m) i) (fun m => x.at (i + 1 + m) c)
      else dot f i (fun m => t.at i m) (fun m => x.at m c)
    let v := Fl.sub f (x.at i c) r
    x.set i c (if unit then v else Fl.div f v (t.at i i))
  (List.range k).foldl (fun x c => (List.range n).foldl (fun x s => step x c s) x) b

end Sys2Proof.Machine
end

