-- ==== Sys2Proof/Machine/Mash.lean ====
section
/-! DEFINITION. Operation records of the Mash fabric: their fields, checks, cost model and effect
(03_solver_fabric.md, R100 to R114). An operation reads bytes of its part's region and answers the bytes it writes. -/

namespace Sys2Proof.Machine

/-- An operation record (table of R106). -/
structure OpRec where
  opcode : Nat
  prec : Nat
  flags : Nat
  scale : Int
  p0 : Nat
  p1 : Nat
  p2 : Nat
  p3 : Nat
  a : Nat
  b : Nat
  c : Nat
  d : Nat
  f0 : Nat
  f1 : Nat
  /-- Every reserved field is 0. -/
  clean : Bool
  deriving DecidableEq, Repr

/-- The record that 64 bytes spell. -/
def OpRec.ofBytes (r : List Byte) : OpRec where
  opcode := leAt r 0 1
  prec := leAt r 1 1
  flags := leAt r 2 2
  scale := signed 8 (leAt r 4 1)
  p0 := leAt r 8 4
  p1 := leAt r 12 4
  p2 := leAt r 16 4
  p3 := leAt r 20 4
  a := leAt r 24 8
  b := leAt r 32 8
  c := leAt r 40 8
  d := leAt r 48 8
  f0 := leAt r 56 4
  f1 := leAt r 60 4
  clean := leAt r 1 1 < 8 && leAt r 2 2 < 128 && leAt r 5 3 == 0

/-- SEG: the operation starts a segment. -/
def OpRec.seg (o : OpRec) : Bool := bitOf o.flags 0

/-- ASYNC: a DMA that runs behind later operations. -/
def OpRec.async (o : OpRec) : Bool := bitOf o.flags 1

/-- INPLACE: the output overwrites an input. -/
def OpRec.inplace (o : OpRec) : Bool := bitOf o.flags 2

/-- TRANS_A. -/
def OpRec.transA (o : OpRec) : Bool := bitOf o.flags 3

/-- TRANS_B. -/
def OpRec.transB (o : OpRec) : Bool := bitOf o.flags 4

/-- UNIT_DIAG. -/
def OpRec.unitDiag (o : OpRec) : Bool := bitOf o.flags 5

/-- BACKWARD. -/
def OpRec.backward (o : OpRec) : Bool := bitOf o.flags 6

/-- Compute format. -/
def OpRec.fmt (o : OpRec) : Fmt := if bitOf o.prec 2 then fp32 else fp64

/-- Bytes of a word in the storage format. -/
def OpRec.word (o : OpRec) : Nat := match o.prec % 4 with | 0 => 8 | 1 => 4 | 2 => 4 | _ => 2

/-- DMA_IN or DMA_OUT. -/
def OpRec.isDma (o : OpRec) : Bool := o.opcode == 1 || o.opcode == 2

/-- DMA, wait and checkpoint operations, which R101 leaves out. -/
def OpRec.isMove (o : OpRec) : Bool := o.isDma || o.opcode == 3 || o.opcode == 8

/-! ### Cost model (R108) -/

/-- FMA count F of the cost table. -/
def OpRec.fmaCount (o : OpRec) : Rat :=
  let n : Rat := o.p0
  let b : Rat := o.p1
  let c : Rat := o.p2
  match o.opcode with
  | 0x10 => n * b * c
  | 0x11 => n * (n + 1) * (n + 2) / 6
  | 0x12 => n * (n + 1) * (n + 2) / 6 + n * (n - 1) / 2
  | 0x13 => n * (b + 1) * (b + 2) / 2
  | 0x14 => n * (b + 1) * (b + 2) / 2 + n * b
  | 0x15 => ((2 / 3 : Rat) * b ^ 2 * (3 * n - b)).ceil
  | 0x16 => n * (n + 1) * b / 2
  | 0x17 => n * (n + 1) * b / 2 + n * b * (b + 1) / 2
  | 0x18 =>
    n * (2 * b ^ 3 + 4 * b ^ 2 * c + 2 * b * c ^ 2 + (c ^ 3 / 6).ceil + b ^ 2) +
      (if o.p3 == 1 then 2 * n * (b ^ 2 + b * c) else 0)
  | 0x19 => b
  | 0x20 => 12 * (n + b) + c
  | 0x21 => n ^ 2 + 2 * n * b + 2 * c * n
  | _ => 0

/-- L, a, b and η of the cost table. -/
def OpRec.costTerms (o : OpRec) : Nat × Nat × Nat × Rat :=
  let band : Rat := (7 / 10) * min 1 (((o.p1 : Rat) + 1) / 16)
  match o.opcode with
  | 0x10 => (o.p0, 600, 0, 9 / 10)
  | 0x11 => (o.p0, 600, 14, 8 / 10)
  | 0x12 => (o.p0, 600, 16, 78 / 100)
  | 0x13 => (o.p0, 600, 10, band)
  | 0x14 => (o.p0, 600, 12, band)
  | 0x15 => (o.p1, 800, 40, 75 / 100)
  | 0x16 => (o.p0, 600, 6, 8 / 10)
  | 0x17 => (o.p0 + o.p1, 800, 14, 82 / 100)
  | 0x18 => (o.p0, 1000, 900, 72 / 100)
  | 0x19 => (o.p0, 600, 4, 6 / 100)
  | 0x20 => (o.p0 + o.p1, 1500, 0, 5 / 10)
  | _ => (o.p0, 2000, 20, 6 / 10)

/-- Cost-model time T of an operation, in ns of nominal time (R108). -/
def OpRec.cost (o : OpRec) : Nat :=
  if o.isDma then ((400 : Rat) + (o.p0 : Rat) / 32).ceil.toNat
  else if o.opcode == 3 then 50
  else if o.opcode == 8 then ((600 : Rat) + (o.p0 : Rat) / 16).ceil.toNat
  else
    let (l, a, b, eta) := o.costTerms
    let rho : Rat := if bitOf o.prec 2 then 2 else 1
    ((a : Rat) + b * l + o.fmaCount / ((176 / 10) * eta * rho)).ceil.toNat

/-! ### Checks (R106, R107, R111, R112, R590) -/

/-- The parameters that the table does not name are 0, and the others lie in their ranges (R590). -/
def OpRec.paramsOk (o : OpRec) : Bool :=
  let none1 := o.p1 == 0 && o.p2 == 0 && o.p3 == 0
  let none2 := o.p2 == 0 && o.p3 == 0
  let bytes := none1 && 8 ≤ o.p0 && o.p0 % 8 == 0
  let dim := 1 ≤ o.p0 && o.p0 ≤ 1024
  let band := 1 ≤ o.p0 && 1 ≤ o.p1 && o.p1 ≤ 255
  match o.opcode with
  | 0x01 | 0x02 | 0x08 => bytes
  | 0x03 => o.p0 == 0 && none1
  | 0x10 => 1 ≤ o.p0 && 1 ≤ o.p1 && 1 ≤ o.p2 && o.p3 == 0
  | 0x11 | 0x12 => dim && none1
  | 0x13 | 0x14 => band && none2
  | 0x15 => 1 ≤ o.p1 && o.p1 ≤ o.p0 && none2
  | 0x16 | 0x17 => 1 ≤ o.p0 && 1 ≤ o.p1 && none2
  | 0x18 => dim && 1 ≤ o.p1 && o.p1 ≤ 64 && 1 ≤ o.p2 && o.p2 ≤ 64 && o.p3 ≤ 1
  | 0x19 => 1 ≤ o.p0 && none2
  | 0x20 => 1 ≤ o.p0 && 1 ≤ o.p1 && o.p3 == 0
  | 0x21 => 1 ≤ o.p0 && o.p1 ≤ o.p0 && o.p1 ≤ o.p2 && o.p3 == 0
  | _ => false

/-- The F32 parameters lie in their ranges: δ of R111 in [0, 1), τ of IPM_STEP in (0.9, 1). -/
def OpRec.floatOk (o : OpRec) : Bool :=
  let v := Fl.ofBits fp32 o.f0
  match o.opcode with
  | 0x11 | 0x12 | 0x13 | 0x14 | 0x18 => !v.bad && decide (0 ≤ v.val) && decide (v.val < 1)
  | 0x20 => !v.bad && decide (9 / 10 < v.val) && decide (v.val < 1)
  | _ => true

/-- Words of the stage data of RICCATI, and of what it writes to C. -/
def OpRec.riccatiWords (o : OpRec) : Nat × Nat :=
  let x := o.p1
  let u := o.p2
  (o.p0 * (2 * x * x + u * u + 2 * u * x + 2 * x + u) + x * x + x, o.p0 * (u * x + u + u * u + x * x))

/-- Bytes of the region that the operation reads, as (offset, length). -/
def OpRec.reads (o : OpRec) : List (Nat × Nat) :=
  let w := o.word
  let n := o.p0
  match o.opcode with
  | 0x02 | 0x08 => [(o.a, n)]
  | 0x10 => [(o.a, w * n * o.p2), (o.b, w * o.p2 * o.p1), (o.c, w * n * o.p1)]
  | 0x11 | 0x12 => [(o.a, w * n * n)]
  | 0x13 | 0x14 => [(o.a, w * n * (o.p1 + 1))]
  | 0x15 => [(o.a, w * n * o.p1)]
  | 0x16 => [(o.a, w * n * n), (o.b, w * n * o.p1)]
  | 0x17 => [(o.a, w * n * n), (o.b, w * n * o.p1), (o.d, w * o.p1 * o.p1)]
  | 0x18 => [(o.a, w * o.riccatiWords.1)] ++ (if o.p3 == 1 then [(o.d, w * o.p1)] else [])
  | 0x19 => [(o.a, 4 * (n + 1) + 4 * o.p1 + w * o.p1), (o.b, w * n)]
  | 0x20 => [(o.a, w * (n + 2 * o.p1)), (o.b, w * (n + 2 * o.p1)), (o.d, w * (o.p2 + n))]
  | _ => []

/-- Bytes of the region that the operation writes. -/
def OpRec.writes (o : OpRec) : List (Nat × Nat) :=
  let w := o.word
  let n := o.p0
  match o.opcode with
  | 0x01 => [(o.c, n)]
  | 0x10 => [(o.c, w * n * o.p1)]
  | 0x11 => [(o.c, w * n * n)]
  | 0x12 => [(o.c, w * n * n), (o.d, w * n)]
  | 0x13 => [(o.c, w * n * (o.p1 + 1))]
  | 0x14 => [(o.c, w * n * (o.p1 + 1)), (o.d, w * n)]
  | 0x15 => [(o.c, w * n * o.p1), (o.d, w * o.p1)]
  | 0x16 => [(o.c, w * n * o.p1)]
  | 0x17 => [(o.c, w * o.p1 * o.p1 + w * n * o.p1)]
  | 0x18 => [(o.c, w * o.riccatiWords.2)] ++
      (if o.p3 == 1 then [(o.d, w * (o.p1 + o.p0 * (o.p2 + o.p1)))] else [])
  | 0x19 => [(o.c, w * n)]
  | 0x20 => [(o.a, w * (n + 2 * o.p1)), (o.c, 24)]
  | 0x21 => [(o.c, 8)]
  | _ => []

/-- Two byte ranges overlap. -/
def overlaps (x y : Nat × Nat) : Bool := x.1 < y.1 + y.2 && y.1 < x.1 + x.2

/-- Reads of a part's region: bytes at an offset. -/
abbrev Region := Nat → Nat → List Byte

/-- Rows of a sparse matrix at OPA of TRSV_SPARSE: row pointers, columns and the values' offset. -/
def OpRec.sparse (o : OpRec) (m : Region) : List Nat × List Nat × Nat :=
  let n := o.p0
  let ptr := m o.a (4 * (n + 1))
  let col := m (o.a + 4 * (n + 1)) (4 * o.p1)
  ((List.range (n + 1)).map fun i => leAt ptr (4 * i) 4, (List.range o.p1).map fun i => leAt col (4 * i) 4,
    o.a + 4 * (n + 1) + 4 * o.p1)

/-- The sparse matrix is lower triangular with its diagonal last in each row, unless UNIT_DIAG is set. -/
def OpRec.sparseOk (o : OpRec) (m : Region) : Bool :=
  let (ptr, col, _) := o.sparse m
  ptr.getD 0 0 == 0 && ptr.getD o.p0 0 == o.p1 &&
  (List.range o.p0).all fun i =>
    let lo := ptr.getD i 0
    let hi := ptr.getD (i + 1) 0
    decide (lo ≤ hi) && decide (hi ≤ o.p1) &&
      ((List.range (hi - lo)).all fun t => decide (col.getD (lo + t) 0 ≤ i)) &&
      (o.unitDiag || (decide (lo < hi) && col.getD (hi - 1) 0 == i))

/-- Checks of R107 on the record alone and on the part's region of `size` bytes. -/
def OpRec.recordOk (o : OpRec) (size : Nat) (m : Region) : Bool :=
  o.clean && decide (-64 ≤ o.scale) && decide (o.scale ≤ 63) && o.paramsOk && o.floatOk &&
  ((o.reads ++ o.writes).all fun r => decide (r.1 + r.2 ≤ size)) &&
  (!(o.isDma || o.opcode == 8) || (o.a % 8 == 0 && o.c % 8 == 0)) &&
  (o.opcode != 0x19 || o.sparseOk m)

/-! ### Effect -/

/-- What an operation leaves: bytes written by region offset, replaced pivots and saturations, whether R101 or a
zero pivot ends the part, and the residuals that a step records. -/
structure OpEffect where
  out : List (Nat × List Byte) := []
  numeric : Nat := 0
  bad : Bool := false
  resid : Option (Nat × Nat × Nat) := none

/-- A stored word as a value in the compute format (R102). -/
def OpRec.load (o : OpRec) (b : List Byte) : Fl :=
  let n := leNat b
  match o.prec % 4 with
  | 0 => (Fl.ofBits fp64 n).cast o.fmt
  | 1 => (Fl.ofBits fp32 n).cast o.fmt
  | 2 => Fl.round o.fmt ((signed 32 n : Rat) * (2 : Rat) ^ o.scale)
  | _ => Fl.round o.fmt ((signed 16 n : Rat) * (2 : Rat) ^ o.scale)

/-- A fixed-point word: rounded to nearest even and saturated (R102); the second part counts a saturation. -/
def OpRec.fixed (o : OpRec) (w : Nat) (x : Fl) : Nat × Nat :=
  let z := roundEven (x.val * (2 : Rat) ^ (-o.scale))
  let top : Int := 2 ^ (w - 1) - 1
  if top < z then (wrapInt w top, 1) else if z < -top - 1 then (wrapInt w (-top - 1), 1) else (wrapInt w z, 0)

/-- A value as a stored word: its bytes, a saturation, and whether it is a NaN or an infinity (R101). -/
def OpRec.store (o : OpRec) (x : Fl) : List Byte × Nat × Bool :=
  match o.prec % 4 with
  | 0 => (leBytes 8 ((x.cast fp64).toBits fp64), 0, (x.cast fp64).bad)
  | 1 => (leBytes 4 ((x.cast fp32).toBits fp32), 0, (x.cast fp32).bad)
  | 2 => (leBytes 4 (o.fixed 32 x).1, (o.fixed 32 x).2, x.bad)
  | _ => (leBytes 2 (o.fixed 16 x).1, (o.fixed 16 x).2, x.bad)

/-- `n` words from a region offset. -/
def OpRec.vec (o : OpRec) (m : Region) (off n : Nat) : Array Fl :=
  let b := m off (n * o.word)
  ((List.range n).map fun i => o.load ((b.drop (i * o.word)).take o.word)).toArray

/-- A dense matrix from a region offset. -/
def OpRec.mat (o : OpRec) (m : Region) (off rows cols : Nat) : Mat := ⟨rows, o.vec m off (rows * cols)⟩

/-- Words stored from an offset on. -/
def OpRec.putVec (o : OpRec) (e : OpEffect) (off : Nat) (x : List Fl) : OpEffect :=
  let ws := x.map o.store
  { e with out := e.out ++ [(off, ws.flatMap (·.1))]
           numeric := e.numeric + (ws.map (·.2.1)).foldl (· + ·) 0
           bad := e.bad || ws.any (·.2.2) }

/-- A dense matrix stored. -/
def OpRec.putMat (o : OpRec) (e : OpEffect) (off : Nat) (x : Mat) (cols : Nat) : OpEffect :=
  o.putVec e off (x.data.toList.take (x.rows * cols))

/-- The lower triangle of an n by n matrix stored column by column; what lies above it stays. -/
def OpRec.putLower (o : OpRec) (e : OpEffect) (off n : Nat) (x : Mat) : OpEffect :=
  (List.range n).foldl (fun e j =>
    o.putVec e (off + o.word * (j * n + j)) ((List.range (n - j)).map fun t => x.at (j + t) j)) e

/-- The transpose where a flag asks for it: op(A) of GEMM, stored with `r` by `c` entries of op(A). -/
def OpRec.opMat (o : OpRec) (m : Region) (off r c : Nat) (trans : Bool) : Mat :=
  if trans then (o.mat m off c r).tr r else o.mat m off r c

/-- GEMM: C ← F0 · op(A) · op(B) + F1 · C, the term in C added last. -/
def OpRec.gemm (o : OpRec) (m : Region) : OpEffect :=
  let f := o.fmt
  let al := (Fl.ofBits fp32 o.f0).cast f
  let be := (Fl.ofBits fp32 o.f1).cast f
  let a := o.opMat m o.a o.p0 o.p2 o.transA
  let b := o.opMat m o.b o.p2 o.p1 o.transB
  let c := o.mat m o.c o.p0 o.p1
  let r := Mat.of o.p0 o.p1 fun i j =>
    Fl.add f (Fl.mul f al (dot f o.p2 (fun t => a.at i t) (fun t => b.at t j))) (Fl.mul f be (c.at i j))
  o.putMat {} o.c r o.p1

/-- A matrix in lower band storage as a dense one, zero outside its band. -/
def OpRec.bandMat (o : OpRec) (m : Region) : Mat :=
  let s := o.mat m o.a (o.p1 + 1) o.p0
  Mat.of o.p0 o.p0 fun i j => if j ≤ i && i - j ≤ o.p1 then s.at (i - j) j else Fl.zero'

/-- CHOL, LDLT and their band forms. -/
def OpRec.factorize (o : OpRec) (m : Region) : OpEffect :=
  let n := o.p0
  let band := o.opcode == 0x13 || o.opcode == 0x14
  let ldl := o.opcode == 0x12 || o.opcode == 0x14
  let a := if band then o.bandMat m else o.mat m o.a n n
  let x := factor o.fmt ldl n ((Fl.ofBits fp32 o.f0).cast o.fmt) a
  let e : OpEffect := { numeric := x.replaced, bad := x.failed }
  let e := if band then
      (List.range n).foldl (fun e j =>
        let k := min (o.p1 + 1) (n - j)
        o.putVec e (o.c + o.word * (j * (o.p1 + 1))) ((List.range k).map fun t => x.l.at (j + t) j)) e
    else o.putLower e o.c n x.l
  if ldl then o.putVec e o.d x.d.toList else e

/-- One Householder column of QR: the reflector below the diagonal, R's entry on it, and τ. -/
def qrColumn (f : Fmt) (rows j : Nat) (a : Mat) : Mat × Fl :=
  let norm := Fl.sqrt f (dot f (rows - j) (fun k => a.at (j + k) j) (fun k => a.at (j + k) j))
  let head := a.at j j
  if norm == Fl.zero' then (a, Fl.zero') else
  let beta := if head.neg then norm else norm.flip
  let tau := Fl.div f (Fl.sub f beta head) beta
  let scale := Fl.sub f head beta
  let a := (List.range (rows - j - 1)).foldl (fun m t =>
    m.set (j + 1 + t) j (Fl.div f (m.at (j + 1 + t) j) scale)) a
  (a.set j j beta, tau)

/-- Entry i of the reflector that stands in column j. -/
def reflector (a : Mat) (j i : Nat) : Fl := if i == j then .fin 1 else if i < j then Fl.zero' else a.at i j

/-- QR: Householder reflectors column by column within panels of 64, each panel's reflectors aggregated for the
trailing update. -/
def OpRec.qr (o : OpRec) (m : Region) : OpEffect :=
  let f := o.fmt
  let rows := o.p0
  let cols := o.p1
  let apply (a : Mat) (tau : Fl) (j c : Nat) : Mat :=
    let w := Fl.mul f tau (dot f (rows - j) (fun k => reflector a j (j + k)) (fun k => a.at (j + k) c))
    (List.range (rows - j)).foldl (fun a k =>
      a.set (j + k) c (Fl.sub f (a.at (j + k) c) (Fl.mul f (reflector a j (j + k)) w))) a
  let panel (st : Mat × List Fl) (b : Nat) : Mat × List Fl :=
    let w := min 64 (cols - b)
    let st := (List.range w).foldl (fun (st : Mat × List Fl) t =>
      let j := b + t
      let (a, tau) := qrColumn f rows j st.1
      ((List.range (w - t - 1)).foldl (fun a u => apply a tau j (j + 1 + u)) a, st.2 ++ [tau])) st
    let a := st.1
    let tau (t : Nat) : Fl := st.2.getD (b + t) Fl.zero'
    let vv (i j : Nat) : Fl :=
      dot f (rows - b) (fun k => reflector a (b + i) (b + k)) (fun k => reflector a (b + j) (b + k))
    let tm := (List.range w).foldl (fun (tm : Mat) j =>
      let tm := (List.range j).foldl (fun (u : Mat) i =>
        u.set i j (Fl.mul f (tau j).flip (dot f (j - i) (fun k => tm.at i (i + k)) (fun k => vv (i + k) j)))) tm
      tm.set j j (tau j)) (Mat.of w w fun _ _ => Fl.zero')
    let a := (List.range (cols - b - w)).foldl (fun a u =>
      let c := b + w + u
      let y (t : Nat) : Fl := dot f (rows - b) (fun k => reflector a (b + t) (b + k)) (fun k => a.at (b + k) c)
      let ys := ((List.range w).map y).toArray
      let zs := ((List.range w).map fun t => dot f (t + 1) (fun k => tm.at k t) (fun k => ys.getD k Fl.zero')).toArray
      (List.range (rows - b)).foldl (fun x k =>
        x.set (b + k) c (Fl.sub f (a.at (b + k) c)
          (dot f w (fun t => reflector a (b + t) (b + k)) (fun t => zs.getD t Fl.zero')))) a) a
    (a, st.2)
  let (a, taus) := (List.range ((cols + 63) / 64)).foldl (fun st t => panel st (64 * t)) (o.mat m o.a rows cols, [])
  o.putVec (o.putMat {} o.c a cols) o.d taus

/-- TRSM: T X = B, T at OPA lower triangular, or its transpose with TRANS_A. -/
def OpRec.trsm (o : OpRec) (m : Region) : OpEffect :=
  let x := substitute o.fmt o.p0 o.p1 (o.mat m o.a o.p0 o.p0) o.transA o.unitDiag (o.mat m o.b o.p0 o.p1)
  o.putMat {} o.c x o.p1

/-- SCHUR: W = L⁻¹ B by forward substitution, C = D − Wᵀ W; W stands in the region after C. -/
def OpRec.schur (o : OpRec) (m : Region) : OpEffect :=
  let f := o.fmt
  let n := o.p0
  let k := o.p1
  let w := substitute f n k (o.mat m o.a n n) false false (o.mat m o.b n k)
  let d := o.mat m o.d k k
  let c := Mat.of k k fun i j => Fl.sub f (d.at i j) (dot f n (fun t => w.at t i) (fun t => w.at t j))
  o.putMat (o.putMat {} o.c c k) (o.c + o.word * k * k) w k

/-- Stage data of RICCATI and what its backward pass holds. -/
structure RiccatiState where
  p : Mat
  pv : Mat
  replaced : Nat := 0
  failed : Bool := false
  /-- K, k, L and P by stage, lowest stage first. -/
  gains : List (Mat × Mat × Mat × Mat) := []

/-- One stage of the backward pass of RICCATI, with the matrices of the stage. -/
def riccatiStage (f : Fmt) (nx nu : Nat) (delta : Fl) (st : RiccatiState) (q r s a b qv rv cv : Mat) :
    RiccatiState :=
  let bp := Mat.mul f (b.tr nu) st.p nx nx
  let ap := Mat.mul f (a.tr nx) st.p nx nx
  let h := Mat.addMul f r bp b nx nu
  let g := Mat.addMul f s bp a nx nx
  let y := Mat.addMul f st.pv st.p cv nx 1
  let gv := Mat.addMul f rv (b.tr nu) y nx 1
  let x := factor f false nu delta h
  let solve (m : Mat) (cols : Nat) : Mat :=
    let z := substitute f nu cols x.l true false (substitute f nu cols x.l false false m)
    ⟨z.rows, z.data.map Fl.flip⟩
  let kk := solve g nx
  let kv := solve gv 1
  let p1 := Mat.addMul f (Mat.addMul f q ap a nx nx) (g.tr nx) kk nu nx
  let p := Mat.of nx nx fun i j => Fl.mul f (.fin (1 / 2)) (Fl.add f (p1.at i j) (p1.at j i))
  let pv := Mat.addMul f (Mat.addMul f qv (a.tr nx) y nx 1) (g.tr nx) kv nu 1
  { p := p, pv := pv, replaced := st.replaced + x.replaced, failed := st.failed || x.failed,
    gains := (kk, kv, x.l, p) :: st.gains }

/-- RICCATI: the block Riccati recursion, and the forward pass where P3 is 1. -/
def OpRec.riccati (o : OpRec) (m : Region) : OpEffect :=
  let f := o.fmt
  let nx := o.p1
  let nu := o.p2
  let w := o.word
  let len := 2 * nx * nx + nu * nu + 2 * nu * nx + 2 * nx + nu
  let base (k : Nat) : Nat := o.a + w * (k * len)
  let sub (k off r c : Nat) : Mat := o.mat m (base k + w * off) r c
  let aOf (k : Nat) : Mat := sub k (nx * nx + nu * nu + nu * nx) nx nx
  let bOf (k : Nat) : Mat := sub k (2 * nx * nx + nu * nu + nu * nx) nx nu
  let vecs := 2 * nx * nx + nu * nu + 2 * nu * nx
  let cOf (k : Nat) : Mat := sub k (vecs + nx + nu) nx 1
  let delta := (Fl.ofBits fp32 o.f0).cast f
  let start : RiccatiState := { p := sub o.p0 0 nx nx, pv := sub o.p0 (nx * nx) nx 1 }
  let st := (List.range o.p0).foldl (fun st t =>
    let k := o.p0 - 1 - t
    riccatiStage f nx nu delta st (sub k 0 nx nx) (sub k (nx * nx) nu nu) (sub k (nx * nx + nu * nu) nu nx) (aOf k)
      (bOf k) (sub k vecs nx 1) (sub k (vecs + nx) nu 1) (cOf k)) start
  let glen := nu * nx + nu + nu * nu + nx * nx
  let e : OpEffect := { numeric := st.replaced, bad := st.failed }
  let e := (List.zip (List.range o.p0) st.gains).foldl (fun e x =>
    let off := o.c + w * (x.1 * glen)
    let (kk, kv, l, p) := x.2
    let e := o.putVec (o.putMat e off kk nx) (off + w * (nu * nx)) kv.data.toList
    o.putMat (o.putLower e (off + w * (nu * nx + nu)) nu l) (off + w * (nu * nx + nu + nu * nu)) p nx) e
  if o.p3 != 1 then e else
  let traj := (List.zip (List.range o.p0) st.gains).foldl (fun (t : Mat × List Fl) x =>
    let (kk, kv, _, _) := x.2
    let u := Mat.addMul f kv kk t.1 nx 1
    let n := Mat.of nx 1 fun i _ =>
      Fl.add f (Fl.add f (dot f nx (fun k => (aOf x.1).at i k) (fun k => t.1.at k 0))
        (dot f nu (fun k => (bOf x.1).at i k) (fun k => u.at k 0))) ((cOf x.1).at i 0)
    (n, t.2 ++ u.data.toList ++ n.data.toList)) (o.mat m o.d nx 1, [])
  o.putVec e (o.d + w * nx) traj.2

/-- TRSV_SPARSE: L x = y, or Lᵀ x = y with BACKWARD. -/
def OpRec.trsv (o : OpRec) (m : Region) : OpEffect :=
  let f := o.fmt
  let n := o.p0
  let (ptr, col, off) := o.sparse m
  let vals := o.vec m off o.p1
  let y := o.vec m o.b n
  let row (i : Nat) : List (Nat × Fl) :=
    ((List.range (ptr.getD (i + 1) 0 - ptr.getD i 0)).map fun t =>
      (col.getD (ptr.getD i 0 + t) 0, vals.getD (ptr.getD i 0 + t) Fl.zero'))
  let diag (i : Nat) : Fl := match (row i).getLast? with | some e => e.2 | none => Fl.zero'
  let rest (i : Nat) : List (Nat × Fl) := (row i).filter fun e => e.1 != i
  let fwd (x : Array Fl) (i : Nat) : Array Fl :=
    let es := (rest i).toArray
    let r := dot f es.size (fun k => (es.getD k (0, Fl.zero')).2)
      (fun k => x.getD (es.getD k (0, Fl.zero')).1 Fl.zero')
    let v := Fl.sub f (x.getD i Fl.zero') r
    x.setIfInBounds i (if o.unitDiag then v else Fl.div f v (diag i))
  let bwd (x : Array Fl) (i : Nat) : Array Fl :=
    let v := x.getD i Fl.zero'
    let v := if o.unitDiag then v else Fl.div f v (diag i)
    (rest i).foldl (fun x e => x.setIfInBounds e.1 (Fl.fma f e.2.flip v (x.getD e.1 Fl.zero')))
      (x.setIfInBounds i v)
  let x := if o.backward then (List.range n).foldl (fun x s => bwd x (n - 1 - s)) y
    else (List.range n).foldl fwd y
  o.putVec {} o.c x.toList

/-- Largest magnitude of a list, 0 for none. -/
def normInf (x : List Fl) : Fl := x.foldl (fun m v => Fl.max m v.abs) Fl.zero'

/-- Step length of an interior-point step over values and their directions. -/
def stepLength (f : Fmt) (tau : Fl) (v d : List Fl) : Fl :=
  (List.zip v d).foldl (fun (a : Fl) x =>
    if x.2.lt Fl.zero' then Fl.min a (Fl.mul f tau (Fl.div f x.1.flip x.2)) else a) (.fin 1)

/-- IPM_STEP: step lengths, update and residuals. -/
def OpRec.ipmStep (o : OpRec) (m : Region) : OpEffect :=
  let f := o.fmt
  let n := o.p0
  let k := o.p1
  let tau := (Fl.ofBits fp32 o.f0).cast f
  let v := (o.vec m o.a (n + 2 * k)).toList
  let d := (o.vec m o.b (n + 2 * k)).toList
  let ap := stepLength f tau ((v.drop n).take k) ((d.drop n).take k)
  let ad := stepLength f tau (v.drop (n + k)) (d.drop (n + k))
  let move (a : Fl) (x y : List Fl) : List Fl := (List.zip x y).map fun e => Fl.fma f a e.2 e.1
  let nv := move ap (v.take (n + k)) (d.take (n + k)) ++ move ad (v.drop (n + k)) (d.drop (n + k))
  let arr := nv.toArray
  let s (i : Nat) : Fl := arr.getD (n + i) Fl.zero'
  let z (i : Nat) : Fl := arr.getD (n + k + i) Fl.zero'
  let mu := Fl.div f (dot f k s z) (Fl.round f k)
  let r := (o.vec m o.d (o.p2 + n)).toList
  let rp := normInf (r.take o.p2)
  let rd := normInf (r.drop o.p2)
  let e := o.putVec {} o.a nv
  let out := [ap, ad, mu].flatMap fun x => leBytes 8 ((x.cast fp64).toBits fp64)
  let b32 (x : Fl) : Nat := (x.cast fp32).toBits fp32
  { e with out := e.out ++ [(o.c, out)], bad := e.bad || ap.bad || ad.bad || mu.bad
           resid := some (b32 rp, b32 rd, b32 mu) }

/-- AS_STEP. The spec does not give the layout of its operands: the change made, the constraint and the two
residuals are free values (numbered from `fresh`), and GAP is 0. -/
def OpRec.asStep (o : OpRec) (fresh : Nat) : OpEffect :=
  let change := Config.freeNat fresh % 3
  let cons := if o.p2 == 0 then 0 else Config.freeNat (fresh + 1) % o.p2
  { out := [(o.c, leBytes 4 change ++ leBytes 4 cons)]
    resid := some (Config.freeNat (fresh + 2) % 2 ^ 31, Config.freeNat (fresh + 3) % 2 ^ 31, 0) }

/-- The effect of a compute operation on its part's region. -/
def OpRec.run (o : OpRec) (m : Region) (fresh : Nat) : OpEffect :=
  match o.opcode with
  | 0x10 => o.gemm m
  | 0x11 | 0x12 | 0x13 | 0x14 => o.factorize m
  | 0x15 => o.qr m
  | 0x16 => o.trsm m
  | 0x17 => o.schur m
  | 0x18 => o.riccati m
  | 0x19 => o.trsv m
  | 0x20 => o.ipmStep m
  | 0x21 => o.asStep fresh
  | _ => {}

end Sys2Proof.Machine
end

