-- ==== Sys2Proof/Machine/Fabric.lean ====
section
/-! DEFINITION. The tiles (03_solver_fabric.md): the sequencer, what completes, errors and retries, relocation and
retirement, checkpoints, fallbacks and completion records, drain and self-test. -/

namespace Sys2Proof.Machine

/-- Hub address of byte 0 of a tile's SRAM. -/
def tileBase (n : Nat) : Nat := 0x20000000 + n * 0x400000

/-- Hub address of the start of a part's region. -/
def PartSt.region (p : PartSt) : Nat := tileBase p.tile + p.base * 65536

/-- Reads of a part's region. -/
def State.regionOf (s : State) (p : PartSt) : Region := fun off n => Memory.getList s.mem (p.region + off) n


/-- Operation i of a part, as the sequencer reads it from the Grist store. -/
def State.opAt (s : State) (p : PartSt) (i : Nat) : OpRec :=
  OpRec.ofBytes (Memory.getList s.mem (p.opList + 64 * i) 64)

/-- STATE of a tile (register table of TILE_STATE). -/
def State.tileCode (s : State) (n : Nat) : Nat :=
  if !s.tilePowered n then 0 else match (s.tile n).mode with
  | .bist => 5
  | .offline => 4
  | .draining => 3
  | .normal => if (s.tile n).cur.isSome || !(s.tile n).dmas.isEmpty then 2 else 1

/-- TILE_STATE and TILE_CUR_OP brought up to date. -/
def State.showTile (s : State) (n : Nat) : State :=
  let t := s.tile n
  let s := (s.wr Reg.TILE_STATE_STATE (s.tileCode n) n).put Reg.TILE_STATE_DMA_BUSY
    (!t.dmas.isEmpty || t.cur.any fun r =>
      match s.job r.ctx with
      | some j => (j.parts[r.part]?).any fun p => (s.opAt p r.op).isDma
      | none => false) n
  let r := t.cur.getD ⟨0, 0, 0⟩
  let s := (s.wr Reg.TILE_STATE_CONTEXT r.ctx n).wr Reg.TILE_CUR_OP_CONTEXT r.ctx n
  (s.wr Reg.TILE_CUR_OP_PART r.part n).wr Reg.TILE_CUR_OP_OP r.op n

/-- A part changed. -/
def State.setPart (s : State) (c i : Nat) (f : PartSt → PartSt) : State :=
  s.setJob c fun j => { j with parts := j.parts.modify i f }

/-- No part of the job runs an operation after the ones that run (R592, R93, R117). -/
def JobSt.stopAll (j : JobSt) : JobSt := { j with parts := j.parts.map fun p => { p with stopped := true } }

/-- The cause of a job and where it came about, kept from the part that ended first. -/
def JobSt.blame (j : JobSt) (cause part op : Nat) : JobSt :=
  if j.cause != 0 then j else { j with cause, failAt := part * 2 ^ 24 + op }

/-- The copy engine starts the job's fallback; its parts run nothing further. -/
def State.startFallback (s : State) (c cause part op : Nat) : State :=
  s.setJob c fun j =>
    if j.phase == .waiting || j.phase == .running then
      { (j.blame cause part op).stopAll with phase := .fallback } else j

/-! ### Starting operations (R107, R110, R113, R591) -/

/-- DMAs of one part that run. -/
def TileSt.dmasOf (t : TileSt) (c i : Nat) : List OpRun := t.dmas.filter fun r => r.ctx == c && r.part == i

/-- The DMA's hub addresses are allowed (R49, R112). -/
def State.dmaOk (s : State) (o : OpRec) : Bool :=
  if o.opcode == 1 then
    inGrist o.a o.p0 || (decide (tileBase 0 ≤ o.a) && decide (o.a < tileBase 32) &&
      (let off := (o.a - tileBase 0) % 0x400000
       decide (off + o.p0 ≤ 0x300000)) && s.tilePowered ((o.a - tileBase 0) / 0x400000))
  else if o.opcode == 2 then inGrist o.c o.p0 else true

/-- Every check of R107 on operation `o` of part i of a job. -/
def State.opOk (s : State) (j : JobSt) (i : Nat) (p : PartSt) (o : OpRec) : Bool :=
  o.recordOk (p.pages * 65536) (s.regionOf p) && s.dmaOk o &&
  (o.opcode != 8 || (i == 0 && j.fallback == 3 && decide (o.p0 ≤ j.ckptBytes)))

/-- The operation waits for a DMA of its part (R113). -/
def State.mustWait (s : State) (j : JobSt) (c i : Nat) (p : PartSt) (o : OpRec) : Bool :=
  let t := s.tile p.tile
  let ds := t.dmasOf c i
  let touched := ds.flatMap fun r => (s.opAt p r.op).reads ++ (s.opAt p r.op).writes
  (o.opcode == 3 && !ds.isEmpty) || decide (j.ops < ds.length + 1) || (o.isDma && decide (4 ≤ t.dmas.length)) ||
  (!o.isDma && (o.reads ++ o.writes).any fun r => touched.any fun d => overlaps r d)

/-- Parts on tile n that may start an operation, earliest cut-off first, ties to the part admitted first (R591). -/
def State.readyParts (s : State) (n : Nat) : List (Nat × Nat) :=
  let xs := s.jobs.flatMap fun j =>
    if j.2.phase == .running then
      (List.zip (List.range j.2.parts.length) j.2.parts).filterMap fun p =>
        if p.2.tile == n && !p.2.finished && !p.2.stopped && decide (p.2.next < p.2.nops) then
          some (j.2.cutoff, j.2.serial, p.1, j.1) else none
    else []
  let le (a b : Rat × Nat × Nat × Nat) : Bool :=
    decide (a.1 < b.1) || (a.1 == b.1 && (decide (a.2.1 < b.2.1) || (a.2.1 == b.2.1 && decide (a.2.2.1 ≤ b.2.2.1))))
  (xs.mergeSort le).map fun x => (x.2.2.2, x.2.2.1)

/-- What trying to start a part's next operation leads to. -/
inductive Started
  | waits
  | ended (s : State)
  | runs (s : State)
  | behind (s : State)

/-- The part ends with a cause that starts the fallback at once (R592). -/
def State.endPart (s : State) (n c i op cause : Nat) : State :=
  let s := if cause == 3 then s.raise Reg.TILE_ERR_OP_INVALID n else if cause == 4 then s.raise Reg.TILE_ERR_NUMERIC n
    else s
  s.startFallback c cause i op

/-- The next operation of part i of context c is checked and started on tile n. -/
def State.startOp (s : State) (n c i : Nat) : Started :=
  match s.job c with
  | none => .waits
  | some j => match j.parts[i]? with
    | none => .waits
    | some p =>
      let k := p.next
      let o := s.opAt p k
      if s.mustWait j c i p o then .waits
      else if !s.opOk j i p o then .ended (s.endPart n c i k 3)
      else
        let t := o.cost
        let fresh := decide (p.counted ≤ k)
        if fresh && (decide (p.opMax < t) || decide (p.work < p.sum + t)) then .ended (s.endPart n c i k 2)
        else
          let s := s.setPart c i fun p =>
            { p with counted := if fresh then k + 1 else p.counted, sum := if fresh then p.sum + t else p.sum
                     seg := if o.seg || k == 0 then k else p.seg
                     next := if o.isDma && o.async then k + 1 else p.next }
          if o.isDma && o.async then .behind (s.setTile n fun x => { x with dmas := x.dmas ++ [⟨c, i, k⟩] })
          else .runs (s.setTile n fun x => { x with cur := some ⟨c, i, k⟩ })

/-- The first of the ready parts that does not wait. -/
def State.tryParts (s : State) (n : Nat) : List (Nat × Nat) → Started
  | [] => .waits
  | x :: xs => match s.startOp n x.1 x.2 with
    | .waits => s.tryParts n xs
    | r => r

/-- The sequencer of tile n starts operations until one runs that it waits for, or none can start. -/
def State.sequenceTile (s : State) (n : Nat) : Nat → State
  | 0 => s
  | f + 1 =>
    if (s.tile n).cur.isSome || !s.tilePowered n || (s.tile n).mode == .offline || (s.tile n).mode == .bist then s else
    match s.tryParts n (s.readyParts n) with
    | .waits => s
    | .ended t => t.sequenceTile n f
    | .behind t => t.sequenceTile n f
    | .runs t => t

/-- A drained tile becomes OFFLINE when no part remains on it (R122). -/
def State.drained (s : State) (n : Nat) : State :=
  let t := s.tile n
  let resident := s.jobs.any fun j => j.2.parts.any fun p => p.tile == n
  if t.mode == .draining && !resident && t.cur.isNone && t.dmas.isEmpty then
    if t.thenBist then
      let s := (s.setTile n fun x => { x with mode := .bist, thenBist := false }).unitTesting n
      (s.wr Reg.TILE_BIST_DONE 0 n).wr Reg.TILE_BIST_PASS 0 n
    else s.setTile n fun x => { x with mode := .offline }
  else s

/-- The sequencer of tile n goes on. -/
def State.runTile (s : State) (n : Nat) : State := ((s.sequenceTile n 4096).drained n).showTile n

/-- The sequencers of all tiles go on. -/
def State.runTiles (s : State) : State := (List.range 32).foldl (fun t n => t.runTile n) s

/-- A job starts: its parts may run (R117). -/
def State.startJob (s : State) (c : Nat) : State :=
  match s.job c with
  | some j =>
    if j.phase == .waiting && j.prev.isNone && decide (j.release ≤ s.tb3) then
      let tiles := (List.range 32).filter fun n => j.parts.any fun p => p.tile == n
      tiles.foldl (fun t n => t.runTile n) (s.setJob c fun j => { j with phase := .running })
    else s
  | none => s

/-- LINK_START: the job in a context starts once RELEASE has come and the link before it has been delivered. -/
def execLinkStart (ctx : BitVec 8) (s : State) : Host.Outcome State Fault Refusal := .next (s.startJob ctx.toNat)

/-- VERDICT_POST: the decision of a core completes (R85, R86, R87, R589). -/
def execVerdictPost (core : Fin 4) (s : State) : Host.Outcome State Fault Refusal :=
  match Map.get none s.fabric.grist.open_ core with
  | none => .next s
  | some d =>
    let s := s.setGrist fun g => { g with open_ := Map.put g.open_ core none }
    let t := s.decisionTable d
    let s := s.latency 9 none d.at_ s.tb3
    match s.decide_ t (gristBase + d.desc) with
    | .ok ps =>
      let (s, ctxs) := s.admitJob core ps
      let est := match ps with | p :: _ => t.planned p | [] => 0
      let s := s.postVerdict core true 0 (ctxs.headD 0) est
      .next (s.startJob (ctxs.headD 0))
    | .error (reason, est) =>
      let s := (s.postVerdict core false reason 0 est).incWrap Reg.GRIST_REFUSALS_COUNT
      let s := s.raise Reg.GRIST_IRQ_REFUSED
      let s := s.setGrist fun g => { g with refused := Map.upd 0 g.refused reason (· + 1) }
      let b := Memory.getList s.mem (gristBase + d.desc) 8
      let s := s.count 0x102 (some (leAt b 1 1))
      let s := if leAt b 1 1 < 4 && leAt b 6 1 != 0 then s.event .gauge "STAGE_REFUSED" else s
      .next (if leAt b 1 1 == 3 && leAt b 6 1 == 0 then s.event .ca "CASE_REFUSED" else s)

/-! ### Completion (R101, R109, R113, R114) -/

/-- A checkpoint: written to the buffer that does not hold the accepted one and to its mirror, then marked when the
acceptance test passes (R114, R192). -/
def State.checkpoint (s : State) (c : Nat) (j : JobSt) (p : PartSt) (o : OpRec) : State :=
  let mark := s.fabric.grist.marks.find? fun m => m.a == j.ckptA && m.b == j.ckptB
  let second := match mark with | some m => !m.second | none => false
  let dst := if second then j.ckptB else j.ckptA
  let b := s.regionOf p o.a o.p0
  let s := (s.poke dst b).poke (mirrorOf dst) b
  let le (x bound : Nat) : Bool :=
    let v := Fl.ofBits fp32 x
    let w := Fl.ofBits fp32 bound
    v != .nan && w != .nan && !w.lt v
  let pass := match p.step with
    | some r => le r.1 j.accP && le r.2.1 j.accD && le r.2.2 j.accG
    | none => false
  let s := s.setPart c 0 fun p => { p with step := none }
  match pass, p.step with
  | true, some r => s.setGrist fun g => { g with
      marks := (g.marks.filter fun m => !(m.a == j.ckptA && m.b == j.ckptB)) ++ [⟨j.ckptA, j.ckptB, second, r⟩] }
  | _, _ => s

/-- The bytes that an operation moves or computes; `none` when it ends its part under R101 or R111. -/
def State.opEffect (s : State) (c i : Nat) (j : JobSt) (p : PartSt) (o : OpRec) : Option State :=
  if o.opcode == 1 then some (s.poke (p.region + o.c) (Memory.getList s.mem o.a o.p0))
  else if o.opcode == 2 then some (s.poke o.c (s.regionOf p o.a o.p0))
  else if o.opcode == 3 then some s
  else if o.opcode == 8 then some (s.checkpoint c j p o)
  else
    let e := o.run (s.regionOf p) s.fresh
    if e.bad then none else
    let s := { s with fresh := s.fresh + 4 }
    let s := e.out.foldl (fun t w => t.poke (p.region + w.1) w.2) s
    let s := s.setJob c fun j => { j with numeric := j.numeric + e.numeric }
    some (match e.resid with
      | some r => s.setPart c i fun p => { p with step := some r, lastStep := some r }
      | none => s)

/-- Operation k of part i has completed: it counts once, and the part may be done. -/
def State.opDone (s : State) (n c i k : Nat) (o : OpRec) : State :=
  let s := (s.count 0x201 (some n)).count 0x202 (some n) o.fmaCount.floor.toNat
  let s := s.setPart c i fun p =>
    { p with done := setBit p.done k, doneSum := if bitOf p.done k then p.doneSum else p.doneSum + o.cost
             failing := match p.failing with | some (f, a) => if f == k then none else some (f, a) | none => none
             next := if o.isDma && o.async then p.next else k + 1 }
  let left := !((s.tile n).dmasOf c i).isEmpty
  let s := s.setPart c i fun p => if p.nops ≤ p.next && !left then { p with finished := true } else p
  s.setJob c fun j => if j.phase == .running && j.parts.all (·.finished) then { j with phase := .complete } else j

/-- An operation that has run to its end on tile n: its effect, unless its job has stopped (R93). -/
def State.finishOp (s : State) (n : Nat) (r : OpRun) : State :=
  match s.job r.ctx with
  | none => s
  | some j => match j.parts[r.part]? with
    | none => s
    | some p =>
      if j.phase != .running || p.stopped || p.tile != n then s else
      let o := s.opAt p r.op
      match s.opEffect r.ctx r.part j p o with
      | some t => t.opDone n r.ctx r.part r.op o
      | none => s.endPart n r.ctx r.part r.op 4

/-- OPERATION_COMPLETE: the operation that the sequencer waits for completes, and the sequencer goes on. A DMA
completes after those issued before it (R109). -/
def execOperationComplete (tile : Fin 32) (s : State) : Host.Outcome State Fault Refusal :=
  match (s.tile tile).cur with
  | none => .next s
  | some r =>
    let dma := match s.job r.ctx with
      | some j => (j.parts[r.part]?).any fun p => (s.opAt p r.op).isDma
      | none => false
    if dma && !(s.tile tile).dmas.isEmpty then .next s else
    .next (((s.setTile tile fun x => { x with cur := none }).finishOp tile r).runTile tile)

/-- DMA_COMPLETE: the oldest ASYNC DMA of a tile completes and releases the operations that wait for it. -/
def execDmaComplete (tile : Fin 32) (s : State) : Host.Outcome State Fault Refusal :=
  match (s.tile tile).dmas with
  | [] => .next s
  | r :: rs => .next (((s.setTile tile fun x => { x with dmas := rs }).finishOp tile r).runTile tile)

/-! ### Retirement and relocation (R29, R91, R121, R515) -/

/-- WORK of the operations before the segment that runs. -/
def State.workBefore (s : State) (p : PartSt) : Nat := (List.range p.seg).foldl (fun a i => a + (s.opAt p i).cost) 0

/-- One part of a retired tile relocated: restarted on the tile of the largest margin, or ended with NOT_RELOCATED. -/
def State.relocate (s : State) (c i : Nat) : State :=
  match s.job c with
  | none => s
  | some j => match j.parts[i]? with
    | none => s
    | some p =>
      let before := s.workBefore p
      let others := s.loads.filter fun l => l.tile != p.tile
      let t := s.tableInForce
      let x : Load :=
        { tile := p.tile, cls := j.cls, cutoff := j.cutoff, remaining := p.work - before
          reserve := if p.reserveUsed then 0 else p.opMax, opMax := p.opMax }
      let cand := (List.range 32).filter fun n => n != p.tile && s.tileInService n
      match t.bestTile others s.tb3 x cand with
      | some n =>
        let s := s.setPart c i fun p =>
          { p with tile := n, next := p.seg, failing := none, doneSum := before, done := p.done % 2 ^ p.seg }
        s.setJob c fun j => { j with relocated := setBit j.relocated i }
      | none =>
        (s.setPart c i fun p => { p with stopped := true }).setJob c fun j => j.blame 6 i p.next

/-- Tiles retired at once: their units, what they run, and their parts, which are relocated in the order of admission;
a re-plan starts and the kiln margin is recomputed (R71, R77). -/
def State.retireTiles (s : State) (ns : List Nat) (cause : FaultCause) (node osn : Nat := 0) : State :=
  let ns := ns.filter fun n => !s.retired n
  if ns.isEmpty then s else
  let s := ns.foldl (fun (t : State) n =>
    ((t.retireUnit n cause node osn).setTile n fun x =>
      { x with mode := .normal, cur := none, dmas := [], thenBist := false }).gaugeOut n) s
  let js := (s.jobs.filter fun j => j.2.phase == .waiting || j.2.phase == .running).mergeSort
    fun a b => decide (a.2.serial ≤ b.2.serial)
  let moves := js.flatMap fun j =>
    (List.zip (List.range j.2.parts.length) j.2.parts).filterMap fun p =>
      if ns.contains p.2.tile && !p.2.finished && !p.2.stopped then some (j.1, p.1) else none
  let s := moves.foldl (fun t m => t.relocate m.1 m.2) s
  (s.showJobs.replan.kiln).runTiles

/-- One tile retired. -/
def State.retireTile (s : State) (n : Nat) (cause : FaultCause) (node osn : Nat := 0) : State :=
  s.retireTiles [n] cause node osn

/-- One transient of a tile counted; past its threshold the tile is retired (R512). -/
def State.tileTransient (s : State) (n : Nat) (second : Bool) : State :=
  let (s, past) := s.unitTransient n second
  if past then s.retireTile n .rate else s

/-! ### Errors and retries (R92, R119) -/

/-- The operation `r` of tile n fails an attempt: it is retried, alone or with its segment, or the third failure
retires the tile. -/
def State.failAttempt (s : State) (n : Nat) (r : OpRun) (uncorrectable : Bool) : State :=
  match s.job r.ctx with
  | none => s
  | some j => match j.parts[r.part]? with
    | none => s
    | some p =>
      let k := match p.failing with | some (f, a) => if f == r.op then a + 1 else 1 | none => 1
      if 3 ≤ k then s.retireTile n .retry
      else if j.phase != .running || p.stopped then
        let s := s.setTile n fun x => { x with cur := if x.cur == some r then none else x.cur
                                               dmas := x.dmas.filter fun d => d != r }
        s.runTile n
      else
        let o := s.opAt p r.op
        let again := uncorrectable || o.inplace
        let s := s.setPart r.ctx r.part fun p =>
          { p with failing := some (r.op, k), reserveUsed := true, next := if again then p.seg else p.next }
        let s := s.setJob r.ctx fun j => { j with retries := j.retries + 1 }
        let s := if again then s.setTile n fun x =>
            { x with cur := if x.cur == some r then none else x.cur
                     dmas := x.dmas.filter fun d => !(d.ctx == r.ctx && d.part == r.part) } else s
        let s := (s.incSat Reg.TILE_RETRIES_RETRIED n).count 0x203 (some n)
        (s.tileTransient n false).runTile n

/-- TILE_ERROR: a corrected word is counted; any other error fails the attempt that runs (R98, R119). -/
def execTileError (tile : Fin 32) (kind : TileError) (word : BitVec 19) (s : State) :
    Host.Outcome State Fault Refusal :=
  if !s.tilePowered tile then .next s else
  let t := s.tile tile
  let fail (s : State) (r : Option OpRun) (u : Bool) : State :=
    match r with | some r => s.failAttempt tile r u | none => s
  .next (match kind with
    | .corrected =>
      (((s.raise Reg.TILE_ERR_CE tile).incSat Reg.TILE_CE_COUNT_COUNT tile).count 0x204 (some tile)).tileTransient
        tile true
    | .uncorrectable =>
      fail (((s.raise Reg.TILE_ERR_UE tile).raise Reg.TILE_UE_ADDR_VALID tile).wr Reg.TILE_UE_ADDR_WORD word.toNat
        tile) t.cur true
    | .lane => fail (s.raise Reg.TILE_ERR_LANE tile) t.cur false
    | .sequencer => fail (s.raise Reg.TILE_ERR_SEQ tile) t.cur false
    | .dmaLink => fail (s.raise Reg.TILE_ERR_DMA tile) (match t.dmas with | r :: _ => some r | [] => t.cur) false)

/-! ### Cut-off and delivery (R88 to R94, R114 to R118) -/

/-- A part of the job is being retried at this instant: its tile and operation. -/
def State.retrying (s : State) (c : Nat) (j : JobSt) : Option (Nat × Nat × Nat) :=
  (List.zip (List.range j.parts.length) j.parts).findSome? fun p =>
    match p.2.failing with
    | some (k, _) =>
      let t := s.tile p.2.tile
      if !p.2.finished && (t.cur == some ⟨c, p.1, k⟩ || t.dmas.contains ⟨c, p.1, k⟩ || decide (p.2.next ≤ k)) then
        some (p.2.tile, p.1, k) else none
    | none => none

/-- CUTOFF: at C a job that is not complete starts its fallback (R93). A retry that runs past C is abandoned (R92). -/
def execCutoff (ctx : BitVec 8) (s : State) : Host.Outcome State Fault Refusal :=
  let c := ctx.toNat
  match s.job c with
  | none => .next s
  | some j =>
    if (s.tb3 : Rat) < j.cutoff || !(j.phase == .waiting || j.phase == .running) then .next s else
    let first := ((List.zip (List.range j.parts.length) j.parts).find? fun p => !p.2.finished).map fun p => (p.1, p.2.next)
    let at_ := first.getD (0, 0)
    .next (match s.retrying c j with
      | some (n, i, k) => (s.incSat Reg.TILE_RETRIES_ABANDONED n).startFallback c 5 i k
      | none => s.startFallback c 1 at_.1 at_.2)

/-- The records of a SHIFT fallback (table of R114). -/
def shiftBytes (j : JobSt) : List Byte :=
  (List.range j.shiftCount).flatMap fun i =>
    (j.source.drop (min (i + j.shiftSteps) (j.shiftCount - 1) * j.shiftStride)).take j.shiftStride

/-- STATUS of a delivery and the bytes written to RESULT_DST, if any (R94, R114, R115). -/
def State.deliverable (s : State) (j : JobSt) (lost : Bool) : Nat × List Byte :=
  if j.phase == .complete then (0, []) else
  if j.fallback == 0 then (4, []) else
  if lost then (5, []) else
  if j.fallback == 1 then (1, j.source) else
  match j.fallback == 3, s.fabric.grist.marks.find? fun m => m.a == j.ckptA && m.b == j.ckptB with
  | true, some m => (3, Memory.getList s.mem (if m.second then j.ckptB else j.ckptA) j.ckptBytes)
  | _, _ => (2, shiftBytes j)

/-- The completion record without its CRC (table of R118). -/
def State.completionBody (s : State) (c : Nat) (j : JobSt) (status flags : Nat) : List Byte :=
  let cause := if status == 0 then 0 else j.cause
  let resid := match status == 3, s.fabric.grist.marks.find? fun m => m.a == j.ckptA && m.b == j.ckptB with
    | true, some m => some m.resid
    | _, _ => (j.parts.head?).bind fun p => p.lastStep
  let nan := 0x7FC00000
  let r := resid.getD (nan, nan, nan)
  let t := stampOf s.tb3
  leBytes 1 status ++ leBytes 1 cause ++ leBytes 1 c ++ leBytes 1 (min 255 j.retries) ++ leBytes 4 flags ++
  leBytes 4 j.tag ++ leBytes 4 j.relocated ++ leBytes 6 t.sec ++ [0, 0] ++ leBytes 4 t.ns ++ leBytes 4 j.numeric ++
  leBytes 8 (j.parts.foldl (fun a p => a + p.doneSum) 0) ++
  leBytes 4 (if status == 0 then 0xFFFFFFFF else j.failAt) ++ leBytes 4 r.1 ++ leBytes 4 r.2.1 ++ leBytes 4 r.2.2 ++
  leBytes 2 j.tableGen ++ [0, 0]

/-- A stage of the pipeline. -/
def State.stage (s : State) (k : Nat) : StageSt := Map.get {} s.fabric.pipe.stages k

/-- A stage changed. -/
def State.setStage (s : State) (k : Nat) (f : StageSt → StageSt) : State :=
  { s with fabric := { s.fabric with pipe := { s.fabric.pipe with
      stages := Map.upd {} s.fabric.pipe.stages k f } } }

/-- The slot header without its CRC (table of R40). -/
def State.slotHeader (s : State) (k flags len : Nat) : List Byte :=
  let x := s.stage k
  let t := stampOf s.tb3
  leBytes 2 k ++ leBytes 2 1 ++ leBytes 4 flags ++ leBytes 8 x.current ++ leBytes 6 x.tref.sec ++ [0, 0] ++
  leBytes 4 x.tref.ns ++ leBytes 4 len ++ leBytes 6 t.sec ++ [0, 0] ++ leBytes 4 t.ns ++ leBytes 4 x.inputAge ++
  leBytes 8 x.inputCycle ++ leBytes 2 s.node ++ leBytes 1 x.epoch ++ [0]

/-- A result slot published with one step of Grist (R38, R39, R118): its header completed, the slot the latest of its
stage, and the pins that the stage's job held given up. -/
def State.publish (s : State) (k dst flags len : Nat) : State :=
  let h := s.slotHeader k flags len
  let now := s.tb3
  (s.poke (dst - 64) (h ++ leBytes 4 (crc32 h))).setStage k fun x =>
    { x with latest := some dst, latestCycle := x.current, latestFlags := flags, latestTref := x.tref
             latestPub := now, pins := [] }

/-- Later links of a chain, in order, from the link after a context. -/
def State.laterLinks (s : State) : Nat → Option Nat → List Nat
  | 0, _ => []
  | _, none => []
  | f + 1, some c => c :: s.laterLinks f ((s.job c).bind (·.next))

/-- Flags of the completion record of a job of a stage, from those of its output and of its own stage. -/
def State.deliveryFlags (s : State) (j : JobSt) (status : Nat) : Nat :=
  let head := if j.stage == 0 then 0 else leNat (Memory.getList s.mem (j.resultDst - 64 + 4) 4)
  let own := (s.stage j.stage).flags
  let known := if j.stage == 0 then head else head ||| (if j.stage == 3 && status == 0 then own &&& 0xFFFFFEDF else own)
  known / 8 * 8 + known % 2 + (if status == 2 then 4 else if status == 3 then 2 else 0)

/-- What the log and the counters take of a delivery. -/
def State.noteDelivery (s : State) (j : JobSt) (status : Nat) : State :=
  let s := s.latency 1 (some j.cls) j.released s.tb3
  let unit := (j.parts.head?).map (·.tile)
  let s := if status == 0 then s else s.count 0x205 unit
  let s := if status == 2 then s.count 0x206 unit else if status == 3 then s.count 0x207 unit else s
  if status == 5 then s.alarm .gauge "FALLBACK_LOST" else s

/-- A job of a stage delivered: its output is published, or its stage pins nothing when nothing was delivered. -/
def State.stageDelivery (s : State) (j : JobSt) (status flags bytes : Nat) : State :=
  if j.stage != 0 then
    if status == 4 || status == 5 then s.setStage j.stage fun x => { x with pins := [] }
    else s.publish j.stage j.resultDst flags bytes
  else s

/-- The context of a delivered job is free; the next of its chain may start, and falls back where the chain is cut. -/
def State.afterDelivery (s : State) (c : Nat) (j : JobSt) (status : Nat) : State :=
  let later := s.laterLinks 8 j.next
  let s := s.setGrist fun g => { g with jobs := Map.put g.jobs c none }
  let s := match j.next with
    | some n => s.setJob n fun x => { x with prev := none }
    | none => s
  if status != 0 && j.cutOnFallback then later.foldl (fun t n => t.startFallback n 7 0 0) s else s

/-- The delivery of a job (R118): its deliverable, completion record and slot; then its context and operations are
free (R86), and the links after it may start or are cut (R117). The flags that the firmware knew when it built a
stage's cycle stand in the header; a completed planning job overwrites INFEASIBLE and NOT_CONVERGED (R199). -/
def State.deliver (s : State) (c : Nat) (j : JobSt) (lost : Bool) : State :=
  let d := s.deliverable j lost
  let s := s.poke j.resultDst (d.2.take j.resultBytes)
  let flags := s.deliveryFlags j d.1
  let b := s.completionBody c j d.1 flags
  let s := (s.poke j.completion (b ++ leBytes 4 (crc32 b))).noteDelivery j d.1
  let s := s.stageDelivery j d.1 flags (if d.1 == 0 then j.resultBytes else d.2.length)
  (s.afterDelivery c j d.1).showJobs.runTiles

/-! ### Drain, self-test, return (R122) -/

/-- A write of TILE_CTRL that is not acted on. -/
def State.ctrlIgnored (s : State) (n : Nat) : State := s.raise Reg.TILE_ERR_CTRL_IGNORED n

/-- The tile is withdrawn from the tables and drains (R122); `bist` is the health block's test (R520). -/
def State.drainTile (s : State) (n : Nat) (bist : Bool) : State :=
  ((s.setTile n fun x => { x with mode := .draining, thenBist := bist }).setUnit n fun u =>
    { u with state := 1 }).replan.runTile n

/-- TILE_DRAIN: acted on in IDLE and BUSY. -/
def execTileDrain (tile : Fin 32) (s : State) : Host.Outcome State Fault Refusal :=
  .next (if s.tileInService tile then s.drainTile tile false else s.ctrlIgnored tile)

/-- The self-test of a tile starts. -/
def State.tileBist (s : State) (n : Nat) : State :=
  let s := (s.setTile n fun x => { x with mode := .bist }).unitTesting n
  ((s.wr Reg.TILE_BIST_DONE 0 n).wr Reg.TILE_BIST_PASS 0 n).showTile n

/-- TILE_BIST_START: acted on only in OFFLINE. -/
def execTileBistStart (tile : Fin 32) (s : State) : Host.Outcome State Fault Refusal :=
  .next (if s.tilePowered tile && (s.tile tile).mode == .offline then s.tileBist tile else s.ctrlIgnored tile)

/-- TILE_BIST_DONE: a pass leaves the tile OFFLINE with PASS set; a fail is a permanent fault with cause BIST. The
self-test of a retired tile runs for the health block and leaves its registers, whose window is closed. -/
def execTileBistDone (tile : Fin 32) (pass : Bool) (step : BitVec 2) (elapsed : BitVec 16) (s : State) :
    Host.Outcome State Fault Refusal :=
  if (s.tile tile).mode != .bist then .next s else
  let s := (s.raise Reg.TILE_BIST_DONE tile).put Reg.TILE_BIST_PASS pass tile
  let s := (s.wr Reg.TILE_BIST_STEP (if pass then 0 else step.toNat) tile).wr Reg.TILE_BIST_ELAPSED elapsed.toNat tile
  let s := s.setTile tile fun x => { x with mode := if s.retired tile then .normal else .offline }
  let s := s.unitTested tile pass
  let s := if pass then s else
    ((s.setTile tile fun x => { x with mode := .normal }).gaugeOut tile).replan.kiln
  .next (s.showTile tile)

/-- The tile is in service again, through a re-plan (R122, R521). -/
def State.onlineTile (s : State) (n : Nat) (node osn : Nat := 0) : State :=
  let was := s.retired n
  let s := (s.setTile n fun x => { x with mode := .normal, cur := none, dmas := [] }).unitReturned n node osn
  let s := if was then s.gaugeIn n else s
  (s.replan.kiln).showTile n

/-- TILE_ONLINE: acted on only in OFFLINE. -/
def execTileOnline (tile : Fin 32) (s : State) : Host.Outcome State Fault Refusal :=
  .next (if s.tilePowered tile && (s.tile tile).mode == .offline then s.onlineTile tile else s.ctrlIgnored tile)

end Sys2Proof.Machine
end

