-- ==== Sys2Proof/Machine/StageOps.lean ====
section
/-! DEFINITION. What the stages of the pipeline share: values in force, the release of a cycle with its pins and input
age (01_architecture.md), published bodies, and small arithmetic over exact numbers. -/

namespace Sys2Proof.Machine

/-- The stages' firmware changed. -/
def State.setStages (s : State) (f : StageFw → StageFw) : State := { s with stages := f s.stages }

/-- The estimator changed. -/
def State.setEst (s : State) (f : EstSt → EstSt) : State := s.setStages fun x => { x with est := f x.est }

/-- The visual reference changed. -/
def State.setVis (s : State) (f : VisSt → VisSt) : State := s.setStages fun x => { x with vis := f x.vis }

/-- Planning changed. -/
def State.setPlan (s : State) (f : PlanSt → PlanSt) : State := s.setStages fun x => { x with plan := f x.plan }

/-- Consequence analysis changed. -/
def State.setCa (s : State) (f : CaSt → CaSt) : State := s.setStages fun x => { x with ca := f x.ca }

/-- Indices whose WRITE objects change at a 10 s boundary (R151, R170, R208, R212). -/
def delayedIndex (i : Nat) : Bool :=
  (decide (0x2000 ≤ i) && decide (i < 0x3500)) || (decide (0x4100 ≤ i) && decide (i < 0x4120)) || i == 0x5000 ||
  (decide (0x5200 ≤ i) && decide (i ≤ 0x5300))

/-- A value in force of an object that changes at a 10 s boundary. -/
def State.inForce (s : State) (o : ObjDef) (i k : Nat := 0) : Val := Map.get (o.default i) s.stages.inForce (o.key i k)

/-- The same as the bits of its type. -/
def State.cfgN (s : State) (o : ObjDef) (i k : Nat := 0) : Nat := (s.inForce o i k).toNat

/-- The same as a truth value. -/
def State.cfgB (s : State) (o : ObjDef) (i k : Nat := 0) : Bool := s.cfgN o i k != 0

/-- The same by its numeric meaning. -/
def State.cfgV (s : State) (o : ObjDef) (i k : Nat := 0) : Rat := o.ty.value (s.cfgN o i k)

/-- The same as bytes. -/
def State.cfgBytes (s : State) (o : ObjDef) (i k : Nat := 0) : List Byte := (s.inForce o i k).toBytes

/-- The settings become the values in force. -/
def State.takeSettings (s : State) : State :=
  let m := s.dict.filter fun p => delayedIndex (p.1 / 256)
  s.setStages fun x => { x with inForce := m }

/-- The pipeline runs. -/
def State.pipeRun (s : State) : Bool := s.flag Reg.TU_STATUS_PIPE_RUN

/-- A phase object in force, in ms (R36): place k of 0xA850.01 to .09. -/
def State.phaseMs (s : State) (k : Nat) : Nat := s.fabric.pipe.phases.getD k 0

/-- Start, in TB0 ns, of the period that runs, of `ms` milliseconds. -/
def State.period (s : State) (ms : Nat) : Nat := s.now 0 / (ms * 1000000) * (ms * 1000000)

/-- Age of a pinned input at the release, in µs, from its TREF. -/
def State.inputAgeUs (s : State) (x : StageSt) : Nat := (s.now 0 - stampNs x.latestTref) / 1000

/-- A cycle of stage k is released (R32, R38, R39, R42): its number, TREF, pins on the latest slots of `from_`, the
first of which is its principal input, and STALE_INPUT with an EVENT when one that counts is older than `limit` µs. -/
def State.releaseStage (s : State) (b : HwBlock) (k tref limit : Nat) (inputs : List Nat) : State :=
  let pinned := inputs.filterMap fun p => ((s.stage p).latest).map fun a => (p, a)
  let ages := pinned.map fun p => s.inputAgeUs (s.stage p.1)
  let stale := ages.any fun a => decide (limit < a)
  let main := s.stage (inputs.headD 0)
  let known := main.latest.isSome
  let age := min 0xFFFFFFFF (s.inputAgeUs main)
  let epoch := s.objN Obj.CLAIM_EPOCH
  let s := s.setStage k fun x =>
    { x with cycle := x.cycle + 1, current := x.cycle, epoch := epoch, tref := stampOf tref, pins := pinned
             inputCycle := if known then main.latestCycle else 0, inputAge := if known then age else 0
             flags := if stale then 64 else 0 }
  if stale then s.event b "STALE_INPUT" else s

/-- FLAGS bits added to what a cycle carries. -/
def State.addFlags (s : State) (k flags : Nat) : State := s.setStage k fun x => { x with flags := x.flags ||| flags }

/-- One FLAGS bit when a condition holds. -/
def flagBit (c : Bool) (b : Nat) : Nat := if c then 2 ^ b else 0

/-- A 64-bit word in memory as the F64 it spells. -/
def State.f64At (s : State) (a : Nat) : Rat := ofF64 (leNat (Memory.getList s.mem a 8))

/-- A 32-bit word in memory. -/
def State.u32At (s : State) (a : Nat) : Nat := leNat (Memory.getList s.mem a 4)

/-- A 32-bit word in memory as the F32 it spells. -/
def State.f32At (s : State) (a : Nat) : Rat := ofF32 (s.u32At a)

/-- Median of a list; the mean of the middle two for an even count. -/
def median (xs : List Rat) : Rat :=
  let ys := xs.mergeSort fun a b => decide (a ≤ b)
  let n := ys.length
  if n == 0 then 0 else if n % 2 == 1 then ys.getD (n / 2) 0
  else (ys.getD (n / 2 - 1) 0 + ys.getD (n / 2) 0) / 2

/-- The larger magnitude. -/
def maxAbs (xs : List Rat) : Rat := xs.foldl (fun a x => max a |x|) 0

/-- A 3 × 3 matrix by rows applied to a vector. -/
def mat3 (m v : List Rat) : List Rat :=
  (List.range 3).map fun i => (List.range 3).foldl (fun a j => a + m.getD (3 * i + j) 0 * v.getD j 0) 0

/-- Vectors added. -/
def addV (a b : List Rat) : List Rat := List.zipWith (· + ·) a b

/-- A vector scaled. -/
def scaleV (c : Rat) (a : List Rat) : List Rat := a.map (c * ·)

/-- Determinant of a 3 × 3 matrix by rows. -/
def det3 (m : List Rat) : Rat :=
  let g := fun i => m.getD i 0
  g 0 * (g 4 * g 8 - g 5 * g 7) - g 1 * (g 3 * g 8 - g 5 * g 6) + g 2 * (g 3 * g 7 - g 4 * g 6)

/-- Inverse of a 3 × 3 matrix by rows; `none` when it is singular. -/
def inv3 (m : List Rat) : Option (List Rat) :=
  let g := fun i => m.getD i 0
  let d := det3 m
  if d = 0 then none else
  some (scaleV (1 / d) [g 4 * g 8 - g 5 * g 7, g 2 * g 7 - g 1 * g 8, g 1 * g 5 - g 2 * g 4,
    g 5 * g 6 - g 3 * g 8, g 0 * g 8 - g 2 * g 6, g 2 * g 3 - g 0 * g 5,
    g 3 * g 7 - g 4 * g 6, g 1 * g 6 - g 0 * g 7, g 0 * g 4 - g 1 * g 3])

/-- C(ψ) by rows. -/
def rot3 (psi : Rat) : List Rat := [Config.cos psi, -Config.sin psi, 0, Config.sin psi, Config.cos psi, 0, 0, 0, 1]

/-- C_h(ψ) applied to (x, y). -/
def rot2 (psi : Rat) (p : Rat × Rat) : Rat × Rat :=
  (Config.cos psi * p.1 - Config.sin psi * p.2, Config.sin psi * p.1 + Config.cos psi * p.2)

end Sys2Proof.Machine
end

