-- ==== Sys2Proof/Machine/Estimation.lean ====
section
/-! DEFINITION. State estimation and its references (04_estimation_references.md): measurement records, the linearization, residuals
and votes, the flags of an estimate, orders on references, and what a published estimate changes. -/

namespace Sys2Proof.Machine

/-! ### Reference slots -/

/-- Report index of a SLOT code (table of R126). -/
def reportOf (slot : Nat) : Option Nat :=
  if slot < 24 then some slot
  else if 32 ≤ slot ∧ slot < 38 then some (slot - 8)
  else if 48 ≤ slot ∧ slot < 52 then some (slot - 18)
  else if 56 ≤ slot ∧ slot < 60 then some (slot - 22)
  else none

/-- Dictionary index of a reference by its report index. -/
def refIndex (r : Nat) : Nat :=
  if r < 24 then 0x3100 + r else if r < 30 then 0x3120 + (r - 24) else if r < 34 then 0x3130 + (r - 30)
  else 0x3140 + (r - 34)

/-- The object of reference `r` that corresponds to a position slot's object: every slot uses the same subindices. -/
def refObj (o : ObjDef) (r : Nat) : ObjDef := { o with base := refIndex r }

/-- Reference `r`. -/
def State.ref (s : State) (r : Nat) : RefSt := Map.get {} s.stages.est.refs r

/-- Reference `r` changed. -/
def State.setRef (s : State) (r : Nat) (f : RefSt → RefSt) : State :=
  s.setEst fun e => { e with refs := Map.upd {} e.refs r f }

/-- Configured kind of a reference. -/
def State.refKind (s : State) (r : Nat) : Nat := s.cfgN (refObj Obj.PS_KIND r)

/-- An EVENT about a reference. -/
def State.refEvent (s : State) (name : String) : State := s.event .estimation name

/-- A reference becomes SUSPECT; each entry raises an EVENT (R138). -/
def State.suspect (s : State) (r : Nat) : State :=
  (s.setRef r fun x => { x with vote := .suspect, overRun := 0, okRun := 0 }).refEvent "REF_SUSPECT"

/-! ### Measurement records (R126, R127, R139, R141) -/

/-- The record that 64 bytes spell. -/
def MeasRec.ofBytes (b : List Byte) : MeasRec :=
  { kind := leAt b 1 1
    quality := if bitOf (leAt b 2 2) 0 then some (leAt b 20 4) else none
    seq := leAt b 4 4
    tv := leAt b 8 6 * 1000000000 + leAt b 16 4
    v0 := leAt b 24 8
    v1 := leAt b 32 8
    v := [leAt b 40 4, leAt b 44 4, leAt b 48 4, leAt b 52 4]
    target := leAt b 56 4 }

/-- A record is discarded and counted (R127). -/
def State.discardRec (s : State) (r : Nat) : State :=
  let o := refObj Obj.PS_DISCARDED r
  s.setObjN o ((s.objN o + 1) % 2 ^ 32)

/-- A record of slot `r` taken or discarded (R127): `invalid` is SENSOR_INVALID. -/
def State.takeRec (s : State) (r : Nat) (m : MeasRec) (invalid : Bool) : State :=
  let x := s.ref r
  let now := s.now 0
  let old := match x.lastSeq with | some (q, t) => decide (m.seq ≤ q) || decide (m.tv ≤ t) | none => false
  let start := s.period 100 - 60000000000
  if m.kind != s.refKind r || old || decide (now + 200000000 < m.tv) || decide (m.tv < start) then s.discardRec r else
  let vals := m.v0 :: m.v1 :: m.v
  let repeated := x.values == vals
  let same := if repeated then x.same + 1 else 1
  let differ := if repeated then 0 else x.differ + 1
  let frozen := if x.frozen then decide (differ < 3) else decide (10 ≤ same)
  let thaw := x.frozen && !frozen
  let back := x.timedOut && x.lastSeq.isSome
  let s := s.setRef r fun x =>
    { x with lastSeq := some (m.seq, m.tv), invalid, values := vals, same, frozen, timedOut := false
             differ := if frozen then differ else 0
             fresh_ := if invalid then x.fresh_ else x.fresh_ ++ [m] }
  if thaw || back then s.suspect r else s

/-- MEASUREMENT_RECORD: a reference driver hands over a record (R126, R127). -/
def execMeasurementRecord (r : List Byte) (s : State) : Host.Outcome State Fault Refusal :=
  if s.gateRole then .next s else
  match reportOf (leAt r 0 1) with
  | none => .next s
  | some k =>
    .next (if r.length != 64 || crc32 (r.take 60) != leAt r 60 4 then s.discardRec k
      else s.takeRec k (MeasRec.ofBytes r) (bitOf (leAt r 2 2) 1))

/-! ### The model (R123 to R125) -/

/-- The forces and constants that a step of the model holds. -/
structure ModelIn where
  mass : List Rat
  dampLin : List Rat
  dampQuad : List Rat
  zeta : Rat
  omega : Rat
  /-- τ_thr + τ_wind. -/
  tau : List Rat

/-- The model's constants in force, with a total force. -/
def State.modelIn (s : State) (tau : List Rat) : ModelIn :=
  { mass := (List.range 9).map fun k => s.cfgV Obj.VM_MASS 0 k
    dampLin := (List.range 9).map fun k => s.cfgV Obj.VM_DAMP_LIN 0 k
    dampQuad := [s.cfgV Obj.VM_DAMP_QU, s.cfgV Obj.VM_DAMP_QV, s.cfgV Obj.VM_DAMP_QR]
    zeta := s.cfgV Obj.EST_WF_ZETA
    omega := s.cfgV Obj.EST_WF_OMEGA0
    tau }

/-- f(x) and J(x) f(x) of R124 and R125; `none` where M has no inverse. -/
def ModelIn.rates (p : ModelIn) (x : List Rat) : Option (List Rat × List Rat) :=
  match inv3 p.mass with
  | none => none
  | some mi =>
    let psi := x.getD 2 0
    let nu := (x.drop 3).take 3
    let c := [x.getD 6 0, x.getD 7 0, 0]
    let b := (x.drop 8).take 3
    let xi := (x.drop 11).take 3
    let xd := (x.drop 14).take 3
    let sn := Config.sin psi
    let cs := Config.cos psi
    let rt := [cs, sn, 0, -sn, cs, 0, 0, 0, 1]
    let nur := addV nu (scaleV (-1) (mat3 rt c))
    let quad := fun (v w : List Rat) => List.zipWith (· * ·) (List.zipWith (fun d a => d * |a|) p.dampQuad v) w
    let force := addV (addV (scaleV (-1) (mat3 p.dampLin nur)) (scaleV (-1) (quad nur nur)))
      (addV p.tau (mat3 p.mass (mat3 rt b)))
    let nud := mat3 mi force
    let eta := mat3 (rot3 psi) nu
    let acc := addV (scaleV (-2 * p.zeta * p.omega) xd) (scaleV (-(p.omega * p.omega)) xi)
    let pd := eta.getD 2 0
    let dr := [-sn, -cs, 0, cs, -sn, 0, 0, 0, 0]
    let drt := [-sn, cs, 0, -cs, -sn, 0, 0, 0, 0]
    let etadd := addV (scaleV pd (mat3 dr nu)) (mat3 (rot3 psi) nud)
    let nurd := addV nud (scaleV (-pd) (mat3 drt c))
    let nudd := mat3 mi (addV (addV (scaleV (-1) (mat3 p.dampLin nurd)) (scaleV (-2) (quad nur nurd)))
      (mat3 p.mass (scaleV pd (mat3 drt b))))
    let jerk := addV (scaleV (-2 * p.zeta * p.omega) acc) (scaleV (-(p.omega * p.omega)) xd)
    let zeros := List.replicate 5 (0 : Rat)
    some (eta ++ nud ++ zeros ++ xd ++ acc, etadd ++ nudd ++ zeros ++ acc ++ jerk)

/-- The discrete map F over one step of 0.1 s; free values where the model gives none. -/
def ModelIn.step (p : ModelIn) (free : Nat) (x : List Rat) : List Rat :=
  let n := x.length
  match p.rates x with
  | some (f, g) =>
    let d := addV (scaleV (1 / 10) f) (scaleV (1 / 200) g)
    addV x (d ++ List.replicate (n - d.length) 0)
  | none => (List.range n).map fun k => Config.freeRat (free + k)

/-! ### Residuals (R129 to R133) -/

/-- What the evaluation of a record uses beside the state: roll and pitch, and the targets' estimates. -/
structure RefIn where
  att : Rat × Rat
  targets : List TargetEst

/-- Projection of R132: latitude and longitude about a datum. -/
def project (lat0 lon0 lat lon : Rat) : Rat × Rat :=
  let a : Rat := 6378137
  let e2 : Rat := 669437999014 / 100000000000000
  let mid := (lat + lat0) / 2
  let w := fun (p : Rat) => 1 - e2 * Config.sin p * Config.sin p
  let m := a * (1 - e2) / (w mid * Config.sqrt (w mid))
  let n := a / Config.sqrt (w lat)
  ((lat - lat0) * m, (lon - lon0) * n * Config.cos lat)

/-- The compensation of R131 of a body vector. -/
def levelled (comp : Bool) (att : Rat × Rat) (x y z : Rat) : Rat × Rat :=
  if !comp then (x, y) else
  let sf := Config.sin att.1
  let cf := Config.cos att.1
  (x * Config.cos att.2 + (y * sf + z * cf) * Config.sin att.2, y * cf - z * sf)

/-- The target of a record of kind 5 or 6: position, heading and standard deviation, where an estimate no older than
1 s is held (R130, R153). -/
def State.targetOf (s : State) (x : RefIn) (kind target : Nat) : Option (Rat × Rat × Rat × Rat) :=
  if kind == 6 && s.cfgN Obj.VIS_TGT_KIND == 0 then
    some (s.cfgV Obj.VIS_TGT_N, s.cfgV Obj.VIS_TGT_E, s.cfgV Obj.VIS_TGT_PSI, 0)
  else
    let node := if kind == 6 then s.cfgN Obj.VIS_TGT_NODE else target / 65536 % 16384
    (x.targets.find? fun t => t.node.toNat == node && decide (s.now 0 ≤ t.time + 1000000000)).map fun t =>
      (ofF64 t.north.toNat, ofF64 t.east.toNat, ofF64 t.heading.toNat, ofF32 t.sd.toNat)

/-- Implied position z of the vessel reference point (table of R130) at heading ψ. -/
def State.implied (s : State) (x : RefIn) (r : Nat) (m : MeasRec) (psi : Rat) : Option (Rat × Rat) :=
  let comp := s.cfgB (refObj Obj.PS_ATT_COMP r)
  let lever := levelled comp x.att (s.cfgV (refObj Obj.PS_LEVER_X r)) (s.cfgV (refObj Obj.PS_LEVER_Y r))
    (s.cfgV (refObj Obj.PS_LEVER_Z r))
  let v := fun k => ofF32 (m.v.getD k 0)
  let place := (s.cfgV Obj.PS_TARGET_N r, s.cfgV Obj.PS_TARGET_E r)
  let back := fun (q : Rat × Rat) (dx dy : Rat) =>
    let d := rot2 psi (lever.1 + dx, lever.2 + dy)
    some (q.1 - d.1, q.2 - d.2)
  let polar := (v 0 * Config.cos (v 1), v 0 * Config.sin (v 1))
  match m.kind with
  | 1 => back (project (s.objV Obj.EST_DATUM_LAT) (s.objV Obj.EST_DATUM_LON) (ofF64 m.v0) (ofF64 m.v1)) 0 0
  | 2 =>
    let d := levelled comp x.att (v 0) (v 1) (v 2)
    back place d.1 d.2
  | 3 =>
    let tan := fun a => Config.sin a / Config.cos a
    let d := s.cfgV (refObj Obj.PS_WIRE_DEPTH r)
    back place (d * tan (v 0)) (d * tan (v 1))
  | 4 => back place polar.1 polar.2
  | 5 => (s.targetOf x 5 m.target).bind fun t =>
      let o := rot2 t.2.2.1 place
      back (t.1 + o.1, t.2.1 + o.2) polar.1 polar.2
  | 6 => (s.targetOf x 6 m.target).map fun t =>
      let d := rot2 t.2.2.1 (ofF64 m.v0, ofF64 m.v1)
      (t.1 + d.1, t.2.1 + d.2)
  | _ => none

/-- Variance of a measurement (R133). -/
def State.variance (s : State) (x : RefIn) (r : Nat) (m : MeasRec) : Rat :=
  let sig := s.cfgV (refObj Obj.PS_SIGMA r)
  let q := match m.quality with
    | some q => if s.cfgB (refObj Obj.PS_USE_QUALITY r) then ofF32 q else 0
    | none => 0
  let sd := max sig q
  let t := if m.kind == 5 || m.kind == 6 then
      match s.targetOf x m.kind m.target with | some t => t.2.2.2 | none => 0 else 0
  sd * sd + t * t

/-- How a reference stands over VOTE_SPAN (R136): mean square of z, mean residual components, and mean weight as Huber's
rule gives it. -/
structure RefEval where
  nres2 : Rat
  mean1 : Rat
  mean2 : Rat
  weight : Rat

/-- The linearization (R143): states at the steps that the published estimate holds, by step number. -/
abbrev Bar := List (Nat × List Rat)

/-- State of a step; free values for a step of the window that is not held in the published body. -/
def Bar.at_ (b : Bar) (free k : Nat) : List Rat :=
  match b.find? fun p => p.1 == k with
  | some p => p.2
  | none => (List.range 30).map fun i => Config.freeRat (free + 40 * k + i)

/-- Words of the bias of reference `r`, where it is estimated (R123). -/
def State.biasWord (s : State) (r : Nat) : Option Nat :=
  let est := fun (q : Nat) => s.refKind q != 0 && s.cfgB (refObj Obj.PS_BIAS_EST q)
  if s.stages.est.biasOff || !est r then none
  else if r < 24 then some (18 + 2 * ((List.range r).filter est).length)
  else some (18 + 2 * ((List.range 24).filter est).length + (((List.range r).drop 24).filter est).length)

/-- n_b (R123). -/
def State.nBias (s : State) : Nat :=
  let est := fun (q : Nat) => s.refKind q != 0 && s.cfgB (refObj Obj.PS_BIAS_EST q)
  if s.stages.est.biasOff then 0
  else 2 * ((List.range 24).filter est).length + (((List.range 30).drop 24).filter est).length

/-- Residual of a record at window end `p`: components and their square over the variance (R129, R130). -/
def State.residual (s : State) (x : RefIn) (bar : Bar) (free p r : Nat) (m : MeasRec) : Option (Rat × Rat × Rat) :=
  let d := m.tv + 60000000000 - p
  let k := min 600 (d / 100000000)
  let st := bar.at_ free k
  let delta : Rat := ((d - k * 100000000 : Nat) : Rat) / 1000000000
  let g := fun i => st.getD i 0
  let psi := g 2 + delta * g 5
  let var := s.variance x r m
  if r < 24 then
    (s.implied x r m psi).map fun z =>
      let v := rot2 (g 2) (g 3, g 4)
      let b := match s.biasWord r with | some w => (g w, g (w + 1)) | none => (0, 0)
      let e1 := z.1 - (g 0 + delta * v.1 + g 11 + b.1)
      let e2 := z.2 - (g 1 + delta * v.2 + g 12 + b.2)
      (e1, e2, (e1 * e1 + e2 * e2) / var)
  else
    let b := match s.biasWord r with | some w => g w | none => 0
    let e := Config.wrapPi (ofF64 m.v0 - (psi + g 13 + b))
    some (e, 0, e * e / var)

/-- A reference evaluated over VOTE_SPAN before P; `none` with no measurement there. -/
def State.evalRef (s : State) (x : RefIn) (bar : Bar) (free p r : Nat) : Option RefEval :=
  let span := (s.cfgV Obj.EST_VOTE_SPAN * 1000000000).floor.toNat
  let ms := (s.ref r).window.filter fun m => decide (p ≤ m.tv + span) && decide (m.tv ≤ p)
  let es := ms.filterMap fun m => s.residual x bar free p r m
  let n : Rat := es.length
  let kappa := s.cfgV Obj.EST_HUBER_K
  let omega := fun (z2 : Rat) => if z2 ≤ kappa * kappa then (1 : Rat) else kappa / Config.sqrt z2
  if es.isEmpty then none else
  some { nres2 := es.foldl (fun (a : Rat) e => a + e.2.2) 0 / n
         mean1 := es.foldl (fun (a : Rat) e => a + e.1) 0 / n
         mean2 := es.foldl (fun (a : Rat) e => a + e.2.1) 0 / n
         weight := es.foldl (fun (a : Rat) e => a + omega e.2.2) 0 / n }

/-! ### Status and vote (R135, R137 to R141) -/

/-- Relative direction inside a shadow sector. -/
def inArc (a b x : Rat) : Bool := if a ≤ b then decide (a ≤ x) && decide (x ≤ b) else decide (a ≤ x) || decide (x ≤ b)

/-- Report status of a reference (table of R155): what keeps it out of the solve stands before its vote. -/
def State.refStatus (s : State) (x : RefIn) (r : Nat) : Nat :=
  let q := s.ref r
  let k := s.refKind r
  if k == 0 then 0
  else if !s.objB (refObj Obj.PS_ENABLE r) then 7
  else if (k == 3 && !q.laid) || (k == 5 && match q.window.getLast? with
      | some m => (s.targetOf x 5 m.target).isNone | none => false) then 8
  else if q.timedOut then 4
  else if q.frozen then 5
  else if q.invalid then 6
  else if decide (34 ≤ r) && (match s.stages.est.wind with
      | some w => inArc (s.cfgV Obj.WS_SHADOW_START (r - 34)) (s.cfgV Obj.WS_SHADOW_END (r - 34)) w.2
      | none => false) then 9
  else match q.vote with | .inUse => 1 | .suspect => 2 | .rejected => 3

/-- The reference is in the solve: IN_USE or SUSPECT. -/
def inSolve (status : Nat) : Bool := status == 1 || status == 2

/-- Newest record of a reference in the window. -/
def RefSt.newest (q : RefSt) : Option MeasRec := q.window.getLast?

/-- Timeouts at a release (R141). -/
def State.timeouts (s : State) : State :=
  let now := s.now 0
  (List.range 38).foldl (fun (t : State) r =>
    let q := t.ref r
    let lim := (t.cfgV (refObj Obj.PS_TIMEOUT r) * 1000000000).floor.toNat
    let late := match q.lastSeq with | some (_, tv) => decide (tv + lim < now) | none => true
    if t.refKind r != 0 && late && !q.timedOut then t.setRef r fun q => { q with timedOut := true } else t) s

/-- Records that the cycle takes into its window of 60 s ending at P, at most 50 a slot (R128). -/
def State.takeWindow (s : State) (p : Nat) : State :=
  (List.range 38).foldl (fun (t : State) r =>
    let q := t.ref r
    let ms := (q.fresh_.filter fun m => decide (m.tv ≤ p)).mergeSort fun a b => decide (a.tv ≤ b.tv)
    let keep := (q.window ++ ms.take 50).filter fun m => decide (p ≤ m.tv + 60000000000)
    let t := t.setRef r fun q =>
      { q with fresh_ := q.fresh_.filter fun m => decide (p < m.tv), window := keep }
    let t := (List.range (ms.length - 50)).foldl (fun (u : State) _ => u.discardRec r) t
    let o := refObj Obj.PS_USED r
    if inSolve q.status then t.setObjN o ((t.objN o + min 50 ms.length) % 2 ^ 32) else t) s

/-- Motion units voted by median (R140): the voted roll and pitch, and the units that leave. -/
def State.voteAttitude (s : State) (x : RefIn) : State :=
  let read := fun r => ((s.ref r).newest).map fun m => (r, ofF32 (m.v.getD 0 0), ofF32 (m.v.getD 1 0))
  let used := (([30, 31, 32, 33] : List Nat).filter fun r => inSolve (s.refStatus x r)).filterMap read
  let dev := fun (m : Nat × Rat × Rat) =>
    let os := used.filter fun o => o.1 != m.1
    let lim := s.cfgV Obj.MU_MU_LIMIT (m.1 - 30)
    let a := median (os.map (·.2.1))
    let b := median (os.map (·.2.2))
    let near := fun (o : Nat × Rat × Rat) => decide (|o.2.1 - a| ≤ lim) && decide (|o.2.2 - b| ≤ lim)
    decide (2 ≤ (os.filter near).length) && !near m
  let s := used.foldl (fun (t : State) m =>
    let n := if dev m then (t.ref m.1).devRun + 1 else 0
    if 3 ≤ n then (t.setRef m.1 fun q => { q with devRun := 0, vote := .rejected }).refEvent "REF_REJECTED"
    else t.setRef m.1 fun q => { q with devRun := n }) s
  let left := used.filter fun m => (s.ref m.1).vote != .rejected
  let voted := if left.isEmpty then none else some (median (left.map (·.2.1)), median (left.map (·.2.2)))
  s.setEst fun e => { e with attitude := voted }

/-- Wind sensors voted by median of the relative-wind vector (R140). -/
def State.voteWind (s : State) (x : RefIn) : State :=
  let ms := (([34, 35, 36, 37] : List Nat).filter fun r => inSolve (s.refStatus x r)).filterMap fun r => (s.ref r).newest
  let vec := ms.map fun m =>
    let v := ofF32 (m.v.getD 0 0)
    let a := ofF32 (m.v.getD 1 0)
    (v * Config.cos a, v * Config.sin a)
  let s := s.setObjN Obj.EST_WIND_OK (ofBool !ms.isEmpty)
  let a := median (vec.map (·.1))
  let b := median (vec.map (·.2))
  let voted := if ms.isEmpty then none else some (Config.sqrt (a * a + b * b), Config.wrapTwoPi (Config.atan2 b a))
  s.setEst fun e => { e with wind := voted }

/-- τ_wind (R140): from the wind table, linear between its 10° points. -/
def State.tauWind (s : State) : List Rat :=
  match s.stages.est.wind with
  | none => [0, 0, 0]
  | some (v, g) =>
    let b := s.cfgBytes Obj.VM_WIND_TABLE
    let pos := g * 18 / Config.pi
    let k := pos.floor.toNat % 36
    let f := pos - pos.floor
    let c := fun i => (1 - f) * ofF32 (leAt b (12 * k + 4 * i) 4) + f * ofF32 (leAt b (12 * ((k + 1) % 36) + 4 * i) 4)
    let q := s.cfgV Obj.VM_WIND_RHO / 2 * v * v
    let al := s.cfgV Obj.VM_WIND_AL
    [q * s.cfgV Obj.VM_WIND_AF * c 0, q * al * c 1, q * al * s.cfgV Obj.VM_WIND_L * c 2]

/-- One group of references voted among themselves (R137 to R139): `rej` and `acc` are squared limits. -/
def State.voteGroup (s : State) (x : RefIn) (group : List (Nat × RefEval)) (rej acc : Rat) (cycles : Nat) : State :=
  let status := group.map fun g => (g.1, g.2, s.refStatus x g.1)
  let agree := fun (r : Nat) => 2 ≤ (status.filter fun g => g.1 != r && g.2.2 == 1 && decide (g.2.1.nres2 ≤ acc)).length
  status.foldl (fun (t : State) g =>
    let r := g.1
    let exceeds := decide (rej < g.2.1.nres2)
    let good := decide (g.2.1.nres2 ≤ acc)
    let q := t.ref r
    let run := if exceeds && decide (agree r) then q.overRun + 1 else 0
    let ok := if good then q.okRun + 1 else 0
    if g.2.2 == 1 || g.2.2 == 2 then
      if decide (cycles ≤ run) then
        (t.setRef r fun q => { q with vote := .rejected, overRun := 0, okRun := 0 }).refEvent "REF_REJECTED"
      else if g.2.2 == 1 && exceeds && !decide (agree r) then t.suspect r
      else if g.2.2 == 2 && good then t.setRef r fun q => { q with vote := .inUse, overRun := 0, okRun := 0 }
      else t.setRef r fun q => { q with overRun := run }
    else if g.2.2 == 3 then
      if decide (t.cfgN Obj.EST_RETURN_CYCLES ≤ ok) then t.setRef r fun q => { q with vote := .inUse, okRun := 0, overRun := 0 }
      else t.setRef r fun q => { q with okRun := ok }
    else t.setRef r fun q => { q with overRun := 0, okRun := 0 }) s

/-- Residual objects of a reference (0x31ss.10 to .14). -/
def State.showRef (s : State) (x : RefIn) (r : Nat) (e : Option RefEval) : State :=
  let st := s.refStatus x r
  let s := (s.setRef r fun q => { q with status := st }).setObjN (refObj Obj.PS_STATUS r) st
  match e with
  | none => s
  | some e =>
    let s := (s.setObjN (refObj Obj.PS_RESID1 r) (toF32 e.mean1)).setObjN (refObj Obj.PS_RESID2 r) (toF32 e.mean2)
    let w := if inSolve st then e.weight else 0
    (s.setObjN (refObj Obj.PS_NRES r) (toF32 (Config.sqrt e.nres2))).setObjN (refObj Obj.PS_MEAN_WEIGHT r) (toF32 w)

/-! ### The release of a cycle (R143, R145, R148 to R150, R156) -/

/-- Implied positions of the position references in the solve, with their variances, at a heading. -/
def State.impliedAll (s : State) (x : RefIn) (psi : Rat) : List (Rat × Rat × Rat) :=
  ((List.range 24).filter fun r => inSolve (s.refStatus x r)).filterMap fun r =>
    (s.ref r).newest.bind fun m => (s.implied x r m psi).map fun z => (z.1, z.2, s.variance x r m)

/-- Median heading of the heading references in the solve. -/
def State.medianHeading (s : State) (x : RefIn) : Rat :=
  median (((List.range 30).drop 24 |>.filter fun r => inSolve (s.refStatus x r)).filterMap fun r =>
    (s.ref r).newest.map fun m => ofF64 m.v0)

/-- x̄ of a cycle (R143, R150): the published estimate shifted forward one step, or at the pipeline start one state. -/
def State.linearize (s : State) (x : RefIn) (tau : List Rat) : Bar :=
  let n := 18 + s.nBias
  match s.stages.est.first, (s.stage 1).latest with
  | false, some a =>
    let old := fun k => (List.range n).map fun w => s.f64At (a + 256 * (k - 400) + 8 * w)
    let move := fun (st : List Rat) => match s.stages.est.translate with
      | some (dn, de) => (st.getD 0 0 - dn) :: (st.getD 1 0 - de) :: st.drop 2
      | none => st
    let held := (List.range 201).map fun i => (399 + i, move (old (400 + i)))
    let last := ((s.modelIn (addV tau s.tauWind)).step s.fresh (move (old 600)))
    held ++ [(600, last)]
  | _, _ =>
    let psi := s.medianHeading x
    let ps := s.impliedAll x psi
    let st := [median (ps.map (·.1)), median (ps.map (·.2.1)), psi] ++ List.replicate 14 (0 : Rat) ++ [1] ++
      List.replicate (n - 18) 0
    (List.range 601).map fun k => (k, st)

/-- The shift of R149 after dead reckoning has ended: the difference from x̄_600 where it passes REINIT_LIMIT times the
consensus position's standard deviation. -/
def State.reinit (s : State) (x : RefIn) (bar : Bar) : Option (Rat × Rat) :=
  let last := bar.at_ s.fresh 600
  let ps := s.impliedAll x (last.getD 2 0)
  if ps.isEmpty then none else
  let dn := median (ps.map (·.1)) - last.getD 0 0
  let de := median (ps.map (·.2.1)) - last.getD 1 0
  let var := median (ps.map (·.2.2))
  let lim := s.cfgV Obj.EST_REINIT_LIMIT
  if lim * lim * var < dn * dn + de * de then some (dn, de) else none

/-- A cycle of the estimator assembled at its release. -/
def State.estRelease (s : State) (inp : EstInputs) : State :=
  let p := s.period 100
  let s := s.releaseStage .estimation 1 p 2500000 [2]
  let s := (s.takeWindow p).timeouts
  let begins := s.stages.est.first
  let s := if begins then (List.range 38).foldl (fun (t : State) r => t.setRef r fun q => { q with vote := .inUse }) s else s
  let x0 : RefIn := ⟨(0, 0), inp.targets⟩
  let s := (s.voteAttitude x0).voteWind x0
  let x : RefIn := ⟨s.stages.est.attitude.getD (0, 0), inp.targets⟩
  let tau := [ofF64 inp.tau.1.toNat, ofF64 inp.tau.2.1.toNat, ofF64 inp.tau.2.2.toNat]
  let bar := s.linearize x tau
  let moved := s.stages.est.translate.isSome
  let posIn := (List.range 24).any fun r => inSolve (s.refStatus x r)
  let headIn := ((List.range 30).drop 24).any fun r => inSolve (s.refStatus x r)
  let dead := !posIn
  let wasDead := s.stages.est.dead
  let shift := if wasDead && !dead then s.reinit x bar else none
  let bar := match shift with
    | some (dn, de) => bar.map fun q => (q.1, (q.2.getD 0 0 + dn) :: (q.2.getD 1 0 + de) :: q.2.drop 2)
    | none => bar
  let s := if dead && !wasDead then s.alarm .estimation "DEAD_RECKONING" else s
  let s := if !headIn && !s.stages.est.noHeading then s.alarm .estimation "HEADING_LOST" else s
  let s := if shift.isSome then s.alarm .estimation "REINITIALIZED" else s
  let free := s.fresh
  let evals := (List.range 30).map fun r => (r, if s.refKind r == 0 then none else s.evalRef x bar free p r)
  let known := evals.filterMap fun e => e.2.map fun v => (e.1, v)
  let sq := fun (o : ObjDef) => s.cfgV o * s.cfgV o
  let acc := sq Obj.EST_ACCEPT_LIMIT
  let met := known.any fun e => decide (e.1 < 24) && inSolve (s.refStatus x e.1) && decide (e.2.nres2 ≤ acc)
  let s := s.voteGroup x (known.filter fun e => decide (e.1 < 24)) (sq Obj.EST_REJECT_LIMIT) acc
    (s.cfgN Obj.EST_REJECT_CYCLES)
  let s := s.voteGroup x (known.filter fun e => decide (24 ≤ e.1)) (sq Obj.EST_HEAD_REJECT) (sq Obj.EST_HEAD_ACCEPT)
    (s.cfgN Obj.EST_HEAD_CYCLES)
  let runs := if met then 0 else s.stages.est.noAccept + 1
  let s := if runs == 10 then s.alarm .estimation "NO_ACCEPTED_REFERENCE" else s
  let s := (List.range 38).foldl (fun (t : State) r => t.showRef x r ((evals.find? fun e => e.1 == r).bind (·.2))) s
  let conflict := (List.range 24).any fun r => s.refStatus x r == 2
  let initial := decide (s.stages.est.released < 600)
  let substAt := if inp.subst then some p else s.stages.est.substAt
  let subst := match substAt with | some t => decide (p ≤ t + 10000000000) | none => false
  let att := s.stages.est.attitude.isSome
  let flags := flagBit dead 8 ||| flagBit (!headIn) 9 ||| flagBit conflict 10 ||| flagBit initial 11 |||
    flagBit (shift.isSome || moved) 12 ||| flagBit s.stages.est.biasOff 13 ||| flagBit (!att) 14 ||| flagBit subst 15
  let s := s.setEst fun e =>
    { e with released := e.released + 1, first := false, dead, noHeading := !headIn, noAccept := runs, substAt
             translate := none, targets := inp.targets }
  let s := { s with fresh := s.fresh + 40000 }
  (s.addFlags 1 flags).setObjN Obj.EST_EST_STATE (if initial then 1 else if dead then 3 else 2)

/-- ESTIMATION_RELEASE: a cycle is assembled at its release (R128, R143, R145); its job is submitted to Grist by the
core's own writes. -/
def execEstimationRelease (x : EstInputs) (s : State) : Host.Outcome State Fault Refusal :=
  .next (if s.pipeRun then s.estRelease x else s)

/-! ### What a published estimate changes (R147, R150, 0x3200) -/

/-- Three cycles in a row that delivered SHIFTED raise an ALARM (R147, R200). -/
def State.shiftedRun (s : State) (o : ObjDef) (b : HwBlock) (shifted : Bool) : State :=
  let n := if shifted then min 255 (s.objN o + 1) else 0
  let s := s.setObjN o n
  if shifted && n == 3 then s.alarm b "SHIFTED_RUN" else s

/-- The objects of 0x3200 taken from a published estimate. -/
def State.afterEstimate (s : State) (a flags : Nat) : State :=
  let st := fun w => s.f64At (a + 51200 + 8 * w)
  let sum := a + 51456
  let put := fun (t : State) (o : ObjDef) (x : Rat) => t.setObjN o (toF32 x)
  let s := (s.setObjN Obj.EST_N (leNat (Memory.getList s.mem (a + 51200) 8))).setObjN Obj.EST_E
    (leNat (Memory.getList s.mem (a + 51208) 8))
  let s := s.setObjN Obj.EST_PSI (toF64 (Config.wrapTwoPi (st 2)))
  let s := put (put (put s Obj.EST_U (st 3)) Obj.EST_V (st 4)) Obj.EST_R (st 5)
  let s := put (put s Obj.EST_CUR_SPEED (Config.sqrt (st 6 * st 6 + st 7 * st 7))) Obj.EST_CUR_DIR
    (Config.atan2 (st 7) (st 6))
  let s := put (put (put s Obj.EST_ENV_X (s.f64At (sum + 80))) Obj.EST_ENV_Y (s.f64At (sum + 88))) Obj.EST_ENV_N
    (s.f64At (sum + 96))
  let s := put (put s Obj.EST_SIGMA_POS (Config.sqrt (max (s.f64At sum) (s.f64At (sum + 8))))) Obj.EST_SIGMA_PSI
    (Config.sqrt (s.f64At (sum + 24)))
  let s := (s.setObjN Obj.EST_FLAGS flags).setObjN Obj.EST_CYCLE ((s.stage 1).latestCycle % 2 ^ 64)
  let s := s.shiftedRun Obj.EST_SHIFTED_RUN .estimation (bitOf flags 2)
  if !bitOf flags 8 && !bitOf flags 11 && !bitOf flags 2 then
    { s with claims := { s.claims with estDone := true } } else s

/-! ### Orders (R152, R153) -/

/-- DATUM_ORDER: the new datum waits for the next 10 s boundary (R152). A NaN or an infinity is out of range (R376). -/
def execDatumOrder (lat lon : BitVec 64) (s : State) : Host.Outcome State Fault Refusal :=
  if !(floatFinite 11 52 lat.toNat && floatFinite 11 52 lon.toNat) then .next (s.answer 13) else
  let s := s.setObj Obj.EST_DATUM_ORDER (.bytes (leBytes 8 lat.toNat ++ leBytes 8 lon.toNat))
  .next ((s.setEst fun e => { e with datum := some (lat.toNat, lon.toNat) }).answer 0)

/-- The datum change that waits takes effect (R152): datum, translation, and the positions that the estimator holds. -/
def State.applyDatum (s : State) : State :=
  match s.stages.est.datum with
  | none => s
  | some (lat, lon) =>
    let d := project (s.objV Obj.EST_DATUM_LAT) (s.objV Obj.EST_DATUM_LON) (ofF64 lat) (ofF64 lon)
    let s := (List.range 24).foldl (fun (t : State) r =>
      if ([2, 3, 4] : List Nat).contains (t.refKind r) then
        (t.setObjN Obj.PS_TARGET_N (toF64 (t.objV Obj.PS_TARGET_N r - d.1)) r).setObjN Obj.PS_TARGET_E
          (toF64 (t.objV Obj.PS_TARGET_E r - d.2)) r
      else t) s
    let s := (s.setObjN Obj.VIS_TGT_N (toF64 (s.objV Obj.VIS_TGT_N - d.1))).setObjN Obj.VIS_TGT_E
      (toF64 (s.objV Obj.VIS_TGT_E - d.2))
    let s := (s.setObjN Obj.EST_DATUM_LAT lat).setObjN Obj.EST_DATUM_LON lon
    let s := s.setObj Obj.EST_DATUM_SHIFT (.bytes (leBytes 8 (toF64 d.1) ++ leBytes 8 (toF64 d.2)))
    s.setEst fun e => { e with datum := none, translate := some d }

/-- LAY_DOWN: the weight position of a taut wire from the estimate and the wire measurement (R153). -/
def execLayDown (slot : Fin 24) (v : BitVec 8) (s : State) : Host.Outcome State Fault Refusal :=
  if v.toNat != 1 then .next (s.answer 13) else
  let q := s.ref slot
  match (s.stage 1).latest, (q.fresh_ ++ q.window).getLast? with
  | some a, some m =>
    let g := fun w => s.f64At (a + 51200 + 8 * w)
    let comp := s.cfgB Obj.PS_ATT_COMP slot
    let l := levelled comp (s.stages.est.attitude.getD (0, 0)) (s.cfgV Obj.PS_LEVER_X slot) (s.cfgV Obj.PS_LEVER_Y slot)
      (s.cfgV Obj.PS_LEVER_Z slot)
    let d := s.cfgV Obj.PS_WIRE_DEPTH slot
    let tan := fun (a : Rat) => Config.sin a / Config.cos a
    let w := rot2 (g 2) (l.1 + d * tan (ofF32 (m.v.getD 0 0)), l.2 + d * tan (ofF32 (m.v.getD 1 0)))
    let n := toF64 (g 0 + w.1)
    let e := toF64 (g 1 + w.2)
    let s := (s.setObjN Obj.PS_TARGET_N n slot).setObjN Obj.PS_TARGET_E e slot
    let held := Map.put (Map.put s.stages.inForce (Obj.PS_TARGET_N.key slot 0) (.num n))
      (Obj.PS_TARGET_E.key slot 0) (.num e)
    let s := s.setStages fun x => { x with inForce := held }
    .next (((s.setRef slot fun q => { q with laid := true }).setObjN Obj.PS_LAY_DOWN 1 slot).answer 0)
  | _, _ => .next (s.answer 15)

end Sys2Proof.Machine
end

