-- ==== Sys2Proof/Machine/Visual.lean ====
section
/-! DEFINITION. The visual reference (04_estimation_references.md): keypoint datagrams, frames, keyframes, landmarks, the release of a
visual cycle, and the record that a valid pose gives the estimator. The poses of keyframes lie in the solver's data, whose
place the spec does not give: what depends on them is free. -/

namespace Sys2Proof.Machine

/-- Datagrams or frames dropped (0x3400.16). -/
def State.visDrop (s : State) (n : Nat := 1) : State :=
  s.setObjN Obj.VIS_DROPPED ((s.objN Obj.VIS_DROPPED + n) % 2 ^ 32)

/-- 100 ms in ns: the time within which the parts of a frame arrive (R157). -/
def frameSpan : Nat := 100000000

/-- The datagram is well formed (table of R157). -/
def keypointOk (d : List Byte) : Bool :=
  let n := leAt d 6 2
  leAt d 0 4 == 0x3146504B && leAt d 4 1 == 1 && decide (leAt d 5 1 < 4) && decide (1 ≤ n) && decide (n ≤ 86) &&
  decide (leAt d 12 1 < leAt d 13 1) && decide (leAt d 13 1 ≤ 16) && d.length == 36 + 16 * n &&
  crc32 (d.take (32 + 16 * n)) == leAt d (32 + 16 * n) 4

/-- Valid observations of a datagram. -/
def observations (d : List Byte) : List Observation :=
  ((List.range (leAt d 6 2)).map fun k =>
    let o := 32 + 16 * k
    (⟨leAt d o 4, leAt d (o + 4) 4, leAt d (o + 8) 4, leAt d (o + 12) 2⟩ : Observation)).filter fun o =>
      o.track != 0xFFFFFFFF

/-- A part of a frame added; the frame is complete when all its parts have arrived within 100 ms of the first. -/
def State.addPart (s : State) (c : Nat) (d : List Byte) : State :=
  let v := s.stages.vis
  let fs := Map.get [] v.partial_ c
  let id := leAt d 8 4
  let old := fs.find? fun f => f.frame == id
  let rest := fs.filter fun f => f.frame != id
  let now := s.tb3
  let part := leAt d 12 1
  let save (s : State) (fs : List FrameSt) : State :=
    s.setVis fun v => { v with partial_ := Map.put v.partial_ c fs }
  let put (s : State) (f : FrameSt) : State :=
    if f.got.length == f.total then
      let full_ := f :: (Map.get [] v.complete c).take 39
      let lost := clearBit v.lost c
      (save s rest).setVis fun v =>
        { v with complete := Map.put v.complete c full_, lastAt := Map.put v.lastAt c (some now), lost }
    else save s (rest ++ [f])
  match old with
  | some f =>
    if f.at_ + frameSpan < now then (save s rest).visDrop 2
    else if f.got.contains part then s.visDrop
    else put s { f with got := part :: f.got, obs := f.obs ++ observations d }
  | none =>
    put s ⟨id, leAt d 13 1, [part], now, leAt d 16 6 * 1000000000 + leAt d 24 4, observations d⟩

/-- KEYPOINT_DATAGRAM: a datagram on port 47302 of a MAC (R157). -/
def execKeypointDatagram (em : Fin 8) (d : List Byte) (s : State) : Host.Outcome State Fault Refusal :=
  let cls := s.classOf (em.val + 1)
  .next (if s.gateRole then s
    else if !(cls == 4 || cls == 2) || !keypointOk d then s.visDrop
    else s.addPart (leAt d 5 1) d)

/-- FRAME_INCOMPLETE: frames of a camera that are not complete 100 ms after their first part are discarded and counted. -/
def execFrameIncomplete (camera : Fin 4) (s : State) : Host.Outcome State Fault Refusal :=
  let now := s.tb3
  let fs := Map.get [] s.stages.vis.partial_ camera
  let keep := fs.filter fun f => decide (now < f.at_ + frameSpan)
  .next ((s.setVis fun v => { v with partial_ := Map.put v.partial_ camera keep }).visDrop (fs.length - keep.length))

/-- CAMERA_LOST: an enabled camera has given no complete frame for 3 s (R164). -/
def execCameraLost (camera : Fin 4) (s : State) : Host.Outcome State Fault Refusal :=
  let late := match Map.get none s.stages.vis.lastAt camera with | some t => s.elapsed t 3000000000 | none => true
  .next (if s.cfgB Obj.CAM_ENABLE camera && late then
    s.setVis fun v => { v with lost := setBit v.lost camera } else s)

/-- The keyframe that a release forms, if any (R158). -/
def State.formKeyframe (s : State) : Option Keyframe :=
  let now := s.now 0
  let fs := ((List.range 4).filter fun c => s.cfgB Obj.CAM_ENABLE c).flatMap fun c =>
    (Map.get [] s.stages.vis.complete c).map fun f => (c, f)
  let top := fs.foldl (fun a f => max a f.2.exposure) 0
  let last := match s.stages.vis.keyframes.getLast? with | some k => k.exposure | none => 0
  if fs.isEmpty || decide (now < top) || decide (top + 1000000000 < now) || decide (top ≤ last) then none else
  some ⟨top, (fs.filter fun f => decide (top ≤ f.2.exposure + 1000000)).flatMap fun f => f.2.obs.map fun o => (f.1, o)⟩

/-- Landmarks of a window (R159): a free track seen in two keyframes becomes one where its rays subtend 1°, which the
poses decide; one without an observation is dropped; at most 4,096 are held. -/
def landmarksOf (old : List Nat) (ignored : List Nat) (win : List Keyframe) (free : Nat) : List Nat × Bool :=
  let seen := fun (t : Nat) => (win.filter fun k => k.obs.any fun o => o.2.track == t).length
  let kept := old.filter fun t => decide (1 ≤ seen t)
  let all := (win.flatMap fun k => k.obs.map fun o => o.2.track).eraseDups
  let new := all.filter fun t => decide (64 ≤ t) && !kept.contains t && !ignored.contains t && decide (2 ≤ seen t) &&
    Config.freeNat (free + t) % 2 == 1
  let room := 4096 - kept.length
  (kept ++ new.take room, decide (4096 ≤ kept.length + new.length))

/-- VISUAL_RELEASE: a visual cycle is released (R158, R163, R164). -/
def execVisualRelease (targets : List TargetEst) (s : State) : Host.Outcome State Fault Refusal :=
  if !s.pipeRun || !s.objB Obj.VIS_VIS_ENABLE then .next s else
  let key := s.formKeyframe
  let v := s.stages.vis
  let win := match key with
    | some k => (v.keyframes ++ [k]).drop ((v.keyframes.length + 1) - 32)
    | none => v.keyframes
  let formed := v.formed + ofBool key.isSome
  let ignored := v.ignored.filter fun p => decide (formed < p.2)
  let (marks, crowded) := landmarksOf v.landmarks (ignored.map (·.1)) win s.fresh
  let exposure := match win.getLast? with | some k => k.exposure | none => 0
  let s := s.nextFresh
  let s := (s.releaseStage .visual 2 exposure 0xFFFFFFFF [1]).setStage 2 fun x => { x with inputAge := 0, inputCycle := 0 }
  let moving := s.cfgN Obj.VIS_TGT_KIND == 1
  let node := s.cfgN Obj.VIS_TGT_NODE
  let stale := moving && !(targets.any fun t => t.node.toNat == node && decide (exposure ≤ t.time + 1000000000))
  let flags := flagBit (key.isNone || stale) 8 ||| flagBit stale 9 ||| flagBit crowded 11 |||
    flagBit (v.lost != 0) 12 ||| flagBit s.stages.est.attitude.isNone 13
  let s := s.setVis fun v => { v with keyframes := win, formed, ignored, landmarks := marks }
  .next (s.addFlags 2 flags)

/-- Square root of the largest eigenvalue of the horizontal covariance in a visual body (R162). -/
def State.poseSigma (s : State) (a : Nat) : Rat :=
  let p := s.f64At (a + 72)
  let q := s.f64At (a + 80)
  let r := s.f64At (a + 120)
  let h := (p - r) / 2
  Config.sqrt ((p + r) / 2 + Config.sqrt (h * h + q * q))

/-- A published visual body (R161, R162): the status objects, λ and the landmarks that leave, and with a valid pose of
this cycle a kind 6 record for the reference slot of 0x3400.0C. -/
def State.afterVisual (s : State) (a flags : Nat) : State :=
  let n := fun (off k : Nat) => leNat (Memory.getList s.mem (a + off) k)
  let s := (s.setObjN Obj.VIS_ST_FLAGS (flags / 256 % 256)).setObjN Obj.VIS_ST_LANDMARKS (n 240 2)
  let s := (s.setObjN Obj.VIS_ST_ANCHORS (n 242 2)).setObjN Obj.VIS_ST_OBS (n 244 4)
  let s := s.setObjN Obj.VIS_ST_RMS (n 248 4)
  let solved := !bitOf flags 2 && n 252 1 != 0
  let free := s.fresh
  let lambda := if solved then max (1 / 100000000) (min 10000 (Config.freeRat free)) else s.stages.vis.lambda
  let out := if solved then s.stages.vis.landmarks.filter fun t => Config.freeNat (free + 1 + t) % 2 == 1 else []
  let s := (s.setObjN Obj.VIS_ST_LAMBDA (toF32 lambda)).nextFresh
  let s := s.setVis fun v =>
    { v with lambda, landmarks := v.landmarks.filter fun t => !out.contains t
             ignored := v.ignored ++ out.map fun t => (t, v.formed + 32) }
  if bitOf flags 8 then s else
  let m : MeasRec :=
    { kind := 6, quality := some (toF32 (s.poseSigma a)), seq := n 0 8 % 2 ^ 32
      tv := n 8 6 * 1000000000 + n 16 4, v0 := n 24 8, v1 := n 32 8
      v := [toF32 (s.f64At (a + 48)), 0, 0, 0], target := s.cfgN Obj.VIS_TGT_NODE * 65536 }
  let slot := s.cfgN Obj.VIS_VIS_SLOT
  if slot < 24 then s.takeRec slot m false else s

end Sys2Proof.Machine
end

