-- ==== Sys2Proof/Machine/Planning.lean ====
section
/-! DEFINITION. Scenario planning and the vote (05_planning_allocation.md, 14_redundancy_claims.md R443 to R449): the thrusters in the
plan, scenario and iteration counts, seeds, the structure signature and the mapped fraction, what a published plan changes,
and the vote with its conversion into a trajectory. The iterate itself lies in the Grist store at places that the spec does
not give. -/

namespace Sys2Proof.Machine

/-! ### Thrusters (R165 to R170) -/

/-- The thruster is in the plan at a release (R165). -/
def State.canPlan (s : State) (t : Nat) : Bool :=
  let bus := s.cfgN Obj.TH_BUS t
  let idle := (List.range 32).foldl (fun (a : Rat) i =>
    if s.cfgN Obj.TH_TYPE i != 0 && s.cfgN Obj.TH_BUS i == bus then a + s.cfgV Obj.TH_P_IDLE i else a) 0
  s.objB Obj.TH_ENABLE t && s.cfgN Obj.TH_TYPE t != 0 && s.objB Obj.TH_READY t &&
    decide (idle < s.objV Obj.BUS_P_AVAIL bus)

/-- Bits of the thrusters for which `f` holds. -/
def maskOf (f : Nat → Bool) : Nat := (List.range 32).foldl (fun a t => if f t then a + 2 ^ t else a) 0

/-- Address of step record k of a planning body. -/
def planRecord (a k : Nat) : Nat := a + 1024 * k

/-- Force of thruster t at step k in a planning body: the bits of f_x and f_y (R205). -/
def State.forceAt (s : State) (a k t : Nat) : Nat × Nat :=
  (s.u32At (planRecord a k + 80 + 8 * t), s.u32At (planRecord a k + 84 + 8 * t))

/-- Ordinal of the piece or sector interval that holds an azimuth (R168, R169): for types 2 and 5 the interval of the
sectors table that holds it, for types 3 and 4 ahead or astern. -/
def State.pieceOf (s : State) (t : Nat) (az : Rat) (ahead : Bool) : Nat :=
  let ty := s.cfgN Obj.TH_TYPE t
  if ty == 3 || ty == 4 then (if ahead then 0 else 1)
  else if ty == 2 then
    let b := s.cfgBytes Obj.TH_SECTORS t
    let x := Config.wrapTwoPi az
    match (List.range (b.length / 12)).find? fun k => inArc (ofF32 (leAt b (12 * k) 4)) (ofF32 (leAt b (12 * k + 4) 4)) x with
    | some k => k + 1
    | none => 0
  else 0

/-- For types 3 and 4, the delivered plan has its force at step 0 on the boundary that the ahead and the astern piece
share, f_x = 0 (R168). -/
def State.onBoundary (s : State) (t : Nat) : Bool :=
  match (s.stage 3).latest with
  | some a => (s.cfgN Obj.TH_TYPE t == 3 || s.cfgN Obj.TH_TYPE t == 4) && ofF32 (s.forceAt a 0 t).1 == 0
  | none => false

/-- PIECE of a thruster at a release (R168, R169): from the warm start's force at step 0, or within 1 % of T_AHEAD of the
origin from the actuator's feedback. On a shared boundary the solver's multiplier decides whether the neighbouring piece
is used; the result data hold no multiplier, so which of the two pieces is used is a free value there. -/
def State.pieceNow (s : State) (t e : Nat) (fb : Word) : Nat :=
  let f := match (s.stage 3).latest with
    | some a => s.forceAt a (min 239 e) t
    | none => (0, 0)
  let x := ofF32 f.1
  let y := ofF32 f.2
  let lim := s.cfgV Obj.TH_T_AHEAD t / 100
  let own := s.pieceOf t (Config.atan2 y x) (decide (0 ≤ x))
  let n := if s.onBoundary t then Config.freeNat s.fresh % 2
    else if x * x + y * y < lim * lim then s.pieceOf t (ofF32 fb.toNat) (decide (fb.toNat < 0x80000000)) else own
  (Config.pieceNumber (s.cfgN Obj.TH_TYPE t) n).toNat

/-! ### Scenarios and iterations (R179 to R181, R193) -/

/-- Δ_it for i iterations, in ns. -/
def State.deltaIt (s : State) (i : Nat) : Rat := ((s.phaseMs 3 - s.phaseMs 2 : Nat) : Rat) * 1000000 / i

/-- Requirement of R193 in 0.1 GFLOP/s, rounded up, for SWEEP and ROOT sums in ns and i iterations. -/
def State.planReq (s : State) (sweep root i : Nat) : Nat :=
  let w : Rat := (s.cfgN Obj.PLAN_ROOT_WINDOW : Nat) * 1000000
  let d := s.deltaIt i - w
  if d ≤ 0 ∨ w ≤ 0 then 65535 else (11 / 10 * (352 / 10) * max ((sweep : Nat) / d) ((root : Nat) / w) * 10).ceil.toNat

/-- Scenario and iteration counts of a cycle (R181). -/
def State.counts (s : State) : Nat × Nat :=
  let top := s.cfgN Obj.PLAN_SCENARIOS
  let iters := s.cfgN Obj.PLAN_ITER
  let req := s.rd Reg.GRIST_REQ1_REQ
  let grant := s.tableInForce.grants.getD 1 0
  let old := s.stages.plan.scen
  let w := s.stages.plan.work
  if grant < s.rd Reg.GRIST_REQ1MIN_REQ then
    let fit := (List.range iters).filter fun i => decide (s.planReq w.sweep16 w.root16 (i + 1) ≤ grant)
    (16, max 1 (fit.foldl (fun a i => max a (i + 1)) 1))
  else
    let fit := ([16, 32, 48, 64] : List Nat).filter fun n => decide (n ≤ top) && decide (n * req ≤ grant * top)
    let n := fit.foldl max 16
    (if old == 0 then n else min n (old + 16), iters)

/-- The seed z_0 of a cycle (R179). -/
def seedOf (epoch salt turn : Nat) : Nat := (epoch * 2 ^ 56 + salt * 2 ^ 24 + turn % 2 ^ 24) % 2 ^ 64

/-- Phase number j of the sequence of R179, as ⌊z / 2¹¹⌋: φ is 2π times it times 2⁻⁵³. -/
def phaseAt (z : Nat) : Nat → Nat
  | 0 => (z * 6364136223846793005 + 1442695040888963407) % 2 ^ 64 / 2 ^ 11
  | j + 1 => phaseAt ((z * 6364136223846793005 + 1442695040888963407) % 2 ^ 64) j

/-! ### Signature and warm start (R194 to R197) -/

/-- CONSTRAINT_SIG (R194). -/
def State.constraintSig (s : State) (mask : Nat) : Nat :=
  crc32 (((List.range 32).filter (bitOf mask)).flatMap fun t =>
    leBytes 1 (s.cfgN Obj.TH_TYPE t) ++ s.cfgBytes Obj.TH_SECTORS t ++ leBytes 1 (s.cfgN Obj.TH_BUS t) ++
    leBytes 1 (s.cfgN Obj.PLAN_EXC_START))

/-- The 16 bytes of a signature. -/
def Signature.bytes (g : Signature) : List Byte :=
  leBytes 4 g.mask ++ leBytes 1 g.scen ++ leBytes 1 g.branch ++ leBytes 2 g.horizon ++ leBytes 4 g.sig ++
  leBytes 1 g.mode ++ [0, 0, 0]

/-- Bits set. -/
def popCount (m : Nat) : Nat := ((List.range 32).filter (bitOf m)).length

/-- Mapped fraction (R197) of a problem from an iterate that is e steps older. Each stage has 15 state words and two
inputs for each thruster. -/
def mappedFraction (old new : Signature) (e : Nat) : Rat :=
  let live := fun (k : Nat) => decide (k + e < old.horizon)
  let shared := ((List.range new.branch).filter live).length
  let tail := ((List.range new.horizon).filter fun k => decide (new.branch ≤ k) && live k).length
  let words := 15 + 2 * popCount (new.mask &&& old.mask)
  let total := (new.branch + new.scen * (new.horizon - new.branch)) * (15 + 2 * popCount new.mask)
  if total = 0 then 0 else (((shared + min new.scen old.scen * tail) * words : Nat) : Rat) / (total : Nat)

/-! ### The release (R175, R176, R179, R189, R199) -/

/-- An angle's move toward a target by at most `step`, the shorter way. -/
def turnToward (x y step : Rat) : Rat :=
  let d := Config.wrapPi (y - x)
  if |d| ≤ step then y else if 0 < d then x + step else x - step

/-- η_ref at step 0 as F32 bits, and whether it differs from the setpoint (R176). -/
def State.refNow (s : State) : (Nat × Nat × Nat) × Bool :=
  let b := s.objBytes Obj.PLAN_SETPOINT
  let want := (toF32 (ofF64 (leAt b 0 8)), toF32 (ofF64 (leAt b 8 8)), toF32 (ofF64 (leAt b 16 8)))
  let r := match (s.stage 3).latest with
    | some a =>
      let p := planRecord a 1 + 64
      (s.u32At p, s.u32At (p + 4), s.u32At (p + 8))
    | none => match (s.stage 1).latest with
      | some a => (toF32 (s.f64At (a + 51200)), toF32 (s.f64At (a + 51208)), toF32 (s.f64At (a + 51216)))
      | none => want
  (r, r != want)

/-- ι_0 as F32 bits (R175). -/
def State.iotaNow (s : State) : Nat × Nat × Nat :=
  let p := s.stages.plan
  let lim := s.cfgV Obj.PLAN_I_LIMIT
  let cut := fun (n : Nat) => toF32 (max (-lim) (min lim (ofF32 n)))
  match (s.stage 3).latest with
  | some a =>
    if p.mode != s.objN Obj.PLAN_MODE || p.setpoint != s.objBytes Obj.PLAN_SETPOINT then (0, 0, 0) else
    let q := planRecord a 1 + 24
    (cut (s.u32At q), cut (s.u32At (q + 4)), cut (s.u32At (q + 8)))
  | none => (0, 0, 0)

/-- A planning cycle released. -/
def State.planRelease (s : State) (x : PlanInputs) : State :=
  let tref := s.period 500 + 500000000
  let last := s.stage 3
  let s := s.releaseStage .planning 3 tref 150000 [1]
  let pl := s.stages.plan
  let mask := maskOf s.canPlan
  let e := (tref - pl.iterTref) / 500000000
  let s := (List.range 32).foldl (fun (u : State) t =>
    let u := u.setObjN Obj.TH_IN_PLAN (ofBool (bitOf mask t)) t
    if bitOf mask t then (u.setObjN Obj.TH_PIECE (u.pieceNow t e (x.azimuth.getD t 0)) t).nextFresh else u) s
  let (scen, iter) := s.counts
  let sec := s.now 0 / 1000000000
  let span := max 1 (s.cfgN Obj.PLAN_RESEED_S)
  let turn := sec / span
  let seed := seedOf (s.objN Obj.CLAIM_EPOCH) (s.cfgN Obj.PLAN_SEED_SALT) turn
  let reseeded := match pl.seedAt with | some t => t != span * turn | none => false
  let g : Signature :=
    { mask, scen, branch := s.cfgN Obj.PLAN_BRANCH_STEP, horizon := s.cfgN Obj.PLAN_HORIZON
      sig := s.constraintSig mask, mode := s.objN Obj.PLAN_MODE }
  let mapped := match pl.iterate with | some o => mappedFraction o g e | none => 0
  let cold := pl.iterate.isNone || decide (mapped < 1 / 2)
  let remapped := !cold && pl.iterate != some g
  let (r, moving) := s.refNow
  let fewer := decide (iter < s.cfgN Obj.PLAN_ITER)
  let flags := (last.latestFlags &&& 0x120) ||| flagBit remapped 3 ||| flagBit cold 4 |||
    flagBit (fewer || decide (scen < s.cfgN Obj.PLAN_SCENARIOS)) 7 ||| flagBit x.outside 9 ||| flagBit reseeded 10 |||
    flagBit moving 11 ||| flagBit fewer 12
  let iota := s.iotaNow
  let mode := s.objN Obj.PLAN_MODE
  let setpoint := s.objBytes Obj.PLAN_SETPOINT
  let s := s.setPlan fun p =>
    { p with cand := g, scen, iter, seedAt := some (span * turn), seed, reseed := turn % 2 ^ 24, ref_ := r, iota, mode
             setpoint, mapped }
  (s.setObj Obj.PLANST_SIGNATURE (.bytes g.bytes)).addFlags 3 flags

/-- PLANNING_RELEASE: a planning cycle is released at P + PLAN_RELEASE (R189); its chain is submitted by the core's own
writes. -/
def execPlanningRelease (x : PlanInputs) (s : State) : Host.Outcome State Fault Refusal :=
  .next (if s.pipeRun then s.planRelease x else s)

/-! ### What a published plan changes (R200, R202, R443) -/

/-- Members signature (R438). -/
def State.membersSig (s : State) : Nat :=
  crc32 (leBytes 1 (s.objN Obj.SET_SET_ID) ++ (List.range 3).flatMap fun k => leBytes 2 (s.objN Obj.CLAIM_MEMBERS 0 k))

/-- The plan summary of a published plan (table of R443); `est` is the body of the estimate that it pinned. -/
def State.summaryOf (s : State) (a flags : Nat) (est : Option Nat) : PlanSummary :=
  let e := est.getD 0
  let has := est.isSome
  let n := fun (p k : Nat) => if has then leNat (Memory.getList s.mem p k) else 0
  let ann := planRecord a 239 + 336
  { claim := s.rd Reg.CG_CLAIM_CLAIM, setId := s.objN Obj.SET_SET_ID, planTref := stampNs (s.stage 3).latestTref
    planFlags := flags, estTref := n (e - 48) 6 * 1000000000 + n (e - 40) 4, estFlags := n (e - 60) 4
    north := n (e + 51200) 8, east := n (e + 51208) 8
    heading := if has then toF64 (Config.wrapTwoPi (s.f64At (e + 51216))) else 0
    velocity := if has then [3, 4, 5].map fun w => toF32 (s.f64At (e + 51200 + 8 * w)) else [0, 0, 0]
    mask := s.u32At (ann + 4), resid := [s.u32At (ann + 20), s.u32At (ann + 24), s.u32At (ann + 28)]
    violation := s.u32At (ann + 32), signature := (List.range 16).map fun k => leNat (Memory.getList s.mem (ann + 4 + k) 1)
    phase := s.fabric.pipe.phases, sig := s.membersSig, configSig := s.configSig
    caCycle := s.objN Obj.CAST_CA_CYCLE % 2 ^ 32, caVerdicts := s.stages.ca.verdicts, epoch := s.objN Obj.CLAIM_EPOCH }

/-- The 16 allocation frames of a published plan. -/
def State.allocOf (s : State) (a : Nat) (p : PlanSummary) : List AllocFrame :=
  (List.range 16).map fun part =>
    { planTref := p.planTref, part, mask := p.mask
      force := (List.range 15).map fun k => (List.range 32).map fun t => s.forceAt a (15 * part + k) t }

/-- The plan's summary and allocation sent to the peers and kept for the vote. -/
def State.sendPlan (s : State) (a flags : Nat) (est : Option Nat) : State :=
  let p := s.summaryOf a flags est
  let fs := s.allocOf a p
  let s : State := { s with claims := { s.claims with ownSummary := some p, ownAlloc := fs } }
  if s.control then fs.foldl (fun (t : State) f => t.sendAllBoth (.allocation f)) (s.sendAllBoth (.summary p)) else s

/-- A published planning body: the objects of 0x5100, the ALARM or EVENT of R202, and the frames to the peers. -/
def State.afterPlan (s : State) (a flags : Nat) (est : Option Nat) : State :=
  let ann := planRecord a 239 + 336
  let n := fun (off k : Nat) => leNat (Memory.getList s.mem (ann + off) k)
  let inc := fun (t : State) (o : ObjDef) (c : Bool) => if c then t.setObjN o ((t.objN o + 1) % 2 ^ 32) else t
  let infeasible := bitOf flags 5
  let was := s.stages.plan.infeasible
  let s := (s.setObjN Obj.PLANST_PLAN_CYCLE ((s.stage 3).latestCycle % 2 ^ 64)).setObjN Obj.PLANST_FLAGS flags
  let s := (s.setObjN Obj.PLANST_ITERATIONS (n 0 1)).setObjN Obj.PLANST_SCENARIOS_USED (n 1 1)
  let s := ((s.setObjN Obj.PLANST_RESID_P (n 20 4)).setObjN Obj.PLANST_RESID_D (n 24 4)).setObjN Obj.PLANST_GAP (n 28 4)
  let s := (s.setObjN Obj.PLANST_VIOLATION (n 32 4)).setObjN Obj.PLANST_MAPPED (n 36 4)
  let s := s.shiftedRun Obj.PLANST_SHIFTED_RUN .planning (bitOf flags 2)
  let s := inc (inc (inc s Obj.PLANST_LATE (bitOf flags 1)) Obj.PLANST_COLD (bitOf flags 4)) Obj.PLANST_INFEASIBLE infeasible
  let text := if infeasible then (List.range 28).map (Config.textByte s.fresh) else []
  let s := (s.setObj Obj.PLANST_CERTIFICATE (.bytes text)).nextFresh
  let s := if !infeasible then s else if was then s.event .planning "INFEASIBLE" else s.alarm .planning "INFEASIBLE"
  let tref := stampNs (s.stage 3).latestTref
  let s := s.setPlan fun p => { p with infeasible, iterate := some p.cand, iterTref := tref }
  s.sendPlan a flags est

/-! ### The vote (R444 to R449) -/

/-- A plan in the vote. -/
structure Voter where
  /-- Device index; the own plan's is its own. -/
  index : Nat
  own : Bool
  summary : PlanSummary
  alloc : List AllocFrame

/-- Force bits of thruster t at step k. -/
def Voter.force (v : Voter) (t k : Nat) : Nat × Nat :=
  match v.alloc.find? fun f => f.part == k / 15 with
  | some f => (f.force.getD (k % 15) []).getD t (0, 0)
  | none => (0, 0)

/-- Role rank of a claim number. -/
def rankOf (claim : Nat) : Nat := claim / 2 ^ 28

/-- A peer has sent everything that the vote needs for a plan of this TREF. -/
def PeerView.hasPlan (v : PeerView) (tref : Nat) : Bool :=
  match v.summary with
  | some p => p.planTref == tref && (List.range 16).all fun k => v.alloc.any fun f => f.planTref == tref && f.part == k
  | none => false

/-- The voters of the period (R445). -/
def State.voters (s : State) (own : PlanSummary) : List Voter :=
  let good := fun (p : PlanSummary) => p.planTref == own.planTref && p.setId == s.objN Obj.SET_SET_ID &&
    p.epoch == s.objN Obj.CLAIM_EPOCH && (rankOf p.claim == 8 || rankOf p.claim == 12)
  let mine := if rankOf own.claim == 8 || rankOf own.claim == 12 then
      [(⟨s.ownIndex.getD 0, true, own, s.claims.ownAlloc⟩ : Voter)] else []
  let theirs := s.others.filterMap fun m =>
    let v := s.peer m
    if v.hasPlan own.planTref then
      v.summary.bind fun p => if good p then some (⟨m, false, p, v.alloc⟩ : Voter) else none
    else none
  (mine ++ theirs).mergeSort fun a b => decide (a.index ≤ b.index)

/-- Squared distance of two forces. -/
def dist2 (f g : Nat × Nat) : Rat :=
  let x := ofF32 f.1 - ofF32 g.1
  let y := ofF32 f.2 - ofF32 g.2
  x * x + y * y

/-- The bits of the median of three values. -/
def median3 (a b c : Nat) : Nat :=
  let xs : List Nat := [a, b, c]
  (xs.mergeSort fun x y => decide (ofF32 x ≤ ofF32 y)).getD 1 0

/-- (a + b) / 2 in binary32. -/
def meanF32 (a b : Nat) : Nat :=
  Fl.toBits fp32 (Fl.mul fp32 (Fl.add fp32 (Fl.ofBits fp32 a) (Fl.ofBits fp32 b)) (.fin (1 / 2)))

/-- How the forces of one thruster are voted (table of R446). -/
inductive VoteRule
  | zero
  | own
  | one (v : Voter)
  | mean (a b : Voter)
  | median (a b c : Voter)

/-- The rule for thruster t, and its flag bits: VOTE_TWO 8, VOTE_SINGLE 9, VOTE_OWN 10. -/
def State.voteRule (s : State) (vs : List Voter) (t : Nat) : VoteRule × Nat :=
  let bound := s.objV Obj.CLAIM_VOTE_BOUND * s.cfgV Obj.TH_T_AHEAD t
  match vs, vs.filter fun v => bitOf v.summary.mask t with
  | [], _ => (.own, 1024)
  | _, [] => (.zero, 0)
  | _, [a] => (.one a, 512)
  | _, [a, b] =>
    let near := (List.range (s.objN Obj.CLAIM_VOTE_STEPS)).all fun k => decide (dist2 (a.force t k) (b.force t k) ≤ bound * bound)
    if near then (.mean a b, 256) else (.one (if b.summary.claim < a.summary.claim then a else b), 256)
  | _, a :: b :: c :: _ => (.median a b c, 0)

/-- Voted force bits of thruster t at step k. -/
def VoteRule.force (r : VoteRule) (own : Voter) (t k : Nat) : Nat × Nat :=
  match r with
  | .zero => (0, 0)
  | .own => own.force t k
  | .one v => v.force t k
  | .mean a b =>
    let f := a.force t k
    let g := b.force t k
    (meanF32 f.1 g.1, meanF32 f.2 g.2)
  | .median a b c =>
    let f := a.force t k
    let g := b.force t k
    let h := c.force t k
    (median3 f.1 g.1 h.1, median3 f.2 g.2 h.2)

/-- Squared distance of a plan from the vote, relative to T_AHEAD (R447). -/
def State.planDist2 (s : State) (own v : Voter) (rules : List VoteRule) : Rat :=
  let ts := (List.range 32).filter fun t => bitOf v.summary.mask t
  ts.foldl (fun (m : Rat) t =>
    let a := s.cfgV Obj.TH_T_AHEAD t
    (List.range (s.objN Obj.CLAIM_VOTE_STEPS)).foldl (fun (m : Rat) k =>
      max m (dist2 (v.force t k) ((rules.getD t .zero).force own t k) / (a * a))) m) 0

/-- Comparison of estimates (R449): own estimate outside, and EST_DIFF. -/
def State.compareEst (s : State) (own : PlanSummary) : Bool × Bool :=
  let ps := (s.others.filterMap fun m => (s.peer m).summary).filter fun p => p.estTref == own.estTref
  let bound := s.objV Obj.CLAIM_EST_BOUND
  let head := s.objV Obj.CLAIM_EST_HEAD_BOUND
  let pos := fun (p : PlanSummary) => (ofF64 p.north, ofF64 p.east)
  let beyond := fun (dn de dh : Rat) => decide (bound * bound < dn * dn + de * de) || decide (head < |dh|)
  let o := pos own
  match ps with
  | [] => (false, false)
  | [p] =>
    let q := pos p
    (false, beyond (o.1 - q.1) (o.2 - q.2) (Config.wrapPi (ofF64 own.heading - ofF64 p.heading)))
  | p :: q :: _ =>
    let a := pos p
    let b := pos q
    let rel := fun (r : PlanSummary) => Config.wrapPi (ofF64 r.heading - ofF64 own.heading)
    (beyond (o.1 - median [o.1, a.1, b.1]) (o.2 - median [o.2, a.2, b.2]) (median [0, rel p, rel q]), false)

/-! ### Hand-off (R206, R207, R246) -/

/-- |T|^(3/2). -/
def pow32 (t : Rat) : Rat := if t = 0 then 0 else Config.rpow |t| (3 / 2)

/-- Thrust of a force by the thruster's type (R206). -/
def thrustOf (ty : Nat) (x y : Rat) : Rat :=
  if ty == 1 then y else if ty == 3 then x else Config.sqrt (x * x + y * y)

/-- Fraction p at which the pitch table gives τ, linear between its points and held at its ends (R166). -/
def pitchOf (b : List Byte) (tau : Rat) : Rat :=
  let v := fun i => ofF32 (leAt b (4 * i) 4)
  if tau ≤ v 0 then -1 else
  match (List.range 10).find? fun i => decide (tau ≤ v (i + 1)) with
  | some i =>
    let d := v (i + 1) - v i
    (i : Rat) / 5 - 1 + (if d = 0 then 0 else (tau - v i) / d / 5)
  | none => 1

/-- A value rounded to nearest and saturated to Q15, as 16 bits (R246). -/
def q15Of (x : Rat) : Nat := wrapInt 16 (clampInt (roundHalfUp (x * 32768)) (-32768) 32767)

/-- DRIVE, ANGLE, THRUST and AUX of one thruster at one step, with the azimuth held for the next (R206, R246). -/
def State.setpoints (s : State) (t : Nat) (scale held x y : Rat) : List Nat × Rat :=
  let ty := s.cfgN Obj.TH_TYPE t
  let ahead := s.cfgV Obj.TH_T_AHEAD t
  let thrust := scale * thrustOf ty x y
  let k := if thrust < 0 then s.cfgV Obj.TH_K_ASTERN t else s.cfgV Obj.TH_K_AHEAD t
  let rpm := if thrust < 0 then -Config.sqrt (-thrust / k) else Config.sqrt (thrust / k)
  let drive := if s.cfgN Obj.TH_CTRL_KIND t == 0 then rpm / s.cfgV Obj.TH_N_RATED t
    else pitchOf (s.cfgBytes Obj.TH_PITCH_TABLE t) (thrust / ahead)
  let dmax := s.cfgV Obj.TH_DELTA_MAX t
  let az := if ty == 1 then 0
    else if ty == 3 then
      if ahead / 100 < x then max (-dmax) (min dmax (dmax * y / (s.cfgV Obj.TH_C_LIFT t * x))) else 0
    else if thrust < ahead / 100 then held else Config.atan2 y x
  let aux := if ty == 4 then (if 0 ≤ x then 0x4000 else 0xC000) else 0
  ([q15Of drive, q15Of (Config.wrapPi az / Config.pi), q15Of (thrust / ahead), aux], az)

/-- κ of each bus at a step, where its exact load passes P_AVAIL (R207). -/
def State.busScale (s : State) (mask : Nat) (f : Nat → Nat × Nat) (b : Nat) : Option Rat :=
  let ts := (List.range 32).filter fun t => bitOf mask t && s.cfgN Obj.TH_BUS t == b
  let idle := ts.foldl (fun (a : Rat) t => a + s.cfgV Obj.TH_P_IDLE t) 0
  let draw := ts.foldl (fun (a : Rat) t =>
    a + s.cfgV Obj.TH_K_POWER t * pow32 (thrustOf (s.cfgN Obj.TH_TYPE t) (ofF32 (f t).1) (ofF32 (f t).2))) 0
  let avail := s.objV Obj.BUS_P_AVAIL b
  if idle + draw ≤ avail then none
  else if avail ≤ idle then some 0 else some (Config.rpow ((avail - idle) / draw) (2 / 3))

/-- Load of a bus at a step (R167). -/
def State.busLoad (s : State) (mask : Nat) (f : Nat → Nat × Nat) (b : Nat) : Rat :=
  ((List.range 32).filter fun t => bitOf mask t && s.cfgN Obj.TH_BUS t == b).foldl (fun (a : Rat) t =>
    a + s.cfgV Obj.TH_P_IDLE t +
      s.cfgV Obj.TH_K_POWER t * pow32 (thrustOf (s.cfgN Obj.TH_TYPE t) (ofF32 (f t).1) (ofF32 (f t).2))) 0

/-- The 1,920 bytes of a thruster in the trajectory buffer. -/
def State.trajThruster (s : State) (mask : Nat) (f : Nat → Nat → Nat × Nat) (t : Nat) : List Byte :=
  if !bitOf mask t then List.replicate 1920 0 else
  let bus := s.cfgN Obj.TH_BUS t
  let go := fun (st : List Byte × Rat) (k : Nat) =>
    let v := f t k
    let scale := (s.busScale mask (fun i => f i k) bus).getD 1
    let r := s.setpoints t scale st.2 (ofF32 v.1) (ofF32 v.2)
    (st.1 ++ r.1.flatMap (leBytes 2), r.2)
  ((List.range 240).foldl go ([], 0)).1

/-- The trajectory buffer of R246. -/
def State.trajBytes (s : State) (mask valid flags cycle : Nat) (f : Nat → Nat → Nat × Nat) : List Byte :=
  let head := leBytes 2 1 ++ leBytes 2 240 ++ leBytes 4 mask ++ leBytes 6 (valid / 1000000000) ++ [0, 0] ++
    leBytes 4 (valid % 1000000000) ++ leBytes 4 flags ++ leBytes 8 cycle ++ leBytes 1 (s.objN Obj.CLAIM_EPOCH) ++
    List.replicate 27 0
  let body := (List.range 32).flatMap (s.trajThruster mask f)
  head ++ leBytes 4 (crc32 (head ++ body)) ++ body

/-- The vote of a period made, published as stage 5 in the slot whose body lies at `dst`, and converted (R446 to R448). -/
def State.makeVote (s : State) (dst : Nat) (own : PlanSummary) (body : Nat) : State :=
  let me : Voter := ⟨s.ownIndex.getD 0, true, own, s.claims.ownAlloc⟩
  let vs := s.voters own
  let rs := (List.range 32).map (s.voteRule vs)
  let rules := rs.map (·.1)
  let force := fun (t k : Nat) => (rules.getD t .zero).force me t k
  let bound := s.objV Obj.CLAIM_VOTE_BOUND
  let d2 := s.planDist2 me me rules
  let outside := decide (bound * bound < d2)
  let peerOut := vs.any fun v => !v.own && decide (bound * bound < s.planDist2 me v rules)
  let (estOut, estDiff) := s.compareEst own
  let how := rs.foldl (fun a r => a ||| r.2) 0
  let planFlags := vs.foldl (fun a v => a ||| v.summary.planFlags) 0
  let flags := (planFlags &&& 0xFE) ||| how ||| flagBit outside 11 ||| flagBit peerOut 12 ||| flagBit estDiff 14
  let mask := if vs.isEmpty then own.mask else vs.foldl (fun a v => a ||| v.summary.mask) 0
  let cycle := (s.stage 3).latestCycle
  let s := s.releaseStage .planning 5 own.planTref 0xFFFFFFFF [3]
  let old := Memory.getList s.mem body 245760
  let out := (List.range 240).flatMap fun k =>
    (old.drop (1024 * k)).take 80 ++ ((List.range 32).flatMap fun t => leBytes 4 (force t k).1 ++ leBytes 4 (force t k).2) ++
      (old.drop (1024 * k + 336)).take 688
  let s := (s.gristPut (dst - gristBase) out).publish 5 dst flags 245760
  let out8 := fun (n : Nat) => min 255 (n + 1)
  let s := (s.setObjN Obj.CLAIMST_VOTE_FLAGS flags).setObjN Obj.CLAIMST_OWN_DISTANCE (toF32 (Config.sqrt d2))
  let s := (s.setObjN Obj.CLAIMST_OUT_RUN (if outside then out8 (s.objN Obj.CLAIMST_OUT_RUN) else 0)).setObjN
    Obj.CLAIMST_IN_RUN (if outside then 0 else out8 (s.objN Obj.CLAIMST_IN_RUN))
  let lone := how &&& 0x600 != 0
  let clean := own.planFlags &&& 0x56 == 0
  let done := s.claims.planDone || (s.claims.estDone && clean && !outside)
  let s : State := { s with claims := { s.claims with
    outside := (outside :: s.claims.outside).take 10, lone := (lone :: s.claims.lone).take 10
    estOut := (estOut :: s.claims.estOut).take 10, votedFor := some own.planTref, voteCycle := cycle
    planDone := done } }
  let s := s.setObjN Obj.CLAIMST_COMPLETE (ofBool done)
  let s := (List.range 8).foldl (fun (u : State) b =>
    let n := ((List.range 240).filter fun k => (u.busScale mask (fun t => force t k) b).isSome).length
    (u.setObjN Obj.BUS_P_PLANNED (toF32 (u.busLoad mask (fun t => force t 0) b)) b).setObjN Obj.BUS_CLAMPED
      ((u.objN Obj.BUS_CLAMPED b + n) % 2 ^ 32) b) s
  (s.gristPut s.trajSrc (s.trajBytes mask own.planTref flags cycle force)).trajCommit

/-- VOTE_START: the vote of the own plan's period, once every heard peer that offers a claim of rank 8 or 12 has sent its
plan, or at P + VOTE_END − 5 ms (R444). `slot` is the body address of a free slot of stage 5. -/
def execVoteStart (slot : Word) (s : State) : Host.Outcome State Fault Refusal :=
  match s.claims.ownSummary, (s.stage 3).latest with
  | some own, some body =>
    let waits := s.others.any fun m =>
      let v := s.peer m
      v.heard && (rankOf v.claim == 8 || rankOf v.claim == 12) && !v.hasPlan own.planTref
    let due := own.planTref + s.phaseMs 4 * 1000000 ≤ s.now 0 + 505000000
    .next (if s.pipeRun && s.claims.votedFor != some own.planTref && (!waits || decide due) then
      s.makeVote slot.toNat own body else s)
  | _, _ => .next s

end Sys2Proof.Machine
end

