-- ==== Sys2Proof/Machine/SafetyDie.lean ====
section
/-! DEFINITION. The safety die (15_safety.md): its two channels, inputs, outputs, zones, SF3, reset pulses and
Guard connections, and the safety mailbox. Durations that a channel measures on its own oscillator are those of
the command that says they have passed. -/

namespace Sys2Proof.Machine

/-! ### Safety CRC and SHA-256 -/

/-- One bit step of the reflected safety CRC (R495). -/
def safetyBit (c : Nat) : Nat := if c % 2 = 1 then (c / 2) ^^^ 0xC8DF352F else c / 2

/-- One byte step of the safety CRC. -/
def safetyByte (c : Nat) (b : Byte) : Nat :=
  safetyBit (safetyBit (safetyBit (safetyBit (safetyBit (safetyBit (safetyBit (safetyBit (c ^^^ b.toNat))))))))

/-- The safety CRC (R495). -/
def safetyCrc (b : List Byte) : Nat := (b.foldl safetyByte 0xFFFFFFFF) ^^^ 0xFFFFFFFF

/-- Round constants of SHA-256. -/
def shaK : List Nat :=
  [0x428a2f98, 0x71374491, 0xb5c0fbcf, 0xe9b5dba5, 0x3956c25b, 0x59f111f1, 0x923f82a4, 0xab1c5ed5,
   0xd807aa98, 0x12835b01, 0x243185be, 0x550c7dc3, 0x72be5d74, 0x80deb1fe, 0x9bdc06a7, 0xc19bf174,
   0xe49b69c1, 0xefbe4786, 0x0fc19dc6, 0x240ca1cc, 0x2de92c6f, 0x4a7484aa, 0x5cb0a9dc, 0x76f988da,
   0x983e5152, 0xa831c66d, 0xb00327c8, 0xbf597fc7, 0xc6e00bf3, 0xd5a79147, 0x06ca6351, 0x14292967,
   0x27b70a85, 0x2e1b2138, 0x4d2c6dfc, 0x53380d13, 0x650a7354, 0x766a0abb, 0x81c2c92e, 0x92722c85,
   0xa2bfe8a1, 0xa81a664b, 0xc24b8b70, 0xc76c51a3, 0xd192e819, 0xd6990624, 0xf40e3585, 0x106aa070,
   0x19a4c116, 0x1e376c08, 0x2748774c, 0x34b0bcb5, 0x391c0cb3, 0x4ed8aa4a, 0x5b9cca4f, 0x682e6ff3,
   0x748f82ee, 0x78a5636f, 0x84c87814, 0x8cc70208, 0x90befffa, 0xa4506ceb, 0xbef9a3f7, 0xc67178f2]

/-- Rotation of a 32-bit number to the right. -/
def rotr (n x : Nat) : Nat := x / 2 ^ n + x % 2 ^ n * 2 ^ (32 - n)

/-- The 64 words of the message schedule of a block, newest first. -/
def shaSchedule : Nat → List Nat → List Nat
  | 0, w => w
  | n + 1, w =>
    let a := w.getD 14 0
    let b := w.getD 1 0
    let s0 := rotr 7 a ^^^ rotr 18 a ^^^ (a / 2 ^ 3)
    let s1 := rotr 17 b ^^^ rotr 19 b ^^^ (b / 2 ^ 10)
    shaSchedule n (((w.getD 15 0 + s0 + w.getD 6 0 + s1) % 2 ^ 32) :: w)

/-- One round of SHA-256 on the eight working words, with a constant and a schedule word. -/
def shaRound (v : List Nat) (kw : Nat × Nat) : List Nat :=
  match v with
  | [a, b, c, d, e, f, g, h] =>
    let s1 := rotr 6 e ^^^ rotr 11 e ^^^ rotr 25 e
    let ch := (e &&& f) ^^^ ((0xFFFFFFFF - e) &&& g)
    let t1 := h + s1 + ch + kw.1 + kw.2
    let s0 := rotr 2 a ^^^ rotr 13 a ^^^ rotr 22 a
    let mj := (a &&& b) ^^^ (a &&& c) ^^^ (b &&& c)
    [(t1 + s0 + mj) % 2 ^ 32, a, b, c, (d + t1) % 2 ^ 32, e, f, g]
  | v => v

/-- The big-endian number of four bytes. -/
def beNat (b : List Byte) : Nat := b.foldl (fun n x => n * 256 + x.toNat) 0

/-- One block of 64 bytes. -/
def shaBlock (h : List Nat) (b : List Byte) : List Nat :=
  let w := ((List.range 16).map fun i => beNat ((b.drop (4 * i)).take 4)).reverse
  let v := (shaK.zip (shaSchedule 48 w).reverse).foldl shaRound h
  List.zipWith (fun x y => (x + y) % 2 ^ 32) h v

/-- SHA-256 of a byte string. -/
def sha256 (m : List Byte) : List Byte :=
  let zeros := (119 - m.length % 64) % 64
  let p := m ++ 0x80 :: List.replicate zeros 0 ++ (leBytes 8 (8 * m.length)).reverse
  let h := (List.range (p.length / 64)).foldl (fun h i => shaBlock h ((p.drop (64 * i)).take 64))
    [0x6a09e667, 0xbb67ae85, 0x3c6ef372, 0xa54ff53a, 0x510e527f, 0x9b05688c, 0x1f83d9ab, 0x5be0cd19]
  h.flatMap fun x => (leBytes 4 x).reverse

/-! ### The mailbox -/

/-- Bytes of a mailbox message before its CRC. -/
def mailBody (type : Nat) (m : MailMsg) : List Byte :=
  leBytes 1 type ++ leBytes 1 m.flags.toNat ++ leBytes 2 m.payload.length ++ leBytes 4 m.seq.toNat ++
    leBytes 4 m.stampNs.toNat ++ leBytes 4 m.stampS.toNat ++ m.payload

/-- The safety block changed. -/
def State.setSafety (s : State) (f : SafetySt → SafetySt) : State := { s with safety := f s.safety }

/-- A message that the hub sends: the mailbox fills STAMP and CRC (R346). -/
def State.sendMail (s : State) (type flags seq : Nat) (payload : List Byte) : State :=
  let t := s.stamp
  let m : MailMsg := ⟨BitVec.ofNat 8 flags, BitVec.ofNat 32 seq, BitVec.ofNat 32 t.ns, BitVec.ofNat 32 t.sec, payload, 0⟩
  let m := { m with crc := BitVec.ofNat 32 (safetyCrc (mailBody type m)) }
  s.setSafety fun d => { d with mail := d.mail ++ [(type, m)], hubSeq := (d.hubSeq + 1) % 2 ^ 32 }

/-- SEQ `q` follows the last accepted one; the first message after a reset of either end is accepted, and SEQ 0 is
the first of a sender's reset (R493). -/
def seqFollows (last : Option Nat) (q : Nat) : Bool :=
  match last with
  | none => true
  | some l => q == (l + 1) % 2 ^ 32 || q == 0

/-- Time of a mailbox stamp, ns. -/
def mailTime (m : MailMsg) : Nat := m.stampS.toNat * 1000000000 + m.stampNs.toNat

/-! ### Parameters of the die -/

/-- A parameter as the die holds it. -/
def State.sparam (s : State) (o : ObjDef) (i k : Nat := 0) : Val := Map.get (o.default i) s.safety.cfg (o.key i k)

/-- A numeric parameter as the die holds it. -/
def State.sp (s : State) (o : ObjDef) (i k : Nat := 0) : Nat := (s.sparam o i k).toNat

/-- A parameter of the configuration image (R501): an ACTION object of 0x9810–0x987F. -/
def ObjDef.safetyParam (o : ObjDef) : Bool := o.isAction && decide (0x9810 ≤ o.base ∧ o.base < 0x9880)

/-- The configuration image of the dictionary's safety parameters (R501). -/
def State.safetyImage (s : State) : List Byte :=
  let rows := Obj.table.filter (·.safetyParam)
  (List.range 0x70).flatMap fun d =>
    (rows.filter (·.hasIndex (0x9810 + d))).flatMap fun o =>
      (List.range o.ns).flatMap fun k =>
        let v := Val.wire o.ty (s.obj o (0x9810 + d - o.base) k)
        leBytes 2 (0x9810 + d) ++ leBytes 1 (o.sub + k) ++ leBytes 1 v.length ++ v

/-- The parameters that a configuration image holds. -/
def readImage : Nat → List Byte → Map Val
  | 0, _ => []
  | n + 1, b =>
    if b.length < 4 then [] else
    let index := leAt b 0 2
    let sub := leAt b 2 1
    let len := leAt b 3 1
    let rest := readImage n (b.drop (4 + len))
    match Obj.table.find? fun o => o.safetyParam && o.hasIndex index && o.hasSub sub with
    | some o => Map.put rest (o.key (index - o.base) (sub - o.sub)) (Val.ofWire o.ty ((b.drop 4).take len))
    | none => rest

/-- Sector entries of zone z: thruster, START, END (0x983z.02). -/
def State.zoneSectors (s : State) (z : Nat) : List (Nat × Nat × Nat) :=
  let b := (s.sparam Obj.ZONE_SECTORS z).toBytes
  (List.range (b.length / 6)).map fun i => (leAt b (6 * i) 1, leAt b (6 * i + 2) 2, leAt b (6 * i + 4) 2)

/-! ### Evaluation of the channels -/

/-- Channel c. -/
def State.chan (s : State) (c : Nat) : SafeChan := Map.get {} s.safety.chans c

/-- Channel c changed. -/
def State.setChan (s : State) (c : Nat) (f : SafeChan → SafeChan) : State :=
  s.setSafety fun d => { d with chans := Map.upd {} d.chans c f }

/-- A source of demands, with its cause bit. -/
structure Demand where
  sf1 : Nat
  zones : Nat
  sf3 : Bool
  cause : Nat
  deriving DecidableEq, Repr

/-- The demand that the contact of input n in channel c makes by its level (R481). -/
def State.rawDemand (s : State) (n c : Nat) : Bool :=
  let open_ := !bitOf s.safety.closed (2 * n + c)
  if c == 1 && s.sp Obj.SI_TYPE n == 1 then !open_ else open_

/-- Demands of the safe inputs in channel c (R481, R482). -/
def State.inputDemands (s : State) (c : Nat) : List Demand :=
  let h := s.chan c
  (List.range 8).filterMap fun n =>
    let f := s.sp Obj.SI_FUNCTION n
    let fault := bitOf s.safety.inputFault n
    if f != 0 && (bitOf h.filt n || bitOf h.other n || fault) then
      some ⟨if f == 1 then s.sp Obj.SI_THRUSTERS n else 0, if f == 2 then s.sp Obj.SI_ZONES n else 0, f == 3,
        if fault then 6 else 0⟩
    else none

/-- The hub's TRIP_REQUEST (R493). -/
def State.hubDemand (s : State) : Demand := ⟨s.safety.reqSf1, s.safety.reqZones, s.safety.reqSf3, 3⟩

/-- The connection is a receive connection. -/
def State.isRx (s : State) (k : Nat) : Bool := s.sp Obj.GUARD_DIR k == 1

/-- State of receive connection k in channel c: FAILED while the mapping is not valid (R498). -/
def State.connState (s : State) (c k : Nat) : Nat :=
  let h := s.chan c
  if h.timeOk then (Map.get {} h.conns k).st else 2

/-- Payload that receive connection k contributes in channel c: its last PDU's while RUNNING, else SAFE (R500). -/
def State.connPayload (s : State) (c k : Nat) : List Byte :=
  if s.connState c k == 1 then ((Map.get {} (s.chan c).conns k).last.drop 20).take 32
  else (s.sparam Obj.GUARD_SAFE k).toBytes

/-- Demands of the receive connections in channel c. A STATUS payload demands nothing but through SF3. -/
def State.guardDemands (s : State) (c : Nat) : List Demand :=
  ((List.range 16).filter s.isRx).map fun k =>
    let b := s.connPayload c k
    let run := s.connState c k == 1
    if run && leAt b 0 1 == 2 then ⟨0, 0, false, 1⟩ else ⟨leAt b 4 4, leAt b 1 1, false, if run then 1 else 2⟩

/-- The simulated demand of a TEST session (R508). -/
def State.testDemands (s : State) : List Demand :=
  if s.safety.state == 3 && s.safety.test.any (· != 0) then
    [⟨leAt s.safety.test 4 4, leAt s.safety.test 1 1, leAt s.safety.test 2 1 == 1, 21⟩]
  else []

/-- Bit mask of a cause. -/
def causeBit (b : Bool) (n : Nat) : Nat := if b then 2 ^ n else 0

/-- Causes of the own SF3 evaluation in channel c (R488); 0 is clear. -/
def State.ownSf3 (s : State) (c : Nat) (srcs : List Demand) : Nat :=
  let h := s.chan c
  let ur := s.sp Obj.SF3_UNKNOWN_RED != 0
  let (red, unk) := match s.safety.ca with
    | some a => (a.wcf == 3, ur && (a.wcf == 4 || bitOf a.flags 3))
    | none => (false, false)
  let hold := match s.safety.pos with
    | some p => p.mode == 0 || p.mode == 3
    | none => false
  (srcs.filter (·.sf3)).foldl (fun m d => m ||| 2 ^ d.cause)
    (causeBit red 10 ||| causeBit unk 11 ||| causeBit h.caLost 12 ||| causeBit h.posRed 13 ||| causeBit h.posLost 14 |||
      causeBit hold 15)

/-- Receive connections that SF3_CONNS lists, each with whether it is red in channel c (R489). -/
def State.sf3Conns (s : State) (c : Nat) : List (Nat × Bool) :=
  ((List.range 16).filter fun k => bitOf (s.sp Obj.SF3_SF3_CONNS) k && s.isRx k).map fun k =>
    (k, s.connState c k != 1 || leAt (s.connPayload c k) 2 1 == 1)

/-- Causes of a red SF3 in channel c; 0 while SF3 is clear (R489). Outside CONTROL role there is no own evaluation,
and an input, TRIP_REQUEST or TEST_DEMAND that asks for SF3 trips its outputs by itself (function table). -/
def State.sf3Causes (s : State) (c own : Nat) (srcs : List Demand) : Nat :=
  let conns := s.sf3Conns c
  let votes := (if s.control then [own != 0] else []) ++ conns.map (·.2)
  let red := (votes.filter id).length
  let need := if votes.length < s.sp Obj.SF3_SF3_NEED then 1 else s.sp Obj.SF3_SF3_NEED
  let byVote := if red != 0 && decide (need ≤ red) then
      (conns.filter (·.2)).foldl (fun m k => m ||| 2 ^ (if s.connState c k.1 == 1 then 1 else 2)) own
    else 0
  if s.control then byVote else (srcs.filter (·.sf3)).foldl (fun m d => m ||| 2 ^ d.cause) byVote

/-- Output k lies in function 2 and its THRUSTERS hold thruster t. -/
def State.supervises (s : State) (k t : Nat) : Bool :=
  s.sp Obj.SO_FUNCTION k == 2 && bitOf (s.sp Obj.SO_THRUSTERS k) t

/-- Sector supervision covers thruster t while the zones of `zones` are active (R485). -/
def State.supervised (s : State) (zones t : Nat) : Bool :=
  (List.range 8).any (fun k => s.supervises k t) &&
    (List.range 8).any fun z => bitOf zones z && (s.zoneSectors z).any (·.1 == t)

/-- Causes by which output k of channel c trips, with `zones` active (R483 to R489, R494). -/
def State.outCauses (s : State) (h : SafeChan) (srcs : List Demand) (sf3 zones k : Nat) : Nat :=
  let f := s.sp Obj.SO_FUNCTION k
  let thr := s.sp Obj.SO_THRUSTERS k
  let loss := causeBit (f != 0 && h.hubLost && s.sp Obj.SO_HUB_LOSS k == 1) 4
  let own := match f with
    | 1 => (srcs.filter fun d => d.sf1 &&& thr != 0).foldl (fun m d => m ||| 2 ^ d.cause) 0
    | 2 =>
      ((List.range 8).filter fun z => bitOf zones z && bitOf (s.sp Obj.SO_ZONES k) z).foldl (fun m z =>
        let sup := ((s.zoneSectors z).map (·.1)).filter (bitOf thr)
        m ||| (if s.sp Obj.ZONE_BLOCK_MASK z &&& thr != 0 then Map.get 0 h.zcause z else 0) |||
          causeBit (sup.any (bitOf h.azFault)) 8 ||| causeBit (sup.any (bitOf h.sector)) 9) 0
    | 3 => sf3
    | _ => 0
  loss ||| own

/-- Causes that hold for every output by the state of the die (table of states; R477, R573). -/
def State.baseCauses (s : State) : Nat :=
  let d := s.safety
  causeBit (!d.vio33s) 5 ||| causeBit (d.state == 0 || d.state == 5) 17 ||| causeBit (d.state == 2 || d.state == 4) 18 |||
    causeBit (d.state == 6) 20

/-- An accepted reset pulse on SRSTk with what held at its rising edge (R490). -/
structure Clear where
  k : Nat
  rise : Rise
  deriving DecidableEq, Repr

/-- Channel c evaluated from the inputs, demands and messages that it holds (R476), with an accepted reset pulse. -/
def State.evalChan (s : State) (c : Nat) (clr : Option Clear) : SafeChan :=
  let h := s.chan c
  let own0 := s.inputDemands c ++ [s.hubDemand]
  let srcs := own0 ++ s.guardDemands c ++ s.testDemands
  let zd := srcs.foldl (fun m d => m ||| d.zones) 0 % 256
  let cleared : Nat → Bool := fun z => match clr with
    | some x => s.sp Obj.ZONE_RESET_INPUT z == x.k && !bitOf zd z && !bitOf x.rise.zd z
    | none => false
  let kept := ((List.range 8).filter fun z => bitOf h.zones z && !cleared z).foldl (fun m z => m + 2 ^ z) 0
  let zones := kept ||| zd
  let zcause := (List.range 8).foldl (fun m z =>
    let by_ := (srcs.filter fun d => bitOf d.zones z).foldl (fun x d => x ||| 2 ^ d.cause) 0
    Map.put m z (if bitOf zones z then (if bitOf kept z then Map.get 0 h.zcause z else 0) ||| by_ else 0)) []
  let covered := ((List.range 32).filter (s.supervised zones)).foldl (fun m t => m + 2 ^ t) 0
  let own := if s.control then s.ownSf3 c (own0 ++ s.testDemands) else 0
  let sf3 := s.sf3Causes c own (own0 ++ s.testDemands)
  let h := { h with
    zones := zones, zcause := zcause, zd := zd, own := own, red := sf3 != 0,
    azFault := h.azFault &&& covered, sector := h.sector &&& covered }
  let base := s.baseCauses
  (List.range 8).foldl (fun (h : SafeChan) k =>
    let cur := s.outCauses h srcs sf3 zones k ||| base
    let dem := s.outCauses h srcs sf3 zd k ||| base
    let h := match clr with
      | some x =>
        if s.sp Obj.SO_RESET_INPUT k == x.k && cur == 0 && !bitOf x.rise.dem k then
          { h with trip := clearBit h.trip k, lcause := Map.put h.lcause k 0 }
        else h
      | none => h
    let h := if cur != 0 then
        { h with trip := setBit h.trip k, lcause := Map.upd 0 h.lcause k (· ||| cur) }
      else h
    { h with dem := if dem != 0 then setBit h.dem k else clearBit h.dem k }) h

/-- Outputs that channel c decides to energize (R476, R480, R483). -/
def State.decision (s : State) (c : Nat) : Nat :=
  let h := s.chan c
  if s.safety.live && s.safety.vio33s && (s.safety.state == 1 || s.safety.state == 3) && !s.bench && !h.dead then
    ((List.range 8).filter fun k => s.sp Obj.SO_FUNCTION k != 0 && !bitOf h.trip k).foldl (fun m k => m + 2 ^ k) 0
  else 0

/-- Elements that channel c closes: its decision, without the outputs whose element it keeps open (R478). -/
def State.elements (s : State) (c : Nat) : Nat :=
  ((List.range 8).filter fun k => bitOf (s.decision c) k && !bitOf (s.chan c).swf k).foldl (fun m k => m + 2 ^ k) 0

/-- Outputs that are energized: both elements are closed (R475). -/
def State.energized (s : State) : Nat := s.elements 0 &&& s.elements 1

/-- Both channels evaluated anew. -/
def State.safetyEval (s : State) (clr : Option Clear := none) : State :=
  if s.safety.live then
    let a := s.evalChan 0 clr
    let b := s.evalChan 1 clr
    s.setSafety fun d => { d with chans := Map.put (Map.put d.chans 0 a) 1 b }
  else s

/-- A record that the die reports through the hub. -/
def State.dieAlarm (s : State) (name : String) : State := if s.hub.operational then s.alarm .safety name else s

/-- An EVENT that the die reports through the hub. -/
def State.dieEvent (s : State) (name : String) : State := if s.hub.operational then s.event .safety name else s

/-- The die enters FAULT: every element opens (R477). -/
def State.dieFault (s : State) : State :=
  (s.setSafety fun d => { d with state := 6 }).safetyEval.dieAlarm "CHANNEL_FAULT"

/-! ### Inputs, outputs and reset pulses -/

/-- VSAFE_GOOD (R480, R492): the die restarts. Its parameters, latches and connections are lost; the levels at its
balls, and what Cask holds, stay. -/
def execVsafeGood (s : State) : Host.Outcome State Fault Refusal :=
  let d := s.safety
  let up : SafeChan := { lcause := (List.range 8).map fun k => (k, 2 ^ 5) }
  let s := { s with safety := { d with
    live := true, state := 0, chans := [(0, up), (1, up)], stuck := d.srst, rises := [], inputFault := 0, faulted := 0,
    differ := false, reqSf1 := 0, reqZones := 0, reqSf3 := false, ca := none, pos := none, az := [], cfg := [],
    ccvA := 0, ccvB := 0, rejected := [], dieLast := none, dieSeq := 0, txSeq := [], guardTx := [], resetCounts := [],
    test := [] } }
  let s := s.safetyEval
  .next (if d.srst != 0 then s.dieAlarm "RESET_STUCK" else s)

/-- SAFETY_OVERTEMP (R584). -/
def execSafetyOvertemp (s : State) : Host.Outcome State Fault Refusal :=
  .next (if s.safety.live then s.dieFault else s)

/-- VIO33_S_GOOD (R564, R573): the elements may close again. -/
def execVio33SGood (s : State) : Host.Outcome State Fault Refusal :=
  .next (s.setSafety fun d => { d with vio33s := true }).safetyEval

/-- SI_CONTACT_CHANGE (R481): the level of a contact. -/
def execSiContactChange (n : Fin 8) (ch : Fin 2) (closed : Bool) (s : State) : Host.Outcome State Fault Refusal :=
  let b := 2 * n.val + ch.val
  .next (s.setSafety fun d => { d with closed := if closed then setBit d.closed b else clearBit d.closed b }).safetyEval

/-- SI_FILTER_EXPIRY (R481): the channel takes the contact's state. -/
def execSiFilterExpiry (n : Fin 8) (ch : Fin 2) (s : State) : Host.Outcome State Fault Refusal :=
  let dem := s.rawDemand n.val ch.val
  .next (if s.safety.live then
      (s.setChan ch.val fun h =>
        { h with filt := if dem then setBit h.filt n.val else clearBit h.filt n.val }).safetyEval
    else s)

/-- INPUT_FAULT of input n (R481, R482). -/
def State.inputFault (s : State) (n : Nat) : State :=
  (s.setSafety fun d => { d with inputFault := setBit d.inputFault n }).safetyEval

/-- DISCREPANCY_TIMEOUT (R481). -/
def execDiscrepancyTimeout (n : Fin 8) (s : State) : Host.Outcome State Fault Refusal :=
  .next (if s.safety.live && s.sp Obj.SI_FUNCTION n.val != 0 && s.rawDemand n.val 0 != s.rawDemand n.val 1 then
    s.inputFault n.val else s)

/-- TEST_SOURCE_CHECK (R481): whether the contact shows the off-pulses of its test source. -/
def execTestSourceCheck (n : Fin 8) (ch : Fin 2) (shown : Bool) (s : State) : Host.Outcome State Fault Refusal :=
  let _ := ch
  .next (if s.safety.live && s.sp Obj.SI_FUNCTION n.val != 0 && !shown then s.inputFault n.val else s)

/-- CROSS_LINK_EXCHANGE (R477): each channel takes the other's input demands, and the decisions are compared. -/
def execCrossLinkExchange (s : State) : Host.Outcome State Fault Refusal :=
  if s.safety.live then
    let a := (s.chan 0).filt
    let b := (s.chan 1).filt
    let s := s.setChan 0 fun h => { h with other := b }
    let s := (s.setChan 1 fun h => { h with other := a }).safetyEval
    .next (s.setSafety fun d => { d with differ := s.decision 0 != s.decision 1 })
  else .next s

/-- CHANNEL_FAULT (R477): the decisions have differed for more than 20 ms. -/
def execChannelFault (s : State) : Host.Outcome State Fault Refusal :=
  .next (if s.safety.live && s.safety.differ && s.decision 0 != s.decision 1 then s.dieFault else s)

/-- SAFETY_WATCHDOG_EXPIRY (R477): the elements of the channel open. -/
def execSafetyWatchdogExpiry (ch : Fin 2) (s : State) : Host.Outcome State Fault Refusal :=
  .next (if s.safety.live then (s.setChan ch.val fun h => { h with dead := true }).safetyEval else s)

/-- SWITCH_FAULT of an output seen by channel c (R478). -/
def State.switchFault (s : State) (k c : Nat) : State :=
  let s := s.setChan c fun h =>
    { h with swf := setBit h.swf k, trip := setBit h.trip k, lcause := Map.upd 0 h.lcause k (· ||| 2 ^ 7) }
  ((s.setSafety fun d => { d with faulted := setBit d.faulted k }).safetyEval).dieAlarm "SWITCH_FAULT"

/-- SWITCH_FAULT (R478): an element that its channel has opened still conducts 2 ms later. -/
def execSwitchFault (out : Fin 8) (ch : Fin 2) (s : State) : Host.Outcome State Fault Refusal :=
  .next (if s.safety.live && !bitOf (s.elements ch.val) out.val then s.switchFault out.val ch.val else s)

/-- TEST_PULSE (R479): the channel opens its element of an energized output and reads back whether it conducts. The
element closes again within 300 µs. -/
def execTestPulse (out : Fin 8) (ch : Fin 2) (conducts : Bool) (s : State) : Host.Outcome State Fault Refusal :=
  .next (if bitOf s.energized out.val && s.sp Obj.SO_TEST_PULSE out.val != 0 && conducts then
    s.switchFault out.val ch.val else s)

/-- RESET_PULSE_RISE (R490, R492): the level, and what the channels hold at the edge. `clean` names the inputs whose
contacts have read the no-demand state together for 100 ms (R482). -/
def execResetPulseRise (k : Fin 4) (clean : BitVec 8) (s : State) : Host.Outcome State Fault Refusal :=
  let s := s.setSafety fun d => { d with srst := setBit d.srst k.val }
  if s.safety.live && !bitOf s.safety.stuck k.val then
    let a := s.chan 0
    let b := s.chan 1
    let now := ((List.range 8).filter fun n => bitOf clean.toNat n && !s.rawDemand n 0 && !s.rawDemand n 1).foldl
      (fun m n => m + 2 ^ n) 0
    .next (s.setSafety fun d => { d with rises := Map.put d.rises k.val (some ⟨a.zd ||| b.zd, a.dem ||| b.dem, now⟩) })
  else .next s

/-- Bytes of 0x9800.0B. -/
def State.resetCountBytes (s : State) : List Byte :=
  (List.range 16).flatMap fun j => leBytes 4 (Map.get 0 s.safety.resetCounts j)

/-- A pulse counted: 0 accepted, 1 LONG, 2 SHORT, 3 DISAGREE (R491). -/
def State.countPulse (s : State) (k j : Nat) : State :=
  let s := s.setSafety fun d => { d with resetCounts := Map.upd 0 d.resetCounts (4 * k + j) fun n => (n + 1) % 2 ^ 32 }
  s.setObj Obj.SAFE_RESET_COUNTS (.bytes s.resetCountBytes)

/-- RESET_PULSE_FALL (R490, R491): the high level lasted `usA` µs on channel A's oscillator and `usB` on channel B's.
An accepted pulse clears the zones that name SRSTk and then the outputs, and ends the INPUT_FAULT of the inputs
that name it (R482). -/
def execResetPulseFall (k : Fin 4) (usA usB : Nat) (s : State) : Host.Outcome State Fault Refusal :=
  let s := s.setSafety fun d => { d with srst := clearBit d.srst k.val }
  match Map.get none s.safety.rises k.val with
  | some r =>
    let s := s.setSafety fun d => { d with rises := Map.put d.rises k.val none }
    let ok (us : Nat) : Bool := decide (50000 ≤ us ∧ us ≤ 2000000)
    if ok usA && ok usB then
      let s := s.countPulse k.val 0
      let keep (n : Nat) : Bool :=
        bitOf s.safety.inputFault n && !(bitOf r.clean n && s.sp Obj.SI_RESET_INPUT n == k.val)
      let faults := ((List.range 8).filter keep).foldl (fun m n => m + 2 ^ n) 0
      let s := s.setSafety fun d => { d with inputFault := faults }
      .next (s.safetyEval (some ⟨k.val, r⟩))
    else if ok usA || ok usB then .next (s.countPulse k.val 3)
    else if 2000000 < usA then .next ((s.countPulse k.val 1).dieEvent "RESET_LONG")
    else .next (s.countPulse k.val 2)
  | none => .next s

/-- RESET_STUCK_CLEAR (R492): the input has read low for 100 ms. -/
def execResetStuckClear (k : Fin 4) (s : State) : Host.Outcome State Fault Refusal :=
  .next (if bitOf s.safety.srst k.val then s
    else s.setSafety fun d => { d with stuck := clearBit d.stuck k.val })

/-! ### Messages to the die -/

/-- The mapping of channel c takes a stamp: local time `l`, TB0 time `t` (R498). The ratio is taken once in each
second of local time. -/
def SafeChan.takeStamp (h : SafeChan) (l t : Nat) : SafeChan :=
  let h := { h with anchor := some (l, t) }
  match h.window with
  | none => { h with window := some (l, t) }
  | some (l0, t0) =>
    if l < l0 + 1000000000 then h else
    let r : Rat := ((t : Int) - (t0 : Int) : Rat) / ((l : Int) - (l0 : Int) : Rat)
    let steady := match h.ratio with
      | some q => decide (|r - q| < 2 / 1000 * |q|)
      | none => true
    { h with window := some (l, t), ratio := some r,
             timeOk := decide ((97 : Rat) / 100 ≤ r ∧ r ≤ (103 : Rat) / 100) && steady }

/-- A receive connection fails in channel c (R500); the ALARM is raised when neither channel had it FAILED. -/
def State.connFail (s : State) (c k : Nat) : State :=
  let had := (List.range 2).any fun e => (Map.get {} (s.chan e).conns k).st == 2
  let s := s.setChan c fun h =>
    { h with conns := Map.upd {} h.conns k fun x => { x with st := 2, good := 0, rejects := [] } }
  if had then s else s.dieAlarm "GUARD_FAILED"

/-- TIME_FAULT of channel c: every receive connection is FAILED (R498). -/
def State.timeFault (s : State) (c : Nat) : State :=
  ((List.range 16).filter fun k => s.isRx k && (Map.get {} (s.chan c).conns k).st != 2).foldl
    (fun t k => t.connFail c k) s

/-- A stamp taken by both channels. -/
def State.takeStamp (s : State) (la lb t : Nat) : State :=
  let one (s : State) (c l : Nat) : State :=
    let was := (s.chan c).timeOk
    let s := s.setChan c fun h => h.takeStamp l t
    if was && !(s.chan c).timeOk then s.timeFault c else s
  one (one s 0 la) 1 lb

/-- The mailbox hands a message of the hub to the die: it leaves the hub's side. -/
def State.mailTaken (s : State) (seq : Nat) : State :=
  if s.safety.mail.any (fun m => m.2.seq.toNat == seq && m.1 != 1) && s.flag Reg.SM_STATUS_TX_BUSY then
    ((s.setSafety fun d => { d with mail := d.mail.filter fun m => m.2.seq.toNat != seq }).wr
      Reg.SM_STATUS_TX_BUSY 0).raise Reg.SM_IRQ_TX_DONE
  else s.setSafety fun d => { d with mail := d.mail.filter fun m => m.2.seq.toNat != seq }

/-- R493 at the die: a message is dropped and counted, or accepted with its stamp and handed to `f`. -/
def State.dieTake (s : State) (type : Nat) (m : MailMsg) (la lb : Nat) (f : State → State) : State :=
  let s := s.mailTaken m.seq.toNat
  if !s.safety.live then s else
  if m.crc.toNat == safetyCrc (mailBody type m) && decide (m.payload.length ≤ 4060) &&
      seqFollows s.safety.dieLast m.seq.toNat then
    let s := s.setSafety fun d => { d with dieLast := some m.seq.toNat }
    (f (s.takeStamp la lb (mailTime m))).safetyEval
  else s.incSat Reg.SM_DROPPED_DIE_DROPPED

/-- HUB_HEARTBEAT (R30, R493, R494). -/
def execHubHeartbeat (m : MailMsg) (la lb : Nat) (s : State) : Host.Outcome State Fault Refusal :=
  .next (s.dieTake 1 m la lb fun s =>
    (s.setChan 0 fun h => { h with hubLost := false }).setChan 1 fun h => { h with hubLost := false })

/-- HUB_LOST (R30, R494): channel c has seen no heartbeat for 25 ms. -/
def execHubLost (ch : Fin 2) (s : State) : Host.Outcome State Fault Refusal :=
  .next (if s.safety.live then (s.setChan ch.val fun h => { h with hubLost := true }).safetyEval else s)

/-- CA_STATUS (R232, R488). A payload whose own CRC fails counts as missing. -/
def execCaStatus (m : MailMsg) (la lb : Nat) (s : State) : Host.Outcome State Fault Refusal :=
  .next (s.dieTake 2 m la lb fun s =>
    if m.payload.length == 16 && crc32 (m.payload.take 12) == leAt m.payload 12 4 then
      let s := s.setSafety fun d => { d with ca := some ⟨leAt m.payload 4 1, leAt m.payload 7 1⟩ }
      (s.setChan 0 fun h => { h with caLost := false }).setChan 1 fun h => { h with caLost := false }
    else s)

/-- The POS status shows an excursion above the red limits (R488). -/
def State.posAbove (s : State) : Bool :=
  match s.safety.pos with
  | some p =>
    let above (x : Nat) (lim : Rat) (mag : Bool) : Bool :=
      if floatFinite 8 23 x then decide (lim < (if mag then |ofF32 x| else ofF32 x)) else true
    above p.excPos (ofF32 (s.sp Obj.SF3_POS_RED)) false || above p.excHead (ofF32 (s.sp Obj.SF3_HEAD_RED)) true
  | none => false

/-- POS_STATUS (R488). -/
def execPosStatus (m : MailMsg) (la lb : Nat) (s : State) : Host.Outcome State Fault Refusal :=
  .next (s.dieTake 3 m la lb fun s =>
    if m.payload.length == 20 && crc32 (m.payload.take 16) == leAt m.payload 16 4 then
      let s := s.setSafety fun d => { d with pos := some ⟨leAt m.payload 4 4, leAt m.payload 8 4, leAt m.payload 12 1⟩ }
      let above := s.posAbove
      let f (h : SafeChan) : SafeChan := { h with posLost := false, posRed := h.posRed && above }
      (s.setChan 0 f).setChan 1 f
    else s)

/-- Thruster t's two sources differ by more than AZ_TOL, or one reads false. -/
def State.azBad (s : State) (t : Nat) : Bool :=
  match s.safety.az.find? (·.1 == t) with
  | some (_, a) =>
    !a.pfs1 || !a.pfs2 ||
      decide (signed 16 (s.sp Obj.SAFE_AZ_TOL) < |signed 16 (wrapInt 16 ((a.pfp1 : Int) - (a.pfp2 : Int)))|)
  | none => true

/-- How deep an angle lies in a sector, all as Q15 turns: the distance to the nearer edge, or none outside. -/
def sectorDepth (x st en : Nat) : Option Nat :=
  let w := wrapInt 16 ((en : Int) - (st : Int))
  let d := wrapInt 16 ((x : Int) - (st : Int))
  if d ≤ w then some (min d (w - d)) else none

/-- Thruster t lies deeper than AZ_TOL in a forbidden sector of an active zone of channel c, by either source. -/
def State.inForbidden (s : State) (c t : Nat) : Bool :=
  match s.safety.az.find? (·.1 == t) with
  | some (_, a) =>
    let deep (x st en : Nat) : Bool :=
      match sectorDepth x st en with
      | some d => decide (signed 16 (s.sp Obj.SAFE_AZ_TOL) < (d : Int))
      | none => false
    (List.range 8).any fun z => bitOf (s.chan c).zones z &&
      (s.zoneSectors z).any fun e => e.1 == t && (deep a.pfp1 e.2.1 e.2.2 || deep a.pfp2 e.2.1 e.2.2)
  | none => false

/-- AZ_FAULT and SECTOR end where their conditions no longer hold. -/
def State.azReview (s : State) : State :=
  [0, 1].foldl (fun (s : State) c =>
    let keep (m : Nat) (p : Nat → Bool) : Nat :=
      ((List.range 32).filter fun t => bitOf m t && p t).foldl (fun x t => x + 2 ^ t) 0
    s.setChan c fun h => { h with azFault := keep h.azFault s.azBad, sector := keep h.sector (s.inForbidden c) }) s

/-- AZIMUTH (R485). -/
def execAzimuth (m : MailMsg) (la lb : Nat) (s : State) : Host.Outcome State Fault Refusal :=
  .next (s.dieTake 4 m la lb fun s =>
    let b := m.payload
    let az := (List.range (b.length / 8)).foldl (fun z i =>
      let f := leAt b (8 * i + 1) 1
      Map.put z (leAt b (8 * i) 1) ⟨leAt b (8 * i + 2) 2, leAt b (8 * i + 4) 2, bitOf f 0, bitOf f 1⟩) s.safety.az
    (s.setSafety fun d => { d with az := az }).azReview)

/-- AZ_FAULT (R485): the sources have differed by more than AZ_TOL for 200 ms, a PFS reads false, or no AZIMUTH
message has come for 20 ms, as channel c measures it. -/
def execAzFault (t : Fin 32) (ch : Fin 2) (s : State) : Host.Outcome State Fault Refusal :=
  .next (if s.safety.live && s.supervised (s.chan ch.val).zones t.val then
    (s.setChan ch.val fun h => { h with azFault := setBit h.azFault t.val }).safetyEval else s)

/-- SECTOR (R485): the azimuth has lain in a forbidden sector for 100 ms, or for SECTOR_TIME_MS since the zone became
active about a thruster inside. -/
def execSector (t : Fin 32) (ch : Fin 2) (s : State) : Host.Outcome State Fault Refusal :=
  .next (if s.safety.live && s.supervised (s.chan ch.val).zones t.val && s.inForbidden ch.val t.val then
    (s.setChan ch.val fun h => { h with sector := setBit h.sector t.val }).safetyEval else s)

/-- TRIP_REQUEST (R493): the hub's demand until the next one. -/
def execTripRequest (m : MailMsg) (la lb : Nat) (s : State) : Host.Outcome State Fault Refusal :=
  .next (s.dieTake 5 m la lb fun s =>
    s.setSafety fun d => { d with reqSf1 := leAt m.payload 0 4, reqZones := leAt m.payload 4 1,
                                  reqSf3 := leAt m.payload 5 1 != 0 })

/-- CA_TIMEOUT (R488). -/
def execCaTimeout (ch : Fin 2) (s : State) : Host.Outcome State Fault Refusal :=
  .next (if s.safety.live then (s.setChan ch.val fun h => { h with caLost := true }).safetyEval else s)

/-- POS_PERSIST (R488). -/
def execPosPersist (ch : Fin 2) (s : State) : Host.Outcome State Fault Refusal :=
  .next (if s.safety.live && s.posAbove then (s.setChan ch.val fun h => { h with posRed := true }).safetyEval else s)

/-- POS_TIMEOUT (R488). -/
def execPosTimeout (ch : Fin 2) (s : State) : Host.Outcome State Fault Refusal :=
  .next (if s.safety.live then (s.setChan ch.val fun h => { h with posLost := true }).safetyEval else s)

/-! ### Guard -/

/-- Path of a port number p: CF0–CF15 are 0–15, EM0–EM7 are 16–23. -/
def pathOfPort (p : Nat) : Option Nat :=
  if 9 ≤ p ∧ p ≤ 24 then some (p - 9) else if 1 ≤ p ∧ p ≤ 8 then some (p + 15) else none

/-- Why channel c rejects a PDU for connection k (R499); 0 where it accepts it. 1 is the form or SCRC, 2 the
connection and path, 3 the ingress stamp, 4 the age, 5 SEQ. -/
def State.judgePdu (s : State) (c k port : Nat) (node : Option Nat) (ingress l : Nat) (b : List Byte) : Nat :=
  let h := s.chan c
  let x := Map.get {} h.conns k
  let len := leAt b 6 1
  let pay := (b.drop 20).take 32
  let form := b.length == 56 && safetyCrc (b.take 52) == leAt b 52 4 && leAt b 7 1 == 1 && decide (len ≤ 32) &&
    (pay.drop len).all (· == 0) && leAt pay 3 1 == 0 && (pay.drop 16).all (· == 0)
  let path := match pathOfPort port with
    | some q => bitOf (s.sp Obj.GUARD_PATHS k) q
    | none => false
  let peer := match node with
    | some n => n == s.sp Obj.GUARD_PEER k
    | none => true
  let mapped := match h.anchor with
    | some (l0, t0) => (t0 : Int) + ((l : Int) - (l0 : Int))
    | none => 0
  let sent := leAt b 12 4 * 1000000000 + leAt b 8 4
  let age := (min (leAt b 16 4) (s.sp Obj.GUARD_MAX_AGE_US k)) * 1000
  let ahead := (leAt b 4 2 + 65536 - x.lastSeq) % 65536
  let first := x.st == 2 || (x.st == 0 && x.good == 0)
  if !form then 1
  else if !path || !peer then 2
  else if !h.timeOk || decide ((ingress : Int) < mapped - 5000000) || decide (mapped < (ingress : Int)) then 3
  else if decide ((age : Int) < (ingress : Int) - (sent : Int)) then 4
  else if !first && !(decide (1 ≤ ahead ∧ ahead ≤ 8)) then 5
  else 0

/-- A rejection counted in 0x984c.11 (R499). -/
def State.countReject (s : State) (k j : Nat) : State :=
  let s := s.setSafety fun d => { d with rejected := Map.upd 0 d.rejected (8 * k + j) fun n => (n + 1) % 2 ^ 32 }
  s.setObj Obj.GUARD_REJECTED (.bytes ((List.range 5).flatMap fun i => leBytes 4 (Map.get 0 s.safety.rejected (8 * k + i + 1)))) k

/-- A PDU for connection k as channel c takes it (R499, R500). -/
def State.takePdu (s : State) (c k port : Nat) (node : Option Nat) (ingress l : Nat) (b : List Byte) : State :=
  let x := Map.get {} (s.chan c).conns k
  let put (s : State) (x : SafeConn) : State := s.setChan c fun h => { h with conns := Map.put h.conns k x }
  if b == x.last then s else
  match s.judgePdu c k port node ingress l b with
  | 0 =>
    let good := if x.st == 2 then 1 else x.good + 1
    put s { x with
      st := if x.st == 1 then 1 else if 3 ≤ good then 1 else 0, good := min good 3, lastSeq := leAt b 4 2, last := b,
      rejects := if x.st == 1 then x.rejects else [] }
  | j =>
    let s := s.countReject k j
    if x.st == 1 then
      let rj := l :: x.rejects.filter fun t => decide (l < t + s.sp Obj.GUARD_WATCHDOG_MS k * 1000000)
      let s := put s { x with rejects := rj }
      if 3 ≤ rj.length then s.connFail c k else s
    else put s { x with good := if x.st == 0 then 0 else x.good }

/-- CONN_STATE of every receive connection, as channel A holds it. -/
def State.showConns (s : State) : State :=
  (List.range 16).foldl (fun t k => if t.isRx k then t.setObjN Obj.GUARD_CONN_STATE (t.connState 0 k) k else t) s

/-- GUARD_RX (R499, R500). `node` is the NODE of the CAN identifier for a PDU of a CAN port (R496). -/
def execGuardRx (m : MailMsg) (la lb : Nat) (node : Option (BitVec 14)) (s : State) : Host.Outcome State Fault Refusal :=
  .next (s.dieTake 6 m la lb fun s =>
    let b := (m.payload.drop 12).take 56
    let port := leAt m.payload 0 1
    let ingress := leAt m.payload 8 4 * 1000000000 + leAt m.payload 4 4
    let node := node.map (·.toNat)
    match (List.range 16).find? fun k => s.isRx k && s.sp Obj.GUARD_CONN_ID k == leAt b 0 4 with
    | some k => ((s.takePdu 0 k port node ingress la b).takePdu 1 k port node ingress lb b).showConns
    | none => s)

/-- GUARD_WATCHDOG (R500): channel c has accepted no PDU of a RUNNING connection for WATCHDOG_MS. -/
def execGuardWatchdog (c : Fin 16) (ch : Fin 2) (s : State) : Host.Outcome State Fault Refusal :=
  .next (if s.safety.live && s.isRx c.val && (Map.get {} (s.chan ch.val).conns c.val).st == 1 then
    (s.connFail ch.val c.val).safetyEval.showConns else s)

/-- Causes that the die reports: those of its outputs, and its own conditions (cause table). -/
def State.dieCauses (s : State) : Nat :=
  let of (c : Nat) : Nat := (List.range 8).foldl (fun m k => m ||| Map.get 0 (s.chan c).lcause k) 0
  (of 0 ||| of 1) ||| causeBit (!(s.chan 0).timeOk || !(s.chan 1).timeOk) 16 ||| causeBit (s.safety.stuck != 0) 19

/-- Thrusters with a tripped SF1 output. -/
def State.sf1Tripped (s : State) : Nat :=
  ((List.range 8).filter fun k => s.sp Obj.SO_FUNCTION k == 1 && bitOf ((s.chan 0).trip ||| (s.chan 1).trip) k).foldl
    (fun m k => m ||| s.sp Obj.SO_THRUSTERS k) 0

/-- The 32-byte payload that channel c forms for transmit connection k (R497). -/
def State.guardPayload (s : State) (c k : Nat) : List Byte :=
  if s.sp Obj.GUARD_KIND k == 2 then
    leBytes 1 2 ++ leBytes 1 ((s.chan 0).zones ||| (s.chan 1).zones) ++ leBytes 1 (ofBool ((s.chan 0).red || (s.chan 1).red)) ++
      [0] ++ leBytes 4 s.sf1Tripped ++ leBytes 4 s.energized ++ leBytes 4 s.dieCauses ++ List.replicate 16 0
  else
    let own := s.inputDemands c ++ [s.hubDemand]
    leBytes 1 1 ++ leBytes 1 (own.foldl (fun m d => m ||| d.zones) 0) ++ leBytes 1 (ofBool ((s.chan c).own != 0)) ++ [0] ++
      leBytes 4 (own.foldl (fun m d => m ||| d.sf1) 0) ++ List.replicate 24 0

/-- GUARD_TX_PERIOD (R497, R498): the PDU leaves when both channels agree and both mappings are valid. -/
def execGuardTxPeriod (c : Fin 16) (la lb : Nat) (s : State) : Host.Outcome State Fault Refusal :=
  let _ := lb
  if s.safety.live && s.sp Obj.GUARD_DIR c.val == 2 && (s.chan 0).timeOk && (s.chan 1).timeOk &&
      s.guardPayload 0 c.val == s.guardPayload 1 c.val then
    let t : Nat := match (s.chan 0).anchor with
      | some (l0, t0) => t0 + la - l0
      | none => 0
    let seq := Map.get 0 s.safety.txSeq c.val
    let body := leBytes 4 (s.sp Obj.GUARD_CONN_ID c.val) ++ leBytes 2 seq ++ leBytes 1 16 ++ leBytes 1 1 ++
      leBytes 4 (t % 1000000000) ++ leBytes 4 (t / 1000000000) ++ leBytes 4 (s.sp Obj.GUARD_MAX_AGE_US c.val) ++
      s.guardPayload 0 c.val
    let q := s.safety.dieSeq
    .next (s.setSafety fun d =>
      { d with
        txSeq := Map.put d.txSeq c.val ((seq + 1) % 65536), dieSeq := (q + 1) % 2 ^ 32,
        guardTx := d.guardTx ++ [⟨q, s.sp Obj.GUARD_PATHS c.val, body ++ leBytes 4 (safetyCrc body)⟩] })
  else .next s

/-! ### The hub's end of the mailbox -/

/-- Words of the received message in SM_RX. -/
def State.putRx (s : State) (b : List Byte) : State :=
  (List.range ((b.length + 3) / 4)).foldl (fun t i => t.wr Reg.SM_RX_DATA (leAt b (4 * i) 4) i) s

/-- R493 at the hub. -/
def State.hubAccepts (s : State) (crcGood : Bool) (q : Nat) : Bool := crcGood && seqFollows s.safety.hubLast q

/-- GUARD_TX (R496): the next GUARD_TX of the die reaches the hub; the PDU goes to the first egress class of the named
paths. SM_RX shows the message where it is free. -/
def execGuardTx (crcGood : Bool) (s : State) : Host.Outcome State Fault Refusal :=
  match s.safety.guardTx with
  | g :: r =>
    let s := s.setSafety fun d => { d with guardTx := r }
    if s.hubAccepts crcGood g.seq then
      let s := s.setSafety fun d => { d with hubLast := some g.seq, guardOut := d.guardOut ++ [g] }
      if s.flag Reg.SM_STATUS_RX_VALID then .next s else
      let t := s.stamp
      let s := s.putRx (leBytes 1 9 ++ [0] ++ leBytes 2 60 ++ leBytes 4 g.seq ++ leBytes 4 t.ns ++ leBytes 4 t.sec ++
        leBytes 4 g.paths ++ g.pdu)
      .next (((s.wr Reg.SM_RX_LEN_LEN 60).raise Reg.SM_STATUS_RX_VALID).raise Reg.SM_IRQ_RX)
    else .next (s.incSat Reg.SM_DROPPED_HUB_DROPPED)
  | [] => .next s

/-- SM_HB (R30): a write sends a HEARTBEAT. -/
def execSmHb (s : State) : Host.Outcome State Fault Refusal := .next (s.sendMail 1 0 s.safety.hubSeq [])

/-- SM_SEND (R493): the message in SM_TX is handed off, or ignored while TX_BUSY or with LEN above 4,060. -/
def execSmSend (s : State) : Host.Outcome State Fault Refusal :=
  let len := s.rd Reg.SM_TX_LEN_LEN
  if s.flag Reg.SM_STATUS_TX_BUSY || 4060 < len then .next (s.raise Reg.SM_STATUS_SEND_IGNORED) else
  let w (i : Nat) : Nat := s.rd Reg.SM_TX_DATA i
  let pay := ((List.range ((len + 3) / 4)).flatMap fun i => leBytes 4 (w (i + 4))).take len
  .next ((s.sendMail (w 0 % 256) (w 0 / 256 % 256) (w 1) pay).raise Reg.SM_STATUS_TX_BUSY)

/-- SM_RX_ACK: the received message is freed. -/
def execSmRxAck (s : State) : Host.Outcome State Fault Refusal := .next (s.wr Reg.SM_STATUS_RX_VALID 0)

/-- SM_DEAD (R477, register table): no STATUS for 5 ms. -/
def execSmDead (s : State) : Host.Outcome State Fault Refusal :=
  let due := match s.safety.statusAt with
    | some t => s.elapsed t 5000000
    | none => true
  .next (if due then (s.wr Reg.SM_STATUS_ALIVE 0).raise Reg.SM_IRQ_DEAD else s)

/-! ### Configuration and sessions -/

/-- An entry of the safety change log (R509), held during a dip (R31). -/
def State.safetyLog (s : State) (node port action index sub : Nat) (old new : List Byte) (kind : Nat)
    (user : List Byte) : State :=
  let q := (s.safety.logSeq + 1) % 2 ^ 32
  let e : SafetyLog :=
    { seq := q, time := s.stamp, node, port, action, index, sub, session := kind, old := padTo 8 old, new := padTo 8 new,
      ccv := safetyCrc s.safetyImage, user := padTo 12 user }
  let s := (s.setSafety fun d => { d with logSeq := q }).setObjN Obj.SAFE_LOG_SEQ q
  let s := if s.dip then s.setSafety fun d => { d with heldLog := d.heldLog ++ [e] }
    else s.setSafety fun d => { d with log := (if d.log.length < 256 then d.log else d.log.tail) ++ [e] }
  s.raise Reg.SM_IRQ_LOG

/-- The CONFIG message of R502 is sent to the die. -/
def State.sendConfig (s : State) : State := s.sendMail 7 0 s.safety.hubSeq s.safetyImage

/-- State of the die by the CCVs outside a session (R502): UNSEALED without a sealed configuration or after a session
closed with a change and no seal. -/
def State.verdict (s : State) : Nat :=
  let d := s.safety
  if d.hasSeal && d.ccvA == d.ccvB && d.ccvA == s.objN Obj.SAFE_CCV_SEALED then 1
  else if d.ccvA != d.ccvB then 5
  else if !d.hasSeal || d.unsealed then 0 else 5

/-- CONFIG (R502). `skew` is what a fault of channel B changes in its CCV; 0 without one. A receive connection whose
parameters change starts anew (R500). -/
def execConfig (m : MailMsg) (la lb : Nat) (skew : Word) (s : State) : Host.Outcome State Fault Refusal :=
  .next (s.dieTake 7 m la lb fun s =>
    let ccv := safetyCrc m.payload
    let old := s
    let s := s.setSafety fun d =>
      { d with cfg := readImage m.payload.length m.payload, ccvA := ccv, ccvB := ccv ^^^ skew.toNat }
    let same (k : Nat) : Bool :=
      [Obj.GUARD_DIR, Obj.GUARD_CONN_ID, Obj.GUARD_PEER, Obj.GUARD_PATHS, Obj.GUARD_KIND, Obj.GUARD_PERIOD_MS,
        Obj.GUARD_WATCHDOG_MS, Obj.GUARD_MAX_AGE_US, Obj.GUARD_SAFE].all fun o => s.sparam o k == old.sparam o k
    let fresh := (List.range 16).filter fun k => !same k
    let s := [0, 1].foldl (fun (t : State) c => t.setChan c fun h =>
      { h with conns := fresh.foldl (fun x k => Map.put x k {}) h.conns }) s
    let s := if s.safety.session.isNone && s.safety.state != 6 then
        s.setSafety fun d => { d with state := s.verdict }
      else s
    s.showConns)

/-- The session objects of 0x9880. -/
def State.showSession (s : State) : State :=
  match s.safety.session with
  | some x => ((s.setObjN Obj.SES_SESSION x.kind).setObjN Obj.SES_SESSION_PORT x.port).setObj Obj.SES_SESSION_USER
      (.bytes (x.user.filter (· != 0)))
  | none => ((s.setObjN Obj.SES_SESSION 0).setObjN Obj.SES_SESSION_PORT 0).setObj Obj.SES_SESSION_USER (.bytes [])

/-- Origin node of an order (R404). -/
def orderSrc (o : OrderRec) : Nat := o.identity / 2 ^ 50

/-- The order comes from the port and SRC of the session in force, and the session is of one of the kinds. -/
def State.inSession (s : State) (o : OrderRec) (kinds : List Nat) : Bool :=
  match s.safety.session with
  | some x => x.port == o.port && x.src == (orderSrc o) && kinds.contains x.kind
  | none => false

/-- Kind of the session in force, 0 none. -/
def State.sessionKind (s : State) : Nat := match s.safety.session with | some x => x.kind | none => 0

/-- User of the session in force. -/
def State.sessionUser (s : State) : List Byte := match s.safety.session with | some x => x.user | none => []

/-- The session has seen a safety ORDER (R507). -/
def State.touchSession (s : State) (change : Bool) : State :=
  s.setSafety fun d => { d with session := d.session.map fun x =>
    { x with lastOrder := s.tb3, changed := x.changed || change } }

/-- The device offers a claim above standby, or the gate has a holder (R504). -/
def State.claimBusy (s : State) : Bool :=
  (s.control && decide (4 < s.claimRank)) || (s.gateRole && s.gate.holder.isSome)

/-- The five-in-ten-minutes count of wrong responses (R504). -/
def State.wrongResponse (s : State) : State :=
  let w := s.tb3 :: s.safety.wrong.filter fun t => !s.elapsed t 600000000000
  if 5 ≤ w.length then (s.setSafety fun d => { d with wrong := [], blocked := some s.tb3 }).alarm .safety "OPEN_BLOCKED"
  else s.setSafety fun d => { d with wrong := w }

/-- An opening is refused, and the refusal is logged (R504, R509). -/
def State.refuseOpen (s : State) (o : OrderRec) (reason : Nat) : State :=
  (s.safetyLog (orderSrc o) o.port 2 0 0 [] [] s.sessionKind ((o.value.drop 4).take 12)).answer reason

/-- SESSION_OPEN (R504, R505). The challenge serves this attempt alone. -/
def execSessionOpen (o : OrderRec) (s : State) : Host.Outcome State Fault Refusal :=
  let v := o.value
  let kind := leAt v 0 1
  let user := (v.drop 4).take 12
  if o.cls != 2 then .next (s.answer 3) else
  if v.length != 32 then .next (s.answer 6) else
  if !(decide (1 ≤ kind ∧ kind ≤ 3)) || leAt v 1 3 != 0 || !utf8Ok 13 (user.filter (· != 0)) then .next (s.answer 13) else
  let blocked := s.safety.blocked.isSome
  let want := match s.safety.challenge with
    | some (ch, t) => if s.elapsed t 60000000000 then none else some ((sha256 (ch ++ s.safety.hash)).take 16)
    | none => none
  let free := s.safety.hash.isEmpty
  let good := free || want == some (v.drop 16)
  let s := s.setSafety fun d => { d with challenge := none }
  let s := if good || blocked then s else s.wrongResponse
  if !good || blocked || s.safety.session.isSome then .next (s.refuseOpen o 12) else
  if (kind == 3) != (s.safety.state == 5) then .next (s.refuseOpen o 15) else
  if kind != 2 && s.claimBusy then .next (s.refuseOpen o 15) else
  let before := s.safety.state
  let s := s.setSafety fun d =>
    { d with
      session := some ⟨kind, o.port, (orderSrc o), user, before, false, s.tb3⟩,
      state := if d.state == 6 then 6 else if kind == 1 then 2 else if kind == 2 then 3 else 4 }
  let s := s.safetyEval.showSession.safetyLog (orderSrc o) o.port 1 0 0 [] [] kind user
  .next (s.sendConfig.answer 0)

/-- A challenge of 16 free bytes, valid for 60 s from its READ (R504). -/
def State.newChallenge (s : State) : State :=
  let b := (List.range 16).map (Config.challengeByte s.fresh)
  (s.setSafety fun d => { d with challenge := some (b, s.tb3) }).nextFresh.setObj Obj.SES_CHALLENGE (.bytes b)

/-- CHALLENGE_EXPIRY (R504). -/
def execChallengeExpiry (s : State) : Host.Outcome State Fault Refusal :=
  match s.safety.challenge with
  | some (_, t) => .next (if s.elapsed t 60000000000 then s.setSafety fun d => { d with challenge := none } else s)
  | none => .next s

/-- OPEN_BLOCK_EXPIRY (R504). -/
def execOpenBlockExpiry (s : State) : Host.Outcome State Fault Refusal :=
  match s.safety.blocked with
  | some t => .next (if s.elapsed t 900000000000 then s.setSafety fun d => { d with blocked := none } else s)
  | none => .next s

/-- The session closes without a seal (R507). -/
def State.closeSession (s : State) (node port : Nat) : State :=
  match s.safety.session with
  | some x =>
    let s := s.safetyLog node port 3 0 0 [] [] x.kind x.user
    let s := s.setSafety fun d =>
      { d with
        session := none, test := [], unsealed := d.unsealed || (x.kind != 2 && x.changed),
        state := if d.state == 6 then 6 else if x.kind == 2 then 1 else if x.changed then 0 else x.before }
    s.safetyEval.showSession.sendConfig
  | none => s

/-- SESSION_CLOSE (R507). -/
def execSessionClose (o : OrderRec) (s : State) : Host.Outcome State Fault Refusal :=
  if o.value.length != 1 then .next (s.answer 6) else
  if s.safety.session.isNone then .next (s.answer 15) else .next ((s.closeSession (orderSrc o) o.port).answer 0)

/-- SESSION_IDLE_TIMEOUT (R507). -/
def execSessionIdleTimeout (s : State) : Host.Outcome State Fault Refusal :=
  match s.safety.session with
  | some x => .next (if s.elapsed x.lastOrder 600000000000 then s.closeSession x.src x.port else s)
  | none => .next s

/-- SEAL (R505, R506). -/
def execSeal (o : OrderRec) (s : State) : Host.Outcome State Fault Refusal :=
  let v := leAt o.value 0 4
  if o.value.length != 4 then .next (s.answer 6) else
  if s.safety.hash.isEmpty || !(s.safety.ccvA == v && s.safety.ccvB == v) then .next (s.answer 14) else
  if !s.inSession o [1, 3] then .next (s.answer 15) else
  let kind := s.sessionKind
  let user := s.sessionUser
  let s := s.setObjN Obj.SAFE_CCV_SEALED v
  let s := s.setSafety fun d =>
    { d with session := none, test := [], hasSeal := true, unsealed := false, state := if d.state == 6 then 6 else 1 }
  let s := s.safetyEval.showSession.safetyLog (orderSrc o) o.port 5 0 0 [] o.value kind user
  let s := (s.alarmWith (recordCode .safety "SEALED") 0 s.stamp (BitVec.ofNat 32 v :: s.freeDetail 14)
    ((List.range 28).map (Config.textByte s.fresh))).nextFresh.endLostSubs
  .next (s.sendConfig.answer 0)

/-- PASSWORD (R505). -/
def execPassword (o : OrderRec) (s : State) : Host.Outcome State Fault Refusal :=
  if o.value.length != 48 then .next (s.answer 6) else
  if !s.inSession o [1, 3] then .next (s.answer 15) else
  let s := s.setSafety fun d => { d with salt := o.value.take 16, hash := o.value.drop 16 }
  let s := (s.setObjN Obj.SAFE_PASSWORD_SET 1).touchSession false
  .next ((s.safetyLog (orderSrc o) o.port 6 0 0 [] [] s.sessionKind s.sessionUser).sendConfig.answer 0)

/-- PASSWORD_RESET (R505): in BENCH role, with value 1. -/
def execPasswordReset (o : OrderRec) (s : State) : Host.Outcome State Fault Refusal :=
  if o.value.length != 1 then .next (s.answer 6) else
  if o.cls != 2 then .next (s.answer 3) else
  if leAt o.value 0 1 != 1 then .next (s.answer 13) else
  if !s.bench then .next (s.answer 15) else
  let kind := s.sessionKind
  let user := s.sessionUser
  let keys (k : Nat) : Bool := decide (0x981000 ≤ k ∧ k < 0x988000) &&
    (Obj.table.any fun o => o.safetyParam && o.hasIndex (k / 256) && o.hasSub (k % 256))
  let s := (s.dropObjs keys).setSafety fun d =>
    { d with
      salt := [], hash := [], session := none, test := [], hasSeal := false, unsealed := true,
      state := if d.state == 6 then 6 else 0 }
  let s := (s.setObjN Obj.SAFE_PASSWORD_SET 0).safetyEval.showSession
  .next ((s.safetyLog (orderSrc o) o.port 8 0 0 [] [] kind user).sendConfig.answer 0)

/-- TEST_DEMAND (R508). -/
def execTestDemand (o : OrderRec) (s : State) : Host.Outcome State Fault Refusal :=
  if o.value.length != 32 then .next (s.answer 6) else
  if !s.inSession o [2] then .next (s.answer 15) else
  let s := (s.setSafety fun d => { d with test := if o.value.all (· == 0) then [] else o.value }).touchSession false
  let s := s.safetyEval.safetyLog (orderSrc o) o.port 7 0 0 [] o.value s.sessionKind s.sessionUser
  .next (s.sendConfig.answer 0)

/-- Every path of a PATHS value lies on a port of class SAFETY or FIELD (R496). -/
def State.pathsOk (s : State) (v : Nat) : Bool :=
  (List.range 32).all fun b => !bitOf v b ||
    (decide (b < 24) && (let c := s.classOf (if b < 16 then b + 9 else b - 15); c == 4 || c == 5))

/-- An ORDER to a safety parameter (R496, R503): its refusal, or none. -/
def State.paramRefusal (s : State) (o : OrderRec) : Option Nat :=
  if !s.inSession o [1, 3] then some 12
  else if decide (0x9840 ≤ o.index ∧ o.index < 0x9850) && o.sub == 4 && !s.pathsOk (leNat o.value) then some 14
  else none

/-- The application of an ORDER to a safety parameter: the change, its log entry and the CONFIG message. -/
def State.safetyChange (s : State) (o : OrderRec) (f : Found) : State :=
  let old := Val.wire f.entry.ty (s.obj f.entry f.i f.k)
  let s := (s.setEntry f o.value).touchSession (old != o.value)
  (s.safetyLog (orderSrc o) o.port 4 o.index o.sub old o.value s.sessionKind s.sessionUser).sendConfig

end Sys2Proof.Machine
end

