-- ==== Sys2Proof/Machine/Consequence.lean ====
section
/-! DEFINITION. Online consequence analysis (06_consequence_analysis.md): the schedule of a window, the judgement of a
case, ageing, the body that is published, and where the verdicts go. The case plans are solved as jobs whose iterates lie
in the Grist store at places that the spec does not give: the figures of a judged case come with its delivery. -/

namespace Sys2Proof.Machine

/-! ### Cases (R210 to R216) -/

/-- A case as kept. -/
def State.caseSt (s : State) (c : Nat) : CaseSt := Map.get {} s.stages.ca.cases c

/-- A case changed. -/
def State.setCase (s : State) (c : Nat) (f : CaseSt → CaseSt) : State :=
  s.setCa fun x => { x with cases := Map.upd {} x.cases c f }

/-- Declared cases, lowest first. -/
def State.declared (s : State) : List Nat := (List.range 48).filter fun c => s.cfgB Obj.CASE_DECLARED c

/-- Declaration of a case as bytes, to find a change (R212). -/
def State.declaration (s : State) (c : Nat) : List Byte :=
  leBytes 1 (s.cfgN Obj.CASE_DECLARED c) ++ leBytes 1 (s.cfgN Obj.CASE_KIND c) ++ leBytes 1 (s.cfgN Obj.CASE_PRIORITY c) ++
  leBytes 4 (s.cfgN Obj.CASE_THRUSTER_MASK c) ++ leBytes 1 (s.cfgN Obj.CASE_BUS_MASK c) ++
  leBytes 4 (s.cfgN Obj.CASE_REF_MASK c) ++ s.cfgBytes Obj.CASE_POWER_AFTER c ++ s.cfgBytes Obj.CASE_NAME c

/-- Power of bus b in a case (R210). -/
def State.casePower (s : State) (c b : Nat) : Rat :=
  let after := ofF32 (leAt (s.cfgBytes Obj.CASE_POWER_AFTER c) (4 * b) 4)
  if bitOf (s.cfgN Obj.CASE_BUS_MASK c) b then 0 else if after = 0 then s.objV Obj.BUS_P_AVAIL b else after

/-- Thruster t survives a case (R210). -/
def State.survives (s : State) (c t : Nat) : Bool :=
  let bus := s.cfgN Obj.TH_BUS t
  let idle := (List.range 32).foldl (fun (a : Rat) i =>
    if s.cfgN Obj.TH_TYPE i != 0 && s.cfgN Obj.TH_BUS i == bus then a + s.cfgV Obj.TH_P_IDLE i else a) 0
  s.objB Obj.TH_ENABLE t && s.cfgN Obj.TH_TYPE t != 0 && s.objB Obj.TH_READY t && decide (idle < s.casePower c bus) &&
  !bitOf (s.cfgN Obj.CASE_THRUSTER_MASK c) t && !bitOf (s.cfgN Obj.CASE_BUS_MASK c) bus

/-- References of REF_MASK bits lo to hi − 1 that are IN_USE and survive a case. -/
def State.refsLeft (s : State) (c lo hi : Nat) : List Nat :=
  ((List.range hi).drop lo).filter fun r => (s.ref r).status == 1 && !bitOf (s.cfgN Obj.CASE_REF_MASK c) r

/-- Mean standard deviation of a reference over VOTE_SPAN (R215). -/
def State.meanSd (s : State) (r : Nat) : Rat :=
  let p := stampNs (s.stage 1).tref
  let span := (s.cfgV Obj.EST_VOTE_SPAN * 1000000000).floor.toNat
  let x : RefIn := ⟨(0, 0), s.stages.est.targets⟩
  let ms := (s.ref r).window.filter fun m => decide (p ≤ m.tv + span)
  if ms.isEmpty then s.cfgV (refObj Obj.PS_SIGMA r)
  else (ms.foldl (fun (a : Rat) m => a + Config.sqrt (s.variance x r m)) 0) / (ms.length : Nat)

/-- σ_rem of a case (R215). -/
def State.sigmaRem (s : State) (c : Nat) : Rat :=
  let w := (s.refsLeft c 0 24).foldl (fun (a : Rat) r => a + 1 / (s.meanSd r * s.meanSd r)) 0
  if s.cfgN Obj.CASE_REF_MASK c == 0 || w ≤ 0 then 0 else 1 / Config.sqrt w

/-- Everything that the case takes away is away already (R216). -/
def State.alreadyLost (s : State) (c : Nat) : Bool :=
  let lost := (List.range 32).filter fun t =>
    bitOf (s.cfgN Obj.CASE_THRUSTER_MASK c) t || (s.cfgN Obj.TH_TYPE t != 0 && bitOf (s.cfgN Obj.CASE_BUS_MASK c) (s.cfgN Obj.TH_BUS t))
  lost.all (fun t => !bitOf s.stages.plan.cand.mask t) &&
    (List.range 30).all fun r => !bitOf (s.cfgN Obj.CASE_REF_MASK c) r || (s.ref r).status != 1

/-! ### Judgement (R217 to R219) -/

/-- Verdict and causes of an evaluated case (R215, R218, R219). -/
def State.judge (s : State) (c : Nat) (f : CaseFigures) (status : Nat) : Nat × Nat :=
  let pos := ofF32 f.excPos.toNat
  let head := ofF32 f.excHead.toNat
  let lim := s.objV Obj.PLAN_POS_LIMIT
  let red0 := max (s.cfgV Obj.CA_RED_POS_LIMIT) lim
  let amber := if s.cfgN Obj.CASE_REF_MASK c == 0 then lim
    else max (1 / 10) (lim - s.cfgV Obj.CA_REF_K * s.sigmaRem c)
  let red := if s.cfgN Obj.CASE_REF_MASK c == 0 then red0 else max (1 / 10) (amber + (red0 - lim))
  let hlim := s.objV Obj.PLAN_HEAD_LIMIT
  let hred := max (s.cfgV Obj.CA_RED_HEAD_LIMIT) hlim
  let judged := s.objN Obj.PLAN_MODE != 2
  let left := (s.refsLeft c 0 24).length
  let none_ := left == 0 || (s.refsLeft c 24 30).isEmpty
  let few := decide (left < s.cfgN Obj.CA_REF_MIN_POS)
  let overPos := judged && decide (amber < pos)
  let overHead := decide (hlim < head)
  let util := decide (s.cfgV Obj.CA_UTIL_AMBER < ofF32 f.util.toNat)
  let inf := decide (s.cfgV Obj.PLAN_VIOL_TOL < ofF32 f.violation.toNat)
  let isRed := (judged && decide (red < pos)) || decide (hred < head) || none_
  let cause := flagBit overPos 0 ||| flagBit overHead 1 ||| flagBit util 2 ||| flagBit inf 3 ||| flagBit few 4 |||
    flagBit none_ 5 ||| flagBit (status == 3) 9 ||| flagBit (s.alreadyLost c) 11 |||
    flagBit (decide (ofF32 f.mapped.toNat < 1 / 2)) 13
  (if isRed then 3 else if overPos || overHead || util || inf || few then 2 else 1, cause)

/-- Thrusters and buses left to a case. -/
def State.leftOf (s : State) (c : Nat) : Nat × Nat :=
  (maskOf (s.survives c), (List.range 8).foldl (fun a b => if 0 < s.casePower c b then a + 2 ^ b else a) 0)

/-- The delivery of the last link of a case's chain judged (R218, R219). -/
def State.judgeCase (s : State) (c status : Nat) (f : CaseFigures) : State :=
  let ok := status == 0 || status == 3
  let (verdict, cause) := if ok then s.judge c f status else (4, 0x100)
  let (th, buses) := s.leftOf c
  let at_ := stampNs (s.stage 4).tref
  let cycle := (s.stage 4).current
  let sig := toF32 (s.sigmaRem c)
  let v := fun (w : Word) => if ok then w.toNat else 0
  s.setCase c fun x =>
    { x with verdict, cause, status, evalAt := some at_, age := 0, evalCycle := cycle, judged := true, staleAlarmed := false
             iter := if ok then f.iter.toNat else 0, excPos := v f.excPos, excHead := v f.excHead, util := v f.util
             violation := v f.violation, tExceed := v f.tExceed, sigmaRem := sig, mapped := v f.mapped, thrusters := th
             buses, scen := if ok then f.scen.toNat else 0, step := if ok then f.step.toNat else 0 }

/-! ### The window (R222, R225 to R227) -/

/-- Age in seconds of a case at a window start; a case that has not been evaluated counts as the oldest (R225). -/
def CaseSt.ageAt (x : CaseSt) (b : Nat) : Nat :=
  match x.evalAt with
  | some t => (b - t) / 1000000000
  | none => 1000000000

/-- The schedule order of R225. -/
def State.caseOrder (s : State) (b : Nat) : List Nat :=
  let ds := s.declared
  let top := s.cfgN Obj.CA_VERDICT_MAX_AGE
  let age := fun (c : Nat) => (s.caseSt c).ageAt b
  let late := fun (c : Nat) => decide (top < age c + 10)
  let rest := ds.filter fun c => !late c
  let pri := fun (c : Nat) => s.cfgN Obj.CASE_PRIORITY c
  let before := fun (x y : Nat) =>
    decide (pri x < pri y) || (pri x == pri y && (decide (age y < age x) || (age x == age y && decide (x ≤ y))))
  ds.filter late ++ rest.mergeSort before

/-- A window released. -/
def State.caRelease (s : State) : State :=
  let b := s.period 10000
  let s := s.releaseStage .ca 4 b 1000000 [1, 3]
  let used := s.stages.ca.used
  let decl := (List.range 48).map fun c => (c, s.declaration c)
  let changed := if used.isEmpty then [] else (List.range 48).filter fun c => (used.find? fun u => u.1 == c) != some (c, s.declaration c)
  let s := changed.foldl (fun (t : State) c => t.setCase c fun _ => {}) s
  let s := (List.range 48).foldl (fun (t : State) c => t.setCase c fun x => { x with judged := false, status := 0xFF }) s
  let ds := s.declared
  let n := ds.length
  let mode := s.objN Obj.PLAN_MODE
  let idle := mode == 0 || mode == 3
  let grant := s.tableInForce.grants.getD 3 0
  let req := s.rd Reg.GRIST_REQ3_REQ
  let q := if idle || decide (2 ≤ s.rd Reg.GRIST_STATUS_SHED) then 0 else if req == 0 then n else min n (n * grant / req)
  let sched := (s.caseOrder b).take q
  let s := if idle then ds.foldl (fun (t : State) c => t.setCase c fun _ => {}) s else s
  let noPlan := (s.stage 3).latest.isNone && !idle
  let cycle := (s.stage 4).current
  let s := if noPlan then ds.foldl (fun (t : State) c => t.setCase c fun _ => { verdict := 4, cause := 0x400, judged := true }) s
    else sched.foldl (fun (t : State) c =>
      let (th, buses) := t.leftOf c
      if th == 0 then t.setCase c fun _ =>
        { verdict := 3, cause := 0x40, evalAt := some b, evalCycle := cycle, buses := buses, judged := true }
      else t) s
  let part := !idle && decide (q < n)
  let flags := flagBit part 7 ||| flagBit part 8 ||| flagBit (!changed.isEmpty) 12 ||| flagBit idle 13
  let plan := (s.stage 3).latestCycle
  let est := (s.stage 1).latestCycle
  let s := s.setCa fun x =>
    { x with schedule := sched, declared := n, grant, req, idle, changed := !changed.isEmpty, used := decl
             planCycle := plan, estCycle := est, submitted := false }
  s.addFlags 4 flags

/-- CA_RELEASE: a window is released (R213, R222); its chains are submitted by the core's own writes. -/
def execCaRelease (s : State) : Host.Outcome State Fault Refusal :=
  .next (if s.pipeRun && s.objB Obj.CA_CA_ENABLE then s.caRelease else s)

/-! ### Publication (R220, R221, R223, R228) -/

/-- A declared case that this window has not judged ages (R220). -/
def State.ageCase (s : State) (c : Nat) : State :=
  let x := s.caseSt c
  if x.judged || s.stages.ca.idle then s else
  match x.evalAt with
  | none => s
  | some t =>
    let age := (stampNs (s.stage 4).tref - t) / 1000000000
    if s.cfgN Obj.CA_VERDICT_MAX_AGE < age then
      let s := s.setCase c fun x =>
        { x with verdict := 4, cause := (x.cause ||| 0x1080), age := min 65535 age, staleAlarmed := true }
      if x.staleAlarmed then s else s.alarm .ca "CASE_STALE"
    else s.setCase c fun x => { x with cause := (x.cause ||| 0x80), age := min 65535 age }

/-- Rank of a verdict (R221). -/
def rankVerdict (v : Nat) : Nat := match v with | 3 => 4 | 2 => 3 | 4 => 2 | 1 => 1 | _ => 0

/-- WCF and its case (R221). -/
def State.worst (s : State) : Nat × Nat :=
  s.declared.foldl (fun (w : Nat × Nat) c =>
    let v := (s.caseSt c).verdict
    if rankVerdict w.1 < rankVerdict v || w.2 == 0xFF then (v, c) else w) (0, 0xFF)

/-- A case record (table of R228). -/
def State.caseRecord (s : State) (c : Nat) : List Byte :=
  let x := s.caseSt c
  let b := if s.cfgB Obj.CASE_DECLARED c then
      leBytes 1 c ++ leBytes 1 x.verdict ++ leBytes 2 x.cause ++ leBytes 1 x.iter ++ leBytes 1 x.status ++ leBytes 2 x.age ++
      leBytes 8 x.evalCycle ++ leBytes 4 x.excPos ++ leBytes 4 x.excHead ++ leBytes 4 x.util ++ leBytes 4 x.violation ++
      leBytes 4 x.tExceed ++ leBytes 4 x.sigmaRem ++ leBytes 4 x.mapped ++ leBytes 4 x.thrusters ++ leBytes 1 x.buses ++
      leBytes 1 x.scen ++ leBytes 2 x.step ++ List.replicate 8 0
    else leBytes 1 c ++ [0] ++ leBytes 2 0x8000 ++ List.replicate 56 0
  b ++ leBytes 4 (crc32 b)

/-- The body (R228). -/
def State.caBody (s : State) : List Byte :=
  let x := s.stages.ca
  let w := s.worst
  let n := fun (v : Nat) => (s.declared.filter fun c => (s.caseSt c).verdict == v).length
  let k := s.caseSt w.2
  let none_ := w.2 == 0xFF
  leBytes 1 w.1 ++ leBytes 1 (if w.1 == 0 then 0xFF else w.2) ++ leBytes 1 x.declared ++ leBytes 1 x.schedule.length ++
  leBytes 1 (n 1) ++ leBytes 1 (n 2) ++ leBytes 1 (n 3) ++ leBytes 1 (n 4) ++ leBytes 4 (toF32 ((x.grant : Nat) / 10)) ++
  leBytes 4 (toF32 ((x.req : Nat) / 10)) ++ leBytes 8 x.planCycle ++ leBytes 8 x.estCycle ++
  leBytes 4 (if none_ then 0 else k.excPos) ++ leBytes 4 (if none_ then 0 else k.excHead) ++
  leBytes 4 (if none_ then 0 else k.util) ++ List.replicate 20 0 ++ (List.range 48).flatMap s.caseRecord

/-- CA_PUBLICATION: the body is assembled in the scratch area at `scratch` and its job submitted, once every scheduled case
has been judged or at release + Λ (R223). -/
def execCaPublication (scratch : Word) (s : State) : Host.Outcome State Fault Refusal :=
  let x := s.stages.ca
  let done := x.schedule.all fun c => (s.caseSt c).judged
  let limit := stampNs (s.stage 4).tref + (s.phaseMs 7 + s.phaseMs 8 - s.cfgN Obj.CA_PUB_LEAD) * 1000000
  if x.submitted || !(done || decide (limit ≤ s.now 0)) then .next s else
  let s := s.declared.foldl (fun (t : State) c => t.ageCase c) s
  let s := s.gristPut (scratch.toNat - gristBase) s.caBody
  let w := s.worst
  let stale := s.declared.any fun c => bitOf (s.caseSt c).cause 12
  let worstStale := w.1 == 4 && s.declared.any fun c => (s.caseSt c).verdict == 4 && bitOf (s.caseSt c).cause 12
  let s := if worstStale && !s.stages.ca.staleAlarmed then s.alarm .ca "WCF_STALE" else s
  let s := s.setCa fun y => { y with submitted := true, staleAlarmed := worstStale }
  .next (s.addFlags 4 (flagBit (w.1 == 3) 9 ||| flagBit (w.1 == 2) 10 ||| flagBit stale 11))

/-! ### Where verdicts go (R230 to R232) -/

/-- A published body: objects, ALARMs and EVENT, the two counts for the health block, and the CA status message. -/
def State.afterCa (s : State) (a flags : Nat) : State :=
  let n := fun (off k : Nat) => leNat (Memory.getList s.mem (a + off) k)
  let wcf := n 0 1
  let verdicts := (List.range 48).map fun c => n (64 + 64 * c + 1) 1
  let causes := (List.range 48).map fun c => n (64 + 64 * c + 2) 2
  let s := (s.setObjN Obj.CAST_WCF wcf).setObjN Obj.CAST_WCF_CASE (n 1 1)
  let s := (s.setObjN Obj.CAST_CA_CYCLE ((s.stage 4).latestCycle % 2 ^ 64)).setObjN Obj.CAST_FLAGS flags
  let s := (s.setObjN Obj.CAST_SCHEDULED (n 3 1)).setObjN Obj.CAST_N_RED (n 6 1)
  let s := (s.setObjN Obj.CAST_N_AMBER (n 5 1)).setObjN Obj.CAST_N_UNKNOWN (n 7 1)
  let s := (List.range 48).foldl (fun (t : State) c =>
    let r := 64 + 64 * c
    let t := ((t.setObjN Obj.CASE_VERDICT (n (r + 1) 1) c).setObjN Obj.CASE_CAUSE (n (r + 2) 2) c).setObjN Obj.CASE_AGE (n (r + 6) 2) c
    let t := (t.setObjN Obj.CASE_EXC_POS (n (r + 16) 4) c).setObjN Obj.CASE_EXC_HEAD (n (r + 20) 4) c
    (t.setObjN Obj.CASE_UTIL (n (r + 24) 4) c).setObjN Obj.CASE_T_EXCEED (n (r + 32) 4) c) s
  let x := s.stages.ca
  let red := (List.range 48).filter fun c => verdicts.getD c 0 == 3
  let rises := decide (rankVerdict x.wcf < rankVerdict wcf)
  let s := if rises && (wcf == 2 || wcf == 3) then s.alarm .ca "WCF_RISES" else s
  let s := (red.filter fun c => !x.red.contains c).foldl (fun (t : State) _ => t.alarm .ca "CASE_RED") s
  let s := if rankVerdict wcf < rankVerdict x.wcf then s.event .ca "WCF_FALLS" else s
  let unknown := ((List.range 48).filter fun c => verdicts.getD c 0 == 4 &&
    (bitOf (causes.getD c 0) 8 || bitOf (causes.getD c 0) 12)).length
  let peers := s.others.filterMap fun m => (s.peer m).summary.map (·.caVerdicts)
  let differ := match peers with
    | [p, q] => ((List.range 48).filter fun c =>
        p.getD c 0 == q.getD c 0 && p.getD c 0 != verdicts.getD c 0).length
    | _ => 0
  let s := s.setCa fun y => { y with wcf, wcfCase := n 1 1, red, verdicts, unknown, differ }
  let fl := flagBit (bitOf flags 9) 0 ||| flagBit (bitOf flags 8) 1 ||| flagBit (bitOf flags 11) 2 ||| flagBit (bitOf flags 13) 3
  let msg := leBytes 4 ((s.stage 4).latestCycle % 2 ^ 32) ++ leBytes 1 wcf ++ leBytes 1 (n 6 1) ++ leBytes 1 (n 7 1) ++
    leBytes 1 fl ++ leBytes 4 (n 32 4)
  s.sendMail 2 0 s.safety.hubSeq (msg ++ leBytes 4 (crc32 msg))

end Sys2Proof.Machine
end

