-- ==== Sys2Proof/Machine/Stages.lean ====
section
/-! DEFINITION. Where the pipeline meets the fabric and TB0 (01_architecture.md): the delivery of a job with what its stage
does then, the start of the pipeline, the 10 s boundary, and a check failure on a die link. -/

namespace Sys2Proof.Machine

/-! ### Delivery -/

/-- JOB_DELIVERY: the completion record is written and a stage job's slot is published (R118); `lost` is the loss of both
copies of a fallback source (R94), and `case` says that this is the last link of a case's chain, with the figures that the
firmware reads from its iterate (R217). -/
def execJobDelivery (ctx : BitVec 8) (lost : Bool) (case : Option (Fin 48 × CaseFigures)) (s : State) :
    Host.Outcome State Fault Refusal :=
  let c := ctx.toNat
  match s.job c with
  | none => .next s
  | some j =>
    if !(j.phase == .complete || j.phase == .fallback) then .next s else
    let status := (s.deliverable j lost).1
    let est := ((s.stage 3).pins.find? fun p => p.1 == 1).map (·.2)
    let s := s.deliver c j lost
    let flags := (s.stage j.stage).latestFlags
    let s := if j.stage == 0 || status == 4 || status == 5 then s
      else if j.stage == 1 then s.afterEstimate j.resultDst flags
      else if j.stage == 2 then s.afterVisual j.resultDst flags
      else if j.stage == 3 then s.afterPlan j.resultDst flags est
      else if j.stage == 4 then s.afterCa j.resultDst flags
      else s
    .next (match case with
      | some (k, f) => s.judgeCase k status f
      | none => s)

/-! ### The start of the pipeline (R33, R150) -/

/-- TB0 is locked. -/
def State.tb0Locked (s : State) : Bool := s.rd Reg.TB_STATUS_STATE 0 == 2

/-- A grandmaster has been found: TB0 has left the free state (R33, R335). -/
def State.gmFound (s : State) : Bool :=
  s.fabric.pipe.gmFound || (s.servo 0).everLocked || s.rd Reg.TB_STATUS_STATE 0 != 0

/-- `d` ns have passed since the hub became operational. -/
def State.upFor (s : State) (d : Nat) : Bool :=
  match s.fabric.pipe.operationalAt with
  | some t => s.elapsed t d
  | none => false

/-- The pipeline changed. -/
def State.setPipe (s : State) (f : PipeSt → PipeSt) : State :=
  s.setFabric fun x => { x with pipe := f x.pipe }

/-- Phase objects as written. -/
def State.phaseObjects (s : State) : List Nat :=
  [s.objN Obj.PHASE_EST_OFFSET, s.objN Obj.PHASE_EST_DEADLINE, s.objN Obj.PHASE_PLAN_RELEASE,
   s.objN Obj.PHASE_PLAN_DEADLINE, s.objN Obj.PHASE_VOTE_END, s.objN Obj.PHASE_VIS_RELEASE,
   s.objN Obj.PHASE_VIS_DEADLINE, s.objN Obj.PHASE_CA_RELEASE, s.objN Obj.PHASE_CA_DEADLINE]

/-- PIPELINE_START: at a 10 s boundary, after the first of the three events of R33. Cycles count from 0 again and the
estimator starts anew (R150). -/
def execPipelineStart (s : State) : Host.Outcome State Fault Refusal :=
  let locked := s.tb0Locked
  let third := !locked && s.gmFound && s.upFor 30000000000
  let go := locked || (!s.gmFound && s.upFor 5000000000) || third
  if s.gateRole || s.pipeRun || !go then .next s else
  let phases := s.phaseObjects
  let s := (s.takeSettings.setPipe fun p => { p with stages := [], phases }).raise Reg.TU_STATUS_PIPE_RUN
  let s := s.setEst fun e => { e with released := 0, first := true, dead := false, noHeading := false, noAccept := 0 }
  let s := s.setPlan fun p => { p with iterate := none, scen := 0, seedAt := none, infeasible := false }
  let s := s.setObjN Obj.PHASE_PHASE_STATE (if third then 2 else 1)
  .next (if third then s.alarm .time "PIPELINE_ACQUIRING" else s)

/-! ### Self-originated orders and the rotation test (R455, R456) -/

/-- An order that the policy firmware originates (R456). -/
def State.originate (s : State) (index sub : Nat) (value : List Byte) : State :=
  let n := max (s.osnHigh + 1) (s.journal.selfCounter + 1)
  let o : OrderRec :=
    { osn := 0, identity := s.node * 2 ^ 50 + n % 2 ^ 50, index, sub, value, device := false, solo := false, target := 0
      entry := s.node, port := 0, cls := 0, epoch := 0, time := {} }
  (s.setJ fun j => { j with selfCounter := n }).acceptOrder o none

/-- The three conditions of R455. -/
def State.mayRotate (s : State) (own : Nat) : Bool :=
  let heardLong := s.others.all fun m => (s.peer m).heard && match (s.peer m).heardSince with
    | some t => s.elapsed t 60000000000
    | none => false
  let ranks := s.rd Reg.CG_CEILING_RANK_CEIL == 12 && s.others.all fun m => (s.peer m).rankCeil == 12
  let next := (own + 1) % 3
  s.others.length == 2 && heardLong && ranks && decide (s.rd Reg.CG_CEILING_HEALTH_CEIL ≤ (s.peer next).healthCeil + 256)

/-- The rotation test of the leader's firmware at a 10 s boundary. -/
def State.rotationTest (s : State) : State :=
  let h := s.objN Obj.CLAIM_ROTATE_H
  match s.ownIndex with
  | none => s
  | some own =>
    if h == 0 || s.claims.leader != some own || !s.elapsed s.claims.rotatedAt (h * 3600000000000) then s else
    if s.mayRotate own then
      let s : State := { s with claims := { s.claims with rotFail := none } }
      s.originate 0x9000 0x08 (leBytes 1 ((own + 1) % 3))
    else
      let now := s.tb3
      match s.claims.rotFail with
      | none => { s with claims := { s.claims with rotFail := some now } }
      | some t =>
        if s.elapsed t 3600000000000 then
          ({ s with claims := { s.claims with rotFail := some now } } : State).event .claims "ROTATION_BLOCKED"
        else s

/-! ### The 10 s boundary of TB0 -/

/-- ω₀ moves toward the peak of the wave spectra of the latest estimate (R154). -/
def State.tuneOmega (s : State) : State :=
  match (s.stage 1).latest with
  | some a =>
    if !s.cfgB Obj.EST_WF_AUTO then s else
    let p := a + 256 * 207
    let v := fun (j : Nat) => s.f32At (p + 4 * j) + s.f32At (p + 128 + 4 * j)
    let top := (List.range 32).foldl (fun (b : Nat) j => if v b < v j then j else b) 0
    let want := 2 * Config.pi * ((top : Nat) + 2) / 60
    let now := s.objV Obj.EST_WF_OMEGA0
    let w := max (3 / 10) (min (13 / 10) (now + max (-1 / 20) (min (1 / 20) (want - now))))
    s.setObjN Obj.EST_WF_OMEGA0 (toF32 w)
  | none => s

/-- The estimator's cost check (R146). -/
def State.costCheck (s : State) (work : Nat) : State :=
  let limit : Rat := 92 / 100 * (58 / 100) * ((s.phaseMs 1 : Nat) * 1000000 - 100000)
  let ok := decide ((work : Rat) ≤ limit)
  let s := s.setEst fun e => { e with biasOff := !ok }
  if ok then s else s.alarm .estimation "BIAS_OFF"

/-- GRIST_REQ1, GRIST_REQ1MIN and GRIST_REQ3 written by the firmware (R193, R224). -/
def State.writeReqs (s : State) (w : WorkSums) : State :=
  let i := s.cfgN Obj.PLAN_ITER
  let r1 := s.planReq w.sweep w.root i
  let rm := s.planReq w.sweep16 w.root16 i
  let lam : Rat := ((s.phaseMs 8 - s.cfgN Obj.CA_PUB_LEAD : Nat) : Rat) * 1000000
  let r3 := if !s.objB Obj.CA_CA_ENABLE then 0 else if lam ≤ 0 then 65535
    else (11 / 10 * (352 / 10) * (w.ca : Nat) / lam * 10 : Rat).ceil.toNat
  let s := ((s.wr Reg.GRIST_REQ1_REQ r1).wr Reg.GRIST_REQ1MIN_REQ rm).wr Reg.GRIST_REQ3_REQ r3
  let s := (s.setObjN Obj.PLANST_REQ_COMPUTED (toF32 ((r1 : Nat) / 10))).setObjN Obj.CAST_REQ_COMPUTED (toF32 ((r3 : Nat) / 10))
  s.setPlan fun p => { p with work := w }

/-- TEN_SECOND_BOUNDARY: phases and settings take effect, Grist re-plans, the firmware's checks and requirements are made,
and the leader tests the rotation (R36, R77, R146, R151, R152, R154, R193, R212, R224, R455). A boundary is taken once. -/
def execTenSecondBoundary (w : WorkSums) (s : State) : Host.Outcome State Fault Refusal :=
  let sec := s.now 0 / 10000000000 * 10
  if s.fabric.pipe.boundary == some sec then .next s else
  let phases := s.phaseObjects
  let s := s.setPipe fun p => { p with boundary := some sec, phases }
  let s := if s.gateRole then s else s.applyDatum
  let s := if s.pipeRun then s.tuneOmega else s
  let s := s.takeSettings
  let s := if s.pipeRun then (s.costCheck w.est).writeReqs w else s
  .next ((s.replan.kiln).rotationTest)

/-! ### Die links (R28, R29, R432) -/

/-- Cask has a permanent fault: its unit is retired and the journal goes to FAULT (R432). -/
def State.caskFail (s : State) (cause : FaultCause) : State :=
  let s := ((s.retireUnit 455 cause).setJState 7).raise Reg.JE_IRQ_CASK_FAULT
  (s.setJ fun j => { j with kept := j.kept ++ j.writing, writing := [] }).chooseSequencer

/-- The unit slot of a die link has a permanent fault (R29): MA-H and MB-H take their 16 tiles with them. -/
def State.dieLinkFail (s : State) (k : Nat) (cause : FaultCause) : State :=
  let s := s.retireUnit (96 + k) cause
  if k == 0 then s.retireTiles (List.range 16) .link
  else if k == 1 then s.retireTiles ((List.range 32).drop 16) .link
  else s.replan

/-- DIE_LINK_CHECK_FAIL: attempt `attempt` (from 0) of a transfer on MA-H, MB-H, MA-MB or C-H fails its check: a transient,
repeated, or at the third a permanent fault of the link (R28). -/
def execDieLinkCheckFail (link : Fin 4) (attempt : Fin 3) (s : State) : Host.Outcome State Fault Refusal :=
  let slot := if link.val == 3 then 455 else 96 + link.val
  let fail (s : State) (cause : FaultCause) : State :=
    if link.val == 3 then s.caskFail cause else s.dieLinkFail link.val cause
  if s.retired slot then .next s
  else if attempt.val == 2 then .next (fail s .retry)
  else
    let r := s.unitTransient slot false
    .next (if r.2 then fail r.1 .rate else r.1)

end Sys2Proof.Machine
end

