-- ==== Sys2Proof/Machine/Health.lean ====
section
/-! DEFINITION. The health block (16_faults_health_logs.md): transients, retirement in every owning block, bank spares,
the health order, the patrol scrub and the log records that firmware raises. -/

namespace Sys2Proof.Machine

/-! ### Spare banks (R516) -/

/-- Slot of Grist-store bank b. -/
def bankSlot (b : Nat) : Nat := slotAt 2 b

/-- Spares in use or being filled. -/
def State.sparesUsed (s : State) : List Nat :=
  ((List.range 64).filterMap fun b => (s.unit (bankSlot b)).spare) ++
  s.health.jobs.filterMap fun j => match j with
    | .copyOut _ k _ => some k
    | _ => none

/-- A spare bank that is free. -/
def State.freeSpare (s : State) : Option Nat :=
  let used := s.sparesUsed
  ([0, 1, 2, 3] : List Nat).find? fun k => !used.contains k

/-- HL_STATUS.SPARES_FREE brought up to date. -/
def State.countSpares (s : State) : State :=
  let used := s.sparesUsed
  s.wr Reg.HL_STATUS_SPARES_FREE ((([0, 1, 2, 3] : List Nat).filter fun k => !used.contains k).length)

/-- A health job started. -/
def State.addJob (s : State) (j : HealthJob) : State :=
  (s.setHealth fun h => { h with jobs := h.jobs ++ [j] }).showBusy

/-- Health jobs for which `f` holds ended. -/
def State.endJobs (s : State) (f : HealthJob → Bool) : State :=
  (s.setHealth fun h => { h with jobs := h.jobs.filter fun j => !f j }).showBusy

/-- The copy of a bank to a spare that runs: the spare, and whether it is for a retirement. -/
def State.copyingOut (s : State) (b : Nat) : Option (Nat × Bool) :=
  s.health.jobs.findSome? fun j => match j with
    | .copyOut x k r => if x == b then some (k, r) else none
    | _ => none

/-- A retired bank stays on its spare (EVENT 5). -/
def State.bankSpared (s : State) (b : Nat) : State :=
  ((s.history (bankSlot b) 5 0 0 0 0).raise Reg.HL_IRQ_SPARED).countSpares

/-- What retirement of a bank starts: the copy to a free spare, the spare that a self-test had already filled or was
filling, or, with no spare left, the hold of the hub. -/
def State.retiredBank (s : State) (b : Nat) : State :=
  let s := s.endJobs fun j => match j with | .copyBack x _ => x == b | _ => false
  if (s.unit (bankSlot b)).spare.isSome then s.bankSpared b
  else match s.copyingOut b with
    | some (k, _) => (s.endJobs fun j => match j with | .copyOut x _ _ => x == b | _ => false).addJob (.copyOut b k true)
    | none =>
      match s.freeSpare with
      | some k => (s.addJob (.copyOut b k true)).countSpares
      | none =>
        if s.hub.bankRecovery then s else
        ((s.setHealth fun h => { h with exhausted := true }).alarm .health "SPARES_EXHAUSTED"
          (unitOf (bankSlot b))).holdIfExhausted

/-- BANK_SPARE_COPY_DONE: the bank's addresses are served from the spare (R516); in a self-test the test itself comes
next (R520). Words that were uncorrectable in the bank are copied as poisoned: their addresses are the operand. -/
def execBankSpareCopyDone (bank : Fin 64) (poisoned : List Word) (s : State) : Host.Outcome State Fault Refusal :=
  match s.copyingOut bank with
  | some (k, retiring) =>
    let words := poisoned.map fun w => w.toNat / 8 * 8
    let s := { s with poisoned := (s.poisoned ++ words).dedup }
    let s := s.endJobs fun j => match j with | .copyOut x _ _ => x == bank.val | _ => false
    let s := s.setUnit (bankSlot bank) fun u => { u with spare := some k }
    .next (if retiring then s.bankSpared bank else s.countSpares)
  | none => .next s

/-- The spare of a bank released, with EVENT 6. -/
def State.releaseSpare (s : State) (b node osn : Nat) : State :=
  ((s.setUnit (bankSlot b) fun u => { u with spare := none }).history (bankSlot b) 6 0 node 0 osn).countSpares

/-- BANK_COPY_BACK_DONE: the bank serves its addresses again and its spare is released (R516, R520, R521). -/
def execBankCopyBackDone (bank : Fin 64) (s : State) : Host.Outcome State Fault Refusal :=
  let b := bank.val
  match s.health.jobs.findSome? fun j => match j with
    | .copyBack x r => if x == b then some r else none
    | _ => none with
  | some r =>
    let s := s.endJobs fun j => match j with | .copyBack x _ => x == b | _ => false
    match r with
    | some (node, osn) =>
      .next (((s.unitReturned (bankSlot b) node osn).releaseSpare b 0 0).wr Reg.HL_ACT_STATUS_RESULT 0)
    | none => .next ((s.setUnit (bankSlot b) fun u => { u with spare := none }).countSpares)
  | none => .next s

/-! ### Retirement in the owning block (R515) -/

/-- A unit retired, and its owning block told (R515 and the table of what retirement does). -/
def State.ownerRetire (s : State) (slot : Nat) (cause : FaultCause) (osn : Nat := 0) : State :=
  if s.retired slot then s else
  let i := instOf slot
  match kindOf slot with
  | 1 => s.retireTile i cause 0 osn
  | 2 => (s.retireUnit slot cause 0 osn).retiredBank i
  | 3 => (s.retireUnit slot cause 0 osn).dieLinkFail i cause
  | 4 => (s.retireUnit slot cause 0 osn).portRetire (33 + i)
  | 5 => (s.retireUnit slot cause 0 osn).portRetire (1 + i)
  | 6 => (s.retireUnit slot cause 0 osn).canRetire i
  | 7 => (s.retireUnit slot cause 0 osn).portRetire (25 + i)
  | 8 => (s.retireUnit slot cause 0 osn).pfRetire i
  | 9 => (s.retireUnit slot cause 0 osn).scRetire i
  | 10 => (s.retireUnit slot cause 0 osn).loopRetire i
  | _ => s.caskFail cause

/-- One transient of a unit, which retires it past its threshold (R512). -/
def State.transient (s : State) (slot : Nat) (second : Bool) : State :=
  let p := s.unitTransient slot second
  if p.2 then p.1.ownerRetire slot .rate else p.1

/-- TRANSIENT: `corrected` picks the corrected-word count of a tile. -/
def execTransient (slot : Fin 456) (corrected : Bool) (s : State) : Host.Outcome State Fault Refusal :=
  .next (s.transient slot (corrected && kindOf slot == 1))

/-- SUBINTERVAL_ROLL: the newest of the 16 sub-intervals of the unit's window starts at 0 (R512). -/
def execSubintervalRoll (slot : Fin 456) (s : State) : Host.Outcome State Fault Refusal :=
  .next (s.setUnit slot fun u => { u with window := (0 :: u.window).take 16, window2 := (0 :: u.window2).take 16 })

/-- PERMANENT_FAULT (R515, R523): the unit is retired with the cause; a self-test that runs on it ends. -/
def execPermanentFault (slot : Fin 456) (cause : FaultCause) (s : State) : Host.Outcome State Fault Refusal :=
  let tested := (s.testJob slot).isSome
  let s := if tested then
      (s.endJobs fun j => match j with | .test x _ _ => x == slot.val | _ => false).wr Reg.HL_ACT_STATUS_RESULT 2
    else s
  let s := if s.retired slot then s.setUnit slot fun u => { u with state := 3, testedAt := none } else s
  .next (s.ownerRetire slot cause)

/-- CASK_FAULT (R432). -/
def execCaskFault (cause : FaultCause) (s : State) : Host.Outcome State Fault Refusal :=
  .next (if s.retired 455 then s else s.caskFail cause)

/-! ### The health order and HL_ACTION (R519 to R522) -/

/-- The application of the health order with this action on this unit is open: origin node and OSN. -/
def State.healthOpen (s : State) (action slot : Nat) : Option (Nat × Nat) :=
  match s.journal.apply with
  | some a =>
    (s.heldOrders.find? fun o =>
      o.osn == a.osn && o.index == 0xA020 && o.sub == 1 &&
        o.value == leBytes 2 (unitOf slot) ++ [BitVec.ofNat 8 action, 0]).map fun o => (o.entry, o.osn)
  | none => none

/-- TEST may start (R520). -/
def State.testAllowed (s : State) (slot : Nat) : Bool :=
  let i := instOf slot
  if (s.testJob slot).isSome then false
  else if slot == 455 then s.bench
  else if s.retired slot then true
  else match kindOf slot with
    | 1 => (s.tile i).mode == .offline || s.tileInService i
    | 2 => s.freeSpare.isSome && (s.unit slot).state == 0 && (s.unit slot).spare.isNone && (s.copyingOut i).isNone
    | 3 => false
    | 4 => decide (s.rd Reg.XL_STATUS_STATE i < 3)
    | 5 => decide (s.rd Reg.EM_STATUS_STATE i < 3)
    | 6 => s.canTestOk i
    | 7 => decide (s.rd Reg.SU_STATUS_STATE i < 3)
    | 8 => s.rd Reg.PFC_CFG_PT_MODE i != 3 && decide (s.pfState i < 3)
    | 9 => decide (s.scState i < 5)
    | _ => s.slotTestOk i

/-- The self-test of a unit that is in service or OFFLINE, as its own block runs it. -/
def State.blockTest (s : State) (slot : Nat) : State :=
  let i := instOf slot
  match kindOf slot with
  | 1 => if (s.tile i).mode == .offline then s.tileBist i else s.drainTile i true
  | 2 =>
    match s.freeSpare with
    | some k => ((s.addJob (.copyOut i k false)).unitTesting slot).countSpares
    | none => s
  | 4 => s.portTestStart (33 + i)
  | 5 => s.portTestStart (1 + i)
  | 6 => s.canTestStart i
  | 7 => s.portTestStart (25 + i)
  | 8 => s.pfTestStart i
  | 9 => s.scTestStart i
  | 10 => s.slotTestStart i
  | _ => s

/-- TEST started; `by_` is the origin node and OSN of its order. -/
def State.startTest (s : State) (slot : Nat) (by_ : Nat × Nat) : State :=
  let s := s.addJob (.test slot by_.1 by_.2)
  let s := s.wr Reg.HL_ACT_STATUS_RESULT 0
  if s.retired slot then s else s.blockTest slot

/-- HL_TEST: a write of HL_ACTION with TEST, which acts whenever it comes. -/
def execHlTest (slot : Fin 456) (s : State) : Host.Outcome State Fault Refusal :=
  if s.testAllowed slot then .next (s.startTest slot ((s.healthOpen 1 slot).getD (0, 0)))
  else .next (s.wr Reg.HL_ACT_STATUS_RESULT 1)

/-- HL_TEST_DONE: the self-test of a retired unit, of a bank or of Cask ends. A bank that passes is copied back; one that
fails is retired and stays on its spare. -/
def execHlTestDone (slot : Fin 456) (pass : Bool) (s : State) : Host.Outcome State Fault Refusal :=
  let was := s.retired slot
  let bank := kindOf slot == 2
  if (s.testJob slot).isNone then .next s
  else if was || slot.val == 455 then .next (s.unitTested slot pass)
  else if bank && (s.unit slot).spare.isSome then
    let s := s.unitTested slot pass
    .next (if pass then s.addJob (.copyBack (instOf slot) none) else s.retiredBank (instOf slot))
  else .next s

/-- The conditions of R521 under which a RETURN is accepted. -/
def State.returnAllowed (s : State) (slot : Nat) : Bool :=
  let u := s.unit slot
  u.state == 4 && decide (u.retireCount < 3) && !u.sinceTest &&
  (match u.testedAt with | some t => !s.elapsed t 600000000000 | none => false) &&
  !(s.health.jobs.any fun j => match j with
    | .copyBack x _ => kindOf slot == 2 && x == instOf slot
    | .test x _ _ => x == slot
    | _ => false)

/-- The unit put in service as its block's return does (R521). -/
def State.ownerReturn (s : State) (slot : Nat) (node osn : Nat) : State :=
  let i := instOf slot
  match kindOf slot with
  | 1 => s.onlineTile i node osn
  | 2 =>
    if (s.unit slot).spare.isSome then s.addJob (.copyBack i (some (node, osn)))
    else s.unitReturned slot node osn
  | 3 => (s.unitReturned slot node osn).replan
  | 4 => (s.unitReturned slot node osn).portReturn (33 + i)
  | 5 => (s.unitReturned slot node osn).portReturn (1 + i)
  | 6 => (s.unitReturned slot node osn).canReturn i
  | 7 => (s.unitReturned slot node osn).portReturn (25 + i)
  | 8 => (s.unitReturned slot node osn).pfReturn i
  | 9 => (s.unitReturned slot node osn).scReturn i
  | 10 => (s.unitReturned slot node osn).slotReturn i
  | _ => s.unitReturned slot node osn

/-- HL_RETURN: a write of HL_ACTION with RETURN (R519, R521). -/
def execHlReturn (slot : Fin 456) (s : State) : Host.Outcome State Fault Refusal :=
  match s.healthOpen 2 slot with
  | none => .next (s.wr Reg.HL_ACT_STATUS_RESULT 3)
  | some (node, osn) =>
    if s.returnAllowed slot then .next ((s.wr Reg.HL_ACT_STATUS_RESULT 0).ownerReturn slot node osn)
    else .next (s.wr Reg.HL_ACT_STATUS_RESULT 1)

/-- Class 0 stays within its requirement in the floor table without tile n (R522). -/
def State.class0Without (s : State) (n : Nat) : Bool :=
  let t := (s.setUnit n fun u => { u with state := 3 }).buildTable false
  let need := s.ranks.foldl (fun m r => if r.1 == 0 then max m r.2.1 else m) 0
  decide (need ≤ t.grants.getD 0 0)

/-- RETIRE is accepted (R522). -/
def State.retireAllowed (s : State) (slot : Nat) : Bool :=
  let i := instOf slot
  slot != 455 && !s.retired slot &&
  (match kindOf slot with
   | 1 => s.class0Without i
   | 10 => (driveTargets (s.slot i).program).isEmpty || (s.usableSpare i).isSome
   | _ => true)

/-- HL_RETIRE: a write of HL_ACTION with RETIRE (R519, R522). -/
def execHlRetire (slot : Fin 456) (s : State) : Host.Outcome State Fault Refusal :=
  match s.healthOpen 3 slot with
  | none => .next (s.wr Reg.HL_ACT_STATUS_RESULT 3)
  | some (_, osn) =>
    if s.retireAllowed slot then .next ((s.wr Reg.HL_ACT_STATUS_RESULT 0).ownerRetire slot .ordered osn)
    else .next (s.wr Reg.HL_ACT_STATUS_RESULT 1)

/-- Reason with which a health order is refused, or 0: no such unit or action, or the conditions of R520 to R522. -/
def State.healthRefusal (s : State) (unit action : Nat) : Nat :=
  match slotOf unit with
  | none => 13
  | some slot =>
    if action == 1 then (if s.testAllowed slot then 0 else 15)
    else if action == 2 then (if s.returnAllowed slot then 0 else 15)
    else if action == 3 then (if s.retireAllowed slot then 0 else 15)
    else 13

/-- In the recovery of R516 the boot ROM carries out the order itself, for bank units only, and journals nothing. -/
def State.recoveryHealth (s : State) (slot action : Nat) : State :=
  if kindOf slot != 2 || action == 3 then s.answer 15
  else if action == 1 then (s.startTest slot (0, 0)).answer 0
  else (s.ownerReturn slot 0 0).answer 0

/-- HEALTH_ORDER: an ORDER of 0xA020.01, refused, or its application opened as the next in turn; the policy firmware then
writes HL_ACTION (R519). -/
def execHealthOrder (unit : BitVec 16) (action : BitVec 8) (s : State) : Host.Outcome State Fault Refusal :=
  let why := s.healthRefusal unit.toNat action.toNat
  if why ≠ 0 then .next (s.answer why)
  else if s.hub.bankRecovery then .next (s.recoveryHealth ((slotOf unit.toNat).getD 0) action.toNat)
  else .next (s.openNext.answer 0)

/-! ### Patrol scrub (R524) -/

/-- SCRUB_NOW: a write of HL_CTRL.SCRUB_NOW starts a pass. -/
def execScrubNow (s : State) : Host.Outcome State Fault Refusal :=
  .next (s.setHealth fun h => { h with scrubbing := true })

/-- SCRUB_PASS: a pass starts, or the pass that runs finishes. The words it finds come as TRANSIENT and
PERMANENT_FAULT. -/
def execScrubPass (finished : Bool) (s : State) : Host.Outcome State Fault Refusal :=
  if !finished then .next (s.setHealth fun h => { h with scrubbing := true })
  else if !s.health.scrubbing then .next s
  else .next (((s.setHealth fun h => { h with scrubbing := false }).incWrap Reg.HL_SCRUB_PASSES).raise
    Reg.HL_IRQ_SCRUB_DONE)

/-- CASK_READ_THROUGH: corrected reads are transients of Cask, an uncorrectable one a permanent fault. -/
def execCaskReadThrough (corrected : Nat) (uncorrectable : Bool) (s : State) : Host.Outcome State Fault Refusal :=
  if s.retired 455 then .next s else
  let s := (List.range corrected).foldl (fun t _ => t.transient 455 false) s
  .next (if uncorrectable then s.ownerRetire 455 .uncorrectable else s)

/-! ### Log records (R525 to R532, R596) -/

/-- ALARM_RAISE: a hardware block raises an ALARM about a unit. -/
def execAlarmRaise (block : HwBlock) (name : String) (unit : BitVec 16) (s : State) :
    Host.Outcome State Fault Refusal := .next (s.alarm block name unit.toNat)

/-- EVENT_RAISE: a hardware block raises an EVENT about a unit. -/
def execEventRaise (block : HwBlock) (name : String) (unit : BitVec 16) (s : State) :
    Host.Outcome State Fault Refusal := .next (s.event block name unit.toNat)

/-- TRACE_RAISE: a TRACE of the given code, unit and words, of which a record carries 7. -/
def execTraceRaise (code unit : BitVec 16) (detail : List Word) (s : State) : Host.Outcome State Fault Refusal :=
  .next (s.traceWith code.toNat unit.toNat 1 s.stamp s.stamp ((detail ++ List.replicate 7 0).take 7))

/-- Records of the overflow area written to the ring while its next slot is free; `n` bounds the number. -/
def State.drainOverflow (s : State) : Nat → State
  | 0 => s
  | n + 1 =>
    if s.slotHeld then s else
    match s.health.overflow with
    | a :: rest => ((s.setHealth fun h => { h with overflow := rest }).ringWrite a).drainOverflow n
    | [] => s

/-- OVERFLOW_DRAIN (R527): Cask writes are held during a dip (R31). -/
def execOverflowDrain (s : State) : Host.Outcome State Fault Refusal :=
  .next (if s.dip then s else ((s.drainOverflow s.health.overflow.length).endLostSubs).holdIfExhausted)

/-- COALESCE_INTERVAL (R528): the interval of a key ends, with one record for the raisings in it. -/
def execCoalesceInterval (key : Nat) (s : State) : Host.Outcome State Fault Refusal :=
  let k := Map.get {} s.health.keys key
  if !k.coalescing || !s.elapsed k.began (s.objN Obj.LOG_COALESCE_MS * 1000000) then .next s else
  let busy := s.evBusy
  let s := if k.count = 0 then s else s.evIssue (key / 65536) (key % 65536) k.count k.first k.last true k.detail
  let now := s.tb3
  let stop := decide (k.count ≤ s.objN Obj.LOG_EVENT_RATE) && !busy
  let s := s.setHealth fun h =>
    { h with keys := Map.put h.keys key { k with coalescing := !stop, began := now, count := 0 } }
  .next (if stop then s.decSat Reg.HL_COALESCING_KEYS else s)

/-- 32-bit words of a record. -/
def recordWords (b : List Byte) (off n : Nat) : List Word :=
  (List.range n).map fun i => BitVec.ofNat 32 (leAt b (off + 4 * i) 4)

/-- HL_RAISE (R532): firmware raises the record at an offset of the Grist store, or the write is ignored and counted.
A TRACE while TRACE_EN is false is neither raised nor counted. -/
def execHlRaise (_core : Fin 4) (cls : BitVec 2) (src : BitVec 21) (s : State) : Host.Outcome State Fault Refusal :=
  let refused := s.setObjN Obj.LOG_RAISE_REFUSED ((s.objN Obj.LOG_RAISE_REFUSED + 1) % 2 ^ 32)
  let off := src.toNat * 64
  if cls = 3 then .next s
  else if cls = 0 then
    let b := s.gristGet off 128
    if crc32 (b.take 124) = leAt b 124 4 ∧ leAt b 14 2 = 0 ∧ leAt b 22 1 < 8 ∧ leAt b 23 1 = 0 then
      .next (s.alarmWith (leAt b 6 2) (leAt b 20 2) ⟨leAt b 8 6, leAt b 16 4⟩ (recordWords b 36 15)
        ((b.drop 96).take 28)).endLostSubs
    else .next refused
  else if cls = 2 ∧ !s.objB Obj.LOG_TRACE_EN then .next s
  else
    let b := s.gristGet off 64
    if crc32 (b.take 60) = leAt b 60 4 ∧ leAt b 30 1 < 4 ∧ leAt b 31 1 = 0 then
      let first : Stamp := ⟨leAt b 12 4, leAt b 8 4⟩
      let last : Stamp := ⟨leAt b 20 4, leAt b 16 4⟩
      let words := recordWords b 32 7
      if cls = 1 then .next (s.eventWith (leAt b 6 2) (leAt b 28 2) (leAt b 24 4) first last words)
      else .next (s.traceWith (leAt b 6 2) (leAt b 28 2) (leAt b 24 4) first last words)
    else .next refused

end Sys2Proof.Machine
end

