-- ==== Sys2Proof/Machine/Claims.lean ====
section
/-! DEFINITION. Sets, claims and leadership (14_redundancy_claims.md): the exchange between members, the two ceilings,
the leader, the claim number and the proof test. -/

namespace Sys2Proof.Machine

/-! ### Hearing and the members signature (R438, R441, R442) -/

/-- Frames of TYPE 4 to 7 of the member are ignored: its last heartbeat carried another members signature. -/
def State.sigDiffers (s : State) (m : Nat) : Bool :=
  let p := s.peer m
  p.sigSeen && p.sig != s.membersSig

/-- The signature differs from those of both peers, which agree (R438). -/
def State.setMismatch (s : State) : Bool :=
  match s.others with
  | [a, b] =>
    let p := s.peer a
    let q := s.peer b
    p.heard && q.heard && p.sigSeen && q.sigSeen && p.sig == q.sig && p.sig != s.membersSig
  | _ => false

/-- XL_UP of a heartbeat: bit l for XLl with LINK. -/
def State.xlUp (s : State) : Nat := sumBits 4 fun l => s.flag Reg.XL_STATUS_LINK l

/-- The heartbeat that this member sends now (R442). -/
def State.heartbeat (s : State) : Heartbeat :=
  { claim := s.rd Reg.CG_CLAIM_CLAIM, sig := s.membersSig, setId := s.objN Obj.SET_SET_ID
    epoch := s.rd Reg.CG_CFG_EPOCH, leaderView := s.claims.leader.getD 0xFF, xlUp := s.xlUp, time := s.stamp
    healthCeil := s.rd Reg.CG_CEILING_HEALTH_CEIL, rankCeil := s.rd Reg.CG_CEILING_RANK_CEIL }

/-- HEARTBEAT_SEND: every 10 ms, on every peer link that this member has enabled. -/
def execHeartbeatSend (s : State) : Host.Outcome State Fault Refusal :=
  .next (if s.inSet then s.sendAllBoth (.heartbeat s.heartbeat) else s)

/-! ### The ceilings (R451, R452) -/

/-- The rank ceiling (R451). -/
def State.rankCeiling (s : State) : Nat :=
  if s.bench || !s.inSet || s.flag Reg.LE_STATUS_DATAPATH_FAULT then 0
  else if s.jstate == 0 || s.jstate == 1 || s.jstate == 6 || s.jstate == 7 then 4
  else if s.setMismatch || (s.objB Obj.PHASE_PHASE_MISMATCH && !s.claims.phaseSplit) then 4
  else if !s.claims.planDone then 4
  else if s.claims.capped then 4
  else 12

/-- A condition holds now or held within the last 60 s. -/
def State.held60 (s : State) (bit : Nat) : Bool :=
  match Map.get none s.claims.lastTerm bit with
  | some t => !s.elapsed t 60000000000
  | none => false

/-- The list in force names three members. -/
def State.threeNamed (s : State) : Bool :=
  s.flag Reg.CG_MEMBER01_VALID0 && s.flag Reg.CG_MEMBER01_VALID1 && s.flag Reg.CG_MEMBER2_VALID2

/-- Gates that have named another holder for 200 ms, while this member is leader in its own view. -/
def State.gatesLost (s : State) : Nat :=
  if s.claims.leader.isNone || s.claims.leader != s.ownIndex then 0 else
  (s.claims.gates.filter fun p => match p.2.otherSince with
    | some t => s.elapsed t 200000000
    | none => false).length

/-- The penalty of each term of R452, bit 0 first. -/
def State.healthTerms (s : State) : List Nat :=
  let tiles := ((List.range 32).filter s.retired).length
  let run3 (o : ObjDef) (bit : Nat) : Bool := decide (3 ≤ s.objN o) || s.held60 bit
  let c := s.claims
  let downs := ((List.range 4).filter fun l => s.flag Reg.XL_CTRL_ENABLE l && !s.flag Reg.XL_STATUS_LINK l).length
  [16 * tiles, 128 * s.rd Reg.GRIST_STATUS_SHED,
   if run3 Obj.EST_SHIFTED_RUN 2 then 1024 else 0,
   if run3 Obj.PLANST_SHIFTED_RUN 3 then 1024 else 0,
   if bitOf (s.stage 1).latestFlags 8 then 1024 else 0,
   if s.held60 5 then 512 else 0,
   if c.outside.any id then 512 else 0,
   if c.lone.length == 10 && c.lone.all id && s.threeNamed then 256 else 0,
   if c.estOut.any id then 256 else 0,
   min 256 (16 * s.stages.ca.unknown), min 512 (32 * s.stages.ca.differ), 256 * s.gatesLost, 32 * downs,
   if s.jstate == 4 then 2048 else 0, if s.flag Reg.GAUGE_STATUS_KILN_URGENT then 64 else 0]

/-- The marks that the ceilings need of the past: the 60 s holds of terms 2 and 3, and the latch of the vote. -/
def State.noteTerms (s : State) : State :=
  let now := s.tb3
  let mark (s : State) (o : ObjDef) (bit : Nat) : State :=
    if 3 ≤ s.objN o then s.setClaims fun c => { c with lastTerm := Map.put c.lastTerm bit (some now) } else s
  let s := mark (mark s Obj.EST_SHIFTED_RUN 2) Obj.PLANST_SHIFTED_RUN 3
  let out := decide (s.objN Obj.CLAIM_VOTE_OUT_MAX ≤ s.objN Obj.CLAIMST_OUT_RUN)
  let inside := decide (10 ≤ s.objN Obj.CLAIMST_IN_RUN)
  s.setClaims fun c => { c with capped := if inside then false else c.capped || out }

/-- Both ceilings computed again (R451 to R453). -/
def State.ceilings (s : State) : State :=
  let s := s.noteTerms
  let ts := s.healthTerms
  let health := 4095 - ts.foldl (· + ·) 0
  let causes := sumBits 15 fun b => decide (0 < ts.getD b 0)
  let rank := s.rankCeiling
  let changed := s.rd Reg.CG_CEILING_RANK_CEIL != rank || s.rd Reg.CG_CEILING_HEALTH_CEIL != health
  let s := ((s.wr Reg.CG_CEILING_RANK_CEIL rank).wr Reg.CG_CEILING_HEALTH_CEIL health).wr Reg.CG_CEILING_CAUSES causes
  if changed then s.raise Reg.CG_IRQ_CEIL_CHANGE else s

/-! ### The leader (R454) -/

/-- The leader in this member's view. -/
def State.leaderView (s : State) : Option Nat :=
  match s.ownIndex with
  | none => none
  | some own =>
    let l := s.rd Reg.CG_MEMBER2_LEADER_INDEX
    ([l, l + 1, l + 2].map (· % 3)).find? fun i =>
      if i == own then s.rd Reg.CG_CEILING_RANK_CEIL == 12
      else (s.peer i).heard && (s.peer i).rankCeil == 12

/-- Rank that the policy firmware requests. -/
def State.wantedRank (s : State) : Nat :=
  if s.claims.leader.isSome && s.claims.leader == s.ownIndex then 12 else if s.claims.planDone then 8 else 4

/-- The leader chosen again, and the rank that the policy firmware then requests. A member that leads no more ends its
proof test. -/
def State.chooseLeader (s : State) : State :=
  if !s.inSet || !s.hub.replayed then s.setClaims fun c => { c with leader := none } else
  let l := s.leaderView
  let s := s.setClaims fun c => { c with leader := l, proofDue := c.proofDue && l == s.ownIndex }
  let s := s.setObjN Obj.CLAIMST_LEADER_VIEW (l.getD 0xFF)
  (s.wr Reg.CG_CLAIM_REQ_RANK s.wantedRank).updateClaim

/-- CEILING_RECOMPUTE (R453). The claim number follows. -/
def execCeilingRecompute (s : State) : Host.Outcome State Fault Refusal :=
  .next (s.ceilings.chooseLeader).updateClaim

/-- CLAIM_REQUEST: a core writes CG_CLAIM_REQ (R450). -/
def execClaimRequest (_core : Fin 4) (v : Word) (s : State) : Host.Outcome State Fault Refusal :=
  .next ((s.wr Reg.CG_CLAIM_REQ_RANK (v.toNat / 2 ^ 28)).wr Reg.CG_CLAIM_REQ_HEALTH (v.toNat / 2 ^ 16)).updateClaim

/-- CLAIM_SEND: a write of CG_CTRL.SEND. -/
def execClaimSend (s : State) : Host.Outcome State Fault Refusal := .next s.sendClaim

/-- LEASE_RENEWAL: ⌊LEASE_MS / 3⌋ ms, and at least 6 ms, after the last claim frame (R460). -/
def execLeaseRenewal (s : State) : Host.Outcome State Fault Refusal :=
  let ms := max 6 (s.rd Reg.CG_CFG_LEASE_MS / 3)
  .next (if s.elapsed s.claims.lastSend (ms * 1000000) then s.sendClaim else s)

/-! ### Frames of other members (R438, R441 to R444) -/

/-- HEARTBEAT_RECEIVED: a second copy, by its sending time, changes nothing further; of a member with another signature
only the signature is taken, with an EVENT. -/
def execHeartbeatReceived (i : Member) (h : Heartbeat) (s : State) : Host.Outcome State Fault Refusal :=
  let s := s.hear i
  let key := (h.time.sec % 2 ^ 32, h.time.ns)
  if (s.peer i).lastHb = some key then .next s.chooseLeader else
  let s := s.setPeer i fun p => { p with lastHb := some key, sig := h.sig, sigSeen := true }
  if h.sig ≠ s.membersSig then .next (s.event .claims "MEMBERS_SIG").chooseLeader else
  .next (s.setPeer i fun p =>
    { p with claim := h.claim, setId := h.setId, epoch := h.epoch, leaderView := h.leaderView, xlUp := h.xlUp
             healthCeil := h.healthCeil, rankCeil := h.rankCeil }).chooseLeader

/-- PEER_LOST: no good frame of the member within the last 50 ms. -/
def execPeerLost (i : Member) (s : State) : Host.Outcome State Fault Refusal :=
  let quiet : Bool := match (s.peer i).lastFrame with | some t => s.elapsed t 50000000 | none => true
  if quiet then .next (s.setPeer i fun p => { p with heard := false, heardSince := none }).chooseLeader else .next s

/-- PEER_CLAIM_RECEIVED: the claim frame of another member. -/
def execPeerClaimReceived (i : Member) (f : ClaimFrame) (s : State) : Host.Outcome State Fault Refusal :=
  let s := s.hear i
  let key := (f.tS.toNat, f.tNs.toNat)
  if s.sigDiffers i || f.format != 1 || !crcOk (claimBody f) f.crc || (s.peer i).lastClaim == some key then .next s
  else .next (s.setPeer i fun p => { p with claim := f.claim.toNat, claimFrame := some f, lastClaim := some key })

/-- A summary or allocation frame that arrives after the start of its period's vote (R444). -/
def State.latePeer (s : State) (tref : Nat) : State :=
  if s.claims.votedFor == some tref then
    (s.setObjN Obj.CLAIMST_VOTE_FLAGS (s.objN Obj.CLAIMST_VOTE_FLAGS ||| 2 ^ 13)).event .claims "LATE_PEER"
  else s

/-- The phase objects compared with those of both other members (R37). -/
def State.comparePhases (s : State) : State :=
  match s.others.map fun m => (s.peer m).summary with
  | [some p, some q] =>
    let own := s.fabric.pipe.phases
    let split := p.phase != own && q.phase != own && p.phase != q.phase
    let differs := p.phase != own && q.phase != own
    let was := s.objB Obj.PHASE_PHASE_MISMATCH
    let s := (s.setObjN Obj.PHASE_PHASE_MISMATCH (ofBool differs)).setClaims fun c => { c with phaseSplit := split }
    if differs && !was then s.alarm .claims "PHASE_MISMATCH" else s
  | _ => s

/-- PLAN_SUMMARY_RECEIVED (R443, R444, R37). -/
def execPlanSummaryReceived (i : Member) (p : PlanSummary) (s : State) : Host.Outcome State Fault Refusal :=
  let s := s.hear i
  let second : Bool := match (s.peer i).summary with | some q => q.planTref == p.planTref | none => false
  if s.sigDiffers i || p.sig != s.membersSig then .next (s.event .claims "MEMBERS_SIG")
  else if second then .next s
  else
    let s := s.latePeer p.planTref
    .next (s.setPeer i fun v =>
      { v with summary := some p, claim := p.claim, alloc := v.alloc.filter fun f => f.planTref == p.planTref }).comparePhases

/-- ALLOCATION_RECEIVED (R443, R444): the frames of one plan are kept, a second copy is dropped. -/
def execAllocationReceived (i : Member) (a : AllocFrame) (s : State) : Host.Outcome State Fault Refusal :=
  let s := s.hear i
  let held := (s.peer i).alloc.any fun f => f.planTref == a.planTref && f.part == a.part
  if s.sigDiffers i then .next (s.event .claims "MEMBERS_SIG")
  else if held then .next s
  else
    let s := s.latePeer a.planTref
    .next (s.setPeer i fun v => { v with alloc := (v.alloc.filter fun f => f.planTref == a.planTref) ++ [a] })

/-! ### Orders of the set (R439, R454, R455) -/

/-- LEADER_INDEX: an ORDER of 0x9000.08 applied. A member that becomes leader by it owes the proof test (R471). -/
def State.applyLeader (s : State) (idx : Nat) : State :=
  let was := s.claims.leader
  let now := s.tb3
  let t := s.stamp
  let s := (s.setObjN Obj.CLAIM_LEADER_INDEX idx).wr Reg.CG_MEMBER2_LEADER_INDEX idx
  let s := s.setObj Obj.CLAIMST_LAST_ROTATION (.bytes (leBytes 6 t.sec ++ leBytes 2 0 ++ leBytes 4 t.ns))
  let s := (s.setClaims fun c => { c with rotatedAt := now, rotFail := none }).chooseLeader
  if s.claims.leader.isSome && s.claims.leader == s.ownIndex && was != s.claims.leader then
    s.setClaims fun c => { c with proofDue := true }
  else s

/-- LEADER_INDEX. -/
def execLeaderIndex (idx : Fin 3) (s : State) : Host.Outcome State Fault Refusal :=
  if s.gateRole then .next (s.answer 10) else .next ((s.applyLeader idx).answer 0)

/-- EPOCH_ADVANCE: an ORDER of 0x9000.06 with value 1 applied (R439). -/
def execEpochAdvance (s : State) : Host.Outcome State Fault Refusal :=
  if s.gateRole then .next (s.answer 10) else
  let e := (s.objN Obj.CLAIM_EPOCH + 1) % 256
  .next ((((s.setObjN Obj.CLAIM_EPOCH e).wr Reg.CG_CFG_EPOCH e).updateClaim).answer 0)

/-! ### Proof test (R471) -/

/-- The path serves the thruster: a running controller of the tap with a buffer for it, or an EM port of the tap. -/
def State.pathServes (s : State) (path t : Nat) : Bool :=
  if path < 16 then s.tapCan path && (s.tapBuffer path t).isSome else s.tapEm (path - 16)

/-- PROOF_TEST: a probe with the last command of a thruster, on one path alone. `gates` is how many gates the path
reaches. -/
def execProofTest (path : Fin 24) (thruster : Fin 32) (gates : Nat) (s : State) : Host.Outcome State Fault Refusal :=
  let p : Nat := path
  let t : Nat := thruster
  match Map.get none s.claims.lastCmd t with
  | some c =>
    if !s.control || !s.claims.proofDue || !s.pathServes p t then .next s else
    let f := s.commandFrame
      { thruster := t, status := c.status.toNat, app := c.appS.toNat * 1000000000 + c.appNs.toNat
        values := [c.drive.toInt, c.angle.toInt, c.thrust.toInt, c.aux.toInt], planCycle := c.planCycle.toNat, probe := true }
    let ws := s.tapHead 2 t 14 ++ wordsOf 12 (commandBytes f)
    let now := s.tb3
    let s := s.setClaims fun k =>
      { k with cmdSeq := Map.upd 0 k.cmdSeq t (fun q => (q + 1) % 2 ^ 32)
               probes := k.probes ++ [⟨p, t, c.appS.toNat * 1000000000 + c.appNs.toNat, now, gates⟩] }
    if p < 16 then
      match s.tapBuffer p t with
      | some b => .next (s.tapFrame p b ws)
      | none => .next s
    else .next (s.setClaims fun k => { k with tapOut := k.tapOut ++ [⟨p, .command f⟩] })
  | none => .next s

/-- PROOF_RESULT_TIMEOUT: 100 ms after the probes of a path. `results` are those that the gates reached by the path have
reported: 1 OK, 2 MISMATCH, 3 UNMATCHED. -/
def execProofResultTimeout (path : Fin 24) (results : List (BitVec 2)) (s : State) :
    Host.Outcome State Fault Refusal :=
  let mine := s.claims.probes.filter fun x => x.path == path.val
  if mine.isEmpty || mine.any (fun x => !s.elapsed x.sentAt 100000000) then .next s else
  let due := mine.foldl (fun n x => n + x.gates) 0
  let r := if results.length < due then 3 else if results.all (· == 1) then 1 else 2
  let s := s.setClaims fun c => { c with probes := c.probes.filter fun x => x.path != path.val }
  let s := s.setObjN Obj.CLAIMST_PROOF_RESULT r 0 path.val
  .next (if r = 1 then s else s.alarm .claims "PROOF_TEST")

end Sys2Proof.Machine
end

