-- ==== Sys2Proof/Machine/Gate.lean ====
section
/-! DEFINITION. The claim gate of a GATE device (14_redundancy_claims.md, R461 to R469), the SF2 blocks that it applies
(R486), and the hub's reception of the die's STATUS messages. -/

namespace Sys2Proof.Machine

/-! ### Members and thrusters at the gate -/

/-- The gate changed. -/
def State.setGate (s : State) (f : GateSt → GateSt) : State := { s with gate := f s.gate }

/-- Member i at the gate. -/
def State.gateMember (s : State) (i : Nat) : GateMember := Map.get {} s.gate.members i

/-- Member i changed. -/
def State.setMember (s : State) (i : Nat) (f : GateMember → GateMember) : State :=
  s.setGate fun g => { g with members := Map.upd {} g.members i f }

/-- Thruster t at the gate. -/
def State.gateThr (s : State) (t : Nat) : GateThruster := Map.get {} s.gate.thrusters t

/-- Thruster t changed; CGS_QUEUE follows its queue. -/
def State.setThr (s : State) (t : Nat) (f : GateThruster → GateThruster) : State :=
  let s := s.setGate fun g => { g with thrusters := Map.upd {} g.thrusters t f }
  s.wr Reg.CGS_QUEUE_QUEUE (s.gateThr t).queue.length t

/-- Node of the member at place i of the list, where it is valid (R474). -/
def State.listed (s : State) (i : Nat) : Option Nat :=
  match i with
  | 0 => if s.flag Reg.CG_MEMBER01_VALID0 then some (s.rd Reg.CG_MEMBER01_MEMBER0) else none
  | 1 => if s.flag Reg.CG_MEMBER01_VALID1 then some (s.rd Reg.CG_MEMBER01_MEMBER1) else none
  | 2 => if s.flag Reg.CG_MEMBER2_VALID2 then some (s.rd Reg.CG_MEMBER2_MEMBER2) else none
  | _ => none

/-- Epoch `e` is older than `f` (R440). -/
def epochOlder (e f : Nat) : Bool := let d := (f + 256 - e % 256) % 256; decide (1 ≤ d ∧ d ≤ 127)

/-- Member i is fenced now. -/
def State.isFenced (s : State) (i : Nat) : Bool :=
  match (s.gateMember i).fenced with
  | some e => decide (s.tb3 < e)
  | none => false

/-- Member i holds an unexpired lease: t ≤ x (R463). -/
def State.leased (s : State) (i : Nat) : Bool :=
  match (s.gateMember i).expiry with
  | some x => decide (s.tb3 ≤ x)
  | none => false

/-- The member with the highest claim among the unexpired leases (R464). -/
def State.bestHolder (s : State) : Option Nat :=
  ([0, 1, 2] : List Nat).foldl (fun b i =>
    if !s.leased i then b else
    match b with
    | some j => if (s.gateMember j).claim < (s.gateMember i).claim then some i else b
    | none => some i) none

/-- A refusal under cause k (R461, R465), and for thruster t where the frame names one. -/
def State.gateRefuse (s : State) (k : Nat) (member t : Option Nat) : State :=
  let s := (s.incSat Reg.CG_REFUSE_COUNT (k - 1)).raise Reg.CG_IRQ_REFUSED
  let b := (s.objBytes Obj.GATE_REFUSED ++ List.replicate 36 0).take 36
  let n := (leAt b (4 * (k - 1)) 4 + 1) % 2 ^ 32
  let s := s.setObj Obj.GATE_REFUSED (.bytes (b.take (4 * (k - 1)) ++ leBytes 4 n ++ b.drop (4 * k)))
  let s := match t with
    | some t => s.wr Reg.CGS_QUEUE_LAST_CAUSE k t
    | none => s
  s.count 0x903 member

/-- The holder as the registers and objects show it. -/
def State.showHolder (s : State) : State :=
  let node := match s.gate.holder with | some h => (s.listed h).getD 0 | none => 0
  let claim := match s.gate.holder with | some h => (s.gateMember h).claim | none => 0
  let s := (s.wr Reg.CG_HOLDER_CLAIM claim).wr Reg.CG_HOLDER_NODE_NODE node
  let s := s.put Reg.CG_STATUS_HOLDER_VALID s.gate.holder.isSome
  (s.setObjN Obj.GATE_HOLDER_NODE (if s.gate.holder.isSome then node else 0xFFFF)).setObjN Obj.GATE_HOLDER_CLAIM claim

/-- A gate status frame on every path with a valid frame in the last second (R459). -/
def State.gateStatus (s : State) : State :=
  let h := s.gate.holder
  let fedBit (t : Nat) : Bool :=
    match (s.gateThr t).fed with
    | some (at_, m) => h == some m && decide (s.tb3 ≤ at_ + 100000000)
    | none => false
  let f : GateStatus :=
    { setId := s.rd Reg.CG_CFG_SET_ID, node := s.node, holderClaim := s.rd Reg.CG_HOLDER_CLAIM,
      holderNode := if h.isSome then s.rd Reg.CG_HOLDER_NODE_NODE else 0xFFFF,
      state := if h.isSome then 1 else if s.flag Reg.CG_STATUS_SAFE then 2 else 0,
      probe := s.rd Reg.CG_PROBE_RESULT + 4 * s.rd Reg.CG_PROBE_THRUSTER, seq := s.gate.statusSeq,
      fed := ((List.range 32).filter fedBit).foldl (fun m t => m + 2 ^ t) 0, sw := s.gate.switched }
  let recent (p : Nat) : Bool :=
    match Map.get none s.gate.heardOn p with
    | some t => decide (s.tb3 ≤ t + 1000000000)
    | none => false
  let outs : List GateOut := ((List.range 24).filter recent).map fun p => ⟨p, f⟩
  s.setGate fun g => { g with statusSeq := (g.statusSeq + 1) % 2 ^ 32, out := g.out ++ outs }

/-- The holder chosen again (R464); at a change the waiting commands are discarded (R467). -/
def State.gateEvaluate (s : State) : State :=
  let best := s.bestHolder
  if best == s.gate.holder then s.showHolder else
  let s := (List.range 32).foldl (fun t n => if (t.gateThr n).queue.isEmpty then t else
    t.setThr n fun x => { x with queue := [] }) s
  let now := s.tb3
  let st := s.stamp
  let s := s.setGate fun g => { g with holder := best, switched := st, noneSince := if best.isSome then none else some now }
  let s := if best.isSome then s.wr Reg.CG_STATUS_SAFE 0 else s
  let s := (s.incSat Reg.CG_SWITCHES_COUNT).raise Reg.CG_IRQ_SWITCH
  let s := s.setObjN Obj.GATE_SWITCHES ((s.objN Obj.GATE_SWITCHES + 1) % 2 ^ 32)
  (s.showHolder.count 0x902 best).gateStatus

/-- What R461 reads of a frame of either format. -/
structure GateHead where
  crcGood : Bool
  setId : Nat
  node : Nat
  claim : Nat
  leaseMs : Nat
  deriving DecidableEq, Repr

/-- First cause of the cause table that a frame fails (R461), or none. -/
def State.gateCause (s : State) (f : GateHead) : Option Nat :=
  let i := f.claim % 256
  let rank := f.claim / 2 ^ 28
  let e := f.claim / 256 % 256
  if !f.crcGood then some 1
  else if f.setId != s.rd Reg.CG_CFG_SET_ID || !(([0, 1, 2] : List Nat).any fun j => s.listed j == some f.node) then some 2
  else if s.listed i != some f.node then some 3
  else if !(rank == 0 || rank == 4 || rank == 8 || rank == 12) ||
      (decide (8 ≤ rank) && !(decide (20 ≤ f.leaseMs ∧ f.leaseMs ≤ 500))) then some 4
  else if s.flag Reg.CG_HOLDER_NODE_EPOCH_VALID && epochOlder e (s.rd Reg.CG_HOLDER_NODE_EPOCH_HI) then some 5
  else if s.isFenced i then some 6
  else none

/-- The gate acts on frames: GATE role, registers loaded (R474). -/
def State.gateActs (s : State) : Bool := s.gateRole && s.hub.replayed

/-- A path that brings frames to the gate: a controller with GATE_FEED, or an EM port of class FIELD. -/
def State.gatePath (s : State) (p : Nat) : Bool :=
  if p < 16 then s.flag Reg.CAN_CTRL_GATE_FEED p && s.rd Reg.CAN_STATUS_STATE p == 1 else s.classOf (p - 15) == 4

/-- A valid frame taken: epoch, claim, lease and holder (R462 to R464). -/
def State.gateTake (s : State) (path : Nat) (f : GateHead) : State :=
  let i := f.claim % 256
  let e := f.claim / 256 % 256
  let now := s.tb3
  let s := s.setGate fun g => { g with heardOn := Map.put g.heardOn path (some now) }
  let s := if !s.flag Reg.CG_HOLDER_NODE_EPOCH_VALID || epochOlder (s.rd Reg.CG_HOLDER_NODE_EPOCH_HI) e then
      ((s.raise Reg.CG_HOLDER_NODE_EPOCH_VALID).wr Reg.CG_HOLDER_NODE_EPOCH_HI e).setObjN Obj.GATE_EPOCH_HI e
    else s
  let x := if 8 ≤ f.claim / 2 ^ 28 then some (now + f.leaseMs * 1000000) else none
  (s.setMember i fun m => { m with claim := f.claim, expiry := x }).gateEvaluate

/-- The head of a claim frame. -/
def claimHead (f : ClaimFrame) : GateHead :=
  ⟨f.format == 1 && f.rsv == 0 && crcOk (claimBody f) f.crc, f.setId.toNat, f.node.toNat, f.claim.toNat,
    f.leaseMs.toNat⟩

/-- The head of a command frame. THRUSTER above 31 counts as a wrong form. -/
def commandHead (f : CommandFrame) : GateHead :=
  ⟨f.format == 2 && f.rsv == 0 && decide (f.flags.toNat < 2) && decide (f.thruster.toNat < 32) &&
      crcOk (commandBody f) f.crc, f.setId.toNat, f.node.toNat, f.claim.toNat, f.leaseMs.toNat⟩

/-- GATE_CLAIM_FRAME (R461 to R464). -/
def execGateClaimFrame (path : Fin 24) (f : ClaimFrame) (s : State) : Host.Outcome State Fault Refusal :=
  if !s.gateActs || !s.gatePath path.val then .next s else
  let h := claimHead f
  match s.gateCause h with
  | some k => .next (s.gateRefuse k none none)
  | none => .next (s.gateTake path.val h)

/-! ### Limits and blocks (R466, R486) -/

/-- Limits of thruster t at the gate. -/
def State.gateLimits (s : State) (t : Nat) : LimitSet :=
  { lo := (List.range 4).map fun c => q15Int (s.rd Reg.CGL_RANGE_MIN t c)
    hi := (List.range 4).map fun c => q15Int (s.rd Reg.CGL_RANGE_MAX t c)
    rate := []
    wrap := s.flag Reg.CGL_WRAP_ANGLE_WRAP t
    sectors := ((List.range 8).map fun i =>
      (q15Int (s.rd Reg.CGL_SECTOR_START t i), q15Int (s.rd Reg.CGL_SECTOR_END t i))).filter fun p => p.1 != p.2 }

/-- An angle moved out of forbidden intervals, and whether it was. -/
def edgeOut (iv : List (Int × Int)) (a : Int) : Int × Bool :=
  match sectorEdge (iv.map fun p => (p.1 * 256, p.2 * 256)) (a * 256 % turn24) with
  | some e => (wrap16 (e / 256), true)
  | none => (a, false)

/-- Values limited under R466, and the status bits of the limits that acted. -/
def gateLimit (l : LimitSet) (v : List Int) : List Int × Nat :=
  let one (c : Nat) : Int × Nat :=
    let x := v.getD c 0
    if c == 1 && l.wrap then
      let e := edgeOut l.sectors x
      (e.1, if e.2 then 4 else 0)
    else
      let y := clampInt x (l.lo.getD c (-32768)) (l.hi.getD c 32767)
      (y, if y != x then 1 else 0)
  let outs := (List.range 4).map one
  (outs.map (·.1), outs.foldl (fun m o => m ||| o.2) 0)

/-- SAFE value of channel c of thruster t (R467); ANGLE has none. -/
def State.safeValue (s : State) (t c : Nat) : Int :=
  match c with
  | 0 => q15Int (s.rd Reg.CGL_SAFE_SAFE_DRIVE t)
  | 2 => q15Int (s.rd Reg.CGL_SAFE_SAFE_THRUST t)
  | _ => q15Int (s.rd Reg.CGL_SAFE_AUX_SAFE_AUX t)

/-- Address of the GCMD word of thruster t, channel c. -/
def gcmd (t c : Nat) : Nat := 0x180 + 4 * t + c

/-- Zones that the die last reported active. -/
def State.zonesSeen (s : State) : List Nat := (List.range 8).filter (bitOf (s.rd Reg.SM_ZONES_ACTIVE))

/-- Sector entries of thruster t in the zones reported active, by the parameters in the dictionary. -/
def State.zoneIntervals (s : State) (t : Nat) : List (Int × Int) :=
  s.zonesSeen.flatMap fun z =>
    let b := s.objBytes Obj.ZONE_SECTORS z
    (List.range (b.length / 6)).filterMap fun i =>
      if leAt b (6 * i) 1 == t then some (q15Int (leAt b (6 * i + 2) 2), q15Int (leAt b (6 * i + 4) 2)) else none

/-- The SF2 blocks of R486 on the values of thruster t, and their status bits. -/
def State.sf2Block (s : State) (t : Nat) (v : List Int) : List Int × Nat :=
  let blocked := s.zonesSeen.any fun z => bitOf (s.objN Obj.ZONE_BLOCK_MASK z) t
  let v1 : List Int := if blocked then [s.safeValue t 0, s.word (gcmd t 1), s.safeValue t 2, s.safeValue t 3] else v
  let e := edgeOut (s.zoneIntervals t) (v1.getD 1 0)
  ([v1.getD 0 0, e.1, v1.getD 2 0, v1.getD 3 0], (if blocked then 1 else 0) + (if e.2 then 4 else 0))

/-! ### Commands (R465, R467, R468) -/

/-- The command's values put into the GCMD words, and the COMMAND trigger fired (R240, R465). -/
def State.applyCommand (s : State) (t : Nat) (c : GateCmd) : State :=
  let b := s.sf2Block t [c.drive, c.angle, c.thrust, c.aux]
  let now := s.tb3
  let s := (List.range 4).foldl (fun (u : State) i => u.setWord (gcmd t i) (b.1.getD i 0)) s
  let s := s.setThr t fun x =>
    { x with
      queue := x.queue.filter (· != c), fed := some (now, c.member),
      applied := x.applied ++ [{ c with status := c.status ||| b.2, arrived := now }] }
  let s := s.wr Reg.CGS_LAST_APP_LAST_APP_NS (c.app % 1000000000) t
  s.triggerKind 5 (fun a => a % 32 == t) c.app

/-- A probe compared with the accepted commands (R469). -/
def State.probeAt (s : State) (f : CommandFrame) : State :=
  let t := f.thruster.toNat
  let app := f.appS.toNat * 1000000000 + f.appNs.toNat
  let vals := [f.drive, f.angle, f.thrust, f.aux].map (·.toInt)
  let i := f.claim.toNat % 256
  let r := if s.gate.holder != some i then 3 else
    match (s.gateThr t).recent.find? fun c => c.app % (2 ^ 32 * 1000000000) == app with
    | some c => if c.raw == vals then 1 else 2
    | none => 3
  (((((s.wr Reg.CG_PROBE_RESULT r).wr Reg.CG_PROBE_THRUSTER t).wr Reg.CG_PROBE_NODE f.node.toNat).raise
    Reg.CG_IRQ_PROBE)).gateStatus

/-- Full application time, ns, of a frame whose seconds are the low 32 bits of TB0's. -/
def State.appTime (s : State) (sec ns : Nat) : Nat :=
  let now := s.stamp.sec
  let d := signed 32 (wrapInt 32 ((sec : Int) - (now : Int)))
  ((now : Int) + d).toNat * 1000000000 + ns

/-- A valid command frame after its claim has been taken (R465, R466). -/
def State.gateCommand (s : State) (f : CommandFrame) : State :=
  let t := f.thruster.toNat
  let i := f.claim.toNat % 256
  let app := s.appTime f.appS.toNat f.appNs.toNat
  let raw := [f.drive, f.angle, f.thrust, f.aux].map (·.toInt)
  let now := s.tb3
  let x := s.gateThr t
  if s.gate.holder != some i then
    let c : GateCmd := ⟨i, app, raw.getD 0 0, raw.getD 1 0, raw.getD 2 0, raw.getD 3 0, f.status.toNat, now, raw⟩
    (s.setThr t fun x =>
      { x with others := x.others.filter (fun o => decide (now < o.arrived + 1000000000)) ++ [c] }).incSat
      Reg.CGS_LATE_IGNORED t
  else
    let late := match x.lastApp with | some l => decide (app ≤ l) | none => false
    if late then s.gateRefuse 7 (some i) (some t)
    else if s.now 0 + 200000000 < app then s.gateRefuse 8 (some i) (some t)
    else if 8 ≤ x.queue.length then s.gateRefuse 9 (some i) (some t)
    else
      let l := gateLimit (s.gateLimits t) raw
      let b := s.sf2Block t l.1
      let v := b.1
      let c : GateCmd :=
        ⟨i, app, v.getD 0 0, v.getD 1 0, v.getD 2 0, v.getD 3 0, f.status.toNat ||| l.2 ||| b.2, now, raw⟩
      let s := s.setThr t fun x =>
        { x with lastApp := some app, queue := x.queue ++ [c], recent := (c :: x.recent).take 8 }
      let s := (s.incSat Reg.CGS_ACCEPTED_ACCEPTED t).count 0x904 (some i)
      if app ≤ s.now 0 then (s.incSat Reg.CGS_LATE_LATE_ARRIVAL t).applyCommand t c else s

/-- GATE_COMMAND_FRAME (R461 to R466, R469). -/
def execGateCommandFrame (path : Fin 24) (f : CommandFrame) (s : State) : Host.Outcome State Fault Refusal :=
  if !s.gateActs || !s.gatePath path.val then .next s else
  let h := commandHead f
  match s.gateCause h with
  | some k => .next (s.gateRefuse k none none)
  | none =>
    let s := s.gateTake path.val h
    .next (if f.flags.toNat % 2 == 1 then s.probeAt f else s.gateCommand f)

/-- LEASE_EXPIRY (R463, R464): the lease of member i has run out. -/
def execLeaseExpiry (i : Member) (s : State) : Host.Outcome State Fault Refusal :=
  .next (match (s.gateMember i.val).expiry with
    | some x => if x < s.tb3 then (s.setMember i.val fun m => { m with expiry := none }).gateEvaluate else s
    | none => s)

/-- COMMAND_APPLY (R465): the application time of the first waiting command has come. -/
def execCommandApply (t : Fin 32) (s : State) : Host.Outcome State Fault Refusal :=
  .next (match (s.gateThr t.val).queue with
    | c :: _ => if c.app ≤ s.now 0 then s.applyCommand t.val c else s
    | [] => s)

/-- Two commands agree within CROSS_BOUND on DRIVE and on wrapped ANGLE (R468). -/
def agree (bound : Int) (a b : List Int) : Bool :=
  decide (|a.getD 0 0 - b.getD 0 0| ≤ bound) && decide (|wrap16 (a.getD 1 0 - b.getD 1 0)| ≤ bound)

/-- A member is fenced: its lease ends, and the holder is chosen again (R468). -/
def State.fence (s : State) (i : Nat) : State :=
  let till := s.tb3 + s.rd Reg.CG_GCFG_FENCE_S * 1000000000
  let s := s.setMember i fun m => { m with fenced := some till, expiry := none, outvoted := 0 }
  let s := ((s.raise Reg.CG_STATUS_FENCED).raise Reg.CG_IRQ_FENCE).gateEvaluate
  s.alarm .claims "FENCE"

/-- CROSS_CHECK (R468): 5 ms after a command of the holder was applied, it is compared with the commands of the other
two members. Without both others present the row of three is broken. -/
def execCrossCheck (t : Fin 32) (s : State) : Host.Outcome State Fault Refusal :=
  match (s.gateThr t.val).applied with
  | c :: r =>
    if s.tb3 < c.arrived + 5000000 then .next s else
    let s := s.setThr t.val fun x => { x with applied := r }
    if !s.flag Reg.CG_GCFG_CROSS_EN then .next s else
    let b := q15Int (s.rd Reg.CG_CROSS_CROSS_BOUND)
    let of (j : Nat) : Option GateCmd := (s.gateThr t.val).others.find? fun o =>
      o.member == j && o.app == c.app && decide (o.arrived ≤ c.arrived + 5000000)
    let out := match (([0, 1, 2] : List Nat).filter (· != c.member)).map of with
      | [some p, some q] => agree b p.raw q.raw && !agree b c.raw p.raw && !agree b c.raw q.raw
      | _ => false
    let n := if out then (s.gateMember c.member).outvoted + 1 else 0
    let s := s.setMember c.member fun m => { m with outvoted := n }
    .next (if 3 ≤ n then s.fence c.member else s)
  | [] => .next s

/-- NOLEASE_HOLD (R467): no holder for NOLEASE_HOLD_MS; the SAFE values apply and ANGLE is held. -/
def execNoleaseHold (s : State) : Host.Outcome State Fault Refusal :=
  match s.gate.noneSince with
  | some t =>
    if s.gateActs && s.gate.holder.isNone && !s.flag Reg.CG_STATUS_SAFE &&
        s.elapsed t (s.rd Reg.CG_GCFG_NOLEASE_HOLD_MS * 1000000) then
      let one (u : State) (t : Nat) : State :=
        [0, 2, 3].foldl (fun (v : State) c => v.setWord (gcmd t c) (v.safeValue t c)) u
      let s := (List.range 32).foldl one s
      .next ((((s.raise Reg.CG_STATUS_SAFE).raise Reg.CG_IRQ_SAFE).alarm .claims "SAFE").gateStatus)
    else .next s
  | none => .next s

/-- FENCE_EXPIRY (R468): the fence of member i has run out. -/
def execFenceExpiry (i : Member) (s : State) : Host.Outcome State Fault Refusal :=
  match (s.gateMember i.val).fenced with
  | some e =>
    if s.tb3 < e then .next s else
    let s := s.setMember i.val fun m => { m with fenced := none }
    .next (s.put Reg.CG_STATUS_FENCED (([0, 1, 2] : List Nat).any fun j => (s.gateMember j).fenced.isSome))
  | none => .next s

/-- GATE_STATUS_SEND (R459): every 20 ms. -/
def execGateStatusSend (s : State) : Host.Outcome State Fault Refusal := .next (if s.gateActs then s.gateStatus else s)

/-! ### STATUS of the safety die -/

/-- R486: the blocks at once on the GCMD words in force, for zones that have become active. -/
def State.blockNow (s : State) : State :=
  if !s.gateRole then s else
  (List.range 32).foldl (fun (u : State) t =>
    let b := u.sf2Block t ((List.range 4).map fun c => u.word (gcmd t c))
    (List.range 4).foldl (fun (v : State) c =>
      if v.word (gcmd t c) == b.1.getD c 0 then v else v.setWord (gcmd t c) (b.1.getD c 0)) u) s

/-- Registers and objects that mirror the die's state (register table of 15_safety.md). -/
def State.safetyMirror (s : State) : State :=
  let a := s.chan 0
  let b := s.chan 1
  let s := ((s.wr Reg.SM_OUTPUTS_FAULTED s.safety.faulted).wr Reg.SM_OUTPUTS_TRIPPED (a.trip ||| b.trip)).wr
    Reg.SM_OUTPUTS_ENERGIZED s.energized
  let s := (s.wr Reg.SM_SF1_MASK s.sf1Tripped).wr Reg.SM_CAUSES_CAUSES s.dieCauses
  let s := ((s.put Reg.SM_ZONES_SF3_OWN (a.own != 0 || b.own != 0)).put Reg.SM_ZONES_SF3_RED (a.red || b.red)).wr
    Reg.SM_ZONES_DEMAND (a.zd ||| b.zd)
  let s := ((s.wr Reg.SM_ZONES_ACTIVE (a.zones ||| b.zones)).wr Reg.SM_CCV_CCV s.safety.ccvA).wr
    Reg.SM_STATUS_STATE s.safety.state
  let zones := s.rd Reg.SM_ZONES_ACTIVE + 256 * s.rd Reg.SM_ZONES_DEMAND
  let outs := s.rd Reg.SM_OUTPUTS_ENERGIZED + 256 * s.rd Reg.SM_OUTPUTS_TRIPPED + 65536 * s.rd Reg.SM_OUTPUTS_FAULTED
  let s := ((s.setObjN Obj.SAFE_STATE s.safety.state).setObjN Obj.SAFE_CCV s.safety.ccvA).setObjN Obj.SAFE_OUTPUTS outs
  let s := ((s.setObjN Obj.SAFE_SF1 s.sf1Tripped).setObjN Obj.SAFE_ZONES zones).setObjN Obj.SAFE_CAUSES s.dieCauses
  let s := s.setObjN Obj.SAFE_SF3 (ofBool (a.red || b.red) + 2 * ofBool (a.own != 0 || b.own != 0))
  s.setObjN Obj.SAFE_HUB_LOST (ofBool (a.hubLost || b.hubLost))

/-- What a change of the mirrors is told from. -/
def State.mirrors (s : State) : List Nat :=
  [s.rd Reg.SM_OUTPUTS_FAULTED, s.rd Reg.SM_OUTPUTS_TRIPPED, s.rd Reg.SM_OUTPUTS_ENERGIZED, s.rd Reg.SM_SF1_MASK,
    s.rd Reg.SM_CAUSES_CAUSES, s.rd Reg.SM_ZONES_SF3_OWN, s.rd Reg.SM_ZONES_SF3_RED, s.rd Reg.SM_ZONES_DEMAND,
    s.rd Reg.SM_ZONES_ACTIVE, s.rd Reg.SM_CCV_CCV, s.rd Reg.SM_STATUS_STATE]

/-- Interrupts of the mailbox that the mirrors of a STATUS message raise, where they differ from those of `old` (R493). -/
def State.mirrorIrqs (s old : State) : State :=
  let trips := s.rd Reg.SM_OUTPUTS_TRIPPED &&& (255 - old.rd Reg.SM_OUTPUTS_TRIPPED)
  let faults := s.safety.state == 6 && old.rd Reg.SM_STATUS_STATE != 6 ||
    s.rd Reg.SM_OUTPUTS_FAULTED != old.rd Reg.SM_OUTPUTS_FAULTED
  let changed := s.mirrors != old.mirrors
  let lost := (s.chan 0).hubLost || (s.chan 1).hubLost
  let s := if changed then s.raise Reg.SM_IRQ_STATUS_CHANGE else s
  let s := if trips != 0 then s.raise Reg.SM_IRQ_TRIP else s
  let s := if faults then s.raise Reg.SM_IRQ_FAULT else s
  if lost then s.raise Reg.SM_STATUS_HUB_LOST_SEEN else s

/-- SAFETY_STATUS (R486, R493, R509): a STATUS message of the die reaches the hub. -/
def execSafetyStatus (crcGood : Bool) (s : State) : Host.Outcome State Fault Refusal :=
  if !s.safety.live then .next s else
  let q := s.safety.dieSeq
  let s := s.setSafety fun d => { d with dieSeq := (d.dieSeq + 1) % 2 ^ 32 }
  if !s.hubAccepts crcGood q then .next (s.incSat Reg.SM_DROPPED_HUB_DROPPED) else
  let now := s.tb3
  let old := s
  let s := ((s.setSafety fun d => { d with hubLast := some q, statusAt := some now }).raise Reg.SM_STATUS_ALIVE).safetyMirror
  let s := s.mirrorIrqs old
  let s := if s.safety.state == 5 && old.rd Reg.SM_STATUS_STATE != 5 then s.safetyLog s.node 0 9 0 0 [] [] 0 [] else s
  .next (if s.rd Reg.SM_ZONES_ACTIVE != old.rd Reg.SM_ZONES_ACTIVE then s.blockNow else s)

end Sys2Proof.Machine
end

