-- ==== Sys2Proof/Machine/Hooks.lean ====
section
/-! DEFINITION. What a new value of a SETTING does beside its entry in the dictionary: the registers that the object
tables name beside it, and the units that act on it. The same is done when values are restored from Cask
(18_startup_firmware.md, step 6). -/

namespace Sys2Proof.Machine

/-! ### Registers that hold a SETTING -/

/-- A register field that takes the value of an entry: element (i, j + k) for the entry at index offset i and subindex
offset k, the value shifted right by `shift`. -/
structure Follow where
  entry : ObjDef
  field : Field
  j : Nat := 0
  shift : Nat := 0
  deriving DecidableEq, Repr

/-- Loop-engine slots, test generators and capture buffers (07_loop_engine.md, objects 0x61ss, 0x63gg, 0x64cc). -/
def followLoop : List Follow :=
  [{ entry := Obj.LP_TRIG_KIND, field := Reg.LES_TRIG_KIND }, { entry := Obj.LP_TRIG_ARG, field := Reg.LES_TRIG_ARG },
   { entry := Obj.LP_PERIOD, field := Reg.LES_PERIOD_PERIOD_US }, { entry := Obj.LP_PHASE, field := Reg.LES_PHASE_PHASE_US },
   { entry := Obj.LP_PRIO, field := Reg.LES_CFG_PRIO }, { entry := Obj.LP_DEADLINE, field := Reg.LES_CFG_DEADLINE },
   { entry := Obj.LP_LEAD, field := Reg.LES_LEAD_LEAD_US }, { entry := Obj.TG_KIND, field := Reg.TG_CFG_KIND },
   { entry := Obj.TG_OWNER, field := Reg.TG_CFG_OWNER }, { entry := Obj.TG_AMP, field := Reg.TG_AMP_AMP },
   { entry := Obj.TG_OFFSET, field := Reg.TG_AMP_OFFSET }, { entry := Obj.TG_F0, field := Reg.TG_F0_F0 },
   { entry := Obj.TG_F1, field := Reg.TG_F1_F1 }, { entry := Obj.TG_ORDER, field := Reg.TG_CFG_ORDER },
   { entry := Obj.TG_HOLD, field := Reg.TG_CFG_HOLD }] ++
  [{ entry := Obj.CAP_BASE, field := Reg.CAP_BASE_BASE, shift := 6 }, { entry := Obj.CAP_FORMAT, field := Reg.CAP_CFG_FORMAT },
   { entry := Obj.CAP_MODE, field := Reg.CAP_CFG_MODE }, { entry := Obj.CAP_OWNER, field := Reg.CAP_CFG_OWNER },
   { entry := Obj.CAP_COUNT, field := Reg.CAP_CFG_COUNT }]

/-- Signal chain (08_signal_chain.md, objects 0x69cc and 0x6Acc). -/
def followLauter : List Follow :=
  [{ entry := Obj.SC_MODE, field := Reg.SC_CFG_MODE }, { entry := Obj.SC_POL, field := Reg.SC_CFG_POL },
   { entry := Obj.SC_EDGE, field := Reg.SC_CFG_EDGE }, { entry := Obj.SC_CLK_SRC, field := Reg.SC_CFG_CLK_SRC },
   { entry := Obj.SC_CLKDIV, field := Reg.SC_CFG_CLKDIV }, { entry := Obj.SC_FIN_MAX, field := Reg.SC_FIN_FIN_MAX },
   { entry := Obj.SC_ORDER, field := Reg.SC_COMB_ORDER }, { entry := Obj.SC_DECIM, field := Reg.SC_COMB_DECIM },
   { entry := Obj.SC_TAP_BASE, field := Reg.SC_FIR_TAP_BASE }, { entry := Obj.SC_TAPS, field := Reg.SC_FIR_TAPS }] ++
  [{ entry := Obj.SCCMP_LEVEL0, field := Reg.SC_CMP_LEVEL_LEVEL }, { entry := Obj.SCCMP_HYST0, field := Reg.SC_CMP_HYST_HYST },
   { entry := Obj.SCCMP_MODE0, field := Reg.SC_CMP_CFG_MODE },
   { entry := Obj.SCCMP_LEVEL1, field := Reg.SC_CMP_LEVEL_LEVEL, j := 1 },
   { entry := Obj.SCCMP_HYST1, field := Reg.SC_CMP_HYST_HYST, j := 1 },
   { entry := Obj.SCCMP_MODE1, field := Reg.SC_CMP_CFG_MODE, j := 1 },
   { entry := Obj.SCCMP_LEVEL2, field := Reg.SC_CMP_LEVEL_LEVEL, j := 2 },
   { entry := Obj.SCCMP_HYST2, field := Reg.SC_CMP_HYST_HYST, j := 2 },
   { entry := Obj.SCCMP_MODE2, field := Reg.SC_CMP_CFG_MODE, j := 2 },
   { entry := Obj.SCCMP_LEVEL3, field := Reg.SC_CMP_LEVEL_LEVEL, j := 3 },
   { entry := Obj.SCCMP_HYST3, field := Reg.SC_CMP_HYST_HYST, j := 3 },
   { entry := Obj.SCCMP_MODE3, field := Reg.SC_CMP_CFG_MODE, j := 3 }]

/-- Position feedback (09_position_feedback.md, objects 0x71cc). -/
def followPfu : List Follow :=
  [{ entry := Obj.PF_MODE, field := Reg.PFC_CFG_MODE }, { entry := Obj.PF_INV_DIR, field := Reg.PFC_CFG_INV_DIR },
   { entry := Obj.PF_INDEX_EN, field := Reg.PFC_CFG_INDEX_EN }, { entry := Obj.PF_INDEX_GATE, field := Reg.PFC_CFG_INDEX_GATE },
   { entry := Obj.PF_GATE_AB, field := Reg.PFC_CFG_GATE_AB }, { entry := Obj.PF_MIN_EDGE, field := Reg.PFC_FILTER_MIN_EDGE },
   { entry := Obj.PF_CPR, field := Reg.PFC_INDEX_CPR }, { entry := Obj.PF_INDEX_TOL, field := Reg.PFC_INDEX_INDEX_TOL },
   { entry := Obj.PF_INDEX_VALUE, field := Reg.PFC_INDEX_VAL_INDEX_VALUE },
   { entry := Obj.PF_WIN_US, field := Reg.PFC_SPEEDCFG_WIN_US }, { entry := Obj.PF_CHG_EDGES, field := Reg.PFC_SPEEDCFG_CHG_EDGES },
   { entry := Obj.PF_ZERO_MS, field := Reg.PFC_ZERO_ZERO_MS }, { entry := Obj.PF_POS_BITS, field := Reg.PFC_SER_CFG_POS_BITS },
   { entry := Obj.PF_SER_DIV, field := Reg.PFC_SER_CFG_SER_DIV },
   { entry := Obj.PF_START_TIMEOUT, field := Reg.PFC_SER_CFG_START_TIMEOUT },
   { entry := Obj.PF_LINE_DELAY, field := Reg.PFC_SER_CFG_LINE_DELAY }] ++
  [{ entry := Obj.PF_LATCH_NS, field := Reg.PFC_SER_TIME_LATCH_NS }, { entry := Obj.PF_PERIOD_US, field := Reg.PFC_SER_PERIOD_PERIOD_US },
   { entry := Obj.PF_PHASE_US, field := Reg.PFC_SER_PHASE_PHASE_US }, { entry := Obj.PF_P_SCALE, field := Reg.PFC_P_SCALE_P_SCALE },
   { entry := Obj.PF_P_OFF, field := Reg.PFC_P_OFF_LO_P_OFF }, { entry := Obj.PF_P_OFF, field := Reg.PFC_P_OFF_HI_P_OFF, shift := 32 },
   { entry := Obj.PF_V_FULL, field := Reg.PFC_V_FULL_V_FULL }, { entry := Obj.PF_VIEW_SAT, field := Reg.PFC_CFG_VIEW_SAT },
   { entry := Obj.PF_EMU_SHIFT, field := Reg.PFC_EMU_EMU_SHIFT }, { entry := Obj.PF_EMU_MIN, field := Reg.PFC_EMU_EMU_MIN }]

/-- PPS inputs and outputs, counters and health (10_time.md, 17_counters.md, 16_faults_health_logs.md). -/
def followOther : List Follow :=
  [{ entry := Obj.PPI_ENABLE, field := Reg.PPI_CFG_ENABLE }, { entry := Obj.PPI_BASE, field := Reg.PPI_CFG_BASE },
   { entry := Obj.PPI_EDGE, field := Reg.PPI_CFG_EDGE }, { entry := Obj.PPO_ENABLE, field := Reg.PPO_CFG_ENABLE },
   { entry := Obj.PPO_BASE, field := Reg.PPO_CFG_BASE }, { entry := Obj.PPO_POLARITY, field := Reg.PPO_CFG_POLARITY },
   { entry := Obj.PPO_WIDTH_US, field := Reg.PPO_WIDTH_WIDTH_US }, { entry := Obj.PPO_OFFSET_NS, field := Reg.PPO_OFFSET_OFFSET_NS },
   { entry := Obj.CNT_ENABLE, field := Reg.CNT_CTRL_EN }, { entry := Obj.CNT_SNAP_PERIOD_MS, field := Reg.CNT_PERIOD_SNAP_PERIOD_MS },
   { entry := Obj.HL_SCRUB_MIN, field := Reg.HL_SCRUB_PERIOD_MIN }]

/-- Every register field that takes the value of a SETTING. -/
def follows : List Follow := followLoop ++ followLauter ++ followPfu ++ followOther

/-- The register fields of an entry take its value. -/
def State.follow (s : State) (o : ObjDef) (i k : Nat) : State :=
  (follows.filter fun f => f.entry.base == o.base && f.entry.sub == o.sub).foldl
    (fun t f => t.wr f.field (t.objN o i k / 2 ^ f.shift) i (f.j + k)) s

/-! ### What else a SETTING does -/

/-- SPARE of a slot: −1 for none. -/
def State.hookSpare (s : State) (i : Nat) : State :=
  let v := signed 16 (s.objN Obj.LP_SPARE i)
  if v < 0 then s.wr Reg.LES_CFG_SPARE_EN 0 i else (s.wr Reg.LES_CFG_SPARE_EN 1 i).wr Reg.LES_CFG_SPARE v.toNat i

/-- TGg_TIME and TGg_SEED by the generator's KIND (07_loop_engine.md, TG register table). -/
def State.hookGen (s : State) (g : Nat) : State :=
  if s.objN Obj.TG_KIND g == 3 then
    (s.wr Reg.TG_TIME_TIME (s.objN Obj.TG_SETTLE g * 65536 + s.objN Obj.TG_DWELL g) g).wr Reg.TG_SEED_SEED
      (s.objN Obj.TG_NSTEPS g) g
  else (s.wr Reg.TG_TIME_TIME (s.objN Obj.TG_DURATION_MS g) g).wr Reg.TG_SEED_SEED (s.objN Obj.TG_SEED g) g

/-- A group delay in output samples as the register's 1/64. -/
def gdWord (x : Rat) : Nat := min 65535 (roundHalfUp (x * 64)).toNat

/-- PERSIST of a comparator: 0 acts as 1. -/
def State.hookPersist (s : State) (c k : Nat) (v : Nat) : State := s.wr Reg.SC_CMP_CFG_PERSIST (max 1 v) c k

/-- A comparator whose configuration has been written starts inactive (R283). -/
def State.hookCmp (s : State) (c sub : Nat) : State :=
  let s := ((s.hookPersist c 0 (s.objN Obj.SCCMP_PERSIST0 c)).hookPersist c 1 (s.objN Obj.SCCMP_PERSIST1 c)).hookPersist
    c 2 (s.objN Obj.SCCMP_PERSIST2 c)
  (s.hookPersist c 3 (s.objN Obj.SCCMP_PERSIST3 c)).cmpClear c ((sub - 1) / 4)

/-- Coefficients of a bank written from pool entry `e` on (R272). -/
def State.poolLoad (s : State) (e : Nat) (b : List Byte) : State :=
  (List.range (b.length / 4)).foldl (fun t k => t.poolPut (e + k) (leAt b (4 * k) 4)) s

/-- First pool entry of a bank of SCc. -/
def State.bankStart (s : State) (c bank : Nat) : Nat := s.rd Reg.SC_FIR_TAP_BASE c + bank * s.rd Reg.SC_FIR_TAPS c

/-- GENERAL_REQ in the units of GRIST_REQ4, cut down, with the tolerance that a binary32 needs. -/
def generalWord (v : Rat) : Nat := (10 * v + 1 / 1000).floor.toNat

/-- GENERAL_REQ: the register follows, and the object reads back the register's value. -/
def State.hookGeneral (s : State) : State :=
  let w := generalWord (s.objV Obj.GRIST_GENERAL_REQ)
  let s := (s.wr Reg.GRIST_REQ4_REQ w).setObjN Obj.GRIST_GENERAL_REQ (toF32 ((w : Rat) / 10))
  s.replan.kiln

/-- A base whose source is now FOLLOW takes the clock of the base it follows plus FOLLOW_OFFSET (R331). -/
def State.hookFollow (s : State) (n : Nat) : State :=
  s.stepBase n ((s.now (s.objN Obj.TB_SOURCE_ARG n) : Int) + signed 64 (s.objN Obj.TB_FOLLOW_OFFSET n) - (s.now n : Int))

/-- SOURCE or SOURCE_ARG of TBn: a base without a reference source is free, a FOLLOW base takes its clock. -/
def State.hookSource (s : State) (n : Nat) : State :=
  let src := s.source n
  let s := s.setServo n fun v => { v with integ := 0, good := 0, bad := 0, holdAt := none, alarmed := false }
  let s := if src == 0 || src == 4 then s.setServoState n 0 else s
  if src == 4 then s.hookFollow n else s

/-- Time-stamp corrections of EMm: at once while the MAC is disabled, else at its next enable. -/
def State.hookEmts (s : State) (m : Nat) : State :=
  if s.flag Reg.EM_CTRL_ENABLE m then s else
  let s := (s.wr Reg.EM_TS_CORR_TX_EXTRA (s.objN Obj.EMTS_TX_EXTRA m) m).wr Reg.EM_TS_CORR_RX_EXTRA
    (s.objN Obj.EMTS_RX_EXTRA m) m
  s.wr Reg.EM_ASYM_ASYMMETRY (s.objN Obj.EMTS_ASYMMETRY m) m

/-- A PTP instance started anew with its new configuration. -/
def State.hookPtp (s : State) (i : Nat) : State := (s.setPtp i fun _ => {}).bmca i

/-- SNAP_AT: the instant written and armed. -/
def State.hookSnapAt (s : State) : State :=
  let b := s.objBytes Obj.CNT_SNAP_AT
  let sec := leAt b 0 6
  (((s.wr Reg.CNT_AT_NS_NS (leAt b 8 4)).wr Reg.CNT_AT_SEC_LO_SEC sec).wr Reg.CNT_AT_SEC_HI_SEC (sec / 2 ^ 32)).snapArm

/-- Next state of an outcome of a command of this model: a command that the rules give no stop always has one. -/
def nextOr (s : State) (o : Host.Outcome State Fault Refusal) : State :=
  match o with
  | .next t => t
  | _ => s

/-- CAP_ARM: 1 arms, 2 stops. -/
def State.hookCapArm (s : State) (c v : Nat) : State :=
  if v == 1 then
    if h : c < 16 then nextOr s (execCaptureArm ⟨c, h⟩ s) else s
  else s.capStop c

/-- What a new value of a SETTING does, by its row in the object tables. -/
def State.settingHook (s : State) (o : ObjDef) (i k : Nat) : State :=
  let s := s.follow o i k
  let v := s.objN o i k
  match o.base with
  | 0x6100 =>
    if o.sub == 0x10 then s.loadProgram i (s.objBytes o i)
    else if o.sub == 0x0A then (s.hookSpare i).raise Reg.LES_STAT_SHADOW_DIRTY i
    else if 3 ≤ o.sub ∧ o.sub ≤ 9 then s.raise Reg.LES_STAT_SHADOW_DIRTY i else s
  | 0x6300 => if o.sub ≤ 0x0D then s.hookGen i else s
  | 0x6400 =>
    if o.sub == 1 then s.setCap i fun x => { x with misaligned := v % 64 != 0 }
    else if o.sub == 6 then s.hookCapArm i v else s
  | 0x6900 =>
    if o.sub == 0x0C then s.wr Reg.SC_GD_GD_A (gdWord (s.objV o i)) i
    else if o.sub == 0x0D then s.wr Reg.SC_GD_GD_B (gdWord (s.objV o i)) i else s
  | 0x6A00 => if o.sub ≤ 0x10 then s.hookCmp i o.sub else s
  | 0x6B00 => s.poolLoad (s.bankStart i (o.sub - 1)) (s.objBytes o i)
  | 0x7800 => if o.sub ≤ 2 then s.hookSource i else s
  | 0x7804 => s.hookPtp i
  | 0x7820 => s.hookEmts i
  | 0xA810 => if o.sub == 5 then s.hookGeneral else s
  | 0xB000 =>
    if o.sub == 2 then (if v == 1 then s.snapRequest else s.clearCounters)
    else if o.sub == 3 then s.hookSnapAt else s
  | 0xB100 => s.evConfigure i v
  | 0xB200 => s.histConfigure i v
  | 0x9600 => if o.sub == 0x0D then s.resolveFork else s
  | _ => s

end Sys2Proof.Machine
end

