-- ==== Sys2Proof/Machine/Startup.lean ====
section
/-! DEFINITION. The start of the hub (18_startup_firmware.md): release of the reset, the boot ROM's choice and check of
an image, entry of the firmware, and the end of journal replay. -/

namespace Sys2Proof.Machine

/-- Supervisor state changed. -/
def State.setHub (s : State) (f : HubSt → HubSt) : State := { s with hub := f s.hub }

/-! ### Rails (R564) -/

/-- RAIL_BELOW_RESET: the reaction of each rail. VCORE resets the hub, the other hub rails make a power-on reset, VSAFE
stops the safety die, and VIO33_S opens its outputs. -/
def execRailBelowReset (rail : Rail) (s : State) : Host.Outcome State Fault Refusal :=
  match rail with
  | .vcore => .next (s.hubReset false (some 1))
  | .vsafe => .next (s.setSafety fun d => { d with live := false })
  | .vio33s => .next ((s.setSafety fun d => { d with vio33s := false }).safetyEval)
  | .vhub | .vmram | .vio18 | .vser18 | .vio33 | .vser09 => .next (s.hubReset true none)

/-! ### Release of the reset -/

/-- Classes of port groups EM0–EM1, EM2–EM3, EM4–EM5, EM6–EM7, CF0–CF7, CF8–CF15 and SU0–SU7 by profile (R381). -/
def profileClasses : Nat → List Nat
  | 0 => [2, 0, 0, 0, 0, 0, 0]
  | 1 => [1, 2, 4, 5, 4, 5, 4]
  | 2 => [1, 2, 4, 4, 4, 4, 4]
  | 3 => [2, 4, 4, 5, 4, 5, 4]
  | 4 => [4, 4, 4, 4, 4, 5, 4]
  | _ => [0, 0, 0, 0, 0, 0, 0]

/-- Class that the profile gives port p. -/
def profileClass (prof p : Nat) : Nat :=
  let g := if 1 ≤ p ∧ p ≤ 8 then (p - 1) / 2 else if 9 ≤ p ∧ p ≤ 16 then 4 else if 17 ≤ p ∧ p ≤ 24 then 5
    else if 25 ≤ p ∧ p ≤ 32 then 6 else 7
  if 33 ≤ p ∧ p ≤ 36 then 3 else if p == 37 then 6 else (profileClasses prof).getD g 0

/-- Class of port p at this start: that of its fuse where one is programmed (R381, R383). -/
def State.startClass (s : State) (p : Nat) : Nat :=
  match Map.get none s.zdp.fuses p with
  | some f => f.cls
  | none => profileClass (s.rd Reg.SUP_STRAP_PORT_PROF) p

/-- The straps sampled at the release of power-on reset (R1, R2, R23, R381, R382). -/
def State.sampleStraps (s : State) (role profile : Nat) : State :=
  let s := (s.wr Reg.SUP_STRAP_ROLE (if role == 0 then 3 else role)).put Reg.SUP_STRAP_ROLE_FAULT (role == 0)
  (s.wr Reg.SUP_STRAP_PORT_PROF profile).put Reg.SUP_STRAP_PORT_PROF_FAULT (decide (5 ≤ profile))

/-- Every port takes its class. -/
def State.takeClasses (s : State) : State :=
  let cs : Map Nat := (List.range 32).map fun i => (i + 1, s.startClass (i + 1))
  let s := { s with zdp := { s.zdp with classes := cs } }
  let s := (List.range 8).foldl (fun t m => t.wr Reg.EM_STATUS_CLASS (t.startClass (m + 1)) m) s
  (List.range 8).foldl (fun t u => t.wr Reg.SU_STATUS_CLASS (t.startClass (u + 25)) u) s

/-- The device index by the member list: the one place that holds the own node identifier (R437). -/
def State.listIndex (s : State) : Nat :=
  let at_ := ([0, 1, 2] : List Nat).filter fun k => s.objN Obj.CLAIM_MEMBERS 0 k == s.node
  match at_ with
  | [k] => if s.nodeValid then k else 0xFF
  | _ => 0xFF

/-- The node identifier and the device index of this start (R9, R10, R437). The identifier is assigned once 0x1001.02
has been written. -/
def State.takeIdentity (s : State) : State :=
  let written := s.dict.any fun p => p.1 == Obj.NODE_NODE_ID.key 0 0
  let s := (s.setObjN Obj.NODE_NODE_ID_ACTIVE (s.objN Obj.NODE_NODE_ID)).setObjN Obj.NODE_NODE_ID_VALID (ofBool written)
  s.setObjN Obj.CLAIM_DEVICE_INDEX s.listIndex

/-- A state entry whose CRC fails counts as RETIRED with cause UNCORRECTABLE, with one ALARM (R518). -/
def State.badEntry (s : State) (slot : Nat) : State :=
  if slot == 455 then s else
  let s := s.setUnit slot fun u => { u with state := 3, cause := causeCode .uncorrectable }
  s.alarm .health "STATE_ENTRY" (unitOf slot)

/-- A unit that is retired from the release of reset, as its owning block shows it (R518). -/
def State.showRetired (s : State) (slot : Nat) : State :=
  if !s.retired slot then s else
  let i := instOf slot
  match kindOf slot with
  | 2 => if (s.unit slot).spare.isSome then s else s.setUnit slot fun u => { u with spare := s.freeSpare }
  | 4 => s.wr Reg.XL_STATUS_STATE 4 i
  | 5 => s.wr Reg.EM_STATUS_STATE 4 i
  | 6 => s.wr Reg.CAN_STATUS_STATE 4 i
  | 7 => s.wr Reg.SU_STATUS_STATE 4 i
  | 8 => s.wr Reg.PFC_STATUS_STATE 4 i
  | 9 => s.wr Reg.SC_STATUS_STATE 6 i
  | 10 => s.setSlot i fun x => { x with mode := .retired }
  | _ => s

/-- The health block at the release of reset: the state table, and the spares (R516, R518). -/
def State.startHealth (s : State) (bad : List (Fin 456)) : State :=
  let s := bad.foldl (fun t b => t.badEntry b) s
  let s := (s.health.units.map (·.1)).foldl (fun t i => t.showRetired i) s
  s.countRetired.countSpares

/-- Retired banks of the Grist store. -/
def State.retiredBanks (s : State) : Nat := ((List.range 64).filter fun b => s.retired (bankSlot b)).length

/-- Gauge at the release of reset: exclusions restored, the calibration taken when it passed its check, forecast and
first tables due (R59, R588). -/
def State.startGauge (s : State) (cal : Option Calibration) : State :=
  let s := s.fabric.gauge.tiles.foldl (fun t p => t.setExcluded p.1 p.2.excluded) s
  match cal with
  | none => s
  | some c =>
    let s := { s with fabric := { s.fabric with gauge := { s.fabric.gauge with cal := some c } } }
    let s := s.raise Reg.GAUGE_STATUS_CAL_VALID
    let s := (s.wr Reg.GAUGE_HUB_FLOOR c.hubFloor).wr Reg.GAUGE_HUB_DIP_DIP c.hubDip
    s.forecast.replan

/-- The boot record: the valid copy of higher OSN (R547). `copies` has bit 0 for a valid copy A, bit 1 for B. -/
def HubSt.bootRecord (h : HubSt) (copies : Nat) : Option BootCopy :=
  match bitOf copies 0, bitOf copies 1 with
  | true, true => some (if h.copyB.osn ≤ h.copyA.osn then h.copyA else h.copyB)
  | true, false => some h.copyA
  | false, true => some h.copyB
  | false, false => none

/-- Order in which the slots are tried (R550). -/
def State.bootOrder (s : State) (r : BootCopy) : List Nat :=
  if !s.hub.por && s.flag Reg.SUP_BOOT_TRIAL_ACTIVE && !s.flag Reg.SUP_BOOT_CONFIRMED then [1 - r.slot, r.slot]
  else [r.slot, 1 - r.slot]

/-- The boot ROM stays in recovery (R552). -/
def State.recovery (s : State) : State := (s.setHub fun h => { h with trying := [] }).wr Reg.SUP_BOOT_SLOT 2

/-- The boot ROM reads the boot record and begins with the first slot, or stays in recovery. -/
def State.startBoot (s : State) (copies : Nat) : State :=
  if 4 < s.retiredBanks then (s.setHub fun h => { h with bankRecovery := true }).recovery
  else match s.hub.bootRecord copies with
    | none => s.recovery
    | some r =>
      let order := s.bootOrder r
      s.setHub fun h => { h with record := some r, trying := order }

/-- HUB_RESET_RELEASE (R541): t_R, the straps, the retirement table, the calibration and the boot record. TESTEN holds
the hub in reset, and so does the want of a spare bank until a power-on reset (R516). The time bases start from 0. -/
def execHubResetRelease (testEn : Bool) (role : BitVec 2) (profile : BitVec 3) (cal : Option Calibration)
    (bad : List (Fin 456)) (copies : BitVec 2) (s : State) : Host.Outcome State Fault Refusal :=
  if !s.hub.held || testEn || s.health.exhausted then .next s else
  let por := s.hub.por
  let s := ({ s with time := {} } : State).setHub fun h => { h with held := false }
  let s := s.raise Reg.GAUGE_STATUS_DIP
  let s := if por then s.sampleStraps role.toNat profile.toNat else s
  let s := s.takeClasses.takeIdentity
  let s := s.put Reg.CG_STATUS_GATE s.gateRole
  let s := if s.flag Reg.SUP_STRAP_ROLE_FAULT && por then s.alarm .firmware "ROLE_FAULT" else s
  let s := if s.flag Reg.SUP_STRAP_PORT_PROF_FAULT && por then s.alarm .ports "PROF_FAULT" else s
  let s := s.startHealth bad
  let s := s.startGauge cal
  .next (s.recheck.ltRecheck.startBoot copies.toNat)

/-! ### Checks of an image (R548) -/

/-- `n` bytes of a flash slot from offset `off`; an erased byte reads 0xFF. -/
def State.flashGet (s : State) (slot off n : Nat) : List Byte :=
  let m := Map.get [] s.hub.flash slot
  (List.range n).map fun k => Map.get 0xFF m (off + k)

/-- A section of an image. -/
structure Section where
  kind : Nat
  reserved : Nat
  off : Nat
  len : Nat
  load : Nat
  deriving DecidableEq, Repr

/-- Section k of a section table. -/
def sectionAt (b : List Byte) (k : Nat) : Section :=
  { kind := leAt b (16 * k) 1, reserved := leAt b (16 * k + 1) 3, off := leAt b (16 * k + 4) 4,
    len := leAt b (16 * k + 8) 4, load := leAt b (16 * k + 12) 4 }

/-- An image as the boot ROM reads it from a slot. -/
structure Image where
  header : List Byte
  sections : List Section
  bodyLen : Nat
  key : List Byte
  cert : List Byte
  sig : List Byte
  deriving DecidableEq, Repr

/-- The image of a slot. -/
def State.imageOf (s : State) (slot : Nat) : Image :=
  let h := s.flashGet slot 0 256
  let n := leAt h 6 2
  let len := leAt h 8 4
  let t := s.flashGet slot 256 (16 * min n 16)
  let c := s.flashGet slot len 100
  { header := h, sections := (List.range (min n 16)).map (sectionAt t), bodyLen := len, key := (c.drop 4).take 32,
    cert := c, sig := s.flashGet slot (len + 100) 64 }

/-- Two sections overlap in the firmware region. -/
def Section.overlaps (a b : Section) : Bool := decide (a.load < b.load + b.len) && decide (b.load < a.load + a.len)

/-- No two sections of a list overlap. -/
def apart : List Section → Bool
  | [] => true
  | a :: as => as.all (fun b => !a.overlaps b) && apart as

/-- Check 2: FORMAT, NSECT, reserved fields, section bounds and alignment, LOAD_SIZE, ENTRY. -/
def Image.formatOk (i : Image) : Bool :=
  let h := i.header
  let n := leAt h 6 2
  let size := leAt h 40 4
  let entry := leAt h 36 4
  let ok (x : Section) : Bool :=
    decide (1 ≤ x.kind ∧ x.kind ≤ 4) && x.reserved == 0 && decide (256 + 16 * n ≤ x.off) &&
    decide (x.off + x.len ≤ i.bodyLen) && x.load % 4096 == 0 && decide (x.load + x.len ≤ size)
  leAt h 4 2 == 1 && decide (1 ≤ n ∧ n ≤ 16) && leAt h 33 3 == 0 && leAt h 44 212 == 0 && leAt h 32 1 / 8 == 0 &&
  decide (size ≤ 8388608) && i.sections.all ok && apart i.sections &&
  i.sections.any fun x => x.kind == 1 && decide (x.load ≤ entry ∧ entry < x.load + x.len)

/-- Check 5: the certificate and the pin. A root key stands for itself. -/
def Image.keyOk (i : Image) (pin : List Byte) : Bool :=
  let kind := leAt i.cert 0 1
  let root := leAt i.cert 1 1
  let signed := if kind == 0 then i.key == Config.rootKey root
    else kind == 1 && Config.signatureValid (Config.rootKey root) (i.cert.take 36) ((i.cert.drop 36).take 64)
  decide (root ≤ 1) && leAt i.cert 2 2 == 0 && signed &&
  (pin.all (· == 0) || (Config.sha512 i.key).take 32 == pin)

/-- Object type of a type code (R375). -/
def tyOfCode : Nat → Option ObjTy
  | 1 => some .bool | 2 => some .u8 | 3 => some .u16 | 4 => some .u32 | 5 => some .u64 | 6 => some .i8
  | 7 => some .i16 | 8 => some .i32 | 9 => some .i64 | 10 => some .f32 | 11 => some .f64 | 12 => some .q15
  | 13 => some .time | 14 => some .str | 15 => some .blob | _ => none

/-- The bits of a type that hold a value. -/
def ObjTy.bits (t : ObjTy) (v : Rat) : Nat :=
  match t with
  | .f32 => toF32 v
  | .f64 => toF64 v
  | _ => wrapInt (8 * t.size) v.floor

/-- Text without its padding of zero bytes. -/
def textOf (b : List Byte) : String := String.ofList ((b.takeWhile (· != 0)).map fun x => Char.ofNat x.toNat)

/-- One 88-byte entry of an object table, or none where it is malformed (R46, R389, R595). -/
def fwObjectOf (b : List Byte) : Option FwObj :=
  match tyOfCode (leAt b 4 1) with
  | none => none
  | some ty =>
    let flags := leAt b 5 1
    let acc := (List.range 6).map fun k => leAt b (6 + k) 1
    let action := acc.any (· == 3)
    let setO := bitOf flags 2
    let devO := bitOf flags 3
    let num := !ty.asBytes
    let max_ := leAt b 12 2
    let ok := leAt b 3 1 == 0 && leAt b 14 2 == 0 && decide (flags < 16) && acc.all (fun a => decide (a ≤ 3)) &&
      bitOf flags 1 == action && (if action then setO || devO else !setO && !devO) &&
      decide (0xC800 ≤ leAt b 0 2 ∧ leAt b 0 2 < 0xF000)
    if !ok then none else
    some
      { entry :=
          { name := textOf ((b.drop 56).take 32), base := leAt b 0 2, n := 1, sub := leAt b 2 1, ns := 1, ty, acc,
            dflt := if num then ty.bits (ofF64 (leAt b 32 8)) else 0, alts := [], dfltStr := "",
            persist := bitOf flags 0,
            lo := if num then some (ofF64 (leAt b 16 8)) else none,
            hi := if num then some (ofF64 (leAt b 24 8)) else none,
            len := (0, max_, 1), unit := textOf ((b.drop 40).take 16) },
        setOrder := setO, deviceOrder := devO }

/-- The objects that the object tables of an image declare, or none where one is malformed. -/
def State.imageObjects (s : State) (slot : Nat) (i : Image) : Option (List FwObj) :=
  let one (x : Section) : Option (List FwObj) :=
    if x.len % 88 != 0 then none else
    (List.range (x.len / 88)).mapM fun k => fwObjectOf (s.flashGet slot (x.off + 88 * k) 88)
  (((i.sections.filter fun x => x.kind == 4).mapM one).map List.flatten).bind fun os =>
    if (os.map fun o => (o.entry.base, o.entry.sub)).dedup.length == os.length then some os else none

/-- The code of the first check of R548 that fails, or 0. A flash that could not be read gives READ_ERROR, since there
is then nothing to check. -/
def State.imageCheck (s : State) (slot : Nat) (readOk : Bool) (floor : Nat) (pin : List Byte) : Nat :=
  if !readOk then 8 else
  let i := s.imageOf slot
  if leAt i.header 0 4 != 0x57465A58 then 1
  else if !i.formatOk then 2
  else if !((i.header.drop 24).take 8).contains
      (BitVec.ofNat 8 (s.rd Reg.SUP_IDCODE_STEP_MAJOR * 16 + s.rd Reg.SUP_IDCODE_STEP_MINOR)) then 3
  else if !bitOf (leAt i.header 32 1) (s.role - 1) then 4
  else if !i.keyOk pin then 5
  else if !Config.signatureValid i.key (Config.sha512 (s.flashGet slot 0 (i.bodyLen + 100))) i.sig then 6
  else if leAt i.header 16 4 < floor then 7
  else if (s.imageObjects slot i).isNone then 9
  else 0

/-! ### Entry of the firmware -/

/-- The sections of the image in the firmware region of the Grist store (R549). -/
def State.loadImage (s : State) (slot : Nat) (i : Image) : State :=
  i.sections.foldl (fun t x => t.gristPut x.load (s.flashGet slot x.off x.len)) s

/-- Settings restored from Cask: each value listed does what it does when it is written. PPS input 0 is enabled by
default. -/
def State.restoreSettings (s : State) : State :=
  let s := s.dict.foldl (fun (t : State) p =>
    match t.find (p.1 / 256) (p.1 % 256) with
    | some f => if f.entry.persist && !f.entry.isAction then t.settingHook f.entry f.i f.k else t
    | none => t) s
  s.follow Obj.PPI_ENABLE 0 0

/-- The trial of the booted slot (R551). A trial that starts is not yet confirmed. -/
def State.startTrial (s : State) (slot : Nat) : State :=
  let r := s.hub.record.getD {}
  if slot == r.slot && r.trial then
    let now := s.tb3
    let len := s.objN Obj.BOOT_TRIAL_S
    let s := (s.raise Reg.SUP_BOOT_TRIAL_ACTIVE).wr Reg.SUP_BOOT_CONFIRMED 0
    s.setHub fun h => { h with trial := some (now, len) }
  else s.wr Reg.SUP_BOOT_TRIAL_ACTIVE 0

/-- A record that firmware raises at the start: its code, and the word that the manual gives it. -/
def State.startAlarm (s : State) (code : Nat) (word : Option Nat) : State :=
  let d := s.freeDetail 15
  let d := match word with
    | some w => BitVec.ofNat 32 w :: d.drop 1
    | none => d
  ((s.alarmWith code 0 s.stamp d ((List.range 28).map (Config.textByte s.fresh))).nextFresh).endLostSubs

/-- The image of a slot entered on AC0 (steps 5 and 6). -/
def State.enter (s : State) (slot : Nat) : State :=
  let i := s.imageOf slot
  let os := (s.imageObjects slot i).getD []
  let s := s.loadImage slot i
  let s := { s with zdp := { s.zdp with fw := os } }
  let info : ImageInfo :=
    { version := leAt i.header 12 4, secVersion := leAt i.header 16 4, build := leAt i.header 20 4, key := i.key }
  let s := s.setHub fun h => { h with entered := true, trying := [], image := some info }
  let s := (s.wr Reg.SUP_BOOT_SLOT slot).put Reg.SUP_BOOT_FALLBACK (slot != (s.hub.record.getD {}).slot)
  let s := s.startTrial slot
  let s := if s.rd Reg.SUP_RESET_CAUSE_CAUSE % 2 == 1 then s
    else s.startAlarm 0x0F10 (some (s.rd Reg.SUP_RESET_CAUSE_CAUSE))
  let s := if s.flag Reg.GAUGE_STATUS_CAL_VALID then s else s.startAlarm 0x0101 none
  s.restoreSettings.takeSettings

/-- IMAGE_VERIFY (R548 to R552): the check of the slot that is tried. A pass enters the image, a failure keeps its code
and goes on to the next slot, and with none left the boot ROM stays in recovery. -/
def execImageVerify (readOk : Bool) (s : State) : Host.Outcome State Fault Refusal :=
  if s.hub.held || s.hub.entered then .next s else
  match s.hub.trying with
  | [] => .next s
  | slot :: rest =>
    let r := s.hub.record.getD {}
    let c := s.imageCheck slot readOk r.floor r.pin
    let s := s.wr (if slot == 0 then Reg.SUP_BOOT_FAIL_A else Reg.SUP_BOOT_FAIL_B) c
    let s := s.setHub fun h => { h with slotCheck := Map.put h.slotCheck slot c }
    if c = 0 then .next (s.enter slot)
    else if rest.isEmpty then .next s.recovery
    else .next (s.setHub fun h => { h with trying := rest })

/-! ### Operational (R542) -/

/-- The hub becomes operational once all four conditions hold: the time is kept, and the CONFIG message goes to the
safety die (step 9). -/
def State.noteOperational (s : State) : State :=
  if !s.hub.operational && s.hub.entered && s.hub.replayed && s.flag Reg.LE_STATUS_RUN &&
      (s.flag Reg.GRIST_STATUS_READY || !s.flag Reg.GAUGE_STATUS_CAL_VALID) then
    let now := s.tb3
    let s := s.setHub fun h => { h with operational := true, startMs := now / 1000000 }
    let s := { s with fabric := { s.fabric with pipe := { s.fabric.pipe with operationalAt := some now } } }
    s.sendConfig
  else s

/-- TABLE_REPLACE: a re-plan completes. Without one that runs, nothing happens. -/
def execTableReplace (s : State) : Host.Outcome State Fault Refusal :=
  .next (if s.flag Reg.GRIST_STATUS_REPLANNING then s.replaceTables.noteOperational else s)

/-! ### Replay (R424, R474) -/

/-- Values of persistent ACTION objects in the registers that only an application writes. -/
def appliedFollows : List Follow :=
  [{ entry := Obj.LIM_MIN0, field := Reg.LEL_RANGE_MIN }, { entry := Obj.LIM_MAX0, field := Reg.LEL_RANGE_MAX },
   { entry := Obj.LIM_MIN1, field := Reg.LEL_RANGE_MIN, j := 1 }, { entry := Obj.LIM_MAX1, field := Reg.LEL_RANGE_MAX, j := 1 },
   { entry := Obj.LIM_MIN2, field := Reg.LEL_RANGE_MIN, j := 2 }, { entry := Obj.LIM_MAX2, field := Reg.LEL_RANGE_MAX, j := 2 },
   { entry := Obj.LIM_MIN3, field := Reg.LEL_RANGE_MIN, j := 3 }, { entry := Obj.LIM_MAX3, field := Reg.LEL_RANGE_MAX, j := 3 },
   { entry := Obj.LIM_RATE, field := Reg.LEL_RATE_RATE }, { entry := Obj.LIM_ANGLE_WRAP, field := Reg.LEL_WRAP_ANGLE_WRAP },
   { entry := Obj.PF_PT_MODE, field := Reg.PFC_CFG_PT_MODE }] ++
  [{ entry := Obj.GLIM_MIN0, field := Reg.CGL_RANGE_MIN }, { entry := Obj.GLIM_MAX0, field := Reg.CGL_RANGE_MAX },
   { entry := Obj.GLIM_MIN1, field := Reg.CGL_RANGE_MIN, j := 1 }, { entry := Obj.GLIM_MAX1, field := Reg.CGL_RANGE_MAX, j := 1 },
   { entry := Obj.GLIM_MIN2, field := Reg.CGL_RANGE_MIN, j := 2 }, { entry := Obj.GLIM_MAX2, field := Reg.CGL_RANGE_MAX, j := 2 },
   { entry := Obj.GLIM_MIN3, field := Reg.CGL_RANGE_MIN, j := 3 }, { entry := Obj.GLIM_MAX3, field := Reg.CGL_RANGE_MAX, j := 3 },
   { entry := Obj.GLIM_ANGLE_WRAP, field := Reg.CGL_WRAP_ANGLE_WRAP }]

/-- Forbidden intervals of a thruster, START then END, in their registers. -/
def State.loadSectors (s : State) (start_ end_ : Field) (t : Nat) (b : List Byte) : State :=
  (List.range 8).foldl (fun u k => (u.wr start_ (leAt b (4 * k) 2) t k).wr end_ (leAt b (4 * k + 2) 2) t k) s

/-- SAFE values of a thruster, I16 in the order DRIVE, ANGLE, THRUST, AUX. -/
def State.loadSafe (s : State) (t : Nat) (b : List Byte) : State :=
  ((s.wr Reg.CGL_SAFE_SAFE_DRIVE (leAt b 0 2) t).wr Reg.CGL_SAFE_SAFE_THRUST (leAt b 4 2) t).wr
    Reg.CGL_SAFE_AUX_SAFE_AUX (leAt b 6 2) t

/-- The registers behind one persistent ACTION value. The claim-gate limits are loaded in GATE role only (R474). -/
def State.restoreAction (s : State) (o : ObjDef) (i k : Nat) : State :=
  if o.base == 0x9200 && !s.gateRole then s else
  let s := (appliedFollows.filter fun f => f.entry.base == o.base && f.entry.sub == o.sub).foldl
    (fun t f => t.wr f.field (t.objN o i k) i (f.j + k)) s
  match o.base, o.sub with
  | 0x6200, 0x0E => s.loadSectors Reg.LEL_SECTOR_START Reg.LEL_SECTOR_END i (s.objBytes o i)
  | 0x9200, 0x0E => s.loadSectors Reg.CGL_SECTOR_START Reg.CGL_SECTOR_END i (s.objBytes o i)
  | 0x9200, 0x0F => s.loadSafe i (s.objBytes o i)
  | 0x6500, _ => s.wr Reg.LE_WORD_WORD (s.objN o i k) (0x300 + k)
  | _, _ => s

/-- A loop-engine slot enabled at the start; the spare of a retired slot stands in for it (R259). -/
def State.startSlot (s : State) (i : Nat) : State :=
  if (s.slot i).mode == .retired then
    match s.usableSpare i with
    | some sp => (s.copySlot i sp .sparing (some i)).recheck
    | none => s
  else if h : i < 256 then nextOr s (execSlotEnable ⟨i, h⟩ true s) else s

/-- A port enabled at the start. -/
def State.startPort (s : State) (p : Nat) : State :=
  if h : p < 38 then nextOr s (execPortEnable ⟨p, h⟩ true true s) else s

/-- Units enabled by persistent ENABLE objects. -/
def State.startUnit (s : State) (o : ObjDef) (i : Nat) : State :=
  match o.base with
  | 0x6100 => if o.sub == 1 then s.startSlot i else s
  | 0x6900 => if h : i < 32 then (if o.sub == 1 then nextOr s (execLtChannelEnable ⟨i, h⟩ true s) else s) else s
  | 0x7100 => if h : i < 32 then (if o.sub == 1 then nextOr s (execPfEnable ⟨i, h⟩ true s) else s) else s
  | 0x8100 => if h : i < 16 then (if o.sub == 1 then nextOr s (execCanEnable ⟨i, h⟩ 0 true s) else s) else s
  | 0x8800 => if o.sub == 1 then s.startPort (1 + i) else s
  | 0x8900 => if o.sub == 1 then s.startPort (33 + i) else s
  | 0x8A00 => if o.sub == 1 then s.startPort (25 + i) else s
  | _ => s

/-- Every persistent ACTION value that Cask holds put into force: registers first, then the units that are enabled. EM0
is enabled by default. -/
def State.restoreActions (s : State) : State :=
  let found := s.dict.filterMap fun p => (s.find (p.1 / 256) (p.1 % 256)).filter fun f => f.entry.persist && f.entry.isAction
  let s := found.foldl (fun t f => t.restoreAction f.entry f.i f.k) s
  let s := found.foldl (fun (t : State) f => if t.objB f.entry f.i f.k then t.startUnit f.entry f.i else t) s
  if s.objB Obj.EM_ENABLE 0 then s.startUnit Obj.EM_ENABLE 0 else s

/-- A member list in the claim-gate registers; 0xFFFF marks an empty place (R474). -/
def State.loadMembers (s : State) (o : ObjDef) : State :=
  let m (k : Nat) : Nat := s.objN o 0 k
  let s' := ((s.wr Reg.CG_MEMBER01_MEMBER0 (m 0)).wr Reg.CG_MEMBER01_MEMBER1 (m 1)).wr Reg.CG_MEMBER2_MEMBER2 (m 2)
  ((s'.put Reg.CG_MEMBER01_VALID0 (m 0 != 0xFFFF)).put Reg.CG_MEMBER01_VALID1 (m 1 != 0xFFFF)).put
    Reg.CG_MEMBER2_VALID2 (m 2 != 0xFFFF)

/-- The claim-gate registers marked "journal" loaded after replay (R474). -/
def State.loadGate (s : State) : State :=
  if s.control then
    let s := (s.wr Reg.CG_CFG_SET_ID (s.objN Obj.SET_SET_ID)).wr Reg.CG_CFG_INDEX (s.objN Obj.CLAIM_DEVICE_INDEX)
    let s := (s.loadMembers Obj.CLAIM_MEMBERS).wr Reg.CG_CFG_EPOCH (s.objN Obj.CLAIM_EPOCH)
    (s.wr Reg.CG_CFG_LEASE_MS (s.objN Obj.CLAIM_LEASE_MS)).wr Reg.CG_MEMBER2_LEADER_INDEX (s.objN Obj.CLAIM_LEADER_INDEX)
  else if s.gateRole then
    let s := (s.wr Reg.CG_CFG_SET_ID (s.objN Obj.GATE_SET_ID)).loadMembers Obj.GATE_MEMBERS
    let s := s.wr Reg.CG_GCFG_NOLEASE_HOLD_MS (s.objN Obj.GATE_NOLEASE_HOLD_MS)
    let s := (s.wr Reg.CG_GCFG_CROSS_EN (s.objN Obj.GATE_CROSS_EN)).wr Reg.CG_GCFG_FENCE_S (s.objN Obj.GATE_FENCE_S)
    s.wr Reg.CG_CROSS_CROSS_BOUND (s.objN Obj.GATE_CROSS_BOUND)
  else s

/-- An order has a record whose CRC failed. -/
def badOrder (bad : List Nat) (o : OrderRec) : Bool := bad.any fun n => decide (o.osn ≤ n ∧ n ≤ orderEnd o)

/-- Records at the top of the ring whose CRC fails were being written when the reset came: they are discarded, newest
first. -/
def dropTop (bad : List Nat) : List OrderRec → List OrderRec
  | [] => []
  | o :: os => if badOrder bad o then dropTop bad os else o :: os

/-- The journal as replay finds it: the ring without the discarded top, and OSN_HIGH, COMMIT and APPLIED (R424). -/
def State.readJournal (s : State) (bad : List Nat) : State :=
  let kept := (dropTop bad s.journal.ring.reverse).reverse
  let lost := s.journal.ring.length - kept.length
  let s := s.setJ fun j =>
    { j with ring := [], discarded := lost,
             window := j.window.filter fun w => !((j.ring.drop kept.length).any fun o => o.osn == w.1) }
  let high := kept.foldl (fun m o => max m (orderEnd o)) 0
  let s := s.setJ fun j => { j with ring := kept }
  let s := (s.wr2 Reg.JE_OSN_HIGH_LO_OSN Reg.JE_OSN_HIGH_HI_OSN high).setObjN Obj.JE_OSN_HIGH high
  let oldest := match kept with | o :: _ => o.osn | [] => 0
  let s := s.wr2 Reg.JE_OSN_OLDEST_LO_OSN Reg.JE_OSN_OLDEST_HI_OSN oldest
  let c := if s.inSet then min high (s.objN Obj.JE_OSN_COMMIT) else high
  let s := (s.wr2 Reg.JE_OSN_COMMIT_LO_OSN Reg.JE_OSN_COMMIT_HI_OSN c).setObjN Obj.JE_OSN_COMMIT c
  s.setApplied (s.objN Obj.JE_OSN_APPLIED)

/-- One order put into force again in replay: its value. -/
def State.replayOne (s : State) (o : OrderRec) : State :=
  if s.passesOver o then s.setApplied (orderEnd o) else
  let s := match s.find o.index o.sub with
    | some f => if 0x9800 ≤ o.index ∧ o.index < 0xA000 then s else s.setEntry f o.value
    | none => s
  s.setApplied (orderEnd o)

/-- The first failed record below the top. -/
def State.firstBad (s : State) (bad : List Nat) : Option Nat :=
  ((s.journal.ring.filter (badOrder bad)).map (·.osn)).head?

/-- The member that is asked for what the journal lacks: the sequencer in view, else the heard member of highest commit
point, the lower index on a tie (R425). -/
def State.fetchFrom (s : State) : Option Nat :=
  match s.journal.seqView with
  | some m => some m
  | none => s.heardPeers.foldl (fun a m => match a with
      | some b => if (s.peer b).commit < (s.peer m).commit then some m else some b
      | none => some m) none

/-- The state after replay (R425, R431, R433). -/
def State.afterReplay (s : State) (failed : Option Nat) : State :=
  match failed with
  | some n =>
    match if s.inSet then s.fetchFrom else none with
    | some m =>
      let gap := s.journal.ring.filter fun o => decide (n < o.osn)
      let s := (s.discardFrom n).setJ fun j => { j with gap := gap }
      (s.setJState 1).sendFetch m n n
    | none => s.enterFork n
  | none =>
    if s.inSet then
      let s := s.setJState 1
      match s.fetchFrom with
      | some m => s.sendFetch m (s.osnHigh + 1) 0
      | none => s
    else
      let s := (s.setJState 2).chooseSequencer
      if s.dip then s.journalDip else s

/-- REPLAY_COMPLETE (R424, R474): the ring read, the orders above OSN_APPLIED up to the commit point in force again, the
registers of the persistent values loaded, and orders and triggers taken. `bad` holds the OSNs of records whose CRC
fails. -/
def execReplayComplete (bad : List Nat) (s : State) : Host.Outcome State Fault Refusal :=
  if !s.hub.entered || s.hub.replayed then .next s else
  let s := s.readJournal bad
  let failed := s.firstBad bad
  let todo := s.toApply.filter fun o => match failed with | some n => decide (o.osn < n) | none => true
  let s := todo.foldl State.replayOne s
  let s := s.restoreActions.loadGate
  let s := s.afterReplay failed
  let now := s.tb3
  let s := s.setGate fun g => { g with noneSince := some now }
  let s := (s.raise Reg.LE_STATUS_RUN).setHub fun h => { h with replayed := true }
  .next s.noteOperational

end Sys2Proof.Machine
end

