-- ==== Sys2Proof/Machine/Flash.lean ====
section
/-! DEFINITION. The flash slot that is not booted, and the orders of the boot record (18_startup_firmware.md, R552,
R556 to R560). A refusal answers with its reason and changes nothing. -/

namespace Sys2Proof.Machine

/-- The hub is in recovery (R552). -/
def State.inRecovery (s : State) : Bool := s.rd Reg.SUP_BOOT_SLOT == 2

/-- The boot record in force for the next boot: the copy of higher OSN. -/
def HubSt.nextRecord (h : HubSt) : BootCopy := if h.copyB.osn ≤ h.copyA.osn then h.copyA else h.copyB

/-- The slot that is not booted. In recovery, where neither is, the slot that is not preferred. -/
def State.idleSlot (s : State) : Nat :=
  if s.inRecovery then 1 - s.hub.nextRecord.slot else 1 - s.rd Reg.SUP_BOOT_SLOT

/-- A boot record written to the copy that is due (R547). -/
def State.writeRecord (s : State) (f : BootCopy → BootCopy) : State :=
  let osn := match s.journal.apply with | some a => a.osn | none => 0
  let r := { f s.hub.nextRecord with osn := max osn s.hub.nextRecord.osn }
  s.setHub fun h => if h.writeB then { h with copyB := r, writeB := false } else { h with copyA := r, writeB := true }

/-- A chunk staged for programming at an offset of the idle slot, or the reason for its refusal (R556). -/
def State.flashChunk (s : State) (offset : Nat) (data : List Byte) : Nat × State :=
  if s.hub.job != .idle then (16, s)
  else if data.length < 1 ∨ 4088 < data.length then (6, s)
  else if offset % 8 ≠ 0 ∨ Config.flashSlotSize < offset + data.length then (13, s)
  else (0, s.setHub fun h => { h with job := .programming offset data, check := none })

/-- FLASH_CHUNK: a WRITE to 0xC020.01. -/
def execFlashChunk (offset : Word) (data : List Byte) (s : State) : Host.Outcome State Fault Refusal :=
  let r := s.flashChunk offset.toNat data
  .next (r.2.answer r.1)

/-- Bytes programmed into a table of flash bytes. -/
def flashPut (m : Map Byte) (off : Nat) : List Byte → Map Byte
  | [] => m
  | b :: bs => flashPut (if b == 0xFF then Map.erase m off else Map.put m off b) (off + 1) bs

/-- FLASH_PROGRAM_DONE: the programming of the staged chunk, or the erase, completes. -/
def execFlashProgramDone (s : State) : Host.Outcome State Fault Refusal :=
  let i := s.idleSlot
  match s.hub.job with
  | .erasing => .next (s.setHub fun h => { h with job := .idle, flash := Map.put h.flash i [], programmed := 0 })
  | .programming off data =>
    .next (s.setHub fun h =>
      { h with job := .idle, flash := Map.put h.flash i (flashPut (Map.get [] h.flash i) off data),
               programmed := h.programmed + data.length })
  | _ => .next s

/-- An erase of the idle slot started, or the reason for its refusal. -/
def State.flashErase (s : State) : Nat × State :=
  if s.hub.job != .idle then (16, s) else (0, s.setHub fun h => { h with job := .erasing, check := none })

/-- FLASH_ERASE: a WRITE of 1 to 0xC020.02. -/
def execFlashErase (s : State) : Host.Outcome State Fault Refusal :=
  let r := s.flashErase
  .next (r.2.answer r.1)

/-- A check of the idle slot started, or the reason for its refusal. -/
def State.flashCheck (s : State) : Nat × State :=
  if s.hub.job != .idle then (16, s) else (0, s.setHub fun h => { h with job := .checking })

/-- FLASH_CHECK: a WRITE of 1 to 0xC020.03. -/
def execFlashCheck (s : State) : Host.Outcome State Fault Refusal :=
  let r := s.flashCheck
  .next (r.2.answer r.1)

/-- FLASH_CHECK_DONE: the code of the check under R548, against the boot record that the next boot reads. -/
def execFlashCheckDone (readOk : Bool) (s : State) : Host.Outcome State Fault Refusal :=
  if s.hub.job != .checking then .next s else
  let i := s.idleSlot
  let r := s.hub.nextRecord
  let c := s.imageCheck i readOk r.floor r.pin
  .next (s.setHub fun h => { h with job := .idle, check := some c, slotCheck := Map.put h.slotCheck i c })

/-- Why an ACTIVATE is refused, or 0 (R557). -/
def State.activateRefusal (s : State) (slot flags : Nat) : Nat :=
  if slot ≠ s.idleSlot then 14
  else if s.hub.check ≠ some 0 then 15
  else if s.flag Reg.SUP_BOOT_TRIAL_ACTIVE && !s.flag Reg.SUP_BOOT_CONFIRMED then 15
  else if s.control && s.claimRank == 12 then 15
  else if s.gateRole && s.gate.holder.isSome && !bitOf flags 0 then 15
  else 0

/-- ACTIVATE: an ORDER to 0xC010.01 is applied. The firmware's restart is its own command. -/
def execActivate (slot flags : BitVec 8) (s : State) : Host.Outcome State Fault Refusal :=
  let why := s.activateRefusal slot.toNat flags.toNat
  if why = 0 then .next ((s.writeRecord fun r => { r with slot := slot.toNat, trial := true }).answer 0)
  else .next (s.answer why)

/-- BOOT_RESULT: an ORDER to 0xC010.03 is applied (R559): 1 ends the trial, 2 settles the record on the booted slot and
raises an ALARM that names the failed slot. -/
def execBootResult (slot result : BitVec 8) (s : State) : Host.Outcome State Fault Refusal :=
  if result = 1 then .next ((s.writeRecord fun r => { r with trial := false }).answer 0)
  else if result = 2 ∧ slot.toNat < 2 then
    let s := s.writeRecord fun r => { r with slot := slot.toNat, trial := false }
    .next ((s.alarm .firmware (if slot = 0 then "SLOT_B_FAILED" else "SLOT_A_FAILED")).answer 0)
  else .next (s.answer 13)

/-- Security version of the running image. -/
def State.secVersion (s : State) : Nat := match s.hub.image with | some i => i.secVersion | none => 0

/-- Why a ROLLBACK_FLOOR is refused, or 0 (R560). -/
def State.floorRefusal (s : State) (floor : Nat) : Nat :=
  if floor < s.hub.nextRecord.floor ∨ s.secVersion < floor then 14 else 0

/-- ROLLBACK_FLOOR: an ORDER to 0xC010.04 is applied. -/
def execRollbackFloor (floor : Word) (s : State) : Host.Outcome State Fault Refusal :=
  let why := s.floorRefusal floor.toNat
  if why = 0 then .next ((s.writeRecord fun r => { r with floor := floor.toNat }).answer 0) else .next (s.answer why)

/-- Why a KEY_PIN is refused, or 0 (R560). -/
def State.pinRefusal (s : State) (pin : List Byte) : Nat :=
  if pin.length ≠ 32 then 6
  else if pin.all (· == 0) then 0
  else match s.hub.image with
    | some i => if (Config.sha512 i.key).take 32 = pin then 0 else 14
    | none => 14

/-- KEY_PIN: an ORDER to 0xC010.05 is applied. -/
def execKeyPin (pin : List Byte) (s : State) : Host.Outcome State Fault Refusal :=
  let why := s.pinRefusal pin
  if why = 0 then .next ((s.writeRecord fun r => { r with pin := pin }).answer 0) else .next (s.answer why)

/-- Why a REBOOT is refused, or 0: outside recovery, and in that of R516 while more banks are retired than there are
spares. -/
def State.rebootRefusal (s : State) : Nat :=
  if !s.inRecovery || (s.hub.bankRecovery && decide (4 < s.retiredBanks)) then 15 else 0

/-- REBOOT: a WRITE of 1 to 0xC020.05 restarts the hub with cause RESTART (R552). -/
def execReboot (s : State) : Host.Outcome State Fault Refusal :=
  if s.rebootRefusal = 0 then .next (s.hubReset false (some 4)) else .next (s.answer s.rebootRefusal)

end Sys2Proof.Machine
end

