-- ==== Sys2Proof/Machine/GaugeRows.lean ====
section
/-! DEFINITION. Gauge's commands (02_clockless_timing_admission.md): windows, breaches, samples, dips, temperature,
stress and the daily record. -/

namespace Sys2Proof.Machine

/-- 0.68 V, 0.69 V and 140 °C in the steps of their registers (R60 to R62, R582). -/
def vWarn : Nat := 2720

/-- 0.69 V. -/
def vReturn : Nat := 2760

/-- 140 °C. -/
def tempLimit : Int := 1120

/-- A VCORE reading taken: NOW, MIN, the live warning and the lowest since reset. -/
def State.vcoreReading (s : State) (v : Nat) : State :=
  let s := (s.wr Reg.GAUGE_VCORE_NOW v).wr Reg.GAUGE_VCORE_MIN (min v (s.rd Reg.GAUGE_VCORE_MIN))
  (s.put Reg.GAUGE_STATUS_VCORE_WARN (decide (v < vWarn))).setGauge fun g => { g with vcoreMin := min v g.vcoreMin }

/-- A temperature reading of tile n. -/
def State.tempReading (s : State) (n : Nat) (t : Int) : State :=
  let top := max t (s.rdS Reg.GAUGE_TEMP_MAX n)
  (s.wrS Reg.GAUGE_TEMP_TEMP t n).wrS Reg.GAUGE_TEMP_MAX top n

/-- Median of two or three factors; 1 of none. -/
def medianOf (x : List Rat) : Rat :=
  match x.mergeSort (fun a b => decide (a ≤ b)) with
  | [a, b] => (a + b) / 2
  | [_, b, _] => b
  | a :: _ => a
  | [] => 1

/-- Measured factors of the monitors of tile n (R56): count over calibration count. -/
def monitorFactors (c : Calibration) (w : GaugeWindow) (n : Nat) : List Rat :=
  (List.zip (w.tiles.getD n []) (c.counts.getD n [])).map fun x => (x.1 : Rat) / x.2

/-- Monitors of tile n in use. -/
def State.monitorsInUse (s : State) (n : Nat) : List Nat :=
  (List.range 4).filter fun k => !bitOf (s.gtile n).excluded k

/-- Exclusions after a window (R57): monitors that have deviated by more than 8 % for 16 windows in a row. -/
def State.excludeMonitors (s : State) (n : Nat) (f : List Rat) : State :=
  let use := s.monitorsInUse n
  let dev (k : Nat) : Bool :=
    let m := medianOf ((use.filter (· != k)).map fun j => f.getD j 0)
    let d := f.getD k 0 - m
    use.contains k && decide ((8 / 100) * m < |d|)
  let s := s.setGtile n fun g =>
    { g with deviates := (List.range 4).map fun k => if dev k then g.deviates.getD k 0 + 1 else 0 }
  let due := use.filter fun k => decide (16 ≤ (s.gtile n).deviates.getD k 0)
  due.foldl (fun t k => (t.setExcluded n (setBit (t.gtile n).excluded k)).event .gauge "MONITOR_EXCLUDED" (0x100 + n)) s

/-- Breach and speed fault of tile n by its measured factor m (R65, R66). -/
def State.judgeSpeed (s : State) (n m : Nat) : State :=
  let fl := s.floorOf n
  let now := s.tb3
  let dip := s.dip
  let below := decide (m < fl)
  let slow := decide (m < s.dipOf n)
  let s := s.setGtile n fun g =>
    { g with belowFloor := if below && !dip then g.belowFloor + 1 else 0
             belowDip := if slow then g.belowDip + 1 else 0
             okSince := if below then none else some (g.okSince.getD now) }
  let g := s.gtile n
  let s := if 4 ≤ g.belowFloor && !s.flag Reg.GAUGE_FLAGS_BREACH n then
      let s := (s.setGtile n fun g => { g with breachAt := some now, alarmed := false }).raise Reg.GAUGE_FLAGS_BREACH n
      let s := (s.raise Reg.GAUGE_FLAGS_BREACH_SEEN n).showBreach
      (((s.raise Reg.GRIST_IRQ_BREACH).count 0x105 none).event .gauge "BREACH" (0x100 + n)).replan
    else s
  if 4 ≤ g.belowDip then
    ((s.raise Reg.GAUGE_FLAGS_SPEED_FAULT n).raise Reg.GRIST_IRQ_SPEED_FAULT).retireTile n .speed
  else s

/-- One tile at the end of a window. -/
def State.tileWindow (s : State) (c : Calibration) (w : GaugeWindow) (n : Nat) : State :=
  if !s.tilePowered n then s else
  let f := monitorFactors c w n
  let s := s.excludeMonitors n f
  let use := s.monitorsInUse n
  let m := toUq214 (use.foldl (fun a k => min a (f.getD k 0)) 4)
  let s := s.wr Reg.GAUGE_SPEED_MEASURED m n
  if use.length < 3 then s.retireTile n .gauge else s.judgeSpeed n m

/-- GAUGE_WINDOW: a window ends and the measured factors are formed (R56, R57, R65, R66). Without valid calibration
only the sensors are read. -/
def execGaugeWindow (w : GaugeWindow) (s : State) : Host.Outcome State Fault Refusal :=
  let s := s.vcoreReading w.vcore.toNat
  let s := (List.range 32).foldl (fun t n => if t.tilePowered n then t.tempReading n (w.temps.getD n 0) else t) s
  .next (match s.fabric.gauge.cal with
    | none => s
    | some c =>
      let hub := (List.zip w.hub c.hubCounts).foldl (fun (a : Rat) x => min a ((x.1 : Rat) / x.2)) 4
      (List.range 32).foldl (fun t n => t.tileWindow c w n) (s.wr Reg.GAUGE_HUB_MEASURED (toUq214 hub)))

/-- BREACH_END: the measured factor has stayed at or above the floor for 100 ms (R65). -/
def execBreachEnd (tile : Fin 32) (s : State) : Host.Outcome State Fault Refusal :=
  match (s.gtile tile).okSince with
  | some t => .next (if s.elapsed t 100000000 then s.breachOver tile else s)
  | none => .next s

/-- BREACH_ALARM: a breach that lasts 10 s raises an ALARM (R65). -/
def execBreachAlarm (tile : Fin 32) (s : State) : Host.Outcome State Fault Refusal :=
  match (s.gtile tile).breachAt with
  | some t => .next (if s.elapsed t 10000000000 && !(s.gtile tile).alarmed then
      (s.setGtile tile fun g => { g with alarmed := true }).alarm .gauge "BREACH_LONG" (0x100 + tile.val) else s)
  | none => .next s

/-- REF_MONITOR_SAMPLE: each tile's ratio of working to reference counts over one window gives its retention (R58). -/
def execRefMonitorSample (ratios : List Rat) (s : State) : Host.Outcome State Fault Refusal :=
  let s := s.setGauge fun g => { g with refDue := false }
  .next (match s.fabric.gauge.cal with
    | none => s
    | some c => (List.range 32).foldl (fun t n =>
        if t.tilePowered n then t.setGtile n fun g => { g with retention := ratios.getD n 0 / c.refRatio.getD n 1 }
        else t) s)

/-- REF_SAMPLE: a write of GAUGE_CTRL.REF_SAMPLE asks for a sample in the next window, which REF_MONITOR_SAMPLE
brings. -/
def execRefSample (s : State) : Host.Outcome State Fault Refusal :=
  .next (s.setGauge fun g => { g with refDue := true })

/-- TEMP_HIGH: a sensor (0 to 31 the tiles, 32 to 39 the hub) reads above 140 °C (R60, R582). The ALARM is raised
when the flag is set. -/
def execTempHigh (sensor : Fin 40) (reading : BitVec 16) (s : State) : Host.Outcome State Fault Refusal :=
  let t := signed 16 reading.toNat
  if t ≤ tempLimit then .next s else
  let s := if sensor.val < 32 then s.tempReading sensor t else s
  .next (if s.flag Reg.GAUGE_STATUS_TEMP_HIGH then s
    else (s.raise Reg.GAUGE_STATUS_TEMP_HIGH).alarm .gauge "TEMP_HIGH")

/-! ### Dips (R61 to R64, R566) -/

/-- DIP_START: a sense point reads below 0.68 V for 100 ns. -/
def execDipStart (vcore : BitVec 16) (s : State) : Host.Outcome State Fault Refusal :=
  if vWarn ≤ vcore.toNat then .next s else
  let s := s.vcoreReading vcore.toNat
  if s.dip then .next s else
  let now := s.tb3
  let s := (s.raise Reg.GAUGE_STATUS_DIP).setGauge fun g =>
    { g with dipAt := now, startUp := false, dips := g.dips + 1 }
  let s := ((s.incSat Reg.GAUGE_DIP_COUNT).raise Reg.GRIST_IRQ_DIP_ENTER).count 0x104 none
  .next s.showTable.journalDip

/-- DIP_LONG: a dip reaches 500 ms (R63, R428). -/
def execDipLong (s : State) : Host.Outcome State Fault Refusal :=
  if s.dip && !s.flag Reg.GAUGE_STATUS_DIP_LONG && s.elapsed s.fabric.gauge.dipAt 500000000 then
    .next (((s.raise Reg.GAUGE_STATUS_DIP_LONG).raise Reg.GRIST_IRQ_DIP_LONG).alarm .gauge "DIP_LONG").journalPause
  else .next s

/-! ### Ageing (R67, R68) -/

/-- One second of stress on tile n, in years (R67). -/
def State.stress (s : State) (n : Nat) (x : StressSample) : State :=
  let tj : Rat := (s.rdS Reg.GAUGE_TEMP_TEMP n : Rat) / 8 + 27315 / 100
  let v : Rat := (x.vcore : Rat) / 4000
  let dt : Rat := 1 / 31557600
  let heat := if tj = 0 then 0 else
    Config.exp ((12 / 100) / (8617 / 100000000) * (1 / (39815 / 100) - 1 / tj))
  let db := heat * Config.exp (5 * (v - 75 / 100)) * dt
  let dh := x.busy * Config.exp (8 * (v - 75 / 100)) * dt
  s.setGtile n fun g => { g with tauB := g.tauB + db, nuH := g.nuH + dh }

/-- STRESS_UPDATE: once per second, for each powered tile. -/
def execStressUpdate (tiles : List StressSample) (s : State) : Host.Outcome State Fault Refusal :=
  .next ((List.range 32).foldl (fun t n =>
    match tiles[n]? with
    | some x => if t.tilePowered n then t.stress n x else t
    | none => t) s)

/-- A record folded into the summaries (R67); the sums are free, since their weights are not stated. -/
def State.foldRecord (s : State) (r : DailyRec) : State :=
  let free := s.fresh
  let up (m : Map Summary) (n : Nat) : Map Summary :=
    Map.upd {} m n fun x =>
      let e := r.tiles.getD n (0, 0, 0)
      { days := x.days + 1, first := if x.days == 0 then e else x.first, last := e, sums := [Config.freeRat (free + n)] }
  ({ s with fresh := s.fresh + 32 } : State).setGauge fun g =>
    { g with summaries := (List.range 32).foldl up g.summaries }

/-- A coefficient held between one quarter and four times its prior (R68). -/
def clampFit (prior x : Rat) : Rat := max (prior / 4) (min (4 * prior) x)

/-- The fit of R68. Its weights are not stated: each coefficient is a free value within its bounds. -/
def State.fit (s : State) : State :=
  let free := s.fresh
  (List.range 32).foldl (fun t n => t.setGtile n fun g =>
    { g with aB := clampFit (1 / 20) (Config.freeRat (free + 2 * n))
             aH := clampFit (13 / 2000) (Config.freeRat (free + 2 * n + 1)) })
    { s with fresh := s.fresh + 64 }

/-- DAILY_RECORD: one record to the ring, the record it overwrites folded, then the fit, the forecast and the kiln
margin (R67 to R71). -/
def execDailyRecord (s : State) : Host.Outcome State Fault Refusal :=
  let s := if s.fabric.gauge.ring.length < 1792 then s else
    match s.fabric.gauge.ring with
    | r :: rs => (s.foldRecord r).setGauge fun g => { g with ring := rs }
    | [] => s
  let tiles := (List.range 32).map fun n =>
    let g := s.gtile n
    (toF32 g.retention, toF32 g.tauB, toF32 g.nuH)
  let mask := s.tilesInService.foldl setBit 0
  let sec := (s.base 0).sec.toNat % 2 ^ 32
  let s := s.setGauge fun g =>
    { g with ring := g.ring ++ [{ day := g.nextDay, seconds := sec, inService := mask, tiles }], nextDay := g.nextDay + 1 }
  .next s.fit.forecast.kiln

end Sys2Proof.Machine
end

