-- ==== Sys2Proof/Machine/Live.lean ====
section
/-! DEFINITION. What a read of a register field or of a dictionary entry finds where the value does not stand in the
register file or the dictionary: counts, clocks and states that the blocks keep in their own form, and the byte form of
the records of Cask. -/

namespace Sys2Proof.Machine

/-! ### Records -/

/-- The words of a record's DETAIL, `n` of them. -/
def detailBytes (n : Nat) (d : List Word) : List Byte :=
  (List.range n).flatMap fun i => leBytes 4 (d.getD i 0).toNat

/-- A record with its CRC-32 behind it. -/
def withCrc (b : List Byte) : List Byte := b ++ leBytes 4 (crc32 b)

/-- The 128-byte ALARM record (16_faults_health_logs.md). -/
def alarmBytes (a : AlarmRec) : List Byte :=
  withCrc (leBytes 4 a.aseq ++ leBytes 2 a.node ++ leBytes 2 a.code ++ leBytes 6 a.time.sec ++ [0, 0] ++ leBytes 4 a.time.ns ++
    leBytes 2 a.unit ++ leBytes 1 (ofBool a.peerCopy + 2 * ofBool a.held + 4 * ofBool a.overflowed) ++ [0] ++
    leBytes 8 a.osn ++ leBytes 4 a.claim ++ detailBytes 15 a.detail ++ padTo 28 a.text)

/-- The 64-byte EVENT or TRACE record. -/
def logBytes (r : LogRec) : List Byte :=
  withCrc (leBytes 4 r.seq ++ leBytes 2 r.node ++ leBytes 2 r.code ++ leBytes 4 r.first.ns ++ leBytes 4 r.first.sec ++
    leBytes 4 r.last.ns ++ leBytes 4 r.last.sec ++ leBytes 4 r.count ++ leBytes 2 r.unit ++
    leBytes 1 (ofBool r.coalesced + 2 * ofBool r.gap) ++ [0] ++ detailBytes 7 r.detail)

/-- The 64-byte retirement history record (R517). -/
def histBytes (r : HistRec) : List Byte :=
  withCrc (leBytes 4 r.seq ++ leBytes 4 r.time.ns ++ leBytes 4 r.time.sec ++ leBytes 2 r.unit ++ leBytes 1 r.event ++
    leBytes 1 r.cause ++ leBytes 2 r.node ++ leBytes 2 r.count ++ leBytes 8 r.osn ++ leBytes 32 r.detail)

/-- The 16-byte state entry of a slot, as Cask holds it (R517). -/
def State.stateEntry (s : State) (slot : Nat) : List Byte :=
  let u := Map.get {} s.health.table slot
  withCrc (leBytes 2 (unitOf slot) ++ leBytes 1 u.state ++ leBytes 1 u.cause ++ leBytes 1 (min 255 u.retireCount) ++
    leBytes 1 (u.spare.getD 0xFF) ++ [0, 0] ++ leBytes 4 u.histSeq)

/-- A 64-byte entry of the safety change log (R509). -/
def changeBytes (e : SafetyLog) : List Byte :=
  let b := leBytes 4 e.seq ++ leBytes 4 e.time.ns ++ leBytes 4 e.time.sec ++ leBytes 2 e.node ++ leBytes 1 e.port ++
    leBytes 1 e.action ++ leBytes 2 e.index ++ leBytes 1 e.sub ++ leBytes 1 e.session ++ padTo 8 e.old ++ padTo 8 e.new ++
    leBytes 4 e.ccv ++ padTo 12 e.user ++ leBytes 8 0
  b ++ leBytes 4 (safetyCrc b)

/-- A fuse as 0x12pp.03 shows it: class U8, node U16, port U8, TIME (DEDUCED, log entry 62). -/
def fuseBytes (f : Option Fuse) : List Byte :=
  match f with
  | some f => leBytes 1 f.cls ++ leBytes 2 f.node ++ leBytes 1 f.port ++ timeBytes f.time
  | none => []

/-- A copy of the boot record (R547). -/
def bootBytes (c : BootCopy) : List Byte :=
  withCrc (leBytes 1 c.slot ++ leBytes 1 (ofBool c.trial) ++ [0, 0] ++ leBytes 4 c.floor ++ padTo 32 c.pin ++ leBytes 8 c.osn ++
    leBytes 12 0)

/-- `n` elements of a list of records from place `i` on, each as its bytes. -/
def pageOf {α : Type} (f : α → List Byte) (l : List α) (i n : Nat) : List Byte := ((l.drop i).take n).flatMap f

/-! ### Registers -/

/-- The places of a field in its array that a core reaches at address `a`. -/
def Field.place (f : Field) (a core : Nat) : Option (Nat × Nat) :=
  if f.banked then (if a == f.base then some (core, 0) else none)
  else if a < f.base then none
  else
    let o := a - f.base
    let i := if f.s1 == 0 then 0 else o / f.s1
    let r := if f.s1 == 0 then o else o % f.s1
    let j := if f.s2 == 0 then 0 else r / f.s2
    if decide (i < f.n1 ∧ j < f.n2) && (if f.s2 == 0 then r == 0 else r % f.s2 == 0) then some (i, j) else none

/-- A field found at an address, with its place. -/
abbrev Cell := Field × Nat × Nat

/-- The fields of the register at an address, as a core reaches them. -/
def cellsAt (a core : Nat) : List Cell :=
  Reg.table.filterMap fun f => (f.place a core).map fun p => (f, p.1, p.2)

/-- Interrupt source number k of R555: its register of pending bits and that of enables, with the number of the block's
instance. -/
def irqSource (k : Nat) : Option (Nat × Nat) :=
  let at_ (b off : Nat) : Option (Nat × Nat) := some (b + off, b + off + 4)
  if k == 0 then at_ 0x40000000 8 else if k == 1 then at_ 0x40030000 8 else if k == 2 then at_ 0x40020000 8
  else if k == 3 then at_ 0x40040000 4 else if k == 4 then at_ 0x40050000 8
  else if 5 ≤ k ∧ k ≤ 20 then at_ (0x40060000 + 0x1000 * (k - 5)) 8
  else if 21 ≤ k ∧ k ≤ 28 then at_ (0x40070000 + 0x1000 * (k - 21)) 8
  else if 29 ≤ k ∧ k ≤ 32 then at_ (0x40080000 + 0x1000 * (k - 29)) 8
  else if 33 ≤ k ∧ k ≤ 40 then at_ (0x40090000 + 0x1000 * (k - 33)) 12
  else if k == 41 then at_ 0x400A0000 8 else if k == 42 then at_ 0x400B0000 8 else if k == 43 then at_ 0x400C0000 8
  else if k == 44 then at_ 0x400D0000 8 else if k == 45 then at_ 0x400E0000 8 else none

/-- The value of the stored fields of a register. -/
def State.storedWord (s : State) (a : Nat) : Nat :=
  (cellsAt a 0).foldl (fun n c => n + s.rd c.1 c.2.1 c.2.2 * 2 ^ c.1.lo) 0

/-- Source k is asserted: a bit of its IRQ register is set together with its enable (R555). -/
def State.irqAsserted (s : State) (k : Nat) : Bool :=
  match irqSource k with
  | some (a, en) => s.storedWord a &&& s.storedWord en != 0
  | none => false

/-- SUP_IRQ_CLAIMc: the lowest source asserted and routed to core c, or 0xFF (R555). -/
def State.irqClaim (s : State) (c : Nat) : Nat :=
  ((List.range 46).find? fun k => bitOf (s.rd Reg.SUP_IRQ_ROUTE_CORE_MASK k) c && s.irqAsserted k).getD 0xFF

/-- Operations in flight: those that the tiles run, and Cask writes of the journal (GRIST_RESOURCES). -/
def State.opsInFlight (s : State) : Nat :=
  let tiles := s.fabric.tiles.foldl (fun n p => n + (if p.2.cur.isSome then 1 else 0) + p.2.dmas.length) 0
  min 1024 (tiles + s.journal.writing.length)

/-- ALARM share of the own transmitted bits of the last 100 ms of link l, in 1/65,536 (R402). -/
def State.linkShare (s : State) (l : Nat) : Nat :=
  let p := shareOf (recent s.tb3 (s.txSt (8 + l)).window)
  if p.1 == 0 then 0 else min 65535 (p.2 * 65536 / p.1)

/-- Lease left of member i at the gate, µs (CG_LEFTi). -/
def State.leaseLeft (s : State) (i : Nat) : Nat :=
  match (s.gateMember i).expiry with
  | some x => (x - s.tb3) / 1000
  | none => 0

/-- The unit that HL_SEL selects. -/
def State.selUnit (s : State) : UnitSt := s.unit (s.rd Reg.HL_SEL_SLOT)

/-- A field whose value is kept elsewhere, as core `core` reads it; none where the register file holds it. -/
def State.liveField (s : State) (core : Nat) (f : Field) (i : Nat) : Option Nat :=
  match f.base, f.lo with
  | 0x40000010, 19 => some s.opsInFlight
  | 0x20300000, 5 => some (i / 16)
  | 0x20300000, 0 => some i
  | 0x40050004, 15 => some (ofBool (!s.hub.held))
  | 0x40050100, 0 => some (s.base i).count.toNat
  | 0x40050104, 0 => some (Map.get {} s.time.latches (core * 4 + i)).ns
  | 0x40050108, 0 => some ((Map.get {} s.time.latches (core * 4 + i)).sec % 2 ^ 32)
  | 0x4005010C, 0 => some ((Map.get {} s.time.latches (core * 4 + i)).sec / 2 ^ 32 % 2 ^ 16)
  | 0x40060020, 0 => some (s.canCount i)
  | 0x4006005C, 0 => some (s.canShare i)
  | 0x40070010, 0 => some ((Config.macAddress i).toNat / 2 ^ 16)
  | 0x40070014, 0 => some ((Config.macAddress i).toNat % 2 ^ 16)
  | 0x40080034, 0 => some (s.linkShare i)
  | 0x400B0014, 28 => some s.selUnit.state
  | 0x400B0014, 24 => some s.selUnit.cause
  | 0x400B0014, 16 => some (min 255 s.selUnit.retireCount)
  | 0x400B0014, 0 => some (s.unitCount (s.rd Reg.HL_SEL_SLOT))
  | 0x400B0024, 0 => some s.health.aseq
  | 0x400B0028, 0 => some s.health.overflow.length
  | 0x400B002C, 0 => some (s.health.evSeq % 8192)
  | 0x400B003C, 0 => some (s.health.rhead % 2 ^ 32)
  | 0x400C0108, 0 => some (s.leaseLeft i)
  | 0x400F0014, 0 => some s.trialLeft
  | 0x400F0200, 0 => some (s.irqClaim i)
  | 0x4003001C, 0 => some (s.progWord % 2 ^ 32)
  | 0x40030020, 0 => some (s.progWord / 2 ^ 32)
  | 0x40020028, 0 => some (Map.get 0 s.lauter.pool (s.rd Reg.LT_POOL_ADDR_ENTRY))
  | 0x40034000, 0 => some (wrapInt 16 (s.signal i (s.now 0) (s.trajOk (s.now 0))))
  | _, _ => none

/-- A field as core `core` reads it. Fields marked WO read 0. -/
def State.readCell (s : State) (core : Nat) (c : Cell) : Nat :=
  if c.1.acc == .wo then 0 else (s.liveField core c.1 c.2.1).getD (s.rd c.1 c.2.1 c.2.2)

/-- The word of a register as core `core` reads it; the transmit buffers of the CAN controllers stand from offset 0x400
of each block on (11_can_fd.md). -/
def State.readWord (s : State) (core a : Nat) : Nat :=
  if 0x40060000 ≤ a ∧ a < 0x40070000 ∧ 0x400 ≤ a % 0x1000 then
    (s.canSt ((a - 0x40060000) / 0x1000)).word ((a % 0x1000 - 0x400) / 96) ((a % 0x1000 - 0x400) % 96 / 4)
  else
    (cellsAt a core).foldl (fun n c => n + s.readCell core c * 2 ^ c.1.lo) 0

/-! ### Dictionary -/

/-- A value as the bits of a binary32. -/
def f32 (x : Rat) : Val := .num (toF32 x)

/-- A value as the bits of a binary64. -/
def f64 (x : Rat) : Val := .num (toF64 x)

/-- A TIME. -/
def timeVal (t : Nat) : Val := .bytes (timeBytes (stampOf t))

/-- A register of the live view as a value. -/
def State.wordVal (s : State) (a : Nat) : Val := .num (s.readWord 0 a)

/-- Objects of chapters 1 and 2. -/
def State.liveAgeing (s : State) (o : ObjDef) (k : Nat) : Option Val :=
  let u (f : Field) : Val := f32 (uq214 (s.rd f k))
  match o.base, o.sub with
  | 0xA800, 0x01 => some (f32 ((s.rd Reg.GAUGE_VCORE_NOW : Rat) / 4000))
  | 0xA800, 0x02 => some (f32 ((s.fabric.gauge.vcoreMin : Rat) / 4000))
  | 0xA800, 0x03 => some (.num (ofBool s.dip))
  | 0xA800, 0x04 => some (.num s.fabric.gauge.dips)
  | 0xA800, 0x05 => some (.num s.fabric.gauge.lastMs)
  | 0xA800, 0x06 => some (.num s.fabric.gauge.longest)
  | 0xA800, 0x07 => some (u Reg.GAUGE_HUB_MEASURED)
  | 0xA800, 0x08 => some (u Reg.GAUGE_HUB_FLOOR)
  | 0xA800, 0x09 => some (u Reg.GAUGE_HUB_DIP_DIP)
  | 0xA800, 0x0A => some (.num (s.rd Reg.GAUGE_STATUS_TEMP_HIGH))
  | 0xA801, _ => some (u Reg.GAUGE_SPEED_MEASURED)
  | 0xA802, _ => some (u Reg.GAUGE_SPEED_FLOOR)
  | 0xA803, _ => some (u Reg.GAUGE_DIPT_DIP)
  | 0xA804, _ => some (u Reg.GAUGE_DIPT_AGE)
  | 0xA805, _ => some (f32 ((s.rdS Reg.GAUGE_TEMP_TEMP k : Rat) / 8))
  | 0xA806, _ => some (.num (s.readWord 0 (0x40010280 + 4 * k) % 128))
  | 0xA807, _ => some (f32 (s.gtile k).aB)
  | 0xA808, _ => some (f32 (s.gtile k).aH)
  | 0xA809, 0x01 => some (f32 ((s.rd Reg.GAUGE_KILN_MARGIN : Rat) / 100))
  | 0xA809, 0x04 => some (f32 (s.tilesInService.foldl (fun a n => a + (352 / 10) * uq214 (s.floorOf n) * (92 / 100)) 0))
  | 0xA809, 0x05 => some (f32 (s.capacityIn (max 0 (20 - (s.fabric.gauge.nextDay : Rat) * 4 / 1461))))
  | 0xA809, 0x06 => some (f32 ((s.required : Rat) / 10))
  | 0xA809, 0x07 =>
    some (.num (if s.flag Reg.GAUGE_STATUS_KILN_URGENT then 2 else if s.flag Reg.GAUGE_STATUS_KILN_WARN then 1 else 0))
  | 0xA810, 0x01 => some (f32 ((s.rd Reg.GRIST_REQ0_REQ : Rat) / 10))
  | 0xA810, 0x02 => some (f32 ((s.rd Reg.GRIST_REQ1_REQ : Rat) / 10))
  | 0xA810, 0x03 => some (f32 ((s.rd Reg.GRIST_REQ2_REQ : Rat) / 10))
  | 0xA810, 0x04 => some (f32 ((s.rd Reg.GRIST_REQ3_REQ : Rat) / 10))
  | 0xA810, 0x05 => if s.gateRole then some (f32 20) else none
  | 0xA810, 0x06 => some (f32 ((s.rd Reg.GRIST_REQ1MIN_REQ : Rat) / 10))
  | 0xA810, 0x07 => some (.num (s.rd Reg.GRIST_STATUS_TABLE_GEN))
  | 0xA810, 0x08 => some (.num (s.rd Reg.GRIST_STATUS_SHED))
  | 0xA810, 0x0A => some (.num (s.rd Reg.GRIST_RESOURCES_CONTEXTS_USED))
  | 0xA810, 0x0B => some (.num (s.rd Reg.GRIST_RESOURCES_OPS_RESERVED))
  | 0xA810, 0x0C => some (.num (s.rd Reg.GRIST_STATUS_READY))
  | 0xA811, _ => some (f32 ((s.rd Reg.GRIST_GRANT_GRANT k : Rat) / 10))
  | 0xA812, _ => some (.num (Map.get 0 s.fabric.grist.refused (k + 1)))
  | _, _ => none

/-- Least DEADLINE − L_i over the enabled slots, in µs. -/
def State.worstMargin (s : State) : Val :=
  let ms : List Rat := s.runningSlots.map fun i =>
    ((s.slot i).cfg.deadline : Rat) - (s.rd Reg.LES_BOUND_BOUND i : Rat) / 100
  match ms with
  | [] => .num Config.noMargin.toNat
  | m :: r => f32 (r.foldl min m)

/-- 0x6000.04: 0 none, 1 active, 2 stale, 3 ended. -/
def State.trajState (s : State) : Nat :=
  if s.flag Reg.LE_STATUS_TRAJ_END then 3 else if s.flag Reg.LE_STATUS_TRAJ_STALE then 2
  else if s.flag Reg.LE_STATUS_TRAJ_ACTIVE then 1 else 0

/-- A page of a capture buffer: bytes beyond the entries taken read 0 (0x64cc.40 on). -/
def State.capPage (s : State) (c i : Nat) : List Byte :=
  let size := capSize (s.rd Reg.CAP_CFG_FORMAT c)
  let n := min (s.rd Reg.CAP_STATUS_TAKEN c) (s.rd Reg.CAP_CFG_COUNT c) * size - 4096 * i
  padTo 4096 (s.gristGet (s.rd Reg.CAP_BASE_BASE c * 64 + 4096 * i) (min 4096 n))

/-- Objects of chapters 7 to 9. -/
def State.liveLoop (s : State) (o : ObjDef) (i k : Nat) : Option Val :=
  match o.base, o.sub with
  | 0x6000, 0x01 => some (.num (s.rd Reg.LE_STATUS_ENABLED))
  | 0x6000, 0x02 => some (f32 (432000000 * uq214 (s.rd Reg.GAUGE_HUB_DIP_DIP)))
  | 0x6000, 0x03 => some s.worstMargin
  | 0x6000, 0x04 => some (.num s.trajState)
  | 0x6000, 0x09 => some (.num (s.rd Reg.LE_STATUS_DATAPATH_FAULT))
  | 0x6100, 0x11 => some (.bytes ((s.slot i).program.flatMap (leBytes 8)))
  | 0x6100, 0x20 => some (.num (s.rd Reg.LES_STAT_STATE i))
  | 0x6100, 0x21 => some (f32 ((s.rd Reg.LES_BOUND_BOUND i : Rat) / 100))
  | 0x6100, 0x22 => some (.num (s.rd Reg.LES_STAT_LATE i))
  | 0x6100, 0x23 => some (.num (s.rd Reg.LES_STAT_OVERRUN i))
  | 0x6100, 0x24 => some (.num (s.rd Reg.LES_STAT_SAT i))
  | 0x6100, 0x25 => some (f32 ((s.rd Reg.LES_BOUND_LAST i : Rat) / 100))
  | 0x6300, 0x10 => some (s.wordVal (0x4003801C + 32 * i))
  | 0x6400, 0x07 => some (s.wordVal (0x4003810C + 32 * i))
  | 0x6400, 0x08 => some (.bytes (timeBytes ⟨s.rd Reg.CAP_T0_S_S i, s.rd Reg.CAP_T0_NS_NS i⟩))
  | 0x6400, 0x40 => some (.bytes (s.capPage i k))
  | 0x6800, 0x01 => some (.num (s.rd Reg.LT_STATUS_ENABLED))
  | 0x6800, 0x02 => some (f32 s.ltLoad)
  | 0x6800, 0x03 => some (f32 s.ltCapacity)
  | 0x6800, 0x04 =>
    some (.num ((List.range 8192).filter fun e => !(s.scList.any fun c =>
      decide ((s.scPool c).1 ≤ e ∧ e < (s.scPool c).2))).length)
  | 0x6800, 0x05 => some (.num (s.rd Reg.LT_STATUS_DATAPATH_FAULT))
  | 0x6900, 0x20 => some (s.wordVal (0x40020128 + 64 * i))
  | 0x6900, 0x21 => some (.num (s.rd Reg.SC_EPOCH_EPOCH i))
  | 0x6900, 0x22 => some (.num (s.rd Reg.SC_INDEX_INDEX i))
  | 0x6900, 0x23 => some (f32 ((s.rdS Reg.SC_LAST_VALUE i : Rat) / 2147483648))
  | 0x6900, 0x24 => some (timeVal (s.sc i).lastTs)
  | 0x6900, 0x25 => some (f64 (s.sc i).tIn)
  | 0x6900, 0x26 => some (.num (s.sc i).frameErrors)
  | 0x6900, 0x27 => some (.num (s.sc i).swapReplaced)
  | 0x6A00, 0x11 => some (s.wordVal (0x4002100C + 64 * i + 16 * k))
  | 0x7000, 0x01 => some (.num (s.rd Reg.PF_STATUS_ENABLED))
  | 0x7000, 0x02 => some (.num (s.rd Reg.PF_STATUS_OSC_FAULT))
  | 0x7300, 0x01 => some (.num (wrapInt 64 (s.pfPos i)))
  | 0x7300, 0x02 => some (f64 (s.pf i).speed)
  | 0x7300, 0x03 => some (.bytes (timeBytes ⟨s.rd Reg.PFC_TS_S_S i, s.rd Reg.PFC_TS_NS_NS i⟩))
  | 0x7300, 0x04 => some (s.wordVal (0x4004013C + 128 * i))
  | 0x7300, 0x05 => some (s.wordVal (0x40040140 + 128 * i))
  | 0x7300, 0x06 => some (.num (s.rd Reg.PFC_INDEX_CORR_CORR i))
  | 0x7300, 0x07 => some (.num (s.pf i).illegal)
  | 0x7300, 0x08 => some (.num (s.pf i).glitch)
  | 0x7300, 0x09 => some (.num (s.pf i).serFaults)
  | 0x7300, 0x0A => some (.num (s.pf i).dirIndex)
  | 0x7300, 0x0B => some (s.wordVal (0x40042010 + 128 * i + 32 * k))
  | _, _ => none

/-- 0x7804.11: 0 while the instance is neither master nor slave, else the port state of IEEE 1588 (log entry 63). -/
def State.ptpPortState (s : State) (i : Nat) : Nat :=
  let p := s.ptpInst i
  if p.master then 6 else if p.active.isSome then 9 else 0

/-- Objects of chapters 10 and 11. -/
def State.liveTime (s : State) (o : ObjDef) (i : Nat) : Option Val :=
  let c := s.canSt i
  match o.base, o.sub with
  | 0x7800, 0x10 => some (.num (s.rd Reg.TB_STATUS_STATE i))
  | 0x7800, 0x12 => some (f64 ((s.rdS Reg.TB_RATE_RATE i : Rat) * 1000000000 / 4294967296))
  | 0x7800, 0x13 => some (timeVal (s.now i))
  | 0x7800, 0x14 => some (.num (s.rd Reg.TB_STATUS_STEP_GEN i))
  | 0x7800, 0x15 => some (.num (s.base i).steps)
  | 0x7804, 0x11 => some (.num (s.ptpPortState i))
  | 0x7810, 0x10 =>
    some (.bytes (timeBytes ⟨s.rd2 Reg.PPI_CAP_SEC_LO_SEC Reg.PPI_CAP_SEC_HI_SEC i, s.rd Reg.PPI_CAP_NS_NS i⟩))
  | 0x7810, 0x11 => some (.num (Map.get {} s.time.ppsIn i).qualified)
  | 0x7810, 0x12 => some (.num (Map.get {} s.time.ppsIn i).missed)
  | 0x8000, 0x01 => some (.num (sumBits 16 fun n => s.rd Reg.CAN_STATUS_STATE n == 1))
  | 0x8200, 0x01 => some (.num (s.rd Reg.CAN_STATUS_STATE i))
  | 0x8200, 0x02 => some (.num (s.rd Reg.CAN_STATUS_ERR_STATE i))
  | 0x8200, 0x03 => some (.num (s.rd Reg.CAN_ECNT_TEC i))
  | 0x8200, 0x04 => some (.num (s.rd Reg.CAN_ECNT_REC i))
  | 0x8200, 0x05 => some (.num (s.rd Reg.CAN_STATUS_ALONE i))
  | 0x8200, 0x06 => some (.num c.rxFrames)
  | 0x8200, 0x07 => some (.num c.rxLost)
  | 0x8200, 0x08 => some (.num c.txFrames)
  | 0x8200, 0x09 => some (.num c.busOffs)
  | 0x8200, 0x0A =>
    some (.bytes (([c.errBit, c.errStuff, c.errForm, c.errCrc, c.errAck] : List Nat).flatMap (leBytes 4)))
  | 0x8200, 0x0B => some (f32 ((s.canShare i : Rat) / 65536))
  | 0x8200, 0x0C => some (.num c.tapReplaced)
  | _, _ => none

/-- Objects of chapters 0 and 12 to 15. -/
def State.livePorts (s : State) (o : ObjDef) (i k : Nat) : Option Val :=
  match o.base, o.sub with
  | 0x1000, 0x05 => some (.num Config.serial.toNat)
  | 0x1000, 0x06 => some (.bytes Config.orderingCode)
  | 0x1001, 0x01 => some (.num s.role)
  | 0x1001, 0x04 => some (.num (s.rd Reg.SUP_STRAP_ROLE_FAULT))
  | 0x1100, 0x03 => some (.num s.zdp.subs.length)
  | 0x1100, 0x04 => some (.num s.zdp.stages.length)
  | 0x1200, 0x01 => some (.num (s.rd Reg.SUP_STRAP_PORT_PROF))
  | 0x1201, 0x01 => some (.num (s.classAt (i + 1)))
  | 0x1201, 0x02 => some (.num (profileClass (s.rd Reg.SUP_STRAP_PORT_PROF) (i + 1)))
  | 0x1201, 0x03 => some (.bytes (fuseBytes (Map.get none s.zdp.fuses (i + 1))))
  | 0x1201, 0x05 => some (.num (Map.get 0 s.zdp.requests (i + 1)))
  | 0x1201, 0x06 => some (.num (Map.get 0 s.zdp.refused (i + 1)))
  | 0x1201, 0x07 => some (.num (Map.get 0 s.zdp.dropped (i + 1)))
  | 0x8800, 0x04 => some (.num (Config.macAddress i).toNat)
  | 0x8800, 0x10 => some (.num (s.rd Reg.EM_STATUS_STATE i))
  | 0x8900, 0x10 => some (.num (s.rd Reg.XL_STATUS_STATE i))
  | 0x8900, 0x11 => some (.num (s.rd Reg.XL_STATUS_PEER_NODE i))
  | 0x8A00, 0x10 => some (.num (s.rd Reg.SU_STATUS_STATE i))
  | 0x8A00, 0x12 => some (.bytes (padTo 16 (s.objBytes Obj.SU_ERRORS i)))
  | 0x9600, 0x01 => some (.num s.jstate)
  | 0x9600, 0x02 =>
    some (.num (if s.flag Reg.JE_STATUS_SEQ_VALID then s.rd Reg.JE_STATUS_SEQ_NODE else 0xFFFF))
  | 0x9600, 0x06 => some (.num s.osnOldest)
  | 0x9600, 0x07 => some (.num (s.rd Reg.JE_HOLD_HELD))
  | 0x9010, 0x01 => some (.num (s.rd Reg.CG_CLAIM_CLAIM))
  | 0x9010, 0x02 => some (.num s.claimRank)
  | 0x9010, 0x03 => some (.num (s.rd Reg.CG_CLAIM_CLAIM / 2 ^ 16 % 4096))
  | 0x9010, 0x04 => some (.num (s.rd Reg.CG_CEILING_RANK_CEIL))
  | 0x9010, 0x05 => some (.num (s.rd Reg.CG_CEILING_HEALTH_CEIL))
  | 0x9010, 0x06 => some (.num (s.rd Reg.CG_CEILING_CAUSES))
  | 0x9010, 0x0E => some (.bytes ((List.range 3).flatMap fun m =>
      leBytes 4 (if s.ownIndex == some m then s.rd Reg.CG_CLAIM_CLAIM else (s.peer m).claim)))
  | 0x98F0, 0x01 => some (.bytes (pageOf changeBytes s.safety.log (64 * k) 64))
  | 0x98F0, 0x05 => some (.num s.safety.logSeq)
  | _, _ => none

/-- The 148 bytes of a histogram: 32 bins, TOTAL, SUM and MAX (0xB2hh.02, .03). -/
def State.histogram (s : State) (h : Nat) (bin tlo thi slo shi mx : Field) : List Byte :=
  ((List.range 32).flatMap fun b => leBytes 4 (s.rd bin h b)) ++ leBytes 8 (s.rd2 tlo thi h) ++ leBytes 8 (s.rd2 slo shi h) ++
    leBytes 4 (s.rd mx h)

/-- Records of the ALARM ring from slot `a` on. -/
def State.ringPage (s : State) (a n : Nat) : List Byte :=
  (List.range n).flatMap fun x => match Map.get none s.health.ring (a + x) with
    | some r => alarmBytes r
    | none => List.replicate 128 0

/-- The EVENT ring by places: the record with number q since reset stands at place (q − 1) mod 8,192. -/
def State.eventPage (s : State) (a n : Nat) : List Byte :=
  (List.range n).flatMap fun x =>
    match s.health.evRing.find? fun r => (r.seq + 8191) % 8192 == a + x with
    | some r => logBytes r
    | none => List.replicate 64 0

/-- The history ring by places: the record with number q since manufacture stands at place (q − 1) mod 768. -/
def State.historyPage (s : State) (a n : Nat) : List Byte :=
  (List.range n).flatMap fun x =>
    match s.health.history.find? fun r => (r.seq + 767) % 768 == a + x with
    | some r => histBytes r
    | none => List.replicate 64 0

/-- The newest record of a list, or no bytes. -/
def newest {α : Type} (f : α → List Byte) (l : List α) : Val :=
  match l.getLast? with
  | some r => .bytes (f r)
  | none => .bytes []

/-- Objects of chapters 16 and 17. -/
def State.liveHealth (s : State) (o : ObjDef) (i k : Nat) : Option Val :=
  match o.base, o.sub with
  | 0xA000, 0x01 => some (.num (s.rd Reg.HL_STATUS_RETIRED))
  | 0xA000, 0x02 => some (.num (s.rd Reg.HL_STATUS_SPARES_FREE))
  | 0xA000, 0x03 => some (newest histBytes s.health.history)
  | 0xA100, 0x01 => some (.bytes ((List.range 228).flatMap fun x => s.stateEntry (228 * k + x)))
  | 0xA110, 0x01 => some (.bytes (s.historyPage (64 * k) 64))
  | 0xB810, 0x01 =>
    some (match Map.get none s.health.ring ((s.health.rhead + 4095) % 4096) with
      | some r => .bytes (alarmBytes r)
      | none => .bytes [])
  | 0xB810, 0x02 => some (.num s.health.aseq)
  | 0xB810, 0x03 => some (.num (s.health.rhead % 2 ^ 32))
  | 0xB811, 0x01 => some (.bytes (s.ringPage (32 * k) 32))
  | 0xB820, 0x01 => some (newest logBytes s.health.evRing)
  | 0xB821, 0x01 => some (.bytes (s.eventPage (64 * k) 64))
  | 0xB828, 0x01 => some (newest logBytes s.health.lastTrace.toList)
  | 0xB830, 0x01 => some (.bytes ((Config.catalogue (k + 1) 0).take 4004))
  | 0xB831, 0x01 => some (.bytes ((Config.catalogue (k + 1) (i + 1)).take 4004))
  | 0xB000, 0x05 => some (.num (s.rd Reg.CNT_STATUS_SNAP_SEQ))
  | 0xB000, 0x06 =>
    some (.bytes (timeBytes ⟨s.rd2 Reg.CNT_SNAP_SEC_LO_SEC Reg.CNT_SNAP_SEC_HI_SEC, s.rd Reg.CNT_SNAP_NS_NS⟩))
  | 0xB000, 0x07 => some (.num (s.readWord 0 0x400A0004 / 4 % 16))
  | 0xB100, 0x01 => some (s.wordVal (0x400A1000 + 16 * i))
  | 0xB100, 0x02 => some (.num (s.rd2 Reg.CNT_EV_LO_COUNT Reg.CNT_EV_HI_COUNT i))
  | 0xB100, 0x03 => some (.num (s.rd2 Reg.CNT_SEV_LO_COUNT Reg.CNT_SEV_HI_COUNT i))
  | 0xB100, 0x04 =>
    some (.bytes (if i % 2 == 0 then
      leBytes 6 (s.rd2 Reg.CNT_SEV_LO_COUNT Reg.CNT_SEV_HI_COUNT i) ++
        leBytes 6 (s.rd2 Reg.CNT_SEV_LO_COUNT Reg.CNT_SEV_HI_COUNT (i + 1))
      else List.replicate 12 0))
  | 0xB200, 0x01 => some (s.wordVal (0x400A4000 + 256 * i))
  | 0xB200, 0x02 =>
    some (.bytes (s.histogram i Reg.CNT_H_BIN_COUNT Reg.CNT_H_TOTAL_LO_TOTAL Reg.CNT_H_TOTAL_HI_TOTAL
      Reg.CNT_H_SUM_LO_SUM Reg.CNT_H_SUM_HI_SUM Reg.CNT_H_MAX_MAX))
  | 0xB200, 0x03 =>
    some (.bytes (s.histogram i Reg.CNT_SH_BIN_COUNT Reg.CNT_SH_TOTAL_LO_TOTAL Reg.CNT_SH_TOTAL_HI_TOTAL
      Reg.CNT_SH_SUM_LO_SUM Reg.CNT_SH_SUM_HI_SUM Reg.CNT_SH_MAX_MAX))
  | _, _ => none

/-- A number in decimal digits, as text. -/
def decimalBytes (n : Nat) : List Byte := (Nat.toDigits 10 n).map fun c => BitVec.ofNat 8 c.toNat

/-- VERSION as "major.minor.patch". -/
def versionText (v : Nat) : List Byte :=
  decimalBytes (v / 2 ^ 24 % 256) ++ [0x2E] ++ decimalBytes (v / 2 ^ 16 % 256) ++ [0x2E] ++ decimalBytes (v % 2 ^ 16)

/-- 0xC000.05: 0 normal, 1 trial, 2 fallback, 3 recovery. -/
def State.bootState (s : State) : Nat :=
  if s.inRecovery then 3 else if s.flag Reg.SUP_BOOT_FALLBACK then 2 else if s.flag Reg.SUP_BOOT_TRIAL_ACTIVE then 1 else 0

/-- The state of the slot that is not booted, as 0xC020.04 numbers it. -/
def FlashJob.code : FlashJob → Nat
  | .idle => 0 | .erasing => 1 | .programming .. => 2 | .checking => 3

/-- Objects of chapter 18. -/
def State.liveBoot (s : State) (o : ObjDef) (k : Nat) : Option Val :=
  let img (f : ImageInfo → Nat) : Option Val := some (.num (match s.hub.image with | some i => f i | none => 0))
  match o.base, o.sub with
  | 0xC000, 0x01 => some (match s.hub.image with | some i => .bytes (versionText i.version) | none => .bytes [])
  | 0xC000, 0x02 => img (·.secVersion)
  | 0xC000, 0x03 => img (·.build)
  | 0xC000, 0x04 => some (.num (s.rd Reg.SUP_BOOT_SLOT))
  | 0xC000, 0x05 => some (.num s.bootState)
  | 0xC000, 0x06 => some (.num (s.rd Reg.SUP_RESET_CAUSE_CAUSE))
  | 0xC000, 0x07 => some (.num (s.rd Reg.SUP_BOOT_FAIL_A + 256 * s.rd Reg.SUP_BOOT_FAIL_B))
  | 0xC000, 0x08 => some (.num s.hub.startMs)
  | 0xC000, 0x09 => some (.bytes ((List.range 4).flatMap fun c => [Config.taskGroup c, 0, 0, 0]))
  | 0xC001, 0x01 =>
    some (.bytes (s.flashGet k 0 36 ++ leBytes 1 (Map.get Config.uncheckedSlot.toNat s.hub.slotCheck k)))
  | 0xC010, 0x02 => some (.num s.hub.nextRecord.slot)
  | 0xC010, 0x04 => some (.num s.hub.nextRecord.floor)
  | 0xC010, 0x05 => some (.bytes s.hub.nextRecord.pin)
  | 0xC020, 0x04 =>
    some (.num (s.hub.job.code * 2 ^ 28 + (s.hub.check.getD 0) % 16 * 2 ^ 24 + s.hub.programmed / 256 % 2 ^ 24))
  | _, _ => none

/-- The value of an entry, where it is not the dictionary's own. -/
def State.live (s : State) (o : ObjDef) (i k : Nat) : Option Val :=
  if 0xC000 ≤ o.base then s.liveBoot o k
  else if 0xB000 ≤ o.base then s.liveHealth o i k
  else if 0xA800 ≤ o.base then s.liveAgeing o k
  else if 0xA000 ≤ o.base then s.liveHealth o i k
  else if 0x8800 ≤ o.base then s.livePorts o i k
  else if 0x7800 ≤ o.base then s.liveTime o i
  else if 0x6000 ≤ o.base then s.liveLoop o i k
  else s.livePorts o i k

/-- The whole value of an entry, as a READ finds it (R378). -/
def State.readObj (s : State) (o : ObjDef) (i k : Nat) : Val := (s.live o i k).getD (s.obj o i k)

/-- The wire bytes of an entry found. -/
def State.readFound (s : State) (f : Found) : List Byte := Val.wire f.entry.ty (s.readObj f.entry f.i f.k)

end Sys2Proof.Machine
end

