-- ==== Sys2Proof/Machine/Writes.lean ====
section
/-! DEFINITION. What a WRITE and an ORDER meet once the gate's first checks are passed: the refusals that hang on their
content (OUT_OF_RANGE, INCONSISTENT, STATE, BUSY and SAFETY_LOCKED of R387), and what a WRITE does. -/

namespace Sys2Proof.Machine

/-! ### Consistency of settings -/

/-- The relations of R35 hold. -/
def State.phasesOk (s : State) : Bool :=
  let v (o : ObjDef) : Nat := s.objN o
  decide (v Obj.PHASE_EST_OFFSET + v Obj.PHASE_EST_DEADLINE ≤ v Obj.PHASE_PLAN_RELEASE) &&
  decide (v Obj.PHASE_PLAN_RELEASE + 150 ≤ v Obj.PHASE_PLAN_DEADLINE) &&
  decide (v Obj.PHASE_PLAN_DEADLINE + 20 ≤ v Obj.PHASE_VOTE_END) &&
  decide (v Obj.PHASE_VIS_RELEASE + v Obj.PHASE_VIS_DEADLINE ≤ 1000) &&
  decide (v Obj.PHASE_CA_RELEASE + v Obj.PHASE_CA_DEADLINE ≤ 10000)

/-- The references as R142 wants them: n_b at most 12, and a configured position reference, if any, that is not
bias-estimated. -/
def State.biasOk (s : State) : Bool :=
  let used (r : Nat) : Bool := s.objN (refObj Obj.PS_KIND r) != 0
  let bias (r : Nat) : Bool := s.objB (refObj Obj.PS_BIAS_EST r)
  let ps : List Nat := (List.range 24).filter used
  let hd : List Nat := ((List.range 30).drop 24).filter used
  decide (2 * (ps.filter bias).length + (hd.filter bias).length ≤ 12) && (ps.isEmpty || !ps.all bias)

/-- Intervals of 0x41tt.13 as start, extent and factor (R171). -/
def sectorList (b : List Byte) : List (Rat × Rat × Rat) :=
  (List.range (b.length / 12)).map fun i =>
    let a := ofF32 (leAt b (12 * i) 4)
    (a, Config.wrapTwoPi (ofF32 (leAt b (12 * i + 4) 4) - a), ofF32 (leAt b (12 * i + 8) 4))

/-- No two intervals overlap, and those of factor 0 take 330° at most (R171). -/
def sectorsOk (b : List Byte) : Bool :=
  let l := sectorList b
  let hits (p q : Rat × Rat × Rat) : Bool := decide (Config.wrapTwoPi (q.1 - p.1) < p.2.1)
  let apartFrom (i : Nat) : Bool := (List.range i).all fun j =>
    match l[i]?, l[j]? with
    | some p, some q => !hits p q && !hits q p
    | _, _ => true
  let forbid : Rat := (l.filter fun p => p.2.2 = 0).foldl (fun (a : Rat) p => a + p.2.1) 0
  (List.range l.length).all apartFrom && decide (forbid ≤ Config.pi * 330 / 180)

/-- A condition of R209 holds. -/
def State.planBad (s : State) : Bool :=
  let h := s.objN Obj.PLAN_HORIZON
  let ms := s.objN Obj.PHASE_PLAN_DEADLINE - s.objN Obj.PHASE_PLAN_RELEASE
  decide (h ≤ s.objN Obj.PLAN_BRANCH_STEP + 16) || decide (h ≤ s.objN Obj.PLAN_EXC_START) ||
  decide (ms ≤ 2 * s.objN Obj.PLAN_ROOT_WINDOW * s.objN Obj.PLAN_ITER)

/-- A binary32 below 0. -/
def negativeF32 (n : Nat) : Bool := decide (2 ^ 31 < n)

/-- Why the WRITE of a case is refused, or 0 (R211): `t` holds the new value. -/
def State.caseRefusal (t : State) (i : Nat) : Nat :=
  if bitOf (t.objN Obj.CASE_REF_MASK i) 30 || bitOf (t.objN Obj.CASE_REF_MASK i) 31 then 13
  else if (List.range 8).any fun k => negativeF32 (leAt (t.objBytes Obj.CASE_POWER_AFTER i) (4 * k) 4) then 13
  else if t.objB Obj.CASE_DECLARED i && t.objN Obj.CASE_THRUSTER_MASK i == 0 && t.objN Obj.CASE_BUS_MASK i == 0 &&
      t.objN Obj.CASE_REF_MASK i == 0 then 14
  else 0

/-- The base that a base follows. -/
def State.followed (s : State) (n : Nat) : Option Nat :=
  if s.objN Obj.TB_SOURCE n == 4 then some (s.objN Obj.TB_SOURCE_ARG n) else none

/-- The chain of bases followed from `n` comes back to `n`. -/
def State.followsBack (s : State) (n : Nat) : Nat → Nat → Bool
  | 0, _ => false
  | k + 1, m =>
    match s.followed m with
    | some p => p == n || s.followsBack n k p
    | none => false

/-- Why the WRITE of a time base is refused, or 0 (R331): `t` holds the new value. -/
def State.baseRefusal (s t : State) (sub n : Nat) : Nat :=
  if sub = 9 then
    let d := signed 64 (t.objN Obj.TB_FOLLOW_OFFSET n) - signed 64 (s.objN Obj.TB_FOLLOW_OFFSET n)
    if s.objN Obj.TB_SOURCE n == 4 && s.stepRefused n d then 15 else 0
  else if sub = 1 ∨ sub = 2 then
    if n = 3 ∧ t.objN Obj.TB_SOURCE n ≠ 0 then 14
    else if (t.followed n).any (fun m => decide (3 < m)) || t.followsBack n 4 n then 14 else 0
  else 0

/-- A controller has at most seven thrusters (0x8300). -/
def State.mapOk (s : State) : Bool :=
  (List.range 16).all fun c =>
    decide (((List.range 32).filter fun t => s.objN Obj.CAN_THRUSTER_MAP 0 t == c).length ≤ 7)

/-- The pulse of PPS output `o` ends before the next one begins (R343). -/
def State.pulseOk (s : State) (o : Nat) : Bool := decide (s.objN Obj.PPO_WIDTH_US o < 1000000)

/-! ### Refusal of a WRITE by its content -/

/-- The Lauter channel keeps its configuration: it is not DISABLED or OFFLINE (R287). -/
def State.scFixed (s : State) (c : Nat) : Bool := !(s.scState c == 0 || s.scState c == 4)

/-- The encoder channel keeps its configuration (R318). -/
def State.pfFixed (s : State) (c : Nat) : Bool := !(s.pfState c == 0 || s.pfState c == 2)

/-- A bank of SCc, or an entry of it, is refused to writes (R272). -/
def State.bankRefused (s : State) (c bank len : Nat) : Bool :=
  (List.range (len / 4)).any fun k => s.poolRefused (s.bankStart c bank + k)

/-- Reason with which a WRITE of a value in range is refused for what it says or for the state it meets, or 0. -/
def State.writeRefusal (s : State) (f : Found) (b : List Byte) : Nat :=
  let o := f.entry
  let t := s.setEntry f b
  let bad (x : Bool) : Nat := if x then 14 else 0
  match o.base with
  | 0x3100 | 0x3120 => bad ((o.sub == 2 || o.sub == 8) && !t.biasOk)
  | 0x4100 => bad (o.sub == 0x13 && !sectorsOk b)
  | 0x5000 => bad ((o.sub == 0x09 || o.sub == 0x0A || o.sub == 0x16 || o.sub == 0x24) && t.planBad)
  | 0x5200 => t.caseRefusal f.i
  | 0x6900 => bad (if o.sub ≤ 0x0B then s.scFixed f.i else s.gdRefused f.i (o.sub - 0x0C))
  | 0x6B00 => bad (s.bankRefused f.i (o.sub - 1) b.length)
  | 0x7100 => bad (o.sub != 0x1B && o.sub != 0x0D && s.pfFixed f.i)
  | 0x7800 => s.baseRefusal t o.sub f.i
  | 0x7818 => bad (o.sub == 3 && !t.pulseOk f.i)
  | 0x8300 => bad !t.mapOk
  | 0x9600 => bad (o.sub == 0x0D && s.jstate != 6)
  | 0xA809 => bad (decide (t.objV Obj.KILN_KILN_WARN_YEARS ≤ t.objV Obj.KILN_KILN_URGENT_YEARS))
  | 0xA810 => if s.gateRole then 13 else 0
  | 0xA850 => bad !t.phasesOk
  | 0xB000 => if o.sub == 4 && decide (1 ≤ leNat b ∧ leNat b ≤ 9) then 13 else 0
  | 0xC020 =>
    match o.sub with
    | 1 => (s.flashChunk (leAt b 0 4) (b.drop 4)).1
    | 2 => s.flashErase.1
    | 3 => s.flashCheck.1
    | _ => s.rebootRefusal
  | _ => 0

/-- What the block notes of a WRITE that its hardware refuses (R272, R287, R318). -/
def State.noteRefusal (s : State) (f : Found) : State :=
  let o := f.entry
  match o.base with
  | 0x6900 => if o.sub ≤ 0x0B then s.raise Reg.SC_STATUS_CFG_IGNORED f.i else s.raise Reg.LT_STATUS_POOL_REFUSED
  | 0x6B00 => s.raise Reg.LT_STATUS_POOL_REFUSED
  | 0x7100 => s.raise Reg.PFC_STATUS_CFG_IGNORED f.i
  | _ => s

/-! ### What a WRITE does -/

/-- FOLLOW_OFFSET as a step of the following base (R331). -/
def State.writeFollowOffset (s : State) (f : Found) (b : List Byte) : State :=
  let d := signed 64 (leNat b) - signed 64 (s.objN Obj.TB_FOLLOW_OFFSET f.i)
  let s := s.setEntry f b
  if s.objN Obj.TB_SOURCE f.i == 4 then s.applyStep f.i d else s

/-- A WRITE that has passed every check takes effect (R377, R378). -/
def State.applyWrite (s : State) (f : Found) (b : List Byte) : State :=
  let o := f.entry
  match o.base, o.sub with
  | 0xC020, 1 => (s.flashChunk (leAt b 0 4) (b.drop 4)).2
  | 0xC020, 2 => s.flashErase.2
  | 0xC020, 3 => s.flashCheck.2
  | 0xC020, 5 => s.hubReset false (some 4)
  | 0x7800, 9 => s.writeFollowOffset f b
  | _, _ => (s.setEntry f b).settingHook o f.i f.k

/-- A dip ends: the sparge, and what the WRITEs held in the dip do beside their entry (R396, R429). -/
def State.spargeWrites (s : State) : State :=
  let ws : List Found := s.journal.held.filterMap fun e =>
    match e with
    | .write r _ => s.find r.index r.sub
    | _ => none
  ws.foldl (fun t f => t.settingHook f.entry f.i f.k) s.sparge

/-- DIP_END: every sense point has read 0.69 V or more for 1 ms; the sparge starts (R62, R429). -/
def execDipEnd (vcore : BitVec 16) (s : State) : Host.Outcome State Fault Refusal :=
  if vcore.toNat < vReturn then .next s else
  let s := s.vcoreReading vcore.toNat
  if !s.dip then .next s else
  let ms := (s.tb3 - s.fabric.gauge.dipAt) / 1000000
  let counts := !s.fabric.gauge.startUp
  let s := (s.wr Reg.GAUGE_STATUS_DIP 0).wr Reg.GAUGE_STATUS_DIP_LONG 0
  let s := if counts then
      (s.wr Reg.GAUGE_DIP_LAST_MS (min ms 0xFFFF)).setGauge fun g =>
        { g with lastMs := ms, longest := max g.longest ms } else s
  let s := (s.setGauge fun g => { g with startUp := false }).raise Reg.GRIST_IRQ_DIP_EXIT
  .next s.showTable.spargeWrites.holdIfExhausted

/-! ### Refusal of an ORDER by its content -/

/-- Limits of thruster `t` as the dictionary holds them, at 0x62tt or 0x92tt. -/
def State.limitsIn (s : State) (gate : Bool) (t : Nat) : LimitSet :=
  let at_ (a b : ObjDef) : Int := q15Int (s.objN (if gate then b else a) t)
  let b := s.objBytes (if gate then Obj.GLIM_SECTORS else Obj.LIM_SECTORS) t
  let sec : List (Int × Int) := (List.range (b.length / 4)).map fun i => (q15Int (leAt b (4 * i) 2), q15Int (leAt b (4 * i + 2) 2))
  { lo := [at_ Obj.LIM_MIN0 Obj.GLIM_MIN0, at_ Obj.LIM_MIN1 Obj.GLIM_MIN1, at_ Obj.LIM_MIN2 Obj.GLIM_MIN2,
      at_ Obj.LIM_MIN3 Obj.GLIM_MIN3]
    hi := [at_ Obj.LIM_MAX0 Obj.GLIM_MAX0, at_ Obj.LIM_MAX1 Obj.GLIM_MAX1, at_ Obj.LIM_MAX2 Obj.GLIM_MAX2,
      at_ Obj.LIM_MAX3 Obj.GLIM_MAX3]
    rate := []
    wrap := false
    sectors := sec.filter fun p => p.1 != p.2 }

/-- Class allowed for a port by R383. -/
def fuseClass (p cls : Nat) : Bool :=
  if p ≤ 8 then cls != 3 && decide (cls ≤ 5)
  else if p ≤ 24 then cls == 0 || cls == 2 || cls == 4 || cls == 5
  else if p ≤ 32 then cls == 0 || cls == 2 || cls == 4
  else false

/-- Class of a port under the strap profile (R381, 0x12pp.02). -/
def State.strapClass (s : State) (p : Nat) : Nat := profileClass (s.rd Reg.SUP_STRAP_PORT_PROF) p

/-- A safety session of kind COMMISSIONING or RECOVERY is open from a port and SRC (R383, R503). -/
def State.safetyWork (s : State) (port src : Nat) : Bool :=
  match s.safety.session with
  | some x => x.port == port && x.src == src && (x.kind == 1 || x.kind == 3)
  | none => false

/-- Reason with which a fuse order is refused, or 0 (R383), in the order of R387. -/
def State.fuseRefusal (s : State) (port src p cls : Nat) : Nat :=
  if (cls == 5 || s.strapClass p == 5) && !s.safetyWork port src then 12
  else if 5 < cls then 13
  else if (Map.get none s.zdp.fuses p).isSome || p = 0 || !fuseClass p cls then 14
  else if 4 < s.claimRank then 15 else 0

/-- FUSE_ORDER: the order's application programs the fuse with the class, the orderer and the TB0 time; the class in
force changes at the next reset (R383). -/
def execFuseOrder (p : PortNo) (src : BitVec 16) (target : PortNo) (cls : BitVec 8) (s : State) :
    Host.Outcome State Fault Refusal :=
  let why := s.fuseRefusal p.val src.toNat target.val cls.toNat
  if why ≠ 0 then .next (s.answer why) else
  let fuse : Fuse := { cls := cls.toNat, node := src.toNat, port := p.val, time := s.stamp }
  .next (({ s with zdp := { s.zdp with fuses := Map.put s.zdp.fuses target.val (some fuse) } } : State).answer 0)

/-- A command run on a trial state, where its operand is in range. -/
def trial {n : Nat} (s : State) (i : Nat) (f : Fin n → State → Host.Outcome State Fault Refusal) : State :=
  if h : i < n then nextOr s (f ⟨i, h⟩ s) else s

/-- A SERVICE order: 1 TEST, 2 RETURN. -/
def service {n : Nat} (v : Nat) (test back : Fin n → State → Host.Outcome State Fault Refusal) (i : Fin n) (s : State) :
    Host.Outcome State Fault Refusal := if v = 1 then test i s else back i s

/-- The state that the application of an order would leave at this moment, its answer with it, by the row of the
entry: what the check at entry foresees (R387, R416). -/
def State.foresee (s : State) (o : OrderRec) (f : Found) : State :=
  let v := leNat o.value
  let b := o.value
  let on := v != 0
  let s := s.answer 0
  let i := f.i
  match f.entry.base, f.entry.sub with
  | 0x3000, 0x13 => nextOr s (execDatumOrder (BitVec.ofNat 64 (leAt b 0 8)) (BitVec.ofNat 64 (leAt b 8 8)) s)
  | 0x3100, 0x0E => trial s i fun q => execLayDown q (BitVec.ofNat 8 v)
  | 0x6100, 0x01 => trial s i fun q => execSlotEnable q on
  | 0x6100, 0x02 => trial s i execSlotCommit
  | 0x6100, 0x0C => trial s i (service v execSlotServiceTest execSlotServiceReturn)
  | 0x6200, _ => if limitsOk ((s.setEntry f b).limitsIn false i) then s else s.answer 14
  | 0x6300, 0x0E => trial s i execGeneratorStart
  | 0x6900, 0x01 => trial s i fun q => execLtChannelEnable q on
  | 0x6900, 0x0F => trial s i (service v execLtServiceTest execLtServiceReturn)
  | 0x7100, 0x01 => trial s i fun q => execPfEnable q on
  | 0x7100, 0x03 => trial s i (service v execPfServiceTest execPfServiceReturn)
  | 0x7800, 0x17 => nextOr s (execResync s)
  | 0x8100, 0x01 => trial s i fun q => if on then execCanEnable q 0 true else execCanDisable q true
  | 0x8100, 0x0E => trial s i (service v (fun q => execCanServiceTest q true) (fun q => execCanServiceReturn q true))
  | 0x8100, 0x0F => trial s i fun q => execCanRecover q true
  | 0x8800, 0x01 => trial s (1 + i) fun (q : PortNo) => execPortEnable q on true
  | 0x8800, 0x09 => trial s (1 + i) fun (q : PortNo) => service v execPortServiceTest execPortServiceReturn q
  | 0x8900, 0x01 => trial s (33 + i) fun (q : PortNo) => execPortEnable q on true
  | 0x8900, 0x02 => trial s (33 + i) fun (q : PortNo) => service v execPortServiceTest execPortServiceReturn q
  | 0x8A00, 0x01 => trial s (25 + i) fun (q : PortNo) => execPortEnable q on true
  | 0x8A00, 0x07 => trial s (25 + i) fun (q : PortNo) => service v execPortServiceTest execPortServiceReturn q
  | 0x1201, 0x04 => s.answer (s.fuseRefusal o.port (orderSrc o) (1 + i) v)
  | 0x9200, _ => if limitsOk ((s.setEntry f b).limitsIn true i) then s else s.answer 14
  | 0x9880, 0x01 => nextOr s (execSessionOpen o s)
  | 0x9880, 0x03 => nextOr s (execSessionClose o s)
  | 0x9880, 0x04 => nextOr s (execSeal o s)
  | 0x9880, 0x05 => nextOr s (execPassword o s)
  | 0x9880, 0x06 => nextOr s (execTestDemand o s)
  | 0x9880, 0x0A => nextOr s (execPasswordReset o s)
  | 0xA020, 0x01 => s.answer (if leAt b 3 1 = 0 then s.healthRefusal (leAt b 0 2) (leAt b 2 1) else 13)
  | 0xC010, 0x01 => s.answer (s.activateRefusal (leAt b 0 1) (leAt b 1 1))
  | 0xC010, 0x04 => s.answer (s.floorRefusal v)
  | 0xC010, 0x05 => s.answer (s.pinRefusal b)
  | _, _ => if f.entry.safetyParam then s.answer ((s.paramRefusal o).getD 0) else s

end Sys2Proof.Machine
end

