-- ==== Sys2Proof/Machine/Zdp.lean ====
section
/-! DEFINITION. The dictionary gate (12_dictionary_ports.md, R375 to R396): the rules by which a message is dropped, the
check order, the requests, subscriptions, BULK and the sampled NOTIFYs. -/

namespace Sys2Proof.Machine

/-! ### Messages (R386) -/

/-- A message's header and body as bytes. -/
def messageBytes (m : ZdpMsg) : List Byte :=
  [m.version, BitVec.ofNat 8 (16 * m.kindHigh.toNat + m.kind.toNat)] ++ leBytes 2 m.flags.toNat ++ leBytes 2 m.src.toNat ++
  leBytes 2 m.dst.toNat ++ leBytes 4 m.tag.toNat ++ leBytes 2 m.index.toNat ++ [m.sub, m.status] ++ leBytes 2 m.len.toNat ++
  leBytes 2 m.seg.toNat ++ leBytes 4 m.rsv.toNat ++ m.body

/-- Whom DST names: 1 this device, 2 this member's set, 3 any device, 0 none of them. -/
def State.dstKind (s : State) (m : ZdpMsg) : Nat :=
  let d := m.dst.toNat
  let low := d % 16384
  match d / 16384 with
  | 0 => if !s.nodeValid || low == s.node then 1 else 0
  | 1 => if s.inSet && low == s.rd Reg.CG_CFG_SET_ID then 2 else 0
  | 3 => if low == 16383 then 3 else 0
  | _ => 0

/-- REPLY is set. -/
def isReply (m : ZdpMsg) : Bool := m.kindHigh == 8

/-- The form of the message is right: version, reserved bits, KIND, lengths, REPLY and CRC. -/
def messageOk (m : ZdpMsg) : Bool :=
  m.version == 1 && decide (m.kindHigh.toNat % 8 = 0) && decide (1 ≤ m.kind.toNat ∧ m.kind.toNat ≤ 6) &&
  decide (m.flags.toNat < 64) && m.rsv == 0 && decide (m.len.toNat ≤ 1024) && m.len.toNat == m.body.length &&
  (isReply m == (m.kind == 5)) && crcOk (messageBytes m) m.crc

/-- A message is dropped without reply (R386). -/
def State.zdpRefuses (s : State) (p : Nat) (m : ZdpMsg) : Bool :=
  !messageOk m || s.dstKind m == 0 || s.classAt p == 0

/-- ZDP is answered at port `p`: the running image has entered, or the boot ROM stands in recovery and the port is the
JTAG port or an EM0 of class ENGINEERING (R552). -/
def State.zdpServed (s : State) (p : Nat) : Bool :=
  if s.inRecovery then p == 37 || (p == 1 && s.classAt 1 == 2) else s.hub.entered

/-! ### Entries as a request finds them -/

/-- The index is present to a request; in recovery the boot ROM provides a few only (R379, R552). -/
def State.present (s : State) (index : Nat) : Bool :=
  if s.inRecovery then
    index == 0x1000 || index == 0x1001 || index == 0xC000 || index == 0xC020 ||
    (s.hub.bankRecovery && (index == 0xA000 || index == 0xA100 || index == 0xA020))
  else s.hasIndex index

/-- Subindex 0x00 of an index: the highest subindex in use, read by every class that may read any of them (R375). -/
def State.countEntry (s : State) (index : Nat) : Found :=
  let es : List ObjDef := s.entries.filter (·.hasIndex index)
  let acc : List Nat := ([1, 2, 3, 4, 5, 6] : List Nat).map fun c => ofBool (es.any fun o => s.mayRead o c)
  let o : ObjDef := ⟨"", index, 1, 0, 1, .u8, acc, s.topSub index, [], "", false, none, none, (0, 0, 1), ""⟩
  ⟨o, 0, 0, false, false⟩

/-- The entry that a request names. -/
def State.lookup (s : State) (index sub : Nat) : Option Found :=
  if sub = 0 then some (s.countEntry index) else s.find index sub

/-- What a request asks of its entry: to read it, to write it, or to order it. -/
inductive Use
  | read | write | order
  deriving DecidableEq, Repr

/-- The first checks of R387, NO_OBJECT to USE_WRITE: the entry, or the reason code. A SAFETY port answers READ and
SUBSCRIBE only (R397). -/
def State.firstChecks (s : State) (p : Nat) (m : ZdpMsg) (use : Use) : Except Nat Found :=
  let index := m.index.toNat
  let cls := s.classAt p
  if !s.present index then .error 1 else
  match s.lookup index m.sub.toNat with
  | none => .error 2
  | some f =>
    if s.roleBars index then .error 10
    else if cls == 5 && m.kind != 1 && m.kind != 4 then .error 3
    else if !(if use = .read then s.mayRead f.entry cls else s.maySet f.entry cls) then .error 3
    else if use = .write ∧ f.entry.isAction then .error 4
    else if use = .order ∧ !f.entry.isAction then .error 5
    else .ok f

/-! ### Replies -/

/-- A reply to a request, at once (R389, R390). -/
def State.reply (s : State) (p : Nat) (m : ZdpMsg) (status : Nat) (body : List Byte) (flags seg : Nat := 0) : State :=
  (s.latency 3 (some p) s.tb3 s.tb3).sendReply
    { port := p, dst := m.src.toNat, kind := m.kind.toNat, flags, tag := m.tag.toNat, index := m.index.toNat,
      sub := m.sub.toNat, status, seg, body }

/-- Where the answer to a request goes. -/
def State.replyTo (s : State) (p : Nat) (m : ZdpMsg) (identity : Nat) : ReplyTo :=
  { kind := m.kind.toNat, port := p, src := m.src.toNat, tag := m.tag.toNat, index := m.index.toNat, sub := m.sub.toNat,
    identity, duplicate := false, since := s.tb3 }

/-! ### READ (R389) -/

/-- Smallest and largest number of a type. -/
def ObjTy.span : ObjTy → Rat × Rat
  | .bool => (0, 1)
  | .u8 => (0, 255)
  | .u16 => (0, 65535)
  | .u32 => (0, 4294967295)
  | .u64 => (0, 18446744073709551615)
  | .i8 => (-128, 127)
  | .i16 | .q15 => (-32768, 32767)
  | .i32 => (-2147483648, 2147483647)
  | .i64 => (-9223372036854775808, 9223372036854775807)
  | .f32 => (ofF32 0xFF7FFFFF, ofF32 0x7F7FFFFF)
  | .f64 => (ofF64 0xFFEFFFFFFFFFFFFF, ofF64 0x7FEFFFFFFFFFFFFF)
  | _ => (0, 0)

/-- The binary64 at or below a number. -/
def f64Below (x : Rat) : Nat :=
  let n := toF64 x
  if ofF64 n ≤ x then n else if n < 2 ^ 63 then n - 1 else n + 1

/-- The binary64 at or above a number. -/
def f64Above (x : Rat) : Nat :=
  let n := toF64 x
  if x ≤ ofF64 n then n else if n < 2 ^ 63 then n + 1 else n - 1

/-- Largest length of a value, in bytes. -/
def ObjDef.maxLen (o : ObjDef) : Nat :=
  match o.ty with
  | .str => min 255 (4 * o.len.2.1)
  | .blob => o.len.2.1
  | t => t.size

/-- The 84-byte descriptor (R389, R595). -/
def State.descriptor (s : State) (f : Found) : List Byte :=
  let o := f.entry
  let flags := ofBool o.persist + 2 * ofBool o.isAction + 4 * ofBool f.setOrder + 8 * ofBool f.deviceOrder
  let rights : List Byte := ([1, 2, 3, 4, 5, 6] : List Nat).map fun c => BitVec.ofNat 8 (s.right o c)
  let num := !o.ty.asBytes
  let low : Rat := o.lo.getD o.ty.span.1
  let high : Rat := o.hi.getD o.ty.span.2
  [BitVec.ofNat 8 o.ty.code, BitVec.ofNat 8 flags] ++ rights ++ leBytes 2 o.maxLen ++ [0, 0] ++
  leBytes 8 (if num then f64Below low else 0) ++ leBytes 8 (if num then f64Above high else 0) ++
  leBytes 8 (if num then toF64 (o.ty.value (o.default f.i).toNat) else 0) ++ padTo 16 (textBytes o.unit) ++
  padTo 32 (textBytes o.name)

/-- A READ: LEN must be 0; a READ of the challenge draws a new one (R389, R504). -/
def State.readRequest (s : State) (p : Nat) (m : ZdpMsg) : State :=
  match s.firstChecks p m .read with
  | .error e => s.reply p m e []
  | .ok f =>
    if m.len ≠ 0 then s.reply p m 6 []
    else if m.flags.toNat % 2 = 1 then s.reply p m 0 (s.descriptor f)
    else
      let s := if m.index = 0x9880 ∧ m.sub = 2 then s.newChallenge else s
      let v := s.readFound f
      if 1024 < v.length then s.reply p m 7 [] else s.reply p m 0 v

/-! ### WRITE (R377, R390, R396) -/

/-- The content checks of a WRITE, in order: OUT_OF_RANGE, then those of `State.writeRefusal`. -/
def State.writeReason (s : State) (f : Found) (b : List Byte) : Nat :=
  if !f.entry.rangeOk (Val.ofWire f.entry.ty b) then 13 else s.writeRefusal f b

/-- A value written: refused, held in a dip when it is persistent, or applied and answered. -/
def State.writeValue (s : State) (p : Nat) (m : ZdpMsg) (f : Found) (b : List Byte) (seg : Nat) : State :=
  if !f.entry.typeOk b then s.reply p m 6 [] 0 seg else
  let why := s.writeReason f b
  if why ≠ 0 then (if why = 14 then s.noteRefusal f else s).reply p m why [] 0 seg
  else if f.entry.persist && s.dip then s.hold (.write (s.replyTo p m 0) (Val.ofWire f.entry.ty b))
  else (s.applyWrite f b).reply p m 0 [] 0 seg

/-- A WRITE. -/
def State.writeRequest (s : State) (p : Nat) (m : ZdpMsg) : State :=
  match s.firstChecks p m .write with
  | .error e => s.reply p m e []
  | .ok f => s.writeValue p m f m.body 0

/-! ### ORDER (R391, R404, R412, R418) -/

/-- The scope of an order is wrong (R380). -/
def State.scopeBad (s : State) (m : ZdpMsg) (f : Found) : Bool :=
  if s.control then (if s.dstKind m == 2 then !f.setOrder else !f.deviceOrder) else s.dstKind m == 2

/-- Orders are not taken: replay runs, or the member is FETCHING (R424, R425). -/
def State.notReady (s : State) : Bool := !s.hub.replayed || (s.inSet && s.jstate == 1)

/-- The order that a request carries, as it is journalled. -/
def State.orderOf (s : State) (p : Nat) (m : ZdpMsg) : OrderRec :=
  { osn := 0, identity := leAt m.body 0 8, index := m.index.toNat, sub := m.sub.toNat, value := m.body.drop 8
    device := s.dstKind m != 2, solo := false, target := m.dst.toNat % 16384, entry := s.node, port := p
    cls := s.classAt p, epoch := 0, time := s.stamp }

/-- Reason codes of an order's content and of the state it meets: range, identity, journal state, and what its
application would find now (R387, R404, R416, R431, R432). 0 stands for none. -/
def State.orderReason (s : State) (o : OrderRec) (src : Nat) (f : Found) : Nat :=
  let rs : List Nat :=
    [if !f.entry.rangeOk (Val.ofWire f.entry.ty o.value) then 13 else 0,
     if o.identity / 2 ^ 50 != src || o.identity % 2 ^ 50 == 0 then 14 else 0,
     if s.jstate == 6 || s.jstate == 7 then 15 else 0, (s.foresee o f).outcome]
  (rs.filter (· != 0)).foldl (fun a r => if a = 0 then r else min a r) 0

/-- A refused opening of a session uses up its challenge and is logged (R504, R509). -/
def State.afterRefusal (s : State) (o : OrderRec) (f : Found) (why : Nat) : State :=
  let t := s.foresee o f
  if o.index = 0x9880 ∧ o.sub = 1 ∧ t.outcome = why then { t with outcome := s.outcome } else s

/-- An order that has passed the checks up to NOT_READY. -/
def State.orderContent (s : State) (m : ZdpMsg) (f : Found) (o : OrderRec) (r : ReplyTo) : State :=
  let why := s.orderReason o m.src.toNat f
  if why ≠ 0 then (s.afterRefusal o f why).orderReply r why 0 false else s.acceptOrder o (some r)

/-- The health order in the recovery of R516: carried out by the boot ROM, and not journalled. -/
def State.recoveryOrder (s : State) (o : OrderRec) (r : ReplyTo) : State :=
  let t := (s.foresee o ⟨Obj.HL_HEALTH_ORDER, 0, 0, false, true⟩)
  if t.outcome ≠ 0 then s.orderReply r t.outcome 0 false
  else
    let u := s.recoveryHealth ((slotOf (leAt o.value 0 2)).getD 0) (leAt o.value 2 1)
    u.orderReply r u.outcome 0 false

/-- An ORDER. A request with SRC 0xFFFF is not answered, and its origin can never match (R386, R404). -/
def State.orderRequest (s : State) (p : Nat) (m : ZdpMsg) : State :=
  if m.src = 0xFFFF then s else
  let o := s.orderOf p m
  let r := s.replyTo p m (if m.body.length < 8 then 0 else o.identity)
  match s.firstChecks p m .order with
  | .error e => s.orderReply r e 0 false
  | .ok f =>
    if m.body.length < 8 ∨ !f.entry.typeOk o.value then s.orderReply r 6 0 false
    else if 1016 < o.value.length then s.orderReply r 7 0 false
    else match s.duplicateCheck r with
      | some t => t
      | none =>
        if !s.nodeValid then s.orderReply r 8 0 false
        else if s.scopeBad m f then s.orderReply r 9 0 false
        else if s.inRecovery && s.hub.bankRecovery && o.index == 0xA020 then s.recoveryOrder o r
        else if s.notReady then s.orderReply r 11 0 false
        else s.orderContent m f o r

/-! ### SUBSCRIBE and NOTIFY (R392, R393, R526 to R530) -/

/-- The subscription of a port, SRC and TAG. -/
def Sub.matches (u : Sub) (p : Nat) (m : ZdpMsg) : Bool :=
  u.port == p && u.src == m.src.toNat && u.tag == m.tag.toNat

/-- Subscriptions changed. -/
def State.setSubs (s : State) (f : List Sub → List Sub) : State := { s with zdp := { s.zdp with subs := f s.zdp.subs } }

/-- One subscription changed. -/
def State.setSub (s : State) (id : Nat) (f : Sub → Sub) : State :=
  s.setSubs fun l => l.map fun u => if u.id == id then f u else u

/-- A subscription renewed with the values of a request. -/
def State.renewed (s : State) (u : Sub) (m : ZdpMsg) : Sub :=
  { u with index := m.index.toNat, sub := m.sub.toNat, periodMs := leAt m.body 0 4, minMs := leAt m.body 4 2
           lifeS := leAt m.body 6 2, renewed := s.tb3 }

/-- A new subscription; the ALARM stream starts with the next record that the ring takes. -/
def State.newSub (s : State) (p : Nat) (m : ZdpMsg) : Sub :=
  s.renewed
    { id := s.zdp.nextSub, port := p, src := m.src.toNat, tag := m.tag.toNat, index := 0, sub := 0, periodMs := 0, minMs := 0
      lifeS := 0, renewed := 0, nseq := 0, waiting := none, lastLeft := none, next := s.health.rhead, evQueue := [], trQueue := []
      trDropped := 0, trFirst := ⟨0, 0⟩, trLast := ⟨0, 0⟩, factor := 1, onTime := 0, late := false } m

/-- A SUBSCRIBE creates, renews or ends a subscription. -/
def State.subscribeRequest (s : State) (p : Nat) (m : ZdpMsg) : State :=
  match s.firstChecks p m .read with
  | .error e => s.reply p m e []
  | .ok f =>
    let life := leAt m.body 6 2
    if m.len ≠ 12 ∨ leAt m.body 8 4 ≠ 0 then s.reply p m 6 []
    else if 1008 < (s.readFound f).length then s.reply p m 7 []
    else if life < 10 ∨ 3600 < life then s.reply p m 13 []
    else if bitOf m.flags.toNat 3 then (s.setSubs fun l => l.filter fun u => !u.matches p m).reply p m 0 []
    else if s.zdp.subs.any fun u => u.matches p m then
      (s.setSubs fun l => l.map fun u => if u.matches p m then s.renewed u m else u).reply p m 0 []
    else if 1024 ≤ s.zdp.subs.length ∨ 64 ≤ (s.zdp.subs.filter fun u => u.port == p).length then s.reply p m 16 []
    else
      let u := s.newSub p m
      ({ s with zdp := { s.zdp with subs := s.zdp.subs ++ [u], nextSub := s.zdp.nextSub + 1 } } : State).reply p m 0 []

/-- MIN_INTERVAL_MS has passed since the last NOTIFY of the subscription left. -/
def State.intervalOk (s : State) (u : Sub) : Bool :=
  match u.lastLeft with
  | some t => s.elapsed t (u.minMs * 1000000)
  | none => true

/-- A NOTIFY leaves: NSEQ, TIME and value; ALARM marks a record of the ALARM stream. -/
def State.notify (s : State) (u : Sub) (nseq : Nat) (alarm : Bool) (t : Stamp) (value : List Byte) : State :=
  let now := s.tb3
  (s.sendZdp
    { port := u.port, dst := u.src, kind := 5, flags := if alarm then 2 else 0, tag := u.tag, index := u.index, sub := u.sub
      status := 0, seg := 0, body := leBytes 4 nseq ++ timeBytes t ++ value }).setSub u.id
    fun v => { v with nseq := nseq % 2 ^ 32, lastLeft := some now }

/-- The subscription is a stream of records: 1 ALARM, 2 EVENT, 3 TRACE, else 0. -/
def Sub.stream (u : Sub) : Nat :=
  if u.sub = 1 then (if u.index = 0xB810 then 1 else if u.index = 0xB820 then 2 else if u.index = 0xB828 then 3 else 0) else 0

/-- The next record of a stream leaves (R526, R528, R529). -/
def State.streamNext (s : State) (u : Sub) : State :=
  match u.stream with
  | 1 =>
    if s.health.rhead ≤ u.next then s else
    match Map.get none s.health.ring (u.next % 4096) with
    | some a => (s.notify u (u.nseq + 1) true a.time (alarmBytes a)).setSub u.id fun v => { v with next := v.next + 1 }
    | none => s
  | 2 =>
    match u.evQueue with
    | r :: rest => (s.notify u (u.nseq + 1) false r.last (logBytes r)).setSub u.id fun v => { v with evQueue := rest }
    | [] => s
  | _ =>
    match u.trQueue with
    | r :: rest =>
      let n := u.nseq + 1 + if r.gap then r.count else 0
      (s.notify u n false r.last (logBytes r)).setSub u.id fun v => { v with trQueue := rest }
    | [] => s

/-- The entry that a subscription names, read now. -/
def State.subValue (s : State) (u : Sub) : List Byte :=
  match s.lookup u.index u.sub with
  | some f => s.readFound f
  | none => []

/-- A sampled NOTIFY has left: ten in a row that leave on time halve the period of a METRIC (R530). -/
def Sub.left (u : Sub) : Sub :=
  if u.late then { u with late := false, onTime := 0, waiting := none }
  else if 9 ≤ u.onTime then { u with onTime := 0, factor := max 1 (u.factor / 2), waiting := none }
  else { u with onTime := u.onTime + 1, waiting := none }

/-- A later value replaces the one that waits, if any; where that one has found its egress closed, the period doubles
(R393, R530). -/
def Sub.replaced (u : Sub) : Sub :=
  if u.waiting.isSome && u.late then { u with factor := min 16 (2 * u.factor) } else u

/-- A sampled value becomes due: it leaves, or waits in place of the one that waited (R393). -/
def State.valueDue (s : State) (u : Sub) (canLeave : Bool) : State :=
  let v := s.subValue u
  let n := u.nseq + 1
  let t := s.stamp
  if s.intervalOk u && canLeave then
    (s.notify u n false t v).setSub u.id fun x => x.replaced.left
  else
    let late := s.intervalOk u
    let w : Val × Stamp := (.bytes v, t)
    s.setSub u.id fun x =>
      { x.replaced with nseq := n % 2 ^ 32, waiting := some w, late := late }

/-- The subscription of an identifier. -/
def State.subById (s : State) (id : Nat) : Option Sub := s.zdp.subs.find? fun u => u.id == id

/-- NOTIFY_DUE: a subscribed value is due, at a change or at a multiple of the period. -/
def execNotifyDue (id : Nat) (canLeave : Bool) (s : State) : Host.Outcome State Fault Refusal :=
  match s.subById id with
  | some u =>
    if u.stream ≠ 0 then (if s.intervalOk u && canLeave then .next (s.streamNext u) else .next s)
    else .next (s.valueDue u canLeave)
  | none => .next s

/-- NOTIFY_INTERVAL_EXPIRY: the interval has passed, and what waits leaves when its egress lets it. -/
def execNotifyIntervalExpiry (id : Nat) (canLeave : Bool) (s : State) : Host.Outcome State Fault Refusal :=
  match s.subById id with
  | some u =>
    if !s.intervalOk u then .next s
    else if u.stream ≠ 0 then (if canLeave then .next (s.streamNext u) else .next s)
    else match u.waiting with
      | some (v, t) =>
        if canLeave then .next ((s.notify u u.nseq false t v.toBytes).setSub u.id Sub.left)
        else .next (s.setSub u.id fun x => { x with late := true })
      | none => .next s
  | none => .next s

/-- SUBSCRIPTION_EXPIRY: LIFETIME_S after the last renewal. -/
def execSubscriptionExpiry (id : Nat) (s : State) : Host.Outcome State Fault Refusal :=
  .next (s.setSubs fun l => l.filter fun u => !(u.id == id && s.elapsed u.renewed (u.lifeS * 1000000000)))

/-! ### BULK (R394, R395) -/

/-- Segment replies of a window: offset, data and LAST, from `k` on. -/
def bulkSegments (v : List Byte) (off : Nat) : Nat → Nat → List (Nat × List Byte × Nat × Bool)
  | 0, _ => []
  | n + 1, k =>
    let d := (v.drop off).take 1016
    let done := decide (v.length ≤ off + 1016) || n == 0
    (off, d, k, done) :: (if done then [] else bulkSegments v (off + 1016) n (k + 1))

/-- A BULK read. -/
def State.bulkRead (s : State) (p : Nat) (m : ZdpMsg) : State :=
  match s.firstChecks p m .read with
  | .error e => s.reply p m e []
  | .ok f =>
    let window := leAt m.body 4 2
    if m.len ≠ 8 ∨ leAt m.body 6 2 ≠ 0 then s.reply p m 6 []
    else if window < 1 ∨ 16 < window then s.reply p m 13 []
    else
      let v := s.readFound f
      (bulkSegments v (leAt m.body 0 4) window 0).foldl (fun t x =>
        t.reply p m 0 (leBytes 4 v.length ++ leBytes 4 x.1 ++ x.2.1) (if x.2.2.2 then 4 else 0) x.2.2.1) s

/-- The staging area is the one of a port, SRC and TAG. -/
def Stage.matches (g : Stage) (p src tag : Nat) : Bool := g.port == p && g.src == src && g.tag == tag

/-- Staging areas changed. -/
def State.setStaging (s : State) (f : List Stage → List Stage) : State :=
  { s with zdp := { s.zdp with stages := f s.zdp.stages } }

/-- The staged value, when every byte of it has come. -/
def Stage.value (g : Stage) : Option (List Byte) :=
  (List.range g.total).foldr (fun i acc =>
    match acc, g.parts.find? fun q => decide (q.1 ≤ i ∧ i < q.1 + q.2.length) with
    | some l, some q => some (q.2.getD (i - q.1) 0 :: l)
    | _, _ => none) (some [])

/-- A BULK write segment: staged and answered, or with LAST applied as one WRITE. -/
def State.bulkWrite (s : State) (p : Nat) (m : ZdpMsg) : State :=
  match s.firstChecks p m .write with
  | .error e => s.reply p m e [] 0 m.seg.toNat
  | .ok f =>
    let total := leAt m.body 0 4
    let off := leAt m.body 4 4
    let data := m.body.drop 8
    let mine (g : Stage) : Bool := g.matches p m.src.toNat m.tag.toNat
    if m.body.length < 8 ∨ f.entry.maxLen < total ∨ total < off + data.length then s.reply p m 6 [] 0 m.seg.toNat
    else
      let old := s.zdp.stages.find? mine
      if old.isNone && decide (8 ≤ s.zdp.stages.length) then s.reply p m 16 [] 0 m.seg.toNat
      else
        let parts := match old with | some g => g.parts | none => []
        let now := s.tb3
        let g : Stage :=
          { port := p, src := m.src.toNat, tag := m.tag.toNat, index := m.index.toNat, sub := m.sub.toNat, total
            parts := (off, data) :: parts, lastAt := now }
        let rest := s.setStaging fun l => l.filter fun x => !mine x
        if bitOf m.flags.toNat 2 then
          match g.value with
          | some v => rest.writeValue p m f v m.seg.toNat
          | none => rest.reply p m 6 [] 0 m.seg.toNat
        else (rest.setStaging fun l => l ++ [g]).reply p m 0 [] 0 m.seg.toNat

/-- BULK_STAGING_EXPIRY: a staging area idle for 1 s is discarded. -/
def execBulkStagingExpiry (p : PortNo) (src : BitVec 16) (tag : Word) (s : State) : Host.Outcome State Fault Refusal :=
  .next (s.setStaging fun l =>
    l.filter fun g => !(g.matches p.val src.toNat tag.toNat && s.elapsed g.lastAt 1000000000))

/-! ### The gate -/

/-- REQUEST_RATE_SECOND: a TB3 second ends and the counts of requests and refusals start again (R388). -/
def execRequestRateSecond (s : State) : Host.Outcome State Fault Refusal :=
  .next { s with zdp := { s.zdp with rate := [], refusals := [] } }

/-- A request taken by the gate: counted for its port (0x12pp.05, event 0x801) and in its second. -/
def State.takeRequest (s : State) (p : Nat) : State :=
  ({ s with zdp := { s.zdp with
      rate := Map.upd 0 s.zdp.rate p (· + 1), requests := Map.upd 0 s.zdp.requests p fun n => (n + 1) % 2 ^ 32 } } :
    State).count 0x801 (some p)

/-- A message at the gate with the number of its port: dropped, beyond the rate of R388 dropped too, or given to the
meaning of its KIND. A message to any device is answered only when it is a READ (R386); a NOTIFY asks for nothing. -/
def State.zdpMessage (s : State) (p : Nat) (m : ZdpMsg) (f : State → Nat → ZdpMsg → State) : State :=
  let s := { s with ports := { s.ports with message := Map.put s.ports.message p none } }
  if !s.zdpServed p then s
  else if s.zdpRefuses p m then s.zdpDrop p
  else if m.kind = 5 then s
  else if s.objN Obj.ZDP_REQ_LIMIT ≤ Map.get 0 s.zdp.rate p then s.zdpDrop p
  else if s.dstKind m = 3 ∧ m.kind ≠ 1 then s.takeRequest p
  else f (s.takeRequest p) p m

/-- A request by its KIND. -/
def State.request (s : State) (p : Nat) (m : ZdpMsg) : State :=
  match m.kind.toNat with
  | 1 => s.readRequest p m
  | 2 => s.writeRequest p m
  | 3 => s.orderRequest p m
  | 4 => s.subscribeRequest p m
  | _ => if bitOf m.flags.toNat 4 then s.bulkWrite p m else s.bulkRead p m

/-- ZDP_READ. -/
def execZdpRead (p : PortNo) (m : ZdpMsg) (s : State) : Host.Outcome State Fault Refusal :=
  .next (s.zdpMessage p m State.request)

/-- ZDP_META_READ. -/
def execZdpMetaRead (p : PortNo) (m : ZdpMsg) (s : State) : Host.Outcome State Fault Refusal :=
  .next (s.zdpMessage p m State.request)

/-- ZDP_WRITE. -/
def execZdpWrite (p : PortNo) (m : ZdpMsg) (s : State) : Host.Outcome State Fault Refusal :=
  .next (s.zdpMessage p m State.request)

/-- ZDP_ORDER. -/
def execZdpOrder (p : PortNo) (m : ZdpMsg) (s : State) : Host.Outcome State Fault Refusal :=
  .next (s.zdpMessage p m State.request)

/-- ZDP_SUBSCRIBE. -/
def execZdpSubscribe (p : PortNo) (m : ZdpMsg) (s : State) : Host.Outcome State Fault Refusal :=
  .next (s.zdpMessage p m State.request)

/-- BULK_READ. -/
def execBulkRead (p : PortNo) (m : ZdpMsg) (s : State) : Host.Outcome State Fault Refusal :=
  .next (s.zdpMessage p m State.request)

/-- BULK_WRITE_SEGMENT. -/
def execBulkWriteSegment (p : PortNo) (m : ZdpMsg) (s : State) : Host.Outcome State Fault Refusal :=
  .next (s.zdpMessage p m State.request)

/-- FOLLOW_OFFSET_WRITE: a WRITE of 0x780n.09, applied as a step of the base or refused with STATE (R331). -/
def execFollowOffsetWrite (p : PortNo) (m : ZdpMsg) (s : State) : Host.Outcome State Fault Refusal :=
  .next (s.zdpMessage p m State.request)

/-- FORK_RESOLVE: a WRITE of 1 to 0x9600.0D, refused with INCONSISTENT outside FORK (R431). -/
def execForkResolve (p : PortNo) (m : ZdpMsg) (s : State) : Host.Outcome State Fault Refusal :=
  .next (s.zdpMessage p m State.request)

/-- CHALLENGE: a READ of 0x9880.02, answered with a new challenge (R504). -/
def execChallenge (p : PortNo) (m : ZdpMsg) (s : State) : Host.Outcome State Fault Refusal :=
  .next (s.zdpMessage p m State.request)

end Sys2Proof.Machine
end

