-- ==== Sys2Proof/Machine/Regs.lean ====
section
/-! DEFINITION. Accesses of the application cores: the hub physical map with its protection (01_architecture.md, R18, R19,
R44 to R48, R245, R516, R553), what a read and a write of each block's registers do beside moving the value, and the
application of orders through the JE_APPLY registers (R415 to R417, R436). A write of a register whose effect has a row of
its own has the effect of that row. -/

namespace Sys2Proof.Machine

/-! ### Regions and protection -/

/-- What an address of the hub physical map reaches. -/
inductive Area
  | outside
  | rom
  | grist
  | tileMem (n : Nat)
  | tileRegs (n : Nat)
  | tileGap (n : Nat)
  | cask
  | blocks
  | supervisor
  deriving DecidableEq, Repr

/-- The region of an address. -/
def areaAt (a : Nat) : Area :=
  if a < 0x40000 then .rom
  else if 0x10000000 ≤ a ∧ a < 0x18000000 then .grist
  else if 0x20000000 ≤ a ∧ a < 0x28000000 then
    let n := (a - 0x20000000) / 0x400000
    let o := (a - 0x20000000) % 0x400000
    if o < 0x300000 then .tileMem n else if o < 0x310000 then .tileRegs n else .tileGap n
  else if 0x30000000 ≤ a ∧ a < 0x31000000 then .cask
  else if 0x40000000 ≤ a ∧ a < 0x400F0000 then .blocks
  else if 0x400F0000 ≤ a ∧ a < 0x40100000 then .supervisor
  else .outside

/-- A range of the Grist store meets code or read-only data of the running image, which no mode may write (R553). -/
def State.inText (s : State) (a n : Nat) : Bool :=
  s.hub.image.isSome && (s.imageOf (s.rd Reg.SUP_BOOT_SLOT)).sections.any fun x =>
    (x.kind == 1 || x.kind == 2) && decide (a < gristBase + x.load + x.len) && decide (gristBase + x.load < a + n)

/-- The register is one that a core may not write: a limit register, LE_SLOTs_CTRL, TGg_CTRL or an SP word (R44, R245).
The claim-gate configuration, loaded by the journal engine, is read-only to a core (R474). -/
def protectedReg (a : Nat) : Bool :=
  (cellsAt a 0).any (fun c => c.1.acc == .je && !decide (0x400C0000 ≤ a ∧ a < 0x400C1000)) ||
  decide (0x40034000 + 4 * 0x300 ≤ a ∧ a < 0x40034000 + 4 * 0x380)

/-- The cause of the access fault that an access of `n` bytes at `a` raises, if any. -/
def State.accessCause (s : State) (mode : CoreMode) (write : Bool) (n a : Nat) : Option AccessCause :=
  let misfit := n != 4 || a % 4 != 0
  let tile (k : Nat) (rest : Option AccessCause) : Option AccessCause :=
    if !s.tilePowered k then some .tileOffline else if mode == .user then some .access else rest
  match areaAt a with
  | .outside | .rom => some .access
  | .grist =>
    if areaAt (a + n - 1) != .grist || (write && s.inText a n) then some .access
    else if !write && (stillPoisoned s.poisoned a n).length != s.poisoned.length then some .poisoned
    else none
  | .tileMem k => tile k (if areaAt (a + n - 1) != .tileMem k then some .access else none)
  | .tileRegs k => tile k (if misfit then some .access else none)
  | .tileGap k => tile k none
  | .cask =>
    if mode == .user || areaAt (a + n - 1) != .cask then some .access
    else if write then some .protected_ else none
  | .blocks =>
    if mode == .user || misfit then some .access
    else if write && protectedReg a then some .protected_ else none
  | .supervisor => if mode != .machine || misfit then some .access else none

/-! ### Cask as the cores read it (R47) -/

/-- Record of the journal ring at slot k. -/
def State.ringRecord (s : State) (k : Nat) : Option (List Byte) :=
  s.journal.ring.reverse.findSome? fun o =>
    let p := (k + 65536 - o.osn % 65536) % 65536
    if p < orderNrec o then (orderRecords o)[p]? else none

/-- The byte of Cask at an offset; what no rule lays out is open. -/
def State.caskByteAt (s : State) (o : Nat) : Byte :=
  let pick (b : List Byte) (i : Nat) : Byte := b.getD i 0
  if o < 0x400000 then
    match s.ringRecord (o / 64) with
    | some b => pick b (o % 64)
    | none => Config.caskByte o
  else if o < 0xC00000 then
    let k := (o - 0x400000) / 8
    match s.journal.window.reverse.find? fun w => w.1 % 2 ^ 20 == k with
    | some w => pick (leBytes 8 w.2) (o % 8)
    | none => Config.caskByte o
  else if o < 0xC00040 then pick (bootBytes s.hub.copyA) (o - 0xC00000)
  else if o < 0xC00080 then pick (bootBytes s.hub.copyB) (o - 0xC00040)
  else if 0xF00000 ≤ o ∧ o < 0xF80000 then pick (s.ringPage ((o - 0xF00000) / 128) 1) (o % 128)
  else if 0xF80000 ≤ o ∧ o < 0xF84000 then pick (s.stateEntry ((o - 0xF80000) / 16)) (o % 16)
  else if 0xF84000 ≤ o ∧ o < 0xF90000 then pick (s.historyPage ((o - 0xF84000) / 64) 1) (o % 64)
  else if 0xF90000 ≤ o ∧ o < 0xF94000 then
    let a := (o - 0xF90000) / 64 * 64
    pick (pageOf changeBytes s.safety.log a 64) (o % 64)
  else if 0xF95000 ≤ o then 0
  else Config.caskByte o

/-! ### Register cells -/

/-- A write reaches one field, by its access code. -/
def State.writeCell (s : State) (v : Nat) (c : Cell) : State :=
  let old := s.rd c.1 c.2.1 c.2.2
  let x := v / 2 ^ c.1.lo % 2 ^ c.1.w
  match c.1.acc with
  | .rw => s.wr c.1 x c.2.1 c.2.2
  | .w1c => s.wr c.1 (old - (old &&& x)) c.2.1 c.2.2
  | .sw => if 0x380 ≤ c.2.1 ∧ c.2.1 < 0x400 then s.wr c.1 x c.2.1 c.2.2 else s
  | _ => s

/-- A write reaches the fields of a register. -/
def State.writeCells (s : State) (a v : Nat) : State := (cellsAt a 0).foldl (fun t c => t.writeCell v c) s

/-- The fields for which `keep` holds are written; whether another would have changed. -/
def State.writeSome (s : State) (a v : Nat) (keep : Field → Bool) : State × Bool :=
  let cs := cellsAt a 0
  let lost := cs.any fun c =>
    c.1.acc == .rw && !keep c.1 && s.rd c.1 c.2.1 c.2.2 != v / 2 ^ c.1.lo % 2 ^ c.1.w
  ((cs.filter fun c => keep c.1).foldl (fun t c => t.writeCell v c) s, lost)

/-- The register that a write of the journal engine reaches (R245, R474): protected fields take the value. -/
def State.journalWrite (s : State) (a v : Nat) : State :=
  (cellsAt a 0).foldl (fun t c =>
    if c.1.acc == .je || (c.1.acc == .sw && decide (0x300 ≤ c.2.1)) then
      t.wr c.1 (v / 2 ^ c.1.lo) c.2.1 c.2.2
    else t.writeCell v c) s

/-- A state changed when a bit of the value is 1. -/
def State.onBit (s : State) (v b : Nat) (f : State → State) : State := if bitOf v b then f s else s

/-- The outcome of a command's meaning, taken as part of a write. -/
def State.run (s : State) (f : State → Host.Outcome State Fault Refusal) : State := nextOr s (f s)

/-! ### Blocks -/

/-- Grist admission (02_clockless_timing_admission.md). -/
def State.gristWrite (s : State) (core : Fin 4) (a : Nat) (v : Word) : State :=
  match a - 0x40000000 with
  | 0x00 => s.onBit v.toNat 0 fun t => t.run execReplan
  | 0x40 => s.run (execGristAdmit core v)
  | 0x80 => s.run (execRequirementWrite core 0 v)
  | 0x84 => s.run (execRequirementWrite core 1 v)
  | 0x88 => s.run (execRequirementWrite core 2 v)
  | 0x8C => s.run (execRequirementWrite core 3 v)
  | 0x90 => s.run (execRequirementWrite core 4 v)
  | 0x94 => s.run (execRequirementWrite core 5 v)
  | _ => s.writeCells a v.toNat

/-- Gauge. -/
def State.gaugeWrite (s : State) (a v : Nat) : State :=
  if a = 0x40010000 then (s.onBit v 0 fun t => t.run execRefSample).onBit v 1 fun t => t.run execKilnRun
  else s.writeCells a v

/-- Registers of tile n (03_solver_fabric.md). -/
def State.tileWrite (s : State) (n a v : Nat) : State :=
  if a % 0x400000 = 0x300008 then
    ((s.onBit v 0 fun t => trial t n execTileDrain).onBit v 1 fun t => trial t n execTileOnline).onBit v 2
      fun t => trial t n execTileBistStart
  else s.writeCells a v

/-- Channel registers of Lauter (R272, R282, R287). -/
def State.scWrite (s : State) (c off a v : Nat) : State :=
  match off with
  | 0x00 | 0x04 | 0x08 | 0x0C | 0x1C =>
    if s.scFixed c then s.raise Reg.SC_STATUS_CFG_IGNORED c else s.writeCells a v
  | 0x10 =>
    let p := s.writeSome a v fun f => !s.gdRefused c (if f.lo == 0 then 0 else 1)
    if p.2 then p.1.raise Reg.LT_STATUS_POOL_REFUSED else p.1
  | 0x14 => trial s c fun q => execSwapRequest q (BitVec.ofNat 32 v)
  | 0x24 =>
    let on := bitOf v 0
    let s := if on != s.flag Reg.SC_CTRL_ENABLE c then trial s c fun q => execLtChannelEnable q on else s
    (s.onBit v 1 fun t => trial t c execLtServiceTest).onBit v 2 fun t => trial t c execLtServiceReturn
  | _ => s.writeCells a v

/-- Lauter (08_signal_chain.md). -/
def State.lauterWrite (s : State) (core : Fin 4) (a : Nat) (v : Word) : State :=
  let o := a - 0x40020000
  match o with
  | 0x00 => s.onBit v.toNat 0 fun t => t.run execLtRecheck
  | 0x14 => s.run (execLtSync v)
  | 0x18 => s.run (execLtSyncArm v)
  | 0x28 => s.run (execPoolAccess core (some v))
  | _ =>
    if 0x100 ≤ o ∧ o < 0x900 then s.scWrite ((o - 0x100) / 64) (o % 64) a v.toNat
    else if 0x1000 ≤ o ∧ o < 0x1800 then
      let s := s.writeCells a v.toNat
      if o % 16 < 12 then s.cmpClear ((o - 0x1000) / 64) (o / 16 % 4) else s
    else s.writeCells a v.toNat

/-- Loop engine (07_loop_engine.md). -/
def State.loopWrite (s : State) (core : Fin 4) (a : Nat) (v : Word) : State :=
  let o := a - 0x40030000
  match o with
  | 0x00 => (s.writeCells a v.toNat).onBit v.toNat 0 fun t => t.run execLeRecheck
  | 0x14 => s.run (execLeSwTrig core v)
  | 0x20 => s.run (execLeProgAccess core (some v))
  | 0x28 => s.run (execLeTrajCommit core v)
  | _ =>
    if 0x1000 ≤ o ∧ o < 0x3000 then
      let s := s.writeCells a v.toNat
      if o % 32 ≤ 0x10 then s.raise Reg.LES_STAT_SHADOW_DIRTY ((o - 0x1000) / 32) else s
    else if 0x8100 ≤ o ∧ o < 0x8300 then
      let c := (o - 0x8100) / 32
      if o % 32 = 8 then (s.onBit v.toNat 0 fun t => trial t c execCaptureArm).onBit v.toNat 1 fun t => trial t c execCaptureStop
      else s.writeCells a v.toNat
    else s.writeCells a v.toNat

/-- Channel registers of the position feedback unit (R318). -/
def State.pfcWrite (s : State) (c off a v : Nat) : State :=
  if off ≤ 0x34 then
    let free (f : Field) : Bool := f == Reg.PFC_CFG_PT_MODE || f == Reg.PFC_CFG_VIEW_SAT
    let p := s.writeSome a v fun f => !s.pfFixed c || free f
    if p.2 || (off != 0 && s.pfFixed c) then p.1.raise Reg.PFC_STATUS_CFG_IGNORED c else p.1
  else if off = 0x38 then
    let on := bitOf v 0
    let s := if on != s.flag Reg.PFC_CTRL_ENABLE c then trial s c fun q => execPfEnable q on else s
    let pre := BitVec.ofNat 48 (s.rd2 Reg.PFC_PRESET_LO_PRESET Reg.PFC_PRESET_HI_PRESET c)
    let s := s.onBit v 3 fun t => trial t c fun q => execSetPos q pre
    (s.onBit v 1 fun t => trial t c execPfServiceTest).onBit v 2 fun t => trial t c execPfServiceReturn
  else s.writeCells a v

/-- Position feedback unit (09_position_feedback.md). -/
def State.pfuWrite (s : State) (a v : Nat) : State :=
  let o := a - 0x40040000
  if 0x100 ≤ o ∧ o < 0x1100 then s.pfcWrite ((o - 0x100) / 128) (o % 128) a v
  else if 0x2000 ≤ o ∧ o < 0x3000 ∧ o % 32 = 12 then
    let c := (o - 0x2000) / 128
    let k := o / 32 % 4
    let s := if c < 32 then s.cmpCfg c k v else s
    if h : k < 4 then
      (s.onBit v 1 fun t => trial t c fun q => execCmpDisarm q ⟨k, h⟩).onBit v 0 fun t =>
        trial t c fun q => execCmpArm q ⟨k, h⟩ (BitVec.ofNat 32 v)
    else s
  else s.writeCells a v

/-- RATE is clamped to ±500 ppm; that of TB3 is fixed at 0 (R320). -/
def State.rateWrite (s : State) (n v : Nat) : State :=
  if n = 3 then s else
  let r := signed 32 v
  s.wrS Reg.TB_RATE_RATE (max (-8589934) (min 8589934 r)) n

/-- Time (10_time.md). -/
def State.timeWrite (s : State) (a v : Nat) : State :=
  let o := a - 0x40050000
  let n := (o - 0x100) / 64
  if o = 0 then s.onBit v 0 fun t => t.run execTuSnap
  else if 0x100 ≤ o ∧ o < 0x200 ∧ o % 64 = 0x10 then s.rateWrite n v
  else if 0x100 ≤ o ∧ o < 0x200 ∧ o % 64 = 0x1C then s.onBit v 0 fun t => trial t n execTbStep
  else s.writeCells a v

/-- CAN_CTRL (R349, R368, R374). -/
def State.canCtrlWrite (s : State) (n a v : Nat) : State :=
  let mode := s.rd Reg.CAN_CTRL_MODE n
  let new := v % 4
  let p := s.writeSome a v fun f => f.lo != 0 && mode == 0
  let other := [(Reg.CAN_CTRL_ECHO, 2), (Reg.CAN_CTRL_PEX, 3), (Reg.CAN_CTRL_TAP_EN, 4), (Reg.CAN_CTRL_GATE_FEED, 5)].any
    fun (f, b) => s.flag f n != bitOf v b
  let s := if mode != 0 && other then p.1.raise Reg.CAN_STATUS_CFG_IGNORED n else p.1
  let s := if mode == 0 && new != 0 then trial s n fun q => execCanEnable q (BitVec.ofNat 2 new) false
    else if mode != 0 && new == 0 then trial s n fun q => execCanDisable q false
    else if mode != 0 then s.wr Reg.CAN_CTRL_MODE new n
    else s
  ((s.onBit v 7 fun t => trial t n fun q => execCanServiceTest q false).onBit v 8 fun t =>
    trial t n fun q => execCanServiceReturn q false).onBit v 6 fun t => trial t n fun q => execCanRecover q false

/-- CAN controller n (11_can_fd.md). -/
def State.canWrite (s : State) (a : Nat) (v : Word) : State :=
  let n := (a - 0x40060000) / 0x1000
  let o := a % 0x1000
  match o with
  | 0x00 => s.canCtrlWrite n a v.toNat
  | 0x10 | 0x14 | 0x18 | 0x24 | 0x28 =>
    if s.rd Reg.CAN_CTRL_MODE n != 0 then s.raise Reg.CAN_STATUS_CFG_IGNORED n else s.writeCells a v.toNat
  | 0x30 => trial s n fun q => execCanRxTailWrite q v
  | 0x38 => trial s n fun q => execCanTxReq q v
  | 0x40 => trial s n fun q => execCanTxCancel q v
  | _ =>
    if 0x400 ≤ o ∧ o < 0x1000 then
      let b := (o - 0x400) / 96
      let w := (o - 0x400) % 96 / 4
      if bitOf (s.rd Reg.CAN_TX_PEND_PEND n) b || (s.control && s.flag Reg.CAN_CTRL_TAP_EN n && decide (24 ≤ b)) then
        s.raise Reg.CAN_STATUS_TX_WRITE_REJECT n
      else s.setCan n fun c => { c with buf := Map.put c.buf (24 * b + w) v.toNat }
    else s.writeCells a v.toNat

/-- A receive TAIL is written: entries are freed; a write past the head is ignored. -/
def State.tailWrite (s : State) (head tail : Field) (i size v : Nat) : State :=
  let t := v % 2 ^ tail.w
  let d (x : Nat) : Nat := (x + size - s.rd tail i % size) % size
  if size ≤ t ∨ d (s.rd head i % size) < d t then s else s.wr tail t i

/-- A write of the ENABLE bit of port p, and its TEST and RETURN bits at bits `test` and `test + 1`. -/
def State.portCtrl (s : State) (p : Nat) (was : Bool) (v test : Nat) : State :=
  let on := bitOf v 0
  let s := if on != was then trial s p fun (q : PortNo) => execPortEnable q on false else s
  (s.onBit v test fun t => trial t p execPortServiceTest).onBit v (test + 1) fun t => trial t p execPortServiceReturn

/-- Ethernet port m (12_dictionary_ports.md). -/
def State.emWrite (s : State) (a : Nat) (v : Word) : State :=
  let m := (a - 0x40070000) / 0x1000
  let o := a % 0x1000
  let on := s.flag Reg.EM_CTRL_ENABLE m
  let fixed := o == 0x18 || o == 0x1C || o == 0x20 || o == 0x24 || o == 0x28 || o == 0x88 || o == 0x8C ||
    (decide (0x40 ≤ o ∧ o < 0x80) && (o % 16 == 0 || o % 16 == 4))
  if o = 0 then
    let p := s.writeSome a v.toNat fun f => f.lo != 0 && !on
    let other := s.flag Reg.EM_CTRL_INTERFACE m != bitOf v.toNat 1 || s.flag Reg.EM_CTRL_SPEED100 m != bitOf v.toNat 2
    let s := if on && other then p.1.raise Reg.EM_STATUS_CFG_IGNORED m else p.1
    s.portCtrl (1 + m) on v.toNat 3
  else if fixed then (if on then s.raise Reg.EM_STATUS_CFG_IGNORED m else s.writeCells a v.toNat)
  else if o = 0x30 then s.tailWrite Reg.EM_RX_HEAD_HEAD Reg.EM_RX_TAIL_TAIL m (2 ^ s.rd Reg.EM_RX_CFG_LOG2 m) v.toNat
  else if 0x40 ≤ o ∧ o < 0x80 ∧ o % 16 = 12 then
    trial s ((o - 0x40) / 16) fun (k : Fin 4) t =>
      .next (trial t (1 + m) fun (p : PortNo) => execTxTailWrite p k v)
  else s.writeCells a v.toNat

/-- Peer link l. -/
def State.xlWrite (s : State) (a : Nat) (v : Word) : State :=
  let l := (a - 0x40080000) / 0x1000
  let o := a % 0x1000
  let on := s.flag Reg.XL_CTRL_ENABLE l
  match o with
  | 0x00 => s.portCtrl (33 + l) on v.toNat 1
  | 0x10 | 0x14 | 0x20 | 0x24 => if on then s.raise Reg.XL_STATUS_CFG_IGNORED l else s.writeCells a v.toNat
  | 0x1C => s.tailWrite Reg.XL_RX_HEAD_HEAD Reg.XL_RX_TAIL_TAIL l (2 ^ s.rd Reg.XL_RX_CFG_LOG2 l) v.toNat
  | 0x2C => trial s (33 + l) fun (p : PortNo) => execTxTailWrite p 0 v
  | _ => s.writeCells a v.toNat

/-- Serial port u. -/
def State.suWrite (s : State) (a : Nat) (v : Word) : State :=
  let u := (a - 0x40090000) / 0x1000
  let o := a % 0x1000
  let on := s.flag Reg.SU_CTRL_ENABLE u
  match o with
  | 0x00 =>
    let p := s.writeSome a v.toNat fun f => f.lo != 0 && !on
    let other := s.rd Reg.SU_CTRL_MODE u != v.toNat / 2 % 4 || s.rd Reg.SU_CTRL_DATA7 u != v.toNat / 8 % 2 ||
      s.rd Reg.SU_CTRL_PARITY u != v.toNat / 16 % 4 || s.rd Reg.SU_CTRL_STOP2 u != v.toNat / 64 % 2
    let s := if on && other then p.1.raise Reg.SU_STATUS_CFG_IGNORED u else p.1
    s.portCtrl (25 + u) on v.toNat 7
  | 0x04 | 0x14 | 0x18 | 0x24 | 0x30 | 0x34 => if on then s.raise Reg.SU_STATUS_CFG_IGNORED u else s.writeCells a v.toNat
  | 0x20 => s.tailWrite Reg.SU_RX_HEAD_HEAD Reg.SU_RX_TAIL_TAIL u (2 ^ s.rd Reg.SU_RX_CFG_LOG2 u) v.toNat
  | 0x2C => s.tailWrite Reg.SU_TS_HEAD_HEAD Reg.SU_TS_TAIL_TAIL u 256 v.toNat
  | 0x3C => trial s (25 + u) fun (p : PortNo) => execTxTailWrite p 0 v
  | _ => s.writeCells a v.toNat

/-- Counters (17_counters.md). -/
def State.cntWrite (s : State) (a : Nat) (v : Word) : State :=
  let o := a - 0x400A0000
  if o = 0 then
    (((s.writeCells a v.toNat).onBit v.toNat 2 fun t => t.run execClearAll).onBit v.toNat 1 fun t =>
      t.run execArmAt).onBit v.toNat 0 fun t => t.run execCntSnap
  else if 0x1000 ≤ o ∧ o < 0x2000 ∧ o % 16 = 0 then trial s ((o - 0x1000) / 16) fun q => execCntEvCfgWrite q v
  else if 0x4000 ≤ o ∧ o < 0x5000 ∧ o % 256 = 0 then trial s ((o - 0x4000) / 256) fun q => execCntHCfgWrite q v
  else s.writeCells a v.toNat

/-- Health (16_faults_health_logs.md). -/
def State.healthWrite (s : State) (core : Fin 4) (a : Nat) (v : Word) : State :=
  match a - 0x400B0000 with
  | 0x00 => s.onBit v.toNat 0 fun t => t.run execScrubNow
  | 0x18 =>
    let slot := v.toNat % 512
    match v.toNat / 2 ^ 30 with
    | 1 => trial s slot execHlTest
    | 2 => trial s slot execHlReturn
    | 3 => trial s slot execHlRetire
    | _ => s
  | 0x20 => s.run (execHlRaise core (BitVec.ofNat 2 (v.toNat / 2 ^ 30)) (BitVec.ofNat 21 v.toNat))
  | _ => s.writeCells a v.toNat

/-- Claim gate (14_redundancy_claims.md). -/
def State.claimWrite (s : State) (core : Fin 4) (a : Nat) (v : Word) : State :=
  match a - 0x400C0000 with
  | 0x00 => s.onBit v.toNat 0 fun t => t.run execClaimSend
  | 0x10 => s.run (execClaimRequest core v)
  | _ => s.writeCells a v.toNat

/-- Safety mailbox (15_safety.md). -/
def State.mailboxWrite (s : State) (a v : Nat) : State :=
  match a - 0x400D0000 with
  | 0x00 => (s.onBit v 1 fun t => t.run execSmRxAck).onBit v 0 fun t => t.run execSmSend
  | 0x10 => s.run execSmHb
  | _ => s.writeCells a v

/-- Supervisor (18_startup_firmware.md). -/
def State.supWrite (s : State) (core : Fin 4) (a : Nat) (v : Word) : State :=
  match a - 0x400F0000 with
  | 0x10 => s.onBit v.toNat 6 fun t => t.run execTrialConfirm
  | 0x18 => s.run (execWatchdogEnable v)
  | 0x1C => s.run (execWatchdogKick core)
  | 0x20 => s.run (execSupRestart v)
  | _ => s.writeCells a v.toNat

/-! ### Application of orders (R415 to R417, R436) -/

/-- LE_SLOTs_CTRL written by the journal engine (R235, R241, R260). -/
def State.slotCtrl (s : State) (i v : Nat) : State :=
  let on := bitOf v 0
  let s := if on != s.flag Reg.LES_CTRL_ENABLE i then trial s i fun q => execSlotEnable q on else s
  ((s.onBit v 1 fun t => trial t i execSlotCommit).onBit v 2 fun t => trial t i execSlotServiceTest).onBit v 3
    fun t => trial t i execSlotServiceReturn

/-- The write of JE_APPLY_DATA reaches a register of the loop engine or the claim gate. -/
def State.applyData (s : State) (core : Fin 4) (a : Nat) (v : Word) : State :=
  let o := a - 0x40030000
  if 0x400C0000 ≤ a then (if protectedReg a || decide (a < 0x400C1000 ∧ (cellsAt a 0).any fun c => c.1.acc == .je)
      then s.journalWrite a v.toNat else s.claimWrite core a v)
  else if 0x1000 ≤ o ∧ o < 0x3000 ∧ o % 32 = 0x14 then s.slotCtrl ((o - 0x1000) / 32) v.toNat
  else if 0x8000 ≤ o ∧ o < 0x8100 ∧ o % 32 = 0x18 then
    let g := (o - 0x8000) / 32
    (s.onBit v.toNat 0 fun t => trial t g execGeneratorStart).onBit v.toNat 1 fun t => trial t g execGeneratorStop
  else if protectedReg a then s.journalWrite a v.toNat
  else s.loopWrite core a v

/-- JE_APPLY_DATA: written to ADDR, which advances by 4; ignored outside an open application or the two blocks (R436). -/
def execJeApplyData (core : Fin 4) (v : Word) (s : State) : Host.Outcome State Fault Refusal :=
  let a := 4 * s.rd Reg.JE_APPLY_ADDR_ADDR
  if s.flag Reg.JE_STATUS_APPLY_OPEN && (a / 0x10000 == 0x4003 || a / 0x10000 == 0x400C) then
    .next ((s.applyData core a v).wr Reg.JE_APPLY_ADDR_ADDR (a / 4 + 1))
  else .next (s.raise Reg.JE_STATUS_APPLY_IGNORED)

/-- Entries whose order has its effect by a command of its own, which also sets the entry where it holds a value. -/
def ownCommand (o : ObjDef) : Bool :=
  match o.base, o.sub with
  | 0x3000, 0x13 | 0x3100, 0x0E | 0x6100, 0x01 | 0x6100, 0x02 | 0x6100, 0x0C | 0x6300, 0x0E | 0x6900, 0x01
  | 0x6900, 0x0F | 0x7100, 0x01 | 0x7100, 0x03 | 0x7800, 0x17 | 0x8100, 0x01 | 0x8100, 0x0E | 0x8100, 0x0F
  | 0x8800, 0x01 | 0x8800, 0x09 | 0x8900, 0x01 | 0x8900, 0x02 | 0x8A00, 0x01 | 0x8A00, 0x07 | 0x1201, 0x04
  | 0x9880, _ | 0xA020, 0x01 | 0xC010, _ => true
  | _, _ => false

/-- What DONE with OUTCOME 0 does for the order's entry: the value is set; a persistent one only under PERSIST, and in a
dip Cask keeps the old value until the sparge (R417, R436). -/
def State.applied (s : State) (o : OrderRec) : State :=
  match s.find o.index o.sub with
  | none => s
  | some f =>
    if f.entry.safetyParam then s.safetyChange o f
    else if ownCommand f.entry || (f.entry.persist && !s.flag Reg.JE_APPLY_PDICT_PERSIST) then s
    else if f.entry.persist then (s.keepOld f.entry f.i f.k).setEntry f o.value
    else s.setEntry f o.value

/-- What DONE with a reason code does: the order has no effect, is counted and listed, and raises an EVENT (R416). -/
def State.notApplied (s : State) (o : OrderRec) (why : Nat) : State :=
  let line := leBytes 8 o.osn ++ leBytes 8 o.identity ++ leBytes 1 why ++ leBytes 7 0
  let old := s.objBytes Obj.JE_LAST_REFUSED
  let all := old ++ line
  let s := s.setObjN Obj.JE_APPLY_REFUSED ((s.objN Obj.JE_APPLY_REFUSED + 1) % 2 ^ 32)
  (s.setObj Obj.JE_LAST_REFUSED (.bytes (all.drop (all.length - 64 * 24)))).event .journal "APPLY_REFUSED"

/-- The application closes: the order counts as applied, with its ORDER_APPLY latency. -/
def State.closeApply (s : State) (o : OrderRec) : State :=
  let now := s.tb3
  let s := match s.journal.committedAt.find? fun p => p.1 == o.osn with
    | some p => s.latency 5 none p.2 now
    | none => s
  let s := s.setJ fun j => { j with apply := none, committedAt := j.committedAt.filter fun p => p.1 != o.osn }
  ((s.setApplied (orderEnd o)).wr Reg.JE_STATUS_APPLY_OPEN 0).wr Reg.JE_APPLY_REC_VALID 0

/-- JE_APPLY_DONE: the outcome closes the application; ignored while none is open (R417, R436). -/
def execJeApplyDone (_core : Fin 4) (v : Word) (s : State) : Host.Outcome State Fault Refusal :=
  match s.journal.apply, s.flag Reg.JE_STATUS_APPLY_OPEN with
  | some p, true =>
    match s.heldOrders.find? fun o => o.osn == p.osn with
    | some o =>
      let why := v.toNat % 256
      .next ((if why = 0 then s.applied o else s.notApplied o why).closeApply o)
    | none => .next (s.raise Reg.JE_STATUS_APPLY_IGNORED)
  | _, _ => .next (s.raise Reg.JE_STATUS_APPLY_IGNORED)

/-- Journal engine (13_orders_journal.md). -/
def State.journalBlockWrite (s : State) (core : Fin 4) (a : Nat) (v : Word) : State :=
  match a - 0x400E0000 with
  | 0x00 => s.onBit v.toNat 0 fun t => t.run execJeFetch
  | 0x3C => s.run (execJeApplyData core v)
  | 0x44 => s.run (execJeApplyDone core v)
  | _ => s.writeCells a v.toNat

/-! ### REGISTER_WRITE and REGISTER_READ -/

/-- A register whose HI or companion words a read latches: their addresses (R323 has its own row). -/
def latchedBy (a : Nat) : List Nat :=
  let o := a - 0x400A0000
  if 0x40040100 ≤ a ∧ a < 0x40041100 then (if a % 128 = 0x44 then [a + 4, a + 8, a + 12, a + 16] else [])
  else if 0x400A0000 ≤ a ∧ a < 0x400B0000 then
    if o = 0x14 ∨ o = 0x24 ∨ (0x1000 ≤ o ∧ o < 0x2000 ∧ o % 16 = 4) ∨ (0x2000 ≤ o ∧ o < 0x2800 ∧ o % 8 = 0) ∨
        (((0x4000 ≤ o ∧ o < 0x5000) ∨ (0x8000 ≤ o ∧ o < 0x9000)) ∧ (o % 256 = 4 ∨ o % 256 = 0x10)) then [a + 4]
    else []
  else []

/-- A write to a register of a block or the supervisor, an aligned word that no protection stops. -/
def State.registerWrite (s : State) (core : Fin 4) (a : Nat) (v : Word) : State :=
  let s := { s with latch := Map.erase s.latch a }
  match a / 0x10000 with
  | 0x4000 => s.gristWrite core a v
  | 0x4001 => s.gaugeWrite a v.toNat
  | 0x4002 => s.lauterWrite core a v
  | 0x4003 => s.loopWrite core a v
  | 0x4004 => s.pfuWrite a v.toNat
  | 0x4005 => s.timeWrite a v.toNat
  | 0x4006 => s.canWrite a v
  | 0x4007 => s.emWrite a v
  | 0x4008 => s.xlWrite a v
  | 0x4009 => s.suWrite a v
  | 0x400A => s.cntWrite a v
  | 0x400B => s.healthWrite core a v
  | 0x400C => s.claimWrite core a v
  | 0x400D => s.mailboxWrite a v.toNat
  | 0x400E => s.journalBlockWrite core a v
  | _ => s.supWrite core a v

/-- REGISTER_WRITE: a core's store of `width` bits at an address. -/
def execRegisterWrite (core : Fin 4) (mode : CoreMode) (width : BitVec 8) (addr : Word) (v : BitVec 64) (s : State) :
    Host.Outcome State Fault Refusal :=
  let a := addr.toNat
  let n := width.toNat / 8
  match s.accessCause mode true n a with
  | some cause => .next (s.accessFault core cause a)
  | none =>
    .next (match areaAt a with
      | .grist | .tileMem _ => s.poke a (leBytes n v.toNat)
      | .tileRegs k => s.tileWrite k a (v.toNat % 2 ^ 32)
      | .blocks | .supervisor => s.registerWrite core a (v.setWidth 32)
      | _ => s)

/-- Fields of a register that a read clears. -/
def State.readClears (s : State) (a : Nat) : State :=
  (cellsAt a 0).foldl (fun t c => if c.1.acc == .rc then t.wr c.1 c.1.rst c.2.1 c.2.2 else t) s

/-- What a core's read answers. -/
def State.gave (s : State) (core : Fin 4) (x : Nat) : State := { s with readData := Map.put s.readData core x }

/-- The companions of the register at `a` latched (17_counters.md, 09_position_feedback.md). -/
def State.latched (s : State) (core : Fin 4) (a : Nat) : State :=
  { s with latch := (latchedBy a).foldl (fun m b => Map.put m b (s.readWord core b)) s.latch }

/-- The word that a core reads at a register, and what the read does. -/
def State.registerRead (s : State) (core : Fin 4) (a : Nat) : State :=
  if 0x40050100 ≤ a ∧ a < 0x40050200 ∧ a % 64 = 0 then
    trial (s.gave core (s.readWord core a)) ((a - 0x40050100) / 64) fun n => execTbCountRead core n
  else if a = 0x40030020 then s.run (execLeProgAccess core none)
  else if a = 0x40020028 then s.run (execPoolAccess core none)
  else ((s.latched core a).gave core (Map.get (s.readWord core a) s.latch a)).readClears a

/-- REGISTER_READ: a core's load of `width` bits at an address; the value stands in the core's read data. -/
def execRegisterRead (core : Fin 4) (mode : CoreMode) (width : BitVec 8) (addr : Word) (s : State) :
    Host.Outcome State Fault Refusal :=
  let a := addr.toNat
  let n := width.toNat / 8
  match s.accessCause mode false n a with
  | some cause => .next (s.accessFault core cause a)
  | none =>
    .next (match areaAt a with
      | .grist | .tileMem _ => s.gave core (leNat (Memory.getList s.mem a n))
      | .cask => s.gave core (leNat ((List.range n).map fun i => s.caskByteAt (a - 0x30000000 + i)))
      | .tileRegs _ => (s.gave core (s.readWord core a)).readClears a
      | .blocks | .supervisor => s.registerRead core a
      | _ => s.gave core 0)

end Sys2Proof.Machine
end

