-- ==== Sys2Proof/Machine/Dispatch.lean ====
section
/-! DEFINITION. One arm for each command: a direct call of its meaning. -/

namespace Sys2Proof.Machine

/-- The effect of a command on everything but the queue. -/
def exec (i : Instr) (s : State) : Host.Outcome State Fault Refusal :=
  match i with
  | .hubResetRelease testEn role profile cal bad copies => Sys2Proof.Machine.execHubResetRelease testEn role profile cal bad copies s
  | .imageVerify readOk => Sys2Proof.Machine.execImageVerify readOk s
  | .replayComplete bad => Sys2Proof.Machine.execReplayComplete bad s
  | .porstNLow => Sys2Proof.Machine.execPorstNLow s
  | .railBelowReset rail => Sys2Proof.Machine.execRailBelowReset rail s
  | .vcoreBelow060 => Sys2Proof.Machine.execVcoreBelow060 s
  | .referenceLost => Sys2Proof.Machine.execReferenceLost s
  | .vsafeGood => Sys2Proof.Machine.execVsafeGood s
  | .safetyOvertemp => Sys2Proof.Machine.execSafetyOvertemp s
  | .jtagHubReset => Sys2Proof.Machine.execJtagHubReset s
  | .jtagTapReset => Sys2Proof.Machine.execJtagTapReset s
  | .watchdogEnable v => Sys2Proof.Machine.execWatchdogEnable v s
  | .watchdogKick core => Sys2Proof.Machine.execWatchdogKick core s
  | .watchdogExpiry => Sys2Proof.Machine.execWatchdogExpiry s
  | .supRestart key => Sys2Proof.Machine.execSupRestart key s
  | .trialConfirm => Sys2Proof.Machine.execTrialConfirm s
  | .trialExpiry => Sys2Proof.Machine.execTrialExpiry s
  | .registerWrite core mode width addr v => Sys2Proof.Machine.execRegisterWrite core mode width addr v s
  | .gaugeWindow w => Sys2Proof.Machine.execGaugeWindow w s
  | .breachEnd tile => Sys2Proof.Machine.execBreachEnd tile s
  | .breachAlarm tile => Sys2Proof.Machine.execBreachAlarm tile s
  | .refMonitorSample ratios => Sys2Proof.Machine.execRefMonitorSample ratios s
  | .refSample => Sys2Proof.Machine.execRefSample s
  | .tempHigh sensor reading => Sys2Proof.Machine.execTempHigh sensor reading s
  | .dipStart vcore => Sys2Proof.Machine.execDipStart vcore s
  | .dipEnd vcore => Sys2Proof.Machine.execDipEnd vcore s
  | .dipLong => Sys2Proof.Machine.execDipLong s
  | .stressUpdate tiles => Sys2Proof.Machine.execStressUpdate tiles s
  | .dailyRecord => Sys2Proof.Machine.execDailyRecord s
  | .ageingForecast => Sys2Proof.Machine.execAgeingForecast s
  | .kilnRun => Sys2Proof.Machine.execKilnRun s
  | .gristAdmit core v => Sys2Proof.Machine.execGristAdmit core v s
  | .verdictPost core => Sys2Proof.Machine.execVerdictPost core s
  | .replan => Sys2Proof.Machine.execReplan s
  | .tableReplace => Sys2Proof.Machine.execTableReplace s
  | .linkStart ctx => Sys2Proof.Machine.execLinkStart ctx s
  | .operationComplete tile => Sys2Proof.Machine.execOperationComplete tile s
  | .dmaComplete tile => Sys2Proof.Machine.execDmaComplete tile s
  | .tileError tile kind word => Sys2Proof.Machine.execTileError tile kind word s
  | .dieLinkCheckFail link attempt => Sys2Proof.Machine.execDieLinkCheckFail link attempt s
  | .cutoff ctx => Sys2Proof.Machine.execCutoff ctx s
  | .jobDelivery ctx lost case => Sys2Proof.Machine.execJobDelivery ctx lost case s
  | .tileDrain tile => Sys2Proof.Machine.execTileDrain tile s
  | .tileBistStart tile => Sys2Proof.Machine.execTileBistStart tile s
  | .tileBistDone tile pass step elapsed => Sys2Proof.Machine.execTileBistDone tile pass step elapsed s
  | .tileOnline tile => Sys2Proof.Machine.execTileOnline tile s
  | .pipelineStart => Sys2Proof.Machine.execPipelineStart s
  | .tenSecondBoundary w => Sys2Proof.Machine.execTenSecondBoundary w s
  | .estimationRelease x => Sys2Proof.Machine.execEstimationRelease x s
  | .visualRelease targets => Sys2Proof.Machine.execVisualRelease targets s
  | .planningRelease x => Sys2Proof.Machine.execPlanningRelease x s
  | .caRelease => Sys2Proof.Machine.execCaRelease s
  | .caPublication scratch => Sys2Proof.Machine.execCaPublication scratch s
  | .measurementRecord r => Sys2Proof.Machine.execMeasurementRecord r s
  | .keypointDatagram em d => Sys2Proof.Machine.execKeypointDatagram em d s
  | .frameIncomplete camera => Sys2Proof.Machine.execFrameIncomplete camera s
  | .cameraLost camera => Sys2Proof.Machine.execCameraLost camera s
  | .voteStart slot => Sys2Proof.Machine.execVoteStart slot s
  | .tbStep n => Sys2Proof.Machine.execTbStep n s
  | .tbCountRead core n => Sys2Proof.Machine.execTbCountRead core n s
  | .tuSnap => Sys2Proof.Machine.execTuSnap s
  | .snapshotPeriodic => Sys2Proof.Machine.execSnapshotPeriodic s
  | .followOffsetWrite p m => Sys2Proof.Machine.execFollowOffsetWrite p m s
  | .ptpMessage inst port m => Sys2Proof.Machine.execPtpMessage inst port m s
  | .ptpSend inst port kind => Sys2Proof.Machine.execPtpSend inst port kind s
  | .announceTimeout inst => Sys2Proof.Machine.execAnnounceTimeout inst s
  | .holdoverEntry n => Sys2Proof.Machine.execHoldoverEntry n s
  | .holdoverMax n => Sys2Proof.Machine.execHoldoverMax n s
  | .ppsEdge p falling => Sys2Proof.Machine.execPpsEdge p falling s
  | .ppsMissed p => Sys2Proof.Machine.execPpsMissed p s
  | .ppsOutputPulse o => Sys2Proof.Machine.execPpsOutputPulse o s
  | .timeOfDayRecord n seconds => Sys2Proof.Machine.execTimeOfDayRecord n seconds s
  | .resync => Sys2Proof.Machine.execResync s
  | .timeTrigger slot => Sys2Proof.Machine.execTimeTrigger slot s
  | .leSwTrig core v => Sys2Proof.Machine.execLeSwTrig core v s
  | .activationComplete failures => Sys2Proof.Machine.execActivationComplete failures s
  | .leTrajCommit core v => Sys2Proof.Machine.execLeTrajCommit core v s
  | .trajCopyDone => Sys2Proof.Machine.execTrajCopyDone s
  | .trajStaleAlarm => Sys2Proof.Machine.execTrajStaleAlarm s
  | .leProgAccess core write => Sys2Proof.Machine.execLeProgAccess core write s
  | .leRecheck => Sys2Proof.Machine.execLeRecheck s
  | .slotEnable slot on => Sys2Proof.Machine.execSlotEnable slot on s
  | .slotCommit slot => Sys2Proof.Machine.execSlotCommit slot s
  | .commitInstall slot => Sys2Proof.Machine.execCommitInstall slot s
  | .slotHandover slot => Sys2Proof.Machine.execSlotHandover slot s
  | .slotServiceTest slot => Sys2Proof.Machine.execSlotServiceTest slot s
  | .slotSelfTestDone slot pass => Sys2Proof.Machine.execSlotSelfTestDone slot pass s
  | .slotServiceReturn slot => Sys2Proof.Machine.execSlotServiceReturn slot s
  | .generatorStart g => Sys2Proof.Machine.execGeneratorStart g s
  | .generatorStop g => Sys2Proof.Machine.execGeneratorStop g s
  | .generatorEnd g => Sys2Proof.Machine.execGeneratorEnd g s
  | .captureArm c => Sys2Proof.Machine.execCaptureArm c s
  | .captureStop c => Sys2Proof.Machine.execCaptureStop c s
  | .lauterOutput c xs tDef failures => Sys2Proof.Machine.execLauterOutput c xs tDef failures s
  | .clockLost c => Sys2Proof.Machine.execClockLost c s
  | .clockReturn c t => Sys2Proof.Machine.execClockReturn c t s
  | .ltSync mask => Sys2Proof.Machine.execLtSync mask s
  | .ltSyncArm v => Sys2Proof.Machine.execLtSyncArm v s
  | .timeAt => Sys2Proof.Machine.execTimeAt s
  | .scSyncEdge => Sys2Proof.Machine.execScSyncEdge s
  | .definingEdge c t => Sys2Proof.Machine.execDefiningEdge c t s
  | .swapRequest c v => Sys2Proof.Machine.execSwapRequest c v s
  | .poolAccess core write => Sys2Proof.Machine.execPoolAccess core write s
  | .ltRecheck => Sys2Proof.Machine.execLtRecheck s
  | .ltChannelEnable c on => Sys2Proof.Machine.execLtChannelEnable c on s
  | .ltServiceTest c => Sys2Proof.Machine.execLtServiceTest c s
  | .ltSelfTestDone c pass => Sys2Proof.Machine.execLtSelfTestDone c pass s
  | .ltServiceReturn c => Sys2Proof.Machine.execLtServiceReturn c s
  | .pfEdgeAccept c e => Sys2Proof.Machine.execPfEdgeAccept c e s
  | .glitch c line t => Sys2Proof.Machine.execGlitch c line t s
  | .lineOpen c line => Sys2Proof.Machine.execLineOpen c line s
  | .serialRequest c dataLow => Sys2Proof.Machine.execSerialRequest c dataLow s
  | .serialWord c w => Sys2Proof.Machine.execSerialWord c w s
  | .serTimeout c => Sys2Proof.Machine.execSerTimeout c s
  | .speedUpdate c => Sys2Proof.Machine.execSpeedUpdate c s
  | .standstill c => Sys2Proof.Machine.execStandstill c s
  | .emulatedTransition c => Sys2Proof.Machine.execEmulatedTransition c s
  | .setPos c v => Sys2Proof.Machine.execSetPos c v s
  | .cmpArm c k v => Sys2Proof.Machine.execCmpArm c k v s
  | .cmpDisarm c k => Sys2Proof.Machine.execCmpDisarm c k s
  | .pfEnable c on => Sys2Proof.Machine.execPfEnable c on s
  | .pfServiceTest c => Sys2Proof.Machine.execPfServiceTest c s
  | .pfSelfTestDone c pass => Sys2Proof.Machine.execPfSelfTestDone c pass s
  | .pfServiceReturn c => Sys2Proof.Machine.execPfServiceReturn c s
  | .pfInternal c => Sys2Proof.Machine.execPfInternal c s
  | .oscFault => Sys2Proof.Machine.execOscFault s
  | .canEnable n mode order => Sys2Proof.Machine.execCanEnable n mode order s
  | .canDisable n order => Sys2Proof.Machine.execCanDisable n order s
  | .canFrameReceived n f lenNs => Sys2Proof.Machine.execCanFrameReceived n f lenNs s
  | .segmentGapTimeout n node kind sub => Sys2Proof.Machine.execSegmentGapTimeout n node kind sub s
  | .canRxIrqTimeout n => Sys2Proof.Machine.execCanRxIrqTimeout n s
  | .canRxTailWrite n v => Sys2Proof.Machine.execCanRxTailWrite n v s
  | .canTxReq n v => Sys2Proof.Machine.execCanTxReq n v s
  | .canTxCancel n v => Sys2Proof.Machine.execCanTxCancel n v s
  | .canTxComplete n bits timeNs => Sys2Proof.Machine.execCanTxComplete n bits timeNs s
  | .canArbitrationLost n => Sys2Proof.Machine.execCanArbitrationLost n s
  | .canBusError n kind transmitting dominant => Sys2Proof.Machine.execCanBusError n kind transmitting dominant s
  | .canRecover n order => Sys2Proof.Machine.execCanRecover n order s
  | .recoveryComplete n => Sys2Proof.Machine.execRecoveryComplete n s
  | .canServiceTest n order => Sys2Proof.Machine.execCanServiceTest n order s
  | .canSelfTestDone n pass => Sys2Proof.Machine.execCanSelfTestDone n pass s
  | .canServiceReturn n order => Sys2Proof.Machine.execCanServiceReturn n order s
  | .emFrameReceived m frame fcsOk agoNs => Sys2Proof.Machine.execEmFrameReceived m frame fcsOk agoNs s
  | .emFrameSent m => Sys2Proof.Machine.execEmFrameSent m s
  | .peerFrameReceived link f => Sys2Proof.Machine.execPeerFrameReceived link f s
  | .suCharacter u c parity framing overrun => Sys2Proof.Machine.execSuCharacter u c parity framing overrun s
  | .portServiceTest p => Sys2Proof.Machine.execPortServiceTest p s
  | .portSelfTestDone p pass => Sys2Proof.Machine.execPortSelfTestDone p pass s
  | .portServiceReturn p => Sys2Proof.Machine.execPortServiceReturn p s
  | .zdpRead p m => Sys2Proof.Machine.execZdpRead p m s
  | .zdpMetaRead p m => Sys2Proof.Machine.execZdpMetaRead p m s
  | .zdpWrite p m => Sys2Proof.Machine.execZdpWrite p m s
  | .zdpOrder p m => Sys2Proof.Machine.execZdpOrder p m s
  | .zdpSubscribe p m => Sys2Proof.Machine.execZdpSubscribe p m s
  | .notifyDue id canLeave => Sys2Proof.Machine.execNotifyDue id canLeave s
  | .notifyIntervalExpiry id canLeave => Sys2Proof.Machine.execNotifyIntervalExpiry id canLeave s
  | .subscriptionExpiry id => Sys2Proof.Machine.execSubscriptionExpiry id s
  | .bulkRead p m => Sys2Proof.Machine.execBulkRead p m s
  | .bulkWriteSegment p m => Sys2Proof.Machine.execBulkWriteSegment p m s
  | .bulkStagingExpiry p src tag => Sys2Proof.Machine.execBulkStagingExpiry p src tag s
  | .requestRateSecond => Sys2Proof.Machine.execRequestRateSecond s
  | .fuseOrder p src target cls => Sys2Proof.Machine.execFuseOrder p src target cls s
  | .applyReady => Sys2Proof.Machine.execApplyReady s
  | .jeApplyData core v => Sys2Proof.Machine.execJeApplyData core v s
  | .jeApplyDone core v => Sys2Proof.Machine.execJeApplyDone core v s
  | .applySlow => Sys2Proof.Machine.execApplySlow s
  | .jeFetch => Sys2Proof.Machine.execJeFetch s
  | .forward mem tag o => Sys2Proof.Machine.execForward mem tag o s
  | .copy mem commit os => Sys2Proof.Machine.execCopy mem commit os s
  | .replay mem commit os => Sys2Proof.Machine.execReplay mem commit os s
  | .image mem osn entries last => Sys2Proof.Machine.execImage mem osn entries last s
  | .ack mem osn => Sys2Proof.Machine.execAck mem osn s
  | .commit mem osn => Sys2Proof.Machine.execCommit mem osn s
  | .fetch mem first lastOsn => Sys2Proof.Machine.execFetch mem first lastOsn s
  | .state mem code high commit => Sys2Proof.Machine.execState mem code high commit s
  | .fwdReturn mem tag code osn => Sys2Proof.Machine.execFwdReturn mem tag code osn s
  | .caskWriteComplete => Sys2Proof.Machine.execCaskWriteComplete s
  | .stateSend => Sys2Proof.Machine.execStateSend s
  | .peerSilence mem => Sys2Proof.Machine.execPeerSilence mem s
  | .eligibilityRestore => Sys2Proof.Machine.execEligibilityRestore s
  | .forwardRepeat => Sys2Proof.Machine.execForwardRepeat s
  | .orderQueueRelease => Sys2Proof.Machine.execOrderQueueRelease s
  | .soloEntry => Sys2Proof.Machine.execSoloEntry s
  | .forkResolve p m => Sys2Proof.Machine.execForkResolve p m s
  | .caskFault cause => Sys2Proof.Machine.execCaskFault cause s
  | .heartbeatSend => Sys2Proof.Machine.execHeartbeatSend s
  | .heartbeatReceived mem h => Sys2Proof.Machine.execHeartbeatReceived mem h s
  | .peerLost mem => Sys2Proof.Machine.execPeerLost mem s
  | .planSummaryReceived mem p => Sys2Proof.Machine.execPlanSummaryReceived mem p s
  | .allocationReceived mem a => Sys2Proof.Machine.execAllocationReceived mem a s
  | .peerClaimReceived mem f => Sys2Proof.Machine.execPeerClaimReceived mem f s
  | .ceilingRecompute => Sys2Proof.Machine.execCeilingRecompute s
  | .claimSend => Sys2Proof.Machine.execClaimSend s
  | .leaseRenewal => Sys2Proof.Machine.execLeaseRenewal s
  | .leaderIndex idx => Sys2Proof.Machine.execLeaderIndex idx s
  | .epochAdvance => Sys2Proof.Machine.execEpochAdvance s
  | .proofTest path thruster gates => Sys2Proof.Machine.execProofTest path thruster gates s
  | .proofResultTimeout path results => Sys2Proof.Machine.execProofResultTimeout path results s
  | .gateClaimFrame path f => Sys2Proof.Machine.execGateClaimFrame path f s
  | .gateCommandFrame path f => Sys2Proof.Machine.execGateCommandFrame path f s
  | .leaseExpiry mem => Sys2Proof.Machine.execLeaseExpiry mem s
  | .commandApply t => Sys2Proof.Machine.execCommandApply t s
  | .crossCheck t => Sys2Proof.Machine.execCrossCheck t s
  | .noleaseHold => Sys2Proof.Machine.execNoleaseHold s
  | .fenceExpiry mem => Sys2Proof.Machine.execFenceExpiry mem s
  | .gateStatusSend => Sys2Proof.Machine.execGateStatusSend s
  | .siContactChange n ch closed => Sys2Proof.Machine.execSiContactChange n ch closed s
  | .siFilterExpiry n ch => Sys2Proof.Machine.execSiFilterExpiry n ch s
  | .discrepancyTimeout n => Sys2Proof.Machine.execDiscrepancyTimeout n s
  | .testSourceCheck n ch shown => Sys2Proof.Machine.execTestSourceCheck n ch shown s
  | .crossLinkExchange => Sys2Proof.Machine.execCrossLinkExchange s
  | .channelFault => Sys2Proof.Machine.execChannelFault s
  | .safetyWatchdogExpiry ch => Sys2Proof.Machine.execSafetyWatchdogExpiry ch s
  | .switchFault out ch => Sys2Proof.Machine.execSwitchFault out ch s
  | .testPulse out ch conducts => Sys2Proof.Machine.execTestPulse out ch conducts s
  | .resetPulseRise k clean => Sys2Proof.Machine.execResetPulseRise k clean s
  | .resetPulseFall k usA usB => Sys2Proof.Machine.execResetPulseFall k usA usB s
  | .resetStuckClear k => Sys2Proof.Machine.execResetStuckClear k s
  | .smHb => Sys2Proof.Machine.execSmHb s
  | .hubHeartbeat m la lb => Sys2Proof.Machine.execHubHeartbeat m la lb s
  | .hubLost ch => Sys2Proof.Machine.execHubLost ch s
  | .caStatus m la lb => Sys2Proof.Machine.execCaStatus m la lb s
  | .posStatus m la lb => Sys2Proof.Machine.execPosStatus m la lb s
  | .azimuth m la lb => Sys2Proof.Machine.execAzimuth m la lb s
  | .tripRequest m la lb => Sys2Proof.Machine.execTripRequest m la lb s
  | .guardRx m la lb node => Sys2Proof.Machine.execGuardRx m la lb node s
  | .config m la lb skew => Sys2Proof.Machine.execConfig m la lb skew s
  | .safetyStatus crcGood => Sys2Proof.Machine.execSafetyStatus crcGood s
  | .guardTx crcGood => Sys2Proof.Machine.execGuardTx crcGood s
  | .smSend => Sys2Proof.Machine.execSmSend s
  | .smRxAck => Sys2Proof.Machine.execSmRxAck s
  | .smDead => Sys2Proof.Machine.execSmDead s
  | .azFault t ch => Sys2Proof.Machine.execAzFault t ch s
  | .sector t ch => Sys2Proof.Machine.execSector t ch s
  | .caTimeout ch => Sys2Proof.Machine.execCaTimeout ch s
  | .posPersist ch => Sys2Proof.Machine.execPosPersist ch s
  | .posTimeout ch => Sys2Proof.Machine.execPosTimeout ch s
  | .guardTxPeriod c la lb => Sys2Proof.Machine.execGuardTxPeriod c la lb s
  | .guardWatchdog c ch => Sys2Proof.Machine.execGuardWatchdog c ch s
  | .sessionOpen o => Sys2Proof.Machine.execSessionOpen o s
  | .challenge p m => Sys2Proof.Machine.execChallenge p m s
  | .challengeExpiry => Sys2Proof.Machine.execChallengeExpiry s
  | .openBlockExpiry => Sys2Proof.Machine.execOpenBlockExpiry s
  | .sessionClose o => Sys2Proof.Machine.execSessionClose o s
  | .sessionIdleTimeout => Sys2Proof.Machine.execSessionIdleTimeout s
  | .seal o => Sys2Proof.Machine.execSeal o s
  | .password o => Sys2Proof.Machine.execPassword o s
  | .passwordReset o => Sys2Proof.Machine.execPasswordReset o s
  | .testDemand o => Sys2Proof.Machine.execTestDemand o s
  | .transient slot corrected => Sys2Proof.Machine.execTransient slot corrected s
  | .subintervalRoll slot => Sys2Proof.Machine.execSubintervalRoll slot s
  | .permanentFault slot cause => Sys2Proof.Machine.execPermanentFault slot cause s
  | .bankSpareCopyDone bank poisoned => Sys2Proof.Machine.execBankSpareCopyDone bank poisoned s
  | .healthOrder unit action => Sys2Proof.Machine.execHealthOrder unit action s
  | .hlTest slot => Sys2Proof.Machine.execHlTest slot s
  | .hlTestDone slot pass => Sys2Proof.Machine.execHlTestDone slot pass s
  | .hlReturn slot => Sys2Proof.Machine.execHlReturn slot s
  | .hlRetire slot => Sys2Proof.Machine.execHlRetire slot s
  | .scrubNow => Sys2Proof.Machine.execScrubNow s
  | .scrubPass finished => Sys2Proof.Machine.execScrubPass finished s
  | .alarmRaise block name unit => Sys2Proof.Machine.execAlarmRaise block name unit s
  | .overflowDrain => Sys2Proof.Machine.execOverflowDrain s
  | .eventRaise block name unit => Sys2Proof.Machine.execEventRaise block name unit s
  | .coalesceInterval key => Sys2Proof.Machine.execCoalesceInterval key s
  | .traceRaise code unit detail => Sys2Proof.Machine.execTraceRaise code unit detail s
  | .hlRaise core cls src => Sys2Proof.Machine.execHlRaise core cls src s
  | .cntEvCfgWrite n v => Sys2Proof.Machine.execCntEvCfgWrite n v s
  | .cntHCfgWrite h v => Sys2Proof.Machine.execCntHCfgWrite h v s
  | .clearAll => Sys2Proof.Machine.execClearAll s
  | .cntSnap => Sys2Proof.Machine.execCntSnap s
  | .armAt => Sys2Proof.Machine.execArmAt s
  | .snapAtFire => Sys2Proof.Machine.execSnapAtFire s
  | .snapPeriodic => Sys2Proof.Machine.execSnapPeriodic s
  | .snapComplete => Sys2Proof.Machine.execSnapComplete s
  | .flashChunk offset data => Sys2Proof.Machine.execFlashChunk offset data s
  | .flashProgramDone => Sys2Proof.Machine.execFlashProgramDone s
  | .flashErase => Sys2Proof.Machine.execFlashErase s
  | .flashCheck => Sys2Proof.Machine.execFlashCheck s
  | .activate slot flags => Sys2Proof.Machine.execActivate slot flags s
  | .bootResult slot result => Sys2Proof.Machine.execBootResult slot result s
  | .rollbackFloor floor => Sys2Proof.Machine.execRollbackFloor floor s
  | .keyPin pin => Sys2Proof.Machine.execKeyPin pin s
  | .reboot => Sys2Proof.Machine.execReboot s
  | .datumOrder lat lon => Sys2Proof.Machine.execDatumOrder lat lon s
  | .layDown slot v => Sys2Proof.Machine.execLayDown slot v s
  | .vio33SGood => Sys2Proof.Machine.execVio33SGood s
  | .frameAlignment link up => Sys2Proof.Machine.execFrameAlignment link up s
  | .lineSignalReturn c line => Sys2Proof.Machine.execLineSignalReturn c line s
  | .txTailWrite p q v => Sys2Proof.Machine.execTxTailWrite p q v s
  | .portEnable p on order => Sys2Proof.Machine.execPortEnable p on order s
  | .claimRequest core v => Sys2Proof.Machine.execClaimRequest core v s
  | .requirementWrite core r v => Sys2Proof.Machine.execRequirementWrite core r v s
  | .registerRead core mode width addr => Sys2Proof.Machine.execRegisterRead core mode width addr s
  | .flashCheckDone readOk => Sys2Proof.Machine.execFlashCheckDone readOk s
  | .bankCopyBackDone bank => Sys2Proof.Machine.execBankCopyBackDone bank s
  | .caskReadThrough corrected uncorrectable => Sys2Proof.Machine.execCaskReadThrough corrected uncorrectable s

end Sys2Proof.Machine
end

