-- ==== Sys2Proof/Safety.lean ====
section
/-! DEFINITION. What claims are stated in: the parts of State, what a command leaves as it was, and the canonical form of
the sparse tables, which every step keeps. -/

namespace Sys2Proof.Machine

/-- The register blocks of the address map (01_architecture.md): one 64 KB window each from 0x4000_0000 on, and the tile windows. -/
inductive Block
  | grist | gauge | lt | le | pf | tu | can | em | xl | su | cnt | hl | cg | sm | je | sup | tile
  deriving DecidableEq, Repr

/-- The register block in which place `k` of the register file lies. -/
def blockAt (k : Nat) : Block :=
  let a := k / 32 % 2 ^ 32
  if a < 0x40000000 ∨ 0x40100000 ≤ a then .tile else
  match a / 0x10000 - 0x4000 with
  | 0 => .grist | 1 => .gauge | 2 => .lt | 3 => .le | 4 => .pf | 5 => .tu | 6 => .can | 7 => .em
  | 8 => .xl | 9 => .su | 10 => .cnt | 11 => .hl | 12 => .cg | 13 => .sm | 14 => .je | _ => .sup

/-- The parts of State that a command may change. The queue is none of them. -/
inductive Part
  /-- The registers of one block. -/
  | regs (b : Block)
  /-- The memory: Grist store and tile SRAMs. -/
  | mem
  /-- The dictionary values. -/
  | dict
  /-- Values latched by a read. -/
  | latch
  /-- The poisoned words of the Grist store. -/
  | poisoned
  /-- What the last read of each core gave. -/
  | readData
  /-- The last access fault of each core. -/
  | coreFaults
  /-- The answer of the last order or protected write (model's own). -/
  | outcome
  /-- The count of free values used (model's own). -/
  | fresh
  /-- Time bases, PTP, PPS and snapshots. -/
  | time
  /-- Retirement table, logs, self-tests. -/
  | health
  /-- Subscriptions, staging, port classes. -/
  | zdp
  /-- Ports, links and their queues. -/
  | ports
  /-- Journal engine. -/
  | journal
  /-- Claims, peers and votes. -/
  | claims
  /-- Claim gate. -/
  | gate
  /-- Loop engine. -/
  | loop
  /-- CAN controllers. -/
  | can
  /-- Safety die and mailbox. -/
  | safety
  /-- Reset, boot and flash. -/
  | hub
  /-- Tiles, Grist and Gauge. -/
  | fabric
  /-- Estimation, planning, visual reference and consequence analysis. -/
  | stages
  /-- Signal chain. -/
  | lauter
  /-- Position feedback. -/
  | pfu
  deriving DecidableEq, Repr

/-- Every part. -/
def Part.all : List Part :=
  ([.grist, .gauge, .lt, .le, .pf, .tu, .can, .em, .xl, .su, .cnt, .hl, .cg, .sm, .je, .sup, .tile] : List Block).map .regs ++
  [.mem, .dict, .latch, .poisoned, .readData, .coreFaults, .outcome, .fresh, .time, .health, .zdp, .ports, .journal,
   .claims, .gate, .loop, .can, .safety, .hub, .fabric, .stages, .lauter, .pfu]

/-- Every part but those of `ps`. -/
def Part.allBut (ps : List Part) : List Part := Part.all.filter fun p => decide (p ∉ ps)

/-- `t` differs from `s` at most in the parts `ps`: every register whose block is not one of `ps` reads
as before, and so for every byte of memory, every dictionary entry and every other part. -/
structure Keeps (ps : List Part) (s t : State) : Prop where
  pending : t.pending = s.pending
  regs : ∀ f i j, Part.regs (blockAt (f.key i j)) ∉ ps → t.rd f i j = s.rd f i j
  mem : Part.mem ∉ ps → ∀ a, Memory.get t.mem a = Memory.get s.mem a
  dict : Part.dict ∉ ps → ∀ o i k, t.obj o i k = s.obj o i k
  latch : Part.latch ∉ ps → t.latch = s.latch
  poisoned : Part.poisoned ∉ ps → t.poisoned = s.poisoned
  readData : Part.readData ∉ ps → t.readData = s.readData
  coreFaults : Part.coreFaults ∉ ps → t.coreFaults = s.coreFaults
  outcome : Part.outcome ∉ ps → t.outcome = s.outcome
  fresh : Part.fresh ∉ ps → t.fresh = s.fresh
  time : Part.time ∉ ps → t.time = s.time
  health : Part.health ∉ ps → t.health = s.health
  zdp : Part.zdp ∉ ps → t.zdp = s.zdp
  ports : Part.ports ∉ ps → t.ports = s.ports
  journal : Part.journal ∉ ps → t.journal = s.journal
  claims : Part.claims ∉ ps → t.claims = s.claims
  gate : Part.gate ∉ ps → t.gate = s.gate
  loop : Part.loop ∉ ps → t.loop = s.loop
  can : Part.can ∉ ps → t.can = s.can
  safety : Part.safety ∉ ps → t.safety = s.safety
  hub : Part.hub ∉ ps → t.hub = s.hub
  fabric : Part.fabric ∉ ps → t.fabric = s.fabric
  stages : Part.stages ∉ ps → t.stages = s.stages
  lauter : Part.lauter ∉ ps → t.lauter = s.lauter
  pfu : Part.pfu ∉ ps → t.pfu = s.pfu

/-- Command `i` completes from `s`: its meaning answers a next state, which differs from `s` at most in the parts `ps` and of
which `Q` holds. -/
def Does (i : Instr) (s : State) (ps : List Part) (Q : State → Prop) : Prop :=
  ∃ t, exec i s = .next t ∧ Keeps ps s t ∧ Q t

/-- Every register field reads as before but those whose place in the register file is one of `ks`. -/
def RegsBut (ks : List Nat) (s t : State) : Prop := ∀ f i j, Field.key f i j ∉ ks → t.rd f i j = s.rd f i j

/-- Every dictionary entry has the value it had but those whose key is one of `ks`. -/
def ObjsBut (ks : List Nat) (s t : State) : Prop := ∀ o i k, ObjDef.key o i k ∉ ks → t.obj o i k = s.obj o i k

/-- Every byte of memory outside the `n` bytes from address `a` on reads as before. -/
def MemBut (a n : Nat) (s t : State) : Prop := ∀ x, x < a ∨ a + n ≤ x → Memory.get t.mem x = Memory.get s.mem x

/-- The commands that bring message `m` to the dictionary gate at port `p`, by what the message asks. -/
def zdpCommands (p : PortNo) (m : ZdpMsg) : List Instr :=
  [.zdpRead p m, .zdpMetaRead p m, .zdpWrite p m, .zdpOrder p m, .zdpSubscribe p m, .bulkRead p m, .bulkWriteSegment p m,
   .followOffsetWrite p m, .forkResolve p m, .challenge p m]

/-- The gate takes the message as a request: it is served, rightly formed and addressed, no NOTIFY, within the rate of the port, and a
message to any device is a READ (R386, R388). -/
def State.gateTakes (s : State) (p : Nat) (m : ZdpMsg) : Bool :=
  s.zdpServed p && !s.zdpRefuses p m && m.kind != 5 && decide (Map.get 0 s.zdp.rate p < s.objN Obj.ZDP_REQ_LIMIT) &&
  (s.dstKind m != 3 || m.kind == 1)

/-- The state in which a request at port `p` is carried out: the message taken and counted. -/
def State.taken (s : State) (p : Nat) : State :=
  ({ s with ports := { s.ports with message := Map.put s.ports.message p none } } : State).takeRequest p

/-- `t` answers message `m` in state `s`: the reply joins the messages that wait to leave, a refusal only while fewer than 100 have left
the port in the second (R388, R389, R390). -/
def State.answered (s t : State) (p : Nat) (m : ZdpMsg) (status : Nat) (body : List Byte) (flags seg : Nat := 0) : Prop :=
  t.zdp.out = s.zdp.out ++ (if status = 0 ∨ Map.get 0 s.zdp.refusals p < 100 then
    [{ port := p, dst := m.src.toNat, kind := m.kind.toNat, flags, tag := m.tag.toNat, index := m.index.toNat,
       sub := m.sub.toNat, status, seg, body }] else []) ∧
  Map.get 0 t.zdp.refused p = Map.get 0 s.zdp.refused p + (if status = 0 then 0 else 1)

/-- What holds after the first checks of R387, by their result: a reason code, or the entry found. -/
def afterChecks (x : Except Nat Found) (refused : Nat → Prop) (passed : Found → Prop) : Prop :=
  match x with
  | .error e => refused e
  | .ok f => passed f

/-- The same for an order, whose reply holds its identity and OSN (R391). -/
def State.orderAnswered (s t : State) (r : ReplyTo) (status osn : Nat) : Prop :=
  t.zdp.out = s.zdp.out ++ (if status = 0 ∨ Map.get 0 s.zdp.refusals r.port < 100 then
    [{ port := r.port, dst := r.src, kind := 3, flags := 0, tag := r.tag, index := r.index, sub := r.sub, status, seg := 0,
       body := leBytes 8 r.identity ++ leBytes 8 osn }] else [])

/-- Both channels hold every trip and every active zone that they held (R483). -/
def LatchesKept (s t : State) : Prop :=
  ∀ (c : Fin 2) (k : Fin 8), (bitOf (s.chan c).trip k = true → bitOf (t.chan c).trip k = true) ∧
    (bitOf (s.chan c).zones k = true → bitOf (t.chan c).zones k = true)

/-- The die's state, its parameters and CCVs, the session and challenge, the password, the seal and the change log are as they were. -/
def DieKept (s t : State) : Prop :=
  t.safety.state = s.safety.state ∧ t.safety.cfg = s.safety.cfg ∧ t.safety.ccvA = s.safety.ccvA ∧ t.safety.ccvB = s.safety.ccvB ∧
  t.safety.session = s.safety.session ∧ t.safety.challenge = s.safety.challenge ∧ t.safety.test = s.safety.test ∧
  t.safety.salt = s.safety.salt ∧ t.safety.hash = s.safety.hash ∧ t.safety.hasSeal = s.safety.hasSeal ∧
  t.safety.unsealed = s.safety.unsealed ∧ t.safety.log = s.safety.log ∧ t.safety.logSeq = s.safety.logSeq

/-- The hub's messages that bring `m` to the die, each with its TYPE (R493). -/
def dieMessages (m : MailMsg) (la lb : Nat) (node : Option (BitVec 14)) (skew : Word) : List (Nat × Instr) :=
  [(1, .hubHeartbeat m la lb), (2, .caStatus m la lb), (3, .posStatus m la lb), (4, .azimuth m la lb), (5, .tripRequest m la lb),
   (6, .guardRx m la lb node), (7, .config m la lb skew)]

/-- The die accepts message `m` of a TYPE: its CRC is right, its payload has at most 4,060 bytes, and its SEQ follows (R493). -/
def State.dieAccepts (s : State) (type : Nat) (m : MailMsg) : Bool :=
  s.safety.live && m.crc.toNat == safetyCrc (mailBody type m) && decide (m.payload.length ≤ 4060) &&
  seqFollows s.safety.dieLast m.seq.toNat

/-- The mail that waits once message `seq` has been taken. -/
def State.mailLeft (s : State) (seq : Nat) : List (Nat × MailMsg) := s.safety.mail.filter fun x => x.2.seq.toNat != seq

/-- The state in which an accepted message takes its effect: the message taken, its SEQ held, its stamp in both mappings (R493, R498). -/
def State.dieReady (s : State) (m : MailMsg) (la lb : Nat) : State :=
  ((s.mailTaken m.seq.toNat).setSafety fun d => { d with dieLast := some m.seq.toNat }).takeStamp la lb (mailTime m)

/-- The response of an opening is right: no password is set, or it answers a challenge no older than 60 s (R504). -/
def State.responseRight (s : State) (v : List Byte) : Bool :=
  s.safety.hash.isEmpty ||
  match s.safety.challenge with
  | some (c, t) => !s.elapsed t 60000000000 && (sha256 (c ++ s.safety.hash)).take 16 == v.drop 16
  | none => false

/-- One entry of an action joined the safety change log, or the entries that a dip holds (R509). -/
def State.logged (s t : State) (action : Nat) : Prop :=
  t.safety.logSeq = (s.safety.logSeq + 1) % 2 ^ 32 ∧ t.flag Reg.SM_IRQ_LOG = true ∧
  (if s.dip then t.safety.log = s.safety.log ∧ t.safety.heldLog.getLast?.map (·.action) = some action
   else t.safety.log.getLast?.map (·.action) = some action ∧ t.safety.heldLog = s.safety.heldLog)

/-- The last message on its way to the die is a CONFIG with the parameters of the dictionary (R502). -/
def State.configSent (t : State) : Prop := t.safety.mail.getLast?.map (fun x => (x.1, x.2.payload)) = some (7, t.safetyImage)

/-- What the retirement of a unit of a kind may change (R515): the records of the health block, and the block that owns the unit. -/
def ownerParts (kind : Nat) : List Part :=
  [.dict, .fresh, .health, .zdp, .ports, .regs .cnt, .regs .hl] ++
  (match kind with
   | 1 | 3 => [.fabric, .regs .grist, .regs .gauge, .regs .tile]
   | 2 => []
   | 4 | 5 | 7 => [.regs .em, .regs .xl, .regs .su]
   | 6 => [.can, .regs .can]
   | 8 => [.pfu, .regs .le, .regs .pf]
   | 9 => [.regs .lt, .regs .le]
   | 10 => [.loop, .regs .le]
   | _ => [.journal, .regs .je])

/-- The copy of a spare back to its bank that runs: the origin node and OSN of the return it serves, or none after a self-test (R520, R521). -/
def State.copyingBack (s : State) (b : Nat) : Option (Option (Nat × Nat)) :=
  s.health.jobs.findSome? fun j => match j with
    | .copyBack x r => if x == b then some r else none
    | _ => none

/-- How often the key has been raised in the second that runs, this raising included (R528). -/
def State.raisings (s : State) (key : Nat) : Nat :=
  let k := Map.get {} s.health.keys key
  (if k.second = s.tb3 / 1000000000 then k.inSecond else 0) + 1

/-- A channel holds tripped every output that shows a demand (R483). -/
def State.demandsTripped (s : State) : Bool :=
  (List.range 2).all fun c => (List.range 8).all fun k => !bitOf (s.chan c).dem k || bitOf (s.chan c).trip k

/-- The role is one of the three, and BENCH while the straps were invalid (R23). -/
def State.roleOk (s : State) : Bool :=
  (s.role == 1 || s.role == 2 || s.role == 3) && (!s.flag Reg.SUP_STRAP_ROLE_FAULT || s.role == 3)

/-- The sparse tables are in canonical form: the memory (addresses rise, no listed byte is what an unlisted one reads as),
the register file and the dictionary (keys rise). -/
def State.tidy (s : State) : Bool := Memory.wf s.mem && Map.sorted s.regs && Map.sorted s.dict

end Sys2Proof.Machine
end

