-- ==== Sys2Proof/Certificates/Slice0/Obligations.lean ====
section
/-! DEFINITION. The statements for the provers. Each command completes (`Does`): its meaning answers a next state, which differs from the state
before at most in the parts named, and of which the clause says what holds. -/

open Sys2Proof Sys2Proof.Machine

/-- R545, R546, R568, R580: the commands that reset the hub hold it in reset, with the cause of each; the safety die goes on
(R26), and what Cask and flash hold stays. That a power-on reset leaves the Grist store and the tile SRAMs without contents,
and that any other reset keeps them, is the model's choice (log entry 5).
A clause on a corner that the rules leave open follows the choice of the model (log entries 4, 12 and 13). -/
def Obligations.ResetCommands : Prop :=
  (∀ s, Does .porstNLow s (Part.allBut [.fresh]) fun t => t.hub.held = true ∧ t.hub.por = true ∧ t.dip = true ∧
    t.rd Reg.SUP_RESET_CAUSE_CAUSE = (if s.health.exhausted then 65 else 1) ∧ t.safety.chans = s.safety.chans ∧
    t.safety.state = s.safety.state ∧ t.hub.flash = s.hub.flash ∧ ∀ a, Memory.get t.mem a = 0) ∧
  (∀ s, Does .referenceLost s (Part.allBut [.fresh]) fun t => exec .porstNLow s = .next t) ∧
  (∀ s, (s.hub.held && s.hub.por) = false → Does .vcoreBelow060 s (Part.allBut [.fresh]) fun t => t.hub.held = true ∧ t.dip = true ∧
    t.rd Reg.SUP_RESET_CAUSE_CAUSE = 2 ∧ t.safety.chans = s.safety.chans ∧ t.safety.state = s.safety.state ∧
    t.hub.flash = s.hub.flash ∧ ∀ a, Memory.get t.mem a = Memory.get s.mem a) ∧
  (∀ s, (s.hub.held && s.hub.por) = false → Does .jtagHubReset s (Part.allBut [.fresh]) fun t => t.hub.held = true ∧ t.hub.tapIr = 0x21 ∧
    t.rd Reg.SUP_RESET_CAUSE_CAUSE = 32 ∧ t.safety.chans = s.safety.chans ∧ t.safety.state = s.safety.state) ∧
  (∀ s, Does .jtagTapReset s [.hub] fun t => t.hub = { s.hub with tapIr := 1 }) ∧
  (∀ s, (s.hub.held && s.hub.por) = false → Does (.supRestart 0x52535452) s (Part.allBut [.fresh]) fun t => t.hub.held = true ∧
    t.rd Reg.SUP_RESET_CAUSE_CAUSE = 16 ∧ t.safety.chans = s.safety.chans ∧ t.safety.state = s.safety.state) ∧
  (∀ s key, key ≠ 0x52535452 → exec (.supRestart key) s = .next s)

/-- R554, R558, R551: the core watchdog and the trial of an image. EN of SUP_WDT_CFG stays set once set; an expired deadline
of a watched core resets the hub with cause WATCHDOG, an expired trial with cause TRIAL.
A clause on a corner that the rules leave open follows the choice of the model (log entries 3 and 50). -/
def Obligations.WatchdogCommands : Prop :=
  (∀ s v, s.flag Reg.SUP_WDT_CFG_EN = false → Does (.watchdogEnable v) s [.hub, .regs .sup] fun t =>
    t.rd Reg.SUP_WDT_CFG_EN = v.toNat / 2 ^ 31 % 2 ∧ t.rd Reg.SUP_WDT_CFG_CORE_MASK = v.toNat / 2 ^ 16 % 16 ∧
    (10 ≤ v.toNat % 2 ^ 14 ∧ v.toNat % 2 ^ 14 ≤ 10000 → t.rd Reg.SUP_WDT_CFG_TIMEOUT_MS = v.toNat % 2 ^ 14)) ∧
  (∀ s v, s.flag Reg.SUP_WDT_CFG_EN = true → exec (.watchdogEnable v) s = .next s) ∧
  (∀ s core, Does (.watchdogKick core) s [.hub] fun t => Map.get 0 t.hub.kicks core.val = s.tb3 ∧
    t.hub = { s.hub with kicks := t.hub.kicks }) ∧
  (∀ s, s.watchdogLate = true → (s.hub.held && s.hub.por) = false → Does .watchdogExpiry s (Part.allBut [.fresh]) fun t =>
    t.hub.held = true ∧ t.rd Reg.SUP_RESET_CAUSE_CAUSE = 4 ∧ t.safety.state = s.safety.state) ∧
  (∀ s, Does .trialConfirm s [.hub, .regs .sup] fun t => t.flag Reg.SUP_BOOT_CONFIRMED = true ∧ t.hub = { s.hub with trial := none } ∧
    RegsBut [Reg.SUP_BOOT_CONFIRMED.key 0 0] s t) ∧
  (∀ s, s.hub.trial.isSome = true → s.trialLeft = 0 → (s.hub.held && s.hub.por) = false → Does .trialExpiry s (Part.allBut [.fresh]) fun t =>
    t.hub.held = true ∧ t.rd Reg.SUP_RESET_CAUSE_CAUSE = 8 ∧ t.safety.state = s.safety.state)


/-- R541, R548, R550, R552, R564: the start of the hub. The release of the hub reset ends the hold; the boot ROM checks a
slot, enters an image that passes, goes on with the next slot or stays in recovery; a rail below its reset threshold resets
the hub, or stops the safety die when it is VSAFE.
A clause on a corner that the rules leave open follows the choice of the model (log entries 13, 50, 51 and 52). -/
def Obligations.StartCommands : Prop :=
  (∀ s role profile cal bad copies, s.hub.held = true → s.health.exhausted = false →
    Does (.hubResetRelease false role profile cal bad copies) s [.dict, .fresh, .time, .health, .zdp, .ports, .loop, .hub, .fabric, .regs .grist, .regs .gauge, .regs .lt, .regs .le, .regs .pf, .regs .can, .regs .em, .regs .xl, .regs .su, .regs .cnt, .regs .hl, .regs .cg, .regs .sup] fun t => t.hub.held = false ∧ t.hub.flash = s.hub.flash) ∧
  (∀ s role profile cal bad copies, exec (.hubResetRelease true role profile cal bad copies) s = .next s) ∧
  (∀ s readOk slot rest, s.hub.held = false → s.hub.entered = false → s.hub.trying = slot :: rest →
    Does (.imageVerify readOk) s (Part.allBut [.latch, .readData, .coreFaults, .outcome, .gate, .safety, .fabric, .pfu]) fun t =>
    (if s.imageCheck slot readOk (s.hub.record.getD {}).floor (s.hub.record.getD {}).pin = 0
     then t.hub.entered = true ∧ t.hub.trying = []
     else t.hub.entered = false ∧ t.hub.trying = rest ∧ (rest = [] → t.rd Reg.SUP_BOOT_SLOT = 2))) ∧
  (∀ s, s.flag Reg.GRIST_STATUS_REPLANNING = true → Does .tableReplace s [.fresh, .health, .zdp, .safety, .hub, .fabric, .regs .grist, .regs .cnt, .regs .hl] fun t => t.hub.entered = s.hub.entered ∧
    t.hub.held = s.hub.held) ∧
  (∀ s bad, s.hub.entered = true → s.hub.replayed = false → Does (.replayComplete bad) s (Part.allBut [.latch, .readData, .coreFaults, .time, .stages]) fun t =>
    t.hub.replayed = true ∧ t.hub.flash = s.hub.flash) ∧
  (∀ s, Does (.railBelowReset .vsafe) s (Part.allBut [.fresh]) fun t => t.safety.live = false ∧ t.safety.state = s.safety.state ∧ t.regs = s.regs) ∧
  (∀ s, (s.hub.held && s.hub.por) = false → Does (.railBelowReset .vcore) s (Part.allBut [.fresh]) fun t => t.hub.held = true ∧
    t.rd Reg.SUP_RESET_CAUSE_CAUSE = 2) ∧
  (∀ s, Does (.railBelowReset .vhub) s (Part.allBut [.fresh]) fun t => t.hub.held = true ∧ t.hub.por = true) ∧
  (∀ s, Does (.railBelowReset .vio33s) s (Part.allBut [.fresh]) fun t => t.regs = s.regs ∧ t.hub = s.hub)

/-- R556, R557, R559, R560, R552: flash, the boot record and the restart out of recovery. A chunk is staged for the slot that
is not booted while no job runs; the program, erase and check jobs end the job; the boot-record orders write the record.
A clause on a corner that the rules leave open follows the choice of the model (log entries 50 and 72). -/
def Obligations.FlashCommands : Prop :=
  (∀ s offset data, s.hub.job = .idle → 1 ≤ data.length → data.length ≤ 4088 → offset.toNat % 8 = 0 →
    Does (.flashChunk offset data) s [.outcome, .hub] fun t => (if offset.toNat + data.length ≤ Config.flashSlotSize
    then t.outcome = 0 ∧ t.hub = { s.hub with job := .programming offset.toNat data, check := none }
    else t.outcome = 13 ∧ t.hub = s.hub)) ∧
  (∀ s offset data, s.hub.job ≠ .idle → Does (.flashChunk offset data) s [.outcome, .hub] fun t => t.outcome = 16 ∧ t.hub = s.hub) ∧
  (∀ s off data, s.hub.job = .programming off data → Does .flashProgramDone s [.hub] fun t => t.hub.job = FlashJob.idle ∧
    t.hub.programmed = s.hub.programmed + data.length ∧
    Map.get [] t.hub.flash s.idleSlot = flashPut (Map.get [] s.hub.flash s.idleSlot) off data) ∧
  (∀ s, s.hub.job = .erasing → Does .flashProgramDone s [.hub] fun t => t.hub.job = FlashJob.idle ∧
    Map.get [] t.hub.flash s.idleSlot = []) ∧
  (∀ s, s.hub.job = .idle → Does .flashErase s [.outcome, .hub] fun t => t.outcome = 0 ∧ t.hub = { s.hub with job := .erasing, check := none }) ∧
  (∀ s, s.hub.job = .idle → Does .flashCheck s [.outcome, .hub] fun t => t.outcome = 0 ∧ t.hub = { s.hub with job := .checking }) ∧
  (∀ s readOk, s.hub.job = .checking → Does (.flashCheckDone readOk) s [.hub] fun t => t.hub.job = FlashJob.idle ∧
    t.hub.check = some (s.imageCheck s.idleSlot readOk s.hub.nextRecord.floor s.hub.nextRecord.pin)) ∧
  (∀ s slot flags, s.activateRefusal slot.toNat flags.toNat = 0 → Does (.activate slot flags) s [.outcome, .hub] fun t => t.outcome = 0 ∧
    t.hub.writeB = !s.hub.writeB ∧ (if s.hub.writeB then t.hub.copyB else t.hub.copyA).slot = slot.toNat ∧
    (if s.hub.writeB then t.hub.copyB else t.hub.copyA).trial = true) ∧
  (∀ s slot, Does (.bootResult slot 1) s [.dict, .outcome, .fresh, .health, .zdp, .ports, .hub, .regs .cnt, .regs .hl] fun t => t.outcome = 0 ∧ t.hub.writeB = !s.hub.writeB ∧
    (if s.hub.writeB then t.hub.copyB else t.hub.copyA).trial = false ∧
    (if s.hub.writeB then t.hub.copyB else t.hub.copyA).slot = s.hub.nextRecord.slot) ∧
  (∀ s floor, s.floorRefusal floor.toNat = 0 → Does (.rollbackFloor floor) s [.outcome, .hub] fun t => t.outcome = 0 ∧
    (if s.hub.writeB then t.hub.copyB else t.hub.copyA).floor = floor.toNat) ∧
  (∀ s pin, s.pinRefusal pin = 0 → Does (.keyPin pin) s [.outcome, .hub] fun t => t.outcome = 0 ∧
    (if s.hub.writeB then t.hub.copyB else t.hub.copyA).pin = pin) ∧
  (∀ s, s.rebootRefusal = 0 → (s.hub.held && s.hub.por) = false → Does .reboot s (Part.allBut [.fresh]) fun t => t.hub.held = true ∧
    t.rd Reg.SUP_RESET_CAUSE_CAUSE = 16) ∧
  (∀ s, s.inRecovery = false → Does .reboot s (Part.allBut [.fresh]) fun t => t.outcome = 15 ∧ t.hub = s.hub ∧ t.regs = s.regs)


/-- R56, R57, R58, R65, R66, R70, R71: Gauge's measurements. A window's readings go to the registers; without valid
calibration no factor is formed; a breach ends after 100 ms and raises its ALARM after 10 s; a sample of the reference
monitors gives each powered tile its retention; the kiln margin and the forecast are recomputed from the stress so far.
A clause on a corner that the rules leave open follows the choice of the model (log entries 3 and 22). -/
def Obligations.GaugeMeasurements : Prop :=
  (∀ s w, Does (.gaugeWindow w) s [.dict, .fresh, .health, .zdp, .ports, .fabric, .regs .grist, .regs .gauge, .regs .cnt, .regs .hl, .regs .tile] fun t => t.rd Reg.GAUGE_VCORE_NOW = w.vcore.toNat ∧
    t.rd Reg.GAUGE_VCORE_MIN = min w.vcore.toNat (s.rd Reg.GAUGE_VCORE_MIN)) ∧
  (∀ s w, s.fabric.gauge.cal = none → Does (.gaugeWindow w) s [.dict, .fresh, .health, .zdp, .ports, .fabric, .regs .grist, .regs .gauge, .regs .cnt, .regs .hl, .regs .tile] fun t =>
    t.flag Reg.GAUGE_STATUS_VCORE_WARN = decide (w.vcore.toNat < 2720) ∧ t.fabric.tiles = s.fabric.tiles ∧
    ∀ n, t.rd Reg.GAUGE_SPEED_MEASURED n = s.rd Reg.GAUGE_SPEED_MEASURED n) ∧
  (∀ s tile since, (s.gtile tile).okSince = some since → s.elapsed since 100000000 = true →
    Does (.breachEnd tile) s [.fabric, .regs .grist, .regs .gauge] fun t => t.flag Reg.GAUGE_FLAGS_BREACH tile = false ∧ t.mem = s.mem) ∧
  (∀ s tile since, (s.gtile tile).breachAt = some since → s.elapsed since 10000000000 = true →
    (s.gtile tile).alarmed = false → Does (.breachAlarm tile) s [.dict, .fresh, .health, .zdp, .ports, .fabric, .regs .cnt, .regs .hl] fun t => (t.gtile tile).alarmed = true ∧
    t.fabric.tiles = s.fabric.tiles) ∧
  (∀ s ratios c n, s.fabric.gauge.cal = some c → n < 32 → s.tilePowered n = true → Does (.refMonitorSample ratios) s [.fabric] fun t =>
    (t.gtile n).retention = ratios.getD n 0 / c.refRatio.getD n 1 ∧ t.fabric.gauge.refDue = false) ∧
  (∀ s, Does .refSample s [.fabric] fun t => t.fabric.gauge = { s.fabric.gauge with refDue := true } ∧
    t.fabric.tiles = s.fabric.tiles) ∧
  (∀ s, Does .kilnRun s [.dict, .fresh, .health, .zdp, .ports, .regs .grist, .regs .gauge, .regs .cnt, .regs .hl] fun t => t.rd Reg.GAUGE_KILN_MARGIN = s.kilnMargin % 2 ^ 16 ∧
    (s.capacityIn 0 < (s.required : Rat) / 10 → t.rd Reg.GAUGE_KILN_MARGIN = 0)) ∧
  (∀ s n, n < 32 → s.tilePowered n = false → Does .ageingForecast s [.regs .grist, .regs .gauge] fun t => t.rd Reg.GAUGE_SPEED_FLOOR n = 0 ∧
    t.rd Reg.GAUGE_DIPT_AGE n = toUq214 (s.ageIn n (30 * 4 / 1461)) % 2 ^ 16)

/-- R60, R61, R62, R63, R67, R68, R73, R428: dips, temperature, stress and the daily record. A dip starts below 0.68 V; it
raises DIP_ENTER and counts, and the journal holds; at 500 ms DIP_LONG is raised; a sensor above 140 °C raises TEMP_HIGH.
A clause on a corner that the rules leave open follows the choice of the model (log entries 3, 22 and 23). -/
def Obligations.DipAndStress : Prop :=
  (∀ s vcore, s.dip = false → vcore.toNat < 2720 → Does (.dipStart vcore) s [.fresh, .health, .zdp, .ports, .journal, .fabric, .regs .grist, .regs .gauge, .regs .cnt, .regs .hl, .regs .je] fun t => t.dip = true ∧
    t.flag Reg.GRIST_IRQ_DIP_ENTER = true ∧ t.flag Reg.GRIST_STATUS_DIP = true ∧ t.fabric.gauge.dips = s.fabric.gauge.dips + 1 ∧
    t.fabric.gauge.dipAt = s.tb3 ∧
    t.rd Reg.GAUGE_DIP_COUNT = min (2 ^ 16 - 1) (s.rd Reg.GAUGE_DIP_COUNT + 1)) ∧
  (∀ s vcore, 2720 ≤ vcore.toNat → exec (.dipStart vcore) s = .next s) ∧
  (∀ s, s.dip = true → s.flag Reg.GAUGE_STATUS_DIP_LONG = false → s.elapsed s.fabric.gauge.dipAt 500000000 = true →
    Does .dipLong s [.dict, .fresh, .health, .zdp, .ports, .journal, .regs .grist, .regs .gauge, .regs .cnt, .regs .hl, .regs .je] fun t => t.flag Reg.GAUGE_STATUS_DIP_LONG = true ∧ t.flag Reg.GRIST_IRQ_DIP_LONG = true) ∧
  (∀ s sensor reading, s.flag Reg.GAUGE_STATUS_TEMP_HIGH = false → 1120 < signed 16 reading.toNat →
    Does (.tempHigh sensor reading) s [.dict, .fresh, .health, .zdp, .ports, .regs .gauge, .regs .cnt, .regs .hl] fun t => t.flag Reg.GAUGE_STATUS_TEMP_HIGH = true ∧ t.fabric = s.fabric) ∧
  (∀ s sensor reading, signed 16 reading.toNat ≤ 1120 → exec (.tempHigh sensor reading) s = .next s) ∧
  (∀ s tiles n, n < 32 → s.tilePowered n = false → Does (.stressUpdate tiles) s [.fabric] fun t => t.gtile n = s.gtile n) ∧
  (∀ s, s.fabric.gauge.ring.length < 1792 → Does .dailyRecord s [.dict, .fresh, .health, .zdp, .ports, .fabric, .regs .grist, .regs .gauge, .regs .cnt, .regs .hl] fun t =>
    t.fabric.gauge.ring.length = s.fabric.gauge.ring.length + 1 ∧ t.fabric.gauge.nextDay = s.fabric.gauge.nextDay + 1)


/-- R71, R77, R85, R86, R93, R95, R117, R118: Grist. A requirement starts a re-plan; a descriptor written while a decision of the core
is open sets OVERRUN and nothing else, otherwise the decision opens; a verdict closes it and counts; a job starts once RELEASE
has come and the link before it is delivered; at C a job that runs starts its fallback; a delivery frees the context.
A clause on a corner that the rules leave open follows the choice of the model (log entry 24). -/
def Obligations.AdmissionCommands : Prop :=
  (∀ s, Does .replan s [.regs .grist] fun t => t.flag Reg.GRIST_STATUS_REPLANNING = true ∧
    RegsBut [Reg.GRIST_STATUS_REPLANNING.key 0 0] s t) ∧
  (∀ s core v, Does (.requirementWrite core 0 v) s [.dict, .fresh, .health, .zdp, .ports, .regs .grist, .regs .gauge, .regs .cnt, .regs .hl] fun t => t.rd Reg.GRIST_REQ0_REQ = v.toNat % 2 ^ 16 ∧
    t.flag Reg.GRIST_STATUS_REPLANNING = true) ∧
  (∀ s core v, Does (.requirementWrite core 1 v) s [.dict, .fresh, .health, .zdp, .ports, .regs .grist, .regs .gauge, .regs .cnt, .regs .hl] fun t => t.rd Reg.GRIST_REQ1_REQ = v.toNat % 2 ^ 16 ∧
    t.flag Reg.GRIST_STATUS_REPLANNING = true) ∧
  (∀ s core v, Does (.requirementWrite core 2 v) s [.dict, .fresh, .health, .zdp, .ports, .regs .grist, .regs .gauge, .regs .cnt, .regs .hl] fun t => t.rd Reg.GRIST_REQ2_REQ = v.toNat % 2 ^ 16 ∧
    t.flag Reg.GRIST_STATUS_REPLANNING = true) ∧
  (∀ s core v, Does (.requirementWrite core 3 v) s [.dict, .fresh, .health, .zdp, .ports, .regs .grist, .regs .gauge, .regs .cnt, .regs .hl] fun t => t.rd Reg.GRIST_REQ3_REQ = v.toNat % 2 ^ 16 ∧
    t.flag Reg.GRIST_STATUS_REPLANNING = true) ∧
  (∀ s core v, exec (.requirementWrite core 4 v) s = .next s) ∧
  (∀ s core v, Does (.requirementWrite core 5 v) s [.dict, .fresh, .health, .zdp, .ports, .regs .grist, .regs .gauge, .regs .cnt, .regs .hl] fun t => t.rd Reg.GRIST_REQ1MIN_REQ = v.toNat % 2 ^ 16 ∧
    t.flag Reg.GRIST_STATUS_REPLANNING = true) ∧
  (∀ s core v, s.flag Reg.GRIST_VERDICT_PENDING core = true → Does (.gristAdmit core v) s [.fabric, .regs .grist] fun t =>
    t.flag Reg.GRIST_VERDICT_OVERRUN core = true ∧ t.fabric = s.fabric ∧
    RegsBut [Reg.GRIST_VERDICT_OVERRUN.key core 0] s t) ∧
  (∀ s core v, s.flag Reg.GRIST_VERDICT_PENDING core = false → Does (.gristAdmit core v) s [.fabric, .regs .grist] fun t =>
    t.flag Reg.GRIST_VERDICT_PENDING core = true ∧ Map.get none t.fabric.grist.open_ core =
      some (⟨v.toNat % 2 ^ 20 * 128, s.rd Reg.GRIST_STATUS_TABLE_GEN, s.dip, s.tb3⟩ : Decision) ∧
    t.fabric.grist.jobs = s.fabric.grist.jobs ∧ RegsBut [Reg.GRIST_VERDICT_PENDING.key core 0] s t) ∧
  (∀ s (core : Fin 4) d, Map.get none s.fabric.grist.open_ core = some d → Does (.verdictPost core) s [.mem, .poisoned, .fresh, .health, .zdp, .claims, .loop, .can, .fabric, .regs .grist, .regs .le, .regs .can, .regs .cnt, .regs .hl, .regs .tile] fun t =>
    t.flag Reg.GRIST_VERDICT_PENDING core = false ∧ Map.get none t.fabric.grist.open_ core = none ∧
    t.rd Reg.GRIST_VERDICT_SEQ core = (s.rd Reg.GRIST_VERDICT_SEQ core + 1) % 2 ^ 16 ∧
    (t.flag Reg.GRIST_VERDICT_ADMITTED core = true → t.rd Reg.GRIST_VERDICT_REASON core = 0)) ∧
  (∀ s (core : Fin 4), Map.get none s.fabric.grist.open_ core = none → exec (.verdictPost core) s = .next s) ∧
  (∀ s ctx j, s.job ctx.toNat = some j → j.phase = .waiting → j.prev = none → j.release ≤ s.tb3 →
    Does (.linkStart ctx) s [.mem, .poisoned, .health, .claims, .loop, .can, .fabric, .regs .le, .regs .can, .regs .cnt, .regs .tile] fun t => (t.job ctx.toNat).any (fun k : JobSt => k.phase != .waiting) = true) ∧
  (∀ s ctx j, s.job ctx.toNat = some j → s.tb3 < j.release → exec (.linkStart ctx) s = .next s) ∧
  (∀ s ctx j, s.job ctx.toNat = some j → j.phase = .running → j.cutoff ≤ (s.tb3 : Rat) → Does (.cutoff ctx) s [.fabric, .regs .tile] fun t =>
    (t.job ctx.toNat).any (fun k : JobSt => k.phase == .fallback) = true) ∧
  (∀ s ctx j, s.job ctx.toNat = some j → (s.tb3 : Rat) < j.cutoff → exec (.cutoff ctx) s = .next s) ∧
  (∀ s ctx lost case j, s.job ctx.toNat = some j → j.phase = .complete ∨ j.phase = .fallback →
    Does (.jobDelivery ctx lost case) s [.mem, .dict, .poisoned, .fresh, .health, .zdp, .ports, .journal, .claims, .loop, .can, .safety, .fabric, .stages, .regs .grist, .regs .le, .regs .can, .regs .cnt, .regs .hl, .regs .je, .regs .tile] fun t => t.job ctx.toNat = none) ∧
  (∀ s ctx lost case j, s.job ctx.toNat = some j → j.phase = .waiting ∨ j.phase = .running →
    exec (.jobDelivery ctx lost case) s = .next s)

/-- R28, R98, R109, R119, R122: the tiles. The operation that completes takes effect and the sequencer goes on; a corrected
word is counted; TILE_CTRL acts only in the states that allow it and sets CTRL_IGNORED in the others; the third failed
attempt on a die link retires the link.
A clause on a corner that the rules leave open follows the choice of the model (log entries 26 and 27). -/
def Obligations.TileCommands : Prop :=
  (∀ s tile, (s.tile tile).cur = none → exec (.operationComplete tile) s = .next s) ∧
  (∀ s tile r, (s.tile tile).cur = some r → s.job r.ctx = none → Does (.operationComplete tile) s [.mem, .dict, .poisoned, .fresh, .health, .zdp, .ports, .journal, .claims, .loop, .can, .fabric, .regs .le, .regs .can, .regs .cnt, .regs .hl, .regs .je, .regs .tile] fun t =>
    t = (s.setTile tile fun x => { x with cur := none }).runTile tile) ∧
  (∀ s tile r, (s.tile tile).cur = some r → (s.tile tile).dmas = [] → Does (.operationComplete tile) s [.mem, .dict, .poisoned, .fresh, .health, .zdp, .ports, .journal, .claims, .loop, .can, .fabric, .regs .le, .regs .can, .regs .cnt, .regs .hl, .regs .je, .regs .tile] fun t =>
    t = ((s.setTile tile fun x => { x with cur := none }).finishOp tile r).runTile tile) ∧
  (∀ s tile, (s.tile tile).dmas = [] → exec (.dmaComplete tile) s = .next s) ∧
  (∀ s tile r rs, (s.tile tile).dmas = r :: rs → Does (.dmaComplete tile) s [.mem, .dict, .poisoned, .fresh, .health, .zdp, .ports, .journal, .claims, .loop, .can, .fabric, .regs .le, .regs .can, .regs .cnt, .regs .hl, .regs .je, .regs .tile] fun t =>
    t = ((s.setTile tile fun x => { x with dmas := rs }).finishOp tile r).runTile tile) ∧
  (∀ s tile word, s.tilePowered tile = true → Does (.tileError tile .corrected word) s [.dict, .fresh, .health, .zdp, .ports, .fabric, .regs .grist, .regs .gauge, .regs .cnt, .regs .hl, .regs .tile] fun t =>
    t.flag Reg.TILE_ERR_CE tile = true ∧
    t.rd Reg.TILE_CE_COUNT_COUNT tile = min (2 ^ 32 - 1) (s.rd Reg.TILE_CE_COUNT_COUNT tile + 1)) ∧
  (∀ s tile word, s.tilePowered tile = true → Does (.tileError tile .uncorrectable word) s [.dict, .fresh, .health, .zdp, .ports, .fabric, .regs .grist, .regs .gauge, .regs .cnt, .regs .hl, .regs .tile] fun t =>
    t.flag Reg.TILE_ERR_UE tile = true ∧ t.flag Reg.TILE_UE_ADDR_VALID tile = true ∧
    t.rd Reg.TILE_UE_ADDR_WORD tile = word.toNat) ∧
  (∀ s tile kind word, s.tilePowered tile = false → exec (.tileError tile kind word) s = .next s) ∧
  (∀ s tile, s.tileInService tile = true → Does (.tileDrain tile) s [.health, .fabric, .regs .grist, .regs .tile] fun t => (t.tile tile).mode ≠ .normal ∧
    t.flag Reg.GRIST_STATUS_REPLANNING = true) ∧
  (∀ s tile, s.tileInService tile = false → Does (.tileDrain tile) s [.health, .fabric, .regs .grist, .regs .tile] fun t => t.fabric = s.fabric ∧
    t.flag Reg.TILE_ERR_CTRL_IGNORED tile = true ∧ RegsBut [Reg.TILE_ERR_CTRL_IGNORED.key tile 0] s t) ∧
  (∀ s tile, s.tilePowered tile = true → (s.tile tile).mode = .offline → Does (.tileBistStart tile) s [.health, .fabric, .regs .tile] fun t =>
    (t.tile tile).mode = .bist ∧ t.flag Reg.TILE_BIST_DONE tile = false ∧ t.flag Reg.TILE_BIST_PASS tile = false) ∧
  (∀ s tile, (s.tile tile).mode = .normal → Does (.tileBistStart tile) s [.health, .fabric, .regs .tile] fun t => t.fabric = s.fabric ∧
    t.flag Reg.TILE_ERR_CTRL_IGNORED tile = true ∧ RegsBut [Reg.TILE_ERR_CTRL_IGNORED.key tile 0] s t) ∧
  (∀ s tile pass step elapsed, (s.tile tile).mode = .bist → Does (.tileBistDone tile pass step elapsed) s [.mem, .dict, .poisoned, .fresh, .health, .zdp, .ports, .journal, .claims, .loop, .can, .fabric, .regs .grist, .regs .gauge, .regs .le, .regs .can, .regs .cnt, .regs .hl, .regs .je, .regs .tile] fun t =>
    t.flag Reg.TILE_BIST_DONE tile = true ∧ t.flag Reg.TILE_BIST_PASS tile = pass ∧
    t.rd Reg.TILE_BIST_ELAPSED tile = elapsed.toNat) ∧
  (∀ s tile step elapsed, (s.tile tile).mode = .bist → s.retired tile = false →
    Does (.tileBistDone tile true step elapsed) s [.mem, .dict, .poisoned, .fresh, .health, .zdp, .ports, .journal, .claims, .loop, .can, .fabric, .regs .grist, .regs .gauge, .regs .le, .regs .can, .regs .cnt, .regs .hl, .regs .je, .regs .tile] fun t => (t.tile tile).mode = .offline ∧ t.fabric.gauge = s.fabric.gauge) ∧
  (∀ s tile pass step elapsed, (s.tile tile).mode ≠ .bist → exec (.tileBistDone tile pass step elapsed) s = .next s) ∧
  (∀ s tile, s.tilePowered tile = true → (s.tile tile).mode = .offline → Does (.tileOnline tile) s [.dict, .fresh, .health, .zdp, .ports, .fabric, .regs .grist, .regs .gauge, .regs .cnt, .regs .hl, .regs .tile] fun t =>
    (t.tile tile).mode = .normal ∧ (t.tile tile).cur = none ∧ t.flag Reg.GRIST_STATUS_REPLANNING = true) ∧
  (∀ s tile, (s.tile tile).mode = .normal → Does (.tileOnline tile) s [.dict, .fresh, .health, .zdp, .ports, .fabric, .regs .grist, .regs .gauge, .regs .cnt, .regs .hl, .regs .tile] fun t => t.fabric = s.fabric ∧
    t.flag Reg.TILE_ERR_CTRL_IGNORED tile = true ∧ RegsBut [Reg.TILE_ERR_CTRL_IGNORED.key tile 0] s t) ∧
  (∀ s link, link.val < 3 → s.retired (96 + link.val) = false → Does (.dieLinkCheckFail link 2) s [.dict, .fresh, .health, .zdp, .ports, .journal, .fabric, .regs .grist, .regs .gauge, .regs .cnt, .regs .hl, .regs .je, .regs .tile] fun t =>
    t.retired (96 + link.val) = true) ∧
  (∀ s link attempt, link.val < 3 → s.retired (96 + link.val) = true →
    exec (.dieLinkCheckFail link attempt) s = .next s)


/-- R33, R36, R77, R126, R127, R143, R150, R152, R153, R189: the pipeline's start and boundaries, the estimator and the planner. The
pipeline starts with TB0 locked, outside GATE role; a 10 s boundary takes the delayed settings and re-plans Grist, once; a record
that fails its CRC is discarded and counted; a new datum waits for the boundary; a release numbers its cycle.
A clause on a corner that the rules leave open follows the choice of the model (log entries 28, 29 and 30). -/
def Obligations.PipelineCommands : Prop :=
  (∀ s, s.gateRole = false → s.pipeRun = false → s.tb0Locked = true → Does .pipelineStart s [.mem, .dict, .poisoned, .fresh, .health, .zdp, .ports, .journal, .claims, .loop, .can, .fabric, .stages, .regs .le, .regs .tu, .regs .can, .regs .cnt, .regs .hl, .regs .je] fun t => t.pipeRun = true ∧
    t.objN Obj.PHASE_PHASE_STATE = 1 ∧ t.fabric.pipe.stages = [] ∧ t.stages.est.first = true ∧
    t.fabric.pipe.phases = s.phaseObjects ∧ t.stages.inForce = s.takeSettings.stages.inForce ∧ t.mem = s.mem) ∧
  (∀ s, s.gateRole = true → exec .pipelineStart s = .next s) ∧
  (∀ s w, s.fabric.pipe.boundary ≠ some (s.now 0 / 10000000000 * 10) → Does (.tenSecondBoundary w) s [.dict, .fresh, .time, .health, .zdp, .ports, .journal, .claims, .fabric, .stages, .regs .grist, .regs .gauge, .regs .cnt, .regs .hl, .regs .je] fun t =>
    t.fabric.pipe.boundary = some (s.now 0 / 10000000000 * 10) ∧ t.fabric.pipe.phases = s.phaseObjects ∧
    t.flag Reg.GRIST_STATUS_REPLANNING = true) ∧
  (∀ s w, s.fabric.pipe.boundary = some (s.now 0 / 10000000000 * 10) → exec (.tenSecondBoundary w) s = .next s) ∧
  (∀ s r k, s.gateRole = false → reportOf (leAt r 0 1) = some k → r.length ≠ 64 → Does (.measurementRecord r) s [.dict, .fresh, .health, .zdp, .stages, .regs .cnt, .regs .hl] fun t =>
    t.objN (refObj Obj.PS_DISCARDED k) = (s.objN (refObj Obj.PS_DISCARDED k) + 1) % 2 ^ 32 ∧ t.stages = s.stages ∧
    ObjsBut [(refObj Obj.PS_DISCARDED k).key 0 0] s t) ∧
  (∀ s r k, s.gateRole = false → reportOf (leAt r 0 1) = some k → r.length = 64 → crc32 (r.take 60) = leAt r 60 4 →
    Does (.measurementRecord r) s [.dict, .fresh, .health, .zdp, .stages, .regs .cnt, .regs .hl] fun t => t = s.takeRec k (MeasRec.ofBytes r) (bitOf (leAt r 2 2) 1)) ∧
  (∀ s x, s.pipeRun = true → Does (.estimationRelease x) s [.dict, .fresh, .health, .zdp, .ports, .fabric, .stages, .regs .cnt, .regs .hl] fun t => (t.stage 1).cycle = (s.stage 1).cycle + 1 ∧
    (t.stage 1).current = (s.stage 1).cycle ∧ (t.stage 1).tref = stampOf (s.period 100)) ∧
  (∀ s x, s.pipeRun = false → exec (.estimationRelease x) s = .next s) ∧
  (∀ s lat lon, floatFinite 11 52 lat.toNat = true → floatFinite 11 52 lon.toNat = true → Does (.datumOrder lat lon) s [.dict, .outcome, .stages] fun t =>
    t.outcome = 0 ∧ t.stages.est.datum = some (lat.toNat, lon.toNat) ∧
    t.objBytes Obj.EST_DATUM_ORDER = leBytes 8 lat.toNat ++ leBytes 8 lon.toNat ∧
    ObjsBut [Obj.EST_DATUM_ORDER.key 0 0] s t) ∧
  (∀ s lat lon, floatFinite 11 52 lat.toNat = false → Does (.datumOrder lat lon) s [.dict, .outcome, .stages] fun t =>
    t.outcome = 13 ∧ t.stages = s.stages ∧ t.dict = s.dict) ∧
  (∀ s slot v, v.toNat ≠ 1 → Does (.layDown slot v) s [.dict, .outcome, .stages] fun t => t.outcome = 13 ∧ t.stages = s.stages ∧ t.dict = s.dict) ∧
  (∀ s slot a m, (s.stage 1).latest = some a → ((s.ref slot).fresh_ ++ (s.ref slot).window).getLast? = some m →
    Does (.layDown slot 1) s [.dict, .outcome, .stages] fun t => t.outcome = 0 ∧ (t.ref slot).laid = true ∧ t.objN Obj.PS_LAY_DOWN slot = 1) ∧
  (∀ s slot, (s.stage 1).latest = none → Does (.layDown slot 1) s [.dict, .outcome, .stages] fun t => t.outcome = 15 ∧ t.stages = s.stages ∧
    t.dict = s.dict) ∧
  (∀ s x, s.pipeRun = true → Does (.planningRelease x) s [.dict, .fresh, .health, .zdp, .fabric, .stages, .regs .cnt, .regs .hl] fun t => (t.stage 3).cycle = (s.stage 3).cycle + 1 ∧
    (t.stage 3).tref = stampOf (s.period 500 + 500000000)) ∧
  (∀ s x, s.pipeRun = false → exec (.planningRelease x) s = .next s)

/-- R157, R158, R164, R213, R222, R223, R444: the visual reference, the consequence analysis and the vote. A datagram that is not
well formed is dropped and counted; a frame not complete 100 ms after its first part is dropped; a camera without a frame for
3 s is lost; a release numbers its cycle; a publication is submitted once; a plan is voted on once.
A clause on a corner that the rules leave open follows the choice of the model (log entries 31, 32, 33 and 35). -/
def Obligations.VisualAndConsequence : Prop :=
  (∀ s em d, s.gateRole = false → keypointOk d = false → Does (.keypointDatagram em d) s [.dict, .stages] fun t =>
    t.objN Obj.VIS_DROPPED = (s.objN Obj.VIS_DROPPED + 1) % 2 ^ 32 ∧ t.stages = s.stages ∧
    ObjsBut [Obj.VIS_DROPPED.key 0 0] s t) ∧
  (∀ s em d, s.gateRole = false → keypointOk d = true → s.classOf (em.val + 1) = 4 → Does (.keypointDatagram em d) s [.dict, .stages] fun t =>
    t = s.addPart (leAt d 5 1) d) ∧
  (∀ s em d, s.gateRole = true → exec (.keypointDatagram em d) s = .next s) ∧
  (∀ s camera, Does (.frameIncomplete camera) s [.dict, .stages] fun t => Map.get [] t.stages.vis.partial_ camera =
    (Map.get [] s.stages.vis.partial_ camera).filter (fun f => decide (s.tb3 < f.at_ + 100000000))) ∧
  (∀ s (camera : Fin 4) since, s.cfgB Obj.CAM_ENABLE camera = true → Map.get none s.stages.vis.lastAt camera = some since →
    s.elapsed since 3000000000 = true → Does (.cameraLost camera) s [.stages] fun t =>
    t.stages.vis.lost = setBit s.stages.vis.lost camera ∧ t.fabric = s.fabric) ∧
  (∀ s (camera : Fin 4), s.cfgB Obj.CAM_ENABLE camera = false → exec (.cameraLost camera) s = .next s) ∧
  (∀ s targets, s.pipeRun = true → s.objB Obj.VIS_VIS_ENABLE = true → Does (.visualRelease targets) s [.fresh, .health, .zdp, .fabric, .stages, .regs .cnt, .regs .hl] fun t =>
    (t.stage 2).cycle = (s.stage 2).cycle + 1 ∧ (t.stage 2).current = (s.stage 2).cycle) ∧
  (∀ s targets, s.pipeRun = false → exec (.visualRelease targets) s = .next s) ∧
  (∀ s, s.pipeRun = true → s.objB Obj.CA_CA_ENABLE = true → Does .caRelease s [.fresh, .health, .zdp, .fabric, .stages, .regs .cnt, .regs .hl] fun t =>
    (t.stage 4).cycle = (s.stage 4).cycle + 1 ∧ (t.stage 4).tref = stampOf (s.period 10000)) ∧
  (∀ s, s.pipeRun = false → exec .caRelease s = .next s) ∧
  (∀ s scratch, s.stages.ca.submitted = false → s.stages.ca.schedule.all (fun c => (s.caseSt c).judged) = true →
    Does (.caPublication scratch) s [.mem, .dict, .poisoned, .fresh, .health, .zdp, .ports, .fabric, .stages, .regs .cnt, .regs .hl] fun t => t.stages.ca.submitted = true) ∧
  (∀ s scratch, s.stages.ca.submitted = true → exec (.caPublication scratch) s = .next s) ∧
  (∀ s slot own body, s.claims.ownSummary = some own → (s.stage 3).latest = some body → s.pipeRun = true →
    s.claims.votedFor ≠ some own.planTref → own.planTref + s.phaseMs 4 * 1000000 ≤ s.now 0 + 505000000 →
    Does (.voteStart slot) s [.mem, .dict, .poisoned, .fresh, .health, .zdp, .claims, .loop, .fabric, .stages, .regs .le, .regs .cnt, .regs .hl] fun t => t.claims.votedFor = some own.planTref ∧
    (t.stage 5).cycle = (s.stage 5).cycle + 1) ∧
  (∀ s slot, s.claims.ownSummary = none → exec (.voteStart slot) s = .next s) ∧
  (∀ s slot own, s.claims.ownSummary = some own → s.claims.votedFor = some own.planTref → exec (.voteStart slot) s = .next s)


/-- R323, R328, R329, R331, R334: the bases. A step of a base moves its clock by the written span and counts in STEP_GEN; TB3, a
base that would go below 0 and a magnitude of a second or more are refused; a read of the count latches NS and SEC; a snapshot
takes all four bases at once; eight intervals without an offset hold the rate; RESYNC is refused above standby.
A clause on a corner that the rules leave open follows the choice of the model (log entry 41). -/
def Obligations.TimeBaseCommands : Prop :=
  (∀ s n d, d = s.rdS Reg.TB_STEP_SEC_STEP_SEC n * 1000000000 +
      (if bitOf (s.rd Reg.TB_STEP_NS_STEP_NS n) 31 then -((s.rd Reg.TB_STEP_NS_STEP_NS n % 2 ^ 31 : Nat) : Int)
       else ((s.rd Reg.TB_STEP_NS_STEP_NS n % 2 ^ 31 : Nat) : Int)) →
    s.rd Reg.TB_STEP_NS_STEP_NS n % 2 ^ 31 < 1000000000 → s.stepRefused n d = false →
    (∀ m < 4, s.source m ≠ 4) → Does (.tbStep n) s [.mem, .dict, .poisoned, .fresh, .time, .health, .zdp, .ports, .journal, .claims, .loop, .can, .regs .le, .regs .tu, .regs .can, .regs .cnt, .regs .hl, .regs .je] fun t => t.now n = ((s.now n : Int) + d).toNat ∧
    t.rd Reg.TB_STATUS_STEP_GEN n = (s.rd Reg.TB_STATUS_STEP_GEN n + 1) % 2 ^ 16 ∧
    (t.base n).count = (s.base n).count) ∧
  (∀ s n, 1000000000 ≤ s.rd Reg.TB_STEP_NS_STEP_NS n % 2 ^ 31 → Does (.tbStep n) s [.mem, .dict, .poisoned, .fresh, .time, .health, .zdp, .ports, .journal, .claims, .loop, .can, .regs .le, .regs .tu, .regs .can, .regs .cnt, .regs .hl, .regs .je] fun t =>
    t.flag Reg.TB_STATUS_STEP_REFUSED n = true ∧ t.time = s.time ∧ RegsBut [Reg.TB_STATUS_STEP_REFUSED.key n 0] s t) ∧
  (∀ s, Does (.tbStep 3) s [.mem, .dict, .poisoned, .fresh, .time, .health, .zdp, .ports, .journal, .claims, .loop, .can, .regs .le, .regs .tu, .regs .can, .regs .cnt, .regs .hl, .regs .je] fun t => t.flag Reg.TB_STATUS_STEP_REFUSED 3 = true ∧ t.time = s.time) ∧
  (∀ s core n, Does (.tbCountRead core n) s [.readData, .time, .regs .cnt] fun t => Map.get 0 t.readData core = (s.base n).count.toNat ∧
    Map.get {} t.time.latches (core * 4 + n) = ⟨(s.base n).ns, (s.base n).sec.toNat⟩ ∧ t.time.bases = s.time.bases) ∧
  (∀ s n, n < 4 → Does .tuSnap s [.regs .tu, .regs .cnt] fun t => t.rd Reg.SNAP_COUNT_COUNT n = (s.base n).count.toNat ∧
    t.rd Reg.SNAP_NS_NS n = (s.base n).ns % 2 ^ 30 ∧ t.rd Reg.SNAP_SEC_LO_SEC n = (s.base n).sec.toNat % 2 ^ 32 ∧
    t.rd Reg.SNAP_GEN_HI_STEP_GEN n = s.rd Reg.TB_STATUS_STEP_GEN n % 2 ^ 16 ∧
    t.rd Reg.TU_SNAP_SEQ_SEQ = (s.rd Reg.TU_SNAP_SEQ_SEQ + 1) % 2 ^ 32) ∧
  (∀ s, Does .snapshotPeriodic s [.regs .tu, .regs .cnt] fun t => exec .tuSnap s = .next t) ∧
  (∀ s n, (s.source n = 1 ∨ s.source n = 2 ∨ s.source n = 3) → s.rd Reg.TB_STATUS_STATE n = 2 →
    Does (.holdoverEntry n) s [.time, .regs .tu] fun t => t.rd Reg.TB_STATUS_STATE n = 3 ∧ (t.servo n).holdAt = some s.tb3 ∧
    (t.servo n).alarmed = false) ∧
  (∀ s n, s.source n = 0 ∨ s.source n = 4 → exec (.holdoverEntry n) s = .next s) ∧
  (∀ s n since, (s.servo n).holdAt = some since → s.rd Reg.TB_STATUS_STATE n = 3 → (s.servo n).alarmed = false →
    s.elapsed since (s.objN Obj.TB_HOLDOVER_MAX n * 1000000000) = true → Does (.holdoverMax n) s [.dict, .fresh, .time, .health, .zdp, .ports, .regs .cnt, .regs .hl] fun t =>
    (t.servo n).alarmed = true) ∧
  (∀ s n, (s.servo n).alarmed = true → exec (.holdoverMax n) s = .next s) ∧
  (∀ s, 4 < s.claimRank → Does .resync s [.mem, .dict, .poisoned, .outcome, .fresh, .time, .health, .zdp, .ports, .journal, .claims, .loop, .can, .regs .le, .regs .tu, .regs .can, .regs .cnt, .regs .hl, .regs .je] fun t => t.outcome = 15 ∧ t.time = s.time ∧ t.claims = s.claims ∧ t.fabric = s.fabric) ∧
  (∀ s, s.claimRank ≤ 4 → Does .resync s [.mem, .dict, .poisoned, .outcome, .fresh, .time, .health, .zdp, .ports, .journal, .claims, .loop, .can, .regs .le, .regs .tu, .regs .can, .regs .cnt, .regs .hl, .regs .je] fun t => t.outcome = 0 ∧ t.pipeRun = false ∧ t.claims.estDone = false ∧
    t.claims.planDone = false ∧ t.objN Obj.CLAIMST_COMPLETE = 0)

/-- R330, R332, R336, R337, R339: PTP and PPS. A message of another domain or port does nothing; an Announce enters the foreign
masters and the selection runs; a pulse is captured with the base its input names and counts as qualified or missed; a pulse
output fires once for each second and only where it may.
A clause on a corner that the rules leave open follows the choice of the model (log entries 42 and 63). -/
def Obligations.PtpAndPpsCommands : Prop :=
  (∀ s inst port m, s.ptpPort inst port = false ∨ m.domain ≠ s.objN Obj.PTP_DOMAIN inst →
    exec (.ptpMessage inst port m) s = .next s) ∧
  (∀ s inst port m, s.ptpPort inst port = true → m.domain = s.objN Obj.PTP_DOMAIN inst → m.kind = .announce →
    Does (.ptpMessage inst port m) s [.mem, .dict, .poisoned, .fresh, .time, .health, .zdp, .ports, .journal, .claims, .loop, .can, .regs .le, .regs .tu, .regs .can, .regs .cnt, .regs .hl, .regs .je] fun t => (⟨port.val, m.announce⟩ : ForeignMaster) ∈ (t.ptpInst inst).foreign) ∧
  (∀ s inst port m, s.ptpPort inst port = true → m.kind = .management → exec (.ptpMessage inst port m) s = .next s) ∧
  (∀ s inst port kind, s.ptpPort inst port = false → exec (.ptpSend inst port kind) s = .next s) ∧
  (∀ s (inst : Fin 2) (port : Fin 8), s.ptpPort inst port = true → (s.ptpInst inst).master = true → Does (.ptpSend inst port .announce) s [.time] fun t =>
    t.time.ptpOut = s.time.ptpOut ++ [⟨inst, port, .announce, (s.ptpInst inst).txAnnounce, 0⟩] ∧
    (t.ptpInst inst).txAnnounce = ((s.ptpInst inst).txAnnounce + 1) % 65536 ∧ t.time.bases = s.time.bases) ∧
  (∀ s inst, Does (.announceTimeout inst) s [.dict, .time, .regs .tu] fun t =>
    (t.ptpInst inst).foreign = (s.ptpInst inst).foreign.filter (fun f => (s.ptpInst inst).active != some f.port) ∧
    t.time.bases = s.time.bases) ∧
  (∀ s (p : Fin 4), s.flag Reg.PPI_CFG_ENABLE p = true → s.flag Reg.PPI_CFG_EDGE p = false → s.syncArmed 2 = false →
    Map.get {} s.time.ppsIn p = {} → Does (.ppsEdge p false) s [.mem, .dict, .poisoned, .fresh, .time, .health, .zdp, .ports, .journal, .claims, .loop, .can, .lauter, .regs .lt, .regs .le, .regs .tu, .regs .can, .regs .cnt, .regs .hl, .regs .je] fun t =>
    (Map.get {} t.time.ppsIn p).lastQualified = some (s.now (s.rd Reg.PPI_CFG_BASE p)) ∧
    t.rd Reg.PPI_CAP_NS_NS p = s.now (s.rd Reg.PPI_CFG_BASE p) % 1000000000 ∧
    t.rd Reg.PPI_COUNTS_QUALIFIED p = min 65535 (s.rd Reg.PPI_COUNTS_QUALIFIED p + 1)) ∧
  (∀ s (p : Fin 4), s.flag Reg.PPI_CFG_ENABLE p = false → exec (.ppsEdge p true) s = .next s) ∧
  (∀ s (p : Fin 4), s.flag Reg.PPI_CFG_ENABLE p = true → Does (.ppsMissed p) s [.time, .regs .tu] fun t =>
    t.rd Reg.PPI_COUNTS_MISSED p = min 65535 (s.rd Reg.PPI_COUNTS_MISSED p + 1)) ∧
  (∀ s (p : Fin 4), s.flag Reg.PPI_CFG_ENABLE p = false → exec (.ppsMissed p) s = .next s) ∧
  (∀ s (o : Fin 2), s.flag Reg.PPO_CFG_ENABLE o = true → s.rd Reg.PPO_CFG_BASE o = 3 → s.source 3 = 1 →
    s.rdS Reg.PPO_OFFSET_OFFSET_NS o = 0 → s.fires 3 (s.tb3 / 1000000000 * 1000000000) = true → Map.get {} s.time.ppsOut o = {} →
    Does (.ppsOutputPulse o) s [.time] fun t =>
    Map.get {} t.time.ppsOut o = { lastStart := some (s.tb3 / 1000000000 * 1000000000), pulses := 1 } ∧
    t.time.bases = s.time.bases) ∧
  (∀ s (o : Fin 2), s.flag Reg.PPO_CFG_ENABLE o = false → exec (.ppsOutputPulse o) s = .next s) ∧
  (∀ s n seconds at_, s.source n = 3 → (Map.get {} s.time.ppsIn (s.objN Obj.TB_SOURCE_ARG n)).lastQualified = some at_ →
    (seconds.toNat : Int) = ((at_ : Int) + 500000000) / 1000000000 → exec (.timeOfDayRecord n seconds) s = .next s) ∧
  (∀ s n seconds at_ d, s.source n = 3 → (Map.get {} s.time.ppsIn (s.objN Obj.TB_SOURCE_ARG n)).lastQualified = some at_ →
    d = (seconds.toNat : Int) - ((at_ : Int) + 500000000) / 1000000000 → d ≠ 0 → s.stepRefused n (d * 1000000000) = false →
    (∀ m < 4, s.source m ≠ 4) → Does (.timeOfDayRecord n seconds) s [.mem, .dict, .poisoned, .fresh, .time, .health, .zdp, .ports, .journal, .claims, .loop, .can, .regs .le, .regs .tu, .regs .can, .regs .cnt, .regs .hl, .regs .je] fun t => t.now n = ((s.now n : Int) + d * 1000000000).toNat)


/-- R230, R235, R238, R239, R244, R254, R255, R256, R257: the loop engine. A trigger starts an activation where the slot takes triggers
and counts an overrun where one is pending or less than 250 µs have passed; an install takes the staged program between two
activations; a generator and a capture buffer start and stop; a third failed step is a fault of the datapath.
A clause on a corner that the rules leave open follows the choice of the model (log entries 36 and 37). -/
def Obligations.LoopCommands : Prop :=
  (∀ s, Does .leRecheck s [.dict, .fresh, .health, .zdp, .ports, .regs .le, .regs .cnt, .regs .hl] fun t => t = s.recheck ∧ t.rd Reg.LE_CAPACITY_DIP = 432 * s.rd Reg.GAUGE_HUB_DIP_DIP / 1024 % 2 ^ 16 ∧
    t.loop = s.loop) ∧
  (∀ s g, s.genRefused g = true → Does (.generatorStart g) s [.outcome, .loop, .regs .le] fun t => t.outcome = 14 ∧ t.loop = s.loop ∧ t.regs = s.regs) ∧
  (∀ s g, s.genRefused g = false → Does (.generatorStart g) s [.outcome, .loop, .regs .le] fun t => t.outcome = 0 ∧ (t.gen g).running = true ∧
    t.flag Reg.TG_STATUS_RUNNING g = true ∧ t.flag Reg.TG_STATUS_DONE g = false ∧ t.rd Reg.TG_STATUS_COUNT g = 0 ∧
    (t.gen g).lfsr = s.rd Reg.TG_SEED_SEED g % 2 ^ s.rd Reg.TG_CFG_ORDER g ∧ t.loop.slots = s.loop.slots) ∧
  (∀ s (g : Fin 8), (s.gen g).running = true → Does (.generatorStop g) s [.outcome, .loop, .regs .le] fun t => t.outcome = 0 ∧ (t.gen g).running = false ∧
    t.flag Reg.TG_STATUS_RUNNING g = false ∧ t.flag Reg.TG_STATUS_DONE g = true ∧ t.flag Reg.LE_IRQ_TG_DONE = true) ∧
  (∀ s (g : Fin 8), (s.gen g).running = true → Does (.generatorEnd g) s [.loop, .regs .le] fun t => (t.gen g).running = false ∧
    t.flag Reg.TG_STATUS_DONE g = true ∧ t.flag Reg.LE_IRQ_TG_DONE = true) ∧
  (∀ s (g : Fin 8), (s.gen g).running = false → exec (.generatorEnd g) s = .next s) ∧
  (∀ s (slot : Fin 256), (s.slot slot).cfg.kind ≠ 1 → exec (.timeTrigger slot) s = .next s) ∧
  (∀ s (slot : Fin 256) at_, (s.slot slot).cfg.kind = 1 → (s.slot slot).cfg.arg % 4 = 0 → s.timeInstant (s.slot slot).cfg = some at_ →
    s.fires 0 at_ = true → Does (.timeTrigger slot) s [.dict, .fresh, .health, .zdp, .ports, .journal, .loop, .regs .le, .regs .cnt, .regs .hl, .regs .je] fun t => t = s.trigger slot at_) ∧
  (∀ s core v, (s.slot (v.toNat % 256)).cfg.kind = 6 → s.flag Reg.LE_STATUS_RUN = true →
    s.flag Reg.LE_STATUS_DATAPATH_FAULT = false → (s.slot (v.toNat % 256)).takes = true →
    (s.slot (v.toNat % 256)).act = none → (s.slot (v.toNat % 256)).staged = none → (s.slot (v.toNat % 256)).lastTrig = none →
    Does (.leSwTrig core v) s [.dict, .fresh, .health, .zdp, .ports, .journal, .loop, .regs .le, .regs .cnt, .regs .hl, .regs .je] fun t => (t.slot (v.toNat % 256)).lastTrig = some (s.now 0) ∧
    (t.slot (v.toNat % 256)).act.isSome = true) ∧
  (∀ s core v, (s.slot (v.toNat % 256)).cfg.kind = 6 → s.flag Reg.LE_STATUS_RUN = true →
    s.flag Reg.LE_STATUS_DATAPATH_FAULT = false → (s.slot (v.toNat % 256)).takes = true →
    (s.slot (v.toNat % 256)).act.isSome = true → Does (.leSwTrig core v) s [.dict, .fresh, .health, .zdp, .ports, .journal, .loop, .regs .le, .regs .cnt, .regs .hl, .regs .je] fun t => t.loop = s.loop ∧
    t.flag Reg.LE_IRQ_OVERRUN = true ∧
    t.rd Reg.LES_STAT_OVERRUN (v.toNat % 256) = min 255 (s.rd Reg.LES_STAT_OVERRUN (v.toNat % 256) + 1)) ∧
  (∀ s core v, (s.slot (v.toNat % 256)).cfg.kind ≠ 6 → exec (.leSwTrig core v) s = .next s) ∧
  (∀ s c, s.rd Reg.CAP_BASE_BASE c * 64 + 65536 * capSize (s.rd Reg.CAP_CFG_FORMAT c) ≤ gristSize →
    (s.cap c).misaligned = false → Does (.captureArm c) s [.loop, .regs .le] fun t => t.flag Reg.CAP_STATUS_ARMED c = true ∧
    t.flag Reg.CAP_STATUS_DONE c = false ∧ t.flag Reg.CAP_STATUS_ERR c = false ∧ t.rd Reg.CAP_STATUS_TAKEN c = 0 ∧
    (t.cap c).next = 0) ∧
  (∀ s c, (s.cap c).misaligned = true → Does (.captureArm c) s [.loop, .regs .le] fun t => t.flag Reg.CAP_STATUS_ERR c = true ∧ t.loop = s.loop ∧
    RegsBut [Reg.CAP_STATUS_ERR.key c 0] s t) ∧
  (∀ s (c : Fin 16), s.flag Reg.CAP_STATUS_ARMED c = true → s.flag Reg.CAP_CFG_MODE c = true → (s.cap c).remaining = none →
    Does (.captureStop c) s [.loop, .regs .le] fun t => (t.cap c).remaining = some (s.rd Reg.CAP_CFG_COUNT c)) ∧
  (∀ s (c : Fin 16), s.flag Reg.CAP_STATUS_ARMED c = false → exec (.captureStop c) s = .next s) ∧
  (∀ s failures, s.nextSlot = none → exec (.activationComplete failures) s = .next s) ∧
  (∀ s i a, s.nextSlot = some (i, a) → Does (.activationComplete 0) s [.mem, .dict, .poisoned, .fresh, .health, .zdp, .ports, .journal, .claims, .loop, .can, .regs .le, .regs .can, .regs .cnt, .regs .hl, .regs .je] fun t => t = s.runActivation i a) ∧
  (∀ s i a, s.nextSlot = some (i, a) → Does (.activationComplete 3) s [.mem, .dict, .poisoned, .fresh, .health, .zdp, .ports, .journal, .claims, .loop, .can, .regs .le, .regs .can, .regs .cnt, .regs .hl, .regs .je] fun t => t.flag Reg.LE_STATUS_DATAPATH_FAULT = true ∧
    t.flag Reg.LE_STATUS_RUN = false ∧ t.flag Reg.LE_IRQ_DATAPATH_FAULT = true)

/-- R235, R243, R244, R257, R258, R259, R260: the slots. A commit that passes the checks is staged, and at once in force where the slot
runs nothing; an enable that no bound exceeds runs the slot; a self-test that fails retires it; a spare takes over between two
activations; the program window steps on at each access of its upper word.
A clause on a corner that the rules leave open follows the choice of the model (log entry 36). -/
def Obligations.SlotCommands : Prop :=
  (∀ s slot, Does (.slotCommit slot) s [.dict, .outcome, .fresh, .health, .zdp, .ports, .loop, .regs .le, .regs .cnt, .regs .hl] fun t => if s.commitOk slot = true then t.outcome = 0
    else t.outcome = 14 ∧ t.loop = s.loop ∧ t.regs = s.regs) ∧
  (∀ s (slot : Fin 256) c p, (s.slot slot).staged = some (c, p) → (s.slot slot).act = none → Does (.commitInstall slot) s [.dict, .fresh, .health, .zdp, .ports, .loop, .regs .le, .regs .cnt, .regs .hl] fun t =>
    (t.slot slot).cfg = c ∧ (t.slot slot).program = p ∧ (t.slot slot).staged = none ∧
    t.flag Reg.LES_STAT_SHADOW_DIRTY slot = false) ∧
  (∀ s (slot : Fin 256), (s.slot slot).staged = none → exec (.commitInstall slot) s = .next s) ∧
  (∀ s slot, (s.slot slot).mode = .disabled → (s.slot slot).cfg.steps ≠ 0 →
    Does (.slotEnable slot true) s [.dict, .outcome, .fresh, .health, .zdp, .ports, .loop, .regs .le, .regs .cnt, .regs .hl] fun t =>
    (if (s.setSlot slot fun x => { x with mode := .enabled, lateRun := 0 }).anyExceeds = true
     then t.outcome = 14 ∧ t.loop = s.loop ∧ t.regs = s.regs
     else t.outcome = 0 ∧ (t.slot slot).mode = .enabled ∧ t.objN Obj.LP_ENABLE slot = 1)) ∧
  (∀ s slot, (s.slot slot).mode = .disabled → (s.slot slot).cfg.steps = 0 → Does (.slotEnable slot true) s [.dict, .outcome, .fresh, .health, .zdp, .ports, .loop, .regs .le, .regs .cnt, .regs .hl] fun t =>
    t.outcome = 14 ∧ t.loop = s.loop ∧ t.regs = s.regs) ∧
  (∀ s slot, (s.slot slot).mode = .retired ∨ (s.slot slot).mode = .offline → Does (.slotEnable slot true) s [.dict, .outcome, .fresh, .health, .zdp, .ports, .loop, .regs .le, .regs .cnt, .regs .hl] fun t =>
    t.outcome = 15 ∧ t.loop = s.loop ∧ t.regs = s.regs) ∧
  (∀ s slot, (s.slot slot).mode = .enabled → (s.slot slot).act = none → (s.slot slot).thenBist = false →
    Does (.slotEnable slot false) s [.dict, .outcome, .fresh, .health, .zdp, .ports, .loop, .regs .le, .regs .cnt, .regs .hl] fun t => t.outcome = 0 ∧ (t.slot slot).mode = .disabled ∧ t.objN Obj.LP_ENABLE slot = 0) ∧
  (∀ s core, s.flag Reg.LE_PROG_SEL_BANK = false → Does (.leProgAccess core none) s [.mem, .dict, .poisoned, .readData, .fresh, .health, .zdp, .ports, .journal, .claims, .loop, .can, .regs .le, .regs .can, .regs .cnt, .regs .hl, .regs .je] fun t =>
    Map.get 0 t.readData core = Map.get 0 (s.slot (s.rd Reg.LE_PROG_SEL_SLOT)).shadow (s.rd Reg.LE_PROG_SEL_STEP) / 2 ^ 32 ∧
    t.rd Reg.LE_PROG_SEL_STEP = (s.rd Reg.LE_PROG_SEL_STEP + 1) % 2 ^ 6 ∧ t.loop = s.loop ∧
    RegsBut [Reg.LE_PROG_SEL_STEP.key 0 0] s t) ∧
  (∀ s core v, s.flag Reg.LE_PROG_SEL_BANK = false → Does (.leProgAccess core (some v)) s [.mem, .dict, .poisoned, .readData, .fresh, .health, .zdp, .ports, .journal, .claims, .loop, .can, .regs .le, .regs .can, .regs .cnt, .regs .hl, .regs .je] fun t =>
    Map.get 0 (t.slot (s.rd Reg.LE_PROG_SEL_SLOT)).shadow (s.rd Reg.LE_PROG_SEL_STEP) =
      s.rd Reg.LE_PROG_LO_LO + 2 ^ 32 * v.toNat ∧ t.rd Reg.LE_PROG_HI_HI = v.toNat ∧
    t.flag Reg.LES_STAT_SHADOW_DIRTY (s.rd Reg.LE_PROG_SEL_SLOT) = true ∧
    t.rd Reg.LE_PROG_SEL_STEP = (s.rd Reg.LE_PROG_SEL_STEP + 1) % 2 ^ 6) ∧
  (∀ s core v, s.flag Reg.LE_PROG_SEL_BANK = true → Does (.leProgAccess core (some v)) s [.mem, .dict, .poisoned, .readData, .fresh, .health, .zdp, .ports, .journal, .claims, .loop, .can, .regs .le, .regs .can, .regs .cnt, .regs .hl, .regs .je] fun t => t.loop = s.loop ∧
    t.rd Reg.LE_PROG_SEL_STEP = (s.rd Reg.LE_PROG_SEL_STEP + 1) % 2 ^ 6 ∧ RegsBut [Reg.LE_PROG_SEL_STEP.key 0 0] s t) ∧
  (∀ s (slot : Fin 256) other, (s.slot slot).handover = some true → (s.slot slot).act = none → s.usableSpare slot = some other →
    other < 256 → Does (.slotHandover slot) s [.dict, .fresh, .health, .zdp, .ports, .loop, .regs .le, .regs .cnt, .regs .hl] fun t => (t.slot slot).handover = none ∧ (t.slot other).mode = .sparing ∧
    (t.slot other).standsFor = some slot.val ∧ (t.slot other).program = (s.slot slot).program) ∧
  (∀ s (slot : Fin 256), (s.slot slot).handover = none → exec (.slotHandover slot) s = .next s) ∧
  (∀ s slot, (s.slot slot).mode = .disabled → s.slotTestOk slot = true → Does (.slotServiceTest slot) s [.dict, .outcome, .fresh, .health, .zdp, .ports, .loop, .regs .le, .regs .cnt, .regs .hl] fun t => t.outcome = 0 ∧
    (t.slot slot).mode = .bist) ∧
  (∀ s slot, s.slotTestOk slot = false → Does (.slotServiceTest slot) s [.dict, .outcome, .fresh, .health, .zdp, .ports, .loop, .regs .le, .regs .cnt, .regs .hl] fun t => t.outcome = 15 ∧ t.loop = s.loop ∧ t.regs = s.regs) ∧
  (∀ s (slot : Fin 256), (s.slot slot).mode = .bist → Does (.slotSelfTestDone slot true) s [.dict, .fresh, .health, .zdp, .ports, .loop, .regs .le, .regs .cnt, .regs .hl] fun t => (t.slot slot).mode = .offline ∧
    t.flag Reg.LES_STAT_BIST_PASS slot = true) ∧
  (∀ s (slot : Fin 256), (s.slot slot).mode = .bist → Does (.slotSelfTestDone slot false) s [.dict, .fresh, .health, .zdp, .ports, .loop, .regs .le, .regs .cnt, .regs .hl] fun t => (t.slot slot).mode = .retired ∧
    t.flag Reg.LE_IRQ_SLOT_RETIRED = true) ∧
  (∀ s (slot : Fin 256) pass, (s.slot slot).mode ≠ .bist → exec (.slotSelfTestDone slot pass) s = .next s) ∧
  (∀ s (slot : Fin 256), (s.slot slot).mode = .offline → s.standIn slot = none → Does (.slotServiceReturn slot) s [.dict, .outcome, .fresh, .health, .zdp, .ports, .loop, .regs .le, .regs .cnt, .regs .hl] fun t =>
    t.outcome = 0 ∧ ((t.slot slot).mode = .enabled ∨ (t.slot slot).mode = .disabled)) ∧
  (∀ s slot, (s.slot slot).mode ≠ .offline → Does (.slotServiceReturn slot) s [.dict, .outcome, .fresh, .health, .zdp, .ports, .loop, .regs .le, .regs .cnt, .regs .hl] fun t => t.outcome = 15 ∧ t.loop = s.loop ∧
    t.regs = s.regs)


/-- R265, R270, R272, R274, R275, R276, R278, R285, R288: the signal chain. A defining edge resets a channel that awaits one and counts in
its epoch; a synchronizing reset is armed, disarmed and fired by its source; a clock that is lost stops the channel's outputs;
a bank is requested, replaced or taken; a coefficient of the bank in use is refused; tests, retirement and return follow the state.
A clause on a corner that the rules leave open follows the choice of the model (log entry 38). -/
def Obligations.LauterCommands : Prop :=
  (∀ s (c : Fin 32) at_ armed, (s.sc c).await = some armed → s.scFlows c = true → Does (.definingEdge c at_) s [.mem, .poisoned, .fresh, .health, .zdp, .lauter, .regs .lt, .regs .cnt, .regs .hl] fun t =>
    t.scState c = 1 ∧ (t.sc c).await = none ∧ (t.sc c).tReset = at_ ∧
    t.rd Reg.SC_EPOCH_EPOCH c = (s.rd Reg.SC_EPOCH_EPOCH c + 1) % 2 ^ 8 ∧ (armed = true → t.flag Reg.SC_STATUS_UNALIGNED c = false)) ∧
  (∀ s (c : Fin 32) at_, (s.sc c).await = none → exec (.definingEdge c at_) s = .next s) ∧
  (∀ s mask (c : Fin 32), bitOf mask.toNat c = true → s.scEnabled c = true → (s.sc c).await = none → Does (.ltSync mask) s [.lauter] fun t =>
    (t.sc c).await = some false ∧ t.fabric = s.fabric) ∧
  (∀ s v, Does (.ltSyncArm v) s [.regs .lt] fun t => t.rd Reg.LT_SYNC_ARM_SOURCE = v.toNat % 8 ∧ t.rd Reg.LT_SYNC_ARM_PPS = v.toNat / 16 % 2 ^ 2 ∧
    t.flag Reg.LT_SYNC_ARM_ARMED = decide (1 ≤ v.toNat % 8 ∧ v.toNat % 8 ≤ 3) ∧
    RegsBut [Reg.LT_SYNC_ARM_PPS.key 0 0, Reg.LT_SYNC_ARM_SOURCE.key 0 0, Reg.LT_SYNC_ARM_ARMED.key 0 0] s t) ∧
  (∀ s, s.syncArmed 1 = true → s.fires 0 (((s.base 0).sec.toNat / 2 ^ 32 * 2 ^ 32 + s.rd Reg.LT_SYNC_AT_SECOND) * 1000000000) = true →
    Does .timeAt s [.lauter, .regs .lt] fun t => t = s.fireSync) ∧
  (∀ s, s.syncArmed 1 = false → exec .timeAt s = .next s) ∧
  (∀ s, s.syncArmed 3 = true → Does .scSyncEdge s [.lauter, .regs .lt] fun t => t = s.fireSync) ∧
  (∀ s, s.syncArmed 3 = false → exec .scSyncEdge s = .next s) ∧
  (∀ s (c : Fin 32), s.scFlows c = true → Does (.clockLost c) s [.fresh, .health, .zdp, .regs .lt, .regs .le, .regs .cnt, .regs .hl] fun t => t.scState c = 3 ∧ t.flag Reg.LT_IRQ_CLOCK_LOST = true) ∧
  (∀ s (c : Fin 32), s.scFlows c = false → exec (.clockLost c) s = .next s) ∧
  (∀ s (c : Fin 32) at_, s.scState c = 3 → Does (.clockReturn c at_) s [.mem, .poisoned, .fresh, .health, .zdp, .lauter, .regs .lt, .regs .cnt, .regs .hl] fun t => t.scState c = 1 ∧ (t.sc c).tReset = at_ ∧
    t.rd Reg.SC_EPOCH_EPOCH c = (s.rd Reg.SC_EPOCH_EPOCH c + 1) % 2 ^ 8) ∧
  (∀ s (c : Fin 32) at_, s.scState c ≠ 3 → exec (.clockReturn c at_) s = .next s) ∧
  (∀ s (c : Fin 32) v, bitOf v.toNat 31 = true → v.toNat % 65536 ≠ 0 → s.scEnabled c = true → (s.sc c).pendingLen = none →
    (s.sc c).fade = none → Does (.swapRequest c v) s [.lauter, .regs .lt] fun t =>
    (t.sc c).fade = some ⟨0, v.toNat % 65536, 1 - s.rd Reg.SC_STATUS_BANK c⟩ ∧ t.flag Reg.SC_STATUS_FADING c = true) ∧
  (∀ s (c : Fin 32) v, bitOf v.toNat 31 = true → v.toNat % 65536 ≠ 0 → s.scEnabled c = true → (s.sc c).pendingLen.isSome = true →
    Does (.swapRequest c v) s [.lauter, .regs .lt] fun t => (t.sc c).pendingLen = some (v.toNat % 65536) ∧ t.flag Reg.LT_IRQ_SWAP_REPLACED = true ∧
    t.rd Reg.SC_COUNTS_SWAP_REPLACED c = min 65535 (s.rd Reg.SC_COUNTS_SWAP_REPLACED c + 1)) ∧
  (∀ s (c : Fin 32) v, v.toNat % 65536 = 0 ∨ s.scEnabled c = false → exec (.swapRequest c v) s = .next s) ∧
  (∀ s core, Does (.poolAccess core none) s [.mem, .poisoned, .readData, .claims, .loop, .can, .lauter, .regs .lt, .regs .le, .regs .can, .regs .cnt] fun t =>
    Map.get 0 t.readData core = Map.get 0 s.lauter.pool (s.rd Reg.LT_POOL_ADDR_ENTRY) ∧
    t.rd Reg.LT_POOL_ADDR_ENTRY = (s.rd Reg.LT_POOL_ADDR_ENTRY + 1) % 2 ^ 13 ∧ t.lauter = s.lauter ∧
    RegsBut [Reg.LT_POOL_ADDR_ENTRY.key 0 0] s t) ∧
  (∀ s core v, s.poolRefused (s.rd Reg.LT_POOL_ADDR_ENTRY) = false → Does (.poolAccess core (some v)) s [.mem, .poisoned, .readData, .claims, .loop, .can, .lauter, .regs .lt, .regs .le, .regs .can, .regs .cnt] fun t =>
    Map.get 0 t.lauter.pool (s.rd Reg.LT_POOL_ADDR_ENTRY) = v.toNat % 2 ^ 24 ∧
    t.rd Reg.LT_POOL_ADDR_ENTRY = (s.rd Reg.LT_POOL_ADDR_ENTRY + 1) % 2 ^ 13 ∧ RegsBut [Reg.LT_POOL_ADDR_ENTRY.key 0 0] s t) ∧
  (∀ s core v, s.poolRefused (s.rd Reg.LT_POOL_ADDR_ENTRY) = true → Does (.poolAccess core (some v)) s [.mem, .poisoned, .readData, .claims, .loop, .can, .lauter, .regs .lt, .regs .le, .regs .can, .regs .cnt] fun t =>
    t.lauter = s.lauter ∧ t.flag Reg.LT_STATUS_POOL_REFUSED = true ∧ RegsBut [Reg.LT_STATUS_POOL_REFUSED.key 0 0] s t) ∧
  (∀ s c xs tDef, s.scFlows c = true → xs.length = s.rd Reg.SC_COMB_DECIM c → (s.sc c).integ ≠ [] →
    Does (.lauterOutput c xs tDef 0) s [.mem, .dict, .poisoned, .fresh, .health, .zdp, .ports, .journal, .loop, .lauter, .regs .lt, .regs .le, .regs .cnt, .regs .hl, .regs .je] fun t =>
    t = (s.takeInputs c xs).scPublish c tDef (s.rd Reg.SC_CFG_MODE c != 0 && xs.any (·.bad))) ∧
  (∀ s c xs tDef, s.scFlows c = true → xs.length = s.rd Reg.SC_COMB_DECIM c → (s.sc c).integ ≠ [] →
    Does (.lauterOutput c xs tDef 3) s [.mem, .dict, .poisoned, .fresh, .health, .zdp, .ports, .journal, .loop, .lauter, .regs .lt, .regs .le, .regs .cnt, .regs .hl, .regs .je] fun t => t.flag Reg.LT_STATUS_DATAPATH_FAULT = true ∧
    t.flag Reg.LT_IRQ_DATAPATH_FAULT = true ∧ t.scState c = 0) ∧
  (∀ s c xs tDef failures, s.scFlows c = false → exec (.lauterOutput c xs tDef failures) s = .next s) ∧
  (∀ s, Does .ltRecheck s [.dict, .fresh, .health, .zdp, .ports, .regs .lt, .regs .cnt, .regs .hl] fun t => t.flag Reg.LT_STATUS_LOAD_RISK = decide (s.ltCapacity < s.ltLoad)) ∧
  (∀ s (c : Fin 32), s.flag Reg.LT_STATUS_DATAPATH_FAULT = false → s.scState c = 0 → s.scCause c = 0 →
    Does (.ltChannelEnable c true) s [.outcome, .lauter, .regs .lt, .regs .le] fun t => t.outcome = 0 ∧ t.flag Reg.SC_CTRL_ENABLE c = true ∧ t.scState c = 1 ∧
    (t.sc c).await = some false) ∧
  (∀ s (c : Fin 32), s.flag Reg.LT_STATUS_DATAPATH_FAULT = false → s.scState c = 0 → s.scCause c ≠ 0 →
    Does (.ltChannelEnable c true) s [.outcome, .lauter, .regs .lt, .regs .le] fun t => t.outcome = 14 ∧ t.flag Reg.SC_CTRL_ENABLE c = false ∧ t.scState c = 0 ∧
    t.rd Reg.SC_STATUS_CFG_CAUSE c = s.scCause c % 16) ∧
  (∀ s (c : Fin 32), s.scEnabled c = true → Does (.ltChannelEnable c false) s [.outcome, .lauter, .regs .lt, .regs .le] fun t => t.outcome = 0 ∧
    t.flag Reg.SC_CTRL_ENABLE c = false ∧ t.scState c = 0 ∧ (t.sc c).await = none) ∧
  (∀ s (c : Fin 32), s.scState c ≠ 5 → s.scState c ≠ 6 → Does (.ltServiceTest c) s [.outcome, .health, .lauter, .regs .lt, .regs .le] fun t => t.outcome = 0 ∧ t.scState c = 5 ∧
    t.flag Reg.SC_STATUS_BIST_PASS c = false) ∧
  (∀ s (c : Fin 32), s.scState c = 5 ∨ s.scState c = 6 → Does (.ltServiceTest c) s [.outcome, .health, .lauter, .regs .lt, .regs .le] fun t => t.outcome = 15 ∧ t.regs = s.regs ∧
    t.lauter = s.lauter) ∧
  (∀ s (c : Fin 32), s.scState c = 5 → Does (.ltSelfTestDone c true) s [.dict, .fresh, .health, .zdp, .ports, .regs .lt, .regs .le, .regs .cnt, .regs .hl] fun t => t.scState c = 4 ∧
    t.flag Reg.SC_STATUS_BIST_PASS c = true) ∧
  (∀ s (c : Fin 32), s.scState c = 5 → Does (.ltSelfTestDone c false) s [.dict, .fresh, .health, .zdp, .ports, .regs .lt, .regs .le, .regs .cnt, .regs .hl] fun t => t.scState c = 6 ∧
    t.flag Reg.LT_IRQ_CHANNEL_RETIRED = true) ∧
  (∀ s (c : Fin 32) pass, s.scState c ≠ 5 → exec (.ltSelfTestDone c pass) s = .next s) ∧
  (∀ s (c : Fin 32), s.scState c = 4 → s.flag Reg.SC_CTRL_ENABLE c = false → Does (.ltServiceReturn c) s [.outcome, .fresh, .health, .lauter, .regs .lt, .regs .le, .regs .hl] fun t => t.outcome = 0 ∧
    t.scState c = 0) ∧
  (∀ s (c : Fin 32), s.scState c ≠ 4 → Does (.ltServiceReturn c) s [.outcome, .fresh, .health, .lauter, .regs .lt, .regs .le, .regs .hl] fun t => t.outcome = 15 ∧ t.regs = s.regs ∧ t.lauter = s.lauter)


/-- R291, R295, R296, R301, R302, R310, R312, R313: positions of the feedback unit. A position is set with its preset; a compare unit is armed
and disarmed; accepted edges count; a glitch and an open line set their bits; a serial word whose check fails is no position.
A clause on a corner that the rules leave open follows the choice of the model (log entry 39). -/
def Obligations.FeedbackPositions : Prop :=
  (∀ s (c : Fin 32) v, Does (.setPos c v) s [.outcome, .pfu, .regs .le, .regs .pf] fun t => t.outcome = 0 ∧ t.pfPos c = signed 48 v.toNat ∧
    t.flag Reg.PFC_STATUS_UNCERTAIN c = false ∧ t.rd Reg.PFC_PRESET_LO_PRESET c = v.toNat % 2 ^ 32 ∧
    t.rd Reg.PFC_PRESET_HI_PRESET c = v.toNat / 2 ^ 32) ∧
  (∀ s c k v, v.toNat / 4 % 4 = 3 → Does (.cmpArm c k v) s [.mem, .dict, .poisoned, .fresh, .health, .zdp, .ports, .journal, .claims, .loop, .can, .pfu, .regs .le, .regs .pf, .regs .can, .regs .cnt, .regs .hl, .regs .je] fun t => t.rd Reg.PFCMP_CFG_DIR c k = 3 ∧
    t.flag Reg.PFCMP_STAT_ARMED c k = s.flag Reg.PFCMP_STAT_ARMED c k ∧ t.pfu = s.pfu) ∧
  (∀ s c k v, v.toNat / 4 % 4 ≠ 3 → v.toNat / 16 % 2 = 0 → Does (.cmpArm c k v) s [.mem, .dict, .poisoned, .fresh, .health, .zdp, .ports, .journal, .claims, .loop, .can, .pfu, .regs .le, .regs .pf, .regs .can, .regs .cnt, .regs .hl, .regs .je] fun t =>
    t.flag Reg.PFCMP_STAT_ARMED c k = true ∧ t.rd Reg.PFCMP_CFG_DIR c k = v.toNat / 4 % 4 ∧
    (t.cmp c k).c = signed 48 (s.rd2 Reg.PFCMP_POS_LO_C Reg.PFCMP_POS_HI_C c k)) ∧
  (∀ s c k, Does (.cmpDisarm c k) s [.regs .pf] fun t => t.flag Reg.PFCMP_STAT_ARMED c k = false ∧
    t.flag Reg.PFCMP_STAT_ARMED_BEHIND c k = false ∧
    RegsBut [Reg.PFCMP_STAT_ARMED.key c k, Reg.PFCMP_STAT_ARMED_BEHIND.key c k] s t) ∧
  (∀ s (c : Fin 32) e, s.flag Reg.PF_STATUS_OSC_FAULT = true → exec (.pfEdgeAccept c e) s = .next s) ∧
  (∀ s (c : Fin 32) e, s.flag Reg.PF_STATUS_OSC_FAULT = false → s.pfRuns c = false → Does (.pfEdgeAccept c e) s [.mem, .dict, .poisoned, .fresh, .health, .zdp, .ports, .journal, .claims, .loop, .can, .pfu, .regs .le, .regs .pf, .regs .can, .regs .cnt, .regs .hl, .regs .je] fun t =>
    t.pfPos c = s.pfPos c ∧ t.regs = s.regs) ∧
  (∀ s (c : Fin 32) (line : Fin 3) (at_ : Nat), s.pfRuns c = true → bitOf (s.pfLines c) line = true → bitOf (s.pf c).open_ line = false →
    Does (.glitch c line at_) s [.mem, .poisoned, .fresh, .health, .zdp, .pfu, .regs .le, .regs .pf, .regs .cnt, .regs .hl] fun t => bitOf (t.rd Reg.PFC_FAULT_FAULT c) 1 = true ∧ t.flag Reg.PF_IRQ_FAULT = true ∧
    t.rd Reg.PFC_COUNTS1_GLITCH c = min 65535 (s.rd Reg.PFC_COUNTS1_GLITCH c + 1) ∧ t.pfPos c = s.pfPos c) ∧
  (∀ s (c : Fin 32) (line : Fin 3) (at_ : Nat), s.pfRuns c = false → exec (.glitch c line at_) s = .next s) ∧
  (∀ s (c : Fin 32) (line : Fin 3), s.pfState c = 1 → bitOf (s.pfLines c) line = true →
    bitOf (s.rd Reg.PFC_STATUS_LINE_OPEN c) line = false → Does (.lineOpen c line) s [.mem, .poisoned, .fresh, .health, .zdp, .pfu, .regs .le, .regs .pf, .regs .cnt, .regs .hl] fun t =>
    bitOf (t.pf c).open_ line = true ∧ bitOf (t.rd Reg.PFC_STATUS_LINE_OPEN c) line = true ∧
    bitOf (t.rd Reg.PFC_FAULT_FAULT c) 5 = true) ∧
  (∀ s (c : Fin 32) (line : Fin 3), Does (.lineSignalReturn c line) s [.pfu, .regs .le, .regs .pf] fun t => bitOf (t.pf c).open_ line = false ∧
    bitOf (t.rd Reg.PFC_STATUS_LINE_OPEN c) line = false ∧ t.pfPos c = s.pfPos c) ∧
  (∀ s (c : Fin 32) dataLow, s.pfMode c ≠ 2 → exec (.serialRequest c dataLow) s = .next s) ∧
  (∀ s (c : Fin 32) (at_ : Nat), s.pfRuns c = true → s.pfMode c = 2 → s.rd Reg.PFC_SER_PERIOD_PERIOD_US c ≠ 0 →
    s.rd Reg.PFC_SER_PHASE_PHASE_US c = 0 →
    at_ = s.now 0 - s.now 0 % (s.rd Reg.PFC_SER_PERIOD_PERIOD_US c * 1000) → (s.pf c).lastReq ≠ some at_ → s.fires 0 at_ = true →
    Does (.serialRequest c false) s [.mem, .poisoned, .fresh, .health, .zdp, .pfu, .regs .le, .regs .pf, .regs .cnt, .regs .hl] fun t =>
    (t.pf c).request = some ((at_ : Int) - s.rd Reg.PFC_SER_TIME_LATCH_NS c) ∧ (t.pf c).lastReq = some at_ ∧ t.regs = s.regs) ∧
  (∀ s (c : Fin 32) w stamp, (s.pf c).request = some stamp → s.pfRuns c = true → w.sep = true → Does (.serialWord c w) s Part.all fun t =>
    bitOf (t.rd Reg.PFC_FAULT_FAULT c) 6 = true ∧ (t.pf c).request = none ∧ t.flag Reg.PF_IRQ_SERIAL = true ∧ t.pfPos c = s.pfPos c ∧
    t.rd Reg.PFC_COUNTS2_SER_FAULTS c = min 65535 (s.rd Reg.PFC_COUNTS2_SER_FAULTS c + 1)) ∧
  (∀ s (c : Fin 32) w, (s.pf c).request = none → exec (.serialWord c w) s = .next s) ∧
  (∀ s (c : Fin 32) stamp, (s.pf c).request = some stamp → s.pfRuns c = true → Does (.serTimeout c) s Part.all fun t =>
    bitOf (t.rd Reg.PFC_FAULT_FAULT c) 8 = true ∧ (t.pf c).request = none ∧ t.pfPos c = s.pfPos c) ∧
  (∀ s (c : Fin 32), (s.pf c).request = none → exec (.serTimeout c) s = .next s)

/-- R295, R310, R312, R313, R314, R316: the channels of the feedback unit. The speed follows its window, standstill reads 0, the oscillator's
loss stops every channel, a channel is enabled within its ranges, tested and returned, and a mismatch of the duplicated logic stops it.
A clause on a corner that the rules leave open follows the choice of the model (log entry 39). -/
def Obligations.FeedbackChannels : Prop :=
  (∀ s (c : Fin 32), s.pfRuns c = true → s.pfMode c ≠ 2 → Does (.speedUpdate c) s [.pfu, .regs .le, .regs .pf] fun t =>
    t = (s.speedAt c (s.now 0)).pfViews c ∧ t.pfPos c = s.pfPos c) ∧
  (∀ s (c : Fin 32), s.pfRuns c = false → exec (.speedUpdate c) s = .next s) ∧
  (∀ s (c : Fin 32) at_, (s.pf c).lastT = some at_ → s.pfRuns c = true → s.pfMode c ≠ 2 →
    at_ + s.rd Reg.PFC_ZERO_ZERO_MS c * 1000000 < s.now 0 → Does (.standstill c) s [.pfu, .regs .le, .regs .pf] fun t =>
    t.flag Reg.PFC_STATUS_STANDSTILL c = true ∧ t.pfPos c = s.pfPos c) ∧
  (∀ s (c : Fin 32), (s.pf c).lastT = none → exec (.standstill c) s = .next s) ∧
  (∀ s (c : Fin 32), s.pfState c = 1 → s.rd Reg.PFC_CFG_PT_MODE c = 3 → s.pfMode c = 2 →
    (s.pf c).emu < s.pfPos c / 2 ^ s.rd Reg.PFC_EMU_EMU_SHIFT c → Does (.emulatedTransition c) s [.pfu, .regs .pf] fun t =>
    (t.pf c).emu = (s.pf c).emu + 1) ∧
  (∀ s (c : Fin 32), s.rd Reg.PFC_CFG_PT_MODE c ≠ 3 → exec (.emulatedTransition c) s = .next s) ∧
  (∀ s, Does .oscFault s [.regs .pf] fun t => t.flag Reg.PF_STATUS_OSC_FAULT = true ∧ t.flag Reg.PF_IRQ_OSC_FAULT = true ∧
    (∀ c, t.pfRuns c = false) ∧ RegsBut [Reg.PF_STATUS_OSC_FAULT.key 0 0, Reg.PF_IRQ_OSC_FAULT.key 0 0] s t) ∧
  (∀ s (c : Fin 32), s.pfState c = 0 → s.pfCause c = 0 → Does (.pfEnable c true) s [.mem, .poisoned, .outcome, .fresh, .health, .zdp, .pfu, .regs .le, .regs .pf, .regs .cnt, .regs .hl] fun t => t.outcome = 0 ∧ t.pfState c = 1 ∧
    t.flag Reg.PFC_CTRL_ENABLE c = true ∧ (s.pfMode c ≠ 2 → t.flag Reg.PFC_STATUS_UNCERTAIN c = true ∧ t.pfPos c = 0)) ∧
  (∀ s (c : Fin 32), s.pfState c = 0 → s.pfCause c ≠ 0 → Does (.pfEnable c true) s [.mem, .poisoned, .outcome, .fresh, .health, .zdp, .pfu, .regs .le, .regs .pf, .regs .cnt, .regs .hl] fun t => t.outcome = 14 ∧ t.pfState c = 0 ∧
    t.flag Reg.PFC_CTRL_ENABLE c = false ∧ t.rd Reg.PFC_STATUS_CFG_CAUSE c = s.pfCause c % 16) ∧
  (∀ s (c : Fin 32), s.pfState c = 1 → Does (.pfEnable c false) s [.mem, .poisoned, .outcome, .fresh, .health, .zdp, .pfu, .regs .le, .regs .pf, .regs .cnt, .regs .hl] fun t => t.outcome = 0 ∧ t.pfState c = 0 ∧
    t.flag Reg.PFC_CTRL_ENABLE c = false ∧ (t.pf c).request = none ∧ t.pfPos c = s.pfPos c) ∧
  (∀ s (c : Fin 32), s.rd Reg.PFC_CFG_PT_MODE c = 3 → Does (.pfServiceTest c) s [.outcome, .health, .pfu, .regs .le, .regs .pf] fun t => t.outcome = 14 ∧ t.regs = s.regs ∧
    t.pfu = s.pfu) ∧
  (∀ s (c : Fin 32), s.rd Reg.PFC_CFG_PT_MODE c ≠ 3 → s.pfState c < 3 → Does (.pfServiceTest c) s [.outcome, .health, .pfu, .regs .le, .regs .pf] fun t => t.outcome = 0 ∧
    t.pfState c = 3 ∧ t.flag Reg.PFC_STATUS_BIST_PASS c = false) ∧
  (∀ s (c : Fin 32), s.pfState c = 3 → Does (.pfSelfTestDone c true) s [.dict, .fresh, .health, .zdp, .ports, .pfu, .regs .le, .regs .pf, .regs .cnt, .regs .hl] fun t => t.pfState c = 2 ∧
    t.flag Reg.PFC_STATUS_BIST_PASS c = true) ∧
  (∀ s (c : Fin 32), s.pfState c = 3 → Does (.pfSelfTestDone c false) s [.dict, .fresh, .health, .zdp, .ports, .pfu, .regs .le, .regs .pf, .regs .cnt, .regs .hl] fun t => t.pfState c = 4 ∧ t.flag Reg.PF_IRQ_RETIRED = true) ∧
  (∀ s (c : Fin 32) pass, s.pfState c ≠ 3 → exec (.pfSelfTestDone c pass) s = .next s) ∧
  (∀ s (c : Fin 32), s.pfState c = 2 → s.flag Reg.PFC_CTRL_ENABLE c = false → Does (.pfServiceReturn c) s [.mem, .poisoned, .outcome, .fresh, .health, .zdp, .pfu, .regs .le, .regs .pf, .regs .cnt, .regs .hl] fun t => t.outcome = 0 ∧
    t.pfState c = 0) ∧
  (∀ s (c : Fin 32), s.pfState c ≠ 2 → Does (.pfServiceReturn c) s [.mem, .poisoned, .outcome, .fresh, .health, .zdp, .pfu, .regs .le, .regs .pf, .regs .cnt, .regs .hl] fun t => t.outcome = 15 ∧ t.regs = s.regs ∧ t.pfu = s.pfu) ∧
  (∀ s (c : Fin 32), s.pfState c ≠ 4 → Does (.pfInternal c) s [.mem, .dict, .poisoned, .fresh, .health, .zdp, .ports, .pfu, .regs .le, .regs .pf, .regs .cnt, .regs .hl] fun t => t.pfState c = 4 ∧ bitOf (t.rd Reg.PFC_FAULT_FAULT c) 10 = true ∧
    t.flag Reg.PF_IRQ_RETIRED = true) ∧
  (∀ s (c : Fin 32), s.pfState c = 4 → exec (.pfInternal c) s = .next s)


/-- R354, R355, R356, R358, R359, R361, R362, R363, R364, R366, R367, R398: the frames of a CAN controller. A request that passes
its checks becomes pending and the next frame is selected when the bus is idle; a cancel ends a request or is held while its frame
is on the bus; a frame sent, lost to arbitration or ended by an error reports its buffer; received frames go to the ring of 80-byte
entries or are lost when it is full; the error counters drive the error states.
A clause on a corner that the rules leave open follows the choice of the model (log entries 19 and 40). -/
def Obligations.CanFrames : Prop :=
  (∀ s (n : Fin 16) v (b : Fin 32), bitOf v.toNat b = true → s.canReqOk n b = true → Does (.canTxReq n v) s [.can, .regs .can, .regs .cnt] fun t =>
    bitOf (t.rd Reg.CAN_TX_PEND_PEND n) b = true ∧ (t.canSt n).buf = (s.canSt n).buf) ∧
  (∀ s (n : Fin 16) v (b : Fin 32), bitOf v.toNat b = true → s.canReqOk n b = false →
    bitOf (s.rd Reg.CAN_TX_PEND_PEND n) b = false → Does (.canTxReq n v) s [.can, .regs .can, .regs .cnt] fun t =>
    bitOf (t.rd Reg.CAN_TX_PEND_PEND n) b = false ∧ t.flag Reg.CAN_STATUS_TX_REQ_IGNORED n = true) ∧
  (∀ s (n : Fin 16) v (b : Fin 32), bitOf v.toNat b = false → Does (.canTxReq n v) s [.can, .regs .can, .regs .cnt] fun t =>
    bitOf (t.rd Reg.CAN_TX_PEND_PEND n) b = bitOf (s.rd Reg.CAN_TX_PEND_PEND n) b) ∧
  (∀ s (n : Fin 16) v (b : Fin 32), v.toNat = 2 ^ b.val → s.canReqOk n b = true → s.rd Reg.CAN_TX_PEND_PEND n = 0 →
    (s.canSt n).onBus = none → (s.canSt n).busBusy = false → Does (.canTxReq n v) s [.can, .regs .can, .regs .cnt] fun t =>
    (t.canSt n).onBus = some (b.val, s.canCount n) ∧ t.rd Reg.CAN_TX_PEND_PEND n = 2 ^ b.val) ∧
  (∀ s (n : Fin 16) v (b : Fin 32) (ts : Nat), bitOf v.toNat b = true → bitOf (s.rd Reg.CAN_TX_PEND_PEND n) b = true →
    (s.canSt n).onBus = some (b.val, ts) → Does (.canTxCancel n v) s [.can, .regs .can] fun t =>
    bitOf (t.rd Reg.CAN_TX_PEND_PEND n) b = true ∧ (t.canSt n).heldCancel = true ∧ (t.canSt n).onBus = some (b.val, ts)) ∧
  (∀ s (n : Fin 16) v (b : Fin 32), bitOf v.toNat b = true → bitOf (s.rd Reg.CAN_TX_PEND_PEND n) b = true →
    (s.canSt n).onBus = none → Does (.canTxCancel n v) s [.can, .regs .can] fun t =>
    bitOf (t.rd Reg.CAN_TX_PEND_PEND n) b = false ∧ bitOf (t.rd Reg.CAN_TX_CANCELLED_CANCELLED n) b = true ∧
    t.flag Reg.CAN_IRQ_CANCELLED n = true) ∧
  (∀ s (n : Fin 16) (stored : Nat) rest, (s.canSt n).unread = stored :: rest →
    s.elapsed stored (s.rd Reg.CAN_RX_CFG_IRQ_TIME n * 10000) = true → Does (.canRxIrqTimeout n) s [.regs .can] fun t =>
    t.flag Reg.CAN_IRQ_RX n = true ∧ t.can = s.can ∧ RegsBut [Reg.CAN_IRQ_RX.key n 0] s t) ∧
  (∀ s (n : Fin 16) v, v.toNat % 2 ^ 14 < s.canRingSize n →
    (v.toNat % 2 ^ 14 + s.canRingSize n - s.rd Reg.CAN_RX_TAIL_TAIL n % s.canRingSize n) % s.canRingSize n ≤ s.canUnread n →
    Does (.canRxTailWrite n v) s [.can, .regs .can] fun t => t.rd Reg.CAN_RX_TAIL_TAIL n = v.toNat % 2 ^ 14 ∧
    RegsBut [Reg.CAN_RX_TAIL_TAIL.key n 0] s t) ∧
  (∀ s (n : Fin 16) v, v.toNat % 2 ^ 14 < s.canRingSize n →
    s.canUnread n < (v.toNat % 2 ^ 14 + s.canRingSize n - s.rd Reg.CAN_RX_TAIL_TAIL n % s.canRingSize n) % s.canRingSize n →
    exec (.canRxTailWrite n v) s = .next s) ∧
  (∀ s (n : Fin 16) bits timeNs (b : Fin 32) (ts : Nat), (s.canSt n).onBus = some (b.val, ts) → Map.get none (s.canSt n).tapWait b.val = none →
    Does (.canTxComplete n bits timeNs) s [.mem, .dict, .poisoned, .fresh, .health, .zdp, .ports, .can, .regs .can, .regs .cnt, .regs .hl] fun t =>
    bitOf (t.rd Reg.CAN_TX_PEND_PEND n) b = false ∧ bitOf (t.rd Reg.CAN_TX_DONE_DONE n) b = true ∧
    t.flag Reg.CAN_IRQ_TX_DONE n = true ∧ t.rd Reg.CAN_ECNT_TEC n = (s.rd Reg.CAN_ECNT_TEC n - 1) % 2 ^ 9 ∧
    t.rd Reg.CAN_ECNT_ACK_RUN n = 0 ∧ t.flag Reg.CAN_STATUS_ALONE n = false ∧
    (t.canSt n).txFrames = (s.canSt n).txFrames + 1 ∧ (t.canSt n).word b 3 = ts % 2 ^ 32 ∧
    ((s.canSt n).heldCancel = true → bitOf (t.rd Reg.CAN_TX_CANCEL_FAIL_CANCEL_FAIL n) b = true ∧
      bitOf (t.rd Reg.CAN_TX_CANCELLED_CANCELLED n) b = bitOf (s.rd Reg.CAN_TX_CANCELLED_CANCELLED n) b) ∧
    (s.flag Reg.CAN_CTRL_ECHO n = false → t.mem = s.mem ∧ t.rd Reg.CAN_RX_HEAD_HEAD n = s.rd Reg.CAN_RX_HEAD_HEAD n) ∧
    MemBut (gristBase + (s.rd Reg.CAN_RX_BASE_BASE n * 64 + 80 * (s.rd Reg.CAN_RX_HEAD_HEAD n % s.canRingSize n))) 80 s t) ∧
  (∀ s (n : Fin 16) bits timeNs, (s.canSt n).onBus = none → exec (.canTxComplete n bits timeNs) s = .next s) ∧
  (∀ s (n : Fin 16) (b : Fin 32) (ts : Nat), (s.canSt n).onBus = some (b.val, ts) → Map.get none (s.canSt n).tapWait b.val = none →
    Does (.canArbitrationLost n) s [.can, .regs .can, .regs .cnt] fun t => (t.canSt n).onBus = none ∧ (t.canSt n).busBusy = true ∧
    ((s.canSt n).heldCancel = true → bitOf (t.rd Reg.CAN_TX_PEND_PEND n) b = false ∧
      bitOf (t.rd Reg.CAN_TX_CANCELLED_CANCELLED n) b = true ∧ t.flag Reg.CAN_IRQ_CANCELLED n = true) ∧
    ((s.canSt n).heldCancel = false → bitOf ((s.canSt n).word b 1) 6 = true →
      bitOf (t.rd Reg.CAN_TX_PEND_PEND n) b = false ∧ bitOf (t.rd Reg.CAN_TX_FAILED_FAILED n) b = true) ∧
    ((s.canSt n).heldCancel = false → bitOf ((s.canSt n).word b 1) 6 = false → t.regs = s.regs)) ∧
  (∀ s (n : Fin 16), (s.canSt n).onBus = none → exec (.canArbitrationLost n) s = .next s) ∧
  (∀ s (n : Fin 16) kind dominant, s.rd Reg.CAN_STATUS_STATE n = 1 → s.canBusOff n = false → s.canMode n ≠ 2 →
    (kind ≠ .ack ∨ s.rd Reg.CAN_STATUS_ERR_STATE n ≠ 1 ∨ dominant = true) → Does (.canBusError n kind true dominant) s [.dict, .fresh, .health, .zdp, .ports, .can, .regs .can, .regs .cnt, .regs .hl] fun t =>
    t.rd Reg.CAN_ECNT_TEC n = min 511 (s.rd Reg.CAN_ECNT_TEC n + 8) ∧ t.rd Reg.CAN_ECNT_REC n = s.rd Reg.CAN_ECNT_REC n ∧
    t.flag Reg.CAN_STATUS_WARNING n = decide (96 ≤ min 511 (s.rd Reg.CAN_ECNT_TEC n + 8) ∨ 96 ≤ s.rd Reg.CAN_ECNT_REC n) ∧
    (248 ≤ s.rd Reg.CAN_ECNT_TEC n → t.rd Reg.CAN_STATUS_ERR_STATE n = 2 ∧ t.flag Reg.CAN_IRQ_BUS_OFF n = true ∧
      ∀ b : Fin 32, bitOf (t.rd Reg.CAN_TX_PEND_PEND n) b = false) ∧
    (120 ≤ s.rd Reg.CAN_ECNT_TEC n → s.rd Reg.CAN_ECNT_TEC n < 248 → t.rd Reg.CAN_STATUS_ERR_STATE n = 1)) ∧
  (∀ s (n : Fin 16) kind dominant, s.rd Reg.CAN_STATUS_STATE n = 1 → s.canBusOff n = false → s.canMode n ≠ 2 →
    Does (.canBusError n kind false dominant) s [.dict, .fresh, .health, .zdp, .ports, .can, .regs .can, .regs .cnt, .regs .hl] fun t => t.rd Reg.CAN_ECNT_TEC n = s.rd Reg.CAN_ECNT_TEC n ∧
    t.rd Reg.CAN_ECNT_REC n = min 255 (s.rd Reg.CAN_ECNT_REC n + if dominant then 8 else 1)) ∧
  (∀ s (n : Fin 16) kind transmitting dominant, s.rd Reg.CAN_STATUS_STATE n = 1 → s.canBusOff n = false →
    Does (.canBusError n kind transmitting dominant) s [.dict, .fresh, .health, .zdp, .ports, .can, .regs .can, .regs .cnt, .regs .hl] fun t =>
    t.rd Reg.CAN_STATUS_LAST_ERR n = (match kind with | .bit => 1 | .stuff => 2 | .form => 3 | .ack => 4 | .crc => 5) ∧
    (transmitting = true → kind = .ack → s.rd Reg.CAN_ECNT_ACK_RUN n = 15 → t.flag Reg.CAN_STATUS_ALONE n = true ∧
      t.flag Reg.CAN_IRQ_ALONE n = true)) ∧
  (∀ s (n : Fin 16) kind transmitting dominant, s.rd Reg.CAN_STATUS_STATE n ≠ 1 →
    exec (.canBusError n kind transmitting dominant) s = .next s) ∧
  (∀ s (n : Fin 16) node kind sub, Does (.segmentGapTimeout n node kind sub) s [.can] fun t =>
    (t.canSt n).partials =
      (s.canSt n).partials.filter (fun p => !(p.node == node.toNat && p.kind == kind.toNat && p.sub == sub.toNat)) ∧
    (t.canSt n).buf = (s.canSt n).buf ∧ t.regs = s.regs) ∧
  (∀ s (n : Fin 16) f lenNs, s.rd Reg.CAN_STATUS_STATE n = 1 → s.canMode n ≠ 0 → s.canBusOff n = false →
    s.canUnread n + 1 ≠ s.canRingSize n → Does (.canFrameReceived n f lenNs) s [.mem, .dict, .poisoned, .fresh, .health, .zdp, .ports, .claims, .can, .regs .can, .regs .cnt, .regs .hl] fun t =>
    t.rd Reg.CAN_RX_HEAD_HEAD n = (s.rd Reg.CAN_RX_HEAD_HEAD n % s.canRingSize n + 1) % s.canRingSize n % 2 ^ 14 ∧
    t.rd Reg.CAN_RX_LOST_LOST n = s.rd Reg.CAN_RX_LOST_LOST n ∧ (t.canSt n).rxSeq = ((s.canSt n).rxSeq + 1) % 2 ^ 32 ∧
    (t.canSt n).rxFrames = (s.canSt n).rxFrames + 1 ∧ t.rd Reg.CAN_ECNT_ACK_RUN n = 0 ∧ t.flag Reg.CAN_STATUS_ALONE n = false ∧
    MemBut (gristBase + (s.rd Reg.CAN_RX_BASE_BASE n * 64 + 80 * (s.rd Reg.CAN_RX_HEAD_HEAD n % s.canRingSize n))) 80 s t) ∧
  (∀ s (n : Fin 16) f lenNs, s.rd Reg.CAN_STATUS_STATE n = 1 → s.canMode n ≠ 0 → s.canBusOff n = false →
    s.canUnread n + 1 = s.canRingSize n → Does (.canFrameReceived n f lenNs) s [.mem, .dict, .poisoned, .fresh, .health, .zdp, .ports, .claims, .can, .regs .can, .regs .cnt, .regs .hl] fun t => t.mem = s.mem ∧
    t.rd Reg.CAN_RX_HEAD_HEAD n = s.rd Reg.CAN_RX_HEAD_HEAD n ∧ t.flag Reg.CAN_IRQ_RX_LOST n = true ∧
    t.rd Reg.CAN_RX_LOST_LOST n = min (2 ^ 32 - 1) (s.rd Reg.CAN_RX_LOST_LOST n + 1) ∧
    (t.canSt n).rxSeq = ((s.canSt n).rxSeq + 1) % 2 ^ 32) ∧
  (∀ s (n : Fin 16) f lenNs, s.rd Reg.CAN_STATUS_STATE n ≠ 1 → exec (.canFrameReceived n f lenNs) s = .next s)

/-- R349, R350, R368, R374: enable, disable, recovery and service of a CAN controller. The enable checks the configuration and
starts the controller or names the failing check; the disable withdraws every request; recovery clears the error counters; a
self-test withdraws the requests and ends OFFLINE or RETIRED; an OFFLINE controller returns.
A clause on a corner that the rules leave open follows the choice of the model (log entries 18 and 40). -/
def Obligations.CanModes : Prop :=
  (∀ s (n : Fin 16) mode, s.rd Reg.CAN_STATUS_STATE n = 0 → mode ≠ 0 → s.canCfgCause n = 0 → Does (.canEnable n mode false) s [.dict, .outcome, .can, .regs .can] fun t =>
    t.canMode n = mode.toNat ∧ t.rd Reg.CAN_STATUS_STATE n = 1 ∧ t.rd Reg.CAN_STATUS_CFG_CAUSE n = 0 ∧ (t.canSt n).rxSeq = 0 ∧
    RegsBut [Reg.CAN_CTRL_MODE.key n 0, Reg.CAN_STATUS_STATE.key n 0, Reg.CAN_STATUS_CFG_CAUSE.key n 0] s t) ∧
  (∀ s (n : Fin 16) mode, s.rd Reg.CAN_STATUS_STATE n = 0 → mode ≠ 0 → s.canCfgCause n ≠ 0 → Does (.canEnable n mode false) s [.dict, .outcome, .can, .regs .can] fun t =>
    t.rd Reg.CAN_STATUS_CFG_CAUSE n = s.canCfgCause n ∧ t.can = s.can ∧ RegsBut [Reg.CAN_STATUS_CFG_CAUSE.key n 0] s t) ∧
  (∀ s (n : Fin 16) mode, s.rd Reg.CAN_STATUS_STATE n ≠ 0 → exec (.canEnable n mode false) s = .next s) ∧
  (∀ s (n : Fin 16) mode, s.rd Reg.CAN_STATUS_STATE n = 1 → Does (.canEnable n mode true) s [.dict, .outcome, .can, .regs .can] fun t => t.outcome = 0 ∧
    t.objN Obj.CF_ENABLE n = 1 ∧ t.regs = s.regs ∧ t.can = s.can ∧ ObjsBut [Obj.CF_ENABLE.key n 0] s t) ∧
  (∀ s (n : Fin 16) mode, 1 < s.rd Reg.CAN_STATUS_STATE n → Does (.canEnable n mode true) s [.dict, .outcome, .can, .regs .can] fun t => t.outcome = 15 ∧
    t.regs = s.regs ∧ t.dict = s.dict ∧ t.can = s.can) ∧
  (∀ s (n : Fin 16) mode, s.rd Reg.CAN_STATUS_STATE n = 0 → (s.canLoad n).canCfgCause n = 0 → Does (.canEnable n mode true) s [.dict, .outcome, .can, .regs .can] fun t =>
    t.outcome = 0 ∧ t.objN Obj.CF_ENABLE n = 1 ∧ t.rd Reg.CAN_STATUS_STATE n = 1 ∧ t.canMode n = s.objN Obj.CF_MODE n % 2 ^ 2) ∧
  (∀ s (n : Fin 16) mode, s.rd Reg.CAN_STATUS_STATE n = 0 → (s.canLoad n).canCfgCause n ≠ 0 → Does (.canEnable n mode true) s [.dict, .outcome, .can, .regs .can] fun t =>
    t.outcome = 14 ∧ t.dict = s.dict ∧ t.can = s.can ∧ RegsBut [Reg.CAN_STATUS_CFG_CAUSE.key n 0] s t) ∧
  (∀ s (n : Fin 16) order, Does (.canDisable n order) s [.dict, .outcome, .can, .regs .can] fun t => t.canMode n = 0 ∧ (t.canSt n).onBus = none ∧
    (t.canSt n).partials = [] ∧ (s.rd Reg.CAN_STATUS_STATE n = 1 → t.rd Reg.CAN_STATUS_STATE n = 0) ∧
    (∀ b : Fin 32, bitOf (t.rd Reg.CAN_TX_PEND_PEND n) b = false) ∧
    (∀ b : Fin 32, bitOf (s.rd Reg.CAN_TX_PEND_PEND n) b = true → bitOf (t.rd Reg.CAN_TX_FAILED_FAILED n) b = true) ∧
    (order = true → t.outcome = 0 ∧ t.objN Obj.CF_ENABLE n = 0) ∧ (order = false → t.dict = s.dict ∧ t.outcome = s.outcome)) ∧
  (∀ s (n : Fin 16) order, s.canBusOff n = true → Does (.canRecover n order) s [.outcome, .regs .can] fun t => t.outcome = 0 ∧
    t.flag Reg.CAN_STATUS_RECOVERING n = true ∧ RegsBut [Reg.CAN_STATUS_RECOVERING.key n 0] s t) ∧
  (∀ s (n : Fin 16), s.canBusOff n = false → Does (.canRecover n true) s [.outcome, .regs .can] fun t => t.outcome = 14 ∧ t.regs = s.regs) ∧
  (∀ s (n : Fin 16), s.canBusOff n = false → exec (.canRecover n false) s = .next s) ∧
  (∀ s (n : Fin 16), s.canBusOff n = true → s.flag Reg.CAN_STATUS_RECOVERING n = true → Does (.recoveryComplete n) s [.fresh, .health, .zdp, .can, .regs .can, .regs .cnt, .regs .hl] fun t =>
    t.rd Reg.CAN_ECNT_TEC n = 0 ∧ t.rd Reg.CAN_ECNT_REC n = 0 ∧ t.rd Reg.CAN_STATUS_ERR_STATE n = 0 ∧
    t.flag Reg.CAN_STATUS_RECOVERING n = false ∧ t.flag Reg.CAN_STATUS_WARNING n = false ∧ t.flag Reg.CAN_IRQ_ERR_STATE n = true ∧
    t.rd Reg.CAN_TX_PEND_PEND n = s.rd Reg.CAN_TX_PEND_PEND n) ∧
  (∀ s (n : Fin 16), s.flag Reg.CAN_STATUS_RECOVERING n = false → exec (.recoveryComplete n) s = .next s) ∧
  (∀ s (n : Fin 16) order, s.rd Reg.CAN_STATUS_STATE n < 3 → Does (.canServiceTest n order) s [.outcome, .health, .can, .regs .can] fun t => t.outcome = 0 ∧
    t.rd Reg.CAN_STATUS_STATE n = 3 ∧ t.flag Reg.CAN_STATUS_BIST_PASS n = false ∧ (t.canSt n).onBus = none ∧
    ∀ b : Fin 32, bitOf (t.rd Reg.CAN_TX_PEND_PEND n) b = false) ∧
  (∀ s (n : Fin 16), 3 ≤ s.rd Reg.CAN_STATUS_STATE n → Does (.canServiceTest n true) s [.outcome, .health, .can, .regs .can] fun t => t.outcome = 15 ∧
    t.regs = s.regs ∧ t.can = s.can ∧ t.health = s.health) ∧
  (∀ s (n : Fin 16), 3 ≤ s.rd Reg.CAN_STATUS_STATE n → exec (.canServiceTest n false) s = .next s) ∧
  (∀ s (n : Fin 16), s.rd Reg.CAN_STATUS_STATE n = 3 → Does (.canSelfTestDone n true) s [.dict, .fresh, .health, .zdp, .ports, .can, .regs .can, .regs .cnt, .regs .hl] fun t =>
    t.rd Reg.CAN_STATUS_STATE n = 2 ∧ t.flag Reg.CAN_STATUS_BIST_PASS n = true ∧
    t.rd Reg.CAN_TX_PEND_PEND n = s.rd Reg.CAN_TX_PEND_PEND n) ∧
  (∀ s (n : Fin 16), s.rd Reg.CAN_STATUS_STATE n = 3 → Does (.canSelfTestDone n false) s [.dict, .fresh, .health, .zdp, .ports, .can, .regs .can, .regs .cnt, .regs .hl] fun t =>
    t.rd Reg.CAN_STATUS_STATE n = 4 ∧ t.flag Reg.CAN_IRQ_RETIRED n = true ∧
    ∀ b : Fin 32, bitOf (t.rd Reg.CAN_TX_PEND_PEND n) b = false) ∧
  (∀ s (n : Fin 16) pass, s.rd Reg.CAN_STATUS_STATE n ≠ 3 → exec (.canSelfTestDone n pass) s = .next s) ∧
  (∀ s (n : Fin 16) order, s.rd Reg.CAN_STATUS_STATE n = 2 → s.canMode n = 0 → Does (.canServiceReturn n order) s [.outcome, .fresh, .health, .can, .regs .can, .regs .hl] fun t =>
    t.outcome = 0 ∧ t.rd Reg.CAN_STATUS_STATE n = 0 ∧ (t.unit (slotAt 6 n)).state = 0 ∧ t.can = s.can) ∧
  (∀ s (n : Fin 16) order, s.rd Reg.CAN_STATUS_STATE n = 2 → s.canMode n ≠ 0 → s.canCfgCause n = 0 →
    Does (.canServiceReturn n order) s [.outcome, .fresh, .health, .can, .regs .can, .regs .hl] fun t => t.outcome = 0 ∧ t.rd Reg.CAN_STATUS_STATE n = 1 ∧
    (t.unit (slotAt 6 n)).state = 0 ∧ (t.canSt n).rxSeq = 0) ∧
  (∀ s (n : Fin 16), s.rd Reg.CAN_STATUS_STATE n ≠ 2 → Does (.canServiceReturn n true) s [.outcome, .fresh, .health, .can, .regs .can, .regs .hl] fun t => t.outcome = 15 ∧
    t.regs = s.regs ∧ t.health = s.health) ∧
  (∀ s (n : Fin 16), s.rd Reg.CAN_STATUS_STATE n ≠ 2 → exec (.canServiceReturn n false) s = .next s)


/-- R341, R345, R397, R399, R400, R402: frames and characters of the Ethernet MACs, peer links and serial ports. A good frame is
counted and goes to the receive ring, to the dictionary gate, or is dropped and counted; a sent frame stamps and releases its entry;
a tail write offers entries; a bad peer frame counts as a CRC error; a serial character counts its errors and is stored.
A clause on a corner that the rules leave open follows the choice of the model (log entry 59). -/
def Obligations.PortFrames : Prop :=
  (∀ s (m : Fin 8) frame fcsOk agoNs, s.rd Reg.EM_STATUS_STATE m ≠ 1 → exec (.emFrameReceived m frame fcsOk agoNs) s = .next s) ∧
  (∀ s (m : Fin 8) frame agoNs, s.rd Reg.EM_STATUS_STATE m = 1 → Does (.emFrameReceived m frame false agoNs) s [.mem, .dict, .poisoned, .zdp, .ports, .claims, .regs .em, .regs .cnt] fun t =>
    t.flag Reg.EM_STATUS_LINK m = true ∧ t.mem = s.mem ∧ t.dict = s.dict ∧ t.ports = s.ports ∧ t.zdp = s.zdp) ∧
  (∀ s (m : Fin 8) frame agoNs, s.rd Reg.EM_STATUS_STATE m = 1 → udpOf frame = none →
    (s.rd Reg.EM_RX_HEAD_HEAD m + 1) % 2 ^ s.rd Reg.EM_RX_CFG_LOG2 m ≠ s.rd Reg.EM_RX_TAIL_TAIL m →
    Does (.emFrameReceived m frame true agoNs) s [.mem, .dict, .poisoned, .zdp, .ports, .claims, .regs .em, .regs .cnt] fun t => t.flag Reg.EM_IRQ_RX m = true ∧
    t.rd Reg.EM_RX_HEAD_HEAD m = (s.rd Reg.EM_RX_HEAD_HEAD m + 1) % 2 ^ s.rd Reg.EM_RX_CFG_LOG2 m % 2 ^ 12 ∧
    t.objN Obj.EM_RX_FRAMES m = (s.objN Obj.EM_RX_FRAMES m + 1) % 2 ^ 64 ∧
    MemBut (gristBase + (s.rd Reg.EM_RX_BASE_BASE m * 64 + 2048 * s.rd Reg.EM_RX_HEAD_HEAD m)) (min 2048 (32 + frame.length)) s t) ∧
  (∀ s (m : Fin 8) frame agoNs, s.rd Reg.EM_STATUS_STATE m = 1 → udpOf frame = none →
    (s.rd Reg.EM_RX_HEAD_HEAD m + 1) % 2 ^ s.rd Reg.EM_RX_CFG_LOG2 m = s.rd Reg.EM_RX_TAIL_TAIL m →
    Does (.emFrameReceived m frame true agoNs) s [.mem, .dict, .poisoned, .zdp, .ports, .claims, .regs .em, .regs .cnt] fun t => t.flag Reg.EM_IRQ_RX_LOST m = true ∧
    t.rd Reg.EM_RX_HEAD_HEAD m = s.rd Reg.EM_RX_HEAD_HEAD m ∧ t.mem = s.mem ∧
    t.rd Reg.EM_RX_LOST_LOST m = min (2 ^ 32 - 1) (s.rd Reg.EM_RX_LOST_LOST m + 1)) ∧
  (∀ s (m : Fin 8) frame agoNs u, s.rd Reg.EM_STATUS_STATE m = 1 → udpOf frame = some u →
    udpAccepted u.port (s.classAt (m + 1)) = true → u.port = 47301 →
    (u.whole && u.ipOk && u.sumOk && u.dst == s.rd Reg.EM_IPV4_IP m) = true →
    Does (.emFrameReceived m frame true agoNs) s [.mem, .dict, .poisoned, .zdp, .ports, .claims, .regs .em, .regs .cnt] fun t => Map.get none t.ports.message (m + 1) = some u.body ∧
    t.rd Reg.EM_RX_HEAD_HEAD m = s.rd Reg.EM_RX_HEAD_HEAD m ∧ t.mem = s.mem ∧ t.zdp = s.zdp) ∧
  (∀ s (m : Fin 8) frame agoNs u, s.rd Reg.EM_STATUS_STATE m = 1 → udpOf frame = some u →
    udpAccepted u.port (s.classAt (m + 1)) = false →
    Does (.emFrameReceived m frame true agoNs) s [.mem, .dict, .poisoned, .zdp, .ports, .claims, .regs .em, .regs .cnt] fun t => t.mem = s.mem ∧ t.ports = s.ports ∧ t.flag Reg.EM_IRQ_ZDP_DROP m = true ∧
    Map.get 0 t.zdp.dropped (m + 1) = (Map.get 0 s.zdp.dropped (m + 1) + 1) % 2 ^ 32 ∧
    t.rd Reg.EM_ZDP_DROP_COUNT m = min (2 ^ 32 - 1) (s.rd Reg.EM_ZDP_DROP_COUNT m + 1)) ∧
  (∀ s (m : Fin 8), s.rd Reg.EM_STATUS_STATE m ≠ 1 → exec (.emFrameSent m) s = .next s) ∧
  (∀ s (m : Fin 8), (s.txSt m).busy = none → s.txNext m = none → exec (.emFrameSent m) s = .next s) ∧
  (∀ s (m : Fin 8) f, s.rd Reg.EM_STATUS_STATE m = 1 → (s.txSt m).busy = some f → Does (.emFrameSent m) s [.mem, .dict, .poisoned, .zdp, .ports, .claims, .gate, .regs .em, .regs .cnt] fun t =>
    t.objN Obj.EM_TX_FRAMES m = (s.objN Obj.EM_TX_FRAMES m + 1) % 2 ^ 64 ∧ t.flag Reg.EM_STATUS_LINK m = true) ∧
  (∀ s (m : Fin 8) (q : Fin 4) (e : Nat), s.rd Reg.EM_STATUS_STATE m = 1 → (s.txSt m).busy = some (.ring q e) →
    Does (.emFrameSent m) s [.mem, .dict, .poisoned, .zdp, .ports, .claims, .gate, .regs .em, .regs .cnt] fun t => t.flag Reg.EM_IRQ_TX_DONE m = true ∧
    t.rd Reg.EM_TX_HEAD_HEAD m q = (e + 1) % 2 ^ s.rd Reg.EM_TX_CFG_LOG2 m q % 2 ^ 12 ∧
    MemBut (gristBase + (s.txEntry m q e + 2)) 22 s t) ∧
  (∀ s (p : PortNo) (q : Fin 4) v, 1 ≤ p.val → p.val ≤ 8 → Does (.txTailWrite p q v) s [.zdp, .ports, .claims, .gate, .regs .em, .regs .xl, .regs .su, .regs .cnt] fun t =>
    t.rd Reg.EM_TX_TAIL_TAIL (p - 1 : Nat) q = v.toNat % 2 ^ s.rd Reg.EM_TX_CFG_LOG2 (p - 1 : Nat) q % 2 ^ 12 ∧
    RegsBut [Reg.EM_TX_TAIL_TAIL.key (p - 1 : Nat) q] s t) ∧
  (∀ s (p : PortNo) (q : Fin 4) v, 25 ≤ p.val → p.val ≤ 32 → s.rd Reg.SU_STATUS_STATE (p - 25 : Nat) = 1 →
    Does (.txTailWrite p q v) s [.zdp, .ports, .claims, .gate, .regs .em, .regs .xl, .regs .su, .regs .cnt] fun t =>
    t.rd Reg.SU_TX_TAIL_TAIL (p - 25 : Nat) = v.toNat % 2 ^ s.rd Reg.SU_TX_CFG_LOG2 (p - 25 : Nat) % 2 ^ 16 ∧
    t.rd Reg.SU_TX_HEAD_HEAD (p - 25 : Nat) = t.rd Reg.SU_TX_TAIL_TAIL (p - 25 : Nat) ∧
    t.flag Reg.SU_IRQ_TX_EMPTY (p - 25 : Nat) = true) ∧
  (∀ s (p : PortNo) (q : Fin 4) v, 33 ≤ p.val → p.val ≤ 36 → s.rd Reg.XL_STATUS_STATE (p - 33 : Nat) = 1 →
    Does (.txTailWrite p q v) s [.zdp, .ports, .claims, .gate, .regs .em, .regs .xl, .regs .su, .regs .cnt] fun t =>
    t.rd Reg.XL_TX_TAIL_TAIL (p - 33 : Nat) = v.toNat % 2 ^ s.rd Reg.XL_TX_CFG_LOG2 (p - 33 : Nat) % 2 ^ 10 ∧
    t.rd Reg.XL_TX_HEAD_HEAD (p - 33 : Nat) = t.rd Reg.XL_TX_TAIL_TAIL (p - 33 : Nat)) ∧
  (∀ s (p : PortNo) (q : Fin 4) v, 25 ≤ p.val → p.val ≤ 32 → s.rd Reg.SU_STATUS_STATE (p - 25 : Nat) ≠ 1 →
    Does (.txTailWrite p q v) s [.zdp, .ports, .claims, .gate, .regs .em, .regs .xl, .regs .su, .regs .cnt] fun t => RegsBut [Reg.SU_TX_TAIL_TAIL.key (p - 25 : Nat) 0] s t ∧
    t.rd Reg.SU_TX_TAIL_TAIL (p - 25 : Nat) = v.toNat % 2 ^ s.rd Reg.SU_TX_CFG_LOG2 (p - 25 : Nat) % 2 ^ 16) ∧
  (∀ s (p : PortNo) (q : Fin 4) v, 33 ≤ p.val → p.val ≤ 36 → s.rd Reg.XL_STATUS_STATE (p - 33 : Nat) ≠ 1 →
    Does (.txTailWrite p q v) s [.zdp, .ports, .claims, .gate, .regs .em, .regs .xl, .regs .su, .regs .cnt] fun t => RegsBut [Reg.XL_TX_TAIL_TAIL.key (p - 33 : Nat) 0] s t ∧
    t.rd Reg.XL_TX_TAIL_TAIL (p - 33 : Nat) = v.toNat % 2 ^ s.rd Reg.XL_TX_CFG_LOG2 (p - 33 : Nat) % 2 ^ 10) ∧
  (∀ s (p : PortNo) (q : Fin 4) v, p.val = 0 ∨ (9 ≤ p.val ∧ p.val ≤ 24) ∨ p.val = 37 → exec (.txTailWrite p q v) s = .next s) ∧
  (∀ s (link : Fin 4) f, s.rd Reg.XL_STATUS_STATE link ≠ 1 → exec (.peerFrameReceived link f) s = .next s) ∧
  (∀ s (link : Fin 4) f, s.rd Reg.XL_STATUS_STATE link = 1 →
    (crc32 (peerBytes f) ≠ f.crc.toNat ∨ f.type = 0 ∨ 8 ≤ f.type.toNat) → Does (.peerFrameReceived link f) s [.mem, .dict, .poisoned, .health, .ports, .journal, .claims, .regs .xl, .regs .cnt, .regs .hl, .regs .je] fun t =>
    t.flag Reg.XL_IRQ_CRC link = true ∧ t.rd Reg.XL_CRC_ERR_COUNT link = min (2 ^ 32 - 1) (s.rd Reg.XL_CRC_ERR_COUNT link + 1) ∧
    t.mem = s.mem ∧ t.ports = s.ports ∧ t.claims = s.claims) ∧
  (∀ s (link : Fin 4) f, s.rd Reg.XL_STATUS_STATE link = 1 → crc32 (peerBytes f) = f.crc.toNat → f.type = 1 →
    Does (.peerFrameReceived link f) s [.mem, .dict, .poisoned, .health, .ports, .journal, .claims, .regs .xl, .regs .cnt, .regs .hl, .regs .je] fun t => Map.get none t.ports.message (33 + link.val) = some f.payload ∧
    t.rd Reg.XL_STATUS_PEER_NODE link = f.src.toNat % 2 ^ 14 ∧ t.mem = s.mem) ∧
  (∀ s (link : Fin 4) f, s.rd Reg.XL_STATUS_STATE link = 1 → crc32 (peerBytes f) = f.crc.toNat → 4 ≤ f.type.toNat →
    f.type.toNat ≤ 7 → (s.rd Reg.XL_RX_HEAD_HEAD link + 1) % 2 ^ s.rd Reg.XL_RX_CFG_LOG2 link ≠ s.rd Reg.XL_RX_TAIL_TAIL link →
    Does (.peerFrameReceived link f) s [.mem, .dict, .poisoned, .health, .ports, .journal, .claims, .regs .xl, .regs .cnt, .regs .hl, .regs .je] fun t => t.flag Reg.XL_IRQ_RX link = true ∧
    t.rd Reg.XL_RX_HEAD_HEAD link = (s.rd Reg.XL_RX_HEAD_HEAD link + 1) % 2 ^ s.rd Reg.XL_RX_CFG_LOG2 link % 2 ^ 10 ∧
    MemBut (gristBase + (s.rd Reg.XL_RX_BASE_BASE link * 64 + 4160 * s.rd Reg.XL_RX_HEAD_HEAD link)) 4160 s t) ∧
  (∀ s (link : Fin 4) up, s.flag Reg.XL_STATUS_LINK link ≠ up → Does (.frameAlignment link up) s [.regs .xl] fun t =>
    t.flag Reg.XL_STATUS_LINK link = up ∧ t.flag Reg.XL_IRQ_LINK link = true ∧
    RegsBut [Reg.XL_STATUS_LINK.key link 0, Reg.XL_IRQ_LINK.key link 0] s t) ∧
  (∀ s (link : Fin 4) up, s.flag Reg.XL_STATUS_LINK link = up → exec (.frameAlignment link up) s = .next s) ∧
  (∀ s (u : Fin 8) c parity framing overrun, s.rd Reg.SU_STATUS_STATE u ≠ 1 → exec (.suCharacter u c parity framing overrun) s = .next s) ∧
  (∀ s (u : Fin 8) c parity framing overrun, s.rd Reg.SU_STATUS_STATE u = 1 → Does (.suCharacter u c parity framing overrun) s [.mem, .dict, .poisoned, .zdp, .ports, .regs .em, .regs .su, .regs .cnt] fun t =>
    t.objN Obj.SU_BYTES_RX u = (s.objN Obj.SU_BYTES_RX u + 1) % 2 ^ 64 ∧
    t.rd Reg.SU_ERRS_PARITY u = (if parity then min 255 (s.rd Reg.SU_ERRS_PARITY u + 1) else s.rd Reg.SU_ERRS_PARITY u) ∧
    t.rd Reg.SU_ERRS_FRAMING u = (if framing then min 255 (s.rd Reg.SU_ERRS_FRAMING u + 1) else s.rd Reg.SU_ERRS_FRAMING u) ∧
    t.rd Reg.SU_ERRS_OVERRUN u = (if overrun then min 255 (s.rd Reg.SU_ERRS_OVERRUN u + 1) else s.rd Reg.SU_ERRS_OVERRUN u) ∧
    (s.rd Reg.SU_CTRL_MODE u = 2 → t.mem = s.mem)) ∧
  (∀ s (u : Fin 8) c parity framing overrun, s.rd Reg.SU_STATUS_STATE u = 1 → s.rd Reg.SU_CTRL_MODE u ≠ 2 →
    (s.rd Reg.SU_RX_HEAD_HEAD u + 1) % 2 ^ s.rd Reg.SU_RX_CFG_LOG2 u ≠ s.rd Reg.SU_RX_TAIL_TAIL u →
    Does (.suCharacter u c parity framing overrun) s [.mem, .dict, .poisoned, .zdp, .ports, .regs .em, .regs .su, .regs .cnt] fun t => t.flag Reg.SU_IRQ_RX u = true ∧
    t.rd Reg.SU_RX_HEAD_HEAD u = (s.rd Reg.SU_RX_HEAD_HEAD u + 1) % 2 ^ s.rd Reg.SU_RX_CFG_LOG2 u % 2 ^ 16 ∧
    (s.rd Reg.SU_CTRL_MODE u = 0 → (c = 0x24 ∨ c = 0x21) → t.flag Reg.SU_IRQ_STAMP u = true ∧
      t.rd Reg.SU_TS_HEAD_HEAD u = (s.rd Reg.SU_TS_HEAD_HEAD u + 1) % 2 ^ 8) ∧
    (∀ x, (x < gristBase + (s.rd Reg.SU_TS_BASE_BASE u * 64 + 16 * s.rd Reg.SU_TS_HEAD_HEAD u) ∨
        gristBase + (s.rd Reg.SU_TS_BASE_BASE u * 64 + 16 * s.rd Reg.SU_TS_HEAD_HEAD u) + 16 ≤ x) →
      x ≠ gristBase + (s.rd Reg.SU_RX_BASE_BASE u * 64 + s.rd Reg.SU_RX_HEAD_HEAD u) → Memory.get t.mem x = Memory.get s.mem x)) ∧
  (∀ s (u : Fin 8) c parity framing overrun, s.rd Reg.SU_STATUS_STATE u = 1 → s.rd Reg.SU_CTRL_MODE u ≠ 2 →
    (s.rd Reg.SU_RX_HEAD_HEAD u + 1) % 2 ^ s.rd Reg.SU_RX_CFG_LOG2 u = s.rd Reg.SU_RX_TAIL_TAIL u →
    Does (.suCharacter u c parity framing overrun) s [.mem, .dict, .poisoned, .zdp, .ports, .regs .em, .regs .su, .regs .cnt] fun t => t.rd Reg.SU_RX_HEAD_HEAD u = s.rd Reg.SU_RX_HEAD_HEAD u ∧
    t.rd Reg.SU_ERRS_LOST u = min 255 (s.rd Reg.SU_ERRS_LOST u + 1))

/-- R383, R399, R403: enable, disable, self-test and return of a port, and the fuse order. An enable starts a disabled port or is
refused with its reason; a self-test ends OFFLINE or RETIRED; an OFFLINE port returns, running where its ENABLE bit stands; a fuse order
programs the fuse and leaves the class in force.
A clause on a corner that the rules leave open follows the choice of the model (log entries 59 and 71). -/
def Obligations.PortModes : Prop :=
  (∀ s (p : PortNo) on order, portKind p = none → exec (.portEnable p on order) s = .next s) ∧
  (∀ s (p : PortNo) order en st bist obj slot i, portKind p = some (en, st, bist, obj, slot, i) → s.rd st i = 0 →
    (if order then s.portLoad p else s).portRefusal p = 0 → Does (.portEnable p true order) s [.dict, .outcome, .zdp, .ports, .claims, .gate, .regs .em, .regs .xl, .regs .su] fun t =>
    t.outcome = 0 ∧ t.rd en i = 1 ∧ t.rd st i = 1 ∧ (order = true → t.objN obj i = 1) ∧ (order = false → t.dict = s.dict)) ∧
  (∀ s (p : PortNo) order en st bist obj slot i, portKind p = some (en, st, bist, obj, slot, i) → s.rd st i = 0 →
    (if order then s.portLoad p else s).portRefusal p ≠ 0 → Does (.portEnable p true order) s [.dict, .outcome, .zdp, .ports, .claims, .gate, .regs .em, .regs .xl, .regs .su] fun t =>
    t.outcome = (if order then s.portLoad p else s).portRefusal p ∧ t.regs = s.regs ∧ t.dict = s.dict ∧ t.ports = s.ports) ∧
  (∀ s (p : PortNo) order en st bist obj slot i, portKind p = some (en, st, bist, obj, slot, i) → s.rd st i = 1 →
    Does (.portEnable p true order) s [.dict, .outcome, .zdp, .ports, .claims, .gate, .regs .em, .regs .xl, .regs .su] fun t => t.outcome = 0 ∧ t.regs = s.regs ∧ t.ports = s.ports ∧
    (order = true → t.objN obj i = 1)) ∧
  (∀ s (p : PortNo) order en st bist obj slot i, portKind p = some (en, st, bist, obj, slot, i) → 1 < s.rd st i →
    Does (.portEnable p true order) s [.dict, .outcome, .zdp, .ports, .claims, .gate, .regs .em, .regs .xl, .regs .su] fun t => t.outcome = 15 ∧ t.regs = s.regs ∧ t.dict = s.dict ∧ t.ports = s.ports) ∧
  (∀ s (p : PortNo) order en st bist obj slot i, portKind p = some (en, st, bist, obj, slot, i) →
    Does (.portEnable p false order) s [.dict, .outcome, .zdp, .ports, .claims, .gate, .regs .em, .regs .xl, .regs .su] fun t => t.outcome = 0 ∧ t.rd en i = 0 ∧
    t.rd st i = (if s.rd st i = 1 then 0 else s.rd st i) ∧ (order = true → t.objN obj i = 0) ∧ (order = false → t.dict = s.dict)) ∧
  (∀ s (p : PortNo), portKind p = none → exec (.portServiceTest p) s = .next s) ∧
  (∀ s (p : PortNo) en st bist obj slot i, portKind p = some (en, st, bist, obj, slot, i) → s.rd st i < 3 →
    Does (.portServiceTest p) s [.outcome, .health, .ports, .regs .em, .regs .xl, .regs .su] fun t => t.outcome = 0 ∧ t.rd st i = 3 ∧ t.rd bist i = 0 ∧ t.rd en i = s.rd en i) ∧
  (∀ s (p : PortNo) en st bist obj slot i, portKind p = some (en, st, bist, obj, slot, i) → 3 ≤ s.rd st i →
    Does (.portServiceTest p) s [.outcome, .health, .ports, .regs .em, .regs .xl, .regs .su] fun t => t.outcome = 15 ∧ t.regs = s.regs ∧ t.health = s.health ∧ t.ports = s.ports) ∧
  (∀ s (p : PortNo) pass, portKind p = none → exec (.portSelfTestDone p pass) s = .next s) ∧
  (∀ s (p : PortNo) pass en st bist obj slot i, portKind p = some (en, st, bist, obj, slot, i) → s.rd st i ≠ 3 →
    exec (.portSelfTestDone p pass) s = .next s) ∧
  (∀ s (p : PortNo) en st bist obj slot i, portKind p = some (en, st, bist, obj, slot, i) → s.rd st i = 3 →
    Does (.portSelfTestDone p true) s [.dict, .fresh, .health, .zdp, .ports, .regs .em, .regs .xl, .regs .su, .regs .cnt, .regs .hl] fun t => t.rd st i = 2 ∧ t.rd bist i = 1 ∧ t.rd en i = s.rd en i) ∧
  (∀ s (p : PortNo) en st bist obj slot i, portKind p = some (en, st, bist, obj, slot, i) → s.rd st i = 3 →
    Does (.portSelfTestDone p false) s [.dict, .fresh, .health, .zdp, .ports, .regs .em, .regs .xl, .regs .su, .regs .cnt, .regs .hl] fun t => t.rd st i = 4 ∧ t.rd bist i = s.rd bist i ∧
    (p.val ≤ 8 → t.flag Reg.EM_IRQ_RETIRED i = true) ∧ (25 ≤ p.val → p.val ≤ 32 → t.flag Reg.SU_IRQ_RETIRED i = true) ∧
    (33 ≤ p.val → t.flag Reg.XL_IRQ_RETIRED i = true)) ∧
  (∀ s (p : PortNo), portKind p = none → exec (.portServiceReturn p) s = .next s) ∧
  (∀ s (p : PortNo) en st bist obj slot i, portKind p = some (en, st, bist, obj, slot, i) → s.rd st i = 2 →
    Does (.portServiceReturn p) s [.outcome, .fresh, .health, .zdp, .ports, .claims, .gate, .regs .em, .regs .xl, .regs .su, .regs .hl] fun t => t.outcome = 0 ∧ (t.unit slot).state = 0 ∧
    (s.flag en i = true → s.portRefusal p = 0 → t.rd st i = 1) ∧ (s.flag en i = false → t.rd st i = 0)) ∧
  (∀ s (p : PortNo) en st bist obj slot i, portKind p = some (en, st, bist, obj, slot, i) → s.rd st i ≠ 2 →
    Does (.portServiceReturn p) s [.outcome, .fresh, .health, .zdp, .ports, .claims, .gate, .regs .em, .regs .xl, .regs .su, .regs .hl] fun t => t.outcome = 15 ∧ t.regs = s.regs ∧ t.health = s.health ∧ t.ports = s.ports) ∧
  (∀ s (p : PortNo) src target cls, s.fuseRefusal p src.toNat target cls.toNat ≠ 0 → Does (.fuseOrder p src target cls) s [.outcome, .zdp] fun t =>
    t.outcome = s.fuseRefusal p src.toNat target cls.toNat ∧ t.zdp = s.zdp) ∧
  (∀ s (p : PortNo) src target cls, s.fuseRefusal p src.toNat target cls.toNat = 0 → Does (.fuseOrder p src target cls) s [.outcome, .zdp] fun t =>
    t.outcome = 0 ∧ Map.get none t.zdp.fuses target.val = some ⟨cls.toNat, src.toNat, p.val, s.stamp⟩ ∧
    t.zdp.classes = s.zdp.classes) ∧
  (∀ s vcore, vcore.toNat < 2760 → exec (.dipEnd vcore) s = .next s) ∧
  (∀ s vcore, 2760 ≤ vcore.toNat → s.dip = true → s.journal.held = [] → s.journal.kept = [] → s.health.held = [] →
    s.health.heldHist = [] → s.health.exhausted = false → Does (.dipEnd vcore) s Part.all fun t =>
    t.flag Reg.GAUGE_STATUS_DIP = false ∧ t.flag Reg.GAUGE_STATUS_DIP_LONG = false ∧ t.flag Reg.GRIST_IRQ_DIP_EXIT = true ∧
    t.flag Reg.JE_IRQ_SPARGE_DONE = true ∧ t.rd Reg.GAUGE_VCORE_NOW = vcore.toNat % 2 ^ 16)


/-- R330, R533, R535, R536, R538, R539, R540: the counters block. Writing a selection clears its counter or histogram; CLEAR_ALL returns
every live count to 0; a snapshot copies every live count into the snapshot bank and takes TB0's time, and is ignored while one is being
copied; an armed instant fires once, or is missed when a forward step skipped it.
A clause on a corner that the rules leave open follows the choice of the model (log entry 75). -/
def Obligations.CounterCommands : Prop :=
  (∀ s (n : Fin 256) v, Does (.cntEvCfgWrite n v) s [.regs .cnt] fun t => t.rd Reg.CNT_EV_LO_COUNT n = 0 ∧ t.rd Reg.CNT_EV_HI_COUNT n = 0 ∧
    bitOf (t.rd Reg.CNT_OVF_OVF (n / 32 : Nat)) (n % 32) = false ∧ t.rd Reg.CNT_EV_CFG_EVENT n = v.toNat % 2 ^ 12 ∧
    t.rd Reg.CNT_EV_CFG_FILTER n = v.toNat / 2 ^ 16 % 2 ^ 9 ∧ t.flag Reg.CNT_EV_CFG_EN n = bitOf v.toNat 31 ∧
    t.flag Reg.CNT_EV_CFG_CHAIN n = (bitOf v.toNat 30 && n.val % 2 == 0) ∧
    t.flag Reg.CNT_EV_CFG_SEL_INVALID n = !eventKnown (v.toNat % 2 ^ 12) ∧
    (∀ m : Fin 256, m ≠ n → t.rd Reg.CNT_EV_LO_COUNT m = s.rd Reg.CNT_EV_LO_COUNT m ∧
      t.rd Reg.CNT_EV_CFG_EVENT m = s.rd Reg.CNT_EV_CFG_EVENT m)) ∧
  (∀ s (h : Fin 16) v, Does (.cntHCfgWrite h v) s [.regs .cnt] fun t => t.rd Reg.CNT_H_TOTAL_LO_TOTAL h = 0 ∧ t.rd Reg.CNT_H_MAX_MAX h = 0 ∧
    t.rd Reg.CNT_H_SUM_LO_SUM h = 0 ∧ (∀ i : Fin 32, t.rd Reg.CNT_H_BIN_COUNT h i = 0) ∧
    t.rd Reg.CNT_H_CFG_SOURCE h = v.toNat % 2 ^ 4 ∧ t.rd Reg.CNT_H_CFG_FILTER h = v.toNat / 2 ^ 12 % 2 ^ 9 ∧
    t.rd Reg.CNT_H_CFG_SHIFT h = v.toNat / 2 ^ 24 % 2 ^ 5 ∧ t.flag Reg.CNT_H_CFG_EN h = bitOf v.toNat 31 ∧
    ∀ g : Fin 16, g ≠ h → ∀ i : Fin 32, t.rd Reg.CNT_H_BIN_COUNT g i = s.rd Reg.CNT_H_BIN_COUNT g i) ∧
  (∀ s, Does .clearAll s [.regs .cnt] fun t => (∀ n : Fin 256, t.rd Reg.CNT_EV_LO_COUNT n = 0 ∧ t.rd Reg.CNT_EV_HI_COUNT n = 0 ∧
      t.rd Reg.CNT_EV_CFG_EVENT n = s.rd Reg.CNT_EV_CFG_EVENT n ∧ t.rd Reg.CNT_SEV_LO_COUNT n = s.rd Reg.CNT_SEV_LO_COUNT n) ∧
    (∀ j : Fin 8, t.rd Reg.CNT_OVF_OVF j = 0) ∧ (∀ h : Fin 16, ∀ i : Fin 32, t.rd Reg.CNT_H_BIN_COUNT h i = 0)) ∧
  (∀ s, s.flag Reg.CNT_STATUS_SNAP_BUSY = true → Does .cntSnap s [.regs .cnt] fun t => t.flag Reg.CNT_STATUS_SNAP_IGNORED = true ∧
    RegsBut [Reg.CNT_STATUS_SNAP_IGNORED.key 0 0] s t) ∧
  (∀ s, s.flag Reg.CNT_STATUS_SNAP_BUSY = false → Does .cntSnap s [.regs .cnt] fun t => t.flag Reg.CNT_STATUS_SNAP_BUSY = true ∧
    (∀ n : Fin 256, t.rd Reg.CNT_SEV_LO_COUNT n = s.rd Reg.CNT_EV_LO_COUNT n % 2 ^ 32 ∧
      t.rd Reg.CNT_SEV_HI_COUNT n = s.rd Reg.CNT_EV_HI_COUNT n % 2 ^ 16 ∧ t.rd Reg.CNT_EV_LO_COUNT n = s.rd Reg.CNT_EV_LO_COUNT n) ∧
    (∀ j : Fin 8, t.rd Reg.CNT_SOVF_OVF j = s.rd Reg.CNT_OVF_OVF j % 2 ^ 32) ∧
    (∀ h : Fin 16, ∀ i : Fin 32, t.rd Reg.CNT_SH_BIN_COUNT h i = s.rd Reg.CNT_H_BIN_COUNT h i % 2 ^ 32) ∧
    t.rd Reg.CNT_SNAP_NS_NS = (s.base 0).ns % 2 ^ 30 ∧ t.rd Reg.CNT_SNAP_SEC_LO_SEC = (s.base 0).sec.toNat % 2 ^ 32) ∧
  (∀ s, Does .armAt s [.regs .cnt] fun t => t.flag Reg.CNT_STATUS_ARMED = true ∧
    t.flag Reg.CNT_STATUS_SNAP_LATE = (decide (s.snapAt ≤ s.now 0) || s.flag Reg.CNT_STATUS_SNAP_LATE) ∧
    RegsBut [Reg.CNT_STATUS_ARMED.key 0 0, Reg.CNT_STATUS_SNAP_LATE.key 0 0] s t) ∧
  (∀ s, s.flag Reg.CNT_STATUS_ARMED = false → exec .snapAtFire s = .next s) ∧
  (∀ s, s.flag Reg.CNT_STATUS_ARMED = true → (s.flag Reg.CNT_STATUS_SNAP_LATE || s.fires 0 s.snapAt) = true →
    Does .snapAtFire s [.regs .cnt] fun t => t.flag Reg.CNT_STATUS_ARMED = false ∧ t.flag Reg.CNT_STATUS_SNAP_BUSY = true ∧
    (s.flag Reg.CNT_STATUS_SNAP_BUSY = true → t.flag Reg.CNT_STATUS_SNAP_IGNORED = true) ∧
    (s.flag Reg.CNT_STATUS_SNAP_BUSY = false → t.rd Reg.CNT_SNAP_SEC_LO_SEC = (s.base 0).sec.toNat % 2 ^ 32)) ∧
  (∀ s, s.flag Reg.CNT_STATUS_ARMED = true → (s.flag Reg.CNT_STATUS_SNAP_LATE || s.fires 0 s.snapAt) = false →
    (s.base 0).skipFrom < s.snapAt → s.snapAt < (s.base 0).skipTo → s.snapAt ≤ s.now 0 → Does .snapAtFire s [.regs .cnt] fun t =>
    t.flag Reg.CNT_STATUS_ARMED = false ∧ t.flag Reg.CNT_STATUS_SNAP_MISSED = true ∧
    RegsBut [Reg.CNT_STATUS_ARMED.key 0 0, Reg.CNT_STATUS_SNAP_MISSED.key 0 0] s t) ∧
  (∀ s, s.flag Reg.CNT_PERIOD_SNAP_PERIOD_MS = false → exec .snapPeriodic s = .next s) ∧
  (∀ s, s.flag Reg.CNT_PERIOD_SNAP_PERIOD_MS = true → s.flag Reg.CNT_STATUS_SNAP_BUSY = false → Does .snapPeriodic s [.regs .cnt] fun t =>
    t.flag Reg.CNT_STATUS_SNAP_BUSY = true ∧ ∀ n : Fin 256, t.rd Reg.CNT_SEV_LO_COUNT n = s.rd Reg.CNT_EV_LO_COUNT n % 2 ^ 32) ∧
  (∀ s, s.flag Reg.CNT_STATUS_SNAP_BUSY = true → Does .snapComplete s [.regs .cnt] fun t => t.flag Reg.CNT_STATUS_SNAP_BUSY = false ∧
    t.flag Reg.CNT_IRQ_SNAP_DONE = true ∧ t.rd Reg.CNT_STATUS_SNAP_SEQ = (s.rd Reg.CNT_STATUS_SNAP_SEQ + 1) % 2 ^ 16 ∧
    RegsBut [Reg.CNT_STATUS_SNAP_BUSY.key 0 0, Reg.CNT_IRQ_SNAP_DONE.key 0 0, Reg.CNT_STATUS_SNAP_SEQ.key 0 0] s t) ∧
  (∀ s, s.flag Reg.CNT_STATUS_SNAP_BUSY = false → exec .snapComplete s = .next s)

/-- R247, R250: trajectories of the loop engine. A commit begins the copy or is refused with its cause; the copy becomes PENDING in place
of any other; ten seconds of stale tracking raise one ALARM.
A clause on a corner that the rules leave open follows the choice of the model (log entry 36). -/
def Obligations.TrajectoryCommands : Prop :=
  (∀ s core v, v.toNat % 2 = 0 → exec (.leTrajCommit core v) s = .next s) ∧
  (∀ s core v, v.toNat % 2 = 1 → Does (.leTrajCommit core v) s [.fresh, .health, .zdp, .loop, .regs .le, .regs .cnt, .regs .hl] fun t =>
    (s.trajCause = 0 → t.loop.copying = some s.trajRead ∧ t.flag Reg.LE_STATUS_COPY_BUSY = true ∧
      RegsBut [Reg.LE_STATUS_COPY_BUSY.key 0 0] s t) ∧
    (s.trajCause ≠ 0 → t.loop = s.loop ∧ t.flag Reg.LE_TRAJ_STATUS_REFUSED = true ∧ t.flag Reg.LE_IRQ_TRAJ_REFUSED = true ∧
      t.rd Reg.LE_TRAJ_STATUS_CAUSE = s.trajCause % 2 ^ Reg.LE_TRAJ_STATUS_CAUSE.w)) ∧
  (∀ s, s.loop.copying = none → exec .trajCopyDone s = .next s) ∧
  (∀ s j, s.loop.copying = some j → Does .trajCopyDone s [.dict, .loop, .regs .le] fun t => t.loop.copying = none ∧
    t.loop.pendingTraj = some { j with copiedAt := s.now 0 } ∧ t.loop.active = s.loop.active ∧
    t.flag Reg.LE_STATUS_COPY_BUSY = false ∧ t.flag Reg.LE_STATUS_TRAJ_PENDING = true ∧
    (s.loop.pendingTraj = none → t.dict = s.dict ∧ t.rd Reg.LE_TRAJ_STATUS_REPLACED = s.rd Reg.LE_TRAJ_STATUS_REPLACED) ∧
    (s.loop.pendingTraj ≠ none → t.objN Obj.LE_REPLACED = (s.objN Obj.LE_REPLACED + 1) % 2 ^ 32)) ∧
  (∀ s since, s.loop.staleSince = some since → s.elapsed since 10000000000 = true → s.loop.staleAlarmed = false →
    Does .trajStaleAlarm s [.dict, .fresh, .health, .zdp, .ports, .loop, .regs .cnt, .regs .hl] fun t => t.loop.staleAlarmed = true ∧ t.flag Reg.HL_IRQ_ALARM = true ∧
    t.health.aseq = (s.health.aseq + 1) % 2 ^ 32) ∧
  (∀ s, s.loop.staleAlarmed = true ∨ s.loop.staleSince = none → exec .trajStaleAlarm s = .next s)


/-- R375, R379, R380, R386, R387, R388, R389, R390, R391, R392, R394, R395, R396, R331, R431, R504: the dictionary gate. A message that is not served,
wrongly formed or beyond the rate is dropped and counted; a READ, WRITE, ORDER, SUBSCRIBE or BULK message is checked in the order of
R387, and answered with its value or with the first reason that holds.
The list zdpCommands holds the constructors zdpRead, zdpMetaRead, zdpWrite, zdpOrder, zdpSubscribe, bulkRead, bulkWriteSegment,
followOffsetWrite, forkResolve and challenge, so every clause is about each of these.
A clause on a corner that the rules leave open follows the choice of the model (log entries 43, 44, 45 and 47). -/
def Obligations.ZdpMessages : Prop :=
  (∀ s (p : PortNo) m c, c ∈ zdpCommands p m → s.zdpServed p = false → Does c s [.ports] fun t =>
    Map.get none t.ports.message p = none ∧ t.ports.tx = s.ports.tx) ∧
  (∀ s (p : PortNo) m c, c ∈ zdpCommands p m → s.zdpServed p = true → s.zdpRefuses p m = true → Does c s [.zdp, .ports, .regs .em] fun t =>
    t.zdp.out = s.zdp.out ∧ Map.get 0 t.zdp.dropped p = (Map.get 0 s.zdp.dropped p + 1) % 2 ^ 32 ∧
    Map.get 0 t.zdp.requests p = Map.get 0 s.zdp.requests p) ∧
  (∀ s (p : PortNo) m c, c ∈ zdpCommands p m → s.zdpServed p = true → s.zdpRefuses p m = false → m.kind = 5 →
    Does c s [.ports] fun t => Map.get none t.ports.message p = none) ∧
  (∀ s (p : PortNo) m c, c ∈ zdpCommands p m → s.zdpServed p = true → s.zdpRefuses p m = false → m.kind ≠ 5 →
    s.objN Obj.ZDP_REQ_LIMIT ≤ Map.get 0 s.zdp.rate p → Does c s [.zdp, .ports, .regs .em] fun t =>
    t.zdp.out = s.zdp.out ∧ Map.get 0 t.zdp.dropped p = (Map.get 0 s.zdp.dropped p + 1) % 2 ^ 32) ∧
  (∀ s (p : PortNo) m c, c ∈ zdpCommands p m → s.zdpServed p = true → s.zdpRefuses p m = false → m.kind ≠ 5 →
    Map.get 0 s.zdp.rate p < s.objN Obj.ZDP_REQ_LIMIT → s.dstKind m = 3 → m.kind ≠ 1 → Does c s [.zdp, .ports, .regs .cnt] fun t =>
    t.zdp.out = s.zdp.out ∧ Map.get 0 t.zdp.requests p = (Map.get 0 s.zdp.requests p + 1) % 2 ^ 32) ∧
  (∀ s (p : PortNo) m c, c ∈ zdpCommands p m → s.gateTakes p m = true → m.kind = 1 →
    Does c s [.dict, .fresh, .zdp, .ports, .safety, .regs .cnt] fun t =>
    Map.get 0 t.zdp.requests p = (Map.get 0 s.zdp.requests p + 1) % 2 ^ 32 ∧
    (m.index ≠ 0x9880 ∨ m.sub ≠ 2 → t.dict = s.dict ∧ t.safety = s.safety) ∧
    afterChecks ((s.taken p).firstChecks p m .read) (fun e => s.answered t p m e []) (fun f =>
      if m.len ≠ 0 then s.answered t p m 6 []
      else if m.flags.toNat % 2 = 1 then s.answered t p m 0 ((s.taken p).descriptor f)
      else if m.index = 0x9880 ∧ m.sub = 2 then t.fresh = s.fresh + 1
      else if 1024 < ((s.taken p).readFound f).length then s.answered t p m 7 []
      else s.answered t p m 0 ((s.taken p).readFound f))) ∧
  (∀ s (p : PortNo) m c, c ∈ zdpCommands p m → s.gateTakes p m = true → m.kind = 2 → Does c s Part.all fun t =>
    afterChecks ((s.taken p).firstChecks p m .write) (fun e => s.answered t p m e [] ∧ t.dict = s.dict) (fun f =>
      if f.entry.typeOk m.body = false then s.answered t p m 6 [] ∧ t.dict = s.dict
      else if (s.taken p).writeReason f m.body ≠ 0 then s.answered t p m ((s.taken p).writeReason f m.body) [] ∧ t.dict = s.dict
      else if (f.entry.persist && s.dip) = true then
        (t.zdp.out = s.zdp.out ∧ ((s.journal.held.filter fun e => !e.isPersist).length < 64 →
          t.journal.held = s.journal.held ++ [.write ((s.taken p).replyTo p m 0) (Val.ofWire f.entry.ty m.body)]))
      else ((s.taken p).applyWrite f m.body).answered t p m 0 [] ∧ t.dict = ((s.taken p).applyWrite f m.body).dict)) ∧
  (∀ s (p : PortNo) m c, c ∈ zdpCommands p m → s.gateTakes p m = true → m.kind = 3 → m.src = 0xFFFF → Does c s [.zdp, .ports, .regs .cnt] fun t =>
    t.zdp.out = s.zdp.out) ∧
  (∀ s (p : PortNo) m c u o r, c ∈ zdpCommands p m → s.gateTakes p m = true → m.kind = 3 → m.src ≠ 0xFFFF → u = s.taken p →
    o = u.orderOf p m → r = u.replyTo p m (if m.body.length < 8 then 0 else o.identity) → Does c s Part.all fun t =>
    afterChecks (u.firstChecks p m .order) (fun e => s.orderAnswered t r e 0 ∧ t.journal = s.journal) (fun f =>
      if m.body.length < 8 ∨ f.entry.typeOk o.value = false then s.orderAnswered t r 6 0 ∧ t.journal = s.journal
      else if 1016 < o.value.length then s.orderAnswered t r 7 0 ∧ t.journal = s.journal
      else (u.duplicateCheck r).elim (
          if s.nodeValid = false then s.orderAnswered t r 8 0 ∧ t.journal = s.journal
          else if u.scopeBad m f = true then s.orderAnswered t r 9 0 ∧ t.journal = s.journal
          else if (u.inRecovery && u.hub.bankRecovery && o.index == 0xA020) = true then t = u.recoveryOrder o r
          else if u.notReady = true then s.orderAnswered t r 11 0 ∧ t.journal = s.journal
          else if u.orderReason o m.src.toNat f ≠ 0 then
            (u.afterRefusal o f (u.orderReason o m.src.toNat f)).orderAnswered t r (u.orderReason o m.src.toNat f) 0
          else t = u.acceptOrder o (some r)) (fun d => t = d))) ∧
  (∀ s (p : PortNo) m c, c ∈ zdpCommands p m → s.gateTakes p m = true → m.kind = 4 → Does c s [.zdp, .ports, .regs .cnt] fun t =>
    afterChecks ((s.taken p).firstChecks p m .read) (fun e => s.answered t p m e [] ∧ t.zdp.subs = s.zdp.subs) (fun f =>
      if m.len ≠ 12 ∨ leAt m.body 8 4 ≠ 0 then s.answered t p m 6 [] ∧ t.zdp.subs = s.zdp.subs
      else if 1008 < ((s.taken p).readFound f).length then s.answered t p m 7 [] ∧ t.zdp.subs = s.zdp.subs
      else if leAt m.body 6 2 < 10 ∨ 3600 < leAt m.body 6 2 then s.answered t p m 13 [] ∧ t.zdp.subs = s.zdp.subs
      else if bitOf m.flags.toNat 3 = true then s.answered t p m 0 [] ∧ t.zdp.subs = s.zdp.subs.filter (fun u => !u.matches p m)
      else if (s.zdp.subs.any fun u => u.matches p m) = true then
        (s.answered t p m 0 [] ∧ t.zdp.subs = s.zdp.subs.map (fun u => if u.matches p m then s.renewed u m else u))
      else if 1024 ≤ s.zdp.subs.length ∨ 64 ≤ (s.zdp.subs.filter fun u => u.port == p.val).length then
        (s.answered t p m 16 [] ∧ t.zdp.subs = s.zdp.subs)
      else s.answered t p m 0 [] ∧ t.zdp.subs = s.zdp.subs ++ [s.newSub p m] ∧ t.zdp.nextSub = s.zdp.nextSub + 1)) ∧
  (∀ s (p : PortNo) m c, c ∈ zdpCommands p m → s.gateTakes p m = true → m.kind = 6 → bitOf m.flags.toNat 4 = false →
    Does c s [.zdp, .ports, .regs .cnt] fun t => t.zdp.subs = s.zdp.subs ∧
    afterChecks ((s.taken p).firstChecks p m .read) (fun e => s.answered t p m e []) (fun f =>
      if m.len ≠ 8 ∨ leAt m.body 6 2 ≠ 0 then s.answered t p m 6 []
      else if leAt m.body 4 2 < 1 ∨ 16 < leAt m.body 4 2 then s.answered t p m 13 []
      else t.zdp.out = s.zdp.out ++ (bulkSegments ((s.taken p).readFound f) (leAt m.body 0 4) (leAt m.body 4 2) 0).map fun x =>
        { port := p, dst := m.src.toNat, kind := m.kind.toNat, flags := if x.2.2.2 then 4 else 0, tag := m.tag.toNat, index := m.index.toNat,
          sub := m.sub.toNat, status := 0, seg := x.2.2.1,
          body := leBytes 4 ((s.taken p).readFound f).length ++ leBytes 4 x.1 ++ x.2.1 })) ∧
  (∀ s (p : PortNo) m c, c ∈ zdpCommands p m → s.gateTakes p m = true → m.kind = 6 → bitOf m.flags.toNat 4 = true →
    Does c s Part.all fun t => t = (s.taken p).bulkWrite p m ∧
    (∀ e, (s.taken p).firstChecks p m .write = .error e → s.answered t p m e [] 0 m.seg.toNat ∧ t.zdp.stages = s.zdp.stages))

/-- R388, R392, R393, R395, R526, R528, R529, R530: subscriptions over time. A value that is due leaves as a NOTIFY with the next NSEQ, or
waits in place of the one that waited; a stream sends its next record; a subscription or a staging area ends at its lifetime; a
new second starts the counts of requests and refusals again.
A clause on a corner that the rules leave open follows the choice of the model (log entries 46 and 70). -/
def Obligations.SubscriptionCommands : Prop :=
  (∀ s id canLeave, s.subById id = none → exec (.notifyDue id canLeave) s = .next s) ∧
  (∀ s id u, s.subById id = some u → u.stream = 0 → s.intervalOk u = true → Does (.notifyDue id true) s [.zdp, .regs .cnt] fun t =>
    t.zdp.out = s.zdp.out ++ [{ port := u.port, dst := u.src, kind := 5, flags := 0, tag := u.tag, index := u.index, sub := u.sub, status := 0, seg := 0, body := leBytes 4 (u.nseq + 1) ++ timeBytes s.stamp ++ s.subValue u }] ∧
    t.subById id = some ({ u with nseq := (u.nseq + 1) % 2 ^ 32, lastLeft := some s.tb3 } : Sub).replaced.left) ∧
  (∀ s id u canLeave, s.subById id = some u → u.stream = 0 → (s.intervalOk u && canLeave) = false → Does (.notifyDue id canLeave) s [.zdp, .regs .cnt] fun t =>
    t.zdp.out = s.zdp.out ∧ t.subById id = some { u.replaced with nseq := (u.nseq + 1) % 2 ^ 32,
                                                                  waiting := some (.bytes (s.subValue u), s.stamp),
                                                                  late := s.intervalOk u }) ∧
  (∀ s id u canLeave, s.subById id = some u → u.stream ≠ 0 → (s.intervalOk u && canLeave) = false → exec (.notifyDue id canLeave) s = .next s) ∧
  (∀ s id u r rest, s.subById id = some u → u.stream = 2 → s.intervalOk u = true → u.evQueue = r :: rest → Does (.notifyDue id true) s [.zdp, .regs .cnt] fun t =>
    t.zdp.out = s.zdp.out ++ [{ port := u.port, dst := u.src, kind := 5, flags := 0, tag := u.tag, index := u.index, sub := u.sub, status := 0, seg := 0, body := leBytes 4 (u.nseq + 1) ++ timeBytes r.last ++ logBytes r }] ∧
    t.subById id = some { u with nseq := (u.nseq + 1) % 2 ^ 32, lastLeft := some s.tb3, evQueue := rest }) ∧
  (∀ s id u canLeave, s.subById id = some u → s.intervalOk u = false → exec (.notifyIntervalExpiry id canLeave) s = .next s) ∧
  (∀ s id u v at_, s.subById id = some u → s.intervalOk u = true → u.stream = 0 → u.waiting = some (v, at_) →
    Does (.notifyIntervalExpiry id true) s [.zdp, .regs .cnt] fun t =>
    t.zdp.out = s.zdp.out ++ [{ port := u.port, dst := u.src, kind := 5, flags := 0, tag := u.tag, index := u.index, sub := u.sub, status := 0, seg := 0, body := leBytes 4 u.nseq ++ timeBytes at_ ++ v.toBytes }] ∧
    t.subById id = some ({ u with nseq := u.nseq % 2 ^ 32, lastLeft := some s.tb3 } : Sub).left) ∧
  (∀ s id u v at_, s.subById id = some u → s.intervalOk u = true → u.stream = 0 → u.waiting = some (v, at_) →
    Does (.notifyIntervalExpiry id false) s [.zdp, .regs .cnt] fun t => t.zdp.out = s.zdp.out ∧ t.subById id = some { u with late := true }) ∧
  (∀ s id canLeave, s.subById id = none → exec (.notifyIntervalExpiry id canLeave) s = .next s) ∧
  (∀ s id, Does (.subscriptionExpiry id) s [.zdp] fun t => t.zdp = { s.zdp with
    subs := s.zdp.subs.filter fun u => !(u.id == id && s.elapsed u.renewed (u.lifeS * 1000000000)) }) ∧
  (∀ s p src tag, Does (.bulkStagingExpiry p src tag) s [.zdp, .stages] fun t => t.zdp = { s.zdp with
    stages := s.zdp.stages.filter fun g => !(g.matches p.val src.toNat tag.toNat && s.elapsed g.lastAt 1000000000) }) ∧
  (∀ s, Does .requestRateSecond s [.zdp] fun t => t.zdp = { s.zdp with rate := [], refusals := [] })


/-- R44, R47, R48, R50, R245, R474, R516, R553: the cores' accesses. An access that its address, mode, width or protection forbids records its
cause and has no other effect; a store to the Grist store or a tile SRAM writes its bytes, little-endian, and no others; a load answers the
bytes; a load of a field that a read clears clears it.
A clause on a corner that the rules leave open follows the choice of the model (log entries 15, 16 and 17). -/
def Obligations.CoreAccess : Prop :=
  (∀ s core mode width addr v cause, s.accessCause mode true (width.toNat / 8) addr.toNat = some cause →
    Does (.registerWrite core mode width addr v) s [.coreFaults] fun t => Map.get none t.coreFaults core = some ⟨cause, addr.toNat⟩) ∧
  (∀ s core mode width addr cause, s.accessCause mode false (width.toNat / 8) addr.toNat = some cause →
    Does (.registerRead core mode width addr) s [.coreFaults] fun t => Map.get none t.coreFaults core = some ⟨cause, addr.toNat⟩) ∧
  (∀ s core mode width addr v, s.accessCause mode true (width.toNat / 8) addr.toNat = none → areaAt addr.toNat = .grist →
    Does (.registerWrite core mode width addr v) s [.mem, .poisoned] fun t =>
    (∀ k, k < width.toNat / 8 → Memory.get t.mem (addr.toNat + k) = BitVec.ofNat 8 (v.toNat / 2 ^ (8 * k))) ∧
    MemBut addr.toNat (width.toNat / 8) s t) ∧
  (∀ s core mode width addr v n, s.accessCause mode true (width.toNat / 8) addr.toNat = none → areaAt addr.toNat = .tileMem n →
    Does (.registerWrite core mode width addr v) s [.mem, .poisoned] fun t =>
    (∀ k, k < width.toNat / 8 → Memory.get t.mem (addr.toNat + k) = BitVec.ofNat 8 (v.toNat / 2 ^ (8 * k))) ∧
    MemBut addr.toNat (width.toNat / 8) s t) ∧
  (∀ s core mode width addr, s.accessCause mode false (width.toNat / 8) addr.toNat = none →
    (areaAt addr.toNat = .grist ∨ (List.range 32).any (fun n => areaAt addr.toNat == .tileMem n) = true) →
    Does (.registerRead core mode width addr) s [.readData] fun t =>
    Map.get 0 t.readData core = leNat (Memory.getList s.mem addr.toNat (width.toNat / 8))) ∧
  (∀ s (core : Fin 4) mode addr, s.accessCause mode false 4 addr.toNat = none → areaAt addr.toNat = .cask →
    Does (.registerRead core mode 32 addr) s [.readData] fun t =>
    Map.get 0 t.readData core = leNat ((List.range 4).map fun k => s.caskByteAt (addr.toNat - 0x30000000 + k))) ∧
  (∀ s (core : Fin 4) mode (n : Fin 16) addr (v : BitVec 64), mode ≠ .user → addr.toNat = 0x4006000C + 4096 * n.val →
    Does (.registerWrite core mode 32 addr v) s Part.all fun t => t.rd Reg.CAN_IRQ_EN_EN n = v.toNat % 2 ^ 10 ∧
    t.mem = s.mem ∧ t.can = s.can ∧ RegsBut [Reg.CAN_IRQ_EN_EN.key n 0] s t) ∧
  (∀ s (core : Fin 4) mode (n : Fin 16) addr (v : BitVec 64), mode ≠ .user → addr.toNat = 0x40060008 + 4096 * n.val →
    Does (.registerWrite core mode 32 addr v) s Part.all fun t =>
    t.flag Reg.CAN_IRQ_RX n = (s.flag Reg.CAN_IRQ_RX n && !bitOf v.toNat 0) ∧
    t.flag Reg.CAN_IRQ_BUS_OFF n = (s.flag Reg.CAN_IRQ_BUS_OFF n && !bitOf v.toNat 7) ∧ t.can = s.can) ∧
  (∀ s (core : Fin 4) mode (n : Fin 16) addr, mode ≠ .user → addr.toNat = 0x40060034 + 4096 * n.val →
    (s.latch.any fun p => p.1 == addr.toNat) = false → Does (.registerRead core mode 32 addr) s (Part.allBut [.outcome, .gate, .safety, .hub, .fabric, .stages, .pfu]) fun t =>
    Map.get 0 t.readData core = s.rd Reg.CAN_RX_LOST_LOST n ∧ t.rd Reg.CAN_RX_LOST_LOST n = 0 ∧
    RegsBut [Reg.CAN_RX_LOST_LOST.key n 0] s t) ∧
  (∀ s (core : Fin 4) mode (n : Fin 16) addr, mode ≠ .user → addr.toNat = 0x40060008 + 4096 * n.val →
    (s.latch.any fun p => p.1 == addr.toNat) = false →
    Does (.registerRead core mode 32 addr) s (Part.allBut [.outcome, .gate, .safety, .hub, .fabric, .stages, .pfu]) fun t => t.regs = s.regs ∧
    Map.get 0 t.readData core = s.readWord core addr.toNat) ∧
  (∀ s core v, s.flag Reg.JE_STATUS_APPLY_OPEN = true →
    (s.rd Reg.JE_APPLY_ADDR_ADDR / 2 ^ 14 = 0x4003 ∨ s.rd Reg.JE_APPLY_ADDR_ADDR / 2 ^ 14 = 0x400C) → Does (.jeApplyData core v) s (Part.allBut [.latch, .coreFaults, .time, .gate, .safety, .hub, .fabric, .stages, .lauter, .pfu]) fun t =>
    t.rd Reg.JE_APPLY_ADDR_ADDR = (s.rd Reg.JE_APPLY_ADDR_ADDR + 1) % 2 ^ 30 ∧
    t.flag Reg.JE_STATUS_APPLY_IGNORED = s.flag Reg.JE_STATUS_APPLY_IGNORED) ∧
  (∀ s core v, s.flag Reg.JE_STATUS_APPLY_OPEN = false → Does (.jeApplyData core v) s (Part.allBut [.latch, .coreFaults, .time, .gate, .safety, .hub, .fabric, .stages, .lauter, .pfu]) fun t =>
    t.flag Reg.JE_STATUS_APPLY_IGNORED = true ∧ RegsBut [Reg.JE_STATUS_APPLY_IGNORED.key 0 0] s t ∧ t.loop = s.loop) ∧
  (∀ s core v, s.flag Reg.JE_STATUS_APPLY_OPEN = false ∨ s.journal.apply = none → Does (.jeApplyDone core v) s [.dict, .fresh, .health, .zdp, .journal, .safety, .regs .cnt, .regs .hl, .regs .sm, .regs .je] fun t =>
    t.flag Reg.JE_STATUS_APPLY_IGNORED = true ∧ RegsBut [Reg.JE_STATUS_APPLY_IGNORED.key 0 0] s t ∧ t.journal = s.journal) ∧
  (∀ s core v p o, s.flag Reg.JE_STATUS_APPLY_OPEN = true → s.journal.apply = some p →
    (s.heldOrders.find? fun x => x.osn == p.osn) = some o → Does (.jeApplyDone core v) s [.dict, .fresh, .health, .zdp, .journal, .safety, .regs .cnt, .regs .hl, .regs .sm, .regs .je] fun t =>
    t.journal.apply = none ∧ t.flag Reg.JE_STATUS_APPLY_OPEN = false ∧ t.flag Reg.JE_APPLY_REC_VALID = false ∧
    (v.toNat % 256 ≠ 0 → t.objN Obj.JE_APPLY_REFUSED = (s.objN Obj.JE_APPLY_REFUSED + 1) % 2 ^ 32))


/-- R408, R410, R411, R412, R413, R414, R419, R421, R422, R425, R427: the messages of the journal. A completed write puts its records into the
ring and the window; a forwarded order is answered, numbered, held or handed back; COPY, REPLAY, IMAGE and COMMIT bring orders and the commit
point; FETCH is answered.
A clause on a corner that the rules leave open follows the choice of the model (log entries 21 and 48). -/
def Obligations.JournalMessages : Prop :=
  (∀ s, s.journal.writing = [] → exec .caskWriteComplete s = .next s) ∧
  (∀ s o rest, s.journal.writing = o :: rest → Does .caskWriteComplete s [.dict, .zdp, .ports, .journal, .regs .cnt, .regs .je] fun t => t.journal.writing = rest ∧
    t.osnHigh = max s.osnHigh (orderEnd o) % 2 ^ 64 ∧
    t.journal.ring = (s.journal.ring ++ [o]).filter (fun x => decide (max s.osnHigh (orderEnd o) < x.osn + 65536)) ∧
    t.journal.window = (s.journal.window ++ [(o.osn, o.identity)]).filter (fun w => decide (max s.osnHigh (orderEnd o) < w.1 + 2 ^ 20)) ∧
    t.journal.kept = s.journal.kept) ∧
  (∀ s i tag o n, s.windowFind o.identity = some n → Does (.forward i tag o) s [.dict, .time, .zdp, .ports, .journal, .regs .cnt, .regs .je] fun t =>
    t = s.sendPeer i false (.fwdReturn tag.toNat 0 n) ∧ t.journal = s.journal) ∧
  (∀ s i tag o q, s.windowFind o.identity = none → s.inFlight o.identity = some q → Does (.forward i tag o) s [.dict, .time, .zdp, .ports, .journal, .regs .cnt, .regs .je] fun t =>
    t = s.sendPeer i false (.fwdReturn tag.toNat 0 q.osn) ∧ t.journal = s.journal) ∧
  (∀ s i tag o, s.windowFind o.identity = none → s.inFlight o.identity = none → s.pendingIdentity o.identity = true →
    exec (.forward i tag o) s = .next s) ∧
  (∀ s i tag o, s.windowFind o.identity = none → s.pendingIdentity o.identity = false → s.dip = true →
    (s.journal.held.filter fun e => !e.isPersist).length < 64 → Does (.forward i tag o) s [.dict, .time, .zdp, .ports, .journal, .regs .cnt, .regs .je] fun t =>
    t.journal.held = s.journal.held ++ [.fwd o i tag.toNat] ∧ t.ports = s.ports) ∧
  (∀ s i tag o, s.windowFind o.identity = none → s.pendingIdentity o.identity = false → s.dip = false →
    s.isSequencer = true → s.mayNumber o = true → s.jstate ≠ 7 → Does (.forward i tag o) s [.dict, .time, .zdp, .ports, .journal, .regs .cnt, .regs .je] fun t =>
    t.journal.given = s.givenNow + orderNrec o ∧ t.journal.kept = s.journal.kept ∧
    t.journal.writing = s.journal.writing ++ [{ o with osn := s.lastOsn + 1,
                                                       epoch := if s.control then s.rd Reg.CG_CFG_EPOCH else 0,
                                                       solo := s.jstate == 5, time := s.stamp }]) ∧
  (∀ s i tag o, s.windowFind o.identity = none → s.pendingIdentity o.identity = false → s.dip = false →
    s.isSequencer = false → Does (.forward i tag o) s [.dict, .time, .zdp, .ports, .journal, .regs .cnt, .regs .je] fun t => t = s.sendPeer i false (.fwdReturn tag.toNat 0xFF 0) ∧
    t.journal = s.journal) ∧
  (∀ s w rest, s.journal.waiting = w :: rest → s.isSequencer = true → s.journal.takeover = false → s.dip = false →
    s.givenNow + orderNrec w.order ≤ 1000 → Does .orderQueueRelease s [.time, .journal] fun t => t.journal.waiting = rest ∧
    t.journal.given = s.givenNow + orderNrec w.order ∧ t.journal.ring = s.journal.ring) ∧
  (∀ s, s.journal.waiting = [] ∨ s.isSequencer = false ∨ s.journal.takeover = true ∨ s.dip = true → exec .orderQueueRelease s = .next s) ∧
  (∀ s, Does .forwardRepeat s [.ports, .journal] fun t => t.journal = { s.journal with forwards := s.journal.forwards.map (fun g => if s.elapsed g.sentAt 100000000 then { g with sentAt := s.tb3 } else g) }) ∧
  (∀ s i tag code osn, (s.journal.forwards.any fun g => g.tag == tag.toNat) = false → exec (.fwdReturn i tag code osn) s = .next s) ∧
  (∀ s i tag osn f, (s.journal.forwards.find? fun g => g.tag == tag.toNat) = some f → s.isSequencer = false →
    s.journal.seqView = some i.val → exec (.fwdReturn i tag 0xFF osn) s = .next s) ∧
  (∀ s i tag osn f, (s.journal.forwards.find? fun g => g.tag == tag.toNat) = some f → Does (.fwdReturn i tag 0 osn) s [.time, .zdp, .ports, .journal, .regs .cnt] fun t =>
    (s.osnCommit < osn.toNat → t.journal.forwards = s.journal.forwards.filter (fun g => g.tag != tag.toNat) ∧
      t.zdp = s.zdp ∧ t.journal.replies = s.journal.replies.map (fun r =>
        if r.identity == f.order.identity then { r with duplicate := true } else r)) ∧
    (osn.toNat ≤ s.osnCommit → (t.journal.replies.any fun r => r.identity == f.order.identity) = false)) ∧
  (∀ s i tag code osn f, (s.journal.forwards.find? fun g => g.tag == tag.toNat) = some f → code ≠ 0 → code ≠ 0xFF →
    Does (.fwdReturn i tag code osn) s [.time, .zdp, .ports, .journal, .regs .cnt] fun t => (t.journal.forwards.any fun g => g.tag == tag.toNat) = false ∧
    (t.journal.replies.any fun r => r.identity == f.order.identity) = false ∧ t.journal.writing = s.journal.writing) ∧
  (∀ s (i : Member) commit os, (s.hear i).journal.seqView ≠ some i.val → Does (.copy i commit os) s [.dict, .fresh, .health, .zdp, .ports, .journal, .claims, .regs .cnt, .regs .hl, .regs .je] fun t => t = s.hear i ∧
    t.journal.ring = s.journal.ring ∧ t.journal.writing = s.journal.writing ∧ (t.peer i).heard = true) ∧
  (∀ s (i : Member) commit os, (s.hear i).journal.seqView = some i.val → Does (.copy i commit os) s [.dict, .fresh, .health, .zdp, .ports, .journal, .claims, .regs .cnt, .regs .hl, .regs .je] fun t =>
    (t.peer i).commit = max (s.peer i).commit commit.toNat ∧ (t.peer i).heard = true) ∧
  (∀ s (i : Member) commit o, (s.hear i).journal.seqView = some i.val → s.journal.gap = [] → o.osn = s.lastOsn + 1 → s.dip = false →
    s.jstate ≠ 6 → s.jstate ≠ 7 → Does (.copy i commit [o]) s [.dict, .fresh, .health, .zdp, .ports, .journal, .claims, .regs .cnt, .regs .hl, .regs .je] fun t => t.journal.writing = s.journal.writing ++ [o] ∧
    t.journal.kept = s.journal.kept) ∧
  (∀ s (i : Member) commit os, Does (.replay i commit os) s [.dict, .fresh, .health, .zdp, .ports, .journal, .claims, .regs .cnt, .regs .hl, .regs .je] fun t =>
    (t.peer i).commit = max (s.peer i).commit commit.toNat ∧ (t.peer i).heard = true) ∧
  (∀ s (i : Member) osn entries last, (s.hear i).jstate ≠ 1 → Does (.image i osn entries last) s [.dict, .ports, .journal, .claims, .regs .cg, .regs .je] fun t => t = s.hear i ∧
    t.osnHigh = s.osnHigh) ∧
  (∀ s (i : Member) osn entries last, (s.hear i).jstate = 1 → Does (.image i osn entries last) s [.dict, .ports, .journal, .claims, .regs .cg, .regs .je] fun t =>
    t.journal.image = some osn.toNat ∧
    (last = true → t.osnHigh = osn.toNat ∧ t.osnCommit = osn.toNat ∧ t.osnApplied = osn.toNat ∧
      t.rd Reg.CG_CFG_EPOCH = t.objN Obj.CLAIM_EPOCH % 2 ^ 8) ∧
    (last = false → t.osnHigh = s.osnHigh ∧ t.osnCommit = s.osnCommit)) ∧
  (∀ s (i : Member) first lastOsn, Does (.fetch i first lastOsn) s [.ports, .journal, .claims, .regs .je] fun t => t.journal = (s.hear i).journal ∧ t.regs = (s.hear i).regs ∧
    (t.peer i).heard = true) ∧
  (∀ s (i : Member) osn, Does (.ack i osn) s [.dict, .zdp, .ports, .journal, .claims, .regs .cnt, .regs .je] fun t => (t.peer i).acked = max (s.peer i).acked osn.toNat ∧ (t.peer i).heard = true ∧
    t.journal.copiedAt = s.journal.copiedAt.filter (fun c => decide (osn.toNat < c.1)) ∧ t.journal.ring = s.journal.ring) ∧
  (∀ s (i : Member) osn, Does (.commit i osn) s [.dict, .zdp, .ports, .journal, .claims, .regs .cnt, .regs .je] fun t => (t.peer i).commit = max (s.peer i).commit osn.toNat ∧
    t.osnCommit = max s.osnCommit (min osn.toNat s.contiguous) ∧ t.journal.ring = s.journal.ring)

/-- R409, R415, R417, R421, R425, R430, R436, R442: the journal's own events. STATE reaches every member; a silent member is no longer heard; the
sequencer is the eligible member of lowest index; a member that hears nobody enters SOLO; applications open in OSN order and a slow one is
reported once.
A clause on a corner that the rules leave open follows the choice of the model (log entries 21, 48 and 49). -/
def Obligations.JournalEvents : Prop :=
  (∀ s (i : Member) code high commit, Does (.state i code high commit) s [.ports, .journal, .claims, .regs .je] fun t => (t.peer i).jstate = some code.toNat ∧
    (t.peer i).osnHigh = high.toNat ∧ (t.peer i).commit = commit.toNat ∧ (t.peer i).heard = true ∧
    (code = 2 → (s.peer i).since = none → (t.peer i).since = some s.tb3) ∧ (code ≠ 2 → code ≠ 3 → (t.peer i).since = none)) ∧
  (∀ s, Does .stateSend s [.ports] fun t =>
    (t.ports.peerOut.all fun f => decide (f ∈ s.ports.peerOut) || f.payload == .state s.jstate s.osnHigh s.osnCommit) = true) ∧
  (∀ s, s.journal.seqView = none → exec .jeFetch s = .next s) ∧
  (∀ s m, s.journal.seqView = some m → Does .jeFetch s [.ports] fun t =>
    (t.ports.peerOut.all fun f => decide (f ∈ s.ports.peerOut) || f.payload == .fetch s.osnHigh 0) = true) ∧
  (∀ s (i : Member) (at_ : Nat), (s.peer i).lastFrame = some at_ → s.elapsed at_ 50000000 = false → exec (.peerSilence i) s = .next s) ∧
  (∀ s (i : Member) (at_ : Nat), (s.peer i).lastFrame = some at_ → s.elapsed at_ 50000000 = true → Does (.peerSilence i) s [.ports, .journal, .claims, .regs .je] fun t =>
    (t.peer i).heard = false ∧ (t.peer i).heardSince = none ∧ t.jstate = s.jstate) ∧
  (∀ s (i : Member), (s.peer i).lastFrame = none → Does (.peerSilence i) s [.ports, .journal, .claims, .regs .je] fun t => (t.peer i).heard = false ∧ t.jstate = s.jstate) ∧
  (∀ s, Does .eligibilityRestore s [.ports, .journal, .regs .je] fun t =>
    t.journal.seqView = (if s.ownSequencer then s.ownIndex else (([0, 1, 2] : List Nat).filter s.eligible).head?) ∧
    t.flag Reg.JE_STATUS_SEQUENCER = (s.ownSequencer ||
      ((([0, 1, 2] : List Nat).filter s.eligible).head?.isSome && (([0, 1, 2] : List Nat).filter s.eligible).head? == s.ownIndex)) ∧
    t.jstate = s.jstate) ∧
  (∀ s, s.control = false ∨ s.objB Obj.JE_SOLO_ALLOWED = false ∨ (s.jstate ≠ 1 ∧ s.jstate ≠ 2) ∨
    s.elapsed s.journal.lastPeer (s.objN Obj.JE_SOLO_DELAY * 1000000) = false → exec .soloEntry s = .next s) ∧
  (∀ s, s.control = true → s.objB Obj.JE_SOLO_ALLOWED = true → (s.jstate = 1 ∨ s.jstate = 2) →
    s.elapsed s.journal.lastPeer (s.objN Obj.JE_SOLO_DELAY * 1000000) = true → Does .soloEntry s [.dict, .fresh, .health, .zdp, .ports, .journal, .regs .cnt, .regs .hl, .regs .je] fun t => t.jstate = 5 ∧
    t.flag Reg.HL_IRQ_ALARM = true ∧ t.flag Reg.JE_STATUS_SEQUENCER = true ∧ t.journal.since = none) ∧
  (∀ s, (s.journal.apply.isSome || s.jstate == 6) = true → exec .applyReady s = .next s) ∧
  (∀ s o rest, (s.journal.apply.isSome || s.jstate == 6) = false → (s.skipForeign s.toApply).toApply = o :: rest →
    Does .applyReady s [.dict, .journal, .regs .je] fun t => t.journal.apply = some ⟨o.osn, s.tb3, false⟩ ∧ t.flag Reg.JE_STATUS_APPLY_OPEN = true ∧
    t.flag Reg.JE_IRQ_APPLY_READY = true ∧ t.flag Reg.JE_APPLY_REC_VALID = true ∧
    t.rd Reg.JE_APPLY_REC_NREC = orderNrec o % 2 ^ 8 ∧ t.rd Reg.JE_APPLY_REC_SLOT = o.osn % 65536) ∧
  (∀ s, s.journal.apply = none → s.jstate ≠ 6 → s.toApply = [] → exec .applyReady s = .next s) ∧
  (∀ s a, s.journal.apply = some a → s.elapsed a.since 100000000 = true → a.slow = false → Does .applySlow s [.dict, .fresh, .health, .zdp, .ports, .journal, .regs .cnt, .regs .hl, .regs .je] fun t =>
    t.journal.apply = some { a with slow := true } ∧ t.flag Reg.JE_IRQ_APPLY_SLOW = true ∧ t.flag Reg.HL_IRQ_ALARM = true ∧
    t.flag Reg.JE_STATUS_APPLY_OPEN = s.flag Reg.JE_STATUS_APPLY_OPEN) ∧
  (∀ s a, s.journal.apply = some a → a.slow = true → exec .applySlow s = .next s) ∧
  (∀ s, s.journal.apply = none → exec .applySlow s = .next s)


/-- R37, R438, R439, R441, R442, R443, R444: what the members of a set send each other. Heartbeats, claims, summaries and allocations of other members
are taken once and only under the same members signature; a member not heard is lost.
A clause on a corner that the rules leave open follows the choice of the model (log entries 33 and 56). -/
def Obligations.PeerMessages : Prop :=
  (∀ s, s.inSet = false → exec .heartbeatSend s = .next s) ∧
  (∀ s, s.inSet = true → Does .heartbeatSend s [.ports] fun t =>
    (t.ports.peerOut.all fun f => decide (f ∈ s.ports.peerOut) || f.payload == .heartbeat s.heartbeat) = true) ∧
  (∀ s (i : Member) h, (s.peer i).lastHb = some (h.time.sec % 2 ^ 32, h.time.ns) → Does (.heartbeatReceived i h) s [.dict, .fresh, .health, .zdp, .ports, .journal, .claims, .can, .regs .can, .regs .cnt, .regs .hl, .regs .cg, .regs .je] fun t =>
    (t.peer i).claim = (s.peer i).claim ∧ (t.peer i).rankCeil = (s.peer i).rankCeil ∧ (t.peer i).heard = true) ∧
  (∀ s (i : Member) h, (s.peer i).lastHb ≠ some (h.time.sec % 2 ^ 32, h.time.ns) → h.sig ≠ s.membersSig →
    Does (.heartbeatReceived i h) s [.dict, .fresh, .health, .zdp, .ports, .journal, .claims, .can, .regs .can, .regs .cnt, .regs .hl, .regs .cg, .regs .je] fun t => (t.peer i).sig = h.sig ∧ (t.peer i).sigSeen = true ∧
    (t.peer i).claim = (s.peer i).claim ∧ (t.peer i).heard = true) ∧
  (∀ s (i : Member) h, (s.peer i).lastHb ≠ some (h.time.sec % 2 ^ 32, h.time.ns) → h.sig = s.membersSig →
    Does (.heartbeatReceived i h) s [.dict, .fresh, .health, .zdp, .ports, .journal, .claims, .can, .regs .can, .regs .cnt, .regs .hl, .regs .cg, .regs .je] fun t => (t.peer i).sig = h.sig ∧ (t.peer i).claim = h.claim ∧ (t.peer i).epoch = h.epoch ∧
    (t.peer i).rankCeil = h.rankCeil ∧ (t.peer i).healthCeil = h.healthCeil ∧ (t.peer i).leaderView = h.leaderView ∧
    (t.peer i).heard = true) ∧
  (∀ s (i : Member) (at_ : Nat), (s.peer i).lastFrame = some at_ → s.elapsed at_ 50000000 = false → exec (.peerLost i) s = .next s) ∧
  (∀ s (i : Member), (match (s.peer i).lastFrame with | some x => s.elapsed x 50000000 | none => true) = true → Does (.peerLost i) s [.dict, .ports, .claims, .can, .regs .can, .regs .cnt, .regs .cg] fun t =>
    (t.peer i).heard = false ∧ (t.peer i).heardSince = none ∧ (t.peer i).claim = (s.peer i).claim) ∧
  (∀ s (i : Member) f, s.sigDiffers i = false → f.format = 1 → crcOk (claimBody f) f.crc = true →
    (s.peer i).lastClaim ≠ some (f.tS.toNat, f.tNs.toNat) → Does (.peerClaimReceived i f) s [.ports, .journal, .claims, .regs .je] fun t =>
    (t.peer i).claim = f.claim.toNat ∧ (t.peer i).claimFrame = some f ∧ (t.peer i).heard = true) ∧
  (∀ s (i : Member) f, (s.sigDiffers i = true ∨ f.format ≠ 1 ∨ crcOk (claimBody f) f.crc = false ∨
      (s.peer i).lastClaim = some (f.tS.toNat, f.tNs.toNat)) → Does (.peerClaimReceived i f) s [.ports, .journal, .claims, .regs .je] fun t => t = s.hear i ∧
    (t.peer i).claim = (s.peer i).claim) ∧
  (∀ s (i : Member) sm, (s.sigDiffers i = true ∨ sm.sig ≠ s.membersSig) → Does (.planSummaryReceived i sm) s [.dict, .fresh, .health, .zdp, .ports, .journal, .claims, .regs .cnt, .regs .hl, .regs .je] fun t =>
    (t.peer i).summary = (s.peer i).summary ∧ (t.peer i).heard = true) ∧
  (∀ s (i : Member) sm old, s.sigDiffers i = false → sm.sig = s.membersSig → (s.peer i).summary = some old → old.planTref = sm.planTref →
    Does (.planSummaryReceived i sm) s [.dict, .fresh, .health, .zdp, .ports, .journal, .claims, .regs .cnt, .regs .hl, .regs .je] fun t => t = s.hear i ∧ (t.peer i).summary = some old) ∧
  (∀ s (i : Member) sm, s.sigDiffers i = false → sm.sig = s.membersSig →
    (match (s.peer i).summary with | some x => x.planTref == sm.planTref | none => false) = false →
    Does (.planSummaryReceived i sm) s [.dict, .fresh, .health, .zdp, .ports, .journal, .claims, .regs .cnt, .regs .hl, .regs .je] fun t => (t.peer i).summary = some sm ∧ (t.peer i).claim = sm.claim ∧
    (t.peer i).alloc = (s.peer i).alloc.filter (fun f => f.planTref == sm.planTref)) ∧
  (∀ s (i : Member) a, s.sigDiffers i = true → Does (.allocationReceived i a) s [.dict, .fresh, .health, .zdp, .ports, .journal, .claims, .regs .cnt, .regs .hl, .regs .je] fun t =>
    (t.peer i).alloc = (s.peer i).alloc ∧ (t.peer i).heard = true) ∧
  (∀ s (i : Member) a, s.sigDiffers i = false → ((s.peer i).alloc.any fun f => f.planTref == a.planTref && f.part == a.part) = false →
    Does (.allocationReceived i a) s [.dict, .fresh, .health, .zdp, .ports, .journal, .claims, .regs .cnt, .regs .hl, .regs .je] fun t =>
    (t.peer i).alloc = (s.peer i).alloc.filter (fun f => f.planTref == a.planTref) ++ [a]) ∧
  (∀ s (i : Member) a, s.sigDiffers i = false → ((s.peer i).alloc.any fun f => f.planTref == a.planTref && f.part == a.part) = true →
    Does (.allocationReceived i a) s [.dict, .fresh, .health, .zdp, .ports, .journal, .claims, .regs .cnt, .regs .hl, .regs .je] fun t => t = s.hear i)

/-- R450, R451, R452, R453, R454, R460, R471: the claim that a member offers. The ceilings, the leader and the claim number follow; claim frames
leave at a renewal; rotation, epoch and proof test act as ordered.
A clause on a corner that the rules leave open follows the choice of the model (log entries 34 and 56). -/
def Obligations.OfferedClaims : Prop :=
  (∀ s, Does .ceilingRecompute s [.dict, .ports, .claims, .can, .regs .can, .regs .cnt, .regs .cg] fun t => t.rd Reg.CG_CEILING_RANK_CEIL = s.noteTerms.rankCeiling % 2 ^ 4 ∧
    t.rd Reg.CG_CEILING_HEALTH_CEIL = (4095 - s.noteTerms.healthTerms.foldl (· + ·) 0) % 2 ^ 12 ∧
    (t.rd Reg.CG_CLAIM_CLAIM = t.claimNumber ∨ t.rd Reg.CG_CLAIM_CLAIM = t.claimNumber % 2 ^ 32) ∧
    (s.inSet = false → t.claims.leader = none)) ∧
  (∀ s core v, Does (.claimRequest core v) s [.ports, .claims, .can, .regs .can, .regs .cnt, .regs .cg] fun t => t.rd Reg.CG_CLAIM_REQ_RANK = v.toNat / 2 ^ 28 % 2 ^ 4 ∧
    t.rd Reg.CG_CLAIM_REQ_HEALTH = v.toNat / 2 ^ 16 % 2 ^ 12 ∧
    (t.rd Reg.CG_CLAIM_CLAIM = t.claimNumber ∨ t.rd Reg.CG_CLAIM_CLAIM = t.claimNumber % 2 ^ 32)) ∧
  (∀ s, s.control = false ∨ s.nodeValid = false ∨ s.hub.replayed = false → exec .claimSend s = .next s) ∧
  (∀ s, s.control = true → s.nodeValid = true → s.hub.replayed = true → Does .claimSend s [.ports, .claims, .can, .regs .can, .regs .cnt, .regs .cg] fun t => t.claims.lastSend = s.tb3 ∧
    t.rd Reg.CG_SENT_COUNT = (s.rd Reg.CG_SENT_COUNT + 1) % 2 ^ 32 ∧ t.rd Reg.CG_CLAIM_CLAIM = s.rd Reg.CG_CLAIM_CLAIM) ∧
  (∀ s, s.elapsed s.claims.lastSend (max 6 (s.rd Reg.CG_CFG_LEASE_MS / 3) * 1000000) = false → exec .leaseRenewal s = .next s) ∧
  (∀ s, s.elapsed s.claims.lastSend (max 6 (s.rd Reg.CG_CFG_LEASE_MS / 3) * 1000000) = true → s.control = true → s.nodeValid = true →
    s.hub.replayed = true → Does .leaseRenewal s [.ports, .claims, .can, .regs .can, .regs .cnt, .regs .cg] fun t => t.claims.lastSend = s.tb3 ∧
    t.rd Reg.CG_SENT_COUNT = (s.rd Reg.CG_SENT_COUNT + 1) % 2 ^ 32) ∧
  (∀ s idx, s.gateRole = true → Does (.leaderIndex idx) s [.dict, .outcome, .ports, .claims, .can, .regs .can, .regs .cnt, .regs .cg] fun t => t.outcome = 10 ∧ t.regs = s.regs ∧ t.dict = s.dict) ∧
  (∀ s (idx : Fin 3), s.gateRole = false → Does (.leaderIndex idx) s [.dict, .outcome, .ports, .claims, .can, .regs .can, .regs .cnt, .regs .cg] fun t => t.outcome = 0 ∧
    t.rd Reg.CG_MEMBER2_LEADER_INDEX = idx ∧ t.objN Obj.CLAIM_LEADER_INDEX = idx ∧ t.claims.rotatedAt = s.tb3) ∧
  (∀ s, s.gateRole = true → Does .epochAdvance s [.dict, .outcome, .ports, .claims, .can, .regs .can, .regs .cnt, .regs .cg] fun t => t.outcome = 10 ∧ t.regs = s.regs ∧ t.dict = s.dict) ∧
  (∀ s, s.gateRole = false → Does .epochAdvance s [.dict, .outcome, .ports, .claims, .can, .regs .can, .regs .cnt, .regs .cg] fun t => t.outcome = 0 ∧
    t.rd Reg.CG_CFG_EPOCH = (s.objN Obj.CLAIM_EPOCH + 1) % 256 ∧ t.objN Obj.CLAIM_EPOCH = (s.objN Obj.CLAIM_EPOCH + 1) % 256 ∧
    (t.rd Reg.CG_CLAIM_CLAIM = t.claimNumber ∨ t.rd Reg.CG_CLAIM_CLAIM = t.claimNumber % 2 ^ 32)) ∧
  (∀ s (path : Fin 24) (thr : Fin 32) gates, (Map.get none s.claims.lastCmd thr = none ∨ s.control = false ∨ s.claims.proofDue = false ∨
    s.pathServes path thr = false) → exec (.proofTest path thr gates) s = .next s) ∧
  (∀ s (path : Fin 24) (thr : Fin 32) gates c, Map.get none s.claims.lastCmd thr = some c → s.control = true → s.claims.proofDue = true →
    s.pathServes path thr = true → Does (.proofTest path thr gates) s [.claims, .can, .regs .can, .regs .cnt] fun t =>
    t.claims.probes = s.claims.probes ++ [⟨path, thr, c.appS.toNat * 1000000000 + c.appNs.toNat, s.tb3, gates⟩] ∧
    Map.get 0 t.claims.cmdSeq thr = (Map.get 0 s.claims.cmdSeq thr + 1) % 2 ^ 32) ∧
  (∀ s (path : Fin 24) results, (s.claims.probes.any fun x => x.path == path.val) = false → exec (.proofResultTimeout path results) s = .next s) ∧
  (∀ s (path : Fin 24) results, (s.claims.probes.any fun x => x.path == path.val) = true →
    ((s.claims.probes.filter fun x => x.path == path.val).any fun x => !s.elapsed x.sentAt 100000000) = false →
    Does (.proofResultTimeout path results) s [.dict, .fresh, .health, .zdp, .ports, .claims, .regs .cnt, .regs .hl] fun t => t.claims.probes = s.claims.probes.filter (fun x => x.path != path.val) ∧
    t.objN Obj.CLAIMST_PROOF_RESULT 0 path = (if results.length < (s.claims.probes.filter fun x => x.path == path.val).foldl (fun n x => n + x.gates) 0 then 3
      else if results.all (· == 1) then 1 else 2)) ∧
  (∀ s (path : Fin 24) results, ((s.claims.probes.filter fun x => x.path == path.val).any fun x => !s.elapsed x.sentAt 100000000) = true →
    exec (.proofResultTimeout path results) s = .next s)


/-- R440, R459, R461, R462, R463, R464, R465, R466: frames at the claim gate. A frame is refused under the first cause it fails, or taken: its claim, its
lease and the holder, the highest claim of the unexpired leases; a command of the holder waits for its time or is applied at once.
A clause on a corner that the rules leave open follows the choice of the model (log entry 57). -/
def Obligations.GateFrames : Prop :=
  (∀ s (path : Fin 24) f, (s.gateActs && s.gatePath path.val) = false → exec (.gateClaimFrame path f) s = .next s) ∧
  (∀ s (path : Fin 24) f k, (s.gateActs && s.gatePath path.val) = true → s.gateCause (claimHead f) = some k →
    Does (.gateClaimFrame path f) s [.dict, .gate, .regs .cnt, .regs .cg] fun t => t.gate = s.gate ∧ t.flag Reg.CG_IRQ_REFUSED = true ∧
    t.rd Reg.CG_REFUSE_COUNT (k - 1) = min (2 ^ 32 - 1) (s.rd Reg.CG_REFUSE_COUNT (k - 1) + 1)) ∧
  (∀ s (path : Fin 24) f, (s.gateActs && s.gatePath path.val) = true → s.gateCause (claimHead f) = none →
    Does (.gateClaimFrame path f) s [.dict, .gate, .regs .cnt, .regs .cg] fun t => (t.gateMember (f.claim.toNat % 256)).claim = f.claim.toNat ∧
    (t.gateMember (f.claim.toNat % 256)).expiry =
      (if 8 ≤ f.claim.toNat / 2 ^ 28 then some (s.tb3 + f.leaseMs.toNat * 1000000) else none) ∧
    t.gate.holder = t.bestHolder ∧ Map.get none t.gate.heardOn path = some s.tb3 ∧
    (t.gate.holder ≠ s.gate.holder → t.flag Reg.CG_IRQ_SWITCH = true)) ∧
  (∀ s (path : Fin 24) f, (s.gateActs && s.gatePath path.val) = false → exec (.gateCommandFrame path f) s = .next s) ∧
  (∀ s (path : Fin 24) f k, (s.gateActs && s.gatePath path.val) = true → s.gateCause (commandHead f) = some k →
    Does (.gateCommandFrame path f) s [.dict, .fresh, .health, .zdp, .ports, .journal, .gate, .loop, .safety, .regs .le, .regs .cnt, .regs .hl, .regs .cg, .regs .sm, .regs .je] fun t => t.gate = s.gate ∧ t.loop = s.loop ∧ t.flag Reg.CG_IRQ_REFUSED = true ∧
    t.rd Reg.CG_REFUSE_COUNT (k - 1) = min (2 ^ 32 - 1) (s.rd Reg.CG_REFUSE_COUNT (k - 1) + 1)) ∧
  (∀ s (path : Fin 24) f u, (s.gateActs && s.gatePath path.val) = true → s.gateCause (commandHead f) = none → f.flags.toNat % 2 = 1 →
    u = s.gateTake path.val (commandHead f) → Does (.gateCommandFrame path f) s [.dict, .fresh, .health, .zdp, .ports, .journal, .gate, .loop, .safety, .regs .le, .regs .cnt, .regs .hl, .regs .cg, .regs .sm, .regs .je] fun t => t.flag Reg.CG_IRQ_PROBE = true ∧
    t.rd Reg.CG_PROBE_THRUSTER = f.thruster.toNat % 2 ^ 5 ∧ t.rd Reg.CG_PROBE_NODE = f.node.toNat % 2 ^ 14 ∧
    t.gate.thrusters = u.gate.thrusters ∧ t.gate.members = u.gate.members ∧
    (u.gate.holder ≠ some (f.claim.toNat % 256) → t.rd Reg.CG_PROBE_RESULT = 3)) ∧
  (∀ s (path : Fin 24) f u, (s.gateActs && s.gatePath path.val) = true → s.gateCause (commandHead f) = none → f.flags.toNat % 2 = 0 →
    u = s.gateTake path.val (commandHead f) → u.gate.holder ≠ some (f.claim.toNat % 256) → Does (.gateCommandFrame path f) s [.dict, .fresh, .health, .zdp, .ports, .journal, .gate, .loop, .safety, .regs .le, .regs .cnt, .regs .hl, .regs .cg, .regs .sm, .regs .je] fun t =>
    t.rd Reg.CGS_LATE_IGNORED f.thruster.toNat = min (2 ^ 16 - 1) (u.rd Reg.CGS_LATE_IGNORED f.thruster.toNat + 1) ∧
    (t.gateThr f.thruster.toNat).queue = (u.gateThr f.thruster.toNat).queue ∧
    (t.gateThr f.thruster.toNat).lastApp = (u.gateThr f.thruster.toNat).lastApp) ∧
  (∀ s (path : Fin 24) f u app, (s.gateActs && s.gatePath path.val) = true → s.gateCause (commandHead f) = none → f.flags.toNat % 2 = 0 →
    u = s.gateTake path.val (commandHead f) → u.gate.holder = some (f.claim.toNat % 256) → app = u.appTime f.appS.toNat f.appNs.toNat →
    (match (u.gateThr f.thruster.toNat).lastApp with | some l => decide (app ≤ l) | none => false) = true →
    Does (.gateCommandFrame path f) s [.dict, .fresh, .health, .zdp, .ports, .journal, .gate, .loop, .safety, .regs .le, .regs .cnt, .regs .hl, .regs .cg, .regs .sm, .regs .je] fun t => t.rd Reg.CGS_QUEUE_LAST_CAUSE f.thruster.toNat = 7 ∧ t.gate = u.gate ∧
    t.rd Reg.CG_REFUSE_COUNT 6 = min (2 ^ 32 - 1) (u.rd Reg.CG_REFUSE_COUNT 6 + 1)) ∧
  (∀ s (path : Fin 24) f u app, (s.gateActs && s.gatePath path.val) = true → s.gateCause (commandHead f) = none → f.flags.toNat % 2 = 0 →
    u = s.gateTake path.val (commandHead f) → u.gate.holder = some (f.claim.toNat % 256) → app = u.appTime f.appS.toNat f.appNs.toNat →
    (match (u.gateThr f.thruster.toNat).lastApp with | some l => decide (app ≤ l) | none => false) = false →
    u.now 0 < app → app ≤ u.now 0 + 200000000 → (u.gateThr f.thruster.toNat).queue.length < 8 →
    Does (.gateCommandFrame path f) s [.dict, .fresh, .health, .zdp, .ports, .journal, .gate, .loop, .safety, .regs .le, .regs .cnt, .regs .hl, .regs .cg, .regs .sm, .regs .je] fun t => (t.gateThr f.thruster.toNat).lastApp = some app ∧
    (t.gateThr f.thruster.toNat).queue.length = (u.gateThr f.thruster.toNat).queue.length + 1 ∧
    ((t.gateThr f.thruster.toNat).queue.getLast?.map fun c => (c.app, c.raw)) = some (app, [f.drive, f.angle, f.thrust, f.aux].map (·.toInt)) ∧
    t.rd Reg.CGS_ACCEPTED_ACCEPTED f.thruster.toNat = min (2 ^ 32 - 1) (u.rd Reg.CGS_ACCEPTED_ACCEPTED f.thruster.toNat + 1) ∧
    t.rd Reg.LE_WORD_WORD (gcmd f.thruster.toNat 0) = s.rd Reg.LE_WORD_WORD (gcmd f.thruster.toNat 0)) ∧
  (∀ s (path : Fin 24) f u app, (s.gateActs && s.gatePath path.val) = true → s.gateCause (commandHead f) = none → f.flags.toNat % 2 = 0 →
    u = s.gateTake path.val (commandHead f) → u.gate.holder = some (f.claim.toNat % 256) → app = u.appTime f.appS.toNat f.appNs.toNat →
    (match (u.gateThr f.thruster.toNat).lastApp with | some l => decide (app ≤ l) | none => false) = false →
    u.now 0 + 200000000 < app → Does (.gateCommandFrame path f) s [.dict, .fresh, .health, .zdp, .ports, .journal, .gate, .loop, .safety, .regs .le, .regs .cnt, .regs .hl, .regs .cg, .regs .sm, .regs .je] fun t => t.rd Reg.CGS_QUEUE_LAST_CAUSE f.thruster.toNat = 8 ∧ t.gate = u.gate ∧
    t.rd Reg.CG_REFUSE_COUNT 7 = min (2 ^ 32 - 1) (u.rd Reg.CG_REFUSE_COUNT 7 + 1)) ∧
  (∀ s (path : Fin 24) f u app, (s.gateActs && s.gatePath path.val) = true → s.gateCause (commandHead f) = none → f.flags.toNat % 2 = 0 →
    u = s.gateTake path.val (commandHead f) → u.gate.holder = some (f.claim.toNat % 256) → app = u.appTime f.appS.toNat f.appNs.toNat →
    (match (u.gateThr f.thruster.toNat).lastApp with | some l => decide (app ≤ l) | none => false) = false →
    app ≤ u.now 0 + 200000000 → 8 ≤ (u.gateThr f.thruster.toNat).queue.length → Does (.gateCommandFrame path f) s [.dict, .fresh, .health, .zdp, .ports, .journal, .gate, .loop, .safety, .regs .le, .regs .cnt, .regs .hl, .regs .cg, .regs .sm, .regs .je] fun t =>
    t.rd Reg.CGS_QUEUE_LAST_CAUSE f.thruster.toNat = 9 ∧ t.gate = u.gate ∧
    t.rd Reg.CG_REFUSE_COUNT 8 = min (2 ^ 32 - 1) (u.rd Reg.CG_REFUSE_COUNT 8 + 1)) ∧
  (∀ s (path : Fin 24) f u app, (s.gateActs && s.gatePath path.val) = true → s.gateCause (commandHead f) = none → f.flags.toNat % 2 = 0 →
    u = s.gateTake path.val (commandHead f) → u.gate.holder = some (f.claim.toNat % 256) → app = u.appTime f.appS.toNat f.appNs.toNat →
    (match (u.gateThr f.thruster.toNat).lastApp with | some l => decide (app ≤ l) | none => false) = false →
    app ≤ u.now 0 → (u.gateThr f.thruster.toNat).queue.length < 8 → Does (.gateCommandFrame path f) s [.dict, .fresh, .health, .zdp, .ports, .journal, .gate, .loop, .safety, .regs .le, .regs .cnt, .regs .hl, .regs .cg, .regs .sm, .regs .je] fun t =>
    (t.gateThr f.thruster.toNat).lastApp = some app ∧ (t.gateThr f.thruster.toNat).fed = some (s.tb3, f.claim.toNat % 256) ∧
    t.rd Reg.CGS_LAST_APP_LAST_APP_NS f.thruster.toNat = app % 1000000000 ∧
    t.rd Reg.CGS_LATE_LATE_ARRIVAL f.thruster.toNat = min (2 ^ 16 - 1) (u.rd Reg.CGS_LATE_LATE_ARRIVAL f.thruster.toNat + 1))

/-- R459, R463, R466, R467, R468, R469: leases, fences and waiting commands at the claim gate. Leases, fences and the cross-check end or change the
holder; a command is applied when its time has come; without a holder the SAFE values apply.
A clause on a corner that the rules leave open follows the choice of the model (log entry 57). -/
def Obligations.GateTimers : Prop :=
  (∀ s (i : Member), (s.gateMember i.val).expiry = none → exec (.leaseExpiry i) s = .next s) ∧
  (∀ s (i : Member) x, (s.gateMember i.val).expiry = some x → s.tb3 ≤ x → exec (.leaseExpiry i) s = .next s) ∧
  (∀ s (i : Member) x, (s.gateMember i.val).expiry = some x → x < s.tb3 → Does (.leaseExpiry i) s [.dict, .gate, .regs .cnt, .regs .cg] fun t =>
    (t.gateMember i.val).expiry = none ∧ (t.gateMember i.val).claim = (s.gateMember i.val).claim ∧ t.gate.holder = t.bestHolder ∧
    t.flag Reg.CG_STATUS_HOLDER_VALID = t.gate.holder.isSome) ∧
  (∀ s (thr : Fin 32), (s.gateThr thr).queue = [] → exec (.commandApply thr) s = .next s) ∧
  (∀ s (thr : Fin 32) c rest, (s.gateThr thr).queue = c :: rest → s.now 0 < c.app → exec (.commandApply thr) s = .next s) ∧
  (∀ s (thr : Fin 32) c rest, (s.gateThr thr).queue = c :: rest → c.app ≤ s.now 0 → Does (.commandApply thr) s [.dict, .fresh, .health, .zdp, .ports, .journal, .gate, .loop, .safety, .regs .le, .regs .cnt, .regs .hl, .regs .cg, .regs .sm, .regs .je] fun t =>
    (t.gateThr thr).fed = some (s.tb3, c.member) ∧ (t.gateThr thr).queue = (c :: rest).filter (· != c) ∧
    t.rd Reg.CGS_LAST_APP_LAST_APP_NS thr = c.app % 1000000000) ∧
  (∀ s (thr : Fin 32), (s.gateThr thr).applied = [] → exec (.crossCheck thr) s = .next s) ∧
  (∀ s (thr : Fin 32) c rest, (s.gateThr thr).applied = c :: rest → s.tb3 < c.arrived + 5000000 → exec (.crossCheck thr) s = .next s) ∧
  (∀ s (thr : Fin 32) c rest, (s.gateThr thr).applied = c :: rest → c.arrived + 5000000 ≤ s.tb3 →
    (s.flag Reg.CG_GCFG_CROSS_EN = false ∨ (s.gateThr thr).others = []) → Does (.crossCheck thr) s [.dict, .fresh, .health, .zdp, .ports, .journal, .gate, .safety, .regs .cnt, .regs .hl, .regs .cg, .regs .sm] fun t =>
    (t.gateThr thr).applied = rest ∧ (t.gateMember c.member).fenced = (s.gateMember c.member).fenced ∧ t.gate.holder = s.gate.holder ∧
    (s.flag Reg.CG_GCFG_CROSS_EN = true → (t.gateMember c.member).outvoted = 0)) ∧
  (∀ s (thr : Fin 32) c rest o p q, (s.gateThr thr).applied = c :: rest → c.arrived + 5000000 ≤ s.tb3 → s.flag Reg.CG_GCFG_CROSS_EN = true →
    (([0, 1, 2] : List Nat).filter (· != c.member)) = [o.member, p.member] → (s.gateThr thr).others = [o, p] → o.app = c.app → p.app = c.app →
    o.arrived ≤ c.arrived + 5000000 → p.arrived ≤ c.arrived + 5000000 → q = q15Int (s.rd Reg.CG_CROSS_CROSS_BOUND) →
    (agree q o.raw p.raw && !agree q c.raw o.raw && !agree q c.raw p.raw) = true → Does (.crossCheck thr) s [.dict, .fresh, .health, .zdp, .ports, .journal, .gate, .safety, .regs .cnt, .regs .hl, .regs .cg, .regs .sm] fun t =>
    (t.gateThr thr).applied = rest ∧
    ((s.gateMember c.member).outvoted < 2 → (t.gateMember c.member).outvoted = (s.gateMember c.member).outvoted + 1 ∧
      t.gate.holder = s.gate.holder) ∧
    (2 ≤ (s.gateMember c.member).outvoted → t.flag Reg.CG_STATUS_FENCED = true ∧ t.flag Reg.CG_IRQ_FENCE = true ∧
      (t.gateMember c.member).fenced = some (s.tb3 + s.rd Reg.CG_GCFG_FENCE_S * 1000000000) ∧ (t.gateMember c.member).expiry = none)) ∧
  (∀ s, s.gate.noneSince = none ∨ s.gate.holder.isSome = true ∨ s.flag Reg.CG_STATUS_SAFE = true ∨ s.gateActs = false → exec .noleaseHold s = .next s) ∧
  (∀ s (since : Nat), s.gate.noneSince = some since → s.gateActs = true → s.gate.holder = none → s.flag Reg.CG_STATUS_SAFE = false →
    s.elapsed since (s.rd Reg.CG_GCFG_NOLEASE_HOLD_MS * 1000000) = true → Does .noleaseHold s [.dict, .fresh, .health, .zdp, .ports, .gate, .regs .le, .regs .cnt, .regs .hl, .regs .cg] fun t =>
    t.flag Reg.CG_STATUS_SAFE = true ∧ t.flag Reg.CG_IRQ_SAFE = true ∧ t.flag Reg.HL_IRQ_ALARM = true ∧ t.gate.holder = none ∧
    (∀ n : Fin 32, t.rd Reg.LE_WORD_WORD (gcmd n 1) = s.rd Reg.LE_WORD_WORD (gcmd n 1))) ∧
  (∀ s (since : Nat), s.gate.noneSince = some since → s.elapsed since (s.rd Reg.CG_GCFG_NOLEASE_HOLD_MS * 1000000) = false →
    exec .noleaseHold s = .next s) ∧
  (∀ s (i : Member), (s.gateMember i.val).fenced = none → exec (.fenceExpiry i) s = .next s) ∧
  (∀ s (i : Member) e, (s.gateMember i.val).fenced = some e → s.tb3 < e → exec (.fenceExpiry i) s = .next s) ∧
  (∀ s (i : Member) e, (s.gateMember i.val).fenced = some e → e ≤ s.tb3 → Does (.fenceExpiry i) s [.gate, .regs .cg] fun t =>
    (t.gateMember i.val).fenced = none ∧ t.gate.holder = s.gate.holder ∧
    t.flag Reg.CG_STATUS_FENCED = (([0, 1, 2] : List Nat).any fun j => (t.gateMember j).fenced.isSome)) ∧
  (∀ s, s.gateActs = false → exec .gateStatusSend s = .next s) ∧
  (∀ s, s.gateActs = true → Does .gateStatusSend s [.gate] fun t => t.gate.statusSeq = (s.gate.statusSeq + 1) % 2 ^ 32 ∧
    t.gate.holder = s.gate.holder ∧ t.gate.members = s.gate.members)


/-- R477, R480, R481, R482, R483, R485: the start of the safety die and its inputs. Every output starts tripped; a demand trips the outputs it serves and
stays; a discrepancy or a missing test pulse is a fault of the input; channels that disagree make the die enter FAULT; no event on a
ball changes the configuration, the session or the change log.
A clause on a corner that the rules leave open follows the choice of the model (log entries 4 and 58). -/
def Obligations.SafetyContacts : Prop :=
  (∀ s, Does .vsafeGood s [.dict, .fresh, .health, .zdp, .ports, .safety, .regs .cnt, .regs .hl] fun t => t.safety.live = true ∧ t.safety.state = 0 ∧ t.energized = 0 ∧ t.safety.stuck = s.safety.srst ∧
    (∀ (c : Fin 2) (k : Fin 8), bitOf (t.chan c).trip k = true ∧ bitOf (Map.get 0 (t.chan c).lcause k) 5 = true) ∧ t.safety.cfg = [] ∧
    t.safety.dieLast = none ∧ t.safety.hash = s.safety.hash ∧ t.safety.log = s.safety.log ∧ t.safety.srst = s.safety.srst) ∧
  (∀ s, s.safety.live = false → exec .safetyOvertemp s = .next s) ∧
  (∀ s, s.safety.live = true → Does .safetyOvertemp s [.dict, .fresh, .health, .zdp, .ports, .safety, .regs .cnt, .regs .hl] fun t => t.safety.state = 6 ∧ t.energized = 0 ∧ t.safety.cfg = s.safety.cfg ∧
    (∀ (c : Fin 2) (k : Fin 8), bitOf (t.chan c).trip k = true ∧ bitOf (Map.get 0 (t.chan c).lcause k) 20 = true)) ∧
  (∀ s, Does .vio33SGood s [.safety] fun t => t.safety.vio33s = true ∧ LatchesKept s t ∧ DieKept s t ∧ t.safety.dieLast = s.safety.dieLast) ∧
  (∀ s (n : Fin 8) (ch : Fin 2) (closed : Bool), Does (.siContactChange n ch closed) s [.safety] fun t =>
    bitOf t.safety.closed (2 * n + ch) = closed ∧ (∀ b, b ≠ 2 * n.val + ch.val → bitOf t.safety.closed b = bitOf s.safety.closed b) ∧
    (∀ c : Fin 2, (t.chan c).filt = (s.chan c).filt) ∧ LatchesKept s t ∧ DieKept s t) ∧
  (∀ s (n : Fin 8) (ch : Fin 2), s.safety.live = false → exec (.siFilterExpiry n ch) s = .next s) ∧
  (∀ s (n : Fin 8) (ch : Fin 2), s.safety.live = true → Does (.siFilterExpiry n ch) s [.safety] fun t =>
    bitOf (t.chan ch).filt n = s.rawDemand n ch ∧ (∀ b, b ≠ n.val → bitOf (t.chan ch).filt b = bitOf (s.chan ch).filt b) ∧
    (∀ c : Fin 2, c ≠ ch → (t.chan c).filt = (s.chan c).filt) ∧ LatchesKept s t ∧ DieKept s t ∧
    (s.rawDemand n ch = true → s.sp Obj.SI_FUNCTION n = 1 → (∀ k : Fin 8, s.sp Obj.SO_FUNCTION k = 1 →
      s.sp Obj.SI_THRUSTERS n &&& s.sp Obj.SO_THRUSTERS k ≠ 0 → bitOf (t.chan ch).trip k = true)) ∧
    (s.rawDemand n ch = true → s.sp Obj.SI_FUNCTION n = 2 → (∀ z : Fin 8, bitOf (s.sp Obj.SI_ZONES n) z = true →
      bitOf (t.chan ch).zones z = true ∧ bitOf (t.chan ch).zd z = true))) ∧
  (∀ s (n : Fin 8), (s.safety.live && s.sp Obj.SI_FUNCTION n != 0 && s.rawDemand n 0 != s.rawDemand n 1) = false →
    exec (.discrepancyTimeout n) s = .next s) ∧
  (∀ s (n : Fin 8), (s.safety.live && s.sp Obj.SI_FUNCTION n != 0 && s.rawDemand n 0 != s.rawDemand n 1) = true →
    Does (.discrepancyTimeout n) s [.safety] fun t => bitOf t.safety.inputFault n = true ∧
    (∀ b, b ≠ n.val → bitOf t.safety.inputFault b = bitOf s.safety.inputFault b) ∧ LatchesKept s t ∧ DieKept s t ∧
    (s.sp Obj.SI_FUNCTION n = 1 → (∀ (c : Fin 2) (k : Fin 8), s.sp Obj.SO_FUNCTION k = 1 →
      s.sp Obj.SI_THRUSTERS n &&& s.sp Obj.SO_THRUSTERS k ≠ 0 → bitOf (t.chan c).trip k = true))) ∧
  (∀ s (n : Fin 8) (ch : Fin 2) (shown : Bool), (s.safety.live && s.sp Obj.SI_FUNCTION n != 0 && !shown) = false →
    exec (.testSourceCheck n ch shown) s = .next s) ∧
  (∀ s (n : Fin 8) (ch : Fin 2) (shown : Bool), (s.safety.live && s.sp Obj.SI_FUNCTION n != 0 && !shown) = true →
    Does (.testSourceCheck n ch shown) s [.safety] fun t => bitOf t.safety.inputFault n = true ∧
    (∀ b, b ≠ n.val → bitOf t.safety.inputFault b = bitOf s.safety.inputFault b) ∧ LatchesKept s t ∧ DieKept s t ∧
    (s.sp Obj.SI_FUNCTION n = 1 → (∀ (c : Fin 2) (k : Fin 8), s.sp Obj.SO_FUNCTION k = 1 →
      s.sp Obj.SI_THRUSTERS n &&& s.sp Obj.SO_THRUSTERS k ≠ 0 → bitOf (t.chan c).trip k = true))) ∧
  (∀ s, s.safety.live = false → exec .crossLinkExchange s = .next s) ∧
  (∀ s, s.safety.live = true → Does .crossLinkExchange s [.safety] fun t => (t.chan 0).other = (s.chan 1).filt ∧ (t.chan 1).other = (s.chan 0).filt ∧
    t.safety.differ = (t.decision 0 != t.decision 1) ∧ LatchesKept s t ∧ DieKept s t) ∧
  (∀ s, (s.safety.live && s.safety.differ && s.decision 0 != s.decision 1) = false → exec .channelFault s = .next s) ∧
  (∀ s, (s.safety.live && s.safety.differ && s.decision 0 != s.decision 1) = true → Does .channelFault s [.dict, .fresh, .health, .zdp, .ports, .safety, .regs .cnt, .regs .hl] fun t => t.safety.state = 6 ∧
    t.energized = 0 ∧ t.safety.cfg = s.safety.cfg ∧ (∀ (c : Fin 2) (k : Fin 8), bitOf (t.chan c).trip k = true ∧
      bitOf (Map.get 0 (t.chan c).lcause k) 20 = true))

/-- R477, R478, R479, R482, R490, R491, R492: elements and reset pulses of the safety die. An element that conducts when opened faults its output; a pulse is
accepted when both channels measure 50 ms to 2 s, and clears only what names it and showed no demand at its edge; any other pulse
is counted as what it was; a stuck input is released when it reads low.
A clause on a corner that the rules leave open follows the choice of the model (log entry 58). -/
def Obligations.SafetyElements : Prop :=
  (∀ s (ch : Fin 2), s.safety.live = false → exec (.safetyWatchdogExpiry ch) s = .next s) ∧
  (∀ s (ch : Fin 2), s.safety.live = true → Does (.safetyWatchdogExpiry ch) s [.safety] fun t => (t.chan ch).dead = true ∧ t.elements ch = 0 ∧
    t.energized = 0 ∧ LatchesKept s t ∧ DieKept s t) ∧
  (∀ s (out : Fin 8) (ch : Fin 2), (s.safety.live && !bitOf (s.elements ch) out) = false → exec (.switchFault out ch) s = .next s) ∧
  (∀ s (out : Fin 8) (ch : Fin 2), (s.safety.live && !bitOf (s.elements ch) out) = true → Does (.switchFault out ch) s [.dict, .fresh, .health, .zdp, .ports, .safety, .regs .cnt, .regs .hl] fun t =>
    bitOf (t.chan ch).swf out = true ∧ bitOf t.safety.faulted out = true ∧ bitOf (t.chan ch).trip out = true ∧
    bitOf t.energized out = false ∧ (∀ b, b ≠ out.val → bitOf t.safety.faulted b = bitOf s.safety.faulted b) ∧ LatchesKept s t ∧
    DieKept s t) ∧
  (∀ s (out : Fin 8) (ch : Fin 2) (conducts : Bool), (bitOf s.energized out && s.sp Obj.SO_TEST_PULSE out != 0 && conducts) = false →
    exec (.testPulse out ch conducts) s = .next s) ∧
  (∀ s (out : Fin 8) (ch : Fin 2) (conducts : Bool), (bitOf s.energized out && s.sp Obj.SO_TEST_PULSE out != 0 && conducts) = true →
    Does (.testPulse out ch conducts) s [.dict, .fresh, .health, .zdp, .ports, .safety, .regs .cnt, .regs .hl] fun t => bitOf (t.chan ch).swf out = true ∧ bitOf t.safety.faulted out = true ∧
    bitOf (t.chan ch).trip out = true ∧ bitOf t.energized out = false ∧ LatchesKept s t ∧ DieKept s t) ∧
  (∀ s (k : Fin 4) clean, (s.safety.live && !bitOf s.safety.stuck k) = false → Does (.resetPulseRise k clean) s [.safety] fun t =>
    t.safety.srst = setBit s.safety.srst k ∧ t.safety.rises = s.safety.rises ∧ t.safety.chans = s.safety.chans ∧ DieKept s t) ∧
  (∀ s (k : Fin 4) clean, (s.safety.live && !bitOf s.safety.stuck k) = true → Does (.resetPulseRise k clean) s [.safety] fun t =>
    t.safety.srst = setBit s.safety.srst k ∧ t.safety.chans = s.safety.chans ∧ DieKept s t ∧
    (Map.get none t.safety.rises k).map (fun r => (r.zd, r.dem)) =
      some ((s.chan 0).zd ||| (s.chan 1).zd, (s.chan 0).dem ||| (s.chan 1).dem) ∧
    (∀ n : Fin 8, (Map.get none t.safety.rises k).map (fun r => bitOf r.clean n) =
      some (bitOf clean.toNat n && !s.rawDemand n 0 && !s.rawDemand n 1)) ∧
    (∀ j : Fin 4, j ≠ k → Map.get none t.safety.rises j = Map.get none s.safety.rises j)) ∧
  (∀ s (k : Fin 4) (a b : Nat), Map.get none s.safety.rises k = none → Does (.resetPulseFall k a b) s [.dict, .fresh, .health, .zdp, .safety, .regs .cnt, .regs .hl] fun t =>
    t.safety.srst = clearBit s.safety.srst k ∧ t.safety.resetCounts = s.safety.resetCounts ∧ t.safety.chans = s.safety.chans ∧ DieKept s t) ∧
  (∀ s (k : Fin 4) (a b : Nat) r, Map.get none s.safety.rises k = some r → 50000 ≤ a → a ≤ 2000000 → 50000 ≤ b → b ≤ 2000000 →
    Does (.resetPulseFall k a b) s [.dict, .fresh, .health, .zdp, .safety, .regs .cnt, .regs .hl] fun t => Map.get none t.safety.rises k = none ∧
    Map.get 0 t.safety.resetCounts (4 * k) = (Map.get 0 s.safety.resetCounts (4 * k) + 1) % 2 ^ 32 ∧
    (∀ j : Fin 16, j.val ≠ 4 * k.val → Map.get 0 t.safety.resetCounts j = Map.get 0 s.safety.resetCounts j) ∧
    (∀ n : Fin 8, bitOf t.safety.inputFault n = (bitOf s.safety.inputFault n && !(bitOf r.clean n && s.sp Obj.SI_RESET_INPUT n == k.val))) ∧
    (∀ (c : Fin 2) (j : Fin 8), (s.sp Obj.SO_RESET_INPUT j ≠ k.val ∨ bitOf r.dem j = true) → bitOf (s.chan c).trip j = true →
      bitOf (t.chan c).trip j = true) ∧
    (∀ (c : Fin 2) (z : Fin 8), (s.sp Obj.ZONE_RESET_INPUT z ≠ k.val ∨ bitOf r.zd z = true) → bitOf (s.chan c).zones z = true →
      bitOf (t.chan c).zones z = true) ∧
    (s.safety.live = true → (∀ (c : Fin 2) (j : Fin 8), bitOf (t.chan c).trip j = false → bitOf (t.chan c).dem j = false)) ∧ DieKept s t) ∧
  (∀ s (k : Fin 4) (a b : Nat) r, Map.get none s.safety.rises k = some r →
    decide (50000 ≤ a ∧ a ≤ 2000000) ≠ decide (50000 ≤ b ∧ b ≤ 2000000) → Does (.resetPulseFall k a b) s [.dict, .fresh, .health, .zdp, .safety, .regs .cnt, .regs .hl] fun t =>
    Map.get 0 t.safety.resetCounts (4 * k + 3) = (Map.get 0 s.safety.resetCounts (4 * k + 3) + 1) % 2 ^ 32 ∧
    Map.get none t.safety.rises k = none ∧ t.safety.chans = s.safety.chans ∧ t.safety.inputFault = s.safety.inputFault ∧ DieKept s t) ∧
  (∀ s (k : Fin 4) (a b : Nat) r, Map.get none s.safety.rises k = some r → 2000000 < a → (b < 50000 ∨ 2000000 < b) →
    Does (.resetPulseFall k a b) s [.dict, .fresh, .health, .zdp, .safety, .regs .cnt, .regs .hl] fun t =>
    Map.get 0 t.safety.resetCounts (4 * k + 1) = (Map.get 0 s.safety.resetCounts (4 * k + 1) + 1) % 2 ^ 32 ∧
    Map.get none t.safety.rises k = none ∧ t.safety.chans = s.safety.chans ∧ t.safety.inputFault = s.safety.inputFault ∧ DieKept s t) ∧
  (∀ s (k : Fin 4) (a b : Nat) r, Map.get none s.safety.rises k = some r → a < 50000 → (b < 50000 ∨ 2000000 < b) →
    Does (.resetPulseFall k a b) s [.dict, .fresh, .health, .zdp, .safety, .regs .cnt, .regs .hl] fun t =>
    Map.get 0 t.safety.resetCounts (4 * k + 2) = (Map.get 0 s.safety.resetCounts (4 * k + 2) + 1) % 2 ^ 32 ∧
    Map.get none t.safety.rises k = none ∧ t.safety.chans = s.safety.chans ∧ t.safety.inputFault = s.safety.inputFault ∧ DieKept s t) ∧
  (∀ s (k : Fin 4), bitOf s.safety.srst k = true → exec (.resetStuckClear k) s = .next s) ∧
  (∀ s (k : Fin 4), bitOf s.safety.srst k = false → Does (.resetStuckClear k) s [.safety] fun t => bitOf t.safety.stuck k = false ∧
    (∀ b, b ≠ k.val → bitOf t.safety.stuck b = bitOf s.safety.stuck b) ∧ t.safety.chans = s.safety.chans ∧ DieKept s t)

/-- R30, R485, R488, R494: what a channel of the safety die watches. A lost hub, an azimuth or sector fault, a lost CA or POS status and a lasting
excursion are held in the channel, and trip the outputs that depend on them.
A clause on a corner that the rules leave open follows the choice of the model (log entry 58). -/
def Obligations.SafetyMonitors : Prop :=
  (∀ s (ch : Fin 2), s.safety.live = false → exec (.hubLost ch) s = .next s) ∧
  (∀ s (ch : Fin 2), s.safety.live = true → Does (.hubLost ch) s [.safety] fun t => (t.chan ch).hubLost = true ∧ LatchesKept s t ∧ DieKept s t ∧
    (∀ k : Fin 8, s.sp Obj.SO_FUNCTION k ≠ 0 → s.sp Obj.SO_HUB_LOSS k = 1 → bitOf (t.chan ch).trip k = true)) ∧
  (∀ s (thr : Fin 32) (ch : Fin 2), (s.safety.live && s.supervised (s.chan ch).zones thr) = false → exec (.azFault thr ch) s = .next s) ∧
  (∀ s (thr : Fin 32) (ch : Fin 2), (s.safety.live && s.supervised (s.chan ch).zones thr) = true → Does (.azFault thr ch) s [.safety] fun t =>
    bitOf (t.chan ch).azFault thr = true ∧ LatchesKept s t ∧ DieKept s t ∧ (∀ (k z : Fin 8), s.sp Obj.SO_FUNCTION k = 2 →
      bitOf (s.sp Obj.SO_THRUSTERS k) thr = true → bitOf (s.sp Obj.SO_ZONES k) z = true → bitOf (s.chan ch).zones z = true →
      (s.zoneSectors z).any (·.1 == thr.val) = true → bitOf (t.chan ch).trip k = true)) ∧
  (∀ s (thr : Fin 32) (ch : Fin 2), (s.safety.live && s.supervised (s.chan ch).zones thr && s.inForbidden ch thr) = false →
    exec (.sector thr ch) s = .next s) ∧
  (∀ s (thr : Fin 32) (ch : Fin 2), (s.safety.live && s.supervised (s.chan ch).zones thr && s.inForbidden ch thr) = true →
    Does (.sector thr ch) s [.safety] fun t => bitOf (t.chan ch).sector thr = true ∧ LatchesKept s t ∧ DieKept s t ∧
    (∀ (k z : Fin 8), s.sp Obj.SO_FUNCTION k = 2 → bitOf (s.sp Obj.SO_THRUSTERS k) thr = true → bitOf (s.sp Obj.SO_ZONES k) z = true →
      bitOf (s.chan ch).zones z = true → (s.zoneSectors z).any (·.1 == thr.val) = true → bitOf (t.chan ch).trip k = true)) ∧
  (∀ s (ch : Fin 2), s.safety.live = false → exec (.caTimeout ch) s = .next s) ∧
  (∀ s (ch : Fin 2), s.safety.live = true → Does (.caTimeout ch) s [.safety] fun t => (t.chan ch).caLost = true ∧ LatchesKept s t ∧ DieKept s t ∧
    (s.control = true → (t.chan ch).own ≠ 0 ∧ bitOf (t.chan ch).own 12 = true)) ∧
  (∀ s (ch : Fin 2), (s.safety.live && s.posAbove) = false → exec (.posPersist ch) s = .next s) ∧
  (∀ s (ch : Fin 2), (s.safety.live && s.posAbove) = true → Does (.posPersist ch) s [.safety] fun t => (t.chan ch).posRed = true ∧
    LatchesKept s t ∧ DieKept s t ∧ (s.control = true → bitOf (t.chan ch).own 13 = true)) ∧
  (∀ s (ch : Fin 2), s.safety.live = false → exec (.posTimeout ch) s = .next s) ∧
  (∀ s (ch : Fin 2), s.safety.live = true → Does (.posTimeout ch) s [.safety] fun t => (t.chan ch).posLost = true ∧ LatchesKept s t ∧ DieKept s t ∧
    (s.control = true → bitOf (t.chan ch).own 14 = true))


/-- R30, R232, R485, R488, R493, R498, R499, R500, R502: messages of the hub to the safety die. A message that is not accepted is dropped
and counted and changes nothing in the die; an accepted one has its effect, and none but CONFIG changes the configuration.
A clause on a corner that the rules leave open follows the choice of the model (log entry 58). -/
def Obligations.SafetyMessages : Prop :=
  (∀ s m la lb node skew ty c, (ty, c) ∈ dieMessages m la lb node skew → s.safety.live = false →
    Does c s [.safety, .regs .sm] fun t => t.safety = { s.safety with mail := s.mailLeft m.seq.toNat } ∧
    t.rd Reg.SM_DROPPED_DIE_DROPPED = s.rd Reg.SM_DROPPED_DIE_DROPPED) ∧
  (∀ s m la lb node skew ty c, (ty, c) ∈ dieMessages m la lb node skew → s.safety.live = true → s.dieAccepts ty m = false →
    Does c s [.safety, .regs .sm] fun t => t.safety = { s.safety with mail := s.mailLeft m.seq.toNat } ∧
    t.rd Reg.SM_DROPPED_DIE_DROPPED = min (2 ^ 16 - 1) (s.rd Reg.SM_DROPPED_DIE_DROPPED + 1)) ∧
  (∀ s m la lb, s.dieAccepts 1 m = true → Does (.hubHeartbeat m la lb) s [.dict, .fresh, .health, .zdp, .ports, .safety, .regs .cnt, .regs .hl, .regs .sm] fun t => t.safety.dieLast = some m.seq.toNat ∧
    (∀ c : Fin 2, (t.chan c).hubLost = false) ∧ t.safety.mail = s.mailLeft m.seq.toNat ∧ LatchesKept s t ∧ DieKept s t ∧
    (∀ c : Fin 2, (t.chan c).caLost = (s.chan c).caLost ∧ (t.chan c).posLost = (s.chan c).posLost)) ∧
  (∀ s m la lb, s.dieAccepts 2 m = true → (m.payload.length == 16 && crc32 (m.payload.take 12) == leAt m.payload 12 4) = true →
    Does (.caStatus m la lb) s [.dict, .fresh, .health, .zdp, .ports, .safety, .regs .cnt, .regs .hl, .regs .sm] fun t => t.safety.dieLast = some m.seq.toNat ∧ (∀ c : Fin 2, (t.chan c).caLost = false) ∧
    t.safety.ca = some ⟨leAt m.payload 4 1, leAt m.payload 7 1⟩ ∧ LatchesKept s t ∧ DieKept s t ∧
    (s.control = true → leAt m.payload 4 1 = 3 → (∀ c : Fin 2, bitOf (t.chan c).own 10 = true))) ∧
  (∀ s m la lb, s.dieAccepts 2 m = true → (m.payload.length == 16 && crc32 (m.payload.take 12) == leAt m.payload 12 4) = false →
    Does (.caStatus m la lb) s [.dict, .fresh, .health, .zdp, .ports, .safety, .regs .cnt, .regs .hl, .regs .sm] fun t => t.safety.dieLast = some m.seq.toNat ∧ t.safety.ca = s.safety.ca ∧
    (∀ c : Fin 2, (t.chan c).caLost = (s.chan c).caLost) ∧ LatchesKept s t ∧ DieKept s t) ∧
  (∀ s m la lb, s.dieAccepts 3 m = true → (m.payload.length == 20 && crc32 (m.payload.take 16) == leAt m.payload 16 4) = true →
    Does (.posStatus m la lb) s [.dict, .fresh, .health, .zdp, .ports, .safety, .regs .cnt, .regs .hl, .regs .sm] fun t => t.safety.dieLast = some m.seq.toNat ∧
    (∀ c : Fin 2, (t.chan c).posLost = false ∧ (t.chan c).posRed = ((s.chan c).posRed && t.posAbove)) ∧
    t.safety.pos = some ⟨leAt m.payload 4 4, leAt m.payload 8 4, leAt m.payload 12 1⟩ ∧ LatchesKept s t ∧ DieKept s t) ∧
  (∀ s m la lb, s.dieAccepts 3 m = true → (m.payload.length == 20 && crc32 (m.payload.take 16) == leAt m.payload 16 4) = false →
    Does (.posStatus m la lb) s [.dict, .fresh, .health, .zdp, .ports, .safety, .regs .cnt, .regs .hl, .regs .sm] fun t => t.safety.dieLast = some m.seq.toNat ∧ t.safety.pos = s.safety.pos ∧
    (∀ c : Fin 2, (t.chan c).posLost = (s.chan c).posLost ∧ (t.chan c).posRed = (s.chan c).posRed) ∧ LatchesKept s t ∧ DieKept s t) ∧
  (∀ s m la lb, s.dieAccepts 4 m = true → Does (.azimuth m la lb) s [.dict, .fresh, .health, .zdp, .ports, .safety, .regs .cnt, .regs .hl, .regs .sm] fun t => t.safety.dieLast = some m.seq.toNat ∧
    (∀ i, i < m.payload.length / 8 → (∀ j, i < j → j < m.payload.length / 8 → leAt m.payload (8 * j) 1 ≠ leAt m.payload (8 * i) 1) →
      Map.get ⟨0, 0, false, false⟩ t.safety.az (leAt m.payload (8 * i) 1) =
        ⟨leAt m.payload (8 * i + 2) 2, leAt m.payload (8 * i + 4) 2, bitOf (leAt m.payload (8 * i + 1) 1) 0,
         bitOf (leAt m.payload (8 * i + 1) 1) 1⟩) ∧
    (∀ (c : Fin 2) (thr : Fin 32), (bitOf (t.chan c).azFault thr = true → bitOf (s.chan c).azFault thr = true) ∧
      (bitOf (t.chan c).sector thr = true → bitOf (s.chan c).sector thr = true)) ∧ LatchesKept s t ∧ DieKept s t) ∧
  (∀ s m la lb, s.dieAccepts 5 m = true → Does (.tripRequest m la lb) s [.dict, .fresh, .health, .zdp, .ports, .safety, .regs .cnt, .regs .hl, .regs .sm] fun t => t.safety.dieLast = some m.seq.toNat ∧
    t.safety.reqSf1 = leAt m.payload 0 4 ∧ t.safety.reqZones = leAt m.payload 4 1 ∧ t.safety.reqSf3 = (leAt m.payload 5 1 != 0) ∧
    LatchesKept s t ∧ DieKept s t ∧
    (∀ (c : Fin 2) (k : Fin 8), s.sp Obj.SO_FUNCTION k = 1 → leAt m.payload 0 4 &&& s.sp Obj.SO_THRUSTERS k ≠ 0 →
      bitOf (t.chan c).trip k = true ∧ bitOf (Map.get 0 (t.chan c).lcause k) 3 = true) ∧
    (∀ (c : Fin 2) (z : Fin 8), bitOf (leAt m.payload 4 1) z = true → bitOf (t.chan c).zones z = true)) ∧
  (∀ s m la lb node, s.dieAccepts 6 m = true → Does (.guardRx m la lb node) s [.dict, .fresh, .health, .zdp, .ports, .safety, .regs .cnt, .regs .hl, .regs .sm] fun t => t.safety.dieLast = some m.seq.toNat ∧
    t.safety.mail = s.mailLeft m.seq.toNat ∧ LatchesKept s t ∧ DieKept s t) ∧
  (∀ s m la lb node u b k, s.dieAccepts 6 m = true → u = s.dieReady m la lb → b = (m.payload.drop 12).take 56 →
    ((List.range 16).find? fun i => u.isRx i && u.sp Obj.GUARD_CONN_ID i == leAt b 0 4) = some k →
    b ≠ (Map.get {} (u.chan 0).conns k).last →
    u.judgePdu 0 k (leAt m.payload 0 1) (node.map (·.toNat)) (leAt m.payload 8 4 * 1000000000 + leAt m.payload 4 4) la b = 0 →
    Does (.guardRx m la lb node) s [.dict, .fresh, .health, .zdp, .ports, .safety, .regs .cnt, .regs .hl, .regs .sm] fun t => (Map.get {} (t.chan 0).conns k).last = b ∧
    (Map.get {} (t.chan 0).conns k).lastSeq = leAt b 4 2 ∧
    ((Map.get {} (u.chan 0).conns k).st = 1 → (Map.get {} (t.chan 0).conns k).st = 1) ∧
    ((Map.get {} (u.chan 0).conns k).st = 2 → (Map.get {} (t.chan 0).conns k).st = 0 ∧ (Map.get {} (t.chan 0).conns k).good = 1) ∧
    ((Map.get {} (u.chan 0).conns k).st = 0 → 2 ≤ (Map.get {} (u.chan 0).conns k).good → (Map.get {} (t.chan 0).conns k).st = 1)) ∧
  (∀ s m la lb node u b k, s.dieAccepts 6 m = true → u = s.dieReady m la lb → b = (m.payload.drop 12).take 56 →
    ((List.range 16).find? fun i => u.isRx i && u.sp Obj.GUARD_CONN_ID i == leAt b 0 4) = some k →
    u.judgePdu 0 k (leAt m.payload 0 1) (node.map (·.toNat)) (leAt m.payload 8 4 * 1000000000 + leAt m.payload 4 4) la b ≠ 0 →
    (Map.get {} (u.chan 0).conns k).st ≠ 1 → Does (.guardRx m la lb node) s [.dict, .fresh, .health, .zdp, .ports, .safety, .regs .cnt, .regs .hl, .regs .sm] fun t =>
    (Map.get {} (t.chan 0).conns k).last = (Map.get {} (u.chan 0).conns k).last ∧
    (Map.get {} (t.chan 0).conns k).st = (Map.get {} (u.chan 0).conns k).st) ∧
  (∀ s m la lb skew, s.dieAccepts 7 m = true → Does (.config m la lb skew) s [.dict, .fresh, .health, .zdp, .ports, .safety, .regs .cnt, .regs .hl, .regs .sm] fun t => t.safety.dieLast = some m.seq.toNat ∧
    t.safety.cfg = readImage m.payload.length m.payload ∧ t.safety.ccvA = safetyCrc m.payload ∧
    t.safety.ccvB = safetyCrc m.payload ^^^ skew.toNat ∧ t.safety.session = s.safety.session ∧ t.safety.hash = s.safety.hash ∧
    t.safety.log = s.safety.log ∧ LatchesKept s t ∧
    ((s.safety.session.isNone && s.safety.state != 6) = false → t.safety.state = s.safety.state) ∧
    ((s.safety.session.isNone && s.safety.state != 6) = true → t.safety.state = t.verdict))

/-- R477, R486, R493, R496, R497, R500, R509: the mailbox and the Guard connections. The hub sends what SM_TX holds, receives GUARD_TX and
STATUS in order or counts them as dropped, and mirrors the die's outputs, zones and state.
A clause on a corner that the rules leave open follows the choice of the model (log entries 34 and 58). -/
def Obligations.SafetyMailbox : Prop :=
  (∀ s, Does .smHb s [.safety] fun t => (t.safety.mail.getLast?.map fun x => (x.1, x.2.seq.toNat, x.2.payload)) = some (1, s.safety.hubSeq % 2 ^ 32, []) ∧
    t.safety.mail.length = s.safety.mail.length + 1 ∧ t.safety.hubSeq = (s.safety.hubSeq + 1) % 2 ^ 32 ∧ t.safety.chans = s.safety.chans ∧
    DieKept s t) ∧
  (∀ s, (s.flag Reg.SM_STATUS_TX_BUSY || decide (4060 < s.rd Reg.SM_TX_LEN_LEN)) = true → Does .smSend s [.regs .sm] fun t =>
    t.flag Reg.SM_STATUS_SEND_IGNORED = true ∧ t.flag Reg.SM_STATUS_TX_BUSY = s.flag Reg.SM_STATUS_TX_BUSY) ∧
  (∀ s, s.flag Reg.SM_STATUS_TX_BUSY = false → s.rd Reg.SM_TX_LEN_LEN ≤ 4060 → Does .smSend s [.safety, .regs .sm] fun t =>
    (t.safety.mail.getLast?.map fun x => (x.1, x.2.payload.length)) = some (s.rd Reg.SM_TX_DATA 0 % 256, s.rd Reg.SM_TX_LEN_LEN) ∧
    (t.safety.mail.getLast?.map fun x => (x.2.flags.toNat, x.2.seq.toNat)) =
      some (s.rd Reg.SM_TX_DATA 0 / 256 % 256, s.rd Reg.SM_TX_DATA 1 % 2 ^ 32) ∧
    t.safety.mail.length = s.safety.mail.length + 1 ∧ t.flag Reg.SM_STATUS_TX_BUSY = true ∧ t.safety.chans = s.safety.chans ∧ DieKept s t) ∧
  (∀ s, Does .smRxAck s [.regs .sm] fun t => t.flag Reg.SM_STATUS_RX_VALID = false ∧ t.safety = s.safety ∧ RegsBut [Reg.SM_STATUS_RX_VALID.key 0 0] s t) ∧
  (∀ s (at_ : Nat), s.safety.statusAt = some at_ → s.elapsed at_ 5000000 = false → exec .smDead s = .next s) ∧
  (∀ s, (s.safety.statusAt = none ∨ (s.safety.statusAt.any fun x => s.elapsed x 5000000) = true) → Does .smDead s [.regs .sm] fun t =>
    t.flag Reg.SM_STATUS_ALIVE = false ∧ t.flag Reg.SM_IRQ_DEAD = true ∧ t.safety = s.safety) ∧
  (∀ s ok, s.safety.guardTx = [] → exec (.guardTx ok) s = .next s) ∧
  (∀ s ok g r, s.safety.guardTx = g :: r → s.hubAccepts ok g.seq = false → Does (.guardTx ok) s [.safety, .regs .sm] fun t => t.safety.guardTx = r ∧
    t.safety.guardOut = s.safety.guardOut ∧ t.rd Reg.SM_DROPPED_HUB_DROPPED = min (2 ^ 16 - 1) (s.rd Reg.SM_DROPPED_HUB_DROPPED + 1) ∧
    t.safety.hubLast = s.safety.hubLast) ∧
  (∀ s ok g r, s.safety.guardTx = g :: r → s.hubAccepts ok g.seq = true → Does (.guardTx ok) s [.safety, .regs .sm] fun t => t.safety.guardTx = r ∧
    t.safety.guardOut = s.safety.guardOut ++ [g] ∧ t.safety.hubLast = some g.seq ∧ t.safety.chans = s.safety.chans ∧
    (s.flag Reg.SM_STATUS_RX_VALID = true → t.rd Reg.SM_RX_LEN_LEN = s.rd Reg.SM_RX_LEN_LEN) ∧
    (s.flag Reg.SM_STATUS_RX_VALID = false → t.flag Reg.SM_STATUS_RX_VALID = true ∧ t.flag Reg.SM_IRQ_RX = true ∧
      t.rd Reg.SM_RX_LEN_LEN = 60 ∧ t.rd Reg.SM_RX_DATA 0 = 60 * 65536 + 9 ∧ t.rd Reg.SM_RX_DATA 1 = g.seq % 2 ^ 32 ∧
      t.rd Reg.SM_RX_DATA 4 = g.paths % 2 ^ 32)) ∧
  (∀ s ok, s.safety.live = false → exec (.safetyStatus ok) s = .next s) ∧
  (∀ s ok, s.safety.live = true → s.hubAccepts ok s.safety.dieSeq = false → Does (.safetyStatus ok) s [.dict, .safety, .regs .le, .regs .sm] fun t =>
    t.rd Reg.SM_DROPPED_HUB_DROPPED = min (2 ^ 16 - 1) (s.rd Reg.SM_DROPPED_HUB_DROPPED + 1) ∧
    t.safety = { s.safety with dieSeq := (s.safety.dieSeq + 1) % 2 ^ 32 } ∧ t.rd Reg.SM_OUTPUTS_ENERGIZED = s.rd Reg.SM_OUTPUTS_ENERGIZED) ∧
  (∀ s ok, s.safety.live = true → s.hubAccepts ok s.safety.dieSeq = true → Does (.safetyStatus ok) s [.dict, .safety, .regs .le, .regs .sm] fun t =>
    t.safety.hubLast = some s.safety.dieSeq ∧ t.safety.dieSeq = (s.safety.dieSeq + 1) % 2 ^ 32 ∧ t.safety.statusAt = some s.tb3 ∧
    t.flag Reg.SM_STATUS_ALIVE = true ∧ t.rd Reg.SM_OUTPUTS_ENERGIZED = s.energized % 2 ^ 8 ∧
    t.rd Reg.SM_OUTPUTS_TRIPPED = ((s.chan 0).trip ||| (s.chan 1).trip) % 2 ^ 8 ∧ t.rd Reg.SM_OUTPUTS_FAULTED = s.safety.faulted % 2 ^ 8 ∧
    t.rd Reg.SM_ZONES_ACTIVE = ((s.chan 0).zones ||| (s.chan 1).zones) % 2 ^ 8 ∧ t.rd Reg.SM_CAUSES_CAUSES = s.dieCauses % 2 ^ 32 ∧
    t.rd Reg.SM_CCV_CCV = s.safety.ccvA % 2 ^ 32 ∧ t.rd Reg.SM_STATUS_STATE = s.safety.state % 2 ^ 3 ∧
    (s.safety.state = 6 → s.rd Reg.SM_STATUS_STATE ≠ 6 → t.flag Reg.SM_IRQ_FAULT = true) ∧
    (s.safety.state = 5 → s.rd Reg.SM_STATUS_STATE ≠ 5 → s.logged t 9) ∧ t.safety.chans = s.safety.chans ∧ t.safety.state = s.safety.state) ∧
  (∀ s (c : Fin 16) (la lb : Nat), (s.safety.live && s.sp Obj.GUARD_DIR c == 2 && (s.chan 0).timeOk && (s.chan 1).timeOk &&
      s.guardPayload 0 c == s.guardPayload 1 c) = false → exec (.guardTxPeriod c la lb) s = .next s) ∧
  (∀ s (c : Fin 16) (la lb : Nat), (s.safety.live && s.sp Obj.GUARD_DIR c == 2 && (s.chan 0).timeOk && (s.chan 1).timeOk &&
      s.guardPayload 0 c == s.guardPayload 1 c) = true → Does (.guardTxPeriod c la lb) s [.safety] fun t =>
    Map.get 0 t.safety.txSeq c = (Map.get 0 s.safety.txSeq c + 1) % 65536 ∧ t.safety.dieSeq = (s.safety.dieSeq + 1) % 2 ^ 32 ∧
    t.safety.guardTx.length = s.safety.guardTx.length + 1 ∧
    (t.safety.guardTx.getLast?.map fun g => (g.seq, g.paths, g.pdu.length)) = some (s.safety.dieSeq, s.sp Obj.GUARD_PATHS c, 56) ∧
    (t.safety.guardTx.getLast?.map fun g => leAt g.pdu 0 4) = some (s.sp Obj.GUARD_CONN_ID c % 2 ^ 32) ∧
    (t.safety.guardTx.getLast?.map fun g => (leAt g.pdu 4 2, leAt g.pdu 52 4)) =
      some (Map.get 0 s.safety.txSeq c % 65536, (t.safety.guardTx.getLast?.map fun g => safetyCrc (g.pdu.take 52)).getD 0 % 2 ^ 32) ∧
    t.safety.chans = s.safety.chans ∧ DieKept s t) ∧
  (∀ s (c : Fin 16) (ch : Fin 2), (s.safety.live && s.isRx c && (Map.get {} (s.chan ch).conns c).st == 1) = false →
    exec (.guardWatchdog c ch) s = .next s) ∧
  (∀ s (c : Fin 16) (ch : Fin 2), (s.safety.live && s.isRx c && (Map.get {} (s.chan ch).conns c).st == 1) = true →
    Does (.guardWatchdog c ch) s [.dict, .fresh, .health, .zdp, .ports, .safety, .regs .cnt, .regs .hl] fun t => (Map.get {} (t.chan ch).conns c).st = 2 ∧ (Map.get {} (t.chan ch).conns c).good = 0 ∧
    (∀ d : Fin 16, d ≠ c → Map.get {} (t.chan ch).conns d = Map.get {} (s.chan ch).conns d) ∧
    (∀ e : Fin 2, e ≠ ch → (t.chan e).conns = (s.chan e).conns) ∧ LatchesKept s t ∧ DieKept s t)


/-- R31, R504, R505, R506, R507, R508, R509: sessions of the safety configuration. An opening is refused under the reason of the first check
that it fails, or opens the session; a session ends by its close, its idle time, a seal or a password reset; each is logged.
A clause on a corner that the rules leave open follows the choice of the model (log entries 58 and 69). -/
def Obligations.SafetySessions : Prop :=
  (∀ s o, o.cls ≠ 2 → Does (.sessionOpen o) s [.outcome] fun t => t.outcome = 3) ∧
  (∀ s o, o.cls = 2 → o.value.length ≠ 32 → Does (.sessionOpen o) s [.outcome] fun t => t.outcome = 6) ∧
  (∀ s o, o.cls = 2 → o.value.length = 32 → (decide (1 ≤ leAt o.value 0 1 ∧ leAt o.value 0 1 ≤ 3) && leAt o.value 1 3 == 0 &&
      utf8Ok 13 (((o.value.drop 4).take 12).filter (· != 0))) = false →
    Does (.sessionOpen o) s [.outcome] fun t => t.outcome = 13) ∧
  (∀ s o, o.cls = 2 → o.value.length = 32 → (decide (1 ≤ leAt o.value 0 1 ∧ leAt o.value 0 1 ≤ 3) && leAt o.value 1 3 == 0 &&
      utf8Ok 13 (((o.value.drop 4).take 12).filter (· != 0))) = true →
    (s.safety.blocked.isSome = true ∨ s.safety.session.isSome = true ∨ s.responseRight o.value = false) →
    Does (.sessionOpen o) s [.dict, .outcome, .fresh, .health, .zdp, .ports, .safety, .regs .cnt, .regs .hl, .regs .sm] fun t => t.outcome = 12 ∧ t.safety.challenge = none ∧ t.safety.session = s.safety.session ∧
    t.safety.state = s.safety.state ∧ t.safety.chans = s.safety.chans ∧ s.logged t 2 ∧
    (s.responseRight o.value = true ∨ s.safety.blocked.isSome = true → t.safety.wrong = s.safety.wrong ∧
      t.safety.blocked = s.safety.blocked)) ∧
  (∀ s o, o.cls = 2 → o.value.length = 32 → (decide (1 ≤ leAt o.value 0 1 ∧ leAt o.value 0 1 ≤ 3) && leAt o.value 1 3 == 0 &&
      utf8Ok 13 (((o.value.drop 4).take 12).filter (· != 0))) = true → s.safety.blocked = none → s.responseRight o.value = false →
    Does (.sessionOpen o) s [.dict, .outcome, .fresh, .health, .zdp, .ports, .safety, .regs .cnt, .regs .hl, .regs .sm] fun t => t.outcome = 12 ∧ t.safety.session = s.safety.session ∧
    (4 ≤ (s.safety.wrong.filter fun x => !s.elapsed x 600000000000).length → t.safety.blocked = some s.tb3 ∧ t.safety.wrong = []) ∧
    ((s.safety.wrong.filter fun x => !s.elapsed x 600000000000).length < 4 → t.safety.blocked = none ∧
      t.safety.wrong = s.tb3 :: s.safety.wrong.filter fun x => !s.elapsed x 600000000000)) ∧
  (∀ s o, o.cls = 2 → o.value.length = 32 → (decide (1 ≤ leAt o.value 0 1 ∧ leAt o.value 0 1 ≤ 3) && leAt o.value 1 3 == 0 &&
      utf8Ok 13 (((o.value.drop 4).take 12).filter (· != 0))) = true → s.safety.blocked = none → s.safety.session = none →
    s.responseRight o.value = true → ((leAt o.value 0 1 == 3) != (s.safety.state == 5) || (leAt o.value 0 1 != 2 && s.claimBusy)) = true →
    Does (.sessionOpen o) s [.dict, .outcome, .fresh, .health, .zdp, .ports, .safety, .regs .cnt, .regs .hl, .regs .sm] fun t => t.outcome = 15 ∧ t.safety.session = none ∧ t.safety.challenge = none ∧
    t.safety.state = s.safety.state ∧ s.logged t 2) ∧
  (∀ s o, o.cls = 2 → o.value.length = 32 → (decide (1 ≤ leAt o.value 0 1 ∧ leAt o.value 0 1 ≤ 3) && leAt o.value 1 3 == 0 &&
      utf8Ok 13 (((o.value.drop 4).take 12).filter (· != 0))) = true → s.safety.blocked = none → s.safety.session = none →
    s.responseRight o.value = true → ((leAt o.value 0 1 == 3) != (s.safety.state == 5) || (leAt o.value 0 1 != 2 && s.claimBusy)) = false →
    Does (.sessionOpen o) s [.dict, .outcome, .fresh, .health, .zdp, .ports, .safety, .regs .cnt, .regs .hl, .regs .sm] fun t => t.outcome = 0 ∧ t.safety.challenge = none ∧ t.configSent ∧ s.logged t 1 ∧
    (t.safety.session.map fun x => (x.kind, x.port, x.src, x.before)) = some (leAt o.value 0 1, o.port, orderSrc o, s.safety.state) ∧
    t.safety.state = (if s.safety.state = 6 then 6 else if leAt o.value 0 1 = 1 then 2 else if leAt o.value 0 1 = 2 then 3 else 4) ∧
    (leAt o.value 0 1 ≠ 2 → t.energized = 0) ∧ LatchesKept s t ∧ t.safety.cfg = s.safety.cfg ∧ t.safety.hash = s.safety.hash) ∧
  (∀ s, s.safety.challenge = none → exec .challengeExpiry s = .next s) ∧
  (∀ s b (at_ : Nat), s.safety.challenge = some (b, at_) → Does .challengeExpiry s [.safety] fun t =>
    t.safety.challenge = (if s.elapsed at_ 60000000000 then none else some (b, at_)) ∧ t.safety.session = s.safety.session ∧
    t.safety.chans = s.safety.chans ∧ t.safety.state = s.safety.state) ∧
  (∀ s, s.safety.blocked = none → exec .openBlockExpiry s = .next s) ∧
  (∀ s (at_ : Nat), s.safety.blocked = some at_ → Does .openBlockExpiry s [.safety] fun t =>
    t.safety.blocked = (if s.elapsed at_ 900000000000 then none else some at_) ∧ DieKept s t ∧ t.safety.chans = s.safety.chans) ∧
  (∀ s o, o.value.length ≠ 1 → Does (.sessionClose o) s [.outcome] fun t => t.outcome = 6) ∧
  (∀ s o, o.value.length = 1 → s.safety.session = none → Does (.sessionClose o) s [.outcome] fun t => t.outcome = 15) ∧
  (∀ s o x, o.value.length = 1 → s.safety.session = some x → Does (.sessionClose o) s [.dict, .outcome, .safety, .regs .sm] fun t => t.outcome = 0 ∧
    t.safety.session = none ∧ t.safety.test = [] ∧ t.safety.state = (if s.safety.state = 6 then 6 else if x.kind = 2 then 1 else if x.changed then 0 else x.before) ∧
    t.safety.unsealed = (s.safety.unsealed || (x.kind != 2 && x.changed)) ∧ s.logged t 3 ∧ t.configSent ∧ LatchesKept s t ∧
    t.safety.cfg = s.safety.cfg) ∧
  (∀ s, s.safety.session = none → exec .sessionIdleTimeout s = .next s) ∧
  (∀ s x, s.safety.session = some x → s.elapsed x.lastOrder 600000000000 = false → exec .sessionIdleTimeout s = .next s) ∧
  (∀ s x, s.safety.session = some x → s.elapsed x.lastOrder 600000000000 = true → Does .sessionIdleTimeout s [.dict, .safety, .regs .sm] fun t =>
    t.safety.session = none ∧ t.safety.state = (if s.safety.state = 6 then 6 else if x.kind = 2 then 1 else if x.changed then 0 else x.before) ∧
    s.logged t 3 ∧ t.configSent ∧ LatchesKept s t ∧ t.safety.cfg = s.safety.cfg) ∧
  (∀ s o, o.value.length ≠ 4 → Does (.seal o) s [.outcome] fun t => t.outcome = 6) ∧
  (∀ s o, o.value.length = 4 → (s.safety.hash = [] ∨ s.safety.ccvA ≠ leAt o.value 0 4 ∨ s.safety.ccvB ≠ leAt o.value 0 4) →
    Does (.seal o) s [.outcome] fun t => t.outcome = 14) ∧
  (∀ s o, o.value.length = 4 → s.safety.hash ≠ [] → s.safety.ccvA = leAt o.value 0 4 → s.safety.ccvB = leAt o.value 0 4 →
    s.inSession o [1, 3] = false → Does (.seal o) s [.outcome] fun t => t.outcome = 15) ∧
  (∀ s o, o.value.length = 4 → s.safety.hash ≠ [] → s.safety.ccvA = leAt o.value 0 4 → s.safety.ccvB = leAt o.value 0 4 →
    s.inSession o [1, 3] = true → Does (.seal o) s [.dict, .outcome, .fresh, .health, .zdp, .ports, .safety, .regs .cnt, .regs .hl, .regs .sm] fun t => t.outcome = 0 ∧ t.safety.session = none ∧ t.safety.hasSeal = true ∧
    t.safety.unsealed = false ∧ t.safety.state = (if s.safety.state = 6 then 6 else 1) ∧ t.objN Obj.SAFE_CCV_SEALED = leAt o.value 0 4 ∧
    s.logged t 5 ∧ t.configSent ∧ t.flag Reg.HL_IRQ_ALARM = true ∧ LatchesKept s t ∧ t.safety.cfg = s.safety.cfg) ∧
  (∀ s o, o.value.length ≠ 48 → Does (.password o) s [.outcome] fun t => t.outcome = 6) ∧
  (∀ s o, o.value.length = 48 → s.inSession o [1, 3] = false → Does (.password o) s [.outcome] fun t => t.outcome = 15) ∧
  (∀ s o, o.value.length = 48 → s.inSession o [1, 3] = true → Does (.password o) s [.dict, .outcome, .safety, .regs .sm] fun t => t.outcome = 0 ∧
    t.safety.salt = o.value.take 16 ∧ t.safety.hash = o.value.drop 16 ∧ t.objN Obj.SAFE_PASSWORD_SET = 1 ∧
    t.safety.session = (s.safety.session.map fun x => { x with lastOrder := s.tb3 }) ∧ s.logged t 6 ∧ t.configSent ∧
    t.safety.chans = s.safety.chans ∧ t.safety.state = s.safety.state) ∧
  (∀ s o, o.value.length ≠ 1 → Does (.passwordReset o) s [.outcome] fun t => t.outcome = 6) ∧
  (∀ s o, o.value.length = 1 → o.cls ≠ 2 → Does (.passwordReset o) s [.outcome] fun t => t.outcome = 3) ∧
  (∀ s o, o.value.length = 1 → o.cls = 2 → leAt o.value 0 1 ≠ 1 → Does (.passwordReset o) s [.outcome] fun t => t.outcome = 13) ∧
  (∀ s o, o.value.length = 1 → o.cls = 2 → leAt o.value 0 1 = 1 → s.bench = false →
    Does (.passwordReset o) s [.outcome] fun t => t.outcome = 15) ∧
  (∀ s o, o.value.length = 1 → o.cls = 2 → leAt o.value 0 1 = 1 → s.bench = true → Does (.passwordReset o) s [.dict, .outcome, .safety, .regs .sm] fun t => t.outcome = 0 ∧
    t.safety.salt = [] ∧ t.safety.hash = [] ∧ t.safety.session = none ∧ t.safety.hasSeal = false ∧ t.safety.unsealed = true ∧
    t.safety.state = (if s.safety.state = 6 then 6 else 0) ∧ t.objN Obj.SAFE_PASSWORD_SET = 0 ∧ t.energized = 0 ∧ s.logged t 8 ∧
    t.configSent ∧ LatchesKept s t) ∧
  (∀ s o, o.value.length ≠ 32 → Does (.testDemand o) s [.outcome] fun t => t.outcome = 6) ∧
  (∀ s o, o.value.length = 32 → s.inSession o [2] = false → Does (.testDemand o) s [.outcome] fun t => t.outcome = 15) ∧
  (∀ s o, o.value.length = 32 → s.inSession o [2] = true → Does (.testDemand o) s [.dict, .outcome, .safety, .regs .sm] fun t => t.outcome = 0 ∧
    t.safety.test = (if o.value.all (· == 0) then [] else o.value) ∧ s.logged t 7 ∧ t.configSent ∧ LatchesKept s t ∧
    (s.safety.live = true → s.safety.state = 3 → o.value.all (· == 0) = false → (∀ (c : Fin 2) (k : Fin 8), s.sp Obj.SO_FUNCTION k = 1 →
      leAt o.value 4 4 &&& s.sp Obj.SO_THRUSTERS k ≠ 0 → bitOf (t.chan c).trip k = true ∧
      bitOf (Map.get 0 (t.chan c).lcause k) 21 = true)) ∧ t.safety.state = s.safety.state ∧ t.safety.cfg = s.safety.cfg)


/-- R432, R512, R514, R515, R516, R518, R520, R523, R524: transients, permanent faults, bank spares and the patrol scrub. A transient counts in
the window of its unit and retires it past the threshold; a retirement changes the records of the health block and the block that owns the
unit.
A clause on a corner that the rules leave open follows the choice of the model (log entries 53 and 73). -/
def Obligations.UnitFaults : Prop :=
  (∀ s (slot : Fin 456) (corrected : Bool), s.retired slot = true → Does (.transient slot corrected) s [.health] fun t =>
    (t.unit slot).sinceTest = true ∧ (t.unit slot).state = (s.unit slot).state ∧ (t.unit slot).window = (s.unit slot).window) ∧
  (∀ s (slot : Fin 456) (corrected : Bool), s.retired slot = false → kindOf slot ≠ 1 → windowSum (windowInc (s.unit slot).window) ≤ s.threshold slot false →
    Does (.transient slot corrected) s [.health, .regs .cnt] fun t => (t.unit slot).window = windowInc (s.unit slot).window ∧
    (t.unit slot).window2 = (s.unit slot).window2 ∧ (t.unit slot).state = (s.unit slot).state ∧
    (∀ k : Fin 456, k ≠ slot → t.unit k = s.unit k) ∧ t.health.history = s.health.history) ∧
  (∀ s (slot : Fin 456) (corrected : Bool), s.retired slot = false → kindOf slot = 1 → windowSum (windowInc (if corrected then (s.unit slot).window2
      else (s.unit slot).window)) ≤ s.threshold slot corrected →
    Does (.transient slot corrected) s [.health, .regs .cnt] fun t =>
    (t.unit slot).window = (if corrected then (s.unit slot).window else windowInc (s.unit slot).window) ∧
    (t.unit slot).window2 = (if corrected then windowInc (s.unit slot).window2 else (s.unit slot).window2) ∧
    (t.unit slot).state = (s.unit slot).state ∧ (∀ k : Fin 456, k ≠ slot → t.unit k = s.unit k) ∧ t.health.history = s.health.history) ∧
  (∀ s (slot : Fin 456) (corrected : Bool) second, s.retired slot = false → second = (corrected && kindOf slot == 1) →
    s.threshold slot second < windowSum (windowInc (if second then (s.unit slot).window2 else (s.unit slot).window)) →
    (kindOf slot ≠ 2 ∨ s.freeSpare ≠ none) → Does (.transient slot corrected) s (ownerParts (kindOf slot)) fun t => t.retired slot = true ∧
    (t.unit slot).cause = 2 ∧ t.flag Reg.HL_IRQ_RETIRED = true ∧ t.flag Reg.HL_IRQ_ALARM = true) ∧
  (∀ s (slot : Fin 456), Does (.subintervalRoll slot) s [.health] fun t => (t.unit slot).window = (0 :: (s.unit slot).window).take 16 ∧
    (t.unit slot).window2 = (0 :: (s.unit slot).window2).take 16 ∧ (t.unit slot).state = (s.unit slot).state ∧
    (∀ k : Fin 456, k ≠ slot → t.unit k = s.unit k) ∧ t.health.jobs = s.health.jobs) ∧
  (∀ s (slot : Fin 456) cause, s.retired slot = true → s.testJob slot = none → Does (.permanentFault slot cause) s [.health] fun t =>
    (t.unit slot).state = 3 ∧ (t.unit slot).testedAt = none ∧ (t.unit slot).retireCount = (s.unit slot).retireCount) ∧
  (∀ s (slot : Fin 456) cause, s.retired slot = true → (s.testJob slot).isSome = true →
    Does (.permanentFault slot cause) s [.health, .regs .hl] fun t => (t.unit slot).state = 3 ∧ (t.unit slot).testedAt = none ∧
    t.testJob slot = none ∧ t.rd Reg.HL_ACT_STATUS_RESULT = 2) ∧
  (∀ s (slot : Fin 456) cause, s.retired slot = false → (kindOf slot ≠ 2 ∨ s.freeSpare ≠ none) →
    Does (.permanentFault slot cause) s (ownerParts (kindOf slot)) fun t => t.retired slot = true ∧ (t.unit slot).cause = causeCode cause ∧
    (t.unit slot).retireCount = min 255 ((s.unit slot).retireCount + 1) ∧ t.testJob slot = none ∧ t.flag Reg.HL_IRQ_RETIRED = true ∧
    t.flag Reg.HL_IRQ_ALARM = true) ∧
  (∀ s (slot : Fin 456) cause, s.retired slot = false → kindOf slot = 2 → s.freeSpare = none → (s.unit slot).spare = none →
    s.copyingOut (instOf slot) = none → s.hub.bankRecovery = false → s.dip = false → s.health.held = [] → s.health.overflow = [] →
    s.hub.held = false → s.subsOf 0xB810 1 = [] → Does (.permanentFault slot cause) s Part.all fun t => t.retired slot = true ∧ t.hub.held = true ∧
    t.health.exhausted = true) ∧
  (∀ s cause, s.retired 455 = true → exec (.caskFault cause) s = .next s) ∧
  (∀ s cause, s.retired 455 = false → Does (.caskFault cause) s [.dict, .fresh, .health, .zdp, .ports, .journal, .regs .cnt, .regs .hl, .regs .je] fun t => t.retired 455 = true ∧ (t.unit 455).cause = causeCode cause ∧
    t.flag Reg.JE_IRQ_CASK_FAULT = true ∧ t.flag Reg.HL_IRQ_RETIRED = true ∧ t.journal.writing = []) ∧
  (∀ s (n : Nat) (bad : Bool), s.retired 455 = true → exec (.caskReadThrough n bad) s = .next s) ∧
  (∀ s (n : Nat), s.retired 455 = false → windowSum (s.unit 455).window + n ≤ s.threshold 455 false →
    Does (.caskReadThrough n false) s [.health, .regs .cnt] fun t => windowSum (t.unit 455).window = windowSum (s.unit 455).window + n ∧
    (t.unit 455).state = (s.unit 455).state ∧ (∀ k : Fin 455, t.unit k = s.unit k)) ∧
  (∀ s (n : Nat), s.retired 455 = false → Does (.caskReadThrough n true) s (ownerParts 11) fun t => t.retired 455 = true ∧
    t.flag Reg.JE_IRQ_CASK_FAULT = true ∧ t.flag Reg.HL_IRQ_RETIRED = true) ∧
  (∀ s (bank : Fin 64) poisoned, s.copyingOut bank = none → exec (.bankSpareCopyDone bank poisoned) s = .next s) ∧
  (∀ s (bank : Fin 64) poisoned (k : Nat) retiring, s.copyingOut bank = some (k, retiring) → Does (.bankSpareCopyDone bank poisoned) s [.poisoned, .fresh, .health, .regs .hl] fun t =>
    (t.unit (bankSlot bank)).spare = some k ∧ t.copyingOut bank = none ∧ (poisoned.all fun w => t.poisoned.contains (w.toNat / 8 * 8)) = true ∧
    (s.poisoned.all fun w => t.poisoned.contains w) = true ∧ (t.unit (bankSlot bank)).state = (s.unit (bankSlot bank)).state ∧
    (retiring = true → t.flag Reg.HL_IRQ_SPARED = true)) ∧
  (∀ s (bank : Fin 64), s.copyingBack bank = none → exec (.bankCopyBackDone bank) s = .next s) ∧
  (∀ s (bank : Fin 64), s.copyingBack bank = some none → Does (.bankCopyBackDone bank) s [.fresh, .health, .regs .hl] fun t => (t.unit (bankSlot bank)).spare = none ∧
    (t.unit (bankSlot bank)).state = (s.unit (bankSlot bank)).state ∧ t.copyingBack bank = none) ∧
  (∀ s (bank : Fin 64) by_, s.copyingBack bank = some (some by_) → Does (.bankCopyBackDone bank) s [.fresh, .health, .regs .hl] fun t =>
    (t.unit (bankSlot bank)).spare = none ∧ (t.unit (bankSlot bank)).state = 0 ∧ t.rd Reg.HL_ACT_STATUS_RESULT = 0 ∧ t.copyingBack bank = none ∧
    (s.retired (bankSlot bank) = true → t.flag Reg.HL_IRQ_RETURNED = true)) ∧
  (∀ s, Does .scrubNow s [.health] fun t => t.health = { s.health with scrubbing := true }) ∧
  (∀ s, Does (.scrubPass false) s [.health] fun t => t.health = { s.health with scrubbing := true }) ∧
  (∀ s, s.health.scrubbing = false → exec (.scrubPass true) s = .next s) ∧
  (∀ s, s.health.scrubbing = true → Does (.scrubPass true) s [.health, .regs .hl] fun t => t.health = { s.health with scrubbing := false } ∧
    t.rd Reg.HL_SCRUB_PASSES = (s.rd Reg.HL_SCRUB_PASSES + 1) % 2 ^ 16 ∧ t.flag Reg.HL_IRQ_SCRUB_DONE = true ∧
    RegsBut [Reg.HL_SCRUB_PASSES.key 0 0, Reg.HL_IRQ_SCRUB_DONE.key 0 0] s t)

/-- R519, R520, R521, R522: the health order and HL_ACTION. An action without its order or against its conditions leaves everything but
RESULT; TEST starts a self-test, RETURN puts the unit in service, RETIRE retires it.
A clause on a corner that the rules leave open follows the choice of the model (log entry 53). -/
def Obligations.HealthActions : Prop :=
  (∀ s (unit : BitVec 16) (action : BitVec 8), s.healthRefusal unit.toNat action.toNat ≠ 0 → Does (.healthOrder unit action) s [.outcome] fun t =>
    t.outcome = s.healthRefusal unit.toNat action.toNat ∧ (slotOf unit.toNat = none → t.outcome = 13)) ∧
  (∀ s (unit : BitVec 16) (action : BitVec 8), s.healthRefusal unit.toNat action.toNat = 0 → s.hub.bankRecovery = false →
    Does (.healthOrder unit action) s [.outcome, .journal, .regs .je] fun t => t.outcome = 0 ∧
    (s.journal.apply.isSome = true → t.journal = s.journal)) ∧
  (∀ s (unit : BitVec 16) (action : BitVec 8) (slot : Nat), s.healthRefusal unit.toNat action.toNat = 0 → s.hub.bankRecovery = true →
    slotOf unit.toNat = some slot → (kindOf slot ≠ 2 ∨ action = 3) → Does (.healthOrder unit action) s [.outcome] fun t => t.outcome = 15) ∧
  (∀ s (unit : BitVec 16) (slot : Nat), s.healthRefusal unit.toNat 1 = 0 → s.hub.bankRecovery = true → slotOf unit.toNat = some slot →
    kindOf slot = 2 → Does (.healthOrder unit 1) s [.outcome, .dict, .fresh, .health, .zdp, .ports, .regs .cnt, .regs .hl] fun t => t.outcome = 0 ∧
    (t.testJob slot).isSome = true ∧ t.flag Reg.HL_ACT_STATUS_BUSY = true) ∧
  (∀ s (slot : Fin 456), s.testAllowed slot = false → Does (.hlTest slot) s [.regs .hl] fun t => t.rd Reg.HL_ACT_STATUS_RESULT = 1 ∧
    RegsBut [Reg.HL_ACT_STATUS_RESULT.key 0 0] s t) ∧
  (∀ s (slot : Fin 456), s.testAllowed slot = true → s.retired slot = true → Does (.hlTest slot) s [.health, .regs .hl] fun t =>
    (t.testJob slot).isSome = true ∧ t.rd Reg.HL_ACT_STATUS_RESULT = 0 ∧ t.flag Reg.HL_ACT_STATUS_BUSY = true ∧ t.unit slot = s.unit slot) ∧
  (∀ s (slot : Fin 456), s.testAllowed slot = true → s.retired slot = false → Does (.hlTest slot) s [.dict, .fresh, .health, .zdp, .ports, .loop, .can, .fabric, .lauter, .pfu, .regs .grist, .regs .lt, .regs .le, .regs .pf, .regs .can, .regs .em, .regs .xl, .regs .su, .regs .cnt, .regs .hl, .regs .tile] fun t =>
    t.testJob slot = some ((s.healthOpen 1 slot).getD (0, 0)) ∧ t.rd Reg.HL_ACT_STATUS_RESULT = 0) ∧
  (∀ s (slot : Fin 456) (pass : Bool), s.testJob slot = none → exec (.hlTestDone slot pass) s = .next s) ∧
  (∀ s (slot : Fin 456) by_, s.testJob slot = some by_ → (s.retired slot = true ∨ slot = 455) →
    Does (.hlTestDone slot true) s [.dict, .fresh, .health, .zdp, .ports, .regs .cnt, .regs .hl] fun t =>
    (t.unit slot).testedAt = some s.tb3 ∧ t.testJob slot = none ∧ t.rd Reg.HL_ACT_STATUS_RESULT = 0 ∧ t.flag Reg.HL_IRQ_TEST_DONE = true ∧
    (s.retired slot = true → (t.unit slot).state = 4) ∧ (t.unit slot).sinceTest = false) ∧
  (∀ s (slot : Fin 456) by_, s.testJob slot = some by_ → (s.retired slot = true ∨ slot = 455) →
    Does (.hlTestDone slot false) s [.dict, .fresh, .health, .zdp, .ports, .regs .cnt, .regs .hl] fun t =>
    (t.unit slot).state = 3 ∧ t.testJob slot = none ∧ t.rd Reg.HL_ACT_STATUS_RESULT = 2 ∧ t.flag Reg.HL_IRQ_TEST_DONE = true) ∧
  (∀ s (slot : Fin 456) by_, s.testJob slot = some by_ → s.retired slot = false → kindOf slot = 2 →
    (s.unit slot).spare.isSome = true → Does (.hlTestDone slot true) s [.dict, .fresh, .health, .zdp, .ports, .regs .cnt, .regs .hl] fun t =>
    (t.unit slot).state = 0 ∧ (t.unit slot).spare = (s.unit slot).spare ∧ (t.copyingBack (instOf slot)).isSome = true ∧
    t.rd Reg.HL_ACT_STATUS_RESULT = 0) ∧
  (∀ s (slot : Fin 456) by_, s.testJob slot = some by_ → s.retired slot = false → kindOf slot = 2 →
    (s.unit slot).spare.isSome = true → Does (.hlTestDone slot false) s [.dict, .fresh, .health, .zdp, .ports, .regs .cnt, .regs .hl] fun t =>
    t.retired slot = true ∧ (t.unit slot).spare = (s.unit slot).spare ∧ t.rd Reg.HL_ACT_STATUS_RESULT = 2 ∧
    t.flag Reg.HL_IRQ_RETIRED = true ∧ t.flag Reg.HL_IRQ_SPARED = true) ∧
  (∀ s (slot : Fin 456) (pass : Bool), (s.testJob slot).isSome = true → s.retired slot = false → slot ≠ 455 →
    (kindOf slot ≠ 2 ∨ (s.unit slot).spare = none) → exec (.hlTestDone slot pass) s = .next s) ∧
  (∀ s (slot : Fin 456), s.healthOpen 2 slot = none → Does (.hlReturn slot) s [.regs .hl] fun t => t.rd Reg.HL_ACT_STATUS_RESULT = 3 ∧
    RegsBut [Reg.HL_ACT_STATUS_RESULT.key 0 0] s t) ∧
  (∀ s (slot : Fin 456), (s.healthOpen 2 slot).isSome = true → s.returnAllowed slot = false → Does (.hlReturn slot) s [.regs .hl] fun t =>
    t.rd Reg.HL_ACT_STATUS_RESULT = 1 ∧ RegsBut [Reg.HL_ACT_STATUS_RESULT.key 0 0] s t) ∧
  (∀ s (slot : Fin 456), (s.healthOpen 2 slot).isSome = true → s.returnAllowed slot = true → (kindOf slot ≠ 2 ∨ (s.unit slot).spare = none) →
    Does (.hlReturn slot) s (Part.allBut [.regs .tu, .regs .cg, .regs .sm, .regs .je, .regs .sup, .latch, .readData, .coreFaults, .time, .journal, .safety, .hub, .stages]) fun t => (t.unit slot).state = 0 ∧ t.flag Reg.HL_IRQ_RETURNED = true ∧ t.rd Reg.HL_ACT_STATUS_RESULT = 0) ∧
  (∀ s (slot : Fin 456), (s.healthOpen 2 slot).isSome = true → s.returnAllowed slot = true → kindOf slot = 2 → (s.unit slot).spare.isSome = true →
    Does (.hlReturn slot) s [.health, .regs .hl] fun t => (t.copyingBack (instOf slot)) = some (s.healthOpen 2 slot) ∧
    t.unit slot = s.unit slot ∧ t.flag Reg.HL_ACT_STATUS_BUSY = true) ∧
  (∀ s (slot : Fin 456), s.healthOpen 3 slot = none → Does (.hlRetire slot) s [.regs .hl] fun t => t.rd Reg.HL_ACT_STATUS_RESULT = 3 ∧
    RegsBut [Reg.HL_ACT_STATUS_RESULT.key 0 0] s t) ∧
  (∀ s (slot : Fin 456), (s.healthOpen 3 slot).isSome = true → s.retireAllowed slot = false → Does (.hlRetire slot) s [.regs .hl] fun t =>
    t.rd Reg.HL_ACT_STATUS_RESULT = 1 ∧ RegsBut [Reg.HL_ACT_STATUS_RESULT.key 0 0] s t) ∧
  (∀ s (slot : Fin 456), (s.healthOpen 3 slot).isSome = true → s.retireAllowed slot = true → (kindOf slot ≠ 2 ∨ s.freeSpare ≠ none) →
    Does (.hlRetire slot) s (ownerParts (kindOf slot)) fun t => t.retired slot = true ∧ (t.unit slot).cause = 8 ∧
    t.flag Reg.HL_IRQ_RETIRED = true ∧ t.rd Reg.HL_ACT_STATUS_RESULT = 0)

/-- R525, R526, R527, R528, R529, R532, R596: ALARM, EVENT and TRACE records.
A clause on a corner that the rules leave open follows the choice of the model (log entries 54 and 68). -/
def Obligations.LogRecords : Prop :=
  (∀ s block name unit, Does (.alarmRaise block name unit) s [.dict, .fresh, .health, .zdp, .ports, .regs .cnt, .regs .hl] fun t => t.flag Reg.HL_IRQ_ALARM = true ∧ t.health.units = s.health.units ∧
    t.health.evSeq = s.health.evSeq ∧ t.health.trSeq = s.health.trSeq) ∧
  (∀ s block name unit, s.subsOf 0xB810 1 = [] → s.dip = false → s.health.overflow = [] → Does (.alarmRaise block name unit) s [.dict, .fresh, .health, .zdp, .ports, .regs .cnt, .regs .hl] fun t =>
    t.health.aseq = (s.health.aseq + 1) % 2 ^ 32 ∧ t.health.rhead = s.health.rhead + 1 ∧
    (Map.get none t.health.ring (s.health.rhead % 4096)).map (fun a => (a.aseq, a.node, a.unit, a.claim)) =
      some ((s.health.aseq + 1) % 2 ^ 32, s.node, unit.toNat, s.rd Reg.CG_CLAIM_CLAIM) ∧
    (Map.get none t.health.ring (s.health.rhead % 4096)).map (fun a => (a.time, a.osn, a.held)) = some (s.stamp, s.osnCommit, false)) ∧
  (∀ s block name unit, s.subsOf 0xB810 1 = [] → s.dip = true → Does (.alarmRaise block name unit) s [.dict, .fresh, .health, .zdp, .ports, .regs .cnt, .regs .hl] fun t =>
    t.health.aseq = (s.health.aseq + 1) % 2 ^ 32 ∧ t.health.rhead = s.health.rhead ∧ t.health.ring = s.health.ring ∧
    t.health.held.length = s.health.held.length + 1 ∧ (t.health.held.getLast?.map fun a => (a.unit, a.held)) = some (unit.toNat, true)) ∧
  (∀ s block name unit, s.subsOf 0xB810 1 = [] → s.dip = false → s.health.overflow ≠ [] → s.health.overflow.length < 16384 →
    Does (.alarmRaise block name unit) s [.dict, .fresh, .health, .zdp, .ports, .regs .cnt, .regs .hl] fun t => t.health.rhead = s.health.rhead ∧ t.health.ring = s.health.ring ∧
    t.health.overflow.length = s.health.overflow.length + 1 ∧ (t.health.overflow.getLast?.map fun a => (a.unit, a.overflowed)) =
      some (unit.toNat, true) ∧ t.flag Reg.HL_IRQ_OVERFLOW = true) ∧
  (∀ s block name (unit : BitVec 16) key k, key = recordCode block name * 65536 + unit.toNat → k = Map.get {} s.health.keys key →
    k.coalescing = true → Does (.eventRaise block name unit) s [.fresh, .health, .regs .cnt] fun t => t.health.evSeq = s.health.evSeq ∧
    t.health.evRing = s.health.evRing ∧ (Map.get {} t.health.keys key).count = k.count + 1 ∧ (Map.get {} t.health.keys key).coalescing = true ∧
    (Map.get {} t.health.keys key).last = s.stamp ∧ (Map.get {} t.health.keys key).began = k.began) ∧
  (∀ s block name (unit : BitVec 16) key k, key = recordCode block name * 65536 + unit.toNat → k = Map.get {} s.health.keys key →
    k.coalescing = false → s.raisings key ≤ s.objN Obj.LOG_EVENT_RATE → s.evBusy = false → Does (.eventRaise block name unit) s
      [.fresh, .health, .zdp, .regs .cnt] fun t => t.health.evSeq = (s.health.evSeq + 1) % 2 ^ 32 ∧
    (t.health.evRing.getLast?.map fun r => (r.seq, r.node, r.code, r.unit)) =
      some ((s.health.evSeq + 1) % 2 ^ 32, s.node, recordCode block name, unit.toNat) ∧
    (t.health.evRing.getLast?.map fun r => (r.first, r.last, r.count, r.coalesced)) = some (s.stamp, s.stamp, 1, false) ∧
    (Map.get {} t.health.keys key).inSecond = s.raisings key ∧ (Map.get {} t.health.keys key).coalescing = false) ∧
  (∀ s block name (unit : BitVec 16) key k, key = recordCode block name * 65536 + unit.toNat → k = Map.get {} s.health.keys key →
    k.coalescing = false → (s.objN Obj.LOG_EVENT_RATE < s.raisings key ∨ s.evBusy = true) → Does (.eventRaise block name unit) s
      [.fresh, .health, .regs .cnt, .regs .hl] fun t => t.health.evSeq = s.health.evSeq ∧ t.health.evRing = s.health.evRing ∧
    (Map.get {} t.health.keys key).coalescing = true ∧ (Map.get {} t.health.keys key).count = 1 ∧
    (Map.get {} t.health.keys key).began = s.tb3 ∧ t.rd Reg.HL_COALESCING_KEYS = (s.rd Reg.HL_COALESCING_KEYS + 1) % 2 ^ 16) ∧
  (∀ s (key : Nat) k, k = Map.get {} s.health.keys key → (k.coalescing && s.elapsed k.began (s.objN Obj.LOG_COALESCE_MS * 1000000)) = false →
    exec (.coalesceInterval key) s = .next s) ∧
  (∀ s (key : Nat) k, k = Map.get {} s.health.keys key → (k.coalescing && s.elapsed k.began (s.objN Obj.LOG_COALESCE_MS * 1000000)) = true →
    Does (.coalesceInterval key) s [.health, .zdp, .regs .hl] fun t => (Map.get {} t.health.keys key).count = 0 ∧
    (Map.get {} t.health.keys key).began = s.tb3 ∧
    (Map.get {} t.health.keys key).coalescing = !(decide (k.count ≤ s.objN Obj.LOG_EVENT_RATE) && !s.evBusy) ∧
    (k.count = 0 → t.health.evSeq = s.health.evSeq ∧ t.health.evRing = s.health.evRing) ∧
    (k.count ≠ 0 → t.health.evSeq = (s.health.evSeq + 1) % 2 ^ 32 ∧
      (t.health.evRing.getLast?.map fun r => (r.code, r.unit, r.count, r.coalesced)) = some (key / 65536, key % 65536, k.count, true) ∧
      (t.health.evRing.getLast?.map fun r => (r.first, r.last)) = some (k.first, k.last)) ∧
    ((Map.get {} t.health.keys key).coalescing = false → t.rd Reg.HL_COALESCING_KEYS = (s.rd Reg.HL_COALESCING_KEYS - 1) % 2 ^ 16) ∧
    ((Map.get {} t.health.keys key).coalescing = true → t.rd Reg.HL_COALESCING_KEYS = s.rd Reg.HL_COALESCING_KEYS)) ∧
  (∀ s code unit detail, s.objB Obj.LOG_TRACE_EN = false → exec (.traceRaise code unit detail) s = .next s) ∧
  (∀ s (code unit : BitVec 16) detail, s.objB Obj.LOG_TRACE_EN = true → Does (.traceRaise code unit detail) s [.health, .zdp, .regs .cnt, .regs .hl] fun t =>
    t.health.trSeq = (s.health.trSeq + 1) % 2 ^ 32 ∧ t.health.evSeq = s.health.evSeq ∧
    (t.health.lastTrace.map fun r => (r.code, r.unit, r.node, r.detail)) =
      some (code.toNat, unit.toNat, s.node, (detail ++ List.replicate 7 0).take 7) ∧
    ((s.zdp.subs.any fun u => u.index == 0xB828) = false → t.zdp.subs = s.zdp.subs ∧
      t.rd Reg.HL_TRACE_LOST_COUNT = s.rd Reg.HL_TRACE_LOST_COUNT)) ∧
  (∀ s, s.dip = true → exec .overflowDrain s = .next s) ∧
  (∀ s, s.dip = false → s.subsOf 0xB810 1 = [] → s.health.exhausted = false → Does .overflowDrain s [.health] fun t =>
    t.health.overflow = [] ∧ t.health.rhead = s.health.rhead + s.health.overflow.length ∧
    (s.health.overflow ≠ [] → s.health.overflow.length < 4096 → Map.get none t.health.ring (s.health.rhead % 4096) = s.health.overflow.head?) ∧
    t.health.aseq = s.health.aseq) ∧
  (∀ s core src, exec (.hlRaise core 3 src) s = .next s) ∧
  (∀ s core src, s.objB Obj.LOG_TRACE_EN = false → exec (.hlRaise core 2 src) s = .next s) ∧
  (∀ s core (src : BitVec 21) b, b = s.gristGet (src.toNat * 64) 128 →
    (crc32 (b.take 124) ≠ leAt b 124 4 ∨ leAt b 14 2 ≠ 0 ∨ 8 ≤ leAt b 22 1 ∨ leAt b 23 1 ≠ 0) → Does (.hlRaise core 0 src) s [.dict] fun t =>
    t.objN Obj.LOG_RAISE_REFUSED = (s.objN Obj.LOG_RAISE_REFUSED + 1) % 2 ^ 32 ∧ ObjsBut [Obj.LOG_RAISE_REFUSED.key 0 0] s t) ∧
  (∀ s core (src : BitVec 21) b, b = s.gristGet (src.toNat * 64) 128 → crc32 (b.take 124) = leAt b 124 4 → leAt b 14 2 = 0 → leAt b 22 1 < 8 →
    leAt b 23 1 = 0 → s.subsOf 0xB810 1 = [] → s.dip = false → s.health.overflow = [] → Does (.hlRaise core 0 src) s [.dict, .fresh, .health, .zdp, .ports, .regs .cnt, .regs .hl] fun t =>
    t.health.aseq = (s.health.aseq + 1) % 2 ^ 32 ∧ t.flag Reg.HL_IRQ_ALARM = true ∧
    (Map.get none t.health.ring (s.health.rhead % 4096)).map (fun a => (a.code, a.unit, a.text)) =
      some (leAt b 6 2, leAt b 20 2, (b.drop 96).take 28) ∧ t.objN Obj.LOG_RAISE_REFUSED = s.objN Obj.LOG_RAISE_REFUSED) ∧
  (∀ s core (cls : BitVec 2) (src : BitVec 21) b, b = s.gristGet (src.toNat * 64) 64 → (cls = 1 ∨ cls = 2 ∧ s.objB Obj.LOG_TRACE_EN = true) →
    (crc32 (b.take 60) ≠ leAt b 60 4 ∨ 4 ≤ leAt b 30 1 ∨ leAt b 31 1 ≠ 0) → Does (.hlRaise core cls src) s [.dict] fun t =>
    t.objN Obj.LOG_RAISE_REFUSED = (s.objN Obj.LOG_RAISE_REFUSED + 1) % 2 ^ 32 ∧ ObjsBut [Obj.LOG_RAISE_REFUSED.key 0 0] s t) ∧
  (∀ s core (src : BitVec 21) b k, b = s.gristGet (src.toNat * 64) 64 → crc32 (b.take 60) = leAt b 60 4 → leAt b 30 1 < 4 →
    leAt b 31 1 = 0 → k = Map.get {} s.health.keys (leAt b 6 2 * 65536 + leAt b 28 2) → k.coalescing = false →
    s.raisings (leAt b 6 2 * 65536 + leAt b 28 2) ≤ s.objN Obj.LOG_EVENT_RATE → s.evBusy = false → Does (.hlRaise core 1 src) s [.health, .zdp, .regs .cnt] fun t =>
    t.health.evSeq = (s.health.evSeq + 1) % 2 ^ 32 ∧ (t.health.evRing.getLast?.map fun r => (r.code, r.unit, r.count)) =
      some (leAt b 6 2, leAt b 28 2, leAt b 24 4) ∧
    (t.health.evRing.getLast?.map fun r => (r.first, r.last)) = some (⟨leAt b 12 4, leAt b 8 4⟩, ⟨leAt b 20 4, leAt b 16 4⟩)) ∧
  (∀ s core (src : BitVec 21) b, b = s.gristGet (src.toNat * 64) 64 → crc32 (b.take 60) = leAt b 60 4 → leAt b 30 1 < 4 →
    leAt b 31 1 = 0 → s.objB Obj.LOG_TRACE_EN = true → Does (.hlRaise core 2 src) s [.health, .zdp, .regs .cnt, .regs .hl] fun t =>
    t.health.trSeq = (s.health.trSeq + 1) % 2 ^ 32 ∧ (t.health.lastTrace.map fun r => (r.code, r.unit, r.count)) =
      some (leAt b 6 2, leAt b 28 2, leAt b 24 4))


/-- The queue: a step takes the command at the front and runs it with the rest of the queue. -/
def Obligations.StepRunsFrontCommand : Prop :=
  (∀ s c rest, s.pending = c :: rest → step s = exec c { s with pending := rest })

/-- R319: with no command waiting a step is one tick of the time-unit clock, which adds 4 ns and the rate word to the 64-bit accumulator of
each base. That a tick stands in place of idling is the model's choice (log entry 2). -/
def Obligations.EmptyQueueIsOneTick : Prop :=
  (∀ s, s.pending = [] → ∃ t, step s = .next t ∧ Keeps [.time, .regs .cnt] s t ∧
    (∀ n : Fin 4, ((t.base n).count.toNat * 2 ^ 32 + (t.base n).frac.toNat : Int) =
      ((s.base n).count.toNat * 2 ^ 32 + (s.base n).frac.toNat + 4 * 2 ^ 32 + s.rateOf 4 n) % 2 ^ 64))

/-- R545: right after reset no command waits, the hub is held, the safety die is not live and energizes nothing, and the tables are in canonical
form. What a byte of memory reads as before anything has written it is the model's choice (log entry 5). -/
def Obligations.ResetState : Prop :=
  (State.reset.pending = [] ∧ State.reset.hub.held = true ∧ State.reset.safety.live = false ∧ State.reset.energized = 0 ∧
    State.reset.tidy = true ∧ State.reset.roleOk = true ∧ State.reset.demandsTripped = true ∧ (∀ a, Memory.get State.reset.mem a = 0))

/-- Every step keeps the memory, the register file and the dictionary in canonical form, so that equal contents are equal data. -/
def Obligations.StepKeepsTidy : Prop :=
  (∀ s t, s.tidy = true → step s = .next t → t.tidy = true)

/-- No command touches the queue: a step only takes its front away. -/
def Obligations.CommandsLeaveQueue : Prop :=
  (∀ c s t, exec c s = .next t → t.pending = s.pending)

/-- Every command completes in every state: none ends in a fault or a refusal. -/
def Obligations.EveryCommandCompletes : Prop :=
  (∀ c s, ∃ t, exec c s = .next t)

/-- R483, R490: no command but an accepted reset pulse, or the restart of the safety die, clears a latched trip or an active zone in either
channel. -/
def Obligations.OnlyResetPulsesClearTrips : Prop :=
  (∀ c s t, c ≠ .vsafeGood → (∀ k a b, c ≠ .resetPulseFall k a b) → exec c s = .next t → LatchesKept s t)

/-- R483: whatever command runs, an output that shows a demand in a channel stays tripped there. -/
def Obligations.DemandKeepsTrip : Prop :=
  (∀ c s t, s.demandsTripped = true → exec c s = .next t → t.demandsTripped = true)

/-- R477: the safety die leaves FAULT, in which every element is open, by its own power-on reset alone. -/
def Obligations.FaultLeftOnlyByPowerOn : Prop :=
  (∀ c s t, s.safety.state = 6 → c ≠ .vsafeGood → exec c s = .next t → t.safety.state = 6 ∧ t.energized = 0)

/-- R23: the role never reads 0, and reads BENCH while ROLE_FAULT is set: every step keeps it so. -/
def Obligations.RoleAlwaysReadsValid : Prop :=
  (∀ s t, s.roleOk = true → step s = .next t → t.roleOk = true)

/-- R4, R546: no command but the release of the hub reset changes the role, which 0x1001.01 reads.
A clause on a corner that the rules leave open follows the choice of the model (log entry 14). -/
def Obligations.RoleFixedInService : Prop :=
  (∀ c s t, (∀ te ro pr cal bad cp, c ≠ .hubResetRelease te ro pr cal bad cp) → exec c s = .next t → t.role = s.role ∧
    t.readObj Obj.NODE_ROLE 0 0 = .num s.role)

/-- R34, R322, R329: TB3 is never stepped: a command leaves it as it was, or starts it from 0 with the hub.
A clause on a corner that the rules leave open follows the choice of the model (log entry 41). -/
def Obligations.Tb3NeverStepped : Prop :=
  (∀ c s t, exec c s = .next t → t.base 3 = s.base 3 ∨ t.base 3 = {})

/-- R584: an overtemperature of the safety die opens every element and makes it enter FAULT. -/
def Obligations.OvertemperatureOpensEverything : Prop :=
  (∀ s, s.safety.live = true → ∃ t, exec .safetyOvertemp s = .next t ∧ t.safety.state = 6 ∧ (∀ c : Fin 2, t.elements c = 0))

/-- R573: the elements are open while VSAFE or VIO33_S is low, the return of VSAFE restarts the die, and that leaves FAULT. -/
def Obligations.SupplyLossOpensOutputs : Prop :=
  ((∀ (s : State) (c : Fin 2), (s.safety.live = false ∨ s.safety.vio33s = false) → s.elements c = 0) ∧
   (∀ s, ∃ t, exec .vsafeGood s = .next t ∧ t.safety.live = true ∧ t.safety.state = 0 ∧ (∀ c : Fin 2, t.elements c = 0) ∧
     (∀ (c : Fin 2) (k : Fin 8), bitOf (t.chan c).trip k = true ∧ bitOf (Map.get 0 (t.chan c).lcause k) 5 = true)))

/-- R95: a write to GRIST_ADMIT while a verdict of the core is pending starts no decision and sets OVERRUN. -/
def Obligations.AdmitWhilePendingOverruns : Prop :=
  (∀ s core v, s.flag Reg.GRIST_VERDICT_PENDING core = true → Does (.gristAdmit core v) s [.regs .grist] fun t =>
    t.flag Reg.GRIST_VERDICT_OVERRUN core = true ∧ RegsBut [Reg.GRIST_VERDICT_OVERRUN.key core 0] s t ∧ t.fabric = s.fabric)

/-- R19: an access to a register block of any width but 32 bits, or misaligned, raises an access fault and changes no register. -/
def Obligations.RegistersTakeAlignedWords : Prop :=
  (∀ s core mode (width : BitVec 8) addr v, (0x40000000 ≤ addr.toNat ∧ addr.toNat < 0x40100000) → (width.toNat / 8 ≠ 4 ∨ addr.toNat % 4 ≠ 0) →
    Does (.registerWrite core mode width addr v) s [.coreFaults] fun t =>
    Map.get none t.coreFaults core = some ⟨.access, addr.toNat⟩) ∧
  (∀ s core mode (width : BitVec 8) addr, (0x40000000 ≤ addr.toNat ∧ addr.toNat < 0x40100000) → (width.toNat / 8 ≠ 4 ∨ addr.toNat % 4 ≠ 0) →
    Does (.registerRead core mode width addr) s [.coreFaults] fun t =>
    Map.get none t.coreFaults core = some ⟨.access, addr.toNat⟩)

/-- R44: a core that writes a limit register of the loop engine or the claim gate faults and leaves it; the journal engine writes it. -/
def Obligations.LimitRegistersBelongToJournal : Prop :=
  (∀ s core mode (thr : Fin 32) addr v, (∃ o ∈ ([0x0, 0x4, 0x8, 0xC, 0x10, 0x14, 0x18, 0x1C, 0x20, 0x40, 0x44, 0x48, 0x4C, 0x50, 0x54, 0x58, 0x5C] : List Nat),
      addr.toNat = 0x40033000 + 128 * thr.val + o) → Does (.registerWrite core mode 32 addr v) s [.coreFaults] fun t =>
    (Map.get none t.coreFaults core).map (·.addr) = some addr.toNat) ∧
  (∀ s core mode (thr : Fin 32) addr v, (∃ o ∈ ([0x0, 0x4, 0x8, 0xC, 0x10, 0x14, 0x18, 0x20, 0x24, 0x28, 0x2C, 0x30, 0x34, 0x38, 0x3C] : List Nat),
      addr.toNat = 0x400C1000 + 64 * thr.val + o) → Does (.registerWrite core mode 32 addr v) s [.coreFaults] fun t =>
    (Map.get none t.coreFaults core).map (·.addr) = some addr.toNat) ∧
  (∀ s core (v : Word) (thr : Fin 32), s.flag Reg.JE_STATUS_APPLY_OPEN = true → s.rd Reg.JE_APPLY_ADDR_ADDR = (0x40033000 + 128 * thr.val) / 4 →
    Does (.jeApplyData core v) s (Part.allBut [.latch, .coreFaults, .time, .gate, .safety, .hub, .fabric, .stages, .lauter, .pfu]) fun t => t.rd Reg.LEL_RANGE_MIN thr 0 = v.toNat % 65536 ∧ t.rd Reg.LEL_RANGE_MAX thr 0 = v.toNat / 65536)

/-- R24: a WRITE of a node identifier above 0x3FFF is refused as out of range, and the stored identifier stays. -/
def Obligations.NodeIdOutOfRangeIsRefused : Prop :=
  (∀ s (p : PortNo) m c f, c ∈ zdpCommands p m → s.gateTakes p m = true → m.kind = 2 → m.index = 0x1001 → m.sub = 2 →
    (s.taken p).firstChecks p m .write = .ok f → m.body.length = 2 → 0x3FFF < leNat m.body → Does c s Part.all fun t =>
    s.answered t p m 13 [] ∧ t.dict = s.dict)
end

