-- ==== Sys2Proof/Laws/Memory.lean ====
section
/-! SUPPORT. Sparse tables and memory: what a put, an erase and a write of bytes leave, and that each keeps the canonical
form. -/

namespace Sys2Proof.Machine

/-- Every key of the table lies above `i`. -/
def Map.above {α : Type} (m : Map α) (i : Nat) : Prop := ∀ p ∈ m, i < p.1

theorem Map.sorted_cons {α : Type} (k : Nat) (v : α) (m : Map α) :
    Map.sorted ((k, v) :: m) = true ↔ Map.above m k ∧ Map.sorted m = true := by
  induction m generalizing k v with
  | nil => simp [Map.sorted, Map.above]
  | cons p m ih =>
    obtain ⟨l, w⟩ := p
    simp only [Map.sorted, Bool.and_eq_true, decide_eq_true_eq]
    constructor
    · rintro ⟨h1, h2⟩
      refine ⟨?_, h2⟩
      intro q hq
      rcases List.mem_cons.1 hq with rfl | hq
      · exact h1
      · exact Nat.lt_trans h1 (((ih l w).1 h2).1 q hq)
    · rintro ⟨h1, h2⟩
      exact ⟨h1 (l, w) List.mem_cons_self, h2⟩

theorem Map.mem_put {α : Type} {m : Map α} {i : Nat} {v : α} {p : Nat × α} (h : p ∈ Map.put m i v) :
    p = (i, v) ∨ p ∈ m := by
  induction m with
  | nil => simpa [Map.put] using h
  | cons q m ih =>
    obtain ⟨k, w⟩ := q
    simp only [Map.put] at h
    split_ifs at h with h1 h2
    · simpa using h
    · rcases List.mem_cons.1 h with h | h
      · exact .inl h
      · exact .inr (List.mem_cons_of_mem _ h)
    · rcases List.mem_cons.1 h with h | h
      · exact .inr (h ▸ List.mem_cons_self)
      · rcases ih h with h | h
        · exact .inl h
        · exact .inr (List.mem_cons_of_mem _ h)

theorem Map.mem_erase {α : Type} {m : Map α} {i : Nat} {p : Nat × α} (h : p ∈ Map.erase m i) : p ∈ m := by
  induction m with
  | nil => simp [Map.erase] at h
  | cons q m ih =>
    obtain ⟨k, w⟩ := q
    simp only [Map.erase] at h
    split_ifs at h with h1
    · exact List.mem_cons_of_mem _ h
    · rcases List.mem_cons.1 h with h | h
      · exact h ▸ List.mem_cons_self
      · exact List.mem_cons_of_mem _ (ih h)

theorem Map.sorted_put {α : Type} {m : Map α} (i : Nat) (v : α) (h : Map.sorted m = true) :
    Map.sorted (Map.put m i v) = true := by
  induction m with
  | nil => rfl
  | cons q m ih =>
    obtain ⟨k, w⟩ := q
    obtain ⟨h1, h2⟩ := (Map.sorted_cons k w m).1 h
    simp only [Map.put]
    split_ifs with c1 c2
    · refine (Map.sorted_cons _ _ _).2 ⟨?_, h⟩
      intro p hp
      rcases List.mem_cons.1 hp with rfl | hp
      · exact c1
      · exact Nat.lt_trans c1 (h1 p hp)
    · subst c2
      exact (Map.sorted_cons _ _ _).2 ⟨h1, h2⟩
    · refine (Map.sorted_cons _ _ _).2 ⟨?_, ih h2⟩
      intro p hp
      rcases Map.mem_put hp with rfl | hp
      · show k < i
        omega
      · exact h1 p hp

theorem Map.sorted_erase {α : Type} {m : Map α} (i : Nat) (h : Map.sorted m = true) :
    Map.sorted (Map.erase m i) = true := by
  induction m with
  | nil => rfl
  | cons q m ih =>
    obtain ⟨k, w⟩ := q
    obtain ⟨h1, h2⟩ := (Map.sorted_cons k w m).1 h
    simp only [Map.erase]
    split_ifs with c1
    · exact h2
    · exact (Map.sorted_cons _ _ _).2 ⟨fun p hp => h1 p (Map.mem_erase hp), ih h2⟩

theorem Map.sorted_filter {α : Type} {m : Map α} (f : Nat × α → Bool) (h : Map.sorted m = true) :
    Map.sorted (m.filter f) = true := by
  induction m with
  | nil => rfl
  | cons q m ih =>
    obtain ⟨k, w⟩ := q
    obtain ⟨h1, h2⟩ := (Map.sorted_cons k w m).1 h
    simp only [List.filter_cons]
    split_ifs
    · exact (Map.sorted_cons _ _ _).2 ⟨fun p hp => h1 p (List.mem_filter.1 hp).1, ih h2⟩
    · exact ih h2

/-- A key below every key listed has the default value. -/
theorem Map.get_above {α : Type} (d : α) {m : Map α} {i : Nat} (h : Map.above m i) : Map.get d m i = d := by
  induction m with
  | nil => rfl
  | cons q m ih =>
    obtain ⟨k, w⟩ := q
    have : i < k := h (k, w) List.mem_cons_self
    simp [Map.get, show i ≠ k by omega, ih fun p hp => h p (List.mem_cons_of_mem _ hp)]

theorem Map.get_erase {α : Type} (d : α) {m : Map α} (i j : Nat) (h : Map.sorted m = true) :
    Map.get d (Map.erase m i) j = if j = i then d else Map.get d m j := by
  induction m with
  | nil => simp [Map.erase]
  | cons q m ih =>
    obtain ⟨k, w⟩ := q
    obtain ⟨h1, h2⟩ := (Map.sorted_cons k w m).1 h
    simp only [Map.erase]
    split_ifs with c1 c2 c2
    · subst c1 c2; exact Map.get_above d h1
    · subst c1
      simp [Map.get, c2]
    · subst c2
      simp [Map.get, c1, ih h2]
    · simp [Map.get, ih h2, c2]

/-- The canonical form, in parts. -/
theorem Memory.wf_iff (m : List Host.Cell) :
    Memory.wf m = true ↔ Map.sorted m = true ∧ ∀ c ∈ m, c.2 ≠ Memory.unlisted := by
  simp [Memory.wf, List.all_eq_true]

theorem Memory.wf_put {m : List Host.Cell} (a : Nat) (b : Byte) (h : Memory.wf m = true) :
    Memory.wf (Memory.put m a b) = true := by
  obtain ⟨h1, h2⟩ := (Memory.wf_iff m).1 h
  refine (Memory.wf_iff _).2 ?_
  simp only [Memory.put]
  split_ifs with c
  · exact ⟨Map.sorted_erase a h1, fun p hp => h2 p (Map.mem_erase hp)⟩
  · refine ⟨Map.sorted_put a b h1, fun p hp => ?_⟩
    rcases Map.mem_put hp with rfl | hp
    · exact c
    · exact h2 p hp

theorem Memory.wf_putList {m : List Host.Cell} (a : Nat) (bs : List Byte) (h : Memory.wf m = true) :
    Memory.wf (Memory.putList m a bs) = true := by
  induction bs generalizing m a with
  | nil => exact h
  | cons b bs ih => exact ih (a + 1) (Memory.wf_put a b h)

/-- Reading a byte after writing one. -/
theorem Memory.get_put {m : List Host.Cell} (a x : Nat) (b : Byte) (h : Memory.wf m = true) :
    Memory.get (Memory.put m a b) x = if x = a then b else Memory.get m x := by
  obtain ⟨h1, -⟩ := (Memory.wf_iff m).1 h
  simp only [Memory.put, Memory.get]
  split_ifs with c1 c2 c2
  · rw [Map.get_erase _ _ _ h1]; simp [c1, c2]
  · rw [Map.get_erase _ _ _ h1]; simp [c2]
  · subst c2; exact Map.get_put_self _ _ _ _
  · exact Map.get_put_ne _ _ _ _ _ c2

/-- Reading a byte outside the range written. -/
theorem Memory.get_putList_out {m : List Host.Cell} (a x : Nat) (bs : List Byte) (h : Memory.wf m = true)
    (hx : x < a ∨ a + bs.length ≤ x) : Memory.get (Memory.putList m a bs) x = Memory.get m x := by
  induction bs generalizing m a with
  | nil => rfl
  | cons b bs ih =>
    simp only [List.length_cons] at hx
    simp only [Memory.putList]
    rw [ih (a + 1) (Memory.wf_put a b h) (by omega), Memory.get_put a x b h]
    have : x ≠ a := by omega
    simp [this]

/-- Reading a byte inside the range written. -/
theorem Memory.get_putList_in {m : List Host.Cell} (a x : Nat) (bs : List Byte) (h : Memory.wf m = true)
    (h1 : a ≤ x) (h2 : x - a < bs.length) : Memory.get (Memory.putList m a bs) x = bs[x - a] := by
  induction bs generalizing m a with
  | nil => simp at h2
  | cons b bs ih =>
    simp only [Memory.putList]
    by_cases c : x = a
    · subst c
      rw [Memory.get_putList_out _ _ _ (Memory.wf_put x b h) (.inl (Nat.lt_succ_self x)), Memory.get_put x x b h]
      simp
    · have e : x - a = (x - (a + 1)) + 1 := by omega
      have l : x - (a + 1) < bs.length := by simp only [List.length_cons] at h2; omega
      rw [ih (a + 1) (Memory.wf_put a b h) (by omega) l]
      simp [e]

end Sys2Proof.Machine
end

