-- ==== Sys2Proof/Laws/Leaves.lean ====
section
/-! SUPPORT. What an operation leaves: `Leaves P s t` says that `t` differs from `s` only in the parts of State that the bits
of `P` name, and that the memory, the register file and the dictionary keep their canonical form. Every operation of the
machine has one lemma of this shape, named after it: what it may touch, said once. -/

namespace Sys2Proof.Machine

/-- The number of a register block. -/
def Block.index : Block → Nat
  | .grist => 0 | .gauge => 1 | .lt => 2 | .le => 3 | .pf => 4 | .tu => 5 | .can => 6 | .em => 7 | .xl => 8 | .su => 9
  | .cnt => 10 | .hl => 11 | .cg => 12 | .sm => 13 | .je => 14 | .sup => 15 | .tile => 16

/-- `t` differs from `s` at most in the parts that `P` names by their bits, and is canonical where `s` is. -/
structure Leaves (P : Nat) (s t : State) : Prop where
  tidy : s.tidy = true → t.tidy = true
  pending : P.testBit 0 = false → t.pending = s.pending
  regs : ∀ k, P.testBit (25 + (blockAt k).index) = false → ∀ d, Map.get d t.regs k = Map.get d s.regs k
  mem : P.testBit 2 = false → t.mem = s.mem
  dict : P.testBit 3 = false → t.dict = s.dict
  latch : P.testBit 4 = false → t.latch = s.latch
  poisoned : P.testBit 5 = false → t.poisoned = s.poisoned
  readData : P.testBit 6 = false → t.readData = s.readData
  coreFaults : P.testBit 7 = false → t.coreFaults = s.coreFaults
  outcome : P.testBit 8 = false → t.outcome = s.outcome
  fresh : P.testBit 9 = false → t.fresh = s.fresh
  time : P.testBit 10 = false → t.time = s.time
  health : P.testBit 11 = false → t.health = s.health
  zdp : P.testBit 12 = false → t.zdp = s.zdp
  ports : P.testBit 13 = false → t.ports = s.ports
  journal : P.testBit 14 = false → t.journal = s.journal
  claims : P.testBit 15 = false → t.claims = s.claims
  gate : P.testBit 16 = false → t.gate = s.gate
  loop : P.testBit 17 = false → t.loop = s.loop
  can : P.testBit 18 = false → t.can = s.can
  safety : P.testBit 19 = false → t.safety = s.safety
  hub : P.testBit 20 = false → t.hub = s.hub
  fabric : P.testBit 21 = false → t.fabric = s.fabric
  stages : P.testBit 22 = false → t.stages = s.stages
  lauter : P.testBit 23 = false → t.lauter = s.lauter
  pfu : P.testBit 24 = false → t.pfu = s.pfu

/-- What `Leaves` says of an outcome that is a next state. -/
def OutLeaves (P : Nat) (s : State) (o : Host.Outcome State Fault Refusal) : Prop := ∀ t, o = .next t → Leaves P s t

/-- What `Leaves` says of an optional state. -/
def OptLeaves (P : Nat) (s : State) (o : Option State) : Prop := ∀ t, o = some t → Leaves P s t

theorem Leaves.refl (P : Nat) (s : State) : Leaves P s s where
  tidy h := h
  pending _ := rfl
  regs _ _ _ := rfl
  mem _ := rfl
  dict _ := rfl
  latch _ := rfl
  poisoned _ := rfl
  readData _ := rfl
  coreFaults _ := rfl
  outcome _ := rfl
  fresh _ := rfl
  time _ := rfl
  health _ := rfl
  zdp _ := rfl
  ports _ := rfl
  journal _ := rfl
  claims _ := rfl
  gate _ := rfl
  loop _ := rfl
  can _ := rfl
  safety _ := rfl
  hub _ := rfl
  fabric _ := rfl
  stages _ := rfl
  lauter _ := rfl
  pfu _ := rfl

theorem Leaves.trans {P : Nat} {s t u : State} (h : Leaves P s t) (k : Leaves P t u) : Leaves P s u where
  tidy x := k.tidy (h.tidy x)
  pending x := (k.pending x).trans (h.pending x)
  regs n x d := (k.regs n x d).trans (h.regs n x d)
  mem x := (k.mem x).trans (h.mem x)
  dict x := (k.dict x).trans (h.dict x)
  latch x := (k.latch x).trans (h.latch x)
  poisoned x := (k.poisoned x).trans (h.poisoned x)
  readData x := (k.readData x).trans (h.readData x)
  coreFaults x := (k.coreFaults x).trans (h.coreFaults x)
  outcome x := (k.outcome x).trans (h.outcome x)
  fresh x := (k.fresh x).trans (h.fresh x)
  time x := (k.time x).trans (h.time x)
  health x := (k.health x).trans (h.health x)
  zdp x := (k.zdp x).trans (h.zdp x)
  ports x := (k.ports x).trans (h.ports x)
  journal x := (k.journal x).trans (h.journal x)
  claims x := (k.claims x).trans (h.claims x)
  gate x := (k.gate x).trans (h.gate x)
  loop x := (k.loop x).trans (h.loop x)
  can x := (k.can x).trans (h.can x)
  safety x := (k.safety x).trans (h.safety x)
  hub x := (k.hub x).trans (h.hub x)
  fabric x := (k.fabric x).trans (h.fabric x)
  stages x := (k.stages x).trans (h.stages x)
  lauter x := (k.lauter x).trans (h.lauter x)
  pfu x := (k.pfu x).trans (h.pfu x)

theorem part_trans {P Q q : Nat} (h : P &&& Q = Q) (k : Q &&& q = q) : P &&& q = q :=
  calc P &&& q = P &&& (Q &&& q) := by rw [k]
    _ = (P &&& Q) &&& q := (Nat.and_assoc P Q q).symm
    _ = Q &&& q := by rw [h]
    _ = q := k

theorem part_bit {P : Nat} (i : Nat) (h : P &&& 2 ^ i = 2 ^ i) : P.testBit i = true := by
  have := congrArg (fun n => n.testBit i) h
  simpa [Nat.testBit_and, Nat.testBit_two_pow_self] using this

theorem OutLeaves.next {P : Nat} {s t : State} (h : Leaves P s t) : OutLeaves P s (.next t) := by
  intro u e; cases e; exact h

theorem OutLeaves.refused {P : Nat} {s : State} {r : Refusal} : OutLeaves P s (.refused r) := by
  intro u e; cases e

theorem Leaves.foldl {α : Type} {P : Nat} {s t : State} {g : State → α → State}
    (hg : ∀ u x, Leaves P s u → Leaves P s (g u x)) (l : List α) (h : Leaves P s t) : Leaves P s (l.foldl g t) := by
  induction l generalizing t with
  | nil => exact h
  | cons a l ih => exact ih (hg _ _ h)

theorem Leaves.set_pending {P : Nat} {s t : State} (hP : P &&& 1 = 1) (h : Leaves P s t) (v) :
    Leaves P s { t with pending := v } := by
  have b : P.testBit 0 = true := part_bit 0 hP
  exact { h with pending := fun x => by simp [b] at x }

theorem Leaves.set_latch {P : Nat} {s t : State} (hP : P &&& 16 = 16) (h : Leaves P s t) (v) :
    Leaves P s { t with latch := v } := by
  have b : P.testBit 4 = true := part_bit 4 hP
  exact { h with latch := fun x => by simp [b] at x }

theorem Leaves.set_poisoned {P : Nat} {s t : State} (hP : P &&& 32 = 32) (h : Leaves P s t) (v) :
    Leaves P s { t with poisoned := v } := by
  have b : P.testBit 5 = true := part_bit 5 hP
  exact { h with poisoned := fun x => by simp [b] at x }

theorem Leaves.set_readData {P : Nat} {s t : State} (hP : P &&& 64 = 64) (h : Leaves P s t) (v) :
    Leaves P s { t with readData := v } := by
  have b : P.testBit 6 = true := part_bit 6 hP
  exact { h with readData := fun x => by simp [b] at x }

theorem Leaves.set_coreFaults {P : Nat} {s t : State} (hP : P &&& 128 = 128) (h : Leaves P s t) (v) :
    Leaves P s { t with coreFaults := v } := by
  have b : P.testBit 7 = true := part_bit 7 hP
  exact { h with coreFaults := fun x => by simp [b] at x }

theorem Leaves.set_outcome {P : Nat} {s t : State} (hP : P &&& 256 = 256) (h : Leaves P s t) (v) :
    Leaves P s { t with outcome := v } := by
  have b : P.testBit 8 = true := part_bit 8 hP
  exact { h with outcome := fun x => by simp [b] at x }

theorem Leaves.set_fresh {P : Nat} {s t : State} (hP : P &&& 512 = 512) (h : Leaves P s t) (v) :
    Leaves P s { t with fresh := v } := by
  have b : P.testBit 9 = true := part_bit 9 hP
  exact { h with fresh := fun x => by simp [b] at x }

theorem Leaves.set_time {P : Nat} {s t : State} (hP : P &&& 1024 = 1024) (h : Leaves P s t) (v) :
    Leaves P s { t with time := v } := by
  have b : P.testBit 10 = true := part_bit 10 hP
  exact { h with time := fun x => by simp [b] at x }

theorem Leaves.set_health {P : Nat} {s t : State} (hP : P &&& 2048 = 2048) (h : Leaves P s t) (v) :
    Leaves P s { t with health := v } := by
  have b : P.testBit 11 = true := part_bit 11 hP
  exact { h with health := fun x => by simp [b] at x }

theorem Leaves.set_zdp {P : Nat} {s t : State} (hP : P &&& 4096 = 4096) (h : Leaves P s t) (v) :
    Leaves P s { t with zdp := v } := by
  have b : P.testBit 12 = true := part_bit 12 hP
  exact { h with zdp := fun x => by simp [b] at x }

theorem Leaves.set_ports {P : Nat} {s t : State} (hP : P &&& 8192 = 8192) (h : Leaves P s t) (v) :
    Leaves P s { t with ports := v } := by
  have b : P.testBit 13 = true := part_bit 13 hP
  exact { h with ports := fun x => by simp [b] at x }

theorem Leaves.set_journal {P : Nat} {s t : State} (hP : P &&& 16384 = 16384) (h : Leaves P s t) (v) :
    Leaves P s { t with journal := v } := by
  have b : P.testBit 14 = true := part_bit 14 hP
  exact { h with journal := fun x => by simp [b] at x }

theorem Leaves.set_claims {P : Nat} {s t : State} (hP : P &&& 32768 = 32768) (h : Leaves P s t) (v) :
    Leaves P s { t with claims := v } := by
  have b : P.testBit 15 = true := part_bit 15 hP
  exact { h with claims := fun x => by simp [b] at x }

theorem Leaves.set_gate {P : Nat} {s t : State} (hP : P &&& 65536 = 65536) (h : Leaves P s t) (v) :
    Leaves P s { t with gate := v } := by
  have b : P.testBit 16 = true := part_bit 16 hP
  exact { h with gate := fun x => by simp [b] at x }

theorem Leaves.set_loop {P : Nat} {s t : State} (hP : P &&& 131072 = 131072) (h : Leaves P s t) (v) :
    Leaves P s { t with loop := v } := by
  have b : P.testBit 17 = true := part_bit 17 hP
  exact { h with loop := fun x => by simp [b] at x }

theorem Leaves.set_can {P : Nat} {s t : State} (hP : P &&& 262144 = 262144) (h : Leaves P s t) (v) :
    Leaves P s { t with can := v } := by
  have b : P.testBit 18 = true := part_bit 18 hP
  exact { h with can := fun x => by simp [b] at x }

theorem Leaves.set_safety {P : Nat} {s t : State} (hP : P &&& 524288 = 524288) (h : Leaves P s t) (v) :
    Leaves P s { t with safety := v } := by
  have b : P.testBit 19 = true := part_bit 19 hP
  exact { h with safety := fun x => by simp [b] at x }

theorem Leaves.set_hub {P : Nat} {s t : State} (hP : P &&& 1048576 = 1048576) (h : Leaves P s t) (v) :
    Leaves P s { t with hub := v } := by
  have b : P.testBit 20 = true := part_bit 20 hP
  exact { h with hub := fun x => by simp [b] at x }

theorem Leaves.set_fabric {P : Nat} {s t : State} (hP : P &&& 2097152 = 2097152) (h : Leaves P s t) (v) :
    Leaves P s { t with fabric := v } := by
  have b : P.testBit 21 = true := part_bit 21 hP
  exact { h with fabric := fun x => by simp [b] at x }

theorem Leaves.set_stages {P : Nat} {s t : State} (hP : P &&& 4194304 = 4194304) (h : Leaves P s t) (v) :
    Leaves P s { t with stages := v } := by
  have b : P.testBit 22 = true := part_bit 22 hP
  exact { h with stages := fun x => by simp [b] at x }

theorem Leaves.set_lauter {P : Nat} {s t : State} (hP : P &&& 8388608 = 8388608) (h : Leaves P s t) (v) :
    Leaves P s { t with lauter := v } := by
  have b : P.testBit 23 = true := part_bit 23 hP
  exact { h with lauter := fun x => by simp [b] at x }

theorem Leaves.set_pfu {P : Nat} {s t : State} (hP : P &&& 16777216 = 16777216) (h : Leaves P s t) (v) :
    Leaves P s { t with pfu := v } := by
  have b : P.testBit 24 = true := part_bit 24 hP
  exact { h with pfu := fun x => by simp [b] at x }

theorem Leaves.set_health_zdp {P : Nat} {s t : State} (hP : P &&& 6144 = 6144) (h : Leaves P s t) (v w) :
    Leaves P s { t with health := v, zdp := w } := by
  have b : P.testBit 11 = true := part_bit 11 (part_trans hP (by decide))
  have c : P.testBit 12 = true := part_bit 12 (part_trans hP (by decide))
  exact { h with health := fun x => by simp [b] at x, zdp := fun x => by simp [c] at x }

theorem Leaves.set_time_readData {P : Nat} {s t : State} (hP : P &&& 1088 = 1088) (h : Leaves P s t) (v w) :
    Leaves P s { t with time := v, readData := w } := by
  have b : P.testBit 10 = true := part_bit 10 (part_trans hP (by decide))
  have c : P.testBit 6 = true := part_bit 6 (part_trans hP (by decide))
  exact { h with time := fun x => by simp [b] at x, readData := fun x => by simp [c] at x }

theorem Leaves.ite {P : Nat} {s t u : State} {c : Prop} [Decidable c] (h : c → Leaves P s t) (k : ¬c → Leaves P s u) :
    Leaves P s (if c then t else u) := by
  split
  · exact h ‹_›
  · exact k ‹_›

theorem OutLeaves.ite {P : Nat} {s : State} {t u : Host.Outcome State Fault Refusal} {c : Prop} [Decidable c]
    (h : c → OutLeaves P s t) (k : ¬c → OutLeaves P s u) : OutLeaves P s (if c then t else u) := by
  split
  · exact h ‹_›
  · exact k ‹_›

theorem OptLeaves.ite {P : Nat} {s : State} {t u : Option State} {c : Prop} [Decidable c]
    (h : c → OptLeaves P s t) (k : ¬c → OptLeaves P s u) : OptLeaves P s (if c then t else u) := by
  split
  · exact h ‹_›
  · exact k ‹_›

theorem Leaves.foldl_fst {α β : Type} {P : Nat} {s : State} {p : State × β} {g : State × β → α → State × β}
    (hg : ∀ u x, Leaves P s u.1 → Leaves P s (g u x).1) (l : List α) (h : Leaves P s p.1) :
    Leaves P s (l.foldl g p).1 := by
  induction l generalizing p with
  | nil => exact h
  | cons a l ih => exact ih (hg _ _ h)

theorem Leaves.foldl_snd {α β : Type} {P : Nat} {s : State} {p : β × State} {g : β × State → α → β × State}
    (hg : ∀ u x, Leaves P s u.2 → Leaves P s (g u x).2) (l : List α) (h : Leaves P s p.2) :
    Leaves P s (l.foldl g p).2 := by
  induction l generalizing p with
  | nil => exact h
  | cons a l ih => exact ih (hg _ _ h)

theorem OptLeaves.some {P : Nat} {s t : State} (h : Leaves P s t) : OptLeaves P s (.some t) := by
  intro u e; cases e; exact h

theorem OptLeaves.none {P : Nat} {s : State} : OptLeaves P s .none := by
  intro u e; cases e

theorem Leaves.of_some {P : Nat} {s t : State} {o : Option State} (e : o = .some t) (h : OptLeaves P s o) :
    Leaves P s t := h t e

theorem Leaves.getD {P : Nat} {s t : State} {o : Option State} (h : OptLeaves P s o) (k : Leaves P s t) :
    Leaves P s (o.getD t) := by
  cases o with
  | none => exact k
  | some u => exact h u rfl

theorem Leaves.of_fst {P : Nat} {s t : State} {α : Type} {x : State × α} {a : α} (e : x = (t, a))
    (h : Leaves P s x.1) : Leaves P s t := by subst e; exact h

theorem Leaves.of_snd {P : Nat} {s t : State} {α : Type} {x : α × State} {a : α} (e : x = (a, t))
    (h : Leaves P s x.2) : Leaves P s t := by subst e; exact h

/-- All places of the field's array lie in one register block. -/
def Field.fits (f : Field) : Bool :=
  let e := f.base + (f.n1 - 1) * (if f.banked then 0 else f.s1) + (f.n2 - 1) * f.s2
  decide (f.lo < 32 ∧ 0 < f.n1 ∧ 0 < f.n2 ∧ e < 2 ^ 32 ∧ (f.base / 0x10000 = e / 0x10000 ∨ e < 0x40000000))

/-- The bits `P` name the block of field `f`. -/
def covers (P : Nat) (f : Field) : Bool := f.fits && P.testBit (25 + (blockAt (f.key 0 0)).index)

theorem blockAt_eq (k l : Nat) (h : k / 32 % 2 ^ 32 / 0x10000 = l / 32 % 2 ^ 32 / 0x10000 ∨
    k / 32 % 2 ^ 32 < 0x40000000 ∧ l / 32 % 2 ^ 32 < 0x40000000) : blockAt k = blockAt l := by
  unfold blockAt
  generalize k / 32 % 2 ^ 32 = a, l / 32 % 2 ^ 32 = b at *
  dsimp only
  obtain h | h := h
  · rw [h]
    by_cases c : a < 0x40000000 ∨ 0x40100000 ≤ a
    · have : b < 0x40000000 ∨ 0x40100000 ≤ b := by omega
      simp only [c, this, if_true]
    · have : ¬(b < 0x40000000 ∨ 0x40100000 ≤ b) := by omega
      simp only [c, this, if_false]
  · simp only [h.1, h.2, true_or, if_true]

theorem Field.block_key (f : Field) (h : f.fits = true) (i j : Nat) : blockAt (f.key i j) = blockAt (f.key 0 0) := by
  simp only [Field.fits, decide_eq_true_eq] at h
  obtain ⟨hlo, h1, h2, he, hb⟩ := h
  have hi : i % f.n1 ≤ f.n1 - 1 := by have := Nat.mod_lt i h1; omega
  have hj : j % f.n2 * f.s2 ≤ (f.n2 - 1) * f.s2 := by
    have := Nat.mod_lt j h2
    exact Nat.mul_le_mul_right _ (by omega)
  apply blockAt_eq
  simp only [Field.key, Nat.zero_mod, Nat.zero_mul, Nat.add_zero]
  cases hk : f.banked with
  | true =>
    simp only [hk, if_true, Nat.mul_zero, Nat.add_zero] at he hb ⊢
    omega
  | false =>
    simp only [hk, Bool.false_eq_true, if_false] at he hb ⊢
    have : i % f.n1 * f.s1 ≤ (f.n1 - 1) * f.s1 := Nat.mul_le_mul_right _ hi
    omega

theorem part_test {P Q : Nat} (hP : P &&& Q = Q) {i : Nat} (h : Q.testBit i = true) : P.testBit i = true := by
  have := congrArg (fun n => n.testBit i) hP
  simpa [Nat.testBit_and, h] using this

theorem cov_trans {P Q : Nat} {f : Field} (hP : P &&& Q = Q) (h : covers Q f = true) : covers P f = true := by
  simp only [covers, Bool.and_eq_true] at h ⊢
  exact ⟨h.1, part_test hP h.2⟩

theorem State.wr_leaves {P : Nat} {s₀ s : State} (h : Leaves P s₀ s) (f : Field) (hf : covers P f = true) (v i j : Nat) :
    Leaves P s₀ (s.wr f v i j) := by
  simp only [covers, Bool.and_eq_true] at hf
  refine { h with tidy := fun x => ?_, regs := fun k x d => ?_ }
  · have := h.tidy x
    simp only [State.tidy, Bool.and_eq_true, State.wr] at this ⊢
    exact ⟨⟨this.1.1, Map.sorted_put _ _ this.1.2⟩, this.2⟩
  · rw [← h.regs k x d]
    refine Map.get_put_ne _ _ _ _ _ fun e => ?_
    rw [e, Field.block_key f hf.1, hf.2] at x
    cases x

/-- The bits of all register blocks. -/
def allBlocks : Nat := 131071 * 2 ^ 25

theorem allBlocks_test {P : Nat} (hP : P &&& allBlocks = allBlocks) (b : Block) : P.testBit (25 + b.index) = true :=
  part_test hP (by cases b <;> decide)

theorem State.wr_any {P : Nat} {s₀ s : State} (hP : P &&& allBlocks = allBlocks) (h : Leaves P s₀ s) (f : Field)
    (v i j : Nat) : Leaves P s₀ (s.wr f v i j) := by
  refine { h with tidy := fun x => ?_, regs := fun k x => by simp [allBlocks_test hP] at x }
  have := h.tidy x
  simp only [State.tidy, Bool.and_eq_true, State.wr] at this ⊢
  exact ⟨⟨this.1.1, Map.sorted_put _ _ this.1.2⟩, this.2⟩

theorem State.setObj_leaves {P : Nat} {s₀ s : State} (hP : P &&& 8 = 8) (h : Leaves P s₀ s) (o : ObjDef) (v : Val)
    (i k : Nat) : Leaves P s₀ (s.setObj o v i k) := by
  have b : P.testBit 3 = true := part_bit 3 hP
  refine { h with tidy := fun x => ?_, dict := fun x => by simp [b] at x }
  have := h.tidy x
  simp only [State.tidy, Bool.and_eq_true, State.setObj] at this ⊢
  exact ⟨this.1, Map.sorted_put _ _ this.2⟩

theorem State.poke_leaves {P : Nat} {s₀ s : State} (hP : P &&& 36 = 36) (h : Leaves P s₀ s) (a : Nat) (bs : List Byte) :
    Leaves P s₀ (s.poke a bs) := by
  have b : P.testBit 2 = true := part_bit 2 (part_trans hP (by decide))
  have c : P.testBit 5 = true := part_bit 5 (part_trans hP (by decide))
  refine { h with tidy := fun x => ?_, mem := fun x => by simp [b] at x, poisoned := fun x => by simp [c] at x }
  have := h.tidy x
  simp only [State.tidy, Bool.and_eq_true, State.poke] at this ⊢
  exact ⟨⟨Memory.wf_putList _ _ this.1.1, this.1.2⟩, this.2⟩

/-- The bit of a part. -/
def Part.bit : Part → Nat
  | .regs b => 2 ^ (25 + b.index)
  | .mem => 4
  | .dict => 8
  | .latch => 16
  | .poisoned => 32
  | .readData => 64
  | .coreFaults => 128
  | .outcome => 256
  | .fresh => 512
  | .time => 1024
  | .health => 2048
  | .zdp => 4096
  | .ports => 8192
  | .journal => 16384
  | .claims => 32768
  | .gate => 65536
  | .loop => 131072
  | .can => 262144
  | .safety => 524288
  | .hub => 1048576
  | .fabric => 2097152
  | .stages => 4194304
  | .lauter => 8388608
  | .pfu => 16777216

/-- The bits of a list of parts. -/
def partBits (ps : List Part) : Nat := ps.foldr (fun p n => p.bit ||| n) 0

theorem partBits_test {ps : List Part} (p : Part) (i : Nat)
    (inj : ∀ q : Part, q.bit.testBit i = true → q = p) (h : p ∉ ps) : (partBits ps).testBit i = false := by
  induction ps with
  | nil => simp [partBits]
  | cons q qs ih =>
    simp only [List.mem_cons, not_or] at h
    have k := ih h.2
    simp only [partBits, List.foldr_cons, Nat.testBit_or] at k ⊢
    rw [k, Bool.or_false]
    by_contra c
    exact h.1 (inj q (by simpa using c)).symm

theorem partBits_low (ps : List Part) : (partBits ps).testBit 0 = false := by
  induction ps with
  | nil => simp [partBits]
  | cons q qs ih =>
    simp only [partBits, List.foldr_cons, Nat.testBit_or] at ih ⊢
    rw [ih, Bool.or_false]
    cases q with
    | regs b => cases b <;> decide
    | _ => decide

theorem regs_bit (q : Part) (b : Block) (h : q.bit.testBit (25 + b.index) = true) : q = .regs b := by
  cases q with
  | regs c => cases b <;> cases c <;> first | rfl | (revert h; decide)
  | _ => exact absurd h (by cases b <;> decide)

/-- From what an operation leaves to what a command keeps. -/
theorem Leaves.keeps {ps : List Part} {s t : State} (h : Leaves (partBits ps) s t) : Keeps ps s t where
  pending := h.pending (partBits_low ps)
  regs f i j x := h.regs _ (partBits_test (.regs (blockAt (f.key i j))) _ (fun q e => regs_bit q _ e) x) _
  mem x a := by rw [h.mem (partBits_test .mem 2 (by intro q; cases q with | regs b => cases b <;> decide | _ => decide) x)]
  dict x o i k := by rw [State.obj, State.obj, h.dict (partBits_test .dict 3 (by intro q; cases q with | regs b => cases b <;> decide | _ => decide) x)]
  latch x := h.latch (partBits_test .latch 4 (by intro q; cases q with | regs b => cases b <;> decide | _ => decide) x)
  poisoned x := h.poisoned (partBits_test .poisoned 5 (by intro q; cases q with | regs b => cases b <;> decide | _ => decide) x)
  readData x := h.readData (partBits_test .readData 6 (by intro q; cases q with | regs b => cases b <;> decide | _ => decide) x)
  coreFaults x := h.coreFaults (partBits_test .coreFaults 7 (by intro q; cases q with | regs b => cases b <;> decide | _ => decide) x)
  outcome x := h.outcome (partBits_test .outcome 8 (by intro q; cases q with | regs b => cases b <;> decide | _ => decide) x)
  fresh x := h.fresh (partBits_test .fresh 9 (by intro q; cases q with | regs b => cases b <;> decide | _ => decide) x)
  time x := h.time (partBits_test .time 10 (by intro q; cases q with | regs b => cases b <;> decide | _ => decide) x)
  health x := h.health (partBits_test .health 11 (by intro q; cases q with | regs b => cases b <;> decide | _ => decide) x)
  zdp x := h.zdp (partBits_test .zdp 12 (by intro q; cases q with | regs b => cases b <;> decide | _ => decide) x)
  ports x := h.ports (partBits_test .ports 13 (by intro q; cases q with | regs b => cases b <;> decide | _ => decide) x)
  journal x := h.journal (partBits_test .journal 14 (by intro q; cases q with | regs b => cases b <;> decide | _ => decide) x)
  claims x := h.claims (partBits_test .claims 15 (by intro q; cases q with | regs b => cases b <;> decide | _ => decide) x)
  gate x := h.gate (partBits_test .gate 16 (by intro q; cases q with | regs b => cases b <;> decide | _ => decide) x)
  loop x := h.loop (partBits_test .loop 17 (by intro q; cases q with | regs b => cases b <;> decide | _ => decide) x)
  can x := h.can (partBits_test .can 18 (by intro q; cases q with | regs b => cases b <;> decide | _ => decide) x)
  safety x := h.safety (partBits_test .safety 19 (by intro q; cases q with | regs b => cases b <;> decide | _ => decide) x)
  hub x := h.hub (partBits_test .hub 20 (by intro q; cases q with | regs b => cases b <;> decide | _ => decide) x)
  fabric x := h.fabric (partBits_test .fabric 21 (by intro q; cases q with | regs b => cases b <;> decide | _ => decide) x)
  stages x := h.stages (partBits_test .stages 22 (by intro q; cases q with | regs b => cases b <;> decide | _ => decide) x)
  lauter x := h.lauter (partBits_test .lauter 23 (by intro q; cases q with | regs b => cases b <;> decide | _ => decide) x)
  pfu x := h.pfu (partBits_test .pfu 24 (by intro q; cases q with | regs b => cases b <;> decide | _ => decide) x)

/-- A command completes: the outcome, what its meaning leaves, and what holds of the next state. -/
theorem Does.of {i : Instr} {s t : State} {ps : List Part} {Q : State → Prop} (e : exec i s = .next t)
    (h : OutLeaves (partBits ps) s (exec i s)) (q : Q t) : Does i s ps Q := ⟨t, e, (h t e).keeps, q⟩

end Sys2Proof.Machine
end

