-- ==== Sys2Proof/Laws/LeavesFlags.lean ====
section
/-! SUPPORT. What each operation of Machine/Flags.lean leaves. -/

set_option linter.unusedTactic false
set_option linter.unreachableTactic false

namespace Sys2Proof.Machine

theorem State.put_leaves {P : Nat} {s₀ s : State} (h : Leaves P s₀ s) (f : Field) (hf_f : covers P f = true) (b : Bool) (i j : Nat) :
    Leaves P s₀ (State.put s f b i j) := by
  unfold State.put
  repeat' first
    | with_reducible assumption | with_reducible exact cov_trans hP (by decide) | with_reducible apply State.wr_leaves

theorem State.raise_leaves {P : Nat} {s₀ s : State} (h : Leaves P s₀ s) (f : Field) (hf_f : covers P f = true) (i j : Nat) :
    Leaves P s₀ (State.raise s f i j) := by
  unfold State.raise
  repeat' first
    | with_reducible assumption | with_reducible exact cov_trans hP (by decide) | with_reducible apply State.wr_leaves

theorem State.incWrap_leaves {P : Nat} {s₀ s : State} (h : Leaves P s₀ s) (f : Field) (hf_f : covers P f = true) (i j : Nat) (by_ : Nat) :
    Leaves P s₀ (State.incWrap s f i j by_) := by
  unfold State.incWrap
  repeat' first
    | with_reducible assumption | with_reducible exact cov_trans hP (by decide) | with_reducible apply State.wr_leaves

theorem State.incSat_leaves {P : Nat} {s₀ s : State} (h : Leaves P s₀ s) (f : Field) (hf_f : covers P f = true) (i j : Nat) (by_ : Nat) :
    Leaves P s₀ (State.incSat s f i j by_) := by
  unfold State.incSat
  repeat' first
    | with_reducible assumption | with_reducible exact cov_trans hP (by decide) | with_reducible apply State.wr_leaves

theorem State.decSat_leaves {P : Nat} {s₀ s : State} (h : Leaves P s₀ s) (f : Field) (hf_f : covers P f = true) (i j : Nat) :
    Leaves P s₀ (State.decSat s f i j) := by
  unfold State.decSat
  repeat' first
    | with_reducible assumption | with_reducible exact cov_trans hP (by decide) | with_reducible apply State.wr_leaves

theorem State.setBitIn_leaves {P : Nat} {s₀ s : State} (h : Leaves P s₀ s) (f : Field) (hf_f : covers P f = true) (b : Nat) (i j : Nat) :
    Leaves P s₀ (State.setBitIn s f b i j) := by
  unfold State.setBitIn
  repeat' first
    | with_reducible assumption | with_reducible exact cov_trans hP (by decide) | with_reducible apply State.wr_leaves

theorem State.clearBitIn_leaves {P : Nat} {s₀ s : State} (h : Leaves P s₀ s) (f : Field) (hf_f : covers P f = true) (b : Nat) (i j : Nat) :
    Leaves P s₀ (State.clearBitIn s f b i j) := by
  unfold State.clearBitIn
  repeat' first
    | with_reducible assumption | with_reducible exact cov_trans hP (by decide) | with_reducible apply State.wr_leaves

theorem State.wr2_leaves {P : Nat} {s₀ s : State} (h : Leaves P s₀ s) (lo hi : Field) (hf_lo : covers P lo = true) (hf_hi : covers P hi = true) (v : Nat) (i j : Nat) :
    Leaves P s₀ (State.wr2 s lo hi v i j) := by
  unfold State.wr2
  repeat' first
    | with_reducible assumption | with_reducible exact cov_trans hP (by decide) | with_reducible apply State.wr_leaves

theorem State.wrS_leaves {P : Nat} {s₀ s : State} (h : Leaves P s₀ s) (f : Field) (hf_f : covers P f = true) (z : Int) (i j : Nat) :
    Leaves P s₀ (State.wrS s f z i j) := by
  unfold State.wrS
  repeat' first
    | with_reducible assumption | with_reducible exact cov_trans hP (by decide) | with_reducible apply State.wr_leaves

theorem State.dropObjs_leaves {P : Nat} {s₀ s : State} (hP : P &&& 8 = 8) (h : Leaves P s₀ s) (keys : Nat → Bool) :
    Leaves P s₀ (s.dropObjs keys) := by
  have b : P.testBit 3 = true := part_bit 3 hP
  refine { h with tidy := fun x => ?_, dict := fun x => by simp [b] at x }
  have := h.tidy x
  simp only [State.tidy, Bool.and_eq_true, State.dropObjs] at this ⊢
  exact ⟨this.1, Map.sorted_filter _ this.2⟩

theorem State.setObjN_leaves {P : Nat} {s₀ s : State} (hP : P &&& 8 = 8) (h : Leaves P s₀ s) (o : ObjDef) (n : Nat) (i k : Nat) :
    Leaves P s₀ (State.setObjN s o n i k) := by
  unfold State.setObjN
  repeat' first
    | with_reducible assumption | with_reducible apply State.setObj_leaves (part_trans hP (by decide))

theorem State.answer_leaves {P : Nat} {s₀ s : State} (hP : P &&& 256 = 256) (h : Leaves P s₀ s) (reason : Nat) :
    Leaves P s₀ (State.answer s reason) := by
  unfold State.answer
  repeat' first
    | with_reducible assumption | dsimp only | with_reducible apply Leaves.set_outcome (part_trans hP (by decide))

theorem State.nextFresh_leaves {P : Nat} {s₀ s : State} (hP : P &&& 512 = 512) (h : Leaves P s₀ s) :
    Leaves P s₀ (State.nextFresh s) := by
  unfold State.nextFresh
  repeat' first
    | with_reducible assumption | dsimp only | with_reducible apply Leaves.set_fresh (part_trans hP (by decide))

end Sys2Proof.Machine
end

