-- ==== Sys2Proof/Laws/LeavesOps.lean ====
section
/-! SUPPORT. What each operation of Machine/Ops.lean leaves. -/

set_option linter.unusedTactic false
set_option linter.unreachableTactic false

namespace Sys2Proof.Machine

theorem State.gristPut_leaves {P : Nat} {s₀ s : State} (hP : P &&& 36 = 36) (h : Leaves P s₀ s) (off : Nat) (bs : List Byte) :
    Leaves P s₀ (State.gristPut s off bs) := by
  unfold State.gristPut
  repeat' first
    | with_reducible assumption | with_reducible apply State.poke_leaves (part_trans hP (by decide))

theorem State.evAdd_leaves {P : Nat} {s₀ s : State} (hP : P &&& 34359738368 = 34359738368) (h : Leaves P s₀ s) (n w : Nat) :
    Leaves P s₀ (State.evAdd s n w) := by
  unfold State.evAdd
  repeat' first
    | with_reducible assumption | with_reducible exact cov_trans hP (by decide)
    | with_reducible apply State.raise_leaves | with_reducible apply State.setBitIn_leaves
    | with_reducible apply State.wr2_leaves | with_reducible apply Leaves.ite | split | with_reducible intro _
    | dsimp only

theorem State.evCount_leaves {P : Nat} {s₀ s : State} (hP : P &&& 34359738368 = 34359738368) (h : Leaves P s₀ s) (n w : Nat) :
    Leaves P s₀ (State.evCount s n w) := by
  unfold State.evCount
  repeat' first
    | with_reducible assumption | with_reducible apply State.evAdd_leaves (part_trans hP (by decide))
    | with_reducible apply Leaves.ite | split | with_reducible intro _ | dsimp only

theorem State.count_leaves {P : Nat} {s₀ s : State} (hP : P &&& 34359738368 = 34359738368) (h : Leaves P s₀ s) (event : Nat) (inst : Option Nat) (w : Nat) :
    Leaves P s₀ (State.count s event inst w) := by
  unfold State.count
  repeat' first
    | with_reducible assumption | with_reducible apply State.evCount_leaves (part_trans hP (by decide))
    | with_reducible apply Leaves.ite | with_reducible apply Leaves.foldl | split | with_reducible intro _
    | dsimp only

theorem State.histInc_leaves {P : Nat} {s₀ s : State} (hP : P &&& 34359738368 = 34359738368) (h : Leaves P s₀ s) (f : Field) (hf_f : covers P f = true) (h i : Nat) :
    Leaves P s₀ (State.histInc s f h i) := by
  unfold State.histInc
  repeat' first
    | with_reducible assumption | with_reducible exact cov_trans hP (by decide)
    | with_reducible apply State.incSat_leaves | with_reducible apply State.raise_leaves
    | with_reducible apply Leaves.ite | split | with_reducible intro _ | dsimp only

theorem State.histAdd_leaves {P : Nat} {s₀ s : State} (hP : P &&& 34359738368 = 34359738368) (h : Leaves P s₀ s) (h l : Nat) :
    Leaves P s₀ (State.histAdd s h l) := by
  unfold State.histAdd
  repeat' first
    | with_reducible assumption | with_reducible exact cov_trans hP (by decide)
    | with_reducible apply State.histInc_leaves (part_trans hP (by decide)) | with_reducible apply State.raise_leaves
    | with_reducible apply State.wr_leaves | with_reducible apply State.wr2_leaves | with_reducible apply Leaves.ite
    | split | with_reducible intro _ | dsimp only

theorem State.latency_leaves {P : Nat} {s₀ s : State} (hP : P &&& 34359738368 = 34359738368) (h : Leaves P s₀ s) (src : Nat) (inst : Option Nat) (t0 t1 : Nat) :
    Leaves P s₀ (State.latency s src inst t0 t1) := by
  unfold State.latency
  repeat' first
    | with_reducible assumption | with_reducible apply State.histAdd_leaves (part_trans hP (by decide))
    | with_reducible apply Leaves.ite | with_reducible apply Leaves.foldl | split | with_reducible intro _
    | dsimp only

theorem State.setPeer_leaves {P : Nat} {s₀ s : State} (hP : P &&& 32768 = 32768) (h : Leaves P s₀ s) (m : Nat) (f : PeerView → PeerView) :
    Leaves P s₀ (State.setPeer s m f) := by
  unfold State.setPeer
  repeat' first
    | with_reducible assumption | dsimp only | with_reducible apply Leaves.set_claims (part_trans hP (by decide))

theorem State.noteLink_leaves {P : Nat} {s₀ s : State} (hP : P &&& 8192 = 8192) (h : Leaves P s₀ s) (l bytes : Nat) (alarm : Bool) :
    Leaves P s₀ (State.noteLink s l bytes alarm) := by
  unfold State.noteLink
  repeat' first
    | with_reducible assumption | with_reducible intro _ | dsimp only
    | with_reducible apply Leaves.set_ports (part_trans hP (by decide))

theorem State.sendLink_leaves {P : Nat} {s₀ s : State} (hP : P &&& 8192 = 8192) (h : Leaves P s₀ s) (l : Nat) (alarm : Bool) (p : PeerPayload) :
    Leaves P s₀ (State.sendLink s l alarm p) := by
  unfold State.sendLink
  repeat' first
    | with_reducible assumption | with_reducible exact cov_trans hP (by decide)
    | with_reducible apply State.noteLink_leaves (part_trans hP (by decide)) | with_reducible apply State.put_leaves
    | dsimp only | with_reducible apply Leaves.set_ports (part_trans hP (by decide))

theorem State.sendPeer_leaves {P : Nat} {s₀ s : State} (hP : P &&& 8192 = 8192) (h : Leaves P s₀ s) (m : Nat) (alarm : Bool) (p : PeerPayload) :
    Leaves P s₀ (State.sendPeer s m alarm p) := by
  unfold State.sendPeer
  repeat' first
    | with_reducible assumption | with_reducible apply State.sendLink_leaves (part_trans hP (by decide)) | split
    | with_reducible intro _

theorem State.sendBoth_leaves {P : Nat} {s₀ s : State} (hP : P &&& 8192 = 8192) (h : Leaves P s₀ s) (m : Nat) (p : PeerPayload) :
    Leaves P s₀ (State.sendBoth s m p) := by
  unfold State.sendBoth
  repeat' first
    | with_reducible assumption | with_reducible apply State.sendLink_leaves (part_trans hP (by decide))
    | with_reducible apply Leaves.foldl | with_reducible intro _ | dsimp only

theorem State.sendAll_leaves {P : Nat} {s₀ s : State} (hP : P &&& 8192 = 8192) (h : Leaves P s₀ s) (p : PeerPayload) :
    Leaves P s₀ (State.sendAll s p) := by
  unfold State.sendAll
  repeat' first
    | with_reducible assumption | with_reducible apply State.sendPeer_leaves (part_trans hP (by decide))
    | with_reducible apply Leaves.foldl | with_reducible intro _ | dsimp only

theorem State.sendAllBoth_leaves {P : Nat} {s₀ s : State} (hP : P &&& 8192 = 8192) (h : Leaves P s₀ s) (p : PeerPayload) :
    Leaves P s₀ (State.sendAllBoth s p) := by
  unfold State.sendAllBoth
  repeat' first
    | with_reducible assumption | with_reducible apply State.sendBoth_leaves (part_trans hP (by decide))
    | with_reducible apply Leaves.foldl | with_reducible intro _ | dsimp only

theorem State.ringWrite_leaves {P : Nat} {s₀ s : State} (hP : P &&& 2048 = 2048) (h : Leaves P s₀ s) (a : AlarmRec) :
    Leaves P s₀ (State.ringWrite s a) := by
  unfold State.ringWrite
  repeat' first
    | with_reducible assumption | with_reducible exact cov_trans hP (by decide)
    | with_reducible apply State.put_leaves | dsimp only
    | with_reducible apply Leaves.set_health (part_trans hP (by decide))

theorem State.toRing_leaves {P : Nat} {s₀ s : State} (hP : P &&& 68719478784 = 68719478784) (h : Leaves P s₀ s) (a : AlarmRec) :
    Leaves P s₀ (State.toRing s a) := by
  unfold State.toRing
  repeat' first
    | with_reducible assumption | with_reducible exact cov_trans hP (by decide)
    | with_reducible apply State.raise_leaves
    | with_reducible apply State.ringWrite_leaves (part_trans hP (by decide)) | with_reducible apply Leaves.ite
    | split | with_reducible intro _ | dsimp only | with_reducible apply Leaves.set_health (part_trans hP (by decide))

theorem State.takeAlarm_leaves {P : Nat} {s₀ s : State} (hP : P &&& 68719478784 = 68719478784) (h : Leaves P s₀ s) (a : AlarmRec) :
    Leaves P s₀ (State.takeAlarm s a) := by
  unfold State.takeAlarm
  repeat' first
    | with_reducible assumption | with_reducible apply State.toRing_leaves (part_trans hP (by decide))
    | with_reducible apply Leaves.ite | split | with_reducible intro _ | dsimp only
    | with_reducible apply Leaves.set_health (part_trans hP (by decide))

theorem State.alarmWith_leaves {P : Nat} {s₀ s : State} (hP : P &&& 103079229960 = 103079229960) (h : Leaves P s₀ s) (code unit : Nat) (time : Stamp) (detail : List Word) (text : List Byte) :
    Leaves P s₀ (State.alarmWith s code unit time detail text) := by
  unfold State.alarmWith
  repeat' first
    | with_reducible assumption | with_reducible exact cov_trans hP (by decide)
    | with_reducible apply State.alarm_leaves (part_trans hP (by decide))
    | with_reducible apply State.count_leaves (part_trans hP (by decide)) | with_reducible apply State.raise_leaves
    | with_reducible apply State.sendPeer_leaves (part_trans hP (by decide))
    | with_reducible apply State.takeAlarm_leaves (part_trans hP (by decide)) | with_reducible apply Leaves.ite
    | with_reducible apply Leaves.foldl | split | with_reducible intro _ | dsimp only
    | with_reducible apply Leaves.set_health (part_trans hP (by decide))

theorem State.alarmCore_leaves {P : Nat} {s₀ s : State} (hP : P &&& 103079229960 = 103079229960) (h : Leaves P s₀ s) (b : HwBlock) (name : String) (unit : Nat) :
    Leaves P s₀ (State.alarmCore s b name unit) := by
  unfold State.alarmCore
  repeat' first
    | with_reducible assumption | with_reducible apply State.alarmWith_leaves (part_trans hP (by decide))
    | with_reducible apply State.nextFresh_leaves (part_trans hP (by decide))

theorem State.endLostSubs_leaves {P : Nat} {s₀ s : State} (hP : P &&& 103079229960 = 103079229960) (h : Leaves P s₀ s) :
    Leaves P s₀ (State.endLostSubs s) := by
  unfold State.endLostSubs
  repeat' first
    | with_reducible assumption | with_reducible exact cov_trans hP (by decide)
    | with_reducible apply State.alarmCore_leaves (part_trans hP (by decide))
    | with_reducible apply State.raise_leaves | with_reducible apply State.setObjN_leaves (part_trans hP (by decide))
    | with_reducible apply Leaves.foldl | with_reducible intro _ | dsimp only
    | with_reducible apply Leaves.set_zdp (part_trans hP (by decide))

theorem State.alarm_leaves {P : Nat} {s₀ s : State} (hP : P &&& 103079229960 = 103079229960) (h : Leaves P s₀ s) (b : HwBlock) (name : String) (unit : Nat) :
    Leaves P s₀ (State.alarm s b name unit) := by
  unfold State.alarm
  repeat' first
    | with_reducible assumption | with_reducible apply State.alarmCore_leaves (part_trans hP (by decide))
    | with_reducible apply State.endLostSubs_leaves (part_trans hP (by decide))

theorem State.evPush_leaves {P : Nat} {s₀ s : State} (hP : P &&& 6144 = 6144) (h : Leaves P s₀ s) (r : LogRec) :
    Leaves P s₀ (State.evPush s r) := by
  unfold State.evPush
  repeat' first
    | with_reducible assumption | with_reducible apply Leaves.ite | split | with_reducible intro _ | dsimp only
    | with_reducible apply Leaves.set_health (part_trans hP (by decide))
    | with_reducible apply Leaves.set_zdp (part_trans hP (by decide))
    | with_reducible apply Leaves.set_health_zdp (part_trans hP (by decide))

theorem State.evIssue_leaves {P : Nat} {s₀ s : State} (hP : P &&& 6144 = 6144) (h : Leaves P s₀ s) (code unit count : Nat) (first last : Stamp) (coalesced : Bool) (detail : List Word) :
    Leaves P s₀ (State.evIssue s code unit count first last coalesced detail) := by
  unfold State.evIssue
  repeat' first
    | with_reducible assumption | with_reducible apply State.evPush_leaves (part_trans hP (by decide)) | dsimp only
    | with_reducible apply Leaves.set_health (part_trans hP (by decide))

theorem State.eventWith_leaves {P : Nat} {s₀ s : State} (hP : P &&& 103079221248 = 103079221248) (h : Leaves P s₀ s) (code unit count : Nat) (first last : Stamp) (detail : List Word) :
    Leaves P s₀ (State.eventWith s code unit count first last detail) := by
  unfold State.eventWith
  repeat' first
    | with_reducible assumption | with_reducible exact cov_trans hP (by decide)
    | with_reducible apply State.count_leaves (part_trans hP (by decide))
    | with_reducible apply State.evIssue_leaves (part_trans hP (by decide))
    | with_reducible apply State.incWrap_leaves | with_reducible apply State.put_leaves
    | with_reducible apply Leaves.ite | split | with_reducible intro _ | dsimp only
    | with_reducible apply Leaves.set_health (part_trans hP (by decide))

theorem State.event_leaves {P : Nat} {s₀ s : State} (hP : P &&& 103079221760 = 103079221760) (h : Leaves P s₀ s) (b : HwBlock) (name : String) (unit : Nat) :
    Leaves P s₀ (State.event s b name unit) := by
  unfold State.event
  repeat' first
    | with_reducible assumption | with_reducible apply State.eventWith_leaves (part_trans hP (by decide))
    | with_reducible apply State.nextFresh_leaves (part_trans hP (by decide))

theorem State.traceWith_leaves {P : Nat} {s₀ s : State} (hP : P &&& 103079221248 = 103079221248) (h : Leaves P s₀ s) (code unit count : Nat) (first last : Stamp) (detail : List Word) :
    Leaves P s₀ (State.traceWith s code unit count first last detail) := by
  unfold State.traceWith
  repeat' first
    | with_reducible assumption | with_reducible exact cov_trans hP (by decide)
    | with_reducible apply State.count_leaves (part_trans hP (by decide)) | with_reducible apply State.incSat_leaves
    | with_reducible apply Leaves.ite | with_reducible apply Leaves.foldl | split | with_reducible intro _
    | dsimp only | with_reducible apply Leaves.set_health (part_trans hP (by decide))
    | with_reducible apply Leaves.set_zdp (part_trans hP (by decide))
    | with_reducible apply Leaves.set_health_zdp (part_trans hP (by decide))

theorem State.setHealth_leaves {P : Nat} {s₀ s : State} (hP : P &&& 2048 = 2048) (h : Leaves P s₀ s) (f : HealthSt → HealthSt) :
    Leaves P s₀ (State.setHealth s f) := by
  unfold State.setHealth
  repeat' first
    | with_reducible assumption | dsimp only | with_reducible apply Leaves.set_health (part_trans hP (by decide))

theorem State.setUnit_leaves {P : Nat} {s₀ s : State} (hP : P &&& 2048 = 2048) (h : Leaves P s₀ s) (slot : Nat) (f : UnitSt → UnitSt) :
    Leaves P s₀ (State.setUnit s slot f) := by
  unfold State.setUnit
  repeat' first
    | with_reducible assumption | dsimp only | with_reducible apply Leaves.set_health (part_trans hP (by decide))

theorem State.history_leaves {P : Nat} {s₀ s : State} (hP : P &&& 2560 = 2560) (h : Leaves P s₀ s) (slot event cause node count osn : Nat) :
    Leaves P s₀ (State.history s slot event cause node count osn) := by
  unfold State.history
  repeat' first
    | with_reducible assumption | with_reducible exact cov_trans hP (by decide)
    | with_reducible apply State.nextFresh_leaves (part_trans hP (by decide)) | with_reducible apply State.put_leaves
    | with_reducible apply State.setUnit_leaves (part_trans hP (by decide)) | with_reducible apply Leaves.ite | split
    | with_reducible intro _ | dsimp only | with_reducible apply Leaves.set_health (part_trans hP (by decide))

theorem State.accessFault_leaves {P : Nat} {s₀ s : State} (hP : P &&& 128 = 128) (h : Leaves P s₀ s) (c : Nat) (cause : AccessCause) (addr : Nat) :
    Leaves P s₀ (State.accessFault s c cause addr) := by
  unfold State.accessFault
  repeat' first
    | with_reducible assumption | with_reducible exact cov_trans hP (by decide)
    | with_reducible apply State.put_leaves | dsimp only
    | with_reducible apply Leaves.set_coreFaults (part_trans hP (by decide))

end Sys2Proof.Machine
end

