-- ==== Sys2Proof/Laws/LeavesCounters.lean ====
section
/-! SUPPORT. What each operation of Machine/Counters.lean leaves. -/

set_option linter.unusedTactic false
set_option linter.unreachableTactic false

namespace Sys2Proof.Machine

theorem Map.get_filter {α : Type} (d : α) (m : Map α) (p : Nat → Bool) (k : Nat) (h : p k = true) :
    Map.get d (m.filter fun x => p x.1) k = Map.get d m k := by
  induction m with
  | nil => rfl
  | cons x m ih =>
    obtain ⟨a, v⟩ := x
    cases c : p a with
    | true => simp only [List.filter_cons, c, if_true, Map.get, ih]
    | false =>
      simp only [List.filter_cons, c, if_false, Bool.false_eq_true, Map.get]
      have e : a ≠ k := fun e => by rw [e, h] at c; cases c
      rw [ih]
      simp [e, Ne.symm e]

theorem State.resetFields_leaves {P : Nat} {s₀ s : State} (h : Leaves P s₀ s) (fs : List Field)
    (hf : ∀ k, (fs.any fun f => f.owns k) = true → P.testBit (25 + (blockAt k).index) = true) :
    Leaves P s₀ (s.resetFields fs) := by
  refine { h with tidy := fun x => ?_, regs := fun k x d => ?_ }
  · have := h.tidy x
    simp only [State.tidy, Bool.and_eq_true, State.resetFields] at this ⊢
    exact ⟨⟨this.1.1, Map.sorted_filter _ this.1.2⟩, this.2⟩
  · rw [← h.regs k x d]
    refine Map.get_filter d s.regs (fun k => !(fs.any fun f => f.owns k)) k ?_
    cases e : fs.any fun f => f.owns k with
    | false => rfl
    | true => rw [hf k e] at x; cases x

theorem State.histClear_leaves {P : Nat} {s₀ s : State} (hP : P &&& 34359738368 = 34359738368) (h : Leaves P s₀ s) (h : Nat) :
    Leaves P s₀ (State.histClear s h) := by
  unfold State.histClear
  repeat' first
    | with_reducible assumption | with_reducible exact cov_trans hP (by decide) | with_reducible apply State.wr_leaves
    | with_reducible apply State.wr2_leaves | with_reducible apply Leaves.foldl | with_reducible intro _ | dsimp only

theorem blockAt_cnt (k : Nat) (h : 0x400A0000 ≤ k / 32) (g : k / 32 < 0x400B0000) : (blockAt k).index = 10 := by
  have : blockAt k = blockAt (0x400A0000 * 32) := blockAt_eq _ _ (by omega)
  rw [this]; decide

theorem Field.owns_cnt (f : Field) (k : Nat) (h : f.owns k = true) (hb : f.banked = false) (h0 : 0x400A0000 ≤ f.base)
    (h1 : f.base + f.n1 * f.s1 + f.n2 * f.s2 < 0x400B0000) : (blockAt k).index = 10 := by
  unfold Field.owns at h
  simp only [hb, Bool.false_eq_true, if_false] at h
  by_cases c : (k % 32 != f.lo || k / 32 < f.base) = true
  · simp only [c, if_true] at h
    cases h
  · simp only [c, if_false, Bool.false_eq_true] at h
    simp only [Bool.or_eq_true, decide_eq_true_eq, not_or, Nat.not_lt] at c
    have hbase := c.2
    simp only [Bool.and_eq_true, decide_eq_true_eq] at h
    obtain ⟨hi, hj⟩ := h
    have key : k / 32 - f.base ≤ f.n1 * f.s1 + f.n2 * f.s2 := by
      generalize k / 32 - f.base = o at *
      have r2 : (if (f.s1 == 0) = true then o else o % f.s1) ≤ f.n2 * f.s2 := by
        generalize (if (f.s1 == 0) = true then o else o % f.s1) = r at *
        by_cases z : (f.s2 == 0) = true
        · simp only [z, if_true, beq_iff_eq] at hj
          omega
        · simp only [z, if_false, Bool.false_eq_true, Bool.and_eq_true, beq_iff_eq, decide_eq_true_eq] at hj
          have := Nat.div_add_mod r f.s2
          have m := Nat.mul_le_mul_left f.s2 hj.2.le
          rw [Nat.mul_comm f.n2]
          omega
      by_cases z : (f.s1 == 0) = true
      · simp only [z, if_true] at r2
        omega
      · simp only [z, if_false, Bool.false_eq_true] at r2 hi
        have := Nat.div_add_mod o f.s1
        have m := Nat.mul_le_mul_left f.s1 hi.le
        rw [Nat.mul_comm f.n1]
        omega
    exact blockAt_cnt k (by omega) (by omega)

theorem State.clearCounters_leaves {P : Nat} {s₀ s : State} (hP : P &&& 34359738368 = 34359738368) (h : Leaves P s₀ s) :
    Leaves P s₀ s.clearCounters := by
  refine State.resetFields_leaves h _ fun k e => ?_
  have : (blockAt k).index = 10 := by
    simp only [List.any_cons, List.any_nil, Bool.or_false, Bool.or_eq_true] at e
    rcases e with e | e | e | e | e | e | e | e | e <;>
      exact Field.owns_cnt _ _ e (by decide) (by decide) (by decide)
  rw [this]
  exact part_test hP (by decide)

theorem State.evConfigure_leaves {P : Nat} {s₀ s : State} (hP : P &&& 34359738368 = 34359738368) (h : Leaves P s₀ s) (n v : Nat) :
    Leaves P s₀ (State.evConfigure s n v) := by
  unfold State.evConfigure
  repeat' first
    | with_reducible assumption | with_reducible exact cov_trans hP (by decide)
    | with_reducible apply State.clearBitIn_leaves | with_reducible apply State.put_leaves
    | with_reducible apply State.wr_leaves | with_reducible apply State.wr2_leaves | dsimp only

theorem State.histConfigure_leaves {P : Nat} {s₀ s : State} (hP : P &&& 34359738368 = 34359738368) (h : Leaves P s₀ s) (h v : Nat) :
    Leaves P s₀ (State.histConfigure s h v) := by
  unfold State.histConfigure
  repeat' first
    | with_reducible assumption | with_reducible exact cov_trans hP (by decide)
    | with_reducible apply State.histClear_leaves (part_trans hP (by decide)) | with_reducible apply State.put_leaves
    | with_reducible apply State.wr_leaves | dsimp only

theorem State.histCopy_leaves {P : Nat} {s₀ s : State} (h : Leaves P s₀ s) (src dst : Field) (hf_dst : covers P dst = true) (m : Nat) :
    Leaves P s₀ (State.histCopy s src dst m) := by
  unfold State.histCopy
  repeat' first
    | with_reducible assumption | with_reducible exact cov_trans hP (by decide) | with_reducible apply State.wr_leaves
    | with_reducible apply Leaves.foldl | with_reducible intro _ | dsimp only

theorem State.snapCopy_leaves {P : Nat} {s₀ s : State} (hP : P &&& 34359738368 = 34359738368) (h : Leaves P s₀ s) :
    Leaves P s₀ (State.snapCopy s) := by
  unfold State.snapCopy
  repeat' first
    | with_reducible assumption | with_reducible exact cov_trans hP (by decide)
    | with_reducible apply State.histCopy_leaves | with_reducible apply State.wr_leaves
    | with_reducible apply Leaves.foldl | with_reducible intro _ | dsimp only

theorem State.snapRequest_leaves {P : Nat} {s₀ s : State} (hP : P &&& 34359738368 = 34359738368) (h : Leaves P s₀ s) :
    Leaves P s₀ (State.snapRequest s) := by
  unfold State.snapRequest
  repeat' first
    | with_reducible assumption | with_reducible exact cov_trans hP (by decide)
    | with_reducible apply State.raise_leaves | with_reducible apply State.snapCopy_leaves (part_trans hP (by decide))
    | with_reducible apply State.wr_leaves | with_reducible apply Leaves.ite | split | with_reducible intro _
    | dsimp only

theorem State.snapArm_leaves {P : Nat} {s₀ s : State} (hP : P &&& 34359738368 = 34359738368) (h : Leaves P s₀ s) :
    Leaves P s₀ (State.snapArm s) := by
  unfold State.snapArm
  repeat' first
    | with_reducible assumption | with_reducible exact cov_trans hP (by decide)
    | with_reducible apply State.raise_leaves | with_reducible apply Leaves.ite | split | with_reducible intro _
    | dsimp only

theorem execCntEvCfgWrite_leaves {P : Nat} {s₀ s : State} (hP : P &&& 34359738368 = 34359738368) (h : Leaves P s₀ s) (n : Fin 256) (v : Word) :
    OutLeaves P s₀ (execCntEvCfgWrite n v s) := by
  unfold execCntEvCfgWrite
  repeat' first
    | with_reducible assumption | with_reducible apply OutLeaves.next
    | with_reducible apply State.evConfigure_leaves (part_trans hP (by decide)) | with_reducible intro _

theorem execCntHCfgWrite_leaves {P : Nat} {s₀ s : State} (hP : P &&& 34359738368 = 34359738368) (h : Leaves P s₀ s) (h : Fin 16) (v : Word) :
    OutLeaves P s₀ (execCntHCfgWrite h v s) := by
  unfold execCntHCfgWrite
  repeat' first
    | with_reducible assumption | with_reducible apply OutLeaves.next
    | with_reducible apply State.histConfigure_leaves (part_trans hP (by decide)) | with_reducible intro _

theorem execClearAll_leaves {P : Nat} {s₀ s : State} (hP : P &&& 34359738368 = 34359738368) (h : Leaves P s₀ s) :
    OutLeaves P s₀ (execClearAll s) := by
  unfold execClearAll
  repeat' first
    | with_reducible assumption | with_reducible apply OutLeaves.next
    | with_reducible apply State.clearCounters_leaves (part_trans hP (by decide)) | with_reducible intro _

theorem execCntSnap_leaves {P : Nat} {s₀ s : State} (hP : P &&& 34359738368 = 34359738368) (h : Leaves P s₀ s) :
    OutLeaves P s₀ (execCntSnap s) := by
  unfold execCntSnap
  repeat' first
    | with_reducible assumption | with_reducible apply OutLeaves.next
    | with_reducible apply State.snapRequest_leaves (part_trans hP (by decide)) | with_reducible intro _

theorem execArmAt_leaves {P : Nat} {s₀ s : State} (hP : P &&& 34359738368 = 34359738368) (h : Leaves P s₀ s) :
    OutLeaves P s₀ (execArmAt s) := by
  unfold execArmAt
  repeat' first
    | with_reducible assumption | with_reducible apply OutLeaves.next
    | with_reducible apply State.snapArm_leaves (part_trans hP (by decide)) | with_reducible intro _

theorem execSnapAtFire_leaves {P : Nat} {s₀ s : State} (hP : P &&& 34359738368 = 34359738368) (h : Leaves P s₀ s) :
    OutLeaves P s₀ (execSnapAtFire s) := by
  unfold execSnapAtFire
  repeat' first
    | with_reducible assumption | with_reducible exact cov_trans hP (by decide) | with_reducible apply OutLeaves.next
    | with_reducible apply State.raise_leaves
    | with_reducible apply State.snapRequest_leaves (part_trans hP (by decide)) | with_reducible apply State.wr_leaves
    | with_reducible apply OutLeaves.ite | split | with_reducible intro _ | dsimp only

theorem execSnapPeriodic_leaves {P : Nat} {s₀ s : State} (hP : P &&& 34359738368 = 34359738368) (h : Leaves P s₀ s) :
    OutLeaves P s₀ (execSnapPeriodic s) := by
  unfold execSnapPeriodic
  repeat' first
    | with_reducible assumption | with_reducible apply OutLeaves.next
    | with_reducible apply State.snapRequest_leaves (part_trans hP (by decide)) | with_reducible apply OutLeaves.ite
    | with_reducible apply Leaves.ite | split | with_reducible intro _

theorem execSnapComplete_leaves {P : Nat} {s₀ s : State} (hP : P &&& 34359738368 = 34359738368) (h : Leaves P s₀ s) :
    OutLeaves P s₀ (execSnapComplete s) := by
  unfold execSnapComplete
  repeat' first
    | with_reducible assumption | with_reducible exact cov_trans hP (by decide) | with_reducible apply OutLeaves.next
    | with_reducible apply State.incWrap_leaves | with_reducible apply State.raise_leaves
    | with_reducible apply State.wr_leaves | with_reducible apply OutLeaves.ite | with_reducible apply Leaves.ite
    | split | with_reducible intro _

end Sys2Proof.Machine
end

