-- ==== Sys2Proof/Laws/LeavesDict.lean ====
section
/-! SUPPORT. What each operation of Machine/Dict.lean leaves. -/

set_option linter.unusedTactic false
set_option linter.unreachableTactic false

namespace Sys2Proof.Machine

theorem State.sendZdp_leaves {P : Nat} {s₀ s : State} (hP : P &&& 4096 = 4096) (h : Leaves P s₀ s) (z : ZdpOut) :
    Leaves P s₀ (State.sendZdp s z) := by
  unfold State.sendZdp
  repeat' first
    | with_reducible assumption | dsimp only | with_reducible apply Leaves.set_zdp (part_trans hP (by decide))

theorem State.sendReply_leaves {P : Nat} {s₀ s : State} (hP : P &&& 34359742464 = 34359742464) (h : Leaves P s₀ s) (z : ZdpOut) :
    Leaves P s₀ (State.sendReply s z) := by
  unfold State.sendReply
  repeat' first
    | with_reducible assumption | with_reducible exact cov_trans hP (by decide)
    | with_reducible apply OutLeaves.refused | with_reducible apply State.count_leaves (part_trans hP (by decide))
    | with_reducible apply State.put_leaves | with_reducible apply State.sendZdp_leaves (part_trans hP (by decide))
    | with_reducible apply Leaves.ite | split | with_reducible intro _ | dsimp only
    | with_reducible apply Leaves.set_zdp (part_trans hP (by decide))

theorem State.orderReply_leaves {P : Nat} {s₀ s : State} (hP : P &&& 34359742464 = 34359742464) (h : Leaves P s₀ s) (r : ReplyTo) (status osn : Nat) (duplicate : Bool) :
    Leaves P s₀ (State.orderReply s r status osn duplicate) := by
  unfold State.orderReply
  repeat' first
    | with_reducible assumption | with_reducible apply State.latency_leaves (part_trans hP (by decide))
    | with_reducible apply State.sendReply_leaves (part_trans hP (by decide)) | with_reducible apply Leaves.ite
    | split | with_reducible intro _ | dsimp only

theorem State.setEntry_leaves {P : Nat} {s₀ s : State} (hP : P &&& 8 = 8) (h : Leaves P s₀ s) (f : Found) (b : List Byte) :
    Leaves P s₀ (State.setEntry s f b) := by
  unfold State.setEntry
  repeat' first
    | with_reducible assumption | with_reducible apply State.setObj_leaves (part_trans hP (by decide))

end Sys2Proof.Machine
end

