-- ==== Sys2Proof/Laws/LeavesJournal.lean ====
section
/-! SUPPORT. What each operation of Machine/Journal.lean leaves. -/

set_option linter.unusedTactic false
set_option linter.unreachableTactic false

namespace Sys2Proof.Machine

theorem State.setJ_leaves {P : Nat} {s₀ s : State} (hP : P &&& 16384 = 16384) (h : Leaves P s₀ s) (f : JournalSt → JournalSt) :
    Leaves P s₀ (State.setJ s f) := by
  unfold State.setJ
  repeat' first
    | with_reducible assumption | dsimp only | with_reducible apply Leaves.set_journal (part_trans hP (by decide))

theorem State.heldCount_leaves {P : Nat} {s₀ s : State} (hP : P &&& 549755830272 = 549755830272) (h : Leaves P s₀ s) (f : JournalSt → JournalSt) :
    Leaves P s₀ (State.heldCount s f) := by
  unfold State.heldCount
  repeat' first
    | with_reducible assumption | with_reducible exact cov_trans hP (by decide)
    | with_reducible apply State.setJ_leaves (part_trans hP (by decide)) | with_reducible apply State.wr_leaves
    | with_reducible intro _ | dsimp only

theorem State.hold_leaves {P : Nat} {s₀ s : State} (hP : P &&& 549755830280 = 549755830280) (h : Leaves P s₀ s) (e : HeldEntry) :
    Leaves P s₀ (State.hold s e) := by
  unfold State.hold
  repeat' first
    | with_reducible assumption | with_reducible exact cov_trans hP (by decide)
    | with_reducible apply State.heldCount_leaves (part_trans hP (by decide))
    | with_reducible apply State.incSat_leaves | with_reducible apply State.raise_leaves
    | with_reducible apply State.setObjN_leaves (part_trans hP (by decide)) | with_reducible apply Leaves.ite | split
    | with_reducible intro _ | dsimp only

theorem State.sendState_leaves {P : Nat} {s₀ s : State} (hP : P &&& 8192 = 8192) (h : Leaves P s₀ s) :
    Leaves P s₀ (State.sendState s) := by
  unfold State.sendState
  repeat' first
    | with_reducible assumption | with_reducible apply State.sendAllBoth_leaves (part_trans hP (by decide))

theorem State.setJState_leaves {P : Nat} {s₀ s : State} (hP : P &&& 549755838464 = 549755838464) (h : Leaves P s₀ s) (st : Nat) :
    Leaves P s₀ (State.setJState s st) := by
  unfold State.setJState
  repeat' first
    | with_reducible assumption | with_reducible exact cov_trans hP (by decide)
    | with_reducible apply State.sendState_leaves (part_trans hP (by decide))
    | with_reducible apply State.setJ_leaves (part_trans hP (by decide)) | with_reducible apply State.wr_leaves
    | with_reducible apply Leaves.ite | split | with_reducible intro _ | dsimp only

theorem State.sendFetch_leaves {P : Nat} {s₀ s : State} (hP : P &&& 8192 = 8192) (h : Leaves P s₀ s) (m first last : Nat) :
    Leaves P s₀ (State.sendFetch s m first last) := by
  unfold State.sendFetch
  repeat' first
    | with_reducible assumption | with_reducible apply State.sendPeer_leaves (part_trans hP (by decide))

theorem State.sendCopies_leaves {P : Nat} {s₀ s : State} (hP : P &&& 8192 = 8192) (h : Leaves P s₀ s) (os : List OrderRec) :
    Leaves P s₀ (State.sendCopies s os) := by
  unfold State.sendCopies
  repeat' first
    | with_reducible assumption | with_reducible apply State.sendAll_leaves (part_trans hP (by decide))
    | with_reducible apply Leaves.foldl | with_reducible intro _ | dsimp only

theorem State.sendForward_leaves {P : Nat} {s₀ s : State} (hP : P &&& 8192 = 8192) (h : Leaves P s₀ s) (f : Forwarded) :
    Leaves P s₀ (State.sendForward s f) := by
  unfold State.sendForward
  repeat' first
    | with_reducible assumption | with_reducible apply State.sendPeer_leaves (part_trans hP (by decide)) | split
    | with_reducible intro _

theorem State.resendForwards_leaves {P : Nat} {s₀ s : State} (hP : P &&& 24576 = 24576) (h : Leaves P s₀ s) :
    Leaves P s₀ (State.resendForwards s) := by
  unfold State.resendForwards
  repeat' first
    | with_reducible assumption | with_reducible apply State.sendForward_leaves (part_trans hP (by decide))
    | with_reducible apply State.setJ_leaves (part_trans hP (by decide)) | with_reducible apply Leaves.foldl
    | with_reducible intro _ | dsimp only

theorem State.forwardNew_leaves {P : Nat} {s₀ s : State} (hP : P &&& 24576 = 24576) (h : Leaves P s₀ s) (o : OrderRec) :
    Leaves P s₀ (State.forwardNew s o) := by
  unfold State.forwardNew
  repeat' first
    | with_reducible assumption | with_reducible apply State.sendForward_leaves (part_trans hP (by decide))
    | with_reducible apply State.setJ_leaves (part_trans hP (by decide)) | with_reducible intro _ | dsimp only

theorem State.returnWaiting_leaves {P : Nat} {s₀ s : State} (hP : P &&& 24576 = 24576) (h : Leaves P s₀ s) :
    Leaves P s₀ (State.returnWaiting s) := by
  unfold State.returnWaiting
  repeat' first
    | with_reducible assumption | with_reducible apply State.forwardNew_leaves (part_trans hP (by decide))
    | with_reducible apply State.sendPeer_leaves (part_trans hP (by decide))
    | with_reducible apply State.setJ_leaves (part_trans hP (by decide)) | with_reducible apply Leaves.foldl | split
    | with_reducible intro _ | dsimp only

theorem State.chooseSequencer_leaves {P : Nat} {s₀ s : State} (hP : P &&& 549755838464 = 549755838464) (h : Leaves P s₀ s) :
    Leaves P s₀ (State.chooseSequencer s) := by
  unfold State.chooseSequencer
  repeat' first
    | with_reducible assumption | with_reducible exact cov_trans hP (by decide)
    | with_reducible apply State.put_leaves | with_reducible apply State.raise_leaves
    | with_reducible apply State.resendForwards_leaves (part_trans hP (by decide))
    | with_reducible apply State.returnWaiting_leaves (part_trans hP (by decide))
    | with_reducible apply State.sendFetch_leaves (part_trans hP (by decide))
    | with_reducible apply State.setJ_leaves (part_trans hP (by decide)) | with_reducible apply State.wr_leaves
    | with_reducible apply Leaves.ite | with_reducible apply Leaves.foldl | split | with_reducible intro _
    | dsimp only

theorem State.payReplies_leaves {P : Nat} {s₀ s : State} (hP : P &&& 34359758848 = 34359758848) (h : Leaves P s₀ s) (identity osn : Nat) :
    Leaves P s₀ (State.payReplies s identity osn) := by
  unfold State.payReplies
  repeat' first
    | with_reducible assumption | with_reducible apply State.orderReply_leaves (part_trans hP (by decide))
    | with_reducible apply State.setJ_leaves (part_trans hP (by decide)) | with_reducible apply Leaves.foldl
    | with_reducible apply Leaves.foldl_fst | with_reducible apply Leaves.foldl_snd
    | with_reducible apply Leaves.of_fst ‹_› | with_reducible intro _ | dsimp only

theorem State.refuseReplies_leaves {P : Nat} {s₀ s : State} (hP : P &&& 34359758848 = 34359758848) (h : Leaves P s₀ s) (identity reason : Nat) :
    Leaves P s₀ (State.refuseReplies s identity reason) := by
  unfold State.refuseReplies
  repeat' first
    | with_reducible assumption | with_reducible apply State.orderReply_leaves (part_trans hP (by decide))
    | with_reducible apply State.setJ_leaves (part_trans hP (by decide)) | with_reducible apply Leaves.foldl
    | with_reducible intro _ | dsimp only

theorem State.commitTo_leaves {P : Nat} {s₀ s : State} (hP : P &&& 584115572744 = 584115572744) (h : Leaves P s₀ s) (c : Nat) :
    Leaves P s₀ (State.commitTo s c) := by
  unfold State.commitTo
  repeat' first
    | with_reducible assumption | with_reducible exact cov_trans hP (by decide)
    | with_reducible apply State.count_leaves (part_trans hP (by decide))
    | with_reducible apply State.payReplies_leaves (part_trans hP (by decide))
    | with_reducible apply State.raise_leaves | with_reducible apply State.setJ_leaves (part_trans hP (by decide))
    | with_reducible apply State.setObjN_leaves (part_trans hP (by decide)) | with_reducible apply State.wr2_leaves
    | with_reducible apply Leaves.ite | with_reducible apply Leaves.foldl | split | with_reducible intro _
    | dsimp only

theorem State.tryCommit_leaves {P : Nat} {s₀ s : State} (hP : P &&& 584115580936 = 584115580936) (h : Leaves P s₀ s) :
    Leaves P s₀ (State.tryCommit s) := by
  unfold State.tryCommit
  repeat' first
    | with_reducible assumption | with_reducible apply State.commitTo_leaves (part_trans hP (by decide))
    | with_reducible apply State.sendAll_leaves (part_trans hP (by decide)) | with_reducible apply Leaves.ite
    | with_reducible apply Leaves.foldl | split | with_reducible intro _ | dsimp only

theorem State.startWrite_leaves {P : Nat} {s₀ s : State} (hP : P &&& 16384 = 16384) (h : Leaves P s₀ s) (os : List OrderRec) :
    Leaves P s₀ (State.startWrite s os) := by
  unfold State.startWrite
  repeat' first
    | with_reducible assumption | with_reducible apply State.setJ_leaves (part_trans hP (by decide))
    | with_reducible apply Leaves.ite | split | with_reducible intro _ | dsimp only

theorem State.ringStore_leaves {P : Nat} {s₀ s : State} (hP : P &&& 584115568648 = 584115568648) (h : Leaves P s₀ s) (os : List OrderRec) :
    Leaves P s₀ (State.ringStore s os) := by
  unfold State.ringStore
  repeat' first
    | with_reducible assumption | with_reducible exact cov_trans hP (by decide)
    | with_reducible apply State.count_leaves (part_trans hP (by decide))
    | with_reducible apply State.setJ_leaves (part_trans hP (by decide))
    | with_reducible apply State.setObjN_leaves (part_trans hP (by decide)) | with_reducible apply State.wr2_leaves
    | with_reducible apply Leaves.foldl | with_reducible apply Leaves.foldl_fst | split | with_reducible intro _
    | dsimp only

theorem State.afterWrite_leaves {P : Nat} {s₀ s : State} (hP : P &&& 584115580936 = 584115580936) (h : Leaves P s₀ s) (os : List OrderRec) :
    Leaves P s₀ (State.afterWrite s os) := by
  unfold State.afterWrite
  repeat' first
    | with_reducible assumption | with_reducible apply State.sendCopies_leaves (part_trans hP (by decide))
    | with_reducible apply State.sendPeer_leaves (part_trans hP (by decide))
    | with_reducible apply State.setJ_leaves (part_trans hP (by decide))
    | with_reducible apply State.tryCommit_leaves (part_trans hP (by decide)) | with_reducible apply Leaves.ite
    | split | with_reducible intro _ | dsimp only

theorem execCaskWriteComplete_leaves {P : Nat} {s₀ s : State} (hP : P &&& 584115580936 = 584115580936) (h : Leaves P s₀ s) :
    OutLeaves P s₀ (execCaskWriteComplete s) := by
  unfold execCaskWriteComplete
  repeat' first
    | with_reducible assumption | with_reducible apply OutLeaves.next
    | with_reducible apply State.afterWrite_leaves (part_trans hP (by decide))
    | with_reducible apply State.ringStore_leaves (part_trans hP (by decide))
    | with_reducible apply State.setJ_leaves (part_trans hP (by decide)) | split | with_reducible intro _ | dsimp only

theorem State.giveOsn_leaves {P : Nat} {s₀ s : State} (hP : P &&& 17408 = 17408) (h : Leaves P s₀ s) (o : OrderRec) :
    Leaves P s₀ (State.giveOsn s o) := by
  unfold State.giveOsn
  repeat' first
    | with_reducible assumption | with_reducible apply State.setJ_leaves (part_trans hP (by decide))
    | with_reducible apply State.startWrite_leaves (part_trans hP (by decide)) | with_reducible apply Leaves.ite
    | split | with_reducible intro _ | dsimp only | with_reducible apply Leaves.set_time (part_trans hP (by decide))

theorem State.sequence_leaves {P : Nat} {s₀ s : State} (hP : P &&& 34359768064 = 34359768064) (h : Leaves P s₀ s) (o : OrderRec) (fwd : Option (Nat × Nat)) :
    Leaves P s₀ (State.sequence s o fwd) := by
  unfold State.sequence
  repeat' first
    | with_reducible assumption | with_reducible apply State.giveOsn_leaves (part_trans hP (by decide))
    | with_reducible apply State.refuseReplies_leaves (part_trans hP (by decide))
    | with_reducible apply State.sendPeer_leaves (part_trans hP (by decide))
    | with_reducible apply State.setJ_leaves (part_trans hP (by decide)) | with_reducible apply Leaves.ite | split
    | with_reducible intro _ | dsimp only

theorem State.duplicateCheck_leaves {P : Nat} {s₀ s : State} (hP : P &&& 584115572744 = 584115572744) (h : Leaves P s₀ s) (r : ReplyTo) :
    OptLeaves P s₀ (State.duplicateCheck s r) := by
  unfold State.duplicateCheck
  repeat' first
    | with_reducible assumption | with_reducible exact cov_trans hP (by decide) | with_reducible apply OptLeaves.none
    | with_reducible apply OptLeaves.some | with_reducible apply State.count_leaves (part_trans hP (by decide))
    | with_reducible apply State.incSat_leaves
    | with_reducible apply State.orderReply_leaves (part_trans hP (by decide))
    | with_reducible apply State.setJ_leaves (part_trans hP (by decide))
    | with_reducible apply State.setObjN_leaves (part_trans hP (by decide)) | with_reducible apply OptLeaves.ite
    | with_reducible apply Leaves.ite | with_reducible apply Leaves.of_some ‹_› | split | with_reducible intro _
    | dsimp only

theorem State.acceptOrder_leaves {P : Nat} {s₀ s : State} (hP : P &&& 584115581960 = 584115581960) (h : Leaves P s₀ s) (o : OrderRec) (r : Option ReplyTo) :
    Leaves P s₀ (State.acceptOrder s o r) := by
  unfold State.acceptOrder
  repeat' first
    | with_reducible assumption | with_reducible apply State.forwardNew_leaves (part_trans hP (by decide))
    | with_reducible apply State.hold_leaves (part_trans hP (by decide))
    | with_reducible apply State.sequence_leaves (part_trans hP (by decide))
    | with_reducible apply State.setJ_leaves (part_trans hP (by decide)) | with_reducible apply Leaves.ite | split
    | with_reducible intro _ | dsimp only

theorem execForward_leaves {P : Nat} {s₀ s : State} (hP : P &&& 584115581960 = 584115581960) (h : Leaves P s₀ s) (i : Member) (tag : Word) (o : OrderRec) :
    OutLeaves P s₀ (execForward i tag o s) := by
  unfold execForward
  repeat' first
    | with_reducible assumption | with_reducible apply OutLeaves.next
    | with_reducible apply State.hold_leaves (part_trans hP (by decide))
    | with_reducible apply State.sendPeer_leaves (part_trans hP (by decide))
    | with_reducible apply State.sequence_leaves (part_trans hP (by decide)) | with_reducible apply OutLeaves.ite
    | split | with_reducible intro _

theorem execOrderQueueRelease_leaves {P : Nat} {s₀ s : State} (hP : P &&& 17408 = 17408) (h : Leaves P s₀ s) :
    OutLeaves P s₀ (execOrderQueueRelease s) := by
  unfold execOrderQueueRelease
  repeat' first
    | with_reducible assumption | with_reducible apply OutLeaves.next
    | with_reducible apply State.giveOsn_leaves (part_trans hP (by decide))
    | with_reducible apply State.setJ_leaves (part_trans hP (by decide)) | with_reducible apply OutLeaves.ite | split
    | with_reducible intro _ | dsimp only

theorem execForwardRepeat_leaves {P : Nat} {s₀ s : State} (hP : P &&& 24576 = 24576) (h : Leaves P s₀ s) :
    OutLeaves P s₀ (execForwardRepeat s) := by
  unfold execForwardRepeat
  repeat' first
    | with_reducible assumption | with_reducible apply OutLeaves.next
    | with_reducible apply State.sendForward_leaves (part_trans hP (by decide))
    | with_reducible apply State.setJ_leaves (part_trans hP (by decide)) | with_reducible apply OutLeaves.ite
    | with_reducible apply Leaves.foldl | split | with_reducible intro _ | dsimp only

theorem execFwdReturn_leaves {P : Nat} {s₀ s : State} (hP : P &&& 34359768064 = 34359768064) (h : Leaves P s₀ s) (i : Member) (tag : Word) (code : BitVec 8) (osn : BitVec 64) :
    OutLeaves P s₀ (execFwdReturn i tag code osn s) := by
  unfold execFwdReturn
  repeat' first
    | with_reducible assumption | with_reducible apply OutLeaves.next
    | with_reducible apply State.payReplies_leaves (part_trans hP (by decide))
    | with_reducible apply State.refuseReplies_leaves (part_trans hP (by decide))
    | with_reducible apply State.sendForward_leaves (part_trans hP (by decide))
    | with_reducible apply State.sequence_leaves (part_trans hP (by decide))
    | with_reducible apply State.setJ_leaves (part_trans hP (by decide)) | with_reducible apply OutLeaves.ite | split
    | with_reducible intro _ | dsimp only

theorem State.hear_leaves {P : Nat} {s₀ s : State} (hP : P &&& 549755871232 = 549755871232) (h : Leaves P s₀ s) (m : Nat) :
    Leaves P s₀ (State.hear s m) := by
  unfold State.hear
  repeat' first
    | with_reducible assumption | with_reducible apply State.sendFetch_leaves (part_trans hP (by decide))
    | with_reducible apply State.setJ_leaves (part_trans hP (by decide))
    | with_reducible apply State.setJState_leaves (part_trans hP (by decide))
    | with_reducible apply State.setPeer_leaves (part_trans hP (by decide)) | with_reducible apply Leaves.ite | split
    | with_reducible intro _ | dsimp only

theorem State.enterFork_leaves {P : Nat} {s₀ s : State} (hP : P &&& 652835060232 = 652835060232) (h : Leaves P s₀ s) (at_ : Nat) :
    Leaves P s₀ (State.enterFork s at_) := by
  unfold State.enterFork
  repeat' first
    | with_reducible assumption | with_reducible exact cov_trans hP (by decide)
    | with_reducible apply State.alarm_leaves (part_trans hP (by decide))
    | with_reducible apply State.chooseSequencer_leaves (part_trans hP (by decide))
    | with_reducible apply State.raise_leaves | with_reducible apply State.setJ_leaves (part_trans hP (by decide))
    | with_reducible apply State.setJState_leaves (part_trans hP (by decide)) | with_reducible intro _ | dsimp only

theorem State.discardFrom_leaves {P : Nat} {s₀ s : State} (hP : P &&& 549755830280 = 549755830280) (h : Leaves P s₀ s) (n : Nat) :
    Leaves P s₀ (State.discardFrom s n) := by
  unfold State.discardFrom
  repeat' first
    | with_reducible assumption | with_reducible exact cov_trans hP (by decide)
    | with_reducible apply State.setJ_leaves (part_trans hP (by decide))
    | with_reducible apply State.setObjN_leaves (part_trans hP (by decide)) | with_reducible apply State.wr2_leaves
    | with_reducible intro _ | dsimp only

theorem State.takeOrder_leaves {P : Nat} {s₀ s : State} (hP : P &&& 652835060232 = 652835060232) (h : Leaves P s₀ s) (o : OrderRec) :
    Leaves P s₀ (State.takeOrder s o) := by
  unfold State.takeOrder
  repeat' first
    | with_reducible assumption | with_reducible apply State.discardFrom_leaves (part_trans hP (by decide))
    | with_reducible apply State.enterFork_leaves (part_trans hP (by decide))
    | with_reducible apply State.setJ_leaves (part_trans hP (by decide))
    | with_reducible apply State.startWrite_leaves (part_trans hP (by decide)) | with_reducible apply Leaves.ite
    | with_reducible apply Leaves.foldl | split | with_reducible intro _ | dsimp only

theorem State.fillGap_leaves {P : Nat} {s₀ s : State} (hP : P &&& 652835060232 = 652835060232) (h : Leaves P s₀ s) :
    Leaves P s₀ (State.fillGap s) := by
  unfold State.fillGap
  repeat' first
    | with_reducible assumption | with_reducible apply State.setJ_leaves (part_trans hP (by decide))
    | with_reducible apply State.takeOrder_leaves (part_trans hP (by decide)) | with_reducible apply Leaves.foldl
    | with_reducible intro _ | dsimp only

theorem State.trySync_leaves {P : Nat} {s₀ s : State} (hP : P &&& 549755838464 = 549755838464) (h : Leaves P s₀ s) :
    Leaves P s₀ (State.trySync s) := by
  unfold State.trySync
  repeat' first
    | with_reducible assumption | with_reducible apply State.chooseSequencer_leaves (part_trans hP (by decide))
    | with_reducible apply State.setJState_leaves (part_trans hP (by decide)) | with_reducible apply Leaves.ite
    | with_reducible apply Leaves.foldl | split | with_reducible intro _ | dsimp only

theorem State.takeoverDone_leaves {P : Nat} {s₀ s : State} (hP : P &&& 584115580936 = 584115580936) (h : Leaves P s₀ s) :
    Leaves P s₀ (State.takeoverDone s) := by
  unfold State.takeoverDone
  repeat' first
    | with_reducible assumption | with_reducible apply State.sendCopies_leaves (part_trans hP (by decide))
    | with_reducible apply State.setJ_leaves (part_trans hP (by decide))
    | with_reducible apply State.tryCommit_leaves (part_trans hP (by decide)) | with_reducible intro _ | dsimp only

theorem execCopy_leaves {P : Nat} {s₀ s : State} (hP : P &&& 652835093000 = 652835093000) (h : Leaves P s₀ s) (i : Member) (commit : BitVec 64) (os : List OrderRec) :
    OutLeaves P s₀ (execCopy i commit os s) := by
  unfold execCopy
  repeat' first
    | with_reducible assumption | with_reducible apply OutLeaves.next
    | with_reducible apply State.commitTo_leaves (part_trans hP (by decide))
    | with_reducible apply State.fillGap_leaves (part_trans hP (by decide))
    | with_reducible apply State.hear_leaves (part_trans hP (by decide))
    | with_reducible apply State.sendFetch_leaves (part_trans hP (by decide))
    | with_reducible apply State.setPeer_leaves (part_trans hP (by decide))
    | with_reducible apply State.takeOrder_leaves (part_trans hP (by decide))
    | with_reducible apply State.trySync_leaves (part_trans hP (by decide)) | with_reducible apply OutLeaves.ite
    | with_reducible apply Leaves.foldl | split | with_reducible intro _ | dsimp only

theorem execReplay_leaves {P : Nat} {s₀ s : State} (hP : P &&& 652835093000 = 652835093000) (h : Leaves P s₀ s) (i : Member) (commit : BitVec 64) (os : List OrderRec) :
    OutLeaves P s₀ (execReplay i commit os s) := by
  unfold execReplay
  repeat' first
    | with_reducible assumption | with_reducible apply OutLeaves.next
    | with_reducible apply State.commitTo_leaves (part_trans hP (by decide))
    | with_reducible apply State.fillGap_leaves (part_trans hP (by decide))
    | with_reducible apply State.hear_leaves (part_trans hP (by decide))
    | with_reducible apply State.setJ_leaves (part_trans hP (by decide))
    | with_reducible apply State.setPeer_leaves (part_trans hP (by decide))
    | with_reducible apply State.takeOrder_leaves (part_trans hP (by decide))
    | with_reducible apply State.takeoverDone_leaves (part_trans hP (by decide))
    | with_reducible apply State.trySync_leaves (part_trans hP (by decide)) | with_reducible apply OutLeaves.ite
    | with_reducible apply Leaves.ite | with_reducible apply Leaves.foldl | split | with_reducible intro _
    | dsimp only

theorem execImage_leaves {P : Nat} {s₀ s : State} (hP : P &&& 687194824712 = 687194824712) (h : Leaves P s₀ s) (i : Member) (osn : BitVec 64) (entries : List ImageEntry) (last : Bool) :
    OutLeaves P s₀ (execImage i osn entries last s) := by
  unfold execImage
  repeat' first
    | with_reducible assumption | with_reducible exact cov_trans hP (by decide) | with_reducible apply OutLeaves.next
    | with_reducible apply State.hear_leaves (part_trans hP (by decide))
    | with_reducible apply State.setEntry_leaves (part_trans hP (by decide))
    | with_reducible apply State.setJ_leaves (part_trans hP (by decide))
    | with_reducible apply State.setObjN_leaves (part_trans hP (by decide))
    | with_reducible apply State.trySync_leaves (part_trans hP (by decide)) | with_reducible apply State.wr_leaves
    | with_reducible apply State.wr2_leaves | with_reducible apply OutLeaves.ite | with_reducible apply Leaves.ite
    | with_reducible apply Leaves.foldl | split | with_reducible intro _ | dsimp only

theorem State.sendImage_leaves {P : Nat} {s₀ s : State} (hP : P &&& 8192 = 8192) (h : Leaves P s₀ s) (m : Nat) :
    Leaves P s₀ (State.sendImage s m) := by
  unfold State.sendImage
  repeat' first
    | with_reducible assumption | with_reducible apply State.sendPeer_leaves (part_trans hP (by decide))
    | with_reducible apply Leaves.foldl | with_reducible apply Leaves.foldl_fst
    | with_reducible apply Leaves.foldl_snd | with_reducible apply Leaves.of_fst ‹_› | with_reducible intro _
    | dsimp only

theorem execFetch_leaves {P : Nat} {s₀ s : State} (hP : P &&& 549755871232 = 549755871232) (h : Leaves P s₀ s) (i : Member) (first lastOsn : BitVec 64) :
    OutLeaves P s₀ (execFetch i first lastOsn s) := by
  unfold execFetch
  repeat' first
    | with_reducible assumption | with_reducible apply OutLeaves.next
    | with_reducible apply State.hear_leaves (part_trans hP (by decide))
    | with_reducible apply State.sendImage_leaves (part_trans hP (by decide))
    | with_reducible apply State.sendPeer_leaves (part_trans hP (by decide)) | with_reducible apply OutLeaves.ite
    | with_reducible apply Leaves.ite | with_reducible apply Leaves.foldl | split | with_reducible intro _
    | dsimp only

theorem execAck_leaves {P : Nat} {s₀ s : State} (hP : P &&& 584115613704 = 584115613704) (h : Leaves P s₀ s) (i : Member) (osn : BitVec 64) :
    OutLeaves P s₀ (execAck i osn s) := by
  unfold execAck
  repeat' first
    | with_reducible assumption | with_reducible apply OutLeaves.next
    | with_reducible apply State.hear_leaves (part_trans hP (by decide))
    | with_reducible apply State.latency_leaves (part_trans hP (by decide))
    | with_reducible apply State.setJ_leaves (part_trans hP (by decide))
    | with_reducible apply State.setPeer_leaves (part_trans hP (by decide))
    | with_reducible apply State.tryCommit_leaves (part_trans hP (by decide)) | with_reducible apply Leaves.foldl
    | with_reducible apply Leaves.foldl_fst | with_reducible apply Leaves.foldl_snd | with_reducible intro _
    | dsimp only

theorem execCommit_leaves {P : Nat} {s₀ s : State} (hP : P &&& 584115613704 = 584115613704) (h : Leaves P s₀ s) (i : Member) (osn : BitVec 64) :
    OutLeaves P s₀ (execCommit i osn s) := by
  unfold execCommit
  repeat' first
    | with_reducible assumption | with_reducible apply OutLeaves.next
    | with_reducible apply State.commitTo_leaves (part_trans hP (by decide))
    | with_reducible apply State.hear_leaves (part_trans hP (by decide))
    | with_reducible apply State.setPeer_leaves (part_trans hP (by decide))
    | with_reducible apply State.trySync_leaves (part_trans hP (by decide)) | with_reducible intro _ | dsimp only

theorem execState_leaves {P : Nat} {s₀ s : State} (hP : P &&& 549755871232 = 549755871232) (h : Leaves P s₀ s) (i : Member) (code : BitVec 8) (high commit : BitVec 64) :
    OutLeaves P s₀ (execState i code high commit s) := by
  unfold execState
  repeat' first
    | with_reducible assumption | with_reducible apply OutLeaves.next
    | with_reducible apply State.chooseSequencer_leaves (part_trans hP (by decide))
    | with_reducible apply State.hear_leaves (part_trans hP (by decide))
    | with_reducible apply State.setPeer_leaves (part_trans hP (by decide))
    | with_reducible apply State.trySync_leaves (part_trans hP (by decide)) | with_reducible apply OutLeaves.ite
    | split | with_reducible intro _ | dsimp only

theorem execStateSend_leaves {P : Nat} {s₀ s : State} (hP : P &&& 8192 = 8192) (h : Leaves P s₀ s) :
    OutLeaves P s₀ (execStateSend s) := by
  unfold execStateSend
  repeat' first
    | with_reducible assumption | with_reducible apply OutLeaves.next
    | with_reducible apply State.sendState_leaves (part_trans hP (by decide)) | with_reducible intro _

theorem execJeFetch_leaves {P : Nat} {s₀ s : State} (hP : P &&& 8192 = 8192) (h : Leaves P s₀ s) :
    OutLeaves P s₀ (execJeFetch s) := by
  unfold execJeFetch
  repeat' first
    | with_reducible assumption | with_reducible apply OutLeaves.next
    | with_reducible apply State.sendFetch_leaves (part_trans hP (by decide)) | split | with_reducible intro _

theorem execPeerSilence_leaves {P : Nat} {s₀ s : State} (hP : P &&& 549755871232 = 549755871232) (h : Leaves P s₀ s) (i : Member) :
    OutLeaves P s₀ (execPeerSilence i s) := by
  unfold execPeerSilence
  repeat' first
    | with_reducible assumption | with_reducible apply OutLeaves.next
    | with_reducible apply State.chooseSequencer_leaves (part_trans hP (by decide))
    | with_reducible apply State.setPeer_leaves (part_trans hP (by decide)) | with_reducible apply OutLeaves.ite
    | split | with_reducible intro _ | dsimp only

theorem execEligibilityRestore_leaves {P : Nat} {s₀ s : State} (hP : P &&& 549755838464 = 549755838464) (h : Leaves P s₀ s) :
    OutLeaves P s₀ (execEligibilityRestore s) := by
  unfold execEligibilityRestore
  repeat' first
    | with_reducible assumption | with_reducible apply OutLeaves.next
    | with_reducible apply State.chooseSequencer_leaves (part_trans hP (by decide)) | with_reducible intro _

theorem execSoloEntry_leaves {P : Nat} {s₀ s : State} (hP : P &&& 652835060232 = 652835060232) (h : Leaves P s₀ s) :
    OutLeaves P s₀ (execSoloEntry s) := by
  unfold execSoloEntry
  repeat' first
    | with_reducible assumption | with_reducible apply OutLeaves.next
    | with_reducible apply State.alarm_leaves (part_trans hP (by decide))
    | with_reducible apply State.chooseSequencer_leaves (part_trans hP (by decide))
    | with_reducible apply State.commitTo_leaves (part_trans hP (by decide))
    | with_reducible apply State.setJState_leaves (part_trans hP (by decide))
    | with_reducible apply State.tryCommit_leaves (part_trans hP (by decide)) | with_reducible apply OutLeaves.ite
    | with_reducible apply Leaves.ite | split | with_reducible intro _ | dsimp only

theorem State.keepOld_leaves {P : Nat} {s₀ s : State} (hP : P &&& 16384 = 16384) (h : Leaves P s₀ s) (o : ObjDef) (i k : Nat) :
    Leaves P s₀ (State.keepOld s o i k) := by
  unfold State.keepOld
  repeat' first
    | with_reducible assumption | with_reducible apply State.setJ_leaves (part_trans hP (by decide))
    | with_reducible apply Leaves.ite | split | with_reducible intro _ | dsimp only

theorem State.setApplied_leaves {P : Nat} {s₀ s : State} (hP : P &&& 549755830280 = 549755830280) (h : Leaves P s₀ s) (n : Nat) :
    Leaves P s₀ (State.setApplied s n) := by
  unfold State.setApplied
  repeat' first
    | with_reducible assumption | with_reducible exact cov_trans hP (by decide)
    | with_reducible apply State.keepOld_leaves (part_trans hP (by decide))
    | with_reducible apply State.setObjN_leaves (part_trans hP (by decide)) | with_reducible apply State.wr2_leaves
    | dsimp only

theorem State.skipForeign_leaves {P : Nat} {s₀ s : State} (hP : P &&& 549755830280 = 549755830280) (h : Leaves P s₀ s)
    (os : List OrderRec) : Leaves P s₀ (s.skipForeign os) := by
  induction os generalizing s with
  | nil => exact h
  | cons o os ih =>
    unfold State.skipForeign
    split
    · exact ih (State.setApplied_leaves (part_trans hP (by decide)) h _)
    · exact h

theorem State.openNext_leaves {P : Nat} {s₀ s : State} (hP : P &&& 549755830280 = 549755830280) (h : Leaves P s₀ s) :
    Leaves P s₀ (State.openNext s) := by
  unfold State.openNext
  repeat' first
    | with_reducible assumption | with_reducible exact cov_trans hP (by decide)
    | with_reducible apply State.raise_leaves | with_reducible apply State.setJ_leaves (part_trans hP (by decide))
    | with_reducible apply State.skipForeign_leaves (part_trans hP (by decide)) | with_reducible apply State.wr_leaves
    | with_reducible apply Leaves.ite | split | with_reducible intro _ | dsimp only

theorem execApplyReady_leaves {P : Nat} {s₀ s : State} (hP : P &&& 549755830280 = 549755830280) (h : Leaves P s₀ s) :
    OutLeaves P s₀ (execApplyReady s) := by
  unfold execApplyReady
  repeat' first
    | with_reducible assumption | with_reducible apply OutLeaves.next
    | with_reducible apply State.openNext_leaves (part_trans hP (by decide)) | with_reducible intro _

theorem execApplySlow_leaves {P : Nat} {s₀ s : State} (hP : P &&& 652835060232 = 652835060232) (h : Leaves P s₀ s) :
    OutLeaves P s₀ (execApplySlow s) := by
  unfold execApplySlow
  repeat' first
    | with_reducible assumption | with_reducible exact cov_trans hP (by decide) | with_reducible apply OutLeaves.next
    | with_reducible apply State.alarm_leaves (part_trans hP (by decide)) | with_reducible apply State.raise_leaves
    | with_reducible apply State.setJ_leaves (part_trans hP (by decide)) | with_reducible apply OutLeaves.ite | split
    | with_reducible intro _ | dsimp only

theorem State.journalDip_leaves {P : Nat} {s₀ s : State} (hP : P &&& 549755838464 = 549755838464) (h : Leaves P s₀ s) :
    Leaves P s₀ (State.journalDip s) := by
  unfold State.journalDip
  repeat' first
    | with_reducible assumption | with_reducible exact cov_trans hP (by decide)
    | with_reducible apply State.raise_leaves | with_reducible apply State.setJ_leaves (part_trans hP (by decide))
    | with_reducible apply State.setJState_leaves (part_trans hP (by decide)) | with_reducible apply Leaves.ite
    | split | with_reducible intro _ | dsimp only

theorem State.journalPause_leaves {P : Nat} {s₀ s : State} (hP : P &&& 652835060232 = 652835060232) (h : Leaves P s₀ s) :
    Leaves P s₀ (State.journalPause s) := by
  unfold State.journalPause
  repeat' first
    | with_reducible assumption | with_reducible exact cov_trans hP (by decide)
    | with_reducible apply State.alarm_leaves (part_trans hP (by decide))
    | with_reducible apply State.chooseSequencer_leaves (part_trans hP (by decide))
    | with_reducible apply State.heldCount_leaves (part_trans hP (by decide))
    | with_reducible apply State.raise_leaves | with_reducible apply State.sendPeer_leaves (part_trans hP (by decide))
    | with_reducible apply State.setJState_leaves (part_trans hP (by decide)) | with_reducible apply Leaves.ite
    | with_reducible apply Leaves.foldl | with_reducible apply Leaves.foldl_fst
    | with_reducible apply Leaves.foldl_snd | split | with_reducible intro _ | dsimp only

theorem State.completeHeld_leaves {P : Nat} {s₀ s : State} (hP : P &&& 36776113196 = 36776113196) (h : Leaves P s₀ s) (e : HeldEntry) :
    Leaves P s₀ (State.completeHeld s e) := by
  unfold State.completeHeld
  repeat' first
    | with_reducible assumption | with_reducible apply Run.write_leaves (part_trans hP (by decide))
    | with_reducible apply State.forwardNew_leaves (part_trans hP (by decide))
    | with_reducible apply State.sendPeer_leaves (part_trans hP (by decide))
    | with_reducible apply State.sendReply_leaves (part_trans hP (by decide))
    | with_reducible apply State.sequence_leaves (part_trans hP (by decide))
    | with_reducible apply State.setObj_leaves (part_trans hP (by decide)) | with_reducible apply Leaves.ite | split
    | with_reducible intro _ | dsimp only

theorem State.sparge_leaves {P : Nat} {s₀ s : State} (hP : P &&& 655251406380 = 655251406380) (h : Leaves P s₀ s) :
    Leaves P s₀ (State.sparge s) := by
  unfold State.sparge
  repeat' first
    | with_reducible assumption | with_reducible exact cov_trans hP (by decide)
    | with_reducible apply State.afterWrite_leaves (part_trans hP (by decide))
    | with_reducible apply State.chooseSequencer_leaves (part_trans hP (by decide))
    | with_reducible apply State.completeHeld_leaves (part_trans hP (by decide))
    | with_reducible apply State.heldCount_leaves (part_trans hP (by decide))
    | with_reducible apply State.history_leaves (part_trans hP (by decide)) | with_reducible apply State.put_leaves
    | with_reducible apply State.raise_leaves
    | with_reducible apply State.ringStore_leaves (part_trans hP (by decide))
    | with_reducible apply State.sendFetch_leaves (part_trans hP (by decide))
    | with_reducible apply State.setHealth_leaves (part_trans hP (by decide))
    | with_reducible apply State.setJ_leaves (part_trans hP (by decide))
    | with_reducible apply State.setJState_leaves (part_trans hP (by decide))
    | with_reducible apply State.toRing_leaves (part_trans hP (by decide)) | with_reducible apply Leaves.ite
    | with_reducible apply Leaves.foldl | split | with_reducible intro _ | dsimp only
    | with_reducible apply Leaves.set_health (part_trans hP (by decide))

theorem State.resolveFork_leaves {P : Nat} {s₀ s : State} (hP : P &&& 549755838472 = 549755838472) (h : Leaves P s₀ s) :
    Leaves P s₀ (State.resolveFork s) := by
  unfold State.resolveFork
  repeat' first
    | with_reducible assumption | with_reducible exact cov_trans hP (by decide)
    | with_reducible apply State.chooseSequencer_leaves (part_trans hP (by decide))
    | with_reducible apply State.discardFrom_leaves (part_trans hP (by decide))
    | with_reducible apply State.sendFetch_leaves (part_trans hP (by decide))
    | with_reducible apply State.setJState_leaves (part_trans hP (by decide))
    | with_reducible apply State.setObjN_leaves (part_trans hP (by decide)) | with_reducible apply State.wr2_leaves
    | with_reducible apply Leaves.ite | split | with_reducible intro _ | dsimp only

end Sys2Proof.Machine
end

