-- ==== Sys2Proof/Laws/LeavesUnits.lean ====
section
/-! SUPPORT. What each operation of Machine/Units.lean leaves. -/

set_option linter.unusedTactic false
set_option linter.unreachableTactic false

namespace Sys2Proof.Machine

theorem State.countRetired_leaves {P : Nat} {s₀ s : State} (hP : P &&& 68719476736 = 68719476736) (h : Leaves P s₀ s) :
    Leaves P s₀ (State.countRetired s) := by
  unfold State.countRetired
  repeat' first
    | with_reducible assumption | with_reducible exact cov_trans hP (by decide) | with_reducible apply State.wr_leaves

theorem State.showBusy_leaves {P : Nat} {s₀ s : State} (hP : P &&& 68719476736 = 68719476736) (h : Leaves P s₀ s) :
    Leaves P s₀ (State.showBusy s) := by
  unfold State.showBusy
  repeat' first
    | with_reducible assumption | with_reducible exact cov_trans hP (by decide)
    | with_reducible apply State.put_leaves | split | with_reducible intro _ | dsimp only

theorem State.retireUnit_leaves {P : Nat} {s₀ s : State} (hP : P &&& 103079229960 = 103079229960) (h : Leaves P s₀ s) (slot : Nat) (cause : FaultCause) (node osn : Nat) :
    Leaves P s₀ (State.retireUnit s slot cause node osn) := by
  unfold State.retireUnit
  repeat' first
    | with_reducible assumption | with_reducible exact cov_trans hP (by decide)
    | with_reducible apply State.alarm_leaves (part_trans hP (by decide))
    | with_reducible apply State.countRetired_leaves (part_trans hP (by decide))
    | with_reducible apply State.history_leaves (part_trans hP (by decide)) | with_reducible apply State.raise_leaves
    | with_reducible apply State.setHealth_leaves (part_trans hP (by decide))
    | with_reducible apply State.setUnit_leaves (part_trans hP (by decide))
    | with_reducible apply State.showBusy_leaves (part_trans hP (by decide)) | with_reducible apply Leaves.ite | split
    | with_reducible intro _ | dsimp only

theorem State.unitTransient_leaves {P : Nat} {s₀ s : State} (hP : P &&& 34359740416 = 34359740416) (h : Leaves P s₀ s) (slot : Nat) (second : Bool) :
    Leaves P s₀ (State.unitTransient s slot second).1 := by
  unfold State.unitTransient
  repeat' first
    | with_reducible assumption | with_reducible apply State.count_leaves (part_trans hP (by decide))
    | with_reducible apply State.setUnit_leaves (part_trans hP (by decide)) | with_reducible apply Leaves.ite | split
    | with_reducible intro _ | dsimp only

theorem State.unitTesting_leaves {P : Nat} {s₀ s : State} (hP : P &&& 2048 = 2048) (h : Leaves P s₀ s) (slot : Nat) :
    Leaves P s₀ (State.unitTesting s slot) := by
  unfold State.unitTesting
  repeat' first
    | with_reducible assumption | with_reducible apply State.setUnit_leaves (part_trans hP (by decide))
    | with_reducible apply Leaves.ite | split | with_reducible intro _ | dsimp only

theorem State.unitTested_leaves {P : Nat} {s₀ s : State} (hP : P &&& 103079229960 = 103079229960) (h : Leaves P s₀ s) (slot : Nat) (pass : Bool) :
    Leaves P s₀ (State.unitTested s slot pass) := by
  unfold State.unitTested
  repeat' first
    | with_reducible assumption | with_reducible exact cov_trans hP (by decide)
    | with_reducible apply State.history_leaves (part_trans hP (by decide)) | with_reducible apply State.raise_leaves
    | with_reducible apply State.retireUnit_leaves (part_trans hP (by decide))
    | with_reducible apply State.setHealth_leaves (part_trans hP (by decide))
    | with_reducible apply State.setUnit_leaves (part_trans hP (by decide))
    | with_reducible apply State.showBusy_leaves (part_trans hP (by decide)) | with_reducible apply State.wr_leaves
    | with_reducible apply Leaves.ite | split | with_reducible intro _ | dsimp only

theorem State.unitReturned_leaves {P : Nat} {s₀ s : State} (hP : P &&& 68719479296 = 68719479296) (h : Leaves P s₀ s) (slot : Nat) (node osn : Nat) :
    Leaves P s₀ (State.unitReturned s slot node osn) := by
  unfold State.unitReturned
  repeat' first
    | with_reducible assumption | with_reducible exact cov_trans hP (by decide)
    | with_reducible apply State.countRetired_leaves (part_trans hP (by decide))
    | with_reducible apply State.history_leaves (part_trans hP (by decide)) | with_reducible apply State.raise_leaves
    | with_reducible apply State.setUnit_leaves (part_trans hP (by decide)) | with_reducible apply Leaves.ite | split
    | with_reducible intro _ | dsimp only

end Sys2Proof.Machine
end

