-- ==== Sys2Proof/Laws/LeavesCan.lean ====
section
/-! SUPPORT. What each operation of Machine/Can.lean leaves. -/

set_option linter.unusedTactic false
set_option linter.unreachableTactic false

namespace Sys2Proof.Machine

theorem State.setCan_leaves {P : Nat} {s₀ s : State} (hP : P &&& 262144 = 262144) (h : Leaves P s₀ s) (n : Nat) (f : CanSt → CanSt) :
    Leaves P s₀ (State.setCan s n f) := by
  unfold State.setCan
  repeat' first
    | with_reducible assumption | dsimp only | with_reducible apply Leaves.set_can (part_trans hP (by decide))

theorem State.canReport_leaves {P : Nat} {s₀ s : State} (h : Leaves P s₀ s) (f irq : Field) (hf_f : covers P f = true) (hf_irq : covers P irq = true) (n b : Nat) :
    Leaves P s₀ (State.canReport s f irq n b) := by
  unfold State.canReport
  repeat' first
    | with_reducible assumption | with_reducible exact cov_trans hP (by decide)
    | with_reducible apply State.raise_leaves | with_reducible apply State.setBitIn_leaves

theorem State.canEndReq_leaves {P : Nat} {s₀ s : State} (hP : P &&& 2147483648 = 2147483648) (h : Leaves P s₀ s) (n b : Nat) :
    Leaves P s₀ (State.canEndReq s n b) := by
  unfold State.canEndReq
  repeat' first
    | with_reducible assumption | with_reducible exact cov_trans hP (by decide)
    | with_reducible apply State.clearBitIn_leaves

theorem State.canWithdraw_leaves {P : Nat} {s₀ s : State} (hP : P &&& 2147745792 = 2147745792) (h : Leaves P s₀ s) (n : Nat) :
    Leaves P s₀ (State.canWithdraw s n) := by
  unfold State.canWithdraw
  repeat' first
    | with_reducible assumption | with_reducible exact cov_trans hP (by decide)
    | with_reducible apply State.canEndReq_leaves (part_trans hP (by decide))
    | with_reducible apply State.canReport_leaves
    | with_reducible apply State.setCan_leaves (part_trans hP (by decide)) | with_reducible apply Leaves.foldl
    | with_reducible intro _ | dsimp only

theorem State.canSelect_leaves {P : Nat} {s₀ s : State} (hP : P &&& 34360000512 = 34360000512) (h : Leaves P s₀ s) (n : Nat) :
    Leaves P s₀ (State.canSelect s n) := by
  unfold State.canSelect
  repeat' first
    | with_reducible assumption | with_reducible apply State.latency_leaves (part_trans hP (by decide))
    | with_reducible apply State.setCan_leaves (part_trans hP (by decide)) | with_reducible apply Leaves.ite | split
    | with_reducible intro _ | dsimp only

theorem State.canRequest_leaves {P : Nat} {s₀ s : State} (hP : P &&& 2147745792 = 2147745792) (h : Leaves P s₀ s) (n b : Nat) :
    Leaves P s₀ (State.canRequest s n b) := by
  unfold State.canRequest
  repeat' first
    | with_reducible assumption | with_reducible exact cov_trans hP (by decide)
    | with_reducible apply State.put_leaves | with_reducible apply State.setBitIn_leaves
    | with_reducible apply State.setCan_leaves (part_trans hP (by decide)) | with_reducible apply Leaves.ite | split
    | with_reducible intro _ | dsimp only

theorem execCanTxReq_leaves {P : Nat} {s₀ s : State} (hP : P &&& 36507484160 = 36507484160) (h : Leaves P s₀ s) (n : Fin 16) (v : Word) :
    OutLeaves P s₀ (execCanTxReq n v s) := by
  unfold execCanTxReq
  repeat' first
    | with_reducible assumption | with_reducible exact cov_trans hP (by decide) | with_reducible apply OutLeaves.next
    | with_reducible apply State.canRequest_leaves (part_trans hP (by decide))
    | with_reducible apply State.canSelect_leaves (part_trans hP (by decide))
    | with_reducible apply State.raise_leaves | with_reducible apply OutLeaves.ite | with_reducible apply Leaves.ite
    | with_reducible apply Leaves.foldl | split | with_reducible intro _ | dsimp only

theorem execCanTxCancel_leaves {P : Nat} {s₀ s : State} (hP : P &&& 2147745792 = 2147745792) (h : Leaves P s₀ s) (n : Fin 16) (v : Word) :
    OutLeaves P s₀ (execCanTxCancel n v s) := by
  unfold execCanTxCancel
  repeat' first
    | with_reducible assumption | with_reducible exact cov_trans hP (by decide) | with_reducible apply OutLeaves.next
    | with_reducible apply State.canEndReq_leaves (part_trans hP (by decide))
    | with_reducible apply State.canReport_leaves
    | with_reducible apply State.setCan_leaves (part_trans hP (by decide)) | with_reducible apply OutLeaves.ite
    | with_reducible apply Leaves.ite | with_reducible apply Leaves.foldl | with_reducible apply Leaves.foldl_fst
    | split | with_reducible intro _ | dsimp only

theorem State.tapFrame_leaves {P : Nat} {s₀ s : State} (hP : P &&& 36507484160 = 36507484160) (h : Leaves P s₀ s) (n b : Nat) (ws : List Nat) :
    Leaves P s₀ (State.tapFrame s n b ws) := by
  unfold State.tapFrame
  repeat' first
    | with_reducible assumption | with_reducible exact cov_trans hP (by decide)
    | with_reducible apply State.canRequest_leaves (part_trans hP (by decide))
    | with_reducible apply State.canSelect_leaves (part_trans hP (by decide)) | with_reducible apply State.put_leaves
    | with_reducible apply State.setCan_leaves (part_trans hP (by decide)) | with_reducible apply Leaves.ite | split
    | with_reducible intro _ | dsimp only

theorem State.tapFlush_leaves {P : Nat} {s₀ s : State} (hP : P &&& 36507484160 = 36507484160) (h : Leaves P s₀ s) (n b : Nat) :
    Leaves P s₀ (State.tapFlush s n b) := by
  unfold State.tapFlush
  repeat' first
    | with_reducible assumption | with_reducible exact cov_trans hP (by decide)
    | with_reducible apply State.put_leaves | with_reducible apply State.setCan_leaves (part_trans hP (by decide))
    | with_reducible apply State.tapFrame_leaves (part_trans hP (by decide)) | split | with_reducible intro _
    | dsimp only

theorem State.canRxIrq_leaves {P : Nat} {s₀ s : State} (hP : P &&& 2147483648 = 2147483648) (h : Leaves P s₀ s) (n : Nat) :
    Leaves P s₀ (State.canRxIrq s n) := by
  unfold State.canRxIrq
  repeat' first
    | with_reducible assumption | with_reducible exact cov_trans hP (by decide)
    | with_reducible apply State.raise_leaves | with_reducible apply Leaves.ite | split | with_reducible intro _
    | dsimp only

theorem State.canStore_leaves {P : Nat} {s₀ s : State} (hP : P &&& 36507484196 = 36507484196) (h : Leaves P s₀ s) (n : Nat) (f : CanFrame) (own : Bool) (ts : Nat) :
    Leaves P s₀ (State.canStore s n f own ts) := by
  unfold State.canStore
  repeat' first
    | with_reducible assumption | with_reducible exact cov_trans hP (by decide)
    | with_reducible apply State.canRxIrq_leaves (part_trans hP (by decide))
    | with_reducible apply State.count_leaves (part_trans hP (by decide))
    | with_reducible apply State.gristPut_leaves (part_trans hP (by decide))
    | with_reducible apply State.incSat_leaves | with_reducible apply State.raise_leaves
    | with_reducible apply State.setCan_leaves (part_trans hP (by decide)) | with_reducible apply State.wr_leaves
    | with_reducible apply Leaves.ite | split | with_reducible intro _ | dsimp only

theorem execCanRxIrqTimeout_leaves {P : Nat} {s₀ s : State} (hP : P &&& 2147483648 = 2147483648) (h : Leaves P s₀ s) (n : Fin 16) :
    OutLeaves P s₀ (execCanRxIrqTimeout n s) := by
  unfold execCanRxIrqTimeout
  repeat' first
    | with_reducible assumption | with_reducible apply OutLeaves.next
    | with_reducible apply State.canRxIrq_leaves (part_trans hP (by decide)) | with_reducible intro _

theorem execCanRxTailWrite_leaves {P : Nat} {s₀ s : State} (hP : P &&& 2147745792 = 2147745792) (h : Leaves P s₀ s) (n : Fin 16) (v : Word) :
    OutLeaves P s₀ (execCanRxTailWrite n v s) := by
  unfold execCanRxTailWrite
  repeat' first
    | with_reducible assumption | with_reducible exact cov_trans hP (by decide) | with_reducible apply OutLeaves.next
    | with_reducible apply State.setCan_leaves (part_trans hP (by decide)) | with_reducible apply State.wr_leaves
    | with_reducible apply OutLeaves.ite | split | with_reducible intro _ | dsimp only

theorem State.canErrState_leaves {P : Nat} {s₀ s : State} (hP : P &&& 105226975752 = 105226975752) (h : Leaves P s₀ s) (n : Nat) :
    Leaves P s₀ (State.canErrState s n) := by
  unfold State.canErrState
  repeat' first
    | with_reducible assumption | with_reducible exact cov_trans hP (by decide)
    | with_reducible apply State.alarm_leaves (part_trans hP (by decide))
    | with_reducible apply State.canWithdraw_leaves (part_trans hP (by decide))
    | with_reducible apply State.event_leaves (part_trans hP (by decide)) | with_reducible apply State.incSat_leaves
    | with_reducible apply State.put_leaves | with_reducible apply State.raise_leaves
    | with_reducible apply State.setCan_leaves (part_trans hP (by decide)) | with_reducible apply State.wr_leaves
    | with_reducible apply Leaves.ite | split | with_reducible intro _ | dsimp only

theorem State.canHeard_leaves {P : Nat} {s₀ s : State} (hP : P &&& 2147483648 = 2147483648) (h : Leaves P s₀ s) (n : Nat) :
    Leaves P s₀ (State.canHeard s n) := by
  unfold State.canHeard
  repeat' first
    | with_reducible assumption | with_reducible exact cov_trans hP (by decide) | with_reducible apply State.wr_leaves

theorem State.canRecDown_leaves {P : Nat} {s₀ s : State} (hP : P &&& 2147484160 = 2147484160) (h : Leaves P s₀ s) (n : Nat) :
    Leaves P s₀ (State.canRecDown s n) := by
  unfold State.canRecDown
  repeat' first
    | with_reducible assumption | with_reducible exact cov_trans hP (by decide)
    | with_reducible apply State.nextFresh_leaves (part_trans hP (by decide)) | with_reducible apply State.wr_leaves
    | with_reducible apply Leaves.ite | split | with_reducible intro _ | dsimp only

theorem State.canAttemptEnds_leaves {P : Nat} {s₀ s : State} (hP : P &&& 36507484160 = 36507484160) (h : Leaves P s₀ s) (n b : Nat) :
    Leaves P s₀ (State.canAttemptEnds s n b) := by
  unfold State.canAttemptEnds
  repeat' first
    | with_reducible assumption | with_reducible exact cov_trans hP (by decide)
    | with_reducible apply State.canEndReq_leaves (part_trans hP (by decide))
    | with_reducible apply State.canReport_leaves
    | with_reducible apply State.setCan_leaves (part_trans hP (by decide))
    | with_reducible apply State.tapFlush_leaves (part_trans hP (by decide)) | with_reducible apply Leaves.ite | split
    | with_reducible intro _ | dsimp only

theorem execCanTxComplete_leaves {P : Nat} {s₀ s : State} (hP : P &&& 105226975788 = 105226975788) (h : Leaves P s₀ s) (n : Fin 16) (bits timeNs : Nat) :
    OutLeaves P s₀ (execCanTxComplete n bits timeNs s) := by
  unfold execCanTxComplete
  repeat' first
    | with_reducible assumption | with_reducible exact cov_trans hP (by decide) | with_reducible apply OutLeaves.next
    | with_reducible apply State.canEndReq_leaves (part_trans hP (by decide))
    | with_reducible apply State.canErrState_leaves (part_trans hP (by decide))
    | with_reducible apply State.canHeard_leaves (part_trans hP (by decide))
    | with_reducible apply State.canReport_leaves
    | with_reducible apply State.canSelect_leaves (part_trans hP (by decide))
    | with_reducible apply State.canStore_leaves (part_trans hP (by decide))
    | with_reducible apply State.count_leaves (part_trans hP (by decide))
    | with_reducible apply State.setCan_leaves (part_trans hP (by decide))
    | with_reducible apply State.tapFlush_leaves (part_trans hP (by decide)) | with_reducible apply State.wr_leaves
    | with_reducible apply OutLeaves.ite | with_reducible apply Leaves.ite | split | with_reducible intro _
    | dsimp only

theorem execCanArbitrationLost_leaves {P : Nat} {s₀ s : State} (hP : P &&& 36507484160 = 36507484160) (h : Leaves P s₀ s) (n : Fin 16) :
    OutLeaves P s₀ (execCanArbitrationLost n s) := by
  unfold execCanArbitrationLost
  repeat' first
    | with_reducible assumption | with_reducible apply OutLeaves.next
    | with_reducible apply State.canAttemptEnds_leaves (part_trans hP (by decide))
    | with_reducible apply State.setCan_leaves (part_trans hP (by decide)) | split | with_reducible intro _
    | dsimp only

theorem State.canCountErr_leaves {P : Nat} {s₀ s : State} (hP : P &&& 36507484160 = 36507484160) (h : Leaves P s₀ s) (n : Nat) (kind : CanError) :
    Leaves P s₀ (State.canCountErr s n kind) := by
  unfold State.canCountErr
  repeat' first
    | with_reducible assumption | with_reducible exact cov_trans hP (by decide)
    | with_reducible apply State.count_leaves (part_trans hP (by decide)) | with_reducible apply State.incSat_leaves
    | with_reducible apply State.setCan_leaves (part_trans hP (by decide)) | with_reducible apply State.wr_leaves
    | split | with_reducible intro _ | dsimp only

theorem State.canAckRun_leaves {P : Nat} {s₀ s : State} (hP : P &&& 105226705408 = 105226705408) (h : Leaves P s₀ s) (n : Nat) :
    Leaves P s₀ (State.canAckRun s n) := by
  unfold State.canAckRun
  repeat' first
    | with_reducible assumption | with_reducible exact cov_trans hP (by decide)
    | with_reducible apply State.event_leaves (part_trans hP (by decide)) | with_reducible apply State.incSat_leaves
    | with_reducible apply State.raise_leaves | with_reducible apply Leaves.ite | split | with_reducible intro _
    | dsimp only

theorem State.canErrCount_leaves {P : Nat} {s₀ s : State} (hP : P &&& 2147483648 = 2147483648) (h : Leaves P s₀ s) (n : Nat) (kind : CanError) (transmitting dominant : Bool) :
    Leaves P s₀ (State.canErrCount s n kind transmitting dominant) := by
  unfold State.canErrCount
  repeat' first
    | with_reducible assumption | with_reducible exact cov_trans hP (by decide) | with_reducible apply State.wr_leaves
    | with_reducible apply Leaves.ite | split | with_reducible intro _

theorem execCanBusError_leaves {P : Nat} {s₀ s : State} (hP : P &&& 105226975752 = 105226975752) (h : Leaves P s₀ s) (n : Fin 16) (kind : CanError) (transmitting dominant : Bool) :
    OutLeaves P s₀ (execCanBusError n kind transmitting dominant s) := by
  unfold execCanBusError
  repeat' first
    | with_reducible assumption | with_reducible apply OutLeaves.next
    | with_reducible apply State.canAckRun_leaves (part_trans hP (by decide))
    | with_reducible apply State.canAttemptEnds_leaves (part_trans hP (by decide))
    | with_reducible apply State.canCountErr_leaves (part_trans hP (by decide))
    | with_reducible apply State.canErrCount_leaves (part_trans hP (by decide))
    | with_reducible apply State.canErrState_leaves (part_trans hP (by decide))
    | with_reducible apply State.canSelect_leaves (part_trans hP (by decide))
    | with_reducible apply State.setCan_leaves (part_trans hP (by decide)) | with_reducible apply OutLeaves.ite
    | with_reducible apply Leaves.ite | split | with_reducible intro _ | dsimp only

theorem State.canDropPartial_leaves {P : Nat} {s₀ s : State} (hP : P &&& 262144 = 262144) (h : Leaves P s₀ s) (n node kind sub : Nat) :
    Leaves P s₀ (State.canDropPartial s n node kind sub) := by
  unfold State.canDropPartial
  repeat' first
    | with_reducible assumption | with_reducible apply State.setCan_leaves (part_trans hP (by decide))
    | with_reducible intro _ | dsimp only

theorem State.canDropped_leaves {P : Nat} {s₀ s : State} (hP : P &&& 4096 = 4096) (h : Leaves P s₀ s) (n : Nat) :
    Leaves P s₀ (State.canDropped s n) := by
  unfold State.canDropped
  repeat' first
    | with_reducible assumption | dsimp only | with_reducible apply Leaves.set_zdp (part_trans hP (by decide))

theorem State.canAssembled_leaves {P : Nat} {s₀ s : State} (hP : P &&& 266240 = 266240) (h : Leaves P s₀ s) (n : Nat) (p : Partial) :
    Leaves P s₀ (State.canAssembled s n p) := by
  unfold State.canAssembled
  repeat' first
    | with_reducible assumption | with_reducible apply State.canDropPartial_leaves (part_trans hP (by decide))
    | with_reducible apply State.canDropped_leaves (part_trans hP (by decide))
    | with_reducible apply State.setCan_leaves (part_trans hP (by decide)) | with_reducible apply Leaves.ite | split
    | with_reducible intro _ | dsimp only

theorem State.noteGate_leaves {P : Nat} {s₀ s : State} (hP : P &&& 32768 = 32768) (h : Leaves P s₀ s) (b : List Byte) :
    Leaves P s₀ (State.noteGate s b) := by
  unfold State.noteGate
  repeat' first
    | with_reducible assumption | with_reducible apply Leaves.ite | split | with_reducible intro _ | dsimp only
    | with_reducible apply Leaves.set_claims (part_trans hP (by decide))

theorem State.canSegment_leaves {P : Nat} {s₀ s : State} (hP : P &&& 266240 = 266240) (h : Leaves P s₀ s) (n : Nat) (f : CanFrame) :
    Leaves P s₀ (State.canSegment s n f) := by
  unfold State.canSegment
  repeat' first
    | with_reducible assumption | with_reducible apply State.canAssembled_leaves (part_trans hP (by decide))
    | with_reducible apply State.canDropPartial_leaves (part_trans hP (by decide))
    | with_reducible apply State.canDropped_leaves (part_trans hP (by decide)) | with_reducible apply Leaves.ite
    | split | with_reducible intro _ | dsimp only

theorem execSegmentGapTimeout_leaves {P : Nat} {s₀ s : State} (hP : P &&& 262144 = 262144) (h : Leaves P s₀ s) (n : Fin 16) (node : BitVec 14) (kind : BitVec 3) (sub : BitVec 12) :
    OutLeaves P s₀ (execSegmentGapTimeout n node kind sub s) := by
  unfold execSegmentGapTimeout
  repeat' first
    | with_reducible assumption | with_reducible apply OutLeaves.next
    | with_reducible apply State.canDropPartial_leaves (part_trans hP (by decide)) | with_reducible intro _

theorem execCanFrameReceived_leaves {P : Nat} {s₀ s : State} (hP : P &&& 105227008556 = 105227008556) (h : Leaves P s₀ s) (n : Fin 16) (f : CanFrame) (lenNs : Nat) :
    OutLeaves P s₀ (execCanFrameReceived n f lenNs s) := by
  unfold execCanFrameReceived
  repeat' first
    | with_reducible assumption | with_reducible apply OutLeaves.next
    | with_reducible apply State.canErrState_leaves (part_trans hP (by decide))
    | with_reducible apply State.canHeard_leaves (part_trans hP (by decide))
    | with_reducible apply State.canRecDown_leaves (part_trans hP (by decide))
    | with_reducible apply State.canSegment_leaves (part_trans hP (by decide))
    | with_reducible apply State.canSelect_leaves (part_trans hP (by decide))
    | with_reducible apply State.canStore_leaves (part_trans hP (by decide))
    | with_reducible apply State.count_leaves (part_trans hP (by decide))
    | with_reducible apply State.noteGate_leaves (part_trans hP (by decide))
    | with_reducible apply State.setCan_leaves (part_trans hP (by decide)) | with_reducible apply OutLeaves.ite
    | with_reducible apply Leaves.ite | split | with_reducible intro _ | dsimp only

theorem State.canEnableIn_leaves {P : Nat} {s₀ s : State} (hP : P &&& 2147745792 = 2147745792) (h : Leaves P s₀ s) (n mode : Nat) :
    Leaves P s₀ (State.canEnableIn s n mode).1 := by
  unfold State.canEnableIn
  repeat' first
    | with_reducible assumption | with_reducible exact cov_trans hP (by decide)
    | with_reducible apply State.setCan_leaves (part_trans hP (by decide)) | with_reducible apply State.wr_leaves
    | with_reducible apply Leaves.ite | split | with_reducible intro _ | dsimp only

theorem State.canLoad_leaves {P : Nat} {s₀ s : State} (hP : P &&& 2147483648 = 2147483648) (h : Leaves P s₀ s) (n : Nat) :
    Leaves P s₀ (State.canLoad s n) := by
  unfold State.canLoad
  repeat' first
    | with_reducible assumption | with_reducible exact cov_trans hP (by decide)
    | with_reducible apply State.put_leaves | with_reducible apply State.wr_leaves | with_reducible apply Leaves.ite
    | split | with_reducible intro _ | dsimp only

theorem execCanEnable_leaves {P : Nat} {s₀ s : State} (hP : P &&& 2147746056 = 2147746056) (h : Leaves P s₀ s) (n : Fin 16) (mode : BitVec 2) (order : Bool) :
    OutLeaves P s₀ (execCanEnable n mode order s) := by
  unfold execCanEnable
  repeat' first
    | with_reducible assumption | with_reducible exact cov_trans hP (by decide) | with_reducible apply OutLeaves.next
    | with_reducible apply State.answer_leaves (part_trans hP (by decide))
    | with_reducible apply State.canEnableIn_leaves (part_trans hP (by decide))
    | with_reducible apply State.canLoad_leaves (part_trans hP (by decide))
    | with_reducible apply State.setObjN_leaves (part_trans hP (by decide)) | with_reducible apply State.wr_leaves
    | with_reducible apply OutLeaves.ite | with_reducible apply Leaves.of_fst ‹_› | split | with_reducible intro _
    | dsimp only

theorem execCanDisable_leaves {P : Nat} {s₀ s : State} (hP : P &&& 2147746056 = 2147746056) (h : Leaves P s₀ s) (n : Fin 16) (order : Bool) :
    OutLeaves P s₀ (execCanDisable n order s) := by
  unfold execCanDisable
  repeat' first
    | with_reducible assumption | with_reducible exact cov_trans hP (by decide) | with_reducible apply OutLeaves.next
    | with_reducible apply State.answer_leaves (part_trans hP (by decide))
    | with_reducible apply State.canWithdraw_leaves (part_trans hP (by decide))
    | with_reducible apply State.setObjN_leaves (part_trans hP (by decide)) | with_reducible apply State.wr_leaves
    | with_reducible apply OutLeaves.ite | with_reducible apply Leaves.ite | split | with_reducible intro _
    | dsimp only

theorem execCanRecover_leaves {P : Nat} {s₀ s : State} (hP : P &&& 2147483904 = 2147483904) (h : Leaves P s₀ s) (n : Fin 16) (order : Bool) :
    OutLeaves P s₀ (execCanRecover n order s) := by
  unfold execCanRecover
  repeat' first
    | with_reducible assumption | with_reducible exact cov_trans hP (by decide) | with_reducible apply OutLeaves.next
    | with_reducible apply State.answer_leaves (part_trans hP (by decide)) | with_reducible apply State.raise_leaves
    | with_reducible apply OutLeaves.ite | with_reducible apply Leaves.ite | split | with_reducible intro _

theorem execRecoveryComplete_leaves {P : Nat} {s₀ s : State} (hP : P &&& 105226967552 = 105226967552) (h : Leaves P s₀ s) (n : Fin 16) :
    OutLeaves P s₀ (execRecoveryComplete n s) := by
  unfold execRecoveryComplete
  repeat' first
    | with_reducible assumption | with_reducible exact cov_trans hP (by decide) | with_reducible apply OutLeaves.next
    | with_reducible apply State.canSelect_leaves (part_trans hP (by decide))
    | with_reducible apply State.event_leaves (part_trans hP (by decide)) | with_reducible apply State.raise_leaves
    | with_reducible apply State.wr_leaves | with_reducible apply OutLeaves.ite | split | with_reducible intro _
    | dsimp only

theorem State.canTestStart_leaves {P : Nat} {s₀ s : State} (hP : P &&& 2147747840 = 2147747840) (h : Leaves P s₀ s) (n : Nat) :
    Leaves P s₀ (State.canTestStart s n) := by
  unfold State.canTestStart
  repeat' first
    | with_reducible assumption | with_reducible exact cov_trans hP (by decide)
    | with_reducible apply State.canWithdraw_leaves (part_trans hP (by decide))
    | with_reducible apply State.unitTesting_leaves (part_trans hP (by decide)) | with_reducible apply State.wr_leaves

theorem execCanServiceTest_leaves {P : Nat} {s₀ s : State} (hP : P &&& 2147748096 = 2147748096) (h : Leaves P s₀ s) (n : Fin 16) (order : Bool) :
    OutLeaves P s₀ (execCanServiceTest n order s) := by
  unfold execCanServiceTest
  repeat' first
    | with_reducible assumption | with_reducible apply OutLeaves.next
    | with_reducible apply State.answer_leaves (part_trans hP (by decide))
    | with_reducible apply State.canTestStart_leaves (part_trans hP (by decide)) | with_reducible apply OutLeaves.ite
    | with_reducible apply Leaves.ite | split | with_reducible intro _

theorem State.canRetire_leaves {P : Nat} {s₀ s : State} (hP : P &&& 2147745792 = 2147745792) (h : Leaves P s₀ s) (n : Nat) :
    Leaves P s₀ (State.canRetire s n) := by
  unfold State.canRetire
  repeat' first
    | with_reducible assumption | with_reducible exact cov_trans hP (by decide)
    | with_reducible apply State.canWithdraw_leaves (part_trans hP (by decide))
    | with_reducible apply State.raise_leaves | with_reducible apply State.wr_leaves

theorem execCanSelfTestDone_leaves {P : Nat} {s₀ s : State} (hP : P &&& 105226975752 = 105226975752) (h : Leaves P s₀ s) (n : Fin 16) (pass : Bool) :
    OutLeaves P s₀ (execCanSelfTestDone n pass s) := by
  unfold execCanSelfTestDone
  repeat' first
    | with_reducible assumption | with_reducible exact cov_trans hP (by decide) | with_reducible apply OutLeaves.next
    | with_reducible apply State.canRetire_leaves (part_trans hP (by decide))
    | with_reducible apply State.raise_leaves
    | with_reducible apply State.unitTested_leaves (part_trans hP (by decide)) | with_reducible apply State.wr_leaves
    | with_reducible apply OutLeaves.ite | split | with_reducible intro _ | dsimp only

theorem State.canReturn_leaves {P : Nat} {s₀ s : State} (hP : P &&& 70867225088 = 70867225088) (h : Leaves P s₀ s) (n : Nat) :
    Leaves P s₀ (State.canReturn s n) := by
  unfold State.canReturn
  repeat' first
    | with_reducible assumption | with_reducible exact cov_trans hP (by decide)
    | with_reducible apply State.canEnableIn_leaves (part_trans hP (by decide))
    | with_reducible apply State.unitReturned_leaves (part_trans hP (by decide))
    | with_reducible apply State.wr_leaves | with_reducible apply Leaves.ite | with_reducible apply Leaves.of_fst ‹_›
    | split | with_reducible intro _ | dsimp only

theorem execCanServiceReturn_leaves {P : Nat} {s₀ s : State} (hP : P &&& 70867225344 = 70867225344) (h : Leaves P s₀ s) (n : Fin 16) (order : Bool) :
    OutLeaves P s₀ (execCanServiceReturn n order s) := by
  unfold execCanServiceReturn
  repeat' first
    | with_reducible assumption | with_reducible apply OutLeaves.next
    | with_reducible apply State.answer_leaves (part_trans hP (by decide))
    | with_reducible apply State.canReturn_leaves (part_trans hP (by decide)) | with_reducible apply OutLeaves.ite
    | with_reducible apply Leaves.ite | split | with_reducible intro _

end Sys2Proof.Machine
end

