-- ==== Sys2Proof/Laws/LeavesGauge.lean ====
section
/-! SUPPORT. What each operation of Machine/Gauge.lean leaves. -/

set_option linter.unusedTactic false
set_option linter.unreachableTactic false

namespace Sys2Proof.Machine

theorem State.setFabric_leaves {P : Nat} {s₀ s : State} (hP : P &&& 2097152 = 2097152) (h : Leaves P s₀ s) (f : FabricSt → FabricSt) :
    Leaves P s₀ (State.setFabric s f) := by
  unfold State.setFabric
  repeat' first
    | with_reducible assumption | dsimp only | with_reducible apply Leaves.set_fabric (part_trans hP (by decide))

theorem State.setGauge_leaves {P : Nat} {s₀ s : State} (hP : P &&& 2097152 = 2097152) (h : Leaves P s₀ s) (f : GaugeSt → GaugeSt) :
    Leaves P s₀ (State.setGauge s f) := by
  unfold State.setGauge
  repeat' first
    | with_reducible assumption | dsimp only | with_reducible apply Leaves.set_fabric (part_trans hP (by decide))

theorem State.setGtile_leaves {P : Nat} {s₀ s : State} (hP : P &&& 2097152 = 2097152) (h : Leaves P s₀ s) (n : Nat) (f : GaugeTile → GaugeTile) :
    Leaves P s₀ (State.setGtile s n f) := by
  unfold State.setGtile
  repeat' first
    | with_reducible assumption | dsimp only | with_reducible apply Leaves.set_fabric (part_trans hP (by decide))

theorem State.setTile_leaves {P : Nat} {s₀ s : State} (hP : P &&& 2097152 = 2097152) (h : Leaves P s₀ s) (n : Nat) (f : TileSt → TileSt) :
    Leaves P s₀ (State.setTile s n f) := by
  unfold State.setTile
  repeat' first
    | with_reducible assumption | dsimp only | with_reducible apply Leaves.set_fabric (part_trans hP (by decide))

theorem State.replan_leaves {P : Nat} {s₀ s : State} (hP : P &&& 33554432 = 33554432) (h : Leaves P s₀ s) :
    Leaves P s₀ (State.replan s) := by
  unfold State.replan
  repeat' first
    | with_reducible assumption | with_reducible exact cov_trans hP (by decide)
    | with_reducible apply State.raise_leaves

theorem State.forecastTile_leaves {P : Nat} {s₀ s : State} (hP : P &&& 67108864 = 67108864) (h : Leaves P s₀ s) (n : Nat) :
    Leaves P s₀ (State.forecastTile s n) := by
  unfold State.forecastTile
  repeat' first
    | with_reducible assumption | with_reducible exact cov_trans hP (by decide) | with_reducible apply State.wr_leaves
    | with_reducible apply Leaves.ite | with_reducible apply Leaves.getD | split | with_reducible intro _ | dsimp only

theorem State.forecast_leaves {P : Nat} {s₀ s : State} (hP : P &&& 100663296 = 100663296) (h : Leaves P s₀ s) :
    Leaves P s₀ (State.forecast s) := by
  unfold State.forecast
  repeat' first
    | with_reducible assumption | with_reducible apply State.forecastTile_leaves (part_trans hP (by decide))
    | with_reducible apply State.replan_leaves (part_trans hP (by decide)) | with_reducible apply Leaves.ite
    | with_reducible apply Leaves.foldl | split | with_reducible intro _ | dsimp only

theorem State.kilnFlag_leaves {P : Nat} {s₀ s : State} (hP : P &&& 103112784392 = 103112784392) (h : Leaves P s₀ s) (f : Field) (hf_f : covers P f = true) (limit : Rat) (name : String) :
    Leaves P s₀ (State.kilnFlag s f limit name) := by
  unfold State.kilnFlag
  repeat' first
    | with_reducible assumption | with_reducible exact cov_trans hP (by decide)
    | with_reducible apply State.alarm_leaves (part_trans hP (by decide)) | with_reducible apply State.raise_leaves
    | with_reducible apply State.wr_leaves | with_reducible apply Leaves.ite | split | with_reducible intro _
    | dsimp only

theorem State.kiln_leaves {P : Nat} {s₀ s : State} (hP : P &&& 103179893256 = 103179893256) (h : Leaves P s₀ s) :
    Leaves P s₀ (State.kiln s) := by
  unfold State.kiln
  repeat' first
    | with_reducible assumption | with_reducible exact cov_trans hP (by decide)
    | with_reducible apply State.kilnFlag_leaves (part_trans hP (by decide)) | with_reducible apply State.wr_leaves
    | with_reducible apply Leaves.ite | with_reducible apply Leaves.foldl | with_reducible apply Leaves.getD | split
    | with_reducible intro _ | dsimp only

theorem execKilnRun_leaves {P : Nat} {s₀ s : State} (hP : P &&& 103179893256 = 103179893256) (h : Leaves P s₀ s) :
    OutLeaves P s₀ (execKilnRun s) := by
  unfold execKilnRun
  repeat' first
    | with_reducible assumption | with_reducible apply OutLeaves.next
    | with_reducible apply State.kiln_leaves (part_trans hP (by decide)) | with_reducible intro _

theorem execAgeingForecast_leaves {P : Nat} {s₀ s : State} (hP : P &&& 100663296 = 100663296) (h : Leaves P s₀ s) :
    OutLeaves P s₀ (execAgeingForecast s) := by
  unfold execAgeingForecast
  repeat' first
    | with_reducible assumption | with_reducible apply OutLeaves.next
    | with_reducible apply State.forecast_leaves (part_trans hP (by decide)) | with_reducible intro _

theorem State.showBreach_leaves {P : Nat} {s₀ s : State} (hP : P &&& 100663296 = 100663296) (h : Leaves P s₀ s) :
    Leaves P s₀ (State.showBreach s) := by
  unfold State.showBreach
  repeat' first
    | with_reducible assumption | with_reducible exact cov_trans hP (by decide)
    | with_reducible apply State.put_leaves | with_reducible intro _ | dsimp only

theorem State.setExcluded_leaves {P : Nat} {s₀ s : State} (hP : P &&& 69206016 = 69206016) (h : Leaves P s₀ s) (n m : Nat) :
    Leaves P s₀ (State.setExcluded s n m) := by
  unfold State.setExcluded
  repeat' first
    | with_reducible assumption | with_reducible exact cov_trans hP (by decide)
    | with_reducible apply State.setGtile_leaves (part_trans hP (by decide)) | with_reducible apply State.wr_leaves
    | with_reducible intro _ | dsimp only

theorem State.breachOver_leaves {P : Nat} {s₀ s : State} (hP : P &&& 102760448 = 102760448) (h : Leaves P s₀ s) (n : Nat) :
    Leaves P s₀ (State.breachOver s n) := by
  unfold State.breachOver
  repeat' first
    | with_reducible assumption | with_reducible exact cov_trans hP (by decide)
    | with_reducible apply State.replan_leaves (part_trans hP (by decide))
    | with_reducible apply State.setGtile_leaves (part_trans hP (by decide))
    | with_reducible apply State.showBreach_leaves (part_trans hP (by decide)) | with_reducible apply State.wr_leaves
    | with_reducible apply Leaves.ite | split | with_reducible intro _ | dsimp only

theorem State.gaugeOut_leaves {P : Nat} {s₀ s : State} (hP : P &&& 102760448 = 102760448) (h : Leaves P s₀ s) (n : Nat) :
    Leaves P s₀ (State.gaugeOut s n) := by
  unfold State.gaugeOut
  repeat' first
    | with_reducible assumption | with_reducible exact cov_trans hP (by decide)
    | with_reducible apply State.breachOver_leaves (part_trans hP (by decide))
    | with_reducible apply State.setGtile_leaves (part_trans hP (by decide)) | with_reducible apply State.wr_leaves
    | with_reducible intro _ | dsimp only

theorem State.gaugeIn_leaves {P : Nat} {s₀ s : State} (hP : P &&& 69206016 = 69206016) (h : Leaves P s₀ s) (n : Nat) :
    Leaves P s₀ (State.gaugeIn s n) := by
  unfold State.gaugeIn
  repeat' first
    | with_reducible assumption | with_reducible exact cov_trans hP (by decide)
    | with_reducible apply State.forecastTile_leaves (part_trans hP (by decide))
    | with_reducible apply State.setExcluded_leaves (part_trans hP (by decide)) | with_reducible apply State.wr_leaves

end Sys2Proof.Machine
end

