-- ==== Sys2Proof/Laws/LeavesGrist.lean ====
section
/-! SUPPORT. What each operation of Machine/Grist.lean leaves. -/

set_option linter.unusedTactic false
set_option linter.unreachableTactic false

namespace Sys2Proof.Machine

theorem State.setGrist_leaves {P : Nat} {s₀ s : State} (hP : P &&& 2097152 = 2097152) (h : Leaves P s₀ s) (f : GristSt → GristSt) :
    Leaves P s₀ (State.setGrist s f) := by
  unfold State.setGrist
  repeat' first
    | with_reducible assumption | dsimp only | with_reducible apply Leaves.set_fabric (part_trans hP (by decide))

theorem State.setJob_leaves {P : Nat} {s₀ s : State} (hP : P &&& 2097152 = 2097152) (h : Leaves P s₀ s) (c : Nat) (f : JobSt → JobSt) :
    Leaves P s₀ (State.setJob s c f) := by
  unfold State.setJob
  repeat' first
    | with_reducible assumption | with_reducible apply State.setGrist_leaves (part_trans hP (by decide))
    | with_reducible intro _ | dsimp only

theorem State.showTable_leaves {P : Nat} {s₀ s : State} (hP : P &&& 103112776192 = 103112776192) (h : Leaves P s₀ s) :
    Leaves P s₀ (State.showTable s) := by
  unfold State.showTable
  repeat' first
    | with_reducible assumption | with_reducible exact cov_trans hP (by decide)
    | with_reducible apply State.event_leaves (part_trans hP (by decide)) | with_reducible apply State.put_leaves
    | with_reducible apply State.raise_leaves | with_reducible apply State.wr_leaves | with_reducible apply Leaves.ite
    | with_reducible apply Leaves.foldl | with_reducible apply Leaves.getD | split | with_reducible intro _
    | dsimp only

theorem State.replaceTables_leaves {P : Nat} {s₀ s : State} (hP : P &&& 103114873344 = 103114873344) (h : Leaves P s₀ s) :
    Leaves P s₀ (State.replaceTables s) := by
  unfold State.replaceTables
  repeat' first
    | with_reducible assumption | with_reducible exact cov_trans hP (by decide)
    | with_reducible apply State.count_leaves (part_trans hP (by decide)) | with_reducible apply State.incWrap_leaves
    | with_reducible apply State.raise_leaves | with_reducible apply State.setGrist_leaves (part_trans hP (by decide))
    | with_reducible apply State.setGtile_leaves (part_trans hP (by decide))
    | with_reducible apply State.showTable_leaves (part_trans hP (by decide)) | with_reducible apply State.wr_leaves
    | with_reducible apply Leaves.ite | with_reducible apply Leaves.foldl | split | with_reducible intro _
    | dsimp only

theorem execReplan_leaves {P : Nat} {s₀ s : State} (hP : P &&& 33554432 = 33554432) (h : Leaves P s₀ s) :
    OutLeaves P s₀ (execReplan s) := by
  unfold execReplan
  repeat' first
    | with_reducible assumption | with_reducible apply OutLeaves.next
    | with_reducible apply State.replan_leaves (part_trans hP (by decide)) | with_reducible intro _

theorem execRequirementWrite_leaves {P : Nat} {s₀ s : State} (hP : P &&& 103179893256 = 103179893256) (h : Leaves P s₀ s) (_core : Fin 4) (r : Fin 6) (v : Word) :
    OutLeaves P s₀ (execRequirementWrite _core r v s) := by
  unfold execRequirementWrite
  repeat' first
    | with_reducible assumption | with_reducible exact cov_trans hP (by decide) | with_reducible apply OutLeaves.next
    | with_reducible apply State.kiln_leaves (part_trans hP (by decide))
    | with_reducible apply State.replan_leaves (part_trans hP (by decide)) | with_reducible apply State.wr_leaves
    | split | with_reducible intro _ | dsimp only

theorem State.showJobs_leaves {P : Nat} {s₀ s : State} (hP : P &&& 2199056809984 = 2199056809984) (h : Leaves P s₀ s) :
    Leaves P s₀ (State.showJobs s) := by
  unfold State.showJobs
  repeat' first
    | with_reducible assumption | with_reducible exact cov_trans hP (by decide) | with_reducible apply State.wr_leaves
    | with_reducible apply Leaves.foldl | with_reducible apply Leaves.foldl_snd | with_reducible intro _ | dsimp only

theorem State.admit_leaves {P : Nat} {s₀ s : State} (hP : P &&& 2233418645504 = 2233418645504) (h : Leaves P s₀ s) (core : Nat) (ps : List Placed) :
    Leaves P s₀ (State.admitJob s core ps).1 := by
  unfold State.admitJob
  repeat' first
    | with_reducible assumption | with_reducible exact cov_trans hP (by decide)
    | with_reducible apply State.count_leaves (part_trans hP (by decide)) | with_reducible apply State.put_leaves
    | with_reducible apply State.setGrist_leaves (part_trans hP (by decide))
    | with_reducible apply State.showJobs_leaves (part_trans hP (by decide)) | with_reducible apply Leaves.ite
    | with_reducible apply Leaves.foldl | with_reducible apply Leaves.foldl_snd | split | with_reducible intro _
    | dsimp only

theorem execGristAdmit_leaves {P : Nat} {s₀ s : State} (hP : P &&& 35651584 = 35651584) (h : Leaves P s₀ s) (core : Fin 4) (v : Word) :
    OutLeaves P s₀ (execGristAdmit core v s) := by
  unfold execGristAdmit
  repeat' first
    | with_reducible assumption | with_reducible exact cov_trans hP (by decide) | with_reducible apply OutLeaves.next
    | with_reducible apply State.put_leaves | with_reducible apply State.raise_leaves
    | with_reducible apply State.setGrist_leaves (part_trans hP (by decide)) | with_reducible apply OutLeaves.ite
    | split | with_reducible intro _ | dsimp only

theorem State.postVerdict_leaves {P : Nat} {s₀ s : State} (hP : P &&& 33554432 = 33554432) (h : Leaves P s₀ s) (core : Nat) (admitted : Bool) (reason ctx est : Nat) :
    Leaves P s₀ (State.postVerdict s core admitted reason ctx est) := by
  unfold State.postVerdict
  repeat' first
    | with_reducible assumption | with_reducible exact cov_trans hP (by decide)
    | with_reducible apply State.incWrap_leaves | with_reducible apply State.put_leaves
    | with_reducible apply State.wr_leaves | dsimp only

end Sys2Proof.Machine
end

