-- ==== Sys2Proof/Laws/LeavesFabric.lean ====
section
/-! SUPPORT. What each operation of Machine/Fabric.lean leaves. -/

set_option linter.unusedTactic false
set_option linter.unreachableTactic false

namespace Sys2Proof.Machine

theorem State.showTile_leaves {P : Nat} {s₀ s : State} (hP : P &&& 2199023255552 = 2199023255552) (h : Leaves P s₀ s) (n : Nat) :
    Leaves P s₀ (State.showTile s n) := by
  unfold State.showTile
  repeat' first
    | with_reducible assumption | with_reducible exact cov_trans hP (by decide)
    | with_reducible apply State.put_leaves | with_reducible apply State.wr_leaves | with_reducible apply Leaves.getD
    | split | with_reducible intro _ | dsimp only

theorem State.setPart_leaves {P : Nat} {s₀ s : State} (hP : P &&& 2097152 = 2097152) (h : Leaves P s₀ s) (c i : Nat) (f : PartSt → PartSt) :
    Leaves P s₀ (State.setPart s c i f) := by
  unfold State.setPart
  repeat' first
    | with_reducible assumption | with_reducible apply State.setJob_leaves (part_trans hP (by decide))
    | with_reducible intro _ | dsimp only

theorem State.startFallback_leaves {P : Nat} {s₀ s : State} (hP : P &&& 2097152 = 2097152) (h : Leaves P s₀ s) (c cause part op : Nat) :
    Leaves P s₀ (State.startFallback s c cause part op) := by
  unfold State.startFallback
  repeat' first
    | with_reducible assumption | with_reducible apply State.setJob_leaves (part_trans hP (by decide))
    | with_reducible apply Leaves.ite | split | with_reducible intro _ | dsimp only

theorem State.endPart_leaves {P : Nat} {s₀ s : State} (hP : P &&& 2199025352704 = 2199025352704) (h : Leaves P s₀ s) (n c i op cause : Nat) :
    Leaves P s₀ (State.endPart s n c i op cause) := by
  unfold State.endPart
  repeat' first
    | with_reducible assumption | with_reducible exact cov_trans hP (by decide)
    | with_reducible apply State.raise_leaves
    | with_reducible apply State.startFallback_leaves (part_trans hP (by decide)) | with_reducible apply Leaves.ite
    | split | with_reducible intro _ | dsimp only

/-- What `Leaves` says of a part's start. -/
def StartedLeaves (P : Nat) (s : State) : Started → Prop
  | .waits => True
  | .ended t => Leaves P s t
  | .runs t => Leaves P s t
  | .behind t => Leaves P s t

theorem State.startOp_leaves {P : Nat} {s₀ s : State} (hP : P &&& 2199025352704 = 2199025352704) (h : Leaves P s₀ s) (n c i : Nat) :
    StartedLeaves P s₀ (s.startOp n c i) := by
  unfold State.startOp
  split
  · trivial
  · split
    · trivial
    · dsimp only
      split
      · trivial
      · split
        · exact State.endPart_leaves (part_trans hP (by decide)) h _ _ _ _ _
        · split
          · exact State.endPart_leaves (part_trans hP (by decide)) h _ _ _ _ _
          · split
            · exact State.setTile_leaves (part_trans hP (by decide))
                (State.setPart_leaves (part_trans hP (by decide)) h _ _ _) _ _
            · exact State.setTile_leaves (part_trans hP (by decide))
                (State.setPart_leaves (part_trans hP (by decide)) h _ _ _) _ _

theorem State.tryParts_leaves {P : Nat} {s₀ s : State} (hP : P &&& 2199025352704 = 2199025352704) (h : Leaves P s₀ s) (n : Nat)
    (xs : List (Nat × Nat)) : StartedLeaves P s₀ (s.tryParts n xs) := by
  induction xs with
  | nil => trivial
  | cons x xs ih =>
    unfold State.tryParts
    have k := State.startOp_leaves (part_trans hP (by decide)) h n x.1 x.2
    split
    · exact ih
    · exact k

theorem State.sequenceTile_leaves {P : Nat} {s₀ s : State} (hP : P &&& 2199025352704 = 2199025352704) (h : Leaves P s₀ s)
    (n f : Nat) : Leaves P s₀ (s.sequenceTile n f) := by
  induction f generalizing s with
  | zero => exact h
  | succ f ih =>
    unfold State.sequenceTile
    split
    · exact h
    · have k := State.tryParts_leaves (part_trans hP (by decide)) h n (s.readyParts n)
      split
      · exact h
      · rename_i e
        rw [e] at k
        exact ih k
      · rename_i e
        rw [e] at k
        exact ih k
      · rename_i e
        rw [e] at k
        exact k

theorem State.drained_leaves {P : Nat} {s₀ s : State} (hP : P &&& 2199025354752 = 2199025354752) (h : Leaves P s₀ s) (n : Nat) :
    Leaves P s₀ (State.drained s n) := by
  unfold State.drained
  repeat' first
    | with_reducible assumption | with_reducible exact cov_trans hP (by decide)
    | with_reducible apply State.setTile_leaves (part_trans hP (by decide))
    | with_reducible apply State.unitTesting_leaves (part_trans hP (by decide)) | with_reducible apply State.wr_leaves
    | with_reducible apply Leaves.ite | split | with_reducible intro _ | dsimp only

theorem State.runTile_leaves {P : Nat} {s₀ s : State} (hP : P &&& 2199025354752 = 2199025354752) (h : Leaves P s₀ s) (n : Nat) :
    Leaves P s₀ (State.runTile s n) := by
  unfold State.runTile
  repeat' first
    | with_reducible assumption | with_reducible apply State.drained_leaves (part_trans hP (by decide))
    | with_reducible apply State.sequenceTile_leaves (part_trans hP (by decide))
    | with_reducible apply State.showTile_leaves (part_trans hP (by decide))

theorem State.runTiles_leaves {P : Nat} {s₀ s : State} (hP : P &&& 2199025354752 = 2199025354752) (h : Leaves P s₀ s) :
    Leaves P s₀ (State.runTiles s) := by
  unfold State.runTiles
  repeat' first
    | with_reducible assumption | with_reducible apply State.runTile_leaves (part_trans hP (by decide))
    | with_reducible apply Leaves.foldl | with_reducible intro _ | dsimp only

theorem State.startJob_leaves {P : Nat} {s₀ s : State} (hP : P &&& 2235801438244 = 2235801438244) (h : Leaves P s₀ s) (c : Nat) :
    Leaves P s₀ (State.startJob s c) := by
  unfold State.startJob
  repeat' first
    | with_reducible assumption | with_reducible apply Run.release_leaves (part_trans hP (by decide))
    | with_reducible apply State.runTile_leaves (part_trans hP (by decide))
    | with_reducible apply State.setJob_leaves (part_trans hP (by decide)) | with_reducible apply Leaves.ite
    | with_reducible apply Leaves.foldl | split | with_reducible intro _ | dsimp only

theorem execLinkStart_leaves {P : Nat} {s₀ s : State} (hP : P &&& 2235801438244 = 2235801438244) (h : Leaves P s₀ s) (ctx : BitVec 8) :
    OutLeaves P s₀ (execLinkStart ctx s) := by
  unfold execLinkStart
  repeat' first
    | with_reducible assumption | with_reducible apply OutLeaves.next
    | with_reducible apply State.startJob_leaves (part_trans hP (by decide)) | with_reducible intro _

theorem execVerdictPost_leaves {P : Nat} {s₀ s : State} (hP : P &&& 2304554474020 = 2304554474020) (h : Leaves P s₀ s) (core : Fin 4) :
    OutLeaves P s₀ (execVerdictPost core s) := by
  unfold execVerdictPost
  repeat' first
    | with_reducible assumption | with_reducible exact cov_trans hP (by decide)
    | with_reducible apply OutLeaves.refused | with_reducible apply OutLeaves.next
    | with_reducible apply State.admit_leaves (part_trans hP (by decide))
    | with_reducible apply State.count_leaves (part_trans hP (by decide))
    | with_reducible apply State.event_leaves (part_trans hP (by decide)) | with_reducible apply State.incWrap_leaves
    | with_reducible apply State.latency_leaves (part_trans hP (by decide))
    | with_reducible apply State.postVerdict_leaves (part_trans hP (by decide))
    | with_reducible apply State.put_leaves | with_reducible apply State.raise_leaves
    | with_reducible apply State.setGrist_leaves (part_trans hP (by decide))
    | with_reducible apply State.startJob_leaves (part_trans hP (by decide)) | with_reducible apply OutLeaves.ite
    | with_reducible apply Leaves.ite | with_reducible apply Leaves.of_fst ‹_› | split | with_reducible intro _
    | dsimp only

theorem State.checkpoint_leaves {P : Nat} {s₀ s : State} (hP : P &&& 655253502508 = 655253502508) (h : Leaves P s₀ s) (c : Nat) (j : JobSt) (p : PartSt) (o : OpRec) :
    Leaves P s₀ (State.checkpoint s c j p o) := by
  unfold State.checkpoint
  repeat' first
    | with_reducible assumption | with_reducible apply Run.step_leaves (part_trans hP (by decide))
    | with_reducible apply State.poke_leaves (part_trans hP (by decide))
    | with_reducible apply State.setGrist_leaves (part_trans hP (by decide))
    | with_reducible apply State.setPart_leaves (part_trans hP (by decide)) | with_reducible apply Leaves.ite | split
    | with_reducible intro _ | dsimp only

theorem State.opEffect_leaves {P : Nat} {s₀ s : State} (hP : P &&& 655253502508 = 655253502508) (h : Leaves P s₀ s) (c i : Nat) (j : JobSt) (p : PartSt) (o : OpRec) :
    OptLeaves P s₀ (State.opEffect s c i j p o) := by
  unfold State.opEffect
  repeat' first
    | with_reducible assumption | with_reducible apply OptLeaves.none | with_reducible apply OptLeaves.some
    | with_reducible apply Run.step_leaves (part_trans hP (by decide))
    | with_reducible apply State.checkpoint_leaves (part_trans hP (by decide))
    | with_reducible apply State.poke_leaves (part_trans hP (by decide)) | with_reducible apply State.run_leaves
    | with_reducible apply State.setJob_leaves (part_trans hP (by decide))
    | with_reducible apply State.setPart_leaves (part_trans hP (by decide)) | with_reducible apply OptLeaves.ite
    | with_reducible apply Leaves.ite | with_reducible apply Leaves.foldl | with_reducible apply Leaves.foldl_fst
    | with_reducible apply Leaves.foldl_snd | with_reducible apply Leaves.of_some ‹_› | split | with_reducible intro _
    | dsimp only | with_reducible apply Leaves.set_fresh (part_trans hP (by decide))

theorem State.opDone_leaves {P : Nat} {s₀ s : State} (hP : P &&& 34361835520 = 34361835520) (h : Leaves P s₀ s) (n c i k : Nat) (o : OpRec) :
    Leaves P s₀ (State.opDone s n c i k o) := by
  unfold State.opDone
  repeat' first
    | with_reducible assumption | with_reducible apply State.count_leaves (part_trans hP (by decide))
    | with_reducible apply State.setJob_leaves (part_trans hP (by decide))
    | with_reducible apply State.setPart_leaves (part_trans hP (by decide)) | with_reducible apply Leaves.ite | split
    | with_reducible intro _ | dsimp only

theorem State.finishOp_leaves {P : Nat} {s₀ s : State} (hP : P &&& 2854276758060 = 2854276758060) (h : Leaves P s₀ s) (n : Nat) (r : OpRun) :
    Leaves P s₀ (State.finishOp s n r) := by
  unfold State.finishOp
  repeat' first
    | with_reducible assumption | with_reducible apply State.endPart_leaves (part_trans hP (by decide))
    | with_reducible apply State.opDone_leaves (part_trans hP (by decide))
    | with_reducible apply State.opEffect_leaves (part_trans hP (by decide)) | with_reducible apply Leaves.ite
    | with_reducible apply Leaves.of_some ‹_› | split | with_reducible intro _ | dsimp only

theorem execOperationComplete_leaves {P : Nat} {s₀ s : State} (hP : P &&& 2854276758060 = 2854276758060) (h : Leaves P s₀ s) (tile : Fin 32) :
    OutLeaves P s₀ (execOperationComplete tile s) := by
  unfold execOperationComplete
  repeat' first
    | with_reducible assumption | with_reducible apply OutLeaves.next
    | with_reducible apply State.finishOp_leaves (part_trans hP (by decide))
    | with_reducible apply State.runTile_leaves (part_trans hP (by decide))
    | with_reducible apply State.setTile_leaves (part_trans hP (by decide)) | with_reducible apply OutLeaves.ite
    | split | with_reducible intro _ | dsimp only

theorem execDmaComplete_leaves {P : Nat} {s₀ s : State} (hP : P &&& 2854276758060 = 2854276758060) (h : Leaves P s₀ s) (tile : Fin 32) :
    OutLeaves P s₀ (execDmaComplete tile s) := by
  unfold execDmaComplete
  repeat' first
    | with_reducible assumption | with_reducible apply OutLeaves.next
    | with_reducible apply State.finishOp_leaves (part_trans hP (by decide))
    | with_reducible apply State.runTile_leaves (part_trans hP (by decide))
    | with_reducible apply State.setTile_leaves (part_trans hP (by decide)) | split | with_reducible intro _
    | dsimp only

theorem State.relocate_leaves {P : Nat} {s₀ s : State} (hP : P &&& 2097152 = 2097152) (h : Leaves P s₀ s) (c i : Nat) :
    Leaves P s₀ (State.relocate s c i) := by
  unfold State.relocate
  repeat' first
    | with_reducible assumption | with_reducible apply State.setJob_leaves (part_trans hP (by decide))
    | with_reducible apply State.setPart_leaves (part_trans hP (by decide)) | with_reducible apply Leaves.ite | split
    | with_reducible intro _ | dsimp only

theorem State.retireTiles_leaves {P : Nat} {s₀ s : State} (hP : P &&& 2302205245960 = 2302205245960) (h : Leaves P s₀ s) (ns : List Nat) (cause : FaultCause) (node osn : Nat) :
    Leaves P s₀ (State.retireTiles s ns cause node osn) := by
  unfold State.retireTiles
  repeat' first
    | with_reducible assumption | with_reducible apply State.gaugeOut_leaves (part_trans hP (by decide))
    | with_reducible apply State.kiln_leaves (part_trans hP (by decide))
    | with_reducible apply State.relocate_leaves (part_trans hP (by decide))
    | with_reducible apply State.replan_leaves (part_trans hP (by decide))
    | with_reducible apply State.retireUnit_leaves (part_trans hP (by decide))
    | with_reducible apply State.runTiles_leaves (part_trans hP (by decide))
    | with_reducible apply State.setTile_leaves (part_trans hP (by decide))
    | with_reducible apply State.showJobs_leaves (part_trans hP (by decide)) | with_reducible apply Leaves.ite
    | with_reducible apply Leaves.foldl | with_reducible apply Leaves.foldl_fst
    | with_reducible apply Leaves.foldl_snd | split | with_reducible intro _ | dsimp only

theorem State.retireTile_leaves {P : Nat} {s₀ s : State} (hP : P &&& 2302205245960 = 2302205245960) (h : Leaves P s₀ s) (n : Nat) (cause : FaultCause) (node osn : Nat) :
    Leaves P s₀ (State.retireTile s n cause node osn) := by
  unfold State.retireTile
  repeat' first
    | with_reducible assumption | with_reducible apply State.retireTiles_leaves (part_trans hP (by decide))

theorem State.tileTransient_leaves {P : Nat} {s₀ s : State} (hP : P &&& 2302205245960 = 2302205245960) (h : Leaves P s₀ s) (n : Nat) (second : Bool) :
    Leaves P s₀ (State.tileTransient s n second) := by
  unfold State.tileTransient
  repeat' first
    | with_reducible assumption | with_reducible apply State.retireTile_leaves (part_trans hP (by decide))
    | with_reducible apply State.unitTransient_leaves (part_trans hP (by decide)) | with_reducible apply Leaves.ite
    | with_reducible apply Leaves.of_fst ‹_› | split | with_reducible intro _ | dsimp only

theorem State.failAttempt_leaves {P : Nat} {s₀ s : State} (hP : P &&& 2302205245960 = 2302205245960) (h : Leaves P s₀ s) (n : Nat) (r : OpRun) (uncorrectable : Bool) :
    Leaves P s₀ (State.failAttempt s n r uncorrectable) := by
  unfold State.failAttempt
  repeat' first
    | with_reducible assumption | with_reducible exact cov_trans hP (by decide)
    | with_reducible apply State.count_leaves (part_trans hP (by decide)) | with_reducible apply State.incSat_leaves
    | with_reducible apply State.retireTile_leaves (part_trans hP (by decide))
    | with_reducible apply State.runTile_leaves (part_trans hP (by decide))
    | with_reducible apply State.setJob_leaves (part_trans hP (by decide))
    | with_reducible apply State.setPart_leaves (part_trans hP (by decide))
    | with_reducible apply State.setTile_leaves (part_trans hP (by decide))
    | with_reducible apply State.tileTransient_leaves (part_trans hP (by decide)) | with_reducible apply Leaves.ite
    | split | with_reducible intro _ | dsimp only

theorem execTileError_leaves {P : Nat} {s₀ s : State} (hP : P &&& 2302205245960 = 2302205245960) (h : Leaves P s₀ s) (tile : Fin 32) (kind : TileError) (word : BitVec 19) :
    OutLeaves P s₀ (execTileError tile kind word s) := by
  unfold execTileError
  repeat' first
    | with_reducible assumption | with_reducible exact cov_trans hP (by decide) | with_reducible apply OutLeaves.next
    | with_reducible apply State.count_leaves (part_trans hP (by decide))
    | with_reducible apply State.failAttempt_leaves (part_trans hP (by decide))
    | with_reducible apply State.incSat_leaves | with_reducible apply State.raise_leaves
    | with_reducible apply State.tileTransient_leaves (part_trans hP (by decide))
    | with_reducible apply State.wr_leaves | with_reducible apply OutLeaves.ite | with_reducible apply Leaves.ite
    | split | with_reducible intro _ | dsimp only

theorem execCutoff_leaves {P : Nat} {s₀ s : State} (hP : P &&& 2199025352704 = 2199025352704) (h : Leaves P s₀ s) (ctx : BitVec 8) :
    OutLeaves P s₀ (execCutoff ctx s) := by
  unfold execCutoff
  repeat' first
    | with_reducible assumption | with_reducible exact cov_trans hP (by decide) | with_reducible apply OutLeaves.next
    | with_reducible apply State.incSat_leaves
    | with_reducible apply State.startFallback_leaves (part_trans hP (by decide)) | with_reducible apply OutLeaves.ite
    | with_reducible apply Leaves.getD | split | with_reducible intro _ | dsimp only

theorem State.setStage_leaves {P : Nat} {s₀ s : State} (hP : P &&& 6291456 = 6291456) (h : Leaves P s₀ s) (k : Nat) (f : StageSt → StageSt) :
    Leaves P s₀ (State.setStage s k f) := by
  unfold State.setStage
  repeat' first
    | with_reducible assumption | dsimp only | with_reducible apply Leaves.set_fabric (part_trans hP (by decide))
    | with_reducible apply Leaves.set_stages (part_trans hP (by decide))

theorem State.publish_leaves {P : Nat} {s₀ s : State} (hP : P &&& 6291492 = 6291492) (h : Leaves P s₀ s) (k dst flags len : Nat) :
    Leaves P s₀ (State.publish s k dst flags len) := by
  unfold State.publish
  repeat' first
    | with_reducible assumption | with_reducible apply State.poke_leaves (part_trans hP (by decide))
    | with_reducible apply State.setStage_leaves (part_trans hP (by decide)) | with_reducible intro _ | dsimp only

theorem State.noteDelivery_leaves {P : Nat} {s₀ s : State} (hP : P &&& 103079229960 = 103079229960) (h : Leaves P s₀ s) (j : JobSt) (status : Nat) :
    Leaves P s₀ (State.noteDelivery s j status) := by
  unfold State.noteDelivery
  repeat' first
    | with_reducible assumption | with_reducible apply State.alarm_leaves (part_trans hP (by decide))
    | with_reducible apply State.count_leaves (part_trans hP (by decide))
    | with_reducible apply State.latency_leaves (part_trans hP (by decide)) | with_reducible apply Leaves.ite | split
    | with_reducible intro _ | dsimp only

theorem State.stageDelivery_leaves {P : Nat} {s₀ s : State} (hP : P &&& 6291492 = 6291492) (h : Leaves P s₀ s) (j : JobSt) (status flags bytes : Nat) :
    Leaves P s₀ (State.stageDelivery s j status flags bytes) := by
  unfold State.stageDelivery
  repeat' first
    | with_reducible assumption | with_reducible apply State.publish_leaves (part_trans hP (by decide))
    | with_reducible apply State.setStage_leaves (part_trans hP (by decide)) | with_reducible apply Leaves.ite | split
    | with_reducible intro _ | dsimp only

theorem State.afterDelivery_leaves {P : Nat} {s₀ s : State} (hP : P &&& 2097152 = 2097152) (h : Leaves P s₀ s) (c : Nat) (j : JobSt) (status : Nat) :
    Leaves P s₀ (State.afterDelivery s c j status) := by
  unfold State.afterDelivery
  repeat' first
    | with_reducible assumption | with_reducible exact cov_trans hP (by decide)
    | with_reducible apply State.put_leaves | with_reducible apply State.setGrist_leaves (part_trans hP (by decide))
    | with_reducible apply State.setJob_leaves (part_trans hP (by decide))
    | with_reducible apply State.startFallback_leaves (part_trans hP (by decide)) | with_reducible apply Leaves.ite
    | with_reducible apply Leaves.foldl | split | with_reducible intro _ | dsimp only

theorem State.deliver_leaves {P : Nat} {s₀ s : State} (hP : P &&& 2302142331436 = 2302142331436) (h : Leaves P s₀ s) (c : Nat) (j : JobSt) (lost : Bool) :
    Leaves P s₀ (State.deliver s c j lost) := by
  unfold State.deliver
  repeat' first
    | with_reducible assumption | with_reducible apply State.afterDelivery_leaves (part_trans hP (by decide))
    | with_reducible apply State.noteDelivery_leaves (part_trans hP (by decide))
    | with_reducible apply State.poke_leaves (part_trans hP (by decide))
    | with_reducible apply State.runTiles_leaves (part_trans hP (by decide))
    | with_reducible apply State.showJobs_leaves (part_trans hP (by decide))
    | with_reducible apply State.stageDelivery_leaves (part_trans hP (by decide)) | with_reducible apply Leaves.ite
    | split | with_reducible intro _ | dsimp only

theorem State.ctrlIgnored_leaves {P : Nat} {s₀ s : State} (hP : P &&& 2199023255552 = 2199023255552) (h : Leaves P s₀ s) (n : Nat) :
    Leaves P s₀ (State.ctrlIgnored s n) := by
  unfold State.ctrlIgnored
  repeat' first
    | with_reducible assumption | with_reducible exact cov_trans hP (by decide)
    | with_reducible apply State.raise_leaves

theorem State.drainTile_leaves {P : Nat} {s₀ s : State} (hP : P &&& 2199058909184 = 2199058909184) (h : Leaves P s₀ s) (n : Nat) (bist : Bool) :
    Leaves P s₀ (State.drainTile s n bist) := by
  unfold State.drainTile
  repeat' first
    | with_reducible assumption | with_reducible apply State.replan_leaves (part_trans hP (by decide))
    | with_reducible apply State.runTile_leaves (part_trans hP (by decide))
    | with_reducible apply State.setTile_leaves (part_trans hP (by decide))
    | with_reducible apply State.setUnit_leaves (part_trans hP (by decide)) | with_reducible intro _ | dsimp only

theorem execTileDrain_leaves {P : Nat} {s₀ s : State} (hP : P &&& 2199058909184 = 2199058909184) (h : Leaves P s₀ s) (tile : Fin 32) :
    OutLeaves P s₀ (execTileDrain tile s) := by
  unfold execTileDrain
  repeat' first
    | with_reducible assumption | with_reducible apply OutLeaves.next
    | with_reducible apply State.ctrlIgnored_leaves (part_trans hP (by decide))
    | with_reducible apply State.drainTile_leaves (part_trans hP (by decide)) | with_reducible apply OutLeaves.ite
    | with_reducible apply Leaves.ite | split | with_reducible intro _

theorem State.tileBist_leaves {P : Nat} {s₀ s : State} (hP : P &&& 2199025354752 = 2199025354752) (h : Leaves P s₀ s) (n : Nat) :
    Leaves P s₀ (State.tileBist s n) := by
  unfold State.tileBist
  repeat' first
    | with_reducible assumption | with_reducible exact cov_trans hP (by decide)
    | with_reducible apply State.setTile_leaves (part_trans hP (by decide))
    | with_reducible apply State.showTile_leaves (part_trans hP (by decide))
    | with_reducible apply State.unitTesting_leaves (part_trans hP (by decide)) | with_reducible apply State.wr_leaves
    | with_reducible intro _ | dsimp only

theorem execTileBistStart_leaves {P : Nat} {s₀ s : State} (hP : P &&& 2199025354752 = 2199025354752) (h : Leaves P s₀ s) (tile : Fin 32) :
    OutLeaves P s₀ (execTileBistStart tile s) := by
  unfold execTileBistStart
  repeat' first
    | with_reducible assumption | with_reducible apply OutLeaves.next
    | with_reducible apply State.ctrlIgnored_leaves (part_trans hP (by decide))
    | with_reducible apply State.tileBist_leaves (part_trans hP (by decide)) | with_reducible apply OutLeaves.ite
    | with_reducible apply Leaves.ite | split | with_reducible intro _

theorem execTileBistDone_leaves {P : Nat} {s₀ s : State} (hP : P &&& 2854377421356 = 2854377421356) (h : Leaves P s₀ s) (tile : Fin 32) (pass : Bool) (step : BitVec 2) (elapsed : BitVec 16) :
    OutLeaves P s₀ (execTileBistDone tile pass step elapsed s) := by
  unfold execTileBistDone
  repeat' first
    | with_reducible assumption | with_reducible exact cov_trans hP (by decide) | with_reducible apply OutLeaves.next
    | with_reducible apply Run.step_leaves (part_trans hP (by decide))
    | with_reducible apply State.gaugeOut_leaves (part_trans hP (by decide))
    | with_reducible apply State.kiln_leaves (part_trans hP (by decide)) | with_reducible apply State.put_leaves
    | with_reducible apply State.raise_leaves | with_reducible apply State.replan_leaves (part_trans hP (by decide))
    | with_reducible apply State.setTile_leaves (part_trans hP (by decide))
    | with_reducible apply State.showTile_leaves (part_trans hP (by decide))
    | with_reducible apply State.unitTested_leaves (part_trans hP (by decide)) | with_reducible apply State.wr_leaves
    | with_reducible apply OutLeaves.ite | with_reducible apply Leaves.ite | split | with_reducible intro _
    | dsimp only

theorem State.onlineTile_leaves {P : Nat} {s₀ s : State} (hP : P &&& 2302205245960 = 2302205245960) (h : Leaves P s₀ s) (n : Nat) (node osn : Nat) :
    Leaves P s₀ (State.onlineTile s n node osn) := by
  unfold State.onlineTile
  repeat' first
    | with_reducible assumption | with_reducible apply State.gaugeIn_leaves (part_trans hP (by decide))
    | with_reducible apply State.kiln_leaves (part_trans hP (by decide))
    | with_reducible apply State.replan_leaves (part_trans hP (by decide))
    | with_reducible apply State.setTile_leaves (part_trans hP (by decide))
    | with_reducible apply State.showTile_leaves (part_trans hP (by decide))
    | with_reducible apply State.unitReturned_leaves (part_trans hP (by decide)) | with_reducible apply Leaves.ite
    | split | with_reducible intro _ | dsimp only

theorem execTileOnline_leaves {P : Nat} {s₀ s : State} (hP : P &&& 2302205245960 = 2302205245960) (h : Leaves P s₀ s) (tile : Fin 32) :
    OutLeaves P s₀ (execTileOnline tile s) := by
  unfold execTileOnline
  repeat' first
    | with_reducible assumption | with_reducible apply OutLeaves.next
    | with_reducible apply State.ctrlIgnored_leaves (part_trans hP (by decide))
    | with_reducible apply State.onlineTile_leaves (part_trans hP (by decide)) | with_reducible apply OutLeaves.ite
    | with_reducible apply Leaves.ite | split | with_reducible intro _

end Sys2Proof.Machine
end

