-- ==== Sys2Proof/Laws/LeavesStageOps.lean ====
section
/-! SUPPORT. What each operation of Machine/StageOps.lean leaves. -/

set_option linter.unusedTactic false
set_option linter.unreachableTactic false

namespace Sys2Proof.Machine

theorem State.setStages_leaves {P : Nat} {s₀ s : State} (hP : P &&& 4194304 = 4194304) (h : Leaves P s₀ s) (f : StageFw → StageFw) :
    Leaves P s₀ (State.setStages s f) := by
  unfold State.setStages
  repeat' first
    | with_reducible assumption | dsimp only | with_reducible apply Leaves.set_stages (part_trans hP (by decide))

theorem State.setEst_leaves {P : Nat} {s₀ s : State} (hP : P &&& 4194304 = 4194304) (h : Leaves P s₀ s) (f : EstSt → EstSt) :
    Leaves P s₀ (State.setEst s f) := by
  unfold State.setEst
  repeat' first
    | with_reducible assumption | with_reducible apply State.setStages_leaves (part_trans hP (by decide))
    | with_reducible intro _ | dsimp only

theorem State.setVis_leaves {P : Nat} {s₀ s : State} (hP : P &&& 4194304 = 4194304) (h : Leaves P s₀ s) (f : VisSt → VisSt) :
    Leaves P s₀ (State.setVis s f) := by
  unfold State.setVis
  repeat' first
    | with_reducible assumption | with_reducible apply State.setStages_leaves (part_trans hP (by decide))
    | with_reducible intro _ | dsimp only

theorem State.setPlan_leaves {P : Nat} {s₀ s : State} (hP : P &&& 4194304 = 4194304) (h : Leaves P s₀ s) (f : PlanSt → PlanSt) :
    Leaves P s₀ (State.setPlan s f) := by
  unfold State.setPlan
  repeat' first
    | with_reducible assumption | with_reducible apply State.setStages_leaves (part_trans hP (by decide))
    | with_reducible intro _ | dsimp only

theorem State.setCa_leaves {P : Nat} {s₀ s : State} (hP : P &&& 4194304 = 4194304) (h : Leaves P s₀ s) (f : CaSt → CaSt) :
    Leaves P s₀ (State.setCa s f) := by
  unfold State.setCa
  repeat' first
    | with_reducible assumption | with_reducible apply State.setStages_leaves (part_trans hP (by decide))
    | with_reducible intro _ | dsimp only

theorem State.takeSettings_leaves {P : Nat} {s₀ s : State} (hP : P &&& 4194304 = 4194304) (h : Leaves P s₀ s) :
    Leaves P s₀ (State.takeSettings s) := by
  unfold State.takeSettings
  repeat' first
    | with_reducible assumption | with_reducible apply State.setStages_leaves (part_trans hP (by decide))
    | with_reducible intro _ | dsimp only

theorem State.releaseStage_leaves {P : Nat} {s₀ s : State} (hP : P &&& 103085513216 = 103085513216) (h : Leaves P s₀ s) (b : HwBlock) (k tref limit : Nat) (inputs : List Nat) :
    Leaves P s₀ (State.releaseStage s b k tref limit inputs) := by
  unfold State.releaseStage
  repeat' first
    | with_reducible assumption | with_reducible apply State.event_leaves (part_trans hP (by decide))
    | with_reducible apply State.setStage_leaves (part_trans hP (by decide)) | with_reducible apply Leaves.ite | split
    | with_reducible intro _ | dsimp only

theorem State.addFlags_leaves {P : Nat} {s₀ s : State} (hP : P &&& 6291456 = 6291456) (h : Leaves P s₀ s) (k flags : Nat) :
    Leaves P s₀ (State.addFlags s k flags) := by
  unfold State.addFlags
  repeat' first
    | with_reducible assumption | with_reducible apply State.setStage_leaves (part_trans hP (by decide))
    | with_reducible intro _ | dsimp only

end Sys2Proof.Machine
end

