-- ==== Sys2Proof/Laws/LeavesEstimation.lean ====
section
/-! SUPPORT. What each operation of Machine/Estimation.lean leaves. -/

set_option linter.unusedTactic false
set_option linter.unreachableTactic false

namespace Sys2Proof.Machine

theorem State.setRef_leaves {P : Nat} {s₀ s : State} (hP : P &&& 4194304 = 4194304) (h : Leaves P s₀ s) (r : Nat) (f : RefSt → RefSt) :
    Leaves P s₀ (State.setRef s r f) := by
  unfold State.setRef
  repeat' first
    | with_reducible assumption | with_reducible apply State.setEst_leaves (part_trans hP (by decide))
    | with_reducible intro _ | dsimp only

theorem State.refEvent_leaves {P : Nat} {s₀ s : State} (hP : P &&& 103079221760 = 103079221760) (h : Leaves P s₀ s) (name : String) :
    Leaves P s₀ (State.refEvent s name) := by
  unfold State.refEvent
  repeat' first
    | with_reducible assumption | with_reducible apply State.event_leaves (part_trans hP (by decide))

theorem State.suspect_leaves {P : Nat} {s₀ s : State} (hP : P &&& 103083416064 = 103083416064) (h : Leaves P s₀ s) (r : Nat) :
    Leaves P s₀ (State.suspect s r) := by
  unfold State.suspect
  repeat' first
    | with_reducible assumption | with_reducible apply State.refEvent_leaves (part_trans hP (by decide))
    | with_reducible apply State.setRef_leaves (part_trans hP (by decide)) | with_reducible intro _ | dsimp only

theorem State.discardRec_leaves {P : Nat} {s₀ s : State} (hP : P &&& 8 = 8) (h : Leaves P s₀ s) (r : Nat) :
    Leaves P s₀ (State.discardRec s r) := by
  unfold State.discardRec
  repeat' first
    | with_reducible assumption | with_reducible apply State.setObjN_leaves (part_trans hP (by decide)) | dsimp only

theorem State.takeRec_leaves {P : Nat} {s₀ s : State} (hP : P &&& 103083416072 = 103083416072) (h : Leaves P s₀ s) (r : Nat) (m : MeasRec) (invalid : Bool) :
    Leaves P s₀ (State.takeRec s r m invalid) := by
  unfold State.takeRec
  repeat' first
    | with_reducible assumption | with_reducible apply State.discardRec_leaves (part_trans hP (by decide))
    | with_reducible apply State.setRef_leaves (part_trans hP (by decide))
    | with_reducible apply State.suspect_leaves (part_trans hP (by decide)) | with_reducible apply Leaves.ite | split
    | with_reducible intro _ | dsimp only

theorem execMeasurementRecord_leaves {P : Nat} {s₀ s : State} (hP : P &&& 103083416072 = 103083416072) (h : Leaves P s₀ s) (r : List Byte) :
    OutLeaves P s₀ (execMeasurementRecord r s) := by
  unfold execMeasurementRecord
  repeat' first
    | with_reducible assumption | with_reducible apply OutLeaves.next
    | with_reducible apply State.discardRec_leaves (part_trans hP (by decide))
    | with_reducible apply State.takeRec_leaves (part_trans hP (by decide)) | with_reducible apply OutLeaves.ite
    | with_reducible apply Leaves.ite | split | with_reducible intro _

theorem State.timeouts_leaves {P : Nat} {s₀ s : State} (hP : P &&& 4194304 = 4194304) (h : Leaves P s₀ s) :
    Leaves P s₀ (State.timeouts s) := by
  unfold State.timeouts
  repeat' first
    | with_reducible assumption | with_reducible apply State.setRef_leaves (part_trans hP (by decide))
    | with_reducible apply Leaves.ite | with_reducible apply Leaves.foldl | split | with_reducible intro _
    | dsimp only

theorem State.takeWindow_leaves {P : Nat} {s₀ s : State} (hP : P &&& 4194312 = 4194312) (h : Leaves P s₀ s) (p : Nat) :
    Leaves P s₀ (State.takeWindow s p) := by
  unfold State.takeWindow
  repeat' first
    | with_reducible assumption | with_reducible apply State.discardRec_leaves (part_trans hP (by decide))
    | with_reducible apply State.setObjN_leaves (part_trans hP (by decide))
    | with_reducible apply State.setRef_leaves (part_trans hP (by decide)) | with_reducible apply Leaves.ite
    | with_reducible apply Leaves.foldl | split | with_reducible intro _ | dsimp only

theorem State.voteAttitude_leaves {P : Nat} {s₀ s : State} (hP : P &&& 103083416064 = 103083416064) (h : Leaves P s₀ s) (x : RefIn) :
    Leaves P s₀ (State.voteAttitude s x) := by
  unfold State.voteAttitude
  repeat' first
    | with_reducible assumption | with_reducible apply State.refEvent_leaves (part_trans hP (by decide))
    | with_reducible apply State.setEst_leaves (part_trans hP (by decide))
    | with_reducible apply State.setRef_leaves (part_trans hP (by decide)) | with_reducible apply Leaves.ite
    | with_reducible apply Leaves.foldl | with_reducible apply Leaves.foldl_fst
    | with_reducible apply Leaves.foldl_snd | with_reducible apply Leaves.getD
    | with_reducible apply Leaves.of_fst ‹_› | split | with_reducible intro _ | dsimp only

theorem State.voteWind_leaves {P : Nat} {s₀ s : State} (hP : P &&& 4194312 = 4194312) (h : Leaves P s₀ s) (x : RefIn) :
    Leaves P s₀ (State.voteWind s x) := by
  unfold State.voteWind
  repeat' first
    | with_reducible assumption | with_reducible apply State.setEst_leaves (part_trans hP (by decide))
    | with_reducible apply State.setObjN_leaves (part_trans hP (by decide)) | with_reducible apply Leaves.ite
    | with_reducible apply Leaves.getD | split | with_reducible intro _ | dsimp only

theorem State.voteGroup_leaves {P : Nat} {s₀ s : State} (hP : P &&& 103083416064 = 103083416064) (h : Leaves P s₀ s) (x : RefIn) (group : List (Nat × RefEval)) (rej acc : Rat) (cycles : Nat) :
    Leaves P s₀ (State.voteGroup s x group rej acc cycles) := by
  unfold State.voteGroup
  repeat' first
    | with_reducible assumption | with_reducible apply State.refEvent_leaves (part_trans hP (by decide))
    | with_reducible apply State.setRef_leaves (part_trans hP (by decide))
    | with_reducible apply State.suspect_leaves (part_trans hP (by decide)) | with_reducible apply Leaves.ite
    | with_reducible apply Leaves.foldl | with_reducible apply Leaves.foldl_fst
    | with_reducible apply Leaves.foldl_snd | split | with_reducible intro _ | dsimp only

theorem State.showRef_leaves {P : Nat} {s₀ s : State} (hP : P &&& 4194312 = 4194312) (h : Leaves P s₀ s) (x : RefIn) (r : Nat) (e : Option RefEval) :
    Leaves P s₀ (State.showRef s x r e) := by
  unfold State.showRef
  repeat' first
    | with_reducible assumption | with_reducible apply State.setObjN_leaves (part_trans hP (by decide))
    | with_reducible apply State.setRef_leaves (part_trans hP (by decide)) | with_reducible apply Leaves.ite | split
    | with_reducible intro _ | dsimp only

theorem State.estRelease_leaves {P : Nat} {s₀ s : State} (hP : P &&& 103085521416 = 103085521416) (h : Leaves P s₀ s) (inp : EstInputs) :
    Leaves P s₀ (State.estRelease s inp) := by
  unfold State.estRelease
  repeat' first
    | with_reducible assumption | with_reducible apply State.addFlags_leaves (part_trans hP (by decide))
    | with_reducible apply State.alarm_leaves (part_trans hP (by decide))
    | with_reducible apply State.releaseStage_leaves (part_trans hP (by decide))
    | with_reducible apply State.setEst_leaves (part_trans hP (by decide))
    | with_reducible apply State.setObjN_leaves (part_trans hP (by decide))
    | with_reducible apply State.setRef_leaves (part_trans hP (by decide))
    | with_reducible apply State.showRef_leaves (part_trans hP (by decide))
    | with_reducible apply State.takeWindow_leaves (part_trans hP (by decide))
    | with_reducible apply State.timeouts_leaves (part_trans hP (by decide))
    | with_reducible apply State.voteAttitude_leaves (part_trans hP (by decide))
    | with_reducible apply State.voteGroup_leaves (part_trans hP (by decide))
    | with_reducible apply State.voteWind_leaves (part_trans hP (by decide)) | with_reducible apply Leaves.ite
    | with_reducible apply Leaves.foldl | with_reducible apply Leaves.foldl_fst
    | with_reducible apply Leaves.foldl_snd | with_reducible apply Leaves.getD | split | with_reducible intro _
    | dsimp only | with_reducible apply Leaves.set_fresh (part_trans hP (by decide))

theorem execEstimationRelease_leaves {P : Nat} {s₀ s : State} (hP : P &&& 103085521416 = 103085521416) (h : Leaves P s₀ s) (x : EstInputs) :
    OutLeaves P s₀ (execEstimationRelease x s) := by
  unfold execEstimationRelease
  repeat' first
    | with_reducible assumption | with_reducible apply OutLeaves.next
    | with_reducible apply State.estRelease_leaves (part_trans hP (by decide)) | with_reducible apply OutLeaves.ite
    | with_reducible apply Leaves.ite | split | with_reducible intro _

theorem State.shiftedRun_leaves {P : Nat} {s₀ s : State} (hP : P &&& 103079229960 = 103079229960) (h : Leaves P s₀ s) (o : ObjDef) (b : HwBlock) (shifted : Bool) :
    Leaves P s₀ (State.shiftedRun s o b shifted) := by
  unfold State.shiftedRun
  repeat' first
    | with_reducible assumption | with_reducible apply State.alarm_leaves (part_trans hP (by decide))
    | with_reducible apply State.setObjN_leaves (part_trans hP (by decide)) | with_reducible apply Leaves.ite | split
    | with_reducible intro _ | dsimp only

theorem State.afterEstimate_leaves {P : Nat} {s₀ s : State} (hP : P &&& 103079262728 = 103079262728) (h : Leaves P s₀ s) (a flags : Nat) :
    Leaves P s₀ (State.afterEstimate s a flags) := by
  unfold State.afterEstimate
  repeat' first
    | with_reducible assumption | with_reducible apply State.setObjN_leaves (part_trans hP (by decide))
    | with_reducible apply State.shiftedRun_leaves (part_trans hP (by decide)) | with_reducible apply Leaves.ite
    | split | with_reducible intro _ | dsimp only | with_reducible apply Leaves.set_claims (part_trans hP (by decide))

theorem execDatumOrder_leaves {P : Nat} {s₀ s : State} (hP : P &&& 4194568 = 4194568) (h : Leaves P s₀ s) (lat lon : BitVec 64) :
    OutLeaves P s₀ (execDatumOrder lat lon s) := by
  unfold execDatumOrder
  repeat' first
    | with_reducible assumption | with_reducible apply OutLeaves.next
    | with_reducible apply State.answer_leaves (part_trans hP (by decide))
    | with_reducible apply State.setEst_leaves (part_trans hP (by decide))
    | with_reducible apply State.setObj_leaves (part_trans hP (by decide)) | with_reducible apply OutLeaves.ite
    | split | with_reducible intro _ | dsimp only

theorem State.applyDatum_leaves {P : Nat} {s₀ s : State} (hP : P &&& 4194312 = 4194312) (h : Leaves P s₀ s) :
    Leaves P s₀ (State.applyDatum s) := by
  unfold State.applyDatum
  repeat' first
    | with_reducible assumption | with_reducible apply State.setEst_leaves (part_trans hP (by decide))
    | with_reducible apply State.setObj_leaves (part_trans hP (by decide))
    | with_reducible apply State.setObjN_leaves (part_trans hP (by decide)) | with_reducible apply Leaves.ite
    | with_reducible apply Leaves.foldl | with_reducible apply Leaves.foldl_fst
    | with_reducible apply Leaves.foldl_snd | split | with_reducible intro _ | dsimp only

theorem execLayDown_leaves {P : Nat} {s₀ s : State} (hP : P &&& 4194568 = 4194568) (h : Leaves P s₀ s) (slot : Fin 24) (v : BitVec 8) :
    OutLeaves P s₀ (execLayDown slot v s) := by
  unfold execLayDown
  repeat' first
    | with_reducible assumption | with_reducible exact cov_trans hP (by decide) | with_reducible apply OutLeaves.next
    | with_reducible apply State.answer_leaves (part_trans hP (by decide)) | with_reducible apply State.put_leaves
    | with_reducible apply State.setObjN_leaves (part_trans hP (by decide))
    | with_reducible apply State.setRef_leaves (part_trans hP (by decide))
    | with_reducible apply State.setStages_leaves (part_trans hP (by decide)) | with_reducible apply OutLeaves.ite
    | with_reducible apply Leaves.getD | split | with_reducible intro _ | dsimp only

end Sys2Proof.Machine
end

