-- ==== Sys2Proof/Laws/LeavesTime.lean ====
section
/-! SUPPORT. What each operation of Machine/Time.lean leaves. -/

set_option linter.unusedTactic false
set_option linter.unreachableTactic false

namespace Sys2Proof.Machine

theorem State.tick_leaves {P : Nat} {s₀ s : State} (hP : P &&& 34359739392 = 34359739392) (h : Leaves P s₀ s) :
    Leaves P s₀ (State.tick s) := by
  unfold State.tick
  repeat' first
    | with_reducible assumption | with_reducible exact cov_trans hP (by decide)
    | with_reducible apply State.count_leaves (part_trans hP (by decide)) | with_reducible apply State.put_leaves
    | with_reducible apply Leaves.ite | with_reducible apply Leaves.foldl | split | with_reducible intro _
    | dsimp only | with_reducible apply Leaves.set_time (part_trans hP (by decide))

theorem State.stepOne_leaves {P : Nat} {s₀ s : State} (hP : P &&& 656325148204 = 656325148204) (h : Leaves P s₀ s) (n : Nat) (d : Int) :
    Leaves P s₀ (State.stepOne s n d) := by
  unfold State.stepOne
  repeat' first
    | with_reducible assumption | with_reducible exact cov_trans hP (by decide)
    | with_reducible apply Run.step_leaves (part_trans hP (by decide))
    | with_reducible apply State.event_leaves (part_trans hP (by decide)) | with_reducible apply State.incWrap_leaves
    | with_reducible apply State.put_leaves | with_reducible apply State.setBitIn_leaves | dsimp only
    | with_reducible apply Leaves.set_time (part_trans hP (by decide))

theorem State.stepFollowers_leaves {P : Nat} {s₀ s : State} (hP : P &&& 656325148204 = 656325148204) (h : Leaves P s₀ s)
    (d : Int) (k n : Nat) : Leaves P s₀ (State.stepFollowers d k s n) := by
  induction k generalizing s n with
  | zero => exact h
  | succ k ih =>
    unfold State.stepFollowers
    refine Leaves.foldl (fun u m hu => ?_) _ h
    split
    · split
      · exact State.raise_leaves hu _ (cov_trans hP (by decide)) _ _
      · exact ih (State.stepOne_leaves (part_trans hP (by decide)) hu _ _) _
    · exact hu

theorem State.applyStep_leaves {P : Nat} {s₀ s : State} (hP : P &&& 656325148204 = 656325148204) (h : Leaves P s₀ s) (n : Nat) (d : Int) :
    Leaves P s₀ (State.applyStep s n d) := by
  unfold State.applyStep
  repeat' first
    | with_reducible assumption | with_reducible apply State.stepFollowers_leaves (part_trans hP (by decide))
    | with_reducible apply State.stepOne_leaves (part_trans hP (by decide))

theorem State.stepBase_leaves {P : Nat} {s₀ s : State} (hP : P &&& 656325148204 = 656325148204) (h : Leaves P s₀ s) (n : Nat) (d : Int) :
    Leaves P s₀ (State.stepBase s n d) := by
  unfold State.stepBase
  repeat' first
    | with_reducible assumption | with_reducible exact cov_trans hP (by decide)
    | with_reducible apply State.applyStep_leaves (part_trans hP (by decide))
    | with_reducible apply State.raise_leaves | with_reducible apply Leaves.ite | split | with_reducible intro _

theorem execTbStep_leaves {P : Nat} {s₀ s : State} (hP : P &&& 656325148204 = 656325148204) (h : Leaves P s₀ s) (n : Fin 4) :
    OutLeaves P s₀ (execTbStep n s) := by
  unfold execTbStep
  repeat' first
    | with_reducible assumption | with_reducible exact cov_trans hP (by decide) | with_reducible apply OutLeaves.next
    | with_reducible apply State.raise_leaves | with_reducible apply State.stepBase_leaves (part_trans hP (by decide))
    | with_reducible apply OutLeaves.ite | split | with_reducible intro _ | dsimp only

theorem execTbCountRead_leaves {P : Nat} {s₀ s : State} (hP : P &&& 34359739456 = 34359739456) (h : Leaves P s₀ s) (core n : Fin 4) :
    OutLeaves P s₀ (execTbCountRead core n s) := by
  unfold execTbCountRead
  repeat' first
    | with_reducible assumption | with_reducible exact cov_trans hP (by decide) | with_reducible apply OutLeaves.next
    | with_reducible apply State.count_leaves (part_trans hP (by decide)) | with_reducible apply State.put_leaves
    | with_reducible intro _ | dsimp only | with_reducible apply Leaves.set_readData (part_trans hP (by decide))
    | with_reducible apply Leaves.set_time (part_trans hP (by decide))
    | with_reducible apply Leaves.set_time_readData (part_trans hP (by decide))

theorem State.snapshot_leaves {P : Nat} {s₀ s : State} (hP : P &&& 35433480192 = 35433480192) (h : Leaves P s₀ s) :
    Leaves P s₀ (State.snapshot s) := by
  unfold State.snapshot
  repeat' first
    | with_reducible assumption | with_reducible exact cov_trans hP (by decide)
    | with_reducible apply State.count_leaves (part_trans hP (by decide)) | with_reducible apply State.incWrap_leaves
    | with_reducible apply State.wr_leaves | with_reducible apply State.wrS_leaves | with_reducible apply Leaves.foldl
    | with_reducible intro _ | dsimp only

theorem execTuSnap_leaves {P : Nat} {s₀ s : State} (hP : P &&& 35433480192 = 35433480192) (h : Leaves P s₀ s) :
    OutLeaves P s₀ (execTuSnap s) := by
  unfold execTuSnap
  repeat' first
    | with_reducible assumption | with_reducible apply OutLeaves.next
    | with_reducible apply State.snapshot_leaves (part_trans hP (by decide)) | with_reducible intro _

theorem execSnapshotPeriodic_leaves {P : Nat} {s₀ s : State} (hP : P &&& 35433480192 = 35433480192) (h : Leaves P s₀ s) :
    OutLeaves P s₀ (execSnapshotPeriodic s) := by
  unfold execSnapshotPeriodic
  repeat' first
    | with_reducible assumption | with_reducible apply OutLeaves.next
    | with_reducible apply State.snapshot_leaves (part_trans hP (by decide)) | with_reducible intro _

theorem State.setServo_leaves {P : Nat} {s₀ s : State} (hP : P &&& 1024 = 1024) (h : Leaves P s₀ s) (n : Nat) (f : Servo → Servo) :
    Leaves P s₀ (State.setServo s n f) := by
  unfold State.setServo
  repeat' first
    | with_reducible assumption | dsimp only | with_reducible apply Leaves.set_time (part_trans hP (by decide))

theorem State.setServoState_leaves {P : Nat} {s₀ s : State} (hP : P &&& 1073742848 = 1073742848) (h : Leaves P s₀ s) (n st : Nat) :
    Leaves P s₀ (State.setServoState s n st) := by
  unfold State.setServoState
  repeat' first
    | with_reducible assumption | with_reducible exact cov_trans hP (by decide)
    | with_reducible apply State.setBitIn_leaves
    | with_reducible apply State.setServo_leaves (part_trans hP (by decide)) | with_reducible apply State.wr_leaves
    | with_reducible apply Leaves.ite | split | with_reducible intro _ | dsimp only

theorem State.setRatePpb_leaves {P : Nat} {s₀ s : State} (hP : P &&& 1073741824 = 1073741824) (h : Leaves P s₀ s) (n : Nat) (y : Rat) :
    Leaves P s₀ (State.setRatePpb s n y) := by
  unfold State.setRatePpb
  repeat' first
    | with_reducible assumption | with_reducible exact cov_trans hP (by decide)
    | with_reducible apply State.wrS_leaves

theorem State.holdRate_leaves {P : Nat} {s₀ s : State} (hP : P &&& 1073741824 = 1073741824) (h : Leaves P s₀ s) (n : Nat) :
    Leaves P s₀ (State.holdRate s n) := by
  unfold State.holdRate
  repeat' first
    | with_reducible assumption | with_reducible apply State.setRatePpb_leaves (part_trans hP (by decide))
    | dsimp only

theorem State.servoSlew_leaves {P : Nat} {s₀ s : State} (hP : P &&& 656325148204 = 656325148204) (h : Leaves P s₀ s) (n : Nat) (o : Int) (t : Rat) :
    Leaves P s₀ (State.servoSlew s n o t) := by
  unfold State.servoSlew
  repeat' first
    | with_reducible assumption | with_reducible apply State.applyStep_leaves (part_trans hP (by decide))
    | with_reducible apply State.setRatePpb_leaves (part_trans hP (by decide))
    | with_reducible apply State.setServo_leaves (part_trans hP (by decide)) | with_reducible apply Leaves.ite | split
    | with_reducible intro _ | dsimp only

theorem State.servoLock_leaves {P : Nat} {s₀ s : State} (hP : P &&& 1073742848 = 1073742848) (h : Leaves P s₀ s) (n : Nat) (o : Int) :
    Leaves P s₀ (State.servoLock s n o) := by
  unfold State.servoLock
  repeat' first
    | with_reducible assumption | with_reducible apply State.setServo_leaves (part_trans hP (by decide))
    | with_reducible apply State.setServoState_leaves (part_trans hP (by decide)) | with_reducible apply Leaves.ite
    | split | with_reducible intro _ | dsimp only

theorem State.servoOffset_leaves {P : Nat} {s₀ s : State} (hP : P &&& 656325148204 = 656325148204) (h : Leaves P s₀ s) (n : Nat) (o : Int) (t : Rat) :
    Leaves P s₀ (State.servoOffset s n o t) := by
  unfold State.servoOffset
  repeat' first
    | with_reducible assumption | with_reducible apply State.alarm_leaves (part_trans hP (by decide))
    | with_reducible apply State.holdRate_leaves (part_trans hP (by decide))
    | with_reducible apply State.servoLock_leaves (part_trans hP (by decide))
    | with_reducible apply State.servoSlew_leaves (part_trans hP (by decide))
    | with_reducible apply State.setObjN_leaves (part_trans hP (by decide))
    | with_reducible apply State.setServo_leaves (part_trans hP (by decide))
    | with_reducible apply State.setServoState_leaves (part_trans hP (by decide)) | with_reducible apply Leaves.ite
    | split | with_reducible intro _ | dsimp only

theorem State.feedOffset_leaves {P : Nat} {s₀ s : State} (hP : P &&& 656325148204 = 656325148204) (h : Leaves P s₀ s) (src : Nat) (arg : Option Nat) (o : Int) (t : Rat) :
    Leaves P s₀ (State.feedOffset s src arg o t) := by
  unfold State.feedOffset
  repeat' first
    | with_reducible assumption | with_reducible apply State.servoOffset_leaves (part_trans hP (by decide))
    | with_reducible apply Leaves.ite | with_reducible apply Leaves.foldl | split | with_reducible intro _
    | dsimp only

theorem execHoldoverEntry_leaves {P : Nat} {s₀ s : State} (hP : P &&& 1073742848 = 1073742848) (h : Leaves P s₀ s) (n : Fin 4) :
    OutLeaves P s₀ (execHoldoverEntry n s) := by
  unfold execHoldoverEntry
  repeat' first
    | with_reducible assumption | with_reducible apply OutLeaves.next
    | with_reducible apply State.holdRate_leaves (part_trans hP (by decide))
    | with_reducible apply State.setServo_leaves (part_trans hP (by decide))
    | with_reducible apply State.setServoState_leaves (part_trans hP (by decide)) | with_reducible apply OutLeaves.ite
    | split | with_reducible intro _ | dsimp only

theorem execHoldoverMax_leaves {P : Nat} {s₀ s : State} (hP : P &&& 103079230984 = 103079230984) (h : Leaves P s₀ s) (n : Fin 4) :
    OutLeaves P s₀ (execHoldoverMax n s) := by
  unfold execHoldoverMax
  repeat' first
    | with_reducible assumption | with_reducible apply OutLeaves.next
    | with_reducible apply State.alarm_leaves (part_trans hP (by decide))
    | with_reducible apply State.setServo_leaves (part_trans hP (by decide)) | with_reducible apply OutLeaves.ite
    | split | with_reducible intro _ | dsimp only

theorem State.setPtp_leaves {P : Nat} {s₀ s : State} (hP : P &&& 1024 = 1024) (h : Leaves P s₀ s) (i : Nat) (f : PtpInstance → PtpInstance) :
    Leaves P s₀ (State.setPtp s i f) := by
  unfold State.setPtp
  repeat' first
    | with_reducible assumption | dsimp only | with_reducible apply Leaves.set_time (part_trans hP (by decide))

theorem State.bmca_leaves {P : Nat} {s₀ s : State} (hP : P &&& 1073742856 = 1073742856) (h : Leaves P s₀ s) (i : Nat) :
    Leaves P s₀ (State.bmca s i) := by
  unfold State.bmca
  repeat' first
    | with_reducible assumption | with_reducible apply State.setObjN_leaves (part_trans hP (by decide))
    | with_reducible apply State.setPtp_leaves (part_trans hP (by decide))
    | with_reducible apply State.setServoState_leaves (part_trans hP (by decide)) | with_reducible apply Leaves.ite
    | with_reducible apply Leaves.foldl | with_reducible apply Leaves.getD | split | with_reducible intro _
    | dsimp only

theorem State.ptpOffset_leaves {P : Nat} {s₀ s : State} (hP : P &&& 656325148204 = 656325148204) (h : Leaves P s₀ s) (i port : Nat) (interval : Rat) :
    Leaves P s₀ (State.ptpOffset s i port interval) := by
  unfold State.ptpOffset
  repeat' first
    | with_reducible assumption | with_reducible apply State.feedOffset_leaves (part_trans hP (by decide))
    | dsimp only

theorem State.ptpPush_leaves {P : Nat} {s₀ s : State} (hP : P &&& 1024 = 1024) (h : Leaves P s₀ s) (i port : Nat) (kind : PtpKind) (seq : Nat) (origin : Int) :
    Leaves P s₀ (State.ptpPush s i port kind seq origin) := by
  unfold State.ptpPush
  repeat' first
    | with_reducible assumption | dsimp only | with_reducible apply Leaves.set_time (part_trans hP (by decide))

theorem execPtpMessage_leaves {P : Nat} {s₀ s : State} (hP : P &&& 656325148204 = 656325148204) (h : Leaves P s₀ s) (inst : Fin 2) (port : Fin 8) (m : PtpMsg) :
    OutLeaves P s₀ (execPtpMessage inst port m s) := by
  unfold execPtpMessage
  repeat' first
    | with_reducible assumption | with_reducible apply OutLeaves.next
    | with_reducible apply State.bmca_leaves (part_trans hP (by decide))
    | with_reducible apply State.ptpOffset_leaves (part_trans hP (by decide))
    | with_reducible apply State.ptpPush_leaves (part_trans hP (by decide))
    | with_reducible apply State.setObjN_leaves (part_trans hP (by decide))
    | with_reducible apply State.setPtp_leaves (part_trans hP (by decide)) | with_reducible apply OutLeaves.ite
    | split | with_reducible intro _ | dsimp only

theorem execPtpSend_leaves {P : Nat} {s₀ s : State} (hP : P &&& 1024 = 1024) (h : Leaves P s₀ s) (inst : Fin 2) (port : Fin 8) (kind : PtpKind) :
    OutLeaves P s₀ (execPtpSend inst port kind s) := by
  unfold execPtpSend
  repeat' first
    | with_reducible assumption | with_reducible apply OutLeaves.next
    | with_reducible apply State.ptpPush_leaves (part_trans hP (by decide))
    | with_reducible apply State.setPtp_leaves (part_trans hP (by decide)) | with_reducible apply OutLeaves.ite
    | split | with_reducible intro _ | dsimp only

theorem execAnnounceTimeout_leaves {P : Nat} {s₀ s : State} (hP : P &&& 1073742856 = 1073742856) (h : Leaves P s₀ s) (inst : Fin 2) :
    OutLeaves P s₀ (execAnnounceTimeout inst s) := by
  unfold execAnnounceTimeout
  repeat' first
    | with_reducible assumption | with_reducible apply OutLeaves.next
    | with_reducible apply State.bmca_leaves (part_trans hP (by decide))
    | with_reducible apply State.setPtp_leaves (part_trans hP (by decide)) | with_reducible intro _ | dsimp only

theorem State.ppsMiss_leaves {P : Nat} {s₀ s : State} (hP : P &&& 1073742848 = 1073742848) (h : Leaves P s₀ s) (p : Nat) :
    Leaves P s₀ (State.ppsMiss s p) := by
  unfold State.ppsMiss
  repeat' first
    | with_reducible assumption | with_reducible exact cov_trans hP (by decide)
    | with_reducible apply State.incSat_leaves | with_reducible apply State.put_leaves | dsimp only
    | with_reducible apply Leaves.set_time (part_trans hP (by decide))

theorem State.fireSync_leaves {P : Nat} {s₀ s : State} (hP : P &&& 142606336 = 142606336) (h : Leaves P s₀ s) :
    Leaves P s₀ (State.fireSync s) := by
  unfold State.fireSync
  repeat' first
    | with_reducible assumption | with_reducible exact cov_trans hP (by decide) | with_reducible apply State.wr_leaves
    | with_reducible apply Leaves.ite | with_reducible apply Leaves.foldl | split | with_reducible intro _
    | dsimp only | with_reducible apply Leaves.set_lauter (part_trans hP (by decide))

theorem execPpsEdge_leaves {P : Nat} {s₀ s : State} (hP : P &&& 656467754540 = 656467754540) (h : Leaves P s₀ s) (p : Fin 4) (falling : Bool) :
    OutLeaves P s₀ (execPpsEdge p falling s) := by
  unfold execPpsEdge
  repeat' first
    | with_reducible assumption | with_reducible exact cov_trans hP (by decide) | with_reducible apply OutLeaves.next
    | with_reducible apply State.feedOffset_leaves (part_trans hP (by decide))
    | with_reducible apply State.fireSync_leaves (part_trans hP (by decide))
    | with_reducible apply State.incSat_leaves | with_reducible apply State.ppsMiss_leaves (part_trans hP (by decide))
    | with_reducible apply State.put_leaves | with_reducible apply State.setBitIn_leaves
    | with_reducible apply State.wr_leaves | with_reducible apply OutLeaves.ite | with_reducible apply Leaves.ite
    | split | with_reducible intro _ | dsimp only | with_reducible apply Leaves.set_time (part_trans hP (by decide))

theorem execPpsMissed_leaves {P : Nat} {s₀ s : State} (hP : P &&& 1073742848 = 1073742848) (h : Leaves P s₀ s) (p : Fin 4) :
    OutLeaves P s₀ (execPpsMissed p s) := by
  unfold execPpsMissed
  repeat' first
    | with_reducible assumption | with_reducible apply OutLeaves.next
    | with_reducible apply State.ppsMiss_leaves (part_trans hP (by decide)) | with_reducible apply OutLeaves.ite
    | with_reducible apply Leaves.ite | split | with_reducible intro _

theorem execPpsOutputPulse_leaves {P : Nat} {s₀ s : State} (hP : P &&& 1024 = 1024) (h : Leaves P s₀ s) (o : Fin 2) :
    OutLeaves P s₀ (execPpsOutputPulse o s) := by
  unfold execPpsOutputPulse
  repeat' first
    | with_reducible assumption | with_reducible exact cov_trans hP (by decide) | with_reducible apply OutLeaves.next
    | with_reducible apply State.put_leaves | with_reducible apply OutLeaves.ite | split | with_reducible intro _
    | dsimp only | with_reducible apply Leaves.set_time (part_trans hP (by decide))

theorem execTimeOfDayRecord_leaves {P : Nat} {s₀ s : State} (hP : P &&& 656325148204 = 656325148204) (h : Leaves P s₀ s) (n : Fin 4) (seconds : BitVec 48) :
    OutLeaves P s₀ (execTimeOfDayRecord n seconds s) := by
  unfold execTimeOfDayRecord
  repeat' first
    | with_reducible assumption | with_reducible apply OutLeaves.next
    | with_reducible apply State.stepBase_leaves (part_trans hP (by decide)) | with_reducible apply OutLeaves.ite
    | split | with_reducible intro _ | dsimp only

theorem State.stopPipeline_leaves {P : Nat} {s₀ s : State} (hP : P &&& 1073741832 = 1073741832) (h : Leaves P s₀ s) :
    Leaves P s₀ (State.stopPipeline s) := by
  unfold State.stopPipeline
  repeat' first
    | with_reducible assumption | with_reducible exact cov_trans hP (by decide)
    | with_reducible apply State.setObjN_leaves (part_trans hP (by decide)) | with_reducible apply State.wr_leaves

theorem execResync_leaves {P : Nat} {s₀ s : State} (hP : P &&& 656325148460 = 656325148460) (h : Leaves P s₀ s) :
    OutLeaves P s₀ (execResync s) := by
  unfold execResync
  repeat' first
    | with_reducible assumption | with_reducible apply OutLeaves.next
    | with_reducible apply State.answer_leaves (part_trans hP (by decide))
    | with_reducible apply State.setObjN_leaves (part_trans hP (by decide))
    | with_reducible apply State.setServoState_leaves (part_trans hP (by decide))
    | with_reducible apply State.stepBase_leaves (part_trans hP (by decide))
    | with_reducible apply State.stopPipeline_leaves (part_trans hP (by decide)) | with_reducible apply OutLeaves.ite
    | with_reducible apply Leaves.ite | split | with_reducible intro _ | dsimp only
    | with_reducible apply Leaves.set_claims (part_trans hP (by decide))

end Sys2Proof.Machine
end

