-- ==== Sys2Proof/Laws/LeavesTap.lean ====
section
/-! SUPPORT. What each operation of Machine/Tap.lean leaves. -/

set_option linter.unusedTactic false
set_option linter.unreachableTactic false

namespace Sys2Proof.Machine

theorem State.setClaims_leaves {P : Nat} {s₀ s : State} (hP : P &&& 32768 = 32768) (h : Leaves P s₀ s) (f : ClaimSt → ClaimSt) :
    Leaves P s₀ (State.setClaims s f) := by
  unfold State.setClaims
  repeat' first
    | with_reducible assumption | dsimp only | with_reducible apply Leaves.set_claims (part_trans hP (by decide))

theorem State.tapOnEm_leaves {P : Nat} {s₀ s : State} (hP : P &&& 32768 = 32768) (h : Leaves P s₀ s) (f : TapFrame) :
    Leaves P s₀ (State.tapOnEm s f) := by
  unfold State.tapOnEm
  repeat' first
    | with_reducible assumption | with_reducible apply State.setClaims_leaves (part_trans hP (by decide))
    | with_reducible intro _ | dsimp only

theorem State.sendClaim_leaves {P : Nat} {s₀ s : State} (hP : P &&& 173946478592 = 173946478592) (h : Leaves P s₀ s) :
    Leaves P s₀ (State.sendClaim s) := by
  unfold State.sendClaim
  repeat' first
    | with_reducible assumption | with_reducible exact cov_trans hP (by decide)
    | with_reducible apply State.count_leaves (part_trans hP (by decide)) | with_reducible apply State.incWrap_leaves
    | with_reducible apply State.sendAllBoth_leaves (part_trans hP (by decide))
    | with_reducible apply State.setClaims_leaves (part_trans hP (by decide))
    | with_reducible apply State.tapFrame_leaves (part_trans hP (by decide))
    | with_reducible apply State.tapOnEm_leaves (part_trans hP (by decide)) | with_reducible apply Leaves.ite
    | with_reducible apply Leaves.foldl | split | with_reducible intro _ | dsimp only

theorem State.sendCommand_leaves {P : Nat} {s₀ s : State} (hP : P &&& 36507516928 = 36507516928) (h : Leaves P s₀ s) (c : TapCommand) :
    Leaves P s₀ (State.sendCommand s c) := by
  unfold State.sendCommand
  repeat' first
    | with_reducible assumption | with_reducible exact cov_trans hP (by decide)
    | with_reducible apply State.put_leaves | with_reducible apply State.setClaims_leaves (part_trans hP (by decide))
    | with_reducible apply State.tapFrame_leaves (part_trans hP (by decide))
    | with_reducible apply State.tapOnEm_leaves (part_trans hP (by decide)) | with_reducible apply Leaves.ite
    | with_reducible apply Leaves.foldl | split | with_reducible intro _ | dsimp only

theorem State.updateClaim_leaves {P : Nat} {s₀ s : State} (hP : P &&& 173946478592 = 173946478592) (h : Leaves P s₀ s) :
    Leaves P s₀ (State.updateClaim s) := by
  unfold State.updateClaim
  repeat' first
    | with_reducible assumption | with_reducible exact cov_trans hP (by decide)
    | with_reducible apply State.raise_leaves
    | with_reducible apply State.sendClaim_leaves (part_trans hP (by decide)) | with_reducible apply State.wr_leaves
    | with_reducible apply Leaves.ite | split | with_reducible intro _ | dsimp only

end Sys2Proof.Machine
end

