-- ==== Sys2Proof/Laws/LeavesLimits.lean ====
section
/-! SUPPORT. What each operation of Machine/Limits.lean leaves. -/

set_option linter.unusedTactic false
set_option linter.unreachableTactic false

namespace Sys2Proof.Machine

theorem State.setLoop_leaves {P : Nat} {s₀ s : State} (hP : P &&& 131072 = 131072) (h : Leaves P s₀ s) (f : LoopSt → LoopSt) :
    Leaves P s₀ (State.setLoop s f) := by
  unfold State.setLoop
  repeat' first
    | with_reducible assumption | dsimp only | with_reducible apply Leaves.set_loop (part_trans hP (by decide))

theorem State.trajCommit_leaves {P : Nat} {s₀ s : State} (hP : P &&& 103347788288 = 103347788288) (h : Leaves P s₀ s) :
    Leaves P s₀ (State.trajCommit s) := by
  unfold State.trajCommit
  repeat' first
    | with_reducible assumption | with_reducible exact cov_trans hP (by decide)
    | with_reducible apply State.event_leaves (part_trans hP (by decide)) | with_reducible apply State.raise_leaves
    | with_reducible apply State.setLoop_leaves (part_trans hP (by decide)) | with_reducible apply State.wr_leaves
    | with_reducible apply Leaves.ite | split | with_reducible intro _ | dsimp only

theorem execLeTrajCommit_leaves {P : Nat} {s₀ s : State} (hP : P &&& 103347788288 = 103347788288) (h : Leaves P s₀ s) (_core : Fin 4) (v : Word) :
    OutLeaves P s₀ (execLeTrajCommit _core v s) := by
  unfold execLeTrajCommit
  repeat' first
    | with_reducible assumption | with_reducible apply OutLeaves.next
    | with_reducible apply State.trajCommit_leaves (part_trans hP (by decide)) | with_reducible apply OutLeaves.ite
    | split | with_reducible intro _

theorem execTrajCopyDone_leaves {P : Nat} {s₀ s : State} (hP : P &&& 268566536 = 268566536) (h : Leaves P s₀ s) :
    OutLeaves P s₀ (execTrajCopyDone s) := by
  unfold execTrajCopyDone
  repeat' first
    | with_reducible assumption | with_reducible exact cov_trans hP (by decide) | with_reducible apply OutLeaves.next
    | with_reducible apply State.incSat_leaves | with_reducible apply State.raise_leaves
    | with_reducible apply State.setLoop_leaves (part_trans hP (by decide))
    | with_reducible apply State.setObjN_leaves (part_trans hP (by decide)) | with_reducible apply State.wr_leaves
    | with_reducible apply OutLeaves.ite | with_reducible apply Leaves.ite | split | with_reducible intro _
    | dsimp only

theorem State.selectTraj_leaves {P : Nat} {s₀ s : State} (hP : P &&& 268566536 = 268566536) (h : Leaves P s₀ s) (t : Nat) :
    Leaves P s₀ (State.selectTraj s t) := by
  unfold State.selectTraj
  repeat' first
    | with_reducible assumption | with_reducible exact cov_trans hP (by decide)
    | with_reducible apply State.raise_leaves | with_reducible apply State.setLoop_leaves (part_trans hP (by decide))
    | with_reducible apply State.setObjN_leaves (part_trans hP (by decide)) | with_reducible apply State.wr_leaves
    | with_reducible apply Leaves.ite | split | with_reducible intro _ | dsimp only

theorem State.noteTraj_leaves {P : Nat} {s₀ s : State} (hP : P &&& 103347788288 = 103347788288) (h : Leaves P s₀ s) (t : Nat) :
    Leaves P s₀ (State.noteTraj s t) := by
  unfold State.noteTraj
  repeat' first
    | with_reducible assumption | with_reducible exact cov_trans hP (by decide)
    | with_reducible apply State.event_leaves (part_trans hP (by decide)) | with_reducible apply State.put_leaves
    | with_reducible apply State.raise_leaves | with_reducible apply State.setLoop_leaves (part_trans hP (by decide))
    | with_reducible apply Leaves.ite | with_reducible apply Leaves.getD | split | with_reducible intro _ | dsimp only

theorem execTrajStaleAlarm_leaves {P : Nat} {s₀ s : State} (hP : P &&& 103079361032 = 103079361032) (h : Leaves P s₀ s) :
    OutLeaves P s₀ (execTrajStaleAlarm s) := by
  unfold execTrajStaleAlarm
  repeat' first
    | with_reducible assumption | with_reducible apply OutLeaves.next
    | with_reducible apply State.alarm_leaves (part_trans hP (by decide))
    | with_reducible apply State.setLoop_leaves (part_trans hP (by decide)) | with_reducible apply OutLeaves.ite
    | split | with_reducible intro _ | dsimp only

end Sys2Proof.Machine
end

