-- ==== Sys2Proof/Laws/LeavesVisual.lean ====
section
/-! SUPPORT. What each operation of Machine/Visual.lean leaves. -/

set_option linter.unusedTactic false
set_option linter.unreachableTactic false

namespace Sys2Proof.Machine

theorem State.visDrop_leaves {P : Nat} {s₀ s : State} (hP : P &&& 8 = 8) (h : Leaves P s₀ s) (n : Nat) :
    Leaves P s₀ (State.visDrop s n) := by
  unfold State.visDrop
  repeat' first
    | with_reducible assumption | with_reducible apply State.setObjN_leaves (part_trans hP (by decide))

theorem State.addPart_leaves {P : Nat} {s₀ s : State} (hP : P &&& 4194312 = 4194312) (h : Leaves P s₀ s) (c : Nat) (d : List Byte) :
    Leaves P s₀ (State.addPart s c d) := by
  unfold State.addPart
  repeat' first
    | with_reducible assumption | with_reducible exact cov_trans hP (by decide)
    | with_reducible apply State.put_leaves | with_reducible apply State.setVis_leaves (part_trans hP (by decide))
    | with_reducible apply State.visDrop_leaves (part_trans hP (by decide)) | with_reducible apply Leaves.ite | split
    | with_reducible intro _ | dsimp only

theorem execKeypointDatagram_leaves {P : Nat} {s₀ s : State} (hP : P &&& 4194312 = 4194312) (h : Leaves P s₀ s) (em : Fin 8) (d : List Byte) :
    OutLeaves P s₀ (execKeypointDatagram em d s) := by
  unfold execKeypointDatagram
  repeat' first
    | with_reducible assumption | with_reducible apply OutLeaves.next
    | with_reducible apply State.addPart_leaves (part_trans hP (by decide))
    | with_reducible apply State.visDrop_leaves (part_trans hP (by decide)) | with_reducible apply OutLeaves.ite
    | with_reducible apply Leaves.ite | split | with_reducible intro _ | dsimp only

theorem execFrameIncomplete_leaves {P : Nat} {s₀ s : State} (hP : P &&& 4194312 = 4194312) (h : Leaves P s₀ s) (camera : Fin 4) :
    OutLeaves P s₀ (execFrameIncomplete camera s) := by
  unfold execFrameIncomplete
  repeat' first
    | with_reducible assumption | with_reducible exact cov_trans hP (by decide) | with_reducible apply OutLeaves.next
    | with_reducible apply State.put_leaves | with_reducible apply State.setVis_leaves (part_trans hP (by decide))
    | with_reducible apply State.visDrop_leaves (part_trans hP (by decide)) | with_reducible intro _ | dsimp only

theorem execCameraLost_leaves {P : Nat} {s₀ s : State} (hP : P &&& 4194304 = 4194304) (h : Leaves P s₀ s) (camera : Fin 4) :
    OutLeaves P s₀ (execCameraLost camera s) := by
  unfold execCameraLost
  repeat' first
    | with_reducible assumption | with_reducible apply OutLeaves.next
    | with_reducible apply State.setVis_leaves (part_trans hP (by decide)) | with_reducible apply OutLeaves.ite
    | with_reducible apply Leaves.ite | split | with_reducible intro _ | dsimp only

theorem execVisualRelease_leaves {P : Nat} {s₀ s : State} (hP : P &&& 103085513216 = 103085513216) (h : Leaves P s₀ s) (targets : List TargetEst) :
    OutLeaves P s₀ (execVisualRelease targets s) := by
  unfold execVisualRelease
  repeat' first
    | with_reducible assumption | with_reducible apply OutLeaves.next
    | with_reducible apply State.addFlags_leaves (part_trans hP (by decide))
    | with_reducible apply State.nextFresh_leaves (part_trans hP (by decide))
    | with_reducible apply State.releaseStage_leaves (part_trans hP (by decide))
    | with_reducible apply State.setStage_leaves (part_trans hP (by decide))
    | with_reducible apply State.setVis_leaves (part_trans hP (by decide)) | with_reducible apply OutLeaves.ite
    | split | with_reducible intro _ | dsimp only

theorem State.afterVisual_leaves {P : Nat} {s₀ s : State} (hP : P &&& 103083416072 = 103083416072) (h : Leaves P s₀ s) (a flags : Nat) :
    Leaves P s₀ (State.afterVisual s a flags) := by
  unfold State.afterVisual
  repeat' first
    | with_reducible assumption | with_reducible apply State.nextFresh_leaves (part_trans hP (by decide))
    | with_reducible apply State.setObjN_leaves (part_trans hP (by decide))
    | with_reducible apply State.setVis_leaves (part_trans hP (by decide))
    | with_reducible apply State.takeRec_leaves (part_trans hP (by decide)) | with_reducible apply Leaves.ite | split
    | with_reducible intro _ | dsimp only

end Sys2Proof.Machine
end

