-- ==== Sys2Proof/Laws/LeavesPlanning.lean ====
section
/-! SUPPORT. What each operation of Machine/Planning.lean leaves. -/

set_option linter.unusedTactic false
set_option linter.unreachableTactic false

namespace Sys2Proof.Machine

theorem State.planRelease_leaves {P : Nat} {s₀ s : State} (hP : P &&& 103085513224 = 103085513224) (h : Leaves P s₀ s) (x : PlanInputs) :
    Leaves P s₀ (State.planRelease s x) := by
  unfold State.planRelease
  repeat' first
    | with_reducible assumption | with_reducible apply State.addFlags_leaves (part_trans hP (by decide))
    | with_reducible apply State.releaseStage_leaves (part_trans hP (by decide))
    | with_reducible apply State.setObj_leaves (part_trans hP (by decide))
    | with_reducible apply State.setObjN_leaves (part_trans hP (by decide))
    | with_reducible apply State.nextFresh_leaves (part_trans hP (by decide))
    | with_reducible apply State.setPlan_leaves (part_trans hP (by decide)) | with_reducible apply Leaves.ite
    | with_reducible apply Leaves.foldl | with_reducible apply Leaves.getD | split | with_reducible intro _
    | dsimp only

theorem execPlanningRelease_leaves {P : Nat} {s₀ s : State} (hP : P &&& 103085513224 = 103085513224) (h : Leaves P s₀ s) (x : PlanInputs) :
    OutLeaves P s₀ (execPlanningRelease x s) := by
  unfold execPlanningRelease
  repeat' first
    | with_reducible assumption | with_reducible apply OutLeaves.next
    | with_reducible apply State.planRelease_leaves (part_trans hP (by decide)) | with_reducible apply OutLeaves.ite
    | with_reducible apply Leaves.ite | split | with_reducible intro _

theorem State.sendPlan_leaves {P : Nat} {s₀ s : State} (hP : P &&& 40960 = 40960) (h : Leaves P s₀ s) (a flags : Nat) (est : Option Nat) :
    Leaves P s₀ (State.sendPlan s a flags est) := by
  unfold State.sendPlan
  repeat' first
    | with_reducible assumption | with_reducible apply State.sendAllBoth_leaves (part_trans hP (by decide))
    | with_reducible apply Leaves.ite | with_reducible apply Leaves.foldl | split | with_reducible intro _
    | dsimp only | with_reducible apply Leaves.set_claims (part_trans hP (by decide))

theorem State.afterPlan_leaves {P : Nat} {s₀ s : State} (hP : P &&& 103083457032 = 103083457032) (h : Leaves P s₀ s) (a flags : Nat) (est : Option Nat) :
    Leaves P s₀ (State.afterPlan s a flags est) := by
  unfold State.afterPlan
  repeat' first
    | with_reducible assumption | with_reducible apply State.alarm_leaves (part_trans hP (by decide))
    | with_reducible apply State.event_leaves (part_trans hP (by decide))
    | with_reducible apply State.nextFresh_leaves (part_trans hP (by decide))
    | with_reducible apply State.sendPlan_leaves (part_trans hP (by decide))
    | with_reducible apply State.setObj_leaves (part_trans hP (by decide))
    | with_reducible apply State.setObjN_leaves (part_trans hP (by decide))
    | with_reducible apply State.setPlan_leaves (part_trans hP (by decide))
    | with_reducible apply State.shiftedRun_leaves (part_trans hP (by decide)) | with_reducible apply Leaves.ite
    | split | with_reducible intro _ | dsimp only

theorem State.makeVote_leaves {P : Nat} {s₀ s : State} (hP : P &&& 103354112556 = 103354112556) (h : Leaves P s₀ s) (dst : Nat) (own : PlanSummary) (body : Nat) :
    Leaves P s₀ (State.makeVote s dst own body) := by
  unfold State.makeVote
  repeat' first
    | with_reducible assumption | with_reducible apply State.gristPut_leaves (part_trans hP (by decide))
    | with_reducible apply State.publish_leaves (part_trans hP (by decide))
    | with_reducible apply State.releaseStage_leaves (part_trans hP (by decide))
    | with_reducible apply State.setObjN_leaves (part_trans hP (by decide))
    | with_reducible apply State.trajCommit_leaves (part_trans hP (by decide)) | with_reducible apply Leaves.ite
    | with_reducible apply Leaves.foldl | with_reducible apply Leaves.foldl_fst
    | with_reducible apply Leaves.foldl_snd | with_reducible apply Leaves.getD | split | with_reducible intro _
    | dsimp only | with_reducible apply Leaves.set_claims (part_trans hP (by decide))

theorem execVoteStart_leaves {P : Nat} {s₀ s : State} (hP : P &&& 103354112556 = 103354112556) (h : Leaves P s₀ s) (slot : Word) :
    OutLeaves P s₀ (execVoteStart slot s) := by
  unfold execVoteStart
  repeat' first
    | with_reducible assumption | with_reducible apply OutLeaves.next
    | with_reducible apply State.makeVote_leaves (part_trans hP (by decide)) | with_reducible apply OutLeaves.ite
    | with_reducible apply Leaves.ite | split | with_reducible intro _ | dsimp only

end Sys2Proof.Machine
end

