-- ==== Sys2Proof/Laws/LeavesSafetyDie.lean ====
section
/-! SUPPORT. What each operation of Machine/SafetyDie.lean leaves. -/

set_option linter.unusedTactic false
set_option linter.unreachableTactic false

namespace Sys2Proof.Machine

theorem State.setSafety_leaves {P : Nat} {s₀ s : State} (hP : P &&& 524288 = 524288) (h : Leaves P s₀ s) (f : SafetySt → SafetySt) :
    Leaves P s₀ (State.setSafety s f) := by
  unfold State.setSafety
  repeat' first
    | with_reducible assumption | dsimp only | with_reducible apply Leaves.set_safety (part_trans hP (by decide))

theorem State.sendMail_leaves {P : Nat} {s₀ s : State} (hP : P &&& 524288 = 524288) (h : Leaves P s₀ s) (type flags seq : Nat) (payload : List Byte) :
    Leaves P s₀ (State.sendMail s type flags seq payload) := by
  unfold State.sendMail
  repeat' first
    | with_reducible assumption | with_reducible apply State.setSafety_leaves (part_trans hP (by decide))
    | with_reducible intro _ | dsimp only

theorem State.setChan_leaves {P : Nat} {s₀ s : State} (hP : P &&& 524288 = 524288) (h : Leaves P s₀ s) (c : Nat) (f : SafeChan → SafeChan) :
    Leaves P s₀ (State.setChan s c f) := by
  unfold State.setChan
  repeat' first
    | with_reducible assumption | with_reducible apply State.setSafety_leaves (part_trans hP (by decide))
    | with_reducible intro _ | dsimp only

theorem State.safetyEval_leaves {P : Nat} {s₀ s : State} (hP : P &&& 524288 = 524288) (h : Leaves P s₀ s) (clr : Option Clear) :
    Leaves P s₀ (State.safetyEval s clr) := by
  unfold State.safetyEval
  repeat' first
    | with_reducible assumption | with_reducible exact cov_trans hP (by decide)
    | with_reducible apply State.put_leaves | with_reducible apply State.setSafety_leaves (part_trans hP (by decide))
    | with_reducible apply Leaves.ite | split | with_reducible intro _ | dsimp only

theorem State.dieAlarm_leaves {P : Nat} {s₀ s : State} (hP : P &&& 103079229960 = 103079229960) (h : Leaves P s₀ s) (name : String) :
    Leaves P s₀ (State.dieAlarm s name) := by
  unfold State.dieAlarm
  repeat' first
    | with_reducible assumption | with_reducible apply State.alarm_leaves (part_trans hP (by decide))
    | with_reducible apply Leaves.ite | split | with_reducible intro _

theorem State.dieEvent_leaves {P : Nat} {s₀ s : State} (hP : P &&& 103079221760 = 103079221760) (h : Leaves P s₀ s) (name : String) :
    Leaves P s₀ (State.dieEvent s name) := by
  unfold State.dieEvent
  repeat' first
    | with_reducible assumption | with_reducible apply State.event_leaves (part_trans hP (by decide))
    | with_reducible apply Leaves.ite | split | with_reducible intro _

theorem State.dieFault_leaves {P : Nat} {s₀ s : State} (hP : P &&& 103079754248 = 103079754248) (h : Leaves P s₀ s) :
    Leaves P s₀ (State.dieFault s) := by
  unfold State.dieFault
  repeat' first
    | with_reducible assumption | with_reducible apply State.dieAlarm_leaves (part_trans hP (by decide))
    | with_reducible apply State.safetyEval_leaves (part_trans hP (by decide))
    | with_reducible apply State.setSafety_leaves (part_trans hP (by decide)) | with_reducible intro _ | dsimp only

theorem execVsafeGood_leaves {P : Nat} {s₀ s : State} (hP : P &&& 103079754248 = 103079754248) (h : Leaves P s₀ s) :
    OutLeaves P s₀ (execVsafeGood s) := by
  unfold execVsafeGood
  repeat' first
    | with_reducible assumption | with_reducible apply OutLeaves.next
    | with_reducible apply State.dieAlarm_leaves (part_trans hP (by decide))
    | with_reducible apply State.safetyEval_leaves (part_trans hP (by decide)) | with_reducible apply OutLeaves.ite
    | with_reducible apply Leaves.ite | split | with_reducible intro _ | dsimp only
    | with_reducible apply Leaves.set_safety (part_trans hP (by decide))

theorem execSafetyOvertemp_leaves {P : Nat} {s₀ s : State} (hP : P &&& 103079754248 = 103079754248) (h : Leaves P s₀ s) :
    OutLeaves P s₀ (execSafetyOvertemp s) := by
  unfold execSafetyOvertemp
  repeat' first
    | with_reducible assumption | with_reducible apply OutLeaves.next
    | with_reducible apply State.dieFault_leaves (part_trans hP (by decide)) | with_reducible apply OutLeaves.ite
    | with_reducible apply Leaves.ite | split | with_reducible intro _

theorem execVio33SGood_leaves {P : Nat} {s₀ s : State} (hP : P &&& 524288 = 524288) (h : Leaves P s₀ s) :
    OutLeaves P s₀ (execVio33SGood s) := by
  unfold execVio33SGood
  repeat' first
    | with_reducible assumption | with_reducible apply OutLeaves.next
    | with_reducible apply State.safetyEval_leaves (part_trans hP (by decide))
    | with_reducible apply State.setSafety_leaves (part_trans hP (by decide)) | with_reducible intro _ | dsimp only

theorem execSiContactChange_leaves {P : Nat} {s₀ s : State} (hP : P &&& 524288 = 524288) (h : Leaves P s₀ s) (n : Fin 8) (ch : Fin 2) (closed : Bool) :
    OutLeaves P s₀ (execSiContactChange n ch closed s) := by
  unfold execSiContactChange
  repeat' first
    | with_reducible assumption | with_reducible apply OutLeaves.next
    | with_reducible apply State.safetyEval_leaves (part_trans hP (by decide))
    | with_reducible apply State.setSafety_leaves (part_trans hP (by decide)) | with_reducible apply OutLeaves.ite
    | with_reducible apply Leaves.ite | split | with_reducible intro _ | dsimp only

theorem execSiFilterExpiry_leaves {P : Nat} {s₀ s : State} (hP : P &&& 524288 = 524288) (h : Leaves P s₀ s) (n : Fin 8) (ch : Fin 2) :
    OutLeaves P s₀ (execSiFilterExpiry n ch s) := by
  unfold execSiFilterExpiry
  repeat' first
    | with_reducible assumption | with_reducible apply OutLeaves.next
    | with_reducible apply State.safetyEval_leaves (part_trans hP (by decide))
    | with_reducible apply State.setChan_leaves (part_trans hP (by decide)) | with_reducible apply OutLeaves.ite
    | with_reducible apply Leaves.ite | split | with_reducible intro _ | dsimp only

theorem State.inputFault_leaves {P : Nat} {s₀ s : State} (hP : P &&& 524288 = 524288) (h : Leaves P s₀ s) (n : Nat) :
    Leaves P s₀ (State.inputFault s n) := by
  unfold State.inputFault
  repeat' first
    | with_reducible assumption | with_reducible apply State.safetyEval_leaves (part_trans hP (by decide))
    | with_reducible apply State.setSafety_leaves (part_trans hP (by decide)) | with_reducible intro _ | dsimp only

theorem execDiscrepancyTimeout_leaves {P : Nat} {s₀ s : State} (hP : P &&& 524288 = 524288) (h : Leaves P s₀ s) (n : Fin 8) :
    OutLeaves P s₀ (execDiscrepancyTimeout n s) := by
  unfold execDiscrepancyTimeout
  repeat' first
    | with_reducible assumption | with_reducible apply OutLeaves.next
    | with_reducible apply State.inputFault_leaves (part_trans hP (by decide)) | with_reducible apply OutLeaves.ite
    | with_reducible apply Leaves.ite | split | with_reducible intro _

theorem execTestSourceCheck_leaves {P : Nat} {s₀ s : State} (hP : P &&& 524288 = 524288) (h : Leaves P s₀ s) (n : Fin 8) (ch : Fin 2) (shown : Bool) :
    OutLeaves P s₀ (execTestSourceCheck n ch shown s) := by
  unfold execTestSourceCheck
  repeat' first
    | with_reducible assumption | with_reducible apply OutLeaves.next
    | with_reducible apply State.inputFault_leaves (part_trans hP (by decide)) | with_reducible apply OutLeaves.ite
    | with_reducible apply Leaves.ite | split | with_reducible intro _ | dsimp only

theorem execCrossLinkExchange_leaves {P : Nat} {s₀ s : State} (hP : P &&& 524288 = 524288) (h : Leaves P s₀ s) :
    OutLeaves P s₀ (execCrossLinkExchange s) := by
  unfold execCrossLinkExchange
  repeat' first
    | with_reducible assumption | with_reducible apply OutLeaves.next
    | with_reducible apply State.safetyEval_leaves (part_trans hP (by decide))
    | with_reducible apply State.setChan_leaves (part_trans hP (by decide))
    | with_reducible apply State.setSafety_leaves (part_trans hP (by decide)) | with_reducible apply OutLeaves.ite
    | split | with_reducible intro _ | dsimp only

theorem execChannelFault_leaves {P : Nat} {s₀ s : State} (hP : P &&& 103079754248 = 103079754248) (h : Leaves P s₀ s) :
    OutLeaves P s₀ (execChannelFault s) := by
  unfold execChannelFault
  repeat' first
    | with_reducible assumption | with_reducible apply OutLeaves.next
    | with_reducible apply State.dieFault_leaves (part_trans hP (by decide)) | with_reducible apply OutLeaves.ite
    | with_reducible apply Leaves.ite | split | with_reducible intro _

theorem execSafetyWatchdogExpiry_leaves {P : Nat} {s₀ s : State} (hP : P &&& 524288 = 524288) (h : Leaves P s₀ s) (ch : Fin 2) :
    OutLeaves P s₀ (execSafetyWatchdogExpiry ch s) := by
  unfold execSafetyWatchdogExpiry
  repeat' first
    | with_reducible assumption | with_reducible apply OutLeaves.next
    | with_reducible apply State.safetyEval_leaves (part_trans hP (by decide))
    | with_reducible apply State.setChan_leaves (part_trans hP (by decide)) | with_reducible apply OutLeaves.ite
    | with_reducible apply Leaves.ite | split | with_reducible intro _ | dsimp only

theorem State.switchFault_leaves {P : Nat} {s₀ s : State} (hP : P &&& 103079754248 = 103079754248) (h : Leaves P s₀ s) (k c : Nat) :
    Leaves P s₀ (State.switchFault s k c) := by
  unfold State.switchFault
  repeat' first
    | with_reducible assumption | with_reducible apply State.dieAlarm_leaves (part_trans hP (by decide))
    | with_reducible apply State.safetyEval_leaves (part_trans hP (by decide))
    | with_reducible apply State.setChan_leaves (part_trans hP (by decide))
    | with_reducible apply State.setSafety_leaves (part_trans hP (by decide)) | with_reducible intro _ | dsimp only

theorem execSwitchFault_leaves {P : Nat} {s₀ s : State} (hP : P &&& 103079754248 = 103079754248) (h : Leaves P s₀ s) (out : Fin 8) (ch : Fin 2) :
    OutLeaves P s₀ (execSwitchFault out ch s) := by
  unfold execSwitchFault
  repeat' first
    | with_reducible assumption | with_reducible apply OutLeaves.next
    | with_reducible apply State.switchFault_leaves (part_trans hP (by decide)) | with_reducible apply OutLeaves.ite
    | with_reducible apply Leaves.ite | split | with_reducible intro _

theorem execTestPulse_leaves {P : Nat} {s₀ s : State} (hP : P &&& 103079754248 = 103079754248) (h : Leaves P s₀ s) (out : Fin 8) (ch : Fin 2) (conducts : Bool) :
    OutLeaves P s₀ (execTestPulse out ch conducts s) := by
  unfold execTestPulse
  repeat' first
    | with_reducible assumption | with_reducible apply OutLeaves.next
    | with_reducible apply State.switchFault_leaves (part_trans hP (by decide)) | with_reducible apply OutLeaves.ite
    | with_reducible apply Leaves.ite | split | with_reducible intro _

theorem execResetPulseRise_leaves {P : Nat} {s₀ s : State} (hP : P &&& 524288 = 524288) (h : Leaves P s₀ s) (k : Fin 4) (clean : BitVec 8) :
    OutLeaves P s₀ (execResetPulseRise k clean s) := by
  unfold execResetPulseRise
  repeat' first
    | with_reducible assumption | with_reducible exact cov_trans hP (by decide) | with_reducible apply OutLeaves.next
    | with_reducible apply State.put_leaves | with_reducible apply State.setSafety_leaves (part_trans hP (by decide))
    | with_reducible apply OutLeaves.ite | with_reducible apply Leaves.foldl | split | with_reducible intro _
    | dsimp only

theorem State.countPulse_leaves {P : Nat} {s₀ s : State} (hP : P &&& 524296 = 524296) (h : Leaves P s₀ s) (k j : Nat) :
    Leaves P s₀ (State.countPulse s k j) := by
  unfold State.countPulse
  repeat' first
    | with_reducible assumption | with_reducible apply State.setObj_leaves (part_trans hP (by decide))
    | with_reducible apply State.setSafety_leaves (part_trans hP (by decide)) | with_reducible intro _ | dsimp only

theorem execResetPulseFall_leaves {P : Nat} {s₀ s : State} (hP : P &&& 103079746056 = 103079746056) (h : Leaves P s₀ s) (k : Fin 4) (usA usB : Nat) :
    OutLeaves P s₀ (execResetPulseFall k usA usB s) := by
  unfold execResetPulseFall
  repeat' first
    | with_reducible assumption | with_reducible exact cov_trans hP (by decide) | with_reducible apply OutLeaves.next
    | with_reducible apply State.countPulse_leaves (part_trans hP (by decide))
    | with_reducible apply State.dieEvent_leaves (part_trans hP (by decide))
    | with_reducible apply State.inputFault_leaves (part_trans hP (by decide)) | with_reducible apply State.put_leaves
    | with_reducible apply State.safetyEval_leaves (part_trans hP (by decide))
    | with_reducible apply State.setSafety_leaves (part_trans hP (by decide)) | with_reducible apply OutLeaves.ite
    | with_reducible apply Leaves.foldl | split | with_reducible intro _ | dsimp only

theorem execResetStuckClear_leaves {P : Nat} {s₀ s : State} (hP : P &&& 524288 = 524288) (h : Leaves P s₀ s) (k : Fin 4) :
    OutLeaves P s₀ (execResetStuckClear k s) := by
  unfold execResetStuckClear
  repeat' first
    | with_reducible assumption | with_reducible apply OutLeaves.next
    | with_reducible apply State.setSafety_leaves (part_trans hP (by decide)) | with_reducible apply OutLeaves.ite
    | with_reducible apply Leaves.ite | split | with_reducible intro _ | dsimp only

theorem State.connFail_leaves {P : Nat} {s₀ s : State} (hP : P &&& 103079754248 = 103079754248) (h : Leaves P s₀ s) (c k : Nat) :
    Leaves P s₀ (State.connFail s c k) := by
  unfold State.connFail
  repeat' first
    | with_reducible assumption | with_reducible apply State.dieAlarm_leaves (part_trans hP (by decide))
    | with_reducible apply State.setChan_leaves (part_trans hP (by decide)) | with_reducible apply Leaves.ite | split
    | with_reducible intro _ | dsimp only

theorem State.timeFault_leaves {P : Nat} {s₀ s : State} (hP : P &&& 103079754248 = 103079754248) (h : Leaves P s₀ s) (c : Nat) :
    Leaves P s₀ (State.timeFault s c) := by
  unfold State.timeFault
  repeat' first
    | with_reducible assumption | with_reducible apply State.connFail_leaves (part_trans hP (by decide))
    | with_reducible apply Leaves.foldl | with_reducible intro _ | dsimp only

theorem State.takeStamp_leaves {P : Nat} {s₀ s : State} (hP : P &&& 103079754248 = 103079754248) (h : Leaves P s₀ s) (la lb t : Nat) :
    Leaves P s₀ (State.takeStamp s la lb t) := by
  unfold State.takeStamp
  repeat' first
    | with_reducible assumption | with_reducible apply State.setChan_leaves (part_trans hP (by decide))
    | with_reducible apply State.timeFault_leaves (part_trans hP (by decide)) | with_reducible apply Leaves.ite
    | split | with_reducible intro _ | dsimp only

theorem State.mailTaken_leaves {P : Nat} {s₀ s : State} (hP : P &&& 274878431232 = 274878431232) (h : Leaves P s₀ s) (seq : Nat) :
    Leaves P s₀ (State.mailTaken s seq) := by
  unfold State.mailTaken
  repeat' first
    | with_reducible assumption | with_reducible exact cov_trans hP (by decide)
    | with_reducible apply State.raise_leaves
    | with_reducible apply State.setSafety_leaves (part_trans hP (by decide)) | with_reducible apply State.wr_leaves
    | with_reducible apply Leaves.ite | split | with_reducible intro _ | dsimp only

theorem State.dieTake_leaves {P : Nat} {s₀ s : State} (hP : P &&& 377957661192 = 377957661192) (h : Leaves P s₀ s) (type : Nat) (m : MailMsg) (la lb : Nat) (f : State → State) (h_f : ∀ x0, Leaves P s₀ x0 → Leaves P s₀ (f x0)) :
    Leaves P s₀ (State.dieTake s type m la lb f) := by
  unfold State.dieTake
  repeat' first
    | with_reducible assumption | with_reducible exact cov_trans hP (by decide) | with_reducible apply h_f
    | with_reducible apply State.incSat_leaves
    | with_reducible apply State.mailTaken_leaves (part_trans hP (by decide))
    | with_reducible apply State.safetyEval_leaves (part_trans hP (by decide))
    | with_reducible apply State.setSafety_leaves (part_trans hP (by decide))
    | with_reducible apply State.takeStamp_leaves (part_trans hP (by decide)) | with_reducible apply Leaves.ite
    | split | with_reducible intro _ | dsimp only

theorem execHubHeartbeat_leaves {P : Nat} {s₀ s : State} (hP : P &&& 377957661192 = 377957661192) (h : Leaves P s₀ s) (m : MailMsg) (la lb : Nat) :
    OutLeaves P s₀ (execHubHeartbeat m la lb s) := by
  unfold execHubHeartbeat
  repeat' first
    | with_reducible assumption | with_reducible apply OutLeaves.next
    | with_reducible apply State.dieTake_leaves (part_trans hP (by decide))
    | with_reducible apply State.setChan_leaves (part_trans hP (by decide)) | with_reducible intro _ | dsimp only

theorem execHubLost_leaves {P : Nat} {s₀ s : State} (hP : P &&& 524288 = 524288) (h : Leaves P s₀ s) (ch : Fin 2) :
    OutLeaves P s₀ (execHubLost ch s) := by
  unfold execHubLost
  repeat' first
    | with_reducible assumption | with_reducible apply OutLeaves.next
    | with_reducible apply State.safetyEval_leaves (part_trans hP (by decide))
    | with_reducible apply State.setChan_leaves (part_trans hP (by decide)) | with_reducible apply OutLeaves.ite
    | with_reducible apply Leaves.ite | split | with_reducible intro _ | dsimp only

theorem execCaStatus_leaves {P : Nat} {s₀ s : State} (hP : P &&& 377957661192 = 377957661192) (h : Leaves P s₀ s) (m : MailMsg) (la lb : Nat) :
    OutLeaves P s₀ (execCaStatus m la lb s) := by
  unfold execCaStatus
  repeat' first
    | with_reducible assumption | with_reducible apply OutLeaves.next
    | with_reducible apply State.dieTake_leaves (part_trans hP (by decide))
    | with_reducible apply State.setChan_leaves (part_trans hP (by decide))
    | with_reducible apply State.setSafety_leaves (part_trans hP (by decide)) | with_reducible apply OutLeaves.ite
    | with_reducible apply Leaves.ite | split | with_reducible intro _ | dsimp only

theorem execPosStatus_leaves {P : Nat} {s₀ s : State} (hP : P &&& 377957661192 = 377957661192) (h : Leaves P s₀ s) (m : MailMsg) (la lb : Nat) :
    OutLeaves P s₀ (execPosStatus m la lb s) := by
  unfold execPosStatus
  repeat' first
    | with_reducible assumption | with_reducible apply OutLeaves.next
    | with_reducible apply State.dieTake_leaves (part_trans hP (by decide))
    | with_reducible apply State.setChan_leaves (part_trans hP (by decide))
    | with_reducible apply State.setSafety_leaves (part_trans hP (by decide)) | with_reducible apply OutLeaves.ite
    | with_reducible apply Leaves.ite | split | with_reducible intro _ | dsimp only

theorem State.azReview_leaves {P : Nat} {s₀ s : State} (hP : P &&& 524288 = 524288) (h : Leaves P s₀ s) :
    Leaves P s₀ (State.azReview s) := by
  unfold State.azReview
  repeat' first
    | with_reducible assumption | with_reducible apply State.setChan_leaves (part_trans hP (by decide))
    | with_reducible apply Leaves.foldl | with_reducible intro _ | dsimp only

theorem execAzimuth_leaves {P : Nat} {s₀ s : State} (hP : P &&& 377957661192 = 377957661192) (h : Leaves P s₀ s) (m : MailMsg) (la lb : Nat) :
    OutLeaves P s₀ (execAzimuth m la lb s) := by
  unfold execAzimuth
  repeat' first
    | with_reducible assumption | with_reducible exact cov_trans hP (by decide) | with_reducible apply OutLeaves.next
    | with_reducible apply State.azReview_leaves (part_trans hP (by decide))
    | with_reducible apply State.dieTake_leaves (part_trans hP (by decide)) | with_reducible apply State.put_leaves
    | with_reducible apply State.setSafety_leaves (part_trans hP (by decide)) | with_reducible apply Leaves.foldl
    | with_reducible intro _ | dsimp only

theorem execAzFault_leaves {P : Nat} {s₀ s : State} (hP : P &&& 524288 = 524288) (h : Leaves P s₀ s) (t : Fin 32) (ch : Fin 2) :
    OutLeaves P s₀ (execAzFault t ch s) := by
  unfold execAzFault
  repeat' first
    | with_reducible assumption | with_reducible apply OutLeaves.next
    | with_reducible apply State.safetyEval_leaves (part_trans hP (by decide))
    | with_reducible apply State.setChan_leaves (part_trans hP (by decide)) | with_reducible apply OutLeaves.ite
    | with_reducible apply Leaves.ite | split | with_reducible intro _ | dsimp only

theorem execSector_leaves {P : Nat} {s₀ s : State} (hP : P &&& 524288 = 524288) (h : Leaves P s₀ s) (t : Fin 32) (ch : Fin 2) :
    OutLeaves P s₀ (execSector t ch s) := by
  unfold execSector
  repeat' first
    | with_reducible assumption | with_reducible apply OutLeaves.next
    | with_reducible apply State.safetyEval_leaves (part_trans hP (by decide))
    | with_reducible apply State.setChan_leaves (part_trans hP (by decide)) | with_reducible apply OutLeaves.ite
    | with_reducible apply Leaves.ite | split | with_reducible intro _ | dsimp only

theorem execTripRequest_leaves {P : Nat} {s₀ s : State} (hP : P &&& 377957661192 = 377957661192) (h : Leaves P s₀ s) (m : MailMsg) (la lb : Nat) :
    OutLeaves P s₀ (execTripRequest m la lb s) := by
  unfold execTripRequest
  repeat' first
    | with_reducible assumption | with_reducible apply OutLeaves.next
    | with_reducible apply State.dieTake_leaves (part_trans hP (by decide))
    | with_reducible apply State.setSafety_leaves (part_trans hP (by decide)) | with_reducible intro _ | dsimp only

theorem execCaTimeout_leaves {P : Nat} {s₀ s : State} (hP : P &&& 524288 = 524288) (h : Leaves P s₀ s) (ch : Fin 2) :
    OutLeaves P s₀ (execCaTimeout ch s) := by
  unfold execCaTimeout
  repeat' first
    | with_reducible assumption | with_reducible apply OutLeaves.next
    | with_reducible apply State.safetyEval_leaves (part_trans hP (by decide))
    | with_reducible apply State.setChan_leaves (part_trans hP (by decide)) | with_reducible apply OutLeaves.ite
    | with_reducible apply Leaves.ite | split | with_reducible intro _ | dsimp only

theorem execPosPersist_leaves {P : Nat} {s₀ s : State} (hP : P &&& 524288 = 524288) (h : Leaves P s₀ s) (ch : Fin 2) :
    OutLeaves P s₀ (execPosPersist ch s) := by
  unfold execPosPersist
  repeat' first
    | with_reducible assumption | with_reducible apply OutLeaves.next
    | with_reducible apply State.safetyEval_leaves (part_trans hP (by decide))
    | with_reducible apply State.setChan_leaves (part_trans hP (by decide)) | with_reducible apply OutLeaves.ite
    | with_reducible apply Leaves.ite | split | with_reducible intro _ | dsimp only

theorem execPosTimeout_leaves {P : Nat} {s₀ s : State} (hP : P &&& 524288 = 524288) (h : Leaves P s₀ s) (ch : Fin 2) :
    OutLeaves P s₀ (execPosTimeout ch s) := by
  unfold execPosTimeout
  repeat' first
    | with_reducible assumption | with_reducible apply OutLeaves.next
    | with_reducible apply State.safetyEval_leaves (part_trans hP (by decide))
    | with_reducible apply State.setChan_leaves (part_trans hP (by decide)) | with_reducible apply OutLeaves.ite
    | with_reducible apply Leaves.ite | split | with_reducible intro _ | dsimp only

theorem State.countReject_leaves {P : Nat} {s₀ s : State} (hP : P &&& 524296 = 524296) (h : Leaves P s₀ s) (k j : Nat) :
    Leaves P s₀ (State.countReject s k j) := by
  unfold State.countReject
  repeat' first
    | with_reducible assumption | with_reducible apply State.setObj_leaves (part_trans hP (by decide))
    | with_reducible apply State.setSafety_leaves (part_trans hP (by decide)) | with_reducible intro _ | dsimp only

theorem State.takePdu_leaves {P : Nat} {s₀ s : State} (hP : P &&& 103079754248 = 103079754248) (h : Leaves P s₀ s) (c k port : Nat) (node : Option Nat) (ingress l : Nat) (b : List Byte) :
    Leaves P s₀ (State.takePdu s c k port node ingress l b) := by
  unfold State.takePdu
  repeat' first
    | with_reducible assumption | with_reducible exact cov_trans hP (by decide)
    | with_reducible apply State.connFail_leaves (part_trans hP (by decide))
    | with_reducible apply State.countReject_leaves (part_trans hP (by decide))
    | with_reducible apply State.put_leaves | with_reducible apply State.setChan_leaves (part_trans hP (by decide))
    | with_reducible apply Leaves.ite | split | with_reducible intro _ | dsimp only

theorem State.showConns_leaves {P : Nat} {s₀ s : State} (hP : P &&& 8 = 8) (h : Leaves P s₀ s) :
    Leaves P s₀ (State.showConns s) := by
  unfold State.showConns
  repeat' first
    | with_reducible assumption | with_reducible apply State.setObjN_leaves (part_trans hP (by decide))
    | with_reducible apply Leaves.ite | with_reducible apply Leaves.foldl | split | with_reducible intro _
    | dsimp only

theorem execGuardRx_leaves {P : Nat} {s₀ s : State} (hP : P &&& 377957661192 = 377957661192) (h : Leaves P s₀ s) (m : MailMsg) (la lb : Nat) (node : Option (BitVec 14)) :
    OutLeaves P s₀ (execGuardRx m la lb node s) := by
  unfold execGuardRx
  repeat' first
    | with_reducible assumption | with_reducible apply OutLeaves.next
    | with_reducible apply State.dieTake_leaves (part_trans hP (by decide))
    | with_reducible apply State.showConns_leaves (part_trans hP (by decide))
    | with_reducible apply State.takePdu_leaves (part_trans hP (by decide)) | split | with_reducible intro _
    | dsimp only

theorem execGuardWatchdog_leaves {P : Nat} {s₀ s : State} (hP : P &&& 103079754248 = 103079754248) (h : Leaves P s₀ s) (c : Fin 16) (ch : Fin 2) :
    OutLeaves P s₀ (execGuardWatchdog c ch s) := by
  unfold execGuardWatchdog
  repeat' first
    | with_reducible assumption | with_reducible apply OutLeaves.next
    | with_reducible apply State.connFail_leaves (part_trans hP (by decide))
    | with_reducible apply State.safetyEval_leaves (part_trans hP (by decide))
    | with_reducible apply State.showConns_leaves (part_trans hP (by decide)) | with_reducible apply OutLeaves.ite
    | with_reducible apply Leaves.ite | split | with_reducible intro _

theorem execGuardTxPeriod_leaves {P : Nat} {s₀ s : State} (hP : P &&& 524288 = 524288) (h : Leaves P s₀ s) (c : Fin 16) (la lb : Nat) :
    OutLeaves P s₀ (execGuardTxPeriod c la lb s) := by
  unfold execGuardTxPeriod
  repeat' first
    | with_reducible assumption | with_reducible exact cov_trans hP (by decide) | with_reducible apply OutLeaves.next
    | with_reducible apply State.put_leaves | with_reducible apply State.setSafety_leaves (part_trans hP (by decide))
    | with_reducible apply OutLeaves.ite | split | with_reducible intro _ | dsimp only

theorem State.putRx_leaves {P : Nat} {s₀ s : State} (hP : P &&& 274877906944 = 274877906944) (h : Leaves P s₀ s) (b : List Byte) :
    Leaves P s₀ (State.putRx s b) := by
  unfold State.putRx
  repeat' first
    | with_reducible assumption | with_reducible exact cov_trans hP (by decide) | with_reducible apply State.wr_leaves
    | with_reducible apply Leaves.foldl | with_reducible intro _ | dsimp only

theorem execGuardTx_leaves {P : Nat} {s₀ s : State} (hP : P &&& 274878431232 = 274878431232) (h : Leaves P s₀ s) (crcGood : Bool) :
    OutLeaves P s₀ (execGuardTx crcGood s) := by
  unfold execGuardTx
  repeat' first
    | with_reducible assumption | with_reducible exact cov_trans hP (by decide) | with_reducible apply OutLeaves.next
    | with_reducible apply State.incSat_leaves | with_reducible apply State.putRx_leaves (part_trans hP (by decide))
    | with_reducible apply State.raise_leaves
    | with_reducible apply State.setSafety_leaves (part_trans hP (by decide)) | with_reducible apply State.wr_leaves
    | with_reducible apply OutLeaves.ite | split | with_reducible intro _ | dsimp only

theorem execSmHb_leaves {P : Nat} {s₀ s : State} (hP : P &&& 524288 = 524288) (h : Leaves P s₀ s) :
    OutLeaves P s₀ (execSmHb s) := by
  unfold execSmHb
  repeat' first
    | with_reducible assumption | with_reducible apply OutLeaves.next
    | with_reducible apply State.sendMail_leaves (part_trans hP (by decide)) | with_reducible intro _

theorem execSmSend_leaves {P : Nat} {s₀ s : State} (hP : P &&& 274878431232 = 274878431232) (h : Leaves P s₀ s) :
    OutLeaves P s₀ (execSmSend s) := by
  unfold execSmSend
  repeat' first
    | with_reducible assumption | with_reducible exact cov_trans hP (by decide) | with_reducible apply OutLeaves.next
    | with_reducible apply State.raise_leaves | with_reducible apply State.sendMail_leaves (part_trans hP (by decide))
    | with_reducible apply OutLeaves.ite | split | with_reducible intro _ | dsimp only

theorem execSmRxAck_leaves {P : Nat} {s₀ s : State} (hP : P &&& 274877906944 = 274877906944) (h : Leaves P s₀ s) :
    OutLeaves P s₀ (execSmRxAck s) := by
  unfold execSmRxAck
  repeat' first
    | with_reducible assumption | with_reducible exact cov_trans hP (by decide) | with_reducible apply OutLeaves.next
    | with_reducible apply State.wr_leaves | with_reducible intro _

theorem execSmDead_leaves {P : Nat} {s₀ s : State} (hP : P &&& 274877906944 = 274877906944) (h : Leaves P s₀ s) :
    OutLeaves P s₀ (execSmDead s) := by
  unfold execSmDead
  repeat' first
    | with_reducible assumption | with_reducible exact cov_trans hP (by decide) | with_reducible apply OutLeaves.next
    | with_reducible apply State.raise_leaves | with_reducible apply State.wr_leaves
    | with_reducible apply OutLeaves.ite | with_reducible apply Leaves.ite | split | with_reducible intro _
    | dsimp only

theorem State.safetyLog_leaves {P : Nat} {s₀ s : State} (hP : P &&& 274878431240 = 274878431240) (h : Leaves P s₀ s) (node port action index sub : Nat) (old new : List Byte) (kind : Nat) (user : List Byte) :
    Leaves P s₀ (State.safetyLog s node port action index sub old new kind user) := by
  unfold State.safetyLog
  repeat' first
    | with_reducible assumption | with_reducible exact cov_trans hP (by decide)
    | with_reducible apply State.raise_leaves | with_reducible apply State.setObjN_leaves (part_trans hP (by decide))
    | with_reducible apply State.setSafety_leaves (part_trans hP (by decide)) | with_reducible apply Leaves.ite
    | split | with_reducible intro _ | dsimp only

theorem State.sendConfig_leaves {P : Nat} {s₀ s : State} (hP : P &&& 524288 = 524288) (h : Leaves P s₀ s) :
    Leaves P s₀ (State.sendConfig s) := by
  unfold State.sendConfig
  repeat' first
    | with_reducible assumption | with_reducible apply State.sendMail_leaves (part_trans hP (by decide))

theorem execConfig_leaves {P : Nat} {s₀ s : State} (hP : P &&& 377957661192 = 377957661192) (h : Leaves P s₀ s) (m : MailMsg) (la lb : Nat) (skew : Word) :
    OutLeaves P s₀ (execConfig m la lb skew s) := by
  unfold execConfig
  repeat' first
    | with_reducible assumption | with_reducible exact cov_trans hP (by decide) | with_reducible apply OutLeaves.next
    | with_reducible apply State.dieTake_leaves (part_trans hP (by decide)) | with_reducible apply State.put_leaves
    | with_reducible apply State.setChan_leaves (part_trans hP (by decide))
    | with_reducible apply State.setSafety_leaves (part_trans hP (by decide))
    | with_reducible apply State.showConns_leaves (part_trans hP (by decide)) | with_reducible apply OutLeaves.ite
    | with_reducible apply Leaves.ite | with_reducible apply Leaves.foldl | split | with_reducible intro _
    | dsimp only

theorem State.showSession_leaves {P : Nat} {s₀ s : State} (hP : P &&& 8 = 8) (h : Leaves P s₀ s) :
    Leaves P s₀ (State.showSession s) := by
  unfold State.showSession
  repeat' first
    | with_reducible assumption | with_reducible apply State.setObj_leaves (part_trans hP (by decide))
    | with_reducible apply State.setObjN_leaves (part_trans hP (by decide)) | split | with_reducible intro _

theorem State.touchSession_leaves {P : Nat} {s₀ s : State} (hP : P &&& 524288 = 524288) (h : Leaves P s₀ s) (change : Bool) :
    Leaves P s₀ (State.touchSession s change) := by
  unfold State.touchSession
  repeat' first
    | with_reducible assumption | with_reducible apply State.setSafety_leaves (part_trans hP (by decide))
    | with_reducible intro _ | dsimp only

theorem State.wrongResponse_leaves {P : Nat} {s₀ s : State} (hP : P &&& 103079754248 = 103079754248) (h : Leaves P s₀ s) :
    Leaves P s₀ (State.wrongResponse s) := by
  unfold State.wrongResponse
  repeat' first
    | with_reducible assumption | with_reducible apply State.alarm_leaves (part_trans hP (by decide))
    | with_reducible apply State.setSafety_leaves (part_trans hP (by decide)) | with_reducible apply Leaves.ite
    | split | with_reducible intro _ | dsimp only

theorem State.refuseOpen_leaves {P : Nat} {s₀ s : State} (hP : P &&& 274878431496 = 274878431496) (h : Leaves P s₀ s) (o : OrderRec) (reason : Nat) :
    Leaves P s₀ (State.refuseOpen s o reason) := by
  unfold State.refuseOpen
  repeat' first
    | with_reducible assumption | with_reducible apply State.answer_leaves (part_trans hP (by decide))
    | with_reducible apply State.safetyLog_leaves (part_trans hP (by decide))

theorem execSessionOpen_leaves {P : Nat} {s₀ s : State} (hP : P &&& 377957661448 = 377957661448) (h : Leaves P s₀ s) (o : OrderRec) :
    OutLeaves P s₀ (execSessionOpen o s) := by
  unfold execSessionOpen
  repeat' first
    | with_reducible assumption | with_reducible apply OutLeaves.next
    | with_reducible apply State.answer_leaves (part_trans hP (by decide))
    | with_reducible apply State.refuseOpen_leaves (part_trans hP (by decide))
    | with_reducible apply State.safetyEval_leaves (part_trans hP (by decide))
    | with_reducible apply State.safetyLog_leaves (part_trans hP (by decide))
    | with_reducible apply State.sendConfig_leaves (part_trans hP (by decide))
    | with_reducible apply State.setSafety_leaves (part_trans hP (by decide))
    | with_reducible apply State.showSession_leaves (part_trans hP (by decide))
    | with_reducible apply State.wrongResponse_leaves (part_trans hP (by decide)) | with_reducible apply OutLeaves.ite
    | with_reducible apply Leaves.ite | split | with_reducible intro _ | dsimp only

theorem State.newChallenge_leaves {P : Nat} {s₀ s : State} (hP : P &&& 524808 = 524808) (h : Leaves P s₀ s) :
    Leaves P s₀ (State.newChallenge s) := by
  unfold State.newChallenge
  repeat' first
    | with_reducible assumption | with_reducible apply State.nextFresh_leaves (part_trans hP (by decide))
    | with_reducible apply State.setObj_leaves (part_trans hP (by decide))
    | with_reducible apply State.setSafety_leaves (part_trans hP (by decide)) | with_reducible intro _ | dsimp only

theorem execChallengeExpiry_leaves {P : Nat} {s₀ s : State} (hP : P &&& 524288 = 524288) (h : Leaves P s₀ s) :
    OutLeaves P s₀ (execChallengeExpiry s) := by
  unfold execChallengeExpiry
  repeat' first
    | with_reducible assumption | with_reducible apply OutLeaves.next
    | with_reducible apply State.setSafety_leaves (part_trans hP (by decide)) | with_reducible apply OutLeaves.ite
    | with_reducible apply Leaves.ite | split | with_reducible intro _ | dsimp only

theorem execOpenBlockExpiry_leaves {P : Nat} {s₀ s : State} (hP : P &&& 524288 = 524288) (h : Leaves P s₀ s) :
    OutLeaves P s₀ (execOpenBlockExpiry s) := by
  unfold execOpenBlockExpiry
  repeat' first
    | with_reducible assumption | with_reducible apply OutLeaves.next
    | with_reducible apply State.setSafety_leaves (part_trans hP (by decide)) | with_reducible apply OutLeaves.ite
    | with_reducible apply Leaves.ite | split | with_reducible intro _ | dsimp only

theorem State.closeSession_leaves {P : Nat} {s₀ s : State} (hP : P &&& 274878431240 = 274878431240) (h : Leaves P s₀ s) (node port : Nat) :
    Leaves P s₀ (State.closeSession s node port) := by
  unfold State.closeSession
  repeat' first
    | with_reducible assumption | with_reducible apply State.safetyEval_leaves (part_trans hP (by decide))
    | with_reducible apply State.safetyLog_leaves (part_trans hP (by decide))
    | with_reducible apply State.sendConfig_leaves (part_trans hP (by decide))
    | with_reducible apply State.setSafety_leaves (part_trans hP (by decide))
    | with_reducible apply State.showSession_leaves (part_trans hP (by decide)) | with_reducible apply Leaves.ite
    | split | with_reducible intro _ | dsimp only

theorem execSessionClose_leaves {P : Nat} {s₀ s : State} (hP : P &&& 274878431496 = 274878431496) (h : Leaves P s₀ s) (o : OrderRec) :
    OutLeaves P s₀ (execSessionClose o s) := by
  unfold execSessionClose
  repeat' first
    | with_reducible assumption | with_reducible apply OutLeaves.next
    | with_reducible apply State.answer_leaves (part_trans hP (by decide))
    | with_reducible apply State.closeSession_leaves (part_trans hP (by decide)) | with_reducible apply OutLeaves.ite
    | split | with_reducible intro _

theorem execSessionIdleTimeout_leaves {P : Nat} {s₀ s : State} (hP : P &&& 274878431240 = 274878431240) (h : Leaves P s₀ s) :
    OutLeaves P s₀ (execSessionIdleTimeout s) := by
  unfold execSessionIdleTimeout
  repeat' first
    | with_reducible assumption | with_reducible apply OutLeaves.next
    | with_reducible apply State.closeSession_leaves (part_trans hP (by decide)) | with_reducible apply OutLeaves.ite
    | with_reducible apply Leaves.ite | split | with_reducible intro _

theorem execSeal_leaves {P : Nat} {s₀ s : State} (hP : P &&& 377957661448 = 377957661448) (h : Leaves P s₀ s) (o : OrderRec) :
    OutLeaves P s₀ (execSeal o s) := by
  unfold execSeal
  repeat' first
    | with_reducible assumption | with_reducible apply OutLeaves.next
    | with_reducible apply State.alarmWith_leaves (part_trans hP (by decide))
    | with_reducible apply State.answer_leaves (part_trans hP (by decide))
    | with_reducible apply State.endLostSubs_leaves (part_trans hP (by decide))
    | with_reducible apply State.nextFresh_leaves (part_trans hP (by decide))
    | with_reducible apply State.safetyEval_leaves (part_trans hP (by decide))
    | with_reducible apply State.safetyLog_leaves (part_trans hP (by decide))
    | with_reducible apply State.sendConfig_leaves (part_trans hP (by decide))
    | with_reducible apply State.setObjN_leaves (part_trans hP (by decide))
    | with_reducible apply State.setSafety_leaves (part_trans hP (by decide))
    | with_reducible apply State.showSession_leaves (part_trans hP (by decide)) | with_reducible apply OutLeaves.ite
    | split | with_reducible intro _ | dsimp only

theorem execPassword_leaves {P : Nat} {s₀ s : State} (hP : P &&& 274878431496 = 274878431496) (h : Leaves P s₀ s) (o : OrderRec) :
    OutLeaves P s₀ (execPassword o s) := by
  unfold execPassword
  repeat' first
    | with_reducible assumption | with_reducible apply OutLeaves.next
    | with_reducible apply State.answer_leaves (part_trans hP (by decide))
    | with_reducible apply State.safetyLog_leaves (part_trans hP (by decide))
    | with_reducible apply State.sendConfig_leaves (part_trans hP (by decide))
    | with_reducible apply State.setObjN_leaves (part_trans hP (by decide))
    | with_reducible apply State.setSafety_leaves (part_trans hP (by decide))
    | with_reducible apply State.touchSession_leaves (part_trans hP (by decide)) | with_reducible apply OutLeaves.ite
    | split | with_reducible intro _ | dsimp only

theorem execPasswordReset_leaves {P : Nat} {s₀ s : State} (hP : P &&& 274878431496 = 274878431496) (h : Leaves P s₀ s) (o : OrderRec) :
    OutLeaves P s₀ (execPasswordReset o s) := by
  unfold execPasswordReset
  repeat' first
    | with_reducible assumption | with_reducible apply OutLeaves.next
    | with_reducible apply State.answer_leaves (part_trans hP (by decide))
    | with_reducible apply State.dropObjs_leaves (part_trans hP (by decide))
    | with_reducible apply State.safetyEval_leaves (part_trans hP (by decide))
    | with_reducible apply State.safetyLog_leaves (part_trans hP (by decide))
    | with_reducible apply State.sendConfig_leaves (part_trans hP (by decide))
    | with_reducible apply State.setObjN_leaves (part_trans hP (by decide))
    | with_reducible apply State.setSafety_leaves (part_trans hP (by decide))
    | with_reducible apply State.showSession_leaves (part_trans hP (by decide)) | with_reducible apply OutLeaves.ite
    | split | with_reducible intro _ | dsimp only

theorem execTestDemand_leaves {P : Nat} {s₀ s : State} (hP : P &&& 274878431496 = 274878431496) (h : Leaves P s₀ s) (o : OrderRec) :
    OutLeaves P s₀ (execTestDemand o s) := by
  unfold execTestDemand
  repeat' first
    | with_reducible assumption | with_reducible apply OutLeaves.next
    | with_reducible apply State.answer_leaves (part_trans hP (by decide))
    | with_reducible apply State.safetyEval_leaves (part_trans hP (by decide))
    | with_reducible apply State.safetyLog_leaves (part_trans hP (by decide))
    | with_reducible apply State.sendConfig_leaves (part_trans hP (by decide))
    | with_reducible apply State.setSafety_leaves (part_trans hP (by decide))
    | with_reducible apply State.touchSession_leaves (part_trans hP (by decide)) | with_reducible apply OutLeaves.ite
    | with_reducible apply Leaves.ite | split | with_reducible intro _ | dsimp only

theorem State.safetyChange_leaves {P : Nat} {s₀ s : State} (hP : P &&& 274878431240 = 274878431240) (h : Leaves P s₀ s) (o : OrderRec) (f : Found) :
    Leaves P s₀ (State.safetyChange s o f) := by
  unfold State.safetyChange
  repeat' first
    | with_reducible assumption | with_reducible apply State.safetyLog_leaves (part_trans hP (by decide))
    | with_reducible apply State.sendConfig_leaves (part_trans hP (by decide))
    | with_reducible apply State.setEntry_leaves (part_trans hP (by decide))
    | with_reducible apply State.touchSession_leaves (part_trans hP (by decide)) | dsimp only

end Sys2Proof.Machine
end

