-- ==== Sys2Proof/Laws/LeavesConsequence.lean ====
section
/-! SUPPORT. What each operation of Machine/Consequence.lean leaves. -/

set_option linter.unusedTactic false
set_option linter.unreachableTactic false

namespace Sys2Proof.Machine

theorem State.setCase_leaves {P : Nat} {s₀ s : State} (hP : P &&& 4194304 = 4194304) (h : Leaves P s₀ s) (c : Nat) (f : CaseSt → CaseSt) :
    Leaves P s₀ (State.setCase s c f) := by
  unfold State.setCase
  repeat' first
    | with_reducible assumption | with_reducible apply State.setCa_leaves (part_trans hP (by decide))
    | with_reducible intro _ | dsimp only

theorem State.judgeCase_leaves {P : Nat} {s₀ s : State} (hP : P &&& 655255599660 = 655255599660) (h : Leaves P s₀ s) (c status : Nat) (f : CaseFigures) :
    Leaves P s₀ (State.judgeCase s c status f) := by
  unfold State.judgeCase
  repeat' first
    | with_reducible assumption | with_reducible apply Run.step_leaves (part_trans hP (by decide))
    | with_reducible apply State.setCase_leaves (part_trans hP (by decide)) | with_reducible apply Leaves.ite | split
    | with_reducible intro _ | dsimp only

theorem State.caRelease_leaves {P : Nat} {s₀ s : State} (hP : P &&& 103085513216 = 103085513216) (h : Leaves P s₀ s) :
    Leaves P s₀ (State.caRelease s) := by
  unfold State.caRelease
  repeat' first
    | with_reducible assumption | with_reducible apply State.addFlags_leaves (part_trans hP (by decide))
    | with_reducible apply State.releaseStage_leaves (part_trans hP (by decide))
    | with_reducible apply State.setCa_leaves (part_trans hP (by decide))
    | with_reducible apply State.setCase_leaves (part_trans hP (by decide)) | with_reducible apply Leaves.ite
    | with_reducible apply Leaves.foldl | with_reducible apply Leaves.foldl_fst | with_reducible apply Leaves.getD
    | split | with_reducible intro _ | dsimp only

theorem execCaRelease_leaves {P : Nat} {s₀ s : State} (hP : P &&& 103085513216 = 103085513216) (h : Leaves P s₀ s) :
    OutLeaves P s₀ (execCaRelease s) := by
  unfold execCaRelease
  repeat' first
    | with_reducible assumption | with_reducible apply OutLeaves.next
    | with_reducible apply State.caRelease_leaves (part_trans hP (by decide)) | with_reducible apply OutLeaves.ite
    | with_reducible apply Leaves.ite | split | with_reducible intro _

theorem State.ageCase_leaves {P : Nat} {s₀ s : State} (hP : P &&& 103083424264 = 103083424264) (h : Leaves P s₀ s) (c : Nat) :
    Leaves P s₀ (State.ageCase s c) := by
  unfold State.ageCase
  repeat' first
    | with_reducible assumption | with_reducible apply State.alarm_leaves (part_trans hP (by decide))
    | with_reducible apply State.setCase_leaves (part_trans hP (by decide)) | with_reducible apply Leaves.ite | split
    | with_reducible intro _ | dsimp only

theorem execCaPublication_leaves {P : Nat} {s₀ s : State} (hP : P &&& 103085521452 = 103085521452) (h : Leaves P s₀ s) (scratch : Word) :
    OutLeaves P s₀ (execCaPublication scratch s) := by
  unfold execCaPublication
  repeat' first
    | with_reducible assumption | with_reducible apply OutLeaves.next
    | with_reducible apply State.addFlags_leaves (part_trans hP (by decide))
    | with_reducible apply State.ageCase_leaves (part_trans hP (by decide))
    | with_reducible apply State.alarm_leaves (part_trans hP (by decide))
    | with_reducible apply State.gristPut_leaves (part_trans hP (by decide))
    | with_reducible apply State.setCa_leaves (part_trans hP (by decide)) | with_reducible apply OutLeaves.ite
    | with_reducible apply Leaves.ite | with_reducible apply Leaves.foldl | with_reducible apply Leaves.foldl_fst
    | split | with_reducible intro _ | dsimp only

theorem State.afterCa_leaves {P : Nat} {s₀ s : State} (hP : P &&& 103083948552 = 103083948552) (h : Leaves P s₀ s) (a flags : Nat) :
    Leaves P s₀ (State.afterCa s a flags) := by
  unfold State.afterCa
  repeat' first
    | with_reducible assumption | with_reducible apply State.alarm_leaves (part_trans hP (by decide))
    | with_reducible apply State.event_leaves (part_trans hP (by decide))
    | with_reducible apply State.sendMail_leaves (part_trans hP (by decide))
    | with_reducible apply State.setCa_leaves (part_trans hP (by decide))
    | with_reducible apply State.setObjN_leaves (part_trans hP (by decide)) | with_reducible apply Leaves.ite
    | with_reducible apply Leaves.foldl | with_reducible apply Leaves.getD | split | with_reducible intro _
    | dsimp only

end Sys2Proof.Machine
end

