-- ==== Sys2Proof/Laws/LeavesLoop.lean ====
section
/-! SUPPORT. What each operation of Machine/Loop.lean leaves. -/

set_option linter.unusedTactic false
set_option linter.unreachableTactic false

namespace Sys2Proof.Machine

theorem State.setSlot_leaves {P : Nat} {s₀ s : State} (hP : P &&& 268566528 = 268566528) (h : Leaves P s₀ s) (i : Nat) (f : SlotSt → SlotSt) :
    Leaves P s₀ (State.setSlot s i f) := by
  unfold State.setSlot
  repeat' first
    | with_reducible assumption | with_reducible exact cov_trans hP (by decide)
    | with_reducible apply State.put_leaves | with_reducible apply State.setLoop_leaves (part_trans hP (by decide))
    | with_reducible apply State.wr_leaves | with_reducible intro _ | dsimp only

theorem State.recheck_leaves {P : Nat} {s₀ s : State} (hP : P &&& 103347665416 = 103347665416) (h : Leaves P s₀ s) :
    Leaves P s₀ (State.recheck s) := by
  unfold State.recheck
  repeat' first
    | with_reducible assumption | with_reducible exact cov_trans hP (by decide)
    | with_reducible apply State.alarm_leaves (part_trans hP (by decide)) | with_reducible apply State.put_leaves
    | with_reducible apply State.raise_leaves | with_reducible apply State.wr_leaves | with_reducible apply Leaves.ite
    | with_reducible apply Leaves.foldl | with_reducible apply Leaves.foldl_fst
    | with_reducible apply Leaves.foldl_snd | with_reducible apply Leaves.of_fst ‹_› | split | with_reducible intro _
    | dsimp only

theorem execLeRecheck_leaves {P : Nat} {s₀ s : State} (hP : P &&& 103347665416 = 103347665416) (h : Leaves P s₀ s) :
    OutLeaves P s₀ (execLeRecheck s) := by
  unfold execLeRecheck
  repeat' first
    | with_reducible assumption | with_reducible apply OutLeaves.next
    | with_reducible apply State.recheck_leaves (part_trans hP (by decide)) | with_reducible intro _

theorem State.setWord_leaves {P : Nat} {s₀ s : State} (hP : P &&& 268435456 = 268435456) (h : Leaves P s₀ s) (a : Nat) (z : Int) :
    Leaves P s₀ (State.setWord s a z) := by
  unfold State.setWord
  repeat' first
    | with_reducible assumption | with_reducible exact cov_trans hP (by decide) | with_reducible apply State.wr_leaves

theorem State.setGen_leaves {P : Nat} {s₀ s : State} (hP : P &&& 131072 = 131072) (h : Leaves P s₀ s) (g : Nat) (f : GenSt → GenSt) :
    Leaves P s₀ (State.setGen s g f) := by
  unfold State.setGen
  repeat' first
    | with_reducible assumption | with_reducible apply State.setLoop_leaves (part_trans hP (by decide))
    | with_reducible intro _ | dsimp only

theorem State.genStop_leaves {P : Nat} {s₀ s : State} (hP : P &&& 268566528 = 268566528) (h : Leaves P s₀ s) (g : Nat) :
    Leaves P s₀ (State.genStop s g) := by
  unfold State.genStop
  repeat' first
    | with_reducible assumption | with_reducible exact cov_trans hP (by decide)
    | with_reducible apply State.raise_leaves | with_reducible apply State.setGen_leaves (part_trans hP (by decide))
    | with_reducible apply State.setWord_leaves (part_trans hP (by decide)) | with_reducible apply State.wr_leaves
    | with_reducible apply Leaves.ite | split | with_reducible intro _ | dsimp only

theorem State.genStopOf_leaves {P : Nat} {s₀ s : State} (hP : P &&& 268566528 = 268566528) (h : Leaves P s₀ s) (slot : Option Nat) :
    Leaves P s₀ (State.genStopOf s slot) := by
  unfold State.genStopOf
  repeat' first
    | with_reducible assumption | with_reducible apply State.genStop_leaves (part_trans hP (by decide))
    | with_reducible apply Leaves.ite | with_reducible apply Leaves.foldl | split | with_reducible intro _
    | dsimp only

theorem State.genTrigger_leaves {P : Nat} {s₀ s : State} (hP : P &&& 584384135176 = 584384135176) (h : Leaves P s₀ s) (g app : Nat) :
    Leaves P s₀ (State.genTrigger s g app) := by
  unfold State.genTrigger
  repeat' first
    | with_reducible assumption | with_reducible exact cov_trans hP (by decide)
    | with_reducible apply State.count_leaves (part_trans hP (by decide))
    | with_reducible apply State.genStop_leaves (part_trans hP (by decide))
    | with_reducible apply State.hold_leaves (part_trans hP (by decide)) | with_reducible apply State.put_leaves
    | with_reducible apply State.setGen_leaves (part_trans hP (by decide))
    | with_reducible apply State.setWord_leaves (part_trans hP (by decide)) | with_reducible apply State.wr_leaves
    | with_reducible apply Leaves.ite | with_reducible apply Leaves.getD | split | with_reducible intro _ | dsimp only

theorem State.gensAt_leaves {P : Nat} {s₀ s : State} (hP : P &&& 584384135176 = 584384135176) (h : Leaves P s₀ s) (slot app : Nat) :
    Leaves P s₀ (State.gensAt s slot app) := by
  unfold State.gensAt
  repeat' first
    | with_reducible assumption | with_reducible apply State.genTrigger_leaves (part_trans hP (by decide))
    | with_reducible apply Leaves.ite | with_reducible apply Leaves.foldl | split | with_reducible intro _
    | dsimp only

theorem execGeneratorStart_leaves {P : Nat} {s₀ s : State} (hP : P &&& 268566784 = 268566784) (h : Leaves P s₀ s) (g : Fin 8) :
    OutLeaves P s₀ (execGeneratorStart g s) := by
  unfold execGeneratorStart
  repeat' first
    | with_reducible assumption | with_reducible exact cov_trans hP (by decide) | with_reducible apply OutLeaves.next
    | with_reducible apply State.answer_leaves (part_trans hP (by decide)) | with_reducible apply State.raise_leaves
    | with_reducible apply State.setGen_leaves (part_trans hP (by decide)) | with_reducible apply State.wr_leaves
    | with_reducible apply OutLeaves.ite | split | with_reducible intro _ | dsimp only

theorem execGeneratorStop_leaves {P : Nat} {s₀ s : State} (hP : P &&& 268566784 = 268566784) (h : Leaves P s₀ s) (g : Fin 8) :
    OutLeaves P s₀ (execGeneratorStop g s) := by
  unfold execGeneratorStop
  repeat' first
    | with_reducible assumption | with_reducible apply OutLeaves.next
    | with_reducible apply State.answer_leaves (part_trans hP (by decide))
    | with_reducible apply State.genStop_leaves (part_trans hP (by decide)) | with_reducible intro _

theorem execGeneratorEnd_leaves {P : Nat} {s₀ s : State} (hP : P &&& 268566528 = 268566528) (h : Leaves P s₀ s) (g : Fin 8) :
    OutLeaves P s₀ (execGeneratorEnd g s) := by
  unfold execGeneratorEnd
  repeat' first
    | with_reducible assumption | with_reducible apply OutLeaves.next
    | with_reducible apply State.genStop_leaves (part_trans hP (by decide)) | with_reducible intro _

theorem State.installStaged_leaves {P : Nat} {s₀ s : State} (hP : P &&& 103347796488 = 103347796488) (h : Leaves P s₀ s) (i : Nat) :
    Leaves P s₀ (State.installStaged s i) := by
  unfold State.installStaged
  repeat' first
    | with_reducible assumption | with_reducible exact cov_trans hP (by decide)
    | with_reducible apply State.recheck_leaves (part_trans hP (by decide))
    | with_reducible apply State.setSlot_leaves (part_trans hP (by decide)) | with_reducible apply State.wr_leaves
    | with_reducible apply Leaves.ite | split | with_reducible intro _ | dsimp only

theorem State.trigger_leaves {P : Nat} {s₀ s : State} (hP : P &&& 653103626760 = 653103626760) (h : Leaves P s₀ s) (i t : Nat) :
    Leaves P s₀ (State.trigger s i t) := by
  unfold State.trigger
  repeat' first
    | with_reducible assumption | with_reducible exact cov_trans hP (by decide)
    | with_reducible apply State.count_leaves (part_trans hP (by decide))
    | with_reducible apply State.event_leaves (part_trans hP (by decide))
    | with_reducible apply State.gensAt_leaves (part_trans hP (by decide)) | with_reducible apply State.incSat_leaves
    | with_reducible apply State.installStaged_leaves (part_trans hP (by decide))
    | with_reducible apply State.raise_leaves | with_reducible apply State.setSlot_leaves (part_trans hP (by decide))
    | with_reducible apply Leaves.ite | split | with_reducible intro _ | dsimp only

theorem State.triggerKind_leaves {P : Nat} {s₀ s : State} (hP : P &&& 653103626760 = 653103626760) (h : Leaves P s₀ s) (kind : Nat) (p : Nat → Bool) (t : Nat) :
    Leaves P s₀ (State.triggerKind s kind p t) := by
  unfold State.triggerKind
  repeat' first
    | with_reducible assumption | with_reducible apply State.trigger_leaves (part_trans hP (by decide))
    | with_reducible apply Leaves.ite | with_reducible apply Leaves.foldl | with_reducible apply Leaves.foldl_fst
    | with_reducible apply Leaves.foldl_snd | split | with_reducible intro _ | dsimp only

theorem execTimeTrigger_leaves {P : Nat} {s₀ s : State} (hP : P &&& 653103626760 = 653103626760) (h : Leaves P s₀ s) (slot : Fin 256) :
    OutLeaves P s₀ (execTimeTrigger slot s) := by
  unfold execTimeTrigger
  repeat' first
    | with_reducible assumption | with_reducible apply OutLeaves.next
    | with_reducible apply State.trigger_leaves (part_trans hP (by decide)) | with_reducible apply OutLeaves.ite
    | with_reducible apply Leaves.ite | split | with_reducible intro _ | dsimp only

theorem execLeSwTrig_leaves {P : Nat} {s₀ s : State} (hP : P &&& 653103626760 = 653103626760) (h : Leaves P s₀ s) (_core : Fin 4) (v : Word) :
    OutLeaves P s₀ (execLeSwTrig _core v s) := by
  unfold execLeSwTrig
  repeat' first
    | with_reducible assumption | with_reducible apply OutLeaves.next
    | with_reducible apply State.trigger_leaves (part_trans hP (by decide)) | with_reducible apply OutLeaves.ite
    | split | with_reducible intro _ | dsimp only

theorem State.setCap_leaves {P : Nat} {s₀ s : State} (hP : P &&& 131072 = 131072) (h : Leaves P s₀ s) (c : Nat) (f : CapSt → CapSt) :
    Leaves P s₀ (State.setCap s c f) := by
  unfold State.setCap
  repeat' first
    | with_reducible assumption | with_reducible apply State.setLoop_leaves (part_trans hP (by decide))
    | with_reducible intro _ | dsimp only

theorem State.capDone_leaves {P : Nat} {s₀ s : State} (hP : P &&& 268435456 = 268435456) (h : Leaves P s₀ s) (c : Nat) :
    Leaves P s₀ (State.capDone s c) := by
  unfold State.capDone
  repeat' first
    | with_reducible assumption | with_reducible exact cov_trans hP (by decide)
    | with_reducible apply State.raise_leaves | with_reducible apply State.wr_leaves

theorem State.capStop_leaves {P : Nat} {s₀ s : State} (hP : P &&& 268566528 = 268566528) (h : Leaves P s₀ s) (c : Nat) :
    Leaves P s₀ (State.capStop s c) := by
  unfold State.capStop
  repeat' first
    | with_reducible assumption | with_reducible apply State.capDone_leaves (part_trans hP (by decide))
    | with_reducible apply State.setCap_leaves (part_trans hP (by decide)) | with_reducible apply Leaves.ite | split
    | with_reducible intro _ | dsimp only

theorem State.capture_leaves {P : Nat} {s₀ s : State} (hP : P &&& 268566564 = 268566564) (h : Leaves P s₀ s) (i c : Nat) (a b : Int) (stop : Bool) (t : Nat) :
    Leaves P s₀ (State.capture s i c a b stop t) := by
  unfold State.capture
  repeat' first
    | with_reducible assumption | with_reducible exact cov_trans hP (by decide)
    | with_reducible apply State.capDone_leaves (part_trans hP (by decide))
    | with_reducible apply State.capStop_leaves (part_trans hP (by decide))
    | with_reducible apply State.gristPut_leaves (part_trans hP (by decide))
    | with_reducible apply State.incSat_leaves | with_reducible apply State.put_leaves
    | with_reducible apply State.raise_leaves | with_reducible apply State.setCap_leaves (part_trans hP (by decide))
    | with_reducible apply State.wr_leaves | with_reducible apply Leaves.ite | split | with_reducible intro _
    | dsimp only

theorem execCaptureArm_leaves {P : Nat} {s₀ s : State} (hP : P &&& 268566528 = 268566528) (h : Leaves P s₀ s) (c : Fin 16) :
    OutLeaves P s₀ (execCaptureArm c s) := by
  unfold execCaptureArm
  repeat' first
    | with_reducible assumption | with_reducible exact cov_trans hP (by decide) | with_reducible apply OutLeaves.next
    | with_reducible apply State.raise_leaves | with_reducible apply State.setCap_leaves (part_trans hP (by decide))
    | with_reducible apply State.wr_leaves | with_reducible apply OutLeaves.ite | split | with_reducible intro _
    | dsimp only

theorem execCaptureStop_leaves {P : Nat} {s₀ s : State} (hP : P &&& 268566528 = 268566528) (h : Leaves P s₀ s) (c : Fin 16) :
    OutLeaves P s₀ (execCaptureStop c s) := by
  unfold execCaptureStop
  repeat' first
    | with_reducible assumption | with_reducible apply OutLeaves.next
    | with_reducible apply State.capStop_leaves (part_trans hP (by decide)) | with_reducible intro _

theorem State.satHit_leaves {P : Nat} {s₀ s : State} (hP : P &&& 34628173824 = 34628173824) (h : Leaves P s₀ s) (i n : Nat) :
    Leaves P s₀ (State.satHit s i n) := by
  unfold State.satHit
  repeat' first
    | with_reducible assumption | with_reducible exact cov_trans hP (by decide)
    | with_reducible apply State.count_leaves (part_trans hP (by decide)) | with_reducible apply State.incSat_leaves
    | with_reducible apply Leaves.ite | split | with_reducible intro _

theorem Run.release_leaves {P : Nat} {s₀ : State} {r : Run} (hP : P &&& 36776083492 = 36776083492) (h : Leaves P s₀ r.s) (t : Nat) :
    Leaves P s₀ (Run.release r t).s := by
  unfold Run.release
  repeat' first
    | with_reducible assumption | with_reducible exact cov_trans hP (by decide)
    | with_reducible apply State.count_leaves (part_trans hP (by decide))
    | with_reducible apply State.gristPut_leaves (part_trans hP (by decide)) | with_reducible apply State.put_leaves
    | with_reducible apply State.satHit_leaves (part_trans hP (by decide))
    | with_reducible apply State.sendCommand_leaves (part_trans hP (by decide))
    | with_reducible apply State.setLoop_leaves (part_trans hP (by decide))
    | with_reducible apply State.setWord_leaves (part_trans hP (by decide)) | with_reducible apply State.wr_leaves
    | with_reducible apply Leaves.ite | with_reducible apply Leaves.foldl | with_reducible apply Leaves.foldl_fst
    | with_reducible apply Leaves.foldl_snd | with_reducible apply Leaves.getD | split | with_reducible intro _
    | dsimp only

theorem Run.write_leaves {P : Nat} {s₀ : State} {r : Run} (hP : P &&& 36776083492 = 36776083492) (h : Leaves P s₀ r.s) (d : Nat) (z : Int) :
    Leaves P s₀ (Run.write r d z).s := by
  unfold Run.write
  repeat' first
    | with_reducible assumption | with_reducible exact cov_trans hP (by decide)
    | with_reducible apply Run.release_leaves (part_trans hP (by decide)) | with_reducible apply State.put_leaves
    | with_reducible apply State.setWord_leaves (part_trans hP (by decide)) | with_reducible apply Leaves.ite | split
    | with_reducible intro _ | dsimp only

theorem Run.store_leaves {P : Nat} {s₀ : State} {r : Run} (hP : P &&& 36776083492 = 36776083492) (h : Leaves P s₀ r.s) (w : Bool) (d : Nat) (z : Int) :
    Leaves P s₀ (Run.store r w d z).s := by
  unfold Run.store
  repeat' first
    | with_reducible assumption | with_reducible apply Run.write_leaves (part_trans hP (by decide))
    | with_reducible apply State.satHit_leaves (part_trans hP (by decide)) | with_reducible apply Leaves.ite | split
    | with_reducible intro _

theorem Run.setAcc_leaves {P : Nat} {s₀ : State} {r : Run} (h : Leaves P s₀ r.s) (ac : Bool) (z : Int) :
    Leaves P s₀ (Run.setAcc r ac z).s := by
  unfold Run.setAcc
  repeat' first
    | with_reducible assumption | with_reducible apply Leaves.ite | split | with_reducible intro _

theorem Run.accumulate_leaves {P : Nat} {s₀ : State} {r : Run} (hP : P &&& 34628173824 = 34628173824) (h : Leaves P s₀ r.s) (ac : Bool) (z : Int) :
    Leaves P s₀ (Run.accumulate r ac z).s := by
  unfold Run.accumulate
  repeat' first
    | with_reducible assumption | with_reducible apply Run.setAcc_leaves
    | with_reducible apply State.satHit_leaves (part_trans hP (by decide)) | with_reducible apply Leaves.ite | split
    | with_reducible intro _ | dsimp only

theorem Run.step_leaves {P : Nat} {s₀ : State} {r : Run} (hP : P &&& 655251405356 = 655251405356) (h : Leaves P s₀ r.s) (x : StepWord) :
    Leaves P s₀ (Run.step r x).1.s := by
  unfold Run.step
  repeat' first
    | with_reducible assumption | with_reducible apply Run.accumulate_leaves (part_trans hP (by decide))
    | with_reducible apply Run.setAcc_leaves | with_reducible apply Run.store_leaves (part_trans hP (by decide))
    | with_reducible apply Run.write_leaves (part_trans hP (by decide))
    | with_reducible apply State.capture_leaves (part_trans hP (by decide))
    | with_reducible apply State.trigger_leaves (part_trans hP (by decide))
    | with_reducible apply State.triggerKind_leaves (part_trans hP (by decide)) | with_reducible apply Leaves.ite
    | split | with_reducible intro _ | dsimp only

theorem Run.go_leaves {P : Nat} {s₀ : State} {r : Run} (hP : P &&& 655251405356 = 655251405356) (h : Leaves P s₀ r.s) (n : Nat)
    (ws : List Nat) : Leaves P s₀ (Run.go n ws r).s := by
  induction n generalizing ws r with
  | zero => exact h
  | succ n ih =>
    cases ws with
    | nil => exact h
    | cons w ws => exact ih (Run.step_leaves (part_trans hP (by decide)) h _) _

theorem State.datapathFault_leaves {P : Nat} {s₀ s : State} (hP : P &&& 103347796488 = 103347796488) (h : Leaves P s₀ s) :
    Leaves P s₀ (State.datapathFault s) := by
  unfold State.datapathFault
  repeat' first
    | with_reducible assumption | with_reducible exact cov_trans hP (by decide)
    | with_reducible apply State.alarm_leaves (part_trans hP (by decide)) | with_reducible apply State.raise_leaves
    | with_reducible apply State.setSlot_leaves (part_trans hP (by decide)) | with_reducible apply State.wr_leaves
    | with_reducible apply Leaves.foldl | with_reducible apply Leaves.foldl_fst | with_reducible intro _ | dsimp only

theorem State.loopRetire_leaves {P : Nat} {s₀ s : State} (hP : P &&& 103347796488 = 103347796488) (h : Leaves P s₀ s) (i : Nat) :
    Leaves P s₀ (State.loopRetire s i) := by
  unfold State.loopRetire
  repeat' first
    | with_reducible assumption | with_reducible exact cov_trans hP (by decide)
    | with_reducible apply State.genStopOf_leaves (part_trans hP (by decide))
    | with_reducible apply State.raise_leaves | with_reducible apply State.recheck_leaves (part_trans hP (by decide))
    | with_reducible apply State.setSlot_leaves (part_trans hP (by decide)) | with_reducible apply Leaves.ite | split
    | with_reducible intro _ | dsimp only

theorem State.drainEnd_leaves {P : Nat} {s₀ s : State} (hP : P &&& 103347796488 = 103347796488) (h : Leaves P s₀ s) (i : Nat) :
    Leaves P s₀ (State.drainEnd s i) := by
  unfold State.drainEnd
  repeat' first
    | with_reducible assumption | with_reducible apply State.recheck_leaves (part_trans hP (by decide))
    | with_reducible apply State.setSlot_leaves (part_trans hP (by decide))
    | with_reducible apply State.unitTesting_leaves (part_trans hP (by decide)) | with_reducible apply Leaves.ite
    | split | with_reducible intro _ | dsimp only

theorem State.noteLate_leaves {P : Nat} {s₀ s : State} (hP : P &&& 103347829256 = 103347829256) (h : Leaves P s₀ s) (i : Nat) (late : Bool) :
    Leaves P s₀ (State.noteLate s i late) := by
  unfold State.noteLate
  repeat' first
    | with_reducible assumption | with_reducible exact cov_trans hP (by decide)
    | with_reducible apply State.alarm_leaves (part_trans hP (by decide))
    | with_reducible apply State.count_leaves (part_trans hP (by decide)) | with_reducible apply State.incSat_leaves
    | with_reducible apply State.put_leaves | with_reducible apply State.raise_leaves
    | with_reducible apply State.setClaims_leaves (part_trans hP (by decide))
    | with_reducible apply State.setObjN_leaves (part_trans hP (by decide))
    | with_reducible apply State.setSlot_leaves (part_trans hP (by decide)) | with_reducible apply Leaves.ite | split
    | with_reducible intro _ | dsimp only

theorem State.runActivation_leaves {P : Nat} {s₀ s : State} (hP : P &&& 655251405356 = 655251405356) (h : Leaves P s₀ s) (i : Nat) (a : Activation) :
    Leaves P s₀ (State.runActivation s i a) := by
  unfold State.runActivation
  repeat' first
    | with_reducible assumption | with_reducible exact cov_trans hP (by decide)
    | with_reducible apply Run.go_leaves (part_trans hP (by decide))
    | with_reducible apply State.count_leaves (part_trans hP (by decide))
    | with_reducible apply State.drainEnd_leaves (part_trans hP (by decide))
    | with_reducible apply State.latency_leaves (part_trans hP (by decide))
    | with_reducible apply State.noteLate_leaves (part_trans hP (by decide))
    | with_reducible apply State.noteTraj_leaves (part_trans hP (by decide))
    | with_reducible apply State.selectTraj_leaves (part_trans hP (by decide))
    | with_reducible apply State.setSlot_leaves (part_trans hP (by decide))
    | with_reducible apply State.trigger_leaves (part_trans hP (by decide)) | with_reducible apply State.wr_leaves
    | with_reducible intro _ | dsimp only

theorem execActivationComplete_leaves {P : Nat} {s₀ s : State} (hP : P &&& 655251405356 = 655251405356) (h : Leaves P s₀ s) (failures : Fin 4) :
    OutLeaves P s₀ (execActivationComplete failures s) := by
  unfold execActivationComplete
  repeat' first
    | with_reducible assumption | with_reducible apply OutLeaves.next
    | with_reducible apply State.datapathFault_leaves (part_trans hP (by decide))
    | with_reducible apply State.loopRetire_leaves (part_trans hP (by decide))
    | with_reducible apply State.retireUnit_leaves (part_trans hP (by decide))
    | with_reducible apply State.runActivation_leaves (part_trans hP (by decide))
    | with_reducible apply State.unitTransient_leaves (part_trans hP (by decide)) | with_reducible apply OutLeaves.ite
    | with_reducible apply Leaves.foldl | with_reducible apply Leaves.foldl_fst
    | with_reducible apply Leaves.foldl_snd | with_reducible apply Leaves.of_fst ‹_› | split | with_reducible intro _
    | dsimp only

theorem execSlotCommit_leaves {P : Nat} {s₀ s : State} (hP : P &&& 103347796744 = 103347796744) (h : Leaves P s₀ s) (slot : Fin 256) :
    OutLeaves P s₀ (execSlotCommit slot s) := by
  unfold execSlotCommit
  repeat' first
    | with_reducible assumption | with_reducible apply OutLeaves.next
    | with_reducible apply State.answer_leaves (part_trans hP (by decide))
    | with_reducible apply State.installStaged_leaves (part_trans hP (by decide))
    | with_reducible apply State.setSlot_leaves (part_trans hP (by decide)) | with_reducible apply OutLeaves.ite
    | split | with_reducible intro _ | dsimp only

theorem execCommitInstall_leaves {P : Nat} {s₀ s : State} (hP : P &&& 103347796488 = 103347796488) (h : Leaves P s₀ s) (slot : Fin 256) :
    OutLeaves P s₀ (execCommitInstall slot s) := by
  unfold execCommitInstall
  repeat' first
    | with_reducible assumption | with_reducible apply OutLeaves.next
    | with_reducible apply State.installStaged_leaves (part_trans hP (by decide)) | with_reducible intro _

theorem execSlotEnable_leaves {P : Nat} {s₀ s : State} (hP : P &&& 103347796744 = 103347796744) (h : Leaves P s₀ s) (slot : Fin 256) (on : Bool) :
    OutLeaves P s₀ (execSlotEnable slot on s) := by
  unfold execSlotEnable
  repeat' first
    | with_reducible assumption | with_reducible apply OutLeaves.next
    | with_reducible apply State.answer_leaves (part_trans hP (by decide))
    | with_reducible apply State.drainEnd_leaves (part_trans hP (by decide))
    | with_reducible apply State.genStopOf_leaves (part_trans hP (by decide))
    | with_reducible apply State.recheck_leaves (part_trans hP (by decide))
    | with_reducible apply State.setObjN_leaves (part_trans hP (by decide))
    | with_reducible apply State.setSlot_leaves (part_trans hP (by decide)) | with_reducible apply OutLeaves.ite
    | split | with_reducible intro _ | dsimp only

theorem State.shadowPut_leaves {P : Nat} {s₀ s : State} (hP : P &&& 655251405356 = 655251405356) (h : Leaves P s₀ s) (i step w : Nat) :
    Leaves P s₀ (State.shadowPut s i step w) := by
  unfold State.shadowPut
  repeat' first
    | with_reducible assumption | with_reducible exact cov_trans hP (by decide)
    | with_reducible apply Run.step_leaves (part_trans hP (by decide)) | with_reducible apply State.put_leaves
    | with_reducible apply State.raise_leaves | with_reducible apply State.setLoop_leaves (part_trans hP (by decide))
    | with_reducible intro _ | dsimp only

theorem execLeProgAccess_leaves {P : Nat} {s₀ s : State} (hP : P &&& 655251405420 = 655251405420) (h : Leaves P s₀ s) (core : Fin 4) (write : Option Word) :
    OutLeaves P s₀ (execLeProgAccess core write s) := by
  unfold execLeProgAccess
  repeat' first
    | with_reducible assumption | with_reducible exact cov_trans hP (by decide) | with_reducible apply OutLeaves.next
    | with_reducible apply Run.write_leaves (part_trans hP (by decide)) | with_reducible apply State.put_leaves
    | with_reducible apply State.shadowPut_leaves (part_trans hP (by decide)) | with_reducible apply State.wr_leaves
    | with_reducible apply OutLeaves.ite | with_reducible apply Leaves.ite | split | with_reducible intro _
    | dsimp only | with_reducible apply Leaves.set_readData (part_trans hP (by decide))

theorem State.loadProgram_leaves {P : Nat} {s₀ s : State} (hP : P &&& 268566528 = 268566528) (h : Leaves P s₀ s) (i : Nat) (b : List Byte) :
    Leaves P s₀ (State.loadProgram s i b) := by
  unfold State.loadProgram
  repeat' first
    | with_reducible assumption | with_reducible exact cov_trans hP (by decide)
    | with_reducible apply State.raise_leaves | with_reducible apply State.setLoop_leaves (part_trans hP (by decide))
    | with_reducible apply State.wr_leaves | with_reducible intro _ | dsimp only

theorem State.copySlot_leaves {P : Nat} {s₀ s : State} (hP : P &&& 268566528 = 268566528) (h : Leaves P s₀ s) (src dst : Nat) (mode : SlotMode) (stands : Option Nat) :
    Leaves P s₀ (State.copySlot s src dst mode stands) := by
  unfold State.copySlot
  repeat' first
    | with_reducible assumption | with_reducible apply State.setSlot_leaves (part_trans hP (by decide))
    | with_reducible intro _ | dsimp only

theorem execSlotHandover_leaves {P : Nat} {s₀ s : State} (hP : P &&& 103347796488 = 103347796488) (h : Leaves P s₀ s) (slot : Fin 256) :
    OutLeaves P s₀ (execSlotHandover slot s) := by
  unfold execSlotHandover
  repeat' first
    | with_reducible assumption | with_reducible apply OutLeaves.next
    | with_reducible apply State.copySlot_leaves (part_trans hP (by decide))
    | with_reducible apply State.genStopOf_leaves (part_trans hP (by decide))
    | with_reducible apply State.recheck_leaves (part_trans hP (by decide))
    | with_reducible apply State.setSlot_leaves (part_trans hP (by decide))
    | with_reducible apply State.unitTesting_leaves (part_trans hP (by decide)) | with_reducible apply OutLeaves.ite
    | with_reducible apply Leaves.ite | split | with_reducible intro _ | dsimp only

theorem State.slotTestStart_leaves {P : Nat} {s₀ s : State} (hP : P &&& 103347796488 = 103347796488) (h : Leaves P s₀ s) (i : Nat) :
    Leaves P s₀ (State.slotTestStart s i) := by
  unfold State.slotTestStart
  repeat' first
    | with_reducible assumption | with_reducible apply State.drainEnd_leaves (part_trans hP (by decide))
    | with_reducible apply State.genStopOf_leaves (part_trans hP (by decide))
    | with_reducible apply State.setSlot_leaves (part_trans hP (by decide))
    | with_reducible apply State.unitTesting_leaves (part_trans hP (by decide)) | with_reducible apply Leaves.ite
    | split | with_reducible intro _ | dsimp only

theorem execSlotServiceTest_leaves {P : Nat} {s₀ s : State} (hP : P &&& 103347796744 = 103347796744) (h : Leaves P s₀ s) (slot : Fin 256) :
    OutLeaves P s₀ (execSlotServiceTest slot s) := by
  unfold execSlotServiceTest
  repeat' first
    | with_reducible assumption | with_reducible apply OutLeaves.next
    | with_reducible apply State.answer_leaves (part_trans hP (by decide))
    | with_reducible apply State.slotTestStart_leaves (part_trans hP (by decide)) | with_reducible apply OutLeaves.ite
    | split | with_reducible intro _

theorem execSlotSelfTestDone_leaves {P : Nat} {s₀ s : State} (hP : P &&& 103347796488 = 103347796488) (h : Leaves P s₀ s) (slot : Fin 256) (pass : Bool) :
    OutLeaves P s₀ (execSlotSelfTestDone slot pass s) := by
  unfold execSlotSelfTestDone
  repeat' first
    | with_reducible assumption | with_reducible exact cov_trans hP (by decide) | with_reducible apply OutLeaves.next
    | with_reducible apply State.loopRetire_leaves (part_trans hP (by decide))
    | with_reducible apply State.raise_leaves | with_reducible apply State.setSlot_leaves (part_trans hP (by decide))
    | with_reducible apply State.unitTested_leaves (part_trans hP (by decide)) | with_reducible apply OutLeaves.ite
    | split | with_reducible intro _ | dsimp only

theorem State.slotReturn_leaves {P : Nat} {s₀ s : State} (hP : P &&& 103347796488 = 103347796488) (h : Leaves P s₀ s) (i : Nat) :
    Leaves P s₀ (State.slotReturn s i) := by
  unfold State.slotReturn
  repeat' first
    | with_reducible assumption | with_reducible apply State.recheck_leaves (part_trans hP (by decide))
    | with_reducible apply State.setSlot_leaves (part_trans hP (by decide))
    | with_reducible apply State.unitReturned_leaves (part_trans hP (by decide)) | with_reducible apply Leaves.ite
    | split | with_reducible intro _ | dsimp only

theorem execSlotServiceReturn_leaves {P : Nat} {s₀ s : State} (hP : P &&& 103347796744 = 103347796744) (h : Leaves P s₀ s) (slot : Fin 256) :
    OutLeaves P s₀ (execSlotServiceReturn slot s) := by
  unfold execSlotServiceReturn
  repeat' first
    | with_reducible assumption | with_reducible apply OutLeaves.next
    | with_reducible apply State.answer_leaves (part_trans hP (by decide))
    | with_reducible apply State.slotReturn_leaves (part_trans hP (by decide)) | with_reducible apply OutLeaves.ite
    | split | with_reducible intro _

end Sys2Proof.Machine
end

