-- ==== Sys2Proof/Laws/LeavesLauter.lean ====
section
/-! SUPPORT. What each operation of Machine/Lauter.lean leaves. -/

set_option linter.unusedTactic false
set_option linter.unreachableTactic false

namespace Sys2Proof.Machine

theorem State.setSc_leaves {P : Nat} {s₀ s : State} (hP : P &&& 8388608 = 8388608) (h : Leaves P s₀ s) (c : Nat) (f : ScChan → ScChan) :
    Leaves P s₀ (State.setSc s c f) := by
  unfold State.setSc
  repeat' first
    | with_reducible assumption | dsimp only | with_reducible apply Leaves.set_lauter (part_trans hP (by decide))

theorem State.scValid_leaves {P : Nat} {s₀ s : State} (hP : P &&& 268435456 = 268435456) (h : Leaves P s₀ s) (c : Nat) (b : Bool) :
    Leaves P s₀ (State.scValid s c b) := by
  unfold State.scValid
  repeat' first
    | with_reducible assumption | with_reducible apply State.setWord_leaves (part_trans hP (by decide))

theorem State.ltCount_leaves {P : Nat} {s₀ s : State} (hP : P &&& 134217728 = 134217728) (h : Leaves P s₀ s) :
    Leaves P s₀ (State.ltCount s) := by
  unfold State.ltCount
  repeat' first
    | with_reducible assumption | with_reducible exact cov_trans hP (by decide) | with_reducible apply State.wr_leaves
    | dsimp only

theorem State.ltEvent_leaves {P : Nat} {s₀ s : State} (hP : P &&& 134217764 = 134217764) (h : Leaves P s₀ s) (c kind epoch : Nat) (index : Int) (ts : Nat) :
    Leaves P s₀ (State.ltEvent s c kind epoch index ts) := by
  unfold State.ltEvent
  repeat' first
    | with_reducible assumption | with_reducible exact cov_trans hP (by decide)
    | with_reducible apply State.gristPut_leaves (part_trans hP (by decide))
    | with_reducible apply State.incWrap_leaves | with_reducible apply State.wr_leaves | dsimp only

theorem State.cmpChange_leaves {P : Nat} {s₀ s : State} (hP : P &&& 103213439524 = 103213439524) (h : Leaves P s₀ s) (c k : Nat) (active reset : Bool) (epoch : Nat) (index : Int) (ts : Nat) :
    Leaves P s₀ (State.cmpChange s c k active reset epoch index ts) := by
  unfold State.cmpChange
  repeat' first
    | with_reducible assumption | with_reducible exact cov_trans hP (by decide)
    | with_reducible apply State.clearBitIn_leaves
    | with_reducible apply State.count_leaves (part_trans hP (by decide))
    | with_reducible apply State.event_leaves (part_trans hP (by decide)) | with_reducible apply State.incSat_leaves
    | with_reducible apply State.ltEvent_leaves (part_trans hP (by decide)) | with_reducible apply State.put_leaves
    | with_reducible apply State.raise_leaves | with_reducible apply State.setBitIn_leaves
    | with_reducible apply State.wr_leaves | with_reducible apply Leaves.ite | split | with_reducible intro _
    | dsimp only

theorem State.compare_leaves {P : Nat} {s₀ s : State} (hP : P &&& 103213439524 = 103213439524) (h : Leaves P s₀ s) (c k epoch : Nat) (index v : Int) (ts : Nat) :
    Leaves P s₀ (State.compare s c k epoch index v ts) := by
  unfold State.compare
  repeat' first
    | with_reducible assumption | with_reducible exact cov_trans hP (by decide)
    | with_reducible apply State.cmpChange_leaves (part_trans hP (by decide)) | with_reducible apply State.wr_leaves
    | with_reducible apply Leaves.ite | split | with_reducible intro _ | dsimp only

theorem State.cmpClear_leaves {P : Nat} {s₀ s : State} (hP : P &&& 134217728 = 134217728) (h : Leaves P s₀ s) (c k : Nat) :
    Leaves P s₀ (State.cmpClear s c k) := by
  unfold State.cmpClear
  repeat' first
    | with_reducible assumption | with_reducible exact cov_trans hP (by decide)
    | with_reducible apply State.clearBitIn_leaves | with_reducible apply State.wr_leaves

theorem State.fadeDone_leaves {P : Nat} {s₀ s : State} (hP : P &&& 142606336 = 142606336) (h : Leaves P s₀ s) (c target : Nat) :
    Leaves P s₀ (State.fadeDone s c target) := by
  unfold State.fadeDone
  repeat' first
    | with_reducible assumption | with_reducible exact cov_trans hP (by decide)
    | with_reducible apply State.raise_leaves | with_reducible apply State.setSc_leaves (part_trans hP (by decide))
    | with_reducible apply State.wr_leaves | with_reducible intro _ | dsimp only

theorem State.scReset_leaves {P : Nat} {s₀ s : State} (hP : P &&& 103221828132 = 103221828132) (h : Leaves P s₀ s) (c t : Nat) (armed : Bool) :
    Leaves P s₀ (State.scReset s c t armed) := by
  unfold State.scReset
  repeat' first
    | with_reducible assumption | with_reducible exact cov_trans hP (by decide)
    | with_reducible apply State.cmpChange_leaves (part_trans hP (by decide))
    | with_reducible apply State.cmpClear_leaves (part_trans hP (by decide))
    | with_reducible apply State.fadeDone_leaves (part_trans hP (by decide))
    | with_reducible apply State.ltCount_leaves (part_trans hP (by decide))
    | with_reducible apply State.setSc_leaves (part_trans hP (by decide)) | with_reducible apply State.wr_leaves
    | with_reducible apply Leaves.ite | with_reducible apply Leaves.foldl | split | with_reducible intro _
    | dsimp only

theorem execDefiningEdge_leaves {P : Nat} {s₀ s : State} (hP : P &&& 103221828132 = 103221828132) (h : Leaves P s₀ s) (c : Fin 32) (t : Nat) :
    OutLeaves P s₀ (execDefiningEdge c t s) := by
  unfold execDefiningEdge
  repeat' first
    | with_reducible assumption | with_reducible apply OutLeaves.next
    | with_reducible apply State.scReset_leaves (part_trans hP (by decide)) | with_reducible apply OutLeaves.ite
    | split | with_reducible intro _

theorem execLtSync_leaves {P : Nat} {s₀ s : State} (hP : P &&& 8388608 = 8388608) (h : Leaves P s₀ s) (mask : Word) :
    OutLeaves P s₀ (execLtSync mask s) := by
  unfold execLtSync
  repeat' first
    | with_reducible assumption | with_reducible apply OutLeaves.next
    | with_reducible apply State.setSc_leaves (part_trans hP (by decide)) | with_reducible apply OutLeaves.ite
    | with_reducible apply Leaves.foldl | split | with_reducible intro _ | dsimp only

theorem execLtSyncArm_leaves {P : Nat} {s₀ s : State} (hP : P &&& 134217728 = 134217728) (h : Leaves P s₀ s) (v : Word) :
    OutLeaves P s₀ (execLtSyncArm v s) := by
  unfold execLtSyncArm
  repeat' first
    | with_reducible assumption | with_reducible exact cov_trans hP (by decide) | with_reducible apply OutLeaves.next
    | with_reducible apply State.put_leaves | with_reducible apply State.wr_leaves | with_reducible intro _
    | dsimp only

theorem execTimeAt_leaves {P : Nat} {s₀ s : State} (hP : P &&& 142606336 = 142606336) (h : Leaves P s₀ s) :
    OutLeaves P s₀ (execTimeAt s) := by
  unfold execTimeAt
  repeat' first
    | with_reducible assumption | with_reducible apply OutLeaves.next
    | with_reducible apply State.fireSync_leaves (part_trans hP (by decide)) | with_reducible apply OutLeaves.ite
    | with_reducible apply Leaves.ite | split | with_reducible intro _ | dsimp only

theorem execScSyncEdge_leaves {P : Nat} {s₀ s : State} (hP : P &&& 142606336 = 142606336) (h : Leaves P s₀ s) :
    OutLeaves P s₀ (execScSyncEdge s) := by
  unfold execScSyncEdge
  repeat' first
    | with_reducible assumption | with_reducible apply OutLeaves.next
    | with_reducible apply State.fireSync_leaves (part_trans hP (by decide)) | with_reducible apply OutLeaves.ite
    | with_reducible apply Leaves.ite | split | with_reducible intro _

theorem execClockLost_leaves {P : Nat} {s₀ s : State} (hP : P &&& 103481874944 = 103481874944) (h : Leaves P s₀ s) (c : Fin 32) :
    OutLeaves P s₀ (execClockLost c s) := by
  unfold execClockLost
  repeat' first
    | with_reducible assumption | with_reducible exact cov_trans hP (by decide) | with_reducible apply OutLeaves.next
    | with_reducible apply State.event_leaves (part_trans hP (by decide))
    | with_reducible apply State.ltCount_leaves (part_trans hP (by decide)) | with_reducible apply State.raise_leaves
    | with_reducible apply State.scValid_leaves (part_trans hP (by decide)) | with_reducible apply State.wr_leaves
    | with_reducible apply OutLeaves.ite | split | with_reducible intro _ | dsimp only

theorem execClockReturn_leaves {P : Nat} {s₀ s : State} (hP : P &&& 103221828132 = 103221828132) (h : Leaves P s₀ s) (c : Fin 32) (t : Nat) :
    OutLeaves P s₀ (execClockReturn c t s) := by
  unfold execClockReturn
  repeat' first
    | with_reducible assumption | with_reducible exact cov_trans hP (by decide) | with_reducible apply OutLeaves.next
    | with_reducible apply State.raise_leaves | with_reducible apply State.scReset_leaves (part_trans hP (by decide))
    | with_reducible apply OutLeaves.ite | with_reducible apply Leaves.ite | split | with_reducible intro _
    | dsimp only

theorem execSwapRequest_leaves {P : Nat} {s₀ s : State} (hP : P &&& 142606336 = 142606336) (h : Leaves P s₀ s) (c : Fin 32) (v : Word) :
    OutLeaves P s₀ (execSwapRequest c v s) := by
  unfold execSwapRequest
  repeat' first
    | with_reducible assumption | with_reducible exact cov_trans hP (by decide) | with_reducible apply OutLeaves.next
    | with_reducible apply State.incSat_leaves | with_reducible apply State.raise_leaves
    | with_reducible apply State.setSc_leaves (part_trans hP (by decide)) | with_reducible apply OutLeaves.ite | split
    | with_reducible intro _ | dsimp only

theorem State.poolPut_leaves {P : Nat} {s₀ s : State} (hP : P &&& 8388608 = 8388608) (h : Leaves P s₀ s) (e v : Nat) :
    Leaves P s₀ (State.poolPut s e v) := by
  unfold State.poolPut
  repeat' first
    | with_reducible assumption | with_reducible exact cov_trans hP (by decide)
    | with_reducible apply State.put_leaves | dsimp only
    | with_reducible apply Leaves.set_lauter (part_trans hP (by decide))

theorem execPoolAccess_leaves {P : Nat} {s₀ s : State} (hP : P &&& 36918689892 = 36918689892) (h : Leaves P s₀ s) (core : Fin 4) (write : Option Word) :
    OutLeaves P s₀ (execPoolAccess core write s) := by
  unfold execPoolAccess
  repeat' first
    | with_reducible assumption | with_reducible exact cov_trans hP (by decide) | with_reducible apply OutLeaves.next
    | with_reducible apply Run.write_leaves (part_trans hP (by decide))
    | with_reducible apply State.poolPut_leaves (part_trans hP (by decide)) | with_reducible apply State.put_leaves
    | with_reducible apply State.raise_leaves | with_reducible apply State.wr_leaves
    | with_reducible apply OutLeaves.ite | with_reducible apply Leaves.ite | split | with_reducible intro _
    | dsimp only | with_reducible apply Leaves.set_readData (part_trans hP (by decide))

theorem State.takeInputs_leaves {P : Nat} {s₀ s : State} (hP : P &&& 34502344704 = 34502344704) (h : Leaves P s₀ s) (c : Nat) (xs : List ScSample) :
    Leaves P s₀ (State.takeInputs s c xs) := by
  unfold State.takeInputs
  repeat' first
    | with_reducible assumption | with_reducible exact cov_trans hP (by decide)
    | with_reducible apply State.count_leaves (part_trans hP (by decide)) | with_reducible apply State.incSat_leaves
    | with_reducible apply State.raise_leaves | with_reducible apply State.setSc_leaves (part_trans hP (by decide))
    | with_reducible apply Leaves.ite | with_reducible apply Leaves.foldl | split | with_reducible intro _
    | dsimp only

theorem State.rateCheck_leaves {P : Nat} {s₀ s : State} (hP : P &&& 103213439488 = 103213439488) (h : Leaves P s₀ s) (c : Nat) (rate : Rat) :
    Leaves P s₀ (State.rateCheck s c rate) := by
  unfold State.rateCheck
  repeat' first
    | with_reducible assumption | with_reducible exact cov_trans hP (by decide)
    | with_reducible apply State.event_leaves (part_trans hP (by decide)) | with_reducible apply State.raise_leaves
    | with_reducible apply State.wr_leaves | with_reducible apply Leaves.ite | split | with_reducible intro _
    | dsimp only

theorem State.startPending_leaves {P : Nat} {s₀ s : State} (hP : P &&& 142606336 = 142606336) (h : Leaves P s₀ s) (c : Nat) :
    Leaves P s₀ (State.startPending s c) := by
  unfold State.startPending
  repeat' first
    | with_reducible assumption | with_reducible exact cov_trans hP (by decide)
    | with_reducible apply State.raise_leaves | with_reducible apply State.setSc_leaves (part_trans hP (by decide))
    | with_reducible apply State.wr_leaves | split | with_reducible intro _ | dsimp only

theorem State.combOutput_leaves {P : Nat} {s₀ s : State} (hP : P &&& 8388608 = 8388608) (h : Leaves P s₀ s) (c : Nat) :
    Leaves P s₀ (State.combOutput s c).1 := by
  unfold State.combOutput
  repeat' first
    | with_reducible assumption | with_reducible apply State.setSc_leaves (part_trans hP (by decide))
    | with_reducible intro _ | dsimp only

theorem State.stepFade_leaves {P : Nat} {s₀ s : State} (hP : P &&& 142606336 = 142606336) (h : Leaves P s₀ s) (c : Nat) :
    Leaves P s₀ (State.stepFade s c) := by
  unfold State.stepFade
  repeat' first
    | with_reducible assumption | with_reducible exact cov_trans hP (by decide)
    | with_reducible apply State.fadeDone_leaves (part_trans hP (by decide)) | with_reducible apply State.raise_leaves
    | with_reducible apply State.setSc_leaves (part_trans hP (by decide)) | with_reducible apply Leaves.ite | split
    | with_reducible intro _ | dsimp only

theorem State.settle_leaves {P : Nat} {s₀ s : State} (hP : P &&& 142606336 = 142606336) (h : Leaves P s₀ s) (c tDef : Nat) :
    Leaves P s₀ (State.settle s c tDef) := by
  unfold State.settle
  repeat' first
    | with_reducible assumption | with_reducible exact cov_trans hP (by decide)
    | with_reducible apply State.raise_leaves | with_reducible apply State.setSc_leaves (part_trans hP (by decide))
    | with_reducible apply State.wr_leaves | with_reducible intro _ | dsimp only

theorem State.scRing_leaves {P : Nat} {s₀ s : State} (hP : P &&& 134217764 = 134217764) (h : Leaves P s₀ s) (c : Nat) (v index : Int) (ts flags : Nat) :
    Leaves P s₀ (State.scRing s c v index ts flags) := by
  unfold State.scRing
  repeat' first
    | with_reducible assumption | with_reducible exact cov_trans hP (by decide)
    | with_reducible apply State.gristPut_leaves (part_trans hP (by decide)) | with_reducible apply State.wr_leaves
    | dsimp only

theorem State.scPublish_leaves {P : Nat} {s₀ s : State} (hP : P &&& 653246233132 = 653246233132) (h : Leaves P s₀ s) (c tDef : Nat) (bad : Bool) :
    Leaves P s₀ (State.scPublish s c tDef bad) := by
  unfold State.scPublish
  repeat' first
    | with_reducible assumption | with_reducible exact cov_trans hP (by decide)
    | with_reducible apply State.combOutput_leaves (part_trans hP (by decide))
    | with_reducible apply State.compare_leaves (part_trans hP (by decide))
    | with_reducible apply State.count_leaves (part_trans hP (by decide))
    | with_reducible apply State.ltCount_leaves (part_trans hP (by decide))
    | with_reducible apply State.rateCheck_leaves (part_trans hP (by decide))
    | with_reducible apply State.scRing_leaves (part_trans hP (by decide))
    | with_reducible apply State.scValid_leaves (part_trans hP (by decide))
    | with_reducible apply State.setSc_leaves (part_trans hP (by decide))
    | with_reducible apply State.setWord_leaves (part_trans hP (by decide))
    | with_reducible apply State.settle_leaves (part_trans hP (by decide))
    | with_reducible apply State.startPending_leaves (part_trans hP (by decide))
    | with_reducible apply State.stepFade_leaves (part_trans hP (by decide))
    | with_reducible apply State.triggerKind_leaves (part_trans hP (by decide))
    | with_reducible apply State.wrS_leaves | with_reducible apply Leaves.ite | with_reducible apply Leaves.foldl
    | with_reducible apply Leaves.of_fst ‹_› | split | with_reducible intro _ | dsimp only

theorem State.ltDatapathFault_leaves {P : Nat} {s₀ s : State} (hP : P &&& 103481883144 = 103481883144) (h : Leaves P s₀ s) :
    Leaves P s₀ (State.ltDatapathFault s) := by
  unfold State.ltDatapathFault
  repeat' first
    | with_reducible assumption | with_reducible exact cov_trans hP (by decide)
    | with_reducible apply State.alarm_leaves (part_trans hP (by decide))
    | with_reducible apply State.ltCount_leaves (part_trans hP (by decide)) | with_reducible apply State.raise_leaves
    | with_reducible apply State.scValid_leaves (part_trans hP (by decide)) | with_reducible apply State.wr_leaves
    | with_reducible apply Leaves.ite | with_reducible apply Leaves.foldl | split | with_reducible intro _
    | dsimp only

theorem State.scRetire_leaves {P : Nat} {s₀ s : State} (hP : P &&& 402653184 = 402653184) (h : Leaves P s₀ s) (c : Nat) :
    Leaves P s₀ (State.scRetire s c) := by
  unfold State.scRetire
  repeat' first
    | with_reducible assumption | with_reducible exact cov_trans hP (by decide)
    | with_reducible apply State.ltCount_leaves (part_trans hP (by decide)) | with_reducible apply State.raise_leaves
    | with_reducible apply State.scValid_leaves (part_trans hP (by decide)) | with_reducible apply State.wr_leaves

theorem execLauterOutput_leaves {P : Nat} {s₀ s : State} (hP : P &&& 653246233132 = 653246233132) (h : Leaves P s₀ s) (c : Fin 32) (xs : List ScSample) (tDef : Nat) (failures : Fin 4) :
    OutLeaves P s₀ (execLauterOutput c xs tDef failures s) := by
  unfold execLauterOutput
  repeat' first
    | with_reducible assumption | with_reducible apply OutLeaves.next
    | with_reducible apply State.ltDatapathFault_leaves (part_trans hP (by decide))
    | with_reducible apply State.retireUnit_leaves (part_trans hP (by decide))
    | with_reducible apply State.scPublish_leaves (part_trans hP (by decide))
    | with_reducible apply State.scRetire_leaves (part_trans hP (by decide))
    | with_reducible apply State.takeInputs_leaves (part_trans hP (by decide))
    | with_reducible apply State.unitTransient_leaves (part_trans hP (by decide)) | with_reducible apply OutLeaves.ite
    | with_reducible apply Leaves.foldl | with_reducible apply Leaves.foldl_fst
    | with_reducible apply Leaves.foldl_snd | with_reducible apply Leaves.of_fst ‹_› | split | with_reducible intro _
    | dsimp only

theorem State.ltRecheck_leaves {P : Nat} {s₀ s : State} (hP : P &&& 103213447688 = 103213447688) (h : Leaves P s₀ s) :
    Leaves P s₀ (State.ltRecheck s) := by
  unfold State.ltRecheck
  repeat' first
    | with_reducible assumption | with_reducible exact cov_trans hP (by decide)
    | with_reducible apply State.alarm_leaves (part_trans hP (by decide))
    | with_reducible apply State.ltCount_leaves (part_trans hP (by decide)) | with_reducible apply State.raise_leaves
    | with_reducible apply State.wr_leaves | with_reducible apply Leaves.ite | split | with_reducible intro _
    | dsimp only

theorem execLtRecheck_leaves {P : Nat} {s₀ s : State} (hP : P &&& 103213447688 = 103213447688) (h : Leaves P s₀ s) :
    OutLeaves P s₀ (execLtRecheck s) := by
  unfold execLtRecheck
  repeat' first
    | with_reducible assumption | with_reducible apply OutLeaves.next
    | with_reducible apply State.ltRecheck_leaves (part_trans hP (by decide)) | with_reducible intro _

theorem State.scStart_leaves {P : Nat} {s₀ s : State} (hP : P &&& 411041792 = 411041792) (h : Leaves P s₀ s) (c : Nat) :
    Leaves P s₀ (State.scStart s c) := by
  unfold State.scStart
  repeat' first
    | with_reducible assumption | with_reducible exact cov_trans hP (by decide)
    | with_reducible apply State.cmpClear_leaves (part_trans hP (by decide))
    | with_reducible apply State.ltCount_leaves (part_trans hP (by decide))
    | with_reducible apply State.scValid_leaves (part_trans hP (by decide))
    | with_reducible apply State.setSc_leaves (part_trans hP (by decide)) | with_reducible apply State.wr_leaves
    | with_reducible apply State.wrS_leaves | with_reducible apply Leaves.foldl | with_reducible intro _ | dsimp only

theorem State.scTryStart_leaves {P : Nat} {s₀ s : State} (hP : P &&& 411042048 = 411042048) (h : Leaves P s₀ s) (c : Nat) :
    Leaves P s₀ (State.scTryStart s c) := by
  unfold State.scTryStart
  repeat' first
    | with_reducible assumption | with_reducible exact cov_trans hP (by decide)
    | with_reducible apply State.answer_leaves (part_trans hP (by decide))
    | with_reducible apply State.ltCount_leaves (part_trans hP (by decide))
    | with_reducible apply State.scStart_leaves (part_trans hP (by decide)) | with_reducible apply State.wr_leaves
    | with_reducible apply Leaves.ite | split | with_reducible intro _ | dsimp only

theorem State.scStop_leaves {P : Nat} {s₀ s : State} (hP : P &&& 411041792 = 411041792) (h : Leaves P s₀ s) (c : Nat) :
    Leaves P s₀ (State.scStop s c) := by
  unfold State.scStop
  repeat' first
    | with_reducible assumption | with_reducible exact cov_trans hP (by decide)
    | with_reducible apply State.ltCount_leaves (part_trans hP (by decide))
    | with_reducible apply State.scValid_leaves (part_trans hP (by decide))
    | with_reducible apply State.setSc_leaves (part_trans hP (by decide)) | with_reducible apply State.wr_leaves
    | with_reducible intro _ | dsimp only

theorem execLtChannelEnable_leaves {P : Nat} {s₀ s : State} (hP : P &&& 411042048 = 411042048) (h : Leaves P s₀ s) (c : Fin 32) (on : Bool) :
    OutLeaves P s₀ (execLtChannelEnable c on s) := by
  unfold execLtChannelEnable
  repeat' first
    | with_reducible assumption | with_reducible exact cov_trans hP (by decide) | with_reducible apply OutLeaves.next
    | with_reducible apply State.answer_leaves (part_trans hP (by decide))
    | with_reducible apply State.scStop_leaves (part_trans hP (by decide))
    | with_reducible apply State.scTryStart_leaves (part_trans hP (by decide)) | with_reducible apply State.wr_leaves
    | with_reducible apply OutLeaves.ite | with_reducible apply Leaves.ite | split | with_reducible intro _
    | dsimp only

theorem State.scTestStart_leaves {P : Nat} {s₀ s : State} (hP : P &&& 411043840 = 411043840) (h : Leaves P s₀ s) (c : Nat) :
    Leaves P s₀ (State.scTestStart s c) := by
  unfold State.scTestStart
  repeat' first
    | with_reducible assumption | with_reducible exact cov_trans hP (by decide)
    | with_reducible apply State.scStop_leaves (part_trans hP (by decide))
    | with_reducible apply State.scValid_leaves (part_trans hP (by decide))
    | with_reducible apply State.unitTesting_leaves (part_trans hP (by decide)) | with_reducible apply State.wr_leaves
    | with_reducible apply Leaves.ite | split | with_reducible intro _ | dsimp only

theorem execLtServiceTest_leaves {P : Nat} {s₀ s : State} (hP : P &&& 411044096 = 411044096) (h : Leaves P s₀ s) (c : Fin 32) :
    OutLeaves P s₀ (execLtServiceTest c s) := by
  unfold execLtServiceTest
  repeat' first
    | with_reducible assumption | with_reducible apply OutLeaves.next
    | with_reducible apply State.answer_leaves (part_trans hP (by decide))
    | with_reducible apply State.scTestStart_leaves (part_trans hP (by decide)) | with_reducible apply OutLeaves.ite
    | split | with_reducible intro _

theorem execLtSelfTestDone_leaves {P : Nat} {s₀ s : State} (hP : P &&& 103481883144 = 103481883144) (h : Leaves P s₀ s) (c : Fin 32) (pass : Bool) :
    OutLeaves P s₀ (execLtSelfTestDone c pass s) := by
  unfold execLtSelfTestDone
  repeat' first
    | with_reducible assumption | with_reducible exact cov_trans hP (by decide) | with_reducible apply OutLeaves.next
    | with_reducible apply State.raise_leaves | with_reducible apply State.scRetire_leaves (part_trans hP (by decide))
    | with_reducible apply State.unitTested_leaves (part_trans hP (by decide)) | with_reducible apply State.wr_leaves
    | with_reducible apply OutLeaves.ite | split | with_reducible intro _ | dsimp only

theorem State.scReturn_leaves {P : Nat} {s₀ s : State} (hP : P &&& 69130521344 = 69130521344) (h : Leaves P s₀ s) (c : Nat) :
    Leaves P s₀ (State.scReturn s c) := by
  unfold State.scReturn
  repeat' first
    | with_reducible assumption | with_reducible apply State.answer_leaves (part_trans hP (by decide))
    | with_reducible apply State.scStop_leaves (part_trans hP (by decide))
    | with_reducible apply State.scTryStart_leaves (part_trans hP (by decide))
    | with_reducible apply State.unitReturned_leaves (part_trans hP (by decide)) | with_reducible apply Leaves.ite
    | split | with_reducible intro _ | dsimp only

theorem execLtServiceReturn_leaves {P : Nat} {s₀ s : State} (hP : P &&& 69130521344 = 69130521344) (h : Leaves P s₀ s) (c : Fin 32) :
    OutLeaves P s₀ (execLtServiceReturn c s) := by
  unfold execLtServiceReturn
  repeat' first
    | with_reducible assumption | with_reducible apply OutLeaves.next
    | with_reducible apply State.answer_leaves (part_trans hP (by decide))
    | with_reducible apply State.scReturn_leaves (part_trans hP (by decide)) | with_reducible apply OutLeaves.ite
    | split | with_reducible intro _

end Sys2Proof.Machine
end

