-- ==== Sys2Proof/Laws/LeavesPfu.lean ====
section
/-! SUPPORT. What each operation of Machine/Pfu.lean leaves. -/

set_option linter.unusedTactic false
set_option linter.unreachableTactic false

namespace Sys2Proof.Machine

theorem State.setPf_leaves {P : Nat} {s₀ s : State} (hP : P &&& 16777216 = 16777216) (h : Leaves P s₀ s) (c : Nat) (f : PfChan → PfChan) :
    Leaves P s₀ (State.setPf s c f) := by
  unfold State.setPf
  repeat' first
    | with_reducible assumption | dsimp only | with_reducible apply Leaves.set_pfu (part_trans hP (by decide))

theorem State.setPos_leaves {P : Nat} {s₀ s : State} (hP : P &&& 536870912 = 536870912) (h : Leaves P s₀ s) (c : Nat) (z : Int) :
    Leaves P s₀ (State.setPos s c z) := by
  unfold State.setPos
  repeat' first
    | with_reducible assumption | with_reducible exact cov_trans hP (by decide)
    | with_reducible apply State.wr2_leaves

theorem State.pfViews_leaves {P : Nat} {s₀ s : State} (hP : P &&& 268435456 = 268435456) (h : Leaves P s₀ s) (c : Nat) :
    Leaves P s₀ (State.pfViews s c) := by
  unfold State.pfViews
  repeat' first
    | with_reducible assumption | with_reducible apply State.setWord_leaves (part_trans hP (by decide))
    | with_reducible apply Leaves.ite | split | with_reducible intro _ | dsimp only

theorem State.pfEvent_leaves {P : Nat} {s₀ s : State} (hP : P &&& 536870948 = 536870948) (h : Leaves P s₀ s) (c kind : Nat) (passed corrected : Bool) (t : Nat) :
    Leaves P s₀ (State.pfEvent s c kind passed corrected t) := by
  unfold State.pfEvent
  repeat' first
    | with_reducible assumption | with_reducible exact cov_trans hP (by decide)
    | with_reducible apply State.gristPut_leaves (part_trans hP (by decide))
    | with_reducible apply State.incWrap_leaves | with_reducible apply State.wr_leaves | dsimp only

theorem State.feedback_leaves {P : Nat} {s₀ s : State} (hP : P &&& 653103626760 = 653103626760) (h : Leaves P s₀ s) (c code t : Nat) :
    Leaves P s₀ (State.feedback s c code t) := by
  unfold State.feedback
  repeat' first
    | with_reducible assumption | with_reducible apply State.triggerKind_leaves (part_trans hP (by decide))
    | with_reducible intro _ | dsimp only

theorem State.pfFault_leaves {P : Nat} {s₀ s : State} (hP : P &&& 103632869924 = 103632869924) (h : Leaves P s₀ s) (c code t : Nat) :
    Leaves P s₀ (State.pfFault s c code t) := by
  unfold State.pfFault
  repeat' first
    | with_reducible assumption | with_reducible exact cov_trans hP (by decide)
    | with_reducible apply State.count_leaves (part_trans hP (by decide))
    | with_reducible apply State.event_leaves (part_trans hP (by decide)) | with_reducible apply State.incSat_leaves
    | with_reducible apply State.pfEvent_leaves (part_trans hP (by decide)) | with_reducible apply State.raise_leaves
    | with_reducible apply State.setBitIn_leaves | with_reducible apply State.setPf_leaves (part_trans hP (by decide))
    | with_reducible apply Leaves.ite | split | with_reducible intro _ | dsimp only

theorem State.pfCount_leaves {P : Nat} {s₀ s : State} (hP : P &&& 536870912 = 536870912) (h : Leaves P s₀ s) :
    Leaves P s₀ (State.pfCount s) := by
  unfold State.pfCount
  repeat' first
    | with_reducible assumption | with_reducible exact cov_trans hP (by decide) | with_reducible apply State.wr_leaves
    | with_reducible intro _ | dsimp only

theorem State.putSpeed_leaves {P : Nat} {s₀ s : State} (hP : P &&& 553648128 = 553648128) (h : Leaves P s₀ s) (c : Nat) (v : Rat) :
    Leaves P s₀ (State.putSpeed s c v) := by
  unfold State.putSpeed
  repeat' first
    | with_reducible assumption | with_reducible exact cov_trans hP (by decide)
    | with_reducible apply State.setPf_leaves (part_trans hP (by decide)) | with_reducible apply State.wrS_leaves
    | with_reducible intro _ | dsimp only

theorem State.speedAt_leaves {P : Nat} {s₀ s : State} (hP : P &&& 553648128 = 553648128) (h : Leaves P s₀ s) (c now : Nat) :
    Leaves P s₀ (State.speedAt s c now) := by
  unfold State.speedAt
  repeat' first
    | with_reducible assumption | with_reducible exact cov_trans hP (by decide)
    | with_reducible apply State.put_leaves | with_reducible apply State.putSpeed_leaves (part_trans hP (by decide))
    | with_reducible apply State.setPf_leaves (part_trans hP (by decide)) | with_reducible apply Leaves.ite
    | with_reducible apply Leaves.foldl | with_reducible apply Leaves.foldl_fst
    | with_reducible apply Leaves.foldl_snd | split | with_reducible intro _ | dsimp only

theorem State.serialSpeed_leaves {P : Nat} {s₀ s : State} (hP : P &&& 553648128 = 553648128) (h : Leaves P s₀ s) (c : Nat) :
    Leaves P s₀ (State.serialSpeed s c) := by
  unfold State.serialSpeed
  repeat' first
    | with_reducible assumption | with_reducible apply State.putSpeed_leaves (part_trans hP (by decide))
    | with_reducible apply State.setPf_leaves (part_trans hP (by decide)) | with_reducible apply Leaves.ite | split
    | with_reducible intro _ | dsimp only

theorem State.restartSpeed_leaves {P : Nat} {s₀ s : State} (hP : P &&& 16777216 = 16777216) (h : Leaves P s₀ s) (c : Nat) :
    Leaves P s₀ (State.restartSpeed s c) := by
  unfold State.restartSpeed
  repeat' first
    | with_reducible assumption | with_reducible apply State.setPf_leaves (part_trans hP (by decide))
    | with_reducible intro _ | dsimp only

theorem State.setCmp_leaves {P : Nat} {s₀ s : State} (hP : P &&& 16777216 = 16777216) (h : Leaves P s₀ s) (c k : Nat) (f : CmpSt → CmpSt) :
    Leaves P s₀ (State.setCmp s c k f) := by
  unfold State.setCmp
  repeat' first
    | with_reducible assumption | with_reducible apply State.setPf_leaves (part_trans hP (by decide))
    | with_reducible intro _ | dsimp only

theorem State.cmpFire_leaves {P : Nat} {s₀ s : State} (hP : P &&& 655805053484 = 655805053484) (h : Leaves P s₀ s) (c k t : Nat) (passed : Bool) :
    Leaves P s₀ (State.cmpFire s c k t passed) := by
  unfold State.cmpFire
  repeat' first
    | with_reducible assumption | with_reducible exact cov_trans hP (by decide)
    | with_reducible apply Run.step_leaves (part_trans hP (by decide))
    | with_reducible apply State.feedback_leaves (part_trans hP (by decide))
    | with_reducible apply State.incSat_leaves | with_reducible apply State.pfEvent_leaves (part_trans hP (by decide))
    | with_reducible apply State.put_leaves | with_reducible apply State.raise_leaves
    | with_reducible apply State.setCmp_leaves (part_trans hP (by decide)) | with_reducible apply State.wr_leaves
    | with_reducible apply Leaves.ite | split | with_reducible intro _ | dsimp only

theorem State.cmpEval_leaves {P : Nat} {s₀ s : State} (hP : P &&& 655805053484 = 655805053484) (h : Leaves P s₀ s) (c k : Nat) (old new : Int) (t : Nat) :
    Leaves P s₀ (State.cmpEval s c k old new t) := by
  unfold State.cmpEval
  repeat' first
    | with_reducible assumption | with_reducible exact cov_trans hP (by decide)
    | with_reducible apply State.cmpFire_leaves (part_trans hP (by decide)) | with_reducible apply State.wr_leaves
    | with_reducible apply Leaves.ite | split | with_reducible intro _ | dsimp only

theorem State.cmpBehind_leaves {P : Nat} {s₀ s : State} (hP : P &&& 553648128 = 553648128) (h : Leaves P s₀ s) (c k : Nat) :
    Leaves P s₀ (State.cmpBehind s c k) := by
  unfold State.cmpBehind
  repeat' first
    | with_reducible assumption | with_reducible exact cov_trans hP (by decide)
    | with_reducible apply State.put_leaves | with_reducible apply State.setCmp_leaves (part_trans hP (by decide))
    | with_reducible apply Leaves.ite | split | with_reducible intro _ | dsimp only

theorem State.cmpCfg_leaves {P : Nat} {s₀ s : State} (hP : P &&& 536870912 = 536870912) (h : Leaves P s₀ s) (c k v : Nat) :
    Leaves P s₀ (State.cmpCfg s c k v) := by
  unfold State.cmpCfg
  repeat' first
    | with_reducible assumption | with_reducible exact cov_trans hP (by decide) | with_reducible apply State.wr_leaves

theorem State.cmpArm_leaves {P : Nat} {s₀ s : State} (hP : P &&& 655805053484 = 655805053484) (h : Leaves P s₀ s) (c k : Nat) :
    Leaves P s₀ (State.cmpArm s c k) := by
  unfold State.cmpArm
  repeat' first
    | with_reducible assumption | with_reducible exact cov_trans hP (by decide)
    | with_reducible apply State.cmpBehind_leaves (part_trans hP (by decide))
    | with_reducible apply State.cmpFire_leaves (part_trans hP (by decide)) | with_reducible apply State.raise_leaves
    | with_reducible apply State.setCmp_leaves (part_trans hP (by decide)) | with_reducible apply Leaves.ite | split
    | with_reducible intro _ | dsimp only

theorem execCmpArm_leaves {P : Nat} {s₀ s : State} (hP : P &&& 655805053484 = 655805053484) (h : Leaves P s₀ s) (c : Fin 32) (k : Fin 4) (v : Word) :
    OutLeaves P s₀ (execCmpArm c k v s) := by
  unfold execCmpArm
  repeat' first
    | with_reducible assumption | with_reducible apply OutLeaves.next
    | with_reducible apply State.cmpArm_leaves (part_trans hP (by decide))
    | with_reducible apply State.cmpCfg_leaves (part_trans hP (by decide)) | with_reducible intro _

theorem State.cmpDisarm_leaves {P : Nat} {s₀ s : State} (hP : P &&& 536870912 = 536870912) (h : Leaves P s₀ s) (c k : Nat) :
    Leaves P s₀ (State.cmpDisarm s c k) := by
  unfold State.cmpDisarm
  repeat' first
    | with_reducible assumption | with_reducible exact cov_trans hP (by decide) | with_reducible apply State.wr_leaves

theorem execCmpDisarm_leaves {P : Nat} {s₀ s : State} (hP : P &&& 536870912 = 536870912) (h : Leaves P s₀ s) (c : Fin 32) (k : Fin 4) :
    OutLeaves P s₀ (execCmpDisarm c k s) := by
  unfold execCmpDisarm
  repeat' first
    | with_reducible assumption | with_reducible apply OutLeaves.next
    | with_reducible apply State.cmpDisarm_leaves (part_trans hP (by decide)) | with_reducible intro _

theorem State.loadPos_leaves {P : Nat} {s₀ s : State} (hP : P &&& 553648128 = 553648128) (h : Leaves P s₀ s) (c : Nat) (z : Int) :
    Leaves P s₀ (State.loadPos s c z) := by
  unfold State.loadPos
  repeat' first
    | with_reducible assumption | with_reducible apply State.cmpBehind_leaves (part_trans hP (by decide))
    | with_reducible apply State.setPf_leaves (part_trans hP (by decide))
    | with_reducible apply State.setPos_leaves (part_trans hP (by decide)) | with_reducible apply Leaves.foldl
    | with_reducible apply Leaves.foldl_fst | with_reducible apply Leaves.foldl_snd | with_reducible intro _
    | dsimp only

theorem execSetPos_leaves {P : Nat} {s₀ s : State} (hP : P &&& 822083840 = 822083840) (h : Leaves P s₀ s) (c : Fin 32) (v : BitVec 48) :
    OutLeaves P s₀ (execSetPos c v s) := by
  unfold execSetPos
  repeat' first
    | with_reducible assumption | with_reducible exact cov_trans hP (by decide) | with_reducible apply OutLeaves.next
    | with_reducible apply State.answer_leaves (part_trans hP (by decide))
    | with_reducible apply State.loadPos_leaves (part_trans hP (by decide))
    | with_reducible apply State.pfViews_leaves (part_trans hP (by decide)) | with_reducible apply State.wr_leaves
    | with_reducible apply State.wr2_leaves | with_reducible intro _ | dsimp only

theorem State.countEdge_leaves {P : Nat} {s₀ s : State} (hP : P &&& 655805053484 = 655805053484) (h : Leaves P s₀ s) (c : Nat) (d : Int) (t : Nat) :
    Leaves P s₀ (State.countEdge s c d t) := by
  unfold State.countEdge
  repeat' first
    | with_reducible assumption | with_reducible exact cov_trans hP (by decide)
    | with_reducible apply State.cmpEval_leaves (part_trans hP (by decide))
    | with_reducible apply State.count_leaves (part_trans hP (by decide))
    | with_reducible apply State.pfFault_leaves (part_trans hP (by decide)) | with_reducible apply State.put_leaves
    | with_reducible apply State.setPf_leaves (part_trans hP (by decide))
    | with_reducible apply State.setPos_leaves (part_trans hP (by decide))
    | with_reducible apply State.speedAt_leaves (part_trans hP (by decide)) | with_reducible apply State.wr_leaves
    | with_reducible apply Leaves.ite | with_reducible apply Leaves.foldl | split | with_reducible intro _
    | dsimp only

theorem State.qualifiedIndex_leaves {P : Nat} {s₀ s : State} (hP : P &&& 653657274924 = 653657274924) (h : Leaves P s₀ s) (c t : Nat) :
    Leaves P s₀ (State.qualifiedIndex s c t) := by
  unfold State.qualifiedIndex
  repeat' first
    | with_reducible assumption | with_reducible exact cov_trans hP (by decide)
    | with_reducible apply State.feedback_leaves (part_trans hP (by decide))
    | with_reducible apply State.loadPos_leaves (part_trans hP (by decide))
    | with_reducible apply State.pfEvent_leaves (part_trans hP (by decide))
    | with_reducible apply State.pfFault_leaves (part_trans hP (by decide)) | with_reducible apply State.raise_leaves
    | with_reducible apply State.setPf_leaves (part_trans hP (by decide)) | with_reducible apply State.wr_leaves
    | with_reducible apply State.wrS_leaves | with_reducible apply Leaves.ite | split | with_reducible intro _
    | dsimp only

theorem State.decodeAB_leaves {P : Nat} {s₀ s : State} (hP : P &&& 655805053484 = 655805053484) (h : Leaves P s₀ s) (c : Nat) (a b : Option Bool) (oldA oldB pending : Bool) (t : Nat) :
    Leaves P s₀ (State.decodeAB s c a b oldA oldB pending t) := by
  unfold State.decodeAB
  repeat' first
    | with_reducible assumption | with_reducible apply Run.step_leaves (part_trans hP (by decide))
    | with_reducible apply State.countEdge_leaves (part_trans hP (by decide))
    | with_reducible apply State.pfFault_leaves (part_trans hP (by decide))
    | with_reducible apply State.restartSpeed_leaves (part_trans hP (by decide))
    | with_reducible apply State.speedAt_leaves (part_trans hP (by decide)) | with_reducible apply Leaves.ite
    | with_reducible apply Leaves.getD | split | with_reducible intro _ | dsimp only

theorem execPfEdgeAccept_leaves {P : Nat} {s₀ s : State} (hP : P &&& 655805053484 = 655805053484) (h : Leaves P s₀ s) (c : Fin 32) (e : PfEdge) :
    OutLeaves P s₀ (execPfEdgeAccept c e s) := by
  unfold execPfEdgeAccept
  repeat' first
    | with_reducible assumption | with_reducible apply OutLeaves.next
    | with_reducible apply State.decodeAB_leaves (part_trans hP (by decide))
    | with_reducible apply State.pfViews_leaves (part_trans hP (by decide))
    | with_reducible apply State.qualifiedIndex_leaves (part_trans hP (by decide))
    | with_reducible apply State.setPf_leaves (part_trans hP (by decide)) | with_reducible apply OutLeaves.ite
    | with_reducible apply Leaves.ite | with_reducible apply Leaves.getD | split | with_reducible intro _ | dsimp only

theorem execGlitch_leaves {P : Nat} {s₀ s : State} (hP : P &&& 103901305380 = 103901305380) (h : Leaves P s₀ s) (c : Fin 32) (line : Fin 3) (t : Nat) :
    OutLeaves P s₀ (execGlitch c line t s) := by
  unfold execGlitch
  repeat' first
    | with_reducible assumption | with_reducible apply OutLeaves.next
    | with_reducible apply State.pfFault_leaves (part_trans hP (by decide))
    | with_reducible apply State.pfViews_leaves (part_trans hP (by decide)) | with_reducible apply OutLeaves.ite
    | split | with_reducible intro _

theorem State.lineBits_leaves {P : Nat} {s₀ s : State} (hP : P &&& 536870912 = 536870912) (h : Leaves P s₀ s) (c : Nat) :
    Leaves P s₀ (State.lineBits s c) := by
  unfold State.lineBits
  repeat' first
    | with_reducible assumption | with_reducible exact cov_trans hP (by decide) | with_reducible apply State.wr_leaves
    | with_reducible apply Leaves.ite | split | with_reducible intro _ | dsimp only

theorem State.openFaults_leaves {P : Nat} {s₀ s : State} (hP : P &&& 103632869924 = 103632869924) (h : Leaves P s₀ s) (c : Nat) :
    Leaves P s₀ (State.openFaults s c) := by
  unfold State.openFaults
  repeat' first
    | with_reducible assumption | with_reducible apply State.lineBits_leaves (part_trans hP (by decide))
    | with_reducible apply State.pfFault_leaves (part_trans hP (by decide)) | with_reducible apply Leaves.ite
    | with_reducible apply Leaves.foldl | split | with_reducible intro _ | dsimp only

theorem execLineOpen_leaves {P : Nat} {s₀ s : State} (hP : P &&& 103901305380 = 103901305380) (h : Leaves P s₀ s) (c : Fin 32) (line : Fin 3) :
    OutLeaves P s₀ (execLineOpen c line s) := by
  unfold execLineOpen
  repeat' first
    | with_reducible assumption | with_reducible apply OutLeaves.next
    | with_reducible apply State.openFaults_leaves (part_trans hP (by decide))
    | with_reducible apply State.pfViews_leaves (part_trans hP (by decide))
    | with_reducible apply State.setPf_leaves (part_trans hP (by decide)) | with_reducible intro _ | dsimp only

theorem execLineSignalReturn_leaves {P : Nat} {s₀ s : State} (hP : P &&& 822083584 = 822083584) (h : Leaves P s₀ s) (c : Fin 32) (line : Fin 3) :
    OutLeaves P s₀ (execLineSignalReturn c line s) := by
  unfold execLineSignalReturn
  repeat' first
    | with_reducible assumption | with_reducible apply OutLeaves.next
    | with_reducible apply State.lineBits_leaves (part_trans hP (by decide))
    | with_reducible apply State.pfViews_leaves (part_trans hP (by decide))
    | with_reducible apply State.setPf_leaves (part_trans hP (by decide)) | with_reducible intro _ | dsimp only

theorem State.serialFail_leaves {P : Nat} {s₀ s : State} (hP : P &&& 103901305380 = 103901305380) (h : Leaves P s₀ s) (c code t : Nat) :
    Leaves P s₀ (State.serialFail s c code t) := by
  unfold State.serialFail
  repeat' first
    | with_reducible assumption | with_reducible exact cov_trans hP (by decide)
    | with_reducible apply State.pfFault_leaves (part_trans hP (by decide))
    | with_reducible apply State.pfViews_leaves (part_trans hP (by decide)) | with_reducible apply State.raise_leaves
    | with_reducible apply State.setPf_leaves (part_trans hP (by decide)) | with_reducible apply Leaves.ite | split
    | with_reducible intro _ | dsimp only

theorem State.emuLag_leaves {P : Nat} {s₀ s : State} (hP : P &&& 536870912 = 536870912) (h : Leaves P s₀ s) (c : Nat) :
    Leaves P s₀ (State.emuLag s c) := by
  unfold State.emuLag
  repeat' first
    | with_reducible assumption | with_reducible exact cov_trans hP (by decide)
    | with_reducible apply State.put_leaves | dsimp only

theorem State.serialGoodWord_leaves {P : Nat} {s₀ s : State} (hP : P &&& 655805053484 = 655805053484) (h : Leaves P s₀ s) (c pos : Nat) (warn : Bool) (stamp : Int) :
    Leaves P s₀ (State.serialGoodWord s c pos warn stamp) := by
  unfold State.serialGoodWord
  repeat' first
    | with_reducible assumption | with_reducible exact cov_trans hP (by decide)
    | with_reducible apply State.cmpEval_leaves (part_trans hP (by decide))
    | with_reducible apply State.count_leaves (part_trans hP (by decide))
    | with_reducible apply State.emuLag_leaves (part_trans hP (by decide))
    | with_reducible apply State.feedback_leaves (part_trans hP (by decide))
    | with_reducible apply State.pfViews_leaves (part_trans hP (by decide)) | with_reducible apply State.put_leaves
    | with_reducible apply State.raise_leaves
    | with_reducible apply State.serialSpeed_leaves (part_trans hP (by decide))
    | with_reducible apply State.setPf_leaves (part_trans hP (by decide))
    | with_reducible apply State.setPos_leaves (part_trans hP (by decide)) | with_reducible apply State.wr_leaves
    | with_reducible apply Leaves.ite | with_reducible apply Leaves.foldl | split | with_reducible intro _
    | dsimp only

theorem execSerialRequest_leaves {P : Nat} {s₀ s : State} (hP : P &&& 103901305380 = 103901305380) (h : Leaves P s₀ s) (c : Fin 32) (dataLow : Bool) :
    OutLeaves P s₀ (execSerialRequest c dataLow s) := by
  unfold execSerialRequest
  repeat' first
    | with_reducible assumption | with_reducible apply OutLeaves.next
    | with_reducible apply State.serialFail_leaves (part_trans hP (by decide))
    | with_reducible apply State.setPf_leaves (part_trans hP (by decide)) | with_reducible apply OutLeaves.ite | split
    | with_reducible intro _ | dsimp only

theorem execSerialWord_leaves {P : Nat} {s₀ s : State} (hP : P &&& 4398046511100 = 4398046511100) (h : Leaves P s₀ s) (c : Fin 32) (w : SerWord) :
    OutLeaves P s₀ (execSerialWord c w s) := by
  unfold execSerialWord
  repeat' first
    | with_reducible assumption | with_reducible exact cov_trans hP (by decide) | with_reducible apply OutLeaves.next
    | with_reducible apply State.request_leaves (part_trans hP (by decide))
    | with_reducible apply State.serialFail_leaves (part_trans hP (by decide))
    | with_reducible apply State.serialGoodWord_leaves (part_trans hP (by decide))
    | with_reducible apply State.wr_leaves | with_reducible apply OutLeaves.ite | split | with_reducible intro _
    | dsimp only

theorem execSerTimeout_leaves {P : Nat} {s₀ s : State} (hP : P &&& 4398046511100 = 4398046511100) (h : Leaves P s₀ s) (c : Fin 32) :
    OutLeaves P s₀ (execSerTimeout c s) := by
  unfold execSerTimeout
  repeat' first
    | with_reducible assumption | with_reducible apply OutLeaves.next
    | with_reducible apply State.request_leaves (part_trans hP (by decide))
    | with_reducible apply State.serialFail_leaves (part_trans hP (by decide)) | with_reducible apply OutLeaves.ite
    | split | with_reducible intro _

theorem execSpeedUpdate_leaves {P : Nat} {s₀ s : State} (hP : P &&& 822083584 = 822083584) (h : Leaves P s₀ s) (c : Fin 32) :
    OutLeaves P s₀ (execSpeedUpdate c s) := by
  unfold execSpeedUpdate
  repeat' first
    | with_reducible assumption | with_reducible apply OutLeaves.next
    | with_reducible apply State.pfViews_leaves (part_trans hP (by decide))
    | with_reducible apply State.speedAt_leaves (part_trans hP (by decide)) | with_reducible apply OutLeaves.ite
    | split | with_reducible intro _

theorem execStandstill_leaves {P : Nat} {s₀ s : State} (hP : P &&& 822083584 = 822083584) (h : Leaves P s₀ s) (c : Fin 32) :
    OutLeaves P s₀ (execStandstill c s) := by
  unfold execStandstill
  repeat' first
    | with_reducible assumption | with_reducible exact cov_trans hP (by decide) | with_reducible apply OutLeaves.next
    | with_reducible apply State.pfViews_leaves (part_trans hP (by decide)) | with_reducible apply State.raise_leaves
    | with_reducible apply State.speedAt_leaves (part_trans hP (by decide)) | with_reducible apply OutLeaves.ite
    | split | with_reducible intro _

theorem execEmulatedTransition_leaves {P : Nat} {s₀ s : State} (hP : P &&& 553648128 = 553648128) (h : Leaves P s₀ s) (c : Fin 32) :
    OutLeaves P s₀ (execEmulatedTransition c s) := by
  unfold execEmulatedTransition
  repeat' first
    | with_reducible assumption | with_reducible apply OutLeaves.next
    | with_reducible apply State.emuLag_leaves (part_trans hP (by decide))
    | with_reducible apply State.setPf_leaves (part_trans hP (by decide)) | with_reducible apply OutLeaves.ite | split
    | with_reducible intro _ | dsimp only

theorem execOscFault_leaves {P : Nat} {s₀ s : State} (hP : P &&& 536870912 = 536870912) (h : Leaves P s₀ s) :
    OutLeaves P s₀ (execOscFault s) := by
  unfold execOscFault
  repeat' first
    | with_reducible assumption | with_reducible exact cov_trans hP (by decide) | with_reducible apply OutLeaves.next
    | with_reducible apply State.raise_leaves | with_reducible intro _

theorem State.pfRun_leaves {P : Nat} {s₀ s : State} (hP : P &&& 103901305380 = 103901305380) (h : Leaves P s₀ s) (c : Nat) :
    Leaves P s₀ (State.pfRun s c) := by
  unfold State.pfRun
  repeat' first
    | with_reducible assumption | with_reducible exact cov_trans hP (by decide)
    | with_reducible apply State.openFaults_leaves (part_trans hP (by decide))
    | with_reducible apply State.pfCount_leaves (part_trans hP (by decide))
    | with_reducible apply State.pfViews_leaves (part_trans hP (by decide))
    | with_reducible apply State.putSpeed_leaves (part_trans hP (by decide)) | with_reducible apply State.raise_leaves
    | with_reducible apply State.restartSpeed_leaves (part_trans hP (by decide))
    | with_reducible apply State.setPf_leaves (part_trans hP (by decide)) | with_reducible apply State.wr_leaves
    | with_reducible apply Leaves.ite | split | with_reducible intro _ | dsimp only

theorem State.pfRefuse_leaves {P : Nat} {s₀ s : State} (hP : P &&& 805306624 = 805306624) (h : Leaves P s₀ s) (c cause : Nat) :
    Leaves P s₀ (State.pfRefuse s c cause) := by
  unfold State.pfRefuse
  repeat' first
    | with_reducible assumption | with_reducible exact cov_trans hP (by decide)
    | with_reducible apply State.answer_leaves (part_trans hP (by decide))
    | with_reducible apply State.pfCount_leaves (part_trans hP (by decide))
    | with_reducible apply State.pfViews_leaves (part_trans hP (by decide)) | with_reducible apply State.wr_leaves
    | dsimp only

theorem State.pfHalt_leaves {P : Nat} {s₀ s : State} (hP : P &&& 822083584 = 822083584) (h : Leaves P s₀ s) (c st : Nat) :
    Leaves P s₀ (State.pfHalt s c st) := by
  unfold State.pfHalt
  repeat' first
    | with_reducible assumption | with_reducible exact cov_trans hP (by decide)
    | with_reducible apply State.lineBits_leaves (part_trans hP (by decide))
    | with_reducible apply State.pfCount_leaves (part_trans hP (by decide))
    | with_reducible apply State.pfViews_leaves (part_trans hP (by decide))
    | with_reducible apply State.setPf_leaves (part_trans hP (by decide)) | with_reducible apply State.wr_leaves
    | with_reducible intro _ | dsimp only

theorem execPfEnable_leaves {P : Nat} {s₀ s : State} (hP : P &&& 103901305636 = 103901305636) (h : Leaves P s₀ s) (c : Fin 32) (on : Bool) :
    OutLeaves P s₀ (execPfEnable c on s) := by
  unfold execPfEnable
  repeat' first
    | with_reducible assumption | with_reducible exact cov_trans hP (by decide) | with_reducible apply OutLeaves.next
    | with_reducible apply State.answer_leaves (part_trans hP (by decide))
    | with_reducible apply State.loadPos_leaves (part_trans hP (by decide))
    | with_reducible apply State.pfHalt_leaves (part_trans hP (by decide))
    | with_reducible apply State.pfRefuse_leaves (part_trans hP (by decide))
    | with_reducible apply State.pfRun_leaves (part_trans hP (by decide))
    | with_reducible apply State.setPf_leaves (part_trans hP (by decide)) | with_reducible apply State.wr_leaves
    | with_reducible apply OutLeaves.ite | with_reducible apply Leaves.ite | split | with_reducible intro _
    | dsimp only

theorem State.pfRetire_leaves {P : Nat} {s₀ s : State} (hP : P &&& 822083584 = 822083584) (h : Leaves P s₀ s) (c : Nat) :
    Leaves P s₀ (State.pfRetire s c) := by
  unfold State.pfRetire
  repeat' first
    | with_reducible assumption | with_reducible exact cov_trans hP (by decide)
    | with_reducible apply State.pfHalt_leaves (part_trans hP (by decide)) | with_reducible apply State.raise_leaves

theorem State.pfTestStart_leaves {P : Nat} {s₀ s : State} (hP : P &&& 822085632 = 822085632) (h : Leaves P s₀ s) (c : Nat) :
    Leaves P s₀ (State.pfTestStart s c) := by
  unfold State.pfTestStart
  repeat' first
    | with_reducible assumption | with_reducible exact cov_trans hP (by decide)
    | with_reducible apply State.pfHalt_leaves (part_trans hP (by decide))
    | with_reducible apply State.unitTesting_leaves (part_trans hP (by decide)) | with_reducible apply State.wr_leaves

theorem execPfServiceTest_leaves {P : Nat} {s₀ s : State} (hP : P &&& 822085888 = 822085888) (h : Leaves P s₀ s) (c : Fin 32) :
    OutLeaves P s₀ (execPfServiceTest c s) := by
  unfold execPfServiceTest
  repeat' first
    | with_reducible assumption | with_reducible apply OutLeaves.next
    | with_reducible apply State.answer_leaves (part_trans hP (by decide))
    | with_reducible apply State.pfTestStart_leaves (part_trans hP (by decide)) | with_reducible apply OutLeaves.ite
    | split | with_reducible intro _

theorem execPfSelfTestDone_leaves {P : Nat} {s₀ s : State} (hP : P &&& 103901313544 = 103901313544) (h : Leaves P s₀ s) (c : Fin 32) (pass : Bool) :
    OutLeaves P s₀ (execPfSelfTestDone c pass s) := by
  unfold execPfSelfTestDone
  repeat' first
    | with_reducible assumption | with_reducible exact cov_trans hP (by decide) | with_reducible apply OutLeaves.next
    | with_reducible apply State.pfHalt_leaves (part_trans hP (by decide))
    | with_reducible apply State.pfRetire_leaves (part_trans hP (by decide)) | with_reducible apply State.raise_leaves
    | with_reducible apply State.unitTested_leaves (part_trans hP (by decide)) | with_reducible apply OutLeaves.ite
    | split | with_reducible intro _ | dsimp only

theorem State.pfReturn_leaves {P : Nat} {s₀ s : State} (hP : P &&& 103901305636 = 103901305636) (h : Leaves P s₀ s) (c : Nat) :
    Leaves P s₀ (State.pfReturn s c) := by
  unfold State.pfReturn
  repeat' first
    | with_reducible assumption | with_reducible apply State.answer_leaves (part_trans hP (by decide))
    | with_reducible apply State.pfHalt_leaves (part_trans hP (by decide))
    | with_reducible apply State.pfRefuse_leaves (part_trans hP (by decide))
    | with_reducible apply State.pfRun_leaves (part_trans hP (by decide))
    | with_reducible apply State.unitReturned_leaves (part_trans hP (by decide)) | with_reducible apply Leaves.ite
    | split | with_reducible intro _ | dsimp only

theorem execPfServiceReturn_leaves {P : Nat} {s₀ s : State} (hP : P &&& 103901305636 = 103901305636) (h : Leaves P s₀ s) (c : Fin 32) :
    OutLeaves P s₀ (execPfServiceReturn c s) := by
  unfold execPfServiceReturn
  repeat' first
    | with_reducible assumption | with_reducible apply OutLeaves.next
    | with_reducible apply State.answer_leaves (part_trans hP (by decide))
    | with_reducible apply State.pfReturn_leaves (part_trans hP (by decide)) | with_reducible apply OutLeaves.ite
    | split | with_reducible intro _

theorem execPfInternal_leaves {P : Nat} {s₀ s : State} (hP : P &&& 103901313580 = 103901313580) (h : Leaves P s₀ s) (c : Fin 32) :
    OutLeaves P s₀ (execPfInternal c s) := by
  unfold execPfInternal
  repeat' first
    | with_reducible assumption | with_reducible apply OutLeaves.next
    | with_reducible apply State.pfFault_leaves (part_trans hP (by decide))
    | with_reducible apply State.pfRetire_leaves (part_trans hP (by decide))
    | with_reducible apply State.retireUnit_leaves (part_trans hP (by decide)) | with_reducible apply OutLeaves.ite
    | split | with_reducible intro _

end Sys2Proof.Machine
end

