-- ==== Sys2Proof/Laws/LeavesPorts.lean ====
section
/-! SUPPORT. What each operation of Machine/Ports.lean leaves. -/

set_option linter.unusedTactic false
set_option linter.unreachableTactic false

namespace Sys2Proof.Machine

theorem portKind_covers {n i slot : Nat} {en st bist : Field} {obj : ObjDef}
    (h : portKind n = some (en, st, bist, obj, slot, i)) :
    covers 30064771072 en = true ∧ covers 30064771072 st = true ∧ covers 30064771072 bist = true := by
  unfold portKind at h
  split_ifs at h <;> cases h <;> decide

theorem State.setPorts_leaves {P : Nat} {s₀ s : State} (hP : P &&& 8192 = 8192) (h : Leaves P s₀ s) (f : PortsSt → PortsSt) :
    Leaves P s₀ (State.setPorts s f) := by
  unfold State.setPorts
  repeat' first
    | with_reducible assumption | dsimp only | with_reducible apply Leaves.set_ports (part_trans hP (by decide))

theorem State.steer_leaves {P : Nat} {s₀ s : State} (hP : P &&& 8192 = 8192) (h : Leaves P s₀ s) (p : Nat) (b : List Byte) :
    Leaves P s₀ (State.steer s p b) := by
  unfold State.steer
  repeat' first
    | with_reducible assumption | with_reducible exact cov_trans hP (by decide)
    | with_reducible apply State.put_leaves | with_reducible apply State.setPorts_leaves (part_trans hP (by decide))
    | with_reducible intro _ | dsimp only

theorem State.zdpDrop_leaves {P : Nat} {s₀ s : State} (hP : P &&& 4294971392 = 4294971392) (h : Leaves P s₀ s) (p : Nat) :
    Leaves P s₀ (State.zdpDrop s p) := by
  unfold State.zdpDrop
  repeat' first
    | with_reducible assumption | with_reducible exact cov_trans hP (by decide)
    | with_reducible apply State.incSat_leaves | with_reducible apply State.raise_leaves
    | with_reducible apply Leaves.ite | split | with_reducible intro _ | dsimp only
    | with_reducible apply Leaves.set_zdp (part_trans hP (by decide))

theorem State.emStore_leaves {P : Nat} {s₀ s : State} (hP : P &&& 4294967340 = 4294967340) (h : Leaves P s₀ s) (m : Nat) (frame : List Byte) (ptp : Bool) (ago : Nat) :
    Leaves P s₀ (State.emStore s m frame ptp ago) := by
  unfold State.emStore
  repeat' first
    | with_reducible assumption | with_reducible exact cov_trans hP (by decide)
    | with_reducible apply State.gristPut_leaves (part_trans hP (by decide))
    | with_reducible apply State.incSat_leaves | with_reducible apply State.raise_leaves
    | with_reducible apply State.setObjN_leaves (part_trans hP (by decide)) | with_reducible apply State.wr_leaves
    | with_reducible apply Leaves.ite | split | with_reducible intro _ | dsimp only

theorem State.emLink_leaves {P : Nat} {s₀ s : State} (hP : P &&& 4294967296 = 4294967296) (h : Leaves P s₀ s) (m : Nat) :
    Leaves P s₀ (State.emLink s m) := by
  unfold State.emLink
  repeat' first
    | with_reducible assumption | with_reducible exact cov_trans hP (by decide)
    | with_reducible apply State.raise_leaves | with_reducible apply Leaves.ite | split | with_reducible intro _

theorem execEmFrameReceived_leaves {P : Nat} {s₀ s : State} (hP : P &&& 38654750764 = 38654750764) (h : Leaves P s₀ s) (m : Fin 8) (frame : List Byte) (fcsOk : Bool) (agoNs : Nat) :
    OutLeaves P s₀ (execEmFrameReceived m frame fcsOk agoNs s) := by
  unfold execEmFrameReceived
  repeat' first
    | with_reducible assumption | with_reducible apply OutLeaves.next
    | with_reducible apply State.count_leaves (part_trans hP (by decide))
    | with_reducible apply State.emLink_leaves (part_trans hP (by decide))
    | with_reducible apply State.emStore_leaves (part_trans hP (by decide))
    | with_reducible apply State.noteGate_leaves (part_trans hP (by decide))
    | with_reducible apply State.setObjN_leaves (part_trans hP (by decide))
    | with_reducible apply State.steer_leaves (part_trans hP (by decide))
    | with_reducible apply State.zdpDrop_leaves (part_trans hP (by decide)) | with_reducible apply OutLeaves.ite
    | with_reducible apply Leaves.ite | split | with_reducible intro _ | dsimp only

theorem State.setTx_leaves {P : Nat} {s₀ s : State} (hP : P &&& 8192 = 8192) (h : Leaves P s₀ s) (m : Nat) (f : TxState → TxState) :
    Leaves P s₀ (State.setTx s m f) := by
  unfold State.setTx
  repeat' first
    | with_reducible assumption | with_reducible apply State.setPorts_leaves (part_trans hP (by decide))
    | with_reducible intro _ | dsimp only

theorem State.txStart_leaves {P : Nat} {s₀ s : State} (hP : P &&& 110592 = 110592) (h : Leaves P s₀ s) (m : Nat) :
    Leaves P s₀ (State.txStart s m) := by
  unfold State.txStart
  repeat' first
    | with_reducible assumption | with_reducible apply State.setTx_leaves (part_trans hP (by decide))
    | with_reducible apply Leaves.ite | split | with_reducible intro _ | dsimp only
    | with_reducible apply Leaves.set_claims (part_trans hP (by decide))
    | with_reducible apply Leaves.set_gate (part_trans hP (by decide))
    | with_reducible apply Leaves.set_zdp (part_trans hP (by decide))

theorem State.txDone_leaves {P : Nat} {s₀ s : State} (hP : P &&& 38654713900 = 38654713900) (h : Leaves P s₀ s) (m : Nat) (f : TxFrame) :
    Leaves P s₀ (State.txDone s m f) := by
  unfold State.txDone
  repeat' first
    | with_reducible assumption | with_reducible exact cov_trans hP (by decide)
    | with_reducible apply State.count_leaves (part_trans hP (by decide))
    | with_reducible apply State.emLink_leaves (part_trans hP (by decide))
    | with_reducible apply State.gristPut_leaves (part_trans hP (by decide))
    | with_reducible apply State.latency_leaves (part_trans hP (by decide)) | with_reducible apply State.raise_leaves
    | with_reducible apply State.setObjN_leaves (part_trans hP (by decide))
    | with_reducible apply State.setTx_leaves (part_trans hP (by decide)) | with_reducible apply State.wr_leaves
    | with_reducible apply Leaves.ite | split | with_reducible intro _ | dsimp only

theorem execEmFrameSent_leaves {P : Nat} {s₀ s : State} (hP : P &&& 38654816300 = 38654816300) (h : Leaves P s₀ s) (m : Fin 8) :
    OutLeaves P s₀ (execEmFrameSent m s) := by
  unfold execEmFrameSent
  repeat' first
    | with_reducible assumption | with_reducible apply OutLeaves.next
    | with_reducible apply State.txDone_leaves (part_trans hP (by decide))
    | with_reducible apply State.txStart_leaves (part_trans hP (by decide)) | with_reducible apply OutLeaves.ite
    | split | with_reducible intro _ | dsimp only

theorem execTxTailWrite_leaves {P : Nat} {s₀ s : State} (hP : P &&& 64424620032 = 64424620032) (h : Leaves P s₀ s) (p : PortNo) (q : Fin 4) (v : Word) :
    OutLeaves P s₀ (execTxTailWrite p q v s) := by
  unfold execTxTailWrite
  repeat' first
    | with_reducible assumption | with_reducible exact cov_trans hP (by decide) | with_reducible apply OutLeaves.next
    | with_reducible apply State.count_leaves (part_trans hP (by decide))
    | with_reducible apply State.noteLink_leaves (part_trans hP (by decide)) | with_reducible apply State.put_leaves
    | with_reducible apply State.raise_leaves | with_reducible apply State.setPorts_leaves (part_trans hP (by decide))
    | with_reducible apply State.setTx_leaves (part_trans hP (by decide))
    | with_reducible apply State.txStart_leaves (part_trans hP (by decide)) | with_reducible apply State.wr_leaves
    | with_reducible apply OutLeaves.ite | with_reducible apply Leaves.ite | with_reducible apply Leaves.foldl | split
    | with_reducible intro _ | dsimp only

theorem State.xlStore_leaves {P : Nat} {s₀ s : State} (hP : P &&& 8589934628 = 8589934628) (h : Leaves P s₀ s) (l : Nat) (frame : List Byte) :
    Leaves P s₀ (State.xlStore s l frame) := by
  unfold State.xlStore
  repeat' first
    | with_reducible assumption | with_reducible exact cov_trans hP (by decide)
    | with_reducible apply State.gristPut_leaves (part_trans hP (by decide)) | with_reducible apply State.raise_leaves
    | with_reducible apply State.wr_leaves | with_reducible apply Leaves.ite | split | with_reducible intro _
    | dsimp only

theorem State.peerAlarm_leaves {P : Nat} {s₀ s : State} (hP : P &&& 68719478784 = 68719478784) (h : Leaves P s₀ s) (payload : List Byte) :
    Leaves P s₀ (State.peerAlarm s payload) := by
  unfold State.peerAlarm
  repeat' first
    | with_reducible assumption | with_reducible apply State.takeAlarm_leaves (part_trans hP (by decide))
    | with_reducible apply Leaves.ite | split | with_reducible intro _

theorem execPeerFrameReceived_leaves {P : Nat} {s₀ s : State} (hP : P &&& 661425023020 = 661425023020) (h : Leaves P s₀ s) (link : Fin 4) (f : PeerFrame) :
    OutLeaves P s₀ (execPeerFrameReceived link f s) := by
  unfold execPeerFrameReceived
  repeat' first
    | with_reducible assumption | with_reducible exact cov_trans hP (by decide) | with_reducible apply OutLeaves.next
    | with_reducible apply State.count_leaves (part_trans hP (by decide))
    | with_reducible apply State.hear_leaves (part_trans hP (by decide)) | with_reducible apply State.incSat_leaves
    | with_reducible apply State.peerAlarm_leaves (part_trans hP (by decide))
    | with_reducible apply State.raise_leaves | with_reducible apply State.setObjN_leaves (part_trans hP (by decide))
    | with_reducible apply State.steer_leaves (part_trans hP (by decide)) | with_reducible apply State.wr_leaves
    | with_reducible apply State.xlStore_leaves (part_trans hP (by decide)) | with_reducible apply OutLeaves.ite
    | split | with_reducible intro _ | dsimp only

theorem execFrameAlignment_leaves {P : Nat} {s₀ s : State} (hP : P &&& 8589934592 = 8589934592) (h : Leaves P s₀ s) (link : Fin 4) (up : Bool) :
    OutLeaves P s₀ (execFrameAlignment link up s) := by
  unfold execFrameAlignment
  repeat' first
    | with_reducible assumption | with_reducible exact cov_trans hP (by decide) | with_reducible apply OutLeaves.next
    | with_reducible apply State.put_leaves | with_reducible apply State.raise_leaves
    | with_reducible apply OutLeaves.ite | split | with_reducible intro _

theorem State.suErr_leaves {P : Nat} {s₀ s : State} (hP : P &&& 8 = 8) (h : Leaves P s₀ s) (f : Field) (hf_f : covers P f = true) (k u : Nat) :
    Leaves P s₀ (State.suErr s f k u) := by
  unfold State.suErr
  repeat' first
    | with_reducible assumption | with_reducible exact cov_trans hP (by decide)
    | with_reducible apply State.incSat_leaves | with_reducible apply State.setObj_leaves (part_trans hP (by decide))
    | dsimp only

theorem State.suByte_leaves {P : Nat} {s₀ s : State} (hP : P &&& 17179869228 = 17179869228) (h : Leaves P s₀ s) (u : Nat) (c : Byte) :
    Leaves P s₀ (State.suByte s u c) := by
  unfold State.suByte
  repeat' first
    | with_reducible assumption | with_reducible exact cov_trans hP (by decide)
    | with_reducible apply State.gristPut_leaves (part_trans hP (by decide)) | with_reducible apply State.raise_leaves
    | with_reducible apply State.suErr_leaves (part_trans hP (by decide)) | with_reducible apply State.wr_leaves
    | with_reducible apply Leaves.ite | split | with_reducible intro _ | dsimp only

theorem State.suStamp_leaves {P : Nat} {s₀ s : State} (hP : P &&& 51539607588 = 51539607588) (h : Leaves P s₀ s) (u kind ago : Nat) :
    Leaves P s₀ (State.suStamp s u kind ago) := by
  unfold State.suStamp
  repeat' first
    | with_reducible assumption | with_reducible exact cov_trans hP (by decide)
    | with_reducible apply State.count_leaves (part_trans hP (by decide))
    | with_reducible apply State.gristPut_leaves (part_trans hP (by decide)) | with_reducible apply State.raise_leaves
    | with_reducible apply State.wr_leaves | dsimp only

theorem State.suZdp_leaves {P : Nat} {s₀ s : State} (hP : P &&& 4294979584 = 4294979584) (h : Leaves P s₀ s) (u : Nat) (c : Byte) :
    Leaves P s₀ (State.suZdp s u c) := by
  unfold State.suZdp
  repeat' first
    | with_reducible assumption | with_reducible exact cov_trans hP (by decide)
    | with_reducible apply State.put_leaves | with_reducible apply State.setPorts_leaves (part_trans hP (by decide))
    | with_reducible apply State.steer_leaves (part_trans hP (by decide))
    | with_reducible apply State.zdpDrop_leaves (part_trans hP (by decide)) | with_reducible apply Leaves.ite | split
    | with_reducible intro _ | dsimp only

theorem execSuCharacter_leaves {P : Nat} {s₀ s : State} (hP : P &&& 55834587180 = 55834587180) (h : Leaves P s₀ s) (u : Fin 8) (c : Byte) (parity framing overrun : Bool) :
    OutLeaves P s₀ (execSuCharacter u c parity framing overrun s) := by
  unfold execSuCharacter
  repeat' first
    | with_reducible assumption | with_reducible exact cov_trans hP (by decide) | with_reducible apply OutLeaves.next
    | with_reducible apply State.count_leaves (part_trans hP (by decide)) | with_reducible apply State.put_leaves
    | with_reducible apply State.raise_leaves | with_reducible apply State.setObjN_leaves (part_trans hP (by decide))
    | with_reducible apply State.setPorts_leaves (part_trans hP (by decide))
    | with_reducible apply State.suByte_leaves (part_trans hP (by decide))
    | with_reducible apply State.suErr_leaves (part_trans hP (by decide))
    | with_reducible apply State.suStamp_leaves (part_trans hP (by decide))
    | with_reducible apply State.suZdp_leaves (part_trans hP (by decide)) | with_reducible apply OutLeaves.ite
    | with_reducible apply Leaves.ite | split | with_reducible intro _ | dsimp only

theorem State.portLoad_leaves {P : Nat} {s₀ s : State} (hP : P &&& 21474836480 = 21474836480) (h : Leaves P s₀ s) (n : Nat) :
    Leaves P s₀ (State.portLoad s n) := by
  unfold State.portLoad
  repeat' first
    | with_reducible assumption | with_reducible exact cov_trans hP (by decide)
    | with_reducible apply State.put_leaves | with_reducible apply State.wr_leaves | with_reducible apply Leaves.ite
    | split | with_reducible intro _ | dsimp only

theorem State.portClear_leaves {P : Nat} {s₀ s : State} (hP : P &&& 4294975488 = 4294975488) (h : Leaves P s₀ s) (n : Nat) :
    Leaves P s₀ (State.portClear s n) := by
  unfold State.portClear
  repeat' first
    | with_reducible assumption | with_reducible exact cov_trans hP (by decide)
    | with_reducible apply State.put_leaves | with_reducible apply State.setPorts_leaves (part_trans hP (by decide))
    | with_reducible apply State.setTx_leaves (part_trans hP (by decide)) | with_reducible apply State.wr_leaves
    | with_reducible apply Leaves.ite | split | with_reducible intro _ | dsimp only

theorem State.portStart_leaves {P : Nat} {s₀ s : State} (hP : P &&& 30064881664 = 30064881664) (h : Leaves P s₀ s) (n : Nat) :
    Leaves P s₀ (State.portStart s n) := by
  unfold State.portStart
  repeat' first
    | with_reducible assumption | with_reducible exact cov_trans (part_trans hP (by decide)) (portKind_covers ‹_›).2.2
    | with_reducible exact cov_trans (part_trans hP (by decide)) (portKind_covers ‹_›).2.1
    | with_reducible exact cov_trans (part_trans hP (by decide)) (portKind_covers ‹_›).1
    | with_reducible exact cov_trans hP (by decide)
    | with_reducible apply State.portClear_leaves (part_trans hP (by decide))
    | with_reducible apply State.txStart_leaves (part_trans hP (by decide)) | with_reducible apply State.wr_leaves
    | with_reducible apply Leaves.ite | split | with_reducible intro _ | dsimp only

theorem execPortEnable_leaves {P : Nat} {s₀ s : State} (hP : P &&& 30064881928 = 30064881928) (h : Leaves P s₀ s) (p : PortNo) (on order : Bool) :
    OutLeaves P s₀ (execPortEnable p on order s) := by
  unfold execPortEnable
  repeat' first
    | with_reducible assumption | with_reducible exact cov_trans (part_trans hP (by decide)) (portKind_covers ‹_›).2.2
    | with_reducible exact cov_trans (part_trans hP (by decide)) (portKind_covers ‹_›).2.1
    | with_reducible exact cov_trans (part_trans hP (by decide)) (portKind_covers ‹_›).1
    | with_reducible exact cov_trans hP (by decide) | with_reducible apply OutLeaves.next
    | with_reducible apply State.answer_leaves (part_trans hP (by decide))
    | with_reducible apply State.portClear_leaves (part_trans hP (by decide))
    | with_reducible apply State.portLoad_leaves (part_trans hP (by decide))
    | with_reducible apply State.portStart_leaves (part_trans hP (by decide))
    | with_reducible apply State.setObjN_leaves (part_trans hP (by decide)) | with_reducible apply State.wr_leaves
    | with_reducible apply OutLeaves.ite | with_reducible apply Leaves.ite | split | with_reducible intro _
    | dsimp only

theorem State.portTestStart_leaves {P : Nat} {s₀ s : State} (hP : P &&& 30064781312 = 30064781312) (h : Leaves P s₀ s) (n : Nat) :
    Leaves P s₀ (State.portTestStart s n) := by
  unfold State.portTestStart
  repeat' first
    | with_reducible assumption | with_reducible exact cov_trans (part_trans hP (by decide)) (portKind_covers ‹_›).2.2
    | with_reducible exact cov_trans (part_trans hP (by decide)) (portKind_covers ‹_›).2.1
    | with_reducible exact cov_trans (part_trans hP (by decide)) (portKind_covers ‹_›).1
    | with_reducible exact cov_trans hP (by decide)
    | with_reducible apply State.portClear_leaves (part_trans hP (by decide))
    | with_reducible apply State.unitTesting_leaves (part_trans hP (by decide)) | with_reducible apply State.wr_leaves
    | split | with_reducible intro _

theorem execPortServiceTest_leaves {P : Nat} {s₀ s : State} (hP : P &&& 30064781568 = 30064781568) (h : Leaves P s₀ s) (p : PortNo) :
    OutLeaves P s₀ (execPortServiceTest p s) := by
  unfold execPortServiceTest
  repeat' first
    | with_reducible assumption | with_reducible apply OutLeaves.next
    | with_reducible apply State.answer_leaves (part_trans hP (by decide))
    | with_reducible apply State.portTestStart_leaves (part_trans hP (by decide)) | with_reducible apply OutLeaves.ite
    | split | with_reducible intro _

theorem State.portRetire_leaves {P : Nat} {s₀ s : State} (hP : P &&& 30064779264 = 30064779264) (h : Leaves P s₀ s) (n : Nat) :
    Leaves P s₀ (State.portRetire s n) := by
  unfold State.portRetire
  repeat' first
    | with_reducible assumption | with_reducible exact cov_trans (part_trans hP (by decide)) (portKind_covers ‹_›).2.2
    | with_reducible exact cov_trans (part_trans hP (by decide)) (portKind_covers ‹_›).2.1
    | with_reducible exact cov_trans (part_trans hP (by decide)) (portKind_covers ‹_›).1
    | with_reducible exact cov_trans hP (by decide)
    | with_reducible apply State.portClear_leaves (part_trans hP (by decide))
    | with_reducible apply State.raise_leaves | with_reducible apply State.wr_leaves | with_reducible apply Leaves.ite
    | split | with_reducible intro _ | dsimp only

theorem execPortSelfTestDone_leaves {P : Nat} {s₀ s : State} (hP : P &&& 133144001032 = 133144001032) (h : Leaves P s₀ s) (p : PortNo) (pass : Bool) :
    OutLeaves P s₀ (execPortSelfTestDone p pass s) := by
  unfold execPortSelfTestDone
  repeat' first
    | with_reducible assumption | with_reducible exact cov_trans (part_trans hP (by decide)) (portKind_covers ‹_›).2.2
    | with_reducible exact cov_trans (part_trans hP (by decide)) (portKind_covers ‹_›).2.1
    | with_reducible exact cov_trans (part_trans hP (by decide)) (portKind_covers ‹_›).1
    | with_reducible exact cov_trans hP (by decide) | with_reducible apply OutLeaves.next
    | with_reducible apply State.portRetire_leaves (part_trans hP (by decide))
    | with_reducible apply State.raise_leaves
    | with_reducible apply State.unitTested_leaves (part_trans hP (by decide)) | with_reducible apply State.wr_leaves
    | with_reducible apply OutLeaves.ite | split | with_reducible intro _ | dsimp only

theorem State.portReturn_leaves {P : Nat} {s₀ s : State} (hP : P &&& 98784360960 = 98784360960) (h : Leaves P s₀ s) (n : Nat) :
    Leaves P s₀ (State.portReturn s n) := by
  unfold State.portReturn
  repeat' first
    | with_reducible assumption | with_reducible exact cov_trans (part_trans hP (by decide)) (portKind_covers ‹_›).2.2
    | with_reducible exact cov_trans (part_trans hP (by decide)) (portKind_covers ‹_›).2.1
    | with_reducible exact cov_trans (part_trans hP (by decide)) (portKind_covers ‹_›).1
    | with_reducible exact cov_trans hP (by decide)
    | with_reducible apply State.portStart_leaves (part_trans hP (by decide))
    | with_reducible apply State.unitReturned_leaves (part_trans hP (by decide))
    | with_reducible apply State.wr_leaves | with_reducible apply Leaves.ite | split | with_reducible intro _
    | dsimp only

theorem execPortServiceReturn_leaves {P : Nat} {s₀ s : State} (hP : P &&& 98784361216 = 98784361216) (h : Leaves P s₀ s) (p : PortNo) :
    OutLeaves P s₀ (execPortServiceReturn p s) := by
  unfold execPortServiceReturn
  repeat' first
    | with_reducible assumption | with_reducible apply OutLeaves.next
    | with_reducible apply State.answer_leaves (part_trans hP (by decide))
    | with_reducible apply State.portReturn_leaves (part_trans hP (by decide)) | with_reducible apply OutLeaves.ite
    | split | with_reducible intro _

end Sys2Proof.Machine
end

