-- ==== Sys2Proof/Laws/LeavesReset.lean ====
section
/-! SUPPORT. What each operation of Machine/Reset.lean leaves. -/

set_option linter.unusedTactic false
set_option linter.unreachableTactic false

namespace Sys2Proof.Machine

theorem Map.sorted_keptDict (l : List HeldEntry) (m : Map Val) (h : Map.sorted m = true) :
    Map.sorted (l.foldr (fun e d => match e with
      | .persist k v => Map.put d k v
      | _ => d) m) = true := by
  induction l with
  | nil => exact h
  | cons e l ih =>
    simp only [List.foldr_cons]
    split
    · exact Map.sorted_put _ _ ih
    · exact ih

theorem Reg.resetValues_sorted : Map.sorted Reg.resetValues = true := by decide

theorem State.keptRegs_sorted (s : State) (por : Bool) : Map.sorted (s.keptRegs por) = true := by
  unfold State.keptRegs
  generalize Reg.resetValues = m, Reg.resetValues_sorted = h
  induction keptFields por generalizing m with
  | nil => exact h
  | cons f fs ih => exact ih _ (Map.sorted_put _ _ h)

theorem State.cleared_tidy (s : State) (por : Bool) (h : s.tidy = true) : (s.cleared por).tidy = true := by
  simp only [State.tidy, Bool.and_eq_true, State.cleared] at h ⊢
  refine ⟨⟨?_, State.keptRegs_sorted s por⟩, Map.sorted_filter _ (Map.sorted_keptDict _ _ h.2)⟩
  split
  · rfl
  · exact h.1.1

theorem State.cleared_leaves {P : Nat} {s₀ s : State} (hP : P &&& 4398046510588 = 4398046510588) (h : Leaves P s₀ s) (por : Bool) :
    Leaves P s₀ (s.cleared por) := by
  have bit (i : Nat) (k : 4398046510588 &&& 2 ^ i = 2 ^ i) (x : P.testBit i = false) {Q : Prop} : Q := by
    have := part_bit i (part_trans hP k)
    simp [this] at x
  constructor
  · exact fun x => State.cleared_tidy s por (h.tidy x)
  · exact fun x => h.pending x
  · intro k x
    rw [allBlocks_test (part_trans hP (by decide))] at x
    cases x
  all_goals first
    | exact fun x => h.fresh x
    | exact fun x => bit _ (by decide) x

theorem State.hubReset_leaves {P : Nat} {s₀ s : State} (hP : P &&& 4398046510588 = 4398046510588) (h : Leaves P s₀ s) (por : Bool) (cause : Option Nat) :
    Leaves P s₀ (State.hubReset s por cause) := by
  unfold State.hubReset
  repeat' first
    | with_reducible assumption | with_reducible exact cov_trans hP (by decide)
    | with_reducible apply State.cleared_leaves (part_trans hP (by decide)) | with_reducible apply State.raise_leaves
    | with_reducible apply State.wr_leaves | with_reducible apply Leaves.ite | split | with_reducible intro _
    | dsimp only

theorem State.holdIfExhausted_leaves {P : Nat} {s₀ s : State} (hP : P &&& 4398046510588 = 4398046510588) (h : Leaves P s₀ s) :
    Leaves P s₀ (State.holdIfExhausted s) := by
  unfold State.holdIfExhausted
  repeat' first
    | with_reducible assumption | with_reducible apply State.hubReset_leaves (part_trans hP (by decide))
    | with_reducible apply Leaves.ite | split | with_reducible intro _

theorem execPorstNLow_leaves {P : Nat} {s₀ s : State} (hP : P &&& 4398046510588 = 4398046510588) (h : Leaves P s₀ s) :
    OutLeaves P s₀ (execPorstNLow s) := by
  unfold execPorstNLow
  repeat' first
    | with_reducible assumption | with_reducible apply OutLeaves.next
    | with_reducible apply State.hubReset_leaves (part_trans hP (by decide)) | with_reducible intro _

theorem execReferenceLost_leaves {P : Nat} {s₀ s : State} (hP : P &&& 4398046510588 = 4398046510588) (h : Leaves P s₀ s) :
    OutLeaves P s₀ (execReferenceLost s) := by
  unfold execReferenceLost
  repeat' first
    | with_reducible assumption | with_reducible apply OutLeaves.next
    | with_reducible apply State.hubReset_leaves (part_trans hP (by decide)) | with_reducible intro _

theorem execVcoreBelow060_leaves {P : Nat} {s₀ s : State} (hP : P &&& 4398046510588 = 4398046510588) (h : Leaves P s₀ s) :
    OutLeaves P s₀ (execVcoreBelow060 s) := by
  unfold execVcoreBelow060
  repeat' first
    | with_reducible assumption | with_reducible apply OutLeaves.next
    | with_reducible apply State.hubReset_leaves (part_trans hP (by decide)) | with_reducible intro _

theorem execJtagHubReset_leaves {P : Nat} {s₀ s : State} (hP : P &&& 4398046510588 = 4398046510588) (h : Leaves P s₀ s) :
    OutLeaves P s₀ (execJtagHubReset s) := by
  unfold execJtagHubReset
  repeat' first
    | with_reducible assumption | with_reducible apply OutLeaves.next
    | with_reducible apply State.hubReset_leaves (part_trans hP (by decide)) | with_reducible intro _ | dsimp only
    | with_reducible apply Leaves.set_hub (part_trans hP (by decide))

theorem execJtagTapReset_leaves {P : Nat} {s₀ s : State} (hP : P &&& 1048576 = 1048576) (h : Leaves P s₀ s) :
    OutLeaves P s₀ (execJtagTapReset s) := by
  unfold execJtagTapReset
  repeat' first
    | with_reducible assumption | with_reducible apply OutLeaves.next | with_reducible intro _ | dsimp only
    | with_reducible apply Leaves.set_hub (part_trans hP (by decide))

theorem execSupRestart_leaves {P : Nat} {s₀ s : State} (hP : P &&& 4398046510588 = 4398046510588) (h : Leaves P s₀ s) (key : Word) :
    OutLeaves P s₀ (execSupRestart key s) := by
  unfold execSupRestart
  repeat' first
    | with_reducible assumption | with_reducible apply OutLeaves.next
    | with_reducible apply State.hubReset_leaves (part_trans hP (by decide)) | with_reducible apply OutLeaves.ite
    | with_reducible apply Leaves.ite | split | with_reducible intro _

theorem execWatchdogEnable_leaves {P : Nat} {s₀ s : State} (hP : P &&& 1099512676352 = 1099512676352) (h : Leaves P s₀ s) (v : Word) :
    OutLeaves P s₀ (execWatchdogEnable v s) := by
  unfold execWatchdogEnable
  repeat' first
    | with_reducible assumption | with_reducible exact cov_trans hP (by decide) | with_reducible apply OutLeaves.next
    | with_reducible apply State.wr_leaves | with_reducible apply OutLeaves.ite | with_reducible apply Leaves.ite
    | split | with_reducible intro _ | dsimp only | with_reducible apply Leaves.set_hub (part_trans hP (by decide))

theorem execWatchdogKick_leaves {P : Nat} {s₀ s : State} (hP : P &&& 1048576 = 1048576) (h : Leaves P s₀ s) (core : Fin 4) :
    OutLeaves P s₀ (execWatchdogKick core s) := by
  unfold execWatchdogKick
  repeat' first
    | with_reducible assumption | with_reducible exact cov_trans hP (by decide) | with_reducible apply OutLeaves.next
    | with_reducible apply State.put_leaves | with_reducible intro _ | dsimp only
    | with_reducible apply Leaves.set_hub (part_trans hP (by decide))

theorem execWatchdogExpiry_leaves {P : Nat} {s₀ s : State} (hP : P &&& 4398046510588 = 4398046510588) (h : Leaves P s₀ s) :
    OutLeaves P s₀ (execWatchdogExpiry s) := by
  unfold execWatchdogExpiry
  repeat' first
    | with_reducible assumption | with_reducible apply OutLeaves.next
    | with_reducible apply State.hubReset_leaves (part_trans hP (by decide)) | with_reducible apply OutLeaves.ite
    | with_reducible apply Leaves.ite | split | with_reducible intro _

theorem execTrialConfirm_leaves {P : Nat} {s₀ s : State} (hP : P &&& 1099512676352 = 1099512676352) (h : Leaves P s₀ s) :
    OutLeaves P s₀ (execTrialConfirm s) := by
  unfold execTrialConfirm
  repeat' first
    | with_reducible assumption | with_reducible exact cov_trans hP (by decide) | with_reducible apply OutLeaves.next
    | with_reducible apply State.wr_leaves | with_reducible apply trial_leaves | with_reducible intro _ | dsimp only
    | with_reducible apply Leaves.set_hub (part_trans hP (by decide))

theorem execTrialExpiry_leaves {P : Nat} {s₀ s : State} (hP : P &&& 4398046510588 = 4398046510588) (h : Leaves P s₀ s) :
    OutLeaves P s₀ (execTrialExpiry s) := by
  unfold execTrialExpiry
  repeat' first
    | with_reducible assumption | with_reducible apply OutLeaves.next
    | with_reducible apply State.hubReset_leaves (part_trans hP (by decide)) | with_reducible apply trial_leaves
    | with_reducible apply OutLeaves.ite | with_reducible apply Leaves.ite | split | with_reducible intro _

end Sys2Proof.Machine
end

