-- ==== Sys2Proof/Laws/LeavesStages.lean ====
section
/-! SUPPORT. What each operation of Machine/Stages.lean leaves. -/

set_option linter.unusedTactic false
set_option linter.unreachableTactic false

namespace Sys2Proof.Machine

theorem execJobDelivery_leaves {P : Nat} {s₀ s : State} (hP : P &&& 2854315031084 = 2854315031084) (h : Leaves P s₀ s) (ctx : BitVec 8) (lost : Bool) (case : Option (Fin 48 × CaseFigures)) :
    OutLeaves P s₀ (execJobDelivery ctx lost case s) := by
  unfold execJobDelivery
  repeat' first
    | with_reducible assumption | with_reducible apply OutLeaves.next
    | with_reducible apply State.afterCa_leaves (part_trans hP (by decide))
    | with_reducible apply State.afterEstimate_leaves (part_trans hP (by decide))
    | with_reducible apply State.afterPlan_leaves (part_trans hP (by decide))
    | with_reducible apply State.afterVisual_leaves (part_trans hP (by decide))
    | with_reducible apply State.deliver_leaves (part_trans hP (by decide))
    | with_reducible apply State.judgeCase_leaves (part_trans hP (by decide)) | with_reducible apply OutLeaves.ite
    | with_reducible apply Leaves.ite | split | with_reducible intro _ | dsimp only

theorem State.setPipe_leaves {P : Nat} {s₀ s : State} (hP : P &&& 2097152 = 2097152) (h : Leaves P s₀ s) (f : PipeSt → PipeSt) :
    Leaves P s₀ (State.setPipe s f) := by
  unfold State.setPipe
  repeat' first
    | with_reducible assumption | with_reducible apply State.setFabric_leaves (part_trans hP (by decide))
    | with_reducible intro _ | dsimp only

theorem execPipelineStart_leaves {P : Nat} {s₀ s : State} (hP : P &&& 656331438636 = 656331438636) (h : Leaves P s₀ s) :
    OutLeaves P s₀ (execPipelineStart s) := by
  unfold execPipelineStart
  repeat' first
    | with_reducible assumption | with_reducible exact cov_trans hP (by decide) | with_reducible apply OutLeaves.next
    | with_reducible apply Run.go_leaves (part_trans hP (by decide))
    | with_reducible apply State.alarm_leaves (part_trans hP (by decide)) | with_reducible apply State.raise_leaves
    | with_reducible apply State.setEst_leaves (part_trans hP (by decide))
    | with_reducible apply State.setObjN_leaves (part_trans hP (by decide))
    | with_reducible apply State.setPipe_leaves (part_trans hP (by decide))
    | with_reducible apply State.setPlan_leaves (part_trans hP (by decide))
    | with_reducible apply State.takeSettings_leaves (part_trans hP (by decide)) | with_reducible apply OutLeaves.ite
    | with_reducible apply Leaves.ite | split | with_reducible intro _ | dsimp only
    | with_reducible apply Leaves.set_stages (part_trans hP (by decide))

theorem State.originate_leaves {P : Nat} {s₀ s : State} (hP : P &&& 584115581960 = 584115581960) (h : Leaves P s₀ s) (index sub : Nat) (value : List Byte) :
    Leaves P s₀ (State.originate s index sub value) := by
  unfold State.originate
  repeat' first
    | with_reducible assumption | with_reducible apply State.acceptOrder_leaves (part_trans hP (by decide))
    | with_reducible apply State.setJ_leaves (part_trans hP (by decide)) | with_reducible intro _ | dsimp only

theorem State.rotationTest_leaves {P : Nat} {s₀ s : State} (hP : P &&& 652835094024 = 652835094024) (h : Leaves P s₀ s) :
    Leaves P s₀ (State.rotationTest s) := by
  unfold State.rotationTest
  repeat' first
    | with_reducible assumption | with_reducible apply State.event_leaves (part_trans hP (by decide))
    | with_reducible apply State.originate_leaves (part_trans hP (by decide)) | with_reducible apply Leaves.ite
    | split | with_reducible intro _ | dsimp only | with_reducible apply Leaves.set_claims (part_trans hP (by decide))

theorem State.tuneOmega_leaves {P : Nat} {s₀ s : State} (hP : P &&& 8 = 8) (h : Leaves P s₀ s) :
    Leaves P s₀ (State.tuneOmega s) := by
  unfold State.tuneOmega
  repeat' first
    | with_reducible assumption | with_reducible apply State.setObjN_leaves (part_trans hP (by decide))
    | with_reducible apply Leaves.ite | with_reducible apply Leaves.foldl | split | with_reducible intro _
    | dsimp only

theorem State.costCheck_leaves {P : Nat} {s₀ s : State} (hP : P &&& 103083424264 = 103083424264) (h : Leaves P s₀ s) (work : Nat) :
    Leaves P s₀ (State.costCheck s work) := by
  unfold State.costCheck
  repeat' first
    | with_reducible assumption | with_reducible apply State.alarm_leaves (part_trans hP (by decide))
    | with_reducible apply State.setEst_leaves (part_trans hP (by decide)) | with_reducible apply Leaves.ite | split
    | with_reducible intro _ | dsimp only

theorem State.writeReqs_leaves {P : Nat} {s₀ s : State} (hP : P &&& 37748744 = 37748744) (h : Leaves P s₀ s) (w : WorkSums) :
    Leaves P s₀ (State.writeReqs s w) := by
  unfold State.writeReqs
  repeat' first
    | with_reducible assumption | with_reducible exact cov_trans hP (by decide)
    | with_reducible apply State.setObjN_leaves (part_trans hP (by decide))
    | with_reducible apply State.setPlan_leaves (part_trans hP (by decide)) | with_reducible apply State.wr_leaves
    | with_reducible apply Leaves.ite | split | with_reducible intro _ | dsimp only

theorem execTenSecondBoundary_leaves {P : Nat} {s₀ s : State} (hP : P &&& 652942048776 = 652942048776) (h : Leaves P s₀ s) (w : WorkSums) :
    OutLeaves P s₀ (execTenSecondBoundary w s) := by
  unfold execTenSecondBoundary
  repeat' first
    | with_reducible assumption | with_reducible apply OutLeaves.next
    | with_reducible apply State.applyDatum_leaves (part_trans hP (by decide))
    | with_reducible apply State.costCheck_leaves (part_trans hP (by decide))
    | with_reducible apply State.kiln_leaves (part_trans hP (by decide))
    | with_reducible apply State.replan_leaves (part_trans hP (by decide))
    | with_reducible apply State.rotationTest_leaves (part_trans hP (by decide))
    | with_reducible apply State.setPipe_leaves (part_trans hP (by decide))
    | with_reducible apply State.takeSettings_leaves (part_trans hP (by decide))
    | with_reducible apply State.tuneOmega_leaves (part_trans hP (by decide))
    | with_reducible apply State.writeReqs_leaves (part_trans hP (by decide)) | with_reducible apply OutLeaves.ite
    | with_reducible apply Leaves.ite | split | with_reducible intro _ | dsimp only

theorem State.caskFail_leaves {P : Nat} {s₀ s : State} (hP : P &&& 652835060232 = 652835060232) (h : Leaves P s₀ s) (cause : FaultCause) :
    Leaves P s₀ (State.caskFail s cause) := by
  unfold State.caskFail
  repeat' first
    | with_reducible assumption | with_reducible exact cov_trans hP (by decide)
    | with_reducible apply State.chooseSequencer_leaves (part_trans hP (by decide))
    | with_reducible apply State.raise_leaves
    | with_reducible apply State.retireUnit_leaves (part_trans hP (by decide))
    | with_reducible apply State.setJ_leaves (part_trans hP (by decide))
    | with_reducible apply State.setJState_leaves (part_trans hP (by decide)) | with_reducible intro _ | dsimp only

theorem State.dieLinkFail_leaves {P : Nat} {s₀ s : State} (hP : P &&& 2302205245960 = 2302205245960) (h : Leaves P s₀ s) (k : Nat) (cause : FaultCause) :
    Leaves P s₀ (State.dieLinkFail s k cause) := by
  unfold State.dieLinkFail
  repeat' first
    | with_reducible assumption | with_reducible apply State.replan_leaves (part_trans hP (by decide))
    | with_reducible apply State.retireTiles_leaves (part_trans hP (by decide))
    | with_reducible apply State.retireUnit_leaves (part_trans hP (by decide)) | with_reducible apply Leaves.ite
    | split | with_reducible intro _ | dsimp only

theorem execDieLinkCheckFail_leaves {P : Nat} {s₀ s : State} (hP : P &&& 2851961076232 = 2851961076232) (h : Leaves P s₀ s) (link : Fin 4) (attempt : Fin 3) :
    OutLeaves P s₀ (execDieLinkCheckFail link attempt s) := by
  unfold execDieLinkCheckFail
  repeat' first
    | with_reducible assumption | with_reducible apply OutLeaves.next
    | with_reducible apply State.caskFail_leaves (part_trans hP (by decide))
    | with_reducible apply State.dieLinkFail_leaves (part_trans hP (by decide))
    | with_reducible apply State.unitTransient_leaves (part_trans hP (by decide)) | with_reducible apply OutLeaves.ite
    | with_reducible apply Leaves.ite | with_reducible apply Leaves.of_fst ‹_› | split | with_reducible intro _
    | dsimp only

end Sys2Proof.Machine
end

