-- ==== Sys2Proof/Laws/LeavesHealth.lean ====
section
/-! SUPPORT. What each operation of Machine/Health.lean leaves. -/

set_option linter.unusedTactic false
set_option linter.unreachableTactic false

namespace Sys2Proof.Machine

theorem State.countSpares_leaves {P : Nat} {s₀ s : State} (hP : P &&& 68719476736 = 68719476736) (h : Leaves P s₀ s) :
    Leaves P s₀ (State.countSpares s) := by
  unfold State.countSpares
  repeat' first
    | with_reducible assumption | with_reducible exact cov_trans hP (by decide) | with_reducible apply State.wr_leaves
    | with_reducible intro _ | dsimp only

theorem State.addJob_leaves {P : Nat} {s₀ s : State} (hP : P &&& 68719478784 = 68719478784) (h : Leaves P s₀ s) (j : HealthJob) :
    Leaves P s₀ (State.addJob s j) := by
  unfold State.addJob
  repeat' first
    | with_reducible assumption | with_reducible apply State.setHealth_leaves (part_trans hP (by decide))
    | with_reducible apply State.showBusy_leaves (part_trans hP (by decide)) | with_reducible intro _ | dsimp only

theorem State.endJobs_leaves {P : Nat} {s₀ s : State} (hP : P &&& 68719478784 = 68719478784) (h : Leaves P s₀ s) (f : HealthJob → Bool) :
    Leaves P s₀ (State.endJobs s f) := by
  unfold State.endJobs
  repeat' first
    | with_reducible assumption | with_reducible apply State.setHealth_leaves (part_trans hP (by decide))
    | with_reducible apply State.showBusy_leaves (part_trans hP (by decide)) | with_reducible intro _ | dsimp only

theorem State.bankSpared_leaves {P : Nat} {s₀ s : State} (hP : P &&& 68719479296 = 68719479296) (h : Leaves P s₀ s) (b : Nat) :
    Leaves P s₀ (State.bankSpared s b) := by
  unfold State.bankSpared
  repeat' first
    | with_reducible assumption | with_reducible exact cov_trans hP (by decide)
    | with_reducible apply State.countSpares_leaves (part_trans hP (by decide))
    | with_reducible apply State.history_leaves (part_trans hP (by decide)) | with_reducible apply State.raise_leaves

theorem State.retiredBank_leaves {P : Nat} {s₀ s : State} (hP : P &&& 4398046511100 = 4398046511100) (h : Leaves P s₀ s) (b : Nat) :
    Leaves P s₀ (State.retiredBank s b) := by
  unfold State.retiredBank
  repeat' first
    | with_reducible assumption | with_reducible apply State.addJob_leaves (part_trans hP (by decide))
    | with_reducible apply State.alarm_leaves (part_trans hP (by decide))
    | with_reducible apply State.bankSpared_leaves (part_trans hP (by decide))
    | with_reducible apply State.countSpares_leaves (part_trans hP (by decide))
    | with_reducible apply State.endJobs_leaves (part_trans hP (by decide))
    | with_reducible apply State.holdIfExhausted_leaves (part_trans hP (by decide))
    | with_reducible apply State.setHealth_leaves (part_trans hP (by decide)) | with_reducible apply Leaves.ite
    | split | with_reducible intro _ | dsimp only

theorem execBankSpareCopyDone_leaves {P : Nat} {s₀ s : State} (hP : P &&& 68719479328 = 68719479328) (h : Leaves P s₀ s) (bank : Fin 64) (poisoned : List Word) :
    OutLeaves P s₀ (execBankSpareCopyDone bank poisoned s) := by
  unfold execBankSpareCopyDone
  repeat' first
    | with_reducible assumption | with_reducible apply OutLeaves.next
    | with_reducible apply State.bankSpared_leaves (part_trans hP (by decide))
    | with_reducible apply State.countSpares_leaves (part_trans hP (by decide))
    | with_reducible apply State.endJobs_leaves (part_trans hP (by decide))
    | with_reducible apply State.setUnit_leaves (part_trans hP (by decide)) | with_reducible apply OutLeaves.ite
    | with_reducible apply Leaves.ite | split | with_reducible intro _ | dsimp only
    | with_reducible apply Leaves.set_poisoned (part_trans hP (by decide))

theorem State.releaseSpare_leaves {P : Nat} {s₀ s : State} (hP : P &&& 68719479296 = 68719479296) (h : Leaves P s₀ s) (b node osn : Nat) :
    Leaves P s₀ (State.releaseSpare s b node osn) := by
  unfold State.releaseSpare
  repeat' first
    | with_reducible assumption | with_reducible apply State.countSpares_leaves (part_trans hP (by decide))
    | with_reducible apply State.history_leaves (part_trans hP (by decide))
    | with_reducible apply State.setUnit_leaves (part_trans hP (by decide)) | with_reducible intro _ | dsimp only

theorem execBankCopyBackDone_leaves {P : Nat} {s₀ s : State} (hP : P &&& 68719479296 = 68719479296) (h : Leaves P s₀ s) (bank : Fin 64) :
    OutLeaves P s₀ (execBankCopyBackDone bank s) := by
  unfold execBankCopyBackDone
  repeat' first
    | with_reducible assumption | with_reducible exact cov_trans hP (by decide) | with_reducible apply OutLeaves.next
    | with_reducible apply State.countSpares_leaves (part_trans hP (by decide))
    | with_reducible apply State.endJobs_leaves (part_trans hP (by decide))
    | with_reducible apply State.releaseSpare_leaves (part_trans hP (by decide))
    | with_reducible apply State.setUnit_leaves (part_trans hP (by decide))
    | with_reducible apply State.unitReturned_leaves (part_trans hP (by decide))
    | with_reducible apply State.wr_leaves | with_reducible apply OutLeaves.ite | with_reducible apply Leaves.ite
    | split | with_reducible intro _ | dsimp only

theorem State.ownerRetire_leaves {P : Nat} {s₀ s : State} (hP : P &&& 4398046511100 = 4398046511100) (h : Leaves P s₀ s) (slot : Nat) (cause : FaultCause) (osn : Nat) :
    Leaves P s₀ (State.ownerRetire s slot cause osn) := by
  unfold State.ownerRetire
  repeat' first
    | with_reducible assumption | with_reducible apply State.canRetire_leaves (part_trans hP (by decide))
    | with_reducible apply State.caskFail_leaves (part_trans hP (by decide))
    | with_reducible apply State.dieLinkFail_leaves (part_trans hP (by decide))
    | with_reducible apply State.loopRetire_leaves (part_trans hP (by decide))
    | with_reducible apply State.pfRetire_leaves (part_trans hP (by decide))
    | with_reducible apply State.portRetire_leaves (part_trans hP (by decide))
    | with_reducible apply State.retireTile_leaves (part_trans hP (by decide))
    | with_reducible apply State.retireUnit_leaves (part_trans hP (by decide))
    | with_reducible apply State.retiredBank_leaves (part_trans hP (by decide))
    | with_reducible apply State.scRetire_leaves (part_trans hP (by decide)) | with_reducible apply Leaves.ite | split
    | with_reducible intro _ | dsimp only

theorem State.transient_leaves {P : Nat} {s₀ s : State} (hP : P &&& 4398046511100 = 4398046511100) (h : Leaves P s₀ s) (slot : Nat) (second : Bool) :
    Leaves P s₀ (State.transient s slot second) := by
  unfold State.transient
  repeat' first
    | with_reducible assumption | with_reducible apply State.ownerRetire_leaves (part_trans hP (by decide))
    | with_reducible apply State.unitTransient_leaves (part_trans hP (by decide)) | with_reducible apply Leaves.ite
    | with_reducible apply Leaves.of_fst ‹_› | split | with_reducible intro _ | dsimp only

theorem execTransient_leaves {P : Nat} {s₀ s : State} (hP : P &&& 4398046511100 = 4398046511100) (h : Leaves P s₀ s) (slot : Fin 456) (corrected : Bool) :
    OutLeaves P s₀ (execTransient slot corrected s) := by
  unfold execTransient
  repeat' first
    | with_reducible assumption | with_reducible apply OutLeaves.next
    | with_reducible apply State.transient_leaves (part_trans hP (by decide)) | with_reducible intro _

theorem execSubintervalRoll_leaves {P : Nat} {s₀ s : State} (hP : P &&& 2048 = 2048) (h : Leaves P s₀ s) (slot : Fin 456) :
    OutLeaves P s₀ (execSubintervalRoll slot s) := by
  unfold execSubintervalRoll
  repeat' first
    | with_reducible assumption | with_reducible apply OutLeaves.next
    | with_reducible apply State.setUnit_leaves (part_trans hP (by decide)) | with_reducible intro _ | dsimp only

theorem execPermanentFault_leaves {P : Nat} {s₀ s : State} (hP : P &&& 4398046511100 = 4398046511100) (h : Leaves P s₀ s) (slot : Fin 456) (cause : FaultCause) :
    OutLeaves P s₀ (execPermanentFault slot cause s) := by
  unfold execPermanentFault
  repeat' first
    | with_reducible assumption | with_reducible exact cov_trans hP (by decide) | with_reducible apply OutLeaves.next
    | with_reducible apply State.endJobs_leaves (part_trans hP (by decide))
    | with_reducible apply State.ownerRetire_leaves (part_trans hP (by decide))
    | with_reducible apply State.setUnit_leaves (part_trans hP (by decide)) | with_reducible apply State.wr_leaves
    | with_reducible apply OutLeaves.ite | with_reducible apply Leaves.ite | split | with_reducible intro _
    | dsimp only

theorem execCaskFault_leaves {P : Nat} {s₀ s : State} (hP : P &&& 652835060232 = 652835060232) (h : Leaves P s₀ s) (cause : FaultCause) :
    OutLeaves P s₀ (execCaskFault cause s) := by
  unfold execCaskFault
  repeat' first
    | with_reducible assumption | with_reducible apply OutLeaves.next
    | with_reducible apply State.caskFail_leaves (part_trans hP (by decide)) | with_reducible apply OutLeaves.ite
    | with_reducible apply Leaves.ite | split | with_reducible intro _

theorem State.blockTest_leaves {P : Nat} {s₀ s : State} (hP : P &&& 2335315474952 = 2335315474952) (h : Leaves P s₀ s) (slot : Nat) :
    Leaves P s₀ (State.blockTest s slot) := by
  unfold State.blockTest
  repeat' first
    | with_reducible assumption | with_reducible apply State.addJob_leaves (part_trans hP (by decide))
    | with_reducible apply State.canTestStart_leaves (part_trans hP (by decide))
    | with_reducible apply State.countSpares_leaves (part_trans hP (by decide))
    | with_reducible apply State.drainTile_leaves (part_trans hP (by decide))
    | with_reducible apply State.pfTestStart_leaves (part_trans hP (by decide))
    | with_reducible apply State.portTestStart_leaves (part_trans hP (by decide))
    | with_reducible apply State.scTestStart_leaves (part_trans hP (by decide))
    | with_reducible apply State.slotTestStart_leaves (part_trans hP (by decide))
    | with_reducible apply State.tileBist_leaves (part_trans hP (by decide))
    | with_reducible apply State.unitTesting_leaves (part_trans hP (by decide)) | with_reducible apply Leaves.ite
    | split | with_reducible intro _ | dsimp only

theorem State.startTest_leaves {P : Nat} {s₀ s : State} (hP : P &&& 2335315474952 = 2335315474952) (h : Leaves P s₀ s) (slot : Nat) (by_ : Nat × Nat) :
    Leaves P s₀ (State.startTest s slot by_) := by
  unfold State.startTest
  repeat' first
    | with_reducible assumption | with_reducible exact cov_trans hP (by decide)
    | with_reducible apply State.addJob_leaves (part_trans hP (by decide))
    | with_reducible apply State.blockTest_leaves (part_trans hP (by decide)) | with_reducible apply State.wr_leaves
    | with_reducible apply Leaves.ite | split | with_reducible intro _ | dsimp only

theorem execHlTest_leaves {P : Nat} {s₀ s : State} (hP : P &&& 2335315474952 = 2335315474952) (h : Leaves P s₀ s) (slot : Fin 456) :
    OutLeaves P s₀ (execHlTest slot s) := by
  unfold execHlTest
  repeat' first
    | with_reducible assumption | with_reducible exact cov_trans hP (by decide) | with_reducible apply OutLeaves.next
    | with_reducible apply State.startTest_leaves (part_trans hP (by decide)) | with_reducible apply State.wr_leaves
    | with_reducible apply OutLeaves.ite | with_reducible apply Leaves.getD | split | with_reducible intro _

theorem execHlTestDone_leaves {P : Nat} {s₀ s : State} (hP : P &&& 4398046511100 = 4398046511100) (h : Leaves P s₀ s) (slot : Fin 456) (pass : Bool) :
    OutLeaves P s₀ (execHlTestDone slot pass s) := by
  unfold execHlTestDone
  repeat' first
    | with_reducible assumption | with_reducible apply OutLeaves.next
    | with_reducible apply State.addJob_leaves (part_trans hP (by decide))
    | with_reducible apply State.retiredBank_leaves (part_trans hP (by decide))
    | with_reducible apply State.unitTested_leaves (part_trans hP (by decide)) | with_reducible apply OutLeaves.ite
    | with_reducible apply Leaves.ite | split | with_reducible intro _ | dsimp only

theorem State.ownerReturn_leaves {P : Nat} {s₀ s : State} (hP : P &&& 2335382682412 = 2335382682412) (h : Leaves P s₀ s) (slot : Nat) (node osn : Nat) :
    Leaves P s₀ (State.ownerReturn s slot node osn) := by
  unfold State.ownerReturn
  repeat' first
    | with_reducible assumption | with_reducible apply State.addJob_leaves (part_trans hP (by decide))
    | with_reducible apply State.canReturn_leaves (part_trans hP (by decide))
    | with_reducible apply State.onlineTile_leaves (part_trans hP (by decide))
    | with_reducible apply State.pfReturn_leaves (part_trans hP (by decide))
    | with_reducible apply State.portReturn_leaves (part_trans hP (by decide))
    | with_reducible apply State.replan_leaves (part_trans hP (by decide))
    | with_reducible apply State.scReturn_leaves (part_trans hP (by decide))
    | with_reducible apply State.slotReturn_leaves (part_trans hP (by decide))
    | with_reducible apply State.unitReturned_leaves (part_trans hP (by decide)) | with_reducible apply Leaves.ite
    | split | with_reducible intro _ | dsimp only

theorem execHlReturn_leaves {P : Nat} {s₀ s : State} (hP : P &&& 2335382682412 = 2335382682412) (h : Leaves P s₀ s) (slot : Fin 456) :
    OutLeaves P s₀ (execHlReturn slot s) := by
  unfold execHlReturn
  repeat' first
    | with_reducible assumption | with_reducible exact cov_trans hP (by decide) | with_reducible apply OutLeaves.next
    | with_reducible apply State.ownerReturn_leaves (part_trans hP (by decide)) | with_reducible apply State.wr_leaves
    | with_reducible apply OutLeaves.ite | split | with_reducible intro _

theorem execHlRetire_leaves {P : Nat} {s₀ s : State} (hP : P &&& 4398046511100 = 4398046511100) (h : Leaves P s₀ s) (slot : Fin 456) :
    OutLeaves P s₀ (execHlRetire slot s) := by
  unfold execHlRetire
  repeat' first
    | with_reducible assumption | with_reducible exact cov_trans hP (by decide) | with_reducible apply OutLeaves.next
    | with_reducible apply State.ownerRetire_leaves (part_trans hP (by decide)) | with_reducible apply State.wr_leaves
    | with_reducible apply OutLeaves.ite | split | with_reducible intro _

theorem State.recoveryHealth_leaves {P : Nat} {s₀ s : State} (hP : P &&& 2335382682412 = 2335382682412) (h : Leaves P s₀ s) (slot action : Nat) :
    Leaves P s₀ (State.recoveryHealth s slot action) := by
  unfold State.recoveryHealth
  repeat' first
    | with_reducible assumption | with_reducible apply State.answer_leaves (part_trans hP (by decide))
    | with_reducible apply State.ownerReturn_leaves (part_trans hP (by decide))
    | with_reducible apply State.startTest_leaves (part_trans hP (by decide)) | with_reducible apply Leaves.ite
    | split | with_reducible intro _

theorem execHealthOrder_leaves {P : Nat} {s₀ s : State} (hP : P &&& 2885138512684 = 2885138512684) (h : Leaves P s₀ s) (unit : BitVec 16) (action : BitVec 8) :
    OutLeaves P s₀ (execHealthOrder unit action s) := by
  unfold execHealthOrder
  repeat' first
    | with_reducible assumption | with_reducible apply OutLeaves.next
    | with_reducible apply State.answer_leaves (part_trans hP (by decide))
    | with_reducible apply State.openNext_leaves (part_trans hP (by decide))
    | with_reducible apply State.recoveryHealth_leaves (part_trans hP (by decide))
    | with_reducible apply OutLeaves.ite | with_reducible apply Leaves.getD | split | with_reducible intro _
    | dsimp only

theorem execScrubNow_leaves {P : Nat} {s₀ s : State} (hP : P &&& 2048 = 2048) (h : Leaves P s₀ s) :
    OutLeaves P s₀ (execScrubNow s) := by
  unfold execScrubNow
  repeat' first
    | with_reducible assumption | with_reducible apply OutLeaves.next
    | with_reducible apply State.setHealth_leaves (part_trans hP (by decide)) | with_reducible intro _ | dsimp only

theorem execScrubPass_leaves {P : Nat} {s₀ s : State} (hP : P &&& 68719478784 = 68719478784) (h : Leaves P s₀ s) (finished : Bool) :
    OutLeaves P s₀ (execScrubPass finished s) := by
  unfold execScrubPass
  repeat' first
    | with_reducible assumption | with_reducible exact cov_trans hP (by decide) | with_reducible apply OutLeaves.next
    | with_reducible apply State.incWrap_leaves | with_reducible apply State.raise_leaves
    | with_reducible apply State.setHealth_leaves (part_trans hP (by decide)) | with_reducible apply OutLeaves.ite
    | split | with_reducible intro _ | dsimp only

theorem execCaskReadThrough_leaves {P : Nat} {s₀ s : State} (hP : P &&& 4398046511100 = 4398046511100) (h : Leaves P s₀ s) (corrected : Nat) (uncorrectable : Bool) :
    OutLeaves P s₀ (execCaskReadThrough corrected uncorrectable s) := by
  unfold execCaskReadThrough
  repeat' first
    | with_reducible assumption | with_reducible apply OutLeaves.next
    | with_reducible apply State.ownerRetire_leaves (part_trans hP (by decide))
    | with_reducible apply State.transient_leaves (part_trans hP (by decide)) | with_reducible apply OutLeaves.ite
    | with_reducible apply Leaves.ite | with_reducible apply Leaves.foldl | split | with_reducible intro _
    | dsimp only

theorem execAlarmRaise_leaves {P : Nat} {s₀ s : State} (hP : P &&& 103079229960 = 103079229960) (h : Leaves P s₀ s) (block : HwBlock) (name : String) (unit : BitVec 16) :
    OutLeaves P s₀ (execAlarmRaise block name unit s) := by
  unfold execAlarmRaise
  repeat' first
    | with_reducible assumption | with_reducible apply OutLeaves.next
    | with_reducible apply State.alarm_leaves (part_trans hP (by decide)) | with_reducible intro _

theorem execEventRaise_leaves {P : Nat} {s₀ s : State} (hP : P &&& 103079221760 = 103079221760) (h : Leaves P s₀ s) (block : HwBlock) (name : String) (unit : BitVec 16) :
    OutLeaves P s₀ (execEventRaise block name unit s) := by
  unfold execEventRaise
  repeat' first
    | with_reducible assumption | with_reducible apply OutLeaves.next
    | with_reducible apply State.event_leaves (part_trans hP (by decide)) | with_reducible intro _

theorem execTraceRaise_leaves {P : Nat} {s₀ s : State} (hP : P &&& 103079221248 = 103079221248) (h : Leaves P s₀ s) (code unit : BitVec 16) (detail : List Word) :
    OutLeaves P s₀ (execTraceRaise code unit detail s) := by
  unfold execTraceRaise
  repeat' first
    | with_reducible assumption | with_reducible apply OutLeaves.next
    | with_reducible apply State.traceWith_leaves (part_trans hP (by decide)) | with_reducible intro _

theorem State.drainOverflow_leaves {P : Nat} {s₀ s : State} (hP : P &&& 2048 = 2048) (h : Leaves P s₀ s)
    (n : Nat) : Leaves P s₀ (s.drainOverflow n) := by
  induction n generalizing s with
  | zero => exact h
  | succ n ih =>
    unfold State.drainOverflow
    split
    · exact h
    · split
      · exact ih (State.ringWrite_leaves (part_trans hP (by decide))
          (State.setHealth_leaves (part_trans hP (by decide)) h _) _)
      · exact h

theorem execOverflowDrain_leaves {P : Nat} {s₀ s : State} (hP : P &&& 4398046511100 = 4398046511100) (h : Leaves P s₀ s) :
    OutLeaves P s₀ (execOverflowDrain s) := by
  unfold execOverflowDrain
  repeat' first
    | with_reducible assumption | with_reducible apply OutLeaves.next
    | with_reducible apply State.drainOverflow_leaves (part_trans hP (by decide))
    | with_reducible apply State.endLostSubs_leaves (part_trans hP (by decide))
    | with_reducible apply State.holdIfExhausted_leaves (part_trans hP (by decide))
    | with_reducible apply OutLeaves.ite | with_reducible apply Leaves.ite | split | with_reducible intro _

theorem execCoalesceInterval_leaves {P : Nat} {s₀ s : State} (hP : P &&& 103079221248 = 103079221248) (h : Leaves P s₀ s) (key : Nat) :
    OutLeaves P s₀ (execCoalesceInterval key s) := by
  unfold execCoalesceInterval
  repeat' first
    | with_reducible assumption | with_reducible exact cov_trans hP (by decide) | with_reducible apply OutLeaves.next
    | with_reducible apply State.count_leaves (part_trans hP (by decide)) | with_reducible apply State.decSat_leaves
    | with_reducible apply State.evIssue_leaves (part_trans hP (by decide)) | with_reducible apply State.put_leaves
    | with_reducible apply State.setHealth_leaves (part_trans hP (by decide)) | with_reducible apply OutLeaves.ite
    | with_reducible apply Leaves.ite | split | with_reducible intro _ | dsimp only

theorem execHlRaise_leaves {P : Nat} {s₀ s : State} (hP : P &&& 103079229960 = 103079229960) (h : Leaves P s₀ s) (_core : Fin 4) (cls : BitVec 2) (src : BitVec 21) :
    OutLeaves P s₀ (execHlRaise _core cls src s) := by
  unfold execHlRaise
  repeat' first
    | with_reducible assumption | with_reducible apply OutLeaves.next
    | with_reducible apply State.alarmWith_leaves (part_trans hP (by decide))
    | with_reducible apply State.endLostSubs_leaves (part_trans hP (by decide))
    | with_reducible apply State.eventWith_leaves (part_trans hP (by decide))
    | with_reducible apply State.setObjN_leaves (part_trans hP (by decide))
    | with_reducible apply State.traceWith_leaves (part_trans hP (by decide)) | with_reducible apply OutLeaves.ite
    | split | with_reducible intro _ | dsimp only

end Sys2Proof.Machine
end

