-- ==== Sys2Proof/Laws/LeavesClaims.lean ====
section
/-! SUPPORT. What each operation of Machine/Claims.lean leaves. -/

set_option linter.unusedTactic false
set_option linter.unreachableTactic false

namespace Sys2Proof.Machine

theorem execHeartbeatSend_leaves {P : Nat} {s₀ s : State} (hP : P &&& 8192 = 8192) (h : Leaves P s₀ s) :
    OutLeaves P s₀ (execHeartbeatSend s) := by
  unfold execHeartbeatSend
  repeat' first
    | with_reducible assumption | with_reducible apply OutLeaves.next
    | with_reducible apply State.sendAllBoth_leaves (part_trans hP (by decide)) | with_reducible apply OutLeaves.ite
    | with_reducible apply Leaves.ite | split | with_reducible intro _

theorem State.noteTerms_leaves {P : Nat} {s₀ s : State} (hP : P &&& 32768 = 32768) (h : Leaves P s₀ s) :
    Leaves P s₀ (State.noteTerms s) := by
  unfold State.noteTerms
  repeat' first
    | with_reducible assumption | with_reducible exact cov_trans hP (by decide)
    | with_reducible apply State.put_leaves | with_reducible apply State.setClaims_leaves (part_trans hP (by decide))
    | with_reducible apply Leaves.ite | split | with_reducible intro _ | dsimp only

theorem State.ceilings_leaves {P : Nat} {s₀ s : State} (hP : P &&& 137438986240 = 137438986240) (h : Leaves P s₀ s) :
    Leaves P s₀ (State.ceilings s) := by
  unfold State.ceilings
  repeat' first
    | with_reducible assumption | with_reducible exact cov_trans hP (by decide)
    | with_reducible apply State.noteTerms_leaves (part_trans hP (by decide))
    | with_reducible apply State.raise_leaves | with_reducible apply State.wr_leaves | with_reducible apply Leaves.ite
    | with_reducible apply Leaves.foldl | with_reducible apply Leaves.getD | split | with_reducible intro _
    | dsimp only

theorem State.chooseLeader_leaves {P : Nat} {s₀ s : State} (hP : P &&& 173946478600 = 173946478600) (h : Leaves P s₀ s) :
    Leaves P s₀ (State.chooseLeader s) := by
  unfold State.chooseLeader
  repeat' first
    | with_reducible assumption | with_reducible exact cov_trans hP (by decide)
    | with_reducible apply State.setClaims_leaves (part_trans hP (by decide))
    | with_reducible apply State.setObjN_leaves (part_trans hP (by decide))
    | with_reducible apply State.updateClaim_leaves (part_trans hP (by decide)) | with_reducible apply State.wr_leaves
    | with_reducible apply Leaves.ite | with_reducible apply Leaves.getD | split | with_reducible intro _ | dsimp only

theorem execCeilingRecompute_leaves {P : Nat} {s₀ s : State} (hP : P &&& 173946478600 = 173946478600) (h : Leaves P s₀ s) :
    OutLeaves P s₀ (execCeilingRecompute s) := by
  unfold execCeilingRecompute
  repeat' first
    | with_reducible assumption | with_reducible apply OutLeaves.next
    | with_reducible apply State.ceilings_leaves (part_trans hP (by decide))
    | with_reducible apply State.chooseLeader_leaves (part_trans hP (by decide))
    | with_reducible apply State.updateClaim_leaves (part_trans hP (by decide)) | with_reducible intro _

theorem execClaimRequest_leaves {P : Nat} {s₀ s : State} (hP : P &&& 173946478592 = 173946478592) (h : Leaves P s₀ s) (_core : Fin 4) (v : Word) :
    OutLeaves P s₀ (execClaimRequest _core v s) := by
  unfold execClaimRequest
  repeat' first
    | with_reducible assumption | with_reducible exact cov_trans hP (by decide) | with_reducible apply OutLeaves.next
    | with_reducible apply State.updateClaim_leaves (part_trans hP (by decide)) | with_reducible apply State.wr_leaves
    | with_reducible intro _

theorem execClaimSend_leaves {P : Nat} {s₀ s : State} (hP : P &&& 173946478592 = 173946478592) (h : Leaves P s₀ s) :
    OutLeaves P s₀ (execClaimSend s) := by
  unfold execClaimSend
  repeat' first
    | with_reducible assumption | with_reducible apply OutLeaves.next
    | with_reducible apply State.sendClaim_leaves (part_trans hP (by decide)) | with_reducible intro _

theorem execLeaseRenewal_leaves {P : Nat} {s₀ s : State} (hP : P &&& 173946478592 = 173946478592) (h : Leaves P s₀ s) :
    OutLeaves P s₀ (execLeaseRenewal s) := by
  unfold execLeaseRenewal
  repeat' first
    | with_reducible assumption | with_reducible apply OutLeaves.next
    | with_reducible apply State.sendClaim_leaves (part_trans hP (by decide)) | with_reducible apply OutLeaves.ite
    | with_reducible apply Leaves.ite | split | with_reducible intro _ | dsimp only

theorem execHeartbeatReceived_leaves {P : Nat} {s₀ s : State} (hP : P &&& 792421792264 = 792421792264) (h : Leaves P s₀ s) (i : Member) (h : Heartbeat) :
    OutLeaves P s₀ (execHeartbeatReceived i h s) := by
  unfold execHeartbeatReceived
  repeat' first
    | with_reducible assumption | with_reducible apply OutLeaves.next
    | with_reducible apply State.chooseLeader_leaves (part_trans hP (by decide))
    | with_reducible apply State.event_leaves (part_trans hP (by decide))
    | with_reducible apply State.hear_leaves (part_trans hP (by decide))
    | with_reducible apply State.setPeer_leaves (part_trans hP (by decide)) | with_reducible apply OutLeaves.ite
    | split | with_reducible intro _ | dsimp only

theorem execPeerLost_leaves {P : Nat} {s₀ s : State} (hP : P &&& 173946478600 = 173946478600) (h : Leaves P s₀ s) (i : Member) :
    OutLeaves P s₀ (execPeerLost i s) := by
  unfold execPeerLost
  repeat' first
    | with_reducible assumption | with_reducible apply OutLeaves.next
    | with_reducible apply State.chooseLeader_leaves (part_trans hP (by decide))
    | with_reducible apply State.setPeer_leaves (part_trans hP (by decide)) | with_reducible apply OutLeaves.ite
    | split | with_reducible intro _ | dsimp only

theorem execPeerClaimReceived_leaves {P : Nat} {s₀ s : State} (hP : P &&& 549755871232 = 549755871232) (h : Leaves P s₀ s) (i : Member) (f : ClaimFrame) :
    OutLeaves P s₀ (execPeerClaimReceived i f s) := by
  unfold execPeerClaimReceived
  repeat' first
    | with_reducible assumption | with_reducible apply OutLeaves.next
    | with_reducible apply State.hear_leaves (part_trans hP (by decide))
    | with_reducible apply State.setPeer_leaves (part_trans hP (by decide)) | with_reducible apply OutLeaves.ite
    | split | with_reducible intro _ | dsimp only

theorem State.latePeer_leaves {P : Nat} {s₀ s : State} (hP : P &&& 103079221768 = 103079221768) (h : Leaves P s₀ s) (tref : Nat) :
    Leaves P s₀ (State.latePeer s tref) := by
  unfold State.latePeer
  repeat' first
    | with_reducible assumption | with_reducible apply State.event_leaves (part_trans hP (by decide))
    | with_reducible apply State.setObjN_leaves (part_trans hP (by decide)) | with_reducible apply Leaves.ite | split
    | with_reducible intro _

theorem State.comparePhases_leaves {P : Nat} {s₀ s : State} (hP : P &&& 103079262728 = 103079262728) (h : Leaves P s₀ s) :
    Leaves P s₀ (State.comparePhases s) := by
  unfold State.comparePhases
  repeat' first
    | with_reducible assumption | with_reducible apply State.alarm_leaves (part_trans hP (by decide))
    | with_reducible apply State.setClaims_leaves (part_trans hP (by decide))
    | with_reducible apply State.setObjN_leaves (part_trans hP (by decide)) | with_reducible apply Leaves.ite | split
    | with_reducible intro _ | dsimp only

theorem execPlanSummaryReceived_leaves {P : Nat} {s₀ s : State} (hP : P &&& 652835093000 = 652835093000) (h : Leaves P s₀ s) (i : Member) (p : PlanSummary) :
    OutLeaves P s₀ (execPlanSummaryReceived i p s) := by
  unfold execPlanSummaryReceived
  repeat' first
    | with_reducible assumption | with_reducible apply OutLeaves.next
    | with_reducible apply State.comparePhases_leaves (part_trans hP (by decide))
    | with_reducible apply State.event_leaves (part_trans hP (by decide))
    | with_reducible apply State.hear_leaves (part_trans hP (by decide))
    | with_reducible apply State.latePeer_leaves (part_trans hP (by decide))
    | with_reducible apply State.setPeer_leaves (part_trans hP (by decide)) | with_reducible apply OutLeaves.ite
    | split | with_reducible intro _ | dsimp only

theorem execAllocationReceived_leaves {P : Nat} {s₀ s : State} (hP : P &&& 652835093000 = 652835093000) (h : Leaves P s₀ s) (i : Member) (a : AllocFrame) :
    OutLeaves P s₀ (execAllocationReceived i a s) := by
  unfold execAllocationReceived
  repeat' first
    | with_reducible assumption | with_reducible apply OutLeaves.next
    | with_reducible apply State.event_leaves (part_trans hP (by decide))
    | with_reducible apply State.hear_leaves (part_trans hP (by decide))
    | with_reducible apply State.latePeer_leaves (part_trans hP (by decide))
    | with_reducible apply State.setPeer_leaves (part_trans hP (by decide)) | with_reducible apply OutLeaves.ite
    | split | with_reducible intro _ | dsimp only

theorem State.applyLeader_leaves {P : Nat} {s₀ s : State} (hP : P &&& 173946478600 = 173946478600) (h : Leaves P s₀ s) (idx : Nat) :
    Leaves P s₀ (State.applyLeader s idx) := by
  unfold State.applyLeader
  repeat' first
    | with_reducible assumption | with_reducible exact cov_trans hP (by decide)
    | with_reducible apply State.chooseLeader_leaves (part_trans hP (by decide))
    | with_reducible apply State.setClaims_leaves (part_trans hP (by decide))
    | with_reducible apply State.setObj_leaves (part_trans hP (by decide))
    | with_reducible apply State.setObjN_leaves (part_trans hP (by decide)) | with_reducible apply State.wr_leaves
    | with_reducible apply Leaves.ite | split | with_reducible intro _ | dsimp only

theorem execLeaderIndex_leaves {P : Nat} {s₀ s : State} (hP : P &&& 173946478856 = 173946478856) (h : Leaves P s₀ s) (idx : Fin 3) :
    OutLeaves P s₀ (execLeaderIndex idx s) := by
  unfold execLeaderIndex
  repeat' first
    | with_reducible assumption | with_reducible apply OutLeaves.next
    | with_reducible apply State.answer_leaves (part_trans hP (by decide))
    | with_reducible apply State.applyLeader_leaves (part_trans hP (by decide)) | with_reducible apply OutLeaves.ite
    | split | with_reducible intro _

theorem execEpochAdvance_leaves {P : Nat} {s₀ s : State} (hP : P &&& 173946478856 = 173946478856) (h : Leaves P s₀ s) :
    OutLeaves P s₀ (execEpochAdvance s) := by
  unfold execEpochAdvance
  repeat' first
    | with_reducible assumption | with_reducible exact cov_trans hP (by decide) | with_reducible apply OutLeaves.next
    | with_reducible apply State.answer_leaves (part_trans hP (by decide))
    | with_reducible apply State.setObjN_leaves (part_trans hP (by decide))
    | with_reducible apply State.updateClaim_leaves (part_trans hP (by decide)) | with_reducible apply State.wr_leaves
    | with_reducible apply OutLeaves.ite | split | with_reducible intro _ | dsimp only

theorem execProofTest_leaves {P : Nat} {s₀ s : State} (hP : P &&& 36507516928 = 36507516928) (h : Leaves P s₀ s) (path : Fin 24) (thruster : Fin 32) (gates : Nat) :
    OutLeaves P s₀ (execProofTest path thruster gates s) := by
  unfold execProofTest
  repeat' first
    | with_reducible assumption | with_reducible apply OutLeaves.next
    | with_reducible apply State.setClaims_leaves (part_trans hP (by decide))
    | with_reducible apply State.tapFrame_leaves (part_trans hP (by decide)) | with_reducible apply OutLeaves.ite
    | split | with_reducible intro _ | dsimp only

theorem execProofResultTimeout_leaves {P : Nat} {s₀ s : State} (hP : P &&& 103079262728 = 103079262728) (h : Leaves P s₀ s) (path : Fin 24) (results : List (BitVec 2)) :
    OutLeaves P s₀ (execProofResultTimeout path results s) := by
  unfold execProofResultTimeout
  repeat' first
    | with_reducible assumption | with_reducible apply OutLeaves.next
    | with_reducible apply State.alarm_leaves (part_trans hP (by decide))
    | with_reducible apply State.setClaims_leaves (part_trans hP (by decide))
    | with_reducible apply State.setObjN_leaves (part_trans hP (by decide)) | with_reducible apply OutLeaves.ite
    | with_reducible apply Leaves.ite | with_reducible apply Leaves.foldl | split | with_reducible intro _
    | dsimp only

end Sys2Proof.Machine
end

