-- ==== Sys2Proof/Laws/LeavesGate.lean ====
section
/-! SUPPORT. What each operation of Machine/Gate.lean leaves. -/

set_option linter.unusedTactic false
set_option linter.unreachableTactic false

namespace Sys2Proof.Machine

theorem State.setGate_leaves {P : Nat} {s₀ s : State} (hP : P &&& 65536 = 65536) (h : Leaves P s₀ s) (f : GateSt → GateSt) :
    Leaves P s₀ (State.setGate s f) := by
  unfold State.setGate
  repeat' first
    | with_reducible assumption | dsimp only | with_reducible apply Leaves.set_gate (part_trans hP (by decide))

theorem State.setMember_leaves {P : Nat} {s₀ s : State} (hP : P &&& 65536 = 65536) (h : Leaves P s₀ s) (i : Nat) (f : GateMember → GateMember) :
    Leaves P s₀ (State.setMember s i f) := by
  unfold State.setMember
  repeat' first
    | with_reducible assumption | with_reducible apply State.setGate_leaves (part_trans hP (by decide))
    | with_reducible intro _ | dsimp only

theorem State.setThr_leaves {P : Nat} {s₀ s : State} (hP : P &&& 137439019008 = 137439019008) (h : Leaves P s₀ s) (t : Nat) (f : GateThruster → GateThruster) :
    Leaves P s₀ (State.setThr s t f) := by
  unfold State.setThr
  repeat' first
    | with_reducible assumption | with_reducible exact cov_trans hP (by decide)
    | with_reducible apply State.setGate_leaves (part_trans hP (by decide)) | with_reducible apply State.wr_leaves
    | with_reducible intro _ | dsimp only

theorem State.gateRefuse_leaves {P : Nat} {s₀ s : State} (hP : P &&& 171798691848 = 171798691848) (h : Leaves P s₀ s) (k : Nat) (member t : Option Nat) :
    Leaves P s₀ (State.gateRefuse s k member t) := by
  unfold State.gateRefuse
  repeat' first
    | with_reducible assumption | with_reducible exact cov_trans hP (by decide)
    | with_reducible apply State.count_leaves (part_trans hP (by decide)) | with_reducible apply State.incSat_leaves
    | with_reducible apply State.raise_leaves | with_reducible apply State.setObj_leaves (part_trans hP (by decide))
    | with_reducible apply State.wr_leaves | split | with_reducible intro _ | dsimp only

theorem State.showHolder_leaves {P : Nat} {s₀ s : State} (hP : P &&& 137438953480 = 137438953480) (h : Leaves P s₀ s) :
    Leaves P s₀ (State.showHolder s) := by
  unfold State.showHolder
  repeat' first
    | with_reducible assumption | with_reducible exact cov_trans hP (by decide)
    | with_reducible apply State.put_leaves | with_reducible apply State.setObjN_leaves (part_trans hP (by decide))
    | with_reducible apply State.wr_leaves | with_reducible apply Leaves.ite | with_reducible apply Leaves.getD
    | split | with_reducible intro _ | dsimp only

theorem State.gateStatus_leaves {P : Nat} {s₀ s : State} (hP : P &&& 65536 = 65536) (h : Leaves P s₀ s) :
    Leaves P s₀ (State.gateStatus s) := by
  unfold State.gateStatus
  repeat' first
    | with_reducible assumption | with_reducible apply State.setGate_leaves (part_trans hP (by decide))
    | with_reducible apply Leaves.ite | with_reducible apply Leaves.foldl | split | with_reducible intro _
    | dsimp only

theorem State.gateEvaluate_leaves {P : Nat} {s₀ s : State} (hP : P &&& 171798757384 = 171798757384) (h : Leaves P s₀ s) :
    Leaves P s₀ (State.gateEvaluate s) := by
  unfold State.gateEvaluate
  repeat' first
    | with_reducible assumption | with_reducible exact cov_trans hP (by decide)
    | with_reducible apply State.count_leaves (part_trans hP (by decide))
    | with_reducible apply State.gateStatus_leaves (part_trans hP (by decide))
    | with_reducible apply State.incSat_leaves | with_reducible apply State.raise_leaves
    | with_reducible apply State.setGate_leaves (part_trans hP (by decide))
    | with_reducible apply State.setObjN_leaves (part_trans hP (by decide))
    | with_reducible apply State.setThr_leaves (part_trans hP (by decide))
    | with_reducible apply State.showHolder_leaves (part_trans hP (by decide)) | with_reducible apply State.wr_leaves
    | with_reducible apply Leaves.ite | with_reducible apply Leaves.foldl | split | with_reducible intro _
    | dsimp only

theorem State.gateTake_leaves {P : Nat} {s₀ s : State} (hP : P &&& 171798757384 = 171798757384) (h : Leaves P s₀ s) (path : Nat) (f : GateHead) :
    Leaves P s₀ (State.gateTake s path f) := by
  unfold State.gateTake
  repeat' first
    | with_reducible assumption | with_reducible exact cov_trans hP (by decide)
    | with_reducible apply State.gateEvaluate_leaves (part_trans hP (by decide))
    | with_reducible apply State.put_leaves | with_reducible apply State.raise_leaves
    | with_reducible apply State.setGate_leaves (part_trans hP (by decide))
    | with_reducible apply State.setMember_leaves (part_trans hP (by decide))
    | with_reducible apply State.setObjN_leaves (part_trans hP (by decide)) | with_reducible apply State.wr_leaves
    | with_reducible apply Leaves.ite | split | with_reducible intro _ | dsimp only

theorem execGateClaimFrame_leaves {P : Nat} {s₀ s : State} (hP : P &&& 171798757384 = 171798757384) (h : Leaves P s₀ s) (path : Fin 24) (f : ClaimFrame) :
    OutLeaves P s₀ (execGateClaimFrame path f s) := by
  unfold execGateClaimFrame
  repeat' first
    | with_reducible assumption | with_reducible apply OutLeaves.next
    | with_reducible apply State.gateRefuse_leaves (part_trans hP (by decide))
    | with_reducible apply State.gateTake_leaves (part_trans hP (by decide)) | with_reducible apply OutLeaves.ite
    | split | with_reducible intro _ | dsimp only

theorem State.applyCommand_leaves {P : Nat} {s₀ s : State} (hP : P &&& 1065421077000 = 1065421077000) (h : Leaves P s₀ s) (t : Nat) (c : GateCmd) :
    Leaves P s₀ (State.applyCommand s t c) := by
  unfold State.applyCommand
  repeat' first
    | with_reducible assumption | with_reducible exact cov_trans hP (by decide)
    | with_reducible apply State.applied_leaves (part_trans hP (by decide))
    | with_reducible apply State.setThr_leaves (part_trans hP (by decide))
    | with_reducible apply State.setWord_leaves (part_trans hP (by decide))
    | with_reducible apply State.triggerKind_leaves (part_trans hP (by decide)) | with_reducible apply State.wr_leaves
    | with_reducible apply Leaves.foldl | with_reducible apply Leaves.foldl_fst
    | with_reducible apply Leaves.foldl_snd | with_reducible apply Leaves.getD | with_reducible intro _ | dsimp only

theorem State.probeAt_leaves {P : Nat} {s₀ s : State} (hP : P &&& 137439019008 = 137439019008) (h : Leaves P s₀ s) (f : CommandFrame) :
    Leaves P s₀ (State.probeAt s f) := by
  unfold State.probeAt
  repeat' first
    | with_reducible assumption | with_reducible exact cov_trans hP (by decide)
    | with_reducible apply State.gateStatus_leaves (part_trans hP (by decide))
    | with_reducible apply State.raise_leaves | with_reducible apply State.wr_leaves | with_reducible apply Leaves.ite
    | split | with_reducible intro _ | dsimp only

theorem State.gateCommand_leaves {P : Nat} {s₀ s : State} (hP : P &&& 1065421077000 = 1065421077000) (h : Leaves P s₀ s) (f : CommandFrame) :
    Leaves P s₀ (State.gateCommand s f) := by
  unfold State.gateCommand
  repeat' first
    | with_reducible assumption | with_reducible exact cov_trans hP (by decide)
    | with_reducible apply State.applyCommand_leaves (part_trans hP (by decide))
    | with_reducible apply State.count_leaves (part_trans hP (by decide))
    | with_reducible apply State.gateRefuse_leaves (part_trans hP (by decide))
    | with_reducible apply State.incSat_leaves | with_reducible apply State.setThr_leaves (part_trans hP (by decide))
    | with_reducible apply Leaves.ite | with_reducible apply Leaves.getD | split | with_reducible intro _ | dsimp only

theorem execGateCommandFrame_leaves {P : Nat} {s₀ s : State} (hP : P &&& 1065421077000 = 1065421077000) (h : Leaves P s₀ s) (path : Fin 24) (f : CommandFrame) :
    OutLeaves P s₀ (execGateCommandFrame path f s) := by
  unfold execGateCommandFrame
  repeat' first
    | with_reducible assumption | with_reducible apply OutLeaves.next
    | with_reducible apply State.gateCommand_leaves (part_trans hP (by decide))
    | with_reducible apply State.gateRefuse_leaves (part_trans hP (by decide))
    | with_reducible apply State.gateTake_leaves (part_trans hP (by decide))
    | with_reducible apply State.probeAt_leaves (part_trans hP (by decide)) | with_reducible apply OutLeaves.ite
    | with_reducible apply Leaves.ite | split | with_reducible intro _ | dsimp only

theorem execLeaseExpiry_leaves {P : Nat} {s₀ s : State} (hP : P &&& 171798757384 = 171798757384) (h : Leaves P s₀ s) (i : Member) :
    OutLeaves P s₀ (execLeaseExpiry i s) := by
  unfold execLeaseExpiry
  repeat' first
    | with_reducible assumption | with_reducible apply OutLeaves.next
    | with_reducible apply State.gateEvaluate_leaves (part_trans hP (by decide))
    | with_reducible apply State.setMember_leaves (part_trans hP (by decide)) | with_reducible apply OutLeaves.ite
    | split | with_reducible intro _ | dsimp only

theorem execCommandApply_leaves {P : Nat} {s₀ s : State} (hP : P &&& 1065421077000 = 1065421077000) (h : Leaves P s₀ s) (t : Fin 32) :
    OutLeaves P s₀ (execCommandApply t s) := by
  unfold execCommandApply
  repeat' first
    | with_reducible assumption | with_reducible apply OutLeaves.next
    | with_reducible apply State.applyCommand_leaves (part_trans hP (by decide)) | with_reducible apply OutLeaves.ite
    | with_reducible apply Leaves.ite | split | with_reducible intro _

theorem State.fence_leaves {P : Nat} {s₀ s : State} (hP : P &&& 240518248968 = 240518248968) (h : Leaves P s₀ s) (i : Nat) :
    Leaves P s₀ (State.fence s i) := by
  unfold State.fence
  repeat' first
    | with_reducible assumption | with_reducible exact cov_trans hP (by decide)
    | with_reducible apply State.alarm_leaves (part_trans hP (by decide))
    | with_reducible apply State.gateEvaluate_leaves (part_trans hP (by decide))
    | with_reducible apply State.raise_leaves
    | with_reducible apply State.setMember_leaves (part_trans hP (by decide)) | with_reducible intro _ | dsimp only

theorem execCrossCheck_leaves {P : Nat} {s₀ s : State} (hP : P &&& 515396696584 = 515396696584) (h : Leaves P s₀ s) (t : Fin 32) :
    OutLeaves P s₀ (execCrossCheck t s) := by
  unfold execCrossCheck
  repeat' first
    | with_reducible assumption | with_reducible apply OutLeaves.next
    | with_reducible apply State.applied_leaves (part_trans hP (by decide))
    | with_reducible apply State.fence_leaves (part_trans hP (by decide))
    | with_reducible apply State.setMember_leaves (part_trans hP (by decide))
    | with_reducible apply State.setThr_leaves (part_trans hP (by decide)) | with_reducible apply OutLeaves.ite
    | with_reducible apply Leaves.ite | split | with_reducible intro _ | dsimp only

theorem execNoleaseHold_leaves {P : Nat} {s₀ s : State} (hP : P &&& 240786684424 = 240786684424) (h : Leaves P s₀ s) :
    OutLeaves P s₀ (execNoleaseHold s) := by
  unfold execNoleaseHold
  repeat' first
    | with_reducible assumption | with_reducible exact cov_trans hP (by decide) | with_reducible apply OutLeaves.next
    | with_reducible apply State.alarm_leaves (part_trans hP (by decide))
    | with_reducible apply State.gateStatus_leaves (part_trans hP (by decide))
    | with_reducible apply State.raise_leaves | with_reducible apply State.setWord_leaves (part_trans hP (by decide))
    | with_reducible apply OutLeaves.ite | with_reducible apply Leaves.ite | with_reducible apply Leaves.foldl | split
    | with_reducible intro _ | dsimp only

theorem execFenceExpiry_leaves {P : Nat} {s₀ s : State} (hP : P &&& 137439019008 = 137439019008) (h : Leaves P s₀ s) (i : Member) :
    OutLeaves P s₀ (execFenceExpiry i s) := by
  unfold execFenceExpiry
  repeat' first
    | with_reducible assumption | with_reducible exact cov_trans hP (by decide) | with_reducible apply OutLeaves.next
    | with_reducible apply State.put_leaves | with_reducible apply State.setMember_leaves (part_trans hP (by decide))
    | with_reducible apply OutLeaves.ite | split | with_reducible intro _ | dsimp only

theorem execGateStatusSend_leaves {P : Nat} {s₀ s : State} (hP : P &&& 65536 = 65536) (h : Leaves P s₀ s) :
    OutLeaves P s₀ (execGateStatusSend s) := by
  unfold execGateStatusSend
  repeat' first
    | with_reducible assumption | with_reducible apply OutLeaves.next
    | with_reducible apply State.gateStatus_leaves (part_trans hP (by decide)) | with_reducible apply OutLeaves.ite
    | with_reducible apply Leaves.ite | split | with_reducible intro _

theorem State.blockNow_leaves {P : Nat} {s₀ s : State} (hP : P &&& 268435456 = 268435456) (h : Leaves P s₀ s) :
    Leaves P s₀ (State.blockNow s) := by
  unfold State.blockNow
  repeat' first
    | with_reducible assumption | with_reducible apply State.setWord_leaves (part_trans hP (by decide))
    | with_reducible apply Leaves.ite | with_reducible apply Leaves.foldl | with_reducible apply Leaves.foldl_fst
    | with_reducible apply Leaves.getD | split | with_reducible intro _ | dsimp only

theorem State.safetyMirror_leaves {P : Nat} {s₀ s : State} (hP : P &&& 274877906952 = 274877906952) (h : Leaves P s₀ s) :
    Leaves P s₀ (State.safetyMirror s) := by
  unfold State.safetyMirror
  repeat' first
    | with_reducible assumption | with_reducible exact cov_trans hP (by decide)
    | with_reducible apply State.put_leaves | with_reducible apply State.setObjN_leaves (part_trans hP (by decide))
    | with_reducible apply State.wr_leaves | dsimp only

theorem State.mirrorIrqs_leaves {P : Nat} {s₀ s : State} (hP : P &&& 274877906944 = 274877906944) (h : Leaves P s₀ s) (old : State) :
    Leaves P s₀ (State.mirrorIrqs s old) := by
  unfold State.mirrorIrqs
  repeat' first
    | with_reducible assumption | with_reducible exact cov_trans hP (by decide)
    | with_reducible apply State.raise_leaves | with_reducible apply Leaves.ite | split | with_reducible intro _
    | dsimp only

theorem execSafetyStatus_leaves {P : Nat} {s₀ s : State} (hP : P &&& 275146866696 = 275146866696) (h : Leaves P s₀ s) (crcGood : Bool) :
    OutLeaves P s₀ (execSafetyStatus crcGood s) := by
  unfold execSafetyStatus
  repeat' first
    | with_reducible assumption | with_reducible exact cov_trans hP (by decide) | with_reducible apply OutLeaves.next
    | with_reducible apply State.blockNow_leaves (part_trans hP (by decide))
    | with_reducible apply State.incSat_leaves
    | with_reducible apply State.mirrorIrqs_leaves (part_trans hP (by decide))
    | with_reducible apply State.raise_leaves
    | with_reducible apply State.safetyLog_leaves (part_trans hP (by decide))
    | with_reducible apply State.safetyMirror_leaves (part_trans hP (by decide))
    | with_reducible apply State.setSafety_leaves (part_trans hP (by decide)) | with_reducible apply OutLeaves.ite
    | with_reducible apply Leaves.ite | split | with_reducible intro _ | dsimp only

end Sys2Proof.Machine
end

