-- ==== Sys2Proof/Laws/LeavesHooks.lean ====
section
/-! SUPPORT. What each operation of Machine/Hooks.lean leaves. -/

set_option linter.unusedTactic false
set_option linter.unreachableTactic false

namespace Sys2Proof.Machine

theorem State.follow_leaves {P : Nat} {s₀ s : State} (hP : P &&& 4398012956672 = 4398012956672) (h : Leaves P s₀ s) (o : ObjDef) (i k : Nat) :
    Leaves P s₀ (State.follow s o i k) := by
  unfold State.follow
  repeat' first
    | with_reducible assumption | with_reducible apply State.wr_any (part_trans hP (by decide))
    | with_reducible apply Leaves.foldl | with_reducible intro _ | dsimp only

theorem State.hookSpare_leaves {P : Nat} {s₀ s : State} (hP : P &&& 268435456 = 268435456) (h : Leaves P s₀ s) (i : Nat) :
    Leaves P s₀ (State.hookSpare s i) := by
  unfold State.hookSpare
  repeat' first
    | with_reducible assumption | with_reducible exact cov_trans hP (by decide) | with_reducible apply State.wr_leaves
    | with_reducible apply Leaves.ite | split | with_reducible intro _ | dsimp only

theorem State.hookGen_leaves {P : Nat} {s₀ s : State} (hP : P &&& 268435456 = 268435456) (h : Leaves P s₀ s) (g : Nat) :
    Leaves P s₀ (State.hookGen s g) := by
  unfold State.hookGen
  repeat' first
    | with_reducible assumption | with_reducible exact cov_trans hP (by decide) | with_reducible apply State.wr_leaves
    | with_reducible apply Leaves.ite | split | with_reducible intro _

theorem State.hookPersist_leaves {P : Nat} {s₀ s : State} (hP : P &&& 134217728 = 134217728) (h : Leaves P s₀ s) (c k : Nat) (v : Nat) :
    Leaves P s₀ (State.hookPersist s c k v) := by
  unfold State.hookPersist
  repeat' first
    | with_reducible assumption | with_reducible exact cov_trans hP (by decide) | with_reducible apply State.wr_leaves

theorem State.hookCmp_leaves {P : Nat} {s₀ s : State} (hP : P &&& 134217728 = 134217728) (h : Leaves P s₀ s) (c sub : Nat) :
    Leaves P s₀ (State.hookCmp s c sub) := by
  unfold State.hookCmp
  repeat' first
    | with_reducible assumption | with_reducible apply State.cmpClear_leaves (part_trans hP (by decide))
    | with_reducible apply State.hookPersist_leaves (part_trans hP (by decide)) | dsimp only

theorem State.poolLoad_leaves {P : Nat} {s₀ s : State} (hP : P &&& 8388608 = 8388608) (h : Leaves P s₀ s) (e : Nat) (b : List Byte) :
    Leaves P s₀ (State.poolLoad s e b) := by
  unfold State.poolLoad
  repeat' first
    | with_reducible assumption | with_reducible apply State.poolPut_leaves (part_trans hP (by decide))
    | with_reducible apply Leaves.foldl | with_reducible intro _ | dsimp only

theorem State.hookGeneral_leaves {P : Nat} {s₀ s : State} (hP : P &&& 103179893256 = 103179893256) (h : Leaves P s₀ s) :
    Leaves P s₀ (State.hookGeneral s) := by
  unfold State.hookGeneral
  repeat' first
    | with_reducible assumption | with_reducible exact cov_trans hP (by decide)
    | with_reducible apply State.kiln_leaves (part_trans hP (by decide))
    | with_reducible apply State.replan_leaves (part_trans hP (by decide))
    | with_reducible apply State.setObjN_leaves (part_trans hP (by decide)) | with_reducible apply State.wr_leaves
    | dsimp only

theorem State.hookFollow_leaves {P : Nat} {s₀ s : State} (hP : P &&& 656325148204 = 656325148204) (h : Leaves P s₀ s) (n : Nat) :
    Leaves P s₀ (State.hookFollow s n) := by
  unfold State.hookFollow
  repeat' first
    | with_reducible assumption | with_reducible apply State.stepBase_leaves (part_trans hP (by decide))

theorem State.hookSource_leaves {P : Nat} {s₀ s : State} (hP : P &&& 656325148204 = 656325148204) (h : Leaves P s₀ s) (n : Nat) :
    Leaves P s₀ (State.hookSource s n) := by
  unfold State.hookSource
  repeat' first
    | with_reducible assumption | with_reducible apply State.hookFollow_leaves (part_trans hP (by decide))
    | with_reducible apply State.setServo_leaves (part_trans hP (by decide))
    | with_reducible apply State.setServoState_leaves (part_trans hP (by decide)) | with_reducible apply Leaves.ite
    | split | with_reducible intro _ | dsimp only

theorem State.hookEmts_leaves {P : Nat} {s₀ s : State} (hP : P &&& 4294967296 = 4294967296) (h : Leaves P s₀ s) (m : Nat) :
    Leaves P s₀ (State.hookEmts s m) := by
  unfold State.hookEmts
  repeat' first
    | with_reducible assumption | with_reducible exact cov_trans hP (by decide) | with_reducible apply State.wr_leaves
    | with_reducible apply Leaves.ite | split | with_reducible intro _ | dsimp only

theorem State.hookPtp_leaves {P : Nat} {s₀ s : State} (hP : P &&& 1073742856 = 1073742856) (h : Leaves P s₀ s) (i : Nat) :
    Leaves P s₀ (State.hookPtp s i) := by
  unfold State.hookPtp
  repeat' first
    | with_reducible assumption | with_reducible apply State.bmca_leaves (part_trans hP (by decide))
    | with_reducible apply State.setPtp_leaves (part_trans hP (by decide)) | with_reducible intro _ | dsimp only

theorem State.hookSnapAt_leaves {P : Nat} {s₀ s : State} (hP : P &&& 34359738368 = 34359738368) (h : Leaves P s₀ s) :
    Leaves P s₀ (State.hookSnapAt s) := by
  unfold State.hookSnapAt
  repeat' first
    | with_reducible assumption | with_reducible exact cov_trans hP (by decide)
    | with_reducible apply State.snapArm_leaves (part_trans hP (by decide)) | with_reducible apply State.wr_leaves
    | dsimp only

theorem nextOr_leaves {P : Nat} {s₀ s : State} (h : Leaves P s₀ s)
    (o : Host.Outcome State Fault Refusal) (ho : OutLeaves P s₀ o) : Leaves P s₀ (nextOr s o) := by
  unfold nextOr
  split
  · exact ho _ rfl
  · exact h

theorem State.hookCapArm_leaves {P : Nat} {s₀ s : State} (hP : P &&& 268566528 = 268566528) (h : Leaves P s₀ s) (c v : Nat) :
    Leaves P s₀ (State.hookCapArm s c v) := by
  unfold State.hookCapArm
  repeat' first
    | with_reducible assumption | with_reducible apply State.capStop_leaves (part_trans hP (by decide))
    | with_reducible apply execCaptureArm_leaves (part_trans hP (by decide)) | with_reducible apply nextOr_leaves
    | with_reducible apply Leaves.ite | split | with_reducible intro _

theorem State.settingHook_leaves {P : Nat} {s₀ s : State} (hP : P &&& 4398021803564 = 4398021803564) (h : Leaves P s₀ s) (o : ObjDef) (i k : Nat) :
    Leaves P s₀ (State.settingHook s o i k) := by
  unfold State.settingHook
  repeat' first
    | with_reducible assumption | with_reducible exact cov_trans hP (by decide)
    | with_reducible apply State.clearCounters_leaves (part_trans hP (by decide))
    | with_reducible apply State.evConfigure_leaves (part_trans hP (by decide))
    | with_reducible apply State.follow_leaves (part_trans hP (by decide))
    | with_reducible apply State.histConfigure_leaves (part_trans hP (by decide))
    | with_reducible apply State.hookCapArm_leaves (part_trans hP (by decide))
    | with_reducible apply State.hookCmp_leaves (part_trans hP (by decide))
    | with_reducible apply State.hookEmts_leaves (part_trans hP (by decide))
    | with_reducible apply State.hookGen_leaves (part_trans hP (by decide))
    | with_reducible apply State.hookGeneral_leaves (part_trans hP (by decide))
    | with_reducible apply State.hookPtp_leaves (part_trans hP (by decide))
    | with_reducible apply State.hookSnapAt_leaves (part_trans hP (by decide))
    | with_reducible apply State.hookSource_leaves (part_trans hP (by decide))
    | with_reducible apply State.hookSpare_leaves (part_trans hP (by decide))
    | with_reducible apply State.loadProgram_leaves (part_trans hP (by decide))
    | with_reducible apply State.poolLoad_leaves (part_trans hP (by decide)) | with_reducible apply State.raise_leaves
    | with_reducible apply State.resolveFork_leaves (part_trans hP (by decide))
    | with_reducible apply State.setCap_leaves (part_trans hP (by decide))
    | with_reducible apply State.snapRequest_leaves (part_trans hP (by decide)) | with_reducible apply State.wr_leaves
    | with_reducible apply Leaves.ite | split | with_reducible intro _ | dsimp only

end Sys2Proof.Machine
end

