-- ==== Sys2Proof/Laws/LeavesStartup.lean ====
section
/-! SUPPORT. What each operation of Machine/Startup.lean leaves. -/

set_option linter.unusedTactic false
set_option linter.unreachableTactic false

namespace Sys2Proof.Machine

theorem State.setHub_leaves {P : Nat} {s₀ s : State} (hP : P &&& 1048576 = 1048576) (h : Leaves P s₀ s) (f : HubSt → HubSt) :
    Leaves P s₀ (State.setHub s f) := by
  unfold State.setHub
  repeat' first
    | with_reducible assumption | dsimp only | with_reducible apply Leaves.set_hub (part_trans hP (by decide))

theorem execRailBelowReset_leaves {P : Nat} {s₀ s : State} (hP : P &&& 4398046510588 = 4398046510588) (h : Leaves P s₀ s) (rail : Rail) :
    OutLeaves P s₀ (execRailBelowReset rail s) := by
  unfold execRailBelowReset
  repeat' first
    | with_reducible assumption | with_reducible apply OutLeaves.next
    | with_reducible apply State.hubReset_leaves (part_trans hP (by decide))
    | with_reducible apply State.safetyEval_leaves (part_trans hP (by decide))
    | with_reducible apply State.setSafety_leaves (part_trans hP (by decide)) | split | with_reducible intro _
    | dsimp only

theorem State.sampleStraps_leaves {P : Nat} {s₀ s : State} (hP : P &&& 1099511627776 = 1099511627776) (h : Leaves P s₀ s) (role profile : Nat) :
    Leaves P s₀ (State.sampleStraps s role profile) := by
  unfold State.sampleStraps
  repeat' first
    | with_reducible assumption | with_reducible exact cov_trans hP (by decide)
    | with_reducible apply State.put_leaves | with_reducible apply State.wr_leaves | with_reducible apply Leaves.ite
    | split | with_reducible intro _ | dsimp only

theorem State.takeClasses_leaves {P : Nat} {s₀ s : State} (hP : P &&& 21474840576 = 21474840576) (h : Leaves P s₀ s) :
    Leaves P s₀ (State.takeClasses s) := by
  unfold State.takeClasses
  repeat' first
    | with_reducible assumption | with_reducible exact cov_trans hP (by decide) | with_reducible apply State.wr_leaves
    | with_reducible apply Leaves.foldl | with_reducible intro _ | dsimp only
    | with_reducible apply Leaves.set_zdp (part_trans hP (by decide))

theorem State.takeIdentity_leaves {P : Nat} {s₀ s : State} (hP : P &&& 8 = 8) (h : Leaves P s₀ s) :
    Leaves P s₀ (State.takeIdentity s) := by
  unfold State.takeIdentity
  repeat' first
    | with_reducible assumption | with_reducible apply State.setObjN_leaves (part_trans hP (by decide))
    | with_reducible intro _ | dsimp only

theorem State.badEntry_leaves {P : Nat} {s₀ s : State} (hP : P &&& 103079229960 = 103079229960) (h : Leaves P s₀ s) (slot : Nat) :
    Leaves P s₀ (State.badEntry s slot) := by
  unfold State.badEntry
  repeat' first
    | with_reducible assumption | with_reducible apply State.alarm_leaves (part_trans hP (by decide))
    | with_reducible apply State.setUnit_leaves (part_trans hP (by decide)) | with_reducible apply Leaves.ite | split
    | with_reducible intro _ | dsimp only

theorem State.showRetired_leaves {P : Nat} {s₀ s : State} (hP : P &&& 33151911936 = 33151911936) (h : Leaves P s₀ s) (slot : Nat) :
    Leaves P s₀ (State.showRetired s slot) := by
  unfold State.showRetired
  repeat' first
    | with_reducible assumption | with_reducible exact cov_trans hP (by decide)
    | with_reducible apply State.setSlot_leaves (part_trans hP (by decide))
    | with_reducible apply State.setUnit_leaves (part_trans hP (by decide)) | with_reducible apply State.wr_leaves
    | with_reducible apply Leaves.ite | split | with_reducible intro _ | dsimp only

theorem State.startHealth_leaves {P : Nat} {s₀ s : State} (hP : P &&& 136231139848 = 136231139848) (h : Leaves P s₀ s) (bad : List (Fin 456)) :
    Leaves P s₀ (State.startHealth s bad) := by
  unfold State.startHealth
  repeat' first
    | with_reducible assumption | with_reducible apply State.badEntry_leaves (part_trans hP (by decide))
    | with_reducible apply State.countRetired_leaves (part_trans hP (by decide))
    | with_reducible apply State.countSpares_leaves (part_trans hP (by decide))
    | with_reducible apply State.showRetired_leaves (part_trans hP (by decide)) | with_reducible apply Leaves.foldl
    | with_reducible apply Leaves.foldl_fst | with_reducible intro _ | dsimp only

theorem State.startGauge_leaves {P : Nat} {s₀ s : State} (hP : P &&& 102760448 = 102760448) (h : Leaves P s₀ s) (cal : Option Calibration) :
    Leaves P s₀ (State.startGauge s cal) := by
  unfold State.startGauge
  repeat' first
    | with_reducible assumption | with_reducible exact cov_trans hP (by decide)
    | with_reducible apply State.forecast_leaves (part_trans hP (by decide)) | with_reducible apply State.raise_leaves
    | with_reducible apply State.replan_leaves (part_trans hP (by decide))
    | with_reducible apply State.setExcluded_leaves (part_trans hP (by decide)) | with_reducible apply State.wr_leaves
    | with_reducible apply Leaves.foldl | with_reducible apply Leaves.foldl_fst
    | with_reducible apply Leaves.foldl_snd | split | with_reducible intro _ | dsimp only
    | with_reducible apply Leaves.set_fabric (part_trans hP (by decide))

theorem State.recovery_leaves {P : Nat} {s₀ s : State} (hP : P &&& 1099512676352 = 1099512676352) (h : Leaves P s₀ s) :
    Leaves P s₀ (State.recovery s) := by
  unfold State.recovery
  repeat' first
    | with_reducible assumption | with_reducible exact cov_trans hP (by decide)
    | with_reducible apply State.setHub_leaves (part_trans hP (by decide)) | with_reducible apply State.wr_leaves
    | with_reducible intro _ | dsimp only

theorem State.startBoot_leaves {P : Nat} {s₀ s : State} (hP : P &&& 1099512676352 = 1099512676352) (h : Leaves P s₀ s) (copies : Nat) :
    Leaves P s₀ (State.startBoot s copies) := by
  unfold State.startBoot
  repeat' first
    | with_reducible assumption | with_reducible apply State.recovery_leaves (part_trans hP (by decide))
    | with_reducible apply State.setHub_leaves (part_trans hP (by decide)) | with_reducible apply Leaves.ite | split
    | with_reducible intro _ | dsimp only

theorem execHubResetRelease_leaves {P : Nat} {s₀ s : State} (hP : P &&& 1373285531144 = 1373285531144) (h : Leaves P s₀ s) (testEn : Bool) (role : BitVec 2) (profile : BitVec 3) (cal : Option Calibration) (bad : List (Fin 456)) (copies : BitVec 2) :
    OutLeaves P s₀ (execHubResetRelease testEn role profile cal bad copies s) := by
  unfold execHubResetRelease
  repeat' first
    | with_reducible assumption | with_reducible exact cov_trans hP (by decide) | with_reducible apply OutLeaves.next
    | with_reducible apply State.alarm_leaves (part_trans hP (by decide))
    | with_reducible apply State.ltRecheck_leaves (part_trans hP (by decide)) | with_reducible apply State.put_leaves
    | with_reducible apply State.raise_leaves | with_reducible apply State.recheck_leaves (part_trans hP (by decide))
    | with_reducible apply State.sampleStraps_leaves (part_trans hP (by decide))
    | with_reducible apply State.setHub_leaves (part_trans hP (by decide))
    | with_reducible apply State.startBoot_leaves (part_trans hP (by decide))
    | with_reducible apply State.startGauge_leaves (part_trans hP (by decide))
    | with_reducible apply State.startHealth_leaves (part_trans hP (by decide))
    | with_reducible apply State.takeClasses_leaves (part_trans hP (by decide))
    | with_reducible apply State.takeIdentity_leaves (part_trans hP (by decide)) | with_reducible apply OutLeaves.ite
    | with_reducible apply Leaves.ite | split | with_reducible intro _ | dsimp only
    | with_reducible apply Leaves.set_time (part_trans hP (by decide))

theorem State.loadImage_leaves {P : Nat} {s₀ s : State} (hP : P &&& 36 = 36) (h : Leaves P s₀ s) (slot : Nat) (i : Image) :
    Leaves P s₀ (State.loadImage s slot i) := by
  unfold State.loadImage
  repeat' first
    | with_reducible assumption | with_reducible apply State.gristPut_leaves (part_trans hP (by decide))
    | with_reducible apply Leaves.foldl | with_reducible intro _ | dsimp only

theorem State.restoreSettings_leaves {P : Nat} {s₀ s : State} (hP : P &&& 4398021803564 = 4398021803564) (h : Leaves P s₀ s) :
    Leaves P s₀ (State.restoreSettings s) := by
  unfold State.restoreSettings
  repeat' first
    | with_reducible assumption | with_reducible apply State.follow_leaves (part_trans hP (by decide))
    | with_reducible apply State.settingHook_leaves (part_trans hP (by decide)) | with_reducible apply Leaves.ite
    | with_reducible apply Leaves.foldl | with_reducible apply Leaves.foldl_fst | split | with_reducible intro _
    | dsimp only

theorem State.startTrial_leaves {P : Nat} {s₀ s : State} (hP : P &&& 1099512676352 = 1099512676352) (h : Leaves P s₀ s) (slot : Nat) :
    Leaves P s₀ (State.startTrial s slot) := by
  unfold State.startTrial
  repeat' first
    | with_reducible assumption | with_reducible exact cov_trans hP (by decide)
    | with_reducible apply State.raise_leaves | with_reducible apply State.setHub_leaves (part_trans hP (by decide))
    | with_reducible apply State.wr_leaves | with_reducible apply trial_leaves | with_reducible apply Leaves.ite
    | with_reducible apply Leaves.getD | split | with_reducible intro _ | dsimp only

theorem State.startAlarm_leaves {P : Nat} {s₀ s : State} (hP : P &&& 103079229960 = 103079229960) (h : Leaves P s₀ s) (code : Nat) (word : Option Nat) :
    Leaves P s₀ (State.startAlarm s code word) := by
  unfold State.startAlarm
  repeat' first
    | with_reducible assumption | with_reducible apply State.alarmWith_leaves (part_trans hP (by decide))
    | with_reducible apply State.endLostSubs_leaves (part_trans hP (by decide))
    | with_reducible apply State.nextFresh_leaves (part_trans hP (by decide)) | split | with_reducible intro _
    | dsimp only

theorem State.enter_leaves {P : Nat} {s₀ s : State} (hP : P &&& 4398027046444 = 4398027046444) (h : Leaves P s₀ s) (slot : Nat) :
    Leaves P s₀ (State.enter s slot) := by
  unfold State.enter
  repeat' first
    | with_reducible assumption | with_reducible exact cov_trans hP (by decide)
    | with_reducible apply State.loadImage_leaves (part_trans hP (by decide)) | with_reducible apply State.put_leaves
    | with_reducible apply State.restoreSettings_leaves (part_trans hP (by decide))
    | with_reducible apply State.setHub_leaves (part_trans hP (by decide))
    | with_reducible apply State.startAlarm_leaves (part_trans hP (by decide))
    | with_reducible apply State.startTrial_leaves (part_trans hP (by decide))
    | with_reducible apply State.takeSettings_leaves (part_trans hP (by decide))
    | with_reducible apply State.wr_leaves | with_reducible apply Leaves.ite | with_reducible apply Leaves.getD
    | split | with_reducible intro _ | dsimp only | with_reducible apply Leaves.set_zdp (part_trans hP (by decide))

theorem execImageVerify_leaves {P : Nat} {s₀ s : State} (hP : P &&& 4398027046444 = 4398027046444) (h : Leaves P s₀ s) (readOk : Bool) :
    OutLeaves P s₀ (execImageVerify readOk s) := by
  unfold execImageVerify
  repeat' first
    | with_reducible assumption | with_reducible exact cov_trans hP (by decide) | with_reducible apply OutLeaves.next
    | with_reducible apply State.enter_leaves (part_trans hP (by decide)) | with_reducible apply State.put_leaves
    | with_reducible apply State.recovery_leaves (part_trans hP (by decide))
    | with_reducible apply State.setHub_leaves (part_trans hP (by decide)) | with_reducible apply State.wr_leaves
    | with_reducible apply OutLeaves.ite | with_reducible apply Leaves.ite | with_reducible apply Leaves.getD | split
    | with_reducible intro _ | dsimp only

theorem State.noteOperational_leaves {P : Nat} {s₀ s : State} (hP : P &&& 3670016 = 3670016) (h : Leaves P s₀ s) :
    Leaves P s₀ (State.noteOperational s) := by
  unfold State.noteOperational
  repeat' first
    | with_reducible assumption | with_reducible apply State.sendConfig_leaves (part_trans hP (by decide))
    | with_reducible apply State.setHub_leaves (part_trans hP (by decide)) | with_reducible apply Leaves.ite | split
    | with_reducible intro _ | dsimp only | with_reducible apply Leaves.set_fabric (part_trans hP (by decide))

theorem execTableReplace_leaves {P : Nat} {s₀ s : State} (hP : P &&& 103116446208 = 103116446208) (h : Leaves P s₀ s) :
    OutLeaves P s₀ (execTableReplace s) := by
  unfold execTableReplace
  repeat' first
    | with_reducible assumption | with_reducible apply OutLeaves.next
    | with_reducible apply State.noteOperational_leaves (part_trans hP (by decide))
    | with_reducible apply State.replaceTables_leaves (part_trans hP (by decide)) | with_reducible apply OutLeaves.ite
    | with_reducible apply Leaves.ite | split | with_reducible intro _

theorem State.loadSectors_leaves {P : Nat} {s₀ s : State} (h : Leaves P s₀ s) (start_ end_ : Field) (hf_start_ : covers P start_ = true) (hf_end_ : covers P end_ = true) (t : Nat) (b : List Byte) :
    Leaves P s₀ (State.loadSectors s start_ end_ t b) := by
  unfold State.loadSectors
  repeat' first
    | with_reducible assumption | with_reducible exact cov_trans hP (by decide) | with_reducible apply State.wr_leaves
    | with_reducible apply Leaves.foldl | with_reducible intro _ | dsimp only

theorem State.loadSafe_leaves {P : Nat} {s₀ s : State} (hP : P &&& 137438953472 = 137438953472) (h : Leaves P s₀ s) (t : Nat) (b : List Byte) :
    Leaves P s₀ (State.loadSafe s t b) := by
  unfold State.loadSafe
  repeat' first
    | with_reducible assumption | with_reducible exact cov_trans hP (by decide) | with_reducible apply State.wr_leaves

theorem State.restoreAction_leaves {P : Nat} {s₀ s : State} (hP : P &&& 4398012956672 = 4398012956672) (h : Leaves P s₀ s) (o : ObjDef) (i k : Nat) :
    Leaves P s₀ (State.restoreAction s o i k) := by
  unfold State.restoreAction
  repeat' first
    | with_reducible assumption | with_reducible exact cov_trans hP (by decide)
    | with_reducible apply State.loadSafe_leaves (part_trans hP (by decide))
    | with_reducible apply State.loadSectors_leaves | with_reducible apply State.wr_any (part_trans hP (by decide))
    | with_reducible apply Leaves.ite | with_reducible apply Leaves.foldl | split | with_reducible intro _
    | dsimp only

theorem State.startSlot_leaves {P : Nat} {s₀ s : State} (hP : P &&& 103347796744 = 103347796744) (h : Leaves P s₀ s) (i : Nat) :
    Leaves P s₀ (State.startSlot s i) := by
  unfold State.startSlot
  repeat' first
    | with_reducible assumption | with_reducible apply State.copySlot_leaves (part_trans hP (by decide))
    | with_reducible apply State.recheck_leaves (part_trans hP (by decide))
    | with_reducible apply execSlotEnable_leaves (part_trans hP (by decide)) | with_reducible apply nextOr_leaves
    | with_reducible apply Leaves.ite | split | with_reducible intro _

theorem State.startPort_leaves {P : Nat} {s₀ s : State} (hP : P &&& 30064881928 = 30064881928) (h : Leaves P s₀ s) (p : Nat) :
    Leaves P s₀ (State.startPort s p) := by
  unfold State.startPort
  repeat' first
    | with_reducible assumption | with_reducible apply execPortEnable_leaves (part_trans hP (by decide))
    | with_reducible apply nextOr_leaves | with_reducible apply Leaves.ite | split | with_reducible intro _

theorem State.startUnit_leaves {P : Nat} {s₀ s : State} (hP : P &&& 136256666412 = 136256666412) (h : Leaves P s₀ s) (o : ObjDef) (i : Nat) :
    Leaves P s₀ (State.startUnit s o i) := by
  unfold State.startUnit
  repeat' first
    | with_reducible assumption | with_reducible apply State.startPort_leaves (part_trans hP (by decide))
    | with_reducible apply State.startSlot_leaves (part_trans hP (by decide))
    | with_reducible apply execCanEnable_leaves (part_trans hP (by decide))
    | with_reducible apply execLtChannelEnable_leaves (part_trans hP (by decide))
    | with_reducible apply execPfEnable_leaves (part_trans hP (by decide)) | with_reducible apply nextOr_leaves
    | with_reducible apply Leaves.ite | split | with_reducible intro _

theorem State.restoreActions_leaves {P : Nat} {s₀ s : State} (hP : P &&& 4398038629164 = 4398038629164) (h : Leaves P s₀ s) :
    Leaves P s₀ (State.restoreActions s) := by
  unfold State.restoreActions
  repeat' first
    | with_reducible assumption | with_reducible apply State.restoreAction_leaves (part_trans hP (by decide))
    | with_reducible apply State.startUnit_leaves (part_trans hP (by decide)) | with_reducible apply Leaves.ite
    | with_reducible apply Leaves.foldl | with_reducible apply Leaves.foldl_fst | split | with_reducible intro _
    | dsimp only

theorem State.loadMembers_leaves {P : Nat} {s₀ s : State} (hP : P &&& 137438953472 = 137438953472) (h : Leaves P s₀ s) (o : ObjDef) :
    Leaves P s₀ (State.loadMembers s o) := by
  unfold State.loadMembers
  repeat' first
    | with_reducible assumption | with_reducible exact cov_trans hP (by decide)
    | with_reducible apply State.put_leaves | with_reducible apply State.wr_leaves | dsimp only

theorem State.loadGate_leaves {P : Nat} {s₀ s : State} (hP : P &&& 137438953472 = 137438953472) (h : Leaves P s₀ s) :
    Leaves P s₀ (State.loadGate s) := by
  unfold State.loadGate
  repeat' first
    | with_reducible assumption | with_reducible exact cov_trans hP (by decide)
    | with_reducible apply State.loadMembers_leaves (part_trans hP (by decide)) | with_reducible apply State.wr_leaves
    | with_reducible apply Leaves.ite | split | with_reducible intro _ | dsimp only

theorem State.readJournal_leaves {P : Nat} {s₀ s : State} (hP : P &&& 549755830280 = 549755830280) (h : Leaves P s₀ s) (bad : List Nat) :
    Leaves P s₀ (State.readJournal s bad) := by
  unfold State.readJournal
  repeat' first
    | with_reducible assumption | with_reducible exact cov_trans hP (by decide)
    | with_reducible apply State.setApplied_leaves (part_trans hP (by decide))
    | with_reducible apply State.setJ_leaves (part_trans hP (by decide))
    | with_reducible apply State.setObjN_leaves (part_trans hP (by decide)) | with_reducible apply State.wr2_leaves
    | with_reducible apply Leaves.ite | with_reducible apply Leaves.foldl | with_reducible apply Leaves.foldl_fst
    | split | with_reducible intro _ | dsimp only

theorem State.replayOne_leaves {P : Nat} {s₀ s : State} (hP : P &&& 549755830280 = 549755830280) (h : Leaves P s₀ s) (o : OrderRec) :
    Leaves P s₀ (State.replayOne s o) := by
  unfold State.replayOne
  repeat' first
    | with_reducible assumption | with_reducible apply State.setApplied_leaves (part_trans hP (by decide))
    | with_reducible apply State.setEntry_leaves (part_trans hP (by decide)) | with_reducible apply Leaves.ite | split
    | with_reducible intro _ | dsimp only

theorem State.afterReplay_leaves {P : Nat} {s₀ s : State} (hP : P &&& 652835060232 = 652835060232) (h : Leaves P s₀ s) (failed : Option Nat) :
    Leaves P s₀ (State.afterReplay s failed) := by
  unfold State.afterReplay
  repeat' first
    | with_reducible assumption | with_reducible apply State.chooseSequencer_leaves (part_trans hP (by decide))
    | with_reducible apply State.discardFrom_leaves (part_trans hP (by decide))
    | with_reducible apply State.enterFork_leaves (part_trans hP (by decide))
    | with_reducible apply State.journalDip_leaves (part_trans hP (by decide))
    | with_reducible apply State.sendFetch_leaves (part_trans hP (by decide))
    | with_reducible apply State.setJ_leaves (part_trans hP (by decide))
    | with_reducible apply State.setJState_leaves (part_trans hP (by decide)) | with_reducible apply Leaves.ite
    | split | with_reducible intro _ | dsimp only

theorem execReplayComplete_leaves {P : Nat} {s₀ s : State} (hP : P &&& 4398042315564 = 4398042315564) (h : Leaves P s₀ s) (bad : List Nat) :
    OutLeaves P s₀ (execReplayComplete bad s) := by
  unfold execReplayComplete
  repeat' first
    | with_reducible assumption | with_reducible exact cov_trans hP (by decide) | with_reducible apply OutLeaves.next
    | with_reducible apply State.afterReplay_leaves (part_trans hP (by decide))
    | with_reducible apply State.loadGate_leaves (part_trans hP (by decide))
    | with_reducible apply State.noteOperational_leaves (part_trans hP (by decide))
    | with_reducible apply State.raise_leaves
    | with_reducible apply State.readJournal_leaves (part_trans hP (by decide))
    | with_reducible apply State.replayOne_leaves (part_trans hP (by decide))
    | with_reducible apply State.restoreActions_leaves (part_trans hP (by decide))
    | with_reducible apply State.setGate_leaves (part_trans hP (by decide))
    | with_reducible apply State.setHub_leaves (part_trans hP (by decide)) | with_reducible apply OutLeaves.ite
    | with_reducible apply Leaves.foldl | split | with_reducible intro _ | dsimp only

end Sys2Proof.Machine
end

