-- ==== Sys2Proof/Laws/LeavesFlash.lean ====
section
/-! SUPPORT. What each operation of Machine/Flash.lean leaves. -/

set_option linter.unusedTactic false
set_option linter.unreachableTactic false

namespace Sys2Proof.Machine

theorem State.writeRecord_leaves {P : Nat} {s₀ s : State} (hP : P &&& 1048576 = 1048576) (h : Leaves P s₀ s) (f : BootCopy → BootCopy) :
    Leaves P s₀ (State.writeRecord s f) := by
  unfold State.writeRecord
  repeat' first
    | with_reducible assumption | with_reducible apply State.setHub_leaves (part_trans hP (by decide))
    | with_reducible apply Leaves.ite | split | with_reducible intro _ | dsimp only

theorem State.flashChunk_leaves {P : Nat} {s₀ s : State} (hP : P &&& 1048576 = 1048576) (h : Leaves P s₀ s) (offset : Nat) (data : List Byte) :
    Leaves P s₀ (State.flashChunk s offset data).2 := by
  unfold State.flashChunk
  repeat' first
    | with_reducible assumption | with_reducible apply State.setHub_leaves (part_trans hP (by decide))
    | with_reducible apply Leaves.ite | split | with_reducible intro _ | dsimp only

theorem execFlashChunk_leaves {P : Nat} {s₀ s : State} (hP : P &&& 1048832 = 1048832) (h : Leaves P s₀ s) (offset : Word) (data : List Byte) :
    OutLeaves P s₀ (execFlashChunk offset data s) := by
  unfold execFlashChunk
  repeat' first
    | with_reducible assumption | with_reducible apply OutLeaves.next
    | with_reducible apply State.answer_leaves (part_trans hP (by decide))
    | with_reducible apply State.flashChunk_leaves (part_trans hP (by decide))
    | with_reducible apply Leaves.of_snd ‹_› | with_reducible intro _ | dsimp only

theorem execFlashProgramDone_leaves {P : Nat} {s₀ s : State} (hP : P &&& 1048576 = 1048576) (h : Leaves P s₀ s) :
    OutLeaves P s₀ (execFlashProgramDone s) := by
  unfold execFlashProgramDone
  repeat' first
    | with_reducible assumption | with_reducible exact cov_trans hP (by decide) | with_reducible apply OutLeaves.next
    | with_reducible apply State.put_leaves | with_reducible apply State.setHub_leaves (part_trans hP (by decide))
    | split | with_reducible intro _ | dsimp only

theorem State.flashErase_leaves {P : Nat} {s₀ s : State} (hP : P &&& 1048576 = 1048576) (h : Leaves P s₀ s) :
    Leaves P s₀ (State.flashErase s).2 := by
  unfold State.flashErase
  repeat' first
    | with_reducible assumption | with_reducible apply State.setHub_leaves (part_trans hP (by decide))
    | with_reducible apply Leaves.ite | split | with_reducible intro _ | dsimp only

theorem execFlashErase_leaves {P : Nat} {s₀ s : State} (hP : P &&& 1048832 = 1048832) (h : Leaves P s₀ s) :
    OutLeaves P s₀ (execFlashErase s) := by
  unfold execFlashErase
  repeat' first
    | with_reducible assumption | with_reducible apply OutLeaves.next
    | with_reducible apply State.answer_leaves (part_trans hP (by decide))
    | with_reducible apply State.flashErase_leaves (part_trans hP (by decide))
    | with_reducible apply Leaves.of_snd ‹_› | with_reducible intro _ | dsimp only

theorem State.flashCheck_leaves {P : Nat} {s₀ s : State} (hP : P &&& 1048576 = 1048576) (h : Leaves P s₀ s) :
    Leaves P s₀ (State.flashCheck s).2 := by
  unfold State.flashCheck
  repeat' first
    | with_reducible assumption | with_reducible apply State.setHub_leaves (part_trans hP (by decide))
    | with_reducible apply Leaves.ite | split | with_reducible intro _ | dsimp only

theorem execFlashCheck_leaves {P : Nat} {s₀ s : State} (hP : P &&& 1048832 = 1048832) (h : Leaves P s₀ s) :
    OutLeaves P s₀ (execFlashCheck s) := by
  unfold execFlashCheck
  repeat' first
    | with_reducible assumption | with_reducible apply OutLeaves.next
    | with_reducible apply State.answer_leaves (part_trans hP (by decide))
    | with_reducible apply State.flashCheck_leaves (part_trans hP (by decide))
    | with_reducible apply Leaves.of_snd ‹_› | with_reducible intro _ | dsimp only

theorem execFlashCheckDone_leaves {P : Nat} {s₀ s : State} (hP : P &&& 1048576 = 1048576) (h : Leaves P s₀ s) (readOk : Bool) :
    OutLeaves P s₀ (execFlashCheckDone readOk s) := by
  unfold execFlashCheckDone
  repeat' first
    | with_reducible assumption | with_reducible exact cov_trans hP (by decide) | with_reducible apply OutLeaves.next
    | with_reducible apply State.put_leaves | with_reducible apply State.setHub_leaves (part_trans hP (by decide))
    | with_reducible apply OutLeaves.ite | split | with_reducible intro _ | dsimp only

theorem execActivate_leaves {P : Nat} {s₀ s : State} (hP : P &&& 1048832 = 1048832) (h : Leaves P s₀ s) (slot flags : BitVec 8) :
    OutLeaves P s₀ (execActivate slot flags s) := by
  unfold execActivate
  repeat' first
    | with_reducible assumption | with_reducible apply OutLeaves.next
    | with_reducible apply State.answer_leaves (part_trans hP (by decide))
    | with_reducible apply State.writeRecord_leaves (part_trans hP (by decide)) | with_reducible apply trial_leaves
    | with_reducible apply OutLeaves.ite | split | with_reducible intro _ | dsimp only

theorem execBootResult_leaves {P : Nat} {s₀ s : State} (hP : P &&& 103080278792 = 103080278792) (h : Leaves P s₀ s) (slot result : BitVec 8) :
    OutLeaves P s₀ (execBootResult slot result s) := by
  unfold execBootResult
  repeat' first
    | with_reducible assumption | with_reducible apply OutLeaves.next
    | with_reducible apply State.alarm_leaves (part_trans hP (by decide))
    | with_reducible apply State.answer_leaves (part_trans hP (by decide))
    | with_reducible apply State.writeRecord_leaves (part_trans hP (by decide)) | with_reducible apply trial_leaves
    | with_reducible apply OutLeaves.ite | with_reducible apply Leaves.ite | split | with_reducible intro _
    | dsimp only

theorem execRollbackFloor_leaves {P : Nat} {s₀ s : State} (hP : P &&& 1048832 = 1048832) (h : Leaves P s₀ s) (floor : Word) :
    OutLeaves P s₀ (execRollbackFloor floor s) := by
  unfold execRollbackFloor
  repeat' first
    | with_reducible assumption | with_reducible apply OutLeaves.next
    | with_reducible apply State.answer_leaves (part_trans hP (by decide))
    | with_reducible apply State.writeRecord_leaves (part_trans hP (by decide)) | with_reducible apply OutLeaves.ite
    | split | with_reducible intro _ | dsimp only

theorem execKeyPin_leaves {P : Nat} {s₀ s : State} (hP : P &&& 1048832 = 1048832) (h : Leaves P s₀ s) (pin : List Byte) :
    OutLeaves P s₀ (execKeyPin pin s) := by
  unfold execKeyPin
  repeat' first
    | with_reducible assumption | with_reducible apply OutLeaves.next
    | with_reducible apply State.answer_leaves (part_trans hP (by decide))
    | with_reducible apply State.writeRecord_leaves (part_trans hP (by decide)) | with_reducible apply OutLeaves.ite
    | split | with_reducible intro _ | dsimp only

theorem execReboot_leaves {P : Nat} {s₀ s : State} (hP : P &&& 4398046510588 = 4398046510588) (h : Leaves P s₀ s) :
    OutLeaves P s₀ (execReboot s) := by
  unfold execReboot
  repeat' first
    | with_reducible assumption | with_reducible apply OutLeaves.next
    | with_reducible apply State.answer_leaves (part_trans hP (by decide))
    | with_reducible apply State.hubReset_leaves (part_trans hP (by decide)) | with_reducible apply OutLeaves.ite
    | split | with_reducible intro _

end Sys2Proof.Machine
end

