-- ==== Sys2Proof/Laws/LeavesGaugeRows.lean ====
section
/-! SUPPORT. What each operation of Machine/GaugeRows.lean leaves. -/

set_option linter.unusedTactic false
set_option linter.unreachableTactic false

namespace Sys2Proof.Machine

theorem State.vcoreReading_leaves {P : Nat} {s₀ s : State} (hP : P &&& 69206016 = 69206016) (h : Leaves P s₀ s) (v : Nat) :
    Leaves P s₀ (State.vcoreReading s v) := by
  unfold State.vcoreReading
  repeat' first
    | with_reducible assumption | with_reducible exact cov_trans hP (by decide)
    | with_reducible apply State.put_leaves | with_reducible apply State.setGauge_leaves (part_trans hP (by decide))
    | with_reducible apply State.wr_leaves | with_reducible intro _ | dsimp only

theorem State.tempReading_leaves {P : Nat} {s₀ s : State} (hP : P &&& 67108864 = 67108864) (h : Leaves P s₀ s) (n : Nat) (t : Int) :
    Leaves P s₀ (State.tempReading s n t) := by
  unfold State.tempReading
  repeat' first
    | with_reducible assumption | with_reducible exact cov_trans hP (by decide)
    | with_reducible apply State.wrS_leaves | dsimp only

theorem State.excludeMonitors_leaves {P : Nat} {s₀ s : State} (hP : P &&& 103148427776 = 103148427776) (h : Leaves P s₀ s) (n : Nat) (f : List Rat) :
    Leaves P s₀ (State.excludeMonitors s n f) := by
  unfold State.excludeMonitors
  repeat' first
    | with_reducible assumption | with_reducible apply State.event_leaves (part_trans hP (by decide))
    | with_reducible apply State.setExcluded_leaves (part_trans hP (by decide))
    | with_reducible apply State.setGtile_leaves (part_trans hP (by decide)) | with_reducible apply Leaves.ite
    | with_reducible apply Leaves.foldl | with_reducible apply Leaves.getD | split | with_reducible intro _
    | dsimp only

theorem State.judgeSpeed_leaves {P : Nat} {s₀ s : State} (hP : P &&& 2302205245960 = 2302205245960) (h : Leaves P s₀ s) (n m : Nat) :
    Leaves P s₀ (State.judgeSpeed s n m) := by
  unfold State.judgeSpeed
  repeat' first
    | with_reducible assumption | with_reducible exact cov_trans hP (by decide)
    | with_reducible apply State.count_leaves (part_trans hP (by decide))
    | with_reducible apply State.event_leaves (part_trans hP (by decide)) | with_reducible apply State.raise_leaves
    | with_reducible apply State.replan_leaves (part_trans hP (by decide))
    | with_reducible apply State.retireTile_leaves (part_trans hP (by decide))
    | with_reducible apply State.setGtile_leaves (part_trans hP (by decide))
    | with_reducible apply State.showBreach_leaves (part_trans hP (by decide)) | with_reducible apply Leaves.ite
    | with_reducible apply Leaves.getD | split | with_reducible intro _ | dsimp only

theorem State.tileWindow_leaves {P : Nat} {s₀ s : State} (hP : P &&& 2302205245960 = 2302205245960) (h : Leaves P s₀ s) (c : Calibration) (w : GaugeWindow) (n : Nat) :
    Leaves P s₀ (State.tileWindow s c w n) := by
  unfold State.tileWindow
  repeat' first
    | with_reducible assumption | with_reducible exact cov_trans hP (by decide)
    | with_reducible apply State.excludeMonitors_leaves (part_trans hP (by decide))
    | with_reducible apply State.judgeSpeed_leaves (part_trans hP (by decide))
    | with_reducible apply State.retireTile_leaves (part_trans hP (by decide)) | with_reducible apply State.wr_leaves
    | with_reducible apply Leaves.ite | with_reducible apply Leaves.foldl | with_reducible apply Leaves.getD | split
    | with_reducible intro _ | dsimp only

theorem execGaugeWindow_leaves {P : Nat} {s₀ s : State} (hP : P &&& 2302205245960 = 2302205245960) (h : Leaves P s₀ s) (w : GaugeWindow) :
    OutLeaves P s₀ (execGaugeWindow w s) := by
  unfold execGaugeWindow
  repeat' first
    | with_reducible assumption | with_reducible exact cov_trans hP (by decide) | with_reducible apply OutLeaves.next
    | with_reducible apply State.tempReading_leaves (part_trans hP (by decide))
    | with_reducible apply State.tileWindow_leaves (part_trans hP (by decide))
    | with_reducible apply State.vcoreReading_leaves (part_trans hP (by decide))
    | with_reducible apply State.wr_leaves | with_reducible apply OutLeaves.ite | with_reducible apply Leaves.ite
    | with_reducible apply Leaves.foldl | with_reducible apply Leaves.foldl_fst
    | with_reducible apply Leaves.foldl_snd | with_reducible apply Leaves.getD | split | with_reducible intro _
    | dsimp only

theorem execBreachEnd_leaves {P : Nat} {s₀ s : State} (hP : P &&& 102760448 = 102760448) (h : Leaves P s₀ s) (tile : Fin 32) :
    OutLeaves P s₀ (execBreachEnd tile s) := by
  unfold execBreachEnd
  repeat' first
    | with_reducible assumption | with_reducible apply OutLeaves.next
    | with_reducible apply State.breachOver_leaves (part_trans hP (by decide)) | with_reducible apply OutLeaves.ite
    | with_reducible apply Leaves.ite | split | with_reducible intro _

theorem execBreachAlarm_leaves {P : Nat} {s₀ s : State} (hP : P &&& 103081327112 = 103081327112) (h : Leaves P s₀ s) (tile : Fin 32) :
    OutLeaves P s₀ (execBreachAlarm tile s) := by
  unfold execBreachAlarm
  repeat' first
    | with_reducible assumption | with_reducible apply OutLeaves.next
    | with_reducible apply State.alarm_leaves (part_trans hP (by decide))
    | with_reducible apply State.setGtile_leaves (part_trans hP (by decide)) | with_reducible apply OutLeaves.ite
    | with_reducible apply Leaves.ite | split | with_reducible intro _ | dsimp only

theorem execRefMonitorSample_leaves {P : Nat} {s₀ s : State} (hP : P &&& 2097152 = 2097152) (h : Leaves P s₀ s) (ratios : List Rat) :
    OutLeaves P s₀ (execRefMonitorSample ratios s) := by
  unfold execRefMonitorSample
  repeat' first
    | with_reducible assumption | with_reducible apply OutLeaves.next
    | with_reducible apply State.setGauge_leaves (part_trans hP (by decide))
    | with_reducible apply State.setGtile_leaves (part_trans hP (by decide)) | with_reducible apply OutLeaves.ite
    | with_reducible apply Leaves.foldl | with_reducible apply Leaves.getD | split | with_reducible intro _
    | dsimp only

theorem execRefSample_leaves {P : Nat} {s₀ s : State} (hP : P &&& 2097152 = 2097152) (h : Leaves P s₀ s) :
    OutLeaves P s₀ (execRefSample s) := by
  unfold execRefSample
  repeat' first
    | with_reducible assumption | with_reducible apply OutLeaves.next
    | with_reducible apply State.setGauge_leaves (part_trans hP (by decide)) | with_reducible intro _ | dsimp only

theorem execTempHigh_leaves {P : Nat} {s₀ s : State} (hP : P &&& 103146338824 = 103146338824) (h : Leaves P s₀ s) (sensor : Fin 40) (reading : BitVec 16) :
    OutLeaves P s₀ (execTempHigh sensor reading s) := by
  unfold execTempHigh
  repeat' first
    | with_reducible assumption | with_reducible exact cov_trans hP (by decide) | with_reducible apply OutLeaves.next
    | with_reducible apply State.alarm_leaves (part_trans hP (by decide)) | with_reducible apply State.raise_leaves
    | with_reducible apply State.tempReading_leaves (part_trans hP (by decide)) | with_reducible apply OutLeaves.ite
    | with_reducible apply Leaves.ite | split | with_reducible intro _ | dsimp only

theorem execDipStart_leaves {P : Nat} {s₀ s : State} (hP : P &&& 652937820672 = 652937820672) (h : Leaves P s₀ s) (vcore : BitVec 16) :
    OutLeaves P s₀ (execDipStart vcore s) := by
  unfold execDipStart
  repeat' first
    | with_reducible assumption | with_reducible exact cov_trans hP (by decide) | with_reducible apply OutLeaves.next
    | with_reducible apply State.count_leaves (part_trans hP (by decide)) | with_reducible apply State.incSat_leaves
    | with_reducible apply State.journalDip_leaves (part_trans hP (by decide))
    | with_reducible apply State.raise_leaves | with_reducible apply State.setGauge_leaves (part_trans hP (by decide))
    | with_reducible apply State.showTable_leaves (part_trans hP (by decide))
    | with_reducible apply State.vcoreReading_leaves (part_trans hP (by decide)) | with_reducible apply OutLeaves.ite
    | split | with_reducible intro _ | dsimp only

theorem execDipLong_leaves {P : Nat} {s₀ s : State} (hP : P &&& 652935723528 = 652935723528) (h : Leaves P s₀ s) :
    OutLeaves P s₀ (execDipLong s) := by
  unfold execDipLong
  repeat' first
    | with_reducible assumption | with_reducible exact cov_trans hP (by decide) | with_reducible apply OutLeaves.next
    | with_reducible apply State.alarm_leaves (part_trans hP (by decide))
    | with_reducible apply State.journalPause_leaves (part_trans hP (by decide))
    | with_reducible apply State.raise_leaves | with_reducible apply OutLeaves.ite | split | with_reducible intro _

theorem State.stress_leaves {P : Nat} {s₀ s : State} (hP : P &&& 2097152 = 2097152) (h : Leaves P s₀ s) (n : Nat) (x : StressSample) :
    Leaves P s₀ (State.stress s n x) := by
  unfold State.stress
  repeat' first
    | with_reducible assumption | with_reducible apply State.setGtile_leaves (part_trans hP (by decide))
    | with_reducible apply Leaves.ite | split | with_reducible intro _ | dsimp only

theorem execStressUpdate_leaves {P : Nat} {s₀ s : State} (hP : P &&& 2097152 = 2097152) (h : Leaves P s₀ s) (tiles : List StressSample) :
    OutLeaves P s₀ (execStressUpdate tiles s) := by
  unfold execStressUpdate
  repeat' first
    | with_reducible assumption | with_reducible apply OutLeaves.next
    | with_reducible apply State.stress_leaves (part_trans hP (by decide)) | with_reducible apply OutLeaves.ite
    | with_reducible apply Leaves.foldl | split | with_reducible intro _ | dsimp only

theorem State.foldRecord_leaves {P : Nat} {s₀ s : State} (hP : P &&& 2097664 = 2097664) (h : Leaves P s₀ s) (r : DailyRec) :
    Leaves P s₀ (State.foldRecord s r) := by
  unfold State.foldRecord
  repeat' first
    | with_reducible assumption | with_reducible apply State.setGauge_leaves (part_trans hP (by decide))
    | with_reducible apply Leaves.ite | with_reducible apply Leaves.foldl | with_reducible apply Leaves.getD | split
    | with_reducible intro _ | dsimp only | with_reducible apply Leaves.set_fresh (part_trans hP (by decide))

theorem State.fit_leaves {P : Nat} {s₀ s : State} (hP : P &&& 2097664 = 2097664) (h : Leaves P s₀ s) :
    Leaves P s₀ (State.fit s) := by
  unfold State.fit
  repeat' first
    | with_reducible assumption | with_reducible apply State.setGtile_leaves (part_trans hP (by decide))
    | with_reducible apply Leaves.foldl | with_reducible intro _ | dsimp only
    | with_reducible apply Leaves.set_fresh (part_trans hP (by decide))

theorem execDailyRecord_leaves {P : Nat} {s₀ s : State} (hP : P &&& 103181990408 = 103181990408) (h : Leaves P s₀ s) :
    OutLeaves P s₀ (execDailyRecord s) := by
  unfold execDailyRecord
  repeat' first
    | with_reducible assumption | with_reducible apply OutLeaves.next
    | with_reducible apply State.fit_leaves (part_trans hP (by decide))
    | with_reducible apply State.foldRecord_leaves (part_trans hP (by decide))
    | with_reducible apply State.forecast_leaves (part_trans hP (by decide))
    | with_reducible apply State.kiln_leaves (part_trans hP (by decide))
    | with_reducible apply State.setGauge_leaves (part_trans hP (by decide)) | with_reducible apply OutLeaves.ite
    | with_reducible apply Leaves.ite | with_reducible apply Leaves.foldl | split | with_reducible intro _
    | dsimp only

end Sys2Proof.Machine
end

