-- ==== Sys2Proof/Laws/LeavesWrites.lean ====
section
/-! SUPPORT. What each operation of Machine/Writes.lean leaves. -/

set_option linter.unusedTactic false
set_option linter.unreachableTactic false

namespace Sys2Proof.Machine

theorem State.noteRefusal_leaves {P : Nat} {s₀ s : State} (hP : P &&& 671088640 = 671088640) (h : Leaves P s₀ s) (f : Found) :
    Leaves P s₀ (State.noteRefusal s f) := by
  unfold State.noteRefusal
  repeat' first
    | with_reducible assumption | with_reducible exact cov_trans hP (by decide)
    | with_reducible apply State.raise_leaves | with_reducible apply Leaves.ite | split | with_reducible intro _
    | dsimp only

theorem State.writeFollowOffset_leaves {P : Nat} {s₀ s : State} (hP : P &&& 656325148204 = 656325148204) (h : Leaves P s₀ s) (f : Found) (b : List Byte) :
    Leaves P s₀ (State.writeFollowOffset s f b) := by
  unfold State.writeFollowOffset
  repeat' first
    | with_reducible assumption | with_reducible apply State.applyStep_leaves (part_trans hP (by decide))
    | with_reducible apply State.setEntry_leaves (part_trans hP (by decide)) | with_reducible apply Leaves.ite | split
    | with_reducible intro _ | dsimp only

theorem State.applyWrite_leaves {P : Nat} {s₀ s : State} (hP : P &&& 4398046511100 = 4398046511100) (h : Leaves P s₀ s) (f : Found) (b : List Byte) :
    Leaves P s₀ (State.applyWrite s f b) := by
  unfold State.applyWrite
  repeat' first
    | with_reducible assumption | with_reducible apply State.flashCheck_leaves (part_trans hP (by decide))
    | with_reducible apply State.flashChunk_leaves (part_trans hP (by decide))
    | with_reducible apply State.flashErase_leaves (part_trans hP (by decide))
    | with_reducible apply State.hubReset_leaves (part_trans hP (by decide))
    | with_reducible apply State.setEntry_leaves (part_trans hP (by decide))
    | with_reducible apply State.settingHook_leaves (part_trans hP (by decide))
    | with_reducible apply State.writeFollowOffset_leaves (part_trans hP (by decide))
    | with_reducible apply Leaves.of_snd ‹_› | split | with_reducible intro _ | dsimp only

theorem State.spargeWrites_leaves {P : Nat} {s₀ s : State} (hP : P &&& 4398021803564 = 4398021803564) (h : Leaves P s₀ s) :
    Leaves P s₀ (State.spargeWrites s) := by
  unfold State.spargeWrites
  repeat' first
    | with_reducible assumption | with_reducible apply Run.write_leaves (part_trans hP (by decide))
    | with_reducible apply State.settingHook_leaves (part_trans hP (by decide))
    | with_reducible apply State.sparge_leaves (part_trans hP (by decide)) | with_reducible apply Leaves.foldl | split
    | with_reducible intro _ | dsimp only

theorem execDipEnd_leaves {P : Nat} {s₀ s : State} (hP : P &&& 4398046511100 = 4398046511100) (h : Leaves P s₀ s) (vcore : BitVec 16) :
    OutLeaves P s₀ (execDipEnd vcore s) := by
  unfold execDipEnd
  repeat' first
    | with_reducible assumption | with_reducible exact cov_trans hP (by decide) | with_reducible apply OutLeaves.next
    | with_reducible apply State.holdIfExhausted_leaves (part_trans hP (by decide))
    | with_reducible apply State.raise_leaves | with_reducible apply State.setGauge_leaves (part_trans hP (by decide))
    | with_reducible apply State.showTable_leaves (part_trans hP (by decide))
    | with_reducible apply State.spargeWrites_leaves (part_trans hP (by decide))
    | with_reducible apply State.vcoreReading_leaves (part_trans hP (by decide))
    | with_reducible apply State.wr_leaves | with_reducible apply OutLeaves.ite | with_reducible apply Leaves.ite
    | split | with_reducible intro _ | dsimp only

theorem execFuseOrder_leaves {P : Nat} {s₀ s : State} (hP : P &&& 4352 = 4352) (h : Leaves P s₀ s) (p : PortNo) (src : BitVec 16) (target : PortNo) (cls : BitVec 8) :
    OutLeaves P s₀ (execFuseOrder p src target cls s) := by
  unfold execFuseOrder
  repeat' first
    | with_reducible assumption | with_reducible exact cov_trans hP (by decide) | with_reducible apply OutLeaves.next
    | with_reducible apply State.answer_leaves (part_trans hP (by decide)) | with_reducible apply State.put_leaves
    | with_reducible apply OutLeaves.ite | split | with_reducible intro _ | dsimp only
    | with_reducible apply Leaves.set_zdp (part_trans hP (by decide))

theorem trial_leaves {P : Nat} {s₀ s : State} {n : Nat} (h : Leaves P s₀ s) (i : Nat) (f : Fin n → State → Host.Outcome State Fault Refusal) (h_f : ∀ x0 x1, Leaves P s₀ x1 → OutLeaves P s₀ (f x0 x1)) :
    Leaves P s₀ (trial s i f) := by
  unfold trial
  repeat' first
    | with_reducible assumption | with_reducible apply h_f | with_reducible apply nextOr_leaves
    | with_reducible apply Leaves.ite | split | with_reducible intro _

theorem service_leaves {P : Nat} {s₀ s : State} {n : Nat} (h : Leaves P s₀ s) (v : Nat) (test back : Fin n → State → Host.Outcome State Fault Refusal) (i : Fin n) (h_test : ∀ x0 x1, Leaves P s₀ x1 → OutLeaves P s₀ (test x0 x1)) (h_back : ∀ x0 x1, Leaves P s₀ x1 → OutLeaves P s₀ (back x0 x1)) :
    OutLeaves P s₀ (service v test back i s) := by
  unfold service
  repeat' first
    | with_reducible assumption | with_reducible apply h_test | with_reducible apply h_back
    | with_reducible apply OutLeaves.ite | split | with_reducible intro _

theorem State.foresee_leaves {P : Nat} {s₀ s : State} (hP : P &&& 961968865068 = 961968865068) (h : Leaves P s₀ s) (o : OrderRec) (f : Found) :
    Leaves P s₀ (State.foresee s o f) := by
  unfold State.foresee
  repeat' first
    | with_reducible assumption | with_reducible apply State.answer_leaves (part_trans hP (by decide))
    | with_reducible apply State.setEntry_leaves (part_trans hP (by decide))
    | with_reducible apply execCanDisable_leaves (part_trans hP (by decide))
    | with_reducible apply execCanEnable_leaves (part_trans hP (by decide))
    | with_reducible apply execCanRecover_leaves (part_trans hP (by decide))
    | with_reducible apply execCanServiceReturn_leaves (part_trans hP (by decide))
    | with_reducible apply execCanServiceTest_leaves (part_trans hP (by decide))
    | with_reducible apply execDatumOrder_leaves (part_trans hP (by decide))
    | with_reducible apply execGeneratorStart_leaves (part_trans hP (by decide))
    | with_reducible apply execLayDown_leaves (part_trans hP (by decide))
    | with_reducible apply execLtChannelEnable_leaves (part_trans hP (by decide))
    | with_reducible apply execLtServiceReturn_leaves (part_trans hP (by decide))
    | with_reducible apply execLtServiceTest_leaves (part_trans hP (by decide))
    | with_reducible apply execPassword_leaves (part_trans hP (by decide))
    | with_reducible apply execPasswordReset_leaves (part_trans hP (by decide))
    | with_reducible apply execPfEnable_leaves (part_trans hP (by decide))
    | with_reducible apply execPfServiceReturn_leaves (part_trans hP (by decide))
    | with_reducible apply execPfServiceTest_leaves (part_trans hP (by decide))
    | with_reducible apply execPortEnable_leaves (part_trans hP (by decide))
    | with_reducible apply execPortServiceReturn_leaves (part_trans hP (by decide))
    | with_reducible apply execPortServiceTest_leaves (part_trans hP (by decide))
    | with_reducible apply execResync_leaves (part_trans hP (by decide))
    | with_reducible apply execSeal_leaves (part_trans hP (by decide))
    | with_reducible apply execSessionClose_leaves (part_trans hP (by decide))
    | with_reducible apply execSessionOpen_leaves (part_trans hP (by decide))
    | with_reducible apply execSlotCommit_leaves (part_trans hP (by decide))
    | with_reducible apply execSlotEnable_leaves (part_trans hP (by decide))
    | with_reducible apply execSlotServiceReturn_leaves (part_trans hP (by decide))
    | with_reducible apply execSlotServiceTest_leaves (part_trans hP (by decide))
    | with_reducible apply execTestDemand_leaves (part_trans hP (by decide)) | with_reducible apply nextOr_leaves
    | with_reducible apply service_leaves | with_reducible apply trial_leaves | with_reducible apply Leaves.ite
    | with_reducible apply Leaves.getD | split | with_reducible intro _ | dsimp only

end Sys2Proof.Machine
end

