-- ==== Sys2Proof/Laws/LeavesZdp.lean ====
section
/-! SUPPORT. What each operation of Machine/Zdp.lean leaves. -/

set_option linter.unusedTactic false
set_option linter.unreachableTactic false

namespace Sys2Proof.Machine

theorem State.reply_leaves {P : Nat} {s₀ s : State} (hP : P &&& 34359742464 = 34359742464) (h : Leaves P s₀ s) (p : Nat) (m : ZdpMsg) (status : Nat) (body : List Byte) (flags seg : Nat) :
    Leaves P s₀ (State.reply s p m status body flags seg) := by
  unfold State.reply
  repeat' first
    | with_reducible assumption | with_reducible apply State.latency_leaves (part_trans hP (by decide))
    | with_reducible apply State.sendReply_leaves (part_trans hP (by decide))

theorem State.readRequest_leaves {P : Nat} {s₀ s : State} (hP : P &&& 34360267272 = 34360267272) (h : Leaves P s₀ s) (p : Nat) (m : ZdpMsg) :
    Leaves P s₀ (State.readRequest s p m) := by
  unfold State.readRequest
  repeat' first
    | with_reducible assumption | with_reducible apply State.newChallenge_leaves (part_trans hP (by decide))
    | with_reducible apply State.reply_leaves (part_trans hP (by decide)) | with_reducible apply Leaves.ite | split
    | with_reducible intro _ | dsimp only

theorem State.writeValue_leaves {P : Nat} {s₀ s : State} (hP : P &&& 4398046511100 = 4398046511100) (h : Leaves P s₀ s) (p : Nat) (m : ZdpMsg) (f : Found) (b : List Byte) (seg : Nat) :
    Leaves P s₀ (State.writeValue s p m f b seg) := by
  unfold State.writeValue
  repeat' first
    | with_reducible assumption | with_reducible apply Run.write_leaves (part_trans hP (by decide))
    | with_reducible apply State.applyWrite_leaves (part_trans hP (by decide))
    | with_reducible apply State.hold_leaves (part_trans hP (by decide))
    | with_reducible apply State.noteRefusal_leaves (part_trans hP (by decide))
    | with_reducible apply State.reply_leaves (part_trans hP (by decide)) | with_reducible apply Leaves.ite | split
    | with_reducible intro _ | dsimp only

theorem State.writeRequest_leaves {P : Nat} {s₀ s : State} (hP : P &&& 4398046511100 = 4398046511100) (h : Leaves P s₀ s) (p : Nat) (m : ZdpMsg) :
    Leaves P s₀ (State.writeRequest s p m) := by
  unfold State.writeRequest
  repeat' first
    | with_reducible assumption | with_reducible apply Run.write_leaves (part_trans hP (by decide))
    | with_reducible apply State.reply_leaves (part_trans hP (by decide))
    | with_reducible apply State.writeValue_leaves (part_trans hP (by decide)) | split | with_reducible intro _

theorem State.afterRefusal_leaves {P : Nat} {s₀ s : State} (hP : P &&& 961968865068 = 961968865068) (h : Leaves P s₀ s) (o : OrderRec) (f : Found) (why : Nat) :
    Leaves P s₀ (State.afterRefusal s o f why) := by
  unfold State.afterRefusal
  repeat' first
    | with_reducible assumption | with_reducible apply State.foresee_leaves (part_trans hP (by decide))
    | with_reducible apply Leaves.ite | split | with_reducible intro _ | dsimp only
    | with_reducible apply Leaves.set_outcome (part_trans hP (by decide))

theorem State.orderContent_leaves {P : Nat} {s₀ s : State} (hP : P &&& 961968865068 = 961968865068) (h : Leaves P s₀ s) (m : ZdpMsg) (f : Found) (o : OrderRec) (r : ReplyTo) :
    Leaves P s₀ (State.orderContent s m f o r) := by
  unfold State.orderContent
  repeat' first
    | with_reducible assumption | with_reducible apply State.acceptOrder_leaves (part_trans hP (by decide))
    | with_reducible apply State.afterRefusal_leaves (part_trans hP (by decide))
    | with_reducible apply State.orderReply_leaves (part_trans hP (by decide)) | with_reducible apply Leaves.ite
    | split | with_reducible intro _ | dsimp only

theorem State.recoveryOrder_leaves {P : Nat} {s₀ s : State} (hP : P &&& 3161094881068 = 3161094881068) (h : Leaves P s₀ s) (o : OrderRec) (r : ReplyTo) :
    Leaves P s₀ (State.recoveryOrder s o r) := by
  unfold State.recoveryOrder
  repeat' first
    | with_reducible assumption | with_reducible apply State.foresee_leaves (part_trans hP (by decide))
    | with_reducible apply State.orderReply_leaves (part_trans hP (by decide))
    | with_reducible apply State.recoveryHealth_leaves (part_trans hP (by decide)) | with_reducible apply Leaves.ite
    | with_reducible apply Leaves.getD | split | with_reducible intro _ | dsimp only

theorem State.orderRequest_leaves {P : Nat} {s₀ s : State} (hP : P &&& 3161094881068 = 3161094881068) (h : Leaves P s₀ s) (p : Nat) (m : ZdpMsg) :
    Leaves P s₀ (State.orderRequest s p m) := by
  unfold State.orderRequest
  repeat' first
    | with_reducible assumption | with_reducible apply State.duplicateCheck_leaves (part_trans hP (by decide))
    | with_reducible apply State.orderContent_leaves (part_trans hP (by decide))
    | with_reducible apply State.orderReply_leaves (part_trans hP (by decide))
    | with_reducible apply State.recoveryOrder_leaves (part_trans hP (by decide)) | with_reducible apply Leaves.ite
    | with_reducible apply Leaves.of_some ‹_› | split | with_reducible intro _ | dsimp only

theorem State.setSubs_leaves {P : Nat} {s₀ s : State} (hP : P &&& 4096 = 4096) (h : Leaves P s₀ s) (f : List Sub → List Sub) :
    Leaves P s₀ (State.setSubs s f) := by
  unfold State.setSubs
  repeat' first
    | with_reducible assumption | dsimp only | with_reducible apply Leaves.set_zdp (part_trans hP (by decide))

theorem State.setSub_leaves {P : Nat} {s₀ s : State} (hP : P &&& 4096 = 4096) (h : Leaves P s₀ s) (id : Nat) (f : Sub → Sub) :
    Leaves P s₀ (State.setSub s id f) := by
  unfold State.setSub
  repeat' first
    | with_reducible assumption | with_reducible apply State.setSubs_leaves (part_trans hP (by decide))
    | with_reducible apply Leaves.ite | split | with_reducible intro _ | dsimp only

theorem State.subscribeRequest_leaves {P : Nat} {s₀ s : State} (hP : P &&& 34359742464 = 34359742464) (h : Leaves P s₀ s) (p : Nat) (m : ZdpMsg) :
    Leaves P s₀ (State.subscribeRequest s p m) := by
  unfold State.subscribeRequest
  repeat' first
    | with_reducible assumption | with_reducible apply State.reply_leaves (part_trans hP (by decide))
    | with_reducible apply State.setSubs_leaves (part_trans hP (by decide)) | with_reducible apply Leaves.ite | split
    | with_reducible intro _ | dsimp only | with_reducible apply Leaves.set_zdp (part_trans hP (by decide))

theorem State.notify_leaves {P : Nat} {s₀ s : State} (hP : P &&& 4096 = 4096) (h : Leaves P s₀ s) (u : Sub) (nseq : Nat) (alarm : Bool) (t : Stamp) (value : List Byte) :
    Leaves P s₀ (State.notify s u nseq alarm t value) := by
  unfold State.notify
  repeat' first
    | with_reducible assumption | with_reducible apply State.sendZdp_leaves (part_trans hP (by decide))
    | with_reducible apply State.setSub_leaves (part_trans hP (by decide)) | with_reducible apply Leaves.ite | split
    | with_reducible intro _ | dsimp only

theorem State.streamNext_leaves {P : Nat} {s₀ s : State} (hP : P &&& 34359742464 = 34359742464) (h : Leaves P s₀ s) (u : Sub) :
    Leaves P s₀ (State.streamNext s u) := by
  unfold State.streamNext
  repeat' first
    | with_reducible assumption | with_reducible apply State.count_leaves (part_trans hP (by decide))
    | with_reducible apply State.notify_leaves (part_trans hP (by decide))
    | with_reducible apply State.setSub_leaves (part_trans hP (by decide)) | with_reducible apply Leaves.ite | split
    | with_reducible intro _ | dsimp only

theorem State.valueDue_leaves {P : Nat} {s₀ s : State} (hP : P &&& 4096 = 4096) (h : Leaves P s₀ s) (u : Sub) (canLeave : Bool) :
    Leaves P s₀ (State.valueDue s u canLeave) := by
  unfold State.valueDue
  repeat' first
    | with_reducible assumption | with_reducible apply State.notify_leaves (part_trans hP (by decide))
    | with_reducible apply State.setSub_leaves (part_trans hP (by decide)) | with_reducible apply Leaves.ite
    | with_reducible apply Leaves.of_fst ‹_› | split | with_reducible intro _ | dsimp only

theorem execNotifyDue_leaves {P : Nat} {s₀ s : State} (hP : P &&& 34359742464 = 34359742464) (h : Leaves P s₀ s) (id : Nat) (canLeave : Bool) :
    OutLeaves P s₀ (execNotifyDue id canLeave s) := by
  unfold execNotifyDue
  repeat' first
    | with_reducible assumption | with_reducible apply OutLeaves.next
    | with_reducible apply State.streamNext_leaves (part_trans hP (by decide))
    | with_reducible apply State.valueDue_leaves (part_trans hP (by decide)) | with_reducible apply OutLeaves.ite
    | with_reducible apply Leaves.ite | split | with_reducible intro _

theorem execNotifyIntervalExpiry_leaves {P : Nat} {s₀ s : State} (hP : P &&& 34359742464 = 34359742464) (h : Leaves P s₀ s) (id : Nat) (canLeave : Bool) :
    OutLeaves P s₀ (execNotifyIntervalExpiry id canLeave s) := by
  unfold execNotifyIntervalExpiry
  repeat' first
    | with_reducible assumption | with_reducible apply OutLeaves.next
    | with_reducible apply State.notify_leaves (part_trans hP (by decide))
    | with_reducible apply State.setSub_leaves (part_trans hP (by decide))
    | with_reducible apply State.streamNext_leaves (part_trans hP (by decide)) | with_reducible apply OutLeaves.ite
    | with_reducible apply Leaves.ite | split | with_reducible intro _ | dsimp only

theorem execSubscriptionExpiry_leaves {P : Nat} {s₀ s : State} (hP : P &&& 4096 = 4096) (h : Leaves P s₀ s) (id : Nat) :
    OutLeaves P s₀ (execSubscriptionExpiry id s) := by
  unfold execSubscriptionExpiry
  repeat' first
    | with_reducible assumption | with_reducible apply OutLeaves.next
    | with_reducible apply State.setSubs_leaves (part_trans hP (by decide)) | with_reducible intro _ | dsimp only

theorem State.bulkRead_leaves {P : Nat} {s₀ s : State} (hP : P &&& 34359742464 = 34359742464) (h : Leaves P s₀ s) (p : Nat) (m : ZdpMsg) :
    Leaves P s₀ (State.bulkRead s p m) := by
  unfold State.bulkRead
  repeat' first
    | with_reducible assumption | with_reducible apply State.reply_leaves (part_trans hP (by decide))
    | with_reducible apply Leaves.ite | with_reducible apply Leaves.foldl | with_reducible apply Leaves.foldl_fst
    | with_reducible apply Leaves.foldl_snd | split | with_reducible intro _ | dsimp only

theorem State.setStaging_leaves {P : Nat} {s₀ s : State} (hP : P &&& 4198400 = 4198400) (h : Leaves P s₀ s) (f : List Stage → List Stage) :
    Leaves P s₀ (State.setStaging s f) := by
  unfold State.setStaging
  repeat' first
    | with_reducible assumption | dsimp only | with_reducible apply Leaves.set_stages (part_trans hP (by decide))
    | with_reducible apply Leaves.set_zdp (part_trans hP (by decide))

theorem State.bulkWrite_leaves {P : Nat} {s₀ s : State} (hP : P &&& 4398046511100 = 4398046511100) (h : Leaves P s₀ s) (p : Nat) (m : ZdpMsg) :
    Leaves P s₀ (State.bulkWrite s p m) := by
  unfold State.bulkWrite
  repeat' first
    | with_reducible assumption | with_reducible apply Run.write_leaves (part_trans hP (by decide))
    | with_reducible apply State.reply_leaves (part_trans hP (by decide))
    | with_reducible apply State.setStaging_leaves (part_trans hP (by decide))
    | with_reducible apply State.writeValue_leaves (part_trans hP (by decide)) | with_reducible apply Leaves.ite
    | split | with_reducible intro _ | dsimp only

theorem execBulkStagingExpiry_leaves {P : Nat} {s₀ s : State} (hP : P &&& 4198400 = 4198400) (h : Leaves P s₀ s) (p : PortNo) (src : BitVec 16) (tag : Word) :
    OutLeaves P s₀ (execBulkStagingExpiry p src tag s) := by
  unfold execBulkStagingExpiry
  repeat' first
    | with_reducible assumption | with_reducible apply OutLeaves.next
    | with_reducible apply State.setStaging_leaves (part_trans hP (by decide)) | with_reducible intro _ | dsimp only

theorem execRequestRateSecond_leaves {P : Nat} {s₀ s : State} (hP : P &&& 4096 = 4096) (h : Leaves P s₀ s) :
    OutLeaves P s₀ (execRequestRateSecond s) := by
  unfold execRequestRateSecond
  repeat' first
    | with_reducible assumption | with_reducible apply OutLeaves.next | with_reducible intro _ | dsimp only
    | with_reducible apply Leaves.set_zdp (part_trans hP (by decide))

theorem State.takeRequest_leaves {P : Nat} {s₀ s : State} (hP : P &&& 34359742464 = 34359742464) (h : Leaves P s₀ s) (p : Nat) :
    Leaves P s₀ (State.takeRequest s p) := by
  unfold State.takeRequest
  repeat' first
    | with_reducible assumption | with_reducible apply State.count_leaves (part_trans hP (by decide))
    | with_reducible intro _ | dsimp only | with_reducible apply Leaves.set_zdp (part_trans hP (by decide))

theorem State.zdpMessage_leaves {P : Nat} {s₀ s : State} (hP : P &&& 38654717952 = 38654717952) (h : Leaves P s₀ s) (p : Nat) (m : ZdpMsg) (f : State → Nat → ZdpMsg → State) (h_f : ∀ x0 x1 x2, Leaves P s₀ x0 → Leaves P s₀ (f x0 x1 x2)) :
    Leaves P s₀ (State.zdpMessage s p m f) := by
  unfold State.zdpMessage
  repeat' first
    | with_reducible assumption | with_reducible exact cov_trans hP (by decide) | with_reducible apply h_f
    | with_reducible apply State.put_leaves
    | with_reducible apply State.takeRequest_leaves (part_trans hP (by decide))
    | with_reducible apply State.zdpDrop_leaves (part_trans hP (by decide)) | with_reducible apply Leaves.ite | split
    | with_reducible intro _ | dsimp only | with_reducible apply Leaves.set_ports (part_trans hP (by decide))

theorem State.request_leaves {P : Nat} {s₀ s : State} (hP : P &&& 4398046511100 = 4398046511100) (h : Leaves P s₀ s) (p : Nat) (m : ZdpMsg) :
    Leaves P s₀ (State.request s p m) := by
  unfold State.request
  repeat' first
    | with_reducible assumption | with_reducible apply State.bulkRead_leaves (part_trans hP (by decide))
    | with_reducible apply State.bulkWrite_leaves (part_trans hP (by decide))
    | with_reducible apply State.orderRequest_leaves (part_trans hP (by decide))
    | with_reducible apply State.readRequest_leaves (part_trans hP (by decide))
    | with_reducible apply State.subscribeRequest_leaves (part_trans hP (by decide))
    | with_reducible apply State.writeRequest_leaves (part_trans hP (by decide)) | with_reducible apply Leaves.ite
    | split | with_reducible intro _

theorem execZdpRead_leaves {P : Nat} {s₀ s : State} (hP : P &&& 4398046511100 = 4398046511100) (h : Leaves P s₀ s) (p : PortNo) (m : ZdpMsg) :
    OutLeaves P s₀ (execZdpRead p m s) := by
  unfold execZdpRead
  repeat' first
    | with_reducible assumption | with_reducible apply OutLeaves.next
    | with_reducible apply State.request_leaves (part_trans hP (by decide))
    | with_reducible apply State.zdpMessage_leaves (part_trans hP (by decide)) | with_reducible intro _

theorem execZdpMetaRead_leaves {P : Nat} {s₀ s : State} (hP : P &&& 4398046511100 = 4398046511100) (h : Leaves P s₀ s) (p : PortNo) (m : ZdpMsg) :
    OutLeaves P s₀ (execZdpMetaRead p m s) := by
  unfold execZdpMetaRead
  repeat' first
    | with_reducible assumption | with_reducible apply OutLeaves.next
    | with_reducible apply State.request_leaves (part_trans hP (by decide))
    | with_reducible apply State.zdpMessage_leaves (part_trans hP (by decide)) | with_reducible intro _

theorem execZdpWrite_leaves {P : Nat} {s₀ s : State} (hP : P &&& 4398046511100 = 4398046511100) (h : Leaves P s₀ s) (p : PortNo) (m : ZdpMsg) :
    OutLeaves P s₀ (execZdpWrite p m s) := by
  unfold execZdpWrite
  repeat' first
    | with_reducible assumption | with_reducible apply OutLeaves.next
    | with_reducible apply State.request_leaves (part_trans hP (by decide))
    | with_reducible apply State.zdpMessage_leaves (part_trans hP (by decide)) | with_reducible intro _

theorem execZdpOrder_leaves {P : Nat} {s₀ s : State} (hP : P &&& 4398046511100 = 4398046511100) (h : Leaves P s₀ s) (p : PortNo) (m : ZdpMsg) :
    OutLeaves P s₀ (execZdpOrder p m s) := by
  unfold execZdpOrder
  repeat' first
    | with_reducible assumption | with_reducible apply OutLeaves.next
    | with_reducible apply State.request_leaves (part_trans hP (by decide))
    | with_reducible apply State.zdpMessage_leaves (part_trans hP (by decide)) | with_reducible intro _

theorem execZdpSubscribe_leaves {P : Nat} {s₀ s : State} (hP : P &&& 4398046511100 = 4398046511100) (h : Leaves P s₀ s) (p : PortNo) (m : ZdpMsg) :
    OutLeaves P s₀ (execZdpSubscribe p m s) := by
  unfold execZdpSubscribe
  repeat' first
    | with_reducible assumption | with_reducible apply OutLeaves.next
    | with_reducible apply State.request_leaves (part_trans hP (by decide))
    | with_reducible apply State.zdpMessage_leaves (part_trans hP (by decide)) | with_reducible intro _

theorem execBulkRead_leaves {P : Nat} {s₀ s : State} (hP : P &&& 4398046511100 = 4398046511100) (h : Leaves P s₀ s) (p : PortNo) (m : ZdpMsg) :
    OutLeaves P s₀ (execBulkRead p m s) := by
  unfold execBulkRead
  repeat' first
    | with_reducible assumption | with_reducible apply OutLeaves.next
    | with_reducible apply State.request_leaves (part_trans hP (by decide))
    | with_reducible apply State.zdpMessage_leaves (part_trans hP (by decide)) | with_reducible intro _

theorem execBulkWriteSegment_leaves {P : Nat} {s₀ s : State} (hP : P &&& 4398046511100 = 4398046511100) (h : Leaves P s₀ s) (p : PortNo) (m : ZdpMsg) :
    OutLeaves P s₀ (execBulkWriteSegment p m s) := by
  unfold execBulkWriteSegment
  repeat' first
    | with_reducible assumption | with_reducible apply OutLeaves.next
    | with_reducible apply State.request_leaves (part_trans hP (by decide))
    | with_reducible apply State.zdpMessage_leaves (part_trans hP (by decide)) | with_reducible intro _

theorem execFollowOffsetWrite_leaves {P : Nat} {s₀ s : State} (hP : P &&& 4398046511100 = 4398046511100) (h : Leaves P s₀ s) (p : PortNo) (m : ZdpMsg) :
    OutLeaves P s₀ (execFollowOffsetWrite p m s) := by
  unfold execFollowOffsetWrite
  repeat' first
    | with_reducible assumption | with_reducible apply OutLeaves.next
    | with_reducible apply State.request_leaves (part_trans hP (by decide))
    | with_reducible apply State.zdpMessage_leaves (part_trans hP (by decide)) | with_reducible intro _

theorem execForkResolve_leaves {P : Nat} {s₀ s : State} (hP : P &&& 4398046511100 = 4398046511100) (h : Leaves P s₀ s) (p : PortNo) (m : ZdpMsg) :
    OutLeaves P s₀ (execForkResolve p m s) := by
  unfold execForkResolve
  repeat' first
    | with_reducible assumption | with_reducible apply OutLeaves.next
    | with_reducible apply State.request_leaves (part_trans hP (by decide))
    | with_reducible apply State.zdpMessage_leaves (part_trans hP (by decide)) | with_reducible intro _

theorem execChallenge_leaves {P : Nat} {s₀ s : State} (hP : P &&& 4398046511100 = 4398046511100) (h : Leaves P s₀ s) (p : PortNo) (m : ZdpMsg) :
    OutLeaves P s₀ (execChallenge p m s) := by
  unfold execChallenge
  repeat' first
    | with_reducible assumption | with_reducible apply OutLeaves.next
    | with_reducible apply State.request_leaves (part_trans hP (by decide))
    | with_reducible apply State.zdpMessage_leaves (part_trans hP (by decide)) | with_reducible intro _

end Sys2Proof.Machine
end

