-- ==== Sys2Proof/Laws/LeavesRegs.lean ====
section
/-! SUPPORT. What each operation of Machine/Regs.lean leaves. -/

set_option linter.unusedTactic false
set_option linter.unreachableTactic false

namespace Sys2Proof.Machine

theorem State.writeCell_leaves {P : Nat} {s₀ s : State} (hP : P &&& 4398012956672 = 4398012956672) (h : Leaves P s₀ s) (v : Nat) (c : Cell) :
    Leaves P s₀ (State.writeCell s v c) := by
  unfold State.writeCell
  repeat' first
    | with_reducible assumption | with_reducible apply State.wr_any (part_trans hP (by decide))
    | with_reducible apply Leaves.ite | split | with_reducible intro _ | dsimp only

theorem State.writeCells_leaves {P : Nat} {s₀ s : State} (hP : P &&& 4398012956672 = 4398012956672) (h : Leaves P s₀ s) (a v : Nat) :
    Leaves P s₀ (State.writeCells s a v) := by
  unfold State.writeCells
  repeat' first
    | with_reducible assumption | with_reducible apply State.writeCell_leaves (part_trans hP (by decide))
    | with_reducible apply Leaves.foldl | with_reducible intro _ | dsimp only

theorem State.writeSome_leaves {P : Nat} {s₀ s : State} (hP : P &&& 4398012956672 = 4398012956672) (h : Leaves P s₀ s) (a v : Nat) (keep : Field → Bool) :
    Leaves P s₀ (State.writeSome s a v keep).1 := by
  unfold State.writeSome
  repeat' first
    | with_reducible assumption | with_reducible apply State.writeCell_leaves (part_trans hP (by decide))
    | with_reducible apply Leaves.foldl | with_reducible apply Leaves.foldl_fst
    | with_reducible apply Leaves.foldl_snd | with_reducible intro _ | dsimp only

theorem State.journalWrite_leaves {P : Nat} {s₀ s : State} (hP : P &&& 4398012956672 = 4398012956672) (h : Leaves P s₀ s) (a v : Nat) :
    Leaves P s₀ (State.journalWrite s a v) := by
  unfold State.journalWrite
  repeat' first
    | with_reducible assumption | with_reducible apply State.wr_any (part_trans hP (by decide))
    | with_reducible apply State.writeCell_leaves (part_trans hP (by decide)) | with_reducible apply Leaves.ite
    | with_reducible apply Leaves.foldl | with_reducible apply Leaves.foldl_fst
    | with_reducible apply Leaves.foldl_snd | split | with_reducible intro _ | dsimp only

theorem State.onBit_leaves {P : Nat} {s₀ s : State} (h : Leaves P s₀ s) (v b : Nat) (f : State → State) (h_f : ∀ x0, Leaves P s₀ x0 → Leaves P s₀ (f x0)) :
    Leaves P s₀ (State.onBit s v b f) := by
  unfold State.onBit
  repeat' first
    | with_reducible assumption | with_reducible apply h_f | with_reducible apply Leaves.ite | split
    | with_reducible intro _

theorem State.run_leaves {P : Nat} {s₀ s : State} (h : Leaves P s₀ s) (f : State → Host.Outcome State Fault Refusal) (h_f : ∀ x0, Leaves P s₀ x0 → OutLeaves P s₀ (f x0)) :
    Leaves P s₀ (State.run s f) := by
  unfold State.run
  repeat' first
    | with_reducible assumption | with_reducible apply h_f | with_reducible apply nextOr_leaves

theorem State.gristWrite_leaves {P : Nat} {s₀ s : State} (hP : P &&& 4398015068680 = 4398015068680) (h : Leaves P s₀ s) (core : Fin 4) (a : Nat) (v : Word) :
    Leaves P s₀ (State.gristWrite s core a v) := by
  unfold State.gristWrite
  repeat' first
    | with_reducible assumption | with_reducible apply State.onBit_leaves | with_reducible apply State.run_leaves
    | with_reducible apply State.writeCells_leaves (part_trans hP (by decide))
    | with_reducible apply execGristAdmit_leaves (part_trans hP (by decide))
    | with_reducible apply execReplan_leaves (part_trans hP (by decide))
    | with_reducible apply execRequirementWrite_leaves (part_trans hP (by decide)) | split | with_reducible intro _
    | dsimp only

theorem State.gaugeWrite_leaves {P : Nat} {s₀ s : State} (hP : P &&& 4398015068680 = 4398015068680) (h : Leaves P s₀ s) (a v : Nat) :
    Leaves P s₀ (State.gaugeWrite s a v) := by
  unfold State.gaugeWrite
  repeat' first
    | with_reducible assumption | with_reducible apply State.onBit_leaves | with_reducible apply State.run_leaves
    | with_reducible apply State.writeCells_leaves (part_trans hP (by decide))
    | with_reducible apply execKilnRun_leaves (part_trans hP (by decide))
    | with_reducible apply execRefSample_leaves (part_trans hP (by decide)) | with_reducible apply Leaves.ite | split
    | with_reducible intro _ | dsimp only

theorem State.tileWrite_leaves {P : Nat} {s₀ s : State} (hP : P &&& 4398015068680 = 4398015068680) (h : Leaves P s₀ s) (n a v : Nat) :
    Leaves P s₀ (State.tileWrite s n a v) := by
  unfold State.tileWrite
  repeat' first
    | with_reducible assumption | with_reducible apply State.onBit_leaves
    | with_reducible apply State.writeCells_leaves (part_trans hP (by decide))
    | with_reducible apply execTileBistStart_leaves (part_trans hP (by decide))
    | with_reducible apply execTileDrain_leaves (part_trans hP (by decide))
    | with_reducible apply execTileOnline_leaves (part_trans hP (by decide)) | with_reducible apply trial_leaves
    | with_reducible apply Leaves.ite | split | with_reducible intro _ | dsimp only

theorem State.scWrite_leaves {P : Nat} {s₀ s : State} (hP : P &&& 4398021348096 = 4398021348096) (h : Leaves P s₀ s) (c off a v : Nat) :
    Leaves P s₀ (State.scWrite s c off a v) := by
  unfold State.scWrite
  repeat' first
    | with_reducible assumption | with_reducible exact cov_trans hP (by decide)
    | with_reducible apply State.onBit_leaves | with_reducible apply State.raise_leaves
    | with_reducible apply State.writeCells_leaves (part_trans hP (by decide))
    | with_reducible apply State.writeSome_leaves (part_trans hP (by decide))
    | with_reducible apply execLtChannelEnable_leaves (part_trans hP (by decide))
    | with_reducible apply execLtServiceReturn_leaves (part_trans hP (by decide))
    | with_reducible apply execLtServiceTest_leaves (part_trans hP (by decide))
    | with_reducible apply execSwapRequest_leaves (part_trans hP (by decide)) | with_reducible apply trial_leaves
    | with_reducible apply Leaves.ite | with_reducible apply Leaves.of_fst ‹_› | split | with_reducible intro _
    | dsimp only

theorem State.lauterWrite_leaves {P : Nat} {s₀ s : State} (hP : P &&& 4398021786476 = 4398021786476) (h : Leaves P s₀ s) (core : Fin 4) (a : Nat) (v : Word) :
    Leaves P s₀ (State.lauterWrite s core a v) := by
  unfold State.lauterWrite
  repeat' first
    | with_reducible assumption | with_reducible apply State.cmpClear_leaves (part_trans hP (by decide))
    | with_reducible apply State.onBit_leaves | with_reducible apply State.run_leaves
    | with_reducible apply State.scWrite_leaves (part_trans hP (by decide))
    | with_reducible apply State.writeCells_leaves (part_trans hP (by decide))
    | with_reducible apply execLtRecheck_leaves (part_trans hP (by decide))
    | with_reducible apply execLtSync_leaves (part_trans hP (by decide))
    | with_reducible apply execLtSyncArm_leaves (part_trans hP (by decide))
    | with_reducible apply execPoolAccess_leaves (part_trans hP (by decide)) | with_reducible apply Leaves.ite | split
    | with_reducible intro _ | dsimp only

theorem State.loopWrite_leaves {P : Nat} {s₀ s : State} (hP : P &&& 4398013413996 = 4398013413996) (h : Leaves P s₀ s) (core : Fin 4) (a : Nat) (v : Word) :
    Leaves P s₀ (State.loopWrite s core a v) := by
  unfold State.loopWrite
  repeat' first
    | with_reducible assumption | with_reducible exact cov_trans hP (by decide)
    | with_reducible apply State.onBit_leaves | with_reducible apply State.raise_leaves
    | with_reducible apply State.run_leaves | with_reducible apply State.writeCells_leaves (part_trans hP (by decide))
    | with_reducible apply execCaptureArm_leaves (part_trans hP (by decide))
    | with_reducible apply execCaptureStop_leaves (part_trans hP (by decide))
    | with_reducible apply execLeProgAccess_leaves (part_trans hP (by decide))
    | with_reducible apply execLeRecheck_leaves (part_trans hP (by decide))
    | with_reducible apply execLeSwTrig_leaves (part_trans hP (by decide))
    | with_reducible apply execLeTrajCommit_leaves (part_trans hP (by decide)) | with_reducible apply trial_leaves
    | with_reducible apply Leaves.ite | split | with_reducible intro _ | dsimp only

theorem State.pfcWrite_leaves {P : Nat} {s₀ s : State} (hP : P &&& 4398029740836 = 4398029740836) (h : Leaves P s₀ s) (c off a v : Nat) :
    Leaves P s₀ (State.pfcWrite s c off a v) := by
  unfold State.pfcWrite
  repeat' first
    | with_reducible assumption | with_reducible exact cov_trans hP (by decide)
    | with_reducible apply State.onBit_leaves | with_reducible apply State.raise_leaves
    | with_reducible apply State.writeCells_leaves (part_trans hP (by decide))
    | with_reducible apply State.writeSome_leaves (part_trans hP (by decide))
    | with_reducible apply execPfEnable_leaves (part_trans hP (by decide))
    | with_reducible apply execPfServiceReturn_leaves (part_trans hP (by decide))
    | with_reducible apply execPfServiceTest_leaves (part_trans hP (by decide))
    | with_reducible apply execSetPos_leaves (part_trans hP (by decide)) | with_reducible apply trial_leaves
    | with_reducible apply Leaves.ite | with_reducible apply Leaves.of_fst ‹_› | split | with_reducible intro _
    | dsimp only

theorem State.pfuWrite_leaves {P : Nat} {s₀ s : State} (hP : P &&& 4398030191404 = 4398030191404) (h : Leaves P s₀ s) (a v : Nat) :
    Leaves P s₀ (State.pfuWrite s a v) := by
  unfold State.pfuWrite
  repeat' first
    | with_reducible assumption | with_reducible apply State.cmpCfg_leaves (part_trans hP (by decide))
    | with_reducible apply State.onBit_leaves | with_reducible apply State.pfcWrite_leaves (part_trans hP (by decide))
    | with_reducible apply State.writeCells_leaves (part_trans hP (by decide))
    | with_reducible apply execCmpArm_leaves (part_trans hP (by decide))
    | with_reducible apply execCmpDisarm_leaves (part_trans hP (by decide)) | with_reducible apply trial_leaves
    | with_reducible apply Leaves.ite | split | with_reducible intro _ | dsimp only

theorem State.rateWrite_leaves {P : Nat} {s₀ s : State} (hP : P &&& 1073741824 = 1073741824) (h : Leaves P s₀ s) (n v : Nat) :
    Leaves P s₀ (State.rateWrite s n v) := by
  unfold State.rateWrite
  repeat' first
    | with_reducible assumption | with_reducible exact cov_trans hP (by decide)
    | with_reducible apply State.wrS_leaves | with_reducible apply Leaves.ite | split | with_reducible intro _
    | dsimp only

theorem State.timeWrite_leaves {P : Nat} {s₀ s : State} (hP : P &&& 4398013414956 = 4398013414956) (h : Leaves P s₀ s) (a v : Nat) :
    Leaves P s₀ (State.timeWrite s a v) := by
  unfold State.timeWrite
  repeat' first
    | with_reducible assumption | with_reducible apply State.onBit_leaves
    | with_reducible apply State.rateWrite_leaves (part_trans hP (by decide)) | with_reducible apply State.run_leaves
    | with_reducible apply State.writeCells_leaves (part_trans hP (by decide))
    | with_reducible apply execTbStep_leaves (part_trans hP (by decide))
    | with_reducible apply execTuSnap_leaves (part_trans hP (by decide)) | with_reducible apply trial_leaves
    | with_reducible apply Leaves.ite | split | with_reducible intro _ | dsimp only

theorem State.canCtrlWrite_leaves {P : Nat} {s₀ s : State} (hP : P &&& 4398013221640 = 4398013221640) (h : Leaves P s₀ s) (n a v : Nat) :
    Leaves P s₀ (State.canCtrlWrite s n a v) := by
  unfold State.canCtrlWrite
  repeat' first
    | with_reducible assumption | with_reducible exact cov_trans hP (by decide)
    | with_reducible apply State.onBit_leaves | with_reducible apply State.raise_leaves
    | with_reducible apply State.wr_leaves | with_reducible apply State.writeSome_leaves (part_trans hP (by decide))
    | with_reducible apply execCanDisable_leaves (part_trans hP (by decide))
    | with_reducible apply execCanEnable_leaves (part_trans hP (by decide))
    | with_reducible apply execCanRecover_leaves (part_trans hP (by decide))
    | with_reducible apply execCanServiceReturn_leaves (part_trans hP (by decide))
    | with_reducible apply execCanServiceTest_leaves (part_trans hP (by decide)) | with_reducible apply trial_leaves
    | with_reducible apply Leaves.ite | with_reducible apply Leaves.of_fst ‹_› | split | with_reducible intro _
    | dsimp only

theorem State.canWrite_leaves {P : Nat} {s₀ s : State} (hP : P &&& 4398013221640 = 4398013221640) (h : Leaves P s₀ s) (a : Nat) (v : Word) :
    Leaves P s₀ (State.canWrite s a v) := by
  unfold State.canWrite
  repeat' first
    | with_reducible assumption | with_reducible exact cov_trans hP (by decide)
    | with_reducible apply State.canCtrlWrite_leaves (part_trans hP (by decide))
    | with_reducible apply State.put_leaves | with_reducible apply State.raise_leaves
    | with_reducible apply State.setCan_leaves (part_trans hP (by decide))
    | with_reducible apply State.writeCells_leaves (part_trans hP (by decide))
    | with_reducible apply execCanRxTailWrite_leaves (part_trans hP (by decide))
    | with_reducible apply execCanTxCancel_leaves (part_trans hP (by decide))
    | with_reducible apply execCanTxReq_leaves (part_trans hP (by decide)) | with_reducible apply trial_leaves
    | with_reducible apply Leaves.ite | split | with_reducible intro _ | dsimp only

theorem State.tailWrite_leaves {P : Nat} {s₀ s : State} (h : Leaves P s₀ s) (head tail : Field) (hf_tail : covers P tail = true) (i size v : Nat) :
    Leaves P s₀ (State.tailWrite s head tail i size v) := by
  unfold State.tailWrite
  repeat' first
    | with_reducible assumption | with_reducible exact cov_trans hP (by decide) | with_reducible apply State.wr_leaves
    | with_reducible apply Leaves.ite | split | with_reducible intro _ | dsimp only

theorem State.portCtrl_leaves {P : Nat} {s₀ s : State} (hP : P &&& 98784361224 = 98784361224) (h : Leaves P s₀ s) (p : Nat) (was : Bool) (v test : Nat) :
    Leaves P s₀ (State.portCtrl s p was v test) := by
  unfold State.portCtrl
  repeat' first
    | with_reducible assumption | with_reducible apply State.onBit_leaves
    | with_reducible apply execPortEnable_leaves (part_trans hP (by decide))
    | with_reducible apply execPortServiceReturn_leaves (part_trans hP (by decide))
    | with_reducible apply execPortServiceTest_leaves (part_trans hP (by decide)) | with_reducible apply trial_leaves
    | with_reducible apply Leaves.ite | split | with_reducible intro _ | dsimp only

theorem State.emWrite_leaves {P : Nat} {s₀ s : State} (hP : P &&& 4398013070088 = 4398013070088) (h : Leaves P s₀ s) (a : Nat) (v : Word) :
    Leaves P s₀ (State.emWrite s a v) := by
  unfold State.emWrite
  repeat' first
    | with_reducible assumption | with_reducible exact cov_trans hP (by decide) | with_reducible apply OutLeaves.next
    | with_reducible apply State.portCtrl_leaves (part_trans hP (by decide)) | with_reducible apply State.raise_leaves
    | with_reducible apply State.tailWrite_leaves
    | with_reducible apply State.writeCells_leaves (part_trans hP (by decide))
    | with_reducible apply State.writeSome_leaves (part_trans hP (by decide))
    | with_reducible apply execTxTailWrite_leaves (part_trans hP (by decide)) | with_reducible apply trial_leaves
    | with_reducible apply Leaves.ite | with_reducible apply Leaves.of_fst ‹_› | split | with_reducible intro _
    | dsimp only

theorem State.xlWrite_leaves {P : Nat} {s₀ s : State} (hP : P &&& 4398013070088 = 4398013070088) (h : Leaves P s₀ s) (a : Nat) (v : Word) :
    Leaves P s₀ (State.xlWrite s a v) := by
  unfold State.xlWrite
  repeat' first
    | with_reducible assumption | with_reducible exact cov_trans hP (by decide)
    | with_reducible apply State.portCtrl_leaves (part_trans hP (by decide)) | with_reducible apply State.raise_leaves
    | with_reducible apply State.tailWrite_leaves
    | with_reducible apply State.writeCells_leaves (part_trans hP (by decide))
    | with_reducible apply execTxTailWrite_leaves (part_trans hP (by decide)) | with_reducible apply trial_leaves
    | with_reducible apply Leaves.ite | split | with_reducible intro _ | dsimp only

theorem State.suWrite_leaves {P : Nat} {s₀ s : State} (hP : P &&& 4398013070088 = 4398013070088) (h : Leaves P s₀ s) (a : Nat) (v : Word) :
    Leaves P s₀ (State.suWrite s a v) := by
  unfold State.suWrite
  repeat' first
    | with_reducible assumption | with_reducible exact cov_trans hP (by decide)
    | with_reducible apply State.portCtrl_leaves (part_trans hP (by decide)) | with_reducible apply State.raise_leaves
    | with_reducible apply State.tailWrite_leaves
    | with_reducible apply State.writeCells_leaves (part_trans hP (by decide))
    | with_reducible apply State.writeSome_leaves (part_trans hP (by decide))
    | with_reducible apply execTxTailWrite_leaves (part_trans hP (by decide)) | with_reducible apply trial_leaves
    | with_reducible apply Leaves.ite | with_reducible apply Leaves.of_fst ‹_› | split | with_reducible intro _
    | dsimp only

theorem State.cntWrite_leaves {P : Nat} {s₀ s : State} (hP : P &&& 4398012956672 = 4398012956672) (h : Leaves P s₀ s) (a : Nat) (v : Word) :
    Leaves P s₀ (State.cntWrite s a v) := by
  unfold State.cntWrite
  repeat' first
    | with_reducible assumption | with_reducible apply State.onBit_leaves | with_reducible apply State.run_leaves
    | with_reducible apply State.writeCells_leaves (part_trans hP (by decide))
    | with_reducible apply execArmAt_leaves (part_trans hP (by decide))
    | with_reducible apply execClearAll_leaves (part_trans hP (by decide))
    | with_reducible apply execCntEvCfgWrite_leaves (part_trans hP (by decide))
    | with_reducible apply execCntHCfgWrite_leaves (part_trans hP (by decide))
    | with_reducible apply execCntSnap_leaves (part_trans hP (by decide)) | with_reducible apply trial_leaves
    | with_reducible apply Leaves.ite | split | with_reducible intro _ | dsimp only

theorem State.healthWrite_leaves {P : Nat} {s₀ s : State} (hP : P &&& 4398046511100 = 4398046511100) (h : Leaves P s₀ s) (core : Fin 4) (a : Nat) (v : Word) :
    Leaves P s₀ (State.healthWrite s core a v) := by
  unfold State.healthWrite
  repeat' first
    | with_reducible assumption | with_reducible apply State.onBit_leaves | with_reducible apply State.run_leaves
    | with_reducible apply State.writeCells_leaves (part_trans hP (by decide))
    | with_reducible apply execHlRaise_leaves (part_trans hP (by decide))
    | with_reducible apply execHlRetire_leaves (part_trans hP (by decide))
    | with_reducible apply execHlReturn_leaves (part_trans hP (by decide))
    | with_reducible apply execHlTest_leaves (part_trans hP (by decide))
    | with_reducible apply execScrubNow_leaves (part_trans hP (by decide)) | with_reducible apply trial_leaves | split
    | with_reducible intro _ | dsimp only

theorem State.claimWrite_leaves {P : Nat} {s₀ s : State} (hP : P &&& 4398013259776 = 4398013259776) (h : Leaves P s₀ s) (core : Fin 4) (a : Nat) (v : Word) :
    Leaves P s₀ (State.claimWrite s core a v) := by
  unfold State.claimWrite
  repeat' first
    | with_reducible assumption | with_reducible apply State.onBit_leaves | with_reducible apply State.run_leaves
    | with_reducible apply State.writeCells_leaves (part_trans hP (by decide))
    | with_reducible apply execClaimRequest_leaves (part_trans hP (by decide))
    | with_reducible apply execClaimSend_leaves (part_trans hP (by decide)) | split | with_reducible intro _
    | dsimp only

theorem State.mailboxWrite_leaves {P : Nat} {s₀ s : State} (hP : P &&& 4398013480960 = 4398013480960) (h : Leaves P s₀ s) (a v : Nat) :
    Leaves P s₀ (State.mailboxWrite s a v) := by
  unfold State.mailboxWrite
  repeat' first
    | with_reducible assumption | with_reducible apply State.onBit_leaves | with_reducible apply State.run_leaves
    | with_reducible apply State.writeCells_leaves (part_trans hP (by decide))
    | with_reducible apply execSmHb_leaves (part_trans hP (by decide))
    | with_reducible apply execSmRxAck_leaves (part_trans hP (by decide))
    | with_reducible apply execSmSend_leaves (part_trans hP (by decide)) | split | with_reducible intro _ | dsimp only

theorem State.supWrite_leaves {P : Nat} {s₀ s : State} (hP : P &&& 4398046510588 = 4398046510588) (h : Leaves P s₀ s) (core : Fin 4) (a : Nat) (v : Word) :
    Leaves P s₀ (State.supWrite s core a v) := by
  unfold State.supWrite
  repeat' first
    | with_reducible assumption | with_reducible apply State.onBit_leaves | with_reducible apply State.run_leaves
    | with_reducible apply State.writeCells_leaves (part_trans hP (by decide))
    | with_reducible apply execSupRestart_leaves (part_trans hP (by decide))
    | with_reducible apply execTrialConfirm_leaves (part_trans hP (by decide))
    | with_reducible apply execWatchdogEnable_leaves (part_trans hP (by decide))
    | with_reducible apply execWatchdogKick_leaves (part_trans hP (by decide)) | split | with_reducible intro _
    | dsimp only

theorem State.slotCtrl_leaves {P : Nat} {s₀ s : State} (hP : P &&& 103347796744 = 103347796744) (h : Leaves P s₀ s) (i v : Nat) :
    Leaves P s₀ (State.slotCtrl s i v) := by
  unfold State.slotCtrl
  repeat' first
    | with_reducible assumption | with_reducible apply State.onBit_leaves
    | with_reducible apply execSlotCommit_leaves (part_trans hP (by decide))
    | with_reducible apply execSlotEnable_leaves (part_trans hP (by decide))
    | with_reducible apply execSlotServiceReturn_leaves (part_trans hP (by decide))
    | with_reducible apply execSlotServiceTest_leaves (part_trans hP (by decide)) | with_reducible apply trial_leaves
    | with_reducible apply Leaves.ite | split | with_reducible intro _ | dsimp only

theorem State.applyData_leaves {P : Nat} {s₀ s : State} (hP : P &&& 4398013414252 = 4398013414252) (h : Leaves P s₀ s) (core : Fin 4) (a : Nat) (v : Word) :
    Leaves P s₀ (State.applyData s core a v) := by
  unfold State.applyData
  repeat' first
    | with_reducible assumption | with_reducible apply State.claimWrite_leaves (part_trans hP (by decide))
    | with_reducible apply State.journalWrite_leaves (part_trans hP (by decide))
    | with_reducible apply State.loopWrite_leaves (part_trans hP (by decide))
    | with_reducible apply State.onBit_leaves | with_reducible apply State.slotCtrl_leaves (part_trans hP (by decide))
    | with_reducible apply execGeneratorStart_leaves (part_trans hP (by decide))
    | with_reducible apply execGeneratorStop_leaves (part_trans hP (by decide)) | with_reducible apply trial_leaves
    | with_reducible apply Leaves.ite | split | with_reducible intro _ | dsimp only

theorem execJeApplyData_leaves {P : Nat} {s₀ s : State} (hP : P &&& 4398013414252 = 4398013414252) (h : Leaves P s₀ s) (core : Fin 4) (v : Word) :
    OutLeaves P s₀ (execJeApplyData core v s) := by
  unfold execJeApplyData
  repeat' first
    | with_reducible assumption | with_reducible exact cov_trans hP (by decide) | with_reducible apply OutLeaves.next
    | with_reducible apply State.applyData_leaves (part_trans hP (by decide))
    | with_reducible apply State.raise_leaves | with_reducible apply State.wr_leaves
    | with_reducible apply OutLeaves.ite | split | with_reducible intro _ | dsimp only

theorem State.applied_leaves {P : Nat} {s₀ s : State} (hP : P &&& 274878447624 = 274878447624) (h : Leaves P s₀ s) (o : OrderRec) :
    Leaves P s₀ (State.applied s o) := by
  unfold State.applied
  repeat' first
    | with_reducible assumption | with_reducible apply State.keepOld_leaves (part_trans hP (by decide))
    | with_reducible apply State.safetyChange_leaves (part_trans hP (by decide))
    | with_reducible apply State.setEntry_leaves (part_trans hP (by decide)) | with_reducible apply Leaves.ite | split
    | with_reducible intro _

theorem State.notApplied_leaves {P : Nat} {s₀ s : State} (hP : P &&& 103079221768 = 103079221768) (h : Leaves P s₀ s) (o : OrderRec) (why : Nat) :
    Leaves P s₀ (State.notApplied s o why) := by
  unfold State.notApplied
  repeat' first
    | with_reducible assumption | with_reducible apply State.event_leaves (part_trans hP (by decide))
    | with_reducible apply State.setObj_leaves (part_trans hP (by decide))
    | with_reducible apply State.setObjN_leaves (part_trans hP (by decide)) | dsimp only

theorem State.closeApply_leaves {P : Nat} {s₀ s : State} (hP : P &&& 584115568648 = 584115568648) (h : Leaves P s₀ s) (o : OrderRec) :
    Leaves P s₀ (State.closeApply s o) := by
  unfold State.closeApply
  repeat' first
    | with_reducible assumption | with_reducible exact cov_trans hP (by decide)
    | with_reducible apply State.latency_leaves (part_trans hP (by decide))
    | with_reducible apply State.setApplied_leaves (part_trans hP (by decide))
    | with_reducible apply State.setJ_leaves (part_trans hP (by decide)) | with_reducible apply State.wr_leaves
    | split | with_reducible intro _ | dsimp only

theorem execJeApplyDone_leaves {P : Nat} {s₀ s : State} (hP : P &&& 927713483272 = 927713483272) (h : Leaves P s₀ s) (_core : Fin 4) (v : Word) :
    OutLeaves P s₀ (execJeApplyDone _core v s) := by
  unfold execJeApplyDone
  repeat' first
    | with_reducible assumption | with_reducible exact cov_trans hP (by decide) | with_reducible apply OutLeaves.next
    | with_reducible apply State.applied_leaves (part_trans hP (by decide))
    | with_reducible apply State.closeApply_leaves (part_trans hP (by decide))
    | with_reducible apply State.notApplied_leaves (part_trans hP (by decide))
    | with_reducible apply State.raise_leaves | with_reducible apply OutLeaves.ite | with_reducible apply Leaves.ite
    | split | with_reducible intro _ | dsimp only

theorem State.journalBlockWrite_leaves {P : Nat} {s₀ s : State} (hP : P &&& 4398013938540 = 4398013938540) (h : Leaves P s₀ s) (core : Fin 4) (a : Nat) (v : Word) :
    Leaves P s₀ (State.journalBlockWrite s core a v) := by
  unfold State.journalBlockWrite
  repeat' first
    | with_reducible assumption | with_reducible apply State.onBit_leaves | with_reducible apply State.run_leaves
    | with_reducible apply State.writeCells_leaves (part_trans hP (by decide))
    | with_reducible apply execJeApplyData_leaves (part_trans hP (by decide))
    | with_reducible apply execJeApplyDone_leaves (part_trans hP (by decide))
    | with_reducible apply execJeFetch_leaves (part_trans hP (by decide)) | split | with_reducible intro _
    | dsimp only

theorem State.registerWrite_leaves {P : Nat} {s₀ s : State} (hP : P &&& 4398046511100 = 4398046511100) (h : Leaves P s₀ s) (core : Fin 4) (a : Nat) (v : Word) :
    Leaves P s₀ (State.registerWrite s core a v) := by
  unfold State.registerWrite
  repeat' first
    | with_reducible assumption | with_reducible apply State.canWrite_leaves (part_trans hP (by decide))
    | with_reducible apply State.claimWrite_leaves (part_trans hP (by decide))
    | with_reducible apply State.cntWrite_leaves (part_trans hP (by decide))
    | with_reducible apply State.emWrite_leaves (part_trans hP (by decide))
    | with_reducible apply State.gaugeWrite_leaves (part_trans hP (by decide))
    | with_reducible apply State.gristWrite_leaves (part_trans hP (by decide))
    | with_reducible apply State.healthWrite_leaves (part_trans hP (by decide))
    | with_reducible apply State.journalBlockWrite_leaves (part_trans hP (by decide))
    | with_reducible apply State.lauterWrite_leaves (part_trans hP (by decide))
    | with_reducible apply State.loopWrite_leaves (part_trans hP (by decide))
    | with_reducible apply State.mailboxWrite_leaves (part_trans hP (by decide))
    | with_reducible apply State.pfuWrite_leaves (part_trans hP (by decide))
    | with_reducible apply State.suWrite_leaves (part_trans hP (by decide))
    | with_reducible apply State.supWrite_leaves (part_trans hP (by decide))
    | with_reducible apply State.timeWrite_leaves (part_trans hP (by decide))
    | with_reducible apply State.xlWrite_leaves (part_trans hP (by decide)) | split | with_reducible intro _
    | dsimp only | with_reducible apply Leaves.set_latch (part_trans hP (by decide))

theorem execRegisterWrite_leaves {P : Nat} {s₀ s : State} (hP : P &&& 4398046511100 = 4398046511100) (h : Leaves P s₀ s) (core : Fin 4) (mode : CoreMode) (width : BitVec 8) (addr : Word) (v : BitVec 64) :
    OutLeaves P s₀ (execRegisterWrite core mode width addr v s) := by
  unfold execRegisterWrite
  repeat' first
    | with_reducible assumption | with_reducible apply OutLeaves.next
    | with_reducible apply State.accessFault_leaves (part_trans hP (by decide))
    | with_reducible apply State.poke_leaves (part_trans hP (by decide))
    | with_reducible apply State.registerWrite_leaves (part_trans hP (by decide))
    | with_reducible apply State.tileWrite_leaves (part_trans hP (by decide)) | split | with_reducible intro _
    | dsimp only

theorem State.readClears_leaves {P : Nat} {s₀ s : State} (hP : P &&& 4398012956672 = 4398012956672) (h : Leaves P s₀ s) (a : Nat) :
    Leaves P s₀ (State.readClears s a) := by
  unfold State.readClears
  repeat' first
    | with_reducible assumption | with_reducible apply State.wr_any (part_trans hP (by decide))
    | with_reducible apply Leaves.ite | with_reducible apply Leaves.foldl | with_reducible apply Leaves.foldl_fst
    | with_reducible apply Leaves.foldl_snd | split | with_reducible intro _ | dsimp only

theorem State.gave_leaves {P : Nat} {s₀ s : State} (hP : P &&& 64 = 64) (h : Leaves P s₀ s) (core : Fin 4) (x : Nat) :
    Leaves P s₀ (State.gave s core x) := by
  unfold State.gave
  repeat' first
    | with_reducible assumption | with_reducible exact cov_trans hP (by decide)
    | with_reducible apply State.put_leaves | dsimp only
    | with_reducible apply Leaves.set_readData (part_trans hP (by decide))

theorem State.latched_leaves {P : Nat} {s₀ s : State} (hP : P &&& 16 = 16) (h : Leaves P s₀ s) (core : Fin 4) (a : Nat) :
    Leaves P s₀ (State.latched s core a) := by
  unfold State.latched
  repeat' first
    | with_reducible assumption | with_reducible exact cov_trans hP (by decide)
    | with_reducible apply State.put_leaves | with_reducible apply Leaves.foldl | with_reducible intro _ | dsimp only
    | with_reducible apply Leaves.set_latch (part_trans hP (by decide))

theorem State.registerRead_leaves {P : Nat} {s₀ s : State} (hP : P &&& 4398021803644 = 4398021803644) (h : Leaves P s₀ s) (core : Fin 4) (a : Nat) :
    Leaves P s₀ (State.registerRead s core a) := by
  unfold State.registerRead
  repeat' first
    | with_reducible assumption | with_reducible apply State.gave_leaves (part_trans hP (by decide))
    | with_reducible apply State.latched_leaves (part_trans hP (by decide))
    | with_reducible apply State.readClears_leaves (part_trans hP (by decide)) | with_reducible apply State.run_leaves
    | with_reducible apply execLeProgAccess_leaves (part_trans hP (by decide))
    | with_reducible apply execPoolAccess_leaves (part_trans hP (by decide))
    | with_reducible apply execTbCountRead_leaves (part_trans hP (by decide)) | with_reducible apply trial_leaves
    | with_reducible apply Leaves.ite | split | with_reducible intro _ | dsimp only

theorem execRegisterRead_leaves {P : Nat} {s₀ s : State} (hP : P &&& 4398021803772 = 4398021803772) (h : Leaves P s₀ s) (core : Fin 4) (mode : CoreMode) (width : BitVec 8) (addr : Word) :
    OutLeaves P s₀ (execRegisterRead core mode width addr s) := by
  unfold execRegisterRead
  repeat' first
    | with_reducible assumption | with_reducible apply OutLeaves.next
    | with_reducible apply State.accessFault_leaves (part_trans hP (by decide))
    | with_reducible apply State.gave_leaves (part_trans hP (by decide))
    | with_reducible apply State.readClears_leaves (part_trans hP (by decide))
    | with_reducible apply State.registerRead_leaves (part_trans hP (by decide)) | split | with_reducible intro _
    | dsimp only

end Sys2Proof.Machine
end

