-- ==== Sys2Proof/Laws/State.lean ====
section
/-! SUPPORT. Reading a part of State after one of the named updates: one lemma for each update and each part that it leaves,
and what the part that it writes reads as. -/

namespace Sys2Proof.Machine

theorem State.rd_wr (s : State) (f g : Field) (v i j k l : Nat) :
    (s.wr f v i j).rd g k l = if g.key k l = f.key i j then v % 2 ^ f.w else s.rd g k l := by
  simp only [State.rd, State.wr, Map.get_put]

@[simp] theorem State.rd_wr_self (s : State) (f : Field) (v i j : Nat) : (s.wr f v i j).rd f i j = v % 2 ^ f.w := by
  simp [State.rd_wr]

theorem State.obj_setObj (s : State) (o p : ObjDef) (v : Val) (i k j l : Nat) :
    (s.setObj o v i k).obj p j l = if p.key j l = o.key i k then v else s.obj p j l := by
  simp only [State.obj, State.setObj, Map.get_put]

@[simp] theorem State.obj_setObj_self (s : State) (o : ObjDef) (v : Val) (i k : Nat) : (s.setObj o v i k).obj o i k = v := by
  simp [State.obj_setObj]

/-! State.wr -/

@[simp] theorem State.wr_pending (s : State) (f : Field) (v : Nat) (i j : Nat) :
    (State.wr s f v i j).pending = s.pending := rfl
@[simp] theorem State.wr_mem (s : State) (f : Field) (v : Nat) (i j : Nat) :
    (State.wr s f v i j).mem = s.mem := rfl
@[simp] theorem State.wr_dict (s : State) (f : Field) (v : Nat) (i j : Nat) :
    (State.wr s f v i j).dict = s.dict := rfl
@[simp] theorem State.wr_latch (s : State) (f : Field) (v : Nat) (i j : Nat) :
    (State.wr s f v i j).latch = s.latch := rfl
@[simp] theorem State.wr_poisoned (s : State) (f : Field) (v : Nat) (i j : Nat) :
    (State.wr s f v i j).poisoned = s.poisoned := rfl
@[simp] theorem State.wr_readData (s : State) (f : Field) (v : Nat) (i j : Nat) :
    (State.wr s f v i j).readData = s.readData := rfl
@[simp] theorem State.wr_coreFaults (s : State) (f : Field) (v : Nat) (i j : Nat) :
    (State.wr s f v i j).coreFaults = s.coreFaults := rfl
@[simp] theorem State.wr_outcome (s : State) (f : Field) (v : Nat) (i j : Nat) :
    (State.wr s f v i j).outcome = s.outcome := rfl
@[simp] theorem State.wr_fresh (s : State) (f : Field) (v : Nat) (i j : Nat) :
    (State.wr s f v i j).fresh = s.fresh := rfl
@[simp] theorem State.wr_time (s : State) (f : Field) (v : Nat) (i j : Nat) :
    (State.wr s f v i j).time = s.time := rfl
@[simp] theorem State.wr_health (s : State) (f : Field) (v : Nat) (i j : Nat) :
    (State.wr s f v i j).health = s.health := rfl
@[simp] theorem State.wr_zdp (s : State) (f : Field) (v : Nat) (i j : Nat) :
    (State.wr s f v i j).zdp = s.zdp := rfl
@[simp] theorem State.wr_ports (s : State) (f : Field) (v : Nat) (i j : Nat) :
    (State.wr s f v i j).ports = s.ports := rfl
@[simp] theorem State.wr_journal (s : State) (f : Field) (v : Nat) (i j : Nat) :
    (State.wr s f v i j).journal = s.journal := rfl
@[simp] theorem State.wr_claims (s : State) (f : Field) (v : Nat) (i j : Nat) :
    (State.wr s f v i j).claims = s.claims := rfl
@[simp] theorem State.wr_gate (s : State) (f : Field) (v : Nat) (i j : Nat) :
    (State.wr s f v i j).gate = s.gate := rfl
@[simp] theorem State.wr_loop (s : State) (f : Field) (v : Nat) (i j : Nat) :
    (State.wr s f v i j).loop = s.loop := rfl
@[simp] theorem State.wr_can (s : State) (f : Field) (v : Nat) (i j : Nat) :
    (State.wr s f v i j).can = s.can := rfl
@[simp] theorem State.wr_safety (s : State) (f : Field) (v : Nat) (i j : Nat) :
    (State.wr s f v i j).safety = s.safety := rfl
@[simp] theorem State.wr_hub (s : State) (f : Field) (v : Nat) (i j : Nat) :
    (State.wr s f v i j).hub = s.hub := rfl
@[simp] theorem State.wr_fabric (s : State) (f : Field) (v : Nat) (i j : Nat) :
    (State.wr s f v i j).fabric = s.fabric := rfl
@[simp] theorem State.wr_stages (s : State) (f : Field) (v : Nat) (i j : Nat) :
    (State.wr s f v i j).stages = s.stages := rfl
@[simp] theorem State.wr_lauter (s : State) (f : Field) (v : Nat) (i j : Nat) :
    (State.wr s f v i j).lauter = s.lauter := rfl
@[simp] theorem State.wr_pfu (s : State) (f : Field) (v : Nat) (i j : Nat) :
    (State.wr s f v i j).pfu = s.pfu := rfl
@[simp] theorem State.wr_obj (s : State) (f : Field) (v : Nat) (i j : Nat) (o' : ObjDef) (i' k' : Nat) :
    (State.wr s f v i j).obj o' i' k' = s.obj o' i' k' := rfl

/-! State.setObj -/

@[simp] theorem State.setObj_pending (s : State) (o : ObjDef) (v : Val) (i k : Nat) :
    (State.setObj s o v i k).pending = s.pending := rfl
@[simp] theorem State.setObj_regs (s : State) (o : ObjDef) (v : Val) (i k : Nat) :
    (State.setObj s o v i k).regs = s.regs := rfl
@[simp] theorem State.setObj_mem (s : State) (o : ObjDef) (v : Val) (i k : Nat) :
    (State.setObj s o v i k).mem = s.mem := rfl
@[simp] theorem State.setObj_latch (s : State) (o : ObjDef) (v : Val) (i k : Nat) :
    (State.setObj s o v i k).latch = s.latch := rfl
@[simp] theorem State.setObj_poisoned (s : State) (o : ObjDef) (v : Val) (i k : Nat) :
    (State.setObj s o v i k).poisoned = s.poisoned := rfl
@[simp] theorem State.setObj_readData (s : State) (o : ObjDef) (v : Val) (i k : Nat) :
    (State.setObj s o v i k).readData = s.readData := rfl
@[simp] theorem State.setObj_coreFaults (s : State) (o : ObjDef) (v : Val) (i k : Nat) :
    (State.setObj s o v i k).coreFaults = s.coreFaults := rfl
@[simp] theorem State.setObj_outcome (s : State) (o : ObjDef) (v : Val) (i k : Nat) :
    (State.setObj s o v i k).outcome = s.outcome := rfl
@[simp] theorem State.setObj_fresh (s : State) (o : ObjDef) (v : Val) (i k : Nat) :
    (State.setObj s o v i k).fresh = s.fresh := rfl
@[simp] theorem State.setObj_time (s : State) (o : ObjDef) (v : Val) (i k : Nat) :
    (State.setObj s o v i k).time = s.time := rfl
@[simp] theorem State.setObj_health (s : State) (o : ObjDef) (v : Val) (i k : Nat) :
    (State.setObj s o v i k).health = s.health := rfl
@[simp] theorem State.setObj_zdp (s : State) (o : ObjDef) (v : Val) (i k : Nat) :
    (State.setObj s o v i k).zdp = s.zdp := rfl
@[simp] theorem State.setObj_ports (s : State) (o : ObjDef) (v : Val) (i k : Nat) :
    (State.setObj s o v i k).ports = s.ports := rfl
@[simp] theorem State.setObj_journal (s : State) (o : ObjDef) (v : Val) (i k : Nat) :
    (State.setObj s o v i k).journal = s.journal := rfl
@[simp] theorem State.setObj_claims (s : State) (o : ObjDef) (v : Val) (i k : Nat) :
    (State.setObj s o v i k).claims = s.claims := rfl
@[simp] theorem State.setObj_gate (s : State) (o : ObjDef) (v : Val) (i k : Nat) :
    (State.setObj s o v i k).gate = s.gate := rfl
@[simp] theorem State.setObj_loop (s : State) (o : ObjDef) (v : Val) (i k : Nat) :
    (State.setObj s o v i k).loop = s.loop := rfl
@[simp] theorem State.setObj_can (s : State) (o : ObjDef) (v : Val) (i k : Nat) :
    (State.setObj s o v i k).can = s.can := rfl
@[simp] theorem State.setObj_safety (s : State) (o : ObjDef) (v : Val) (i k : Nat) :
    (State.setObj s o v i k).safety = s.safety := rfl
@[simp] theorem State.setObj_hub (s : State) (o : ObjDef) (v : Val) (i k : Nat) :
    (State.setObj s o v i k).hub = s.hub := rfl
@[simp] theorem State.setObj_fabric (s : State) (o : ObjDef) (v : Val) (i k : Nat) :
    (State.setObj s o v i k).fabric = s.fabric := rfl
@[simp] theorem State.setObj_stages (s : State) (o : ObjDef) (v : Val) (i k : Nat) :
    (State.setObj s o v i k).stages = s.stages := rfl
@[simp] theorem State.setObj_lauter (s : State) (o : ObjDef) (v : Val) (i k : Nat) :
    (State.setObj s o v i k).lauter = s.lauter := rfl
@[simp] theorem State.setObj_pfu (s : State) (o : ObjDef) (v : Val) (i k : Nat) :
    (State.setObj s o v i k).pfu = s.pfu := rfl
@[simp] theorem State.setObj_rd (s : State) (o : ObjDef) (v : Val) (i k : Nat) (f' : Field) (i' j' : Nat) :
    (State.setObj s o v i k).rd f' i' j' = s.rd f' i' j' := rfl

/-! State.dropObjs -/

@[simp] theorem State.dropObjs_pending (s : State) (keys : Nat → Bool) :
    (State.dropObjs s keys).pending = s.pending := rfl
@[simp] theorem State.dropObjs_regs (s : State) (keys : Nat → Bool) :
    (State.dropObjs s keys).regs = s.regs := rfl
@[simp] theorem State.dropObjs_mem (s : State) (keys : Nat → Bool) :
    (State.dropObjs s keys).mem = s.mem := rfl
@[simp] theorem State.dropObjs_latch (s : State) (keys : Nat → Bool) :
    (State.dropObjs s keys).latch = s.latch := rfl
@[simp] theorem State.dropObjs_poisoned (s : State) (keys : Nat → Bool) :
    (State.dropObjs s keys).poisoned = s.poisoned := rfl
@[simp] theorem State.dropObjs_readData (s : State) (keys : Nat → Bool) :
    (State.dropObjs s keys).readData = s.readData := rfl
@[simp] theorem State.dropObjs_coreFaults (s : State) (keys : Nat → Bool) :
    (State.dropObjs s keys).coreFaults = s.coreFaults := rfl
@[simp] theorem State.dropObjs_outcome (s : State) (keys : Nat → Bool) :
    (State.dropObjs s keys).outcome = s.outcome := rfl
@[simp] theorem State.dropObjs_fresh (s : State) (keys : Nat → Bool) :
    (State.dropObjs s keys).fresh = s.fresh := rfl
@[simp] theorem State.dropObjs_time (s : State) (keys : Nat → Bool) :
    (State.dropObjs s keys).time = s.time := rfl
@[simp] theorem State.dropObjs_health (s : State) (keys : Nat → Bool) :
    (State.dropObjs s keys).health = s.health := rfl
@[simp] theorem State.dropObjs_zdp (s : State) (keys : Nat → Bool) :
    (State.dropObjs s keys).zdp = s.zdp := rfl
@[simp] theorem State.dropObjs_ports (s : State) (keys : Nat → Bool) :
    (State.dropObjs s keys).ports = s.ports := rfl
@[simp] theorem State.dropObjs_journal (s : State) (keys : Nat → Bool) :
    (State.dropObjs s keys).journal = s.journal := rfl
@[simp] theorem State.dropObjs_claims (s : State) (keys : Nat → Bool) :
    (State.dropObjs s keys).claims = s.claims := rfl
@[simp] theorem State.dropObjs_gate (s : State) (keys : Nat → Bool) :
    (State.dropObjs s keys).gate = s.gate := rfl
@[simp] theorem State.dropObjs_loop (s : State) (keys : Nat → Bool) :
    (State.dropObjs s keys).loop = s.loop := rfl
@[simp] theorem State.dropObjs_can (s : State) (keys : Nat → Bool) :
    (State.dropObjs s keys).can = s.can := rfl
@[simp] theorem State.dropObjs_safety (s : State) (keys : Nat → Bool) :
    (State.dropObjs s keys).safety = s.safety := rfl
@[simp] theorem State.dropObjs_hub (s : State) (keys : Nat → Bool) :
    (State.dropObjs s keys).hub = s.hub := rfl
@[simp] theorem State.dropObjs_fabric (s : State) (keys : Nat → Bool) :
    (State.dropObjs s keys).fabric = s.fabric := rfl
@[simp] theorem State.dropObjs_stages (s : State) (keys : Nat → Bool) :
    (State.dropObjs s keys).stages = s.stages := rfl
@[simp] theorem State.dropObjs_lauter (s : State) (keys : Nat → Bool) :
    (State.dropObjs s keys).lauter = s.lauter := rfl
@[simp] theorem State.dropObjs_pfu (s : State) (keys : Nat → Bool) :
    (State.dropObjs s keys).pfu = s.pfu := rfl
@[simp] theorem State.dropObjs_rd (s : State) (keys : Nat → Bool) (f' : Field) (i' j' : Nat) :
    (State.dropObjs s keys).rd f' i' j' = s.rd f' i' j' := rfl

/-! State.answer -/

@[simp] theorem State.answer_pending (s : State) (reason : Nat) :
    (State.answer s reason).pending = s.pending := rfl
@[simp] theorem State.answer_regs (s : State) (reason : Nat) :
    (State.answer s reason).regs = s.regs := rfl
@[simp] theorem State.answer_mem (s : State) (reason : Nat) :
    (State.answer s reason).mem = s.mem := rfl
@[simp] theorem State.answer_dict (s : State) (reason : Nat) :
    (State.answer s reason).dict = s.dict := rfl
@[simp] theorem State.answer_latch (s : State) (reason : Nat) :
    (State.answer s reason).latch = s.latch := rfl
@[simp] theorem State.answer_poisoned (s : State) (reason : Nat) :
    (State.answer s reason).poisoned = s.poisoned := rfl
@[simp] theorem State.answer_readData (s : State) (reason : Nat) :
    (State.answer s reason).readData = s.readData := rfl
@[simp] theorem State.answer_coreFaults (s : State) (reason : Nat) :
    (State.answer s reason).coreFaults = s.coreFaults := rfl
@[simp] theorem State.answer_fresh (s : State) (reason : Nat) :
    (State.answer s reason).fresh = s.fresh := rfl
@[simp] theorem State.answer_time (s : State) (reason : Nat) :
    (State.answer s reason).time = s.time := rfl
@[simp] theorem State.answer_health (s : State) (reason : Nat) :
    (State.answer s reason).health = s.health := rfl
@[simp] theorem State.answer_zdp (s : State) (reason : Nat) :
    (State.answer s reason).zdp = s.zdp := rfl
@[simp] theorem State.answer_ports (s : State) (reason : Nat) :
    (State.answer s reason).ports = s.ports := rfl
@[simp] theorem State.answer_journal (s : State) (reason : Nat) :
    (State.answer s reason).journal = s.journal := rfl
@[simp] theorem State.answer_claims (s : State) (reason : Nat) :
    (State.answer s reason).claims = s.claims := rfl
@[simp] theorem State.answer_gate (s : State) (reason : Nat) :
    (State.answer s reason).gate = s.gate := rfl
@[simp] theorem State.answer_loop (s : State) (reason : Nat) :
    (State.answer s reason).loop = s.loop := rfl
@[simp] theorem State.answer_can (s : State) (reason : Nat) :
    (State.answer s reason).can = s.can := rfl
@[simp] theorem State.answer_safety (s : State) (reason : Nat) :
    (State.answer s reason).safety = s.safety := rfl
@[simp] theorem State.answer_hub (s : State) (reason : Nat) :
    (State.answer s reason).hub = s.hub := rfl
@[simp] theorem State.answer_fabric (s : State) (reason : Nat) :
    (State.answer s reason).fabric = s.fabric := rfl
@[simp] theorem State.answer_stages (s : State) (reason : Nat) :
    (State.answer s reason).stages = s.stages := rfl
@[simp] theorem State.answer_lauter (s : State) (reason : Nat) :
    (State.answer s reason).lauter = s.lauter := rfl
@[simp] theorem State.answer_pfu (s : State) (reason : Nat) :
    (State.answer s reason).pfu = s.pfu := rfl
@[simp] theorem State.answer_rd (s : State) (reason : Nat) (f' : Field) (i' j' : Nat) :
    (State.answer s reason).rd f' i' j' = s.rd f' i' j' := rfl
@[simp] theorem State.answer_obj (s : State) (reason : Nat) (o' : ObjDef) (i' k' : Nat) :
    (State.answer s reason).obj o' i' k' = s.obj o' i' k' := rfl

/-! State.nextFresh -/

@[simp] theorem State.nextFresh_pending (s : State) :
    (State.nextFresh s).pending = s.pending := rfl
@[simp] theorem State.nextFresh_regs (s : State) :
    (State.nextFresh s).regs = s.regs := rfl
@[simp] theorem State.nextFresh_mem (s : State) :
    (State.nextFresh s).mem = s.mem := rfl
@[simp] theorem State.nextFresh_dict (s : State) :
    (State.nextFresh s).dict = s.dict := rfl
@[simp] theorem State.nextFresh_latch (s : State) :
    (State.nextFresh s).latch = s.latch := rfl
@[simp] theorem State.nextFresh_poisoned (s : State) :
    (State.nextFresh s).poisoned = s.poisoned := rfl
@[simp] theorem State.nextFresh_readData (s : State) :
    (State.nextFresh s).readData = s.readData := rfl
@[simp] theorem State.nextFresh_coreFaults (s : State) :
    (State.nextFresh s).coreFaults = s.coreFaults := rfl
@[simp] theorem State.nextFresh_outcome (s : State) :
    (State.nextFresh s).outcome = s.outcome := rfl
@[simp] theorem State.nextFresh_time (s : State) :
    (State.nextFresh s).time = s.time := rfl
@[simp] theorem State.nextFresh_health (s : State) :
    (State.nextFresh s).health = s.health := rfl
@[simp] theorem State.nextFresh_zdp (s : State) :
    (State.nextFresh s).zdp = s.zdp := rfl
@[simp] theorem State.nextFresh_ports (s : State) :
    (State.nextFresh s).ports = s.ports := rfl
@[simp] theorem State.nextFresh_journal (s : State) :
    (State.nextFresh s).journal = s.journal := rfl
@[simp] theorem State.nextFresh_claims (s : State) :
    (State.nextFresh s).claims = s.claims := rfl
@[simp] theorem State.nextFresh_gate (s : State) :
    (State.nextFresh s).gate = s.gate := rfl
@[simp] theorem State.nextFresh_loop (s : State) :
    (State.nextFresh s).loop = s.loop := rfl
@[simp] theorem State.nextFresh_can (s : State) :
    (State.nextFresh s).can = s.can := rfl
@[simp] theorem State.nextFresh_safety (s : State) :
    (State.nextFresh s).safety = s.safety := rfl
@[simp] theorem State.nextFresh_hub (s : State) :
    (State.nextFresh s).hub = s.hub := rfl
@[simp] theorem State.nextFresh_fabric (s : State) :
    (State.nextFresh s).fabric = s.fabric := rfl
@[simp] theorem State.nextFresh_stages (s : State) :
    (State.nextFresh s).stages = s.stages := rfl
@[simp] theorem State.nextFresh_lauter (s : State) :
    (State.nextFresh s).lauter = s.lauter := rfl
@[simp] theorem State.nextFresh_pfu (s : State) :
    (State.nextFresh s).pfu = s.pfu := rfl
@[simp] theorem State.nextFresh_rd (s : State) (f' : Field) (i' j' : Nat) :
    (State.nextFresh s).rd f' i' j' = s.rd f' i' j' := rfl
@[simp] theorem State.nextFresh_obj (s : State) (o' : ObjDef) (i' k' : Nat) :
    (State.nextFresh s).obj o' i' k' = s.obj o' i' k' := rfl

/-! State.poke -/

@[simp] theorem State.poke_pending (s : State) (a : Nat) (b : List Byte) :
    (State.poke s a b).pending = s.pending := rfl
@[simp] theorem State.poke_regs (s : State) (a : Nat) (b : List Byte) :
    (State.poke s a b).regs = s.regs := rfl
@[simp] theorem State.poke_dict (s : State) (a : Nat) (b : List Byte) :
    (State.poke s a b).dict = s.dict := rfl
@[simp] theorem State.poke_latch (s : State) (a : Nat) (b : List Byte) :
    (State.poke s a b).latch = s.latch := rfl
@[simp] theorem State.poke_readData (s : State) (a : Nat) (b : List Byte) :
    (State.poke s a b).readData = s.readData := rfl
@[simp] theorem State.poke_coreFaults (s : State) (a : Nat) (b : List Byte) :
    (State.poke s a b).coreFaults = s.coreFaults := rfl
@[simp] theorem State.poke_outcome (s : State) (a : Nat) (b : List Byte) :
    (State.poke s a b).outcome = s.outcome := rfl
@[simp] theorem State.poke_fresh (s : State) (a : Nat) (b : List Byte) :
    (State.poke s a b).fresh = s.fresh := rfl
@[simp] theorem State.poke_time (s : State) (a : Nat) (b : List Byte) :
    (State.poke s a b).time = s.time := rfl
@[simp] theorem State.poke_health (s : State) (a : Nat) (b : List Byte) :
    (State.poke s a b).health = s.health := rfl
@[simp] theorem State.poke_zdp (s : State) (a : Nat) (b : List Byte) :
    (State.poke s a b).zdp = s.zdp := rfl
@[simp] theorem State.poke_ports (s : State) (a : Nat) (b : List Byte) :
    (State.poke s a b).ports = s.ports := rfl
@[simp] theorem State.poke_journal (s : State) (a : Nat) (b : List Byte) :
    (State.poke s a b).journal = s.journal := rfl
@[simp] theorem State.poke_claims (s : State) (a : Nat) (b : List Byte) :
    (State.poke s a b).claims = s.claims := rfl
@[simp] theorem State.poke_gate (s : State) (a : Nat) (b : List Byte) :
    (State.poke s a b).gate = s.gate := rfl
@[simp] theorem State.poke_loop (s : State) (a : Nat) (b : List Byte) :
    (State.poke s a b).loop = s.loop := rfl
@[simp] theorem State.poke_can (s : State) (a : Nat) (b : List Byte) :
    (State.poke s a b).can = s.can := rfl
@[simp] theorem State.poke_safety (s : State) (a : Nat) (b : List Byte) :
    (State.poke s a b).safety = s.safety := rfl
@[simp] theorem State.poke_hub (s : State) (a : Nat) (b : List Byte) :
    (State.poke s a b).hub = s.hub := rfl
@[simp] theorem State.poke_fabric (s : State) (a : Nat) (b : List Byte) :
    (State.poke s a b).fabric = s.fabric := rfl
@[simp] theorem State.poke_stages (s : State) (a : Nat) (b : List Byte) :
    (State.poke s a b).stages = s.stages := rfl
@[simp] theorem State.poke_lauter (s : State) (a : Nat) (b : List Byte) :
    (State.poke s a b).lauter = s.lauter := rfl
@[simp] theorem State.poke_pfu (s : State) (a : Nat) (b : List Byte) :
    (State.poke s a b).pfu = s.pfu := rfl
@[simp] theorem State.poke_rd (s : State) (a : Nat) (b : List Byte) (f' : Field) (i' j' : Nat) :
    (State.poke s a b).rd f' i' j' = s.rd f' i' j' := rfl
@[simp] theorem State.poke_obj (s : State) (a : Nat) (b : List Byte) (o' : ObjDef) (i' k' : Nat) :
    (State.poke s a b).obj o' i' k' = s.obj o' i' k' := rfl

/-! State.setPeer -/

@[simp] theorem State.setPeer_pending (s : State) (m : Nat) (f : PeerView → PeerView) :
    (State.setPeer s m f).pending = s.pending := rfl
@[simp] theorem State.setPeer_regs (s : State) (m : Nat) (f : PeerView → PeerView) :
    (State.setPeer s m f).regs = s.regs := rfl
@[simp] theorem State.setPeer_mem (s : State) (m : Nat) (f : PeerView → PeerView) :
    (State.setPeer s m f).mem = s.mem := rfl
@[simp] theorem State.setPeer_dict (s : State) (m : Nat) (f : PeerView → PeerView) :
    (State.setPeer s m f).dict = s.dict := rfl
@[simp] theorem State.setPeer_latch (s : State) (m : Nat) (f : PeerView → PeerView) :
    (State.setPeer s m f).latch = s.latch := rfl
@[simp] theorem State.setPeer_poisoned (s : State) (m : Nat) (f : PeerView → PeerView) :
    (State.setPeer s m f).poisoned = s.poisoned := rfl
@[simp] theorem State.setPeer_readData (s : State) (m : Nat) (f : PeerView → PeerView) :
    (State.setPeer s m f).readData = s.readData := rfl
@[simp] theorem State.setPeer_coreFaults (s : State) (m : Nat) (f : PeerView → PeerView) :
    (State.setPeer s m f).coreFaults = s.coreFaults := rfl
@[simp] theorem State.setPeer_outcome (s : State) (m : Nat) (f : PeerView → PeerView) :
    (State.setPeer s m f).outcome = s.outcome := rfl
@[simp] theorem State.setPeer_fresh (s : State) (m : Nat) (f : PeerView → PeerView) :
    (State.setPeer s m f).fresh = s.fresh := rfl
@[simp] theorem State.setPeer_time (s : State) (m : Nat) (f : PeerView → PeerView) :
    (State.setPeer s m f).time = s.time := rfl
@[simp] theorem State.setPeer_health (s : State) (m : Nat) (f : PeerView → PeerView) :
    (State.setPeer s m f).health = s.health := rfl
@[simp] theorem State.setPeer_zdp (s : State) (m : Nat) (f : PeerView → PeerView) :
    (State.setPeer s m f).zdp = s.zdp := rfl
@[simp] theorem State.setPeer_ports (s : State) (m : Nat) (f : PeerView → PeerView) :
    (State.setPeer s m f).ports = s.ports := rfl
@[simp] theorem State.setPeer_journal (s : State) (m : Nat) (f : PeerView → PeerView) :
    (State.setPeer s m f).journal = s.journal := rfl
@[simp] theorem State.setPeer_gate (s : State) (m : Nat) (f : PeerView → PeerView) :
    (State.setPeer s m f).gate = s.gate := rfl
@[simp] theorem State.setPeer_loop (s : State) (m : Nat) (f : PeerView → PeerView) :
    (State.setPeer s m f).loop = s.loop := rfl
@[simp] theorem State.setPeer_can (s : State) (m : Nat) (f : PeerView → PeerView) :
    (State.setPeer s m f).can = s.can := rfl
@[simp] theorem State.setPeer_safety (s : State) (m : Nat) (f : PeerView → PeerView) :
    (State.setPeer s m f).safety = s.safety := rfl
@[simp] theorem State.setPeer_hub (s : State) (m : Nat) (f : PeerView → PeerView) :
    (State.setPeer s m f).hub = s.hub := rfl
@[simp] theorem State.setPeer_fabric (s : State) (m : Nat) (f : PeerView → PeerView) :
    (State.setPeer s m f).fabric = s.fabric := rfl
@[simp] theorem State.setPeer_stages (s : State) (m : Nat) (f : PeerView → PeerView) :
    (State.setPeer s m f).stages = s.stages := rfl
@[simp] theorem State.setPeer_lauter (s : State) (m : Nat) (f : PeerView → PeerView) :
    (State.setPeer s m f).lauter = s.lauter := rfl
@[simp] theorem State.setPeer_pfu (s : State) (m : Nat) (f : PeerView → PeerView) :
    (State.setPeer s m f).pfu = s.pfu := rfl
@[simp] theorem State.setPeer_rd (s : State) (m : Nat) (f : PeerView → PeerView) (f' : Field) (i' j' : Nat) :
    (State.setPeer s m f).rd f' i' j' = s.rd f' i' j' := rfl
@[simp] theorem State.setPeer_obj (s : State) (m : Nat) (f : PeerView → PeerView) (o' : ObjDef) (i' k' : Nat) :
    (State.setPeer s m f).obj o' i' k' = s.obj o' i' k' := rfl

/-! State.ringWrite -/

@[simp] theorem State.ringWrite_pending (s : State) (a : AlarmRec) :
    (State.ringWrite s a).pending = s.pending := rfl
@[simp] theorem State.ringWrite_regs (s : State) (a : AlarmRec) :
    (State.ringWrite s a).regs = s.regs := rfl
@[simp] theorem State.ringWrite_mem (s : State) (a : AlarmRec) :
    (State.ringWrite s a).mem = s.mem := rfl
@[simp] theorem State.ringWrite_dict (s : State) (a : AlarmRec) :
    (State.ringWrite s a).dict = s.dict := rfl
@[simp] theorem State.ringWrite_latch (s : State) (a : AlarmRec) :
    (State.ringWrite s a).latch = s.latch := rfl
@[simp] theorem State.ringWrite_poisoned (s : State) (a : AlarmRec) :
    (State.ringWrite s a).poisoned = s.poisoned := rfl
@[simp] theorem State.ringWrite_readData (s : State) (a : AlarmRec) :
    (State.ringWrite s a).readData = s.readData := rfl
@[simp] theorem State.ringWrite_coreFaults (s : State) (a : AlarmRec) :
    (State.ringWrite s a).coreFaults = s.coreFaults := rfl
@[simp] theorem State.ringWrite_outcome (s : State) (a : AlarmRec) :
    (State.ringWrite s a).outcome = s.outcome := rfl
@[simp] theorem State.ringWrite_fresh (s : State) (a : AlarmRec) :
    (State.ringWrite s a).fresh = s.fresh := rfl
@[simp] theorem State.ringWrite_time (s : State) (a : AlarmRec) :
    (State.ringWrite s a).time = s.time := rfl
@[simp] theorem State.ringWrite_zdp (s : State) (a : AlarmRec) :
    (State.ringWrite s a).zdp = s.zdp := rfl
@[simp] theorem State.ringWrite_ports (s : State) (a : AlarmRec) :
    (State.ringWrite s a).ports = s.ports := rfl
@[simp] theorem State.ringWrite_journal (s : State) (a : AlarmRec) :
    (State.ringWrite s a).journal = s.journal := rfl
@[simp] theorem State.ringWrite_claims (s : State) (a : AlarmRec) :
    (State.ringWrite s a).claims = s.claims := rfl
@[simp] theorem State.ringWrite_gate (s : State) (a : AlarmRec) :
    (State.ringWrite s a).gate = s.gate := rfl
@[simp] theorem State.ringWrite_loop (s : State) (a : AlarmRec) :
    (State.ringWrite s a).loop = s.loop := rfl
@[simp] theorem State.ringWrite_can (s : State) (a : AlarmRec) :
    (State.ringWrite s a).can = s.can := rfl
@[simp] theorem State.ringWrite_safety (s : State) (a : AlarmRec) :
    (State.ringWrite s a).safety = s.safety := rfl
@[simp] theorem State.ringWrite_hub (s : State) (a : AlarmRec) :
    (State.ringWrite s a).hub = s.hub := rfl
@[simp] theorem State.ringWrite_fabric (s : State) (a : AlarmRec) :
    (State.ringWrite s a).fabric = s.fabric := rfl
@[simp] theorem State.ringWrite_stages (s : State) (a : AlarmRec) :
    (State.ringWrite s a).stages = s.stages := rfl
@[simp] theorem State.ringWrite_lauter (s : State) (a : AlarmRec) :
    (State.ringWrite s a).lauter = s.lauter := rfl
@[simp] theorem State.ringWrite_pfu (s : State) (a : AlarmRec) :
    (State.ringWrite s a).pfu = s.pfu := rfl
@[simp] theorem State.ringWrite_rd (s : State) (a : AlarmRec) (f' : Field) (i' j' : Nat) :
    (State.ringWrite s a).rd f' i' j' = s.rd f' i' j' := rfl
@[simp] theorem State.ringWrite_obj (s : State) (a : AlarmRec) (o' : ObjDef) (i' k' : Nat) :
    (State.ringWrite s a).obj o' i' k' = s.obj o' i' k' := rfl

/-! State.setHealth -/

@[simp] theorem State.setHealth_pending (s : State) (f : HealthSt → HealthSt) :
    (State.setHealth s f).pending = s.pending := rfl
@[simp] theorem State.setHealth_regs (s : State) (f : HealthSt → HealthSt) :
    (State.setHealth s f).regs = s.regs := rfl
@[simp] theorem State.setHealth_mem (s : State) (f : HealthSt → HealthSt) :
    (State.setHealth s f).mem = s.mem := rfl
@[simp] theorem State.setHealth_dict (s : State) (f : HealthSt → HealthSt) :
    (State.setHealth s f).dict = s.dict := rfl
@[simp] theorem State.setHealth_latch (s : State) (f : HealthSt → HealthSt) :
    (State.setHealth s f).latch = s.latch := rfl
@[simp] theorem State.setHealth_poisoned (s : State) (f : HealthSt → HealthSt) :
    (State.setHealth s f).poisoned = s.poisoned := rfl
@[simp] theorem State.setHealth_readData (s : State) (f : HealthSt → HealthSt) :
    (State.setHealth s f).readData = s.readData := rfl
@[simp] theorem State.setHealth_coreFaults (s : State) (f : HealthSt → HealthSt) :
    (State.setHealth s f).coreFaults = s.coreFaults := rfl
@[simp] theorem State.setHealth_outcome (s : State) (f : HealthSt → HealthSt) :
    (State.setHealth s f).outcome = s.outcome := rfl
@[simp] theorem State.setHealth_fresh (s : State) (f : HealthSt → HealthSt) :
    (State.setHealth s f).fresh = s.fresh := rfl
@[simp] theorem State.setHealth_time (s : State) (f : HealthSt → HealthSt) :
    (State.setHealth s f).time = s.time := rfl
@[simp] theorem State.setHealth_zdp (s : State) (f : HealthSt → HealthSt) :
    (State.setHealth s f).zdp = s.zdp := rfl
@[simp] theorem State.setHealth_ports (s : State) (f : HealthSt → HealthSt) :
    (State.setHealth s f).ports = s.ports := rfl
@[simp] theorem State.setHealth_journal (s : State) (f : HealthSt → HealthSt) :
    (State.setHealth s f).journal = s.journal := rfl
@[simp] theorem State.setHealth_claims (s : State) (f : HealthSt → HealthSt) :
    (State.setHealth s f).claims = s.claims := rfl
@[simp] theorem State.setHealth_gate (s : State) (f : HealthSt → HealthSt) :
    (State.setHealth s f).gate = s.gate := rfl
@[simp] theorem State.setHealth_loop (s : State) (f : HealthSt → HealthSt) :
    (State.setHealth s f).loop = s.loop := rfl
@[simp] theorem State.setHealth_can (s : State) (f : HealthSt → HealthSt) :
    (State.setHealth s f).can = s.can := rfl
@[simp] theorem State.setHealth_safety (s : State) (f : HealthSt → HealthSt) :
    (State.setHealth s f).safety = s.safety := rfl
@[simp] theorem State.setHealth_hub (s : State) (f : HealthSt → HealthSt) :
    (State.setHealth s f).hub = s.hub := rfl
@[simp] theorem State.setHealth_fabric (s : State) (f : HealthSt → HealthSt) :
    (State.setHealth s f).fabric = s.fabric := rfl
@[simp] theorem State.setHealth_stages (s : State) (f : HealthSt → HealthSt) :
    (State.setHealth s f).stages = s.stages := rfl
@[simp] theorem State.setHealth_lauter (s : State) (f : HealthSt → HealthSt) :
    (State.setHealth s f).lauter = s.lauter := rfl
@[simp] theorem State.setHealth_pfu (s : State) (f : HealthSt → HealthSt) :
    (State.setHealth s f).pfu = s.pfu := rfl
@[simp] theorem State.setHealth_rd (s : State) (f : HealthSt → HealthSt) (f' : Field) (i' j' : Nat) :
    (State.setHealth s f).rd f' i' j' = s.rd f' i' j' := rfl
@[simp] theorem State.setHealth_obj (s : State) (f : HealthSt → HealthSt) (o' : ObjDef) (i' k' : Nat) :
    (State.setHealth s f).obj o' i' k' = s.obj o' i' k' := rfl

/-! State.setUnit -/

@[simp] theorem State.setUnit_pending (s : State) (slot : Nat) (f : UnitSt → UnitSt) :
    (State.setUnit s slot f).pending = s.pending := rfl
@[simp] theorem State.setUnit_regs (s : State) (slot : Nat) (f : UnitSt → UnitSt) :
    (State.setUnit s slot f).regs = s.regs := rfl
@[simp] theorem State.setUnit_mem (s : State) (slot : Nat) (f : UnitSt → UnitSt) :
    (State.setUnit s slot f).mem = s.mem := rfl
@[simp] theorem State.setUnit_dict (s : State) (slot : Nat) (f : UnitSt → UnitSt) :
    (State.setUnit s slot f).dict = s.dict := rfl
@[simp] theorem State.setUnit_latch (s : State) (slot : Nat) (f : UnitSt → UnitSt) :
    (State.setUnit s slot f).latch = s.latch := rfl
@[simp] theorem State.setUnit_poisoned (s : State) (slot : Nat) (f : UnitSt → UnitSt) :
    (State.setUnit s slot f).poisoned = s.poisoned := rfl
@[simp] theorem State.setUnit_readData (s : State) (slot : Nat) (f : UnitSt → UnitSt) :
    (State.setUnit s slot f).readData = s.readData := rfl
@[simp] theorem State.setUnit_coreFaults (s : State) (slot : Nat) (f : UnitSt → UnitSt) :
    (State.setUnit s slot f).coreFaults = s.coreFaults := rfl
@[simp] theorem State.setUnit_outcome (s : State) (slot : Nat) (f : UnitSt → UnitSt) :
    (State.setUnit s slot f).outcome = s.outcome := rfl
@[simp] theorem State.setUnit_fresh (s : State) (slot : Nat) (f : UnitSt → UnitSt) :
    (State.setUnit s slot f).fresh = s.fresh := rfl
@[simp] theorem State.setUnit_time (s : State) (slot : Nat) (f : UnitSt → UnitSt) :
    (State.setUnit s slot f).time = s.time := rfl
@[simp] theorem State.setUnit_zdp (s : State) (slot : Nat) (f : UnitSt → UnitSt) :
    (State.setUnit s slot f).zdp = s.zdp := rfl
@[simp] theorem State.setUnit_ports (s : State) (slot : Nat) (f : UnitSt → UnitSt) :
    (State.setUnit s slot f).ports = s.ports := rfl
@[simp] theorem State.setUnit_journal (s : State) (slot : Nat) (f : UnitSt → UnitSt) :
    (State.setUnit s slot f).journal = s.journal := rfl
@[simp] theorem State.setUnit_claims (s : State) (slot : Nat) (f : UnitSt → UnitSt) :
    (State.setUnit s slot f).claims = s.claims := rfl
@[simp] theorem State.setUnit_gate (s : State) (slot : Nat) (f : UnitSt → UnitSt) :
    (State.setUnit s slot f).gate = s.gate := rfl
@[simp] theorem State.setUnit_loop (s : State) (slot : Nat) (f : UnitSt → UnitSt) :
    (State.setUnit s slot f).loop = s.loop := rfl
@[simp] theorem State.setUnit_can (s : State) (slot : Nat) (f : UnitSt → UnitSt) :
    (State.setUnit s slot f).can = s.can := rfl
@[simp] theorem State.setUnit_safety (s : State) (slot : Nat) (f : UnitSt → UnitSt) :
    (State.setUnit s slot f).safety = s.safety := rfl
@[simp] theorem State.setUnit_hub (s : State) (slot : Nat) (f : UnitSt → UnitSt) :
    (State.setUnit s slot f).hub = s.hub := rfl
@[simp] theorem State.setUnit_fabric (s : State) (slot : Nat) (f : UnitSt → UnitSt) :
    (State.setUnit s slot f).fabric = s.fabric := rfl
@[simp] theorem State.setUnit_stages (s : State) (slot : Nat) (f : UnitSt → UnitSt) :
    (State.setUnit s slot f).stages = s.stages := rfl
@[simp] theorem State.setUnit_lauter (s : State) (slot : Nat) (f : UnitSt → UnitSt) :
    (State.setUnit s slot f).lauter = s.lauter := rfl
@[simp] theorem State.setUnit_pfu (s : State) (slot : Nat) (f : UnitSt → UnitSt) :
    (State.setUnit s slot f).pfu = s.pfu := rfl
@[simp] theorem State.setUnit_rd (s : State) (slot : Nat) (f : UnitSt → UnitSt) (f' : Field) (i' j' : Nat) :
    (State.setUnit s slot f).rd f' i' j' = s.rd f' i' j' := rfl
@[simp] theorem State.setUnit_obj (s : State) (slot : Nat) (f : UnitSt → UnitSt) (o' : ObjDef) (i' k' : Nat) :
    (State.setUnit s slot f).obj o' i' k' = s.obj o' i' k' := rfl

/-! State.accessFault -/

@[simp] theorem State.accessFault_pending (s : State) (c : Nat) (cause : AccessCause) (addr : Nat) :
    (State.accessFault s c cause addr).pending = s.pending := rfl
@[simp] theorem State.accessFault_regs (s : State) (c : Nat) (cause : AccessCause) (addr : Nat) :
    (State.accessFault s c cause addr).regs = s.regs := rfl
@[simp] theorem State.accessFault_mem (s : State) (c : Nat) (cause : AccessCause) (addr : Nat) :
    (State.accessFault s c cause addr).mem = s.mem := rfl
@[simp] theorem State.accessFault_dict (s : State) (c : Nat) (cause : AccessCause) (addr : Nat) :
    (State.accessFault s c cause addr).dict = s.dict := rfl
@[simp] theorem State.accessFault_latch (s : State) (c : Nat) (cause : AccessCause) (addr : Nat) :
    (State.accessFault s c cause addr).latch = s.latch := rfl
@[simp] theorem State.accessFault_poisoned (s : State) (c : Nat) (cause : AccessCause) (addr : Nat) :
    (State.accessFault s c cause addr).poisoned = s.poisoned := rfl
@[simp] theorem State.accessFault_readData (s : State) (c : Nat) (cause : AccessCause) (addr : Nat) :
    (State.accessFault s c cause addr).readData = s.readData := rfl
@[simp] theorem State.accessFault_outcome (s : State) (c : Nat) (cause : AccessCause) (addr : Nat) :
    (State.accessFault s c cause addr).outcome = s.outcome := rfl
@[simp] theorem State.accessFault_fresh (s : State) (c : Nat) (cause : AccessCause) (addr : Nat) :
    (State.accessFault s c cause addr).fresh = s.fresh := rfl
@[simp] theorem State.accessFault_time (s : State) (c : Nat) (cause : AccessCause) (addr : Nat) :
    (State.accessFault s c cause addr).time = s.time := rfl
@[simp] theorem State.accessFault_health (s : State) (c : Nat) (cause : AccessCause) (addr : Nat) :
    (State.accessFault s c cause addr).health = s.health := rfl
@[simp] theorem State.accessFault_zdp (s : State) (c : Nat) (cause : AccessCause) (addr : Nat) :
    (State.accessFault s c cause addr).zdp = s.zdp := rfl
@[simp] theorem State.accessFault_ports (s : State) (c : Nat) (cause : AccessCause) (addr : Nat) :
    (State.accessFault s c cause addr).ports = s.ports := rfl
@[simp] theorem State.accessFault_journal (s : State) (c : Nat) (cause : AccessCause) (addr : Nat) :
    (State.accessFault s c cause addr).journal = s.journal := rfl
@[simp] theorem State.accessFault_claims (s : State) (c : Nat) (cause : AccessCause) (addr : Nat) :
    (State.accessFault s c cause addr).claims = s.claims := rfl
@[simp] theorem State.accessFault_gate (s : State) (c : Nat) (cause : AccessCause) (addr : Nat) :
    (State.accessFault s c cause addr).gate = s.gate := rfl
@[simp] theorem State.accessFault_loop (s : State) (c : Nat) (cause : AccessCause) (addr : Nat) :
    (State.accessFault s c cause addr).loop = s.loop := rfl
@[simp] theorem State.accessFault_can (s : State) (c : Nat) (cause : AccessCause) (addr : Nat) :
    (State.accessFault s c cause addr).can = s.can := rfl
@[simp] theorem State.accessFault_safety (s : State) (c : Nat) (cause : AccessCause) (addr : Nat) :
    (State.accessFault s c cause addr).safety = s.safety := rfl
@[simp] theorem State.accessFault_hub (s : State) (c : Nat) (cause : AccessCause) (addr : Nat) :
    (State.accessFault s c cause addr).hub = s.hub := rfl
@[simp] theorem State.accessFault_fabric (s : State) (c : Nat) (cause : AccessCause) (addr : Nat) :
    (State.accessFault s c cause addr).fabric = s.fabric := rfl
@[simp] theorem State.accessFault_stages (s : State) (c : Nat) (cause : AccessCause) (addr : Nat) :
    (State.accessFault s c cause addr).stages = s.stages := rfl
@[simp] theorem State.accessFault_lauter (s : State) (c : Nat) (cause : AccessCause) (addr : Nat) :
    (State.accessFault s c cause addr).lauter = s.lauter := rfl
@[simp] theorem State.accessFault_pfu (s : State) (c : Nat) (cause : AccessCause) (addr : Nat) :
    (State.accessFault s c cause addr).pfu = s.pfu := rfl
@[simp] theorem State.accessFault_rd (s : State) (c : Nat) (cause : AccessCause) (addr : Nat) (f' : Field) (i' j' : Nat) :
    (State.accessFault s c cause addr).rd f' i' j' = s.rd f' i' j' := rfl
@[simp] theorem State.accessFault_obj (s : State) (c : Nat) (cause : AccessCause) (addr : Nat) (o' : ObjDef) (i' k' : Nat) :
    (State.accessFault s c cause addr).obj o' i' k' = s.obj o' i' k' := rfl

/-! State.resetFields -/

@[simp] theorem State.resetFields_pending (s : State) (fs : List Field) :
    (State.resetFields s fs).pending = s.pending := rfl
@[simp] theorem State.resetFields_mem (s : State) (fs : List Field) :
    (State.resetFields s fs).mem = s.mem := rfl
@[simp] theorem State.resetFields_dict (s : State) (fs : List Field) :
    (State.resetFields s fs).dict = s.dict := rfl
@[simp] theorem State.resetFields_latch (s : State) (fs : List Field) :
    (State.resetFields s fs).latch = s.latch := rfl
@[simp] theorem State.resetFields_poisoned (s : State) (fs : List Field) :
    (State.resetFields s fs).poisoned = s.poisoned := rfl
@[simp] theorem State.resetFields_readData (s : State) (fs : List Field) :
    (State.resetFields s fs).readData = s.readData := rfl
@[simp] theorem State.resetFields_coreFaults (s : State) (fs : List Field) :
    (State.resetFields s fs).coreFaults = s.coreFaults := rfl
@[simp] theorem State.resetFields_outcome (s : State) (fs : List Field) :
    (State.resetFields s fs).outcome = s.outcome := rfl
@[simp] theorem State.resetFields_fresh (s : State) (fs : List Field) :
    (State.resetFields s fs).fresh = s.fresh := rfl
@[simp] theorem State.resetFields_time (s : State) (fs : List Field) :
    (State.resetFields s fs).time = s.time := rfl
@[simp] theorem State.resetFields_health (s : State) (fs : List Field) :
    (State.resetFields s fs).health = s.health := rfl
@[simp] theorem State.resetFields_zdp (s : State) (fs : List Field) :
    (State.resetFields s fs).zdp = s.zdp := rfl
@[simp] theorem State.resetFields_ports (s : State) (fs : List Field) :
    (State.resetFields s fs).ports = s.ports := rfl
@[simp] theorem State.resetFields_journal (s : State) (fs : List Field) :
    (State.resetFields s fs).journal = s.journal := rfl
@[simp] theorem State.resetFields_claims (s : State) (fs : List Field) :
    (State.resetFields s fs).claims = s.claims := rfl
@[simp] theorem State.resetFields_gate (s : State) (fs : List Field) :
    (State.resetFields s fs).gate = s.gate := rfl
@[simp] theorem State.resetFields_loop (s : State) (fs : List Field) :
    (State.resetFields s fs).loop = s.loop := rfl
@[simp] theorem State.resetFields_can (s : State) (fs : List Field) :
    (State.resetFields s fs).can = s.can := rfl
@[simp] theorem State.resetFields_safety (s : State) (fs : List Field) :
    (State.resetFields s fs).safety = s.safety := rfl
@[simp] theorem State.resetFields_hub (s : State) (fs : List Field) :
    (State.resetFields s fs).hub = s.hub := rfl
@[simp] theorem State.resetFields_fabric (s : State) (fs : List Field) :
    (State.resetFields s fs).fabric = s.fabric := rfl
@[simp] theorem State.resetFields_stages (s : State) (fs : List Field) :
    (State.resetFields s fs).stages = s.stages := rfl
@[simp] theorem State.resetFields_lauter (s : State) (fs : List Field) :
    (State.resetFields s fs).lauter = s.lauter := rfl
@[simp] theorem State.resetFields_pfu (s : State) (fs : List Field) :
    (State.resetFields s fs).pfu = s.pfu := rfl
@[simp] theorem State.resetFields_obj (s : State) (fs : List Field) (o' : ObjDef) (i' k' : Nat) :
    (State.resetFields s fs).obj o' i' k' = s.obj o' i' k' := rfl

/-! State.sendZdp -/

@[simp] theorem State.sendZdp_pending (s : State) (z : ZdpOut) :
    (State.sendZdp s z).pending = s.pending := rfl
@[simp] theorem State.sendZdp_regs (s : State) (z : ZdpOut) :
    (State.sendZdp s z).regs = s.regs := rfl
@[simp] theorem State.sendZdp_mem (s : State) (z : ZdpOut) :
    (State.sendZdp s z).mem = s.mem := rfl
@[simp] theorem State.sendZdp_dict (s : State) (z : ZdpOut) :
    (State.sendZdp s z).dict = s.dict := rfl
@[simp] theorem State.sendZdp_latch (s : State) (z : ZdpOut) :
    (State.sendZdp s z).latch = s.latch := rfl
@[simp] theorem State.sendZdp_poisoned (s : State) (z : ZdpOut) :
    (State.sendZdp s z).poisoned = s.poisoned := rfl
@[simp] theorem State.sendZdp_readData (s : State) (z : ZdpOut) :
    (State.sendZdp s z).readData = s.readData := rfl
@[simp] theorem State.sendZdp_coreFaults (s : State) (z : ZdpOut) :
    (State.sendZdp s z).coreFaults = s.coreFaults := rfl
@[simp] theorem State.sendZdp_outcome (s : State) (z : ZdpOut) :
    (State.sendZdp s z).outcome = s.outcome := rfl
@[simp] theorem State.sendZdp_fresh (s : State) (z : ZdpOut) :
    (State.sendZdp s z).fresh = s.fresh := rfl
@[simp] theorem State.sendZdp_time (s : State) (z : ZdpOut) :
    (State.sendZdp s z).time = s.time := rfl
@[simp] theorem State.sendZdp_health (s : State) (z : ZdpOut) :
    (State.sendZdp s z).health = s.health := rfl
@[simp] theorem State.sendZdp_ports (s : State) (z : ZdpOut) :
    (State.sendZdp s z).ports = s.ports := rfl
@[simp] theorem State.sendZdp_journal (s : State) (z : ZdpOut) :
    (State.sendZdp s z).journal = s.journal := rfl
@[simp] theorem State.sendZdp_claims (s : State) (z : ZdpOut) :
    (State.sendZdp s z).claims = s.claims := rfl
@[simp] theorem State.sendZdp_gate (s : State) (z : ZdpOut) :
    (State.sendZdp s z).gate = s.gate := rfl
@[simp] theorem State.sendZdp_loop (s : State) (z : ZdpOut) :
    (State.sendZdp s z).loop = s.loop := rfl
@[simp] theorem State.sendZdp_can (s : State) (z : ZdpOut) :
    (State.sendZdp s z).can = s.can := rfl
@[simp] theorem State.sendZdp_safety (s : State) (z : ZdpOut) :
    (State.sendZdp s z).safety = s.safety := rfl
@[simp] theorem State.sendZdp_hub (s : State) (z : ZdpOut) :
    (State.sendZdp s z).hub = s.hub := rfl
@[simp] theorem State.sendZdp_fabric (s : State) (z : ZdpOut) :
    (State.sendZdp s z).fabric = s.fabric := rfl
@[simp] theorem State.sendZdp_stages (s : State) (z : ZdpOut) :
    (State.sendZdp s z).stages = s.stages := rfl
@[simp] theorem State.sendZdp_lauter (s : State) (z : ZdpOut) :
    (State.sendZdp s z).lauter = s.lauter := rfl
@[simp] theorem State.sendZdp_pfu (s : State) (z : ZdpOut) :
    (State.sendZdp s z).pfu = s.pfu := rfl
@[simp] theorem State.sendZdp_rd (s : State) (z : ZdpOut) (f' : Field) (i' j' : Nat) :
    (State.sendZdp s z).rd f' i' j' = s.rd f' i' j' := rfl
@[simp] theorem State.sendZdp_obj (s : State) (z : ZdpOut) (o' : ObjDef) (i' k' : Nat) :
    (State.sendZdp s z).obj o' i' k' = s.obj o' i' k' := rfl

/-! State.setJ -/

@[simp] theorem State.setJ_pending (s : State) (f : JournalSt → JournalSt) :
    (State.setJ s f).pending = s.pending := rfl
@[simp] theorem State.setJ_regs (s : State) (f : JournalSt → JournalSt) :
    (State.setJ s f).regs = s.regs := rfl
@[simp] theorem State.setJ_mem (s : State) (f : JournalSt → JournalSt) :
    (State.setJ s f).mem = s.mem := rfl
@[simp] theorem State.setJ_dict (s : State) (f : JournalSt → JournalSt) :
    (State.setJ s f).dict = s.dict := rfl
@[simp] theorem State.setJ_latch (s : State) (f : JournalSt → JournalSt) :
    (State.setJ s f).latch = s.latch := rfl
@[simp] theorem State.setJ_poisoned (s : State) (f : JournalSt → JournalSt) :
    (State.setJ s f).poisoned = s.poisoned := rfl
@[simp] theorem State.setJ_readData (s : State) (f : JournalSt → JournalSt) :
    (State.setJ s f).readData = s.readData := rfl
@[simp] theorem State.setJ_coreFaults (s : State) (f : JournalSt → JournalSt) :
    (State.setJ s f).coreFaults = s.coreFaults := rfl
@[simp] theorem State.setJ_outcome (s : State) (f : JournalSt → JournalSt) :
    (State.setJ s f).outcome = s.outcome := rfl
@[simp] theorem State.setJ_fresh (s : State) (f : JournalSt → JournalSt) :
    (State.setJ s f).fresh = s.fresh := rfl
@[simp] theorem State.setJ_time (s : State) (f : JournalSt → JournalSt) :
    (State.setJ s f).time = s.time := rfl
@[simp] theorem State.setJ_health (s : State) (f : JournalSt → JournalSt) :
    (State.setJ s f).health = s.health := rfl
@[simp] theorem State.setJ_zdp (s : State) (f : JournalSt → JournalSt) :
    (State.setJ s f).zdp = s.zdp := rfl
@[simp] theorem State.setJ_ports (s : State) (f : JournalSt → JournalSt) :
    (State.setJ s f).ports = s.ports := rfl
@[simp] theorem State.setJ_claims (s : State) (f : JournalSt → JournalSt) :
    (State.setJ s f).claims = s.claims := rfl
@[simp] theorem State.setJ_gate (s : State) (f : JournalSt → JournalSt) :
    (State.setJ s f).gate = s.gate := rfl
@[simp] theorem State.setJ_loop (s : State) (f : JournalSt → JournalSt) :
    (State.setJ s f).loop = s.loop := rfl
@[simp] theorem State.setJ_can (s : State) (f : JournalSt → JournalSt) :
    (State.setJ s f).can = s.can := rfl
@[simp] theorem State.setJ_safety (s : State) (f : JournalSt → JournalSt) :
    (State.setJ s f).safety = s.safety := rfl
@[simp] theorem State.setJ_hub (s : State) (f : JournalSt → JournalSt) :
    (State.setJ s f).hub = s.hub := rfl
@[simp] theorem State.setJ_fabric (s : State) (f : JournalSt → JournalSt) :
    (State.setJ s f).fabric = s.fabric := rfl
@[simp] theorem State.setJ_stages (s : State) (f : JournalSt → JournalSt) :
    (State.setJ s f).stages = s.stages := rfl
@[simp] theorem State.setJ_lauter (s : State) (f : JournalSt → JournalSt) :
    (State.setJ s f).lauter = s.lauter := rfl
@[simp] theorem State.setJ_pfu (s : State) (f : JournalSt → JournalSt) :
    (State.setJ s f).pfu = s.pfu := rfl
@[simp] theorem State.setJ_rd (s : State) (f : JournalSt → JournalSt) (f' : Field) (i' j' : Nat) :
    (State.setJ s f).rd f' i' j' = s.rd f' i' j' := rfl
@[simp] theorem State.setJ_obj (s : State) (f : JournalSt → JournalSt) (o' : ObjDef) (i' k' : Nat) :
    (State.setJ s f).obj o' i' k' = s.obj o' i' k' := rfl

/-! State.setCan -/

@[simp] theorem State.setCan_pending (s : State) (n : Nat) (f : CanSt → CanSt) :
    (State.setCan s n f).pending = s.pending := rfl
@[simp] theorem State.setCan_regs (s : State) (n : Nat) (f : CanSt → CanSt) :
    (State.setCan s n f).regs = s.regs := rfl
@[simp] theorem State.setCan_mem (s : State) (n : Nat) (f : CanSt → CanSt) :
    (State.setCan s n f).mem = s.mem := rfl
@[simp] theorem State.setCan_dict (s : State) (n : Nat) (f : CanSt → CanSt) :
    (State.setCan s n f).dict = s.dict := rfl
@[simp] theorem State.setCan_latch (s : State) (n : Nat) (f : CanSt → CanSt) :
    (State.setCan s n f).latch = s.latch := rfl
@[simp] theorem State.setCan_poisoned (s : State) (n : Nat) (f : CanSt → CanSt) :
    (State.setCan s n f).poisoned = s.poisoned := rfl
@[simp] theorem State.setCan_readData (s : State) (n : Nat) (f : CanSt → CanSt) :
    (State.setCan s n f).readData = s.readData := rfl
@[simp] theorem State.setCan_coreFaults (s : State) (n : Nat) (f : CanSt → CanSt) :
    (State.setCan s n f).coreFaults = s.coreFaults := rfl
@[simp] theorem State.setCan_outcome (s : State) (n : Nat) (f : CanSt → CanSt) :
    (State.setCan s n f).outcome = s.outcome := rfl
@[simp] theorem State.setCan_fresh (s : State) (n : Nat) (f : CanSt → CanSt) :
    (State.setCan s n f).fresh = s.fresh := rfl
@[simp] theorem State.setCan_time (s : State) (n : Nat) (f : CanSt → CanSt) :
    (State.setCan s n f).time = s.time := rfl
@[simp] theorem State.setCan_health (s : State) (n : Nat) (f : CanSt → CanSt) :
    (State.setCan s n f).health = s.health := rfl
@[simp] theorem State.setCan_zdp (s : State) (n : Nat) (f : CanSt → CanSt) :
    (State.setCan s n f).zdp = s.zdp := rfl
@[simp] theorem State.setCan_ports (s : State) (n : Nat) (f : CanSt → CanSt) :
    (State.setCan s n f).ports = s.ports := rfl
@[simp] theorem State.setCan_journal (s : State) (n : Nat) (f : CanSt → CanSt) :
    (State.setCan s n f).journal = s.journal := rfl
@[simp] theorem State.setCan_claims (s : State) (n : Nat) (f : CanSt → CanSt) :
    (State.setCan s n f).claims = s.claims := rfl
@[simp] theorem State.setCan_gate (s : State) (n : Nat) (f : CanSt → CanSt) :
    (State.setCan s n f).gate = s.gate := rfl
@[simp] theorem State.setCan_loop (s : State) (n : Nat) (f : CanSt → CanSt) :
    (State.setCan s n f).loop = s.loop := rfl
@[simp] theorem State.setCan_safety (s : State) (n : Nat) (f : CanSt → CanSt) :
    (State.setCan s n f).safety = s.safety := rfl
@[simp] theorem State.setCan_hub (s : State) (n : Nat) (f : CanSt → CanSt) :
    (State.setCan s n f).hub = s.hub := rfl
@[simp] theorem State.setCan_fabric (s : State) (n : Nat) (f : CanSt → CanSt) :
    (State.setCan s n f).fabric = s.fabric := rfl
@[simp] theorem State.setCan_stages (s : State) (n : Nat) (f : CanSt → CanSt) :
    (State.setCan s n f).stages = s.stages := rfl
@[simp] theorem State.setCan_lauter (s : State) (n : Nat) (f : CanSt → CanSt) :
    (State.setCan s n f).lauter = s.lauter := rfl
@[simp] theorem State.setCan_pfu (s : State) (n : Nat) (f : CanSt → CanSt) :
    (State.setCan s n f).pfu = s.pfu := rfl
@[simp] theorem State.setCan_rd (s : State) (n : Nat) (f : CanSt → CanSt) (f' : Field) (i' j' : Nat) :
    (State.setCan s n f).rd f' i' j' = s.rd f' i' j' := rfl
@[simp] theorem State.setCan_obj (s : State) (n : Nat) (f : CanSt → CanSt) (o' : ObjDef) (i' k' : Nat) :
    (State.setCan s n f).obj o' i' k' = s.obj o' i' k' := rfl

/-! State.canDropped -/

@[simp] theorem State.canDropped_pending (s : State) (n : Nat) :
    (State.canDropped s n).pending = s.pending := rfl
@[simp] theorem State.canDropped_regs (s : State) (n : Nat) :
    (State.canDropped s n).regs = s.regs := rfl
@[simp] theorem State.canDropped_mem (s : State) (n : Nat) :
    (State.canDropped s n).mem = s.mem := rfl
@[simp] theorem State.canDropped_dict (s : State) (n : Nat) :
    (State.canDropped s n).dict = s.dict := rfl
@[simp] theorem State.canDropped_latch (s : State) (n : Nat) :
    (State.canDropped s n).latch = s.latch := rfl
@[simp] theorem State.canDropped_poisoned (s : State) (n : Nat) :
    (State.canDropped s n).poisoned = s.poisoned := rfl
@[simp] theorem State.canDropped_readData (s : State) (n : Nat) :
    (State.canDropped s n).readData = s.readData := rfl
@[simp] theorem State.canDropped_coreFaults (s : State) (n : Nat) :
    (State.canDropped s n).coreFaults = s.coreFaults := rfl
@[simp] theorem State.canDropped_outcome (s : State) (n : Nat) :
    (State.canDropped s n).outcome = s.outcome := rfl
@[simp] theorem State.canDropped_fresh (s : State) (n : Nat) :
    (State.canDropped s n).fresh = s.fresh := rfl
@[simp] theorem State.canDropped_time (s : State) (n : Nat) :
    (State.canDropped s n).time = s.time := rfl
@[simp] theorem State.canDropped_health (s : State) (n : Nat) :
    (State.canDropped s n).health = s.health := rfl
@[simp] theorem State.canDropped_ports (s : State) (n : Nat) :
    (State.canDropped s n).ports = s.ports := rfl
@[simp] theorem State.canDropped_journal (s : State) (n : Nat) :
    (State.canDropped s n).journal = s.journal := rfl
@[simp] theorem State.canDropped_claims (s : State) (n : Nat) :
    (State.canDropped s n).claims = s.claims := rfl
@[simp] theorem State.canDropped_gate (s : State) (n : Nat) :
    (State.canDropped s n).gate = s.gate := rfl
@[simp] theorem State.canDropped_loop (s : State) (n : Nat) :
    (State.canDropped s n).loop = s.loop := rfl
@[simp] theorem State.canDropped_can (s : State) (n : Nat) :
    (State.canDropped s n).can = s.can := rfl
@[simp] theorem State.canDropped_safety (s : State) (n : Nat) :
    (State.canDropped s n).safety = s.safety := rfl
@[simp] theorem State.canDropped_hub (s : State) (n : Nat) :
    (State.canDropped s n).hub = s.hub := rfl
@[simp] theorem State.canDropped_fabric (s : State) (n : Nat) :
    (State.canDropped s n).fabric = s.fabric := rfl
@[simp] theorem State.canDropped_stages (s : State) (n : Nat) :
    (State.canDropped s n).stages = s.stages := rfl
@[simp] theorem State.canDropped_lauter (s : State) (n : Nat) :
    (State.canDropped s n).lauter = s.lauter := rfl
@[simp] theorem State.canDropped_pfu (s : State) (n : Nat) :
    (State.canDropped s n).pfu = s.pfu := rfl
@[simp] theorem State.canDropped_rd (s : State) (n : Nat) (f' : Field) (i' j' : Nat) :
    (State.canDropped s n).rd f' i' j' = s.rd f' i' j' := rfl
@[simp] theorem State.canDropped_obj (s : State) (n : Nat) (o' : ObjDef) (i' k' : Nat) :
    (State.canDropped s n).obj o' i' k' = s.obj o' i' k' := rfl

/-! State.setFabric -/

@[simp] theorem State.setFabric_pending (s : State) (f : FabricSt → FabricSt) :
    (State.setFabric s f).pending = s.pending := rfl
@[simp] theorem State.setFabric_regs (s : State) (f : FabricSt → FabricSt) :
    (State.setFabric s f).regs = s.regs := rfl
@[simp] theorem State.setFabric_mem (s : State) (f : FabricSt → FabricSt) :
    (State.setFabric s f).mem = s.mem := rfl
@[simp] theorem State.setFabric_dict (s : State) (f : FabricSt → FabricSt) :
    (State.setFabric s f).dict = s.dict := rfl
@[simp] theorem State.setFabric_latch (s : State) (f : FabricSt → FabricSt) :
    (State.setFabric s f).latch = s.latch := rfl
@[simp] theorem State.setFabric_poisoned (s : State) (f : FabricSt → FabricSt) :
    (State.setFabric s f).poisoned = s.poisoned := rfl
@[simp] theorem State.setFabric_readData (s : State) (f : FabricSt → FabricSt) :
    (State.setFabric s f).readData = s.readData := rfl
@[simp] theorem State.setFabric_coreFaults (s : State) (f : FabricSt → FabricSt) :
    (State.setFabric s f).coreFaults = s.coreFaults := rfl
@[simp] theorem State.setFabric_outcome (s : State) (f : FabricSt → FabricSt) :
    (State.setFabric s f).outcome = s.outcome := rfl
@[simp] theorem State.setFabric_fresh (s : State) (f : FabricSt → FabricSt) :
    (State.setFabric s f).fresh = s.fresh := rfl
@[simp] theorem State.setFabric_time (s : State) (f : FabricSt → FabricSt) :
    (State.setFabric s f).time = s.time := rfl
@[simp] theorem State.setFabric_health (s : State) (f : FabricSt → FabricSt) :
    (State.setFabric s f).health = s.health := rfl
@[simp] theorem State.setFabric_zdp (s : State) (f : FabricSt → FabricSt) :
    (State.setFabric s f).zdp = s.zdp := rfl
@[simp] theorem State.setFabric_ports (s : State) (f : FabricSt → FabricSt) :
    (State.setFabric s f).ports = s.ports := rfl
@[simp] theorem State.setFabric_journal (s : State) (f : FabricSt → FabricSt) :
    (State.setFabric s f).journal = s.journal := rfl
@[simp] theorem State.setFabric_claims (s : State) (f : FabricSt → FabricSt) :
    (State.setFabric s f).claims = s.claims := rfl
@[simp] theorem State.setFabric_gate (s : State) (f : FabricSt → FabricSt) :
    (State.setFabric s f).gate = s.gate := rfl
@[simp] theorem State.setFabric_loop (s : State) (f : FabricSt → FabricSt) :
    (State.setFabric s f).loop = s.loop := rfl
@[simp] theorem State.setFabric_can (s : State) (f : FabricSt → FabricSt) :
    (State.setFabric s f).can = s.can := rfl
@[simp] theorem State.setFabric_safety (s : State) (f : FabricSt → FabricSt) :
    (State.setFabric s f).safety = s.safety := rfl
@[simp] theorem State.setFabric_hub (s : State) (f : FabricSt → FabricSt) :
    (State.setFabric s f).hub = s.hub := rfl
@[simp] theorem State.setFabric_stages (s : State) (f : FabricSt → FabricSt) :
    (State.setFabric s f).stages = s.stages := rfl
@[simp] theorem State.setFabric_lauter (s : State) (f : FabricSt → FabricSt) :
    (State.setFabric s f).lauter = s.lauter := rfl
@[simp] theorem State.setFabric_pfu (s : State) (f : FabricSt → FabricSt) :
    (State.setFabric s f).pfu = s.pfu := rfl
@[simp] theorem State.setFabric_rd (s : State) (f : FabricSt → FabricSt) (f' : Field) (i' j' : Nat) :
    (State.setFabric s f).rd f' i' j' = s.rd f' i' j' := rfl
@[simp] theorem State.setFabric_obj (s : State) (f : FabricSt → FabricSt) (o' : ObjDef) (i' k' : Nat) :
    (State.setFabric s f).obj o' i' k' = s.obj o' i' k' := rfl

/-! State.setGauge -/

@[simp] theorem State.setGauge_pending (s : State) (f : GaugeSt → GaugeSt) :
    (State.setGauge s f).pending = s.pending := rfl
@[simp] theorem State.setGauge_regs (s : State) (f : GaugeSt → GaugeSt) :
    (State.setGauge s f).regs = s.regs := rfl
@[simp] theorem State.setGauge_mem (s : State) (f : GaugeSt → GaugeSt) :
    (State.setGauge s f).mem = s.mem := rfl
@[simp] theorem State.setGauge_dict (s : State) (f : GaugeSt → GaugeSt) :
    (State.setGauge s f).dict = s.dict := rfl
@[simp] theorem State.setGauge_latch (s : State) (f : GaugeSt → GaugeSt) :
    (State.setGauge s f).latch = s.latch := rfl
@[simp] theorem State.setGauge_poisoned (s : State) (f : GaugeSt → GaugeSt) :
    (State.setGauge s f).poisoned = s.poisoned := rfl
@[simp] theorem State.setGauge_readData (s : State) (f : GaugeSt → GaugeSt) :
    (State.setGauge s f).readData = s.readData := rfl
@[simp] theorem State.setGauge_coreFaults (s : State) (f : GaugeSt → GaugeSt) :
    (State.setGauge s f).coreFaults = s.coreFaults := rfl
@[simp] theorem State.setGauge_outcome (s : State) (f : GaugeSt → GaugeSt) :
    (State.setGauge s f).outcome = s.outcome := rfl
@[simp] theorem State.setGauge_fresh (s : State) (f : GaugeSt → GaugeSt) :
    (State.setGauge s f).fresh = s.fresh := rfl
@[simp] theorem State.setGauge_time (s : State) (f : GaugeSt → GaugeSt) :
    (State.setGauge s f).time = s.time := rfl
@[simp] theorem State.setGauge_health (s : State) (f : GaugeSt → GaugeSt) :
    (State.setGauge s f).health = s.health := rfl
@[simp] theorem State.setGauge_zdp (s : State) (f : GaugeSt → GaugeSt) :
    (State.setGauge s f).zdp = s.zdp := rfl
@[simp] theorem State.setGauge_ports (s : State) (f : GaugeSt → GaugeSt) :
    (State.setGauge s f).ports = s.ports := rfl
@[simp] theorem State.setGauge_journal (s : State) (f : GaugeSt → GaugeSt) :
    (State.setGauge s f).journal = s.journal := rfl
@[simp] theorem State.setGauge_claims (s : State) (f : GaugeSt → GaugeSt) :
    (State.setGauge s f).claims = s.claims := rfl
@[simp] theorem State.setGauge_gate (s : State) (f : GaugeSt → GaugeSt) :
    (State.setGauge s f).gate = s.gate := rfl
@[simp] theorem State.setGauge_loop (s : State) (f : GaugeSt → GaugeSt) :
    (State.setGauge s f).loop = s.loop := rfl
@[simp] theorem State.setGauge_can (s : State) (f : GaugeSt → GaugeSt) :
    (State.setGauge s f).can = s.can := rfl
@[simp] theorem State.setGauge_safety (s : State) (f : GaugeSt → GaugeSt) :
    (State.setGauge s f).safety = s.safety := rfl
@[simp] theorem State.setGauge_hub (s : State) (f : GaugeSt → GaugeSt) :
    (State.setGauge s f).hub = s.hub := rfl
@[simp] theorem State.setGauge_stages (s : State) (f : GaugeSt → GaugeSt) :
    (State.setGauge s f).stages = s.stages := rfl
@[simp] theorem State.setGauge_lauter (s : State) (f : GaugeSt → GaugeSt) :
    (State.setGauge s f).lauter = s.lauter := rfl
@[simp] theorem State.setGauge_pfu (s : State) (f : GaugeSt → GaugeSt) :
    (State.setGauge s f).pfu = s.pfu := rfl
@[simp] theorem State.setGauge_rd (s : State) (f : GaugeSt → GaugeSt) (f' : Field) (i' j' : Nat) :
    (State.setGauge s f).rd f' i' j' = s.rd f' i' j' := rfl
@[simp] theorem State.setGauge_obj (s : State) (f : GaugeSt → GaugeSt) (o' : ObjDef) (i' k' : Nat) :
    (State.setGauge s f).obj o' i' k' = s.obj o' i' k' := rfl

/-! State.setGtile -/

@[simp] theorem State.setGtile_pending (s : State) (n : Nat) (f : GaugeTile → GaugeTile) :
    (State.setGtile s n f).pending = s.pending := rfl
@[simp] theorem State.setGtile_regs (s : State) (n : Nat) (f : GaugeTile → GaugeTile) :
    (State.setGtile s n f).regs = s.regs := rfl
@[simp] theorem State.setGtile_mem (s : State) (n : Nat) (f : GaugeTile → GaugeTile) :
    (State.setGtile s n f).mem = s.mem := rfl
@[simp] theorem State.setGtile_dict (s : State) (n : Nat) (f : GaugeTile → GaugeTile) :
    (State.setGtile s n f).dict = s.dict := rfl
@[simp] theorem State.setGtile_latch (s : State) (n : Nat) (f : GaugeTile → GaugeTile) :
    (State.setGtile s n f).latch = s.latch := rfl
@[simp] theorem State.setGtile_poisoned (s : State) (n : Nat) (f : GaugeTile → GaugeTile) :
    (State.setGtile s n f).poisoned = s.poisoned := rfl
@[simp] theorem State.setGtile_readData (s : State) (n : Nat) (f : GaugeTile → GaugeTile) :
    (State.setGtile s n f).readData = s.readData := rfl
@[simp] theorem State.setGtile_coreFaults (s : State) (n : Nat) (f : GaugeTile → GaugeTile) :
    (State.setGtile s n f).coreFaults = s.coreFaults := rfl
@[simp] theorem State.setGtile_outcome (s : State) (n : Nat) (f : GaugeTile → GaugeTile) :
    (State.setGtile s n f).outcome = s.outcome := rfl
@[simp] theorem State.setGtile_fresh (s : State) (n : Nat) (f : GaugeTile → GaugeTile) :
    (State.setGtile s n f).fresh = s.fresh := rfl
@[simp] theorem State.setGtile_time (s : State) (n : Nat) (f : GaugeTile → GaugeTile) :
    (State.setGtile s n f).time = s.time := rfl
@[simp] theorem State.setGtile_health (s : State) (n : Nat) (f : GaugeTile → GaugeTile) :
    (State.setGtile s n f).health = s.health := rfl
@[simp] theorem State.setGtile_zdp (s : State) (n : Nat) (f : GaugeTile → GaugeTile) :
    (State.setGtile s n f).zdp = s.zdp := rfl
@[simp] theorem State.setGtile_ports (s : State) (n : Nat) (f : GaugeTile → GaugeTile) :
    (State.setGtile s n f).ports = s.ports := rfl
@[simp] theorem State.setGtile_journal (s : State) (n : Nat) (f : GaugeTile → GaugeTile) :
    (State.setGtile s n f).journal = s.journal := rfl
@[simp] theorem State.setGtile_claims (s : State) (n : Nat) (f : GaugeTile → GaugeTile) :
    (State.setGtile s n f).claims = s.claims := rfl
@[simp] theorem State.setGtile_gate (s : State) (n : Nat) (f : GaugeTile → GaugeTile) :
    (State.setGtile s n f).gate = s.gate := rfl
@[simp] theorem State.setGtile_loop (s : State) (n : Nat) (f : GaugeTile → GaugeTile) :
    (State.setGtile s n f).loop = s.loop := rfl
@[simp] theorem State.setGtile_can (s : State) (n : Nat) (f : GaugeTile → GaugeTile) :
    (State.setGtile s n f).can = s.can := rfl
@[simp] theorem State.setGtile_safety (s : State) (n : Nat) (f : GaugeTile → GaugeTile) :
    (State.setGtile s n f).safety = s.safety := rfl
@[simp] theorem State.setGtile_hub (s : State) (n : Nat) (f : GaugeTile → GaugeTile) :
    (State.setGtile s n f).hub = s.hub := rfl
@[simp] theorem State.setGtile_stages (s : State) (n : Nat) (f : GaugeTile → GaugeTile) :
    (State.setGtile s n f).stages = s.stages := rfl
@[simp] theorem State.setGtile_lauter (s : State) (n : Nat) (f : GaugeTile → GaugeTile) :
    (State.setGtile s n f).lauter = s.lauter := rfl
@[simp] theorem State.setGtile_pfu (s : State) (n : Nat) (f : GaugeTile → GaugeTile) :
    (State.setGtile s n f).pfu = s.pfu := rfl
@[simp] theorem State.setGtile_rd (s : State) (n : Nat) (f : GaugeTile → GaugeTile) (f' : Field) (i' j' : Nat) :
    (State.setGtile s n f).rd f' i' j' = s.rd f' i' j' := rfl
@[simp] theorem State.setGtile_obj (s : State) (n : Nat) (f : GaugeTile → GaugeTile) (o' : ObjDef) (i' k' : Nat) :
    (State.setGtile s n f).obj o' i' k' = s.obj o' i' k' := rfl

/-! State.setTile -/

@[simp] theorem State.setTile_pending (s : State) (n : Nat) (f : TileSt → TileSt) :
    (State.setTile s n f).pending = s.pending := rfl
@[simp] theorem State.setTile_regs (s : State) (n : Nat) (f : TileSt → TileSt) :
    (State.setTile s n f).regs = s.regs := rfl
@[simp] theorem State.setTile_mem (s : State) (n : Nat) (f : TileSt → TileSt) :
    (State.setTile s n f).mem = s.mem := rfl
@[simp] theorem State.setTile_dict (s : State) (n : Nat) (f : TileSt → TileSt) :
    (State.setTile s n f).dict = s.dict := rfl
@[simp] theorem State.setTile_latch (s : State) (n : Nat) (f : TileSt → TileSt) :
    (State.setTile s n f).latch = s.latch := rfl
@[simp] theorem State.setTile_poisoned (s : State) (n : Nat) (f : TileSt → TileSt) :
    (State.setTile s n f).poisoned = s.poisoned := rfl
@[simp] theorem State.setTile_readData (s : State) (n : Nat) (f : TileSt → TileSt) :
    (State.setTile s n f).readData = s.readData := rfl
@[simp] theorem State.setTile_coreFaults (s : State) (n : Nat) (f : TileSt → TileSt) :
    (State.setTile s n f).coreFaults = s.coreFaults := rfl
@[simp] theorem State.setTile_outcome (s : State) (n : Nat) (f : TileSt → TileSt) :
    (State.setTile s n f).outcome = s.outcome := rfl
@[simp] theorem State.setTile_fresh (s : State) (n : Nat) (f : TileSt → TileSt) :
    (State.setTile s n f).fresh = s.fresh := rfl
@[simp] theorem State.setTile_time (s : State) (n : Nat) (f : TileSt → TileSt) :
    (State.setTile s n f).time = s.time := rfl
@[simp] theorem State.setTile_health (s : State) (n : Nat) (f : TileSt → TileSt) :
    (State.setTile s n f).health = s.health := rfl
@[simp] theorem State.setTile_zdp (s : State) (n : Nat) (f : TileSt → TileSt) :
    (State.setTile s n f).zdp = s.zdp := rfl
@[simp] theorem State.setTile_ports (s : State) (n : Nat) (f : TileSt → TileSt) :
    (State.setTile s n f).ports = s.ports := rfl
@[simp] theorem State.setTile_journal (s : State) (n : Nat) (f : TileSt → TileSt) :
    (State.setTile s n f).journal = s.journal := rfl
@[simp] theorem State.setTile_claims (s : State) (n : Nat) (f : TileSt → TileSt) :
    (State.setTile s n f).claims = s.claims := rfl
@[simp] theorem State.setTile_gate (s : State) (n : Nat) (f : TileSt → TileSt) :
    (State.setTile s n f).gate = s.gate := rfl
@[simp] theorem State.setTile_loop (s : State) (n : Nat) (f : TileSt → TileSt) :
    (State.setTile s n f).loop = s.loop := rfl
@[simp] theorem State.setTile_can (s : State) (n : Nat) (f : TileSt → TileSt) :
    (State.setTile s n f).can = s.can := rfl
@[simp] theorem State.setTile_safety (s : State) (n : Nat) (f : TileSt → TileSt) :
    (State.setTile s n f).safety = s.safety := rfl
@[simp] theorem State.setTile_hub (s : State) (n : Nat) (f : TileSt → TileSt) :
    (State.setTile s n f).hub = s.hub := rfl
@[simp] theorem State.setTile_stages (s : State) (n : Nat) (f : TileSt → TileSt) :
    (State.setTile s n f).stages = s.stages := rfl
@[simp] theorem State.setTile_lauter (s : State) (n : Nat) (f : TileSt → TileSt) :
    (State.setTile s n f).lauter = s.lauter := rfl
@[simp] theorem State.setTile_pfu (s : State) (n : Nat) (f : TileSt → TileSt) :
    (State.setTile s n f).pfu = s.pfu := rfl
@[simp] theorem State.setTile_rd (s : State) (n : Nat) (f : TileSt → TileSt) (f' : Field) (i' j' : Nat) :
    (State.setTile s n f).rd f' i' j' = s.rd f' i' j' := rfl
@[simp] theorem State.setTile_obj (s : State) (n : Nat) (f : TileSt → TileSt) (o' : ObjDef) (i' k' : Nat) :
    (State.setTile s n f).obj o' i' k' = s.obj o' i' k' := rfl

/-! State.setGrist -/

@[simp] theorem State.setGrist_pending (s : State) (f : GristSt → GristSt) :
    (State.setGrist s f).pending = s.pending := rfl
@[simp] theorem State.setGrist_regs (s : State) (f : GristSt → GristSt) :
    (State.setGrist s f).regs = s.regs := rfl
@[simp] theorem State.setGrist_mem (s : State) (f : GristSt → GristSt) :
    (State.setGrist s f).mem = s.mem := rfl
@[simp] theorem State.setGrist_dict (s : State) (f : GristSt → GristSt) :
    (State.setGrist s f).dict = s.dict := rfl
@[simp] theorem State.setGrist_latch (s : State) (f : GristSt → GristSt) :
    (State.setGrist s f).latch = s.latch := rfl
@[simp] theorem State.setGrist_poisoned (s : State) (f : GristSt → GristSt) :
    (State.setGrist s f).poisoned = s.poisoned := rfl
@[simp] theorem State.setGrist_readData (s : State) (f : GristSt → GristSt) :
    (State.setGrist s f).readData = s.readData := rfl
@[simp] theorem State.setGrist_coreFaults (s : State) (f : GristSt → GristSt) :
    (State.setGrist s f).coreFaults = s.coreFaults := rfl
@[simp] theorem State.setGrist_outcome (s : State) (f : GristSt → GristSt) :
    (State.setGrist s f).outcome = s.outcome := rfl
@[simp] theorem State.setGrist_fresh (s : State) (f : GristSt → GristSt) :
    (State.setGrist s f).fresh = s.fresh := rfl
@[simp] theorem State.setGrist_time (s : State) (f : GristSt → GristSt) :
    (State.setGrist s f).time = s.time := rfl
@[simp] theorem State.setGrist_health (s : State) (f : GristSt → GristSt) :
    (State.setGrist s f).health = s.health := rfl
@[simp] theorem State.setGrist_zdp (s : State) (f : GristSt → GristSt) :
    (State.setGrist s f).zdp = s.zdp := rfl
@[simp] theorem State.setGrist_ports (s : State) (f : GristSt → GristSt) :
    (State.setGrist s f).ports = s.ports := rfl
@[simp] theorem State.setGrist_journal (s : State) (f : GristSt → GristSt) :
    (State.setGrist s f).journal = s.journal := rfl
@[simp] theorem State.setGrist_claims (s : State) (f : GristSt → GristSt) :
    (State.setGrist s f).claims = s.claims := rfl
@[simp] theorem State.setGrist_gate (s : State) (f : GristSt → GristSt) :
    (State.setGrist s f).gate = s.gate := rfl
@[simp] theorem State.setGrist_loop (s : State) (f : GristSt → GristSt) :
    (State.setGrist s f).loop = s.loop := rfl
@[simp] theorem State.setGrist_can (s : State) (f : GristSt → GristSt) :
    (State.setGrist s f).can = s.can := rfl
@[simp] theorem State.setGrist_safety (s : State) (f : GristSt → GristSt) :
    (State.setGrist s f).safety = s.safety := rfl
@[simp] theorem State.setGrist_hub (s : State) (f : GristSt → GristSt) :
    (State.setGrist s f).hub = s.hub := rfl
@[simp] theorem State.setGrist_stages (s : State) (f : GristSt → GristSt) :
    (State.setGrist s f).stages = s.stages := rfl
@[simp] theorem State.setGrist_lauter (s : State) (f : GristSt → GristSt) :
    (State.setGrist s f).lauter = s.lauter := rfl
@[simp] theorem State.setGrist_pfu (s : State) (f : GristSt → GristSt) :
    (State.setGrist s f).pfu = s.pfu := rfl
@[simp] theorem State.setGrist_rd (s : State) (f : GristSt → GristSt) (f' : Field) (i' j' : Nat) :
    (State.setGrist s f).rd f' i' j' = s.rd f' i' j' := rfl
@[simp] theorem State.setGrist_obj (s : State) (f : GristSt → GristSt) (o' : ObjDef) (i' k' : Nat) :
    (State.setGrist s f).obj o' i' k' = s.obj o' i' k' := rfl

/-! State.setStages -/

@[simp] theorem State.setStages_pending (s : State) (f : StageFw → StageFw) :
    (State.setStages s f).pending = s.pending := rfl
@[simp] theorem State.setStages_regs (s : State) (f : StageFw → StageFw) :
    (State.setStages s f).regs = s.regs := rfl
@[simp] theorem State.setStages_mem (s : State) (f : StageFw → StageFw) :
    (State.setStages s f).mem = s.mem := rfl
@[simp] theorem State.setStages_dict (s : State) (f : StageFw → StageFw) :
    (State.setStages s f).dict = s.dict := rfl
@[simp] theorem State.setStages_latch (s : State) (f : StageFw → StageFw) :
    (State.setStages s f).latch = s.latch := rfl
@[simp] theorem State.setStages_poisoned (s : State) (f : StageFw → StageFw) :
    (State.setStages s f).poisoned = s.poisoned := rfl
@[simp] theorem State.setStages_readData (s : State) (f : StageFw → StageFw) :
    (State.setStages s f).readData = s.readData := rfl
@[simp] theorem State.setStages_coreFaults (s : State) (f : StageFw → StageFw) :
    (State.setStages s f).coreFaults = s.coreFaults := rfl
@[simp] theorem State.setStages_outcome (s : State) (f : StageFw → StageFw) :
    (State.setStages s f).outcome = s.outcome := rfl
@[simp] theorem State.setStages_fresh (s : State) (f : StageFw → StageFw) :
    (State.setStages s f).fresh = s.fresh := rfl
@[simp] theorem State.setStages_time (s : State) (f : StageFw → StageFw) :
    (State.setStages s f).time = s.time := rfl
@[simp] theorem State.setStages_health (s : State) (f : StageFw → StageFw) :
    (State.setStages s f).health = s.health := rfl
@[simp] theorem State.setStages_zdp (s : State) (f : StageFw → StageFw) :
    (State.setStages s f).zdp = s.zdp := rfl
@[simp] theorem State.setStages_ports (s : State) (f : StageFw → StageFw) :
    (State.setStages s f).ports = s.ports := rfl
@[simp] theorem State.setStages_journal (s : State) (f : StageFw → StageFw) :
    (State.setStages s f).journal = s.journal := rfl
@[simp] theorem State.setStages_claims (s : State) (f : StageFw → StageFw) :
    (State.setStages s f).claims = s.claims := rfl
@[simp] theorem State.setStages_gate (s : State) (f : StageFw → StageFw) :
    (State.setStages s f).gate = s.gate := rfl
@[simp] theorem State.setStages_loop (s : State) (f : StageFw → StageFw) :
    (State.setStages s f).loop = s.loop := rfl
@[simp] theorem State.setStages_can (s : State) (f : StageFw → StageFw) :
    (State.setStages s f).can = s.can := rfl
@[simp] theorem State.setStages_safety (s : State) (f : StageFw → StageFw) :
    (State.setStages s f).safety = s.safety := rfl
@[simp] theorem State.setStages_hub (s : State) (f : StageFw → StageFw) :
    (State.setStages s f).hub = s.hub := rfl
@[simp] theorem State.setStages_fabric (s : State) (f : StageFw → StageFw) :
    (State.setStages s f).fabric = s.fabric := rfl
@[simp] theorem State.setStages_lauter (s : State) (f : StageFw → StageFw) :
    (State.setStages s f).lauter = s.lauter := rfl
@[simp] theorem State.setStages_pfu (s : State) (f : StageFw → StageFw) :
    (State.setStages s f).pfu = s.pfu := rfl
@[simp] theorem State.setStages_rd (s : State) (f : StageFw → StageFw) (f' : Field) (i' j' : Nat) :
    (State.setStages s f).rd f' i' j' = s.rd f' i' j' := rfl
@[simp] theorem State.setStages_obj (s : State) (f : StageFw → StageFw) (o' : ObjDef) (i' k' : Nat) :
    (State.setStages s f).obj o' i' k' = s.obj o' i' k' := rfl

/-! State.setServo -/

@[simp] theorem State.setServo_pending (s : State) (n : Nat) (f : Servo → Servo) :
    (State.setServo s n f).pending = s.pending := rfl
@[simp] theorem State.setServo_regs (s : State) (n : Nat) (f : Servo → Servo) :
    (State.setServo s n f).regs = s.regs := rfl
@[simp] theorem State.setServo_mem (s : State) (n : Nat) (f : Servo → Servo) :
    (State.setServo s n f).mem = s.mem := rfl
@[simp] theorem State.setServo_dict (s : State) (n : Nat) (f : Servo → Servo) :
    (State.setServo s n f).dict = s.dict := rfl
@[simp] theorem State.setServo_latch (s : State) (n : Nat) (f : Servo → Servo) :
    (State.setServo s n f).latch = s.latch := rfl
@[simp] theorem State.setServo_poisoned (s : State) (n : Nat) (f : Servo → Servo) :
    (State.setServo s n f).poisoned = s.poisoned := rfl
@[simp] theorem State.setServo_readData (s : State) (n : Nat) (f : Servo → Servo) :
    (State.setServo s n f).readData = s.readData := rfl
@[simp] theorem State.setServo_coreFaults (s : State) (n : Nat) (f : Servo → Servo) :
    (State.setServo s n f).coreFaults = s.coreFaults := rfl
@[simp] theorem State.setServo_outcome (s : State) (n : Nat) (f : Servo → Servo) :
    (State.setServo s n f).outcome = s.outcome := rfl
@[simp] theorem State.setServo_fresh (s : State) (n : Nat) (f : Servo → Servo) :
    (State.setServo s n f).fresh = s.fresh := rfl
@[simp] theorem State.setServo_health (s : State) (n : Nat) (f : Servo → Servo) :
    (State.setServo s n f).health = s.health := rfl
@[simp] theorem State.setServo_zdp (s : State) (n : Nat) (f : Servo → Servo) :
    (State.setServo s n f).zdp = s.zdp := rfl
@[simp] theorem State.setServo_ports (s : State) (n : Nat) (f : Servo → Servo) :
    (State.setServo s n f).ports = s.ports := rfl
@[simp] theorem State.setServo_journal (s : State) (n : Nat) (f : Servo → Servo) :
    (State.setServo s n f).journal = s.journal := rfl
@[simp] theorem State.setServo_claims (s : State) (n : Nat) (f : Servo → Servo) :
    (State.setServo s n f).claims = s.claims := rfl
@[simp] theorem State.setServo_gate (s : State) (n : Nat) (f : Servo → Servo) :
    (State.setServo s n f).gate = s.gate := rfl
@[simp] theorem State.setServo_loop (s : State) (n : Nat) (f : Servo → Servo) :
    (State.setServo s n f).loop = s.loop := rfl
@[simp] theorem State.setServo_can (s : State) (n : Nat) (f : Servo → Servo) :
    (State.setServo s n f).can = s.can := rfl
@[simp] theorem State.setServo_safety (s : State) (n : Nat) (f : Servo → Servo) :
    (State.setServo s n f).safety = s.safety := rfl
@[simp] theorem State.setServo_hub (s : State) (n : Nat) (f : Servo → Servo) :
    (State.setServo s n f).hub = s.hub := rfl
@[simp] theorem State.setServo_fabric (s : State) (n : Nat) (f : Servo → Servo) :
    (State.setServo s n f).fabric = s.fabric := rfl
@[simp] theorem State.setServo_stages (s : State) (n : Nat) (f : Servo → Servo) :
    (State.setServo s n f).stages = s.stages := rfl
@[simp] theorem State.setServo_lauter (s : State) (n : Nat) (f : Servo → Servo) :
    (State.setServo s n f).lauter = s.lauter := rfl
@[simp] theorem State.setServo_pfu (s : State) (n : Nat) (f : Servo → Servo) :
    (State.setServo s n f).pfu = s.pfu := rfl
@[simp] theorem State.setServo_rd (s : State) (n : Nat) (f : Servo → Servo) (f' : Field) (i' j' : Nat) :
    (State.setServo s n f).rd f' i' j' = s.rd f' i' j' := rfl
@[simp] theorem State.setServo_obj (s : State) (n : Nat) (f : Servo → Servo) (o' : ObjDef) (i' k' : Nat) :
    (State.setServo s n f).obj o' i' k' = s.obj o' i' k' := rfl

/-! State.setPtp -/

@[simp] theorem State.setPtp_pending (s : State) (i : Nat) (f : PtpInstance → PtpInstance) :
    (State.setPtp s i f).pending = s.pending := rfl
@[simp] theorem State.setPtp_regs (s : State) (i : Nat) (f : PtpInstance → PtpInstance) :
    (State.setPtp s i f).regs = s.regs := rfl
@[simp] theorem State.setPtp_mem (s : State) (i : Nat) (f : PtpInstance → PtpInstance) :
    (State.setPtp s i f).mem = s.mem := rfl
@[simp] theorem State.setPtp_dict (s : State) (i : Nat) (f : PtpInstance → PtpInstance) :
    (State.setPtp s i f).dict = s.dict := rfl
@[simp] theorem State.setPtp_latch (s : State) (i : Nat) (f : PtpInstance → PtpInstance) :
    (State.setPtp s i f).latch = s.latch := rfl
@[simp] theorem State.setPtp_poisoned (s : State) (i : Nat) (f : PtpInstance → PtpInstance) :
    (State.setPtp s i f).poisoned = s.poisoned := rfl
@[simp] theorem State.setPtp_readData (s : State) (i : Nat) (f : PtpInstance → PtpInstance) :
    (State.setPtp s i f).readData = s.readData := rfl
@[simp] theorem State.setPtp_coreFaults (s : State) (i : Nat) (f : PtpInstance → PtpInstance) :
    (State.setPtp s i f).coreFaults = s.coreFaults := rfl
@[simp] theorem State.setPtp_outcome (s : State) (i : Nat) (f : PtpInstance → PtpInstance) :
    (State.setPtp s i f).outcome = s.outcome := rfl
@[simp] theorem State.setPtp_fresh (s : State) (i : Nat) (f : PtpInstance → PtpInstance) :
    (State.setPtp s i f).fresh = s.fresh := rfl
@[simp] theorem State.setPtp_health (s : State) (i : Nat) (f : PtpInstance → PtpInstance) :
    (State.setPtp s i f).health = s.health := rfl
@[simp] theorem State.setPtp_zdp (s : State) (i : Nat) (f : PtpInstance → PtpInstance) :
    (State.setPtp s i f).zdp = s.zdp := rfl
@[simp] theorem State.setPtp_ports (s : State) (i : Nat) (f : PtpInstance → PtpInstance) :
    (State.setPtp s i f).ports = s.ports := rfl
@[simp] theorem State.setPtp_journal (s : State) (i : Nat) (f : PtpInstance → PtpInstance) :
    (State.setPtp s i f).journal = s.journal := rfl
@[simp] theorem State.setPtp_claims (s : State) (i : Nat) (f : PtpInstance → PtpInstance) :
    (State.setPtp s i f).claims = s.claims := rfl
@[simp] theorem State.setPtp_gate (s : State) (i : Nat) (f : PtpInstance → PtpInstance) :
    (State.setPtp s i f).gate = s.gate := rfl
@[simp] theorem State.setPtp_loop (s : State) (i : Nat) (f : PtpInstance → PtpInstance) :
    (State.setPtp s i f).loop = s.loop := rfl
@[simp] theorem State.setPtp_can (s : State) (i : Nat) (f : PtpInstance → PtpInstance) :
    (State.setPtp s i f).can = s.can := rfl
@[simp] theorem State.setPtp_safety (s : State) (i : Nat) (f : PtpInstance → PtpInstance) :
    (State.setPtp s i f).safety = s.safety := rfl
@[simp] theorem State.setPtp_hub (s : State) (i : Nat) (f : PtpInstance → PtpInstance) :
    (State.setPtp s i f).hub = s.hub := rfl
@[simp] theorem State.setPtp_fabric (s : State) (i : Nat) (f : PtpInstance → PtpInstance) :
    (State.setPtp s i f).fabric = s.fabric := rfl
@[simp] theorem State.setPtp_stages (s : State) (i : Nat) (f : PtpInstance → PtpInstance) :
    (State.setPtp s i f).stages = s.stages := rfl
@[simp] theorem State.setPtp_lauter (s : State) (i : Nat) (f : PtpInstance → PtpInstance) :
    (State.setPtp s i f).lauter = s.lauter := rfl
@[simp] theorem State.setPtp_pfu (s : State) (i : Nat) (f : PtpInstance → PtpInstance) :
    (State.setPtp s i f).pfu = s.pfu := rfl
@[simp] theorem State.setPtp_rd (s : State) (i : Nat) (f : PtpInstance → PtpInstance) (f' : Field) (i' j' : Nat) :
    (State.setPtp s i f).rd f' i' j' = s.rd f' i' j' := rfl
@[simp] theorem State.setPtp_obj (s : State) (i : Nat) (f : PtpInstance → PtpInstance) (o' : ObjDef) (i' k' : Nat) :
    (State.setPtp s i f).obj o' i' k' = s.obj o' i' k' := rfl

/-! State.ptpPush -/

@[simp] theorem State.ptpPush_pending (s : State) (i port : Nat) (kind : PtpKind) (seq : Nat) (origin : Int) :
    (State.ptpPush s i port kind seq origin).pending = s.pending := rfl
@[simp] theorem State.ptpPush_regs (s : State) (i port : Nat) (kind : PtpKind) (seq : Nat) (origin : Int) :
    (State.ptpPush s i port kind seq origin).regs = s.regs := rfl
@[simp] theorem State.ptpPush_mem (s : State) (i port : Nat) (kind : PtpKind) (seq : Nat) (origin : Int) :
    (State.ptpPush s i port kind seq origin).mem = s.mem := rfl
@[simp] theorem State.ptpPush_dict (s : State) (i port : Nat) (kind : PtpKind) (seq : Nat) (origin : Int) :
    (State.ptpPush s i port kind seq origin).dict = s.dict := rfl
@[simp] theorem State.ptpPush_latch (s : State) (i port : Nat) (kind : PtpKind) (seq : Nat) (origin : Int) :
    (State.ptpPush s i port kind seq origin).latch = s.latch := rfl
@[simp] theorem State.ptpPush_poisoned (s : State) (i port : Nat) (kind : PtpKind) (seq : Nat) (origin : Int) :
    (State.ptpPush s i port kind seq origin).poisoned = s.poisoned := rfl
@[simp] theorem State.ptpPush_readData (s : State) (i port : Nat) (kind : PtpKind) (seq : Nat) (origin : Int) :
    (State.ptpPush s i port kind seq origin).readData = s.readData := rfl
@[simp] theorem State.ptpPush_coreFaults (s : State) (i port : Nat) (kind : PtpKind) (seq : Nat) (origin : Int) :
    (State.ptpPush s i port kind seq origin).coreFaults = s.coreFaults := rfl
@[simp] theorem State.ptpPush_outcome (s : State) (i port : Nat) (kind : PtpKind) (seq : Nat) (origin : Int) :
    (State.ptpPush s i port kind seq origin).outcome = s.outcome := rfl
@[simp] theorem State.ptpPush_fresh (s : State) (i port : Nat) (kind : PtpKind) (seq : Nat) (origin : Int) :
    (State.ptpPush s i port kind seq origin).fresh = s.fresh := rfl
@[simp] theorem State.ptpPush_health (s : State) (i port : Nat) (kind : PtpKind) (seq : Nat) (origin : Int) :
    (State.ptpPush s i port kind seq origin).health = s.health := rfl
@[simp] theorem State.ptpPush_zdp (s : State) (i port : Nat) (kind : PtpKind) (seq : Nat) (origin : Int) :
    (State.ptpPush s i port kind seq origin).zdp = s.zdp := rfl
@[simp] theorem State.ptpPush_ports (s : State) (i port : Nat) (kind : PtpKind) (seq : Nat) (origin : Int) :
    (State.ptpPush s i port kind seq origin).ports = s.ports := rfl
@[simp] theorem State.ptpPush_journal (s : State) (i port : Nat) (kind : PtpKind) (seq : Nat) (origin : Int) :
    (State.ptpPush s i port kind seq origin).journal = s.journal := rfl
@[simp] theorem State.ptpPush_claims (s : State) (i port : Nat) (kind : PtpKind) (seq : Nat) (origin : Int) :
    (State.ptpPush s i port kind seq origin).claims = s.claims := rfl
@[simp] theorem State.ptpPush_gate (s : State) (i port : Nat) (kind : PtpKind) (seq : Nat) (origin : Int) :
    (State.ptpPush s i port kind seq origin).gate = s.gate := rfl
@[simp] theorem State.ptpPush_loop (s : State) (i port : Nat) (kind : PtpKind) (seq : Nat) (origin : Int) :
    (State.ptpPush s i port kind seq origin).loop = s.loop := rfl
@[simp] theorem State.ptpPush_can (s : State) (i port : Nat) (kind : PtpKind) (seq : Nat) (origin : Int) :
    (State.ptpPush s i port kind seq origin).can = s.can := rfl
@[simp] theorem State.ptpPush_safety (s : State) (i port : Nat) (kind : PtpKind) (seq : Nat) (origin : Int) :
    (State.ptpPush s i port kind seq origin).safety = s.safety := rfl
@[simp] theorem State.ptpPush_hub (s : State) (i port : Nat) (kind : PtpKind) (seq : Nat) (origin : Int) :
    (State.ptpPush s i port kind seq origin).hub = s.hub := rfl
@[simp] theorem State.ptpPush_fabric (s : State) (i port : Nat) (kind : PtpKind) (seq : Nat) (origin : Int) :
    (State.ptpPush s i port kind seq origin).fabric = s.fabric := rfl
@[simp] theorem State.ptpPush_stages (s : State) (i port : Nat) (kind : PtpKind) (seq : Nat) (origin : Int) :
    (State.ptpPush s i port kind seq origin).stages = s.stages := rfl
@[simp] theorem State.ptpPush_lauter (s : State) (i port : Nat) (kind : PtpKind) (seq : Nat) (origin : Int) :
    (State.ptpPush s i port kind seq origin).lauter = s.lauter := rfl
@[simp] theorem State.ptpPush_pfu (s : State) (i port : Nat) (kind : PtpKind) (seq : Nat) (origin : Int) :
    (State.ptpPush s i port kind seq origin).pfu = s.pfu := rfl
@[simp] theorem State.ptpPush_rd (s : State) (i port : Nat) (kind : PtpKind) (seq : Nat) (origin : Int) (f' : Field) (i' j' : Nat) :
    (State.ptpPush s i port kind seq origin).rd f' i' j' = s.rd f' i' j' := rfl
@[simp] theorem State.ptpPush_obj (s : State) (i port : Nat) (kind : PtpKind) (seq : Nat) (origin : Int) (o' : ObjDef) (i' k' : Nat) :
    (State.ptpPush s i port kind seq origin).obj o' i' k' = s.obj o' i' k' := rfl

/-! State.setClaims -/

@[simp] theorem State.setClaims_pending (s : State) (f : ClaimSt → ClaimSt) :
    (State.setClaims s f).pending = s.pending := rfl
@[simp] theorem State.setClaims_regs (s : State) (f : ClaimSt → ClaimSt) :
    (State.setClaims s f).regs = s.regs := rfl
@[simp] theorem State.setClaims_mem (s : State) (f : ClaimSt → ClaimSt) :
    (State.setClaims s f).mem = s.mem := rfl
@[simp] theorem State.setClaims_dict (s : State) (f : ClaimSt → ClaimSt) :
    (State.setClaims s f).dict = s.dict := rfl
@[simp] theorem State.setClaims_latch (s : State) (f : ClaimSt → ClaimSt) :
    (State.setClaims s f).latch = s.latch := rfl
@[simp] theorem State.setClaims_poisoned (s : State) (f : ClaimSt → ClaimSt) :
    (State.setClaims s f).poisoned = s.poisoned := rfl
@[simp] theorem State.setClaims_readData (s : State) (f : ClaimSt → ClaimSt) :
    (State.setClaims s f).readData = s.readData := rfl
@[simp] theorem State.setClaims_coreFaults (s : State) (f : ClaimSt → ClaimSt) :
    (State.setClaims s f).coreFaults = s.coreFaults := rfl
@[simp] theorem State.setClaims_outcome (s : State) (f : ClaimSt → ClaimSt) :
    (State.setClaims s f).outcome = s.outcome := rfl
@[simp] theorem State.setClaims_fresh (s : State) (f : ClaimSt → ClaimSt) :
    (State.setClaims s f).fresh = s.fresh := rfl
@[simp] theorem State.setClaims_time (s : State) (f : ClaimSt → ClaimSt) :
    (State.setClaims s f).time = s.time := rfl
@[simp] theorem State.setClaims_health (s : State) (f : ClaimSt → ClaimSt) :
    (State.setClaims s f).health = s.health := rfl
@[simp] theorem State.setClaims_zdp (s : State) (f : ClaimSt → ClaimSt) :
    (State.setClaims s f).zdp = s.zdp := rfl
@[simp] theorem State.setClaims_ports (s : State) (f : ClaimSt → ClaimSt) :
    (State.setClaims s f).ports = s.ports := rfl
@[simp] theorem State.setClaims_journal (s : State) (f : ClaimSt → ClaimSt) :
    (State.setClaims s f).journal = s.journal := rfl
@[simp] theorem State.setClaims_gate (s : State) (f : ClaimSt → ClaimSt) :
    (State.setClaims s f).gate = s.gate := rfl
@[simp] theorem State.setClaims_loop (s : State) (f : ClaimSt → ClaimSt) :
    (State.setClaims s f).loop = s.loop := rfl
@[simp] theorem State.setClaims_can (s : State) (f : ClaimSt → ClaimSt) :
    (State.setClaims s f).can = s.can := rfl
@[simp] theorem State.setClaims_safety (s : State) (f : ClaimSt → ClaimSt) :
    (State.setClaims s f).safety = s.safety := rfl
@[simp] theorem State.setClaims_hub (s : State) (f : ClaimSt → ClaimSt) :
    (State.setClaims s f).hub = s.hub := rfl
@[simp] theorem State.setClaims_fabric (s : State) (f : ClaimSt → ClaimSt) :
    (State.setClaims s f).fabric = s.fabric := rfl
@[simp] theorem State.setClaims_stages (s : State) (f : ClaimSt → ClaimSt) :
    (State.setClaims s f).stages = s.stages := rfl
@[simp] theorem State.setClaims_lauter (s : State) (f : ClaimSt → ClaimSt) :
    (State.setClaims s f).lauter = s.lauter := rfl
@[simp] theorem State.setClaims_pfu (s : State) (f : ClaimSt → ClaimSt) :
    (State.setClaims s f).pfu = s.pfu := rfl
@[simp] theorem State.setClaims_rd (s : State) (f : ClaimSt → ClaimSt) (f' : Field) (i' j' : Nat) :
    (State.setClaims s f).rd f' i' j' = s.rd f' i' j' := rfl
@[simp] theorem State.setClaims_obj (s : State) (f : ClaimSt → ClaimSt) (o' : ObjDef) (i' k' : Nat) :
    (State.setClaims s f).obj o' i' k' = s.obj o' i' k' := rfl

/-! State.setLoop -/

@[simp] theorem State.setLoop_pending (s : State) (f : LoopSt → LoopSt) :
    (State.setLoop s f).pending = s.pending := rfl
@[simp] theorem State.setLoop_regs (s : State) (f : LoopSt → LoopSt) :
    (State.setLoop s f).regs = s.regs := rfl
@[simp] theorem State.setLoop_mem (s : State) (f : LoopSt → LoopSt) :
    (State.setLoop s f).mem = s.mem := rfl
@[simp] theorem State.setLoop_dict (s : State) (f : LoopSt → LoopSt) :
    (State.setLoop s f).dict = s.dict := rfl
@[simp] theorem State.setLoop_latch (s : State) (f : LoopSt → LoopSt) :
    (State.setLoop s f).latch = s.latch := rfl
@[simp] theorem State.setLoop_poisoned (s : State) (f : LoopSt → LoopSt) :
    (State.setLoop s f).poisoned = s.poisoned := rfl
@[simp] theorem State.setLoop_readData (s : State) (f : LoopSt → LoopSt) :
    (State.setLoop s f).readData = s.readData := rfl
@[simp] theorem State.setLoop_coreFaults (s : State) (f : LoopSt → LoopSt) :
    (State.setLoop s f).coreFaults = s.coreFaults := rfl
@[simp] theorem State.setLoop_outcome (s : State) (f : LoopSt → LoopSt) :
    (State.setLoop s f).outcome = s.outcome := rfl
@[simp] theorem State.setLoop_fresh (s : State) (f : LoopSt → LoopSt) :
    (State.setLoop s f).fresh = s.fresh := rfl
@[simp] theorem State.setLoop_time (s : State) (f : LoopSt → LoopSt) :
    (State.setLoop s f).time = s.time := rfl
@[simp] theorem State.setLoop_health (s : State) (f : LoopSt → LoopSt) :
    (State.setLoop s f).health = s.health := rfl
@[simp] theorem State.setLoop_zdp (s : State) (f : LoopSt → LoopSt) :
    (State.setLoop s f).zdp = s.zdp := rfl
@[simp] theorem State.setLoop_ports (s : State) (f : LoopSt → LoopSt) :
    (State.setLoop s f).ports = s.ports := rfl
@[simp] theorem State.setLoop_journal (s : State) (f : LoopSt → LoopSt) :
    (State.setLoop s f).journal = s.journal := rfl
@[simp] theorem State.setLoop_claims (s : State) (f : LoopSt → LoopSt) :
    (State.setLoop s f).claims = s.claims := rfl
@[simp] theorem State.setLoop_gate (s : State) (f : LoopSt → LoopSt) :
    (State.setLoop s f).gate = s.gate := rfl
@[simp] theorem State.setLoop_can (s : State) (f : LoopSt → LoopSt) :
    (State.setLoop s f).can = s.can := rfl
@[simp] theorem State.setLoop_safety (s : State) (f : LoopSt → LoopSt) :
    (State.setLoop s f).safety = s.safety := rfl
@[simp] theorem State.setLoop_hub (s : State) (f : LoopSt → LoopSt) :
    (State.setLoop s f).hub = s.hub := rfl
@[simp] theorem State.setLoop_fabric (s : State) (f : LoopSt → LoopSt) :
    (State.setLoop s f).fabric = s.fabric := rfl
@[simp] theorem State.setLoop_stages (s : State) (f : LoopSt → LoopSt) :
    (State.setLoop s f).stages = s.stages := rfl
@[simp] theorem State.setLoop_lauter (s : State) (f : LoopSt → LoopSt) :
    (State.setLoop s f).lauter = s.lauter := rfl
@[simp] theorem State.setLoop_pfu (s : State) (f : LoopSt → LoopSt) :
    (State.setLoop s f).pfu = s.pfu := rfl
@[simp] theorem State.setLoop_rd (s : State) (f : LoopSt → LoopSt) (f' : Field) (i' j' : Nat) :
    (State.setLoop s f).rd f' i' j' = s.rd f' i' j' := rfl
@[simp] theorem State.setLoop_obj (s : State) (f : LoopSt → LoopSt) (o' : ObjDef) (i' k' : Nat) :
    (State.setLoop s f).obj o' i' k' = s.obj o' i' k' := rfl

/-! State.setSafety -/

@[simp] theorem State.setSafety_pending (s : State) (f : SafetySt → SafetySt) :
    (State.setSafety s f).pending = s.pending := rfl
@[simp] theorem State.setSafety_regs (s : State) (f : SafetySt → SafetySt) :
    (State.setSafety s f).regs = s.regs := rfl
@[simp] theorem State.setSafety_mem (s : State) (f : SafetySt → SafetySt) :
    (State.setSafety s f).mem = s.mem := rfl
@[simp] theorem State.setSafety_dict (s : State) (f : SafetySt → SafetySt) :
    (State.setSafety s f).dict = s.dict := rfl
@[simp] theorem State.setSafety_latch (s : State) (f : SafetySt → SafetySt) :
    (State.setSafety s f).latch = s.latch := rfl
@[simp] theorem State.setSafety_poisoned (s : State) (f : SafetySt → SafetySt) :
    (State.setSafety s f).poisoned = s.poisoned := rfl
@[simp] theorem State.setSafety_readData (s : State) (f : SafetySt → SafetySt) :
    (State.setSafety s f).readData = s.readData := rfl
@[simp] theorem State.setSafety_coreFaults (s : State) (f : SafetySt → SafetySt) :
    (State.setSafety s f).coreFaults = s.coreFaults := rfl
@[simp] theorem State.setSafety_outcome (s : State) (f : SafetySt → SafetySt) :
    (State.setSafety s f).outcome = s.outcome := rfl
@[simp] theorem State.setSafety_fresh (s : State) (f : SafetySt → SafetySt) :
    (State.setSafety s f).fresh = s.fresh := rfl
@[simp] theorem State.setSafety_time (s : State) (f : SafetySt → SafetySt) :
    (State.setSafety s f).time = s.time := rfl
@[simp] theorem State.setSafety_health (s : State) (f : SafetySt → SafetySt) :
    (State.setSafety s f).health = s.health := rfl
@[simp] theorem State.setSafety_zdp (s : State) (f : SafetySt → SafetySt) :
    (State.setSafety s f).zdp = s.zdp := rfl
@[simp] theorem State.setSafety_ports (s : State) (f : SafetySt → SafetySt) :
    (State.setSafety s f).ports = s.ports := rfl
@[simp] theorem State.setSafety_journal (s : State) (f : SafetySt → SafetySt) :
    (State.setSafety s f).journal = s.journal := rfl
@[simp] theorem State.setSafety_claims (s : State) (f : SafetySt → SafetySt) :
    (State.setSafety s f).claims = s.claims := rfl
@[simp] theorem State.setSafety_gate (s : State) (f : SafetySt → SafetySt) :
    (State.setSafety s f).gate = s.gate := rfl
@[simp] theorem State.setSafety_loop (s : State) (f : SafetySt → SafetySt) :
    (State.setSafety s f).loop = s.loop := rfl
@[simp] theorem State.setSafety_can (s : State) (f : SafetySt → SafetySt) :
    (State.setSafety s f).can = s.can := rfl
@[simp] theorem State.setSafety_hub (s : State) (f : SafetySt → SafetySt) :
    (State.setSafety s f).hub = s.hub := rfl
@[simp] theorem State.setSafety_fabric (s : State) (f : SafetySt → SafetySt) :
    (State.setSafety s f).fabric = s.fabric := rfl
@[simp] theorem State.setSafety_stages (s : State) (f : SafetySt → SafetySt) :
    (State.setSafety s f).stages = s.stages := rfl
@[simp] theorem State.setSafety_lauter (s : State) (f : SafetySt → SafetySt) :
    (State.setSafety s f).lauter = s.lauter := rfl
@[simp] theorem State.setSafety_pfu (s : State) (f : SafetySt → SafetySt) :
    (State.setSafety s f).pfu = s.pfu := rfl
@[simp] theorem State.setSafety_rd (s : State) (f : SafetySt → SafetySt) (f' : Field) (i' j' : Nat) :
    (State.setSafety s f).rd f' i' j' = s.rd f' i' j' := rfl
@[simp] theorem State.setSafety_obj (s : State) (f : SafetySt → SafetySt) (o' : ObjDef) (i' k' : Nat) :
    (State.setSafety s f).obj o' i' k' = s.obj o' i' k' := rfl

/-! State.setSc -/

@[simp] theorem State.setSc_pending (s : State) (c : Nat) (f : ScChan → ScChan) :
    (State.setSc s c f).pending = s.pending := rfl
@[simp] theorem State.setSc_regs (s : State) (c : Nat) (f : ScChan → ScChan) :
    (State.setSc s c f).regs = s.regs := rfl
@[simp] theorem State.setSc_mem (s : State) (c : Nat) (f : ScChan → ScChan) :
    (State.setSc s c f).mem = s.mem := rfl
@[simp] theorem State.setSc_dict (s : State) (c : Nat) (f : ScChan → ScChan) :
    (State.setSc s c f).dict = s.dict := rfl
@[simp] theorem State.setSc_latch (s : State) (c : Nat) (f : ScChan → ScChan) :
    (State.setSc s c f).latch = s.latch := rfl
@[simp] theorem State.setSc_poisoned (s : State) (c : Nat) (f : ScChan → ScChan) :
    (State.setSc s c f).poisoned = s.poisoned := rfl
@[simp] theorem State.setSc_readData (s : State) (c : Nat) (f : ScChan → ScChan) :
    (State.setSc s c f).readData = s.readData := rfl
@[simp] theorem State.setSc_coreFaults (s : State) (c : Nat) (f : ScChan → ScChan) :
    (State.setSc s c f).coreFaults = s.coreFaults := rfl
@[simp] theorem State.setSc_outcome (s : State) (c : Nat) (f : ScChan → ScChan) :
    (State.setSc s c f).outcome = s.outcome := rfl
@[simp] theorem State.setSc_fresh (s : State) (c : Nat) (f : ScChan → ScChan) :
    (State.setSc s c f).fresh = s.fresh := rfl
@[simp] theorem State.setSc_time (s : State) (c : Nat) (f : ScChan → ScChan) :
    (State.setSc s c f).time = s.time := rfl
@[simp] theorem State.setSc_health (s : State) (c : Nat) (f : ScChan → ScChan) :
    (State.setSc s c f).health = s.health := rfl
@[simp] theorem State.setSc_zdp (s : State) (c : Nat) (f : ScChan → ScChan) :
    (State.setSc s c f).zdp = s.zdp := rfl
@[simp] theorem State.setSc_ports (s : State) (c : Nat) (f : ScChan → ScChan) :
    (State.setSc s c f).ports = s.ports := rfl
@[simp] theorem State.setSc_journal (s : State) (c : Nat) (f : ScChan → ScChan) :
    (State.setSc s c f).journal = s.journal := rfl
@[simp] theorem State.setSc_claims (s : State) (c : Nat) (f : ScChan → ScChan) :
    (State.setSc s c f).claims = s.claims := rfl
@[simp] theorem State.setSc_gate (s : State) (c : Nat) (f : ScChan → ScChan) :
    (State.setSc s c f).gate = s.gate := rfl
@[simp] theorem State.setSc_loop (s : State) (c : Nat) (f : ScChan → ScChan) :
    (State.setSc s c f).loop = s.loop := rfl
@[simp] theorem State.setSc_can (s : State) (c : Nat) (f : ScChan → ScChan) :
    (State.setSc s c f).can = s.can := rfl
@[simp] theorem State.setSc_safety (s : State) (c : Nat) (f : ScChan → ScChan) :
    (State.setSc s c f).safety = s.safety := rfl
@[simp] theorem State.setSc_hub (s : State) (c : Nat) (f : ScChan → ScChan) :
    (State.setSc s c f).hub = s.hub := rfl
@[simp] theorem State.setSc_fabric (s : State) (c : Nat) (f : ScChan → ScChan) :
    (State.setSc s c f).fabric = s.fabric := rfl
@[simp] theorem State.setSc_stages (s : State) (c : Nat) (f : ScChan → ScChan) :
    (State.setSc s c f).stages = s.stages := rfl
@[simp] theorem State.setSc_pfu (s : State) (c : Nat) (f : ScChan → ScChan) :
    (State.setSc s c f).pfu = s.pfu := rfl
@[simp] theorem State.setSc_rd (s : State) (c : Nat) (f : ScChan → ScChan) (f' : Field) (i' j' : Nat) :
    (State.setSc s c f).rd f' i' j' = s.rd f' i' j' := rfl
@[simp] theorem State.setSc_obj (s : State) (c : Nat) (f : ScChan → ScChan) (o' : ObjDef) (i' k' : Nat) :
    (State.setSc s c f).obj o' i' k' = s.obj o' i' k' := rfl

/-! State.poolPut -/

@[simp] theorem State.poolPut_pending (s : State) (e v : Nat) :
    (State.poolPut s e v).pending = s.pending := rfl
@[simp] theorem State.poolPut_regs (s : State) (e v : Nat) :
    (State.poolPut s e v).regs = s.regs := rfl
@[simp] theorem State.poolPut_mem (s : State) (e v : Nat) :
    (State.poolPut s e v).mem = s.mem := rfl
@[simp] theorem State.poolPut_dict (s : State) (e v : Nat) :
    (State.poolPut s e v).dict = s.dict := rfl
@[simp] theorem State.poolPut_latch (s : State) (e v : Nat) :
    (State.poolPut s e v).latch = s.latch := rfl
@[simp] theorem State.poolPut_poisoned (s : State) (e v : Nat) :
    (State.poolPut s e v).poisoned = s.poisoned := rfl
@[simp] theorem State.poolPut_readData (s : State) (e v : Nat) :
    (State.poolPut s e v).readData = s.readData := rfl
@[simp] theorem State.poolPut_coreFaults (s : State) (e v : Nat) :
    (State.poolPut s e v).coreFaults = s.coreFaults := rfl
@[simp] theorem State.poolPut_outcome (s : State) (e v : Nat) :
    (State.poolPut s e v).outcome = s.outcome := rfl
@[simp] theorem State.poolPut_fresh (s : State) (e v : Nat) :
    (State.poolPut s e v).fresh = s.fresh := rfl
@[simp] theorem State.poolPut_time (s : State) (e v : Nat) :
    (State.poolPut s e v).time = s.time := rfl
@[simp] theorem State.poolPut_health (s : State) (e v : Nat) :
    (State.poolPut s e v).health = s.health := rfl
@[simp] theorem State.poolPut_zdp (s : State) (e v : Nat) :
    (State.poolPut s e v).zdp = s.zdp := rfl
@[simp] theorem State.poolPut_ports (s : State) (e v : Nat) :
    (State.poolPut s e v).ports = s.ports := rfl
@[simp] theorem State.poolPut_journal (s : State) (e v : Nat) :
    (State.poolPut s e v).journal = s.journal := rfl
@[simp] theorem State.poolPut_claims (s : State) (e v : Nat) :
    (State.poolPut s e v).claims = s.claims := rfl
@[simp] theorem State.poolPut_gate (s : State) (e v : Nat) :
    (State.poolPut s e v).gate = s.gate := rfl
@[simp] theorem State.poolPut_loop (s : State) (e v : Nat) :
    (State.poolPut s e v).loop = s.loop := rfl
@[simp] theorem State.poolPut_can (s : State) (e v : Nat) :
    (State.poolPut s e v).can = s.can := rfl
@[simp] theorem State.poolPut_safety (s : State) (e v : Nat) :
    (State.poolPut s e v).safety = s.safety := rfl
@[simp] theorem State.poolPut_hub (s : State) (e v : Nat) :
    (State.poolPut s e v).hub = s.hub := rfl
@[simp] theorem State.poolPut_fabric (s : State) (e v : Nat) :
    (State.poolPut s e v).fabric = s.fabric := rfl
@[simp] theorem State.poolPut_stages (s : State) (e v : Nat) :
    (State.poolPut s e v).stages = s.stages := rfl
@[simp] theorem State.poolPut_pfu (s : State) (e v : Nat) :
    (State.poolPut s e v).pfu = s.pfu := rfl
@[simp] theorem State.poolPut_rd (s : State) (e v : Nat) (f' : Field) (i' j' : Nat) :
    (State.poolPut s e v).rd f' i' j' = s.rd f' i' j' := rfl
@[simp] theorem State.poolPut_obj (s : State) (e v : Nat) (o' : ObjDef) (i' k' : Nat) :
    (State.poolPut s e v).obj o' i' k' = s.obj o' i' k' := rfl

/-! State.setPf -/

@[simp] theorem State.setPf_pending (s : State) (c : Nat) (f : PfChan → PfChan) :
    (State.setPf s c f).pending = s.pending := rfl
@[simp] theorem State.setPf_regs (s : State) (c : Nat) (f : PfChan → PfChan) :
    (State.setPf s c f).regs = s.regs := rfl
@[simp] theorem State.setPf_mem (s : State) (c : Nat) (f : PfChan → PfChan) :
    (State.setPf s c f).mem = s.mem := rfl
@[simp] theorem State.setPf_dict (s : State) (c : Nat) (f : PfChan → PfChan) :
    (State.setPf s c f).dict = s.dict := rfl
@[simp] theorem State.setPf_latch (s : State) (c : Nat) (f : PfChan → PfChan) :
    (State.setPf s c f).latch = s.latch := rfl
@[simp] theorem State.setPf_poisoned (s : State) (c : Nat) (f : PfChan → PfChan) :
    (State.setPf s c f).poisoned = s.poisoned := rfl
@[simp] theorem State.setPf_readData (s : State) (c : Nat) (f : PfChan → PfChan) :
    (State.setPf s c f).readData = s.readData := rfl
@[simp] theorem State.setPf_coreFaults (s : State) (c : Nat) (f : PfChan → PfChan) :
    (State.setPf s c f).coreFaults = s.coreFaults := rfl
@[simp] theorem State.setPf_outcome (s : State) (c : Nat) (f : PfChan → PfChan) :
    (State.setPf s c f).outcome = s.outcome := rfl
@[simp] theorem State.setPf_fresh (s : State) (c : Nat) (f : PfChan → PfChan) :
    (State.setPf s c f).fresh = s.fresh := rfl
@[simp] theorem State.setPf_time (s : State) (c : Nat) (f : PfChan → PfChan) :
    (State.setPf s c f).time = s.time := rfl
@[simp] theorem State.setPf_health (s : State) (c : Nat) (f : PfChan → PfChan) :
    (State.setPf s c f).health = s.health := rfl
@[simp] theorem State.setPf_zdp (s : State) (c : Nat) (f : PfChan → PfChan) :
    (State.setPf s c f).zdp = s.zdp := rfl
@[simp] theorem State.setPf_ports (s : State) (c : Nat) (f : PfChan → PfChan) :
    (State.setPf s c f).ports = s.ports := rfl
@[simp] theorem State.setPf_journal (s : State) (c : Nat) (f : PfChan → PfChan) :
    (State.setPf s c f).journal = s.journal := rfl
@[simp] theorem State.setPf_claims (s : State) (c : Nat) (f : PfChan → PfChan) :
    (State.setPf s c f).claims = s.claims := rfl
@[simp] theorem State.setPf_gate (s : State) (c : Nat) (f : PfChan → PfChan) :
    (State.setPf s c f).gate = s.gate := rfl
@[simp] theorem State.setPf_loop (s : State) (c : Nat) (f : PfChan → PfChan) :
    (State.setPf s c f).loop = s.loop := rfl
@[simp] theorem State.setPf_can (s : State) (c : Nat) (f : PfChan → PfChan) :
    (State.setPf s c f).can = s.can := rfl
@[simp] theorem State.setPf_safety (s : State) (c : Nat) (f : PfChan → PfChan) :
    (State.setPf s c f).safety = s.safety := rfl
@[simp] theorem State.setPf_hub (s : State) (c : Nat) (f : PfChan → PfChan) :
    (State.setPf s c f).hub = s.hub := rfl
@[simp] theorem State.setPf_fabric (s : State) (c : Nat) (f : PfChan → PfChan) :
    (State.setPf s c f).fabric = s.fabric := rfl
@[simp] theorem State.setPf_stages (s : State) (c : Nat) (f : PfChan → PfChan) :
    (State.setPf s c f).stages = s.stages := rfl
@[simp] theorem State.setPf_lauter (s : State) (c : Nat) (f : PfChan → PfChan) :
    (State.setPf s c f).lauter = s.lauter := rfl
@[simp] theorem State.setPf_rd (s : State) (c : Nat) (f : PfChan → PfChan) (f' : Field) (i' j' : Nat) :
    (State.setPf s c f).rd f' i' j' = s.rd f' i' j' := rfl
@[simp] theorem State.setPf_obj (s : State) (c : Nat) (f : PfChan → PfChan) (o' : ObjDef) (i' k' : Nat) :
    (State.setPf s c f).obj o' i' k' = s.obj o' i' k' := rfl

/-! State.setPorts -/

@[simp] theorem State.setPorts_pending (s : State) (f : PortsSt → PortsSt) :
    (State.setPorts s f).pending = s.pending := rfl
@[simp] theorem State.setPorts_regs (s : State) (f : PortsSt → PortsSt) :
    (State.setPorts s f).regs = s.regs := rfl
@[simp] theorem State.setPorts_mem (s : State) (f : PortsSt → PortsSt) :
    (State.setPorts s f).mem = s.mem := rfl
@[simp] theorem State.setPorts_dict (s : State) (f : PortsSt → PortsSt) :
    (State.setPorts s f).dict = s.dict := rfl
@[simp] theorem State.setPorts_latch (s : State) (f : PortsSt → PortsSt) :
    (State.setPorts s f).latch = s.latch := rfl
@[simp] theorem State.setPorts_poisoned (s : State) (f : PortsSt → PortsSt) :
    (State.setPorts s f).poisoned = s.poisoned := rfl
@[simp] theorem State.setPorts_readData (s : State) (f : PortsSt → PortsSt) :
    (State.setPorts s f).readData = s.readData := rfl
@[simp] theorem State.setPorts_coreFaults (s : State) (f : PortsSt → PortsSt) :
    (State.setPorts s f).coreFaults = s.coreFaults := rfl
@[simp] theorem State.setPorts_outcome (s : State) (f : PortsSt → PortsSt) :
    (State.setPorts s f).outcome = s.outcome := rfl
@[simp] theorem State.setPorts_fresh (s : State) (f : PortsSt → PortsSt) :
    (State.setPorts s f).fresh = s.fresh := rfl
@[simp] theorem State.setPorts_time (s : State) (f : PortsSt → PortsSt) :
    (State.setPorts s f).time = s.time := rfl
@[simp] theorem State.setPorts_health (s : State) (f : PortsSt → PortsSt) :
    (State.setPorts s f).health = s.health := rfl
@[simp] theorem State.setPorts_zdp (s : State) (f : PortsSt → PortsSt) :
    (State.setPorts s f).zdp = s.zdp := rfl
@[simp] theorem State.setPorts_journal (s : State) (f : PortsSt → PortsSt) :
    (State.setPorts s f).journal = s.journal := rfl
@[simp] theorem State.setPorts_claims (s : State) (f : PortsSt → PortsSt) :
    (State.setPorts s f).claims = s.claims := rfl
@[simp] theorem State.setPorts_gate (s : State) (f : PortsSt → PortsSt) :
    (State.setPorts s f).gate = s.gate := rfl
@[simp] theorem State.setPorts_loop (s : State) (f : PortsSt → PortsSt) :
    (State.setPorts s f).loop = s.loop := rfl
@[simp] theorem State.setPorts_can (s : State) (f : PortsSt → PortsSt) :
    (State.setPorts s f).can = s.can := rfl
@[simp] theorem State.setPorts_safety (s : State) (f : PortsSt → PortsSt) :
    (State.setPorts s f).safety = s.safety := rfl
@[simp] theorem State.setPorts_hub (s : State) (f : PortsSt → PortsSt) :
    (State.setPorts s f).hub = s.hub := rfl
@[simp] theorem State.setPorts_fabric (s : State) (f : PortsSt → PortsSt) :
    (State.setPorts s f).fabric = s.fabric := rfl
@[simp] theorem State.setPorts_stages (s : State) (f : PortsSt → PortsSt) :
    (State.setPorts s f).stages = s.stages := rfl
@[simp] theorem State.setPorts_lauter (s : State) (f : PortsSt → PortsSt) :
    (State.setPorts s f).lauter = s.lauter := rfl
@[simp] theorem State.setPorts_pfu (s : State) (f : PortsSt → PortsSt) :
    (State.setPorts s f).pfu = s.pfu := rfl
@[simp] theorem State.setPorts_rd (s : State) (f : PortsSt → PortsSt) (f' : Field) (i' j' : Nat) :
    (State.setPorts s f).rd f' i' j' = s.rd f' i' j' := rfl
@[simp] theorem State.setPorts_obj (s : State) (f : PortsSt → PortsSt) (o' : ObjDef) (i' k' : Nat) :
    (State.setPorts s f).obj o' i' k' = s.obj o' i' k' := rfl

/-! State.setGate -/

@[simp] theorem State.setGate_pending (s : State) (f : GateSt → GateSt) :
    (State.setGate s f).pending = s.pending := rfl
@[simp] theorem State.setGate_regs (s : State) (f : GateSt → GateSt) :
    (State.setGate s f).regs = s.regs := rfl
@[simp] theorem State.setGate_mem (s : State) (f : GateSt → GateSt) :
    (State.setGate s f).mem = s.mem := rfl
@[simp] theorem State.setGate_dict (s : State) (f : GateSt → GateSt) :
    (State.setGate s f).dict = s.dict := rfl
@[simp] theorem State.setGate_latch (s : State) (f : GateSt → GateSt) :
    (State.setGate s f).latch = s.latch := rfl
@[simp] theorem State.setGate_poisoned (s : State) (f : GateSt → GateSt) :
    (State.setGate s f).poisoned = s.poisoned := rfl
@[simp] theorem State.setGate_readData (s : State) (f : GateSt → GateSt) :
    (State.setGate s f).readData = s.readData := rfl
@[simp] theorem State.setGate_coreFaults (s : State) (f : GateSt → GateSt) :
    (State.setGate s f).coreFaults = s.coreFaults := rfl
@[simp] theorem State.setGate_outcome (s : State) (f : GateSt → GateSt) :
    (State.setGate s f).outcome = s.outcome := rfl
@[simp] theorem State.setGate_fresh (s : State) (f : GateSt → GateSt) :
    (State.setGate s f).fresh = s.fresh := rfl
@[simp] theorem State.setGate_time (s : State) (f : GateSt → GateSt) :
    (State.setGate s f).time = s.time := rfl
@[simp] theorem State.setGate_health (s : State) (f : GateSt → GateSt) :
    (State.setGate s f).health = s.health := rfl
@[simp] theorem State.setGate_zdp (s : State) (f : GateSt → GateSt) :
    (State.setGate s f).zdp = s.zdp := rfl
@[simp] theorem State.setGate_ports (s : State) (f : GateSt → GateSt) :
    (State.setGate s f).ports = s.ports := rfl
@[simp] theorem State.setGate_journal (s : State) (f : GateSt → GateSt) :
    (State.setGate s f).journal = s.journal := rfl
@[simp] theorem State.setGate_claims (s : State) (f : GateSt → GateSt) :
    (State.setGate s f).claims = s.claims := rfl
@[simp] theorem State.setGate_loop (s : State) (f : GateSt → GateSt) :
    (State.setGate s f).loop = s.loop := rfl
@[simp] theorem State.setGate_can (s : State) (f : GateSt → GateSt) :
    (State.setGate s f).can = s.can := rfl
@[simp] theorem State.setGate_safety (s : State) (f : GateSt → GateSt) :
    (State.setGate s f).safety = s.safety := rfl
@[simp] theorem State.setGate_hub (s : State) (f : GateSt → GateSt) :
    (State.setGate s f).hub = s.hub := rfl
@[simp] theorem State.setGate_fabric (s : State) (f : GateSt → GateSt) :
    (State.setGate s f).fabric = s.fabric := rfl
@[simp] theorem State.setGate_stages (s : State) (f : GateSt → GateSt) :
    (State.setGate s f).stages = s.stages := rfl
@[simp] theorem State.setGate_lauter (s : State) (f : GateSt → GateSt) :
    (State.setGate s f).lauter = s.lauter := rfl
@[simp] theorem State.setGate_pfu (s : State) (f : GateSt → GateSt) :
    (State.setGate s f).pfu = s.pfu := rfl
@[simp] theorem State.setGate_rd (s : State) (f : GateSt → GateSt) (f' : Field) (i' j' : Nat) :
    (State.setGate s f).rd f' i' j' = s.rd f' i' j' := rfl
@[simp] theorem State.setGate_obj (s : State) (f : GateSt → GateSt) (o' : ObjDef) (i' k' : Nat) :
    (State.setGate s f).obj o' i' k' = s.obj o' i' k' := rfl

/-! State.setHub -/

@[simp] theorem State.setHub_pending (s : State) (f : HubSt → HubSt) :
    (State.setHub s f).pending = s.pending := rfl
@[simp] theorem State.setHub_regs (s : State) (f : HubSt → HubSt) :
    (State.setHub s f).regs = s.regs := rfl
@[simp] theorem State.setHub_mem (s : State) (f : HubSt → HubSt) :
    (State.setHub s f).mem = s.mem := rfl
@[simp] theorem State.setHub_dict (s : State) (f : HubSt → HubSt) :
    (State.setHub s f).dict = s.dict := rfl
@[simp] theorem State.setHub_latch (s : State) (f : HubSt → HubSt) :
    (State.setHub s f).latch = s.latch := rfl
@[simp] theorem State.setHub_poisoned (s : State) (f : HubSt → HubSt) :
    (State.setHub s f).poisoned = s.poisoned := rfl
@[simp] theorem State.setHub_readData (s : State) (f : HubSt → HubSt) :
    (State.setHub s f).readData = s.readData := rfl
@[simp] theorem State.setHub_coreFaults (s : State) (f : HubSt → HubSt) :
    (State.setHub s f).coreFaults = s.coreFaults := rfl
@[simp] theorem State.setHub_outcome (s : State) (f : HubSt → HubSt) :
    (State.setHub s f).outcome = s.outcome := rfl
@[simp] theorem State.setHub_fresh (s : State) (f : HubSt → HubSt) :
    (State.setHub s f).fresh = s.fresh := rfl
@[simp] theorem State.setHub_time (s : State) (f : HubSt → HubSt) :
    (State.setHub s f).time = s.time := rfl
@[simp] theorem State.setHub_health (s : State) (f : HubSt → HubSt) :
    (State.setHub s f).health = s.health := rfl
@[simp] theorem State.setHub_zdp (s : State) (f : HubSt → HubSt) :
    (State.setHub s f).zdp = s.zdp := rfl
@[simp] theorem State.setHub_ports (s : State) (f : HubSt → HubSt) :
    (State.setHub s f).ports = s.ports := rfl
@[simp] theorem State.setHub_journal (s : State) (f : HubSt → HubSt) :
    (State.setHub s f).journal = s.journal := rfl
@[simp] theorem State.setHub_claims (s : State) (f : HubSt → HubSt) :
    (State.setHub s f).claims = s.claims := rfl
@[simp] theorem State.setHub_gate (s : State) (f : HubSt → HubSt) :
    (State.setHub s f).gate = s.gate := rfl
@[simp] theorem State.setHub_loop (s : State) (f : HubSt → HubSt) :
    (State.setHub s f).loop = s.loop := rfl
@[simp] theorem State.setHub_can (s : State) (f : HubSt → HubSt) :
    (State.setHub s f).can = s.can := rfl
@[simp] theorem State.setHub_safety (s : State) (f : HubSt → HubSt) :
    (State.setHub s f).safety = s.safety := rfl
@[simp] theorem State.setHub_fabric (s : State) (f : HubSt → HubSt) :
    (State.setHub s f).fabric = s.fabric := rfl
@[simp] theorem State.setHub_stages (s : State) (f : HubSt → HubSt) :
    (State.setHub s f).stages = s.stages := rfl
@[simp] theorem State.setHub_lauter (s : State) (f : HubSt → HubSt) :
    (State.setHub s f).lauter = s.lauter := rfl
@[simp] theorem State.setHub_pfu (s : State) (f : HubSt → HubSt) :
    (State.setHub s f).pfu = s.pfu := rfl
@[simp] theorem State.setHub_rd (s : State) (f : HubSt → HubSt) (f' : Field) (i' j' : Nat) :
    (State.setHub s f).rd f' i' j' = s.rd f' i' j' := rfl
@[simp] theorem State.setHub_obj (s : State) (f : HubSt → HubSt) (o' : ObjDef) (i' k' : Nat) :
    (State.setHub s f).obj o' i' k' = s.obj o' i' k' := rfl

/-! State.setSubs -/

@[simp] theorem State.setSubs_pending (s : State) (f : List Sub → List Sub) :
    (State.setSubs s f).pending = s.pending := rfl
@[simp] theorem State.setSubs_regs (s : State) (f : List Sub → List Sub) :
    (State.setSubs s f).regs = s.regs := rfl
@[simp] theorem State.setSubs_mem (s : State) (f : List Sub → List Sub) :
    (State.setSubs s f).mem = s.mem := rfl
@[simp] theorem State.setSubs_dict (s : State) (f : List Sub → List Sub) :
    (State.setSubs s f).dict = s.dict := rfl
@[simp] theorem State.setSubs_latch (s : State) (f : List Sub → List Sub) :
    (State.setSubs s f).latch = s.latch := rfl
@[simp] theorem State.setSubs_poisoned (s : State) (f : List Sub → List Sub) :
    (State.setSubs s f).poisoned = s.poisoned := rfl
@[simp] theorem State.setSubs_readData (s : State) (f : List Sub → List Sub) :
    (State.setSubs s f).readData = s.readData := rfl
@[simp] theorem State.setSubs_coreFaults (s : State) (f : List Sub → List Sub) :
    (State.setSubs s f).coreFaults = s.coreFaults := rfl
@[simp] theorem State.setSubs_outcome (s : State) (f : List Sub → List Sub) :
    (State.setSubs s f).outcome = s.outcome := rfl
@[simp] theorem State.setSubs_fresh (s : State) (f : List Sub → List Sub) :
    (State.setSubs s f).fresh = s.fresh := rfl
@[simp] theorem State.setSubs_time (s : State) (f : List Sub → List Sub) :
    (State.setSubs s f).time = s.time := rfl
@[simp] theorem State.setSubs_health (s : State) (f : List Sub → List Sub) :
    (State.setSubs s f).health = s.health := rfl
@[simp] theorem State.setSubs_ports (s : State) (f : List Sub → List Sub) :
    (State.setSubs s f).ports = s.ports := rfl
@[simp] theorem State.setSubs_journal (s : State) (f : List Sub → List Sub) :
    (State.setSubs s f).journal = s.journal := rfl
@[simp] theorem State.setSubs_claims (s : State) (f : List Sub → List Sub) :
    (State.setSubs s f).claims = s.claims := rfl
@[simp] theorem State.setSubs_gate (s : State) (f : List Sub → List Sub) :
    (State.setSubs s f).gate = s.gate := rfl
@[simp] theorem State.setSubs_loop (s : State) (f : List Sub → List Sub) :
    (State.setSubs s f).loop = s.loop := rfl
@[simp] theorem State.setSubs_can (s : State) (f : List Sub → List Sub) :
    (State.setSubs s f).can = s.can := rfl
@[simp] theorem State.setSubs_safety (s : State) (f : List Sub → List Sub) :
    (State.setSubs s f).safety = s.safety := rfl
@[simp] theorem State.setSubs_hub (s : State) (f : List Sub → List Sub) :
    (State.setSubs s f).hub = s.hub := rfl
@[simp] theorem State.setSubs_fabric (s : State) (f : List Sub → List Sub) :
    (State.setSubs s f).fabric = s.fabric := rfl
@[simp] theorem State.setSubs_stages (s : State) (f : List Sub → List Sub) :
    (State.setSubs s f).stages = s.stages := rfl
@[simp] theorem State.setSubs_lauter (s : State) (f : List Sub → List Sub) :
    (State.setSubs s f).lauter = s.lauter := rfl
@[simp] theorem State.setSubs_pfu (s : State) (f : List Sub → List Sub) :
    (State.setSubs s f).pfu = s.pfu := rfl
@[simp] theorem State.setSubs_rd (s : State) (f : List Sub → List Sub) (f' : Field) (i' j' : Nat) :
    (State.setSubs s f).rd f' i' j' = s.rd f' i' j' := rfl
@[simp] theorem State.setSubs_obj (s : State) (f : List Sub → List Sub) (o' : ObjDef) (i' k' : Nat) :
    (State.setSubs s f).obj o' i' k' = s.obj o' i' k' := rfl

/-! State.gave -/

@[simp] theorem State.gave_pending (s : State) (core : Fin 4) (x : Nat) :
    (State.gave s core x).pending = s.pending := rfl
@[simp] theorem State.gave_regs (s : State) (core : Fin 4) (x : Nat) :
    (State.gave s core x).regs = s.regs := rfl
@[simp] theorem State.gave_mem (s : State) (core : Fin 4) (x : Nat) :
    (State.gave s core x).mem = s.mem := rfl
@[simp] theorem State.gave_dict (s : State) (core : Fin 4) (x : Nat) :
    (State.gave s core x).dict = s.dict := rfl
@[simp] theorem State.gave_latch (s : State) (core : Fin 4) (x : Nat) :
    (State.gave s core x).latch = s.latch := rfl
@[simp] theorem State.gave_poisoned (s : State) (core : Fin 4) (x : Nat) :
    (State.gave s core x).poisoned = s.poisoned := rfl
@[simp] theorem State.gave_coreFaults (s : State) (core : Fin 4) (x : Nat) :
    (State.gave s core x).coreFaults = s.coreFaults := rfl
@[simp] theorem State.gave_outcome (s : State) (core : Fin 4) (x : Nat) :
    (State.gave s core x).outcome = s.outcome := rfl
@[simp] theorem State.gave_fresh (s : State) (core : Fin 4) (x : Nat) :
    (State.gave s core x).fresh = s.fresh := rfl
@[simp] theorem State.gave_time (s : State) (core : Fin 4) (x : Nat) :
    (State.gave s core x).time = s.time := rfl
@[simp] theorem State.gave_health (s : State) (core : Fin 4) (x : Nat) :
    (State.gave s core x).health = s.health := rfl
@[simp] theorem State.gave_zdp (s : State) (core : Fin 4) (x : Nat) :
    (State.gave s core x).zdp = s.zdp := rfl
@[simp] theorem State.gave_ports (s : State) (core : Fin 4) (x : Nat) :
    (State.gave s core x).ports = s.ports := rfl
@[simp] theorem State.gave_journal (s : State) (core : Fin 4) (x : Nat) :
    (State.gave s core x).journal = s.journal := rfl
@[simp] theorem State.gave_claims (s : State) (core : Fin 4) (x : Nat) :
    (State.gave s core x).claims = s.claims := rfl
@[simp] theorem State.gave_gate (s : State) (core : Fin 4) (x : Nat) :
    (State.gave s core x).gate = s.gate := rfl
@[simp] theorem State.gave_loop (s : State) (core : Fin 4) (x : Nat) :
    (State.gave s core x).loop = s.loop := rfl
@[simp] theorem State.gave_can (s : State) (core : Fin 4) (x : Nat) :
    (State.gave s core x).can = s.can := rfl
@[simp] theorem State.gave_safety (s : State) (core : Fin 4) (x : Nat) :
    (State.gave s core x).safety = s.safety := rfl
@[simp] theorem State.gave_hub (s : State) (core : Fin 4) (x : Nat) :
    (State.gave s core x).hub = s.hub := rfl
@[simp] theorem State.gave_fabric (s : State) (core : Fin 4) (x : Nat) :
    (State.gave s core x).fabric = s.fabric := rfl
@[simp] theorem State.gave_stages (s : State) (core : Fin 4) (x : Nat) :
    (State.gave s core x).stages = s.stages := rfl
@[simp] theorem State.gave_lauter (s : State) (core : Fin 4) (x : Nat) :
    (State.gave s core x).lauter = s.lauter := rfl
@[simp] theorem State.gave_pfu (s : State) (core : Fin 4) (x : Nat) :
    (State.gave s core x).pfu = s.pfu := rfl
@[simp] theorem State.gave_rd (s : State) (core : Fin 4) (x : Nat) (f' : Field) (i' j' : Nat) :
    (State.gave s core x).rd f' i' j' = s.rd f' i' j' := rfl
@[simp] theorem State.gave_obj (s : State) (core : Fin 4) (x : Nat) (o' : ObjDef) (i' k' : Nat) :
    (State.gave s core x).obj o' i' k' = s.obj o' i' k' := rfl

/-! State.latched -/

@[simp] theorem State.latched_pending (s : State) (core : Fin 4) (a : Nat) :
    (State.latched s core a).pending = s.pending := rfl
@[simp] theorem State.latched_regs (s : State) (core : Fin 4) (a : Nat) :
    (State.latched s core a).regs = s.regs := rfl
@[simp] theorem State.latched_mem (s : State) (core : Fin 4) (a : Nat) :
    (State.latched s core a).mem = s.mem := rfl
@[simp] theorem State.latched_dict (s : State) (core : Fin 4) (a : Nat) :
    (State.latched s core a).dict = s.dict := rfl
@[simp] theorem State.latched_poisoned (s : State) (core : Fin 4) (a : Nat) :
    (State.latched s core a).poisoned = s.poisoned := rfl
@[simp] theorem State.latched_readData (s : State) (core : Fin 4) (a : Nat) :
    (State.latched s core a).readData = s.readData := rfl
@[simp] theorem State.latched_coreFaults (s : State) (core : Fin 4) (a : Nat) :
    (State.latched s core a).coreFaults = s.coreFaults := rfl
@[simp] theorem State.latched_outcome (s : State) (core : Fin 4) (a : Nat) :
    (State.latched s core a).outcome = s.outcome := rfl
@[simp] theorem State.latched_fresh (s : State) (core : Fin 4) (a : Nat) :
    (State.latched s core a).fresh = s.fresh := rfl
@[simp] theorem State.latched_time (s : State) (core : Fin 4) (a : Nat) :
    (State.latched s core a).time = s.time := rfl
@[simp] theorem State.latched_health (s : State) (core : Fin 4) (a : Nat) :
    (State.latched s core a).health = s.health := rfl
@[simp] theorem State.latched_zdp (s : State) (core : Fin 4) (a : Nat) :
    (State.latched s core a).zdp = s.zdp := rfl
@[simp] theorem State.latched_ports (s : State) (core : Fin 4) (a : Nat) :
    (State.latched s core a).ports = s.ports := rfl
@[simp] theorem State.latched_journal (s : State) (core : Fin 4) (a : Nat) :
    (State.latched s core a).journal = s.journal := rfl
@[simp] theorem State.latched_claims (s : State) (core : Fin 4) (a : Nat) :
    (State.latched s core a).claims = s.claims := rfl
@[simp] theorem State.latched_gate (s : State) (core : Fin 4) (a : Nat) :
    (State.latched s core a).gate = s.gate := rfl
@[simp] theorem State.latched_loop (s : State) (core : Fin 4) (a : Nat) :
    (State.latched s core a).loop = s.loop := rfl
@[simp] theorem State.latched_can (s : State) (core : Fin 4) (a : Nat) :
    (State.latched s core a).can = s.can := rfl
@[simp] theorem State.latched_safety (s : State) (core : Fin 4) (a : Nat) :
    (State.latched s core a).safety = s.safety := rfl
@[simp] theorem State.latched_hub (s : State) (core : Fin 4) (a : Nat) :
    (State.latched s core a).hub = s.hub := rfl
@[simp] theorem State.latched_fabric (s : State) (core : Fin 4) (a : Nat) :
    (State.latched s core a).fabric = s.fabric := rfl
@[simp] theorem State.latched_stages (s : State) (core : Fin 4) (a : Nat) :
    (State.latched s core a).stages = s.stages := rfl
@[simp] theorem State.latched_lauter (s : State) (core : Fin 4) (a : Nat) :
    (State.latched s core a).lauter = s.lauter := rfl
@[simp] theorem State.latched_pfu (s : State) (core : Fin 4) (a : Nat) :
    (State.latched s core a).pfu = s.pfu := rfl
@[simp] theorem State.latched_rd (s : State) (core : Fin 4) (a : Nat) (f' : Field) (i' j' : Nat) :
    (State.latched s core a).rd f' i' j' = s.rd f' i' j' := rfl
@[simp] theorem State.latched_obj (s : State) (core : Fin 4) (a : Nat) (o' : ObjDef) (i' k' : Nat) :
    (State.latched s core a).obj o' i' k' = s.obj o' i' k' := rfl

/-! State.put -/

@[simp] theorem State.put_pending (s : State) (f : Field) (b : Bool) (i j : Nat) :
    (State.put s f b i j).pending = s.pending := rfl
@[simp] theorem State.put_mem (s : State) (f : Field) (b : Bool) (i j : Nat) :
    (State.put s f b i j).mem = s.mem := rfl
@[simp] theorem State.put_dict (s : State) (f : Field) (b : Bool) (i j : Nat) :
    (State.put s f b i j).dict = s.dict := rfl
@[simp] theorem State.put_latch (s : State) (f : Field) (b : Bool) (i j : Nat) :
    (State.put s f b i j).latch = s.latch := rfl
@[simp] theorem State.put_poisoned (s : State) (f : Field) (b : Bool) (i j : Nat) :
    (State.put s f b i j).poisoned = s.poisoned := rfl
@[simp] theorem State.put_readData (s : State) (f : Field) (b : Bool) (i j : Nat) :
    (State.put s f b i j).readData = s.readData := rfl
@[simp] theorem State.put_coreFaults (s : State) (f : Field) (b : Bool) (i j : Nat) :
    (State.put s f b i j).coreFaults = s.coreFaults := rfl
@[simp] theorem State.put_outcome (s : State) (f : Field) (b : Bool) (i j : Nat) :
    (State.put s f b i j).outcome = s.outcome := rfl
@[simp] theorem State.put_fresh (s : State) (f : Field) (b : Bool) (i j : Nat) :
    (State.put s f b i j).fresh = s.fresh := rfl
@[simp] theorem State.put_time (s : State) (f : Field) (b : Bool) (i j : Nat) :
    (State.put s f b i j).time = s.time := rfl
@[simp] theorem State.put_health (s : State) (f : Field) (b : Bool) (i j : Nat) :
    (State.put s f b i j).health = s.health := rfl
@[simp] theorem State.put_zdp (s : State) (f : Field) (b : Bool) (i j : Nat) :
    (State.put s f b i j).zdp = s.zdp := rfl
@[simp] theorem State.put_ports (s : State) (f : Field) (b : Bool) (i j : Nat) :
    (State.put s f b i j).ports = s.ports := rfl
@[simp] theorem State.put_journal (s : State) (f : Field) (b : Bool) (i j : Nat) :
    (State.put s f b i j).journal = s.journal := rfl
@[simp] theorem State.put_claims (s : State) (f : Field) (b : Bool) (i j : Nat) :
    (State.put s f b i j).claims = s.claims := rfl
@[simp] theorem State.put_gate (s : State) (f : Field) (b : Bool) (i j : Nat) :
    (State.put s f b i j).gate = s.gate := rfl
@[simp] theorem State.put_loop (s : State) (f : Field) (b : Bool) (i j : Nat) :
    (State.put s f b i j).loop = s.loop := rfl
@[simp] theorem State.put_can (s : State) (f : Field) (b : Bool) (i j : Nat) :
    (State.put s f b i j).can = s.can := rfl
@[simp] theorem State.put_safety (s : State) (f : Field) (b : Bool) (i j : Nat) :
    (State.put s f b i j).safety = s.safety := rfl
@[simp] theorem State.put_hub (s : State) (f : Field) (b : Bool) (i j : Nat) :
    (State.put s f b i j).hub = s.hub := rfl
@[simp] theorem State.put_fabric (s : State) (f : Field) (b : Bool) (i j : Nat) :
    (State.put s f b i j).fabric = s.fabric := rfl
@[simp] theorem State.put_stages (s : State) (f : Field) (b : Bool) (i j : Nat) :
    (State.put s f b i j).stages = s.stages := rfl
@[simp] theorem State.put_lauter (s : State) (f : Field) (b : Bool) (i j : Nat) :
    (State.put s f b i j).lauter = s.lauter := rfl
@[simp] theorem State.put_pfu (s : State) (f : Field) (b : Bool) (i j : Nat) :
    (State.put s f b i j).pfu = s.pfu := rfl
@[simp] theorem State.put_obj (s : State) (f : Field) (b : Bool) (i j : Nat) (o' : ObjDef) (i' k' : Nat) :
    (State.put s f b i j).obj o' i' k' = s.obj o' i' k' := rfl

/-! State.raise -/

@[simp] theorem State.raise_pending (s : State) (f : Field) (i j : Nat) :
    (State.raise s f i j).pending = s.pending := rfl
@[simp] theorem State.raise_mem (s : State) (f : Field) (i j : Nat) :
    (State.raise s f i j).mem = s.mem := rfl
@[simp] theorem State.raise_dict (s : State) (f : Field) (i j : Nat) :
    (State.raise s f i j).dict = s.dict := rfl
@[simp] theorem State.raise_latch (s : State) (f : Field) (i j : Nat) :
    (State.raise s f i j).latch = s.latch := rfl
@[simp] theorem State.raise_poisoned (s : State) (f : Field) (i j : Nat) :
    (State.raise s f i j).poisoned = s.poisoned := rfl
@[simp] theorem State.raise_readData (s : State) (f : Field) (i j : Nat) :
    (State.raise s f i j).readData = s.readData := rfl
@[simp] theorem State.raise_coreFaults (s : State) (f : Field) (i j : Nat) :
    (State.raise s f i j).coreFaults = s.coreFaults := rfl
@[simp] theorem State.raise_outcome (s : State) (f : Field) (i j : Nat) :
    (State.raise s f i j).outcome = s.outcome := rfl
@[simp] theorem State.raise_fresh (s : State) (f : Field) (i j : Nat) :
    (State.raise s f i j).fresh = s.fresh := rfl
@[simp] theorem State.raise_time (s : State) (f : Field) (i j : Nat) :
    (State.raise s f i j).time = s.time := rfl
@[simp] theorem State.raise_health (s : State) (f : Field) (i j : Nat) :
    (State.raise s f i j).health = s.health := rfl
@[simp] theorem State.raise_zdp (s : State) (f : Field) (i j : Nat) :
    (State.raise s f i j).zdp = s.zdp := rfl
@[simp] theorem State.raise_ports (s : State) (f : Field) (i j : Nat) :
    (State.raise s f i j).ports = s.ports := rfl
@[simp] theorem State.raise_journal (s : State) (f : Field) (i j : Nat) :
    (State.raise s f i j).journal = s.journal := rfl
@[simp] theorem State.raise_claims (s : State) (f : Field) (i j : Nat) :
    (State.raise s f i j).claims = s.claims := rfl
@[simp] theorem State.raise_gate (s : State) (f : Field) (i j : Nat) :
    (State.raise s f i j).gate = s.gate := rfl
@[simp] theorem State.raise_loop (s : State) (f : Field) (i j : Nat) :
    (State.raise s f i j).loop = s.loop := rfl
@[simp] theorem State.raise_can (s : State) (f : Field) (i j : Nat) :
    (State.raise s f i j).can = s.can := rfl
@[simp] theorem State.raise_safety (s : State) (f : Field) (i j : Nat) :
    (State.raise s f i j).safety = s.safety := rfl
@[simp] theorem State.raise_hub (s : State) (f : Field) (i j : Nat) :
    (State.raise s f i j).hub = s.hub := rfl
@[simp] theorem State.raise_fabric (s : State) (f : Field) (i j : Nat) :
    (State.raise s f i j).fabric = s.fabric := rfl
@[simp] theorem State.raise_stages (s : State) (f : Field) (i j : Nat) :
    (State.raise s f i j).stages = s.stages := rfl
@[simp] theorem State.raise_lauter (s : State) (f : Field) (i j : Nat) :
    (State.raise s f i j).lauter = s.lauter := rfl
@[simp] theorem State.raise_pfu (s : State) (f : Field) (i j : Nat) :
    (State.raise s f i j).pfu = s.pfu := rfl
@[simp] theorem State.raise_obj (s : State) (f : Field) (i j : Nat) (o' : ObjDef) (i' k' : Nat) :
    (State.raise s f i j).obj o' i' k' = s.obj o' i' k' := rfl

/-! State.setObjN -/

@[simp] theorem State.setObjN_pending (s : State) (o : ObjDef) (n : Nat) (i k : Nat) :
    (State.setObjN s o n i k).pending = s.pending := rfl
@[simp] theorem State.setObjN_regs (s : State) (o : ObjDef) (n : Nat) (i k : Nat) :
    (State.setObjN s o n i k).regs = s.regs := rfl
@[simp] theorem State.setObjN_mem (s : State) (o : ObjDef) (n : Nat) (i k : Nat) :
    (State.setObjN s o n i k).mem = s.mem := rfl
@[simp] theorem State.setObjN_latch (s : State) (o : ObjDef) (n : Nat) (i k : Nat) :
    (State.setObjN s o n i k).latch = s.latch := rfl
@[simp] theorem State.setObjN_poisoned (s : State) (o : ObjDef) (n : Nat) (i k : Nat) :
    (State.setObjN s o n i k).poisoned = s.poisoned := rfl
@[simp] theorem State.setObjN_readData (s : State) (o : ObjDef) (n : Nat) (i k : Nat) :
    (State.setObjN s o n i k).readData = s.readData := rfl
@[simp] theorem State.setObjN_coreFaults (s : State) (o : ObjDef) (n : Nat) (i k : Nat) :
    (State.setObjN s o n i k).coreFaults = s.coreFaults := rfl
@[simp] theorem State.setObjN_outcome (s : State) (o : ObjDef) (n : Nat) (i k : Nat) :
    (State.setObjN s o n i k).outcome = s.outcome := rfl
@[simp] theorem State.setObjN_fresh (s : State) (o : ObjDef) (n : Nat) (i k : Nat) :
    (State.setObjN s o n i k).fresh = s.fresh := rfl
@[simp] theorem State.setObjN_time (s : State) (o : ObjDef) (n : Nat) (i k : Nat) :
    (State.setObjN s o n i k).time = s.time := rfl
@[simp] theorem State.setObjN_health (s : State) (o : ObjDef) (n : Nat) (i k : Nat) :
    (State.setObjN s o n i k).health = s.health := rfl
@[simp] theorem State.setObjN_zdp (s : State) (o : ObjDef) (n : Nat) (i k : Nat) :
    (State.setObjN s o n i k).zdp = s.zdp := rfl
@[simp] theorem State.setObjN_ports (s : State) (o : ObjDef) (n : Nat) (i k : Nat) :
    (State.setObjN s o n i k).ports = s.ports := rfl
@[simp] theorem State.setObjN_journal (s : State) (o : ObjDef) (n : Nat) (i k : Nat) :
    (State.setObjN s o n i k).journal = s.journal := rfl
@[simp] theorem State.setObjN_claims (s : State) (o : ObjDef) (n : Nat) (i k : Nat) :
    (State.setObjN s o n i k).claims = s.claims := rfl
@[simp] theorem State.setObjN_gate (s : State) (o : ObjDef) (n : Nat) (i k : Nat) :
    (State.setObjN s o n i k).gate = s.gate := rfl
@[simp] theorem State.setObjN_loop (s : State) (o : ObjDef) (n : Nat) (i k : Nat) :
    (State.setObjN s o n i k).loop = s.loop := rfl
@[simp] theorem State.setObjN_can (s : State) (o : ObjDef) (n : Nat) (i k : Nat) :
    (State.setObjN s o n i k).can = s.can := rfl
@[simp] theorem State.setObjN_safety (s : State) (o : ObjDef) (n : Nat) (i k : Nat) :
    (State.setObjN s o n i k).safety = s.safety := rfl
@[simp] theorem State.setObjN_hub (s : State) (o : ObjDef) (n : Nat) (i k : Nat) :
    (State.setObjN s o n i k).hub = s.hub := rfl
@[simp] theorem State.setObjN_fabric (s : State) (o : ObjDef) (n : Nat) (i k : Nat) :
    (State.setObjN s o n i k).fabric = s.fabric := rfl
@[simp] theorem State.setObjN_stages (s : State) (o : ObjDef) (n : Nat) (i k : Nat) :
    (State.setObjN s o n i k).stages = s.stages := rfl
@[simp] theorem State.setObjN_lauter (s : State) (o : ObjDef) (n : Nat) (i k : Nat) :
    (State.setObjN s o n i k).lauter = s.lauter := rfl
@[simp] theorem State.setObjN_pfu (s : State) (o : ObjDef) (n : Nat) (i k : Nat) :
    (State.setObjN s o n i k).pfu = s.pfu := rfl
@[simp] theorem State.setObjN_rd (s : State) (o : ObjDef) (n : Nat) (i k : Nat) (f' : Field) (i' j' : Nat) :
    (State.setObjN s o n i k).rd f' i' j' = s.rd f' i' j' := rfl

end Sys2Proof.Machine
end

