-- ==== Sys2Proof/WellFormed.lean ====
section
/-! DEFINITION. Which commands are well formed: the operands lie in the ranges that the spec gives the carrier of
the row. A type with a bound of its own (a slot number, a register word) needs no check here. The meanings are
total and do not ask for well-formedness; a command that is not well formed stands for nothing a carrier delivers. -/

namespace Sys2Proof

/-- The port holds a number of 0x12pp (1 to 37). -/
def portOk (p : PortNo) : Bool := p.val != 0

/-- A ZDP message as the carrier delivers it: no body is longer than a peer-link payload, the longest that any
carrier takes (R400). A body over 1,024 bytes is still delivered, and the message is then malformed (R386). -/
def zdpOk (m : ZdpMsg) : Bool := decide (m.body.length ≤ 4096)

/-- A journal order: value, record count and field widths of the head record (R406, R407). -/
def orderOk (o : OrderRec) : Bool :=
  decide (o.value.length ≤ 1016) && decide (o.identity < 2 ^ 64) && decide (o.index < 65536) &&
  decide (o.sub < 256) && decide (o.osn < 2 ^ 64) && decide (o.entry < 2 ^ 14) && decide (o.target < 2 ^ 14)

/-- Every order of a copy or replay frame. -/
def ordersOk (os : List OrderRec) : Bool := os.all orderOk

/-- The entries of a state image: index, subindex and value widths. -/
def entriesOk (es : List ImageEntry) : Bool :=
  es.all fun e => decide (e.index < 65536) && decide (e.sub < 256) && decide (e.value.length ≤ 1016)

/-- A CAN frame: at most 8 data bytes in a classic frame and 64 in an FD frame, and no remote FD frame ("CAN frames" of 11_can_fd). -/
def canOk (f : CanFrame) : Bool :=
  decide (f.data.length ≤ if f.fdf then 64 else 8) && !(f.fdf && f.rtr)

/-- A mailbox message: header, payload and CRC fit the 4 KB of one direction (R493). -/
def mailOk (m : MailMsg) : Bool := decide (m.payload.length + 20 ≤ 4096)

/-- A peer-link frame: LEN of 0 to 4,096 (R400). -/
def peerOk (f : PeerFrame) : Bool := decide (f.payload.length ≤ 4096)

/-- A Gauge window: four working monitors on each of the 32 tiles, eight on the hub (R56). -/
def gaugeOk (w : GaugeWindow) : Bool :=
  decide (w.tiles.length = 32) && w.tiles.all (fun t => decide (t.length = 4)) &&
  decide (w.hub.length = 8) && decide (w.temps.length = 32)

/-- One stress sample for each of the 32 tiles (R67). -/
def stressOk (l : List StressSample) : Bool := decide (l.length = 32)

/-- An Ethernet frame is no longer than a ring slot's LEN can say. -/
def ethernetOk (b : List Byte) : Bool := decide (b.length < 65536)

/-- The command is one that its carrier can deliver. -/
def wellFormed (i : Instr) : Bool :=
  match i with
  | .hubResetRelease _ _ _ _ _ _ => true
  | .imageVerify _ => true
  | .replayComplete _ => true
  | .porstNLow => true
  | .railBelowReset _ => true
  | .vcoreBelow060 => true
  | .referenceLost => true
  | .vsafeGood => true
  | .safetyOvertemp => true
  | .jtagHubReset => true
  | .jtagTapReset => true
  | .watchdogEnable _ => true
  | .watchdogKick _ => true
  | .watchdogExpiry => true
  | .supRestart _ => true
  | .trialConfirm => true
  | .trialExpiry => true
  | .registerWrite _ _ _ _ _ => true
  | .gaugeWindow w => gaugeOk w
  | .breachEnd _ => true
  | .breachAlarm _ => true
  | .refMonitorSample _ => true
  | .refSample => true
  | .tempHigh _ _ => true
  | .dipStart _ => true
  | .dipEnd _ => true
  | .dipLong => true
  | .stressUpdate tiles => stressOk tiles
  | .dailyRecord => true
  | .ageingForecast => true
  | .kilnRun => true
  | .gristAdmit _ _ => true
  | .verdictPost _ => true
  | .replan => true
  | .tableReplace => true
  | .linkStart _ => true
  | .operationComplete _ => true
  | .dmaComplete _ => true
  | .tileError _ _ _ => true
  | .dieLinkCheckFail _ _ => true
  | .cutoff _ => true
  | .jobDelivery _ _ _ => true
  | .tileDrain _ => true
  | .tileBistStart _ => true
  | .tileBistDone _ _ _ _ => true
  | .tileOnline _ => true
  | .pipelineStart => true
  | .tenSecondBoundary _ => true
  | .estimationRelease _ => true
  | .visualRelease _ => true
  | .planningRelease _ => true
  | .caRelease => true
  | .caPublication _ => true
  | .measurementRecord _ => true
  | .keypointDatagram _ _ => true
  | .frameIncomplete _ => true
  | .cameraLost _ => true
  | .voteStart _ => true
  | .tbStep _ => true
  | .tbCountRead _ _ => true
  | .tuSnap => true
  | .snapshotPeriodic => true
  | .followOffsetWrite p m => portOk p && zdpOk m
  | .ptpMessage _ _ _ => true
  | .ptpSend _ _ _ => true
  | .announceTimeout _ => true
  | .holdoverEntry _ => true
  | .holdoverMax _ => true
  | .ppsEdge _ _ => true
  | .ppsMissed _ => true
  | .ppsOutputPulse _ => true
  | .timeOfDayRecord _ _ => true
  | .resync => true
  | .timeTrigger _ => true
  | .leSwTrig _ _ => true
  | .activationComplete _ => true
  | .leTrajCommit _ _ => true
  | .trajCopyDone => true
  | .trajStaleAlarm => true
  | .leProgAccess _ _ => true
  | .leRecheck => true
  | .slotEnable _ _ => true
  | .slotCommit _ => true
  | .commitInstall _ => true
  | .slotHandover _ => true
  | .slotServiceTest _ => true
  | .slotSelfTestDone _ _ => true
  | .slotServiceReturn _ => true
  | .generatorStart _ => true
  | .generatorStop _ => true
  | .generatorEnd _ => true
  | .captureArm _ => true
  | .captureStop _ => true
  | .lauterOutput _ _ _ _ => true
  | .clockLost _ => true
  | .clockReturn _ _ => true
  | .ltSync _ => true
  | .ltSyncArm _ => true
  | .timeAt => true
  | .scSyncEdge => true
  | .definingEdge _ _ => true
  | .swapRequest _ _ => true
  | .poolAccess _ _ => true
  | .ltRecheck => true
  | .ltChannelEnable _ _ => true
  | .ltServiceTest _ => true
  | .ltSelfTestDone _ _ => true
  | .ltServiceReturn _ => true
  | .pfEdgeAccept _ _ => true
  | .glitch _ _ _ => true
  | .lineOpen _ _ => true
  | .serialRequest _ _ => true
  | .serialWord _ _ => true
  | .serTimeout _ => true
  | .speedUpdate _ => true
  | .standstill _ => true
  | .emulatedTransition _ => true
  | .setPos _ _ => true
  | .cmpArm _ _ _ => true
  | .cmpDisarm _ _ => true
  | .pfEnable _ _ => true
  | .pfServiceTest _ => true
  | .pfSelfTestDone _ _ => true
  | .pfServiceReturn _ => true
  | .pfInternal _ => true
  | .oscFault => true
  | .canEnable _ _ _ => true
  | .canDisable _ _ => true
  | .canFrameReceived _ f _ => canOk f
  | .segmentGapTimeout _ _ _ _ => true
  | .canRxIrqTimeout _ => true
  | .canRxTailWrite _ _ => true
  | .canTxReq _ _ => true
  | .canTxCancel _ _ => true
  | .canTxComplete _ _ _ => true
  | .canArbitrationLost _ => true
  | .canBusError _ _ _ _ => true
  | .canRecover _ _ => true
  | .recoveryComplete _ => true
  | .canServiceTest _ _ => true
  | .canSelfTestDone _ _ => true
  | .canServiceReturn _ _ => true
  | .emFrameReceived _ frame _ _ => ethernetOk frame
  | .emFrameSent _ => true
  | .peerFrameReceived _ f => peerOk f
  | .suCharacter _ _ _ _ _ => true
  | .portServiceTest p => portOk p
  | .portSelfTestDone p _ => portOk p
  | .portServiceReturn p => portOk p
  | .zdpRead p m => portOk p && zdpOk m
  | .zdpMetaRead p m => portOk p && zdpOk m
  | .zdpWrite p m => portOk p && zdpOk m
  | .zdpOrder p m => portOk p && zdpOk m
  | .zdpSubscribe p m => portOk p && zdpOk m
  | .notifyDue _ _ => true
  | .notifyIntervalExpiry _ _ => true
  | .subscriptionExpiry _ => true
  | .bulkRead p m => portOk p && zdpOk m
  | .bulkWriteSegment p m => portOk p && zdpOk m
  | .bulkStagingExpiry p _ _ => portOk p
  | .requestRateSecond => true
  | .fuseOrder p _ target _ => portOk p && portOk target
  | .applyReady => true
  | .jeApplyData _ _ => true
  | .jeApplyDone _ _ => true
  | .applySlow => true
  | .jeFetch => true
  | .forward _ _ o => orderOk o
  | .copy _ _ os => ordersOk os
  | .replay _ _ os => ordersOk os
  | .image _ _ entries _ => entriesOk entries
  | .ack _ _ => true
  | .commit _ _ => true
  | .fetch _ _ _ => true
  | .state _ _ _ _ => true
  | .fwdReturn _ _ _ _ => true
  | .caskWriteComplete => true
  | .stateSend => true
  | .peerSilence _ => true
  | .eligibilityRestore => true
  | .forwardRepeat => true
  | .orderQueueRelease => true
  | .soloEntry => true
  | .forkResolve p m => portOk p && zdpOk m
  | .caskFault _ => true
  | .heartbeatSend => true
  | .heartbeatReceived _ _ => true
  | .peerLost _ => true
  | .planSummaryReceived _ _ => true
  | .allocationReceived _ _ => true
  | .peerClaimReceived _ _ => true
  | .ceilingRecompute => true
  | .claimSend => true
  | .leaseRenewal => true
  | .leaderIndex _ => true
  | .epochAdvance => true
  | .proofTest _ _ _ => true
  | .proofResultTimeout _ _ => true
  | .gateClaimFrame _ _ => true
  | .gateCommandFrame _ _ => true
  | .leaseExpiry _ => true
  | .commandApply _ => true
  | .crossCheck _ => true
  | .noleaseHold => true
  | .fenceExpiry _ => true
  | .gateStatusSend => true
  | .siContactChange _ _ _ => true
  | .siFilterExpiry _ _ => true
  | .discrepancyTimeout _ => true
  | .testSourceCheck _ _ _ => true
  | .crossLinkExchange => true
  | .channelFault => true
  | .safetyWatchdogExpiry _ => true
  | .switchFault _ _ => true
  | .testPulse _ _ _ => true
  | .resetPulseRise _ _ => true
  | .resetPulseFall _ _ _ => true
  | .resetStuckClear _ => true
  | .smHb => true
  | .hubHeartbeat m _ _ => mailOk m
  | .hubLost _ => true
  | .caStatus m _ _ => mailOk m
  | .posStatus m _ _ => mailOk m
  | .azimuth m _ _ => mailOk m
  | .tripRequest m _ _ => mailOk m
  | .guardRx m _ _ _ => mailOk m
  | .config m _ _ _ => mailOk m
  | .safetyStatus _ => true
  | .guardTx _ => true
  | .smSend => true
  | .smRxAck => true
  | .smDead => true
  | .azFault _ _ => true
  | .sector _ _ => true
  | .caTimeout _ => true
  | .posPersist _ => true
  | .posTimeout _ => true
  | .guardTxPeriod _ _ _ => true
  | .guardWatchdog _ _ => true
  | .sessionOpen o => orderOk o
  | .challenge p m => portOk p && zdpOk m
  | .challengeExpiry => true
  | .openBlockExpiry => true
  | .sessionClose o => orderOk o
  | .sessionIdleTimeout => true
  | .seal o => orderOk o
  | .password o => orderOk o
  | .passwordReset o => orderOk o
  | .testDemand o => orderOk o
  | .transient _ _ => true
  | .subintervalRoll _ => true
  | .permanentFault _ _ => true
  | .bankSpareCopyDone _ _ => true
  | .healthOrder _ _ => true
  | .hlTest _ => true
  | .hlTestDone _ _ => true
  | .hlReturn _ => true
  | .hlRetire _ => true
  | .scrubNow => true
  | .scrubPass _ => true
  | .alarmRaise _ _ _ => true
  | .overflowDrain => true
  | .eventRaise _ _ _ => true
  | .coalesceInterval _ => true
  | .traceRaise _ _ _ => true
  | .hlRaise _ _ _ => true
  | .cntEvCfgWrite _ _ => true
  | .cntHCfgWrite _ _ => true
  | .clearAll => true
  | .cntSnap => true
  | .armAt => true
  | .snapAtFire => true
  | .snapPeriodic => true
  | .snapComplete => true
  | .flashChunk _ _ => true
  | .flashProgramDone => true
  | .flashErase => true
  | .flashCheck => true
  | .activate _ _ => true
  | .bootResult _ _ => true
  | .rollbackFloor _ => true
  | .keyPin _ => true
  | .reboot => true
  | .datumOrder _ _ => true
  | .layDown _ _ => true
  | .vio33SGood => true
  | .frameAlignment _ _ => true
  | .lineSignalReturn _ _ => true
  | .txTailWrite p _ _ => portOk p
  | .portEnable p _ _ => portOk p
  | .claimRequest _ _ => true
  | .requirementWrite _ _ _ => true
  | .registerRead _ _ _ _ => true
  | .flashCheckDone _ => true
  | .bankCopyBackDone _ => true
  | .caskReadThrough _ _ => true

end Sys2Proof
end

