-- ==== Sys2Proof/Tests/Slice0.lean ====
section
/-! SUPPORT. Tests: values that the spec's worked cases state, commands that are not well formed, and for every
obligation with hypotheses a state and operands that meet them. -/

set_option maxRecDepth 100000
set_option Elab.async false

namespace Sys2Proof.Tests

open Sys2Proof.Machine

/-! ### States of the tests -/

def W0 : State := { State.reset with regs := [], dict := [] }
/-- Running: out of reset, the image entered, CONTROL role. -/
def Wrun : State := (W0.setHub fun h => { h with held := false, por := false, entered := true }).wr Reg.SUP_STRAP_ROLE 1
/-- Running, TB3 (and every base) at 1,000 s. -/
def Wt : State := { Wrun with time := { Wrun.time with bases := [0, 1, 2, 3].map fun n => (n, { sec := 1000 }) } }
def Wcal0 : Calibration := ⟨[[1000, 1000, 1000, 1000], [1000, 1000, 1000, 1000]], [1, 1], List.replicate 32 16384, List.replicate 32 1, [1000], 16384, 16000⟩
def Wcal : State := Wrun.setGauge fun g => { g with cal := some Wcal0 }
def Wwin : GaugeWindow := ⟨[[900, 950, 990, 1000]], [970], [800], 2800⟩
def Wjob : JobSt := { core := 1, cls := 0, ops := 0, fallback := 0, irq := false, cutOnFallback := false, stage := 0, release := 0, released := 0, deadline := 0, resultDst := 0x10000100, resultBytes := 0, fallbackBytes := 0, ckptA := 0, ckptB := 0, ckptBytes := 0, completion := 0x10000200, shiftStride := 0, shiftCount := 0, shiftSteps := 0, accP := 0, accD := 0, accG := 0, tag := 0, parts := [], tfb := 5, cutoff := 9, source := [], prev := none, next := none, serial := 0, tableGen := 0 }
def Wrec : List Byte := [2, 1, 0, 0, 9, 0, 0, 0, 0, 0, 0, 0, 0, 0, 0, 0, 0, 0, 0, 0, 0, 0, 0, 0, 0, 0, 0, 0, 0, 0, 0, 0, 0, 0, 0, 0, 0, 0, 0, 0, 0, 0, 0, 0, 0, 0, 0, 0, 0, 0, 0, 0, 0, 0, 0, 0, 0, 0, 0, 0, 201, 26, 181, 210]
def Wkey : List Byte := [75, 80, 70, 49, 1, 2, 1, 0, 0, 0, 0, 0, 0, 1, 0, 0, 0, 0, 0, 0, 0, 0, 0, 0, 0, 0, 0, 0, 0, 0, 0, 0, 0, 0, 0, 0, 0, 0, 0, 0, 0, 0, 0, 0, 0, 0, 0, 0, 76, 182, 223, 155]
def Wsum : PlanSummary := { claim := 0, setId := 0, planTref := 0, planFlags := 0, estTref := 0, estFlags := 0, north := 0, east := 0, heading := 0, velocity := [], mask := 0, resid := [], violation := 0, signature := [], phase := [], sig := 0, configSig := 0, caCycle := 0, caVerdicts := [], epoch := 0 }
def Wptp : PtpMsg := { kind := .announce, domain := 0, seq := 1, twoStep := false, correction := 0, origin := 0, ingress := 0, logInterval := 0, announce := { priority1 := 1, clockClass := 6, accuracy := 0, variance := 0, priority2 := 1, identity := 9, stepsRemoved := 0, utcOffset := 37 } }
/-- PTP instance 0 enabled on port 3, a FIELD port. -/
def Wport : State := let s := ((Wt.setObjN Obj.PTP_ENABLE 1 0).setObjN Obj.PTP_PORTS 8 0); { s with zdp := { s.zdp with classes := [(4, 4)] } }
/-- The loop engine runs; slot 3 is an enabled TIME slot of 1 ms on TB0 that owns generator 7 (PRBS of order 7). -/
def Wloop : State := let s := (Wt.raise Reg.LE_STATUS_RUN).setSlot 3 fun x => { x with mode := .enabled, cfg := { x.cfg with kind := 1, arg := 0, steps := 1 } }
  (((s.wr Reg.TG_CFG_OWNER 3 7).wr Reg.TG_CFG_KIND 1 7).wr Reg.TG_CFG_ORDER 7 7).wr Reg.TG_SEED_SEED 5 7
/-- Encoder channel 31 runs as a quadrature channel. -/
def Wpf : State := (((((Wt.wr Reg.PFC_STATUS_STATE 1 31).wr Reg.PFC_FILTER_MIN_EDGE 4 31).wr Reg.PFC_SPEEDCFG_WIN_US 100 31).wr Reg.PFC_SPEEDCFG_CHG_EDGES 4 31).wr Reg.PFC_ZERO_ZERO_MS 10 31).wr Reg.PFC_V_FULL_V_FULL 1000 31
/-- Encoder channel 31 runs as a serial channel with a request every 100 µs. -/
def Wser : State := (Wpf.wr Reg.PFC_CFG_MODE 2 31).wr Reg.PFC_SER_PERIOD_PERIOD_US 100 31
/-- Signal chain channel 31 configured and disabled. -/
def Wsc : State := (((((Wt.wr Reg.SC_COMB_DECIM 256 31).wr Reg.SC_COMB_ORDER 3 31).wr Reg.SC_FIR_TAPS 16 31).wr Reg.SC_FIN_FIN_MAX 1000 31).wr Reg.SC_RING_CFG_LOG2 8 31).wr Reg.GAUGE_HUB_DIP_DIP 15000
/-- CAN controller CF15 runs in mode 1. -/
def Wcan : State := (Wt.wr Reg.CAN_STATUS_STATE 1 15).wr Reg.CAN_CTRL_MODE 1 15
/-- Its buffer 31 is pending and its frame is on the bus. -/
def Wcanbus : State := (Wcan.wr Reg.CAN_TX_PEND_PEND 0x80000000 15).setCan 15 fun x => { x with onBus := some (31, 7) }
def Wcanf : CanFrame := ⟨5, false, true, false, 15, true, false, List.replicate 64 0xA5⟩
/-- EM7 runs; its port 8 has class FIELD. -/
def Wem : State := let s := Wt.wr Reg.EM_STATUS_STATE 1 7; { s with zdp := { s.zdp with classes := [(8, 4)] } }
def Wframe : List Byte := List.replicate 60 7
/-- A ZDP datagram of four bytes to 0.0.0.0, without a UDP checksum. -/
def Wudp : List Byte := List.replicate 12 7 ++ [8, 0, 0x45, 0, 0, 32, 0, 0, 0, 0, 0, 17, 0xBA, 0xCE, 0, 0, 0, 0, 0, 0, 0, 0, 0, 0, 0xB8, 0xC5, 0, 12, 0, 0, 1, 2, 3, 4]
/-- SU7 runs in mode 0. -/
def Wsu : State := Wt.wr Reg.SU_STATUS_STATE 1 7
/-- XL3 runs. -/
def Wxl : State := Wt.wr Reg.XL_STATUS_STATE 1 3
def Wpeer (ty : BitVec 8) : PeerFrame := let f : PeerFrame := ⟨ty, 0, 5, 0, 0, 9, [1, 2, 3], 0⟩; { f with crc := BitVec.ofNat 32 (crc32 (peerBytes f)) }
def Wtraj : Trajectory := ⟨1, 5000000000, 0, 3, 0, [], 0⟩
/-- SNAP_AT is armed at 999 s; a forward step of TB0 skipped it. -/
def Wskip : State := let s := (Wt.raise Reg.CNT_STATUS_ARMED).wr Reg.CNT_AT_SEC_LO_SEC 999
  { s with time := { s.time with bases := [(0, { sec := 1000, skipFrom := 998000000000, skipTo := 1000000000000 })] } }
/-- The image has entered and replay is done; port 1 has class ENGINEERING. -/
def Wzdp : State := { Wt.setHub (fun h => { h with replayed := true }) with zdp := { Wt.zdp with classes := [(1, 2)] } }
def WmsgOf (m : ZdpMsg) : ZdpMsg := { m with crc := BitVec.ofNat 32 (crc32 (messageBytes m)) }
def Wmsg0 (kind : BitVec 4) (index : BitVec 16) (sub : BitVec 8) (body : List Byte) : ZdpMsg :=
  ⟨1, kind, 0, 0, 5, 0, 9, index, sub, 0, BitVec.ofNat 16 body.length, 0, 0, body, 0⟩
def Wmsg (kind : BitVec 4) (index : BitVec 16) (sub : BitVec 8) (body : List Byte) : ZdpMsg := WmsgOf (Wmsg0 kind index sub body)
def WmsgFrom (src : BitVec 16) (kind : BitVec 4) (index : BitVec 16) (sub : BitVec 8) (body : List Byte) : ZdpMsg :=
  WmsgOf { Wmsg0 kind index sub body with src := src }
def Wnotify : ZdpMsg := WmsgOf { Wmsg0 5 0x1000 1 [] with kindHigh := 8 }
def Wany : ZdpMsg := WmsgOf { Wmsg0 2 0x1000 1 [] with dst := 0xFFFF }
def Wbulk : ZdpMsg := WmsgOf { Wmsg0 6 0x1000 1 [0, 0, 0, 0, 2, 0, 0, 0] with flags := 16 }
def Wlog : LogRec := { seq := 1, node := 0, code := 5, unit := 0, first := ⟨0, 0⟩, last := ⟨0, 0⟩, coalesced := false, count := 1, detail := [], gap := false }
def Wsub7 : Sub := { id := 7, port := 1, src := 5, tag := 9, index := 0x1000, sub := 1, periodMs := 0, minMs := 0, lifeS := 10, renewed := 0, nseq := 3, waiting := none, lastLeft := none, next := 0, evQueue := [], trQueue := [], trDropped := 0, trFirst := ⟨0, 0⟩, trLast := ⟨0, 0⟩, factor := 1, onTime := 9, late := false }
def Wsub8 : Sub := { Wsub7 with id := 8, index := 0xB820, evQueue := [Wlog] }
def Wsub9 : Sub := { Wsub7 with id := 9, minMs := 65535, lastLeft := some 999999999999 }
def Wsub10 : Sub := { Wsub7 with id := 10, waiting := some (.bytes [1, 2], ⟨0, 0⟩) }
def Wsub : State := { Wzdp with zdp := { Wzdp.zdp with subs := [Wsub7, Wsub8, Wsub9, Wsub10] } }
def Wpow : State := Wt
def Worder : OrderRec := { osn := 7, identity := 5, index := 0x6200, sub := 1, value := [1], device := false, solo := false, target := 0, entry := 0, port := 1, cls := 2, epoch := 0, time := ⟨0, 0⟩ }
/-- The application of order 7 is open. -/
def Wapply : State := (Wt.raise Reg.JE_STATUS_APPLY_OPEN).setJ fun j => { j with apply := some ⟨7, 0, false⟩, ring := [Worder] }
/-- A CONTROL member of a set, with device index 0 and its links up. -/
def Wset : State := (((((Wt.wr Reg.CG_CFG_SET_ID 1).wr Reg.CG_MEMBER01_MEMBER0 1).wr Reg.CG_MEMBER01_MEMBER1 2).wr Reg.CG_MEMBER2_MEMBER2 3).wr Reg.XL_STATUS_STATE 1 0).wr Reg.XL_STATUS_STATE 1 3 |>.setObjN Obj.CLAIM_DEVICE_INDEX 0
def Worder1 : OrderRec := { Worder with osn := 1 }
def Whb : Heartbeat := { claim := 7, sig := 0, setId := 1, epoch := 3, leaderView := 0, xlUp := 1, time := ⟨9, 5⟩, healthCeil := 4000, rankCeil := 12 }
def Wclaim : ClaimFrame := let f : ClaimFrame := ⟨1, 1, 3, 0xCFFF0302, 200, 0, 5, 7, 9, 4, 0⟩; { f with crc := BitVec.ofNat 32 (crc32 (claimBody f)) }
/-- With a node identifier, after replay. -/
def Wnode : State := ((Wset.setHub fun h => { h with replayed := true }).setObjN Obj.NODE_NODE_ID_VALID 1)
def Wcmd : CommandFrame := ⟨2, 1, 3, 0xCFFF0302, 200, 31, 0, 5, 7, 9, 1, 2, 3, 4, 0, 0, 0, 0⟩
/-- The proof test is due; CF15 serves thruster 31. -/
def Wproof : State := ((({ Wset with claims := { Wset.claims with proofDue := true, lastCmd := [(31, some Wcmd)] } } : State).raise Reg.CAN_CTRL_TAP_EN 15).wr Reg.CAN_STATUS_STATE 1 15).setCan 15 fun x => { x with tapMap := [31] }
/-- A claim gate of set 1 that names members 1, 2, 3; CF15 feeds it. -/
def Wgate : State := ((((((((((Wt.setHub fun h => { h with replayed := true }).wr Reg.SUP_STRAP_ROLE 2).wr Reg.CG_CFG_SET_ID 1).wr Reg.CG_MEMBER01_MEMBER0 1).wr Reg.CG_MEMBER01_MEMBER1 2).wr Reg.CG_MEMBER2_MEMBER2 3).raise Reg.CG_MEMBER01_VALID0).raise Reg.CG_MEMBER01_VALID1).raise Reg.CG_MEMBER2_VALID2).raise Reg.CAN_CTRL_GATE_FEED 15).wr Reg.CAN_STATUS_STATE 1 15
/-- A command of member 2 for thruster 31, to be applied 7 ns from now. -/
def Wcmdf : CommandFrame := let f : CommandFrame := ⟨2, 1, 3, 0xCFFF0302, 200, 31, 0, 5, 7, 1000, 1, 2, 3, 4, 0, 0, 0, 0⟩; { f with crc := BitVec.ofNat 32 (crc32 (commandBody f)) }
def Wcmdp : CommandFrame := let f : CommandFrame := ⟨2, 1, 3, 0xCFFF0302, 200, 31, 0, 5, 7, 1000, 1, 2, 3, 4, 0, 1, 0, 0⟩; { f with crc := BitVec.ofNat 32 (crc32 (commandBody f)) }
def Wgc (app : Nat) : GateCmd := ⟨2, app, 0, 0, 0, 0, 0, 0, [0, 0, 0, 0]⟩
def Wcmdl (sec : Nat) : CommandFrame := let f : CommandFrame := ⟨2, 1, 3, 0xCFFF0302, 200, 31, 0, 5, 7, BitVec.ofNat 32 sec, 1, 2, 3, 4, 0, 0, 0, 0⟩; { f with crc := BitVec.ofNat 32 (crc32 (commandBody f)) }
/-- Member 2 holds, and its queue for thruster 31 is full. -/
def Wgateq : State := let s := Wgate.gateTake 15 (commandHead Wcmdf); s.setThr 31 fun x => { x with queue := List.replicate 8 (Wgc 2000000000000) }
/-- The die is live and SEALED, its channels hold no trip. Input 7 is SF1 of thruster 31, which output 7 supplies; input 6 demands zone 7,
which output 6 with thruster 30 serves and whose sector of that thruster is a half turn; output 5 trips while the hub is lost. Connection 15
receives from node 77 on CF15, connection 14 transmits. -/
def Wdie : State := Wt.setSafety fun d => { d with live := true, state := 1, hasSeal := true, chans := [(0, { trip := 0, timeOk := true, anchor := some (0, 999000000000) }), (1, { trip := 0, timeOk := true, anchor := some (0, 999000000000) })], cfg := [(Obj.SI_FUNCTION.key 7 0, Val.num 1), (Obj.SI_THRUSTERS.key 7 0, Val.num 0x80000000), (Obj.SO_FUNCTION.key 7 0, Val.num 1), (Obj.SO_THRUSTERS.key 7 0, Val.num 0x80000000), (Obj.SI_FUNCTION.key 6 0, Val.num 2), (Obj.SI_ZONES.key 6 0, Val.num 0x80), (Obj.SO_FUNCTION.key 6 0, Val.num 2), (Obj.SO_ZONES.key 6 0, Val.num 0x80), (Obj.SO_THRUSTERS.key 6 0, Val.num 0x40000000), (Obj.ZONE_SECTORS.key 7 0, Val.bytes [30, 0, 0, 0, 0, 0x40]), (Obj.SO_FUNCTION.key 5 0, Val.num 3), (Obj.SO_HUB_LOSS.key 5 0, Val.num 1), (Obj.GUARD_DIR.key 15 0, Val.num 1), (Obj.GUARD_CONN_ID.key 15 0, Val.num 9), (Obj.GUARD_PEER.key 15 0, Val.num 77), (Obj.GUARD_PATHS.key 15 0, Val.num 0x8000), (Obj.GUARD_DIR.key 14 0, Val.num 2), (Obj.GUARD_CONN_ID.key 14 0, Val.num 8), (Obj.SI_RESET_INPUT.key 7 0, Val.num 3), (Obj.SO_RESET_INPUT.key 7 0, Val.num 3)] }
/-- Zone 7 is active. -/
def Wzone : State := (Wdie.setChan 0 fun h => { h with zones := 0x80 }).setChan 1 fun h => { h with zones := 0x80 }
/-- A pulse on SRST3 is high. -/
def Wrise : State := Wdie.setSafety fun d => { d with srst := 8, inputFault := 0x80, rises := [(3, some (⟨0, 0, 0x80⟩ : Rise))] }
def Wmail (ty : Nat) (pay : List Byte) : MailMsg := let m : MailMsg := ⟨0, 0, 5, 1000, pay, 0⟩; { m with crc := BitVec.ofNat 32 (safetyCrc (mailBody ty m)) }
def WcaPay : List Byte := let b : List Byte := [0, 0, 0, 0, 3, 0, 0, 8, 0, 0, 0, 0]; b ++ leBytes 4 (crc32 b)
def WposPay : List Byte := let b : List Byte := List.replicate 16 0; b ++ leBytes 4 (crc32 b)
def Wpdu : List Byte := let b : List Byte := leBytes 4 9 ++ leBytes 2 1 ++ [16, 1] ++ leBytes 4 0 ++ leBytes 4 1000 ++ leBytes 4 0 ++ List.replicate 32 0; b ++ leBytes 4 (safetyCrc b)
def WguardPay : List Byte := [24, 0, 0, 0] ++ leBytes 4 0 ++ leBytes 4 1000 ++ Wpdu
def WconnRun : State := Wdie.setChan 1 fun h => { h with conns := [(15, { st := 1 })] }
def Wsess (k : Nat) : State := Wdie.setSafety fun d => { d with state := k + 1, session := some (⟨k, 1, 0, [], 1, true, 0⟩ : Session) }
def Wopen (k : Nat) : OrderRec := { Worder with value := leBytes 4 k ++ List.replicate 28 0 }
/-- Bank 63 runs a copy to spare 2; unit 135 (PF0) is retired, tested and its return ordered. -/
def Wcopy (r : Bool) : State := Wt.setHealth fun h => { h with jobs := [.copyOut 63 2 r] }
def Wretd : State := (Wt.setUnit 135 fun u => { u with state := 4, testedAt := some 999000000000, retireCount := 1, window := [] }).setJ fun j => { j with apply := some ⟨7, 0, false⟩, ring := [{ Worder with index := 0xA020, sub := 1, value := [0, 8, 2, 0] }] }
def Wretire : State := Wt.setJ fun j => { j with apply := some ⟨7, 0, false⟩, ring := [{ Worder with index := 0xA020, sub := 1, value := [0, 9, 3, 0] }] }
def WtestJob : State := Wretd.setHealth fun h => { h with jobs := [.test 135 4 7] }
def Wraise : State := Wt.gristPut 128 (let b : List Byte := List.replicate 124 0; b ++ leBytes 4 (crc32 b))
def WraiseEv : State := Wt.gristPut 64 (let b : List Byte := List.replicate 60 0; b ++ leBytes 4 (crc32 b))
def Wfull : State := Wt.setHealth fun h => { h with units := [(32, { spare := some 0 }), (33, { spare := some 1 }), (34, { spare := some 2 }), (35, { spare := some 3 })] }
def Walarm : AlarmRec := { aseq := 3, node := 0, code := 5, time := {}, unit := 0, peerCopy := false, held := false, overflowed := true, osn := 0, claim := 0, detail := [], text := [] }
def Wkeyed : State := Wt.setHealth fun h => { h with keys := [(recordCode .can "X" * 65536 + 0x600, { coalescing := true, count := 3 })] }
def WnodeF : Found := match (Wzdp.taken 1).firstChecks 1 (Wmsg 2 0x1001 2 [0, 0x40]) .write with | .ok f => f | .error _ => ⟨Obj.NODE_ROLE, 0, 0, false, false⟩

/-- The state that a command answers. -/
def Wnext (c : Instr) (s : State) : State :=
  match exec c s with
  | .next t => t
  | _ => s

/-! ### Commands that are not well formed, one for each check -/

def zdpWith (body : List Byte) : ZdpMsg := ⟨1, 2, 0, 0, 0xFFFF, 0x0012, 0x101, 0x3000, 2, 0, BitVec.ofNat 16 body.length, 0, 0, body, 0⟩
def orderWith (value : List Byte) : OrderRec := ⟨0, 0, 0x5000, 2, value, false, false, 0, 0, 1, 1, 0, stampOf 0⟩

theorem illFormed_port : wellFormed (.portServiceTest 0) = false := by decide
theorem illFormed_zdp : wellFormed (.zdpRead 1 (zdpWith (List.replicate 4097 0))) = false := by decide +kernel
theorem illFormed_order : wellFormed (.seal (orderWith (List.replicate 1017 0))) = false := by decide +kernel
theorem illFormed_orders : wellFormed (.copy 1 0 [orderWith [], orderWith (List.replicate 1017 0)]) = false := by decide +kernel
theorem illFormed_entries : wellFormed (.image 1 0 [⟨65536, 0, []⟩] true) = false := by decide +kernel
theorem illFormed_can : wellFormed (.canFrameReceived 0 ⟨5, false, false, false, 8, false, false, List.replicate 9 0⟩ 0) = false := by
  decide +kernel
theorem illFormed_mail : wellFormed (.caStatus ⟨0, 0, 0, 0, List.replicate 4077 0, 0⟩ 0 0) = false := by decide +kernel
theorem illFormed_peer : wellFormed (.peerFrameReceived 0 ⟨6, 0, 0, 0, 0, 0, List.replicate 4097 0, 0⟩) = false := by decide +kernel
theorem illFormed_gauge : wellFormed (.gaugeWindow Wwin) = false := by decide +kernel
theorem illFormed_stress : wellFormed (.stressUpdate []) = false := by decide +kernel
theorem illFormed_ethernet : wellFormed (.emFrameReceived 0 (List.replicate 65536 0) true 0) = false := by decide +kernel
theorem wellFormed_write : wellFormed (.zdpWrite 1 (zdpWith [0, 0, 0xA0, 0x40])) = true := by decide +kernel

/-! ### Values that the spec states -/

/-- 16_faults_health_logs: "T12 is 0x010C and LP40 is 0x0A28". -/
theorem test_unit_codes : unitOf (slotAt 1 12) = 0x010C ∧ unitOf (slotAt 10 40) = 0x0A28 := by decide

/-- 12_dictionary_ports, worked case: the header bytes of the WRITE and its body, 5.0 as F32. -/
theorem test_write_message : messageBytes (zdpWith (leBytes 4 (toF32 5))) =
    [0x01, 0x02, 0x00, 0x00, 0xFF, 0xFF, 0x12, 0x00, 0x01, 0x01, 0x00, 0x00, 0x00, 0x30, 0x02, 0x00, 0x04, 0x00, 0x00, 0x00,
     0x00, 0x00, 0x00, 0x00, 0x00, 0x00, 0xA0, 0x40] := by decide +kernel

/-- CRC-32 of the result-slot header: its check value over the nine digits, 0xCBF43926 (the parameters of R48's CRC). -/
theorem test_crc32 : crc32 (textBytes "123456789") = 0xCBF43926 := by decide +kernel

/-- SHA-256 of "abc", the example of FIPS 180-4 (R504 names the function). -/
theorem test_sha256 : beNat (sha256 (textBytes "abc")) =
    0xBA7816BF8F01CFEA414140DE5DAE2223B00361A396177A9CB410FF61F20015AD := by decide +kernel

/-- R406: an order holds 20 value bytes in its head record and 40 in each further one. -/
theorem test_record_counts : nrecOf 20 = 1 ∧ nrecOf 21 = 2 ∧ nrecOf 60 = 2 ∧ nrecOf 1016 = 26 := by decide

/-- 02, worked case: the dip factor of T5, 10,496 × 0.78 rounded down, is 0x1FFA. -/
theorem test_dip_factor : toUq214 (uq214 0x2900 * (78 / 100)) = 0x1FFA := by decide +kernel

/-- 11_can_fd: a classical frame with DLC 9 to 15 carries 8 bytes; FD lengths go to 64. -/
theorem test_can_lengths : dlcLen false 15 = 8 ∧ (List.range 16).map (dlcLen true) =
    [0, 1, 2, 3, 4, 5, 6, 7, 8, 12, 16, 20, 24, 32, 48, 64] := by decide

/-- 07_loop_engine, worked case: every word of the program of LP8 is a legal step. -/
theorem test_step_words : [0x2C1080A200000000, 0x1C00030000000148, 0x0610800000000000, 0x1200000000002000,
    0x1A00000000000000, 0x2410900020900000, 0x2410A00020A00000, 0x2410B00020B00000, 0x2200000020800000,
    0x542080A200000000].all stepOk = true := by decide +kernel

/-- 07, worked case: step 0 is SUB, L0 from TRAJ DRIVE 0x108 less PFV2 0x0A2. -/
theorem test_step_fields : stepFields 0x2C1080A200000000 =
    { op := 0x0B, ac := false, w := false, a := 0x108, b := 0x0A2, d := 0, sh := 0, k := 0 } := by decide

/-- 07, worked case: LP8's bound of 148 steps at dip factor 0.4702 (7,704 in UQ2.14) is 1.73 µs. -/
theorem test_loop_bound : boundTens 7704 148 = 173 := by decide

/-- 07, worked case, step 2: inside the forbidden interval from 30° to 60°, the command goes toward 30° at the rate:
7,280 with SECTOR_SAT and RATE_SAT. -/
theorem test_sector_override :
    (limitAngle [(5461 * 256, 10923 * 256)] (some (7282 * 256)) (some 466) 7282).v / 256 = 7280 ∧
    (limitAngle [(5461 * 256, 10923 * 256)] (some (7282 * 256)) (some 466) 7282).status = 6 := by decide

/-- 07, worked case, step 4: 176 internal units above the edge the command lands on it. -/
theorem test_sector_edge :
    (limitAngle [(5461 * 256, 10923 * 256)] (some 1398192) (some 466) 5097).v = 5461 * 256 := by decide

/-- 08_signal_chain, worked case: N = 3 and R = 625 make s = 28. -/
theorem test_comb_growth : ceilLog2 (625 ^ 3) = 28 := by decide

/-- 09_position_feedback, worked case: count 10,000 at P_SCALE 262,144 reads −25,536 in PFP3. -/
theorem test_position_view : wrap16 (10000 * 262144 / 65536) = -25536 := by decide

/-- 05_planning_allocation, worked case: the mapped fraction of the shed and tripped cycle and of the 65 s gap. -/
theorem test_mapped_fraction :
    mappedFraction { mask := 63, scen := 48, branch := 8, horizon := 240 }
      { mask := 55, scen := 64, branch := 8, horizon := 240 } 1 = 11096 / 14856 ∧
    mappedFraction { mask := 63, scen := 64, branch := 8, horizon := 240 }
      { mask := 63, scen := 64, branch := 8, horizon := 240 } 131 = 6472 / 14856 := by decide +kernel

/-- R440: epoch 255 is older than epoch 0, and epoch 0 is not older than itself. -/
theorem test_epoch_order : epochOlder 255 0 = true ∧ epochOlder 0 0 = false ∧ epochOlder 0 128 = false := by decide

/-- 17_counters, worked case: with SHIFT 4 a latency of 1,720 ns falls in bin 7, and one of 80 µs in bin 13. -/
theorem test_histogram_bins :
    (((Wrun.wr Reg.CNT_H_CFG_SHIFT 4 5).histAdd 5 1720).rd Reg.CNT_H_BIN_COUNT 5 7 = 1) ∧
    (((Wrun.wr Reg.CNT_H_CFG_SHIFT 4 5).histAdd 5 80000).rd Reg.CNT_H_BIN_COUNT 5 13 = 1) := by decide +kernel

/-- 14_redundancy_claims, worked case: member B (index 1, epoch 5, health 3,967) claims 0xCF7F_0501 as leader. -/
theorem test_claim_number :
    ((((((Wrun.wr Reg.CG_CLAIM_REQ_RANK 12).wr Reg.CG_CEILING_RANK_CEIL 12).wr Reg.CG_CLAIM_REQ_HEALTH 3967).wr
      Reg.CG_CEILING_HEALTH_CEIL 4095).wr Reg.CG_CFG_EPOCH 5).wr Reg.CG_CFG_INDEX 1).claimNumber = 0xCF7F0501 := by
  decide +kernel

/-- 18_startup_firmware, worked case: 769 chunks of 4,088 bytes and one of 2,056 make the image. -/
theorem test_image_chunks : 769 * 4088 + 2056 = 3145728 := by decide

/-- 11_can_fd, worked case, step 1: a missing acknowledgement of an error-active node raises TEC from 0 to 8. -/
theorem test_ack_error : (Wnext (.canBusError 15 .ack true false) Wcanbus).rd Reg.CAN_ECNT_TEC 15 = 8 := by decide +kernel

/-! ### Single steps -/

/-- R476 and the worked case of Safety: the die stays untouched by an empty tick of the hub's queue. -/
theorem test_idle_keeps_elements : (match step State.reset with | .next t => t.energized | _ => 1) = 0 := by decide +kernel

/-- R545: the restart key resets the hub; any other value does not. -/
theorem test_restart_key : (Wnext (.supRestart 0x52535452) Wrun).hub.held = true ∧
    (Wnext (.supRestart 0x52535453) Wrun).hub.held = false := by decide +kernel

/-- The queue is first in, first out. -/
theorem test_queue_order : (match step { Wrun with pending := [.supRestart 1, .vsafeGood] } with
    | .next t => t.pending | _ => []) = [.vsafeGood] := by decide +kernel

/-! ### States and operands that meet the hypotheses of the statements -/

/-- States and operands that meet the hypotheses of each clause of `ResetCommands`. -/
theorem witness_ResetCommands :
    ((Wrun.hub.held && Wrun.hub.por) = false) ∧
    ((Wrun.hub.held && Wrun.hub.por) = false) ∧
    ((Wrun.hub.held && Wrun.hub.por) = false) ∧
    ((5 : Word) ≠ 0x52535452) :=
  ⟨by decide +kernel, by decide +kernel, by decide +kernel, by decide +kernel⟩

/-- States and operands that meet the hypotheses of each clause of `WatchdogCommands`. -/
theorem witness_WatchdogCommands :
    (W0.flag Reg.SUP_WDT_CFG_EN = false) ∧
    ((W0.raise Reg.SUP_WDT_CFG_EN : State).flag Reg.SUP_WDT_CFG_EN = true) ∧
    ((((Wt.raise Reg.SUP_WDT_CFG_EN).wr Reg.SUP_WDT_CFG_CORE_MASK 8 : State).watchdogLate = true) ∧
      ((((Wt.raise Reg.SUP_WDT_CFG_EN).wr Reg.SUP_WDT_CFG_CORE_MASK 8 : State).hub.held && ((Wt.raise Reg.SUP_WDT_CFG_EN).wr Reg.SUP_WDT_CFG_CORE_MASK 8 : State).hub.por) = false)) ∧
    (((Wt.setHub fun h => { h with trial := some (0, 300) } : State).hub.trial.isSome = true) ∧
      ((Wt.setHub fun h => { h with trial := some (0, 300) } : State).trialLeft = 0) ∧
      (((Wt.setHub fun h => { h with trial := some (0, 300) } : State).hub.held && (Wt.setHub fun h => { h with trial := some (0, 300) } : State).hub.por) = false)) :=
  ⟨by decide +kernel, by decide +kernel, by decide +kernel, by decide +kernel⟩

/-- States and operands that meet the hypotheses of each clause of `StartCommands`. -/
theorem witness_StartCommands :
    ((W0.hub.held = true) ∧ (W0.health.exhausted = false)) ∧
    (((Wrun.setHub fun h => { h with entered := false, trying := [0] } : State).hub.held = false) ∧
      ((Wrun.setHub fun h => { h with entered := false, trying := [0] } : State).hub.entered = false) ∧
      ((Wrun.setHub fun h => { h with entered := false, trying := [0] } : State).hub.trying = (0) :: ([] : List Nat))) ∧
    ((Wrun.raise Reg.GRIST_STATUS_REPLANNING : State).flag Reg.GRIST_STATUS_REPLANNING = true) ∧
    ((Wrun.hub.entered = true) ∧ (Wrun.hub.replayed = false)) ∧
    ((Wrun.hub.held && Wrun.hub.por) = false) :=
  ⟨by decide +kernel, by decide +kernel, by decide +kernel, by decide +kernel, by decide +kernel⟩

/-- States and operands that meet the hypotheses of each clause of `FlashCommands`. -/
theorem witness_FlashCommands :
    ((Wrun.hub.job = .idle) ∧ (1 ≤ ([1, 2] : List Byte).length) ∧ (([1, 2] : List Byte).length ≤ 4088) ∧
      ((8 : Word).toNat % 8 = 0)) ∧
    ((Wrun.setHub fun h => { h with job := .erasing } : State).hub.job ≠ .idle) ∧
    ((Wrun.setHub fun h => { h with job := .programming 8 [1, 2] } : State).hub.job = .programming (8) ([1, 2])) ∧
    ((Wrun.setHub fun h => { h with job := .erasing } : State).hub.job = .erasing) ∧
    (Wrun.hub.job = .idle) ∧
    (Wrun.hub.job = .idle) ∧
    ((Wrun.setHub fun h => { h with job := .checking } : State).hub.job = .checking) ∧
    ((Wrun.setHub fun h => { h with check := some 0 } : State).activateRefusal (1 : BitVec 8).toNat (0 : BitVec 8).toNat = 0) ∧
    (Wrun.floorRefusal (0 : Word).toNat = 0) ∧
    (Wrun.pinRefusal (List.replicate 32 0 : List Byte) = 0) ∧
    (((Wrun.wr Reg.SUP_BOOT_SLOT 2 : State).rebootRefusal = 0) ∧
      (((Wrun.wr Reg.SUP_BOOT_SLOT 2 : State).hub.held && (Wrun.wr Reg.SUP_BOOT_SLOT 2 : State).hub.por) = false)) ∧
    (Wrun.inRecovery = false) :=
  ⟨by decide +kernel, by decide +kernel, by decide +kernel, by decide +kernel, by decide +kernel, by decide +kernel,
    by decide +kernel, by decide +kernel, by decide +kernel, by decide +kernel, by decide +kernel, by decide +kernel⟩

/-- States and operands that meet the hypotheses of each clause of `GaugeMeasurements`. -/
theorem witness_GaugeMeasurements :
    (Wrun.fabric.gauge.cal = none) ∧
    (((((Wt.setGtile 3 fun g => { g with okSince := some 5 }).raise Reg.GAUGE_FLAGS_BREACH 3 : State).gtile (3 : Fin 32)).okSince = some (5)) ∧
      (((Wt.setGtile 3 fun g => { g with okSince := some 5 }).raise Reg.GAUGE_FLAGS_BREACH 3 : State).elapsed (5) 100000000 = true)) ∧
    ((((Wt.setGtile 3 fun g => { g with breachAt := some 5 } : State).gtile (3 : Fin 32)).breachAt = some (5)) ∧
      ((Wt.setGtile 3 fun g => { g with breachAt := some 5 } : State).elapsed (5) 10000000000 = true) ∧
      (((Wt.setGtile 3 fun g => { g with breachAt := some 5 } : State).gtile (3 : Fin 32)).alarmed = false)) ∧
    ((Wcal.fabric.gauge.cal = some Wcal0) ∧ ((1) < 32) ∧ (Wcal.tilePowered (1) = true)) ∧
    (((3) < 32) ∧ (((Wcal.wr Reg.SUP_STRAP_ROLE 2) : State).tilePowered (3) = false)) :=
  ⟨by decide +kernel, by decide +kernel, by decide +kernel, by decide +kernel, by decide +kernel⟩

/-- States and operands that meet the hypotheses of each clause of `DipAndStress`. -/
theorem witness_DipAndStress :
    ((Wrun.dip = false) ∧ ((2719 : BitVec 16).toNat < 2720)) ∧
    (2720 ≤ (2720 : BitVec 16).toNat) ∧
    (((Wt.raise Reg.GAUGE_STATUS_DIP : State).dip = true) ∧
      ((Wt.raise Reg.GAUGE_STATUS_DIP : State).flag Reg.GAUGE_STATUS_DIP_LONG = false) ∧
      ((Wt.raise Reg.GAUGE_STATUS_DIP : State).elapsed (Wt.raise Reg.GAUGE_STATUS_DIP : State).fabric.gauge.dipAt 500000000 = true)) ∧
    ((Wrun.flag Reg.GAUGE_STATUS_TEMP_HIGH = false) ∧ (1120 < signed 16 (1121 : BitVec 16).toNat)) ∧
    (signed 16 (1120 : BitVec 16).toNat ≤ 1120) ∧
    (((31) < 32) ∧ ((Wcal.wr Reg.SUP_STRAP_ROLE 2 : State).tilePowered (31) = false)) ∧
    (Wcal.fabric.gauge.ring.length < 1792) :=
  ⟨by decide +kernel, by decide +kernel, by decide +kernel, by decide +kernel, by decide +kernel, by decide +kernel,
    by decide +kernel⟩

/-- States and operands that meet the hypotheses of each clause of `AdmissionCommands`. -/
theorem witness_AdmissionCommands :
    ((Wrun.raise Reg.GRIST_VERDICT_PENDING 1 : State).flag Reg.GRIST_VERDICT_PENDING (1 : Fin 4) = true) ∧
    (Wrun.flag Reg.GRIST_VERDICT_PENDING (3 : Fin 4) = false) ∧
    (Map.get none (Wrun.setGrist fun g => { g with open_ := [(2, some ⟨128, 0, false, 5⟩)] } : State).fabric.grist.open_ (2 : Fin 4) = some (⟨128, 0, false, 5⟩ : Decision)) ∧
    (Map.get none Wrun.fabric.grist.open_ (2 : Fin 4) = none) ∧
    (((Wt.setGrist (fun g => { g with jobs := [(4, some Wjob)] }) : State).job (4 : BitVec 8).toNat = some Wjob) ∧
      (Wjob.phase = .waiting) ∧ (Wjob.prev = none) ∧
      (Wjob.release ≤ (Wt.setGrist (fun g => { g with jobs := [(4, some Wjob)] }) : State).tb3)) ∧
    (((Wrun.setGrist (fun g => { g with jobs := [(4, some { Wjob with release := 7 })] }) : State).job (4 : BitVec 8).toNat = some ({ Wjob with release := 7 })) ∧
      ((Wrun.setGrist (fun g => { g with jobs := [(4, some { Wjob with release := 7 })] }) : State).tb3 < ({ Wjob with release := 7 }).release)) ∧
    (((Wt.setGrist (fun g => { g with jobs := [(4, some { Wjob with phase := .running })] }) : State).job (4 : BitVec 8).toNat = some ({ Wjob with phase := .running })) ∧
      (({ Wjob with phase := .running }).phase = .running) ∧
      (({ Wjob with phase := .running }).cutoff ≤ ((Wt.setGrist (fun g => { g with jobs := [(4, some { Wjob with phase := .running })] }) : State).tb3 : Rat))) ∧
    (((Wrun.setGrist (fun g => { g with jobs := [(4, some Wjob)] }) : State).job (4 : BitVec 8).toNat = some Wjob) ∧
      (((Wrun.setGrist (fun g => { g with jobs := [(4, some Wjob)] }) : State).tb3 : Rat) < Wjob.cutoff)) ∧
    (((Wt.setGrist (fun g => { g with jobs := [(4, some { Wjob with phase := .complete })] }) : State).job (4 : BitVec 8).toNat = some ({ Wjob with phase := .complete })) ∧
      (({ Wjob with phase := .complete }).phase = .complete ∨ ({ Wjob with phase := .complete }).phase = .fallback)) ∧
    (((Wt.setGrist (fun g => { g with jobs := [(4, some Wjob)] }) : State).job (4 : BitVec 8).toNat = some Wjob) ∧
      (Wjob.phase = .waiting ∨ Wjob.phase = .running)) :=
  ⟨by decide +kernel, by decide +kernel, by decide +kernel, by decide +kernel, by decide +kernel, by decide +kernel,
    by decide +kernel, by decide +kernel, by decide +kernel, by decide +kernel⟩

/-- States and operands that meet the hypotheses of each clause of `TileCommands`. -/
theorem witness_TileCommands :
    ((Wrun.tile (31 : Fin 32)).cur = none) ∧
    ((((Wrun.setTile 31 (fun x => { x with cur := some ⟨4, 0, 0⟩ }) : State).tile (31 : Fin 32)).cur = some (⟨4, 0, 0⟩ : OpRun)) ∧
      ((Wrun.setTile 31 (fun x => { x with cur := some ⟨4, 0, 0⟩ }) : State).job (⟨4, 0, 0⟩ : OpRun).ctx = none)) ∧
    ((((Wrun.setTile 31 (fun x => { x with cur := some ⟨4, 0, 0⟩ }) : State).tile (31 : Fin 32)).cur = some (⟨4, 0, 0⟩ : OpRun)) ∧
      (((Wrun.setTile 31 (fun x => { x with cur := some ⟨4, 0, 0⟩ }) : State).tile (31 : Fin 32)).dmas = [])) ∧
    ((Wrun.tile (31 : Fin 32)).dmas = []) ∧
    (((Wrun.setTile 31 (fun x => { x with dmas := [⟨4, 0, 0⟩] }) : State).tile (31 : Fin 32)).dmas = (⟨4, 0, 0⟩ : OpRun) :: ([] : List OpRun)) ∧
    (Wrun.tilePowered (31 : Fin 32) = true) ∧
    (Wrun.tilePowered (31 : Fin 32) = true) ∧
    ((Wrun.wr Reg.SUP_STRAP_ROLE 2 : State).tilePowered (31 : Fin 32) = false) ∧
    (Wrun.tileInService (31 : Fin 32) = true) ∧
    ((Wrun.setTile 31 (fun x => { x with mode := .offline }) : State).tileInService (31 : Fin 32) = false) ∧
    (((Wrun.setTile 31 (fun x => { x with mode := .offline }) : State).tilePowered (31 : Fin 32) = true) ∧
      (((Wrun.setTile 31 (fun x => { x with mode := .offline }) : State).tile (31 : Fin 32)).mode = .offline)) ∧
    ((Wrun.tile (31 : Fin 32)).mode = .normal) ∧
    (((Wrun.setTile 31 (fun x => { x with mode := .bist }) : State).tile (31 : Fin 32)).mode = .bist) ∧
    ((((Wrun.setTile 31 (fun x => { x with mode := .bist }) : State).tile (31 : Fin 32)).mode = .bist) ∧
      ((Wrun.setTile 31 (fun x => { x with mode := .bist }) : State).retired (31 : Fin 32) = false)) ∧
    ((Wrun.tile (31 : Fin 32)).mode ≠ .bist) ∧
    (((Wrun.setTile 31 (fun x => { x with mode := .offline }) : State).tilePowered (31 : Fin 32) = true) ∧
      (((Wrun.setTile 31 (fun x => { x with mode := .offline }) : State).tile (31 : Fin 32)).mode = .offline)) ∧
    ((Wrun.tile (31 : Fin 32)).mode = .normal) ∧
    (((2 : Fin 4).val < 3) ∧ (Wrun.retired (96 + (2 : Fin 4).val) = false)) ∧
    (((2 : Fin 4).val < 3) ∧
      (((Wrun.setUnit 98 fun u => { u with state := 3 }) : State).retired (96 + (2 : Fin 4).val) = true)) :=
  ⟨by decide +kernel, by decide +kernel, by decide +kernel, by decide +kernel, by decide +kernel, by decide +kernel,
    by decide +kernel, by decide +kernel, by decide +kernel, by decide +kernel, by decide +kernel, by decide +kernel,
    by decide +kernel, by decide +kernel, by decide +kernel, by decide +kernel, by decide +kernel, by decide +kernel,
    by decide +kernel⟩

/-- States and operands that meet the hypotheses of each clause of `PipelineCommands`. -/
theorem witness_PipelineCommands :
    (((Wrun.wr Reg.TB_STATUS_STATE 2 : State).gateRole = false) ∧
      ((Wrun.wr Reg.TB_STATUS_STATE 2 : State).pipeRun = false) ∧
      ((Wrun.wr Reg.TB_STATUS_STATE 2 : State).tb0Locked = true)) ∧
    ((Wrun.wr Reg.SUP_STRAP_ROLE 2 : State).gateRole = true) ∧
    (Wt.fabric.pipe.boundary ≠ some (Wt.now 0 / 10000000000 * 10)) ∧
    ((Wrun.setPipe fun p => { p with boundary := some 0 } : State).fabric.pipe.boundary = some ((Wrun.setPipe fun p => { p with boundary := some 0 } : State).now 0 / 10000000000 * 10)) ∧
    ((Wrun.gateRole = false) ∧ (reportOf (leAt ([(5 : Byte), 0] : List Byte) 0 1) = some (5)) ∧
      (([(5 : Byte), 0] : List Byte).length ≠ 64)) ∧
    ((Wt.gateRole = false) ∧ (reportOf (leAt (Wrec : List Byte) 0 1) = some (2)) ∧ ((Wrec : List Byte).length = 64) ∧
      (crc32 ((Wrec : List Byte).take 60) = leAt (Wrec : List Byte) 60 4)) ∧
    ((Wt.raise Reg.TU_STATUS_PIPE_RUN : State).pipeRun = true) ∧
    (Wt.pipeRun = false) ∧
    ((floatFinite 11 52 (0x3FF0000000000000 : BitVec 64).toNat = true) ∧
      (floatFinite 11 52 (0 : BitVec 64).toNat = true)) ∧
    (floatFinite 11 52 (0x7FF0000000000000 : BitVec 64).toNat = false) ∧
    ((0 : BitVec 8).toNat ≠ 1) ∧
    (((((Wrun.setStage 1 fun x => { x with latest := some 0x10000000 }).setRef 3 (fun q => { q with fresh_ := [MeasRec.ofBytes Wrec] }) : State).stage 1).latest = some (0x10000000)) ∧
      (((((Wrun.setStage 1 fun x => { x with latest := some 0x10000000 }).setRef 3 (fun q => { q with fresh_ := [MeasRec.ofBytes Wrec] }) : State).ref (3 : Fin 24)).fresh_ ++ (((Wrun.setStage 1 fun x => { x with latest := some 0x10000000 }).setRef 3 (fun q => { q with fresh_ := [MeasRec.ofBytes Wrec] }) : State).ref (3 : Fin 24)).window).getLast? = some (MeasRec.ofBytes Wrec))) ∧
    ((Wrun.stage 1).latest = none) ∧
    ((Wt.raise Reg.TU_STATUS_PIPE_RUN : State).pipeRun = true) ∧
    (Wt.pipeRun = false) :=
  ⟨by decide +kernel, by decide +kernel, by decide +kernel, by decide +kernel, by decide +kernel, by decide +kernel,
    by decide +kernel, by decide +kernel, by decide +kernel, by decide +kernel, by decide +kernel, by decide +kernel,
    by decide +kernel, by decide +kernel, by decide +kernel⟩

/-- States and operands that meet the hypotheses of each clause of `VisualAndConsequence`. -/
theorem witness_VisualAndConsequence :
    ((Wrun.gateRole = false) ∧ (keypointOk ([1, 2] : List Byte) = false)) ∧
    ((({ Wrun with zdp := { Wrun.zdp with classes := [(3, 4)] } } : State).gateRole = false) ∧
      (keypointOk (Wkey : List Byte) = true) ∧
      (({ Wrun with zdp := { Wrun.zdp with classes := [(3, 4)] } } : State).classOf ((2 : Fin 8).val + 1) = 4)) ∧
    ((Wrun.wr Reg.SUP_STRAP_ROLE 2 : State).gateRole = true) ∧
    ((((Wt.setObjN Obj.CAM_ENABLE 1 3).takeSettings.setVis (fun v => { v with lastAt := [(3, some 9)] }) : State).cfgB Obj.CAM_ENABLE (3 : Fin 4) = true) ∧
      (Map.get none ((Wt.setObjN Obj.CAM_ENABLE 1 3).takeSettings.setVis (fun v => { v with lastAt := [(3, some 9)] }) : State).stages.vis.lastAt (3 : Fin 4) = some (9)) ∧
      (((Wt.setObjN Obj.CAM_ENABLE 1 3).takeSettings.setVis (fun v => { v with lastAt := [(3, some 9)] }) : State).elapsed (9) 3000000000 = true)) ∧
    (Wt.cfgB Obj.CAM_ENABLE (3 : Fin 4) = false) ∧
    ((((Wt.raise Reg.TU_STATUS_PIPE_RUN).setObjN Obj.VIS_VIS_ENABLE 1 : State).pipeRun = true) ∧
      (((Wt.raise Reg.TU_STATUS_PIPE_RUN).setObjN Obj.VIS_VIS_ENABLE 1 : State).objB Obj.VIS_VIS_ENABLE = true)) ∧
    (Wt.pipeRun = false) ∧
    ((((Wt.raise Reg.TU_STATUS_PIPE_RUN).setObjN Obj.CA_CA_ENABLE 1 : State).pipeRun = true) ∧
      (((Wt.raise Reg.TU_STATUS_PIPE_RUN).setObjN Obj.CA_CA_ENABLE 1 : State).objB Obj.CA_CA_ENABLE = true)) ∧
    (Wt.pipeRun = false) ∧
    (((Wt.setCa (fun y => { y with submitted := false }) : State).stages.ca.submitted = false) ∧
      ((Wt.setCa (fun y => { y with submitted := false }) : State).stages.ca.schedule.all (fun c => ((Wt.setCa (fun y => { y with submitted := false }) : State).caseSt c).judged) = true)) ∧
    ((Wt.setCa (fun y => { y with submitted := true }) : State).stages.ca.submitted = true) ∧
    ((({ (Wt.raise Reg.TU_STATUS_PIPE_RUN).setStage 3 (fun x => { x with latest := some 0x10000000 }) with claims := { ownSummary := some Wsum } } : State).claims.ownSummary = some Wsum) ∧
      ((({ (Wt.raise Reg.TU_STATUS_PIPE_RUN).setStage 3 (fun x => { x with latest := some 0x10000000 }) with claims := { ownSummary := some Wsum } } : State).stage 3).latest = some (0x10000000)) ∧
      (({ (Wt.raise Reg.TU_STATUS_PIPE_RUN).setStage 3 (fun x => { x with latest := some 0x10000000 }) with claims := { ownSummary := some Wsum } } : State).pipeRun = true) ∧
      (({ (Wt.raise Reg.TU_STATUS_PIPE_RUN).setStage 3 (fun x => { x with latest := some 0x10000000 }) with claims := { ownSummary := some Wsum } } : State).claims.votedFor ≠ some Wsum.planTref) ∧
      (Wsum.planTref + ({ (Wt.raise Reg.TU_STATUS_PIPE_RUN).setStage 3 (fun x => { x with latest := some 0x10000000 }) with claims := { ownSummary := some Wsum } } : State).phaseMs 4 * 1000000 ≤ ({ (Wt.raise Reg.TU_STATUS_PIPE_RUN).setStage 3 (fun x => { x with latest := some 0x10000000 }) with claims := { ownSummary := some Wsum } } : State).now 0 + 505000000)) ∧
    (Wt.claims.ownSummary = none) ∧
    ((({ Wt with claims := { ownSummary := some Wsum, votedFor := some 0 } } : State).claims.ownSummary = some Wsum) ∧
      (({ Wt with claims := { ownSummary := some Wsum, votedFor := some 0 } } : State).claims.votedFor = some Wsum.planTref)) :=
  ⟨by decide +kernel, by decide +kernel, by decide +kernel, by decide +kernel, by decide +kernel, by decide +kernel,
    by decide +kernel, by decide +kernel, by decide +kernel, by decide +kernel, by decide +kernel, by decide +kernel,
    by decide +kernel, by decide +kernel⟩

/-- States and operands that meet the hypotheses of each clause of `TimeBaseCommands`. -/
theorem witness_TimeBaseCommands :
    (((3000000007) = ((Wt.wr Reg.TB_STEP_SEC_STEP_SEC 3 1).wr Reg.TB_STEP_NS_STEP_NS 7 1 : State).rdS Reg.TB_STEP_SEC_STEP_SEC (1 : Fin 4) * 1000000000 + (if bitOf (((Wt.wr Reg.TB_STEP_SEC_STEP_SEC 3 1).wr Reg.TB_STEP_NS_STEP_NS 7 1 : State).rd Reg.TB_STEP_NS_STEP_NS (1 : Fin 4)) 31 then -((((Wt.wr Reg.TB_STEP_SEC_STEP_SEC 3 1).wr Reg.TB_STEP_NS_STEP_NS 7 1 : State).rd Reg.TB_STEP_NS_STEP_NS (1 : Fin 4) % 2 ^ 31 : Nat) : Int) else ((((Wt.wr Reg.TB_STEP_SEC_STEP_SEC 3 1).wr Reg.TB_STEP_NS_STEP_NS 7 1 : State).rd Reg.TB_STEP_NS_STEP_NS (1 : Fin 4) % 2 ^ 31 : Nat) : Int))) ∧
      (((Wt.wr Reg.TB_STEP_SEC_STEP_SEC 3 1).wr Reg.TB_STEP_NS_STEP_NS 7 1 : State).rd Reg.TB_STEP_NS_STEP_NS (1 : Fin 4) % 2 ^ 31 < 1000000000) ∧
      (((Wt.wr Reg.TB_STEP_SEC_STEP_SEC 3 1).wr Reg.TB_STEP_NS_STEP_NS 7 1 : State).stepRefused (1 : Fin 4) (3000000007) = false) ∧
      (∀ m < 4, ((Wt.wr Reg.TB_STEP_SEC_STEP_SEC 3 1).wr Reg.TB_STEP_NS_STEP_NS 7 1 : State).source m ≠ 4)) ∧
    (1000000000 ≤ (Wt.wr Reg.TB_STEP_NS_STEP_NS 1000000000 0 : State).rd Reg.TB_STEP_NS_STEP_NS (0 : Fin 4) % 2 ^ 31) ∧
    ((3) < 4) ∧
    ((((Wt.setObjN Obj.TB_SOURCE 1 1).wr Reg.TB_STATUS_STATE 2 1 : State).source (1 : Fin 4) = 1 ∨ ((Wt.setObjN Obj.TB_SOURCE 1 1).wr Reg.TB_STATUS_STATE 2 1 : State).source (1 : Fin 4) = 2 ∨ ((Wt.setObjN Obj.TB_SOURCE 1 1).wr Reg.TB_STATUS_STATE 2 1 : State).source (1 : Fin 4) = 3) ∧
      (((Wt.setObjN Obj.TB_SOURCE 1 1).wr Reg.TB_STATUS_STATE 2 1 : State).rd Reg.TB_STATUS_STATE (1 : Fin 4) = 2)) ∧
    (((Wt.setObjN Obj.TB_SOURCE 4 1) : State).source (1 : Fin 4) = 0 ∨ ((Wt.setObjN Obj.TB_SOURCE 4 1) : State).source (1 : Fin 4) = 4) ∧
    ((((((Wt.setServo 1 fun v => { v with holdAt := some 5 }).wr Reg.TB_STATUS_STATE 3 1).setObjN Obj.TB_HOLDOVER_MAX 10 1 : State).servo (1 : Fin 4)).holdAt = some (5)) ∧
      ((((Wt.setServo 1 fun v => { v with holdAt := some 5 }).wr Reg.TB_STATUS_STATE 3 1).setObjN Obj.TB_HOLDOVER_MAX 10 1 : State).rd Reg.TB_STATUS_STATE (1 : Fin 4) = 3) ∧
      (((((Wt.setServo 1 fun v => { v with holdAt := some 5 }).wr Reg.TB_STATUS_STATE 3 1).setObjN Obj.TB_HOLDOVER_MAX 10 1 : State).servo (1 : Fin 4)).alarmed = false) ∧
      ((((Wt.setServo 1 fun v => { v with holdAt := some 5 }).wr Reg.TB_STATUS_STATE 3 1).setObjN Obj.TB_HOLDOVER_MAX 10 1 : State).elapsed (5) ((((Wt.setServo 1 fun v => { v with holdAt := some 5 }).wr Reg.TB_STATUS_STATE 3 1).setObjN Obj.TB_HOLDOVER_MAX 10 1 : State).objN Obj.TB_HOLDOVER_MAX (1 : Fin 4) * 1000000000) = true)) ∧
    ((((Wt.setServo 1 fun v => { v with holdAt := some 5, alarmed := true }) : State).servo (1 : Fin 4)).alarmed = true) ∧
    (4 < (Wt.wr Reg.CG_CLAIM_CLAIM 0x80000000 : State).claimRank) ∧
    ((Wt.raise Reg.TU_STATUS_PIPE_RUN : State).claimRank ≤ 4) :=
  ⟨by decide +kernel, by decide +kernel, by decide +kernel, by decide +kernel, by decide +kernel, by decide +kernel,
    by decide +kernel, by decide +kernel, by decide +kernel⟩

/-- States and operands that meet the hypotheses of each clause of `PtpAndPpsCommands`. -/
theorem witness_PtpAndPpsCommands :
    (Wt.ptpPort (1 : Fin 2) (7 : Fin 8) = false ∨ (Wptp : PtpMsg).domain ≠ Wt.objN Obj.PTP_DOMAIN (1 : Fin 2)) ∧
    ((Wport.ptpPort (0 : Fin 2) (3 : Fin 8) = true) ∧
      ((Wptp : PtpMsg).domain = Wport.objN Obj.PTP_DOMAIN (0 : Fin 2)) ∧ ((Wptp : PtpMsg).kind = .announce)) ∧
    ((Wport.ptpPort (0 : Fin 2) (3 : Fin 8) = true) ∧
      (({ Wptp with kind := .management } : PtpMsg).kind = .management)) ∧
    (Wt.ptpPort (1 : Fin 2) (7 : Fin 8) = false) ∧
    (((Wport.setPtp 0 (fun v => { v with master := true }) : State).ptpPort (0 : Fin 2) (3 : Fin 8) = true) ∧
      (((Wport.setPtp 0 (fun v => { v with master := true }) : State).ptpInst (0 : Fin 2)).master = true)) ∧
    (((Wt.raise Reg.PPI_CFG_ENABLE 3 : State).flag Reg.PPI_CFG_ENABLE (3 : Fin 4) = true) ∧
      ((Wt.raise Reg.PPI_CFG_ENABLE 3 : State).flag Reg.PPI_CFG_EDGE (3 : Fin 4) = false) ∧
      ((Wt.raise Reg.PPI_CFG_ENABLE 3 : State).syncArmed 2 = false) ∧
      (Map.get {} (Wt.raise Reg.PPI_CFG_ENABLE 3 : State).time.ppsIn (3 : Fin 4) = {})) ∧
    (Wt.flag Reg.PPI_CFG_ENABLE (3 : Fin 4) = false) ∧
    ((Wt.raise Reg.PPI_CFG_ENABLE 3 : State).flag Reg.PPI_CFG_ENABLE (3 : Fin 4) = true) ∧
    (Wt.flag Reg.PPI_CFG_ENABLE (3 : Fin 4) = false) ∧
    (((((Wt.raise Reg.PPO_CFG_ENABLE 1).wr Reg.PPO_CFG_BASE 3 1).setObjN Obj.TB_SOURCE 1 3 : State).flag Reg.PPO_CFG_ENABLE (1 : Fin 2) = true) ∧
      ((((Wt.raise Reg.PPO_CFG_ENABLE 1).wr Reg.PPO_CFG_BASE 3 1).setObjN Obj.TB_SOURCE 1 3 : State).rd Reg.PPO_CFG_BASE (1 : Fin 2) = 3) ∧
      ((((Wt.raise Reg.PPO_CFG_ENABLE 1).wr Reg.PPO_CFG_BASE 3 1).setObjN Obj.TB_SOURCE 1 3 : State).source 3 = 1) ∧
      ((((Wt.raise Reg.PPO_CFG_ENABLE 1).wr Reg.PPO_CFG_BASE 3 1).setObjN Obj.TB_SOURCE 1 3 : State).rdS Reg.PPO_OFFSET_OFFSET_NS (1 : Fin 2) = 0) ∧
      ((((Wt.raise Reg.PPO_CFG_ENABLE 1).wr Reg.PPO_CFG_BASE 3 1).setObjN Obj.TB_SOURCE 1 3 : State).fires 3 ((((Wt.raise Reg.PPO_CFG_ENABLE 1).wr Reg.PPO_CFG_BASE 3 1).setObjN Obj.TB_SOURCE 1 3 : State).tb3 / 1000000000 * 1000000000) = true) ∧
      (Map.get {} (((Wt.raise Reg.PPO_CFG_ENABLE 1).wr Reg.PPO_CFG_BASE 3 1).setObjN Obj.TB_SOURCE 1 3 : State).time.ppsOut (1 : Fin 2) = {})) ∧
    (Wt.flag Reg.PPO_CFG_ENABLE (1 : Fin 2) = false) ∧
    ((({ (Wt.setObjN Obj.TB_SOURCE 3 1) with time := { Wt.time with ppsIn := [(0, { lastQualified := some 3000000100 })] } } : State).source (1 : Fin 4) = 3) ∧
      ((Map.get {} ({ (Wt.setObjN Obj.TB_SOURCE 3 1) with time := { Wt.time with ppsIn := [(0, { lastQualified := some 3000000100 })] } } : State).time.ppsIn (({ (Wt.setObjN Obj.TB_SOURCE 3 1) with time := { Wt.time with ppsIn := [(0, { lastQualified := some 3000000100 })] } } : State).objN Obj.TB_SOURCE_ARG (1 : Fin 4))).lastQualified = some (3000000100)) ∧
      (((3 : BitVec 48).toNat : Int) = (((3000000100) : Int) + 500000000) / 1000000000)) ∧
    ((({ (Wt.setObjN Obj.TB_SOURCE 3 1) with time := { Wt.time with ppsIn := [(0, { lastQualified := some 3000000100 })] } } : State).source (1 : Fin 4) = 3) ∧
      ((Map.get {} ({ (Wt.setObjN Obj.TB_SOURCE 3 1) with time := { Wt.time with ppsIn := [(0, { lastQualified := some 3000000100 })] } } : State).time.ppsIn (({ (Wt.setObjN Obj.TB_SOURCE 3 1) with time := { Wt.time with ppsIn := [(0, { lastQualified := some 3000000100 })] } } : State).objN Obj.TB_SOURCE_ARG (1 : Fin 4))).lastQualified = some (3000000100)) ∧
      ((2) = ((5 : BitVec 48).toNat : Int) - (((3000000100) : Int) + 500000000) / 1000000000) ∧ ((2) ≠ 0) ∧
      (({ (Wt.setObjN Obj.TB_SOURCE 3 1) with time := { Wt.time with ppsIn := [(0, { lastQualified := some 3000000100 })] } } : State).stepRefused (1 : Fin 4) ((2) * 1000000000) = false) ∧
      (∀ m < 4, ({ (Wt.setObjN Obj.TB_SOURCE 3 1) with time := { Wt.time with ppsIn := [(0, { lastQualified := some 3000000100 })] } } : State).source m ≠ 4)) :=
  ⟨by decide +kernel, by decide +kernel, by decide +kernel, by decide +kernel, by decide +kernel, by decide +kernel,
    by decide +kernel, by decide +kernel, by decide +kernel, by decide +kernel, by decide +kernel, by decide +kernel,
    by decide +kernel⟩

/-- States and operands that meet the hypotheses of each clause of `LoopCommands`. -/
theorem witness_LoopCommands :
    (Wrun.genRefused (7 : Fin 8) = true) ∧
    (Wloop.genRefused (7 : Fin 8) = false) ∧
    (((Wloop.setGen 7 (fun x => { x with running := true }) : State).gen (7 : Fin 8)).running = true) ∧
    (((Wloop.setGen 7 (fun x => { x with running := true }) : State).gen (7 : Fin 8)).running = true) ∧
    ((Wloop.gen (7 : Fin 8)).running = false) ∧
    ((Wrun.slot (255 : Fin 256)).cfg.kind ≠ 1) ∧
    (((Wloop.slot (3 : Fin 256)).cfg.kind = 1) ∧ ((Wloop.slot (3 : Fin 256)).cfg.arg % 4 = 0) ∧
      (Wloop.timeInstant (Wloop.slot (3 : Fin 256)).cfg = some (1000000000000)) ∧
      (Wloop.fires 0 (1000000000000) = true)) ∧
    ((((Wloop.setSlot 4 (fun x => { x with mode := .enabled, cfg := { x.cfg with kind := 6 } }) : State).slot ((260 : Word).toNat % 256)).cfg.kind = 6) ∧
      ((Wloop.setSlot 4 (fun x => { x with mode := .enabled, cfg := { x.cfg with kind := 6 } }) : State).flag Reg.LE_STATUS_RUN = true) ∧
      ((Wloop.setSlot 4 (fun x => { x with mode := .enabled, cfg := { x.cfg with kind := 6 } }) : State).flag Reg.LE_STATUS_DATAPATH_FAULT = false) ∧
      (((Wloop.setSlot 4 (fun x => { x with mode := .enabled, cfg := { x.cfg with kind := 6 } }) : State).slot ((260 : Word).toNat % 256)).takes = true) ∧
      (((Wloop.setSlot 4 (fun x => { x with mode := .enabled, cfg := { x.cfg with kind := 6 } }) : State).slot ((260 : Word).toNat % 256)).act = none) ∧
      (((Wloop.setSlot 4 (fun x => { x with mode := .enabled, cfg := { x.cfg with kind := 6 } }) : State).slot ((260 : Word).toNat % 256)).staged = none) ∧
      (((Wloop.setSlot 4 (fun x => { x with mode := .enabled, cfg := { x.cfg with kind := 6 } }) : State).slot ((260 : Word).toNat % 256)).lastTrig = none)) ∧
    ((((Wloop.setSlot 4 (fun x => { x with mode := .enabled, act := some ⟨0, false, 0⟩, cfg := { x.cfg with kind := 6 } }) : State).slot ((260 : Word).toNat % 256)).cfg.kind = 6) ∧
      ((Wloop.setSlot 4 (fun x => { x with mode := .enabled, act := some ⟨0, false, 0⟩, cfg := { x.cfg with kind := 6 } }) : State).flag Reg.LE_STATUS_RUN = true) ∧
      ((Wloop.setSlot 4 (fun x => { x with mode := .enabled, act := some ⟨0, false, 0⟩, cfg := { x.cfg with kind := 6 } }) : State).flag Reg.LE_STATUS_DATAPATH_FAULT = false) ∧
      (((Wloop.setSlot 4 (fun x => { x with mode := .enabled, act := some ⟨0, false, 0⟩, cfg := { x.cfg with kind := 6 } }) : State).slot ((260 : Word).toNat % 256)).takes = true) ∧
      (((Wloop.setSlot 4 (fun x => { x with mode := .enabled, act := some ⟨0, false, 0⟩, cfg := { x.cfg with kind := 6 } }) : State).slot ((260 : Word).toNat % 256)).act.isSome = true)) ∧
    ((Wloop.slot ((260 : Word).toNat % 256)).cfg.kind ≠ 6) ∧
    ((Wloop.rd Reg.CAP_BASE_BASE (15 : Fin 16) * 64 + 65536 * capSize (Wloop.rd Reg.CAP_CFG_FORMAT (15 : Fin 16)) ≤ gristSize) ∧
      ((Wloop.cap (15 : Fin 16)).misaligned = false)) ∧
    (((Wloop.setCap 15 (fun x => { x with misaligned := true }) : State).cap (15 : Fin 16)).misaligned = true) ∧
    ((((Wloop.raise Reg.CAP_STATUS_ARMED 15).raise Reg.CAP_CFG_MODE 15 : State).flag Reg.CAP_STATUS_ARMED (15 : Fin 16) = true) ∧
      (((Wloop.raise Reg.CAP_STATUS_ARMED 15).raise Reg.CAP_CFG_MODE 15 : State).flag Reg.CAP_CFG_MODE (15 : Fin 16) = true) ∧
      ((((Wloop.raise Reg.CAP_STATUS_ARMED 15).raise Reg.CAP_CFG_MODE 15 : State).cap (15 : Fin 16)).remaining = none)) ∧
    (Wloop.flag Reg.CAP_STATUS_ARMED (15 : Fin 16) = false) ∧
    (Wloop.nextSlot = none) ∧
    ((Wloop.setSlot 4 (fun x => { x with mode := .enabled, act := some ⟨0, false, 0⟩ }) : State).nextSlot = some ((4), (⟨0, false, 0⟩))) ∧
    ((Wloop.setSlot 4 (fun x => { x with mode := .enabled, act := some ⟨0, false, 0⟩ }) : State).nextSlot = some ((4), (⟨0, false, 0⟩))) :=
  ⟨by decide +kernel, by decide +kernel, by decide +kernel, by decide +kernel, by decide +kernel, by decide +kernel,
    by decide +kernel, by decide +kernel, by decide +kernel, by decide +kernel, by decide +kernel, by decide +kernel,
    by decide +kernel, by decide +kernel, by decide +kernel, by decide +kernel, by decide +kernel⟩

/-- States and operands that meet the hypotheses of each clause of `SlotCommands`. -/
theorem witness_SlotCommands :
    ((((Wloop.setSlot 255 (fun x => { x with staged := some ({}, [0]) }) : State).slot (255 : Fin 256)).staged = some (({} : SlotCfg), ([0]))) ∧
      (((Wloop.setSlot 255 (fun x => { x with staged := some ({}, [0]) }) : State).slot (255 : Fin 256)).act = none)) ∧
    ((Wloop.slot (255 : Fin 256)).staged = none) ∧
    ((((Wloop.setSlot 255 (fun x => { x with cfg := { x.cfg with steps := 1 } }) : State).slot (255 : Fin 256)).mode = .disabled) ∧
      (((Wloop.setSlot 255 (fun x => { x with cfg := { x.cfg with steps := 1 } }) : State).slot (255 : Fin 256)).cfg.steps ≠ 0)) ∧
    (((Wloop.slot (255 : Fin 256)).mode = .disabled) ∧ ((Wloop.slot (255 : Fin 256)).cfg.steps = 0)) ∧
    (((Wloop.setSlot 255 (fun x => { x with mode := .offline }) : State).slot (255 : Fin 256)).mode = .retired ∨ ((Wloop.setSlot 255 (fun x => { x with mode := .offline }) : State).slot (255 : Fin 256)).mode = .offline) ∧
    ((((Wloop.setSlot 255 (fun x => { x with mode := .enabled }) : State).slot (255 : Fin 256)).mode = .enabled) ∧
      (((Wloop.setSlot 255 (fun x => { x with mode := .enabled }) : State).slot (255 : Fin 256)).act = none) ∧
      (((Wloop.setSlot 255 (fun x => { x with mode := .enabled }) : State).slot (255 : Fin 256)).thenBist = false)) ∧
    (Wloop.flag Reg.LE_PROG_SEL_BANK = false) ∧
    (Wloop.flag Reg.LE_PROG_SEL_BANK = false) ∧
    ((Wloop.raise Reg.LE_PROG_SEL_BANK : State).flag Reg.LE_PROG_SEL_BANK = true) ∧
    ((((Wloop.setSlot 255 (fun x => { x with mode := .retired, handover := some true, program := [7], cfg := { x.cfg with spareEn := true, spare := 9 } }) : State).slot (255 : Fin 256)).handover = some true) ∧
      (((Wloop.setSlot 255 (fun x => { x with mode := .retired, handover := some true, program := [7], cfg := { x.cfg with spareEn := true, spare := 9 } }) : State).slot (255 : Fin 256)).act = none) ∧
      ((Wloop.setSlot 255 (fun x => { x with mode := .retired, handover := some true, program := [7], cfg := { x.cfg with spareEn := true, spare := 9 } }) : State).usableSpare (255 : Fin 256) = some (9)) ∧
      ((9) < 256)) ∧
    ((Wloop.slot (255 : Fin 256)).handover = none) ∧
    (((Wloop.slot (255 : Fin 256)).mode = .disabled) ∧ (Wloop.slotTestOk (255 : Fin 256) = true)) ∧
    ((Wloop.setSlot 255 (fun x => { x with mode := .offline }) : State).slotTestOk (255 : Fin 256) = false) ∧
    (((Wloop.setSlot 255 (fun x => { x with mode := .bist }) : State).slot (255 : Fin 256)).mode = .bist) ∧
    (((Wloop.setSlot 255 (fun x => { x with mode := .bist }) : State).slot (255 : Fin 256)).mode = .bist) ∧
    ((Wloop.slot (255 : Fin 256)).mode ≠ .bist) ∧
    ((((Wloop.setSlot 255 (fun x => { x with mode := .offline }) : State).slot (255 : Fin 256)).mode = .offline) ∧
      ((Wloop.setSlot 255 (fun x => { x with mode := .offline }) : State).standIn (255 : Fin 256) = none)) ∧
    ((Wloop.slot (255 : Fin 256)).mode ≠ .offline) :=
  ⟨by decide +kernel, by decide +kernel, by decide +kernel, by decide +kernel, by decide +kernel, by decide +kernel,
    by decide +kernel, by decide +kernel, by decide +kernel, by decide +kernel, by decide +kernel, by decide +kernel,
    by decide +kernel, by decide +kernel, by decide +kernel, by decide +kernel, by decide +kernel, by decide +kernel⟩

/-- States and operands that meet the hypotheses of each clause of `LauterCommands`. -/
theorem witness_LauterCommands :
    (((((Wt.wr Reg.SC_STATUS_STATE 2 31).setSc 31 (fun x => { x with await := some true }) : State).sc (31 : Fin 32)).await = some true) ∧
      (((Wt.wr Reg.SC_STATUS_STATE 2 31).setSc 31 (fun x => { x with await := some true }) : State).scFlows (31 : Fin 32) = true)) ∧
    ((Wt.sc (31 : Fin 32)).await = none) ∧
    ((bitOf (0x80000000 : Word).toNat (31 : Fin 32) = true) ∧
      ((Wt.wr Reg.SC_STATUS_STATE 2 31 : State).scEnabled (31 : Fin 32) = true) ∧
      (((Wt.wr Reg.SC_STATUS_STATE 2 31 : State).sc (31 : Fin 32)).await = none)) ∧
    (((((Wt.wr Reg.LT_SYNC_ARM_SOURCE 1).wr Reg.LT_SYNC_ARM_ARMED 1).wr Reg.LT_SYNC_AT_SECOND 1000 : State).syncArmed 1 = true) ∧
      ((((Wt.wr Reg.LT_SYNC_ARM_SOURCE 1).wr Reg.LT_SYNC_ARM_ARMED 1).wr Reg.LT_SYNC_AT_SECOND 1000 : State).fires 0 ((((((Wt.wr Reg.LT_SYNC_ARM_SOURCE 1).wr Reg.LT_SYNC_ARM_ARMED 1).wr Reg.LT_SYNC_AT_SECOND 1000 : State).base 0).sec.toNat / 2 ^ 32 * 2 ^ 32 + (((Wt.wr Reg.LT_SYNC_ARM_SOURCE 1).wr Reg.LT_SYNC_ARM_ARMED 1).wr Reg.LT_SYNC_AT_SECOND 1000 : State).rd Reg.LT_SYNC_AT_SECOND) * 1000000000) = true)) ∧
    (Wt.syncArmed 1 = false) ∧
    (((Wt.wr Reg.LT_SYNC_ARM_SOURCE 3).wr Reg.LT_SYNC_ARM_ARMED 1 : State).syncArmed 3 = true) ∧
    (Wt.syncArmed 3 = false) ∧
    ((Wt.wr Reg.SC_STATUS_STATE 1 31 : State).scFlows (31 : Fin 32) = true) ∧
    (Wt.scFlows (31 : Fin 32) = false) ∧
    ((Wt.wr Reg.SC_STATUS_STATE 3 31 : State).scState (31 : Fin 32) = 3) ∧
    (Wt.scState (31 : Fin 32) ≠ 3) ∧
    ((bitOf (0x80000040 : Word).toNat 31 = true) ∧ ((0x80000040 : Word).toNat % 65536 ≠ 0) ∧
      ((Wt.wr Reg.SC_STATUS_STATE 2 31 : State).scEnabled (31 : Fin 32) = true) ∧
      (((Wt.wr Reg.SC_STATUS_STATE 2 31 : State).sc (31 : Fin 32)).pendingLen = none) ∧
      (((Wt.wr Reg.SC_STATUS_STATE 2 31 : State).sc (31 : Fin 32)).fade = none)) ∧
    ((bitOf (0x80000040 : Word).toNat 31 = true) ∧ ((0x80000040 : Word).toNat % 65536 ≠ 0) ∧
      (((Wt.wr Reg.SC_STATUS_STATE 2 31).setSc 31 (fun x => { x with pendingLen := some 9 }) : State).scEnabled (31 : Fin 32) = true) ∧
      ((((Wt.wr Reg.SC_STATUS_STATE 2 31).setSc 31 (fun x => { x with pendingLen := some 9 }) : State).sc (31 : Fin 32)).pendingLen.isSome = true)) ∧
    ((0x80000040 : Word).toNat % 65536 = 0 ∨ Wt.scEnabled (31 : Fin 32) = false) ∧
    ((Wt.wr Reg.LT_POOL_ADDR_ENTRY 8191 : State).poolRefused ((Wt.wr Reg.LT_POOL_ADDR_ENTRY 8191 : State).rd Reg.LT_POOL_ADDR_ENTRY) = false) ∧
    (((Wt.wr Reg.SC_STATUS_STATE 2 31).wr Reg.SC_FIR_TAPS 16 31 : State).poolRefused (((Wt.wr Reg.SC_STATUS_STATE 2 31).wr Reg.SC_FIR_TAPS 16 31 : State).rd Reg.LT_POOL_ADDR_ENTRY) = true) ∧
    (((((Wt.wr Reg.SC_STATUS_STATE 2 31).wr Reg.SC_COMB_DECIM 1 31).setSc 31 (fun x => { x with integ := [0], comb := [0] }) : State).scFlows (31 : Fin 32) = true) ∧
      (([⟨5, false⟩] : List ScSample).length = (((Wt.wr Reg.SC_STATUS_STATE 2 31).wr Reg.SC_COMB_DECIM 1 31).setSc 31 (fun x => { x with integ := [0], comb := [0] }) : State).rd Reg.SC_COMB_DECIM (31 : Fin 32)) ∧
      (((((Wt.wr Reg.SC_STATUS_STATE 2 31).wr Reg.SC_COMB_DECIM 1 31).setSc 31 (fun x => { x with integ := [0], comb := [0] }) : State).sc (31 : Fin 32)).integ ≠ [])) ∧
    (((((Wt.wr Reg.SC_STATUS_STATE 2 31).wr Reg.SC_COMB_DECIM 1 31).setSc 31 (fun x => { x with integ := [0], comb := [0] }) : State).scFlows (31 : Fin 32) = true) ∧
      (([⟨5, false⟩] : List ScSample).length = (((Wt.wr Reg.SC_STATUS_STATE 2 31).wr Reg.SC_COMB_DECIM 1 31).setSc 31 (fun x => { x with integ := [0], comb := [0] }) : State).rd Reg.SC_COMB_DECIM (31 : Fin 32)) ∧
      (((((Wt.wr Reg.SC_STATUS_STATE 2 31).wr Reg.SC_COMB_DECIM 1 31).setSc 31 (fun x => { x with integ := [0], comb := [0] }) : State).sc (31 : Fin 32)).integ ≠ [])) ∧
    (Wt.scFlows (31 : Fin 32) = false) ∧
    ((Wsc.flag Reg.LT_STATUS_DATAPATH_FAULT = false) ∧ (Wsc.scState (31 : Fin 32) = 0) ∧
      (Wsc.scCause (31 : Fin 32) = 0)) ∧
    (((Wt.wr Reg.SC_COMB_DECIM 0 31 : State).flag Reg.LT_STATUS_DATAPATH_FAULT = false) ∧
      ((Wt.wr Reg.SC_COMB_DECIM 0 31 : State).scState (31 : Fin 32) = 0) ∧
      ((Wt.wr Reg.SC_COMB_DECIM 0 31 : State).scCause (31 : Fin 32) ≠ 0)) ∧
    ((Wt.wr Reg.SC_STATUS_STATE 2 31 : State).scEnabled (31 : Fin 32) = true) ∧
    (((Wt.wr Reg.SC_STATUS_STATE 2 31 : State).scState (31 : Fin 32) ≠ 5) ∧
      ((Wt.wr Reg.SC_STATUS_STATE 2 31 : State).scState (31 : Fin 32) ≠ 6)) ∧
    ((Wt.wr Reg.SC_STATUS_STATE 5 31 : State).scState (31 : Fin 32) = 5 ∨ (Wt.wr Reg.SC_STATUS_STATE 5 31 : State).scState (31 : Fin 32) = 6) ∧
    ((Wt.wr Reg.SC_STATUS_STATE 5 31 : State).scState (31 : Fin 32) = 5) ∧
    ((Wt.wr Reg.SC_STATUS_STATE 5 31 : State).scState (31 : Fin 32) = 5) ∧
    (Wt.scState (31 : Fin 32) ≠ 5) ∧
    (((Wt.wr Reg.SC_STATUS_STATE 4 31 : State).scState (31 : Fin 32) = 4) ∧
      ((Wt.wr Reg.SC_STATUS_STATE 4 31 : State).flag Reg.SC_CTRL_ENABLE (31 : Fin 32) = false)) ∧
    (Wt.scState (31 : Fin 32) ≠ 4) :=
  ⟨by decide +kernel, by decide +kernel, by decide +kernel, by decide +kernel, by decide +kernel, by decide +kernel,
    by decide +kernel, by decide +kernel, by decide +kernel, by decide +kernel, by decide +kernel, by decide +kernel,
    by decide +kernel, by decide +kernel, by decide +kernel, by decide +kernel, by decide +kernel, by decide +kernel,
    by decide +kernel, by decide +kernel, by decide +kernel, by decide +kernel, by decide +kernel, by decide +kernel,
    by decide +kernel, by decide +kernel, by decide +kernel, by decide +kernel, by decide +kernel⟩

/-- States and operands that meet the hypotheses of each clause of `FeedbackPositions`. -/
theorem witness_FeedbackPositions :
    ((0x0D : Word).toNat / 4 % 4 = 3) ∧
    (((0x05 : Word).toNat / 4 % 4 ≠ 3) ∧ ((0x05 : Word).toNat / 16 % 2 = 0)) ∧
    ((Wpf.raise Reg.PF_STATUS_OSC_FAULT : State).flag Reg.PF_STATUS_OSC_FAULT = true) ∧
    ((Wt.flag Reg.PF_STATUS_OSC_FAULT = false) ∧ (Wt.pfRuns (31 : Fin 32) = false)) ∧
    ((Wpf.pfRuns (31 : Fin 32) = true) ∧ (bitOf (Wpf.pfLines (31 : Fin 32)) (1 : Fin 3) = true) ∧
      (bitOf (Wpf.pf (31 : Fin 32)).open_ (1 : Fin 3) = false)) ∧
    (Wt.pfRuns (31 : Fin 32) = false) ∧
    ((Wpf.pfState (31 : Fin 32) = 1) ∧ (bitOf (Wpf.pfLines (31 : Fin 32)) (1 : Fin 3) = true) ∧
      (bitOf (Wpf.rd Reg.PFC_STATUS_LINE_OPEN (31 : Fin 32)) (1 : Fin 3) = false)) ∧
    (Wpf.pfMode (31 : Fin 32) ≠ 2) ∧
    ((Wser.pfRuns (31 : Fin 32) = true) ∧ (Wser.pfMode (31 : Fin 32) = 2) ∧
      (Wser.rd Reg.PFC_SER_PERIOD_PERIOD_US (31 : Fin 32) ≠ 0) ∧
      (Wser.rd Reg.PFC_SER_PHASE_PHASE_US (31 : Fin 32) = 0) ∧
      ((1000000000000 : Nat) = Wser.now 0 - Wser.now 0 % (Wser.rd Reg.PFC_SER_PERIOD_PERIOD_US (31 : Fin 32) * 1000)) ∧
      ((Wser.pf (31 : Fin 32)).lastReq ≠ some (1000000000000 : Nat)) ∧ (Wser.fires 0 (1000000000000 : Nat) = true)) ∧
    ((((Wser.setPf 31 (fun x => { x with request := some 7 }) : State).pf (31 : Fin 32)).request = some (7)) ∧
      ((Wser.setPf 31 (fun x => { x with request := some 7 }) : State).pfRuns (31 : Fin 32) = true) ∧
      (({ sep := true, pos := 5, err := false, warn := false, crc := 0 } : SerWord).sep = true)) ∧
    ((Wser.pf (31 : Fin 32)).request = none) ∧
    ((((Wser.setPf 31 (fun x => { x with request := some 7 }) : State).pf (31 : Fin 32)).request = some (7)) ∧
      ((Wser.setPf 31 (fun x => { x with request := some 7 }) : State).pfRuns (31 : Fin 32) = true)) ∧
    ((Wser.pf (31 : Fin 32)).request = none) :=
  ⟨by decide +kernel, by decide +kernel, by decide +kernel, by decide +kernel, by decide +kernel, by decide +kernel,
    by decide +kernel, by decide +kernel, by decide +kernel, by decide +kernel, by decide +kernel, by decide +kernel,
    by decide +kernel⟩

/-- States and operands that meet the hypotheses of each clause of `FeedbackChannels`. -/
theorem witness_FeedbackChannels :
    ((Wpf.pfRuns (31 : Fin 32) = true) ∧ (Wpf.pfMode (31 : Fin 32) ≠ 2)) ∧
    (Wt.pfRuns (31 : Fin 32) = false) ∧
    ((((Wpf.setPf 31 (fun x => { x with lastT := some 9 }) : State).pf (31 : Fin 32)).lastT = some (9)) ∧
      ((Wpf.setPf 31 (fun x => { x with lastT := some 9 }) : State).pfRuns (31 : Fin 32) = true) ∧
      ((Wpf.setPf 31 (fun x => { x with lastT := some 9 }) : State).pfMode (31 : Fin 32) ≠ 2) ∧
      ((9) + (Wpf.setPf 31 (fun x => { x with lastT := some 9 }) : State).rd Reg.PFC_ZERO_ZERO_MS (31 : Fin 32) * 1000000 < (Wpf.setPf 31 (fun x => { x with lastT := some 9 }) : State).now 0)) ∧
    ((Wpf.pf (31 : Fin 32)).lastT = none) ∧
    ((((Wser.wr Reg.PFC_CFG_PT_MODE 3 31).wr Reg.PFC_POS_LO_POS 0xFFFFFFF 31 : State).pfState (31 : Fin 32) = 1) ∧
      (((Wser.wr Reg.PFC_CFG_PT_MODE 3 31).wr Reg.PFC_POS_LO_POS 0xFFFFFFF 31 : State).rd Reg.PFC_CFG_PT_MODE (31 : Fin 32) = 3) ∧
      (((Wser.wr Reg.PFC_CFG_PT_MODE 3 31).wr Reg.PFC_POS_LO_POS 0xFFFFFFF 31 : State).pfMode (31 : Fin 32) = 2) ∧
      ((((Wser.wr Reg.PFC_CFG_PT_MODE 3 31).wr Reg.PFC_POS_LO_POS 0xFFFFFFF 31 : State).pf (31 : Fin 32)).emu < ((Wser.wr Reg.PFC_CFG_PT_MODE 3 31).wr Reg.PFC_POS_LO_POS 0xFFFFFFF 31 : State).pfPos (31 : Fin 32) / 2 ^ ((Wser.wr Reg.PFC_CFG_PT_MODE 3 31).wr Reg.PFC_POS_LO_POS 0xFFFFFFF 31 : State).rd Reg.PFC_EMU_EMU_SHIFT (31 : Fin 32))) ∧
    (Wpf.rd Reg.PFC_CFG_PT_MODE (31 : Fin 32) ≠ 3) ∧
    (((Wpf.wr Reg.PFC_STATUS_STATE 0 31 : State).pfState (31 : Fin 32) = 0) ∧
      ((Wpf.wr Reg.PFC_STATUS_STATE 0 31 : State).pfCause (31 : Fin 32) = 0)) ∧
    ((((Wpf.wr Reg.PFC_STATUS_STATE 0 31).wr Reg.PFC_CFG_MODE 3 31 : State).pfState (31 : Fin 32) = 0) ∧
      (((Wpf.wr Reg.PFC_STATUS_STATE 0 31).wr Reg.PFC_CFG_MODE 3 31 : State).pfCause (31 : Fin 32) ≠ 0)) ∧
    (Wpf.pfState (31 : Fin 32) = 1) ∧
    ((Wpf.wr Reg.PFC_CFG_PT_MODE 3 31 : State).rd Reg.PFC_CFG_PT_MODE (31 : Fin 32) = 3) ∧
    ((Wpf.rd Reg.PFC_CFG_PT_MODE (31 : Fin 32) ≠ 3) ∧ (Wpf.pfState (31 : Fin 32) < 3)) ∧
    ((Wpf.wr Reg.PFC_STATUS_STATE 3 31 : State).pfState (31 : Fin 32) = 3) ∧
    ((Wpf.wr Reg.PFC_STATUS_STATE 3 31 : State).pfState (31 : Fin 32) = 3) ∧
    (Wpf.pfState (31 : Fin 32) ≠ 3) ∧
    (((Wpf.wr Reg.PFC_STATUS_STATE 2 31 : State).pfState (31 : Fin 32) = 2) ∧
      ((Wpf.wr Reg.PFC_STATUS_STATE 2 31 : State).flag Reg.PFC_CTRL_ENABLE (31 : Fin 32) = false)) ∧
    (Wpf.pfState (31 : Fin 32) ≠ 2) ∧
    (Wpf.pfState (31 : Fin 32) ≠ 4) ∧
    ((Wpf.wr Reg.PFC_STATUS_STATE 4 31 : State).pfState (31 : Fin 32) = 4) :=
  ⟨by decide +kernel, by decide +kernel, by decide +kernel, by decide +kernel, by decide +kernel, by decide +kernel,
    by decide +kernel, by decide +kernel, by decide +kernel, by decide +kernel, by decide +kernel, by decide +kernel,
    by decide +kernel, by decide +kernel, by decide +kernel, by decide +kernel, by decide +kernel, by decide +kernel⟩

/-- States and operands that meet the hypotheses of each clause of `CanFrames`. -/
theorem witness_CanFrames :
    ((bitOf (0x80000001 : Word).toNat (31 : Fin 32) = true) ∧ (Wcan.canReqOk (15 : Fin 16) (31 : Fin 32) = true)) ∧
    ((bitOf (0x80000001 : Word).toNat (31 : Fin 32) = true) ∧
      ((Wcan.wr Reg.CAN_CTRL_MODE 2 15 : State).canReqOk (15 : Fin 16) (31 : Fin 32) = false) ∧
      (bitOf ((Wcan.wr Reg.CAN_CTRL_MODE 2 15 : State).rd Reg.CAN_TX_PEND_PEND (15 : Fin 16)) (31 : Fin 32) = false)) ∧
    (bitOf (0x80000001 : Word).toNat (30 : Fin 32) = false) ∧
    (((0x80000000 : Word).toNat = 2 ^ (31 : Fin 32).val) ∧ (Wcan.canReqOk (15 : Fin 16) (31 : Fin 32) = true) ∧
      (Wcan.rd Reg.CAN_TX_PEND_PEND (15 : Fin 16) = 0) ∧ ((Wcan.canSt (15 : Fin 16)).onBus = none) ∧
      ((Wcan.canSt (15 : Fin 16)).busBusy = false)) ∧
    ((bitOf (0x80000000 : Word).toNat (31 : Fin 32) = true) ∧
      (bitOf (Wcanbus.rd Reg.CAN_TX_PEND_PEND (15 : Fin 16)) (31 : Fin 32) = true) ∧
      ((Wcanbus.canSt (15 : Fin 16)).onBus = some ((31 : Fin 32).val, (7 : Nat)))) ∧
    ((bitOf (0x80000000 : Word).toNat (31 : Fin 32) = true) ∧
      (bitOf ((Wcan.wr Reg.CAN_TX_PEND_PEND 0x80000000 15 : State).rd Reg.CAN_TX_PEND_PEND (15 : Fin 16)) (31 : Fin 32) = true) ∧
      (((Wcan.wr Reg.CAN_TX_PEND_PEND 0x80000000 15 : State).canSt (15 : Fin 16)).onBus = none)) ∧
    ((((Wcan.setCan 15 (fun x => { x with unread := [0] }) : State).canSt (15 : Fin 16)).unread = (0 : Nat) :: ([])) ∧
      ((Wcan.setCan 15 (fun x => { x with unread := [0] }) : State).elapsed (0 : Nat) ((Wcan.setCan 15 (fun x => { x with unread := [0] }) : State).rd Reg.CAN_RX_CFG_IRQ_TIME (15 : Fin 16) * 10000) = true)) ∧
    (((9 : Word).toNat % 2 ^ 14 < (Wcan.wr Reg.CAN_RX_HEAD_HEAD 9 15 : State).canRingSize (15 : Fin 16)) ∧
      (((9 : Word).toNat % 2 ^ 14 + (Wcan.wr Reg.CAN_RX_HEAD_HEAD 9 15 : State).canRingSize (15 : Fin 16) - (Wcan.wr Reg.CAN_RX_HEAD_HEAD 9 15 : State).rd Reg.CAN_RX_TAIL_TAIL (15 : Fin 16) % (Wcan.wr Reg.CAN_RX_HEAD_HEAD 9 15 : State).canRingSize (15 : Fin 16)) % (Wcan.wr Reg.CAN_RX_HEAD_HEAD 9 15 : State).canRingSize (15 : Fin 16) ≤ (Wcan.wr Reg.CAN_RX_HEAD_HEAD 9 15 : State).canUnread (15 : Fin 16))) ∧
    (((10 : Word).toNat % 2 ^ 14 < (Wcan.wr Reg.CAN_RX_HEAD_HEAD 9 15 : State).canRingSize (15 : Fin 16)) ∧
      ((Wcan.wr Reg.CAN_RX_HEAD_HEAD 9 15 : State).canUnread (15 : Fin 16) < ((10 : Word).toNat % 2 ^ 14 + (Wcan.wr Reg.CAN_RX_HEAD_HEAD 9 15 : State).canRingSize (15 : Fin 16) - (Wcan.wr Reg.CAN_RX_HEAD_HEAD 9 15 : State).rd Reg.CAN_RX_TAIL_TAIL (15 : Fin 16) % (Wcan.wr Reg.CAN_RX_HEAD_HEAD 9 15 : State).canRingSize (15 : Fin 16)) % (Wcan.wr Reg.CAN_RX_HEAD_HEAD 9 15 : State).canRingSize (15 : Fin 16))) ∧
    (((((Wcanbus.setCan 15 (fun x => { x with heldCancel := true })).raise Reg.CAN_CTRL_ECHO 15 : State).canSt (15 : Fin 16)).onBus = some ((31 : Fin 32).val, (7 : Nat))) ∧
      (Map.get none (((Wcanbus.setCan 15 (fun x => { x with heldCancel := true })).raise Reg.CAN_CTRL_ECHO 15 : State).canSt (15 : Fin 16)).tapWait (31 : Fin 32).val = none)) ∧
    ((Wcan.canSt (15 : Fin 16)).onBus = none) ∧
    (((Wcanbus.canSt (15 : Fin 16)).onBus = some ((31 : Fin 32).val, (7 : Nat))) ∧
      (Map.get none (Wcanbus.canSt (15 : Fin 16)).tapWait (31 : Fin 32).val = none)) ∧
    ((Wcan.canSt (15 : Fin 16)).onBus = none) ∧
    (((Wcanbus.wr Reg.CAN_ECNT_TEC 248 15 : State).rd Reg.CAN_STATUS_STATE (15 : Fin 16) = 1) ∧
      ((Wcanbus.wr Reg.CAN_ECNT_TEC 248 15 : State).canBusOff (15 : Fin 16) = false) ∧
      ((Wcanbus.wr Reg.CAN_ECNT_TEC 248 15 : State).canMode (15 : Fin 16) ≠ 2) ∧
      ((.bit : CanError) ≠ .ack ∨ (Wcanbus.wr Reg.CAN_ECNT_TEC 248 15 : State).rd Reg.CAN_STATUS_ERR_STATE (15 : Fin 16) ≠ 1 ∨ (false : Bool) = true)) ∧
    (((Wcan.wr Reg.CAN_ECNT_REC 255 15 : State).rd Reg.CAN_STATUS_STATE (15 : Fin 16) = 1) ∧
      ((Wcan.wr Reg.CAN_ECNT_REC 255 15 : State).canBusOff (15 : Fin 16) = false) ∧
      ((Wcan.wr Reg.CAN_ECNT_REC 255 15 : State).canMode (15 : Fin 16) ≠ 2)) ∧
    (((Wcan.wr Reg.CAN_ECNT_ACK_RUN 15 15 : State).rd Reg.CAN_STATUS_STATE (15 : Fin 16) = 1) ∧
      ((Wcan.wr Reg.CAN_ECNT_ACK_RUN 15 15 : State).canBusOff (15 : Fin 16) = false)) ∧
    (Wt.rd Reg.CAN_STATUS_STATE (15 : Fin 16) ≠ 1) ∧
    ((((Wcan.wr Reg.CAN_RX_HEAD_HEAD 63 15).wr Reg.CAN_RX_TAIL_TAIL 9 15 : State).rd Reg.CAN_STATUS_STATE (15 : Fin 16) = 1) ∧
      (((Wcan.wr Reg.CAN_RX_HEAD_HEAD 63 15).wr Reg.CAN_RX_TAIL_TAIL 9 15 : State).canMode (15 : Fin 16) ≠ 0) ∧
      (((Wcan.wr Reg.CAN_RX_HEAD_HEAD 63 15).wr Reg.CAN_RX_TAIL_TAIL 9 15 : State).canBusOff (15 : Fin 16) = false) ∧
      (((Wcan.wr Reg.CAN_RX_HEAD_HEAD 63 15).wr Reg.CAN_RX_TAIL_TAIL 9 15 : State).canUnread (15 : Fin 16) + 1 ≠ ((Wcan.wr Reg.CAN_RX_HEAD_HEAD 63 15).wr Reg.CAN_RX_TAIL_TAIL 9 15 : State).canRingSize (15 : Fin 16))) ∧
    ((((Wcan.wr Reg.CAN_RX_HEAD_HEAD 62 15).wr Reg.CAN_RX_TAIL_TAIL 63 15 : State).rd Reg.CAN_STATUS_STATE (15 : Fin 16) = 1) ∧
      (((Wcan.wr Reg.CAN_RX_HEAD_HEAD 62 15).wr Reg.CAN_RX_TAIL_TAIL 63 15 : State).canMode (15 : Fin 16) ≠ 0) ∧
      (((Wcan.wr Reg.CAN_RX_HEAD_HEAD 62 15).wr Reg.CAN_RX_TAIL_TAIL 63 15 : State).canBusOff (15 : Fin 16) = false) ∧
      (((Wcan.wr Reg.CAN_RX_HEAD_HEAD 62 15).wr Reg.CAN_RX_TAIL_TAIL 63 15 : State).canUnread (15 : Fin 16) + 1 = ((Wcan.wr Reg.CAN_RX_HEAD_HEAD 62 15).wr Reg.CAN_RX_TAIL_TAIL 63 15 : State).canRingSize (15 : Fin 16))) ∧
    (Wt.rd Reg.CAN_STATUS_STATE (15 : Fin 16) ≠ 1) :=
  ⟨by decide +kernel, by decide +kernel, by decide +kernel, by decide +kernel, by decide +kernel, by decide +kernel,
    by decide +kernel, by decide +kernel, by decide +kernel, by decide +kernel, by decide +kernel, by decide +kernel,
    by decide +kernel, by decide +kernel, by decide +kernel, by decide +kernel, by decide +kernel, by decide +kernel,
    by decide +kernel, by decide +kernel⟩

/-- States and operands that meet the hypotheses of each clause of `CanModes`. -/
theorem witness_CanModes :
    (((Wcan.wr Reg.CAN_STATUS_STATE 0 15 : State).rd Reg.CAN_STATUS_STATE (15 : Fin 16) = 0) ∧ ((3 : BitVec 2) ≠ 0) ∧
      ((Wcan.wr Reg.CAN_STATUS_STATE 0 15 : State).canCfgCause (15 : Fin 16) = 0)) ∧
    ((((Wcan.wr Reg.CAN_STATUS_STATE 0 15).wr Reg.CAN_NBT_BRP 255 15 : State).rd Reg.CAN_STATUS_STATE (15 : Fin 16) = 0) ∧
      ((3 : BitVec 2) ≠ 0) ∧
      (((Wcan.wr Reg.CAN_STATUS_STATE 0 15).wr Reg.CAN_NBT_BRP 255 15 : State).canCfgCause (15 : Fin 16) ≠ 0)) ∧
    (Wcan.rd Reg.CAN_STATUS_STATE (15 : Fin 16) ≠ 0) ∧
    (Wcan.rd Reg.CAN_STATUS_STATE (15 : Fin 16) = 1) ∧
    (1 < (Wcan.wr Reg.CAN_STATUS_STATE 4 15 : State).rd Reg.CAN_STATUS_STATE (15 : Fin 16)) ∧
    (((Wcan.wr Reg.CAN_STATUS_STATE 0 15 : State).rd Reg.CAN_STATUS_STATE (15 : Fin 16) = 0) ∧
      (((Wcan.wr Reg.CAN_STATUS_STATE 0 15 : State).canLoad (15 : Fin 16)).canCfgCause (15 : Fin 16) = 0)) ∧
    (((((Wcan.wr Reg.CAN_STATUS_STATE 0 15).wr Reg.SUP_STRAP_ROLE 2).setObjN Obj.CF_FLAGS 4 15 : State).rd Reg.CAN_STATUS_STATE (15 : Fin 16) = 0) ∧
      (((((Wcan.wr Reg.CAN_STATUS_STATE 0 15).wr Reg.SUP_STRAP_ROLE 2).setObjN Obj.CF_FLAGS 4 15 : State).canLoad (15 : Fin 16)).canCfgCause (15 : Fin 16) ≠ 0)) ∧
    ((Wcan.wr Reg.CAN_STATUS_ERR_STATE 2 15 : State).canBusOff (15 : Fin 16) = true) ∧
    (Wcan.canBusOff (15 : Fin 16) = false) ∧
    (Wcan.canBusOff (15 : Fin 16) = false) ∧
    ((((Wcan.wr Reg.CAN_STATUS_ERR_STATE 2 15).raise Reg.CAN_STATUS_RECOVERING 15 : State).canBusOff (15 : Fin 16) = true) ∧
      (((Wcan.wr Reg.CAN_STATUS_ERR_STATE 2 15).raise Reg.CAN_STATUS_RECOVERING 15 : State).flag Reg.CAN_STATUS_RECOVERING (15 : Fin 16) = true)) ∧
    (Wcan.flag Reg.CAN_STATUS_RECOVERING (15 : Fin 16) = false) ∧
    (Wcanbus.rd Reg.CAN_STATUS_STATE (15 : Fin 16) < 3) ∧
    (3 ≤ (Wcan.wr Reg.CAN_STATUS_STATE 3 15 : State).rd Reg.CAN_STATUS_STATE (15 : Fin 16)) ∧
    (3 ≤ (Wcan.wr Reg.CAN_STATUS_STATE 3 15 : State).rd Reg.CAN_STATUS_STATE (15 : Fin 16)) ∧
    ((Wcan.wr Reg.CAN_STATUS_STATE 3 15 : State).rd Reg.CAN_STATUS_STATE (15 : Fin 16) = 3) ∧
    ((Wcan.wr Reg.CAN_STATUS_STATE 3 15 : State).rd Reg.CAN_STATUS_STATE (15 : Fin 16) = 3) ∧
    (Wcan.rd Reg.CAN_STATUS_STATE (15 : Fin 16) ≠ 3) ∧
    ((((Wcan.wr Reg.CAN_STATUS_STATE 2 15).wr Reg.CAN_CTRL_MODE 0 15 : State).rd Reg.CAN_STATUS_STATE (15 : Fin 16) = 2) ∧
      (((Wcan.wr Reg.CAN_STATUS_STATE 2 15).wr Reg.CAN_CTRL_MODE 0 15 : State).canMode (15 : Fin 16) = 0)) ∧
    (((Wcan.wr Reg.CAN_STATUS_STATE 2 15 : State).rd Reg.CAN_STATUS_STATE (15 : Fin 16) = 2) ∧
      ((Wcan.wr Reg.CAN_STATUS_STATE 2 15 : State).canMode (15 : Fin 16) ≠ 0) ∧
      ((Wcan.wr Reg.CAN_STATUS_STATE 2 15 : State).canCfgCause (15 : Fin 16) = 0)) ∧
    (Wcan.rd Reg.CAN_STATUS_STATE (15 : Fin 16) ≠ 2) ∧
    (Wcan.rd Reg.CAN_STATUS_STATE (15 : Fin 16) ≠ 2) :=
  ⟨by decide +kernel, by decide +kernel, by decide +kernel, by decide +kernel, by decide +kernel, by decide +kernel,
    by decide +kernel, by decide +kernel, by decide +kernel, by decide +kernel, by decide +kernel, by decide +kernel,
    by decide +kernel, by decide +kernel, by decide +kernel, by decide +kernel, by decide +kernel, by decide +kernel,
    by decide +kernel, by decide +kernel, by decide +kernel, by decide +kernel⟩

/-- States and operands that meet the hypotheses of each clause of `PortFrames`. -/
theorem witness_PortFrames :
    (Wt.rd Reg.EM_STATUS_STATE (7 : Fin 8) ≠ 1) ∧
    (Wem.rd Reg.EM_STATUS_STATE (7 : Fin 8) = 1) ∧
    ((((Wem.wr Reg.EM_RX_HEAD_HEAD 255 7).wr Reg.EM_RX_TAIL_TAIL 9 7 : State).rd Reg.EM_STATUS_STATE (7 : Fin 8) = 1) ∧
      (udpOf (Wframe : List Byte) = none) ∧
      ((((Wem.wr Reg.EM_RX_HEAD_HEAD 255 7).wr Reg.EM_RX_TAIL_TAIL 9 7 : State).rd Reg.EM_RX_HEAD_HEAD (7 : Fin 8) + 1) % 2 ^ ((Wem.wr Reg.EM_RX_HEAD_HEAD 255 7).wr Reg.EM_RX_TAIL_TAIL 9 7 : State).rd Reg.EM_RX_CFG_LOG2 (7 : Fin 8) ≠ ((Wem.wr Reg.EM_RX_HEAD_HEAD 255 7).wr Reg.EM_RX_TAIL_TAIL 9 7 : State).rd Reg.EM_RX_TAIL_TAIL (7 : Fin 8))) ∧
    ((((Wem.wr Reg.EM_RX_TAIL_TAIL 0 7).wr Reg.EM_RX_HEAD_HEAD 255 7 : State).rd Reg.EM_STATUS_STATE (7 : Fin 8) = 1) ∧
      (udpOf (Wframe : List Byte) = none) ∧
      ((((Wem.wr Reg.EM_RX_TAIL_TAIL 0 7).wr Reg.EM_RX_HEAD_HEAD 255 7 : State).rd Reg.EM_RX_HEAD_HEAD (7 : Fin 8) + 1) % 2 ^ ((Wem.wr Reg.EM_RX_TAIL_TAIL 0 7).wr Reg.EM_RX_HEAD_HEAD 255 7 : State).rd Reg.EM_RX_CFG_LOG2 (7 : Fin 8) = ((Wem.wr Reg.EM_RX_TAIL_TAIL 0 7).wr Reg.EM_RX_HEAD_HEAD 255 7 : State).rd Reg.EM_RX_TAIL_TAIL (7 : Fin 8))) ∧
    ((Wem.rd Reg.EM_STATUS_STATE (7 : Fin 8) = 1) ∧
      (udpOf (Wudp : List Byte) = some (⟨0, 47301, true, true, true, [1, 2, 3, 4]⟩ : Udp)) ∧
      (udpAccepted (⟨0, 47301, true, true, true, [1, 2, 3, 4]⟩ : Udp).port (Wem.classAt ((7 : Fin 8) + 1)) = true) ∧
      ((⟨0, 47301, true, true, true, [1, 2, 3, 4]⟩ : Udp).port = 47301) ∧
      (((⟨0, 47301, true, true, true, [1, 2, 3, 4]⟩ : Udp).whole && (⟨0, 47301, true, true, true, [1, 2, 3, 4]⟩ : Udp).ipOk && (⟨0, 47301, true, true, true, [1, 2, 3, 4]⟩ : Udp).sumOk && (⟨0, 47301, true, true, true, [1, 2, 3, 4]⟩ : Udp).dst == Wem.rd Reg.EM_IPV4_IP (7 : Fin 8)) = true)) ∧
    ((({ Wem with zdp := {} } : State).rd Reg.EM_STATUS_STATE (7 : Fin 8) = 1) ∧
      (udpOf (Wudp : List Byte) = some (⟨0, 47301, true, true, true, [1, 2, 3, 4]⟩ : Udp)) ∧
      (udpAccepted (⟨0, 47301, true, true, true, [1, 2, 3, 4]⟩ : Udp).port (({ Wem with zdp := {} } : State).classAt ((7 : Fin 8) + 1)) = false)) ∧
    (Wt.rd Reg.EM_STATUS_STATE (7 : Fin 8) ≠ 1) ∧
    (((Wem.txSt (7 : Fin 8)).busy = none) ∧ (Wem.txNext (7 : Fin 8) = none)) ∧
    (((Wem.setTx 7 (fun x => { x with busy := some (.ring 3 9) }) : State).rd Reg.EM_STATUS_STATE (7 : Fin 8) = 1) ∧
      (((Wem.setTx 7 (fun x => { x with busy := some (.ring 3 9) }) : State).txSt (7 : Fin 8)).busy = some (.ring 3 9))) ∧
    (((Wem.setTx 7 (fun x => { x with busy := some (.ring 3 9) }) : State).rd Reg.EM_STATUS_STATE (7 : Fin 8) = 1) ∧
      (((Wem.setTx 7 (fun x => { x with busy := some (.ring 3 9) }) : State).txSt (7 : Fin 8)).busy = some (.ring (3 : Fin 4) (9 : Nat)))) ∧
    ((1 ≤ (8 : PortNo).val) ∧ ((8 : PortNo).val ≤ 8)) ∧
    ((25 ≤ (32 : PortNo).val) ∧ ((32 : PortNo).val ≤ 32) ∧
      (Wsu.rd Reg.SU_STATUS_STATE ((32 : PortNo) - 25 : Nat) = 1)) ∧
    ((33 ≤ (36 : PortNo).val) ∧ ((36 : PortNo).val ≤ 36) ∧
      (Wxl.rd Reg.XL_STATUS_STATE ((36 : PortNo) - 33 : Nat) = 1)) ∧
    ((25 ≤ (32 : PortNo).val) ∧ ((32 : PortNo).val ≤ 32) ∧ (Wt.rd Reg.SU_STATUS_STATE ((32 : PortNo) - 25 : Nat) ≠ 1)) ∧
    ((33 ≤ (36 : PortNo).val) ∧ ((36 : PortNo).val ≤ 36) ∧ (Wt.rd Reg.XL_STATUS_STATE ((36 : PortNo) - 33 : Nat) ≠ 1)) ∧
    ((37 : PortNo).val = 0 ∨ (9 ≤ (37 : PortNo).val ∧ (37 : PortNo).val ≤ 24) ∨ (37 : PortNo).val = 37) ∧
    (Wt.rd Reg.XL_STATUS_STATE (3 : Fin 4) ≠ 1) ∧
    ((Wxl.rd Reg.XL_STATUS_STATE (3 : Fin 4) = 1) ∧
      (crc32 (peerBytes (Wpeer 8 : PeerFrame)) ≠ (Wpeer 8 : PeerFrame).crc.toNat ∨ (Wpeer 8 : PeerFrame).type = 0 ∨ 8 ≤ (Wpeer 8 : PeerFrame).type.toNat)) ∧
    ((Wxl.rd Reg.XL_STATUS_STATE (3 : Fin 4) = 1) ∧
      (crc32 (peerBytes (Wpeer 1 : PeerFrame)) = (Wpeer 1 : PeerFrame).crc.toNat) ∧ ((Wpeer 1 : PeerFrame).type = 1)) ∧
    ((Wxl.rd Reg.XL_STATUS_STATE (3 : Fin 4) = 1) ∧
      (crc32 (peerBytes (Wpeer 4 : PeerFrame)) = (Wpeer 4 : PeerFrame).crc.toNat) ∧
      (4 ≤ (Wpeer 4 : PeerFrame).type.toNat) ∧ ((Wpeer 4 : PeerFrame).type.toNat ≤ 7) ∧
      ((Wxl.rd Reg.XL_RX_HEAD_HEAD (3 : Fin 4) + 1) % 2 ^ Wxl.rd Reg.XL_RX_CFG_LOG2 (3 : Fin 4) ≠ Wxl.rd Reg.XL_RX_TAIL_TAIL (3 : Fin 4))) ∧
    (Wt.flag Reg.XL_STATUS_LINK (3 : Fin 4) ≠ (true : Bool)) ∧
    (Wt.flag Reg.XL_STATUS_LINK (3 : Fin 4) = (false : Bool)) ∧
    (Wt.rd Reg.SU_STATUS_STATE (7 : Fin 8) ≠ 1) ∧
    (Wsu.rd Reg.SU_STATUS_STATE (7 : Fin 8) = 1) ∧
    ((Wsu.rd Reg.SU_STATUS_STATE (7 : Fin 8) = 1) ∧ (Wsu.rd Reg.SU_CTRL_MODE (7 : Fin 8) ≠ 2) ∧
      ((Wsu.rd Reg.SU_RX_HEAD_HEAD (7 : Fin 8) + 1) % 2 ^ Wsu.rd Reg.SU_RX_CFG_LOG2 (7 : Fin 8) ≠ Wsu.rd Reg.SU_RX_TAIL_TAIL (7 : Fin 8))) ∧
    (((Wsu.wr Reg.SU_RX_TAIL_TAIL 1 7 : State).rd Reg.SU_STATUS_STATE (7 : Fin 8) = 1) ∧
      ((Wsu.wr Reg.SU_RX_TAIL_TAIL 1 7 : State).rd Reg.SU_CTRL_MODE (7 : Fin 8) ≠ 2) ∧
      (((Wsu.wr Reg.SU_RX_TAIL_TAIL 1 7 : State).rd Reg.SU_RX_HEAD_HEAD (7 : Fin 8) + 1) % 2 ^ (Wsu.wr Reg.SU_RX_TAIL_TAIL 1 7 : State).rd Reg.SU_RX_CFG_LOG2 (7 : Fin 8) = (Wsu.wr Reg.SU_RX_TAIL_TAIL 1 7 : State).rd Reg.SU_RX_TAIL_TAIL (7 : Fin 8))) :=
  ⟨by decide +kernel, by decide +kernel, by decide +kernel, by decide +kernel, by decide +kernel, by decide +kernel,
    by decide +kernel, by decide +kernel, by decide +kernel, by decide +kernel, by decide +kernel, by decide +kernel,
    by decide +kernel, by decide +kernel, by decide +kernel, by decide +kernel, by decide +kernel, by decide +kernel,
    by decide +kernel, by decide +kernel, by decide +kernel, by decide +kernel, by decide +kernel, by decide +kernel,
    by decide +kernel, by decide +kernel⟩

/-- States and operands that meet the hypotheses of each clause of `PortModes`. -/
theorem witness_PortModes :
    (portKind (37 : PortNo) = none) ∧
    ((portKind (8 : PortNo) = some (Reg.EM_CTRL_ENABLE, Reg.EM_STATUS_STATE, Reg.EM_STATUS_BIST_PASS, Obj.EM_ENABLE, (slotAt 5 7), (7 : Nat))) ∧
      (Wt.rd Reg.EM_STATUS_STATE (7 : Nat) = 0) ∧
      ((if (true : Bool) then Wt.portLoad (8 : PortNo) else Wt).portRefusal (8 : PortNo) = 0)) ∧
    ((portKind (36 : PortNo) = some (Reg.XL_CTRL_ENABLE, Reg.XL_STATUS_STATE, Reg.XL_STATUS_BIST_PASS, Obj.XL_ENABLE, (slotAt 4 3), (3 : Nat))) ∧
      ((Wt.wr Reg.SUP_STRAP_ROLE 2 : State).rd Reg.XL_STATUS_STATE (3 : Nat) = 0) ∧
      ((if (false : Bool) then (Wt.wr Reg.SUP_STRAP_ROLE 2 : State).portLoad (36 : PortNo) else (Wt.wr Reg.SUP_STRAP_ROLE 2 : State)).portRefusal (36 : PortNo) ≠ 0)) ∧
    ((portKind (32 : PortNo) = some (Reg.SU_CTRL_ENABLE, Reg.SU_STATUS_STATE, Reg.SU_STATUS_BIST_PASS, Obj.SU_ENABLE, (slotAt 7 7), (7 : Nat))) ∧
      (Wsu.rd Reg.SU_STATUS_STATE (7 : Nat) = 1)) ∧
    ((portKind (32 : PortNo) = some (Reg.SU_CTRL_ENABLE, Reg.SU_STATUS_STATE, Reg.SU_STATUS_BIST_PASS, Obj.SU_ENABLE, (slotAt 7 7), (7 : Nat))) ∧
      (1 < (Wt.wr Reg.SU_STATUS_STATE 2 7 : State).rd Reg.SU_STATUS_STATE (7 : Nat))) ∧
    (portKind (32 : PortNo) = some (Reg.SU_CTRL_ENABLE, Reg.SU_STATUS_STATE, Reg.SU_STATUS_BIST_PASS, Obj.SU_ENABLE, (slotAt 7 7), (7 : Nat))) ∧
    (portKind (37 : PortNo) = none) ∧
    ((portKind (32 : PortNo) = some (Reg.SU_CTRL_ENABLE, Reg.SU_STATUS_STATE, Reg.SU_STATUS_BIST_PASS, Obj.SU_ENABLE, (slotAt 7 7), (7 : Nat))) ∧
      (Wsu.rd Reg.SU_STATUS_STATE (7 : Nat) < 3)) ∧
    ((portKind (32 : PortNo) = some (Reg.SU_CTRL_ENABLE, Reg.SU_STATUS_STATE, Reg.SU_STATUS_BIST_PASS, Obj.SU_ENABLE, (slotAt 7 7), (7 : Nat))) ∧
      (3 ≤ (Wt.wr Reg.SU_STATUS_STATE 3 7 : State).rd Reg.SU_STATUS_STATE (7 : Nat))) ∧
    (portKind (37 : PortNo) = none) ∧
    ((portKind (36 : PortNo) = some (Reg.XL_CTRL_ENABLE, Reg.XL_STATUS_STATE, Reg.XL_STATUS_BIST_PASS, Obj.XL_ENABLE, (slotAt 4 3), (3 : Nat))) ∧
      (Wt.rd Reg.XL_STATUS_STATE (3 : Nat) ≠ 3)) ∧
    ((portKind (36 : PortNo) = some (Reg.XL_CTRL_ENABLE, Reg.XL_STATUS_STATE, Reg.XL_STATUS_BIST_PASS, Obj.XL_ENABLE, (slotAt 4 3), (3 : Nat))) ∧
      ((Wt.wr Reg.XL_STATUS_STATE 3 3 : State).rd Reg.XL_STATUS_STATE (3 : Nat) = 3)) ∧
    ((portKind (36 : PortNo) = some (Reg.XL_CTRL_ENABLE, Reg.XL_STATUS_STATE, Reg.XL_STATUS_BIST_PASS, Obj.XL_ENABLE, (slotAt 4 3), (3 : Nat))) ∧
      ((Wt.wr Reg.XL_STATUS_STATE 3 3 : State).rd Reg.XL_STATUS_STATE (3 : Nat) = 3)) ∧
    (portKind (37 : PortNo) = none) ∧
    ((portKind (36 : PortNo) = some (Reg.XL_CTRL_ENABLE, Reg.XL_STATUS_STATE, Reg.XL_STATUS_BIST_PASS, Obj.XL_ENABLE, (slotAt 4 3), (3 : Nat))) ∧
      ((Wt.wr Reg.XL_STATUS_STATE 2 3 : State).rd Reg.XL_STATUS_STATE (3 : Nat) = 2)) ∧
    ((portKind (32 : PortNo) = some (Reg.SU_CTRL_ENABLE, Reg.SU_STATUS_STATE, Reg.SU_STATUS_BIST_PASS, Obj.SU_ENABLE, (slotAt 7 7), (7 : Nat))) ∧
      (Wsu.rd Reg.SU_STATUS_STATE (7 : Nat) ≠ 2)) ∧
    (Wt.fuseRefusal (3 : PortNo) (9 : BitVec 16).toNat (0 : PortNo) (6 : BitVec 8).toNat ≠ 0) ∧
    (Wt.fuseRefusal (3 : PortNo) (9 : BitVec 16).toNat (8 : PortNo) (4 : BitVec 8).toNat = 0) ∧
    ((2759 : BitVec 16).toNat < 2760) ∧
    ((2760 ≤ (2760 : BitVec 16).toNat) ∧
      (((Wt.raise Reg.GAUGE_STATUS_DIP).setGauge (fun g => { g with dipAt := 5 }) : State).dip = true) ∧
      (((Wt.raise Reg.GAUGE_STATUS_DIP).setGauge (fun g => { g with dipAt := 5 }) : State).journal.held = []) ∧
      (((Wt.raise Reg.GAUGE_STATUS_DIP).setGauge (fun g => { g with dipAt := 5 }) : State).journal.kept = []) ∧
      (((Wt.raise Reg.GAUGE_STATUS_DIP).setGauge (fun g => { g with dipAt := 5 }) : State).health.held = []) ∧
      (((Wt.raise Reg.GAUGE_STATUS_DIP).setGauge (fun g => { g with dipAt := 5 }) : State).health.heldHist = []) ∧
      (((Wt.raise Reg.GAUGE_STATUS_DIP).setGauge (fun g => { g with dipAt := 5 }) : State).health.exhausted = false)) :=
  ⟨by decide +kernel, by decide +kernel, by decide +kernel, by decide +kernel, by decide +kernel, by decide +kernel,
    by decide +kernel, by decide +kernel, by decide +kernel, by decide +kernel, by decide +kernel, by decide +kernel,
    by decide +kernel, by decide +kernel, by decide +kernel, by decide +kernel, by decide +kernel, by decide +kernel,
    by decide +kernel, by decide +kernel⟩

/-- States and operands that meet the hypotheses of each clause of `CounterCommands`. -/
theorem witness_CounterCommands :
    ((Wt.raise Reg.CNT_STATUS_SNAP_BUSY : State).flag Reg.CNT_STATUS_SNAP_BUSY = true) ∧
    (((Wt.wr Reg.CNT_EV_LO_COUNT 7 255).wr Reg.CNT_H_BIN_COUNT 9 15 31 : State).flag Reg.CNT_STATUS_SNAP_BUSY = false) ∧
    (Wt.flag Reg.CNT_STATUS_ARMED = false) ∧
    ((((Wt.raise Reg.CNT_STATUS_ARMED).wr Reg.CNT_AT_SEC_LO_SEC 1000 : State).flag Reg.CNT_STATUS_ARMED = true) ∧
      ((((Wt.raise Reg.CNT_STATUS_ARMED).wr Reg.CNT_AT_SEC_LO_SEC 1000 : State).flag Reg.CNT_STATUS_SNAP_LATE || ((Wt.raise Reg.CNT_STATUS_ARMED).wr Reg.CNT_AT_SEC_LO_SEC 1000 : State).fires 0 ((Wt.raise Reg.CNT_STATUS_ARMED).wr Reg.CNT_AT_SEC_LO_SEC 1000 : State).snapAt) = true)) ∧
    ((Wskip.flag Reg.CNT_STATUS_ARMED = true) ∧
      ((Wskip.flag Reg.CNT_STATUS_SNAP_LATE || Wskip.fires 0 Wskip.snapAt) = false) ∧
      ((Wskip.base 0).skipFrom < Wskip.snapAt) ∧ (Wskip.snapAt < (Wskip.base 0).skipTo) ∧ (Wskip.snapAt ≤ Wskip.now 0)) ∧
    (Wt.flag Reg.CNT_PERIOD_SNAP_PERIOD_MS = false) ∧
    ((((Wt.wr Reg.CNT_EV_LO_COUNT 7 255).wr Reg.CNT_PERIOD_SNAP_PERIOD_MS 10 : State).flag Reg.CNT_PERIOD_SNAP_PERIOD_MS = true) ∧
      (((Wt.wr Reg.CNT_EV_LO_COUNT 7 255).wr Reg.CNT_PERIOD_SNAP_PERIOD_MS 10 : State).flag Reg.CNT_STATUS_SNAP_BUSY = false)) ∧
    (((Wt.raise Reg.CNT_STATUS_SNAP_BUSY).wr Reg.CNT_STATUS_SNAP_SEQ 65535 : State).flag Reg.CNT_STATUS_SNAP_BUSY = true) ∧
    (Wt.flag Reg.CNT_STATUS_SNAP_BUSY = false) :=
  ⟨by decide +kernel, by decide +kernel, by decide +kernel, by decide +kernel, by decide +kernel, by decide +kernel,
    by decide +kernel, by decide +kernel, by decide +kernel⟩

/-- States and operands that meet the hypotheses of each clause of `TrajectoryCommands`. -/
theorem witness_TrajectoryCommands :
    ((2 : Word).toNat % 2 = 0) ∧
    ((1 : Word).toNat % 2 = 1) ∧
    (Wt.loop.copying = none) ∧
    ((Wt.setLoop (fun l => { l with copying := some Wtraj, pendingTraj := some Wtraj }) : State).loop.copying = some Wtraj) ∧
    (((Wt.setLoop (fun l => { l with staleSince := some 0 }) : State).loop.staleSince = some (0 : Nat)) ∧
      ((Wt.setLoop (fun l => { l with staleSince := some 0 }) : State).elapsed (0 : Nat) 10000000000 = true) ∧
      ((Wt.setLoop (fun l => { l with staleSince := some 0 }) : State).loop.staleAlarmed = false)) ∧
    (Wt.loop.staleAlarmed = true ∨ Wt.loop.staleSince = none) :=
  ⟨by decide +kernel, by decide +kernel, by decide +kernel, by decide +kernel, by decide +kernel, by decide +kernel⟩

/-- States and operands that meet the hypotheses of each clause of `ZdpMessages`. -/
theorem witness_ZdpMessages :
    (((Instr.zdpRead 1 (Wmsg 1 0x1000 1 [])) ∈ zdpCommands (1 : PortNo) (Wmsg 1 0x1000 1 [])) ∧
      ((Wt.setHub (fun h => { h with entered := false }) : State).zdpServed (1 : PortNo) = false)) ∧
    (((Instr.zdpRead 2 (Wmsg 1 0x1000 1 [])) ∈ zdpCommands (2 : PortNo) (Wmsg 1 0x1000 1 [])) ∧
      (Wzdp.zdpServed (2 : PortNo) = true) ∧ (Wzdp.zdpRefuses (2 : PortNo) (Wmsg 1 0x1000 1 []) = true)) ∧
    (((Instr.zdpRead 1 Wnotify) ∈ zdpCommands (1 : PortNo) Wnotify) ∧ (Wzdp.zdpServed (1 : PortNo) = true) ∧
      (Wzdp.zdpRefuses (1 : PortNo) Wnotify = false) ∧ (Wnotify.kind = 5)) ∧
    (((Instr.zdpRead 1 (Wmsg 1 0x1000 1 [])) ∈ zdpCommands (1 : PortNo) (Wmsg 1 0x1000 1 [])) ∧
      (({ Wzdp with zdp := { Wzdp.zdp with rate := [(1, 100000)] } } : State).zdpServed (1 : PortNo) = true) ∧
      (({ Wzdp with zdp := { Wzdp.zdp with rate := [(1, 100000)] } } : State).zdpRefuses (1 : PortNo) (Wmsg 1 0x1000 1 []) = false) ∧
      ((Wmsg 1 0x1000 1 []).kind ≠ 5) ∧
      (({ Wzdp with zdp := { Wzdp.zdp with rate := [(1, 100000)] } } : State).objN Obj.ZDP_REQ_LIMIT ≤ Map.get 0 ({ Wzdp with zdp := { Wzdp.zdp with rate := [(1, 100000)] } } : State).zdp.rate (1 : PortNo))) ∧
    (((Instr.zdpWrite 1 Wany) ∈ zdpCommands (1 : PortNo) Wany) ∧ (Wzdp.zdpServed (1 : PortNo) = true) ∧
      (Wzdp.zdpRefuses (1 : PortNo) Wany = false) ∧ (Wany.kind ≠ 5) ∧
      (Map.get 0 Wzdp.zdp.rate (1 : PortNo) < Wzdp.objN Obj.ZDP_REQ_LIMIT) ∧ (Wzdp.dstKind Wany = 3) ∧ (Wany.kind ≠ 1)) ∧
    (((Instr.zdpRead 1 (Wmsg 1 0x1000 1 [])) ∈ zdpCommands (1 : PortNo) (Wmsg 1 0x1000 1 [])) ∧
      (Wzdp.gateTakes (1 : PortNo) (Wmsg 1 0x1000 1 []) = true) ∧ ((Wmsg 1 0x1000 1 []).kind = 1)) ∧
    (((Instr.zdpWrite 1 (Wmsg 2 0x1000 1 [1, 2])) ∈ zdpCommands (1 : PortNo) (Wmsg 2 0x1000 1 [1, 2])) ∧
      (Wzdp.gateTakes (1 : PortNo) (Wmsg 2 0x1000 1 [1, 2]) = true) ∧ ((Wmsg 2 0x1000 1 [1, 2]).kind = 2)) ∧
    (((Instr.zdpOrder 1 (WmsgFrom 0xFFFF 3 0x1000 1 [])) ∈ zdpCommands (1 : PortNo) (WmsgFrom 0xFFFF 3 0x1000 1 [])) ∧
      (Wzdp.gateTakes (1 : PortNo) (WmsgFrom 0xFFFF 3 0x1000 1 []) = true) ∧
      ((WmsgFrom 0xFFFF 3 0x1000 1 []).kind = 3) ∧ ((WmsgFrom 0xFFFF 3 0x1000 1 []).src = 0xFFFF)) ∧
    (((Instr.zdpOrder 1 (Wmsg 3 0x1000 1 [])) ∈ zdpCommands (1 : PortNo) (Wmsg 3 0x1000 1 [])) ∧
      (Wzdp.gateTakes (1 : PortNo) (Wmsg 3 0x1000 1 []) = true) ∧ ((Wmsg 3 0x1000 1 []).kind = 3) ∧
      ((Wmsg 3 0x1000 1 []).src ≠ 0xFFFF) ∧ ((Wzdp.taken 1) = Wzdp.taken (1 : PortNo)) ∧
      (((Wzdp.taken 1).orderOf 1 (Wmsg 3 0x1000 1 [])) = (Wzdp.taken 1).orderOf (1 : PortNo) (Wmsg 3 0x1000 1 [])) ∧
      (((Wzdp.taken 1).replyTo 1 (Wmsg 3 0x1000 1 []) 0) = (Wzdp.taken 1).replyTo (1 : PortNo) (Wmsg 3 0x1000 1 []) (if (Wmsg 3 0x1000 1 []).body.length < 8 then 0 else ((Wzdp.taken 1).orderOf 1 (Wmsg 3 0x1000 1 [])).identity))) ∧
    (((Instr.zdpSubscribe 1 (Wmsg 4 0x1000 1 [0, 0, 0, 0, 0, 0, 10, 0, 0, 0, 0, 0])) ∈ zdpCommands (1 : PortNo) (Wmsg 4 0x1000 1 [0, 0, 0, 0, 0, 0, 10, 0, 0, 0, 0, 0])) ∧
      (Wzdp.gateTakes (1 : PortNo) (Wmsg 4 0x1000 1 [0, 0, 0, 0, 0, 0, 10, 0, 0, 0, 0, 0]) = true) ∧
      ((Wmsg 4 0x1000 1 [0, 0, 0, 0, 0, 0, 10, 0, 0, 0, 0, 0]).kind = 4)) ∧
    (((Instr.bulkRead 1 (Wmsg 6 0x1000 1 [0, 0, 0, 0, 2, 0, 0, 0])) ∈ zdpCommands (1 : PortNo) (Wmsg 6 0x1000 1 [0, 0, 0, 0, 2, 0, 0, 0])) ∧
      (Wzdp.gateTakes (1 : PortNo) (Wmsg 6 0x1000 1 [0, 0, 0, 0, 2, 0, 0, 0]) = true) ∧
      ((Wmsg 6 0x1000 1 [0, 0, 0, 0, 2, 0, 0, 0]).kind = 6) ∧
      (bitOf (Wmsg 6 0x1000 1 [0, 0, 0, 0, 2, 0, 0, 0]).flags.toNat 4 = false)) ∧
    (((Instr.bulkWriteSegment 1 Wbulk) ∈ zdpCommands (1 : PortNo) Wbulk) ∧
      (Wzdp.gateTakes (1 : PortNo) Wbulk = true) ∧ (Wbulk.kind = 6) ∧ (bitOf Wbulk.flags.toNat 4 = true)) :=
  ⟨by decide +kernel, by decide +kernel, by decide +kernel, by decide +kernel, by decide +kernel, by decide +kernel,
    by decide +kernel, by decide +kernel, by decide +kernel, by decide +kernel, by decide +kernel, by decide +kernel⟩

/-- States and operands that meet the hypotheses of each clause of `SubscriptionCommands`. -/
theorem witness_SubscriptionCommands :
    (Wt.subById (7 : Nat) = none) ∧
    ((Wsub.subById (7 : Nat) = some Wsub7) ∧ (Wsub7.stream = 0) ∧ (Wsub.intervalOk Wsub7 = true)) ∧
    ((Wsub.subById (7 : Nat) = some Wsub7) ∧ (Wsub7.stream = 0) ∧ ((Wsub.intervalOk Wsub7 && (false : Bool)) = false)) ∧
    ((Wsub.subById (8 : Nat) = some Wsub8) ∧ (Wsub8.stream ≠ 0) ∧ ((Wsub.intervalOk Wsub8 && (false : Bool)) = false)) ∧
    ((Wsub.subById (8 : Nat) = some Wsub8) ∧ (Wsub8.stream = 2) ∧ (Wsub.intervalOk Wsub8 = true) ∧
      (Wsub8.evQueue = Wlog :: ([]))) ∧
    ((Wsub.subById (9 : Nat) = some Wsub9) ∧ (Wsub.intervalOk Wsub9 = false)) ∧
    ((Wsub.subById (10 : Nat) = some Wsub10) ∧ (Wsub.intervalOk Wsub10 = true) ∧ (Wsub10.stream = 0) ∧
      (Wsub10.waiting = some ((Val.bytes [1, 2]), (⟨0, 0⟩ : Stamp)))) ∧
    ((Wsub.subById (10 : Nat) = some Wsub10) ∧ (Wsub.intervalOk Wsub10 = true) ∧ (Wsub10.stream = 0) ∧
      (Wsub10.waiting = some ((Val.bytes [1, 2]), (⟨0, 0⟩ : Stamp)))) ∧
    (Wt.subById (7 : Nat) = none) :=
  ⟨by decide +kernel, by decide +kernel, by decide +kernel, by decide +kernel, by decide +kernel, by decide +kernel,
    by decide +kernel, by decide +kernel, by decide +kernel⟩

/-- States and operands that meet the hypotheses of each clause of `CoreAccess`. -/
theorem witness_CoreAccess :
    (Wt.accessCause (.user : CoreMode) true ((32 : BitVec 8).toNat / 8) (0x40030000 : Word).toNat = some AccessCause.access) ∧
    (Wt.accessCause (.user : CoreMode) false ((32 : BitVec 8).toNat / 8) (0x40030000 : Word).toNat = some AccessCause.access) ∧
    ((Wt.accessCause (.user : CoreMode) true ((64 : BitVec 8).toNat / 8) (0x10000001 : Word).toNat = none) ∧
      (areaAt (0x10000001 : Word).toNat = .grist)) ∧
    ((Wpow.accessCause (.supervisor : CoreMode) true ((64 : BitVec 8).toNat / 8) (0x20000001 : Word).toNat = none) ∧
      (areaAt (0x20000001 : Word).toNat = .tileMem (0))) ∧
    (((Wt.gristPut 1 [1, 2, 3] : State).accessCause (.user : CoreMode) false ((64 : BitVec 8).toNat / 8) (0x10000001 : Word).toNat = none) ∧
      (areaAt (0x10000001 : Word).toNat = .grist ∨ (List.range 32).any (fun n => areaAt (0x10000001 : Word).toNat == .tileMem n) = true)) ∧
    ((Wt.accessCause (.machine : CoreMode) false 4 (0x30000004 : Word).toNat = none) ∧
      (areaAt (0x30000004 : Word).toNat = .cask)) ∧
    (((.machine : CoreMode) ≠ .user) ∧ ((0x4006F00C : Word).toNat = 0x4006000C + 4096 * (15 : Fin 16).val)) ∧
    (((.machine : CoreMode) ≠ .user) ∧ ((0x4006F008 : Word).toNat = 0x40060008 + 4096 * (15 : Fin 16).val)) ∧
    (((.machine : CoreMode) ≠ .user) ∧ ((0x4006F034 : Word).toNat = 0x40060034 + 4096 * (15 : Fin 16).val) ∧
      (((Wt.wr Reg.CAN_RX_LOST_LOST 77 15 : State).latch.any fun p => p.1 == (0x4006F034 : Word).toNat) = false)) ∧
    (((.machine : CoreMode) ≠ .user) ∧ ((0x4006F008 : Word).toNat = 0x40060008 + 4096 * (15 : Fin 16).val) ∧
      (((Wt.raise Reg.CAN_IRQ_RX 15 : State).latch.any fun p => p.1 == (0x4006F008 : Word).toNat) = false)) ∧
    ((((Wt.raise Reg.JE_STATUS_APPLY_OPEN).wr Reg.JE_APPLY_ADDR_ADDR 0x1000CD00 : State).flag Reg.JE_STATUS_APPLY_OPEN = true) ∧
      (((Wt.raise Reg.JE_STATUS_APPLY_OPEN).wr Reg.JE_APPLY_ADDR_ADDR 0x1000CD00 : State).rd Reg.JE_APPLY_ADDR_ADDR / 2 ^ 14 = 0x4003 ∨ ((Wt.raise Reg.JE_STATUS_APPLY_OPEN).wr Reg.JE_APPLY_ADDR_ADDR 0x1000CD00 : State).rd Reg.JE_APPLY_ADDR_ADDR / 2 ^ 14 = 0x400C)) ∧
    (Wt.flag Reg.JE_STATUS_APPLY_OPEN = false) ∧
    (Wt.flag Reg.JE_STATUS_APPLY_OPEN = false ∨ Wt.journal.apply = none) ∧
    ((Wapply.flag Reg.JE_STATUS_APPLY_OPEN = true) ∧ (Wapply.journal.apply = some (⟨7, 0, false⟩ : OpenApply)) ∧
      ((Wapply.heldOrders.find? fun x => x.osn == (⟨7, 0, false⟩ : OpenApply).osn) = some Worder)) :=
  ⟨by decide +kernel, by decide +kernel, by decide +kernel, by decide +kernel, by decide +kernel, by decide +kernel,
    by decide +kernel, by decide +kernel, by decide +kernel, by decide +kernel, by decide +kernel, by decide +kernel,
    by decide +kernel, by decide +kernel⟩

/-- States and operands that meet the hypotheses of each clause of `JournalMessages`. -/
theorem witness_JournalMessages :
    (Wt.journal.writing = []) ∧
    ((Wt.setJ (fun j => { j with writing := [Worder] }) : State).journal.writing = Worder :: ([])) ∧
    ((Wt.setJ (fun j => { j with window := [(7, 5)] }) : State).windowFind (Worder : OrderRec).identity = some (7 : Nat)) ∧
    (((Wt.setJ (fun j => { j with writing := [Worder] }) : State).windowFind (Worder : OrderRec).identity = none) ∧
      ((Wt.setJ (fun j => { j with writing := [Worder] }) : State).inFlight (Worder : OrderRec).identity = some Worder)) ∧
    (((Wt.setJ (fun j => { j with waiting := [⟨Worder, none⟩] }) : State).windowFind (Worder : OrderRec).identity = none) ∧
      ((Wt.setJ (fun j => { j with waiting := [⟨Worder, none⟩] }) : State).inFlight (Worder : OrderRec).identity = none) ∧
      ((Wt.setJ (fun j => { j with waiting := [⟨Worder, none⟩] }) : State).pendingIdentity (Worder : OrderRec).identity = true)) ∧
    (((Wt.raise Reg.GAUGE_STATUS_DIP : State).windowFind (Worder : OrderRec).identity = none) ∧
      ((Wt.raise Reg.GAUGE_STATUS_DIP : State).pendingIdentity (Worder : OrderRec).identity = false) ∧
      ((Wt.raise Reg.GAUGE_STATUS_DIP : State).dip = true) ∧
      (((Wt.raise Reg.GAUGE_STATUS_DIP : State).journal.held.filter fun e => !e.isPersist).length < 64)) ∧
    ((Wt.windowFind (Worder : OrderRec).identity = none) ∧ (Wt.pendingIdentity (Worder : OrderRec).identity = false) ∧
      (Wt.dip = false) ∧ (Wt.isSequencer = true) ∧ (Wt.mayNumber (Worder : OrderRec) = true) ∧ (Wt.jstate ≠ 7)) ∧
    ((Wset.windowFind (Worder : OrderRec).identity = none) ∧
      (Wset.pendingIdentity (Worder : OrderRec).identity = false) ∧ (Wset.dip = false) ∧ (Wset.isSequencer = false)) ∧
    (((Wt.setJ (fun j => { j with waiting := [⟨Worder, none⟩] }) : State).journal.waiting = (⟨Worder, none⟩ : Waiting) :: ([])) ∧
      ((Wt.setJ (fun j => { j with waiting := [⟨Worder, none⟩] }) : State).isSequencer = true) ∧
      ((Wt.setJ (fun j => { j with waiting := [⟨Worder, none⟩] }) : State).journal.takeover = false) ∧
      ((Wt.setJ (fun j => { j with waiting := [⟨Worder, none⟩] }) : State).dip = false) ∧
      ((Wt.setJ (fun j => { j with waiting := [⟨Worder, none⟩] }) : State).givenNow + orderNrec (⟨Worder, none⟩ : Waiting).order ≤ 1000)) ∧
    (Wt.journal.waiting = [] ∨ Wt.isSequencer = false ∨ Wt.journal.takeover = true ∨ Wt.dip = true) ∧
    ((Wset.journal.forwards.any fun g => g.tag == (9 : Word).toNat) = false) ∧
    (((((Wset.setJ (fun j => { j with forwards := [⟨9, Worder, 5⟩], seqView := some 2 })) : State).journal.forwards.find? fun g => g.tag == (9 : Word).toNat) = some (⟨9, Worder, 5⟩ : Forwarded)) ∧
      (((Wset.setJ (fun j => { j with forwards := [⟨9, Worder, 5⟩], seqView := some 2 })) : State).isSequencer = false) ∧
      (((Wset.setJ (fun j => { j with forwards := [⟨9, Worder, 5⟩], seqView := some 2 })) : State).journal.seqView = some (2 : Member).val)) ∧
    (((Wset.setJ (fun j => { j with forwards := [⟨9, Worder, 5⟩] }) : State).journal.forwards.find? fun g => g.tag == (9 : Word).toNat) = some (⟨9, Worder, 5⟩ : Forwarded)) ∧
    ((((Wset.setJ (fun j => { j with forwards := [⟨9, Worder, 5⟩] }) : State).journal.forwards.find? fun g => g.tag == (9 : Word).toNat) = some (⟨9, Worder, 5⟩ : Forwarded)) ∧
      ((16 : BitVec 8) ≠ 0) ∧ ((16 : BitVec 8) ≠ 0xFF)) ∧
    ((Wset.hear (2 : Member)).journal.seqView ≠ some (2 : Member).val) ∧
    (((Wset.setJ (fun j => { j with seqView := some 2 }) : State).hear (2 : Member)).journal.seqView = some (2 : Member).val) ∧
    ((((Wset.setJ (fun j => { j with seqView := some 2 }) : State).hear (2 : Member)).journal.seqView = some (2 : Member).val) ∧
      ((Wset.setJ (fun j => { j with seqView := some 2 }) : State).journal.gap = []) ∧
      (Worder1.osn = (Wset.setJ (fun j => { j with seqView := some 2 }) : State).lastOsn + 1) ∧
      ((Wset.setJ (fun j => { j with seqView := some 2 }) : State).dip = false) ∧
      ((Wset.setJ (fun j => { j with seqView := some 2 }) : State).jstate ≠ 6) ∧
      ((Wset.setJ (fun j => { j with seqView := some 2 }) : State).jstate ≠ 7)) ∧
    ((Wset.hear (2 : Member)).jstate ≠ 1) ∧
    (((Wset.wr Reg.JE_STATUS_STATE 1 : State).hear (2 : Member)).jstate = 1) :=
  ⟨by decide +kernel, by decide +kernel, by decide +kernel, by decide +kernel, by decide +kernel, by decide +kernel,
    by decide +kernel, by decide +kernel, by decide +kernel, by decide +kernel, by decide +kernel, by decide +kernel,
    by decide +kernel, by decide +kernel, by decide +kernel, by decide +kernel, by decide +kernel, by decide +kernel,
    by decide +kernel⟩

/-- States and operands that meet the hypotheses of each clause of `JournalEvents`. -/
theorem witness_JournalEvents :
    (Wt.journal.seqView = none) ∧
    ((Wset.setJ (fun j => { j with seqView := some 2 }) : State).journal.seqView = some (2 : Nat)) ∧
    (((((Wset.hear 2) : State).peer (2 : Member)).lastFrame = some (1000000000000 : Nat)) ∧
      (((Wset.hear 2) : State).elapsed (1000000000000 : Nat) 50000000 = false)) ∧
    (((((Wset.setPeer 2 (fun p => { p with lastFrame := some 5, heard := true })) : State).peer (2 : Member)).lastFrame = some (5 : Nat)) ∧
      (((Wset.setPeer 2 (fun p => { p with lastFrame := some 5, heard := true })) : State).elapsed (5 : Nat) 50000000 = true)) ∧
    ((Wset.peer (2 : Member)).lastFrame = none) ∧
    ((Wt.wr Reg.JE_STATUS_STATE 6 : State).control = false ∨ (Wt.wr Reg.JE_STATUS_STATE 6 : State).objB Obj.JE_SOLO_ALLOWED = false ∨ ((Wt.wr Reg.JE_STATUS_STATE 6 : State).jstate ≠ 1 ∧ (Wt.wr Reg.JE_STATUS_STATE 6 : State).jstate ≠ 2) ∨ (Wt.wr Reg.JE_STATUS_STATE 6 : State).elapsed (Wt.wr Reg.JE_STATUS_STATE 6 : State).journal.lastPeer ((Wt.wr Reg.JE_STATUS_STATE 6 : State).objN Obj.JE_SOLO_DELAY * 1000000) = false) ∧
    (((((Wset.wr Reg.JE_STATUS_STATE 2).setObjN Obj.JE_SOLO_ALLOWED 1) : State).control = true) ∧
      ((((Wset.wr Reg.JE_STATUS_STATE 2).setObjN Obj.JE_SOLO_ALLOWED 1) : State).objB Obj.JE_SOLO_ALLOWED = true) ∧
      ((((Wset.wr Reg.JE_STATUS_STATE 2).setObjN Obj.JE_SOLO_ALLOWED 1) : State).jstate = 1 ∨ (((Wset.wr Reg.JE_STATUS_STATE 2).setObjN Obj.JE_SOLO_ALLOWED 1) : State).jstate = 2) ∧
      ((((Wset.wr Reg.JE_STATUS_STATE 2).setObjN Obj.JE_SOLO_ALLOWED 1) : State).elapsed (((Wset.wr Reg.JE_STATUS_STATE 2).setObjN Obj.JE_SOLO_ALLOWED 1) : State).journal.lastPeer ((((Wset.wr Reg.JE_STATUS_STATE 2).setObjN Obj.JE_SOLO_ALLOWED 1) : State).objN Obj.JE_SOLO_DELAY * 1000000) = true)) ∧
    ((Wapply.journal.apply.isSome || Wapply.jstate == 6) = true) ∧
    (((((Wt.wr Reg.JE_OSN_COMMIT_LO_OSN 7).setJ (fun j => { j with ring := [Worder] }) : State).journal.apply.isSome || ((Wt.wr Reg.JE_OSN_COMMIT_LO_OSN 7).setJ (fun j => { j with ring := [Worder] }) : State).jstate == 6) = false) ∧
      ((((Wt.wr Reg.JE_OSN_COMMIT_LO_OSN 7).setJ (fun j => { j with ring := [Worder] }) : State).skipForeign ((Wt.wr Reg.JE_OSN_COMMIT_LO_OSN 7).setJ (fun j => { j with ring := [Worder] }) : State).toApply).toApply = Worder :: ([]))) ∧
    ((Wt.journal.apply = none) ∧ (Wt.jstate ≠ 6) ∧ (Wt.toApply = [])) ∧
    ((Wapply.journal.apply = some (⟨7, 0, false⟩ : OpenApply)) ∧
      (Wapply.elapsed (⟨7, 0, false⟩ : OpenApply).since 100000000 = true) ∧ ((⟨7, 0, false⟩ : OpenApply).slow = false)) ∧
    (((Wapply.setJ (fun j => { j with apply := some ⟨7, 0, true⟩ }) : State).journal.apply = some (⟨7, 0, true⟩ : OpenApply)) ∧
      ((⟨7, 0, true⟩ : OpenApply).slow = true)) ∧
    (Wt.journal.apply = none) :=
  ⟨by decide +kernel, by decide +kernel, by decide +kernel, by decide +kernel, by decide +kernel, by decide +kernel,
    by decide +kernel, by decide +kernel, by decide +kernel, by decide +kernel, by decide +kernel, by decide +kernel,
    by decide +kernel⟩

/-- States and operands that meet the hypotheses of each clause of `PeerMessages`. -/
theorem witness_PeerMessages :
    (Wt.inSet = false) ∧
    (Wset.inSet = true) ∧
    (((Wset.setPeer 2 (fun p => { p with lastHb := some (9, 5) }) : State).peer (2 : Member)).lastHb = some ((Whb : Heartbeat).time.sec % 2 ^ 32, (Whb : Heartbeat).time.ns)) ∧
    (((Wset.peer (2 : Member)).lastHb ≠ some (({ Whb with sig := Wset.membersSig + 1 } : Heartbeat).time.sec % 2 ^ 32, ({ Whb with sig := Wset.membersSig + 1 } : Heartbeat).time.ns)) ∧
      (({ Whb with sig := Wset.membersSig + 1 } : Heartbeat).sig ≠ Wset.membersSig)) ∧
    (((Wset.peer (2 : Member)).lastHb ≠ some (({ Whb with sig := Wset.membersSig } : Heartbeat).time.sec % 2 ^ 32, ({ Whb with sig := Wset.membersSig } : Heartbeat).time.ns)) ∧
      (({ Whb with sig := Wset.membersSig } : Heartbeat).sig = Wset.membersSig)) ∧
    (((((Wset.hear 2) : State).peer (2 : Member)).lastFrame = some (1000000000000 : Nat)) ∧
      (((Wset.hear 2) : State).elapsed (1000000000000 : Nat) 50000000 = false)) ∧
    ((match ((Wset.setPeer 2 (fun p => { p with lastFrame := some 5, heard := true }) : State).peer (2 : Member)).lastFrame with | some x => (Wset.setPeer 2 (fun p => { p with lastFrame := some 5, heard := true }) : State).elapsed x 50000000 | none => true) = true) ∧
    ((Wset.sigDiffers (2 : Member) = false) ∧ ((Wclaim : ClaimFrame).format = 1) ∧
      (crcOk (claimBody (Wclaim : ClaimFrame)) (Wclaim : ClaimFrame).crc = true) ∧
      ((Wset.peer (2 : Member)).lastClaim ≠ some ((Wclaim : ClaimFrame).tS.toNat, (Wclaim : ClaimFrame).tNs.toNat))) ∧
    (Wset.sigDiffers (2 : Member) = true ∨ ({ Wclaim with format := 2 } : ClaimFrame).format ≠ 1 ∨ crcOk (claimBody ({ Wclaim with format := 2 } : ClaimFrame)) ({ Wclaim with format := 2 } : ClaimFrame).crc = false ∨ (Wset.peer (2 : Member)).lastClaim = some (({ Wclaim with format := 2 } : ClaimFrame).tS.toNat, ({ Wclaim with format := 2 } : ClaimFrame).tNs.toNat)) ∧
    (Wset.sigDiffers (2 : Member) = true ∨ ({ Wsum with sig := Wset.membersSig + 1 } : PlanSummary).sig ≠ Wset.membersSig) ∧
    (((Wset.setPeer 2 (fun p => { p with summary := some { Wsum with sig := 1 } }) : State).sigDiffers (2 : Member) = false) ∧
      (({ Wsum with sig := Wset.membersSig } : PlanSummary).sig = (Wset.setPeer 2 (fun p => { p with summary := some { Wsum with sig := 1 } }) : State).membersSig) ∧
      (((Wset.setPeer 2 (fun p => { p with summary := some { Wsum with sig := 1 } }) : State).peer (2 : Member)).summary = some ({ Wsum with sig := 1 })) ∧
      (({ Wsum with sig := 1 }).planTref = ({ Wsum with sig := Wset.membersSig } : PlanSummary).planTref)) ∧
    ((Wset.sigDiffers (2 : Member) = false) ∧
      (({ Wsum with sig := Wset.membersSig } : PlanSummary).sig = Wset.membersSig) ∧
      ((match (Wset.peer (2 : Member)).summary with | some x => x.planTref == ({ Wsum with sig := Wset.membersSig } : PlanSummary).planTref | none => false) = false)) ∧
    ((Wset.setPeer 2 (fun p => { p with sigSeen := true, sig := Wset.membersSig + 1 }) : State).sigDiffers (2 : Member) = true) ∧
    ((Wset.sigDiffers (2 : Member) = false) ∧
      (((Wset.peer (2 : Member)).alloc.any fun f => f.planTref == ((⟨5, 0, 1, []⟩ : AllocFrame) : AllocFrame).planTref && f.part == ((⟨5, 0, 1, []⟩ : AllocFrame) : AllocFrame).part) = false)) ∧
    (((Wset.setPeer 2 (fun p => { p with alloc := [⟨5, 0, 1, []⟩] }) : State).sigDiffers (2 : Member) = false) ∧
      ((((Wset.setPeer 2 (fun p => { p with alloc := [⟨5, 0, 1, []⟩] }) : State).peer (2 : Member)).alloc.any fun f => f.planTref == ((⟨5, 0, 1, []⟩ : AllocFrame) : AllocFrame).planTref && f.part == ((⟨5, 0, 1, []⟩ : AllocFrame) : AllocFrame).part) = true)) :=
  ⟨by decide +kernel, by decide +kernel, by decide +kernel, by decide +kernel, by decide +kernel, by decide +kernel,
    by decide +kernel, by decide +kernel, by decide +kernel, by decide +kernel, by decide +kernel, by decide +kernel,
    by decide +kernel, by decide +kernel, by decide +kernel⟩

/-- States and operands that meet the hypotheses of each clause of `OfferedClaims`. -/
theorem witness_OfferedClaims :
    (Wt.control = false ∨ Wt.nodeValid = false ∨ Wt.hub.replayed = false) ∧
    ((Wnode.control = true) ∧ (Wnode.nodeValid = true) ∧ (Wnode.hub.replayed = true)) ∧
    (({ Wt with claims := { Wt.claims with lastSend := 999999999999 } } : State).elapsed ({ Wt with claims := { Wt.claims with lastSend := 999999999999 } } : State).claims.lastSend (max 6 (({ Wt with claims := { Wt.claims with lastSend := 999999999999 } } : State).rd Reg.CG_CFG_LEASE_MS / 3) * 1000000) = false) ∧
    ((Wnode.elapsed Wnode.claims.lastSend (max 6 (Wnode.rd Reg.CG_CFG_LEASE_MS / 3) * 1000000) = true) ∧
      (Wnode.control = true) ∧ (Wnode.nodeValid = true) ∧ (Wnode.hub.replayed = true)) ∧
    ((Wt.wr Reg.SUP_STRAP_ROLE 2 : State).gateRole = true) ∧
    (Wset.gateRole = false) ∧
    ((Wt.wr Reg.SUP_STRAP_ROLE 2 : State).gateRole = true) ∧
    ((Wset.setObjN Obj.CLAIM_EPOCH 255 : State).gateRole = false) ∧
    (Map.get none Wt.claims.lastCmd (31 : Fin 32) = none ∨ Wt.control = false ∨ Wt.claims.proofDue = false ∨ Wt.pathServes (23 : Fin 24) (31 : Fin 32) = false) ∧
    ((Map.get none Wproof.claims.lastCmd (31 : Fin 32) = some Wcmd) ∧ (Wproof.control = true) ∧
      (Wproof.claims.proofDue = true) ∧ (Wproof.pathServes (15 : Fin 24) (31 : Fin 32) = true)) ∧
    ((Wt.claims.probes.any fun x => x.path == (23 : Fin 24).val) = false) ∧
    (((({ Wset with claims := { Wset.claims with probes := [⟨23, 31, 0, 0, 2⟩] } } : State).claims.probes.any fun x => x.path == (23 : Fin 24).val) = true) ∧
      (((({ Wset with claims := { Wset.claims with probes := [⟨23, 31, 0, 0, 2⟩] } } : State).claims.probes.filter fun x => x.path == (23 : Fin 24).val).any fun x => !({ Wset with claims := { Wset.claims with probes := [⟨23, 31, 0, 0, 2⟩] } } : State).elapsed x.sentAt 100000000) = false)) ∧
    (((({ Wset with claims := { Wset.claims with probes := [⟨23, 31, 0, 1000000000000, 2⟩] } } : State).claims.probes.filter fun x => x.path == (23 : Fin 24).val).any fun x => !({ Wset with claims := { Wset.claims with probes := [⟨23, 31, 0, 1000000000000, 2⟩] } } : State).elapsed x.sentAt 100000000) = true) :=
  ⟨by decide +kernel, by decide +kernel, by decide +kernel, by decide +kernel, by decide +kernel, by decide +kernel,
    by decide +kernel, by decide +kernel, by decide +kernel, by decide +kernel, by decide +kernel, by decide +kernel,
    by decide +kernel⟩

/-- States and operands that meet the hypotheses of each clause of `GateFrames`. -/
theorem witness_GateFrames :
    ((Wt.gateActs && Wt.gatePath (15 : Fin 24).val) = false) ∧
    (((Wgate.gateActs && Wgate.gatePath (15 : Fin 24).val) = true) ∧
      (Wgate.gateCause (claimHead ({ Wclaim with format := 3 } : ClaimFrame)) = some (1))) ∧
    (((Wgate.gateActs && Wgate.gatePath (15 : Fin 24).val) = true) ∧
      (Wgate.gateCause (claimHead (Wclaim : ClaimFrame)) = none)) ∧
    ((Wt.gateActs && Wt.gatePath (15 : Fin 24).val) = false) ∧
    (((Wgate.gateActs && Wgate.gatePath (15 : Fin 24).val) = true) ∧
      (Wgate.gateCause (commandHead ({ Wcmdf with format := 3 } : CommandFrame)) = some (1))) ∧
    (((Wgate.gateActs && Wgate.gatePath (15 : Fin 24).val) = true) ∧
      (Wgate.gateCause (commandHead (Wcmdp : CommandFrame)) = none) ∧ ((Wcmdp : CommandFrame).flags.toNat % 2 = 1) ∧
      ((Wgate.gateTake 15 (commandHead Wcmdp)) = Wgate.gateTake (15 : Fin 24).val (commandHead (Wcmdp : CommandFrame)))) ∧
    (((((Wgate.setMember 1 (fun m => { m with claim := 0xFFFF0301, expiry := some 2000000000000 })) : State).gateActs && ((Wgate.setMember 1 (fun m => { m with claim := 0xFFFF0301, expiry := some 2000000000000 })) : State).gatePath (15 : Fin 24).val) = true) ∧
      (((Wgate.setMember 1 (fun m => { m with claim := 0xFFFF0301, expiry := some 2000000000000 })) : State).gateCause (commandHead (Wcmdf : CommandFrame)) = none) ∧
      ((Wcmdf : CommandFrame).flags.toNat % 2 = 0) ∧
      (((Wgate.setMember 1 (fun m => { m with claim := 0xFFFF0301, expiry := some 2000000000000 })).gateTake 15 (commandHead Wcmdf)) = ((Wgate.setMember 1 (fun m => { m with claim := 0xFFFF0301, expiry := some 2000000000000 })) : State).gateTake (15 : Fin 24).val (commandHead (Wcmdf : CommandFrame))) ∧
      (((Wgate.setMember 1 (fun m => { m with claim := 0xFFFF0301, expiry := some 2000000000000 })).gateTake 15 (commandHead Wcmdf)).gate.holder ≠ some ((Wcmdf : CommandFrame).claim.toNat % 256))) ∧
    (((((Wgate.setThr 31 (fun x => { x with lastApp := some 1000000000007 })) : State).gateActs && ((Wgate.setThr 31 (fun x => { x with lastApp := some 1000000000007 })) : State).gatePath (15 : Fin 24).val) = true) ∧
      (((Wgate.setThr 31 (fun x => { x with lastApp := some 1000000000007 })) : State).gateCause (commandHead (Wcmdf : CommandFrame)) = none) ∧
      ((Wcmdf : CommandFrame).flags.toNat % 2 = 0) ∧
      (((Wgate.setThr 31 (fun x => { x with lastApp := some 1000000000007 })).gateTake 15 (commandHead Wcmdf)) = ((Wgate.setThr 31 (fun x => { x with lastApp := some 1000000000007 })) : State).gateTake (15 : Fin 24).val (commandHead (Wcmdf : CommandFrame))) ∧
      (((Wgate.setThr 31 (fun x => { x with lastApp := some 1000000000007 })).gateTake 15 (commandHead Wcmdf)).gate.holder = some ((Wcmdf : CommandFrame).claim.toNat % 256)) ∧
      ((1000000000007 : Nat) = ((Wgate.setThr 31 (fun x => { x with lastApp := some 1000000000007 })).gateTake 15 (commandHead Wcmdf)).appTime (Wcmdf : CommandFrame).appS.toNat (Wcmdf : CommandFrame).appNs.toNat) ∧
      ((match (((Wgate.setThr 31 (fun x => { x with lastApp := some 1000000000007 })).gateTake 15 (commandHead Wcmdf)).gateThr (Wcmdf : CommandFrame).thruster.toNat).lastApp with | some l => decide ((1000000000007 : Nat) ≤ l) | none => false) = true)) ∧
    (((Wgate.gateActs && Wgate.gatePath (15 : Fin 24).val) = true) ∧
      (Wgate.gateCause (commandHead (Wcmdf : CommandFrame)) = none) ∧ ((Wcmdf : CommandFrame).flags.toNat % 2 = 0) ∧
      ((Wgate.gateTake 15 (commandHead Wcmdf)) = Wgate.gateTake (15 : Fin 24).val (commandHead (Wcmdf : CommandFrame))) ∧
      ((Wgate.gateTake 15 (commandHead Wcmdf)).gate.holder = some ((Wcmdf : CommandFrame).claim.toNat % 256)) ∧
      ((1000000000007 : Nat) = (Wgate.gateTake 15 (commandHead Wcmdf)).appTime (Wcmdf : CommandFrame).appS.toNat (Wcmdf : CommandFrame).appNs.toNat) ∧
      ((match ((Wgate.gateTake 15 (commandHead Wcmdf)).gateThr (Wcmdf : CommandFrame).thruster.toNat).lastApp with | some l => decide ((1000000000007 : Nat) ≤ l) | none => false) = false) ∧
      ((Wgate.gateTake 15 (commandHead Wcmdf)).now 0 < (1000000000007 : Nat)) ∧
      ((1000000000007 : Nat) ≤ (Wgate.gateTake 15 (commandHead Wcmdf)).now 0 + 200000000) ∧
      (((Wgate.gateTake 15 (commandHead Wcmdf)).gateThr (Wcmdf : CommandFrame).thruster.toNat).queue.length < 8)) ∧
    (((Wgate.gateActs && Wgate.gatePath (15 : Fin 24).val) = true) ∧
      (Wgate.gateCause (commandHead (Wcmdl 1001 : CommandFrame)) = none) ∧
      ((Wcmdl 1001 : CommandFrame).flags.toNat % 2 = 0) ∧
      ((Wgate.gateTake 15 (commandHead (Wcmdl 1001))) = Wgate.gateTake (15 : Fin 24).val (commandHead (Wcmdl 1001 : CommandFrame))) ∧
      ((Wgate.gateTake 15 (commandHead (Wcmdl 1001))).gate.holder = some ((Wcmdl 1001 : CommandFrame).claim.toNat % 256)) ∧
      ((1001000000007 : Nat) = (Wgate.gateTake 15 (commandHead (Wcmdl 1001))).appTime (Wcmdl 1001 : CommandFrame).appS.toNat (Wcmdl 1001 : CommandFrame).appNs.toNat) ∧
      ((match ((Wgate.gateTake 15 (commandHead (Wcmdl 1001))).gateThr (Wcmdl 1001 : CommandFrame).thruster.toNat).lastApp with | some l => decide ((1001000000007 : Nat) ≤ l) | none => false) = false) ∧
      ((Wgate.gateTake 15 (commandHead (Wcmdl 1001))).now 0 + 200000000 < (1001000000007 : Nat))) ∧
    (((Wgateq.gateActs && Wgateq.gatePath (15 : Fin 24).val) = true) ∧
      (Wgateq.gateCause (commandHead (Wcmdf : CommandFrame)) = none) ∧ ((Wcmdf : CommandFrame).flags.toNat % 2 = 0) ∧
      ((Wgateq.gateTake 15 (commandHead Wcmdf)) = Wgateq.gateTake (15 : Fin 24).val (commandHead (Wcmdf : CommandFrame))) ∧
      ((Wgateq.gateTake 15 (commandHead Wcmdf)).gate.holder = some ((Wcmdf : CommandFrame).claim.toNat % 256)) ∧
      ((1000000000007 : Nat) = (Wgateq.gateTake 15 (commandHead Wcmdf)).appTime (Wcmdf : CommandFrame).appS.toNat (Wcmdf : CommandFrame).appNs.toNat) ∧
      ((match ((Wgateq.gateTake 15 (commandHead Wcmdf)).gateThr (Wcmdf : CommandFrame).thruster.toNat).lastApp with | some l => decide ((1000000000007 : Nat) ≤ l) | none => false) = false) ∧
      ((1000000000007 : Nat) ≤ (Wgateq.gateTake 15 (commandHead Wcmdf)).now 0 + 200000000) ∧
      (8 ≤ ((Wgateq.gateTake 15 (commandHead Wcmdf)).gateThr (Wcmdf : CommandFrame).thruster.toNat).queue.length)) ∧
    (((Wgate.gateActs && Wgate.gatePath (15 : Fin 24).val) = true) ∧
      (Wgate.gateCause (commandHead (Wcmdl 999 : CommandFrame)) = none) ∧
      ((Wcmdl 999 : CommandFrame).flags.toNat % 2 = 0) ∧
      ((Wgate.gateTake 15 (commandHead (Wcmdl 999))) = Wgate.gateTake (15 : Fin 24).val (commandHead (Wcmdl 999 : CommandFrame))) ∧
      ((Wgate.gateTake 15 (commandHead (Wcmdl 999))).gate.holder = some ((Wcmdl 999 : CommandFrame).claim.toNat % 256)) ∧
      ((999000000007 : Nat) = (Wgate.gateTake 15 (commandHead (Wcmdl 999))).appTime (Wcmdl 999 : CommandFrame).appS.toNat (Wcmdl 999 : CommandFrame).appNs.toNat) ∧
      ((match ((Wgate.gateTake 15 (commandHead (Wcmdl 999))).gateThr (Wcmdl 999 : CommandFrame).thruster.toNat).lastApp with | some l => decide ((999000000007 : Nat) ≤ l) | none => false) = false) ∧
      ((999000000007 : Nat) ≤ (Wgate.gateTake 15 (commandHead (Wcmdl 999))).now 0) ∧
      (((Wgate.gateTake 15 (commandHead (Wcmdl 999))).gateThr (Wcmdl 999 : CommandFrame).thruster.toNat).queue.length < 8)) :=
  ⟨by decide +kernel, by decide +kernel, by decide +kernel, by decide +kernel, by decide +kernel, by decide +kernel,
    by decide +kernel, by decide +kernel, by decide +kernel, by decide +kernel, by decide +kernel, by decide +kernel⟩

/-- States and operands that meet the hypotheses of each clause of `GateTimers`. -/
theorem witness_GateTimers :
    ((Wgate.gateMember (2 : Member).val).expiry = none) ∧
    (((((Wgate.setMember 2 (fun m => { m with expiry := some 1000000000000 })) : State).gateMember (2 : Member).val).expiry = some (1000000000000 : Nat)) ∧
      (((Wgate.setMember 2 (fun m => { m with expiry := some 1000000000000 })) : State).tb3 ≤ (1000000000000 : Nat))) ∧
    (((((Wgate.setMember 2 (fun m => { m with expiry := some 999999999999 })) : State).gateMember (2 : Member).val).expiry = some (999999999999 : Nat)) ∧
      ((999999999999 : Nat) < ((Wgate.setMember 2 (fun m => { m with expiry := some 999999999999 })) : State).tb3)) ∧
    ((Wgate.gateThr (31 : Fin 32)).queue = []) ∧
    ((((Wgate.setThr 31 (fun x => { x with queue := [Wgc 1000000000001] }) : State).gateThr (31 : Fin 32)).queue = (Wgc 1000000000001) :: ([])) ∧
      ((Wgate.setThr 31 (fun x => { x with queue := [Wgc 1000000000001] }) : State).now 0 < (Wgc 1000000000001).app)) ∧
    ((((Wgate.setThr 31 (fun x => { x with queue := [Wgc 1000000000000] }) : State).gateThr (31 : Fin 32)).queue = (Wgc 1000000000000) :: ([])) ∧
      ((Wgc 1000000000000).app ≤ (Wgate.setThr 31 (fun x => { x with queue := [Wgc 1000000000000] }) : State).now 0)) ∧
    ((Wgate.gateThr (31 : Fin 32)).applied = []) ∧
    ((((Wgate.setThr 31 (fun x => { x with applied := [{ Wgc 7 with arrived := 999999999999 }] }) : State).gateThr (31 : Fin 32)).applied = ({ Wgc 7 with arrived := 999999999999 }) :: ([])) ∧
      ((Wgate.setThr 31 (fun x => { x with applied := [{ Wgc 7 with arrived := 999999999999 }] }) : State).tb3 < ({ Wgc 7 with arrived := 999999999999 }).arrived + 5000000)) ∧
    (((((Wgate.setThr 31 (fun x => { x with applied := [Wgc 7] })).raise Reg.CG_GCFG_CROSS_EN : State).gateThr (31 : Fin 32)).applied = (Wgc 7) :: ([])) ∧
      ((Wgc 7).arrived + 5000000 ≤ ((Wgate.setThr 31 (fun x => { x with applied := [Wgc 7] })).raise Reg.CG_GCFG_CROSS_EN : State).tb3) ∧
      (((Wgate.setThr 31 (fun x => { x with applied := [Wgc 7] })).raise Reg.CG_GCFG_CROSS_EN : State).flag Reg.CG_GCFG_CROSS_EN = false ∨ (((Wgate.setThr 31 (fun x => { x with applied := [Wgc 7] })).raise Reg.CG_GCFG_CROSS_EN : State).gateThr (31 : Fin 32)).others = [])) ∧
    ((((((Wgate.setThr 31 (fun x => { x with applied := [Wgc 7], others := [{ Wgc 7 with member := 0, raw := [20000, 0, 0, 0] }, { Wgc 7 with member := 1, raw := [20000, 0, 0, 0] }] })).raise Reg.CG_GCFG_CROSS_EN).setMember 2 (fun m => { m with outvoted := 2 }) : State).gateThr (31 : Fin 32)).applied = (Wgc 7) :: ([])) ∧
      ((Wgc 7).arrived + 5000000 ≤ (((Wgate.setThr 31 (fun x => { x with applied := [Wgc 7], others := [{ Wgc 7 with member := 0, raw := [20000, 0, 0, 0] }, { Wgc 7 with member := 1, raw := [20000, 0, 0, 0] }] })).raise Reg.CG_GCFG_CROSS_EN).setMember 2 (fun m => { m with outvoted := 2 }) : State).tb3) ∧
      ((((Wgate.setThr 31 (fun x => { x with applied := [Wgc 7], others := [{ Wgc 7 with member := 0, raw := [20000, 0, 0, 0] }, { Wgc 7 with member := 1, raw := [20000, 0, 0, 0] }] })).raise Reg.CG_GCFG_CROSS_EN).setMember 2 (fun m => { m with outvoted := 2 }) : State).flag Reg.CG_GCFG_CROSS_EN = true) ∧
      ((([0, 1, 2] : List Nat).filter (· != (Wgc 7).member)) = [({ Wgc 7 with member := 0, raw := [20000, 0, 0, 0] }).member, ({ Wgc 7 with member := 1, raw := [20000, 0, 0, 0] }).member]) ∧
      (((((Wgate.setThr 31 (fun x => { x with applied := [Wgc 7], others := [{ Wgc 7 with member := 0, raw := [20000, 0, 0, 0] }, { Wgc 7 with member := 1, raw := [20000, 0, 0, 0] }] })).raise Reg.CG_GCFG_CROSS_EN).setMember 2 (fun m => { m with outvoted := 2 }) : State).gateThr (31 : Fin 32)).others = [({ Wgc 7 with member := 0, raw := [20000, 0, 0, 0] }), ({ Wgc 7 with member := 1, raw := [20000, 0, 0, 0] })]) ∧
      (({ Wgc 7 with member := 0, raw := [20000, 0, 0, 0] }).app = (Wgc 7).app) ∧
      (({ Wgc 7 with member := 1, raw := [20000, 0, 0, 0] }).app = (Wgc 7).app) ∧
      (({ Wgc 7 with member := 0, raw := [20000, 0, 0, 0] }).arrived ≤ (Wgc 7).arrived + 5000000) ∧
      (({ Wgc 7 with member := 1, raw := [20000, 0, 0, 0] }).arrived ≤ (Wgc 7).arrived + 5000000) ∧
      ((q15Int (Wgate.rd Reg.CG_CROSS_CROSS_BOUND)) = q15Int ((((Wgate.setThr 31 (fun x => { x with applied := [Wgc 7], others := [{ Wgc 7 with member := 0, raw := [20000, 0, 0, 0] }, { Wgc 7 with member := 1, raw := [20000, 0, 0, 0] }] })).raise Reg.CG_GCFG_CROSS_EN).setMember 2 (fun m => { m with outvoted := 2 }) : State).rd Reg.CG_CROSS_CROSS_BOUND)) ∧
      ((agree (q15Int (Wgate.rd Reg.CG_CROSS_CROSS_BOUND)) ({ Wgc 7 with member := 0, raw := [20000, 0, 0, 0] }).raw ({ Wgc 7 with member := 1, raw := [20000, 0, 0, 0] }).raw && !agree (q15Int (Wgate.rd Reg.CG_CROSS_CROSS_BOUND)) (Wgc 7).raw ({ Wgc 7 with member := 0, raw := [20000, 0, 0, 0] }).raw && !agree (q15Int (Wgate.rd Reg.CG_CROSS_CROSS_BOUND)) (Wgc 7).raw ({ Wgc 7 with member := 1, raw := [20000, 0, 0, 0] }).raw) = true)) ∧
    (Wt.gate.noneSince = none ∨ Wt.gate.holder.isSome = true ∨ Wt.flag Reg.CG_STATUS_SAFE = true ∨ Wt.gateActs = false) ∧
    ((Wgate.gate.noneSince = some (0 : Nat)) ∧ (Wgate.gateActs = true) ∧ (Wgate.gate.holder = none) ∧
      (Wgate.flag Reg.CG_STATUS_SAFE = false) ∧
      (Wgate.elapsed (0 : Nat) (Wgate.rd Reg.CG_GCFG_NOLEASE_HOLD_MS * 1000000) = true)) ∧
    (((Wgate.setGate (fun g => { g with noneSince := some 1000000000000 }) : State).gate.noneSince = some (1000000000000 : Nat)) ∧
      ((Wgate.setGate (fun g => { g with noneSince := some 1000000000000 }) : State).elapsed (1000000000000 : Nat) ((Wgate.setGate (fun g => { g with noneSince := some 1000000000000 }) : State).rd Reg.CG_GCFG_NOLEASE_HOLD_MS * 1000000) = false)) ∧
    ((Wgate.gateMember (2 : Member).val).fenced = none) ∧
    (((((Wgate.setMember 2 (fun m => { m with fenced := some 1000000000001 })) : State).gateMember (2 : Member).val).fenced = some (1000000000001 : Nat)) ∧
      (((Wgate.setMember 2 (fun m => { m with fenced := some 1000000000001 })) : State).tb3 < (1000000000001 : Nat))) ∧
    (((((Wgate.setMember 2 (fun m => { m with fenced := some 1000000000000 })) : State).gateMember (2 : Member).val).fenced = some (1000000000000 : Nat)) ∧
      ((1000000000000 : Nat) ≤ ((Wgate.setMember 2 (fun m => { m with fenced := some 1000000000000 })) : State).tb3)) ∧
    (Wt.gateActs = false) ∧
    (Wgate.gateActs = true) :=
  ⟨by decide +kernel, by decide +kernel, by decide +kernel, by decide +kernel, by decide +kernel, by decide +kernel,
    by decide +kernel, by decide +kernel, by decide +kernel, by decide +kernel, by decide +kernel, by decide +kernel,
    by decide +kernel, by decide +kernel, by decide +kernel, by decide +kernel, by decide +kernel, by decide +kernel⟩

/-- States and operands that meet the hypotheses of each clause of `SafetyContacts`. -/
theorem witness_SafetyContacts :
    (Wt.safety.live = false) ∧
    (Wdie.safety.live = true) ∧
    (Wt.safety.live = false) ∧
    (Wdie.safety.live = true) ∧
    ((Wdie.safety.live && Wdie.sp Obj.SI_FUNCTION (7 : Fin 8) != 0 && Wdie.rawDemand (7 : Fin 8) 0 != Wdie.rawDemand (7 : Fin 8) 1) = false) ∧
    ((((Wdie.setSafety fun d => { d with closed := 0x8000 }) : State).safety.live && ((Wdie.setSafety fun d => { d with closed := 0x8000 }) : State).sp Obj.SI_FUNCTION (7 : Fin 8) != 0 && ((Wdie.setSafety fun d => { d with closed := 0x8000 }) : State).rawDemand (7 : Fin 8) 0 != ((Wdie.setSafety fun d => { d with closed := 0x8000 }) : State).rawDemand (7 : Fin 8) 1) = true) ∧
    ((Wdie.safety.live && Wdie.sp Obj.SI_FUNCTION (7 : Fin 8) != 0 && !(true : Bool)) = false) ∧
    ((Wdie.safety.live && Wdie.sp Obj.SI_FUNCTION (7 : Fin 8) != 0 && !(false : Bool)) = true) ∧
    (Wt.safety.live = false) ∧
    (((Wdie.setChan 0 fun h => { h with filt := 0x80, trip := 0x80 }) : State).safety.live = true) ∧
    ((Wdie.safety.live && Wdie.safety.differ && Wdie.decision 0 != Wdie.decision 1) = false) ∧
    (((((Wdie.setSafety fun d => { d with differ := true }).setChan 0 fun h => { h with trip := 0x80 }) : State).safety.live && (((Wdie.setSafety fun d => { d with differ := true }).setChan 0 fun h => { h with trip := 0x80 }) : State).safety.differ && (((Wdie.setSafety fun d => { d with differ := true }).setChan 0 fun h => { h with trip := 0x80 }) : State).decision 0 != (((Wdie.setSafety fun d => { d with differ := true }).setChan 0 fun h => { h with trip := 0x80 }) : State).decision 1) = true) :=
  ⟨by decide +kernel, by decide +kernel, by decide +kernel, by decide +kernel, by decide +kernel, by decide +kernel,
    by decide +kernel, by decide +kernel, by decide +kernel, by decide +kernel, by decide +kernel, by decide +kernel⟩

/-- States and operands that meet the hypotheses of each clause of `SafetyElements`. -/
theorem witness_SafetyElements :
    (Wt.safety.live = false) ∧
    (Wdie.safety.live = true) ∧
    ((Wdie.safety.live && !bitOf (Wdie.elements (1 : Fin 2)) (7 : Fin 8)) = false) ∧
    ((Wdie.safety.live && !bitOf (Wdie.elements (1 : Fin 2)) (0 : Fin 8)) = true) ∧
    ((bitOf Wdie.energized (7 : Fin 8) && Wdie.sp Obj.SO_TEST_PULSE (7 : Fin 8) != 0 && (false : Bool)) = false) ∧
    ((bitOf Wdie.energized (7 : Fin 8) && Wdie.sp Obj.SO_TEST_PULSE (7 : Fin 8) != 0 && (true : Bool)) = true) ∧
    ((((Wdie.setSafety fun d => { d with stuck := 8 }) : State).safety.live && !bitOf ((Wdie.setSafety fun d => { d with stuck := 8 }) : State).safety.stuck (3 : Fin 4)) = false) ∧
    ((((Wdie.setSafety fun d => { d with closed := 0xC000 }) : State).safety.live && !bitOf ((Wdie.setSafety fun d => { d with closed := 0xC000 }) : State).safety.stuck (3 : Fin 4)) = true) ∧
    (Map.get none Wdie.safety.rises (3 : Fin 4) = none) ∧
    ((Map.get none Wrise.safety.rises (3 : Fin 4) = some (⟨0, 0, 0x80⟩ : Rise)) ∧ (50000 ≤ (50000 : Nat)) ∧
      ((50000 : Nat) ≤ 2000000) ∧ (50000 ≤ (2000000 : Nat)) ∧ ((2000000 : Nat) ≤ 2000000)) ∧
    ((Map.get none Wrise.safety.rises (3 : Fin 4) = some (⟨0, 0, 0x80⟩ : Rise)) ∧
      (decide (50000 ≤ (49999 : Nat) ∧ (49999 : Nat) ≤ 2000000) ≠ decide (50000 ≤ (50000 : Nat) ∧ (50000 : Nat) ≤ 2000000))) ∧
    ((Map.get none Wrise.safety.rises (3 : Fin 4) = some (⟨0, 0, 0x80⟩ : Rise)) ∧ (2000000 < (2000001 : Nat)) ∧
      ((2000001 : Nat) < 50000 ∨ 2000000 < (2000001 : Nat))) ∧
    ((Map.get none Wrise.safety.rises (3 : Fin 4) = some (⟨0, 0, 0x80⟩ : Rise)) ∧ ((49999 : Nat) < 50000) ∧
      ((49999 : Nat) < 50000 ∨ 2000000 < (49999 : Nat))) ∧
    (bitOf Wrise.safety.srst (3 : Fin 4) = true) ∧
    (bitOf ((Wdie.setSafety fun d => { d with stuck := 8 }) : State).safety.srst (3 : Fin 4) = false) :=
  ⟨by decide +kernel, by decide +kernel, by decide +kernel, by decide +kernel, by decide +kernel, by decide +kernel,
    by decide +kernel, by decide +kernel, by decide +kernel, by decide +kernel, by decide +kernel, by decide +kernel,
    by decide +kernel, by decide +kernel, by decide +kernel⟩

/-- States and operands that meet the hypotheses of each clause of `SafetyMonitors`. -/
theorem witness_SafetyMonitors :
    (Wt.safety.live = false) ∧
    (Wdie.safety.live = true) ∧
    ((Wdie.safety.live && Wdie.supervised (Wdie.chan (1 : Fin 2)).zones (30 : Fin 32)) = false) ∧
    ((Wzone.safety.live && Wzone.supervised (Wzone.chan (1 : Fin 2)).zones (30 : Fin 32)) = true) ∧
    ((Wzone.safety.live && Wzone.supervised (Wzone.chan (1 : Fin 2)).zones (30 : Fin 32) && Wzone.inForbidden (1 : Fin 2) (30 : Fin 32)) = false) ∧
    ((((Wzone.setSafety fun d => { d with az := [(30, ⟨0x2000, 0x2000, true, true⟩)] }) : State).safety.live && ((Wzone.setSafety fun d => { d with az := [(30, ⟨0x2000, 0x2000, true, true⟩)] }) : State).supervised (((Wzone.setSafety fun d => { d with az := [(30, ⟨0x2000, 0x2000, true, true⟩)] }) : State).chan (1 : Fin 2)).zones (30 : Fin 32) && ((Wzone.setSafety fun d => { d with az := [(30, ⟨0x2000, 0x2000, true, true⟩)] }) : State).inForbidden (1 : Fin 2) (30 : Fin 32)) = true) ∧
    (Wt.safety.live = false) ∧
    (Wdie.safety.live = true) ∧
    ((Wdie.safety.live && Wdie.posAbove) = false) ∧
    ((((Wdie.setSafety fun d => { d with pos := some ⟨0x7F800000, 0, 1⟩ }) : State).safety.live && ((Wdie.setSafety fun d => { d with pos := some ⟨0x7F800000, 0, 1⟩ }) : State).posAbove) = true) ∧
    (Wt.safety.live = false) ∧
    (Wdie.safety.live = true) :=
  ⟨by decide +kernel, by decide +kernel, by decide +kernel, by decide +kernel, by decide +kernel, by decide +kernel,
    by decide +kernel, by decide +kernel, by decide +kernel, by decide +kernel, by decide +kernel, by decide +kernel⟩

/-- States and operands that meet the hypotheses of each clause of `SafetyMessages`. -/
theorem witness_SafetyMessages :
    ((((5), (.tripRequest (Wmail 5 []) 0 0)) ∈ dieMessages (Wmail 5 []) (0) (0) none (0)) ∧ (Wt.safety.live = false)) ∧
    ((((7), (.config { Wmail 7 [] with crc := 0 } 0 0 0)) ∈ dieMessages ({ Wmail 7 [] with crc := 0 }) (0) (0) none (0)) ∧
      (Wdie.safety.live = true) ∧ (Wdie.dieAccepts (7) ({ Wmail 7 [] with crc := 0 }) = false)) ∧
    (((Wdie.setChan 1 fun h => { h with hubLost := true }) : State).dieAccepts 1 (Wmail 1 [] : MailMsg) = true) ∧
    ((((Wdie.setChan 1 fun h => { h with caLost := true }) : State).dieAccepts 2 (Wmail 2 WcaPay : MailMsg) = true) ∧
      (((Wmail 2 WcaPay : MailMsg).payload.length == 16 && crc32 ((Wmail 2 WcaPay : MailMsg).payload.take 12) == leAt (Wmail 2 WcaPay : MailMsg).payload 12 4) = true)) ∧
    ((((Wdie.setChan 1 fun h => { h with caLost := true }) : State).dieAccepts 2 (Wmail 2 [1] : MailMsg) = true) ∧
      (((Wmail 2 [1] : MailMsg).payload.length == 16 && crc32 ((Wmail 2 [1] : MailMsg).payload.take 12) == leAt (Wmail 2 [1] : MailMsg).payload 12 4) = false)) ∧
    ((((Wdie.setChan 1 fun h => { h with posLost := true, posRed := true }) : State).dieAccepts 3 (Wmail 3 WposPay : MailMsg) = true) ∧
      (((Wmail 3 WposPay : MailMsg).payload.length == 20 && crc32 ((Wmail 3 WposPay : MailMsg).payload.take 16) == leAt (Wmail 3 WposPay : MailMsg).payload 16 4) = true)) ∧
    ((((Wdie.setChan 1 fun h => { h with posLost := true }) : State).dieAccepts 3 (Wmail 3 [1] : MailMsg) = true) ∧
      (((Wmail 3 [1] : MailMsg).payload.length == 20 && crc32 ((Wmail 3 [1] : MailMsg).payload.take 16) == leAt (Wmail 3 [1] : MailMsg).payload 16 4) = false)) ∧
    (Wzone.dieAccepts 4 (Wmail 4 [30, 3, 0, 0x20, 0, 0x20, 0, 0, 31, 2, 1, 0, 2, 0, 0, 0] : MailMsg) = true) ∧
    (Wdie.dieAccepts 5 (Wmail 5 [0, 0, 0, 0x80, 0x80, 1] : MailMsg) = true) ∧
    (Wdie.dieAccepts 6 (Wmail 6 WguardPay : MailMsg) = true) ∧
    ((Wdie.dieAccepts 6 (Wmail 6 WguardPay : MailMsg) = true) ∧
      ((Wdie.dieReady (Wmail 6 WguardPay) 999000000 999000000) = Wdie.dieReady (Wmail 6 WguardPay : MailMsg) (999000000 : Nat) (999000000 : Nat)) ∧
      (((WguardPay.drop 12).take 56) = ((Wmail 6 WguardPay : MailMsg).payload.drop 12).take 56) ∧
      (((List.range 16).find? fun i => (Wdie.dieReady (Wmail 6 WguardPay) 999000000 999000000).isRx i && (Wdie.dieReady (Wmail 6 WguardPay) 999000000 999000000).sp Obj.GUARD_CONN_ID i == leAt ((WguardPay.drop 12).take 56) 0 4) = some (15 : Nat)) ∧
      (((WguardPay.drop 12).take 56) ≠ (Map.get {} ((Wdie.dieReady (Wmail 6 WguardPay) 999000000 999000000).chan 0).conns (15 : Nat)).last) ∧
      ((Wdie.dieReady (Wmail 6 WguardPay) 999000000 999000000).judgePdu 0 (15 : Nat) (leAt (Wmail 6 WguardPay : MailMsg).payload 0 1) ((some 77 : Option (BitVec 14)).map (·.toNat)) (leAt (Wmail 6 WguardPay : MailMsg).payload 8 4 * 1000000000 + leAt (Wmail 6 WguardPay : MailMsg).payload 4 4) (999000000 : Nat) ((WguardPay.drop 12).take 56) = 0)) ∧
    ((Wdie.dieAccepts 6 (Wmail 6 WguardPay : MailMsg) = true) ∧
      ((Wdie.dieReady (Wmail 6 WguardPay) 0 0) = Wdie.dieReady (Wmail 6 WguardPay : MailMsg) (0 : Nat) (0 : Nat)) ∧
      (((WguardPay.drop 12).take 56) = ((Wmail 6 WguardPay : MailMsg).payload.drop 12).take 56) ∧
      (((List.range 16).find? fun i => (Wdie.dieReady (Wmail 6 WguardPay) 0 0).isRx i && (Wdie.dieReady (Wmail 6 WguardPay) 0 0).sp Obj.GUARD_CONN_ID i == leAt ((WguardPay.drop 12).take 56) 0 4) = some (15 : Nat)) ∧
      ((Wdie.dieReady (Wmail 6 WguardPay) 0 0).judgePdu 0 (15 : Nat) (leAt (Wmail 6 WguardPay : MailMsg).payload 0 1) ((some 78 : Option (BitVec 14)).map (·.toNat)) (leAt (Wmail 6 WguardPay : MailMsg).payload 8 4 * 1000000000 + leAt (Wmail 6 WguardPay : MailMsg).payload 4 4) (0 : Nat) ((WguardPay.drop 12).take 56) ≠ 0) ∧
      ((Map.get {} ((Wdie.dieReady (Wmail 6 WguardPay) 0 0).chan 0).conns (15 : Nat)).st ≠ 1)) ∧
    (Wdie.dieAccepts 7 (Wmail 7 [0x10, 0x98, 1, 1, 3] : MailMsg) = true) :=
  ⟨by decide +kernel, by decide +kernel, by decide +kernel, by decide +kernel, by decide +kernel, by decide +kernel,
    by decide +kernel, by decide +kernel, by decide +kernel, by decide +kernel, by decide +kernel, by decide +kernel,
    by decide +kernel⟩

/-- States and operands that meet the hypotheses of each clause of `SafetyMailbox`. -/
theorem witness_SafetyMailbox :
    (((Wdie.wr Reg.SM_TX_LEN_LEN 4061 : State).flag Reg.SM_STATUS_TX_BUSY || decide (4060 < (Wdie.wr Reg.SM_TX_LEN_LEN 4061 : State).rd Reg.SM_TX_LEN_LEN)) = true) ∧
    ((((Wdie.wr Reg.SM_TX_LEN_LEN 5).wr Reg.SM_TX_DATA 0x0105 0 : State).flag Reg.SM_STATUS_TX_BUSY = false) ∧
      (((Wdie.wr Reg.SM_TX_LEN_LEN 5).wr Reg.SM_TX_DATA 0x0105 0 : State).rd Reg.SM_TX_LEN_LEN ≤ 4060)) ∧
    (((Wdie.setSafety fun d => { d with statusAt := some 999995000001 } : State).safety.statusAt = some (999995000001 : Nat)) ∧
      ((Wdie.setSafety fun d => { d with statusAt := some 999995000001 } : State).elapsed (999995000001 : Nat) 5000000 = false)) ∧
    ((Wdie.setSafety fun d => { d with statusAt := some 999995000000 } : State).safety.statusAt = none ∨ ((Wdie.setSafety fun d => { d with statusAt := some 999995000000 } : State).safety.statusAt.any fun x => (Wdie.setSafety fun d => { d with statusAt := some 999995000000 } : State).elapsed x 5000000) = true) ∧
    (Wdie.safety.guardTx = []) ∧
    (((Wdie.setSafety fun d => { d with guardTx := [⟨7, 1, []⟩] } : State).safety.guardTx = (⟨7, 1, []⟩ : GuardOut) :: ([])) ∧
      ((Wdie.setSafety fun d => { d with guardTx := [⟨7, 1, []⟩] } : State).hubAccepts (false : Bool) (⟨7, 1, []⟩ : GuardOut).seq = false)) ∧
    (((Wdie.setSafety fun d => { d with guardTx := [⟨7, 1, List.replicate 56 3⟩] } : State).safety.guardTx = (⟨7, 1, List.replicate 56 3⟩ : GuardOut) :: ([])) ∧
      ((Wdie.setSafety fun d => { d with guardTx := [⟨7, 1, List.replicate 56 3⟩] } : State).hubAccepts (true : Bool) (⟨7, 1, List.replicate 56 3⟩ : GuardOut).seq = true)) ∧
    (Wt.safety.live = false) ∧
    ((Wdie.safety.live = true) ∧ (Wdie.hubAccepts (false : Bool) Wdie.safety.dieSeq = false)) ∧
    ((((Wdie.setSafety fun d => { d with state := 5, ccvA := 77 }) : State).safety.live = true) ∧
      (((Wdie.setSafety fun d => { d with state := 5, ccvA := 77 }) : State).hubAccepts (true : Bool) ((Wdie.setSafety fun d => { d with state := 5, ccvA := 77 }) : State).safety.dieSeq = true)) ∧
    ((Wdie.safety.live && Wdie.sp Obj.GUARD_DIR (15 : Fin 16) == 2 && (Wdie.chan 0).timeOk && (Wdie.chan 1).timeOk && Wdie.guardPayload 0 (15 : Fin 16) == Wdie.guardPayload 1 (15 : Fin 16)) = false) ∧
    ((Wdie.safety.live && Wdie.sp Obj.GUARD_DIR (14 : Fin 16) == 2 && (Wdie.chan 0).timeOk && (Wdie.chan 1).timeOk && Wdie.guardPayload 0 (14 : Fin 16) == Wdie.guardPayload 1 (14 : Fin 16)) = true) ∧
    ((Wdie.safety.live && Wdie.isRx (15 : Fin 16) && (Map.get {} (Wdie.chan (1 : Fin 2)).conns (15 : Fin 16)).st == 1) = false) ∧
    ((WconnRun.safety.live && WconnRun.isRx (15 : Fin 16) && (Map.get {} (WconnRun.chan (1 : Fin 2)).conns (15 : Fin 16)).st == 1) = true) :=
  ⟨by decide +kernel, by decide +kernel, by decide +kernel, by decide +kernel, by decide +kernel, by decide +kernel,
    by decide +kernel, by decide +kernel, by decide +kernel, by decide +kernel, by decide +kernel, by decide +kernel,
    by decide +kernel, by decide +kernel⟩

/-- States and operands that meet the hypotheses of each clause of `SafetySessions`. -/
theorem witness_SafetySessions :
    (({ Wopen 1 with cls := 1 } : OrderRec).cls ≠ 2) ∧
    (((Worder : OrderRec).cls = 2) ∧ ((Worder : OrderRec).value.length ≠ 32)) ∧
    (((Wopen 4 : OrderRec).cls = 2) ∧ ((Wopen 4 : OrderRec).value.length = 32) ∧
      ((decide (1 ≤ leAt (Wopen 4 : OrderRec).value 0 1 ∧ leAt (Wopen 4 : OrderRec).value 0 1 ≤ 3) && leAt (Wopen 4 : OrderRec).value 1 3 == 0 && utf8Ok 13 ((((Wopen 4 : OrderRec).value.drop 4).take 12).filter (· != 0))) = false)) ∧
    (((Wopen 1 : OrderRec).cls = 2) ∧ ((Wopen 1 : OrderRec).value.length = 32) ∧
      ((decide (1 ≤ leAt (Wopen 1 : OrderRec).value 0 1 ∧ leAt (Wopen 1 : OrderRec).value 0 1 ≤ 3) && leAt (Wopen 1 : OrderRec).value 1 3 == 0 && utf8Ok 13 ((((Wopen 1 : OrderRec).value.drop 4).take 12).filter (· != 0))) = true) ∧
      (((Wsess 1) : State).safety.blocked.isSome = true ∨ ((Wsess 1) : State).safety.session.isSome = true ∨ ((Wsess 1) : State).responseRight (Wopen 1 : OrderRec).value = false)) ∧
    (((Wopen 1 : OrderRec).cls = 2) ∧ ((Wopen 1 : OrderRec).value.length = 32) ∧
      ((decide (1 ≤ leAt (Wopen 1 : OrderRec).value 0 1 ∧ leAt (Wopen 1 : OrderRec).value 0 1 ≤ 3) && leAt (Wopen 1 : OrderRec).value 1 3 == 0 && utf8Ok 13 ((((Wopen 1 : OrderRec).value.drop 4).take 12).filter (· != 0))) = true) ∧
      (((Wdie.setSafety fun d => { d with hash := [1], wrong := [1000000000000, 999000000000, 998000000000, 400000000001] }) : State).safety.blocked = none) ∧
      (((Wdie.setSafety fun d => { d with hash := [1], wrong := [1000000000000, 999000000000, 998000000000, 400000000001] }) : State).responseRight (Wopen 1 : OrderRec).value = false)) ∧
    (((Wopen 3 : OrderRec).cls = 2) ∧ ((Wopen 3 : OrderRec).value.length = 32) ∧
      ((decide (1 ≤ leAt (Wopen 3 : OrderRec).value 0 1 ∧ leAt (Wopen 3 : OrderRec).value 0 1 ≤ 3) && leAt (Wopen 3 : OrderRec).value 1 3 == 0 && utf8Ok 13 ((((Wopen 3 : OrderRec).value.drop 4).take 12).filter (· != 0))) = true) ∧
      (Wdie.safety.blocked = none) ∧ (Wdie.safety.session = none) ∧
      (Wdie.responseRight (Wopen 3 : OrderRec).value = true) ∧
      (((leAt (Wopen 3 : OrderRec).value 0 1 == 3) != (Wdie.safety.state == 5) || (leAt (Wopen 3 : OrderRec).value 0 1 != 2 && Wdie.claimBusy)) = true)) ∧
    (((Wopen 1 : OrderRec).cls = 2) ∧ ((Wopen 1 : OrderRec).value.length = 32) ∧
      ((decide (1 ≤ leAt (Wopen 1 : OrderRec).value 0 1 ∧ leAt (Wopen 1 : OrderRec).value 0 1 ≤ 3) && leAt (Wopen 1 : OrderRec).value 1 3 == 0 && utf8Ok 13 ((((Wopen 1 : OrderRec).value.drop 4).take 12).filter (· != 0))) = true) ∧
      (Wdie.safety.blocked = none) ∧ (Wdie.safety.session = none) ∧
      (Wdie.responseRight (Wopen 1 : OrderRec).value = true) ∧
      (((leAt (Wopen 1 : OrderRec).value 0 1 == 3) != (Wdie.safety.state == 5) || (leAt (Wopen 1 : OrderRec).value 0 1 != 2 && Wdie.claimBusy)) = false)) ∧
    (Wdie.safety.challenge = none) ∧
    (((Wdie.setSafety fun d => { d with challenge := some ([1], 940000000000) }) : State).safety.challenge = some (([1]), (940000000000 : Nat))) ∧
    (Wdie.safety.blocked = none) ∧
    (((Wdie.setSafety fun d => { d with blocked := some 100000000000 }) : State).safety.blocked = some (100000000000 : Nat)) ∧
    ((Wopen 1 : OrderRec).value.length ≠ 1) ∧
    (((Worder : OrderRec).value.length = 1) ∧ (Wdie.safety.session = none)) ∧
    (((Worder : OrderRec).value.length = 1) ∧
      (((Wsess 1) : State).safety.session = some (⟨1, 1, 0, [], 1, true, 0⟩ : Session))) ∧
    (Wdie.safety.session = none) ∧
    ((((Wdie.setSafety fun d => { d with session := some ⟨1, 1, 0, [], 1, true, 400000000001⟩ }) : State).safety.session = some (⟨1, 1, 0, [], 1, true, 400000000001⟩ : Session)) ∧
      (((Wdie.setSafety fun d => { d with session := some ⟨1, 1, 0, [], 1, true, 400000000001⟩ }) : State).elapsed (⟨1, 1, 0, [], 1, true, 400000000001⟩ : Session).lastOrder 600000000000 = false)) ∧
    ((((Wsess 2) : State).safety.session = some (⟨2, 1, 0, [], 1, true, 0⟩ : Session)) ∧
      (((Wsess 2) : State).elapsed (⟨2, 1, 0, [], 1, true, 0⟩ : Session).lastOrder 600000000000 = true)) ∧
    ((Worder : OrderRec).value.length ≠ 4) ∧
    ((({ Worder with value := [0, 0, 0, 0] } : OrderRec).value.length = 4) ∧
      (((Wsess 1) : State).safety.hash = [] ∨ ((Wsess 1) : State).safety.ccvA ≠ leAt ({ Worder with value := [0, 0, 0, 0] } : OrderRec).value 0 4 ∨ ((Wsess 1) : State).safety.ccvB ≠ leAt ({ Worder with value := [0, 0, 0, 0] } : OrderRec).value 0 4)) ∧
    ((({ Worder with value := [0, 0, 0, 0] } : OrderRec).value.length = 4) ∧
      (((Wsess 2).setSafety fun d => { d with hash := [1] } : State).safety.hash ≠ []) ∧
      (((Wsess 2).setSafety fun d => { d with hash := [1] } : State).safety.ccvA = leAt ({ Worder with value := [0, 0, 0, 0] } : OrderRec).value 0 4) ∧
      (((Wsess 2).setSafety fun d => { d with hash := [1] } : State).safety.ccvB = leAt ({ Worder with value := [0, 0, 0, 0] } : OrderRec).value 0 4) ∧
      (((Wsess 2).setSafety fun d => { d with hash := [1] } : State).inSession ({ Worder with value := [0, 0, 0, 0] } : OrderRec) [1, 3] = false)) ∧
    ((({ Worder with value := [5, 0, 0, 0] } : OrderRec).value.length = 4) ∧
      (((Wsess 1).setSafety fun d => { d with hash := [1], ccvA := 5, ccvB := 5 } : State).safety.hash ≠ []) ∧
      (((Wsess 1).setSafety fun d => { d with hash := [1], ccvA := 5, ccvB := 5 } : State).safety.ccvA = leAt ({ Worder with value := [5, 0, 0, 0] } : OrderRec).value 0 4) ∧
      (((Wsess 1).setSafety fun d => { d with hash := [1], ccvA := 5, ccvB := 5 } : State).safety.ccvB = leAt ({ Worder with value := [5, 0, 0, 0] } : OrderRec).value 0 4) ∧
      (((Wsess 1).setSafety fun d => { d with hash := [1], ccvA := 5, ccvB := 5 } : State).inSession ({ Worder with value := [5, 0, 0, 0] } : OrderRec) [1, 3] = true)) ∧
    ((Worder : OrderRec).value.length ≠ 48) ∧
    ((({ Worder with value := List.replicate 48 3 } : OrderRec).value.length = 48) ∧
      (Wdie.inSession ({ Worder with value := List.replicate 48 3 } : OrderRec) [1, 3] = false)) ∧
    ((({ Worder with value := List.replicate 48 3 } : OrderRec).value.length = 48) ∧
      (((Wsess 1) : State).inSession ({ Worder with value := List.replicate 48 3 } : OrderRec) [1, 3] = true)) ∧
    ((Wopen 1 : OrderRec).value.length ≠ 1) ∧
    ((({ Worder with cls := 1 } : OrderRec).value.length = 1) ∧ (({ Worder with cls := 1 } : OrderRec).cls ≠ 2)) ∧
    ((({ Worder with value := [2] } : OrderRec).value.length = 1) ∧
      (({ Worder with value := [2] } : OrderRec).cls = 2) ∧
      (leAt ({ Worder with value := [2] } : OrderRec).value 0 1 ≠ 1)) ∧
    (((Worder : OrderRec).value.length = 1) ∧ ((Worder : OrderRec).cls = 2) ∧
      (leAt (Worder : OrderRec).value 0 1 = 1) ∧ (Wdie.bench = false)) ∧
    (((Worder : OrderRec).value.length = 1) ∧ ((Worder : OrderRec).cls = 2) ∧
      (leAt (Worder : OrderRec).value 0 1 = 1) ∧ ((Wdie.wr Reg.SUP_STRAP_ROLE 3 : State).bench = true)) ∧
    ((Worder : OrderRec).value.length ≠ 32) ∧
    (((Wopen 1 : OrderRec).value.length = 32) ∧ (((Wsess 1) : State).inSession (Wopen 1 : OrderRec) [2] = false)) ∧
    ((({ Worder with value := [1, 0, 0, 0, 0, 0, 0, 0x80] ++ List.replicate 24 0 } : OrderRec).value.length = 32) ∧
      (((Wsess 2) : State).inSession ({ Worder with value := [1, 0, 0, 0, 0, 0, 0, 0x80] ++ List.replicate 24 0 } : OrderRec) [2] = true)) :=
  ⟨by decide +kernel, by decide +kernel, by decide +kernel, by decide +kernel, by decide +kernel, by decide +kernel,
    by decide +kernel, by decide +kernel, by decide +kernel, by decide +kernel, by decide +kernel, by decide +kernel,
    by decide +kernel, by decide +kernel, by decide +kernel, by decide +kernel, by decide +kernel, by decide +kernel,
    by decide +kernel, by decide +kernel, by decide +kernel, by decide +kernel, by decide +kernel, by decide +kernel,
    by decide +kernel, by decide +kernel, by decide +kernel, by decide +kernel, by decide +kernel, by decide +kernel,
    by decide +kernel, by decide +kernel⟩

/-- States and operands that meet the hypotheses of each clause of `UnitFaults`. -/
theorem witness_UnitFaults :
    (Wretd.retired (135 : Fin 456) = true) ∧
    ((Wt.retired (455 : Fin 456) = false) ∧ (kindOf (455 : Fin 456) ≠ 1) ∧
      (windowSum (windowInc (Wt.unit (455 : Fin 456)).window) ≤ Wt.threshold (455 : Fin 456) false)) ∧
    ((Wt.retired (31 : Fin 456) = false) ∧ (kindOf (31 : Fin 456) = 1) ∧
      (windowSum (windowInc (if (true : Bool) then (Wt.unit (31 : Fin 456)).window2 else (Wt.unit (31 : Fin 456)).window)) ≤ Wt.threshold (31 : Fin 456) (true : Bool))) ∧
    ((((Wt.setUnit 166 fun u => { u with window := [300] }) : State).retired (166 : Fin 456) = false) ∧
      (false = ((false : Bool) && kindOf (166 : Fin 456) == 1)) ∧
      (((Wt.setUnit 166 fun u => { u with window := [300] }) : State).threshold (166 : Fin 456) false < windowSum (windowInc (if false then (((Wt.setUnit 166 fun u => { u with window := [300] }) : State).unit (166 : Fin 456)).window2 else (((Wt.setUnit 166 fun u => { u with window := [300] }) : State).unit (166 : Fin 456)).window))) ∧
      (kindOf (166 : Fin 456) ≠ 2 ∨ ((Wt.setUnit 166 fun u => { u with window := [300] }) : State).freeSpare ≠ none)) ∧
    ((Wretd.retired (135 : Fin 456) = true) ∧ (Wretd.testJob (135 : Fin 456) = none)) ∧
    ((WtestJob.retired (135 : Fin 456) = true) ∧ ((WtestJob.testJob (135 : Fin 456)).isSome = true)) ∧
    ((Wt.retired (455 : Fin 456) = false) ∧ (kindOf (455 : Fin 456) ≠ 2 ∨ Wt.freeSpare ≠ none)) ∧
    ((Wfull.retired (95 : Fin 456) = false) ∧ (kindOf (95 : Fin 456) = 2) ∧ (Wfull.freeSpare = none) ∧
      ((Wfull.unit (95 : Fin 456)).spare = none) ∧ (Wfull.copyingOut (instOf (95 : Fin 456)) = none) ∧
      (Wfull.hub.bankRecovery = false) ∧ (Wfull.dip = false) ∧ (Wfull.health.held = []) ∧ (Wfull.health.overflow = []) ∧
      (Wfull.hub.held = false) ∧ (Wfull.subsOf 0xB810 1 = [])) ∧
    ((Wt.setUnit 455 fun u => { u with state := 3 } : State).retired 455 = true) ∧
    (Wt.retired 455 = false) ∧
    ((Wt.setUnit 455 fun u => { u with state := 3 } : State).retired 455 = true) ∧
    ((Wt.retired 455 = false) ∧ (windowSum (Wt.unit 455).window + (3 : Nat) ≤ Wt.threshold 455 false)) ∧
    (Wt.retired 455 = false) ∧
    (Wt.copyingOut (63 : Fin 64) = none) ∧
    ((Wcopy true : State).copyingOut (63 : Fin 64) = some ((2 : Nat), true)) ∧
    (Wt.copyingBack (63 : Fin 64) = none) ∧
    ((Wt.setHealth fun h => { h with jobs := [.copyBack 63 none] } : State).copyingBack (63 : Fin 64) = some none) ∧
    (((Wt.setUnit 95 fun u => { u with state := 4, spare := some 2 }).setHealth fun h => { h with jobs := [.copyBack 63 (some (4, 7))] } : State).copyingBack (63 : Fin 64) = some (some ((4, 7) : Nat × Nat))) ∧
    (Wt.health.scrubbing = false) ∧
    ((Wt.setHealth fun h => { h with scrubbing := true } : State).health.scrubbing = true) :=
  ⟨by decide +kernel, by decide +kernel, by decide +kernel, by decide +kernel, by decide +kernel, by decide +kernel,
    by decide +kernel, by decide +kernel, by decide +kernel, by decide +kernel, by decide +kernel, by decide +kernel,
    by decide +kernel, by decide +kernel, by decide +kernel, by decide +kernel, by decide +kernel, by decide +kernel,
    by decide +kernel, by decide +kernel⟩

/-- States and operands that meet the hypotheses of each clause of `HealthActions`. -/
theorem witness_HealthActions :
    (Wt.healthRefusal (0x164 : BitVec 16).toNat (1 : BitVec 8).toNat ≠ 0) ∧
    ((Wretd.healthRefusal (0x800 : BitVec 16).toNat (2 : BitVec 8).toNat = 0) ∧ (Wretd.hub.bankRecovery = false)) ∧
    ((((Wt.setHub fun h => { h with bankRecovery := true }) : State).healthRefusal (0x501 : BitVec 16).toNat (1 : BitVec 8).toNat = 0) ∧
      (((Wt.setHub fun h => { h with bankRecovery := true }) : State).hub.bankRecovery = true) ∧
      (slotOf (0x501 : BitVec 16).toNat = some ((104 : Nat) : Nat)) ∧
      (kindOf ((104 : Nat) : Nat) ≠ 2 ∨ (1 : BitVec 8) = 3)) ∧
    ((((Wt.setHub fun h => { h with bankRecovery := true }) : State).healthRefusal (0x23F : BitVec 16).toNat 1 = 0) ∧
      (((Wt.setHub fun h => { h with bankRecovery := true }) : State).hub.bankRecovery = true) ∧
      (slotOf (0x23F : BitVec 16).toNat = some ((95 : Nat) : Nat)) ∧ (kindOf ((95 : Nat) : Nat) = 2)) ∧
    (Wt.testAllowed (96 : Fin 456) = false) ∧
    ((Wretd.testAllowed (135 : Fin 456) = true) ∧ (Wretd.retired (135 : Fin 456) = true)) ∧
    ((Wt.testAllowed (95 : Fin 456) = true) ∧ (Wt.retired (95 : Fin 456) = false)) ∧
    (Wretd.testJob (135 : Fin 456) = none) ∧
    ((WtestJob.testJob (135 : Fin 456) = some ((4, 7) : Nat × Nat)) ∧
      (WtestJob.retired (135 : Fin 456) = true ∨ (135 : Fin 456) = 455)) ∧
    ((WtestJob.testJob (135 : Fin 456) = some ((4, 7) : Nat × Nat)) ∧
      (WtestJob.retired (135 : Fin 456) = true ∨ (135 : Fin 456) = 455)) ∧
    ((((Wt.setUnit 95 fun u => { u with state := 2, spare := some 2 }).setHealth fun h => { h with jobs := [.test 95 4 7] } : State).testJob (95 : Fin 456) = some ((4, 7) : Nat × Nat)) ∧
      (((Wt.setUnit 95 fun u => { u with state := 2, spare := some 2 }).setHealth fun h => { h with jobs := [.test 95 4 7] } : State).retired (95 : Fin 456) = false) ∧
      (kindOf (95 : Fin 456) = 2) ∧
      ((((Wt.setUnit 95 fun u => { u with state := 2, spare := some 2 }).setHealth fun h => { h with jobs := [.test 95 4 7] } : State).unit (95 : Fin 456)).spare.isSome = true)) ∧
    ((((Wt.setUnit 95 fun u => { u with state := 2, spare := some 2 }).setHealth fun h => { h with jobs := [.test 95 4 7] } : State).testJob (95 : Fin 456) = some ((4, 7) : Nat × Nat)) ∧
      (((Wt.setUnit 95 fun u => { u with state := 2, spare := some 2 }).setHealth fun h => { h with jobs := [.test 95 4 7] } : State).retired (95 : Fin 456) = false) ∧
      (kindOf (95 : Fin 456) = 2) ∧
      ((((Wt.setUnit 95 fun u => { u with state := 2, spare := some 2 }).setHealth fun h => { h with jobs := [.test 95 4 7] } : State).unit (95 : Fin 456)).spare.isSome = true)) ∧
    (((((Wt.setHealth fun h => { h with jobs := [.test 95 4 7] }) : State).testJob (95 : Fin 456)).isSome = true) ∧
      (((Wt.setHealth fun h => { h with jobs := [.test 95 4 7] }) : State).retired (95 : Fin 456) = false) ∧
      ((95 : Fin 456) ≠ 455) ∧
      (kindOf (95 : Fin 456) ≠ 2 ∨ (((Wt.setHealth fun h => { h with jobs := [.test 95 4 7] }) : State).unit (95 : Fin 456)).spare = none)) ∧
    (Wt.healthOpen 2 (455 : Fin 456) = none) ∧
    ((((Wretd.setUnit 135 fun u => { u with sinceTest := true } : State).healthOpen 2 (135 : Fin 456)).isSome = true) ∧
      ((Wretd.setUnit 135 fun u => { u with sinceTest := true } : State).returnAllowed (135 : Fin 456) = false)) ∧
    (((Wretd.healthOpen 2 (135 : Fin 456)).isSome = true) ∧ (Wretd.returnAllowed (135 : Fin 456) = true) ∧
      (kindOf (135 : Fin 456) ≠ 2 ∨ (Wretd.unit (135 : Fin 456)).spare = none)) ∧
    ((((((Wretd.setUnit 95 fun u => { u with state := 4, testedAt := some 999000000000, retireCount := 1, spare := some 2 }).setJ fun j => { j with ring := [{ Worder with index := 0xA020, sub := 1, value := [63, 2, 2, 0] }] }) : State).healthOpen 2 (95 : Fin 456)).isSome = true) ∧
      ((((Wretd.setUnit 95 fun u => { u with state := 4, testedAt := some 999000000000, retireCount := 1, spare := some 2 }).setJ fun j => { j with ring := [{ Worder with index := 0xA020, sub := 1, value := [63, 2, 2, 0] }] }) : State).returnAllowed (95 : Fin 456) = true) ∧
      (kindOf (95 : Fin 456) = 2) ∧
      (((((Wretd.setUnit 95 fun u => { u with state := 4, testedAt := some 999000000000, retireCount := 1, spare := some 2 }).setJ fun j => { j with ring := [{ Worder with index := 0xA020, sub := 1, value := [63, 2, 2, 0] }] }) : State).unit (95 : Fin 456)).spare.isSome = true)) ∧
    (Wt.healthOpen 3 (455 : Fin 456) = none) ∧
    ((((Wretire.setUnit 167 fun u => { u with state := 3 } : State).healthOpen 3 (167 : Fin 456)).isSome = true) ∧
      ((Wretire.setUnit 167 fun u => { u with state := 3 } : State).retireAllowed (167 : Fin 456) = false)) ∧
    (((Wretire.healthOpen 3 (167 : Fin 456)).isSome = true) ∧ (Wretire.retireAllowed (167 : Fin 456) = true) ∧
      (kindOf (167 : Fin 456) ≠ 2 ∨ Wretire.freeSpare ≠ none)) :=
  ⟨by decide +kernel, by decide +kernel, by decide +kernel, by decide +kernel, by decide +kernel, by decide +kernel,
    by decide +kernel, by decide +kernel, by decide +kernel, by decide +kernel, by decide +kernel, by decide +kernel,
    by decide +kernel, by decide +kernel, by decide +kernel, by decide +kernel, by decide +kernel, by decide +kernel,
    by decide +kernel, by decide +kernel⟩

/-- States and operands that meet the hypotheses of each clause of `LogRecords`. -/
theorem witness_LogRecords :
    ((Wt.subsOf 0xB810 1 = []) ∧ (Wt.dip = false) ∧ (Wt.health.overflow = [])) ∧
    (((Wt.raise Reg.GAUGE_STATUS_DIP : State).subsOf 0xB810 1 = []) ∧
      ((Wt.raise Reg.GAUGE_STATUS_DIP : State).dip = true)) ∧
    ((((Wt.setHealth fun h => { h with overflow := [Walarm] }) : State).subsOf 0xB810 1 = []) ∧
      (((Wt.setHealth fun h => { h with overflow := [Walarm] }) : State).dip = false) ∧
      (((Wt.setHealth fun h => { h with overflow := [Walarm] }) : State).health.overflow ≠ []) ∧
      (((Wt.setHealth fun h => { h with overflow := [Walarm] }) : State).health.overflow.length < 16384)) ∧
    ((({} : EventKey) = Map.get {} Wt.health.keys (65536 : Nat)) ∧
      ((({} : EventKey).coalescing && Wt.elapsed ({} : EventKey).began (Wt.objN Obj.LOG_COALESCE_MS * 1000000)) = false)) ∧
    ((({ coalescing := true, count := 200 } : EventKey) = Map.get {} ((Wt.setHealth fun h => { h with keys := [(65537, { coalescing := true, count := 200 })] }) : State).health.keys (65537 : Nat)) ∧
      ((({ coalescing := true, count := 200 } : EventKey).coalescing && ((Wt.setHealth fun h => { h with keys := [(65537, { coalescing := true, count := 200 })] }) : State).elapsed ({ coalescing := true, count := 200 } : EventKey).began (((Wt.setHealth fun h => { h with keys := [(65537, { coalescing := true, count := 200 })] }) : State).objN Obj.LOG_COALESCE_MS * 1000000)) = true)) ∧
    (Wt.objB Obj.LOG_TRACE_EN = false) ∧
    ((Wt.setObjN Obj.LOG_TRACE_EN 1 : State).objB Obj.LOG_TRACE_EN = true) ∧
    ((Wt.raise Reg.GAUGE_STATUS_DIP : State).dip = true) ∧
    (((Wt.setHealth fun h => { h with overflow := [Walarm] } : State).dip = false) ∧
      ((Wt.setHealth fun h => { h with overflow := [Walarm] } : State).subsOf 0xB810 1 = []) ∧
      ((Wt.setHealth fun h => { h with overflow := [Walarm] } : State).health.exhausted = false)) ∧
    (Wt.objB Obj.LOG_TRACE_EN = false) ∧
    (((List.replicate 128 0) = Wt.gristGet ((2 : BitVec 21).toNat * 64) 128) ∧
      (crc32 ((List.replicate 128 0).take 124) ≠ leAt (List.replicate 128 0) 124 4 ∨ leAt (List.replicate 128 0) 14 2 ≠ 0 ∨ 8 ≤ leAt (List.replicate 128 0) 22 1 ∨ leAt (List.replicate 128 0) 23 1 ≠ 0)) ∧
    (((let b : List Byte := List.replicate 124 0; b ++ leBytes 4 (crc32 b)) = Wraise.gristGet ((2 : BitVec 21).toNat * 64) 128) ∧
      (crc32 ((let b : List Byte := List.replicate 124 0; b ++ leBytes 4 (crc32 b)).take 124) = leAt (let b : List Byte := List.replicate 124 0; b ++ leBytes 4 (crc32 b)) 124 4) ∧
      (leAt (let b : List Byte := List.replicate 124 0; b ++ leBytes 4 (crc32 b)) 14 2 = 0) ∧
      (leAt (let b : List Byte := List.replicate 124 0; b ++ leBytes 4 (crc32 b)) 22 1 < 8) ∧
      (leAt (let b : List Byte := List.replicate 124 0; b ++ leBytes 4 (crc32 b)) 23 1 = 0) ∧
      (Wraise.subsOf 0xB810 1 = []) ∧ (Wraise.dip = false) ∧ (Wraise.health.overflow = [])) ∧
    (((List.replicate 64 0) = Wt.gristGet ((2 : BitVec 21).toNat * 64) 64) ∧
      ((1 : BitVec 2) = 1 ∨ (1 : BitVec 2) = 2 ∧ Wt.objB Obj.LOG_TRACE_EN = true) ∧
      (crc32 ((List.replicate 64 0).take 60) ≠ leAt (List.replicate 64 0) 60 4 ∨ 4 ≤ leAt (List.replicate 64 0) 30 1 ∨ leAt (List.replicate 64 0) 31 1 ≠ 0)) ∧
    (((let b : List Byte := List.replicate 60 0; b ++ leBytes 4 (crc32 b)) = WraiseEv.gristGet ((1 : BitVec 21).toNat * 64) 64) ∧
      (crc32 ((let b : List Byte := List.replicate 60 0; b ++ leBytes 4 (crc32 b)).take 60) = leAt (let b : List Byte := List.replicate 60 0; b ++ leBytes 4 (crc32 b)) 60 4) ∧
      (leAt (let b : List Byte := List.replicate 60 0; b ++ leBytes 4 (crc32 b)) 30 1 < 4) ∧
      (leAt (let b : List Byte := List.replicate 60 0; b ++ leBytes 4 (crc32 b)) 31 1 = 0) ∧
      (({} : EventKey) = Map.get {} WraiseEv.health.keys (leAt (let b : List Byte := List.replicate 60 0; b ++ leBytes 4 (crc32 b)) 6 2 * 65536 + leAt (let b : List Byte := List.replicate 60 0; b ++ leBytes 4 (crc32 b)) 28 2)) ∧
      (({} : EventKey).coalescing = false) ∧
      (WraiseEv.raisings (leAt (let b : List Byte := List.replicate 60 0; b ++ leBytes 4 (crc32 b)) 6 2 * 65536 + leAt (let b : List Byte := List.replicate 60 0; b ++ leBytes 4 (crc32 b)) 28 2) ≤ WraiseEv.objN Obj.LOG_EVENT_RATE) ∧
      (WraiseEv.evBusy = false)) ∧
    (((let b : List Byte := List.replicate 60 0; b ++ leBytes 4 (crc32 b)) = (WraiseEv.setObjN Obj.LOG_TRACE_EN 1 : State).gristGet ((1 : BitVec 21).toNat * 64) 64) ∧
      (crc32 ((let b : List Byte := List.replicate 60 0; b ++ leBytes 4 (crc32 b)).take 60) = leAt (let b : List Byte := List.replicate 60 0; b ++ leBytes 4 (crc32 b)) 60 4) ∧
      (leAt (let b : List Byte := List.replicate 60 0; b ++ leBytes 4 (crc32 b)) 30 1 < 4) ∧
      (leAt (let b : List Byte := List.replicate 60 0; b ++ leBytes 4 (crc32 b)) 31 1 = 0) ∧
      ((WraiseEv.setObjN Obj.LOG_TRACE_EN 1 : State).objB Obj.LOG_TRACE_EN = true)) :=
  ⟨by decide +kernel, by decide +kernel, by decide +kernel, by decide +kernel, by decide +kernel, by decide +kernel,
    by decide +kernel, by decide +kernel, by decide +kernel, by decide +kernel, by decide +kernel, by decide +kernel,
    by decide +kernel, by decide +kernel, by decide +kernel⟩

/-- As above, for a clause of `LogRecords` whose event key is a number that the spec leaves open. -/
theorem witness_LogRecords_1 :
    (((recordCode .can "X" * 65536 + 0x600) = recordCode (.can : HwBlock) ("X" : String) * 65536 + (0x600 : BitVec 16).toNat) ∧
      (({ coalescing := true, count := 3 } : EventKey) = Map.get {} Wkeyed.health.keys (recordCode .can "X" * 65536 + 0x600)) ∧
      (({ coalescing := true, count := 3 } : EventKey).coalescing = true)) :=
  ⟨by simp, (by simp only [Wkeyed, Wt, Wrun, W0, State.setHealth, Map.get]; simp), rfl⟩

/-- As above, for a clause of `LogRecords` whose event key is a number that the spec leaves open. -/
theorem witness_LogRecords_2 :
    (((recordCode .can "X" * 65536 + 0x600) = recordCode (.can : HwBlock) ("X" : String) * 65536 + (0x600 : BitVec 16).toNat) ∧
      (({} : EventKey) = Map.get {} Wt.health.keys (recordCode .can "X" * 65536 + 0x600)) ∧
      (({} : EventKey).coalescing = false) ∧
      (Wt.raisings (recordCode .can "X" * 65536 + 0x600) ≤ Wt.objN Obj.LOG_EVENT_RATE) ∧ (Wt.evBusy = false)) :=
  ⟨by simp, (by simp only [Wt, Wrun, W0, State.wr]; rfl), rfl, by decide +kernel, by decide +kernel⟩

/-- As above, for a clause of `LogRecords` whose event key is a number that the spec leaves open. -/
theorem witness_LogRecords_3 :
    (((recordCode .can "X" * 65536 + 0x600) = recordCode (.can : HwBlock) ("X" : String) * 65536 + (0x600 : BitVec 16).toNat) ∧
      (({} : EventKey) = Map.get {} (Wt.setObjN Obj.LOG_EVENT_RATE 0 : State).health.keys (recordCode .can "X" * 65536 + 0x600)) ∧
      (({} : EventKey).coalescing = false) ∧
      ((Wt.setObjN Obj.LOG_EVENT_RATE 0 : State).objN Obj.LOG_EVENT_RATE < (Wt.setObjN Obj.LOG_EVENT_RATE 0 : State).raisings (recordCode .can "X" * 65536 + 0x600) ∨ (Wt.setObjN Obj.LOG_EVENT_RATE 0 : State).evBusy = true)) :=
  ⟨by simp, (by simp only [Wt, Wrun, W0, State.setHealth, State.wr, Map.get]; rfl), rfl, by decide +kernel⟩

/-- States and operands that meet the hypotheses of each clause of `StepRunsFrontCommand`. -/
theorem witness_StepRunsFrontCommand :
    (({ Wt with pending := [.smHb] } : State).pending = (.smHb) :: ([])) :=
  by decide +kernel

/-- States and operands that meet the hypotheses of each clause of `EmptyQueueIsOneTick`. -/
theorem witness_EmptyQueueIsOneTick :
    (Wt.pending = []) :=
  by decide +kernel

/-- States and operands that meet the hypotheses of each clause of `OvertemperatureOpensEverything`. -/
theorem witness_OvertemperatureOpensEverything :
    (Wdie.safety.live = true) :=
  by decide +kernel

/-- States and operands that meet the hypotheses of each clause of `AdmitWhilePendingOverruns`. -/
theorem witness_AdmitWhilePendingOverruns :
    ((Wt.raise Reg.GRIST_VERDICT_PENDING 3 : State).flag Reg.GRIST_VERDICT_PENDING (3 : Fin 4) = true) :=
  by decide +kernel

/-- States and operands that meet the hypotheses of each clause of `RegistersTakeAlignedWords`. -/
theorem witness_RegistersTakeAlignedWords :
    ((0x40000000 ≤ (0x400FFFFE : Word).toNat ∧ (0x400FFFFE : Word).toNat < 0x40100000) ∧
      ((32 : BitVec 8).toNat / 8 ≠ 4 ∨ (0x400FFFFE : Word).toNat % 4 ≠ 0)) ∧
    ((0x40000000 ≤ (0x400F0000 : Word).toNat ∧ (0x400F0000 : Word).toNat < 0x40100000) ∧
      ((64 : BitVec 8).toNat / 8 ≠ 4 ∨ (0x400F0000 : Word).toNat % 4 ≠ 0)) :=
  ⟨by decide +kernel, by decide +kernel⟩

/-- States and operands that meet the hypotheses of each clause of `LimitRegistersBelongToJournal`. -/
theorem witness_LimitRegistersBelongToJournal :
    (∃ o ∈ ([0x0, 0x4, 0x8, 0xC, 0x10, 0x14, 0x18, 0x1C, 0x20, 0x40, 0x44, 0x48, 0x4C, 0x50, 0x54, 0x58, 0x5C] : List Nat), (0x40033F80 : Word).toNat = 0x40033000 + 128 * (31 : Fin 32).val + o) ∧
    (∃ o ∈ ([0x0, 0x4, 0x8, 0xC, 0x10, 0x14, 0x18, 0x20, 0x24, 0x28, 0x2C, 0x30, 0x34, 0x38, 0x3C] : List Nat), (0x400C17C0 : Word).toNat = 0x400C1000 + 64 * (31 : Fin 32).val + o) ∧
    ((((Wt.raise Reg.JE_STATUS_APPLY_OPEN).wr Reg.JE_APPLY_ADDR_ADDR 0x1000CFE0 : State).flag Reg.JE_STATUS_APPLY_OPEN = true) ∧
      (((Wt.raise Reg.JE_STATUS_APPLY_OPEN).wr Reg.JE_APPLY_ADDR_ADDR 0x1000CFE0 : State).rd Reg.JE_APPLY_ADDR_ADDR = (0x40033000 + 128 * (31 : Fin 32).val) / 4)) :=
  ⟨by decide +kernel, by decide +kernel, by decide +kernel⟩

/-- States and operands that meet the hypotheses of each clause of `NodeIdOutOfRangeIsRefused`. -/
theorem witness_NodeIdOutOfRangeIsRefused :
    (((Instr.zdpWrite 1 (Wmsg 2 0x1001 2 [0, 0x40])) ∈ zdpCommands (1 : PortNo) (Wmsg 2 0x1001 2 [0, 0x40])) ∧
      (Wzdp.gateTakes (1 : PortNo) (Wmsg 2 0x1001 2 [0, 0x40]) = true) ∧ ((Wmsg 2 0x1001 2 [0, 0x40]).kind = 2) ∧
      ((Wmsg 2 0x1001 2 [0, 0x40]).index = 0x1001) ∧ ((Wmsg 2 0x1001 2 [0, 0x40]).sub = 2) ∧
      ((Wzdp.taken (1 : PortNo)).firstChecks (1 : PortNo) (Wmsg 2 0x1001 2 [0, 0x40]) .write = .ok WnodeF) ∧
      ((Wmsg 2 0x1001 2 [0, 0x40]).body.length = 2) ∧ (0x3FFF < leNat (Wmsg 2 0x1001 2 [0, 0x40]).body)) :=
  by decide +kernel

/-- A tidy state, and what a step answers there. -/
theorem witness_StepKeepsTidy : Wrun.tidy = true ∧ step Wrun = .next (Wrun.tick) :=
  ⟨by decide +kernel, rfl⟩

/-- A command that neither restarts the die nor ends a reset pulse, and completes. -/
theorem witness_OnlyResetPulsesClearTrips : Instr.safetyOvertemp ≠ .vsafeGood ∧
    (∀ k a b, Instr.safetyOvertemp ≠ .resetPulseFall k a b) ∧
    exec .safetyOvertemp State.reset = .next (Wnext .safetyOvertemp State.reset) :=
  ⟨by decide, fun _ _ _ => (nofun), rfl⟩

/-- A state in which every demand is tripped, and a command that completes there. -/
theorem witness_DemandKeepsTrip : State.reset.demandsTripped = true ∧
    exec .safetyOvertemp State.reset = .next (Wnext .safetyOvertemp State.reset) :=
  ⟨by decide +kernel, rfl⟩

/-- The die in FAULT, and a command that completes there. -/
theorem witness_FaultLeftOnlyByPowerOn : (Wnext .safetyOvertemp Wdie).safety.state = 6 ∧
    Instr.safetyOvertemp ≠ .vsafeGood ∧
    exec .safetyOvertemp (Wnext .safetyOvertemp Wdie) =
      .next (Wnext .safetyOvertemp (Wnext .safetyOvertemp Wdie)) :=
  ⟨by decide +kernel, by decide, rfl⟩

/-- A state with a valid role, and what a step answers there. -/
theorem witness_RoleAlwaysReadsValid : Wrun.roleOk = true ∧ step Wrun = .next (Wrun.tick) :=
  ⟨by decide +kernel, rfl⟩

/-- A command that is no release of the hub reset, and completes. -/
theorem witness_RoleFixedInService :
    (∀ te ro pr cal bad cp, Instr.safetyOvertemp ≠ .hubResetRelease te ro pr cal bad cp) ∧
    exec .safetyOvertemp Wrun = .next (Wnext .safetyOvertemp Wrun) :=
  ⟨fun _ _ _ _ _ _ => (nofun), rfl⟩

/-- A command that completes, leaving the queue and TB3 to compare. -/
theorem witness_CommandsLeaveQueue : exec .safetyOvertemp Wrun = .next (Wnext .safetyOvertemp Wrun) := rfl

/-- A command that completes with TB3 running. -/
theorem witness_Tb3NeverStepped : exec .safetyOvertemp Wt = .next (Wnext .safetyOvertemp Wt) := rfl

/-- The die without its supply. -/
theorem witness_SupplyLossOpensOutputs : State.reset.safety.live = false ∨ State.reset.safety.vio33s = false := by
  decide +kernel

end Sys2Proof.Tests
end

section
/-! SUPPORT. Which parts of State each command may change, said once for all commands. -/

namespace Sys2Proof
open Machine

/-- The parts of State that a command may change. -/
def Instr.touches : Instr → List Part
  | .hubResetRelease .. => Part.allBut [.mem, .latch, .poisoned, .readData, .coreFaults, .outcome, .journal, .claims,
    .gate, .can, .safety, .stages, .lauter, .pfu, .regs .tu, .regs .sm, .regs .je, .regs .tile]
  | .imageVerify .. => Part.allBut [.latch, .readData, .coreFaults, .outcome, .gate, .safety, .fabric, .pfu]
  | .replayComplete .. => Part.allBut [.latch, .readData, .coreFaults, .time, .stages]
  | .porstNLow .. | .railBelowReset .. | .vcoreBelow060 .. | .referenceLost .. | .jtagHubReset .. | .watchdogExpiry ..
    | .supRestart .. | .trialExpiry .. | .reboot .. => Part.allBut [.fresh]
  | .vsafeGood .. | .safetyOvertemp .. | .channelFault .. | .switchFault .. | .testPulse .. | .guardWatchdog .. =>
    [.dict, .fresh, .health, .zdp, .ports, .safety, .regs .cnt, .regs .hl]
  | .jtagTapReset .. | .watchdogKick .. | .flashProgramDone .. | .flashCheckDone .. => [.hub]
  | .watchdogEnable .. | .trialConfirm .. => [.hub, .regs .sup]
  | .registerWrite .. | .dipEnd .. | .followOffsetWrite .. | .serialWord .. | .serTimeout .. | .zdpRead ..
    | .zdpMetaRead .. | .zdpWrite .. | .zdpOrder .. | .zdpSubscribe .. | .bulkRead .. | .bulkWriteSegment ..
    | .forkResolve .. | .challenge .. | .transient .. | .permanentFault .. | .hlTestDone .. | .hlRetire ..
    | .overflowDrain .. | .caskReadThrough .. => Part.all
  | .gaugeWindow .. | .tileError .. | .tileOnline .. => [.dict, .fresh, .health, .zdp, .ports, .fabric, .regs .grist,
    .regs .gauge, .regs .cnt, .regs .hl, .regs .tile]
  | .breachEnd .. => [.fabric, .regs .grist, .regs .gauge]
  | .breachAlarm .. => [.dict, .fresh, .health, .zdp, .ports, .fabric, .regs .cnt, .regs .hl]
  | .refMonitorSample .. | .refSample .. | .stressUpdate .. => [.fabric]
  | .tempHigh .. => [.dict, .fresh, .health, .zdp, .ports, .regs .gauge, .regs .cnt, .regs .hl]
  | .dipStart .. => [.fresh, .health, .zdp, .ports, .journal, .fabric, .regs .grist, .regs .gauge, .regs .cnt,
    .regs .hl, .regs .je]
  | .dipLong .. => [.dict, .fresh, .health, .zdp, .ports, .journal, .regs .grist, .regs .gauge, .regs .cnt, .regs .hl,
    .regs .je]
  | .dailyRecord .. => [.dict, .fresh, .health, .zdp, .ports, .fabric, .regs .grist, .regs .gauge, .regs .cnt,
    .regs .hl]
  | .ageingForecast .. => [.regs .grist, .regs .gauge]
  | .kilnRun .. | .requirementWrite .. => [.dict, .fresh, .health, .zdp, .ports, .regs .grist, .regs .gauge, .regs .cnt,
    .regs .hl]
  | .gristAdmit .. => [.fabric, .regs .grist]
  | .verdictPost .. => [.mem, .poisoned, .fresh, .health, .zdp, .claims, .loop, .can, .fabric, .regs .grist, .regs .le,
    .regs .can, .regs .cnt, .regs .hl, .regs .tile]
  | .replan .. => [.regs .grist]
  | .tableReplace .. => [.fresh, .health, .zdp, .safety, .hub, .fabric, .regs .grist, .regs .cnt, .regs .hl]
  | .linkStart .. => [.mem, .poisoned, .health, .claims, .loop, .can, .fabric, .regs .le, .regs .can, .regs .cnt,
    .regs .tile]
  | .operationComplete .. | .dmaComplete .. => [.mem, .dict, .poisoned, .fresh, .health, .zdp, .ports, .journal,
    .claims, .loop, .can, .fabric, .regs .le, .regs .can, .regs .cnt, .regs .hl, .regs .je, .regs .tile]
  | .dieLinkCheckFail .. => [.dict, .fresh, .health, .zdp, .ports, .journal, .fabric, .regs .grist, .regs .gauge,
    .regs .cnt, .regs .hl, .regs .je, .regs .tile]
  | .cutoff .. => [.fabric, .regs .tile]
  | .jobDelivery .. => Part.allBut [.latch, .readData, .coreFaults, .outcome, .time, .gate, .hub, .lauter, .pfu,
    .regs .gauge, .regs .lt, .regs .pf, .regs .tu, .regs .em, .regs .xl, .regs .su, .regs .cg, .regs .sm, .regs .sup]
  | .tileDrain .. => [.health, .fabric, .regs .grist, .regs .tile]
  | .tileBistStart .. => [.health, .fabric, .regs .tile]
  | .tileBistDone .. => [.mem, .dict, .poisoned, .fresh, .health, .zdp, .ports, .journal, .claims, .loop, .can, .fabric,
    .regs .grist, .regs .gauge, .regs .le, .regs .can, .regs .cnt, .regs .hl, .regs .je, .regs .tile]
  | .pipelineStart .. => [.mem, .dict, .poisoned, .fresh, .health, .zdp, .ports, .journal, .claims, .loop, .can,
    .fabric, .stages, .regs .le, .regs .tu, .regs .can, .regs .cnt, .regs .hl, .regs .je]
  | .tenSecondBoundary .. => [.dict, .fresh, .time, .health, .zdp, .ports, .journal, .claims, .fabric, .stages,
    .regs .grist, .regs .gauge, .regs .cnt, .regs .hl, .regs .je]
  | .estimationRelease .. => [.dict, .fresh, .health, .zdp, .ports, .fabric, .stages, .regs .cnt, .regs .hl]
  | .visualRelease .. | .caRelease .. => [.fresh, .health, .zdp, .fabric, .stages, .regs .cnt, .regs .hl]
  | .planningRelease .. => [.dict, .fresh, .health, .zdp, .fabric, .stages, .regs .cnt, .regs .hl]
  | .caPublication .. => [.mem, .dict, .poisoned, .fresh, .health, .zdp, .ports, .fabric, .stages, .regs .cnt,
    .regs .hl]
  | .measurementRecord .. => [.dict, .fresh, .health, .zdp, .stages, .regs .cnt, .regs .hl]
  | .keypointDatagram .. | .frameIncomplete .. => [.dict, .stages]
  | .cameraLost .. => [.stages]
  | .voteStart .. => [.mem, .dict, .poisoned, .fresh, .health, .zdp, .claims, .loop, .fabric, .stages, .regs .le,
    .regs .cnt, .regs .hl]
  | .tbStep .. | .ptpMessage .. | .timeOfDayRecord .. => [.mem, .dict, .poisoned, .fresh, .time, .health, .zdp, .ports,
    .journal, .claims, .loop, .can, .regs .le, .regs .tu, .regs .can, .regs .cnt, .regs .hl, .regs .je]
  | .tbCountRead .. => [.readData, .time, .regs .cnt]
  | .tuSnap .. | .snapshotPeriodic .. => [.regs .tu, .regs .cnt]
  | .ptpSend .. | .ppsOutputPulse .. => [.time]
  | .announceTimeout .. => [.dict, .time, .regs .tu]
  | .holdoverEntry .. | .ppsMissed .. => [.time, .regs .tu]
  | .holdoverMax .. => [.dict, .fresh, .time, .health, .zdp, .ports, .regs .cnt, .regs .hl]
  | .ppsEdge .. => [.mem, .dict, .poisoned, .fresh, .time, .health, .zdp, .ports, .journal, .claims, .loop, .can,
    .lauter, .regs .lt, .regs .le, .regs .tu, .regs .can, .regs .cnt, .regs .hl, .regs .je]
  | .resync .. => [.mem, .dict, .poisoned, .outcome, .fresh, .time, .health, .zdp, .ports, .journal, .claims, .loop,
    .can, .regs .le, .regs .tu, .regs .can, .regs .cnt, .regs .hl, .regs .je]
  | .timeTrigger .. | .leSwTrig .. => [.dict, .fresh, .health, .zdp, .ports, .journal, .loop, .regs .le, .regs .cnt,
    .regs .hl, .regs .je]
  | .activationComplete .. => [.mem, .dict, .poisoned, .fresh, .health, .zdp, .ports, .journal, .claims, .loop, .can,
    .regs .le, .regs .can, .regs .cnt, .regs .hl, .regs .je]
  | .leTrajCommit .. => [.fresh, .health, .zdp, .loop, .regs .le, .regs .cnt, .regs .hl]
  | .trajCopyDone .. => [.dict, .loop, .regs .le]
  | .trajStaleAlarm .. => [.dict, .fresh, .health, .zdp, .ports, .loop, .regs .cnt, .regs .hl]
  | .leProgAccess .. => [.mem, .dict, .poisoned, .readData, .fresh, .health, .zdp, .ports, .journal, .claims, .loop,
    .can, .regs .le, .regs .can, .regs .cnt, .regs .hl, .regs .je]
  | .leRecheck .. => [.dict, .fresh, .health, .zdp, .ports, .regs .le, .regs .cnt, .regs .hl]
  | .slotEnable .. | .slotCommit .. | .slotServiceTest .. | .slotServiceReturn .. => [.dict, .outcome, .fresh, .health,
    .zdp, .ports, .loop, .regs .le, .regs .cnt, .regs .hl]
  | .commitInstall .. | .slotHandover .. | .slotSelfTestDone .. => [.dict, .fresh, .health, .zdp, .ports, .loop,
    .regs .le, .regs .cnt, .regs .hl]
  | .generatorStart .. | .generatorStop .. => [.outcome, .loop, .regs .le]
  | .generatorEnd .. | .captureArm .. | .captureStop .. => [.loop, .regs .le]
  | .lauterOutput .. => [.mem, .dict, .poisoned, .fresh, .health, .zdp, .ports, .journal, .loop, .lauter, .regs .lt,
    .regs .le, .regs .cnt, .regs .hl, .regs .je]
  | .clockLost .. => [.fresh, .health, .zdp, .regs .lt, .regs .le, .regs .cnt, .regs .hl]
  | .clockReturn .. | .definingEdge .. => [.mem, .poisoned, .fresh, .health, .zdp, .lauter, .regs .lt, .regs .cnt,
    .regs .hl]
  | .ltSync .. => [.lauter]
  | .ltSyncArm .. => [.regs .lt]
  | .timeAt .. | .scSyncEdge .. | .swapRequest .. => [.lauter, .regs .lt]
  | .poolAccess .. => [.mem, .poisoned, .readData, .claims, .loop, .can, .lauter, .regs .lt, .regs .le, .regs .can,
    .regs .cnt]
  | .ltRecheck .. => [.dict, .fresh, .health, .zdp, .ports, .regs .lt, .regs .cnt, .regs .hl]
  | .ltChannelEnable .. => [.outcome, .lauter, .regs .lt, .regs .le]
  | .ltServiceTest .. => [.outcome, .health, .lauter, .regs .lt, .regs .le]
  | .ltSelfTestDone .. => [.dict, .fresh, .health, .zdp, .ports, .regs .lt, .regs .le, .regs .cnt, .regs .hl]
  | .ltServiceReturn .. => [.outcome, .fresh, .health, .lauter, .regs .lt, .regs .le, .regs .hl]
  | .pfEdgeAccept .. | .cmpArm .. => [.mem, .dict, .poisoned, .fresh, .health, .zdp, .ports, .journal, .claims, .loop,
    .can, .pfu, .regs .le, .regs .pf, .regs .can, .regs .cnt, .regs .hl, .regs .je]
  | .glitch .. | .lineOpen .. | .serialRequest .. => [.mem, .poisoned, .fresh, .health, .zdp, .pfu, .regs .le,
    .regs .pf, .regs .cnt, .regs .hl]
  | .speedUpdate .. | .standstill .. | .lineSignalReturn .. => [.pfu, .regs .le, .regs .pf]
  | .emulatedTransition .. => [.pfu, .regs .pf]
  | .setPos .. => [.outcome, .pfu, .regs .le, .regs .pf]
  | .cmpDisarm .. | .oscFault .. => [.regs .pf]
  | .pfEnable .. | .pfServiceReturn .. => [.mem, .poisoned, .outcome, .fresh, .health, .zdp, .pfu, .regs .le, .regs .pf,
    .regs .cnt, .regs .hl]
  | .pfServiceTest .. => [.outcome, .health, .pfu, .regs .le, .regs .pf]
  | .pfSelfTestDone .. => [.dict, .fresh, .health, .zdp, .ports, .pfu, .regs .le, .regs .pf, .regs .cnt, .regs .hl]
  | .pfInternal .. => [.mem, .dict, .poisoned, .fresh, .health, .zdp, .ports, .pfu, .regs .le, .regs .pf, .regs .cnt,
    .regs .hl]
  | .canEnable .. | .canDisable .. => [.dict, .outcome, .can, .regs .can]
  | .canFrameReceived .. => [.mem, .dict, .poisoned, .fresh, .health, .zdp, .ports, .claims, .can, .regs .can,
    .regs .cnt, .regs .hl]
  | .segmentGapTimeout .. => [.can]
  | .canRxIrqTimeout .. => [.regs .can]
  | .canRxTailWrite .. | .canTxCancel .. => [.can, .regs .can]
  | .canTxReq .. | .canArbitrationLost .. => [.can, .regs .can, .regs .cnt]
  | .canTxComplete .. => [.mem, .dict, .poisoned, .fresh, .health, .zdp, .ports, .can, .regs .can, .regs .cnt,
    .regs .hl]
  | .canBusError .. | .canSelfTestDone .. => [.dict, .fresh, .health, .zdp, .ports, .can, .regs .can, .regs .cnt,
    .regs .hl]
  | .canRecover .. => [.outcome, .regs .can]
  | .recoveryComplete .. => [.fresh, .health, .zdp, .can, .regs .can, .regs .cnt, .regs .hl]
  | .canServiceTest .. => [.outcome, .health, .can, .regs .can]
  | .canServiceReturn .. => [.outcome, .fresh, .health, .can, .regs .can, .regs .hl]
  | .emFrameReceived .. => [.mem, .dict, .poisoned, .zdp, .ports, .claims, .regs .em, .regs .cnt]
  | .emFrameSent .. => [.mem, .dict, .poisoned, .zdp, .ports, .claims, .gate, .regs .em, .regs .cnt]
  | .peerFrameReceived .. => [.mem, .dict, .poisoned, .health, .ports, .journal, .claims, .regs .xl, .regs .cnt,
    .regs .hl, .regs .je]
  | .suCharacter .. => [.mem, .dict, .poisoned, .zdp, .ports, .regs .em, .regs .su, .regs .cnt]
  | .portServiceTest .. => [.outcome, .health, .ports, .regs .em, .regs .xl, .regs .su]
  | .portSelfTestDone .. => [.dict, .fresh, .health, .zdp, .ports, .regs .em, .regs .xl, .regs .su, .regs .cnt,
    .regs .hl]
  | .portServiceReturn .. => [.outcome, .fresh, .health, .zdp, .ports, .claims, .gate, .regs .em, .regs .xl, .regs .su,
    .regs .hl]
  | .notifyDue .. | .notifyIntervalExpiry .. => [.zdp, .regs .cnt]
  | .subscriptionExpiry .. | .requestRateSecond .. => [.zdp]
  | .bulkStagingExpiry .. => [.zdp, .stages]
  | .fuseOrder .. => [.outcome, .zdp]
  | .applyReady .. => [.dict, .journal, .regs .je]
  | .jeApplyData .. => Part.allBut [.latch, .coreFaults, .time, .gate, .safety, .hub, .fabric, .stages, .lauter, .pfu]
  | .jeApplyDone .. => [.dict, .fresh, .health, .zdp, .journal, .safety, .regs .cnt, .regs .hl, .regs .sm, .regs .je]
  | .applySlow .. | .soloEntry .. | .caskFault .. => [.dict, .fresh, .health, .zdp, .ports, .journal, .regs .cnt,
    .regs .hl, .regs .je]
  | .jeFetch .. | .stateSend .. | .heartbeatSend .. => [.ports]
  | .forward .. => [.dict, .time, .zdp, .ports, .journal, .regs .cnt, .regs .je]
  | .copy .. | .replay .. | .planSummaryReceived .. | .allocationReceived .. => [.dict, .fresh, .health, .zdp, .ports,
    .journal, .claims, .regs .cnt, .regs .hl, .regs .je]
  | .image .. => [.dict, .ports, .journal, .claims, .regs .cg, .regs .je]
  | .ack .. | .commit .. => [.dict, .zdp, .ports, .journal, .claims, .regs .cnt, .regs .je]
  | .fetch .. | .state .. | .peerSilence .. | .peerClaimReceived .. => [.ports, .journal, .claims, .regs .je]
  | .fwdReturn .. => [.time, .zdp, .ports, .journal, .regs .cnt]
  | .caskWriteComplete .. => [.dict, .zdp, .ports, .journal, .regs .cnt, .regs .je]
  | .eligibilityRestore .. => [.ports, .journal, .regs .je]
  | .forwardRepeat .. => [.ports, .journal]
  | .orderQueueRelease .. => [.time, .journal]
  | .heartbeatReceived .. => [.dict, .fresh, .health, .zdp, .ports, .journal, .claims, .can, .regs .can, .regs .cnt,
    .regs .hl, .regs .cg, .regs .je]
  | .peerLost .. | .ceilingRecompute .. => [.dict, .ports, .claims, .can, .regs .can, .regs .cnt, .regs .cg]
  | .claimSend .. | .leaseRenewal .. | .claimRequest .. => [.ports, .claims, .can, .regs .can, .regs .cnt, .regs .cg]
  | .leaderIndex .. | .epochAdvance .. => [.dict, .outcome, .ports, .claims, .can, .regs .can, .regs .cnt, .regs .cg]
  | .proofTest .. => [.claims, .can, .regs .can, .regs .cnt]
  | .proofResultTimeout .. => [.dict, .fresh, .health, .zdp, .ports, .claims, .regs .cnt, .regs .hl]
  | .gateClaimFrame .. | .leaseExpiry .. => [.dict, .gate, .regs .cnt, .regs .cg]
  | .gateCommandFrame .. | .commandApply .. => [.dict, .fresh, .health, .zdp, .ports, .journal, .gate, .loop, .safety,
    .regs .le, .regs .cnt, .regs .hl, .regs .cg, .regs .sm, .regs .je]
  | .crossCheck .. => [.dict, .fresh, .health, .zdp, .ports, .journal, .gate, .safety, .regs .cnt, .regs .hl, .regs .cg,
    .regs .sm]
  | .noleaseHold .. => [.dict, .fresh, .health, .zdp, .ports, .gate, .regs .le, .regs .cnt, .regs .hl, .regs .cg]
  | .fenceExpiry .. => [.gate, .regs .cg]
  | .gateStatusSend .. => [.gate]
  | .siContactChange .. | .siFilterExpiry .. | .discrepancyTimeout .. | .testSourceCheck .. | .crossLinkExchange ..
    | .safetyWatchdogExpiry .. | .resetPulseRise .. | .resetStuckClear .. | .smHb .. | .hubLost .. | .azFault ..
    | .sector .. | .caTimeout .. | .posPersist .. | .posTimeout .. | .guardTxPeriod .. | .challengeExpiry ..
    | .openBlockExpiry .. | .vio33SGood .. => [.safety]
  | .resetPulseFall .. => [.dict, .fresh, .health, .zdp, .safety, .regs .cnt, .regs .hl]
  | .hubHeartbeat .. | .caStatus .. | .posStatus .. | .azimuth .. | .tripRequest .. | .guardRx .. | .config .. =>
    [.dict, .fresh, .health, .zdp, .ports, .safety, .regs .cnt, .regs .hl, .regs .sm]
  | .safetyStatus .. => [.dict, .safety, .regs .le, .regs .sm]
  | .guardTx .. | .smSend .. => [.safety, .regs .sm]
  | .smRxAck .. | .smDead .. => [.regs .sm]
  | .sessionOpen .. | .seal .. => [.dict, .outcome, .fresh, .health, .zdp, .ports, .safety, .regs .cnt, .regs .hl,
    .regs .sm]
  | .sessionClose .. | .password .. | .passwordReset .. | .testDemand .. => [.dict, .outcome, .safety, .regs .sm]
  | .sessionIdleTimeout .. => [.dict, .safety, .regs .sm]
  | .subintervalRoll .. | .scrubNow .. => [.health]
  | .bankSpareCopyDone .. => [.poisoned, .fresh, .health, .regs .hl]
  | .healthOrder .. => Part.allBut [.latch, .readData, .coreFaults, .time, .safety, .hub, .stages, .regs .tu, .regs .cg,
    .regs .sm, .regs .sup]
  | .hlTest .. => Part.allBut [.mem, .latch, .poisoned, .readData, .coreFaults, .outcome, .time, .journal, .claims,
    .gate, .safety, .hub, .stages, .regs .gauge, .regs .tu, .regs .cg, .regs .sm, .regs .je, .regs .sup]
  | .hlReturn .. => Part.allBut [.latch, .readData, .coreFaults, .time, .journal, .safety, .hub, .stages, .regs .tu,
    .regs .cg, .regs .sm, .regs .je, .regs .sup]
  | .scrubPass .. => [.health, .regs .hl]
  | .alarmRaise .. | .hlRaise .. => [.dict, .fresh, .health, .zdp, .ports, .regs .cnt, .regs .hl]
  | .eventRaise .. => [.fresh, .health, .zdp, .regs .cnt, .regs .hl]
  | .coalesceInterval .. | .traceRaise .. => [.health, .zdp, .regs .cnt, .regs .hl]
  | .cntEvCfgWrite .. | .cntHCfgWrite .. | .clearAll .. | .cntSnap .. | .armAt .. | .snapAtFire .. | .snapPeriodic ..
    | .snapComplete .. => [.regs .cnt]
  | .flashChunk .. | .flashErase .. | .flashCheck .. | .activate .. | .rollbackFloor .. | .keyPin .. => [.outcome, .hub]
  | .bootResult .. => [.dict, .outcome, .fresh, .health, .zdp, .ports, .hub, .regs .cnt, .regs .hl]
  | .datumOrder .. | .layDown .. => [.dict, .outcome, .stages]
  | .frameAlignment .. => [.regs .xl]
  | .txTailWrite .. => [.zdp, .ports, .claims, .gate, .regs .em, .regs .xl, .regs .su, .regs .cnt]
  | .portEnable .. => [.dict, .outcome, .zdp, .ports, .claims, .gate, .regs .em, .regs .xl, .regs .su]
  | .registerRead .. => Part.allBut [.outcome, .gate, .safety, .hub, .fabric, .stages, .pfu]
  | .bankCopyBackDone .. => [.fresh, .health, .regs .hl]

end Sys2Proof

namespace Sys2Proof.Machine

/-- What each command leaves unchanged: every part but those it `touches`. -/
theorem exec_leaves (c : Instr) (s : State) : OutLeaves (partBits c.touches) s (exec c s) := by
  cases c with dsimp only [Instr.touches, exec]
  | hubResetRelease => exact execHubResetRelease_leaves (by decide) (.refl _ _) _ _ _ _ _ _
  | imageVerify => exact execImageVerify_leaves (by decide) (.refl _ _) _
  | replayComplete => exact execReplayComplete_leaves (by decide) (.refl _ _) _
  | porstNLow => exact execPorstNLow_leaves (by decide) (.refl _ _)
  | railBelowReset => exact execRailBelowReset_leaves (by decide) (.refl _ _) _
  | vcoreBelow060 => exact execVcoreBelow060_leaves (by decide) (.refl _ _)
  | referenceLost => exact execReferenceLost_leaves (by decide) (.refl _ _)
  | vsafeGood => exact execVsafeGood_leaves (by decide) (.refl _ _)
  | safetyOvertemp => exact execSafetyOvertemp_leaves (by decide) (.refl _ _)
  | jtagHubReset => exact execJtagHubReset_leaves (by decide) (.refl _ _)
  | jtagTapReset => exact execJtagTapReset_leaves (by decide) (.refl _ _)
  | watchdogEnable => exact execWatchdogEnable_leaves (by decide) (.refl _ _) _
  | watchdogKick => exact execWatchdogKick_leaves (by decide) (.refl _ _) _
  | watchdogExpiry => exact execWatchdogExpiry_leaves (by decide) (.refl _ _)
  | supRestart => exact execSupRestart_leaves (by decide) (.refl _ _) _
  | trialConfirm => exact execTrialConfirm_leaves (by decide) (.refl _ _)
  | trialExpiry => exact execTrialExpiry_leaves (by decide) (.refl _ _)
  | registerWrite => exact execRegisterWrite_leaves (by decide) (.refl _ _) _ _ _ _ _
  | gaugeWindow => exact execGaugeWindow_leaves (by decide) (.refl _ _) _
  | breachEnd => exact execBreachEnd_leaves (by decide) (.refl _ _) _
  | breachAlarm => exact execBreachAlarm_leaves (by decide) (.refl _ _) _
  | refMonitorSample => exact execRefMonitorSample_leaves (by decide) (.refl _ _) _
  | refSample => exact execRefSample_leaves (by decide) (.refl _ _)
  | tempHigh => exact execTempHigh_leaves (by decide) (.refl _ _) _ _
  | dipStart => exact execDipStart_leaves (by decide) (.refl _ _) _
  | dipEnd => exact execDipEnd_leaves (by decide) (.refl _ _) _
  | dipLong => exact execDipLong_leaves (by decide) (.refl _ _)
  | stressUpdate => exact execStressUpdate_leaves (by decide) (.refl _ _) _
  | dailyRecord => exact execDailyRecord_leaves (by decide) (.refl _ _)
  | ageingForecast => exact execAgeingForecast_leaves (by decide) (.refl _ _)
  | kilnRun => exact execKilnRun_leaves (by decide) (.refl _ _)
  | gristAdmit => exact execGristAdmit_leaves (by decide) (.refl _ _) _ _
  | verdictPost => exact execVerdictPost_leaves (by decide) (.refl _ _) _
  | replan => exact execReplan_leaves (by decide) (.refl _ _)
  | tableReplace => exact execTableReplace_leaves (by decide) (.refl _ _)
  | linkStart => exact execLinkStart_leaves (by decide) (.refl _ _) _
  | operationComplete => exact execOperationComplete_leaves (by decide) (.refl _ _) _
  | dmaComplete => exact execDmaComplete_leaves (by decide) (.refl _ _) _
  | tileError => exact execTileError_leaves (by decide) (.refl _ _) _ _ _
  | dieLinkCheckFail => exact execDieLinkCheckFail_leaves (by decide) (.refl _ _) _ _
  | cutoff => exact execCutoff_leaves (by decide) (.refl _ _) _
  | jobDelivery => exact execJobDelivery_leaves (by decide) (.refl _ _) _ _ _
  | tileDrain => exact execTileDrain_leaves (by decide) (.refl _ _) _
  | tileBistStart => exact execTileBistStart_leaves (by decide) (.refl _ _) _
  | tileBistDone => exact execTileBistDone_leaves (by decide) (.refl _ _) _ _ _ _
  | tileOnline => exact execTileOnline_leaves (by decide) (.refl _ _) _
  | pipelineStart => exact execPipelineStart_leaves (by decide) (.refl _ _)
  | tenSecondBoundary => exact execTenSecondBoundary_leaves (by decide) (.refl _ _) _
  | estimationRelease => exact execEstimationRelease_leaves (by decide) (.refl _ _) _
  | visualRelease => exact execVisualRelease_leaves (by decide) (.refl _ _) _
  | planningRelease => exact execPlanningRelease_leaves (by decide) (.refl _ _) _
  | caRelease => exact execCaRelease_leaves (by decide) (.refl _ _)
  | caPublication => exact execCaPublication_leaves (by decide) (.refl _ _) _
  | measurementRecord => exact execMeasurementRecord_leaves (by decide) (.refl _ _) _
  | keypointDatagram => exact execKeypointDatagram_leaves (by decide) (.refl _ _) _ _
  | frameIncomplete => exact execFrameIncomplete_leaves (by decide) (.refl _ _) _
  | cameraLost => exact execCameraLost_leaves (by decide) (.refl _ _) _
  | voteStart => exact execVoteStart_leaves (by decide) (.refl _ _) _
  | tbStep => exact execTbStep_leaves (by decide) (.refl _ _) _
  | tbCountRead => exact execTbCountRead_leaves (by decide) (.refl _ _) _ _
  | tuSnap => exact execTuSnap_leaves (by decide) (.refl _ _)
  | snapshotPeriodic => exact execSnapshotPeriodic_leaves (by decide) (.refl _ _)
  | followOffsetWrite => exact execFollowOffsetWrite_leaves (by decide) (.refl _ _) _ _
  | ptpMessage => exact execPtpMessage_leaves (by decide) (.refl _ _) _ _ _
  | ptpSend => exact execPtpSend_leaves (by decide) (.refl _ _) _ _ _
  | announceTimeout => exact execAnnounceTimeout_leaves (by decide) (.refl _ _) _
  | holdoverEntry => exact execHoldoverEntry_leaves (by decide) (.refl _ _) _
  | holdoverMax => exact execHoldoverMax_leaves (by decide) (.refl _ _) _
  | ppsEdge => exact execPpsEdge_leaves (by decide) (.refl _ _) _ _
  | ppsMissed => exact execPpsMissed_leaves (by decide) (.refl _ _) _
  | ppsOutputPulse => exact execPpsOutputPulse_leaves (by decide) (.refl _ _) _
  | timeOfDayRecord => exact execTimeOfDayRecord_leaves (by decide) (.refl _ _) _ _
  | resync => exact execResync_leaves (by decide) (.refl _ _)
  | timeTrigger => exact execTimeTrigger_leaves (by decide) (.refl _ _) _
  | leSwTrig => exact execLeSwTrig_leaves (by decide) (.refl _ _) _ _
  | activationComplete => exact execActivationComplete_leaves (by decide) (.refl _ _) _
  | leTrajCommit => exact execLeTrajCommit_leaves (by decide) (.refl _ _) _ _
  | trajCopyDone => exact execTrajCopyDone_leaves (by decide) (.refl _ _)
  | trajStaleAlarm => exact execTrajStaleAlarm_leaves (by decide) (.refl _ _)
  | leProgAccess => exact execLeProgAccess_leaves (by decide) (.refl _ _) _ _
  | leRecheck => exact execLeRecheck_leaves (by decide) (.refl _ _)
  | slotEnable => exact execSlotEnable_leaves (by decide) (.refl _ _) _ _
  | slotCommit => exact execSlotCommit_leaves (by decide) (.refl _ _) _
  | commitInstall => exact execCommitInstall_leaves (by decide) (.refl _ _) _
  | slotHandover => exact execSlotHandover_leaves (by decide) (.refl _ _) _
  | slotServiceTest => exact execSlotServiceTest_leaves (by decide) (.refl _ _) _
  | slotSelfTestDone => exact execSlotSelfTestDone_leaves (by decide) (.refl _ _) _ _
  | slotServiceReturn => exact execSlotServiceReturn_leaves (by decide) (.refl _ _) _
  | generatorStart => exact execGeneratorStart_leaves (by decide) (.refl _ _) _
  | generatorStop => exact execGeneratorStop_leaves (by decide) (.refl _ _) _
  | generatorEnd => exact execGeneratorEnd_leaves (by decide) (.refl _ _) _
  | captureArm => exact execCaptureArm_leaves (by decide) (.refl _ _) _
  | captureStop => exact execCaptureStop_leaves (by decide) (.refl _ _) _
  | lauterOutput => exact execLauterOutput_leaves (by decide) (.refl _ _) _ _ _ _
  | clockLost => exact execClockLost_leaves (by decide) (.refl _ _) _
  | clockReturn => exact execClockReturn_leaves (by decide) (.refl _ _) _ _
  | ltSync => exact execLtSync_leaves (by decide) (.refl _ _) _
  | ltSyncArm => exact execLtSyncArm_leaves (by decide) (.refl _ _) _
  | timeAt => exact execTimeAt_leaves (by decide) (.refl _ _)
  | scSyncEdge => exact execScSyncEdge_leaves (by decide) (.refl _ _)
  | definingEdge => exact execDefiningEdge_leaves (by decide) (.refl _ _) _ _
  | swapRequest => exact execSwapRequest_leaves (by decide) (.refl _ _) _ _
  | poolAccess => exact execPoolAccess_leaves (by decide) (.refl _ _) _ _
  | ltRecheck => exact execLtRecheck_leaves (by decide) (.refl _ _)
  | ltChannelEnable => exact execLtChannelEnable_leaves (by decide) (.refl _ _) _ _
  | ltServiceTest => exact execLtServiceTest_leaves (by decide) (.refl _ _) _
  | ltSelfTestDone => exact execLtSelfTestDone_leaves (by decide) (.refl _ _) _ _
  | ltServiceReturn => exact execLtServiceReturn_leaves (by decide) (.refl _ _) _
  | pfEdgeAccept => exact execPfEdgeAccept_leaves (by decide) (.refl _ _) _ _
  | glitch => exact execGlitch_leaves (by decide) (.refl _ _) _ _ _
  | lineOpen => exact execLineOpen_leaves (by decide) (.refl _ _) _ _
  | serialRequest => exact execSerialRequest_leaves (by decide) (.refl _ _) _ _
  | serialWord => exact execSerialWord_leaves (by decide) (.refl _ _) _ _
  | serTimeout => exact execSerTimeout_leaves (by decide) (.refl _ _) _
  | speedUpdate => exact execSpeedUpdate_leaves (by decide) (.refl _ _) _
  | standstill => exact execStandstill_leaves (by decide) (.refl _ _) _
  | emulatedTransition => exact execEmulatedTransition_leaves (by decide) (.refl _ _) _
  | setPos => exact execSetPos_leaves (by decide) (.refl _ _) _ _
  | cmpArm => exact execCmpArm_leaves (by decide) (.refl _ _) _ _ _
  | cmpDisarm => exact execCmpDisarm_leaves (by decide) (.refl _ _) _ _
  | pfEnable => exact execPfEnable_leaves (by decide) (.refl _ _) _ _
  | pfServiceTest => exact execPfServiceTest_leaves (by decide) (.refl _ _) _
  | pfSelfTestDone => exact execPfSelfTestDone_leaves (by decide) (.refl _ _) _ _
  | pfServiceReturn => exact execPfServiceReturn_leaves (by decide) (.refl _ _) _
  | pfInternal => exact execPfInternal_leaves (by decide) (.refl _ _) _
  | oscFault => exact execOscFault_leaves (by decide) (.refl _ _)
  | canEnable => exact execCanEnable_leaves (by decide) (.refl _ _) _ _ _
  | canDisable => exact execCanDisable_leaves (by decide) (.refl _ _) _ _
  | canFrameReceived => exact execCanFrameReceived_leaves (by decide) (.refl _ _) _ _ _
  | segmentGapTimeout => exact execSegmentGapTimeout_leaves (by decide) (.refl _ _) _ _ _ _
  | canRxIrqTimeout => exact execCanRxIrqTimeout_leaves (by decide) (.refl _ _) _
  | canRxTailWrite => exact execCanRxTailWrite_leaves (by decide) (.refl _ _) _ _
  | canTxReq => exact execCanTxReq_leaves (by decide) (.refl _ _) _ _
  | canTxCancel => exact execCanTxCancel_leaves (by decide) (.refl _ _) _ _
  | canTxComplete => exact execCanTxComplete_leaves (by decide) (.refl _ _) _ _ _
  | canArbitrationLost => exact execCanArbitrationLost_leaves (by decide) (.refl _ _) _
  | canBusError => exact execCanBusError_leaves (by decide) (.refl _ _) _ _ _ _
  | canRecover => exact execCanRecover_leaves (by decide) (.refl _ _) _ _
  | recoveryComplete => exact execRecoveryComplete_leaves (by decide) (.refl _ _) _
  | canServiceTest => exact execCanServiceTest_leaves (by decide) (.refl _ _) _ _
  | canSelfTestDone => exact execCanSelfTestDone_leaves (by decide) (.refl _ _) _ _
  | canServiceReturn => exact execCanServiceReturn_leaves (by decide) (.refl _ _) _ _
  | emFrameReceived => exact execEmFrameReceived_leaves (by decide) (.refl _ _) _ _ _ _
  | emFrameSent => exact execEmFrameSent_leaves (by decide) (.refl _ _) _
  | peerFrameReceived => exact execPeerFrameReceived_leaves (by decide) (.refl _ _) _ _
  | suCharacter => exact execSuCharacter_leaves (by decide) (.refl _ _) _ _ _ _ _
  | portServiceTest => exact execPortServiceTest_leaves (by decide) (.refl _ _) _
  | portSelfTestDone => exact execPortSelfTestDone_leaves (by decide) (.refl _ _) _ _
  | portServiceReturn => exact execPortServiceReturn_leaves (by decide) (.refl _ _) _
  | zdpRead => exact execZdpRead_leaves (by decide) (.refl _ _) _ _
  | zdpMetaRead => exact execZdpMetaRead_leaves (by decide) (.refl _ _) _ _
  | zdpWrite => exact execZdpWrite_leaves (by decide) (.refl _ _) _ _
  | zdpOrder => exact execZdpOrder_leaves (by decide) (.refl _ _) _ _
  | zdpSubscribe => exact execZdpSubscribe_leaves (by decide) (.refl _ _) _ _
  | notifyDue => exact execNotifyDue_leaves (by decide) (.refl _ _) _ _
  | notifyIntervalExpiry => exact execNotifyIntervalExpiry_leaves (by decide) (.refl _ _) _ _
  | subscriptionExpiry => exact execSubscriptionExpiry_leaves (by decide) (.refl _ _) _
  | bulkRead => exact execBulkRead_leaves (by decide) (.refl _ _) _ _
  | bulkWriteSegment => exact execBulkWriteSegment_leaves (by decide) (.refl _ _) _ _
  | bulkStagingExpiry => exact execBulkStagingExpiry_leaves (by decide) (.refl _ _) _ _ _
  | requestRateSecond => exact execRequestRateSecond_leaves (by decide) (.refl _ _)
  | fuseOrder => exact execFuseOrder_leaves (by decide) (.refl _ _) _ _ _ _
  | applyReady => exact execApplyReady_leaves (by decide) (.refl _ _)
  | jeApplyData => exact execJeApplyData_leaves (by decide) (.refl _ _) _ _
  | jeApplyDone => exact execJeApplyDone_leaves (by decide) (.refl _ _) _ _
  | applySlow => exact execApplySlow_leaves (by decide) (.refl _ _)
  | jeFetch => exact execJeFetch_leaves (by decide) (.refl _ _)
  | forward => exact execForward_leaves (by decide) (.refl _ _) _ _ _
  | copy => exact execCopy_leaves (by decide) (.refl _ _) _ _ _
  | replay => exact execReplay_leaves (by decide) (.refl _ _) _ _ _
  | image => exact execImage_leaves (by decide) (.refl _ _) _ _ _ _
  | ack => exact execAck_leaves (by decide) (.refl _ _) _ _
  | commit => exact execCommit_leaves (by decide) (.refl _ _) _ _
  | fetch => exact execFetch_leaves (by decide) (.refl _ _) _ _ _
  | state => exact execState_leaves (by decide) (.refl _ _) _ _ _ _
  | fwdReturn => exact execFwdReturn_leaves (by decide) (.refl _ _) _ _ _ _
  | caskWriteComplete => exact execCaskWriteComplete_leaves (by decide) (.refl _ _)
  | stateSend => exact execStateSend_leaves (by decide) (.refl _ _)
  | peerSilence => exact execPeerSilence_leaves (by decide) (.refl _ _) _
  | eligibilityRestore => exact execEligibilityRestore_leaves (by decide) (.refl _ _)
  | forwardRepeat => exact execForwardRepeat_leaves (by decide) (.refl _ _)
  | orderQueueRelease => exact execOrderQueueRelease_leaves (by decide) (.refl _ _)
  | soloEntry => exact execSoloEntry_leaves (by decide) (.refl _ _)
  | forkResolve => exact execForkResolve_leaves (by decide) (.refl _ _) _ _
  | caskFault => exact execCaskFault_leaves (by decide) (.refl _ _) _
  | heartbeatSend => exact execHeartbeatSend_leaves (by decide) (.refl _ _)
  | heartbeatReceived => exact execHeartbeatReceived_leaves (by decide) (.refl _ _) _ _
  | peerLost => exact execPeerLost_leaves (by decide) (.refl _ _) _
  | planSummaryReceived => exact execPlanSummaryReceived_leaves (by decide) (.refl _ _) _ _
  | allocationReceived => exact execAllocationReceived_leaves (by decide) (.refl _ _) _ _
  | peerClaimReceived => exact execPeerClaimReceived_leaves (by decide) (.refl _ _) _ _
  | ceilingRecompute => exact execCeilingRecompute_leaves (by decide) (.refl _ _)
  | claimSend => exact execClaimSend_leaves (by decide) (.refl _ _)
  | leaseRenewal => exact execLeaseRenewal_leaves (by decide) (.refl _ _)
  | leaderIndex => exact execLeaderIndex_leaves (by decide) (.refl _ _) _
  | epochAdvance => exact execEpochAdvance_leaves (by decide) (.refl _ _)
  | proofTest => exact execProofTest_leaves (by decide) (.refl _ _) _ _ _
  | proofResultTimeout => exact execProofResultTimeout_leaves (by decide) (.refl _ _) _ _
  | gateClaimFrame => exact execGateClaimFrame_leaves (by decide) (.refl _ _) _ _
  | gateCommandFrame => exact execGateCommandFrame_leaves (by decide) (.refl _ _) _ _
  | leaseExpiry => exact execLeaseExpiry_leaves (by decide) (.refl _ _) _
  | commandApply => exact execCommandApply_leaves (by decide) (.refl _ _) _
  | crossCheck => exact execCrossCheck_leaves (by decide) (.refl _ _) _
  | noleaseHold => exact execNoleaseHold_leaves (by decide) (.refl _ _)
  | fenceExpiry => exact execFenceExpiry_leaves (by decide) (.refl _ _) _
  | gateStatusSend => exact execGateStatusSend_leaves (by decide) (.refl _ _)
  | siContactChange => exact execSiContactChange_leaves (by decide) (.refl _ _) _ _ _
  | siFilterExpiry => exact execSiFilterExpiry_leaves (by decide) (.refl _ _) _ _
  | discrepancyTimeout => exact execDiscrepancyTimeout_leaves (by decide) (.refl _ _) _
  | testSourceCheck => exact execTestSourceCheck_leaves (by decide) (.refl _ _) _ _ _
  | crossLinkExchange => exact execCrossLinkExchange_leaves (by decide) (.refl _ _)
  | channelFault => exact execChannelFault_leaves (by decide) (.refl _ _)
  | safetyWatchdogExpiry => exact execSafetyWatchdogExpiry_leaves (by decide) (.refl _ _) _
  | switchFault => exact execSwitchFault_leaves (by decide) (.refl _ _) _ _
  | testPulse => exact execTestPulse_leaves (by decide) (.refl _ _) _ _ _
  | resetPulseRise => exact execResetPulseRise_leaves (by decide) (.refl _ _) _ _
  | resetPulseFall => exact execResetPulseFall_leaves (by decide) (.refl _ _) _ _ _
  | resetStuckClear => exact execResetStuckClear_leaves (by decide) (.refl _ _) _
  | smHb => exact execSmHb_leaves (by decide) (.refl _ _)
  | hubHeartbeat => exact execHubHeartbeat_leaves (by decide) (.refl _ _) _ _ _
  | hubLost => exact execHubLost_leaves (by decide) (.refl _ _) _
  | caStatus => exact execCaStatus_leaves (by decide) (.refl _ _) _ _ _
  | posStatus => exact execPosStatus_leaves (by decide) (.refl _ _) _ _ _
  | azimuth => exact execAzimuth_leaves (by decide) (.refl _ _) _ _ _
  | tripRequest => exact execTripRequest_leaves (by decide) (.refl _ _) _ _ _
  | guardRx => exact execGuardRx_leaves (by decide) (.refl _ _) _ _ _ _
  | config => exact execConfig_leaves (by decide) (.refl _ _) _ _ _ _
  | safetyStatus => exact execSafetyStatus_leaves (by decide) (.refl _ _) _
  | guardTx => exact execGuardTx_leaves (by decide) (.refl _ _) _
  | smSend => exact execSmSend_leaves (by decide) (.refl _ _)
  | smRxAck => exact execSmRxAck_leaves (by decide) (.refl _ _)
  | smDead => exact execSmDead_leaves (by decide) (.refl _ _)
  | azFault => exact execAzFault_leaves (by decide) (.refl _ _) _ _
  | sector => exact execSector_leaves (by decide) (.refl _ _) _ _
  | caTimeout => exact execCaTimeout_leaves (by decide) (.refl _ _) _
  | posPersist => exact execPosPersist_leaves (by decide) (.refl _ _) _
  | posTimeout => exact execPosTimeout_leaves (by decide) (.refl _ _) _
  | guardTxPeriod => exact execGuardTxPeriod_leaves (by decide) (.refl _ _) _ _ _
  | guardWatchdog => exact execGuardWatchdog_leaves (by decide) (.refl _ _) _ _
  | sessionOpen => exact execSessionOpen_leaves (by decide) (.refl _ _) _
  | challenge => exact execChallenge_leaves (by decide) (.refl _ _) _ _
  | challengeExpiry => exact execChallengeExpiry_leaves (by decide) (.refl _ _)
  | openBlockExpiry => exact execOpenBlockExpiry_leaves (by decide) (.refl _ _)
  | sessionClose => exact execSessionClose_leaves (by decide) (.refl _ _) _
  | sessionIdleTimeout => exact execSessionIdleTimeout_leaves (by decide) (.refl _ _)
  | password => exact execPassword_leaves (by decide) (.refl _ _) _
  | passwordReset => exact execPasswordReset_leaves (by decide) (.refl _ _) _
  | testDemand => exact execTestDemand_leaves (by decide) (.refl _ _) _
  | transient => exact execTransient_leaves (by decide) (.refl _ _) _ _
  | subintervalRoll => exact execSubintervalRoll_leaves (by decide) (.refl _ _) _
  | permanentFault => exact execPermanentFault_leaves (by decide) (.refl _ _) _ _
  | bankSpareCopyDone => exact execBankSpareCopyDone_leaves (by decide) (.refl _ _) _ _
  | healthOrder => exact execHealthOrder_leaves (by decide) (.refl _ _) _ _
  | hlTest => exact execHlTest_leaves (by decide) (.refl _ _) _
  | hlTestDone => exact execHlTestDone_leaves (by decide) (.refl _ _) _ _
  | hlReturn => exact execHlReturn_leaves (by decide) (.refl _ _) _
  | hlRetire => exact execHlRetire_leaves (by decide) (.refl _ _) _
  | scrubNow => exact execScrubNow_leaves (by decide) (.refl _ _)
  | scrubPass => exact execScrubPass_leaves (by decide) (.refl _ _) _
  | alarmRaise => exact execAlarmRaise_leaves (by decide) (.refl _ _) _ _ _
  | overflowDrain => exact execOverflowDrain_leaves (by decide) (.refl _ _)
  | eventRaise => exact execEventRaise_leaves (by decide) (.refl _ _) _ _ _
  | coalesceInterval => exact execCoalesceInterval_leaves (by decide) (.refl _ _) _
  | traceRaise => exact execTraceRaise_leaves (by decide) (.refl _ _) _ _ _
  | hlRaise => exact execHlRaise_leaves (by decide) (.refl _ _) _ _ _
  | cntEvCfgWrite => exact execCntEvCfgWrite_leaves (by decide) (.refl _ _) _ _
  | cntHCfgWrite => exact execCntHCfgWrite_leaves (by decide) (.refl _ _) _ _
  | clearAll => exact execClearAll_leaves (by decide) (.refl _ _)
  | cntSnap => exact execCntSnap_leaves (by decide) (.refl _ _)
  | armAt => exact execArmAt_leaves (by decide) (.refl _ _)
  | snapAtFire => exact execSnapAtFire_leaves (by decide) (.refl _ _)
  | snapPeriodic => exact execSnapPeriodic_leaves (by decide) (.refl _ _)
  | snapComplete => exact execSnapComplete_leaves (by decide) (.refl _ _)
  | flashChunk => exact execFlashChunk_leaves (by decide) (.refl _ _) _ _
  | flashProgramDone => exact execFlashProgramDone_leaves (by decide) (.refl _ _)
  | flashErase => exact execFlashErase_leaves (by decide) (.refl _ _)
  | flashCheck => exact execFlashCheck_leaves (by decide) (.refl _ _)
  | activate => exact execActivate_leaves (by decide) (.refl _ _) _ _
  | bootResult => exact execBootResult_leaves (by decide) (.refl _ _) _ _
  | rollbackFloor => exact execRollbackFloor_leaves (by decide) (.refl _ _) _
  | keyPin => exact execKeyPin_leaves (by decide) (.refl _ _) _
  | reboot => exact execReboot_leaves (by decide) (.refl _ _)
  | datumOrder => exact execDatumOrder_leaves (by decide) (.refl _ _) _ _
  | layDown => exact execLayDown_leaves (by decide) (.refl _ _) _ _
  | vio33SGood => exact execVio33SGood_leaves (by decide) (.refl _ _)
  | frameAlignment => exact execFrameAlignment_leaves (by decide) (.refl _ _) _ _
  | lineSignalReturn => exact execLineSignalReturn_leaves (by decide) (.refl _ _) _ _
  | txTailWrite => exact execTxTailWrite_leaves (by decide) (.refl _ _) _ _ _
  | portEnable => exact execPortEnable_leaves (by decide) (.refl _ _) _ _ _
  | claimRequest => exact execClaimRequest_leaves (by decide) (.refl _ _) _ _
  | requirementWrite => exact execRequirementWrite_leaves (by decide) (.refl _ _) _ _ _
  | registerRead => exact execRegisterRead_leaves (by decide) (.refl _ _) _ _ _ _
  | flashCheckDone => exact execFlashCheckDone_leaves (by decide) (.refl _ _) _
  | bankCopyBackDone => exact execBankCopyBackDone_leaves (by decide) (.refl _ _) _
  | caskReadThrough => exact execCaskReadThrough_leaves (by decide) (.refl _ _) _ _
  -- The one command left is the seal, whose name is also a keyword of Lean and cannot stand here.
  | _ => exact execSeal_leaves (by decide) (.refl _ _) _

/-- A command leaves every part but those it `touches`. -/
theorem exec_keeps {c : Instr} {s t : State} (e : exec c s = .next t) : Keeps c.touches s t := (exec_leaves c s t e).keeps

end Sys2Proof.Machine
end

section
/-! SUPPORT. ROLE and ROLE_FAULT of SUP_STRAP (R23, R546): no operation but the sampling of the straps writes them. -/

namespace Sys2Proof.Machine

/-- No element of the field's array lies in the register at address `a`. -/
def Field.misses (f : Field) (a : Nat) : Bool :=
  f.fits && decide (a < f.base ∨ f.base + (f.n1 - 1) * (if f.banked then 0 else f.s1) + (f.n2 - 1) * f.s2 < a)

theorem Field.key_ne_of_misses {f : Field} {a : Nat} (h : f.misses a = true) (ha : a < 2 ^ 32) (i j : Nat) {k : Nat}
    (hk : k / 32 = a) : k ≠ f.key i j := by
  simp only [Field.misses, Field.fits, Bool.and_eq_true, decide_eq_true_eq] at h
  obtain ⟨⟨hlo, h1, h2, he, -⟩, hm⟩ := h
  have hi : i % f.n1 ≤ f.n1 - 1 := by have := Nat.mod_lt i h1; omega
  have hj : j % f.n2 * f.s2 ≤ (f.n2 - 1) * f.s2 := by
    have := Nat.mod_lt j h2
    exact Nat.mul_le_mul_right _ (by omega)
  rintro rfl
  unfold Field.key at hk
  cases hb : f.banked with
  | true =>
    simp only [hb, if_true, Nat.mul_zero, Nat.add_zero] at hk hm he
    omega
  | false =>
    simp only [hb, Bool.false_eq_true, if_false] at hk hm he
    have : i % f.n1 * f.s1 ≤ (f.n1 - 1) * f.s1 := Nat.mul_le_mul_right _ hi
    omega

/-- The address of SUP_STRAP. -/
def strapAddr : Nat := 0x400F0004

/-- ROLE and ROLE_FAULT of SUP_STRAP read as before. -/
structure StrapKept (s t : State) : Prop where
  role : t.rd Reg.SUP_STRAP_ROLE = s.rd Reg.SUP_STRAP_ROLE
  fault : t.rd Reg.SUP_STRAP_ROLE_FAULT = s.rd Reg.SUP_STRAP_ROLE_FAULT

/-- The bits of every part but the registers of the supervisor, whose bit is 40. -/
def besideSup : Nat := 2 ^ 42 - 1 - 2 ^ 40

theorem Leaves.strapKept {s t : State} (h : Leaves besideSup s t) : StrapKept s t where
  role := h.regs _ (by decide) _
  fault := h.regs _ (by decide) _

theorem StrapKept.beside {s t u : State} (k : Leaves besideSup t u) (h : StrapKept s t) : StrapKept s u :=
  ⟨k.strapKept.role.trans h.role, k.strapKept.fault.trans h.fault⟩

theorem StrapKept.wr {s t : State} (h : StrapKept s t) (f : Field) (hf : f.misses strapAddr = true) (v i j : Nat) :
    StrapKept s (t.wr f v i j) := by
  have ne (g : Field) (hg : g.key 0 0 / 32 = strapAddr) : (t.wr f v i j).rd g = t.rd g := by
    rw [State.rd_wr, if_neg (Field.key_ne_of_misses hf (by decide) i j hg)]
  exact ⟨(ne _ rfl).trans h.role, (ne _ rfl).trans h.fault⟩

theorem table_misses : ∀ f ∈ Reg.table, f.acc = .ro ∨ f.misses strapAddr = true := by decide +kernel


theorem StrapKept.refl (s : State) : StrapKept s s := ⟨rfl, rfl⟩

/-- What `StrapKept` says of an outcome that is a next state. -/
def OutStrapKept (s : State) (o : Host.Outcome State Fault Refusal) : Prop := ∀ t, o = .next t → StrapKept s t

theorem OutStrapKept.next {s t : State} (h : StrapKept s t) : OutStrapKept s (.next t) := by
  intro u e; cases e; exact h

theorem OutStrapKept.beside {s t : State} {o : Host.Outcome State Fault Refusal} (k : OutLeaves besideSup t o)
    (h : StrapKept s t) : OutStrapKept s o := fun u e => h.beside (k u e)

theorem StrapKept.ite {s t u : State} {c : Prop} [Decidable c] (h : StrapKept s t) (k : StrapKept s u) :
    StrapKept s (if c then t else u) := by
  split
  · exact h
  · exact k

theorem StrapKept.foldl {α : Type} {s t : State} {g : State → α → State}
    (hg : ∀ u x, StrapKept s u → StrapKept s (g u x)) (l : List α) (h : StrapKept s t) : StrapKept s (l.foldl g t) :=
  List.foldlRecOn l g h fun u hu x _ => hg u x hu

theorem StrapKept.of_fst {s t : State} {α : Type} {x : State × α} {a : α} (e : x = (t, a)) (h : StrapKept s x.1) :
    StrapKept s t := by subst e; exact h

theorem StrapKept.of_snd {s t : State} {α : Type} {x : α × State} {a : α} (e : x = (a, t)) (h : StrapKept s x.2) :
    StrapKept s t := by subst e; exact h

theorem StrapKept.nextOr {s t : State} {o : Host.Outcome State Fault Refusal} (h : StrapKept s t)
    (k : OutStrapKept s o) : StrapKept s (nextOr t o) := by
  cases o with
  | next u => exact k u rfl
  | _ => exact h

theorem StrapKept.trial {s t : State} {n : Nat} (h : StrapKept s t) (i : Nat)
    (f : Fin n → State → Host.Outcome State Fault Refusal) (hf : ∀ q u, StrapKept s u → OutStrapKept s (f q u)) :
    StrapKept s (trial t i f) := by
  unfold Machine.trial
  split
  · exact h.nextOr (hf _ _ h)
  · exact h

theorem StrapKept.run {s t : State} (h : StrapKept s t) (f : State → Host.Outcome State Fault Refusal)
    (hf : ∀ u, StrapKept s u → OutStrapKept s (f u)) : StrapKept s (t.run f) := h.nextOr (hf t h)

theorem StrapKept.onBit {s t : State} (h : StrapKept s t) (v b : Nat) (f : State → State)
    (hf : ∀ u, StrapKept s u → StrapKept s (f u)) : StrapKept s (t.onBit v b f) := by
  unfold State.onBit
  split
  · exact hf t h
  · exact h

theorem State.wr_strapKept {s₀ s : State} (h : StrapKept s₀ s) (f : Field) (hf : f.misses strapAddr = true) (v i j : Nat) :
    StrapKept s₀ (s.wr f v i j) := h.wr f hf v i j

theorem State.raise_strapKept {s₀ s : State} (h : StrapKept s₀ s) (f : Field) (hf : f.misses strapAddr = true) (i j : Nat) :
    StrapKept s₀ (s.raise f i j) := h.wr f hf 1 i j

theorem State.put_strapKept {s₀ s : State} (h : StrapKept s₀ s) (f : Field) (hf : f.misses strapAddr = true) (b : Bool)
    (i j : Nat) : StrapKept s₀ (s.put f b i j) := h.wr f hf _ i j

/-! Registers reached by address -/

theorem cellsAt_misses {a core : Nat} {c : Cell} (h : c ∈ cellsAt a core) (ro : c.1.acc ≠ .ro) :
    c.1.misses strapAddr = true := by
  obtain ⟨f, hf, e⟩ := List.mem_filterMap.1 h
  obtain ⟨p, -, rfl⟩ := Option.map_eq_some_iff.1 e
  exact (table_misses f hf).resolve_left ro

theorem State.writeCell_strapKept {s₀ s : State} (h : StrapKept s₀ s) (v : Nat) {c : Cell}
    (hc : c.1.acc ≠ .ro → c.1.misses strapAddr = true) : StrapKept s₀ (s.writeCell v c) := by
  unfold State.writeCell
  split
  case h_1 e => exact h.wr _ (hc (by simp [e])) ..
  case h_2 e => exact h.wr _ (hc (by simp [e])) ..
  case h_3 e =>
    split
    · exact h.wr _ (hc (by simp [e])) ..
    · exact h
  case h_4 => exact h

theorem StrapKept.foldCells {s t : State} {a core : Nat} {l : List Cell} (hl : ∀ c ∈ l, c ∈ cellsAt a core)
    {g : State → Cell → State}
    (hg : ∀ u c, (c.1.acc ≠ .ro → c.1.misses strapAddr = true) → StrapKept s u → StrapKept s (g u c))
    (h : StrapKept s t) : StrapKept s (l.foldl g t) :=
  List.foldlRecOn l g h fun u hu c hc => hg u c (cellsAt_misses (hl c hc)) hu

theorem State.writeCells_strapKept {s₀ s : State} (h : StrapKept s₀ s) (a v : Nat) : StrapKept s₀ (s.writeCells a v) :=
  h.foldCells (fun _ hc => hc) fun _ _ hc k => State.writeCell_strapKept k v hc

theorem State.writeSome_strapKept {s₀ s : State} (h : StrapKept s₀ s) (a v : Nat) (keep : Field → Bool) :
    StrapKept s₀ (s.writeSome a v keep).1 :=
  h.foldCells (fun _ hc => (List.mem_filter.1 hc).1) fun _ _ hc k => State.writeCell_strapKept k v hc

theorem State.journalWrite_strapKept {s₀ s : State} (h : StrapKept s₀ s) (a v : Nat) :
    StrapKept s₀ (s.journalWrite a v) := by
  refine h.foldCells (fun _ hc => hc) fun u c hc k => ?_
  split
  case isTrue e => exact k.wr _ (hc (by rintro ro; simp [ro] at e)) ..
  case isFalse => exact State.writeCell_strapKept k v hc

theorem State.readClears_strapKept {s₀ s : State} (h : StrapKept s₀ s) (a : Nat) : StrapKept s₀ (s.readClears a) := by
  refine h.foldCells (fun _ hc => hc) fun u c hc k => ?_
  split
  case isTrue e => exact k.wr _ (hc (by rintro ro; simp [ro] at e)) ..
  case isFalse => exact k

/-! Registers that follow the dictionary -/

theorem StrapKept.foldFollows {s t : State} {fs : List Follow} (hf : ∀ f ∈ fs, f.field.misses strapAddr = true)
    (p : Follow → Bool) (v : State → Follow → Nat) (i k : Nat) (h : StrapKept s t) :
    StrapKept s ((fs.filter p).foldl (fun u f => u.wr f.field (v u f) i (f.j + k)) t) :=
  List.foldlRecOn _ _ h fun _ hu f hm => hu.wr _ (hf f (List.mem_filter.1 hm).1) ..

theorem State.follow_strapKept {s₀ s : State} (h : StrapKept s₀ s) (o : ObjDef) (i k : Nat) :
    StrapKept s₀ (s.follow o i k) :=
  h.foldFollows (fs := follows) (by decide) _ (fun u f => u.objN o i k / 2 ^ f.shift) i k

theorem State.restoreAction_strapKept {s₀ s : State} (h : StrapKept s₀ s) (o : ObjDef) (i k : Nat) :
    StrapKept s₀ (s.restoreAction o i k) := by
  have hr := h.foldFollows (fs := appliedFollows) (by decide)
    (fun f => f.entry.base == o.base && f.entry.sub == o.sub) (fun u _ => u.objN o i k) i k
  unfold State.restoreAction
  split
  · exact h
  · dsimp only
    split
    · exact .beside (State.loadSectors_leaves (.refl _ _) _ _ (by decide) (by decide) ..) hr
    · exact .beside (State.loadSectors_leaves (.refl _ _) _ _ (by decide) (by decide) ..) hr
    · exact .beside (State.loadSafe_leaves (by decide) (.refl _ _) ..) hr
    · exact hr.wr _ (by decide) ..
    · exact hr

/-! Resets of the hub -/

theorem Map.get_foldl_put_fields (s : State) {fs : List Field} {g : Field} (hg : g ∈ fs)
    (inj : ∀ f ∈ fs, g.key 0 0 = f.key 0 0 → f = g) (m : Map Nat) (d : Nat) :
    Map.get d (fs.foldl (fun m f => Map.put m (f.key 0 0) (s.rd f)) m) (g.key 0 0) = s.rd g := by
  induction fs using List.reverseRecOn with
  | nil => cases hg
  | append_singleton fs f ih =>
    rw [List.foldl_append, List.foldl_cons, List.foldl_nil, Map.get_put]
    split
    case isTrue e => rw [inj f (by simp) e]
    case isFalse ne =>
      have hg : g ∈ fs := by
        rcases List.mem_append.1 hg with h | h
        · exact h
        · exact absurd (List.mem_singleton.1 h ▸ rfl) ne
      exact ih hg fun f hf => inj f (List.mem_append_left _ hf)

theorem keptFields_inj (por : Bool) : ∀ g ∈ keptFields por, ∀ f ∈ keptFields por, g.key 0 0 = f.key 0 0 → f = g := by
  cases por <;> decide

/-- A reset keeps what `keptFields` names (R546). -/
theorem State.cleared_rd (s : State) {por : Bool} {f : Field} (h : f ∈ keptFields por) : (s.cleared por).rd f = s.rd f :=
  Map.get_foldl_put_fields s h (keptFields_inj por f h) _ _

theorem State.cleared_strapKept {s₀ s : State} (h : StrapKept s₀ s) (por : Bool) : StrapKept s₀ (s.cleared por) :=
  ⟨(s.cleared_rd (by simp [keptFields])).trans h.role, (s.cleared_rd (by simp [keptFields])).trans h.fault⟩

theorem State.hubReset_strapKept {s₀ s : State} (h : StrapKept s₀ s) (por : Bool) (cause : Option Nat) :
    StrapKept s₀ (s.hubReset por cause) := by
  have hc := State.cleared_strapKept h (por || (s.hub.held && s.hub.por))
  unfold State.hubReset
  apply State.raise_strapKept _ _ (by decide)
  split
  · exact hc.wr _ (by decide) ..
  · split
    · exact hc.wr _ (by decide) ..
    · exact hc

/-! ### The operations that reach the supervisor's registers -/

theorem execSerialWord_strapKept {s₀ s : State} (h : StrapKept s₀ s) (c : Fin 32) (w : SerWord) :
    OutStrapKept s₀ (execSerialWord c w s) := by
  unfold execSerialWord
  with_reducible repeat' first
    | assumption | apply OutStrapKept.next | apply State.wr_strapKept
    | apply StrapKept.beside (State.serialFail_leaves (by decide) (.refl _ _) ..)
    | apply StrapKept.beside (State.serialGoodWord_leaves (by decide) (.refl _ _) ..) | split | dsimp only
  all_goals decide

theorem execSerTimeout_strapKept {s₀ s : State} (h : StrapKept s₀ s) (c : Fin 32) :
    OutStrapKept s₀ (execSerTimeout c s) := by
  unfold execSerTimeout
  with_reducible repeat' first
    | assumption | apply OutStrapKept.next | apply StrapKept.beside (State.serialFail_leaves (by decide) (.refl _ _) ..)
    | split

theorem State.holdIfExhausted_strapKept {s₀ s : State} (h : StrapKept s₀ s) : StrapKept s₀ s.holdIfExhausted :=
  .ite (State.hubReset_strapKept h ..) h

theorem execSupRestart_strapKept {s₀ s : State} (h : StrapKept s₀ s) (key : Word) :
    OutStrapKept s₀ (execSupRestart key s) := .next (.ite (State.hubReset_strapKept h ..) h)

theorem execTrialConfirm_strapKept {s₀ s : State} (h : StrapKept s₀ s) : OutStrapKept s₀ (execTrialConfirm s) :=
  .next (StrapKept.wr (.beside (Leaves.set_hub (by decide) (.refl _ _) _) h) _ (by decide) ..)

theorem State.recovery_strapKept {s₀ s : State} (h : StrapKept s₀ s) : StrapKept s₀ s.recovery :=
  StrapKept.wr (.beside (State.setHub_leaves (by decide) (.refl _ _) _) h) _ (by decide) ..

theorem State.startBoot_strapKept {s₀ s : State} (h : StrapKept s₀ s) (copies : Nat) :
    StrapKept s₀ (s.startBoot copies) := by
  unfold State.startBoot
  with_reducible repeat' first
    | assumption | apply State.recovery_strapKept
    | apply StrapKept.beside (State.setHub_leaves (by decide) (.refl _ _) ..) | split

theorem execWatchdogEnable_strapKept {s₀ s : State} (h : StrapKept s₀ s) (v : Word) :
    OutStrapKept s₀ (execWatchdogEnable v s) := by
  unfold execWatchdogEnable
  with_reducible repeat' first
    | assumption | apply OutStrapKept.next | apply State.wr_strapKept | split
    | apply StrapKept.beside (Leaves.set_hub (by decide) (.refl _ _) ..)
  all_goals decide

theorem State.retiredBank_strapKept {s₀ s : State} (h : StrapKept s₀ s) (b : Nat) :
    StrapKept s₀ (State.retiredBank s b) := by
  unfold State.retiredBank
  with_reducible repeat' first
    | assumption | apply State.holdIfExhausted_strapKept
    | apply StrapKept.beside (State.addJob_leaves (by decide) (.refl _ _) ..)
    | apply StrapKept.beside (State.alarm_leaves (by decide) (.refl _ _) ..)
    | apply StrapKept.beside (State.bankSpared_leaves (by decide) (.refl _ _) ..)
    | apply StrapKept.beside (State.countSpares_leaves (by decide) (.refl _ _) ..)
    | apply StrapKept.beside (State.endJobs_leaves (by decide) (.refl _ _) ..)
    | apply StrapKept.beside (State.setHealth_leaves (by decide) (.refl _ _) ..) | split | dsimp only

theorem State.ownerRetire_strapKept {s₀ s : State} (h : StrapKept s₀ s) (slot : Nat) (cause : FaultCause) (osn : Nat) :
    StrapKept s₀ (State.ownerRetire s slot cause osn) := by
  unfold State.ownerRetire
  with_reducible repeat' first
    | assumption | apply State.retiredBank_strapKept
    | apply StrapKept.beside (State.canRetire_leaves (by decide) (.refl _ _) ..)
    | apply StrapKept.beside (State.caskFail_leaves (by decide) (.refl _ _) ..)
    | apply StrapKept.beside (State.dieLinkFail_leaves (by decide) (.refl _ _) ..)
    | apply StrapKept.beside (State.loopRetire_leaves (by decide) (.refl _ _) ..)
    | apply StrapKept.beside (State.pfRetire_leaves (by decide) (.refl _ _) ..)
    | apply StrapKept.beside (State.portRetire_leaves (by decide) (.refl _ _) ..)
    | apply StrapKept.beside (State.retireTile_leaves (by decide) (.refl _ _) ..)
    | apply StrapKept.beside (State.retireUnit_leaves (by decide) (.refl _ _) ..)
    | apply StrapKept.beside (State.scRetire_leaves (by decide) (.refl _ _) ..) | split

theorem State.transient_strapKept {s₀ s : State} (h : StrapKept s₀ s) (slot : Nat) (second : Bool) :
    StrapKept s₀ (State.transient s slot second) := by
  unfold State.transient
  with_reducible repeat' first
    | assumption | apply State.ownerRetire_strapKept
    | apply StrapKept.beside (State.unitTransient_leaves (by decide) (.refl _ _) ..) | split | dsimp only

theorem execPermanentFault_strapKept {s₀ s : State} (h : StrapKept s₀ s) (slot : Fin 456) (cause : FaultCause) :
    OutStrapKept s₀ (execPermanentFault slot cause s) := by
  unfold execPermanentFault
  with_reducible repeat' first
    | assumption | apply OutStrapKept.next | apply State.ownerRetire_strapKept | apply State.wr_strapKept
    | apply StrapKept.beside (State.endJobs_leaves (by decide) (.refl _ _) ..)
    | apply StrapKept.beside (State.setUnit_leaves (by decide) (.refl _ _) ..) | split
  all_goals decide

theorem execHlTestDone_strapKept {s₀ s : State} (h : StrapKept s₀ s) (slot : Fin 456) (pass : Bool) :
    OutStrapKept s₀ (execHlTestDone slot pass s) := by
  unfold execHlTestDone
  with_reducible repeat' first
    | assumption | apply OutStrapKept.next | apply State.retiredBank_strapKept
    | apply StrapKept.beside (State.addJob_leaves (by decide) (.refl _ _) ..)
    | apply StrapKept.beside (State.unitTested_leaves (by decide) (.refl _ _) ..) | split | dsimp only

theorem execHlRetire_strapKept {s₀ s : State} (h : StrapKept s₀ s) (slot : Fin 456) :
    OutStrapKept s₀ (execHlRetire slot s) := by
  unfold execHlRetire
  with_reducible repeat' first
    | assumption | apply OutStrapKept.next | apply State.ownerRetire_strapKept | apply State.wr_strapKept | split
  all_goals decide

theorem execCaskReadThrough_strapKept {s₀ s : State} (h : StrapKept s₀ s) (corrected : Nat) (uncorrectable : Bool) :
    OutStrapKept s₀ (execCaskReadThrough corrected uncorrectable s) := by
  unfold execCaskReadThrough
  with_reducible repeat' first
    | assumption | apply OutStrapKept.next | apply State.ownerRetire_strapKept | apply State.transient_strapKept
    | apply StrapKept.foldl | split | intro _

theorem execOverflowDrain_strapKept {s₀ s : State} (h : StrapKept s₀ s) : OutStrapKept s₀ (execOverflowDrain s) := by
  unfold execOverflowDrain
  with_reducible repeat' first
    | assumption | apply OutStrapKept.next | apply State.holdIfExhausted_strapKept
    | apply StrapKept.beside (State.drainOverflow_leaves (by decide) (.refl _ _) ..)
    | apply StrapKept.beside (State.endLostSubs_leaves (by decide) (.refl _ _) ..) | split

theorem State.settingHook_strapKept {s₀ s : State} (h : StrapKept s₀ s) (o : ObjDef) (i k : Nat) :
    StrapKept s₀ (State.settingHook s o i k) := by
  unfold State.settingHook
  with_reducible repeat' first
    | assumption | apply State.follow_strapKept | apply State.raise_strapKept | apply State.wr_strapKept
    | apply StrapKept.beside (State.clearCounters_leaves (by decide) (.refl _ _) ..)
    | apply StrapKept.beside (State.evConfigure_leaves (by decide) (.refl _ _) ..)
    | apply StrapKept.beside (State.histConfigure_leaves (by decide) (.refl _ _) ..)
    | apply StrapKept.beside (State.hookCapArm_leaves (by decide) (.refl _ _) ..)
    | apply StrapKept.beside (State.hookCmp_leaves (by decide) (.refl _ _) ..)
    | apply StrapKept.beside (State.hookEmts_leaves (by decide) (.refl _ _) ..)
    | apply StrapKept.beside (State.hookGen_leaves (by decide) (.refl _ _) ..)
    | apply StrapKept.beside (State.hookGeneral_leaves (by decide) (.refl _ _) ..)
    | apply StrapKept.beside (State.hookPtp_leaves (by decide) (.refl _ _) ..)
    | apply StrapKept.beside (State.hookSnapAt_leaves (by decide) (.refl _ _) ..)
    | apply StrapKept.beside (State.hookSource_leaves (by decide) (.refl _ _) ..)
    | apply StrapKept.beside (State.hookSpare_leaves (by decide) (.refl _ _) ..)
    | apply StrapKept.beside (State.loadProgram_leaves (by decide) (.refl _ _) ..)
    | apply StrapKept.beside (State.poolLoad_leaves (by decide) (.refl _ _) ..)
    | apply StrapKept.beside (State.resolveFork_leaves (by decide) (.refl _ _) ..)
    | apply StrapKept.beside (State.setCap_leaves (by decide) (.refl _ _) ..)
    | apply StrapKept.beside (State.snapRequest_leaves (by decide) (.refl _ _) ..) | split | dsimp only
  all_goals decide

theorem execRailBelowReset_strapKept {s₀ s : State} (h : StrapKept s₀ s) (rail : Rail) :
    OutStrapKept s₀ (execRailBelowReset rail s) := by
  unfold execRailBelowReset
  with_reducible repeat' first
    | assumption | apply OutStrapKept.next | apply State.hubReset_strapKept
    | apply StrapKept.beside (State.safetyEval_leaves (by decide) (.refl _ _) ..)
    | apply StrapKept.beside (State.setSafety_leaves (by decide) (.refl _ _) ..) | split

theorem State.restoreSettings_strapKept {s₀ s : State} (h : StrapKept s₀ s) :
    StrapKept s₀ (State.restoreSettings s) := by
  unfold State.restoreSettings
  with_reducible repeat' first
    | assumption | apply State.follow_strapKept | apply State.settingHook_strapKept | apply StrapKept.foldl | split
    | intro _

theorem State.startTrial_strapKept {s₀ s : State} (h : StrapKept s₀ s) (slot : Nat) :
    StrapKept s₀ (State.startTrial s slot) := by
  unfold State.startTrial
  with_reducible repeat' first
    | assumption | apply State.raise_strapKept | apply State.wr_strapKept
    | apply StrapKept.beside (State.setHub_leaves (by decide) (.refl _ _) ..) | split | dsimp only
  all_goals decide

theorem State.enter_strapKept {s₀ s : State} (h : StrapKept s₀ s) (slot : Nat) : StrapKept s₀ (State.enter s slot) := by
  unfold State.enter
  with_reducible repeat' first
    | assumption | apply State.put_strapKept | apply State.restoreSettings_strapKept | apply State.startTrial_strapKept
    | apply State.wr_strapKept | apply StrapKept.beside (State.loadImage_leaves (by decide) (.refl _ _) ..)
    | apply StrapKept.beside (State.setHub_leaves (by decide) (.refl _ _) ..)
    | apply StrapKept.beside (State.startAlarm_leaves (by decide) (.refl _ _) ..)
    | apply StrapKept.beside (State.takeSettings_leaves (by decide) (.refl _ _) ..) | split
    | apply StrapKept.beside (Leaves.set_zdp (by decide) (.refl _ _) ..)
  all_goals decide

theorem execImageVerify_strapKept {s₀ s : State} (h : StrapKept s₀ s) (readOk : Bool) :
    OutStrapKept s₀ (execImageVerify readOk s) := by
  unfold execImageVerify
  with_reducible repeat' first
    | assumption | apply OutStrapKept.next | apply State.enter_strapKept | apply State.put_strapKept
    | apply State.recovery_strapKept | apply State.wr_strapKept
    | apply StrapKept.beside (State.setHub_leaves (by decide) (.refl _ _) ..) | split | dsimp only
  all_goals decide

theorem State.restoreActions_strapKept {s₀ s : State} (h : StrapKept s₀ s) : StrapKept s₀ (State.restoreActions s) := by
  unfold State.restoreActions
  with_reducible repeat' first
    | assumption | apply State.restoreAction_strapKept | apply StrapKept.foldl
    | apply StrapKept.beside (State.startUnit_leaves (by decide) (.refl _ _) ..) | split | intro _ | dsimp only

theorem execReplayComplete_strapKept {s₀ s : State} (h : StrapKept s₀ s) (bad : List Nat) :
    OutStrapKept s₀ (execReplayComplete bad s) := by
  unfold execReplayComplete
  with_reducible repeat' first
    | assumption | apply OutStrapKept.next | apply State.raise_strapKept | apply State.restoreActions_strapKept
    | apply StrapKept.foldl | apply StrapKept.beside (State.afterReplay_leaves (by decide) (.refl _ _) ..)
    | apply StrapKept.beside (State.loadGate_leaves (by decide) (.refl _ _) ..)
    | apply StrapKept.beside (State.noteOperational_leaves (by decide) (.refl _ _) ..)
    | apply StrapKept.beside (State.readJournal_leaves (by decide) (.refl _ _) ..)
    | apply StrapKept.beside (State.replayOne_leaves (by decide) (.refl _ _) ..)
    | apply StrapKept.beside (State.setGate_leaves (by decide) (.refl _ _) ..)
    | apply StrapKept.beside (State.setHub_leaves (by decide) (.refl _ _) ..) | split | intro _
  all_goals decide

theorem execReboot_strapKept {s₀ s : State} (h : StrapKept s₀ s) : OutStrapKept s₀ (execReboot s) := by
  unfold execReboot
  with_reducible repeat' first
    | assumption | apply OutStrapKept.next | apply State.hubReset_strapKept
    | apply StrapKept.beside (State.answer_leaves (by decide) (.refl _ _) ..) | split

theorem State.applyWrite_strapKept {s₀ s : State} (h : StrapKept s₀ s) (f : Found) (b : List Byte) :
    StrapKept s₀ (State.applyWrite s f b) := by
  unfold State.applyWrite
  with_reducible repeat' first
    | assumption | apply State.hubReset_strapKept | apply State.settingHook_strapKept
    | apply StrapKept.beside (State.flashCheck_leaves (by decide) (.refl _ _) ..)
    | apply StrapKept.beside (State.flashChunk_leaves (by decide) (.refl _ _) ..)
    | apply StrapKept.beside (State.flashErase_leaves (by decide) (.refl _ _) ..)
    | apply StrapKept.beside (State.setEntry_leaves (by decide) (.refl _ _) ..)
    | apply StrapKept.beside (State.writeFollowOffset_leaves (by decide) (.refl _ _) ..) | split | dsimp only

theorem State.spargeWrites_strapKept {s₀ s : State} (h : StrapKept s₀ s) : StrapKept s₀ (State.spargeWrites s) := by
  unfold State.spargeWrites
  with_reducible repeat' first
    | assumption | apply State.settingHook_strapKept | apply StrapKept.foldl
    | apply StrapKept.beside (State.sparge_leaves (by decide) (.refl _ _) ..) | intro _

theorem execDipEnd_strapKept {s₀ s : State} (h : StrapKept s₀ s) (vcore : BitVec 16) :
    OutStrapKept s₀ (execDipEnd vcore s) := by
  unfold execDipEnd
  with_reducible repeat' first
    | assumption | apply OutStrapKept.next | apply State.holdIfExhausted_strapKept | apply State.raise_strapKept
    | apply State.spargeWrites_strapKept | apply State.wr_strapKept
    | apply StrapKept.beside (State.setGauge_leaves (by decide) (.refl _ _) ..)
    | apply StrapKept.beside (State.showTable_leaves (by decide) (.refl _ _) ..)
    | apply StrapKept.beside (State.vcoreReading_leaves (by decide) (.refl _ _) ..) | split | dsimp only
  all_goals decide

theorem State.writeValue_strapKept {s₀ s : State} (h : StrapKept s₀ s)
    (p : Nat) (m : ZdpMsg) (f : Found) (b : List Byte) (seg : Nat) :
    StrapKept s₀ (State.writeValue s p m f b seg) := by
  unfold State.writeValue
  with_reducible repeat' first
    | assumption | apply State.applyWrite_strapKept
    | apply StrapKept.beside (State.hold_leaves (by decide) (.refl _ _) ..)
    | apply StrapKept.beside (State.noteRefusal_leaves (by decide) (.refl _ _) ..)
    | apply StrapKept.beside (State.reply_leaves (by decide) (.refl _ _) ..) | split | dsimp only

theorem State.writeRequest_strapKept {s₀ s : State} (h : StrapKept s₀ s) (p : Nat) (m : ZdpMsg) :
    StrapKept s₀ (s.writeRequest p m) := by
  unfold State.writeRequest
  split
  · exact .beside (State.reply_leaves (by decide) (.refl _ _) ..) h
  · exact State.writeValue_strapKept h ..

theorem State.bulkWrite_strapKept {s₀ s : State} (h : StrapKept s₀ s) (p : Nat) (m : ZdpMsg) :
    StrapKept s₀ (State.bulkWrite s p m) := by
  unfold State.bulkWrite
  with_reducible repeat' first
    | assumption | apply State.writeValue_strapKept
    | apply StrapKept.beside (State.reply_leaves (by decide) (.refl _ _) ..)
    | apply StrapKept.beside (State.setStaging_leaves (by decide) (.refl _ _) ..) | split | dsimp only

theorem State.request_strapKept {s₀ s : State} (h : StrapKept s₀ s) (p : Nat) (m : ZdpMsg) :
    StrapKept s₀ (State.request s p m) := by
  unfold State.request
  with_reducible repeat' first
    | assumption | apply State.bulkWrite_strapKept | apply State.writeRequest_strapKept
    | apply StrapKept.beside (State.bulkRead_leaves (by decide) (.refl _ _) ..)
    | apply StrapKept.beside (State.orderRequest_leaves (by decide) (.refl _ _) ..)
    | apply StrapKept.beside (State.readRequest_leaves (by decide) (.refl _ _) ..)
    | apply StrapKept.beside (State.subscribeRequest_leaves (by decide) (.refl _ _) ..) | split

theorem execZdpRead_strapKept {s₀ s : State} (h : StrapKept s₀ s) (p : PortNo) (m : ZdpMsg) :
    OutStrapKept s₀ (execZdpRead p m s) := by
  unfold execZdpRead State.zdpMessage
  with_reducible repeat' first
    | assumption | apply OutStrapKept.next | apply State.request_strapKept
    | apply StrapKept.beside (State.zdpDrop_leaves (by decide) (.refl _ _) ..)
    | apply StrapKept.beside (State.takeRequest_leaves (by decide) (.refl _ _) ..)
    | split | dsimp only | apply StrapKept.beside (Leaves.set_ports (by decide) (.refl _ _) ..)

theorem State.gristWrite_strapKept {s₀ s : State} (h : StrapKept s₀ s) (core : Fin 4) (a : Nat) (v : Word) :
    StrapKept s₀ (State.gristWrite s core a v) := by
  unfold State.gristWrite
  with_reducible repeat' first
    | assumption | apply StrapKept.onBit | apply StrapKept.run | apply State.writeCells_strapKept
    | apply OutStrapKept.beside (execGristAdmit_leaves (by decide) (.refl _ _) ..)
    | apply OutStrapKept.beside (execReplan_leaves (by decide) (.refl _ _) ..)
    | apply OutStrapKept.beside (execRequirementWrite_leaves (by decide) (.refl _ _) ..) | split | intro _

theorem State.gaugeWrite_strapKept {s₀ s : State} (h : StrapKept s₀ s) (a v : Nat) :
    StrapKept s₀ (State.gaugeWrite s a v) := by
  unfold State.gaugeWrite
  with_reducible repeat' first
    | assumption | apply StrapKept.onBit | apply StrapKept.run | apply State.writeCells_strapKept
    | apply OutStrapKept.beside (execKilnRun_leaves (by decide) (.refl _ _) ..)
    | apply OutStrapKept.beside (execRefSample_leaves (by decide) (.refl _ _) ..) | split | intro _

theorem State.tileWrite_strapKept {s₀ s : State} (h : StrapKept s₀ s) (n a v : Nat) :
    StrapKept s₀ (State.tileWrite s n a v) := by
  unfold State.tileWrite
  with_reducible repeat' first
    | assumption | apply StrapKept.onBit | apply State.writeCells_strapKept | apply StrapKept.trial
    | apply OutStrapKept.beside (execTileBistStart_leaves (by decide) (.refl _ _) ..)
    | apply OutStrapKept.beside (execTileDrain_leaves (by decide) (.refl _ _) ..)
    | apply OutStrapKept.beside (execTileOnline_leaves (by decide) (.refl _ _) ..) | split | intro _

theorem State.scWrite_strapKept {s₀ s : State} (h : StrapKept s₀ s) (c off a v : Nat) :
    StrapKept s₀ (State.scWrite s c off a v) := by
  unfold State.scWrite
  with_reducible repeat' first
    | assumption | apply StrapKept.onBit | apply State.raise_strapKept | apply State.writeCells_strapKept
    | apply State.writeSome_strapKept | apply StrapKept.trial
    | apply OutStrapKept.beside (execLtChannelEnable_leaves (by decide) (.refl _ _) ..)
    | apply OutStrapKept.beside (execLtServiceReturn_leaves (by decide) (.refl _ _) ..)
    | apply OutStrapKept.beside (execLtServiceTest_leaves (by decide) (.refl _ _) ..)
    | apply OutStrapKept.beside (execSwapRequest_leaves (by decide) (.refl _ _) ..) | split | intro _ | dsimp only
  all_goals decide

theorem State.lauterWrite_strapKept {s₀ s : State} (h : StrapKept s₀ s) (core : Fin 4) (a : Nat) (v : Word) :
    StrapKept s₀ (State.lauterWrite s core a v) := by
  unfold State.lauterWrite
  with_reducible repeat' first
    | assumption | apply StrapKept.onBit | apply StrapKept.run | apply State.scWrite_strapKept
    | apply State.writeCells_strapKept | apply StrapKept.beside (State.cmpClear_leaves (by decide) (.refl _ _) ..)
    | apply OutStrapKept.beside (execLtRecheck_leaves (by decide) (.refl _ _) ..)
    | apply OutStrapKept.beside (execLtSync_leaves (by decide) (.refl _ _) ..)
    | apply OutStrapKept.beside (execLtSyncArm_leaves (by decide) (.refl _ _) ..)
    | apply OutStrapKept.beside (execPoolAccess_leaves (by decide) (.refl _ _) ..) | split | intro _ | dsimp only

theorem State.loopWrite_strapKept {s₀ s : State} (h : StrapKept s₀ s) (core : Fin 4) (a : Nat) (v : Word) :
    StrapKept s₀ (State.loopWrite s core a v) := by
  unfold State.loopWrite
  with_reducible repeat' first
    | assumption | apply StrapKept.onBit | apply State.raise_strapKept | apply StrapKept.run
    | apply State.writeCells_strapKept | apply StrapKept.trial
    | apply OutStrapKept.beside (execCaptureArm_leaves (by decide) (.refl _ _) ..)
    | apply OutStrapKept.beside (execCaptureStop_leaves (by decide) (.refl _ _) ..)
    | apply OutStrapKept.beside (execLeProgAccess_leaves (by decide) (.refl _ _) ..)
    | apply OutStrapKept.beside (execLeRecheck_leaves (by decide) (.refl _ _) ..)
    | apply OutStrapKept.beside (execLeSwTrig_leaves (by decide) (.refl _ _) ..)
    | apply OutStrapKept.beside (execLeTrajCommit_leaves (by decide) (.refl _ _) ..) | split | intro _ | dsimp only
  all_goals decide

theorem State.pfcWrite_strapKept {s₀ s : State} (h : StrapKept s₀ s) (c off a v : Nat) :
    StrapKept s₀ (State.pfcWrite s c off a v) := by
  unfold State.pfcWrite
  with_reducible repeat' first
    | assumption | apply StrapKept.onBit | apply State.raise_strapKept | apply State.writeCells_strapKept
    | apply State.writeSome_strapKept | apply StrapKept.trial
    | apply OutStrapKept.beside (execPfEnable_leaves (by decide) (.refl _ _) ..)
    | apply OutStrapKept.beside (execPfServiceReturn_leaves (by decide) (.refl _ _) ..)
    | apply OutStrapKept.beside (execPfServiceTest_leaves (by decide) (.refl _ _) ..)
    | apply OutStrapKept.beside (execSetPos_leaves (by decide) (.refl _ _) ..) | split | intro _ | dsimp only
  all_goals decide

theorem State.pfuWrite_strapKept {s₀ s : State} (h : StrapKept s₀ s) (a v : Nat) :
    StrapKept s₀ (State.pfuWrite s a v) := by
  unfold State.pfuWrite
  with_reducible repeat' first
    | assumption | apply StrapKept.onBit | apply State.pfcWrite_strapKept | apply State.writeCells_strapKept
    | apply StrapKept.trial | apply StrapKept.beside (State.cmpCfg_leaves (by decide) (.refl _ _) ..)
    | apply OutStrapKept.beside (execCmpArm_leaves (by decide) (.refl _ _) ..)
    | apply OutStrapKept.beside (execCmpDisarm_leaves (by decide) (.refl _ _) ..) | split | intro _ | dsimp only

theorem State.timeWrite_strapKept {s₀ s : State} (h : StrapKept s₀ s) (a v : Nat) :
    StrapKept s₀ (State.timeWrite s a v) := by
  unfold State.timeWrite
  with_reducible repeat' first
    | assumption | apply StrapKept.onBit | apply StrapKept.run | apply State.writeCells_strapKept
    | apply StrapKept.trial | apply StrapKept.beside (State.rateWrite_leaves (by decide) (.refl _ _) ..)
    | apply OutStrapKept.beside (execTbStep_leaves (by decide) (.refl _ _) ..)
    | apply OutStrapKept.beside (execTuSnap_leaves (by decide) (.refl _ _) ..) | split | intro _ | dsimp only

theorem State.canCtrlWrite_strapKept {s₀ s : State} (h : StrapKept s₀ s) (n a v : Nat) :
    StrapKept s₀ (State.canCtrlWrite s n a v) := by
  unfold State.canCtrlWrite
  with_reducible repeat' first
    | assumption | apply StrapKept.onBit | apply State.raise_strapKept | apply State.wr_strapKept
    | apply State.writeSome_strapKept | apply StrapKept.trial
    | apply OutStrapKept.beside (execCanDisable_leaves (by decide) (.refl _ _) ..)
    | apply OutStrapKept.beside (execCanEnable_leaves (by decide) (.refl _ _) ..)
    | apply OutStrapKept.beside (execCanRecover_leaves (by decide) (.refl _ _) ..)
    | apply OutStrapKept.beside (execCanServiceReturn_leaves (by decide) (.refl _ _) ..)
    | apply OutStrapKept.beside (execCanServiceTest_leaves (by decide) (.refl _ _) ..) | split | intro _
  all_goals decide

theorem State.canWrite_strapKept {s₀ s : State} (h : StrapKept s₀ s) (a : Nat) (v : Word) :
    StrapKept s₀ (State.canWrite s a v) := by
  unfold State.canWrite
  with_reducible repeat' first
    | assumption | apply State.canCtrlWrite_strapKept | apply State.raise_strapKept | apply State.writeCells_strapKept
    | apply StrapKept.trial | apply StrapKept.beside (State.setCan_leaves (by decide) (.refl _ _) ..)
    | apply OutStrapKept.beside (execCanRxTailWrite_leaves (by decide) (.refl _ _) ..)
    | apply OutStrapKept.beside (execCanTxCancel_leaves (by decide) (.refl _ _) ..)
    | apply OutStrapKept.beside (execCanTxReq_leaves (by decide) (.refl _ _) ..) | split | intro _ | dsimp only
  all_goals decide

theorem State.emWrite_strapKept {s₀ s : State} (h : StrapKept s₀ s) (a : Nat) (v : Word) :
    StrapKept s₀ (State.emWrite s a v) := by
  unfold State.emWrite
  with_reducible repeat' first
    | assumption | apply OutStrapKept.next | apply State.raise_strapKept | apply State.writeCells_strapKept
    | apply State.writeSome_strapKept | apply StrapKept.trial
    | apply StrapKept.beside (State.portCtrl_leaves (by decide) (.refl _ _) ..)
    | apply StrapKept.beside (State.tailWrite_leaves (.refl _ _) _ _ (by decide) ..)
    | apply OutStrapKept.beside (execTxTailWrite_leaves (by decide) (.refl _ _) ..) | split | intro _ | dsimp only
  all_goals decide

theorem State.xlWrite_strapKept {s₀ s : State} (h : StrapKept s₀ s) (a : Nat) (v : Word) :
    StrapKept s₀ (State.xlWrite s a v) := by
  unfold State.xlWrite
  with_reducible repeat' first
    | assumption | apply State.raise_strapKept | apply State.writeCells_strapKept | apply StrapKept.trial
    | apply StrapKept.beside (State.portCtrl_leaves (by decide) (.refl _ _) ..)
    | apply StrapKept.beside (State.tailWrite_leaves (.refl _ _) _ _ (by decide) ..)
    | apply OutStrapKept.beside (execTxTailWrite_leaves (by decide) (.refl _ _) ..) | split | intro _ | dsimp only
  all_goals decide

theorem State.suWrite_strapKept {s₀ s : State} (h : StrapKept s₀ s) (a : Nat) (v : Word) :
    StrapKept s₀ (State.suWrite s a v) := by
  unfold State.suWrite
  with_reducible repeat' first
    | assumption | apply State.raise_strapKept | apply State.writeCells_strapKept | apply State.writeSome_strapKept
    | apply StrapKept.trial | apply StrapKept.beside (State.portCtrl_leaves (by decide) (.refl _ _) ..)
    | apply StrapKept.beside (State.tailWrite_leaves (.refl _ _) _ _ (by decide) ..)
    | apply OutStrapKept.beside (execTxTailWrite_leaves (by decide) (.refl _ _) ..) | split | intro _ | dsimp only
  all_goals decide

theorem State.cntWrite_strapKept {s₀ s : State} (h : StrapKept s₀ s) (a : Nat) (v : Word) :
    StrapKept s₀ (State.cntWrite s a v) := by
  unfold State.cntWrite
  with_reducible repeat' first
    | assumption | apply StrapKept.onBit | apply StrapKept.run | apply State.writeCells_strapKept
    | apply StrapKept.trial | apply OutStrapKept.beside (execArmAt_leaves (by decide) (.refl _ _) ..)
    | apply OutStrapKept.beside (execClearAll_leaves (by decide) (.refl _ _) ..)
    | apply OutStrapKept.beside (execCntEvCfgWrite_leaves (by decide) (.refl _ _) ..)
    | apply OutStrapKept.beside (execCntHCfgWrite_leaves (by decide) (.refl _ _) ..)
    | apply OutStrapKept.beside (execCntSnap_leaves (by decide) (.refl _ _) ..) | split | intro _ | dsimp only

theorem State.healthWrite_strapKept {s₀ s : State} (h : StrapKept s₀ s) (core : Fin 4) (a : Nat) (v : Word) :
    StrapKept s₀ (State.healthWrite s core a v) := by
  unfold State.healthWrite
  with_reducible repeat' first
    | assumption | apply StrapKept.onBit | apply StrapKept.run | apply State.writeCells_strapKept
    | apply execHlRetire_strapKept | apply StrapKept.trial
    | apply OutStrapKept.beside (execHlRaise_leaves (by decide) (.refl _ _) ..)
    | apply OutStrapKept.beside (execHlReturn_leaves (by decide) (.refl _ _) ..)
    | apply OutStrapKept.beside (execHlTest_leaves (by decide) (.refl _ _) ..)
    | apply OutStrapKept.beside (execScrubNow_leaves (by decide) (.refl _ _) ..) | split | intro _

theorem State.claimWrite_strapKept {s₀ s : State} (h : StrapKept s₀ s) (core : Fin 4) (a : Nat) (v : Word) :
    StrapKept s₀ (State.claimWrite s core a v) := by
  unfold State.claimWrite
  with_reducible repeat' first
    | assumption | apply StrapKept.onBit | apply StrapKept.run | apply State.writeCells_strapKept
    | apply OutStrapKept.beside (execClaimRequest_leaves (by decide) (.refl _ _) ..)
    | apply OutStrapKept.beside (execClaimSend_leaves (by decide) (.refl _ _) ..) | split | intro _

theorem State.mailboxWrite_strapKept {s₀ s : State} (h : StrapKept s₀ s) (a v : Nat) :
    StrapKept s₀ (State.mailboxWrite s a v) := by
  unfold State.mailboxWrite
  with_reducible repeat' first
    | assumption | apply StrapKept.onBit | apply StrapKept.run | apply State.writeCells_strapKept
    | apply OutStrapKept.beside (execSmHb_leaves (by decide) (.refl _ _) ..)
    | apply OutStrapKept.beside (execSmRxAck_leaves (by decide) (.refl _ _) ..)
    | apply OutStrapKept.beside (execSmSend_leaves (by decide) (.refl _ _) ..) | split | intro _

theorem State.supWrite_strapKept {s₀ s : State} (h : StrapKept s₀ s) (core : Fin 4) (a : Nat) (v : Word) :
    StrapKept s₀ (State.supWrite s core a v) := by
  unfold State.supWrite
  with_reducible repeat' first
    | assumption | apply StrapKept.onBit | apply StrapKept.run | apply State.writeCells_strapKept
    | apply execSupRestart_strapKept | apply execTrialConfirm_strapKept | apply execWatchdogEnable_strapKept
    | apply OutStrapKept.beside (execWatchdogKick_leaves (by decide) (.refl _ _) ..) | split | intro _

theorem State.applyData_strapKept {s₀ s : State} (h : StrapKept s₀ s) (core : Fin 4) (a : Nat) (v : Word) :
    StrapKept s₀ (State.applyData s core a v) := by
  unfold State.applyData
  with_reducible repeat' first
    | assumption | apply State.claimWrite_strapKept | apply State.journalWrite_strapKept
    | apply State.loopWrite_strapKept | apply StrapKept.onBit | apply StrapKept.trial
    | apply StrapKept.beside (State.slotCtrl_leaves (by decide) (.refl _ _) ..)
    | apply OutStrapKept.beside (execGeneratorStart_leaves (by decide) (.refl _ _) ..)
    | apply OutStrapKept.beside (execGeneratorStop_leaves (by decide) (.refl _ _) ..) | split | intro _ | dsimp only

theorem execJeApplyData_strapKept {s₀ s : State} (h : StrapKept s₀ s) (core : Fin 4) (v : Word) :
    OutStrapKept s₀ (execJeApplyData core v s) := by
  unfold execJeApplyData
  with_reducible repeat' first
    | assumption | apply OutStrapKept.next | apply State.applyData_strapKept | apply State.raise_strapKept
    | apply State.wr_strapKept | split | dsimp only
  all_goals decide

theorem State.journalBlockWrite_strapKept {s₀ s : State} (h : StrapKept s₀ s) (core : Fin 4) (a : Nat) (v : Word) :
    StrapKept s₀ (State.journalBlockWrite s core a v) := by
  unfold State.journalBlockWrite
  with_reducible repeat' first
    | assumption | apply StrapKept.onBit | apply StrapKept.run | apply State.writeCells_strapKept
    | apply execJeApplyData_strapKept | apply OutStrapKept.beside (execJeApplyDone_leaves (by decide) (.refl _ _) ..)
    | apply OutStrapKept.beside (execJeFetch_leaves (by decide) (.refl _ _) ..) | split | intro _

theorem State.registerWrite_strapKept {s₀ s : State} (h : StrapKept s₀ s) (core : Fin 4) (a : Nat) (v : Word) :
    StrapKept s₀ (State.registerWrite s core a v) := by
  unfold State.registerWrite
  with_reducible repeat' first
    | assumption | apply State.canWrite_strapKept | apply State.claimWrite_strapKept | apply State.cntWrite_strapKept
    | apply State.emWrite_strapKept | apply State.gaugeWrite_strapKept | apply State.gristWrite_strapKept
    | apply State.healthWrite_strapKept | apply State.journalBlockWrite_strapKept | apply State.lauterWrite_strapKept
    | apply State.loopWrite_strapKept | apply State.mailboxWrite_strapKept | apply State.pfuWrite_strapKept
    | apply State.suWrite_strapKept | apply State.supWrite_strapKept | apply State.timeWrite_strapKept
    | apply State.xlWrite_strapKept | split | apply StrapKept.beside (Leaves.set_latch (by decide) (.refl _ _) ..)

theorem execRegisterWrite_strapKept {s₀ s : State} (h : StrapKept s₀ s)
    (core : Fin 4) (mode : CoreMode) (width : BitVec 8) (addr : Word) (v : BitVec 64) :
    OutStrapKept s₀ (execRegisterWrite core mode width addr v s) := by
  unfold execRegisterWrite
  with_reducible repeat' first
    | assumption | apply OutStrapKept.next | apply State.registerWrite_strapKept | apply State.tileWrite_strapKept
    | apply StrapKept.beside (State.accessFault_leaves (by decide) (.refl _ _) ..)
    | apply StrapKept.beside (State.poke_leaves (by decide) (.refl _ _) ..) | split | dsimp only

theorem State.registerRead_strapKept {s₀ s : State} (h : StrapKept s₀ s) (core : Fin 4) (a : Nat) :
    StrapKept s₀ (State.registerRead s core a) := by
  unfold State.registerRead
  with_reducible repeat' first
    | assumption | apply State.readClears_strapKept | apply StrapKept.run | apply StrapKept.trial
    | apply StrapKept.beside (State.gave_leaves (by decide) (.refl _ _) ..)
    | apply StrapKept.beside (State.latched_leaves (by decide) (.refl _ _) ..)
    | apply OutStrapKept.beside (execLeProgAccess_leaves (by decide) (.refl _ _) ..)
    | apply OutStrapKept.beside (execPoolAccess_leaves (by decide) (.refl _ _) ..)
    | apply OutStrapKept.beside (execTbCountRead_leaves (by decide) (.refl _ _) ..) | split | intro _

theorem execRegisterRead_strapKept {s₀ s : State} (h : StrapKept s₀ s)
    (core : Fin 4) (mode : CoreMode) (width : BitVec 8) (addr : Word) :
    OutStrapKept s₀ (execRegisterRead core mode width addr s) := by
  unfold execRegisterRead
  with_reducible repeat' first
    | assumption | apply OutStrapKept.next | apply State.readClears_strapKept | apply State.registerRead_strapKept
    | apply StrapKept.beside (State.accessFault_leaves (by decide) (.refl _ _) ..)
    | apply StrapKept.beside (State.gave_leaves (by decide) (.refl _ _) ..) | split | dsimp only

/-! ### All commands -/

theorem Keeps.strapKept {ps : List Part} {s t : State} (h : Keeps ps s t) (sup : Part.regs .sup ∉ ps) : StrapKept s t where
  role := h.regs _ _ _ sup
  fault := h.regs _ _ _ sup

/-- The release of the hub reset is the one command that may change the role: it samples the straps (R23). -/
theorem exec_strapKept {c : Instr} {s t : State}
    (release : ∀ te ro pr cal bad cp, c ≠ .hubResetRelease te ro pr cal bad cp) (e : exec c s = .next t) :
    StrapKept s t := by
  have r : StrapKept s s := .refl s
  cases c with
  | hubResetRelease => exact (release _ _ _ _ _ _ rfl).elim
  | imageVerify => exact execImageVerify_strapKept r _ t e
  | replayComplete => exact execReplayComplete_strapKept r _ t e
  | porstNLow | referenceLost | vcoreBelow060 => exact OutStrapKept.next (State.hubReset_strapKept r ..) t e
  | jtagHubReset =>
    exact OutStrapKept.next (State.hubReset_strapKept (r.beside (Leaves.set_hub (by decide) (.refl _ _) _)) ..) t e
  | railBelowReset => exact execRailBelowReset_strapKept r _ t e
  | watchdogEnable => exact execWatchdogEnable_strapKept r _ t e
  | watchdogExpiry | trialExpiry => exact OutStrapKept.next (.ite (State.hubReset_strapKept r ..) r) t e
  | supRestart => exact execSupRestart_strapKept r _ t e
  | trialConfirm => exact execTrialConfirm_strapKept r t e
  | registerWrite => exact execRegisterWrite_strapKept r _ _ _ _ _ t e
  | registerRead => exact execRegisterRead_strapKept r _ _ _ _ t e
  | jeApplyData => exact execJeApplyData_strapKept r _ _ t e
  | dipEnd => exact execDipEnd_strapKept r _ t e
  | serialWord => exact execSerialWord_strapKept r _ _ t e
  | serTimeout => exact execSerTimeout_strapKept r _ t e
  | zdpRead | zdpMetaRead | zdpWrite | zdpOrder | zdpSubscribe | bulkRead | bulkWriteSegment | followOffsetWrite
  | forkResolve | challenge => exact execZdpRead_strapKept r _ _ t e
  | transient => exact OutStrapKept.next (State.transient_strapKept r ..) t e
  | permanentFault => exact execPermanentFault_strapKept r _ _ t e
  | hlTestDone => exact execHlTestDone_strapKept r _ _ t e
  | hlRetire => exact execHlRetire_strapKept r _ t e
  | caskReadThrough => exact execCaskReadThrough_strapKept r _ _ t e
  | overflowDrain => exact execOverflowDrain_strapKept r t e
  | reboot => exact execReboot_strapKept r t e
  | _ => exact (exec_keeps e).strapKept (by dsimp only [Instr.touches]; decide)

theorem State.roleOk_of_strapKept {s t : State} (h : StrapKept s t) : t.roleOk = s.roleOk := by
  simp only [State.roleOk, State.role, State.flag, h.role, h.fault]

theorem State.readObj_role (s : State) : s.readObj Obj.NODE_ROLE 0 0 = .num s.role := rfl

/-- Settles O52: every command but the release of the hub reset keeps ROLE, which is what 0x1001.01 reads. -/
theorem roleFixedInService : Obligations.RoleFixedInService := by
  intro c s t release e
  have h : t.role = s.role := (exec_strapKept release e).role
  exact ⟨h, h ▸ t.readObj_role⟩

theorem State.sampleStraps_strapKept (s : State) (role profile : Nat) :
    StrapKept ((s.wr Reg.SUP_STRAP_ROLE (if role == 0 then 3 else role)).put Reg.SUP_STRAP_ROLE_FAULT (role == 0))
      (s.sampleStraps role profile) :=
  ((StrapKept.refl _).wr _ (by decide) ..).wr _ (by decide) ..

theorem State.sampleStraps_role (s : State) (role profile : Nat) :
    (s.sampleStraps role profile).role = (if role == 0 then 3 else role) % 2 ^ 2 := by
  rw [State.role, (s.sampleStraps_strapKept role profile).role, State.put, State.rd_wr, if_neg (by decide),
    State.rd_wr_self]
  rfl

theorem State.sampleStraps_roleFault (s : State) (role profile : Nat) :
    (s.sampleStraps role profile).flag Reg.SUP_STRAP_ROLE_FAULT = (role == 0) := by
  rw [State.flag, (s.sampleStraps_strapKept role profile).fault, State.put, State.rd_wr_self]
  cases role == 0 <;> rfl

/-- An invalid ROLE strap makes the role BENCH and sets ROLE_FAULT; the three others are roles (R2, R23). -/
theorem State.sampleStraps_roleOk (s : State) (role : BitVec 2) (profile : Nat) :
    (s.sampleStraps role.toNat profile).roleOk = true := by
  rw [State.roleOk, State.sampleStraps_role, State.sampleStraps_roleFault]
  revert role
  decide

/-- The release samples the straps after a power-on reset and keeps them after any other (R546); what it does then keeps
them. -/
theorem execHubResetRelease_strapKept {s : State} (h : s.roleOk = true) (te : Bool) (role : BitVec 2) (profile : BitVec 3)
    (cal : Option Calibration) (bad : List (Fin 456)) (copies : BitVec 2) :
    ∃ u : State, u.roleOk = true ∧ OutStrapKept u (execHubResetRelease te role profile cal bad copies s) := by
  unfold execHubResetRelease
  split
  · exact ⟨s, h, .next (.refl s)⟩
  · extract_lets por s₁ s₂ s₃ s₄ s₅ s₆ s₇ s₈ s₉
    have h₂ : StrapKept s s₂ :=
      StrapKept.wr (.beside (State.setHub_leaves (by decide) (Leaves.set_time (by decide) (.refl _ _) _) _) (.refl s))
        _ (by decide) ..
    have h₃ : s₃.roleOk = true := by
      unfold s₃
      split
      · exact State.sampleStraps_roleOk ..
      · exact (State.roleOk_of_strapKept h₂).trans h
    have h₅ : StrapKept s₃ s₅ :=
      StrapKept.wr (.beside (State.takeIdentity_leaves (by decide) (State.takeClasses_leaves (by decide) (.refl _ _)))
        (.refl s₃)) _ (by decide) ..
    have h₆ : StrapKept s₃ s₆ := .ite (.beside (State.alarm_leaves (by decide) (.refl _ _) ..) h₅) h₅
    have h₇ : StrapKept s₃ s₇ := .ite (.beside (State.alarm_leaves (by decide) (.refl _ _) ..) h₆) h₆
    have h₉ : StrapKept s₃ s₉ :=
      .beside (State.startGauge_leaves (by decide) (State.startHealth_leaves (by decide) (.refl _ _) _) _) h₇
    have hl : Leaves besideSup s₉ s₉.recheck.ltRecheck :=
      State.ltRecheck_leaves (by decide) (State.recheck_leaves (by decide) (.refl _ _))
    exact ⟨s₃, h₃, .next (State.startBoot_strapKept (h₉.beside hl) _)⟩

theorem execHubResetRelease_roleOk {s t : State} (h : s.roleOk = true) {te : Bool} {role : BitVec 2} {profile : BitVec 3}
    {cal : Option Calibration} {bad : List (Fin 456)} {copies : BitVec 2}
    (e : execHubResetRelease te role profile cal bad copies s = .next t) : t.roleOk = true := by
  obtain ⟨u, hu, k⟩ := execHubResetRelease_strapKept h te role profile cal bad copies
  exact (State.roleOk_of_strapKept (k t e)).trans hu

theorem step_roleOk {s t : State} (h : s.roleOk = true) (e : step s = .next t) : t.roleOk = true := by
  unfold step at e
  split at e
  next =>
    cases e
    exact (State.roleOk_of_strapKept (State.tick_leaves (by decide) (.refl _ s)).strapKept).trans h
  next c rest _ =>
    by_cases release : ∃ te ro pr cal bad cp, c = .hubResetRelease te ro pr cal bad cp
    case pos =>
      obtain ⟨te, ro, pr, cal, bad, cp, rfl⟩ := release
      exact execHubResetRelease_roleOk (s := { s with pending := rest }) h e
    case neg =>
      have k : StrapKept { s with pending := rest } t :=
        exec_strapKept (fun te ro pr cal bad cp x => release ⟨te, ro, pr, cal, bad, cp, x⟩) e
      exact (State.roleOk_of_strapKept k).trans h

/-- Settles O51: a step keeps ROLE and ROLE_FAULT, or samples the straps anew at the release of the reset. -/
theorem roleAlwaysReadsValid : Obligations.RoleAlwaysReadsValid := fun _ _ h e => step_roleOk h e

end Sys2Proof.Machine
end

section
/-! SUPPORT. Accesses to the register blocks that are no aligned words (R19). -/

namespace Sys2Proof.Machine

theorem areaAt_registers {a : Nat} (h : 0x40000000 ≤ a ∧ a < 0x40100000) : areaAt a = .blocks ∨ areaAt a = .supervisor := by
  unfold areaAt
  by_cases hb : a < 0x400F0000
  · left
    rw [if_neg (by omega), if_neg (by omega), if_neg (by omega), if_neg (by omega), if_pos (by omega)]
  · right
    rw [if_neg (by omega), if_neg (by omega), if_neg (by omega), if_neg (by omega), if_neg (by omega), if_pos (by omega)]

/-- No protection rule comes before the check of width and alignment with another cause (R18, R19). -/
theorem State.accessCause_of_misfit (s : State) (mode : CoreMode) (write : Bool) {n a : Nat}
    (h : 0x40000000 ≤ a ∧ a < 0x40100000) (misfit : n ≠ 4 ∨ a % 4 ≠ 0) :
    s.accessCause mode write n a = some .access := by
  have hm : (n != 4 || a % 4 != 0) = true := by simpa using misfit
  unfold State.accessCause
  obtain e | e := areaAt_registers h <;> simp [e, hm]

/-- An access whose meaning is a fault records it for its core and changes nothing else. -/
theorem Does.accessFault {i : Instr} {s : State} {core : Fin 4} {cause : AccessCause} {a : Nat}
    (e : exec i s = .next (s.accessFault core cause a)) :
    Does i s [.coreFaults] fun t => Map.get none t.coreFaults core = some ⟨cause, a⟩ :=
  .of e (e ▸ .next (State.accessFault_leaves (by decide) (.refl _ _) ..)) (Map.get_put_self ..)

/-- Settles O57: in the register blocks a width other than 32 bits, or a misaligned address, is an access fault. -/
theorem registersTakeAlignedWords : Obligations.RegistersTakeAlignedWords := by
  constructor
  · intro s core mode width addr v range misfit
    apply Does.accessFault
    change execRegisterWrite core mode width addr v s = _
    simp only [execRegisterWrite, s.accessCause_of_misfit mode true range misfit]
  · intro s core mode width addr range misfit
    apply Does.accessFault
    change execRegisterRead core mode width addr s = _
    simp only [execRegisterRead, s.accessCause_of_misfit mode false range misfit]

end Sys2Proof.Machine
end

section
/-! SUPPORT. A request that the dictionary gate takes, its reply, and the entry of the node identifier (R24, R386 to R390). -/

namespace Sys2Proof.Machine

theorem exec_of_mem_zdpCommands {c : Instr} {p : PortNo} {m : ZdpMsg} (h : c ∈ zdpCommands p m) (s : State) :
    exec c s = .next (s.zdpMessage p m State.request) := by
  simp only [zdpCommands, List.mem_cons, List.not_mem_nil, or_false] at h
  rcases h with rfl | rfl | rfl | rfl | rfl | rfl | rfl | rfl | rfl | rfl <;> rfl

theorem State.zdpMessage_of_gateTakes {s : State} {p : Nat} {m : ZdpMsg} (h : s.gateTakes p m = true)
    (f : State → Nat → ZdpMsg → State) : s.zdpMessage p m f = f (s.taken p) p m := by
  simp only [State.gateTakes, Bool.and_eq_true, Bool.or_eq_true, Bool.not_eq_true', bne_iff_ne, beq_iff_eq,
    decide_eq_true_eq] at h
  obtain ⟨⟨⟨⟨served, form⟩, kind⟩, rate⟩, any⟩ := h
  have served : ¬(!s.zdpServed p) = true := by simp [served]
  have form : ¬s.zdpRefuses p m = true := by simp [form]
  have any : ¬(s.dstKind m = 3 ∧ m.kind ≠ 1) := by tauto
  exact (if_neg served).trans <| (if_neg form).trans <| (if_neg kind).trans <| (if_neg (Nat.not_le.2 rate)).trans (if_neg any)

theorem State.latency_zdp (s : State) (src : Nat) (inst : Option Nat) (t0 t1 : Nat) :
    (s.latency src inst t0 t1).zdp = s.zdp :=
  (State.latency_leaves (P := 34359738368) (by decide) (.refl _ s) ..).zdp (by decide)

theorem State.count_zdp (s : State) (e : Nat) (i : Option Nat) : (s.count e i).zdp = s.zdp :=
  (State.count_leaves (P := 34359738368) (by decide) (.refl _ s) ..).zdp (by decide)

theorem State.sendReply_out (s : State) (z : ZdpOut) : (s.sendReply z).zdp.out =
    s.zdp.out ++ (if z.status = 0 ∨ Map.get 0 s.zdp.refusals z.port < 100 then [z] else []) := by
  unfold State.sendReply
  by_cases ok : z.status = 0
  · simp [ok, State.sendZdp]
  · by_cases few : Map.get 0 s.zdp.refusals z.port < 100 <;> simp [ok, few, State.sendZdp, State.count_zdp]

theorem State.sendReply_refused (s : State) (z : ZdpOut) : Map.get 0 (s.sendReply z).zdp.refused z.port =
    Map.get 0 s.zdp.refused z.port + (if z.status = 0 then 0 else 1) := by
  unfold State.sendReply
  by_cases ok : z.status = 0
  · simp [ok, State.sendZdp]
  · by_cases few : Map.get 0 s.zdp.refusals z.port < 100 <;>
      simp [ok, few, State.sendZdp, State.count_zdp, Map.upd, Map.get_put_self]

/-- A reply to a request taken answers it (R388, R389, R390). -/
theorem State.answered_reply (s : State) (p : Nat) (m : ZdpMsg) (status : Nat) (body : List Byte) (flags seg : Nat) :
    s.answered ((s.taken p).reply p m status body flags seg) p m status body flags seg := by
  have out : (s.taken p).zdp.out = s.zdp.out := by simp only [State.taken, State.takeRequest, State.count_zdp]
  have refusals : (s.taken p).zdp.refusals = s.zdp.refusals := by
    simp only [State.taken, State.takeRequest, State.count_zdp]
  have refused : (s.taken p).zdp.refused = s.zdp.refused := by
    simp only [State.taken, State.takeRequest, State.count_zdp]
  unfold State.reply
  constructor
  · rw [State.sendReply_out, State.latency_zdp, out, refusals]
  · rw [State.sendReply_refused, State.latency_zdp, refused]

theorem State.reply_dict (s : State) (p : Nat) (m : ZdpMsg) (status : Nat) (body : List Byte) (flags seg : Nat) :
    (s.reply p m status body flags seg).dict = s.dict :=
  (State.reply_leaves (P := 34359742464) (by decide) (.refl _ s) ..).dict (by decide)

theorem State.taken_dict (s : State) (p : Nat) : (s.taken p).dict = s.dict :=
  (State.takeRequest_leaves (P := 34359742464) (by decide) (.refl _ _) ..).dict (by decide)

/-- The first checks pass for the entry that the index and subindex name. -/
theorem State.lookup_of_firstChecks {s : State} {p : Nat} {m : ZdpMsg} {use : Use} {f : Found}
    (h : s.firstChecks p m use = .ok f) : s.lookup m.index.toNat m.sub.toNat = some f := by
  unfold State.firstChecks at h
  dsimp only at h
  split at h
  · cases h
  · split at h
    next => cases h
    next g e =>
      rw [e]
      split_ifs at h <;> (cases h; rfl)

theorem State.lookup_nodeId (s : State) : s.lookup 0x1001 2 = some ⟨Obj.NODE_NODE_ID, 0, 0, false, false⟩ := rfl

theorem typeOk_nodeId {b : List Byte} (h : b.length = 2) : Obj.NODE_NODE_ID.typeOk b = true := by
  simp [ObjDef.typeOk, Obj.NODE_NODE_ID, h, ObjTy.size]

theorem rangeOk_nodeId {b : List Byte} (h : 0x3FFF < leNat b) :
    Obj.NODE_NODE_ID.rangeOk (Val.ofWire Obj.NODE_NODE_ID.ty b) = false := by
  simpa [ObjDef.rangeOk, Obj.NODE_NODE_ID, inRange, Val.ofWire, ObjTy.asBytes, ObjTy.value, Val.toNat] using h

/-- A value out of range is refused before any other content check, and nothing is written (R387). -/
theorem State.writeValue_outOfRange {s : State} {f : Found} {b : List Byte} (ty : f.entry.typeOk b = true)
    (range : f.entry.rangeOk (Val.ofWire f.entry.ty b) = false) (p : Nat) (m : ZdpMsg) (seg : Nat) :
    s.writeValue p m f b seg = s.reply p m 13 [] 0 seg := by
  simp [State.writeValue, State.writeReason, ty, range]

/-- Settles O59: the range check of the entry 0x1001.02 refuses the value. -/
theorem nodeIdOutOfRangeIsRefused : Obligations.NodeIdOutOfRangeIsRefused := by
  intro s p m c f hc takes kind index sub first len big
  have found : f = ⟨Obj.NODE_NODE_ID, 0, 0, false, false⟩ := by
    have h := State.lookup_of_firstChecks first
    rw [index, sub] at h
    exact (Option.some.inj ((State.lookup_nodeId _).symm.trans h)).symm
  have run : (s.taken p).request p m = (s.taken p).reply p m 13 [] := by
    rw [State.request, kind]
    change (s.taken p).writeRequest p m = _
    subst found
    simp only [State.writeRequest, first]
    exact State.writeValue_outOfRange (typeOk_nodeId len) (rangeOk_nodeId big) ..
  have e : exec c s = .next ((s.taken p).reply p m 13 []) := by
    rw [exec_of_mem_zdpCommands hc, State.zdpMessage_of_gateTakes takes, run]
  have leaves : OutLeaves (partBits Part.all) s (exec c s) := by
    rw [exec_of_mem_zdpCommands hc]
    exact execZdpRead_leaves (by decide) (.refl _ _) p m
  exact .of e leaves ⟨State.answered_reply .., (State.reply_dict ..).trans (State.taken_dict ..)⟩

end Sys2Proof.Machine
end

section
/-! SUPPORT. A store of a core, in a memory that lists a byte twice. -/

namespace Sys2Proof.Machine

/-- A memory that lists the first byte of the Grist store twice. It is not in canonical form (`State.tidy`), and no step
leads from a canonical state to it. -/
def State.twiceListed : State := { State.reset with mem := [(0x10000000, 1), (0x10000000, 2)] }

/-- Refutes O26: its clauses on stores speak of every state, the ones whose memory is not in canonical form included. A store
of the byte 0 takes the first entry of that byte off the list, and a second entry then shows through. -/
theorem not_coreAccess : ¬ Obligations.CoreAccess := by
  unfold Obligations.CoreAccess
  rintro ⟨-, -, store, -⟩
  obtain ⟨t, e, -, bytes, -⟩ := store State.twiceListed 0 .machine 8 0x10000000 0 (by decide) (by decide)
  have run : exec (.registerWrite 0 .machine 8 0x10000000 0) State.twiceListed =
      .next (State.twiceListed.poke 0x10000000 [0]) := rfl
  cases run.symm.trans e
  exact absurd (bytes 0 (by decide)) (by decide)

end Sys2Proof.Machine
end

section
/-! SUPPORT. Bits of a number: what setting, clearing, joining and masking do to each. -/

namespace Sys2Proof

theorem bitOf_eq_testBit (n b : Nat) : bitOf n b = n.testBit b := by
  rw [Nat.testBit_eq_decide_div_mod_eq, bitOf, Bool.beq_eq_decide_eq]

@[simp] theorem bitOf_zero (b : Nat) : bitOf 0 b = false := by simp [bitOf_eq_testBit]

@[simp] theorem bitOf_or (m n b : Nat) : bitOf (m ||| n) b = (bitOf m b || bitOf n b) := by
  simp [bitOf_eq_testBit]

@[simp] theorem bitOf_and (m n b : Nat) : bitOf (m &&& n) b = (bitOf m b && bitOf n b) := by
  simp [bitOf_eq_testBit]

theorem bitOf_two_pow (n b : Nat) : bitOf (2 ^ n) b = decide (n = b) := by
  rw [bitOf_eq_testBit, Nat.testBit_two_pow]

theorem bitOf_two_pow_self (n : Nat) : bitOf (2 ^ n) n = true := by simp [bitOf_two_pow]

theorem ne_zero_of_bitOf {n b : Nat} (h : bitOf n b = true) : n ≠ 0 := by
  rintro rfl
  simp at h

theorem setBit_eq_or (n b : Nat) : setBit n b = n ||| 2 ^ b := by
  unfold setBit
  split_ifs with h
  · refine Nat.eq_of_testBit_eq fun i => ?_
    rw [bitOf_eq_testBit] at h
    by_cases e : b = i <;> simp_all
  · have low : n / 2 ^ b % 2 = 0 := by simpa [bitOf] using h
    have parts : n = 2 ^ (b + 1) * (n / 2 ^ (b + 1)) + n % 2 ^ b := by
      have := Nat.div_add_mod n (2 ^ (b + 1))
      rw [Nat.mod_pow_succ, low] at this
      omega
    have small : n % 2 ^ b < 2 ^ b := Nat.mod_lt _ (Nat.two_pow_pos b)
    have top : 2 ^ (b + 1) = 2 ^ b + 2 ^ b := by rw [Nat.pow_succ]; omega
    generalize n / 2 ^ (b + 1) = q, n % 2 ^ b = r at parts small
    subst parts
    rw [Nat.add_assoc, Nat.add_comm r, Nat.two_pow_add_eq_or_of_lt (by omega : 2 ^ b + r < 2 ^ (b + 1)),
      Nat.two_pow_add_eq_or_of_lt (by omega : r < 2 ^ (b + 1)), Nat.or_assoc, Nat.or_comm r]
    congr 1
    simpa using Nat.two_pow_add_eq_or_of_lt small 1

@[simp] theorem bitOf_setBit (n b c : Nat) : bitOf (setBit n b) c = (bitOf n c || decide (b = c)) := by
  rw [setBit_eq_or, bitOf_or, bitOf_two_pow]

/-- The mask of the numbers below `n` that a test picks. -/
def maskBelow (p : Nat → Bool) (n : Nat) : Nat := ((List.range n).filter p).foldl (fun m z => m + 2 ^ z) 0

theorem maskBelow_succ (p : Nat → Bool) (n : Nat) : maskBelow p (n + 1) = maskBelow p n + if p n then 2 ^ n else 0 := by
  unfold maskBelow
  rw [List.range_succ, List.filter_append, List.foldl_append]
  cases h : p n <;> simp [h]

theorem maskBelow_lt (p : Nat → Bool) (n : Nat) : maskBelow p n < 2 ^ n := by
  induction n with
  | zero => simp [maskBelow]
  | succ n ih =>
    rw [maskBelow_succ, Nat.pow_succ]
    split <;> omega

theorem bitOf_maskBelow (p : Nat → Bool) (n b : Nat) : bitOf (maskBelow p n) b = (decide (b < n) && p b) := by
  induction n with
  | zero => simp [maskBelow]
  | succ n ih =>
    have join : maskBelow p (n + 1) = (if p n then 2 ^ n else 0) ||| maskBelow p n := by
      rw [maskBelow_succ, Nat.add_comm]
      split
      · simpa using Nat.two_pow_add_eq_or_of_lt (maskBelow_lt p n) 1
      · simp
    have bit : bitOf (if p n then 2 ^ n else 0) b = (decide (n = b) && p n) := by
      split <;> simp_all [bitOf_two_pow]
    rw [join, bitOf_or, bit, ih]
    rcases Nat.lt_trichotomy b n with h | rfl | h
    · simp [h, Nat.lt_succ_of_lt h, Nat.ne_of_gt h]
    · simp
    · simp [show ¬b < n by omega, show ¬b < n + 1 by omega, Nat.ne_of_lt h]

theorem bitOf_foldl_or {α : Type} (f : α → Nat) (l : List α) (m b : Nat) :
    bitOf (l.foldl (fun m x => m ||| f x) m) b = (bitOf m b || l.any fun x => bitOf (f x) b) := by
  induction l generalizing m with
  | nil => simp
  | cons x l ih => simp [ih, Bool.or_assoc]

theorem bitOf_mod_256 (n b : Nat) : bitOf (n % 256) b = (decide (b < 8) && bitOf n b) := by
  rw [bitOf_eq_testBit, bitOf_eq_testBit, show (256 : Nat) = 2 ^ 8 from rfl, Nat.testBit_mod_two_pow]

end Sys2Proof
end

section
/-! SUPPORT. The evaluation of a channel of the safety die (R476, R483 to R489): what it holds, what it shows and what it
trips. -/

namespace Sys2Proof.Machine

/-- Every demand that channel c sees. -/
def State.demands (s : State) (c : Nat) : List Demand :=
  s.inputDemands c ++ [s.hubDemand] ++ s.guardDemands c ++ s.testDemands

/-- The demands that take part in the own SF3 evaluation. -/
def State.ownDemands (s : State) (c : Nat) : List Demand := s.inputDemands c ++ [s.hubDemand] ++ s.testDemands

/-- Zones demanded now. -/
def State.zonesNow (s : State) (c : Nat) : Nat := (s.demands c).foldl (fun m d => m ||| d.zones) 0 % 256

/-- Zones active after an evaluation that clears nothing. -/
def State.zonesHeld (s : State) (c : Nat) : Nat := maskBelow (fun z => bitOf (s.chan c).zones z) 8 ||| s.zonesNow c

/-- Causes of the own SF3 evaluation in channel c. -/
def State.ownCauses (s : State) (c : Nat) : Nat := if s.control then s.ownSf3 c (s.ownDemands c) else 0

/-- Thrusters under sector supervision while `zones` are active. -/
def State.coveredMask (s : State) (zones : Nat) : Nat := maskBelow (s.supervised zones) 32

/-- Channel c with its zones, SF3 and supervision evaluated, before its outputs are. -/
def State.evalHead (s : State) (c : Nat) : SafeChan :=
  { s.chan c with
    zones := s.zonesHeld c
    zcause := (List.range 8).foldl (fun m z =>
      let by_ := ((s.demands c).filter fun d => bitOf d.zones z).foldl (fun x d => x ||| 2 ^ d.cause) 0
      Map.put m z (if bitOf (s.zonesHeld c) z then
        (if bitOf (maskBelow (fun z => bitOf (s.chan c).zones z) 8) z then Map.get 0 (s.chan c).zcause z else 0) ||| by_
        else 0)) []
    zd := s.zonesNow c
    own := s.ownCauses c
    red := s.sf3Causes c (s.ownCauses c) (s.ownDemands c) != 0
    azFault := (s.chan c).azFault &&& s.coveredMask (s.zonesHeld c)
    sector := (s.chan c).sector &&& s.coveredMask (s.zonesHeld c) }

/-- Causes by which output k of channel c trips. -/
def State.tripCauses (s : State) (c : Nat) (h : SafeChan) (k : Nat) : Nat :=
  s.outCauses h (s.demands c) (s.sf3Causes c (s.ownCauses c) (s.ownDemands c)) (s.zonesHeld c) k ||| s.baseCauses

/-- Output k of channel c evaluated. -/
def State.evalOut (s : State) (c : Nat) (h : SafeChan) (k : Nat) : SafeChan :=
  let dem := s.outCauses h (s.demands c) (s.sf3Causes c (s.ownCauses c) (s.ownDemands c)) (s.zonesNow c) k ||| s.baseCauses
  let h := if s.tripCauses c h k != 0 then
      { h with trip := setBit h.trip k, lcause := Map.upd 0 h.lcause k (· ||| s.tripCauses c h k) }
    else h
  { h with dem := if dem != 0 then setBit h.dem k else clearBit h.dem k }

theorem State.evalChan_none (s : State) (c : Nat) :
    s.evalChan c none = (List.range 8).foldl (s.evalOut c) (s.evalHead c) := by
  unfold State.evalChan
  simp only [Bool.not_false, Bool.and_true]
  rfl

/-- `h'` differs from `h` at most in what an output's evaluation writes. -/
def SafeChan.OutputsOnly (h h' : SafeChan) : Prop :=
  ∃ trip lcause dem, h' = { h with trip := trip, lcause := lcause, dem := dem }

theorem SafeChan.OutputsOnly.refl (h : SafeChan) : h.OutputsOnly h := ⟨_, _, _, rfl⟩

theorem SafeChan.OutputsOnly.trans {h k l : SafeChan} : h.OutputsOnly k → k.OutputsOnly l → h.OutputsOnly l := by
  rintro ⟨_, _, _, rfl⟩ ⟨_, _, _, rfl⟩
  exact ⟨_, _, _, rfl⟩

theorem State.evalOut_outputsOnly (s : State) (c : Nat) (h : SafeChan) (k : Nat) : h.OutputsOnly (s.evalOut c h k) := by
  unfold State.evalOut
  dsimp only
  split <;> exact ⟨_, _, _, rfl⟩

/-- An output's causes do not look at what the evaluation of outputs writes. -/
theorem State.tripCauses_of_outputsOnly (s : State) (c : Nat) {h h' : SafeChan} (o : h.OutputsOnly h') (k : Nat) :
    s.tripCauses c h' k = s.tripCauses c h k := by
  obtain ⟨_, _, _, rfl⟩ := o
  rfl

theorem or_and_absorb (a b : Bool) : (a || (b && a)) = a := by cases a <;> cases b <;> rfl

theorem State.bitOf_evalOut_trip (s : State) (c : Nat) (h : SafeChan) (k n : Nat) :
    bitOf (s.evalOut c h k).trip n = (bitOf h.trip n || (decide (k = n) && s.tripCauses c h k != 0)) := by
  unfold State.evalOut
  dsimp only
  split_ifs with t
  · simp [t]
  · simp_all

theorem State.evalOut_lcause (s : State) (c : Nat) (h : SafeChan) (k n b : Nat) :
    bitOf (Map.get 0 (s.evalOut c h k).lcause n) b =
      (bitOf (Map.get 0 h.lcause n) b || (decide (k = n) && bitOf (s.tripCauses c h k) b)) := by
  unfold State.evalOut
  dsimp only
  split_ifs with t
  · by_cases e : k = n
    · subst e; simp [Map.get_upd]
    · simp [Map.get_upd, e, Ne.symm e]
  · simp_all

theorem State.evalOuts_outputsOnly (s : State) (c : Nat) (h : SafeChan) (l : List Nat) :
    h.OutputsOnly (l.foldl (s.evalOut c) h) :=
  List.foldlRecOn l _ (.refl h) fun _ o k _ => o.trans (s.evalOut_outputsOnly c _ k)

theorem State.bitOf_evalOuts_trip (s : State) (c : Nat) (h : SafeChan) (l : List Nat) (n : Nat) :
    bitOf (l.foldl (s.evalOut c) h).trip n = (bitOf h.trip n || (decide (n ∈ l) && s.tripCauses c h n != 0)) := by
  induction l generalizing h with
  | nil => simp
  | cons k l ih =>
    rw [List.foldl_cons, ih, s.bitOf_evalOut_trip, s.tripCauses_of_outputsOnly c (s.evalOut_outputsOnly c h k)]
    by_cases e : k = n
    · subst e; simp [Bool.or_assoc, or_and_absorb]
    · simp [e, Ne.symm e]

theorem State.evalOuts_lcause (s : State) (c : Nat) (h : SafeChan) (l : List Nat) (n b : Nat) :
    bitOf (Map.get 0 (l.foldl (s.evalOut c) h).lcause n) b =
      (bitOf (Map.get 0 h.lcause n) b || (decide (n ∈ l) && bitOf (s.tripCauses c h n) b)) := by
  induction l generalizing h with
  | nil => simp
  | cons k l ih =>
    rw [List.foldl_cons, ih, s.evalOut_lcause, s.tripCauses_of_outputsOnly c (s.evalOut_outputsOnly c h k)]
    by_cases e : k = n
    · subst e; simp [Bool.or_assoc, or_and_absorb]
    · simp [e, Ne.symm e]

theorem State.evalChan_outputsOnly (s : State) (c : Nat) : (s.evalHead c).OutputsOnly (s.evalChan c none) := by
  rw [s.evalChan_none]
  exact s.evalOuts_outputsOnly c _ _

/-- An output is tripped when it was, or when a cause trips it now (R483). -/
theorem State.bitOf_evalChan_trip (s : State) (c : Nat) (k : Fin 8) :
    bitOf (s.evalChan c none).trip k = (bitOf (s.chan c).trip k || s.tripCauses c (s.evalHead c) k != 0) := by
  rw [s.evalChan_none, s.bitOf_evalOuts_trip]
  simp [State.evalHead]

theorem State.bitOf_evalChan_lcause (s : State) (c : Nat) (k : Fin 8) (b : Nat) :
    bitOf (Map.get 0 (s.evalChan c none).lcause k) b =
      (bitOf (Map.get 0 (s.chan c).lcause k) b || bitOf (s.tripCauses c (s.evalHead c) k) b) := by
  rw [s.evalChan_none, s.evalOuts_lcause]
  simp [State.evalHead]

/-- A zone is active when it was, or when a demand asks for it now (R483). -/
theorem State.bitOf_zonesHeld (s : State) (c : Nat) (z : Fin 8) :
    bitOf (s.zonesHeld c) z = (bitOf (s.chan c).zones z || (s.demands c).any fun d => bitOf d.zones z) := by
  simp [State.zonesHeld, State.zonesNow, bitOf_maskBelow, bitOf_mod_256, bitOf_foldl_or]

/-! Causes of an output -/

theorem bitOf_causeBit (b : Bool) (n k : Nat) : bitOf (causeBit b n) k = (b && decide (n = k)) := by
  cases b <;> simp [causeBit, bitOf_two_pow]

/-- The loss of the hub trips an output of any function that names it (R494). -/
theorem State.outCauses_hubLost {s : State} {h : SafeChan} {k : Nat} (used : s.sp Obj.SO_FUNCTION k ≠ 0)
    (trips : s.sp Obj.SO_HUB_LOSS k = 1) (lost : h.hubLost = true) (srcs : List Demand) (sf3 zones : Nat) :
    bitOf (s.outCauses h srcs sf3 zones k) 4 = true := by
  simp [State.outCauses, bitOf_causeBit, used, trips, lost]

/-- An SF1 demand on one of its thrusters trips an output of function 1, under the cause of the demand (R484). -/
theorem State.outCauses_sf1 {s : State} {k : Nat} (sf1 : s.sp Obj.SO_FUNCTION k = 1) {d : Demand} {srcs : List Demand}
    (mem : d ∈ srcs) (meets : d.sf1 &&& s.sp Obj.SO_THRUSTERS k ≠ 0) (h : SafeChan) (sf3 zones : Nat) :
    bitOf (s.outCauses h srcs sf3 zones k) d.cause = true := by
  have own : (srcs.filter fun d => d.sf1 &&& s.sp Obj.SO_THRUSTERS k != 0).any (fun e => bitOf (2 ^ e.cause) d.cause) = true :=
    List.any_eq_true.2 ⟨d, by simpa [mem] using meets, bitOf_two_pow_self _⟩
  simp only [State.outCauses, sf1, bitOf_or, bitOf_foldl_or, own, Bool.or_true]

/-- Causes that zone z brings to output k of function 2 (R483, R485). -/
def State.zoneCauses (s : State) (h : SafeChan) (k z : Nat) : Nat :=
  let sup := ((s.zoneSectors z).map (·.1)).filter (bitOf (s.sp Obj.SO_THRUSTERS k))
  (if s.sp Obj.ZONE_BLOCK_MASK z &&& s.sp Obj.SO_THRUSTERS k != 0 then Map.get 0 h.zcause z else 0) |||
    causeBit (sup.any (bitOf h.azFault)) 8 ||| causeBit (sup.any (bitOf h.sector)) 9

theorem State.outCauses_sf2 {s : State} {k z b zones : Nat} (sf2 : s.sp Obj.SO_FUNCTION k = 2) (z8 : z < 8)
    (active : bitOf zones z = true) (zone : bitOf (s.sp Obj.SO_ZONES k) z = true) {h : SafeChan}
    (cause : bitOf (s.zoneCauses h k z) b = true) (srcs : List Demand) (sf3 : Nat) :
    bitOf (s.outCauses h srcs sf3 zones k) b = true := by
  have some : ((List.range 8).filter fun z => bitOf zones z && bitOf (s.sp Obj.SO_ZONES k) z).any
      (fun z => bitOf (s.zoneCauses h k z) b) = true :=
    List.any_eq_true.2 ⟨z, by simp [z8, active, zone], cause⟩
  simp only [State.zoneCauses, Nat.or_assoc, bitOf_or] at some
  simp only [State.outCauses, sf2, Nat.or_assoc, bitOf_or, bitOf_foldl_or, some, Bool.or_true]

/-- A fault of a supervised thruster trips the outputs of function 2 whose active zones forbid it a sector (R485). -/
theorem State.outCauses_sector {s : State} {k z t zones : Nat} (sf2 : s.sp Obj.SO_FUNCTION k = 2)
    (thr : bitOf (s.sp Obj.SO_THRUSTERS k) t = true) (zone : bitOf (s.sp Obj.SO_ZONES k) z = true) (z8 : z < 8)
    (active : bitOf zones z = true) (sup : ((s.zoneSectors z).any fun e => e.1 == t) = true) {h : SafeChan}
    (fault : bitOf h.azFault t = true ∨ bitOf h.sector t = true) (srcs : List Demand) (sf3 : Nat) :
    s.outCauses h srcs sf3 zones k ≠ 0 := by
  have mem : t ∈ ((s.zoneSectors z).map (·.1)).filter (bitOf (s.sp Obj.SO_THRUSTERS k)) := by
    obtain ⟨e, he, et⟩ := List.any_eq_true.1 sup
    exact List.mem_filter.2 ⟨List.mem_map.2 ⟨e, he, by simpa using et⟩, thr⟩
  obtain ⟨b, cause⟩ : ∃ b, bitOf (s.zoneCauses h k z) b = true := by
    rcases fault with f | f
    · exact ⟨8, by simp [State.zoneCauses, bitOf_causeBit, List.any_eq_true.2 ⟨t, mem, f⟩]⟩
    · exact ⟨9, by simp [State.zoneCauses, bitOf_causeBit, List.any_eq_true.2 ⟨t, mem, f⟩]⟩
  exact ne_zero_of_bitOf (State.outCauses_sf2 sf2 z8 active zone cause srcs sf3)

end Sys2Proof.Machine
end

section
/-! SUPPORT. What an evaluation of the safety die keeps: its latches (R483), and everything but its channels. -/

namespace Sys2Proof.Machine

theorem LatchesKept.refl (s : State) : LatchesKept s s := fun _ _ => ⟨id, id⟩

theorem LatchesKept.trans {s t u : State} (h : LatchesKept s t) (k : LatchesKept t u) : LatchesKept s u :=
  fun c b => ⟨fun x => (k c b).1 ((h c b).1 x), fun x => (k c b).2 ((h c b).2 x)⟩

/-- Both channels hold the trips and zones that they held. -/
theorem LatchesKept.of_eq {s t : State}
    (h : ∀ c : Fin 2, (t.chan c).trip = (s.chan c).trip ∧ (t.chan c).zones = (s.chan c).zones) :
    LatchesKept s t := fun c _ => ⟨fun x => (h c).1 ▸ x, fun x => (h c).2 ▸ x⟩

theorem LatchesKept.of_chans {s t : State} (h : t.safety.chans = s.safety.chans) : LatchesKept s t :=
  .of_eq fun c => by simp [State.chan, h]

/-- `t` differs from `s` in the die at most in its channels. -/
def ChansOnly (s t : State) : Prop := ∃ m, t.safety = { s.safety with chans := m }

theorem ChansOnly.refl (s : State) : ChansOnly s s := ⟨_, rfl⟩

theorem ChansOnly.trans {s t u : State} (h : ChansOnly s t) (k : ChansOnly t u) : ChansOnly s u := by
  obtain ⟨m, h⟩ := h
  obtain ⟨n, k⟩ := k
  exact ⟨n, by rw [k, h]⟩

theorem ChansOnly.of_safety {s t : State} (h : t.safety = s.safety) : ChansOnly s t := ⟨_, h⟩

theorem ChansOnly.dieKept {s t : State} (h : ChansOnly s t) : DieKept s t := by
  obtain ⟨m, h⟩ := h
  simp [DieKept, h]

theorem DieKept.refl (s : State) : DieKept s s := (ChansOnly.refl s).dieKept

/-! One channel changed -/

theorem State.chan_setChan (s : State) (c d : Nat) (f : SafeChan → SafeChan) :
    (s.setChan c f).chan d = if d = c then f (s.chan c) else s.chan d := Map.get_upd ..

@[simp] theorem State.chan_setChan_self (s : State) (c : Nat) (f : SafeChan → SafeChan) :
    (s.setChan c f).chan c = f (s.chan c) := by simp [State.chan_setChan]

theorem State.setChan_chansOnly (s : State) (c : Nat) (f : SafeChan → SafeChan) : ChansOnly s (s.setChan c f) := ⟨_, rfl⟩

theorem State.setChan_latchesKept (s : State) (c : Nat) {f : SafeChan → SafeChan}
    (hf : ∀ h, (f h).trip = h.trip ∧ (f h).zones = h.zones) : LatchesKept s (s.setChan c f) :=
  .of_eq fun d => by
    rw [State.chan_setChan]
    split_ifs with e
    · exact e ▸ hf _
    · exact ⟨rfl, rfl⟩

/-! The evaluation -/

theorem State.safetyEval_chansOnly (s : State) : ChansOnly s s.safetyEval := by
  unfold State.safetyEval
  split
  · exact ⟨_, rfl⟩
  · exact .refl s

theorem State.chan_safetyEval (s : State) (c : Fin 2) :
    s.safetyEval.chan c = if s.safety.live then s.evalChan c none else s.chan c := by
  unfold State.safetyEval
  split_ifs with live
  · simp only [State.chan, State.setSafety, Map.get_put]
    match c with
    | 0 => rfl
    | 1 => rfl
  · rfl

theorem State.safetyEval_chan_of_live {s : State} (live : s.safety.live = true) (c : Fin 2) :
    s.safetyEval.chan c = s.evalChan c none := by rw [s.chan_safetyEval, if_pos live]

theorem State.evalChan_latches (s : State) (c k : Nat) (hk : k < 8) :
    (bitOf (s.chan c).trip k = true → bitOf (s.evalChan c none).trip k = true) ∧
    (bitOf (s.chan c).zones k = true → bitOf (s.evalChan c none).zones k = true) := by
  constructor
  · intro h
    rw [s.bitOf_evalChan_trip c ⟨k, hk⟩, h, Bool.true_or]
  · intro h
    obtain ⟨_, _, _, e⟩ := s.evalChan_outputsOnly c
    rw [e]
    change bitOf (s.zonesHeld c) k = true
    rw [s.bitOf_zonesHeld c ⟨k, hk⟩, h, Bool.true_or]

/-- An evaluation without an accepted reset pulse ends no trip and no active zone (R483). -/
theorem State.safetyEval_latchesKept (s : State) : LatchesKept s s.safetyEval := by
  intro c k
  rw [s.chan_safetyEval]
  split
  · exact s.evalChan_latches c k k.isLt
  · exact ⟨id, id⟩

/-! What a channel of a live die holds after the evaluation -/

theorem State.evalChan_own (s : State) (c : Nat) : (s.evalChan c none).own = s.ownCauses c := by
  obtain ⟨_, _, _, e⟩ := s.evalChan_outputsOnly c
  rw [e]
  rfl

theorem State.evalChan_azFault (s : State) (c : Nat) :
    (s.evalChan c none).azFault = (s.chan c).azFault &&& s.coveredMask (s.zonesHeld c) := by
  obtain ⟨_, _, _, e⟩ := s.evalChan_outputsOnly c
  rw [e]
  rfl

theorem State.evalChan_sector (s : State) (c : Nat) :
    (s.evalChan c none).sector = (s.chan c).sector &&& s.coveredMask (s.zonesHeld c) := by
  obtain ⟨_, _, _, e⟩ := s.evalChan_outputsOnly c
  rw [e]
  rfl

/-- What an evaluation of a channel takes as it is: the losses that it has seen, its connections and its clock. -/
structure SafeChan.SameWatch (h h' : SafeChan) : Prop where
  hubLost : h'.hubLost = h.hubLost
  caLost : h'.caLost = h.caLost
  posLost : h'.posLost = h.posLost
  posRed : h'.posRed = h.posRed
  conns : h'.conns = h.conns
  timeOk : h'.timeOk = h.timeOk

theorem State.evalChan_sameWatch (s : State) (c : Nat) : (s.chan c).SameWatch (s.evalChan c none) := by
  obtain ⟨_, _, _, e⟩ := s.evalChan_outputsOnly c
  rw [e]
  exact ⟨rfl, rfl, rfl, rfl, rfl, rfl⟩

theorem State.safetyEval_sameWatch (s : State) (c : Fin 2) : (s.chan c).SameWatch (s.safetyEval.chan c) := by
  rw [s.chan_safetyEval]
  split
  · exact s.evalChan_sameWatch c
  · exact ⟨rfl, rfl, rfl, rfl, rfl, rfl⟩

/-- A cause of output k trips it. -/
theorem State.trip_of_cause {s : State} {c : Nat} {k : Fin 8} (h : s.tripCauses c (s.evalHead c) k ≠ 0) :
    bitOf (s.evalChan c none).trip k = true := by
  rw [s.bitOf_evalChan_trip, bne_iff_ne.2 h, Bool.or_true]

theorem State.tripCauses_ne_zero {s : State} {c : Nat} {h : SafeChan} {k : Nat}
    (cause : s.outCauses h (s.demands c) (s.sf3Causes c (s.ownCauses c) (s.ownDemands c)) (s.zonesHeld c) k ≠ 0) :
    s.tripCauses c h k ≠ 0 := by
  unfold State.tripCauses
  simp [cause]

/-- The own SF3 evaluation shows what is red, lost or held beyond its limits (R488). -/
theorem State.bitOf_ownSf3 (s : State) (c : Nat) (srcs : List Demand) :
    ((s.chan c).caLost = true → bitOf (s.ownSf3 c srcs) 12 = true) ∧
    ((s.chan c).posRed = true → bitOf (s.ownSf3 c srcs) 13 = true) ∧
    ((s.chan c).posLost = true → bitOf (s.ownSf3 c srcs) 14 = true) ∧
    ((∃ a, s.safety.ca = some a ∧ a.wcf = 3) → bitOf (s.ownSf3 c srcs) 10 = true) := by
  refine ⟨fun h => ?_, fun h => ?_, fun h => ?_, ?_⟩
  · simp [State.ownSf3, bitOf_foldl_or, bitOf_causeBit, h]
  · simp [State.ownSf3, bitOf_foldl_or, bitOf_causeBit, h]
  · simp [State.ownSf3, bitOf_foldl_or, bitOf_causeBit, h]
  · rintro ⟨a, h, red⟩
    simp [State.ownSf3, bitOf_foldl_or, bitOf_causeBit, h, red]

/-- Supervision does not end while an evaluation keeps the zones. -/
theorem State.supervised_zonesHeld {s : State} {c t : Nat} (h : s.supervised (s.chan c).zones t = true) :
    s.supervised (s.zonesHeld c) t = true := by
  simp only [State.supervised, Bool.and_eq_true, List.any_eq_true, List.mem_range] at h ⊢
  obtain ⟨out, z, z8, active, sup⟩ := h
  exact ⟨out, z, z8, by rw [s.bitOf_zonesHeld c ⟨z, z8⟩, active, Bool.true_or], sup⟩

end Sys2Proof.Machine
end

section
/-! SUPPORT. What a channel of the safety die watches (R485, R488, R494). -/

namespace Sys2Proof.Machine

/-- A command completes within the parts that it touches. -/
theorem Does.next {i : Instr} {s t : State} {Q : State → Prop} (e : exec i s = .next t) (q : Q t) : Does i s i.touches Q :=
  .of e (exec_leaves i s) q

theorem State.bitOf_coveredMask (s : State) (zones : Nat) (t : Fin 32) :
    bitOf (s.coveredMask zones) t = s.supervised zones t := by
  simp [State.coveredMask, bitOf_maskBelow]

/-- A command that notes something beside the latches in a channel of a live die, and evaluates both channels. -/
theorem Does.noted {i : Instr} {s : State} {c : Fin 2} {f : SafeChan → SafeChan}
    (e : exec i s = .next (s.setChan c f).safetyEval) (live : s.safety.live = true)
    (hf : ∀ h, (f h).trip = h.trip ∧ (f h).zones = h.zones) (A B : SafeChan → Prop)
    (a : A ((s.setChan c f).evalChan c none)) (b : B ((s.setChan c f).evalChan c none)) :
    Does i s i.touches fun t => A (t.chan c) ∧ LatchesKept s t ∧ DieKept s t ∧ B (t.chan c) := by
  have chan : (s.setChan c f).safetyEval.chan c = (s.setChan c f).evalChan c none :=
    State.safetyEval_chan_of_live (s := s.setChan c f) live c
  exact .next e ⟨chan ▸ a, (s.setChan_latchesKept c hf).trans (State.safetyEval_latchesKept _),
    ((s.setChan_chansOnly c f).trans (State.safetyEval_chansOnly _)).dieKept, chan ▸ b⟩

/-- A fault of a supervised thruster is held (R485). -/
theorem State.evalChan_holds {s : State} {c : Nat} {t : Fin 32} (sup : s.supervised (s.chan c).zones t = true) :
    (bitOf (s.chan c).azFault t = true → bitOf (s.evalChan c none).azFault t = true) ∧
    (bitOf (s.chan c).sector t = true → bitOf (s.evalChan c none).sector t = true) := by
  have cover : bitOf (s.coveredMask (s.zonesHeld c)) t = true := by
    rw [s.bitOf_coveredMask, State.supervised_zonesHeld sup]
  exact ⟨fun h => by rw [s.evalChan_azFault, bitOf_and, h, cover, Bool.true_and],
    fun h => by rw [s.evalChan_sector, bitOf_and, h, cover, Bool.true_and]⟩

/-- A fault of a supervised thruster trips the outputs that depend on it (R485). -/
theorem State.evalChan_sector_trips {s : State} {c : Nat} {t : Fin 32} (sup : s.supervised (s.chan c).zones t = true)
    (fault : bitOf (s.chan c).azFault t = true ∨ bitOf (s.chan c).sector t = true) (k z : Fin 8)
    (sf2 : s.sp Obj.SO_FUNCTION k = 2) (thr : bitOf (s.sp Obj.SO_THRUSTERS k) t = true)
    (zone : bitOf (s.sp Obj.SO_ZONES k) z = true) (active : bitOf (s.chan c).zones z = true)
    (listed : ((s.zoneSectors z).any fun e => e.1 == t.val) = true) : bitOf (s.evalChan c none).trip k = true := by
  have cover : bitOf (s.coveredMask (s.zonesHeld c)) t = true := by
    rw [s.bitOf_coveredMask, State.supervised_zonesHeld sup]
  have held : bitOf (s.evalHead c).azFault t = true ∨ bitOf (s.evalHead c).sector t = true := by
    simpa [State.evalHead, cover] using fault
  have still : bitOf (s.zonesHeld c) z = true := by rw [s.bitOf_zonesHeld, active, Bool.true_or]
  exact State.trip_of_cause (State.tripCauses_ne_zero
    (State.outCauses_sector sf2 thr zone z.isLt still listed held _ _))

/-- The loss of the hub trips the outputs that name it (R494). -/
theorem State.evalChan_hubLost_trips {s : State} {c : Nat} (lost : (s.chan c).hubLost = true) (k : Fin 8)
    (used : s.sp Obj.SO_FUNCTION k ≠ 0) (names : s.sp Obj.SO_HUB_LOSS k = 1) : bitOf (s.evalChan c none).trip k = true :=
  State.trip_of_cause (State.tripCauses_ne_zero
    (ne_zero_of_bitOf (State.outCauses_hubLost used names (h := s.evalHead c) lost _ _ _)))

/-- In CONTROL role the own SF3 evaluation of a channel stands after the evaluation (R488). -/
theorem State.evalChan_own_of_control {s : State} (c : Nat) (control : s.control = true) :
    (s.evalChan c none).own = s.ownSf3 c (s.ownDemands c) := by
  rw [s.evalChan_own, State.ownCauses, if_pos control]

/-! The six commands on a live die -/

theorem execHubLost_does {s : State} (ch : Fin 2) (live : s.safety.live = true) :
    Does (.hubLost ch) s [.safety] fun t => (t.chan ch).hubLost = true ∧ LatchesKept s t ∧ DieKept s t ∧
      ∀ k : Fin 8, s.sp Obj.SO_FUNCTION k ≠ 0 → s.sp Obj.SO_HUB_LOSS k = 1 → bitOf (t.chan ch).trip k = true := by
  let f (h : SafeChan) : SafeChan := { h with hubLost := true }
  have lost : ((s.setChan ch f).chan ch).hubLost = true := by simp [f]
  refine Does.noted (f := f) (congrArg _ (if_pos live)) live (fun _ => ⟨rfl, rfl⟩)
    (fun h => h.hubLost = true)
    (fun h => ∀ k : Fin 8, s.sp Obj.SO_FUNCTION k ≠ 0 → s.sp Obj.SO_HUB_LOSS k = 1 → bitOf h.trip k = true) ?_ ?_
  · rw [(State.evalChan_sameWatch _ _).hubLost, lost]
  · intro k used names
    exact State.evalChan_hubLost_trips lost k used names

/-- What holds of a channel in which a fault of thruster `thr` is noted: the outputs that depend on it are tripped. -/
def State.sectorTrips (s : State) (zones : Nat) (thr : Fin 32) (h : SafeChan) : Prop :=
  ∀ k z : Fin 8, s.sp Obj.SO_FUNCTION k = 2 → bitOf (s.sp Obj.SO_THRUSTERS k) thr = true →
    bitOf (s.sp Obj.SO_ZONES k) z = true → bitOf zones z = true →
    (s.zoneSectors z).any (·.1 == thr.val) = true → bitOf h.trip k = true

theorem execAzFault_does {s : State} (thr : Fin 32) (ch : Fin 2)
    (sup : (s.safety.live && s.supervised (s.chan ch).zones thr) = true) :
    Does (.azFault thr ch) s [.safety] fun t => bitOf (t.chan ch).azFault thr = true ∧ LatchesKept s t ∧ DieKept s t ∧
      s.sectorTrips (s.chan ch).zones thr (t.chan ch) := by
  obtain ⟨live, covered⟩ := Bool.and_eq_true_iff.1 sup
  let f (h : SafeChan) : SafeChan := { h with azFault := setBit h.azFault thr }
  have now : (s.setChan ch f).chan ch = f (s.chan ch) := State.chan_setChan_self ..
  have fault : bitOf ((s.setChan ch f).chan ch).azFault thr = true := by simp [f]
  have covered : (s.setChan ch f).supervised ((s.setChan ch f).chan ch).zones thr = true := by rw [now]; exact covered
  refine Does.noted (f := f) (congrArg _ (if_pos sup)) live (fun _ => ⟨rfl, rfl⟩)
    (fun h => bitOf h.azFault thr = true) (s.sectorTrips (s.chan ch).zones thr) ((State.evalChan_holds covered).1 fault) ?_
  intro k z sf2 out zone active listed
  exact State.evalChan_sector_trips covered (.inl fault) k z sf2 out zone (by rw [now]; exact active) listed

theorem execSector_does {s : State} (thr : Fin 32) (ch : Fin 2)
    (sup : (s.safety.live && s.supervised (s.chan ch).zones thr && s.inForbidden ch thr) = true) :
    Does (.sector thr ch) s [.safety] fun t => bitOf (t.chan ch).sector thr = true ∧ LatchesKept s t ∧ DieKept s t ∧
      s.sectorTrips (s.chan ch).zones thr (t.chan ch) := by
  obtain ⟨live, covered⟩ := Bool.and_eq_true_iff.1 (Bool.and_eq_true_iff.1 sup).1
  let f (h : SafeChan) : SafeChan := { h with sector := setBit h.sector thr }
  have now : (s.setChan ch f).chan ch = f (s.chan ch) := State.chan_setChan_self ..
  have fault : bitOf ((s.setChan ch f).chan ch).sector thr = true := by simp [f]
  have covered : (s.setChan ch f).supervised ((s.setChan ch f).chan ch).zones thr = true := by rw [now]; exact covered
  refine Does.noted (f := f) (congrArg _ (if_pos sup)) live (fun _ => ⟨rfl, rfl⟩)
    (fun h => bitOf h.sector thr = true) (s.sectorTrips (s.chan ch).zones thr) ((State.evalChan_holds covered).2 fault) ?_
  intro k z sf2 out zone active listed
  exact State.evalChan_sector_trips covered (.inr fault) k z sf2 out zone (by rw [now]; exact active) listed

theorem execCaTimeout_does {s : State} (ch : Fin 2) (live : s.safety.live = true) :
    Does (.caTimeout ch) s [.safety] fun t => (t.chan ch).caLost = true ∧ LatchesKept s t ∧ DieKept s t ∧
      (s.control = true → (t.chan ch).own ≠ 0 ∧ bitOf (t.chan ch).own 12 = true) := by
  let f (h : SafeChan) : SafeChan := { h with caLost := true }
  have lost : ((s.setChan ch f).chan ch).caLost = true := by simp [f]
  refine Does.noted (f := f) (congrArg _ (if_pos live)) live (fun _ => ⟨rfl, rfl⟩)
    (fun h => h.caLost = true) (fun h => s.control = true → h.own ≠ 0 ∧ bitOf h.own 12 = true) ?_ ?_
  · rw [(State.evalChan_sameWatch _ _).caLost, lost]
  · intro control
    rw [State.evalChan_own_of_control (s := s.setChan ch f) ch control]
    have bit := ((s.setChan ch f).bitOf_ownSf3 ch ((s.setChan ch f).ownDemands ch)).1 lost
    exact ⟨ne_zero_of_bitOf bit, bit⟩

theorem execPosPersist_does {s : State} (ch : Fin 2) (above : (s.safety.live && s.posAbove) = true) :
    Does (.posPersist ch) s [.safety] fun t => (t.chan ch).posRed = true ∧ LatchesKept s t ∧ DieKept s t ∧
      (s.control = true → bitOf (t.chan ch).own 13 = true) := by
  let f (h : SafeChan) : SafeChan := { h with posRed := true }
  have red : ((s.setChan ch f).chan ch).posRed = true := by simp [f]
  refine Does.noted (f := f) (congrArg _ (if_pos above)) (Bool.and_eq_true_iff.1 above).1
    (fun _ => ⟨rfl, rfl⟩) (fun h => h.posRed = true) (fun h => s.control = true → bitOf h.own 13 = true) ?_ ?_
  · rw [(State.evalChan_sameWatch _ _).posRed, red]
  · intro control
    rw [State.evalChan_own_of_control (s := s.setChan ch f) ch control]
    exact ((s.setChan ch f).bitOf_ownSf3 ch _).2.1 red

theorem execPosTimeout_does {s : State} (ch : Fin 2) (live : s.safety.live = true) :
    Does (.posTimeout ch) s [.safety] fun t => (t.chan ch).posLost = true ∧ LatchesKept s t ∧ DieKept s t ∧
      (s.control = true → bitOf (t.chan ch).own 14 = true) := by
  let f (h : SafeChan) : SafeChan := { h with posLost := true }
  have lost : ((s.setChan ch f).chan ch).posLost = true := by simp [f]
  refine Does.noted (f := f) (congrArg _ (if_pos live)) live (fun _ => ⟨rfl, rfl⟩)
    (fun h => h.posLost = true) (fun h => s.control = true → bitOf h.own 14 = true) ?_ ?_
  · rw [(State.evalChan_sameWatch _ _).posLost, lost]
  · intro control
    rw [State.evalChan_own_of_control (s := s.setChan ch f) ch control]
    exact ((s.setChan ch f).bitOf_ownSf3 ch _).2.2.1 lost

/-- Settles O35: on a live die each command notes what it says in its channel and evaluates both channels anew; where its
condition does not hold it changes nothing. -/
theorem safetyMonitors : Obligations.SafetyMonitors :=
  ⟨fun _ _ dead => congrArg _ (if_neg (Bool.eq_false_iff.1 dead)), fun _ ch live => execHubLost_does ch live,
    fun _ _ _ no => congrArg _ (if_neg (Bool.eq_false_iff.1 no)), fun _ thr ch sup => execAzFault_does thr ch sup,
    fun _ _ _ no => congrArg _ (if_neg (Bool.eq_false_iff.1 no)), fun _ thr ch sup => execSector_does thr ch sup,
    fun _ _ dead => congrArg _ (if_neg (Bool.eq_false_iff.1 dead)), fun _ ch live => execCaTimeout_does ch live,
    fun _ _ no => congrArg _ (if_neg (Bool.eq_false_iff.1 no)), fun _ ch above => execPosPersist_does ch above,
    fun _ _ dead => congrArg _ (if_neg (Bool.eq_false_iff.1 dead)), fun _ ch live => execPosTimeout_does ch live⟩

end Sys2Proof.Machine
end

section
/-! SUPPORT. The safety change log (R509), the CONFIG message (R502), and what an order to the safety configuration leaves of
the die. -/

namespace Sys2Proof.Machine

/-! What an entry of the change log looks at -/

/-- The change log, and whether a dip holds its entries, are as they were; a raised LOG interrupt stays. -/
structure LogKept (s t : State) : Prop where
  seq : t.safety.logSeq = s.safety.logSeq
  log : t.safety.log = s.safety.log
  held : t.safety.heldLog = s.safety.heldLog
  dip : t.dip = s.dip
  irq : t.flag Reg.SM_IRQ_LOG = s.flag Reg.SM_IRQ_LOG

theorem LogKept.refl (s : State) : LogKept s s := ⟨rfl, rfl, rfl, rfl, rfl⟩

theorem LogKept.trans {s t u : State} (h : LogKept s t) (k : LogKept t u) : LogKept s u :=
  ⟨k.seq.trans h.seq, k.log.trans h.log, k.held.trans h.held, k.dip.trans h.dip, k.irq.trans h.irq⟩

/-- The bits of every part but the safety die and the registers of Gauge and of the safety mailbox. -/
def besideLog : Nat := 2 ^ 42 - 1 - 2 ^ 19 - 2 ^ 26 - 2 ^ 38

theorem Leaves.logKept {s t : State} (h : Leaves besideLog s t) : LogKept s t := by
  have die := h.safety (by decide)
  refine ⟨by rw [die], by rw [die], by rw [die], ?_, ?_⟩
  · exact congrArg (· != 0) (h.regs _ (by decide) _)
  · exact congrArg (· != 0) (h.regs _ (by decide) _)

theorem State.logged_of_logKept {s s' u u' : State} {action : Nat} (before : LogKept s s') (h : s'.logged u action)
    (after : LogKept u u') : s.logged u' action := by
  unfold State.logged at h ⊢
  rw [before.seq, before.log, before.held, before.dip] at h
  rwa [after.seq, after.log, after.held, after.irq]

/-! What reporting leaves of the die -/

/-- The entries that show the session, and the number of the last log entry. -/
def sessionEntries : List Nat :=
  [Obj.SES_SESSION.key 0 0, Obj.SES_SESSION_PORT.key 0 0, Obj.SES_SESSION_USER.key 0 0, Obj.SAFE_LOG_SEQ.key 0 0]

/-- What showing, logging and sending do: `t` differs from `s` in the die at most in the change log and the mail, and in the
dictionary at most in `sessionEntries`. -/
structure Reported (s t : State) : Prop where
  die : ∃ q l h w n, t.safety = { s.safety with logSeq := q, log := l, heldLog := h, mail := w, hubSeq := n }
  objs : ObjsBut sessionEntries s t

theorem Reported.refl (s : State) : Reported s s := ⟨⟨_, _, _, _, _, rfl⟩, fun _ _ _ _ => rfl⟩

theorem Reported.trans {s t u : State} (h : Reported s t) (k : Reported t u) : Reported s u := by
  obtain ⟨⟨_, _, _, _, _, h⟩, ho⟩ := h
  obtain ⟨⟨q, l, d, w, n, k⟩, ko⟩ := k
  exact ⟨⟨q, l, d, w, n, by rw [k, h]⟩, fun o i n x => (ko o i n x).trans (ho o i n x)⟩

theorem Reported.chans {s t : State} (h : Reported s t) : t.safety.chans = s.safety.chans := by
  obtain ⟨⟨_, _, _, _, _, e⟩, -⟩ := h
  rw [e]

/-- The same with an evaluation of the channels before it. -/
structure Settled (s t : State) : Prop where
  die : ∃ m q l h w n, t.safety =
    { s.safety with chans := m, logSeq := q, log := l, heldLog := h, mail := w, hubSeq := n }
  objs : ObjsBut sessionEntries s t
  latches : LatchesKept s t

/-! The evaluation -/

@[simp] theorem State.safetyEval_regs (s : State) : s.safetyEval.regs = s.regs := by
  unfold State.safetyEval
  split <;> rfl

@[simp] theorem State.safetyEval_dict (s : State) : s.safetyEval.dict = s.dict := by
  unfold State.safetyEval
  split <;> rfl

theorem Settled.of_eval {s t : State} (h : Reported s.safetyEval t) : Settled s t := by
  obtain ⟨m, eval⟩ := s.safetyEval_chansOnly
  obtain ⟨q, l, d, w, n, e⟩ := h.die
  refine ⟨⟨m, q, l, d, w, n, by rw [e, eval]⟩, fun o i k x => ?_, s.safetyEval_latchesKept.trans (.of_chans h.chans)⟩
  exact (h.objs o i k x).trans (by simp [State.obj])

theorem LogKept.of_regs {s t : State} (regs : t.regs = s.regs) (seq : t.safety.logSeq = s.safety.logSeq)
    (log : t.safety.log = s.safety.log) (held : t.safety.heldLog = s.safety.heldLog) : LogKept s t :=
  ⟨seq, log, held, by simp [State.dip, State.flag, State.rd, regs], by simp [State.flag, State.rd, regs]⟩

theorem State.safetyEval_logKept (s : State) : LogKept s s.safetyEval := by
  obtain ⟨m, e⟩ := s.safetyEval_chansOnly
  exact .of_regs (by simp) (by rw [e]) (by rw [e]) (by rw [e])

/-! The session objects -/

theorem State.showSession_safety (s : State) : s.showSession.safety = s.safety := by
  unfold State.showSession
  split <;> rfl

theorem State.showSession_logKept (s : State) : LogKept s s.showSession := by
  unfold State.showSession
  split <;> exact .of_regs rfl rfl rfl rfl

theorem State.obj_setObj_of_not_mem {s : State} {o p : ObjDef} {i k j l : Nat} {v : Val} {ks : List Nat}
    (mem : o.key i k ∈ ks) (h : p.key j l ∉ ks) : (s.setObj o v i k).obj p j l = s.obj p j l := by
  rw [State.obj_setObj, if_neg (ne_of_mem_of_not_mem mem h).symm]

theorem State.showSession_objs (s : State) : ObjsBut sessionEntries s s.showSession := by
  intro o i k h
  have kind : Obj.SES_SESSION.key 0 0 ∈ sessionEntries := by decide
  have port : Obj.SES_SESSION_PORT.key 0 0 ∈ sessionEntries := by decide
  have user : Obj.SES_SESSION_USER.key 0 0 ∈ sessionEntries := by decide
  unfold State.showSession State.setObjN
  split <;> rw [State.obj_setObj_of_not_mem user h, State.obj_setObj_of_not_mem port h, State.obj_setObj_of_not_mem kind h]

theorem State.showSession_reported (s : State) : Reported s s.showSession :=
  ⟨⟨_, _, _, _, _, s.showSession_safety⟩, s.showSession_objs⟩

/-! An entry of the change log -/

section
variable (s : State) (node port action index sub : Nat) (old new : List Byte) (kind : Nat) (user : List Byte)

theorem State.safetyLog_safety : ∃ q l h, (s.safetyLog node port action index sub old new kind user).safety =
    { s.safety with logSeq := q, log := l, heldLog := h } := by
  unfold State.safetyLog
  dsimp only
  split <;> exact ⟨_, _, _, rfl⟩

theorem State.safetyLog_logged : s.logged (s.safetyLog node port action index sub old new kind user) action := by
  unfold State.safetyLog State.logged
  dsimp only
  by_cases dip : s.dip = true
  · have dip' : ((s.setSafety fun d => { d with logSeq := (s.safety.logSeq + 1) % 2 ^ 32 }).setObjN Obj.SAFE_LOG_SEQ
        ((s.safety.logSeq + 1) % 2 ^ 32)).dip = true := dip
    rw [if_pos dip, if_pos dip']
    simp [State.raise, State.flag, State.setSafety, State.setObjN, State.setObj, List.getLast?_append]
    decide
  · have dip' : ¬((s.setSafety fun d => { d with logSeq := (s.safety.logSeq + 1) % 2 ^ 32 }).setObjN Obj.SAFE_LOG_SEQ
        ((s.safety.logSeq + 1) % 2 ^ 32)).dip = true := dip
    rw [if_neg dip, if_neg dip']
    simp [State.raise, State.flag, State.setSafety, State.setObjN, State.setObj, List.getLast?_append]
    decide

theorem State.safetyLog_reported : Reported s (s.safetyLog node port action index sub old new kind user) := by
  obtain ⟨q, l, h, e⟩ := s.safetyLog_safety node port action index sub old new kind user
  refine ⟨⟨q, l, h, _, _, e⟩, ?_⟩
  intro o i k x
  have seq : Obj.SAFE_LOG_SEQ.key 0 0 ∈ sessionEntries := by decide
  unfold State.safetyLog
  dsimp only
  split <;> exact State.obj_setObj_of_not_mem seq x

end

/-! The CONFIG message -/

theorem State.sendConfig_reported (s : State) : Reported s s.sendConfig :=
  ⟨⟨_, _, _, _, _, rfl⟩, fun _ _ _ _ => rfl⟩

theorem State.sendConfig_logKept (s : State) : LogKept s s.sendConfig := .of_regs rfl rfl rfl rfl

theorem State.safetyImage_of_dict {s t : State} (h : t.dict = s.dict) : t.safetyImage = s.safetyImage := by
  simp only [State.safetyImage, State.obj, h]

theorem State.sendMail_mail (s : State) (type flags seq : Nat) (payload : List Byte) :
    ((s.sendMail type flags seq payload).safety.mail.getLast?.map fun x => (x.1, x.2.payload)) = some (type, payload) := by
  simp [State.sendMail, State.setSafety]

theorem State.sendConfig_configSent (s : State) : s.sendConfig.configSent := by
  have image : s.sendConfig.safetyImage = s.safetyImage := State.safetyImage_of_dict rfl
  rw [State.configSent, image]
  exact s.sendMail_mail ..

theorem State.answer_reported (s : State) (r : Nat) : Reported s (s.answer r) := ⟨⟨_, _, _, _, _, rfl⟩, fun _ _ _ _ => rfl⟩

theorem State.answer_logKept (s : State) (r : Nat) : LogKept s (s.answer r) := .of_regs rfl rfl rfl rfl

/-- The end of an order to the safety configuration that acts: the entry of the change log, the CONFIG message, the answer. -/
def State.logAndSend (s : State) (node port action : Nat) (new : List Byte) (kind : Nat) (user : List Byte) : State :=
  (s.safetyLog node port action 0 0 [] new kind user).sendConfig.answer 0

theorem State.logAndSend_reported (s : State) (node port action : Nat) (new : List Byte) (kind : Nat) (user : List Byte) :
    Reported s (s.logAndSend node port action new kind user) :=
  ((s.safetyLog_reported ..).trans (State.sendConfig_reported _)).trans (State.answer_reported _ 0)

theorem State.logAndSend_logged (s : State) (node port action : Nat) (new : List Byte) (kind : Nat) (user : List Byte) :
    s.logged (s.logAndSend node port action new kind user) action :=
  State.logged_of_logKept (.refl s) (s.safetyLog_logged node port action 0 0 [] new kind user)
    ((State.sendConfig_logKept _).trans (State.answer_logKept _ 0))

theorem State.logAndSend_configSent (s : State) (node port action : Nat) (new : List Byte) (kind : Nat) (user : List Byte) :
    (s.logAndSend node port action new kind user).configSent := State.sendConfig_configSent _

/-- An order that is refused, or answered in another way, and does nothing else. -/
theorem Does.answered {i : Instr} {s : State} {r : Nat} (e : exec i s = .next (s.answer r)) :
    Does i s [.outcome] fun t => t.outcome = r :=
  .of e (e ▸ .next (State.answer_leaves (by decide) (.refl _ s) r)) rfl

/-! Outputs of a die whose state energizes none -/

theorem State.decision_eq_zero {s : State} (h : s.safety.state ≠ 1 ∧ s.safety.state ≠ 3) (c : Nat) : s.decision c = 0 := by
  simp [State.decision, h.1, h.2]

/-- Outside SEALED and TEST no output is energized (R476). -/
theorem State.energized_eq_zero {s : State} (h : s.safety.state ≠ 1 ∧ s.safety.state ≠ 3) : s.energized = 0 := by
  simp [State.energized, State.elements, s.decision_eq_zero h]

end Sys2Proof.Machine
end

section
/-! SUPPORT. The opening of a session of the safety configuration (R504, R505). -/

namespace Sys2Proof.Machine

/-- The payload of an opening is well formed: KIND, zero bytes, USER. -/
def openingOk (v : List Byte) : Bool :=
  decide (1 ≤ leAt v 0 1 ∧ leAt v 0 1 ≤ 3) && leAt v 1 3 == 0 && utf8Ok 13 (((v.drop 4).take 12).filter (· != 0))

/-- The challenge is used up. -/
def State.spent (s : State) : State := s.setSafety fun d => { d with challenge := none }

/-- The state in which an opening is judged: the challenge is used up, and a wrong response is counted. -/
def State.openTried (s : State) (v : List Byte) : State :=
  if s.responseRight v || s.safety.blocked.isSome then s.spent else s.spent.wrongResponse

/-- The session is open, and the state of the die is that of its kind. -/
def State.inOpened (s : State) (o : OrderRec) : State :=
  s.setSafety fun d =>
    { d with
      session := some ⟨leAt o.value 0 1, o.port, orderSrc o, (o.value.drop 4).take 12, s.safety.state, false, s.tb3⟩,
      state := if d.state == 6 then 6 else if leAt o.value 0 1 == 1 then 2 else if leAt o.value 0 1 == 2 then 3 else 4 }

/-- The kind asked for does not fit the state of the die, or a claim is held. -/
def State.misplaced (s : State) (o : OrderRec) : Bool :=
  (leAt o.value 0 1 == 3) != (s.safety.state == 5) || (leAt o.value 0 1 != 2 && s.claimBusy)

theorem State.responseRight_eq (s : State) (v : List Byte) :
    s.responseRight v = (s.safety.hash.isEmpty || (match s.safety.challenge with
      | some (ch, t) => if s.elapsed t 60000000000 then none else some ((sha256 (ch ++ s.safety.hash)).take 16)
      | none => none) == some (v.drop 16)) := by
  unfold State.responseRight
  cases s.safety.challenge with
  | none => rfl
  | some c => cases h : s.elapsed c.2 60000000000 <;> simp [h]

theorem openingOk_false_iff (v : List Byte) : openingOk v = false ↔
    (!(decide (1 ≤ leAt v 0 1 ∧ leAt v 0 1 ≤ 3)) || leAt v 1 3 != 0 ||
      !utf8Ok 13 (((v.drop 4).take 12).filter (· != 0))) = true := by
  unfold openingOk
  generalize decide (1 ≤ leAt v 0 1 ∧ leAt v 0 1 ≤ 3) = kind, utf8Ok 13 (((v.drop 4).take 12).filter (· != 0)) = user
  cases kind <;> cases user <;> simp

section
variable {s : State} {o : OrderRec} (cls : o.cls = 2) (len : o.value.length = 32)
include cls len

theorem execSessionOpen_of_malformed (form : openingOk o.value = false) : execSessionOpen o s = .next (s.answer 13) :=
  (if_neg (by simp [cls])).trans ((if_neg (by simp [len])).trans (if_pos ((openingOk_false_iff _).1 form)))

theorem execSessionOpen_of_formed (form : openingOk o.value = true) : execSessionOpen o s =
    if (!s.responseRight o.value || s.safety.blocked.isSome || (s.openTried o.value).safety.session.isSome) = true then
      .next ((s.openTried o.value).refuseOpen o 12)
    else if ((leAt o.value 0 1 == 3) != ((s.openTried o.value).safety.state == 5)) = true then
      .next ((s.openTried o.value).refuseOpen o 15)
    else if (leAt o.value 0 1 != 2 && (s.openTried o.value).claimBusy) = true then .next ((s.openTried o.value).refuseOpen o 15)
    else .next (((s.openTried o.value).inOpened o).safetyEval.showSession.logAndSend (orderSrc o) o.port 1 []
      (leAt o.value 0 1) ((o.value.drop 4).take 12)) := by
  have good := mt (openingOk_false_iff o.value).2 (by simp [form])
  refine (if_neg (by simp [cls])).trans ((if_neg (by simp [len])).trans ((if_neg good).trans ?_))
  unfold State.openTried
  rw [State.responseRight_eq]
  rfl

end

/-! What an attempt changes -/

/-- A wrong response within ten minutes after four others blocks the opening; any other is remembered (R504). -/
theorem State.wrongResponse_safety (s : State) : s.wrongResponse.safety =
    if 4 ≤ (s.safety.wrong.filter fun t => !s.elapsed t 600000000000).length then
      { s.safety with wrong := [], blocked := some s.tb3 }
    else { s.safety with wrong := s.tb3 :: s.safety.wrong.filter fun t => !s.elapsed t 600000000000 } := by
  unfold State.wrongResponse
  simp only [List.length_cons, Nat.add_le_add_iff_right, show (5 : Nat) = 4 + 1 from rfl]
  split
  · exact (State.alarm_leaves (P := besideLog) (by decide) (.refl _ _) _ _ 0).safety (by decide)
  · rfl

theorem State.wrongResponse_logKept (s : State) : LogKept s s.wrongResponse := by
  unfold State.wrongResponse
  dsimp only
  split
  · exact .trans (t := s.setSafety fun d => { d with wrong := [], blocked := some s.tb3 }) ⟨rfl, rfl, rfl, rfl, rfl⟩
      (State.alarm_leaves (by decide) (.refl besideLog _) _ _ 0).logKept
  · exact ⟨rfl, rfl, rfl, rfl, rfl⟩

theorem State.openTried_of_judged {s : State} {v : List Byte}
    (h : s.responseRight v = true ∨ s.safety.blocked.isSome = true) : s.openTried v = s.spent :=
  if_pos (Bool.or_eq_true_iff.2 h)

theorem State.openTried_of_wrong {s : State} {v : List Byte} (wrong : s.responseRight v = false)
    (free : s.safety.blocked = none) : s.openTried v = s.spent.wrongResponse :=
  if_neg (by simp [wrong, free])

theorem State.openTried_safety (s : State) (v : List Byte) :
    ∃ w b, (s.openTried v).safety = { s.safety with challenge := none, wrong := w, blocked := b } := by
  unfold State.openTried
  split
  · exact ⟨_, _, rfl⟩
  · rw [s.spent.wrongResponse_safety]
    split <;> exact ⟨_, _, rfl⟩

theorem State.openTried_logKept (s : State) (v : List Byte) : LogKept s (s.openTried v) := by
  have spent : LogKept s s.spent := ⟨rfl, rfl, rfl, rfl, rfl⟩
  unfold State.openTried
  split
  · exact spent
  · exact spent.trans s.spent.wrongResponse_logKept

theorem State.refuseOpen_reported (s : State) (o : OrderRec) (r : Nat) : Reported s (s.refuseOpen o r) :=
  (s.safetyLog_reported ..).trans (State.answer_reported _ r)

theorem State.refuseOpen_logged {s t : State} (kept : LogKept s t) (o : OrderRec) (r : Nat) : s.logged (t.refuseOpen o r) 2 :=
  State.logged_of_logKept kept (t.safetyLog_logged ..) (State.answer_logKept _ r)

/-! The opening -/

section
variable {s : State} {o : OrderRec} (cls : o.cls = 2) (len : o.value.length = 32) (form : openingOk o.value = true)
include cls len form

/-- Blocked, in another session, or with a wrong response an opening is refused under reason 12. -/
theorem execSessionOpen_of_barred
    (bar : s.safety.blocked.isSome = true ∨ s.safety.session.isSome = true ∨ s.responseRight o.value = false) :
    execSessionOpen o s = .next ((s.openTried o.value).refuseOpen o 12) := by
  obtain ⟨w, b, die⟩ := s.openTried_safety o.value
  rw [execSessionOpen_of_formed cls len form, die]
  refine if_pos ?_
  rcases bar with h | h | h <;> simp [h]

theorem execSessionOpen_of_misplaced (free : s.safety.blocked = none) (none : s.safety.session = none)
    (right : s.responseRight o.value = true) (no : s.misplaced o = true) :
    execSessionOpen o s = .next (s.spent.refuseOpen o 15) := by
  rw [execSessionOpen_of_formed cls len form, State.openTried_of_judged (.inl right),
    if_neg (by simp [free, none, right, State.spent, State.setSafety])]
  by_cases kind : ((leAt o.value 0 1 == 3) != (s.safety.state == 5)) = true
  · exact if_pos kind
  · rw [State.misplaced, Bool.eq_false_iff.2 kind, Bool.false_or] at no
    exact (if_neg kind).trans (if_pos no)

theorem execSessionOpen_of_placed (free : s.safety.blocked = none) (none : s.safety.session = none)
    (right : s.responseRight o.value = true) (yes : s.misplaced o = false) :
    execSessionOpen o s = .next ((s.spent.inOpened o).safetyEval.showSession.logAndSend (orderSrc o) o.port 1 []
      (leAt o.value 0 1) ((o.value.drop 4).take 12)) := by
  obtain ⟨kind, claim⟩ := Bool.or_eq_false_iff.1 yes
  rw [execSessionOpen_of_formed cls len form, State.openTried_of_judged (.inl right),
    if_neg (by simp [free, none, right, State.spent, State.setSafety])]
  exact (if_neg (Bool.eq_false_iff.1 kind)).trans (if_neg (Bool.eq_false_iff.1 claim))

/-- The parts that an opening touches. -/
def openingParts : List Part := [.dict, .outcome, .fresh, .health, .zdp, .ports, .safety, .regs .cnt, .regs .hl, .regs .sm]

theorem sessionOpen_barred
    (bar : s.safety.blocked.isSome = true ∨ s.safety.session.isSome = true ∨ s.responseRight o.value = false) :
    Does (.sessionOpen o) s openingParts fun t => t.outcome = 12 ∧ t.safety.challenge = none ∧
      t.safety.session = s.safety.session ∧ t.safety.state = s.safety.state ∧ t.safety.chans = s.safety.chans ∧ s.logged t 2 ∧
      (s.responseRight o.value = true ∨ s.safety.blocked.isSome = true →
        t.safety.wrong = s.safety.wrong ∧ t.safety.blocked = s.safety.blocked) := by
  obtain ⟨⟨_, _, _, _, _, refused⟩, -⟩ := (s.openTried o.value).refuseOpen_reported o 12
  obtain ⟨w, b, tried⟩ := s.openTried_safety o.value
  refine .next (execSessionOpen_of_barred cls len form bar) ⟨rfl, ?_, ?_, ?_, ?_,
    State.refuseOpen_logged (s.openTried_logKept _) o 12, fun judged => ?_⟩
  iterate 4 rw [refused, tried]
  rw [refused, State.openTried_of_judged judged]
  exact ⟨rfl, rfl⟩

theorem sessionOpen_wrong (free : s.safety.blocked = none) (wrong : s.responseRight o.value = false) :
    Does (.sessionOpen o) s openingParts fun t => t.outcome = 12 ∧ t.safety.session = s.safety.session ∧
      (4 ≤ (s.safety.wrong.filter fun x => !s.elapsed x 600000000000).length →
        t.safety.blocked = some s.tb3 ∧ t.safety.wrong = []) ∧
      ((s.safety.wrong.filter fun x => !s.elapsed x 600000000000).length < 4 → t.safety.blocked = none ∧
        t.safety.wrong = s.tb3 :: s.safety.wrong.filter fun x => !s.elapsed x 600000000000) := by
  obtain ⟨⟨_, _, _, _, _, refused⟩, -⟩ := (s.openTried o.value).refuseOpen_reported o 12
  rw [State.openTried_of_wrong wrong free] at refused
  have e := execSessionOpen_of_barred cls len form (.inr (.inr wrong))
  rw [State.openTried_of_wrong wrong free] at e
  by_cases four : 4 ≤ (s.safety.wrong.filter fun x => !s.elapsed x 600000000000).length
  · rw [s.spent.wrongResponse_safety.trans (if_pos four)] at refused
    exact .next e ⟨rfl, by rw [refused]; rfl, fun _ => by rw [refused]; exact ⟨rfl, rfl⟩, fun few => by omega⟩
  · rw [s.spent.wrongResponse_safety.trans (if_neg four)] at refused
    exact .next e ⟨rfl, by rw [refused]; rfl, fun many => absurd many four, fun _ => by rw [refused]; exact ⟨free, rfl⟩⟩

theorem sessionOpen_misplaced (free : s.safety.blocked = none) (none : s.safety.session = none)
    (right : s.responseRight o.value = true) (no : s.misplaced o = true) :
    Does (.sessionOpen o) s openingParts fun t => t.outcome = 15 ∧ t.safety.session = .none ∧ t.safety.challenge = .none ∧
      t.safety.state = s.safety.state ∧ s.logged t 2 := by
  obtain ⟨⟨_, _, _, _, _, refused⟩, -⟩ := s.spent.refuseOpen_reported o 15
  refine .next (execSessionOpen_of_misplaced cls len form free none right no)
    ⟨rfl, ?_, ?_, ?_, State.refuseOpen_logged ⟨rfl, rfl, rfl, rfl, rfl⟩ o 15⟩
  · rw [refused]; exact none
  · rw [refused]; rfl
  · rw [refused]; rfl

theorem sessionOpen_placed (free : s.safety.blocked = none) (none : s.safety.session = none)
    (right : s.responseRight o.value = true) (yes : s.misplaced o = false) :
    Does (.sessionOpen o) s openingParts fun t => t.outcome = 0 ∧ t.safety.challenge = .none ∧ t.configSent ∧ s.logged t 1 ∧
      (t.safety.session.map fun x => (x.kind, x.port, x.src, x.before)) =
        some (leAt o.value 0 1, o.port, orderSrc o, s.safety.state) ∧
      t.safety.state = (if s.safety.state = 6 then 6 else if leAt o.value 0 1 = 1 then 2
        else if leAt o.value 0 1 = 2 then 3 else 4) ∧
      (leAt o.value 0 1 ≠ 2 → t.energized = 0) ∧ LatchesKept s t ∧ t.safety.cfg = s.safety.cfg ∧
      t.safety.hash = s.safety.hash := by
  have shown := (State.showSession_reported _).trans ((State.showSession _).logAndSend_reported (orderSrc o) o.port 1 []
    (leAt o.value 0 1) ((o.value.drop 4).take 12)) (s := (s.spent.inOpened o).safetyEval)
  have settled := Settled.of_eval shown
  obtain ⟨_, _, _, _, _, _, die⟩ := settled.die
  have opened : LogKept s (s.spent.inOpened o) := ⟨rfl, rfl, rfl, rfl, rfl⟩
  have kept := (opened.trans (State.safetyEval_logKept _)).trans (State.showSession_logKept _)
  have state : (s.spent.inOpened o).safety.state = (if s.safety.state = 6 then 6 else if leAt o.value 0 1 = 1 then 2
      else if leAt o.value 0 1 = 2 then 3 else 4) := by
    simp [State.inOpened, State.spent, State.setSafety]
  refine .next (execSessionOpen_of_placed cls len form free none right yes)
    ⟨rfl, ?_, State.logAndSend_configSent .., ?_, ?_, ?_, ?_, ?_, ?_, ?_⟩
  · rw [die]; rfl
  · exact State.logged_of_logKept kept (State.logAndSend_logged ..) (.refl _)
  · rw [die]; rfl
  · rw [die]; exact state
  · intro other
    refine State.energized_eq_zero ?_
    rw [die]
    change (s.spent.inOpened o).safety.state ≠ 1 ∧ (s.spent.inOpened o).safety.state ≠ 3
    rw [state]
    split_ifs <;> simp
  · exact .trans (t := s.spent.inOpened o) (.of_chans rfl) settled.latches
  · rw [die]; rfl
  · rw [die]; rfl

end

end Sys2Proof.Machine
end

section
/-! SUPPORT. The ends of a session of the safety configuration, and the orders within one (R505 to R509). -/

namespace Sys2Proof.Machine

/-! An ALARM keeps the dictionary and raises its interrupt -/

theorem State.obj_of_dict {s t : State} (h : t.dict = s.dict) (o : ObjDef) (i k : Nat) : t.obj o i k = s.obj o i k := by
  rw [State.obj, State.obj, h]

/-- The bits of every part but the dictionary. -/
def besideDict : Nat := 2 ^ 42 - 1 - 8

theorem State.alarmWith_dict (s : State) (code unit : Nat) (time : Stamp) (detail : List Word) (text : List Byte) :
    (s.alarmWith code unit time detail text).dict = s.dict := by
  have leaves : Leaves besideDict s (s.alarmWith code unit time detail text) := by
    unfold State.alarmWith
    have numbered : Leaves besideDict s { s with health := { s.health with aseq := (s.health.aseq + 1) % 2 ^ 32 } } :=
      Leaves.set_health (by decide) (.refl _ s) _
    have raised (a) := State.raise_leaves (State.takeAlarm_leaves (by decide) numbered a) Reg.HL_IRQ_ALARM (by decide) 0 0
    have counted (a) := State.count_leaves (by decide) (raised a) 0xA01 (unitKind unit) 1
    exact .ite (fun _ => .foldl (fun _ m sent => State.sendPeer_leaves (by decide) sent m true _) _ (counted _)) fun _ => counted _
  exact leaves.dict (by decide)

theorem State.alarmWith_irq (s : State) (code unit : Nat) (time : Stamp) (detail : List Word) (text : List Byte) :
    (s.alarmWith code unit time detail text).flag Reg.HL_IRQ_ALARM = true := by
  have raised (u : State) : (u.raise Reg.HL_IRQ_ALARM).flag Reg.HL_IRQ_ALARM = true := by
    simp only [State.flag, State.raise, State.rd_wr_self]
    decide
  have kept {u t : State} (h : Leaves (2 ^ 13 + 2 ^ 35) u t) : t.flag Reg.HL_IRQ_ALARM = u.flag Reg.HL_IRQ_ALARM :=
    congrArg (· != 0) (h.regs _ (by decide) _)
  unfold State.alarmWith
  dsimp only
  generalize e : State.raise _ Reg.HL_IRQ_ALARM = u
  have counted := State.count_leaves (by decide) (.refl (2 ^ 13 + 2 ^ 35) u) 0xA01 (unitKind unit) 1
  rw [kept (.ite (fun _ => .foldl (fun _ m sent => State.sendPeer_leaves (by decide) sent m true _) _ counted)
    fun _ => counted), ← e, raised]

theorem State.nextFresh_flag (s : State) (f : Field) : s.nextFresh.flag f = s.flag f := rfl

theorem State.alarmCore_irq (s : State) (b : HwBlock) (name : String) (unit : Nat) :
    (s.alarmCore b name unit).flag Reg.HL_IRQ_ALARM = true := by
  rw [State.alarmCore, State.nextFresh_flag, State.alarmWith_irq]

theorem State.alarmCore_obj (s : State) (b : HwBlock) (name : String) (unit : Nat) (o : ObjDef) (i k : Nat) :
    (s.alarmCore b name unit).obj o i k = s.obj o i k := by
  rw [State.alarmCore, State.nextFresh_obj, State.obj_of_dict (State.alarmWith_dict ..)]

/-- What the end of the lost subscriptions keeps of an ALARM: its interrupt, and every entry but the count of those ended. -/
structure AlarmKept (s t : State) : Prop where
  irq : s.flag Reg.HL_IRQ_ALARM = true → t.flag Reg.HL_IRQ_ALARM = true
  objs : ObjsBut [Obj.LOG_SUBS_ENDED.key 0 0] s t

/-- Subscription `u` is ended, before its ALARM. -/
def State.subEnded (s : State) (u : Sub) : State :=
  (({ s with zdp := { s.zdp with subs := s.zdp.subs.filter fun v => v.id != u.id } } : State).raise
      Reg.HL_IRQ_SUB_LOST).setObjN Obj.LOG_SUBS_ENDED ((s.objN Obj.LOG_SUBS_ENDED + 1) % 2 ^ 32)

theorem State.subEnded_objs (s : State) (u : Sub) : ObjsBut [Obj.LOG_SUBS_ENDED.key 0 0] s (s.subEnded u) := by
  intro o i k other
  unfold State.subEnded State.setObjN
  rw [State.obj_setObj_of_not_mem List.mem_cons_self other]
  rfl

theorem State.endLostSubs_alarmKept (s : State) : AlarmKept s s.endLostSubs := by
  refine List.foldlRecOn (op := fun t u => (t.subEnded u).alarmCore .health "SUBSCRIPTION_ENDED" 0)
    (motive := AlarmKept s) _ ⟨id, fun _ _ _ _ => rfl⟩ fun t kept u _ => ⟨fun _ => State.alarmCore_irq .., ?_⟩
  intro o i k other
  rw [State.alarmCore_obj, t.subEnded_objs u o i k other, kept.objs o i k other]

/-! The close (R507) -/

/-- The session is over; the die takes the state that its kind and its changes leave. -/
def State.ended (s : State) (x : Session) : State :=
  s.setSafety fun d =>
    { d with
      session := none, test := [], unsealed := d.unsealed || (x.kind != 2 && x.changed),
      state := if d.state == 6 then 6 else if x.kind == 2 then 1 else if x.changed then 0 else x.before }

theorem State.closeSession_eq {s : State} {x : Session} (h : s.safety.session = some x) (node port : Nat) :
    s.closeSession node port =
      ((s.safetyLog node port 3 0 0 [] [] x.kind x.user).ended x).safetyEval.showSession.sendConfig := by
  unfold State.closeSession
  rw [h]
  rfl

/-- What a close brings about. -/
structure Closed (s : State) (x : Session) (t : State) : Prop where
  session : t.safety.session = none
  test : t.safety.test = []
  state : t.safety.state = (if s.safety.state = 6 then 6 else if x.kind = 2 then 1 else if x.changed then 0 else x.before)
  unsealed : t.safety.unsealed = (s.safety.unsealed || (x.kind != 2 && x.changed))
  logged : s.logged t 3
  sent : t.configSent
  latches : LatchesKept s t
  cfg : t.safety.cfg = s.safety.cfg

theorem State.closeSession_closed {s : State} {x : Session} (h : s.safety.session = some x) (node port : Nat) :
    Closed s x (s.closeSession node port) := by
  rw [State.closeSession_eq h]
  have settled := Settled.of_eval ((State.showSession_reported _).trans (State.sendConfig_reported _))
    (s := (s.safetyLog node port 3 0 0 [] [] x.kind x.user).ended x)
  obtain ⟨_, _, _, _, _, _, die⟩ := settled.die
  obtain ⟨_, _, _, log⟩ := s.safetyLog_safety node port 3 0 0 [] [] x.kind x.user
  have ended : LogKept (s.safetyLog node port 3 0 0 [] [] x.kind x.user)
      ((s.safetyLog node port 3 0 0 [] [] x.kind x.user).ended x) := ⟨rfl, rfl, rfl, rfl, rfl⟩
  have kept := ((ended.trans (State.safetyEval_logKept _)).trans (State.showSession_logKept _)).trans
    (State.sendConfig_logKept _)
  have same : LatchesKept s ((s.safetyLog node port 3 0 0 [] [] x.kind x.user).ended x) :=
    .trans (t := s.safetyLog node port 3 0 0 [] [] x.kind x.user) (.of_chans (by rw [log])) (.of_chans rfl)
  refine ⟨?_, ?_, ?_, ?_, State.logged_of_logKept (.refl s) (s.safetyLog_logged ..) kept, State.sendConfig_configSent _,
    same.trans settled.latches, ?_⟩
  · rw [die]; rfl
  · rw [die]; rfl
  · rw [die]; simp [State.ended, State.setSafety, log]
  · rw [die]; simp [State.ended, State.setSafety, log]
  · rw [die]; simp [State.ended, State.setSafety, log]

theorem sessionClose_does {s : State} {o : OrderRec} {x : Session} (len : o.value.length = 1)
    (h : s.safety.session = some x) : Does (.sessionClose o) s [.dict, .outcome, .safety, .regs .sm] fun t =>
      t.outcome = 0 ∧ t.safety.session = none ∧ t.safety.test = [] ∧
      t.safety.state = (if s.safety.state = 6 then 6 else if x.kind = 2 then 1 else if x.changed then 0 else x.before) ∧
      t.safety.unsealed = (s.safety.unsealed || (x.kind != 2 && x.changed)) ∧ s.logged t 3 ∧ t.configSent ∧ LatchesKept s t ∧
      t.safety.cfg = s.safety.cfg := by
  have closed := State.closeSession_closed h (orderSrc o) o.port
  have e : execSessionClose o s = .next ((s.closeSession (orderSrc o) o.port).answer 0) :=
    (if_neg (by simp [len])).trans (if_neg (by simp [h]))
  exact .next e ⟨rfl, closed.session, closed.test, closed.state, closed.unsealed, closed.logged, closed.sent, closed.latches,
    closed.cfg⟩

theorem execSessionIdleTimeout_eq {s : State} {x : Session} (h : s.safety.session = some x) :
    execSessionIdleTimeout s =
      .next (if s.elapsed x.lastOrder 600000000000 then s.closeSession x.src x.port else s) := by
  unfold execSessionIdleTimeout
  rw [h]

theorem sessionIdle_does {s : State} {x : Session} (h : s.safety.session = some x)
    (idle : s.elapsed x.lastOrder 600000000000 = true) : Does .sessionIdleTimeout s [.dict, .safety, .regs .sm] fun t =>
      t.safety.session = none ∧
      t.safety.state = (if s.safety.state = 6 then 6 else if x.kind = 2 then 1 else if x.changed then 0 else x.before) ∧
      s.logged t 3 ∧ t.configSent ∧ LatchesKept s t ∧ t.safety.cfg = s.safety.cfg := by
  have closed := State.closeSession_closed h x.src x.port
  have e := execSessionIdleTimeout_eq h
  rw [if_pos idle] at e
  exact .next e ⟨closed.session, closed.state, closed.logged, closed.sent, closed.latches, closed.cfg⟩

/-! The seal (R505, R506) -/

/-- The die under a seal. -/
def State.sealed (s : State) (v : Nat) : State :=
  (s.setObjN Obj.SAFE_CCV_SEALED v).setSafety fun d =>
    { d with session := none, test := [], hasSeal := true, unsealed := false, state := if d.state == 6 then 6 else 1 }

theorem State.sendConfig_flag (s : State) (f : Field) : s.sendConfig.flag f = s.flag f := rfl

theorem State.answer_flag (s : State) (r : Nat) (f : Field) : (s.answer r).flag f = s.flag f := rfl

theorem State.sendConfig_obj (s : State) (o : ObjDef) (i k : Nat) : s.sendConfig.obj o i k = s.obj o i k := rfl

theorem State.answer_configSent {s : State} (h : s.configSent) (r : Nat) : (s.answer r).configSent := h

theorem State.answer_outcome (s : State) (r : Nat) : (s.answer r).outcome = r := rfl

/-- The seal logged, before its ALARM. -/
def State.sealLogged (s : State) (o : OrderRec) : State :=
  (s.sealed (leAt o.value 0 4)).safetyEval.showSession.safetyLog (orderSrc o) o.port 5 0 0 [] o.value s.sessionKind s.sessionUser

/-- The ALARM of a seal, and what follows every ALARM. -/
def State.sealAlarm (s : State) (v : Nat) : State :=
  (s.alarmWith (recordCode .safety "SEALED") 0 s.stamp (BitVec.ofNat 32 v :: s.freeDetail 14)
    ((List.range 28).map (Config.textByte s.fresh))).nextFresh.endLostSubs

theorem State.sealAlarm_leaves (s : State) (v : Nat) : Leaves besideLog s (s.sealAlarm v) :=
  State.endLostSubs_leaves (by decide) (State.nextFresh_leaves (by decide)
    (State.alarmWith_leaves (by decide) (.refl _ s) _ _ _ _ _))

theorem State.sealAlarm_irq (s : State) (v : Nat) : (s.sealAlarm v).flag Reg.HL_IRQ_ALARM = true :=
  by
  refine (State.endLostSubs_alarmKept _).irq ?_
  rw [State.nextFresh_flag, State.alarmWith_irq]

theorem State.sealAlarm_obj (s : State) (v : Nat) {o : ObjDef} {i k : Nat} (h : o.key i k ∉ [Obj.LOG_SUBS_ENDED.key 0 0]) :
    (s.sealAlarm v).obj o i k = s.obj o i k := by
  refine ((State.endLostSubs_alarmKept _).objs o i k h).trans ?_
  rw [State.nextFresh_obj, State.obj_of_dict (State.alarmWith_dict ..)]

theorem execSeal_of_sealed {s : State} {o : OrderRec} (len : o.value.length = 4) (set : s.safety.hash ≠ [])
    (a : s.safety.ccvA = leAt o.value 0 4) (b : s.safety.ccvB = leAt o.value 0 4) (ses : s.inSession o [1, 3] = true) :
    execSeal o s = .next (((s.sealLogged o).sealAlarm (leAt o.value 0 4)).sendConfig.answer 0) :=
  (if_neg (by simp [len])).trans ((if_neg (by simp [set, a, b])).trans (if_neg (by simp [ses])))

theorem seal_does {s : State} {o : OrderRec} (len : o.value.length = 4) (set : s.safety.hash ≠ [])
    (a : s.safety.ccvA = leAt o.value 0 4) (b : s.safety.ccvB = leAt o.value 0 4) (ses : s.inSession o [1, 3] = true) :
    Does (.seal o) s openingParts fun t => t.outcome = 0 ∧ t.safety.session = none ∧ t.safety.hasSeal = true ∧
      t.safety.unsealed = false ∧ t.safety.state = (if s.safety.state = 6 then 6 else 1) ∧
      t.objN Obj.SAFE_CCV_SEALED = leAt o.value 0 4 ∧ s.logged t 5 ∧ t.configSent ∧ t.flag Reg.HL_IRQ_ALARM = true ∧
      LatchesKept s t ∧ t.safety.cfg = s.safety.cfg := by
  have alarm := (s.sealLogged o).sealAlarm_leaves (leAt o.value 0 4)
  have logged : Settled (s.sealed (leAt o.value 0 4)) (s.sealLogged o) :=
    .of_eval ((State.showSession_reported _).trans (State.safetyLog_reported ..))
  obtain ⟨_, _, _, _, _, _, die⟩ := logged.die
  obtain ⟨⟨_, _, _, _, _, sent⟩, -⟩ := (State.sendConfig_reported ((s.sealLogged o).sealAlarm (leAt o.value 0 4))).trans
    (State.answer_reported _ 0)
  rw [alarm.safety (by decide), die] at sent
  have sealed : LogKept s (s.sealed (leAt o.value 0 4)) := ⟨rfl, rfl, rfl, rfl, rfl⟩
  have before := (sealed.trans (State.safetyEval_logKept _)).trans (State.showSession_logKept _)
  have after := (alarm.logKept.trans (State.sendConfig_logKept _)).trans (State.answer_logKept _ 0)
  have entry : (s.sealLogged o).obj Obj.SAFE_CCV_SEALED = .num (leAt o.value 0 4) := by
    rw [logged.objs _ _ _ (by decide)]
    exact State.obj_setObj_self s Obj.SAFE_CCV_SEALED _ 0 0
  refine .next (execSeal_of_sealed len set a b ses) ⟨State.answer_outcome .., ?_, ?_, ?_, ?_, ?_,
    State.logged_of_logKept before (State.safetyLog_logged ..) after,
    State.answer_configSent (State.sendConfig_configSent _) 0, ?_, ?_, ?_⟩
  · rw [sent]; rfl
  · rw [sent]; rfl
  · rw [sent]; rfl
  · rw [sent]; simp [State.sealed, State.setSafety, State.setObjN, State.setObj]
  · rw [State.objN, State.answer_obj, State.sendConfig_obj, State.sealAlarm_obj _ _ (by decide), entry]
    rfl
  · rw [State.answer_flag, State.sendConfig_flag, State.sealAlarm_irq]
  · exact .trans (t := s.sealed (leAt o.value 0 4)) (.of_chans rfl) (logged.latches.trans (.of_chans (by rw [sent, die])))
  · rw [sent]; rfl

end Sys2Proof.Machine
end

section
/-! SUPPORT. The password, its reset and the test demand (R505, R508), and the sessions as a whole. -/

namespace Sys2Proof.Machine

/-! The password -/

/-- The password of the order is in force, and the session has seen the order. -/
def State.passworded (s : State) (o : OrderRec) : State :=
  ((s.setSafety fun d => { d with salt := o.value.take 16, hash := o.value.drop 16 }).setObjN Obj.SAFE_PASSWORD_SET 1).touchSession
    false

theorem execPassword_of_set {s : State} {o : OrderRec} (len : o.value.length = 48) (ses : s.inSession o [1, 3] = true) :
    execPassword o s = .next ((s.passworded o).logAndSend (orderSrc o) o.port 6 [] (s.passworded o).sessionKind
      (s.passworded o).sessionUser) :=
  (if_neg (by simp [len])).trans (if_neg (by simp [ses]))

theorem password_does {s : State} {o : OrderRec} (len : o.value.length = 48) (ses : s.inSession o [1, 3] = true) :
    Does (.password o) s [.dict, .outcome, .safety, .regs .sm] fun t => t.outcome = 0 ∧
      t.safety.salt = o.value.take 16 ∧ t.safety.hash = o.value.drop 16 ∧ t.objN Obj.SAFE_PASSWORD_SET = 1 ∧
      t.safety.session = (s.safety.session.map fun x => { x with lastOrder := s.tb3 }) ∧ s.logged t 6 ∧ t.configSent ∧
      t.safety.chans = s.safety.chans ∧ t.safety.state = s.safety.state := by
  obtain ⟨⟨_, _, _, _, _, die⟩, objs⟩ := (s.passworded o).logAndSend_reported (orderSrc o) o.port 6 []
    (s.passworded o).sessionKind (s.passworded o).sessionUser
  have kept : LogKept s (s.passworded o) := ⟨rfl, rfl, rfl, rfl, rfl⟩
  have entry : (s.passworded o).obj Obj.SAFE_PASSWORD_SET = .num 1 :=
    State.obj_setObj_self (s.setSafety fun d => { d with salt := o.value.take 16, hash := o.value.drop 16 }) _ _ 0 0
  refine .next (execPassword_of_set len ses) ⟨State.answer_outcome .., ?_, ?_, ?_, ?_,
    State.logged_of_logKept kept (State.logAndSend_logged ..) (.refl _), State.logAndSend_configSent .., ?_, ?_⟩
  · rw [die]; rfl
  · rw [die]; rfl
  · rw [State.objN, objs _ _ _ (by decide), entry]; rfl
  · rw [die]; exact congrArg (fun f => s.safety.session.map f) (funext fun x => by rw [Bool.or_false]; rfl)
  · rw [die]; rfl
  · rw [die]; rfl

/-! The reset of the password -/

/-- The keys of the safety parameters in the dictionary. -/
def safetyParamKey (k : Nat) : Bool :=
  decide (0x981000 ≤ k ∧ k < 0x988000) && (Obj.table.any fun o => o.safetyParam && o.hasIndex (k / 256) && o.hasSub (k % 256))

/-- The die without password, session, seal and parameters. -/
def State.unset (s : State) : State :=
  ((s.dropObjs safetyParamKey).setSafety fun d =>
    { d with
      salt := [], hash := [], session := none, test := [], hasSeal := false, unsealed := true,
      state := if d.state == 6 then 6 else 0 }).setObjN Obj.SAFE_PASSWORD_SET 0

theorem execPasswordReset_of_reset {s : State} {o : OrderRec} (len : o.value.length = 1) (cls : o.cls = 2)
    (one : leAt o.value 0 1 = 1) (bench : s.bench = true) : execPasswordReset o s =
      .next (s.unset.safetyEval.showSession.logAndSend (orderSrc o) o.port 8 [] s.sessionKind s.sessionUser) :=
  (if_neg (by simp [len])).trans ((if_neg (by simp [cls])).trans ((if_neg (by simp [one])).trans (if_neg (by simp [bench]))))

theorem passwordReset_does {s : State} {o : OrderRec} (len : o.value.length = 1) (cls : o.cls = 2)
    (one : leAt o.value 0 1 = 1) (bench : s.bench = true) :
    Does (.passwordReset o) s [.dict, .outcome, .safety, .regs .sm] fun t => t.outcome = 0 ∧
      t.safety.salt = [] ∧ t.safety.hash = [] ∧ t.safety.session = none ∧ t.safety.hasSeal = false ∧ t.safety.unsealed = true ∧
      t.safety.state = (if s.safety.state = 6 then 6 else 0) ∧ t.objN Obj.SAFE_PASSWORD_SET = 0 ∧ t.energized = 0 ∧
      s.logged t 8 ∧ t.configSent ∧ LatchesKept s t := by
  have settled : Settled s.unset (s.unset.safetyEval.showSession.logAndSend (orderSrc o) o.port 8 [] s.sessionKind s.sessionUser) :=
    .of_eval ((State.showSession_reported _).trans (State.logAndSend_reported ..))
  obtain ⟨_, _, _, _, _, _, die⟩ := settled.die
  have unset : LogKept s s.unset := ⟨rfl, rfl, rfl, rfl, rfl⟩
  have kept := (unset.trans (State.safetyEval_logKept _)).trans (State.showSession_logKept _)
  have state : s.unset.safety.state = if s.safety.state = 6 then 6 else 0 := by
    simp [State.unset, State.setSafety, State.setObjN, State.setObj, State.dropObjs]
  have entry : s.unset.obj Obj.SAFE_PASSWORD_SET = .num 0 :=
    State.obj_setObj_self (State.setSafety (s.dropObjs safetyParamKey) _) _ _ 0 0
  refine .next (execPasswordReset_of_reset len cls one bench) ⟨State.answer_outcome .., ?_, ?_, ?_, ?_, ?_, ?_, ?_, ?_,
    State.logged_of_logKept kept (State.logAndSend_logged ..) (.refl _), State.logAndSend_configSent .., ?_⟩
  · rw [die]; rfl
  · rw [die]; rfl
  · rw [die]; rfl
  · rw [die]; rfl
  · rw [die]; rfl
  · rw [die]; exact state
  · rw [State.objN, settled.objs _ _ _ (by decide), entry]; rfl
  · refine State.energized_eq_zero ?_
    rw [die]
    change s.unset.safety.state ≠ 1 ∧ s.unset.safety.state ≠ 3
    rw [state]
    split_ifs <;> simp
  · exact .trans (t := s.unset) (.of_chans rfl) settled.latches

/-! The test demand -/

/-- The demand of the order is in force, and the session has seen the order. -/
def State.underTest (s : State) (o : OrderRec) : State :=
  (s.setSafety fun d => { d with test := if o.value.all (· == 0) then [] else o.value }).touchSession false

theorem execTestDemand_of_session {s : State} {o : OrderRec} (len : o.value.length = 32) (ses : s.inSession o [2] = true) :
    execTestDemand o s = .next ((s.underTest o).safetyEval.logAndSend (orderSrc o) o.port 7 o.value
      (s.underTest o).sessionKind (s.underTest o).sessionUser) :=
  (if_neg (by simp [len])).trans (if_neg (by simp [ses]))

/-- A cause that an output's conditions bring trips the output and is latched (R483). -/
theorem State.evalChan_trips {s : State} {c b : Nat} {k : Fin 8}
    (h : bitOf (s.outCauses (s.evalHead c) (s.demands c) (s.sf3Causes c (s.ownCauses c) (s.ownDemands c)) (s.zonesHeld c) k) b
      = true) : bitOf (s.evalChan c none).trip k = true ∧ bitOf (Map.get 0 (s.evalChan c none).lcause k) b = true := by
  refine ⟨State.trip_of_cause (State.tripCauses_ne_zero (ne_zero_of_bitOf h)), ?_⟩
  rw [s.bitOf_evalChan_lcause, State.tripCauses, bitOf_or, h]
  simp

/-- In TEST a demand of the test trips the outputs of function 1 on its thrusters under cause 21 (R508). -/
theorem State.underTest_trips {s : State} {o : OrderRec} (state : s.safety.state = 3) (asks : o.value.all (· == 0) = false)
    (c : Nat) {k : Fin 8} (sf1 : s.sp Obj.SO_FUNCTION k = 1) (meets : leAt o.value 4 4 &&& s.sp Obj.SO_THRUSTERS k ≠ 0) :
    bitOf ((s.underTest o).evalChan c none).trip k = true ∧
      bitOf (Map.get 0 ((s.underTest o).evalChan c none).lcause k) 21 = true := by
  have test : (s.underTest o).safety.test = o.value := if_neg (Bool.eq_false_iff.1 asks)
  have any : o.value.any (· != 0) = true := by
    obtain ⟨x, mem, ne⟩ := List.all_eq_false.1 asks
    exact List.any_eq_true.2 ⟨x, mem, by simpa using ne⟩
  have demands : (s.underTest o).testDemands = [⟨leAt o.value 4 4, leAt o.value 1 1, leAt o.value 2 1 == 1, 21⟩] := by
    have three : (s.underTest o).safety.state = 3 := state
    rw [State.testDemands, test, three, any]
    rfl
  have mem : ⟨leAt o.value 4 4, leAt o.value 1 1, leAt o.value 2 1 == 1, 21⟩ ∈ (s.underTest o).demands c := by
    simp [State.demands, demands]
  exact State.evalChan_trips (State.outCauses_sf1 (s := s.underTest o) sf1 mem meets _ _ _)

theorem testDemand_does {s : State} {o : OrderRec} (len : o.value.length = 32) (ses : s.inSession o [2] = true) :
    Does (.testDemand o) s [.dict, .outcome, .safety, .regs .sm] fun t => t.outcome = 0 ∧
      t.safety.test = (if o.value.all (· == 0) then [] else o.value) ∧ s.logged t 7 ∧ t.configSent ∧ LatchesKept s t ∧
      (s.safety.live = true → s.safety.state = 3 → o.value.all (· == 0) = false →
        (∀ (c : Fin 2) (k : Fin 8), s.sp Obj.SO_FUNCTION k = 1 → leAt o.value 4 4 &&& s.sp Obj.SO_THRUSTERS k ≠ 0 →
          bitOf (t.chan c).trip k = true ∧ bitOf (Map.get 0 (t.chan c).lcause k) 21 = true)) ∧
      t.safety.state = s.safety.state ∧ t.safety.cfg = s.safety.cfg := by
  have reported := (s.underTest o).safetyEval.logAndSend_reported (orderSrc o) o.port 7 o.value
    (s.underTest o).sessionKind (s.underTest o).sessionUser
  have settled := Settled.of_eval reported
  obtain ⟨_, _, _, _, _, _, die⟩ := settled.die
  have testing : LogKept s (s.underTest o) := ⟨rfl, rfl, rfl, rfl, rfl⟩
  refine .next (execTestDemand_of_session len ses) ⟨State.answer_outcome .., ?_,
    State.logged_of_logKept (testing.trans (State.safetyEval_logKept _)) (State.logAndSend_logged ..) (.refl _),
    State.logAndSend_configSent .., ?_, ?_, ?_, ?_⟩
  · rw [die]; rfl
  · exact .trans (t := s.underTest o) (.of_chans rfl) settled.latches
  · intro live state asks c k sf1 meets
    rw [State.chan, reported.chans]
    change bitOf ((s.underTest o).safetyEval.chan c).trip k = true ∧
      bitOf (Map.get 0 ((s.underTest o).safetyEval.chan c).lcause k) 21 = true
    rw [State.safetyEval_chan_of_live (s := s.underTest o) live c]
    exact State.underTest_trips state asks c sf1 meets
  · rw [die]; rfl
  · rw [die]; rfl

/-! The times of the challenge and of the block (R504) -/

theorem challengeExpiry_does {s : State} {b : List Byte} {at_ : Nat} (h : s.safety.challenge = some (b, at_)) :
    Does .challengeExpiry s [.safety] fun t =>
      t.safety.challenge = (if s.elapsed at_ 60000000000 then none else some (b, at_)) ∧ t.safety.session = s.safety.session ∧
      t.safety.chans = s.safety.chans ∧ t.safety.state = s.safety.state := by
  have e : exec .challengeExpiry s = .next (if s.elapsed at_ 60000000000 then
      s.setSafety fun d => { d with challenge := none } else s) := by
    change execChallengeExpiry s = _
    unfold execChallengeExpiry
    rw [h]
  refine .next e ?_
  split
  · exact ⟨rfl, rfl, rfl, rfl⟩
  · exact ⟨h, rfl, rfl, rfl⟩

theorem openBlockExpiry_does {s : State} {at_ : Nat} (h : s.safety.blocked = some at_) :
    Does .openBlockExpiry s [.safety] fun t =>
      t.safety.blocked = (if s.elapsed at_ 900000000000 then none else some at_) ∧ DieKept s t ∧
      t.safety.chans = s.safety.chans := by
  have e : exec .openBlockExpiry s = .next (if s.elapsed at_ 900000000000 then
      s.setSafety fun d => { d with blocked := none } else s) := by
    change execOpenBlockExpiry s = _
    unfold execOpenBlockExpiry
    rw [h]
  refine .next e ?_
  split
  · exact ⟨rfl, DieKept.refl s, rfl⟩
  · exact ⟨h, DieKept.refl s, rfl⟩

theorem execChallengeExpiry_of_none {s : State} (h : s.safety.challenge = none) : exec .challengeExpiry s = .next s := by
  change execChallengeExpiry s = _
  unfold execChallengeExpiry
  rw [h]

theorem execOpenBlockExpiry_of_none {s : State} (h : s.safety.blocked = none) : exec .openBlockExpiry s = .next s := by
  change execOpenBlockExpiry s = _
  unfold execOpenBlockExpiry
  rw [h]

theorem execSessionIdleTimeout_of_none {s : State} (h : s.safety.session = none) : exec .sessionIdleTimeout s = .next s := by
  change execSessionIdleTimeout s = _
  unfold execSessionIdleTimeout
  rw [h]

theorem execSessionIdleTimeout_of_recent {s : State} {x : Session} (h : s.safety.session = some x)
    (recent : s.elapsed x.lastOrder 600000000000 = false) : exec .sessionIdleTimeout s = .next s :=
  (execSessionIdleTimeout_eq h).trans (by rw [recent]; rfl)

/-! Refusals of the orders -/

theorem execSeal_of_mismatch {s : State} {o : OrderRec} (len : o.value.length = 4)
    (no : s.safety.hash = [] ∨ s.safety.ccvA ≠ leAt o.value 0 4 ∨ s.safety.ccvB ≠ leAt o.value 0 4) :
    execSeal o s = .next (s.answer 14) := by
  refine (if_neg (by simp [len])).trans (if_pos ?_)
  rcases no with h | h | h <;> simp [h]

/-- Settles O38: an order is refused by the first check that it fails; past its checks each is one change of the die, an
evaluation, and the report of both. -/
theorem safetySessions : Obligations.SafetySessions := by
  unfold Obligations.SafetySessions
  refine ⟨fun s o cls => .answered (if_pos (by simp [cls])),
    fun s o cls len => .answered ((if_neg (by simp [cls])).trans (if_pos (by simp [len]))),
    fun s o cls len form => .answered (execSessionOpen_of_malformed cls len form),
    fun s o cls len form => sessionOpen_barred cls len form,
    fun s o cls len form => sessionOpen_wrong cls len form,
    fun s o cls len form => sessionOpen_misplaced cls len form,
    fun s o cls len form => sessionOpen_placed cls len form,
    fun s => execChallengeExpiry_of_none, fun s b at_ => challengeExpiry_does,
    fun s => execOpenBlockExpiry_of_none, fun s at_ => openBlockExpiry_does,
    fun s o len => .answered (if_pos (by simp [len])),
    fun s o len none => .answered ((if_neg (by simp [len])).trans (if_pos (by simp [none]))),
    fun s o x => sessionClose_does,
    fun s => execSessionIdleTimeout_of_none, fun s x => execSessionIdleTimeout_of_recent, fun s x => sessionIdle_does,
    fun s o len => .answered (if_pos (by simp [len])),
    fun s o len no => .answered (execSeal_of_mismatch len no),
    fun s o len set a b ses => .answered
      ((if_neg (by simp [len])).trans ((if_neg (by simp [set, a, b])).trans (if_pos (by simp [ses])))),
    fun s o => seal_does,
    fun s o len => .answered (if_pos (by simp [len])),
    fun s o len ses => .answered ((if_neg (by simp [len])).trans (if_pos (by simp [ses]))),
    fun s o => password_does,
    fun s o len => .answered (if_pos (by simp [len])),
    fun s o len cls => .answered ((if_neg (by simp [len])).trans (if_pos (by simp [cls]))),
    fun s o len cls one => .answered ((if_neg (by simp [len])).trans ((if_neg (by simp [cls])).trans (if_pos (by simp [one])))),
    fun s o len cls one bench => .answered ((if_neg (by simp [len])).trans ((if_neg (by simp [cls])).trans
      ((if_neg (by simp [one])).trans (if_pos (by simp [bench]))))),
    fun s o => passwordReset_does,
    fun s o len => .answered (if_pos (by simp [len])),
    fun s o len ses => .answered ((if_neg (by simp [len])).trans (if_pos (by simp [ses]))),
    fun s o => testDemand_does⟩

end Sys2Proof.Machine
end

section
/-! SUPPORT. A message of the hub at the safety die (R493): taken, dropped, or accepted with its stamp (R498). -/

namespace Sys2Proof.Machine

theorem DieKept.trans {s t u : State} (h : DieKept s t) (k : DieKept t u) : DieKept s u := by
  obtain ⟨h1, h2, h3, h4, h5, h6, h7, h8, h9, h10, h11, h12, h13⟩ := h
  obtain ⟨k1, k2, k3, k4, k5, k6, k7, k8, k9, k10, k11, k12, k13⟩ := k
  exact ⟨k1.trans h1, k2.trans h2, k3.trans h3, k4.trans h4, k5.trans h5, k6.trans h6, k7.trans h7, k8.trans h8,
    k9.trans h9, k10.trans h10, k11.trans h11, k12.trans h12, k13.trans h13⟩

/-! What connections and clocks change -/

/-- `h'` differs from `h` at most in its connections and its clock. -/
def SafeChan.ConnsOnly (h h' : SafeChan) : Prop :=
  ∃ conns anchor window ratio timeOk,
    h' = { h with conns := conns, anchor := anchor, window := window, ratio := ratio, timeOk := timeOk }

theorem SafeChan.ConnsOnly.refl (h : SafeChan) : h.ConnsOnly h := ⟨_, _, _, _, _, rfl⟩

theorem SafeChan.ConnsOnly.trans {h k l : SafeChan} : h.ConnsOnly k → k.ConnsOnly l → h.ConnsOnly l := by
  rintro ⟨_, _, _, _, _, rfl⟩ ⟨_, _, _, _, _, rfl⟩
  exact ⟨_, _, _, _, _, rfl⟩

/-- What a stamp and a PDU may change in the die: connections and clocks of the channels, and the counts of rejections. The
straps stay. -/
structure Linked (s t : State) : Prop where
  die : ∃ m r, t.safety = { s.safety with chans := m, rejected := r }
  chan : ∀ c, (s.chan c).ConnsOnly (t.chan c)
  control : t.control = s.control

theorem Linked.refl (s : State) : Linked s s := ⟨⟨_, _, rfl⟩, fun _ => .refl _, rfl⟩

theorem Linked.trans {s t u : State} (h : Linked s t) (k : Linked t u) : Linked s u := by
  obtain ⟨_, _, hd⟩ := h.die
  obtain ⟨m, r, kd⟩ := k.die
  exact ⟨⟨m, r, by rw [kd, hd]⟩, fun c => (h.chan c).trans (k.chan c), k.control.trans h.control⟩

theorem Linked.of_safety {s t : State} (die : t.safety = s.safety) (control : t.control = s.control) : Linked s t :=
  ⟨⟨_, _, die⟩, fun c => by rw [State.chan, State.chan, die]; exact .refl _, control⟩

theorem Linked.setChan {s : State} {f : SafeChan → SafeChan} (c : Nat) (hf : ∀ h : SafeChan, h.ConnsOnly (f h)) :
    Linked s (s.setChan c f) := by
  refine ⟨⟨_, _, rfl⟩, fun d => ?_, rfl⟩
  rw [State.chan_setChan]
  split_ifs with e
  · exact e ▸ hf _
  · exact .refl _

theorem Linked.latchesKept {s t : State} (h : Linked s t) : LatchesKept s t :=
  .of_eq fun c => by
    obtain ⟨_, _, _, _, _, e⟩ := h.chan c
    rw [e]
    exact ⟨rfl, rfl⟩

theorem Linked.dieKept {s t : State} (h : Linked s t) : DieKept s t := by
  obtain ⟨_, _, e⟩ := h.die
  simp [DieKept, e]

/-- An ALARM of the die touches neither it nor the straps. -/
theorem State.dieAlarm_linked (s : State) (name : String) : Linked s (s.dieAlarm name) := by
  have h := State.dieAlarm_leaves (P := besideLog - 2 ^ 40) (by decide) (.refl _ s) name
  refine .of_safety (h.safety (by decide)) ?_
  exact congrArg (· == 1) (h.regs _ (by decide) _)

theorem State.connFail_linked (s : State) (c k : Nat) : Linked s (s.connFail c k) := by
  have fail : Linked s (s.setChan c fun h =>
      { h with conns := Map.upd {} h.conns k fun x => { x with st := 2, good := 0, rejects := [] } }) :=
    .setChan c fun h => ⟨_, _, _, _, _, rfl⟩
  unfold State.connFail
  dsimp only
  split
  · exact fail
  · exact fail.trans (State.dieAlarm_linked _ _)

theorem State.timeFault_linked (s : State) (c : Nat) : Linked s (s.timeFault c) := by
  unfold State.timeFault
  exact List.foldlRecOn (motive := Linked s) _ _ (.refl s) fun t kept k _ => kept.trans (t.connFail_linked c k)

theorem SafeChan.takeStamp_connsOnly (h : SafeChan) (l t : Nat) : h.ConnsOnly (h.takeStamp l t) := by
  unfold SafeChan.takeStamp
  dsimp only
  split
  · exact ⟨_, _, _, _, _, rfl⟩
  · split <;> exact ⟨_, _, _, _, _, rfl⟩

/-- The stamp taken by channel c alone. -/
def State.stampOne (s : State) (t c l : Nat) : State :=
  if (s.chan c).timeOk && !((s.setChan c fun h => h.takeStamp l t).chan c).timeOk then
    (s.setChan c fun h => h.takeStamp l t).timeFault c
  else s.setChan c fun h => h.takeStamp l t

theorem State.stampOne_linked (s : State) (t c l : Nat) : Linked s (s.stampOne t c l) := by
  have stamp : Linked s (s.setChan c fun h => h.takeStamp l t) := .setChan c fun h => h.takeStamp_connsOnly l t
  unfold State.stampOne
  split
  · exact stamp.trans (State.timeFault_linked _ c)
  · exact stamp

theorem State.takeStamp_linked (s : State) (la lb t : Nat) : Linked s (s.takeStamp la lb t) :=
  (s.stampOne_linked t 0 la).trans ((s.stampOne t 0 la).stampOne_linked t 1 lb)

/-! Taking a message -/

theorem State.mailTaken_safety (s : State) (q : Nat) : (s.mailTaken q).safety = { s.safety with mail := s.mailLeft q } := by
  unfold State.mailTaken
  split <;> rfl

theorem State.mailTaken_control (s : State) (q : Nat) : (s.mailTaken q).control = s.control :=
  congrArg (· == 1) ((State.mailTaken_leaves (P := 274878431232) (by decide) (.refl _ s) q).regs _ (by decide) _)

theorem State.mailTaken_dropped (s : State) (q : Nat) :
    (s.mailTaken q).rd Reg.SM_DROPPED_DIE_DROPPED = s.rd Reg.SM_DROPPED_DIE_DROPPED := by
  unfold State.mailTaken
  split
  · rw [State.raise, State.rd_wr, if_neg (by decide), State.rd_wr, if_neg (by decide)]
    rfl
  · rfl

/-- The state in which an accepted message takes effect. -/
structure Readied (s : State) (q : Nat) (t : State) : Prop where
  die : ∃ m r, t.safety = { s.safety with mail := s.mailLeft q, dieLast := some q, chans := m, rejected := r }
  chan : ∀ c, (s.chan c).ConnsOnly (t.chan c)
  control : t.control = s.control

theorem State.dieReady_readied (s : State) (m : MailMsg) (la lb : Nat) : Readied s m.seq.toNat (s.dieReady m la lb) := by
  have linked := State.takeStamp_linked ((s.mailTaken m.seq.toNat).setSafety fun d => { d with dieLast := some m.seq.toNat })
    la lb (mailTime m)
  have taken := s.mailTaken_safety m.seq.toNat
  obtain ⟨ch, r, die⟩ := linked.die
  refine ⟨⟨ch, r, ?_⟩, fun c => ?_, linked.control.trans (s.mailTaken_control _)⟩
  · rw [State.dieReady, die, State.setSafety, taken]
  · have same : ((s.mailTaken m.seq.toNat).setSafety fun d => { d with dieLast := some m.seq.toNat }).chan c = s.chan c := by
      simp only [State.chan, State.setSafety, taken]
    exact same ▸ linked.chan c

theorem Readied.latchesKept {s t : State} {q : Nat} (h : Readied s q t) : LatchesKept s t :=
  .of_eq fun c => by
    obtain ⟨_, _, _, _, _, e⟩ := h.chan c
    rw [e]
    exact ⟨rfl, rfl⟩

theorem Readied.dieKept {s t : State} {q : Nat} (h : Readied s q t) : DieKept s t := by
  obtain ⟨_, _, e⟩ := h.die
  simp [DieKept, e]

theorem Readied.dieLast {s t : State} {q : Nat} (h : Readied s q t) : t.safety.dieLast = some q := by
  obtain ⟨_, _, e⟩ := h.die
  rw [e]

theorem Readied.mail {s t : State} {q : Nat} (h : Readied s q t) : t.safety.mail = s.mailLeft q := by
  obtain ⟨_, _, e⟩ := h.die
  rw [e]

theorem Readied.live {s t : State} {q : Nat} (h : Readied s q t) : t.safety.live = s.safety.live := by
  obtain ⟨_, _, e⟩ := h.die
  rw [e]

theorem Readied.sp {s t : State} {q : Nat} (h : Readied s q t) (o : ObjDef) (i k : Nat) : t.sp o i k = s.sp o i k := by
  obtain ⟨_, _, e⟩ := h.die
  simp [State.sp, State.sparam, e]

/-! The three ends of a message -/

/-- Every message goes by its TYPE through the same gate. -/
theorem exec_of_dieMessages {m : MailMsg} {la lb : Nat} {node : Option (BitVec 14)} {skew : Word} {type : Nat} {i : Instr}
    (h : (type, i) ∈ dieMessages m la lb node skew) (s : State) : ∃ f, exec i s = .next (s.dieTake type m la lb f) := by
  simp only [dieMessages, List.mem_cons, Prod.mk.injEq, List.not_mem_nil, or_false] at h
  rcases h with ⟨rfl, rfl⟩ | ⟨rfl, rfl⟩ | ⟨rfl, rfl⟩ | ⟨rfl, rfl⟩ | ⟨rfl, rfl⟩ | ⟨rfl, rfl⟩ | ⟨rfl, rfl⟩ <;>
    exact ⟨_, rfl⟩

section
variable {s : State} {type : Nat} {m : MailMsg} (la lb : Nat) (f : State → State)

theorem State.dieTake_of_dead (dead : s.safety.live = false) : s.dieTake type m la lb f = s.mailTaken m.seq.toNat := by
  refine if_pos ?_
  rw [s.mailTaken_safety, dead]
  rfl

/-- The check of R493 after the message has been taken is that before. -/
theorem State.dieAccepts_mailTaken (live : s.safety.live = true) (q : Nat) :
    (m.crc.toNat == safetyCrc (mailBody type m) && decide (m.payload.length ≤ 4060) &&
      seqFollows (s.mailTaken q).safety.dieLast m.seq.toNat) = s.dieAccepts type m := by
  rw [State.dieAccepts, live, Bool.true_and, s.mailTaken_safety]

theorem State.mailTaken_live (live : s.safety.live = true) (q : Nat) : ¬(!(s.mailTaken q).safety.live) = true := by
  simp [s.mailTaken_safety, live]

theorem State.dieTake_of_dropped (live : s.safety.live = true) (no : s.dieAccepts type m = false) :
    s.dieTake type m la lb f = (s.mailTaken m.seq.toNat).incSat Reg.SM_DROPPED_DIE_DROPPED := by
  refine (if_neg (State.mailTaken_live live _)).trans (if_neg ?_)
  rw [State.dieAccepts_mailTaken live, no]
  exact Bool.false_ne_true

theorem State.live_of_dieAccepts (yes : s.dieAccepts type m = true) : s.safety.live = true := by
  simp only [State.dieAccepts, Bool.and_eq_true] at yes
  exact yes.1.1.1

theorem State.dieTake_of_accepted (yes : s.dieAccepts type m = true) :
    s.dieTake type m la lb f = (f (s.dieReady m la lb)).safetyEval := by
  have live := State.live_of_dieAccepts yes
  refine (if_neg (State.mailTaken_live live _)).trans (if_pos ?_)
  rw [State.dieAccepts_mailTaken live, yes]

end

theorem dieMessage_dead {s : State} {m : MailMsg} {la lb : Nat} {node : Option (BitVec 14)} {skew : Word} {type : Nat}
    {i : Instr} (h : (type, i) ∈ dieMessages m la lb node skew) (dead : s.safety.live = false) :
    Does i s [.safety, .regs .sm] fun t => t.safety = { s.safety with mail := s.mailLeft m.seq.toNat } ∧
      t.rd Reg.SM_DROPPED_DIE_DROPPED = s.rd Reg.SM_DROPPED_DIE_DROPPED := by
  obtain ⟨f, e⟩ := exec_of_dieMessages h s
  rw [State.dieTake_of_dead la lb f dead] at e
  exact .of e (e ▸ .next (State.mailTaken_leaves (by decide) (.refl _ s) _)) ⟨s.mailTaken_safety _, s.mailTaken_dropped _⟩

theorem dieMessage_dropped {s : State} {m : MailMsg} {la lb : Nat} {node : Option (BitVec 14)} {skew : Word} {type : Nat}
    {i : Instr} (h : (type, i) ∈ dieMessages m la lb node skew) (live : s.safety.live = true)
    (no : s.dieAccepts type m = false) :
    Does i s [.safety, .regs .sm] fun t => t.safety = { s.safety with mail := s.mailLeft m.seq.toNat } ∧
      t.rd Reg.SM_DROPPED_DIE_DROPPED = min (2 ^ 16 - 1) (s.rd Reg.SM_DROPPED_DIE_DROPPED + 1) := by
  obtain ⟨f, e⟩ := exec_of_dieMessages h s
  rw [State.dieTake_of_dropped la lb f live no] at e
  refine .of e (e ▸ .next (State.incSat_leaves (State.mailTaken_leaves (by decide) (.refl _ s) _) _ (by decide) 0 0 1))
    ⟨s.mailTaken_safety _, ?_⟩
  rw [State.incSat, State.rd_wr_self, s.mailTaken_dropped]
  change min (2 ^ 16 - 1) _ % 2 ^ 16 = _
  exact Nat.mod_eq_of_lt (by omega)

end Sys2Proof.Machine
end

section
/-! SUPPORT. What each message of the hub does on a live die that accepts it (R485, R488, R493, R494). -/

namespace Sys2Proof.Machine

/-- The parts that a message to the die touches. -/
def messageParts : List Part := [.dict, .fresh, .health, .zdp, .ports, .safety, .regs .cnt, .regs .hl, .regs .sm]

/-- Both channels changed alike. -/
def State.bothChans (s : State) (f : SafeChan → SafeChan) : State := (s.setChan 0 f).setChan 1 f

theorem State.chan_bothChans (s : State) (f : SafeChan → SafeChan) (c : Fin 2) : (s.bothChans f).chan c = f (s.chan c) := by
  match c with
  | 0 => simp [State.bothChans, State.chan_setChan]
  | 1 => simp [State.bothChans, State.chan_setChan]

theorem State.bothChans_chansOnly (s : State) (f : SafeChan → SafeChan) : ChansOnly s (s.bothChans f) :=
  (s.setChan_chansOnly 0 f).trans (State.setChan_chansOnly _ 1 f)

theorem State.bothChans_control (s : State) (f : SafeChan → SafeChan) : (s.bothChans f).control = s.control := rfl

theorem State.bothChans_latchesKept (s : State) {f : SafeChan → SafeChan}
    (hf : ∀ h, (f h).trip = h.trip ∧ (f h).zones = h.zones) : LatchesKept s (s.bothChans f) :=
  (s.setChan_latchesKept 0 hf).trans (State.setChan_latchesKept _ 1 hf)

/-- What every accepted message comes to: its SEQ is held, it no longer waits, and the die keeps its latches and the rest of
`DieKept`. -/
structure Accepted (s : State) (q : Nat) (t : State) : Prop where
  last : t.safety.dieLast = some q
  mail : t.safety.mail = s.mailLeft q
  latches : LatchesKept s t
  kept : DieKept s t

theorem Readied.accepted {s t : State} {q : Nat} (h : Readied s q t) : Accepted s q t :=
  ⟨h.dieLast, h.mail, h.latchesKept, h.dieKept⟩

theorem Accepted.trans {s t u : State} {q : Nat} (h : Accepted s q t) (last : u.safety.dieLast = t.safety.dieLast)
    (mail : u.safety.mail = t.safety.mail) (latches : LatchesKept t u) (kept : DieKept t u) : Accepted s q u :=
  ⟨last.trans h.last, mail.trans h.mail, h.latches.trans latches, h.kept.trans kept⟩

theorem Accepted.chansOnly {s t u : State} {q : Nat} (h : Accepted s q t) (only : ChansOnly t u) (latches : LatchesKept t u) :
    Accepted s q u := by
  have kept := only.dieKept
  obtain ⟨_, e⟩ := only
  exact h.trans (by rw [e]) (by rw [e]) latches kept

theorem Accepted.eval {s t : State} {q : Nat} (h : Accepted s q t) : Accepted s q t.safetyEval :=
  h.chansOnly t.safetyEval_chansOnly t.safetyEval_latchesKept

/-- A message takes as they are what a channel holds of losses and faults. -/
theorem Readied.losses {s t : State} {q : Nat} (h : Readied s q t) (c : Nat) :
    (t.chan c).caLost = (s.chan c).caLost ∧ (t.chan c).posLost = (s.chan c).posLost ∧
      (t.chan c).posRed = (s.chan c).posRed ∧ (t.chan c).azFault = (s.chan c).azFault ∧
      (t.chan c).sector = (s.chan c).sector := by
  obtain ⟨_, _, _, _, _, e⟩ := h.chan c
  rw [e]
  exact ⟨rfl, rfl, rfl, rfl, rfl⟩

section
variable {s : State} {m : MailMsg} {la lb : Nat}

/-! HUB_HEARTBEAT -/

theorem hubHeartbeat_does (yes : s.dieAccepts 1 m = true) : Does (.hubHeartbeat m la lb) s messageParts fun t =>
    t.safety.dieLast = some m.seq.toNat ∧ (∀ c : Fin 2, (t.chan c).hubLost = false) ∧
    t.safety.mail = s.mailLeft m.seq.toNat ∧ LatchesKept s t ∧ DieKept s t ∧
    (∀ c : Fin 2, (t.chan c).caLost = (s.chan c).caLost ∧ (t.chan c).posLost = (s.chan c).posLost) := by
  let f (h : SafeChan) : SafeChan := { h with hubLost := false }
  have e : exec (.hubHeartbeat m la lb) s = .next ((s.dieReady m la lb).bothChans f).safetyEval :=
    congrArg _ (State.dieTake_of_accepted la lb _ yes)
  have ready := s.dieReady_readied m la lb
  generalize s.dieReady m la lb = r at e ready
  have done := (ready.accepted.chansOnly (r.bothChans_chansOnly f) (r.bothChans_latchesKept fun _ => ⟨rfl, rfl⟩)).eval
  have watch (c : Fin 2) := (r.bothChans f).safetyEval_sameWatch c
  simp only [State.chan_bothChans] at watch
  exact .next e ⟨done.last, fun c => (watch c).hubLost, done.mail, done.latches, done.kept, fun c =>
    ⟨(watch c).caLost.trans (ready.losses c).1, (watch c).posLost.trans (ready.losses c).2.1⟩⟩

/-! CA_STATUS -/

/-- The status of a CA_STATUS message in the die. -/
def State.caTaken (s : State) (b : List Byte) : State :=
  s.setSafety fun d => { d with ca := some ⟨leAt b 4 1, leAt b 7 1⟩ }

theorem State.caTaken_control (s : State) (b : List Byte) : (s.caTaken b).control = s.control := rfl

/-- A CA status has come. -/
def SafeChan.caSeen (h : SafeChan) : SafeChan := { h with caLost := false }

theorem caStatus_does (yes : s.dieAccepts 2 m = true)
    (ok : (m.payload.length == 16 && crc32 (m.payload.take 12) == leAt m.payload 12 4) = true) :
    Does (.caStatus m la lb) s messageParts fun t => t.safety.dieLast = some m.seq.toNat ∧
      (∀ c : Fin 2, (t.chan c).caLost = false) ∧ t.safety.ca = some ⟨leAt m.payload 4 1, leAt m.payload 7 1⟩ ∧
      LatchesKept s t ∧ DieKept s t ∧
      (s.control = true → leAt m.payload 4 1 = 3 → (∀ c : Fin 2, bitOf (t.chan c).own 10 = true)) := by
  have e : exec (.caStatus m la lb) s = .next (((s.dieReady m la lb).caTaken m.payload).bothChans .caSeen).safetyEval :=
    congrArg _ ((State.dieTake_of_accepted la lb _ yes).trans (congrArg State.safetyEval (if_pos ok)))
  have ready := s.dieReady_readied m la lb
  generalize s.dieReady m la lb = r at e ready
  let u := r.caTaken m.payload
  have held : Accepted s m.seq.toNat u := ready.accepted.trans rfl rfl (.of_chans rfl) (DieKept.refl r)
  have done := (held.chansOnly (u.bothChans_chansOnly .caSeen) (u.bothChans_latchesKept fun _ => ⟨rfl, rfl⟩)).eval
  have watch (c : Fin 2) := (u.bothChans .caSeen).safetyEval_sameWatch c
  simp only [State.chan_bothChans] at watch
  obtain ⟨ch, die⟩ := (u.bothChans_chansOnly .caSeen).trans (State.safetyEval_chansOnly _)
  refine .next e ⟨done.last, fun c => (watch c).caLost, by rw [die]; rfl, done.latches, done.kept, fun control red c => ?_⟩
  have live : (u.bothChans .caSeen).safety.live = true := ready.live.trans (State.live_of_dieAccepts yes)
  have role : (u.bothChans .caSeen).control = true := by
    rw [State.bothChans_control, State.caTaken_control, ready.control, control]
  rw [State.safetyEval_chan_of_live live, State.evalChan_own_of_control _ role]
  exact ((u.bothChans .caSeen).bitOf_ownSf3 c _).2.2.2 ⟨⟨leAt m.payload 4 1, leAt m.payload 7 1⟩, rfl, red⟩

theorem caStatus_damaged (yes : s.dieAccepts 2 m = true)
    (bad : (m.payload.length == 16 && crc32 (m.payload.take 12) == leAt m.payload 12 4) = false) :
    Does (.caStatus m la lb) s messageParts fun t => t.safety.dieLast = some m.seq.toNat ∧ t.safety.ca = s.safety.ca ∧
      (∀ c : Fin 2, (t.chan c).caLost = (s.chan c).caLost) ∧ LatchesKept s t ∧ DieKept s t := by
  have e : exec (.caStatus m la lb) s = .next (s.dieReady m la lb).safetyEval :=
    congrArg _ ((State.dieTake_of_accepted la lb _ yes).trans (congrArg State.safetyEval (if_neg (Bool.eq_false_iff.1 bad))))
  have ready := s.dieReady_readied m la lb
  generalize s.dieReady m la lb = r at e ready
  have done := ready.accepted.eval
  obtain ⟨_, eval⟩ := State.safetyEval_chansOnly r
  obtain ⟨_, _, die⟩ := ready.die
  exact .next e ⟨done.last, by rw [eval, die],
    fun c => (State.safetyEval_sameWatch _ c).caLost.trans (ready.losses c).1, done.latches, done.kept⟩

/-! POS_STATUS -/

theorem State.posAbove_of_chansOnly {s t : State} (h : ChansOnly s t) : t.posAbove = s.posAbove := by
  obtain ⟨_, e⟩ := h
  unfold State.posAbove State.sp State.sparam
  rw [e]

/-- The status of a POS_STATUS message in the die. -/
def State.posTaken (s : State) (b : List Byte) : State :=
  s.setSafety fun d => { d with pos := some ⟨leAt b 4 4, leAt b 8 4, leAt b 12 1⟩ }

/-- A POS status has come; the excursion lasts where it does. -/
def SafeChan.posSeen (above : Bool) (h : SafeChan) : SafeChan := { h with posLost := false, posRed := h.posRed && above }

theorem posStatus_does (yes : s.dieAccepts 3 m = true)
    (ok : (m.payload.length == 20 && crc32 (m.payload.take 16) == leAt m.payload 16 4) = true) :
    Does (.posStatus m la lb) s messageParts fun t => t.safety.dieLast = some m.seq.toNat ∧
      (∀ c : Fin 2, (t.chan c).posLost = false ∧ (t.chan c).posRed = ((s.chan c).posRed && t.posAbove)) ∧
      t.safety.pos = some ⟨leAt m.payload 4 4, leAt m.payload 8 4, leAt m.payload 12 1⟩ ∧ LatchesKept s t ∧ DieKept s t := by
  have e : exec (.posStatus m la lb) s = .next (((s.dieReady m la lb).posTaken m.payload).bothChans
      (.posSeen ((s.dieReady m la lb).posTaken m.payload).posAbove)).safetyEval :=
    congrArg _ ((State.dieTake_of_accepted la lb _ yes).trans (congrArg State.safetyEval (if_pos ok)))
  have ready := s.dieReady_readied m la lb
  generalize s.dieReady m la lb = r at e ready
  let u := r.posTaken m.payload
  have held : Accepted s m.seq.toNat u := ready.accepted.trans rfl rfl (.of_chans rfl) (DieKept.refl r)
  have done := (held.chansOnly (u.bothChans_chansOnly (.posSeen u.posAbove)) (u.bothChans_latchesKept fun _ => ⟨rfl, rfl⟩)).eval
  have watch (c : Fin 2) := (u.bothChans (.posSeen u.posAbove)).safetyEval_sameWatch c
  simp only [State.chan_bothChans] at watch
  have only := (u.bothChans_chansOnly (.posSeen u.posAbove)).trans (State.safetyEval_chansOnly _)
  refine .next e ⟨done.last, fun c => ⟨(watch c).posLost, ?_⟩, ?_, done.latches, done.kept⟩
  · rw [(watch c).posRed, State.posAbove_of_chansOnly only, ← (ready.losses c).2.2.1]
    rfl
  · obtain ⟨_, die⟩ := only
    rw [die]
    rfl

theorem posStatus_damaged (yes : s.dieAccepts 3 m = true)
    (bad : (m.payload.length == 20 && crc32 (m.payload.take 16) == leAt m.payload 16 4) = false) :
    Does (.posStatus m la lb) s messageParts fun t => t.safety.dieLast = some m.seq.toNat ∧ t.safety.pos = s.safety.pos ∧
      (∀ c : Fin 2, (t.chan c).posLost = (s.chan c).posLost ∧ (t.chan c).posRed = (s.chan c).posRed) ∧
      LatchesKept s t ∧ DieKept s t := by
  have e : exec (.posStatus m la lb) s = .next (s.dieReady m la lb).safetyEval :=
    congrArg _ ((State.dieTake_of_accepted la lb _ yes).trans (congrArg State.safetyEval (if_neg (Bool.eq_false_iff.1 bad))))
  have ready := s.dieReady_readied m la lb
  generalize s.dieReady m la lb = r at e ready
  have done := ready.accepted.eval
  obtain ⟨_, eval⟩ := State.safetyEval_chansOnly r
  obtain ⟨_, _, die⟩ := ready.die
  have watch (c : Fin 2) := r.safetyEval_sameWatch c
  exact .next e ⟨done.last, by rw [eval, die], fun c => ⟨(watch c).posLost.trans (ready.losses c).2.1,
    (watch c).posRed.trans (ready.losses c).2.2.1⟩, done.latches, done.kept⟩

/-! AZIMUTH -/

/-- An entry of an AZIMUTH message. -/
def azEntry (b : List Byte) (i : Nat) : AzData :=
  ⟨leAt b (8 * i + 2) 2, leAt b (8 * i + 4) 2, bitOf (leAt b (8 * i + 1) 1) 0, bitOf (leAt b (8 * i + 1) 1) 1⟩

/-- Where a list of writes names a key last, a read of the key finds that write. -/
theorem Map.get_foldl_put_last {α : Type} (d : α) (key : Nat → Nat) (val : Nat → α) (m : Map α) {i n : Nat} (lt : i < n)
    (last : ∀ j, i < j → j < n → key j ≠ key i) :
    Map.get d ((List.range n).foldl (fun z i => Map.put z (key i) (val i)) m) (key i) = val i := by
  induction n with
  | zero => omega
  | succ n ih =>
    rw [List.range_succ, List.foldl_append, List.foldl_cons, List.foldl_nil, Map.get_put]
    split_ifs with same
    · have : i = n := by
        by_contra ne
        exact last n (by omega) (by omega) same.symm
      rw [this]
    · have : i ≠ n := fun eq => same (by rw [eq])
      exact ih (by omega) fun j above below => last j above (by omega)

/-- The azimuths of the message in the die's table. -/
def State.azTaken (s : State) (b : List Byte) : State :=
  s.setSafety fun d =>
    { d with az := (List.range (b.length / 8)).foldl (fun z i => Map.put z (leAt b (8 * i) 1) (azEntry b i)) s.safety.az }

/-- Faults that still hold. -/
def State.azKeep (s : State) (c : Nat) (h : SafeChan) : SafeChan :=
  { h with
    azFault := maskBelow (fun t => bitOf h.azFault t && s.azBad t) 32
    sector := maskBelow (fun t => bitOf h.sector t && s.inForbidden c t) 32 }

theorem State.azReview_eq (s : State) : s.azReview =
    (s.setChan 0 (s.azKeep 0)).setChan 1 ((s.setChan 0 (s.azKeep 0)).azKeep 1) := rfl

theorem State.azReview_chansOnly (s : State) : ChansOnly s s.azReview := by
  rw [State.azReview_eq]
  exact (s.setChan_chansOnly 0 _).trans (State.setChan_chansOnly _ 1 _)

theorem State.azReview_latchesKept (s : State) : LatchesKept s s.azReview := by
  have keep (t : State) (c : Nat) (h : SafeChan) : (t.azKeep c h).trip = h.trip ∧ (t.azKeep c h).zones = h.zones := ⟨rfl, rfl⟩
  rw [State.azReview_eq]
  exact (s.setChan_latchesKept 0 (keep s 0)).trans (State.setChan_latchesKept _ 1 (keep _ 1))

theorem State.azReview_chan (s : State) (c : Fin 2) : ∃ t : State, s.azReview.chan c = t.azKeep c (s.chan c) := by
  rw [State.azReview_eq]
  match c with
  | 0 => exact ⟨s, by simp [State.chan_setChan]⟩
  | 1 => exact ⟨s.setChan 0 (s.azKeep 0), by simp [State.chan_setChan]⟩

/-- A message of azimuths ends faults and begins none (R485). -/
theorem State.azReview_faults (s : State) (c : Fin 2) (t : Fin 32) :
    (bitOf (s.azReview.safetyEval.chan c).azFault t = true → bitOf (s.chan c).azFault t = true) ∧
      (bitOf (s.azReview.safetyEval.chan c).sector t = true → bitOf (s.chan c).sector t = true) := by
  obtain ⟨u, review⟩ := s.azReview_chan c
  have keep : (bitOf (s.azReview.chan c).azFault t = true → bitOf (s.chan c).azFault t = true) ∧
      (bitOf (s.azReview.chan c).sector t = true → bitOf (s.chan c).sector t = true) := by
    rw [review]
    simp only [State.azKeep, bitOf_maskBelow, Bool.and_eq_true]
    exact ⟨fun h => h.2.1, fun h => h.2.1⟩
  rw [State.chan_safetyEval]
  split
  · rw [State.evalChan_azFault, State.evalChan_sector, bitOf_and, bitOf_and, Bool.and_eq_true, Bool.and_eq_true]
    exact ⟨fun h => keep.1 h.1, fun h => keep.2 h.1⟩
  · exact keep

theorem azimuth_does (yes : s.dieAccepts 4 m = true) : Does (.azimuth m la lb) s messageParts fun t =>
    t.safety.dieLast = some m.seq.toNat ∧
    (∀ i, i < m.payload.length / 8 →
      (∀ j, i < j → j < m.payload.length / 8 → leAt m.payload (8 * j) 1 ≠ leAt m.payload (8 * i) 1) →
      Map.get ⟨0, 0, false, false⟩ t.safety.az (leAt m.payload (8 * i) 1) =
        ⟨leAt m.payload (8 * i + 2) 2, leAt m.payload (8 * i + 4) 2, bitOf (leAt m.payload (8 * i + 1) 1) 0,
         bitOf (leAt m.payload (8 * i + 1) 1) 1⟩) ∧
    (∀ (c : Fin 2) (thr : Fin 32), (bitOf (t.chan c).azFault thr = true → bitOf (s.chan c).azFault thr = true) ∧
      (bitOf (t.chan c).sector thr = true → bitOf (s.chan c).sector thr = true)) ∧ LatchesKept s t ∧ DieKept s t := by
  have e : exec (.azimuth m la lb) s = .next ((s.dieReady m la lb).azTaken m.payload).azReview.safetyEval :=
    congrArg _ (State.dieTake_of_accepted la lb _ yes)
  have ready := s.dieReady_readied m la lb
  generalize s.dieReady m la lb = r at e ready
  let u := r.azTaken m.payload
  have held : Accepted s m.seq.toNat u := ready.accepted.trans rfl rfl (.of_chans rfl) (DieKept.refl r)
  have done := (held.chansOnly u.azReview_chansOnly u.azReview_latchesKept).eval
  refine .next e ⟨done.last, fun i lt last => ?_, fun c thr => ?_, done.latches, done.kept⟩
  · obtain ⟨_, die⟩ := u.azReview_chansOnly.trans (State.safetyEval_chansOnly _)
    rw [die]
    exact Map.get_foldl_put_last _ (fun i => leAt m.payload (8 * i) 1) (azEntry m.payload) _ lt last
  · obtain ⟨-, -, -, az, sector⟩ := ready.losses c
    rw [← az, ← sector]
    exact u.azReview_faults c thr

/-! TRIP_REQUEST -/

theorem State.evalChan_zones (s : State) (c : Nat) : (s.evalChan c none).zones = s.zonesHeld c := by
  obtain ⟨_, _, _, e⟩ := s.evalChan_outputsOnly c
  rw [e]
  rfl

/-- The demand of a TRIP_REQUEST message in the die. -/
def State.tripAsked (s : State) (b : List Byte) : State :=
  s.setSafety fun d => { d with reqSf1 := leAt b 0 4, reqZones := leAt b 4 1, reqSf3 := leAt b 5 1 != 0 }

theorem tripRequest_does (yes : s.dieAccepts 5 m = true) : Does (.tripRequest m la lb) s messageParts fun t =>
    t.safety.dieLast = some m.seq.toNat ∧
    t.safety.reqSf1 = leAt m.payload 0 4 ∧ t.safety.reqZones = leAt m.payload 4 1 ∧ t.safety.reqSf3 = (leAt m.payload 5 1 != 0) ∧
    LatchesKept s t ∧ DieKept s t ∧
    (∀ (c : Fin 2) (k : Fin 8), s.sp Obj.SO_FUNCTION k = 1 → leAt m.payload 0 4 &&& s.sp Obj.SO_THRUSTERS k ≠ 0 →
      bitOf (t.chan c).trip k = true ∧ bitOf (Map.get 0 (t.chan c).lcause k) 3 = true) ∧
    (∀ (c : Fin 2) (z : Fin 8), bitOf (leAt m.payload 4 1) z = true → bitOf (t.chan c).zones z = true) := by
  have e : exec (.tripRequest m la lb) s = .next ((s.dieReady m la lb).tripAsked m.payload).safetyEval :=
    congrArg _ (State.dieTake_of_accepted la lb _ yes)
  have ready := s.dieReady_readied m la lb
  generalize s.dieReady m la lb = r at e ready
  let u := r.tripAsked m.payload
  have held : Accepted s m.seq.toNat u := ready.accepted.trans rfl rfl (.of_chans rfl) (DieKept.refl r)
  have done := held.eval
  have live : u.safety.live = true := ready.live.trans (State.live_of_dieAccepts yes)
  have mem (c : Nat) : u.hubDemand ∈ u.demands c := by simp [State.demands]
  obtain ⟨_, die⟩ := u.safetyEval_chansOnly
  refine .next e ⟨done.last, by rw [die]; rfl, by rw [die]; rfl, by rw [die]; rfl, done.latches, done.kept,
    fun c k sf1 meets => ?_, fun c z asked => ?_⟩
  · rw [State.safetyEval_chan_of_live live]
    rw [← ready.sp] at sf1 meets
    exact State.evalChan_trips (State.outCauses_sf1 (s := u) sf1 (mem c) meets _ _ _)
  · rw [State.safetyEval_chan_of_live live, State.evalChan_zones, State.bitOf_zonesHeld,
      List.any_eq_true.2 ⟨u.hubDemand, mem c, asked⟩, Bool.or_true]

end

end Sys2Proof.Machine
end

section
/-! SUPPORT. A PDU and a configuration at the die (R499, R500, R502), and the messages as a whole. -/

namespace Sys2Proof.Machine

/-! A PDU as a channel takes it -/

/-- What channel c holds of connection k. -/
def State.conn (s : State) (c k : Nat) : SafeConn := Map.get {} (s.chan c).conns k

/-- Connection k of channel c replaced. -/
def State.putConn (s : State) (c k : Nat) (x : SafeConn) : State := s.setChan c fun h => { h with conns := Map.put h.conns k x }

theorem State.conn_putConn_self (s : State) (c k : Nat) (x : SafeConn) : (s.putConn c k x).conn c k = x := by
  rw [State.conn, State.putConn, State.chan_setChan_self, Map.get_put_self]

/-- What channel c may change by itself: nothing of the other channels. -/
structure LinkedAt (c : Nat) (s t : State) : Prop where
  linked : Linked s t
  others : ∀ d, d ≠ c → t.chan d = s.chan d

theorem LinkedAt.refl (c : Nat) (s : State) : LinkedAt c s s := ⟨.refl s, fun _ _ => rfl⟩

theorem LinkedAt.trans {c : Nat} {s t u : State} (h : LinkedAt c s t) (k : LinkedAt c t u) : LinkedAt c s u :=
  ⟨h.linked.trans k.linked, fun d ne => (k.others d ne).trans (h.others d ne)⟩

theorem State.putConn_linkedAt (s : State) (c k : Nat) (x : SafeConn) : LinkedAt c s (s.putConn c k x) :=
  ⟨.setChan c fun _ => ⟨_, _, _, _, _, rfl⟩, fun d ne => by rw [State.putConn, State.chan_setChan, if_neg ne]⟩

theorem State.countReject_linkedAt (s : State) (c k j : Nat) : LinkedAt c s (s.countReject k j) :=
  ⟨⟨⟨_, _, rfl⟩, fun _ => .refl _, rfl⟩, fun _ _ => rfl⟩

theorem State.dieAlarm_chan (s : State) (name : String) (c : Nat) : (s.dieAlarm name).chan c = s.chan c := by
  rw [State.chan, (State.dieAlarm_leaves (P := besideLog) (by decide) (.refl _ s) name).safety (by decide)]
  rfl

theorem State.connFail_linkedAt (s : State) (c k : Nat) : LinkedAt c s (s.connFail c k) := by
  refine ⟨s.connFail_linked c k, fun d ne => ?_⟩
  unfold State.connFail
  dsimp only
  split
  · rw [State.chan_setChan, if_neg ne]
  · rw [State.dieAlarm_chan, State.chan_setChan, if_neg ne]

/-- An accepted PDU in its connection (R500). -/
def SafeConn.taken (x : SafeConn) (b : List Byte) : SafeConn :=
  { x with
    st := if x.st == 1 then 1 else if 3 ≤ (if x.st == 2 then 1 else x.good + 1) then 1 else 0
    good := min (if x.st == 2 then 1 else x.good + 1) 3, lastSeq := leAt b 4 2, last := b
    rejects := if x.st == 1 then x.rejects else [] }

/-- A connection that is not running after a rejected PDU. -/
def SafeConn.refused (x : SafeConn) : SafeConn := { x with good := if x.st == 0 then 0 else x.good }

/-- Rejections of a connection within its watchdog time, with a new one. -/
def State.rejectsNow (s : State) (x : SafeConn) (k l : Nat) : List Nat :=
  l :: x.rejects.filter fun t => decide (l < t + s.sp Obj.GUARD_WATCHDOG_MS k * 1000000)

section
variable {s : State} {c k port : Nat} {node : Option Nat} {ingress l : Nat} {b : List Byte}

theorem State.takePdu_of_repeated (h : b = (s.conn c k).last) : s.takePdu c k port node ingress l b = s :=
  if_pos (beq_iff_eq.2 h)

theorem State.takePdu_of_good (new : b ≠ (s.conn c k).last) (good : s.judgePdu c k port node ingress l b = 0) :
    s.takePdu c k port node ingress l b = s.putConn c k ((s.conn c k).taken b) := by
  refine (if_neg (by rw [beq_iff_eq]; exact new)).trans ?_
  rw [good]
  rfl

theorem State.takePdu_of_rejected (new : b ≠ (s.conn c k).last) {j : Nat}
    (bad : s.judgePdu c k port node ingress l b = j + 1) : s.takePdu c k port node ingress l b =
      if (s.conn c k).st == 1 then
        if 3 ≤ ((s.countReject k (j + 1)).rejectsNow (s.conn c k) k l).length then
          ((s.countReject k (j + 1)).putConn c k
            { s.conn c k with rejects := (s.countReject k (j + 1)).rejectsNow (s.conn c k) k l }).connFail c k
        else (s.countReject k (j + 1)).putConn c k
          { s.conn c k with rejects := (s.countReject k (j + 1)).rejectsNow (s.conn c k) k l }
      else (s.countReject k (j + 1)).putConn c k (s.conn c k).refused := by
  refine (if_neg (by rw [beq_iff_eq]; exact new)).trans ?_
  rw [bad]
  rfl

end

/-- A PDU changes connections of its own channel, and counts of rejections. -/
theorem State.takePdu_linkedAt (s : State) (c k port : Nat) (node : Option Nat) (ingress l : Nat) (b : List Byte) :
    LinkedAt c s (s.takePdu c k port node ingress l b) := by
  by_cases new : b = (s.conn c k).last
  · rw [State.takePdu_of_repeated new]
    exact .refl c s
  cases judged : s.judgePdu c k port node ingress l b with
  | zero =>
    rw [State.takePdu_of_good new judged]
    exact s.putConn_linkedAt ..
  | succ j =>
    rw [State.takePdu_of_rejected new judged]
    have counted := s.countReject_linkedAt c k (j + 1)
    split_ifs
    · exact (counted.trans (State.putConn_linkedAt ..)).trans (State.connFail_linkedAt ..)
    · exact counted.trans (State.putConn_linkedAt ..)
    · exact counted.trans (State.putConn_linkedAt ..)

/-! CONN_STATE of the dictionary -/

/-- The entries of CONN_STATE. -/
def connEntries : List Nat := (List.range 16).map fun k => Obj.GUARD_CONN_STATE.key k 0

/-- Nothing but CONN_STATE of the dictionary changes. -/
structure ConnsShown (s t : State) : Prop where
  safety : t.safety = s.safety
  control : t.control = s.control
  objs : ObjsBut connEntries s t

theorem State.showConns_shown (s : State) : ConnsShown s s.showConns := by
  unfold State.showConns
  refine List.foldlRecOn (motive := ConnsShown s) _ _ ⟨rfl, rfl, fun _ _ _ _ => rfl⟩ fun t shown k mem => ?_
  have entry : Obj.GUARD_CONN_STATE.key k 0 ∈ connEntries := List.mem_map.2 ⟨k, mem, rfl⟩
  split
  · refine ⟨shown.safety, shown.control, fun o i j other => ?_⟩
    rw [State.setObjN, State.obj_setObj_of_not_mem entry other, shown.objs o i j other]
  · exact shown

theorem State.showConns_linked (s : State) : Linked s s.showConns := .of_safety s.showConns_shown.safety s.showConns_shown.control

/-! GUARD_RX -/

/-- The receive connection whose CONN_ID a PDU carries. -/
def State.connOf (s : State) (b : List Byte) : Option Nat :=
  (List.range 16).find? fun i => s.isRx i && s.sp Obj.GUARD_CONN_ID i == leAt b 0 4

/-- A PDU of connection k taken by both channels, each by its own clock. -/
def State.pduTaken (s : State) (k : Nat) (m : MailMsg) (la lb : Nat) (node : Option (BitVec 14)) : State :=
  ((s.takePdu 0 k (leAt m.payload 0 1) (node.map (·.toNat)) (leAt m.payload 8 4 * 1000000000 + leAt m.payload 4 4) la
    ((m.payload.drop 12).take 56)).takePdu 1 k (leAt m.payload 0 1) (node.map (·.toNat))
    (leAt m.payload 8 4 * 1000000000 + leAt m.payload 4 4) lb ((m.payload.drop 12).take 56)).showConns

/-- What a GUARD_RX message does. -/
def State.guardTaken (s : State) (m : MailMsg) (la lb : Nat) (node : Option (BitVec 14)) : State :=
  match s.connOf ((m.payload.drop 12).take 56) with
  | some k => s.pduTaken k m la lb node
  | none => s

theorem State.pduTaken_linked (s : State) (k : Nat) (m : MailMsg) (la lb : Nat) (node : Option (BitVec 14)) :
    Linked s (s.pduTaken k m la lb node) :=
  ((s.takePdu_linkedAt ..).linked.trans (State.takePdu_linkedAt ..).linked).trans (State.showConns_linked _)

theorem State.guardTaken_linked (s : State) (m : MailMsg) (la lb : Nat) (node : Option (BitVec 14)) :
    Linked s (s.guardTaken m la lb node) := by
  unfold State.guardTaken
  split
  · exact s.pduTaken_linked ..
  · exact .refl s

/-- Channel A takes the PDU once, by its own clock. -/
theorem State.pduTaken_chan (s : State) (k : Nat) (m : MailMsg) (la lb : Nat) (node : Option (BitVec 14)) :
    (s.pduTaken k m la lb node).chan 0 = (s.takePdu 0 k (leAt m.payload 0 1) (node.map (·.toNat))
      (leAt m.payload 8 4 * 1000000000 + leAt m.payload 4 4) la ((m.payload.drop 12).take 56)).chan 0 := by
  rw [State.pduTaken, State.chan, (State.showConns_shown _).safety]
  exact (State.takePdu_linkedAt _ 1 k _ _ _ lb _).others 0 (by decide)

section
variable {s : State} {m : MailMsg} {la lb : Nat}

theorem exec_guardRx_of_accepted (node : Option (BitVec 14)) (yes : s.dieAccepts 6 m = true) :
    exec (.guardRx m la lb node) s = .next ((s.dieReady m la lb).guardTaken m la lb node).safetyEval :=
  congrArg _ (State.dieTake_of_accepted la lb _ yes)

theorem guardRx_does (node : Option (BitVec 14)) (yes : s.dieAccepts 6 m = true) :
    Does (.guardRx m la lb node) s messageParts fun t => t.safety.dieLast = some m.seq.toNat ∧
      t.safety.mail = s.mailLeft m.seq.toNat ∧ LatchesKept s t ∧ DieKept s t := by
  have e := exec_guardRx_of_accepted (la := la) (lb := lb) node yes
  have ready := s.dieReady_readied m la lb
  generalize s.dieReady m la lb = r at e ready
  have linked := r.guardTaken_linked m la lb node
  obtain ⟨_, _, die⟩ := linked.die
  have done := (ready.accepted.trans (by rw [die]) (by rw [die]) linked.latchesKept linked.dieKept).eval
  exact .next e ⟨done.last, done.mail, done.latches, done.kept⟩

/-- What channel A holds of a connection once the PDU has been taken and both channels are evaluated. -/
theorem State.guardTaken_conn {r : State} {k : Nat} (node : Option (BitVec 14))
    (find : r.connOf ((m.payload.drop 12).take 56) = some k) :
    (r.guardTaken m la lb node).safetyEval.conn 0 k = (r.takePdu 0 k (leAt m.payload 0 1) (node.map (·.toNat))
      (leAt m.payload 8 4 * 1000000000 + leAt m.payload 4 4) la ((m.payload.drop 12).take 56)).conn 0 k := by
  have watch : ((r.guardTaken m la lb node).safetyEval.chan 0).conns = ((r.guardTaken m la lb node).chan 0).conns :=
    (State.safetyEval_sameWatch _ 0).conns
  rw [State.conn, watch, State.guardTaken, find]
  change Map.get {} ((r.pduTaken k m la lb node).chan 0).conns k = _
  rw [State.pduTaken_chan]
  rfl

theorem guardRx_good {node : Option (BitVec 14)} {u : State} {b : List Byte} {k : Nat} (yes : s.dieAccepts 6 m = true)
    (hu : u = s.dieReady m la lb) (hb : b = (m.payload.drop 12).take 56)
    (find : ((List.range 16).find? fun i => u.isRx i && u.sp Obj.GUARD_CONN_ID i == leAt b 0 4) = some k)
    (new : b ≠ (Map.get {} (u.chan 0).conns k).last)
    (good : u.judgePdu 0 k (leAt m.payload 0 1) (node.map (·.toNat)) (leAt m.payload 8 4 * 1000000000 + leAt m.payload 4 4)
      la b = 0) :
    Does (.guardRx m la lb node) s messageParts fun t => (Map.get {} (t.chan 0).conns k).last = b ∧
      (Map.get {} (t.chan 0).conns k).lastSeq = leAt b 4 2 ∧
      ((Map.get {} (u.chan 0).conns k).st = 1 → (Map.get {} (t.chan 0).conns k).st = 1) ∧
      ((Map.get {} (u.chan 0).conns k).st = 2 → (Map.get {} (t.chan 0).conns k).st = 0 ∧
        (Map.get {} (t.chan 0).conns k).good = 1) ∧
      ((Map.get {} (u.chan 0).conns k).st = 0 → 2 ≤ (Map.get {} (u.chan 0).conns k).good →
        (Map.get {} (t.chan 0).conns k).st = 1) := by
  have e := exec_guardRx_of_accepted (la := la) (lb := lb) node yes
  rw [← hu] at e
  subst hb
  have conn := State.guardTaken_conn (la := la) (lb := lb) node find
  rw [State.takePdu_of_good new good, State.conn_putConn_self] at conn
  refine .next e ?_
  change Map.get {} ((u.guardTaken m la lb node).safetyEval.chan 0).conns k = _ at conn
  rw [conn]
  refine ⟨rfl, rfl, fun st => ?_, fun st => ?_, fun st two => ?_⟩
  · exact if_pos (by rw [State.conn, st]; rfl)
  · simp [SafeConn.taken, State.conn, st]
  · have three : 3 ≤ (Map.get {} (u.chan 0).conns k).good + 1 := by omega
    simp [SafeConn.taken, State.conn, st, three]

theorem guardRx_rejected {node : Option (BitVec 14)} {u : State} {b : List Byte} {k : Nat} (yes : s.dieAccepts 6 m = true)
    (hu : u = s.dieReady m la lb) (hb : b = (m.payload.drop 12).take 56)
    (find : ((List.range 16).find? fun i => u.isRx i && u.sp Obj.GUARD_CONN_ID i == leAt b 0 4) = some k)
    (bad : u.judgePdu 0 k (leAt m.payload 0 1) (node.map (·.toNat)) (leAt m.payload 8 4 * 1000000000 + leAt m.payload 4 4)
      la b ≠ 0) (stopped : (Map.get {} (u.chan 0).conns k).st ≠ 1) :
    Does (.guardRx m la lb node) s messageParts fun t =>
      (Map.get {} (t.chan 0).conns k).last = (Map.get {} (u.chan 0).conns k).last ∧
      (Map.get {} (t.chan 0).conns k).st = (Map.get {} (u.chan 0).conns k).st := by
  have e := exec_guardRx_of_accepted (la := la) (lb := lb) node yes
  rw [← hu] at e
  subst hb
  have conn := State.guardTaken_conn (la := la) (lb := lb) node find
  refine .next e ?_
  change (State.conn _ 0 k).last = (u.conn 0 k).last ∧ (State.conn _ 0 k).st = (u.conn 0 k).st
  rw [conn]
  by_cases new : (m.payload.drop 12).take 56 = (u.conn 0 k).last
  · rw [State.takePdu_of_repeated new]
    exact ⟨rfl, rfl⟩
  · obtain ⟨j, judged⟩ := Nat.exists_eq_succ_of_ne_zero bad
    rw [State.takePdu_of_rejected new judged, if_neg (by rw [beq_iff_eq]; exact stopped), State.conn_putConn_self]
    exact ⟨rfl, rfl⟩

end

/-! CONFIG -/

/-- The configuration of a CONFIG message in the die. -/
def State.configTaken (s : State) (b : List Byte) (skew : Word) : State :=
  s.setSafety fun d =>
    { d with cfg := readImage b.length b, ccvA := safetyCrc b, ccvB := safetyCrc b ^^^ skew.toNat }

/-- Connections whose parameters differ between two states. -/
def State.connsChanged (s old : State) : List Nat :=
  (List.range 16).filter fun k => !([Obj.GUARD_DIR, Obj.GUARD_CONN_ID, Obj.GUARD_PEER, Obj.GUARD_PATHS, Obj.GUARD_KIND,
    Obj.GUARD_PERIOD_MS, Obj.GUARD_WATCHDOG_MS, Obj.GUARD_MAX_AGE_US, Obj.GUARD_SAFE].all fun o =>
      s.sparam o k == old.sparam o k)

/-- Connections that start anew. -/
def SafeChan.renew (ks : List Nat) (h : SafeChan) : SafeChan :=
  { h with conns := ks.foldl (fun x k => Map.put x k {}) h.conns }

/-- The state of the die takes the verdict outside a session. -/
def State.adjudged (s : State) : State :=
  if (s.safety.session.isNone && s.safety.state != 6) = true then s.setSafety fun d => { d with state := s.verdict } else s

/-- What a CONFIG message does before CONN_STATE is shown. -/
def State.configured (s : State) (b : List Byte) (skew : Word) : State :=
  ((s.configTaken b skew).bothChans (.renew ((s.configTaken b skew).connsChanged s))).adjudged

theorem State.adjudged_safety (s : State) : s.adjudged.safety = { s.safety with
    state := if (s.safety.session.isNone && s.safety.state != 6) = true then s.verdict else s.safety.state } := by
  unfold State.adjudged
  split_ifs <;> rfl

theorem State.adjudged_dict (s : State) : s.adjudged.dict = s.dict := by
  unfold State.adjudged
  split_ifs <;> rfl

theorem execConfig_eq (m : MailMsg) (la lb : Nat) (skew : Word) (s : State) : execConfig m la lb skew s =
    .next (s.dieTake 7 m la lb fun s => (s.configured m.payload skew).showConns) := by
  unfold execConfig
  exact congrArg _ (congrArg _ (funext fun s => congrArg State.showConns rfl))

theorem State.configured_latchesKept (s : State) (b : List Byte) (skew : Word) : LatchesKept s (s.configured b skew) := by
  have renewed := (s.configTaken b skew).bothChans_latchesKept (f := .renew ((s.configTaken b skew).connsChanged s))
    fun _ => ⟨rfl, rfl⟩
  exact .trans (t := s.configTaken b skew) (.of_chans rfl)
    (renewed.trans (.of_chans (by rw [State.configured, State.adjudged_safety])))

/-- The verdict looks at the CCVs, the seal and the sealed CCV alone. -/
theorem State.verdict_congr {s t : State} (die : ∃ m v, t.safety = { s.safety with chans := m, state := v })
    (sealed : t.obj Obj.SAFE_CCV_SEALED = s.obj Obj.SAFE_CCV_SEALED) : t.verdict = s.verdict := by
  obtain ⟨m, v, e⟩ := die
  unfold State.verdict State.objN
  rw [sealed, e]

theorem config_does {s : State} {m : MailMsg} {la lb : Nat} (skew : Word) (yes : s.dieAccepts 7 m = true) :
    Does (.config m la lb skew) s messageParts fun t => t.safety.dieLast = some m.seq.toNat ∧
      t.safety.cfg = readImage m.payload.length m.payload ∧ t.safety.ccvA = safetyCrc m.payload ∧
      t.safety.ccvB = safetyCrc m.payload ^^^ skew.toNat ∧ t.safety.session = s.safety.session ∧
      t.safety.hash = s.safety.hash ∧ t.safety.log = s.safety.log ∧ LatchesKept s t ∧
      ((s.safety.session.isNone && s.safety.state != 6) = false → t.safety.state = s.safety.state) ∧
      ((s.safety.session.isNone && s.safety.state != 6) = true → t.safety.state = t.verdict) := by
  have e : exec (.config m la lb skew) s =
      .next ((s.dieReady m la lb).configured m.payload skew).showConns.safetyEval :=
    (execConfig_eq m la lb skew s).trans (congrArg _ (State.dieTake_of_accepted la lb _ yes))
  have ready := s.dieReady_readied m la lb
  generalize s.dieReady m la lb = r at e ready
  obtain ⟨state, -, -, -, session, -, -, -, hash, -, -, log, -⟩ := ready.dieKept
  let u := (r.configTaken m.payload skew).bothChans (.renew ((r.configTaken m.payload skew).connsChanged r))
  have shown := (r.configured m.payload skew).showConns_shown
  obtain ⟨ch, die⟩ := (r.configured m.payload skew).showConns.safetyEval_chansOnly
  have judged : (r.configured m.payload skew).safety = { u.safety with
      state := if (u.safety.session.isNone && u.safety.state != 6) = true then u.verdict else u.safety.state } :=
    u.adjudged_safety
  rw [shown.safety, judged] at die
  have sealed : (r.configured m.payload skew).showConns.safetyEval.obj Obj.SAFE_CCV_SEALED = u.obj Obj.SAFE_CCV_SEALED := by
    rw [State.obj_of_dict (State.safetyEval_dict _), shown.objs _ _ _ (by decide)]
    exact State.obj_of_dict u.adjudged_dict ..
  have verdict : (r.configured m.payload skew).showConns.safetyEval.verdict = u.verdict :=
    State.verdict_congr ⟨_, _, die⟩ sealed
  change u.safety.session = s.safety.session at session
  change u.safety.state = s.safety.state at state
  refine .next e ⟨?_, ?_, ?_, ?_, ?_, ?_, ?_, ?_, fun no => ?_, fun judge => ?_⟩
  · rw [die]; exact ready.dieLast
  · rw [die]; rfl
  · rw [die]; rfl
  · rw [die]; rfl
  · rw [die]; exact session
  · rw [die]; exact hash
  · rw [die]; exact log
  · exact (ready.latchesKept.trans (r.configured_latchesKept _ _)).trans
      ((State.showConns_linked _).latchesKept.trans (State.safetyEval_latchesKept _))
  · rw [← session, ← state] at no
    rw [die, ← state]
    exact if_neg (Bool.eq_false_iff.1 no)
  · rw [← session, ← state] at judge
    rw [verdict, die]
    exact if_pos judge

/-- Settles O36: every message passes one gate; an accepted one is its effect on the die that holds the stamp, evaluated. -/
theorem safetyMessages : Obligations.SafetyMessages :=
  ⟨fun _ _ _ _ _ _ _ _ => dieMessage_dead, fun _ _ _ _ _ _ _ _ => dieMessage_dropped,
    fun _ _ _ _ => hubHeartbeat_does, fun _ _ _ _ => caStatus_does, fun _ _ _ _ => caStatus_damaged,
    fun _ _ _ _ => posStatus_does, fun _ _ _ _ => posStatus_damaged, fun _ _ _ _ => azimuth_does,
    fun _ _ _ _ => tripRequest_does, fun _ _ _ _ node => guardRx_does node,
    fun _ _ _ _ _ _ _ _ => guardRx_good, fun _ _ _ _ _ _ _ _ => guardRx_rejected,
    fun _ _ _ _ skew => config_does skew⟩

end Sys2Proof.Machine
end

section
/-! SUPPORT. The tiles: which fields of their windows, which modes and which retirements the sequencer, a retirement and a failed
attempt keep. -/

namespace Sys2Proof.Machine

/-! Fields of the tiles' windows -/

/-- Places of the register file from one tile's window to the next. -/
def windowSize : Nat := 134217728

/-- The field lies in the windows of the tiles, once in each. -/
def Field.ofTile (f : Field) : Bool := f.s1 == 4194304 && !f.banked && f.n2 == 1

/-- Where the field lies in each window. -/
def Field.site (f : Field) : Nat := f.key 0 0 % windowSize

theorem key_mod_windowSize {f : Field} (h : f.ofTile = true) (i : Nat) : f.key i 0 % windowSize = f.site := by
  simp only [Field.ofTile, Bool.and_eq_true, beq_iff_eq, Bool.not_eq_true'] at h
  obtain ⟨⟨stride, flat⟩, single⟩ := h
  have whole : f.key i 0 = f.key 0 0 + windowSize * (i % f.n1) := by
    simp only [Field.key, stride, flat, single, windowSize, Nat.zero_mod, Bool.false_eq_true, if_false]
    ring
  rw [whole, Nat.add_mul_mod_self_left, Field.site]

/-- The fields of the tiles at the sites `ps` are as they were. -/
def SitesKept (ps : List Nat) (s t : State) : Prop :=
  ∀ k d, blockAt k = .tile → k % windowSize ∈ ps → Map.get d t.regs k = Map.get d s.regs k

theorem SitesKept.refl (ps : List Nat) (s : State) : SitesKept ps s s := fun _ _ _ _ => rfl

theorem SitesKept.trans {ps : List Nat} {s t u : State} (h : SitesKept ps s t) (k : SitesKept ps t u) : SitesKept ps s u :=
  fun a d b m => (k a d b m).trans (h a d b m)

theorem SitesKept.of_regs {ps : List Nat} {s t : State} (h : t.regs = s.regs) : SitesKept ps s t :=
  fun _ _ _ _ => by rw [h]

/-- The bits of every part but the registers of the tiles. -/
def besideTiles : Nat := 2 ^ 41 - 1

theorem Leaves.sitesKept {ps : List Nat} {s t : State} (h : Leaves besideTiles s t) : SitesKept ps s t :=
  fun a d b _ => h.regs a (by rw [b]; decide) d

theorem State.wr_sitesKept {ps : List Nat} (s : State) {f : Field} (tile : f.ofTile = true) (other : f.site ∉ ps)
    (v i : Nat) : SitesKept ps s (s.wr f v i) := by
  intro k d _ mem
  have ne : k ≠ f.key i 0 := by
    rintro rfl
    rw [key_mod_windowSize tile] at mem
    exact other mem
  rw [State.wr, Map.get_put, if_neg ne]

/-- What an error records (R98). -/
def errFields : List Field :=
  [Reg.TILE_ERR_CE, Reg.TILE_CE_COUNT_COUNT, Reg.TILE_ERR_UE, Reg.TILE_UE_ADDR_VALID, Reg.TILE_UE_ADDR_WORD]

/-- What a self-test records. -/
def bistFields : List Field := [Reg.TILE_BIST_DONE, Reg.TILE_BIST_PASS, Reg.TILE_BIST_ELAPSED]

/-- The sites of `errFields`. -/
def errSites : List Nat := errFields.map Field.site

/-- The sites of `bistFields`. -/
def bistSites : List Nat := bistFields.map Field.site

theorem recordFields_ofTile : ∀ f ∈ errFields ++ bistFields, f.ofTile = true := by decide

theorem recordFields_block : ∀ f ∈ errFields ++ bistFields, ∀ tile : Fin 32, blockAt (f.key tile 0) = .tile := by decide

theorem SitesKept.rd {fs : List Field} {s t : State} (h : SitesKept (fs.map Field.site) s t) {f : Field} (mem : f ∈ fs)
    (known : f ∈ errFields ++ bistFields) (tile : Fin 32) : t.rd f tile = s.rd f tile :=
  h _ _ (recordFields_block f known tile)
    (key_mod_windowSize (recordFields_ofTile f known) _ ▸ List.mem_map_of_mem mem)

theorem SitesKept.flag {fs : List Field} {s t : State} (h : SitesKept (fs.map Field.site) s t) {f : Field} (mem : f ∈ fs)
    (known : f ∈ errFields ++ bistFields) (tile : Fin 32) : t.flag f tile = s.flag f tile :=
  congrArg (· != 0) (h.rd mem known tile)

/-- A write of one field of the tiles leaves the others. -/
theorem State.rd_wr_of_site (s : State) {f g : Field} (hf : f.ofTile = true) (hg : g.ofTile = true) (ne : f.site ≠ g.site)
    (v i j : Nat) : (s.wr g v i).rd f j = s.rd f j := by
  rw [State.rd_wr, if_neg]
  intro same
  exact ne (by rw [← key_mod_windowSize hf j, ← key_mod_windowSize hg i, same])

/-- The sites of TILE_STATE and TILE_CUR_OP. -/
def shownSites : List Nat :=
  [Reg.TILE_STATE_STATE.site, Reg.TILE_STATE_DMA_BUSY.site, Reg.TILE_STATE_CONTEXT.site, Reg.TILE_CUR_OP_CONTEXT.site,
    Reg.TILE_CUR_OP_PART.site, Reg.TILE_CUR_OP_OP.site]

theorem State.showTile_sitesKept {ps : List Nat} (s : State) (n : Nat) (other : ∀ p ∈ shownSites, p ∉ ps) :
    SitesKept ps s (s.showTile n) := by
  simp only [shownSites, List.forall_mem_cons] at other
  obtain ⟨state, busy, context, opContext, part, op, -⟩ := other
  unfold State.showTile
  exact (((((s.wr_sitesKept rfl state _ n).trans (State.wr_sitesKept _ rfl busy _ n)).trans
    (State.wr_sitesKept _ rfl context _ n)).trans (State.wr_sitesKept _ rfl opContext _ n)).trans
    (State.wr_sitesKept _ rfl part _ n)).trans (State.wr_sitesKept _ rfl op _ n)

/-! Modes and retirements -/

theorem State.tile_setTile (s : State) (n m : Nat) (f : TileSt → TileSt) :
    (s.setTile n f).tile m = if m = n then f (s.tile n) else s.tile m := Map.get_upd ..

theorem State.unit_setUnit (s : State) (n m : Nat) (f : UnitSt → UnitSt) :
    (s.setUnit n f).unit m = if m = n then f (s.unit n) else s.unit m := Map.get_upd ..

/-- No unit that was retired is in service. -/
def RetiredKept (s t : State) : Prop := ∀ slot, s.retired slot = true → t.retired slot = true

theorem RetiredKept.refl (s : State) : RetiredKept s s := fun _ => id

theorem RetiredKept.trans {s t u : State} (h : RetiredKept s t) (k : RetiredKept t u) : RetiredKept s u :=
  fun slot r => k slot (h slot r)

theorem RetiredKept.of_units {s t : State} (h : t.health.units = s.health.units) : RetiredKept s t :=
  fun slot r => by
    unfold State.retired State.unit at r ⊢
    rwa [h]

theorem RetiredKept.of_health {s t : State} (h : t.health = s.health) : RetiredKept s t := .of_units (by rw [h])

theorem State.setUnit_retiredKept (s : State) (n : Nat) {f : UnitSt → UnitSt}
    (hf : s.retired n = true → 3 ≤ (f (s.unit n)).state) : RetiredKept s (s.setUnit n f) := by
  intro slot r
  rw [State.retired, State.unit_setUnit]
  split_ifs with e
  · subst e
    exact decide_eq_true (hf r)
  · exact r

theorem State.unitTesting_retiredKept (s : State) (n : Nat) : RetiredKept s (s.unitTesting n) := by
  unfold State.unitTesting
  split
  · exact .refl s
  · next no => exact s.setUnit_retiredKept n fun r => absurd r no

/-! The sequencer -/

/-- What the sequencer keeps: the records of errors, and the modes of the tiles. -/
structure SeqKept (s t : State) : Prop where
  sites : SitesKept errSites s t
  modes : ∀ m, (t.tile m).mode = (s.tile m).mode

theorem SeqKept.refl (s : State) : SeqKept s s := ⟨.refl _ s, fun _ => rfl⟩

theorem SeqKept.trans {s t u : State} (h : SeqKept s t) (k : SeqKept t u) : SeqKept s u :=
  ⟨h.sites.trans k.sites, fun m => (k.modes m).trans (h.modes m)⟩

theorem SeqKept.setTile {s : State} {f : TileSt → TileSt} (n : Nat) (hf : ∀ x, (f x).mode = x.mode) :
    SeqKept s (s.setTile n f) := by
  refine ⟨.of_regs rfl, fun m => ?_⟩
  rw [State.tile_setTile]
  split_ifs with e
  · rw [hf, e]
  · rfl

/-- A change of jobs is none of tiles or registers. -/
theorem State.setJob_seqKept (s : State) (c : Nat) (f : JobSt → JobSt) : SeqKept s (s.setJob c f) :=
  ⟨.of_regs rfl, fun _ => rfl⟩

theorem State.wr_seqKept (s : State) {f : Field} (tile : f.ofTile = true) (other : f.site ∉ errSites) (v i : Nat) :
    SeqKept s (s.wr f v i) := ⟨s.wr_sitesKept tile other v i, fun _ => rfl⟩

theorem State.endPart_seqKept (s : State) (n c i op cause : Nat) : SeqKept s (s.endPart n c i op cause) := by
  unfold State.endPart
  refine .trans ?_ (State.setJob_seqKept _ c _)
  split_ifs
  · exact s.wr_seqKept rfl (by decide) 1 n
  · exact s.wr_seqKept rfl (by decide) 1 n
  · exact .refl s

/-- What holds of the state that a start leads to, where it leads to one. -/
def Started.Leads (M : State → Prop) : Started → Prop
  | .waits => True
  | .ended t => M t
  | .runs t => M t
  | .behind t => M t

theorem State.startOp_seqKept (s : State) (n c i : Nat) : (s.startOp n c i).Leads (SeqKept s) := by
  unfold State.startOp
  split
  · trivial
  · split
    · trivial
    · dsimp only
      split
      · trivial
      · split
        · exact s.endPart_seqKept ..
        · split
          · exact s.endPart_seqKept ..
          · split
            · exact (s.setJob_seqKept c _).trans (.setTile n fun _ => rfl)
            · exact (s.setJob_seqKept c _).trans (.setTile n fun _ => rfl)

theorem State.tryParts_seqKept (s : State) (n : Nat) (xs : List (Nat × Nat)) : (s.tryParts n xs).Leads (SeqKept s) := by
  induction xs with
  | nil => trivial
  | cons x xs ih =>
    unfold State.tryParts
    have start := s.startOp_seqKept n x.1 x.2
    split
    · exact ih
    · exact start

theorem State.sequenceTile_seqKept (s : State) (n f : Nat) : SeqKept s (s.sequenceTile n f) := by
  induction f generalizing s with
  | zero => exact .refl s
  | succ f ih =>
    unfold State.sequenceTile
    have next := s.tryParts_seqKept n (s.readyParts n)
    split
    · exact .refl s
    · split <;> rename_i e <;> rw [e] at next
      · exact .refl s
      · exact next.trans (ih _)
      · exact next.trans (ih _)
      · exact next

/-- What running a tile keeps: the records of errors, the retirements, and that a tile withdrawn is not in service. -/
structure RunKept (s t : State) : Prop where
  sites : SitesKept errSites s t
  modes : ∀ m, (s.tile m).mode ≠ .normal → (t.tile m).mode ≠ .normal
  retired : RetiredKept s t

theorem RunKept.refl (s : State) : RunKept s s := ⟨.refl _ s, fun _ => id, .refl s⟩

theorem RunKept.trans {s t u : State} (h : RunKept s t) (k : RunKept t u) : RunKept s u :=
  ⟨h.sites.trans k.sites, fun m x => k.modes m (h.modes m x), h.retired.trans k.retired⟩

theorem State.sequenceTile_runKept (s : State) (n f : Nat) : RunKept s (s.sequenceTile n f) := by
  have seq := s.sequenceTile_seqKept n f
  refine ⟨seq.sites, fun m x => (seq.modes m).symm ▸ x, .of_health ?_⟩
  exact (State.sequenceTile_leaves (P := 2199025352704) (by decide) (.refl _ s) n f).health (by decide)

theorem RunKept.setTile {s : State} {f : TileSt → TileSt} (n : Nat) (hf : ∀ x, (f x).mode ≠ .normal) :
    RunKept s (s.setTile n f) := by
  refine ⟨.of_regs rfl, fun m x => ?_, .refl s⟩
  rw [State.tile_setTile]
  split_ifs
  · exact hf _
  · exact x

theorem State.unitTesting_fabric (s : State) (n : Nat) : (s.unitTesting n).fabric = s.fabric := by
  unfold State.unitTesting
  split <;> rfl

theorem State.unitTesting_regs (s : State) (n : Nat) : (s.unitTesting n).regs = s.regs := by
  unfold State.unitTesting
  split <;> rfl

theorem State.unitTesting_runKept (s : State) (n : Nat) : RunKept s (s.unitTesting n) :=
  ⟨.of_regs (s.unitTesting_regs n), fun m x => by rwa [State.tile, s.unitTesting_fabric], s.unitTesting_retiredKept n⟩

theorem State.wr_runKept (s : State) {f : Field} (tile : f.ofTile = true) (other : f.site ∉ errSites) (v i : Nat) :
    RunKept s (s.wr f v i) := ⟨s.wr_sitesKept tile other v i, fun _ => id, .refl s⟩

theorem State.drained_runKept (s : State) (n : Nat) : RunKept s (s.drained n) := by
  unfold State.drained
  dsimp only
  split_ifs
  · exact (((RunKept.setTile n fun _ => by simp).trans (State.unitTesting_runKept _ n)).trans
      (State.wr_runKept _ rfl (by decide) 0 n)).trans (State.wr_runKept _ rfl (by decide) 0 n)
  · exact .setTile n fun _ => by simp
  · exact .refl s

theorem State.showTile_runKept (s : State) (n : Nat) : RunKept s (s.showTile n) := by
  have leaves := State.showTile_leaves (P := 2199023255552) (by decide) (.refl _ s) n
  exact ⟨s.showTile_sitesKept n (by decide), fun m x => by rwa [State.tile, leaves.fabric (by decide)],
    .of_health (leaves.health (by decide))⟩

theorem State.runTile_runKept (s : State) (n : Nat) : RunKept s (s.runTile n) :=
  ((s.sequenceTile_runKept n 4096).trans (State.drained_runKept _ n)).trans (State.showTile_runKept _ n)

theorem State.runTiles_runKept (s : State) : RunKept s s.runTiles :=
  List.foldlRecOn (motive := RunKept s) _ _ (.refl s) fun t kept n _ => kept.trans (t.runTile_runKept n)

end Sys2Proof.Machine
end

section
/-! SUPPORT. A retirement (R515): no unit that was retired comes back by it, and the records of errors stay. -/

namespace Sys2Proof.Machine

/-! An ALARM leaves the states of the units -/

theorem State.toRing_units (s : State) (a : AlarmRec) : (s.toRing a).health.units = s.health.units := by
  unfold State.toRing
  split
  · split <;> rfl
  · rfl

theorem State.takeAlarm_units (s : State) (a : AlarmRec) : (s.takeAlarm a).health.units = s.health.units := by
  unfold State.takeAlarm
  split
  · rfl
  · exact s.toRing_units a

theorem State.alarmWith_units (s : State) (code unit : Nat) (time : Stamp) (detail : List Word) (text : List Byte) :
    (s.alarmWith code unit time detail text).health.units = s.health.units := by
  unfold State.alarmWith
  dsimp only
  generalize e : State.raise _ Reg.HL_IRQ_ALARM = u
  have counted := State.count_leaves (by decide) (.refl (2 ^ 13 + 2 ^ 35) u) 0xA01 (unitKind unit) 1
  have sent (l : List Nat) (p : PeerPayload) :
      Leaves (2 ^ 13 + 2 ^ 35) u (l.foldl (fun t m => t.sendPeer m true p) (u.count 0xA01 (unitKind unit) 1)) :=
    .foldl (fun _ m t => State.sendPeer_leaves (by decide) t m true p) l counted
  refine (congrArg HealthSt.units (Leaves.health (.ite (fun _ => sent _ _) fun _ => counted) (by decide))).trans ?_
  rw [← e]
  exact State.takeAlarm_units _ _

theorem State.alarmCore_units (s : State) (b : HwBlock) (name : String) (unit : Nat) :
    (s.alarmCore b name unit).health.units = s.health.units := by
  rw [State.alarmCore]
  exact s.alarmWith_units ..

theorem State.endLostSubs_units (s : State) : s.endLostSubs.health.units = s.health.units := by
  refine List.foldlRecOn (op := fun (t : State) u => (t.subEnded u).alarmCore .health "SUBSCRIPTION_ENDED" 0)
    (motive := fun (t : State) => t.health.units = s.health.units) _ rfl fun (t : State) kept u _ => ?_
  rw [State.alarmCore_units, ← kept]
  rfl

theorem State.alarm_units (s : State) (b : HwBlock) (name : String) (unit : Nat) :
    (s.alarm b name unit).health.units = s.health.units := by
  rw [State.alarm, State.endLostSubs_units, State.alarmCore_units]

/-! What a fault keeps -/

/-- The records of errors and the retirements are kept. -/
structure FaultKept (s t : State) : Prop where
  sites : SitesKept errSites s t
  retired : RetiredKept s t

theorem FaultKept.refl (s : State) : FaultKept s s := ⟨.refl _ s, .refl s⟩

theorem FaultKept.trans {s t u : State} (h : FaultKept s t) (k : FaultKept t u) : FaultKept s u :=
  ⟨h.sites.trans k.sites, h.retired.trans k.retired⟩

theorem FaultKept.ite {s t u : State} {c : Prop} [Decidable c] (h : FaultKept s t) (k : FaultKept s u) :
    FaultKept s (if c then t else u) := by
  split
  · exact h
  · exact k

theorem RunKept.faultKept {s t : State} (h : RunKept s t) : FaultKept s t := ⟨h.sites, h.retired⟩

/-- The bits of every part but the registers of the tiles and the health block. -/
def besideUnits : Nat := besideTiles - 2048

theorem Leaves.faultKept {s t : State} (h : Leaves besideUnits s t) : FaultKept s t where
  sites k d b _ := h.regs k (by rw [b]; decide) d
  retired := .of_health (h.health (by decide))

theorem FaultKept.of_setTile (s : State) (n : Nat) (f : TileSt → TileSt) : FaultKept s (s.setTile n f) :=
  ⟨.of_regs rfl, .refl s⟩

/-! The retirement of a unit -/

theorem State.history_retired (s : State) (slot event cause node count osn m : Nat) :
    (s.history slot event cause node count osn).retired m = s.retired m := by
  unfold State.history
  dsimp only
  generalize e : State.setUnit _ slot _ = u
  have unit : (u.unit m).state = (s.unit m).state := by
    rw [← e, State.unit_setUnit]
    split_ifs with same
    · rw [same]
      rfl
    · rfl
  split <;> exact congrArg (fun n => decide (3 ≤ n)) unit

/-- The unit as its retirement leaves it. -/
def UnitSt.retire (cause : FaultCause) (u : UnitSt) : UnitSt :=
  { u with state := 3, cause := causeCode cause, retireCount := satAdd 255 u.retireCount 1, window := [],
           window2 := [], testedAt := none, sinceTest := false }

theorem State.retireUnit_of_retired {s : State} {slot : Nat} (h : s.retired slot = true) (cause : FaultCause) (node osn : Nat) :
    s.retireUnit slot cause node osn = s := if_pos h

/-- A retirement retires its unit, and brings no other back. -/
theorem State.retireUnit_retires (s : State) (slot : Nat) (cause : FaultCause) (node osn : Nat) :
    (s.retireUnit slot cause node osn).retired slot = true ∧ RetiredKept s (s.retireUnit slot cause node osn) := by
  by_cases r : s.retired slot = true
  · rw [State.retireUnit_of_retired r]
    exact ⟨r, .refl s⟩
  rw [State.retireUnit, if_neg r]
  dsimp only
  generalize e : State.setHealth _ _ = u
  have now (m : Nat) : u.retired m = if m = slot then true else s.retired m := by
    rw [← e]
    change (s.setUnit slot (UnitSt.retire cause)).retired m = _
    rw [State.retired, State.unit_setUnit]
    split_ifs <;> rfl
  have final (m : Nat) (b : HwBlock) (name : String) (x ev ca no co os : Nat) :
      (((u.countRetired.showBusy.history slot ev ca no co os).raise Reg.HL_IRQ_RETIRED).alarm b name x).retired m
        = u.retired m := by
    rw [State.retired, State.unit, State.alarm_units]
    change (u.countRetired.showBusy.history slot ev ca no co os).retired m = _
    rw [State.history_retired]
    rfl
  refine ⟨by rw [final, now, if_pos rfl], fun m h => ?_⟩
  rw [final, now, h]
  split_ifs <;> rfl

theorem State.retireUnit_faultKept (s : State) (slot : Nat) (cause : FaultCause) (node osn : Nat) :
    FaultKept s (s.retireUnit slot cause node osn) :=
  ⟨(State.retireUnit_leaves (by decide) (.refl besideTiles s) slot cause node osn).sitesKept,
    (s.retireUnit_retires slot cause node osn).2⟩

/-! The Kiln -/

theorem State.kilnFlag_retiredKept (s : State) (f : Field) (limit : Rat) (name : String) :
    RetiredKept s (s.kilnFlag f limit name) := by
  unfold State.kilnFlag
  dsimp only
  split_ifs
  · exact .refl s
  · exact .refl s
  · exact .of_units (State.alarm_units ..)
  · exact .refl s

theorem State.kiln_faultKept (s : State) : FaultKept s s.kiln := by
  refine ⟨(State.kiln_leaves (by decide) (.refl besideTiles s)).sitesKept, ?_⟩
  unfold State.kiln
  exact .trans (State.kilnFlag_retiredKept (s.wr .. |>.wr ..) _ _ _) (State.kilnFlag_retiredKept _ _ _ _)

/-! The retirement of tiles -/

theorem State.wr_faultKept (s : State) {f : Field} (tile : f.ofTile = true) (other : f.site ∉ errSites) (v i : Nat) :
    FaultKept s (s.wr f v i) := (s.wr_runKept tile other v i).faultKept

theorem State.showJobs_faultKept (s : State) : FaultKept s s.showJobs := by
  have head : FaultKept s ((s.wr Reg.GRIST_RESOURCES_CONTEXTS_USED s.jobs.length).wr Reg.GRIST_RESOURCES_OPS_RESERVED
      (s.jobs.foldl (fun a j => a + j.2.ops) 0)) :=
    Leaves.faultKept (State.wr_leaves (State.wr_leaves (.refl _ s) _ (by decide) _ _ _) _ (by decide) _ _ _)
  refine head.trans ?_
  exact List.foldlRecOn (motive := FaultKept _) _ _ (.refl _) fun t kept n _ =>
    kept.trans (t.wr_faultKept rfl (by decide) _ n)

theorem State.relocates_faultKept (s : State) (l : List (Nat × Nat)) :
    FaultKept s (l.foldl (fun t m => t.relocate m.1 m.2) s) :=
  List.foldlRecOn (motive := FaultKept s) _ _ (.refl s) fun t kept m _ =>
    kept.trans (Leaves.faultKept (State.relocate_leaves (by decide) (.refl _ t) m.1 m.2))

theorem State.retireTiles_faultKept (s : State) (ns : List Nat) (cause : FaultCause) (node osn : Nat) :
    FaultKept s (s.retireTiles ns cause node osn) := by
  unfold State.retireTiles
  dsimp only
  split
  · exact .refl s
  have units : FaultKept s ((ns.filter fun n => !s.retired n).foldl (fun (t : State) n =>
      ((t.retireUnit n cause node osn).setTile n fun x =>
        { x with mode := .normal, cur := none, dmas := [], thenBist := false }).gaugeOut n) s) :=
    List.foldlRecOn (motive := FaultKept s) _ _ (.refl s) fun t kept n _ =>
      ((kept.trans (t.retireUnit_faultKept n cause node osn)).trans (.of_setTile _ n _)).trans
        (Leaves.faultKept (State.gaugeOut_leaves (by decide) (.refl _ _) n))
  refine .trans ?_ (State.runTiles_runKept _).faultKept
  refine .trans ?_ (State.kiln_faultKept _)
  refine .trans ?_ (Leaves.faultKept (State.replan_leaves (by decide) (.refl _ _)))
  exact (units.trans (State.relocates_faultKept _ _)).trans (State.showJobs_faultKept _)

/-! Transients and failed attempts -/

/-- The unit with one more transient. -/
def UnitSt.struck (second : Bool) (u : UnitSt) : UnitSt :=
  { u with window := if second then u.window else windowInc u.window
           window2 := if second then windowInc u.window2 else u.window2
           sinceTest := true }

theorem State.unitTransient_faultKept (s : State) (n : Nat) (second : Bool) : FaultKept s (s.unitTransient n second).1 := by
  refine ⟨(State.unitTransient_leaves (by decide) (.refl besideTiles s) n second).sitesKept, ?_⟩
  unfold State.unitTransient
  split
  · exact s.setUnit_retiredKept n fun r => by simpa [State.retired] using r
  · next no =>
    have struck : RetiredKept s (s.setUnit n (UnitSt.struck second)) := s.setUnit_retiredKept n fun r => absurd r no
    have counted := State.count_leaves (P := 2 ^ 35) (by decide) (.refl _ (s.setUnit n (UnitSt.struck second))) 0xA04
      (some (kindOf n)) 1
    exact struck.trans (.of_health (counted.health (by decide)))

theorem State.tileTransient_faultKept (s : State) (n : Nat) (second : Bool) : FaultKept s (s.tileTransient n second) := by
  unfold State.tileTransient
  dsimp only
  split
  · exact (s.unitTransient_faultKept n second).trans (State.retireTiles_faultKept ..)
  · exact s.unitTransient_faultKept n second

theorem State.count_faultKept (s : State) (event : Nat) (inst : Option Nat) (w : Nat) : FaultKept s (s.count event inst w) :=
  Leaves.faultKept (State.count_leaves (by decide) (.refl _ s) event inst w)

theorem State.failAttempt_faultKept (s : State) (n : Nat) (r : OpRun) (u : Bool) : FaultKept s (s.failAttempt n r u) := by
  have jobs (t : State) (c : Nat) (f : JobSt → JobSt) : FaultKept t (t.setJob c f) := ⟨.of_regs rfl, .refl t⟩
  unfold State.failAttempt
  split
  · exact .refl s
  · split
    · exact .refl s
    · dsimp only
      refine .ite (s.retireTiles_faultKept ..) (.ite ?_ ?_)
      · exact (FaultKept.of_setTile s n _).trans (State.runTile_runKept _ n).faultKept
      · refine .trans ?_ (State.runTile_runKept _ n).faultKept
        refine .trans ?_ (State.tileTransient_faultKept _ n false)
        refine .trans ?_ (State.count_faultKept _ _ _ _)
        refine .trans ?_ (State.wr_faultKept _ (f := Reg.TILE_RETRIES_RETRIED) rfl (by decide) _ n)
        have tried (f g) := (jobs s r.ctx f).trans (jobs _ r.ctx g)
        exact .ite ((tried _ _).trans (.of_setTile _ n _)) (tried _ _)

end Sys2Proof.Machine
end

section
/-! SUPPORT. The commands of the tiles (R28, R98, R109, R119, R122). -/

namespace Sys2Proof.Machine

/-! Operations that complete (R109) -/

theorem State.finishOp_of_no_job {s : State} {r : OpRun} (h : s.job r.ctx = none) (n : Nat) : s.finishOp n r = s := by
  unfold State.finishOp
  rw [h]

/-- A DMA waits for those issued before it; any other operation takes effect as it completes. -/
theorem execOperationComplete_of_cur {s : State} {tile : Fin 32} {r : OpRun} (cur : (s.tile tile).cur = some r)
    (free : s.job r.ctx = none ∨ (s.tile tile).dmas = []) : exec (.operationComplete tile) s =
      .next (((s.setTile tile fun x => { x with cur := none }).finishOp tile r).runTile tile) := by
  change execOperationComplete tile s = _
  unfold execOperationComplete
  rw [cur]
  refine if_neg ?_
  rcases free with none | none <;> simp [none]

theorem execOperationComplete_of_idle {s : State} {tile : Fin 32} (idle : (s.tile tile).cur = none) :
    exec (.operationComplete tile) s = .next s := by
  change execOperationComplete tile s = _
  unfold execOperationComplete
  rw [idle]

theorem execDmaComplete_of_none {s : State} {tile : Fin 32} (none : (s.tile tile).dmas = []) :
    exec (.dmaComplete tile) s = .next s := by
  change execDmaComplete tile s = _
  unfold execDmaComplete
  rw [none]

theorem execDmaComplete_of_cons {s : State} {tile : Fin 32} {r : OpRun} {rs : List OpRun}
    (dmas : (s.tile tile).dmas = r :: rs) : exec (.dmaComplete tile) s =
      .next (((s.setTile tile fun x => { x with dmas := rs }).finishOp tile r).runTile tile) := by
  change execDmaComplete tile s = _
  unfold execDmaComplete
  rw [dmas]

/-! Errors (R98, R119) -/

theorem State.flag_raise_tile (s : State) {f : Field} (w : f.w = 1) (i : Nat) : (s.raise f i).flag f i = true := by
  simp [State.flag, State.raise, w]

theorem State.flag_wr_of_site (s : State) {f g : Field} (hf : f.ofTile = true) (hg : g.ofTile = true) (ne : f.site ≠ g.site)
    (v i j : Nat) : (s.wr g v i).flag f j = s.flag f j := congrArg (· != 0) (s.rd_wr_of_site hf hg ne v i j)

/-- What a corrected word records before it is counted as a transient. -/
def State.ceNoted (s : State) (tile : Nat) : State := (s.raise Reg.TILE_ERR_CE tile).incSat Reg.TILE_CE_COUNT_COUNT tile

theorem State.ceNoted_flag (s : State) (tile : Nat) : (s.ceNoted tile).flag Reg.TILE_ERR_CE tile = true := by
  rw [State.ceNoted, State.incSat, State.flag_wr_of_site _ rfl rfl (by decide), State.flag_raise_tile _ rfl]

theorem State.ceNoted_count (s : State) (tile : Nat) : (s.ceNoted tile).rd Reg.TILE_CE_COUNT_COUNT tile =
    min (2 ^ 32 - 1) (s.rd Reg.TILE_CE_COUNT_COUNT tile + 1) := by
  rw [State.ceNoted, State.incSat, State.rd_wr_self, State.raise, State.rd_wr_of_site _ rfl rfl (by decide)]
  exact Nat.mod_eq_of_lt (Nat.lt_of_le_of_lt (Nat.min_le_left _ _) (by decide))

theorem tileError_corrected {s : State} {tile : Fin 32} {word : BitVec 19} (on : s.tilePowered tile = true) :
    Does (.tileError tile .corrected word) s
      [.dict, .fresh, .health, .zdp, .ports, .fabric, .regs .grist, .regs .gauge, .regs .cnt, .regs .hl, .regs .tile] fun t =>
      t.flag Reg.TILE_ERR_CE tile = true ∧
      t.rd Reg.TILE_CE_COUNT_COUNT tile = min (2 ^ 32 - 1) (s.rd Reg.TILE_CE_COUNT_COUNT tile + 1) := by
  have e : exec (.tileError tile .corrected word) s =
      .next (((s.ceNoted tile).count 0x204 (some tile)).tileTransient tile true) := if_neg (by simp [on])
  have kept := (((s.ceNoted tile).count_faultKept 0x204 (some tile) 1).trans (State.tileTransient_faultKept _ tile true)).sites
  refine .next e ⟨?_, ?_⟩
  · rw [kept.flag (by simp [errFields]) (by simp [errFields]), State.ceNoted_flag]
  · rw [kept.rd (by simp [errFields]) (by simp [errFields]), State.ceNoted_count]

/-- What an uncorrectable word records before the attempt that runs fails. -/
def State.ueNoted (s : State) (tile word : Nat) : State :=
  ((s.raise Reg.TILE_ERR_UE tile).raise Reg.TILE_UE_ADDR_VALID tile).wr Reg.TILE_UE_ADDR_WORD word tile

/-- The attempt of an operation fails, where one runs. -/
def State.failed (s : State) (tile : Nat) (r : Option OpRun) (u : Bool) : State :=
  match r with
  | some r => s.failAttempt tile r u
  | none => s

theorem State.failed_faultKept (s : State) (tile : Nat) (r : Option OpRun) (u : Bool) : FaultKept s (s.failed tile r u) := by
  unfold State.failed
  split
  · exact s.failAttempt_faultKept ..
  · exact .refl s

theorem tileError_uncorrectable {s : State} {tile : Fin 32} {word : BitVec 19} (on : s.tilePowered tile = true) :
    Does (.tileError tile .uncorrectable word) s
      [.dict, .fresh, .health, .zdp, .ports, .fabric, .regs .grist, .regs .gauge, .regs .cnt, .regs .hl, .regs .tile] fun t =>
      t.flag Reg.TILE_ERR_UE tile = true ∧ t.flag Reg.TILE_UE_ADDR_VALID tile = true ∧
      t.rd Reg.TILE_UE_ADDR_WORD tile = word.toNat := by
  have e : exec (.tileError tile .uncorrectable word) s =
      .next ((s.ueNoted tile word.toNat).failed tile (s.tile tile).cur true) := if_neg (by simp [on])
  have kept := ((s.ueNoted tile word.toNat).failed_faultKept tile (s.tile tile).cur true).sites
  refine .next e ⟨?_, ?_, ?_⟩
  · rw [kept.flag (by simp [errFields]) (by simp [errFields]), State.ueNoted, State.flag_wr_of_site _ rfl rfl (by decide),
      State.raise, State.flag_wr_of_site _ rfl rfl (by decide), State.flag_raise_tile _ rfl]
  · rw [kept.flag (by simp [errFields]) (by simp [errFields]), State.ueNoted, State.flag_wr_of_site _ rfl rfl (by decide),
      State.flag_raise_tile _ rfl]
  · rw [kept.rd (by simp [errFields]) (by simp [errFields]), State.ueNoted, State.rd_wr_self]
    exact Nat.mod_eq_of_lt word.isLt

/-! TILE_CTRL that is not acted on (R122) -/

/-- What an ignored write of TILE_CTRL does: nothing but its flag. -/
theorem State.ctrlIgnored_does (s : State) (tile : Fin 32) : (s.ctrlIgnored tile).fabric = s.fabric ∧
    (s.ctrlIgnored tile).flag Reg.TILE_ERR_CTRL_IGNORED tile = true ∧
    RegsBut [Reg.TILE_ERR_CTRL_IGNORED.key tile 0] s (s.ctrlIgnored tile) := by
  refine ⟨rfl, State.flag_raise_tile _ rfl _, fun f i j other => ?_⟩
  rw [State.ctrlIgnored, State.raise, State.rd_wr, if_neg fun same => other (List.mem_singleton.2 same)]

/-! The drain -/

/-- The re-planning flag stays while an operation leaves Grist's registers. -/
theorem Leaves.replanning {s t : State} (h : Leaves (2 ^ 42 - 1 - 2 ^ 25) s t) :
    t.flag Reg.GRIST_STATUS_REPLANNING = s.flag Reg.GRIST_STATUS_REPLANNING :=
  congrArg (· != 0) (h.regs _ (by decide) _)

theorem State.replan_replanning (s : State) : s.replan.flag Reg.GRIST_STATUS_REPLANNING = true := by
  simp only [State.flag, State.replan, State.raise, State.rd_wr_self]
  decide

theorem tileDrain_does {s : State} {tile : Fin 32} (on : s.tileInService tile = true) :
    Does (.tileDrain tile) s [.health, .fabric, .regs .grist, .regs .tile] fun t =>
      (t.tile tile).mode ≠ .normal ∧ t.flag Reg.GRIST_STATUS_REPLANNING = true := by
  let u := ((s.setTile tile fun x => { x with mode := .draining, thenBist := false }).setUnit tile fun x => { x with state := 1 })
  have e : exec (.tileDrain tile) s = .next (u.replan.runTile tile) := congrArg Host.Outcome.next (if_pos on)
  have mode : (u.replan.tile tile).mode = .draining := by
    change ((s.setTile tile fun x => { x with mode := .draining, thenBist := false }).tile tile).mode = _
    rw [State.tile_setTile, if_pos rfl]
  refine .next e ⟨(State.runTile_runKept _ tile).modes tile (by simp [mode]), ?_⟩
  rw [Leaves.replanning (State.runTile_leaves (by decide) (.refl _ _) tile), State.replan_replanning]

/-! The self-test -/

theorem State.showTile_fabric (s : State) (n : Nat) : (s.showTile n).fabric = s.fabric :=
  (State.showTile_leaves (P := 2199023255552) (by decide) (.refl _ s) n).fabric (by decide)

theorem tileBistStart_does {s : State} {tile : Fin 32} (on : s.tilePowered tile = true) (off : (s.tile tile).mode = .offline) :
    Does (.tileBistStart tile) s [.health, .fabric, .regs .tile] fun t =>
      (t.tile tile).mode = .bist ∧ t.flag Reg.TILE_BIST_DONE tile = false ∧ t.flag Reg.TILE_BIST_PASS tile = false := by
  let u := (s.setTile tile fun x => { x with mode := .bist }).unitTesting tile
  let v := (u.wr Reg.TILE_BIST_DONE 0 tile).wr Reg.TILE_BIST_PASS 0 tile
  have e : exec (.tileBistStart tile) s = .next (v.showTile tile) :=
    congrArg Host.Outcome.next (if_pos (by simp [on, off]))
  have kept : SitesKept bistSites v (v.showTile tile) := v.showTile_sitesKept tile (by decide)
  have zero (t : State) {f : Field} : (t.wr f 0 tile).flag f tile = false := by simp [State.flag]
  refine .next e ⟨?_, ?_, ?_⟩
  · rw [State.tile, State.showTile_fabric]
    change (u.tile tile).mode = _
    rw [State.tile, State.unitTesting_fabric]
    change ((s.setTile tile fun x => { x with mode := .bist }).tile tile).mode = _
    rw [State.tile_setTile, if_pos rfl]
  · rw [kept.flag (by simp [bistFields]) (by simp [bistFields]), State.flag_wr_of_site _ rfl rfl (by decide), zero]
  · rw [kept.flag (by simp [bistFields]) (by simp [bistFields]), zero]

/-- The registers that the end of a self-test writes. -/
def State.bistNoted (s : State) (tile : Nat) (pass : Bool) (step elapsed : Nat) : State :=
  (((s.raise Reg.TILE_BIST_DONE tile).put Reg.TILE_BIST_PASS pass tile).wr Reg.TILE_BIST_STEP (if pass then 0 else step)
    tile).wr Reg.TILE_BIST_ELAPSED elapsed tile

section
variable (s : State) (tile : Nat) (pass : Bool) (step elapsed : Nat)

theorem State.bistNoted_done : (s.bistNoted tile pass step elapsed).flag Reg.TILE_BIST_DONE tile = true := by
  rw [State.bistNoted, State.flag_wr_of_site _ rfl rfl (by decide), State.flag_wr_of_site _ rfl rfl (by decide), State.put,
    State.flag_wr_of_site _ rfl rfl (by decide), State.flag_raise_tile _ rfl]

theorem State.bistNoted_pass : (s.bistNoted tile pass step elapsed).flag Reg.TILE_BIST_PASS tile = pass := by
  rw [State.bistNoted, State.flag_wr_of_site _ rfl rfl (by decide), State.flag_wr_of_site _ rfl rfl (by decide), State.put,
    State.flag, State.rd_wr_self]
  cases pass <;> rfl

theorem State.bistNoted_elapsed (h : elapsed < 2 ^ 16) :
    (s.bistNoted tile pass step elapsed).rd Reg.TILE_BIST_ELAPSED tile = elapsed := by
  rw [State.bistNoted, State.rd_wr_self]
  exact Nat.mod_eq_of_lt h

end

/-- The end of a self-test in its tile and in the health block. -/
def State.bistTested (s : State) (tile : Nat) (pass : Bool) : State :=
  (s.setTile tile fun x => { x with mode := if s.retired tile then .normal else .offline }).unitTested tile pass

/-- What follows a failed self-test. -/
def State.bistOut (s : State) (tile : Nat) : State :=
  ((s.setTile tile fun x => { x with mode := .normal }).gaugeOut tile).replan.kiln

theorem execTileBistDone_of_bist {s : State} {tile : Fin 32} (bist : (s.tile tile).mode = .bist) (pass : Bool)
    (step : BitVec 2) (elapsed : BitVec 16) : exec (.tileBistDone tile pass step elapsed) s =
      .next ((if pass then (s.bistNoted tile pass step.toNat elapsed.toNat).bistTested tile pass
        else ((s.bistNoted tile pass step.toNat elapsed.toNat).bistTested tile pass).bistOut tile).showTile tile) :=
  if_neg (by simp [bist])

theorem State.bistTested_sitesKept (s : State) (tile : Nat) (pass : Bool) (ps : List Nat) :
    SitesKept ps s (s.bistTested tile pass) :=
  (SitesKept.of_regs rfl : SitesKept ps s (s.setTile tile _)).trans
    (State.unitTested_leaves (by decide) (.refl besideTiles _) tile pass).sitesKept

theorem State.bistOut_sitesKept (s : State) (tile : Nat) (ps : List Nat) : SitesKept ps s (s.bistOut tile) :=
  (SitesKept.of_regs rfl : SitesKept ps s (s.setTile tile _)).trans
    (State.kiln_leaves (by decide) (State.replan_leaves (by decide)
      (State.gaugeOut_leaves (by decide) (.refl besideTiles _) tile))).sitesKept

theorem tileBistDone_does {s : State} {tile : Fin 32} {pass : Bool} {step : BitVec 2} {elapsed : BitVec 16}
    (bist : (s.tile tile).mode = .bist) : Does (.tileBistDone tile pass step elapsed) s
      [.mem, .dict, .poisoned, .fresh, .health, .zdp, .ports, .journal, .claims, .loop, .can, .fabric, .regs .grist,
        .regs .gauge, .regs .le, .regs .can, .regs .cnt, .regs .hl, .regs .je, .regs .tile] fun t =>
      t.flag Reg.TILE_BIST_DONE tile = true ∧ t.flag Reg.TILE_BIST_PASS tile = pass ∧
      t.rd Reg.TILE_BIST_ELAPSED tile = elapsed.toNat := by
  have noted_done := s.bistNoted_done tile pass step.toNat elapsed.toNat
  have noted_pass := s.bistNoted_pass tile pass step.toNat elapsed.toNat
  have noted_elapsed := s.bistNoted_elapsed tile pass step.toNat elapsed.toNat elapsed.isLt
  have e := execTileBistDone_of_bist bist pass step elapsed
  generalize s.bistNoted tile pass step.toNat elapsed.toNat = u at e noted_done noted_pass noted_elapsed
  have tested := u.bistTested_sitesKept tile pass bistSites
  have out : SitesKept bistSites u (if pass then u.bistTested tile pass else (u.bistTested tile pass).bistOut tile) := by
    split
    · exact tested
    · exact tested.trans (State.bistOut_sitesKept _ tile bistSites)
  have kept := out.trans (State.showTile_sitesKept _ tile (by decide))
  refine .next e ⟨?_, ?_, ?_⟩
  · rw [kept.flag (by simp [bistFields]) (by simp [bistFields]), noted_done]
  · rw [kept.flag (by simp [bistFields]) (by simp [bistFields]), noted_pass]
  · rw [kept.rd (by simp [bistFields]) (by simp [bistFields]), noted_elapsed]

theorem State.unitTested_fabric (s : State) (slot : Nat) (pass : Bool) : (s.unitTested slot pass).fabric = s.fabric :=
  (State.unitTested_leaves (P := 103079229960) (by decide) (.refl _ s) slot pass).fabric (by decide)

theorem tileBistDone_passed {s : State} {tile : Fin 32} {step : BitVec 2} {elapsed : BitVec 16}
    (bist : (s.tile tile).mode = .bist) (live : s.retired tile = false) : Does (.tileBistDone tile true step elapsed) s
      [.mem, .dict, .poisoned, .fresh, .health, .zdp, .ports, .journal, .claims, .loop, .can, .fabric, .regs .grist,
        .regs .gauge, .regs .le, .regs .can, .regs .cnt, .regs .hl, .regs .je, .regs .tile] fun t =>
      (t.tile tile).mode = .offline ∧ t.fabric.gauge = s.fabric.gauge := by
  have e := execTileBistDone_of_bist bist true step elapsed
  have still : (s.bistNoted tile true step.toNat elapsed.toNat).retired tile = false := live
  have same : (s.bistNoted tile true step.toNat elapsed.toNat).fabric = s.fabric := rfl
  generalize s.bistNoted tile true step.toNat elapsed.toNat = u at e still same
  have offline : (if u.retired tile = true then TileMode.normal else .offline) = .offline := by
    rw [still]
    rfl
  have fabric : ((u.bistTested tile true).showTile tile).fabric = (u.setTile tile fun x => { x with mode := .offline }).fabric := by
    rw [State.showTile_fabric, State.bistTested, State.unitTested_fabric, offline]
  refine .next e ⟨?_, ?_⟩
  · rw [if_pos rfl, State.tile, fabric]
    change ((u.setTile tile fun x => { x with mode := .offline }).tile tile).mode = _
    rw [State.tile_setTile, if_pos rfl]
  · rw [if_pos rfl, fabric, ← same]
    rfl

/-! The return -/

theorem State.kilnFlag_replanning (s : State) {f : Field} (hf : covers (2 ^ 42 - 1 - 2 ^ 25) f = true) (limit : Rat)
    (name : String) : (s.kilnFlag f limit name).flag Reg.GRIST_STATUS_REPLANNING = s.flag Reg.GRIST_STATUS_REPLANNING := by
  have irq (t : State) : (t.raise Reg.GRIST_IRQ_KILN).flag Reg.GRIST_STATUS_REPLANNING = t.flag Reg.GRIST_STATUS_REPLANNING := by
    rw [State.flag, State.raise, State.rd_wr, if_neg (by decide)]
    rfl
  have write (v : Nat) : (s.wr f v).flag Reg.GRIST_STATUS_REPLANNING = s.flag Reg.GRIST_STATUS_REPLANNING :=
    Leaves.replanning (State.wr_leaves (.refl _ s) f hf v 0 0)
  unfold State.kilnFlag
  dsimp only
  split_ifs
  · rw [irq, write]
  · rfl
  · rw [Leaves.replanning (State.alarm_leaves (by decide) (.refl _ _) .gauge name 0), irq, State.raise, write]
  · rfl

theorem State.kiln_replanning (s : State) :
    s.kiln.flag Reg.GRIST_STATUS_REPLANNING = s.flag Reg.GRIST_STATUS_REPLANNING := by
  unfold State.kiln
  rw [State.kilnFlag_replanning _ (by decide), State.kilnFlag_replanning _ (by decide)]
  exact Leaves.replanning (State.wr_leaves (State.wr_leaves (.refl _ s) _ (by decide) _ _ _) _ (by decide) _ _ _)

theorem State.retired_of_tilePowered {s : State} {n : Nat} (on : s.tilePowered n = true) : s.retired n = false := by
  simp only [State.tilePowered, Bool.and_eq_true, Bool.not_eq_true'] at on
  exact on.2

theorem State.onlineTile_of_live {s : State} {n : Nat} (live : s.retired n = false) (node osn : Nat) :
    s.onlineTile n node osn = (((s.setTile n fun x => { x with mode := .normal, cur := none, dmas := [] }).unitReturned n
      node osn).replan.kiln).showTile n := by
  unfold State.onlineTile
  rw [live]
  rfl

theorem tileOnline_does {s : State} {tile : Fin 32} (on : s.tilePowered tile = true) (off : (s.tile tile).mode = .offline) :
    Does (.tileOnline tile) s
      [.dict, .fresh, .health, .zdp, .ports, .fabric, .regs .grist, .regs .gauge, .regs .cnt, .regs .hl, .regs .tile] fun t =>
      (t.tile tile).mode = .normal ∧ (t.tile tile).cur = none ∧ t.flag Reg.GRIST_STATUS_REPLANNING = true := by
  have acts : (s.tilePowered tile && (s.tile tile).mode == .offline) = true := by simp [on, off]
  have e : exec (.tileOnline tile) s = .next (s.onlineTile tile) := congrArg Host.Outcome.next (if_pos acts)
  rw [State.onlineTile_of_live (State.retired_of_tilePowered on)] at e
  have now := s.tile_setTile tile tile fun x => { x with mode := .normal, cur := none, dmas := [] }
  rw [if_pos rfl] at now
  generalize s.setTile tile _ = u at e now
  have leaves : Leaves (2 ^ 42 - 1 - 2 ^ 21) u ((u.unitReturned tile).replan.kiln) :=
    State.kiln_leaves (by decide) (State.replan_leaves (by decide) (State.unitReturned_leaves (by decide) (.refl _ u) tile 0 0))
  have same : ((u.unitReturned tile).replan.kiln.showTile tile).tile tile = u.tile tile := by
    rw [State.tile, State.showTile_fabric, leaves.fabric (by decide)]
    rfl
  refine .next e ⟨by rw [same, now], by rw [same, now], ?_⟩
  rw [Leaves.replanning (State.showTile_leaves (by decide) (.refl _ _) tile), State.kiln_replanning, State.replan_replanning]

/-! The die links (R28, R29) -/

theorem State.dieLinkFail_retires (s : State) (k : Nat) (cause : FaultCause) : (s.dieLinkFail k cause).retired (96 + k) = true := by
  have now := (s.retireUnit_retires (96 + k) cause 0 0).1
  unfold State.dieLinkFail
  dsimp only
  split_ifs
  · exact (State.retireTiles_faultKept ..).retired _ now
  · exact (State.retireTiles_faultKept ..).retired _ now
  · exact now

theorem slot_of_link {link : Fin 4} (h : link.val < 3) : (if (link.val == 3) = true then 455 else 96 + link.val) = 96 + link.val :=
  if_neg (by simp only [beq_iff_eq]; omega)

theorem execDieLinkCheckFail_of_retired {s : State} {link : Fin 4} {attempt : Fin 3} (h : link.val < 3)
    (gone : s.retired (96 + link.val) = true) : exec (.dieLinkCheckFail link attempt) s = .next s := by
  refine if_pos ?_
  rw [slot_of_link h, gone]

theorem dieLinkCheckFail_third {s : State} {link : Fin 4} (h : link.val < 3) (here : s.retired (96 + link.val) = false) :
    Does (.dieLinkCheckFail link 2) s [.dict, .fresh, .health, .zdp, .ports, .journal, .fabric, .regs .grist, .regs .gauge,
      .regs .cnt, .regs .hl, .regs .je, .regs .tile] fun t => t.retired (96 + link.val) = true := by
  have e : exec (.dieLinkCheckFail link 2) s = .next (s.dieLinkFail link.val .retry) := by
    refine (if_neg ?_).trans ((if_pos rfl).trans (congrArg _ (if_neg ?_)))
    · rw [slot_of_link h, here]
      exact Bool.false_ne_true
    · simp only [beq_iff_eq]
      omega
  exact .next e (s.dieLinkFail_retires link.val .retry)

/-! The tiles as a whole -/

/-- A command of TILE_CTRL that is not acted on. -/
theorem Does.ignored {i : Instr} {s : State} {tile : Fin 32} (e : exec i s = .next (s.ctrlIgnored tile)) :
    Does i s i.touches fun t => t.fabric = s.fabric ∧ t.flag Reg.TILE_ERR_CTRL_IGNORED tile = true ∧
      RegsBut [Reg.TILE_ERR_CTRL_IGNORED.key tile 0] s t := .next e (s.ctrlIgnored_does tile)

theorem offline_false_of_normal {s : State} {tile : Fin 32} (normal : (s.tile tile).mode = .normal) :
    ¬(s.tilePowered tile && (s.tile tile).mode == .offline) = true := by simp [normal]

/-- Settles O8: a completion is its effect followed by the sequencer; an error's records outlast what its attempt brings; a
retirement is undone by nothing that it sets off. -/
theorem tileCommands : Obligations.TileCommands := by
  unfold Obligations.TileCommands
  refine ⟨fun s tile => execOperationComplete_of_idle,
    fun s tile r cur none => .next (execOperationComplete_of_cur cur (.inl none)) ?_,
    fun s tile r cur none => .next (execOperationComplete_of_cur cur (.inr none)) rfl,
    fun s tile => execDmaComplete_of_none,
    fun s tile r rs dmas => .next (execDmaComplete_of_cons dmas) rfl,
    fun s tile word => tileError_corrected, fun s tile word => tileError_uncorrectable,
    fun s tile kind word off => if_pos (by simp [off]),
    fun s tile => tileDrain_does, fun s tile off => .ignored (congrArg Host.Outcome.next (if_neg (by simp [off]))),
    fun s tile => tileBistStart_does,
    fun s tile normal => .ignored (congrArg Host.Outcome.next (if_neg (offline_false_of_normal normal))),
    fun s tile pass step elapsed => tileBistDone_does, fun s tile step elapsed => tileBistDone_passed,
    fun s tile pass step elapsed other => if_pos (by simp [other]),
    fun s tile => tileOnline_does,
    fun s tile normal => .ignored (congrArg Host.Outcome.next (if_neg (offline_false_of_normal normal))),
    fun s link => dieLinkCheckFail_third, fun s link attempt => execDieLinkCheckFail_of_retired⟩
  rw [State.finishOp_of_no_job (s := s.setTile tile fun x => { x with cur := .none }) none]

end Sys2Proof.Machine
end

section
/-! SUPPORT. What Grist holds of its jobs and decisions while the tiles run: the start of a job, its cut-off and its delivery
(R86, R93, R117, R118). -/

namespace Sys2Proof.Machine

/-! Registers -/

theorem State.rd_wr_ne (s : State) {f g : Field} {i j k l : Nat} (ne : g.key k l ≠ f.key i j) (v : Nat) :
    (s.wr f v i j).rd g k l = s.rd g k l := by rw [State.rd_wr, if_neg ne]

theorem State.raise_regsBut (s : State) (f : Field) (i j : Nat) : RegsBut [f.key i j] s (s.raise f i j) :=
  fun _ _ _ other => s.rd_wr_ne (fun same => other (List.mem_singleton.2 same)) 1

/-- A field of Grist's registers stays while an operation leaves them. -/
theorem Leaves.rd_grist {s t : State} (h : Leaves (2 ^ 42 - 1 - 2 ^ 25) s t) {g : Field} {k l : Nat}
    (grist : blockAt (g.key k l) = .grist) : t.rd g k l = s.rd g k l := h.regs _ (by rw [grist]; decide) _

/-! Jobs -/

theorem State.job_setJob (s : State) (c d : Nat) (f : JobSt → JobSt) :
    (s.setJob c f).job d = if d = c then (s.job c).map f else s.job d := Map.get_upd ..

/-- The open decisions are as they were, no context is taken, and no job that started is gone or waits again. -/
structure GristKept (s t : State) : Prop where
  decisions : t.fabric.grist.open_ = s.fabric.grist.open_
  free : ∀ c, s.job c = none → t.job c = none
  started : ∀ c, (s.job c).any (fun k : JobSt => k.phase != .waiting) = true →
    (t.job c).any (fun k : JobSt => k.phase != .waiting) = true

theorem GristKept.of_grist {s t : State} (h : t.fabric.grist = s.fabric.grist) : GristKept s t :=
  ⟨congrArg GristSt.open_ h, fun c => by simp only [State.job, h, imp_self],
    fun c => by simp only [State.job, h, imp_self]⟩

theorem GristKept.of_fabric {s t : State} (h : t.fabric = s.fabric) : GristKept s t := .of_grist (by rw [h])

theorem GristKept.refl (s : State) : GristKept s s := .of_grist rfl

theorem GristKept.trans {s t u : State} (h : GristKept s t) (k : GristKept t u) : GristKept s u :=
  ⟨k.decisions.trans h.decisions, fun c x => k.free c (h.free c x), fun c x => k.started c (h.started c x)⟩

theorem State.setJob_gristKept (s : State) (c : Nat) {f : JobSt → JobSt}
    (hf : ∀ j, j.phase ≠ .waiting → (f j).phase ≠ .waiting) : GristKept s (s.setJob c f) := by
  refine ⟨rfl, fun d free => ?_, fun d begun => ?_⟩
  · rw [State.job_setJob]
    split_ifs with same
    · rw [← same, free]
      rfl
    · exact free
  · rw [State.job_setJob]
    split_ifs with same
    · subst same
      cases job : s.job d with
      | none => simp [job] at begun
      | some j => simpa using hf j (by simpa [job] using begun)
    · exact begun

theorem State.startFallback_gristKept (s : State) (c cause part op : Nat) : GristKept s (s.startFallback c cause part op) := by
  refine s.setJob_gristKept c fun j begun => ?_
  split_ifs
  · simp
  · exact begun

theorem State.setPart_gristKept (s : State) (c i : Nat) (f : PartSt → PartSt) : GristKept s (s.setPart c i f) :=
  s.setJob_gristKept c fun _ => id

/-! The sequencer -/

theorem State.endPart_gristKept (s : State) (n c i op cause : Nat) : GristKept s (s.endPart n c i op cause) := by
  unfold State.endPart
  refine .trans (.of_grist ?_) (State.startFallback_gristKept ..)
  split_ifs <;> rfl

theorem State.startOp_gristKept (s : State) (n c i : Nat) : (s.startOp n c i).Leads (GristKept s) := by
  unfold State.startOp
  split
  · trivial
  split
  · trivial
  dsimp only
  split
  · trivial
  split
  · exact s.endPart_gristKept ..
  split
  · exact s.endPart_gristKept ..
  split
  · exact (s.setPart_gristKept c i _).trans (.of_grist rfl)
  · exact (s.setPart_gristKept c i _).trans (.of_grist rfl)

theorem State.tryParts_gristKept (s : State) (n : Nat) (xs : List (Nat × Nat)) : (s.tryParts n xs).Leads (GristKept s) := by
  induction xs with
  | nil => trivial
  | cons x xs ih =>
    unfold State.tryParts
    have start := s.startOp_gristKept n x.1 x.2
    split
    · exact ih
    · exact start

theorem State.sequenceTile_gristKept (s : State) (n f : Nat) : GristKept s (s.sequenceTile n f) := by
  induction f generalizing s with
  | zero => exact .refl s
  | succ f ih =>
    unfold State.sequenceTile
    have next := s.tryParts_gristKept n (s.readyParts n)
    split
    · exact .refl s
    · split <;> rename_i e <;> rw [e] at next
      · exact .refl s
      · exact next.trans (ih _)
      · exact next.trans (ih _)
      · exact next

theorem State.drained_grist (s : State) (n : Nat) : (s.drained n).fabric.grist = s.fabric.grist := by
  unfold State.drained
  dsimp only
  split_ifs
  · change (State.unitTesting _ n).fabric.grist = _
    rw [State.unitTesting_fabric]
    rfl
  · rfl
  · rfl

theorem State.runTile_gristKept (s : State) (n : Nat) : GristKept s (s.runTile n) :=
  ((s.sequenceTile_gristKept n 4096).trans (.of_grist (State.drained_grist _ n))).trans
    (.of_fabric (State.showTile_fabric _ n))

theorem State.foldl_runTile_gristKept (s : State) (ns : List Nat) : GristKept s (ns.foldl (fun t n => t.runTile n) s) :=
  List.foldlRecOn (motive := GristKept s) _ _ (.refl s) fun t kept n _ => kept.trans (t.runTile_gristKept n)

/-! The start of a job (R117) -/

theorem State.startJob_gristKept (s : State) (c : Nat) : GristKept s (s.startJob c) := by
  unfold State.startJob
  split
  · split_ifs
    · exact (s.setJob_gristKept c fun _ _ => by simp).trans (State.foldl_runTile_gristKept ..)
    · exact .refl s
  · exact .refl s

theorem State.startJob_of_early {s : State} {c : Nat} {j : JobSt} (job : s.job c = some j) (early : s.tb3 < j.release) :
    s.startJob c = s := by
  unfold State.startJob
  rw [job]
  exact if_neg (by simp [Nat.not_le.2 early])

theorem State.startJob_starts {s : State} {c : Nat} {j : JobSt} (job : s.job c = some j) (waits : j.phase = .waiting)
    (first : j.prev = none) (due : j.release ≤ s.tb3) :
    ((s.startJob c).job c).any (fun k : JobSt => k.phase != .waiting) = true := by
  unfold State.startJob
  rw [job]
  dsimp only
  rw [if_pos (by simp [waits, first, due])]
  refine (State.foldl_runTile_gristKept _ _).started c ?_
  rw [State.job_setJob, if_pos rfl, job]
  rfl

/-! The cut-off (R93) -/

theorem execCutoff_of_early {s : State} {ctx : BitVec 8} {j : JobSt} (job : s.job ctx.toNat = some j)
    (early : (s.tb3 : Rat) < j.cutoff) : exec (.cutoff ctx) s = .next s := by
  change execCutoff ctx s = _
  unfold execCutoff
  dsimp only
  rw [job]
  exact if_pos (by simp [early])

theorem State.startFallback_falls {s : State} {c : Nat} {j : JobSt} (job : s.job c = some j) (runs : j.phase = .running)
    (cause part op : Nat) : ((s.startFallback c cause part op).job c).any (fun k : JobSt => k.phase == .fallback) = true := by
  rw [State.startFallback, State.job_setJob, if_pos rfl, job, Option.map_some, runs]
  rfl

/-- At C the fallback of a job that runs starts, in the state itself or with the retry noted that C abandons (R92). -/
theorem execCutoff_of_running {s : State} {ctx : BitVec 8} {j : JobSt} (job : s.job ctx.toNat = some j)
    (runs : j.phase = .running) (due : j.cutoff ≤ (s.tb3 : Rat)) : ∃ u : State, u.fabric = s.fabric ∧ ∃ cause part op,
      exec (.cutoff ctx) s = .next (u.startFallback ctx.toNat cause part op) := by
  have e : exec (.cutoff ctx) s = execCutoff ctx s := rfl
  unfold execCutoff at e
  simp only [job] at e
  rw [if_neg (by simp [runs, due])] at e
  split at e
  · exact ⟨s.incSat Reg.TILE_RETRIES_ABANDONED _, rfl, _, _, _, e⟩
  · exact ⟨s, rfl, _, _, _, e⟩

theorem cutoff_does {s : State} {ctx : BitVec 8} {j : JobSt} (job : s.job ctx.toNat = some j) (runs : j.phase = .running)
    (due : j.cutoff ≤ (s.tb3 : Rat)) : Does (.cutoff ctx) s [.fabric, .regs .tile] fun t =>
      (t.job ctx.toNat).any (fun k : JobSt => k.phase == .fallback) = true := by
  obtain ⟨u, same, cause, part, op, e⟩ := execCutoff_of_running job runs due
  have here : u.job ctx.toNat = some j := by rw [State.job, same]; exact job
  exact .next e (State.startFallback_falls here runs cause part op)

/-! The delivery (R86, R118) -/

theorem State.afterDelivery_frees (s : State) (c : Nat) (j : JobSt) (status : Nat) :
    (s.afterDelivery c j status).job c = none := by
  have chain (u : State) (free : u.job c = none) (later : List Nat) :
      (later.foldl (fun (t : State) n => t.startFallback n 7 0 0) u).job c = none :=
    List.foldlRecOn (motive := fun t : State => t.job c = none) _ _ free fun t kept n _ =>
      (t.startFallback_gristKept n 7 0 0).free c kept
  have free : (s.setGrist fun g => { g with jobs := Map.put g.jobs c none }).job c = none := Map.get_put_self ..
  unfold State.afterDelivery
  dsimp only
  generalize s.setGrist _ = u at free
  have next : State.job (match j.next with
      | some n => u.setJob n fun x => { x with prev := none }
      | none => u) c = none := by
    split
    · exact (u.setJob_gristKept _ (f := fun x => { x with prev := none }) fun _ => id).free c free
    · exact free
  split_ifs
  · exact chain _ next _
  · exact next

theorem State.showJobs_fabric (s : State) : s.showJobs.fabric = s.fabric :=
  (State.showJobs_leaves (P := 2199056809984) (by decide) (.refl _ s)).fabric (by decide)

theorem State.deliver_frees (s : State) (c : Nat) (j : JobSt) (lost : Bool) : (s.deliver c j lost).job c = none := by
  unfold State.deliver
  dsimp only
  refine (State.foldl_runTile_gristKept _ _).free c ?_
  rw [State.job, State.showJobs_fabric]
  exact State.afterDelivery_frees ..

/-- A job that is neither complete nor in its fallback is not delivered. -/
theorem execJobDelivery_of_unfinished {s : State} {ctx : BitVec 8} {j : JobSt} (job : s.job ctx.toNat = some j)
    (unfinished : j.phase = .waiting ∨ j.phase = .running) (lost : Bool) (case : Option (Fin 48 × CaseFigures)) :
    exec (.jobDelivery ctx lost case) s = .next s := by
  change execJobDelivery ctx lost case s = _
  unfold execJobDelivery
  dsimp only
  rw [job]
  refine if_pos ?_
  rcases unfinished with phase | phase <;> rw [phase] <;> rfl

/-- The bits of every part but the fabric. -/
def besideFabric : Nat := 2 ^ 42 - 1 - 2 ^ 21

/-- A delivery is that of Grist, and what the job's stage and its case then do beside the fabric. -/
theorem execJobDelivery_of_finished {s : State} {ctx : BitVec 8} {j : JobSt} (job : s.job ctx.toNat = some j)
    (done : j.phase = .complete ∨ j.phase = .fallback) (lost : Bool) (case : Option (Fin 48 × CaseFigures)) :
    ∃ t, exec (.jobDelivery ctx lost case) s = .next t ∧ t.fabric = (s.deliver ctx.toNat j lost).fabric := by
  have e : exec (.jobDelivery ctx lost case) s = execJobDelivery ctx lost case s := rfl
  unfold execJobDelivery at e
  simp only [job] at e
  rw [if_neg (by rcases done with phase | phase <;> simp [phase])] at e
  refine ⟨_, e, Leaves.fabric (P := besideFabric) ?_ (by decide)⟩
  generalize s.deliver ctx.toNat j lost = u
  rcases case with _ | ⟨k, f⟩ <;> dsimp only
  on_goal 2 => refine State.judgeCase_leaves (by decide) ?_ k _ f
  all_goals
    split_ifs
    · exact .refl _ u
    · exact State.afterEstimate_leaves (by decide) (.refl _ u) _ _
    · exact State.afterVisual_leaves (by decide) (.refl _ u) _ _
    · exact State.afterPlan_leaves (by decide) (.refl _ u) _ _ _
    · exact State.afterCa_leaves (by decide) (.refl _ u) _ _
    · exact .refl _ u

theorem jobDelivery_does {s : State} {ctx : BitVec 8} {j : JobSt} (job : s.job ctx.toNat = some j)
    (done : j.phase = .complete ∨ j.phase = .fallback) (lost : Bool) (case : Option (Fin 48 × CaseFigures)) :
    Does (.jobDelivery ctx lost case) s [.mem, .dict, .poisoned, .fresh, .health, .zdp, .ports, .journal, .claims, .loop, .can,
      .safety, .fabric, .stages, .regs .grist, .regs .le, .regs .can, .regs .cnt, .regs .hl, .regs .je, .regs .tile] fun t =>
      t.job ctx.toNat = none := by
  obtain ⟨t, e, same⟩ := execJobDelivery_of_finished job done lost case
  refine .of e (execJobDelivery_leaves (by decide) (.refl _ s) ctx lost case) ?_
  rw [State.job, same]
  exact s.deliver_frees ctx.toNat j lost

end Sys2Proof.Machine
end

section
/-! SUPPORT. The requirements, the decisions and their verdicts (R71, R77, R85, R86, R95), and the admission as a whole. -/

namespace Sys2Proof.Machine

/-! The requirements (R71, R77) -/

/-- The recomputation of the kiln margin changes no field of Grist's registers but its interrupt. -/
theorem State.kiln_rd_grist (s : State) {g : Field} {k l : Nat} (grist : blockAt (g.key k l) = .grist)
    (other : g.key k l ≠ Reg.GRIST_IRQ_KILN.key 0 0) : s.kiln.rd g k l = s.rd g k l := by
  have flag (t : State) (f : Field) (hf : covers (2 ^ 42 - 1 - 2 ^ 25) f = true) (limit : Rat) (name : String) :
      (t.kilnFlag f limit name).rd g k l = t.rd g k l := by
    have write (v : Nat) : (t.wr f v).rd g k l = t.rd g k l :=
      (State.wr_leaves (.refl _ t) f hf v 0 0).rd_grist grist
    unfold State.kilnFlag
    dsimp only
    split_ifs
    · exact (State.rd_wr_ne _ other 1).trans (write 0)
    · rfl
    · exact ((State.alarm_leaves (by decide) (.refl _ _) .gauge name 0).rd_grist grist).trans
        ((State.rd_wr_ne _ other 1).trans (write 1))
    · rfl
  unfold State.kiln
  rw [flag _ _ (by decide), flag _ _ (by decide)]
  exact (State.wr_leaves (State.wr_leaves (.refl _ s) _ (by decide) _ _ _) _ (by decide) _ _ _).rd_grist grist

/-- The requirements that a core writes. -/
def reqFields : List Field :=
  [Reg.GRIST_REQ0_REQ, Reg.GRIST_REQ1_REQ, Reg.GRIST_REQ2_REQ, Reg.GRIST_REQ3_REQ, Reg.GRIST_REQ1MIN_REQ]

theorem reqFields_apart : ∀ f ∈ reqFields, f.w = 16 ∧ blockAt (f.key 0 0) = .grist ∧
    f.key 0 0 ≠ Reg.GRIST_IRQ_KILN.key 0 0 ∧ f.key 0 0 ≠ Reg.GRIST_STATUS_REPLANNING.key 0 0 := by decide

theorem requirementWrite_does {s : State} {core : Fin 4} {r : Fin 6} {v : Word} {f : Field} (mem : f ∈ reqFields)
    (e : exec (.requirementWrite core r v) s = .next (s.wr f v.toNat).replan.kiln) :
    Does (.requirementWrite core r v) s [.dict, .fresh, .health, .zdp, .ports, .regs .grist, .regs .gauge, .regs .cnt,
      .regs .hl] fun t => t.rd f = v.toNat % 2 ^ 16 ∧ t.flag Reg.GRIST_STATUS_REPLANNING = true := by
  obtain ⟨width, grist, irq, status⟩ := reqFields_apart f mem
  refine .next e ⟨?_, by rw [State.kiln_replanning, State.replan_replanning]⟩
  rw [State.kiln_rd_grist _ grist irq, State.replan, State.raise, State.rd_wr_ne _ status, State.rd_wr_self, width]

/-! The descriptor (R95) -/

theorem execGristAdmit_of_pending {s : State} {core : Fin 4} (pending : s.flag Reg.GRIST_VERDICT_PENDING core = true)
    (v : Word) : exec (.gristAdmit core v) s = .next (s.raise Reg.GRIST_VERDICT_OVERRUN core) := if_pos pending

/-- A descriptor that comes while a decision is open is noted in OVERRUN and nowhere else. -/
theorem State.overrun_does (s : State) (core : Nat) :
    (s.raise Reg.GRIST_VERDICT_OVERRUN core).flag Reg.GRIST_VERDICT_OVERRUN core = true ∧
    RegsBut [Reg.GRIST_VERDICT_OVERRUN.key core 0] s (s.raise Reg.GRIST_VERDICT_OVERRUN core) ∧
    (s.raise Reg.GRIST_VERDICT_OVERRUN core).fabric = s.fabric :=
  ⟨State.flag_raise_tile s rfl core, s.raise_regsBut _ core 0, rfl⟩

/-- The decision that a descriptor opens. -/
def State.decisionOn (s : State) (v : Word) : Decision :=
  ⟨v.toNat % 2 ^ 20 * 128, s.rd Reg.GRIST_STATUS_TABLE_GEN, s.dip, s.tb3⟩

theorem execGristAdmit_of_free {s : State} {core : Fin 4} (free : s.flag Reg.GRIST_VERDICT_PENDING core = false) (v : Word) :
    exec (.gristAdmit core v) s = .next ((s.raise Reg.GRIST_VERDICT_PENDING core).setGrist fun g =>
      { g with open_ := Map.put g.open_ core (some (s.decisionOn v)) }) := if_neg (by simp [free])

theorem gristAdmit_opens {s : State} {core : Fin 4} (free : s.flag Reg.GRIST_VERDICT_PENDING core = false) (v : Word) :
    Does (.gristAdmit core v) s [.fabric, .regs .grist] fun t => t.flag Reg.GRIST_VERDICT_PENDING core = true ∧
      Map.get none t.fabric.grist.open_ core = some (s.decisionOn v) ∧ t.fabric.grist.jobs = s.fabric.grist.jobs ∧
      RegsBut [Reg.GRIST_VERDICT_PENDING.key core 0] s t :=
  .next (execGristAdmit_of_free free v)
    ⟨State.flag_raise_tile s rfl core, Map.get_put_self .., rfl, s.raise_regsBut _ core 0⟩

/-! The verdict (R85, R86) -/

/-- What a verdict says of itself. -/
def verdictFields : List Field :=
  [Reg.GRIST_VERDICT_PENDING, Reg.GRIST_VERDICT_ADMITTED, Reg.GRIST_VERDICT_REASON, Reg.GRIST_VERDICT_SEQ]

theorem verdictFields_block : ∀ f ∈ verdictFields, ∀ core : Fin 4, blockAt (f.key core 0) = .grist := by decide

/-- The verdicts and the open decisions are as they were. -/
structure VerdictKept (s t : State) : Prop where
  fields : ∀ f ∈ verdictFields, ∀ core : Fin 4, t.rd f core = s.rd f core
  decisions : t.fabric.grist.open_ = s.fabric.grist.open_

theorem VerdictKept.refl (s : State) : VerdictKept s s := ⟨fun _ _ _ => rfl, rfl⟩

theorem VerdictKept.trans {s t u : State} (h : VerdictKept s t) (k : VerdictKept t u) : VerdictKept s u :=
  ⟨fun f m core => (k.fields f m core).trans (h.fields f m core), k.decisions.trans h.decisions⟩

theorem Leaves.verdictKept {s t : State} (h : Leaves (2 ^ 42 - 1 - 2 ^ 25) s t)
    (decisions : t.fabric.grist.open_ = s.fabric.grist.open_) : VerdictKept s t :=
  ⟨fun f m core => h.rd_grist (verdictFields_block f m core), decisions⟩

/-- The bits of every part but the registers of Grist and the fabric. -/
def besideGrist : Nat := 2 ^ 42 - 1 - 2 ^ 25 - 2 ^ 21

theorem Leaves.verdictKept_of_beside {s t : State} (h : Leaves besideGrist s t) : VerdictKept s t where
  fields f m core := h.regs _ (by rw [verdictFields_block f m core]; decide) _
  decisions := by rw [h.fabric (by decide)]

theorem State.wr_verdictKept (s : State) {f : Field}
    (apart : ∀ g ∈ verdictFields, ∀ core : Fin 4, g.key core 0 ≠ f.key 0 0) (v : Nat) :
    VerdictKept s (s.wr f v) := ⟨fun g m core => s.rd_wr_ne (apart g m core) v, rfl⟩

theorem State.setGrist_verdictKept (s : State) {f : GristSt → GristSt}
    (hf : (f s.fabric.grist).open_ = s.fabric.grist.open_) : VerdictKept s (s.setGrist f) := ⟨fun _ _ _ => rfl, hf⟩

theorem State.count_verdictKept (s : State) (event : Nat) (inst : Option Nat) (w : Nat) :
    VerdictKept s (s.count event inst w) :=
  (State.count_leaves (by decide) (.refl _ s) event inst w).verdictKept_of_beside

theorem State.event_verdictKept (s : State) (b : HwBlock) (name : String) (unit : Nat) : VerdictKept s (s.event b name unit) :=
  (State.event_leaves (by decide) (.refl _ s) b name unit).verdictKept_of_beside

theorem State.showJobs_verdictKept (s : State) : VerdictKept s s.showJobs :=
  .trans ((s.wr_verdictKept (by decide) _).trans (State.wr_verdictKept _ (by decide) _))
    (List.foldlRecOn (motive := VerdictKept _) _ _ (.refl _) fun t kept n _ =>
      kept.trans (State.wr_leaves (.refl _ t) _ (by decide) _ n 0).verdictKept_of_beside)

theorem State.admitJob_verdictKept (s : State) (core : Nat) (ps : List Placed) : VerdictKept s (s.admitJob core ps).1 := by
  unfold State.admitJob
  dsimp only
  refine .trans ?_ (State.showJobs_verdictKept _)
  refine List.foldlRecOn (motive := VerdictKept s) _ _ (s.setGrist_verdictKept rfl) fun t kept i _ => ?_
  split
  · refine .trans ?_ (State.count_verdictKept _ _ _ _)
    exact kept.trans (t.setGrist_verdictKept rfl)
  · exact kept

theorem State.startJob_verdictKept (s : State) (c : Nat) : VerdictKept s (s.startJob c) :=
  (State.startJob_leaves (by decide) (.refl _ s) c).verdictKept (s.startJob_gristKept c).decisions

/-- The verdict of a core is posted: its decision is over and counts, and an admission gives no reason. -/
structure Posted (core : Fin 4) (s t : State) : Prop where
  pending : t.flag Reg.GRIST_VERDICT_PENDING core = false
  decision : Map.get none t.fabric.grist.open_ core = none
  seq : t.rd Reg.GRIST_VERDICT_SEQ core = (s.rd Reg.GRIST_VERDICT_SEQ core + 1) % 2 ^ 16
  reason : t.flag Reg.GRIST_VERDICT_ADMITTED core = true → t.rd Reg.GRIST_VERDICT_REASON core = 0

theorem Posted.before {core : Fin 4} {s t u : State} (h : VerdictKept s t) (p : Posted core t u) : Posted core s u where
  pending := p.pending
  decision := p.decision
  seq := by rw [p.seq, h.fields _ (by simp [verdictFields])]
  reason := p.reason

theorem Posted.after {core : Fin 4} {s t u : State} (p : Posted core s t) (h : VerdictKept t u) : Posted core s u where
  pending := by rw [State.flag, h.fields _ (by simp [verdictFields])]; exact p.pending
  decision := by rw [h.decisions]; exact p.decision
  seq := by rw [h.fields _ (by simp [verdictFields])]; exact p.seq
  reason := by
    rw [State.flag, h.fields _ (by simp [verdictFields]), h.fields Reg.GRIST_VERDICT_REASON (by simp [verdictFields])]
    exact p.reason

/-- The fields that a verdict writes lie apart. -/
theorem verdictKeys_nodup : ∀ core : Fin 4, ([Reg.GRIST_VERDICT_PENDING, Reg.GRIST_VERDICT_ADMITTED, Reg.GRIST_VERDICT_REASON,
    Reg.GRIST_VERDICT_CONTEXT, Reg.GRIST_VERDICT_SEQ, Reg.GRIST_VERDICT_EST_EST].map (·.key core 0)).Nodup := by decide

theorem State.postVerdict_posted {s : State} {core : Fin 4} (closed : Map.get none s.fabric.grist.open_ core = none)
    (admitted : Bool) {reason : Nat} (noReason : admitted = true → reason = 0) (ctx est : Nat) :
    Posted core s (s.postVerdict core admitted reason ctx est) := by
  have apart := verdictKeys_nodup core
  simp only [List.map_cons, List.map_nil, List.nodup_cons, List.mem_cons, List.not_mem_nil, or_false, not_or] at apart
  obtain ⟨⟨pa, pr, pc, ps, pe⟩, ⟨ar, ac, as, ae⟩, ⟨rc, rs, re⟩, ⟨cs, -⟩, se, -⟩ := apart
  unfold State.postVerdict State.put State.incWrap
  refine ⟨?_, closed, ?_, fun yes => ?_⟩
  · rw [State.flag, State.rd_wr_ne _ pe, State.rd_wr_ne _ ps, State.rd_wr_ne _ pc, State.rd_wr_ne _ pr, State.rd_wr_ne _ pa,
      State.rd_wr_self]
    rfl
  · rw [State.rd_wr_ne _ se, State.rd_wr_self, State.rd_wr_ne _ (Ne.symm cs), State.rd_wr_ne _ (Ne.symm rs),
      State.rd_wr_ne _ (Ne.symm as), State.rd_wr_ne _ (Ne.symm ps)]
    rfl
  · have granted : admitted = true := by
      cases admitted
      · simp [State.flag, State.rd_wr, ar, ac, as, ae, ofBool] at yes
      · rfl
    simp [State.rd_wr, rc, rs, re, noReason granted]

/-- The state in which the decision of a core is taken. -/
def State.deciding (s : State) (core : Nat) (d : Decision) : State :=
  let u := s.setGrist fun g => { g with open_ := Map.put g.open_ core none }
  u.latency 9 none d.at_ u.tb3

theorem State.deciding_verdicts (s : State) (core : Fin 4) (d : Decision) :
    Map.get none (s.deciding core d).fabric.grist.open_ core = none ∧
    (s.deciding core d).rd Reg.GRIST_VERDICT_SEQ core = s.rd Reg.GRIST_VERDICT_SEQ core := by
  have kept := (State.latency_leaves (by decide) (.refl _ (s.setGrist fun g => { g with open_ := Map.put g.open_ core none }))
    9 none d.at_ s.tb3).verdictKept_of_beside
  exact ⟨(congrArg (Map.get none · core) kept.decisions).trans (Map.get_put_self ..),
    kept.fields _ (by simp [verdictFields]) core⟩

section
variable {s : State} {core : Fin 4} (closed : Map.get none s.fabric.grist.open_ core = none)
include closed

/-- The verdict of an admission outlasts the start of the job. -/
theorem State.admission_posted (ps : List Placed) (ctx est c : Nat) :
    Posted core s (((s.admitJob core ps).1.postVerdict core true 0 ctx est).startJob c) := by
  have taken := s.admitJob_verdictKept core ps
  exact .before taken ((State.postVerdict_posted (by rw [taken.decisions, closed]) true (fun _ => rfl) ctx est).after
    (State.startJob_verdictKept _ c))

/-- The verdict of a refusal outlasts its counting. -/
theorem State.refusal_posted (reason est event : Nat) (inst : Option Nat) :
    Posted core s (((((s.postVerdict core false reason 0 est).incWrap Reg.GRIST_REFUSALS_COUNT).raise
      Reg.GRIST_IRQ_REFUSED).setGrist fun g =>
        { g with refused := Map.upd 0 g.refused reason (· + 1) }).count event inst) := by
  refine (State.postVerdict_posted closed false (reason := reason) (by simp) 0 est).after ?_
  refine .trans ?_ (State.count_verdictKept _ _ _ _)
  refine .trans ?_ (State.setGrist_verdictKept _ rfl)
  exact (State.wr_verdictKept _ (by decide) _).trans (State.wr_verdictKept _ (by decide) _)

end

theorem Posted.event {core : Fin 4} {s t : State} (p : Posted core s t) (c : Bool) (b : HwBlock) (name : String) :
    Posted core s (if c then t.event b name else t) := by
  split
  · exact p.after (t.event_verdictKept b name 0)
  · exact p

theorem execVerdictPost_of_some {s : State} {core : Fin 4} {d : Decision}
    (decision : Map.get none s.fabric.grist.open_ core = some d) :
    ∃ t, exec (.verdictPost core) s = .next t ∧ Posted core (s.deciding core d) t := by
  have e : exec (.verdictPost core) s = execVerdictPost core s := rfl
  unfold execVerdictPost at e
  rw [decision] at e
  dsimp only at e
  have closed := (s.deciding_verdicts core d).1
  generalize u : s.deciding core d = v at closed ⊢
  unfold State.deciding at u
  dsimp only at u
  rw [u] at e
  split at e
  · exact ⟨_, e, State.admission_posted closed _ _ _ _⟩
  · exact ⟨_, e, ((State.refusal_posted closed _ _ _ _).event _ _ _).event _ _ _⟩

theorem verdictPost_does {s : State} {core : Fin 4} {d : Decision}
    (decision : Map.get none s.fabric.grist.open_ core = some d) :
    Does (.verdictPost core) s [.mem, .poisoned, .fresh, .health, .zdp, .claims, .loop, .can, .fabric, .regs .grist, .regs .le,
      .regs .can, .regs .cnt, .regs .hl, .regs .tile] (Posted core s) := by
  obtain ⟨t, e, posted⟩ := execVerdictPost_of_some decision
  exact .next e { posted with seq := by rw [posted.seq, (s.deciding_verdicts core d).2] }

theorem execVerdictPost_of_none {s : State} {core : Fin 4} (closed : Map.get none s.fabric.grist.open_ core = none) :
    exec (.verdictPost core) s = .next s := by
  change execVerdictPost core s = _
  unfold execVerdictPost
  rw [closed]

/-! The admission as a whole -/

/-- Settles O7: the tiles that run take no context and bring no job back to waiting; a verdict outlasts what it sets off. -/
theorem admissionCommands : Obligations.AdmissionCommands := by
  unfold Obligations.AdmissionCommands
  refine ⟨fun s => .next rfl ⟨s.replan_replanning, s.raise_regsBut _ 0 0⟩,
    fun s core v => requirementWrite_does (f := Reg.GRIST_REQ0_REQ) (by simp [reqFields]) rfl,
    fun s core v => requirementWrite_does (f := Reg.GRIST_REQ1_REQ) (by simp [reqFields]) rfl,
    fun s core v => requirementWrite_does (f := Reg.GRIST_REQ2_REQ) (by simp [reqFields]) rfl,
    fun s core v => requirementWrite_does (f := Reg.GRIST_REQ3_REQ) (by simp [reqFields]) rfl,
    fun s core v => rfl,
    fun s core v => requirementWrite_does (f := Reg.GRIST_REQ1MIN_REQ) (by simp [reqFields]) rfl,
    fun s core v pending => .next (execGristAdmit_of_pending pending v) ?_,
    fun s core v free => gristAdmit_opens free v,
    fun s core d decision => ?_,
    fun s core => execVerdictPost_of_none,
    fun s ctx j job waits first due => .next rfl (State.startJob_starts job waits first due),
    fun s ctx j job early => congrArg Host.Outcome.next (State.startJob_of_early job early),
    fun s ctx j => cutoff_does, fun s ctx j => execCutoff_of_early,
    fun s ctx lost case j job done => jobDelivery_does job done lost case,
    fun s ctx lost case j job running => execJobDelivery_of_unfinished job running lost case⟩
  · obtain ⟨overrun, but, same⟩ := s.overrun_does core
    exact ⟨overrun, same, but⟩
  · obtain ⟨t, e, keeps, pending, closed, seq, reason⟩ := verdictPost_does decision
    exact ⟨t, e, keeps, pending, closed, seq, reason⟩

/-- Settles O56: the write is noted in OVERRUN, and the decisions stay as they were. -/
theorem admitWhilePendingOverruns : Obligations.AdmitWhilePendingOverruns := by
  unfold Obligations.AdmitWhilePendingOverruns
  intro s core v pending
  have e := execGristAdmit_of_pending pending v
  refine .of e ?_ (s.overrun_does core)
  rw [e]
  exact .next (State.raise_leaves (.refl _ s) _ (by decide) core 0)

end Sys2Proof.Machine
end

section
/-! SUPPORT. The release of a cycle of a stage (R32, R38, R39), and what the visual reference, the consequence analysis and the
vote do with it. -/

namespace Sys2Proof.Machine

/-! The release of a cycle -/

theorem State.stage_setStage_self (s : State) (k : Nat) (f : StageSt → StageSt) :
    (s.setStage k f).stage k = f (s.stage k) := Map.get_put_self ..

/-- From `s` to `t` stage `k` has taken up the cycle that was next, with the time it refers to. -/
structure Released (k : Nat) (tref : Stamp) (s t : State) : Prop where
  cycle : (t.stage k).cycle = (s.stage k).cycle + 1
  current : (t.stage k).current = (s.stage k).cycle
  tref : (t.stage k).tref = tref

section
variable {k : Nat} {tref : Stamp} {s t u : State}

theorem Released.of_setStage {f : StageSt → StageSt}
    (hf : ∀ x, (f x).cycle = x.cycle + 1 ∧ (f x).current = x.cycle ∧ (f x).tref = tref) :
    Released k tref s (s.setStage k f) := by
  obtain ⟨cycle, current, stamp⟩ := hf (s.stage k)
  have stage : (s.setStage k f).stage k = f (s.stage k) := s.stage_setStage_self k f
  exact ⟨stage ▸ cycle, stage ▸ current, stage ▸ stamp⟩

theorem Released.of_fabric (h : Released k tref s t) (same : u.fabric = t.fabric) : Released k tref s u := by
  have stage : u.stage k = t.stage k := by rw [State.stage, State.stage, same]
  exact ⟨stage ▸ h.cycle, stage ▸ h.current, stage ▸ h.tref⟩

theorem Released.of_nextFresh (h : Released k tref s.nextFresh t) : Released k tref s t := ⟨h.cycle, h.current, h.tref⟩

theorem Released.setStage (h : Released k tref s t) {f : StageSt → StageSt}
    (hf : ∀ x, (f x).cycle = x.cycle ∧ (f x).current = x.current ∧ (f x).tref = x.tref) :
    Released k tref s (t.setStage k f) := by
  obtain ⟨cycle, current, tref⟩ := hf (t.stage k)
  have stage : (t.setStage k f).stage k = f (t.stage k) := t.stage_setStage_self k f
  exact ⟨by rw [stage, cycle, h.cycle], by rw [stage, current, h.current], by rw [stage, tref, h.tref]⟩

theorem Released.addFlags (h : Released k tref s t) (flags : Nat) : Released k tref s (t.addFlags k flags) :=
  h.setStage fun _ => ⟨rfl, rfl, rfl⟩

theorem Released.setInput (h : Released k tref s t) (age cycle : Nat) :
    Released k tref s (t.setStage k fun x => { x with inputAge := age, inputCycle := cycle }) :=
  h.setStage fun _ => ⟨rfl, rfl, rfl⟩

theorem Released.event (h : Released k tref s t) (b : HwBlock) (name : String) (unit : Nat) :
    Released k tref s (t.event b name unit) :=
  h.of_fabric ((State.event_leaves (P := besideFabric) (by decide) (.refl _ t) ..).fabric (by decide))

theorem Released.setVis (h : Released k tref s t) (f : VisSt → VisSt) : Released k tref s (t.setVis f) := h.of_fabric rfl

theorem Released.setCa (h : Released k tref s t) (f : CaSt → CaSt) : Released k tref s (t.setCa f) := h.of_fabric rfl

theorem Released.setClaims (h : Released k tref s t) (c : ClaimSt) : Released k tref s { t with claims := c } :=
  h.of_fabric rfl

theorem Released.setObjN (h : Released k tref s t) (o : ObjDef) (n i j : Nat) : Released k tref s (t.setObjN o n i j) :=
  h.of_fabric rfl

theorem Released.gristPut (h : Released k tref s t) (off : Nat) (bs : List Byte) : Released k tref s (t.gristPut off bs) :=
  h.of_fabric rfl

theorem Released.publish (h : Released k tref s t) (dst flags len : Nat) : Released k tref s (t.publish k dst flags len) :=
  (h.of_fabric (u := t.poke ..) rfl).setStage fun _ => ⟨rfl, rfl, rfl⟩

theorem Released.ite {c : Prop} [Decidable c] (h : Released k tref s t) (g : Released k tref s u) :
    Released k tref s (if c then t else u) := by
  split
  · exact h
  · exact g

theorem Released.foldl {α : Type} {g : State → α → State} {l : List α} (h : Released k tref s t)
    (same : ∀ t x, (g t x).fabric = t.fabric) : Released k tref s (l.foldl g t) :=
  List.foldlRecOn l g h fun _ released x _ => released.of_fabric (same _ x)

theorem Released.setCases {f : State → Nat → CaseSt → CaseSt} {l : List Nat} (h : Released k tref s t) :
    Released k tref s (l.foldl (fun t c => t.setCase c (f t c)) t) := h.foldl fun _ _ => rfl

end

theorem State.releaseStage_released (s : State) (b : HwBlock) (k tref limit : Nat) (inputs : List Nat) :
    Released k (stampOf tref) s (s.releaseStage b k tref limit inputs) := by
  unfold State.releaseStage
  dsimp only
  refine .ite ?stale ?taken
  case taken => exact .of_setStage fun _ => ⟨rfl, rfl, rfl⟩
  case stale =>
    refine .event (.of_setStage fun _ => ?_) ..
    exact ⟨rfl, rfl, rfl⟩

/-! Keypoint datagrams and frames (R157, R164) -/

theorem State.visDrop_dropped (s : State) (n : Nat) :
    (s.visDrop n).objN Obj.VIS_DROPPED = (s.objN Obj.VIS_DROPPED + n) % 2 ^ 32 := by
  rw [State.visDrop, State.objN, State.setObjN, State.obj_setObj_self, Val.toNat]

theorem State.visDrop_objsBut (s : State) (n : Nat) : ObjsBut [Obj.VIS_DROPPED.key 0 0] s (s.visDrop n) :=
  fun _ _ _ other => State.obj_setObj_of_not_mem (List.mem_singleton_self _) other

theorem execKeypointDatagram_of_gate {s : State} (gate : s.gateRole = true) (em : Fin 8) (d : List Byte) :
    exec (.keypointDatagram em d) s = .next s := congrArg Host.Outcome.next (if_pos gate)

theorem execKeypointDatagram_of_malformed {s : State} (gate : s.gateRole = false) {d : List Byte} (bad : keypointOk d = false)
    (em : Fin 8) : exec (.keypointDatagram em d) s = .next s.visDrop :=
  congrArg Host.Outcome.next ((if_neg (by simp [gate])).trans (if_pos (by simp [bad])))

theorem execKeypointDatagram_of_ok {s : State} (gate : s.gateRole = false) {d : List Byte} (ok : keypointOk d = true)
    {em : Fin 8} (operator : s.classOf (em.val + 1) = 4) :
    exec (.keypointDatagram em d) s = .next (s.addPart (leAt d 5 1) d) :=
  congrArg Host.Outcome.next ((if_neg (by simp [gate])).trans (if_neg (by simp [ok, operator])))

theorem execCameraLost_of_late {s : State} {camera : Fin 4} {since : Nat} (on : s.cfgB Obj.CAM_ENABLE camera = true)
    (last : Map.get none s.stages.vis.lastAt camera = some since) (late : s.elapsed since 3000000000 = true) :
    exec (.cameraLost camera) s = .next (s.setVis fun v => { v with lost := setBit v.lost camera }) := by
  change execCameraLost camera s = _
  simp only [execCameraLost, on, last, late, Bool.and_self, if_true]

theorem execCameraLost_of_off {s : State} {camera : Fin 4} (off : s.cfgB Obj.CAM_ENABLE camera = false) :
    exec (.cameraLost camera) s = .next s := congrArg Host.Outcome.next (if_neg (by simp [off]))

/-! The visual cycle (R158) -/

theorem execVisualRelease_of_stopped {s : State} (stopped : s.pipeRun = false) (targets : List TargetEst) :
    exec (.visualRelease targets) s = .next s := if_pos (by simp [stopped])

theorem execVisualRelease_of_running {s : State} (run : s.pipeRun = true) (on : s.objB Obj.VIS_VIS_ENABLE = true)
    (targets : List TargetEst) :
    ∃ t, exec (.visualRelease targets) s = .next t ∧ ∃ tref, Released 2 tref s t := by
  have e : exec (.visualRelease targets) s = execVisualRelease targets s := rfl
  unfold execVisualRelease at e
  rw [if_neg (by simp [run, on])] at e
  exact ⟨_, e, _, .addFlags (.setVis (.setInput (.of_nextFresh (State.releaseStage_released ..)) 0 0) _) _⟩

/-! The consequence analysis (R213, R222, R223) -/

/-- Past the release, a window is prepared in the firmware of the analysis. -/
theorem State.caRelease_released (s : State) : Released 4 (stampOf (s.period 10000)) s s.caRelease := by
  unfold State.caRelease
  refine .addFlags (.setCa ?_ _) _
  refine .ite (.setCases ?known) (.foldl ?known fun t c => ?judged)
  case known =>
    refine .ite (.setCases ?opened) ?opened
    exact .setCases (.setCases (s.releaseStage_released ..))
  case judged =>
    dsimp only
    split <;> rfl

theorem execCaRelease_of_running {s : State} (run : s.pipeRun = true) (on : s.objB Obj.CA_CA_ENABLE = true) :
    exec .caRelease s = .next s.caRelease := congrArg Host.Outcome.next (if_pos (by simp [run, on]))

theorem execCaRelease_of_stopped {s : State} (stopped : s.pipeRun = false) : exec .caRelease s = .next s :=
  congrArg Host.Outcome.next (if_neg (by simp [stopped]))

theorem execCaPublication_of_submitted {s : State} (submitted : s.stages.ca.submitted = true) (scratch : Word) :
    exec (.caPublication scratch) s = .next s := if_pos (by simp [submitted])

theorem execCaPublication_of_judged {s : State} (pending : s.stages.ca.submitted = false)
    (judged : s.stages.ca.schedule.all (fun c => (s.caseSt c).judged) = true) (scratch : Word) :
    ∃ t, exec (.caPublication scratch) s = .next t ∧ t.stages.ca.submitted = true := by
  have e : exec (.caPublication scratch) s = execCaPublication scratch s := rfl
  unfold execCaPublication at e
  dsimp only at e
  rw [if_neg (by simp [pending, judged])] at e
  exact ⟨_, e, rfl⟩

/-! The vote (R444) -/

/-- The bits of every part but the claims and the fabric. -/
def besideVote : Nat := 2 ^ 42 - 1 - 2 ^ 15 - 2 ^ 21

/-- Stage 5 is released and publishes; the plan is noted as voted on; the rest of the vote is beside both. -/
theorem State.makeVote_votes (s : State) (dst : Nat) (own : PlanSummary) (body : Nat) :
    (s.makeVote dst own body).claims.votedFor = some own.planTref ∧
    Released 5 (stampOf own.planTref) s (s.makeVote dst own body) := by
  have noted : ∃ u, Leaves besideVote u (s.makeVote dst own body) ∧ u.claims.votedFor = some own.planTref ∧
      Released 5 (stampOf own.planTref) s u := by
    unfold State.makeVote
    split
    refine ⟨_, State.trajCommit_leaves (by decide) (State.gristPut_leaves (by decide) (.foldl (fun _ _ h =>
      State.setObjN_leaves (by decide) (State.setObjN_leaves (by decide) h ..) ..) _
      (State.setObjN_leaves (by decide) (.refl _ _) ..)) ..), rfl, .setClaims ?_ _⟩
    refine .setObjN (.setObjN (.setObjN (.setObjN ?_ ..) ..) ..) ..
    exact .publish (.gristPut (s.releaseStage_released ..) ..) ..
  obtain ⟨u, beside, voted, released⟩ := noted
  exact ⟨beside.claims (by decide) ▸ voted, released.of_fabric (beside.fabric (by decide))⟩

theorem execVoteStart_of_due {s : State} {own : PlanSummary} {body : Nat} (summary : s.claims.ownSummary = some own)
    (latest : (s.stage 3).latest = some body) (run : s.pipeRun = true) (fresh : s.claims.votedFor ≠ some own.planTref)
    (due : own.planTref + s.phaseMs 4 * 1000000 ≤ s.now 0 + 505000000) (slot : Word) :
    exec (.voteStart slot) s = .next (s.makeVote slot.toNat own body) := by
  change execVoteStart slot s = _
  unfold execVoteStart
  simp only [summary, latest]
  exact congrArg Host.Outcome.next (if_pos (by simp [run, fresh, due]))

theorem execVoteStart_of_no_summary {s : State} (none : s.claims.ownSummary = none) (slot : Word) :
    exec (.voteStart slot) s = .next s := by
  change execVoteStart slot s = _
  unfold execVoteStart
  rw [none]

theorem execVoteStart_of_voted {s : State} {own : PlanSummary} (summary : s.claims.ownSummary = some own)
    (voted : s.claims.votedFor = some own.planTref) (slot : Word) : exec (.voteStart slot) s = .next s := by
  change execVoteStart slot s = _
  unfold execVoteStart
  rw [summary]
  cases (s.stage 3).latest with
  | none => rfl
  | some body => exact congrArg Host.Outcome.next (if_neg (by simp [voted]))

/-! The family as a whole -/

/-- Settles O10: every cycle is released by one operation, whose work nothing later in the command undoes. -/
theorem visualAndConsequence : Obligations.VisualAndConsequence := by
  unfold Obligations.VisualAndConsequence
  refine ⟨fun s em d gate bad => .next (execKeypointDatagram_of_malformed gate bad em)
      ⟨s.visDrop_dropped 1, rfl, s.visDrop_objsBut 1⟩,
    fun s em d gate ok operator => .next (execKeypointDatagram_of_ok gate ok operator) rfl,
    fun s em d gate => execKeypointDatagram_of_gate gate em d,
    fun s camera => .next rfl (Map.get_put_self ..),
    fun s camera since on last late => .next (execCameraLost_of_late on last late) ⟨rfl, rfl⟩,
    fun s camera => execCameraLost_of_off,
    fun s targets run on => ?_,
    fun s targets stopped => execVisualRelease_of_stopped stopped targets,
    fun s run on => .next (execCaRelease_of_running run on) ⟨s.caRelease_released.cycle, s.caRelease_released.tref⟩,
    fun s => execCaRelease_of_stopped,
    fun s scratch pending judged => ?_,
    fun s scratch submitted => execCaPublication_of_submitted submitted scratch,
    fun s slot own body summary latest run fresh due => .next (execVoteStart_of_due summary latest run fresh due slot)
      ⟨(s.makeVote_votes ..).1, (s.makeVote_votes ..).2.cycle⟩,
    fun s slot none => execVoteStart_of_no_summary none slot,
    fun s slot own summary voted => execVoteStart_of_voted summary voted slot⟩
  · obtain ⟨t, e, _, released⟩ := execVisualRelease_of_running run on targets
    exact .next e ⟨released.cycle, released.current⟩
  · obtain ⟨t, e, submitted⟩ := execCaPublication_of_judged pending judged scratch
    exact .next e submitted

end Sys2Proof.Machine
end

section
/-! SUPPORT. How many numbers an ALARM takes (R525, R527): its own, and one for each subscription that it leaves too far
behind. The trajectories of the loop engine raise one of theirs after ten seconds (R250). -/

namespace Sys2Proof.Machine

/-! One record -/

theorem State.toRing_aseq (s : State) (a : AlarmRec) : (s.toRing a).health.aseq = s.health.aseq := by
  unfold State.toRing
  split_ifs <;> rfl

theorem State.takeAlarm_aseq (s : State) (a : AlarmRec) : (s.takeAlarm a).health.aseq = s.health.aseq := by
  unfold State.takeAlarm
  split
  · rfl
  · exact s.toRing_aseq a

/-- A record outside a dip, while the overflow area has room, lengthens the ALARM stream by one. -/
theorem State.takeAlarm_alarmEnd {s : State} (noDip : s.dip = false) (room : s.health.overflow.length < 16384) (a : AlarmRec) :
    (s.takeAlarm a).alarmEnd = s.alarmEnd + 1 := by
  rw [State.takeAlarm, if_neg (by simp [noDip])]
  unfold State.toRing
  split_ifs
  · exact congrArg (s.health.rhead + ·) List.length_append
  · exact Nat.add_right_comm ..

/-- The next number of an own ALARM is used up. -/
def State.numberAlarm (s : State) : State := s.setHealth fun h => { h with aseq := (h.aseq + 1) % 2 ^ 32 }

/-- The bits of the free values, the ports and the registers of CNT and HL: what an ALARM changes past its record. -/
def besideRecord : Nat := 2 ^ 9 + 2 ^ 13 + 2 ^ 35 + 2 ^ 36

/-- Past its number and its record, an ALARM is raised, counted and copied to the peers (R525, R526). -/
theorem State.alarmCore_leaves_record (s : State) (b : HwBlock) (name : String) (unit : Nat) :
    ∃ a, Leaves besideRecord (s.numberAlarm.takeAlarm a) (s.alarmCore b name unit) := by
  unfold State.alarmCore State.alarmWith
  have counted (u : State) := State.count_leaves (by decide)
    (State.raise_leaves (.refl besideRecord u) Reg.HL_IRQ_ALARM (by decide) 0 0) 0xA01 (unitKind unit) 1
  exact ⟨_, State.nextFresh_leaves (by decide) <|
    .ite (fun _ => .foldl (fun _ m sent => State.sendPeer_leaves (by decide) sent m true _) _
      (counted (s.numberAlarm.takeAlarm _))) fun _ => counted _⟩

theorem State.alarmCore_health (s : State) (b : HwBlock) (name : String) (unit : Nat) :
    ∃ a, (s.alarmCore b name unit).health = (s.numberAlarm.takeAlarm a).health :=
  (s.alarmCore_leaves_record b name unit).imp fun _ leaves => leaves.health (by decide)

theorem State.alarmCore_aseq (s : State) (b : HwBlock) (name : String) (unit : Nat) :
    (s.alarmCore b name unit).health.aseq = (s.health.aseq + 1) % 2 ^ 32 := by
  obtain ⟨a, same⟩ := s.alarmCore_health b name unit
  rw [same, State.takeAlarm_aseq]
  rfl

theorem State.alarmCore_alarmEnd {s : State} (noDip : s.dip = false) (room : s.health.overflow.length < 16384)
    (b : HwBlock) (name : String) (unit : Nat) : (s.alarmCore b name unit).alarmEnd = s.alarmEnd + 1 := by
  obtain ⟨a, same⟩ := s.alarmCore_health b name unit
  rw [State.alarmEnd, same]
  exact State.takeAlarm_alarmEnd (s := s.numberAlarm) noDip room a

theorem State.takeAlarm_zdp (s : State) (a : AlarmRec) : (s.takeAlarm a).zdp = s.zdp :=
  (State.takeAlarm_leaves (P := 2 ^ 11 + 2 ^ 36) (by decide) (.refl _ s) a).zdp (by decide)

theorem State.alarmCore_subsOf (s : State) (b : HwBlock) (name : String) (unit index sub : Nat) :
    (s.alarmCore b name unit).subsOf index sub = s.subsOf index sub := by
  obtain ⟨a, leaves⟩ := s.alarmCore_leaves_record b name unit
  rw [State.subsOf, leaves.zdp (by decide), State.takeAlarm_zdp]
  rfl

/-! The subscriptions that end -/

/-- The subscriptions of the ALARM stream that are 20,480 records behind (R527). -/
def State.lostSubs (s : State) : List Sub :=
  (s.subsOf 0xB810 0x01).filter fun u => decide (u.next + 20480 ≤ s.alarmEnd)

theorem State.foldl_subEnded_aseq (us : List Sub) (s : State) :
    (us.foldl (fun t u => (t.subEnded u).alarmCore .health "SUBSCRIPTION_ENDED" 0) s).health.aseq % 2 ^ 32 =
      (s.health.aseq + us.length) % 2 ^ 32 := by
  induction us generalizing s with
  | nil => rfl
  | cons u us ih =>
    have ended : (s.subEnded u).health.aseq = s.health.aseq := rfl
    rw [List.foldl_cons, ih, State.alarmCore_aseq, ended, Nat.mod_add_mod, List.length_cons, Nat.add_assoc, Nat.add_comm 1]

/-- An ALARM takes its own number, and one for each subscription that it leaves 20,480 records behind. -/
theorem State.alarm_aseq (s : State) (b : HwBlock) (name : String) (unit : Nat) :
    (s.alarm b name unit).health.aseq % 2 ^ 32 =
      (s.health.aseq + 1 + (s.alarmCore b name unit).lostSubs.length) % 2 ^ 32 := by
  have ended : (s.alarm b name unit).health.aseq % 2 ^ 32 =
      ((s.alarmCore b name unit).health.aseq + (s.alarmCore b name unit).lostSubs.length) % 2 ^ 32 :=
    State.foldl_subEnded_aseq ..
  rw [ended, State.alarmCore_aseq, Nat.mod_add_mod]

/-- Outside a dip, while the overflow area has room, those are the subscriptions that were one record short of it. -/
theorem State.alarm_aseq_of_room {s : State} (noDip : s.dip = false) (room : s.health.overflow.length < 16384)
    (b : HwBlock) (name : String) (unit : Nat) : (s.alarm b name unit).health.aseq % 2 ^ 32 = (s.health.aseq + 1 +
      ((s.subsOf 0xB810 0x01).filter fun u => decide (u.next + 20480 ≤ s.alarmEnd + 1)).length) % 2 ^ 32 := by
  rw [State.alarm_aseq, State.lostSubs, State.alarmCore_alarmEnd noDip room, State.alarmCore_subsOf]

/-! The ALARM of a trajectory (R250) -/

theorem execTrajStaleAlarm_of_due {s : State} {since : Nat} (stale : s.loop.staleSince = some since)
    (due : s.elapsed since 10000000000 = true) (first : s.loop.staleAlarmed = false) :
    exec .trajStaleAlarm s = .next ((s.setLoop fun l => { l with staleAlarmed := true }).alarm .loop "TRAJ_STALE") := by
  change execTrajStaleAlarm s = _
  simp only [execTrajStaleAlarm, stale, due, first, Bool.not_false, Bool.and_self, if_true]

/-- Where the ALARM is due outside a dip, ASEQ advances by one, and by one more for each subscription that was one record short
of its end. -/
theorem trajStaleAlarm_aseq {s t : State} {since : Nat} (e : exec .trajStaleAlarm s = .next t)
    (stale : s.loop.staleSince = some since) (due : s.elapsed since 10000000000 = true)
    (first : s.loop.staleAlarmed = false) (noDip : s.dip = false) (room : s.health.overflow.length < 16384) :
    t.health.aseq % 2 ^ 32 = (s.health.aseq + 1 +
      ((s.subsOf 0xB810 0x01).filter fun u => decide (u.next + 20480 ≤ s.alarmEnd + 1)).length) % 2 ^ 32 := by
  cases (execTrajStaleAlarm_of_due stale due first).symm.trans e
  exact State.alarm_aseq_of_room (s := s.setLoop _) noDip room ..

/-- A subscription of the ALARM stream that has been sent no record yet. -/
def unsentReader : Sub :=
  { id := 0, port := 1, src := 1, tag := 0, index := 0xB810, sub := 0x01, periodMs := 1000, minMs := 0, lifeS := 3600,
    renewed := 0, nseq := 1, waiting := none, lastLeft := none, next := 0, evQueue := [], trQueue := [], trDropped := 0,
    trFirst := ⟨0, 0⟩, trLast := ⟨0, 0⟩, factor := 1, onTime := 0, late := false }

/-- A record of the overflow area. -/
def overflowRecord : AlarmRec :=
  { aseq := 0, node := 0, code := 0, time := ⟨0, 0⟩, unit := 0, peerCopy := false, held := false, overflowed := true, osn := 0,
    claim := 0, detail := [], text := [] }

/-- Tracking has been stale for ten seconds without an ALARM, and a reader of the ALARM stream waits for all of its records:
the 4,096 of the ring and those of the overflow area. -/
def State.staleAndBehind (overflow : List AlarmRec) : State :=
  { State.reset with
    time := { bases := [(3, { sec := 10 })] }
    loop := { staleSince := some 0 }
    zdp := { subs := [unsentReader] }
    health := { aseq := 4096 + overflow.length, rhead := 4096, overflow } }

/-- With one place left in the overflow area, an ALARM leaves the reader 20,480 records behind. -/
theorem State.staleAndBehind_loses {overflow : List AlarmRec} (nearFull : overflow.length = 16383) :
    ((State.staleAndBehind overflow).subsOf 0xB810 0x01).filter (fun u =>
      decide (u.next + 20480 ≤ (State.staleAndBehind overflow).alarmEnd + 1)) = [unsentReader] := by
  have reached : (State.staleAndBehind overflow).alarmEnd = 20479 := congrArg (4096 + ·) nearFull
  rw [reached]
  simp [State.subsOf, State.staleAndBehind, unsentReader]

theorem State.staleAndBehind_due (overflow : List AlarmRec) :
    (State.staleAndBehind overflow).elapsed 0 10000000000 = true := by
  simp [State.elapsed, State.tb3, State.now, State.base, Map.get, State.staleAndBehind]

/-- Refutes O23: where the ALARM of the trajectory leaves a subscription 20,480 records behind, that subscription ends with an
ALARM of its own in the same command (R527), and ASEQ advances by two. -/
theorem not_trajectoryCommands : ¬ Obligations.TrajectoryCommands := by
  unfold Obligations.TrajectoryCommands
  rintro ⟨-, -, -, -, raises, -⟩
  obtain ⟨overflow, nearFull⟩ : ∃ overflow : List AlarmRec, overflow.length = 16383 :=
    ⟨List.replicate 16383 overflowRecord, List.length_replicate⟩
  have due := State.staleAndBehind_due overflow
  obtain ⟨t, e, -, -, -, one⟩ := raises (State.staleAndBehind overflow) 0 rfl due rfl
  have start : (State.staleAndBehind overflow).health.aseq = 20479 := congrArg (4096 + ·) nearFull
  have room : (State.staleAndBehind overflow).health.overflow.length < 16384 := nearFull.trans_lt (by decide)
  have two := trajStaleAlarm_aseq e rfl due rfl rfl room
  rw [State.staleAndBehind_loses nearFull, one, start] at two
  exact absurd two (by decide)

end Sys2Proof.Machine
end

section
/-! SUPPORT. The registers and channels of the signal chain: which fields lie apart, and what the operations that its commands
share leave of them. -/

namespace Sys2Proof.Machine

/-! Fields that lie apart -/

/-- The place of the last element of the field's array. -/
def Field.top (f : Field) : Nat := f.key 0 0 + ((f.n1 - 1) * f.s1 + (f.n2 - 1) * f.s2) * 32

/-- Places of the register file from one Lauter channel to the next. -/
def channelSize : Nat := 2048

/-- The field lies in the registers of the Lauter channels, once in each. -/
def Field.ofChannel (f : Field) : Bool := f.s1 == 64 && f.n2 == 1

/-- No elements of the two fields share a place: their arrays do not overlap, or they differ in their place in a channel. -/
def Field.apart (f g : Field) : Bool :=
  f.fits && g.fits && !f.banked && !g.banked &&
  (decide (f.top < g.key 0 0 ∨ g.top < f.key 0 0) ||
    f.ofChannel && g.ofChannel && f.key 0 0 % channelSize != g.key 0 0 % channelSize)

theorem Field.key_bounds {f : Field} (h : f.fits = true) (flat : f.banked = false) (i j : Nat) :
    f.key 0 0 ≤ f.key i j ∧ f.key i j ≤ f.top := by
  simp only [Field.fits, decide_eq_true_eq] at h
  obtain ⟨-, h1, h2, -⟩ := h
  have first : i % f.n1 * f.s1 ≤ (f.n1 - 1) * f.s1 := Nat.mul_le_mul_right _ (by have := Nat.mod_lt i h1; omega)
  have second : j % f.n2 * f.s2 ≤ (f.n2 - 1) * f.s2 := Nat.mul_le_mul_right _ (by have := Nat.mod_lt j h2; omega)
  simp only [Field.top, Field.key, flat, Bool.false_eq_true, if_false, Nat.zero_mod, Nat.zero_mul, Nat.add_zero]
  omega

theorem Field.key_mod_channelSize {f : Field} (h : f.ofChannel = true) (flat : f.banked = false) (i j : Nat) :
    f.key i j % channelSize = f.key 0 0 % channelSize := by
  simp only [Field.ofChannel, Bool.and_eq_true, beq_iff_eq] at h
  obtain ⟨stride, single⟩ := h
  simp only [Field.key, flat, stride, single, channelSize, Bool.false_eq_true, if_false, Nat.mod_one, Nat.zero_mod,
    Nat.zero_mul, Nat.add_zero]
  omega

theorem Field.key_ne_of_apart {f g : Field} (h : f.apart g = true) (i j k l : Nat) : f.key i j ≠ g.key k l := by
  simp only [Field.apart, Bool.and_eq_true, Bool.not_eq_true', Bool.or_eq_true, decide_eq_true_eq, bne_iff_ne] at h
  obtain ⟨⟨⟨⟨fitsF, fitsG⟩, flatF⟩, flatG⟩, disjoint | ⟨⟨channelF, channelG⟩, site⟩⟩ := h
  · have := Field.key_bounds fitsF flatF i j
    have := Field.key_bounds fitsG flatG k l
    omega
  · intro same
    rw [← Field.key_mod_channelSize channelF flatF i j, ← Field.key_mod_channelSize channelG flatG k l, same] at site
    exact site rfl

theorem State.rd_wr_apart (s : State) {f g : Field} (h : g.apart f = true) (v i j k l : Nat) :
    (s.wr f v i j).rd g k l = s.rd g k l := s.rd_wr_ne (Field.key_ne_of_apart h k l i j) v

/-- The bits of every part but the registers of the signal chain. -/
def besideLt : Nat := 2 ^ 42 - 1 - 2 ^ 27

/-- A field of the signal chain stays while an operation leaves its registers. -/
theorem Leaves.rd_lt {s t : State} (h : Leaves besideLt s t) {g : Field} (lt : covers (2 ^ 27) g = true) (k l : Nat) :
    t.rd g k l = s.rd g k l := by
  simp only [covers, Bool.and_eq_true] at lt
  obtain ⟨fits, block⟩ := lt
  refine h.regs _ ?_ _
  rw [Field.block_key g fits]
  revert block
  generalize blockAt (g.key 0 0) = b
  cases b <;> decide

/-! Channels -/

@[simp] theorem State.sc_setSc (s : State) (c : Nat) (f : ScChan → ScChan) : (s.setSc c f).sc c = f (s.sc c) :=
  Map.get_put_self ..

theorem State.sc_setSc_ne (s : State) {c d : Nat} (h : d ≠ c) (f : ScChan → ScChan) : (s.setSc c f).sc d = s.sc d :=
  Map.get_put_ne _ _ _ _ _ h

@[simp] theorem State.wr_sc (s : State) (f : Field) (v i j d : Nat) : (s.wr f v i j).sc d = s.sc d := rfl

@[simp] theorem State.raise_sc (s : State) (f : Field) (i j d : Nat) : (s.raise f i j).sc d = s.sc d := rfl

@[simp] theorem State.answer_sc (s : State) (r d : Nat) : (s.answer r).sc d = s.sc d := rfl

@[simp] theorem State.scValid_sc (s : State) (c : Nat) (b : Bool) (d : Nat) : (s.scValid c b).sc d = s.sc d := rfl

@[simp] theorem State.ltCount_sc (s : State) (d : Nat) : s.ltCount.sc d = s.sc d := rfl

@[simp] theorem State.setSc_flag (s : State) (c : Nat) (f : ScChan → ScChan) (g : Field) (i j : Nat) :
    (s.setSc c f).flag g i j = s.flag g i j := rfl

@[simp] theorem State.setSc_scState (s : State) (c : Nat) (f : ScChan → ScChan) (d : Nat) :
    (s.setSc c f).scState d = s.scState d := rfl

@[simp] theorem State.setSc_scEnabled (s : State) (c : Nat) (f : ScChan → ScChan) (d : Nat) :
    (s.setSc c f).scEnabled d = s.scEnabled d := rfl

theorem State.scEnabled_of_scFlows {s : State} {c : Nat} (h : s.scFlows c = true) : s.scEnabled c = true := by
  simp only [State.scFlows, Bool.or_eq_true, beq_iff_eq] at h
  simp only [State.scEnabled, decide_eq_true_eq]
  omega

/-! Registers that the shared operations leave -/

/-- What `State.ltCount` brings up to date. -/
def countFields : List Field := [Reg.LT_STATUS_ENABLED, Reg.LT_LOAD_CAP, Reg.LT_LOAD_LOAD]

theorem State.ltCount_rd (s : State) {g : Field} (h : countFields.all g.apart = true) (k l : Nat) :
    s.ltCount.rd g k l = s.rd g k l := by
  simp only [countFields, List.all_cons, List.all_nil, Bool.and_true, Bool.and_eq_true] at h
  obtain ⟨enabled, cap, load⟩ := h
  unfold State.ltCount
  rw [State.rd_wr_apart _ load, State.rd_wr_apart _ cap, State.rd_wr_apart _ enabled]

theorem State.scValid_rd (s : State) (c : Nat) (b : Bool) {g : Field} (h : g.apart Reg.LE_WORD_WORD = true) (k l : Nat) :
    (s.scValid c b).rd g k l = s.rd g k l := s.rd_wr_apart h ..

theorem State.rd_raise_apart (s : State) {f g : Field} (h : g.apart f = true) (i j k l : Nat) :
    (s.raise f i j).rd g k l = s.rd g k l := s.rd_wr_apart h ..

theorem State.event_rd_lt (s : State) (b : HwBlock) (name : String) (unit : Nat) {g : Field} (lt : covers (2 ^ 27) g = true)
    (k l : Nat) : (s.event b name unit).rd g k l = s.rd g k l :=
  (State.event_leaves (by decide) (.refl _ s) b name unit).rd_lt lt k l

theorem State.alarm_rd_lt (s : State) (b : HwBlock) (name : String) (unit : Nat) {g : Field} (lt : covers (2 ^ 27) g = true)
    (k l : Nat) : (s.alarm b name unit).rd g k l = s.rd g k l :=
  (State.alarm_leaves (by decide) (.refl _ s) b name unit).rd_lt lt k l

end Sys2Proof.Machine
end

section
/-! SUPPORT. The synchronizing reset (R265, R278, R279): what it leaves in its channel, and which channels wait for one. -/

namespace Sys2Proof.Machine

/-- Channel `c` starts a new epoch at its defining edge `at_`. -/
structure Restarted (c at_ : Nat) (armed : Bool) (s t : State) : Prop where
  settling : t.scState c = 1
  await : (t.sc c).await = none
  edge : (t.sc c).tReset = at_
  epoch : t.rd Reg.SC_EPOCH_EPOCH c = (s.rd Reg.SC_EPOCH_EPOCH c + 1) % 2 ^ 8
  aligned : armed = true → t.flag Reg.SC_STATUS_UNALIGNED c = false

theorem State.scReset_restarted (s : State) (c at_ : Nat) (armed : Bool) : Restarted c at_ armed s (s.scReset c at_ armed) := by
  unfold State.scReset
  extract_lets old index ts faded clear compared gd n begun counted shown
  have kept : shown.sc c = begun.sc c ∧ shown.rd Reg.SC_EPOCH_EPOCH c = (old + 1) % 2 ^ 8 ∧
      (armed = true → shown.rd Reg.SC_STATUS_UNALIGNED c = 0) := by
    cases armed <;>
      simp (disch := decide) [shown, counted, State.rd_wr_apart, State.rd_wr_self, show Reg.SC_EPOCH_EPOCH.w = 8 from rfl]
  obtain ⟨same, epoch, aligned⟩ := kept
  refine ⟨?_, ?_, ?_, ?_, fun yes => ?_⟩
  · rw [State.scState, State.ltCount_rd _ (by decide), State.rd_wr_self]
    rfl
  · rw [State.ltCount_sc, State.wr_sc, same, State.sc_setSc]
  · rw [State.ltCount_sc, State.wr_sc, same, State.sc_setSc]
  · rw [State.ltCount_rd _ (by decide), State.rd_wr_apart _ (by decide), epoch]
  · rw [State.flag, State.ltCount_rd _ (by decide), State.rd_wr_apart _ (by decide), aligned yes]
    rfl

/-- The mark of a channel whose clock came back without its armed source touches nothing of the new epoch (R265). -/
theorem Restarted.raise_unaligned {c at_ : Nat} {armed : Bool} {s t : State} (h : Restarted c at_ armed s t) (un : Bool)
    (loose : armed = true → un = false) : Restarted c at_ armed s (if un then t.raise Reg.SC_STATUS_UNALIGNED c else t) := by
  cases un
  case false => exact h
  case true =>
    refine ⟨?_, h.await, h.edge, ?_, fun yes => absurd (loose yes) (by decide)⟩
    · exact (t.rd_raise_apart (by decide) ..).trans h.settling
    · exact (t.rd_raise_apart (by decide) ..).trans h.epoch

theorem execDefiningEdge_of_awaiting {s : State} {c : Fin 32} {armed : Bool} (await : (s.sc c).await = some armed)
    (flows : s.scFlows c = true) (at_ : Nat) : exec (.definingEdge c at_) s = .next (s.scReset c at_ armed) := by
  change execDefiningEdge c at_ s = _
  unfold execDefiningEdge
  rw [await]
  exact if_pos flows

theorem execDefiningEdge_of_none {s : State} {c : Fin 32} (await : (s.sc c).await = none) (at_ : Nat) :
    exec (.definingEdge c at_) s = .next s := by
  change execDefiningEdge c at_ s = _
  unfold execDefiningEdge
  rw [await]

theorem execClockReturn_of_lost {s : State} {c : Fin 32} (lost : s.scState c = 3) (at_ : Nat) :
    ∃ t armed, exec (.clockReturn c at_) s = .next t ∧ Restarted c at_ armed s t := by
  refine ⟨_, _, if_neg (by simp [lost]), (s.scReset_restarted c at_ _).raise_unaligned _ fun yes => ?_⟩
  simp only [yes, Bool.not_true, Bool.and_false]

/-! The channels that LT_SYNC names -/

/-- A reset event waits for its defining edge; one that an armed source has fired stays marked so. -/
def awaitReset (x : ScChan) : ScChan := { x with await := some (x.await == some true) }

/-- What a write of LT_SYNC does at channel `c`. -/
def State.syncAt (mask : Nat) (s : State) (c : Nat) : State :=
  if bitOf mask c && s.scEnabled c then s.setSc c awaitReset else s

theorem execLtSync_eq (mask : Word) (s : State) :
    exec (.ltSync mask) s = .next ((List.range 32).foldl (State.syncAt mask.toNat) s) := rfl

theorem State.syncAt_scEnabled (mask : Nat) (s : State) (c d : Nat) : (State.syncAt mask s c).scEnabled d = s.scEnabled d := by
  unfold State.syncAt
  split <;> rfl

theorem State.syncAt_sc_ne (mask : Nat) (s : State) {c d : Nat} (h : d ≠ c) : (State.syncAt mask s c).sc d = s.sc d := by
  unfold State.syncAt
  split
  · exact s.sc_setSc_ne h _
  · rfl

theorem State.foldl_syncAt (mask : Nat) (s : State) (c n : Nat) :
    ((List.range n).foldl (State.syncAt mask) s).scEnabled c = s.scEnabled c ∧
    ((List.range n).foldl (State.syncAt mask) s).sc c =
      if c < n ∧ bitOf mask c = true ∧ s.scEnabled c = true then awaitReset (s.sc c) else s.sc c := by
  induction n with
  | zero => simp
  | succ n ih =>
    obtain ⟨enabled, chan⟩ := ih
    rw [List.range_succ, List.foldl_append, List.foldl_cons, List.foldl_nil]
    generalize (List.range n).foldl (State.syncAt mask) s = u at enabled chan ⊢
    refine ⟨(State.syncAt_scEnabled ..).trans enabled, ?_⟩
    by_cases here : c = n
    case pos =>
      subst here
      rw [if_neg (by omega)] at chan
      by_cases named : bitOf mask c = true ∧ s.scEnabled c = true
      · rw [if_pos ⟨by omega, named⟩, State.syncAt, if_pos (by simp [enabled, named]), State.sc_setSc, chan]
      · rw [if_neg (fun h => named h.2), State.syncAt, if_neg (by simpa [enabled] using named), chan]
    case neg =>
      have lt : c < n + 1 ↔ c < n := by omega
      rw [State.syncAt_sc_ne mask u here, chan]
      simp only [lt]

theorem ltSync_does {s : State} {mask : Word} {c : Fin 32} (named : bitOf mask.toNat c = true)
    (enabled : s.scEnabled c = true) (await : (s.sc c).await = none) :
    Does (.ltSync mask) s [.lauter] fun t => (t.sc c).await = some false ∧ t.fabric = s.fabric := by
  refine .next (execLtSync_eq mask s) ⟨?_, ?_⟩
  · rw [(s.foldl_syncAt mask.toNat c 32).2, if_pos ⟨c.isLt, named, enabled⟩, awaitReset, await]
    rfl
  · exact (execLtSync_leaves (P := 8388608) (by decide) (.refl _ s) mask _ (execLtSync_eq mask s)).fabric (by decide)

/-! The armed sources -/

theorem ltSyncArm_does (s : State) (v : Word) : Does (.ltSyncArm v) s [.regs .lt] fun t =>
    t.rd Reg.LT_SYNC_ARM_SOURCE = v.toNat % 8 ∧ t.rd Reg.LT_SYNC_ARM_PPS = v.toNat / 16 % 2 ^ 2 ∧
    t.flag Reg.LT_SYNC_ARM_ARMED = decide (1 ≤ v.toNat % 8 ∧ v.toNat % 8 ≤ 3) ∧
    RegsBut [Reg.LT_SYNC_ARM_PPS.key 0 0, Reg.LT_SYNC_ARM_SOURCE.key 0 0, Reg.LT_SYNC_ARM_ARMED.key 0 0] s t := by
  refine .next rfl ⟨?_, ?_, ?_, fun f i j other => ?_⟩
  · rw [State.put, State.rd_wr_apart _ (by decide), State.rd_wr_self]
    exact Nat.mod_mod ..
  · rw [State.put, State.rd_wr_apart _ (by decide), State.rd_wr_apart _ (by decide), State.rd_wr_self]
    rfl
  · rw [State.flag, State.put, State.rd_wr_self]
    cases decide (1 ≤ v.toNat % 8 ∧ v.toNat % 8 ≤ 3) <;> rfl
  · simp only [List.mem_cons, List.not_mem_nil, or_false, not_or] at other
    obtain ⟨pps, source, armed⟩ := other
    rw [State.put, State.rd_wr_ne _ armed, State.rd_wr_ne _ source, State.rd_wr_ne _ pps]

theorem execTimeAt_of_due {s : State} (armed : s.syncArmed 1 = true)
    (due : s.fires 0 (((s.base 0).sec.toNat / 2 ^ 32 * 2 ^ 32 + s.rd Reg.LT_SYNC_AT_SECOND) * 1000000000) = true) :
    exec .timeAt s = .next s.fireSync := congrArg _ (if_pos (Bool.and_eq_true_iff.2 ⟨armed, due⟩))

theorem execTimeAt_of_unarmed {s : State} (armed : s.syncArmed 1 = false) : exec .timeAt s = .next s :=
  congrArg _ (if_neg (by simp [armed]))

theorem execScSyncEdge_of_armed {s : State} (armed : s.syncArmed 3 = true) : exec .scSyncEdge s = .next s.fireSync :=
  congrArg _ (if_pos armed)

theorem execScSyncEdge_of_unarmed {s : State} (armed : s.syncArmed 3 = false) : exec .scSyncEdge s = .next s :=
  congrArg _ (if_neg (by simp [armed]))

end Sys2Proof.Machine
end

section
/-! SUPPORT. The clock, the banks and the coefficients of a channel, and the checks of the datapath (R265, R272, R274 to R276,
R285, R286, R288). -/

namespace Sys2Proof.Machine

/-! The clock -/

theorem clockLost_does {s : State} {c : Fin 32} (flows : s.scFlows c = true) :
    Does (.clockLost c) s [.fresh, .health, .zdp, .regs .lt, .regs .le, .regs .cnt, .regs .hl] fun t =>
      t.scState c = 3 ∧ t.flag Reg.LT_IRQ_CLOCK_LOST = true := by
  refine .next (if_neg (by simp [flows])) ⟨?_, ?_⟩
  · rw [State.scState, State.event_rd_lt _ _ _ _ (by decide), State.ltCount_rd _ (by decide),
      State.rd_raise_apart _ (by decide), State.scValid_rd _ _ _ (by decide), State.rd_wr_self]
    rfl
  · rw [State.flag, State.event_rd_lt _ _ _ _ (by decide), State.ltCount_rd _ (by decide)]
    exact State.flag_raise_tile _ rfl 0

theorem execClockLost_of_stopped {s : State} {c : Fin 32} (stopped : s.scFlows c = false) : exec (.clockLost c) s = .next s :=
  if_pos (by simp [stopped])

/-! Swap requests -/

section
variable {s : State} {c : Fin 32} {v : Word}

theorem execSwapRequest_of_ignored (h : v.toNat % 65536 = 0 ∨ s.scEnabled c = false) :
    exec (.swapRequest c v) s = .next s := by
  refine if_pos ?_
  obtain empty | off := h
  · simp [empty]
  · simp [off]

variable (req : bitOf v.toNat 31 = true) (len : v.toNat % 65536 ≠ 0) (enabled : s.scEnabled c = true)
include req len enabled

theorem swapRequest_starts (pending : (s.sc c).pendingLen = none) (fade : (s.sc c).fade = none) :
    Does (.swapRequest c v) s [.lauter, .regs .lt] fun t =>
      (t.sc c).fade = some ⟨0, v.toNat % 65536, 1 - s.rd Reg.SC_STATUS_BANK c⟩ ∧ t.flag Reg.SC_STATUS_FADING c = true := by
  have e : exec (.swapRequest c v) s = .next ((s.setSc c fun x =>
      { x with fade := some ⟨0, v.toNat % 65536, 1 - s.rd Reg.SC_STATUS_BANK c⟩ }).raise Reg.SC_STATUS_FADING c) :=
    (if_neg (by simp [req, len, enabled])).trans <| (if_neg (by simp [pending])).trans <| if_neg (by simp [fade])
  exact .next e ⟨by simp, State.flag_raise_tile _ rfl c⟩

theorem swapRequest_replaces (pending : (s.sc c).pendingLen.isSome = true) :
    Does (.swapRequest c v) s [.lauter, .regs .lt] fun t =>
      (t.sc c).pendingLen = some (v.toNat % 65536) ∧ t.flag Reg.LT_IRQ_SWAP_REPLACED = true ∧
      t.rd Reg.SC_COUNTS_SWAP_REPLACED c = min 65535 (s.rd Reg.SC_COUNTS_SWAP_REPLACED c + 1) := by
  refine .next ((if_neg (by simp [req, len, enabled])).trans (if_pos pending)) ⟨?_, State.flag_raise_tile _ rfl 0, ?_⟩
  · rw [State.raise_sc, State.incSat, State.wr_sc, State.sc_setSc]
  · rw [State.rd_raise_apart _ (by decide), State.incSat, State.rd_wr_self]
    change min 65535 (s.rd Reg.SC_COUNTS_SWAP_REPLACED c + 1) % 2 ^ 16 = _
    omega

end

/-! Coefficients -/

theorem poolAccess_reads (s : State) (core : Fin 4) : Does (.poolAccess core none) s
    [.mem, .poisoned, .readData, .claims, .loop, .can, .lauter, .regs .lt, .regs .le, .regs .can, .regs .cnt] fun t =>
      Map.get 0 t.readData core = Map.get 0 s.lauter.pool (s.rd Reg.LT_POOL_ADDR_ENTRY) ∧
      t.rd Reg.LT_POOL_ADDR_ENTRY = (s.rd Reg.LT_POOL_ADDR_ENTRY + 1) % 2 ^ 13 ∧ t.lauter = s.lauter ∧
      RegsBut [Reg.LT_POOL_ADDR_ENTRY.key 0 0] s t :=
  .next rfl ⟨Map.get_put_self .., State.rd_wr_self .., rfl,
    fun _ _ _ other => State.rd_wr_ne _ (fun same => other (List.mem_singleton.2 same)) _⟩

theorem poolAccess_writes {s : State} (free : s.poolRefused (s.rd Reg.LT_POOL_ADDR_ENTRY) = false) (core : Fin 4) (v : Word) :
    Does (.poolAccess core (some v)) s
      [.mem, .poisoned, .readData, .claims, .loop, .can, .lauter, .regs .lt, .regs .le, .regs .can, .regs .cnt] fun t =>
      Map.get 0 t.lauter.pool (s.rd Reg.LT_POOL_ADDR_ENTRY) = v.toNat % 2 ^ 24 ∧
      t.rd Reg.LT_POOL_ADDR_ENTRY = (s.rd Reg.LT_POOL_ADDR_ENTRY + 1) % 2 ^ 13 ∧
      RegsBut [Reg.LT_POOL_ADDR_ENTRY.key 0 0] s t :=
  .next (if_neg (by simp [free])) ⟨Map.get_put_self .., State.rd_wr_self ..,
    fun _ _ _ other => State.rd_wr_ne _ (fun same => other (List.mem_singleton.2 same)) _⟩

theorem poolAccess_refused {s : State} (used : s.poolRefused (s.rd Reg.LT_POOL_ADDR_ENTRY) = true) (core : Fin 4) (v : Word) :
    Does (.poolAccess core (some v)) s
      [.mem, .poisoned, .readData, .claims, .loop, .can, .lauter, .regs .lt, .regs .le, .regs .can, .regs .cnt] fun t =>
      t.lauter = s.lauter ∧ t.flag Reg.LT_STATUS_POOL_REFUSED = true ∧ RegsBut [Reg.LT_STATUS_POOL_REFUSED.key 0 0] s t :=
  .next (if_pos used) ⟨rfl, State.flag_raise_tile _ rfl 0, s.raise_regsBut _ 0 0⟩

/-! A fault of the datapath -/

/-- What a fault of the datapath does at channel `c`. -/
def State.faultAt (s : State) (c : Nat) : State :=
  if s.scEnabled c then ((s.wr Reg.SC_STATUS_STATE 0 c).wr Reg.SC_CTRL_ENABLE 0 c).scValid c false else s.scValid c false

theorem State.ltDatapathFault_eq (s : State) : s.ltDatapathFault =
    ((((List.range 32).foldl State.faultAt s).raise Reg.LT_STATUS_DATAPATH_FAULT).raise
      Reg.LT_IRQ_DATAPATH_FAULT).ltCount.alarm .lauter "DATAPATH_FAULT" := rfl

/-- Each channel is disabled or stays as it was. -/
theorem State.faultAt_scState (s : State) (d c : Nat) :
    (s.faultAt d).scState c = 0 ∨ (s.faultAt d).scState c = s.scState c := by
  unfold State.faultAt State.scState
  split
  · rw [State.scValid_rd _ _ _ (by decide), State.rd_wr_apart _ (by decide), State.rd_wr]
    split
    · exact .inl rfl
    · exact .inr rfl
  · exact .inr (State.scValid_rd _ _ _ (by decide) ..)

theorem State.faultAt_scState_self {s : State} {c : Nat} (enabled : s.scEnabled c = true) : (s.faultAt c).scState c = 0 := by
  rw [State.faultAt, if_pos enabled, State.scState, State.scValid_rd _ _ _ (by decide), State.rd_wr_apart _ (by decide),
    State.rd_wr_self]
  rfl

theorem State.foldl_faultAt_of_disabled {s : State} {c : Nat} (l : List Nat) (off : s.scState c = 0) :
    (l.foldl State.faultAt s).scState c = 0 :=
  List.foldlRecOn (motive := fun u : State => u.scState c = 0) l _ off fun u h d _ =>
    (u.faultAt_scState d c).elim id fun same => same.trans h

theorem State.foldl_faultAt_of_enabled {s : State} {c : Nat} {l : List Nat} (mem : c ∈ l) (enabled : s.scEnabled c = true) :
    (l.foldl State.faultAt s).scState c = 0 := by
  induction l generalizing s with
  | nil => cases mem
  | cons d l ih =>
    rw [List.foldl_cons]
    obtain rfl | later := List.mem_cons.1 mem
    · exact foldl_faultAt_of_disabled l (faultAt_scState_self enabled)
    · obtain off | same := s.faultAt_scState d c
      · exact foldl_faultAt_of_disabled l off
      · exact ih later (by rwa [State.scEnabled, same])

theorem State.ltDatapathFault_stops {s : State} {c : Fin 32} (enabled : s.scEnabled c = true) :
    s.ltDatapathFault.flag Reg.LT_STATUS_DATAPATH_FAULT = true ∧ s.ltDatapathFault.flag Reg.LT_IRQ_DATAPATH_FAULT = true ∧
    s.ltDatapathFault.scState c = 0 := by
  have stopped := foldl_faultAt_of_enabled (List.mem_range.2 c.isLt) enabled
  rw [State.ltDatapathFault_eq]
  generalize (List.range 32).foldl State.faultAt s = u at stopped ⊢
  refine ⟨?_, ?_, ?_⟩
  · rw [State.flag, State.alarm_rd_lt _ _ _ _ (by decide), State.ltCount_rd _ (by decide),
      State.rd_raise_apart _ (by decide)]
    exact State.flag_raise_tile u rfl 0
  · rw [State.flag, State.alarm_rd_lt _ _ _ _ (by decide), State.ltCount_rd _ (by decide)]
    exact State.flag_raise_tile _ rfl 0
  · rw [State.scState, State.alarm_rd_lt _ _ _ _ (by decide), State.ltCount_rd _ (by decide),
      State.rd_raise_apart _ (by decide), State.rd_raise_apart _ (by decide)]
    exact stopped

section
variable {s : State} {c : Fin 32} {xs : List ScSample}

theorem execLauterOutput_of_stopped (stopped : s.scFlows c = false) (tDef : Nat) (failures : Fin 4) :
    exec (.lauterOutput c xs tDef failures) s = .next s := if_pos (by simp [stopped])

variable (flows : s.scFlows c = true) (whole : xs.length = s.rd Reg.SC_COMB_DECIM c) (begun : (s.sc c).integ ≠ [])
include flows whole begun

theorem execLauterOutput_of_sound (tDef : Nat) : exec (.lauterOutput c xs tDef 0) s =
    .next ((s.takeInputs c xs).scPublish c tDef (s.rd Reg.SC_CFG_MODE c != 0 && xs.any (·.bad))) :=
  if_neg (by simp [flows, whole, begun])

theorem execLauterOutput_of_failed (tDef : Nat) : exec (.lauterOutput c xs tDef 3) s = .next s.ltDatapathFault :=
  if_neg (by simp [flows, whole, begun])

end

/-! The load -/

/-- The fields on which the load of the channels rests. -/
def loadFields : List Field :=
  [Reg.SC_STATUS_STATE, Reg.SC_CFG_CLK_SRC, Reg.SC_CFG_CLKDIV, Reg.SC_CFG_MODE, Reg.SC_FIN_FIN_MAX, Reg.SC_COMB_DECIM,
    Reg.SC_FIR_TAPS, Reg.SC_COMB_ORDER]

theorem State.ltLoad_congr {s t : State} (h : ∀ f ∈ loadFields, ∀ c, t.rd f c = s.rd f c) : t.ltLoad = s.ltLoad := by
  simp only [loadFields, List.forall_mem_cons] at h
  obtain ⟨state, src, div, mode, fin, decim, taps, order, -⟩ := h
  have enabled : t.scEnabled = s.scEnabled := by
    funext c
    rw [State.scEnabled, State.scEnabled, State.scState, State.scState, state]
  have load : t.scLoad = s.scLoad := by
    funext c
    unfold State.scLoad State.scRate State.scW State.flag
    rw [src, div, mode, fin, decim, taps, order]
  rw [State.ltLoad, State.scList, enabled, load]
  rfl

theorem loadFields_uncounted : ∀ f ∈ loadFields, countFields.all f.apart = true := by decide

theorem State.ltCount_ltLoad (s : State) : s.ltCount.ltLoad = s.ltLoad :=
  ltLoad_congr fun f mem c => s.ltCount_rd (loadFields_uncounted f mem) c 0

theorem State.ltCount_ltCapacity (s : State) : s.ltCount.ltCapacity = s.ltCapacity := by
  rw [State.ltCapacity, State.ltCount_rd _ (by decide), ← State.ltCapacity]

theorem State.ltRecheck_loadRisk (s : State) :
    s.ltRecheck.flag Reg.LT_STATUS_LOAD_RISK = decide (s.ltCapacity < s.ltLoad) := by
  unfold State.ltRecheck
  dsimp only
  rw [State.ltCount_ltCapacity, State.ltCount_ltLoad]
  generalize s.ltCount = u
  by_cases heavy : s.ltCapacity < s.ltLoad
  · rw [if_pos (decide_eq_true heavy), decide_eq_true heavy]
    by_cases risk : u.flag Reg.LT_STATUS_LOAD_RISK = true
    · rw [if_pos risk, State.flag, State.rd_raise_apart _ (by decide)]
      exact risk
    · rw [if_neg risk, State.flag, State.alarm_rd_lt _ _ _ _ (by decide), State.rd_raise_apart _ (by decide)]
      exact State.flag_raise_tile u rfl 0
  · rw [if_neg (by simpa using heavy), decide_eq_false heavy, State.flag, State.rd_wr_self]
    rfl

end Sys2Proof.Machine
end

section
/-! SUPPORT. Enabling, self-test and return of a channel (R285 to R289). -/

namespace Sys2Proof.Machine

/-! Starting and stopping a channel -/

theorem State.cmpClear_rd (s : State) (c k : Nat) {g : Field}
    (h : [Reg.SC_CMP_STAT_ACTIVE, Reg.SC_CMP_STAT_COUNT, Reg.SC_STATUS_CMP_ACTIVE].all g.apart = true) (i j : Nat) :
    (s.cmpClear c k).rd g i j = s.rd g i j := by
  simp only [List.all_cons, List.all_nil, Bool.and_true, Bool.and_eq_true] at h
  obtain ⟨active, count, shown⟩ := h
  rw [State.cmpClear, State.clearBitIn, State.rd_wr_apart _ shown, State.rd_wr_apart _ count, State.rd_wr_apart _ active]

theorem State.cmpClear_sc (s : State) (c k d : Nat) : (s.cmpClear c k).sc d = s.sc d := rfl

theorem State.scStart_starts (s : State) (c : Nat) : (s.scStart c).scState c = 1 ∧ ((s.scStart c).sc c).await = some false ∧
    (s.scStart c).rd Reg.SC_CTRL_ENABLE c = s.rd Reg.SC_CTRL_ENABLE c := by
  unfold State.scStart
  extract_lets started cleared banked marked shifted
  have same : shifted.sc c = started.sc c := by
    simp only [shifted, marked, banked, cleared, State.wrS, State.wr_sc, List.foldl, State.cmpClear_sc]
  have enable : shifted.rd Reg.SC_CTRL_ENABLE c = cleared.rd Reg.SC_CTRL_ENABLE c := by
    simp (disch := decide) only [shifted, marked, banked, State.wrS, State.rd_wr_apart]
  refine ⟨?_, ?_, ?_⟩
  · rw [State.scState, State.ltCount_rd _ (by decide), State.scValid_rd _ _ _ (by decide), State.rd_wr_self]
    rfl
  · rw [State.ltCount_sc, State.scValid_sc, State.wr_sc, same, State.sc_setSc]
  · rw [State.ltCount_rd _ (by decide), State.scValid_rd _ _ _ (by decide), State.rd_wr_apart _ (by decide), enable]
    exact List.foldlRecOn (motive := fun u : State => u.rd Reg.SC_CTRL_ENABLE c = s.rd Reg.SC_CTRL_ENABLE c) _ _ rfl
      fun u kept k _ => (u.cmpClear_rd c k (by decide) ..).trans kept

theorem State.scStop_stops (s : State) (c : Nat) : (s.scStop c).scState c = 0 ∧ ((s.scStop c).sc c).await = none ∧
    (s.scStop c).rd Reg.SC_CTRL_ENABLE c = s.rd Reg.SC_CTRL_ENABLE c := by
  unfold State.scStop
  extract_lets ended shown
  have same : shown.sc c = ended.sc c := rfl
  have enable : shown.rd Reg.SC_CTRL_ENABLE c = s.rd Reg.SC_CTRL_ENABLE c := by
    simp (disch := decide) only [shown, ended, State.rd_wr_apart, State.setSc_rd]
  refine ⟨?_, ?_, ?_⟩
  · rw [State.scState, State.ltCount_rd _ (by decide), State.scValid_rd _ _ _ (by decide), State.rd_wr_self]
    rfl
  · rw [State.ltCount_sc, State.scValid_sc, State.wr_sc, same, State.sc_setSc]
  · rw [State.ltCount_rd _ (by decide), State.scValid_rd _ _ _ (by decide), State.rd_wr_apart _ (by decide), enable]

section
variable {s : State} {c : Fin 32}

theorem execLtChannelEnable_of_disabled (sound : s.flag Reg.LT_STATUS_DATAPATH_FAULT = false) (off : s.scState c = 0) :
    exec (.ltChannelEnable c true) s = .next (s.scTryStart c) :=
  (if_neg (by simp [State.scEnabled, off])).trans (if_neg (by simp [sound, off]))

theorem ltChannelEnable_starts (sound : s.flag Reg.LT_STATUS_DATAPATH_FAULT = false) (off : s.scState c = 0)
    (fit : s.scCause c = 0) : Does (.ltChannelEnable c true) s [.outcome, .lauter, .regs .lt, .regs .le] fun t =>
      t.outcome = 0 ∧ t.flag Reg.SC_CTRL_ENABLE c = true ∧ t.scState c = 1 ∧ (t.sc c).await = some false := by
  obtain ⟨state, await, enable⟩ := (s.wr Reg.SC_CTRL_ENABLE 1 c).scStart_starts c
  have e := execLtChannelEnable_of_disabled sound off
  simp only [State.scTryStart, fit, beq_self_eq_true, if_true] at e
  generalize (s.wr Reg.SC_CTRL_ENABLE 1 c).scStart c = u at e state await enable
  refine .next e ⟨rfl, ?_, state, await⟩
  rw [State.flag, State.answer_rd, enable, State.rd_wr_self]
  rfl

theorem ltChannelEnable_refuses (sound : s.flag Reg.LT_STATUS_DATAPATH_FAULT = false) (off : s.scState c = 0)
    (unfit : s.scCause c ≠ 0) : Does (.ltChannelEnable c true) s [.outcome, .lauter, .regs .lt, .regs .le] fun t =>
      t.outcome = 14 ∧ t.flag Reg.SC_CTRL_ENABLE c = false ∧ t.scState c = 0 ∧
      t.rd Reg.SC_STATUS_CFG_CAUSE c = s.scCause c % 16 := by
  have e : s.scTryStart c = (((s.wr Reg.SC_STATUS_STATE 0 c).wr Reg.SC_CTRL_ENABLE 0 c).wr Reg.SC_STATUS_CFG_CAUSE
      (s.scCause c) c).ltCount.answer 14 := by
    simp only [State.scTryStart, beq_iff_eq, unfit, if_false]
  refine .next ((execLtChannelEnable_of_disabled sound off).trans (congrArg _ e)) ⟨rfl, ?_, ?_, ?_⟩
  · rw [State.flag, State.answer_rd, State.ltCount_rd _ (by decide), State.rd_wr_apart _ (by decide), State.rd_wr_self]
    rfl
  · rw [State.scState, State.answer_rd, State.ltCount_rd _ (by decide), State.rd_wr_apart _ (by decide),
      State.rd_wr_apart _ (by decide), State.rd_wr_self]
    rfl
  · rw [State.answer_rd, State.ltCount_rd _ (by decide), State.rd_wr_self]
    rfl

theorem ltChannelEnable_stops (enabled : s.scEnabled c = true) :
    Does (.ltChannelEnable c false) s [.outcome, .lauter, .regs .lt, .regs .le] fun t =>
      t.outcome = 0 ∧ t.flag Reg.SC_CTRL_ENABLE c = false ∧ t.scState c = 0 ∧ (t.sc c).await = none := by
  have still : (s.wr Reg.SC_CTRL_ENABLE 0 c).scEnabled c = true := by
    rwa [State.scEnabled, State.scState, State.rd_wr_apart _ (by decide)]
  obtain ⟨state, await, enable⟩ := (s.wr Reg.SC_CTRL_ENABLE 0 c).scStop_stops c
  have e : exec (.ltChannelEnable c false) s = .next (((s.wr Reg.SC_CTRL_ENABLE 0 c).scStop c).answer 0) :=
    congrArg (fun t : State => Host.Outcome.next (t.answer 0)) (if_pos still)
  refine .next e ⟨rfl, ?_, state, await⟩
  rw [State.flag, State.answer_rd, enable, State.rd_wr_self]
  rfl

/-! Self-test -/

theorem ltServiceTest_starts (ready : s.scState c ≠ 5) (live : s.scState c ≠ 6) :
    Does (.ltServiceTest c) s [.outcome, .health, .lauter, .regs .lt, .regs .le] fun t =>
      t.outcome = 0 ∧ t.scState c = 5 ∧ t.flag Reg.SC_STATUS_BIST_PASS c = false := by
  have regs (f : Field) : (s.scTestStart c).rd f c =
      ((((if s.scEnabled c then s.scStop c else s).wr Reg.SC_STATUS_STATE 5 c).wr Reg.SC_STATUS_BIST_PASS 0 c).scValid c
        false).rd f c := by
    rw [State.rd, State.scTestStart, State.unitTesting_regs]
    rfl
  refine .next (if_neg (by simp [ready, live])) ⟨rfl, ?_, ?_⟩
  · rw [State.scState, State.answer_rd, regs, State.scValid_rd _ _ _ (by decide), State.rd_wr_apart _ (by decide),
      State.rd_wr_self]
    rfl
  · rw [State.flag, State.answer_rd, regs, State.scValid_rd _ _ _ (by decide), State.rd_wr_self]
    rfl

theorem ltSelfTestDone_passes (testing : s.scState c = 5) : Does (.ltSelfTestDone c true) s
    [.dict, .fresh, .health, .zdp, .ports, .regs .lt, .regs .le, .regs .cnt, .regs .hl] fun t =>
      t.scState c = 4 ∧ t.flag Reg.SC_STATUS_BIST_PASS c = true := by
  refine .next (if_neg (by simp [testing])) ⟨?_, State.flag_raise_tile _ rfl c⟩
  rw [State.scState, State.rd_raise_apart _ (by decide), State.rd_wr_self]
  rfl

theorem State.scRetire_retires (s : State) (c : Nat) :
    (s.scRetire c).scState c = 6 ∧ (s.scRetire c).flag Reg.LT_IRQ_CHANNEL_RETIRED = true := by
  unfold State.scRetire
  refine ⟨?_, ?_⟩
  · rw [State.scState, State.ltCount_rd _ (by decide), State.rd_raise_apart _ (by decide),
      State.scValid_rd _ _ _ (by decide), State.rd_wr_self]
    rfl
  · rw [State.flag, State.ltCount_rd _ (by decide)]
    exact State.flag_raise_tile _ rfl 0

theorem ltSelfTestDone_fails (testing : s.scState c = 5) : Does (.ltSelfTestDone c false) s
    [.dict, .fresh, .health, .zdp, .ports, .regs .lt, .regs .le, .regs .cnt, .regs .hl] fun t =>
      t.scState c = 6 ∧ t.flag Reg.LT_IRQ_CHANNEL_RETIRED = true :=
  .next (if_neg (by simp [testing])) (State.scRetire_retires _ c)

/-! Return -/

theorem ltServiceReturn_stays (offline : s.scState c = 4) (off : s.flag Reg.SC_CTRL_ENABLE c = false) :
    Does (.ltServiceReturn c) s [.outcome, .fresh, .health, .lauter, .regs .lt, .regs .le, .regs .hl] fun t =>
      t.outcome = 0 ∧ t.scState c = 0 := by
  have back : (s.unitReturned (slotAt 9 c)).flag Reg.SC_CTRL_ENABLE c = false := by
    rw [State.flag, (State.unitReturned_leaves (by decide) (.refl _ s) ..).rd_lt (by decide)]
    exact off
  have e : s.scReturn c = ((s.unitReturned (slotAt 9 c)).scStop c).answer 0 := by
    simp only [State.scReturn, back, Bool.false_eq_true, if_false]
  exact .next ((if_pos offline).trans (congrArg _ e)) ⟨rfl, (State.answer_rd ..).trans (State.scStop_stops _ c).1⟩

end

/-- An order that is refused and does nothing else. -/
theorem Does.refusedOnly {i : Instr} {s : State} {r : Nat} (e : exec i s = .next (s.answer r)) :
    Does i s i.touches fun t => t.outcome = r ∧ t.regs = s.regs ∧ t.lauter = s.lauter := .next e ⟨rfl, rfl, rfl⟩

/-! The signal chain as a whole -/

/-- Settles O15: each command's effect stands in the last writes to its channel, and what follows them (the counts of the
enabled channels, the signal words, the records) lies in registers apart from these. -/
theorem lauterCommands : Obligations.LauterCommands := by
  unfold Obligations.LauterCommands
  refine ⟨fun s c at_ armed await flows => ?_, fun s c at_ await => execDefiningEdge_of_none await at_,
    fun s mask c => ltSync_does, ltSyncArm_does,
    fun s armed due => .next (execTimeAt_of_due armed due) rfl, fun s => execTimeAt_of_unarmed,
    fun s armed => .next (execScSyncEdge_of_armed armed) rfl, fun s => execScSyncEdge_of_unarmed,
    fun s c => clockLost_does, fun s c => execClockLost_of_stopped,
    fun s c at_ lost => ?_, fun s c at_ here => if_pos here,
    fun s c v => swapRequest_starts, fun s c v => swapRequest_replaces, fun s c v => execSwapRequest_of_ignored,
    poolAccess_reads, fun s core v free => poolAccess_writes free core v, fun s core v used => poolAccess_refused used core v,
    fun s c xs tDef flows whole begun => .next (execLauterOutput_of_sound flows whole begun tDef) rfl,
    fun s c xs tDef flows whole begun => .next (execLauterOutput_of_failed flows whole begun tDef)
      (State.ltDatapathFault_stops (State.scEnabled_of_scFlows flows)),
    fun s c xs tDef failures stopped => execLauterOutput_of_stopped stopped tDef failures,
    fun s => .next rfl s.ltRecheck_loadRisk,
    fun s c => ltChannelEnable_starts, fun s c => ltChannelEnable_refuses, fun s c => ltChannelEnable_stops,
    fun s c => ltServiceTest_starts, fun s c busy => .refusedOnly (if_pos busy),
    fun s c => ltSelfTestDone_passes, fun s c => ltSelfTestDone_fails, fun s c pass idle => if_pos idle,
    fun s c => ltServiceReturn_stays, fun s c here => .refusedOnly (if_neg here)⟩
  · obtain ⟨settling, await', edge, epoch, aligned⟩ := s.scReset_restarted c at_ armed
    exact .next (execDefiningEdge_of_awaiting await flows at_) ⟨settling, await', edge, epoch, aligned⟩
  · obtain ⟨t, armed, e, settling, -, edge, epoch, -⟩ := execClockReturn_of_lost lost at_
    exact .next e ⟨settling, edge, epoch⟩

end Sys2Proof.Machine
end

section
/-! SUPPORT. The registers of the position feedback unit: which fields lie apart, and what the operations that its commands share
leave of them. -/

namespace Sys2Proof.Machine

/-! Fields that lie apart -/

/-- Places of the register file from one encoder channel to the next. -/
def encoderSize : Nat := 4096

/-- The field lies in the registers of the encoder channels, once in each. -/
def Field.ofEncoder (f : Field) : Bool := !f.banked && f.s1 == 128 && f.n2 == 1

/-- No elements of the two fields share a place: their arrays do not overlap, or they differ in their place in an encoder
channel. What `Field.apart` says, for these channels too. -/
def Field.beside (f g : Field) : Bool :=
  f.apart g || f.ofEncoder && g.ofEncoder && f.key 0 0 % encoderSize != g.key 0 0 % encoderSize

theorem Field.key_mod_encoderSize {f : Field} (h : f.ofEncoder = true) (i j : Nat) :
    f.key i j % encoderSize = f.key 0 0 % encoderSize := by
  simp only [Field.ofEncoder, Bool.and_eq_true, Bool.not_eq_true', beq_iff_eq] at h
  obtain ⟨⟨flat, stride⟩, single⟩ := h
  simp only [Field.key, flat, stride, single, encoderSize, Bool.false_eq_true, if_false, Nat.mod_one, Nat.zero_mod,
    Nat.zero_mul, Nat.add_zero]
  omega

theorem Field.key_ne_of_beside {f g : Field} (h : f.beside g = true) (i j k l : Nat) : f.key i j ≠ g.key k l := by
  simp only [Field.beside, Bool.or_eq_true, Bool.and_eq_true, bne_iff_ne] at h
  obtain apart | ⟨⟨encoderF, encoderG⟩, place⟩ := h
  · exact Field.key_ne_of_apart apart i j k l
  · intro same
    rw [← Field.key_mod_encoderSize encoderF i j, ← Field.key_mod_encoderSize encoderG k l, same] at place
    exact place rfl

theorem State.rd_wr_beside (s : State) {f g : Field} (h : g.beside f = true) (v i j k l : Nat) :
    (s.wr f v i j).rd g k l = s.rd g k l := s.rd_wr_ne (Field.key_ne_of_beside h k l i j) v

/-! What an operation may write -/

/-- The fields of the feedback unit that lie apart from the fields `fs` read as before. -/
structure FeedbackKept (fs : List Field) (s t : State) : Prop where
  rd : ∀ {g}, covers (2 ^ 29) g = true → fs.all g.beside = true → ∀ k l, t.rd g k l = s.rd g k l

/-- The bits of every part but the registers of the feedback unit. -/
def besidePf : Nat := 2 ^ 42 - 1 - 2 ^ 29

theorem Leaves.feedbackKept {fs : List Field} {s t : State} (h : Leaves besidePf s t) : FeedbackKept fs s t := by
  refine ⟨fun {g} pf _ k l => ?_⟩
  simp only [covers, Bool.and_eq_true] at pf
  obtain ⟨fits, block⟩ := pf
  refine h.regs _ ?_ _
  rw [Field.block_key g fits]
  revert block
  generalize blockAt (g.key 0 0) = b
  cases b <;> decide

section
variable {fs : List Field} {s t u : State}

theorem FeedbackKept.refl (fs : List Field) (s : State) : FeedbackKept fs s s := ⟨fun _ _ _ _ => rfl⟩

theorem FeedbackKept.trans (h : FeedbackKept fs s t) (k : FeedbackKept fs t u) : FeedbackKept fs s u :=
  ⟨fun pf apart i j => (k.rd pf apart i j).trans (h.rd pf apart i j)⟩

theorem FeedbackKept.mono {es : List Field} (h : FeedbackKept es s t) (sub : es ⊆ fs) : FeedbackKept fs s t :=
  ⟨fun pf apart => h.rd pf (List.all_eq_true.2 fun f mem => List.all_eq_true.1 apart f (sub mem))⟩

theorem FeedbackKept.wr (h : FeedbackKept fs s t) {f : Field} (mem : f ∈ fs) (v i j : Nat) :
    FeedbackKept fs s (t.wr f v i j) :=
  ⟨fun pf apart k l => (t.rd_wr_beside (List.all_eq_true.1 apart f mem) v i j k l).trans (h.rd pf apart k l)⟩

theorem FeedbackKept.andThen {es : List Field} (h : FeedbackKept fs s t) (k : FeedbackKept es t u) (sub : es ⊆ fs) :
    FeedbackKept fs s u := h.trans (k.mono sub)

theorem FeedbackKept.setPf (h : FeedbackKept fs s t) (c : Nat) (f : PfChan → PfChan) :
    FeedbackKept fs s (t.setPf c f) := ⟨h.rd⟩

theorem FeedbackKept.answer (h : FeedbackKept fs s t) (r : Nat) : FeedbackKept fs s (t.answer r) := ⟨h.rd⟩

theorem FeedbackKept.ite {p : Prop} [Decidable p] (h : FeedbackKept fs s t) (k : FeedbackKept fs s u) :
    FeedbackKept fs s (if p then t else u) := by
  split
  · exact h
  · exact k

theorem FeedbackKept.foldl {α : Type} {g : State → α → State} (step : ∀ u x, FeedbackKept fs u (g u x)) (l : List α)
    (s : State) : FeedbackKept fs s (l.foldl g s) := by
  induction l generalizing s with
  | nil => exact .refl fs s
  | cons x l ih => exact (step s x).trans (ih (g s x))

theorem FeedbackKept.pfPos (h : FeedbackKept fs s t)
    (lo : fs.all Reg.PFC_POS_LO_POS.beside = true) (hi : fs.all Reg.PFC_POS_HI_POS.beside = true) (c : Nat) :
    t.pfPos c = s.pfPos c := by
  rw [State.pfPos, State.pfPos, State.rd2, State.rd2, h.rd (by decide) lo, h.rd (by decide) hi]

end

/-! The position -/

theorem wrapInt_lt (w : Nat) (z : Int) : wrapInt w z < 2 ^ w := by
  have pos : (0 : Int) < ((2 ^ w : Nat) : Int) := by exact_mod_cast Nat.two_pow_pos w
  have low := Int.emod_nonneg z pos.ne'
  have high := Int.emod_lt_of_pos z pos
  unfold wrapInt
  omega

theorem State.setPos_pfPos (s : State) (c : Nat) (z : Int) : (s.setPos c z).pfPos c = wrap48 z := by
  have lo : (s.setPos c z).rd Reg.PFC_POS_LO_POS c = wrapInt 48 z % 2 ^ 32 := by
    rw [State.setPos, State.wr2, State.rd_wr_beside _ (by decide), State.rd_wr_self]
    rfl
  have hi : (s.setPos c z).rd Reg.PFC_POS_HI_POS c = wrapInt 48 z / 2 ^ 32 % 2 ^ 16 := State.rd_wr_self ..
  have lt := wrapInt_lt 48 z
  rw [State.pfPos, State.rd2, lo, hi, wrap48]
  congr 1
  omega

/-! The shared operations -/

theorem State.pfViews_kept (s : State) (c : Nat) : FeedbackKept [] s (s.pfViews c) :=
  (State.pfViews_leaves (by decide) (.refl _ s) c).feedbackKept

theorem State.pfCount_kept (s : State) : FeedbackKept [Reg.PF_STATUS_ENABLED] s s.pfCount :=
  (FeedbackKept.refl _ s).wr (by decide) ..

theorem State.lineBits_kept (s : State) (c : Nat) : FeedbackKept [Reg.PFC_STATUS_LINE_OPEN] s (s.lineBits c) :=
  (FeedbackKept.refl _ s).wr (by decide) ..

theorem State.putSpeed_kept (s : State) (c : Nat) (v : Rat) : FeedbackKept [Reg.PFC_SPEED_SPEED] s (s.putSpeed c v) :=
  ((FeedbackKept.refl _ s).setPf c _).wr (by decide) ..

theorem State.speedAt_kept (s : State) (c now : Nat) :
    FeedbackKept [Reg.PFC_STATUS_METHOD, Reg.PFC_SPEED_SPEED] s (s.speedAt c now) := by
  unfold State.speedAt
  extract_lets win kept es chg old method shown sum
  exact (((FeedbackKept.refl _ s).setPf c _).wr (by decide) ..).andThen (shown.putSpeed_kept c _) (by decide)

theorem State.cmpBehind_kept (s : State) (c k : Nat) :
    FeedbackKept [Reg.PFCMP_STAT_ARMED_BEHIND] s (s.cmpBehind c k) :=
  (FeedbackKept.refl _ s).ite (((FeedbackKept.refl _ s).setPf c _).wr (by decide) ..)

theorem State.loadPos_pfPos (s : State) (c : Nat) (z : Int) : (s.loadPos c z).pfPos c = wrap48 z :=
  ((FeedbackKept.foldl (fun u k => u.cmpBehind_kept c k) _ _).pfPos (by decide) (by decide) c).trans (s.setPos_pfPos c z)

theorem State.loadPos_kept (s : State) (c : Nat) (z : Int) :
    FeedbackKept [Reg.PFC_POS_LO_POS, Reg.PFC_POS_HI_POS, Reg.PFCMP_STAT_ARMED_BEHIND] s (s.loadPos c z) :=
  ((((FeedbackKept.refl _ s).wr (by decide) ..).wr (by decide) ..).setPf c _).trans
    (.foldl (fun u k => (u.cmpBehind_kept c k).mono (by decide)) _ _)

/-! Faults -/

/-- What a fault records beside UNCERTAIN and its sticky bit. -/
def faultRecords : List Field :=
  [Reg.PFC_COUNTS1_ILLEGAL, Reg.PFC_COUNTS1_GLITCH, Reg.PFC_COUNTS2_DIR_INDEX, Reg.PFC_COUNTS2_SER_FAULTS,
    Reg.PF_EVT_HEAD_INDEX, Reg.PF_EVT_HEAD_COUNT, Reg.PF_IRQ_FAULT]

theorem FeedbackKept.count {fs : List Field} {s t : State} (h : FeedbackKept fs s t) (event : Nat) (inst : Option Nat)
    (w : Nat) : FeedbackKept fs s (t.count event inst w) :=
  h.trans (State.count_leaves (by decide) (.refl _ t) event inst w).feedbackKept

theorem State.pfEvent_kept (s : State) (c kind : Nat) (passed corrected : Bool) (t : Nat) :
    FeedbackKept [Reg.PF_EVT_HEAD_INDEX, Reg.PF_EVT_HEAD_COUNT] s (s.pfEvent c kind passed corrected t) :=
  ((Leaves.feedbackKept (State.gristPut_leaves (by decide) (.refl _ s) ..)).wr (by decide) ..).wr (by decide) ..

/-- A fault sets its sticky bit, after UNCERTAIN where the table says so; the rest are its records. -/
theorem State.pfFault_kept (s : State) (c code t : Nat) : ∃ u, (u = s ∨ u = s.raise Reg.PFC_STATUS_UNCERTAIN c) ∧
    FeedbackKept faultRecords (u.setBitIn Reg.PFC_FAULT_FAULT code c) (s.pfFault c code t) := by
  unfold State.pfFault
  extract_lets sets u sticky counted
  refine ⟨u, ?_, ?_⟩
  · cases h : sets <;> simp [u, h]
  · have counts : FeedbackKept faultRecords sticky counted := by
      have one {f : Field} (mem : f ∈ faultRecords) (g : PfChan → PfChan) :
          FeedbackKept faultRecords sticky ((sticky.incSat f c).setPf c g) := ((FeedbackKept.refl _ sticky).wr mem ..).setPf c g
      exact ((one (by decide) _).count ..).ite <| ((one (by decide) _).count ..).ite <| (one (by decide) _).ite <|
        ((one (by decide) _).count ..).ite (.refl _ sticky)
    exact ((counts.andThen (counted.pfEvent_kept ..) (by decide)).wr (by decide) ..).trans
      (State.event_leaves (by decide) (.refl _ _) ..).feedbackKept

/-- What the faults of a channel's lines may write. -/
def lineFields : List Field :=
  [Reg.PFC_STATUS_LINE_OPEN, Reg.PFC_STATUS_UNCERTAIN, Reg.PFC_FAULT_FAULT] ++ faultRecords

theorem State.pfFault_kept_lines (s : State) (c code t : Nat) : FeedbackKept lineFields s (s.pfFault c code t) := by
  obtain ⟨u, rfl | rfl, kept⟩ := s.pfFault_kept c code t
  · exact ((FeedbackKept.refl _ u).wr (by decide) ..).andThen kept (by decide)
  · exact (((FeedbackKept.refl _ s).wr (by decide) ..).wr (by decide) ..).andThen kept (by decide)

theorem State.pfFault_uncertain {s : State} {c : Nat} (h : s.flag Reg.PFC_STATUS_UNCERTAIN c = true) (code t : Nat) :
    (s.pfFault c code t).flag Reg.PFC_STATUS_UNCERTAIN c = true := by
  obtain ⟨u, from_, kept⟩ := s.pfFault_kept c code t
  rw [State.flag, kept.rd (by decide) (by decide), State.setBitIn, State.rd_wr_beside _ (by decide)]
  obtain rfl | rfl := from_
  · exact h
  · exact State.flag_raise_tile s rfl c

theorem State.openFaults_kept (s : State) (c : Nat) : FeedbackKept lineFields s (s.openFaults c) :=
  ((s.lineBits_kept c).mono (by decide)).trans
    (.foldl (fun u _ => (u.pfFault_kept_lines ..).ite (.refl _ u)) _ _)

theorem State.openFaults_uncertain {s : State} {c : Nat} (h : s.flag Reg.PFC_STATUS_UNCERTAIN c = true) :
    (s.openFaults c).flag Reg.PFC_STATUS_UNCERTAIN c = true := by
  refine List.foldlRecOn (motive := fun u : State => u.flag Reg.PFC_STATUS_UNCERTAIN c = true) _ _ ?_ fun u uncertain b _ => ?_
  · rwa [State.flag, (s.lineBits_kept c).rd (by decide) (by decide)]
  · split
    · exact State.pfFault_uncertain uncertain ..
    · exact uncertain

/-! Starting and stopping a channel -/

/-- What a channel that starts writes beside STATE. -/
def runFields : List Field :=
  [Reg.PFC_STATUS_METHOD, Reg.PFC_SPEED_SPEED, Reg.PF_STATUS_ENABLED] ++ lineFields

theorem State.pfRun_kept (s : State) (c : Nat) : FeedbackKept runFields (s.wr Reg.PFC_STATUS_STATE 1 c) (s.pfRun c) := by
  unfold State.pfRun
  extract_lets started cleared marked shown
  have begun : FeedbackKept runFields (s.wr Reg.PFC_STATUS_STATE 1 c) cleared := ((FeedbackKept.refl _ _).setPf c _).setPf c _
  have mark : FeedbackKept runFields (s.wr Reg.PFC_STATUS_STATE 1 c) marked := begun.ite (begun.wr (by decide) ..)
  exact ((((mark.wr (by decide) ..).andThen (State.putSpeed_kept ..) (by decide)).andThen (shown.openFaults_kept c)
    (by decide)).andThen (State.pfViews_kept ..) (by decide)).andThen (State.pfCount_kept _) (by decide)

theorem State.pfRun_uncertain {s : State} {c : Nat} (counting : s.pfMode c ≠ 2) :
    (s.pfRun c).flag Reg.PFC_STATUS_UNCERTAIN c = true := by
  unfold State.pfRun
  extract_lets started cleared marked shown
  have mode : cleared.pfMode c = s.pfMode c := s.rd_wr_beside (f := Reg.PFC_STATUS_STATE) (by decide) ..
  have uncertain : shown.flag Reg.PFC_STATUS_UNCERTAIN c = true := by
    rw [State.flag, (State.putSpeed_kept ..).rd (by decide) (by decide), State.rd_wr_beside _ (by decide)]
    simp only [marked, mode, beq_iff_eq, counting, if_false]
    exact State.flag_raise_tile cleared rfl c
  rw [State.flag, (State.pfCount_kept _).rd (by decide) (by decide), (State.pfViews_kept ..).rd (by decide) (by decide)]
  exact State.openFaults_uncertain uncertain

/-- What a channel that stops writes beside STATE. -/
def haltFields : List Field := [Reg.PFC_STATUS_LINE_OPEN, Reg.PF_STATUS_ENABLED]

theorem State.pfHalt_kept (s : State) (c st : Nat) :
    FeedbackKept haltFields (s.wr Reg.PFC_STATUS_STATE st c) (s.pfHalt c st) :=
  ((((FeedbackKept.refl _ _).setPf c _).andThen (State.lineBits_kept ..) (by decide)).andThen (State.pfViews_kept ..)
    (by decide)).andThen (State.pfCount_kept _) (by decide)

theorem State.pfHalt_pfState (s : State) (c st : Nat) : (s.pfHalt c st).pfState c = st % 16 :=
  ((s.pfHalt_kept c st).rd (by decide) (by decide) c 0).trans (State.rd_wr_self ..)

theorem State.pfHalt_rd (s : State) (c st : Nat) {g : Field} (pf : covers (2 ^ 29) g = true)
    (apart : (Reg.PFC_STATUS_STATE :: haltFields).all g.beside = true) (k l : Nat) :
    (s.pfHalt c st).rd g k l = s.rd g k l := by
  rw [List.all_cons, Bool.and_eq_true] at apart
  exact ((s.pfHalt_kept c st).rd pf apart.2 k l).trans (s.rd_wr_beside apart.1 ..)

theorem State.pfRetire_retires (s : State) (c : Nat) :
    (s.pfRetire c).pfState c = 4 ∧ (s.pfRetire c).flag Reg.PF_IRQ_RETIRED = true :=
  ⟨(State.rd_wr_beside _ (by decide) ..).trans (s.pfHalt_pfState c 4), State.flag_raise_tile _ rfl 0⟩

end Sys2Proof.Machine
end

section
/-! SUPPORT. The commands of a feedback channel: its speed, its emulated outputs, its enable, its self-test and its duplicated
logic (R295, R304 to R306, R310, R311, R316 to R318). -/

namespace Sys2Proof.Machine

variable {s : State} {c : Fin 32}

/-! Speed and outputs -/

theorem State.speedViews_pfPos (s : State) (c now : Nat) : ((s.speedAt c now).pfViews c).pfPos c = s.pfPos c :=
  ((s.speedAt_kept c now).andThen (State.pfViews_kept ..) (by decide)).pfPos (by decide) (by decide) c

theorem speedUpdate_does (runs : s.pfRuns c = true) (counting : s.pfMode c ≠ 2) :
    Does (.speedUpdate c) s [.pfu, .regs .le, .regs .pf] fun t =>
      t = (s.speedAt c (s.now 0)).pfViews c ∧ t.pfPos c = s.pfPos c :=
  .next (if_neg (by simp [runs, counting])) ⟨rfl, s.speedViews_pfPos c _⟩

theorem execSpeedUpdate_of_stopped (stopped : s.pfRuns c = false) : exec (.speedUpdate c) s = .next s :=
  if_pos (by simp [stopped])

theorem standstill_does {at_ : Nat} (last : (s.pf c).lastT = some at_) (runs : s.pfRuns c = true)
    (counting : s.pfMode c ≠ 2) (still : at_ + s.rd Reg.PFC_ZERO_ZERO_MS c * 1000000 < s.now 0) :
    Does (.standstill c) s [.pfu, .regs .le, .regs .pf] fun t =>
      t.flag Reg.PFC_STATUS_STANDSTILL c = true ∧ t.pfPos c = s.pfPos c := by
  have e : exec (.standstill c) s =
      .next (((s.raise Reg.PFC_STATUS_STANDSTILL c).speedAt c (s.now 0)).pfViews c) := by
    change execStandstill c s = _
    unfold execStandstill
    rw [last]
    exact if_pos (by simp [runs, counting, still])
  refine .next e ⟨?_, ?_⟩
  · rw [State.flag, (State.pfViews_kept ..).rd (by decide) (by decide), (State.speedAt_kept ..).rd (by decide) (by decide)]
    exact State.flag_raise_tile s rfl c
  · rw [State.speedViews_pfPos]
    exact ((FeedbackKept.refl [Reg.PFC_STATUS_STANDSTILL] s).wr (by decide) ..).pfPos (by decide) (by decide) c

theorem execStandstill_of_none (unmoved : (s.pf c).lastT = none) : exec (.standstill c) s = .next s := by
  change execStandstill c s = _
  unfold execStandstill
  rw [unmoved]

theorem emulatedTransition_does (running : s.pfState c = 1) (emulated : s.rd Reg.PFC_CFG_PT_MODE c = 3)
    (serial : s.pfMode c = 2) (behind : (s.pf c).emu < s.pfPos c / 2 ^ s.rd Reg.PFC_EMU_EMU_SHIFT c) :
    Does (.emulatedTransition c) s [.pfu, .regs .pf] fun t => (t.pf c).emu = (s.pf c).emu + 1 := by
  refine .next (if_neg (by simp [running, emulated, serial])) ?_
  exact (congrArg PfChan.emu (Map.get_put_self ..)).trans (if_pos behind)

theorem execEmulatedTransition_of_other (other : s.rd Reg.PFC_CFG_PT_MODE c ≠ 3) :
    exec (.emulatedTransition c) s = .next s := if_pos (.inr (.inl other))

theorem oscFault_does (s : State) : Does .oscFault s [.regs .pf] fun t =>
    t.flag Reg.PF_STATUS_OSC_FAULT = true ∧ t.flag Reg.PF_IRQ_OSC_FAULT = true ∧ (∀ c, t.pfRuns c = false) ∧
    RegsBut [Reg.PF_STATUS_OSC_FAULT.key 0 0, Reg.PF_IRQ_OSC_FAULT.key 0 0] s t := by
  have lost : ((s.raise Reg.PF_STATUS_OSC_FAULT).raise Reg.PF_IRQ_OSC_FAULT).flag Reg.PF_STATUS_OSC_FAULT = true := by
    rw [State.flag, State.raise, State.rd_wr_beside _ (by decide)]
    exact State.flag_raise_tile s rfl 0
  refine .next rfl ⟨lost, State.flag_raise_tile _ rfl 0, fun c => ?_, fun f i j other => ?_⟩
  · rw [State.pfRuns, lost, Bool.not_true, Bool.and_false]
  · simp only [List.mem_cons, List.not_mem_nil, or_false, not_or] at other
    obtain ⟨status, irq⟩ := other
    rw [State.raise, State.rd_wr_ne _ irq, State.raise, State.rd_wr_ne _ status]

/-! Enabling -/

/-- A channel whose configuration is in range, as it stands before it starts: a counting one at position 0 (R295). -/
def State.pfLoaded (s : State) (c : Nat) : State :=
  let s := (s.wr Reg.PFC_CTRL_ENABLE 1 c).setPf c fun x => { x with serial := none, indexAt := none }
  if s.pfMode c == 2 then s.wr Reg.PFC_STATUS_UNCERTAIN 0 c else s.loadPos c 0

theorem execPfEnable_of_fit (off : s.pfState c = 0) (fit : s.pfCause c = 0) :
    exec (.pfEnable c true) s = .next (((s.pfLoaded c).pfRun c).answer 0) :=
  (if_neg (by simp [off])).trans <| (if_neg (by simp [off])).trans <| if_neg (by simp [fit])

theorem State.pfLoaded_kept (s : State) (c : Nat) : FeedbackKept
    [Reg.PFC_STATUS_UNCERTAIN, Reg.PFC_POS_LO_POS, Reg.PFC_POS_HI_POS, Reg.PFCMP_STAT_ARMED_BEHIND]
    (s.wr Reg.PFC_CTRL_ENABLE 1 c) (s.pfLoaded c) :=
  have begun := (FeedbackKept.refl _ (s.wr Reg.PFC_CTRL_ENABLE 1 c)).setPf c fun x => { x with serial := none, indexAt := none }
  (begun.wr (by decide) ..).ite (begun.andThen (State.loadPos_kept ..) (by decide))

theorem State.pfLoaded_pfMode (s : State) (c : Nat) : (s.pfLoaded c).pfMode c = s.pfMode c :=
  ((s.pfLoaded_kept c).rd (by decide) (by decide) ..).trans (s.rd_wr_beside (by decide) ..)

theorem State.pfLoaded_pfPos {s : State} {c : Nat} (counting : s.pfMode c ≠ 2) : (s.pfLoaded c).pfPos c = 0 := by
  unfold State.pfLoaded
  extract_lets begun
  have mode : begun.pfMode c ≠ 2 := by rwa [State.pfMode, State.setPf_rd, State.rd_wr_beside _ (by decide)]
  rw [if_neg (by simpa using mode)]
  exact begun.loadPos_pfPos c 0

theorem pfEnable_starts (off : s.pfState c = 0) (fit : s.pfCause c = 0) : Does (.pfEnable c true) s
    [.mem, .poisoned, .outcome, .fresh, .health, .zdp, .pfu, .regs .le, .regs .pf, .regs .cnt, .regs .hl] fun t =>
      t.outcome = 0 ∧ t.pfState c = 1 ∧ t.flag Reg.PFC_CTRL_ENABLE c = true ∧
      (s.pfMode c ≠ 2 → t.flag Reg.PFC_STATUS_UNCERTAIN c = true ∧ t.pfPos c = 0) := by
  have kept := (s.pfLoaded c).pfRun_kept c
  refine .next (execPfEnable_of_fit off fit) ⟨rfl, ?_, ?_, fun counting => ⟨?_, ?_⟩⟩
  · exact (kept.rd (by decide) (by decide) ..).trans (State.rd_wr_self ..)
  · rw [State.flag, State.answer_rd, kept.rd (by decide) (by decide), State.rd_wr_beside _ (by decide),
      (s.pfLoaded_kept c).rd (by decide) (by decide)]
    exact State.flag_raise_tile s rfl c
  · exact State.pfRun_uncertain (by rwa [State.pfLoaded_pfMode])
  · exact (kept.pfPos (by decide) (by decide) c).trans <|
      (((FeedbackKept.refl [Reg.PFC_STATUS_STATE] _).wr (by decide) ..).pfPos (by decide) (by decide) c).trans
        (State.pfLoaded_pfPos counting)

theorem pfEnable_refuses (off : s.pfState c = 0) (unfit : s.pfCause c ≠ 0) : Does (.pfEnable c true) s
    [.mem, .poisoned, .outcome, .fresh, .health, .zdp, .pfu, .regs .le, .regs .pf, .regs .cnt, .regs .hl] fun t =>
      t.outcome = 14 ∧ t.pfState c = 0 ∧ t.flag Reg.PFC_CTRL_ENABLE c = false ∧
      t.rd Reg.PFC_STATUS_CFG_CAUSE c = s.pfCause c % 16 := by
  have e : exec (.pfEnable c true) s = .next (s.pfRefuse c (s.pfCause c)) :=
    (if_neg (by simp [off])).trans <| (if_neg (by simp [off])).trans <| if_pos unfit
  have kept : FeedbackKept [Reg.PF_STATUS_ENABLED] (((s.wr Reg.PFC_STATUS_STATE 0 c).wr Reg.PFC_CTRL_ENABLE 0 c).wr
      Reg.PFC_STATUS_CFG_CAUSE (s.pfCause c) c) (s.pfRefuse c (s.pfCause c)) :=
    (((FeedbackKept.refl _ _).andThen (State.pfViews_kept ..) (by decide)).trans (State.pfCount_kept _)).answer 14
  refine .next e ⟨rfl, ?_, ?_, ?_⟩
  · rw [State.pfState, kept.rd (by decide) (by decide), State.rd_wr_beside _ (by decide), State.rd_wr_beside _ (by decide),
      State.rd_wr_self]
    rfl
  · rw [State.flag, kept.rd (by decide) (by decide), State.rd_wr_beside _ (by decide), State.rd_wr_self]
    rfl
  · exact (kept.rd (by decide) (by decide) ..).trans (State.rd_wr_self ..)

theorem pfEnable_stops (running : s.pfState c = 1) : Does (.pfEnable c false) s
    [.mem, .poisoned, .outcome, .fresh, .health, .zdp, .pfu, .regs .le, .regs .pf, .regs .cnt, .regs .hl] fun t =>
      t.outcome = 0 ∧ t.pfState c = 0 ∧ t.flag Reg.PFC_CTRL_ENABLE c = false ∧ (t.pf c).request = none ∧
      t.pfPos c = s.pfPos c := by
  have still : (s.wr Reg.PFC_CTRL_ENABLE 0 c).pfState c = 1 := by rwa [State.pfState, State.rd_wr_beside _ (by decide)]
  have e : exec (.pfEnable c false) s = .next (((s.wr Reg.PFC_CTRL_ENABLE 0 c).pfHalt c 0).answer 0) :=
    congrArg (fun t : State => Host.Outcome.next (t.answer 0)) (if_pos (by simp [still]))
  refine .next e ⟨rfl, (State.answer_rd ..).trans (State.pfHalt_pfState _ c 0), ?_,
    congrArg PfChan.request (Map.get_put_self ..), ?_⟩
  · rw [State.flag, State.answer_rd, State.pfHalt_rd _ _ _ (by decide) (by decide), State.rd_wr_self]
    rfl
  · have begun : FeedbackKept ([Reg.PFC_CTRL_ENABLE, Reg.PFC_STATUS_STATE] ++ haltFields) s
        ((s.wr Reg.PFC_CTRL_ENABLE 0 c).wr Reg.PFC_STATUS_STATE 0 c) :=
      ((FeedbackKept.refl _ s).wr (by decide) ..).wr (by decide) ..
    exact ((begun.andThen (State.pfHalt_kept ..) (by decide)).answer 0).pfPos (by decide) (by decide) c

/-! Self-test and return -/

theorem pfServiceTest_refuses (emulated : s.rd Reg.PFC_CFG_PT_MODE c = 3) : Does (.pfServiceTest c) s
    [.outcome, .health, .pfu, .regs .le, .regs .pf] fun t => t.outcome = 14 ∧ t.regs = s.regs ∧ t.pfu = s.pfu :=
  .next (if_pos emulated) ⟨rfl, rfl, rfl⟩

theorem pfServiceTest_starts (other : s.rd Reg.PFC_CFG_PT_MODE c ≠ 3) (ready : s.pfState c < 3) :
    Does (.pfServiceTest c) s [.outcome, .health, .pfu, .regs .le, .regs .pf] fun t =>
      t.outcome = 0 ∧ t.pfState c = 3 ∧ t.flag Reg.PFC_STATUS_BIST_PASS c = false := by
  have regs (f : Field) : (s.pfTestStart c).rd f c = ((s.pfHalt c 3).wr Reg.PFC_STATUS_BIST_PASS 0 c).rd f c := by
    rw [State.rd, State.pfTestStart, State.unitTesting_regs]
    rfl
  refine .next ((if_neg other).trans (if_neg (by omega))) ⟨rfl, ?_, ?_⟩
  · rw [State.pfState, State.answer_rd, regs, State.rd_wr_beside _ (by decide)]
    exact s.pfHalt_pfState c 3
  · rw [State.flag, State.answer_rd, regs, State.rd_wr_self]
    rfl

theorem pfSelfTestDone_passes (testing : s.pfState c = 3) : Does (.pfSelfTestDone c true) s
    [.dict, .fresh, .health, .zdp, .ports, .pfu, .regs .le, .regs .pf, .regs .cnt, .regs .hl] fun t =>
      t.pfState c = 2 ∧ t.flag Reg.PFC_STATUS_BIST_PASS c = true :=
  .next (if_neg (by simp [testing]))
    ⟨(State.rd_wr_beside _ (by decide) ..).trans (State.pfHalt_pfState _ c 2), State.flag_raise_tile _ rfl c⟩

theorem pfSelfTestDone_fails (testing : s.pfState c = 3) : Does (.pfSelfTestDone c false) s
    [.dict, .fresh, .health, .zdp, .ports, .pfu, .regs .le, .regs .pf, .regs .cnt, .regs .hl] fun t =>
      t.pfState c = 4 ∧ t.flag Reg.PF_IRQ_RETIRED = true :=
  .next (if_neg (by simp [testing])) (State.pfRetire_retires _ c)

theorem pfServiceReturn_stays (offline : s.pfState c = 2) (off : s.flag Reg.PFC_CTRL_ENABLE c = false) :
    Does (.pfServiceReturn c) s
      [.mem, .poisoned, .outcome, .fresh, .health, .zdp, .pfu, .regs .le, .regs .pf, .regs .cnt, .regs .hl] fun t =>
      t.outcome = 0 ∧ t.pfState c = 0 := by
  have back : FeedbackKept [] s (s.unitReturned (slotAt 8 c)) :=
    (State.unitReturned_leaves (by decide) (.refl _ s) ..).feedbackKept
  have e : s.pfReturn c = ((s.unitReturned (slotAt 8 c)).pfHalt c 0).answer 0 := by
    refine if_pos ?_
    rw [State.flag, back.rd (by decide) (by decide)]
    simpa [State.flag] using off
  exact .next ((if_pos offline).trans (congrArg _ e)) ⟨rfl, (State.answer_rd ..).trans (State.pfHalt_pfState _ c 0)⟩

theorem pfServiceReturn_refuses (here : s.pfState c ≠ 2) : Does (.pfServiceReturn c) s
    [.mem, .poisoned, .outcome, .fresh, .health, .zdp, .pfu, .regs .le, .regs .pf, .regs .cnt, .regs .hl] fun t =>
      t.outcome = 15 ∧ t.regs = s.regs ∧ t.pfu = s.pfu :=
  .next (if_neg here) ⟨rfl, rfl, rfl⟩

/-! The duplicated logic -/

theorem State.pfFault_internal (s : State) (c t : Nat) : bitOf ((s.pfFault c 10 t).rd Reg.PFC_FAULT_FAULT c) 10 = true := by
  obtain ⟨u, -, kept⟩ := s.pfFault_kept c 10 t
  rw [kept.rd (by decide) (by decide), State.setBitIn, State.rd_wr_self, bitOf_eq_testBit, Nat.testBit_mod_two_pow,
    ← bitOf_eq_testBit, bitOf_setBit]
  simp [show Reg.PFC_FAULT_FAULT.w = 11 from rfl]

theorem pfInternal_does (here : s.pfState c ≠ 4) : Does (.pfInternal c) s
    [.mem, .dict, .poisoned, .fresh, .health, .zdp, .ports, .pfu, .regs .le, .regs .pf, .regs .cnt, .regs .hl] fun t =>
      t.pfState c = 4 ∧ bitOf (t.rd Reg.PFC_FAULT_FAULT c) 10 = true ∧ t.flag Reg.PF_IRQ_RETIRED = true := by
  obtain ⟨state, irq⟩ :=
    ((s.pfFault c 10 (s.now 0)).retireUnit (slotAt 8 c) .internal).pfRetire_retires c
  refine .next (if_neg here) ⟨state, ?_, irq⟩
  have retired : FeedbackKept [] (s.pfFault c 10 (s.now 0)) ((s.pfFault c 10 (s.now 0)).retireUnit (slotAt 8 c) .internal) :=
    (State.retireUnit_leaves (by decide) (.refl _ _) ..).feedbackKept
  rw [State.pfRetire, State.raise, State.rd_wr_beside _ (by decide), State.pfHalt_rd _ _ _ (by decide) (by decide),
    retired.rd (by decide) (by decide)]
  exact s.pfFault_internal c _

end Sys2Proof.Machine
end

section
/-! SUPPORT. The channels of the feedback unit as a whole. -/

namespace Sys2Proof.Machine

/-- Settles O17: each command ends in a few writes to its channel, and what follows them (the signal words, the line checks, the
records) lies in registers apart from these. -/
theorem feedbackChannels : Obligations.FeedbackChannels := by
  unfold Obligations.FeedbackChannels
  exact ⟨fun s c => speedUpdate_does, fun s c => execSpeedUpdate_of_stopped,
    fun s c at_ => standstill_does, fun s c => execStandstill_of_none,
    fun s c => emulatedTransition_does, fun s c => execEmulatedTransition_of_other,
    oscFault_does,
    fun s c => pfEnable_starts, fun s c => pfEnable_refuses, fun s c => pfEnable_stops,
    fun s c => pfServiceTest_refuses, fun s c => pfServiceTest_starts,
    fun s c => pfSelfTestDone_passes, fun s c => pfSelfTestDone_fails, fun s c pass idle => if_pos idle,
    fun s c => pfServiceReturn_stays, fun s c => pfServiceReturn_refuses,
    fun s c => pfInternal_does, fun s c retired => if_pos retired⟩

end Sys2Proof.Machine
end

section
/-! SUPPORT. One tick of the time-unit clock (R319): what it adds to each base. -/

namespace Sys2Proof.Machine

theorem signed_ge (w n : Nat) : -(2 ^ (w - 1) : Int) ≤ signed w n := by
  have half : (2 ^ w : Int) ≤ 2 ^ (w - 1) + 2 ^ (w - 1) := by
    cases w with
    | zero => norm_num
    | succ w => rw [pow_succ, Nat.add_sub_cancel]; omega
  have pos : (0 : Int) < 2 ^ (w - 1) := by positivity
  unfold signed
  push_cast
  split
  · omega
  case isFalse high =>
    have high : (2 ^ (w - 1) : Int) ≤ (n % 2 ^ w : Nat) := by exact_mod_cast Nat.le_of_not_lt high
    push_cast at high
    omega

/-- A rate word takes less than the 4 ns of a tick. -/
theorem State.rateOf_ge (s : State) (k n : Nat) : -(2 ^ 31 : Int) ≤ s.rateOf k n := by
  have word (n : Nat) : -(2 ^ 31 : Int) ≤ s.rdS Reg.TB_RATE_RATE n := signed_ge 32 _
  induction k generalizing n with
  | zero => exact word n
  | succ k ih =>
    unfold State.rateOf
    split_ifs
    · decide
    · exact ih _
    · exact word n

/-- Count and fraction together are one 64-bit accumulator in units of 2⁻³² ns (R319). -/
theorem TimeBase.tick_accumulates (b : TimeBase) {r : Int} (small : -(2 ^ 31 : Int) ≤ r) :
    (((b.tick r).count.toNat * 2 ^ 32 + (b.tick r).frac.toNat : Nat) : Int) =
      (b.count.toNat * 2 ^ 32 + b.frac.toNat + 4 * 2 ^ 32 + r) % 2 ^ 64 := by
  simp only [TimeBase.tick, BitVec.toNat_add, BitVec.toNat_ofNat, BitVec.toNat_ofInt]
  omega

theorem State.count_time (s : State) (e : Nat) (i : Option Nat) : (s.count e i).time = s.time :=
  (State.count_leaves (P := 2 ^ 35) (by decide) (.refl _ s) e i 1).time (by decide)

theorem State.tick_base (s : State) (n : Fin 4) : s.tick.base n = (s.base n).tick (s.rateOf 4 n) := by
  have time : s.tick.time.bases =
      ([0, 1, 2, 3] : List Nat).foldl (fun bs n => Map.put bs n ((s.base n).tick (s.rateOf 4 n))) s.time.bases := by
    unfold State.tick
    dsimp only
    split_ifs <;> simp only [State.count_time]
  rw [State.base, time]
  fin_cases n <;> simp [Map.get_put]

/-- Settles O43: with nothing to fetch the step is the tick, and each base adds 4 ns and its rate word. -/
theorem emptyQueueIsOneTick : Obligations.EmptyQueueIsOneTick := by
  intro s none
  refine ⟨s.tick, by rw [step, none], Leaves.keeps (State.tick_leaves (by decide) (.refl _ s)), fun n => ?_⟩
  rw [s.tick_base n]
  exact_mod_cast (s.base n).tick_accumulates (s.rateOf_ge 4 n)

end Sys2Proof.Machine
end

section
/-! SUPPORT. Register fields whose arrays interleave: which elements lie apart, and what an operation leaves of the fields that
lie apart from those it writes. -/

namespace Sys2Proof.Machine

/-! Places of an array -/

theorem Field.key_mod_stride {f : Field} (flat : f.banked = false) (i j : Nat) :
    f.key i j % (f.s1 * 32) = f.key 0 j % (f.s1 * 32) := by
  have key : f.key i j = f.key 0 j + i % f.n1 * (f.s1 * 32) := by
    simp only [Field.key, flat, Bool.false_eq_true, if_false, Nat.zero_mod, Nat.zero_mul, Nat.add_zero]
    ring
  rw [key, Nat.add_mul_mod_self_right]

theorem Field.key_mod_second (f : Field) (i j : Nat) : f.key i (j % f.n2) = f.key i j := by
  rw [Field.key, Field.key, Nat.mod_mod]

/-- The arrays of the two fields have one stride and differ in their places within it. -/
def Field.interleaves (f g : Field) : Bool :=
  !f.banked && !g.banked && f.s1 == g.s1 && decide (0 < f.n2) && decide (0 < g.n2) &&
  (List.range f.n2).all fun j => (List.range g.n2).all fun l => f.key 0 j % (f.s1 * 32) != g.key 0 l % (g.s1 * 32)

/-- No elements of the two fields share a place. -/
def Field.disjoint (f g : Field) : Bool := f.apart g || f.interleaves g

theorem Field.key_ne_of_interleaves {f g : Field} (h : f.interleaves g = true) (i j k l : Nat) : f.key i j ≠ g.key k l := by
  simp only [Field.interleaves, Bool.and_eq_true, Bool.not_eq_true', beq_iff_eq, decide_eq_true_eq, List.all_eq_true,
    List.mem_range, bne_iff_ne] at h
  obtain ⟨⟨⟨⟨⟨flatF, flatG⟩, stride⟩, posF⟩, posG⟩, sites⟩ := h
  intro same
  have site := sites _ (Nat.mod_lt j posF) _ (Nat.mod_lt l posG)
  rw [Field.key_mod_second, Field.key_mod_second, ← Field.key_mod_stride flatF i, ← Field.key_mod_stride flatG k, same,
    stride] at site
  exact site rfl

theorem Field.key_ne_of_disjoint {f g : Field} (h : f.disjoint g = true) (i j k l : Nat) : f.key i j ≠ g.key k l := by
  rcases Bool.or_eq_true_iff.1 h with apart | interleaves
  · exact Field.key_ne_of_apart apart i j k l
  · exact Field.key_ne_of_interleaves interleaves i j k l

theorem State.rd_wr_disjoint (s : State) {f g : Field} (h : g.disjoint f = true) (v i j k l : Nat) :
    (s.wr f v i j).rd g k l = s.rd g k l := s.rd_wr_ne (Field.key_ne_of_disjoint h k l i j) v

/-- The second index of the array counts within the stride of the first, so each element has a place of its own. -/
def Field.spread (f : Field) : Bool :=
  !f.banked && decide (f.lo < 32 ∧ 0 < f.n1 ∧ 0 < f.n2 ∧ (f.n2 - 1) * f.s2 < f.s1 ∧ (f.n2 = 1 ∨ 0 < f.s2))

theorem Field.key_injective {f : Field} (h : f.spread = true) {i j k l : Nat} (hi : i < f.n1) (hj : j < f.n2) (hk : k < f.n1)
    (hl : l < f.n2) (same : f.key i j = f.key k l) : i = k ∧ j = l := by
  simp only [Field.spread, Bool.and_eq_true, Bool.not_eq_true', decide_eq_true_eq] at h
  obtain ⟨flat, -, -, -, inner, step⟩ := h
  simp only [Field.key, flat, Bool.false_eq_true, if_false, Nat.mod_eq_of_lt hi, Nat.mod_eq_of_lt hj, Nat.mod_eq_of_lt hk,
    Nat.mod_eq_of_lt hl] at same
  have small {x : Nat} (hx : x < f.n2) : x * f.s2 < f.s1 :=
    lt_of_le_of_lt (Nat.mul_le_mul_right _ (by omega)) inner
  have sum : j * f.s2 + f.s1 * i = l * f.s2 + f.s1 * k := by rw [Nat.mul_comm f.s1 i, Nat.mul_comm f.s1 k]; omega
  have first : i = k := by
    have := congrArg (· / f.s1) sum
    simpa [Nat.add_mul_div_left _ _ (Nat.zero_lt_of_lt inner), Nat.div_eq_of_lt (small hj), Nat.div_eq_of_lt (small hl)] using this
  subst first
  refine ⟨rfl, ?_⟩
  rcases step with single | pos
  · omega
  · exact Nat.eq_of_mul_eq_mul_right pos (by omega)

theorem State.rd_wr_index (s : State) {f : Field} (h : f.spread = true) {i j k l : Nat} (hi : i < f.n1) (hj : j < f.n2)
    (hk : k < f.n1) (hl : l < f.n2) (ne : k ≠ i ∨ l ≠ j) (v : Nat) : (s.wr f v i j).rd f k l = s.rd f k l := by
  refine s.rd_wr_ne (fun same => ?_) v
  obtain ⟨first, second⟩ := Field.key_injective h hk hl hi hj same
  exact ne.elim (· first) (· second)

theorem State.flag_put_self (s : State) {f : Field} (w : f.w = 1) (b : Bool) (i j : Nat) : (s.put f b i j).flag f i j = b := by
  cases b <;> simp [State.put, State.flag, w, ofBool]

theorem State.flag_raise_self (s : State) {f : Field} (w : f.w = 1) (i j : Nat) : (s.raise f i j).flag f i j = true :=
  s.flag_put_self w true i j

theorem State.incSat_rd_self (s : State) (f : Field) (i j : Nat) :
    (s.incSat f i j).rd f i j = min (2 ^ f.w - 1) (s.rd f i j + 1) := by
  have pos := Nat.two_pow_pos f.w
  rw [State.incSat, State.rd_wr_self, satAdd, Nat.mod_eq_of_lt (by omega)]

/-! What an operation may write -/

/-- The fields in the blocks `P` that lie apart from the fields `fs` read as before. -/
structure FieldsKept (P : Nat) (fs : List Field) (s t : State) : Prop where
  rd : ∀ {g}, covers P g = true → fs.all g.disjoint = true → ∀ k l, t.rd g k l = s.rd g k l

section
variable {P : Nat} {fs : List Field} {s t u : State}

theorem FieldsKept.refl (P : Nat) (fs : List Field) (s : State) : FieldsKept P fs s s := ⟨fun _ _ _ _ => rfl⟩

theorem FieldsKept.trans (h : FieldsKept P fs s t) (k : FieldsKept P fs t u) : FieldsKept P fs s u :=
  ⟨fun block apart i j => (k.rd block apart i j).trans (h.rd block apart i j)⟩

theorem FieldsKept.mono {es : List Field} (h : FieldsKept P es s t) (sub : es ⊆ fs) : FieldsKept P fs s t :=
  ⟨fun block apart => h.rd block (List.all_eq_true.2 fun f mem => List.all_eq_true.1 apart f (sub mem))⟩

theorem FieldsKept.andThen {es : List Field} (h : FieldsKept P fs s t) (k : FieldsKept P es t u) (sub : es ⊆ fs) :
    FieldsKept P fs s u := h.trans (k.mono sub)

theorem FieldsKept.wr (h : FieldsKept P fs s t) {f : Field} (mem : f ∈ fs) (v i j : Nat) : FieldsKept P fs s (t.wr f v i j) :=
  ⟨fun block apart k l => (t.rd_wr_disjoint (List.all_eq_true.1 apart f mem) v i j k l).trans (h.rd block apart k l)⟩

theorem FieldsKept.of_regs (h : FieldsKept P fs s t) (same : u.regs = t.regs) : FieldsKept P fs s u :=
  ⟨fun block apart k l => (congrArg (Map.get _ · _) same).trans (h.rd block apart k l)⟩

theorem FieldsKept.ite {p : Prop} [Decidable p] (h : FieldsKept P fs s t) (k : FieldsKept P fs s u) :
    FieldsKept P fs s (if p then t else u) := by
  split
  · exact h
  · exact k

theorem FieldsKept.foldl {α : Type} {g : State → α → State} (step : ∀ u x, FieldsKept P fs u (g u x)) (l : List α) (s : State) :
    FieldsKept P fs s (l.foldl g s) :=
  List.foldlRecOn l g (.refl P fs s) fun u hu x _ => hu.trans (step u x)

/-- An operation that leaves the blocks `P` keeps their fields. -/
theorem Leaves.fieldsKept {Q : Nat} (h : Leaves Q s t) (beside : Q &&& P = 0) (fs : List Field) : FieldsKept P fs s t := by
  refine ⟨fun {g} block _ k l => h.regs _ ?_ _⟩
  simp only [covers, Bool.and_eq_true] at block
  obtain ⟨fits, block⟩ := block
  have both := congrArg (·.testBit (25 + (blockAt (g.key 0 0)).index)) beside
  rw [Field.block_key g fits]
  simpa [Nat.testBit_and, block] using both

end

/-- What holds after the pass at `x`, and stays through the passes at the others, holds at the end. -/
theorem foldl_holds {α σ : Type} {step : σ → α → σ} {I Q : σ → Prop} {l : List α} {x : α} {s : σ} (mem : x ∈ l) (start : I s)
    (keep : ∀ u y, I u → I (step u y)) (own : ∀ u, I u → Q (step u x))
    (other : ∀ u y, y ∈ l → y ≠ x → Q u → Q (step u y)) : Q (l.foldl step s) := by
  induction l using List.reverseRecOn with
  | nil => cases mem
  | append_singleton l y ih =>
    rw [List.foldl_append, List.foldl_cons, List.foldl_nil]
    have inv : I (l.foldl step s) := List.foldlRecOn l step start fun u hu z _ => keep u z hu
    by_cases same : y = x
    · exact same ▸ own _ inv
    · refine other _ y (by simp) same (ih ?_ fun u z hz => other u z (by simp [hz]))
      simpa [Ne.symm same] using mem

end Sys2Proof.Machine
end

section
/-! SUPPORT. Fields brought back to their reset values: which places a field owns, and what a clear leaves of the others. -/

namespace Sys2Proof.Machine

theorem Field.exists_key_of_owns {f : Field} (h : f.spread = true) {k : Nat} (own : f.owns k = true) :
    ∃ i j, k = f.key i j := by
  simp only [Field.spread, Bool.and_eq_true, Bool.not_eq_true', decide_eq_true_eq] at h
  obtain ⟨flat, -, pos, posN, inner, step⟩ := h
  have stride : f.s1 ≠ 0 := Nat.ne_of_gt (Nat.zero_lt_of_lt inner)
  simp only [Field.owns, flat, Bool.false_eq_true, if_false, beq_iff_eq, stride] at own
  split_ifs at own with bad <;>
    simp only [Bool.or_eq_true, bne_iff_ne, decide_eq_true_eq, not_or, not_not, Nat.not_lt, Bool.and_eq_true, beq_iff_eq] at bad own
  · obtain ⟨first, rest⟩ := own
    refine ⟨(k / 32 - f.base) / f.s1, 0, ?_⟩
    have := Nat.div_add_mod (k / 32 - f.base) f.s1
    simp only [Field.key, flat, Bool.false_eq_true, if_false, Nat.mod_eq_of_lt first, Nat.zero_mod, Nat.zero_mul]
    rw [Nat.mul_comm f.s1] at this
    omega
  · obtain ⟨first, rest, second⟩ := own
    refine ⟨(k / 32 - f.base) / f.s1, (k / 32 - f.base) % f.s1 / f.s2, ?_⟩
    have outer := Nat.div_add_mod (k / 32 - f.base) f.s1
    have within := Nat.div_add_mod ((k / 32 - f.base) % f.s1) f.s2
    simp only [Field.key, flat, Bool.false_eq_true, if_false, Nat.mod_eq_of_lt first, Nat.mod_eq_of_lt second]
    rw [Nat.mul_comm f.s1] at outer
    rw [Nat.mul_comm f.s2] at within
    omega

theorem Field.owns_key {f : Field} (h : f.spread = true) (i j : Nat) : f.owns (f.key i j) = true := by
  simp only [Field.spread, Bool.and_eq_true, Bool.not_eq_true', decide_eq_true_eq] at h
  obtain ⟨flat, lo, pos, posN, inner, step⟩ := h
  have second := Nat.mod_lt j posN
  have stride : f.s1 ≠ 0 := Nat.ne_of_gt (Nat.zero_lt_of_lt inner)
  have small : j % f.n2 * f.s2 < f.s1 := lt_of_le_of_lt (Nat.mul_le_mul_right _ (by omega)) inner
  have address : f.key i j / 32 = f.base + (i % f.n1 * f.s1 + j % f.n2 * f.s2) := by
    simp only [Field.key, flat, Bool.false_eq_true, if_false]; omega
  have bit : f.key i j % 32 = f.lo := by simp only [Field.key]; omega
  have outer : (i % f.n1 * f.s1 + j % f.n2 * f.s2) / f.s1 = i % f.n1 := by
    rw [Nat.add_comm, Nat.add_mul_div_right _ _ (by omega), Nat.div_eq_of_lt small, Nat.zero_add]
  have within : (i % f.n1 * f.s1 + j % f.n2 * f.s2) % f.s1 = j % f.n2 * f.s2 := by
    rw [Nat.add_comm, Nat.add_mul_mod_self_right, Nat.mod_eq_of_lt small]
  have last : (if (f.s2 == 0) = true then j % f.n2 * f.s2 == 0
      else j % f.n2 * f.s2 % f.s2 == 0 && decide (j % f.n2 * f.s2 / f.s2 < f.n2)) = true := by
    by_cases zero : f.s2 = 0
    · simp [zero]
    · simp [zero, Nat.mul_mod_left, Nat.mul_div_cancel _ (Nat.pos_of_ne_zero zero), second]
  simp only [Field.owns, address, bit, flat, bne_self_eq_false, Nat.add_sub_cancel_left, outer, within, beq_iff_eq, stride,
    if_false, Bool.false_eq_true, Bool.false_or, decide_eq_true_eq, Nat.not_lt.2 (Nat.le_add_right _ _), Bool.and_eq_true]
  exact ⟨Nat.mod_lt i pos, by simpa using last⟩

theorem Map.get_filter_out {α : Type} (d : α) (m : Map α) {p : Nat → Bool} {k : Nat} (h : p k = false) :
    Map.get d (m.filter fun x => p x.1) k = d := by
  induction m with
  | nil => rfl
  | cons x m ih =>
    obtain ⟨a, v⟩ := x
    rw [List.filter_cons]
    split
    case isTrue kept =>
      have ne : k ≠ a := by rintro rfl; simp [h] at kept
      rw [Map.get, if_neg ne, ih]
    case isFalse => exact ih

theorem State.resetFields_rd_of_mem (s : State) {fs : List Field} {f : Field} (mem : f ∈ fs) (h : f.spread = true) (i j : Nat) :
    (s.resetFields fs).rd f i j = f.rst := by
  refine Map.get_filter_out f.rst s.regs (p := fun k => !(fs.any fun g => g.owns k)) ?_
  simpa using ⟨f, mem, Field.owns_key h i j⟩

theorem State.resetFields_rd_of_disjoint (s : State) {fs : List Field} (h : fs.all Field.spread = true) {g : Field}
    (apart : fs.all g.disjoint = true) (i j : Nat) : (s.resetFields fs).rd g i j = s.rd g i j := by
  refine Map.get_filter g.rst s.regs (fun k => !(fs.any fun f => f.owns k)) _ ?_
  simp only [Bool.not_eq_true', List.any_eq_false]
  intro f mem own
  obtain ⟨k, l, same⟩ := Field.exists_key_of_owns (List.all_eq_true.1 h f mem) own
  exact Field.key_ne_of_disjoint (List.all_eq_true.1 apart f mem) i j k l same

end Sys2Proof.Machine
end

section
/-! SUPPORT. The counters block (R533 to R540): what a selection, a clear and a snapshot write. -/

namespace Sys2Proof.Machine

theorem bitOf_clearBit_self (n b : Nat) : bitOf (clearBit n b) b = false := by
  unfold clearBit
  split_ifs with set
  · have pos := Nat.two_pow_pos b
    have odd : n / 2 ^ b % 2 = 1 := by simpa [bitOf] using set
    have less : (n - 2 ^ b) / 2 ^ b = n / 2 ^ b - 1 := by simpa using Nat.sub_mul_div n (2 ^ b) 1
    simp only [bitOf, less, beq_eq_false_iff_ne]
    omega
  · simpa using set

theorem State.flag_wr_disjoint (s : State) {f g : Field} (h : g.disjoint f = true) (v i j k l : Nat) :
    (s.wr f v i j).flag g k l = s.flag g k l := congrArg (· != 0) (s.rd_wr_disjoint h v i j k l)

theorem State.flag_put_disjoint (s : State) {f g : Field} (h : g.disjoint f = true) (b : Bool) (i j k l : Nat) :
    (s.put f b i j).flag g k l = s.flag g k l := s.flag_wr_disjoint h ..

/-! Selections -/

/-- A selection clears its counter and the overflow bit, and takes the written fields (R533, R535, R536). -/
theorem State.evConfigure_sets (s : State) (n : Fin 256) (v : Nat) :
    (s.evConfigure n v).rd Reg.CNT_EV_LO_COUNT n = 0 ∧ (s.evConfigure n v).rd Reg.CNT_EV_HI_COUNT n = 0 ∧
    bitOf ((s.evConfigure n v).rd Reg.CNT_OVF_OVF (n.val / 32)) (n.val % 32) = false ∧
    (s.evConfigure n v).rd Reg.CNT_EV_CFG_EVENT n = v % 2 ^ 12 ∧
    (s.evConfigure n v).rd Reg.CNT_EV_CFG_FILTER n = v / 2 ^ 16 % 2 ^ 9 := by
  simp (disch := decide) only [State.evConfigure, State.wr2, State.put, State.clearBitIn, State.rd_wr_disjoint, State.rd_wr_self]
  refine ⟨Nat.zero_mod _, Nat.zero_mod _, ?_, rfl, rfl⟩
  rw [bitOf_eq_testBit, Nat.testBit_mod_two_pow, ← bitOf_eq_testBit, bitOf_clearBit_self, Bool.and_false]

theorem State.evConfigure_flags (s : State) (n : Fin 256) (v : Nat) :
    (s.evConfigure n v).flag Reg.CNT_EV_CFG_EN n = bitOf v 31 ∧
    (s.evConfigure n v).flag Reg.CNT_EV_CFG_CHAIN n = (bitOf v 30 && n.val % 2 == 0) ∧
    (s.evConfigure n v).flag Reg.CNT_EV_CFG_SEL_INVALID n = !eventKnown (v % 2 ^ 12) := by
  simp (disch := decide) only [State.evConfigure, State.flag_put_disjoint, State.flag_wr_disjoint, State.flag_put_self, and_self]

theorem State.evConfigure_others (s : State) {n m : Fin 256} (ne : m ≠ n) (v : Nat) :
    (s.evConfigure n v).rd Reg.CNT_EV_LO_COUNT m = s.rd Reg.CNT_EV_LO_COUNT m ∧
    (s.evConfigure n v).rd Reg.CNT_EV_CFG_EVENT m = s.rd Reg.CNT_EV_CFG_EVENT m := by
  have index (t : State) {f : Field} (h : f.spread = true) (size : f.n1 = 256) (w : Nat) : (t.wr f w n).rd f m = t.rd f m := by
    have pos : 0 < f.n2 := by simp only [Field.spread, Bool.and_eq_true, decide_eq_true_eq] at h; exact h.2.2.2.1
    exact t.rd_wr_index h (by omega) pos (by omega) pos (.inl (Fin.val_ne_of_ne ne)) w
  simp (disch := decide) only [State.evConfigure, State.wr2, State.put, State.clearBitIn, State.rd_wr_disjoint, index, and_self]

theorem cntEvCfgWrite_does (s : State) (n : Fin 256) (v : Word) : Does (.cntEvCfgWrite n v) s [.regs .cnt] fun t =>
    t.rd Reg.CNT_EV_LO_COUNT n = 0 ∧ t.rd Reg.CNT_EV_HI_COUNT n = 0 ∧
    bitOf (t.rd Reg.CNT_OVF_OVF (n / 32 : Nat)) (n % 32) = false ∧ t.rd Reg.CNT_EV_CFG_EVENT n = v.toNat % 2 ^ 12 ∧
    t.rd Reg.CNT_EV_CFG_FILTER n = v.toNat / 2 ^ 16 % 2 ^ 9 ∧ t.flag Reg.CNT_EV_CFG_EN n = bitOf v.toNat 31 ∧
    t.flag Reg.CNT_EV_CFG_CHAIN n = (bitOf v.toNat 30 && n.val % 2 == 0) ∧
    t.flag Reg.CNT_EV_CFG_SEL_INVALID n = !eventKnown (v.toNat % 2 ^ 12) ∧
    (∀ m : Fin 256, m ≠ n → t.rd Reg.CNT_EV_LO_COUNT m = s.rd Reg.CNT_EV_LO_COUNT m ∧
      t.rd Reg.CNT_EV_CFG_EVENT m = s.rd Reg.CNT_EV_CFG_EVENT m) := by
  obtain ⟨lo, hi, ovf, event, filter⟩ := s.evConfigure_sets n v.toNat
  obtain ⟨en, chain, invalid⟩ := s.evConfigure_flags n v.toNat
  exact .next rfl ⟨lo, hi, ovf, event, filter, en, chain, invalid, fun m ne => s.evConfigure_others ne v.toNat⟩

/-- The bins of histogram `h` return to 0, and no others. -/
theorem State.clearBins_rd (s : State) (h g : Fin 16) (i : Fin 32) :
    ((List.range 32).foldl (fun t k => t.wr Reg.CNT_H_BIN_COUNT 0 h k) s).rd Reg.CNT_H_BIN_COUNT g i =
      if g = h then 0 else s.rd Reg.CNT_H_BIN_COUNT g i := by
  split_ifs with same
  · subst same
    refine foldl_holds (I := fun _ => True) (Q := fun t : State => t.rd Reg.CNT_H_BIN_COUNT g i = 0) (List.mem_range.2 i.isLt) trivial
      (fun _ _ _ => trivial) (fun _ _ => (State.rd_wr_self ..).trans (Nat.zero_mod _)) fun t k mem ne zero => ?_
    exact (t.rd_wr_index (by decide) g.isLt (List.mem_range.1 mem) g.isLt i.isLt (.inr ne.symm) 0).trans zero
  · exact List.foldlRecOn (motive := fun t : State => t.rd Reg.CNT_H_BIN_COUNT g i = s.rd Reg.CNT_H_BIN_COUNT g i) _ _ rfl
      fun t kept k mem => (t.rd_wr_index (by decide) h.isLt (List.mem_range.1 mem) g.isLt i.isLt
        (.inl (Fin.val_ne_of_ne same)) 0).trans kept

theorem State.clearBins_kept (s : State) (h : Nat) : FieldsKept (2 ^ 35) [Reg.CNT_H_BIN_COUNT] s
    ((List.range 32).foldl (fun t k => t.wr Reg.CNT_H_BIN_COUNT 0 h k) s) :=
  .foldl (fun u k => (FieldsKept.refl _ _ u).wr (by simp) 0 h k) ..

theorem State.histClear_clears (s : State) (h : Fin 16) :
    (s.histClear h).rd Reg.CNT_H_TOTAL_LO_TOTAL h = 0 ∧ (s.histClear h).rd Reg.CNT_H_MAX_MAX h = 0 ∧
    (s.histClear h).rd Reg.CNT_H_SUM_LO_SUM h = 0 ∧ ∀ (g : Fin 16) (i : Fin 32),
      (s.histClear h).rd Reg.CNT_H_BIN_COUNT g i = if g = h then 0 else s.rd Reg.CNT_H_BIN_COUNT g i := by
  have kept {f : Field} (block : covers (2 ^ 35) f = true) (apart : [Reg.CNT_H_BIN_COUNT].all f.disjoint = true) (t : State) :=
    (t.clearBins_kept h).rd block apart h 0
  simp (disch := decide) only [State.histClear, kept, State.clearBins_rd, State.wr2, State.rd_wr_disjoint, State.rd_wr_self]
  exact ⟨Nat.zero_mod _, Nat.zero_mod _, Nat.zero_mod _, fun _ _ => trivial⟩

theorem cntHCfgWrite_does (s : State) (h : Fin 16) (v : Word) : Does (.cntHCfgWrite h v) s [.regs .cnt] fun t =>
    t.rd Reg.CNT_H_TOTAL_LO_TOTAL h = 0 ∧ t.rd Reg.CNT_H_MAX_MAX h = 0 ∧
    t.rd Reg.CNT_H_SUM_LO_SUM h = 0 ∧ (∀ i : Fin 32, t.rd Reg.CNT_H_BIN_COUNT h i = 0) ∧
    t.rd Reg.CNT_H_CFG_SOURCE h = v.toNat % 2 ^ 4 ∧ t.rd Reg.CNT_H_CFG_FILTER h = v.toNat / 2 ^ 12 % 2 ^ 9 ∧
    t.rd Reg.CNT_H_CFG_SHIFT h = v.toNat / 2 ^ 24 % 2 ^ 5 ∧ t.flag Reg.CNT_H_CFG_EN h = bitOf v.toNat 31 ∧
    ∀ g : Fin 16, g ≠ h → ∀ i : Fin 32, t.rd Reg.CNT_H_BIN_COUNT g i = s.rd Reg.CNT_H_BIN_COUNT g i := by
  obtain ⟨total, most, sum, bins⟩ := s.histClear_clears h
  refine .next (t := s.histConfigure h v.toNat) rfl ?_
  simp (disch := decide) only [State.histConfigure, State.flag_wr_disjoint, State.put,
    State.rd_wr_disjoint, State.rd_wr_self, total, most, sum, bins]
  exact ⟨trivial, trivial, trivial, fun _ => if_pos trivial, rfl, rfl, rfl, State.flag_put_self _ rfl .., fun g ne _ => if_neg ne⟩

/-! CLEAR_ALL -/

theorem clearAll_does (s : State) : Does .clearAll s [.regs .cnt] fun t =>
    (∀ n : Fin 256, t.rd Reg.CNT_EV_LO_COUNT n = 0 ∧ t.rd Reg.CNT_EV_HI_COUNT n = 0 ∧
      t.rd Reg.CNT_EV_CFG_EVENT n = s.rd Reg.CNT_EV_CFG_EVENT n ∧ t.rd Reg.CNT_SEV_LO_COUNT n = s.rd Reg.CNT_SEV_LO_COUNT n) ∧
    (∀ j : Fin 8, t.rd Reg.CNT_OVF_OVF j = 0) ∧ (∀ h : Fin 16, ∀ i : Fin 32, t.rd Reg.CNT_H_BIN_COUNT h i = 0) :=
  .next (t := s.clearCounters) rfl
    ⟨fun _ => ⟨s.resetFields_rd_of_mem (by decide) (by decide) .., s.resetFields_rd_of_mem (by decide) (by decide) ..,
      s.resetFields_rd_of_disjoint (by decide) (by decide) .., s.resetFields_rd_of_disjoint (by decide) (by decide) ..⟩,
    fun _ => s.resetFields_rd_of_mem (by decide) (by decide) ..,
    fun _ _ => s.resetFields_rd_of_mem (by decide) (by decide) ..⟩

/-! Snapshots -/

/-- The copy of every counter into the snapshot bank. -/
def State.countersCopied (s : State) : State :=
  (List.range 256).foldl (fun t n =>
    (t.wr Reg.CNT_SEV_LO_COUNT (t.rd Reg.CNT_EV_LO_COUNT n) n).wr Reg.CNT_SEV_HI_COUNT (t.rd Reg.CNT_EV_HI_COUNT n) n) s

/-- The copy of every overflow register. -/
def State.overflowsCopied (s : State) : State :=
  (List.range 8).foldl (fun t j => t.wr Reg.CNT_SOVF_OVF (t.rd Reg.CNT_OVF_OVF j) j) s

/-- The copy of every histogram but its bins: its selection and its totals. -/
def State.totalsCopied (s : State) : State :=
  ((((((((s.histCopy Reg.CNT_H_CFG_EN Reg.CNT_SH_CFG_EN 1).histCopy Reg.CNT_H_CFG_SHIFT Reg.CNT_SH_CFG_SHIFT 1).histCopy
    Reg.CNT_H_CFG_FILTER Reg.CNT_SH_CFG_FILTER 1).histCopy Reg.CNT_H_CFG_SOURCE Reg.CNT_SH_CFG_SOURCE 1).histCopy
    Reg.CNT_H_TOTAL_LO_TOTAL Reg.CNT_SH_TOTAL_LO_TOTAL 1).histCopy Reg.CNT_H_TOTAL_HI_TOTAL Reg.CNT_SH_TOTAL_HI_TOTAL 1).histCopy
    Reg.CNT_H_MAX_MAX Reg.CNT_SH_MAX_MAX 1).histCopy Reg.CNT_H_SUM_LO_SUM Reg.CNT_SH_SUM_LO_SUM 1).histCopy
    Reg.CNT_H_SUM_HI_SUM Reg.CNT_SH_SUM_HI_SUM 1

/-- The copy of the bins of one histogram. -/
def State.rowCopied (s : State) (h : Nat) : State :=
  (List.range 32).foldl (fun t i => t.wr Reg.CNT_SH_BIN_COUNT (t.rd Reg.CNT_H_BIN_COUNT h i) h i) s

/-- The copy of all bins. -/
def State.binsCopied (s : State) : State := (List.range 16).foldl State.rowCopied s

theorem State.snapCopy_eq (s : State) : s.snapCopy = s.countersCopied.overflowsCopied.totalsCopied.binsCopied := rfl

/-- The selections and totals of the histograms in the snapshot bank. -/
def totalsBank : List Field :=
  [Reg.CNT_SH_CFG_EN, Reg.CNT_SH_CFG_SHIFT, Reg.CNT_SH_CFG_FILTER, Reg.CNT_SH_CFG_SOURCE, Reg.CNT_SH_TOTAL_LO_TOTAL,
   Reg.CNT_SH_TOTAL_HI_TOTAL, Reg.CNT_SH_MAX_MAX, Reg.CNT_SH_SUM_LO_SUM, Reg.CNT_SH_SUM_HI_SUM]

/-- The whole snapshot bank. -/
def snapBank : List Field :=
  [Reg.CNT_SEV_LO_COUNT, Reg.CNT_SEV_HI_COUNT, Reg.CNT_SOVF_OVF, Reg.CNT_SH_BIN_COUNT] ++ totalsBank

theorem State.countersCopied_kept (s : State) :
    FieldsKept (2 ^ 35) [Reg.CNT_SEV_LO_COUNT, Reg.CNT_SEV_HI_COUNT] s s.countersCopied :=
  .foldl (fun u _ => ((FieldsKept.refl _ _ u).wr (by simp) ..).wr (by simp) ..) ..

theorem State.overflowsCopied_kept (s : State) : FieldsKept (2 ^ 35) [Reg.CNT_SOVF_OVF] s s.overflowsCopied :=
  .foldl (fun u _ => (FieldsKept.refl _ _ u).wr (by simp) ..) ..

theorem State.histCopy_kept (s : State) (src dst : Field) (m : Nat) : FieldsKept (2 ^ 35) [dst] s (s.histCopy src dst m) :=
  .foldl (fun u _ => .foldl (fun u _ => (FieldsKept.refl _ _ u).wr (by simp) ..) _ u) ..

theorem FieldsKept.histCopy {fs : List Field} {s t : State} (h : FieldsKept (2 ^ 35) fs s t) (src : Field) {dst : Field}
    (mem : dst ∈ fs) (m : Nat) : FieldsKept (2 ^ 35) fs s (t.histCopy src dst m) :=
  h.andThen (t.histCopy_kept src dst m) (by simpa using mem)

theorem State.totalsCopied_kept (s : State) : FieldsKept (2 ^ 35) totalsBank s s.totalsCopied :=
  ((((((((FieldsKept.refl _ _ s).histCopy _ (by decide) _).histCopy _ (by decide) _).histCopy _ (by decide) _).histCopy _
    (by decide) _).histCopy _ (by decide) _).histCopy _ (by decide) _).histCopy _ (by decide) _).histCopy _ (by decide) _
    |>.histCopy _ (by decide) _

theorem State.rowCopied_kept (s : State) (h : Nat) : FieldsKept (2 ^ 35) [Reg.CNT_SH_BIN_COUNT] s (s.rowCopied h) :=
  .foldl (fun u _ => (FieldsKept.refl _ _ u).wr (by simp) ..) ..

theorem State.binsCopied_kept (s : State) : FieldsKept (2 ^ 35) [Reg.CNT_SH_BIN_COUNT] s s.binsCopied :=
  .foldl State.rowCopied_kept ..

theorem State.countersCopied_rd (s : State) (n : Fin 256) :
    s.countersCopied.rd Reg.CNT_SEV_LO_COUNT n = s.rd Reg.CNT_EV_LO_COUNT n % 2 ^ 32 ∧
    s.countersCopied.rd Reg.CNT_SEV_HI_COUNT n = s.rd Reg.CNT_EV_HI_COUNT n % 2 ^ 16 := by
  refine foldl_holds (x := n.val)
    (I := fun t : State => FieldsKept (2 ^ 35) [Reg.CNT_SEV_LO_COUNT, Reg.CNT_SEV_HI_COUNT] s t)
    (Q := fun t : State => t.rd Reg.CNT_SEV_LO_COUNT n = s.rd Reg.CNT_EV_LO_COUNT n % 2 ^ 32 ∧
      t.rd Reg.CNT_SEV_HI_COUNT n = s.rd Reg.CNT_EV_HI_COUNT n % 2 ^ 16)
    (List.mem_range.2 n.isLt) (.refl _ _ s) (fun _ _ kept => (kept.wr (by simp) ..).wr (by simp) ..) ?_ ?_
  · intro t kept
    have lo := kept.rd (g := Reg.CNT_EV_LO_COUNT) (by decide) (by decide) n 0
    have hi := kept.rd (g := Reg.CNT_EV_HI_COUNT) (by decide) (by decide) n 0
    simp (disch := decide) only [State.rd_wr_disjoint, State.rd_wr_self, lo, hi]
    exact ⟨rfl, rfl⟩
  · intro t k mem ne copied
    have index (u : State) {f : Field} (h : f.spread = true) (size : f.n1 = 256 ∧ 0 < f.n2) (w : Nat) :
        (u.wr f w k).rd f n = u.rd f n := by
      have := List.mem_range.1 mem
      exact u.rd_wr_index h (by omega) size.2 (by omega) size.2 (.inl ne.symm) w
    simpa (disch := decide) only [State.rd_wr_disjoint, index] using copied

theorem State.overflowsCopied_rd (s : State) (j : Fin 8) :
    s.overflowsCopied.rd Reg.CNT_SOVF_OVF j = s.rd Reg.CNT_OVF_OVF j % 2 ^ 32 := by
  refine foldl_holds (x := j.val) (I := fun t : State => FieldsKept (2 ^ 35) [Reg.CNT_SOVF_OVF] s t)
    (Q := fun t : State => t.rd Reg.CNT_SOVF_OVF j = s.rd Reg.CNT_OVF_OVF j % 2 ^ 32)
    (List.mem_range.2 j.isLt) (.refl _ _ s) (fun _ _ kept => kept.wr (by simp) ..) ?_ ?_
  · intro t kept
    rw [State.rd_wr_self, kept.rd (by decide) (by decide)]
    rfl
  · intro t k mem ne copied
    exact (t.rd_wr_index (by decide) (List.mem_range.1 mem) (by decide) j.isLt (by decide) (.inl ne.symm) _).trans copied

theorem State.rowCopied_rd (s : State) (h : Fin 16) (i : Fin 32) :
    (s.rowCopied h).rd Reg.CNT_SH_BIN_COUNT h i = s.rd Reg.CNT_H_BIN_COUNT h i % 2 ^ 32 := by
  refine foldl_holds (x := i.val) (I := fun t : State => FieldsKept (2 ^ 35) [Reg.CNT_SH_BIN_COUNT] s t)
    (Q := fun t : State => t.rd Reg.CNT_SH_BIN_COUNT h i = s.rd Reg.CNT_H_BIN_COUNT h i % 2 ^ 32)
    (List.mem_range.2 i.isLt) (.refl _ _ s) (fun _ _ kept => kept.wr (by simp) ..) ?_ ?_
  · intro t kept
    rw [State.rd_wr_self, kept.rd (by decide) (by decide)]
    rfl
  · intro t k mem ne copied
    exact (t.rd_wr_index (by decide) h.isLt (List.mem_range.1 mem) h.isLt i.isLt (.inr ne.symm) _).trans copied

theorem State.rowCopied_others (s : State) {k : Nat} (lt : k < 16) {h : Fin 16} (ne : k ≠ h) (i : Fin 32) :
    (s.rowCopied k).rd Reg.CNT_SH_BIN_COUNT h i = s.rd Reg.CNT_SH_BIN_COUNT h i := by
  unfold State.rowCopied
  refine List.foldlRecOn (motive := fun t : State => t.rd Reg.CNT_SH_BIN_COUNT h i = s.rd Reg.CNT_SH_BIN_COUNT h i) _ _ rfl ?_
  intro t kept j mem
  exact (t.rd_wr_index (f := Reg.CNT_SH_BIN_COUNT) (by decide) lt (List.mem_range.1 mem) h.isLt i.isLt (.inl ne.symm) _).trans kept

theorem State.binsCopied_rd (s : State) (h : Fin 16) (i : Fin 32) :
    s.binsCopied.rd Reg.CNT_SH_BIN_COUNT h i = s.rd Reg.CNT_H_BIN_COUNT h i % 2 ^ 32 := by
  refine foldl_holds (step := State.rowCopied) (x := h.val) (I := fun t : State => FieldsKept (2 ^ 35) [Reg.CNT_SH_BIN_COUNT] s t)
    (Q := fun t : State => t.rd Reg.CNT_SH_BIN_COUNT h i = s.rd Reg.CNT_H_BIN_COUNT h i % 2 ^ 32)
    (List.mem_range.2 h.isLt) (.refl _ _ s) ?_ ?_ ?_
  · exact fun t k kept => FieldsKept.trans kept (t.rowCopied_kept k)
  · intro t kept
    rw [State.rowCopied_rd, kept.rd (by decide) (by decide)]
  · intro t k mem ne copied
    exact (t.rowCopied_others (List.mem_range.1 mem) ne i).trans copied

theorem State.snapCopy_kept (s : State) : FieldsKept (2 ^ 35) snapBank s s.snapCopy :=
  (((s.countersCopied_kept.mono (by simp)).andThen (State.overflowsCopied_kept _) (by simp)).andThen
    (State.totalsCopied_kept _) (List.subset_append_right ..)).andThen (State.binsCopied_kept _) (by simp)

/-- What a snapshot takes: every live count, overflow bit and bin (R539). -/
structure Snapped (s t : State) : Prop where
  counters : ∀ n : Fin 256, t.rd Reg.CNT_SEV_LO_COUNT n = s.rd Reg.CNT_EV_LO_COUNT n % 2 ^ 32 ∧
    t.rd Reg.CNT_SEV_HI_COUNT n = s.rd Reg.CNT_EV_HI_COUNT n % 2 ^ 16 ∧ t.rd Reg.CNT_EV_LO_COUNT n = s.rd Reg.CNT_EV_LO_COUNT n
  overflows : ∀ j : Fin 8, t.rd Reg.CNT_SOVF_OVF j = s.rd Reg.CNT_OVF_OVF j % 2 ^ 32
  bins : ∀ h : Fin 16, ∀ i : Fin 32, t.rd Reg.CNT_SH_BIN_COUNT h i = s.rd Reg.CNT_H_BIN_COUNT h i % 2 ^ 32

theorem State.snapCopy_snapped (s : State) : Snapped s s.snapCopy := by
  have counters := s.countersCopied_kept
  have overflows := s.countersCopied.overflowsCopied_kept
  have totals := s.countersCopied.overflowsCopied.totalsCopied_kept
  have bins := s.countersCopied.overflowsCopied.totalsCopied.binsCopied_kept
  refine ⟨fun n => ⟨?_, ?_, s.snapCopy_kept.rd (by decide) (by decide) n 0⟩, fun j => ?_, fun h i => ?_⟩
  · rw [s.snapCopy_eq, bins.rd (by decide) (by decide), totals.rd (by decide) (by decide), overflows.rd (by decide) (by decide),
      (s.countersCopied_rd n).1]
  · rw [s.snapCopy_eq, bins.rd (by decide) (by decide), totals.rd (by decide) (by decide), overflows.rd (by decide) (by decide),
      (s.countersCopied_rd n).2]
  · rw [s.snapCopy_eq, bins.rd (by decide) (by decide), totals.rd (by decide) (by decide), State.overflowsCopied_rd,
      counters.rd (by decide) (by decide)]
  · rw [s.snapCopy_eq, State.binsCopied_rd, totals.rd (by decide) (by decide), overflows.rd (by decide) (by decide),
      counters.rd (by decide) (by decide)]

/-- A request while no snapshot is being copied takes one with the time of TB0 (R539). -/
theorem State.snapRequest_takes {s : State} (free : s.flag Reg.CNT_STATUS_SNAP_BUSY = false) :
    Snapped s s.snapRequest ∧ s.snapRequest.flag Reg.CNT_STATUS_SNAP_BUSY = true ∧
    s.snapRequest.rd Reg.CNT_SNAP_NS_NS = (s.base 0).ns % 2 ^ 30 ∧
    s.snapRequest.rd Reg.CNT_SNAP_SEC_LO_SEC = (s.base 0).sec.toNat % 2 ^ 32 := by
  have time : s.snapCopy.base 0 = s.base 0 := by
    rw [State.base, (State.snapCopy_leaves (P := 2 ^ 35) (by decide) (.refl _ s)).time (by decide)]
    rfl
  obtain ⟨counters, overflows, bins⟩ := s.snapCopy_snapped
  rw [State.snapRequest, if_neg (by simp [free])]
  refine ⟨⟨fun n => ?_, fun j => ?_, fun h i => ?_⟩, State.flag_raise_self _ rfl .., ?_, ?_⟩
  all_goals simp (disch := decide) only [State.raise, State.rd_wr_disjoint, State.rd_wr_self, counters, overflows, bins, and_self]
  · rw [time]
    rfl
  · rw [time]
    rfl

theorem State.snapRequest_of_busy {s : State} (busy : s.flag Reg.CNT_STATUS_SNAP_BUSY = true) :
    s.snapRequest = s.raise Reg.CNT_STATUS_SNAP_IGNORED := if_pos busy

/-- ARMED is no part of what a snapshot writes. -/
theorem State.snapRequest_armed (s : State) : s.snapRequest.flag Reg.CNT_STATUS_ARMED = s.flag Reg.CNT_STATUS_ARMED := by
  unfold State.snapRequest
  split
  · exact s.flag_wr_disjoint (by decide) ..
  · simp (disch := decide) only [State.raise, State.flag_wr_disjoint]
    exact congrArg (· != 0) (s.snapCopy_kept.rd (by decide) (by decide) 0 0)

theorem cntSnap_takes {s : State} (free : s.flag Reg.CNT_STATUS_SNAP_BUSY = false) : Does .cntSnap s [.regs .cnt] fun t =>
    t.flag Reg.CNT_STATUS_SNAP_BUSY = true ∧
    (∀ n : Fin 256, t.rd Reg.CNT_SEV_LO_COUNT n = s.rd Reg.CNT_EV_LO_COUNT n % 2 ^ 32 ∧
      t.rd Reg.CNT_SEV_HI_COUNT n = s.rd Reg.CNT_EV_HI_COUNT n % 2 ^ 16 ∧ t.rd Reg.CNT_EV_LO_COUNT n = s.rd Reg.CNT_EV_LO_COUNT n) ∧
    (∀ j : Fin 8, t.rd Reg.CNT_SOVF_OVF j = s.rd Reg.CNT_OVF_OVF j % 2 ^ 32) ∧
    (∀ h : Fin 16, ∀ i : Fin 32, t.rd Reg.CNT_SH_BIN_COUNT h i = s.rd Reg.CNT_H_BIN_COUNT h i % 2 ^ 32) ∧
    t.rd Reg.CNT_SNAP_NS_NS = (s.base 0).ns % 2 ^ 30 ∧ t.rd Reg.CNT_SNAP_SEC_LO_SEC = (s.base 0).sec.toNat % 2 ^ 32 := by
  obtain ⟨snapped, busy, ns, sec⟩ := State.snapRequest_takes free
  exact .next (t := s.snapRequest) rfl ⟨busy, snapped.counters, snapped.overflows, snapped.bins, ns, sec⟩

theorem cntSnap_ignored {s : State} (busy : s.flag Reg.CNT_STATUS_SNAP_BUSY = true) : Does .cntSnap s [.regs .cnt] fun t =>
    t.flag Reg.CNT_STATUS_SNAP_IGNORED = true ∧ RegsBut [Reg.CNT_STATUS_SNAP_IGNORED.key 0 0] s t :=
  .next (congrArg Host.Outcome.next (State.snapRequest_of_busy busy)) ⟨State.flag_raise_self _ rfl .., s.raise_regsBut _ 0 0⟩

theorem snapPeriodic_takes {s : State} (on : s.flag Reg.CNT_PERIOD_SNAP_PERIOD_MS = true)
    (free : s.flag Reg.CNT_STATUS_SNAP_BUSY = false) : Does .snapPeriodic s [.regs .cnt] fun t =>
    t.flag Reg.CNT_STATUS_SNAP_BUSY = true ∧ ∀ n : Fin 256, t.rd Reg.CNT_SEV_LO_COUNT n = s.rd Reg.CNT_EV_LO_COUNT n % 2 ^ 32 := by
  obtain ⟨snapped, busy, -⟩ := State.snapRequest_takes free
  exact .next (congrArg Host.Outcome.next (if_pos on)) ⟨busy, fun n => (snapped.counters n).1⟩

/-! The armed instant (R330, R540) -/

theorem RegsBut.wr {ks : List Nat} {s t : State} (h : RegsBut ks s t) {f : Field} {i j : Nat} (mem : f.key i j ∈ ks) (v : Nat) :
    RegsBut ks s (t.wr f v i j) := fun _ _ _ other =>
  (t.rd_wr_ne (ne_of_mem_of_not_mem mem other).symm v).trans (h _ _ _ other)

theorem RegsBut.refl (ks : List Nat) (s : State) : RegsBut ks s s := fun _ _ _ _ => rfl

theorem State.snapArm_eq (s : State) : s.snapArm =
    if s.snapAt ≤ s.now 0 then (s.raise Reg.CNT_STATUS_ARMED).raise Reg.CNT_STATUS_SNAP_LATE
    else s.raise Reg.CNT_STATUS_ARMED := by
  have instant : (s.raise Reg.CNT_STATUS_ARMED).snapAt = s.snapAt := by
    simp (disch := decide) only [State.snapAt, State.rd2, State.raise, State.rd_wr_disjoint]
  unfold State.snapArm
  dsimp only
  rw [instant]
  rfl

theorem armAt_does (s : State) : Does .armAt s [.regs .cnt] fun t => t.flag Reg.CNT_STATUS_ARMED = true ∧
    t.flag Reg.CNT_STATUS_SNAP_LATE = (decide (s.snapAt ≤ s.now 0) || s.flag Reg.CNT_STATUS_SNAP_LATE) ∧
    RegsBut [Reg.CNT_STATUS_ARMED.key 0 0, Reg.CNT_STATUS_SNAP_LATE.key 0 0] s t := by
  have armed : RegsBut [Reg.CNT_STATUS_ARMED.key 0 0, Reg.CNT_STATUS_SNAP_LATE.key 0 0] s (s.raise Reg.CNT_STATUS_ARMED) :=
    (RegsBut.refl _ s).wr (by simp) 1
  refine .next (congrArg Host.Outcome.next s.snapArm_eq) ?_
  by_cases late : s.snapAt ≤ s.now 0
  · rw [if_pos late, decide_eq_true late, Bool.true_or]
    exact ⟨(State.flag_wr_disjoint _ (by decide) ..).trans (State.flag_raise_self _ rfl ..), State.flag_raise_self _ rfl ..,
      armed.wr (by simp) 1⟩
  · rw [if_neg late, decide_eq_false late, Bool.false_or]
    exact ⟨State.flag_raise_self _ rfl .., s.flag_wr_disjoint (by decide) .., armed⟩

theorem execSnapAtFire_of_fired {s : State} (armed : s.flag Reg.CNT_STATUS_ARMED = true)
    (fired : (s.flag Reg.CNT_STATUS_SNAP_LATE || s.fires 0 s.snapAt) = true) :
    exec .snapAtFire s = .next (s.wr Reg.CNT_STATUS_ARMED 0).snapRequest :=
  (if_neg (by simp [armed])).trans (if_pos fired)

theorem execSnapAtFire_of_skipped {s : State} (armed : s.flag Reg.CNT_STATUS_ARMED = true)
    (held : (s.flag Reg.CNT_STATUS_SNAP_LATE || s.fires 0 s.snapAt) = false)
    (skipped : (s.base 0).skipFrom < s.snapAt ∧ s.snapAt < (s.base 0).skipTo ∧ s.snapAt ≤ s.now 0) :
    exec .snapAtFire s = .next ((s.wr Reg.CNT_STATUS_ARMED 0).raise Reg.CNT_STATUS_SNAP_MISSED) :=
  (if_neg (by simp [armed])).trans ((if_neg (by simp [held])).trans (if_pos skipped))

theorem snapAtFire_fires {s : State} (armed : s.flag Reg.CNT_STATUS_ARMED = true)
    (fired : (s.flag Reg.CNT_STATUS_SNAP_LATE || s.fires 0 s.snapAt) = true) : Does .snapAtFire s [.regs .cnt] fun t =>
    t.flag Reg.CNT_STATUS_ARMED = false ∧ t.flag Reg.CNT_STATUS_SNAP_BUSY = true ∧
    (s.flag Reg.CNT_STATUS_SNAP_BUSY = true → t.flag Reg.CNT_STATUS_SNAP_IGNORED = true) ∧
    (s.flag Reg.CNT_STATUS_SNAP_BUSY = false → t.rd Reg.CNT_SNAP_SEC_LO_SEC = (s.base 0).sec.toNat % 2 ^ 32) := by
  let u := s.wr Reg.CNT_STATUS_ARMED 0
  have same : u.flag Reg.CNT_STATUS_SNAP_BUSY = s.flag Reg.CNT_STATUS_SNAP_BUSY := s.flag_wr_disjoint (by decide) ..
  have disarmed : u.snapRequest.flag Reg.CNT_STATUS_ARMED = false :=
    u.snapRequest_armed.trans (s.flag_put_self (f := Reg.CNT_STATUS_ARMED) rfl false 0 0)
  refine .next (execSnapAtFire_of_fired armed fired) ?_
  cases busy : s.flag Reg.CNT_STATUS_SNAP_BUSY with
  | true =>
    have ignored := State.snapRequest_of_busy (same.trans busy)
    refine ⟨disarmed, ?_, fun _ => ?_, nofun⟩
    · exact ignored ▸ (u.flag_wr_disjoint (by decide) ..).trans (same.trans busy)
    · exact ignored ▸ State.flag_raise_self _ rfl ..
  | false =>
    obtain ⟨-, taken, -, sec⟩ := State.snapRequest_takes (same.trans busy)
    exact ⟨disarmed, taken, nofun, fun _ => sec⟩

theorem snapAtFire_missed {s : State} (armed : s.flag Reg.CNT_STATUS_ARMED = true)
    (held : (s.flag Reg.CNT_STATUS_SNAP_LATE || s.fires 0 s.snapAt) = false)
    (skipped : (s.base 0).skipFrom < s.snapAt ∧ s.snapAt < (s.base 0).skipTo ∧ s.snapAt ≤ s.now 0) :
    Does .snapAtFire s [.regs .cnt] fun t =>
    t.flag Reg.CNT_STATUS_ARMED = false ∧ t.flag Reg.CNT_STATUS_SNAP_MISSED = true ∧
    RegsBut [Reg.CNT_STATUS_ARMED.key 0 0, Reg.CNT_STATUS_SNAP_MISSED.key 0 0] s t :=
  .next (execSnapAtFire_of_skipped armed held skipped)
    ⟨(State.flag_wr_disjoint _ (by decide) ..).trans (s.flag_put_self (f := Reg.CNT_STATUS_ARMED) rfl false 0 0),
    State.flag_raise_self _ rfl .., ((RegsBut.refl _ s).wr (by simp) 0).wr (by simp) 1⟩

theorem snapComplete_does {s : State} (busy : s.flag Reg.CNT_STATUS_SNAP_BUSY = true) : Does .snapComplete s [.regs .cnt] fun t =>
    t.flag Reg.CNT_STATUS_SNAP_BUSY = false ∧ t.flag Reg.CNT_IRQ_SNAP_DONE = true ∧
    t.rd Reg.CNT_STATUS_SNAP_SEQ = (s.rd Reg.CNT_STATUS_SNAP_SEQ + 1) % 2 ^ 16 ∧
    RegsBut [Reg.CNT_STATUS_SNAP_BUSY.key 0 0, Reg.CNT_IRQ_SNAP_DONE.key 0 0, Reg.CNT_STATUS_SNAP_SEQ.key 0 0] s t := by
  refine .next (congrArg Host.Outcome.next (if_pos busy))
    ⟨?_, State.flag_raise_self _ rfl .., ?_, (((RegsBut.refl _ s).wr (by simp) 0).wr (by simp) _).wr (by simp) 1⟩
  · simp (disch := decide) only [State.raise, State.incWrap, State.flag_wr_disjoint]
    exact s.flag_put_self (f := Reg.CNT_STATUS_SNAP_BUSY) rfl false 0 0
  · simp (disch := decide) only [State.raise, State.incWrap, State.rd_wr_disjoint, State.rd_wr_self]
    rfl

/-- Settles O22: a selection and a clear reset what they name, and a snapshot copies through fields that lie apart from the live
counts. -/
theorem counterCommands : Obligations.CounterCommands := by
  unfold Obligations.CounterCommands
  exact ⟨cntEvCfgWrite_does, cntHCfgWrite_does, clearAll_does, fun _ => cntSnap_ignored, fun _ => cntSnap_takes, armAt_does,
    fun s off => if_pos (by simp [off]), fun _ => snapAtFire_fires,
    fun _ armed held above below come => snapAtFire_missed armed held ⟨above, below, come⟩,
    fun s off => congrArg Host.Outcome.next (if_neg (by simp [off])), fun _ => snapPeriodic_takes, fun _ => snapComplete_does,
    fun s free => congrArg Host.Outcome.next (if_neg (by simp [free]))⟩

end Sys2Proof.Machine
end

section
/-! SUPPORT. Memory beside a write, whatever the form of the table: a byte at another address reads as before. -/

namespace Sys2Proof.Machine

theorem Map.get_erase_ne {α : Type} (d : α) (m : Map α) {i j : Nat} (h : j ≠ i) :
    Map.get d (Map.erase m i) j = Map.get d m j := by
  induction m with
  | nil => rfl
  | cons q m ih =>
    obtain ⟨k, w⟩ := q
    rw [Map.erase]
    split_ifs with here
    · rw [Map.get, if_neg (here ▸ h)]
    · rw [Map.get, Map.get, ih]

theorem Memory.get_put_ne (m : List Host.Cell) {a x : Nat} (b : Byte) (h : x ≠ a) :
    Memory.get (Memory.put m a b) x = Memory.get m x := by
  unfold Memory.put
  split_ifs
  · exact Map.get_erase_ne _ m h
  · exact Map.get_put_ne _ m _ _ _ h

theorem Memory.get_putList_outside (m : List Host.Cell) (a : Nat) (bs : List Byte) {x : Nat} (h : x < a ∨ a + bs.length ≤ x) :
    Memory.get (Memory.putList m a bs) x = Memory.get m x := by
  induction bs generalizing m a with
  | nil => rfl
  | cons b bs ih =>
    rw [List.length_cons] at h
    rw [Memory.putList, ih _ (a + 1) (by omega), Memory.get_put_ne m b (by omega)]

theorem MemBut.refl (a n : Nat) (s : State) : MemBut a n s s := fun _ _ => rfl

theorem MemBut.of_mem {a n : Nat} {s t u : State} (h : MemBut a n s t) (same : u.mem = t.mem) : MemBut a n s u :=
  fun x hx => (congrArg (Memory.get · x) same).trans (h x hx)

/-- A write to the Grist store within the range. -/
theorem MemBut.gristPut {a n : Nat} {s t : State} (h : MemBut a n s t) {off : Nat} {bs : List Byte}
    (range : a ≤ gristBase + off ∧ gristBase + off + bs.length ≤ a + n) : MemBut a n s (t.gristPut off bs) := by
  intro x hx
  have short : (bs.take (gristSize - off)).length ≤ bs.length := by rw [List.length_take]; exact Nat.min_le_right ..
  exact (Memory.get_putList_outside _ _ _ (by omega)).trans (h x hx)

@[simp] theorem leBytes_length (n v : Nat) : (leBytes n v).length = n := by
  induction n generalizing v with
  | zero => rfl
  | succ n ih => rw [leBytes, List.length_cons, ih]

@[simp] theorem State.entryHeader_length (s : State) (len flags cls t0 t1 : Nat) :
    (s.entryHeader len flags cls t0 t1).length = 32 := by
  simp only [State.entryHeader, List.length_append, leBytes_length]

end Sys2Proof.Machine
end

section
/-! SUPPORT. Reception at an Ethernet MAC (R341, R397). -/

namespace Sys2Proof.Machine

/-- The bits of the register blocks of the ports. -/
def portBlocks : Nat := 2 ^ 32 + 2 ^ 33 + 2 ^ 34

section
variable {fs : List Field} {s t u : State}

theorem FieldsKept.count (h : FieldsKept portBlocks fs s t) (event : Nat) (inst : Option Nat) (w : Nat := 1) :
    FieldsKept portBlocks fs s (t.count event inst w) :=
  h.trans ((State.count_leaves (P := 2 ^ 35) (by decide) (.refl _ t) event inst w).fieldsKept (by decide) fs)

theorem FieldsKept.flag {P : Nat} (h : FieldsKept P fs s t) {g : Field} (block : covers P g = true)
    (apart : fs.all g.disjoint = true) (k l : Nat) : t.flag g k l = s.flag g k l := congrArg (· != 0) (h.rd block apart k l)

theorem FieldsKept.raise {P : Nat} (h : FieldsKept P fs s t) {f : Field} (mem : f ∈ fs) (i j : Nat) :
    FieldsKept P fs s (t.raise f i j) := h.wr mem 1 i j

end

theorem State.objN_setObjN_self (s : State) (o : ObjDef) (n i k : Nat) : (s.setObjN o n i k).objN o i k = n := by
  rw [State.objN, State.setObjN, State.obj_setObj_self]
  rfl

theorem State.objN_of_dict {s t : State} (h : t.dict = s.dict) (o : ObjDef) (i k : Nat) : t.objN o i k = s.objN o i k :=
  congrArg Val.toNat (State.obj_of_dict h o i k)

/-! The link -/

/-- What a link that comes up shows. -/
def linkFields : List Field := [Reg.EM_STATUS_LINK, Reg.EM_IRQ_LINK]

theorem State.emLink_kept (s : State) (m : Nat) : FieldsKept portBlocks linkFields s (s.emLink m) :=
  .ite (.refl _ _ s) (((FieldsKept.refl _ _ s).raise (by decide) ..).raise (by decide) ..)

theorem State.emLink_up (s : State) (m : Nat) : (s.emLink m).flag Reg.EM_STATUS_LINK m = true := by
  unfold State.emLink
  split_ifs with up
  · exact up
  · exact (State.flag_wr_disjoint _ (by decide) ..).trans (State.flag_raise_self _ rfl ..)

/-! A good frame -/

/-- A good frame counted. -/
def State.emCounted (s : State) (m : Nat) : State :=
  ((s.emLink m).setObjN Obj.EM_RX_FRAMES (((s.emLink m).objN Obj.EM_RX_FRAMES m + 1) % 2 ^ 64) m).count 0x701 (some (m + 1))

theorem State.emCounted_kept (s : State) (m : Nat) : FieldsKept portBlocks linkFields s (s.emCounted m) :=
  .count ((s.emLink_kept m).of_regs (State.setObjN_regs ..)) ..

theorem State.emCounted_leaves (s : State) (m : Nat) : Leaves (2 ^ 35 + 2 ^ 32 + 8) s (s.emCounted m) :=
  State.count_leaves (by decide)
    (State.setObjN_leaves (by decide) (State.emLink_leaves (by decide) (.refl _ s) m) ..) ..

theorem State.emCounted_frames (s : State) (m : Nat) :
    (s.emCounted m).objN Obj.EM_RX_FRAMES m = (s.objN Obj.EM_RX_FRAMES m + 1) % 2 ^ 64 := by
  have link : (s.emLink m).dict = s.dict := (State.emLink_leaves (P := 2 ^ 32) (by decide) (.refl _ s) m).dict (by decide)
  rw [State.emCounted, State.objN_of_dict ((State.count_leaves (P := 2 ^ 35) (by decide) (.refl _ _) _ _ 1).dict (by decide)),
    State.objN_setObjN_self, State.objN_of_dict link]

theorem State.emStore_of_room {s : State} {m : Nat}
    (room : (s.rd Reg.EM_RX_HEAD_HEAD m + 1) % 2 ^ s.rd Reg.EM_RX_CFG_LOG2 m ≠ s.rd Reg.EM_RX_TAIL_TAIL m) (frame : List Byte)
    (ptp : Bool) (ago : Nat) : (s.emStore m frame ptp ago).flag Reg.EM_IRQ_RX m = true ∧
    (s.emStore m frame ptp ago).rd Reg.EM_RX_HEAD_HEAD m =
      (s.rd Reg.EM_RX_HEAD_HEAD m + 1) % 2 ^ s.rd Reg.EM_RX_CFG_LOG2 m % 2 ^ 12 ∧
    (s.emStore m frame ptp ago).dict = s.dict ∧
    MemBut (gristBase + (s.rd Reg.EM_RX_BASE_BASE m * 64 + 2048 * s.rd Reg.EM_RX_HEAD_HEAD m)) (min 2048 (32 + frame.length)) s
      (s.emStore m frame ptp ago) := by
  unfold State.emStore
  rw [if_neg (by simpa using room)]
  refine ⟨State.flag_raise_self _ rfl .., (State.rd_wr_disjoint _ (by decide) ..).trans (State.rd_wr_self ..), rfl, ?_⟩
  refine ((MemBut.refl _ _ s).gristPut ⟨le_rfl, ?_⟩).of_mem rfl
  rw [List.length_take, List.length_append, State.entryHeader_length]

theorem State.emStore_of_full {s : State} {m : Nat}
    (full : (s.rd Reg.EM_RX_HEAD_HEAD m + 1) % 2 ^ s.rd Reg.EM_RX_CFG_LOG2 m = s.rd Reg.EM_RX_TAIL_TAIL m) (frame : List Byte)
    (ptp : Bool) (ago : Nat) : (s.emStore m frame ptp ago).flag Reg.EM_IRQ_RX_LOST m = true ∧
    (s.emStore m frame ptp ago).rd Reg.EM_RX_HEAD_HEAD m = s.rd Reg.EM_RX_HEAD_HEAD m ∧
    (s.emStore m frame ptp ago).mem = s.mem ∧
    (s.emStore m frame ptp ago).rd Reg.EM_RX_LOST_LOST m = min (2 ^ 32 - 1) (s.rd Reg.EM_RX_LOST_LOST m + 1) := by
  unfold State.emStore
  rw [if_pos (by simpa using full)]
  refine ⟨State.flag_raise_self _ rfl .., ?_, rfl, (State.rd_wr_disjoint _ (by decide) ..).trans (State.incSat_rd_self ..)⟩
  exact (State.rd_wr_disjoint _ (by decide) ..).trans (State.rd_wr_disjoint _ (by decide) ..)

/-- The class in force at a port, as the counted state shows it. -/
theorem State.emCounted_classAt (s : State) (m p : Nat) : (s.emCounted m).classAt p = s.classAt p := by
  rw [State.classAt, (s.emCounted_leaves m).zdp (by decide)]
  rfl

theorem State.zdpDrop_counts (s : State) (p : Nat) :
    Map.get 0 (s.zdpDrop p).zdp.dropped p = (Map.get 0 s.zdp.dropped p + 1) % 2 ^ 32 := by
  have counted : Map.get 0 (Map.upd 0 s.zdp.dropped p fun n => (n + 1) % 2 ^ 32) p = (Map.get 0 s.zdp.dropped p + 1) % 2 ^ 32 :=
    Map.get_put_self ..
  unfold State.zdpDrop
  dsimp only
  split_ifs <;> exact counted

theorem State.zdpDrop_of_ethernet (s : State) (m : Fin 8) : s.zdpDrop (m + 1) =
    ((({ s with zdp := { s.zdp with dropped := Map.upd 0 s.zdp.dropped (m + 1) fun n => (n + 1) % 2 ^ 32 } } : State).incSat
      Reg.EM_ZDP_DROP_COUNT m).raise Reg.EM_IRQ_ZDP_DROP m) :=
  if_pos ⟨Nat.le_add_left .., m.isLt⟩

/-! The command -/

/-- The parts that a received frame may change. -/
def emParts : List Part := [.mem, .dict, .poisoned, .zdp, .ports, .claims, .regs .em, .regs .cnt]

section
variable {s : State} {m : Fin 8} {frame : List Byte} {ago : Nat} (running : s.rd Reg.EM_STATUS_STATE m = 1)
include running

theorem execEmFrameReceived_of_plain (plain : udpOf frame = none) : exec (.emFrameReceived m frame true ago) s =
    .next ((s.emCounted m).emStore m frame false ago) := by
  refine (if_neg (by simp [running])).trans ((if_neg (by decide)).trans ?_)
  rw [plain]
  rfl

theorem execEmFrameReceived_of_untaken {u : Udp} (udp : udpOf frame = some u)
    (untaken : udpAccepted u.port (s.classAt (m + 1)) = false) : exec (.emFrameReceived m frame true ago) s =
    .next ((s.emCounted m).zdpDrop (m + 1)) := by
  refine (if_neg (by simp [running])).trans ((if_neg (by decide)).trans ?_)
  rw [udp]
  exact if_pos (by rw [← s.emCounted_classAt m] at untaken; exact congrArg (!·) untaken)

theorem execEmFrameReceived_of_zdp {u : Udp} (udp : udpOf frame = some u)
    (taken : udpAccepted u.port (s.classAt (m + 1)) = true) (zdp : u.port = 47301)
    (sound : (u.whole && u.ipOk && u.sumOk && u.dst == s.rd Reg.EM_IPV4_IP m) = true) :
    exec (.emFrameReceived m frame true ago) s = .next ((s.emCounted m).steer (m + 1) u.body) := by
  refine (if_neg (by simp [running])).trans ((if_neg (by decide)).trans ?_)
  rw [udp]
  rw [← s.emCounted_classAt m] at taken
  rw [← (s.emCounted_kept m).rd (by decide) (by decide) m 0] at sound
  exact (if_neg (by rw [Bool.not_eq_true, Bool.not_eq_false']; exact taken)).trans
    ((if_pos (by simpa using zdp)).trans (if_pos sound))

theorem emFrameReceived_bad : Does (.emFrameReceived m frame false ago) s emParts fun t =>
    t.flag Reg.EM_STATUS_LINK m = true ∧ t.mem = s.mem ∧ t.dict = s.dict ∧ t.ports = s.ports ∧ t.zdp = s.zdp := by
  have link : Leaves (2 ^ 35 + 2 ^ 32) s ((s.emLink m).count 0x704 (some (m + 1))) :=
    State.count_leaves (by decide) (State.emLink_leaves (by decide) (.refl _ s) m) ..
  have up := ((FieldsKept.refl _ [] (s.emLink m)).count 0x704 (some (m + 1))).flag (g := Reg.EM_STATUS_LINK) (by decide) rfl m 0
  exact .next ((if_neg (by simp [running])).trans (if_pos rfl)) ⟨up.trans (s.emLink_up m), link.mem (by decide),
    link.dict (by decide), link.ports (by decide), link.zdp (by decide)⟩

theorem emFrameReceived_stored (plain : udpOf frame = none)
    (room : (s.rd Reg.EM_RX_HEAD_HEAD m + 1) % 2 ^ s.rd Reg.EM_RX_CFG_LOG2 m ≠ s.rd Reg.EM_RX_TAIL_TAIL m) :
    Does (.emFrameReceived m frame true ago) s emParts fun t => t.flag Reg.EM_IRQ_RX m = true ∧
    t.rd Reg.EM_RX_HEAD_HEAD m = (s.rd Reg.EM_RX_HEAD_HEAD m + 1) % 2 ^ s.rd Reg.EM_RX_CFG_LOG2 m % 2 ^ 12 ∧
    t.objN Obj.EM_RX_FRAMES m = (s.objN Obj.EM_RX_FRAMES m + 1) % 2 ^ 64 ∧
    MemBut (gristBase + (s.rd Reg.EM_RX_BASE_BASE m * 64 + 2048 * s.rd Reg.EM_RX_HEAD_HEAD m)) (min 2048 (32 + frame.length)) s t := by
  have kept {g : Field} (block : covers portBlocks g = true) (apart : linkFields.all g.disjoint = true) :
    (s.emCounted m).rd g m = s.rd g m := (s.emCounted_kept m).rd block apart m 0
  have mem := (s.emCounted_leaves m).mem (by decide)
  have stored := State.emStore_of_room (s := s.emCounted m) (m := m)
    (by simpa (disch := decide) only [kept] using room) frame false ago
  simp (disch := decide) only [kept] at stored
  obtain ⟨irq, head, dict, bytes⟩ := stored
  exact .next (execEmFrameReceived_of_plain running plain) ⟨irq, head,
    (State.objN_of_dict dict ..).trans (s.emCounted_frames m), fun x hx => (bytes x hx).trans (congrArg (Memory.get · x) mem)⟩

theorem emFrameReceived_lost (plain : udpOf frame = none)
    (full : (s.rd Reg.EM_RX_HEAD_HEAD m + 1) % 2 ^ s.rd Reg.EM_RX_CFG_LOG2 m = s.rd Reg.EM_RX_TAIL_TAIL m) :
    Does (.emFrameReceived m frame true ago) s emParts fun t => t.flag Reg.EM_IRQ_RX_LOST m = true ∧
    t.rd Reg.EM_RX_HEAD_HEAD m = s.rd Reg.EM_RX_HEAD_HEAD m ∧ t.mem = s.mem ∧
    t.rd Reg.EM_RX_LOST_LOST m = min (2 ^ 32 - 1) (s.rd Reg.EM_RX_LOST_LOST m + 1) := by
  have kept {g : Field} (block : covers portBlocks g = true) (apart : linkFields.all g.disjoint = true) :
    (s.emCounted m).rd g m = s.rd g m := (s.emCounted_kept m).rd block apart m 0
  have lost := State.emStore_of_full (s := s.emCounted m) (m := m)
    (by simpa (disch := decide) only [kept] using full) frame false ago
  simp (disch := decide) only [kept, (s.emCounted_leaves m).mem (by decide)] at lost
  exact .next (execEmFrameReceived_of_plain running plain) lost

theorem emFrameReceived_steered {u : Udp} (udp : udpOf frame = some u)
    (taken : udpAccepted u.port (s.classAt (m + 1)) = true) (zdp : u.port = 47301)
    (sound : (u.whole && u.ipOk && u.sumOk && u.dst == s.rd Reg.EM_IPV4_IP m) = true) :
    Does (.emFrameReceived m frame true ago) s emParts fun t => Map.get none t.ports.message (m + 1) = some u.body ∧
    t.rd Reg.EM_RX_HEAD_HEAD m = s.rd Reg.EM_RX_HEAD_HEAD m ∧ t.mem = s.mem ∧ t.zdp = s.zdp :=
  .next (execEmFrameReceived_of_zdp running udp taken zdp sound) ⟨Map.get_put_self ..,
    (s.emCounted_kept m).rd (by decide) (by decide) m 0, (s.emCounted_leaves m).mem (by decide),
    (s.emCounted_leaves m).zdp (by decide)⟩

theorem emFrameReceived_dropped {u : Udp} (udp : udpOf frame = some u)
    (untaken : udpAccepted u.port (s.classAt (m + 1)) = false) :
    Does (.emFrameReceived m frame true ago) s emParts fun t => t.mem = s.mem ∧ t.ports = s.ports ∧
    t.flag Reg.EM_IRQ_ZDP_DROP m = true ∧
    Map.get 0 t.zdp.dropped (m + 1) = (Map.get 0 s.zdp.dropped (m + 1) + 1) % 2 ^ 32 ∧
    t.rd Reg.EM_ZDP_DROP_COUNT m = min (2 ^ 32 - 1) (s.rd Reg.EM_ZDP_DROP_COUNT m + 1) := by
  have zdp := (s.emCounted_leaves m).zdp (by decide)
  have counted := (s.emCounted_kept m).rd (g := Reg.EM_ZDP_DROP_COUNT) (by decide) (by decide) m 0
  refine .next (execEmFrameReceived_of_untaken running udp untaken) ⟨?_, ?_, ?_, ?_, ?_⟩
  · exact ((State.zdpDrop_leaves (P := 2 ^ 32 + 4096) (by decide) (.refl _ _) _).mem (by decide)).trans
      ((s.emCounted_leaves m).mem (by decide))
  · exact ((State.zdpDrop_leaves (P := 2 ^ 32 + 4096) (by decide) (.refl _ _) _).ports (by decide)).trans
      ((s.emCounted_leaves m).ports (by decide))
  · rw [State.zdpDrop_of_ethernet]
    exact State.flag_raise_self _ rfl ..
  · rw [State.zdpDrop_counts, zdp]
  · rw [State.zdpDrop_of_ethernet, ← counted]
    exact (State.rd_wr_disjoint _ (by decide) ..).trans (State.incSat_rd_self ..)

end

end Sys2Proof.Machine
end

section
/-! SUPPORT. Egress of an Ethernet MAC (R402). -/

namespace Sys2Proof.Machine

/-- The parts that a sent frame may change. -/
def sentParts : List Part := [.mem, .dict, .poisoned, .zdp, .ports, .claims, .gate, .regs .em, .regs .cnt]

/-! The next frame -/

theorem State.txStart_kept (s : State) (m : Nat) : Leaves 110592 s (s.txStart m) :=
  State.txStart_leaves (P := 110592) (by decide) (.refl _ s) m

theorem State.txStart_of_busy {s : State} {m : Nat} {f : TxFrame} (busy : (s.txSt m).busy = some f) : s.txStart m = s :=
  if_pos (by rw [busy]; rfl)

theorem State.txStart_of_stopped {s : State} {m : Nat} (off : s.rd Reg.EM_STATUS_STATE m ≠ 1) : s.txStart m = s :=
  if_pos (by simp [off])

theorem State.txStart_of_none {s : State} {m : Nat} (idle : s.txNext m = none) : s.txStart m = s := by
  unfold State.txStart
  rw [idle]
  exact ite_self s

/-! A frame that has left -/

/-- The ALARM share with a frame of `len` bytes that has left. -/
def State.txShared (s : State) (m len : Nat) (alarm : Bool) : State :=
  let now := s.tb3
  let s := s.setTx m fun t => { t with busy := none, window := (now, len * 8, alarm) :: recent now t.window }
  let p := shareOf (s.txSt m).window
  s.wr Reg.EM_ALARM_SHARE_SHARE (if p.1 == 0 then 0 else min 65535 (p.2 * 65536 / p.1)) m

/-- A frame of `len` bytes that has left, counted. -/
def State.txCounted (s : State) (m len : Nat) : State :=
  (((s.setObjN Obj.EM_TX_FRAMES ((s.objN Obj.EM_TX_FRAMES m + 1) % 2 ^ 64) m).emLink m).count 0x702 (some (m + 1))).count 0x703
    (some (m + 1)) len

/-- The bytes that a sent entry shows: its flags and its stamp. -/
def State.txStamped (s : State) (m q e len : Nat) : State :=
  let off := s.txEntry m q e
  let t := s.stampPair 0 (s.rdS Reg.EM_TS_CORR_TX_EXTRA m)
  let flags := s.gristNat (off + 2) 1
  let head := s.entryHeader len (if bitOf flags 0 then flags else flags + 1) 0 t.1 t.2
  (s.gristPut (off + 2) [BitVec.ofNat 8 (if bitOf flags 0 then flags else flags + 1)]).gristPut (off + 4) ((head.drop 4).take 20)

/-- A sent entry released. -/
def State.txReleased (s : State) (m q e now : Nat) : State :=
  let s := (s.wr Reg.EM_TX_HEAD_HEAD ((e + 1) % 2 ^ s.rd Reg.EM_TX_CFG_LOG2 m q) m q).raise Reg.EM_IRQ_TX_DONE m
  s.latency 7 (some m) (Map.get now (s.txSt m).offered (q * 4096 + e)) now

theorem State.txDone_of_ring (s : State) (m q e : Nat) : s.txDone m (.ring q e) =
    (((s.txShared m (s.txLen m (.ring q e)) (q == 2)).txCounted m (s.txLen m (.ring q e))).txStamped m q e
      (s.txLen m (.ring q e))).txReleased m q e s.tb3 := rfl

theorem State.txDone_of_message (s : State) (m : Nat) {f : TxFrame} (other : ∀ q e, f ≠ .ring q e) :
    ∃ alarm, s.txDone m f = (s.txShared m (s.txLen m f) alarm).txCounted m (s.txLen m f) := by
  cases f with
  | ring q e => exact absurd rfl (other q e)
  | zdp z => exact ⟨_, rfl⟩
  | tap t => exact ⟨false, rfl⟩
  | status g => exact ⟨false, rfl⟩

section
variable (s : State) (m q e len now : Nat) (alarm : Bool)

theorem State.txShared_kept : FieldsKept portBlocks [Reg.EM_ALARM_SHARE_SHARE] s (s.txShared m len alarm) :=
  .wr (.of_regs (u := s.setTx m _) (.refl _ _ s) rfl) (List.mem_singleton.2 rfl) _ m 0

theorem State.txShared_leaves : Leaves (2 ^ 32 + 8192) s (s.txShared m len alarm) :=
  State.wr_leaves (State.setTx_leaves (by decide) (.refl _ s) ..) _ (by decide) ..

theorem State.txCounted_kept : FieldsKept portBlocks linkFields s (s.txCounted m len) :=
  .count (.count (.trans (.of_regs (.refl _ _ s) (State.setObjN_regs ..)) (State.emLink_kept _ m)) ..) _ _ len

theorem State.txCounted_leaves : Leaves (2 ^ 35 + 2 ^ 32 + 8) s (s.txCounted m len) :=
  State.count_leaves (by decide) (State.count_leaves (by decide)
    (State.emLink_leaves (by decide) (State.setObjN_leaves (by decide) (.refl _ s) ..) m) ..) ..

theorem State.txCounted_frames : (s.txCounted m len).objN Obj.EM_TX_FRAMES m = (s.objN Obj.EM_TX_FRAMES m + 1) % 2 ^ 64 := by
  have tail {t : State} : Leaves (2 ^ 35 + 2 ^ 32) t (((t.emLink m).count 0x702 (some (m + 1))).count 0x703 (some (m + 1)) len) :=
    State.count_leaves (by decide) (State.count_leaves (by decide) (State.emLink_leaves (by decide) (.refl _ t) m) ..) ..
  exact (State.objN_of_dict (tail.dict (by decide)) ..).trans (State.objN_setObjN_self ..)

theorem State.txCounted_up : (s.txCounted m len).flag Reg.EM_STATUS_LINK m = true := by
  have counted {t : State} : FieldsKept portBlocks [] t ((t.count 0x702 (some (m + 1))).count 0x703 (some (m + 1)) len) :=
    .count (.count (.refl ..) ..) _ _ len
  exact (counted.flag (by decide) rfl m 0).trans (State.emLink_up _ m)

theorem State.txStamped_leaves : Leaves 36 s (s.txStamped m q e len) :=
  State.gristPut_leaves (by decide) (State.gristPut_leaves (by decide) (.refl _ s) ..) ..

theorem State.txStamped_memBut : MemBut (gristBase + (s.txEntry m q e + 2)) 22 s (s.txStamped m q e len) := by
  refine ((MemBut.refl _ _ s).gristPut ⟨le_rfl, by simp⟩).gristPut ⟨by omega, ?_⟩
  rw [List.length_take, List.length_drop, State.entryHeader_length]
  omega

theorem State.txReleased_rd : (s.txReleased m q e now).flag Reg.EM_IRQ_TX_DONE m = true ∧
    (s.txReleased m q e now).rd Reg.EM_TX_HEAD_HEAD m q = (e + 1) % 2 ^ s.rd Reg.EM_TX_CFG_LOG2 m q % 2 ^ 12 := by
  have noted {t : State} (a b : Nat) : FieldsKept portBlocks [] t (t.latency 7 (some m) a b) :=
    (State.latency_leaves (P := 2 ^ 35) (by decide) (.refl _ t) ..).fieldsKept (by decide) []
  constructor
  · exact ((noted ..).flag (by decide) rfl m 0).trans (State.flag_raise_self _ rfl ..)
  · exact ((noted ..).rd (by decide) rfl m q).trans ((State.rd_wr_disjoint _ (by decide) ..).trans (State.rd_wr_self ..))

theorem State.txReleased_leaves : Leaves (2 ^ 35 + 2 ^ 32) s (s.txReleased m q e now) :=
  State.latency_leaves (by decide) (State.raise_leaves (State.wr_leaves (.refl _ s) _ (by decide) ..) _ (by decide) ..) ..

theorem State.txReleased_kept :
    FieldsKept portBlocks [Reg.EM_TX_HEAD_HEAD, Reg.EM_IRQ_TX_DONE] s (s.txReleased m q e now) :=
  .trans (((FieldsKept.refl _ _ s).wr (by decide) _ m q).raise (by decide) m 0)
    ((State.latency_leaves (P := 2 ^ 35) (by decide) (.refl _ _) ..).fieldsKept (by decide) _)

end

/-- What a frame that has left shows, of whatever kind. -/
theorem State.txDone_shows (s : State) (m : Nat) (f : TxFrame) :
    (s.txDone m f).objN Obj.EM_TX_FRAMES m = (s.objN Obj.EM_TX_FRAMES m + 1) % 2 ^ 64 ∧
    (s.txDone m f).flag Reg.EM_STATUS_LINK m = true := by
  have shared {len : Nat} {alarm : Bool} :=
    State.objN_of_dict ((s.txShared_leaves m len alarm).dict (by decide)) Obj.EM_TX_FRAMES m 0
  by_cases ring : ∃ q e, f = .ring q e
  · obtain ⟨q, e, rfl⟩ := ring
    rw [State.txDone_of_ring]
    have stamped {t : State} := t.txStamped_leaves m q e (s.txLen m (.ring q e))
    have released {t : State} := t.txReleased_leaves m q e s.tb3
    constructor
    · rw [State.objN_of_dict ((released.dict (by decide)).trans (stamped.dict (by decide))), State.txCounted_frames, shared]
    · rw [(State.txReleased_kept ..).flag (by decide) (by decide),
        (stamped.fieldsKept (by decide) []).flag (P := portBlocks) (by decide) rfl]
      exact State.txCounted_up ..
  · obtain ⟨alarm, eq⟩ := s.txDone_of_message m fun q e same => ring ⟨q, e, same⟩
    rw [eq, State.txCounted_frames, shared]
    exact ⟨rfl, State.txCounted_up ..⟩

/-- What an entry that has left shows. -/
theorem State.txDone_ring_shows (s : State) (m q e : Nat) :
    (s.txDone m (.ring q e)).flag Reg.EM_IRQ_TX_DONE m = true ∧
    (s.txDone m (.ring q e)).rd Reg.EM_TX_HEAD_HEAD m q = (e + 1) % 2 ^ s.rd Reg.EM_TX_CFG_LOG2 m q % 2 ^ 12 ∧
    MemBut (gristBase + (s.txEntry m q e + 2)) 22 s (s.txDone m (.ring q e)) := by
  rw [State.txDone_of_ring]
  generalize hlen : s.txLen m (.ring q e) = len
  generalize hu : (s.txShared m len (q == 2)).txCounted m len = u
  have kept : FieldsKept portBlocks (Reg.EM_ALARM_SHARE_SHARE :: linkFields) s u := hu ▸
    ((s.txShared_kept m len (q == 2)).mono (by simp)).andThen (State.txCounted_kept ..) (List.subset_cons_self ..)
  have mem : u.mem = s.mem := hu ▸
    ((State.txCounted_leaves ..).mem (by decide)).trans ((s.txShared_leaves m len (q == 2)).mem (by decide))
  have size : (u.txStamped m q e len).rd Reg.EM_TX_CFG_LOG2 m q = s.rd Reg.EM_TX_CFG_LOG2 m q :=
    (((u.txStamped_leaves m q e len).fieldsKept (P := portBlocks) (by decide) []).rd (by decide) rfl m q).trans
      (kept.rd (by decide) (by decide) m q)
  have entry : u.txEntry m q e = s.txEntry m q e :=
    congrArg (· * 64 + 2048 * e) (kept.rd (g := Reg.EM_TX_BASE_BASE) (by decide) (by decide) m q)
  obtain ⟨done, head⟩ := State.txReleased_rd (u.txStamped m q e len) m q e s.tb3
  have bytes := u.txStamped_memBut m q e len
  rw [entry] at bytes
  rw [size] at head
  refine ⟨done, head, fun x hx => ?_⟩
  rw [(State.txReleased_leaves ..).mem (by decide), bytes x hx, mem]

/-! The command -/

section
variable {s : State} {m : Fin 8}

theorem execEmFrameSent_of_stopped (off : s.rd Reg.EM_STATUS_STATE m ≠ 1) : exec (.emFrameSent m) s = .next s := by
  change execEmFrameSent m s = _
  rw [execEmFrameSent, State.txStart_of_stopped off]
  cases (s.txSt m).busy with
  | none => rfl
  | some f => exact if_pos off

theorem execEmFrameSent_of_idle (free : (s.txSt m).busy = none) (idle : s.txNext m = none) :
    exec (.emFrameSent m) s = .next s := by
  change execEmFrameSent m s = _
  rw [execEmFrameSent, State.txStart_of_none idle, free]

variable (running : s.rd Reg.EM_STATUS_STATE m = 1)
include running

theorem execEmFrameSent_of_busy {f : TxFrame} (busy : (s.txSt m).busy = some f) :
    exec (.emFrameSent m) s = .next ((s.txDone m f).txStart m) := by
  change execEmFrameSent m s = _
  rw [execEmFrameSent, State.txStart_of_busy busy, busy]
  exact if_neg (by simp [running])

theorem emFrameSent_counts {f : TxFrame} (busy : (s.txSt m).busy = some f) : Does (.emFrameSent m) s sentParts fun t =>
    t.objN Obj.EM_TX_FRAMES m = (s.objN Obj.EM_TX_FRAMES m + 1) % 2 ^ 64 ∧ t.flag Reg.EM_STATUS_LINK m = true := by
  obtain ⟨frames, up⟩ := s.txDone_shows m f
  have next := (s.txDone m f).txStart_kept m
  exact .next (execEmFrameSent_of_busy running busy) ⟨(State.objN_of_dict (next.dict (by decide)) ..).trans frames,
    ((next.fieldsKept (P := portBlocks) (by decide) []).flag (by decide) rfl m 0).trans up⟩

theorem emFrameSent_releases {q : Fin 4} {e : Nat} (busy : (s.txSt m).busy = some (.ring q e)) :
    Does (.emFrameSent m) s sentParts fun t => t.flag Reg.EM_IRQ_TX_DONE m = true ∧
    t.rd Reg.EM_TX_HEAD_HEAD m q = (e + 1) % 2 ^ s.rd Reg.EM_TX_CFG_LOG2 m q % 2 ^ 12 ∧
    MemBut (gristBase + (s.txEntry m q e + 2)) 22 s t := by
  obtain ⟨done, head, bytes⟩ := s.txDone_ring_shows m q e
  have next := (s.txDone m (.ring q e)).txStart_kept m
  have kept := next.fieldsKept (P := portBlocks) (by decide) []
  exact .next (execEmFrameSent_of_busy running busy) ⟨(kept.flag (by decide) rfl m 0).trans done,
    (kept.rd (by decide) rfl m q).trans head, bytes.of_mem (next.mem (by decide))⟩

end

end Sys2Proof.Machine
end

section
/-! SUPPORT. A write of a transmit TAIL (R397, R399, R400). -/

namespace Sys2Proof.Machine

/-- The parts that a write of a transmit TAIL may change. -/
def tailParts : List Part := [.zdp, .ports, .claims, .gate, .regs .em, .regs .xl, .regs .su, .regs .cnt]

theorem State.txStart_regs (s : State) (m : Nat) : (s.txStart m).regs = s.regs := by
  unfold State.txStart
  split_ifs
  · rfl
  · cases s.txNext m with
    | none => rfl
    | some f => cases f <;> rfl

theorem RegsBut.of_regs {ks : List Nat} {s t u : State} (h : RegsBut ks s t) (same : u.regs = t.regs) : RegsBut ks s u :=
  fun f i j other => (congrArg (Map.get f.rst · (f.key i j)) same).trans (h f i j other)

/-! The Ethernet MACs -/

/-- The times at which the entries up to the new TAIL were offered. -/
def State.txOffered (s : State) (m q new : Nat) : State :=
  let size := 2 ^ s.rd Reg.EM_TX_CFG_LOG2 m q
  let old := s.rd Reg.EM_TX_TAIL_TAIL m q
  let now := s.tb3
  let fresh := (List.range ((new + size - old) % size)).map fun i => q * 4096 + (old + i) % size
  s.setTx m fun t => { t with offered := fresh.foldl (fun o k => Map.put o k now) t.offered }

section
variable {s : State} {p : PortNo} {q : Fin 4} {v : Word}

theorem execTxTailWrite_of_ethernet (low : 1 ≤ p.val) (high : p.val ≤ 8) : exec (.txTailWrite p q v) s =
    .next (((s.txOffered (p - 1) q (v.toNat % 2 ^ s.rd Reg.EM_TX_CFG_LOG2 (p - 1 : Nat) q)).wr Reg.EM_TX_TAIL_TAIL
      (v.toNat % 2 ^ s.rd Reg.EM_TX_CFG_LOG2 (p - 1 : Nat) q) (p - 1) q).txStart (p - 1)) := if_pos ⟨low, high⟩

theorem txTailWrite_ethernet (low : 1 ≤ p.val) (high : p.val ≤ 8) : Does (.txTailWrite p q v) s tailParts fun t =>
    t.rd Reg.EM_TX_TAIL_TAIL (p - 1 : Nat) q = v.toNat % 2 ^ s.rd Reg.EM_TX_CFG_LOG2 (p - 1 : Nat) q % 2 ^ 12 ∧
    RegsBut [Reg.EM_TX_TAIL_TAIL.key (p - 1 : Nat) q] s t := by
  refine .next (execTxTailWrite_of_ethernet low high) ⟨?_, ?_⟩
  · exact (congrArg (Map.get _ · _) (State.txStart_regs ..)).trans (State.rd_wr_self ..)
  · have offered {new : Nat} : RegsBut [Reg.EM_TX_TAIL_TAIL.key (p - 1 : Nat) q] s (s.txOffered (p - 1) q new) :=
      .of_regs (.refl _ s) rfl
    exact .of_regs (.wr offered (List.mem_singleton.2 rfl) _) (State.txStart_regs ..)

/-! The serial ports -/

theorem execTxTailWrite_of_serial (low : 25 ≤ p.val) (high : p.val ≤ 32) : exec (.txTailWrite p q v) s =
    let t := s.wr Reg.SU_TX_TAIL_TAIL (v.toNat % 2 ^ s.rd Reg.SU_TX_CFG_LOG2 (p - 25 : Nat)) (p - 25)
    if t.rd Reg.SU_STATUS_STATE (p - 25 : Nat) ≠ 1 then .next t
    else .next ((t.wr Reg.SU_TX_HEAD_HEAD (v.toNat % 2 ^ s.rd Reg.SU_TX_CFG_LOG2 (p - 25 : Nat)) (p - 25)).raise
      Reg.SU_IRQ_TX_EMPTY (p - 25)) :=
  (if_neg (by omega)).trans ((if_neg (by omega)).trans (if_pos ⟨low, high⟩))

theorem txTailWrite_serial (low : 25 ≤ p.val) (high : p.val ≤ 32) (running : s.rd Reg.SU_STATUS_STATE (p - 25 : Nat) = 1) :
    Does (.txTailWrite p q v) s tailParts fun t =>
    t.rd Reg.SU_TX_TAIL_TAIL (p - 25 : Nat) = v.toNat % 2 ^ s.rd Reg.SU_TX_CFG_LOG2 (p - 25 : Nat) % 2 ^ 16 ∧
    t.rd Reg.SU_TX_HEAD_HEAD (p - 25 : Nat) = t.rd Reg.SU_TX_TAIL_TAIL (p - 25 : Nat) ∧
    t.flag Reg.SU_IRQ_TX_EMPTY (p - 25 : Nat) = true := by
  refine .next ((execTxTailWrite_of_serial low high).trans (if_neg ?_)) ⟨?_, ?_, State.flag_raise_self _ rfl ..⟩
  · rw [State.rd_wr_disjoint _ (by decide), running]
    decide
  · simp (disch := decide) only [State.raise, State.rd_wr_disjoint, State.rd_wr_self]
    rfl
  · simp (disch := decide) only [State.raise, State.rd_wr_disjoint, State.rd_wr_self]
    rfl

theorem txTailWrite_serial_stopped (low : 25 ≤ p.val) (high : p.val ≤ 32)
    (off : s.rd Reg.SU_STATUS_STATE (p - 25 : Nat) ≠ 1) : Does (.txTailWrite p q v) s tailParts fun t =>
    RegsBut [Reg.SU_TX_TAIL_TAIL.key (p - 25 : Nat) 0] s t ∧
    t.rd Reg.SU_TX_TAIL_TAIL (p - 25 : Nat) = v.toNat % 2 ^ s.rd Reg.SU_TX_CFG_LOG2 (p - 25 : Nat) % 2 ^ 16 := by
  refine .next ((execTxTailWrite_of_serial low high).trans (if_pos ?_))
    ⟨.wr (.refl _ s) (List.mem_singleton.2 rfl) _, State.rd_wr_self ..⟩
  rwa [State.rd_wr_disjoint _ (by decide)]

/-! The peer links -/

/-- The entry at byte `off` of the Grist store, sent at peer-link port `p`. -/
def State.xlSent (s : State) (p off : Nat) : State :=
  let len := s.gristNat off 2
  let alarm := bitOf (s.gristNat (off + 33) 1) 0
  let s := ((s.count 0x702 (some p)).count 0x703 (some p) len).noteLink (p - 33) len alarm
  s.setPorts fun x => { x with xlSeq := Map.upd 0 x.xlSeq (p - 33) fun k => (k + 1) % 2 ^ 32 }

/-- `cnt` entries sent at port `p` from HEAD on, in a ring of `size` entries. -/
def State.xlSentMany (s : State) (p size cnt : Nat) : State :=
  let old := s.rd Reg.XL_TX_HEAD_HEAD (p - 33)
  let base := s.rd Reg.XL_TX_BASE_BASE (p - 33) * 64
  (List.range cnt).foldl (fun u i => u.xlSent p (base + 4160 * ((old + i) % size))) s

/-- The entries of a peer link sent up to the new TAIL, and released. -/
def State.xlSentTo (s : State) (p size new : Nat) : State :=
  let cnt := (new + size - s.rd Reg.XL_TX_HEAD_HEAD (p - 33)) % size
  let s := (s.xlSentMany p size cnt).wr Reg.XL_TX_HEAD_HEAD new (p - 33)
  if cnt == 0 then s else s.raise Reg.XL_IRQ_TX_DONE (p - 33)

theorem State.xlSent_leaves (s : State) (p off : Nat) : Leaves (2 ^ 35 + 8192) s (s.xlSent p off) := by
  unfold State.xlSent
  refine State.setPorts_leaves (by decide) (State.noteLink_leaves (by decide) ?_ ..) _
  exact State.count_leaves (by decide) (State.count_leaves (by decide) (.refl _ s) ..) ..

theorem State.xlSent_kept (s : State) (p off : Nat) : FieldsKept portBlocks [] s (s.xlSent p off) :=
  (s.xlSent_leaves p off).fieldsKept (by decide) []

theorem State.xlSentMany_kept (s : State) (p size cnt : Nat) : FieldsKept portBlocks [] s (s.xlSentMany p size cnt) :=
  .foldl (fun u _ => u.xlSent_kept p _) _ s

theorem State.xlSentTo_rd (s : State) (p size new : Nat) :
    (s.xlSentTo p size new).rd Reg.XL_TX_TAIL_TAIL (p - 33) = s.rd Reg.XL_TX_TAIL_TAIL (p - 33) ∧
    (s.xlSentTo p size new).rd Reg.XL_TX_HEAD_HEAD (p - 33) = new % 2 ^ 10 := by
  have tail {cnt : Nat} := (s.xlSentMany_kept p size cnt).rd (g := Reg.XL_TX_TAIL_TAIL) (by decide) rfl (p - 33) 0
  unfold State.xlSentTo
  dsimp only
  split <;> simp (disch := decide) only [State.raise, State.rd_wr_disjoint, State.rd_wr_self, tail] <;> exact ⟨trivial, rfl⟩

theorem execTxTailWrite_of_link (low : 33 ≤ p.val) (high : p.val ≤ 36) : exec (.txTailWrite p q v) s =
    let size := 2 ^ s.rd Reg.XL_TX_CFG_LOG2 (p - 33 : Nat)
    let t := s.wr Reg.XL_TX_TAIL_TAIL (v.toNat % size) (p - 33)
    if t.rd Reg.XL_STATUS_STATE (p - 33 : Nat) ≠ 1 then .next t else .next (t.xlSentTo p size (v.toNat % size)) :=
  (if_neg (by omega)).trans (if_pos ⟨low, high⟩)

theorem txTailWrite_link (low : 33 ≤ p.val) (high : p.val ≤ 36) (running : s.rd Reg.XL_STATUS_STATE (p - 33 : Nat) = 1) :
    Does (.txTailWrite p q v) s tailParts fun t =>
    t.rd Reg.XL_TX_TAIL_TAIL (p - 33 : Nat) = v.toNat % 2 ^ s.rd Reg.XL_TX_CFG_LOG2 (p - 33 : Nat) % 2 ^ 10 ∧
    t.rd Reg.XL_TX_HEAD_HEAD (p - 33 : Nat) = t.rd Reg.XL_TX_TAIL_TAIL (p - 33 : Nat) := by
  obtain ⟨tail, head⟩ := State.xlSentTo_rd
    (s.wr Reg.XL_TX_TAIL_TAIL (v.toNat % 2 ^ s.rd Reg.XL_TX_CFG_LOG2 (p - 33 : Nat)) (p - 33))
    p (2 ^ s.rd Reg.XL_TX_CFG_LOG2 (p - 33 : Nat)) (v.toNat % 2 ^ s.rd Reg.XL_TX_CFG_LOG2 (p - 33 : Nat))
  rw [State.rd_wr_self] at tail
  refine .next ((execTxTailWrite_of_link low high).trans (if_neg ?_)) ⟨tail, head.trans tail.symm⟩
  rw [State.rd_wr_disjoint _ (by decide), running]
  decide

theorem txTailWrite_link_stopped (low : 33 ≤ p.val) (high : p.val ≤ 36) (off : s.rd Reg.XL_STATUS_STATE (p - 33 : Nat) ≠ 1) :
    Does (.txTailWrite p q v) s tailParts fun t => RegsBut [Reg.XL_TX_TAIL_TAIL.key (p - 33 : Nat) 0] s t ∧
    t.rd Reg.XL_TX_TAIL_TAIL (p - 33 : Nat) = v.toNat % 2 ^ s.rd Reg.XL_TX_CFG_LOG2 (p - 33 : Nat) % 2 ^ 10 := by
  refine .next ((execTxTailWrite_of_link low high).trans (if_pos ?_))
    ⟨.wr (.refl _ s) (List.mem_singleton.2 rfl) _, State.rd_wr_self ..⟩
  rwa [State.rd_wr_disjoint _ (by decide)]

theorem execTxTailWrite_of_other (other : p.val = 0 ∨ (9 ≤ p.val ∧ p.val ≤ 24) ∨ p.val = 37) :
    exec (.txTailWrite p q v) s = .next s :=
  (if_neg (by omega)).trans ((if_neg (by omega)).trans (if_neg (by omega)))

end

end Sys2Proof.Machine
end

section
/-! SUPPORT. Frames and alignment of a peer link (R400). -/

namespace Sys2Proof.Machine

/-- The parts that a received frame of a peer link may change. -/
def linkParts : List Part :=
  [.mem, .dict, .poisoned, .health, .ports, .journal, .claims, .regs .xl, .regs .cnt, .regs .hl, .regs .je]

/-- A good frame of link `l` from node `src`, counted; its member is heard. -/
def State.xlHeard (s : State) (l src : Nat) : State :=
  let s := (s.wr Reg.XL_STATUS_PEER_NODE src l).count 0x701 (some (33 + l))
  match s.linkMember l with
  | some m => s.hear m
  | none => s

theorem State.xlHeard_kept (s : State) (l src : Nat) :
    FieldsKept portBlocks [] (s.wr Reg.XL_STATUS_PEER_NODE src l) (s.xlHeard l src) := by
  have counted := (FieldsKept.refl portBlocks [] (s.wr Reg.XL_STATUS_PEER_NODE src l)).count 0x701 (some (33 + l))
  unfold State.xlHeard
  dsimp only
  split
  · exact counted.trans ((State.hear_leaves (P := 549755871232) (by decide) (.refl _ _) _).fieldsKept (by decide) [])
  · exact counted

theorem State.xlHeard_leaves (s : State) (l src : Nat) : Leaves (549755871232 + 2 ^ 35 + 2 ^ 33) s (s.xlHeard l src) := by
  have counted := State.count_leaves (P := 549755871232 + 2 ^ 35 + 2 ^ 33) (by decide)
    (State.wr_leaves (.refl _ s) Reg.XL_STATUS_PEER_NODE (by decide) src l 0) 0x701 (some (33 + l)) 1
  unfold State.xlHeard
  dsimp only
  split
  · exact State.hear_leaves (by decide) counted _
  · exact counted

theorem State.xlStore_of_room {s : State} {l : Nat}
    (room : (s.rd Reg.XL_RX_HEAD_HEAD l + 1) % 2 ^ s.rd Reg.XL_RX_CFG_LOG2 l ≠ s.rd Reg.XL_RX_TAIL_TAIL l) (frame : List Byte) :
    (s.xlStore l frame).flag Reg.XL_IRQ_RX l = true ∧
    (s.xlStore l frame).rd Reg.XL_RX_HEAD_HEAD l =
      (s.rd Reg.XL_RX_HEAD_HEAD l + 1) % 2 ^ s.rd Reg.XL_RX_CFG_LOG2 l % 2 ^ 10 ∧
    MemBut (gristBase + (s.rd Reg.XL_RX_BASE_BASE l * 64 + 4160 * s.rd Reg.XL_RX_HEAD_HEAD l)) 4160 s (s.xlStore l frame) := by
  unfold State.xlStore
  rw [if_neg (by simpa using room)]
  refine ⟨State.flag_raise_self _ rfl .., (State.rd_wr_disjoint _ (by decide) ..).trans (State.rd_wr_self ..), ?_⟩
  refine ((MemBut.refl _ _ s).gristPut ⟨le_rfl, ?_⟩).of_mem rfl
  rw [List.length_take]
  omega

section
variable {s : State} {link : Fin 4} {f : PeerFrame}

theorem execPeerFrameReceived_of_bad (running : s.rd Reg.XL_STATUS_STATE link = 1)
    (bad : crc32 (peerBytes f) ≠ f.crc.toNat ∨ f.type = 0 ∨ 8 ≤ f.type.toNat) : exec (.peerFrameReceived link f) s =
    .next ((((s.setObjN Obj.XL_CRC_ERRORS ((s.objN Obj.XL_CRC_ERRORS link + 1) % 2 ^ 32) link).incSat Reg.XL_CRC_ERR_COUNT
      link).raise Reg.XL_IRQ_CRC link).count 0x704 (some (33 + link))) := by
  refine (if_neg (by simp [running])).trans (if_pos ?_)
  rcases bad with crc | zero | high
  · simp [crc]
  · simp [zero]
  · simp [high]

theorem execPeerFrameReceived_of_good (running : s.rd Reg.XL_STATUS_STATE link = 1) (good : crc32 (peerBytes f) = f.crc.toNat)
    (low : 1 ≤ f.type.toNat) (high : f.type.toNat ≤ 7) : exec (.peerFrameReceived link f) s =
    if f.type.toNat == 1 then .next (((s.xlHeard link f.src.toNat).steer (33 + link) f.payload).peerAlarm f.payload)
    else if f.type.toNat ≤ 3 then .next (s.xlHeard link f.src.toNat)
    else .next ((s.xlHeard link f.src.toNat).xlStore link (peerBytes f ++ leBytes 4 f.crc.toNat)) := by
  refine (if_neg (by simp [running])).trans ((if_neg ?_).trans rfl)
  rw [Bool.or_eq_true, Bool.or_eq_true, bne_iff_ne, beq_iff_eq, decide_eq_true_eq]
  omega

theorem peerFrameReceived_bad (running : s.rd Reg.XL_STATUS_STATE link = 1)
    (bad : crc32 (peerBytes f) ≠ f.crc.toNat ∨ f.type = 0 ∨ 8 ≤ f.type.toNat) :
    Does (.peerFrameReceived link f) s linkParts fun t => t.flag Reg.XL_IRQ_CRC link = true ∧
    t.rd Reg.XL_CRC_ERR_COUNT link = min (2 ^ 32 - 1) (s.rd Reg.XL_CRC_ERR_COUNT link + 1) ∧
    t.mem = s.mem ∧ t.ports = s.ports ∧ t.claims = s.claims := by
  generalize hu : (s.setObjN Obj.XL_CRC_ERRORS ((s.objN Obj.XL_CRC_ERRORS link + 1) % 2 ^ 32) link) = u
  have rd (g : Field) (k l : Nat) : u.rd g k l = s.rd g k l := hu ▸ congrArg (Map.get _ · _) (State.setObjN_regs ..)
  have noted := State.setObjN_leaves (P := 2 ^ 35 + 2 ^ 33 + 8) (by decide) (.refl _ s) Obj.XL_CRC_ERRORS
    ((s.objN Obj.XL_CRC_ERRORS link + 1) % 2 ^ 32) link 0
  rw [hu] at noted
  have counted := State.count_leaves (by decide) (State.raise_leaves
    (State.incSat_leaves noted Reg.XL_CRC_ERR_COUNT (by decide) link 0 1)
    Reg.XL_IRQ_CRC (by decide) link 0) 0x704 (some (33 + link.val)) 1
  have kept := (FieldsKept.refl portBlocks [] ((u.incSat Reg.XL_CRC_ERR_COUNT link).raise Reg.XL_IRQ_CRC link)).count 0x704
    (some (33 + link.val))
  refine .next ((execPeerFrameReceived_of_bad running bad).trans (by rw [hu]))
    ⟨(kept.flag (by decide) rfl _ 0).trans (State.flag_raise_self _ rfl ..), ?_, counted.mem (by decide),
      counted.ports (by decide), counted.claims (by decide)⟩
  rw [kept.rd (by decide) rfl, State.raise, State.rd_wr_disjoint _ (by decide), State.incSat_rd_self, rd]
  rfl

theorem peerFrameReceived_message (running : s.rd Reg.XL_STATUS_STATE link = 1) (good : crc32 (peerBytes f) = f.crc.toNat)
    (type : f.type = 1) : Does (.peerFrameReceived link f) s linkParts fun t =>
    Map.get none t.ports.message (33 + link.val) = some f.payload ∧
    t.rd Reg.XL_STATUS_PEER_NODE link = f.src.toNat % 2 ^ 14 ∧ t.mem = s.mem := by
  have one : f.type.toNat = 1 := by rw [type]; rfl
  generalize hu : s.xlHeard link f.src.toNat = u
  have node : u.rd Reg.XL_STATUS_PEER_NODE link = f.src.toNat % 2 ^ 14 :=
    hu ▸ ((s.xlHeard_kept ..).rd (by decide) rfl link.val 0).trans (State.rd_wr_self ..)
  have mem : u.mem = s.mem := hu ▸ (s.xlHeard_leaves ..).mem (by decide)
  have copied := State.peerAlarm_leaves (P := 68719478784) (by decide) (.refl _ (u.steer (33 + link) f.payload)) f.payload
  refine .next ((execPeerFrameReceived_of_good running good (by omega) (by omega)).trans
    ((if_pos (by simp [one])).trans (by rw [hu])))
    ⟨?_, ?_, (copied.mem (by decide)).trans mem⟩
  · rw [copied.ports (by decide)]
    exact Map.get_put_self ..
  · exact ((copied.fieldsKept (P := portBlocks) (by decide) []).rd (by decide) rfl link.val 0).trans node

theorem peerFrameReceived_stored (running : s.rd Reg.XL_STATUS_STATE link = 1) (good : crc32 (peerBytes f) = f.crc.toNat)
    (low : 4 ≤ f.type.toNat) (high : f.type.toNat ≤ 7)
    (room : (s.rd Reg.XL_RX_HEAD_HEAD link + 1) % 2 ^ s.rd Reg.XL_RX_CFG_LOG2 link ≠ s.rd Reg.XL_RX_TAIL_TAIL link) :
    Does (.peerFrameReceived link f) s linkParts fun t => t.flag Reg.XL_IRQ_RX link = true ∧
    t.rd Reg.XL_RX_HEAD_HEAD link = (s.rd Reg.XL_RX_HEAD_HEAD link + 1) % 2 ^ s.rd Reg.XL_RX_CFG_LOG2 link % 2 ^ 10 ∧
    MemBut (gristBase + (s.rd Reg.XL_RX_BASE_BASE link * 64 + 4160 * s.rd Reg.XL_RX_HEAD_HEAD link)) 4160 s t := by
  have kept {g : Field} (block : covers portBlocks g = true) (apart : g.disjoint Reg.XL_STATUS_PEER_NODE = true) :
      (s.xlHeard link f.src.toNat).rd g link = s.rd g link :=
    ((s.xlHeard_kept ..).rd block rfl link.val 0).trans (State.rd_wr_disjoint _ apart ..)
  have stored := State.xlStore_of_room (s := s.xlHeard link f.src.toNat) (l := link)
    (by simpa (disch := decide) only [kept] using room) (peerBytes f ++ leBytes 4 f.crc.toNat)
  simp (disch := decide) only [kept] at stored
  obtain ⟨irq, head, bytes⟩ := stored
  refine .next ((execPeerFrameReceived_of_good running good (by omega) high).trans
    ((if_neg (by rw [beq_iff_eq]; omega)).trans (if_neg (by omega)))) ⟨irq, head, fun x hx => ?_⟩
  rw [bytes x hx, (s.xlHeard_leaves ..).mem (by decide)]

end

theorem frameAlignment_notes {s : State} {link : Fin 4} {up : Bool} (change : s.flag Reg.XL_STATUS_LINK link ≠ up) :
    Does (.frameAlignment link up) s [.regs .xl] fun t => t.flag Reg.XL_STATUS_LINK link = up ∧
    t.flag Reg.XL_IRQ_LINK link = true ∧ RegsBut [Reg.XL_STATUS_LINK.key link 0, Reg.XL_IRQ_LINK.key link 0] s t := by
  refine .next (if_neg change) ⟨?_, State.flag_raise_self _ rfl .., .wr (.wr (.refl _ s) (by simp) _) (by simp) _⟩
  exact (State.flag_wr_disjoint _ (by decide) ..).trans (State.flag_put_self _ rfl ..)

end Sys2Proof.Machine
end

section
/-! SUPPORT. Characters of a serial port (R345, R399). -/

namespace Sys2Proof.Machine

/-- The parts that a received character may change. -/
def serialParts : List Part := [.mem, .dict, .poisoned, .zdp, .ports, .regs .em, .regs .su, .regs .cnt]

/-! A character and its errors -/

/-- The line was idle before the character. -/
def State.suIdle (s : State) (u : Nat) : Bool :=
  match Map.get none s.ports.lastChar u with
  | some t => decide (3 * s.charNs u ≤ 2 * (s.tb3 - s.charNs u - t))
  | none => true

/-- A character timed and counted. -/
def State.suArrived (s : State) (u : Nat) : State :=
  let now := s.tb3
  let s := s.setPorts fun x => { x with lastChar := Map.put x.lastChar u (some now) }
  (s.setObjN Obj.SU_BYTES_RX ((s.objN Obj.SU_BYTES_RX u + 1) % 2 ^ 64) u).count 0x705 (some (25 + u))

/-- An error counted where it was seen. -/
def State.suErrIf (s : State) (seen : Bool) (err irq : Field) (k u : Nat) : State :=
  if seen then (s.suErr err k u).raise irq u else s

/-- The errors of a character counted. -/
def State.suChecked (s : State) (u : Nat) (parity framing overrun : Bool) : State :=
  ((s.suErrIf parity Reg.SU_ERRS_PARITY Reg.SU_IRQ_PARITY 1 u).suErrIf framing Reg.SU_ERRS_FRAMING Reg.SU_IRQ_FRAMING 0 u).suErrIf
    overrun Reg.SU_ERRS_OVERRUN Reg.SU_IRQ_OVERRUN 2 u

/-- The fields that the errors of a character change. -/
def checkFields : List Field :=
  [Reg.SU_ERRS_PARITY, Reg.SU_IRQ_PARITY, Reg.SU_ERRS_FRAMING, Reg.SU_IRQ_FRAMING, Reg.SU_ERRS_OVERRUN, Reg.SU_IRQ_OVERRUN]

theorem State.suArrived_kept (s : State) (u : Nat) : FieldsKept portBlocks [] s (s.suArrived u) := by
  unfold State.suArrived
  refine .count (.of_regs ?_ (State.setObjN_regs ..)) ..
  exact .of_regs (.refl _ _ s) rfl

theorem State.suArrived_leaves (s : State) (u : Nat) : Leaves (2 ^ 35 + 8200) s (s.suArrived u) := by
  unfold State.suArrived
  refine State.count_leaves (by decide) (State.setObjN_leaves (by decide) ?_ ..) ..
  exact State.setPorts_leaves (by decide) (.refl _ s) _

theorem State.suArrived_bytes (s : State) (u : Nat) :
    (s.suArrived u).objN Obj.SU_BYTES_RX u = (s.objN Obj.SU_BYTES_RX u + 1) % 2 ^ 64 :=
  (State.objN_of_dict ((State.count_leaves (P := 2 ^ 35) (by decide) (.refl _ _) 0x705 (some (25 + u)) 1).dict
    (by decide)) ..).trans (State.objN_setObjN_self ..)

section
variable {s : State} {seen : Bool} {err irq : Field} {k u : Nat}

theorem State.suErr_regs (s : State) (err : Field) (k u : Nat) : (s.suErr err k u).regs = (s.incSat err u).regs := rfl

theorem State.suErr_rd (s : State) (err : Field) (k u : Nat) (g : Field) (i j : Nat) :
    (s.suErr err k u).rd g i j = (s.incSat err u).rd g i j := rfl

theorem State.suErr_bytes (s : State) (err : Field) (k u : Nat) :
    (s.suErr err k u).objN Obj.SU_BYTES_RX u = s.objN Obj.SU_BYTES_RX u := by
  have ne : Obj.SU_BYTES_RX.key u 0 ≠ Obj.SU_ERRORS.key u 0 := by simp [ObjDef.key, Obj.SU_BYTES_RX, Obj.SU_ERRORS]
  rw [State.objN, State.suErr, State.obj_setObj, if_neg ne]
  rfl

theorem FieldsKept.suErr {P : Nat} {fs : List Field} {t : State} (h : FieldsKept P fs s t) (mem : err ∈ fs) (k u : Nat) :
    FieldsKept P fs s (t.suErr err k u) := (h.wr mem ..).of_regs (t.suErr_regs err k u)

theorem FieldsKept.suErrIf {P : Nat} {fs : List Field} {t : State} (h : FieldsKept P fs s t) (memErr : err ∈ fs)
    (memIrq : irq ∈ fs) (seen : Bool) (k u : Nat) : FieldsKept P fs s (t.suErrIf seen err irq k u) :=
  .ite ((h.suErr memErr k u).raise memIrq u 0) h

theorem State.suErrIf_rd (apart : err.disjoint irq = true) (seen : Bool) (k u : Nat) : (s.suErrIf seen err irq k u).rd err u =
    if seen then min (2 ^ err.w - 1) (s.rd err u + 1) else s.rd err u := by
  cases seen with
  | false => rfl
  | true => exact (State.rd_wr_disjoint _ apart ..).trans (State.incSat_rd_self ..)

theorem State.suErrIf_bytes (s : State) (seen : Bool) (err irq : Field) (k u : Nat) :
    (s.suErrIf seen err irq k u).objN Obj.SU_BYTES_RX u = s.objN Obj.SU_BYTES_RX u := by
  cases seen with
  | false => rfl
  | true => exact s.suErr_bytes err k u

theorem State.suErrIf_mem (s : State) (seen : Bool) (err irq : Field) (k u : Nat) : (s.suErrIf seen err irq k u).mem = s.mem := by
  cases seen <;> rfl

end

section
variable (s : State) (u : Nat) (parity framing overrun : Bool)

theorem State.suChecked_kept : FieldsKept portBlocks checkFields s (s.suChecked u parity framing overrun) :=
  (((FieldsKept.refl _ _ s).suErrIf (by decide) (by decide) ..).suErrIf (by decide) (by decide) ..).suErrIf
    (by decide) (by decide) ..

theorem State.suChecked_mem : (s.suChecked u parity framing overrun).mem = s.mem := by
  simp only [State.suChecked, State.suErrIf_mem]

theorem State.suChecked_bytes : (s.suChecked u parity framing overrun).objN Obj.SU_BYTES_RX u = s.objN Obj.SU_BYTES_RX u := by
  simp only [State.suChecked, State.suErrIf_bytes]

/-- Each kind of error is counted in its own field. -/
theorem State.suChecked_errors :
    (s.suChecked u parity framing overrun).rd Reg.SU_ERRS_PARITY u =
      (if parity then min 255 (s.rd Reg.SU_ERRS_PARITY u + 1) else s.rd Reg.SU_ERRS_PARITY u) ∧
    (s.suChecked u parity framing overrun).rd Reg.SU_ERRS_FRAMING u =
      (if framing then min 255 (s.rd Reg.SU_ERRS_FRAMING u + 1) else s.rd Reg.SU_ERRS_FRAMING u) ∧
    (s.suChecked u parity framing overrun).rd Reg.SU_ERRS_OVERRUN u =
      (if overrun then min 255 (s.rd Reg.SU_ERRS_OVERRUN u + 1) else s.rd Reg.SU_ERRS_OVERRUN u) := by
  have beside {t : State} (err irq g : Field) (block : covers portBlocks g = true) (apart : [err, irq].all g.disjoint = true)
      (seen : Bool) (k : Nat) : (t.suErrIf seen err irq k u).rd g u = t.rd g u :=
    ((FieldsKept.refl portBlocks [err, irq] t).suErrIf (by simp) (by simp) seen k u).rd block apart u 0
  refine ⟨?_, ?_, ?_⟩
  · rw [State.suChecked, beside _ _ _ (by decide) (by decide), beside _ _ _ (by decide) (by decide), State.suErrIf_rd (by decide)]
    rfl
  · rw [State.suChecked, beside _ _ _ (by decide) (by decide), State.suErrIf_rd (by decide), beside _ _ _ (by decide) (by decide)]
    rfl
  · rw [State.suChecked, State.suErrIf_rd (by decide), beside _ _ _ (by decide) (by decide), beside _ _ _ (by decide) (by decide)]
    rfl

end

/-! The stamp and the byte -/

/-- The stamp before a character in a mode other than ZDP, where it has one. -/
def State.suMarked (s : State) (u : Nat) (c : Byte) (idle : Bool) (ch : Nat) : State :=
  if s.rd Reg.SU_CTRL_MODE u == 0 && (c == 0x24 || c == 0x21) then s.suStamp u (if c == 0x24 then 1 else 2) ch
  else if idle then s.suStamp u 0 ch else s

/-- The fields that a stamp changes. -/
def markFields : List Field := [Reg.SU_TS_HEAD_HEAD, Reg.SU_IRQ_STAMP]

/-- The fields that a stored byte changes. -/
def byteFields : List Field := [Reg.SU_RX_HEAD_HEAD, Reg.SU_IRQ_RX, Reg.SU_ERRS_LOST]

section
variable (s : State) (u kind ago : Nat) (c : Byte) (idle : Bool)

theorem State.gristPut_regs (off : Nat) (bs : List Byte) : (s.gristPut off bs).regs = s.regs := rfl

theorem State.suStamp_kept : FieldsKept portBlocks markFields s (s.suStamp u kind ago) :=
  (FieldsKept.wr (.of_regs (.refl _ _ s) (State.gristPut_regs ..)) (by decide) _ u 0).raise (by decide) u 0

theorem State.suStamp_rd : (s.suStamp u kind ago).flag Reg.SU_IRQ_STAMP u = true ∧
    (s.suStamp u kind ago).rd Reg.SU_TS_HEAD_HEAD u = (s.rd Reg.SU_TS_HEAD_HEAD u + 1) % 2 ^ 8 :=
  ⟨State.flag_raise_self _ rfl .., (State.rd_wr_disjoint _ (by decide) ..).trans (State.rd_wr_self ..)⟩

theorem State.suStamp_memBut :
    MemBut (gristBase + (s.rd Reg.SU_TS_BASE_BASE u * 64 + 16 * s.rd Reg.SU_TS_HEAD_HEAD u)) 16 s (s.suStamp u kind ago) := by
  refine ((MemBut.refl _ _ s).gristPut ⟨le_rfl, ?_⟩).of_mem rfl
  simp

theorem State.suMarked_kept : FieldsKept portBlocks markFields s (s.suMarked u c idle ago) :=
  .ite (State.suStamp_kept ..) (.ite (State.suStamp_kept ..) (.refl _ _ s))

theorem State.suMarked_leaves : Leaves 51539607588 s (s.suMarked u c idle ago) := by
  have stamped (kind : Nat) := State.suStamp_leaves (P := 51539607588) (by decide) (.refl _ s) u kind ago
  unfold State.suMarked
  split_ifs
  · exact stamped 1
  · exact stamped 2
  · exact stamped 0
  · exact .refl _ s

theorem State.suMarked_memBut :
    MemBut (gristBase + (s.rd Reg.SU_TS_BASE_BASE u * 64 + 16 * s.rd Reg.SU_TS_HEAD_HEAD u)) 16 s (s.suMarked u c idle ago) := by
  unfold State.suMarked
  split_ifs
  · exact s.suStamp_memBut u 1 ago
  · exact s.suStamp_memBut u 2 ago
  · exact s.suStamp_memBut u 0 ago
  · exact .refl _ _ s

theorem State.suByte_of_room {s : State} {u : Nat}
    (room : (s.rd Reg.SU_RX_HEAD_HEAD u + 1) % 2 ^ s.rd Reg.SU_RX_CFG_LOG2 u ≠ s.rd Reg.SU_RX_TAIL_TAIL u) (c : Byte) :
    (s.suByte u c).flag Reg.SU_IRQ_RX u = true ∧
    (s.suByte u c).rd Reg.SU_RX_HEAD_HEAD u = (s.rd Reg.SU_RX_HEAD_HEAD u + 1) % 2 ^ s.rd Reg.SU_RX_CFG_LOG2 u % 2 ^ 16 ∧
    MemBut (gristBase + (s.rd Reg.SU_RX_BASE_BASE u * 64 + s.rd Reg.SU_RX_HEAD_HEAD u)) 1 s (s.suByte u c) := by
  unfold State.suByte
  rw [if_neg (by simpa using room)]
  refine ⟨State.flag_raise_self _ rfl .., (State.rd_wr_disjoint _ (by decide) ..).trans (State.rd_wr_self ..), ?_⟩
  exact ((MemBut.refl _ _ s).gristPut ⟨le_rfl, by simp⟩).of_mem rfl

theorem State.suByte_of_full {s : State} {u : Nat}
    (full : (s.rd Reg.SU_RX_HEAD_HEAD u + 1) % 2 ^ s.rd Reg.SU_RX_CFG_LOG2 u = s.rd Reg.SU_RX_TAIL_TAIL u) (c : Byte) :
    s.suByte u c = s.suErr Reg.SU_ERRS_LOST 3 u := if_pos (by simpa using full)

theorem State.suByte_kept : FieldsKept portBlocks byteFields s (s.suByte u c) :=
  .ite ((FieldsKept.refl _ _ s).suErr (by decide) 3 u)
    ((FieldsKept.wr (.of_regs (.refl _ _ s) (State.gristPut_regs ..)) (by decide) _ u 0).raise (by decide) u 0)

theorem State.suByte_bytes : (s.suByte u c).objN Obj.SU_BYTES_RX u = s.objN Obj.SU_BYTES_RX u := by
  unfold State.suByte
  dsimp only
  split
  · exact s.suErr_bytes _ 3 u
  · rfl

end

/-! The command -/

/-- A character counted with its errors. -/
def State.suSeen (s : State) (u : Nat) (parity framing overrun : Bool) : State :=
  (s.suArrived u).suChecked u parity framing overrun

/-- A character counted and stamped, which is then stored. -/
def State.suReady (s : State) (u : Nat) (c : Byte) (parity framing overrun : Bool) : State :=
  (s.suSeen u parity framing overrun).suMarked u c (s.suIdle u) (s.charNs u)

section
variable {s : State} {u : Fin 8} {c : Byte} {parity framing overrun : Bool}

theorem State.suSeen_rd {g : Field} (block : covers portBlocks g = true) (apart : checkFields.all g.disjoint = true) :
    (s.suSeen u parity framing overrun).rd g u = s.rd g u :=
  ((State.suChecked_kept ..).rd block apart u.val 0).trans ((s.suArrived_kept u).rd block rfl u.val 0)

theorem State.suSeen_mem (s : State) (u : Nat) (parity framing overrun : Bool) : (s.suSeen u parity framing overrun).mem = s.mem :=
  (State.suChecked_mem ..).trans ((s.suArrived_leaves u).mem (by decide))

theorem execSuCharacter_of_running (running : s.rd Reg.SU_STATUS_STATE u = 1) : exec (.suCharacter u c parity framing overrun) s =
    let t := s.suSeen u parity framing overrun
    if t.rd Reg.SU_CTRL_MODE u == 2 then .next (t.suZdp u c)
    else .next ((s.suReady u c parity framing overrun).suByte u c) :=
  if_neg (by simp [running])

theorem execSuCharacter_of_zdp (running : s.rd Reg.SU_STATUS_STATE u = 1) (mode : s.rd Reg.SU_CTRL_MODE u = 2) :
    exec (.suCharacter u c parity framing overrun) s = .next ((s.suSeen u parity framing overrun).suZdp u c) :=
  (execSuCharacter_of_running running).trans
    (if_pos (by rw [State.suSeen_rd (by decide) (by decide), mode]; rfl))

theorem execSuCharacter_of_other (running : s.rd Reg.SU_STATUS_STATE u = 1) (mode : s.rd Reg.SU_CTRL_MODE u ≠ 2) :
    exec (.suCharacter u c parity framing overrun) s =
    .next ((s.suReady u c parity framing overrun).suByte u c) :=
  (execSuCharacter_of_running running).trans
    (if_neg (by rw [State.suSeen_rd (by decide) (by decide), beq_iff_eq]; exact mode))

/-- What a character shows of itself and its errors, where the state after it still has them. -/
theorem State.suSeen_counts {t : State}
    (bytes : t.objN Obj.SU_BYTES_RX u = (s.suSeen u parity framing overrun).objN Obj.SU_BYTES_RX u)
    (kept : ∀ g ∈ [Reg.SU_ERRS_PARITY, Reg.SU_ERRS_FRAMING, Reg.SU_ERRS_OVERRUN],
      t.rd g u = (s.suSeen u parity framing overrun).rd g u) :
    t.objN Obj.SU_BYTES_RX u = (s.objN Obj.SU_BYTES_RX u + 1) % 2 ^ 64 ∧
    t.rd Reg.SU_ERRS_PARITY u = (if parity then min 255 (s.rd Reg.SU_ERRS_PARITY u + 1) else s.rd Reg.SU_ERRS_PARITY u) ∧
    t.rd Reg.SU_ERRS_FRAMING u = (if framing then min 255 (s.rd Reg.SU_ERRS_FRAMING u + 1) else s.rd Reg.SU_ERRS_FRAMING u) ∧
    t.rd Reg.SU_ERRS_OVERRUN u = (if overrun then min 255 (s.rd Reg.SU_ERRS_OVERRUN u + 1) else s.rd Reg.SU_ERRS_OVERRUN u) := by
  have arrived {g : Field} (block : covers portBlocks g = true) : (s.suArrived u).rd g u = s.rd g u :=
    (s.suArrived_kept u).rd block rfl u.val 0
  obtain ⟨p, f, o⟩ := (s.suArrived u).suChecked_errors u parity framing overrun
  rw [arrived (by decide)] at p f o
  refine ⟨?_, ?_, ?_, ?_⟩
  · rw [bytes, State.suSeen, State.suChecked_bytes, State.suArrived_bytes]
  · exact (kept _ (by simp)).trans p
  · exact (kept _ (by simp)).trans f
  · exact (kept _ (by simp)).trans o

theorem suCharacter_counts (running : s.rd Reg.SU_STATUS_STATE u = 1) :
    Does (.suCharacter u c parity framing overrun) s serialParts fun t =>
    t.objN Obj.SU_BYTES_RX u = (s.objN Obj.SU_BYTES_RX u + 1) % 2 ^ 64 ∧
    t.rd Reg.SU_ERRS_PARITY u = (if parity then min 255 (s.rd Reg.SU_ERRS_PARITY u + 1) else s.rd Reg.SU_ERRS_PARITY u) ∧
    t.rd Reg.SU_ERRS_FRAMING u = (if framing then min 255 (s.rd Reg.SU_ERRS_FRAMING u + 1) else s.rd Reg.SU_ERRS_FRAMING u) ∧
    t.rd Reg.SU_ERRS_OVERRUN u = (if overrun then min 255 (s.rd Reg.SU_ERRS_OVERRUN u + 1) else s.rd Reg.SU_ERRS_OVERRUN u) ∧
    (s.rd Reg.SU_CTRL_MODE u = 2 → t.mem = s.mem) := by
  by_cases mode : s.rd Reg.SU_CTRL_MODE u = 2
  · have zdp := State.suZdp_leaves (P := 4294979584) (by decide) (.refl _ (s.suSeen u parity framing overrun)) u c
    have kept := zdp.fieldsKept (P := 2 ^ 34) (by decide) []
    obtain ⟨bytes, p, f, o⟩ := State.suSeen_counts (State.objN_of_dict (zdp.dict (by decide)) ..)
      (fun g mem => kept.rd ((List.all_eq_true (p := covers (2 ^ 34))).1 (by decide) g mem) rfl u.val 0)
    exact .next (execSuCharacter_of_zdp running mode) ⟨bytes, p, f, o,
      fun _ => (zdp.mem (by decide)).trans (s.suSeen_mem u.val parity framing overrun)⟩
  · have ready : FieldsKept portBlocks markFields _ (s.suReady u c parity framing overrun) := State.suMarked_kept ..
    have dict : (s.suReady u c parity framing overrun).dict = _ := (State.suMarked_leaves ..).dict (by decide)
    have both := (ready.mono (List.subset_append_left ..)).trans ((State.suByte_kept _ u c).mono (List.subset_append_right ..))
    obtain ⟨bytes, p, f, o⟩ := State.suSeen_counts ((State.suByte_bytes _ u c).trans (State.objN_of_dict dict ..))
      (fun g mem => both.rd ((List.all_eq_true (p := covers portBlocks)).1 (by decide) g mem)
        ((List.all_eq_true (p := fun g => (markFields ++ byteFields).all g.disjoint)).1 (by decide) g mem) u.val 0)
    exact .next (execSuCharacter_of_other running mode) ⟨bytes, p, f, o, fun zdp => absurd zdp mode⟩

theorem State.suReady_rd {g : Field} (block : covers portBlocks g = true)
    (apart : (checkFields ++ markFields).all g.disjoint = true) :
    (s.suReady u c parity framing overrun).rd g u = s.rd g u := by
  rw [List.all_append, Bool.and_eq_true] at apart
  obtain ⟨check, mark⟩ := apart
  exact ((State.suMarked_kept ..).rd block mark u.val 0).trans (State.suSeen_rd block check)

theorem State.suReady_memBut (s : State) (u : Fin 8) (c : Byte) (parity framing overrun : Bool) :
    MemBut (gristBase + (s.rd Reg.SU_TS_BASE_BASE u * 64 + 16 * s.rd Reg.SU_TS_HEAD_HEAD u)) 16 s
      (s.suReady u c parity framing overrun) := by
  have bytes := (s.suSeen u parity framing overrun).suMarked_memBut u (s.charNs u) c (s.suIdle u)
  rw [State.suSeen_rd (by decide) (by decide), State.suSeen_rd (by decide) (by decide)] at bytes
  exact fun x hx => (bytes x hx).trans (congrArg (Memory.get · x) (s.suSeen_mem u parity framing overrun))

theorem State.suReady_stamp (mode : s.rd Reg.SU_CTRL_MODE u = 0) (start : c = 0x24 ∨ c = 0x21) :
    (s.suReady u c parity framing overrun).flag Reg.SU_IRQ_STAMP u = true ∧
    (s.suReady u c parity framing overrun).rd Reg.SU_TS_HEAD_HEAD u = (s.rd Reg.SU_TS_HEAD_HEAD u + 1) % 2 ^ 8 := by
  have stamped : s.suReady u c parity framing overrun =
      (s.suSeen u parity framing overrun).suStamp u (if c == 0x24 then 1 else 2) (s.charNs u) :=
    if_pos (by rw [State.suSeen_rd (by decide) (by decide), mode]; simpa using start)
  rw [stamped, ← State.suSeen_rd (s := s) (g := Reg.SU_TS_HEAD_HEAD) (by decide) (by decide)]
  exact State.suStamp_rd ..

theorem suCharacter_stored (running : s.rd Reg.SU_STATUS_STATE u = 1) (mode : s.rd Reg.SU_CTRL_MODE u ≠ 2)
    (room : (s.rd Reg.SU_RX_HEAD_HEAD u + 1) % 2 ^ s.rd Reg.SU_RX_CFG_LOG2 u ≠ s.rd Reg.SU_RX_TAIL_TAIL u) :
    Does (.suCharacter u c parity framing overrun) s serialParts fun t => t.flag Reg.SU_IRQ_RX u = true ∧
    t.rd Reg.SU_RX_HEAD_HEAD u = (s.rd Reg.SU_RX_HEAD_HEAD u + 1) % 2 ^ s.rd Reg.SU_RX_CFG_LOG2 u % 2 ^ 16 ∧
    (s.rd Reg.SU_CTRL_MODE u = 0 → (c = 0x24 ∨ c = 0x21) → t.flag Reg.SU_IRQ_STAMP u = true ∧
      t.rd Reg.SU_TS_HEAD_HEAD u = (s.rd Reg.SU_TS_HEAD_HEAD u + 1) % 2 ^ 8) ∧
    (∀ x, (x < gristBase + (s.rd Reg.SU_TS_BASE_BASE u * 64 + 16 * s.rd Reg.SU_TS_HEAD_HEAD u) ∨
        gristBase + (s.rd Reg.SU_TS_BASE_BASE u * 64 + 16 * s.rd Reg.SU_TS_HEAD_HEAD u) + 16 ≤ x) →
      x ≠ gristBase + (s.rd Reg.SU_RX_BASE_BASE u * 64 + s.rd Reg.SU_RX_HEAD_HEAD u) →
      Memory.get t.mem x = Memory.get s.mem x) := by
  have stored := State.suByte_of_room (s := s.suReady u c parity framing overrun) (u := u)
    (by simpa (disch := decide) only [State.suReady_rd] using room) c
  simp (disch := decide) only [State.suReady_rd] at stored
  obtain ⟨irq, head, byte⟩ := stored
  have kept := (s.suReady u c parity framing overrun).suByte_kept u c
  refine .next (execSuCharacter_of_other running mode) ⟨irq, head, fun nmea start => ?_, fun x outside other => ?_⟩
  · obtain ⟨flag, stamps⟩ := State.suReady_stamp (parity := parity) (framing := framing) (overrun := overrun) nmea start
    exact ⟨(kept.flag (by decide) (by decide) u.val 0).trans flag, (kept.rd (by decide) (by decide) u.val 0).trans stamps⟩
  · exact (byte x (by omega)).trans (s.suReady_memBut u c parity framing overrun x outside)

theorem suCharacter_lost (running : s.rd Reg.SU_STATUS_STATE u = 1) (mode : s.rd Reg.SU_CTRL_MODE u ≠ 2)
    (full : (s.rd Reg.SU_RX_HEAD_HEAD u + 1) % 2 ^ s.rd Reg.SU_RX_CFG_LOG2 u = s.rd Reg.SU_RX_TAIL_TAIL u) :
    Does (.suCharacter u c parity framing overrun) s serialParts fun t =>
    t.rd Reg.SU_RX_HEAD_HEAD u = s.rd Reg.SU_RX_HEAD_HEAD u ∧
    t.rd Reg.SU_ERRS_LOST u = min 255 (s.rd Reg.SU_ERRS_LOST u + 1) := by
  have lost := State.suByte_of_full (s := s.suReady u c parity framing overrun) (u := u)
    (by simpa (disch := decide) only [State.suReady_rd] using full) c
  refine .next ((execSuCharacter_of_other running mode).trans (congrArg Host.Outcome.next lost)) ⟨?_, ?_⟩
  · exact (State.rd_wr_disjoint _ (by decide) ..).trans (State.suReady_rd (by decide) (by decide))
  · rw [State.suErr_rd, State.incSat_rd_self, State.suReady_rd (by decide) (by decide)]
    rfl

end

end Sys2Proof.Machine
end
section
/-! O20: frames and characters of the ports, one clause each. -/

namespace Sys2Proof.Machine

/-- Settles O20: a frame or character runs through the steps of its port one after another, each of which leaves the fields,
entries and bytes that it does not name. -/
theorem portFrames : Obligations.PortFrames := by
  unfold Obligations.PortFrames
  exact ⟨fun _ _ _ _ _ off => if_pos off, fun _ _ _ _ running => emFrameReceived_bad running,
    fun _ _ _ _ running => emFrameReceived_stored running, fun _ _ _ _ running => emFrameReceived_lost running,
    fun _ _ _ _ _ running => emFrameReceived_steered running, fun _ _ _ _ _ running => emFrameReceived_dropped running,
    fun _ _ => execEmFrameSent_of_stopped, fun _ _ => execEmFrameSent_of_idle, fun _ _ _ running => emFrameSent_counts running,
    fun _ _ _ _ running => emFrameSent_releases running, fun _ _ _ _ => txTailWrite_ethernet, fun _ _ _ _ => txTailWrite_serial,
    fun _ _ _ _ => txTailWrite_link, fun _ _ _ _ => txTailWrite_serial_stopped, fun _ _ _ _ => txTailWrite_link_stopped,
    fun _ _ _ _ => execTxTailWrite_of_other, fun _ _ _ off => if_pos off, fun _ _ _ => peerFrameReceived_bad,
    fun _ _ _ => peerFrameReceived_message, fun _ _ _ => peerFrameReceived_stored, fun _ _ _ => frameAlignment_notes,
    fun _ _ _ same => if_pos same, fun _ _ _ _ _ _ off => if_pos off, fun _ _ _ _ _ _ => suCharacter_counts,
    fun _ _ _ _ _ _ => suCharacter_stored, fun _ _ _ _ _ _ => suCharacter_lost⟩

end Sys2Proof.Machine
end

section
/-! SUPPORT. The CAN controllers (R348 to R374): the registers of their block, and what one controller holds. -/

namespace Sys2Proof.Machine

/-- The bit of the register block of the CAN controllers. -/
def canBlock : Nat := 2 ^ 31

/-! Bits of a field -/

theorem bitOf_mod_two_pow (n w b : Nat) : bitOf (n % 2 ^ w) b = (decide (b < w) && bitOf n b) := by
  rw [bitOf_eq_testBit, bitOf_eq_testBit, Nat.testBit_mod_two_pow]

theorem bitOf_clearBit (n b c : Nat) : bitOf (clearBit n b) c = (bitOf n c && decide (b ≠ c)) := by
  by_cases same : b = c
  · subst same
    simp [bitOf_clearBit_self]
  · cases set : bitOf n b with
    | false => simp [clearBit, set, same]
    | true =>
      have back : setBit (clearBit n b) b = n := by
        have le : 2 ^ b ≤ n := by
          by_contra less
          simp [bitOf, Nat.div_eq_of_lt (Nat.not_le.1 less)] at set
        rw [setBit, if_neg (by simp [bitOf_clearBit_self]), clearBit, if_pos set, Nat.sub_add_cancel le]
      simpa [same] using (bitOf_setBit (clearBit n b) b c).symm.trans (congrArg (bitOf · c) back)

section
variable (s : State) {f : Field} (b i j : Nat) {c : Nat} (below : c < f.w)
include below

theorem State.bitOf_setBitIn : bitOf ((s.setBitIn f b i j).rd f i j) c = (bitOf (s.rd f i j) c || decide (b = c)) := by
  rw [State.setBitIn, State.rd_wr_self, bitOf_mod_two_pow, bitOf_setBit]
  simp [below]

theorem State.bitOf_clearBitIn : bitOf ((s.clearBitIn f b i j).rd f i j) c = (bitOf (s.rd f i j) c && decide (b ≠ c)) := by
  rw [State.clearBitIn, State.rd_wr_self, bitOf_mod_two_pow, bitOf_clearBit]
  simp [below]

end

/-! The controllers -/

theorem State.canSt_setCan (s : State) (n m : Nat) (f : CanSt → CanSt) :
    (s.setCan n f).canSt m = if m = n then f (s.canSt n) else s.canSt m := Map.get_upd ..

@[simp] theorem State.canSt_setCan_self (s : State) (n : Nat) (f : CanSt → CanSt) : (s.setCan n f).canSt n = f (s.canSt n) :=
  (s.canSt_setCan n n f).trans (if_pos rfl)

theorem State.canSt_of_can {s t : State} (h : t.can = s.can) (n : Nat) : t.canSt n = s.canSt n := by
  rw [State.canSt, State.canSt, h]

/-- The controller keeps its transmit buffers, its sequence number and its counts of frames, and no command of the tap comes to
wait. -/
structure CanSt.Held (c d : CanSt) : Prop where
  buf : d.buf = c.buf
  rxSeq : d.rxSeq = c.rxSeq
  rxFrames : d.rxFrames = c.rxFrames
  txFrames : d.txFrames = c.txFrames
  waits : ∀ b, Map.get none c.tapWait b = none → Map.get none d.tapWait b = none

theorem CanSt.Held.refl (c : CanSt) : c.Held c := ⟨rfl, rfl, rfl, rfl, fun _ => id⟩

theorem CanSt.Held.trans {c d e : CanSt} (h : c.Held d) (k : d.Held e) : c.Held e :=
  ⟨k.buf.trans h.buf, k.rxSeq.trans h.rxSeq, k.rxFrames.trans h.rxFrames, k.txFrames.trans h.txFrames,
    fun b idle => k.waits b (h.waits b idle)⟩

/-- Controller `n` holds in `t` what it held in `s`. -/
def CanHeld (n : Nat) (s t : State) : Prop := (s.canSt n).Held (t.canSt n)

section
variable {n : Nat} {s t u : State}

theorem CanHeld.refl (n : Nat) (s : State) : CanHeld n s s := CanSt.Held.refl _

theorem CanHeld.trans (h : CanHeld n s t) (k : CanHeld n t u) : CanHeld n s u := CanSt.Held.trans h k

theorem CanHeld.of_can (h : CanHeld n s t) (same : u.can = t.can) : CanHeld n s u := by
  rw [CanHeld, State.canSt_of_can same]
  exact h

theorem CanHeld.setCan (h : CanHeld n s t) {f : CanSt → CanSt} (held : ∀ c : CanSt, c.Held (f c)) : CanHeld n s (t.setCan n f) := by
  rw [CanHeld, State.canSt_setCan_self]
  exact CanSt.Held.trans h (held _)

theorem CanHeld.ite {p : Prop} [Decidable p] (h : CanHeld n s t) (k : CanHeld n s u) : CanHeld n s (if p then t else u) := by
  split
  · exact h
  · exact k

theorem CanHeld.word (h : CanHeld n s t) (b w : Nat) : (t.canSt n).word b w = (s.canSt n).word b w := by
  rw [CanSt.word, CanSt.word, h.buf]

end

/-! Requests and reports -/

section
variable {P : Nat} {fs : List Field} {s t : State}

theorem FieldsKept.canEndReq (h : FieldsKept P fs s t) (mem : Reg.CAN_TX_PEND_PEND ∈ fs) (n b : Nat) :
    FieldsKept P fs s (t.canEndReq n b) := h.wr mem ..

theorem FieldsKept.canReport (h : FieldsKept P fs s t) {f irq : Field} (memF : f ∈ fs) (memIrq : irq ∈ fs) (n b : Nat) :
    FieldsKept P fs s (t.canReport f irq n b) := (h.wr memF ..).raise memIrq ..

theorem FieldsKept.setCan (h : FieldsKept P fs s t) (n : Nat) (f : CanSt → CanSt) : FieldsKept P fs s (t.setCan n f) :=
  h.of_regs rfl

theorem FieldsKept.bit (h : FieldsKept P fs s t) {g : Field} (block : covers P g = true) (apart : fs.all g.disjoint = true)
    (n b : Nat) : bitOf (t.rd g n) b = bitOf (s.rd g n) b := congrArg (bitOf · b) (h.rd block apart n 0)

end

section
variable (s : State) (n b : Nat) {c : Nat} (low : c < 32)
include low

theorem State.canEndReq_pend :
    bitOf ((s.canEndReq n b).rd Reg.CAN_TX_PEND_PEND n) c = (bitOf (s.rd Reg.CAN_TX_PEND_PEND n) c && decide (b ≠ c)) :=
  s.bitOf_clearBitIn b n 0 low

theorem State.canReport_bit {f irq : Field} (wide : f.w = 32) (apart : f.disjoint irq = true) :
    bitOf ((s.canReport f irq n b).rd f n) c = (bitOf (s.rd f n) c || decide (b = c)) := by
  rw [State.canReport, State.raise, State.rd_wr_disjoint _ apart]
  exact s.bitOf_setBitIn b n 0 (by omega)

end

theorem State.mem_canPending {s : State} {n b : Nat} :
    b ∈ s.canPending n ↔ b < 32 ∧ bitOf (s.rd Reg.CAN_TX_PEND_PEND n) b = true := by
  simp [State.canPending]

/-- The request of buffer `b` ended, with its report. -/
def State.canEndAs (s : State) (f irq : Field) (n b : Nat) : State := (s.canEndReq n b).canReport f irq n b

section
variable {P : Nat} {fs : List Field} (s : State) {t : State} {f irq : Field} (n b : Nat) {c : Nat}

theorem FieldsKept.canEndAs {u : State} (h : FieldsKept P fs u t) (pend : Reg.CAN_TX_PEND_PEND ∈ fs) (memF : f ∈ fs)
    (memIrq : irq ∈ fs) : FieldsKept P fs u (t.canEndAs f irq n b) := (h.canEndReq pend n b).canReport memF memIrq n b

theorem State.canEndAs_pend (apart : [f, irq].all Reg.CAN_TX_PEND_PEND.disjoint = true) (low : c < 32) :
    bitOf ((s.canEndAs f irq n b).rd Reg.CAN_TX_PEND_PEND n) c =
    (bitOf (s.rd Reg.CAN_TX_PEND_PEND n) c && decide (b ≠ c)) := by
  have kept := (FieldsKept.refl canBlock [f, irq] (s.canEndReq n b)).canReport (f := f) (irq := irq) (by simp) (by simp) n b
  exact (kept.bit (by decide) apart n c).trans (s.canEndReq_pend n b low)

theorem State.canEndAs_bit (wide : f.w = 32) (apart : [Reg.CAN_TX_PEND_PEND, irq].all f.disjoint = true) (low : c < 32) :
    bitOf ((s.canEndAs f irq n b).rd f n) c = (bitOf (s.rd f n) c || decide (b = c)) := by
  simp only [List.all_cons, List.all_nil, Bool.and_true, Bool.and_eq_true] at apart
  obtain ⟨pend, own⟩ := apart
  rw [State.canEndAs, State.canReport_bit _ n b low wide own, State.canEndReq, State.clearBitIn, State.rd_wr_disjoint _ pend]

theorem State.canEndAs_irq (single : irq.w = 1) : (s.canEndAs f irq n b).flag irq n = true := State.flag_raise_self _ single ..

end

/-- A pending request withdrawn and reported. -/
def State.canFailReq (s : State) (n b : Nat) : State := s.canEndAs Reg.CAN_TX_FAILED_FAILED Reg.CAN_IRQ_TX_FAILED n b

/-- The fields that the withdrawal of requests changes. -/
def withdrawFields : List Field := [Reg.CAN_TX_PEND_PEND, Reg.CAN_TX_FAILED_FAILED, Reg.CAN_IRQ_TX_FAILED]

section
variable (s : State) (n : Nat)

theorem State.canFailReq_kept (b : Nat) : FieldsKept canBlock withdrawFields s (s.canFailReq n b) :=
  (FieldsKept.refl _ _ s).canEndAs n b (by decide) (by decide) (by decide)

theorem State.canFailReq_pend (b : Nat) {c : Nat} (low : c < 32) : bitOf ((s.canFailReq n b).rd Reg.CAN_TX_PEND_PEND n) c =
    (bitOf (s.rd Reg.CAN_TX_PEND_PEND n) c && decide (b ≠ c)) := s.canEndAs_pend n b (by decide) low

theorem State.canFailReq_failed (b : Nat) {c : Nat} (low : c < 32) : bitOf ((s.canFailReq n b).rd Reg.CAN_TX_FAILED_FAILED n) c =
    (bitOf (s.rd Reg.CAN_TX_FAILED_FAILED n) c || decide (b = c)) := s.canEndAs_bit n b rfl (by decide) low

/-- The requests withdrawn one after another. -/
def State.canFailAll (s : State) (n : Nat) : State := (s.canPending n).foldl (fun t b => t.canFailReq n b) s

theorem State.canWithdraw_eq : s.canWithdraw n = (s.canFailAll n).setCan n fun c =>
    { c with onBus := none, heldCancel := false, busBusy := false, tapWait := [], partials := [] } := rfl

theorem State.canFailAll_can : (s.canFailAll n).can = s.can :=
  List.foldlRecOn (motive := fun t : State => t.can = s.can) _ _ rfl fun _ same _ _ => same

theorem State.canWithdraw_kept : FieldsKept canBlock withdrawFields s (s.canWithdraw n) :=
  (FieldsKept.foldl (fun t b => t.canFailReq_kept n b) (s.canPending n) s).setCan ..

theorem State.canWithdraw_canSt : (s.canWithdraw n).canSt n =
    { s.canSt n with onBus := none, heldCancel := false, busBusy := false, tapWait := [], partials := [] } := by
  rw [State.canWithdraw_eq, State.canSt_setCan_self, State.canSt_of_can (s.canFailAll_can n)]

theorem State.canWithdraw_held : CanHeld n s (s.canWithdraw n) := by
  rw [CanHeld, State.canWithdraw_canSt]
  exact ⟨rfl, rfl, rfl, rfl, fun _ _ => rfl⟩

/-- No request is pending after the withdrawal. -/
theorem State.canWithdraw_pend (b : Fin 32) : bitOf ((s.canWithdraw n).rd Reg.CAN_TX_PEND_PEND n) b = false := by
  have stays (u : State) (x : Nat) (off : bitOf (u.rd Reg.CAN_TX_PEND_PEND n) b = false) :
      bitOf ((u.canFailReq n x).rd Reg.CAN_TX_PEND_PEND n) b = false := by
    rw [State.canFailReq_pend _ n x b.isLt, off, Bool.false_and]
  change bitOf ((s.canFailAll n).rd Reg.CAN_TX_PEND_PEND n) b = false
  cases pend : bitOf (s.rd Reg.CAN_TX_PEND_PEND n) b with
  | false =>
    exact List.foldlRecOn (motive := fun t : State => bitOf (t.rd Reg.CAN_TX_PEND_PEND n) b = false) (s.canPending n) _ pend
      fun u off x _ => stays u x off
  | true =>
    refine foldl_holds (I := fun _ => True) (Q := fun t : State => bitOf (t.rd Reg.CAN_TX_PEND_PEND n) b = false)
      (State.mem_canPending.2 ⟨b.isLt, pend⟩) trivial (fun _ _ _ => trivial) (fun u _ => ?_) fun u x _ _ off => stays u x off
    rw [State.canFailReq_pend _ n b b.isLt]
    simp

/-- Every request that was pending is reported. -/
theorem State.canWithdraw_failed {b : Fin 32} (pend : bitOf (s.rd Reg.CAN_TX_PEND_PEND n) b = true) :
    bitOf ((s.canWithdraw n).rd Reg.CAN_TX_FAILED_FAILED n) b = true := by
  change bitOf ((s.canFailAll n).rd Reg.CAN_TX_FAILED_FAILED n) b = true
  refine foldl_holds (I := fun _ => True) (Q := fun t : State => bitOf (t.rd Reg.CAN_TX_FAILED_FAILED n) b = true)
    (State.mem_canPending.2 ⟨b.isLt, pend⟩) trivial (fun _ _ _ => trivial) (fun u _ => ?_) fun u x _ _ on => ?_
  · rw [State.canFailReq_failed _ n b b.isLt]
    simp
  · rw [State.canFailReq_failed _ n x b.isLt, on, Bool.true_or]

end

/-! Selection -/

section
variable (s : State) (n : Nat)

theorem State.canSelect_kept : FieldsKept canBlock [] s (s.canSelect n) :=
  (State.canSelect_leaves (P := 34360000512) (by decide) (.refl _ s) n).fieldsKept (by decide) []

theorem State.latency_can (src : Nat) (inst : Option Nat) (t0 t1 : Nat) : (s.latency src inst t0 t1).can = s.can :=
  (State.latency_leaves (P := 34359738368) (by decide) (.refl _ s) ..).can (by decide)

theorem State.canSelect_held : CanHeld n s (s.canSelect n) := by
  unfold State.canSelect
  refine .ite (.refl n s) ?_
  dsimp only
  split
  · exact ((CanHeld.refl n s).of_can (s.latency_can ..)).setCan fun _ => ⟨rfl, rfl, rfl, rfl, fun _ => id⟩
  · exact .refl n s

/-- The only request is selected where the bus is idle (R359). -/
theorem State.canSelect_of_single {s : State} {n b : Nat} (free : (s.canSt n).onBus = none) (idle : (s.canSt n).busBusy = false)
    (sends : s.canSends n = true) (single : s.canPending n = [b]) :
    ((s.canSelect n).canSt n).onBus = some (b, s.canCount n) := by
  have best (c : CanSt) (urgent : Bool) :
      c.best (if !([b].filter c.isAlarm).isEmpty && urgent then [b].filter c.isAlarm else [b]) = some b := by
    cases alarm : c.isAlarm b <;> cases urgent <;> simp [alarm, CanSt.best]
  unfold State.canSelect
  simp only [free, idle, sends, single, best]
  exact congrArg CanSt.onBus (State.canSt_setCan_self ..)

theorem State.tapFlush_of_none {s : State} {n b : Nat} (idle : Map.get none (s.canSt n).tapWait b = none) :
    s.tapFlush n b = s := by
  rw [State.tapFlush, idle]

end

end Sys2Proof.Machine
end

section
/-! SUPPORT. The error states of a CAN controller (R364 to R367), and what ends an attempt to send (R361, R363). -/

namespace Sys2Proof.Machine

section
variable {fs : List Field} {n : Nat} {s t : State}

theorem FieldsKept.canEvent (h : FieldsKept canBlock fs s t) (b : HwBlock) (name : String) (unit : Nat) :
    FieldsKept canBlock fs s (t.event b name unit) :=
  h.trans ((State.event_leaves (P := 103079221760) (by decide) (.refl _ t) ..).fieldsKept (by decide) fs)

theorem FieldsKept.canAlarm (h : FieldsKept canBlock fs s t) (b : HwBlock) (name : String) (unit : Nat) :
    FieldsKept canBlock fs s (t.alarm b name unit) :=
  h.trans ((State.alarm_leaves (P := 103079229960) (by decide) (.refl _ t) ..).fieldsKept (by decide) fs)

theorem FieldsKept.canCount (h : FieldsKept canBlock fs s t) (event : Nat) (inst : Option Nat) (w : Nat := 1) :
    FieldsKept canBlock fs s (t.count event inst w) :=
  h.trans ((State.count_leaves (P := 2 ^ 35) (by decide) (.refl _ t) event inst w).fieldsKept (by decide) fs)

theorem CanHeld.wr (h : CanHeld n s t) (f : Field) (v i j : Nat) : CanHeld n s (t.wr f v i j) := h.of_can (t.wr_can f v i j)

theorem CanHeld.event (h : CanHeld n s t) (b : HwBlock) (name : String) (unit : Nat) : CanHeld n s (t.event b name unit) :=
  h.of_can ((State.event_leaves (P := 103079221760) (by decide) (.refl _ t) ..).can (by decide))

theorem CanHeld.alarm (h : CanHeld n s t) (b : HwBlock) (name : String) (unit : Nat) : CanHeld n s (t.alarm b name unit) :=
  h.of_can ((State.alarm_leaves (P := 103079229960) (by decide) (.refl _ t) ..).can (by decide))

theorem CanHeld.count (h : CanHeld n s t) (event : Nat) (inst : Option Nat) (w : Nat := 1) : CanHeld n s (t.count event inst w) :=
  h.of_can ((State.count_leaves (P := 2 ^ 35) (by decide) (.refl _ t) event inst w).can (by decide))

end

/-! The error state -/

/-- The error state that the counters call for. -/
def State.canErrLevel (s : State) (n : Nat) : Nat :=
  if s.canBusOff n then 2
  else if 255 < s.rd Reg.CAN_ECNT_TEC n then 2
  else if 128 ≤ s.rd Reg.CAN_ECNT_TEC n ∨ 128 ≤ s.rd Reg.CAN_ECNT_REC n then 1 else 0

/-- WARNING brought up to date. -/
def State.canWarned (s : State) (n : Nat) : State :=
  s.put Reg.CAN_STATUS_WARNING (decide (96 ≤ s.rd Reg.CAN_ECNT_TEC n) || decide (96 ≤ s.rd Reg.CAN_ECNT_REC n)) n

/-- The error state changed, with its interrupt and EVENT. -/
def State.canTurned (s : State) (n level : Nat) : State :=
  ((s.wr Reg.CAN_STATUS_ERR_STATE level n).raise Reg.CAN_IRQ_ERR_STATE n).event .can "ERR_STATE" (0x600 + n)

/-- An entry into bus-off counted. -/
def CanSt.offCounted (c : CanSt) : CanSt := { c with busOffs := (c.busOffs + 1) % 2 ^ 32 }

/-- What the entry into bus-off adds: the requests withdrawn, the count, the interrupt and the ALARM (R367). -/
def State.canWentOff (s : State) (n : Nat) : State :=
  ((((s.canWithdraw n).setCan n CanSt.offCounted).incSat Reg.CAN_ERRS2_BUS_OFF n).raise Reg.CAN_IRQ_BUS_OFF n).alarm .can "BUS_OFF"
    (0x600 + n)

/-- The fields that a change of the error state writes. -/
def turnFields : List Field := [Reg.CAN_STATUS_ERR_STATE, Reg.CAN_IRQ_ERR_STATE]

/-- The fields that the entry into bus-off writes. -/
def offFields : List Field := withdrawFields ++ [Reg.CAN_ERRS2_BUS_OFF, Reg.CAN_IRQ_BUS_OFF]

/-- The fields that the update of the error state may write. -/
def canErrFields : List Field := Reg.CAN_STATUS_WARNING :: turnFields ++ offFields

section
variable (s : State) (n : Nat)

theorem State.canWarned_kept : FieldsKept canBlock [Reg.CAN_STATUS_WARNING] s (s.canWarned n) :=
  (FieldsKept.refl _ _ s).wr (by decide) ..

theorem State.canErrState_eq : s.canErrState n =
    if s.rd Reg.CAN_STATUS_ERR_STATE n = s.canErrLevel n then s.canWarned n
    else if s.canErrLevel n = 2 then ((s.canWarned n).canTurned n (s.canErrLevel n)).canWentOff n
    else (s.canWarned n).canTurned n (s.canErrLevel n) := by
  have same : (s.canWarned n).rd Reg.CAN_STATUS_ERR_STATE n = s.rd Reg.CAN_STATUS_ERR_STATE n :=
    (s.canWarned_kept n).rd (by decide) (by decide) n 0
  have level : (if (s.canWarned n).canBusOff n then 2 else if 255 < s.rd Reg.CAN_ECNT_TEC n then 2
      else if 128 ≤ s.rd Reg.CAN_ECNT_TEC n ∨ 128 ≤ s.rd Reg.CAN_ECNT_REC n then 1 else 0) = s.canErrLevel n := by
    rw [State.canErrLevel, State.canBusOff, same, ← State.canBusOff]
  have steps : s.canErrState n =
      let t := s.canWarned n
      let st := if t.canBusOff n then 2 else if 255 < s.rd Reg.CAN_ECNT_TEC n then 2
        else if 128 ≤ s.rd Reg.CAN_ECNT_TEC n ∨ 128 ≤ s.rd Reg.CAN_ECNT_REC n then 1 else 0
      if t.rd Reg.CAN_STATUS_ERR_STATE n == st then t
      else if st == 2 then (t.canTurned n st).canWentOff n else t.canTurned n st := rfl
  rw [steps]
  simp only [level, same, beq_iff_eq]

theorem State.canTurned_kept (level : Nat) : FieldsKept canBlock turnFields s (s.canTurned n level) :=
  (((FieldsKept.refl _ _ s).wr (by decide) ..).raise (by decide) ..).canEvent ..

theorem State.canTurned_state (level : Nat) : (s.canTurned n level).rd Reg.CAN_STATUS_ERR_STATE n = level % 4 := by
  have raised := ((FieldsKept.refl canBlock [Reg.CAN_IRQ_ERR_STATE] (s.wr Reg.CAN_STATUS_ERR_STATE level n)).raise
    (f := Reg.CAN_IRQ_ERR_STATE) (by decide) n 0).canEvent .can "ERR_STATE" (0x600 + n)
  exact (raised.rd (by decide) (by decide) n 0).trans (State.rd_wr_self ..)

theorem State.canWentOff_kept : FieldsKept canBlock offFields s (s.canWentOff n) :=
  (((((s.canWithdraw_kept n).mono (by decide)).setCan ..).wr (by decide) ..).raise (by decide) ..).canAlarm ..

theorem State.canWentOff_can : (s.canWentOff n).can = ((s.canWithdraw n).setCan n CanSt.offCounted).can :=
  (State.alarm_leaves (P := 103079229960) (by decide) (.refl _ _) ..).can (by decide)

theorem State.canWentOff_held : CanHeld n s (s.canWentOff n) :=
  CanHeld.of_can ((s.canWithdraw_held n).setCan (f := CanSt.offCounted) fun _ => ⟨rfl, rfl, rfl, rfl, fun _ => id⟩)
    (s.canWentOff_can n)

/-- The entry into bus-off ends every request and the frame on the bus (R367). -/
theorem State.canWentOff_ends : (s.canWentOff n).flag Reg.CAN_IRQ_BUS_OFF n = true ∧
    (∀ b : Fin 32, bitOf ((s.canWentOff n).rd Reg.CAN_TX_PEND_PEND n) b = false) ∧ ((s.canWentOff n).canSt n).onBus = none := by
  refine ⟨?_, fun b => ?_, ?_⟩
  · exact (((FieldsKept.refl canBlock [] _).canAlarm ..).flag (by decide) rfl n 0).trans (State.flag_raise_self _ rfl ..)
  · have kept : FieldsKept canBlock [Reg.CAN_ERRS2_BUS_OFF, Reg.CAN_IRQ_BUS_OFF] (s.canWithdraw n) (s.canWentOff n) :=
      ((((FieldsKept.refl _ _ _).setCan ..).wr (by decide) ..).raise (by decide) ..).canAlarm ..
    exact (kept.bit (by decide) (by decide) n b).trans (s.canWithdraw_pend n b)
  · rw [State.canSt_of_can (s.canWentOff_can n), State.canSt_setCan_self, State.canWithdraw_canSt]
    rfl

theorem State.canErrState_kept : FieldsKept canBlock canErrFields s (s.canErrState n) := by
  have turned (level : Nat) := (s.canWarned_kept n).mono (fs := canErrFields) (by decide)
    |>.andThen (State.canTurned_kept _ n level) (by decide)
  rw [State.canErrState_eq]
  exact .ite ((s.canWarned_kept n).mono (by decide)) (.ite ((turned _).andThen (State.canWentOff_kept _ n) (by decide)) (turned _))

theorem State.canErrState_held : CanHeld n s (s.canErrState n) := by
  have warned : CanHeld n s (s.canWarned n) := (CanHeld.refl n s).wr ..
  have turned (level : Nat) : CanHeld n s ((s.canWarned n).canTurned n level) := ((warned.wr ..).wr ..).event ..
  rw [State.canErrState_eq]
  exact .ite warned (.ite ((turned _).trans (State.canWentOff_held _ n)) (turned _))

theorem State.canErrState_mem : (s.canErrState n).mem = s.mem :=
  (State.canErrState_leaves (P := 105226975752) (by decide) (.refl _ s) n).mem (by decide)

theorem State.canErrState_warning : (s.canErrState n).flag Reg.CAN_STATUS_WARNING n =
    decide (96 ≤ s.rd Reg.CAN_ECNT_TEC n ∨ 96 ≤ s.rd Reg.CAN_ECNT_REC n) := by
  have warned : (s.canWarned n).flag Reg.CAN_STATUS_WARNING n =
      decide (96 ≤ s.rd Reg.CAN_ECNT_TEC n ∨ 96 ≤ s.rd Reg.CAN_ECNT_REC n) :=
    (State.flag_put_self _ rfl ..).trans (Bool.decide_or ..).symm
  have turned (level : Nat) : FieldsKept canBlock (turnFields ++ offFields) (s.canWarned n) ((s.canWarned n).canTurned n level) :=
    (State.canTurned_kept _ n level).mono (by decide)
  have kept : FieldsKept canBlock (turnFields ++ offFields) (s.canWarned n) (s.canErrState n) := by
    rw [State.canErrState_eq]
    exact .ite (.refl ..) (.ite ((turned _).andThen (State.canWentOff_kept _ n) (by decide)) (turned _))
  exact (kept.flag (by decide) (by decide) n 0).trans warned

end

section
variable {s : State} {n : Nat} (on : s.canBusOff n = false)
include on

/-- TEC above 255 leads into bus-off (R364, R367). -/
theorem State.canErrState_off (high : 255 < s.rd Reg.CAN_ECNT_TEC n) :
    (s.canErrState n).rd Reg.CAN_STATUS_ERR_STATE n = 2 ∧ (s.canErrState n).flag Reg.CAN_IRQ_BUS_OFF n = true ∧
    (∀ b : Fin 32, bitOf ((s.canErrState n).rd Reg.CAN_TX_PEND_PEND n) b = false) ∧
    ((s.canErrState n).canSt n).onBus = none := by
  have level : s.canErrLevel n = 2 := by simp [State.canErrLevel, on, high]
  have other : s.rd Reg.CAN_STATUS_ERR_STATE n ≠ 2 := by simpa [State.canBusOff] using on
  rw [State.canErrState_eq, level, if_neg other, if_pos rfl]
  exact ⟨((State.canWentOff_kept _ n).rd (by decide) (by decide) n 0).trans (State.canTurned_state _ n 2),
    State.canWentOff_ends _ n⟩

/-- TEC from 128 to 255 makes the controller error-passive (R364). -/
theorem State.canErrState_passive (high : 128 ≤ s.rd Reg.CAN_ECNT_TEC n) (below : s.rd Reg.CAN_ECNT_TEC n ≤ 255) :
    (s.canErrState n).rd Reg.CAN_STATUS_ERR_STATE n = 1 := by
  have level : s.canErrLevel n = 1 := by simp [State.canErrLevel, on, high, Nat.not_lt.2 below]
  rw [State.canErrState_eq, level]
  split
  case isTrue already => exact ((s.canWarned_kept n).rd (by decide) (by decide) n 0).trans already
  case isFalse => exact State.canTurned_state _ n 1

end

/-! The end of an attempt -/

/-- The fields that the end of an attempt may write. -/
def attemptFields : List Field :=
  withdrawFields ++ [Reg.CAN_TX_CANCELLED_CANCELLED, Reg.CAN_IRQ_CANCELLED]

/-- A request cancelled and reported. -/
def State.canCancelReq (s : State) (n b : Nat) : State := s.canEndAs Reg.CAN_TX_CANCELLED_CANCELLED Reg.CAN_IRQ_CANCELLED n b

/-- An attempt ended, before the tap's next command is looked at. -/
def State.canAttemptOver (s : State) (n b : Nat) : State :=
  let t := s.setCan n fun c => { c with onBus := none, heldCancel := false }
  if (s.canSt n).heldCancel then t.canCancelReq n b
  else if bitOf ((s.canSt n).word b 1) 6 then t.canFailReq n b
  else t

section
variable (s : State) (n b : Nat)

theorem State.canAttemptEnds_eq : s.canAttemptEnds n b = (s.canAttemptOver n b).tapFlush n b := rfl

theorem State.canRequest_kept : FieldsKept canBlock [Reg.CAN_TX_PEND_PEND] s (s.canRequest n b) :=
  .ite (.refl _ _ s) (((FieldsKept.refl _ _ s).wr (by decide) ..).setCan ..)

theorem State.tapFrame_kept (ws : List Nat) : FieldsKept canBlock [Reg.CAN_TX_PEND_PEND] s (s.tapFrame n b ws) := by
  unfold State.tapFrame
  dsimp only
  refine .ite (.of_regs (.refl _ _ s) rfl) (.ite (.of_regs (.refl _ _ s) rfl) (.ite ?_ (.refl _ _ s)))
  exact ((FieldsKept.setCan (.refl _ _ s) ..).trans (State.canRequest_kept ..)).andThen (State.canSelect_kept ..) (by simp)

theorem State.tapFlush_kept : FieldsKept canBlock [Reg.CAN_TX_PEND_PEND] s (s.tapFlush n b) := by
  unfold State.tapFlush
  split
  · exact (FieldsKept.setCan (.refl _ _ s) ..).trans (State.tapFrame_kept ..)
  · exact .refl _ _ s

theorem State.canAttemptEnds_kept : FieldsKept canBlock attemptFields s (s.canAttemptEnds n b) := by
  have start : FieldsKept canBlock attemptFields s (s.setCan n fun c => { c with onBus := none, heldCancel := false }) :=
    .of_regs (.refl _ _ s) rfl
  have ended : FieldsKept canBlock attemptFields s (s.canAttemptOver n b) :=
    .ite (start.canEndAs n b (by decide) (by decide) (by decide))
      (.ite (start.andThen (State.canFailReq_kept _ n b) (by decide)) start)
  exact ended.andThen (State.tapFlush_kept _ n b) (by decide)

theorem State.canAttemptOver_can :
    (s.canAttemptOver n b).can = (s.setCan n fun c => { c with onBus := none, heldCancel := false }).can := by
  unfold State.canAttemptOver
  dsimp only
  split
  · rfl
  · split <;> rfl

end

/-- Where no command of the tap waits, the end of an attempt is the end of the request alone. -/
theorem State.canAttemptEnds_of_none {s : State} {n b : Nat} (idle : Map.get none (s.canSt n).tapWait b = none) :
    s.canAttemptEnds n b = s.canAttemptOver n b := by
  rw [State.canAttemptEnds_eq, State.tapFlush_of_none]
  rw [State.canSt_of_can (s.canAttemptOver_can n b), State.canSt_setCan_self]
  exact idle

end Sys2Proof.Machine
end

section
/-! SUPPORT. Enable and disable of a CAN controller (R349, R350). -/

namespace Sys2Proof.Machine

/-- The parts that an enable or a disable may change. -/
def canModeParts : List Part := [.dict, .outcome, .can, .regs .can]

/-- The controller started in `mode` (R349). -/
def State.canStarted (s : State) (n mode : Nat) : State :=
  (((s.wr Reg.CAN_STATUS_CFG_CAUSE 0 n).wr Reg.CAN_CTRL_MODE mode n).wr Reg.CAN_STATUS_STATE 1 n).setCan n fun c =>
    { c with rxSeq := 0, busBusy := false, zdpEn := bitOf (s.objN Obj.CF_FLAGS n) 4
             tapMap := ((List.range 32).filter fun t => s.objN Obj.CAN_THRUSTER_MAP 0 t == n).take 7 }

/-- The controller stopped: its requests withdrawn, MODE at 0, and DISABLED if it was RUNNING (R349). -/
def State.canStopped (s : State) (n : Nat) : State :=
  let t := (s.canWithdraw n).wr Reg.CAN_CTRL_MODE 0 n
  if t.rd Reg.CAN_STATUS_STATE n == 1 then t.wr Reg.CAN_STATUS_STATE 0 n else t

section
variable (s : State) (n mode : Nat)

theorem State.canCfgCause_lt : s.canCfgCause n < 16 := by
  unfold State.canCfgCause
  dsimp only
  split_ifs <;> decide

variable {s n}

theorem State.canEnableIn_of_sound (sound : s.canCfgCause n = 0) : s.canEnableIn n mode = (s.canStarted n mode, true) := by
  rw [State.canEnableIn, sound]
  rfl

theorem State.canEnableIn_of_unsound (unsound : s.canCfgCause n ≠ 0) :
    s.canEnableIn n mode = (s.wr Reg.CAN_STATUS_CFG_CAUSE (s.canCfgCause n) n, false) := if_pos (by simpa using unsound)

variable (s n)

theorem State.canCause_rd : (s.wr Reg.CAN_STATUS_CFG_CAUSE (s.canCfgCause n) n).rd Reg.CAN_STATUS_CFG_CAUSE n = s.canCfgCause n :=
  (State.rd_wr_self ..).trans (Nat.mod_eq_of_lt (s.canCfgCause_lt n))

theorem State.canStarted_rd : (s.canStarted n mode).canMode n = mode % 2 ^ 2 ∧ (s.canStarted n mode).rd Reg.CAN_STATUS_STATE n = 1 ∧
    (s.canStarted n mode).rd Reg.CAN_STATUS_CFG_CAUSE n = 0 ∧ ((s.canStarted n mode).canSt n).rxSeq = 0 := by
  unfold State.canStarted
  refine ⟨?_, State.rd_wr_self .., ?_, congrArg CanSt.rxSeq (State.canSt_setCan_self ..)⟩
  · exact (State.rd_wr_disjoint _ (by decide) ..).trans (State.rd_wr_self ..)
  · exact (State.rd_wr_disjoint _ (by decide) ..).trans ((State.rd_wr_disjoint _ (by decide) ..).trans (State.rd_wr_self ..))

theorem State.canStarted_regsBut : RegsBut
    [Reg.CAN_CTRL_MODE.key n 0, Reg.CAN_STATUS_STATE.key n 0, Reg.CAN_STATUS_CFG_CAUSE.key n 0] s (s.canStarted n mode) := by
  have three : RegsBut [Reg.CAN_CTRL_MODE.key n 0, Reg.CAN_STATUS_STATE.key n 0, Reg.CAN_STATUS_CFG_CAUSE.key n 0] s
      (((s.wr Reg.CAN_STATUS_CFG_CAUSE 0 n).wr Reg.CAN_CTRL_MODE mode n).wr Reg.CAN_STATUS_STATE 1 n) :=
    (((RegsBut.refl _ s).wr (by simp) 0).wr (by simp) mode).wr (by simp) 1
  exact three.of_regs rfl

theorem State.canStopped_rd : (s.canStopped n).canMode n = 0 ∧
    (s.rd Reg.CAN_STATUS_STATE n = 1 → (s.canStopped n).rd Reg.CAN_STATUS_STATE n = 0) ∧
    FieldsKept canBlock [Reg.CAN_CTRL_MODE, Reg.CAN_STATUS_STATE] (s.canWithdraw n) (s.canStopped n) := by
  have state : ((s.canWithdraw n).wr Reg.CAN_CTRL_MODE 0 n).rd Reg.CAN_STATUS_STATE n = s.rd Reg.CAN_STATUS_STATE n :=
    (State.rd_wr_disjoint _ (by decide) ..).trans ((s.canWithdraw_kept n).rd (by decide) (by decide) n 0)
  have stop : FieldsKept canBlock [Reg.CAN_CTRL_MODE, Reg.CAN_STATUS_STATE] (s.canWithdraw n)
      ((s.canWithdraw n).wr Reg.CAN_CTRL_MODE 0 n) := (FieldsKept.refl _ _ _).wr (by decide) 0 n 0
  unfold State.canStopped
  refine ⟨?_, fun running => ?_, .ite (stop.wr (by decide) 0 n 0) stop⟩
  · dsimp only
    split
    · exact (State.rd_wr_disjoint _ (by decide) ..).trans (State.rd_wr_self ..)
    · exact State.rd_wr_self ..
  · dsimp only
    rw [state, running]
    exact State.rd_wr_self ..

theorem State.canStopped_canSt : (s.canStopped n).canSt n = (s.canWithdraw n).canSt n := by
  unfold State.canStopped
  dsimp only
  split <;> rfl

theorem State.canStopped_dict : (s.canStopped n).dict = s.dict ∧ (s.canStopped n).outcome = s.outcome := by
  have leaves := State.canWithdraw_leaves (P := 2147745792) (by decide) (.refl _ s) n
  unfold State.canStopped
  dsimp only
  split
  · exact ⟨leaves.dict (by decide), leaves.outcome (by decide)⟩
  · exact ⟨leaves.dict (by decide), leaves.outcome (by decide)⟩

end

/-! The commands -/

section
variable {s : State} {n : Fin 16} {mode : BitVec 2}

theorem execCanEnable_of_written (off : s.rd Reg.CAN_STATUS_STATE n = 0) (given : mode ≠ 0) :
    exec (.canEnable n mode false) s = .next (s.canEnableIn n mode.toNat).1 :=
  if_neg (not_or.2 ⟨not_not.2 off, given⟩)

theorem canEnable_starts (off : s.rd Reg.CAN_STATUS_STATE n = 0) (given : mode ≠ 0) (sound : s.canCfgCause n = 0) :
    Does (.canEnable n mode false) s canModeParts fun t =>
    t.canMode n = mode.toNat ∧ t.rd Reg.CAN_STATUS_STATE n = 1 ∧ t.rd Reg.CAN_STATUS_CFG_CAUSE n = 0 ∧ (t.canSt n).rxSeq = 0 ∧
    RegsBut [Reg.CAN_CTRL_MODE.key n 0, Reg.CAN_STATUS_STATE.key n 0, Reg.CAN_STATUS_CFG_CAUSE.key n 0] s t := by
  obtain ⟨modes, state, cause, seq⟩ := s.canStarted_rd n mode.toNat
  refine .next (t := s.canStarted n mode.toNat) ?_
    ⟨modes.trans (Nat.mod_eq_of_lt mode.isLt), state, cause, seq, s.canStarted_regsBut n mode.toNat⟩
  rw [execCanEnable_of_written off given, State.canEnableIn_of_sound _ sound]

theorem canEnable_names (off : s.rd Reg.CAN_STATUS_STATE n = 0) (given : mode ≠ 0) (unsound : s.canCfgCause n ≠ 0) :
    Does (.canEnable n mode false) s canModeParts fun t =>
    t.rd Reg.CAN_STATUS_CFG_CAUSE n = s.canCfgCause n ∧ t.can = s.can ∧ RegsBut [Reg.CAN_STATUS_CFG_CAUSE.key n 0] s t := by
  refine .next (t := s.wr Reg.CAN_STATUS_CFG_CAUSE (s.canCfgCause n) n) ?_
    ⟨s.canCause_rd n, rfl, (RegsBut.refl _ s).wr (by simp) _⟩
  rw [execCanEnable_of_written off given, State.canEnableIn_of_unsound _ unsound]

theorem execCanEnable_of_order (s : State) (n : Fin 16) (mode : BitVec 2) : exec (.canEnable n mode true) s =
    if s.rd Reg.CAN_STATUS_STATE n = 1 then .next ((s.setObjN Obj.CF_ENABLE 1 n).answer 0)
    else if s.rd Reg.CAN_STATUS_STATE n ≠ 0 then .next (s.answer 15)
    else
      let p := (s.canLoad n).canEnableIn n (s.objN Obj.CF_MODE n)
      if p.2 then .next ((p.1.setObjN Obj.CF_ENABLE 1 n).answer 0)
      else .next ((s.wr Reg.CAN_STATUS_CFG_CAUSE (p.1.rd Reg.CAN_STATUS_CFG_CAUSE n) n).answer 14) := rfl

theorem canEnable_already (running : s.rd Reg.CAN_STATUS_STATE n = 1) : Does (.canEnable n mode true) s canModeParts fun t =>
    t.outcome = 0 ∧ t.objN Obj.CF_ENABLE n = 1 ∧ t.regs = s.regs ∧ t.can = s.can ∧ ObjsBut [Obj.CF_ENABLE.key n 0] s t :=
  .next ((execCanEnable_of_order s n mode).trans (if_pos running)) ⟨rfl, State.objN_setObjN_self .., rfl, rfl,
    fun _ _ _ other => State.obj_setObj_of_not_mem (List.mem_singleton_self _) other⟩

theorem canEnable_refused (barred : 1 < s.rd Reg.CAN_STATUS_STATE n) : Does (.canEnable n mode true) s canModeParts fun t =>
    t.outcome = 15 ∧ t.regs = s.regs ∧ t.dict = s.dict ∧ t.can = s.can :=
  .next ((execCanEnable_of_order s n mode).trans ((if_neg (by omega)).trans (if_pos (by omega)))) ⟨rfl, rfl, rfl, rfl⟩

theorem canEnable_loads (off : s.rd Reg.CAN_STATUS_STATE n = 0) (sound : (s.canLoad n).canCfgCause n = 0) :
    Does (.canEnable n mode true) s canModeParts fun t => t.outcome = 0 ∧ t.objN Obj.CF_ENABLE n = 1 ∧
    t.rd Reg.CAN_STATUS_STATE n = 1 ∧ t.canMode n = s.objN Obj.CF_MODE n % 2 ^ 2 := by
  obtain ⟨modes, state, -, -⟩ := (s.canLoad n).canStarted_rd n (s.objN Obj.CF_MODE n)
  have e : exec (.canEnable n mode true) s =
      .next ((((s.canLoad n).canStarted n (s.objN Obj.CF_MODE n)).setObjN Obj.CF_ENABLE 1 n).answer 0) := by
    rw [execCanEnable_of_order, if_neg (by omega), if_neg (not_not.2 off), State.canEnableIn_of_sound _ sound]
    rfl
  generalize (s.canLoad n).canStarted n (s.objN Obj.CF_MODE n) = t at e modes state
  exact .next e ⟨rfl, State.objN_setObjN_self .., state, modes⟩

theorem canEnable_unfit (off : s.rd Reg.CAN_STATUS_STATE n = 0) (unsound : (s.canLoad n).canCfgCause n ≠ 0) :
    Does (.canEnable n mode true) s canModeParts fun t =>
    t.outcome = 14 ∧ t.dict = s.dict ∧ t.can = s.can ∧ RegsBut [Reg.CAN_STATUS_CFG_CAUSE.key n 0] s t := by
  refine .next (t := (s.wr Reg.CAN_STATUS_CFG_CAUSE ((s.canLoad n).canCfgCause n) n).answer 14) ?_
    ⟨rfl, rfl, rfl, ((RegsBut.refl _ s).wr (by simp) _).of_regs rfl⟩
  rw [execCanEnable_of_order, if_neg (by omega), if_neg (not_not.2 off), State.canEnableIn_of_unsound _ unsound]
  exact congrArg (fun c => Host.Outcome.next ((s.wr Reg.CAN_STATUS_CFG_CAUSE c n).answer 14)) ((s.canLoad n).canCause_rd n)

theorem canDisable_stops (order : Bool) : Does (.canDisable n order) s canModeParts fun t =>
    t.canMode n = 0 ∧ (t.canSt n).onBus = none ∧
    (t.canSt n).partials = [] ∧ (s.rd Reg.CAN_STATUS_STATE n = 1 → t.rd Reg.CAN_STATUS_STATE n = 0) ∧
    (∀ b : Fin 32, bitOf (t.rd Reg.CAN_TX_PEND_PEND n) b = false) ∧
    (∀ b : Fin 32, bitOf (s.rd Reg.CAN_TX_PEND_PEND n) b = true → bitOf (t.rd Reg.CAN_TX_FAILED_FAILED n) b = true) ∧
    (order = true → t.outcome = 0 ∧ t.objN Obj.CF_ENABLE n = 0) ∧ (order = false → t.dict = s.dict ∧ t.outcome = s.outcome) := by
  obtain ⟨modes, state, kept⟩ := s.canStopped_rd n
  have held := (s.canStopped_canSt n).trans (s.canWithdraw_canSt n)
  have bus : ((s.canStopped n).canSt n).onBus = none := congrArg CanSt.onBus held
  have partials : ((s.canStopped n).canSt n).partials = [] := congrArg CanSt.partials held
  have pend (b : Fin 32) : bitOf ((s.canStopped n).rd Reg.CAN_TX_PEND_PEND n) b = false :=
    (kept.bit (by decide) (by decide) n b).trans (s.canWithdraw_pend n b)
  have failed (b : Fin 32) (was : bitOf (s.rd Reg.CAN_TX_PEND_PEND n) b = true) :
      bitOf ((s.canStopped n).rd Reg.CAN_TX_FAILED_FAILED n) b = true :=
    (kept.bit (by decide) (by decide) n b).trans (s.canWithdraw_failed n was)
  have dict := s.canStopped_dict n
  have e : exec (.canDisable n order) s =
      .next (if order then ((s.canStopped n).setObjN Obj.CF_ENABLE 0 n).answer 0 else s.canStopped n) := rfl
  clear held kept
  generalize s.canStopped n = t at *
  cases order with
  | false => exact .next e ⟨modes, bus, partials, state, pend, failed, fun h => (nomatch h), fun _ => dict⟩
  | true => exact .next e ⟨modes, bus, partials, state, pend, failed, fun _ => ⟨rfl, State.objN_setObjN_self ..⟩,
      fun h => (nomatch h)⟩

end

end Sys2Proof.Machine
end
section
/-! SUPPORT. Recovery from bus-off (R368), self-test and return (R374) of a CAN controller. -/

namespace Sys2Proof.Machine

/-! The unit in the health block -/

section
variable (s : State) (slot m : Nat)

theorem State.history_unit (event cause node count osn : Nat) :
    ((s.history slot event cause node count osn).unit m).state = (s.unit m).state := by
  have seq (u : State) (q : Nat) : ((u.setUnit slot fun x => { x with histSeq := q }).unit m).state = (u.unit m).state := by
    rw [State.unit_setUnit]
    split
    case isTrue same => rw [same]
    case isFalse => rfl
  unfold State.history
  dsimp only
  split
  · exact seq ..
  · exact seq ..

theorem State.unitReturned_unit (node osn : Nat) : ((s.unitReturned slot node osn).unit slot).state = 0 := by
  have back (f : UnitSt → UnitSt) (zero : ∀ u, (f u).state = 0) : ((s.setUnit slot f).unit slot).state = 0 := by
    rw [State.unit_setUnit, if_pos rfl, zero]
  unfold State.unitReturned
  split
  · exact (State.history_unit _ slot slot 4 0 node 0 osn).trans (back _ fun _ => rfl)
  · exact back _ fun _ => rfl

/-- The bits of the register blocks of the CAN controllers and of the supervisor. -/
def canSupBlocks : Nat := 2 ^ 31 + 2 ^ 40

theorem State.unitReturned_rd (node osn : Nat) {g : Field} (block : covers canSupBlocks g = true) (i : Nat) :
    (s.unitReturned slot node osn).rd g i = s.rd g i :=
  ((State.unitReturned_leaves (P := 68719479296) (by decide) (.refl _ s) slot node osn).fieldsKept (by decide) []).rd block rfl i 0

theorem State.unitReturned_can (node osn : Nat) : (s.unitReturned slot node osn).can = s.can :=
  (State.unitReturned_leaves (P := 68719479296) (by decide) (.refl _ s) slot node osn).can (by decide)

theorem State.unitReturned_canCfgCause (node osn n : Nat) : (s.unitReturned slot node osn).canCfgCause n = s.canCfgCause n := by
  simp (disch := decide) only [State.canCfgCause, State.nominalUnits, State.dataUnits, State.flag, State.control, State.role,
    State.unitReturned_rd]
  rfl

end

/-! The commands -/

section
variable {s : State} {n : Fin 16}

theorem canRecover_starts (order : Bool) (off : s.canBusOff n = true) : Does (.canRecover n order) s [.outcome, .regs .can] fun t =>
    t.outcome = 0 ∧ t.flag Reg.CAN_STATUS_RECOVERING n = true ∧ RegsBut [Reg.CAN_STATUS_RECOVERING.key n 0] s t :=
  .next (if_pos off) ⟨rfl, State.flag_raise_self _ rfl .., ((RegsBut.refl _ s).wr (by simp) 1).of_regs rfl⟩

theorem execCanRecover_of_on (order : Bool) (on : s.canBusOff n = false) :
    exec (.canRecover n order) s = .next (if order then s.answer 14 else s) := if_neg (by simp [on])

theorem canRecover_refused (on : s.canBusOff n = false) : Does (.canRecover n true) s [.outcome, .regs .can] fun t =>
    t.outcome = 14 ∧ t.regs = s.regs := .next (execCanRecover_of_on true on) ⟨rfl, rfl⟩

/-- The counters cleared and the error state active, as the end of the recovery leaves them (R368). -/
def State.canRecovered (s : State) (n : Nat) : State :=
  (((((s.wr Reg.CAN_ECNT_TEC 0 n).wr Reg.CAN_ECNT_REC 0 n).wr Reg.CAN_STATUS_RECOVERING 0 n).wr Reg.CAN_STATUS_ERR_STATE 0 n).wr
    Reg.CAN_STATUS_WARNING 0 n).raise Reg.CAN_IRQ_ERR_STATE n

theorem recoveryComplete_clears (off : s.canBusOff n = true) (waits : s.flag Reg.CAN_STATUS_RECOVERING n = true) :
    Does (.recoveryComplete n) s [.fresh, .health, .zdp, .can, .regs .can, .regs .cnt, .regs .hl] fun t =>
    t.rd Reg.CAN_ECNT_TEC n = 0 ∧ t.rd Reg.CAN_ECNT_REC n = 0 ∧ t.rd Reg.CAN_STATUS_ERR_STATE n = 0 ∧
    t.flag Reg.CAN_STATUS_RECOVERING n = false ∧ t.flag Reg.CAN_STATUS_WARNING n = false ∧ t.flag Reg.CAN_IRQ_ERR_STATE n = true ∧
    t.rd Reg.CAN_TX_PEND_PEND n = s.rd Reg.CAN_TX_PEND_PEND n := by
  let t := ((s.canRecovered n).event .can "ERR_STATE" (0x600 + n)).canSelect n
  have kept : FieldsKept canBlock [] (s.canRecovered n) t :=
    ((FieldsKept.refl _ _ _).canEvent ..).trans (State.canSelect_kept ..)
  have same {g : Field} (block : covers canBlock g = true) : t.rd g n = (s.canRecovered n).rd g n := kept.rd block rfl n 0
  refine .next (t := t) (if_pos (by simp [off, waits])) ⟨?_, ?_, ?_, ?_, ?_, ?_, ?_⟩ <;>
    simp (disch := decide) only [State.flag, same, State.canRecovered, State.raise, State.rd_wr_disjoint, State.rd_wr_self] <;> rfl

theorem execRecoveryComplete_of_idle (idle : s.flag Reg.CAN_STATUS_RECOVERING n = false) :
    exec (.recoveryComplete n) s = .next s := if_neg (by simp [idle])

/-! Self-test -/

theorem State.canTestStart_kept (s : State) (n : Nat) :
    FieldsKept canBlock [Reg.CAN_STATUS_STATE, Reg.CAN_STATUS_BIST_PASS] (s.canWithdraw n) (s.canTestStart n) :=
  (((FieldsKept.refl _ _ _).wr (by decide) 3 n 0).wr (by decide) 0 n 0).of_regs (State.unitTesting_regs ..)

theorem canServiceTest_starts (order : Bool) (free : s.rd Reg.CAN_STATUS_STATE n < 3) :
    Does (.canServiceTest n order) s [.outcome, .health, .can, .regs .can] fun t => t.outcome = 0 ∧
    t.rd Reg.CAN_STATUS_STATE n = 3 ∧ t.flag Reg.CAN_STATUS_BIST_PASS n = false ∧ (t.canSt n).onBus = none ∧
    ∀ b : Fin 32, bitOf (t.rd Reg.CAN_TX_PEND_PEND n) b = false := by
  have regs : (s.canTestStart n).regs =
      (((s.canWithdraw n).wr Reg.CAN_STATUS_STATE 3 n).wr Reg.CAN_STATUS_BIST_PASS 0 n).regs := State.unitTesting_regs ..
  have rd (g : Field) : (s.canTestStart n).rd g n =
      (((s.canWithdraw n).wr Reg.CAN_STATUS_STATE 3 n).wr Reg.CAN_STATUS_BIST_PASS 0 n).rd g n := by
    rw [State.rd, regs, ← State.rd]
  have can : (s.canTestStart n).can = (s.canWithdraw n).can :=
    (State.unitTesting_leaves (P := 2048) (by decide) (.refl _ _) _).can (by decide)
  have state := (rd Reg.CAN_STATUS_STATE).trans ((State.rd_wr_disjoint _ (by decide) ..).trans (State.rd_wr_self ..))
  have bist : (s.canTestStart n).flag Reg.CAN_STATUS_BIST_PASS n = false :=
    congrArg (· != 0) ((rd Reg.CAN_STATUS_BIST_PASS).trans (State.rd_wr_self ..))
  have bus : ((s.canTestStart n).canSt n).onBus = none :=
    congrArg CanSt.onBus ((State.canSt_of_can can n).trans (s.canWithdraw_canSt n))
  have pend (b : Fin 32) : bitOf ((s.canTestStart n).rd Reg.CAN_TX_PEND_PEND n) b = false :=
    ((s.canTestStart_kept n).bit (by decide) (by decide) n b).trans (s.canWithdraw_pend n b)
  have e : exec (.canServiceTest n order) s = .next ((s.canTestStart n).answer 0) := if_pos (decide_eq_true free)
  generalize s.canTestStart n = t at e state bist bus pend
  exact .next e ⟨rfl, state, bist, bus, pend⟩

theorem execCanServiceTest_of_busy (order : Bool) (busy : 3 ≤ s.rd Reg.CAN_STATUS_STATE n) :
    exec (.canServiceTest n order) s = .next (if order then s.answer 15 else s) :=
  if_neg (by simp [State.canTestOk, busy])

theorem canServiceTest_refused (busy : 3 ≤ s.rd Reg.CAN_STATUS_STATE n) :
    Does (.canServiceTest n true) s [.outcome, .health, .can, .regs .can] fun t => t.outcome = 15 ∧
    t.regs = s.regs ∧ t.can = s.can ∧ t.health = s.health := .next (execCanServiceTest_of_busy true busy) ⟨rfl, rfl, rfl, rfl⟩

/-- The parts that the end of a self-test may change. -/
def canTestParts : List Part := [.dict, .fresh, .health, .zdp, .ports, .can, .regs .can, .regs .cnt, .regs .hl]

theorem State.unitTested_canKept (s : State) (slot : Nat) (pass : Bool) : FieldsKept canBlock [] s (s.unitTested slot pass) :=
  (State.unitTested_leaves (P := 103079229960) (by decide) (.refl _ s) slot pass).fieldsKept (by decide) []

theorem canSelfTestDone_passes (testing : s.rd Reg.CAN_STATUS_STATE n = 3) :
    Does (.canSelfTestDone n true) s canTestParts fun t =>
    t.rd Reg.CAN_STATUS_STATE n = 2 ∧ t.flag Reg.CAN_STATUS_BIST_PASS n = true ∧
    t.rd Reg.CAN_TX_PEND_PEND n = s.rd Reg.CAN_TX_PEND_PEND n := by
  have kept := (((s.unitTested_canKept (slotAt 6 n) true).mono (List.nil_subset _)).wr (f := Reg.CAN_STATUS_STATE)
    (fs := [Reg.CAN_STATUS_STATE, Reg.CAN_STATUS_BIST_PASS]) (by decide) 2 n 0).raise (f := Reg.CAN_STATUS_BIST_PASS) (by decide) n 0
  exact .next (if_neg (by simp [testing])) ⟨(State.rd_wr_disjoint _ (by decide) ..).trans (State.rd_wr_self ..),
    State.flag_raise_self _ rfl .., kept.rd (by decide) (by decide) n 0⟩

theorem State.canRetire_retires (s : State) (n : Nat) : (s.canRetire n).rd Reg.CAN_STATUS_STATE n = 4 ∧
    (s.canRetire n).flag Reg.CAN_IRQ_RETIRED n = true ∧
    ∀ b : Fin 32, bitOf ((s.canRetire n).rd Reg.CAN_TX_PEND_PEND n) b = false := by
  have kept : FieldsKept canBlock [Reg.CAN_STATUS_STATE, Reg.CAN_IRQ_RETIRED] (s.canWithdraw n) (s.canRetire n) :=
    ((FieldsKept.refl _ _ _).wr (by decide) 4 n 0).raise (by decide) n 0
  exact ⟨(State.rd_wr_disjoint _ (by decide) ..).trans (State.rd_wr_self ..), State.flag_raise_self _ rfl ..,
    fun b => (kept.bit (by decide) (by decide) n b).trans (s.canWithdraw_pend n b)⟩

theorem canSelfTestDone_fails (testing : s.rd Reg.CAN_STATUS_STATE n = 3) :
    Does (.canSelfTestDone n false) s canTestParts fun t =>
    t.rd Reg.CAN_STATUS_STATE n = 4 ∧ t.flag Reg.CAN_IRQ_RETIRED n = true ∧
    ∀ b : Fin 32, bitOf (t.rd Reg.CAN_TX_PEND_PEND n) b = false :=
  .next (if_neg (by simp [testing])) (State.canRetire_retires _ n)

/-! Return -/

/-- The parts that a return may change. -/
def canReturnParts : List Part := [.outcome, .fresh, .health, .can, .regs .can, .regs .hl]

theorem canServiceReturn_stays (order : Bool) (offline : s.rd Reg.CAN_STATUS_STATE n = 2) (disabled : s.canMode n = 0) :
    Does (.canServiceReturn n order) s canReturnParts fun t =>
    t.outcome = 0 ∧ t.rd Reg.CAN_STATUS_STATE n = 0 ∧ (t.unit (slotAt 6 n)).state = 0 ∧ t.can = s.can := by
  have stays : s.canReturn n = (s.unitReturned (slotAt 6 n)).wr Reg.CAN_STATUS_STATE 0 n := by
    refine if_pos ?_
    rw [State.canMode, State.unitReturned_rd _ _ _ _ (by decide), ← State.canMode, disabled]
    rfl
  exact .next ((if_pos offline).trans (congrArg (fun t : State => Host.Outcome.next (t.answer 0)) stays))
    ⟨rfl, State.rd_wr_self .., s.unitReturned_unit (slotAt 6 n) 0 0, s.unitReturned_can (slotAt 6 n) 0 0⟩

theorem canServiceReturn_restarts (order : Bool) (offline : s.rd Reg.CAN_STATUS_STATE n = 2) (given : s.canMode n ≠ 0)
    (sound : s.canCfgCause n = 0) : Does (.canServiceReturn n order) s canReturnParts fun t =>
    t.outcome = 0 ∧ t.rd Reg.CAN_STATUS_STATE n = 1 ∧ (t.unit (slotAt 6 n)).state = 0 ∧ (t.canSt n).rxSeq = 0 := by
  let u := s.unitReturned (slotAt 6 n)
  have modes : u.canMode n = s.canMode n := State.unitReturned_rd _ _ _ _ (by decide) _
  have restarts : s.canReturn n = u.canStarted n (u.canMode n) := by
    have cause : u.canCfgCause n = 0 := (s.unitReturned_canCfgCause ..).trans sound
    refine (if_neg (by simpa [← modes] using given)).trans ?_
    rw [State.canEnableIn_of_sound _ cause]
    rfl
  obtain ⟨-, state, -, seq⟩ := u.canStarted_rd n (u.canMode n)
  exact .next ((if_pos offline).trans (congrArg (fun t : State => Host.Outcome.next (t.answer 0)) restarts))
    ⟨rfl, state, s.unitReturned_unit (slotAt 6 n) 0 0, seq⟩

theorem execCanServiceReturn_of_here (order : Bool) (here : s.rd Reg.CAN_STATUS_STATE n ≠ 2) :
    exec (.canServiceReturn n order) s = .next (if order then s.answer 15 else s) := if_neg here

theorem canServiceReturn_refused (here : s.rd Reg.CAN_STATUS_STATE n ≠ 2) :
    Does (.canServiceReturn n true) s canReturnParts fun t => t.outcome = 15 ∧ t.regs = s.regs ∧ t.health = s.health :=
  .next (execCanServiceReturn_of_here true here) ⟨rfl, rfl, rfl⟩

end

end Sys2Proof.Machine
end
section
/-! O19: the modes of a CAN controller, one clause each. -/

namespace Sys2Proof.Machine

/-- Settles O19: each command withdraws the requests or writes a few fields of its controller, and the bookkeeping of the unit and
the records that go with it lie in other blocks. -/
theorem canModes : Obligations.CanModes := by
  unfold Obligations.CanModes
  exact ⟨fun _ _ _ => canEnable_starts, fun _ _ _ => canEnable_names, fun _ _ _ on => if_pos (.inl on),
    fun _ _ _ => canEnable_already, fun _ _ _ => canEnable_refused, fun _ _ _ => canEnable_loads, fun _ _ _ => canEnable_unfit,
    fun _ _ => canDisable_stops, fun _ _ => canRecover_starts, fun _ _ => canRecover_refused,
    fun _ _ => execCanRecover_of_on false, fun _ _ => recoveryComplete_clears, fun _ _ => execRecoveryComplete_of_idle,
    fun _ _ => canServiceTest_starts, fun _ _ => canServiceTest_refused, fun _ _ => execCanServiceTest_of_busy false,
    fun _ _ => canSelfTestDone_passes, fun _ _ => canSelfTestDone_fails, fun _ _ _ other => if_pos other,
    fun _ _ => canServiceReturn_stays, fun _ _ => canServiceReturn_restarts, fun _ _ => canServiceReturn_refused,
    fun _ _ => execCanServiceReturn_of_here false⟩

end Sys2Proof.Machine
end

section
/-! SUPPORT. Requests and cancels of transmit buffers (R358, R359, R362, R363). -/

namespace Sys2Proof.Machine

/-- A pass over a list that meets `x` once: what the passes before it keep leads to what the passes after it keep. -/
theorem foldl_holds_once {α σ : Type} {step : σ → α → σ} {I Q : σ → Prop} {l : List α} {x : α} {s : σ} (once : l.Nodup)
    (mem : x ∈ l) (start : I s) (keep : ∀ u y, y ≠ x → I u → I (step u y)) (own : ∀ u, I u → Q (step u x))
    (other : ∀ u y, y ≠ x → Q u → Q (step u y)) : Q (l.foldl step s) := by
  obtain ⟨before, after, rfl⟩ := List.append_of_mem mem
  have away : x ∉ before ++ after := (List.nodup_cons.1 (List.nodup_middle.1 once)).1
  rw [List.foldl_append, List.foldl_cons]
  have reached : I (before.foldl step s) := List.foldlRecOn before step start fun u hu y hy =>
    keep u y (fun same => away (same ▸ List.mem_append_left _ hy)) hu
  exact List.foldlRecOn after step (own _ reached) fun u hu y hy =>
    other u y (fun same => away (same ▸ List.mem_append_right _ hy)) hu

/-! A request -/

/-- The fields that a write of CAN_TX_REQ may change. -/
def requestFields : List Field := [Reg.CAN_TX_PEND_PEND, Reg.CAN_STATUS_TX_REQ_IGNORED]

/-- What a write of CAN_TX_REQ does for buffer `b` (R358). -/
def State.canReqStep (n v : Nat) (s : State) (b : Nat) : State :=
  if !bitOf v b then s
  else if bitOf (s.rd Reg.CAN_TX_PEND_PEND n) b then s
  else if s.canReqOk n b then s.canRequest n b
  else s.raise Reg.CAN_STATUS_TX_REQ_IGNORED n

/-- What a write of CAN_TX_REQ does before the next frame is selected. -/
def State.canRequested (s : State) (n v : Nat) : State := (List.range 32).foldl (State.canReqStep n v) s

theorem execCanTxReq_eq (s : State) (n : Fin 16) (v : Word) :
    exec (.canTxReq n v) s = .next ((s.canRequested n v.toNat).canSelect n) := rfl

section
variable {s t : State} {n v b : Nat}

/-- The checks of a request look at the buffer and at fields that no request writes. -/
theorem State.canReqOk_of_kept (kept : FieldsKept canBlock requestFields s t) (held : CanHeld n s t) (b : Nat) :
    t.canReqOk n b = s.canReqOk n b := by
  have same {g : Field} (block : covers canBlock g = true) (apart : requestFields.all g.disjoint = true) : t.rd g n = s.rd g n :=
    kept.rd block apart n 0
  simp (disch := decide) only [State.canReqOk, held.word, State.canSends, State.canMode, State.canBusOff, State.nominalUnits,
    State.dataUnits, State.flag, same]
  rfl

theorem State.canSends_of_canReqOk (ok : s.canReqOk n b = true) : s.canSends n = true := by
  simp only [State.canReqOk, Bool.and_eq_true] at ok
  exact ok.1.1.1.1

theorem State.canRequest_held (s : State) (n b : Nat) : CanHeld n s (s.canRequest n b) := by
  unfold State.canRequest
  exact .ite (.refl n s) (((CanHeld.refl n s).wr ..).setCan fun _ => ⟨rfl, rfl, rfl, rfl, fun _ => id⟩)

theorem State.canRequest_bus (s : State) (n b : Nat) : ((s.canRequest n b).canSt n).onBus = (s.canSt n).onBus ∧
    ((s.canRequest n b).canSt n).busBusy = (s.canSt n).busBusy := by
  unfold State.canRequest
  split
  · exact ⟨rfl, rfl⟩
  · dsimp only
    rw [State.canSt_setCan_self]
    exact ⟨rfl, rfl⟩

theorem State.canRequest_pend (s : State) (n b : Nat) {c : Nat} (low : c < 32) :
    bitOf ((s.canRequest n b).rd Reg.CAN_TX_PEND_PEND n) c = (bitOf (s.rd Reg.CAN_TX_PEND_PEND n) c || decide (b = c)) := by
  unfold State.canRequest
  split
  case isTrue pend =>
    by_cases same : b = c
    · rw [← same, pend, Bool.true_or]
    · simp [same]
  case isFalse => exact s.bitOf_setBitIn b n 0 low

end

section
variable (s : State) (n v b : Nat)

theorem State.canReqStep_kept : FieldsKept canBlock requestFields s (s.canReqStep n v b) :=
  .ite (.refl _ _ s) (.ite (.refl _ _ s) (.ite ((s.canRequest_kept n b).mono (by decide)) ((FieldsKept.refl _ _ s).raise (by decide) n 0)))

theorem State.canReqStep_held : CanHeld n s (s.canReqStep n v b) :=
  .ite (.refl n s) (.ite (.refl n s) (.ite (s.canRequest_held n b) ((CanHeld.refl n s).wr ..)))

theorem State.canReqStep_bus : ((s.canReqStep n v b).canSt n).onBus = (s.canSt n).onBus ∧
    ((s.canReqStep n v b).canSt n).busBusy = (s.canSt n).busBusy := by
  unfold State.canReqStep
  split_ifs
  · exact ⟨rfl, rfl⟩
  · exact ⟨rfl, rfl⟩
  · exact s.canRequest_bus n b
  · exact ⟨rfl, rfl⟩

theorem State.canReqStep_leaves : Leaves (2 ^ 31 + 2 ^ 18) s (s.canReqStep n v b) := by
  have same := Leaves.refl (2 ^ 31 + 2 ^ 18) s
  exact .ite (fun _ => same) fun _ => .ite (fun _ => same) fun _ =>
    .ite (fun _ => State.canRequest_leaves (by decide) same n b) fun _ => State.raise_leaves same _ (by decide) n 0

theorem State.canReqStep_pend {c : Nat} (low : c < 32) : bitOf ((s.canReqStep n v b).rd Reg.CAN_TX_PEND_PEND n) c =
    (bitOf (s.rd Reg.CAN_TX_PEND_PEND n) c || (decide (b = c) && bitOf v c && s.canReqOk n c)) := by
  by_cases same : b = c
  case neg =>
    have other : bitOf ((s.canReqStep n v b).rd Reg.CAN_TX_PEND_PEND n) c = bitOf (s.rd Reg.CAN_TX_PEND_PEND n) c := by
      unfold State.canReqStep
      split_ifs
      · rfl
      · rfl
      · simp [s.canRequest_pend n b low, same]
      · exact congrArg (bitOf · c) (State.rd_wr_disjoint _ (by decide) ..)
    simp [other, same]
  case pos =>
    subst same
    unfold State.canReqStep
    split_ifs with out pend ok
    · simp_all
    · simp [pend]
    · have asked : bitOf v b = true := by simpa using out
      simp [s.canRequest_pend n b low, asked, ok]
    · have refused : s.canReqOk n b = false := by simpa using ok
      rw [refused, Bool.and_false, Bool.or_false]
      exact congrArg (bitOf · b) (State.rd_wr_disjoint _ (by decide) ..)

theorem State.canReqStep_lt (small : s.rd Reg.CAN_TX_PEND_PEND n < 2 ^ 32) :
    (s.canReqStep n v b).rd Reg.CAN_TX_PEND_PEND n < 2 ^ 32 := by
  have request : (s.canRequest n b).rd Reg.CAN_TX_PEND_PEND n < 2 ^ 32 := by
    unfold State.canRequest
    split
    · exact small
    · exact (congrArg (· < 2 ^ 32) (State.rd_wr_self ..)).mpr (Nat.mod_lt _ (Nat.two_pow_pos 32))
  unfold State.canReqStep
  split_ifs
  · exact small
  · exact small
  · exact request
  · exact (congrArg (· < 2 ^ 32) (State.rd_wr_disjoint _ (by decide) ..)).mpr small

/-- TX_REQ_IGNORED stays set. -/
theorem State.canReqStep_ignored (set : s.flag Reg.CAN_STATUS_TX_REQ_IGNORED n = true) :
    (s.canReqStep n v b).flag Reg.CAN_STATUS_TX_REQ_IGNORED n = true := by
  unfold State.canReqStep
  split_ifs
  · exact set
  · exact set
  · exact ((s.canRequest_kept n b).flag (by decide) (by decide) n 0).trans set
  · exact State.flag_raise_self _ rfl ..

/-! The whole write -/

theorem State.canRequested_held : CanHeld n s (s.canRequested n v) :=
  List.foldlRecOn (motive := fun t => CanHeld n s t) _ _ (.refl n s) fun u h b _ => h.trans (u.canReqStep_held n v b)

theorem State.canRequested_bus : ((s.canRequested n v).canSt n).onBus = (s.canSt n).onBus ∧
    ((s.canRequested n v).canSt n).busBusy = (s.canSt n).busBusy :=
  List.foldlRecOn (motive := fun t : State => (t.canSt n).onBus = (s.canSt n).onBus ∧ (t.canSt n).busBusy = (s.canSt n).busBusy) _ _
    ⟨rfl, rfl⟩ fun u h b _ => ⟨(u.canReqStep_bus n v b).1.trans h.1, (u.canReqStep_bus n v b).2.trans h.2⟩

theorem State.canRequested_kept : FieldsKept canBlock requestFields s (s.canRequested n v) :=
  .foldl (fun u b => u.canReqStep_kept n v b) _ s

/-- A buffer is pending after the write if it was, or if it is asked for and passes the checks. -/
theorem State.canRequested_pend {c : Nat} (low : c < 32) : bitOf ((s.canRequested n v).rd Reg.CAN_TX_PEND_PEND n) c =
    (bitOf (s.rd Reg.CAN_TX_PEND_PEND n) c || (bitOf v c && s.canReqOk n c)) := by
  have pass (l : List Nat) (u : State) : bitOf ((l.foldl (State.canReqStep n v) u).rd Reg.CAN_TX_PEND_PEND n) c =
      (bitOf (u.rd Reg.CAN_TX_PEND_PEND n) c || (decide (c ∈ l) && bitOf v c && u.canReqOk n c)) := by
    induction l generalizing u with
    | nil => simp
    | cons b l ih =>
      have ok : (u.canReqStep n v b).canReqOk n c = u.canReqOk n c :=
        State.canReqOk_of_kept (u.canReqStep_kept n v b) (u.canReqStep_held n v b) c
      rw [List.foldl_cons, ih, ok, u.canReqStep_pend n v b low]
      by_cases here : b = c
      · subst here
        cases bitOf v b && u.canReqOk n b <;> simp_all
      · simp [here, Ne.symm here]
  refine (pass _ s).trans ?_
  simp [low]

theorem State.canRequested_ignored {b : Nat} (low : b < 32) (asked : bitOf v b = true) (bad : s.canReqOk n b = false)
    (free : bitOf (s.rd Reg.CAN_TX_PEND_PEND n) b = false) :
    (s.canRequested n v).flag Reg.CAN_STATUS_TX_REQ_IGNORED n = true := by
  refine foldl_holds_once (x := b) (I := fun u : State => u.canReqOk n b = false ∧ bitOf (u.rd Reg.CAN_TX_PEND_PEND n) b = false)
    (Q := fun u : State => u.flag Reg.CAN_STATUS_TX_REQ_IGNORED n = true) List.nodup_range (List.mem_range.2 low) ⟨bad, free⟩
    (fun u y _ ⟨bad, free⟩ => ⟨?_, ?_⟩) (fun u ⟨bad, free⟩ => ?_) fun u y _ set => u.canReqStep_ignored n v y set
  · rw [State.canReqOk_of_kept (u.canReqStep_kept n v y) (u.canReqStep_held n v y), bad]
  · rw [u.canReqStep_pend n v y low, free, bad, Bool.and_false, Bool.or_false]
  · simp only [State.canReqStep, asked, free, bad, Bool.not_true, Bool.false_eq_true, if_false]
    exact State.flag_raise_self _ rfl ..

theorem State.canRequested_canCount : (s.canRequested n v).canCount n = s.canCount n := by
  have leaves : Leaves (2 ^ 31 + 2 ^ 18) s (s.canRequested n v) :=
    .foldl (fun u b h => h.trans (u.canReqStep_leaves n v b)) _ (.refl _ s)
  simp only [State.canCount, State.now, State.base, State.canBase, leaves.time (by decide),
    State.objN_of_dict (leaves.dict (by decide))]

end

theorem filter_bitOf_two_pow : ∀ b : Fin 32, (List.range 32).filter (bitOf (2 ^ b.val)) = [b.val] := by decide

section
variable {s : State} {n : Fin 16} {v : Word} {b : Fin 32}

/-- The parts that a write of CAN_TX_REQ may change. -/
def canReqParts : List Part := [.can, .regs .can, .regs .cnt]

theorem State.canTxReq_pend (s : State) (n v : Nat) (b : Fin 32) :
    bitOf (((s.canRequested n v).canSelect n).rd Reg.CAN_TX_PEND_PEND n) b =
    (bitOf (s.rd Reg.CAN_TX_PEND_PEND n) b || (bitOf v b && s.canReqOk n b)) :=
  ((State.canSelect_kept _ n).bit (by decide) rfl n b).trans (s.canRequested_pend n v b.isLt)

theorem canTxReq_requests (asked : bitOf v.toNat b = true) (ok : s.canReqOk n b = true) :
    Does (.canTxReq n v) s canReqParts fun t =>
    bitOf (t.rd Reg.CAN_TX_PEND_PEND n) b = true ∧ (t.canSt n).buf = (s.canSt n).buf := by
  refine .next (execCanTxReq_eq s n v) ⟨?_, ((s.canRequested_held n v.toNat).trans (State.canSelect_held _ n)).buf⟩
  rw [State.canTxReq_pend, asked, ok]
  exact Bool.or_true _

theorem canTxReq_ignores (asked : bitOf v.toNat b = true) (bad : s.canReqOk n b = false)
    (free : bitOf (s.rd Reg.CAN_TX_PEND_PEND n) b = false) : Does (.canTxReq n v) s canReqParts fun t =>
    bitOf (t.rd Reg.CAN_TX_PEND_PEND n) b = false ∧ t.flag Reg.CAN_STATUS_TX_REQ_IGNORED n = true := by
  refine .next (execCanTxReq_eq s n v) ⟨?_, ?_⟩
  · rw [State.canTxReq_pend, free, bad, Bool.and_false]
    rfl
  · exact ((State.canSelect_kept _ n).flag (by decide) rfl n 0).trans (s.canRequested_ignored n _ b.isLt asked bad free)

theorem canTxReq_others (out : bitOf v.toNat b = false) : Does (.canTxReq n v) s canReqParts fun t =>
    bitOf (t.rd Reg.CAN_TX_PEND_PEND n) b = bitOf (s.rd Reg.CAN_TX_PEND_PEND n) b := by
  refine .next (execCanTxReq_eq s n v) ?_
  rw [State.canTxReq_pend, out, Bool.false_and, Bool.or_false]

theorem canTxReq_starts (single : v.toNat = 2 ^ b.val) (ok : s.canReqOk n b = true) (empty : s.rd Reg.CAN_TX_PEND_PEND n = 0)
    (free : (s.canSt n).onBus = none) (idle : (s.canSt n).busBusy = false) : Does (.canTxReq n v) s canReqParts fun t =>
    (t.canSt n).onBus = some (b.val, s.canCount n) ∧ t.rd Reg.CAN_TX_PEND_PEND n = 2 ^ b.val := by
  obtain ⟨bus, busy⟩ := s.canRequested_bus n v.toNat
  have small : (s.canRequested n v.toNat).rd Reg.CAN_TX_PEND_PEND n < 2 ^ 32 :=
    List.foldlRecOn (motive := fun u : State => u.rd Reg.CAN_TX_PEND_PEND n < 2 ^ 32) _ _ (by simp [empty])
      fun u h x _ => u.canReqStep_lt n v.toNat x h
  have pend : (s.canRequested n v.toNat).rd Reg.CAN_TX_PEND_PEND n = 2 ^ b.val := by
    refine Nat.eq_of_testBit_eq fun c => ?_
    by_cases low : c < 32
    · rw [← bitOf_eq_testBit, s.canRequested_pend n _ low, empty, single, bitOf_zero, bitOf_two_pow, Nat.testBit_two_pow]
      by_cases same : b.val = c
      · simp [← same, ok]
      · simp [same]
    · have high : 2 ^ 32 ≤ 2 ^ c := Nat.pow_le_pow_right (by decide) (Nat.not_lt.1 low)
      rw [Nat.testBit_lt_two_pow (lt_of_lt_of_le small high), Nat.testBit_two_pow]
      exact (decide_eq_false (by have := b.isLt; omega)).symm
  have pending : (s.canRequested n v.toNat).canPending n = [b.val] := by
    rw [State.canPending, pend]
    exact filter_bitOf_two_pow b
  have sends : (s.canRequested n v.toNat).canSends n = true :=
    State.canSends_of_canReqOk (b := b)
      ((State.canReqOk_of_kept (s.canRequested_kept n v.toNat) (s.canRequested_held n v.toNat) b).trans ok)
  refine .next (execCanTxReq_eq s n v) ⟨?_, ((State.canSelect_kept _ n).rd (by decide) rfl n 0).trans pend⟩
  rw [State.canSelect_of_single (bus.trans free) (busy.trans idle) sends pending, State.canRequested_canCount]

end

/-! A cancel -/

/-- The frame on the bus is that of buffer `b`. -/
def State.canOnBus (s : State) (n b : Nat) : Bool :=
  match (s.canSt n).onBus with
  | some p => p.1 == b
  | none => false

/-- What a write of CAN_TX_CANCEL does for buffer `b` (R362, R363). -/
def State.canCancelStep (n v : Nat) (s : State) (b : Nat) : State :=
  if !bitOf v b || !bitOf (s.rd Reg.CAN_TX_PEND_PEND n) b then s
  else if s.canOnBus n b then s.setCan n fun c => { c with heldCancel := true }
  else s.canCancelReq n b

theorem execCanTxCancel_eq (s : State) (n : Fin 16) (v : Word) :
    exec (.canTxCancel n v) s = .next ((List.range 32).foldl (State.canCancelStep n v.toNat) s) := rfl

section
variable (s : State) (n b : Nat)

theorem State.canCancelReq_pend {c : Nat} (low : c < 32) : bitOf ((s.canCancelReq n b).rd Reg.CAN_TX_PEND_PEND n) c =
    (bitOf (s.rd Reg.CAN_TX_PEND_PEND n) c && decide (b ≠ c)) := s.canEndAs_pend n b (by decide) low

theorem State.canCancelReq_cancelled {c : Nat} (low : c < 32) :
    bitOf ((s.canCancelReq n b).rd Reg.CAN_TX_CANCELLED_CANCELLED n) c =
    (bitOf (s.rd Reg.CAN_TX_CANCELLED_CANCELLED n) c || decide (b = c)) := s.canEndAs_bit n b rfl (by decide) low

theorem State.canCancelReq_irq : (s.canCancelReq n b).flag Reg.CAN_IRQ_CANCELLED n = true := s.canEndAs_irq n b rfl

/-- The request of buffer `b` has ended cancelled. -/
def State.canCancelled : Prop := bitOf (s.rd Reg.CAN_TX_PEND_PEND n) b = false ∧
  bitOf (s.rd Reg.CAN_TX_CANCELLED_CANCELLED n) b = true ∧ s.flag Reg.CAN_IRQ_CANCELLED n = true

theorem State.canCancelReq_ends (low : b < 32) : (s.canCancelReq n b).canCancelled n b := by
  refine ⟨?_, ?_, s.canCancelReq_irq n b⟩
  · simp [s.canCancelReq_pend n b low]
  · simp [s.canCancelReq_cancelled n b low]

end

section
variable {s : State} {n v b : Nat}

/-- One pass of a cancel: nothing, a cancel held, or a request cancelled. -/
theorem State.canCancelStep_cases (s : State) (n v b : Nat) : s.canCancelStep n v b = s ∨
    (s.canOnBus n b = true ∧ s.canCancelStep n v b = s.setCan n fun c => { c with heldCancel := true }) ∨
    (s.canOnBus n b = false ∧ s.canCancelStep n v b = s.canCancelReq n b) := by
  unfold State.canCancelStep
  split_ifs with out here
  · exact .inl rfl
  · exact .inr (.inl ⟨here, rfl⟩)
  · exact .inr (.inr ⟨by simpa using here, rfl⟩)

theorem State.canCancelStep_onBus (s : State) (n v b : Nat) : ((s.canCancelStep n v b).canSt n).onBus = (s.canSt n).onBus := by
  rcases s.canCancelStep_cases n v b with e | ⟨-, e⟩ | ⟨-, e⟩ <;> rw [e]
  · rw [State.canSt_setCan_self]
  · rfl

theorem State.canCancelStep_pend_other (s : State) (v : Nat) {x : Nat} (low : b < 32) (other : x ≠ b) :
    bitOf ((s.canCancelStep n v x).rd Reg.CAN_TX_PEND_PEND n) b = bitOf (s.rd Reg.CAN_TX_PEND_PEND n) b := by
  rcases s.canCancelStep_cases n v x with e | ⟨-, e⟩ | ⟨-, e⟩ <;> rw [e]
  · rfl
  · simp [s.canCancelReq_pend n x low, other]

theorem State.canCancelled_step {x : Nat} (done : s.canCancelled n b) (low : b < 32) :
    (s.canCancelStep n v x).canCancelled n b := by
  obtain ⟨pend, cancelled, irq⟩ := done
  rcases s.canCancelStep_cases n v x with e | ⟨-, e⟩ | ⟨-, e⟩ <;> rw [e]
  · exact ⟨pend, cancelled, irq⟩
  · exact ⟨pend, cancelled, irq⟩
  · refine ⟨?_, ?_, s.canCancelReq_irq n x⟩
    · simp [s.canCancelReq_pend n x low, pend]
    · simp [s.canCancelReq_cancelled n x low, cancelled]

theorem State.canCancelStep_held (s : State) (n v x : Nat) (set : (s.canSt n).heldCancel = true) :
    ((s.canCancelStep n v x).canSt n).heldCancel = true := by
  rcases s.canCancelStep_cases n v x with e | ⟨-, e⟩ | ⟨-, e⟩ <;> rw [e]
  · exact set
  · exact congrArg CanSt.heldCancel (State.canSt_setCan_self ..)
  · exact set

end

section
variable {s : State} {n : Fin 16} {v : Word} {b : Fin 32} (asked : bitOf v.toNat b = true)
  (pend : bitOf (s.rd Reg.CAN_TX_PEND_PEND n) b = true)
include asked pend

theorem canTxCancel_holds {ts : Nat} (bus : (s.canSt n).onBus = some (b.val, ts)) : Does (.canTxCancel n v) s [.can, .regs .can] fun t =>
    bitOf (t.rd Reg.CAN_TX_PEND_PEND n) b = true ∧ (t.canSt n).heldCancel = true ∧ (t.canSt n).onBus = some (b.val, ts) := by
  refine .next (execCanTxCancel_eq s n v) (foldl_holds_once (x := b.val)
    (I := fun u : State => bitOf (u.rd Reg.CAN_TX_PEND_PEND n) b = true ∧ (u.canSt n).onBus = some (b.val, ts))
    (Q := fun u : State => bitOf (u.rd Reg.CAN_TX_PEND_PEND n) b = true ∧ (u.canSt n).heldCancel = true ∧
      (u.canSt n).onBus = some (b.val, ts)) List.nodup_range (List.mem_range.2 b.isLt) ⟨pend, bus⟩ ?_ ?_ ?_)
  · rintro u x other ⟨pend, bus⟩
    exact ⟨(u.canCancelStep_pend_other v.toNat b.isLt other).trans pend, (u.canCancelStep_onBus n v.toNat x).trans bus⟩
  · rintro u ⟨pend, bus⟩
    have step : u.canCancelStep n v.toNat b = u.setCan n fun c => { c with heldCancel := true } := by
      simp [State.canCancelStep, asked, pend, State.canOnBus, bus]
    rw [step, State.canSt_setCan_self]
    exact ⟨pend, rfl, bus⟩
  · rintro u x other ⟨pend, held, bus⟩
    exact ⟨(u.canCancelStep_pend_other v.toNat b.isLt other).trans pend, u.canCancelStep_held n v.toNat x held,
      (u.canCancelStep_onBus n v.toNat x).trans bus⟩

theorem canTxCancel_ends (free : (s.canSt n).onBus = none) : Does (.canTxCancel n v) s [.can, .regs .can] fun t =>
    bitOf (t.rd Reg.CAN_TX_PEND_PEND n) b = false ∧ bitOf (t.rd Reg.CAN_TX_CANCELLED_CANCELLED n) b = true ∧
    t.flag Reg.CAN_IRQ_CANCELLED n = true := by
  refine .next (execCanTxCancel_eq s n v) (foldl_holds_once (x := b.val)
    (I := fun u : State => bitOf (u.rd Reg.CAN_TX_PEND_PEND n) b = true ∧ (u.canSt n).onBus = none)
    (Q := fun u : State => u.canCancelled n b) List.nodup_range (List.mem_range.2 b.isLt) ⟨pend, free⟩ ?_ ?_ ?_)
  · rintro u x other ⟨pend, free⟩
    exact ⟨(u.canCancelStep_pend_other v.toNat b.isLt other).trans pend, (u.canCancelStep_onBus n v.toNat x).trans free⟩
  · rintro u ⟨pend, free⟩
    have step : u.canCancelStep n v.toNat b = u.canCancelReq n b := by
      simp [State.canCancelStep, asked, pend, State.canOnBus, free]
    exact step ▸ u.canCancelReq_ends n b b.isLt
  · exact fun u x _ done => State.canCancelled_step done b.isLt

end

end Sys2Proof.Machine
end

section
/-! SUPPORT. The receive ring (R354 to R356) and a received frame of a CAN controller (R366, R398). -/

namespace Sys2Proof.Machine

/-! The ring -/

@[simp] theorem padTo_length (n : Nat) (bs : List Byte) : (padTo n bs).length = n := by
  rw [padTo, List.length_append, List.length_take, List.length_replicate]
  omega

/-- A receive entry has 80 bytes (R354). -/
@[simp] theorem canEntry_length (f : CanFrame) (own : Bool) (gen ts seq : Nat) : (canEntry f own gen ts seq).length = 80 := by
  simp [canEntry]

/-- The place of the next entry in the Grist store. -/
def State.canEntryAt (s : State) (n : Nat) : Nat :=
  s.rd Reg.CAN_RX_BASE_BASE n * 64 + 80 * (s.rd Reg.CAN_RX_HEAD_HEAD n % s.canRingSize n)

/-- A frame numbered. -/
def CanSt.numbered (c : CanSt) : CanSt := { c with rxSeq := (c.rxSeq + 1) % 2 ^ 32 }

/-- A frame lost. -/
def CanSt.lost (c : CanSt) : CanSt := { c with rxLost := (c.rxLost + 1) % 2 ^ 32 }

/-- An entry unread since `now`. -/
def CanSt.entered (now : Nat) (c : CanSt) : CanSt := { c with unread := c.unread ++ [now] }

/-- The fields that an entry of the ring, or its loss, changes. -/
def storeFields : List Field := [Reg.CAN_RX_LOST_LOST, Reg.CAN_IRQ_RX_LOST, Reg.CAN_RX_HEAD_HEAD, Reg.CAN_IRQ_RX]

section
variable (s : State) (n : Nat)

theorem State.canRxIrq_kept : FieldsKept canBlock [Reg.CAN_IRQ_RX] s (s.canRxIrq n) := by
  unfold State.canRxIrq
  exact .ite ((FieldsKept.refl _ _ s).raise (by decide) n 0) (.refl _ _ s)

theorem State.canRxIrq_can : (s.canRxIrq n).can = s.can ∧ (s.canRxIrq n).mem = s.mem := by
  unfold State.canRxIrq
  dsimp only
  split_ifs <;> exact ⟨rfl, rfl⟩

theorem State.canRxIrq_of_late {s : State} {n stored : Nat} {rest : List Nat} (unread : (s.canSt n).unread = stored :: rest)
    (late : s.elapsed stored (s.rd Reg.CAN_RX_CFG_IRQ_TIME n * 10000) = true) : s.canRxIrq n = s.raise Reg.CAN_IRQ_RX n := by
  simp [State.canRxIrq, unread, late]

/-- What a lost frame changes (R355). -/
def State.canDrop : State :=
  ((((s.setCan n CanSt.numbered).incSat Reg.CAN_RX_LOST_LOST n).raise Reg.CAN_IRQ_RX_LOST n).setCan n CanSt.lost).count 0x604 (some n)

/-- What a stored frame changes, its entry being `bs` (R354). -/
def State.canEnter (bs : List Byte) : State :=
  ((((s.setCan n CanSt.numbered).gristPut (s.canEntryAt n) bs).wr Reg.CAN_RX_HEAD_HEAD
    ((s.rd Reg.CAN_RX_HEAD_HEAD n % s.canRingSize n + 1) % s.canRingSize n) n).setCan n (CanSt.entered s.tb3)).canRxIrq n

theorem State.canStore_eq (f : CanFrame) (own : Bool) (ts : Nat) : s.canStore n f own ts =
    if s.canUnread n + 1 == s.canRingSize n then s.canDrop n
    else s.canEnter n (canEntry f own (s.canStepGen n) ts (s.canSt n).rxSeq) := rfl

theorem State.canDrop_kept : FieldsKept canBlock [Reg.CAN_RX_LOST_LOST, Reg.CAN_IRQ_RX_LOST] s (s.canDrop n) :=
  (((((FieldsKept.refl _ _ s).setCan n CanSt.numbered).wr (by decide) _ n 0).raise (by decide) n 0).setCan n CanSt.lost).canCount ..

theorem State.canDrop_can : (s.canDrop n).can = ((s.setCan n CanSt.numbered).setCan n CanSt.lost).can :=
  (State.count_leaves (P := 2 ^ 35) (by decide) (.refl _ _) 0x604 (some n) 1).can (by decide)

theorem State.canDrop_mem : (s.canDrop n).mem = s.mem :=
  (State.count_leaves (P := 2 ^ 35) (by decide) (.refl _ _) 0x604 (some n) 1).mem (by decide)

theorem State.canDrop_rd : (s.canDrop n).flag Reg.CAN_IRQ_RX_LOST n = true ∧
    (s.canDrop n).rd Reg.CAN_RX_LOST_LOST n = min (2 ^ 32 - 1) (s.rd Reg.CAN_RX_LOST_LOST n + 1) := by
  have counted (t : State) : FieldsKept canBlock [] t (t.count 0x604 (some n)) := (FieldsKept.refl _ _ t).canCount ..
  exact ⟨((counted _).flag (by decide) rfl n 0).trans (State.flag_raise_self _ rfl ..),
    ((counted _).rd (by decide) rfl n 0).trans
      ((State.rd_wr_disjoint _ (by decide) ..).trans (State.incSat_rd_self (s.setCan n CanSt.numbered) ..))⟩

section
variable (bs : List Byte)

theorem State.canEnter_kept : FieldsKept canBlock [Reg.CAN_RX_HEAD_HEAD, Reg.CAN_IRQ_RX] s (s.canEnter n bs) := by
  have put : FieldsKept canBlock [Reg.CAN_RX_HEAD_HEAD, Reg.CAN_IRQ_RX] s
      ((s.setCan n CanSt.numbered).gristPut (s.canEntryAt n) bs) := .of_regs (.refl _ _ s) rfl
  exact ((put.wr (by decide) _ n 0).setCan n _).andThen (State.canRxIrq_kept _ n) (by decide)

theorem State.canEnter_can : (s.canEnter n bs).can = ((s.setCan n CanSt.numbered).setCan n (CanSt.entered s.tb3)).can :=
  (State.canRxIrq_can _ n).1

theorem State.canEnter_head : (s.canEnter n bs).rd Reg.CAN_RX_HEAD_HEAD n =
    (s.rd Reg.CAN_RX_HEAD_HEAD n % s.canRingSize n + 1) % s.canRingSize n % 2 ^ 14 :=
  ((State.canRxIrq_kept _ n).rd (by decide) (by decide) n 0).trans (State.rd_wr_self ..)

theorem State.canEnter_memBut (len : bs.length = 80) : MemBut (gristBase + s.canEntryAt n) 80 s (s.canEnter n bs) := by
  have put : MemBut (gristBase + s.canEntryAt n) 80 s ((s.setCan n CanSt.numbered).gristPut (s.canEntryAt n) bs) :=
    MemBut.gristPut (t := s.setCan n CanSt.numbered) (.refl _ _ s) ⟨le_rfl, by omega⟩
  exact put.of_mem (State.canRxIrq_can _ n).2

end

section
variable (f : CanFrame) (own : Bool) (ts : Nat)

theorem State.canStore_kept : FieldsKept canBlock storeFields s (s.canStore n f own ts) := by
  rw [State.canStore_eq]
  exact .ite ((s.canDrop_kept n).mono (by decide)) ((s.canEnter_kept n _).mono (by decide))

theorem State.canStore_held : CanHeld n (s.setCan n CanSt.numbered) (s.canStore n f own ts) := by
  have numbered : CanHeld n (s.setCan n CanSt.numbered) (s.setCan n CanSt.numbered) := .refl ..
  rw [State.canStore_eq]
  exact .ite ((numbered.setCan (f := CanSt.lost) fun _ => ⟨rfl, rfl, rfl, rfl, fun _ => id⟩).of_can (s.canDrop_can n))
    ((numbered.setCan (f := CanSt.entered s.tb3) fun _ => ⟨rfl, rfl, rfl, rfl, fun _ => id⟩).of_can (s.canEnter_can n _))

theorem State.canStore_memBut : MemBut (gristBase + s.canEntryAt n) 80 s (s.canStore n f own ts) := by
  rw [State.canStore_eq]
  split
  · exact (MemBut.refl _ _ s).of_mem (s.canDrop_mem n)
  · exact s.canEnter_memBut n _ (canEntry_length ..)

variable {s n}

theorem State.canStore_of_full (full : s.canUnread n + 1 = s.canRingSize n) : s.canStore n f own ts = s.canDrop n :=
  (s.canStore_eq n f own ts).trans (if_pos (by simpa using full))

theorem State.canStore_of_room (room : s.canUnread n + 1 ≠ s.canRingSize n) :
    s.canStore n f own ts = s.canEnter n (canEntry f own (s.canStepGen n) ts (s.canSt n).rxSeq) :=
  (s.canStore_eq n f own ts).trans (if_neg (by simpa using room))

end

end

/-- The ring of a state whose controller has its places is the ring of the other. -/
structure RingKept (n : Nat) (s t : State) : Prop where
  size : t.canRingSize n = s.canRingSize n
  unread : t.canUnread n = s.canUnread n
  entryAt : t.canEntryAt n = s.canEntryAt n

/-- An operation that writes none of the ring's registers keeps the ring. -/
theorem FieldsKept.ring {fs : List Field} {s t : State} (h : FieldsKept canBlock fs s t)
    (apart : [Reg.CAN_RX_CFG_LOG2, Reg.CAN_RX_HEAD_HEAD, Reg.CAN_RX_TAIL_TAIL, Reg.CAN_RX_BASE_BASE].all
      (fun g => fs.all g.disjoint) = true) (n : Nat) : RingKept n s t := by
  have same {g : Field} (mem : g ∈ [Reg.CAN_RX_CFG_LOG2, Reg.CAN_RX_HEAD_HEAD, Reg.CAN_RX_TAIL_TAIL, Reg.CAN_RX_BASE_BASE]) :
      t.rd g n = s.rd g n := by
    refine h.rd ?_ (List.all_eq_true.1 apart g mem) n 0
    exact (List.all_eq_true (p := covers canBlock)).1 (by decide) g mem
  constructor <;>
    simp (disch := decide) only [State.canUnread, State.canEntryAt, State.canRingSize, same]

/-! Commands of the ring -/

section
variable {s : State} {n : Fin 16} {v : Word}

theorem canRxIrqTimeout_raises {stored : Nat} {rest : List Nat} (unread : (s.canSt n).unread = stored :: rest)
    (late : s.elapsed stored (s.rd Reg.CAN_RX_CFG_IRQ_TIME n * 10000) = true) : Does (.canRxIrqTimeout n) s [.regs .can] fun t =>
    t.flag Reg.CAN_IRQ_RX n = true ∧ t.can = s.can ∧ RegsBut [Reg.CAN_IRQ_RX.key n 0] s t :=
  .next (congrArg Host.Outcome.next (State.canRxIrq_of_late unread late))
    ⟨State.flag_raise_self _ rfl .., rfl, (RegsBut.refl _ s).wr (by simp) 1⟩

theorem canRxTailWrite_frees (inside : v.toNat % 2 ^ 14 < s.canRingSize n)
    (upto : (v.toNat % 2 ^ 14 + s.canRingSize n - s.rd Reg.CAN_RX_TAIL_TAIL n % s.canRingSize n) % s.canRingSize n ≤ s.canUnread n) :
    Does (.canRxTailWrite n v) s [.can, .regs .can] fun t => t.rd Reg.CAN_RX_TAIL_TAIL n = v.toNat % 2 ^ 14 ∧
    RegsBut [Reg.CAN_RX_TAIL_TAIL.key n 0] s t := by
  have tail : RegsBut [Reg.CAN_RX_TAIL_TAIL.key n 0] s (s.wr Reg.CAN_RX_TAIL_TAIL (v.toNat % 2 ^ 14) n) :=
    (RegsBut.refl _ s).wr (by simp) _
  exact .next (if_neg (by omega)) ⟨(State.rd_wr_self ..).trans (Nat.mod_mod ..), tail.of_regs rfl⟩

theorem execCanRxTailWrite_of_past (past : s.canUnread n <
    (v.toNat % 2 ^ 14 + s.canRingSize n - s.rd Reg.CAN_RX_TAIL_TAIL n % s.canRingSize n) % s.canRingSize n) :
    exec (.canRxTailWrite n v) s = .next s := if_pos (.inr past)

end

/-! Segments of messages -/

section
variable (s : State) (n : Nat)

theorem State.canDropPartial_held (node kind sub : Nat) : CanHeld n s (s.canDropPartial n node kind sub) :=
  (CanHeld.refl n s).setCan fun _ => ⟨rfl, rfl, rfl, rfl, fun _ => id⟩

theorem State.canAssembled_held (p : Partial) : CanHeld n s (s.canAssembled n p) := by
  have dropped := s.canDropPartial_held n p.node p.kind p.sub
  unfold State.canAssembled
  exact .ite (.ite (dropped.setCan fun _ => ⟨rfl, rfl, rfl, rfl, fun _ => id⟩) (dropped.of_can (State.canDropped_can ..)))
    (dropped.setCan fun _ => ⟨rfl, rfl, rfl, rfl, fun _ => id⟩)

theorem State.canSegment_held (f : CanFrame) : CanHeld n s (s.canSegment n f) := by
  have dropped (node kind sub : Nat) := s.canDropPartial_held n node kind sub
  unfold State.canSegment
  dsimp only
  split
  · exact .refl n s
  · split_ifs
    · exact dropped ..
    · exact (dropped ..).of_can (State.canDropped_can ..)
    · exact (dropped ..).trans (State.canAssembled_held ..)
    · split
      · exact .refl n s
      · exact .ite (dropped ..) (State.canAssembled_held ..)

end

theorem segmentGapTimeout_drops (s : State) (n : Fin 16) (node : BitVec 14) (kind : BitVec 3) (sub : BitVec 12) :
    Does (.segmentGapTimeout n node kind sub) s [.can] fun t =>
    (t.canSt n).partials =
      (s.canSt n).partials.filter (fun p => !(p.node == node.toNat && p.kind == kind.toNat && p.sub == sub.toNat)) ∧
    (t.canSt n).buf = (s.canSt n).buf ∧ t.regs = s.regs :=
  .next rfl ⟨congrArg CanSt.partials (State.canSt_setCan_self s n _), (s.canDropPartial_held n _ _ _).buf, rfl⟩

/-! A received frame -/

/-- A frame counted as received; the other node's frame has left the bus. -/
def CanSt.received (c : CanSt) : CanSt := { c with rxFrames := c.rxFrames + 1, busBusy := false }

/-- A frame received, up to the ring: REC, ACK_RUN, ALONE and the error state brought up to date (R364, R366). -/
def State.canArrived (s : State) (n : Nat) : State :=
  let t := s.setCan n CanSt.received
  (((if t.canMode n == 2 then t else t.canRecDown n).canHeard n).canErrState n).count 0x601 (some n)

/-- The message that a frame may carry taken, and the next frame selected. -/
def State.canPassed (s : State) (n : Nat) (f : CanFrame) : State :=
  let kind := f.id.toNat / 2 ^ 26
  let s := if (s.canSt n).zdpEn && f.ide && f.fdf && !f.rtr && decide (3 ≤ kind ∧ kind ≤ 6) then s.canSegment n f else s
  let s := if kind == 1 && f.ide && f.fdf && !f.rtr then s.noteGate f.data else s
  s.canSelect n

/-- The fields that a received frame changes before it is stored. -/
def arriveFields : List Field := Reg.CAN_ECNT_REC :: Reg.CAN_ECNT_ACK_RUN :: Reg.CAN_STATUS_ALONE :: canErrFields

section
variable (s : State) (n : Nat)

theorem State.canHeard_kept : FieldsKept canBlock [Reg.CAN_ECNT_ACK_RUN, Reg.CAN_STATUS_ALONE] s (s.canHeard n) :=
  ((FieldsKept.refl _ _ s).wr (by decide) 0 n 0).wr (by decide) 0 n 0

theorem State.canHeard_rd : (s.canHeard n).rd Reg.CAN_ECNT_ACK_RUN n = 0 ∧ (s.canHeard n).flag Reg.CAN_STATUS_ALONE n = false :=
  ⟨(State.rd_wr_disjoint _ (by decide) ..).trans (State.rd_wr_self ..), congrArg (· != 0) (State.rd_wr_self ..)⟩

theorem State.canRecDown_kept : FieldsKept canBlock [Reg.CAN_ECNT_REC] s (s.canRecDown n) := by
  unfold State.canRecDown
  exact .ite (.of_regs ((FieldsKept.refl _ _ s).wr (by decide) _ n 0) (State.nextFresh_regs _))
    ((FieldsKept.refl _ _ s).wr (by decide) _ n 0)

theorem State.canRecDown_can : (s.canRecDown n).can = s.can ∧ (s.canRecDown n).mem = s.mem := by
  unfold State.canRecDown
  dsimp only
  split_ifs <;> exact ⟨rfl, rfl⟩

/-- The frame heard: REC, ACK_RUN and ALONE brought up to date. -/
def State.canListened (s : State) (n : Nat) : State :=
  (if (s.setCan n CanSt.received).canMode n == 2 then s.setCan n CanSt.received else (s.setCan n CanSt.received).canRecDown n).canHeard n

theorem State.canArrived_eq : s.canArrived n = ((s.canListened n).canErrState n).count 0x601 (some n) := rfl

theorem State.canListened_kept :
    FieldsKept canBlock [Reg.CAN_ECNT_REC, Reg.CAN_ECNT_ACK_RUN, Reg.CAN_STATUS_ALONE] s (s.canListened n) := by
  have start : FieldsKept canBlock [Reg.CAN_ECNT_REC, Reg.CAN_ECNT_ACK_RUN, Reg.CAN_STATUS_ALONE] s (s.setCan n CanSt.received) :=
    (FieldsKept.refl _ _ s).setCan ..
  exact (FieldsKept.ite start (start.andThen (State.canRecDown_kept _ n) (by decide))).andThen (State.canHeard_kept _ n) (by decide)

theorem State.canListened_can : (s.canListened n).can = (s.setCan n CanSt.received).can ∧ (s.canListened n).mem = s.mem := by
  unfold State.canListened
  split
  · exact ⟨rfl, rfl⟩
  · exact State.canRecDown_can ..

theorem State.canArrived_kept : FieldsKept canBlock arriveFields s (s.canArrived n) := by
  rw [State.canArrived_eq]
  exact (((s.canListened_kept n).mono (by decide)).andThen (State.canErrState_kept _ n) (by decide)).canCount ..

theorem State.canArrived_held : CanHeld n (s.setCan n CanSt.received) (s.canArrived n) := by
  rw [State.canArrived_eq]
  exact (((CanHeld.refl n _).of_can (s.canListened_can n).1).trans (State.canErrState_held _ n)).count ..

theorem State.canArrived_mem : (s.canArrived n).mem = s.mem := by
  rw [State.canArrived_eq]
  exact ((State.count_leaves (P := 2 ^ 35) (by decide) (.refl _ _) 0x601 (some n) 1).mem (by decide)).trans
    ((State.canErrState_mem _ n).trans (s.canListened_can n).2)

theorem State.canArrived_rd : (s.canArrived n).rd Reg.CAN_ECNT_ACK_RUN n = 0 ∧
    (s.canArrived n).flag Reg.CAN_STATUS_ALONE n = false := by
  rw [State.canArrived_eq]
  have kept := ((s.canListened n).canErrState_kept n).canCount 0x601 (some n)
  obtain ⟨run, alone⟩ := State.canHeard_rd (if (s.setCan n CanSt.received).canMode n == 2 then s.setCan n CanSt.received
    else (s.setCan n CanSt.received).canRecDown n) n
  exact ⟨(kept.rd (by decide) (by decide) n 0).trans run, (kept.flag (by decide) (by decide) n 0).trans alone⟩

variable (f : CanFrame)

theorem State.canPassed_kept : FieldsKept canBlock [] s (s.canPassed n f) := by
  have segment (t : State) : FieldsKept canBlock [] t (t.canSegment n f) :=
    (State.canSegment_leaves (P := 266240) (by decide) (.refl _ t) n f).fieldsKept (by decide) []
  have note (t : State) : FieldsKept canBlock [] t (t.noteGate f.data) :=
    (State.noteGate_leaves (P := 32768) (by decide) (.refl _ t) _).fieldsKept (by decide) []
  have first := FieldsKept.ite (p := ((s.canSt n).zdpEn && f.ide && f.fdf && !f.rtr &&
    decide (3 ≤ f.id.toNat / 2 ^ 26 ∧ f.id.toNat / 2 ^ 26 ≤ 6)) = true) (segment s) (.refl _ _ s)
  exact (FieldsKept.ite (first.trans (note _)) first).trans (State.canSelect_kept _ n)

theorem State.canPassed_held : CanHeld n s (s.canPassed n f) := by
  have note (t : State) : CanHeld n t (t.noteGate f.data) :=
    (CanHeld.refl n t).of_can ((State.noteGate_leaves (P := 32768) (by decide) (.refl _ t) _).can (by decide))
  have first := CanHeld.ite (p := ((s.canSt n).zdpEn && f.ide && f.fdf && !f.rtr &&
    decide (3 ≤ f.id.toNat / 2 ^ 26 ∧ f.id.toNat / 2 ^ 26 ≤ 6)) = true) (s.canSegment_held n f) (.refl n s)
  exact (CanHeld.ite (first.trans (note _)) first).trans (State.canSelect_held _ n)

theorem State.canPassed_mem : (s.canPassed n f).mem = s.mem := by
  have same := Leaves.refl (2 ^ 35 + 266240 + 32768) s
  have first := Leaves.ite (c := ((s.canSt n).zdpEn && f.ide && f.fdf && !f.rtr &&
    decide (3 ≤ f.id.toNat / 2 ^ 26 ∧ f.id.toNat / 2 ^ 26 ≤ 6)) = true)
    (fun _ => State.canSegment_leaves (by decide) same n f) (fun _ => same)
  exact (State.canSelect_leaves (by decide)
    (Leaves.ite (c := (f.id.toNat / 2 ^ 26 == 1 && f.ide && f.fdf && !f.rtr) = true)
      (fun _ => State.noteGate_leaves (by decide) first f.data) (fun _ => first)) n).mem (by decide)

/-- The controller numbers and counts every frame that it receives, stored or lost. -/
theorem State.canArrived_counts (ts : Nat) :
    ((((s.canArrived n).canStore n f false ts).canPassed n f).canSt n).rxSeq = ((s.canSt n).rxSeq + 1) % 2 ^ 32 ∧
    ((((s.canArrived n).canStore n f false ts).canPassed n f).canSt n).rxFrames = (s.canSt n).rxFrames + 1 := by
  have arrived := s.canArrived_held n
  have stored := ((s.canArrived n).canStore_held n f false ts).trans (State.canPassed_held _ n f)
  have seq : ((s.setCan n CanSt.received).canSt n).rxSeq = (s.canSt n).rxSeq := by rw [State.canSt_setCan_self]; rfl
  have count : ((s.setCan n CanSt.received).canSt n).rxFrames = (s.canSt n).rxFrames + 1 := by rw [State.canSt_setCan_self]; rfl
  have number (t : State) : ((t.setCan n CanSt.numbered).canSt n).rxSeq = ((t.canSt n).rxSeq + 1) % 2 ^ 32 := by
    rw [State.canSt_setCan_self]; rfl
  have frames (t : State) : ((t.setCan n CanSt.numbered).canSt n).rxFrames = (t.canSt n).rxFrames := by
    rw [State.canSt_setCan_self]; rfl
  exact ⟨by rw [stored.rxSeq, number, arrived.rxSeq, seq], by rw [stored.rxFrames, frames, arrived.rxFrames, count]⟩

end

/-- The parts that a received frame may change. -/
def canRxParts : List Part := [.mem, .dict, .poisoned, .fresh, .health, .zdp, .ports, .claims, .can, .regs .can, .regs .cnt, .regs .hl]

section
variable {s : State} {n : Fin 16} {f : CanFrame} {lenNs : Nat} (running : s.rd Reg.CAN_STATUS_STATE n = 1)
  (given : s.canMode n ≠ 0) (on : s.canBusOff n = false)
include running given on

theorem execCanFrameReceived_of_running : exec (.canFrameReceived n f lenNs) s =
    .next (((s.canArrived n).canStore n f false (s.canCount n lenNs)).canPassed n f) := if_neg (by simp [running, given, on])

theorem canFrameReceived_stores (room : s.canUnread n + 1 ≠ s.canRingSize n) : Does (.canFrameReceived n f lenNs) s canRxParts fun t =>
    t.rd Reg.CAN_RX_HEAD_HEAD n = (s.rd Reg.CAN_RX_HEAD_HEAD n % s.canRingSize n + 1) % s.canRingSize n % 2 ^ 14 ∧
    t.rd Reg.CAN_RX_LOST_LOST n = s.rd Reg.CAN_RX_LOST_LOST n ∧ (t.canSt n).rxSeq = ((s.canSt n).rxSeq + 1) % 2 ^ 32 ∧
    (t.canSt n).rxFrames = (s.canSt n).rxFrames + 1 ∧ t.rd Reg.CAN_ECNT_ACK_RUN n = 0 ∧ t.flag Reg.CAN_STATUS_ALONE n = false ∧
    MemBut (gristBase + (s.rd Reg.CAN_RX_BASE_BASE n * 64 + 80 * (s.rd Reg.CAN_RX_HEAD_HEAD n % s.canRingSize n))) 80 s t := by
  have arrived := s.canArrived_kept n
  obtain ⟨size, unread, entryAt⟩ := arrived.ring (by decide) n
  obtain ⟨run, alone⟩ := s.canArrived_rd n
  obtain ⟨number, frames⟩ := s.canArrived_counts n f (s.canCount n lenNs)
  have stored := (s.canArrived n).canStore_kept n f false (s.canCount n lenNs)
  have passed := ((s.canArrived n).canStore n f false (s.canCount n lenNs)).canPassed_kept n f
  refine .next (execCanFrameReceived_of_running running given on) ⟨?_, ?_, number, frames, ?_, ?_, ?_⟩
  · rw [passed.rd (by decide) rfl, State.canStore_of_room _ _ _ (by rw [unread, size]; exact room), State.canEnter_head, size,
      arrived.rd (by decide) (by decide)]
  · rw [passed.rd (by decide) rfl, State.canStore_of_room _ _ _ (by rw [unread, size]; exact room),
      (State.canEnter_kept _ _ _).rd (by decide) (by decide), arrived.rd (by decide) (by decide)]
  · exact (passed.rd (by decide) rfl n 0).trans ((stored.rd (by decide) (by decide) n 0).trans run)
  · exact (passed.flag (by decide) rfl n 0).trans ((stored.flag (by decide) (by decide) n 0).trans alone)
  · have bytes := (s.canArrived n).canStore_memBut n f false (s.canCount n lenNs)
    rw [entryAt] at bytes
    intro x outside
    rw [State.canPassed_mem, bytes x outside, State.canArrived_mem]

theorem canFrameReceived_loses (full : s.canUnread n + 1 = s.canRingSize n) : Does (.canFrameReceived n f lenNs) s canRxParts fun t =>
    t.mem = s.mem ∧ t.rd Reg.CAN_RX_HEAD_HEAD n = s.rd Reg.CAN_RX_HEAD_HEAD n ∧ t.flag Reg.CAN_IRQ_RX_LOST n = true ∧
    t.rd Reg.CAN_RX_LOST_LOST n = min (2 ^ 32 - 1) (s.rd Reg.CAN_RX_LOST_LOST n + 1) ∧
    (t.canSt n).rxSeq = ((s.canSt n).rxSeq + 1) % 2 ^ 32 := by
  have arrived := s.canArrived_kept n
  obtain ⟨size, unread, -⟩ := arrived.ring (by decide) n
  obtain ⟨number, -⟩ := s.canArrived_counts n f (s.canCount n lenNs)
  have e := execCanFrameReceived_of_running (f := f) (lenNs := lenNs) running given on
  rw [State.canStore_of_full _ _ _ (by rw [unread, size]; exact full)] at e number
  obtain ⟨irq, lost⟩ := (s.canArrived n).canDrop_rd n
  have passed := ((s.canArrived n).canDrop n).canPassed_kept n f
  refine .next e ⟨?_, ?_, (passed.flag (by decide) rfl n 0).trans irq, ?_, number⟩
  · rw [State.canPassed_mem, State.canDrop_mem, State.canArrived_mem]
  · rw [passed.rd (by decide) rfl, (State.canDrop_kept _ _).rd (by decide) (by decide), arrived.rd (by decide) (by decide)]
  · rw [passed.rd (by decide) rfl, lost, arrived.rd (by decide) (by decide)]

end

end Sys2Proof.Machine
end

section
/-! SUPPORT. A frame sent, lost to arbitration, or ended by an error on a CAN controller (R361 to R366). -/

namespace Sys2Proof.Machine

/-! A frame sent -/

/-- A buffer's frame sent: its time stamp and generation written back, and the controller off the bus. -/
def CanSt.sent (c : CanSt) (b ts gen now timeNs : Nat) : CanSt :=
  { (c.putWords b 3 [ts]).putWords b 20 [c.word b 20 / 65536 * 65536 + gen] with
    onBus := none, heldCancel := false, txFrames := c.txFrames + 1
    window := (now, timeNs, c.isAlarm b) :: recent now c.window }

theorem CanSt.sent_word (c : CanSt) (b ts gen now timeNs : Nat) : (c.sent b ts gen now timeNs).word b 3 = ts % 2 ^ 32 := by
  simp [CanSt.sent, CanSt.word, CanSt.putWords, Map.get_put]

/-- TEC, ACK_RUN and ALONE after a frame sent, and a held cancel that came too late reported. -/
def State.canAcked (s : State) (n b : Nat) : State :=
  let t := (s.wr Reg.CAN_ECNT_TEC (s.rd Reg.CAN_ECNT_TEC n - 1) n).canHeard n
  if (s.canSt n).heldCancel then t.canReport Reg.CAN_TX_CANCEL_FAIL_CANCEL_FAIL Reg.CAN_IRQ_CANCEL_FAIL n b else t

/-- The registers of a frame sent. -/
def State.canSentShown (s : State) (n b : Nat) : State :=
  (s.canAcked n b).canEndAs Reg.CAN_TX_DONE_DONE Reg.CAN_IRQ_TX_DONE n b

/-- The registers and the controller of a frame sent. -/
def State.canSentHeld (s : State) (n b ts timeNs : Nat) : State :=
  (s.canSentShown n b).setCan n fun c => c.sent b ts (s.canStepGen n) s.tb3 timeNs

/-- The share of ALARM frames, the error state and the counts brought up to date after a frame sent. -/
def State.canSettled (s : State) (n bits : Nat) : State :=
  (((s.wr Reg.CAN_ALARM_SHARE_SHARE (s.canShare n) n).canErrState n).count 0x602 (some n)).count 0x605 (some n) bits

/-- A frame sent, up to the echo in the ring. -/
def State.canSent (s : State) (n b ts bits timeNs : Nat) : State := (s.canSentHeld n b ts timeNs).canSettled n bits

/-- The echo of a frame in the ring, where ECHO asks for it. -/
def State.canEcho (s : State) (n : Nat) (f : CanFrame) (ts : Nat) : State :=
  if s.flag Reg.CAN_CTRL_ECHO n then s.canStore n f true ts else s

/-- The frame that the echo stores. -/
def State.canEchoFrame (s : State) (n b : Nat) : CanFrame :=
  { (s.canSt n).frameOf b with esi := s.rd Reg.CAN_STATUS_ERR_STATE n == 1 }

theorem execCanTxComplete_of_onBus {s : State} {n : Fin 16} {b ts : Nat} (bits timeNs : Nat)
    (bus : (s.canSt n).onBus = some (b, ts)) : exec (.canTxComplete n bits timeNs) s =
    .next ((((s.canSent n b ts bits timeNs).canEcho n (s.canEchoFrame n b) ts).tapFlush n b).canSelect n) := by
  change execCanTxComplete n bits timeNs s = _
  unfold execCanTxComplete
  rw [bus]
  rfl

/-- The fields that a frame sent changes before its request ends. -/
def ackedFields : List Field := [Reg.CAN_ECNT_TEC, Reg.CAN_ECNT_ACK_RUN, Reg.CAN_STATUS_ALONE, Reg.CAN_TX_CANCEL_FAIL_CANCEL_FAIL,
  Reg.CAN_IRQ_CANCEL_FAIL]

/-- The fields of the end of a request with success. -/
def doneFields : List Field := [Reg.CAN_TX_PEND_PEND, Reg.CAN_TX_DONE_DONE, Reg.CAN_IRQ_TX_DONE]

/-- The fields that follow the end of a request with success. -/
def settleFields : List Field := Reg.CAN_ALARM_SHARE_SHARE :: canErrFields

section
variable (s : State) (n b : Nat)

theorem State.canAcked_kept : FieldsKept canBlock ackedFields s (s.canAcked n b) := by
  have heard : FieldsKept canBlock ackedFields s ((s.wr Reg.CAN_ECNT_TEC (s.rd Reg.CAN_ECNT_TEC n - 1) n).canHeard n) :=
    ((FieldsKept.refl _ _ s).wr (by decide) _ n 0).andThen (State.canHeard_kept _ n) (by decide)
  exact .ite (heard.canReport (by decide) (by decide) n b) heard

theorem State.canAcked_rd : (s.canAcked n b).rd Reg.CAN_ECNT_TEC n = (s.rd Reg.CAN_ECNT_TEC n - 1) % 2 ^ 9 ∧
    (s.canAcked n b).rd Reg.CAN_ECNT_ACK_RUN n = 0 ∧ (s.canAcked n b).flag Reg.CAN_STATUS_ALONE n = false := by
  let lower := s.wr Reg.CAN_ECNT_TEC (s.rd Reg.CAN_ECNT_TEC n - 1) n
  have start := FieldsKept.refl canBlock [Reg.CAN_TX_CANCEL_FAIL_CANCEL_FAIL, Reg.CAN_IRQ_CANCEL_FAIL] (lower.canHeard n)
  have kept : FieldsKept canBlock _ (lower.canHeard n) (s.canAcked n b) :=
    .ite (start.canReport (by decide) (by decide) n b) start
  obtain ⟨run, alone⟩ := lower.canHeard_rd n
  exact ⟨(kept.rd (by decide) (by decide) n 0).trans (((lower.canHeard_kept n).rd (by decide) (by decide) n 0).trans
      (State.rd_wr_self ..)),
    (kept.rd (by decide) (by decide) n 0).trans run, (kept.flag (by decide) (by decide) n 0).trans alone⟩

theorem State.canAcked_cancelFail (low : b < 32) (held : (s.canSt n).heldCancel = true) :
    bitOf ((s.canAcked n b).rd Reg.CAN_TX_CANCEL_FAIL_CANCEL_FAIL n) b = true := by
  rw [State.canAcked, if_pos held, State.canReport_bit _ n b low rfl (by decide)]
  simp

theorem State.canAcked_can : (s.canAcked n b).can = s.can ∧ (s.canAcked n b).mem = s.mem := by
  unfold State.canAcked
  dsimp only
  split <;> exact ⟨rfl, rfl⟩

theorem State.canSentShown_kept : FieldsKept canBlock doneFields (s.canAcked n b) (s.canSentShown n b) :=
  (FieldsKept.refl _ _ _).canEndAs n b (by decide) (by decide) (by decide)

variable (ts timeNs : Nat)

theorem State.canSentHeld_canSt : (s.canSentHeld n b ts timeNs).canSt n = (s.canSt n).sent b ts (s.canStepGen n) s.tb3 timeNs := by
  have same : (s.canSentShown n b).can = s.can := (s.canAcked_can n b).1
  rw [State.canSentHeld, State.canSt_setCan_self, State.canSt_of_can same]

theorem State.canSentHeld_kept : FieldsKept canBlock [] (s.canSentShown n b) (s.canSentHeld n b ts timeNs) :=
  (FieldsKept.refl _ _ _).setCan ..

theorem State.canSentHeld_mem : (s.canSentHeld n b ts timeNs).mem = s.mem := (s.canAcked_can n b).2

end

section
variable (s : State) (n bits : Nat)

/-- An ended request stays ended when the error state is brought up to date. -/
theorem State.canErrState_pend {s : State} {n : Nat} (b : Fin 32) (ended : bitOf (s.rd Reg.CAN_TX_PEND_PEND n) b = false) :
    bitOf ((s.canErrState n).rd Reg.CAN_TX_PEND_PEND n) b = false := by
  have warned := ((s.canWarned_kept n).bit (g := Reg.CAN_TX_PEND_PEND) (by decide) (by decide) n b).trans ended
  rw [State.canErrState_eq]
  split_ifs
  · exact warned
  · exact (State.canWentOff_ends _ n).2.1 b
  · exact ((State.canTurned_kept _ n _).bit (by decide) (by decide) n b).trans warned

theorem State.canSettled_kept : FieldsKept canBlock settleFields s (s.canSettled n bits) :=
  (((((FieldsKept.refl _ _ s).wr (by decide) _ n 0).andThen (State.canErrState_kept _ n) (by decide)).canCount ..).canCount _ _ bits)

theorem State.canSettled_held : CanHeld n s (s.canSettled n bits) :=
  ((((CanHeld.refl n s).wr ..).trans (State.canErrState_held _ n)).count ..).count _ _ bits

theorem State.canSettled_mem : (s.canSettled n bits).mem = s.mem := by
  have counted (t : State) (event by_ : Nat) : (t.count event (some n) by_).mem = t.mem :=
    (State.count_leaves (P := 2 ^ 35) (by decide) (.refl _ t) event (some n) by_).mem (by decide)
  exact (counted ..).trans ((counted ..).trans (State.canErrState_mem _ n))

theorem State.canSettled_pend {s : State} {n : Nat} (b : Fin 32) (ended : bitOf (s.rd Reg.CAN_TX_PEND_PEND n) b = false) :
    bitOf ((s.canSettled n bits).rd Reg.CAN_TX_PEND_PEND n) b = false := by
  have shared : bitOf ((s.wr Reg.CAN_ALARM_SHARE_SHARE (s.canShare n) n).rd Reg.CAN_TX_PEND_PEND n) b = false :=
    (congrArg (bitOf · b) (State.rd_wr_disjoint _ (by decide) ..)).trans ended
  have counted (t : State) : FieldsKept canBlock [] t ((t.count 0x602 (some n)).count 0x605 (some n) bits) :=
    ((FieldsKept.refl _ _ t).canCount ..).canCount _ _ bits
  exact ((counted _).bit (by decide) rfl n b).trans (State.canErrState_pend b shared)

end

section
variable (s : State) (n b ts bits timeNs : Nat)

theorem State.canSent_held : CanHeld n (s.canSentHeld n b ts timeNs) (s.canSent n b ts bits timeNs) := State.canSettled_held _ n bits

theorem State.canSent_mem : (s.canSent n b ts bits timeNs).mem = s.mem :=
  (State.canSettled_mem _ n bits).trans (s.canSentHeld_mem n b ts timeNs)

theorem State.canSent_kept : FieldsKept canBlock settleFields (s.canSentShown n b) (s.canSent n b ts bits timeNs) :=
  ((s.canSentHeld_kept n b ts timeNs).mono (List.nil_subset _)).trans (State.canSettled_kept _ n bits)

/-- A frame sent ends its request with success (R361). -/
theorem State.canSent_done (b : Fin 32) : bitOf ((s.canSent n b ts bits timeNs).rd Reg.CAN_TX_PEND_PEND n) b = false ∧
    bitOf ((s.canSent n b ts bits timeNs).rd Reg.CAN_TX_DONE_DONE n) b = true ∧
    (s.canSent n b ts bits timeNs).flag Reg.CAN_IRQ_TX_DONE n = true := by
  have sent := s.canSent_kept n b ts bits timeNs
  refine ⟨State.canSettled_pend bits b (((s.canSentHeld_kept n b ts timeNs).bit (by decide) rfl n b).trans ?_),
    (sent.bit (by decide) (by decide) n b).trans ?_,
    (sent.flag (by decide) (by decide) n 0).trans (State.canEndAs_irq _ n b rfl)⟩
  · rw [State.canSentShown, State.canEndAs_pend _ n b (by decide) b.isLt]
    simp
  · rw [State.canSentShown, State.canEndAs_bit _ n b rfl (by decide) b.isLt]
    simp

end

section
variable (s : State) (n : Nat) (f : CanFrame) (ts : Nat)

theorem State.canEcho_kept : FieldsKept canBlock storeFields s (s.canEcho n f ts) := .ite (s.canStore_kept n f true ts) (.refl _ _ s)

/-- The echo leaves what a frame sent has written in its buffer, and its count. -/
theorem State.canEcho_canSt : ((s.canEcho n f ts).canSt n).buf = (s.canSt n).buf ∧
    ((s.canEcho n f ts).canSt n).txFrames = (s.canSt n).txFrames ∧
    ∀ b, Map.get none (s.canSt n).tapWait b = none → Map.get none ((s.canEcho n f ts).canSt n).tapWait b = none := by
  unfold State.canEcho
  split
  · have held := s.canStore_held n f true ts
    rw [CanHeld, State.canSt_setCan_self] at held
    exact ⟨held.buf, held.txFrames, held.waits⟩
  · exact ⟨rfl, rfl, fun _ => id⟩

theorem State.canEcho_memBut : MemBut (gristBase + s.canEntryAt n) 80 s (s.canEcho n f ts) := by
  unfold State.canEcho
  split
  · exact s.canStore_memBut n f true ts
  · exact .refl _ _ s

theorem State.canEcho_of_off {s : State} {n : Nat} (off : s.flag Reg.CAN_CTRL_ECHO n = false) : s.canEcho n f ts = s :=
  if_neg (by simp [off])

end

theorem State.canSelect_mem (s : State) (n : Nat) : (s.canSelect n).mem = s.mem :=
  (State.canSelect_leaves (P := 34360000512) (by decide) (.refl _ s) n).mem (by decide)

/-- The parts that a frame sent may change. -/
def canTxParts : List Part := [.mem, .dict, .poisoned, .fresh, .health, .zdp, .ports, .can, .regs .can, .regs .cnt, .regs .hl]

section
variable {s : State} {n : Fin 16} {b : Fin 32} {ts bits timeNs : Nat} (bus : (s.canSt n).onBus = some (b.val, ts))
  (idle : Map.get none (s.canSt n).tapWait b.val = none)
include bus idle

/-- Where no command of the tap waits, the next frame is selected at once. -/
theorem execCanTxComplete_of_idle : exec (.canTxComplete n bits timeNs) s =
    .next (((s.canSent n b ts bits timeNs).canEcho n (s.canEchoFrame n b) ts).canSelect n) := by
  have waits := (s.canSent_held n b ts bits timeNs).waits b (by rw [State.canSentHeld_canSt]; exact idle)
  rw [execCanTxComplete_of_onBus bits timeNs bus, State.tapFlush_of_none ((State.canEcho_canSt ..).2.2 b waits)]

theorem canTxComplete_sends : Does (.canTxComplete n bits timeNs) s canTxParts fun t =>
    bitOf (t.rd Reg.CAN_TX_PEND_PEND n) b = false ∧ bitOf (t.rd Reg.CAN_TX_DONE_DONE n) b = true ∧
    t.flag Reg.CAN_IRQ_TX_DONE n = true ∧ t.rd Reg.CAN_ECNT_TEC n = (s.rd Reg.CAN_ECNT_TEC n - 1) % 2 ^ 9 ∧
    t.rd Reg.CAN_ECNT_ACK_RUN n = 0 ∧ t.flag Reg.CAN_STATUS_ALONE n = false ∧
    (t.canSt n).txFrames = (s.canSt n).txFrames + 1 ∧ (t.canSt n).word b 3 = ts % 2 ^ 32 ∧
    ((s.canSt n).heldCancel = true → bitOf (t.rd Reg.CAN_TX_CANCEL_FAIL_CANCEL_FAIL n) b = true ∧
      bitOf (t.rd Reg.CAN_TX_CANCELLED_CANCELLED n) b = bitOf (s.rd Reg.CAN_TX_CANCELLED_CANCELLED n) b) ∧
    (s.flag Reg.CAN_CTRL_ECHO n = false → t.mem = s.mem ∧ t.rd Reg.CAN_RX_HEAD_HEAD n = s.rd Reg.CAN_RX_HEAD_HEAD n) ∧
    MemBut (gristBase + (s.rd Reg.CAN_RX_BASE_BASE n * 64 + 80 * (s.rd Reg.CAN_RX_HEAD_HEAD n % s.canRingSize n))) 80 s t := by
  have acked := s.canAcked_kept n b
  have shown := s.canSentShown_kept n b
  have sent := s.canSent_kept n b ts bits timeNs
  have before : FieldsKept canBlock (ackedFields ++ doneFields ++ settleFields) s (s.canSent n b ts bits timeNs) :=
    ((acked.mono (by decide)).andThen shown (by decide)).andThen sent (by decide)
  have after : FieldsKept canBlock storeFields (s.canSent n b ts bits timeNs)
      (((s.canSent n b ts bits timeNs).canEcho n (s.canEchoFrame n b) ts).canSelect n) :=
    (State.canEcho_kept _ n _ ts).andThen (State.canSelect_kept _ n) (List.nil_subset _)
  have rest : FieldsKept canBlock (doneFields ++ settleFields ++ storeFields) (s.canAcked n b)
      (((s.canSent n b ts bits timeNs).canEcho n (s.canEchoFrame n b) ts).canSelect n) :=
    ((shown.mono (by decide)).andThen sent (by decide)).andThen after (by decide)
  obtain ⟨tec, run, alone⟩ := s.canAcked_rd n b
  obtain ⟨pend, done, irq⟩ := s.canSent_done n ts bits timeNs b
  refine .next (execCanTxComplete_of_idle bus idle) ⟨(after.bit (by decide) (by decide) n b).trans pend,
    (after.bit (by decide) (by decide) n b).trans done, (after.flag (by decide) (by decide) n 0).trans irq,
    (rest.rd (by decide) (by decide) n 0).trans tec, (rest.rd (by decide) (by decide) n 0).trans run,
    (rest.flag (by decide) (by decide) n 0).trans alone, ?_, ?_, fun held => ⟨?_, ?_⟩, fun off => ⟨?_, ?_⟩, ?_⟩
  · rw [(State.canSelect_held _ n).txFrames, (State.canEcho_canSt ..).2.1, (State.canSent_held ..).txFrames,
      State.canSentHeld_canSt]
    rfl
  · rw [(State.canSelect_held _ n).word, CanSt.word, (State.canEcho_canSt ..).1, ← CanSt.word, (State.canSent_held ..).word,
      State.canSentHeld_canSt, CanSt.sent_word]
  · exact (rest.bit (by decide) (by decide) n b).trans (s.canAcked_cancelFail n b b.isLt held)
  · exact (rest.bit (by decide) (by decide) n b).trans (acked.bit (by decide) (by decide) n b)
  · have off : (s.canSent n b ts bits timeNs).flag Reg.CAN_CTRL_ECHO n = false :=
      (before.flag (by decide) (by decide) n 0).trans off
    rw [State.canSelect_mem, State.canEcho_of_off _ _ off, State.canSent_mem]
  · have off : (s.canSent n b ts bits timeNs).flag Reg.CAN_CTRL_ECHO n = false :=
      (before.flag (by decide) (by decide) n 0).trans off
    rw [(State.canSelect_kept _ n).rd (by decide) rfl, State.canEcho_of_off _ _ off, before.rd (by decide) (by decide)]
  · have bytes := (s.canSent n b ts bits timeNs).canEcho_memBut n (s.canEchoFrame n b) ts
    rw [(before.ring (by decide) n).entryAt] at bytes
    intro x outside
    rw [State.canSelect_mem, bytes x outside, State.canSent_mem]

end

theorem execCanTxComplete_of_off {s : State} {n : Fin 16} {bits timeNs : Nat} (free : (s.canSt n).onBus = none) :
    exec (.canTxComplete n bits timeNs) s = .next s := by
  change execCanTxComplete n bits timeNs s = _
  rw [execCanTxComplete, free]

end Sys2Proof.Machine
end

section
/-! SUPPORT. A frame lost to arbitration, or ended by an error, on a CAN controller (R361, R363 to R366). -/

namespace Sys2Proof.Machine

/-! Arbitration -/

section
variable {s : State} {n : Fin 16}

theorem State.canFailReq_ends (s : State) (n : Nat) {b : Nat} (low : b < 32) :
    bitOf ((s.canFailReq n b).rd Reg.CAN_TX_PEND_PEND n) b = false ∧
    bitOf ((s.canFailReq n b).rd Reg.CAN_TX_FAILED_FAILED n) b = true := by
  constructor
  · simp [s.canFailReq_pend n b low]
  · simp [s.canFailReq_failed n b low]

/-- What the end of an attempt does to its request: a held cancel or SINGLE_SHOT ends it, else it stays (R361, R363). -/
theorem State.canAttemptOver_ends (s : State) (n : Nat) {b : Nat} (low : b < 32) :
    ((s.canSt n).heldCancel = true → (s.canAttemptOver n b).canCancelled n b) ∧
    ((s.canSt n).heldCancel = false → bitOf ((s.canSt n).word b 1) 6 = true →
      bitOf ((s.canAttemptOver n b).rd Reg.CAN_TX_PEND_PEND n) b = false ∧
      bitOf ((s.canAttemptOver n b).rd Reg.CAN_TX_FAILED_FAILED n) b = true) ∧
    ((s.canSt n).heldCancel = false → bitOf ((s.canSt n).word b 1) 6 = false → (s.canAttemptOver n b).regs = s.regs) := by
  refine ⟨fun held => ?_, fun held single => ?_, fun held more => ?_⟩
  · rw [State.canAttemptOver, if_pos held]
    exact State.canCancelReq_ends _ n b low
  · simp only [State.canAttemptOver, held, single, if_true, Bool.false_eq_true, if_false]
    exact State.canFailReq_ends _ n low
  · simp only [State.canAttemptOver, held, more, Bool.false_eq_true, if_false]
    rfl

/-- Another node's frame holds the bus. -/
def CanSt.busy (c : CanSt) : CanSt := { c with busBusy := true }

theorem execCanArbitrationLost_of_onBus {b ts : Nat} (bus : (s.canSt n).onBus = some (b, ts)) :
    exec (.canArbitrationLost n) s = .next ((s.setCan n CanSt.busy).canAttemptEnds n b) := by
  change execCanArbitrationLost n s = _
  rw [execCanArbitrationLost, bus]
  rfl

theorem execCanArbitrationLost_of_off (free : (s.canSt n).onBus = none) : exec (.canArbitrationLost n) s = .next s := by
  change execCanArbitrationLost n s = _
  rw [execCanArbitrationLost, free]

theorem canArbitrationLost_loses {b : Fin 32} {ts : Nat} (bus : (s.canSt n).onBus = some (b.val, ts))
    (idle : Map.get none (s.canSt n).tapWait b.val = none) : Does (.canArbitrationLost n) s canReqParts fun t =>
    (t.canSt n).onBus = none ∧ (t.canSt n).busBusy = true ∧
    ((s.canSt n).heldCancel = true → bitOf (t.rd Reg.CAN_TX_PEND_PEND n) b = false ∧
      bitOf (t.rd Reg.CAN_TX_CANCELLED_CANCELLED n) b = true ∧ t.flag Reg.CAN_IRQ_CANCELLED n = true) ∧
    ((s.canSt n).heldCancel = false → bitOf ((s.canSt n).word b 1) 6 = true →
      bitOf (t.rd Reg.CAN_TX_PEND_PEND n) b = false ∧ bitOf (t.rd Reg.CAN_TX_FAILED_FAILED n) b = true) ∧
    ((s.canSt n).heldCancel = false → bitOf ((s.canSt n).word b 1) 6 = false → t.regs = s.regs) := by
  have busy : (s.setCan n CanSt.busy).canSt n = (s.canSt n).busy := s.canSt_setCan_self n _
  have e := execCanArbitrationLost_of_onBus bus
  rw [State.canAttemptEnds_of_none (by rw [busy]; exact idle)] at e
  have ends := (s.setCan n CanSt.busy).canAttemptOver_ends n b.isLt
  rw [busy] at ends
  have ended : ((s.setCan n CanSt.busy).canAttemptOver n b).canSt n =
      { (s.setCan n CanSt.busy).canSt n with onBus := none, heldCancel := false } :=
    (State.canSt_of_can (State.canAttemptOver_can _ n b) n).trans (State.canSt_setCan_self ..)
  refine .next e ⟨?_, ?_, ends⟩
  · rw [ended]
  · rw [ended, busy]
    rfl

end

/-! Errors -/

/-- LAST_ERR of an error. -/
def canErrCode : CanError → Nat
  | .bit => 1
  | .stuff => 2
  | .form => 3
  | .ack => 4
  | .crc => 5

/-- The fields that count an error by its kind. -/
def kindFields : List Field := [Reg.CAN_ERRS1_BIT, Reg.CAN_ERRS1_STUFF, Reg.CAN_ERRS1_FORM, Reg.CAN_ERRS1_CRC, Reg.CAN_ERRS2_ACK,
  Reg.CAN_STATUS_LAST_ERR]

/-- The fields of the two error counters. -/
def counterFields : List Field := [Reg.CAN_ECNT_TEC, Reg.CAN_ECNT_REC]

/-- The fields that an unacknowledged frame may change. -/
def ackRunFields : List Field := [Reg.CAN_ECNT_ACK_RUN, Reg.CAN_STATUS_ALONE, Reg.CAN_IRQ_ALONE]

/-- The bus is idle after the error. -/
def CanSt.idle (c : CanSt) : CanSt := { c with busBusy := false }

/-- An error counted, before the error state is brought up to date (R364 to R366). -/
def State.canErrSeen (s : State) (n : Nat) (kind : CanError) (transmitting dominant : Bool) : State :=
  let t := (s.canCountErr n kind).canErrCount n kind transmitting dominant
  (if transmitting && kind == .ack then t.canAckRun n else t).setCan n CanSt.idle

/-- The attempt that an error ended. -/
def State.canFrameEnds (s : State) (n : Nat) : State :=
  match (s.canSt n).onBus with
  | some (b, _) => s.canAttemptEnds n b
  | none => s

section
variable (s : State) (n : Nat) (kind : CanError) (transmitting dominant : Bool)

theorem State.canCountErr_kept : FieldsKept canBlock kindFields s (s.canCountErr n kind) := by
  have shown {f : Field} (mem : f ∈ kindFields) (code : Nat) (g : CanSt → CanSt) :
      FieldsKept canBlock kindFields s (((s.incSat f n).wr Reg.CAN_STATUS_LAST_ERR code n).setCan n g) :=
    (((FieldsKept.refl _ _ s).wr mem _ n 0).wr (by decide) code n 0).setCan ..
  cases kind with
  | ack => exact (shown (by decide) 4 _).canCount ..
  | bit | stuff | form | crc => exact shown (by decide) _ _

theorem State.canCountErr_code : (s.canCountErr n kind).rd Reg.CAN_STATUS_LAST_ERR n = canErrCode kind := by
  cases kind with
  | ack => exact (((FieldsKept.refl canBlock [] _).canCount 0x603 (some n)).rd (by decide) rfl n 0).trans (State.rd_wr_self ..)
  | bit | stuff | form | crc => exact State.rd_wr_self ..

theorem State.canErrCount_kept : FieldsKept canBlock counterFields s (s.canErrCount n kind transmitting dominant) := by
  have same := FieldsKept.refl canBlock counterFields s
  exact .ite same (.ite (.ite same (same.wr (by decide) _ n 0)) (same.wr (by decide) _ n 0))

theorem State.canAckRun_kept : FieldsKept canBlock ackRunFields s (s.canAckRun n) := by
  have run : FieldsKept canBlock ackRunFields s (s.incSat Reg.CAN_ECNT_ACK_RUN n) := (FieldsKept.refl _ _ s).wr (by decide) _ n 0
  exact .ite (((run.raise (by decide) n 0).raise (by decide) n 0).canEvent ..) run

/-- The sixteenth unacknowledged frame in a row shows that the controller is alone (R366). -/
theorem State.canAckRun_alone {s : State} {n : Nat} (run : s.rd Reg.CAN_ECNT_ACK_RUN n = 15) :
    (s.canAckRun n).flag Reg.CAN_STATUS_ALONE n = true ∧ (s.canAckRun n).flag Reg.CAN_IRQ_ALONE n = true := by
  have full : (s.incSat Reg.CAN_ECNT_ACK_RUN n).rd Reg.CAN_ECNT_ACK_RUN n = 16 := by
    rw [State.incSat_rd_self, run]
    rfl
  have raised : s.canAckRun n = (((s.incSat Reg.CAN_ECNT_ACK_RUN n).raise Reg.CAN_STATUS_ALONE n).raise Reg.CAN_IRQ_ALONE n).event
      .can "ALONE" (0x600 + n) := if_pos (by rw [full]; rfl)
  have told (t : State) : FieldsKept canBlock [] t (t.event .can "ALONE" (0x600 + n)) := (FieldsKept.refl _ _ t).canEvent ..
  rw [raised]
  exact ⟨((told _).flag (by decide) rfl n 0).trans ((State.flag_wr_disjoint _ (by decide) ..).trans (State.flag_raise_self _ rfl ..)),
    ((told _).flag (by decide) rfl n 0).trans (State.flag_raise_self _ rfl ..)⟩

theorem State.canFrameEnds_kept : FieldsKept canBlock attemptFields s (s.canFrameEnds n) := by
  unfold State.canFrameEnds
  split
  · exact s.canAttemptEnds_kept n _
  · exact .refl _ _ s

theorem State.canFrameEnds_of_none {s : State} {n : Nat} (free : (s.canSt n).onBus = none) : s.canFrameEnds n = s := by
  rw [State.canFrameEnds, free]

/-- What comes after the count of an error writes the registers of the error state and of ended requests alone. -/
theorem State.canErrEnded_kept : FieldsKept canBlock (canErrFields ++ attemptFields) s
    (((s.canErrState n).canFrameEnds n).canSelect n) :=
  (((s.canErrState_kept n).mono (by decide)).andThen (State.canFrameEnds_kept _ n) (by decide)).andThen
    (State.canSelect_kept _ n) (List.nil_subset _)

/-- What the count of an error leaves: the acknowledgement run alone comes after it. -/
theorem State.canErrSeen_run : FieldsKept canBlock ackRunFields ((s.canCountErr n kind).canErrCount n kind transmitting dominant)
    (s.canErrSeen n kind transmitting dominant) :=
  (FieldsKept.ite (State.canAckRun_kept _ n) (.refl _ _ _)).setCan ..

theorem State.canErrSeen_kept :
    FieldsKept canBlock (kindFields ++ counterFields ++ ackRunFields) s (s.canErrSeen n kind transmitting dominant) :=
  (((s.canCountErr_kept n kind).mono (by decide)).andThen (State.canErrCount_kept _ n kind _ _) (by decide)).andThen
    (s.canErrSeen_run n kind _ _) (by decide)

theorem State.canErrSeen_code : (s.canErrSeen n kind transmitting dominant).rd Reg.CAN_STATUS_LAST_ERR n = canErrCode kind :=
  ((s.canErrSeen_run n kind _ _).rd (by decide) (by decide) n 0).trans
    (((State.canErrCount_kept _ n kind _ _).rd (by decide) (by decide) n 0).trans (s.canCountErr_code n kind))

theorem State.canErrSeen_alone {s : State} {n : Nat} (run : s.rd Reg.CAN_ECNT_ACK_RUN n = 15) :
    (s.canErrSeen n .ack true dominant).flag Reg.CAN_STATUS_ALONE n = true ∧
    (s.canErrSeen n .ack true dominant).flag Reg.CAN_IRQ_ALONE n = true := by
  have counted : ((s.canCountErr n .ack).canErrCount n .ack true dominant).rd Reg.CAN_ECNT_ACK_RUN n = 15 := by
    rw [(State.canErrCount_kept _ n .ack _ _).rd (by decide) (by decide), (s.canCountErr_kept n .ack).rd (by decide) (by decide), run]
  have seen : FieldsKept canBlock [] (((s.canCountErr n .ack).canErrCount n .ack true dominant).canAckRun n)
      (s.canErrSeen n .ack true dominant) := (FieldsKept.refl _ _ _).setCan n CanSt.idle
  obtain ⟨alone, irq⟩ := State.canAckRun_alone counted
  exact ⟨(seen.flag (by decide) rfl n 0).trans alone, (seen.flag (by decide) rfl n 0).trans irq⟩

end

section
variable {s : State} {n : Nat} {kind : CanError} {dominant : Bool} (hears : s.canMode n ≠ 2)
include hears

/-- TEC of a transmitter after an error (R364). -/
theorem State.canErrSeen_tec (counts : kind ≠ .ack ∨ s.rd Reg.CAN_STATUS_ERR_STATE n ≠ 1 ∨ dominant = true) :
    (s.canErrSeen n kind true dominant).rd Reg.CAN_ECNT_TEC n = min 511 (s.rd Reg.CAN_ECNT_TEC n + 8) ∧
    (s.canErrSeen n kind true dominant).rd Reg.CAN_ECNT_REC n = s.rd Reg.CAN_ECNT_REC n := by
  have noted := s.canCountErr_kept n kind
  have mode : (s.canCountErr n kind).canMode n ≠ 2 := by rwa [State.canMode, noted.rd (by decide) (by decide), ← State.canMode]
  have counted : (s.canCountErr n kind).canErrCount n kind true dominant =
      (s.canCountErr n kind).wr Reg.CAN_ECNT_TEC (min 511 (s.rd Reg.CAN_ECNT_TEC n + 8)) n := by
    have adds : (kind == .ack && s.rd Reg.CAN_STATUS_ERR_STATE n == 1 && !dominant) = false := by
      rcases counts with other | active | seen
      · simp [other]
      · simp [active]
      · simp [seen]
    simp [State.canErrCount, mode, noted.rd (g := Reg.CAN_STATUS_ERR_STATE) (by decide) (by decide),
      noted.rd (g := Reg.CAN_ECNT_TEC) (by decide) (by decide), adds]
  have run := s.canErrSeen_run n kind true dominant
  rw [counted] at run
  rw [run.rd (by decide) (by decide), run.rd (by decide) (by decide), State.rd_wr_self, State.rd_wr_disjoint _ (by decide),
    noted.rd (by decide) (by decide)]
  exact ⟨Nat.mod_eq_of_lt (by change _ < 512; omega), rfl⟩

/-- REC of a receiver after an error (R364). -/
theorem State.canErrSeen_rec : (s.canErrSeen n kind false dominant).rd Reg.CAN_ECNT_TEC n = s.rd Reg.CAN_ECNT_TEC n ∧
    (s.canErrSeen n kind false dominant).rd Reg.CAN_ECNT_REC n =
      min 255 (s.rd Reg.CAN_ECNT_REC n + if dominant then 8 else 1) := by
  have noted := s.canCountErr_kept n kind
  have mode : (s.canCountErr n kind).canMode n ≠ 2 := by rwa [State.canMode, noted.rd (by decide) (by decide), ← State.canMode]
  have counted : (s.canCountErr n kind).canErrCount n kind false dominant =
      (s.canCountErr n kind).wr Reg.CAN_ECNT_REC (min 255 (s.rd Reg.CAN_ECNT_REC n + if dominant then 8 else 1)) n := by
    simp [State.canErrCount, mode, noted.rd (g := Reg.CAN_ECNT_REC) (by decide) (by decide)]
  have run := s.canErrSeen_run n kind false dominant
  rw [counted] at run
  rw [run.rd (by decide) (by decide), run.rd (by decide) (by decide), State.rd_wr_self, State.rd_wr_disjoint _ (by decide),
    noted.rd (by decide) (by decide)]
  exact ⟨rfl, Nat.mod_eq_of_lt (by change _ < 256; omega)⟩

end

/-- The parts that an error on the bus may change. -/
def canErrParts : List Part := [.dict, .fresh, .health, .zdp, .ports, .can, .regs .can, .regs .cnt, .regs .hl]

section
variable {s : State} {n : Fin 16} {kind : CanError} {transmitting dominant : Bool}

theorem execCanBusError_of_off (off : s.rd Reg.CAN_STATUS_STATE n ≠ 1) :
    exec (.canBusError n kind transmitting dominant) s = .next s := if_pos (.inl off)

variable (running : s.rd Reg.CAN_STATUS_STATE n = 1) (on : s.canBusOff n = false)
include running on

theorem execCanBusError_of_running : exec (.canBusError n kind transmitting dominant) s =
    .next ((((s.canErrSeen n kind transmitting dominant).canErrState n).canFrameEnds n).canSelect n) :=
  if_neg (by simp [running, on])

theorem canBusError_shows : Does (.canBusError n kind transmitting dominant) s canErrParts fun t =>
    t.rd Reg.CAN_STATUS_LAST_ERR n = (match kind with | .bit => 1 | .stuff => 2 | .form => 3 | .ack => 4 | .crc => 5) ∧
    (transmitting = true → kind = .ack → s.rd Reg.CAN_ECNT_ACK_RUN n = 15 → t.flag Reg.CAN_STATUS_ALONE n = true ∧
      t.flag Reg.CAN_IRQ_ALONE n = true) := by
  have after := State.canErrEnded_kept (s.canErrSeen n kind transmitting dominant) n
  refine .next (execCanBusError_of_running running on) ⟨?_, ?_⟩
  · refine ((after.rd (by decide) (by decide) n 0).trans (s.canErrSeen_code n kind _ _)).trans ?_
    cases kind <;> rfl
  · rintro rfl rfl run
    obtain ⟨alone, irq⟩ := State.canErrSeen_alone dominant run
    exact ⟨(after.flag (by decide) (by decide) n 0).trans alone, (after.flag (by decide) (by decide) n 0).trans irq⟩

variable (hears : s.canMode n ≠ 2)
include hears

theorem canBusError_receives : Does (.canBusError n kind false dominant) s canErrParts fun t =>
    t.rd Reg.CAN_ECNT_TEC n = s.rd Reg.CAN_ECNT_TEC n ∧
    t.rd Reg.CAN_ECNT_REC n = min 255 (s.rd Reg.CAN_ECNT_REC n + if dominant then 8 else 1) := by
  have after := State.canErrEnded_kept (s.canErrSeen n kind false dominant) n
  obtain ⟨tec, rec⟩ := State.canErrSeen_rec (kind := kind) (dominant := dominant) hears
  exact .next (execCanBusError_of_running running on)
    ⟨(after.rd (by decide) (by decide) n 0).trans tec, (after.rd (by decide) (by decide) n 0).trans rec⟩

theorem canBusError_transmits (counts : kind ≠ .ack ∨ s.rd Reg.CAN_STATUS_ERR_STATE n ≠ 1 ∨ dominant = true) :
    Does (.canBusError n kind true dominant) s canErrParts fun t =>
    t.rd Reg.CAN_ECNT_TEC n = min 511 (s.rd Reg.CAN_ECNT_TEC n + 8) ∧ t.rd Reg.CAN_ECNT_REC n = s.rd Reg.CAN_ECNT_REC n ∧
    t.flag Reg.CAN_STATUS_WARNING n = decide (96 ≤ min 511 (s.rd Reg.CAN_ECNT_TEC n + 8) ∨ 96 ≤ s.rd Reg.CAN_ECNT_REC n) ∧
    (248 ≤ s.rd Reg.CAN_ECNT_TEC n → t.rd Reg.CAN_STATUS_ERR_STATE n = 2 ∧ t.flag Reg.CAN_IRQ_BUS_OFF n = true ∧
      ∀ b : Fin 32, bitOf (t.rd Reg.CAN_TX_PEND_PEND n) b = false) ∧
    (120 ≤ s.rd Reg.CAN_ECNT_TEC n → s.rd Reg.CAN_ECNT_TEC n < 248 → t.rd Reg.CAN_STATUS_ERR_STATE n = 1) := by
  obtain ⟨tec, rec⟩ := State.canErrSeen_tec hears counts
  have on' : (s.canErrSeen n kind true dominant).canBusOff n = false := by
    rw [State.canBusOff, (s.canErrSeen_kept n kind true dominant).rd (by decide) (by decide)]
    exact on
  have after := State.canErrEnded_kept (s.canErrSeen n kind true dominant) n
  have e := execCanBusError_of_running (kind := kind) (transmitting := true) (dominant := dominant) running on
  generalize s.canErrSeen n kind true dominant = seen at *
  have ended : FieldsKept canBlock attemptFields (seen.canErrState n) (((seen.canErrState n).canFrameEnds n).canSelect n) :=
    (State.canFrameEnds_kept _ n).andThen (State.canSelect_kept _ n) (List.nil_subset _)
  refine .next e ⟨(after.rd (by decide) (by decide) n 0).trans tec, (after.rd (by decide) (by decide) n 0).trans rec, ?_,
    fun high => ?_, fun high below => ?_⟩
  · rw [ended.flag (by decide) (by decide), State.canErrState_warning, tec, rec]
  · obtain ⟨off, irq, pend, free⟩ := State.canErrState_off on' (by omega)
    rw [State.canFrameEnds_of_none free]
    have select := (seen.canErrState n).canSelect_kept n
    exact ⟨(select.rd (by decide) rfl n 0).trans off, (select.flag (by decide) rfl n 0).trans irq,
      fun b => (select.bit (by decide) rfl n b).trans (pend b)⟩
  · rw [ended.rd (by decide) (by decide)]
    exact State.canErrState_passive on' (by omega) (by omega)

end

/-- Settles O18: each clause is one case of a command of the frames. -/
theorem canFrames : Obligations.CanFrames := by
  unfold Obligations.CanFrames
  exact ⟨fun _ _ _ _ => canTxReq_requests, fun _ _ _ _ => canTxReq_ignores, fun _ _ _ _ => canTxReq_others,
    fun _ _ _ _ => canTxReq_starts, fun _ _ _ _ _ asked pend => canTxCancel_holds asked pend, fun _ _ _ _ => canTxCancel_ends,
    fun _ _ _ _ => canRxIrqTimeout_raises, fun _ _ _ => canRxTailWrite_frees, fun _ _ _ _ => execCanRxTailWrite_of_past,
    fun _ _ _ _ _ _ => canTxComplete_sends, fun _ _ _ _ => execCanTxComplete_of_off,
    fun _ _ _ _ => canArbitrationLost_loses, fun _ _ => execCanArbitrationLost_of_off,
    fun _ _ _ _ => canBusError_transmits, fun _ _ _ _ => canBusError_receives, fun _ _ _ _ _ => canBusError_shows,
    fun _ _ _ _ _ => execCanBusError_of_off, segmentGapTimeout_drops, fun _ _ _ _ => canFrameReceived_stores,
    fun _ _ _ _ => canFrameReceived_loses, fun _ _ _ _ off => if_pos (.inl off)⟩

end Sys2Proof.Machine
end

section
/-! SUPPORT. One subscription among those of the gate (R392, R393): the change of its own state, and a NOTIFY that leaves it. -/

namespace Sys2Proof.Machine

/-- The NOTIFY of a subscription with its number, time and value (R392). -/
def Sub.notice (u : Sub) (n : Nat) (t : Stamp) (v : List Byte) : ZdpOut :=
  { port := u.port, dst := u.src, kind := 5, flags := 0, tag := u.tag, index := u.index, sub := u.sub, status := 0, seg := 0,
    body := leBytes 4 n ++ timeBytes t ++ v }

theorem Sub.left_id (u : Sub) : u.left.id = u.id := by
  unfold Sub.left
  split_ifs <;> rfl

theorem Sub.replaced_id (u : Sub) : u.replaced.id = u.id := by
  unfold Sub.replaced
  split_ifs <;> rfl

section
variable {s : State} {id : Nat} {u : Sub} {canLeave : Bool}

/-- A change that keeps the identifiers changes the subscription that the identifier names. -/
theorem State.subById_setSub (found : s.subById id = some u) {f : Sub → Sub} (same : ∀ v : Sub, (f v).id = v.id) :
    (s.setSub u.id f).subById id = some (f u) := by
  have own (v : Sub) : (if v.id == u.id then f v else v).id = v.id := by
    split
    · exact same v
    · rfl
  have names : ((fun v : Sub => v.id == id) ∘ fun v => if v.id == u.id then f v else v) = fun v => v.id == id :=
    funext fun v => congrArg (· == id) (own v)
  change List.find? _ (List.map _ s.zdp.subs) = _
  rw [List.find?_map, names, ← State.subById, found, Option.map_some, if_pos (beq_self_eq_true _)]

/-- A subscription whose last NOTIFY has left at `now` with number `n`. -/
def Sub.notified (n now : Nat) (u : Sub) : Sub := { u with nseq := n % 2 ^ 32, lastLeft := some now }

/-- A NOTIFY that leaves takes its number and the instant in its subscription. -/
theorem State.notify_subById (found : s.subById id = some u) (n : Nat) (alarm : Bool) (t : Stamp) (v : List Byte) :
    (s.notify u n alarm t v).subById id = some (u.notified n s.tb3) :=
  State.subById_setSub (s := s.sendZdp _) (f := Sub.notified n s.tb3) found fun _ => rfl

/-- The same, with a further change of the subscription. -/
theorem State.notify_setSub_subById (found : s.subById id = some u) (n : Nat) (alarm : Bool) (t : Stamp) (v : List Byte)
    {f : Sub → Sub} (same : ∀ v : Sub, (f v).id = v.id) :
    ((s.notify u n alarm t v).setSub u.id f).subById id = some (f (u.notified n s.tb3)) :=
  State.subById_setSub (State.notify_subById found n alarm t v) same

/-! NOTIFY_DUE -/

theorem execNotifyDue_of_none (free : s.subById id = none) (canLeave : Bool) :
    exec (.notifyDue id canLeave) s = .next s := by
  change execNotifyDue id canLeave s = _
  rw [execNotifyDue, free]

theorem execNotifyDue_of_value (found : s.subById id = some u) (value : u.stream = 0) (canLeave : Bool) :
    exec (.notifyDue id canLeave) s = .next (s.valueDue u canLeave) := by
  change execNotifyDue id canLeave s = _
  rw [execNotifyDue, found]
  exact if_neg (not_not.2 value)

theorem execNotifyDue_of_stream (found : s.subById id = some u) (stream : u.stream ≠ 0) (canLeave : Bool) :
    exec (.notifyDue id canLeave) s = if s.intervalOk u && canLeave then .next (s.streamNext u) else .next s := by
  change execNotifyDue id canLeave s = _
  rw [execNotifyDue, found]
  exact if_pos stream

/-- A value that is due leaves with the next number (R393). -/
theorem notifyDue_leaves (found : s.subById id = some u) (value : u.stream = 0) (open_ : s.intervalOk u = true) :
    Does (.notifyDue id true) s [.zdp, .regs .cnt] fun t =>
    t.zdp.out = s.zdp.out ++ [u.notice (u.nseq + 1) s.stamp (s.subValue u)] ∧
    t.subById id = some ({ u with nseq := (u.nseq + 1) % 2 ^ 32, lastLeft := some s.tb3 } : Sub).replaced.left := by
  have run : s.valueDue u true = (s.notify u (u.nseq + 1) false s.stamp (s.subValue u)).setSub u.id fun x => x.replaced.left :=
    if_pos (by simp [open_])
  refine .next ((execNotifyDue_of_value found value true).trans (congrArg _ run)) ⟨rfl, ?_⟩
  exact State.notify_setSub_subById found _ _ _ _ fun v => (Sub.left_id _).trans v.replaced_id

/-- A value that is due and may not leave waits in place of the one that waited (R393). -/
theorem notifyDue_waits (found : s.subById id = some u) (value : u.stream = 0)
    (shut : (s.intervalOk u && canLeave) = false) : Does (.notifyDue id canLeave) s [.zdp, .regs .cnt] fun t =>
    t.zdp.out = s.zdp.out ∧ t.subById id = some { u.replaced with nseq := (u.nseq + 1) % 2 ^ 32,
                                                                  waiting := some (.bytes (s.subValue u), s.stamp),
                                                                  late := s.intervalOk u } := by
  have run : s.valueDue u canLeave = s.setSub u.id fun x => { x.replaced with
      nseq := (u.nseq + 1) % 2 ^ 32, waiting := some (.bytes (s.subValue u), s.stamp), late := s.intervalOk u } :=
    if_neg (by simp [shut])
  exact .next ((execNotifyDue_of_value found value canLeave).trans (congrArg _ run))
    ⟨rfl, State.subById_setSub found Sub.replaced_id⟩

theorem execNotifyDue_of_shut (found : s.subById id = some u) (stream : u.stream ≠ 0)
    (shut : (s.intervalOk u && canLeave) = false) : exec (.notifyDue id canLeave) s = .next s :=
  (execNotifyDue_of_stream found stream canLeave).trans (if_neg (by simp [shut]))

/-- An EVENT stream sends the first record of its queue (R528). -/
theorem notifyDue_event {r : LogRec} {rest : List LogRec} (found : s.subById id = some u) (event : u.stream = 2)
    (open_ : s.intervalOk u = true) (queue : u.evQueue = r :: rest) : Does (.notifyDue id true) s [.zdp, .regs .cnt] fun t =>
    t.zdp.out = s.zdp.out ++ [u.notice (u.nseq + 1) r.last (logBytes r)] ∧
    t.subById id = some { u with nseq := (u.nseq + 1) % 2 ^ 32, lastLeft := some s.tb3, evQueue := rest } := by
  have run : s.streamNext u =
      (s.notify u (u.nseq + 1) false r.last (logBytes r)).setSub u.id fun v => { v with evQueue := rest } := by
    simp only [State.streamNext, event, queue]
  refine .next ((execNotifyDue_of_stream found (by simp [event]) true).trans ?_)
    ⟨rfl, State.notify_setSub_subById (f := fun v => { v with evQueue := rest }) found _ false _ _ fun _ => rfl⟩
  rw [if_pos (by simp [open_]), run]

/-! NOTIFY_INTERVAL_EXPIRY -/

theorem execNotifyIntervalExpiry_of_none (free : s.subById id = none) (canLeave : Bool) :
    exec (.notifyIntervalExpiry id canLeave) s = .next s := by
  change execNotifyIntervalExpiry id canLeave s = _
  rw [execNotifyIntervalExpiry, free]

theorem execNotifyIntervalExpiry_of_early (found : s.subById id = some u) (early : s.intervalOk u = false) (canLeave : Bool) :
    exec (.notifyIntervalExpiry id canLeave) s = .next s := by
  change execNotifyIntervalExpiry id canLeave s = _
  rw [execNotifyIntervalExpiry, found]
  exact if_pos (by simp [early])

theorem execNotifyIntervalExpiry_of_waiting {v : Val} {at_ : Stamp} (found : s.subById id = some u)
    (open_ : s.intervalOk u = true) (value : u.stream = 0) (waits : u.waiting = some (v, at_)) (canLeave : Bool) :
    exec (.notifyIntervalExpiry id canLeave) s =
    if canLeave then .next ((s.notify u u.nseq false at_ v.toBytes).setSub u.id Sub.left)
    else .next (s.setSub u.id fun x => { x with late := true }) := by
  change execNotifyIntervalExpiry id canLeave s = _
  simp only [execNotifyIntervalExpiry, found, open_, value, waits, Bool.not_true, Bool.false_eq_true, if_false, ne_eq,
    not_true_eq_false]

end

end Sys2Proof.Machine
end

section
/-! O25: the subscriptions over time, one clause each. -/

namespace Sys2Proof.Machine

/-- Settles O25: a NOTIFY and the wait of a value change one subscription and no other, and the ends of subscriptions and staging
areas are the filters that the commands apply. -/
theorem subscriptionCommands : Obligations.SubscriptionCommands := by
  unfold Obligations.SubscriptionCommands
  refine ⟨fun _ _ canLeave free => execNotifyDue_of_none free canLeave, fun _ _ _ => notifyDue_leaves,
    fun _ _ _ _ => notifyDue_waits, fun _ _ _ _ => execNotifyDue_of_shut, fun _ _ _ _ _ => notifyDue_event,
    fun _ _ _ canLeave found early => execNotifyIntervalExpiry_of_early found early canLeave, ?_, ?_,
    fun _ _ canLeave free => execNotifyIntervalExpiry_of_none free canLeave, fun _ _ => .next rfl rfl,
    fun _ _ _ _ => .next rfl rfl, fun _ => .next rfl rfl⟩
  · intro s id u v at_ found open_ value waits
    exact .next (execNotifyIntervalExpiry_of_waiting found open_ value waits true)
      ⟨rfl, State.notify_setSub_subById found _ _ _ _ Sub.left_id⟩
  · intro s id u v at_ found open_ value waits
    exact .next (execNotifyIntervalExpiry_of_waiting found open_ value waits false)
      ⟨rfl, State.subById_setSub (f := fun x => { x with late := true }) found fun _ => rfl⟩

end Sys2Proof.Machine
end

section
/-! SUPPORT. The kinds of ports (R399, R403): the fields of a port's row, its line at rest, and its start. -/

namespace Sys2Proof.Machine

/-- What a port shows beside the fields of its row: the link, and the interrupts of a retirement. -/
def portShown : List Field := [Reg.EM_STATUS_LINK, Reg.EM_IRQ_RETIRED, Reg.SU_IRQ_RETIRED, Reg.XL_IRQ_RETIRED]

/-- The ENABLE bit, STATE and BIST_PASS of a kind of port: fields of the blocks of the ports that lie apart from each other and from
what else the port shows. -/
structure PortRow (en st bist : Field) : Prop where
  enBit : en.w = 1
  stBits : st.w = 4
  bistBit : bist.w = 1
  enBlock : covers portBlocks en = true
  stBlock : covers portBlocks st = true
  bistBlock : covers portBlocks bist = true
  enApart : (st :: bist :: portShown).all en.disjoint = true
  stApart : (en :: bist :: portShown).all st.disjoint = true
  bistApart : (en :: st :: portShown).all bist.disjoint = true

/-- The fields that the commands of a port's modes write. -/
def portFields (en st bist : Field) : List Field := en :: st :: bist :: portShown

section
variable {n slot i : Nat} {en st bist : Field} {obj : ObjDef}

theorem portRow_of_portKind (kind : portKind n = some (en, st, bist, obj, slot, i)) : PortRow en st bist := by
  unfold portKind at kind
  split_ifs at kind <;> cases kind <;>
    exact ⟨rfl, rfl, rfl, by decide, by decide, by decide, by decide, by decide, by decide⟩

variable (s : State)

theorem State.portClear_kept (n : Nat) : FieldsKept portBlocks [Reg.EM_STATUS_LINK] s (s.portClear n) := by
  have idle : FieldsKept portBlocks [Reg.EM_STATUS_LINK] s (s.setTx (n - 1) fun t => { t with busy := none }) :=
    .of_regs (.refl _ _ s) rfl
  exact .ite (idle.wr (List.mem_singleton_self _) ..) (.ite (.of_regs (.refl _ _ s) rfl) (.of_regs (.refl _ _ s) rfl))

/-- A field of the row that lies apart from what is written beside it. -/
theorem State.portClear_rd {g : Field} (block : covers portBlocks g = true) (apart : g.disjoint Reg.EM_STATUS_LINK = true)
    (n i : Nat) : (s.portClear n).rd g i = s.rd g i :=
  (s.portClear_kept n).rd block (by simp [apart]) i 0

theorem State.portStart_regs (kind : portKind n = some (en, st, bist, obj, slot, i)) :
    (s.portStart n).regs = (((s.portClear n).wr en 1 i).wr st 1 i).regs := by
  simp only [State.portStart, kind]
  split
  · exact State.txStart_regs ..
  · rfl

theorem State.portStart_rd (kind : portKind n = some (en, st, bist, obj, slot, i)) :
    (s.portStart n).rd en i = 1 ∧ (s.portStart n).rd st i = 1 := by
  have row := portRow_of_portKind kind
  have apart := List.all_eq_true.1 row.enApart st (by simp)
  rw [State.rd, State.rd, s.portStart_regs kind, ← State.rd, ← State.rd, State.rd_wr_disjoint _ apart, State.rd_wr_self,
    State.rd_wr_self, row.enBit, row.stBits]
  exact ⟨rfl, rfl⟩

theorem State.portStart_parts (n : Nat) : Leaves 30064881664 s (s.portStart n) :=
  State.portStart_leaves (P := 30064881664) (by decide) (.refl _ s) n

end

end Sys2Proof.Machine
end

section
/-! SUPPORT. Enable and disable of a port (R399, R403). -/

namespace Sys2Proof.Machine

/-- The parts that an enable or a disable of a port may change. -/
def portModeParts : List Part := [.dict, .outcome, .zdp, .ports, .claims, .gate, .regs .em, .regs .xl, .regs .su]

/-- The ENABLE object noted where the command is an order. -/
def State.portNoted (s : State) (order on : Bool) (obj : ObjDef) (i : Nat) : State :=
  if order then s.setObjN obj (ofBool on) i else s

/-- The state in which an enable is judged: an order takes the configuration objects first. -/
def State.portAsked (s : State) (p : Nat) (order : Bool) : State := if order then s.portLoad p else s

/-- A port disabled: its ENABLE bit cleared, and DISABLED if it was RUNNING. -/
def State.portStopped (s : State) (p : Nat) (en st : Field) (i : Nat) : State :=
  let t := s.wr en 0 i
  if t.rd st i == 1 then (t.portClear p).wr st 0 i else t

section
variable (s : State) (order on : Bool) (obj : ObjDef) (i : Nat)

theorem State.portNoted_regs : (s.portNoted order on obj i).regs = s.regs := by
  cases order <;> rfl

theorem State.portNoted_rd (g : Field) : (s.portNoted order on obj i).rd g i = s.rd g i :=
  congrArg (Map.get g.rst · _) (s.portNoted_regs order on obj i)

theorem State.portNoted_ports : (s.portNoted order on obj i).ports = s.ports := by
  cases order <;> rfl

/-- The ENABLE object after a command: as an order gives it, else as it was. -/
theorem State.portNoted_objects : (order = true → (s.portNoted order on obj i).objN obj i = ofBool on) ∧
    (order = false → (s.portNoted order on obj i).dict = s.dict) := by
  cases order with
  | false => exact ⟨fun h => (nomatch h), fun _ => rfl⟩
  | true => exact ⟨fun _ => State.objN_setObjN_self .., fun h => (nomatch h)⟩

end

section
variable {s : State} {p : PortNo} {order : Bool} {en st bist : Field} {obj : ObjDef} {slot i : Nat}

theorem execPortEnable_of_none (off : portKind p = none) (on : Bool) : exec (.portEnable p on order) s = .next s := by
  change execPortEnable p on order s = _
  simp only [execPortEnable, off]

section
variable (kind : portKind p = some (en, st, bist, obj, slot, i))
include kind

theorem execPortEnable_of_on : exec (.portEnable p true order) s =
    if s.rd st i = 1 then .next ((s.portNoted order true obj i).answer 0)
    else if s.rd st i ≠ 0 then .next (s.answer 15)
    else if (s.portAsked p order).portRefusal p ≠ 0 then .next (s.answer ((s.portAsked p order).portRefusal p))
    else .next ((((s.portAsked p order).portStart p).portNoted order true obj i).answer 0) := by
  change execPortEnable p true order s = _
  simp only [execPortEnable, kind]
  rfl

theorem execPortEnable_of_off : exec (.portEnable p false order) s =
    .next (((s.portStopped p en st i).portNoted order false obj i).answer 0) := by
  change execPortEnable p false order s = _
  simp only [execPortEnable, kind]
  rfl

theorem portEnable_starts (off : s.rd st i = 0) (fit : (s.portAsked p order).portRefusal p = 0) :
    Does (.portEnable p true order) s portModeParts fun t =>
    t.outcome = 0 ∧ t.rd en i = 1 ∧ t.rd st i = 1 ∧ (order = true → t.objN obj i = 1) ∧ (order = false → t.dict = s.dict) := by
  obtain ⟨enabled, running⟩ := (s.portAsked p order).portStart_rd kind
  obtain ⟨noted, kept⟩ := ((s.portAsked p order).portStart p).portNoted_objects order true obj i
  refine .next (t := (((s.portAsked p order).portStart p).portNoted order true obj i).answer 0)
    ((execPortEnable_of_on kind).trans ?_) ⟨rfl, ((State.portNoted_rd ..).trans enabled),
      ((State.portNoted_rd ..).trans running), noted, fun plain => (kept plain).trans ?_⟩
  · rw [if_neg (by omega), if_neg (not_not.2 off), if_neg (not_not.2 fit)]
  · exact ((State.portStart_parts ..).dict (by decide)).trans (by rw [State.portAsked, plain]; rfl)

theorem portEnable_refused (off : s.rd st i = 0) (unfit : (s.portAsked p order).portRefusal p ≠ 0) :
    Does (.portEnable p true order) s portModeParts fun t =>
    t.outcome = (s.portAsked p order).portRefusal p ∧ t.regs = s.regs ∧ t.dict = s.dict ∧ t.ports = s.ports := by
  refine .next (t := s.answer ((s.portAsked p order).portRefusal p)) ((execPortEnable_of_on kind).trans ?_) ⟨rfl, rfl, rfl, rfl⟩
  rw [if_neg (by omega), if_neg (not_not.2 off), if_pos unfit]

theorem portEnable_already (running : s.rd st i = 1) : Does (.portEnable p true order) s portModeParts fun t =>
    t.outcome = 0 ∧ t.regs = s.regs ∧ t.ports = s.ports ∧ (order = true → t.objN obj i = 1) :=
  .next ((execPortEnable_of_on kind).trans (if_pos running))
    ⟨rfl, s.portNoted_regs .., s.portNoted_ports .., (s.portNoted_objects order true obj i).1⟩

theorem portEnable_barred (barred : 1 < s.rd st i) : Does (.portEnable p true order) s portModeParts fun t =>
    t.outcome = 15 ∧ t.regs = s.regs ∧ t.dict = s.dict ∧ t.ports = s.ports :=
  .next ((execPortEnable_of_on kind).trans ((if_neg (by omega)).trans (if_pos (by omega)))) ⟨rfl, rfl, rfl, rfl⟩

theorem State.portStopped_rd : (s.portStopped p en st i).rd en i = 0 ∧
    (s.portStopped p en st i).rd st i = if s.rd st i = 1 then 0 else s.rd st i := by
  have row := portRow_of_portKind kind
  have apart : en.disjoint st = true := List.all_eq_true.1 row.enApart st (by simp)
  have back : st.disjoint en = true := List.all_eq_true.1 row.stApart en (by simp)
  have link : en.disjoint Reg.EM_STATUS_LINK = true := List.all_eq_true.1 row.enApart _ (by simp [portShown])
  unfold State.portStopped
  simp only [State.rd_wr_disjoint _ back, beq_iff_eq]
  split
  · exact ⟨(State.rd_wr_disjoint _ apart ..).trans ((State.portClear_rd _ row.enBlock link ..).trans
      ((State.rd_wr_self ..).trans (Nat.zero_mod _))), (State.rd_wr_self ..).trans (Nat.zero_mod _)⟩
  · exact ⟨(State.rd_wr_self ..).trans (Nat.zero_mod _), State.rd_wr_disjoint _ back ..⟩

theorem portEnable_stops : Does (.portEnable p false order) s portModeParts fun t => t.outcome = 0 ∧ t.rd en i = 0 ∧
    t.rd st i = (if s.rd st i = 1 then 0 else s.rd st i) ∧ (order = true → t.objN obj i = 0) ∧
    (order = false → t.dict = s.dict) := by
  obtain ⟨disabled, state⟩ := State.portStopped_rd (s := s) kind
  obtain ⟨noted, kept⟩ := (s.portStopped p en st i).portNoted_objects order false obj i
  have dict : (s.portStopped p en st i).dict = s.dict := by
    unfold State.portStopped
    dsimp only
    split
    · exact (State.portClear_leaves (P := 4294975488) (by decide) (.refl _ _) p).dict (by decide)
    · rfl
  exact .next (execPortEnable_of_off kind) ⟨rfl, (State.portNoted_rd ..).trans disabled, (State.portNoted_rd ..).trans state,
    noted, fun plain => (kept plain).trans dict⟩

end

end

end Sys2Proof.Machine
end

section
/-! SUPPORT. Self-test and return of a port (R374, R403). -/

namespace Sys2Proof.Machine

/-- The parts that the start of a port's self-test may change. -/
def portTestParts : List Part := [.outcome, .health, .ports, .regs .em, .regs .xl, .regs .su]

/-- The parts that the end of a port's self-test may change. -/
def portDoneParts : List Part := [.dict, .fresh, .health, .zdp, .ports, .regs .em, .regs .xl, .regs .su, .regs .cnt, .regs .hl]

/-- The parts that the return of a port may change. -/
def portReturnParts : List Part :=
  [.outcome, .fresh, .health, .zdp, .ports, .claims, .gate, .regs .em, .regs .xl, .regs .su, .regs .hl]

/-! The health block and the ports -/

section
variable (s : State) (slot : Nat)

theorem State.unitTested_rd (pass : Bool) {g : Field} (block : covers portBlocks g = true) (i : Nat) :
    (s.unitTested slot pass).rd g i = s.rd g i :=
  ((State.unitTested_leaves (P := 103079229960) (by decide) (.refl _ s) slot pass).fieldsKept (by decide) []).rd block rfl i 0

/-- The return of a unit writes registers of the health block alone. -/
theorem State.unitReturned_fieldsKept {P : Nat} (beside : 68719479296 &&& P = 0) : FieldsKept P [] s (s.unitReturned slot) :=
  (State.unitReturned_leaves (P := 68719479296) (by decide) (.refl _ s) slot 0 0).fieldsKept beside []

/-- The return of a unit bars no port. -/
theorem State.unitReturned_portRefusal (n : Nat) : (s.unitReturned slot).portRefusal n = s.portRefusal n := by
  have zdp : (s.unitReturned slot).zdp = s.zdp :=
    (State.unitReturned_leaves (P := 68719479296) (by decide) (.refl _ s) slot 0 0).zdp (by decide)
  have rd {g : Field} (block : covers (portBlocks + 2 ^ 40) g = true) (i : Nat) : (s.unitReturned slot).rd g i = s.rd g i :=
    (s.unitReturned_fieldsKept slot (by decide)).rd block rfl i 0
  simp (disch := decide) only [State.portRefusal, State.gateRole, State.role, State.classAt, rd, zdp]
  rfl

end

section
variable {s : State} {p : PortNo} {en st bist : Field} {obj : ObjDef} {slot i : Nat}

/-! The start -/

theorem execPortServiceTest_of_none (off : portKind p = none) : exec (.portServiceTest p) s = .next s := by
  change execPortServiceTest p s = _
  rw [execPortServiceTest, off]

theorem execPortSelfTestDone_of_none (off : portKind p = none) (pass : Bool) :
    exec (.portSelfTestDone p pass) s = .next s := by
  change execPortSelfTestDone p pass s = _
  rw [execPortSelfTestDone, off]

theorem execPortServiceReturn_of_none (off : portKind p = none) : exec (.portServiceReturn p) s = .next s := by
  change execPortServiceReturn p s = _
  rw [execPortServiceReturn, off]

section
variable (kind : portKind p = some (en, st, bist, obj, slot, i))
include kind

theorem execPortServiceTest_of_kind : exec (.portServiceTest p) s =
    if s.rd st i < 3 then .next ((s.portTestStart p).answer 0) else .next (s.answer 15) := by
  change execPortServiceTest p s = _
  simp only [execPortServiceTest, kind]

theorem State.portTestStart_rd : (s.portTestStart p).rd st i = 3 ∧ (s.portTestStart p).rd bist i = 0 ∧
    (s.portTestStart p).rd en i = s.rd en i := by
  have row := portRow_of_portKind kind
  have regs : (s.portTestStart p).regs = (((s.portClear p).wr st 3 i).wr bist 0 i).regs := by
    simp only [State.portTestStart, kind, State.unitTesting_regs]
  have rd (g : Field) : (s.portTestStart p).rd g i = (((s.portClear p).wr st 3 i).wr bist 0 i).rd g i :=
    congrArg (Map.get g.rst · _) regs
  have kept := ((s.portClear_kept p).mono (fs := [st, bist, Reg.EM_STATUS_LINK]) (by simp)).wr (f := st) (by simp) 3 i 0
    |>.wr (f := bist) (by simp) 0 i 0
  have apart : st.disjoint bist = true := List.all_eq_true.1 row.stApart bist (by simp)
  refine ⟨(rd st).trans ?_, (rd bist).trans ?_, (rd en).trans (kept.rd row.enBlock ?_ i 0)⟩
  · rw [State.rd_wr_disjoint _ apart, State.rd_wr_self, row.stBits]
    rfl
  · exact (State.rd_wr_self ..).trans (Nat.zero_mod _)
  · have all := row.enApart
    simp only [portShown, List.all_cons, Bool.and_eq_true] at all ⊢
    tauto

theorem portServiceTest_starts (free : s.rd st i < 3) : Does (.portServiceTest p) s portTestParts fun t =>
    t.outcome = 0 ∧ t.rd st i = 3 ∧ t.rd bist i = 0 ∧ t.rd en i = s.rd en i :=
  .next ((execPortServiceTest_of_kind kind).trans (if_pos free)) ⟨rfl, State.portTestStart_rd kind⟩

theorem portServiceTest_refused (busy : 3 ≤ s.rd st i) : Does (.portServiceTest p) s portTestParts fun t =>
    t.outcome = 15 ∧ t.regs = s.regs ∧ t.health = s.health ∧ t.ports = s.ports :=
  .next ((execPortServiceTest_of_kind kind).trans (if_neg (by omega))) ⟨rfl, rfl, rfl, rfl⟩

/-! The end -/

theorem execPortSelfTestDone_of_kind (pass : Bool) : exec (.portSelfTestDone p pass) s =
    if s.rd st i ≠ 3 then .next s
    else if pass then .next (((s.unitTested slot pass).wr st 2 i).raise bist i)
    else .next ((s.unitTested slot pass).portRetire p) := by
  change execPortSelfTestDone p pass s = _
  simp only [execPortSelfTestDone, kind]

theorem execPortSelfTestDone_of_idle (idle : s.rd st i ≠ 3) (pass : Bool) :
    exec (.portSelfTestDone p pass) s = .next s := (execPortSelfTestDone_of_kind kind pass).trans (if_pos idle)

theorem portSelfTestDone_passes (testing : s.rd st i = 3) : Does (.portSelfTestDone p true) s portDoneParts fun t =>
    t.rd st i = 2 ∧ t.rd bist i = 1 ∧ t.rd en i = s.rd en i := by
  have row := portRow_of_portKind kind
  have stBist : st.disjoint bist = true := List.all_eq_true.1 row.stApart bist (by simp)
  have enSt : en.disjoint st = true := List.all_eq_true.1 row.enApart st (by simp)
  have enBist : en.disjoint bist = true := List.all_eq_true.1 row.enApart bist (by simp)
  refine .next ((execPortSelfTestDone_of_kind kind true).trans (if_neg (not_not.2 testing))) ⟨?_, ?_, ?_⟩
  · exact (State.rd_wr_disjoint _ stBist ..).trans ((State.rd_wr_self ..).trans (congrArg (2 % 2 ^ ·) row.stBits))
  · exact (State.rd_wr_self ..).trans (congrArg (1 % 2 ^ ·) row.bistBit)
  · exact (State.rd_wr_disjoint _ enBist ..).trans ((State.rd_wr_disjoint _ enSt ..).trans
      (State.unitTested_rd _ _ _ row.enBlock i))

/-- The interrupt by which the retirement of a port is told. -/
def portRetiredIrq (n : Nat) : Field :=
  if n ≤ 8 then Reg.EM_IRQ_RETIRED else if n ≤ 32 then Reg.SU_IRQ_RETIRED else Reg.XL_IRQ_RETIRED

omit kind in
theorem portRetiredIrq_mem (n : Nat) : portRetiredIrq n ∈ portShown := by
  unfold portRetiredIrq
  split_ifs <;> decide

omit kind in
theorem portRetiredIrq_bit (n : Nat) : (portRetiredIrq n).w = 1 := by
  unfold portRetiredIrq
  split_ifs <;> rfl

theorem State.portRetire_eq : s.portRetire p = ((s.portClear p).wr st 4 i).raise (portRetiredIrq p) i := by
  simp only [State.portRetire, kind, portRetiredIrq]
  split_ifs <;> rfl

theorem State.portRetire_retires : (s.portRetire p).rd st i = 4 ∧ (s.portRetire p).rd bist i = s.rd bist i ∧
    (s.portRetire p).flag (portRetiredIrq p) i = true := by
  have row := portRow_of_portKind kind
  have irq := portRetiredIrq_mem p
  have kept := ((s.portClear_kept p).mono (fs := st :: portShown) (by simp [portShown])).wr (f := st) (by simp) 4 i 0
    |>.raise (f := portRetiredIrq p) (by simp [irq]) i 0
  rw [State.portRetire_eq kind]
  refine ⟨?_, kept.rd row.bistBlock ?_ i 0, State.flag_raise_self _ (portRetiredIrq_bit p) ..⟩
  · refine (State.rd_wr_disjoint _ (List.all_eq_true.1 row.stApart _ (by simp [irq])) ..).trans ?_
    rw [State.rd_wr_self, row.stBits]
    rfl
  · have all := row.bistApart
    simp only [List.all_cons, Bool.and_eq_true] at all ⊢
    tauto

theorem portSelfTestDone_fails (testing : s.rd st i = 3) : Does (.portSelfTestDone p false) s portDoneParts fun t =>
    t.rd st i = 4 ∧ t.rd bist i = s.rd bist i ∧
    (p.val ≤ 8 → t.flag Reg.EM_IRQ_RETIRED i = true) ∧ (25 ≤ p.val → p.val ≤ 32 → t.flag Reg.SU_IRQ_RETIRED i = true) ∧
    (33 ≤ p.val → t.flag Reg.XL_IRQ_RETIRED i = true) := by
  have row := portRow_of_portKind kind
  obtain ⟨state, bistKept, told⟩ := State.portRetire_retires (s := s.unitTested slot false) kind
  have irq {g : Field} (which : portRetiredIrq p = g) : ((s.unitTested slot false).portRetire p).flag g i = true := which ▸ told
  refine .next ((execPortSelfTestDone_of_kind kind false).trans (if_neg (not_not.2 testing)))
    ⟨state, bistKept.trans (State.unitTested_rd _ _ _ row.bistBlock i), fun low => irq (if_pos low),
      fun low high => irq ((if_neg (by omega)).trans (if_pos high)),
      fun high => irq ((if_neg (by omega)).trans (if_neg (by omega)))⟩

/-! The return -/

theorem execPortServiceReturn_of_kind : exec (.portServiceReturn p) s =
    if s.rd st i = 2 then .next ((s.portReturn p).answer 0) else .next (s.answer 15) := by
  change execPortServiceReturn p s = _
  simp only [execPortServiceReturn, kind]

theorem State.portReturn_eq : s.portReturn p =
    if s.flag en i = true ∧ s.portRefusal p = 0 then (s.unitReturned slot).portStart p
    else ((s.unitReturned slot).wr en 0 i).wr st 0 i := by
  have enabled : (s.unitReturned slot).flag en i = s.flag en i :=
    (s.unitReturned_fieldsKept slot (P := portBlocks) (by decide)).flag (portRow_of_portKind kind).enBlock rfl i 0
  simp only [State.portReturn, kind, enabled, State.unitReturned_portRefusal, Bool.and_eq_true, beq_iff_eq]

theorem portServiceReturn_returns (offline : s.rd st i = 2) : Does (.portServiceReturn p) s portReturnParts fun t =>
    t.outcome = 0 ∧ (t.unit slot).state = 0 ∧ (s.flag en i = true → s.portRefusal p = 0 → t.rd st i = 1) ∧
    (s.flag en i = false → t.rd st i = 0) := by
  have back := s.unitReturned_unit slot 0 0
  refine .next ((execPortServiceReturn_of_kind kind).trans (if_pos offline)) ⟨rfl, ?_⟩
  simp only [State.answer_rd]
  change ((s.portReturn p).unit slot).state = 0 ∧ _
  rw [State.portReturn_eq kind]
  split
  case isTrue runs =>
    have health : ((s.unitReturned slot).portStart p).health = (s.unitReturned slot).health :=
      (State.portStart_parts ..).health (by decide)
    exact ⟨by rw [State.unit, health, ← State.unit, back], fun _ _ => (State.portStart_rd _ kind).2,
      fun off => absurd runs.1 (by simp [off])⟩
  case isFalse stays =>
    exact ⟨back, fun on fit => absurd ⟨on, fit⟩ stays, fun _ => (State.rd_wr_self ..).trans (Nat.zero_mod _)⟩

theorem portServiceReturn_refused (here : s.rd st i ≠ 2) : Does (.portServiceReturn p) s portReturnParts fun t =>
    t.outcome = 15 ∧ t.regs = s.regs ∧ t.health = s.health ∧ t.ports = s.ports :=
  .next ((execPortServiceReturn_of_kind kind).trans (if_neg here)) ⟨rfl, rfl, rfl, rfl⟩

end

/-! The fuse order (R383) -/

section
variable {src : BitVec 16} {target : PortNo} {cls : BitVec 8}

theorem fuseOrder_refused (unfit : s.fuseRefusal p src.toNat target cls.toNat ≠ 0) :
    Does (.fuseOrder p src target cls) s [.outcome, .zdp] fun t =>
    t.outcome = s.fuseRefusal p src.toNat target cls.toNat ∧ t.zdp = s.zdp := .next (if_pos unfit) ⟨rfl, rfl⟩

theorem fuseOrder_programs (fit : s.fuseRefusal p src.toNat target cls.toNat = 0) :
    Does (.fuseOrder p src target cls) s [.outcome, .zdp] fun t =>
    t.outcome = 0 ∧ Map.get none t.zdp.fuses target.val = some ⟨cls.toNat, src.toNat, p.val, s.stamp⟩ ∧
    t.zdp.classes = s.zdp.classes := .next (if_neg (not_not.2 fit)) ⟨rfl, Map.get_put_self .., rfl⟩

end

end

end Sys2Proof.Machine
end

section
/-! SUPPORT. The end of a dip (R62, R429): the interrupts and readings that it leaves, beside what the sparge writes. -/

namespace Sys2Proof.Machine

/-- The bits of the register blocks of Grist and Gauge. -/
def gaugeBlocks : Nat := 2 ^ 25 + 2 ^ 26

/-- The bits of every part but the health block. -/
def besideHealth : Nat := 2 ^ 42 - 1 - 2 ^ 11

/-! The table in force (R79) -/

/-- An EVENT leaves the count of the spare banks. -/
theorem State.event_exhausted (s : State) (b : HwBlock) (name : String) (unit : Nat) :
    (s.event b name unit).health.exhausted = s.health.exhausted := by
  have counted : (s.count 0xA02 (unitKind unit)).health.exhausted = s.health.exhausted :=
    congrArg HealthSt.exhausted ((State.count_leaves (P := 2 ^ 35) (by decide) (.refl _ s) ..).health (by decide))
  change (s.eventWith _ _ _ _ _ _).health.exhausted = _
  unfold State.eventWith
  dsimp only
  split_ifs <;> exact counted

/-- The grants of a table shown. -/
def State.grantsShown (s : State) (t : Table) : State :=
  (List.range 5).foldl (fun u c => u.wr Reg.GRIST_GRANT_GRANT (t.grants.getD c 0) c) s

/-- The shares of tile `n` in a table shown. -/
def State.shareShown (s : State) (t : Table) (n : Nat) : State :=
  let u := (s.wr Reg.GRIST_SHARE_EST (t.share n 0) n).wr Reg.GRIST_SHARE_PLAN (t.share n 1) n
  let u := (u.wr Reg.GRIST_SHARE_BUNDLE (t.share n 2) n).wr Reg.GRIST_SHARE_CONSEQ (t.share n 3) n
  u.wr Reg.GRIST_SHARE_GENERAL (t.share n 4) n

/-- The table in force shown, apart from a change of SHED. -/
def State.tableShown (s : State) : State :=
  let t := (List.range 32).foldl (fun u n => u.shareShown s.tableInForce n) (s.grantsShown s.tableInForce)
  t.put Reg.GRIST_STATUS_DIP t.dip

/-- The fields that show the table in force. -/
def tableFields : List Field :=
  [Reg.GRIST_GRANT_GRANT, Reg.GRIST_SHARE_EST, Reg.GRIST_SHARE_PLAN, Reg.GRIST_SHARE_BUNDLE, Reg.GRIST_SHARE_CONSEQ,
   Reg.GRIST_SHARE_GENERAL, Reg.GRIST_STATUS_DIP, Reg.GRIST_STATUS_SHED, Reg.GRIST_IRQ_SHED_CHANGE]

section
variable (s : State)

theorem State.showTable_eq : s.showTable =
    if s.tableShown.rd Reg.GRIST_STATUS_SHED == s.tableInForce.shed then s.tableShown
    else ((s.tableShown.wr Reg.GRIST_STATUS_SHED s.tableInForce.shed).raise Reg.GRIST_IRQ_SHED_CHANGE).event .gauge
      "SHED_CHANGE" := by
  unfold State.showTable State.tableShown State.grantsShown State.shareShown
  rfl

theorem State.tableShown_kept : FieldsKept gaugeBlocks tableFields s s.tableShown := by
  have grants : FieldsKept gaugeBlocks tableFields s (s.grantsShown s.tableInForce) :=
    .foldl (fun u c => (FieldsKept.refl _ _ u).wr (f := Reg.GRIST_GRANT_GRANT) (by decide) _ c 0) _ s
  have share (u : State) (n : Nat) : FieldsKept gaugeBlocks tableFields u (u.shareShown s.tableInForce n) :=
    (((((FieldsKept.refl _ _ u).wr (by decide) ..).wr (by decide) ..).wr (by decide) ..).wr (by decide) ..).wr (by decide) ..
  exact (grants.trans (.foldl share _ _)).wr (f := Reg.GRIST_STATUS_DIP) (by decide) ..

theorem State.tableShown_health : s.tableShown.health = s.health := by
  have grants : (s.grantsShown s.tableInForce).health = s.health :=
    List.foldlRecOn (motive := fun t : State => t.health = s.health) _ _ rfl fun _ same _ _ => same
  rw [State.tableShown, State.put_health]
  exact List.foldlRecOn (motive := fun t : State => t.health = s.health) _ _ grants fun _ same _ _ => same

theorem State.showTable_kept : FieldsKept gaugeBlocks tableFields s s.showTable := by
  have changed : FieldsKept gaugeBlocks tableFields s
      ((s.tableShown.wr Reg.GRIST_STATUS_SHED s.tableInForce.shed).raise Reg.GRIST_IRQ_SHED_CHANGE) :=
    (s.tableShown_kept.wr (by decide) ..).raise (by decide) ..
  rw [State.showTable_eq]
  exact .ite s.tableShown_kept (changed.trans
    ((State.event_leaves (P := 103079221760) (by decide) (.refl _ _) ..).fieldsKept (by decide) _))

theorem State.showTable_exhausted : s.showTable.health.exhausted = s.health.exhausted := by
  have shown : s.tableShown.health.exhausted = s.health.exhausted := congrArg HealthSt.exhausted s.tableShown_health
  rw [State.showTable_eq]
  split
  · exact shown
  · exact (State.event_exhausted ..).trans shown

theorem State.showTable_journal : s.showTable.journal = s.journal :=
  (State.showTable_leaves (P := 103112776192) (by decide) (.refl _ s)).journal (by decide)

end

/-! The sparge (R429) -/

section
variable (s : State)

theorem State.sparge_kept : FieldsKept gaugeBlocks [] s s.sparge :=
  (State.sparge_leaves (P := 655251406380) (by decide) (.refl _ s)).fieldsKept (by decide) []

theorem State.sparge_done : s.sparge.flag Reg.JE_IRQ_SPARGE_DONE = true := State.flag_raise_self _ rfl ..

/-- The records that a dip held go to Cask. -/
def State.spargeRecords (s : State) : State :=
  let alarms := s.health.held
  let hist := s.health.heldHist
  let s := s.setHealth fun h => { h with
    held := [], heldHist := [], history := (h.history ++ hist).drop (h.history.length + hist.length - 768) }
  let s := hist.foldl (fun (t : State) r => match slotOf r.unit with
    | some i =>
      let u := t.unit i
      t.setHealth fun h => { h with table := Map.put h.table i u }
    | none => t) s
  alarms.foldl (fun t a => t.toRing a) s

/-- The journal records that the dip kept back are stored and acknowledged. -/
def State.spargeKept (s : State) : State :=
  let kept := s.journal.kept
  if s.jstate == 7 then s else
    let s := (s.setJ fun j => { j with kept := [] }).ringStore kept
    if kept.isEmpty then s else s.afterWrite kept

/-- A gap is asked for. -/
def State.spargeFetch (s : State) : State :=
  match s.journal.gap, s.journal.seqView with
  | o :: _, some m => s.sendFetch m (s.lastOsn + 1) (o.osn - 1)
  | _, _ => s

/-- The journal leaves the states of a dip. -/
def State.spargeState (s : State) : State :=
  if s.jstate == 3 || s.jstate == 4 then
    (s.setJState (if s.journal.before == 5 then 5 else 2)).chooseSequencer else s

/-- What the sparge does for the journal: the held values, the records kept back, a gap, the state, then the held orders and
WRITEs. -/
def State.spargeJournal (s : State) : State :=
  let es := s.journal.held
  let s := s.heldCount fun j => { j with held := [] }
  let s := (es.filter HeldEntry.isPersist).foldl (fun t e => t.completeHeld e) s
  let s := s.spargeKept.spargeFetch.spargeState
  let s := (es.filter fun e => !e.isPersist).foldl (fun t e => t.completeHeld e) s
  s.raise Reg.JE_IRQ_SPARGE_DONE

theorem State.sparge_eq : s.sparge = s.spargeRecords.spargeJournal := by
  unfold State.sparge State.spargeRecords State.spargeJournal State.spargeKept State.spargeFetch State.spargeState
  rfl

theorem State.toRing_exhausted (a : AlarmRec) : (s.toRing a).health.exhausted = s.health.exhausted := by
  unfold State.toRing
  split
  · split <;> rfl
  · rfl

theorem State.spargeRecords_exhausted : s.spargeRecords.health.exhausted = s.health.exhausted := by
  refine List.foldlRecOn (motive := fun t : State => t.health.exhausted = s.health.exhausted) _ _ ?_
    fun t same a _ => (t.toRing_exhausted a).trans same
  refine List.foldlRecOn (motive := fun t : State => t.health.exhausted = s.health.exhausted) _ _ ?_ fun t same r _ => ?_
  · simp only [State.setHealth]
  · split <;> exact same

/-- What the sparge does for the journal leaves the health block. -/
theorem State.spargeJournal_beside : Leaves besideHealth s s.spargeJournal := by
  have complete (u : State) (e : HeldEntry) (h : Leaves besideHealth s u) : Leaves besideHealth s (u.completeHeld e) :=
    State.completeHeld_leaves (by decide) h e
  have kept (u : State) (h : Leaves besideHealth s u) : Leaves besideHealth s u.spargeKept :=
    have stored := State.ringStore_leaves (by decide)
      (State.setJ_leaves (by decide) h fun j => { j with kept := [] }) u.journal.kept
    .ite (fun _ => h) fun _ => .ite (fun _ => stored) fun _ => State.afterWrite_leaves (by decide) stored _
  have fetch (u : State) (h : Leaves besideHealth s u) : Leaves besideHealth s u.spargeFetch := by
    unfold State.spargeFetch
    split
    · exact State.sendFetch_leaves (by decide) h ..
    · exact h
  have state (u : State) (h : Leaves besideHealth s u) : Leaves besideHealth s u.spargeState :=
    .ite (fun _ => State.chooseSequencer_leaves (by decide) (State.setJState_leaves (by decide) h _)) fun _ => h
  have held := State.heldCount_leaves (P := besideHealth) (by decide) (.refl _ s) fun j => { j with held := [] }
  have orders := Leaves.foldl complete (s.journal.held.filter fun e => !e.isPersist)
    (state _ (fetch _ (kept _ (.foldl complete (s.journal.held.filter HeldEntry.isPersist) held))))
  exact State.raise_leaves orders Reg.JE_IRQ_SPARGE_DONE (by decide) 0 0

theorem State.sparge_exhausted : s.sparge.health.exhausted = s.health.exhausted := by
  rw [State.sparge_eq, (State.spargeJournal_beside _).health (by decide), State.spargeRecords_exhausted]

end

/-- Where no WRITE was held, the end of the dip is the sparge alone. -/
theorem State.spargeWrites_of_none {s : State} (none : s.journal.held = []) : s.spargeWrites = s.sparge := by
  simp [State.spargeWrites, none]

theorem State.holdIfExhausted_of_spare {s : State} (spare : s.health.exhausted = false) : s.holdIfExhausted = s :=
  if_neg (by simp [spare])

end Sys2Proof.Machine
end

section
/-! SUPPORT. DIP_END (R62): the reading, the end of the dip in the registers, and the command. -/

namespace Sys2Proof.Machine

/-- The dip ended in the registers: its status cleared, its length noted unless it belongs to the start-up, and its interrupt
raised. -/
def State.dipOver (s : State) : State :=
  let ms := (s.tb3 - s.fabric.gauge.dipAt) / 1000000
  let counts := !s.fabric.gauge.startUp
  let s := (s.wr Reg.GAUGE_STATUS_DIP 0).wr Reg.GAUGE_STATUS_DIP_LONG 0
  let s := if counts then
      (s.wr Reg.GAUGE_DIP_LAST_MS (min ms 0xFFFF)).setGauge fun g => { g with lastMs := ms, longest := max g.longest ms }
    else s
  (s.setGauge fun g => { g with startUp := false }).raise Reg.GRIST_IRQ_DIP_EXIT

/-- The fields that the end of a dip writes after its status. -/
def dipFields : List Field := [Reg.GAUGE_DIP_LAST_MS, Reg.GRIST_IRQ_DIP_EXIT]

section
variable (s : State) (v : Nat)

theorem State.vcoreReading_now : (s.vcoreReading v).rd Reg.GAUGE_VCORE_NOW = v % 2 ^ 16 := by
  have kept : FieldsKept gaugeBlocks [Reg.GAUGE_VCORE_MIN, Reg.GAUGE_STATUS_VCORE_WARN] (s.wr Reg.GAUGE_VCORE_NOW v)
      (s.vcoreReading v) := .of_regs (((FieldsKept.refl _ _ _).wr (by decide) ..).wr (by decide) ..) rfl
  exact (kept.rd (by decide) (by decide) 0 0).trans (State.rd_wr_self ..)

theorem State.vcoreReading_dip : (s.vcoreReading v).dip = s.dip := by
  have kept : FieldsKept gaugeBlocks [Reg.GAUGE_VCORE_NOW, Reg.GAUGE_VCORE_MIN, Reg.GAUGE_STATUS_VCORE_WARN] s
      (s.vcoreReading v) :=
    .of_regs ((((FieldsKept.refl _ _ s).wr (by decide) ..).wr (by decide) ..).wr (by decide) ..) rfl
  exact kept.flag (by decide) (by decide) 0 0

theorem State.dipOver_kept :
    FieldsKept gaugeBlocks dipFields ((s.wr Reg.GAUGE_STATUS_DIP 0).wr Reg.GAUGE_STATUS_DIP_LONG 0) s.dipOver := by
  have start := FieldsKept.refl gaugeBlocks dipFields ((s.wr Reg.GAUGE_STATUS_DIP 0).wr Reg.GAUGE_STATUS_DIP_LONG 0)
  have noted (n : Nat) (f : GaugeSt → GaugeSt) := (start.wr (f := Reg.GAUGE_DIP_LAST_MS) (by decide) n 0 0).of_regs
    (State.setGauge_regs _ f)
  exact ((noted _ _ |>.ite start).of_regs (State.setGauge_regs ..)).raise (by decide) ..

theorem State.dipOver_ends : s.dipOver.flag Reg.GAUGE_STATUS_DIP = false ∧ s.dipOver.flag Reg.GAUGE_STATUS_DIP_LONG = false ∧
    s.dipOver.flag Reg.GRIST_IRQ_DIP_EXIT = true ∧ s.dipOver.rd Reg.GAUGE_VCORE_NOW = s.rd Reg.GAUGE_VCORE_NOW := by
  have kept := s.dipOver_kept
  refine ⟨(kept.flag (by decide) (by decide) 0 0).trans ?_, (kept.flag (by decide) (by decide) 0 0).trans ?_,
    State.flag_raise_self _ rfl .., (kept.rd (by decide) (by decide) 0 0).trans ?_⟩
  · rw [State.flag_wr_disjoint _ (by decide), State.flag, State.rd_wr_self]
    rfl
  · rw [State.flag, State.rd_wr_self]
    rfl
  · rw [State.rd_wr_disjoint _ (by decide), State.rd_wr_disjoint _ (by decide)]

theorem State.dipOver_rest : s.dipOver.journal = s.journal ∧ s.dipOver.health = s.health := by
  unfold State.dipOver
  dsimp only
  split <;> exact ⟨rfl, rfl⟩

end

section
variable {s : State} {vcore : BitVec 16}

theorem execDipEnd_of_low (low : vcore.toNat < 2760) : exec (.dipEnd vcore) s = .next s := if_pos low

theorem execDipEnd_of_dip (high : 2760 ≤ vcore.toNat) (dip : s.dip = true) : exec (.dipEnd vcore) s =
    .next (s.vcoreReading vcore.toNat).dipOver.showTable.spargeWrites.holdIfExhausted :=
  (if_neg (Nat.not_lt.2 high)).trans (if_neg (by simp [State.vcoreReading_dip, dip]))

/-- A dip that held nothing ends with the sparge, and the hub stays out of reset while a spare bank is left (R62, R429, R516). -/
theorem dipEnd_ends (high : 2760 ≤ vcore.toNat) (dip : s.dip = true) (idle : s.journal.held = [])
    (spare : s.health.exhausted = false) : Does (.dipEnd vcore) s Part.all fun t =>
    t.flag Reg.GAUGE_STATUS_DIP = false ∧ t.flag Reg.GAUGE_STATUS_DIP_LONG = false ∧ t.flag Reg.GRIST_IRQ_DIP_EXIT = true ∧
    t.flag Reg.JE_IRQ_SPARGE_DONE = true ∧ t.rd Reg.GAUGE_VCORE_NOW = vcore.toNat % 2 ^ 16 := by
  let u := (s.vcoreReading vcore.toNat).dipOver
  obtain ⟨ended, short, told, now⟩ := (s.vcoreReading vcore.toNat).dipOver_ends
  obtain ⟨journal, health⟩ := (s.vcoreReading vcore.toNat).dipOver_rest
  have held : u.showTable.journal.held = [] := by rw [State.showTable_journal, journal]; exact idle
  have left : u.showTable.sparge.health.exhausted = false := by
    rw [State.sparge_exhausted, State.showTable_exhausted, health]
    exact spare
  have kept : FieldsKept gaugeBlocks tableFields u u.showTable.sparge :=
    u.showTable_kept.andThen u.showTable.sparge_kept (List.nil_subset _)
  have e : exec (.dipEnd vcore) s = .next u.showTable.sparge := by
    rw [execDipEnd_of_dip high dip, State.spargeWrites_of_none held, State.holdIfExhausted_of_spare left]
  exact .next e ⟨(kept.flag (by decide) (by decide) 0 0).trans ended, (kept.flag (by decide) (by decide) 0 0).trans short,
    (kept.flag (by decide) (by decide) 0 0).trans told, State.sparge_done _,
    (kept.rd (by decide) (by decide) 0 0).trans (now.trans (State.vcoreReading_now ..))⟩

end

end Sys2Proof.Machine
end

section
/-! O21: the modes of a port, the fuse order and the end of a dip, one clause each. -/

namespace Sys2Proof.Machine

/-- Settles O21: each command of a port writes the fields of its row, which lie apart from what it shows beside them, and the records
of a test or a return lie in other blocks; the end of a dip clears its status before the sparge, which writes neither Gauge nor
Grist. -/
theorem portModes : Obligations.PortModes := by
  unfold Obligations.PortModes
  exact ⟨fun _ _ on _ off => execPortEnable_of_none off on, fun _ _ _ _ _ _ _ _ _ => portEnable_starts,
    fun _ _ _ _ _ _ _ _ _ => portEnable_refused, fun _ _ _ _ _ _ _ _ _ => portEnable_already,
    fun _ _ _ _ _ _ _ _ _ => portEnable_barred, fun _ _ _ _ _ _ _ _ _ => portEnable_stops,
    fun _ _ => execPortServiceTest_of_none, fun _ _ _ _ _ _ _ _ => portServiceTest_starts,
    fun _ _ _ _ _ _ _ _ => portServiceTest_refused, fun _ _ pass off => execPortSelfTestDone_of_none off pass,
    fun _ _ pass _ _ _ _ _ _ kind idle => execPortSelfTestDone_of_idle kind idle pass,
    fun _ _ _ _ _ _ _ _ => portSelfTestDone_passes, fun _ _ _ _ _ _ _ _ => portSelfTestDone_fails,
    fun _ _ => execPortServiceReturn_of_none, fun _ _ _ _ _ _ _ _ => portServiceReturn_returns,
    fun _ _ _ _ _ _ _ _ => portServiceReturn_refused, fun _ _ _ _ _ => fuseOrder_refused,
    fun _ _ _ _ _ => fuseOrder_programs, fun _ _ => execDipEnd_of_low,
    fun _ _ high dip idle _ _ _ spare => dipEnd_ends high dip idle spare⟩

end Sys2Proof.Machine
end

section
/-! SUPPORT. The dictionary gate (R386 to R388): a message dropped or taken, and what a reply leaves of the gate. -/

namespace Sys2Proof.Machine

/-- The parts in which a request is taken and answered. -/
def answerParts : List Part := [.zdp, .ports, .regs .cnt]

/-- The parts in which a message is dropped and counted. -/
def dropParts : List Part := [.zdp, .ports, .regs .em]

/-- The message of a port gone to the gate. -/
def State.messageGone (s : State) (p : Nat) : State := { s with ports := { s.ports with message := Map.put s.ports.message p none } }

section
variable (s : State) (p : Nat)

theorem State.messageGone_leaves {P : Nat} (ports : P &&& 8192 = 8192) : Leaves P s (s.messageGone p) :=
  .set_ports ports (.refl _ s) _

theorem State.messageGone_message : Map.get none (s.messageGone p).ports.message p = none := Map.get_put_self ..

theorem State.taken_leaves {P : Nat} (parts : P &&& 34359750656 = 34359750656) : Leaves P s (s.taken p) :=
  State.takeRequest_leaves (part_trans parts (by decide)) (s.messageGone_leaves p (part_trans parts (by decide))) p

theorem State.taken_kept : Leaves (partBits answerParts) s (s.taken p) := s.taken_leaves p (by decide)

/-- The gate once a request is taken: counted in its second and for its port (R388). -/
theorem State.taken_zdp : (s.taken p).zdp = { s.zdp with
    rate := Map.upd 0 s.zdp.rate p (· + 1), requests := Map.upd 0 s.zdp.requests p fun n => (n + 1) % 2 ^ 32 } :=
  State.count_zdp ..

theorem State.taken_requests : Map.get 0 (s.taken p).zdp.requests p = (Map.get 0 s.zdp.requests p + 1) % 2 ^ 32 := by
  rw [State.taken_zdp]
  exact Map.get_put_self ..

theorem State.zdpDrop_zdp : (s.zdpDrop p).zdp =
    { s.zdp with dropped := Map.upd 0 s.zdp.dropped p fun n => (n + 1) % 2 ^ 32 } := by
  unfold State.zdpDrop
  dsimp only
  split_ifs <;> rfl

/-- A dropped message is counted, and nothing else of the gate changes (R386, R388). -/
theorem State.dropped_counts : ((s.messageGone p).zdpDrop p).zdp.out = s.zdp.out ∧
    Map.get 0 ((s.messageGone p).zdpDrop p).zdp.dropped p = (Map.get 0 s.zdp.dropped p + 1) % 2 ^ 32 ∧
    Map.get 0 ((s.messageGone p).zdpDrop p).zdp.requests p = Map.get 0 s.zdp.requests p :=
  ⟨by rw [State.zdpDrop_zdp]; rfl, State.zdpDrop_counts .., by rw [State.zdpDrop_zdp]; rfl⟩

theorem State.dropped_leaves : Leaves (partBits dropParts) s ((s.messageGone p).zdpDrop p) :=
  State.zdpDrop_leaves (by decide) (s.messageGone_leaves p (by decide)) p

end

/-! Replies -/

section
variable (s : State) (z : ZdpOut)

/-- A reply touches the messages that wait to leave and the counts of refusals. -/
theorem State.sendReply_zdp : ∃ out refusals refused,
    (s.sendReply z).zdp = { s.zdp with out, refusals, refused } := by
  unfold State.sendReply
  split
  · exact ⟨_, _, _, rfl⟩
  · dsimp only
    split
    · exact ⟨_, _, _, congrArg (fun x : ZdpSt => { x with out := x.out ++ [z] }) (State.count_zdp ..)⟩
    · exact ⟨_, _, _, State.count_zdp ..⟩

variable (p : Nat) (m : ZdpMsg) (status : Nat) (body : List Byte) (flags seg : Nat)

theorem State.reply_zdp : ∃ out refusals refused,
    (s.reply p m status body flags seg).zdp = { s.zdp with out, refusals, refused } := by
  obtain ⟨out, refusals, refused, e⟩ := (s.latency 3 (some p) s.tb3 s.tb3).sendReply_zdp
    { port := p, dst := m.src.toNat, kind := m.kind.toNat, flags, tag := m.tag.toNat, index := m.index.toNat,
      sub := m.sub.toNat, status, seg, body }
  rw [State.latency_zdp] at e
  exact ⟨out, refusals, refused, e⟩

theorem State.reply_requests : (s.reply p m status body flags seg).zdp.requests = s.zdp.requests := by
  obtain ⟨_, _, _, e⟩ := s.reply_zdp p m status body flags seg
  rw [e]

theorem State.reply_subs : (s.reply p m status body flags seg).zdp.subs = s.zdp.subs := by
  obtain ⟨_, _, _, e⟩ := s.reply_zdp p m status body flags seg
  rw [e]

theorem State.reply_stages : (s.reply p m status body flags seg).zdp.stages = s.zdp.stages := by
  obtain ⟨_, _, _, e⟩ := s.reply_zdp p m status body flags seg
  rw [e]

theorem State.reply_nextSub : (s.reply p m status body flags seg).zdp.nextSub = s.zdp.nextSub := by
  obtain ⟨_, _, _, e⟩ := s.reply_zdp p m status body flags seg
  rw [e]

theorem State.reply_answerLeaves : Leaves 34359742464 s (s.reply p m status body flags seg) :=
  State.reply_leaves (P := 34359742464) (by decide) (.refl _ s) ..

/-- What waits to leave and what has been refused, in which two states agree that answer alike. -/
structure SameQueue (s t : State) : Prop where
  out : t.zdp.out = s.zdp.out
  refusals : t.zdp.refusals = s.zdp.refusals
  refused : t.zdp.refused = s.zdp.refused

variable {s}

theorem SameQueue.of_zdp {t : State} (same : t.zdp = s.zdp) : SameQueue s t := ⟨by rw [same], by rw [same], by rw [same]⟩

theorem SameQueue.trans {t u : State} (h : SameQueue s t) (k : SameQueue t u) : SameQueue s u :=
  ⟨k.out.trans h.out, k.refusals.trans h.refusals, k.refused.trans h.refused⟩

theorem SameQueue.taken (s : State) (p : Nat) : SameQueue s (s.taken p) := by
  constructor <;> rw [State.taken_zdp]

/-- A reply answers the message in every state of the same queue (R388, R389, R390). -/
theorem SameQueue.answered {t : State} (h : SameQueue s t) :
    s.answered (t.reply p m status body flags seg) p m status body flags seg := by
  unfold State.reply
  constructor
  · rw [State.sendReply_out, State.latency_zdp, h.out, h.refusals]
  · rw [State.sendReply_refused, State.latency_zdp, h.refused]

/-- The same for an order (R391). -/
theorem SameQueue.orderAnswered {t : State} (h : SameQueue s t) (r : ReplyTo) (osn : Nat) :
    s.orderAnswered (t.orderReply r status osn false) r status osn := by
  unfold State.orderReply State.orderAnswered
  dsimp only
  split <;> simp [State.sendReply_out, State.latency_zdp, h.out, h.refusals]

end

/-! The commands -/

/-- How the gate treats a message (R375, R386, R388). -/
theorem State.zdpMessage_eq (s : State) (p : Nat) (m : ZdpMsg) (f : State → Nat → ZdpMsg → State) : s.zdpMessage p m f =
    if (!s.zdpServed p) = true then s.messageGone p
    else if s.zdpRefuses p m = true then (s.messageGone p).zdpDrop p
    else if m.kind = 5 then s.messageGone p
    else if s.objN Obj.ZDP_REQ_LIMIT ≤ Map.get 0 s.zdp.rate p then (s.messageGone p).zdpDrop p
    else if s.dstKind m = 3 ∧ m.kind ≠ 1 then s.taken p else f (s.taken p) p m := rfl

section
variable {s : State} {p : PortNo} {m : ZdpMsg} {c : Instr}

/-- A command that brings a message to the gate completes as the gate treats it. -/
theorem Does.message {ps : List Part} {t : State} {Q : State → Prop} (mem : c ∈ zdpCommands p m)
    (run : s.zdpMessage p m State.request = t) (leaves : Leaves (partBits ps) s t) (q : Q t) : Does c s ps Q :=
  have e : exec c s = .next t := (exec_of_mem_zdpCommands mem s).trans (congrArg _ run)
  .of e (e ▸ .next leaves) q

variable (mem : c ∈ zdpCommands p m)
include mem

theorem zdpMessage_unserved (off : s.zdpServed p = false) : Does c s [.ports] fun t =>
    Map.get none t.ports.message p = none ∧ t.ports.tx = s.ports.tx := by
  refine .message mem (t := s.messageGone p) ?_ (s.messageGone_leaves p (by decide)) ⟨s.messageGone_message p, rfl⟩
  rw [State.zdpMessage_eq, if_pos (by simp [off])]

variable (served : s.zdpServed p = true)
include served

theorem zdpMessage_illFormed (bad : s.zdpRefuses p m = true) : Does c s dropParts fun t => t.zdp.out = s.zdp.out ∧
    Map.get 0 t.zdp.dropped p = (Map.get 0 s.zdp.dropped p + 1) % 2 ^ 32 ∧
    Map.get 0 t.zdp.requests p = Map.get 0 s.zdp.requests p := by
  refine .message mem ?_ (s.dropped_leaves p) (s.dropped_counts p)
  rw [State.zdpMessage_eq, if_neg (by simp [served]), if_pos bad]

variable (form : s.zdpRefuses p m = false)
include form

theorem zdpMessage_notify (notify : m.kind = 5) : Does c s [.ports] fun t => Map.get none t.ports.message p = none := by
  refine .message mem (t := s.messageGone p) ?_ (s.messageGone_leaves p (by decide)) (s.messageGone_message p)
  rw [State.zdpMessage_eq, if_neg (by simp [served]), if_neg (by simp [form]), if_pos notify]

variable (kind : m.kind ≠ 5)
include kind

theorem zdpMessage_beyondRate (full : s.objN Obj.ZDP_REQ_LIMIT ≤ Map.get 0 s.zdp.rate p) : Does c s dropParts fun t =>
    t.zdp.out = s.zdp.out ∧ Map.get 0 t.zdp.dropped p = (Map.get 0 s.zdp.dropped p + 1) % 2 ^ 32 := by
  obtain ⟨out, dropped, -⟩ := s.dropped_counts p
  refine .message mem ?_ (s.dropped_leaves p) ⟨out, dropped⟩
  rw [State.zdpMessage_eq, if_neg (by simp [served]), if_neg (by simp [form]), if_neg kind, if_pos full]

/-- A request to any device that is no READ is counted and not answered (R386). -/
theorem zdpMessage_toAny (room : Map.get 0 s.zdp.rate p < s.objN Obj.ZDP_REQ_LIMIT) (any : s.dstKind m = 3)
    (other : m.kind ≠ 1) : Does c s answerParts fun t =>
    t.zdp.out = s.zdp.out ∧ Map.get 0 t.zdp.requests p = (Map.get 0 s.zdp.requests p + 1) % 2 ^ 32 := by
  refine .message mem ?_ (s.taken_leaves p (by decide)) ⟨(SameQueue.taken s p).out, s.taken_requests p⟩
  rw [State.zdpMessage_eq, if_neg (by simp [served]), if_neg (by simp [form]), if_neg kind, if_neg (by omega),
    if_pos ⟨any, other⟩]

end

end Sys2Proof.Machine
end

section
/-! SUPPORT. READ and WRITE at the dictionary gate (R387, R389, R390, R396, R504). -/

namespace Sys2Proof.Machine

/-! READ -/

/-- The parts that a READ may change. -/
def readParts : List Part := [.dict, .fresh, .zdp, .ports, .safety, .regs .cnt]

section
variable {u : State} {p : Nat} {m : ZdpMsg} {e : Nat} {f : Found}

theorem State.readRequest_of_error (first : u.firstChecks p m .read = .error e) : u.readRequest p m = u.reply p m e [] := by
  rw [State.readRequest, first]

theorem State.readRequest_of_ok (first : u.firstChecks p m .read = .ok f) : u.readRequest p m =
    if m.len ≠ 0 then u.reply p m 6 []
    else if m.flags.toNat % 2 = 1 then u.reply p m 0 (u.descriptor f)
    else if m.index = 0x9880 ∧ m.sub = 2 then
      if 1024 < (u.newChallenge.readFound f).length then u.newChallenge.reply p m 7 []
      else u.newChallenge.reply p m 0 (u.newChallenge.readFound f)
    else if 1024 < (u.readFound f).length then u.reply p m 7 []
    else u.reply p m 0 (u.readFound f) := by
  rw [State.readRequest, first]
  dsimp only
  split_ifs <;> rfl

variable (u p m)

/-- A READ ends with one reply, in the state it found or, for the challenge, with a new one (R389, R504). -/
theorem State.readRequest_replies : ∃ v status body, u.readRequest p m = v.reply p m status body ∧
    (v = u ∨ (m.index = 0x9880 ∧ m.sub = 2) ∧ v = u.newChallenge) := by
  cases first : u.firstChecks p m .read with
  | error e => exact ⟨u, e, [], State.readRequest_of_error first, .inl rfl⟩
  | ok f =>
    rw [State.readRequest_of_ok first]
    split_ifs with len descr challenge long long
    · exact ⟨u, _, _, rfl, .inl rfl⟩
    · exact ⟨u, _, _, rfl, .inl rfl⟩
    · exact ⟨_, _, _, rfl, .inr ⟨challenge, rfl⟩⟩
    · exact ⟨_, _, _, rfl, .inr ⟨challenge, rfl⟩⟩
    · exact ⟨u, _, _, rfl, .inl rfl⟩
    · exact ⟨u, _, _, rfl, .inl rfl⟩

theorem State.readRequest_requests : (u.readRequest p m).zdp.requests = u.zdp.requests := by
  obtain ⟨v, status, body, run, rfl | ⟨-, rfl⟩⟩ := u.readRequest_replies p m
  · rw [run, State.reply_requests]
  · rw [run, State.reply_requests]
    rfl

theorem State.readRequest_keeps (other : m.index ≠ 0x9880 ∨ m.sub ≠ 2) :
    (u.readRequest p m).dict = u.dict ∧ (u.readRequest p m).safety = u.safety := by
  obtain ⟨v, status, body, run, rfl | ⟨challenge, -⟩⟩ := u.readRequest_replies p m
  · have leaves := v.reply_answerLeaves p m status body 0 0
    rw [run]
    exact ⟨leaves.dict (by decide), leaves.safety (by decide)⟩
  · exact absurd challenge (by tauto)

end

section
variable {s : State} {p : PortNo} {m : ZdpMsg} {c : Instr}

/-- A command of a request that the gate takes completes as the request does. -/
theorem Does.request {ps : List Part} {t : State} {Q : State → Prop} (mem : c ∈ zdpCommands p m)
    (takes : s.gateTakes p m = true) (run : (s.taken p).request p m = t) (leaves : Leaves (partBits ps) s t) (q : Q t) :
    Does c s ps Q := .message mem ((State.zdpMessage_of_gateTakes takes _).trans run) leaves q

theorem State.request_of_read (kind : m.kind = 1) (u : State) (n : Nat) : u.request n m = u.readRequest n m := by
  rw [State.request, kind]
  rfl

theorem zdpMessage_read (mem : c ∈ zdpCommands p m) (takes : s.gateTakes p m = true) (kind : m.kind = 1) :
    Does c s readParts fun t =>
    Map.get 0 t.zdp.requests p = (Map.get 0 s.zdp.requests p + 1) % 2 ^ 32 ∧
    (m.index ≠ 0x9880 ∨ m.sub ≠ 2 → t.dict = s.dict ∧ t.safety = s.safety) ∧
    afterChecks ((s.taken p).firstChecks p m .read) (fun e => s.answered t p m e []) (fun f =>
      if m.len ≠ 0 then s.answered t p m 6 []
      else if m.flags.toNat % 2 = 1 then s.answered t p m 0 ((s.taken p).descriptor f)
      else if m.index = 0x9880 ∧ m.sub = 2 then t.fresh = s.fresh + 1
      else if 1024 < ((s.taken p).readFound f).length then s.answered t p m 7 []
      else s.answered t p m 0 ((s.taken p).readFound f)) := by
  have taken : Leaves (partBits readParts) s (s.taken p) := s.taken_leaves p (by decide)
  refine .request mem takes (State.request_of_read kind _ _) (State.readRequest_leaves (by decide) taken p m)
    ⟨?_, fun other => ?_, ?_⟩
  · rw [State.readRequest_requests, State.taken_requests]
  · obtain ⟨dict, safety⟩ := State.readRequest_keeps (s.taken p) p m other
    exact ⟨dict.trans (s.taken_dict p), safety.trans ((s.taken_kept p).safety (by decide))⟩
  · have queue := SameQueue.taken s p
    have challenged (status : Nat) (body : List Byte) : ((s.taken p).newChallenge.reply p m status body).fresh = s.fresh + 1 :=
      ((State.reply_answerLeaves ..).fresh (by decide)).trans
        (congrArg (· + 1) ((s.taken_kept p).fresh (by decide)))
    cases first : (s.taken p).firstChecks p m .read with
    | error e =>
      rw [State.readRequest_of_error first]
      exact queue.answered ..
    | ok f =>
      rw [State.readRequest_of_ok first]
      dsimp only [afterChecks]
      split_ifs
      · exact queue.answered ..
      · exact queue.answered ..
      · exact challenged ..
      · exact challenged ..
      · exact queue.answered ..
      · exact queue.answered ..

end

/-! WRITE -/

section
variable {u : State} {p : Nat} {m : ZdpMsg} {e : Nat} {f : Found}

theorem State.writeRequest_of_error (first : u.firstChecks p m .write = .error e) : u.writeRequest p m = u.reply p m e [] := by
  rw [State.writeRequest, first]

theorem State.writeRequest_of_ok (first : u.firstChecks p m .write = .ok f) :
    u.writeRequest p m = u.writeValue p m f m.body 0 := by
  rw [State.writeRequest, first]

theorem State.writeValue_eq (u : State) (p : Nat) (m : ZdpMsg) (f : Found) (b : List Byte) (seg : Nat) :
    u.writeValue p m f b seg =
    if f.entry.typeOk b = false then u.reply p m 6 [] 0 seg
    else if u.writeReason f b ≠ 0 then
      (if u.writeReason f b = 14 then u.noteRefusal f else u).reply p m (u.writeReason f b) [] 0 seg
    else if (f.entry.persist && u.dip) = true then u.hold (.write (u.replyTo p m 0) (Val.ofWire f.entry.ty b))
    else (u.applyWrite f b).reply p m 0 [] 0 seg := by
  simp only [State.writeValue, Bool.not_eq_true']

/-- What a refused WRITE notes lies in the registers. -/
theorem State.noteRefusal_rest (u : State) (f : Found) : (u.noteRefusal f).zdp = u.zdp ∧ (u.noteRefusal f).dict = u.dict := by
  have leaves := State.noteRefusal_leaves (P := 671088640) (by decide) (.refl _ u) f
  exact ⟨leaves.zdp (by decide), leaves.dict (by decide)⟩

/-- A held entry is no message to leave, and joins the queue while it has room (R427). -/
theorem State.hold_holds (u : State) (x : HeldEntry) : (u.hold x).zdp.out = u.zdp.out ∧
    ((u.journal.held.filter fun e => !e.isPersist).length < 64 → (u.hold x).journal.held = u.journal.held ++ [x]) := by
  refine ⟨congrArg ZdpSt.out ((State.hold_leaves (P := 549755830280) (by decide) (.refl _ u) x).zdp (by decide)), fun room => ?_⟩
  rw [State.hold, if_pos room]
  rfl

end

section
variable {s : State} {p : PortNo} {m : ZdpMsg} {c : Instr}

theorem State.request_of_write (kind : m.kind = 2) (u : State) (n : Nat) : u.request n m = u.writeRequest n m := by
  rw [State.request, kind]
  rfl

theorem State.taken_dip (s : State) (p : Nat) : (s.taken p).dip = s.dip :=
  ((s.taken_kept p).fieldsKept (P := 2 ^ 26) (by decide) []).flag (by decide) rfl 0 0

/-- A value written to an entry found (R387, R390, R396). -/
theorem State.writeValue_taken (s : State) (p : Nat) (m : ZdpMsg) (f : Found) (b : List Byte) (seg : Nat) :
    let t := (s.taken p).writeValue p m f b seg
    if f.entry.typeOk b = false then s.answered t p m 6 [] 0 seg ∧ t.dict = s.dict
    else if (s.taken p).writeReason f b ≠ 0 then s.answered t p m ((s.taken p).writeReason f b) [] 0 seg ∧ t.dict = s.dict
    else if (f.entry.persist && s.dip) = true then
      (t.zdp.out = s.zdp.out ∧ ((s.journal.held.filter fun e => !e.isPersist).length < 64 →
        t.journal.held = s.journal.held ++ [.write ((s.taken p).replyTo p m 0) (Val.ofWire f.entry.ty b)]))
    else ((s.taken p).applyWrite f b).answered t p m 0 [] 0 seg ∧ t.dict = ((s.taken p).applyWrite f b).dict := by
  have queue := SameQueue.taken s p
  have journal : (s.taken p).journal = s.journal := (s.taken_kept p).journal (by decide)
  rw [State.writeValue_eq, State.taken_dip]
  dsimp only
  split_ifs
  · exact ⟨queue.answered .., (State.reply_dict ..).trans (s.taken_dict p)⟩
  · obtain ⟨zdp, dict⟩ := (s.taken p).noteRefusal_rest f
    exact ⟨(queue.trans (.of_zdp zdp)).answered .., (State.reply_dict ..).trans (dict.trans (s.taken_dict p))⟩
  · exact ⟨queue.answered .., (State.reply_dict ..).trans (s.taken_dict p)⟩
  · obtain ⟨out, held⟩ := (s.taken p).hold_holds (.write ((s.taken p).replyTo p m 0) (Val.ofWire f.entry.ty b))
    rw [journal] at held
    exact ⟨out.trans queue.out, held⟩
  · exact ⟨(SameQueue.of_zdp rfl).answered .., State.reply_dict ..⟩

theorem zdpMessage_write (mem : c ∈ zdpCommands p m) (takes : s.gateTakes p m = true) (kind : m.kind = 2) :
    Does c s Part.all fun t =>
    afterChecks ((s.taken p).firstChecks p m .write) (fun e => s.answered t p m e [] ∧ t.dict = s.dict) (fun f =>
      if f.entry.typeOk m.body = false then s.answered t p m 6 [] ∧ t.dict = s.dict
      else if (s.taken p).writeReason f m.body ≠ 0 then s.answered t p m ((s.taken p).writeReason f m.body) [] ∧ t.dict = s.dict
      else if (f.entry.persist && s.dip) = true then
        (t.zdp.out = s.zdp.out ∧ ((s.journal.held.filter fun e => !e.isPersist).length < 64 →
          t.journal.held = s.journal.held ++ [.write ((s.taken p).replyTo p m 0) (Val.ofWire f.entry.ty m.body)]))
      else ((s.taken p).applyWrite f m.body).answered t p m 0 [] ∧ t.dict = ((s.taken p).applyWrite f m.body).dict) := by
  refine .request mem takes (State.request_of_write kind _ _)
    (State.writeRequest_leaves (by decide) (s.taken_leaves p (by decide)) p m) ?_
  cases first : (s.taken p).firstChecks p m .write with
  | error e =>
    rw [State.writeRequest_of_error first]
    exact ⟨(SameQueue.taken s p).answered .., (State.reply_dict ..).trans (s.taken_dict p)⟩
  | ok f =>
    rw [State.writeRequest_of_ok first]
    exact s.writeValue_taken p m f m.body 0

end

end Sys2Proof.Machine
end

section
/-! SUPPORT. ORDER at the dictionary gate (R386, R387, R391, R404). -/

namespace Sys2Proof.Machine

section
variable {u : State} {p : Nat} {m : ZdpMsg} {e : Nat} {f : Found}

/-- The reply that an order asks for: with its identity where the body holds one. -/
def State.orderReplyTo (u : State) (p : Nat) (m : ZdpMsg) : ReplyTo :=
  u.replyTo p m (if m.body.length < 8 then 0 else (u.orderOf p m).identity)

/-- An order that is no duplicate, from NODE_ID_INVALID on (R380, R404, R516). -/
def State.orderNew (u : State) (m : ZdpMsg) (f : Found) (o : OrderRec) (r : ReplyTo) : State :=
  if u.nodeValid = false then u.orderReply r 8 0 false
  else if u.scopeBad m f = true then u.orderReply r 9 0 false
  else if (u.inRecovery && u.hub.bankRecovery && o.index == 0xA020) = true then u.recoveryOrder o r
  else if u.notReady = true then u.orderReply r 11 0 false
  else if u.orderReason o m.src.toNat f ≠ 0 then
    (u.afterRefusal o f (u.orderReason o m.src.toNat f)).orderReply r (u.orderReason o m.src.toNat f) 0 false
  else u.acceptOrder o (some r)

theorem State.orderRequest_of_nobody (nobody : m.src = 0xFFFF) : u.orderRequest p m = u := if_pos nobody

variable (known : m.src ≠ 0xFFFF)
include known

theorem State.orderRequest_of_error (first : u.firstChecks p m .order = .error e) :
    u.orderRequest p m = u.orderReply (u.orderReplyTo p m) e 0 false := by
  rw [State.orderRequest, if_neg known]
  simp only [first]
  rfl

theorem State.orderRequest_of_ok (first : u.firstChecks p m .order = .ok f) : u.orderRequest p m =
    if m.body.length < 8 ∨ f.entry.typeOk (u.orderOf p m).value = false then u.orderReply (u.orderReplyTo p m) 6 0 false
    else if 1016 < (u.orderOf p m).value.length then u.orderReply (u.orderReplyTo p m) 7 0 false
    else (u.duplicateCheck (u.orderReplyTo p m)).elim (u.orderNew m f (u.orderOf p m) (u.orderReplyTo p m)) id := by
  have reply : u.replyTo p m (if m.body.length < 8 then 0 else (u.orderOf p m).identity) = u.orderReplyTo p m := rfl
  rw [State.orderRequest, if_neg known]
  simp only [first, reply, Bool.not_eq_true']
  cases u.duplicateCheck (u.orderReplyTo p m) with
  | some t => rfl
  | none => simp only [State.orderNew, State.orderContent, Option.elim]

end

section
variable {s : State} {p : PortNo} {m : ZdpMsg} {c : Instr}

theorem State.request_of_order (kind : m.kind = 3) (u : State) (n : Nat) : u.request n m = u.orderRequest n m := by
  rw [State.request, kind]
  rfl

theorem State.orderReply_journal (u : State) (r : ReplyTo) (status osn : Nat) (duplicate : Bool) :
    (u.orderReply r status osn duplicate).journal = u.journal :=
  (State.orderReply_leaves (P := 34359742464) (by decide) (.refl _ u) ..).journal (by decide)

/-- A refusal of an order taken leaves the journal. -/
theorem State.taken_orderAnswered (s : State) (p : Nat) (r : ReplyTo) (status : Nat) :
    s.orderAnswered ((s.taken p).orderReply r status 0 false) r status 0 ∧
    ((s.taken p).orderReply r status 0 false).journal = s.journal :=
  ⟨(SameQueue.taken s p).orderAnswered status r 0,
    (State.orderReply_journal ..).trans ((s.taken_kept p).journal (by decide))⟩

theorem State.taken_nodeValid (s : State) (p : Nat) : (s.taken p).nodeValid = s.nodeValid :=
  congrArg (· != 0) (State.objN_of_dict (s.taken_dict p) ..)

/-- A request with SRC 0xFFFF is not answered (R386, R404). -/
theorem zdpMessage_orderOfNobody (mem : c ∈ zdpCommands p m) (takes : s.gateTakes p m = true) (kind : m.kind = 3)
    (nobody : m.src = 0xFFFF) : Does c s answerParts fun t => t.zdp.out = s.zdp.out :=
  .request mem takes ((State.request_of_order kind _ _).trans (State.orderRequest_of_nobody nobody))
    (s.taken_leaves p (by decide)) (SameQueue.taken s p).out

/-- What becomes of an order that is no duplicate. -/
theorem State.orderNew_taken (s : State) (p : Nat) (m : ZdpMsg) (f : Found) (o : OrderRec) (r : ReplyTo) :
    let u := s.taken p
    let t := u.orderNew m f o r
    if s.nodeValid = false then s.orderAnswered t r 8 0 ∧ t.journal = s.journal
    else if u.scopeBad m f = true then s.orderAnswered t r 9 0 ∧ t.journal = s.journal
    else if (u.inRecovery && u.hub.bankRecovery && o.index == 0xA020) = true then t = u.recoveryOrder o r
    else if u.notReady = true then s.orderAnswered t r 11 0 ∧ t.journal = s.journal
    else if u.orderReason o m.src.toNat f ≠ 0 then
      (u.afterRefusal o f (u.orderReason o m.src.toNat f)).orderAnswered t r (u.orderReason o m.src.toNat f) 0
    else t = u.acceptOrder o (some r) := by
  unfold State.orderNew
  dsimp only
  rw [State.taken_nodeValid]
  split_ifs
  · exact s.taken_orderAnswered p r 8
  · exact s.taken_orderAnswered p r 9
  · rfl
  · exact s.taken_orderAnswered p r 11
  · exact (SameQueue.of_zdp rfl).orderAnswered ..
  · rfl

theorem zdpMessage_order {u : State} {o : OrderRec} {r : ReplyTo} (mem : c ∈ zdpCommands p m) (takes : s.gateTakes p m = true)
    (kind : m.kind = 3) (known : m.src ≠ 0xFFFF) (hu : u = s.taken p) (ho : o = u.orderOf p m)
    (hr : r = u.replyTo p m (if m.body.length < 8 then 0 else o.identity)) : Does c s Part.all fun t =>
    afterChecks (u.firstChecks p m .order) (fun e => s.orderAnswered t r e 0 ∧ t.journal = s.journal) (fun f =>
      if m.body.length < 8 ∨ f.entry.typeOk o.value = false then s.orderAnswered t r 6 0 ∧ t.journal = s.journal
      else if 1016 < o.value.length then s.orderAnswered t r 7 0 ∧ t.journal = s.journal
      else (u.duplicateCheck r).elim (
          if s.nodeValid = false then s.orderAnswered t r 8 0 ∧ t.journal = s.journal
          else if u.scopeBad m f = true then s.orderAnswered t r 9 0 ∧ t.journal = s.journal
          else if (u.inRecovery && u.hub.bankRecovery && o.index == 0xA020) = true then t = u.recoveryOrder o r
          else if u.notReady = true then s.orderAnswered t r 11 0 ∧ t.journal = s.journal
          else if u.orderReason o m.src.toNat f ≠ 0 then
            (u.afterRefusal o f (u.orderReason o m.src.toNat f)).orderAnswered t r (u.orderReason o m.src.toNat f) 0
          else t = u.acceptOrder o (some r)) (fun d => t = d)) := by
  have reply : r = u.orderReplyTo p m := by rw [hr, ho]; rfl
  subst hu
  refine .request mem takes (State.request_of_order kind _ _)
    (State.orderRequest_leaves (by decide) (s.taken_leaves p (by decide)) p m) ?_
  cases first : (s.taken p).firstChecks p m .order with
  | error e =>
    rw [State.orderRequest_of_error known first, ← reply]
    exact s.taken_orderAnswered p r e
  | ok f =>
    rw [State.orderRequest_of_ok known first, ← reply, ← ho]
    dsimp only [afterChecks]
    by_cases form : m.body.length < 8 ∨ f.entry.typeOk o.value = false
    · rw [if_pos form, if_pos form]
      exact s.taken_orderAnswered p r 6
    by_cases long : 1016 < o.value.length
    · rw [if_neg form, if_neg form, if_pos long, if_pos long]
      exact s.taken_orderAnswered p r 7
    rw [if_neg form, if_neg form, if_neg long, if_neg long]
    cases (s.taken p).duplicateCheck r with
    | some d => rfl
    | none => exact s.orderNew_taken p m f o r

end

end Sys2Proof.Machine
end

section
/-! SUPPORT. SUBSCRIBE at the dictionary gate (R387, R392). -/

namespace Sys2Proof.Machine

section
variable (s : State) (p : Nat) (m : ZdpMsg)

theorem State.taken_subs : (s.taken p).zdp.subs = s.zdp.subs := by rw [State.taken_zdp]

theorem State.taken_stages : (s.taken p).zdp.stages = s.zdp.stages := by rw [State.taken_zdp]

/-- A subscription is renewed at the time of TB3, which the count of the request leaves. -/
theorem State.taken_renewed : (s.taken p).renewed = s.renewed := by
  have time : (s.taken p).time = s.time := (s.taken_kept p).time (by decide)
  funext u m
  simp only [State.renewed, State.tb3, State.now, State.base, time]

theorem State.taken_newSub : (s.taken p).newSub p m = s.newSub p m := by
  have health : (s.taken p).health = s.health := (s.taken_kept p).health (by decide)
  have next : (s.taken p).zdp.nextSub = s.zdp.nextSub := by rw [State.taken_zdp]
  rw [State.newSub, State.taken_renewed, health, next]
  rfl

end

section
variable {s u : State} {p : PortNo} {m : ZdpMsg} {c : Instr} {e : Nat} {f : Found}

theorem State.subscribeRequest_of_error (first : u.firstChecks p m .read = .error e) :
    u.subscribeRequest p m = u.reply p m e [] := by
  rw [State.subscribeRequest, first]

/-- A new subscription added to those of the gate. -/
def State.subAdded (u : State) (x : Sub) : State :=
  { u with zdp := { u.zdp with subs := u.zdp.subs ++ [x], nextSub := u.zdp.nextSub + 1 } }

theorem State.subscribeRequest_of_ok (first : (s.taken p).firstChecks p m .read = .ok f) :
    (s.taken p).subscribeRequest p m =
    if m.len ≠ 12 ∨ leAt m.body 8 4 ≠ 0 then (s.taken p).reply p m 6 []
    else if 1008 < ((s.taken p).readFound f).length then (s.taken p).reply p m 7 []
    else if leAt m.body 6 2 < 10 ∨ 3600 < leAt m.body 6 2 then (s.taken p).reply p m 13 []
    else if bitOf m.flags.toNat 3 = true then ((s.taken p).setSubs fun l => l.filter fun u => !u.matches p m).reply p m 0 []
    else if (s.zdp.subs.any fun u => u.matches p m) = true then
      ((s.taken p).setSubs fun l => l.map fun u => if u.matches p m then s.renewed u m else u).reply p m 0 []
    else if 1024 ≤ s.zdp.subs.length ∨ 64 ≤ (s.zdp.subs.filter fun u => u.port == p.val).length then
      (s.taken p).reply p m 16 []
    else ((s.taken p).subAdded (s.newSub p m)).reply p m 0 [] := by
  rw [State.subscribeRequest, first]
  simp only [State.taken_renewed, State.taken_newSub, State.taken_subs, State.subAdded]

theorem State.request_of_subscribe (kind : m.kind = 4) (u : State) (n : Nat) : u.request n m = u.subscribeRequest n m := by
  rw [State.request, kind]
  rfl

/-- A refusal leaves the subscriptions. -/
theorem State.taken_subsAnswered (s : State) (p : Nat) (m : ZdpMsg) (status : Nat) :
    s.answered ((s.taken p).reply p m status []) p m status [] ∧
    ((s.taken p).reply p m status []).zdp.subs = s.zdp.subs :=
  ⟨(SameQueue.taken s p).answered .., (State.reply_subs ..).trans (s.taken_subs p)⟩

/-- A change of the subscriptions, answered. -/
theorem State.setSubs_answered (s : State) (p : Nat) (m : ZdpMsg) (g : List Sub → List Sub) :
    s.answered (((s.taken p).setSubs g).reply p m 0 []) p m 0 [] ∧
    (((s.taken p).setSubs g).reply p m 0 []).zdp.subs = g s.zdp.subs :=
  have queue : SameQueue (s.taken p) ((s.taken p).setSubs g) := ⟨rfl, rfl, rfl⟩
  ⟨((SameQueue.taken s p).trans queue).answered .., (State.reply_subs ..).trans (congrArg g (s.taken_subs p))⟩

theorem zdpMessage_subscribe (mem : c ∈ zdpCommands p m) (takes : s.gateTakes p m = true) (kind : m.kind = 4) :
    Does c s answerParts fun t =>
    afterChecks ((s.taken p).firstChecks p m .read) (fun e => s.answered t p m e [] ∧ t.zdp.subs = s.zdp.subs) (fun f =>
      if m.len ≠ 12 ∨ leAt m.body 8 4 ≠ 0 then s.answered t p m 6 [] ∧ t.zdp.subs = s.zdp.subs
      else if 1008 < ((s.taken p).readFound f).length then s.answered t p m 7 [] ∧ t.zdp.subs = s.zdp.subs
      else if leAt m.body 6 2 < 10 ∨ 3600 < leAt m.body 6 2 then s.answered t p m 13 [] ∧ t.zdp.subs = s.zdp.subs
      else if bitOf m.flags.toNat 3 = true then s.answered t p m 0 [] ∧ t.zdp.subs = s.zdp.subs.filter (fun u => !u.matches p m)
      else if (s.zdp.subs.any fun u => u.matches p m) = true then
        (s.answered t p m 0 [] ∧ t.zdp.subs = s.zdp.subs.map (fun u => if u.matches p m then s.renewed u m else u))
      else if 1024 ≤ s.zdp.subs.length ∨ 64 ≤ (s.zdp.subs.filter fun u => u.port == p.val).length then
        (s.answered t p m 16 [] ∧ t.zdp.subs = s.zdp.subs)
      else s.answered t p m 0 [] ∧ t.zdp.subs = s.zdp.subs ++ [s.newSub p m] ∧ t.zdp.nextSub = s.zdp.nextSub + 1) := by
  refine .request mem takes (State.request_of_subscribe kind _ _)
    (State.subscribeRequest_leaves (by decide) (s.taken_leaves p (by decide)) p m) ?_
  cases first : (s.taken p).firstChecks p m .read with
  | error e =>
    rw [State.subscribeRequest_of_error first]
    exact s.taken_subsAnswered p m e
  | ok f =>
    rw [State.subscribeRequest_of_ok first]
    dsimp only [afterChecks]
    split_ifs
    · exact s.taken_subsAnswered p m 6
    · exact s.taken_subsAnswered p m 7
    · exact s.taken_subsAnswered p m 13
    · exact s.setSubs_answered p m _
    · exact s.setSubs_answered p m _
    · exact s.taken_subsAnswered p m 16
    · have next : (s.taken p).zdp.nextSub = s.zdp.nextSub := by rw [State.taken_zdp]
      have queue : SameQueue (s.taken p) ((s.taken p).subAdded (s.newSub p m)) := ⟨rfl, rfl, rfl⟩
      exact ⟨((SameQueue.taken s p).trans queue).answered ..,
        (State.reply_subs ..).trans (congrArg (· ++ [s.newSub p m]) (s.taken_subs p)),
        (State.reply_nextSub ..).trans (congrArg (· + 1) next)⟩

end

end Sys2Proof.Machine
end

section
/-! SUPPORT. BULK at the dictionary gate (R387, R394, R395). -/

namespace Sys2Proof.Machine

/-! BULK read -/

/-- The reply of one segment of a BULK read of a value with `total` bytes (R394). -/
def bulkReply (p : Nat) (m : ZdpMsg) (total : Nat) (x : Nat × List Byte × Nat × Bool) : ZdpOut :=
  { port := p, dst := m.src.toNat, kind := m.kind.toNat, flags := if x.2.2.2 then 4 else 0, tag := m.tag.toNat,
    index := m.index.toNat, sub := m.sub.toNat, status := 0, seg := x.2.2.1,
    body := leBytes 4 total ++ leBytes 4 x.1 ++ x.2.1 }

/-- The segments of a BULK read sent, each as a reply. -/
def State.bulkSent (u : State) (p : Nat) (m : ZdpMsg) (total : Nat) (l : List (Nat × List Byte × Nat × Bool)) : State :=
  l.foldl (fun t x => t.reply p m 0 (leBytes 4 total ++ leBytes 4 x.1 ++ x.2.1) (if x.2.2.2 then 4 else 0) x.2.2.1) u

theorem State.bulkSent_out (u : State) (p : Nat) (m : ZdpMsg) (total : Nat) (l : List (Nat × List Byte × Nat × Bool)) :
    (u.bulkSent p m total l).zdp.out = u.zdp.out ++ l.map (bulkReply p m total) := by
  induction l generalizing u with
  | nil => simp [State.bulkSent]
  | cons x l ih =>
    have sent : (u.bulkSent p m total [x]).zdp.out = u.zdp.out ++ [bulkReply p m total x] := by
      change (State.sendReply _ (bulkReply p m total x)).zdp.out = _
      rw [State.sendReply_out, if_pos (.inl rfl), State.latency_zdp]
    calc (u.bulkSent p m total (x :: l)).zdp.out = (u.bulkSent p m total [x]).zdp.out ++ l.map (bulkReply p m total) := ih _
      _ = u.zdp.out ++ (x :: l).map (bulkReply p m total) := by rw [sent, List.append_assoc]; rfl

theorem State.bulkSent_subs (u : State) (p : Nat) (m : ZdpMsg) (total : Nat) (l : List (Nat × List Byte × Nat × Bool)) :
    (u.bulkSent p m total l).zdp.subs = u.zdp.subs :=
  List.foldlRecOn (motive := fun t : State => t.zdp.subs = u.zdp.subs) _ _ rfl fun _ same _ _ =>
    (State.reply_subs ..).trans same

section
variable {s u : State} {p : PortNo} {m : ZdpMsg} {c : Instr} {e : Nat} {f : Found}

theorem State.bulkRead_of_error (first : u.firstChecks p m .read = .error e) : u.bulkRead p m = u.reply p m e [] := by
  rw [State.bulkRead, first]

theorem State.bulkRead_of_ok (first : u.firstChecks p m .read = .ok f) : u.bulkRead p m =
    if m.len ≠ 8 ∨ leAt m.body 6 2 ≠ 0 then u.reply p m 6 []
    else if leAt m.body 4 2 < 1 ∨ 16 < leAt m.body 4 2 then u.reply p m 13 []
    else u.bulkSent p m (u.readFound f).length (bulkSegments (u.readFound f) (leAt m.body 0 4) (leAt m.body 4 2) 0) := by
  rw [State.bulkRead, first]
  rfl

theorem State.request_of_bulk (kind : m.kind = 6) (u : State) (n : Nat) :
    u.request n m = if bitOf m.flags.toNat 4 then u.bulkWrite n m else u.bulkRead n m := by
  rw [State.request, kind]
  rfl

theorem zdpMessage_bulkRead (mem : c ∈ zdpCommands p m) (takes : s.gateTakes p m = true) (kind : m.kind = 6)
    (read : bitOf m.flags.toNat 4 = false) : Does c s answerParts fun t => t.zdp.subs = s.zdp.subs ∧
    afterChecks ((s.taken p).firstChecks p m .read) (fun e => s.answered t p m e []) (fun f =>
      if m.len ≠ 8 ∨ leAt m.body 6 2 ≠ 0 then s.answered t p m 6 []
      else if leAt m.body 4 2 < 1 ∨ 16 < leAt m.body 4 2 then s.answered t p m 13 []
      else t.zdp.out = s.zdp.out ++ (bulkSegments ((s.taken p).readFound f) (leAt m.body 0 4) (leAt m.body 4 2) 0).map
        (bulkReply p m ((s.taken p).readFound f).length)) := by
  refine .request mem takes ((State.request_of_bulk kind _ _).trans (if_neg (by simp [read])))
    (State.bulkRead_leaves (by decide) (s.taken_leaves p (by decide)) p m) ?_
  have queue := SameQueue.taken s p
  have refused (status : Nat) : ((s.taken p).reply p m status []).zdp.subs = s.zdp.subs ∧
      s.answered ((s.taken p).reply p m status []) p m status [] :=
    ⟨(State.reply_subs ..).trans (s.taken_subs p), queue.answered ..⟩
  cases first : (s.taken p).firstChecks p m .read with
  | error e =>
    rw [State.bulkRead_of_error first]
    exact refused e
  | ok f =>
    rw [State.bulkRead_of_ok first]
    dsimp only [afterChecks]
    split_ifs
    · exact refused 6
    · exact refused 13
    · exact ⟨(State.bulkSent_subs ..).trans (s.taken_subs p), by rw [State.bulkSent_out, queue.out]⟩

/-! BULK write -/

theorem State.bulkWrite_of_error (first : u.firstChecks p m .write = .error e) :
    u.bulkWrite p m = u.reply p m e [] 0 m.seg.toNat := by
  rw [State.bulkWrite, first]

theorem zdpMessage_bulkWrite (mem : c ∈ zdpCommands p m) (takes : s.gateTakes p m = true) (kind : m.kind = 6)
    (write : bitOf m.flags.toNat 4 = true) : Does c s Part.all fun t => t = (s.taken p).bulkWrite p m ∧
    (∀ e, (s.taken p).firstChecks p m .write = .error e →
      s.answered t p m e [] 0 m.seg.toNat ∧ t.zdp.stages = s.zdp.stages) := by
  refine .request mem takes ((State.request_of_bulk kind _ _).trans (if_pos write))
    (State.bulkWrite_leaves (by decide) (s.taken_leaves p (by decide)) p m) ⟨rfl, fun e first => ?_⟩
  rw [State.bulkWrite_of_error first]
  exact ⟨(SameQueue.taken s p).answered .., (State.reply_stages ..).trans (s.taken_stages p)⟩

end

end Sys2Proof.Machine
end

section
/-! O24: the messages of the dictionary gate, one clause each. -/

namespace Sys2Proof.Machine

/-- Settles O24: the ten commands bring one message to one gate; a message that it drops is counted and one that it takes runs by its
KIND, and a reply adds to the messages that wait to leave and to the counts of refusals alone. -/
theorem zdpMessages : Obligations.ZdpMessages := by
  unfold Obligations.ZdpMessages
  exact ⟨fun _ _ _ _ => zdpMessage_unserved, fun _ _ _ _ => zdpMessage_illFormed, fun _ _ _ _ => zdpMessage_notify,
    fun _ _ _ _ => zdpMessage_beyondRate, fun _ _ _ _ => zdpMessage_toAny, fun _ _ _ _ => zdpMessage_read,
    fun _ _ _ _ => zdpMessage_write, fun _ _ _ _ => zdpMessage_orderOfNobody, fun _ _ _ _ _ _ _ => zdpMessage_order,
    fun _ _ _ _ => zdpMessage_subscribe, fun _ _ _ _ => zdpMessage_bulkRead, fun _ _ _ _ => zdpMessage_bulkWrite⟩

end Sys2Proof.Machine
end

section
/-! SUPPORT. What an ALARM and a history record leave in the health block (R517, R525, R527): the units, the jobs that run and the
retirement table, and the interrupts of the block that are set already. -/

namespace Sys2Proof.Machine

/-- The bits of the registers of the health block. -/
def hlBlock : Nat := 2 ^ 36

/-! An ALARM -/

/-- `k` differs from `h` at most in the records of the ALARM stream. -/
def HealthSt.AlarmsOnly (h k : HealthSt) : Prop :=
  ∃ aseq rhead ring overflow held, k = { h with aseq := aseq, rhead := rhead, ring := ring, overflow := overflow, held := held }

theorem HealthSt.AlarmsOnly.refl (h : HealthSt) : h.AlarmsOnly h := ⟨_, _, _, _, _, rfl⟩

theorem HealthSt.AlarmsOnly.trans {h k l : HealthSt} : h.AlarmsOnly k → k.AlarmsOnly l → h.AlarmsOnly l := by
  rintro ⟨_, _, _, _, _, rfl⟩ ⟨_, _, _, _, _, rfl⟩
  exact ⟨_, _, _, _, _, rfl⟩

theorem State.takeAlarm_alarmsOnly (s : State) (a : AlarmRec) : s.health.AlarmsOnly (s.takeAlarm a).health := by
  unfold State.takeAlarm State.toRing
  split_ifs
  · exact ⟨_, _, _, _, _, rfl⟩
  · exact ⟨_, _, _, _, _, rfl⟩
  · exact .refl _
  · exact ⟨_, _, _, _, _, rfl⟩

section
variable (s : State) (b : HwBlock) (name : String) (unit : Nat)

theorem State.alarmCore_alarmsOnly : s.health.AlarmsOnly (s.alarmCore b name unit).health := by
  obtain ⟨a, same⟩ := s.alarmCore_health b name unit
  rw [same]
  exact .trans ⟨_, _, _, _, _, rfl⟩ (s.numberAlarm.takeAlarm_alarmsOnly a)

theorem State.alarm_alarmsOnly : s.health.AlarmsOnly (s.alarm b name unit).health :=
  List.foldlRecOn (op := fun (t : State) u => (t.subEnded u).alarmCore .health "SUBSCRIPTION_ENDED" 0)
    (motive := fun (t : State) => s.health.AlarmsOnly t.health) _ (s.alarmCore_alarmsOnly b name unit) fun t kept u _ =>
      kept.trans (State.alarmCore_alarmsOnly (t.subEnded u) ..)

theorem State.alarm_jobs : (s.alarm b name unit).health.jobs = s.health.jobs := by
  obtain ⟨_, _, _, _, _, only⟩ := s.alarm_alarmsOnly b name unit
  rw [only]

theorem State.alarm_table : (s.alarm b name unit).health.table = s.health.table := by
  obtain ⟨_, _, _, _, _, only⟩ := s.alarm_alarmsOnly b name unit
  rw [only]

theorem State.alarm_exhausted : (s.alarm b name unit).health.exhausted = s.health.exhausted := by
  obtain ⟨_, _, _, _, _, only⟩ := s.alarm_alarmsOnly b name unit
  rw [only]

/-- The interrupts that an ALARM may set. -/
def alarmIrqs : List Field := [Reg.HL_IRQ_ALARM, Reg.HL_IRQ_OVERFLOW, Reg.HL_IRQ_SUB_LOST]

theorem State.takeAlarm_hlKept (a : AlarmRec) : FieldsKept hlBlock alarmIrqs s (s.takeAlarm a) := by
  unfold State.takeAlarm State.toRing
  have raised : FieldsKept hlBlock alarmIrqs s (s.raise Reg.HL_IRQ_OVERFLOW) := (FieldsKept.refl _ _ s).raise (by decide) 0 0
  have same := FieldsKept.refl hlBlock alarmIrqs s
  exact .ite (same.of_regs rfl) (.ite (.ite (raised.of_regs rfl) same) (same.of_regs rfl))

/-- Past its record and its interrupt, an ALARM is counted and copied to the peers (R525, R526). -/
theorem State.alarmCore_leaves_irq : ∃ a, Leaves (2 ^ 9 + 2 ^ 13 + 2 ^ 35) ((s.numberAlarm.takeAlarm a).raise Reg.HL_IRQ_ALARM)
    (s.alarmCore b name unit) := by
  unfold State.alarmCore State.alarmWith
  have counted (u : State) := State.count_leaves (by decide) (.refl (2 ^ 9 + 2 ^ 13 + 2 ^ 35) u) 0xA01 (unitKind unit) 1
  exact ⟨_, State.nextFresh_leaves (by decide) <|
    .ite (fun _ => .foldl (fun _ m sent => State.sendPeer_leaves (by decide) sent m true _) _ (counted _)) fun _ => counted _⟩

theorem State.alarmCore_hlKept : FieldsKept hlBlock alarmIrqs s (s.alarmCore b name unit) := by
  obtain ⟨a, leaves⟩ := s.alarmCore_leaves_irq b name unit
  have taken : FieldsKept hlBlock alarmIrqs s (s.numberAlarm.takeAlarm a) :=
    ((FieldsKept.refl _ _ s).of_regs (u := s.numberAlarm) rfl).trans (State.takeAlarm_hlKept _ a)
  exact (taken.raise (f := Reg.HL_IRQ_ALARM) (by decide) 0 0).trans (leaves.fieldsKept (by decide) _)

theorem State.alarm_hlKept : FieldsKept hlBlock alarmIrqs s (s.alarm b name unit) := by
  refine List.foldlRecOn (op := fun (t : State) u => (t.subEnded u).alarmCore .health "SUBSCRIPTION_ENDED" 0)
    (motive := fun (t : State) => FieldsKept hlBlock alarmIrqs s t) _ (s.alarmCore_hlKept b name unit) fun t kept u _ => ?_
  have ended : FieldsKept hlBlock alarmIrqs t (t.subEnded u) :=
    (((FieldsKept.refl _ _ t).of_regs (u := { t with zdp := _ }) rfl).raise (f := Reg.HL_IRQ_SUB_LOST) (by decide) 0 0).of_regs rfl
  exact (kept.trans ended).trans (State.alarmCore_hlKept _ _ _ _)

theorem State.alarm_irq : (s.alarm b name unit).flag Reg.HL_IRQ_ALARM = true :=
  (State.endLostSubs_alarmKept _).irq (s.alarmCore_irq b name unit)

end

/-- ALARMs go to Cask at once, and no subscription holds a slot of their ring (R31, R527). -/
structure State.AlarmsFlow (s : State) : Prop where
  dip : s.dip = false
  held : s.health.held = []
  overflow : s.health.overflow = []
  subs : s.subsOf 0xB810 1 = []

/-- The bits of the subscriptions and of Gauge's registers. -/
def besideFlow : Nat := 2 ^ 42 - 1 - 2 ^ 12 - 2 ^ 26

theorem State.AlarmsFlow.of_leaves {s t : State} (flow : s.AlarmsFlow) (h : Leaves besideFlow s t)
    (held : t.health.held = s.health.held) (overflow : t.health.overflow = s.health.overflow) : t.AlarmsFlow where
  dip := (congrArg (· != 0) (h.regs _ (by decide) _)).trans flow.dip
  held := held.trans flow.held
  overflow := overflow.trans flow.overflow
  subs := (congrArg (fun z : ZdpSt => z.subs.filter _) (h.zdp (by decide))).trans flow.subs

theorem State.AlarmsFlow.takeAlarm {s : State} (flow : s.AlarmsFlow) (a : AlarmRec) : s.takeAlarm a = s.ringWrite a := by
  have free : s.slotHeld = false := by rw [State.slotHeld, flow.subs]; rfl
  rw [State.takeAlarm, if_neg (by simp [flow.dip]), State.toRing, if_neg (by simp [flow.overflow, free])]

theorem State.AlarmsFlow.alarm {s : State} (flow : s.AlarmsFlow) (b : HwBlock) (name : String) (unit : Nat) :
    (s.alarm b name unit).AlarmsFlow := by
  have subs : (s.alarmCore b name unit).subsOf 0xB810 1 = [] := (s.alarmCore_subsOf ..).trans flow.subs
  have none_lost : s.alarm b name unit = s.alarmCore b name unit := by rw [State.alarm, State.endLostSubs, subs]; rfl
  have numbered : s.numberAlarm.AlarmsFlow := ⟨flow.dip, flow.held, flow.overflow, flow.subs⟩
  obtain ⟨a, same⟩ := s.alarmCore_health b name unit
  rw [numbered.takeAlarm a] at same
  have dip : (s.alarmCore b name unit).dip = s.dip := by
    refine congrArg (· != 0) ((State.alarmCore_leaves (P := 103079229960) (by decide) (.refl _ s) b name unit).regs _ ?_ _)
    decide
  rw [none_lost]
  exact ⟨dip.trans flow.dip, by rw [same]; exact flow.held, by rw [same]; exact flow.overflow, subs⟩

/-! A history record -/

section
variable (s : State) (slot event cause node count osn : Nat)

/-- A history record is of its unit, and joins the ring or the records that a dip holds. -/
theorem State.history_health : ∃ q table history held, (s.history slot event cause node count osn).health =
    { s.health with units := Map.upd {} s.health.units slot fun u => { u with histSeq := q }, histSeq := q, table := table,
                    history := history, heldHist := held } := by
  unfold State.history
  dsimp only
  split <;> exact ⟨_, _, _, _, rfl⟩

theorem State.history_jobs : (s.history slot event cause node count osn).health.jobs = s.health.jobs := by
  obtain ⟨_, _, _, _, health⟩ := s.history_health slot event cause node count osn
  rw [health]

theorem State.history_unit_num (m : Nat) : ∃ q, (s.history slot event cause node count osn).unit m = { s.unit m with histSeq := q } := by
  obtain ⟨q, _, _, _, health⟩ := s.history_health slot event cause node count osn
  have unit : (s.history slot event cause node count osn).unit m = (s.setUnit slot fun u => { u with histSeq := q }).unit m := by
    rw [State.unit, health]
    rfl
  rw [unit, State.unit_setUnit]
  split
  case isTrue same => exact ⟨q, by rw [same]⟩
  case isFalse => exact ⟨_, rfl⟩

theorem State.history_regs : (s.history slot event cause node count osn).regs = s.regs := by
  unfold State.history
  dsimp only
  split <;> rfl

theorem State.history_flow (flow : s.AlarmsFlow) : (s.history slot event cause node count osn).AlarmsFlow := by
  obtain ⟨_, _, _, _, health⟩ := s.history_health slot event cause node count osn
  exact flow.of_leaves (State.history_leaves (by decide) (.refl _ s) ..) (by rw [health]) (by rw [health])

/-- Outside a dip the record takes the unit's entry in the retirement table with it (R517, R523). -/
theorem State.history_table (noDip : s.dip = false) : (Map.get {} (s.history slot event cause node count osn).health.table slot).state =
    (s.unit slot).state := by
  unfold State.history
  dsimp only
  rw [if_neg (by exact ne_of_eq_of_ne noDip Bool.false_ne_true)]
  refine (congrArg UnitSt.state (Map.get_put_self ..)).trans ?_
  rw [State.unit_setUnit, if_pos rfl]
  rfl

end

end Sys2Proof.Machine
end

section
/-! SUPPORT. The retirement of a unit (R515, R523): the record that it leaves in the health block, and that the work that it sets
off keeps the record. -/

namespace Sys2Proof.Machine

/-- The job is a self-test of the unit in the slot. -/
def HealthJob.tests (slot : Nat) : HealthJob → Bool
  | .test x _ _ => x == slot
  | _ => false

theorem State.testJob_eq_none {s : State} {slot : Nat} (h : ∀ j ∈ s.health.jobs, j.tests slot = false) : s.testJob slot = none := by
  refine List.findSome?_eq_none_iff.2 fun j mem => ?_
  have other := h j mem
  cases j with
  | test x n o => exact if_neg (ne_true_of_eq_false other)
  | copyOut => rfl
  | copyBack => rfl

/-! The record -/

section
variable {s : State} {slot : Nat} {cause : FaultCause}

/-- The unit in the slot is retired, and its self-test ends. -/
def State.recorded (s : State) (slot : Nat) (cause : FaultCause) : State :=
  (s.setUnit slot (UnitSt.retire cause)).setHealth fun h => { h with jobs := h.jobs.filter fun j => !j.tests slot }

/-- The record of a retirement, before its interrupt and its ALARM. -/
def State.retirementNoted (s : State) (slot : Nat) (cause : FaultCause) (node osn : Nat) : State :=
  (s.recorded slot cause).countRetired.showBusy.history slot 1 (causeCode cause) node (min 0xFFFF (s.unit slot).transients) osn

theorem State.retireUnit_of_live (live : s.retired slot = false) (cause : FaultCause) (node osn : Nat) :
    s.retireUnit slot cause node osn = ((s.retirementNoted slot cause node osn).raise Reg.HL_IRQ_RETIRED).alarm .health
      "UNIT_RETIRED" (unitOf slot) := by
  have ended (f : HealthJob → Bool) (e : ∀ j, f j = !j.tests slot) :
      ((s.setUnit slot (UnitSt.retire cause)).setHealth fun h => { h with jobs := h.jobs.filter f }) = s.recorded slot cause := by
    rw [funext e]
    rfl
  refine (if_neg (ne_true_of_eq_false live)).trans ?_
  exact congrArg (fun u : State => ((u.countRetired.showBusy.history slot 1 (causeCode cause) node
    (min 0xFFFF (s.unit slot).transients) osn).raise Reg.HL_IRQ_RETIRED).alarm .health "UNIT_RETIRED" (unitOf slot))
    (ended _ fun j => by cases j <;> rfl)

theorem State.recorded_unit (s : State) (slot : Nat) (cause : FaultCause) (m : Nat) :
    (s.recorded slot cause).unit m = if m = slot then (s.unit slot).retire cause else s.unit m := s.unit_setUnit slot m _

/-- The units after a retirement: its own bears the cause, the others are as they were. -/
theorem State.retireUnit_unit (live : s.retired slot = false) (cause : FaultCause) (node osn m : Nat) :
    ∃ q, (s.retireUnit slot cause node osn).unit m =
      { (if m = slot then (s.unit slot).retire cause else s.unit m) with histSeq := q } := by
  rw [State.retireUnit_of_live live, State.unit, State.alarm_units]
  obtain ⟨q, noted⟩ := State.history_unit_num (s.recorded slot cause).countRetired.showBusy slot 1 (causeCode cause) node
    (min 0xFFFF (s.unit slot).transients) osn m
  exact ⟨q, noted.trans (congrArg (fun u : UnitSt => { u with histSeq := q }) (s.recorded_unit slot cause m))⟩

theorem State.retireUnit_jobs (live : s.retired slot = false) (cause : FaultCause) (node osn : Nat) :
    (s.retireUnit slot cause node osn).health.jobs = s.health.jobs.filter fun j => !j.tests slot := by
  rw [State.retireUnit_of_live live, State.alarm_jobs]
  exact State.history_jobs ..

end

/-! The record kept -/

/-- The retirement of unit `n` is told: the unit is retired for `cause`, for the `count`-th time, its self-test has ended, and the
interrupts of the retirement and of its ALARM are set. -/
structure RetirementTold (n cause count : Nat) (t : State) : Prop where
  retired : t.retired n = true
  cause : (t.unit n).cause = cause
  count : (t.unit n).retireCount = count
  tests : ∀ j ∈ t.health.jobs, j.tests n = false
  retiredIrq : t.flag Reg.HL_IRQ_RETIRED = true
  alarmIrq : t.flag Reg.HL_IRQ_ALARM = true

/-- The registers of the health block that follow its jobs and spares, and the interrupt of a bank that stays on its spare. -/
def jobFields : List Field :=
  [Reg.HL_STATUS_RETIRED, Reg.HL_STATUS_SPARES_FREE, Reg.HL_ACT_STATUS_BUSY, Reg.HL_ACT_STATUS_RESULT, Reg.HL_IRQ_SPARED]

section
variable {n c r : Nat} {s t : State}

/-- Work that numbers the unit's records at most, adds no self-test of it and clears neither interrupt keeps the record. -/
theorem RetirementTold.of_unit (h : RetirementTold n c r s) (unit : ∃ q, t.unit n = { s.unit n with histSeq := q })
    (jobs : ∀ j ∈ t.health.jobs, j.tests n = false ∨ j ∈ s.health.jobs)
    (retiredIrq : s.flag Reg.HL_IRQ_RETIRED = true → t.flag Reg.HL_IRQ_RETIRED = true)
    (alarmIrq : s.flag Reg.HL_IRQ_ALARM = true → t.flag Reg.HL_IRQ_ALARM = true) : RetirementTold n c r t := by
  obtain ⟨q, same⟩ := unit
  exact {
    retired := (congrArg (fun u : UnitSt => decide (3 ≤ u.state)) same).trans h.retired
    cause := (congrArg UnitSt.cause same).trans h.cause
    count := (congrArg UnitSt.retireCount same).trans h.count
    tests := fun j mem => (jobs j mem).elim id (h.tests j)
    retiredIrq := retiredIrq h.retiredIrq
    alarmIrq := alarmIrq h.alarmIrq }

theorem FieldsKept.flag_hl (hl : FieldsKept hlBlock jobFields s t) {g : Field} (block : covers hlBlock g = true)
    (apart : jobFields.all g.disjoint = true) : s.flag g = true → t.flag g = true := by
  rw [State.flag, State.flag, hl.rd block apart]
  exact id

/-- The same of work that writes `jobFields` alone in the registers of the health block. -/
theorem RetirementTold.keep (h : RetirementTold n c r s) (unit : ∃ q, t.unit n = { s.unit n with histSeq := q })
    (jobs : ∀ j ∈ t.health.jobs, j.tests n = false ∨ j ∈ s.health.jobs) (hl : FieldsKept hlBlock jobFields s t) :
    RetirementTold n c r t :=
  h.of_unit unit jobs (hl.flag_hl (by decide) (by decide)) (hl.flag_hl (by decide) (by decide))

theorem State.unit_of_units (same : t.health.units = s.health.units) (m : Nat) : ∃ q, t.unit m = { s.unit m with histSeq := q } := by
  refine ⟨(s.unit m).histSeq, ?_⟩
  rw [State.unit, same]
  rfl

theorem RetirementTold.of_leaves {P : Nat} (h : RetirementTold n c r s) (leaves : Leaves P s t) (health : P.testBit 11 = false)
    (beside : P &&& hlBlock = 0) : RetirementTold n c r t := by
  have same : t.health = s.health := leaves.health health
  exact h.keep (State.unit_of_units (by rw [same]) n) (fun j mem => .inr (same ▸ mem)) (leaves.fieldsKept beside _)

theorem RetirementTold.alarm (h : RetirementTold n c r s) (b : HwBlock) (name : String) (unit : Nat) :
    RetirementTold n c r (s.alarm b name unit) := by
  refine h.of_unit (State.unit_of_units (State.alarm_units ..) n) (fun j mem => .inr (by rwa [State.alarm_jobs] at mem)) ?_
    fun _ => s.alarm_irq b name unit
  rw [State.flag, State.flag, (s.alarm_hlKept b name unit).rd (by decide) (by decide)]
  exact id

theorem RetirementTold.raise (h : RetirementTold n c r s) : RetirementTold n c r (s.raise Reg.HL_IRQ_RETIRED) :=
  h.of_unit (State.unit_of_units rfl n) (fun _ mem => .inr mem) (fun _ => State.flag_raise_self _ rfl ..) fun set =>
    (congrArg (· != 0) (State.rd_wr_disjoint _ (by decide) ..)).trans set

/-- A retirement tells of its unit. -/
theorem State.retireUnit_told (live : s.retired n = false) (cause : FaultCause) (node osn : Nat) :
    RetirementTold n (causeCode cause) (satAdd 255 (s.unit n).retireCount 1) (s.retireUnit n cause node osn) := by
  obtain ⟨q, unit⟩ := State.retireUnit_unit live cause node osn n
  rw [if_pos rfl] at unit
  have irqs : (s.retireUnit n cause node osn).flag Reg.HL_IRQ_RETIRED = true ∧
      (s.retireUnit n cause node osn).flag Reg.HL_IRQ_ALARM = true := by
    rw [State.retireUnit_of_live live]
    exact ⟨(congrArg (· != 0) ((State.alarm_hlKept ..).rd (by decide) (by decide) 0 0)).trans (State.flag_raise_self _ rfl ..),
      State.alarm_irq ..⟩
  refine ⟨by rw [State.retired, unit]; rfl, by rw [unit]; rfl, by rw [unit]; rfl, fun j mem => ?_, irqs.1, irqs.2⟩
  rw [State.retireUnit_jobs live] at mem
  simpa using (List.mem_filter.1 mem).2

/-- The retirement of another unit, or of this one once more, keeps the record. -/
theorem RetirementTold.retireUnit (h : RetirementTold n c r s) (m : Nat) (cause : FaultCause) (node osn : Nat) :
    RetirementTold n c r (s.retireUnit m cause node osn) := by
  by_cases gone : s.retired m = true
  · rwa [State.retireUnit_of_retired gone]
  have live : s.retired m = false := Bool.eq_false_iff.2 gone
  have other : n ≠ m := fun same => gone (same ▸ h.retired)
  rw [State.retireUnit_of_live live]
  obtain ⟨q, unit⟩ := State.history_unit_num (s.recorded m cause).countRetired.showBusy m 1 (causeCode cause) node
    (min 0xFFFF (s.unit m).transients) osn n
  have record : (s.recorded m cause).countRetired.showBusy.unit n = s.unit n := (s.recorded_unit m cause n).trans (if_neg other)
  rw [record] at unit
  have shown : FieldsKept hlBlock jobFields s (s.recorded m cause).countRetired.showBusy :=
    (((FieldsKept.refl _ _ s).of_regs (u := s.recorded m cause) rfl).wr (f := Reg.HL_STATUS_RETIRED) (by decide) _ 0 0).wr
      (f := Reg.HL_ACT_STATUS_BUSY) (by decide) _ 0 0
  have noted : RetirementTold n c r (s.retirementNoted m cause node osn) := by
    refine h.keep ⟨q, unit⟩ (fun j mem => .inr ?_) (shown.of_regs (State.history_regs ..))
    rw [State.retirementNoted, State.history_jobs] at mem
    exact (List.mem_filter.1 mem).1
  exact RetirementTold.alarm noted.raise ..

end

end Sys2Proof.Machine
end

section
/-! SUPPORT. The retirement of tiles, die links, ports, controllers, channels and slots (R29, R288, R374, R403, R515): what their own
blocks do then keeps the record of the retirement. -/

namespace Sys2Proof.Machine

/-- The bits of every part but the health block and its registers. -/
def besideRecords : Nat := 2 ^ 42 - 1 - 2 ^ 11 - 2 ^ 36

section
variable {n c r : Nat} {s t : State}

theorem RetirementTold.rest (h : RetirementTold n c r s) (leaves : Leaves besideRecords s t) : RetirementTold n c r t :=
  h.of_leaves leaves (by decide) (by decide)

theorem RetirementTold.wr (h : RetirementTold n c r s) {f : Field} (block : covers besideRecords f = true) (v i j : Nat) :
    RetirementTold n c r (s.wr f v i j) := h.rest (State.wr_leaves (.refl _ s) f block v i j)

/-! Tiles -/

theorem RetirementTold.unitTesting (h : RetirementTold n c r s) (m : Nat) : RetirementTold n c r (s.unitTesting m) := by
  unfold State.unitTesting
  split
  case isTrue => exact h
  case isFalse live =>
    have other : n ≠ m := fun same => live (same ▸ h.retired)
    refine h.keep ⟨(s.unit n).histSeq, ?_⟩ (fun _ mem => .inr mem) ((FieldsKept.refl _ _ s).of_regs rfl)
    rw [State.unit_setUnit, if_neg other]

theorem RetirementTold.setTile (h : RetirementTold n c r s) (m : Nat) (f : TileSt → TileSt) : RetirementTold n c r (s.setTile m f) :=
  h.rest (State.setTile_leaves (by decide) (.refl _ s) m f)

theorem RetirementTold.drained (h : RetirementTold n c r s) (m : Nat) : RetirementTold n c r (s.drained m) := by
  unfold State.drained
  dsimp only
  split_ifs
  · exact (((h.setTile m _).unitTesting m).wr (by decide) 0 m 0).wr (by decide) 0 m 0
  · exact h.setTile m _
  · exact h

theorem RetirementTold.runTile (h : RetirementTold n c r s) (m : Nat) : RetirementTold n c r (s.runTile m) :=
  ((h.rest (State.sequenceTile_leaves (by decide) (.refl _ s) m 4096)).drained m).rest (State.showTile_leaves (by decide) (.refl _ _) m)

theorem RetirementTold.runTiles (h : RetirementTold n c r s) : RetirementTold n c r s.runTiles :=
  List.foldlRecOn (motive := RetirementTold n c r) _ _ h fun _ told m _ => told.runTile m

theorem RetirementTold.kilnFlag (h : RetirementTold n c r s) {f : Field} (block : covers besideRecords f = true) (limit : Rat)
    (name : String) : RetirementTold n c r (s.kilnFlag f limit name) := by
  unfold State.kilnFlag
  dsimp only
  split_ifs
  · exact (h.wr block 0 0 0).wr (by decide) 1 0 0
  · exact h
  · exact ((h.wr block 1 0 0).wr (by decide) 1 0 0).alarm ..
  · exact h

theorem RetirementTold.kiln (h : RetirementTold n c r s) : RetirementTold n c r s.kiln := by
  unfold State.kiln
  exact (((h.wr (by decide) _ 0 0).wr (by decide) _ 0 0).kilnFlag (by decide) ..).kilnFlag (by decide) ..

/-- Tile `m` of a retirement: its unit, what it runs and its share of Gauge. -/
def State.tileGone (s : State) (cause : FaultCause) (node osn m : Nat) : State :=
  ((s.retireUnit m cause node osn).setTile m fun x => { x with mode := .normal, cur := none, dmas := [], thenBist := false }).gaugeOut m

theorem RetirementTold.outOfService (h : RetirementTold n c r s) (m : Nat) (f : TileSt → TileSt) :
    RetirementTold n c r ((s.setTile m f).gaugeOut m) :=
  (h.setTile m f).rest (State.gaugeOut_leaves (by decide) (.refl _ _) m)

/-- What follows the retirement of the units of tiles, relocation, re-plan and the kiln margin, keeps the record. -/
theorem State.retireTiles_told {ns : List Nat} (some : (ns.filter fun m => !s.retired m).isEmpty = false) (cause : FaultCause)
    (node osn : Nat) (units : RetirementTold n c r
      ((ns.filter fun m => !s.retired m).foldl (fun t m => t.tileGone cause node osn m) s)) :
    RetirementTold n c r (s.retireTiles ns cause node osn) := by
  unfold State.retireTiles
  dsimp only
  rw [if_neg (ne_true_of_eq_false some)]
  have moved (u : State) (l : List (Nat × Nat)) (h : RetirementTold n c r u) :
      RetirementTold n c r (l.foldl (fun t m => t.relocate m.1 m.2) u) :=
    List.foldlRecOn (motive := RetirementTold n c r) _ _ h fun t told m _ =>
      told.rest (State.relocate_leaves (by decide) (.refl _ t) m.1 m.2)
  refine (RetirementTold.kiln ?_).runTiles
  exact ((moved _ _ units).rest (State.showJobs_leaves (by decide) (.refl _ _))).rest (State.replan_leaves (by decide) (.refl _ _))

theorem RetirementTold.retireTiles (h : RetirementTold n c r s) (ns : List Nat) (cause : FaultCause) (node osn : Nat) :
    RetirementTold n c r (s.retireTiles ns cause node osn) := by
  by_cases empty : (ns.filter fun m => !s.retired m).isEmpty = true
  · have same : s.retireTiles ns cause node osn = s := if_pos empty
    rwa [same]
  · refine State.retireTiles_told (Bool.eq_false_iff.2 empty) cause node osn ?_
    exact List.foldlRecOn (motive := RetirementTold n c r) _ _ h fun _ told m _ =>
      (told.retireUnit m cause node osn).outOfService m _

theorem State.retireTile_told (live : s.retired n = false) (cause : FaultCause) (node osn : Nat) :
    RetirementTold n (causeCode cause) (satAdd 255 (s.unit n).retireCount 1) (s.retireTile n cause node osn) := by
  have here : ([n].filter fun m => !s.retired m) = [n] := by simp [live]
  refine State.retireTiles_told (by rw [here]; rfl) cause node osn ?_
  rw [here]
  exact (State.retireUnit_told live cause node osn).outOfService n _

/-! Die links and the loop engine -/

theorem RetirementTold.dieLinkFail (h : RetirementTold n c r s) (k : Nat) (cause : FaultCause) :
    RetirementTold n c r (s.dieLinkFail k cause) := by
  have unit := h.retireUnit (96 + k) cause 0 0
  unfold State.dieLinkFail
  dsimp only
  split_ifs
  · exact unit.retireTiles ..
  · exact unit.retireTiles ..
  · exact unit.rest (State.replan_leaves (by decide) (.refl _ _))

theorem RetirementTold.recheck (h : RetirementTold n c r s) : RetirementTold n c r s.recheck := by
  unfold State.recheck
  dsimp only
  refine RetirementTold.wr ?_ (by decide) _ 0 0
  refine List.foldlRecOn (motive := RetirementTold n c r) _ _ ((h.wr (by decide) _ 0 0).wr (by decide) _ 0 0) fun t told p _ => ?_
  split_ifs
  · exact told.wr (by decide) 0 p.1 0
  · exact (((told.wr (by decide) _ p.1 0).wr (by decide) 1 p.1 0).wr (by decide) 1 0 0).alarm ..
  · exact (told.wr (by decide) _ p.1 0).wr (by decide) _ p.1 0

theorem RetirementTold.loopRetire (h : RetirementTold n c r s) (i : Nat) : RetirementTold n c r (s.loopRetire i) :=
  RetirementTold.recheck (h.rest (State.genStopOf_leaves (by decide)
    (State.raise_leaves (State.setSlot_leaves (by decide) (.refl _ s) i _) _ (by decide) 0 0) _))

end

end Sys2Proof.Machine
end

section
/-! SUPPORT. A permanent fault of Cask (R432): the journal's interrupt, and no write left under way. -/

namespace Sys2Proof.Machine

/-- What a choice of the sequencer shows (R409). -/
def seqFields : List Field :=
  [Reg.JE_STATUS_SEQ_NODE, Reg.JE_STATUS_SEQ_VALID, Reg.JE_STATUS_SEQUENCER, Reg.JE_IRQ_SEQ_CHANGE]

/-- The orders being written are as they were, and of the journal's registers all but those of the choice of the sequencer. -/
structure WritingKept (s t : State) : Prop where
  writing : t.journal.writing = s.journal.writing
  fields : FieldsKept (2 ^ 39) seqFields s t

section
variable {s t u : State}

theorem WritingKept.refl (s : State) : WritingKept s s := ⟨rfl, .refl _ _ s⟩

theorem WritingKept.trans (h : WritingKept s t) (k : WritingKept t u) : WritingKept s u :=
  ⟨k.writing.trans h.writing, h.fields.trans k.fields⟩

theorem WritingKept.ite {p : Prop} [Decidable p] (h : WritingKept s t) (k : WritingKept s u) :
    WritingKept s (if p then t else u) := by
  split
  · exact h
  · exact k

theorem WritingKept.foldl {α : Type} {g : State → α → State} (step : ∀ u x, WritingKept s u → WritingKept s (g u x)) (l : List α)
    (h : WritingKept s t) : WritingKept s (l.foldl g t) :=
  List.foldlRecOn (motive := WritingKept s) l g h fun u kept x _ => step u x kept

theorem WritingKept.setJ (h : WritingKept s t) {f : JournalSt → JournalSt} (same : ∀ j, (f j).writing = j.writing) :
    WritingKept s (t.setJ f) := ⟨(same _).trans h.writing, h.fields.of_regs rfl⟩

theorem WritingKept.wr (h : WritingKept s t) {f : Field} (mem : f ∈ seqFields) (v : Nat) : WritingKept s (t.wr f v) :=
  ⟨h.writing, h.fields.wr mem v 0 0⟩

theorem WritingKept.sendPeer (h : WritingKept s t) (m : Nat) (alarm : Bool) (p : PeerPayload) :
    WritingKept s (t.sendPeer m alarm p) :=
  have leaves := State.sendPeer_leaves (P := 2 ^ 13) (by decide) (.refl _ t) m alarm p
  h.trans ⟨congrArg JournalSt.writing (leaves.journal (by decide)), leaves.fieldsKept (by decide) _⟩

theorem WritingKept.sendForward (h : WritingKept s t) (f : Forwarded) : WritingKept s (t.sendForward f) := by
  unfold State.sendForward
  split
  · exact h.sendPeer ..
  · exact h

theorem WritingKept.returnWaiting (h : WritingKept s t) : WritingKept s t.returnWaiting := by
  unfold State.returnWaiting
  refine .foldl (fun u w kept => ?_) _ (h.setJ fun _ => rfl)
  split
  · exact kept.sendPeer ..
  · dsimp only [State.forwardNew]
    refine .sendForward (.setJ kept ?_) _
    exact fun _ => rfl

theorem WritingKept.resendForwards (h : WritingKept s t) : WritingKept s t.resendForwards := by
  unfold State.resendForwards
  exact WritingKept.setJ (.foldl (fun _ f kept => kept.sendForward f) _ h) fun _ => rfl

theorem State.chooseSequencer_writingKept (s : State) : WritingKept s s.chooseSequencer := by
  unfold State.chooseSequencer
  extract_lets view own was node valid changed shown told chosen returned ask asking asked
  have shown' : WritingKept s shown := (((WritingKept.refl s).wr (by decide) _).wr (by decide) _).wr (by decide) _
  have told' : WritingKept s told := .ite (shown'.wr (by decide) 1) shown'
  have chosen' : WritingKept s chosen := told'.setJ fun _ => rfl
  have returned' : WritingKept s returned := .ite chosen'.returnWaiting chosen'
  have asking' : WritingKept s asking := returned'.setJ fun _ => rfl
  exact .ite told' (WritingKept.resendForwards (.ite (.foldl (fun _ m kept => kept.sendPeer m _ _) _ asking') returned'))

end

/-- A permanent fault of Cask that is in service. -/
theorem State.caskFail_told {s : State} (live : s.retired 455 = false) (cause : FaultCause) :
    RetirementTold 455 (causeCode cause) (satAdd 255 (s.unit 455).retireCount 1) (s.caskFail cause) :=
  (State.retireUnit_told live cause 0 0).rest
    (State.chooseSequencer_leaves (by decide) (State.setJ_leaves (by decide)
      (State.raise_leaves (State.setJState_leaves (by decide) (.refl _ _) 7) Reg.JE_IRQ_CASK_FAULT (by decide) 0 0) _))

theorem State.caskFail_journal (s : State) (cause : FaultCause) : (s.caskFail cause).flag Reg.JE_IRQ_CASK_FAULT = true ∧
    (s.caskFail cause).journal.writing = [] := by
  unfold State.caskFail
  dsimp only
  have kept (u : State) := u.chooseSequencer_writingKept
  refine ⟨?_, (kept _).writing⟩
  refine (congrArg (· != 0) ((kept _).fields.rd (by decide) (by decide) 0 0)).trans ?_
  exact State.flag_raise_self _ rfl ..

end Sys2Proof.Machine
end

section
/-! SUPPORT. The spare banks (R516), and the retirement of a unit in the block that owns it (R515): what is told of it, and which parts
of the state it reaches. -/

namespace Sys2Proof.Machine

/-! Spares in use -/

/-- The spare that a job fills. -/
def HealthJob.spareTaken : HealthJob → Option Nat
  | .copyOut _ k _ => some k
  | _ => none

theorem filterMap_spareTaken_filter {p : HealthJob → Bool} (h : ∀ j, p j = false → j.spareTaken = none) (l : List HealthJob) :
    (l.filter p).filterMap HealthJob.spareTaken = l.filterMap HealthJob.spareTaken := by
  rw [List.filterMap_filter]
  refine congrArg (List.filterMap · l) (funext fun j => ?_)
  cases out : p j with
  | true => rfl
  | false => exact (h j out).symm

section
variable {s t : State}

theorem State.freeSpare_congr (units : ∀ m, (t.unit m).spare = (s.unit m).spare)
    (copies : t.health.jobs.filterMap HealthJob.spareTaken = s.health.jobs.filterMap HealthJob.spareTaken) :
    t.freeSpare = s.freeSpare := by
  have used (u : State) : u.sparesUsed = ((List.range 64).filterMap fun b => (u.unit (bankSlot b)).spare) ++
      u.health.jobs.filterMap HealthJob.spareTaken :=
    congrArg (_ ++ List.filterMap · u.health.jobs) (funext fun j => by cases j <;> rfl)
  have same : t.sparesUsed = s.sparesUsed := by simp only [used, units, copies]
  rw [State.freeSpare, State.freeSpare, same]

theorem State.endJobs_freeSpare (s : State) {f : HealthJob → Bool} (h : ∀ j, f j = true → j.spareTaken = none) :
    (s.endJobs f).freeSpare = s.freeSpare :=
  State.freeSpare_congr (fun _ => rfl) (filterMap_spareTaken_filter (fun j out => h j (by simpa using out)) _)

theorem State.retireUnit_spare {slot : Nat} (live : s.retired slot = false) (cause : FaultCause) (node osn m : Nat) :
    ((s.retireUnit slot cause node osn).unit m).spare = (s.unit m).spare := by
  obtain ⟨q, unit⟩ := State.retireUnit_unit live cause node osn m
  rw [unit]
  split
  case isTrue same => rw [same]; rfl
  case isFalse => rfl

theorem State.retireUnit_freeSpare {slot : Nat} (live : s.retired slot = false) (cause : FaultCause) (node osn : Nat) :
    (s.retireUnit slot cause node osn).freeSpare = s.freeSpare := by
  refine State.freeSpare_congr (State.retireUnit_spare live cause node osn) ?_
  rw [State.retireUnit_jobs live]
  refine filterMap_spareTaken_filter (fun j out => ?_) _
  cases j with
  | copyOut => exact absurd out (by simp [HealthJob.tests])
  | test => rfl
  | copyBack => rfl

end

/-! The retirement of a bank -/

/-- The job copies a spare back to bank `b`. -/
def HealthJob.copiesBack (b : Nat) : HealthJob → Bool
  | .copyBack x _ => x == b
  | _ => false

/-- The job copies bank `b` to a spare. -/
def HealthJob.copiesOut (b : Nat) : HealthJob → Bool
  | .copyOut x _ _ => x == b
  | _ => false

/-- No spare is left for the bank, which an ALARM tells. -/
def State.sparesExhausted (s : State) (b : Nat) : State :=
  (s.setHealth fun h => { h with exhausted := true }).alarm .health "SPARES_EXHAUSTED" (unitOf (bankSlot b))

/-- What the retirement of a bank starts when no copy back to it runs. -/
def State.bankRetired (s : State) (b : Nat) : State :=
  if (s.unit (bankSlot b)).spare.isSome then s.bankSpared b
  else match s.copyingOut b with
    | some (k, _) => (s.endJobs (HealthJob.copiesOut b)).addJob (.copyOut b k true)
    | none =>
      match s.freeSpare with
      | some k => (s.addJob (.copyOut b k true)).countSpares
      | none => if s.hub.bankRecovery then s else (s.sparesExhausted b).holdIfExhausted

theorem State.retiredBank_eq (s : State) (b : Nat) : s.retiredBank b = (s.endJobs (HealthJob.copiesBack b)).bankRetired b := rfl

theorem copiesBack_spareTaken (b : Nat) (j : HealthJob) (back : j.copiesBack b = true) : j.spareTaken = none := by
  cases j with
  | copyOut => exact absurd back Bool.false_ne_true
  | test => rfl
  | copyBack => rfl

section
variable {n c r : Nat} {s : State}

theorem RetirementTold.history (h : RetirementTold n c r s) (slot event cause node count osn : Nat) :
    RetirementTold n c r (s.history slot event cause node count osn) :=
  h.keep (s.history_unit_num slot event cause node count osn n) (fun _ mem => .inr (by rwa [State.history_jobs] at mem))
    ((FieldsKept.refl _ _ s).of_regs (State.history_regs ..))

theorem RetirementTold.jobField (h : RetirementTold n c r s) {f : Field} (mem : f ∈ jobFields) (v : Nat) :
    RetirementTold n c r (s.wr f v) :=
  h.keep (State.unit_of_units rfl n) (fun _ mem => .inr mem) ((FieldsKept.refl _ _ s).wr mem v 0 0)

theorem RetirementTold.countSpares (h : RetirementTold n c r s) : RetirementTold n c r s.countSpares := h.jobField (by decide) _

theorem RetirementTold.bankSpared (h : RetirementTold n c r s) (b : Nat) : RetirementTold n c r (s.bankSpared b) :=
  ((h.history ..).jobField (f := Reg.HL_IRQ_SPARED) (by decide) 1).countSpares

theorem RetirementTold.endJobs (h : RetirementTold n c r s) (f : HealthJob → Bool) : RetirementTold n c r (s.endJobs f) :=
  (h.keep (t := s.setHealth fun k => { k with jobs := k.jobs.filter fun j => !f j }) (State.unit_of_units rfl n)
    (fun _ mem => .inr (List.mem_filter.1 mem).1) ((FieldsKept.refl _ _ s).of_regs rfl)).jobField (f := Reg.HL_ACT_STATUS_BUSY)
    (by decide) _

theorem RetirementTold.addJob (h : RetirementTold n c r s) {j : HealthJob} (other : j.tests n = false) :
    RetirementTold n c r (s.addJob j) := by
  refine RetirementTold.jobField (f := Reg.HL_ACT_STATUS_BUSY) (s := s.setHealth fun k => { k with jobs := k.jobs ++ [j] })
    (h.keep (State.unit_of_units rfl n) (fun k mem => ?_) ((FieldsKept.refl _ _ s).of_regs rfl)) (by decide) _
  rcases List.mem_append.1 mem with old | new
  · exact .inr old
  · exact .inl (List.mem_singleton.1 new ▸ other)

/-- With a spare free the retirement of a bank keeps the record. -/
theorem RetirementTold.retiredBank (h : RetirementTold n c r s) (free : s.freeSpare ≠ none) (b : Nat) :
    RetirementTold n c r (s.retiredBank b) := by
  have settled := h.endJobs (HealthJob.copiesBack b)
  rw [← s.endJobs_freeSpare (copiesBack_spareTaken b)] at free
  rw [State.retiredBank_eq, State.bankRetired]
  split
  · exact settled.bankSpared b
  · split
    · exact (settled.endJobs _).addJob rfl
    · split
      · exact (settled.addJob rfl).countSpares
      case h_2 none => exact absurd none free

/-- With a spare free the retirement of a bank reaches the health block alone. -/
theorem State.retiredBank_leaves_spared {P : Nat} {s₀ : State} (hP : P &&& 68719479296 = 68719479296) (h : Leaves P s₀ s)
    (free : s.freeSpare ≠ none) (b : Nat) : Leaves P s₀ (s.retiredBank b) := by
  have settled := State.endJobs_leaves (part_trans hP (by decide)) h (HealthJob.copiesBack b)
  rw [← s.endJobs_freeSpare (copiesBack_spareTaken b)] at free
  rw [State.retiredBank_eq, State.bankRetired]
  split
  · exact State.bankSpared_leaves hP settled b
  · split
    · exact State.addJob_leaves (part_trans hP (by decide)) (State.endJobs_leaves (part_trans hP (by decide)) settled _) _
    · split
      · exact State.countSpares_leaves (part_trans hP (by decide)) (State.addJob_leaves (part_trans hP (by decide)) settled _)
      case h_2 none => exact absurd none free

end

/-! The retirement in the owning block -/

/-- Where the code of a unit places its slot (R511): the tiles come first, the banks next, and Cask is the last. -/
def CodeOfSlot (slot u : Nat) : Prop :=
  (slot < 32 ∧ u = 256 + slot) ∨ (32 ≤ slot ∧ slot < 96 ∧ u = 480 + slot) ∨ (768 ≤ u ∧ u < 2816) ∨ (455 ≤ slot ∧ u = 2816)

theorem unitOf_code (slot : Nat) : CodeOfSlot slot (unitOf slot) := by
  unfold unitOf
  iterate 10 refine iteInduction (motive := CodeOfSlot slot) (fun _ => by unfold CodeOfSlot; omega) fun _ => ?_
  unfold CodeOfSlot
  omega

theorem instOf_tile {slot : Nat} (kind : kindOf slot = 1) : instOf slot = slot := by
  have code := unitOf_code slot
  unfold CodeOfSlot at code
  unfold kindOf at kind
  unfold instOf
  omega

theorem bankSlot_instOf {slot : Nat} (kind : kindOf slot = 2) : bankSlot (instOf slot) = slot := by
  have code := unitOf_code slot
  unfold CodeOfSlot at code
  unfold kindOf at kind
  change 32 + unitOf slot % 256 = slot
  omega

theorem slot_of_cask {slot : Nat} (known : slot < 456) (other : ∀ k, 1 ≤ k → k ≤ 10 → kindOf slot ≠ k) : slot = 455 := by
  have code := unitOf_code slot
  have kind : ¬(1 ≤ kindOf slot ∧ kindOf slot ≤ 10) := fun range => other _ range.1 range.2 rfl
  unfold CodeOfSlot at code
  unfold kindOf at kind
  omega

section
variable {s : State} {slot : Nat}

theorem State.ownerRetire_of_retired (gone : s.retired slot = true) (cause : FaultCause) (osn : Nat) :
    s.ownerRetire slot cause osn = s := if_pos gone

/-- A retirement is told, whatever the owning block does; of a bank, while a spare is free. -/
theorem State.ownerRetire_told (known : slot < 456) (live : s.retired slot = false) (spare : kindOf slot ≠ 2 ∨ s.freeSpare ≠ none)
    (cause : FaultCause) (osn : Nat) :
    RetirementTold slot (causeCode cause) (satAdd 255 (s.unit slot).retireCount 1) (s.ownerRetire slot cause osn) := by
  have told := State.retireUnit_told live cause 0 osn
  unfold State.ownerRetire
  rw [if_neg (ne_true_of_eq_false live)]
  dsimp only
  split
  case h_1 kind =>
    rw [instOf_tile kind]
    exact State.retireTile_told live cause 0 osn
  case h_2 kind =>
    refine told.retiredBank ?_ _
    rw [State.retireUnit_freeSpare live]
    exact spare.resolve_left (not_not.2 kind)
  case h_3 => exact told.dieLinkFail ..
  case h_4 => exact told.rest (State.portRetire_leaves (by decide) (.refl _ _) _)
  case h_5 => exact told.rest (State.portRetire_leaves (by decide) (.refl _ _) _)
  case h_6 => exact told.rest (State.canRetire_leaves (by decide) (.refl _ _) _)
  case h_7 => exact told.rest (State.portRetire_leaves (by decide) (.refl _ _) _)
  case h_8 => exact told.rest (State.pfRetire_leaves (by decide) (.refl _ _) _)
  case h_9 => exact told.rest (State.scRetire_leaves (by decide) (.refl _ _) _)
  case h_10 => exact told.loopRetire _
  case h_11 =>
    obtain rfl := slot_of_cask known fun k low high => by interval_cases k <;> assumption
    exact State.caskFail_told live cause

/-- A retirement reaches the records of the health block and the block that owns the unit. -/
theorem State.ownerRetire_leaves_parts (known : slot < 456) (spare : kindOf slot ≠ 2 ∨ s.freeSpare ≠ none) (cause : FaultCause)
    (osn : Nat) : Leaves (partBits (ownerParts (kindOf slot))) s (s.ownerRetire slot cause osn) := by
  cases gone : s.retired slot with
  | true =>
    rw [State.ownerRetire_of_retired gone]
    exact .refl _ s
  | false =>
  unfold State.ownerRetire
  rw [if_neg (ne_true_of_eq_false gone)]
  dsimp only
  have unit {P : Nat} (hP : P &&& 103079229960 = 103079229960) := State.retireUnit_leaves hP (.refl _ s) slot cause 0 osn
  split
  case h_1 kind => exact State.retireTile_leaves (by rw [kind]; decide) (.refl _ s) _ cause 0 osn
  case h_2 kind =>
    rw [kind]
    refine State.retiredBank_leaves_spared (by decide) (unit (by decide)) ?_ _
    rw [State.retireUnit_freeSpare gone]
    exact spare.resolve_left (not_not.2 kind)
  case h_3 kind => rw [kind]; exact State.dieLinkFail_leaves (by decide) (unit (by decide)) _ _
  case h_4 kind => rw [kind]; exact State.portRetire_leaves (by decide) (unit (by decide)) _
  case h_5 kind => rw [kind]; exact State.portRetire_leaves (by decide) (unit (by decide)) _
  case h_6 kind => rw [kind]; exact State.canRetire_leaves (by decide) (unit (by decide)) _
  case h_7 kind => rw [kind]; exact State.portRetire_leaves (by decide) (unit (by decide)) _
  case h_8 kind => rw [kind]; exact State.pfRetire_leaves (by decide) (unit (by decide)) _
  case h_9 kind => rw [kind]; exact State.scRetire_leaves (by decide) (unit (by decide)) _
  case h_10 kind => rw [kind]; exact State.loopRetire_leaves (by decide) (unit (by decide)) _
  case h_11 =>
    obtain rfl := slot_of_cask known fun k low high => by interval_cases k <;> assumption
    exact State.caskFail_leaves (by decide) (.refl _ s) cause

end

end Sys2Proof.Machine
end

section
/-! SUPPORT. The retirement of a bank for which no spare is left (R516): the ALARM, and the hold of the hub. -/

namespace Sys2Proof.Machine

/-! The retirement table through a reset -/

theorem Map.get_mapped {α β : Type} {d : α} {e : β} {f : Nat → α → β} {i : Nat} (default : f i d = e) (m : Map α) :
    Map.get e (m.map fun p => (p.1, f p.1 p.2)) i = f i (Map.get d m i) := by
  induction m with
  | nil => exact default.symm
  | cons p m ih =>
    simp only [List.map_cons, Map.get]
    split
    case isTrue here => rw [here]
    case isFalse => exact ih

/-- A unit that the retirement table holds as retired is retired after a reset, but Cask (R518). -/
theorem State.hubReset_retired {s : State} {slot : Nat} (other : slot ≠ 455) (entry : 3 ≤ (Map.get {} s.health.table slot).state)
    (por : Bool) : (s.hubReset por none).retired slot = true := by
  have unit : (s.hubReset por none).unit slot = restoredUnit slot (Map.get {} s.health.table slot) := by
    have cleared (p : Bool) : (s.cleared p).unit slot = restoredUnit slot (Map.get {} s.health.table slot) :=
      Map.get_mapped (f := restoredUnit) (default := by simp [restoredUnit]) s.health.table
    unfold State.hubReset
    dsimp only
    split
    · exact cleared _
    · exact cleared _
  rw [State.retired, unit, restoredUnit, if_pos ⟨entry, other⟩]
  exact decide_eq_true entry

theorem State.hubReset_holds {s : State} (up : s.hub.held = false) :
    (s.hubReset false none).hub.held = true ∧ (s.hubReset false none).health.exhausted = s.health.exhausted := by
  simp only [State.hubReset, up, Bool.false_and, Bool.or_false, Bool.false_eq_true, if_false]
  exact ⟨rfl, Bool.and_true _⟩

section
variable {s t : State} {slot b : Nat}

/-! ALARMs and jobs while a unit retires -/

theorem State.AlarmsFlow.retireUnit (flow : s.AlarmsFlow) (live : s.retired slot = false) (cause : FaultCause) (node osn : Nat) :
    (s.retireUnit slot cause node osn).AlarmsFlow := by
  have shown : (s.recorded slot cause).countRetired.showBusy.AlarmsFlow :=
    flow.of_leaves (State.showBusy_leaves (by decide) (State.countRetired_leaves (by decide)
      (State.setHealth_leaves (by decide) (State.setUnit_leaves (by decide) (.refl _ s) slot _) _))) rfl rfl
  have noted := State.history_flow _ slot 1 (causeCode cause) node (min 0xFFFF (s.unit slot).transients) osn shown
  have raised := noted.of_leaves (State.raise_leaves (.refl _ _) Reg.HL_IRQ_RETIRED (by decide) 0 0) rfl rfl
  rw [State.retireUnit_of_live live]
  exact raised.alarm ..

theorem State.retireUnit_table (noDip : s.dip = false) (live : s.retired slot = false) (cause : FaultCause) (node osn : Nat) :
    (Map.get {} (s.retireUnit slot cause node osn).health.table slot).state = 3 := by
  have shown : (s.recorded slot cause).countRetired.showBusy.dip = false := by
    refine (congrArg (· != 0) ?_).trans noDip
    exact (State.rd_wr_disjoint _ (by decide) ..).trans (State.rd_wr_disjoint _ (by decide) ..)
  rw [State.retireUnit_of_live live, State.alarm_table]
  refine (State.history_table _ slot 1 (causeCode cause) node (min 0xFFFF (s.unit slot).transients) osn shown).trans ?_
  exact congrArg UnitSt.state ((s.recorded_unit slot cause slot).trans (if_pos rfl))

theorem State.copyingOut_of_subset (sub : t.health.jobs ⊆ s.health.jobs) (idle : s.copyingOut b = none) : t.copyingOut b = none :=
  List.findSome?_eq_none_iff.2 fun j mem => List.findSome?_eq_none_iff.1 idle j (sub mem)

theorem State.retireUnit_hub (s : State) (slot : Nat) (cause : FaultCause) (node osn : Nat) :
    (s.retireUnit slot cause node osn).hub = s.hub :=
  (State.retireUnit_leaves (P := 103079229960) (by decide) (.refl _ s) slot cause node osn).hub (by decide)

/-! No spare left -/

/-- Bank `b` stands alone: it has no spare and none is free, while the hub runs with its ALARMs in Cask. -/
structure State.BankAlone (b : Nat) (s : State) : Prop where
  spare : (s.unit (bankSlot b)).spare = none
  copy : s.copyingOut b = none
  free : s.freeSpare = none
  recovering : s.hub.bankRecovery = false
  up : s.hub.held = false
  flow : s.AlarmsFlow

theorem State.BankAlone.retireUnit (alone : s.BankAlone b) (live : s.retired slot = false) (cause : FaultCause) (node osn : Nat) :
    (s.retireUnit slot cause node osn).BankAlone b where
  spare := (State.retireUnit_spare live ..).trans alone.spare
  copy := State.copyingOut_of_subset (by rw [State.retireUnit_jobs live]; exact List.filter_subset_self _) alone.copy
  free := (State.retireUnit_freeSpare live ..).trans alone.free
  recovering := (congrArg HubSt.bankRecovery (s.retireUnit_hub ..)).trans alone.recovering
  up := (congrArg HubSt.held (s.retireUnit_hub ..)).trans alone.up
  flow := alone.flow.retireUnit live ..

theorem State.BankAlone.endJobs (alone : s.BankAlone b) {f : HealthJob → Bool} (other : ∀ j, f j = true → j.spareTaken = none) :
    (s.endJobs f).BankAlone b where
  spare := alone.spare
  copy := State.copyingOut_of_subset (s := s) (List.filter_subset_self _) alone.copy
  free := (s.endJobs_freeSpare other).trans alone.free
  recovering := alone.recovering
  up := alone.up
  flow := alone.flow.of_leaves (State.endJobs_leaves (by decide) (.refl _ s) f) rfl rfl

theorem State.sparesExhausted_hub (s : State) (b : Nat) : (s.sparesExhausted b).hub = s.hub :=
  (State.alarm_leaves (P := 103079229960) (by decide) (.refl _ (s.setHealth _)) ..).hub (by decide)

theorem State.sparesExhausted_exhausted (s : State) (b : Nat) : (s.sparesExhausted b).health.exhausted = true :=
  State.alarm_exhausted ..

/-- Once its ALARM is in Cask, a bank alone that retires holds the hub. -/
theorem State.BankAlone.bankRetired (alone : s.BankAlone b) : s.bankRetired b = (s.sparesExhausted b).hubReset false none := by
  have told : (s.sparesExhausted b).AlarmsFlow :=
    (alone.flow.of_leaves (State.setHealth_leaves (by decide) (.refl _ s) fun h => { h with exhausted := true }) rfl rfl).alarm ..
  rw [State.bankRetired, if_neg (by simp [alone.spare]), alone.copy, alone.free]
  dsimp only
  rw [if_neg (by simp [alone.recovering]), State.holdIfExhausted]
  exact if_pos (by simp [s.sparesExhausted_exhausted, s.sparesExhausted_hub, alone.up, told.dip, told.held, told.overflow])

theorem State.BankAlone.retiredBank (alone : s.BankAlone b) (entry : 3 ≤ (Map.get {} s.health.table slot).state) (other : slot ≠ 455) :
    (s.retiredBank b).retired slot = true ∧ (s.retiredBank b).hub.held = true ∧ (s.retiredBank b).health.exhausted = true := by
  have settled : (s.endJobs (HealthJob.copiesBack b)).BankAlone b := alone.endJobs (copiesBack_spareTaken b)
  have kept : 3 ≤ (Map.get {} (s.endJobs (HealthJob.copiesBack b)).health.table slot).state := entry
  rw [State.retiredBank_eq]
  generalize s.endJobs (HealthJob.copiesBack b) = u at settled kept
  rw [settled.bankRetired]
  have held := State.hubReset_holds (s := u.sparesExhausted b) (by rw [u.sparesExhausted_hub]; exact settled.up)
  have table : (u.sparesExhausted b).health.table = u.health.table := State.alarm_table ..
  exact ⟨State.hubReset_retired other (by rw [table]; exact kept) false, held.1, held.2.trans (u.sparesExhausted_exhausted b)⟩

/-- A bank alone that retires holds the hub, and stays retired (R516). -/
theorem State.BankAlone.ownerRetire (kind : kindOf slot = 2) (alone : s.BankAlone (instOf slot)) (live : s.retired slot = false)
    (cause : FaultCause) : (s.ownerRetire slot cause).retired slot = true ∧ (s.ownerRetire slot cause).hub.held = true ∧
      (s.ownerRetire slot cause).health.exhausted = true := by
  have bank : s.ownerRetire slot cause = (s.retireUnit slot cause 0 0).retiredBank (instOf slot) := by
    rw [State.ownerRetire, if_neg (ne_true_of_eq_false live), kind]
    rfl
  rw [bank]
  refine (alone.retireUnit live cause 0 0).retiredBank (State.retireUnit_table alone.flow.dip live cause 0 0).ge ?_
  rintro rfl
  exact absurd kind (by decide)

end

end Sys2Proof.Machine
end

section
/-! SUPPORT. Permanent faults and transients of the units (R512, R514, R515, R523), and the reads of Cask that count as transients. -/

namespace Sys2Proof.Machine

theorem partBits_ownerParts (kind : Nat) : partBits (ownerParts kind) &&& 103079229960 = 103079229960 := by
  unfold ownerParts
  split <;> decide

/-! Permanent faults -/

section
variable {s : State} {slot : Fin 456} {cause : FaultCause}

/-- The self-test of a unit ends by a fault. -/
def State.testFailed (s : State) (slot : Nat) : State := (s.endJobs (HealthJob.tests slot)).wr Reg.HL_ACT_STATUS_RESULT 2

/-- The self-test of a unit, where one runs, ends by a fault. -/
def State.testEnded (s : State) (slot : Nat) : State := if (s.testJob slot).isSome then s.testFailed slot else s

/-- A unit that is retired has failed its last test. -/
def State.failedAgain (s : State) (slot : Nat) : State := s.setUnit slot fun u => { u with state := 3, testedAt := none }

theorem State.failedAgain_unit (s : State) (slot : Nat) :
    (s.failedAgain slot).unit slot = { s.unit slot with state := 3, testedAt := none } := by
  rw [State.failedAgain, State.unit_setUnit, if_pos rfl]

theorem State.testEnded_leaves {P : Nat} (hP : P &&& 68719478784 = 68719478784) (s : State) (slot : Nat) :
    Leaves P s (s.testEnded slot) :=
  .ite (fun _ => State.wr_leaves (State.endJobs_leaves hP (.refl _ s) _) _ (cov_trans hP (by decide)) 2 0 0) fun _ => .refl _ s

theorem State.testEnded_unit (s : State) (slot m : Nat) : (s.testEnded slot).unit m = s.unit m := by
  unfold State.testEnded
  split <;> rfl

theorem tests_spareTaken (slot : Nat) (j : HealthJob) (test : j.tests slot = true) : j.spareTaken = none := by
  cases j with
  | copyOut => exact absurd test Bool.false_ne_true
  | test => rfl
  | copyBack => rfl

theorem State.testEnded_freeSpare (s : State) (slot : Nat) : (s.testEnded slot).freeSpare = s.freeSpare := by
  unfold State.testEnded
  split
  · exact s.endJobs_freeSpare (tests_spareTaken slot)
  · rfl

theorem State.BankAlone.testEnded {b : Nat} (alone : s.BankAlone b) (slot : Nat) : (s.testEnded slot).BankAlone b := by
  unfold State.testEnded
  split
  · have ended := alone.endJobs (tests_spareTaken slot)
    exact ⟨ended.spare, ended.copy, ended.free, ended.recovering, ended.up,
      ended.flow.of_leaves (State.wr_leaves (.refl _ _) Reg.HL_ACT_STATUS_RESULT (by decide) 2 0 0) rfl rfl⟩
  · exact alone

theorem State.testEnded_retired (s : State) (slot m : Nat) : (s.testEnded slot).retired m = s.retired m :=
  congrArg (fun u : UnitSt => decide (3 ≤ u.state)) (s.testEnded_unit slot m)

theorem exec_permanentFault (s : State) (slot : Fin 456) (cause : FaultCause) : exec (.permanentFault slot cause) s =
    .next ((if (s.testEnded slot).retired slot then (s.testEnded slot).failedAgain slot else s.testEnded slot).ownerRetire
      slot cause) := rfl

theorem exec_permanentFault_of_retired (gone : s.retired slot = true) :
    exec (.permanentFault slot cause) s = .next ((s.testEnded slot).failedAgain slot) := by
  have still : ((s.testEnded slot).failedAgain slot).retired slot = true := by rw [State.retired, State.failedAgain_unit]; rfl
  rw [exec_permanentFault, if_pos ((s.testEnded_retired ..).trans gone), State.ownerRetire_of_retired still]

theorem exec_permanentFault_of_live (live : s.retired slot = false) :
    exec (.permanentFault slot cause) s = .next ((s.testEnded slot).ownerRetire slot cause) := by
  rw [exec_permanentFault, if_neg (ne_true_of_eq_false ((s.testEnded_retired ..).trans live))]

theorem permanentFault_again (gone : s.retired slot = true) (idle : s.testJob slot = none) :
    Does (.permanentFault slot cause) s [.health] fun t => (t.unit slot).state = 3 ∧ (t.unit slot).testedAt = none ∧
    (t.unit slot).retireCount = (s.unit slot).retireCount := by
  have e : exec (.permanentFault slot cause) s = .next (s.failedAgain slot) := by
    rw [exec_permanentFault_of_retired gone, State.testEnded, if_neg (by simp [idle])]
  have leaves : Leaves (partBits [.health]) s (s.failedAgain slot) := State.setUnit_leaves (by decide) (.refl _ s) slot _
  refine .of e (e ▸ OutLeaves.next leaves) ?_
  rw [State.failedAgain_unit]
  exact ⟨rfl, rfl, rfl⟩

theorem permanentFault_inTest (gone : s.retired slot = true) (test : (s.testJob slot).isSome = true) :
    Does (.permanentFault slot cause) s [.health, .regs .hl] fun t => (t.unit slot).state = 3 ∧ (t.unit slot).testedAt = none ∧
    t.testJob slot = none ∧ t.rd Reg.HL_ACT_STATUS_RESULT = 2 := by
  have e : exec (.permanentFault slot cause) s = .next ((s.testFailed slot).failedAgain slot) := by
    rw [exec_permanentFault_of_retired gone, State.testEnded, if_pos test]
  have leaves : Leaves (partBits [.health, .regs .hl]) s ((s.testFailed slot).failedAgain slot) :=
    State.setUnit_leaves (by decide) (State.wr_leaves (State.endJobs_leaves (by decide) (.refl _ s) _) _ (by decide) 2 0 0) slot _
  refine .of e (e ▸ OutLeaves.next leaves) ⟨?_, ?_, ?_, State.rd_wr_self ..⟩
  · rw [State.failedAgain_unit]
  · rw [State.failedAgain_unit]
  · refine State.testJob_eq_none fun j mem => ?_
    simpa using (List.mem_filter.1 mem).2

theorem permanentFault_retires (live : s.retired slot = false) (spare : kindOf slot ≠ 2 ∨ s.freeSpare ≠ none) :
    Does (.permanentFault slot cause) s (ownerParts (kindOf slot)) fun t => t.retired slot = true ∧
    (t.unit slot).cause = causeCode cause ∧ (t.unit slot).retireCount = min 255 ((s.unit slot).retireCount + 1) ∧
    t.testJob slot = none ∧ t.flag Reg.HL_IRQ_RETIRED = true ∧ t.flag Reg.HL_IRQ_ALARM = true := by
  have e := exec_permanentFault_of_live (cause := cause) live
  rw [← s.testEnded_freeSpare slot] at spare
  rw [← s.testEnded_retired slot] at live
  have leaves := (s.testEnded_leaves (part_trans (partBits_ownerParts (kindOf slot)) (by decide)) slot).trans
    (State.ownerRetire_leaves_parts slot.isLt spare cause 0)
  have told := State.ownerRetire_told slot.isLt live spare cause 0
  rw [s.testEnded_unit] at told
  exact .of e (e ▸ OutLeaves.next leaves)
    ⟨told.retired, told.cause, told.count, State.testJob_eq_none told.tests, told.retiredIrq, told.alarmIrq⟩

theorem permanentFault_holds (live : s.retired slot = false) (kind : kindOf slot = 2) (alone : s.BankAlone (instOf slot)) :
    Does (.permanentFault slot cause) s Part.all fun t => t.retired slot = true ∧ t.hub.held = true ∧ t.health.exhausted = true :=
  .next (exec_permanentFault_of_live live)
    ((alone.testEnded slot).ownerRetire kind ((s.testEnded_retired ..).trans live) cause)

end

/-! Transients -/

section
variable {s : State} {slot : Nat} {second : Bool}

/-- A transient of a unit in service counts in its window. -/
def State.struck (s : State) (slot : Nat) (second : Bool) : State :=
  (s.setUnit slot (UnitSt.struck second)).count 0xA04 (some (kindOf slot))

theorem State.struck_leaves {P : Nat} (hP : P &&& 34359740416 = 34359740416) (s : State) (slot : Nat) (second : Bool) :
    Leaves P s (s.struck slot second) :=
  State.count_leaves (part_trans hP (by decide)) (State.setUnit_leaves (part_trans hP (by decide)) (.refl _ s) slot _) ..

theorem State.struck_health (s : State) (slot : Nat) (second : Bool) :
    (s.struck slot second).health = (s.setUnit slot (UnitSt.struck second)).health :=
  (State.count_leaves (P := 2 ^ 35) (by decide) (.refl _ _) ..).health (by decide)

theorem State.struck_unit (s : State) (slot : Nat) (second : Bool) (m : Nat) :
    (s.struck slot second).unit m = if m = slot then (s.unit slot).struck second else s.unit m := by
  rw [State.unit, State.struck_health]
  exact s.unit_setUnit slot m _

theorem State.struck_unit_self (s : State) (slot : Nat) (second : Bool) :
    (s.struck slot second).unit slot = (s.unit slot).struck second := (s.struck_unit slot second slot).trans (if_pos rfl)

theorem State.struck_retired (s : State) (slot : Nat) (second : Bool) : (s.struck slot second).retired slot = s.retired slot := by
  rw [State.retired, State.struck_unit_self]
  rfl

theorem State.struck_freeSpare (s : State) (slot : Nat) (second : Bool) : (s.struck slot second).freeSpare = s.freeSpare := by
  refine State.freeSpare_congr (fun m => ?_) (by rw [State.struck_health]; rfl)
  rw [State.struck_unit]
  split
  case isTrue same => rw [same]; rfl
  case isFalse => rfl

theorem State.threshold_of_dict {t : State} (h : t.dict = s.dict) (slot : Nat) (second : Bool) :
    t.threshold slot second = s.threshold slot second := by
  unfold State.threshold
  simp only [State.objN, State.obj_of_dict h]

theorem State.struck_threshold (s : State) (slot : Nat) (second : Bool) :
    (s.struck slot second).threshold slot second = s.threshold slot second :=
  State.threshold_of_dict ((s.struck_leaves (P := 34359740416) (by decide) slot second).dict (by decide)) slot second

/-- The window in which a transient counts. -/
def UnitSt.counting (second : Bool) (u : UnitSt) : List Nat := if second then u.window2 else u.window

theorem UnitSt.struck_counting (second : Bool) (u : UnitSt) : (u.struck second).counting second = windowInc (u.counting second) := by
  cases second <;> rfl

theorem State.unitTransient_of_live (live : s.retired slot = false) (second : Bool) : s.unitTransient slot second =
    (s.struck slot second, decide (s.threshold slot second < windowSum (windowInc ((s.unit slot).counting second)))) := by
  refine (if_neg (ne_true_of_eq_false live)).trans ?_
  rw [← s.struck_threshold, ← UnitSt.struck_counting, ← s.struck_unit_self]
  rfl

theorem State.transient_of_retired (gone : s.retired slot = true) (second : Bool) :
    s.transient slot second = s.setUnit slot fun u => { u with sinceTest := true } := by
  rw [State.transient, State.unitTransient, if_pos gone]
  exact if_neg Bool.false_ne_true

theorem State.transient_below (live : s.retired slot = false)
    (low : windowSum (windowInc ((s.unit slot).counting second)) ≤ s.threshold slot second) :
    s.transient slot second = s.struck slot second := by
  rw [State.transient, State.unitTransient_of_live live]
  exact if_neg (by simpa using low)

theorem State.transient_past (live : s.retired slot = false)
    (high : s.threshold slot second < windowSum (windowInc ((s.unit slot).counting second))) :
    s.transient slot second = (s.struck slot second).ownerRetire slot .rate := by
  rw [State.transient, State.unitTransient_of_live live]
  exact if_pos (by simpa using high)

end

section
variable {s : State} {slot : Fin 456} {corrected : Bool}

theorem exec_transient (s : State) (slot : Fin 456) (corrected : Bool) :
    exec (.transient slot corrected) s = .next (s.transient slot (corrected && kindOf slot == 1)) := rfl

theorem transient_retired (gone : s.retired slot = true) : Does (.transient slot corrected) s [.health] fun t =>
    (t.unit slot).sinceTest = true ∧ (t.unit slot).state = (s.unit slot).state ∧ (t.unit slot).window = (s.unit slot).window := by
  have e := (exec_transient s slot corrected).trans (congrArg _ (State.transient_of_retired gone _))
  refine .of e (e ▸ OutLeaves.next (State.setUnit_leaves (by decide) (.refl _ s) slot _)) ?_
  rw [State.unit_setUnit, if_pos rfl]
  exact ⟨rfl, rfl, rfl⟩

/-- A transient that its window takes. -/
theorem transient_counts {second : Bool} (which : second = (corrected && kindOf slot == 1)) (live : s.retired slot = false)
    (low : windowSum (windowInc ((s.unit slot).counting second)) ≤ s.threshold slot second) :
    Does (.transient slot corrected) s [.health, .regs .cnt] fun t => t.unit slot = (s.unit slot).struck second ∧
    (∀ k : Fin 456, k ≠ slot → t.unit k = s.unit k) ∧ t.health.history = s.health.history := by
  subst which
  have e := (exec_transient s slot corrected).trans (congrArg _ (State.transient_below live low))
  refine .of e (e ▸ OutLeaves.next (s.struck_leaves (by decide) slot _)) ⟨s.struck_unit_self .., fun k other => ?_, ?_⟩
  · rw [State.struck_unit, if_neg (Fin.val_ne_of_ne other)]
  · rw [State.struck_health]
    rfl

theorem transient_counts_of_unit (live : s.retired slot = false) (kind : kindOf slot ≠ 1)
    (low : windowSum (windowInc (s.unit slot).window) ≤ s.threshold slot false) :
    Does (.transient slot corrected) s [.health, .regs .cnt] fun t => (t.unit slot).window = windowInc (s.unit slot).window ∧
    (t.unit slot).window2 = (s.unit slot).window2 ∧ (t.unit slot).state = (s.unit slot).state ∧
    (∀ k : Fin 456, k ≠ slot → t.unit k = s.unit k) ∧ t.health.history = s.health.history := by
  obtain ⟨t, e, keeps, unit, others, history⟩ := transient_counts (corrected := corrected) (second := false) (by simp [kind]) live low
  exact ⟨t, e, keeps, by rw [unit]; rfl, by rw [unit]; rfl, by rw [unit]; rfl, others, history⟩

theorem transient_counts_of_tile (live : s.retired slot = false) (kind : kindOf slot = 1)
    (low : windowSum (windowInc (if corrected then (s.unit slot).window2 else (s.unit slot).window)) ≤ s.threshold slot corrected) :
    Does (.transient slot corrected) s [.health, .regs .cnt] fun t =>
    (t.unit slot).window = (if corrected then (s.unit slot).window else windowInc (s.unit slot).window) ∧
    (t.unit slot).window2 = (if corrected then windowInc (s.unit slot).window2 else (s.unit slot).window2) ∧
    (t.unit slot).state = (s.unit slot).state ∧ (∀ k : Fin 456, k ≠ slot → t.unit k = s.unit k) ∧
    t.health.history = s.health.history := by
  obtain ⟨t, e, keeps, unit, others, history⟩ := transient_counts (corrected := corrected) (second := corrected) (by simp [kind]) live low
  exact ⟨t, e, keeps, by rw [unit]; rfl, by rw [unit]; rfl, by rw [unit]; rfl, others, history⟩

theorem transient_retires {second : Bool} (which : second = (corrected && kindOf slot == 1)) (live : s.retired slot = false)
    (high : s.threshold slot second < windowSum (windowInc ((s.unit slot).counting second)))
    (spare : kindOf slot ≠ 2 ∨ s.freeSpare ≠ none) : Does (.transient slot corrected) s (ownerParts (kindOf slot)) fun t =>
    t.retired slot = true ∧ (t.unit slot).cause = 2 ∧ t.flag Reg.HL_IRQ_RETIRED = true ∧ t.flag Reg.HL_IRQ_ALARM = true := by
  subst which
  have e := (exec_transient s slot corrected).trans (congrArg _ (State.transient_past live high))
  rw [← s.struck_freeSpare slot (corrected && kindOf slot == 1)] at spare
  rw [← s.struck_retired slot (corrected && kindOf slot == 1)] at live
  have leaves := (s.struck_leaves (part_trans (partBits_ownerParts (kindOf slot)) (by decide)) slot _).trans
    (State.ownerRetire_leaves_parts slot.isLt spare .rate 0)
  have told := State.ownerRetire_told slot.isLt live spare .rate 0
  exact .of e (e ▸ OutLeaves.next leaves) ⟨told.retired, told.cause, told.retiredIrq, told.alarmIrq⟩

theorem subintervalRoll_does (s : State) (slot : Fin 456) : Does (.subintervalRoll slot) s [.health] fun t =>
    (t.unit slot).window = (0 :: (s.unit slot).window).take 16 ∧ (t.unit slot).window2 = (0 :: (s.unit slot).window2).take 16 ∧
    (t.unit slot).state = (s.unit slot).state ∧ (∀ k : Fin 456, k ≠ slot → t.unit k = s.unit k) ∧ t.health.jobs = s.health.jobs := by
  refine .next rfl ⟨?_, ?_, ?_, fun k other => ?_, rfl⟩ <;> rw [State.unit_setUnit]
  · rw [if_pos rfl]
  · rw [if_pos rfl]
  · rw [if_pos rfl]
  · rw [if_neg (Fin.val_ne_of_ne other)]

end

end Sys2Proof.Machine
end

section
/-! SUPPORT. Cask: its permanent fault (R432), and the corrected and uncorrectable words of a read through it (R512, R515). -/

namespace Sys2Proof.Machine

/-! A window in which transients count -/

theorem windowSum_eq_sum (w : List Nat) : windowSum w = (w.take 16).sum := List.sum_eq_foldl.symm

theorem windowSum_windowInc (w : List Nat) : windowSum (windowInc w) = windowSum w + 1 := by
  cases w with
  | nil => rfl
  | cons n ns =>
    simp only [windowSum_eq_sum, windowInc, List.take_succ_cons, List.sum_cons]
    omega

section
variable {s : State} {cause : FaultCause}

/-! The permanent fault -/

/-- Cask is retired, and the interrupts of the journal and of the health block tell it. -/
structure CaskTold (t : State) : Prop where
  retired : t.retired 455 = true
  journalIrq : t.flag Reg.JE_IRQ_CASK_FAULT = true
  retiredIrq : t.flag Reg.HL_IRQ_RETIRED = true

theorem State.caskFail_caskTold (live : s.retired 455 = false) (cause : FaultCause) : CaskTold (s.caskFail cause) :=
  have told := State.caskFail_told live cause
  ⟨told.retired, (s.caskFail_journal cause).1, told.retiredIrq⟩

theorem State.ownerRetire_cask (live : s.retired 455 = false) (cause : FaultCause) (osn : Nat) :
    s.ownerRetire 455 cause osn = s.caskFail cause := if_neg (ne_true_of_eq_false live)

theorem execCaskFault_of_retired (gone : s.retired 455 = true) : exec (.caskFault cause) s = .next s :=
  congrArg Host.Outcome.next (if_pos gone)

theorem caskFault_does (live : s.retired 455 = false) : Does (.caskFault cause) s
    [.dict, .fresh, .health, .zdp, .ports, .journal, .regs .cnt, .regs .hl, .regs .je] fun t => t.retired 455 = true ∧
    (t.unit 455).cause = causeCode cause ∧ t.flag Reg.JE_IRQ_CASK_FAULT = true ∧ t.flag Reg.HL_IRQ_RETIRED = true ∧
    t.journal.writing = [] := by
  have told := State.caskFail_told live cause
  obtain ⟨irq, writing⟩ := s.caskFail_journal cause
  exact .next (congrArg Host.Outcome.next (if_neg (ne_true_of_eq_false live)))
    ⟨told.retired, told.cause, irq, told.retiredIrq, writing⟩

/-! Reads through -/

/-- The state after `n` corrected words of Cask. -/
def State.caskCorrected (s : State) (n : Nat) : State := (List.range n).foldl (fun t _ => t.transient 455 false) s

theorem State.caskCorrected_succ (s : State) (n : Nat) : s.caskCorrected (n + 1) = (s.caskCorrected n).transient 455 false := by
  rw [State.caskCorrected, List.range_succ, List.foldl_append]
  rfl

theorem exec_caskReadThrough_of_live (live : s.retired 455 = false) (n : Nat) (bad : Bool) : exec (.caskReadThrough n bad) s =
    .next (if bad then (s.caskCorrected n).ownerRetire 455 .uncorrectable else s.caskCorrected n) :=
  if_neg (ne_true_of_eq_false live)

/-- `n` transients of Cask have counted, and nothing else of the units has changed. -/
structure CaskStruck (n : Nat) (s t : State) : Prop where
  leaves : Leaves (partBits [.health, .regs .cnt]) s t
  sum : windowSum (t.unit 455).window = windowSum (s.unit 455).window + n
  state : (t.unit 455).state = (s.unit 455).state
  others : ∀ k : Fin 455, t.unit k = s.unit k

theorem CaskStruck.step {n : Nat} {t : State} (h : CaskStruck n s t) (live : s.retired 455 = false)
    (low : windowSum (s.unit 455).window + (n + 1) ≤ s.threshold 455 false) : CaskStruck (n + 1) s (t.transient 455 false) := by
  have still : t.retired 455 = false := (congrArg (fun x => decide (3 ≤ x)) h.state).trans live
  have below : windowSum (windowInc (t.unit 455).window) ≤ t.threshold 455 false := by
    rw [windowSum_windowInc, h.sum, State.threshold_of_dict (h.leaves.dict (by decide))]
    omega
  rw [State.transient_below (second := false) still below]
  have unit := t.struck_unit_self 455 false
  refine ⟨h.leaves.trans (t.struck_leaves (by decide) 455 false), ?_, ?_, fun k => ?_⟩
  · rw [unit]
    exact (windowSum_windowInc _).trans (by rw [h.sum, Nat.add_assoc])
  · rw [unit]
    exact h.state
  · rw [State.struck_unit, if_neg (by omega), h.others]

theorem State.caskCorrected_struck (live : s.retired 455 = false) {n : Nat}
    (low : windowSum (s.unit 455).window + n ≤ s.threshold 455 false) : CaskStruck n s (s.caskCorrected n) := by
  induction n with
  | zero => exact ⟨.refl _ s, rfl, rfl, fun _ => rfl⟩
  | succ n ih =>
    rw [State.caskCorrected_succ]
    exact (ih (by omega)).step live low

theorem caskReadThrough_counts (live : s.retired 455 = false) (n : Nat)
    (low : windowSum (s.unit 455).window + n ≤ s.threshold 455 false) : Does (.caskReadThrough n false) s [.health, .regs .cnt] fun t =>
    windowSum (t.unit 455).window = windowSum (s.unit 455).window + n ∧ (t.unit 455).state = (s.unit 455).state ∧
    (∀ k : Fin 455, t.unit k = s.unit k) := by
  have e := exec_caskReadThrough_of_live live n false
  have struck := State.caskCorrected_struck live low
  exact .of e (e ▸ OutLeaves.next struck.leaves) ⟨struck.sum, struck.state, struck.others⟩

/-- Cask may have retired on the way, and then it is told. -/
structure CaskRead (s t : State) : Prop where
  leaves : Leaves (partBits (ownerParts 11)) s t
  told : t.retired 455 = true → CaskTold t

theorem CaskRead.fail {t : State} (h : CaskRead s t) (live : t.retired 455 = false) (cause : FaultCause) :
    CaskRead s (t.caskFail cause) :=
  ⟨State.caskFail_leaves (by decide) h.leaves cause, fun _ => State.caskFail_caskTold live cause⟩

theorem CaskRead.transient {t : State} (h : CaskRead s t) : CaskRead s (t.transient 455 false) := by
  cases gone : t.retired 455 with
  | true =>
    rw [State.transient_of_retired gone]
    obtain ⟨-, journalIrq, retiredIrq⟩ := h.told gone
    exact ⟨State.setUnit_leaves (by decide) h.leaves 455 _, fun still => ⟨still, journalIrq, retiredIrq⟩⟩
  | false =>
    have struck : CaskRead s (t.struck 455 false) := by
      refine ⟨h.leaves.trans (t.struck_leaves (by decide) 455 false), fun now => ?_⟩
      rw [State.struck_retired, gone] at now
      exact absurd now Bool.false_ne_true
    have here : (t.struck 455 false).retired 455 = false := (t.struck_retired ..).trans gone
    by_cases low : windowSum (windowInc ((t.unit 455).counting false)) ≤ t.threshold 455 false
    · rwa [State.transient_below gone low]
    · rw [State.transient_past gone (Nat.lt_of_not_le low), State.ownerRetire_cask here]
      exact struck.fail here .rate

theorem State.caskCorrected_read (live : s.retired 455 = false) (n : Nat) : CaskRead s (s.caskCorrected n) := by
  refine List.foldlRecOn (motive := CaskRead s) _ _ ⟨.refl _ s, fun gone => ?_⟩ fun _ h _ _ => h.transient
  rw [live] at gone
  exact absurd gone Bool.false_ne_true

theorem caskReadThrough_retires (live : s.retired 455 = false) (n : Nat) : Does (.caskReadThrough n true) s (ownerParts 11) fun t =>
    t.retired 455 = true ∧ t.flag Reg.JE_IRQ_CASK_FAULT = true ∧ t.flag Reg.HL_IRQ_RETIRED = true := by
  have e := exec_caskReadThrough_of_live live n true
  have read := State.caskCorrected_read live n
  rw [if_pos rfl] at e
  generalize s.caskCorrected n = u at e read
  suffices last : Leaves (partBits (ownerParts 11)) s (u.ownerRetire 455 .uncorrectable) ∧
      CaskTold (u.ownerRetire 455 .uncorrectable) from
    .of e (e ▸ OutLeaves.next last.1) ⟨last.2.retired, last.2.journalIrq, last.2.retiredIrq⟩
  cases gone : u.retired 455 with
  | true =>
    rw [State.ownerRetire_of_retired gone]
    exact ⟨read.leaves, read.told gone⟩
  | false =>
    rw [State.ownerRetire_cask gone]
    exact ⟨(read.fail gone _).leaves, State.caskFail_caskTold gone _⟩

end

end Sys2Proof.Machine
end

section
/-! SUPPORT. The copies of the spare banks that complete (R516, R520, R521), and the patrol scrub (R524). -/

namespace Sys2Proof.Machine

section
variable {s : State} {bank : Fin 64}

/-! The copy to a spare -/

/-- Words join the poisoned ones (R516). -/
def State.poison (s : State) (words : List Word) : State :=
  { s with poisoned := (s.poisoned ++ words.map fun w : Word => w.toNat / 8 * 8).dedup }

/-- Bank `b` is served from spare `k`. -/
def State.spareServes (s : State) (b k : Nat) : State :=
  (s.endJobs (HealthJob.copiesOut b)).setUnit (bankSlot b) fun u => { u with spare := some k }

theorem exec_bankSpareCopyDone {k : Nat} {retiring : Bool} (copy : s.copyingOut bank = some (k, retiring)) (poisoned : List Word) :
    exec (.bankSpareCopyDone bank poisoned) s = .next (if retiring then
      ((s.poison poisoned).spareServes bank k).bankSpared bank
      else ((s.poison poisoned).spareServes bank k).countSpares) := by
  change execBankSpareCopyDone bank poisoned s = _
  rw [execBankSpareCopyDone, copy]
  rfl

theorem exec_bankSpareCopyDone_of_idle (idle : s.copyingOut bank = none) (poisoned : List Word) :
    exec (.bankSpareCopyDone bank poisoned) s = .next s := by
  change execBankSpareCopyDone bank poisoned s = _
  rw [execBankSpareCopyDone, idle]

theorem State.copyingOut_eq_none {b : Nat} (h : ∀ j ∈ s.health.jobs, j.copiesOut b = false) : s.copyingOut b = none := by
  refine List.findSome?_eq_none_iff.2 fun j mem => ?_
  have other := h j mem
  cases j with
  | copyOut x k r => exact if_neg (ne_true_of_eq_false other)
  | test => rfl
  | copyBack => rfl

/-- The bank is served from spare `k`, its copy has ended, and its state is that of `s`. -/
structure SpareServes (b k : Nat) (s t : State) : Prop where
  spare : (t.unit (bankSlot b)).spare = some k
  ended : ∀ j ∈ t.health.jobs, j.copiesOut b = false
  state : (t.unit (bankSlot b)).state = (s.unit (bankSlot b)).state

theorem State.spareServes_serves (s : State) (b k : Nat) : SpareServes b k s (s.spareServes b k) := by
  have unit : (s.spareServes b k).unit (bankSlot b) = { s.unit (bankSlot b) with spare := some k } :=
    (State.unit_setUnit ..).trans (if_pos rfl)
  exact ⟨by rw [unit], fun j mem => by simpa using (List.mem_filter.1 mem).2, by rw [unit]⟩

theorem SpareServes.countSpares {b k : Nat} {t : State} (h : SpareServes b k s t) : SpareServes b k s t.countSpares :=
  ⟨h.spare, h.ended, h.state⟩

theorem SpareServes.bankSpared {b k : Nat} {t : State} (h : SpareServes b k s t) : SpareServes b k s (t.bankSpared b) := by
  obtain ⟨q, unit⟩ := t.history_unit_num (bankSlot b) 5 0 0 0 0 (bankSlot b)
  refine SpareServes.countSpares (t := (t.history (bankSlot b) 5 0 0 0 0).raise Reg.HL_IRQ_SPARED) ⟨?_, fun j mem => ?_, ?_⟩
  · exact (congrArg UnitSt.spare unit).trans h.spare
  · rw [State.raise_health, State.history_jobs] at mem
    exact h.ended j mem
  · exact (congrArg UnitSt.state unit).trans h.state

theorem State.bankSpared_poisoned (s : State) (b : Nat) : (s.bankSpared b).poisoned = s.poisoned :=
  (State.bankSpared_leaves (P := 68719479296) (by decide) (.refl _ s) b).poisoned (by decide)

theorem State.bankSpared_irq (s : State) (b : Nat) : (s.bankSpared b).flag Reg.HL_IRQ_SPARED = true :=
  (congrArg (· != 0) (State.rd_wr_disjoint _ (by decide) ..)).trans (State.flag_raise_self _ rfl ..)

theorem bankSpareCopyDone_does {k : Nat} {retiring : Bool} (copy : s.copyingOut bank = some (k, retiring)) (poisoned : List Word) :
    Does (.bankSpareCopyDone bank poisoned) s [.poisoned, .fresh, .health, .regs .hl] fun t =>
    (t.unit (bankSlot bank)).spare = some k ∧ t.copyingOut bank = none ∧
    (poisoned.all fun w => t.poisoned.contains (w.toNat / 8 * 8)) = true ∧ (s.poisoned.all fun w => t.poisoned.contains w) = true ∧
    (t.unit (bankSlot bank)).state = (s.unit (bankSlot bank)).state ∧ (retiring = true → t.flag Reg.HL_IRQ_SPARED = true) := by
  refine .next (exec_bankSpareCopyDone copy poisoned) ?_
  obtain ⟨spare, ended, state⟩ := (s.poison poisoned).spareServes_serves bank k
  have serves : SpareServes bank k s ((s.poison poisoned).spareServes bank k) := ⟨spare, ended, state⟩
  have words : ((s.poison poisoned).spareServes bank k).poisoned =
    (s.poisoned ++ poisoned.map fun w : Word => w.toNat / 8 * 8).dedup := rfl
  generalize (s.poison poisoned).spareServes bank k = u at spare ended state serves words
  have joined : (poisoned.all fun w => u.poisoned.contains (w.toNat / 8 * 8)) = true ∧
      (s.poisoned.all fun w => u.poisoned.contains w) = true := by
    simp only [words, List.all_eq_true, List.contains_iff_mem, List.mem_dedup, List.mem_append]
    exact ⟨fun w mem => .inr (List.mem_map_of_mem mem), fun w mem => .inl mem⟩
  obtain ⟨new, old⟩ := joined
  cases retiring with
  | true =>
    have spared := serves.bankSpared
    rw [if_pos rfl, State.bankSpared_poisoned]
    exact ⟨spared.spare, State.copyingOut_eq_none spared.ended, new, old, spared.state, fun _ => u.bankSpared_irq bank⟩
  | false =>
    exact ⟨serves.spare, State.copyingOut_eq_none serves.ended, new, old, serves.state, fun no => absurd no Bool.false_ne_true⟩

/-! The copy back -/

theorem exec_bankCopyBackDone_of_idle (idle : s.copyingBack bank = none) : exec (.bankCopyBackDone bank) s = .next s := by
  change execBankCopyBackDone bank s = _
  unfold execBankCopyBackDone
  dsimp only
  split
  case h_1 copy => exact absurd (copy.symm.trans idle) (Option.some_ne_none _)
  case h_2 => rfl

theorem exec_bankCopyBackDone_after_test (back : s.copyingBack bank = some none) : exec (.bankCopyBackDone bank) s =
    .next ((s.endJobs (HealthJob.copiesBack bank)).setUnit (bankSlot bank) fun u => { u with spare := none }).countSpares := by
  change execBankCopyBackDone bank s = _
  unfold execBankCopyBackDone
  dsimp only
  split
  case h_1 copy =>
    obtain rfl := Option.some.inj (copy.symm.trans back)
    rfl
  case h_2 idle => exact absurd (back.symm.trans idle) (Option.some_ne_none _)

theorem exec_bankCopyBackDone_of_return {node osn : Nat} (back : s.copyingBack bank = some (some (node, osn))) :
    exec (.bankCopyBackDone bank) s = .next ((((s.endJobs (HealthJob.copiesBack bank)).unitReturned (bankSlot bank) node osn).releaseSpare
      bank 0 0).wr Reg.HL_ACT_STATUS_RESULT 0) := by
  change execBankCopyBackDone bank s = _
  unfold execBankCopyBackDone
  dsimp only
  split
  case h_1 copy =>
    obtain rfl := Option.some.inj (copy.symm.trans back)
    rfl
  case h_2 idle => exact absurd (back.symm.trans idle) (Option.some_ne_none _)

theorem State.copyingBack_eq_none {b : Nat} (h : ∀ j ∈ s.health.jobs, j.copiesBack b = false) : s.copyingBack b = none := by
  refine List.findSome?_eq_none_iff.2 fun j mem => ?_
  have other := h j mem
  cases j with
  | copyBack x r => exact if_neg (ne_true_of_eq_false other)
  | test => rfl
  | copyOut => rfl

theorem State.endJobs_ended (s : State) (f : HealthJob → Bool) : ∀ j ∈ (s.endJobs f).health.jobs, f j = false :=
  fun j mem => by simpa using (List.mem_filter.1 mem).2

theorem bankCopyBackDone_after_test (back : s.copyingBack bank = some none) :
    Does (.bankCopyBackDone bank) s [.fresh, .health, .regs .hl] fun t => (t.unit (bankSlot bank)).spare = none ∧
    (t.unit (bankSlot bank)).state = (s.unit (bankSlot bank)).state ∧ t.copyingBack bank = none := by
  let u := (s.endJobs (HealthJob.copiesBack bank)).setUnit (bankSlot bank) fun u => { u with spare := none }
  have unit : u.countSpares.unit (bankSlot bank) = { s.unit (bankSlot bank) with spare := none } :=
    (State.unit_setUnit ..).trans (if_pos rfl)
  refine .next (exec_bankCopyBackDone_after_test back) ⟨?_, ?_, State.copyingBack_eq_none (s.endJobs_ended _)⟩
  · exact (congrArg UnitSt.spare unit).trans rfl
  · exact (congrArg UnitSt.state unit).trans rfl

theorem State.unitReturned_jobs (s : State) (slot node osn : Nat) : (s.unitReturned slot node osn).health.jobs = s.health.jobs := by
  unfold State.unitReturned
  split
  · exact State.history_jobs ..
  · rfl

theorem State.unitReturned_irq {slot : Nat} (gone : s.retired slot = true) (node osn : Nat) :
    (s.unitReturned slot node osn).flag Reg.HL_IRQ_RETURNED = true := by
  rw [State.unitReturned, if_pos gone]
  exact State.flag_raise_self _ rfl ..

section
variable (s : State) (b node osn : Nat)

theorem State.releaseSpare_unit : ((s.releaseSpare b node osn).unit (bankSlot b)).spare = none ∧
    ((s.releaseSpare b node osn).unit (bankSlot b)).state = (s.unit (bankSlot b)).state := by
  obtain ⟨q, unit⟩ := State.history_unit_num (s.setUnit (bankSlot b) fun u => { u with spare := none }) (bankSlot b) 6 0 node 0 osn
    (bankSlot b)
  rw [State.unit_setUnit, if_pos rfl] at unit
  exact ⟨(congrArg UnitSt.spare unit).trans rfl, (congrArg UnitSt.state unit).trans rfl⟩

theorem State.releaseSpare_jobs : (s.releaseSpare b node osn).health.jobs = s.health.jobs := by
  rw [State.releaseSpare, State.countSpares, State.wr_health, State.history_jobs]
  rfl

theorem State.releaseSpare_hlKept : FieldsKept hlBlock [Reg.HL_STATUS_SPARES_FREE] s (s.releaseSpare b node osn) := by
  have noted : FieldsKept hlBlock [Reg.HL_STATUS_SPARES_FREE] s
      ((s.setUnit (bankSlot b) fun u => { u with spare := none }).history (bankSlot b) 6 0 node 0 osn) :=
    (FieldsKept.refl _ _ s).of_regs (State.history_regs ..)
  exact noted.wr (f := Reg.HL_STATUS_SPARES_FREE) (by decide) _ 0 0

end

theorem bankCopyBackDone_of_return {by_ : Nat × Nat} (back : s.copyingBack bank = some (some by_)) :
    Does (.bankCopyBackDone bank) s [.fresh, .health, .regs .hl] fun t => (t.unit (bankSlot bank)).spare = none ∧
    (t.unit (bankSlot bank)).state = 0 ∧ t.rd Reg.HL_ACT_STATUS_RESULT = 0 ∧ t.copyingBack bank = none ∧
    (s.retired (bankSlot bank) = true → t.flag Reg.HL_IRQ_RETURNED = true) := by
  obtain ⟨node, osn⟩ := by_
  let u := (s.endJobs (HealthJob.copiesBack bank)).unitReturned (bankSlot bank) node osn
  obtain ⟨spare, state⟩ := u.releaseSpare_unit bank 0 0
  refine .next (exec_bankCopyBackDone_of_return back) ⟨spare, state.trans (State.unitReturned_unit ..), State.rd_wr_self .., ?_,
    fun gone => ?_⟩
  · refine State.copyingBack_eq_none fun j mem => s.endJobs_ended _ j ?_
    rwa [State.wr_health, State.releaseSpare_jobs, State.unitReturned_jobs] at mem
  · refine (congrArg (· != 0) ?_).trans (State.unitReturned_irq (s := s.endJobs (HealthJob.copiesBack bank)) gone node osn)
    exact (State.rd_wr_disjoint _ (by decide) ..).trans ((u.releaseSpare_hlKept bank 0 0).rd (by decide) (by decide) 0 0)

end

/-! The patrol scrub -/

section
variable {s : State}

/-- A pass of the scrub runs, or none does. -/
def State.setScrub (s : State) (on : Bool) : State := s.setHealth fun h => { h with scrubbing := on }

theorem scrubPass_starts (s : State) : Does (.scrubPass false) s [.health] fun t => t.health = { s.health with scrubbing := true } := by
  have e : exec (.scrubPass false) s = .next (s.setScrub true) := rfl
  exact .of e (e ▸ OutLeaves.next (State.setHealth_leaves (by decide) (.refl _ s) _)) rfl

theorem exec_scrubPass_of_idle (idle : s.health.scrubbing = false) : exec (.scrubPass true) s = .next s := by
  change execScrubPass true s = _
  rw [execScrubPass, idle]
  rfl

theorem scrubPass_finishes (runs : s.health.scrubbing = true) : Does (.scrubPass true) s [.health, .regs .hl] fun t =>
    t.health = { s.health with scrubbing := false } ∧ t.rd Reg.HL_SCRUB_PASSES = (s.rd Reg.HL_SCRUB_PASSES + 1) % 2 ^ 16 ∧
    t.flag Reg.HL_IRQ_SCRUB_DONE = true ∧ RegsBut [Reg.HL_SCRUB_PASSES.key 0 0, Reg.HL_IRQ_SCRUB_DONE.key 0 0] s t := by
  have e : exec (.scrubPass true) s = .next (((s.setScrub false).incWrap Reg.HL_SCRUB_PASSES).raise Reg.HL_IRQ_SCRUB_DONE) := by
    change execScrubPass true s = _
    rw [execScrubPass, runs]
    rfl
  exact .next e ⟨rfl, (State.rd_wr_disjoint _ (by decide) ..).trans (State.rd_wr_self ..), State.flag_raise_self _ rfl ..,
    (((RegsBut.refl _ s).of_regs (u := s.setScrub false) rfl).wr (by simp) _).wr (by simp) 1⟩

end

end Sys2Proof.Machine
end

section
/-! O39: transients, permanent faults, bank spares and the patrol scrub, one clause each. -/

namespace Sys2Proof.Machine

/-- Settles O39: a transient counts in its window or retires its unit; whatever the owning block does at a retirement keeps the record
that the health block makes of it; with no spare left the record outlasts the reset that holds the hub. -/
theorem unitFaults : Obligations.UnitFaults := by
  unfold Obligations.UnitFaults
  exact ⟨fun s slot corrected => transient_retired, fun s slot corrected => transient_counts_of_unit,
    fun s slot corrected => transient_counts_of_tile,
    fun s slot corrected second live which => transient_retires which live, subintervalRoll_does,
    fun s slot cause => permanentFault_again, fun s slot cause => permanentFault_inTest, fun s slot cause => permanentFault_retires,
    fun s slot cause live kind free spare copy recovering dip held overflow up subs => permanentFault_holds live kind
      ⟨by rwa [bankSlot_instOf kind], copy, free, recovering, up, dip, held, overflow, subs⟩,
    fun s cause => execCaskFault_of_retired, fun s cause => caskFault_does,
    fun s n bad gone => if_pos gone, fun s n live => caskReadThrough_counts live n, fun s n live => caskReadThrough_retires live n,
    fun s bank poisoned idle => exec_bankSpareCopyDone_of_idle idle poisoned,
    fun s bank poisoned k retiring copy => bankSpareCopyDone_does copy poisoned,
    fun s bank => exec_bankCopyBackDone_of_idle, fun s bank => bankCopyBackDone_after_test, fun s bank by_ => bankCopyBackDone_of_return,
    fun s => .next rfl rfl, scrubPass_starts, fun s => exec_scrubPass_of_idle, fun s => scrubPass_finishes⟩

end Sys2Proof.Machine
end
